-- ==== Sys2Proof/Word.lean ====
section
/-! DEFINITION. The word and byte types of the register aperture (R46: aligned 32-bit accesses) and of DDR-5. -/
namespace Sys2Proof

/-- A register word of BAR0: 32 bits (R46). -/
abbrev Word := BitVec 32

/-- A byte of DDR-5, of a frame or of a message. -/
abbrev Byte := BitVec 8

end Sys2Proof
end

