-- ==== Sys2Proof/Syntax.lean ====
section
/-! DEFINITION. The commands of the block: one constructor per row of the opcode table, with the operands the
spec gives the step. What only the physical world decides (an analogue measurement, the result of a signature check, a
level on a pin) is an operand (assumption 3). -/
namespace Sys2Proof

/-- A register agent (R10): a host port, the Temple, or a shuttle's microcode. -/
inductive Agent where
  | hpa
  | hpb
  | temple
  | shuttle (i : Fin 256)
  deriving DecidableEq, Repr

/-- A host port (R43). -/
inductive Port where
  | hpa
  | hpb
  deriving DecidableEq, Repr

/-- What DDR-5 training observes of one channel (R66, R68): the ranks present, its capacity in GiB, and whether a DIMM
failed. A channel without ranks is not populated. -/
structure DimmObs where
  ranks : BitVec 8
  gib : Nat
  fail : Bool
  deriving DecidableEq, Repr

/-- A blanking window of R464: what it covers. -/
inductive BlankWin where
  /-- channel defects after a reset or entry to STARTING (R94) -/
  | channel (c : Fin 64)
  /-- a transmit restart of a channel -/
  | txRestart (c : Fin 64)
  /-- the self-timed mute or the safe state, per channel -/
  | mute (c : Fin 64)
  /-- the tributary defects of a channel's endpoints (R343) -/
  | tributary (c : Fin 64)
  /-- a port after a retrain, width change or reset (R400) -/
  | port (l : Fin 32)
  /-- a rank under scrub, re-read or map-out -/
  | rank (m : Fin 8) (r : Fin 8)
  /-- a crypto engine reset or move -/
  | engine (e : Fin 16)
  /-- a block after its reset -/
  | block (n : Fin 200)
  /-- key erasure -/
  | erasure
  deriving DecidableEq, Repr

/-- A 66-bit block of a selvedge lane (R404): its sync header, and its payload with byte k at bits [8k+7:8k], bit 0 first. -/
structure SvBlock where
  sync : BitVec 2
  pay : BitVec 64
  deriving DecidableEq, Repr, Inhabited

/-- How a module management transaction ended (R97). -/
inductive ModRes where
  | done (data : Word)
  | nack
  | stuckBus
  | muxFailed
  deriving DecidableEq, Repr

/-- A downstream PLOAM message the ranging/PLOAM shuttle queues (R112, R166). -/
inductive Ploam where
  | burstProfile (p : Nat) (word0 : Word) (delim : BitVec 64)
  | assignOnuId (onu : Nat) (sn : BitVec 64)
  | rangingTime (onu eqd : Nat)
  | deactivate (onu : Nat)
  | disableSn (sn : BitVec 64)
  | enableSn (sn : BitVec 64)
  | capQuery (onu : Nat)
  | vidanInvite (nonce : Word) (startSf : Word) (pResp : Nat)
  | vidanAssign (nonce : Word) (seqIdx onu eqd prof : Nat) (grantSf : Word)
  | vidanRerange (onu : Nat) (startSf : Word) (seqIdx : Nat)
  | muteProbe (onu : Nat) (startSf : Word) (frames : Nat)
  | sealedReq (onu : Nat) (content : List Byte)
  | raw (bytes : List Byte)
  deriving DecidableEq, Repr

/-- An upstream PLOAM message of a RECEIVED burst (R133). -/
inductive UpPloam where
  | serialNumber (sn : BitVec 64)
  | registration (id : List Byte)
  | dyingGasp
  | acknowledge
  | capReport (version flags level : BitVec 8)
  | other (bytes : List Byte)
  deriving DecidableEq, Repr

/-- A delimiter match at the ADC (R123): its first bit relative to E, its distance, and the bit, relative to E, at which
preamble lock was reached (none: no lock). -/
structure MatchObs where
  pos : Int
  dist : Nat
  lockAt : Option Int
  deriving DecidableEq, Repr, Inhabited

/-- What one grant's area of a codeword releases (R131 to R136); `last` is the LF bit of an XGEM header: 0 where the frame goes on in a
further fragment; `bytes` are its payload bytes as received, encrypted where the ONU encrypts them, the tag of sealed mode after them
(R352, R358). -/
inductive CwItem where
  | dbru (g : Nat) (crcOk : Bool) (bufOcc : BitVec 24)
  | xgem (g : Nat) (port : Nat) (hecOk : Bool) (keyIdx : Nat) (last : Bool) (bytes : List Byte)
  | idle (g : Nat) (bytes : Nat)
  /-- an upstream PLOAM: it reaches the shuttle with the command UPSTREAM_PLOAM -/
  | ploam
  deriving DecidableEq, Repr

/-- A decoded codeword of a burst (R127): of the window's burst, or of its further answer `answer` from 1 (R155); whether it was correctable, what was corrected, the burst header when it is
the first codeword (HEC good, ONU-ID, dying-gasp indication), and what it releases. -/
structure CwObs where
  answer : Nat
  correctable : Bool
  corrected : Nat
  hdr : Option (Bool × Nat × Bool)
  items : List CwItem
  deriving DecidableEq, Repr

/-- What the receiver measures of a burst (R137 to R141): `energy` is the signal in ADC codes rms, `tail` how many bits it goes on past
the window's end and its level there. -/
structure BurstMeas where
  energy : Nat
  lock : Nat
  phase64 : Nat
  phase : BitVec 6
  dfe : BitVec 8
  gain : BitVec 5
  taps : List (BitVec 10)
  power : Word
  delimNs : Word
  tail : Nat × Nat
  deriving DecidableEq, Repr

/-- What the receiver measures by the end of a window: `burst` of the matched burst, `more` of the further answers of a quiet window. -/
structure WindowMeas where
  burst : BurstMeas
  more : List BurstMeas
  deriving DecidableEq, Repr

/-- Energy after a burst: for how many bits, and its level in ADC codes rms (R143). -/
structure TailMeas where
  bits : Nat
  rms : Nat
  deriving DecidableEq, Repr

/-- Energy that meets no window: its channel and its level in ADC codes rms (R143). -/
structure OowMeas where
  c : Fin 64
  rms : Nat
  deriving DecidableEq, Repr

/-- What a Capability_Report says (R166). -/
structure CapInfo where
  version : BitVec 8
  flags : BitVec 8
  level : BitVec 8
  deriving DecidableEq, Repr

/-- A channel whose second TXF error within 1 ms is due, `fifoErr` with a serializer FIFO error as one more (R92). -/
structure TxfCause where
  c : Fin 64
  fifoErr : Bool
  deriving DecidableEq, Repr

/-- Which source of a thread's results completes, 0 local memory, 1 shared memory, 2 the register aperture, 3 RND, and how:
`res` 1 corrected, 2 beyond correction (R235). -/
structure MemDone where
  src : Fin 4
  res : Fin 3
  deriving DecidableEq, Repr

/-- A correlator peak above the detection threshold (R159). -/
structure UtPeak where
  seqIdx : Fin 32
  margin : Nat
  delay : Nat
  deriving DecidableEq, Repr

/-- What became of a Vidan follow-up grant (R164, R165). -/
inductive FollowUp where
  | received (sn : BitVec 64) (arrival : Int) (ambig : Bool)
  | errored
  | absent
  | next (clean : Bool)
  deriving DecidableEq, Repr

/-- The commands: one constructor per row of spec/opcode_table.json; each docstring names the row and its rule. -/
inductive Instr where
  /-- REGISTER_WRITE (R48) -/
  | registerWrite (ag : Agent) (off : Nat) (be : Fin 16) (v : Word)
  /-- READ_LO_SNAPSHOT (R8) -/
  | readLoSnapshot (ag : Agent) (off : Nat)
  /-- WRITE_HI_HOLD (R9) -/
  | writeHiHold (ag : Agent) (off : Nat) (be : Fin 16) (v : Word)
  /-- WRITE_LO_PAIR (R9) -/
  | writeLoPair (ag : Agent) (off : Nat) (be : Fin 16) (v : Word)
  /-- SQC_WRITE_CLEAR (R54) -/
  | sqcWriteClear (ag : Agent) (off : Nat) (be : Fin 16) (v : Word)
  /-- HMW_WRITE (R52) -/
  | hmwWrite (ag : Agent) (off : Nat) (be : Fin 16) (v : Word)
  /-- INT_EN_WRITE (R61) -/
  | intEnWrite (ag : Agent) (off : Nat) (be : Fin 16) (v : Word)
  /-- IRQ_HOLDOFF_EXPIRY (R58) -/
  | irqHoldoffExpiry (n : Fin 200) (p : Port)
  /-- SEM_READ (R63) -/
  | semRead (ag : Agent) (i : Fin 256)
  /-- SEM_RELEASE (R63) -/
  | semRelease (ag : Agent) (i : Fin 256) (v : Word)
  /-- HOST_PORT_RESET (R44) -/
  | hostPortReset (p : Port)
  /-- ACCESS_TIMEOUT (R50) -/
  | accessTimeout (ag : Agent) (off : Nat) (isRead : Bool)
  /-- BAR2_ACCESS (R72) -/
  | bar2Access (p : Port) (off : Fin 68719476736) (wr : Option Byte)
  /-- HPI_WIN_WRITE (R71) -/
  | hpiWinWrite (ag : Agent) (p : Port) (v : Word)
  /-- RANK_MAP_OUT (R69) -/
  | rankMapOut (ag : Agent) (m : Fin 8) (v : Word)
  /-- DDR_TRAINING_DONE (R68) -/
  | ddrTrainingDone (obs : List DimmObs)
  /-- DDR_PERIODIC_CAL (R68) -/
  | ddrPeriodicCal
  /-- PATROL_SCRUB (R66) -/
  | patrolScrub (m : Fin 8) (ue : Bool)
  /-- AUDIT_SNAP (R36) -/
  | auditSnap (ag : Agent) (v : Word)
  /-- AUDIT_CHECKS_DONE (R39) -/
  | auditChecksDone
  /-- CHANNEL_ENABLE (R79) -/
  | channelEnable (ag : Agent) (c : Fin 64) (v : Word)
  /-- CHANNEL_DISABLE (R81) -/
  | channelDisable (ag : Agent) (c : Fin 64) (v : Word)
  /-- TX_PLL_LOCK (R78) -/
  | txPllLock (c : Fin 64)
  /-- FIRST_PSYNC (R102) -/
  | firstPsync (c : Fin 64)
  /-- STARTING_COMPLETE (R78) -/
  | startingComplete (c : Fin 64)
  /-- DRAIN_TIMEOUT (R81) -/
  | drainTimeout (c : Fin 64)
  /-- CLOSING_DONE (R81) -/
  | closingDone (c : Fin 64)
  /-- TX_SLEEP_REQUEST (R95) -/
  | txSleepRequest (ag : Agent) (c : Fin 64) (v : Word)
  /-- TX_WAKE_REQUEST (R95) -/
  | txWakeRequest (ag : Agent) (c : Fin 64) (v : Word)
  /-- RX_SLEEP_REQUEST (R95) -/
  | rxSleepRequest (ag : Agent) (c : Fin 64) (v : Word)
  /-- RX_POWERDOWN (R95) -/
  | rxPowerdown (c : Fin 64)
  /-- RX_WAKE_REQUEST (R95) -/
  | rxWakeRequest (ag : Agent) (c : Fin 64) (v : Word)
  /-- CH_LOS_RAISE (R92) -/
  | chLosRaise (c : Fin 64)
  /-- CH_LOS_CLEAR (R92) -/
  | chLosClear (c : Fin 64)
  /-- CH_LOL_RAISE (R92) -/
  | chLolRaise (c : Fin 64) (outNs : Nat)
  /-- CH_LOL_CLEAR (R92) -/
  | chLolClear (c : Fin 64) (lockUs : Nat)
  /-- CH_TXF_RAISE (R92) -/
  | chTxfRaise (x : TxfCause)
  /-- CH_TXF_CLEAR (R92) -/
  | chTxfClear (c : Fin 64)
  /-- TXDIS_READBACK_MISMATCH (R91) -/
  | txdisReadbackMismatch (c : Fin 64) (ns : Nat)
  /-- LOS_PIN_CHANGE (R90) -/
  | losPinChange (c : Fin 64) (level : Bool) (stable : Nat)
  /-- BLANKING_WINDOW_END (R464) -/
  | blankingWindowEnd (w : BlankWin)
  /-- MOD_CMD_GO (R96) -/
  | modCmdGo (ag : Agent) (c : Fin 64) (v : Word)
  /-- MOD_TRANSACTION_DONE (R97) -/
  | modTransactionDone (c : Fin 64) (res : ModRes)
  /-- MOD_STRETCH_TIMEOUT (R97) -/
  | modStretchTimeout (c : Fin 64)
  /-- PSYNC (R101) -/
  | psync (c : Fin 64) (parityFail : Bool)
  /-- MAP_SEAL (R106) -/
  | mapSeal (c : Fin 64)
  /-- SEAL_LEAD_WRITE (R107) -/
  | sealLeadWrite (ag : Agent) (c : Fin 64) (v : Word)
  /-- GRANT_WRITE (R186) -/
  | grantWrite (c : Fin 64) (w0 w1 w2 : Word)
  /-- PLOAM_WRITE (R112) -/
  | ploamWrite (c : Fin 64) (m : Ploam)
  /-- XGEM_DRAW (R114) -/
  | xgemDraw (c : Fin 64) (checkOk : Bool)
  /-- WINDOW_OPEN (R122) -/
  | windowOpen (c : Fin 64) (g : Fin 4096)
  /-- DELIMITER_QUALIFIED (R123) -/
  | delimiterQualified (c : Fin 64) (g : Fin 4096) (m : MatchObs)
  /-- BURST_CODEWORD_DECODED (R127) -/
  | burstCodewordDecoded (c : Fin 64) (g : Fin 4096) (cw : CwObs)
  /-- WINDOW_END (R128) -/
  | windowEnd (c : Fin 64) (g : Fin 4096) (m : WindowMeas)
  /-- EQ_ENTRY_WRITE (R85) -/
  | eqEntryWrite (ag : Agent) (c : Fin 64) (i : Fin 261) (w : Fin 8) (v : Word)
  /-- TAIL_ENERGY (R143) -/
  | tailEnergy (c : Fin 64) (slot : Fin 256) (m : TailMeas)
  /-- OOW_ENERGY (R143) -/
  | oowEnergy (m : OowMeas)
  /-- ONU_LOB_RAISE (R142) -/
  | onuLobRaise (c : Fin 64) (slot : Fin 256)
  /-- ONU_LODS_RAISE (R142) -/
  | onuLodsRaise (c : Fin 64) (slot : Fin 256)
  /-- ONU_DG_CLEAR (R142) -/
  | onuDgClear (c : Fin 64) (slot : Fin 256)
  /-- ONU_DRIFT_RAISE (R142) -/
  | onuDriftRaise (c : Fin 64) (slot : Fin 256)
  /-- ONU_DRIFT_CLEAR (R142) -/
  | onuDriftClear (c : Fin 64) (slot : Fin 256)
  /-- ONU_ROGUE_RAISE (R142) -/
  | onuRogueRaise (c : Fin 64) (slot : Fin 256)
  /-- ONU_ROGUE_CLEAR (R142) -/
  | onuRogueClear (c : Fin 64) (slot : Fin 256)
  /-- QUIET_WINDOW_OPEN (R154) -/
  | quietWindowOpen (c : Fin 64)
  /-- SERIAL_NUMBER_ONU (R155) -/
  | serialNumberOnu (c : Fin 64) (sn : BitVec 64)
  /-- RANGING_BURST (R151) -/
  | rangingBurst (c : Fin 64) (slot : Fin 256) (d : Nat)
  /-- UPSTREAM_PLOAM (R133) -/
  | upstreamPloam (c : Fin 64) (slot : Fin 256) (micOk : Bool) (m : UpPloam)
  /-- VIDAN_INVITE (R157) -/
  | vidanInvite (c : Fin 64)
  /-- UT_PEAKS_REPORTED (R159) -/
  | utPeaksReported (c : Fin 64) (peaks : List UtPeak)
  /-- VIDAN_FOLLOWUP_RESULT (R164) -/
  | vidanFollowupResult (c : Fin 64) (slot : Fin 256) (res : FollowUp)
  /-- CAP_REPORT (R167) -/
  | capReport (c : Fin 64) (slot : Fin 256) (info : CapInfo)
  /-- CAP_QUERY_TIMEOUT (R167) -/
  | capQueryTimeout (c : Fin 64) (slot : Fin 256)
  /-- RERANGE_RESULT (R168) -/
  | rerangeResult (c : Fin 64) (slot : Fin 256) (arrival : Option Int)
  /-- DRIFT_TRACK_BURST (R169) -/
  | driftTrackBurst (c : Fin 64) (slot : Fin 256) (arrival : Int) (lock : Nat)
  /-- DRIFT_PEND_TIMEOUT (R169) -/
  | driftPendTimeout (c : Fin 64) (slot : Fin 256)
  /-- PROFILE_RESTORE (R172) -/
  | profileRestore (c : Fin 64) (slot : Fin 256)
  /-- LOST_HOLD_EXPIRY (R173) -/
  | lostHoldExpiry (c : Fin 64) (slot : Fin 256)
  /-- DRIFT_PERSIST_TIMEOUT (R174) -/
  | driftPersistTimeout (c : Fin 64) (slot : Fin 256)
  /-- ROGUE_LOCATE_START (R176) -/
  | rogueLocateStart (c : Fin 64)
  /-- ROGUE_PROBE_END (R176) -/
  | rogueProbeEnd (c : Fin 64)
  /-- SVC_REQUEST_SUBMIT (R248) -/
  | svcRequestSubmit (ag : Agent) (k : Fin 16) (v : Word)
  /-- SVC_ANSWER (R248) -/
  | svcAnswer (k : Fin 16) (a : Fin 3) (status : BitVec 16) (res : List Word)
  /-- SVC_TIMEOUT (R248) -/
  | svcTimeout (k : Fin 16) (a : Fin 3)
  /-- ECHO (R249) -/
  | echo (k : Fin 16) (a : Fin 3)
  /-- VERSION (R249) -/
  | version (k : Fin 16) (a : Fin 3)
  /-- ONU_ENABLE (R249) -/
  | onuEnable (k : Fin 16) (a : Fin 3)
  /-- ONU_DEACTIVATE (R249) -/
  | onuDeactivate (k : Fin 16) (a : Fin 3)
  /-- ONU_RERANGE (R249) -/
  | onuRerange (k : Fin 16) (a : Fin 3)
  /-- QW_NOW (R249) -/
  | qwNow (k : Fin 16) (a : Fin 3)
  /-- SHED_STATE (R249) -/
  | shedState (k : Fin 16) (a : Fin 3)
  /-- OMCI_TX (R249) -/
  | omciTx (k : Fin 16) (a : Fin 3) (sf : Word)
  /-- OMCI_RING (R249) -/
  | omciRing (k : Fin 16) (a : Fin 3)
  /-- OMCI_RX (R249) -/
  | omciRx (k : Fin 16) (c : Fin 64) (onu : Fin 1024) (msg : List Byte) (full : Bool)
  /-- PM_CLEAR (R433) -/
  | pmClear (k : Fin 16) (a : Fin 3)
  /-- PM_ROLL (R433) -/
  | pmRoll (k : Fin 16) (a : Fin 3)
  /-- ALLOC_WRITE (R180) -/
  | allocWrite (ag : Agent) (c : Fin 64) (a : Fin 512) (i : Fin 4) (v : Word)
  /-- SHED_INPUT_ENTRY (R205) -/
  | shedInputEntry (c : Fin 64)
  /-- LEDGER_CLOSE (R191) -/
  | ledgerClose (c : Fin 64) (i : Fin 4096) (frameBits : Fin 262144)
  /-- LEDGER_FORCED_CLOSE (R29) -/
  | ledgerForcedClose (i : Fin 4096)
  /-- LEDGER_CTL_WRITE (R192) -/
  | ledgerCtlWrite (ag : Agent) (c : Fin 64) (v : Word)
  /-- SLICE_SWEEP (R206) -/
  | sliceSweep (c : Fin 64) (slice : Fin 16)
  /-- SWEEP_OVERRUN (R203) -/
  | sweepOverrun (c : Fin 64)
  /-- HINT_PDU (R213) -/
  | hintPdu (l : Fin 32) (etype : BitVec 16) (pdu : List Byte)
  /-- HINT_RECORD_SUBMIT (R214) -/
  | hintRecordSubmit (ag : Agent) (c : Fin 64) (v : Word)
  /-- SEQ_NEXT (R228) -/
  | seqNext (sh : Fin 256) (t : Fin 8) (parity : Bool)
  /-- SEQ_JMP (R228) -/
  | seqJmp (sh : Fin 256) (t : Fin 8) (parity : Bool)
  /-- SEQ_CALL (R228) -/
  | seqCall (sh : Fin 256) (t : Fin 8) (parity : Bool)
  /-- SEQ_RET (R228) -/
  | seqRet (sh : Fin 256) (t : Fin 8) (parity : Bool)
  /-- SEQ_LOOP (R228) -/
  | seqLoop (sh : Fin 256) (t : Fin 8) (parity : Bool)
  /-- SEQ_LDLOOP (R228) -/
  | seqLdloop (sh : Fin 256) (t : Fin 8) (parity : Bool)
  /-- SEQ_WAIT (R228) -/
  | seqWait (sh : Fin 256) (t : Fin 8) (parity : Bool)
  /-- WAIT_SATISFIED (R228) -/
  | waitSatisfied (sh : Fin 256) (t : Fin 8) (parity : Bool)
  /-- SEQ_YIELD (R228) -/
  | seqYield (sh : Fin 256) (t : Fin 8) (parity : Bool)
  /-- SEQ_DISP (R228) -/
  | seqDisp (sh : Fin 256) (t : Fin 8) (parity : Bool)
  /-- SEQ_DONE (R238) -/
  | seqDone (sh : Fin 256) (t : Fin 8) (parity : Bool)
  /-- SEQ_FAULT (R228) -/
  | seqFault (sh : Fin 256) (t : Fin 8) (parity : Bool)
  /-- SEQ_JMPR (R228) -/
  | seqJmpr (sh : Fin 256) (t : Fin 8) (parity : Bool)
  /-- MEM_OP_COMPLETE (R235) -/
  | memOpComplete (sh : Fin 256) (t : Fin 8) (m : MemDone)
  /-- THREAD_WATCHDOG (R239) -/
  | threadWatchdog (sh : Fin 256) (t : Fin 8)
  /-- SWAP_GO (R244) -/
  | swapGo (ag : Agent) (k : Fin 16) (v : Word)
  /-- SPARE_LOADED (R241) -/
  | spareLoaded (k : Fin 16) (ok : Bool)
  /-- SWAP_FRAME_BOUNDARY (R244) -/
  | swapFrameBoundary (k : Fin 16)
  /-- SWAP_QUIESCE_TIMEOUT (R244) -/
  | swapQuiesceTimeout (k : Fin 16)
  /-- SWAP_COMPLETE (R244) -/
  | swapComplete (k : Fin 16) (digestOk loadOk : Bool)
  /-- REFRESH_STEP (R247) -/
  | refreshStep (k : Fin 16)
  /-- DRAFT_LOAD_GO (R251) -/
  | draftLoadGo (ag : Agent) (v : Word)
  /-- DRAFT_STREAM_WRITE (R252) -/
  | draftStreamWrite (ag : Agent) (w : Fin 16384) (v : Word)
  /-- DRAFT_FETCHED (R264) -/
  | draftFetched (flash : List Word) (bad dig : Bool)
  /-- DRAFT_VERIFIED (R262) -/
  | draftVerified (sigOk : Bool) (bad : List (Fin 256))
  /-- IMAGE_CACHE_COPY (R265) -/
  | imageCacheCopy
  /-- REWEAVE_APPLY (R266) -/
  | reweaveApply (bad : List (Fin 256)) (lost : Bool)
  /-- PIPELINE_FRAME (R271) -/
  | pipelineFrame (p : Fin 8)
  /-- SECOND_PASS_REENTRY (R284) -/
  | secondPassReentry (p : Fin 8)
  /-- RULE_COMMIT (R287) -/
  | ruleCommit (ag : Agent) (v : Word)
  /-- MAC_LEARN (R295) -/
  | macLearn
  /-- MAC_MOVE (R297) -/
  | macMove
  /-- MAC_AGE_VISIT (R299) -/
  | macAgeVisit (i : Fin 1048576)
  /-- MAC_INSERT (R301) -/
  | macInsert (ag : Agent) (v : Word)
  /-- MAC_DELETE (R301) -/
  | macDelete (ag : Agent) (v : Word)
  /-- MAC_LOOKUP (R301) -/
  | macLookup (ag : Agent) (v : Word)
  /-- MAC_FLUSH (R301) -/
  | macFlush (ag : Agent) (v : Word)
  /-- MAC_FLUSH_DONE (R301) -/
  | macFlushDone
  /-- ROUTE_ADD (R304) -/
  | routeAdd (ag : Agent) (v : Word)
  /-- ROUTE_DEL (R304) -/
  | routeDel (ag : Agent) (v : Word)
  /-- ROUTE_LOOKUP (R304) -/
  | routeLookup (ag : Agent) (v : Word)
  /-- FRAME_ADMIT (R312) -/
  | frameAdmit
  /-- UPLINK_DEPARTURE (R322) -/
  | uplinkDeparture (p : Fin 32)
  /-- BUFFER_FREE (R317) -/
  | bufferFree (pool : Fin 8) (i : Nat) (who : Nat)
  /-- SPILL_HEAD_FETCH (R319) -/
  | spillHeadFetch (q : Fin 163840) (ue : Bool)
  /-- UPORT_WRITE (R311) -/
  | uportWrite (ag : Agent) (p : Fin 32) (w : Fin 2) (v : Word)
  /-- TMG_FLUSH (R324) -/
  | tmgFlush (ag : Agent) (v : Word)
  /-- TMG_FLUSH_DONE (R329) -/
  | tmgFlushDone
  /-- TRIB_CONFIG_WRITE (R332) -/
  | tribConfigWrite (ag : Agent) (t : Fin 4096) (w : Fin 8) (v : Word)
  /-- CONTAINER_RECEIVE (R336) -/
  | containerReceive
  /-- JC_DECISION (R340) -/
  | jcDecision (t : Fin 4096)
  /-- TRIB_LOC_RAISE (R341) -/
  | tribLocRaise (t : Fin 4096)
  /-- TRIB_LOC_CLEAR (R341) -/
  | tribLocClear (t : Fin 4096)
  /-- TRIB_LOM_RAISE (R341) -/
  | tribLomRaise (t : Fin 4096)
  /-- TRIB_LOM_CLEAR (R341) -/
  | tribLomClear (t : Fin 4096)
  /-- TRIB_AIS_RAISE (R341) -/
  | tribAisRaise (t : Fin 4096)
  /-- TRIB_AIS_CLEAR (R341) -/
  | tribAisClear (t : Fin 4096)
  /-- TRIB_LOP_RAISE (R338) -/
  | tribLopRaise (t : Fin 4096)
  /-- TRIB_PJE_WINDOW (R341) -/
  | tribPjeWindow (t : Fin 4096)
  /-- TSI_FRAME (R345) -/
  | tsiFrame
  /-- CM_SWITCH (R346) -/
  | cmSwitch (ag : Agent) (v : Word)
  /-- CM_COPY (R346) -/
  | cmCopy (ag : Agent) (v : Word)
  /-- CM_COPY_DONE (R347) -/
  | cmCopyDone
  /-- PW_PACKET_RECEIVE (R349) -/
  | pwPacketReceive
  /-- TRIB_PM_SECOND (R351) -/
  | tribPmSecond (t : Fin 4096)
  /-- BLOB_UNWRAP (R356) -/
  | blobUnwrap (ag : Agent) (v : Word)
  /-- BLOB_RESULT (R356) -/
  | blobResult (who : Nat) (plain : Option (List Byte))
  /-- SLOT_CLR (R357) -/
  | slotClr (ag : Agent) (v : Word)
  /-- SEAL_REQ (R361) -/
  | sealReq (ag : Agent) (c : Fin 64) (i : Fin 256) (v : Word)
  /-- SEALED_KEY (R360) -/
  | sealedKey (c : Fin 64) (slot : Fin 256) (part : Fin 2) (idx : Fin 256) (data : List Byte)
  /-- SEALED_ACK (R360) -/
  | sealedAck (c : Fin 64) (slot : Fin 256) (idx action result : Fin 256)
  /-- SEAL_SWITCH (R361) -/
  | sealSwitch (c : Fin 64) (slot : Fin 256)
  /-- SEAL_TIMEOUT (R361) -/
  | sealTimeout (c : Fin 64) (slot : Fin 256)
  /-- ENTROPY_FAIL (R365) -/
  | entropyFail
  /-- ENTROPY_RETEST (R365) -/
  | entropyRetest (pass : Bool)
  /-- NONCE_READ (R366) -/
  | nonceRead (ag : Agent)
  /-- ENROL_GO (R366) -/
  | enrolGo (ag : Agent) (v : Word)
  /-- ENROL_DONE (R367) -/
  | enrolDone (sigOk : Bool) (nonce : List Word) (sign wrap : List Word)
  /-- SECURITY_ALARM (R368) -/
  | securityAlarm (src : Fin 8)
  /-- CRY_ERASE (R368) -/
  | cryErase (ag : Agent) (v : Word)
  /-- DBG_CHAL (R370) -/
  | dbgChal
  /-- DBG_RESP (R370) -/
  | dbgResp (sigOk : Bool)
  /-- PPS_IN_EDGE (R388) -/
  | ppsInEdge (i : Fin 2) (rising : Bool) (sub : Fin 16)
  /-- PTP_OFS_WRITE (R377) -/
  | ptpOfsWrite (ag : Agent) (v : Word)
  /-- SERVO_HOLDOVER (R377) -/
  | servoHoldover
  /-- TIME_STEP (R379) -/
  | timeStep (ag : Agent) (v : Word)
  /-- TIME_NOW_READ (R374) -/
  | timeNowRead (ag : Agent)
  /-- TS_FIFO_POP (R383) -/
  | tsFifoPop (ag : Agent) (tx : Bool)
  /-- PTP_TX_GO (R384) -/
  | ptpTxGo (ag : Agent) (v : Word)
  /-- PTP_TX_SEND (R384) -/
  | ptpTxSend (ag : Agent) (sub : Fin 16)
  /-- TOD_UPDATE (R386) -/
  | todUpdate
  /-- TRIGGER_ARM (R389) -/
  | triggerArm (ag : Agent) (j : Fin 32) (v : Word)
  /-- TRIGGER_FIRE (R390) -/
  | triggerFire (j : Fin 32)
  /-- PULSE_END (R391) -/
  | pulseEnd (pin : Fin 34)
  /-- PORT_ENABLE (R395) -/
  | portEnable (ag : Agent) (l : Fin 32) (v : Word)
  /-- PORT_DISABLE (R396) -/
  | portDisable (ag : Agent) (l : Fin 32) (v : Word)
  /-- PORT_UP (R398) -/
  | portUp (p : Fin 32)
  /-- HSL_LOS_RAISE (R399) -/
  | hslLosRaise (l : Fin 32) (us : Nat)
  /-- HSL_LOS_CLEAR (R399) -/
  | hslLosClear (l : Fin 32) (ms : Nat)
  /-- HSL_LOL_RAISE (R399) -/
  | hslLolRaise (l : Fin 32)
  /-- HSL_LOL_CLEAR (R399) -/
  | hslLolClear (l : Fin 32)
  /-- LOAM_RAISE (R399) -/
  | loamRaise (l : Fin 32)
  /-- LOAM_CLEAR (R399) -/
  | loamClear (l : Fin 32)
  /-- UPLINK_FRAME_RECEIVE (R397) -/
  | uplinkFrameReceive (p : Fin 32) (bytes : List Byte) (fcsOk : Bool) (corr uncorr : Nat) (sub : Fin 16)
  /-- TX_LPI_ENTER (R401) -/
  | txLpiEnter (p : Fin 32) (us : Nat)
  /-- RX_LPI_SIGNAL (R401) -/
  | rxLpiSignal (p : Fin 32) (enter : Bool)
  /-- SV_ALIGNMENT_MARKER (R405) -/
  | svAlignmentMarker (i : Fin 4) (b : List Byte) (onTime : Bool)
  /-- SV_MARKER_LOSS (R405) -/
  | svMarkerLoss (i : Fin 4)
  /-- HEARTBEAT_RX (R409) -/
  | heartbeatRx (lane : Fin 4) (prev : BitVec 58) (block : SvBlock)
  /-- HB_PIN_WORD (R408) -/
  | hbPinWord (w : BitVec 8)
  /-- HEARTBEAT_TX (R409) -/
  | heartbeatTx
  /-- HB_ALIVE_TIMEOUT (R409) -/
  | hbAliveTimeout (pin : Bool)
  /-- SV_MESSAGE (R406) -/
  | svMessage (first : Fin 4) (prev : List (BitVec 58)) (blocks : List SvBlock)
  /-- SLV_MBX_SEND (R411) -/
  | slvMbxSend (ag : Agent) (v : Word)
  /-- SLV_MBX_POP (R411) -/
  | slvMbxPop (ag : Agent) (v : Word)
  /-- BOLT_RECORD (R414) -/
  | boltRecord (cls : Fin 7) (r : List Word)
  /-- COAL_FLUSH (R416) -/
  | coalFlush (k : Fin 256)
  /-- BOLT_RECORD_WRITTEN (R419) -/
  | boltRecordWritten
  /-- ALARM_SRAM_COPY (R417) -/
  | alarmSramCopy
  /-- CUT_FREEZE (R425) -/
  | cutFreeze (ag : Agent) (v : Word)
  /-- CUT_RELEASE (R428) -/
  | cutRelease (ag : Agent) (v : Word)
  /-- CUT_POST_END (R425) -/
  | cutPostEnd (j : Fin 8)
  /-- SUMMARY_SECOND (R424) -/
  | summarySecond
  /-- SUMMARY_CONDENSE (R424) -/
  | summaryCondense
  /-- SUMMARY_LATE (R424) -/
  | summaryLate
  /-- COUNTER_DUMP (R439) -/
  | counterDump (ag : Agent) (v : Word)
  /-- DUMP_IMAGE_WRITTEN (R441) -/
  | dumpImageWritten
  /-- TAG_COMPLETE (R445) -/
  | tagComplete (k : Fin 16) (ready latency : Nat)
  /-- TAG_FIFO_POP (R446) -/
  | tagFifoPop (ag : Agent) (k : Fin 16)
  /-- BW_WINDOW_END (R447) -/
  | bwWindowEnd (c : Fin 64)
  /-- FAULT_EVENT (R452) -/
  | faultEvent (k : Fin 64) (u : Fin 632) (inj : Bool)
  /-- TX_RESTART_DONE (R450) -/
  | txRestartDone (c : Fin 64) (locked : Bool)
  /-- CORE_HEARTBEAT_TIMEOUT (R450) -/
  | coreHeartbeatTimeout
  /-- SAFE_CAUSE_CLEAR (R459) -/
  | safeCauseClear (k : Fin 64)
  /-- SAFE_QUIET_EXPIRY (R460) -/
  | safeQuietExpiry
  /-- SAFE_ENTER (R450) -/
  | safeEnter (ag : Agent) (v : Word)
  /-- SAFE_EXIT (R461) -/
  | safeExit (ag : Agent) (v : Word)
  /-- SAFE_PIN (R450) -/
  | safePin (low : Bool)
  /-- REACT_WRITE (R455) -/
  | reactWrite (ag : Agent) (k : Fin 64) (v : Word)
  /-- REACT_RELOAD_DONE (R456) -/
  | reactReloadDone (fromRom : Bool)
  /-- INJECT_ARM (R466) -/
  | injectArm (ag : Agent) (v : Word)
  /-- REF_GATE_END (R471) -/
  | refGateEnd (counts : List (Fin 3 × Fin 3 × Nat))
  /-- REF_LOST (R472) -/
  | refLost (x : Fin 3)
  /-- REF_PRESENT (R472) -/
  | refPresent (x : Fin 3)
  /-- REF_REVERT (R474) -/
  | refRevert
  /-- COAST_CLEAR (R477) -/
  | coastClear
  /-- PLL_LOCK (R477) -/
  | pllLock (p : Fin 23)
  /-- PLL_LOSS_OF_LOCK (R478) -/
  | pllLossOfLock (p : Fin 23)
  /-- MUX_HANG (R480) -/
  | muxHang (p : Fin 23)
  /-- CLOCK_GATE (R482) -/
  | clockGate (ag : Agent) (n : Fin 200) (v : Word)
  /-- GATE_FORCE_TIMEOUT (R482) -/
  | gateForceTimeout (n : Fin 200)
  /-- CLOCK_UNGATE (R482) -/
  | clockUngate (ag : Agent) (n : Fin 200) (v : Word)
  /-- BLOCK_RESET (R484) -/
  | blockReset (ag : Agent) (v : Word)
  /-- PORST (R483) -/
  | porst
  /-- SRST (R483) -/
  | srst
  /-- BLOCKS_RELEASE (R483) -/
  | blocksRelease
  /-- VDD_TMP_LOSS (R525) -/
  | vddTmpLoss
  /-- AVS_PERIOD (R487) -/
  | avsPeriod (need : List Nat)
  /-- AVS_MARGIN_ALARM (R487) -/
  | avsMarginAlarm (r : Fin 5)
  /-- PMBUS_TRANSACTION (R488) -/
  | pmbusTransaction (r : Fin 10) (ok : Bool) (iout : Option Word)
  /-- CLUSTER_FREQ_PERIOD (R490) -/
  | clusterFreqPeriod (busy : List (Nat × Nat))
  /-- CLUSTER_FREQ_CHANGE (R491) -/
  | clusterFreqChange (k : Fin 16)
  /-- CLUSTER_GATE (R492) -/
  | clusterGate (ag : Agent) (k : Fin 16) (v : Word)
  /-- CLUSTER_UNGATE (R493) -/
  | clusterUngate (ag : Agent) (k : Fin 16) (v : Word)
  /-- SELF_REFRESH_REQUEST (R494) -/
  | selfRefreshRequest (ag : Agent) (v : Word)
  /-- SELF_REFRESH_EXIT (R494) -/
  | selfRefreshExit (ag : Agent) (v : Word)
  /-- THERMAL_SAMPLE (R496) -/
  | thermalSample (t : List Int)
  /-- THROTTLE_STEP (R496) -/
  | throttleStep
  /-- WATCH_TRIP (R498) -/
  | watchTrip (e : Fin 64) (out : Bool) (n : Nat)
  /-- PROT_ENABLE (R500) -/
  | protEnable (ag : Agent) (v : Word)
  /-- PROT_DISABLE (R501) -/
  | protDisable (ag : Agent) (v : Word)
  /-- SELF_MUTE (R502) -/
  | selfMute
  /-- TAKEOVER (R503) -/
  | takeover
  /-- CLAIM_END (R504) -/
  | claimEnd
  /-- PROT_RECORD_SEND (R509) -/
  | protRecordSend (mt : Fin 64) (keys : List Nat)
  /-- STANDBY_SELFTEST (R510) -/
  | standbySelftest (loop : BitVec 64) (bist : Bool)
  /-- HEALTH_REPORT (R511) -/
  | healthReport
  /-- PROT_SWITCH (R513) -/
  | protSwitch (ag : Agent) (v : Word)
  /-- HANDOVER_EXECUTE (R513) -/
  | handoverExecute
  /-- HANDOVER_TIMEOUT (R513) -/
  | handoverTimeout
  /-- PROT_TAKE (R513) -/
  | protTake (ag : Agent) (v : Word)
  /-- IPROT_SWITCH (R515) -/
  | iprotSwitch (j : Fin 16) (w : Option (Agent × Word))
  /-- HOST_LINK_UP (R45) -/
  | hostLinkUp (p : Port)
  /-- THREAD_TIMER_EXPIRY (R234) -/
  | threadTimerExpiry (sh : Fin 256) (t : Fin 8)
  /-- BUS_INTERFACE_IDLE (R50) -/
  | busInterfaceIdle (n : Fin 200)
  /-- SELF_REFRESH_ENTERED (R494) -/
  | selfRefreshEntered
  /-- RESET_RELEASE (R483) -/
  | resetRelease
  /-- FAULT_LOG_POP (R452) -/
  | faultLogPop (ag : Agent)
  /-- PPS_IN_READ (R388) -/
  | ppsInRead (ag : Agent) (i : Fin 2)
  deriving DecidableEq, Repr

end Sys2Proof
end

