-- ==== Sys2Proof/Decode.lean ====
section
/-! DEFINITION. The commands that a word spells. No row of spec/opcode_table.json gives bits (every "fields" list is
empty), so no word spells a command. -/
namespace Sys2Proof

/-- The command that an `nbits`-bit word spells by the table's bits: none, because the table gives no row bits. -/
def decodeTableWord (_nbits _w : Nat) : Option Instr := none

end Sys2Proof
end

