-- ==== Sys2Proof/Config.lean ====
section
/-! DEFINITION. The free values: constants without a body, for what the spec leaves without a value. A step that
needs one applies it to the counter `fresh` of the state (assumption 1), so no proof can see a value of it. -/
namespace Sys2Proof.Config

/-- A free 32-bit word: random draws of the entropy source, nonces, and every value the spec does not state. -/
opaque freeWord : Nat → Word

/-- A free natural number. -/
opaque freeNat : Nat → Nat

/-- Which of the populated ranks of its DDR-5 channel a 4 KiB granule of the DPA space lies in, modulo their number (R67 gives the
interleave across channels, not which rank takes a granule). -/
opaque granuleRank : Nat → Nat

/-- The digest of the Svaora key that is fused into the die, by word (R262). -/
opaque svaoraKey : Nat → Word

/-- The public identity key of the die, by word (R366: CRY_ID_PUB). -/
opaque idPub : Nat → Word

/-- The checker map of the stepping (R466: TMP_CHK_MAP). -/
opaque chkMap : Nat → Word

/-- The offset from a shuttle's BAR0 base of a thread's timer register: R234 gives it no address. -/
opaque timerReg : Nat → Nat

/-- AES-CMAC as the PON standards specify it (R352): the MIC of 40 message bytes under an integrity key, 64 bits. -/
opaque mic : BitVec 256 → List Byte → BitVec 64

/-- The standards' default PLOAM integrity key (R352). -/
opaque defaultIk : BitVec 256

/-- Byte `i` of the key stream of counter mode (R115, R352): key, the frame's superframe counter, the position of the XGEM frame in the
frame, i. The standards define the counter block. -/
opaque ctrStream : BitVec 256 → Nat → Nat → Nat → Byte

/-- The same upstream (R352): key, the superframe counter of the upstream frame, where its burst begins in bits, the place of the XGEM frame
in the burst in bytes, i. -/
opaque ctrStreamUp : BitVec 256 → Nat → Nat → Nat → Nat → Byte

/-- The keys that the standards derive from an MSK (R352, R355): the MSK, the ONU as 256 × channel + slot, 0 PLOAM_IK, 1 OMCI_IK, 2 KEK. -/
opaque derivedKey : BitVec 256 → Nat → Nat → BitVec 256

/-- Byte `i` of the key stream of AES-256-GCM (R358): key, nonce, i. -/
opaque gcmStream : BitVec 256 → Nat → Nat → Byte

/-- Byte `i` of the tag of AES-256-GCM (R358): key, nonce, additional data, ciphertext, i. -/
opaque gcmTag : BitVec 256 → Nat → List Byte → List Byte → Nat → Byte

/-- Byte `i` of the parity of a downstream codeword (R99): mode, information bytes, i. The standards define the codes. -/
opaque dsParity : Nat → List Byte → Nat → Byte

/-- The 51 bits of the PON-ID or operation control structure of a channel's PSBd (R98): the spec gives no value. -/
opaque ponId : Nat → Nat

end Sys2Proof.Config
end

