-- ==== Sys2Proof/Machine/Tab.lean ====
section
/-! DEFINITION. Sparse tables: a list of (key, value) pairs in one canonical form. Every array of the device
(registers, queues, slots, bytes of memory) is such a table. -/
namespace Sys2Proof.Machine

/-- A sparse table: keys strictly rising, and no entry equal to what an unlisted key reads as. -/
abbrev Tab (α : Type) := List (Nat × α)

/-- Read one key; an unlisted key reads as `d`. -/
def tget {α : Type} (d : α) : Tab α → Nat → α
  | [], _ => d
  | (k', v) :: t, k => if k' = k then v else tget d t k

/-- Put an entry at its place in the rising order. -/
def tins {α : Type} : Tab α → Nat → α → Tab α
  | [], k, v => [(k, v)]
  | (k', v') :: t, k, v =>
    if k < k' then (k, v) :: (k', v') :: t
    else if k' = k then (k, v) :: t
    else (k', v') :: tins t k v

/-- Remove a key. -/
def tdel {α : Type} : Tab α → Nat → Tab α
  | [], _ => []
  | (k', v') :: t, k => if k' = k then tdel t k else (k', v') :: tdel t k

/-- Write one key, keeping the canonical form: writing `d` removes the entry. -/
def tset {α : Type} [DecidableEq α] (d : α) (t : Tab α) (k : Nat) (v : α) : Tab α :=
  if v = d then tdel t k else tins t k v

/-- Keys strictly rising, all above `lo`. -/
def risingFrom {α : Type} : Nat → Tab α → Bool
  | _, [] => true
  | lo, (k, _) :: t => decide (lo ≤ k) && risingFrom (k + 1) t

/-- The canonical form: rising keys, and no entry that an unlisted key would read the same as. -/
def twf {α : Type} [DecidableEq α] (d : Nat → α) (t : Tab α) : Bool :=
  risingFrom 0 t && t.all (fun e => decide (e.2 ≠ d e.1))

/-- Read a table whose unlisted keys read as the type's zero value. -/
def Tab.look {α : Type} [Inhabited α] (t : Tab α) (k : Nat) : α := tget default t k

/-- Write a table whose unlisted keys read as the type's zero value. -/
def Tab.put {α : Type} [DecidableEq α] [Inhabited α] (t : Tab α) (k : Nat) (v : α) : Tab α := tset default t k v

/-- Change one entry. -/
def Tab.upd {α : Type} [DecidableEq α] [Inhabited α] (t : Tab α) (k : Nat) (f : α → α) : Tab α :=
  t.put k (f (t.look k))

/-- Drop every entry whose key satisfies `p`. -/
def Tab.drop {α : Type} (t : Tab α) (p : Nat → Bool) : Tab α := t.filter (fun e => !p e.1)

end Sys2Proof.Machine
end

