-- ==== Sys2Proof/Machine/Bits.lean ====
section
/-! DEFINITION. Bit fields of register words, and the signed and modular arithmetic the chapters use. -/
namespace Sys2Proof.Machine

/-- A field of a register: the word of the register it stands in, its lowest bit and its width. -/
structure Fld where
  word : Nat
  lo : Nat
  w : Nat
  deriving DecidableEq, Repr

/-- The value of bits [lo+w-1:lo] of a word. -/
def bget (x : Word) (lo w : Nat) : Nat := x.toNat / 2 ^ lo % 2 ^ w

/-- A word with bits [lo+w-1:lo] replaced by `v` modulo 2^w. -/
def bset (x : Word) (lo w v : Nat) : Word :=
  BitVec.ofNat 32 (x.toNat % 2 ^ lo + v % 2 ^ w * 2 ^ lo + x.toNat / 2 ^ (lo + w) * 2 ^ (lo + w))

/-- A number as a word, modulo 2^32. -/
def word (n : Nat) : Word := BitVec.ofNat 32 n

/-- Bit `i` of a number. -/
def bit (n i : Nat) : Bool := n.testBit i

/-- A number with bit `i` set or cleared. -/
def setBit (n i : Nat) (b : Bool) : Nat :=
  if n.testBit i = b then n else if b then n + 2 ^ i else n - 2 ^ i

/-- A Bool as a field value. -/
def b2n (b : Bool) : Nat := if b then 1 else 0

/-- The low `w` bits of `n` read as a signed number. -/
def sext (w n : Nat) : Int := if n % 2 ^ w < 2 ^ (w - 1) then (n % 2 ^ w : Nat) else (n % 2 ^ w : Nat) - (2 ^ w : Nat)

/-- A signed number as `w` bits. -/
def toBits (w : Nat) (i : Int) : Nat := (i % ((2 ^ w : Nat) : Int)).toNat

/-- Keep a signed number within ± m. -/
def clampI (m i : Int) : Int := if i < -m then -m else if m < i then m else i

/-- A field whose 0 acts as 1. -/
def atLeast1 (n : Nat) : Nat := max n 1

/-- Keep a number within [lo, hi]. -/
def clampN (lo hi n : Nat) : Nat := if n < lo then lo else if hi < n then hi else n

/-- The bytes of a word, least significant first. -/
def wordBytes (x : Word) : List Byte :=
  [BitVec.ofNat 8 (bget x 0 8), BitVec.ofNat 8 (bget x 8 8), BitVec.ofNat 8 (bget x 16 8), BitVec.ofNat 8 (bget x 24 8)]

/-- `n` bytes of a number, most significant first. -/
def beBytes : Nat → Nat → List Byte
  | 0, _ => []
  | n + 1, v => beBytes n (v / 256) ++ [BitVec.ofNat 8 v]

/-- A number from bytes, most significant first. -/
def beNat (l : List Byte) : Nat := l.foldl (fun a b => a * 256 + b.toNat) 0

/-- A number from bytes, least significant first. -/
def leNat (l : List Byte) : Nat := l.foldr (fun b a => a * 256 + b.toNat) 0

/-- One bit of a reflected CRC with polynomial `p`. -/
def crcBit (p x : BitVec 32) : BitVec 32 := if x.getLsbD 0 then (x >>> 1) ^^^ p else x >>> 1

/-- One byte of a reflected CRC. -/
def crcByte (p x : BitVec 32) (b : BitVec 8) : BitVec 32 :=
  (List.range 8).foldl (fun y _ => crcBit p y) (x ^^^ BitVec.ofNat 32 b.toNat)

/-- A reflected 32-bit CRC, all ones at the start and XORed with all ones at the end. -/
def crcOf (p : BitVec 32) (l : List (BitVec 8)) : BitVec 32 := l.foldl (crcByte p) 0xFFFFFFFF ^^^ 0xFFFFFFFF

/-- CRC-32 of IEEE 802.3 (R158). -/
def crc32 (l : List (BitVec 8)) : BitVec 32 := crcOf 0xEDB88320 l

/-- CRC-32C (R293). -/
def crc32c (l : List (BitVec 8)) : BitVec 32 := crcOf 0x82F63B78 l

end Sys2Proof.Machine
end

