-- ==== Sys2Proof/Machine/Regs.lean ====
section
/-! DEFINITION. The register map of BAR0, from the register tables of spec/ (the chapter and rule stand beside each
register): where each register lies, its fields, what a write may change in it and what it holds at reset. -/
namespace Sys2Proof.Machine

/-- One word of a register or of an array of registers.
`rw` are the bits a write replaces (RW, WO and LIV fields), `sqc` its event bits, `wo` the bits that read 0,
`hmw` whether [31:16] select the bits of [15:0] that a write changes (R52); `pair` is 1 for a _LO word and 2 for a
_HI word of a 64-bit pair (R8, R9); `agent` whether each agent has its own copy. -/
structure RegFam where
  base : Nat
  dims : List (Nat × Nat) := []
  rst : Nat := 0
  rw : Nat := 0
  sqc : Nat := 0
  wo : Nat := 0
  hmw : Bool := false
  pair : Nat := 0
  agent : Bool := false
  idx : List (Nat × Nat) := []
  deriving DecidableEq, Repr

/-- 00 R6 -/
def GLB_ID : Nat := 0x0
def GLB_ID_PART : Fld := ⟨0, 16, 16⟩
def GLB_ID_STEP : Fld := ⟨0, 8, 8⟩
/-- 00 R6 -/
def GLB_PARAM0 : Nat := 0x10
def GLB_PARAM0_UPLINK_LANES : Fld := ⟨0, 24, 8⟩
def GLB_PARAM0_SHU_PER_CLUSTER : Fld := ⟨0, 16, 8⟩
def GLB_PARAM0_CLUSTERS : Fld := ⟨0, 8, 8⟩
def GLB_PARAM0_CHANNELS : Fld := ⟨0, 0, 8⟩
/-- 00 R6 -/
def GLB_PARAM1 : Nat := 0x14
def GLB_PARAM1_ONU_PER_CHANNEL : Fld := ⟨0, 20, 12⟩
def GLB_PARAM1_BUFFER_MIB : Fld := ⟨0, 8, 12⟩
def GLB_PARAM1_PIPELINES : Fld := ⟨0, 4, 4⟩
def GLB_PARAM1_DDR_CHANNELS : Fld := ⟨0, 0, 4⟩
/-- 00 R6 -/
def GLB_PARAM2 : Nat := 0x18
def GLB_PARAM2_DS_QUEUES_PER_CHANNEL : Fld := ⟨0, 16, 16⟩
def GLB_PARAM2_TRIBUTARIES : Fld := ⟨0, 0, 16⟩
/-- 01 R40 -/
def PMC_AUDIT_CTL : Nat := 0x8000100
def PMC_AUDIT_CTL_SNAP : Fld := ⟨0, 0, 1⟩
/-- 01 R40 -/
def PMC_AUDIT_STATUS : Nat := 0x8000104
def PMC_AUDIT_STATUS_SEQ : Fld := ⟨0, 24, 8⟩
def PMC_AUDIT_STATUS_SNAP_SEQ : Fld := ⟨0, 16, 8⟩
def PMC_AUDIT_STATUS_BUSY : Fld := ⟨0, 7, 1⟩
def PMC_AUDIT_STATUS_VOID : Fld := ⟨0, 6, 1⟩
def PMC_AUDIT_STATUS_FAIL : Fld := ⟨0, 0, 5⟩
/-- 01 R40 -/
def PMC_AUDIT_RESULT (j : Nat) : Nat := 0x8000110 + j * 0x4
def PMC_AUDIT_RESULT_MISMATCHES : Fld := ⟨0, 20, 12⟩
def PMC_AUDIT_RESULT_FIRST : Fld := ⟨0, 0, 20⟩
/-- 01 R40 -/
def TMP_LEDGER_EPOCH : Nat := 0x400080
def TMP_LEDGER_EPOCH_EPOCH : Fld := ⟨0, 0, 16⟩
/-- 01 R40 -/
def SHD_LEDGER_STATE (c : Nat) : Nat := 0x2003038 + c * 0x40000
def SHD_LEDGER_STATE_LATE : Fld := ⟨0, 13, 1⟩
def SHD_LEDGER_STATE_OPEN : Fld := ⟨0, 0, 13⟩
/-- 01 R42 -/
def PMC_AUD_LOOP (i : Nat) : Nat := 0xa800000 + i * 0x10
def PMC_AUD_LOOP_SENDER : Fld := ⟨0, 24, 8⟩
def PMC_AUD_LOOP_RECEIVER : Fld := ⟨0, 16, 8⟩
def PMC_AUD_LOOP_SIZE : Fld := ⟨0, 0, 16⟩
def PMC_AUD_LOOP_AVAIL : Fld := ⟨1, 0, 16⟩
def PMC_AUD_LOOP_TRANSIT : Fld := ⟨2, 0, 16⟩
def PMC_AUD_LOOP_HELD : Fld := ⟨3, 0, 16⟩
/-- 02 R60 -/
def HPI_IRQ_ROUTE (n : Nat) : Nat := 0x100400 + n * 0x4
def HPI_IRQ_ROUTE_HPA_EN : Fld := ⟨0, 31, 1⟩
def HPI_IRQ_ROUTE_HPB_EN : Fld := ⟨0, 30, 1⟩
def HPI_IRQ_ROUTE_VECTOR : Fld := ⟨0, 16, 11⟩
def HPI_IRQ_ROUTE_HOLDOFF : Fld := ⟨0, 0, 16⟩
/-- 02 R60 -/
def HPI_IRQ_SUMMARY (j : Nat) : Nat := 0x100040 + j * 0x4
def HPI_IRQ_SUMMARY_ASSERTED : Fld := ⟨0, 0, 32⟩
/-- 02 R61 -/
def HPI_ERR : Nat := 0x100010
def HPI_ERR_SEQ : Fld := ⟨0, 24, 8⟩
def HPI_ERR_SEM_FOREIGN : Fld := ⟨0, 6, 1⟩
def HPI_ERR_WIN_PROT : Fld := ⟨0, 5, 1⟩
def HPI_ERR_WIN_RANGE : Fld := ⟨0, 4, 1⟩
def HPI_ERR_UNMAPPED : Fld := ⟨0, 3, 1⟩
def HPI_ERR_PARTIAL : Fld := ⟨0, 2, 1⟩
def HPI_ERR_TIMEOUT : Fld := ⟨0, 0, 1⟩
/-- 02 R63 -/
def HPI_SEM (i : Nat) : Nat := 0x101000 + i * 0x4
def HPI_SEM_ACQUIRED : Fld := ⟨0, 8, 1⟩
def HPI_SEM_OWNER : Fld := ⟨0, 0, 3⟩
/-- 02 R69 -/
def MEM_STATUS (m : Nat) : Nat := 0x7000000 + m * 0x100000
def MEM_STATUS_SEQ : Fld := ⟨0, 24, 8⟩
def MEM_STATUS_RANKS_MAPPED_OUT : Fld := ⟨0, 16, 8⟩
def MEM_STATUS_RANKS_PRESENT : Fld := ⟨0, 8, 8⟩
def MEM_STATUS_SELF_REFRESH : Fld := ⟨0, 3, 1⟩
def MEM_STATUS_UE : Fld := ⟨0, 2, 1⟩
def MEM_STATUS_TRAIN_FAIL : Fld := ⟨0, 1, 1⟩
def MEM_STATUS_TRAINED : Fld := ⟨0, 0, 1⟩
/-- 02 R69 -/
def MEM_RANK_MAP (m : Nat) : Nat := 0x7000010 + m * 0x100000
def MEM_RANK_MAP_MASK : Fld := ⟨0, 16, 8⟩
def MEM_RANK_MAP_MAP_OUT : Fld := ⟨0, 0, 8⟩
/-- 02 R72 -/
def HPI_WIN (p : Nat) : Nat := 0x100020 + p * 0x4
def HPI_WIN_GRANULE : Fld := ⟨0, 0, 12⟩
/-- 03 R538 -/
def PCH_CTL (c : Nat) : Nat := 0x1030000 + c * 0x40000
def PCH_CTL_ENABLE : Fld := ⟨0, 31, 1⟩
def PCH_CTL_DISABLE_MODE : Fld := ⟨0, 30, 1⟩
def PCH_CTL_REF_OVR : Fld := ⟨0, 29, 1⟩
def PCH_CTL_PAIR : Fld := ⟨0, 28, 1⟩
def PCH_CTL_DRAIN_MS : Fld := ⟨0, 24, 4⟩
def PCH_CTL_TX_ON_FRAMES : Fld := ⟨0, 20, 4⟩
def PCH_CTL_US_RATE : Fld := ⟨0, 18, 2⟩
def PCH_CTL_MODE : Fld := ⟨0, 0, 3⟩
/-- 03 R538 -/
def PCH_STATUS (c : Nat) : Nat := 0x1030004 + c * 0x40000
def PCH_STATUS_STATE : Fld := ⟨0, 29, 3⟩
def PCH_STATUS_TX_ASLEEP : Fld := ⟨0, 28, 1⟩
def PCH_STATUS_RX_ASLEEP : Fld := ⟨0, 27, 1⟩
def PCH_STATUS_TX_MUTED : Fld := ⟨0, 26, 1⟩
def PCH_STATUS_SLEEP_REFUSED : Fld := ⟨0, 25, 1⟩
def PCH_STATUS_CFG_ERR : Fld := ⟨0, 16, 4⟩
/-- 03 R82 -/
def PCH_TXLANE (c : Nat) : Nat := 0x1030030 + c * 0x40000
def PCH_TXLANE_INVERT : Fld := ⟨0, 31, 1⟩
def PCH_TXLANE_PRE : Fld := ⟨0, 16, 6⟩
def PCH_TXLANE_MAIN : Fld := ⟨0, 8, 6⟩
def PCH_TXLANE_POST : Fld := ⟨0, 0, 6⟩
/-- 03 R87 -/
def PCH_EQ (c i : Nat) : Nat := 0x1018000 + c * 0x40000 + i * 0x20
def PCH_EQ_VALID : Fld := ⟨0, 31, 1⟩
def PCH_EQ_STALE : Fld := ⟨0, 30, 1⟩
def PCH_EQ_PHASE : Fld := ⟨0, 24, 6⟩
def PCH_EQ_DFE : Fld := ⟨0, 16, 8⟩
def PCH_EQ_GAIN : Fld := ⟨0, 11, 5⟩
def PCH_EQ_T0 : Fld := ⟨1, 20, 10⟩
def PCH_EQ_T1 : Fld := ⟨1, 10, 10⟩
def PCH_EQ_T2 : Fld := ⟨1, 0, 10⟩
def PCH_EQ_T3 : Fld := ⟨2, 20, 10⟩
def PCH_EQ_T4 : Fld := ⟨2, 10, 10⟩
def PCH_EQ_T5 : Fld := ⟨2, 0, 10⟩
def PCH_EQ_T6 : Fld := ⟨3, 20, 10⟩
def PCH_EQ_T7 : Fld := ⟨3, 10, 10⟩
def PCH_EQ_T8 : Fld := ⟨3, 0, 10⟩
def PCH_EQ_T9 : Fld := ⟨4, 20, 10⟩
def PCH_EQ_T10 : Fld := ⟨4, 10, 10⟩
def PCH_EQ_T11 : Fld := ⟨4, 0, 10⟩
def PCH_EQ_T12 : Fld := ⟨5, 20, 10⟩
def PCH_EQ_T13 : Fld := ⟨5, 10, 10⟩
def PCH_EQ_T14 : Fld := ⟨5, 0, 10⟩
/-- 03 R89 -/
def PCH_BRX_CTL (c : Nat) : Nat := 0x1010000 + c * 0x40000
def PCH_BRX_CTL_LINEAR : Fld := ⟨0, 31, 1⟩
def PCH_BRX_CTL_EQ_MEM_EN : Fld := ⟨0, 30, 1⟩
/-- 03 R89 -/
def PCH_BRX_PRE (c : Nat) : Nat := 0x1010004 + c * 0x40000
def PCH_BRX_PRE_PRE_UNRANGED : Fld := ⟨0, 16, 16⟩
def PCH_BRX_PRE_PRE_RANGED : Fld := ⟨0, 0, 16⟩
/-- 03 R91 -/
def PCH_PIN_CTL (c : Nat) : Nat := 0x1030010 + c * 0x40000
def PCH_PIN_CTL_TXDIS_FORCE : Fld := ⟨0, 31, 1⟩
def PCH_PIN_CTL_TXDIS_POL : Fld := ⟨0, 30, 1⟩
def PCH_PIN_CTL_RSSI_SEL : Fld := ⟨0, 28, 2⟩
def PCH_PIN_CTL_RSSI_K : Fld := ⟨0, 24, 4⟩
def PCH_PIN_CTL_RSSI_DELAY : Fld := ⟨0, 16, 8⟩
def PCH_PIN_CTL_BRST_LEAD : Fld := ⟨0, 8, 8⟩
def PCH_PIN_CTL_BRST_WIDTH : Fld := ⟨0, 0, 8⟩
/-- 03 R91 -/
def PCH_PIN_CTL2 (c : Nat) : Nat := 0x1030014 + c * 0x40000
def PCH_PIN_CTL2_LOS_FILTER : Fld := ⟨0, 16, 16⟩
def PCH_PIN_CTL2_RSSI_WIDTH : Fld := ⟨0, 0, 16⟩
/-- 03 R537 -/
def PCH_DEFECT (c : Nat) : Nat := 0x1030008 + c * 0x40000
def PCH_DEFECT_SEQ : Fld := ⟨0, 24, 8⟩
def PCH_DEFECT_BLANKING : Fld := ⟨0, 7, 1⟩
def PCH_DEFECT_LOS_LIVE : Fld := ⟨0, 6, 1⟩
def PCH_DEFECT_LOL_LIVE : Fld := ⟨0, 5, 1⟩
def PCH_DEFECT_TXF_LIVE : Fld := ⟨0, 4, 1⟩
def PCH_DEFECT_CFG_ERR_EVT : Fld := ⟨0, 3, 1⟩
def PCH_DEFECT_LOS : Fld := ⟨0, 2, 1⟩
def PCH_DEFECT_LOL : Fld := ⟨0, 1, 1⟩
def PCH_DEFECT_TXF : Fld := ⟨0, 0, 1⟩
/-- 03 R537 -/
def PCH_LOS_CTL (c : Nat) : Nat := 0x103000c + c * 0x40000
def PCH_LOS_CTL_PIN_EN : Fld := ⟨0, 31, 1⟩
def PCH_LOS_CTL_ENERGY_EN : Fld := ⟨0, 30, 1⟩
def PCH_LOS_CTL_PIN_POL : Fld := ⟨0, 29, 1⟩
def PCH_LOS_CTL_LOS_THRESH : Fld := ⟨0, 24, 5⟩
def PCH_LOS_CTL_SET_FRAMES : Fld := ⟨0, 8, 8⟩
def PCH_LOS_CTL_CLR_FRAMES : Fld := ⟨0, 0, 8⟩
/-- 03 R95 -/
def PCH_SLEEP (c : Nat) : Nat := 0x1030018 + c * 0x40000
def PCH_SLEEP_MASK : Fld := ⟨0, 16, 3⟩
def PCH_SLEEP_FORCE_TX : Fld := ⟨0, 2, 1⟩
def PCH_SLEEP_RX_SLEEP : Fld := ⟨0, 1, 1⟩
def PCH_SLEEP_TX_SLEEP : Fld := ⟨0, 0, 1⟩
/-- 03 R97 -/
def PCH_MOD_MUX (c : Nat) : Nat := 0x1030040 + c * 0x40000
def PCH_MOD_MUX_SPEED : Fld := ⟨0, 24, 2⟩
def PCH_MOD_MUX_MUX_ADDR : Fld := ⟨0, 16, 7⟩
def PCH_MOD_MUX_MUX_SEL : Fld := ⟨0, 0, 8⟩
/-- 03 R97 -/
def PCH_MOD_CMD (c : Nat) : Nat := 0x1030044 + c * 0x40000
def PCH_MOD_CMD_GO : Fld := ⟨0, 31, 1⟩
def PCH_MOD_CMD_RD : Fld := ⟨0, 30, 1⟩
def PCH_MOD_CMD_LEN : Fld := ⟨0, 24, 3⟩
def PCH_MOD_CMD_DEV_ADDR : Fld := ⟨0, 16, 7⟩
def PCH_MOD_CMD_REG : Fld := ⟨0, 8, 8⟩
def PCH_MOD_CMD_RESULT : Fld := ⟨0, 0, 2⟩
/-- 04 R118 -/
def DSF_CTL (c : Nat) : Nat := 0x1000000 + c * 0x40000
def DSF_CTL_FREE_ALIGN : Fld := ⟨0, 31, 1⟩
def DSF_CTL_PLOAM_MAX : Fld := ⟨0, 16, 5⟩
/-- 04 R118 -/
def DSF_TOD_OFFSET (c : Nat) : Nat := 0x1000004 + c * 0x40000
def DSF_TOD_OFFSET_OFFSET_NS : Fld := ⟨0, 0, 17⟩
/-- 04 R118 -/
def DSF_STATUS (c : Nat) : Nat := 0x1000008 + c * 0x40000
def DSF_STATUS_SEQ : Fld := ⟨0, 24, 8⟩
def DSF_STATUS_ALIGNED : Fld := ⟨0, 8, 1⟩
def DSF_STATUS_TOD_SLIP : Fld := ⟨0, 4, 1⟩
def DSF_STATUS_MAP_PARITY : Fld := ⟨0, 3, 1⟩
def DSF_STATUS_DATA_CHECK : Fld := ⟨0, 2, 1⟩
def DSF_STATUS_PLOAM_FULL : Fld := ⟨0, 1, 1⟩
def DSF_STATUS_LEAD_CLAMPED : Fld := ⟨0, 0, 1⟩
/-- 04 R118 -/
def SHD_SEAL_CTL (c : Nat) : Nat := 0x2000000 + c * 0x40000
def SHD_SEAL_CTL_LEAD_NS : Fld := ⟨0, 0, 16⟩
/-- 05 R146 -/
def PCH_BRX_SEARCH (c : Nat) : Nat := 0x1010008 + c * 0x40000
def PCH_BRX_SEARCH_ROGUE_TAIL : Fld := ⟨0, 8, 8⟩
def PCH_BRX_SEARCH_DELIM_MAX_ERR : Fld := ⟨0, 0, 2⟩
/-- 05 R146 -/
def PCH_BRX_PWR_CAL (c : Nat) : Nat := 0x101000c + c * 0x40000
def PCH_BRX_PWR_CAL_PWR_CAL : Fld := ⟨0, 16, 16⟩
/-- 05 R146 -/
def PCH_BRX_DEF_CTL (c : Nat) : Nat := 0x1010010 + c * 0x40000
def PCH_BRX_DEF_CTL_LOB_SET : Fld := ⟨0, 28, 4⟩
def PCH_BRX_DEF_CTL_DRIFT_LIM : Fld := ⟨0, 20, 8⟩
def PCH_BRX_DEF_CTL_LODS_MS : Fld := ⟨0, 8, 12⟩
def PCH_BRX_DEF_CTL_ROGUE_SET : Fld := ⟨0, 4, 4⟩
def PCH_BRX_DEF_CTL_DG_CLR : Fld := ⟨0, 0, 4⟩
/-- 05 R146 -/
def PCH_BRX_STATUS (c : Nat) : Nat := 0x1010014 + c * 0x40000
def PCH_BRX_STATUS_SEQ : Fld := ⟨0, 24, 8⟩
def PCH_BRX_STATUS_PROFILE_BAD : Fld := ⟨0, 5, 1⟩
def PCH_BRX_STATUS_MEAS_DROP : Fld := ⟨0, 4, 1⟩
def PCH_BRX_STATUS_OOW_ENERGY : Fld := ⟨0, 3, 1⟩
def PCH_BRX_STATUS_FOREIGN_HDR : Fld := ⟨0, 2, 1⟩
def PCH_BRX_STATUS_CLIPPED : Fld := ⟨0, 1, 1⟩
def PCH_BRX_STATUS_AMBIG : Fld := ⟨0, 0, 1⟩
/-- 05 R146 -/
def PCH_ONU_DEF_SUM (c j : Nat) : Nat := 0x1010020 + c * 0x40000 + j * 0x4
def PCH_ONU_DEF_SUM_PENDING : Fld := ⟨0, 0, 32⟩
/-- 05 R146 -/
def PCH_ONU_DEF (c i : Nat) : Nat := 0x1014000 + c * 0x40000 + i * 0x4
def PCH_ONU_DEF_SEQ : Fld := ⟨0, 24, 8⟩
def PCH_ONU_DEF_ROGUE_LIVE : Fld := ⟨0, 20, 1⟩
def PCH_ONU_DEF_DRIFT_LIVE : Fld := ⟨0, 19, 1⟩
def PCH_ONU_DEF_DG_LIVE : Fld := ⟨0, 18, 1⟩
def PCH_ONU_DEF_LODS_LIVE : Fld := ⟨0, 17, 1⟩
def PCH_ONU_DEF_LOB_LIVE : Fld := ⟨0, 16, 1⟩
def PCH_ONU_DEF_ROGUE : Fld := ⟨0, 4, 1⟩
def PCH_ONU_DEF_DRIFT : Fld := ⟨0, 3, 1⟩
def PCH_ONU_DEF_DG : Fld := ⟨0, 2, 1⟩
def PCH_ONU_DEF_LODS : Fld := ⟨0, 1, 1⟩
def PCH_ONU_DEF_LOB : Fld := ⟨0, 0, 1⟩
/-- 06 R176 -/
def RNG_CTL (c : Nat) : Nat := 0x1020000 + c * 0x40000
def RNG_CTL_QW_EN : Fld := ⟨0, 31, 1⟩
def RNG_CTL_VIDAN_EN : Fld := ⟨0, 30, 1⟩
def RNG_CTL_TRACK_EN : Fld := ⟨0, 29, 1⟩
def RNG_CTL_ROGUE_AUTO : Fld := ⟨0, 28, 1⟩
def RNG_CTL_RERANGE_UT : Fld := ⟨0, 27, 1⟩
def RNG_CTL_VS_TYPE : Fld := ⟨0, 16, 8⟩
def RNG_CTL_LOST_HOLD_S : Fld := ⟨0, 8, 8⟩
/-- 06 R176 -/
def RNG_TEQD (c : Nat) : Nat := 0x1020004 + c * 0x40000
def RNG_TEQD_TEQD_NS : Fld := ⟨0, 0, 20⟩
/-- 06 R176 -/
def RNG_SPAN (c : Nat) : Nat := 0x1020008 + c * 0x40000
def RNG_SPAN_DMAX_US : Fld := ⟨0, 16, 16⟩
def RNG_SPAN_DMIN_US : Fld := ⟨0, 0, 16⟩
/-- 06 R176 -/
def RNG_DISC (c : Nat) : Nat := 0x102000c + c * 0x40000
def RNG_DISC_QW_PERIOD : Fld := ⟨0, 16, 16⟩
def RNG_DISC_INV_PERIOD_MS : Fld := ⟨0, 0, 16⟩
/-- 06 R176 -/
def RNG_UT (c : Nat) : Nat := 0x1020010 + c * 0x40000
def RNG_UT_P_RESP : Fld := ⟨0, 24, 8⟩
def RNG_UT_UT_ENERGY_ADD : Fld := ⟨0, 16, 8⟩
/-- 06 R176 -/
def RNG_TRACK (c : Nat) : Nat := 0x1020014 + c * 0x40000
def RNG_TRACK_THRESH : Fld := ⟨0, 16, 8⟩
def RNG_TRACK_PEND_FRAMES : Fld := ⟨0, 8, 8⟩
def RNG_TRACK_SHIFT : Fld := ⟨0, 4, 4⟩
/-- 06 R176 -/
def RNG_ROGUE (c : Nat) : Nat := 0x1020018 + c * 0x40000
def RNG_ROGUE_PROBE_FRAMES : Fld := ⟨0, 0, 8⟩
/-- 06 R176 -/
def RNG_STATUS (c : Nat) : Nat := 0x102001c + c * 0x40000
def RNG_STATUS_SEQ : Fld := ⟨0, 24, 8⟩
def RNG_STATUS_LOCATING : Fld := ⟨0, 11, 1⟩
def RNG_STATUS_UT_ACTIVE : Fld := ⟨0, 10, 1⟩
def RNG_STATUS_QW_ACTIVE : Fld := ⟨0, 9, 1⟩
def RNG_STATUS_SPAN_CLAMPED : Fld := ⟨0, 8, 1⟩
def RNG_STATUS_UT_DONE : Fld := ⟨0, 7, 1⟩
def RNG_STATUS_QW_REBOOK : Fld := ⟨0, 6, 1⟩
def RNG_STATUS_UT_EXCESS : Fld := ⟨0, 5, 1⟩
def RNG_STATUS_UT_COLLIDE : Fld := ⟨0, 4, 1⟩
def RNG_STATUS_ROGUE_ISOLATED : Fld := ⟨0, 3, 1⟩
def RNG_STATUS_ROGUE_UNLOCATED : Fld := ⟨0, 2, 1⟩
def RNG_STATUS_SLOTS_FULL : Fld := ⟨0, 1, 1⟩
def RNG_STATUS_DISC : Fld := ⟨0, 0, 1⟩
/-- 06 R176 -/
def RNG_UT_PEAK (c j : Nat) : Nat := 0x1020020 + c * 0x40000 + j * 0x4
def RNG_UT_PEAK_VALID : Fld := ⟨0, 31, 1⟩
def RNG_UT_PEAK_SEQ_IDX : Fld := ⟨0, 26, 5⟩
def RNG_UT_PEAK_MARGIN : Fld := ⟨0, 20, 6⟩
def RNG_UT_PEAK_DELAY : Fld := ⟨0, 0, 20⟩
/-- 06 R176 -/
def RNG_ONU (c i : Nat) : Nat := 0x1021000 + c * 0x40000 + i * 0x10
def RNG_ONU_STATE : Fld := ⟨0, 29, 3⟩
def RNG_ONU_VIDAN_CAP : Fld := ⟨0, 28, 1⟩
def RNG_ONU_SEALED_CAP : Fld := ⟨0, 27, 1⟩
def RNG_ONU_PENDING : Fld := ⟨0, 26, 1⟩
def RNG_ONU_PROF : Fld := ⟨0, 24, 2⟩
def RNG_ONU_ONU_ID : Fld := ⟨0, 0, 10⟩
def RNG_ONU_EQD : Fld := ⟨1, 0, 24⟩
def RNG_ONU_SN_HI : Fld := ⟨2, 0, 32⟩
def RNG_ONU_SN_LO : Fld := ⟨3, 0, 32⟩
/-- 07 R190 -/
def PCH_BRX_PROF (c p : Nat) : Nat := 0x1010040 + c * 0x40000 + p * 0x10
def PCH_BRX_PROF_VALID : Fld := ⟨0, 31, 1⟩
def PCH_BRX_PROF_FEC_ON : Fld := ⟨0, 30, 1⟩
def PCH_BRX_PROF_DELIM8 : Fld := ⟨0, 29, 1⟩
def PCH_BRX_PROF_PRE_BITS : Fld := ⟨0, 0, 16⟩
def PCH_BRX_PROF_DELIM_HI : Fld := ⟨2, 0, 32⟩
def PCH_BRX_PROF_DELIM_LO : Fld := ⟨3, 0, 32⟩
/-- 07 R195 -/
def SHD_LEDGER_WIN (i : Nat) : Nat := 0xa000000 + i * 0x10
def SHD_LEDGER_WIN_STATE : Fld := ⟨0, 30, 2⟩
def SHD_LEDGER_WIN_OUTCOME : Fld := ⟨0, 28, 2⟩
def SHD_LEDGER_WIN_CHANNEL : Fld := ⟨0, 22, 6⟩
def SHD_LEDGER_WIN_ALLOC_ID : Fld := ⟨0, 0, 14⟩
def SHD_LEDGER_WIN_FRAME : Fld := ⟨1, 0, 32⟩
def SHD_LEDGER_WIN_SEAL_NS : Fld := ⟨2, 0, 32⟩
/-- 07 R198 -/
def SHD_ALLOC (c a : Nat) : Nat := 0x2001000 + c * 0x40000 + a * 0x10
def SHD_ALLOC_VALID : Fld := ⟨0, 31, 1⟩
def SHD_ALLOC_ELIG : Fld := ⟨0, 29, 2⟩
def SHD_ALLOC_DBRU : Fld := ⟨0, 28, 1⟩
def SHD_ALLOC_SLOT : Fld := ⟨0, 18, 8⟩
def SHD_ALLOC_ALLOC_ID : Fld := ⟨0, 0, 14⟩
def SHD_ALLOC_SI_FRAMES : Fld := ⟨1, 24, 8⟩
def SHD_ALLOC_RF : Fld := ⟨1, 0, 20⟩
def SHD_ALLOC_WEIGHT : Fld := ⟨2, 24, 8⟩
def SHD_ALLOC_RA : Fld := ⟨2, 0, 20⟩
def SHD_ALLOC_RM : Fld := ⟨3, 0, 20⟩
/-- 07 R198 -/
def SHD_LEDGER_CTL (c : Nat) : Nat := 0x2000004 + c * 0x40000
def SHD_LEDGER_CTL_LIMIT : Fld := ⟨0, 16, 13⟩
def SHD_LEDGER_CTL_RESERVE : Fld := ⟨0, 0, 12⟩
/-- 07 R198 -/
def SHD_STATUS (c : Nat) : Nat := 0x2000008 + c * 0x40000
def SHD_STATUS_SEQ : Fld := ⟨0, 24, 8⟩
def SHD_STATUS_REFUSE_CODE : Fld := ⟨0, 20, 4⟩
def SHD_STATUS_GUAR_OVER : Fld := ⟨0, 8, 1⟩
def SHD_STATUS_TRIMMED : Fld := ⟨0, 7, 1⟩
def SHD_STATUS_RESERVE_REFUSED : Fld := ⟨0, 6, 1⟩
def SHD_STATUS_CLOSE_EARLY : Fld := ⟨0, 5, 1⟩
def SHD_STATUS_CLOSE_STALE : Fld := ⟨0, 4, 1⟩
def SHD_STATUS_FORMAT_REFUSED : Fld := ⟨0, 3, 1⟩
def SHD_STATUS_INQ_DROP : Fld := ⟨0, 2, 1⟩
def SHD_STATUS_ALLOC_ORPHANED : Fld := ⟨0, 1, 1⟩
def SHD_STATUS_ALLOC_REFUSED : Fld := ⟨0, 0, 1⟩
/-- 07 R198 -/
def SHD_LEDGER_LIVE (c : Nat) : Nat := 0x200000c + c * 0x40000
def SHD_LEDGER_LIVE_SHARED_FREE : Fld := ⟨0, 16, 13⟩
def SHD_LEDGER_LIVE_OPEN : Fld := ⟨0, 0, 13⟩
/-- 07 R198 -/
def SHD_INQ_STATUS (c : Nat) : Nat := 0x2000010 + c * 0x40000
def SHD_INQ_STATUS_HW_CLR : Fld := ⟨0, 31, 1⟩
def SHD_INQ_STATUS_HIGH_WATER : Fld := ⟨0, 16, 12⟩
def SHD_INQ_STATUS_DEPTH : Fld := ⟨0, 0, 12⟩
/-- 07 R198 -/
def SHD_GUAR (c : Nat) : Nat := 0x2000014 + c * 0x40000
def SHD_GUAR_GUAR_LIMIT : Fld := ⟨0, 0, 20⟩
/-- 07 R198 -/
def SHD_GUAR_SUM (c : Nat) : Nat := 0x2000018 + c * 0x40000
def SHD_GUAR_SUM_GUAR_SUM : Fld := ⟨0, 0, 21⟩
/-- 08 R219 -/
def SHD_POLICY (c : Nat) : Nat := 0x2000020 + c * 0x40000
def SHD_POLICY_HOLD : Fld := ⟨0, 28, 4⟩
def SHD_POLICY_LATE_RESV : Fld := ⟨0, 26, 2⟩
def SHD_POLICY_MAX_GRANTS : Fld := ⟨0, 16, 10⟩
def SHD_POLICY_GUARD_BITS : Fld := ⟨0, 0, 11⟩
/-- 08 R219 -/
def SHD_TIMING (c : Nat) : Nat := 0x2000024 + c * 0x40000
def SHD_TIMING_ANCHOR_NS : Fld := ⟨0, 16, 16⟩
def SHD_TIMING_CUTOFF_NS : Fld := ⟨0, 0, 16⟩
/-- 08 R219 -/
def SHD_TUNE (c : Nat) : Nat := 0x2000028 + c * 0x40000
def SHD_TUNE_OVG_MAX : Fld := ⟨0, 16, 16⟩
def SHD_TUNE_TM_PROBE : Fld := ⟨0, 0, 16⟩
/-- 08 R219 -/
def SHD_HINT_CTL (c : Nat) : Nat := 0x200002c + c * 0x40000
def SHD_HINT_CTL_HINT_EN : Fld := ⟨0, 31, 1⟩
def SHD_HINT_CTL_HINT_MARGIN_NS : Fld := ⟨0, 16, 15⟩
def SHD_HINT_CTL_HINT_CAP : Fld := ⟨0, 0, 16⟩
/-- 08 R219 -/
def SHD_POL_STATUS (c : Nat) : Nat := 0x2000034 + c * 0x40000
def SHD_POL_STATUS_SEQ : Fld := ⟨0, 24, 8⟩
def SHD_POL_STATUS_HINT_UNALIGNED : Fld := ⟨0, 5, 1⟩
def SHD_POL_STATUS_HINT_MISS : Fld := ⟨0, 4, 1⟩
def SHD_POL_STATUS_HINT_LATE : Fld := ⟨0, 3, 1⟩
def SHD_POL_STATUS_HINT_FULL : Fld := ⟨0, 2, 1⟩
def SHD_POL_STATUS_GRANT_CAP : Fld := ⟨0, 1, 1⟩
def SHD_POL_STATUS_SWEEP_OVERRUN : Fld := ⟨0, 0, 1⟩
/-- 08 R219 -/
def SHD_HINT_IN (c w : Nat) : Nat := 0x2000040 + c * 0x40000 + w * 0x4
def SHD_HINT_IN_RECORD : Fld := ⟨0, 0, 32⟩
/-- 08 R219 -/
def SHD_ALLOC_POL (c a : Nat) : Nat := 0x2004000 + c * 0x40000 + a * 0x4
def SHD_ALLOC_POL_ANCHOR : Fld := ⟨0, 31, 1⟩
def SHD_ALLOC_POL_OVG_EN : Fld := ⟨0, 30, 1⟩
def SHD_ALLOC_POL_HINT_EN : Fld := ⟨0, 29, 1⟩
def SHD_ALLOC_POL_SPREAD : Fld := ⟨0, 24, 5⟩
/-- 08 R219 -/
def CLS_HINT : Nat := 0x3000100
def CLS_HINT_ETYPE : Fld := ⟨0, 16, 16⟩
def CLS_HINT_EN : Fld := ⟨0, 0, 1⟩
/-- 08 R219 -/
def CLS_HINT_LANES : Nat := 0x3000104
def CLS_HINT_LANES_LANE_MASK : Fld := ⟨0, 0, 32⟩
/-- 08 R219 -/
def CLS_HINT_SRC (j : Nat) : Nat := 0x3000110 + j * 0x4
def CLS_HINT_SRC_ALLOW : Fld := ⟨0, 0, 32⟩
/-- 09 R249 -/
def SHU_CTL (k : Nat) : Nat := 0x800000 + k * 0x40000
def SHU_CTL_WATCHDOG : Fld := ⟨0, 16, 8⟩
def SHU_CTL_SVC_TIMEOUT_MS : Fld := ⟨0, 0, 16⟩
/-- 09 R249 -/
def SHU_STATUS (k : Nat) : Nat := 0x800004 + k * 0x40000
def SHU_STATUS_SEQ : Fld := ⟨0, 24, 8⟩
def SHU_STATUS_SPARE_VALID : Fld := ⟨0, 23, 1⟩
def SHU_STATUS_SWAP_BUSY : Fld := ⟨0, 22, 1⟩
def SHU_STATUS_SWAP_RESULT : Fld := ⟨0, 16, 4⟩
def SHU_STATUS_SVC_DONE : Fld := ⟨0, 6, 1⟩
def SHU_STATUS_SVC_TIMEOUT : Fld := ⟨0, 5, 1⟩
def SHU_STATUS_SVC_BUSY : Fld := ⟨0, 4, 1⟩
def SHU_STATUS_UPSET_FOUND : Fld := ⟨0, 3, 1⟩
def SHU_STATUS_THREAD_FAULT : Fld := ⟨0, 2, 1⟩
def SHU_STATUS_SWAP_FAIL : Fld := ⟨0, 1, 1⟩
def SHU_STATUS_SWAP_DONE : Fld := ⟨0, 0, 1⟩
/-- 09 R249 -/
def SHU_SWAP (k : Nat) : Nat := 0x800008 + k * 0x40000
def SHU_SWAP_GO : Fld := ⟨0, 31, 1⟩
def SHU_SWAP_RETIRE : Fld := ⟨0, 30, 1⟩
def SHU_SWAP_ROLE : Fld := ⟨0, 20, 4⟩
/-- 09 R249 -/
def SHU_REFRESH (k : Nat) : Nat := 0x80000c + k * 0x40000
def SHU_REFRESH_EN : Fld := ⟨0, 31, 1⟩
def SHU_REFRESH_INTERVAL_S : Fld := ⟨0, 0, 16⟩
/-- 09 R249 -/
def SHU_CLK (k : Nat) : Nat := 0x800010 + k * 0x40000
def SHU_CLK_MHZ : Fld := ⟨0, 0, 11⟩
/-- 09 R249 -/
def SHU_FAULT (k : Nat) : Nat := 0x800020 + k * 0x40000
def SHU_FAULT_CODE : Fld := ⟨0, 28, 4⟩
def SHU_FAULT_ROLE : Fld := ⟨0, 24, 4⟩
def SHU_FAULT_THREAD : Fld := ⟨0, 21, 3⟩
def SHU_FAULT_PC : Fld := ⟨0, 0, 14⟩
/-- 09 R249 -/
def SHU_MAP (k r : Nat) : Nat := 0x800040 + k * 0x40000 + r * 0x4
def SHU_MAP_VALID : Fld := ⟨0, 31, 1⟩
def SHU_MAP_RETIRED : Fld := ⟨0, 30, 1⟩
def SHU_MAP_KIND : Fld := ⟨0, 27, 3⟩
def SHU_MAP_CHANNEL : Fld := ⟨0, 21, 6⟩
def SHU_MAP_PHYS : Fld := ⟨0, 0, 4⟩
/-- 09 R249 -/
def SHU_VER (k r : Nat) : Nat := 0x800100 + k * 0x40000 + r * 0x10
def SHU_VER_IMAGE_ID : Fld := ⟨0, 16, 16⟩
def SHU_VER_MAJOR : Fld := ⟨0, 8, 8⟩
def SHU_VER_MINOR : Fld := ⟨0, 0, 8⟩
def SHU_VER_PATCH_LEVEL : Fld := ⟨1, 24, 8⟩
def SHU_VER_OWNER_SIGNED : Fld := ⟨1, 23, 1⟩
def SHU_VER_DIGEST_HI : Fld := ⟨2, 0, 32⟩
def SHU_VER_DIGEST_LO : Fld := ⟨3, 0, 32⟩
/-- 10 R270 -/
def DRF_CTL : Nat := 0x700000
def DRF_CTL_GO : Fld := ⟨0, 31, 1⟩
def DRF_CTL_SRC : Fld := ⟨0, 28, 3⟩
def DRF_CTL_SPI_MHZ : Fld := ⟨0, 0, 8⟩
/-- 10 R270 -/
def DRF_STATUS : Nat := 0x700004
def DRF_STATUS_SEQ : Fld := ⟨0, 24, 8⟩
def DRF_STATUS_STATE : Fld := ⟨0, 20, 3⟩
def DRF_STATUS_ERR : Fld := ⟨0, 8, 8⟩
def DRF_STATUS_BOOT_FALLBACK : Fld := ⟨0, 3, 1⟩
def DRF_STATUS_ROLLED_BACK : Fld := ⟨0, 2, 1⟩
def DRF_STATUS_LOAD_FAIL : Fld := ⟨0, 1, 1⟩
def DRF_STATUS_LOAD_DONE : Fld := ⟨0, 0, 1⟩
/-- 11 R289 -/
def CLS_STATUS : Nat := 0x3000004
def CLS_STATUS_SEQ : Fld := ⟨0, 24, 8⟩
def CLS_STATUS_COMMIT_CODE : Fld := ⟨0, 16, 4⟩
def CLS_STATUS_COMMIT_REFUSED : Fld := ⟨0, 5, 1⟩
def CLS_STATUS_STAGE_BUSY : Fld := ⟨0, 4, 1⟩
def CLS_STATUS_ACTION_BAD : Fld := ⟨0, 3, 1⟩
def CLS_STATUS_RECIRC_OVER : Fld := ⟨0, 2, 1⟩
def CLS_STATUS_RECIRC_LOOP : Fld := ⟨0, 1, 1⟩
def CLS_STATUS_PARSE_LIMIT : Fld := ⟨0, 0, 1⟩
/-- 11 R289 -/
def CLS_COMMIT : Nat := 0x3000008
def CLS_COMMIT_GO : Fld := ⟨0, 31, 1⟩
def CLS_COMMIT_SLOTS : Fld := ⟨0, 0, 16⟩
/-- 11 R289 -/
def CLS_PIPE_SP (p : Nat) : Nat := 0x3000020 + p * 0x4
def CLS_PIPE_SP_SP_MPPS : Fld := ⟨0, 20, 12⟩
def CLS_PIPE_SP_SP_BURST : Fld := ⟨0, 0, 16⟩
/-- 11 R289 -/
def CLS_RANGE (r : Nat) : Nat := 0x3000400 + r * 0x8
def CLS_RANGE_SEL : Fld := ⟨0, 0, 16⟩
def CLS_RANGE_HI : Fld := ⟨1, 16, 16⟩
def CLS_RANGE_LO : Fld := ⟨1, 0, 16⟩
/-- 12 R307 -/
def FWD_CTL : Nat := 0x3800000
def FWD_CTL_AGE_EN : Fld := ⟨0, 31, 1⟩
def FWD_CTL_MOVES_MAX : Fld := ⟨0, 16, 4⟩
def FWD_CTL_AGE_S : Fld := ⟨0, 0, 16⟩
/-- 12 R307 -/
def FWD_STATUS : Nat := 0x3800004
def FWD_STATUS_SEQ : Fld := ⟨0, 24, 8⟩
def FWD_STATUS_NODES_FULL : Fld := ⟨0, 4, 1⟩
def FWD_STATUS_FLUSHING : Fld := ⟨0, 3, 1⟩
def FWD_STATUS_LEARN_DROP : Fld := ⟨0, 2, 1⟩
def FWD_STATUS_LEARN_FAIL : Fld := ⟨0, 1, 1⟩
def FWD_STATUS_MOVE_BLOCKED : Fld := ⟨0, 0, 1⟩
/-- 12 R307 -/
def FWD_MAC_CMD : Nat := 0x3800100
def FWD_MAC_CMD_GO : Fld := ⟨0, 31, 1⟩
def FWD_MAC_CMD_OP : Fld := ⟨0, 28, 3⟩
def FWD_MAC_CMD_STATIC : Fld := ⟨0, 27, 1⟩
def FWD_MAC_CMD_BY_BD : Fld := ⟨0, 26, 1⟩
def FWD_MAC_CMD_BY_DEST : Fld := ⟨0, 25, 1⟩
def FWD_MAC_CMD_BD : Fld := ⟨0, 0, 14⟩
def FWD_MAC_CMD_MAC_HI : Fld := ⟨1, 0, 32⟩
def FWD_MAC_CMD_MAC_LO : Fld := ⟨2, 16, 16⟩
def FWD_MAC_CMD_DEST : Fld := ⟨3, 0, 24⟩
/-- 12 R307 -/
def FWD_RT_CMD : Nat := 0x3800200
def FWD_RT_CMD_GO : Fld := ⟨0, 31, 1⟩
def FWD_RT_CMD_OP : Fld := ⟨0, 28, 3⟩
def FWD_RT_CMD_BANKS : Fld := ⟨0, 26, 2⟩
def FWD_RT_CMD_V6 : Fld := ⟨0, 25, 1⟩
def FWD_RT_CMD_VRF : Fld := ⟨0, 20, 4⟩
def FWD_RT_CMD_LEN : Fld := ⟨0, 0, 8⟩
def FWD_RT_CMD_ADDR : Fld := ⟨1, 0, 32⟩
def FWD_RT_CMD_ADDR2 : Fld := ⟨2, 0, 32⟩
def FWD_RT_CMD_ADDR3 : Fld := ⟨3, 0, 32⟩
def FWD_RT_CMD_ADDR4 : Fld := ⟨4, 0, 32⟩
def FWD_RT_CMD_NH : Fld := ⟨5, 0, 16⟩
/-- 12 R307 -/
def FWD_SRC (i : Nat) : Nat := 0x3800400 + i * 0x4
def FWD_SRC_LEARN_EN : Fld := ⟨0, 31, 1⟩
def FWD_SRC_GROUP : Fld := ⟨0, 27, 4⟩
def FWD_SRC_PVID : Fld := ⟨0, 0, 12⟩
/-- 13 R329 -/
def TMG_STATUS : Nat := 0x4000004
def TMG_STATUS_SEQ : Fld := ⟨0, 24, 8⟩
def TMG_STATUS_TRAP_DROP : Fld := ⟨0, 5, 1⟩
def TMG_STATUS_COPY_FULL : Fld := ⟨0, 4, 1⟩
def TMG_STATUS_SPILL_RATE : Fld := ⟨0, 3, 1⟩
def TMG_STATUS_FLUSH_DONE : Fld := ⟨0, 2, 1⟩
def TMG_STATUS_UPORT_REFUSED : Fld := ⟨0, 1, 1⟩
def TMG_STATUS_NO_QUEUE : Fld := ⟨0, 0, 1⟩
/-- 13 R329 -/
def TMG_SPILL : Nat := 0x4000008
def TMG_SPILL_GBPS : Fld := ⟨0, 0, 8⟩
/-- 13 R329 -/
def TMG_MIRROR : Nat := 0x400000c
def TMG_MIRROR_EN : Fld := ⟨0, 31, 1⟩
def TMG_MIRROR_DEST : Fld := ⟨0, 0, 24⟩
/-- 13 R329 -/
def TMG_FLUSH : Nat := 0x4000020
def TMG_FLUSH_GO : Fld := ⟨0, 31, 1⟩
def TMG_FLUSH_SCOPE : Fld := ⟨0, 28, 2⟩
def TMG_FLUSH_INDEX : Fld := ⟨0, 0, 18⟩
/-- 13 R329 -/
def TMG_UPORT (p : Nat) : Nat := 0x4000200 + p * 0x8
def TMG_UPORT_UMODE : Fld := ⟨0, 30, 2⟩
def TMG_UPORT_UBASE : Fld := ⟨0, 0, 15⟩
def TMG_UPORT_USIZE : Fld := ⟨1, 0, 16⟩
/-- 13 R329 -/
def TMG_SHP (j : Nat) : Nat := 0x4010000 + j * 0x10
def TMG_SHP_OVH : Fld := ⟨0, 0, 7⟩
def TMG_SHP_RATE : Fld := ⟨1, 0, 26⟩
def TMG_SHP_BURST : Fld := ⟨2, 0, 24⟩
/-- 13 R329 -/
def BPM_POOL (p : Nat) : Nat := 0x4800000 + p * 0x10
def BPM_POOL_SIZE : Fld := ⟨0, 0, 32⟩
def BPM_POOL_COUNT : Fld := ⟨1, 0, 32⟩
def BPM_POOL_FREE : Fld := ⟨2, 0, 32⟩
def BPM_POOL_LW_CLR : Fld := ⟨3, 31, 1⟩
def BPM_POOL_LOW_WATER : Fld := ⟨3, 0, 31⟩
/-- 13 R329 -/
def BPM_STATUS : Nat := 0x4800100
def BPM_STATUS_SEQ : Fld := ⟨0, 24, 8⟩
def BPM_STATUS_EMPTY : Fld := ⟨0, 16, 8⟩
def BPM_STATUS_SPILL_UE : Fld := ⟨0, 1, 1⟩
def BPM_STATUS_FREE_REFUSED : Fld := ⟨0, 0, 1⟩
/-- 14 R351 -/
def TRB_CTL : Nat := 0x5800000
def TRB_CTL_EN : Fld := ⟨0, 31, 1⟩
def TRB_CTL_TSI_OFFSET_NS : Fld := ⟨0, 0, 17⟩
/-- 14 R351 -/
def TRB_STATUS : Nat := 0x5800004
def TRB_STATUS_SEQ : Fld := ⟨0, 24, 8⟩
def TRB_STATUS_CFG_CODE : Fld := ⟨0, 20, 4⟩
def TRB_STATUS_JC_LATE : Fld := ⟨0, 4, 1⟩
def TRB_STATUS_TSI_SLIP : Fld := ⟨0, 3, 1⟩
def TRB_STATUS_CM_BUSY : Fld := ⟨0, 2, 1⟩
def TRB_STATUS_SWITCHED : Fld := ⟨0, 1, 1⟩
def TRB_STATUS_CFG_REFUSED : Fld := ⟨0, 0, 1⟩
/-- 14 R351 -/
def TRB_CM_CTL : Nat := 0x5800008
def TRB_CM_CTL_SWITCH : Fld := ⟨0, 31, 1⟩
def TRB_CM_CTL_COPY : Fld := ⟨0, 30, 1⟩
def TRB_CM_CTL_ACTIVE : Fld := ⟨0, 29, 1⟩
/-- 14 R351 -/
def TRB_DEF_CTL : Nat := 0x580000c
def TRB_DEF_CTL_LOC_SET : Fld := ⟨0, 24, 8⟩
def TRB_DEF_CTL_LOC_CLR : Fld := ⟨0, 16, 8⟩
def TRB_DEF_CTL_PJE_PPM : Fld := ⟨0, 0, 16⟩
/-- 14 R351 -/
def TRB_TRIB (t : Nat) : Nat := 0x9880000 + t * 0x20
def TRB_TRIB_EN : Fld := ⟨0, 31, 1⟩
def TRB_TRIB_KIND : Fld := ⟨0, 30, 1⟩
def TRB_TRIB_TYPE : Fld := ⟨0, 27, 3⟩
def TRB_TRIB_N : Fld := ⟨0, 22, 5⟩
def TRB_TRIB_CHANNEL : Fld := ⟨0, 16, 6⟩
def TRB_TRIB_PORT_ID : Fld := ⟨1, 16, 16⟩
def TRB_TRIB_TS_BASE : Fld := ⟨2, 16, 16⟩
def TRB_TRIB_PAIR : Fld := ⟨2, 0, 12⟩
def TRB_TRIB_DS_QUEUE : Fld := ⟨3, 0, 18⟩
def TRB_TRIB_RTP_PT : Fld := ⟨4, 25, 7⟩
def TRB_TRIB_RTP : Fld := ⟨4, 24, 1⟩
def TRB_TRIB_TMPL_LEN : Fld := ⟨4, 16, 8⟩
def TRB_TRIB_FRAMES_PER_PKT : Fld := ⟨4, 8, 8⟩
def TRB_TRIB_JB_FRAMES : Fld := ⟨4, 0, 7⟩
def TRB_TRIB_UDP_CSUM : Fld := ⟨5, 31, 1⟩
def TRB_TRIB_UDP_OFS : Fld := ⟨5, 24, 7⟩
def TRB_TRIB_RX_CW_OFS : Fld := ⟨5, 0, 8⟩
/-- 14 R351 -/
def TRB_CM_STBY (s : Nat) : Nat := 0x9800000 + s * 0x4
def TRB_CM_STBY_VALID : Fld := ⟨0, 31, 1⟩
def TRB_CM_STBY_IDLE : Fld := ⟨0, 16, 8⟩
def TRB_CM_STBY_SRC : Fld := ⟨0, 0, 16⟩
/-- 14 R351 -/
def TRB_CM_ACT (s : Nat) : Nat := 0x9840000 + s * 0x4
def TRB_CM_ACT_VALID : Fld := ⟨0, 31, 1⟩
def TRB_CM_ACT_IDLE : Fld := ⟨0, 16, 8⟩
def TRB_CM_ACT_SRC : Fld := ⟨0, 0, 16⟩
/-- 14 R351 -/
def TRB_DEF (t : Nat) : Nat := 0x9980000 + t * 0x4
def TRB_DEF_SEQ : Fld := ⟨0, 24, 8⟩
def TRB_DEF_RDI_LIVE : Fld := ⟨0, 21, 1⟩
def TRB_DEF_PJE_LIVE : Fld := ⟨0, 20, 1⟩
def TRB_DEF_LOP_LIVE : Fld := ⟨0, 19, 1⟩
def TRB_DEF_AIS_LIVE : Fld := ⟨0, 18, 1⟩
def TRB_DEF_LOM_LIVE : Fld := ⟨0, 17, 1⟩
def TRB_DEF_LOC_LIVE : Fld := ⟨0, 16, 1⟩
def TRB_DEF_PJE : Fld := ⟨0, 4, 1⟩
def TRB_DEF_LOP : Fld := ⟨0, 3, 1⟩
def TRB_DEF_AIS : Fld := ⟨0, 2, 1⟩
def TRB_DEF_LOM : Fld := ⟨0, 1, 1⟩
def TRB_DEF_LOC : Fld := ⟨0, 0, 1⟩
/-- 15 R371 -/
def CRY_STATUS : Nat := 0x5000004
def CRY_STATUS_SEQ : Fld := ⟨0, 24, 8⟩
def CRY_STATUS_ALARM_SRC : Fld := ⟨0, 16, 8⟩
def CRY_STATUS_DEBUG_OPEN : Fld := ⟨0, 9, 1⟩
def CRY_STATUS_ERASED : Fld := ⟨0, 8, 1⟩
def CRY_STATUS_DRBG_STALE : Fld := ⟨0, 7, 1⟩
def CRY_STATUS_ENT_FAIL : Fld := ⟨0, 6, 1⟩
def CRY_STATUS_SEAL_FAIL : Fld := ⟨0, 5, 1⟩
def CRY_STATUS_NONCE_GUARD : Fld := ⟨0, 4, 1⟩
def CRY_STATUS_FB_ACTIVE : Fld := ⟨0, 3, 1⟩
def CRY_STATUS_BLOB_BUSY : Fld := ⟨0, 2, 1⟩
def CRY_STATUS_TAG_CUT : Fld := ⟨0, 1, 1⟩
def CRY_STATUS_TAG_FAIL : Fld := ⟨0, 0, 1⟩
/-- 15 R371 -/
def CRY_BLOB_CTL : Nat := 0x5000180
def CRY_BLOB_CTL_GO : Fld := ⟨0, 31, 1⟩
def CRY_BLOB_CTL_RESULT : Fld := ⟨0, 0, 4⟩
/-- 16 R392 -/
def TIM_CTL : Nat := 0x600000
def TIM_CTL_FREQ_LIM : Fld := ⟨0, 20, 12⟩
def TIM_CTL_JUMP_NS : Fld := ⟨0, 0, 16⟩
/-- 16 R392 -/
def TIM_STATUS : Nat := 0x600004
def TIM_STATUS_SEQ : Fld := ⟨0, 24, 8⟩
def TIM_STATUS_STATE : Fld := ⟨0, 18, 3⟩
def TIM_STATUS_TS_OVF : Fld := ⟨0, 6, 1⟩
def TIM_STATUS_PPS_REJECT : Fld := ⟨0, 5, 1⟩
def TIM_STATUS_STEP_BUSY : Fld := ⟨0, 4, 1⟩
def TIM_STATUS_STEPPED : Fld := ⟨0, 3, 1⟩
def TIM_STATUS_SERVO_STUCK : Fld := ⟨0, 2, 1⟩
def TIM_STATUS_JUMP_REFUSED : Fld := ⟨0, 1, 1⟩
def TIM_STATUS_LOCKED_CHG : Fld := ⟨0, 0, 1⟩
/-- 16 R392 -/
def TIM_SERVO : Nat := 0x600040
def TIM_SERVO_SRC : Fld := ⟨0, 30, 2⟩
def TIM_SERVO_KP : Fld := ⟨0, 20, 4⟩
def TIM_SERVO_KI : Fld := ⟨0, 16, 4⟩
def TIM_SERVO_LOCK_NS : Fld := ⟨0, 8, 8⟩
def TIM_SERVO_HOLD_S : Fld := ⟨0, 0, 8⟩
/-- 16 R392 -/
def TIM_STEP_CTL : Nat := 0x600030
def TIM_STEP_CTL_GO : Fld := ⟨0, 31, 1⟩
def TIM_STEP_CTL_ABS : Fld := ⟨0, 30, 1⟩
def TIM_STEP_CTL_FORCE : Fld := ⟨0, 29, 1⟩
/-- 16 R392 -/
def TIM_TRIG (j : Nat) : Nat := 0x600200 + j * 0x20
def TIM_TRIG_EN : Fld := ⟨0, 31, 1⟩
def TIM_TRIG_FUNC : Fld := ⟨0, 27, 4⟩
def TIM_TRIG_ACTION : Fld := ⟨0, 25, 2⟩
def TIM_TRIG_PIN : Fld := ⟨0, 20, 5⟩
def TIM_TRIG_TARGET_LO : Fld := ⟨1, 0, 32⟩
def TIM_TRIG_TARGET_HI : Fld := ⟨2, 0, 32⟩
def TIM_TRIG_PERIOD_LO : Fld := ⟨3, 0, 32⟩
def TIM_TRIG_PERIOD_HI : Fld := ⟨4, 0, 32⟩
def TIM_TRIG_WIDTH : Fld := ⟨5, 0, 32⟩
def TIM_TRIG_SEQ : Fld := ⟨6, 24, 8⟩
def TIM_TRIG_TARGET_BAD : Fld := ⟨6, 2, 1⟩
def TIM_TRIG_LATE : Fld := ⟨6, 1, 1⟩
def TIM_TRIG_FIRED : Fld := ⟨6, 0, 1⟩
def TIM_TRIG_MISSED : Fld := ⟨7, 0, 32⟩
/-- 17 R411 -/
def HSL_CTL (l : Nat) : Nat := 0x6000000 + l * 0x40000
def HSL_CTL_EN : Fld := ⟨0, 31, 1⟩
def HSL_CTL_RATE : Fld := ⟨0, 29, 2⟩
def HSL_CTL_WIDTH : Fld := ⟨0, 27, 2⟩
def HSL_CTL_FEC_EN : Fld := ⟨0, 26, 1⟩
def HSL_CTL_LT_EN : Fld := ⟨0, 25, 1⟩
def HSL_CTL_TX_INV : Fld := ⟨0, 24, 1⟩
def HSL_CTL_RX_INV : Fld := ⟨0, 23, 1⟩
/-- 17 R411 -/
def HSL_STATUS (l : Nat) : Nat := 0x6000004 + l * 0x40000
def HSL_STATUS_SEQ : Fld := ⟨0, 24, 8⟩
def HSL_STATUS_STATE : Fld := ⟨0, 21, 3⟩
def HSL_STATUS_WIDTH_NOW : Fld := ⟨0, 18, 3⟩
def HSL_STATUS_CFG_ERR : Fld := ⟨0, 14, 4⟩
def HSL_STATUS_RF_LIVE : Fld := ⟨0, 10, 1⟩
def HSL_STATUS_LOS_LIVE : Fld := ⟨0, 9, 1⟩
def HSL_STATUS_LOL_LIVE : Fld := ⟨0, 8, 1⟩
def HSL_STATUS_LOAM_LIVE : Fld := ⟨0, 7, 1⟩
def HSL_STATUS_CFG_ERR_EVT : Fld := ⟨0, 4, 1⟩
def HSL_STATUS_WIDTH_CHG : Fld := ⟨0, 3, 1⟩
def HSL_STATUS_LOS : Fld := ⟨0, 2, 1⟩
def HSL_STATUS_LOL : Fld := ⟨0, 1, 1⟩
def HSL_STATUS_LOAM : Fld := ⟨0, 0, 1⟩
/-- 17 R411 -/
def HSL_LPI (l : Nat) : Nat := 0x6000008 + l * 0x40000
def HSL_LPI_MASK : Fld := ⟨0, 16, 2⟩
def HSL_LPI_RX_LPI_EN : Fld := ⟨0, 1, 1⟩
def HSL_LPI_TX_LPI_EN : Fld := ⟨0, 0, 1⟩
/-- 17 R411 -/
def HSL_DEF_CTL (l : Nat) : Nat := 0x6000010 + l * 0x40000
def HSL_DEF_CTL_LOS_SET_US : Fld := ⟨0, 24, 8⟩
def HSL_DEF_CTL_LOS_CLR_MS : Fld := ⟨0, 16, 8⟩
/-- 17 R411 -/
def SLV_CTL : Nat := 0x6800000
def SLV_CTL_EN : Fld := ⟨0, 31, 1⟩
def SLV_CTL_PIN_EN : Fld := ⟨0, 30, 1⟩
def SLV_CTL_ROLE : Fld := ⟨0, 28, 2⟩
def SLV_CTL_CLAIM : Fld := ⟨0, 27, 1⟩
/-- 17 R411 -/
def SLV_STATUS : Nat := 0x6800004
def SLV_STATUS_SEQ : Fld := ⟨0, 24, 8⟩
def SLV_STATUS_LANE_LOCK : Fld := ⟨0, 20, 4⟩
def SLV_STATUS_LINK_UP : Fld := ⟨0, 19, 1⟩
def SLV_STATUS_HB_LINK_ALIVE : Fld := ⟨0, 18, 1⟩
def SLV_STATUS_HB_PIN_ALIVE : Fld := ⟨0, 17, 1⟩
def SLV_STATUS_MATE_ROLE : Fld := ⟨0, 15, 2⟩
def SLV_STATUS_MATE_CLAIM : Fld := ⟨0, 14, 1⟩
def SLV_STATUS_MBX_RX : Fld := ⟨0, 4, 1⟩
def SLV_STATUS_MSG_BAD : Fld := ⟨0, 3, 1⟩
def SLV_STATUS_CLAIM_RX : Fld := ⟨0, 2, 1⟩
def SLV_STATUS_PIN_CHG : Fld := ⟨0, 1, 1⟩
def SLV_STATUS_LINK_CHG : Fld := ⟨0, 0, 1⟩
/-- 18 R419 -/
def BLT_SEG (g : Nat) : Nat := 0xa100000 + g * 0x10
def BLT_SEG_STATE : Fld := ⟨0, 30, 2⟩
def BLT_SEG_CUT : Fld := ⟨0, 27, 3⟩
def BLT_SEG_RING : Fld := ⟨0, 24, 3⟩
def BLT_SEG_RECORDS : Fld := ⟨0, 0, 23⟩
def BLT_SEG_SEQ : Fld := ⟨1, 0, 32⟩
def BLT_SEG_FIRST_NS_LO : Fld := ⟨2, 0, 32⟩
def BLT_SEG_FIRST_NS_HI : Fld := ⟨3, 0, 32⟩
/-- 18 R434 -/
def BLT_CTL : Nat := 0x7800000
def BLT_CTL_EN : Fld := ⟨0, 31, 1⟩
def BLT_CTL_TRACE_EN : Fld := ⟨0, 30, 1⟩
def BLT_CTL_COAL_MS : Fld := ⟨0, 0, 16⟩
/-- 18 R434 -/
def BLT_STATUS : Nat := 0x7800004
def BLT_STATUS_SEQ : Fld := ⟨0, 24, 8⟩
def BLT_STATUS_DDR_DOWN : Fld := ⟨0, 8, 1⟩
def BLT_STATUS_SRAM_USED : Fld := ⟨0, 7, 1⟩
def BLT_STATUS_CUT_REFUSED : Fld := ⟨0, 6, 1⟩
def BLT_STATUS_CUT_FROZEN : Fld := ⟨0, 5, 1⟩
def BLT_STATUS_COAL_FULL : Fld := ⟨0, 4, 1⟩
def BLT_STATUS_LOST : Fld := ⟨0, 3, 1⟩
def BLT_STATUS_DROP : Fld := ⟨0, 2, 1⟩
def BLT_STATUS_SUMMARY_LATE : Fld := ⟨0, 0, 1⟩
/-- 18 R434 -/
def BLT_RING (r : Nat) : Nat := 0x7800100 + r * 0x20
def BLT_RING_BASE_LO : Fld := ⟨0, 0, 32⟩
def BLT_RING_BASE_HI : Fld := ⟨1, 0, 32⟩
def BLT_RING_SEG0 : Fld := ⟨2, 16, 16⟩
def BLT_RING_SIZE : Fld := ⟨2, 0, 16⟩
def BLT_RING_WR_LO : Fld := ⟨3, 0, 32⟩
def BLT_RING_WR_HI : Fld := ⟨4, 0, 32⟩
def BLT_RING_FILLING : Fld := ⟨5, 0, 16⟩
def BLT_RING_FROZEN : Fld := ⟨6, 0, 16⟩
/-- 18 R434 -/
def BLT_CLASS (j : Nat) : Nat := 0x7800200 + j * 0x10
def BLT_CLASS_RATE : Fld := ⟨0, 0, 32⟩
def BLT_CLASS_BURST : Fld := ⟨1, 0, 24⟩
def BLT_CLASS_TOKENS : Fld := ⟨2, 0, 24⟩
/-- 18 R434 -/
def BLT_CUT_CMD : Nat := 0x7800300
def BLT_CUT_CMD_GO : Fld := ⟨0, 31, 1⟩
def BLT_CUT_CMD_OP : Fld := ⟨0, 28, 3⟩
def BLT_CUT_CMD_CUT : Fld := ⟨0, 24, 3⟩
def BLT_CUT_CMD_RINGS : Fld := ⟨0, 16, 6⟩
/-- 18 R434 -/
def BLT_CUT (j : Nat) : Nat := 0x7800320 + j * 0x10
def BLT_CUT_STATE : Fld := ⟨0, 30, 2⟩
def BLT_CUT_PARTIAL : Fld := ⟨0, 29, 1⟩
def BLT_CUT_CAUSE : Fld := ⟨0, 24, 5⟩
def BLT_CUT_CODE : Fld := ⟨0, 16, 8⟩
def BLT_CUT_RINGS : Fld := ⟨0, 0, 6⟩
def BLT_CUT_TRIG_NS_LO : Fld := ⟨1, 0, 32⟩
def BLT_CUT_TRIG_NS_HI : Fld := ⟨2, 0, 32⟩
def BLT_CUT_SEGMENTS : Fld := ⟨3, 0, 16⟩
/-- 18 R434 -/
def BLT_TRIG (i : Nat) : Nat := 0x7800400 + i * 0x4
def BLT_TRIG_EN : Fld := ⟨0, 31, 1⟩
def BLT_TRIG_RINGS : Fld := ⟨0, 16, 6⟩
def BLT_TRIG_CODE : Fld := ⟨0, 0, 8⟩
/-- 19 R448 -/
def PMC_STATUS : Nat := 0x8000004
def PMC_STATUS_SEQ : Fld := ⟨0, 24, 8⟩
def PMC_STATUS_TAG_READY : Fld := ⟨0, 3, 1⟩
def PMC_STATUS_OVF : Fld := ⟨0, 2, 1⟩
def PMC_STATUS_DUMP_SKIPPED : Fld := ⟨0, 1, 1⟩
def PMC_STATUS_DUMP_DONE : Fld := ⟨0, 0, 1⟩
/-- 19 R448 -/
def PMC_DUMP_CTL : Nat := 0x8000010
def PMC_DUMP_CTL_GO : Fld := ⟨0, 31, 1⟩
def PMC_DUMP_CTL_GBPS : Fld := ⟨0, 8, 4⟩
def PMC_DUMP_CTL_SCOPE : Fld := ⟨0, 0, 6⟩
/-- 20 R469 -/
def TMP_STATUS : Nat := 0x400004
def TMP_STATUS_SEQ : Fld := ⟨0, 24, 8⟩
def TMP_STATUS_INJ_REFUSED : Fld := ⟨0, 8, 1⟩
def TMP_STATUS_LOG_OVF : Fld := ⟨0, 7, 1⟩
def TMP_STATUS_EXIT_REFUSED : Fld := ⟨0, 6, 1⟩
def TMP_STATUS_RELOADED : Fld := ⟨0, 5, 1⟩
def TMP_STATUS_INJ_DONE : Fld := ⟨0, 4, 1⟩
def TMP_STATUS_RETIRED_EVT : Fld := ⟨0, 3, 1⟩
def TMP_STATUS_SAFE_EXIT_EVT : Fld := ⟨0, 2, 1⟩
def TMP_STATUS_SAFE_ENTER_EVT : Fld := ⟨0, 1, 1⟩
def TMP_STATUS_FAULT_EVT : Fld := ⟨0, 0, 1⟩
/-- 20 R469 -/
def TMP_SAFE : Nat := 0x400010
def TMP_SAFE_ENTER : Fld := ⟨0, 31, 1⟩
def TMP_SAFE_EXIT : Fld := ⟨0, 30, 1⟩
def TMP_SAFE_STATE : Fld := ⟨0, 28, 2⟩
def TMP_SAFE_KEYS_KEPT : Fld := ⟨0, 27, 1⟩
def TMP_SAFE_RELOAD_PENDING : Fld := ⟨0, 26, 1⟩
def TMP_SAFE_ROM_USED : Fld := ⟨0, 25, 1⟩
def TMP_SAFE_CAUSE : Fld := ⟨0, 16, 8⟩
def TMP_SAFE_RECOVERIES : Fld := ⟨0, 8, 8⟩
def TMP_SAFE_RECENT : Fld := ⟨0, 0, 2⟩
/-- 20 R469 -/
def TMP_FAULT_LOG : Nat := 0x400040
def TMP_FAULT_LOG_VALID : Fld := ⟨0, 31, 1⟩
def TMP_FAULT_LOG_INJ : Fld := ⟨0, 30, 1⟩
def TMP_FAULT_LOG_OUTCOME : Fld := ⟨0, 27, 3⟩
def TMP_FAULT_LOG_RUN : Fld := ⟨0, 24, 3⟩
def TMP_FAULT_LOG_CLASS : Fld := ⟨0, 16, 8⟩
def TMP_FAULT_LOG_UNIT : Fld := ⟨0, 0, 10⟩
def TMP_FAULT_LOG_TRANS_60S : Fld := ⟨1, 0, 32⟩
def TMP_FAULT_LOG_NS : Fld := ⟨2, 0, 32⟩
def TMP_FAULT_LOG_SEC : Fld := ⟨3, 0, 32⟩
/-- 20 R469 -/
def TMP_INJ_CTL : Nat := 0x400060
def TMP_INJ_CTL_GO : Fld := ⟨0, 31, 1⟩
def TMP_INJ_CTL_NOCOUNT : Fld := ⟨0, 30, 1⟩
def TMP_INJ_CTL_CHECKER : Fld := ⟨0, 24, 6⟩
def TMP_INJ_CTL_SOURCE : Fld := ⟨0, 16, 8⟩
def TMP_INJ_CTL_COUNT : Fld := ⟨0, 0, 10⟩
/-- 20 R469 -/
def TMP_UNIT_A (u : Nat) : Nat := 0x401000 + u * 0x8
def TMP_UNIT_A_RETIRED : Fld := ⟨0, 31, 1⟩
def TMP_UNIT_A_PERMANENT : Fld := ⟨0, 30, 1⟩
def TMP_UNIT_A_RUN : Fld := ⟨0, 24, 3⟩
def TMP_UNIT_A_TRANS_60S : Fld := ⟨0, 16, 8⟩
def TMP_UNIT_A_TOTAL : Fld := ⟨1, 0, 32⟩
/-- 20 R469 -/
def TMP_UNIT_B (u : Nat) : Nat := 0x403000 + u * 0x8
def TMP_UNIT_B_RETIRED : Fld := ⟨0, 31, 1⟩
def TMP_UNIT_B_PERMANENT : Fld := ⟨0, 30, 1⟩
def TMP_UNIT_B_RUN : Fld := ⟨0, 24, 3⟩
def TMP_UNIT_B_TRANS_60S : Fld := ⟨0, 16, 8⟩
def TMP_UNIT_B_TOTAL : Fld := ⟨1, 0, 32⟩
/-- 20 R469 -/
def TMP_CHK_MAP (i : Nat) : Nat := 0x410000 + i * 0x4
def TMP_CHK_MAP_PRESENT : Fld := ⟨0, 31, 1⟩
def TMP_CHK_MAP_KIND : Fld := ⟨0, 28, 3⟩
def TMP_CHK_MAP_CHECK_BITS : Fld := ⟨0, 22, 6⟩
def TMP_CHK_MAP_CLASS : Fld := ⟨0, 16, 6⟩
def TMP_CHK_MAP_KWORDS : Fld := ⟨0, 0, 16⟩
/-- 21 R485 -/
def CLK_CTL : Nat := 0x200000
def CLK_CTL_PRIO1 : Fld := ⟨0, 30, 2⟩
def CLK_CTL_PRIO2 : Fld := ⟨0, 28, 2⟩
def CLK_CTL_PRIO3 : Fld := ⟨0, 26, 2⟩
def CLK_CTL_REVERT : Fld := ⟨0, 25, 1⟩
def CLK_CTL_REC_LANE : Fld := ⟨0, 20, 5⟩
def CLK_CTL_QUAL_GATES : Fld := ⟨0, 16, 4⟩
def CLK_CTL_WTR_S : Fld := ⟨0, 0, 12⟩
/-- 21 R485 -/
def CLK_STATUS : Nat := 0x200004
def CLK_STATUS_SEQ : Fld := ⟨0, 24, 8⟩
def CLK_STATUS_SELECTED : Fld := ⟨0, 22, 2⟩
def CLK_STATUS_COAST : Fld := ⟨0, 21, 1⟩
def CLK_STATUS_REF_UNVERIFIED : Fld := ⟨0, 20, 1⟩
def CLK_STATUS_QUALIFIED : Fld := ⟨0, 17, 3⟩
def CLK_STATUS_PRESENT : Fld := ⟨0, 14, 3⟩
def CLK_STATUS_RST_REFUSED : Fld := ⟨0, 9, 1⟩
def CLK_STATUS_GATE_REFUSED : Fld := ⟨0, 8, 1⟩
def CLK_STATUS_MUX_HANG : Fld := ⟨0, 7, 1⟩
def CLK_STATUS_GATE_FORCED : Fld := ⟨0, 6, 1⟩
def CLK_STATUS_DISAGREE : Fld := ⟨0, 5, 1⟩
def CLK_STATUS_SWITCHED : Fld := ⟨0, 4, 1⟩
def CLK_STATUS_COAST_CHG : Fld := ⟨0, 3, 1⟩
def CLK_STATUS_LOST : Fld := ⟨0, 2, 1⟩
def CLK_STATUS_QUAL_CHG : Fld := ⟨0, 1, 1⟩
/-- 21 R485 -/
def CLK_REF_CFG : Nat := 0x20000c
def CLK_REF_CFG_REC_EN : Fld := ⟨0, 4, 1⟩
def CLK_REF_CFG_REFB_FREQ : Fld := ⟨0, 2, 2⟩
def CLK_REF_CFG_REFA_FREQ : Fld := ⟨0, 0, 2⟩
/-- 22 R499 -/
def PWR_CTL : Nat := 0x300000
def PWR_CTL_AVS_EN : Fld := ⟨0, 31, 1⟩
def PWR_CTL_PMBUS_KHZ : Fld := ⟨0, 16, 12⟩
def PWR_CTL_SLEW_US : Fld := ⟨0, 8, 8⟩
/-- 22 R499 -/
def PWR_STATUS : Nat := 0x300004
def PWR_STATUS_SEQ : Fld := ⟨0, 24, 8⟩
def PWR_STATUS_THROTTLE : Fld := ⟨0, 5, 1⟩
def PWR_STATUS_TJ_LIMIT : Fld := ⟨0, 4, 1⟩
def PWR_STATUS_GATE_REFUSED : Fld := ⟨0, 3, 1⟩
def PWR_STATUS_PMBUS_FAIL : Fld := ⟨0, 2, 1⟩
def PWR_STATUS_THROTTLE_CHG : Fld := ⟨0, 1, 1⟩
def PWR_STATUS_SR_CHG : Fld := ⟨0, 0, 1⟩
/-- 22 R499 -/
def PWR_RAIL (r : Nat) : Nat := 0x300100 + r * 0x10
def PWR_RAIL_FROZEN : Fld := ⟨0, 31, 1⟩
def PWR_RAIL_ADDR : Fld := ⟨0, 24, 7⟩
def PWR_RAIL_PAGE : Fld := ⟨0, 16, 8⟩
def PWR_RAIL_MAX_MV : Fld := ⟨1, 16, 16⟩
def PWR_RAIL_MIN_MV : Fld := ⟨1, 0, 16⟩
def PWR_RAIL_CMD_MV : Fld := ⟨2, 16, 16⟩
def PWR_RAIL_SENSE_MV : Fld := ⟨2, 0, 16⟩
def PWR_RAIL_IOUT_10MA : Fld := ⟨3, 0, 32⟩
/-- 22 R499 -/
def PWR_SHU (k : Nat) : Nat := 0x300200 + k * 0x8
def PWR_SHU_GATE : Fld := ⟨0, 31, 1⟩
def PWR_SHU_MODE : Fld := ⟨0, 30, 1⟩
def PWR_SHU_HI_PCT : Fld := ⟨0, 24, 6⟩
def PWR_SHU_LO_PCT : Fld := ⟨0, 18, 6⟩
def PWR_SHU_TARGET_MHZ : Fld := ⟨0, 0, 11⟩
def PWR_SHU_GATED : Fld := ⟨1, 31, 1⟩
def PWR_SHU_CAP_MHZ : Fld := ⟨1, 20, 11⟩
def PWR_SHU_FLOOR_MHZ : Fld := ⟨1, 9, 11⟩
/-- 22 R499 -/
def PWR_MEM : Nat := 0x300300
def PWR_MEM_SR_REQ : Fld := ⟨0, 31, 1⟩
def PWR_MEM_SR_ACTIVE : Fld := ⟨0, 30, 1⟩
/-- 22 R499 -/
def TMP_WATCH (e : Nat) : Nat := 0x402000 + e * 0x10
def TMP_WATCH_VALID : Fld := ⟨0, 31, 1⟩
def TMP_WATCH_ACT : Fld := ⟨0, 29, 2⟩
def TMP_WATCH_QTY : Fld := ⟨0, 23, 6⟩
def TMP_WATCH_COUNT : Fld := ⟨0, 0, 16⟩
def TMP_WATCH_SEQ : Fld := ⟨3, 24, 8⟩
def TMP_WATCH_TRIPPED : Fld := ⟨3, 1, 1⟩
def TMP_WATCH_EVT : Fld := ⟨3, 0, 1⟩
/-- 23 R515 -/
def SLV_PROT_CTL : Nat := 0x6800010
def SLV_PROT_CTL_EN : Fld := ⟨0, 31, 1⟩
def SLV_PROT_CTL_PRIMARY : Fld := ⟨0, 30, 1⟩
def SLV_PROT_CTL_SWITCH : Fld := ⟨0, 29, 1⟩
def SLV_PROT_CTL_TAKE : Fld := ⟨0, 28, 1⟩
def SLV_PROT_CTL_FORCE : Fld := ⟨0, 27, 1⟩
def SLV_PROT_CTL_CLAIM_MS : Fld := ⟨0, 0, 16⟩
/-- 23 R515 -/
def SLV_PROT_STATUS : Nat := 0x6800014
def SLV_PROT_STATUS_SEQ : Fld := ⟨0, 24, 8⟩
def SLV_PROT_STATUS_STATE : Fld := ⟨0, 21, 3⟩
def SLV_PROT_STATUS_MATE_READY : Fld := ⟨0, 20, 1⟩
def SLV_PROT_STATUS_READY : Fld := ⟨0, 19, 1⟩
def SLV_PROT_STATUS_PROT_WR_DROP : Fld := ⟨0, 8, 1⟩
def SLV_PROT_STATUS_CFG_MISMATCH : Fld := ⟨0, 7, 1⟩
def SLV_PROT_STATUS_HANDOVER_FAIL : Fld := ⟨0, 6, 1⟩
def SLV_PROT_STATUS_CLAIM_CONFLICT : Fld := ⟨0, 5, 1⟩
def SLV_PROT_STATUS_TAKE_REFUSED : Fld := ⟨0, 4, 1⟩
def SLV_PROT_STATUS_TOOK_OVER : Fld := ⟨0, 3, 1⟩
def SLV_PROT_STATUS_YIELDED : Fld := ⟨0, 2, 1⟩
def SLV_PROT_STATUS_SELF_MUTED : Fld := ⟨0, 1, 1⟩
def SLV_PROT_STATUS_HANDED_OVER : Fld := ⟨0, 0, 1⟩
/-- 25 R530 -/
def GLB_BOOT : Nat := 0x20
def GLB_BOOT_SERVO_LOCKED : Fld := ⟨0, 9, 1⟩
def GLB_BOOT_TIME_SET : Fld := ⟨0, 8, 1⟩
def GLB_BOOT_ENROLLED : Fld := ⟨0, 7, 1⟩
def GLB_BOOT_CACHE_READY : Fld := ⟨0, 6, 1⟩
def GLB_BOOT_DDR_TRAINED : Fld := ⟨0, 5, 1⟩
def GLB_BOOT_DRAFT_RUNNING : Fld := ⟨0, 4, 1⟩
def GLB_BOOT_REF_QUALIFIED : Fld := ⟨0, 3, 1⟩
def GLB_BOOT_REF_PRESENT : Fld := ⟨0, 2, 1⟩
def GLB_BOOT_BLOCKS_RELEASED : Fld := ⟨0, 1, 1⟩
def GLB_BOOT_TEMPLE_UP : Fld := ⟨0, 0, 1⟩
/-- 01 R40 -/
def SHD_LEDGER_ISSUED (c : Nat) : Nat := 0x2003000 + c * 0x40000
/-- 01 R40 -/
def SHD_LEDGER_RECEIVED (c : Nat) : Nat := 0x2003008 + c * 0x40000
/-- 01 R40 -/
def SHD_LEDGER_ABSENT (c : Nat) : Nat := 0x2003010 + c * 0x40000
/-- 01 R40 -/
def SHD_LEDGER_ERRORED (c : Nat) : Nat := 0x2003018 + c * 0x40000
/-- 01 R40 -/
def SHD_LEDGER_DISCARDED (c : Nat) : Nat := 0x2003020 + c * 0x40000
/-- 01 R40 -/
def SHD_LEDGER_FORCED_CLOSE (c : Nat) : Nat := 0x2003028 + c * 0x40000
/-- 01 R40 -/
def SHD_LEDGER_WITHHELD (c : Nat) : Nat := 0x2003030 + c * 0x40000
/-- 01 R40 -/
def SHD_LEDGER_OLDEST_AGE (c : Nat) : Nat := 0x200303c + c * 0x40000
/-- 04 R118 -/
def SHD_MAPS_SEALED (c : Nat) : Nat := 0x2000100 + c * 0x40000
/-- 04 R118 -/
def SHD_LATE_WRITE (c : Nat) : Nat := 0x2000108 + c * 0x40000
/-- 04 R118 -/
def SHD_FULL_REFUSED (c : Nat) : Nat := 0x2000110 + c * 0x40000
/-- 04 R118 -/
def SHD_OVERLAP_DROP (c : Nat) : Nat := 0x2000118 + c * 0x40000
/-- 04 R118 -/
def SHD_ABANDONED (c : Nat) : Nat := 0x2000120 + c * 0x40000
/-- 04 R118 -/
def SHD_EMPTY_MUTED (c : Nat) : Nat := 0x2000128 + c * 0x40000
/-- 05 R146 -/
def BRX_BURSTS (c : Nat) : Nat := 0x1010100 + c * 0x40000
/-- 05 R146 -/
def BRX_AMBIG (c : Nat) : Nat := 0x1010108 + c * 0x40000
/-- 05 R146 -/
def BRX_CLIPPED (c : Nat) : Nat := 0x1010110 + c * 0x40000
/-- 05 R146 -/
def BRX_HDR_FAIL (c : Nat) : Nat := 0x1010118 + c * 0x40000
/-- 05 R146 -/
def BRX_FOREIGN_HDR (c : Nat) : Nat := 0x1010120 + c * 0x40000
/-- 05 R146 -/
def BRX_CW_TOTAL (c : Nat) : Nat := 0x1010128 + c * 0x40000
/-- 05 R146 -/
def BRX_CW_FAIL (c : Nat) : Nat := 0x1010130 + c * 0x40000
/-- 05 R146 -/
def BRX_DBRU_BAD (c : Nat) : Nat := 0x1010138 + c * 0x40000
/-- 05 R146 -/
def BRX_XGEM_HEC_FAIL (c : Nat) : Nat := 0x1010140 + c * 0x40000
/-- 05 R146 -/
def BRX_PORT_UNKNOWN (c : Nat) : Nat := 0x1010148 + c * 0x40000
/-- 05 R146 -/
def BRX_PORT_FOREIGN (c : Nat) : Nat := 0x1010150 + c * 0x40000
/-- 05 R146 -/
def BRX_FRAG_LOST (c : Nat) : Nat := 0x1010158 + c * 0x40000
/-- 05 R146 -/
def BRX_PLOAM_LOST (c : Nat) : Nat := 0x1010160 + c * 0x40000
/-- 05 R146 -/
def BRX_OOW_ENERGY (c : Nat) : Nat := 0x1010168 + c * 0x40000
/-- 05 R146 -/
def BRX_MEAS_DROP (c : Nat) : Nat := 0x1010170 + c * 0x40000
/-- 05 R146 -/
def BRX_BRST_SKIP (c : Nat) : Nat := 0x1010178 + c * 0x40000
/-- 05 R146 -/
def BRX_CLOSE_DROP (c : Nat) : Nat := 0x1010180 + c * 0x40000
/-- 06 R176 -/
def RNG_QW_WINDOWS (c : Nat) : Nat := 0x1020100 + c * 0x40000
/-- 06 R176 -/
def RNG_UT_WINDOWS (c : Nat) : Nat := 0x1020108 + c * 0x40000
/-- 06 R176 -/
def RNG_DISC_QW (c : Nat) : Nat := 0x1020110 + c * 0x40000
/-- 06 R176 -/
def RNG_DISC_UT (c : Nat) : Nat := 0x1020118 + c * 0x40000
/-- 06 R176 -/
def RNG_UT_COLLIDE (c : Nat) : Nat := 0x1020120 + c * 0x40000
/-- 06 R176 -/
def RNG_UT_EXCESS (c : Nat) : Nat := 0x1020128 + c * 0x40000
/-- 06 R176 -/
def RNG_CORRECTIONS (c : Nat) : Nat := 0x1020130 + c * 0x40000
/-- 06 R176 -/
def RNG_RERANGES (c : Nat) : Nat := 0x1020138 + c * 0x40000
/-- 06 R176 -/
def RNG_DUP_SN (c : Nat) : Nat := 0x1020140 + c * 0x40000
/-- 06 R176 -/
def RNG_FAR (c : Nat) : Nat := 0x1020148 + c * 0x40000
/-- 06 R176 -/
def RNG_ROGUE_ISOLATED (c : Nat) : Nat := 0x1020150 + c * 0x40000
/-- 07 R198 -/
def SHD_REPORTS (c : Nat) : Nat := 0x2000130 + c * 0x40000
/-- 07 R198 -/
def SHD_IDLE_OBS (c : Nat) : Nat := 0x2000138 + c * 0x40000
/-- 07 R198 -/
def SHD_ABSENT_OBS (c : Nat) : Nat := 0x2000140 + c * 0x40000
/-- 07 R198 -/
def SHD_INQ_DROP (c : Nat) : Nat := 0x2000148 + c * 0x40000
/-- 07 R198 -/
def SHD_FORMAT_REFUSED (c : Nat) : Nat := 0x2000150 + c * 0x40000
/-- 07 R198 -/
def SHD_CLOSE_STALE (c : Nat) : Nat := 0x2000158 + c * 0x40000
/-- 07 R198 -/
def SHD_CLOSE_EARLY (c : Nat) : Nat := 0x2000160 + c * 0x40000
/-- 07 R198 -/
def SHD_STALE_INPUT (c : Nat) : Nat := 0x2000168 + c * 0x40000
/-- 07 R198 -/
def SHD_INQ_FLUSH (c : Nat) : Nat := 0x2000170 + c * 0x40000
/-- 07 R198 -/
def SHD_TRIMMED_BURSTS (c : Nat) : Nat := 0x2000178 + c * 0x40000
/-- 08 R219 -/
def SHD_SWEEP_OVERRUN (c : Nat) : Nat := 0x2000180 + c * 0x40000
/-- 08 R219 -/
def SHD_LATE_SERVED (c : Nat) : Nat := 0x2000188 + c * 0x40000
/-- 08 R219 -/
def SHD_OVG_BYTES (c : Nat) : Nat := 0x2000190 + c * 0x40000
/-- 08 R219 -/
def SHD_HINTS_ACCEPTED (c : Nat) : Nat := 0x2000198 + c * 0x40000
/-- 08 R219 -/
def SHD_HINTS_REFUSED (c : Nat) : Nat := 0x20001a0 + c * 0x40000
/-- 08 R219 -/
def SHD_HINT_LATE (c : Nat) : Nat := 0x20001a8 + c * 0x40000
/-- 08 R219 -/
def SHD_HINT_MISS (c : Nat) : Nat := 0x20001b0 + c * 0x40000
/-- 08 R219 -/
def SHD_GRANT_CAP_HIT (c : Nat) : Nat := 0x20001b8 + c * 0x40000
/-- 08 R219 -/
def CLS_HINT_PDUS : Nat := 0x3000140
/-- 08 R219 -/
def CLS_HINT_BAD : Nat := 0x3000148
/-- 08 R219 -/
def CLS_HINT_REPLAY : Nat := 0x3000150
/-- 09 R249 -/
def SHU_SWAPS (k : Nat) : Nat := 0x800400 + k * 0x40000
/-- 09 R249 -/
def SHU_REFRESH_STEPS (k : Nat) : Nat := 0x800408 + k * 0x40000
/-- 09 R249 -/
def SHU_REFRESH_SKIPPED (k : Nat) : Nat := 0x800410 + k * 0x40000
/-- 09 R249 -/
def SHU_UPSETS_FOUND (k : Nat) : Nat := 0x800418 + k * 0x40000
/-- 09 R249 -/
def SHU_LOAD_FAIL (k : Nat) : Nat := 0x800420 + k * 0x40000
/-- 09 R249 -/
def SHU_THREAD_FAULTS (k : Nat) : Nat := 0x800428 + k * 0x40000
/-- 09 R249 -/
def SHU_ITEMS_REQUEUED (k : Nat) : Nat := 0x800430 + k * 0x40000
/-- 09 R249 -/
def SHU_ITEMS_DISCARDED (k : Nat) : Nat := 0x800438 + k * 0x40000
/-- 09 R249 -/
def SHU_CORRECTED (k : Nat) : Nat := 0x800440 + k * 0x40000
/-- 09 R249 -/
def SHU_SVC_REQS (k : Nat) : Nat := 0x800448 + k * 0x40000
/-- 09 R249 -/
def SHU_SVC_TIMEOUTS (k : Nat) : Nat := 0x800450 + k * 0x40000
/-- 09 R249 -/
def SHU_OMCI_RX_DROP (k : Nat) : Nat := 0x800458 + k * 0x40000
/-- 11 R289 -/
def CLS_PIPE_PASS1 (p : Nat) : Nat := 0x3000800 + p * 0x40
/-- 11 R289 -/
def CLS_PIPE_PASS2 (p : Nat) : Nat := 0x3000808 + p * 0x40
/-- 11 R289 -/
def CLS_PIPE_RECIRC_OVER (p : Nat) : Nat := 0x3000810 + p * 0x40
/-- 11 R289 -/
def CLS_PIPE_RECIRC_LOOP (p : Nat) : Nat := 0x3000818 + p * 0x40
/-- 11 R289 -/
def CLS_PIPE_FRAG (p : Nat) : Nat := 0x3000820 + p * 0x40
/-- 11 R289 -/
def CLS_PIPE_PARSE_LIMIT (p : Nat) : Nat := 0x3000828 + p * 0x40
/-- 11 R289 -/
def CLS_PIPE_TRUNC (p : Nat) : Nat := 0x3000830 + p * 0x40
/-- 11 R289 -/
def CLS_PIPE_DROPS (p : Nat) : Nat := 0x3000838 + p * 0x40
/-- 12 R307 -/
def FWD_LEARNS : Nat := 0x3800800
/-- 12 R307 -/
def FWD_LEARN_FAIL : Nat := 0x3800808
/-- 12 R307 -/
def FWD_LEARN_DROP : Nat := 0x3800810
/-- 12 R307 -/
def FWD_MOVES : Nat := 0x3800818
/-- 12 R307 -/
def FWD_MOVE_BLOCKED : Nat := 0x3800820
/-- 12 R307 -/
def FWD_AGED : Nat := 0x3800828
/-- 12 R307 -/
def FWD_FLOOD_UNKNOWN : Nat := 0x3800830
/-- 12 R307 -/
def FWD_NO_BD : Nat := 0x3800838
/-- 12 R307 -/
def FWD_SA_GROUP : Nat := 0x3800840
/-- 12 R307 -/
def FWD_HAIRPIN : Nat := 0x3800848
/-- 12 R307 -/
def FWD_ROUTE_MISS : Nat := 0x3800850
/-- 12 R307 -/
def FWD_NH_INVALID : Nat := 0x3800858
/-- 12 R307 -/
def FWD_TTL_EXPIRED : Nat := 0x3800860
/-- 12 R307 -/
def FWD_ENTRIES : Nat := 0x3800868
def FWD_ENTRIES_COUNT : Fld := ⟨0, 0, 21⟩
/-- 13 R329 -/
def TMG_POLICED : Nat := 0x4000800
/-- 13 R329 -/
def TMG_CLOSED : Nat := 0x4000808
/-- 13 R329 -/
def TMG_QFULL : Nat := 0x4000810
/-- 13 R329 -/
def TMG_ACCT_FULL : Nat := 0x4000818
/-- 13 R329 -/
def TMG_COPY_FULL : Nat := 0x4000820
/-- 13 R329 -/
def TMG_BUF_EMPTY : Nat := 0x4000828
/-- 13 R329 -/
def TMG_SPILL_RATE : Nat := 0x4000830
/-- 13 R329 -/
def TMG_NO_QUEUE : Nat := 0x4000838
/-- 13 R329 -/
def TMG_COPY_SKIP : Nat := 0x4000840
/-- 13 R329 -/
def TMG_TRAP_DROP : Nat := 0x4000848
/-- 13 R329 -/
def TMG_SPILL_BYTES : Nat := 0x4000850
/-- 13 R329 -/
def BPM_FREE_REFUSED : Nat := 0x4800200
/-- 13 R329 -/
def BPM_SPILL_UE : Nat := 0x4800208
/-- 14 R351 -/
def TRB_STAT_RX_UNITS (t : Nat) : Nat := 0x9900000 + t * 0x80
/-- 14 R351 -/
def TRB_STAT_MISSING (t : Nat) : Nat := 0x9900008 + t * 0x80
/-- 14 R351 -/
def TRB_STAT_HDR_BAD (t : Nat) : Nat := 0x9900010 + t * 0x80
/-- 14 R351 -/
def TRB_STAT_JUST_POS (t : Nat) : Nat := 0x9900018 + t * 0x80
/-- 14 R351 -/
def TRB_STAT_JUST_NEG (t : Nat) : Nat := 0x9900020 + t * 0x80
/-- 14 R351 -/
def TRB_STAT_JUST_VIOL (t : Nat) : Nat := 0x9900028 + t * 0x80
/-- 14 R351 -/
def TRB_STAT_JC_BAD (t : Nat) : Nat := 0x9900030 + t * 0x80
/-- 14 R351 -/
def TRB_STAT_SLIPS (t : Nat) : Nat := 0x9900038 + t * 0x80
/-- 14 R351 -/
def TRB_STAT_PW_LOST (t : Nat) : Nat := 0x9900040 + t * 0x80
/-- 14 R351 -/
def TRB_STAT_PW_LATE (t : Nat) : Nat := 0x9900048 + t * 0x80
/-- 14 R351 -/
def TRB_STAT_PW_MALFORMED (t : Nat) : Nat := 0x9900050 + t * 0x80
/-- 14 R351 -/
def TRB_STAT_JB_UNDER (t : Nat) : Nat := 0x9900058 + t * 0x80
/-- 14 R351 -/
def TRB_STAT_JB_OVER (t : Nat) : Nat := 0x9900060 + t * 0x80
/-- 14 R351 -/
def TRB_STAT_DUP (t : Nat) : Nat := 0x9900068 + t * 0x80
/-- 14 R351 -/
def TRB_STAT_DISABLED_RX (t : Nat) : Nat := 0x9900070 + t * 0x80
/-- 14 R351 -/
def TRB_STAT_KIND_MISMATCH (t : Nat) : Nat := 0x9900078 + t * 0x80
/-- 15 R371 -/
def CRY_TAG_FAIL : Nat := 0x5000800
/-- 15 R371 -/
def CRY_TAG_CUT : Nat := 0x5000808
/-- 15 R371 -/
def CRY_NO_KEY : Nat := 0x5000810
/-- 15 R371 -/
def CRY_FB_DROP : Nat := 0x5000818
/-- 15 R371 -/
def CRY_BLOBS : Nat := 0x5000820
/-- 15 R371 -/
def CRY_BLOBS_REFUSED : Nat := 0x5000828
/-- 15 R371 -/
def CRY_NONCE_GUARD : Nat := 0x5000830
/-- 15 R371 -/
def CRY_ENT_FAILS : Nat := 0x5000838
/-- 16 R392 -/
def TIM_SAMPLES : Nat := 0x600700
/-- 16 R392 -/
def TIM_JUMP_REFUSED : Nat := 0x600708
/-- 16 R392 -/
def TIM_DISCARDED : Nat := 0x600710
/-- 16 R392 -/
def TIM_STEPS : Nat := 0x600718
/-- 16 R392 -/
def TIM_TS_OVF : Nat := 0x600720
/-- 16 R392 -/
def TIM_PPS_REJECT : Nat := 0x600728
/-- 17 R411 -/
def HSL_RX_FRAMES (l : Nat) : Nat := 0x6000100 + l * 0x40000
/-- 17 R411 -/
def HSL_TX_FRAMES (l : Nat) : Nat := 0x6000108 + l * 0x40000
/-- 17 R411 -/
def HSL_RX_BYTES (l : Nat) : Nat := 0x6000110 + l * 0x40000
/-- 17 R411 -/
def HSL_TX_BYTES (l : Nat) : Nat := 0x6000118 + l * 0x40000
/-- 17 R411 -/
def HSL_FCS_ERR (l : Nat) : Nat := 0x6000120 + l * 0x40000
/-- 17 R411 -/
def HSL_OVERSIZE (l : Nat) : Nat := 0x6000128 + l * 0x40000
/-- 17 R411 -/
def HSL_FEC_CORR (l : Nat) : Nat := 0x6000130 + l * 0x40000
/-- 17 R411 -/
def HSL_FEC_UNCORR (l : Nat) : Nat := 0x6000138 + l * 0x40000
/-- 17 R411 -/
def HSL_RX_LF_DROP (l : Nat) : Nat := 0x6000140 + l * 0x40000
/-- 17 R411 -/
def HSL_LPI_TX_US (l : Nat) : Nat := 0x6000148 + l * 0x40000
/-- 17 R411 -/
def HSL_LPI_RX_US (l : Nat) : Nat := 0x6000150 + l * 0x40000
/-- 17 R411 -/
def HSL_BLANKED (l : Nat) : Nat := 0x6000158 + l * 0x40000
/-- 17 R411 -/
def SLV_HB_TX : Nat := 0x6800800
/-- 17 R411 -/
def SLV_HB_RX_LINK : Nat := 0x6800808
/-- 17 R411 -/
def SLV_HB_RX_PIN : Nat := 0x6800810
/-- 17 R411 -/
def SLV_PIN_WORD_BAD : Nat := 0x6800818
/-- 17 R411 -/
def SLV_BAD_BLOCK : Nat := 0x6800820
/-- 17 R411 -/
def SLV_MSG_BAD : Nat := 0x6800828
/-- 17 R411 -/
def SLV_MSG_RX : Nat := 0x6800830
/-- 17 R411 -/
def SLV_MBX_DROP : Nat := 0x6800838
/-- 17 R411 -/
def SLV_AM_LOSS : Nat := 0x6800840
/-- 18 R434 -/
def BLT_CUT_REFUSED : Nat := 0x7800800
/-- 18 R434 -/
def BLT_CUT_JOINED : Nat := 0x7800808
/-- 18 R434 -/
def BLT_SRAM_ALARMS : Nat := 0x7800810
/-- 18 R434 -/
def BLT_SEG_CLOSED : Nat := 0x7800818
/-- 18 R434 -/
def BLT_COUNT_RECORDS : Nat := 0x7800820
/-- 19 R448 -/
def PMC_SLOT_RETIRED (q : Nat) : Nat := 0x8002000 + q * 0x20
/-- 19 R448 -/
def PMC_SLOT_WASTED (q : Nat) : Nat := 0x8002008 + q * 0x20
/-- 19 R448 -/
def PMC_SLOT_STARVED_FRONT (q : Nat) : Nat := 0x8002010 + q * 0x20
/-- 19 R448 -/
def PMC_SLOT_STARVED_BACK (q : Nat) : Nat := 0x8002018 + q * 0x20
/-- 20 R469 -/
def TMP_FAULTS : Nat := 0x400100
/-- 20 R469 -/
def TMP_TRANSIENTS : Nat := 0x400108
/-- 20 R469 -/
def TMP_RETIREMENTS : Nat := 0x400110
/-- 20 R469 -/
def TMP_SAFE_ENTRIES : Nat := 0x400118
/-- 20 R469 -/
def TMP_BLANKED : Nat := 0x400120
/-- 20 R469 -/
def TMP_IGNORED : Nat := 0x400128
/-- 20 R469 -/
def TMP_INJECTED : Nat := 0x400130
/-- 21 R485 -/
def CLK_REF_LOST : Nat := 0x200300
/-- 21 R485 -/
def CLK_SWITCHES : Nat := 0x200308
/-- 21 R485 -/
def CLK_COAST_ENTRIES : Nat := 0x200310
/-- 21 R485 -/
def CLK_MUX_HANGS : Nat := 0x200318
/-- 21 R485 -/
def CLK_BLK_RESETS : Nat := 0x200320
/-- 23 R515 -/
def SLV_TAKEOVERS : Nat := 0x6800848
/-- 23 R515 -/
def SLV_SELF_MUTES : Nat := 0x6800850
/-- 23 R515 -/
def SLV_YIELDS : Nat := 0x6800858
/-- 23 R515 -/
def SLV_HANDOVERS : Nat := 0x6800860
/-- 23 R515 -/
def SLV_RECORDS_TX : Nat := 0x6800868
/-- 23 R515 -/
def SLV_RECORDS_RX : Nat := 0x6800870
/-- 23 R515 -/
def SLV_IPROT_SWITCHES : Nat := 0x6800878
/-- 02 R60 -/
def HPI_MSIX (v : Nat) : Nat := 0x110000 + v * 0x10
def HPI_MSIX_ADDR_LO : Fld := ⟨0, 0, 32⟩
def HPI_MSIX_ADDR_HI : Fld := ⟨1, 0, 32⟩
def HPI_MSIX_MASKED : Fld := ⟨3, 0, 1⟩
/-- 02 R60 -/
def HPI_PBA (j : Nat) : Nat := 0x118000 + j * 0x4
def HPI_PBA_PENDING : Fld := ⟨0, 0, 32⟩
/-- 02 R62 -/
def HPI_ERR_ADDR : Nat := 0x100018
/-- 02 R61 -/
def HPI_INT_EN (j : Nat) : Nat := 0x13f000 + j * 0x4
def HPI_INT_EN_EN : Fld := ⟨0, 0, 32⟩
/-- 02 R61 -/
def CLK_INT_EN (j : Nat) : Nat := 0x23f000 + j * 0x4
def CLK_INT_EN_EN : Fld := ⟨0, 0, 32⟩
/-- 02 R61 -/
def PWR_INT_EN (j : Nat) : Nat := 0x33f000 + j * 0x4
def PWR_INT_EN_EN : Fld := ⟨0, 0, 32⟩
/-- 02 R61 -/
def TMP_INT_EN (j : Nat) : Nat := 0x43f000 + j * 0x4
def TMP_INT_EN_EN : Fld := ⟨0, 0, 32⟩
/-- 02 R61 -/
def TIM_INT_EN (j : Nat) : Nat := 0x63f000 + j * 0x4
def TIM_INT_EN_EN : Fld := ⟨0, 0, 32⟩
/-- 02 R61 -/
def DRF_INT_EN (j : Nat) : Nat := 0x73f000 + j * 0x4
def DRF_INT_EN_EN : Fld := ⟨0, 0, 32⟩
/-- 02 R61 -/
def CLS_INT_EN (j : Nat) : Nat := 0x303f000 + j * 0x4
def CLS_INT_EN_EN : Fld := ⟨0, 0, 32⟩
/-- 02 R61 -/
def FWD_INT_EN (j : Nat) : Nat := 0x383f000 + j * 0x4
def FWD_INT_EN_EN : Fld := ⟨0, 0, 32⟩
/-- 02 R61 -/
def TMG_INT_EN (j : Nat) : Nat := 0x403f000 + j * 0x4
def TMG_INT_EN_EN : Fld := ⟨0, 0, 32⟩
/-- 02 R61 -/
def BPM_INT_EN (j : Nat) : Nat := 0x483f000 + j * 0x4
def BPM_INT_EN_EN : Fld := ⟨0, 0, 32⟩
/-- 02 R61 -/
def CRY_INT_EN (j : Nat) : Nat := 0x503f000 + j * 0x4
def CRY_INT_EN_EN : Fld := ⟨0, 0, 32⟩
/-- 02 R61 -/
def TRB_INT_EN (j : Nat) : Nat := 0x583f000 + j * 0x4
def TRB_INT_EN_EN : Fld := ⟨0, 0, 32⟩
/-- 02 R61 -/
def SLV_INT_EN (j : Nat) : Nat := 0x683f000 + j * 0x4
def SLV_INT_EN_EN : Fld := ⟨0, 0, 32⟩
/-- 02 R61 -/
def BLT_INT_EN (j : Nat) : Nat := 0x783f000 + j * 0x4
def BLT_INT_EN_EN : Fld := ⟨0, 0, 32⟩
/-- 02 R61 -/
def PMC_INT_EN (j : Nat) : Nat := 0x803f000 + j * 0x4
def PMC_INT_EN_EN : Fld := ⟨0, 0, 32⟩
/-- 02 R61 -/
def SHU_INT_EN (k j : Nat) : Nat := 0x83f000 + k * 0x40000 + j * 0x4
def SHU_INT_EN_EN : Fld := ⟨0, 0, 32⟩
/-- 02 R61 -/
def PCH_INT_EN (c j : Nat) : Nat := 0x103f000 + c * 0x40000 + j * 0x4
def PCH_INT_EN_EN : Fld := ⟨0, 0, 32⟩
/-- 02 R61 -/
def SHD_INT_EN (c j : Nat) : Nat := 0x203f000 + c * 0x40000 + j * 0x4
def SHD_INT_EN_EN : Fld := ⟨0, 0, 32⟩
/-- 02 R61 -/
def HSL_INT_EN (l j : Nat) : Nat := 0x603f000 + l * 0x40000 + j * 0x4
def HSL_INT_EN_EN : Fld := ⟨0, 0, 32⟩
/-- 02 R61 -/
def MEM_INT_EN (m j : Nat) : Nat := 0x703f000 + m * 0x100000 + j * 0x4
def MEM_INT_EN_EN : Fld := ⟨0, 0, 32⟩
/-- 01 R37 -/
def BPM_AUD (p : Nat) : Nat := 0x4804000 + p * 0x10
def BPM_AUD_SIZE : Fld := ⟨0, 0, 32⟩
def BPM_AUD_FREE : Fld := ⟨1, 0, 32⟩
def BPM_AUD_INUSE : Fld := ⟨2, 0, 32⟩
/-- 01 R42 -/
def PMC_AUD_CREDIT : Nat := 0x8000200
def PMC_AUD_CREDIT_LOOPS : Fld := ⟨0, 0, 11⟩
/-- 01 R37 -/
def TMG_AUD_ENQUEUED (q : Nat) : Nat := 0x9000000 + q * 0x20
/-- 01 R37 -/
def TMG_AUD_DEQUEUED (q : Nat) : Nat := 0x9000008 + q * 0x20
/-- 01 R37 -/
def TMG_AUD_DROPPED (q : Nat) : Nat := 0x9000010 + q * 0x20
/-- 01 R37 -/
def TMG_AUD_RESIDENT (q : Nat) : Nat := 0x9000018 + q * 0x20
/-- 13 R329 -/
def TMG_AUD_REF (q : Nat) : Nat := 0x9600000 + q * 0x8
/-- 01 R37 -/
def BLT_AUD_PRODUCED (j : Nat) : Nat := 0x7802000 + j * 0x40
/-- 01 R37 -/
def BLT_AUD_STORED (j : Nat) : Nat := 0x7802008 + j * 0x40
/-- 01 R37 -/
def BLT_AUD_DROPPED (j : Nat) : Nat := 0x7802010 + j * 0x40
/-- 01 R37 -/
def BLT_AUD_COALESCED (j : Nat) : Nat := 0x7802018 + j * 0x40
/-- 01 R37 -/
def BLT_AUD_LOST (j : Nat) : Nat := 0x7802020 + j * 0x40
/-- 03 R93 -/
def PCH_BLANKED (c : Nat) : Nat := 0x1030020 + c * 0x40000
/-- 03 R97 -/
def PCH_MOD_DATA (c : Nat) : Nat := 0x1030048 + c * 0x40000
/-- 04 R118 -/
def DSF_ALIGN_ERR (c : Nat) : Nat := 0x100000c + c * 0x40000
/-- 04 R118 -/
def DSF_SFC (c : Nat) : Nat := 0x1000010 + c * 0x40000
/-- 04 R118 -/
def DSF_SFC_INIT (c : Nat) : Nat := 0x1000018 + c * 0x40000
/-- 04 R118 -/
def DSF_PSYNC_SEC (c : Nat) : Nat := 0x1000020 + c * 0x40000
/-- 04 R118 -/
def DSF_PSYNC_NS (c : Nat) : Nat := 0x1000028 + c * 0x40000
/-- 04 R118 -/
def DSF_TX_CORRUPT (c : Nat) : Nat := 0x1000030 + c * 0x40000
/-- 09 R249 -/
def SHU_FAULT_IMM (k : Nat) : Nat := 0x800024 + k * 0x40000
def SHU_FAULT_IMM_IMM : Fld := ⟨0, 0, 16⟩
/-- 09 R248 -/
def SHU_SVC_REQ (k : Nat) : Nat := 0x800300 + k * 0x40000
def SHU_SVC_REQ_W0 : Fld := ⟨0, 0, 32⟩
def SHU_SVC_REQ_W1 : Fld := ⟨1, 0, 32⟩
def SHU_SVC_REQ_W2 : Fld := ⟨2, 0, 32⟩
def SHU_SVC_REQ_W3 : Fld := ⟨3, 0, 32⟩
def SHU_SVC_REQ_W4 : Fld := ⟨4, 0, 32⟩
def SHU_SVC_REQ_W5 : Fld := ⟨5, 0, 32⟩
def SHU_SVC_REQ_W6 : Fld := ⟨6, 0, 32⟩
def SHU_SVC_REQ_W7 : Fld := ⟨7, 0, 32⟩
/-- 09 R248 -/
def SHU_SVC_RSP (k : Nat) : Nat := 0x800320 + k * 0x40000
def SHU_SVC_RSP_W0 : Fld := ⟨0, 0, 32⟩
def SHU_SVC_RSP_W1 : Fld := ⟨1, 0, 32⟩
def SHU_SVC_RSP_W2 : Fld := ⟨2, 0, 32⟩
def SHU_SVC_RSP_W3 : Fld := ⟨3, 0, 32⟩
def SHU_SVC_RSP_W4 : Fld := ⟨4, 0, 32⟩
def SHU_SVC_RSP_W5 : Fld := ⟨5, 0, 32⟩
def SHU_SVC_RSP_W6 : Fld := ⟨6, 0, 32⟩
def SHU_SVC_RSP_W7 : Fld := ⟨7, 0, 32⟩
/-- 10 R270 -/
def DRF_SRC : Nat := 0x700008
/-- 10 R270 -/
def DRF_BUILD : Nat := 0x700010
/-- 10 R270 -/
def DRF_INFO : Nat := 0x700018
def DRF_INFO_FMT_MAJOR : Fld := ⟨0, 16, 16⟩
def DRF_INFO_FMT_MINOR : Fld := ⟨0, 8, 8⟩
def DRF_INFO_SIGNER : Fld := ⟨0, 7, 1⟩
def DRF_INFO_SOURCE : Fld := ⟨0, 0, 3⟩
/-- 10 R270 -/
def DRF_SVN : Nat := 0x70001c
/-- 10 R270 -/
def DRF_SVN_FLOOR : Nat := 0x700020
/-- 10 R270 -/
def DRF_CAPS : Nat := 0x700024
def DRF_CAPS_FMT_MAJOR : Fld := ⟨0, 16, 16⟩
def DRF_CAPS_FMT_MINOR : Fld := ⟨0, 0, 16⟩
/-- 10 R270 -/
def DRF_STREAM_LEN : Nat := 0x700028
/-- 10 R270 -/
def DRF_REGION (k : Nat) : Nat := 0x700100 + k * 0x4
/-- 10 R270 -/
def DRF_STREAM (w : Nat) : Nat := 0x710000 + w * 0x4
/-- 11 R289 -/
def CLS_TABLE_MISS (t : Nat) : Nat := 0x3000200 + t * 0x10
def CLS_TABLE_MISS_W0 : Fld := ⟨0, 0, 32⟩
def CLS_TABLE_MISS_W1 : Fld := ⟨1, 0, 32⟩
def CLS_TABLE_MISS_W2 : Fld := ⟨2, 0, 32⟩
def CLS_TABLE_MISS_W3 : Fld := ⟨3, 0, 32⟩
/-- 11 R289 -/
def CLS_STAGE (s w : Nat) : Nat := 0x3001000 + s * 0x80 + w * 0x4
/-- 11 R289 -/
def CLS_RULE (i w : Nat) : Nat := 0xb000000 + i * 0x80 + w * 0x4
/-- 11 R289 -/
def CLS_HIT (i : Nat) : Nat := 0xb600000 + i * 0x8
/-- 12 R307 -/
def FWD_MAC_RSP : Nat := 0x3800110
def FWD_MAC_RSP_STATUS : Fld := ⟨0, 24, 8⟩
def FWD_MAC_RSP_POS : Fld := ⟨0, 0, 20⟩
def FWD_MAC_RSP_W1 : Fld := ⟨1, 0, 32⟩
def FWD_MAC_RSP_W2 : Fld := ⟨2, 0, 32⟩
def FWD_MAC_RSP_W3 : Fld := ⟨3, 0, 32⟩
/-- 12 R307 -/
def FWD_RT_RSP : Nat := 0x3800220
def FWD_RT_RSP_STATUS : Fld := ⟨0, 24, 8⟩
def FWD_RT_RSP_NH : Fld := ⟨0, 0, 16⟩
/-- 12 R307 -/
def FWD_RMAC (j : Nat) : Nat := 0x3800600 + j * 0x8
/-- 13 R329 -/
def TMG_TRAP_BASE : Nat := 0x4000030
/-- 13 R329 -/
def TMG_TRAP_CTL : Nat := 0x4000038
def TMG_TRAP_CTL_TRAP_KPPS : Fld := ⟨0, 16, 16⟩
def TMG_TRAP_CTL_LOG2 : Fld := ⟨0, 0, 5⟩
/-- 13 R329 -/
def TMG_TRAP_WR : Nat := 0x400003c
/-- 13 R329 -/
def TMG_TRAP_RD : Nat := 0x4000040
/-- 13 R329 -/
def TMG_SRC (i : Nat) : Nat := 0x4000400 + i * 0x4
def TMG_SRC_DEF_TC : Fld := ⟨0, 0, 3⟩
/-- 13 R329 -/
def TMG_ACCT (a : Nat) : Nat := 0x4020000 + a * 0x8
def TMG_ACCT_LIMIT : Fld := ⟨0, 0, 24⟩
def TMG_ACCT_USED : Fld := ⟨1, 0, 32⟩
/-- 14 R351 -/
def TRB_TMPL (t w : Nat) : Nat := 0x98a0000 + t * 0x40 + w * 0x4
/-- 14 R351 -/
def TRB_BLANKED : Nat := 0x5800100
/-- 14 R351 -/
def TRB_JC_LATE : Nat := 0x5800108
/-- 15 R371 -/
def CRY_BLOB (w : Nat) : Nat := 0x5000100 + w * 0x4
/-- 15 R371 -/
def CRY_ERASE : Nat := 0x5000008
def CRY_ERASE_GO : Fld := ⟨0, 31, 1⟩
def CRY_ERASE_HOST_MASK : Fld := ⟨0, 0, 1⟩
/-- 15 R371 -/
def CRY_SLOT_CLR : Nat := 0x500000c
def CRY_SLOT_CLR_SLOT : Fld := ⟨0, 0, 17⟩
/-- 15 R371 -/
def CRY_ENGINE : Nat := 0x5000010
def CRY_ENGINE_FALLBACK : Fld := ⟨0, 0, 16⟩
def CRY_ENGINE_MASKED : Fld := ⟨0, 16, 4⟩
/-- 15 R371 -/
def CRY_FB_PCT : Nat := 0x5000014
def CRY_FB_PCT_FB_PCT : Fld := ⟨0, 0, 7⟩
/-- 15 R371 -/
def CRY_ID_PUB (w : Nat) : Nat := 0x5000200 + w * 0x4
/-- 15 R371 -/
def CRY_NONCE (w : Nat) : Nat := 0x5000280 + w * 0x4
/-- 15 R371 -/
def CRY_ENROL_IN (w : Nat) : Nat := 0x5000300 + w * 0x4
/-- 15 R371 -/
def CRY_ENROL_CTL : Nat := 0x5000500
def CRY_ENROL_CTL_GO : Fld := ⟨0, 31, 1⟩
def CRY_ENROL_CTL_RESULT : Fld := ⟨0, 0, 4⟩
/-- 15 R371 -/
def CRY_OWNER : Nat := 0x5000504
def CRY_OWNER_BANKS : Fld := ⟨0, 0, 3⟩
/-- 16 R392 -/
def TIM_NOW_NS : Nat := 0x600010
/-- 16 R392 -/
def TIM_NOW_SEC : Nat := 0x600014
/-- 16 R392 -/
def TIM_NOW_X : Nat := 0x600018
def TIM_NOW_X_SEC_HI : Fld := ⟨0, 16, 16⟩
def TIM_NOW_X_FRAC : Fld := ⟨0, 0, 16⟩
/-- 16 R392 -/
def TIM_NOW64 : Nat := 0x600020
/-- 16 R392 -/
def TIM_STEP : Nat := 0x600038
/-- 16 R392 -/
def TIM_FREQ : Nat := 0x600044
/-- 16 R392 -/
def TIM_PTP_OFS : Nat := 0x600048
def TIM_PTP_OFS_OFFSET : Fld := ⟨0, 0, 32⟩
/-- 16 R392 -/
def TIM_PTP_TS : Nat := 0x600050
/-- 16 R392 -/
def TIM_TS_RX : Nat := 0x600060
def TIM_TS_RX_W0 : Fld := ⟨0, 0, 32⟩
def TIM_TS_RX_W1 : Fld := ⟨1, 0, 32⟩
def TIM_TS_RX_W2 : Fld := ⟨2, 0, 32⟩
def TIM_TS_RX_W3 : Fld := ⟨3, 0, 32⟩
/-- 16 R392 -/
def TIM_TS_TX : Nat := 0x600070
def TIM_TS_TX_W0 : Fld := ⟨0, 0, 32⟩
def TIM_TS_TX_W1 : Fld := ⟨1, 0, 32⟩
def TIM_TS_TX_W2 : Fld := ⟨2, 0, 32⟩
def TIM_TS_TX_W3 : Fld := ⟨3, 0, 32⟩
/-- 16 R392 -/
def TIM_OUT_DLY (p : Nat) : Nat := 0x600080 + p * 0x4
def TIM_OUT_DLY_OUT_DLY : Fld := ⟨0, 0, 16⟩
/-- 16 R392 -/
def TIM_PPSIN (i : Nat) : Nat := 0x600180 + i * 0x10
def TIM_PPSIN_EN : Fld := ⟨0, 31, 1⟩
def TIM_PPSIN_POL : Fld := ⟨0, 30, 1⟩
def TIM_PPSIN_IN_DLY : Fld := ⟨0, 0, 16⟩
def TIM_PPSIN_NS : Fld := ⟨1, 0, 32⟩
def TIM_PPSIN_SEC : Fld := ⟨2, 0, 32⟩
def TIM_PPSIN_SEC_HI : Fld := ⟨3, 0, 16⟩
/-- 16 R392 -/
def TIM_PTP_TX (w : Nat) : Nat := 0x600a00 + w * 0x4
/-- 16 R392 -/
def TIM_PTP_TX_CTL : Nat := 0x600b00
def TIM_PTP_TX_CTL_GO : Fld := ⟨0, 31, 1⟩
def TIM_PTP_TX_CTL_ONE_STEP : Fld := ⟨0, 30, 1⟩
def TIM_PTP_TX_CTL_LANE : Fld := ⟨0, 25, 5⟩
def TIM_PTP_TX_CTL_TS_OFS : Fld := ⟨0, 16, 9⟩
def TIM_PTP_TX_CTL_LEN2 : Fld := ⟨0, 8, 8⟩
def TIM_PTP_TX_CTL_RESULT : Fld := ⟨0, 0, 2⟩
/-- 16 R392 -/
def TIM_LANE (l : Nat) : Nat := 0x600800 + l * 0x10
def TIM_LANE_RX_CORR : Fld := ⟨0, 0, 16⟩
def TIM_LANE_TX_CORR : Fld := ⟨1, 0, 16⟩
/-- 16 R392 -/
def TIM_TOD (c : Nat) : Nat := 0x601000 + c * 0x20
def TIM_TOD_TX_DLY : Fld := ⟨0, 0, 16⟩
def TIM_TOD_VALID : Fld := ⟨1, 31, 1⟩
def TIM_TOD_N_LO : Fld := ⟨2, 0, 32⟩
def TIM_TOD_SEC : Fld := ⟨3, 0, 32⟩
def TIM_TOD_NS : Fld := ⟨4, 0, 32⟩
def TIM_TOD_X : Fld := ⟨5, 0, 32⟩
/-- 16 R392 -/
def TIM_TRIG_SUM : Nat := 0x600600
/-- 17 R411 -/
def HSL_LPI_TIME (l : Nat) : Nat := 0x600000c + l * 0x40000
def HSL_LPI_TIME_IDLE_US : Fld := ⟨0, 0, 16⟩
/-- 17 R411 -/
def SLV_MBX_TX (w : Nat) : Nat := 0x6800100 + w * 0x4
/-- 17 R411 -/
def SLV_MBX_TX_CTL : Nat := 0x6800200
def SLV_MBX_TX_CTL_GO : Fld := ⟨0, 31, 1⟩
def SLV_MBX_TX_CTL_RESULT : Fld := ⟨0, 16, 2⟩
def SLV_MBX_TX_CTL_LEN : Fld := ⟨0, 0, 9⟩
/-- 17 R411 -/
def SLV_MBX_RX (w : Nat) : Nat := 0x6800300 + w * 0x4
/-- 17 R411 -/
def SLV_MBX_RX_CTL : Nat := 0x6800400
def SLV_MBX_RX_CTL_VALID : Fld := ⟨0, 31, 1⟩
def SLV_MBX_RX_CTL_POP : Fld := ⟨0, 30, 1⟩
def SLV_MBX_RX_CTL_LEN : Fld := ⟨0, 0, 9⟩
/-- 18 R434 -/
def BLT_QUEUE : Nat := 0x7800008
def BLT_QUEUE_HIGH_WATER : Fld := ⟨0, 16, 16⟩
def BLT_QUEUE_FILL : Fld := ⟨0, 0, 16⟩
/-- 18 R434 -/
def BLT_QUEUE_CLR : Nat := 0x780000c
def BLT_QUEUE_CLR_CLR : Fld := ⟨0, 31, 1⟩
/-- 18 R434 -/
def BLT_CUT_DEF : Nat := 0x7800304
def BLT_CUT_DEF_PRE_S : Fld := ⟨0, 16, 16⟩
def BLT_CUT_DEF_POST_S : Fld := ⟨0, 0, 16⟩
/-- 19 R448 -/
def PMC_DUMP_INFO : Nat := 0x8000014
def PMC_DUMP_INFO_SLOTS : Fld := ⟨0, 16, 16⟩
def PMC_DUMP_INFO_NEXT : Fld := ⟨0, 0, 16⟩
/-- 19 R448 -/
def PMC_DUMP_SEQ : Nat := 0x8000018
/-- 19 R448 -/
def PMC_DUMP_COUNT (g : Nat) : Nat := 0x8000020 + g * 0x4
/-- 19 R448 -/
def PMC_DUMP_TSCOPE (j : Nat) : Nat := 0x8000040 + j * 0x4
def PMC_DUMP_TSCOPE_SCOPE : Fld := ⟨0, 0, 6⟩
/-- 19 R448 -/
def PMC_DUMP_SKIPPED : Nat := 0x80000c0
/-- 19 R448 -/
def PMC_OVF (j : Nat) : Nat := 0x8000300 + j * 0x4
def PMC_OVF_SEQ : Fld := ⟨0, 24, 8⟩
def PMC_OVF_WRAPPED : Fld := ⟨0, 0, 16⟩
/-- 19 R448 -/
def PMC_OVF_EN (j : Nat) : Nat := 0x8000380 + j * 0x4
def PMC_OVF_EN_EN : Fld := ⟨0, 0, 16⟩
/-- 19 R448 -/
def PMC_DUMP_MAP (i : Nat) : Nat := 0xa200000 + i * 0x4
/-- 19 R448 -/
def PMC_TAG_CTL (k : Nat) : Nat := 0x8004000 + k * 0x40
def PMC_TAG_CTL_EN : Fld := ⟨0, 31, 1⟩
def PMC_TAG_CTL_TO_BOLT : Fld := ⟨0, 30, 1⟩
def PMC_TAG_CTL_ROLES : Fld := ⟨0, 8, 16⟩
def PMC_TAG_CTL_K : Fld := ⟨0, 0, 5⟩
/-- 19 R448 -/
def PMC_TAG_FIFO (k : Nat) : Nat := 0x8004010 + k * 0x40
def PMC_TAG_FIFO_W0 : Fld := ⟨0, 0, 32⟩
def PMC_TAG_FIFO_W1 : Fld := ⟨1, 0, 32⟩
def PMC_TAG_FIFO_W2 : Fld := ⟨2, 0, 32⟩
def PMC_TAG_FIFO_W3 : Fld := ⟨3, 0, 32⟩
/-- 19 R448 -/
def PMC_TAG_TAGS (k : Nat) : Nat := 0x8004020 + k * 0x40
/-- 19 R448 -/
def PMC_TAG_SKIPPED (k : Nat) : Nat := 0x8004028 + k * 0x40
/-- 19 R448 -/
def PMC_BW_CTL (c : Nat) : Nat := 0x8005000 + c * 0x40
def PMC_BW_CTL_WIN_MS : Fld := ⟨0, 0, 14⟩
/-- 19 R448 -/
def PMC_BW_STATUS (c : Nat) : Nat := 0x8005004 + c * 0x40
def PMC_BW_STATUS_STEPPED : Fld := ⟨0, 31, 1⟩
def PMC_BW_STATUS_WINDOWS : Fld := ⟨0, 0, 24⟩
/-- 19 R448 -/
def PMC_BW_DS_BYTES (c : Nat) : Nat := 0x8005008 + c * 0x40
/-- 19 R448 -/
def PMC_BW_US_BYTES (c : Nat) : Nat := 0x8005010 + c * 0x40
/-- 19 R448 -/
def PMC_BW_GRANTED (c : Nat) : Nat := 0x8005018 + c * 0x40
/-- 19 R448 -/
def PMC_BW_DS_PEAK (c : Nat) : Nat := 0x8005020 + c * 0x40
/-- 19 R448 -/
def PMC_BW_US_PEAK (c : Nat) : Nat := 0x8005028 + c * 0x40
/-- 19 R448 -/
def PMC_BW_END_NS (c : Nat) : Nat := 0x8005030 + c * 0x40
/-- 20 R469 -/
def TMP_SAFE_CTL : Nat := 0x400014
def TMP_SAFE_CTL_QUIET_S : Fld := ⟨0, 0, 16⟩
/-- 20 R469 -/
def TMP_CAUSE (j : Nat) : Nat := 0x400020 + j * 0x4
def TMP_CAUSE_LIVE : Fld := ⟨0, 0, 32⟩
/-- 20 R469 -/
def TMP_ALERT : Nat := 0x400030
def TMP_ALERT_SEQ : Fld := ⟨0, 24, 8⟩
def TMP_ALERT_ALERT_LIVE : Fld := ⟨0, 1, 1⟩
def TMP_ALERT_ALERT_EVT : Fld := ⟨0, 0, 1⟩
/-- 20 R469 -/
def TMP_INJ_MASK : Nat := 0x400064
def TMP_INJ_MASK_INV : Fld := ⟨0, 0, 32⟩
/-- 20 R469 -/
def TMP_REACT (k : Nat) : Nat := 0x400400 + k * 0x8
def TMP_REACT_W0 : Fld := ⟨0, 0, 32⟩
def TMP_REACT_W1 : Fld := ⟨1, 0, 32⟩
/-- 22 R499 -/
def TMP_ASRAM : Nat := 0x400070
def TMP_ASRAM_FILL : Fld := ⟨0, 0, 11⟩
/-- 22 R499 -/
def TMP_ASRAM_WIN (w : Nat) : Nat := 0x480000 + w * 0x4
/-- 21 R485 -/
def CLK_PPM (s : Nat) : Nat := 0x200010 + s * 0x4
def CLK_PPM_OFFSET : Fld := ⟨0, 0, 32⟩
/-- 21 R485 -/
def CLK_PLL (p : Nat) : Nat := 0x200040 + p * 0x4
def CLK_PLL_LOCKED : Fld := ⟨0, 31, 1⟩
def CLK_PLL_COASTING : Fld := ⟨0, 30, 1⟩
def CLK_PLL_BYPASS : Fld := ⟨0, 29, 1⟩
def CLK_PLL_MHZ : Fld := ⟨0, 0, 16⟩
/-- 21 R485 -/
def CLK_GATE (n : Nat) : Nat := 0x200800 + n * 0x4
def CLK_GATE_GATE : Fld := ⟨0, 31, 1⟩
def CLK_GATE_GATED : Fld := ⟨0, 30, 1⟩
/-- 21 R485 -/
def CLK_BLK_RST : Nat := 0x200200
def CLK_BLK_RST_GO : Fld := ⟨0, 31, 1⟩
def CLK_BLK_RST_SOURCE : Fld := ⟨0, 0, 8⟩
/-- 21 R485 -/
def CLK_RST_CAUSE : Nat := 0x200210
def CLK_RST_CAUSE_CAUSE : Fld := ⟨0, 0, 1⟩
/-- 22 R499 -/
def PWR_THERM : Nat := 0x300400
def PWR_THERM_T_THROTTLE : Fld := ⟨0, 16, 16⟩
def PWR_THERM_TJ : Fld := ⟨0, 0, 16⟩
/-- 22 R499 -/
def PWR_TEMP (s : Nat) : Nat := 0x300440 + s * 0x4
def PWR_TEMP_TEMP : Fld := ⟨0, 0, 16⟩
/-- 23 R515 -/
def SLV_PROT_CH : Nat := 0x6800018
/-- 23 R515 -/
def SLV_PATH_DELTA (c : Nat) : Nat := 0x6800500 + c * 0x4
def SLV_PATH_DELTA_DELTA : Fld := ⟨0, 0, 24⟩
/-- 23 R515 -/
def SLV_HEALTH_MATE (w : Nat) : Nat := 0x6800600 + w * 0x4
/-- 23 R515 -/
def SLV_HEALTH_OWN (w : Nat) : Nat := 0x6800640 + w * 0x4
/-- 23 R515 -/
def SLV_IPROT (j : Nat) : Nat := 0x6800700 + j * 0x4
def SLV_IPROT_EN : Fld := ⟨0, 31, 1⟩
def SLV_IPROT_AUTO : Fld := ⟨0, 30, 1⟩
def SLV_IPROT_SWITCH : Fld := ⟨0, 29, 1⟩
def SLV_IPROT_ON_PROT : Fld := ⟨0, 28, 1⟩
def SLV_IPROT_PROT : Fld := ⟨0, 8, 6⟩
def SLV_IPROT_WORK : Fld := ⟨0, 0, 6⟩
/-- 12 R307 -/
def FWD_MAC0 (i : Nat) : Nat := 0xc000000 + i * 0x10
def FWD_MAC0_VALID : Fld := ⟨0, 31, 1⟩
def FWD_MAC0_STATIC : Fld := ⟨0, 30, 1⟩
def FWD_MAC0_HIT : Fld := ⟨0, 29, 1⟩
def FWD_MAC0_BD : Fld := ⟨0, 0, 14⟩
def FWD_MAC0_MAC_HI : Fld := ⟨1, 0, 32⟩
def FWD_MAC0_MAC_LO : Fld := ⟨2, 16, 16⟩
def FWD_MAC0_DEST : Fld := ⟨3, 0, 24⟩
/-- 12 R307 -/
def FWD_MAC1 (i : Nat) : Nat := 0xd000000 + i * 0x10
def FWD_MAC1_VALID : Fld := ⟨0, 31, 1⟩
def FWD_MAC1_STATIC : Fld := ⟨0, 30, 1⟩
def FWD_MAC1_HIT : Fld := ⟨0, 29, 1⟩
def FWD_MAC1_BD : Fld := ⟨0, 0, 14⟩
def FWD_MAC1_MAC_HI : Fld := ⟨1, 0, 32⟩
def FWD_MAC1_MAC_LO : Fld := ⟨2, 16, 16⟩
def FWD_MAC1_DEST : Fld := ⟨3, 0, 24⟩
/-- 12 R307 -/
def FWD_NH0 (i : Nat) : Nat := 0xe000000 + i * 0x10
def FWD_NH0_VALID : Fld := ⟨0, 31, 1⟩
def FWD_NH0_DEST : Fld := ⟨0, 0, 24⟩
def FWD_NH0_DA_HI : Fld := ⟨1, 0, 32⟩
def FWD_NH0_DA_LO : Fld := ⟨2, 16, 16⟩
def FWD_NH0_VID : Fld := ⟨2, 0, 12⟩
def FWD_NH0_SA_IDX : Fld := ⟨3, 0, 3⟩
/-- 12 R307 -/
def FWD_NH1 (i : Nat) : Nat := 0xe100000 + i * 0x10
def FWD_NH1_VALID : Fld := ⟨0, 31, 1⟩
def FWD_NH1_DEST : Fld := ⟨0, 0, 24⟩
def FWD_NH1_DA_HI : Fld := ⟨1, 0, 32⟩
def FWD_NH1_DA_LO : Fld := ⟨2, 16, 16⟩
def FWD_NH1_VID : Fld := ⟨2, 0, 12⟩
def FWD_NH1_SA_IDX : Fld := ⟨3, 0, 3⟩
/-- 12 R307 -/
def FWD_VID_BD (i : Nat) : Nat := 0xe200000 + i * 0x4
def FWD_VID_BD_VALID : Fld := ⟨0, 31, 1⟩
def FWD_VID_BD_BD : Fld := ⟨0, 0, 14⟩
/-- 12 R307 -/
def FWD_BD (i : Nat) : Nat := 0xe240000 + i * 0x8
def FWD_BD_LEARN_EN : Fld := ⟨0, 31, 1⟩
def FWD_BD_ROUTE_EN : Fld := ⟨0, 30, 1⟩
def FWD_BD_MOVE_EN : Fld := ⟨0, 29, 1⟩
def FWD_BD_AGE_EN : Fld := ⟨0, 28, 1⟩
def FWD_BD_VRF : Fld := ⟨0, 24, 4⟩
def FWD_BD_FLOOD_GROUP : Fld := ⟨0, 0, 16⟩
def FWD_BD_RMAC_IDX : Fld := ⟨1, 0, 3⟩
/-- 13 R329 -/
def TMG_Q (q : Nat) : Nat := 0xf000000 + q * 0x20
def TMG_Q_SPILL_EN : Fld := ⟨0, 31, 1⟩
def TMG_Q_PRI : Fld := ⟨0, 28, 2⟩
def TMG_Q_GROUP : Fld := ⟨0, 20, 8⟩
def TMG_Q_SHAPER : Fld := ⟨0, 8, 12⟩
def TMG_Q_ACCOUNT : Fld := ⟨0, 0, 8⟩
def TMG_Q_QUANTUM : Fld := ⟨1, 0, 20⟩
def TMG_Q_QMAX : Fld := ⟨2, 0, 24⟩
def TMG_Q_YMAX : Fld := ⟨3, 0, 24⟩
def TMG_Q_FRAMES : Fld := ⟨4, 0, 32⟩
def TMG_Q_KIB : Fld := ⟨5, 0, 32⟩
def TMG_Q_DEFICIT : Fld := ⟨6, 0, 32⟩
/-- 13 R329 -/
def TMG_PID (i : Nat) : Nat := 0xf600000 + i * 0x4
def TMG_PID_VALID : Fld := ⟨0, 31, 1⟩
def TMG_PID_SPREAD : Fld := ⟨0, 30, 1⟩
def TMG_PID_QOFS : Fld := ⟨0, 0, 11⟩
/-- 13 R329 -/
def TMG_POL (i : Nat) : Nat := 0xf800000 + i * 0x20
def TMG_POL_VALID : Fld := ⟨0, 31, 1⟩
def TMG_POL_OVH : Fld := ⟨0, 0, 7⟩
def TMG_POL_CIR : Fld := ⟨1, 0, 26⟩
def TMG_POL_PIR : Fld := ⟨2, 0, 26⟩
def TMG_POL_CBS : Fld := ⟨3, 0, 24⟩
def TMG_POL_PBS : Fld := ⟨4, 0, 24⟩
/-- 13 R329 -/
def TMG_POL_RED (i : Nat) : Nat := 0xf800018 + i * 0x20
/-- 13 R329 -/
def TMG_GRP (i : Nat) : Nat := 0xfa00000 + i * 0x10
def TMG_GRP_PRI : Fld := ⟨0, 28, 2⟩
def TMG_GRP_SHAPER : Fld := ⟨0, 16, 12⟩
def TMG_GRP_QUANTUM : Fld := ⟨1, 0, 20⟩
/-- 13 R329 -/
def TMG_REPL (g : Nat) : Nat := 0xfa40000 + g * 0x4
def TMG_REPL_VALID : Fld := ⟨0, 31, 1⟩
def TMG_REPL_FIRST : Fld := ⟨0, 0, 18⟩
/-- 13 R329 -/
def TMG_MEMBER (m : Nat) : Nat := 0xfa80000 + m * 0x8
def TMG_MEMBER_DEST : Fld := ⟨0, 0, 24⟩
def TMG_MEMBER_LAST : Fld := ⟨1, 31, 1⟩
def TMG_MEMBER_NEXT : Fld := ⟨1, 0, 18⟩
/-- 15 R371 -/
def CRY_ONU (i : Nat) : Nat := 0x9a00000 + i * 0x8
def CRY_ONU_MODE : Fld := ⟨0, 30, 2⟩
def CRY_ONU_TX_IDX : Fld := ⟨0, 29, 1⟩
def CRY_ONU_CUT : Fld := ⟨0, 28, 1⟩
def CRY_ONU_SEAL_REQ : Fld := ⟨0, 27, 1⟩
def CRY_ONU_BASE : Fld := ⟨0, 0, 17⟩
def CRY_ONU_HIGH_WATER : Fld := ⟨1, 0, 32⟩
/-- 15 R371 -/
def CRY_BCAST (c : Nat) : Nat := 0x9a20000 + c * 0x4
def CRY_BCAST_TX_IDX : Fld := ⟨0, 29, 1⟩
def CRY_BCAST_BASE : Fld := ⟨0, 0, 17⟩
/-- 15 R371 -/
def CRY_PORT (i : Nat) : Nat := 0x9b00000 + i * 0x4
def CRY_PORT_ENC : Fld := ⟨0, 31, 1⟩
def CRY_PORT_MCAST : Fld := ⟨0, 30, 1⟩
def CRY_PORT_SLOT : Fld := ⟨0, 0, 8⟩
/-- 15 R371 -/
def CRY_SLOT (i : Nat) : Nat := 0x9c00000 + i * 0x4
def CRY_SLOT_VALID : Fld := ⟨0, 31, 1⟩
def CRY_SLOT_TYPE : Fld := ⟨0, 28, 3⟩
def CRY_SLOT_WRAPPER : Fld := ⟨0, 26, 2⟩
/-- The words of block GLB. -/
def famsGlb : List RegFam :=
  [{ base := 0x0, rst := 0x6450b000, rw := 0xff },
   { base := 0x10, rst := 0x20101040 },
   { base := 0x14, rst := 0x1000a088 },
   { base := 0x18, rst := 0x8001000 },
   { base := 0x20, rw := 0xfffffc00 }]
/-- The words of block HPI. -/
def famsHpi : List RegFam :=
  [{ base := 0x100400, dims := [(0x4, 200)], rw := 0xffffffff, idx := [(0, 16)] },
   { base := 0x100040, dims := [(0x4, 7)] },
   { base := 0x100010, rw := 0xffff82, sqc := 0x7d },
   { base := 0x101000, dims := [(0x4, 256)] },
   { base := 0x100020, dims := [(0x4, 2)], rw := 0xffffffff },
   { base := 0x110000, dims := [(0x10, 2048)], rw := 0xffffffff, agent := true },
   { base := 0x110004, dims := [(0x10, 2048)], rw := 0xffffffff, agent := true },
   { base := 0x110008, dims := [(0x10, 2048)], rw := 0xffffffff, agent := true },
   { base := 0x11000c, dims := [(0x10, 2048)], rst := 0x1, rw := 0xffffffff, agent := true },
   { base := 0x118000, dims := [(0x4, 64)], agent := true },
   { base := 0x100018, pair := 1 },
   { base := 0x10001c, pair := 2 },
   { base := 0x13f000, dims := [(0x4, 16)], rw := 0xffffffff }]
/-- The words of block CLK. -/
def famsClk : List RegFam :=
  [{ base := 0x200000, rst := 0x180a012c, rw := 0xffffffff },
   { base := 0x200004, rst := 0xc00000, rw := 0x3c01, sqc := 0x3fe },
   { base := 0x20000c, rst := 0xa, rw := 0xffffffff },
   { base := 0x200300, pair := 1 },
   { base := 0x200304, pair := 2 },
   { base := 0x200308, pair := 1 },
   { base := 0x20030c, pair := 2 },
   { base := 0x200310, pair := 1 },
   { base := 0x200314, pair := 2 },
   { base := 0x200318, pair := 1 },
   { base := 0x20031c, pair := 2 },
   { base := 0x200320, pair := 1 },
   { base := 0x200324, pair := 2 },
   { base := 0x23f000, dims := [(0x4, 16)], rw := 0xffffffff },
   { base := 0x200010, dims := [(0x4, 3)], rst := 0x80000000 },
   { base := 0x200040, dims := [(0x4, 23)], rw := 0x1fff0000 },
   { base := 0x200800, dims := [(0x4, 200)], rw := 0xbfffffff },
   { base := 0x200200, rw := 0x7fffffff },
   { base := 0x200210, rw := 0xfffffffe }]
/-- The words of block PWR. -/
def famsPwr : List RegFam :=
  [{ base := 0x300000, rst := 0x81900a00, rw := 0xffffffff },
   { base := 0x300004, rw := 0xffffc0, sqc := 0x1f },
   { base := 0x300100, dims := [(0x10, 10)], rst := 0x40000000, rw := 0x7fffffff, idx := [(0, 24)] },
   { base := 0x300104, dims := [(0x10, 10)], rw := 0xffffffff },
   { base := 0x300108, dims := [(0x10, 10)] },
   { base := 0x30010c, dims := [(0x10, 10)] },
   { base := 0x300200, dims := [(0x8, 16)], rst := 0x725004b0, rw := 0xffffffff },
   { base := 0x300204, dims := [(0x8, 16)], rst := 0x4b032000, rw := 0x1ff },
   { base := 0x300300, rw := 0xbfffffff },
   { base := 0x33f000, dims := [(0x4, 16)], rw := 0xffffffff },
   { base := 0x300400, rst := 0x3e80000, rw := 0xffff0000 },
   { base := 0x300440, dims := [(0x4, 24)], rw := 0xffff0000 }]
/-- The words of block TMP, part 0. -/
def famsTmp0 : List RegFam :=
  [{ base := 0x400080, rw := 0xffff0000 },
   { base := 0x400004, rw := 0xfffe00, sqc := 0x1ff },
   { base := 0x400010, rst := 0x8000000, rw := 0x10000fc },
   { base := 0x400040 },
   { base := 0x400044 },
   { base := 0x400048 },
   { base := 0x40004c },
   { base := 0x400060, rst := 0x1, rw := 0x7fffffff },
   { base := 0x401000, dims := [(0x8, 448)], rw := 0x3800ffff },
   { base := 0x401004, dims := [(0x8, 448)] },
   { base := 0x403000, dims := [(0x8, 184)], rw := 0x3800ffff },
   { base := 0x403004, dims := [(0x8, 184)] },
   { base := 0x410000, dims := [(0x4, 12800)] },
   { base := 0x402000, dims := [(0x10, 16)], rst := 0x1 },
   { base := 0x402100, dims := [(0x10, 48)], rst := 0x1, rw := 0xffffffff },
   { base := 0x402004, dims := [(0x10, 16)], rst := 0x80000000 },
   { base := 0x402104, dims := [(0x10, 48)], rst := 0x80000000, rw := 0xffffffff },
   { base := 0x402008, dims := [(0x10, 16)], rst := 0x7fffffff },
   { base := 0x402108, dims := [(0x10, 48)], rst := 0x7fffffff, rw := 0xffffffff },
   { base := 0x40200c, dims := [(0x10, 16)], sqc := 0x1 },
   { base := 0x40210c, dims := [(0x10, 48)], rw := 0xfffffc, sqc := 0x1 },
   { base := 0x400100, pair := 1 },
   { base := 0x400104, pair := 2 },
   { base := 0x400108, pair := 1 },
   { base := 0x40010c, pair := 2 },
   { base := 0x400110, pair := 1 },
   { base := 0x400114, pair := 2 },
   { base := 0x400118, pair := 1 },
   { base := 0x40011c, pair := 2 },
   { base := 0x400120, pair := 1 },
   { base := 0x400124, pair := 2 },
   { base := 0x400128, pair := 1 },
   { base := 0x40012c, pair := 2 },
   { base := 0x400130, pair := 1 },
   { base := 0x400134, pair := 2 },
   { base := 0x43f000, dims := [(0x4, 16)], rw := 0xffffffff },
   { base := 0x400014, rst := 0xa, rw := 0xffffffff },
   { base := 0x400020, dims := [(0x4, 2)] },
   { base := 0x400030, rw := 0xfffffc, sqc := 0x1 },
   { base := 0x400064, rst := 0x1, rw := 0xffffffff }]
/-- The words of block TMP, part 1. -/
def famsTmp1 : List RegFam :=
  [{ base := 0x400400, dims := [(0x8, 64)], rw := 0xffffffff },
   { base := 0x400404, dims := [(0x8, 64)] },
   { base := 0x400070, rw := 0xfffff800 },
   { base := 0x480000, dims := [(0x4, 16384)] }]
/-- The words of block TMP. -/
def famsTmp : List RegFam := famsTmp0 ++ famsTmp1
/-- The words of block TIM, part 0. -/
def famsTim0 : List RegFam :=
  [{ base := 0x600000, rst := 0x32000064, rw := 0xffffffff },
   { base := 0x600004, rw := 0xe3ff80, sqc := 0x7f },
   { base := 0x600040, rst := 0x261404, rw := 0xffffffff },
   { base := 0x600030, rw := 0x7fffffff },
   { base := 0x600200, dims := [(0x20, 32)], rw := 0xffffffff },
   { base := 0x600204, dims := [(0x20, 32)], rw := 0xffffffff, pair := 1 },
   { base := 0x600208, dims := [(0x20, 32)], rw := 0xffffffff, pair := 2 },
   { base := 0x60020c, dims := [(0x20, 32)], rw := 0xffffffff, pair := 1 },
   { base := 0x600210, dims := [(0x20, 32)], rw := 0xffffffff, pair := 2 },
   { base := 0x600214, dims := [(0x20, 32)], rst := 0x186a0, rw := 0xffffffff },
   { base := 0x600218, dims := [(0x20, 32)], rw := 0xfffff8, sqc := 0x7 },
   { base := 0x60021c, dims := [(0x20, 32)] },
   { base := 0x600700, pair := 1 },
   { base := 0x600704, pair := 2 },
   { base := 0x600708, pair := 1 },
   { base := 0x60070c, pair := 2 },
   { base := 0x600710, pair := 1 },
   { base := 0x600714, pair := 2 },
   { base := 0x600718, pair := 1 },
   { base := 0x60071c, pair := 2 },
   { base := 0x600720, pair := 1 },
   { base := 0x600724, pair := 2 },
   { base := 0x600728, pair := 1 },
   { base := 0x60072c, pair := 2 },
   { base := 0x63f000, dims := [(0x4, 16)], rw := 0xffffffff },
   { base := 0x600010 },
   { base := 0x600014 },
   { base := 0x600018 },
   { base := 0x600020, pair := 1 },
   { base := 0x600024, pair := 2 },
   { base := 0x600038, rw := 0xffffffff, pair := 1 },
   { base := 0x60003c, rw := 0xffffffff, pair := 2 },
   { base := 0x600044 },
   { base := 0x600048, rw := 0xffffffff, wo := 0xffffffff },
   { base := 0x600050, rw := 0xffffffff, pair := 1 },
   { base := 0x600054, rw := 0xffffffff, pair := 2 },
   { base := 0x600060 },
   { base := 0x600064 },
   { base := 0x600068 },
   { base := 0x60006c }]
/-- The words of block TIM, part 1. -/
def famsTim1 : List RegFam :=
  [{ base := 0x600070 },
   { base := 0x600074 },
   { base := 0x600078 },
   { base := 0x60007c },
   { base := 0x600080, dims := [(0x4, 34)], rw := 0xffffffff },
   { base := 0x600180, dims := [(0x10, 2)], rw := 0xffffffff },
   { base := 0x600184, dims := [(0x10, 2)] },
   { base := 0x600188, dims := [(0x10, 2)] },
   { base := 0x60018c, dims := [(0x10, 2)], rw := 0xffff0000 },
   { base := 0x600a00, dims := [(0x4, 64)], rw := 0xffffffff, wo := 0xffffffff, agent := true },
   { base := 0x600b00, rw := 0x7ffffffc, agent := true },
   { base := 0x600800, dims := [(0x10, 32)], rw := 0xffffffff },
   { base := 0x600804, dims := [(0x10, 32)], rw := 0xffffffff },
   { base := 0x601000, dims := [(0x20, 64)], rw := 0xffffffff },
   { base := 0x601004, dims := [(0x20, 64)], rw := 0x7fffffff },
   { base := 0x601008, dims := [(0x20, 64)] },
   { base := 0x60100c, dims := [(0x20, 64)] },
   { base := 0x601010, dims := [(0x20, 64)] },
   { base := 0x601014, dims := [(0x20, 64)] },
   { base := 0x600600 }]
/-- The words of block TIM. -/
def famsTim : List RegFam := famsTim0 ++ famsTim1
/-- The words of block DRF. -/
def famsDrf : List RegFam :=
  [{ base := 0x700000, rst := 0x32, rw := 0x7fffffff },
   { base := 0x700004, rw := 0x8f00f0, sqc := 0xf },
   { base := 0x73f000, dims := [(0x4, 16)], rw := 0xffffffff },
   { base := 0x700008, rw := 0xffffffff, pair := 1 },
   { base := 0x70000c, rw := 0xffffffff, pair := 2 },
   { base := 0x700010, pair := 1 },
   { base := 0x700014, pair := 2 },
   { base := 0x700018, rw := 0x78 },
   { base := 0x70001c },
   { base := 0x700020 },
   { base := 0x700024, rst := 0x10002 },
   { base := 0x700028 },
   { base := 0x700100, dims := [(0x4, 16)] },
   { base := 0x710000, dims := [(0x4, 16384)], rw := 0xffffffff, wo := 0xffffffff }]
/-- The words of block SHU, part 0. -/
def famsShu0 : List RegFam :=
  [{ base := 0x800000, dims := [(0x40000, 16)], rst := 0x10000a, rw := 0xffffffff },
   { base := 0x800004, dims := [(0x40000, 16)], rst := 0x800000, rw := 0x30ff80, sqc := 0x7f },
   { base := 0x800008, dims := [(0x40000, 16)], rw := 0x7fffffff },
   { base := 0x80000c, dims := [(0x40000, 16)], rst := 0x800000f0, rw := 0xffffffff },
   { base := 0x800010, dims := [(0x40000, 16)], rw := 0xfffff800 },
   { base := 0x800020, dims := [(0x40000, 16)], rw := 0x1fc000 },
   { base := 0x800040, dims := [(0x40000, 16), (0x4, 16)], rw := 0x1ffff0, idx := [(1, 0)] },
   { base := 0x800100, dims := [(0x40000, 16), (0x10, 17)] },
   { base := 0x800104, dims := [(0x40000, 16), (0x10, 17)], rw := 0x7fffff },
   { base := 0x800108, dims := [(0x40000, 16), (0x10, 17)] },
   { base := 0x80010c, dims := [(0x40000, 16), (0x10, 17)] },
   { base := 0x800400, dims := [(0x40000, 16)], pair := 1 },
   { base := 0x800404, dims := [(0x40000, 16)], pair := 2 },
   { base := 0x800408, dims := [(0x40000, 16)], pair := 1 },
   { base := 0x80040c, dims := [(0x40000, 16)], pair := 2 },
   { base := 0x800410, dims := [(0x40000, 16)], pair := 1 },
   { base := 0x800414, dims := [(0x40000, 16)], pair := 2 },
   { base := 0x800418, dims := [(0x40000, 16)], pair := 1 },
   { base := 0x80041c, dims := [(0x40000, 16)], pair := 2 },
   { base := 0x800420, dims := [(0x40000, 16)], pair := 1 },
   { base := 0x800424, dims := [(0x40000, 16)], pair := 2 },
   { base := 0x800428, dims := [(0x40000, 16)], pair := 1 },
   { base := 0x80042c, dims := [(0x40000, 16)], pair := 2 },
   { base := 0x800430, dims := [(0x40000, 16)], pair := 1 },
   { base := 0x800434, dims := [(0x40000, 16)], pair := 2 },
   { base := 0x800438, dims := [(0x40000, 16)], pair := 1 },
   { base := 0x80043c, dims := [(0x40000, 16)], pair := 2 },
   { base := 0x800440, dims := [(0x40000, 16)], pair := 1 },
   { base := 0x800444, dims := [(0x40000, 16)], pair := 2 },
   { base := 0x800448, dims := [(0x40000, 16)], pair := 1 },
   { base := 0x80044c, dims := [(0x40000, 16)], pair := 2 },
   { base := 0x800450, dims := [(0x40000, 16)], pair := 1 },
   { base := 0x800454, dims := [(0x40000, 16)], pair := 2 },
   { base := 0x800458, dims := [(0x40000, 16)], pair := 1 },
   { base := 0x80045c, dims := [(0x40000, 16)], pair := 2 },
   { base := 0x83f000, dims := [(0x40000, 16), (0x4, 16)], rw := 0xffffffff },
   { base := 0x800024, dims := [(0x40000, 16)], rw := 0xffff0000 },
   { base := 0x800300, dims := [(0x40000, 16)], rw := 0xffffffff, wo := 0xffffffff, agent := true },
   { base := 0x800304, dims := [(0x40000, 16)], rw := 0xffffffff, wo := 0xffffffff, agent := true },
   { base := 0x800308, dims := [(0x40000, 16)], rw := 0xffffffff, wo := 0xffffffff, agent := true }]
/-- The words of block SHU, part 1. -/
def famsShu1 : List RegFam :=
  [{ base := 0x80030c, dims := [(0x40000, 16)], rw := 0xffffffff, wo := 0xffffffff, agent := true },
   { base := 0x800310, dims := [(0x40000, 16)], rw := 0xffffffff, wo := 0xffffffff, agent := true },
   { base := 0x800314, dims := [(0x40000, 16)], rw := 0xffffffff, wo := 0xffffffff, agent := true },
   { base := 0x800318, dims := [(0x40000, 16)], rw := 0xffffffff, wo := 0xffffffff, agent := true },
   { base := 0x80031c, dims := [(0x40000, 16)], rw := 0xffffffff, wo := 0xffffffff, agent := true },
   { base := 0x800320, dims := [(0x40000, 16)], agent := true },
   { base := 0x800324, dims := [(0x40000, 16)], agent := true },
   { base := 0x800328, dims := [(0x40000, 16)], agent := true },
   { base := 0x80032c, dims := [(0x40000, 16)], agent := true },
   { base := 0x800330, dims := [(0x40000, 16)], agent := true },
   { base := 0x800334, dims := [(0x40000, 16)], agent := true },
   { base := 0x800338, dims := [(0x40000, 16)], agent := true },
   { base := 0x80033c, dims := [(0x40000, 16)], agent := true }]
/-- The words of block SHU. -/
def famsShu : List RegFam := famsShu0 ++ famsShu1
/-- The words of block PCH, part 0. -/
def famsPch0 : List RegFam :=
  [{ base := 0x1030000, dims := [(0x40000, 64)], rst := 0xa800000, rw := 0xffffffff },
   { base := 0x1030004, dims := [(0x40000, 64)], rw := 0x1f0ffff },
   { base := 0x1030030, dims := [(0x40000, 64)], rst := 0x43008, rw := 0xffffffff },
   { base := 0x1018000, dims := [(0x40000, 64), (0x20, 261)], rst := 0x8000, rw := 0xffffffff },
   { base := 0x1018004, dims := [(0x40000, 64), (0x20, 261)], rw := 0xffffffff },
   { base := 0x1018008, dims := [(0x40000, 64), (0x20, 261)], rw := 0xffffffff },
   { base := 0x101800c, dims := [(0x40000, 64), (0x20, 261)], rst := 0x40000, rw := 0xffffffff },
   { base := 0x1018010, dims := [(0x40000, 64), (0x20, 261)], rw := 0xffffffff },
   { base := 0x1018014, dims := [(0x40000, 64), (0x20, 261)], rw := 0xffffffff },
   { base := 0x1018018, dims := [(0x40000, 64), (0x20, 261)], rw := 0xffffffff },
   { base := 0x101801c, dims := [(0x40000, 64), (0x20, 261)], rw := 0xffffffff },
   { base := 0x1010000, dims := [(0x40000, 64)], rst := 0xc0000000, rw := 0xffffffff },
   { base := 0x1010004, dims := [(0x40000, 64)], rw := 0xffffffff },
   { base := 0x1030010, dims := [(0x40000, 64)], rst := 0x2a321408, rw := 0xffffffff },
   { base := 0x1030014, dims := [(0x40000, 64)], rst := 0x7d007d, rw := 0xffffffff },
   { base := 0x1030008, dims := [(0x40000, 64)], rw := 0xffff00, sqc := 0xf },
   { base := 0x103000c, dims := [(0x40000, 64)], rst := 0xc6000402, rw := 0xffffffff },
   { base := 0x1030018, dims := [(0x40000, 64)], hmw := true },
   { base := 0x1030040, dims := [(0x40000, 64)], rst := 0x1700000, rw := 0xffffffff },
   { base := 0x1030044, dims := [(0x40000, 64)], rst := 0x41500000, rw := 0x7ffffffc },
   { base := 0x1000000, dims := [(0x40000, 64)], rst := 0x40000, rw := 0xffffffff },
   { base := 0x1000004, dims := [(0x40000, 64)], rw := 0xffffffff },
   { base := 0x1000008, dims := [(0x40000, 64)], rw := 0xfffee0, sqc := 0x1f },
   { base := 0x1010008, dims := [(0x40000, 64)], rst := 0x2003, rw := 0xffffffff },
   { base := 0x101000c, dims := [(0x40000, 64)], rw := 0xffffffff },
   { base := 0x1010010, dims := [(0x40000, 64)], rst := 0x40806438, rw := 0xffffffff },
   { base := 0x1010014, dims := [(0x40000, 64)], rw := 0xffffc0, sqc := 0x3f },
   { base := 0x1010020, dims := [(0x40000, 64), (0x4, 8)] },
   { base := 0x1014000, dims := [(0x40000, 64), (0x4, 256)], rw := 0xe0ffe0, sqc := 0x1f },
   { base := 0x1020000, dims := [(0x40000, 64)], rst := 0xb8f00a00, rw := 0xffffffff },
   { base := 0x1020004, dims := [(0x40000, 64)], rst := 0x3d090, rw := 0xffffffff },
   { base := 0x1020008, dims := [(0x40000, 64)], rst := 0xeb0023, rw := 0xffffffff },
   { base := 0x102000c, dims := [(0x40000, 64)], rst := 0xa0064, rw := 0xffffffff },
   { base := 0x1020010, dims := [(0x40000, 64)], rst := 0xff020000, rw := 0xffffffff },
   { base := 0x1020014, dims := [(0x40000, 64)], rst := 0x20830, rw := 0xffffffff },
   { base := 0x1020018, dims := [(0x40000, 64)], rst := 0x8, rw := 0xffffffff },
   { base := 0x102001c, dims := [(0x40000, 64)], rw := 0xfff000, sqc := 0x1ff },
   { base := 0x1020020, dims := [(0x40000, 64), (0x4, 4)] },
   { base := 0x1021000, dims := [(0x40000, 64), (0x10, 256)], rst := 0x1000000, idx := [(1, 0)] },
   { base := 0x1021004, dims := [(0x40000, 64), (0x10, 256)] }]
/-- The words of block PCH, part 1. -/
def famsPch1 : List RegFam :=
  [{ base := 0x1021008, dims := [(0x40000, 64), (0x10, 256)] },
   { base := 0x102100c, dims := [(0x40000, 64), (0x10, 256)] },
   { base := 0x1010040, dims := [(0x40000, 64), (0x10, 4)], rst := 0x60000000 },
   { base := 0x1010044, dims := [(0x40000, 64), (0x10, 4)] },
   { base := 0x1010048, dims := [(0x40000, 64), (0x10, 4)] },
   { base := 0x101004c, dims := [(0x40000, 64), (0x10, 4)] },
   { base := 0x1010100, dims := [(0x40000, 64)], pair := 1 },
   { base := 0x1010104, dims := [(0x40000, 64)], pair := 2 },
   { base := 0x1010108, dims := [(0x40000, 64)], pair := 1 },
   { base := 0x101010c, dims := [(0x40000, 64)], pair := 2 },
   { base := 0x1010110, dims := [(0x40000, 64)], pair := 1 },
   { base := 0x1010114, dims := [(0x40000, 64)], pair := 2 },
   { base := 0x1010118, dims := [(0x40000, 64)], pair := 1 },
   { base := 0x101011c, dims := [(0x40000, 64)], pair := 2 },
   { base := 0x1010120, dims := [(0x40000, 64)], pair := 1 },
   { base := 0x1010124, dims := [(0x40000, 64)], pair := 2 },
   { base := 0x1010128, dims := [(0x40000, 64)], pair := 1 },
   { base := 0x101012c, dims := [(0x40000, 64)], pair := 2 },
   { base := 0x1010130, dims := [(0x40000, 64)], pair := 1 },
   { base := 0x1010134, dims := [(0x40000, 64)], pair := 2 },
   { base := 0x1010138, dims := [(0x40000, 64)], pair := 1 },
   { base := 0x101013c, dims := [(0x40000, 64)], pair := 2 },
   { base := 0x1010140, dims := [(0x40000, 64)], pair := 1 },
   { base := 0x1010144, dims := [(0x40000, 64)], pair := 2 },
   { base := 0x1010148, dims := [(0x40000, 64)], pair := 1 },
   { base := 0x101014c, dims := [(0x40000, 64)], pair := 2 },
   { base := 0x1010150, dims := [(0x40000, 64)], pair := 1 },
   { base := 0x1010154, dims := [(0x40000, 64)], pair := 2 },
   { base := 0x1010158, dims := [(0x40000, 64)], pair := 1 },
   { base := 0x101015c, dims := [(0x40000, 64)], pair := 2 },
   { base := 0x1010160, dims := [(0x40000, 64)], pair := 1 },
   { base := 0x1010164, dims := [(0x40000, 64)], pair := 2 },
   { base := 0x1010168, dims := [(0x40000, 64)], pair := 1 },
   { base := 0x101016c, dims := [(0x40000, 64)], pair := 2 },
   { base := 0x1010170, dims := [(0x40000, 64)], pair := 1 },
   { base := 0x1010174, dims := [(0x40000, 64)], pair := 2 },
   { base := 0x1010178, dims := [(0x40000, 64)], pair := 1 },
   { base := 0x101017c, dims := [(0x40000, 64)], pair := 2 },
   { base := 0x1010180, dims := [(0x40000, 64)], pair := 1 },
   { base := 0x1010184, dims := [(0x40000, 64)], pair := 2 }]
/-- The words of block PCH, part 2. -/
def famsPch2 : List RegFam :=
  [{ base := 0x1020100, dims := [(0x40000, 64)], pair := 1 },
   { base := 0x1020104, dims := [(0x40000, 64)], pair := 2 },
   { base := 0x1020108, dims := [(0x40000, 64)], pair := 1 },
   { base := 0x102010c, dims := [(0x40000, 64)], pair := 2 },
   { base := 0x1020110, dims := [(0x40000, 64)], pair := 1 },
   { base := 0x1020114, dims := [(0x40000, 64)], pair := 2 },
   { base := 0x1020118, dims := [(0x40000, 64)], pair := 1 },
   { base := 0x102011c, dims := [(0x40000, 64)], pair := 2 },
   { base := 0x1020120, dims := [(0x40000, 64)], pair := 1 },
   { base := 0x1020124, dims := [(0x40000, 64)], pair := 2 },
   { base := 0x1020128, dims := [(0x40000, 64)], pair := 1 },
   { base := 0x102012c, dims := [(0x40000, 64)], pair := 2 },
   { base := 0x1020130, dims := [(0x40000, 64)], pair := 1 },
   { base := 0x1020134, dims := [(0x40000, 64)], pair := 2 },
   { base := 0x1020138, dims := [(0x40000, 64)], pair := 1 },
   { base := 0x102013c, dims := [(0x40000, 64)], pair := 2 },
   { base := 0x1020140, dims := [(0x40000, 64)], pair := 1 },
   { base := 0x1020144, dims := [(0x40000, 64)], pair := 2 },
   { base := 0x1020148, dims := [(0x40000, 64)], pair := 1 },
   { base := 0x102014c, dims := [(0x40000, 64)], pair := 2 },
   { base := 0x1020150, dims := [(0x40000, 64)], pair := 1 },
   { base := 0x1020154, dims := [(0x40000, 64)], pair := 2 },
   { base := 0x103f000, dims := [(0x40000, 64), (0x4, 16)], rw := 0xffffffff },
   { base := 0x1030020, dims := [(0x40000, 64)], pair := 1 },
   { base := 0x1030024, dims := [(0x40000, 64)], pair := 2 },
   { base := 0x1030048, dims := [(0x40000, 64)], rw := 0xffffffff },
   { base := 0x100000c, dims := [(0x40000, 64)] },
   { base := 0x1000010, dims := [(0x40000, 64)], pair := 1 },
   { base := 0x1000014, dims := [(0x40000, 64)], pair := 2 },
   { base := 0x1000018, dims := [(0x40000, 64)], rw := 0xffffffff, pair := 1 },
   { base := 0x100001c, dims := [(0x40000, 64)], rw := 0xffffffff, pair := 2 },
   { base := 0x1000020, dims := [(0x40000, 64)], pair := 1 },
   { base := 0x1000024, dims := [(0x40000, 64)], pair := 2 },
   { base := 0x1000028, dims := [(0x40000, 64)] },
   { base := 0x1000030, dims := [(0x40000, 64)], pair := 1 },
   { base := 0x1000034, dims := [(0x40000, 64)], pair := 2 }]
/-- The words of block PCH. -/
def famsPch : List RegFam := famsPch0 ++ famsPch1 ++ famsPch2
/-- The words of block SHD, part 0. -/
def famsShd0 : List RegFam :=
  [{ base := 0x2003038, dims := [(0x40000, 64)], rw := 0xffffc000 },
   { base := 0x2000000, dims := [(0x40000, 64)], rst := 0x640, rw := 0xffffffff },
   { base := 0x2001000, dims := [(0x40000, 64), (0x10, 256)], rst := 0x10000000, rw := 0x7c03c000, idx := [(1, 0), (1, 18)] },
   { base := 0x2002000, dims := [(0x40000, 64), (0x10, 256)], rst := 0x10000000, rw := 0xffffffff },
   { base := 0x2001004, dims := [(0x40000, 64), (0x10, 512)], rst := 0x1000000, rw := 0xffffffff },
   { base := 0x2001008, dims := [(0x40000, 64), (0x10, 512)], rst := 0x1000000, rw := 0xffffffff },
   { base := 0x200100c, dims := [(0x40000, 64), (0x10, 512)], rw := 0xffffffff },
   { base := 0x2000004, dims := [(0x40000, 64)], rst := 0x10000020, rw := 0xffffffff },
   { base := 0x2000008, dims := [(0x40000, 64)], rw := 0xffe00, sqc := 0x1ff },
   { base := 0x200000c, dims := [(0x40000, 64)], rst := 0x8000000, rw := 0xe000e000 },
   { base := 0x2000010, dims := [(0x40000, 64)], rw := 0x7000f000 },
   { base := 0x2000014, dims := [(0x40000, 64)], rw := 0xffffffff },
   { base := 0x2000018, dims := [(0x40000, 64)], rw := 0xffe00000 },
   { base := 0x2000020, dims := [(0x40000, 64)], rst := 0x44140080, rw := 0xffffffff },
   { base := 0x2000024, dims := [(0x40000, 64)], rst := 0x2ee00258, rw := 0xffffffff },
   { base := 0x2000028, dims := [(0x40000, 64)], rst := 0x8000200, rw := 0xffffffff },
   { base := 0x200002c, dims := [(0x40000, 64)], rst := 0x7d00000, rw := 0xffffffff },
   { base := 0x2000034, dims := [(0x40000, 64)], rw := 0xffffc0, sqc := 0x3f },
   { base := 0x2000040, dims := [(0x40000, 64), (0x4, 8)], rw := 0xffffffff, wo := 0xffffffff, agent := true },
   { base := 0x2004000, dims := [(0x40000, 64), (0x4, 512)], rst := 0x1000000, rw := 0xffffffff },
   { base := 0x2003000, dims := [(0x40000, 64)], pair := 1 },
   { base := 0x2003004, dims := [(0x40000, 64)], pair := 2 },
   { base := 0x2003008, dims := [(0x40000, 64)], pair := 1 },
   { base := 0x200300c, dims := [(0x40000, 64)], pair := 2 },
   { base := 0x2003010, dims := [(0x40000, 64)], pair := 1 },
   { base := 0x2003014, dims := [(0x40000, 64)], pair := 2 },
   { base := 0x2003018, dims := [(0x40000, 64)], pair := 1 },
   { base := 0x200301c, dims := [(0x40000, 64)], pair := 2 },
   { base := 0x2003020, dims := [(0x40000, 64)], pair := 1 },
   { base := 0x2003024, dims := [(0x40000, 64)], pair := 2 },
   { base := 0x2003028, dims := [(0x40000, 64)], pair := 1 },
   { base := 0x200302c, dims := [(0x40000, 64)], pair := 2 },
   { base := 0x2003030, dims := [(0x40000, 64)], pair := 1 },
   { base := 0x2003034, dims := [(0x40000, 64)], pair := 2 },
   { base := 0x200303c, dims := [(0x40000, 64)] },
   { base := 0x2000100, dims := [(0x40000, 64)], pair := 1 },
   { base := 0x2000104, dims := [(0x40000, 64)], pair := 2 },
   { base := 0x2000108, dims := [(0x40000, 64)], pair := 1 },
   { base := 0x200010c, dims := [(0x40000, 64)], pair := 2 },
   { base := 0x2000110, dims := [(0x40000, 64)], pair := 1 }]
/-- The words of block SHD, part 1. -/
def famsShd1 : List RegFam :=
  [{ base := 0x2000114, dims := [(0x40000, 64)], pair := 2 },
   { base := 0x2000118, dims := [(0x40000, 64)], pair := 1 },
   { base := 0x200011c, dims := [(0x40000, 64)], pair := 2 },
   { base := 0x2000120, dims := [(0x40000, 64)], pair := 1 },
   { base := 0x2000124, dims := [(0x40000, 64)], pair := 2 },
   { base := 0x2000128, dims := [(0x40000, 64)], pair := 1 },
   { base := 0x200012c, dims := [(0x40000, 64)], pair := 2 },
   { base := 0x2000130, dims := [(0x40000, 64)], pair := 1 },
   { base := 0x2000134, dims := [(0x40000, 64)], pair := 2 },
   { base := 0x2000138, dims := [(0x40000, 64)], pair := 1 },
   { base := 0x200013c, dims := [(0x40000, 64)], pair := 2 },
   { base := 0x2000140, dims := [(0x40000, 64)], pair := 1 },
   { base := 0x2000144, dims := [(0x40000, 64)], pair := 2 },
   { base := 0x2000148, dims := [(0x40000, 64)], pair := 1 },
   { base := 0x200014c, dims := [(0x40000, 64)], pair := 2 },
   { base := 0x2000150, dims := [(0x40000, 64)], pair := 1 },
   { base := 0x2000154, dims := [(0x40000, 64)], pair := 2 },
   { base := 0x2000158, dims := [(0x40000, 64)], pair := 1 },
   { base := 0x200015c, dims := [(0x40000, 64)], pair := 2 },
   { base := 0x2000160, dims := [(0x40000, 64)], pair := 1 },
   { base := 0x2000164, dims := [(0x40000, 64)], pair := 2 },
   { base := 0x2000168, dims := [(0x40000, 64)], pair := 1 },
   { base := 0x200016c, dims := [(0x40000, 64)], pair := 2 },
   { base := 0x2000170, dims := [(0x40000, 64)], pair := 1 },
   { base := 0x2000174, dims := [(0x40000, 64)], pair := 2 },
   { base := 0x2000178, dims := [(0x40000, 64)], pair := 1 },
   { base := 0x200017c, dims := [(0x40000, 64)], pair := 2 },
   { base := 0x2000180, dims := [(0x40000, 64)], pair := 1 },
   { base := 0x2000184, dims := [(0x40000, 64)], pair := 2 },
   { base := 0x2000188, dims := [(0x40000, 64)], pair := 1 },
   { base := 0x200018c, dims := [(0x40000, 64)], pair := 2 },
   { base := 0x2000190, dims := [(0x40000, 64)], pair := 1 },
   { base := 0x2000194, dims := [(0x40000, 64)], pair := 2 },
   { base := 0x2000198, dims := [(0x40000, 64)], pair := 1 },
   { base := 0x200019c, dims := [(0x40000, 64)], pair := 2 },
   { base := 0x20001a0, dims := [(0x40000, 64)], pair := 1 },
   { base := 0x20001a4, dims := [(0x40000, 64)], pair := 2 },
   { base := 0x20001a8, dims := [(0x40000, 64)], pair := 1 },
   { base := 0x20001ac, dims := [(0x40000, 64)], pair := 2 },
   { base := 0x20001b0, dims := [(0x40000, 64)], pair := 1 }]
/-- The words of block SHD, part 2. -/
def famsShd2 : List RegFam :=
  [{ base := 0x20001b4, dims := [(0x40000, 64)], pair := 2 },
   { base := 0x20001b8, dims := [(0x40000, 64)], pair := 1 },
   { base := 0x20001bc, dims := [(0x40000, 64)], pair := 2 },
   { base := 0x203f000, dims := [(0x40000, 64), (0x4, 16)], rw := 0xffffffff }]
/-- The words of block SHD. -/
def famsShd : List RegFam := famsShd0 ++ famsShd1 ++ famsShd2
/-- The words of block CLS. -/
def famsCls : List RegFam :=
  [{ base := 0x3000100, rst := 0x88b50000, rw := 0xffffffff },
   { base := 0x3000104, rw := 0xffffffff },
   { base := 0x3000110, dims := [(0x4, 8)], rw := 0xffffffff },
   { base := 0x3000004, rw := 0xf0ffc0, sqc := 0x3f },
   { base := 0x3000008, rw := 0x7fffffff, agent := true },
   { base := 0x3000020, dims := [(0x4, 8)], rw := 0xffffffff },
   { base := 0x3000400, dims := [(0x8, 128)], rw := 0xffffffff },
   { base := 0x3000404, dims := [(0x8, 128)], rst := 0xffff, rw := 0xffffffff },
   { base := 0x3000140, pair := 1 },
   { base := 0x3000144, pair := 2 },
   { base := 0x3000148, pair := 1 },
   { base := 0x300014c, pair := 2 },
   { base := 0x3000150, pair := 1 },
   { base := 0x3000154, pair := 2 },
   { base := 0x3000800, dims := [(0x40, 8)], pair := 1 },
   { base := 0x3000804, dims := [(0x40, 8)], pair := 2 },
   { base := 0x3000808, dims := [(0x40, 8)], pair := 1 },
   { base := 0x300080c, dims := [(0x40, 8)], pair := 2 },
   { base := 0x3000810, dims := [(0x40, 8)], pair := 1 },
   { base := 0x3000814, dims := [(0x40, 8)], pair := 2 },
   { base := 0x3000818, dims := [(0x40, 8)], pair := 1 },
   { base := 0x300081c, dims := [(0x40, 8)], pair := 2 },
   { base := 0x3000820, dims := [(0x40, 8)], pair := 1 },
   { base := 0x3000824, dims := [(0x40, 8)], pair := 2 },
   { base := 0x3000828, dims := [(0x40, 8)], pair := 1 },
   { base := 0x300082c, dims := [(0x40, 8)], pair := 2 },
   { base := 0x3000830, dims := [(0x40, 8)], pair := 1 },
   { base := 0x3000834, dims := [(0x40, 8)], pair := 2 },
   { base := 0x3000838, dims := [(0x40, 8)], pair := 1 },
   { base := 0x300083c, dims := [(0x40, 8)], pair := 2 },
   { base := 0x303f000, dims := [(0x4, 16)], rw := 0xffffffff },
   { base := 0x3000200, dims := [(0x10, 16)], rst := 0x20000000, rw := 0xffffffff },
   { base := 0x3000204, dims := [(0x10, 16)], rw := 0xffffffff },
   { base := 0x3000208, dims := [(0x10, 16)], rw := 0xffffffff },
   { base := 0x300020c, dims := [(0x10, 16)], rw := 0xffffffff },
   { base := 0x3001000, dims := [(0x80, 16), (0x4, 32)], rw := 0xffffffff, agent := true }]
/-- The words of block FWD, part 0. -/
def famsFwd0 : List RegFam :=
  [{ base := 0x3800000, rst := 0x8006012c, rw := 0xffffffff },
   { base := 0x3800004, rw := 0xffffe0, sqc := 0x17 },
   { base := 0x3800100, rw := 0x7fffffff, agent := true },
   { base := 0x3800104, rw := 0xffffffff, agent := true },
   { base := 0x3800108, rw := 0xffffffff, agent := true },
   { base := 0x380010c, rw := 0xffffff, agent := true },
   { base := 0x3800200, rst := 0xc000000, rw := 0x7fffffff, agent := true },
   { base := 0x3800204, rw := 0xffffffff, agent := true },
   { base := 0x3800208, rw := 0xffffffff, agent := true },
   { base := 0x380020c, rw := 0xffffffff, agent := true },
   { base := 0x3800210, rw := 0xffffffff, agent := true },
   { base := 0x3800214, rw := 0xffff, agent := true },
   { base := 0x3800400, dims := [(0x4, 96)], rst := 0x80000001, rw := 0xffffffff },
   { base := 0x3800800, pair := 1 },
   { base := 0x3800804, pair := 2 },
   { base := 0x3800808, pair := 1 },
   { base := 0x380080c, pair := 2 },
   { base := 0x3800810, pair := 1 },
   { base := 0x3800814, pair := 2 },
   { base := 0x3800818, pair := 1 },
   { base := 0x380081c, pair := 2 },
   { base := 0x3800820, pair := 1 },
   { base := 0x3800824, pair := 2 },
   { base := 0x3800828, pair := 1 },
   { base := 0x380082c, pair := 2 },
   { base := 0x3800830, pair := 1 },
   { base := 0x3800834, pair := 2 },
   { base := 0x3800838, pair := 1 },
   { base := 0x380083c, pair := 2 },
   { base := 0x3800840, pair := 1 },
   { base := 0x3800844, pair := 2 },
   { base := 0x3800848, pair := 1 },
   { base := 0x380084c, pair := 2 },
   { base := 0x3800850, pair := 1 },
   { base := 0x3800854, pair := 2 },
   { base := 0x3800858, pair := 1 },
   { base := 0x380085c, pair := 2 },
   { base := 0x3800860, pair := 1 },
   { base := 0x3800864, pair := 2 },
   { base := 0x3800868, rw := 0xffe00000 }]
/-- The words of block FWD, part 1. -/
def famsFwd1 : List RegFam :=
  [{ base := 0x383f000, dims := [(0x4, 16)], rw := 0xffffffff },
   { base := 0x3800110, agent := true },
   { base := 0x3800114, agent := true },
   { base := 0x3800118, agent := true },
   { base := 0x380011c, agent := true },
   { base := 0x3800220, rw := 0xff0000, agent := true },
   { base := 0x3800600, dims := [(0x8, 8)], rw := 0xffffffff, pair := 1 },
   { base := 0x3800604, dims := [(0x8, 8)], rw := 0xffffffff, pair := 2 }]
/-- The words of block FWD. -/
def famsFwd : List RegFam := famsFwd0 ++ famsFwd1
/-- The words of block TMG, part 0. -/
def famsTmg0 : List RegFam :=
  [{ base := 0x4000004, rw := 0xffffc0, sqc := 0x3f },
   { base := 0x4000008, rst := 0xc8, rw := 0xffffffff },
   { base := 0x400000c, rw := 0xffffffff },
   { base := 0x4000020, rw := 0x7fffffff },
   { base := 0x4000200, dims := [(0x8, 32)], rw := 0xffffffff },
   { base := 0x4000204, dims := [(0x8, 32)], rw := 0xffffffff },
   { base := 0x4010000, dims := [(0x10, 4096)], rw := 0xffffffff },
   { base := 0x4010004, dims := [(0x10, 4096)], rw := 0x3ffffff },
   { base := 0x4010008, dims := [(0x10, 4096)], rst := 0x2800, rw := 0xffffff },
   { base := 0x401000c, dims := [(0x10, 4096)], rw := 0xffffffff },
   { base := 0x4000800, pair := 1 },
   { base := 0x4000804, pair := 2 },
   { base := 0x4000808, pair := 1 },
   { base := 0x400080c, pair := 2 },
   { base := 0x4000810, pair := 1 },
   { base := 0x4000814, pair := 2 },
   { base := 0x4000818, pair := 1 },
   { base := 0x400081c, pair := 2 },
   { base := 0x4000820, pair := 1 },
   { base := 0x4000824, pair := 2 },
   { base := 0x4000828, pair := 1 },
   { base := 0x400082c, pair := 2 },
   { base := 0x4000830, pair := 1 },
   { base := 0x4000834, pair := 2 },
   { base := 0x4000838, pair := 1 },
   { base := 0x400083c, pair := 2 },
   { base := 0x4000840, pair := 1 },
   { base := 0x4000844, pair := 2 },
   { base := 0x4000848, pair := 1 },
   { base := 0x400084c, pair := 2 },
   { base := 0x4000850, pair := 1 },
   { base := 0x4000854, pair := 2 },
   { base := 0x403f000, dims := [(0x4, 16)], rw := 0xffffffff },
   { base := 0x4000030, rw := 0xffffffff, pair := 1 },
   { base := 0x4000034, rw := 0xffffffff, pair := 2 },
   { base := 0x4000038, rw := 0xffffffff },
   { base := 0x400003c },
   { base := 0x4000040, rw := 0xffffffff },
   { base := 0x4000400, dims := [(0x4, 96)], rw := 0xffffffff },
   { base := 0x4020000, dims := [(0x8, 256)], rst := 0xffffff, rw := 0xffffffff }]
/-- The words of block TMG, part 1. -/
def famsTmg1 : List RegFam :=
  [{ base := 0x4020004, dims := [(0x8, 256)] }]
/-- The words of block TMG. -/
def famsTmg : List RegFam := famsTmg0 ++ famsTmg1
/-- The words of block BPM. -/
def famsBpm : List RegFam :=
  [{ base := 0x4800000, dims := [(0x10, 8)] },
   { base := 0x4800004, dims := [(0x10, 8)] },
   { base := 0x4800008, dims := [(0x10, 8)] },
   { base := 0x480000c, dims := [(0x10, 8)] },
   { base := 0x4800100, rw := 0xfffc, sqc := 0xff0003 },
   { base := 0x4800200, pair := 1 },
   { base := 0x4800204, pair := 2 },
   { base := 0x4800208, pair := 1 },
   { base := 0x480020c, pair := 2 },
   { base := 0x483f000, dims := [(0x4, 16)], rw := 0xffffffff },
   { base := 0x4804000, dims := [(0x10, 8)] },
   { base := 0x4804004, dims := [(0x10, 8)] },
   { base := 0x4804008, dims := [(0x10, 8)] }]
/-- The words of block CRY. -/
def famsCry : List RegFam :=
  [{ base := 0x5000004, rw := 0xfc00, sqc := 0x3f },
   { base := 0x5000180, rw := 0x7ffffff0, agent := true },
   { base := 0x5000800, pair := 1 },
   { base := 0x5000804, pair := 2 },
   { base := 0x5000808, pair := 1 },
   { base := 0x500080c, pair := 2 },
   { base := 0x5000810, pair := 1 },
   { base := 0x5000814, pair := 2 },
   { base := 0x5000818, pair := 1 },
   { base := 0x500081c, pair := 2 },
   { base := 0x5000820, pair := 1 },
   { base := 0x5000824, pair := 2 },
   { base := 0x5000828, pair := 1 },
   { base := 0x500082c, pair := 2 },
   { base := 0x5000830, pair := 1 },
   { base := 0x5000834, pair := 2 },
   { base := 0x5000838, pair := 1 },
   { base := 0x500083c, pair := 2 },
   { base := 0x503f000, dims := [(0x4, 16)], rw := 0xffffffff },
   { base := 0x5000100, dims := [(0x4, 32)], rw := 0xffffffff, wo := 0xffffffff, agent := true },
   { base := 0x5000008, rw := 0x7fffffff },
   { base := 0x500000c, rw := 0xffffffff, wo := 0x1ffff },
   { base := 0x5000010, rw := 0xfff00000 },
   { base := 0x5000014, rw := 0xffffff80 },
   { base := 0x5000200, dims := [(0x4, 24)] },
   { base := 0x5000280, dims := [(0x4, 8)] },
   { base := 0x5000300, dims := [(0x4, 128)], rw := 0xffffffff, wo := 0xffffffff },
   { base := 0x5000500, rw := 0x7ffffff0 },
   { base := 0x5000504, rw := 0xfffffff8 }]
/-- The words of block TRB. -/
def famsTrb : List RegFam :=
  [{ base := 0x5800000, rw := 0xffffffff },
   { base := 0x5800004, rw := 0xfffe0, sqc := 0x1f },
   { base := 0x5800008, rw := 0x1fffffff },
   { base := 0x580000c, rst := 0x8100064, rw := 0xffffffff },
   { base := 0x583f000, dims := [(0x4, 16)], rw := 0xffffffff },
   { base := 0x5800100, pair := 1 },
   { base := 0x5800104, pair := 2 },
   { base := 0x5800108, pair := 1 },
   { base := 0x580010c, pair := 2 }]
/-- The words of block HSL. -/
def famsHsl : List RegFam :=
  [{ base := 0x6000000, dims := [(0x40000, 32)], rst := 0x64000000, rw := 0xffffffff },
   { base := 0x6000004, dims := [(0x40000, 32)], rw := 0x3860, sqc := 0x1f },
   { base := 0x6000008, dims := [(0x40000, 32)], hmw := true },
   { base := 0x6000010, dims := [(0x40000, 32)], rst := 0xa010000, rw := 0xffffffff },
   { base := 0x6000100, dims := [(0x40000, 32)], pair := 1 },
   { base := 0x6000104, dims := [(0x40000, 32)], pair := 2 },
   { base := 0x6000108, dims := [(0x40000, 32)], pair := 1 },
   { base := 0x600010c, dims := [(0x40000, 32)], pair := 2 },
   { base := 0x6000110, dims := [(0x40000, 32)], pair := 1 },
   { base := 0x6000114, dims := [(0x40000, 32)], pair := 2 },
   { base := 0x6000118, dims := [(0x40000, 32)], pair := 1 },
   { base := 0x600011c, dims := [(0x40000, 32)], pair := 2 },
   { base := 0x6000120, dims := [(0x40000, 32)], pair := 1 },
   { base := 0x6000124, dims := [(0x40000, 32)], pair := 2 },
   { base := 0x6000128, dims := [(0x40000, 32)], pair := 1 },
   { base := 0x600012c, dims := [(0x40000, 32)], pair := 2 },
   { base := 0x6000130, dims := [(0x40000, 32)], pair := 1 },
   { base := 0x6000134, dims := [(0x40000, 32)], pair := 2 },
   { base := 0x6000138, dims := [(0x40000, 32)], pair := 1 },
   { base := 0x600013c, dims := [(0x40000, 32)], pair := 2 },
   { base := 0x6000140, dims := [(0x40000, 32)], pair := 1 },
   { base := 0x6000144, dims := [(0x40000, 32)], pair := 2 },
   { base := 0x6000148, dims := [(0x40000, 32)], pair := 1 },
   { base := 0x600014c, dims := [(0x40000, 32)], pair := 2 },
   { base := 0x6000150, dims := [(0x40000, 32)], pair := 1 },
   { base := 0x6000154, dims := [(0x40000, 32)], pair := 2 },
   { base := 0x6000158, dims := [(0x40000, 32)], pair := 1 },
   { base := 0x600015c, dims := [(0x40000, 32)], pair := 2 },
   { base := 0x603f000, dims := [(0x40000, 32), (0x4, 16)], rw := 0xffffffff },
   { base := 0x600000c, dims := [(0x40000, 32)], rst := 0x64, rw := 0xffffffff }]
/-- The words of block SLV, part 0. -/
def famsSlv0 : List RegFam :=
  [{ base := 0x6800000, rw := 0xc7ffffff },
   { base := 0x6800004, rw := 0x3fe0, sqc := 0x1f },
   { base := 0x6800010, rst := 0xa, rw := 0xcfffffff },
   { base := 0x6800014, rw := 0x7fe00, sqc := 0x1ff },
   { base := 0x6800800, pair := 1 },
   { base := 0x6800804, pair := 2 },
   { base := 0x6800808, pair := 1 },
   { base := 0x680080c, pair := 2 },
   { base := 0x6800810, pair := 1 },
   { base := 0x6800814, pair := 2 },
   { base := 0x6800818, pair := 1 },
   { base := 0x680081c, pair := 2 },
   { base := 0x6800820, pair := 1 },
   { base := 0x6800824, pair := 2 },
   { base := 0x6800828, pair := 1 },
   { base := 0x680082c, pair := 2 },
   { base := 0x6800830, pair := 1 },
   { base := 0x6800834, pair := 2 },
   { base := 0x6800838, pair := 1 },
   { base := 0x680083c, pair := 2 },
   { base := 0x6800840, pair := 1 },
   { base := 0x6800844, pair := 2 },
   { base := 0x6800848, pair := 1 },
   { base := 0x680084c, pair := 2 },
   { base := 0x6800850, pair := 1 },
   { base := 0x6800854, pair := 2 },
   { base := 0x6800858, pair := 1 },
   { base := 0x680085c, pair := 2 },
   { base := 0x6800860, pair := 1 },
   { base := 0x6800864, pair := 2 },
   { base := 0x6800868, pair := 1 },
   { base := 0x680086c, pair := 2 },
   { base := 0x6800870, pair := 1 },
   { base := 0x6800874, pair := 2 },
   { base := 0x6800878, pair := 1 },
   { base := 0x680087c, pair := 2 },
   { base := 0x683f000, dims := [(0x4, 16)], rw := 0xffffffff },
   { base := 0x6800100, dims := [(0x4, 64)], rw := 0xffffffff, wo := 0xffffffff, agent := true },
   { base := 0x6800200, rw := 0x7ffcffff, agent := true },
   { base := 0x6800300, dims := [(0x4, 64)] }]
/-- The words of block SLV, part 1. -/
def famsSlv1 : List RegFam :=
  [{ base := 0x6800400, rw := 0x3ffffe00 },
   { base := 0x6800018, rw := 0xffffffff, pair := 1 },
   { base := 0x680001c, rw := 0xffffffff, pair := 2 },
   { base := 0x6800500, dims := [(0x4, 64)], rw := 0xffffffff },
   { base := 0x6800600, dims := [(0x4, 12)] },
   { base := 0x6800640, dims := [(0x4, 12)] },
   { base := 0x6800700, dims := [(0x4, 16)], rw := 0xcfffffff }]
/-- The words of block SLV. -/
def famsSlv : List RegFam := famsSlv0 ++ famsSlv1
/-- The words of block MEM. -/
def famsMem : List RegFam :=
  [{ base := 0x7000000, dims := [(0x100000, 8)], rw := 0xf0, sqc := 0x6 },
   { base := 0x7000010, dims := [(0x100000, 8)], hmw := true },
   { base := 0x703f000, dims := [(0x100000, 8), (0x4, 16)], rw := 0xffffffff }]
/-- The words of block BLT, part 0. -/
def famsBlt0 : List RegFam :=
  [{ base := 0x7800000, rst := 0x800003e8, rw := 0xffffffff },
   { base := 0x7800004, rw := 0xfffe02, sqc := 0xfd },
   { base := 0x7800100, dims := [(0x20, 6)], pair := 1 },
   { base := 0x7800104, dims := [(0x20, 6)], pair := 2 },
   { base := 0x7800108, dims := [(0x20, 6)] },
   { base := 0x780010c, dims := [(0x20, 6)], pair := 1 },
   { base := 0x7800110, dims := [(0x20, 6)], pair := 2 },
   { base := 0x7800114, dims := [(0x20, 6)] },
   { base := 0x7800118, dims := [(0x20, 6)] },
   { base := 0x780011c, dims := [(0x20, 6)], rw := 0xffffffff },
   { base := 0x7800200, dims := [(0x10, 8)], rw := 0xffffffff },
   { base := 0x7800204, dims := [(0x10, 8)], rw := 0xffffff },
   { base := 0x7800208, dims := [(0x10, 8)] },
   { base := 0x780020c, dims := [(0x10, 8)], rw := 0xffffffff },
   { base := 0x7800300, rst := 0x70000, rw := 0x7fffffff },
   { base := 0x7800320, dims := [(0x10, 8)], rw := 0xffc0 },
   { base := 0x7800324, dims := [(0x10, 8)], pair := 1 },
   { base := 0x7800328, dims := [(0x10, 8)], pair := 2 },
   { base := 0x780032c, dims := [(0x10, 8)] },
   { base := 0x7800400, dims := [(0x4, 8)], rst := 0x70000, rw := 0xffffffff },
   { base := 0x7800800, pair := 1 },
   { base := 0x7800804, pair := 2 },
   { base := 0x7800808, pair := 1 },
   { base := 0x780080c, pair := 2 },
   { base := 0x7800810, pair := 1 },
   { base := 0x7800814, pair := 2 },
   { base := 0x7800818, pair := 1 },
   { base := 0x780081c, pair := 2 },
   { base := 0x7800820, pair := 1 },
   { base := 0x7800824, pair := 2 },
   { base := 0x783f000, dims := [(0x4, 16)], rw := 0xffffffff },
   { base := 0x7802000, dims := [(0x40, 8)], pair := 1 },
   { base := 0x7802004, dims := [(0x40, 8)], pair := 2 },
   { base := 0x7802008, dims := [(0x40, 8)], pair := 1 },
   { base := 0x780200c, dims := [(0x40, 8)], pair := 2 },
   { base := 0x7802010, dims := [(0x40, 8)], pair := 1 },
   { base := 0x7802014, dims := [(0x40, 8)], pair := 2 },
   { base := 0x7802018, dims := [(0x40, 8)], pair := 1 },
   { base := 0x780201c, dims := [(0x40, 8)], pair := 2 },
   { base := 0x7802020, dims := [(0x40, 8)], pair := 1 }]
/-- The words of block BLT, part 1. -/
def famsBlt1 : List RegFam :=
  [{ base := 0x7802024, dims := [(0x40, 8)], pair := 2 },
   { base := 0x7800008 },
   { base := 0x780000c, rw := 0x7fffffff },
   { base := 0x7800304, rst := 0x1e000a, rw := 0xffffffff }]
/-- The words of block BLT. -/
def famsBlt : List RegFam := famsBlt0 ++ famsBlt1
/-- The words of block PMC, part 0. -/
def famsPmc0 : List RegFam :=
  [{ base := 0x8000100, rw := 0xfffffffe },
   { base := 0x8000104, rw := 0xff20, sqc := 0x5f },
   { base := 0x8000110, dims := [(0x4, 5)], rst := 0xfffff },
   { base := 0x8000004, rw := 0xfffff0, sqc := 0xf },
   { base := 0x8000010, rst := 0x401, rw := 0x7fffffff },
   { base := 0x8002000, dims := [(0x20, 256)], rw := 0xffffffff, pair := 1 },
   { base := 0x8002004, dims := [(0x20, 256)], rw := 0xffff, pair := 2 },
   { base := 0x8002008, dims := [(0x20, 256)], rw := 0xffffffff, pair := 1 },
   { base := 0x800200c, dims := [(0x20, 256)], rw := 0xffff, pair := 2 },
   { base := 0x8002010, dims := [(0x20, 256)], rw := 0xffffffff, pair := 1 },
   { base := 0x8002014, dims := [(0x20, 256)], rw := 0xffff, pair := 2 },
   { base := 0x8002018, dims := [(0x20, 256)], rw := 0xffffffff, pair := 1 },
   { base := 0x800201c, dims := [(0x20, 256)], rw := 0xffff, pair := 2 },
   { base := 0x803f000, dims := [(0x4, 16)], rw := 0xffffffff },
   { base := 0x8000200, rw := 0xfffff800 },
   { base := 0x8000014, rst := 0x10000, rw := 0xffff0000 },
   { base := 0x8000018 },
   { base := 0x8000020, dims := [(0x4, 6)] },
   { base := 0x8000040, dims := [(0x4, 32)], rst := 0x1, rw := 0xffffffff },
   { base := 0x80000c0, pair := 1 },
   { base := 0x80000c4, pair := 2 },
   { base := 0x8000300, dims := [(0x4, 21)], rw := 0xff0000, sqc := 0xffff },
   { base := 0x8000380, dims := [(0x4, 21)], rw := 0xffffffff },
   { base := 0x8004000, dims := [(0x40, 16)], rst := 0xc, rw := 0xffffffff },
   { base := 0x8004010, dims := [(0x40, 16)] },
   { base := 0x8004014, dims := [(0x40, 16)] },
   { base := 0x8004018, dims := [(0x40, 16)] },
   { base := 0x800401c, dims := [(0x40, 16)] },
   { base := 0x8004020, dims := [(0x40, 16)], rw := 0xffffffff, pair := 1 },
   { base := 0x8004024, dims := [(0x40, 16)], rw := 0xffff, pair := 2 },
   { base := 0x8004028, dims := [(0x40, 16)], rw := 0xffffffff, pair := 1 },
   { base := 0x800402c, dims := [(0x40, 16)], rw := 0xffff, pair := 2 },
   { base := 0x8005000, dims := [(0x40, 64)], rst := 0x3e8, rw := 0xffffffff },
   { base := 0x8005004, dims := [(0x40, 64)], rw := 0x7f000000 },
   { base := 0x8005008, dims := [(0x40, 64)], pair := 1 },
   { base := 0x800500c, dims := [(0x40, 64)], pair := 2 },
   { base := 0x8005010, dims := [(0x40, 64)], pair := 1 },
   { base := 0x8005014, dims := [(0x40, 64)], pair := 2 },
   { base := 0x8005018, dims := [(0x40, 64)], pair := 1 },
   { base := 0x800501c, dims := [(0x40, 64)], pair := 2 }]
/-- The words of block PMC, part 1. -/
def famsPmc1 : List RegFam :=
  [{ base := 0x8005020, dims := [(0x40, 64)], rw := 0xffffffff, pair := 1 },
   { base := 0x8005024, dims := [(0x40, 64)], rw := 0xffff, pair := 2 },
   { base := 0x8005028, dims := [(0x40, 64)], rw := 0xffffffff, pair := 1 },
   { base := 0x800502c, dims := [(0x40, 64)], rw := 0xffff, pair := 2 },
   { base := 0x8005030, dims := [(0x40, 64)], pair := 1 },
   { base := 0x8005034, dims := [(0x40, 64)], pair := 2 }]
/-- The words of block PMC. -/
def famsPmc : List RegFam := famsPmc0 ++ famsPmc1
/-- The words of block WIN, part 0. -/
def famsWin0 : List RegFam :=
  [{ base := 0x9000000, dims := [(0x20, 163840)], pair := 1 },
   { base := 0x9000004, dims := [(0x20, 163840)], pair := 2 },
   { base := 0x9000008, dims := [(0x20, 163840)], pair := 1 },
   { base := 0x900000c, dims := [(0x20, 163840)], pair := 2 },
   { base := 0x9000010, dims := [(0x20, 163840)], pair := 1 },
   { base := 0x9000014, dims := [(0x20, 163840)], pair := 2 },
   { base := 0x9000018, dims := [(0x20, 163840)], pair := 1 },
   { base := 0x900001c, dims := [(0x20, 163840)], pair := 2 },
   { base := 0x9600000, dims := [(0x8, 163840)], pair := 1 },
   { base := 0x9600004, dims := [(0x8, 163840)], pair := 2 },
   { base := 0x9880000, dims := [(0x20, 4096)], rw := 0xffffffff },
   { base := 0x9880004, dims := [(0x20, 4096)], rw := 0xffffffff },
   { base := 0x9880008, dims := [(0x20, 4096)], rw := 0xffffffff },
   { base := 0x988000c, dims := [(0x20, 4096)], rw := 0xffffffff },
   { base := 0x9880010, dims := [(0x20, 4096)], rst := 0x810, rw := 0xffffffff },
   { base := 0x9880014, dims := [(0x20, 4096)], rw := 0xffffffff },
   { base := 0x9880018, dims := [(0x20, 4096)], rw := 0xffffffff },
   { base := 0x988001c, dims := [(0x20, 4096)], rw := 0xffffffff },
   { base := 0x9800000, dims := [(0x4, 65536)], rst := 0xff0000, rw := 0xffffffff },
   { base := 0x9840000, dims := [(0x4, 65536)], rst := 0xff0000 },
   { base := 0x98a0000, dims := [(0x40, 4096), (0x4, 16)], rw := 0xffffffff },
   { base := 0x9980000, dims := [(0x4, 4096)], rw := 0xc0ffe0, sqc := 0x1f },
   { base := 0x9900000, dims := [(0x80, 4096)], pair := 1 },
   { base := 0x9900004, dims := [(0x80, 4096)], pair := 2 },
   { base := 0x9900008, dims := [(0x80, 4096)], pair := 1 },
   { base := 0x990000c, dims := [(0x80, 4096)], pair := 2 },
   { base := 0x9900010, dims := [(0x80, 4096)], pair := 1 },
   { base := 0x9900014, dims := [(0x80, 4096)], pair := 2 },
   { base := 0x9900018, dims := [(0x80, 4096)], pair := 1 },
   { base := 0x990001c, dims := [(0x80, 4096)], pair := 2 },
   { base := 0x9900020, dims := [(0x80, 4096)], pair := 1 },
   { base := 0x9900024, dims := [(0x80, 4096)], pair := 2 },
   { base := 0x9900028, dims := [(0x80, 4096)], pair := 1 },
   { base := 0x990002c, dims := [(0x80, 4096)], pair := 2 },
   { base := 0x9900030, dims := [(0x80, 4096)], pair := 1 },
   { base := 0x9900034, dims := [(0x80, 4096)], pair := 2 },
   { base := 0x9900038, dims := [(0x80, 4096)], pair := 1 },
   { base := 0x990003c, dims := [(0x80, 4096)], pair := 2 },
   { base := 0x9900040, dims := [(0x80, 4096)], pair := 1 },
   { base := 0x9900044, dims := [(0x80, 4096)], pair := 2 }]
/-- The words of block WIN, part 1. -/
def famsWin1 : List RegFam :=
  [{ base := 0x9900048, dims := [(0x80, 4096)], pair := 1 },
   { base := 0x990004c, dims := [(0x80, 4096)], pair := 2 },
   { base := 0x9900050, dims := [(0x80, 4096)], pair := 1 },
   { base := 0x9900054, dims := [(0x80, 4096)], pair := 2 },
   { base := 0x9900058, dims := [(0x80, 4096)], pair := 1 },
   { base := 0x990005c, dims := [(0x80, 4096)], pair := 2 },
   { base := 0x9900060, dims := [(0x80, 4096)], pair := 1 },
   { base := 0x9900064, dims := [(0x80, 4096)], pair := 2 },
   { base := 0x9900068, dims := [(0x80, 4096)], pair := 1 },
   { base := 0x990006c, dims := [(0x80, 4096)], pair := 2 },
   { base := 0x9900070, dims := [(0x80, 4096)], pair := 1 },
   { base := 0x9900074, dims := [(0x80, 4096)], pair := 2 },
   { base := 0x9900078, dims := [(0x80, 4096)], pair := 1 },
   { base := 0x990007c, dims := [(0x80, 4096)], pair := 2 },
   { base := 0x9a00000, dims := [(0x8, 16384)], rw := 0xf7ffffff },
   { base := 0x9a00004, dims := [(0x8, 16384)] },
   { base := 0x9a20000, dims := [(0x4, 64)], rw := 0xffffffff },
   { base := 0x9b00000, dims := [(0x4, 262144)], rw := 0xffffffff },
   { base := 0x9c00000, dims := [(0x4, 131072)], rw := 0x3ffffff },
   { base := 0xa000000, dims := [(0x10, 4096)] },
   { base := 0xa000004, dims := [(0x10, 4096)] },
   { base := 0xa000008, dims := [(0x10, 4096)] },
   { base := 0xa00000c, dims := [(0x10, 4096)] },
   { base := 0xa100000, dims := [(0x10, 65536)] },
   { base := 0xa100004, dims := [(0x10, 65536)] },
   { base := 0xa100008, dims := [(0x10, 65536)], pair := 1 },
   { base := 0xa10000c, dims := [(0x10, 65536)], pair := 2 },
   { base := 0xa200000, dims := [(0x4, 841303)] },
   { base := 0xa800000, dims := [(0x10, 1024)] },
   { base := 0xa800004, dims := [(0x10, 1024)] },
   { base := 0xa800008, dims := [(0x10, 1024)] },
   { base := 0xa80000c, dims := [(0x10, 1024)] },
   { base := 0xb000000, dims := [(0x80, 49152), (0x4, 32)] },
   { base := 0xb600000, dims := [(0x8, 49152)], pair := 1 },
   { base := 0xb600004, dims := [(0x8, 49152)], pair := 2 },
   { base := 0xc000000, dims := [(0x10, 1048576)] },
   { base := 0xc000004, dims := [(0x10, 1048576)] },
   { base := 0xc000008, dims := [(0x10, 1048576)] },
   { base := 0xc00000c, dims := [(0x10, 1048576)] },
   { base := 0xd000000, dims := [(0x10, 1048576)] }]
/-- The words of block WIN, part 2. -/
def famsWin2 : List RegFam :=
  [{ base := 0xd000004, dims := [(0x10, 1048576)] },
   { base := 0xd000008, dims := [(0x10, 1048576)] },
   { base := 0xd00000c, dims := [(0x10, 1048576)] },
   { base := 0xe000000, dims := [(0x10, 65536)], rw := 0xffffffff },
   { base := 0xe000004, dims := [(0x10, 65536)], rw := 0xffffffff },
   { base := 0xe000008, dims := [(0x10, 65536)], rw := 0xffffffff },
   { base := 0xe00000c, dims := [(0x10, 65536)], rw := 0xffffffff },
   { base := 0xe100000, dims := [(0x10, 65536)], rw := 0xffffffff },
   { base := 0xe100004, dims := [(0x10, 65536)], rw := 0xffffffff },
   { base := 0xe100008, dims := [(0x10, 65536)], rw := 0xffffffff },
   { base := 0xe10000c, dims := [(0x10, 65536)], rw := 0xffffffff },
   { base := 0xe200000, dims := [(0x4, 65536)], rw := 0xffffffff },
   { base := 0xe240000, dims := [(0x8, 16384)], rw := 0xffffffff },
   { base := 0xe240004, dims := [(0x8, 16384)], rw := 0xffffffff },
   { base := 0xf000000, dims := [(0x20, 163840)], rw := 0xffffffff },
   { base := 0xf000004, dims := [(0x20, 163840)], rst := 0x2800, rw := 0xffffffff },
   { base := 0xf000008, dims := [(0x20, 163840)], rw := 0xffffffff },
   { base := 0xf00000c, dims := [(0x20, 163840)], rw := 0xffffffff },
   { base := 0xf000010, dims := [(0x20, 163840)] },
   { base := 0xf000014, dims := [(0x20, 163840)] },
   { base := 0xf000018, dims := [(0x20, 163840)] },
   { base := 0xf00001c, dims := [(0x20, 163840)], rw := 0xffffffff },
   { base := 0xf600000, dims := [(0x4, 262144)], rw := 0xffffffff },
   { base := 0xf800000, dims := [(0x20, 65536)], rw := 0xffffffff },
   { base := 0xf800004, dims := [(0x20, 65536)], rw := 0xffffffff },
   { base := 0xf800008, dims := [(0x20, 65536)], rw := 0xffffffff },
   { base := 0xf80000c, dims := [(0x20, 65536)], rw := 0xffffffff },
   { base := 0xf800010, dims := [(0x20, 65536)], rw := 0xffffffff },
   { base := 0xf800014, dims := [(0x20, 65536)], rw := 0xffffffff },
   { base := 0xf800018, dims := [(0x20, 65536)], pair := 1 },
   { base := 0xf80001c, dims := [(0x20, 65536)], pair := 2 },
   { base := 0xfa00000, dims := [(0x10, 16384)], rw := 0xffffffff },
   { base := 0xfa00004, dims := [(0x10, 16384)], rw := 0xffffffff },
   { base := 0xfa40000, dims := [(0x4, 65536)], rw := 0xffffffff },
   { base := 0xfa80000, dims := [(0x8, 262144)], rw := 0xffffffff },
   { base := 0xfa80004, dims := [(0x8, 262144)], rw := 0xffffffff }]
/-- The words of block WIN. -/
def famsWin : List RegFam := famsWin0 ++ famsWin1 ++ famsWin2
/-- The words that may lie at a BAR0 offset, by the block map (R65). -/
def famsAt (a : Nat) : List RegFam :=
  if a < 0x100000 then famsGlb else
  if a < 0x200000 then famsHpi else
  if a < 0x300000 then famsClk else
  if a < 0x400000 then famsPwr else
  if a < 0x600000 then famsTmp else
  if a < 0x700000 then famsTim else
  if a < 0x800000 then famsDrf else
  if a < 0xc00000 then famsShu else
  if a < 0x2000000 then famsPch else
  if a < 0x3000000 then famsShd else
  if a < 0x3800000 then famsCls else
  if a < 0x4000000 then famsFwd else
  if a < 0x4800000 then famsTmg else
  if a < 0x5000000 then famsBpm else
  if a < 0x5800000 then famsCry else
  if a < 0x6000000 then famsTrb else
  if a < 0x6800000 then famsHsl else
  if a < 0x7000000 then famsSlv else
  if a < 0x7800000 then famsMem else
  if a < 0x8000000 then famsBlt else
  if a < 0x9000000 then famsPmc else
  famsWin

/-- The indices at which a distance falls on an array's elements; none off them. -/
def dimIdx : List (Nat × Nat) → Nat → Option (List Nat)
  | [], x => if x = 0 then some [] else none
  | (st, n) :: ds, x =>
    if x / st < n then
      match dimIdx ds (x % st) with
      | some is => some (x / st :: is)
      | none => none
    else none

/-- The indices of a word, where it lies in the family. -/
def RegFam.idxOf (f : RegFam) (a : Nat) : Option (List Nat) :=
  if a < f.base then none else dimIdx f.dims (a - f.base)

/-- The family of a BAR0 offset: none for an unused part of a block (R51). -/
def famOf (a : Nat) : Option RegFam := (famsAt a).find? (fun f => (f.idxOf a).isSome)

/-- What a family holds at reset at one offset: its reset word, and the index in the field that holds it. -/
def RegFam.resetAt (f : RegFam) (a : Nat) : Nat :=
  match f.idxOf a with
  | some is => f.rst + (f.idx.map (fun p => is.getD p.1 0 * 2 ^ p.2)).sum
  | none => 0

end Sys2Proof.Machine
end

