-- ==== Sys2Proof/Machine/ResetVals.lean ====
section
/-! DEFINITION. The reset value of every register word: the value of its table, and the arrays whose reset values a rule
or an assumption gives element by element. -/
namespace Sys2Proof.Machine

/-- Entry word 0 of the default reaction of a fault class (R450, R454): VALID 31, RETIRE_EN 29, SAFE_ON_LIMIT 28, SAFE_NOW 27,
MUTE_NOW 26, ALERT 25. Codes that no class has are not VALID. -/
def reactDefault (k : Nat) : Nat :=
  if [0x01, 0x02, 0x08, 0x10, 0x11, 0x12, 0x18, 0x19, 0x20].contains k then 2 ^ 31 + 2 ^ 29
  else if k = 0x28 || k = 0x29 then 2 ^ 31 + 2 ^ 28
  else if k = 0x30 || k = 0x31 then 2 ^ 31 + 2 ^ 27
  else if k = 0x32 then 2 ^ 31 + 2 ^ 27 + 2 ^ 26 + 2 ^ 25
  else if k = 0x33 then 2 ^ 31 + 2 ^ 25
  else if 0x34 ≤ k && decide (k ≤ 0x37) then 2 ^ 31
  else 0

/-- Even parity of a number of 32 bits. -/
def parity32 (n : Nat) : Nat := ((List.range 32).filter (fun i => bit n i)).length % 2

/-- Buffer sizes of the four on-chip pools and the four spill pools (R27). -/
def poolBytes (p : Nat) : Nat := [256, 1024, 2560, 10240].getD (p % 4) 0

/-- Lowest and highest voltage of a rail, mV (R486, R521). -/
def railRange (r : Nat) : Nat × Nat :=
  [(750, 750), (700, 850), (650, 900), (650, 900), (650, 900), (650, 900), (800, 800), (1200, 1200), (1100, 1100), (1800, 1800)].getD r (0, 0)

/-- The window of the SUPPLY entry of a rail, mV (R522): its tolerance (R521) and 2 % more, adaptive rails about the boot value. -/
def railWindow (r : Nat) : Nat × Nat :=
  [(713, 787), (760, 840), (760, 840), (760, 840), (760, 840), (760, 840), (768, 832), (1152, 1248), (1045, 1155), (1674, 1926)].getD r (0, 0)

/-- Words of the fixed watch entries (R498): SUPPLY of rails 0 to 9 after three samples, and the THERMAL trip of R496 as entry 10. -/
def watchFixed (e w : Nat) : Option Nat :=
  if e < 10 then
    (if w = 0 then some (2 ^ 31 + 2 * 2 ^ 29 + e * 2 ^ 23 + 3) else if w = 1 then some (railWindow e).1
     else if w = 2 then some (railWindow e).2 else none)
  else if e = 10 then (if w = 0 then some (2 ^ 31 + 2 * 2 ^ 29 + 63 * 2 ^ 23 + 1) else if w = 2 then some 1149 else none)
  else none

/-- The words whose reset value a rule gives by element. -/
def resetOver (off : Nat) : Option Word :=
  if TMP_REACT 0 ≤ off && decide (off < TMP_REACT 64) then
    let k := (off - TMP_REACT 0) / 8
    some (word (if off % 8 = 0 then reactDefault k else parity32 (reactDefault k) * 2 ^ 31))
  else if TMP_WATCH 0 ≤ off && decide (off < TMP_WATCH 16) then
    (watchFixed ((off - TMP_WATCH 0) / 16) (off % 16 / 4)).map word
  else if PWR_RAIL 0 ≤ off && decide (off < PWR_RAIL 10) && decide (off % 16 = 4) then
    let r := railRange ((off - PWR_RAIL 0) / 16)
    some (word (r.2 * 65536 + r.1))
  else if BPM_POOL 0 ≤ off && decide (off < BPM_POOL 8) && decide (off % 16 = 0) then some (word (poolBytes ((off - BPM_POOL 0) / 16)))
  else if TMP_CHK_MAP 0 ≤ off && decide (off < TMP_CHK_MAP 12800) then some (Config.chkMap ((off - TMP_CHK_MAP 0) / 4))
  else if CRY_ID_PUB 0 ≤ off && decide (off < CRY_ID_PUB 24) then some (Config.idPub ((off - CRY_ID_PUB 0) / 4))
  else none

/-- What a register word holds at reset (keys of an agent's own copy, of values in force and of live counts included). -/
def resetWord (a : Nat) : Word :=
  let off := a % 0x10000000
  match resetOver off with
  | some w => w
  | none =>
    match famOf off with
    | some f => word (f.resetAt off)
    | none => 0

end Sys2Proof.Machine
end

