-- ==== Sys2Proof/Machine/State.lean ====
section
/-! DEFINITION. The state of the block as plain data: the register file, DDR-5, the state the chapters name beside the
registers, and the queue of waiting commands. Every table is a `Tab`, whose unlisted keys read as the zero value, which
is the value of every such element at reset. -/
namespace Sys2Proof.Machine

/-- Why the machine could stop. The spec names no condition that stops this block: nothing raises a fault. -/
inductive Fault where
  /-- Never raised: kept so that the type is not empty. Safe. -/
  | none
  deriving DecidableEq, Repr

/-- Why a command has no meaning. -/
inductive Refusal where
  /-- Raised by the arms of `exec` for a command without a meaning. Safe. -/
  | notModelled (mnemonic : String)
  /-- Raised by a meaning whose operands are not well formed (`Instr.wellFormed`): no such access exists (R46). Safe. -/
  | illFormed (mnemonic : String)
  deriving DecidableEq, Repr

/-- What one register agent holds (R8 to R10): its read snapshot (the offsets it covers and their values), its write-hold
(the offset of the _HI word and the value), and the data of its latest read completion. -/
structure AgentSt where
  snap : List (Nat × Word)
  hold : Option (Nat × Word)
  last : Word
  deriving DecidableEq, Repr, Inhabited

/-- One source at one port (R58): a holdoff runs; an assertion event occurred during it; the message that started it
was caused by an assertion event. -/
structure IrqSt where
  active : Bool
  again : Bool
  byEvent : Bool
  deriving DecidableEq, Repr, Inhabited

/-- A freeze asked for (R425): its CAUSE, the CODE that triggered it, its rings and its time T. -/
structure Frz where
  cause : Nat
  code : Nat
  rings : Nat
  t : Nat
  deriving DecidableEq, Repr, Inhabited

/-- What the bridge and CLK know of one block (R45, R50, R482, R484): released from reset by the Temple; its clock
gated; a gate request of the host and of the power controller; marked hung; a gate or a block reset waiting for its bus
interface; its status events blanked after a reset (R464). -/
structure Blk where
  released : Bool
  gated : Bool
  gateReq : Bool
  gatePwr : Bool
  hung : Bool
  gateWait : Bool
  resetting : Bool
  blanked : Bool
  deriving DecidableEq, Repr, Inhabited

/-- The two host ports, the DDR-5 population and the read data of BAR2. -/
structure HostSt where
  /-- channels whose MOD mailbox waits, per bus in order of arrival (R96) -/
  modBus : Tab (List Nat)
  upA : Bool
  upB : Bool
  gib : Nat
  bar2A : Byte
  bar2B : Byte
  cals : Nat
  /-- by DDR-5 channel: when its latest patrol scrub ended (R66, R260) -/
  scrubAt : Tab Nat
  training : Bool
  deriving DecidableEq, Repr, Inhabited

/-- A grant as the shed shuttle writes it: three words (R186). -/
structure Grant where
  w0 : Word
  w1 : Word
  w2 : Word
  deriving DecidableEq, Repr, Inhabited

/-- A further answer of a quiet window (R155): its match, and what its decode has shown. -/
structure Ans where
  hit : MatchObs
  ambig : Bool
  hdrFail : Bool
  dg : Bool
  firstSeen : Bool
  firstOk : Bool
  cwTotal : Nat
  cwFail : Nat
  corr : Nat
  deriving DecidableEq, Repr, Inhabited

/-- The first fragments of an upstream Ethernet frame (R136, R362): the port-ID, the bytes so far, and whether a tag failed, after which
nothing of the frame goes on. -/
structure Frag where
  port : Nat
  bytes : List Byte
  bad : Bool
  deriving DecidableEq, Repr, Inhabited

/-- An XGEM frame or fragment in the payload of a downstream frame (R114, R115): its port-ID, the ONU slot whose keys it used, the
protection (0 none, 1 counter mode, 2 sealed), and its bytes as sent, header first. -/
structure XItem where
  port : Nat
  slot : Nat
  mode : Nat
  bytes : List Byte
  deriving DecidableEq, Repr, Inhabited

/-- A downstream frame (R98 to R117): its number, its sealed grants and the 48 bytes of each of its PLOAMs, the XGEM frames placed so far,
the information bytes of the payload that these and idle frames have taken and those that XGEM frames have taken, and whether a data check
has ended the payload. -/
structure DsFrame where
  n : Nat
  grants : List Grant
  ploams : List (List Byte)
  items : List XItem
  used : Nat
  drawn : Nat
  ended : Bool
  deriving DecidableEq, Repr, Inhabited

/-- The rest of an XGEM frame that did not fit in its frame (R114): its port-ID, its plain bytes, and the protection, key index, ONU slot
and (masked) key fixed when it was drawn (R115). -/
structure Carry where
  port : Nat
  slot : Nat
  mode : Nat
  idx : Nat
  key : BitVec 256
  bytes : List Byte
  deriving DecidableEq, Repr, Inhabited

/-- An issued burst and its window (R119 to R139): its grants with their ledger entries, in order; its frame, slot (256 for
the broadcast Alloc-ID), profile, preamble bits and FEC; the position E in upstream bits of device time, the search range and
the end of the granted length relative to E; whether it is a ranging or discovery window; whether the BWmap that carried it was lost
(R111); the frame on the wire at its opening; and what the receiver has seen of it: per grant, by ledger entry, the DBRU result, bytes to CRY, idle bytes, whether data came
and whether delineation ended. -/
structure Win where
  grants : List (Nat × Grant)
  frame : Nat
  slot : Nat
  pre : Nat
  fec : Bool
  e : Nat
  lo : Int
  hi : Int
  len : Nat
  disc : Bool
  rng : Bool
  lost : Bool
  clipped : Bool
  opened : Bool
  openIn : Nat
  entry : Nat
  stale : Bool
  validPre : Bool
  stored : List Word
  maxErr : Nat
  hit : Option MatchObs
  ambig : Bool
  hdrFail : Bool
  foreign : Bool
  dg : Bool
  firstSeen : Bool
  firstOk : Bool
  cwTotal : Nat
  cwFail : Nat
  corr : Nat
  hecFail : Nat
  dbruRes : Tab Nat
  gBytes : Tab Nat
  gIdle : Tab Nat
  gData : Tab Bool
  gEnded : Tab Bool
  gFirst : Tab Bool
  dbruBad : Nat
  bytes : Nat
  extra : List Ans
  noWriteBack : Bool
  xpos : Nat
  deriving DecidableEq, Repr, Inhabited

/-- A channel (chapters 3 to 5): the settings applied at its start, its transmit and receive state (`due8`: when the next PSync is due, in
1/8 ns; `closeWait`: the PSyncs after which every frame sealed before CLOSING has left; `verdicts`: the frames whose windows have not all
ended, by frame, and whether one of them saw energy; `brst` and `rssi`: the latest pulses of those pins, start and end, in upstream bits of
device time × 1,250,000), the map buffers of the two open frames (the first of them is frame `openLo`; those
of frames before `shutTo` are closed, R539), LEAD_NS and CUTOFF_NS as latched for the next seal (R107, R219), the frame on the wire, the windows
not yet ended, and the queues. -/
structure Pch where
  mode : Nat
  usRate : Nat
  pair : Bool
  freeAlign : Bool
  offset : Nat
  teqd : Nat
  enPending : Bool
  txLocked : Bool
  running : Bool
  framesSent : Nat
  due8 : Nat
  closeWait : Nat
  coastHold : Bool
  protHeld : Bool
  protMute : Bool
  txRestart : Bool
  waking : Bool
  rxStop : Bool
  blank : Bool
  lolBlank : Bool
  blankMute : Bool
  blankTx : Bool
  permBlank : Bool
  pendingLos : Bool
  pendingLol : Bool
  losPin : Bool
  pinSince : Nat
  dark : Nat
  lit : Nat
  sawWindow : Bool
  sawEnergy : Bool
  verdicts : List (Nat × Bool)
  litSecond : Bool
  txfLast : Option Nat
  txfDue : Bool
  openLo : Nat
  buf0 : List Grant
  buf1 : List Grant
  leadNext : Nat
  cutNext : Nat
  shutTo : Nat
  sealed : List Grant
  ploamQ : List Ploam
  ploamTx : List Ploam
  cur : DsFrame
  carry : Option Carry
  wins : List Win
  lastEnd : Nat
  brst : Option (Int × Int)
  rssi : Option (Int × Int)
  rssiRun : Nat
  bkq : List (List Word)
  frags : Tab (Option Frag)
  tribBlank : Bool
  deriving DecidableEq, Repr, Inhabited

/-- A ledger entry (R191, R195): its state (0 FREE, 1 OPEN, 2 FIXED), outcome, channel, Alloc-ID, frame, seal time, deadline
and sealed grant words. -/
structure LEntry where
  state : Nat
  outcome : Nat
  channel : Nat
  allocId : Nat
  frame : Nat
  sealNs : Nat
  sealAt : Nat
  deadline : Nat
  grant : Grant
  closeW : Nat × Word
  deriving DecidableEq, Repr, Inhabited

/-- An ONU slot beside RNG[c]_ONU[i] (chapters 5 and 6): the integration counts of the per-ONU defects, the tail limit of its latest
window (R146; 0: none yet) and whether that closed RECEIVED (R143), when LOB was raised and when it cleared (R142, R145), the thresholds
that its latest grant closure applied (R146), the drift filter, its pending correction and the EqD in use before it (R152), the re-ranging
and discovery exchanges in progress (`rangeFrame`: the frame of a booked ranging grant; `rerangeWait`: it waits for a peak slot, R168),
whether a takeover has left it to be re-ranged on LOB (R172), and the latest frame with an XGEM frame of the ONU and how many it had
(R358). -/
structure Slot where
  absRun : Nat
  dgRun : Nat
  driftHi : Nat
  driftLo : Nat
  lastArr : Int
  tail : Nat
  lastRecv : Bool
  lobAt : Nat
  lobEnd : Option Nat
  defCtl : Option Word
  rogueAt : List Nat
  pendRaise : Nat
  avg : Int
  corr : Int
  eqdOld : Nat
  sent : Nat
  resend : Nat
  step : Bool
  clean : Nat
  rerangeTries : Nat
  rerangeUt : Bool
  rerangeCap : Bool
  rerangeWait : Bool
  rangeFrame : Option Nat
  takenOver : Bool
  minLevel : Nat
  muteCap : Bool
  capPending : Bool
  vidan : Bool
  vTries : Nat
  vClean : Nat
  vNonce : Word
  vIdx : Nat
  vEntry : Nat
  vArrival : Int
  vSnOk : Bool
  byLods : Bool
  upOrd : Nat × Nat
  deriving DecidableEq, Repr, Inhabited

/-- The ranging engine of a channel: the quiet window, the undertone window (`utStart`: its first frame, once a frame carries the
invitation) and the rogue locate in progress. -/
structure Rng where
  qwBooked : Bool
  qwFrame : Nat
  qwDue : Bool
  utNonce : Word
  utStart : Option Nat
  pResp : Option Nat
  reranging : Nat
  suspects : List Nat
  probing : List Nat
  confirming : Bool
  probeEnergy : Bool
  oowAt : List Nat
  utOpen : Bool
  suspectSn : Tab (BitVec 64)
  retry : List (Word × Word × Word × Word)
  again : List (Nat × Ploam)
  deriving DecidableEq, Repr, Inhabited

/-- A shed input queue entry (R183): four words. -/
structure InEntry where
  w0 : Word
  w1 : Word
  w2 : Word
  w3 : Word
  deriving DecidableEq, Repr, Inhabited

/-- An accepted hint (R214). -/
structure Hint where
  alloc : Nat
  allocId : Nat
  dbru : Bool
  bytes : Nat
  ready : Nat
  window : Nat
  period : Nat
  repeats : Nat
  tag : Nat
  deriving DecidableEq, Repr, Inhabited

/-- The shed's state of one allocation (R205): occ, rf, the bytes written per frame (frame, bytes), the bytes of each
written grant (frame, bytes) not yet accounted for, the demand of traffic monitoring, the frame of the last fixed grant. -/
structure AllocSt where
  occ : Nat
  rf : Nat
  got : List (Nat × Nat)
  out : List (Nat × Nat)
  tm : Option Nat
  lastFixed : Option Nat
  deriving DecidableEq, Repr, Inhabited

/-- A burst that the shed placed in a frame: its allocation entry (512 for a booking), its extent in upstream bits of the
frame, its payload area with DBRus and the payload it is charged for, and whether it carries fixed bytes or a share of a sweep (R210). -/
structure PBurst where
  a : Nat
  s : Nat
  e : Nat
  pay : Nat
  cp : Nat
  data : Bool
  deriving DecidableEq, Repr, Inhabited

/-- What the shed has placed in one open frame (R202, R208, R209, R211): committed cost, bursts in the order of placement, the
number of grants, in all and of each allocation, the bytes of overgrant of each, the allocations already asked for a DBRu, hinted bytes,
the levels of the final sweep in 2^-20, and whether the frame is set up, past its final sweep or closed by an overrun. -/
structure Placing where
  frame : Nat
  spent : Nat
  bursts : List PBurst
  n : Nat
  own : Tab Nat
  ovg : Tab Nat
  dbru : List Nat
  hinted : Nat
  level : Tab Nat
  setUp : Bool
  finalDone : Bool
  overrun : Bool
  capHit : Bool
  deriving DecidableEq, Repr, Inhabited

/-- The shed of a channel (chapters 7 and 8): `sliceNext` is 16 × frame + slice of the next sweep (R199); `halted`: the shed writes no
grants, since a slice boundary in the safe state (R458). -/
structure Shd where
  inq : List InEntry
  hints : List Hint
  allocs : Tab AllocSt
  placings : List Placing
  bookings : List InEntry
  /-- booked spans, in upstream bits since frame 0 -/
  spans : List (Int × Int)
  hintEntries : List InEntry
  /-- initial report grants (R198): whether some are left, and the next entry -/
  starting : Bool
  startNext : Nat
  sliceNext : Nat
  halted : Bool
  anchorFrom : Nat
  deriving DecidableEq, Repr, Inhabited


/-- A result not yet available to its thread (R235): the register, the value, Z where the operation sets it, whether it comes from a
local or shared memory word (R237), the program counter of its microword, whether it is a memory operation that FENCE waits for, and where
it comes from: 0 local memory, 1 shared memory, 2 the register aperture, 3 the random bit generator. -/
structure PendOp where
  reg : Nat
  val : Nat
  z : Option Bool
  word : Bool
  pc : Nat
  mem : Bool
  src : Nat
  deriving DecidableEq, Repr, Inhabited

/-- A microthread context (R224): program counter, G0–G31 as 64-bit numbers, flags, loop counter, call stack, the held item (the
key of its queue and its words; an upstream PLOAM as received; whether it was requeued before), event latches, the own timer,
whether the thread waits under WAIT or is stopped, the threads that issue before it after YIELD, the microwords issued since the
last WAIT, YIELD or DONE, and the results not yet available, oldest first. -/
structure Thread where
  pc : Nat
  regs : Tab Nat
  z : Bool
  c : Bool
  n : Bool
  v : Bool
  loop : Nat
  stack : List Nat
  held : Option (Nat × List Word)
  heldUp : Option (Nat × Bool × UpPloam)
  heldAgain : Bool
  latch : Nat
  timer : Option Nat
  waiting : Bool
  aborted : Bool
  aside : Nat
  issued : Nat
  pend : List PendOp
  deriving DecidableEq, Repr, Inhabited

/-- A swap in progress in a cluster (R244): role, whether the old holder retires, whether it is a refresh step, and how far
it is (0 loading, 1 loaded, 2 after the boundary). -/
structure Swap where
  role : Nat
  retire : Bool
  refresh : Bool
  phase : Nat
  deriving DecidableEq, Repr, Inhabited

/-- A microword image as the draft carries it (R261). -/
structure Image where
  id : Nat
  version : Word
  patch : Nat
  signer : Bool
  entries : List Nat
  words : List Word
  digest : Word × Word
  deriving DecidableEq, Repr, Inhabited

/-- A service request not yet answered (R248): its eight words and when it was submitted. -/
structure SvcReq where
  words : List Word
  at_ : Nat
  deriving DecidableEq, Repr, Inhabited

/-- The shuttles (chapter 9). Stores and memories are sparse tables; keys are written beside each. -/
structure Shu where
  /-- 16,384 × physical shuttle + address -/
  ustore : Tab Word
  /-- 4,096 × cluster + index -/
  nstore : Tab (BitVec 192)
  /-- 65,536 × physical shuttle + byte -/
  loc : Tab Byte
  /-- 2^21 × cluster + byte -/
  shared : Tab Byte
  /-- 8 × physical shuttle + thread -/
  threads : Tab Thread
  /-- entries waiting on a role's port that no device block owns, and response ports: 512 × cluster + 32 × role + port -/
  ports : Tab (List (List Word))
  /-- upstream PLOAM queues, by channel -/
  upPloam : Tab (List (Nat × Bool × UpPloam))
  /-- device-wide work queues (R18): 0 OMCI, 1 tributary, 2 Bolt condensing, 3 PM roll-over -/
  work : Tab (List (List Word))
  /-- items requeued once, by 64 × BIND + INDEX or, for the ports of `ports`, 4,096 + their key -/
  again : Tab (List (List Word))
  /-- by cluster -/
  swaps : Tab (Option Swap)
  waitingSwaps : Tab (List Swap)
  refreshNext : Tab Nat
  /-- when the latest refresh step of a cluster fell due (R247) -/
  refreshAt : Tab Nat
  /-- by physical shuttle: the thread after the one that issued last (R225) -/
  turn : Tab Nat
  /-- images that the physical shuttles hold, and whether they are stopped -/
  held : Tab (Option Image)
  stopped : Tab Bool
  /-- by 4 × cluster + agent -/
  svc : Tab (Option SvcReq)
  /-- OMCI rings, by cluster: base, entries, next entry, sequence -/
  ring : Tab (Nat × Nat × Nat × Nat)
  /-- the latest OMCI message sent on a channel's OMCCs: ONU-ID and bytes (R249) -/
  omcc : Tab (Option (Nat × List Byte))
  deriving DecidableEq, Repr, Inhabited


/-- A record of a threading, tie-up, treadling or memory-plan section (R256): its REC code, bits [15:0] of its first word
and its further words. -/
structure Rec where
  code : Nat
  w0 : Nat
  rest : List Word
  deriving DecidableEq, Repr, Inhabited

/-- A draft after parsing (R254 to R261). -/
structure Draft where
  kind : Nat
  raiseFloor : Bool
  region : Nat
  /-- channels, clusters and uplink lanes required (R254) -/
  dims : Nat × Nat × Nat
  svn : Nat
  build : Word × Word
  fmt : Nat × Nat
  part : Nat
  base : List Word
  tieupDigest : List Word
  threading : List Rec
  tieup : List Rec
  treadling : List Rec
  plan : List Rec
  images : List Image
  nano : List (Nat × Word × Nat × List (BitVec 192))
  patches : List (List Word)
  signer : Nat
  keyId : List Word
  deriving DecidableEq, Repr, Inhabited

/-- A queue-port binding (R257): response port, BIND, INDEX, push, work. -/
structure PortRec where
  resp : Option Nat
  bind : Nat
  index : Nat
  push : Bool
  work : Bool
  deriving DecidableEq, Repr, Inhabited

/-- The draft in force and the loader (chapter 10). `chThread` holds cluster + 1 by channel; `ports` by
512 × cluster + 32 × role + port; `events` as (cluster, role, event, BIND, INDEX); `chPipe` and `lanePipe` as
(upstream or receive, downstream or transmit) pipelines, `lanePipe` with one added to each; `clusters` as (nanoword image, lowest
clock); `taken` is the stream that GO ended, `before` the STATE before the load; `regionImgs` the images of region drafts by cluster; `owned`
the device-owned regions as (kind, index, DPA, bytes); `deferred` the channels that start after the safe state (R269). -/
structure Drf where
  chThread : Tab Nat
  reweave : Option Nat
  busy : Bool
  boot : Bool
  src : Nat
  stream : List Word
  taken : List Word
  before : Nat
  fetched : Option Draft
  running : Option Draft
  cached : Bool
  cache : List Image
  regionImgs : Tab (List Image)
  chPipe : Tab (Nat × Nat)
  lanePipe : Tab (Nat × Nat)
  clusters : Tab (Nat × Nat)
  ports : Tab PortRec
  events : List (Nat × Nat × Nat × Nat × Nat)
  tieup : List Rec
  owned : List (Nat × Nat × Nat × Nat)
  deferred : List Nat
  deriving DecidableEq, Repr, Inhabited


/-- A frame on its way through a pipeline (R271, R284): its source i (R290), the XGEM port-ID and allocation entry of a PON
source, the superframe counter of its burst, its bytes, the time of arrival, and META in its second pass. -/
structure PFrame where
  src : Nat
  port : Nat
  alloc : Nat
  frame : Nat
  bytes : List Byte
  at_ : Nat
  pass2 : Option Nat
  deriving DecidableEq, Repr, Inhabited

/-- A rule commit under way (R287): the agent, per slot the target, words 0 to 24 and CLR_CNT, and, once step 2 has written them, the targets
that were VALID. -/
structure Commit where
  agent : Nat
  slots : List (Nat × List Word × Bool)
  wrote : Option (List Nat)
  deriving DecidableEq, Repr, Inhabited

/-- The classifier beside its tables (chapter 11): the latest hint SEQ of each source (R213); by pipeline the input FIFO, the
second-pass queue and its tokens in 10^-3 with their time, absent at the depth; the commits that are pending, oldest first. -/
structure Cls where
  hintSeq : Tab (Option Word)
  fifo : Tab (List PFrame)
  second : Tab (List PFrame)
  tok : Tab (Option (Nat × Nat))
  commits : List Commit
  deriving DecidableEq, Repr, Inhabited

/-- A prefix of the prefix store (R304): routing instance, IPv6, length, its bits, next hop. -/
structure Route where
  vrf : Nat
  v6 : Bool
  len : Nat
  bits : Nat
  nh : Nat
  deriving DecidableEq, Repr, Inhabited

/-- The forwarding engines beside their tables (chapter 12): learn requests (BD, MAC, DEST), move requests (the same), the prefix
store by bank, the agent of a running flush with the entries it deleted, and the commands that wait for its end (agent, words). -/
structure Fwd where
  /-- by position: when the ager visited it (R299) -/
  ageAt : Tab Nat
  learnQ : List (Nat × Nat × Nat)
  moveQ : List (Nat × Nat × Nat)
  routes : Tab (List Route)
  flush : Option (Nat × Nat)
  waiting : List (Nat × List Word)
  deriving DecidableEq, Repr, Inhabited



/-- A frame that leaves a pipeline for the traffic manager (R283, R308 to R310): its source i (R290), the XGEM port-ID and the
allocation entry it came with (PON sources), its bytes, its time of arrival, where it goes (`kind` 0: the DEST in `arg`, 1: the
queue in `arg`, 2: the host trap ring with reason `arg`), the action's TC, POLICER and MIRROR, the pipeline, the cycle in which
it was handed over, and its policer's mark once made (0 green, 1 yellow, 2 red). -/
structure Hand where
  src : Nat
  port : Nat
  alloc : Nat
  bytes : List Byte
  at_ : Nat
  kind : Nat
  arg : Nat
  tc : Nat
  policer : Nat
  mirror : Bool
  pipe : Nat
  cyc : Nat
  mark : Option Nat
  deriving DecidableEq, Repr, Inhabited

/-- A copy in a queue (R312, R319): its buffer, length, account and XGEM port-ID (none: the spec names none), whether its data
is on chip and whether it holds a copy descriptor. -/
structure QFrame where
  buf : Nat
  len : Nat
  acct : Nat
  port : Option Nat
  onChip : Bool
  copy : Bool
  deriving DecidableEq, Repr, Inhabited

/-- A lent buffer (R314, R317): its frame, the copies not yet gone, the LAST_OWNER (0–63 the framer of a channel, 64 + p the
MAC of port p) once named, and whether the last copy has departed. -/
structure Buf where
  bytes : List Byte
  copies : Nat
  owner : Option Nat
  departed : Bool
  deriving DecidableEq, Repr, Inhabited

/-- The traffic manager and the buffer pools (chapter 13). Queues by number (R308); buffers by 2^32 × pool + index; scheduler
children are the queues and 163,840 + 256 × channel + group, `cur` is by 4 × node + PRI with nodes 0–16,383 the groups, 16,384 + c
the channels and 16,448 + p the ports; credits of shapers and policers are in 10^-6 byte with their time, absent at the burst;
`spill` is the charge of the spill meter in bytes and its time; `trap` the second and the trap frames of it; `turn` is the requester that BPM serves first among those of one cycle (0–7 the
pipelines, 8 TRB, 9 the burst receivers) and `served` the latest cycle in which it served and how many (R315). -/
structure Tmg where
  queues : Tab (List QFrame)
  bufs : Tab Buf
  deficits : Tab Int
  cur : Tab Nat
  credit : Tab (Option (Int × Nat))
  pol : Tab (Option (Int × Int × Nat))
  spill : Nat × Nat
  handoff : List Hand
  trap : Nat × Nat
  turn : Nat
  served : Nat × Nat
  deriving DecidableEq, Repr, Inhabited



/-- A tributary endpoint beside its registers (chapter 14): alignment of the received containers (R336: whether ALIGNED, valid headers in a
row, the latest MFI and frame, MFI_OFS, bad containers in a row), the accepted pointer and its candidates (R338), the frame of the latest
container, of the latest received and sent justification, the JC decision for the next container (R340), the buffers (structured frames
as (interchange frame, bytes), a bit pipe as bytes), the run counts of the defects in frames or units (R341), the net justifications of the
1 s window, the pseudowire transmit (SEQ, frames of interchange since enable, bytes collected) and receive state (packets by SEQ, the SEQ in
play, its bytes left, whether playing), and the counters at the last second with the seconds' classes (R351). -/
structure Trib where
  aligned : Bool
  run : Nat
  mfi : Nat
  frame : Option Nat
  ofs : Nat
  bad : Nat
  ptr : Option Nat
  ptrNext : Option (Nat × Nat)
  ptrCand : Nat
  ptrRun : Nat
  ptrOff : Nat
  just : Option Nat
  sent : Option Nat
  jc : Option Nat
  primed : Bool
  rxF : List (Nat × List Byte)
  txF : List (Nat × List Byte)
  txB : List Byte
  got : Bool
  missRun : Nat
  gotRun : Nat
  searchRun : Nat
  alignRun : Nat
  aisRun : Nat
  clearRun : Nat
  net : Int
  pjeGood : Nat
  seqTx : Nat
  part : List Byte
  partN : Nat
  jb : Tab (List Byte)
  play : Bool
  next : Option Nat
  cur : List Byte
  old : Tab Nat
  locSec : Bool
  aisSec : Bool
  defSec : Bool
  sevSec : Bool
  sesRun : Nat
  okRun : Nat
  unavail : Bool
  deriving DecidableEq, Repr, Inhabited

/-- The tributary path (chapter 14): received frames with TRIBUTARY verdicts (endpoint, frame), endpoints, the input bytes of the
current interchange frame (absent slots read 0xFF), the number of the interchange frame, whether its alignment is lost, the time of the
latest COPY with the standby entries written behind it, and the endpoints that stop at the next interchange frame (R350). -/
structure Trb where
  rx : List (Nat × PFrame)
  ep : Tab Trib
  inp : List (Nat × Byte)
  frame : Option Nat
  slipped : Bool
  copyAt : Nat
  kept : List Nat
  stop : List Nat
  deriving DecidableEq, Repr, Inhabited



/-- A sealed-mode attempt (R361): the key index sought (1 or 2), the frame in which it began, the two SEALED_KEY parts, how
far it is (0 parts, 1 blob submitted, 2 switch announced, 3 acknowledged), and SWITCH_SF. -/
structure Seal where
  idx : Nat
  start : Nat
  part0 : Option (List Byte)
  part1 : Option (List Byte)
  phase : Nat
  switchSf : Nat
  deriving DecidableEq, Repr, Inhabited

/-- CRY (chapter 15). Keys stand XORed with the per-boot mask; `high` is the highest superframe counter of sealed use + 1, by
channel and `onuHigh` by 256 × channel + slot; pending blobs in the order of their GO, by submitter (an agent's code, or 1,000 + 256 ×
channel + slot for the ranging/PLOAM shuttle); the voucher being
verified; the enrolment nonce; the debug challenge and the failed unlocks; the owner fuse banks (digests of the signing and the wrap
key); attempts by 256 × channel + slot; 128 × (masked engine + 1) + FB_PCT of a retired main-path engine in `moved`. -/
structure Cry where
  mask : BitVec 256
  maskOn : Bool
  kwk : Bool
  keys : Tab (BitVec 256)
  high : Tab Nat
  onuHigh : Tab Nat
  blobs : List (Nat × List Word)
  enrol : Bool
  nonce : List Word
  chal : List Word
  fails : Nat
  owners : List (List Word × List Word)
  seals : Tab (Option Seal)
  moved : Tab Nat
  deriving DecidableEq, Repr, Inhabited



/-- A pulse on an output pin (R391): the comparator that drives it, the level after it, its width and when it ends. -/
structure Pulse where
  by_ : Nat
  level : Bool
  width : Nat
  until_ : Nat
  deriving DecidableEq, Repr, Inhabited

/-- A mailbox frame waiting at a port (R384): its bytes and its control word. -/
structure PtpMail where
  bytes : List Byte
  ctl : Word
  deriving DecidableEq, Repr, Inhabited

/-- Device time, the servo, the comparators and the timestamp FIFOs (chapter 16). `integ` is in 2^-32 ns per ns; mailboxes are by agent; `absSet`: a step with ABS = 1 was accepted; `acts` is the latest comparator action on
a pin (cycle, comparator, level before it), `edges` when its latest edge was placed, in 1/16 ns of device time; the pins are GPIO 0–31 and
PPS_OUT 32–33; `todSec` is the latest second with an update of TIM_TOD, plus one (R386). -/
structure Tim where
  runs : Bool
  sec : Nat
  ns : Nat
  frac : Nat
  stepBusy : Bool
  lastStep : Option (Nat × Nat × Nat)
  tsPrev : Option Nat
  integ : Int
  good : Nat
  refused : Nat
  lockedOnce : Bool
  absSet : Bool
  lastSample : Nat
  armed : Tab Bool
  firing : Tab Bool
  pulses : Tab (Option Pulse)
  pins : Tab Bool
  rx : List (Word × Word × Word × Word)
  tx : List (Word × Word × Word × Word)
  ppsPrev : Tab (Option Nat)
  mail : Tab (Option PtpMail)
  acts : Tab (Option (Nat × Nat × Bool))
  edges : Tab Int
  todSec : Nat
  deriving DecidableEq, Repr, Inhabited


/-- An uplink lane beside its registers (chapter 17): when transmit and receive low-power idle of its port began, whether a
blanking window covers its defects (R400), the conditions that hold beneath it (bits 0 LOAM, 1 LOL, 2 LOS), and HSL_CTL as its port read it
at its start (R395). -/
structure Hsl where
  lpiTx : Option Nat
  lpiRx : Option Nat
  blank : Bool
  holds : Nat
  ctl : Word
  deriving DecidableEq, Repr, Inhabited



/-- A coalescing entry (R416): its record, count, first and last time; the cycle in which it was opened; and of the latest cycle with an
alarm, the cycle, its first alarm, and the count and last time before it (R434). -/
structure Coal where
  rec_ : List Word
  count : Nat
  first : Nat
  last : Nat
  at_ : Nat
  cyc : Nat
  rec1 : List Word
  count0 : Nat
  last0 : Nat
  deriving DecidableEq, Repr, Inhabited

/-- The book-keeping role's sums of one slot over one second (R424). -/
structure SlotSum where
  live : Bool
  partial_ : Bool
  recv : Nat
  absent : Nat
  errored : Nat
  discarded : Nat
  bursts : Nat
  ambig : Nat
  stale : Nat
  power : Option (Int × Int)
  powerSum : Int
  lockMax : Nat
  lockSum : Nat
  arr : Option (Int × Int)
  arrSum : Int
  tapMax : Nat
  phaseMax : Nat
  gain : Nat
  fecCorr : Nat
  cwTotal : Nat
  cwFail : Nat
  bytes : Nat
  granted : Nat
  dbruBad : Nat
  hecFail : Nat
  raised : Nat
  cleared : Nat
  corrections : Nat
  deriving DecidableEq, Repr, Inhabited

/-- A current performance bin (R431). -/
structure PmBin where
  start : Nat
  elapsed : Nat
  suspect : Bool
  sat : Nat
  counts : Tab Nat
  deriving DecidableEq, Repr, Inhabited

/-- The Bolt (chapter 18). Queue entries are (class, PM store address if any, words); `tok` holds the time of the latest
token update and the fraction of a token in 10^-9; `dropSec` the second of the latest BOLT_DROP alarm, plus one; segments
marked for a cut while they fill in `segCut` (cut + 1); `cutEnd` and `cutT` by cut; `sums` by 16,384 × parity of the
second + 256 × channel + slot; `bins` by 2 × object + (0: 15 minutes, 1: 24 hours). -/
structure Blt where
  queue : List (Nat × Option Nat × List Word)
  coal : Tab (Option Coal)
  sram : List (List Word)
  seq : Tab Nat
  tok : Tab (Nat × Nat)
  dropSec : Tab Nat
  segFill : Tab Nat
  segSeq : Tab Nat
  segLast : Tab Nat
  segCut : Tab Nat
  cutEnd : Tab Nat
  cutT : Tab Nat
  sums : Tab SlotSum
  chSums : Tab (Tab Nat)
  bins : Tab PmBin
  stepped : Nat
  deriving DecidableEq, Repr, Inhabited


/-- A latched dump image (R439, R441): its groups, its time in the form of R373, when it was latched, and the register file of
that cycle. -/
structure DumpImg where
  scope : Nat
  t : Nat
  at_ : Nat
  regs : Tab Word
  deriving DecidableEq, Repr, Inhabited

/-- A tag in flight (R445): words 0 and 1 of its record and the flags of word 3. -/
structure Tag where
  w0 : Word
  w1 : Word
  flags : Nat
  deriving DecidableEq, Repr, Inhabited

/-- PMC beside its registers (chapter 19): images not yet written, tag records by cluster and the tag in flight, whether device time was
stepped in a channel's window, the window length in force (0: that of reset), and of each credit loop the credits in transit and those that
its receiver holds (R32); the others are with its sender. -/
structure Pmc where
  images : List DumpImg
  tagFifo : Tab (List (List Word))
  tag : Tab (Option Tag)
  bwStep : Tab Bool
  bwWin : Tab Nat
  credits : Tab (Nat × Nat)
  deriving DecidableEq, Repr, Inhabited



/-- The Temple beside its registers (chapters 20 to 22): the self-timed mute, SAFE_N, the times of automatic exits, the fault log
FIFO, transients of each unit and the start of its run, an armed injection, blanking windows of ranks (8 × channel + rank), crypto
engines and of an erasure; which resets are asserted and whether the blocks are released; the last samples of the
junction sensors; thermal caps in MHz by cluster (0: none) and, at 16 + cluster, caps of frozen rails; failures in a row by rail, and at 16 + rail that AVS_EN was
written 0 since it froze; cluster
clock targets (0: none yet), and at 16 + cluster the target of the change on its way; self-refresh on its way in, and an exit that follows it; and of each clock source the gates passed, and at
20 + source when it qualified; the class of the transmit restart on its way, by channel; and
the (class, source) of blocks that reached their limit; when the latest cause of the safe state cleared, and when SAFE_N last changed; by watch entry when it was last written, at 64 when an
entry that raised SUPPLY last cleared. -/
structure Tmp where
  mute : Bool
  safePin : Bool
  exits : List Nat
  log : List (List Word)
  hist : Tab (List Nat)
  runStart : Tab (Option Nat)
  inj : Bool
  rankBlank : Tab Bool
  engBlank : Tab Bool
  eraseBlank : Bool
  held : Bool
  porst : Bool
  srst : Bool
  temps : Tab (List Int)
  thermCap : Tab Nat
  pmbTries : Tab Nat
  freqTarget : Tab Nat
  srEntering : Bool
  srExit : Bool
  qual : Tab Nat
  restart : Tab Nat
  limits : List (Nat × Nat)
  clearAt : Nat
  pinAt : Nat
  watchAt : Tab Nat
  deriving DecidableEq, Repr, Inhabited



/-- A message being received on the selvedge lanes (R406): MTYPE, the data blocks that its START announced, the bytes so far. -/
structure SvRx where
  mt : Nat
  count : Nat
  bytes : List Byte
  deriving DecidableEq, Repr, Inhabited

/-- The selvedge link and protection (chapters 17 and 23): the protected mask and PRIMARY in force; by lane the run of valid markers, the
marker slots in a row without one, and the latest marker count; the sequence sent, and the one accepted on the pins; when heartbeats were
accepted on each path and when one with ROLE 2; when the present state was entered and when a claim ends; a handover (frame, whether this
device requested it, whether it is accepted); the message being received; the receive mailbox, and the agents whose message waits with its
bytes; MSG_SEQ, the latest unit sent (lane and block, in order) and the latest word on HB_OUT; the latest CHANNEL record by channel, the
latest KEYMETA byte + 1 by key slot; the results of the self-tests; the cluster of the next spare test. -/
structure Slv where
  protMask : Nat
  primary : Bool
  run : Tab Nat
  miss : Tab Nat
  count : Tab Nat
  hbSeq : Nat
  pinSeq : Option Nat
  lastLink : Option Nat
  lastPin : Option Nat
  lastActive : Option Nat
  since : Nat
  claimEnd : Nat
  hand : Option (Nat × Bool × Bool)
  rxMsg : Option SvRx
  mbx : List (List Byte)
  mbxBusy : List (Nat × List Byte)
  msgSeq : Nat
  line : List (Nat × SvBlock)
  pinOut : BitVec 8
  mateCh : Tab (List Byte)
  keymeta : Tab Nat
  loopOk : Nat
  keysOk : Nat
  frameOk : Nat
  bistOk : Nat
  bistNext : Nat
  deriving DecidableEq, Repr, Inhabited

/-- A fault event sampled by the Temple (R449): its class, its unit where the class counts against one, whether an injection caused it, and
whether it is only logged (R467). -/
structure Fev where
  cls : Nat
  unit : Nat
  inj : Bool
  quiet : Bool
  deriving DecidableEq, Repr, Inhabited

/-- What counters and ledgers were before the present cycle (R35): the register file, the grant ledger, the buffers lent. -/
structure Was where
  regs : Tab Word
  ledger : Tab LEntry
  bufs : Tab Buf
  deriving DecidableEq, Repr, Inhabited

/-- What the present cycle has seen (a cycle of every domain is one nanosecond of `now`, assumption 52): registers whose sequence number
an event has advanced (R53); of a register that a matching clear has changed, its word before the first clear and the bits that the clears
changed (R55); of a register whose write applies from the next cycle, the word that still applies (R61, R194); the ledger entries that
their deadline has closed (R194); the MAC positions hit, and those aged out with their words (R300); and the queues of the copies enqueued, and the copies
that have left a buffer, as buffer and queue (R328); whether the pages of the interchange have changed places, and whether SWITCH was
written (R346, R347); of the key slots loaded, what they held before (R357); the samples of PPS edges (R392), and the comparators armed
(R389); the freezes asked for, in the order in which they are served (R434), and the segments released; the tags drawn while another was in
flight, by cluster (R448); what the counters were before the cycle (R35); and the fault events, whether TMP_SAFE.EXIT was written, and
whether the quiet period of the safe state has ended (R457, R468). -/
structure Cyc where
  ev : Tab Bool
  clr : Tab (Option (Word × Word))
  en : Tab (Option Word)
  forced : Tab Bool
  hits : Tab Bool
  aged : List (Nat × List Word)
  enq : List Nat
  left : List (Nat × Nat)
  swapped : Bool
  switching : Bool
  keyOld : Tab (Option (Word × BitVec 256))
  pps : List (Int × Nat)
  armed : Tab Bool
  freezes : List Frz
  freed : List Nat
  tags : Tab (Option Tag)
  was : Was
  faults : List Fev
  exit_ : Bool
  quiet_ : Bool
  deriving DecidableEq, Repr, Inhabited

/-- The state of the block. -/
structure State where
  /-- the commands that wait, first in first out -/
  pending : List Instr
  /-- nanoseconds (TIM cycles) since power-on -/
  now : Nat
  /-- the counter that draws free values -/
  fresh : Nat
  /-- the register file of BAR0, by byte offset; an agent's own registers by `akey` -/
  regs : Tab Word
  /-- DDR-5, by device physical address: strictly rising, no entry equal to what an unwritten byte reads as -/
  ddr : List Host.Cell
  agents : Tab AgentSt
  /-- by 2 × source + port -/
  irq : Tab IrqSt
  cyc : Cyc
  /-- messages sent, by 2048 × port + vector -/
  msi : Tab Nat
  blks : Tab Blk
  host : HostSt
  pch : Tab Pch
  /-- by 256 × channel + slot -/
  slots : Tab Slot
  rng : Tab Rng
  shd : Tab Shd
  ledger : Tab LEntry
  /-- the channel from which simultaneous seals are served (R193) -/
  sealRot : Nat
  tmp : Tmp
  drf : Drf
  tim : Tim
  shu : Shu
  blt : Blt
  cry : Cry
  slv : Slv
  cls : Cls
  tmg : Tmg
  hsl : Tab Hsl
  fwd : Fwd
  trb : Trb
  pmc : Pmc
  deriving DecidableEq, Repr

/-- The block right after power-on reset, PORST_N still asserted: every register at its reset value, DDR-5 as it reads
before anything writes it, every block but GLB, HPI and TMP held in reset (R483), no host link up, nothing queued. -/
def State.reset : State :=
  { pending := [], now := 0, fresh := 0, regs := [], ddr := [], agents := [], irq := [], cyc := default, msi := [],
    blks := [(4, { (default : Blk) with released := true })],
    host := default, pch := [], slots := [], rng := [], shd := [], ledger := [], sealRot := 0, tmp := { (default : Tmp) with porst := true, held := true }, drf := default, tim := default, shu := default, blt := default, cry := default, slv := default, cls := default, tmg := default, hsl := [], fwd := default, trb := default, pmc := default }

end Sys2Proof.Machine
end

