-- ==== Sys2Proof/Machine/Ops.lean ====
section
/-! DEFINITION. The named operations every meaning is written over: registers and their fields, counters, events and
interrupts, the register bridge, DDR-5, free values. -/
namespace Sys2Proof.Machine

/-- What a meaning answers. -/
abbrev Out := Host.Outcome State Fault Refusal

/-- Read a register word. -/
def State.rd (s : State) (a : Nat) : Word := tget (resetWord a) s.regs a

/-- Write a register word. -/
def State.wr (s : State) (a : Nat) (v : Word) : State := { s with regs := tset (resetWord a) s.regs a v }

/-- Replace the bits of a word that `mask` selects. -/
def State.wrMask (s : State) (a : Nat) (mask : Nat) (v : Word) : State :=
  s.wr a (word ((s.rd a).toNat &&& (0xFFFFFFFF - mask) ||| (v.toNat &&& mask)))

/-- The value of a field. -/
def State.g (s : State) (a : Nat) (f : Fld) : Nat := bget (s.rd (a + 4 * f.word)) f.lo f.w

/-- Set a field. -/
def State.p (s : State) (a : Nat) (f : Fld) (v : Nat) : State :=
  s.wr (a + 4 * f.word) (bset (s.rd (a + 4 * f.word)) f.lo f.w v)

/-- Whether a field is not zero. -/
def State.on (s : State) (a : Nat) (f : Fld) : Bool := decide (s.g a f ≠ 0)

/-- A 64-bit pair as a number (R7, R8). -/
def State.rd64 (s : State) (a : Nat) : Nat := (s.rd a).toNat + 2 ^ 32 * (s.rd (a + 4)).toNat

/-- Set a 64-bit pair, modulo 2^64. -/
def State.wr64 (s : State) (a : Nat) (v : Nat) : State :=
  (s.wr a (word v)).wr (a + 4) (word (v / 2 ^ 32))

/-- Add to a 64-bit counter: no increment is lost, and it wraps modulo 2^64 (R35). -/
def State.add (s : State) (a : Nat) (n : Nat) : State := s.wr64 a (s.rd64 a + n)

/-- Add one to a 64-bit counter. -/
def State.inc (s : State) (a : Nat) : State := s.add a 1

/-- Draw a free word. -/
def State.draw (s : State) : Word × State := (Config.freeWord s.fresh, { s with fresh := s.fresh + 1 })

/-- Draw a free number. -/
def State.drawNat (s : State) : Nat × State := (Config.freeNat s.fresh, { s with fresh := s.fresh + 1 })

/-- Apply `f` for each of 0 … n − 1, in order. -/
def iter {σ : Type} : Nat → (Nat → σ → σ) → σ → σ
  | 0, _, s => s
  | n + 1, f, s => f n (iter n f s)

/-- The key of the live count behind a register that returns the latest audit snapshot (R37). -/
def lkey (off : Nat) : Nat := off + 0x10000000 * 1000

/-- Apply `f` when `b` holds. -/
def State.when (s : State) (b : Bool) (f : State → State) : State := if b then f s else s

/-- The code of an agent in the agent tables: 0 HPA, 1 HPB, 2 Temple, 3 + i shuttle i. -/
def agCode : Agent → Nat
  | .hpa => 0
  | .hpb => 1
  | .temple => 2
  | .shuttle i => 3 + i.val

/-- The key of an agent's own copy of a register. -/
def akey (ag : Nat) (off : Nat) : Nat := off + 0x10000000 * (1 + ag)

/-- The agent of a host port. -/
def portAgent : Port → Agent
  | .hpa => .hpa
  | .hpb => .hpb

def portCode : Port → Nat
  | .hpa => 0
  | .hpb => 1

/-- The block of a BAR0 offset, as its interrupt source (R57, R65); a table window belongs to the block whose chapter
lays it out. 200: no block. -/
def blockOf (a : Nat) : Nat :=
  if a < 0x100000 then 0 else if a < 0x200000 then 1 else if a < 0x300000 then 2
  else if a < 0x400000 then 3 else if a < 0x600000 then 4 else if a < 0x700000 then 5
  else if a < 0x800000 then 6 else if a < 0xC00000 then 16 + (a - 0x800000) / 0x40000
  else if a < 0x1000000 then 200
  else if a < 0x2000000 then 32 + (a - 0x1000000) / 0x40000
  else if a < 0x3000000 then 96 + (a - 0x2000000) / 0x40000
  else if a < 0x3800000 then 7 else if a < 0x4000000 then 8 else if a < 0x4800000 then 9
  else if a < 0x5000000 then 10 else if a < 0x5800000 then 11 else if a < 0x6000000 then 12
  else if a < 0x6800000 then 160 + (a - 0x6000000) / 0x40000
  else if a < 0x7000000 then 13
  else if a < 0x7800000 then 192 + (a - 0x7000000) / 0x100000
  else if a < 0x8000000 then 14 else if a < 0x9000000 then 15
  else if a < 0x9700000 then 9            -- TMG_AUD, TMG_AUD_REF
  else if a < 0x99A0000 then 12           -- TRB windows
  else if a < 0x9A00000 then 12
  else if a < 0xA000000 then 11           -- CRY windows
  else if a < 0xA100000 then 15           -- ledger window: PMC (R195)
  else if a < 0xA200000 then 14           -- segment table: BLT
  else if a < 0xB000000 then 15           -- dump map, PMC_AUD_LOOP
  else if a < 0xC000000 then 7            -- rule window, hit counters
  else if a < 0xF000000 then 8            -- FWD windows
  else if a < 0x10000000 then 9           -- TMG windows
  else 200

/-- Base of the interrupt enable page of a source's block instance (R61, R65). -/
def enBase (n : Nat) : Nat :=
  if n = 1 then 0x100000 else if n = 2 then 0x200000 else if n = 3 then 0x300000
  else if n = 4 then 0x400000 else if n = 5 then 0x600000 else if n = 6 then 0x700000
  else if n = 7 then 0x3000000 else if n = 8 then 0x3800000 else if n = 9 then 0x4000000
  else if n = 10 then 0x4800000 else if n = 11 then 0x5000000 else if n = 12 then 0x5800000
  else if n = 13 then 0x6800000 else if n = 14 then 0x7800000 else if n = 15 then 0x8000000
  else if n < 32 then 0x800000 + 0x40000 * (n - 16)
  else if n < 96 then 0x1000000 + 0x40000 * (n - 32)
  else if n < 160 then 0x2000000 + 0x40000 * (n - 96)
  else if n < 192 then 0x6000000 + 0x40000 * (n - 160)
  else 0x7000000 + 0x100000 * (n - 192)

/-- INT_EN[j] of source n (R61). -/
def intEn (n j : Nat) : Nat := enBase n + 0x3F000 + 4 * j

/-- Which enable register serves an event register (the table of R61): source and j. PMC_OVF has enables of its own and
none here; GLB has no event. -/
def sqcHome (a : Nat) : Option (Nat × Nat) :=
  let n := blockOf a
  if n = 1 then (if a = HPI_ERR then some (1, 0) else none)
  else if n = 4 then
    (if a = TMP_STATUS then some (4, 0) else if a = TMP_ALERT then some (4, 1)
     else if TMP_WATCH 0 ≤ a && decide (a < TMP_WATCH 64) then some (4, 2) else none)
  else if n = 5 then (if a = TIM_STATUS then some (5, 0) else some (5, 1))
  else if n = 12 then (if a = TRB_STATUS then some (12, 0) else some (12, 1))
  else if n = 13 then (if a = SLV_STATUS then some (13, 0) else some (13, 1))
  else if n = 15 then
    (if a = PMC_STATUS then some (15, 0) else if a = PMC_AUDIT_STATUS then some (15, 1) else none)
  else if 32 ≤ n && decide (n < 96) then
    let c := n - 32
    (if a = PCH_DEFECT c then some (n, 0) else if a = DSF_STATUS c then some (n, 1)
     else if a = PCH_BRX_STATUS c then some (n, 2) else if a = RNG_STATUS c then some (n, 3)
     else some (n, 4))
  else if 96 ≤ n && decide (n < 160) then
    (if a = SHD_STATUS (n - 96) then some (n, 0) else some (n, 1))
  else if n = 0 || decide (200 ≤ n) then none
  else some (n, 0)

/-- The event bits a register word carries; 0 where no event can set. -/
def sqcBits (a : Nat) : Nat := match famOf a with
  | some f => f.sqc
  | none => 0

/-- The writable bits of a register offset (R52). -/
def rwBits (a : Nat) : Nat := match famOf a with
  | some f => f.rw
  | none => 0

/-- Note something about the present cycle. -/
def State.updCyc (s : State) (f : Cyc → Cyc) : State := { s with cyc := f s.cyc }

/-- The enables of INT_EN[j] of source n that apply in this cycle: a write applies from the next one (R61). -/
def State.enabled (s : State) (n j : Nat) : Nat := match s.cyc.en.look (intEn n j) with
  | some w => w.toNat
  | none => (s.rd (intEn n j)).toNat

/-- Whether the enabled event bits of one stored word assert source n (R58). -/
def State.asserts (s : State) (n : Nat) (e : Nat × Word) : Bool :=
  match sqcHome e.1 with
  | some (n', j) => decide (n' = n) && decide ((e.2.toNat &&& sqcBits e.1) &&& s.enabled n j ≠ 0)
  | none => false

/-- A source is asserted while any of its status bits is set with its enable bit set (R58, R59). -/
def State.asserted (s : State) (n : Nat) : Bool := s.regs.any (fun e => s.asserts n e)

/-- Send source n's vector on one port: a masked vector pends in the port's pending-bit array (R58, R60). -/
def State.sendMsi (s : State) (n p : Nat) : State :=
  let v := s.g (HPI_IRQ_ROUTE n) HPI_IRQ_ROUTE_VECTOR
  if bget (s.rd (akey p (HPI_MSIX v) + 12)) 0 1 = 1 then
    let a := akey p (HPI_PBA (v / 32))
    s.wr a (word (setBit (s.rd a).toNat (v % 32) true))
  else { s with msi := s.msi.upd (2048 * p + v) (· + 1) }

/-- Whether source n signals on a port. -/
def State.routed (s : State) (n p : Nat) : Bool :=
  s.on (HPI_IRQ_ROUTE n) (if p = 0 then HPI_IRQ_ROUTE_HPA_EN else HPI_IRQ_ROUTE_HPB_EN)

/-- Send a message and start its holdoff (R58). -/
def State.irqMsg (s : State) (n p : Nat) (byEvent : Bool) : State :=
  let s := s.sendMsi n p
  let q : IrqSt := ⟨s.on (HPI_IRQ_ROUTE n) HPI_IRQ_ROUTE_HOLDOFF, false, byEvent⟩
  { s with irq := s.irq.put (2 * n + p) q }

/-- An assertion event of source n at one port (R58). -/
def State.irqPort (s : State) (n p : Nat) : State :=
  if s.routed n p then
    let q := s.irq.look (2 * n + p)
    if q.active then { s with irq := s.irq.put (2 * n + p) { q with again := true } }
    else s.irqMsg n p true
  else s

/-- The physical shuttle that holds role r of cluster k (R221). -/
def State.holder (s : State) (k r : Nat) : Nat := 16 * k + s.g (SHU_MAP k r) SHU_MAP_PHYS

/-- Whether the swap of role r of cluster k is past its frame boundary: the old holder takes no work and no events (R244). -/
def State.leaving (s : State) (k r : Nat) : Bool := match s.shu.swaps.look k with
  | some w => decide (w.role = r) && decide (w.phase = 2)
  | none => false

/-- SHUTTLE_EVENT_LATCH (R234): an event sets its latch in every thread of a role; a set latch stays set. -/
def State.latchRole (s : State) (k r e : Nat) : State :=
  if s.leaving k r then s
  else
    let h := s.holder k r
    { s with shu := { s.shu with threads := iter 8 (fun t th =>
        th.upd (8 * h + t) (fun x => { x with latch := setBit x.latch e true })) s.shu.threads } }

/-- The events 4 to 63 that the threading binds to a source (R234, R257). -/
def State.bindEvent (s : State) (bind index : Nat) : State :=
  s.drf.events.foldl (fun s e =>
    if e.2.2.2.1 = bind && e.2.2.2.2 = index then s.latchRole e.1 e.2.1 e.2.2.1 else s) s

/-- Events 0 and 1 (R234): the frame or slice boundary of a channel reaches the roles that serve it, and the pool roles of
a cluster for its first channel. -/
def State.boundary (s : State) (c e : Nat) : State :=
  let one := fun (k : Nat) (served : Nat → Nat → Bool) (s : State) => iter 16 (fun r s =>
    if s.on (SHU_MAP k r) SHU_MAP_VALID && served (s.g (SHU_MAP k r) SHU_MAP_KIND) (s.g (SHU_MAP k r) SHU_MAP_CHANNEL)
    then s.latchRole k r e else s) s
  let s := one (s.drf.chThread.look c - 1) (fun kind ch => decide (kind ≤ 2) && decide (ch = c)) s
  s.when (decide (c % 4 = 0)) (one (c / 4) (fun kind _ => decide (3 ≤ kind) && decide (kind ≤ 5)))

/-- An assertion event of source n (R58, R257). -/
def State.irqEvent (s : State) (n : Nat) : State := ((s.irqPort n 0).irqPort n 1).bindEvent 9 n

/-- An event in the cycle of a matching clear wins: the clear is refused, so what it changed, which a clear can only be of event bits and
of writable bits, stands again (R55). -/
def State.unclear (s : State) (a : Nat) : State := match s.cyc.clr.look a with
  | some (old, m) => (s.wrMask a (m.toNat &&& (sqcBits a ||| rwBits a)) old).updCyc (fun d => { d with clr := d.clr.put a none })
  | none => s

/-- The sequence number after an event: it advances once in a cycle, modulo 256 (R53). -/
def State.nextSeq (s : State) (a : Nat) : Nat := if s.cyc.ev.look a then bget (s.rd a) 24 8 else (bget (s.rd a) 24 8 + 1) % 256

/-- An event sets bits of an SQC register and advances its sequence number (R53); it wins over a clear of the same cycle (R55); an
enabled bit is an assertion event (R58). In the blanking window of a block reset it is only counted (R464, R465). -/
def State.event (s : State) (a bits : Nat) : State :=
  if (s.blks.look (blockOf a)).blanked then s.inc TMP_BLANKED else
  let s := s.unclear a
  let s := (s.wr a (bset (s.rd a ||| word bits) 24 8 (s.nextSeq a))).updCyc (fun d => { d with ev := d.ev.put a true })
  match sqcHome a with
  | some (n, j) => if bits &&& s.enabled n j ≠ 0 then s.irqEvent n else s
  | none => s

/-- An event named by one field of the register. -/
def State.ev (s : State) (a : Nat) (f : Fld) : State := s.event (a + 4 * f.word) (2 ^ f.lo)

/-- Performance-class counting of a 48-bit pair (R437): it wraps modulo 2^48, and the wrap sets the counter's source bit in
PMC_OVF and, if enabled, OVF. -/
def State.perf (s : State) (a n src : Nat) : State :=
  let v := s.rd64 a + n
  let s := s.wr64 a (v % 2 ^ 48)
  if v < 2 ^ 48 then s
  else
    let s := s.event (PMC_OVF (src / 16)) (2 ^ (src % 16))
    if bit (s.rd (PMC_OVF_EN (src / 16))).toNat (src % 16) then s.ev PMC_STATUS PMC_STATUS_OVF else s

/-- Count bytes in the running bandwidth window of a channel (R447): a channel that is not ACTIVE counts nothing. The
running counts stand behind the latched ones. -/
def State.bwAdd (s : State) (c a n : Nat) : State :=
  if s.g (PCH_STATUS c) PCH_STATUS_STATE = 2 then s.perf (lkey a) n (256 + c) else s

/-- Whether a block answers the bridge (R45, R50, R482): released by the Temple, its clock running, in no reset and not hung. Of these
only a hang can touch GLB and HPI; SRST_N holds every other block in reset, the Temple's registers among them. -/
def State.avail (s : State) (n : Nat) : Bool :=
  let b := s.blks.look n
  (decide (n ≤ 1) || (b.released && !b.gated && !b.resetting && !s.tmp.srst && !s.tmp.porst)) && !b.hung

/-- Log the first error since HPI_ERR cleared completely (R62): the port, the BAR and the offset. The Temple and the
shuttles have no port bit there and log nothing (assumption 6). -/
def State.hpiErr (s : State) (f : Fld) (ag : Nat) (bar : Nat) (off : Nat) : State :=
  let clear := decide ((s.rd HPI_ERR).toNat &&& 0x7D = 0)
  let s := s.ev HPI_ERR f
  if clear && decide (ag ≤ 1) then s.wr64 HPI_ERR_ADDR (ag * 2 ^ 63 + bar * 2 ^ 62 + off) else s

/-- Whether an agent reaches the bridge: a host port only while its link is up (R45). -/
def State.linkUp (s : State) (ag : Agent) : Bool :=
  match ag with
  | .hpa => s.host.upA
  | .hpb => s.host.upB
  | _ => true

/-- Pass one write through the bridge (R45, R46, R50, R51, R482): partial byte enables, a block that does not answer, and an
unmapped offset are dropped with their error; otherwise the block takes it. -/
def State.bridge (s : State) (ag : Agent) (off : Nat) (be : Nat) (k : State → State) : State :=
  if !s.linkUp ag then s
  else if be ≠ 15 then s.hpiErr HPI_ERR_PARTIAL (agCode ag) 0 off
  else if decide (200 ≤ blockOf off) then s.hpiErr HPI_ERR_UNMAPPED (agCode ag) 0 off
  else if !s.avail (blockOf off) then s.hpiErr HPI_ERR_TIMEOUT (agCode ag) 0 off
  else if (famOf off).isNone then s.hpiErr HPI_ERR_UNMAPPED (agCode ag) 0 off
  else k s

/-- A whole-word write by an agent. -/
def State.bus (s : State) (ag : Agent) (off : Nat) (k : State → State) : State := s.bridge ag off 15 k

/-- The data of an agent's read completion. -/
def State.answer (s : State) (ag : Agent) (v : Word) : State :=
  { s with agents := s.agents.upd (agCode ag) (fun a => { a with last := v }) }

/-- A read through the bridge (R45, R50, R51, R482): a block that does not answer reads as all ones, an unmapped offset as
zero, each with its error; otherwise the block answers. -/
def State.busRd (s : State) (ag : Agent) (off : Nat) (k : State → State × Word) : State :=
  if !s.linkUp ag then s
  else if decide (200 ≤ blockOf off) then (s.hpiErr HPI_ERR_UNMAPPED (agCode ag) 0 off).answer ag 0
  else if !s.avail (blockOf off) then (s.hpiErr HPI_ERR_TIMEOUT (agCode ag) 0 off).answer ag 0xFFFFFFFF
  else if (famOf off).isNone then (s.hpiErr HPI_ERR_UNMAPPED (agCode ag) 0 off).answer ag 0
  else
    let r := k s
    r.1.answer ag r.2

/-- The high word that a _LO write by an agent brings (R9): the held one when it was written to this pair's _HI, and the holding
register is then empty; else the pair's present one, and a value held for another pair stays. -/
def State.takeHold (s : State) (ag : Agent) (off : Nat) : State × Word :=
  match (s.agents.look (agCode ag)).hold with
  | some h =>
    if h.1 = off + 4 then ({ s with agents := s.agents.upd (agCode ag) (fun a => { a with hold := none }) }, h.2) else (s, s.rd (off + 4))
  | none => (s, s.rd (off + 4))

/-- A _HI write of a writable pair is held for the agent (R9, R10). -/
def State.pairHi (s : State) (ag : Agent) (off : Nat) (v : Word) : State :=
  { s with agents := s.agents.upd (agCode ag) (fun a => { a with hold := some (off, v) }) }

/-- A plain write of the writable fields of a register. -/
def State.wrRW (s : State) (a : Nat) (v : Word) : State := s.wrMask a (rwBits a) v

/-- The value of a 64-bit pair before the present cycle (R35). -/
def State.was64 (s : State) (a : Nat) : Nat :=
  (tget (resetWord a) s.cyc.was.regs a).toNat + 2 ^ 32 * (tget (resetWord (a + 4)) s.cyc.was.regs (a + 4)).toNat

/-- The register of a performance counter that counts (R437): PMC_SLOT and the tag statistics. -/
def perfReg (off : Nat) : Bool := 0x8002000 ≤ off && decide (off < 0x8005000)

/-- A _LO write of a writable pair (R9): both words are replaced as far as they are writable. The increments of a performance counter in
this cycle are added after it (R35, R448). -/
def State.pairLo (s : State) (ag : Agent) (off : Nat) (v : Word) : State :=
  let r := s.takeHold ag off
  let t := (r.1.wrRW off v).wrRW (off + 4) r.2
  if perfReg off then
    let inc := (s.rd64 off + 2 ^ 48 - s.was64 off) % 2 ^ 48
    let was := (t.cyc.was.regs |> fun w => tset (resetWord off) w off (t.rd off))
    let was := tset (resetWord (off + 4)) was (off + 4) (t.rd (off + 4))
    (t.wr64 off ((t.rd64 off + inc) % 2 ^ 48)).updCyc (fun d => { d with was := { d.was with regs := was } })
  else t

/-- A half-mask write: bit i of [15:0] takes the written value only where bit 16 + i is 1 (R52). `valid` are the bits the
register has. -/
def State.wrHalf (s : State) (a : Nat) (valid : Nat) (v : Word) : State :=
  let m := v.toNat / 65536 &&& valid
  s.wrMask a m v

/-- Remember what a matching clear changes in this cycle, for an event that may still reach the register in it (R55). -/
def State.noteClear (s : State) (a m : Nat) : State :=
  s.updCyc (fun d => { d with clr := d.clr.upd a (fun c => match c with
    | some (old, m') => some (old, m' ||| word m)
    | none => some (s.rd a, word m)) })

/-- The sequence-checked clear (R54): with the current sequence number, each event bit written as 1 clears and the other
writable fields are written; with another, or in the cycle of an event of the register (R55), nothing changes at all. -/
def State.wrSqc (s : State) (a : Nat) (rw sqc : Nat) (v : Word) : State :=
  let w := s.rd a
  if bget v 24 8 = bget w 24 8 && !s.cyc.ev.look a then
    ((s.noteClear a (v.toNat &&& sqc ||| rw)).wr a (word (w.toNat &&& (0xFFFFFFFF - (v.toNat &&& sqc))))).wrMask a rw v
  else s

/-- What a byte of DDR-5 that nothing has written reads as: zero (assumption 5). -/
def ddrInit : Byte := 0

/-- One byte of DDR-5. -/
def State.ddrRd (s : State) (a : Nat) : Byte := tget ddrInit s.ddr a

/-- Write one byte of DDR-5. -/
def State.ddrWr (s : State) (a : Nat) (v : Byte) : State := { s with ddr := tset ddrInit s.ddr a v }

/-- Write consecutive bytes of DDR-5. -/
def State.ddrWrs (s : State) : Nat → List Byte → State
  | _, [] => s
  | a, b :: bs => (s.ddrWr a b).ddrWrs (a + 1) bs

/-- Read consecutive bytes of DDR-5. -/
def State.ddrRds (s : State) (a n : Nat) : List Byte := (List.range n).map (fun i => s.ddrRd (a + i))

/-- The populated DDR-5 channels. -/
def State.populated (s : State) : List Nat := (List.range 8).filter (fun m => s.on (MEM_STATUS m) MEM_STATUS_RANKS_PRESENT)

/-- The populated ranks of a DDR-5 channel. -/
def State.ranks (s : State) (m : Nat) : List Nat := (List.range 8).filter (fun r => bit (s.g (MEM_STATUS m) MEM_STATUS_RANKS_PRESENT) r)

/-- The DDR-5 channel and rank of a DPA (R67): granules of 4 KiB go round the populated channels in ascending order; which of the
channel's populated ranks takes a granule is not stated (assumption 13). -/
def State.rankOf (s : State) (a : Nat) : Nat × Nat :=
  let m := s.populated.getD (a / 4096 % s.populated.length) 0
  (m, (s.ranks m).getD (Config.granuleRank (a / 4096) % (s.ranks m).length) 0)

/-- Whether a DPA is a hole (R67, R69): beyond the populated capacity, or in a rank that is mapped out. -/
def State.isHole (s : State) (a : Nat) : Bool :=
  decide (s.host.gib * 2 ^ 30 ≤ a) || bit (s.g (MEM_STATUS (s.rankOf a).1) MEM_STATUS_RANKS_MAPPED_OUT) (s.rankOf a).2

/-- Write consecutive bytes of DDR-5 but for those in holes: the device maps no new data into a rank that is mapped out (R69). -/
def State.ddrWrsLive (s : State) : Nat → List Byte → State
  | _, [] => s
  | a, b :: bs => (if s.isHole a then s else s.ddrWr a b).ddrWrsLive (a + 1) bs

/-- Whether DDR-5 is trained: some channel is populated and each populated one is TRAINED (R68). -/
def State.ddrTrained (s : State) : Bool :=
  !s.populated.isEmpty && s.populated.all (fun m => s.on (MEM_STATUS m) MEM_STATUS_TRAINED)

/-- Whether DDR-5 takes data: trained, and no populated channel in self-refresh (R417, R494). -/
def State.ddrUp (s : State) : Bool :=
  s.ddrTrained && (List.range 8).all (fun m => !s.on (MEM_STATUS m) MEM_STATUS_SELF_REFRESH)

/-- Device time in whole nanoseconds: seconds × 10^9 + nanoseconds (R102, R373). -/
def State.devNs (s : State) : Nat := s.tim.sec * 1000000000 + s.tim.ns

/-- The keys of stored registers within [lo, hi), in rising order. -/
def State.keysIn (s : State) (lo hi : Nat) : List Nat :=
  (s.regs.filter (fun e => decide (lo ≤ e.1) && decide (e.1 < hi))).map (·.1)

/-- Apply `f` to the key of every stored register within [lo, hi). -/
def State.overRegs (s : State) (lo hi : Nat) (f : Nat → State → State) : State :=
  (s.keysIn lo hi).foldl (fun s a => f a s) s

/-- Update a channel's hidden state. -/
def State.updPch (s : State) (c : Nat) (f : Pch → Pch) : State := { s with pch := s.pch.upd c f }
/-- Update a slot's hidden state. -/
def State.updSlot (s : State) (c i : Nat) (f : Slot → Slot) : State := { s with slots := s.slots.upd (256 * c + i) f }
/-- A slot's hidden state. -/
def State.slot (s : State) (c i : Nat) : Slot := s.slots.look (256 * c + i)
/-- Update a channel's ranging engine. -/
def State.updRng (s : State) (c : Nat) (f : Rng → Rng) : State := { s with rng := s.rng.upd c f }
/-- A frame joins the input FIFO of a pipeline (R271, R284). -/
def State.pipeIn (s : State) (p : Nat) (f : PFrame) : State :=
  { s with cls := { s.cls with fifo := s.cls.fifo.upd p (· ++ [f]) } }
/-- Update a channel's shed. -/
def State.updShd (s : State) (c : Nat) (f : Shd → Shd) : State := { s with shd := s.shd.upd c f }

end Sys2Proof.Machine
end

