-- ==== Sys2Proof/Machine/BoltOps.lean ====
section
/-! DEFINITION. Producing a record of the Bolt (chapter 18): budgets, the write queue, coalescing, segments and cuts. -/
namespace Sys2Proof.Machine

/-- Update the Bolt's state. -/
def State.updBlt (s : State) (f : Blt → Blt) : State := { s with blt := f s.blt }

/-- Device time in the form of R373. -/
def State.t64 (s : State) : Nat := s.devNs % 2 ^ 64

/-- An event record (R422). -/
def State.evRec (s : State) (code scope index src : Nat) (data : List Nat) : List Word :=
  let t := s.t64
  [word (code * 2 ^ 24 + scope * 2 ^ 20 + index), word t, word (t / 2 ^ 32), 1, word t, word (t / 2 ^ 32), 0, word src]
    ++ (data.map word ++ List.replicate (8 - data.length) 0)

/-- Bytes of a record of a class (R412). -/
def recBytes (cls : Nat) : Nat := if cls = 2 || cls = 6 then 128 else if cls = 3 then 32 else if cls = 4 then 16 else 64

/-- The ring of a class (R412, R413); 4 is the PM store. -/
def ringOf (cls : Nat) : Nat :=
  if cls ≤ 1 then 2 else if cls = 2 then 3 else if cls = 3 then 0 else if cls = 4 then 1 else if cls = 5 then 5 else 4

/-- Bytes in the write queue (R415). -/
def State.boltFill (s : State) : Nat := (s.blt.queue.map (fun q => recBytes q.1)).sum

/-- The admission limit of a class, in bytes of the 4 MiB queue (R415). -/
def rankLimit (cls : Nat) : Nat :=
  if cls = 5 then 2097152 else if cls = 3 || cls = 4 then 3145728 else 4194304

/-- Bring a class's bucket up to now (R414, R434). -/
def State.fillTokens (s : State) (cls : Nat) : State :=
  let u := s.blt.tok.look cls
  let acc := u.2 + (s.now - u.1) * s.g (BLT_CLASS cls) BLT_CLASS_RATE
  let n := s.g (BLT_CLASS cls) BLT_CLASS_TOKENS + acc / 1000000000
  let b := s.g (BLT_CLASS cls) BLT_CLASS_BURST
  (s.p (BLT_CLASS cls) BLT_CLASS_TOKENS (min n b)).updBlt
    (fun d => { d with tok := d.tok.put cls (s.now, if b ≤ n then 0 else acc % 1000000000) })

/-- Take one token; the answer says whether there was one. -/
def State.takeToken (s : State) (cls : Nat) : State × Bool :=
  let s := s.fillTokens cls
  let n := s.g (BLT_CLASS cls) BLT_CLASS_TOKENS
  if n = 0 then (s, false) else (s.p (BLT_CLASS cls) BLT_CLASS_TOKENS (n - 1), true)

/-- Keep HIGH_WATER of the queue. -/
def State.boltWater (s : State) : State :=
  let f := s.boltFill / 1024
  if s.g BLT_QUEUE BLT_QUEUE_HIGH_WATER < f then s.p BLT_QUEUE BLT_QUEUE_HIGH_WATER f else s

/-- Give an event record its EVENT_SEQ (R422). -/
def State.stampSeq (s : State) (cls : Nat) (r : List Word) : State × List Word :=
  if cls = 0 || cls = 1 || cls = 5 then
    (s.updBlt (fun d => { d with seq := d.seq.upd cls (fun n => (n + 1) % 2 ^ 32) }), r.set 6 (word (s.blt.seq.look cls)))
  else (s, r)

/-- Put an admitted record into the queue. -/
def State.enqueueRec (s : State) (cls : Nat) (pm : Option Nat) (r : List Word) : State :=
  (s.updBlt (fun d => { d with queue := d.queue ++ [(cls, pm, r)] })).boltWater

/-- A coalescing entry matches a record: same CODE, SCOPE and INDEX (R416). -/
def sameKey (a b : List Word) : Bool :=
  decide ((a.head?.getD 0).toNat &&& 0xFF70FFFF = (b.head?.getD 0).toNat &&& 0xFF70FFFF)

/-- The first of `n` entries from `i` that satisfies `p`. -/
def findFrom (p : Nat → Bool) : Nat → Nat → Option Nat
  | 0, _ => none
  | n + 1, i => if p i then some i else findFrom p n (i + 1)

/-- A coalescing entry that an alarm opens (R416). -/
def State.coalNew (s : State) (r : List Word) : Coal := ⟨r, 1, s.t64, s.t64, s.now, s.now, r, 0, s.t64⟩

/-- One more alarm joins an entry; the first one of a cycle keeps what stood before the cycle (R434). -/
def State.coalJoin (s : State) (e : Coal) (r : List Word) : Coal :=
  let e := if e.cyc = s.now then e else { e with cyc := s.now, rec1 := r, count0 := e.count, last0 := e.last }
  { e with count := e.count + 1, last := s.t64 }

/-- An alarm joins the entry of its key, opens the lowest free one, or joins entry 255 (R416). -/
def State.coalesceIn (s : State) (r : List Word) : State :=
  let s := s.inc (lkey (BLT_AUD_COALESCED 0))
  let join := fun (s : State) (k : Nat) (r : List Word) => s.updBlt (fun d => { d with coal := d.coal.upd k (fun e => e.map (fun e => s.coalJoin e r)) })
  let mine := fun k => match s.blt.coal.look k with
    | some e => sameKey e.rec_ r
    | none => false
  match findFrom mine 255 0 with
  | some k => join s k r
  | none =>
    match findFrom (fun k => (s.blt.coal.look k).isNone) 255 0 with
    | some k => s.updBlt (fun d => { d with coal := d.coal.put k (some (s.coalNew r)) })
    | none =>
      let s := s.ev BLT_STATUS BLT_STATUS_COAL_FULL
      let any_ := s.evRec 0 0 0 0xFF []
      match s.blt.coal.look 255 with
      | some _ => join s 255 any_
      | none => s.updBlt (fun d => { d with coal := d.coal.put 255 (some (s.coalNew any_)) })

/-- Divert a record to the alarm SRAM of the Temple (R417); the answer says whether it had room. -/
def State.toSram (s : State) (r : List Word) : State × Bool :=
  if s.blt.sram.length < 1024 then
    (((s.updBlt (fun d => { d with sram := d.sram ++ [r] })).inc BLT_SRAM_ALARMS).ev BLT_STATUS BLT_STATUS_SRAM_USED, true)
  else (s, false)

/-- Coalesce an alarm that was not stored before (R34, R416). -/
def State.coalesce (s : State) (r : List Word) : State := (s.inc (lkey (BLT_AUD_STORED 0))).coalesceIn r

-- ===== segments and cuts =====

/-- The segment-table entry of segment `i` of ring `r`. -/
def State.segAt (s : State) (r i : Nat) : Nat := BLT_SEG (s.g (BLT_RING r) BLT_RING_SEG0 + i)

/-- The FILLING cut that selects a ring and whose T + POST_S has not come, lowest first, plus one; 0 for none (R425). -/
def State.cutOn (s : State) (r : Nat) : Nat :=
  match findFrom (fun j => decide (s.g (BLT_CUT j) BLT_CUT_STATE = 1) && bit (s.g (BLT_CUT j) BLT_CUT_RINGS) r
      && decide (s.t64 < s.blt.cutEnd.look j)) 8 0 with
  | some j => j + 1
  | none => 0

/-- Whether one more segment of a ring may be frozen: never more than half (R426). -/
def State.mayFreeze (s : State) (r : Nat) : Bool :=
  decide (2 * (s.g (BLT_RING r) BLT_RING_FROZEN + 1) ≤ s.g (BLT_RING r) BLT_RING_SIZE)

/-- Count one segment frozen for cut `j`, or mark the cut PARTIAL when half the ring is frozen (R425, R426). -/
def State.markSeg (s : State) (r i j : Nat) : State :=
  let a := s.segAt r i
  let g := s.g (BLT_RING r) BLT_RING_SEG0 + i
  if s.g a BLT_SEG_STATE = 3 || s.blt.segCut.look g ≠ 0 then s
  else if s.mayFreeze r then
    let s := s.p (BLT_RING r) BLT_RING_FROZEN (s.g (BLT_RING r) BLT_RING_FROZEN + 1)
    let s := s.p (BLT_CUT j) BLT_CUT_SEGMENTS (s.g (BLT_CUT j) BLT_CUT_SEGMENTS + 1)
    let s := s.p a BLT_SEG_CUT j
    if s.g a BLT_SEG_STATE = 1 then s.updBlt (fun d => { d with segCut := d.segCut.put g (j + 1) })
    else s.p a BLT_SEG_STATE 3
  else s.p (BLT_CUT j) BLT_CUT_PARTIAL 1

/-- Close the segment a ring is filling: FROZEN when a cut holds it, else CLOSED (R418, R425, R434). -/
def State.closeSeg (s : State) (r : Nat) : State :=
  let i := s.g (BLT_RING r) BLT_RING_FILLING
  let g := s.g (BLT_RING r) BLT_RING_SEG0 + i
  let s := s.inc BLT_SEG_CLOSED
  if s.blt.segCut.look g ≠ 0 then
    (s.p (s.segAt r i) BLT_SEG_STATE 3).updBlt (fun d => { d with segCut := d.segCut.put g 0 })
  else s.p (s.segAt r i) BLT_SEG_STATE 2

/-- Open the next segment in address order that is not FROZEN, wrapping at the ring's end (R418), and that no release of this cycle freed
(R434); a FILLING cut of the ring takes it as well (R425). -/
def State.openSeg (s : State) (r : Nat) : State :=
  let n := s.g (BLT_RING r) BLT_RING_SIZE
  let i := s.g (BLT_RING r) BLT_RING_FILLING
  let seg := fun (k : Nat) => s.g (BLT_RING r) BLT_RING_SEG0 + (i + k) % n
  match findFrom (fun k => decide (s.g (BLT_SEG (seg k)) BLT_SEG_STATE ≠ 3) && !s.cyc.freed.contains (seg k)) n 1 with
  | none => s
  | some k =>
    let i := (i + k) % n
    let a := s.segAt r i
    let s := ((s.wr (a + 8) 0).wr (a + 12) 0).wr (a + 4) (word (s.blt.segSeq.look r))
    let s := s.wr a (word (2 ^ 30 + r * 2 ^ 24))
    let s := s.updBlt (fun d => { d with segSeq := d.segSeq.upd r (fun x => (x + 1) % 2 ^ 32), segFill := d.segFill.put r 0 })
    let s := s.p (BLT_RING r) BLT_RING_FILLING i
    let j := s.cutOn r
    if j = 0 then s else s.markSeg r i (j - 1)

/-- The segments of a ring that hold records, newest first. -/
def State.usedSegs (s : State) (r : Nat) : List Nat :=
  let n := s.g (BLT_RING r) BLT_RING_SIZE
  let i := s.g (BLT_RING r) BLT_RING_FILLING
  let ks := (s.keysIn (s.segAt r 0) (s.segAt r n)).map (fun a => (a - s.segAt r 0) / 16)
  let used := ks.eraseDups.filter (fun k => s.on (s.segAt r k) BLT_SEG_STATE)
  (used.filter (fun k => decide (k ≤ i))).reverse ++ (used.filter (fun k => decide (i < k))).reverse

/-- Time of a segment's first record; that of a segment without one is the present. -/
def State.segFirst (s : State) (r i : Nat) : Nat :=
  if s.g (s.segAt r i) BLT_SEG_RECORDS = 0 then s.t64 else s.rd64 (s.segAt r i + 8)

/-- Step 1 of a freeze over one ring that the draft places (R425, R426). -/
def State.freezeRing (s : State) (r j t pre : Nat) : State :=
  let from_ := t - pre
  let l := s.usedSegs r
  let hit := l.filter (fun i =>
    let fills := decide (s.g (s.segAt r i) BLT_SEG_STATE = 1)
    fills || (decide (s.segFirst r i ≤ t) && decide (from_ ≤ s.blt.segLast.look (s.g (BLT_RING r) BLT_RING_SEG0 + i))))
  let s := hit.foldl (fun s i => s.markSeg r i j) s
  match l.getLast? with
  | none => s
  | some o => if from_ < s.segFirst r o then s.p (BLT_CUT j) BLT_CUT_PARTIAL 1 else s

/-- Freeze a cut at time T (R425 to R427): the answer says whether a cut was free. -/
def State.freeze (s : State) (cause code rings t : Nat) : State × Bool :=
  match findFrom (fun j => decide (s.g (BLT_CUT j) BLT_CUT_STATE = 0)) 8 0 with
  | none => ((s.inc BLT_CUT_REFUSED).ev BLT_STATUS BLT_STATUS_CUT_REFUSED, false)
  | some j =>
    let rings := rings &&& 0x2F
    let pre := s.g BLT_CUT_DEF BLT_CUT_DEF_PRE_S * 1000000000
    let post := s.g BLT_CUT_DEF BLT_CUT_DEF_POST_S * 1000000000
    let s := s.wr (BLT_CUT j) (word (2 ^ 30 + cause * 2 ^ 24 + code * 2 ^ 16 + rings))
    let s := (s.wr64 (BLT_CUT j + 4) t).wr (BLT_CUT j + 12) 0
    let s := s.updBlt (fun d => { d with cutEnd := d.cutEnd.put j (t + post), cutT := d.cutT.put j t })
    (iter 6 (fun r s => if bit rings r then s.freezeRing r j t pre else s) s, true)

/-- The order in which the freezes of one cycle are served (R434): triggers by index, the Temple, the command last. -/
def frzOrder (cause : Nat) : Nat := if cause = 8 then 10 else cause

/-- Put a freeze at its place among those of the cycle. -/
def frzIns (e : Frz) : List Frz → List Frz
  | [] => [e]
  | x :: l => if frzOrder e.cause < frzOrder x.cause then e :: x :: l else x :: frzIns e l

/-- Ask for a freeze (R425): it is served at the end of the cycle. -/
def State.askFreeze (s : State) (cause code rings t : Nat) : State :=
  { s with cyc := { s.cyc with freezes := frzIns ⟨cause, code, rings, t⟩ s.cyc.freezes } }

/-- The triggers that an event record's CODE matches as it is stored (R425). -/
def State.matchTrigs (s : State) (code : Nat) : State :=
  (List.range 8).foldl (fun (s : State) i =>
    if s.on (BLT_TRIG i) BLT_TRIG_EN && decide (s.g (BLT_TRIG i) BLT_TRIG_CODE = code)
    then s.askFreeze i code (s.g (BLT_TRIG i) BLT_TRIG_RINGS) s.t64 else s) s

-- ===== producing records =====

/-- Where an ALARM record within its budget is put: the write queue, or the alarm SRAM while DDR-5 is unavailable (R417); none without room. -/
def State.alarmPut (s : State) (r : List Word) : Option State :=
  let q := s.stampSeq 0 r
  if s.ddrUp then (if s.boltFill < rankLimit 0 then some (q.1.enqueueRec 0 none q.2) else none)
  else if s.blt.sram.length < 1024 then some (q.1.toSram q.2).1 else none

/-- An ALARM record (R414 to R417): budgeted, diverted while DDR-5 is unavailable, coalesced, never dropped. -/
def State.alarm (s : State) (r : List Word) : State :=
  let tk := (s.inc (lkey (BLT_AUD_PRODUCED 0))).takeToken 0
  if !tk.2 then tk.1.coalesce r
  else match tk.1.alarmPut r with
    | some t => (t.inc (lkey (BLT_AUD_STORED 0))).matchTrigs (bget (r.head?.getD 0) 24 8)
    | none => tk.1.coalesce r

/-- An ALARM event of the hardware. -/
def State.alarmEv (s : State) (code scope index src : Nat) (data : List Nat) : State :=
  s.alarm (s.evRec code scope index src data)

/-- A dropped record (R415): DROPPED, DROP, and one BOLT_DROP alarm for the first drop of the class in a second. -/
def State.boltDropRec (s : State) (cls : Nat) : State :=
  let s := (s.inc (lkey (BLT_AUD_DROPPED cls))).ev BLT_STATUS BLT_STATUS_DROP
  if s.blt.dropSec.look cls = s.tim.sec + 1 then s
  else (s.updBlt (fun d => { d with dropSec := d.dropSec.put cls (s.tim.sec + 1) })).alarmEv 0x07 0 0 14 [cls, 1]

/-- A stored record that never reaches DDR-5 (R34, R417). -/
def State.boltLoseRec (s : State) (cls : Nat) : State := (s.inc (lkey (BLT_AUD_LOST cls))).ev BLT_STATUS BLT_STATUS_LOST

/-- Produce one record (R412 to R417). Class 7 has no producer; TRACE records are not accepted while TRACE_EN is 0. -/
def State.produceAt (s : State) (cls : Nat) (pm : Option Nat) (r : List Word) : State :=
  if cls = 0 then s.alarm r
  else if 7 ≤ cls || (cls = 5 && !s.on BLT_CTL BLT_CTL_TRACE_EN) then s
  else
    let s := s.inc (lkey (BLT_AUD_PRODUCED cls))
    let tk := s.takeToken cls
    let s := tk.1
    if !tk.2 then s.boltDropRec cls
    else if !s.ddrUp then (s.inc (lkey (BLT_AUD_STORED cls))).boltLoseRec cls
    else if s.boltFill < rankLimit cls then
      let q := s.stampSeq cls r
      let s := (q.1.enqueueRec cls pm q.2).inc (lkey (BLT_AUD_STORED cls))
      if cls = 1 || cls = 5 then s.matchTrigs (bget (r.head?.getD 0) 24 8) else s
    else s.boltDropRec cls

/-- Produce one record of a class (R412, R414). -/
def State.boltProduce (s : State) (cls : Nat) (r : List Word) : State := s.produceAt cls none r

/-- Count a record that is produced and dropped before it reaches the Bolt (R138). -/
def State.boltLost (s : State) (cls : Nat) : State := (s.inc (lkey (BLT_AUD_PRODUCED cls))).boltDropRec cls

/-- An event of the hardware or the shipped microcode, in the class of its code (R423). -/
def State.boltEvent (s : State) (code scope index src : Nat) (data : List Nat) : State :=
  s.boltProduce (if code < 0x80 then 0 else if code < 0xF0 then 1 else 5) (s.evRec code scope index src data)

/-- DDR-5 becomes unavailable (R417): queued alarms go to the alarm SRAM, or coalesce when it is full; every other queued
record is LOST. -/
def State.boltDown (s : State) : State :=
  let q := s.blt.queue
  let s := s.updBlt (fun d => { d with queue := [] })
  let s := q.foldl (fun s e => if e.1 = 0 then
      let r := s.toSram e.2.2
      if r.2 then r.1 else s.coalesceIn e.2.2
    else s.boltLoseRec e.1) s
  let mask := (List.range 7).foldl (fun m j => if q.any (fun e => decide (e.1 = j) && decide (e.1 ≠ 0)) then m + 2 ^ j else m) 0
  if mask = 0 then s else s.alarmEv 0x08 0 0 14 [mask]

/-- The FILLING cut that a trigger started and joins again (R427). -/
def State.joins (s : State) (e : Frz) : Option Nat :=
  findFrom (fun j => decide (e.cause < 8) && decide (s.g (BLT_CUT j) BLT_CUT_STATE = 1) && decide (s.g (BLT_CUT j) BLT_CUT_CAUSE = e.cause)) 8 0

/-- Serve a freeze (R427): a trigger joins the FILLING cut that it started, else takes a cut of its own; a freeze that finds no FREE cut is
refused with an alarm. -/
def State.serveFreeze (s : State) (e : Frz) : State :=
  match s.joins e with
  | some j =>
    let f := min (e.t + s.g BLT_CUT_DEF BLT_CUT_DEF_POST_S * 1000000000) (s.blt.cutT.look j + 600000000000)
    (s.updBlt (fun d => { d with cutEnd := d.cutEnd.put j f })).inc BLT_CUT_JOINED
  | none =>
    let r := s.freeze e.cause e.code e.rings e.t
    if r.2 then r.1 else r.1.alarmEv 0x0A 0 0 14 [e.cause, e.code]

/-- The freezes of a cycle at its end (R434): a command freeze is no longer pending. -/
def State.freezeTick (s : State) (l : List Frz) : State :=
  (l.foldl (fun s e => s.serveFreeze e) s).when (l.any (fun e => decide (e.cause = 8))) (fun s => s.p BLT_CUT_CMD BLT_CUT_CMD_GO 0)

end Sys2Proof.Machine
end

