-- ==== Sys2Proof/Machine/PmOps.lean ====
section
/-! DEFINITION. The per-second sums of the book-keeping roles (R424) and the performance bins (R430 to R433). -/
namespace Sys2Proof.Machine

/-- The key of a slot's sums for a second. -/
def sumKey (sec c i : Nat) : Nat := sec % 2 * 16384 + 256 * c + i

/-- Change a slot's sums of the running second. -/
def State.sumUpd (s : State) (c i : Nat) (f : SlotSum → SlotSum) : State :=
  s.updBlt (fun d => { d with sums := d.sums.upd (sumKey s.tim.sec c i) (fun x => f { x with live := true }) })

/-- Object numbers of the PM store (R430). -/
def pmOnu (c i : Nat) : Nat := c * 256 + i
def pmChan (c : Nat) : Nat := 16384 + c
def pmTrib (t : Nat) : Nat := 16448 + t

/-- The nominal length of an interval, 15 minutes or 24 hours, in seconds. -/
def pmLen (w : Nat) : Nat := if w = 0 then 900 else 86400

/-- The bin index of the current bin and of closed interval START (R430). -/
def pmCur (w : Nat) : Nat := if w = 0 then 0 else 97
def pmHist (w start : Nat) : Nat := if w = 0 then 1 + start / 900 % 96 else 98 + start / 86400 % 7

/-- The words of a bin (R431). -/
def binWords (w : Nat) (closed : Bool) (b : PmBin) : List Word :=
  let off := decide (pmLen w + 10 < b.elapsed) || (closed && decide (b.elapsed + 10 < pmLen w))
  [word (2 ^ 31 + b2n (b.suspect || off) * 2 ^ 30), word b.start, word b.elapsed, word b.sat]
    ++ (List.range 28).map (fun i => word (b.counts.look i))

/-- Write a bin to the PM store: one PM-class record (R430). -/
def State.pmWrite (s : State) (o b : Nat) (r : List Word) : State := s.produceAt 6 (some ((o * 105 + b) * 128)) r

/-- Add to counter i of a bin: 32 bits, holding at the largest value with SAT set (R431, R435). -/
def PmBin.add (b : PmBin) (i n : Nat) : PmBin :=
  let v := b.counts.look i + n
  if v < 2 ^ 32 then { b with counts := b.counts.put i v }
  else { b with counts := b.counts.put i 0xFFFFFFFF, sat := setBit b.sat i true }

/-- Add the counters of one second to a bin. -/
def PmBin.addAll (b : PmBin) (l : List (Nat × Nat)) : PmBin := l.foldl (fun b e => b.add e.1 e.2) b

/-- Add second `sec` to the bins of an object (R432): to the current bin, or to the one just closed when the second came
before the roll-over. -/
def State.pmSecond (s : State) (o sec : Nat) (partial_ : Bool) (l : List (Nat × Nat)) : State :=
  [0, 1].foldl (fun s w =>
    let cur := s.blt.bins.look (4 * o + 2 * w)
    let late := decide (sec < cur.start)
    let k := 4 * o + 2 * w + b2n late
    let b := s.blt.bins.look k
    let b := { b.addAll l with elapsed := b.elapsed + 1, suspect := b.suspect || partial_ }
    let s := s.updBlt (fun d => { d with bins := d.bins.put k b })
    s.pmWrite o (if late then pmHist w b.start else pmCur w) (binWords w late b)) s

/-- Close the current bin of an object into its history and open a new one at `start` (R432). -/
def State.pmClose (s : State) (o w start : Nat) (susp : Bool) : State :=
  let b := s.blt.bins.look (4 * o + 2 * w)
  let b := { b with suspect := b.suspect || susp }
  let n : PmBin := { (default : PmBin) with start := start }
  let s := s.updBlt (fun d => { d with bins := (d.bins.put (4 * o + 2 * w) n).put (4 * o + 2 * w + 1) b })
  (s.pmWrite o (pmHist w b.start) (binWords w true b)).pmWrite o (pmCur w) (binWords w false n)

/-- PM_ROLLOVER (R432): every object's current bin closes. -/
def State.pmRoll (s : State) (w start : Nat) (susp : Bool) : State :=
  iter 20544 (fun o s => s.pmClose o w start susp) s

/-- PM_CLEAR (R433): the current bins of an object are zeroed and SUSPECT. -/
def State.pmClear (s : State) (o : Nat) : State :=
  [0, 1].foldl (fun s w =>
    let b := s.blt.bins.look (4 * o + 2 * w)
    let n : PmBin := { (default : PmBin) with start := b.start, suspect := true }
    (s.updBlt (fun d => { d with bins := d.bins.put (4 * o + 2 * w) n })).pmWrite o (pmCur w) (binWords w false n)) s

-- ===== summaries (R424) =====

def sat16 (n : Nat) : Nat := min n 0xFFFF
def sat32 (n : Nat) : Nat := min n 0xFFFFFFFF

/-- Integer mean rounded toward zero. -/
def meanI (sum : Int) (n : Nat) : Int := if n = 0 then 0 else sum.tdiv n

/-- The summary record of a slot (R424). -/
def State.sumRecord (s : State) (c i sec : Nat) (x : SlotSum) : List Word :=
  let d := s.rd (PCH_ONU_DEF c i)
  let pr := match x.power with
    | some q => (toBits 16 q.1, toBits 16 q.2)
    | none => (0x8000, 0x8000)
  let ar := match x.arr with
    | some q => (toBits 16 q.1, toBits 16 q.2)
    | none => (0, 0)
  let n := x.bursts
  [word (c * 2 ^ 26 + i * 2 ^ 18 + s.g (RNG_ONU c i) RNG_ONU_STATE * 2 ^ 15 + b2n (decide (s.blt.stepped = sec + 1)) * 2 ^ 14 + b2n x.partial_ * 2 ^ 13),
   word sec, s.rd (RNG_ONU c i + 8), s.rd (RNG_ONU c i + 12),
   word (sat32 x.recv), word (sat32 x.absent), word (sat32 x.errored), word (sat32 x.discarded), word (sat32 n),
   word (sat16 x.ambig * 2 ^ 16 + sat16 x.stale), word (pr.1 * 2 ^ 16 + pr.2),
   word ((if n = 0 then 0x8000 else toBits 16 (meanI x.powerSum n)) * 2 ^ 16 + sat16 x.lockMax),
   word (ar.1 * 2 ^ 16 + ar.2), word (toBits 16 (meanI x.arrSum n) * 2 ^ 16 + sat16 (if n = 0 then 0 else x.lockSum / n)),
   word (sat16 x.tapMax * 2 ^ 16 + min x.phaseMax 255 * 2 ^ 8 + x.gain % 32),
   word (sat32 x.fecCorr), word (sat32 x.cwTotal), word (sat32 x.cwFail),
   word x.bytes, word (x.bytes / 2 ^ 32), word x.granted, word (x.granted / 2 ^ 32),
   word (sat16 x.dbruBad * 2 ^ 16 + sat16 x.hecFail), word (bget d 16 5 * 2 ^ 8 + x.raised % 32),
   word (s.g (RNG_ONU c i) RNG_ONU_EQD), word (sat16 x.corrections)] ++ List.replicate 6 0

/-- The PM counters of an ONU's second (R431); a second with a defect is one in which it was raised at some time. -/
def State.onuSecond (s : State) (c i : Nat) (x : SlotSum) : List (Nat × Nat) :=
  let d := PCH_ONU_DEF c i
  let lob := s.on d PCH_ONU_DEF_LOB_LIVE || bit x.cleared PCH_ONU_DEF_LOB.lo
  let all := x.recv + x.absent + x.errored + x.discarded
  let bad := all - x.recv
  [(0, x.recv), (1, x.absent), (2, x.errored), (3, x.cwFail), (4, x.fecCorr), (5, x.bytes / 1024),
   (6, b2n (decide (0 < x.absent + x.errored + x.cwFail))),
   (7, b2n (lob || (decide (0 < all) && decide (3 * all ≤ 10 * bad)))),
   (8, b2n lob), (9, b2n (s.on d PCH_ONU_DEF_LODS_LIVE || bit x.cleared PCH_ONU_DEF_LODS.lo)),
   (10, b2n (bit x.raised 2)), (11, x.corrections)]

/-- The readings behind a channel's PM counters (R431), by counter: totals, of which a second adds the difference. -/
def State.chanTotals (s : State) (c : Nat) : List (Nat × Nat) :=
  [(3, s.rd64 (lkey (SHD_LEDGER_ISSUED c))), (4, s.rd64 (lkey (SHD_LEDGER_ABSENT c))), (5, s.rd64 (lkey (SHD_LEDGER_WITHHELD c))),
   (6, (s.blt.chSums.look c).look 106 / 1024), (7, (s.blt.chSums.look c).look 107 / 1024),
   (8, s.rd64 (RNG_DISC_QW c) + s.rd64 (RNG_DISC_UT c)), (9, s.rd64 (DSF_TX_CORRUPT c))]

/-- Counts of a channel between its seconds, for its PM counters: 106 bytes upstream, 107 downstream, 108 + bit a defect that cleared. -/
def State.chBytes (s : State) (c k n : Nat) : State :=
  s.updBlt (fun d => { d with chSums := d.chSums.upd c (fun t => t.upd k (· + n)) })

/-- A channel's second: defect seconds and the differences of its totals (R431). -/
def State.chanSecond (s : State) (c sec : Nat) : State :=
  let t := s.chanTotals c
  let old := s.blt.chSums.look c
  let secs := fun (live : Fld) => b2n (s.on (PCH_DEFECT c) live || decide (old.look (108 + live.lo) ≠ 0))
  let l := [(0, secs PCH_DEFECT_LOS_LIVE), (1, secs PCH_DEFECT_LOL_LIVE), (2, secs PCH_DEFECT_TXF_LIVE)]
    ++ t.map (fun e => (e.1, e.2 - old.look e.1))
  let s := s.updBlt (fun d => { d with chSums := d.chSums.upd c (fun o =>
    (t.foldl (fun (o : Tab Nat) e => o.put e.1 e.2) o).drop (fun k => decide (108 ≤ k))) })
  s.pmSecond (pmChan c) sec false l

/-- SUMMARY_CONDENSE of one channel and second (R424, R430): a summary record and the bins of each slot that was not EMPTY,
the channel's bins, and cleared sums. -/
def State.condense (s : State) (c sec : Nat) : State :=
  let s := iter 256 (fun i s =>
    let x := s.blt.sums.look (sumKey sec c i)
    if x.live || s.on (RNG_ONU c i) RNG_ONU_STATE then
      let s := s.boltProduce 2 (s.sumRecord c i sec x)
      let s := s.pmSecond (pmOnu c i) sec x.partial_ (s.onuSecond c i x)
      s.updBlt (fun d => { d with sums := d.sums.put (sumKey sec c i) default })
    else s) s
  s.chanSecond c sec

-- ===== what the book-keeping role draws from a burst (R420, R424) =====

/-- The 32-byte burst record of a measurement descriptor (R420). -/
def burstRecord (c frame : Nat) (d : List Word) : List Word :=
  let w := fun (i : Nat) => d.getD i 0
  let w0 := (w 0).toNat
  [word (c * 2 ^ 26 + w0 / 512 % 512 * 2 ^ 17 + w0 / 2 ^ 18 % 4 * 2 ^ 15 + w0 / 2 % 256 * 2 ^ 7), word frame, w 6, w 2, w 3, w 4,
   w 5, word (bget (w 1) 18 14 * 2 ^ 18 + bget (w 7) 24 8 * 2 ^ 10)]

/-- Fold a descriptor of a RECEIVED burst into the slot's sums. -/
def SlotSum.addBurst (x : SlotSum) (d : List Word) : SlotSum :=
  let w := fun (i : Nat) => d.getD i 0
  let arr := sext 14 (bget (w 2) 18 14)
  let pw := sext 16 (bget (w 3) 16 16)
  let lock := bget (w 2) 8 10
  let ph := (sext 8 (bget (w 2) 0 8)).natAbs
  let mm := fun (o : Option (Int × Int)) (v : Int) => match o with
    | some q => some (min q.1 v, max q.2 v)
    | none => some (v, v)
  { x with
    bursts := x.bursts + 1, ambig := x.ambig + bget (w 0) 8 1, stale := x.stale + bget (w 0) 6 1,
    power := mm x.power pw, powerSum := x.powerSum + pw, lockMax := max x.lockMax lock, lockSum := x.lockSum + lock,
    arr := mm x.arr arr, arrSum := x.arrSum + arr, tapMax := max x.tapMax (bget (w 3) 0 11), phaseMax := max x.phaseMax ph,
    gain := bget (w 3) 11 5, fecCorr := x.fecCorr + bget (w 4) 12 20, cwTotal := x.cwTotal + bget (w 4) 0 12,
    cwFail := x.cwFail + bget (w 5) 20 12, dbruBad := x.dbruBad + bget (w 7) 16 8, hecFail := x.hecFail + bget (w 7) 8 8 }

end Sys2Proof.Machine
end

