-- ==== Sys2Proof/Machine/Wire.lean ====
section
/-! DEFINITION. The bits of downstream frames (chapter 4): the hybrid error check of the headers, the PSBd, HLend, BWmap structures, XGEM
headers, the 48 bytes of PLOAM messages with their MIC, codewords, and how far the serializer is. Where the spec cites the governing
standard, the layout is that of G.9807.1 and G.9804.2 (assumption 70, PRESUMED). -/
namespace Sys2Proof.Machine

-- ===== the frame's arithmetic (R99, R100) =====

/-- Line bits of a downstream frame (R99). -/
def dsLineBits (mode : Nat) : Nat := if mode = 1 then 6220800 else 1244160

/-- Information and codeword bytes of a full codeword (R99): LDPC(17280,14592), RS(248,216). -/
def dsCw (mode : Nat) : Nat × Nat := if mode = 1 then (1824, 2160) else (216, 248)

/-- The codewords of a frame (R99): information and codeword bytes of each; the last LDPC codeword is shortened by 192 bits. -/
def dsCodewords (mode : Nat) : List (Nat × Nat) :=
  if mode = 1 then List.replicate 359 (1824, 2160) ++ [(1800, 2136)] else List.replicate 627 (216, 248)

/-- Information bytes of a frame (R99). -/
def dsInfo (mode : Nat) : Nat := if mode = 1 then 656616 else 135432

/-- Codewords that the first `k` information bytes of a frame take (R100). -/
def headCodewords (mode k : Nat) : Nat := (k + (dsCw mode).1 - 1) / (dsCw mode).1

/-- Picoseconds from the first PSync bit until the first `k` information bytes are complete on the wire (R100). -/
def headPs (mode k : Nat) : Nat := (24 + headCodewords mode k * (dsCw mode).2) * 8 * 125000000 / dsLineBits mode

/-- Information bytes of a frame that have left the serializer `ns` after its first PSync bit. -/
def infoAt (mode ns : Nat) : Nat := (ns * dsLineBits mode / 125000 - 192) / 8 * (dsCw mode).1 / (dsCw mode).2

-- ===== headers =====

/-- One step of the division by x^12 + x^10 + x^8 + x^5 + x^4 + x^3 + 1. -/
def bchStep (r : Nat) (b : Bool) : Nat :=
  let r := 2 * r + b2n b
  if 4096 ≤ r then Nat.xor r 0x1539 else r

/-- The 12 check bits of BCH(63,12,2) over `n` bits. -/
def bch12 (n v : Nat) : Nat := (List.range (n + 12)).foldl (fun r i => bchStep r (bit (v * 4096) (n + 11 - i))) 0

/-- The parity of the low `n` bits. -/
def parityOf (n v : Nat) : Bool := (List.range n).foldl (fun p i => p != bit v i) false

/-- `n` bits with their 13-bit hybrid error check: 12 bits of BCH and a parity bit. -/
def withHec (n v : Nat) : Nat :=
  let x := v * 4096 + bch12 n v
  2 * x + b2n (parityOf (n + 12) x)

/-- PSBd (R98, R101): PSync, the superframe counter structure, the PON-ID or operation control structure. -/
def psbd (c n : Nat) : List Byte :=
  beBytes 8 0xC5E51840FD59BB49 ++ beBytes 8 (withHec 51 (n % 2 ^ 51)) ++ beBytes 8 (withHec 51 (Config.ponId c % 2 ^ 51))

/-- HLend (R98): BWmap length in allocation structures, PLOAM count. -/
def hlend (grants ploams : Nat) : List Byte := beBytes 4 (withHec 19 (grants % 2048 * 256 + ploams % 256))

/-- The 8-byte allocation structure of a grant (R186): Alloc-ID, DBRu and PLOAMu flags, StartTime, GrantSize, no forced wake-up, the burst
profile, HEC. -/
def Grant.structure_ (g : Grant) : List Byte :=
  let v := bget g.w0 0 14 * 4 + bget g.w0 20 1 * 2 + bget g.w0 19 1
  beBytes 8 (withHec 51 (((v * 65536 + bget g.w1 16 16) * 65536 + bget g.w1 0 16) * 8 + bget g.w0 22 2))

/-- An XGEM header: PLI, key index, port-ID, options, LF, HEC. -/
def xgemHeader (pli idx port : Nat) (last : Bool) : List Byte :=
  beBytes 8 (withHec 51 (((pli % 16384 * 4 + idx % 4) * 65536 + port % 65536) * 2 ^ 19 + b2n last))

/-- Idle XGEM frames (R114) that fill `k` bytes; fewer than 8 are zeros. -/
def idleFill : Nat → Nat → List Byte
  | 0, k => List.replicate k 0
  | f + 1, k =>
    if k < 8 then List.replicate k 0
    else
      let n := min (k - 8) 16383
      xgemHeader n 0 0xFFFF true ++ List.replicate n 0 ++ idleFill f (k - 8 - n)

-- ===== PLOAM messages =====

/-- Zeros up to `n` bytes. -/
def padTo (n : Nat) (l : List Byte) : List Byte := (l ++ List.replicate n 0).take n

/-- The first 40 bytes of a PLOAM message: ONU-ID, type, sequence number 0, content. -/
def ploamHead (onu type : Nat) (l : List Byte) : List Byte := padTo 40 (beBytes 2 (onu % 1024) ++ [BitVec.ofNat 8 type, 0] ++ l)

/-- A vendor-specific message (R166): 0x5356_4F52, the subtype, its content. -/
def ploamVs (vs onu sub : Nat) (l : List Byte) : List Byte := ploamHead onu vs (beBytes 4 0x53564F52 ++ [BitVec.ofNat 8 sub] ++ l)

/-- Signature level of the device's messages (R166): 22 dB in 0.5 dB units. -/
def vsLevel : List Byte := [0x2C]

/-- The first 40 bytes of a downstream PLOAM (R112, R166, R360); `vs` is VS_TYPE. An entry that brings 48 bytes has a MIC of its own. -/
def ploamBody (vs : Nat) : Ploam → List Byte
  | .burstProfile p w0 d => ploamHead 0x3FF 0x01 ([BitVec.ofNat 8 (p % 4), BitVec.ofNat 8 (bget w0 29 1), 8] ++ beBytes 8 d.toNat ++ beBytes 2 (bget w0 0 16))
  | .assignOnuId i sn => ploamHead 0x3FF 0x03 (beBytes 2 i ++ beBytes 8 sn.toNat)
  | .rangingTime i q => ploamHead i 0x04 ([0] ++ beBytes 4 q)
  | .deactivate i => ploamHead i 0x05 []
  | .disableSn sn => ploamHead 0x3FF 0x06 ([0xFF] ++ beBytes 8 sn.toNat)
  | .enableSn sn => ploamHead 0x3FF 0x06 ([0x00] ++ beBytes 8 sn.toNat)
  | .capQuery i => ploamVs vs i 0x01 [0x01]
  | .vidanInvite nonce sf p => ploamVs vs 0x3FF 0x02 (beBytes 4 nonce.toNat ++ beBytes 4 sf.toNat ++ [BitVec.ofNat 8 p, 64] ++ vsLevel ++ beBytes 4 0)
  | .vidanAssign nonce k i q p sf =>
    ploamVs vs 0x3FF 0x03 (beBytes 4 nonce.toNat ++ [BitVec.ofNat 8 k] ++ beBytes 2 (i % 1024) ++ beBytes 4 q ++ [BitVec.ofNat 8 p] ++ beBytes 4 sf.toNat)
  | .vidanRerange i sf k => ploamVs vs i 0x04 (beBytes 4 sf.toNat ++ [BitVec.ofNat 8 k, 16] ++ vsLevel)
  | .muteProbe i sf n => ploamVs vs i 0x05 (beBytes 4 sf.toNat ++ [BitVec.ofNat 8 n])
  | .sealedReq i l => ploamVs vs i 0x06 l
  | .raw l => padTo 40 l

/-- The MIC that an entry carries itself (R113). -/
def ploamOwnMic : Ploam → Option (List Byte)
  | .raw l => if l.length = 48 then some (l.drop 40) else none
  | _ => none

/-- The ONU-ID of a message. -/
def ploamOnu (l : List Byte) : Nat := beNat (l.take 2) % 1024

/-- The 48 bytes of a PLOAM as the framer sends it, with its MIC under an integrity key (R113). -/
def ploamWith (vs : Nat) (ik : Nat → BitVec 256) (m : Ploam) : List Byte :=
  let b := ploamBody vs m
  b ++ match ploamOwnMic m with
    | some l => l
    | none => beBytes 8 (Config.mic (ik (ploamOnu b)) b).toNat

/-- What a vendor-specific CAP_REPORT brings (R166): format version, FLAGS and smallest LEVEL. -/
def capOf (vs : Nat) (l : List Byte) : Option (BitVec 8 × BitVec 8 × BitVec 8) :=
  if beNat ((l.drop 2).take 1) = vs && decide (beNat ((l.drop 4).take 4) = 0x53564F52) && decide (beNat ((l.drop 8).take 1) = 0x81)
  then some (l.getD 9 0, l.getD 10 0, l.getD 11 0) else none

-- ===== a whole frame =====

/-- Information bytes of a frame's head (R100): HLend, BWmap, PLOAM partition. -/
def DsFrame.headLen (f : DsFrame) : Nat := 4 + 8 * f.grants.length + 48 * f.ploams.length

/-- The information bytes of a frame, in the order of R98; idle XGEM frames fill what is left (R114). -/
def DsFrame.info (f : DsFrame) (mode : Nat) : List Byte :=
  let head := hlend f.grants.length f.ploams.length ++ f.grants.flatMap Grant.structure_ ++ f.ploams.flatten
  let pay := f.items.flatMap (·.bytes)
  head ++ pay ++ idleFill 64 (dsInfo mode - head.length - pay.length)

/-- Cut a byte string into codewords, each with its parity (R99). -/
def codewordsOf (mode : Nat) : List (Nat × Nat) → List Byte → List (List Byte)
  | [], _ => []
  | (k, n) :: cs, l =>
    let b := padTo k l
    (b ++ (List.range (n - k)).map (Config.dsParity mode b)) :: codewordsOf mode cs (l.drop k)

/-- A frame on the line (R98, R99): the PSBd, which is neither coded nor encrypted, and its codewords. -/
def DsFrame.line (f : DsFrame) (c mode : Nat) : List Byte := psbd c f.n ++ (codewordsOf mode (dsCodewords mode) (f.info mode)).flatten

end Sys2Proof.Machine
end

