-- ==== Sys2Proof/Machine/CryOps.lean ====
section
/-! DEFINITION. What CRY does for frames and for a channel's start (chapter 15). -/
namespace Sys2Proof.Machine

/-- Update CRY's state. -/
def State.updCry (s : State) (f : Cry → Cry) : State := { s with cry := f s.cry }

/-- The percentage of line rate at which channel c is paced (R364): 100 on its main-path engine. -/
def State.fbPct (s : State) (c : Nat) : Nat := if s.cry.moved.look (c / 4) = 0 then 100 else s.cry.moved.look (c / 4) % 128

/-- What a reader of a key slot sees: its word in CRY_SLOT and its masked key; a load of the same cycle is not yet seen (R357). -/
def State.keyAt (s : State) (n : Nat) : Word × BitVec 256 := (s.cyc.keyOld.look n).getD (s.rd (CRY_SLOT n), s.cry.keys.look n)

/-- Whether a key slot is VALID for a reader of this cycle. -/
def State.keyValid (s : State) (n : Nat) : Bool := (s.keyAt n).1.getLsbD 31

/-- Make a key slot not VALID at once; its key is gone (R357). -/
def State.slotClr (s : State) (n : Nat) : State :=
  let s := s.updCyc (fun d => { d with keyOld := d.keyOld.put n none })
  (s.p (CRY_SLOT n) CRY_SLOT_VALID 0).updCry (fun d => { d with keys := d.keys.put n 0 })

/-- The PLOAM integrity key of an ONU-ID of channel c (R113, R353, R354): of the ONU slot with that number, unmasked, where its key slot is
VALID; the standards' default key otherwise and for broadcasts. -/
def State.ploamIk (s : State) (c onu : Nat) : BitVec 256 :=
  let n := s.g (CRY_ONU (256 * c + onu)) CRY_ONU_BASE + 2
  if onu < 256 && s.keyValid n then (s.keyAt n).2 ^^^ s.cry.mask else Config.defaultIk

/-- The 48 bytes of a PLOAM as the framer of channel c sends it (R113). -/
def State.ploamBytes (s : State) (c : Nat) (m : Ploam) : List Byte := ploamWith (s.g (RNG_CTL c) RNG_CTL_VS_TYPE) (s.ploamIk c) m

/-- NONCE_GUARD (R359): a channel whose first counter value is not above its sealed high-water loses every sealed key. -/
def State.nonceGuard (s : State) (c f : Nat) : State :=
  if f + 1 ≤ s.cry.high.look c then
    let s := s.overRegs (CRY_ONU (256 * c)) (CRY_ONU (256 * c + 256)) (fun a s =>
      if a % 8 = 0 then
        let b := s.g a CRY_ONU_BASE
        [b, b + 1].foldl (fun s n =>
          if s.on (CRY_SLOT n) CRY_SLOT_VALID && decide (s.g (CRY_SLOT n) CRY_SLOT_TYPE = 2) then s.slotClr n else s) s
      else s)
    (s.inc CRY_NONCE_GUARD).ev CRY_STATUS CRY_STATUS_NONCE_GUARD
  else s

/-- A sealed key of an ONU is used in frame f (R359): both high-water marks follow. -/
def State.sealUse (s : State) (c i f : Nat) : State :=
  let s := s.updCry (fun d => { d with high := d.high.upd c (fun h => max h (f + 1)), onuHigh := d.onuHigh.upd (256 * c + i) (fun h => max h (f + 1)) })
  s.wr (CRY_ONU (256 * c + i) + 4) (word (s.cry.onuHigh.look (256 * c + i) - 1))

/-- Whether a blanking window covers TAG_FAIL and NO_KEY of a channel (R464). -/
def State.cryBlank (s : State) (c : Nat) : Bool := s.tmp.engBlank.look (c / 4) || s.tmp.eraseBlank

/-- The nonce of a sealed XGEM frame (R358): `dir` 0 downstream, 1 upstream. -/
def sealNonce (onu dir idx n ord : Nat) : Nat := onu % 1024 * 2 ^ 86 + dir % 2 * 2 ^ 85 + idx % 4 * 2 ^ 83 + n % 2 ^ 51 * 2 ^ 32 + ord % 2 ^ 32

/-- Bytes under a sealed key: key, nonce; and their tag over the header and the bytes as sent (R358). -/
def gcmText (key : BitVec 256) (nonce : Nat) (b : List Byte) : List Byte := b.zipIdx.map (fun e => e.1 ^^^ Config.gcmStream key nonce e.2)
def gcmTag16 (key : BitVec 256) (nonce : Nat) (head x : List Byte) : List Byte := (List.range 16).map (Config.gcmTag key nonce head x)

/-- An XGEM frame as it arrives: its port-ID, key index and header, the superframe counter of its upstream frame, the first bit of its
burst and its own place in it, its ordinal among those of its ONU in the frame, and its payload. -/
structure UpX where
  port : Nat
  idx : Nat
  head : List Byte
  frame : Nat
  start : Nat
  pos : Nat
  ord : Nat
  bytes : List Byte

/-- An upstream XGEM frame or fragment through CRY (R352, R353, R357, R358, R362), with its payload in the clear: 0 it goes on, 1 it is
dropped, 2 its frame ends here with a poisoned FCS. -/
def State.cryUp (s : State) (c i : Nat) (x : UpX) : State × Nat × List Byte :=
  let o := CRY_ONU (256 * c + i)
  let p := CRY_PORT (4096 * c + x.port)
  let mode := s.g o CRY_ONU_MODE
  let on := decide (mode = 2) && !s.on p CRY_PORT_MCAST || decide (mode = 1) && s.on p CRY_PORT_ENC
  let n := s.g o CRY_ONU_BASE + x.idx - 1
  let key := (s.keyAt n).2 ^^^ s.cry.mask
  if !on || x.idx = 0 then (s, 0, x.bytes)
  else if 2 < x.idx || !s.keyValid n then ((s.inc CRY_NO_KEY).when (s.cryBlank c) (fun s => s.inc TMP_BLANKED), 1, [])
  else if mode = 2 then
    let s := s.sealUse c i x.frame
    let k := x.bytes.length - 16
    let nonce := sealNonce (s.g (RNG_ONU c i) RNG_ONU_ONU_ID) 1 x.idx x.frame x.ord
    let text := gcmText key nonce (x.bytes.take k)
    if 16 ≤ x.bytes.length && x.bytes.drop k = gcmTag16 key nonce x.head (x.bytes.take k) then (s, 0, text)
    else if s.on o CRY_ONU_CUT then ((s.inc CRY_TAG_CUT).ev CRY_STATUS CRY_STATUS_TAG_CUT, 2, text)
    else if s.cryBlank c then ((s.inc CRY_TAG_FAIL).inc TMP_BLANKED, 1, [])
    else ((s.inc CRY_TAG_FAIL).ev CRY_STATUS CRY_STATUS_TAG_FAIL, 1, [])
  else (s, 0, x.bytes.zipIdx.map (fun e => e.1 ^^^ Config.ctrStreamUp key x.frame x.start x.pos e.2))

/-- What protects an XGEM frame of a port-ID when it is drawn (R115, R353, R357): the ONU slot (256: broadcast), the protection (0 none,
1 counter mode, 2 sealed), the key index sent in the header and the key in the slot then. A port whose chosen slot is not VALID is sent
unencrypted. -/
def State.cryPick (s : State) (c port : Nat) : Nat × Nat × Nat × BitVec 256 :=
  let p := CRY_PORT (4096 * c + port)
  let i := s.g p CRY_PORT_SLOT
  let o := CRY_ONU (256 * c + i)
  if s.on p CRY_PORT_MCAST then
    let x := s.g (CRY_BCAST c) CRY_BCAST_TX_IDX
    let k := s.g (CRY_BCAST c) CRY_BCAST_BASE + x
    if s.on p CRY_PORT_ENC && s.keyValid k then (256, 1, x + 1, (s.keyAt k).2) else (256, 0, 0, 0)
  else
    let x := s.g o CRY_ONU_TX_IDX
    let k := s.g o CRY_ONU_BASE + x
    if !s.keyValid k then (i, 0, 0, 0)
    else if s.g o CRY_ONU_MODE = 2 then (i, 2, x + 1, (s.keyAt k).2)
    else if s.g o CRY_ONU_MODE = 1 && s.on p CRY_PORT_ENC then (i, 1, x + 1, (s.keyAt k).2)
    else (i, 0, 0, 0)

end Sys2Proof.Machine
end

