-- ==== Sys2Proof/Machine/TrafficOps.lean ====
section
/-! DEFINITION. The traffic manager and the buffer pools (chapter 13): queues and their nodes, buffers, shapers, policers and the
spill meter, the schedulers, drops and flushes. -/
namespace Sys2Proof.Machine

/-- Update the traffic manager. -/
def State.updTmg (s : State) (f : Tmg → Tmg) : State := { s with tmg := f s.tmg }

/-- Where the values in force of registers stand whose words apply together (R289, R305, R328): the register itself holds what
was written. -/
def fkey (off : Nat) : Nat := off + 0x10000000 * 2000

/-- Put `n` written words from `a` in force. -/
def State.applyWords (s : State) (a n : Nat) : State :=
  (List.range n).foldl (fun s i => s.wr (fkey (a + 4 * i)) (s.rd (a + 4 * i))) s

/-- The first queue of the uplink-bound queues (R308). -/
def upBase : Nat := 131072

/-- Scheduler child of a group (R319); a queue is its own number. -/
def grpKid (c g : Nat) : Nat := 163840 + 256 * c + g

/-- The frames resident in a queue. -/
def State.queue (s : State) (q : Nat) : List QFrame := s.tmg.queues.look q

/-- Bytes resident in a queue; every copy counts in full (R312). -/
def State.queueBytes (s : State) (q : Nat) : Nat := ((s.queue q).map (·.len)).sum

/-- Bytes of an account (R312). -/
def State.acctBytes (s : State) (a : Nat) : Nat :=
  (s.tmg.queues.map (fun e => ((e.2.filter (fun f => decide (f.acct = a))).map (·.len)).sum)).sum

/-- Copy descriptors in use (R317). -/
def State.copiesUsed (s : State) : Nat := (s.tmg.queues.map (fun e => (e.2.filter (·.copy)).length)).sum

/-- The port a lane belongs to: the lowest lane of its port, the lane itself where it is in none (R393). -/
def State.portOfLane (s : State) (l : Nat) : Nat :=
  let w := s.g (HSL_STATUS l) HSL_STATUS_WIDTH_NOW
  if w = 0 then l else l / 2 ^ (w - 1) * 2 ^ (w - 1)

/-- Whether queue `q` lies in the block of uplink port `p` (R310, R311). -/
def State.inPort (s : State) (p q : Nat) : Bool :=
  let b := s.g (fkey (TMG_UPORT p)) TMG_UPORT_UBASE
  decide (upBase + b ≤ q) && decide (q < upBase + b + s.g (fkey (TMG_UPORT p)) TMG_UPORT_USIZE)

/-- The owner of a queue: the framer of its channel, or the MAC of the port whose block holds it, 96 where none does (R317). -/
def State.queueOwner (s : State) (q : Nat) : Nat :=
  if q < upBase then q / 2048 else 64 + ((findFrom (fun p => s.inPort p q) 32 0).getD 32)

-- ===== shapers (R321) =====

/-- The shaper profile of a scheduler child: queue or group. -/
def State.shaperOf (s : State) (x : Nat) : Nat :=
  if x < 163840 then s.g (TMG_Q x) TMG_Q_SHAPER else s.g (TMG_GRP (x - 163840)) TMG_GRP_SHAPER

/-- Updates every 10 ns. -/
def tick10 (t : Nat) : Nat := t / 10 * 10

/-- The credit of a child under a profile, in 10^-6 byte. -/
def State.creditBy (s : State) (x j : Nat) : Int :=
  let b : Int := (s.g (TMG_SHP j) TMG_SHP_BURST * 1000000 : Nat)
  match s.tmg.credit.look x with
  | none => b
  | some (v, t) => min b (v + (s.g (TMG_SHP j) TMG_SHP_RATE * (tick10 s.now - t) : Nat))

/-- The shaper credit of a child is at least 0; profile 0 leaves it unshaped. -/
def State.shaped (s : State) (x : Nat) : Bool :=
  let j := s.shaperOf x
  decide (j = 0) || decide (0 ≤ s.creditBy x j)

/-- Charge a departure of `l` bytes to a child's shaper. -/
def State.charge (s : State) (x l : Nat) : State :=
  let j := s.shaperOf x
  if j = 0 then s
  else
    let n := max 1 ((l : Int) + sext 7 (s.g (TMG_SHP j) TMG_SHP_OVH))
    let v := s.creditBy x j - n * 1000000
    s.updTmg (fun d => { d with credit := d.credit.put x (some (v, tick10 s.now)) })

/-- A write to a shaper profile (R328): the credit of the nodes that use it is kept, capped at the new BURST. -/
def State.shpWrite (s : State) (j w : Nat) (v : Word) : State :=
  let qs := ((s.keysIn (TMG_Q 0) (TMG_Q 163840)).filter (fun a => decide (a % 32 = 0))).map (fun a => (a - TMG_Q 0) / 32)
  let gs := ((s.keysIn (TMG_GRP 0) (TMG_GRP 16384)).filter (fun a => decide (a % 16 = 0))).map (fun a => 163840 + (a - TMG_GRP 0) / 16)
  let kids := (qs ++ gs).filter (fun x => decide (s.shaperOf x = j))
  let s := if j = 0 then s else kids.foldl (fun s x =>
    s.updTmg (fun d => { d with credit := d.credit.put x (some (s.creditBy x j, tick10 s.now)) })) s
  s.wrRW (TMG_SHP j + 4 * w) v

-- ===== policers (R313) =====

/-- The two buckets of a policer now, in 10^-6 byte: full before its first frame. -/
def State.polNow (s : State) (n : Nat) : Int × Int :=
  let a := fkey (TMG_POL n)
  let cb : Int := (s.g a TMG_POL_CBS * 1000000 : Nat)
  let pb : Int := (s.g a TMG_POL_PBS * 1000000 : Nat)
  match s.tmg.pol.look n with
  | none => (cb, pb)
  | some (c, p, t) =>
    (min cb (c + (s.g a TMG_POL_CIR * (s.now - t) : Nat)), min pb (p + (s.g a TMG_POL_PIR * (s.now - t) : Nat)))

/-- Mark a frame of `l` bytes: 0 green, 1 yellow, 2 red, the two-rate three-colour marker of RFC 2698, colour-blind. Policer 0 and a
policer that is not VALID leave it green. -/
def State.police (s : State) (n l : Nat) : State × Nat :=
  let a := fkey (TMG_POL n)
  if n = 0 || !s.on a TMG_POL_VALID then (s, 0)
  else
    let b := ((l : Int) + sext 7 (s.g a TMG_POL_OVH)) * 1000000
    let k := s.polNow n
    let col := if k.2 - b < 0 then 2 else if k.1 - b < 0 then 1 else 0
    let c := if col = 0 then k.1 - b else k.1
    let p := if col = 2 then k.2 else k.2 - b
    let s := s.updTmg (fun d => { d with pol := d.pol.put n (some (c, p, s.now)) })
    (s.when (col = 2) (fun s => s.inc (TMG_POL_RED n)), col)

/-- A write to a policer (R328): words 1 to 4 apply with word 0, and the buckets are capped at the new depths. -/
def State.polWrite (s : State) (n w : Nat) (v : Word) : State :=
  let s := s.wrRW (TMG_POL n + 4 * w) v
  if w ≠ 0 then s
  else
    let k := s.polNow n
    let s := s.applyWords (TMG_POL n) 5
    let cb : Int := (s.g (fkey (TMG_POL n)) TMG_POL_CBS * 1000000 : Nat)
    let pb : Int := (s.g (fkey (TMG_POL n)) TMG_POL_PBS * 1000000 : Nat)
    s.updTmg (fun d => { d with pol := d.pol.put n (some (min cb k.1, min pb k.2, s.now)) })

-- ===== the spill meter (R316) =====

/-- What the meter still has to work off, in bytes. -/
def State.spillDebt (s : State) : Nat :=
  s.tmg.spill.1 - s.g TMG_SPILL TMG_SPILL_GBPS * (s.now - s.tmg.spill.2)

/-- Charge a spill write or read. -/
def State.spillCharge (s : State) (n : Nat) : State :=
  (s.updTmg (fun d => { d with spill := (s.spillDebt + n, s.now) })).add TMG_SPILL_BYTES n

-- ===== buffers (R314, R317) =====

/-- Where spill pool `p` lies in DDR-5: the REGION record of kind 0 with its index (R260, R314). -/
def State.spillAt (s : State) (p : Nat) : Nat :=
  match s.drf.owned.find? (fun r => decide (r.1 = 0) && decide (r.2.1 = p)) with
  | some r => r.2.2.1
  | none => 0

/-- Whether a buffer of a spill pool is lost to a hole (R69). -/
def State.bufLost (s : State) (p i : Nat) : Bool :=
  let n := s.g (BPM_POOL p) BPM_POOL_SIZE
  let a := s.spillAt p + i * n
  decide (4 ≤ p) && (List.range ((a % 4096 + n + 4095) / 4096)).any (fun k => s.isHole (a + 4096 * k))

/-- The buffers that the memory plan gives a pool (R260): their numbers are below it. -/
def State.poolRecord (s : State) (p : Nat) : Nat := match s.drf.running with
  | some d => match d.plan.find? (fun r => decide (r.code = 0x30) && decide (r.w0 % 8 = p)) with
    | some r => (r.rest.getD 0 0).toNat
    | none => 0
  | none => 0

/-- The lowest free buffer of a pool. -/
def State.freeBuf (s : State) (p : Nat) : Option Nat :=
  if s.g (BPM_POOL p) BPM_POOL_FREE = 0 then none
  else findFrom (fun i => decide (s.tmg.bufs.look (p * 2 ^ 32 + i) = default) && !s.bufLost p i) (2 ^ 32) 0

/-- Keep FREE and LOW_WATER. -/
def State.setFree (s : State) (p n : Nat) : State :=
  let s := s.p (BPM_POOL p) BPM_POOL_FREE n
  if n < s.g (BPM_POOL p) BPM_POOL_LOW_WATER then s.p (BPM_POOL p) BPM_POOL_LOW_WATER n else s

/-- Lend a buffer of one pool. -/
def State.lend (s : State) (p : Nat) (b : List Byte) : State × Option Nat :=
  match s.freeBuf p with
  | none => (s.event BPM_STATUS (2 ^ (16 + p)), none)
  | some i =>
    let k := p * 2 ^ 32 + i
    ((s.updTmg (fun d => { d with bufs := d.bufs.put k ⟨b, 0, none, false⟩ })).setFree p (s.g (BPM_POOL p) BPM_POOL_FREE - 1), some k)

/-- The smallest pool for a length (R314). -/
def poolFor (l : Nat) : Nat := if l ≤ 256 then 0 else if l ≤ 1024 then 1 else if l ≤ 2560 then 2 else 3

/-- Take a buffer in the order of R314; the answer is the buffer, or whether the spill meter refused. -/
def State.takeBuf (s : State) (b : List Byte) (spillEn : Bool) : State × Option Nat × Bool :=
  let k := poolFor b.length
  let r := s.lend k b
  match r.2 with
  | some x => (r.1, some x, false)
  | none =>
    let r := if k < 3 then r.1.lend (k + 1) b else r
    match r.2 with
    | some x => (r.1, some x, false)
    | none =>
      let s := r.1
      if !spillEn || s.g TMG_SPILL TMG_SPILL_GBPS = 0 || !s.ddrUp then (s, none, false)
      else if (s.freeBuf (4 + k)).isSome && s.spillDebt ≠ 0 then (s, none, true)
      else
        let r := s.lend (4 + k) b
        match r.2 with
        | some x => (r.1.spillCharge b.length, some x, false)
        | none => (r.1, none, false)

/-- Return a buffer to its pool. -/
def State.freeBack (s : State) (k : Nat) : State :=
  let p := k / 2 ^ 32
  let s := s.updTmg (fun d => { d with bufs := d.bufs.put k default })
  if s.bufLost p (k % 2 ^ 32) then s else s.setFree p (s.g (BPM_POOL p) BPM_POOL_FREE + 1)

/-- One copy less of a shared buffer, that of queue `q`: at one, the holder of the last copy becomes LAST_OWNER (R317). -/
def State.copyLeft (s : State) (k q : Nat) : State :=
  let n := (s.tmg.bufs.look k).copies - 1
  let own := if n = 1 then (s.tmg.queues.find? (fun e => e.2.any (fun f => decide (f.buf = k)))).map (fun e => s.queueOwner e.1)
    else none
  (s.updTmg (fun d => { d with bufs := d.bufs.upd k (fun b => { b with copies := n, owner := own }) })).updCyc
    (fun d => { d with left := (k, q) :: d.left })

/-- LAST_OWNER of a buffer whose last copy leaves queue `q`: of copies that leave in one cycle, that of the highest queue counts as the
later (R328). -/
def State.lastOwner (s : State) (k q : Nat) : Option Nat :=
  let h := ((s.cyc.left.filter (fun e => decide (e.1 = k))).map (·.2)).foldl max q
  if q < h then some (s.queueOwner h) else (s.tmg.bufs.look k).owner

/-- A copy departs from queue `q`: its buffer stays in use until its last byte has been read (R322). -/
def State.copyGone (s : State) (k q : Nat) : State :=
  if 1 < (s.tmg.bufs.look k).copies then s.copyLeft k q
  else
    let o := s.lastOwner k q
    s.updTmg (fun d => { d with bufs := d.bufs.upd k (fun b => { b with departed := true, owner := o }) })

/-- A copy is dropped from queue `q`: its buffer is freed with its last copy (R317, R318, R323). -/
def State.copyDropped (s : State) (k q : Nat) : State :=
  if 1 < (s.tmg.bufs.look k).copies then s.copyLeft k q else s.freeBack k

-- ===== ledger 4 (R33) =====

/-- Take the head of a queue out: `resident` falls and the given pair rises at once. -/
def State.unqueue (s : State) (q pair : Nat) : State :=
  let s := s.updTmg (fun d => { d with queues := d.queues.upd q (·.drop 1) })
  (s.inc (lkey pair)).wr64 (lkey (TMG_AUD_RESIDENT q)) (s.rd64 (lkey (TMG_AUD_RESIDENT q)) - 1)

/-- Drop the head of a queue. -/
def State.dropHead (s : State) (q : Nat) : State :=
  match s.queue q with
  | [] => s
  | f :: _ => (s.unqueue q (TMG_AUD_DROPPED q)).copyDropped f.buf q

/-- Frames enqueued to a queue in this cycle: the newest of it. -/
def State.newest (s : State) (q : Nat) : Nat := (s.cyc.enq.filter (fun e => decide (e = q))).length

/-- Flush a queue: every resident frame is dropped (R323); one enqueued in the cycle of the flush stays, as if the flush came first
(R328). -/
def State.flushQueue (s : State) (q : Nat) : State :=
  let s := iter ((s.queue q).length - s.newest q) (fun _ s => s.dropHead q) s
  s.updTmg (fun d => { d with deficits := d.deficits.put q 0, credit := d.credit.put q none })

/-- The queues with state within [lo, hi). -/
def State.queuesIn (s : State) (lo hi : Nat) : List Nat :=
  ((s.tmg.queues.map (·.1)) ++ (s.tmg.deficits.map (·.1)) ++ (s.tmg.credit.map (·.1))).eraseDups.filter
    (fun q => decide (lo ≤ q) && decide (q < hi))

/-- Flush the queues within [lo, hi). -/
def State.flushRange (s : State) (lo hi : Nat) : State := (s.queuesIn lo hi).foldl (fun s q => s.flushQueue q) s

/-- Flush a channel's downstream queues; the credits and deficits of all its nodes return to BURST and 0 (R323). -/
def State.flushChannel (s : State) (c : Nat) : State :=
  let s := s.flushRange (2048 * c) (2048 * (c + 1))
  let mine := fun (k : Nat) => decide (grpKid c 0 ≤ k) && decide (k < grpKid (c + 1) 0)
  s.updTmg (fun d => { d with deficits := Tab.drop d.deficits mine, credit := Tab.drop d.credit mine })

/-- Whether a channel's downstream queues hold no frame. -/
def State.chanEmpty (s : State) (c : Nat) : Bool :=
  s.tmg.queues.all (fun e => decide (e.1 / 2048 ≠ c) || decide (upBase ≤ e.1) || e.2.isEmpty)

-- ===== scheduling (R319, R320) =====

/-- A queue is eligible (R319): it holds a frame, its head's data is on chip, its credit is at least 0. -/
def State.queueReady (s : State) (q : Nat) : Bool :=
  (match s.queue q with
   | f :: _ => f.onChip
   | [] => false) && s.shaped q

/-- What a pick may take: an eligible queue whose head was not enqueued in this very cycle (R328). -/
def State.queueElig (s : State) (q : Nat) : Bool := s.queueReady q && decide (s.newest q < (s.queue q).length)

/-- The queues of a group that the scheduler may pass over: those of the channel with its GROUP, in index order. -/
def State.groupQueues (s : State) (c g : Nat) : List Nat :=
  (List.range 2048).filterMap (fun j => if s.g (TMG_Q (2048 * c + j)) TMG_Q_GROUP = g then some (2048 * c + j) else none)

/-- A group is eligible: at least one of its queues is, and its credit is at least 0. -/
def State.groupElig (s : State) (c g : Nat) : Bool :=
  s.tmg.queues.any (fun e => decide (e.1 / 2048 = c) && decide (e.1 < upBase) && decide (s.g (TMG_Q e.1) TMG_Q_GROUP = g)
    && s.queueElig e.1) && s.shaped (grpKid c g)

/-- The next child after x in index order, around the list. -/
def nextKid (l : List Nat) (x : Nat) : Nat :=
  match l.find? (fun k => decide (x < k)) with
  | some k => k
  | none => l.head?.getD x

/-- A write of word 0 of a queue or group (R321, R328): under another shaper profile the credit gained so far is kept, and it starts at
BURST where the node was unshaped. -/
def State.kidWrite (s : State) (x n a : Nat) (v : Word) : State :=
  let j := s.shaperOf x
  let c := if j = 0 then none else some (s.creditBy x j, tick10 s.now)
  let s := (s.wrRW a v).applyWords a n
  if s.shaperOf x = j then s else s.updTmg (fun d => { d with credit := d.credit.put x c })

/-- The inner loop of `pick` (R320) over the children of one priority: `hl` answers the head length of an eligible child and what
finding it changed; `quantum` the QUANTUM of a child. Without a QUANTUM above 0 the loop never ends and nothing is served: the
fuel bounds it. -/
def drrLoop (kids : List Nat) (elig : Nat → Bool) (hl : State → Nat → State × Nat) (quantum : Nat → Nat) (slot : Nat) :
    Nat → State → State × Option Nat
  | 0, s => (s, none)
  | n + 1, s =>
    let x := s.tmg.cur.look slot
    let r := if kids.contains x && elig x then hl s x else (s, 0)
    let s := r.1
    if kids.contains x && elig x && decide ((r.2 : Int) ≤ s.tmg.deficits.look x) then (s, some x)
    else
      let y := nextKid kids x
      let s := s.updTmg (fun d => { d with cur := d.cur.put slot y, deficits := d.deficits.upd y (fun v => v + (quantum y : Nat)) })
      drrLoop kids elig hl quantum slot n s

/-- `pick` (R320): strict priority, deficit round robin within a priority. -/
def pickNode (kids : List Nat) (pri : Nat → Nat) (elig : Nat → Bool) (hl : State → Nat → State × Nat) (quantum : Nat → Nat)
    (node : Nat) (s : State) : State × Option Nat :=
  match findFrom (fun p => kids.any (fun k => decide (pri k = p) && elig k)) 4 0 with
  | none => (s, none)
  | some p =>
    let l := kids.filter (fun k => decide (pri k = p))
    drrLoop l elig hl quantum (4 * node + p) (l.length * 10242 + 1) s

/-- The length of a queue's head frame. -/
def State.headLen (s : State) (q : Nat) : Nat := ((s.queue q).head?.map (·.len)).getD 0

/-- `pick` among queues: of a group, or of an uplink port. -/
def State.pickQueue (s : State) (node : Nat) (l : List Nat) : State × Option Nat :=
  pickNode l (fun q => s.g (TMG_Q q) TMG_Q_PRI) s.queueElig (fun t q => (t, t.headLen q))
    (fun q => s.g (fkey (TMG_Q q)) TMG_Q_QUANTUM) node s

/-- `pick` at a channel: the group, then its queue. -/
def State.pickChannel (s : State) (c : Nat) : State × Option (Nat × Nat) :=
  let kids := (List.range 256).map (grpKid c)
  let inner := fun (t : State) (x : Nat) => t.pickQueue (x - 163840) (s.groupQueues c (x - grpKid c 0))
  let r := pickNode kids (fun x => s.g (TMG_GRP (x - 163840)) TMG_GRP_PRI) (fun x => s.groupElig c (x - grpKid c 0))
    (fun t x => let q := inner t x; (q.1, (q.2.map t.headLen).getD 0)) (fun x => s.g (fkey (TMG_GRP (x - 163840))) TMG_GRP_QUANTUM)
    (16384 + c) s
  match r.2 with
  | none => (r.1, none)
  | some x =>
    let q := inner r.1 x
    (q.1, q.2.map (fun y => (x, y)))

/-- A child after a departure of `l` bytes through it (R320, R321). -/
def State.kidLeft (s : State) (x l : Nat) (empty : Bool) : State :=
  (s.updTmg (fun d => { d with deficits := d.deficits.upd x (fun v => if empty then 0 else v - (l : Nat)) })).charge x l

/-- A copy departs from a queue (R320 to R322). -/
def State.departQueue (s : State) (q : Nat) (grp : Option Nat) : State × Option QFrame :=
  match s.queue q with
  | [] => (s, none)
  | f :: rest =>
    let s := (s.unqueue q (TMG_AUD_DEQUEUED q)).copyGone f.buf q
    let s := s.kidLeft q f.len rest.isEmpty
    let s := match grp with
      | some x => s.kidLeft x f.len (s.tmg.queues.all (fun e => decide (e.1 / 2048 ≠ q / 2048)
          || decide (s.g (TMG_Q e.1) TMG_Q_GROUP ≠ (x - 163840) % 256) || e.2.isEmpty))
      | none => s
    (s, some f)

end Sys2Proof.Machine
end

