-- ==== Sys2Proof/Machine/PonOps.lean ====
section
/-! DEFINITION. What the PON chapters (3 to 8) share: rates and units, mute causes, PLOAM queueing, the grant ledger, the
shed input queue, slot states, and a channel's start and close. -/
namespace Sys2Proof.Machine

/-- Upstream bits per 125 µs frame of a mode and US_RATE (R73); 0 where the mode has no supported upstream rate. -/
def bitsPerFrame (mode us : Nat) : Nat :=
  if mode = 1 then (if us = 0 then 3110400 else if us = 1 then 1555200 else 0)
  else if mode = 2 then 1244160 else if mode = 3 then 311040 else 0

/-- Bits per unit of StartTime, GrantSize and BufOcc (R536). -/
def unitBits (mode : Nat) : Nat := if mode = 1 then 128 else 32

/-- The largest StartTime (R536). -/
def maxStart (mode us : Nat) : Nat := bitsPerFrame mode us / unitBits mode - 1

/-- The expansion of the upstream FEC, numerator and denominator (R204). -/
def fecRatio (mode : Nat) (on : Bool) : Nat × Nat :=
  if !on then (1, 1) else if mode = 1 then (17280, 14592) else if mode = 2 then (248, 216) else (248, 232)

/-- Default and minimum preambles of R88: ranged default, unranged default, ranged minimum, unranged minimum. -/
def preTable (mode us : Nat) : Nat × Nat × Nat × Nat :=
  if mode = 1 && us = 0 then (796, 5120, 498, 4479)
  else if mode = 1 then (398, 2560, 249, 2240)
  else if mode = 2 then (320, 2048, 200, 1792)
  else (80, 512, 50, 448)

/-- A preamble field: 0 is the default, a value below the minimum acts as the minimum (R88). -/
def preField (v dflt mn : Nat) : Nat := if v = 0 then dflt else max v mn

/-- Ceiling division. -/
def cdiv (a b : Nat) : Nat := (a + b - 1) / b

/-- The state of a channel (R78). -/
def State.chState (s : State) (c : Nat) : Nat := s.g (PCH_STATUS c) PCH_STATUS_STATE

/-- Whether the safe state holds (R458). -/
def State.safe (s : State) : Bool := s.on TMP_SAFE TMP_SAFE_STATE

/-- Whether the PLLs coast (R476). -/
def State.coasting (s : State) : Bool := s.on CLK_STATUS CLK_STATUS_COAST

/-- Mute causes of a channel beside its own states (R90): LOL, transmit sleep, TXDIS_FORCE, the safe state and the Temple's
mute, clock coast, the coast hold, a protection mute, a transmit restart. -/
def State.muteCause (s : State) (c : Nat) : Bool :=
  let h := s.pch.look c
  s.on (PCH_DEFECT c) PCH_DEFECT_LOL_LIVE || s.on (PCH_STATUS c) PCH_STATUS_TX_ASLEEP
    || s.on (PCH_PIN_CTL c) PCH_PIN_CTL_TXDIS_FORCE || s.safe || s.tmp.mute || s.tmp.safePin
    || s.coasting || h.coastHold || h.protMute || h.txRestart

/-- CHn_TXDIS is asserted (R78, R90), whatever its polarity: in OFF and RETIRED, in STARTING until the PLL locks (and on in CLOSING where it
has not locked yet), and by every mute cause. -/
def State.txdis (s : State) (c : Nat) : Bool :=
  let st := s.chState c
  decide (st = 0) || decide (st = 4) || ((decide (st = 1) || decide (st = 3)) && !(s.pch.look c).txLocked) || s.muteCause c

/-- The level of CHn_TXDIS (R90): high disables the laser, unless TXDIS_POL = 1. -/
def State.txdisPin (s : State) (c : Nat) : Bool := s.txdis c != s.on (PCH_PIN_CTL c) PCH_PIN_CTL_TXDIS_POL

/-- Whether a blanking window covers LOS and LOL of a channel (R94, R464). -/
def Pch.blankDef (h : Pch) : Bool := h.blank || h.blankTx || h.permBlank

/-- One TXF error (R92): the second within 1 ms makes TXF due. -/
def State.txfError (s : State) (c : Nat) : State :=
  s.updPch c (fun h =>
    { h with txfDue := h.txfDue || (match h.txfLast with
        | some t => decide (s.now - t ≤ 1000000)
        | none => false), txfLast := some s.now })

/-- Queue a downstream PLOAM: refused with PLOAM_FULL when the 64 entries are taken (R112). -/
def State.ploamSend (s : State) (c : Nat) (m : Ploam) : State :=
  if (s.pch.look c).ploamQ.length < 64 then s.updPch c (fun h => { h with ploamQ := h.ploamQ ++ [m] })
  else s.ev (DSF_STATUS c) DSF_STATUS_PLOAM_FULL

/-- Send one PLOAM three times (R165, R173, R175). -/
def State.ploamSend3 (s : State) (c : Nat) (m : Ploam) : State :=
  ((s.ploamSend c m).ploamSend c m).ploamSend c m

/-- The state of a slot (R147). -/
def State.slotState (s : State) (c i : Nat) : Nat := s.g (RNG_ONU c i) RNG_ONU_STATE

/-- The serial number of a slot. -/
def State.slotSn (s : State) (c i : Nat) : BitVec 64 :=
  BitVec.ofNat 64 (s.g (RNG_ONU c i) RNG_ONU_SN_HI * 2 ^ 32 + s.g (RNG_ONU c i) RNG_ONU_SN_LO)

/-- The upstream rate a running channel applied. -/
def State.bpf (s : State) (c : Nat) : Nat := bitsPerFrame (s.pch.look c).mode (s.pch.look c).usRate

/-- A time in ns as upstream bits of a channel, rounded to the nearest bit. -/
def nsToBits (bpf ns : Nat) : Nat := (2 * ns * bpf + 125000) / 250000

-- ===== the grant ledger (R191) =====

/-- used(c): entries of channel c in state OPEN or FIXED. -/
def State.used (s : State) (c : Nat) : Nat :=
  (s.ledger.filter (fun e => decide (e.2.channel = c) && decide (e.2.state ≠ 0))).length

/-- shared_free of R191: below 0 where a RESERVE was raised over entries of the shared pool that others hold. -/
def State.sharedFree (s : State) : Int :=
  4096 - (((List.range 64).map (fun c => max (s.used c) (s.g (SHD_LEDGER_CTL c) SHD_LEDGER_CTL_RESERVE))).sum : Nat)

/-- The settings of a channel's ledger that a seal of this cycle uses: those before a write of the same cycle (R194). -/
def State.ledgerCtl (s : State) (c : Nat) : Word := (s.cyc.en.look (SHD_LEDGER_CTL c)).getD (s.rd (SHD_LEDGER_CTL c))

/-- avail of R191: what a seal of channel c may reserve; a LIMIT below RESERVE acts as RESERVE (R192). -/
def State.ledgerAvail (s : State) (c : Nat) : Nat :=
  let r := bget (s.ledgerCtl c) SHD_LEDGER_CTL_RESERVE.lo SHD_LEDGER_CTL_RESERVE.w
  let l := max (bget (s.ledgerCtl c) SHD_LEDGER_CTL_LIMIT.lo SHD_LEDGER_CTL_LIMIT.w) r
  min (l - s.used c) (((r - s.used c : Nat) : Int) + s.sharedFree).toNat

/-- The lowest FREE entry, among the 4,096. -/
def freeFrom : Nat → Nat → Tab LEntry → Nat
  | 0, i, _ => i
  | n + 1, i, t => if (t.look i).state = 0 then i else freeFrom n (i + 1) t

/-- TRIM of a grant (R186). -/
def Grant.trim (g : Grant) : Nat := bget g.w0 16 2

/-- The registers that count closures, by outcome (R191 count). -/
def outcomeCounter (c o : Nat) : Nat :=
  if o = 0 then SHD_LEDGER_RECEIVED c else if o = 1 then SHD_LEDGER_ABSENT c
  else if o = 2 then SHD_LEDGER_ERRORED c else SHD_LEDGER_DISCARDED c

/-- The 16-byte grant record, from the sealed grant words and the close entry's DBRU, IDLE and BYTES (R412, R421). -/
def grantRecord (e : LEntry) : List Word :=
  [word (e.channel * 2 ^ 26 + e.outcome * 2 ^ 24 + e.closeW.1 % 8 * 2 ^ 21 + e.grant.trim * 2 ^ 19 + e.allocId),
   word e.frame, e.grant.w1, if e.outcome = 0 then e.closeW.2 else 0]

/-- Close one entry: count its outcome, emit the grant record, free it (R191). -/
def State.closeEntry (s : State) (i : Nat) : State :=
  let e := s.ledger.look i
  let s := s.inc (lkey (outcomeCounter e.channel e.outcome))
  let s := s.boltProduce 4 (grantRecord e)
  { s with ledger := s.ledger.put i { e with state := 0 } }

/-- Fix the outcome of an entry at its window end, with the 16 µs deadline (R191). -/
def State.fixEntry (s : State) (i o : Nat) (cw : Nat × Word) : State :=
  { s with ledger := s.ledger.upd i (fun e => { e with state := 2, outcome := o, deadline := s.now + 16000, closeW := cw }) }

-- ===== the book-keeping queue (R138) =====

/-- Post a close entry: dropped only when no entry is free. -/
def State.postClose (s : State) (c : Nat) (w0 w1 : Word) : State :=
  if (s.pch.look c).bkq.length < 1024 then s.updPch c (fun h => { h with bkq := h.bkq ++ [[w0, w1]] })
  else (s.inc (BRX_CLOSE_DROP c)).ev (PCH_BRX_STATUS c) PCH_BRX_STATUS_MEAS_DROP

/-- Post a measurement descriptor: only if at least 128 entries stay free after it (R138). -/
def State.postMeas (s : State) (c : Nat) (d : List Word) : State :=
  if (s.pch.look c).bkq.length + 1 + 128 ≤ 1024 then s.updPch c (fun h => { h with bkq := h.bkq ++ [d] })
  else ((s.inc (BRX_MEAS_DROP c)).ev (PCH_BRX_STATUS c) PCH_BRX_STATUS_MEAS_DROP).boltLost 3

-- ===== the shed input queue (R183, R184) =====

/-- Keep DEPTH and HIGH_WATER with the queue. -/
def State.inqSync (s : State) (c : Nat) : State :=
  let n := (s.shd.look c).inq.length
  let s := s.p (SHD_INQ_STATUS c) SHD_INQ_STATUS_DEPTH n
  if s.g (SHD_INQ_STATUS c) SHD_INQ_STATUS_HIGH_WATER < n then s.p (SHD_INQ_STATUS c) SHD_INQ_STATUS_HIGH_WATER n
  else s

/-- Write an entry; the answer says whether the queue took it. -/
def State.inqPush (s : State) (c : Nat) (e : InEntry) : State × Bool :=
  if (s.shd.look c).inq.length < 2048 then
    ((s.updShd c (fun h => { h with inq := h.inq ++ [e] })).inqSync c, true)
  else (s, false)

/-- Write a REPORT, IDLE or ABSENT entry, counting it in `stat`, or drop it and count INQ_DROP (R184). -/
def State.inqObs (s : State) (c : Nat) (e : InEntry) (stat : Nat) : State :=
  let r := s.inqPush c e
  if r.2 then r.1.inc stat else (s.inc (SHD_INQ_DROP c)).ev (SHD_STATUS c) SHD_STATUS_INQ_DROP

/-- Flush the queue, counting what is lost in INQ_FLUSH (R196). -/
def State.inqFlush (s : State) (c : Nat) : State :=
  let n := (s.shd.look c).inq.length
  ((s.updShd c (fun h => { h with inq := [] })).inqSync c).add (SHD_INQ_FLUSH c) n

-- ===== grants and map buffers =====

def Grant.frame8 (g : Grant) : Nat := bget g.w0 24 8
def Grant.prof (g : Grant) : Nat := bget g.w0 22 2
def Grant.profOvr (g : Grant) : Bool := decide (bget g.w0 21 1 = 1)
def Grant.dbru (g : Grant) : Bool := decide (bget g.w0 20 1 = 1)
def Grant.ploamu (g : Grant) : Bool := decide (bget g.w0 19 1 = 1)
def Grant.allocId (g : Grant) : Nat := bget g.w0 0 14
def Grant.start (g : Grant) : Nat := bget g.w1 16 16
def Grant.size (g : Grant) : Nat := bget g.w1 0 16
def Grant.bcast (g : Grant) : Bool := decide (bget g.w2 9 1 = 1)
def Grant.entry (g : Grant) : Nat := bget g.w2 0 9

/-- The slot of a grant: the allocation entry's SLOT, 256 for the broadcast Alloc-ID. -/
def State.grantSlot (s : State) (c : Nat) (g : Grant) : Nat :=
  if g.bcast then 256 else s.g (SHD_ALLOC c g.entry) SHD_ALLOC_SLOT

/-- Discard the grants of the open buffers, counted in `stat` (R109, R196). -/
def State.dropMaps (s : State) (c : Nat) (stat : Nat) : State :=
  let h := s.pch.look c
  (s.updPch c (fun h => { h with buf0 := [], buf1 := [] })).add stat (h.buf0.length + h.buf1.length)

/-- The fragment that waits for the next burst of an Alloc-ID is discarded and counted (R136). -/
def State.fragDrop (s : State) (c a : Nat) : State :=
  s.when ((s.pch.look c).frags.look a).isSome (fun s =>
    (s.updPch c (fun h => { h with frags := h.frags.put a none })).inc (BRX_FRAG_LOST c))

/-- The descriptor of a grant that has no measurement (R137, R139): ABSENT or DISCARDED. Beside the outcome, word 0 carries what the window
had set before any burst: CLIPPED, STALE_PRELOAD and FEC_OFF (assumption 71). -/
def Win.bare (w : Win) (g : Nat × Grant) (o : Nat) : List Word :=
  [word (g.1 * 2 ^ 20 + o * 2 ^ 18 + w.entry * 2 ^ 9 + b2n w.clipped * 128 + b2n w.stale * 64 + b2n (!w.fec) * 4),
   word (g.2.allocId * 2 ^ 18 + w.frame % 2 ^ 18), 0x8003FF00, 0x80000000, 0, 0, 0xFFFFFFFF, 0x01000000]

/-- DBRU of a close entry whose grant released nothing (R140): failed where one was requested. -/
def Grant.dbruLost (g : Grant) : Nat := if g.dbru then 2 else 0

/-- Close every grant whose window is open or not yet open DISCARDED (R130). -/
def State.discardWins (s : State) (c : Nat) : State :=
  let h := s.pch.look c
  let s := h.wins.foldl (fun s w => w.grants.foldl (fun s g =>
    let d := g.2.dbruLost
    let s := s.fixEntry g.1 3 (d * 2, 0)
    let s := s.fragDrop c g.2.allocId
    let w0 := word (g.1 * 2 ^ 20 + 3 * 2 ^ 18 + d * 2 ^ 16 + g.2.allocId)
    (s.postClose c w0 0).postMeas c (w.bare g 3)) s) s
  s.updPch c (fun h => { h with wins := [] })

-- ===== dark and lit frames (R93) =====

/-- Judge the frames whose windows have all ended, oldest first: one with energy is lit, one without is dark. A window belongs to the
frame in which it opened (assumption 73). -/
def Pch.settle (open_ : Nat → Bool) : List (Nat × Bool) → Pch → Pch
  | [], h => { h with verdicts := [] }
  | (f, e) :: t, h =>
    if e then Pch.settle open_ t { h with lit := h.lit + 1, dark := 0 }
    else if open_ f then { h with verdicts := (f, e) :: t }
    else Pch.settle open_ t { h with dark := h.dark + 1, lit := 0 }

/-- Whether a window that opened in frame `f` has not ended yet. -/
def Pch.openFrom (h : Pch) (f : Nat) : Bool := h.wins.any (fun w => w.opened && decide (w.openIn = f))

/-- The frame `f` on the wire ends: one in which a window opened waits for its verdict. -/
def Pch.frameEnd (h : Pch) (f : Nat) : Pch :=
  let v := if h.sawWindow then h.verdicts ++ [(f, h.sawEnergy)] else h.verdicts
  Pch.settle h.openFrom v { h with sawWindow := false, sawEnergy := false }

/-- A window that opened in frame `f` has ended, while frame `n` is on the wire; `e`: it saw energy. -/
def Pch.windowOver (h : Pch) (n f : Nat) (e : Bool) : Pch :=
  let h := if f = n then { h with sawEnergy := h.sawEnergy || e } else h
  Pch.settle h.openFrom (h.verdicts.map (fun v => if v.1 = f then (v.1, v.2 || e) else v)) h

/-- The energy threshold in force (R162): LOS_THRESH, raised by UT_ENERGY_ADD while an undertone or re-ranging window is open. -/
def State.energyThresh (s : State) (c : Nat) : Nat :=
  s.g (PCH_LOS_CTL c) PCH_LOS_CTL_LOS_THRESH + (if s.on (RNG_STATUS c) RNG_STATUS_UT_ACTIVE then s.g (RNG_UT c) RNG_UT_UT_ENERGY_ADD else 0)

-- ===== per-ONU defects: clearing =====

/-- Clear a raised per-ONU defect, with its event bit set (R142). -/
def State.onuClear (s : State) (c i : Nat) (live evt : Fld) : State :=
  if s.on (PCH_ONU_DEF c i) live then
    let s := ((s.p (PCH_ONU_DEF c i) live 0).ev (PCH_ONU_DEF c i) evt).boltEvent 0x02 2 (c * 256 + i) (32 + c) [evt.lo]
    s.sumUpd c i (fun x => { x with cleared := setBit x.cleared evt.lo true })
  else s

/-- Clear every per-ONU defect of a slot and restart every count (R142). -/
def State.onuClearAll (s : State) (c i : Nat) : State :=
  let s := s.onuClear c i PCH_ONU_DEF_LOB_LIVE PCH_ONU_DEF_LOB
  let s := s.onuClear c i PCH_ONU_DEF_LODS_LIVE PCH_ONU_DEF_LODS
  let s := s.onuClear c i PCH_ONU_DEF_DG_LIVE PCH_ONU_DEF_DG
  let s := s.onuClear c i PCH_ONU_DEF_DRIFT_LIVE PCH_ONU_DEF_DRIFT
  let s := s.onuClear c i PCH_ONU_DEF_ROGUE_LIVE PCH_ONU_DEF_ROGUE
  s.updSlot c i (fun h => { h with absRun := 0, dgRun := 0, driftHi := 0, driftLo := 0, rogueAt := [], pendRaise := 0, lastRecv := false, lobEnd := none })

-- ===== allocation table =====

/-- RF + RA of an entry. -/
def State.guarOf (s : State) (c a : Nat) : Nat :=
  s.g (SHD_ALLOC c a) SHD_ALLOC_RF + s.g (SHD_ALLOC c a) SHD_ALLOC_RA

/-- Clear VALID of an allocation entry and take it out of GUAR_SUM (R180, R182). -/
def State.allocOff (s : State) (c a : Nat) : State :=
  if s.on (SHD_ALLOC c a) SHD_ALLOC_VALID then
    let s := s.p (SHD_GUAR_SUM c) SHD_GUAR_SUM_GUAR_SUM (s.g (SHD_GUAR_SUM c) SHD_GUAR_SUM_GUAR_SUM - s.guarOf c a)
    s.p (SHD_ALLOC c a) SHD_ALLOC_VALID 0
  else s

/-- The upstream bytes per frame that GUAR_LIMIT = 0 stands for: 80 % at the rate PCH[c]_CTL selects as written (R193). -/
def State.guarLimit (s : State) (c : Nat) : Nat :=
  let l := s.g (SHD_GUAR c) SHD_GUAR_GUAR_LIMIT
  if l ≠ 0 then l else
    let b := bitsPerFrame (s.g (PCH_CTL c) PCH_CTL_MODE) (s.g (PCH_CTL c) PCH_CTL_US_RATE)
    if b = 0 then 311040 else b / 8 * 4 / 5

/-- SLOT_VALID_SET (R180): VALID of a default allocation, never refused; its RF + RA adds to GUAR_SUM, GUAR_OVER past the
limit. -/
def State.slotValidSet (s : State) (c a : Nat) : State :=
  if s.on (SHD_ALLOC c a) SHD_ALLOC_VALID then s
  else
    let n := s.g (SHD_GUAR_SUM c) SHD_GUAR_SUM_GUAR_SUM + s.guarOf c a
    let s := s.updShd c (fun h => { h with allocs := h.allocs.put a default })
    let s := (s.p (SHD_ALLOC c a) SHD_ALLOC_VALID 1).p (SHD_GUAR_SUM c) SHD_GUAR_SUM_GUAR_SUM n
    if s.guarLimit c < n then s.ev (SHD_STATUS c) SHD_STATUS_GUAR_OVER else s

/-- The correlator's peak slot of a re-ranging ONU is free again (R168). -/
def State.rerangeFree (s : State) (c i : Nat) : State :=
  if (s.slot c i).rerangeUt then
    let s := s.updRng c (fun r => { r with reranging := r.reranging - 1 })
    let s := s.updSlot c i (fun h => { h with rerangeUt := false })
    s.p (RNG_STATUS c) RNG_STATUS_UT_ACTIVE (b2n ((s.rng.look c).utOpen || decide ((s.rng.look c).reranging ≠ 0)))
  else s

/-- No discovery, re-ranging or locate window is open on a channel that starts: each belongs to an ACTIVE channel. -/
def State.rngRestart (s : State) (c : Nat) : State :=
  let s := ((s.p (RNG_STATUS c) RNG_STATUS_QW_ACTIVE 0).p (RNG_STATUS c) RNG_STATUS_UT_ACTIVE 0).p (RNG_STATUS c) RNG_STATUS_LOCATING 0
  s.updRng c (fun r => { (default : Rng) with pResp := r.pResp, qwDue := r.qwDue })

/-- A booked quiet window whose frame is sealed without its grant, trimmed, muted or abandoned, is over (R154). -/
def State.qwCheck (s : State) (c : Nat) : State :=
  let r := s.rng.look c
  s.when (r.qwBooked && decide (r.qwFrame < (s.pch.look c).openLo) && !(s.pch.look c).wins.any (fun w => w.disc)) (fun s =>
    (s.p (RNG_STATUS c) RNG_STATUS_QW_ACTIVE 0).updRng c (fun r => { r with qwBooked := false }))

/-- A PLOAM that goes in consecutive frames is queued again for the next (R175). -/
def State.ploamAgain (s : State) (c : Nat) : State :=
  let l := (s.rng.look c).again
  let s := s.updRng c (fun r => { r with again := (l.filter (fun e => decide (1 < e.1))).map (fun e => (e.1 - 1, e.2)) })
  l.foldl (fun s e => s.ploamSend c e.2) s

/-- A host port or a shuttle writes equaliser entry `i`: a burst of the entry in progress is not written back (R85). -/
def State.eqTouch (s : State) (c i : Nat) : State :=
  s.updPch c (fun h => { h with wins := h.wins.map (fun x => if x.opened && decide (x.entry = i) then { x with noWriteBack := true } else x) })

/-- SLOT_TO_EMPTY (R149, R182, R142): the slot's default allocation and every further allocation of it lose VALID, its
defects clear, its equaliser entry loses VALID, and its exchanges end. -/
def State.slotEmpty (s : State) (c i : Nat) : State :=
  let s := (s.p (RNG_ONU c i) RNG_ONU_STATE 0).rerangeFree c i
  let s := s.allocOff c i
  let mine := ((s.keysIn (SHD_ALLOC c 256) (SHD_ALLOC c 512)).map (fun k => (k - SHD_ALLOC c 0) / 16)).eraseDups.filter (fun a =>
    s.on (SHD_ALLOC c a) SHD_ALLOC_VALID && decide (s.g (SHD_ALLOC c a) SHD_ALLOC_SLOT = i))
  let s := mine.foldl (fun s a => s.allocOff c a) s
  let s := s.when (!mine.isEmpty) (fun s => s.ev (SHD_STATUS c) SHD_STATUS_ALLOC_ORPHANED)
  let s := s.onuClearAll c i
  let s := (s.p (PCH_EQ c i) PCH_EQ_VALID 0).eqTouch c i
  let s := ((s.p (RNG_ONU c i) RNG_ONU_PENDING 0).p (RNG_ONU c i) RNG_ONU_VIDAN_CAP 0).p (RNG_ONU c i) RNG_ONU_SEALED_CAP 0
  let s := ((s.wr (RNG_ONU c i + 8) 0).wr (RNG_ONU c i + 12) 0).p (RNG_ONU c i) RNG_ONU_EQD 0
  let s := s.sumUpd c i (fun x => { x with partial_ := true })
  { s with slots := s.slots.put (256 * c + i) default }

-- ===== start and close of a channel =====

/-- The region (cluster) of a channel: the one the draft in force threads it to, less 1; 0 means not threaded. -/
def State.threaded (s : State) (c : Nat) : Bool := decide (s.drf.chThread.look c ≠ 0)

/-- Whether the channel's region is being rewoven (R269). -/
def State.inReweave (s : State) (c : Nat) : Bool :=
  match s.drf.reweave with
  | some k => decide (s.drf.chThread.look c = k + 1) || decide (c / 4 = k)
  | none => false

/-- The other channel of a coexistence pair (R14). -/
def mate (c : Nat) : Nat := if c % 2 = 0 then c + 1 else c - 1

/-- PAIR and MODE of the mate as R75 takes them. -/
def State.matePair (s : State) (c : Nat) : Bool × Nat :=
  let m := mate c
  let st := s.chState m
  if st = 1 || st = 2 || st = 3 then ((s.pch.look m).pair, (s.pch.look m).mode)
  else (s.on (PCH_CTL m) PCH_CTL_PAIR, s.g (PCH_CTL m) PCH_CTL_MODE)

/-- The mode a channel of a pair must have (R75). -/
def pairMode (c : Nat) : Nat := if c % 2 = 0 then 1 else 2

/-- The first start check that fails, in table order from 0x1; 0 when the channel starts (R79). -/
def State.startCheck (s : State) (c : Nat) : Nat :=
  let mode := s.g (PCH_CTL c) PCH_CTL_MODE
  let pr := s.on (PCH_CTL c) PCH_CTL_PAIR
  let m := s.matePair c
  if !(decide (mode = 1) || decide (mode = 2) || decide (mode = 3)) then 1
  else if mode = 1 && decide (2 ≤ s.g (PCH_CTL c) PCH_CTL_US_RATE) then 2
  else if pr != m.1 || (pr && (decide (mode ≠ pairMode c) || decide (m.2 ≠ pairMode (mate c)))) then 3
  else if s.on CLK_STATUS CLK_STATUS_REF_UNVERIFIED && !s.on (PCH_CTL c) PCH_CTL_REF_OVR then 4
  else if s.coasting then 5
  else if !s.threaded c then 6
  else if mode = 1 && !s.on (PCH_BRX_CTL c) PCH_BRX_CTL_LINEAR then 8
  else 0

/-- Whether an intra-device pair keeps a channel as its muted side (R515): PROT while WORK serves, WORK after a switch. -/
def State.iprotHold (s : State) (c : Nat) : Bool :=
  (List.range 16).any (fun j =>
    let a := SLV_IPROT j
    s.on a SLV_IPROT_EN && decide (s.g a (if s.on a SLV_IPROT_ON_PROT then SLV_IPROT_WORK else SLV_IPROT_PROT) = c))

/-- Whether protection holds a channel: role LISTEN or STANDBY with the channel protected (R507), or the muted side of an
intra-device pair. -/
def State.protHolds (s : State) (c : Nat) : Bool :=
  let st := s.g SLV_PROT_STATUS SLV_PROT_STATUS_STATE
  ((decide (st = 1) || decide (st = 2)) && bit s.slv.protMask c) || s.iprotHold c

/-- A host write to a table of a held channel is dropped (R508). -/
def State.heldDrop (s : State) (ag : Agent) (c : Nat) (k : State → State) : State :=
  if (s.pch.look c).protHeld && decide (agCode ag ≤ 1) then s.ev SLV_PROT_STATUS SLV_PROT_STATUS_PROT_WR_DROP else k s

/-- Write one burst profile entry and announce it (R190). The delimiter is the shuttle's choice: a free value. -/
def State.writeProf (s : State) (c p pre : Nat) : State :=
  let d0 := s.draw
  let d1 := d0.2.draw
  let w0 : Word := word (2 ^ 31 + 2 ^ 30 + 2 ^ 29 + pre)
  let s := (((d1.2.wr (PCH_BRX_PROF c p) w0).wr (PCH_BRX_PROF c p + 8) d0.1).wr (PCH_BRX_PROF c p + 12) d1.1)
  s.ploamSend c (.burstProfile p w0 (BitVec.ofNat 64 (d0.1.toNat * 2 ^ 32 + d1.1.toNat)))

/-- What a channel reads only at its way from OFF to STARTING (R80, R102, R103, R150): MODE, US_RATE, PAIR, FREE_ALIGN, the alignment
offset (of C(2k) in a pair; beside a mate that is not OFF or RETIRED, the mate's own) and Teqd. -/
def State.readSettings (s : State) (c : Nat) : State :=
  let pr := s.on (PCH_CTL c) PCH_CTL_PAIR
  let m := s.chState (mate c)
  let off := if pr && (m = 1 || m = 2 || m = 3) then (s.pch.look (mate c)).offset
    else s.g (DSF_TOD_OFFSET (if pr then 2 * (c / 2) else c)) DSF_TOD_OFFSET_OFFSET_NS % 125000
  s.updPch c (fun h =>
    { h with mode := s.g (PCH_CTL c) PCH_CTL_MODE, usRate := s.g (PCH_CTL c) PCH_CTL_US_RATE, pair := pr,
             freeAlign := s.on (DSF_CTL c) DSF_CTL_FREE_ALIGN && !pr, offset := off,
             teqd := clampN 100000 600000 (s.g (RNG_TEQD c) RNG_TEQD_TEQD_NS) })

/-- ToD on a channel stops (R105, R386). -/
def State.todDrop (s : State) (c : Nat) : State := s.p (TIM_TOD c) TIM_TOD_VALID 0

/-- Entry to STARTING with the settings read (R78, R94, R102, R112, R172, R190, R343, R507): every equaliser entry loses VALID, every slot
takes profile 1, the PLOAM queue empties, the blanking windows open, and nothing is aligned or sent yet. -/
def State.startChannel (s : State) (c : Nat) : State :=
  let mode := (s.pch.look c).mode
  let hold := s.protHolds c
  let s := s.updPch c (fun h =>
    { h with enPending := false, txLocked := false, running := false, framesSent := 0, closeWait := 0, cur := default, carry := none,
             blank := true, lolBlank := true, tribBlank := true, ploamQ := [], ploamTx := [], sealed := [], lastEnd := 0,
             protHeld := hold, protMute := hold })
  let s := (((s.p (PCH_STATUS c) PCH_STATUS_STATE 1).p (DSF_STATUS c) DSF_STATUS_ALIGNED 0).todDrop c).rngRestart c
  let s := s.overRegs (PCH_EQ c 0) (PCH_EQ c 261) (fun a s => if (a - PCH_EQ c 0) % 32 = 0 then s.wr a (bset (s.rd a) 31 1 0) else s)
  let s := s.overRegs (RNG_ONU c 0) (RNG_ONU c 256) (fun a s => if (a - RNG_ONU c 0) % 16 = 0 then s.wr a (bset (s.rd a) 24 2 1) else s)
  let t := preTable mode (s.pch.look c).usRate
  let s := s.writeProf c 0 (preField (s.g (PCH_BRX_PRE c) PCH_BRX_PRE_PRE_RANGED) t.1 t.2.2.1)
  s.writeProf c 1 (preField (s.g (PCH_BRX_PRE c) PCH_BRX_PRE_PRE_UNRANGED) t.2.1 t.2.2.2)

/-- Both directions are awake: a sleep setting applies again on the next entry to ACTIVE (R95). -/
def State.sleepReset (s : State) (c : Nat) : State :=
  ((s.p (PCH_STATUS c) PCH_STATUS_TX_ASLEEP 0).p (PCH_STATUS c) PCH_STATUS_RX_ASLEEP 0).updPch c
    (fun h => { h with waking := false, rxStop := false })

/-- An attempt to start an OFF channel (R79). -/
def State.tryStart (s : State) (c : Nat) : State :=
  let e := s.startCheck c
  let s := s.p (PCH_STATUS c) PCH_STATUS_CFG_ERR e
  if e = 0 then (s.readSettings c).startChannel c else s.ev (PCH_DEFECT c) PCH_DEFECT_CFG_ERR_EVT

/-- Clear a raised channel defect, with its event bit set and its record in the Bolt (R92, R423). -/
def State.chClear (s : State) (c : Nat) (live evt : Fld) : State :=
  if s.on (PCH_DEFECT c) live then
    (((s.p (PCH_DEFECT c) live 0).ev (PCH_DEFECT c) evt).boltEvent 0x02 1 c (32 + c) [evt.lo]).chBytes c (108 + live.lo) 1
  else s

/-- Raise a per-ONU defect (R142, R144): with its event bit, its record in the Bolt and its mark in the second's summary. A
raise in a blanking window is only counted; after the window it waits for the ONU's next grant. -/
def State.onuRaise (s : State) (c i : Nat) (blanked : Bool) (live evt : Fld) : State × Bool :=
  if s.on (PCH_ONU_DEF c i) live then (s, false)
  else if bit (s.slot c i).pendRaise evt.lo then (s, false)
  else if blanked then ((s.inc (PCH_BLANKED c)).updSlot c i (fun h => { h with pendRaise := setBit h.pendRaise evt.lo true }), false)
  else
    let s := ((s.p (PCH_ONU_DEF c i) live 1).ev (PCH_ONU_DEF c i) evt).boltEvent 0x01 2 (c * 256 + i) (32 + c) [evt.lo]
    (s.sumUpd c i (fun x => { x with raised := setBit x.raised evt.lo true }), true)

/-- Clear the hint table of a channel (R219). -/
def State.clearHints (s : State) (c : Nat) : State := s.updShd c (fun h => { h with hints := [] })

/-- A channel leaves service in the cycle of an admission for it: the copy is refused (R328). It takes the newest copy of queue `q` back. -/
def State.unadmit (s : State) (q : Nat) : State :=
  match (s.queue q).getLast? with
  | none => s
  | some f =>
    let s := (s.updTmg (fun d => { d with queues := d.queues.upd q (·.dropLast) })).copyDropped f.buf q
    let s := (s.wr64 (lkey (TMG_AUD_ENQUEUED q)) (s.rd64 (lkey (TMG_AUD_ENQUEUED q)) - 1)).wr64 (lkey (TMG_AUD_RESIDENT q))
      (s.rd64 (lkey (TMG_AUD_RESIDENT q)) - 1)
    (s.inc TMG_CLOSED).inc (lkey (TMG_AUD_REF q))

/-- Every copy admitted for a channel in this cycle is taken back. -/
def State.unadmitAll (s : State) (c : Nat) : State :=
  let mine := fun (q : Nat) => decide (q < upBase) && decide (q / 2048 = c)
  let s := (s.cyc.enq.filter mine).foldl (fun s q => s.unadmit q) s
  s.updCyc (fun d => { d with enq := d.enq.filter (fun q => !mine q) })

/-- Entry to CLOSING (R81, R109, R219, R323, R538): the grants of frames not yet sealed are abandoned, the coast hold ends,
the queues flush at once when DISABLE_MODE is 1. -/
def State.closeChannel (s : State) (c : Nat) : State :=
  let s := (s.unadmitAll c).p (PCH_STATUS c) PCH_STATUS_STATE 3
  let f := s.rd64 (DSF_SFC c)
  let w := if (s.pch.look c).running then ((s.pch.look c).openLo + 2 ^ 51 - f) % 2 ^ 51 else 0
  let s := s.updPch c (fun h => { h with coastHold := false, enPending := false, lolBlank := false, closeWait := w })
  let s := (s.dropMaps c (SHD_ABANDONED c)).clearHints c
  if s.on (PCH_CTL c) PCH_CTL_DISABLE_MODE then s.flushChannel c else s

/-- A channel acts as if ENABLE were written 0 (R81, R266, R502). -/
def State.actDisable (s : State) (c : Nat) : State :=
  if s.chState c = 1 || s.chState c = 2 then s.closeChannel c else s

/-- Retirement of a channel (R78, R453): RETIRED, open grants DISCARDED, queues flushed, every later defect blanked. -/
def State.retireChannel (s : State) (c : Nat) : State :=
  let s := (s.unadmitAll c).p (PCH_STATUS c) PCH_STATUS_STATE 4
  let s := ((s.discardWins c).dropMaps c (SHD_ABANDONED c)).inqFlush c
  let s := ((s.flushChannel c).clearHints c).sleepReset c
  s.updPch c (fun h => { h with coastHold := false, enPending := false, permBlank := true, running := false, protHeld := false })

/-- The shed holds no report and no placement, and asks every reporting allocation for a DBRu from
the first frame on (R198). -/
def State.shedRestart (s : State) (c : Nat) : State :=
  s.updShd c (fun h => { h with allocs := [], placings := [], bookings := [], spans := [], hintEntries := [], starting := true, startNext := 0, sliceNext := 0, halted := false })

/-- Sleep of the transmit direction (R95): refused while a slot is neither EMPTY nor ISOLATED, unless FORCE_TX. The superframe
counter keeps running (R118). -/
def State.txSleep (s : State) (c : Nat) : State :=
  let busy := (s.keysIn (RNG_ONU c 0) (RNG_ONU c 256)).any (fun a =>
    decide ((a - RNG_ONU c 0) % 16 = 0) && !(decide (bget (s.rd a) 29 3 = 0) || decide (bget (s.rd a) 29 3 = 5)))
  if busy && !s.on (PCH_SLEEP c) PCH_SLEEP_FORCE_TX then s.p (PCH_STATUS c) PCH_STATUS_SLEEP_REFUSED 1
  else
    let s := (s.p (PCH_STATUS c) PCH_STATUS_SLEEP_REFUSED 0).p (PCH_STATUS c) PCH_STATUS_TX_ASLEEP 1
    s.updPch c (fun h => { h with txLocked := false, waking := false })

/-- Receive sleep (R95, R109): no grant is sealed from the next seal; the grants of unsealed frames are abandoned. -/
def State.rxSleep (s : State) (c : Nat) : State :=
  (s.dropMaps c (SHD_ABANDONED c)).updPch c (fun h => { h with rxStop := true })

/-- Entry to ACTIVE (R78, R198): a sleep stored outside ACTIVE applies (R95). -/
def State.enterActive (s : State) (c : Nat) : State :=
  let s := (s.p (PCH_STATUS c) PCH_STATUS_STATE 2).shedRestart c
  let s := s.when (s.on (PCH_SLEEP c) PCH_SLEEP_TX_SLEEP) (fun s => s.txSleep c)
  s.when (s.on (PCH_SLEEP c) PCH_SLEEP_RX_SLEEP) (fun s => s.rxSleep c)

-- ===== bookings of the ranging/PLOAM shuttle =====

/-- A BOOK entry of the shed input queue (R183): a grant of an allocation entry, or of the broadcast Alloc-ID, in `frame`,
that asks for an upstream PLOAM, with `before` and `after` the spans kept free of other bursts, in 100 ns. A refused write
is retried at the next seal (R184). Where in the frame the grant starts is the shuttle's choice: a free value. -/
def State.book (s : State) (c : Nat) (bcast : Bool) (i frame before after : Nat) : State :=
  let d := s.drawNat
  let h := s.pch.look c
  let start := d.1 % (maxStart h.mode h.usRate + 1)
  let id := if bcast then 1023 else s.g (SHD_ALLOC c i) SHD_ALLOC_ALLOC_ID
  let e : InEntry :=
    ⟨word (3 * 2 ^ 29 + 2 ^ 27 + 2 ^ 26 + (if bcast then 2 ^ 16 else i * 2 ^ 17) + id), word frame, word (start * 2 ^ 16),
     word (min before 0xFFFF * 2 ^ 16 + min after 0xFFFF)⟩
  let r := d.2.inqPush c e
  if r.2 then r.1 else d.2.updRng c (fun q => { q with retry := q.retry ++ [(e.w0, e.w1, e.w2, e.w3)] })

/-- ELIG of an entry; 3 acts as 0. -/
def eligOf (n : Nat) : Nat := if n = 3 then 0 else n

-- ===== the settings in force (R181, R219) =====

/-- The registers of a channel whose writes the shed takes at its next slice boundary: POLICY, TIMING, TUNE, ALLOC, ALLOC_POL. -/
def shedReg (c a : Nat) : Bool :=
  (decide (SHD_POLICY c ≤ a) && decide (a < SHD_POLICY c + 12)) || (decide (SHD_ALLOC c 0 ≤ a) && decide (a < SHD_ALLOC c 512))
    || (decide (SHD_ALLOC_POL c 0 ≤ a) && decide (a < SHD_ALLOC_POL c 512))

/-- A slice boundary puts the written settings in force (R181, R219). -/
def State.shedLatch (s : State) (c : Nat) : State :=
  let new := (s.regs.filter (fun e => shedReg c e.1)).map (fun e => (fkey e.1, e.2))
  new.foldl (fun (s : State) e => s.wr e.1 e.2) { s with regs := Tab.drop s.regs (fun a => decide (fkey 0 ≤ a) && shedReg c (a - fkey 0)) }

/-- A field of allocation entry a as the shed uses it. -/
def State.al (s : State) (c a : Nat) (f : Fld) : Nat := s.g (fkey (SHD_ALLOC c a)) f

/-- A field of ALLOC_POL[a], POLICY, TIMING and TUNE as the shed uses it. -/
def State.alPol (s : State) (c a : Nat) (f : Fld) : Nat := s.g (fkey (SHD_ALLOC_POL c a)) f
def State.policy (s : State) (c : Nat) (f : Fld) : Nat := s.g (fkey (SHD_POLICY c)) f
def State.timing (s : State) (c : Nat) (f : Fld) : Nat := s.g (fkey (SHD_TIMING c)) f
def State.tune (s : State) (c : Nat) (f : Fld) : Nat := s.g (fkey (SHD_TUNE c)) f

/-- RF + RA of an entry, as the shed uses it. -/
def State.guarNow (s : State) (c a : Nat) : Nat := s.al c a SHD_ALLOC_RF + s.al c a SHD_ALLOC_RA

/-- RM of an allocation; with ELIG 0 it acts as RF + RA (R177). -/
def State.rmOf (s : State) (c a : Nat) : Nat :=
  if eligOf (s.al c a SHD_ALLOC_ELIG) = 0 then s.guarNow c a else s.al c a SHD_ALLOC_RM

/-- An allocation's state in the shed. -/
def State.alst (s : State) (c a : Nat) : AllocSt := (s.shd.look c).allocs.look a

def State.updAl (s : State) (c a : Nat) (f : AllocSt → AllocSt) : State :=
  s.updShd c (fun h => { h with allocs := h.allocs.upd a f })

/-- Remove the first of the pairs of frame f. -/
def dropFirst (f : Nat) (l : List (Nat × Nat)) : List (Nat × Nat) := l.eraseP (fun e => decide (e.1 = f))

/-- Traffic monitoring of an allocation without DBRu (R205): a grant of G bytes in frame `f` closed RECEIVED with `i` idle bytes. -/
def State.monitor (s : State) (c a f g i : Nat) : State :=
  s.updAl c a (fun x => { x with out := dropFirst f x.out, tm := some (if i = 0 then g + s.tune c SHD_TUNE_TM_PROBE else g - i) })

end Sys2Proof.Machine
end

