-- ==== Sys2Proof/Machine/Traffic.lean ====
section
/-! DEFINITION. Traffic management (chapter 13): admission of the copies of a frame, the host trap ring, departures, freed
buffers, the uplink blocks and flushes. -/
namespace Sys2Proof.Machine

/-- Whether bytes 12 and 13 of a frame are a VLAN tag's TPID. -/
def vlanTagged (b : List Byte) : Bool :=
  let t := beNat ((b.drop 12).take 2)
  decide (t = 0x8100) || decide (t = 0x88A8)

/-- The traffic class of a frame (R309). -/
def State.trafficClass (s : State) (h : Hand) : Nat :=
  if h.tc ≠ 0 then h.tc
  else if vlanTagged h.bytes then ((h.bytes.drop 14).head?.getD 0).toNat / 32
  else s.g (TMG_SRC h.src) TMG_SRC_DEF_TC

/-- The DEST that names a frame's own source port (R291, R292, R310). -/
def State.ownDest (s : State) (src port : Nat) : Nat :=
  if src < 32 then s.portOfLane src else 2 ^ 22 + (src - 32) * 2 ^ 16 + port

/-- The queue of a copy to an uplink or PON port (R310), with the XGEM port-ID; none refuses the copy. -/
def State.selQueue (s : State) (h : Hand) (tc d : Nat) : Option (Nat × Option Nat) :=
  if d / 2 ^ 22 = 1 then
    let c := d / 2 ^ 16 % 64
    let x := d % 2 ^ 16
    let e := TMG_PID (c * 4096 + x)
    if 4096 ≤ x || !s.on e TMG_PID_VALID then none
    else some (2048 * c + s.g e TMG_PID_QOFS + (if s.on e TMG_PID_SPREAD then tc else 0), some x)
  else
    let u := fkey (TMG_UPORT (d % 32))
    let n := s.g u TMG_UPORT_USIZE
    let m := s.g u TMG_UPORT_UMODE
    let key := if m = 1 then 8 * h.src + tc else if m = 2 && decide (32 ≤ h.src) then (h.src - 32) * 512 + h.alloc else tc
    if n = 0 then none else some (upBase + s.g u TMG_UPORT_UBASE + key % n, none)

/-- The DESTs of a replication group's members, along its linked list. -/
def State.members (s : State) : Nat → Nat → List Nat
  | 0, _ => []
  | n + 1, m =>
    let a := fkey (TMG_MEMBER m)
    s.g a TMG_MEMBER_DEST :: (if s.on a TMG_MEMBER_LAST then [] else s.members n (s.g a TMG_MEMBER_NEXT))

/-- TRAP_WRITE (R327): a trap frame goes to the host's ring, or is dropped: no ring, over TRAP_KPPS in this second, ring full, or
DDR-5 not there. -/
def State.trapWrite (s : State) (h : Hand) (reason : Nat) : State :=
  let k := s.g TMG_TRAP_CTL TMG_TRAP_CTL_TRAP_KPPS
  let n := 2 ^ clampN 4 16 (s.g TMG_TRAP_CTL TMG_TRAP_CTL_LOG2)
  let sec := s.now / 1000000000 + 1
  let used := if s.tmg.trap.1 = sec then s.tmg.trap.2 else 0
  let wr := s.rd TMG_TRAP_WR
  let a := s.rd64 TMG_TRAP_BASE / 4096 * 4096 + wr.toNat % n * 12288
  if k = 0 || k * 1000 ≤ used || n ≤ (wr - s.rd TMG_TRAP_RD).toNat || !s.ddrUp || s.isHole a || s.isHole (a + 12287) then
    (s.inc TMG_TRAP_DROP).ev TMG_STATUS TMG_STATUS_TRAP_DROP
  else
    let s := s.updTmg (fun d => { d with trap := (sec, used + 1) })
    let hdr := [word (h.src % 128 * 2 ^ 24 + reason * 2 ^ 16 + h.bytes.length % 2 ^ 14), word h.at_, wr, 0]
    (s.ddrWrs a (hdr.flatMap wordBytes ++ h.bytes)).wr TMG_TRAP_WR (wr + 1)

/-- A copy refused for want of a queue. -/
def State.noQueue (s : State) : State := (s.inc TMG_NO_QUEUE).ev TMG_STATUS TMG_STATUS_NO_QUEUE

/-- Count a refused copy of a queue with its cause (R312). -/
def State.refuseCopy (s : State) (q cause : Nat) : State := (s.inc cause).inc (lkey (TMG_AUD_REF q))

/-- The first of checks 1 to 5 that refuses a copy of `l` bytes, as its cause counter (R312). -/
def State.admitCheck (s : State) (q col l : Nat) (copy : Bool) : Option Nat :=
  let st := s.chState (q / 2048)
  let lim := s.g (fkey (TMG_Q q)) (if col = 0 then TMG_Q_QMAX else TMG_Q_YMAX)
  let a := s.g (TMG_Q q) TMG_Q_ACCOUNT
  if col = 2 then some TMG_POLICED
  else if q < upBase && (st = 0 || st = 3 || st = 4) then some TMG_CLOSED
  else if lim * 1024 < s.queueBytes q + l then some TMG_QFULL
  else if s.g (TMG_ACCT a) TMG_ACCT_LIMIT * 1024 < s.acctBytes a + l then some TMG_ACCT_FULL
  else if copy && decide (1048576 ≤ s.copiesUsed) then some TMG_COPY_FULL
  else none

/-- Enqueue a copy: `enqueued` and `resident` rise at once (R312). -/
def State.enqueueCopy (s : State) (q k l : Nat) (port : Option Nat) (copy : Bool) : State :=
  let f : QFrame := ⟨k, l, s.g (TMG_Q q) TMG_Q_ACCOUNT, port, decide (k / 2 ^ 32 < 4), copy⟩
  let own := if (s.tmg.bufs.look k).copies = 0 then some (s.queueOwner q) else none
  let s := s.updTmg (fun d => { d with
    queues := d.queues.upd q (· ++ [f])
    bufs := d.bufs.upd k (fun b => { b with copies := b.copies + 1, owner := own }) })
  ((s.inc (lkey (TMG_AUD_ENQUEUED q))).inc (lkey (TMG_AUD_RESIDENT q))).updCyc (fun d => { d with enq := q :: d.enq })

/-- Transmit low-power idle of a port ends (R401). -/
def State.lpiTxEnd (s : State) (p : Nat) : State :=
  match (s.hsl.look p).lpiTx with
  | some t => { s with hsl := s.hsl.upd p (fun h => { h with lpiTx := none }) }.add (HSL_LPI_TX_US p) ((s.now - t) / 1000)
  | none => s

/-- The requester that BPM serves first in cycle `c`: it rotates by one after a cycle in which two or more were served (R315). -/
def State.bpmTurn (s : State) (c : Nat) : Nat :=
  if s.tmg.served.1 = c || s.tmg.served.2 < 2 then s.tmg.turn else (s.tmg.turn + 1) % 10

/-- BPM serves a request of cycle `c`. -/
def State.bpmServe (s : State) (c : Nat) : State :=
  s.updTmg (fun d => { d with turn := s.bpmTurn c, served := (c, if d.served.1 = c then d.served.2 + 1 else 1) })

/-- Admit one copy by the checks of R312, in order; `buf` is the frame's buffer once a copy has taken it, `cy` the cycle of the request
for one. -/
def State.admitCopy (s : State) (b : List Byte) (col : Nat) (e : Nat × Option Nat) (copy : Bool) (buf : Option Nat) (cy : Nat) :
    State × Option Nat :=
  let q := e.1
  match s.admitCheck q col b.length copy with
  | some cause =>
    let s := s.refuseCopy q cause
    (s.when (cause = TMG_COPY_FULL) (fun s => s.ev TMG_STATUS TMG_STATUS_COPY_FULL), buf)
  | none =>
    let r : State × Option Nat × Bool := match buf with
      | some k => (s, some k, false)
      | none => (s.bpmServe cy).takeBuf b (s.on (TMG_Q q) TMG_Q_SPILL_EN)
    let s := r.1
    match r.2.1 with
    | none =>
      if r.2.2 then ((s.refuseCopy q TMG_SPILL_RATE).ev TMG_STATUS TMG_STATUS_SPILL_RATE, buf)
      else (s.refuseCopy q TMG_BUF_EMPTY, buf)
    | some k =>
      let s := s.enqueueCopy q k b.length e.2 copy
      let p := s.queueOwner q - 64
      (s.when (decide (upBase ≤ q) && decide (p < 32) && s.queueReady q) (fun s => s.lpiTxEnd p), some k)

/-- One candidate copy to a DEST that is no flood group: a queue, the trap ring, or nothing. -/
def State.admitDest (s : State) (h : Hand) (tc col d : Nat) (copy : Bool) (buf : Option Nat) : State × Option Nat :=
  if d / 2 ^ 22 = 3 then (s.when (d % 2 = 1) (fun s => s.trapWrite h 2), buf)
  else if d / 2 ^ 22 = 2 then (s.noQueue, buf)
  else match s.selQueue h tc d with
    | none => (s.noQueue, buf)
    | some e => s.admitCopy h.bytes col e copy buf h.cyc

/-- The copies of a flood group (R310): members that name the source port or a flood group are skipped. -/
def State.admitGroup (s : State) (h : Hand) (tc col g : Nat) (buf : Option Nat) : State × Option Nat :=
  if !s.on (TMG_REPL g) TMG_REPL_VALID then (s.noQueue, buf)
  else (s.members 262144 (s.g (TMG_REPL g) TMG_REPL_FIRST)).foldl (fun (acc : State × Option Nat) d =>
    if d = s.ownDest h.src h.port || d / 2 ^ 22 = 2 then (acc.1.inc TMG_COPY_SKIP, acc.2)
    else acc.1.admitDest h tc col d true acc.2) (s, buf)

/-- Whether a copy of the frame asks a queue for admission: the host trap ring alone takes none (R310, R327). -/
def State.queued (s : State) (h : Hand) : Bool :=
  (h.mirror && s.on TMG_MIRROR TMG_MIRROR_EN) || (decide (h.kind ≠ 2) && !(decide (h.kind = 0) && decide (h.arg / 2 ^ 22 = 3)))

/-- A frame's policer marks it, once (R313). -/
def State.markHand (s : State) (h : Hand) : State × Hand :=
  if h.mark.isSome || !s.queued h then (s, h)
  else
    let m := s.police h.policer h.bytes.length
    (m.1, { h with mark := some m.2 })

/-- Put a frame before the first of a higher or equal pipeline. -/
def insertHand (h : Hand) : List Hand → List Hand
  | [] => [h]
  | x :: t => if h.pipe ≤ x.pipe then h :: x :: t else x :: insertHand h t

/-- The frames handed over in one cycle are marked in ascending order of their pipelines (R313). -/
def State.markCycle (s : State) (c : Nat) : State :=
  let g := (s.tmg.handoff.filter (fun h => decide (h.cyc = c))).foldr insertHand []
  let r := g.foldl (fun (acc : State × List Hand) h => let m := acc.1.markHand h; (m.1, acc.2 ++ [m.2])) (s, [])
  r.1.updTmg (fun d => { d with handoff := r.2 ++ d.handoff.filter (fun h => decide (h.cyc ≠ c)) })

/-- Admit a frame: each copy meets the checks with the frame's mark (R310, R312). -/
def State.admitFrame (s : State) (h : Hand) : State :=
  let tc := s.trafficClass h
  let mir := h.mirror && s.on TMG_MIRROR TMG_MIRROR_EN
  let m := h.mark.getD 0
  let r : State × Option Nat :=
    if h.kind = 2 then (s.trapWrite h h.arg, none)
    else if h.kind = 1 then
      (if 163840 ≤ h.arg then (s.noQueue, none) else s.admitCopy h.bytes m (h.arg, none) mir none h.cyc)
    else if h.arg / 2 ^ 22 = 2 then s.admitGroup h tc m (h.arg % 2 ^ 16) none
    else s.admitDest h tc m h.arg mir none
  if mir then (r.1.admitDest h tc m (r.1.g TMG_MIRROR TMG_MIRROR_DEST) true r.2).1 else r.1

/-- Of two frames of one cycle, the one whose pipeline BPM serves first (R315). -/
def firstOf (turn : Nat) (a b : Hand) : Hand := if (b.pipe + 10 - turn) % 10 < (a.pipe + 10 - turn) % 10 then b else a

/-- The next frame for admission: of the oldest cycle, the first that BPM serves (R315). -/
def State.nextHand (s : State) : Option Hand := match s.tmg.handoff with
  | [] => none
  | h :: t => some ((t.filter (fun x => decide (x.cyc = h.cyc))).foldl (firstOf (s.bpmTurn h.cyc)) h)

/-- FRAME_ADMIT (R312, R313, R315): the oldest frame that a pipeline has handed over. -/
def execFrameAdmit (s : State) : Out :=
  match s.tmg.handoff with
  | [] => .next s
  | h :: _ =>
    let s := s.markCycle h.cyc
    match s.nextHand with
    | none => .next s
    | some x => .next ((s.updTmg (fun d => { d with handoff := d.handoff.erase x })).admitFrame x)

/-- UPLINK_DEPARTURE (R319 to R322, R325): the MAC of an UP port accepts the first byte of the frame the scheduler picks. -/
def State.uplinkDepart (s : State) (p : Nat) : State :=
  if s.g (HSL_STATUS p) HSL_STATUS_STATE ≠ 2 || s.portOfLane p ≠ p then s
  else
    let b := upBase + s.g (fkey (TMG_UPORT p)) TMG_UPORT_UBASE
    let kids := (List.range (s.g (fkey (TMG_UPORT p)) TMG_UPORT_USIZE)).map (b + ·)
    let r := s.pickQueue (16448 + p) kids
    match r.2 with
    | none => s
    | some q =>
      let s := r.1.lpiTxEnd p
      let d := s.departQueue q none
      match d.2 with
      | none => s
      | some f => (d.1.inc (HSL_TX_FRAMES p)).add (HSL_TX_BYTES p) f.len

def execUplinkDeparture (p : Fin 32) (s : State) : Out := .next (s.uplinkDepart p)

/-- BUFFER_FREE (R317, R322): LAST_OWNER returns a buffer whose last byte has been read; any other free is refused, that of a buffer
which is not lent among them: it has no LAST_OWNER. -/
def State.bufferFree (s : State) (k who : Nat) : State :=
  let b := s.tmg.bufs.look k
  if b.copies ≠ 1 || b.owner ≠ some who then (s.inc BPM_FREE_REFUSED).ev BPM_STATUS BPM_STATUS_FREE_REFUSED
  else if b.departed then s.freeBack k
  else s

def execBufferFree (pool : Fin 8) (i : Nat) (who : Nat) (s : State) : Out := .next (s.bufferFree (pool * 2 ^ 32 + i) who)

/-- A write to TMG_UPORT (R311): word 0 waits for word 1, which applies both or is refused and leaves the port unchanged. -/
def State.uportWrite (s : State) (p w : Nat) (v : Word) : State :=
  let a := TMG_UPORT p
  let s := s.wrRW (a + 4 * w) v
  if w = 0 then s
  else
    let b := s.g a TMG_UPORT_UBASE
    let n := s.g a TMG_UPORT_USIZE
    let clash := (List.range 32).any (fun k =>
      let b' := s.g (fkey (TMG_UPORT k)) TMG_UPORT_UBASE
      let n' := s.g (fkey (TMG_UPORT k)) TMG_UPORT_USIZE
      decide (k ≠ p) && decide (b < b' + n') && decide (b' < b + n) && decide (n ≠ 0) && decide (n' ≠ 0))
    if 32768 < b + n || clash then
      ((s.wr a (s.rd (fkey a))).wr (a + 4) (s.rd (fkey (a + 4)))).ev TMG_STATUS TMG_STATUS_UPORT_REFUSED
    else s.applyWords a 2

def execUportWrite (ag : Agent) (p : Fin 32) (w : Fin 2) (v : Word) (s : State) : Out :=
  .next (s.bus ag (TMG_UPORT p + 4 * w) (fun s => s.uportWrite p w v))

/-- TMG_FLUSH (R324): the queues that SCOPE and INDEX choose are flushed; SCOPE 3 acts as 0. -/
def State.flushWrite (s : State) (v : Word) : State :=
  let s := s.wrRW TMG_FLUSH v
  if bget v 31 1 = 0 then s
  else
    let sc := s.g TMG_FLUSH TMG_FLUSH_SCOPE
    let i := s.g TMG_FLUSH TMG_FLUSH_INDEX
    let s := s.p TMG_FLUSH TMG_FLUSH_GO 1
    if sc = 1 then (if i < 64 then s.flushChannel i else s)
    else if sc = 2 then
      (if i < 32 then
        let b := upBase + s.g (fkey (TMG_UPORT i)) TMG_UPORT_UBASE
        s.flushRange b (b + s.g (fkey (TMG_UPORT i)) TMG_UPORT_USIZE)
      else s)
    else if i < 163840 then s.flushQueue i
    else s

def execTmgFlush (ag : Agent) (v : Word) (s : State) : Out := .next (s.bus ag TMG_FLUSH (fun s => s.flushWrite v))

/-- TMG_FLUSH_DONE (R324, R329). -/
def execTmgFlushDone (s : State) : Out :=
  if s.on TMG_FLUSH TMG_FLUSH_GO then .next ((s.p TMG_FLUSH TMG_FLUSH_GO 0).ev TMG_STATUS TMG_STATUS_FLUSH_DONE) else .next s

end Sys2Proof.Machine
end

