-- ==== Sys2Proof/Machine/Forward.lean ====
section
/-! DEFINITION. Forwarding tables and learning (chapter 12): bridge domains, the MAC table in its two banks, the learn engine, the
ager, the route engine, and the forwarding of a frame. -/
namespace Sys2Proof.Machine

/-- Update the forwarding engines. -/
def State.updFwd (s : State) (f : Fwd → Fwd) : State := { s with fwd := f s.fwd }

-- ===== the MAC table (R293 to R296) =====

/-- The key of an entry: the BD and the MAC address, most significant bytes first (R293). -/
def macKey (bd mac : Nat) : List Byte := beBytes 2 bd ++ beBytes 6 mac

/-- The two candidate buckets of a key (R293). -/
def macBuckets (bd mac : Nat) : Nat × Nat :=
  let b0 := (crc32c (macKey bd mac)).toNat % 2 ^ 18
  let b1 := (crc32 (macKey bd mac)).toNat % 2 ^ 18
  (b0, if b1 = b0 then b0 ^^^ 1 else b1)

/-- The words of an entry in bank 0 (bank 1 holds the same at the same position, R294). -/
def State.macVal (s : State) (i : Nat) : Bool := s.on (FWD_MAC0 i) FWD_MAC0_VALID
def State.macBd (s : State) (i : Nat) : Nat := s.g (FWD_MAC0 i) FWD_MAC0_BD
def State.macAddr (s : State) (i : Nat) : Nat := s.g (FWD_MAC0 i) FWD_MAC0_MAC_HI * 2 ^ 16 + s.g (FWD_MAC0 i) FWD_MAC0_MAC_LO
def State.macDest (s : State) (i : Nat) : Nat := s.g (FWD_MAC0 i) FWD_MAC0_DEST
def State.macStatic (s : State) (i : Nat) : Bool := s.on (FWD_MAC0 i) FWD_MAC0_STATIC

/-- The positions of the ways of a key's buckets, b0 first. -/
def macWays (bd mac : Nat) : List Nat :=
  let b := macBuckets bd mac
  [4 * b.1, 4 * b.1 + 1, 4 * b.1 + 2, 4 * b.1 + 3, 4 * b.2, 4 * b.2 + 1, 4 * b.2 + 2, 4 * b.2 + 3]

/-- The position of a key: a VALID way whose BD and MAC equal it, the lower of two (R293, R296). -/
def State.macFind (s : State) (bd mac : Nat) : Option Nat :=
  ((macWays bd mac).filter (fun i => s.macVal i && decide (s.macBd i = bd) && decide (s.macAddr i = mac))).min?

/-- Write the four words of a position in both banks (R294). -/
def State.macPut (s : State) (i : Nat) (w0 w1 w2 w3 : Word) : State :=
  [FWD_MAC0 i, FWD_MAC1 i].foldl (fun s a => (((s.wr a w0).wr (a + 4) w1).wr (a + 8) w2).wr (a + 12) w3) s

/-- Set or clear HIT, one bit per position shared by both banks (R299). -/
def State.macHitIs (s : State) (i v : Nat) : State := (s.p (FWD_MAC0 i) FWD_MAC0_HIT v).p (FWD_MAC1 i) FWD_MAC0_HIT v

/-- A hit sets HIT, and wins over the ager in its cycle (R299, R300). -/
def State.macHit (s : State) (i : Nat) : State := (s.macHitIs i 1).updCyc (fun d => { d with hits := d.hits.put i true })

/-- Delete a position in both banks. -/
def State.macDrop (s : State) (i : Nat) : State :=
  (s.macPut i 0 0 0 0).p FWD_ENTRIES FWD_ENTRIES_COUNT (s.g FWD_ENTRIES FWD_ENTRIES_COUNT - 1)

/-- The ways of the other bucket of the entry at a position. -/
def State.otherWays (s : State) (i : Nat) : List Nat :=
  let b := macBuckets (s.macBd i) (s.macAddr i)
  let o := if i / 4 = b.1 then b.2 else b.1
  [4 * o, 4 * o + 1, 4 * o + 2, 4 * o + 3]

/-- Breadth-first search for a path of relocations that ends in a free way (R295): paths are lists of positions, the latest
first; the answer begins with the free way. -/
def State.macSearch (s : State) : Nat → List (List Nat) → Option (List Nat)
  | 0, _ => none
  | n + 1, paths =>
    let ext := paths.flatMap (fun p => match p with
      | [] => []
      | i :: _ => (s.otherWays i).filterMap (fun j => if p.contains j then none else some (j :: p)))
    match ext.find? (fun p => match p with
        | j :: _ => !s.macVal j
        | [] => false) with
    | some p => some p
    | none => s.macSearch n ext

/-- Carry out a path from its free end backwards: each entry moves whole, with its HIT (R295, R300); the answer's free way is the
last of the list. -/
def State.macShift (s : State) (l : List Nat) : State :=
  (l.zip l.tail).foldl (fun (s : State) (e : Nat × Nat) =>
    let a := FWD_MAC0 e.2
    let s := s.macPut e.1 (s.rd a) (s.rd (a + 4)) (s.rd (a + 8)) (s.rd (a + 12))
    s.macPut e.2 0 0 0 0) s

/-- Where a new entry of a key goes (R295): a free way of b0, then of b1, else the first way of a path of at most MOVES_MAX
relocations. -/
def State.macRoom (s : State) (bd mac : Nat) : State × Option Nat :=
  match (macWays bd mac).find? (fun i => !s.macVal i) with
  | some i => (s, some i)
  | none =>
    match s.macSearch (min 8 (s.g FWD_CTL FWD_CTL_MOVES_MAX)) ((macWays bd mac).map (fun i => [i])) with
    | some p => (s.macShift p, p.getLast?)
    | none => (s, none)

/-- Word 0 of an entry. -/
def macWord0 (static hit : Bool) (bd : Nat) : Word := word (2 ^ 31 + b2n static * 2 ^ 30 + b2n hit * 2 ^ 29 + bd)

/-- Insert or replace an entry (R295, R301): the position, none when the insert fails. -/
def State.macInsert (s : State) (bd mac dest : Nat) (static hit : Bool) : State × Option Nat :=
  let w1 := word (mac / 2 ^ 16)
  let w2 := word (mac % 2 ^ 16 * 2 ^ 16)
  match s.macFind bd mac with
  | some i => (s.macPut i (macWord0 static hit bd) w1 w2 (word dest), some i)
  | none =>
    let r := s.macRoom bd mac
    match r.2 with
    | none => ((s.inc FWD_LEARN_FAIL).ev FWD_STATUS FWD_STATUS_LEARN_FAIL, none)
    | some i =>
      let s := r.1.macPut i (macWord0 static hit bd) w1 w2 (word dest)
      (s.p FWD_ENTRIES FWD_ENTRIES_COUNT (s.g FWD_ENTRIES FWD_ENTRIES_COUNT + 1), some i)

/-- MAC_LEARN (R294, R295, R298): the oldest learn request, once no command runs and no move waits; a key that is VALID is
discarded. A learnt entry starts with HIT set (assumption 92). -/
def execMacLearn (s : State) : Out :=
  match s.fwd.learnQ with
  | [] => .next s
  | (bd, mac, dest) :: t =>
    if !s.fwd.moveQ.isEmpty || s.fwd.flush.isSome then .next s
    else
      let s := s.updFwd (fun d => { d with learnQ := t })
      match s.macFind bd mac with
      | some _ => .next s
      | none =>
        let r := s.macInsert bd mac dest false true
        .next (r.1.when r.2.isSome (fun s => s.inc FWD_LEARNS))

/-- MAC_MOVE (R297): DEST of a dynamic entry is rewritten in place. -/
def execMacMove (s : State) : Out :=
  match s.fwd.moveQ with
  | [] => .next s
  | (bd, mac, dest) :: t =>
    if s.fwd.flush.isSome then .next s
    else
      let s := s.updFwd (fun d => { d with moveQ := t })
      match s.macFind bd mac with
      | none => .next s
      | some i =>
        if s.macStatic i then .next s
        else .next (((s.p (FWD_MAC0 i) FWD_MAC0_DEST dest).p (FWD_MAC1 i) FWD_MAC0_DEST dest).inc FWD_MOVES)

/-- The ager at one position (R299): HIT is cleared, or the unhit entry goes; a hit of the same cycle wins (R300). -/
def State.ageVisit (s : State) (i : Nat) : State :=
  if !s.macVal i || s.macStatic i || !s.on (fkey (FWD_BD (s.macBd i))) FWD_BD_AGE_EN || s.cyc.hits.look i then s
  else if s.on (FWD_MAC0 i) FWD_MAC0_HIT then s.macHitIs i 0
  else
    let w := (List.range 4).map (fun k => s.rd (FWD_MAC0 i + 4 * k))
    ((s.macDrop i).inc FWD_AGED).updCyc (fun d => { d with aged := d.aged ++ [(i, w)] })

/-- MAC_AGE_VISIT (R299): once per AGE_S seconds at a position; AGE_S 0 acts as 1. -/
def execMacAgeVisit (i : Fin 1048576) (s : State) : Out :=
  .next (s.when (s.on FWD_CTL FWD_CTL_AGE_EN && decide (s.fwd.ageAt.look i + atLeast1 (s.g FWD_CTL FWD_CTL_AGE_S) * 1000000000 ≤ s.now)) (fun s =>
    (s.ageVisit i).updFwd (fun d => { d with ageAt := d.ageAt.put i s.now })))

/-- A lookup that meets an entry which the ager has deleted in the same cycle: the hit wins, and the entry stays (R300). -/
def State.unage (s : State) (bd mac : Nat) : State :=
  match s.cyc.aged.find? (fun e => decide (bget (e.2.getD 0 0) 0 14 = bd)
      && decide ((e.2.getD 1 0).toNat * 2 ^ 16 + bget (e.2.getD 2 0) 16 16 = mac)) with
  | none => s
  | some e =>
    let s := s.macPut e.1 (e.2.getD 0 0) (e.2.getD 1 0) (e.2.getD 2 0) (e.2.getD 3 0)
    let s := s.p FWD_ENTRIES FWD_ENTRIES_COUNT (s.g FWD_ENTRIES FWD_ENTRIES_COUNT + 1)
    (s.wr64 FWD_AGED (s.rd64 FWD_AGED - 1)).updCyc (fun d => { d with aged := d.aged.filter (fun x => decide (x.1 ≠ e.1)) })

-- ===== MAC commands (R301) =====

/-- The agent's copy of a register of FWD. -/
def State.mine (ag : Agent) (a : Nat) : Nat := akey (agCode ag) a

/-- Answer a MAC command: STATUS, position, and the further words; GO reads 0. -/
def State.macRsp (s : State) (ag st pos : Nat) (w : List Word) : State :=
  let a := akey ag FWD_MAC_RSP
  let s := s.wr a (word (st * 2 ^ 24 + pos))
  let s := (List.range 3).foldl (fun s i => s.wr (a + 4 * (i + 1)) (w.getD i 0)) s
  s.p (akey ag FWD_MAC_CMD) FWD_MAC_CMD_GO 0

/-- The entries a flush deletes: dynamic, of BD if BY_BD, to DEST if BY_DEST (R301). -/
def State.macFlushList (s : State) (byBd : Bool) (bd : Nat) (byDest : Bool) (dest : Nat) : List Nat :=
  ((s.keysIn (FWD_MAC0 0) (FWD_MAC0 1048576)).filter (fun a => decide (a % 16 = 0))).filterMap (fun a =>
    let i := (a - FWD_MAC0 0) / 16
    if s.macVal i && !s.macStatic i && (!byBd || decide (s.macBd i = bd)) && (!byDest || decide (s.macDest i = dest)) then some i
    else none)

/-- Run one MAC command of an agent, whose words are given; the answer's words 1 to 3 are those of the entry, and an OP without a meaning
only ends (assumption 92). -/
def State.macRun (s : State) (ag : Nat) (w : List Word) : State :=
  let w0 := w.getD 0 0
  let bd := bget w0 0 14
  let mac := (w.getD 1 0).toNat * 2 ^ 16 + bget (w.getD 2 0) 16 16
  let dest := bget (w.getD 3 0) 0 24
  let op := bget w0 28 3
  if op = 1 then
    let r := s.macInsert bd mac dest (bget w0 27 1 = 1) false
    match r.2 with
    | some i => r.1.macRsp ag 0 i (w.drop 1)
    | none => r.1.macRsp ag 1 0 []
  else if op = 2 then
    match s.macFind bd mac with
    | some i => (s.macDrop i).macRsp ag 0 i [s.rd (FWD_MAC0 i + 4), s.rd (FWD_MAC0 i + 8), s.rd (FWD_MAC0 i + 12)]
    | none => s.macRsp ag 2 0 []
  else if op = 3 then
    match s.macFind bd mac with
    | some i => s.macRsp ag 0 i [s.rd (FWD_MAC0 i + 4), s.rd (FWD_MAC0 i + 8), s.rd (FWD_MAC0 i + 12)]
    | none => s.macRsp ag 2 0 []
  else if op = 4 then
    let l := s.macFlushList (bget w0 26 1 = 1) bd (bget w0 25 1 = 1) dest
    let s := l.foldl (fun s i => s.macDrop i) s
    (s.p FWD_STATUS FWD_STATUS_FLUSHING 1).updFwd (fun d => { d with flush := some (ag, l.length) })
  else s.p (akey ag FWD_MAC_CMD) FWD_MAC_CMD_GO 0

/-- A write of word `w` of FWD_MAC_CMD: GO runs the command, or leaves it waiting while a flush runs (R294, R301). A GO of an
agent whose command still waits changes only the words. -/
def State.macCmdWrite (s : State) (ag : Agent) (w : Nat) (v : Word) : State :=
  let a := akey (agCode ag) FWD_MAC_CMD
  let busy := s.on a FWD_MAC_CMD_GO
  let s := s.wr (a + 4 * w) (word ((v.toNat &&& rwBits (FWD_MAC_CMD + 4 * w)) ||| (if w = 0 && busy then 2 ^ 31 else 0)))
  if w ≠ 0 || busy || bget v 31 1 = 0 then s
  else
    let s := s.p a FWD_MAC_CMD_GO 1
    let l := [s.rd a, s.rd (a + 4), s.rd (a + 8), s.rd (a + 12)]
    if s.fwd.flush.isSome then s.updFwd (fun d => { d with waiting := d.waiting ++ [(agCode ag, l)] })
    else s.macRun (agCode ag) l

def execMacInsert (ag : Agent) (v : Word) (s : State) : Out := .next (s.bus ag FWD_MAC_CMD (fun s => s.macCmdWrite ag 0 v))
def execMacDelete (ag : Agent) (v : Word) (s : State) : Out := .next (s.bus ag FWD_MAC_CMD (fun s => s.macCmdWrite ag 0 v))
def execMacLookup (ag : Agent) (v : Word) (s : State) : Out := .next (s.bus ag FWD_MAC_CMD (fun s => s.macCmdWrite ag 0 v))
def execMacFlush (ag : Agent) (v : Word) (s : State) : Out := .next (s.bus ag FWD_MAC_CMD (fun s => s.macCmdWrite ag 0 v))

/-- Run the commands that waited for a flush, until one of them is a flush. -/
def State.macResume : Nat → State → State
  | 0, s => s
  | n + 1, s =>
    match s.fwd.waiting with
    | [] => s
    | e :: t =>
      if s.fwd.flush.isSome then s
      else State.macResume n ((s.updFwd (fun d => { d with waiting := t })).macRun e.1 e.2)

/-- MAC_FLUSH_DONE (R301): the answer is the count deleted; commands that waited run in order. -/
def execMacFlushDone (s : State) : Out :=
  match s.fwd.flush with
  | none => .next s
  | some (ag, n) =>
    let s := (s.updFwd (fun d => { d with flush := none })).p FWD_STATUS FWD_STATUS_FLUSHING 0
    let s := s.macRsp ag 0 0 [word n]
    .next (State.macResume s.fwd.waiting.length s)

-- ===== routes (R302 to R306) =====

/-- Bits of an address family. -/
def addrBits (v6 : Bool) : Nat := if v6 then 128 else 32

/-- A route covers an address given as a number of `addrBits` bits. -/
def Route.covers (r : Route) (vrf : Nat) (v6 : Bool) (addr : Nat) : Bool :=
  decide (r.vrf = vrf) && decide (r.v6 = v6) && decide (addr / 2 ^ (addrBits v6 - r.len) = r.bits)

/-- The result of a lookup: the longest prefix that covers the address (R302). -/
def State.routeFind (s : State) (bank vrf : Nat) (v6 : Bool) (addr : Nat) : Option Nat :=
  let l := (s.fwd.routes.look bank).filter (fun r => r.covers vrf v6 addr)
  (l.find? (fun r => l.all (fun q => decide (q.len ≤ r.len)))).map (·.nh)

/-- The distinct nodes of one level: the top `n` bits of the prefixes longer than `n` (R302). -/
def nodesAt (l : List Route) (v6 : Bool) (n : Nat) : Nat :=
  ((l.filter (fun r => decide (r.v6 = v6) && decide (n < r.len))).map (fun r => (r.vrf, r.bits / 2 ^ (r.len - n)))).eraseDups.length

/-- Whether a bank's node pools and route limits hold a prefix store (R302): (nodes fit, routes fit). -/
def bankFits (l : List Route) : Bool × Bool :=
  (decide (nodesAt l false 16 ≤ 65536) && decide (nodesAt l false 24 ≤ 32768)
    && decide (((List.range 14).map (fun k => nodesAt l true (16 + 8 * k))).sum ≤ 98304),
   decide ((l.filter (fun r => !r.v6)).length ≤ 524288) && decide ((l.filter (·.v6)).length ≤ 131072))

/-- The store without a prefix. -/
def routeDrop (l : List Route) (r : Route) : List Route :=
  l.filter (fun q => !(decide (q.vrf = r.vrf) && decide (q.v6 = r.v6) && decide (q.len = r.len) && decide (q.bits = r.bits)))

/-- Answer a route command. -/
def State.rtRsp (s : State) (ag st nh : Nat) : State :=
  (s.wr (akey ag FWD_RT_RSP) (word (st * 2 ^ 24 + nh))).p (akey ag FWD_RT_CMD) FWD_RT_CMD_GO 0

/-- Run a route command (R304): ADD and DEL on the banks of BANKS, LOOKUP in the lowest of them. -/
def State.rtRun (s : State) (ag : Nat) : State :=
  let a := akey ag FWD_RT_CMD
  let op := s.g a FWD_RT_CMD_OP
  let v6 := s.on a FWD_RT_CMD_V6
  let len := s.g a FWD_RT_CMD_LEN
  let vrf := s.g a FWD_RT_CMD_VRF
  let n := addrBits v6
  let addr := if v6 then ((s.rd (a + 4)).toNat * 2 ^ 96 + (s.rd (a + 8)).toNat * 2 ^ 64 + (s.rd (a + 12)).toNat * 2 ^ 32 + (s.rd (a + 16)).toNat)
    else (s.rd (a + 4)).toNat
  let banks := [0, 1].filter (fun b => bit (s.g a FWD_RT_CMD_BANKS) b)
  let r : Route := ⟨vrf, v6, len, addr / 2 ^ (n - len), s.g a FWD_RT_CMD_NH⟩
  if op = 0 || 3 < op || n < len then s.rtRsp ag 3 0
  else if op = 1 then
    let q := banks.foldl (fun (acc : State × Nat) b =>
      let l := routeDrop (acc.1.fwd.routes.look b) r ++ [r]
      let f := bankFits l
      if f.1 && f.2 then (acc.1.updFwd (fun d => { d with routes := d.routes.put b l }), acc.2)
      else (acc.1.when (!f.1) (fun s => s.ev FWD_STATUS FWD_STATUS_NODES_FULL), 1)) (s, 0)
    q.1.rtRsp ag q.2 0
  else if op = 2 then
    let q := banks.foldl (fun (acc : State × Nat) b =>
      let l := acc.1.fwd.routes.look b
      let l' := routeDrop l r
      if l'.length = l.length then acc else (acc.1.updFwd (fun d => { d with routes := d.routes.put b l' }), 0)) (s, 2)
    q.1.rtRsp ag q.2 0
  else
    match banks with
    | [] => s.rtRsp ag 2 0
    | b :: _ =>
      match s.routeFind b vrf v6 addr with
      | some nh => s.rtRsp ag 0 nh
      | none => s.rtRsp ag 2 0

/-- A write of word `w` of FWD_RT_CMD. -/
def State.rtCmdWrite (s : State) (ag : Agent) (w : Nat) (v : Word) : State :=
  let a := akey (agCode ag) FWD_RT_CMD
  let s := s.wr (a + 4 * w) (word (v.toNat &&& rwBits (FWD_RT_CMD + 4 * w)))
  if w ≠ 0 || bget v 31 1 = 0 then s else s.rtRun (agCode ag)

def execRouteAdd (ag : Agent) (v : Word) (s : State) : Out := .next (s.bus ag FWD_RT_CMD (fun s => s.rtCmdWrite ag 0 v))
def execRouteDel (ag : Agent) (v : Word) (s : State) : Out := .next (s.bus ag FWD_RT_CMD (fun s => s.rtCmdWrite ag 0 v))
def execRouteLookup (ag : Agent) (v : Word) (s : State) : Out := .next (s.bus ag FWD_RT_CMD (fun s => s.rtCmdWrite ag 0 v))

-- ===== forwarding a frame (R290 to R303) =====

/-- VLAN edits of an action (R282): push, pop or swap of the outer tag. -/
def vlanEdit (op tci : Nat) (b : List Byte) : List Byte :=
  if op = 1 then b.take 12 ++ beBytes 2 0x8100 ++ beBytes 2 tci ++ b.drop 12
  else if op = 2 && vlanTagged b then b.take 12 ++ b.drop 16
  else if op = 3 && vlanTagged b then b.take 14 ++ beBytes 2 tci ++ b.drop 16
  else b

/-- The bank of a pipeline (R16). -/
def bankOf (p : Nat) : Nat := if p < 4 then 0 else 1

/-- Destination and source address of a frame. -/
def frameDa (b : List Byte) : Nat := beNat (b.take 6)
def frameSa (b : List Byte) : Nat := beNat ((b.drop 6).take 6)

/-- A group address: the least significant bit of its first byte. -/
def isGroup (mac : Nat) : Bool := bit mac 40

/-- Offset of the Ethertype behind up to two VLAN tags. -/
def etypeAt (b : List Byte) : Nat :=
  if vlanTagged b then (if vlanTagged (b.take 12 ++ b.drop 16) then 20 else 16) else 12

/-- Learning (R297, R298): what the source lookup of a FORWARD frame does. -/
def State.learnFrom (s : State) (bd mac dest : Nat) : State :=
  let e := fkey (FWD_BD bd)
  let s := s.unage bd mac
  match s.macFind bd mac with
  | some i =>
    if s.macDest i = dest then s.macHit i
    else if !s.macStatic i && s.on e FWD_BD_MOVE_EN then
      (s.macHit i).updFwd (fun d => { d with moveQ := d.moveQ ++ [(bd, mac, dest)] })
    else ((s.macHit i).inc FWD_MOVE_BLOCKED).ev FWD_STATUS FWD_STATUS_MOVE_BLOCKED
  | none =>
    if s.fwd.learnQ.length < 4096 then s.updFwd (fun d => { d with learnQ := d.learnQ ++ [(bd, mac, dest)] })
    else (s.inc FWD_LEARN_DROP).ev FWD_STATUS FWD_STATUS_LEARN_DROP

/-- A routed frame's bytes: the next hop's destination address and VLAN, the router's source address, TTL or hop limit one less with
the IPv4 checksum following it (R303). -/
def routedBytes (b : List Byte) (v6 : Bool) (da sa vid : Nat) : List Byte :=
  let o := etypeAt b + 2
  let b := if v6 then b.take (o + 7) ++ beBytes 1 (beNat ((b.drop (o + 7)).take 1) - 1) ++ b.drop (o + 8)
    else
      let ttl := beNat ((b.drop (o + 8)).take 1)
      let c := beNat ((b.drop (o + 10)).take 2) + 0x100
      b.take (o + 8) ++ beBytes 1 (ttl - 1) ++ (b.drop (o + 9)).take 1 ++ beBytes 2 (if 0xFFFF < c then c - 0xFFFF else c) ++ b.drop (o + 12)
  let b := beBytes 6 da ++ beBytes 6 sa ++ b.drop 12
  if vlanTagged b then b.take 14 ++ beBytes 2 (beNat ((b.drop 14).take 2) / 4096 * 4096 + vid) ++ b.drop 16
  else b.take 12 ++ beBytes 2 0x8100 ++ beBytes 2 vid ++ b.drop 12

/-- Hand a frame to the traffic manager with a DEST, or drop it where it would go back to its source (R292). -/
def State.handDest (s : State) (h : Hand) (d : Nat) : State :=
  let d' := if d / 2 ^ 22 = 0 then d % 32 else d
  if d' = s.ownDest h.src h.port then s.inc FWD_HAIRPIN
  else s.updTmg (fun t => { t with handoff := t.handoff ++ [{ h with kind := 0, arg := d }] })

/-- The route lookup of a frame addressed to the router (R302, R303). A frame that is not IP finds no route (assumption 92). -/
def State.routeFrame (s : State) (bank bd : Nat) (h : Hand) : State :=
  let b := h.bytes
  let o := etypeAt b
  let et := beNat ((b.drop o).take 2)
  let v6 := decide (et = 0x86DD)
  if et ≠ 0x0800 && et ≠ 0x86DD then s.inc FWD_ROUTE_MISS
  else
    let ttl := beNat ((b.drop (o + 2 + (if v6 then 7 else 8))).take 1)
    let addr := if v6 then beNat ((b.drop (o + 26)).take 16) else beNat ((b.drop (o + 18)).take 4)
    if ttl ≤ 1 then
      (s.inc FWD_TTL_EXPIRED).updTmg (fun t => { t with handoff := t.handoff ++ [{ h with kind := 2, arg := 1 }] })
    else
      match s.routeFind bank (s.g (fkey (FWD_BD bd)) FWD_BD_VRF) v6 addr with
      | none => s.inc FWD_ROUTE_MISS
      | some nh =>
        let a := fkey (if bank = 0 then FWD_NH0 nh else FWD_NH1 nh)
        if !s.on a FWD_NH0_VALID then s.inc FWD_NH_INVALID
        else
          let da := (s.rd (a + 4)).toNat * 2 ^ 16 + bget (s.rd (a + 8)) 16 16
          let sa := s.rd64 (FWD_RMAC (s.g a FWD_NH0_SA_IDX)) % 2 ^ 48
          s.handDest { h with bytes := routedBytes b v6 da sa (s.g a FWD_NH0_VID) } (s.g a FWD_NH0_DEST)

/-- The forwarding stage of pipeline `p` (R290 to R292, R297): `h` holds the frame after the action's edits. -/
def State.forward (s : State) (p : Nat) (h : Hand) : State :=
  let b := h.bytes
  let vid := if vlanTagged b then beNat ((b.drop 14).take 2) % 4096 else s.g (FWD_SRC h.src) FWD_SRC_PVID
  let v := FWD_VID_BD (s.g (FWD_SRC h.src) FWD_SRC_GROUP * 4096 + vid)
  if !s.on v FWD_VID_BD_VALID then s.inc FWD_NO_BD
  else
    let bd := s.g v FWD_VID_BD_BD
    let e := fkey (FWD_BD bd)
    let s := if isGroup (frameSa b) then s.inc FWD_SA_GROUP
      else s.when (s.on (FWD_SRC h.src) FWD_SRC_LEARN_EN && s.on e FWD_BD_LEARN_EN)
        (fun s => s.learnFrom bd (frameSa b) (s.ownDest h.src h.port))
    let da := frameDa b
    let r := s.rd64 (FWD_RMAC (s.g e FWD_BD_RMAC_IDX))
    if bit r 63 && decide (r % 2 ^ 48 = da) && s.on e FWD_BD_ROUTE_EN then s.routeFrame (bankOf p) bd h
    else
      let s := s.unage bd da
      match s.macFind bd da with
      | some i => (s.macHit i).handDest h (s.macDest i)
      | none =>
        (s.when (!isGroup da) (fun s => s.inc FWD_FLOOD_UNKNOWN)).handDest h (2 ^ 23 + s.g e FWD_BD_FLOOD_GROUP)

end Sys2Proof.Machine
end

