-- ==== Sys2Proof/Machine/MapOps.lean ====
section
/-! DEFINITION. Map buffers and sealing (chapters 4, 7, 8): the checks of a grant write, hint delivery, and the steps of a
seal over bursts. -/
namespace Sys2Proof.Machine

/-- A map buffer holds an earlier grant of the same slot (R187, R188). -/
def State.hasSlot (s : State) (c : Nat) (b : List Grant) (sl : Nat) : Bool := b.any (fun g => decide (s.grantSlot c g = sl))

/-- The format checks of a grant write (R187). -/
def State.grantBad (s : State) (c : Nat) (b : List Grant) (g : Grant) : Bool :=
  let h := s.pch.look c
  (!g.bcast && (!s.on (SHD_ALLOC c g.entry) SHD_ALLOC_VALID || decide (s.g (SHD_ALLOC c g.entry) SHD_ALLOC_ALLOC_ID ≠ g.allocId)))
    || (g.bcast != decide (g.allocId = 1023))
    || (decide (g.size = 0) && !g.dbru && !g.ploamu)
    || (decide (g.start = 0xFFFF) && !s.hasSlot c b (s.grantSlot c g))
    || (decide (g.start ≠ 0xFFFF) && decide (maxStart h.mode h.usRate < g.start))

/-- Append to an open buffer under R108 and R187; the answer says whether the grant was taken. -/
def State.grantInto (s : State) (c : Nat) (b : List Grant) (g : Grant) (put : List Grant → Pch → Pch) : State × Bool :=
  if 512 ≤ b.length then (s.inc (SHD_FULL_REFUSED c), false)
  else if s.grantBad c b g then ((s.inc (SHD_FORMAT_REFUSED c)).ev (SHD_STATUS c) SHD_STATUS_FORMAT_REFUSED, false)
  else (s.updPch c (put (b ++ [g])), true)

/-- A grant write of the shed (R108, R186, R187): to one of the two open frames, by the low 8 bits of its number;
none is open whose buffer an SHD reset has cleared (R539). -/
def State.grantWrite (s : State) (c : Nat) (g : Grant) : State × Bool :=
  let h := s.pch.look c
  if h.running && decide (h.shutTo ≤ h.openLo) && decide (g.frame8 = h.openLo % 256) then s.grantInto c h.buf0 g (fun b h => { h with buf0 := b })
  else if h.running && decide (h.shutTo ≤ h.openLo + 1) && decide (g.frame8 = (h.openLo + 1) % 256) then s.grantInto c h.buf1 g (fun b h => { h with buf1 := b })
  else (s.inc (SHD_LATE_WRITE c), false)

/-- The key of a role's port. -/
def portKey (k r port : Nat) : Nat := 512 * k + 32 * r + port

/-- A refusal of the receiving block, on the response port that the threading pairs with the port (R232): what it carries is in no rule. -/
def State.respond (s : State) (k r port : Nat) : State :=
  match (s.drf.ports.look (portKey k r port)).resp with
  | none => s
  | some y =>
    let d := s.draw
    { d.2 with shu := { d.2.shu with ports := d.2.shu.ports.upd (portKey k r y) (· ++ [[d.1]]) } }

/-- A refusal to the role whose port the threading binds to queue `bind` of channel c (R187, R191). -/
def State.refuseTo (s : State) (bind c : Nat) : State :=
  match s.drf.ports.find? (fun e => decide (e.2.bind = bind) && decide (e.2.index = c)) with
  | some e => s.respond (e.1 / 512) (e.1 / 32 % 16) (e.1 % 32)
  | none => s

-- ===== hints (R214, R215) =====

/-- The round-trip delay of a slot, in ns (R214). -/
def State.slotDelay (s : State) (c i : Nat) : Int :=
  let b := s.bpf c
  (s.pch.look c).teqd - (if b = 0 then 0 else (2 * s.g (RNG_ONU c i) RNG_ONU_EQD * 125000 + b) / (2 * b) : Nat)

/-- Earliest arrival of the next occurrence of a hint, in ns (R214). -/
def State.hintArrival (s : State) (c : Nat) (h : Hint) : Int :=
  h.ready + (s.slotDelay c (s.g (SHD_ALLOC c h.alloc) SHD_ALLOC_SLOT) + 1) / 2 + s.g (SHD_HINT_CTL c) SHD_HINT_CTL_HINT_MARGIN_NS

/-- The frame in which an arrival falls: floor((a − Teqd − OFFSET_NS) / 125,000). -/
def State.arrivalFrame (s : State) (c : Nat) (a : Int) : Int :=
  (a - (s.pch.look c).teqd - (s.pch.look c).offset) / 125000

/-- The offset of an arrival from the start of frame `f`, in units of R536, rounded up or down, at most the last StartTime. -/
def State.arrivalUnit (s : State) (c : Nat) (a : Int) (f : Int) (up : Bool) : Nat :=
  let h := s.pch.look c
  let off := (a - (f * 125000 + h.offset + h.teqd)).toNat * s.bpf c
  let d := 125000 * unitBits h.mode
  min (if up then cdiv off d else off / d) (maxStart h.mode h.usRate)

/-- The HINT entry of an occurrence (R215). -/
def State.hintEntry (s : State) (c : Nat) (h : Hint) (a : Int) (f : Int) : InEntry :=
  let b := a + h.window
  let g := s.arrivalFrame c b
  let slack := if g - f < 0 then 0 else min (g - f).toNat 127
  let latest := if 127 < (g - f).toNat then maxStart (s.pch.look c).mode (s.pch.look c).usRate else s.arrivalUnit c b (f + slack) false
  { w0 := word (4 * 2 ^ 29 + h.alloc * 2 ^ 17 + h.allocId), w1 := word (toBits 32 f),
    w2 := word (b2n h.dbru * 2 ^ 31 + slack * 2 ^ 24 + min h.bytes 16777215),
    w3 := word (s.arrivalUnit c a f true * 2 ^ 16 + latest) }

/-- Count a late or dropped occurrence. -/
def State.hintLate (s : State) (c : Nat) : State := (s.inc (SHD_HINT_LATE c)).ev (SHD_POL_STATUS c) SHD_POL_STATUS_HINT_LATE

/-- Deliver the occurrences of one hint that are due (R214): the answer is what stays of the hint. A full queue keeps the
occurrence for the next seal, as its writer retries (R184). -/
def State.hintRun : Nat → State → Nat → Hint → State × Option Hint
  | 0, s, _, h => (s, some h)
  | n + 1, s, c, h =>
    let a := s.hintArrival c h
    let f := s.arrivalFrame c a
    let lo := (s.pch.look c).openLo
    let next := if h.repeats = 0 then none else some { h with ready := h.ready + h.period, repeats := h.repeats - 1 }
    let go := fun (s : State) => match next with
      | some h' => State.hintRun n s c h'
      | none => (s, none)
    if !(s.pch.look c).running || (lo : Int) + 1 < f then (s, some h)
    else if f < (lo : Int) then go (s.hintLate c)
    else
      let r := s.inqPush c (s.hintEntry c h a f)
      if r.2 then go (if f = (lo : Int) then r.1.hintLate c else r.1) else (s, some h)

/-- HINT_DELIVER: every due occurrence of the channel's table (R214). -/
def State.hintDeliver (s : State) (c : Nat) : State :=
  let r := (s.shd.look c).hints.foldl (fun (acc : State × List Hint) h =>
    let q := State.hintRun (h.repeats + 1) acc.1 c h
    (q.1, acc.2 ++ q.2.toList)) (s, [])
  r.1.updShd c (fun d => { d with hints := r.2 })

/-- The BOOK writes that a full queue refused are tried again (R184). -/
def State.bookRetry (s : State) (c : Nat) : State :=
  let r := (s.rng.look c).retry.foldl (fun (acc : State × List (Word × Word × Word × Word)) e =>
    let q := acc.1.inqPush c ⟨e.1, e.2.1, e.2.2.1, e.2.2.2⟩
    (q.1, if q.2 then acc.2 else acc.2 ++ [e])) (s, [])
  r.1.updRng c (fun d => { d with retry := r.2 })

-- ===== the seal =====

/-- A burst: the grants of one chain, in write order (R120, R188). -/
structure Burst where
  slot : Nat
  grants : List Grant
  deriving DecidableEq, Repr, Inhabited

/-- StartTime of a burst: that of its first grant. -/
def Burst.start (b : Burst) : Nat := match b.grants with
  | g :: _ => g.start
  | [] => 0

/-- TRIM of a burst: the lowest of its grants (R191). -/
def Burst.trim (b : Burst) : Nat := b.grants.foldl (fun m g => min m g.trim) 3

/-- Append a chained grant to the latest burst of its slot. -/
def chainInto (sl : Nat) (g : Grant) : List Burst → List Burst
  | [] => [⟨sl, [g]⟩]
  | b :: bs =>
    if bs.any (fun x => decide (x.slot = sl)) then b :: chainInto sl g bs
    else if b.slot = sl then { b with grants := b.grants ++ [g] } :: bs
    else b :: chainInto sl g bs

/-- The bursts of a buffer, in write order. -/
def State.bursts (s : State) (c : Nat) (b : List Grant) : List Burst :=
  b.foldl (fun l g => if g.start = 0xFFFF then chainInto (s.grantSlot c g) g l else l ++ [⟨s.grantSlot c g, [g]⟩]) []

/-- Insert a burst after those of equal StartTime (R106 step 2). -/
def burstInsert (b : Burst) : List Burst → List Burst
  | [] => [b]
  | x :: xs => if b.start < x.start then b :: x :: xs else x :: burstInsert b xs

/-- Stable sort by StartTime. -/
def burstSort (l : List Burst) : List Burst := l.foldl (fun acc b => burstInsert b acc) []

/-- The profile a burst is sealed with (R171, R172, R189, R190, R121): the grant's own, or the slot's; profile 1 where the
equaliser memory is off, the entry is not VALID or it holds a 4-byte delimiter. -/
def State.burstProf (s : State) (c : Nat) (b : Burst) : Nat × Bool :=
  let g := b.grants.head?.getD ⟨0, 0, 0⟩
  let p := if g.profOvr then g.prof else if b.slot = 256 || !s.on (PCH_BRX_CTL c) PCH_BRX_CTL_EQ_MEM_EN then 1
    else s.g (RNG_ONU c b.slot) RNG_ONU_PROF
  if !s.on (PCH_BRX_PROF c p) PCH_BRX_PROF_VALID then (1, false)
  else if !s.on (PCH_BRX_PROF c p) PCH_BRX_PROF_DELIM8 then (1, true)
  else (p, false)

/-- Payload of a burst in bytes with its DBRus: Σ(g + 4 × dbru). -/
def burstBytes (mode : Nat) (b : Burst) : Nat := (b.grants.map (fun g => g.size * (unitBits mode / 8) + 4 * b2n g.dbru)).sum

/-- The burst length after the delimiter, in bits: header, trailer and payload with FEC parity (R204). -/
def burstBits (mode : Nat) (fec : Bool) (b : Burst) : Nat :=
  let k := fecRatio mode fec
  8 * cdiv ((12 + burstBytes mode b) * k.1) k.2

/-- Keep the bursts whose extent overlaps no burst kept before (R106 step 3): (kept, removed). -/
def State.overlapDrop (s : State) (c : Nat) (l : List Burst) : List Burst × List Burst :=
  let h := s.pch.look c
  let ext := fun (b : Burst) =>
    let p := (s.burstProf c b).1
    let a := b.start * unitBits h.mode
    (a, a + s.g (PCH_BRX_PROF c p) PCH_BRX_PROF_PRE_BITS + 64 + burstBits h.mode (s.on (PCH_BRX_PROF c p) PCH_BRX_PROF_FEC_ON) b)
  let r := l.foldl (fun (acc : List Burst × List Burst × List (Nat × Nat)) b =>
    let e := ext b
    if acc.2.2.any (fun x => decide (e.1 < x.2) && decide (x.1 < e.2)) then (acc.1, acc.2.1 ++ [b], acc.2.2)
    else (acc.1 ++ [b], acc.2.1, acc.2.2 ++ [e])) ([], [], [])
  (r.1, r.2.1)

/-- Grants of a list of bursts. -/
def grantCount (l : List Burst) : Nat := (l.map (fun b => b.grants.length)).sum

/-- The burst that trimming removes first (R191): the highest TRIM, then the latest StartTime, then the latest in sorted
order. -/
def trimPick (l : List Burst) : Nat :=
  (l.foldl (fun (acc : Nat × Nat × Option Burst) b =>
    match acc.2.2 with
    | none => (acc.1 + 1, acc.1, some b)
    | some m => if m.trim < b.trim || (m.trim = b.trim && m.start ≤ b.start) then (acc.1 + 1, acc.1, some b)
                else (acc.1 + 1, acc.2.1, acc.2.2)) (0, 0, none)).2.1

/-- Trim a map until its grants fit (R191): (kept, removed). -/
def trimTo (avail : Nat) : Nat → List Burst → List Burst × List Burst
  | 0, l => (l, [])
  | n + 1, l =>
    if grantCount l ≤ avail then (l, [])
    else
      let i := trimPick l
      let r := trimTo avail n (l.eraseIdx i)
      (r.1, (l.drop i).take 1 ++ r.2)

/-- Whether a burst of frame n is a directed ranging grant (R155, R168): every grant of an ASSIGNED ONU outside undertone discovery, and
the booked one of an ONU in RERANGE. -/
def State.rangingGrant (s : State) (c n : Nat) (b : Burst) : Bool :=
  let h := s.slot c b.slot
  decide (b.slot < 256) && !h.vidan && (decide (s.slotState c b.slot = 1) || (decide (s.slotState c b.slot = 3) && decide (h.rangeFrame = some n)))

/-- The search range of a burst of frame n relative to E (R122, R154, R168): ±64 bits, the whole quiet-window span for the broadcast
Alloc-ID (answers come with EqD 0, so from DMIN to DMAX and the random delay and burst of some 90 µs), ±2 µs for a
directed ranging grant. -/
def State.searchRange (s : State) (c n : Nat) (b : Burst) : Int × Int :=
  let f := s.bpf c
  let t := (s.pch.look c).teqd
  if b.slot = 256 then
    (- (nsToBits f (t - s.g (RNG_SPAN c) RNG_SPAN_DMIN_US * 1000) : Nat),
     nsToBits f (min (s.g (RNG_SPAN c) RNG_SPAN_DMAX_US * 1000) t + 90000) - (nsToBits f t : Nat))
  else if s.rangingGrant c n b then (- (nsToBits f 2000 : Nat), nsToBits f 2000)
  else (-64, 64)

/-- The equaliser entry of a burst (R84, R163): the slot's; of an ASSIGNED ONU the undertone entry of its follow-up (the slot's own once
that is copied), or the default entry while it is unranged; entry 260 for the broadcast Alloc-ID and with the memory off. -/
def State.burstEntry (s : State) (c : Nat) (sl : Nat) : Nat :=
  if sl = 256 || !s.on (PCH_BRX_CTL c) PCH_BRX_CTL_EQ_MEM_EN then 260
  else if s.slotState c sl = 1 then (if (s.slot c sl).vidan then (s.slot c sl).vEntry else 260)
  else sl

/-- Clip the end of the latest window against a new one (R126): both are marked, and the midpoint belongs to the later. -/
def clipLast (w : Win) : List Win → List Win × Win
  | [] => ([], w)
  | [p] =>
    let a : Int := w.e + w.lo
    let b : Int := p.e + p.hi
    if a ≤ b then
      let m := (a + b) / 2
      ([{ p with hi := m - 1 - p.e, clipped := true }], { w with lo := m - w.e, clipped := true })
    else ([p], w)
  | p :: q :: ps =>
    let r := clipLast w (q :: ps)
    (p :: r.1, r.2)

/-- Device time of the latest PSync of a channel, in ns (R105). -/
def State.psyncNs (s : State) (c : Nat) : Nat := s.rd64 (DSF_PSYNC_SEC c) * 1000000000 + (s.rd (DSF_PSYNC_NS c)).toNat

/-- U(n) in upstream bits of device time, for the frame after the latest PSync (R119): its PSync, 125 µs later, and the equalised response
time in force at the seal. -/
def State.upStart (s : State) (c : Nat) : Nat := nsToBits (s.bpf c) (s.psyncNs c + 125000 + (s.pch.look c).teqd)

/-- The window of an issued burst (R119, R122). -/
def State.mkWin (s : State) (c n : Nat) (b : Burst) (ids : List (Nat × Grant)) : Win :=
  let h := s.pch.look c
  let p := (s.burstProf c b).1
  let pre := s.g (PCH_BRX_PROF c p) PCH_BRX_PROF_PRE_BITS
  let fec := s.on (PCH_BRX_PROF c p) PCH_BRX_PROF_FEC_ON
  let r := s.searchRange c n b
  { (default : Win) with
    grants := ids, frame := n, slot := b.slot, pre := pre, fec := fec,
    e := s.upStart c + b.start * unitBits h.mode + pre, lo := r.1, hi := r.2,
    len := 64 + burstBits h.mode fec b, disc := decide (b.slot = 256), rng := decide (b.slot = 256) || s.rangingGrant c n b,
    entry := s.burstEntry c b.slot }

/-- Reserve an entry for each grant of a burst, in order (R191). -/
def State.reserveBurst (s : State) (c n : Nat) (b : Burst) : State × List (Nat × Grant) :=
  b.grants.foldl (fun (acc : State × List (Nat × Grant)) g =>
    let s := acc.1
    let i := freeFrom 4096 0 s.ledger
    let e : LEntry := { (default : LEntry) with state := 1, channel := c, allocId := g.allocId, frame := n, sealNs := s.tim.ns, sealAt := s.now, grant := g }
    ({ s with ledger := s.ledger.put i e }.inc (lkey (SHD_LEDGER_ISSUED c)), acc.2 ++ [(i, g)])) (s, [])

/-- A burst as it is sealed: each grant carries the profile (R171, R189). -/
def State.withProf (s : State) (c : Nat) (b : Burst) : Burst :=
  let p := (s.burstProf c b).1
  { b with grants := b.grants.map (fun g => { g with w0 := bset g.w0 22 2 p }) }

/-- Issue one burst: its ledger entries, its window, its granted bytes (R106, R119, R189, R191, R447). -/
def State.issueBurst (s : State) (c n : Nat) (b : Burst) : State :=
  let mode := (s.pch.look c).mode
  let s := s.when (s.burstProf c b).2 (fun s => s.ev (PCH_BRX_STATUS c) PCH_BRX_STATUS_PROFILE_BAD)
  let w0 := s.mkWin c n b []
  let r := s.reserveBurst c n (s.withProf c b)
  let w := { w0 with grants := r.2 }
  let s := r.1
  let q := clipLast w (s.pch.look c).wins
  let s := s.when (q.2.clipped && !w.clipped) (fun s => (s.add (BRX_CLIPPED c) 2).ev (PCH_BRX_STATUS c) PCH_BRX_STATUS_CLIPPED)
  let s := s.updPch c (fun h => { h with wins := q.1 ++ [q.2] })
  s.bwAdd c (PMC_BW_GRANTED c) ((b.grants.map (fun g => g.size * (unitBits mode / 8))).sum)

/-- Steps 2 to 4 of a seal, over the buffer of frame n (R106, R191). -/
def State.sealMap (s : State) (c n : Nat) (buf : List Grant) : State :=
  let l := burstSort (s.bursts c buf)
  let k := s.overlapDrop c l
  let s := s.add (SHD_OVERLAP_DROP c) (grantCount k.2)
  let s := s.when (k.2.any (fun b => decide (b.slot = 256))) (fun s =>
    ((s.ev (RNG_STATUS c) RNG_STATUS_QW_REBOOK).p (RNG_STATUS c) RNG_STATUS_QW_ACTIVE 0).updRng c (fun r => { r with qwDue := true, qwBooked := false }))
  let t := trimTo (s.ledgerAvail c) k.1.length k.1
  let s := s.add (lkey (SHD_LEDGER_WITHHELD c)) (grantCount t.2)
  let s := s.add (SHD_TRIMMED_BURSTS c) t.2.length
  let s := s.when (!t.2.isEmpty) (fun s => s.ev (SHD_STATUS c) SHD_STATUS_TRIMMED)
  let g := t.1.flatMap (fun b => (s.withProf c b).grants)
  let s := t.1.foldl (fun s b => s.issueBurst c n b) s
  s.updPch c (fun h => { h with sealed := g })

/-- A message that names frames, as the frame n that carries it fixes them: START_SF is that of frame n + 4 (R157), GRANT_SF that of frame
n + 2 (R163), SWITCH_SF that of frame n + 8 (R361). -/
def ploamAt (n : Nat) : Ploam → Ploam
  | .vidanInvite nonce _ p => .vidanInvite nonce (word (n + 4)) p
  | .vidanAssign nonce k i q p _ => .vidanAssign nonce k i q p (word (n + 2))
  | .vidanRerange i _ k => .vidanRerange i (word (n + 4)) k
  | .muteProbe i _ k => .muteProbe i (word (n + 4)) k
  | .sealedReq i l => .sealedReq i (if l.getD 1 0 = 1 then l.take 2 ++ beBytes 4 ((n + 8) % 2 ^ 32) ++ l.drop 6 else l)
  | m => m

/-- What follows when frame n carries a message: the frame of a switch to sealed mode is fixed (R361), the undertone window of an invitation is fixed (R157), and the follow-up grant of an
assignment is booked in frame GRANT_SF (R163). -/
def State.ploamCarried (s : State) (c n : Nat) (m : Ploam) : State := match m with
  | .vidanInvite nonce _ _ => s.updRng c (fun r => if r.utNonce = nonce then { r with utStart := some (n + 4) } else r)
  | .sealedReq i _ => s.updCry (fun d => { d with seals := d.seals.upd (256 * c + i) (Option.map (fun q =>
      if q.phase = 2 then { q with switchSf := n + 8 } else q)) })
  | .vidanAssign _ _ i _ _ _ => s.when (decide (s.slotState c i = 1) && (s.slot c i).vidan) (fun s => s.book c false i (n + 2) 0 0)
  | _ => s

/-- PLOAMs taken at the seal of frame n (R112). -/
def State.ploamBind (s : State) (c n : Nat) : State :=
  let k := min (s.g (DSF_CTL c) DSF_CTL_PLOAM_MAX) 16
  let l := ((s.pch.look c).ploamQ.take k).map (ploamAt n)
  let s := s.updPch c (fun h => { h with ploamTx := l, ploamQ := h.ploamQ.drop k })
  l.foldl (fun s m => s.ploamCarried c n m) s

/-- A write of PCH[c]_BRX_CTL: with EQ_MEM_EN = 0 every slot takes profile 1 (R172). -/
def State.brxCtlWrite (s : State) (c : Nat) (v : Word) : State :=
  let s := s.wrRW (PCH_BRX_CTL c) v
  s.when (!s.on (PCH_BRX_CTL c) PCH_BRX_CTL_EQ_MEM_EN) (fun s =>
    s.overRegs (RNG_ONU c 0) (RNG_ONU c 256) (fun a s => if (a - RNG_ONU c 0) % 16 = 0 then s.wr a (bset (s.rd a) 24 2 1) else s))

end Sys2Proof.Machine
end

