-- ==== Sys2Proof/Machine/Shed.lean ====
section
/-! DEFINITION. The shed shuttle (chapters 7 and 8): allocations, input entries, the grant ledger's closes, the sweep. -/
namespace Sys2Proof.Machine

-- ===== allocation entries (R180, R181) =====

/-- The refusal code of a write that leaves entry `a` with words `w` (R180); 0 for a write that stands. -/
def State.allocCheck (s : State) (c a : Nat) (w : Nat → Word) : Nat :=
  let old := s.on (SHD_ALLOC c a) SHD_ALLOC_VALID
  let valid := bget (w 0) 31 1 = 1
  let ra := bget (w 1) 0 20 + bget (w 2) 0 20
  let id := bget (w 0) 0 14
  let sum := s.g (SHD_GUAR_SUM c) SHD_GUAR_SUM_GUAR_SUM
  let new := sum - (if old then s.guarOf c a else 0) + (if valid then ra else 0)
  if !old && !valid then 0
  else if eligOf (bget (w 0) 29 2) ≠ 0 && decide (bget (w 3) 0 20 < ra) then 1
  else if sum < new && decide (s.guarLimit c < new) then 2
  else if 256 ≤ a && (decide (id < 1024) || decide (16383 < id)) then 3
  else if (List.range 512).any (fun b => decide (b ≠ a) && s.on (SHD_ALLOC c b) SHD_ALLOC_VALID && decide (s.g (SHD_ALLOC c b) SHD_ALLOC_ALLOC_ID = id)) then 4
  else if old && (decide (bget (w 0) 18 8 ≠ s.g (SHD_ALLOC c a) SHD_ALLOC_SLOT) || decide (id ≠ s.g (SHD_ALLOC c a) SHD_ALLOC_ALLOC_ID)) then 5
  else 0

/-- A write to word `i` of an allocation entry (R180): checked at once; a refused write leaves the entry unchanged. -/
def State.allocWrite (s : State) (c a i : Nat) (v : Word) : State :=
  let off := SHD_ALLOC c a + 4 * i
  let t := s.wrRW off v
  let w := fun k => t.rd (SHD_ALLOC c a + 4 * k)
  let code := s.allocCheck c a w
  if code ≠ 0 then (s.p (SHD_STATUS c) SHD_STATUS_REFUSE_CODE code).ev (SHD_STATUS c) SHD_STATUS_ALLOC_REFUSED
  else
    let old := s.on (SHD_ALLOC c a) SHD_ALLOC_VALID
    let valid := t.on (SHD_ALLOC c a) SHD_ALLOC_VALID
    let sum := s.g (SHD_GUAR_SUM c) SHD_GUAR_SUM_GUAR_SUM - (if old then s.guarOf c a else 0) + (if valid then t.guarOf c a else 0)
    (t.p (SHD_GUAR_SUM c) SHD_GUAR_SUM_GUAR_SUM sum).when (valid && !old) (fun s =>
      s.updShd c (fun h => { h with allocs := h.allocs.put a default }))

def execAllocWrite (ag : Agent) (c : Fin 64) (a : Fin 512) (i : Fin 4) (v : Word) (s : State) : Out :=
  .next (s.bus ag (SHD_ALLOC c a + 4 * i.val) (fun s => s.heldDrop ag c (fun s => s.allocWrite c a i v)))

-- ===== the ledger (R191, R192, R29) =====

/-- A write of RESERVE and LIMIT (R192): a RESERVE that would bring the sum of all above 4,096 is refused. A seal of the same
cycle still uses the old ones (R194). -/
def State.ledgerCtlWrite (s : State) (c : Nat) (v : Word) : State :=
  let old := s.g (SHD_LEDGER_CTL c) SHD_LEDGER_CTL_RESERVE
  let t := s.wrRW (SHD_LEDGER_CTL c) v
  let sum := ((List.range 64).map (fun k => t.g (SHD_LEDGER_CTL k) SHD_LEDGER_CTL_RESERVE)).sum
  let t := t.when (t.cyc.en.look (SHD_LEDGER_CTL c)).isNone (fun t =>
    t.updCyc (fun d => { d with en := d.en.put (SHD_LEDGER_CTL c) (some (s.rd (SHD_LEDGER_CTL c))) }))
  if 4096 < sum then (t.p (SHD_LEDGER_CTL c) SHD_LEDGER_CTL_RESERVE old).ev (SHD_STATUS c) SHD_STATUS_RESERVE_REFUSED
  else t

def execLedgerCtlWrite (ag : Agent) (c : Fin 64) (v : Word) (s : State) : Out :=
  .next (s.bus ag (SHD_LEDGER_CTL c) (fun s => s.heldDrop ag c (fun s => s.ledgerCtlWrite c v)))

/-- Add to the slot sums what a closed grant and its measurement descriptor say (R424). -/
def State.sumClose (s : State) (c : Nat) (e : LEntry) : State :=
  let slot := s.grantSlot c e.grant
  if 256 ≤ slot then s
  else
    let ub := unitBits (s.pch.look c).mode / 8
    s.sumUpd c slot (fun x =>
      { x with
        recv := x.recv + b2n (decide (e.outcome = 0)), absent := x.absent + b2n (decide (e.outcome = 1)),
        errored := x.errored + b2n (decide (e.outcome = 2)), discarded := x.discarded + b2n (decide (e.outcome = 3)),
        granted := x.granted + e.grant.size * ub, bytes := x.bytes + (if e.outcome = 0 then e.closeW.2.toNat else 0) })

/-- Take from the book-keeping queue the close entry of ledger entry `i` and its measurement descriptor: a RECEIVED or
ERRORED burst's descriptor becomes a burst record and joins the slot's sums (R138, R420, R424). The event of an ambiguous delimiter in a discovery window,
which has no ONU slot, names its channel (assumption 85). -/
def State.takeBk (s : State) (c i : Nat) (e : LEntry) : State :=
  let q := (s.pch.look c).bkq
  let hit := fun (l : List Word) => decide (bget (l.head?.getD 0) 20 12 = i)
  let meas := q.find? (fun l => hit l && decide (l.length = 8))
  let q1 := q.eraseP (fun l => hit l && decide (l.length = 2))
  let q2 := q1.eraseP (fun l => hit l && decide (l.length = 8))
  let s := s.updPch c (fun h => { h with bkq := q2 })
  match meas with
  | none => s
  | some d =>
    let s := s.boltProduce 3 (burstRecord c e.frame d)
    let slot := s.grantSlot c e.grant
    let s := s.when (decide (slot < 256) && decide (e.outcome = 0)) (fun s => s.sumUpd c slot (fun x => x.addBurst d))
    s.when (decide (bget (d.getD 0 0) 8 1 = 1)) (fun s =>
      (if slot < 256 then s.boltEvent 0x80 2 (c * 256 + slot) else s.boltEvent 0x80 1 c) (32 + c) [(d.getD 0 0).toNat, (d.getD 2 0).toNat])

/-- The book-keeping shuttle of channel c closes entry i (R191): refused as stale or early, which returns on its queue port, else closed. In
the cycle in which the deadline has closed the entry, the shuttle's close is the one that counts (R194). -/
def execLedgerClose (c : Fin 64) (i : Fin 4096) (frameBits : Fin 262144) (s : State) : Out :=
  let e := s.ledger.look i
  let mine := decide (e.channel = c) && decide (e.frame % 2 ^ 18 = frameBits)
  let forced := lkey (SHD_LEDGER_FORCED_CLOSE c)
  .next (if e.state = 0 && mine && s.cyc.forced.look i then
      ((s.wr64 forced (s.rd64 forced - 1)).updCyc (fun d => { d with forced := d.forced.put i false })).takeBk c i e
    else if e.state = 0 || !mine then
      ((s.inc (SHD_CLOSE_STALE c)).ev (SHD_STATUS c) SHD_STATUS_CLOSE_STALE).refuseTo 3 c
    else if e.state = 1 then ((s.inc (SHD_CLOSE_EARLY c)).ev (SHD_STATUS c) SHD_STATUS_CLOSE_EARLY).refuseTo 3 c
    else ((s.closeEntry i).takeBk c i e).sumClose c e)

/-- The ledger hardware closes an entry 16 µs after its outcome was fixed (R29, R191). -/
def execLedgerForcedClose (i : Fin 4096) (s : State) : Out :=
  let e := s.ledger.look i
  .next (s.when (decide (e.state = 2) && decide (e.deadline ≤ s.now)) (fun s =>
    (((s.closeEntry i).inc (lkey (SHD_LEDGER_FORCED_CLOSE e.channel))).sumClose e.channel e).updCyc
      (fun d => { d with forced := d.forced.put i true })))

-- ===== cost and placement (R204, R208, R210) =====

/-- Guard between bursts, bits. -/
def State.guardBits (s : State) (c : Nat) : Nat := max 64 (s.policy c SHD_POLICY_GUARD_BITS)

/-- The preamble and FEC ratio of profile p; 1 stands for an entry that is not VALID (R189). -/
def State.profOf (s : State) (c p : Nat) : Nat × Nat × Nat :=
  let p := if s.on (PCH_BRX_PROF c p) PCH_BRX_PROF_VALID && s.on (PCH_BRX_PROF c p) PCH_BRX_PROF_DELIM8 then p else 1
  let r := fecRatio (s.pch.look c).mode (s.on (PCH_BRX_PROF c p) PCH_BRX_PROF_FEC_ON)
  (s.g (PCH_BRX_PROF c p) PCH_BRX_PROF_PRE_BITS, r.1, r.2)

/-- Cost of a burst of payload `n` in bytes (R204). -/
def burstCost (guard_ : Nat) (k : Nat × Nat × Nat) (n : Nat) : Nat :=
  cdiv (k.1 + 64 + guard_) 8 + cdiv ((12 + n) * k.2.1) k.2.2

/-- Cost of growing a burst of payload `b` by `n` bytes. -/
def growCost (k : Nat × Nat × Nat) (b n : Nat) : Nat := cdiv ((12 + b + n) * k.2.1) k.2.2 - cdiv ((12 + b) * k.2.1) k.2.2

/-- Length of a burst on the wire, in bits. -/
def burstLen (k : Nat × Nat × Nat) (pay : Nat) : Nat := k.1 + 64 + 8 * cdiv ((12 + pay) * k.2.1) k.2.2

/-- cap of R202, in bytes, within FB_PCT of a masked engine (R364). -/
def State.capOf (s : State) (c : Nat) : Nat := s.bpf c / 8 * s.fbPct c / 100

/-- What is placed in frame F. -/
def State.placing (s : State) (c f : Nat) : Placing :=
  ((s.shd.look c).placings.find? (fun p => decide (p.frame = f))).getD { (default : Placing) with frame := f }

/-- Change what is placed in frame F. -/
def State.setPlacing (s : State) (c : Nat) (p : Placing) : State :=
  s.updShd c (fun h => { h with placings := p :: h.placings.filter (fun q => decide (q.frame ≠ p.frame)) })

/-- got(a, F) and out(a) of R205. -/
def AllocSt.gotIn (x : AllocSt) (f : Nat) : Nat := ((x.got.filter (fun e => decide (e.1 = f))).map (·.2)).sum
def AllocSt.outOf (x : AllocSt) : Nat := ((x.out.filter (fun e => decide (x.rf < e.1))).map (·.2)).sum

/-- Demand d(a) (R205). -/
def State.demand (s : State) (c a : Nat) : Nat :=
  let x := s.alst c a
  if s.al c a SHD_ALLOC_DBRU ≠ 0 then x.occ - x.outOf else x.tm.getD (s.tune c SHD_TUNE_TM_PROBE)

/-- What the shed may grant to a slot (R147, R173, R179): 2 as it decides, 1 keep-alive grants only, 0 none. -/
def State.rights (s : State) (c slot : Nat) : Nat :=
  let st := s.slotState c slot
  if st = 2 then (if s.on (PCH_ONU_DEF c slot) PCH_ONU_DEF_LOB_LIVE || s.on (PCH_ONU_DEF c slot) PCH_ONU_DEF_DG_LIVE then 1 else 2)
  else if st = 3 || st = 4 then 1 else 0

/-- An allocation granted under the class rules (R179). -/
def State.grantable (s : State) (c a : Nat) : Bool :=
  decide (s.al c a SHD_ALLOC_VALID ≠ 0) && decide (s.rights c (s.al c a SHD_ALLOC_SLOT) = 2)

/-- The allocation is anchored (R210). -/
def State.anchored (s : State) (c a : Nat) : Bool :=
  decide (s.alPol c a SHD_ALLOC_POL_ANCHOR ≠ 0) && decide (s.al c a SHD_ALLOC_DBRU ≠ 0) && decide (s.timing c SHD_TIMING_ANCHOR_NS ≠ 0)

/-- A grant of a in frame F asks for a DBRu: once a frame, and never outside the report grant of an anchored one. -/
def State.wantsDbru (s : State) (c a : Nat) (p : Placing) : Bool :=
  decide (s.al c a SHD_ALLOC_DBRU ≠ 0) && !s.anchored c a && !p.dbru.contains a

/-- When the map of frame F seals, in 1/8 ns (R106, R107). -/
def State.seal8 (s : State) (c f : Nat) : Int :=
  let h := s.pch.look c
  (h.due8 : Int) + ((f : Int) - (s.rd64 (DSF_SFC c) : Nat) - 1) * 1000000 - 8 * (h.leadNext : Nat)

/-- The shed may still write to open frame F (R200, R203, R458): it is not halted, no overrun closed the frame, and CUTOFF_NS before its
seal has not passed. -/
def State.mayWrite (s : State) (c f : Nat) : Bool :=
  decide (s.chState c = 2) && !(s.shd.look c).halted && !(s.placing c f).overrun
    && decide (((8 * (s.now + (s.pch.look c).cutNext) : Nat) : Int) ≤ s.seal8 c f)

/-- Occupied extents of a frame, in its upstream bits: bursts with their guard, and booked spans (R210). -/
def State.occupied (s : State) (c : Nat) (p : Placing) : List (Int × Int) :=
  let k := s.guardBits c
  let b : Int := (p.frame * s.bpf c : Nat)
  p.bursts.map (fun x => ((x.s : Int) - k, (x.e : Int) + k)) ++ (s.shd.look c).spans.map (fun e => (e.1 - b, e.2 - b))

/-- The first position from `pos` at which `len` bits meet no occupied extent, a multiple of the unit. -/
def firstFree (occ : List (Int × Int)) (unit len : Nat) : Nat → Nat → Nat
  | 0, pos => pos
  | n + 1, pos =>
    match occ.find? (fun e => decide (e.1 < ((pos + len : Nat) : Int)) && decide ((pos : Int) < e.2)) with
    | some e => firstFree occ unit len n (cdiv e.2.toNat unit * unit)
    | none => pos

/-- The place of a burst of `len` bits from segment j on (R210). -/
def segPlace (occ : List (Int × Int)) (unit len fb : Nat) : Nat → Nat → Option Nat
  | 0, _ => none
  | n + 1, j =>
    let p := firstFree occ unit len (occ.length + 1) (cdiv (j * (fb / 16)) unit * unit)
    if p < (j + 1) * (fb / 16) && decide (p + len ≤ fb) then some p else segPlace occ unit len fb n (j + 1)

/-- The words of a grant (R186). -/
def mkGrant (f prof : Nat) (ovr dbru ploamu : Bool) (trim id start size : Nat) (bcast : Bool) (entry : Nat) : Grant :=
  ⟨word (f % 256 * 2 ^ 24 + prof * 2 ^ 22 + b2n ovr * 2 ^ 21 + b2n dbru * 2 ^ 20 + b2n ploamu * 2 ^ 19 + trim * 2 ^ 16 + id),
   word (start % 2 ^ 16 * 2 ^ 16 + size % 2 ^ 16), word (b2n bcast * 2 ^ 9 + entry)⟩

/-- The most grants of a frame (R208). -/
def State.maxGrants (s : State) (c : Nat) : Nat := clampN 1 512 (s.policy c SHD_POLICY_MAX_GRANTS)

/-- Count a grant of allocation a (512: a booking) placed in a frame, and the frame that reaches MAX_GRANTS (R208). -/
def State.countGrant (s : State) (c a : Nat) (p : Placing) : State :=
  let q := { p with n := p.n + 1, own := p.own.upd a (· + 1), capHit := p.capHit || decide (s.maxGrants c ≤ p.n + 1) }
  (s.setPlacing c q).when (q.capHit && !p.capHit) (fun s =>
    (s.inc (SHD_GRANT_CAP_HIT c)).ev (SHD_POL_STATUS c) SHD_POL_STATUS_GRANT_CAP)

/-- Bytes written to an allocation in a frame enter got and out. -/
def State.noteBytes (s : State) (c a f n : Nat) : State :=
  s.updAl c a (fun x => { x with got := x.got ++ [(f, n)], out := x.out ++ [(f, n)] })

/-- What one placement asks for: profile override, DBRu, PLOAMu, TRIM, whether it may chain, and whether it carries fixed bytes or a share of
a sweep. -/
structure Ask where
  prof : Option Nat
  dbru : Bool
  ploamu : Bool
  trim : Nat
  chain : Bool
  data : Bool
  deriving DecidableEq, Repr, Inhabited

/-- The profile the shed expects a grant to be sealed with. -/
def State.askProf (s : State) (c a : Nat) (k : Ask) : Nat := k.prof.getD (s.g (RNG_ONU c (s.al c a SHD_ALLOC_SLOT)) RNG_ONU_PROF)

/-- Chain `n` bytes to a's latest burst in frame F, when nothing was placed after it and the longer burst fits (R208); none
when it cannot. -/
def State.chainPut (s : State) (c f a n limit : Nat) (k : Ask) : Option State :=
  let p := s.placing c f
  match p.bursts.getLast? with
  | none => none
  | some b =>
    let kk := s.profOf c (s.askProf c a k)
    let ub := unitBits (s.pch.look c).mode / 8
    let add := cdiv n ub * ub + 4 * b2n k.dbru
    let e2 := b.s + burstLen kk (b.pay + add)
    let rest := { p with bursts := p.bursts.dropLast }
    let cost := growCost kk b.cp (n + 4 * b2n k.dbru)
    if !k.chain || b.a ≠ a || s.bpf c < e2 || limit < cost
        || (s.occupied c rest).any (fun o => decide (o.1 < (e2 : Int)) && decide ((b.s : Int) < o.2)) then none
    else
      let g := mkGrant f (k.prof.getD 0) k.prof.isSome k.dbru k.ploamu k.trim (s.al c a SHD_ALLOC_ALLOC_ID) 0xFFFF (cdiv n ub) false a
      let r := s.grantWrite c g
      if r.2 then
        let q := { p with spent := p.spent + cost, dbru := if k.dbru then a :: p.dbru else p.dbru,
                          bursts := rest.bursts ++ [{ b with e := e2, pay := b.pay + add, cp := b.cp + n + 4 * b2n k.dbru, data := b.data || k.data }] }
        some ((r.1.countGrant c a q).noteBytes c a f n)
      else some (r.1.refuseTo 2 c)

/-- Place a new burst of `n` bytes for a at bit `pos` of frame F. -/
def State.putAt (s : State) (c f a n pos : Nat) (k : Ask) : State :=
  let p := s.placing c f
  let kk := s.profOf c (s.askProf c a k)
  let unit := unitBits (s.pch.look c).mode
  let size := cdiv n (unit / 8)
  let pay := size * (unit / 8) + 4 * b2n k.dbru
  let g := mkGrant f (k.prof.getD 0) k.prof.isSome k.dbru k.ploamu k.trim (s.al c a SHD_ALLOC_ALLOC_ID) (pos / unit) size false a
  let r := s.grantWrite c g
  if r.2 then
    let q := { p with spent := p.spent + burstCost (s.guardBits c) kk (n + 4 * b2n k.dbru), dbru := if k.dbru then a :: p.dbru else p.dbru,
                      bursts := p.bursts ++ [⟨a, pos, pos + burstLen kk pay, pay, n + 4 * b2n k.dbru, k.data⟩] }
    (r.1.countGrant c a q).noteBytes c a f n
  else r.1.refuseTo 2 c

/-- Place `n` bytes for a in frame F from segment j on, chained where R208 allows; what does not fit stays in demand. -/
def State.put (s : State) (c f a n j limit : Nat) (k : Ask) : State :=
  let p := s.placing c f
  if s.maxGrants c ≤ p.n then s
  else if n = 0 && !k.dbru && !k.ploamu then s
  else match s.chainPut c f a n limit k with
    | some t => t
    | none =>
      let kk := s.profOf c (s.askProf c a k)
      let unit := unitBits (s.pch.look c).mode
      let len := burstLen kk (cdiv n (unit / 8) * (unit / 8) + 4 * b2n k.dbru)
      if limit < burstCost (s.guardBits c) kk (n + 4 * b2n k.dbru) then s
      else match segPlace (s.occupied c p) unit len (s.bpf c) (16 - j) j with
        | some pos => s.putAt c f a n pos k
        | none => s

/-- SPREAD rounded down to a power of two (R210). -/
def spreadOf (n : Nat) : Nat := if n < 2 then 1 else if n < 4 then 2 else if n < 8 then 4 else if n < 16 then 8 else 16

/-- The pieces in which bytes of an allocation go to a frame (R210): SPREAD of them, and one once its pieces stand in the frame. -/
def State.spreadIn (s : State) (c f a : Nat) : Nat :=
  if (s.placing c f).bursts.any (fun b => decide (b.a = a) && b.data) then 1 else spreadOf (s.alPol c a SHD_ALLOC_POL_SPREAD)

/-- Place an allocation's bytes of one sweep as SPREAD grants of near-equal size (R210). -/
def State.putSpread (s : State) (c f a n trim : Nat) : State :=
  let k := s.spreadIn c f a
  let slot := s.al c a SHD_ALLOC_SLOT
  (List.range k).foldl (fun s i =>
    let m := n / k + (if i < n % k then 1 else 0)
    if m = 0 then s
    else s.put c f a m (slot % (16 / k) + i * (16 / k)) (2 ^ 40) ⟨none, s.wantsDbru c a (s.placing c f), false, trim, decide (k = 1), true⟩) s

-- ===== the frame's set-up (R201, R148, R198, R210) =====

/-- The full frame number of a 32-bit FRAME field. -/
def State.fullFrame (s : State) (c : Nat) (w : Word) : Int :=
  let r : Int := (s.pch.look c).openLo
  r + sext 32 (toBits 32 ((w.toNat : Int) - r))

/-- The extent of a booked burst, in upstream bits since frame 0. -/
def State.bookExtent (s : State) (c : Nat) (e : InEntry) : Int × Int :=
  let kk := s.profOf c (bget e.w0 27 2)
  let unit := unitBits (s.pch.look c).mode
  let p : Int := s.fullFrame c e.w1 * (s.bpf c : Nat) + (bget e.w2 16 16 * unit : Nat)
  (p, p + (burstLen kk (bget e.w2 0 16 * (unit / 8)) : Nat))

/-- The span that a BOOK entry keeps free (R183), in upstream bits since frame 0. -/
def State.bookSpan (s : State) (c : Nat) (e : InEntry) : List (Int × Int) :=
  if e.w3 = 0 then []
  else
    let x := s.bookExtent c e
    let ns := fun n => (nsToBits (s.bpf c) (n * 100) : Nat)
    [(x.1 - ns (bget e.w3 16 16), x.2 + ns (bget e.w3 0 16))]

/-- A booked burst meets the span of another booking (R183, R210). -/
def State.bookClash (s : State) (c : Nat) (e : InEntry) : Bool :=
  let x := s.bookExtent c e
  ((s.bookSpan c e).foldl (fun l y => l.erase y) (s.shd.look c).spans).any (fun y => decide (x.1 < y.2) && decide (y.1 < x.2))

/-- Place a booking in an open frame (R210), one of its grants (R208). -/
def State.placeBook (s : State) (c f : Nat) (e : InEntry) : State :=
  let p := s.placing c f
  let kk := s.profOf c (bget e.w0 27 2)
  let unit := unitBits (s.pch.look c).mode
  let start := bget e.w2 16 16
  let size := bget e.w2 0 16
  let bc := decide (bget e.w0 16 1 = 1)
  let g := mkGrant f (bget e.w0 27 2) true false (decide (bget e.w0 26 1 = 1)) 0 (bget e.w0 0 14) start size bc (if bc then 0 else bget e.w0 17 9)
  if s.maxGrants c ≤ p.n then s
  else
    let r := s.grantWrite c g
    if r.2 then
      let pay := size * (unit / 8)
      let t := r.1.countGrant c 512 { p with spent := p.spent + burstCost (s.guardBits c) kk pay,
                                             bursts := p.bursts ++ [⟨512, start * unit, start * unit + burstLen kk pay, pay, pay, false⟩] }
      t.when (!bc) (fun s => s.noteBytes c (bget e.w0 17 9) f pay)
    else r.1.refuseTo 2 c

/-- A fixed grant is due in frame F (R177, R198): none yet, or SI_FRAMES frames since the last. -/
def State.fixedDue (s : State) (c a f : Nat) : Bool :=
  match (s.alst c a).lastFixed with
  | none => true
  | some x => decide (atLeast1 (s.al c a SHD_ALLOC_SI_FRAMES) ≤ f - x)

/-- Fixed grants of RF × SI_FRAMES bytes. -/
def State.fixedGrants (s : State) (c f : Nat) : State :=
  (List.range 512).foldl (fun s a =>
    let rf := s.al c a SHD_ALLOC_RF
    if s.grantable c a && decide (rf ≠ 0) && s.fixedDue c a f then
      let t := s.putSpread c f a (rf * atLeast1 (s.al c a SHD_ALLOC_SI_FRAMES)) 0
      if (t.placing c f).n = (s.placing c f).n then t else t.updAl c a (fun x => { x with lastFixed := some f })
    else s) s

/-- Keep-alive grants: one grant of the default Alloc-ID every 8 frames (R147, R148, R173). Its content is the shed's: a
DBRu where the allocation reports, and an upstream PLOAM. -/
def State.keepAlives (s : State) (c f : Nat) : State :=
  (List.range 256).foldl (fun s a =>
    if decide (s.al c a SHD_ALLOC_VALID ≠ 0) && decide (f % 8 = a % 8) && decide (s.rights c a = 1) then
      let dg := decide (s.slotState c a = 2) && !s.on (PCH_ONU_DEF c a) PCH_ONU_DEF_LOB_LIVE
      s.put c f a 0 (a % 16) (2 ^ 40) ⟨if dg then none else some 1, s.wantsDbru c a (s.placing c f), true, 0, false, false⟩
    else s) s

/-- The report grants of anchored allocations (R210): packed toward the start of the frame from the anchor position, over at
most one segment; those that do not fit come first in the next frame. -/
def State.anchorGrants (s : State) (c f : Nat) : State :=
  let h := s.pch.look c
  let fb := s.bpf c
  let unit := unitBits h.mode
  let ns := max 8000 (s.timing c SHD_TIMING_ANCHOR_NS)
  let aNs : Nat := ((-((h.teqd + ns : Nat) : Int)) % 125000).toNat
  let a0 := nsToBits fb aNs
  let from_ := (s.shd.look c).anchorFrom
  let order := (List.range 512).map (fun i => (from_ + i) % 512)
  let go := order.filter (fun a => s.grantable c a && s.anchored c a)
  let r := go.foldl (fun (acc : State × Nat × Option Nat) a =>
    let s := acc.1
    let kk := s.profOf c (s.askProf c a default)
    let len := burstLen kk 4
    let pos := (acc.2.1 - len) / unit * unit
    let p := s.placing c f
    let clash := (s.occupied c p).any (fun o => decide (o.1 < ((pos + len : Nat) : Int)) && decide ((pos : Int) < o.2))
    if acc.2.2.isSome || decide (acc.2.1 < len) || decide (pos + fb / 16 < a0) || clash || decide (s.maxGrants c ≤ p.n) then
      (s, acc.2.1, some (acc.2.2.getD a))
    else (s.putAt c f a 0 pos ⟨none, true, false, 0, false, false⟩, pos - s.guardBits c, none)) (s, a0, none)
  r.1.updShd c (fun d => { d with anchorFrom := r.2.2.getD 0 })

/-- The initial report grants after a restart of the shed (R198): at most 128 a frame, in ascending entry order; one that MAX_GRANTS or
want of room holds back comes first in the next frame. An anchored allocation has its report grants. -/
def State.startGrants (s : State) (c f : Nat) : State :=
  let d := s.shd.look c
  if !d.starting then s
  else
    let todo := (List.range 512).filter (fun a => decide (d.startNext ≤ a) && s.grantable c a && decide (s.al c a SHD_ALLOC_DBRU ≠ 0) && !s.anchored c a)
    let r := (todo.take 128).foldl (fun (acc : State × Option Nat) a =>
      if acc.2.isSome || (acc.1.placing c f).dbru.contains a then acc
      else
        let t := acc.1.put c f a 0 (acc.1.al c a SHD_ALLOC_SLOT % 16) (2 ^ 40) ⟨none, true, false, 0, true, false⟩
        if (t.placing c f).dbru.contains a then (t, none) else (acc.1, some a)) (s, none)
    let next := match r.2 with
      | some a => a
      | none => (todo.drop 128).head?.getD 512
    r.1.updShd c (fun h => { h with starting := decide (next < 512), startNext := next })

-- ===== hinted grants (R216) =====

/-- A burst of payload area `pay` with `m` grants fits in frame F from unit `lo` to unit `hi`: its place. -/
def State.hintPlace (s : State) (c f a pay m lo hi : Nat) (k : Ask) : Option Nat :=
  let kk := s.profOf c (s.askProf c a k)
  let unit := unitBits (s.pch.look c).mode
  let len := burstLen kk pay
  let occ := s.occupied c (s.placing c f)
  let p := firstFree occ unit len (occ.length + 1) (lo * unit)
  if p ≤ hi * unit && decide (p + len ≤ s.bpf c) && decide ((s.placing c f).n + m ≤ s.maxGrants c) then some p else none

/-- Place a HINT entry in open frame x, where it lies in F to F + SLACK and has room (R216): bytes up to RF + RA under TRIM 1, the others
chained to them under that of ELIG. -/
def State.hintTry (s : State) (c : Nat) (e : InEntry) (x : Nat) : Option State :=
  let a := bget e.w0 17 9
  let f := s.fullFrame c e.w1
  let slack := bget e.w2 24 7
  let last := maxStart (s.pch.look c).mode (s.pch.look c).usRate
  let cap := s.g (SHD_HINT_CTL c) SHD_HINT_CTL_HINT_CAP * 16
  if (x : Int) < f || f + slack < x || !s.grantable c a || !s.mayWrite c x then none
  else
    let p := s.placing c x
    let got := (s.alst c a).gotIn x
    let n0 := min (bget e.w2 0 24) (s.rmOf c a - got)
    let n := if cap = 0 then n0 else min n0 (cap - p.hinted)
    let n1 := min n (s.guarNow c a - got)
    let dbru := decide (bget e.w2 31 1 = 1) && !s.anchored c a
    let trim2 := eligOf (s.al c a SHD_ALLOC_ELIG) + 1
    let two := decide (n1 ≠ 0) && decide (n1 < n)
    let ub := unitBits (s.pch.look c).mode / 8
    let pay := 4 * b2n dbru + (if two then (cdiv n1 ub + cdiv (n - n1) ub) * ub else cdiv n ub * ub)
    let k : Ask := ⟨none, dbru, false, if n1 = 0 then trim2 else 1, false, false⟩
    if n = 0 && !dbru then none
    else match s.hintPlace c x a pay (1 + b2n two) (if (x : Int) = f then bget e.w3 16 16 else 0) (if (x : Int) = f + slack then bget e.w3 0 16 else last) k with
      | none => none
      | some pos =>
        let t := s.putAt c x a (if two then n1 else n) pos k
        let t := if two then (t.chainPut c x a (n - n1) (2 ^ 40) ⟨none, false, false, trim2, true, false⟩).getD t else t
        let q := t.placing c x
        some (t.setPlacing c { q with hinted := q.hinted + n })

/-- Place a HINT entry in frame F or the later open frames up to F + SLACK, or count HINT_MISS (R216). -/
def State.placeHint (s : State) (c : Nat) (e : InEntry) : State :=
  let lo := (s.pch.look c).openLo
  match s.hintTry c e lo with
  | some t => t
  | none =>
    match s.hintTry c e (lo + 1) with
    | some t => t
    | none => (s.inc (SHD_HINT_MISS c)).ev (SHD_POL_STATUS c) SHD_POL_STATUS_HINT_MISS

/-- Set up an open frame at the first sweep that meets it (R201): bookings, each outside the spans of the others (R183), fixed grants,
keep-alive and report grants, hinted grants. -/
def State.setUpFrame (s : State) (c f : Nat) : State :=
  if (s.placing c f).setUp || !s.mayWrite c f then s
  else
    let s := s.setPlacing c { s.placing c f with setUp := true }
    let d := s.shd.look c
    let mine := d.bookings.filter (fun e => decide (s.fullFrame c e.w1 = f) && !s.bookClash c e)
    let s := mine.foldl (fun s e => s.placeBook c f e) s
    let s := s.updShd c (fun h => { h with bookings := d.bookings.filter (fun e => decide ((f : Int) < s.fullFrame c e.w1)) })
    let s := ((s.fixedGrants c f).keepAlives c f).anchorGrants c f
    let s := s.startGrants c f
    let h := (s.shd.look c).hintEntries
    let s := s.updShd c (fun x => { x with hintEntries := h.filter (fun e => decide ((f : Int) < s.fullFrame c e.w1)) })
    (h.filter (fun e => decide (s.fullFrame c e.w1 ≤ f))).foldl (fun s e => s.placeHint c e) s

-- ===== the sweep (R202, R206, R207, R209) =====

/-- need(a, class, L) and the weight (R206). -/
def State.needOf (s : State) (c f a cls : Nat) : Nat × Nat :=
  let got := (s.alst c a).gotIn f
  let d := s.demand c a
  if cls = 1 then (min d (s.guarNow c a - got), s.al c a SHD_ALLOC_RA)
  else if eligOf (s.al c a SHD_ALLOC_ELIG) + 1 ≠ cls then (0, 0)
  else (min d (s.rmOf c a - got), atLeast1 (s.al c a SHD_ALLOC_WEIGHT))

/-- A plan of a sweep: (entry, bytes, TRIM), in the order of first grant. -/
abbrev Plan := List (Nat × Nat × Nat)

/-- Add bytes of a class to a plan; the grant takes the TRIM of the lowest class it contains (R208). -/
def Plan.add (p : Plan) (a n trim : Nat) : Plan :=
  if p.any (fun e => decide (e.1 = a)) then p.map (fun e => if e.1 = a then (a, e.2.1 + n, min e.2.2 trim) else e)
  else p ++ [(a, n, trim)]

/-- Cost of a planned item at its full cost (R204, R207): chained to the latest burst of the frame, where that is a's and the item is the
first that the sweep places, else as bursts of its own. -/
def State.itemCost (s : State) (c f a n : Nat) (first : Bool) : Nat :=
  let p := s.placing c f
  let kk := s.profOf c (s.askProf c a default)
  let dbru := 4 * b2n (s.wantsDbru c a p)
  let k := s.spreadIn c f a
  let own := burstCost (s.guardBits c) kk (cdiv n k + dbru) + (k - 1) * burstCost (s.guardBits c) kk (n / k)
  if n = 0 then 0
  else match p.bursts.getLast? with
    | some b => if first && decide (k = 1) && b.a = a then growCost kk b.cp (n + dbru) else own
    | none => own

/-- Cost of a plan. -/
def State.planCost (s : State) (c f : Nat) (p : Plan) : Nat :=
  (p.zipIdx.map (fun e => s.itemCost c f e.1.1 e.1.2.1 (e.2 = 0))).sum

/-- Write a plan's grants into the frame. -/
def State.lay (s : State) (c f : Nat) (p : Plan) : State := p.foldl (fun s e => s.putSpread c f e.1 e.2.1 e.2.2) s

/-- The largest level, in 2^-20, that fits (R207): bit by bit from the top. -/
def levelBits (fits : Nat → Bool) : Nat → Nat → Nat
  | 0, x => x
  | n + 1, x => if fits (x + 2 ^ n) then levelBits fits n (x + 2 ^ n) else levelBits fits n x

/-- A member's share at a level (R206). -/
def shareAt (x need w : Nat) : Nat := min need (x * w / 2 ^ 20)

/-- fill() of R207 over members (entry, need, weight) beside a plan: the largest level at which all their shares and the plan fit `budget`;
the whole budget where no member could take more. -/
def State.fill (s : State) (c f budget cls : Nat) (p : Plan) (l : List (Nat × Nat × Nat)) : Nat :=
  if l.isEmpty then (budget - s.planCost c f p) * 2 ^ 20
  else levelBits (fun x => decide (s.planCost c f (l.foldl (fun (p : Plan) e => p.add e.1 (shareAt x e.2.1 e.2.2) cls) p) ≤ budget)) 45 0

/-- The allocations in the rotated order of frame L (R206). -/
def rotated (f : Nat) : List Nat := (List.range 512).map (fun i => (f + i) % 512)

/-- Whether a longer plan places more bytes of a, and of no other allocation fewer, within `limit`: `t` is the frame with the plan so far, `u`
that with the longer one. -/
def placesMore (t u : State) (c f a limit : Nat) (p : Plan) : Bool :=
  decide ((t.alst c a).gotIn f < (u.alst c a).gotIn f) && p.all (fun e => decide ((t.alst c e.1).gotIn f ≤ (u.alst c e.1).gotIn f))
    && decide ((u.placing c f).spent ≤ limit)

/-- One class of a sweep (R206, R207) over the state `s` before it, the plan so far and the frame `t` with it: the new plan and frame, the
level, and whether every need was met. Bytes that find no place stay in demand (R210). -/
def State.sweepClass (s t : State) (c f limit cls : Nat) (order : List Nat) (plan : Plan) : Plan × State × Nat × Bool :=
  let set := (order.map (fun a => (a, t.needOf c f a cls))).filter (fun e => decide (e.2.1 ≠ 0))
  let x := s.fill c f (limit - (s.placing c f).spent) cls plan set
  let r := set.foldl (fun (acc : Plan × State) e =>
    let n := shareAt x e.2.1 e.2.2
    let p := acc.1.add e.1 n cls
    let u := s.lay c f p
    if n ≠ 0 && placesMore acc.2 u c f e.1 limit acc.1 then (p, u) else acc) (plan, t)
  (r.1, r.2, x, set.all (fun e => decide ((t.alst c e.1).gotIn f + e.2.1 ≤ (r.2.alst c e.1).gotIn f)))

/-- Overgrant (R209): up to OVG_MAX bytes for each grant in L of an allocation with OVG_EN, never beyond RM, from what the budget leaves,
in rotated order: the frame with it, and the bytes added to each allocation. The bytes of an allocation that the sweep grants enlarge its
grants; others are a grant of TRIM 3 of their own (assumption 86). -/
def State.overgrant (s t : State) (c f limit : Nat) (order : List Nat) (plan : Plan) : State × List (Nat × Nat) :=
  let m := s.tune c SHD_TUNE_OVG_MAX
  let r := order.foldl (fun (acc : Plan × State × List (Nat × Nat)) a =>
    let t := acc.2.1
    let q := t.placing c f
    let own := q.own.look a
    if s.alPol c a SHD_ALLOC_POL_OVG_EN = 0 || own = 0 then acc
    else
      let n := min (m * own - q.ovg.look a) (s.rmOf c a - (t.alst c a).gotIn f)
      let try_ := fun y => s.lay c f (acc.1.add a y 3)
      let y := levelBits (fun y => decide (y ≤ n) && placesMore t (try_ y) c f a limit acc.1) 21 0
      if y = 0 then acc else (acc.1.add a y 3, try_ y, acc.2.2 ++ [(a, y)])) (plan, t, [])
  r.2

/-- The bytes of overgrant of an allocation: no grant of them earns more. -/
def State.noteOvergrant (s : State) (c f : Nat) (e : Nat × Nat) : State :=
  let p := s.placing c f
  (s.setPlacing c { p with ovg := p.ovg.upd e.1 (· + e.2) }).add (SHD_OVG_BYTES c) e.2

/-- Share demand into frame L within `limit` cost bytes (R206 to R209). -/
def State.shareInto (s : State) (c f limit : Nat) (final : Bool) : State :=
  let order := (rotated f).filter (fun a => s.grantable c a)
  let c1 := s.sweepClass s c f limit 1 order []
  let c2 := if c1.2.2.2 then s.sweepClass c1.2.1 c f limit 2 order c1.1 else (c1.1, c1.2.1, 0, false)
  let c3 := if c2.2.2.2 then s.sweepClass c2.2.1 c f limit 3 order c2.1 else (c2.1, c2.2.1, 0, false)
  let o := if c3.2.2.2 then s.overgrant c3.2.1 c f limit order c3.1 else (c3.2.1, [])
  let t := o.2.foldl (fun s e => s.noteOvergrant c f e) o.1
  if final then t.setPlacing c { t.placing c f with
    finalDone := true, level := Tab.put (Tab.put (Tab.put [] 1 c1.2.2.1) 2 c2.2.2.1) 3 c3.2.2.1 } else t

/-- What the shed keeps no longer: placings of sealed frames and their got, spans that lie back, and, of an allocation without DBRu, grants
that closed long ago. -/
def State.ageAllocs (s : State) (c : Nat) : State :=
  let h := s.pch.look c
  let f := s.rd64 (DSF_SFC c)
  s.updShd c (fun d => { d with
    placings := d.placings.filter (fun p => decide (h.openLo ≤ p.frame)),
    spans := d.spans.filter (fun e => decide (((f : Int) - 4) * (s.bpf c : Nat) ≤ e.2)),
    allocs := d.allocs.map (fun e =>
      (e.1, { e.2 with got := e.2.got.filter (fun g => decide (h.openLo ≤ g.1)),
                       out := e.2.out.filter (fun g => decide (s.al c e.1 SHD_ALLOC_DBRU ≠ 0) || decide (f ≤ g.1 + 16)) })) })

-- ===== slices (R199, R200, R219) =====

/-- When slice `n` of the running frame begins, in 1/8 ns (R199). -/
def State.sliceAt8 (s : State) (c n : Nat) : Int := ((s.pch.look c).due8 : Int) - 1000000 + n * 62500

/-- The sweep of slice `n` of the running frame is due and has not run. -/
def State.sliceDue (s : State) (c n : Nat) : Bool :=
  decide (s.chState c = 2) && (s.pch.look c).running && decide (s.sliceAt8 c n < ((8 * s.now + 8 : Nat) : Int))
    && decide ((s.shd.look c).sliceNext ≤ 16 * s.rd64 (DSF_SFC c) + n)

/-- The sweep at a slice boundary (R199 to R202, R206): the settings written before it take force, frames not yet set up are, then demand is
shared into L up to its final sweep, at the latest boundary that lies CUTOFF_NS + 4,200 ns before the seal. In the safe state the shed
writes nothing (R458). -/
def State.sweepAt (s : State) (c n : Nat) : State :=
  let h := s.pch.look c
  let f := h.openLo
  let s := ((s.boundary c 1).shedLatch c).updShd c (fun d => { d with halted := s.safe, sliceNext := 16 * s.rd64 (DSF_SFC c) + n + 1 })
  let s := ((s.ageAllocs c).setUpFrame c f).setUpFrame c (f + 1)
  let last : Int := s.seal8 c f - (8 * (h.cutNext + 4200) : Nat)
  let p := s.placing c f
  if s.safe || p.overrun || p.finalDone || decide (last < s.sliceAt8 c n) then s
  else
    let final := decide (last < s.sliceAt8 c (n + 1))
    let hold := min 12 (s.policy c SHD_POLICY_HOLD)
    let k := if final then 16 - s.policy c SHD_POLICY_LATE_RESV else min (n + 1) (16 - hold)
    s.shareInto c f (s.capOf c * k / 16) final

/-- SLICE_SWEEP: the sweep of a slice of the running frame, once (R199). -/
def execSliceSweep (c : Fin 64) (slice : Fin 16) (s : State) : Out :=
  .next (s.when (s.sliceDue c slice) (fun s => s.sweepAt c slice))

/-- A final sweep that has not finished by the cutoff (R203): nothing further goes to the late frame. -/
def execSweepOverrun (c : Fin 64) (s : State) : Out :=
  let h := s.pch.look c
  let p := s.placing c h.openLo
  .next (s.when (decide (s.chState c = 2) && h.running && !p.overrun && !p.finalDone
      && decide (s.seal8 c h.openLo ≤ ((8 * (s.now + h.cutNext) + 7 : Nat) : Int))) (fun s =>
    ((s.setPlacing c { p with overrun := true }).inc (SHD_SWEEP_OVERRUN c)).ev (SHD_POL_STATUS c) SHD_POL_STATUS_SWEEP_OVERRUN))

-- ===== input entries (R185, R205, R211) =====

/-- Late service of a REPORT (R211): with the budget left, and before the cutoff; what finds no budget or place stays in demand. -/
def State.lateService (s : State) (c a : Nat) : State :=
  let f := (s.pch.look c).openLo
  let p := s.placing c f
  if !p.finalDone || !s.mayWrite c f || !s.grantable c a then s
  else
    let asr := s.guarNow c a - (s.alst c a).gotIn f
    let el := eligOf (s.al c a SHD_ALLOC_ELIG)
    let sur := if el = 0 then 0 else p.level.look (el + 1) * atLeast1 (s.al c a SHD_ALLOC_WEIGHT) / 2 ^ 20
    let n := min (min (s.demand c a) (asr + sur)) (s.rmOf c a - (s.alst c a).gotIn f)
    if n = 0 then s
    else
      let t := s.put c f a n (s.al c a SHD_ALLOC_SLOT % 16) (s.capOf c - p.spent)
        ⟨none, s.wantsDbru c a p, false, if asr = 0 then el + 1 else 1, true, true⟩
      if (t.placing c f).n = p.n then t else t.inc (SHD_LATE_SERVED c)

/-- A BOOK entry (R183, R210): placed at once in an open frame that is set up and may still be written, and kept for a later one; for a frame
already sealed the write is refused as late (R108). -/
def State.bookEntry (s : State) (c : Nat) (e : InEntry) : State :=
  let fI := s.fullFrame c e.w1
  let f := fI.toNat
  let s := s.updShd c (fun d => { d with spans := d.spans ++ s.bookSpan c e })
  if fI < ((s.pch.look c).openLo : Int) then s.placeBook c f e
  else if (s.placing c f).setUp then s.when (s.mayWrite c f) (fun s => s.placeBook c f e)
  else s.updShd c (fun d => { d with bookings := d.bookings ++ [e] })

/-- One entry read by the shed (R185, R205). -/
def State.shedEntry (s : State) (c : Nat) (e : InEntry) : State :=
  let a := bget e.w0 17 9
  let bc := decide (bget e.w0 16 1 = 1)
  let ty := bget e.w0 29 3
  let fI := s.fullFrame c e.w1
  let f := fI.toNat
  if !bc && (!s.on (SHD_ALLOC c a) SHD_ALLOC_VALID || decide (s.g (SHD_ALLOC c a) SHD_ALLOC_ALLOC_ID ≠ bget e.w0 0 14)) then
    s.inc (SHD_STALE_INPUT c)
  else if ty = 3 then s.bookEntry c e
  else if bc then s
  else if ty = 0 then
    let s := s.updAl c a (fun x => { x with occ := bget e.w2 0 24 * (unitBits (s.pch.look c).mode / 8), rf := f, out := x.out.filter (fun g => decide (f < g.1)) })
    s.lateService c a
  else if ty = 1 then
    if s.al c a SHD_ALLOC_DBRU ≠ 0 then s
    else match (s.alst c a).out.find? (fun g => decide (g.1 = f)) with
      | none => s
      | some g =>
        let ub := unitBits (s.pch.look c).mode / 8
        s.monitor c a f (cdiv g.2 ub * ub) e.w2.toNat
  else if ty = 2 then s.updAl c a (fun x => { x with out := dropFirst f x.out })
  else if ty = 4 then
    if (s.placing c f).setUp || fI < ((s.pch.look c).openLo : Int) then s.placeHint c e
    else s.updShd c (fun d => { d with hintEntries := d.hintEntries ++ [e] })
  else s

/-- The slice that begins in this cycle, if its sweep has not run. -/
def State.sliceHere (s : State) (c : Nat) : Option Nat :=
  (List.range 16).find? (fun n => s.sliceDue c n && decide (((8 * s.now : Nat) : Int) ≤ s.sliceAt8 c n))

/-- The shed shuttle reads the entry at the head of its input queue, after the sweep of a slice that begins in the same cycle (R219). -/
def execShedInputEntry (c : Fin 64) (s : State) : Out :=
  let s := match s.sliceHere c with
    | some n => s.sweepAt c n
    | none => s
  .next (match (s.shd.look c).inq with
    | [] => s
    | e :: rest => ((s.updShd c (fun d => { d with inq := rest })).inqSync c).shedEntry c e)

-- ===== hint records (R212 to R214) =====

/-- One hint record, eight words with the most significant byte of each first. -/
def State.hintRecord (s : State) (c : Nat) (w : Nat → Word) : State :=
  let id := bget (w 0) 0 14
  let cancel := decide (bget (w 0) 16 1 = 1)
  let tag := bget (w 6) 0 16
  let no := fun (s : State) => s.inc (SHD_HINTS_REFUSED c)
  let a := findFrom (fun a => s.on (SHD_ALLOC c a) SHD_ALLOC_VALID && decide (s.g (SHD_ALLOC c a) SHD_ALLOC_ALLOC_ID = id) && s.on (SHD_ALLOC_POL c a) SHD_ALLOC_POL_HINT_EN) 512 0
  match a with
  | none => no s
  | some a =>
    if !s.on (SHD_HINT_CTL c) SHD_HINT_CTL_HINT_EN then no s
    else if !s.on (DSF_STATUS c) DSF_STATUS_ALIGNED then (no s).ev (SHD_POL_STATUS c) SHD_POL_STATUS_HINT_UNALIGNED
    else if cancel then
      (s.updShd c (fun d => { d with hints := d.hints.filter (fun h => !(decide (h.allocId = id) && decide (h.tag = tag))) })).inc (SHD_HINTS_ACCEPTED c)
    else if (w 5).toNat ≠ 0 && decide ((w 5).toNat < 125000) then (no s).inc CLS_HINT_BAD
    else if 256 ≤ (s.shd.look c).hints.length then (no s).ev (SHD_POL_STATUS c) SHD_POL_STATUS_HINT_FULL
    else
      let h : Hint := ⟨a, id, decide (bget (w 0) 17 1 = 1), (w 1).toNat, (w 2).toNat * 2 ^ 32 + (w 3).toNat,
        if w 4 = 0 then 125000 else (w 4).toNat, (w 5).toNat, bget (w 6) 16 16, tag⟩
      let h := if h.period = 0 then { h with repeats := 0 } else h
      ((s.updShd c (fun d => { d with hints := d.hints ++ [h] })).inc (SHD_HINTS_ACCEPTED c)).hintDeliver c

/-- A word of bytes, most significant first. -/
def beWord (l : List Byte) (i : Nat) : Word := word (beNat ((l.drop i).take 4))

/-- A hint PDU, consumed by the hint path (R213): checked, its records entered. -/
def State.hintPdu (s : State) (pdu : List Byte) : State :=
  let n := beNat ((pdu.drop 2).take 2)
  let src := beNat ((pdu.drop 8).take 1)
  let seq := beWord pdu 4
  if beNat (pdu.take 1) ≠ 1 || n = 0 || decide (32 < n) || decide (pdu.length < 12 + 32 * n)
      || !bit (s.rd (CLS_HINT_SRC (src / 32))).toNat (src % 32) then s.inc CLS_HINT_BAD
  else
    let late := match s.cls.hintSeq.look src with
      | some x => decide (2 ^ 31 ≤ (seq - x).toNat) || decide (seq = x)
      | none => false
    if late then s.inc CLS_HINT_REPLAY
    else
      let s := { s with cls := { s.cls with hintSeq := s.cls.hintSeq.put src (some seq) } }
      let s := s.inc CLS_HINT_PDUS
      (List.range n).foldl (fun s r =>
        let w := fun i => beWord pdu (12 + 32 * r + 4 * i)
        s.hintRecord (bget (w 0) 24 6) w) s

/-- Whether a frame from a lane goes to the hint path (R213, R272). -/
def State.hintTaken (s : State) (l etype : Nat) : Bool :=
  s.on CLS_HINT CLS_HINT_EN && decide (s.g CLS_HINT CLS_HINT_ETYPE = etype) && bit (s.rd CLS_HINT_LANES).toNat l

/-- A hint PDU from an uplink lane (R213). -/
def execHintPdu (l : Fin 32) (etype : BitVec 16) (pdu : List Byte) (s : State) : Out :=
  .next (s.when (s.hintTaken l etype.toNat) (fun s => s.hintPdu pdu))

/-- A write of word i of an agent's staging; the write of word 7 submits the record, for channel c (R214). -/
def State.hintInWrite (s : State) (ag : Agent) (c i : Nat) (v : Word) : State :=
  let s := s.wr (akey (agCode ag) (SHD_HINT_IN c i)) v
  if i = 7 then s.hintRecord c (fun k => s.rd (akey (agCode ag) (SHD_HINT_IN c k))) else s

def execHintRecordSubmit (ag : Agent) (c : Fin 64) (v : Word) (s : State) : Out :=
  .next (s.bus ag (SHD_HINT_IN c 7) (fun s => s.hintInWrite ag c 7 v))

end Sys2Proof.Machine
end

