-- ==== Sys2Proof/Machine/Classify.lean ====
section
/-! DEFINITION. Parsing and classification (chapter 11): the parser graph and rule tables of the tie-up, range comparators, action
merge, second passes and rule commits. -/
namespace Sys2Proof.Machine

/-- Update the classifier. -/
def State.updCls (s : State) (f : Cls → Cls) : State := { s with cls := f s.cls }

/-- Word `i` of a record, the first word excepted. -/
def Rec.w (r : Rec) (i : Nat) : Word := r.rest.getD (i - 1) 0

/-- The PARSE_NODE record of a node (R273). -/
def State.parseNode (s : State) (n : Nat) : Option Rec := s.drf.tieup.find? (fun r => decide (r.code = 0x20) && decide (r.w0 / 256 = n))

/-- The RULE_LAYOUT record of a table (R277). -/
def State.layout (s : State) (t : Nat) : Option Rec := s.drf.tieup.find? (fun r => decide (r.code = 0x21) && decide (r.w0 / 4096 = t))

/-- The PIPE_WIRE record of a pipeline (R286). -/
def State.pipeWire (s : State) (p : Nat) : Option Rec := s.drf.tieup.find? (fun r => decide (r.code = 0x22) && decide (r.w0 % 8 = p))

/-- What the parser found (R274, R275): the start offset + 1 of each header slot, and the flags FRAG, TRUNC, PARSE_LIMIT,
CSUM_BAD. -/
structure Parsed where
  slots : Tab Nat
  frag : Bool
  trunc : Bool
  limit : Bool
  csum : Bool
  deriving DecidableEq, Repr, Inhabited

/-- A byte of a frame; beyond its end 0. -/
def byteAt (b : List Byte) (i : Nat) : Nat := (b.getD i 0).toNat

/-- The length of a header (R273). -/
def Rec.hdrLen (r : Rec) (b : List Byte) (o : Nat) : Nat :=
  bget (r.w 1) 24 8 + (byteAt b (o + bget (r.w 1) 16 8) &&& bget (r.w 1) 8 8) / 2 ^ bget (r.w 1) 4 4 * 2 ^ bget (r.w 1) 0 4

/-- The next node (R274): the first VALID choice in the order 0 to 3, or DEFAULT_NEXT; 0xFF ends parsing. -/
def Rec.nextNode (r : Rec) (b : List Byte) (o : Nat) : Nat :=
  let so := o + bget (r.w 2) 24 8
  let sel := if bget (r.w 2) 23 1 = 1 then byteAt b so * 256 + byteAt b (so + 1) else byteAt b so
  let k := sel &&& bget (r.w 2) 0 16
  match findFrom (fun j => decide (bget (r.w (3 + j)) 7 1 = 1) && decide (bget (r.w (3 + j)) 16 16 = k)) 4 0 with
  | some j => bget (r.w (3 + j)) 8 8
  | none => bget (r.w 7) 16 8

/-- A fragment at an IPv4 header or an IPv6 fragment header (R276). -/
def Rec.isFrag (r : Rec) (b : List Byte) (o : Nat) : Bool :=
  let sp := bget (r.w 7) 0 3
  if sp = 1 then decide ((byteAt b (o + 6) * 256 + byteAt b (o + 7)) % 2 ^ 14 ≠ 0)
  else if sp = 2 then decide (byteAt b (o + 3) % 2 = 1) || decide ((byteAt b (o + 2) * 256 + byteAt b (o + 3)) / 8 ≠ 0)
  else false

/-- The ones' complement sum of a header of 16-bit words. -/
def onesSum : List Byte → Nat
  | a :: c :: t => let x := a.toNat * 256 + c.toNat + onesSum t; if 0xFFFF < x then x - 0xFFFF else x
  | [a] => a.toNat * 256
  | [] => 0

/-- The parser from node `n` at offset `o` (R274, R275); `fuel` counts the nodes that may still be visited. -/
def State.parseFrom (s : State) (b : List Byte) : Nat → Nat → Nat → Parsed → Parsed
  | 0, _, _, p => { p with limit := true }
  | fuel + 1, n, o, p =>
    match s.parseNode n with
    | none => p
    | some r =>
      let q := { p with slots := p.slots.put (r.w0 % 16) (o + 1) }
      let len := r.hdrLen b o
      let q := { q with csum := q.csum || (decide (bget (r.w 7) 0 3 = 1) && decide (onesSum ((b.drop o).take len) ≠ 0xFFFF)) }
      if r.isFrag b o then { q with frag := true }
      else
        let m := r.nextNode b o
        if m = 0xFF then q
        else if b.length < o + len then { q with slots := p.slots, trunc := true }
        else if 256 < o + len then { q with limit := true }
        else s.parseFrom b fuel m (o + len) q

/-- The metadata bytes (R278). -/
def metaBytes (f : PFrame) (p : Parsed) : List Byte :=
  let present := (List.range 8).foldl (fun m i => if p.slots.look i ≠ 0 then m + 2 ^ i else m) 0
  beBytes 1 (if f.src < 32 then 0 else 1) ++ beBytes 1 (if f.src < 32 then f.src else f.src - 32)
    ++ beBytes 1 (b2n p.frag + 2 * b2n p.trunc + 4 * b2n p.limit + 8 * b2n p.csum + 16 * b2n f.pass2.isSome)
    ++ beBytes 1 present ++ beBytes 2 (f.pass2.getD 0) ++ beBytes 2 f.bytes.length
    ++ beBytes 2 (if f.src < 32 then 0 else f.port) ++ List.replicate 6 0

/-- A byte of a layer: none where the slot is absent (R277, R278). -/
def layerByte (f : PFrame) (p : Parsed) (rng : List Byte) (layer o : Nat) : Option Nat :=
  if layer = 15 then some (byteAt (metaBytes f p) o)
  else if layer = 14 then some (byteAt rng o)
  else match p.slots.look layer with
    | 0 => none
    | k + 1 => some (byteAt f.bytes (k + o))

/-- The range vector (R279): bit r is set when LO ≤ field ≤ HI; an absent field reads 0. -/
def State.rangeVec (s : State) (f : PFrame) (p : Parsed) : List Byte :=
  (List.range 16).map (fun b => BitVec.ofNat 8 ((List.range 8).foldl (fun m k =>
    let a := fkey (CLS_RANGE (8 * b + k))
    let sel := s.g a CLS_RANGE_SEL
    let layer := sel / 4096
    let o := sel / 32 % 128
    match (if layer = 14 then none else layerByte f p [] layer o), (if layer = 14 then none else layerByte f p [] layer (o + 1)) with
    | some x, some y =>
      if s.g a CLS_RANGE_LO ≤ x * 256 + y && decide (x * 256 + y ≤ s.g a CLS_RANGE_HI) then m + 2 ^ k else m
    | _, _ => m) 0))

/-- The key of a table (R278): the selected fields in selector order from key bit 0, each field's first byte lowest. -/
def keyOf (r : Rec) (f : PFrame) (p : Parsed) (rng : List Byte) : Nat :=
  leNat ((List.range 8).flatMap (fun j =>
    let sel := bget (r.w (2 + j / 2)) (16 * (j % 2)) 16
    (List.range (sel % 32)).map (fun i => BitVec.ofNat 8 ((layerByte f p rng (sel / 4096) (sel / 32 % 128 + i)).getD 0))))

/-- The low `n` words of a rule's field as a number. -/
def State.ruleBits (s : State) (i w n : Nat) : Nat :=
  ((List.range n).map (fun k => (s.rd (CLS_RULE i (w + k))).toNat * 2 ^ (32 * k))).sum

/-- The winning entry of a table for a key (R281): highest PRIO, then lowest index. -/
def State.ruleFind (s : State) (r : Rec) (key : Nat) : Option Nat :=
  let base := bget (r.w 1) 16 16
  let cnt := bget (r.w 1) 0 16
  let bits := 80 * 2 ^ (r.w0 % 4)
  let cand := ((s.keysIn (CLS_RULE base 0) (CLS_RULE (base + cnt) 0)).filter (fun a => decide (a % 128 = 96))).map (fun a => (a - CLS_RULE 0 0) / 128)
  let hit := cand.filter (fun i => bget (s.rd (CLS_RULE i 24)) 31 1 = 1 &&
    decide ((key % 2 ^ bits &&& s.ruleBits i 10 10) = (s.ruleBits i 0 10 % 2 ^ bits &&& s.ruleBits i 10 10)))
  hit.find? (fun i => hit.all (fun j => decide (bget (s.rd (CLS_RULE j 24)) 0 16 ≤ bget (s.rd (CLS_RULE i 24)) 0 16)))

/-- The merged action (R283): the latest verdict word, the TC, POLICER, VLAN_OP with its TCI, META, MIRROR, and whether a DROP ended
the merge. -/
structure Merged where
  w0 : Word
  tc : Nat
  policer : Nat
  vlanOp : Nat
  tci : Nat
  meta_ : Nat
  mirror : Bool
  drop : Bool
  bad : Bool
  deriving DecidableEq, Repr, Inhabited

/-- Merge one action (R282, R283): VERDICT 7 to 15 is a DROP. -/
def Merged.add (m : Merged) (w0 w1 w2 w3 : Word) : Merged :=
  if m.drop then m
  else
    let v := bget w0 28 4
    let op := if bget w2 29 3 ≤ 3 then bget w2 29 3 else 0
    { w0 := if v = 0 then m.w0 else w0
      tc := if bget w0 23 3 ≠ 0 then bget w0 23 3 else m.tc
      policer := if bget w1 16 16 ≠ 0 then bget w1 16 16 else m.policer
      vlanOp := if op ≠ 0 then op else m.vlanOp
      tci := if op ≠ 0 then bget w2 0 16 else m.tci
      meta_ := if v = 6 then bget w3 16 16 else m.meta_
      mirror := m.mirror || decide (bget w0 27 1 = 1)
      drop := decide (v = 2) || decide (7 ≤ v)
      bad := decide (7 ≤ v) }

/-- The lookups of one pass in stage order (R281, R286): hit counters, and the merged action. -/
def State.lookups (s : State) (wire : Rec) (f : PFrame) (p : Parsed) : State × Merged :=
  let rng := s.rangeVec f p
  let order := (wire.w 1).toNat + 2 ^ 32 * (wire.w 2).toNat
  (List.range (wire.w0 / 256 % 32)).foldl (fun (acc : State × Merged) st =>
    let t := order / 16 ^ st % 16
    let s := acc.1
    match s.layout t with
    | none => acc
    | some r =>
      match s.ruleFind r (keyOf r f p rng) with
      | some i =>
        (s.inc (CLS_HIT i), acc.2.add (s.rd (CLS_RULE i 20)) (s.rd (CLS_RULE i 21)) (s.rd (CLS_RULE i 22)) (s.rd (CLS_RULE i 23)))
      | none =>
        let a := fkey (CLS_TABLE_MISS t)
        (s, acc.2.add (s.rd a) (s.rd (a + 4)) (s.rd (a + 8)) (s.rd (a + 12)))) (s, default)

/-- The second-pass bucket of a pipeline now, in 10^-3 token (R285): SP_MPPS above 800 acts as 800, SP_BURST 0 as 1 and above 1,024 as
1,024. -/
def State.spTokens (s : State) (p : Nat) : Nat :=
  let d := clampN 1 1024 (s.g (CLS_PIPE_SP p) CLS_PIPE_SP_SP_BURST) * 1000
  match s.cls.tok.look p with
  | none => d
  | some (n, t) => min d (n + min 800 (s.g (CLS_PIPE_SP p) CLS_PIPE_SP_SP_MPPS) * (s.now - t))

/-- A dropped frame of a pipeline. -/
def State.pipeDrop (s : State) (p : Nat) : State := s.inc (CLS_PIPE_DROPS p)

/-- Hand a frame to the traffic manager. -/
def State.handOff (s : State) (h : Hand) : State := s.updTmg (fun t => { t with handoff := t.handoff ++ [h] })

/-- Carry out a merged verdict (R282 to R285). -/
def State.verdict (s : State) (p : Nat) (f : PFrame) (m : Merged) : State :=
  let v := bget m.w0 28 4
  let arg := bget m.w0 0 20
  let b := vlanEdit m.vlanOp m.tci f.bytes
  let h : Hand := ⟨f.src, f.port, f.alloc, b, f.at_, 0, 0, m.tc, m.policer, m.mirror, p, s.now, none⟩
  if m.drop then (s.when m.bad (fun s => s.ev CLS_STATUS CLS_STATUS_ACTION_BAD)).pipeDrop p
  else if v ≤ 1 then s.forward p h
  else if v = 3 then s.handOff { h with kind := 2, arg := 0 }
  else if v = 4 then s.handOff { h with kind := 1, arg := arg }
  else if v = 5 then { s with trb := { s.trb with rx := s.trb.rx ++ [(arg % 4096, { f with bytes := b })] } }
  else if f.pass2.isSome then
    ((s.inc (CLS_PIPE_RECIRC_LOOP p)).ev CLS_STATUS CLS_STATUS_RECIRC_LOOP).pipeDrop p
  else if s.spTokens p < 1000 || decide (256 ≤ (s.cls.second.look p).length) then
    let s := (s.inc (CLS_PIPE_RECIRC_OVER p)).ev CLS_STATUS CLS_STATUS_RECIRC_OVER
    if bget m.w0 26 1 = 1 then s.forward p h else s.pipeDrop p
  else
    s.updCls (fun d => { d with
      tok := d.tok.put p (some (s.spTokens p - 1000, s.now))
      second := d.second.upd p (· ++ [{ f with bytes := b.drop (arg % 256), pass2 := some m.meta_ }]) })

/-- One pass of a frame (R271): parse, ranges, lookups, merge, hand-off. -/
def State.pass (s : State) (p : Nat) (wire : Rec) (start : Nat) (f : PFrame) : State :=
  let q := s.parseFrom f.bytes 16 start 0 default
  let s := s.inc (if f.pass2.isSome then CLS_PIPE_PASS2 p else CLS_PIPE_PASS1 p)
  let s := s.when q.frag (fun s => s.inc (CLS_PIPE_FRAG p))
  let s := s.when q.limit (fun s => (s.inc (CLS_PIPE_PARSE_LIMIT p)).ev CLS_STATUS CLS_STATUS_PARSE_LIMIT)
  let s := s.when q.trunc (fun s => s.inc (CLS_PIPE_TRUNC p))
  let r := s.lookups wire f q
  r.1.verdict p f r.2

/-- PIPELINE_FRAME (R271, R272): the oldest fresh frame of a pipeline; the second-pass queue goes first (R284). A frame that the hint
path takes enters no pass. -/
def execPipelineFrame (p : Fin 8) (s : State) : Out :=
  match s.cls.fifo.look p, s.pipeWire p with
  | f :: t, some wire =>
    if !(s.cls.second.look p).isEmpty then .next s
    else
      let s := s.updCls (fun d => { d with fifo := d.fifo.put p t })
      let o := if vlanTagged f.bytes then 16 else 12
      if decide (f.src < 32) && s.hintTaken f.src (beNat ((f.bytes.drop o).take 2)) then .next (s.hintPdu (f.bytes.drop (o + 2)))
      else .next (s.pass p wire (if f.src < 32 then bget (wire.w 3) 24 8 else bget (wire.w 3) 16 8) f)
  | _, _ => .next s

/-- SECOND_PASS_REENTRY (R284). -/
def execSecondPassReentry (p : Fin 8) (s : State) : Out :=
  match s.cls.second.look p, s.pipeWire p with
  | f :: t, some wire =>
    .next ((s.updCls (fun d => { d with second := d.second.put p t })).pass p wire (bget (wire.w 3) 8 8) f)
  | _, _ => .next s

-- ===== rule commits (R287) =====

/-- The staging slot `i` of an agent. -/
def stageAt (ag i w : Nat) : Nat := akey ag (CLS_STAGE i w)

/-- The slots a commit takes: selected and USED. -/
def State.commitSlots (s : State) (ag : Nat) : List Nat :=
  (List.range 16).filter (fun i => bit (s.g (akey ag CLS_COMMIT) CLS_COMMIT_SLOTS) i && bget (s.rd (stageAt ag i 25)) 31 1 = 1)

/-- Whether an entry lies in some table's range. -/
def State.inTable (s : State) (i : Nat) : Bool :=
  s.drf.tieup.any (fun r => decide (r.code = 0x21) && decide (bget (r.w 1) 16 16 ≤ i) && decide (i < bget (r.w 1) 16 16 + bget (r.w 1) 0 16))

/-- The code with which a commit is refused; 0 accepts it (R287). -/
def State.commitCode (s : State) (ag : Nat) : Nat :=
  let t := (s.commitSlots ag).map (fun i => bget (s.rd (stageAt ag i 25)) 0 16)
  if t.any (fun i => !s.inTable i) then 1 else if t.eraseDups.length ≠ t.length then 2
  else if s.cls.commits.any (fun x => decide (x.agent = ag)) then 3 else 0

/-- A write of CLS_COMMIT (R287): the whole commit is refused, or steps 2 and 3 follow in the next core cycles. -/
def State.commitWrite (s : State) (ag : Agent) (v : Word) : State :=
  let n := agCode ag
  let a := akey n CLS_COMMIT
  let busy := s.cls.commits.any (fun x => decide (x.agent = n))
  let s := s.wr a (word ((v.toNat &&& 0x7FFFFFFF) ||| (if busy then 2 ^ 31 else 0)))
  if bget v 31 1 = 0 then s
  else
    let s := s.when busy (fun s => s.ev CLS_STATUS CLS_STATUS_STAGE_BUSY)
    let code := s.commitCode n
    if code ≠ 0 then (s.p CLS_STATUS CLS_STATUS_COMMIT_CODE code).ev CLS_STATUS CLS_STATUS_COMMIT_REFUSED
    else
      let l := (s.commitSlots n).map (fun i => (bget (s.rd (stageAt n i 25)) 0 16, (List.range 25).map (fun w => s.rd (stageAt n i w)),
        decide (bget (s.rd (stageAt n i 25)) 30 1 = 1)))
      (s.p a CLS_COMMIT_GO 1).updCls (fun d => { d with commits := d.commits ++ [⟨n, l, none⟩] })

/-- VALID of rule entry `i`. -/
def State.ruleValid (s : State) (i : Nat) : Bool := decide (bget (s.rd (CLS_RULE i 24)) 31 1 = 1)

/-- Step 2 of a commit (R287): KEY, MASK, ACTION and PRIO of every target, and the hit counters with CLR_CNT; a target keeps its VALID. -/
def State.commitBody (s : State) (e : Nat × List Word × Bool) : State :=
  let v := s.ruleValid e.1
  let s := (List.range 24).foldl (fun s w => s.wr (CLS_RULE e.1 w) (e.2.1.getD w 0)) s
  let s := s.wr (CLS_RULE e.1 24) (word (b2n v * 2 ^ 31 + bget (e.2.1.getD 24 0) 0 16))
  s.when e.2.2 (fun s => s.wr64 (CLS_HIT e.1) 0)

/-- One core cycle of a commit (R287): step 2, then step 3, which writes VALID for every target that was not VALID and deletes the targets of
slots with VALID 0; then GO reads 0. -/
def State.commitCycle (s : State) (x : Commit) : State := match x.wrote with
  | none =>
    let was := (x.slots.map (·.1)).filter s.ruleValid
    (x.slots.foldl (fun s e => s.commitBody e) s).updCls (fun d => { d with commits := d.commits ++ [{ x with wrote := some was }] })
  | some was =>
    let s := x.slots.foldl (fun (s : State) e =>
      let v := bget (e.2.1.getD 24 0) 31 1
      s.when (!was.contains e.1 || decide (v = 0)) (fun s => s.wr (CLS_RULE e.1 24) (bset (s.rd (CLS_RULE e.1 24)) 31 1 v))) s
    s.p (akey x.agent CLS_COMMIT) CLS_COMMIT_GO 0

/-- One core cycle of every commit, in the order of their GO (R289). -/
def State.commitTick (s : State) : State :=
  s.cls.commits.foldl (fun s x => s.commitCycle x) (s.updCls (fun d => { d with commits := [] }))

def execRuleCommit (ag : Agent) (v : Word) (s : State) : Out := .next (s.bus ag CLS_COMMIT (fun s => s.commitWrite ag v))

end Sys2Proof.Machine
end

