-- ==== Sys2Proof/Machine/DumpMap.lean ====
section
/-! DEFINITION. The counters of the device by dump group (R440): every family of 64-bit pairs that a chapter's register tables call
a counter, as its first offset and its strides and instances. -/
namespace Sys2Proof.Machine

/-- Group 0, part 0. -/
def dumpFams0p0 : List (Nat × List (Nat × Nat)) := [
  (0x200300, []),
  (0x200308, []),
  (0x200310, []),
  (0x200318, []),
  (0x200320, []),
  (0x400100, []),
  (0x400108, []),
  (0x400110, []),
  (0x400118, []),
  (0x400120, []),
  (0x400128, []),
  (0x400130, []),
  (0x600700, []),
  (0x600708, []),
  (0x600710, []),
  (0x600718, []),
  (0x600720, []),
  (0x600728, []),
  (0x800400, [(0x40000, 16)]),
  (0x800408, [(0x40000, 16)]),
  (0x800410, [(0x40000, 16)]),
  (0x800418, [(0x40000, 16)]),
  (0x800420, [(0x40000, 16)]),
  (0x800428, [(0x40000, 16)]),
  (0x800430, [(0x40000, 16)]),
  (0x800438, [(0x40000, 16)]),
  (0x800440, [(0x40000, 16)]),
  (0x800448, [(0x40000, 16)]),
  (0x800450, [(0x40000, 16)]),
  (0x800458, [(0x40000, 16)]),
  (0x1000030, [(0x40000, 64)]),
  (0x1010100, [(0x40000, 64)]),
  (0x1010108, [(0x40000, 64)]),
  (0x1010110, [(0x40000, 64)]),
  (0x1010118, [(0x40000, 64)]),
  (0x1010120, [(0x40000, 64)]),
  (0x1010128, [(0x40000, 64)]),
  (0x1010130, [(0x40000, 64)]),
  (0x1010138, [(0x40000, 64)]),
  (0x1010140, [(0x40000, 64)])]

/-- Group 0, part 1. -/
def dumpFams0p1 : List (Nat × List (Nat × Nat)) := [
  (0x1010148, [(0x40000, 64)]),
  (0x1010150, [(0x40000, 64)]),
  (0x1010158, [(0x40000, 64)]),
  (0x1010160, [(0x40000, 64)]),
  (0x1010168, [(0x40000, 64)]),
  (0x1010170, [(0x40000, 64)]),
  (0x1010178, [(0x40000, 64)]),
  (0x1010180, [(0x40000, 64)]),
  (0x1020100, [(0x40000, 64)]),
  (0x1020108, [(0x40000, 64)]),
  (0x1020110, [(0x40000, 64)]),
  (0x1020118, [(0x40000, 64)]),
  (0x1020120, [(0x40000, 64)]),
  (0x1020128, [(0x40000, 64)]),
  (0x1020130, [(0x40000, 64)]),
  (0x1020138, [(0x40000, 64)]),
  (0x1020140, [(0x40000, 64)]),
  (0x1020148, [(0x40000, 64)]),
  (0x1020150, [(0x40000, 64)]),
  (0x1030020, [(0x40000, 64)]),
  (0x2000100, [(0x40000, 64)]),
  (0x2000108, [(0x40000, 64)]),
  (0x2000110, [(0x40000, 64)]),
  (0x2000118, [(0x40000, 64)]),
  (0x2000120, [(0x40000, 64)]),
  (0x2000128, [(0x40000, 64)]),
  (0x2000130, [(0x40000, 64)]),
  (0x2000138, [(0x40000, 64)]),
  (0x2000140, [(0x40000, 64)]),
  (0x2000148, [(0x40000, 64)]),
  (0x2000150, [(0x40000, 64)]),
  (0x2000158, [(0x40000, 64)]),
  (0x2000160, [(0x40000, 64)]),
  (0x2000168, [(0x40000, 64)]),
  (0x2000170, [(0x40000, 64)]),
  (0x2000178, [(0x40000, 64)]),
  (0x2000180, [(0x40000, 64)]),
  (0x2000188, [(0x40000, 64)]),
  (0x2000190, [(0x40000, 64)]),
  (0x2000198, [(0x40000, 64)])]

/-- Group 0, part 2. -/
def dumpFams0p2 : List (Nat × List (Nat × Nat)) := [
  (0x20001a0, [(0x40000, 64)]),
  (0x20001a8, [(0x40000, 64)]),
  (0x20001b0, [(0x40000, 64)]),
  (0x20001b8, [(0x40000, 64)]),
  (0x2003000, [(0x40000, 64)]),
  (0x2003008, [(0x40000, 64)]),
  (0x2003010, [(0x40000, 64)]),
  (0x2003018, [(0x40000, 64)]),
  (0x2003020, [(0x40000, 64)]),
  (0x2003028, [(0x40000, 64)]),
  (0x2003030, [(0x40000, 64)]),
  (0x3000140, []),
  (0x3000148, []),
  (0x3000150, []),
  (0x3000800, [(0x40, 8)]),
  (0x3000808, [(0x40, 8)]),
  (0x3000810, [(0x40, 8)]),
  (0x3000818, [(0x40, 8)]),
  (0x3000820, [(0x40, 8)]),
  (0x3000828, [(0x40, 8)]),
  (0x3000830, [(0x40, 8)]),
  (0x3000838, [(0x40, 8)]),
  (0x3800800, []),
  (0x3800808, []),
  (0x3800810, []),
  (0x3800818, []),
  (0x3800820, []),
  (0x3800828, []),
  (0x3800830, []),
  (0x3800838, []),
  (0x3800840, []),
  (0x3800848, []),
  (0x3800850, []),
  (0x3800858, []),
  (0x3800860, []),
  (0x4000800, []),
  (0x4000808, []),
  (0x4000810, []),
  (0x4000818, []),
  (0x4000820, [])]

/-- Group 0, part 3. -/
def dumpFams0p3 : List (Nat × List (Nat × Nat)) := [
  (0x4000828, []),
  (0x4000830, []),
  (0x4000838, []),
  (0x4000840, []),
  (0x4000848, []),
  (0x4000850, []),
  (0x4800200, []),
  (0x4800208, []),
  (0x5000800, []),
  (0x5000808, []),
  (0x5000810, []),
  (0x5000818, []),
  (0x5000820, []),
  (0x5000828, []),
  (0x5000830, []),
  (0x5000838, []),
  (0x5800100, []),
  (0x5800108, []),
  (0x6000100, [(0x40000, 32)]),
  (0x6000108, [(0x40000, 32)]),
  (0x6000110, [(0x40000, 32)]),
  (0x6000118, [(0x40000, 32)]),
  (0x6000120, [(0x40000, 32)]),
  (0x6000128, [(0x40000, 32)]),
  (0x6000130, [(0x40000, 32)]),
  (0x6000138, [(0x40000, 32)]),
  (0x6000140, [(0x40000, 32)]),
  (0x6000148, [(0x40000, 32)]),
  (0x6000150, [(0x40000, 32)]),
  (0x6000158, [(0x40000, 32)]),
  (0x6800800, []),
  (0x6800808, []),
  (0x6800810, []),
  (0x6800818, []),
  (0x6800820, []),
  (0x6800828, []),
  (0x6800830, []),
  (0x6800838, []),
  (0x6800840, []),
  (0x6800848, [])]

/-- Group 0, part 4. -/
def dumpFams0p4 : List (Nat × List (Nat × Nat)) := [
  (0x6800850, []),
  (0x6800858, []),
  (0x6800860, []),
  (0x6800868, []),
  (0x6800870, []),
  (0x6800878, []),
  (0x7800800, []),
  (0x7800808, []),
  (0x7800810, []),
  (0x7800818, []),
  (0x7800820, []),
  (0x7802000, [(0x40, 8)]),
  (0x7802008, [(0x40, 8)]),
  (0x7802010, [(0x40, 8)]),
  (0x7802018, [(0x40, 8)]),
  (0x7802020, [(0x40, 8)]),
  (0x80000c0, [])]

/-- Families of group 0: 4663 entries. -/
def dumpFams0 : List (Nat × List (Nat × Nat)) := dumpFams0p0 ++ dumpFams0p1 ++ dumpFams0p2 ++ dumpFams0p3 ++ dumpFams0p4

/-- Group 1, part 0. -/
def dumpFams1p0 : List (Nat × List (Nat × Nat)) := [
  (0x9000000, [(0x20, 163840)]),
  (0x9000008, [(0x20, 163840)]),
  (0x9000010, [(0x20, 163840)]),
  (0x9600000, [(0x8, 163840)])]

/-- Families of group 1: 655360 entries. -/
def dumpFams1 : List (Nat × List (Nat × Nat)) := dumpFams1p0

/-- Group 2, part 0. -/
def dumpFams2p0 : List (Nat × List (Nat × Nat)) := [
  (0xb600000, [(0x8, 49152)])]

/-- Families of group 2: 49152 entries. -/
def dumpFams2 : List (Nat × List (Nat × Nat)) := dumpFams2p0

/-- Group 3, part 0. -/
def dumpFams3p0 : List (Nat × List (Nat × Nat)) := [
  (0xf800018, [(0x20, 65536)])]

/-- Families of group 3: 65536 entries. -/
def dumpFams3 : List (Nat × List (Nat × Nat)) := dumpFams3p0

/-- Group 4, part 0. -/
def dumpFams4p0 : List (Nat × List (Nat × Nat)) := [
  (0x9900000, [(0x80, 4096)]),
  (0x9900008, [(0x80, 4096)]),
  (0x9900010, [(0x80, 4096)]),
  (0x9900018, [(0x80, 4096)]),
  (0x9900020, [(0x80, 4096)]),
  (0x9900028, [(0x80, 4096)]),
  (0x9900030, [(0x80, 4096)]),
  (0x9900038, [(0x80, 4096)]),
  (0x9900040, [(0x80, 4096)]),
  (0x9900048, [(0x80, 4096)]),
  (0x9900050, [(0x80, 4096)]),
  (0x9900058, [(0x80, 4096)]),
  (0x9900060, [(0x80, 4096)]),
  (0x9900068, [(0x80, 4096)]),
  (0x9900070, [(0x80, 4096)]),
  (0x9900078, [(0x80, 4096)])]

/-- Families of group 4: 65536 entries. -/
def dumpFams4 : List (Nat × List (Nat × Nat)) := dumpFams4p0

/-- Group 5, part 0. -/
def dumpFams5p0 : List (Nat × List (Nat × Nat)) := [
  (0x8002000, [(0x20, 256)]),
  (0x8002008, [(0x20, 256)]),
  (0x8002010, [(0x20, 256)]),
  (0x8002018, [(0x20, 256)]),
  (0x8004020, [(0x40, 16)]),
  (0x8004028, [(0x40, 16)])]

/-- Families of group 5: 1056 entries. -/
def dumpFams5 : List (Nat × List (Nat × Nat)) := dumpFams5p0

/-- The families of a group. -/
def dumpFams (g : Nat) : List (Nat × List (Nat × Nat)) :=
  if g = 0 then dumpFams0 else if g = 1 then dumpFams1 else if g = 2 then dumpFams2
  else if g = 3 then dumpFams3 else if g = 4 then dumpFams4 else if g = 5 then dumpFams5 else []

/-- The offsets of a family. -/
def famOffs : Nat → List (Nat × Nat) → List Nat
  | b, [] => [b]
  | b, (st, n) :: ds => (List.range n).flatMap (fun i => famOffs (b + st * i) ds)

/-- Entries of a group (R440). -/
def dumpCount (g : Nat) : Nat := ((dumpFams g).map (fun f => f.2.foldl (fun n d => n * d.2) 1)).sum

/-- The _LO offsets of a group, in ascending order (R440). -/
def dumpOffs (g : Nat) : List Nat := ((dumpFams g).flatMap (fun f => famOffs f.1 f.2)).mergeSort (fun a b => decide (a ≤ b))

/-- Class of a counter in the dump map (R440): 2 Bolt drop, 1 performance, 0 statistics. -/
def dumpClass (off : Nat) : Nat :=
  if 0x7802000 ≤ off && decide (off < 0x7802200) then 2 else if 0x8002000 ≤ off && decide (off < 0x8006000) then 1 else 0

/-- Whether a counter's register answers the latest audit snapshot (R37), its live count standing at `lkey`. -/
def audited (off : Nat) : Bool :=
  (0x2000000 ≤ off && decide (off < 0x3000000) && decide (0x3000 ≤ off % 0x40000) && decide (off % 0x40000 < 0x3038))
    || (0x9000000 ≤ off && decide (off < 0x9740000)) || (0x7802000 ≤ off && decide (off < 0x7802200))

/-- The live value of a counter in a register file. -/
def liveCount (r : Tab Word) (off : Nat) : Nat :=
  let k := if audited off then lkey off else off
  (tget (resetWord k) r k).toNat + 2 ^ 32 * (tget (resetWord (k + 4)) r (k + 4)).toNat

end Sys2Proof.Machine
end

