-- ==== Sys2Proof/Machine/Counters.lean ====
section
/-! DEFINITION. Counter dumps, microinstruction tags and bandwidth windows (chapter 19). -/
namespace Sys2Proof.Machine

/-- Update PMC's state. -/
def State.updPmc (s : State) (f : Pmc → Pmc) : State := { s with pmc := f s.pmc }

/-- A dump that is not taken or not written (R441, R442). -/
def State.dumpSkip (s : State) : State := (s.inc PMC_DUMP_SKIPPED).ev PMC_STATUS PMC_STATUS_DUMP_SKIPPED

/-- A dump request (R439, R442): the counters as they stood before the cycle are latched (R35, R448). Requests of one cycle make one latch with the union of their
groups; with two images unwritten the dump is skipped. -/
def State.dumpReq (s : State) (scope : Nat) : State :=
  match s.pmc.images.getLast? with
  | some i =>
    if i.at_ = s.now then s.updPmc (fun d => { d with images := d.images.dropLast ++ [{ i with scope := i.scope ||| scope }] })
    else if 2 ≤ s.pmc.images.length then s.dumpSkip
    else s.updPmc (fun d => { d with images := d.images ++ [⟨scope, s.t64, s.now, s.cyc.was.regs⟩] })
  | none => s.updPmc (fun d => { d with images := [⟨scope, s.t64, s.now, s.cyc.was.regs⟩] })

/-- A write of PMC_DUMP_CTL; GO reads 0 again once the counters are latched. -/
def State.dumpCtlWrite (s : State) (v : Word) : State :=
  let s := s.wrRW PMC_DUMP_CTL v
  if v.getLsbD 31 then s.dumpReq (s.g PMC_DUMP_CTL PMC_DUMP_CTL_SCOPE) else s

def execCounterDump (ag : Agent) (v : Word) (s : State) : Out :=
  .next (s.bus ag PMC_DUMP_CTL (fun s => s.dumpCtlWrite v))

/-- The bytes of an image (R441). -/
def dumpBytes (i : DumpImg) (seq : Nat) : List Byte :=
  let gs := (List.range 6).filter (fun g => bit i.scope g)
  let vals := gs.flatMap (fun g => (dumpOffs g).map (fun a => liveCount i.regs a))
  let head : List Word := [0x434E5444, word seq, word i.t, word (i.t / 2 ^ 32), word (i.scope % 64), word vals.length] ++ List.replicate 10 0
  let tail : List Word := [word seq, word seq ^^^ 0xFFFFFFFF]
  head.flatMap wordBytes ++ vals.flatMap (fun v => wordBytes (word v) ++ wordBytes (word (v / 2 ^ 32))) ++ tail.flatMap wordBytes

/-- Bytes of an image of some groups (R441). -/
def dumpSize (scope : Nat) : Nat := 72 + 8 * (((List.range 6).filter (fun g => bit scope g)).map dumpCount).sum

/-- The oldest latched image goes to the next slot of its region (R441), or is skipped where the slot is too small. -/
def execDumpImageWritten (s : State) : Out :=
  .next (match s.pmc.images with
    | [] => s
    | i :: rest =>
      let s := s.updPmc (fun d => { d with images := rest })
      let slots := clampN 1 4096 (s.g PMC_DUMP_INFO PMC_DUMP_INFO_SLOTS)
      match s.drf.owned.find? (fun r => decide (r.1 = 2) && decide (r.2.1 = 0)) with
      | none => s.dumpSkip
      | some r =>
        let size := r.2.2.2 / slots
        if size < dumpSize i.scope || !s.ddrUp then s.dumpSkip
        else
          let n := s.g PMC_DUMP_INFO PMC_DUMP_INFO_NEXT % slots
          let seq := (s.rd PMC_DUMP_SEQ).toNat + 1
          let s := s.ddrWrsLive (r.2.2.1 + n * size) (dumpBytes i (seq % 2 ^ 32))
          let s := (s.wr PMC_DUMP_SEQ (word seq)).p PMC_DUMP_INFO PMC_DUMP_INFO_NEXT ((n + 1) % slots)
          s.ev PMC_STATUS PMC_STATUS_DUMP_DONE)

-- ===== tags (R445, R446) =====

/-- A tag record joins its FIFO, a full one losing its oldest, and the Bolt where TO_BOLT asks for it. -/
def State.tagRecord (s : State) (k : Nat) (r : List Word) : State :=
  let s := s.updPmc (fun d => { d with tagFifo := d.tagFifo.upd k (fun l => (if 16 ≤ l.length then l.tail else l) ++ [r]), tag := d.tag.put k none })
  let s := s.perf (PMC_TAG_TAGS k) 1 (320 + k)
  let s := s.ev PMC_STATUS PMC_STATUS_TAG_READY
  if s.on (PMC_TAG_CTL k) PMC_TAG_CTL_TO_BOLT then s.boltEvent 0xF0 5 k (16 + k) (r.map (·.toNat)) else s

/-- A draw that hit while the tag which completes now was in flight, in this very cycle, is taken (R448). -/
def State.tagLate (s : State) (k : Nat) : State :=
  match s.cyc.tags.look k with
  | none => s
  | some g =>
    let s := (s.updPmc (fun d => { d with tag := d.tag.put k (some g) })).updCyc (fun d => { d with tags := d.tags.put k none })
    s.wr64 (PMC_TAG_SKIPPED k) ((s.rd64 (PMC_TAG_SKIPPED k) + 2 ^ 48 - 1) % 2 ^ 48)

/-- The tagged microword of a cluster completes (R445): the two times are what the clock made of it. -/
def execTagComplete (k : Fin 16) (ready latency : Nat) (s : State) : Out :=
  .next (match s.pmc.tag.look k with
    | none => s
    | some t => (s.tagRecord k [t.w0, t.w1, word (sat16 ready * 65536 + sat16 latency), word t.flags]).tagLate k)

/-- The head of a tag FIFO, zeros where it is empty. -/
def State.tagHead (s : State) (k : Nat) : List Word := ((s.pmc.tagFifo.look k).head?).getD [0, 0, 0, 0]

/-- A read of word 3 consumes the record. -/
def execTagFifoPop (ag : Agent) (k : Fin 16) (s : State) : Out :=
  .next (s.busRd ag (PMC_TAG_FIFO k + 12) (fun s =>
    (s.updPmc (fun d => { d with tagFifo := d.tagFifo.upd k (·.tail) }), (s.tagHead k).getD 3 0)))

-- ===== bandwidth windows (R447) =====

/-- The length of a channel's running window, ms. -/
def State.bwWin (s : State) (c : Nat) : Nat := if s.pmc.bwWin.look c = 0 then 1000 else s.pmc.bwWin.look c

/-- A channel's window ends (R447, R448). -/
def State.bwEnd (s : State) (c : Nat) : State :=
  let ds := s.rd64 (lkey (PMC_BW_DS_BYTES c))
  let us := s.rd64 (lkey (PMC_BW_US_BYTES c))
  let gr := s.rd64 (lkey (PMC_BW_GRANTED c))
  let st := s.pmc.bwStep.look c
  let s := ((s.wr64 (PMC_BW_DS_BYTES c) ds).wr64 (PMC_BW_US_BYTES c) us).wr64 (PMC_BW_GRANTED c) gr
  let s := ((s.wr64 (lkey (PMC_BW_DS_BYTES c)) 0).wr64 (lkey (PMC_BW_US_BYTES c)) 0).wr64 (lkey (PMC_BW_GRANTED c)) 0
  let s := s.wr64 (PMC_BW_END_NS c) s.t64
  let s := s.when (!st) (fun s =>
    (s.wr64 (PMC_BW_DS_PEAK c) (max ds (s.rd64 (PMC_BW_DS_PEAK c)))).wr64 (PMC_BW_US_PEAK c) (max us (s.rd64 (PMC_BW_US_PEAK c))))
  let s := (s.p (PMC_BW_STATUS c) PMC_BW_STATUS_STEPPED (b2n st)).p (PMC_BW_STATUS c) PMC_BW_STATUS_WINDOWS (s.g (PMC_BW_STATUS c) PMC_BW_STATUS_WINDOWS + 1)
  s.updPmc (fun d => { d with bwStep := d.bwStep.put c false, bwWin := d.bwWin.put c (clampN 1 10000 (s.g (PMC_BW_CTL c) PMC_BW_CTL_WIN_MS)) })

/-- Windows end when device time in whole milliseconds is a multiple of WIN_MS: in the first cycle at or past that instant, once. -/
def execBwWindowEnd (c : Fin 64) (s : State) : Out :=
  let w := s.bwWin c * 1000000
  .next (s.when (decide (s.devNs % w ≤ 1) && decide (s.rd64 (PMC_BW_END_NS c) / w ≠ s.devNs / w)) (fun s => s.bwEnd c))

/-- A write of BW_CTL: the new length applies from the next window, that which starts in this cycle too (R448). -/
def State.bwCtlWrite (s : State) (c : Nat) (v : Word) : State :=
  let s := s.wrRW (PMC_BW_CTL c) v
  if s.rd64 (PMC_BW_END_NS c) = s.t64 then
    s.updPmc (fun d => { d with bwWin := d.bwWin.put c (clampN 1 10000 (s.g (PMC_BW_CTL c) PMC_BW_CTL_WIN_MS)) })
  else s

end Sys2Proof.Machine
end

