-- ==== Sys2Proof/Machine/ClockOps.lean ====
section
/-! DEFINITION. What clocks share with the other chapters: uplink port states, self-refresh of DDR-5, the choice of the system PLL's
source, and coasting (R472 to R476). -/
namespace Sys2Proof.Machine

/-- Update TIM's state. -/
def State.updTim (s : State) (f : Tim → Tim) : State := { s with tim := f s.tim }

/-- The state of the servo, with LOCKED_CHG where it enters or leaves LOCKED. -/
def State.servoState (s : State) (n : Nat) : State :=
  let o := s.g TIM_STATUS TIM_STATUS_STATE
  let s := s.p TIM_STATUS TIM_STATUS_STATE n
  let s := s.when (decide (n = 2)) (fun s => s.updTim (fun d => { d with lockedOnce := true }))
  if (o = 2) != (n = 2) then s.ev TIM_STATUS TIM_STATUS_LOCKED_CHG else s

/-- Entry to HOLDOVER (R377): ADJ takes the value of integ, and good restarts. -/
def State.servoHold (s : State) : State :=
  let s := s.wr TIM_FREQ (word (toBits 32 s.tim.integ))
  (s.updTim (fun d => { d with good := 0 })).servoState 3

/-- Update the Temple's state. -/
def State.updTmp (s : State) (f : Tmp → Tmp) : State := { s with tmp := f s.tmp }

/-- Update a lane's state. -/
def State.updHsl (s : State) (l : Nat) (f : Hsl → Hsl) : State := { s with hsl := s.hsl.upd l f }

/-- Receive low-power idle of a port ends (R401). -/
def State.lpiRxEnd (s : State) (p : Nat) : State := match (s.hsl.look p).lpiRx with
  | some t => (s.add (HSL_LPI_RX_US p) ((s.now - t) / 1000)).updHsl p (fun h => { h with lpiRx := none })
  | none => s

/-- The state of an uplink port, that of its lowest lane (R396). -/
def State.portState (s : State) (p : Nat) : Nat := s.g (HSL_STATUS p) HSL_STATUS_STATE

/-- Lanes of port `p` now; the lane alone where it is in no port. -/
def State.portWidth (s : State) (p : Nat) : Nat :=
  let w := s.g (HSL_STATUS p) HSL_STATUS_WIDTH_NOW
  if w = 0 then 1 else 2 ^ (w - 1)

/-- The state of every lane of a port; a RETIRED lane stays so (R396). -/
def State.setLanes (s : State) (p st : Nat) : State :=
  iter (s.portWidth p) (fun i s =>
    if s.portState (p + i) = 4 then s else s.p (HSL_STATUS (p + i)) HSL_STATUS_STATE st) s

/-- The ports that exist: lanes whose port they number themselves. -/
def State.ports (s : State) : List Nat :=
  (List.range 32).filter (fun l => s.on (HSL_STATUS l) HSL_STATUS_WIDTH_NOW && decide (s.portOfLane l = l))

-- ===== DDR-5 self-refresh (R417, R476, R494) =====

/-- The populated DDR-5 channels. -/
def State.memPresent (s : State) : List Nat := (List.range 8).filter (fun m => s.on (MEM_STATUS m) MEM_STATUS_RANKS_PRESENT)

/-- Every populated channel is in self-refresh. -/
def State.srActive (s : State) : Bool := s.on PWR_MEM PWR_MEM_SR_ACTIVE

/-- All channels enter self-refresh: SR_ACTIVE, SR_CHG, and the Bolt diverts (R417). -/
def State.srEnter (s : State) : State :=
  if s.srActive then s
  else
    let s := s.memPresent.foldl (fun s m => s.p (MEM_STATUS m) MEM_STATUS_SELF_REFRESH 1) s
    ((s.p PWR_MEM PWR_MEM_SR_ACTIVE 1).ev PWR_STATUS PWR_STATUS_SR_CHG).boltDown

/-- Coasting asks for self-refresh (R476): a draft load or reweave in APPLYING holds the entry off (R492). -/
def State.srCoast (s : State) : State :=
  if s.g DRF_STATUS DRF_STATUS_STATE = 4 && !s.srActive then { s with tmp := { s.tmp with srEntering := true, srExit := false } } else s.srEnter

/-- The controllers leave self-refresh and recalibrate. -/
def State.srLeave (s : State) : State :=
  if s.srActive then
    let s := s.memPresent.foldl (fun s m => s.p (MEM_STATUS m) MEM_STATUS_SELF_REFRESH 0) s
    (s.p PWR_MEM PWR_MEM_SR_ACTIVE 0).ev PWR_STATUS PWR_STATUS_SR_CHG
  else s

-- ===== references (R472 to R474) =====

/-- Whether source `x` is present: 0 REFA, 1 REFB, 2 the recovered clock. -/
def State.refHere (s : State) (x : Nat) : Bool := bit (s.g CLK_STATUS CLK_STATUS_PRESENT) x

/-- Whether source `x` is qualified. -/
def State.refGood (s : State) (x : Nat) : Bool := bit (s.g CLK_STATUS CLK_STATUS_QUALIFIED) x

/-- A field of CLK_CTL in force: a write applies from the next gate (R485). -/
def State.clkCtl (s : State) (f : Fld) : Nat := s.g (fkey CLK_CTL) f

/-- A field of CLK_REF_CFG in force (R485). -/
def State.refCfg (s : State) (f : Fld) : Nat := s.g (fkey CLK_REF_CFG) f

/-- PRIO1 to PRIO3. -/
def State.refPrio (s : State) : List Nat := [s.clkCtl CLK_CTL_PRIO1, s.clkCtl CLK_CTL_PRIO2, s.clkCtl CLK_CTL_PRIO3]

/-- The source that the system PLL takes when none is qualified (R473): the selected one if present, else by priority, else the
lowest numbered; 3 for none. -/
def State.refFallback (s : State) : Nat :=
  let cur := s.g CLK_STATUS CLK_STATUS_SELECTED
  if s.refHere cur && decide (cur < 3) then cur
  else match (s.refPrio ++ [0, 1, 2]).find? (fun x => decide (x < 3) && s.refHere x) with
    | some x => x
    | none => 3

/-- The source the system PLL takes (R474): it stays on a qualified one. Where the only qualified sources stand in no PRIO, it takes one as if
none were qualified (assumption 94). -/
def State.refChoice (s : State) : Nat :=
  let cur := s.g CLK_STATUS CLK_STATUS_SELECTED
  if cur < 3 && s.refGood cur then cur
  else match s.refPrio.find? (fun x => decide (x < 3) && s.refGood x) with
    | some x => x
    | none => s.refFallback

/-- The system PLL takes source `x`; a change from one source to another sets SWITCHED and counts (R474). REF_UNVERIFIED shows a
selected source that is not qualified (R473). -/
def State.refTake (s : State) (x : Nat) : State :=
  let cur := s.g CLK_STATUS CLK_STATUS_SELECTED
  let s := s.p CLK_STATUS CLK_STATUS_SELECTED x
  let s := s.when (decide (cur < 3) && decide (x < 3) && decide (cur ≠ x)) (fun s => (s.inc CLK_SWITCHES).ev CLK_STATUS CLK_STATUS_SWITCHED)
  s.p CLK_STATUS CLK_STATUS_REF_UNVERIFIED (b2n (decide (x < 3) && !s.refGood x))

/-- The floor of PLL `p` while it coasts, MHz (R475). -/
def pllFloor (p : Nat) : Nat × Nat :=
  if p = 0 then (70, 80) else if p = 1 then (109, 125) else if p = 2 || p = 3 then (1120, 1280)
  else if p = 4 then (700, 800) else (280, 340)

/-- PLL `p` coasts: the estimate it reports lies within its floor (R475), else free. -/
def State.pllCoast (s : State) (p : Nat) : State :=
  let d := s.drawNat
  let f := pllFloor p
  d.2.wr (CLK_PLL p) (word (2 ^ 30 + (f.1 + d.1 % (f.2 - f.1 + 1))))

/-- A block's fault indication rises (R449): the Temple classifies the events of a cycle together, at its end (R457). -/
def State.fault (s : State) (e : Fev) : State := s.updCyc (fun d => { d with faults := d.faults ++ [e] })

/-- A live condition begins (R450), which no injection caused. -/
def State.faultLive (s : State) (k : Nat) : State := s.fault ⟨k, 0, false, false⟩

/-- An event of a live condition awaits the end of the cycle. -/
def State.faultWaits (s : State) (k : Nat) : Bool := s.cyc.faults.any (fun e => decide (e.cls = k))

/-- The PLLs that take the system PLL's output, and the system PLL (R475). -/
def sysPlls : List Nat := [1, 2, 3, 4] ++ (List.range 16).map (· + 7)

/-- No source is present (R450, R476): COAST with its fault, HOLDOVER, ToD invalid, the ports to TRAINING, DDR-5 to self-refresh, the PLLs at
their floor. A PLL that had relocked while COAST still read 1 returns to its floor. -/
def State.coastEnter (s : State) : State :=
  if s.coasting then (sysPlls.filter (fun p => s.on (CLK_PLL p) CLK_PLL_LOCKED)).foldl (fun s p => s.pllCoast p) s
  else
    let s := (((s.p CLK_STATUS CLK_STATUS_COAST 1).ev CLK_STATUS CLK_STATUS_COAST_CHG).inc CLK_COAST_ENTRIES).faultLive 0x33
    let s := sysPlls.foldl (fun s p => s.pllCoast p) s
    let s := iter 64 (fun c s => s.todDrop c) (s.when (s.on TIM_SERVO TIM_SERVO_SRC) (fun s => s.servoHold))
    let s := s.ports.foldl (fun (s : State) (p : Nat) => if s.portState p = 2 then ((s.lpiTxEnd p).lpiRxEnd p).setLanes p 1 else s) s
    s.srCoast

/-- After a change of what is present or qualified: select a source, or coast (R474, R476). The Temple PLL coasts with neither REFA
nor REFB. -/
def State.refSelect (s : State) : State :=
  let s := s.refTake s.refChoice
  let s := s.when (!s.refHere 0 && !s.refHere 1 && s.on (CLK_PLL 0) CLK_PLL_LOCKED) (fun s => s.pllCoast 0)
  if s.refHere 0 || s.refHere 1 || s.refHere 2 then s else s.coastEnter

/-- Source `x` is no longer present: it is disqualified. -/
def State.refGone (s : State) (x : Nat) : State :=
  let q := s.refGood x
  let s := s.p CLK_STATUS CLK_STATUS_PRESENT (setBit (s.g CLK_STATUS CLK_STATUS_PRESENT) x false)
  let s := s.p CLK_STATUS CLK_STATUS_QUALIFIED (setBit (s.g CLK_STATUS CLK_STATUS_QUALIFIED) x false)
  let s := s.updTmp (fun d => { d with qual := d.qual.put x 0 })
  let s := s.wr (CLK_PPM x) 0x80000000
  s.when q (fun s => s.ev CLK_STATUS CLK_STATUS_QUAL_CHG)

/-- Whether the recovered clock can be present: REC_EN, and its lane's port UP (R472). -/
def State.recUp (s : State) : Bool :=
  decide (s.refCfg CLK_REF_CFG_REC_EN = 1) && decide (s.portState (s.clkCtl CLK_CTL_REC_LANE) = 2)

/-- The recovered clock goes with its port (R470). -/
def State.recCheck (s : State) : State := if s.refHere 2 && !s.recUp then (s.refGone 2).refSelect else s

/-- Set the state of a port. -/
def State.setPort (s : State) (p st : Nat) : State := (((s.lpiTxEnd p).lpiRxEnd p).setLanes p st).recCheck

end Sys2Proof.Machine
end

