-- ==== Sys2Proof/Machine/SafeOps.lean ====
section
/-! DEFINITION. What the Temple's reactions share (chapter 20): ports, the fault log, the immediate actions of a class, and the
safe state. -/
namespace Sys2Proof.Machine

/-- The window of R400: a port start, lane reset or width change blanks LOS, LOL and LOAM of its lanes. -/
def State.blankPort (s : State) (p : Nat) : State :=
  iter (s.portWidth p) (fun i s => s.updHsl (p + i) (fun h => { h with blank := true })) s

/-- ALERT_N falls with an event (R463). -/
def State.alertEvt (s : State) : State := s.ev TMP_ALERT TMP_ALERT_ALERT_EVT

/-- ALERT_N is low (R463): while ALERT_EVT is 1, in the safe state, and while the blocks wait for the Temple PLL to lock after a reset (R483). -/
def State.alertLow (s : State) : Bool :=
  s.on TMP_ALERT TMP_ALERT_ALERT_EVT || s.safe || (s.tmp.held && !s.on (CLK_PLL 0) CLK_PLL_LOCKED)

/-- The self-timed mute of every PON transmitter (R462), with its blanking (R464). -/
def State.muteNow (s : State) : State :=
  iter 64 (fun c s => s.updPch c (fun h => { h with blankMute := true })) (s.updTmp (fun d => { d with mute := true }))

/-- Whether cause `k` of the safe state is live (R459). -/
def State.causeLive (s : State) (k : Nat) : Bool := bit (s.rd (TMP_CAUSE (k / 32))).toNat (k % 32)

/-- Set or clear a live cause; the quiet period counts from the latest clearing (R460). -/
def State.setCause (s : State) (k : Nat) (b : Bool) : State :=
  (s.wr (TMP_CAUSE (k / 32)) (word (setBit (s.rd (TMP_CAUSE (k / 32))).toNat (k % 32) b))).when (!b) (fun s =>
    s.updTmp (fun d => { d with clearAt := s.now }))

/-- No cause of the safe state is live. -/
def State.noCause (s : State) : Bool := decide (s.rd (TMP_CAUSE 0) = 0) && decide (s.rd (TMP_CAUSE 1) = 0)

/-- Automatic exits within the hour before now (R461). -/
def State.recentExits (s : State) : List Nat := s.tmp.exits.filter (fun t => decide (s.now - t < 3600000000000))

/-- Update the selvedge block's state. -/
def State.updSlv (s : State) (f : Slv → Slv) : State := { s with slv := f s.slv }

/-- The protection state. -/
def State.protState (s : State) : Nat := s.g SLV_PROT_STATUS SLV_PROT_STATUS_STATE

/-- Enter a protection state with its ROLE (R501). -/
def State.protEnter (s : State) (st : Nat) : State :=
  let s := s.p SLV_PROT_STATUS SLV_PROT_STATUS_STATE st
  let s := s.p SLV_CTL SLV_CTL_ROLE (if st = 2 then 1 else if st = 3 then 2 else 0)
  s.updSlv (fun d => { d with since := s.now, hand := none }) |>.p SLV_PROT_CTL SLV_PROT_CTL_SWITCH 0

/-- Protection takes a channel into its hold (R507, R515): TXDIS as a protection mute, and no equaliser entry VALID (R508). -/
def State.holdEnter (s : State) (c : Nat) : State :=
  let s := s.updPch c (fun h => { h with protHeld := true, protMute := true })
  s.overRegs (PCH_EQ c 0) (PCH_EQ c 261) (fun a s => if (a - PCH_EQ c 0) % 32 = 0 then s.wr a (bset (s.rd a) 31 1 0) else s)

/-- Whether a channel is protected. -/
def State.protected_ (s : State) (c : Nat) : Bool := bit s.slv.protMask c

/-- A channel gives up its tree (R502): TXDIS, then as if ENABLE were written 0; it returns to the hold once OFF. -/
def State.giveUp (s : State) (c : Nat) : State :=
  (s.updPch c (fun h => { h with protMute := true })).actDisable c

/-- The device gives up the tree (R502, R505): STANDBY, ROLE 1. -/
def State.relinquish (s : State) : State :=
  let s := (s.protEnter 2).p SLV_CTL SLV_CTL_CLAIM 0
  iter 64 (fun c s => if s.protected_ c then s.giveUp c else s) s

/-- Safe-state entry with cause `k` (R458, R461). Within the safe state the cause joins the live ones. -/
def State.safeEnter (s : State) (k : Nat) : State :=
  let s := s.setCause k true
  let s := s.when (decide (k = 0x35)) (fun s => s.p TMP_SAFE TMP_SAFE_KEYS_KEPT 0)
  if s.safe then s
  else
    let s := s.p TMP_SAFE TMP_SAFE_STATE (if 3 ≤ s.recentExits.length then 2 else 1)
    let s := (s.p TMP_SAFE TMP_SAFE_CAUSE k).p TMP_SAFE TMP_SAFE_KEYS_KEPT (b2n (decide (k ≠ 0x35)))
    let s := (s.inc TMP_SAFE_ENTRIES).ev TMP_STATUS TMP_STATUS_SAFE_ENTER_EVT
    let s := iter 64 (fun c s => s.clearHints c) s.muteNow.alertEvt
    let s := s.ports.foldl (fun (s : State) (p : Nat) => if s.portState p = 1 || s.portState p = 2 then s.setPort p 3 else s) s
    let s := s.boltEvent 0x04 0 0 4 [k]
    if s.protState = 3 then s.relinquish else s

/-- A 256-bit value from the entropy source (R354, R369). -/
def State.draw256 (s : State) : BitVec 256 × State :=
  iter 8 (fun _ (a : BitVec 256 × State) =>
    let d := a.2.draw
    (a.1 <<< 32 ||| BitVec.ofNat 256 d.1.toNat, d.2)) (0, s)

/-- CRY after an erasure, once the cause has cleared and the safe state exits (R369): a new mask, KWK again, ERASED clear. -/
def State.unerase (s : State) : State :=
  if s.on CRY_STATUS CRY_STATUS_ERASED then
    let m := s.draw256
    let s := m.2.updCry (fun d => { d with mask := m.1, maskOn := true, kwk := !d.owners.isEmpty })
    s.p CRY_STATUS CRY_STATUS_ERASED 0
  else s

/-- The exit from the safe state (R460, R461, R538). -/
def State.safeExit (s : State) (auto : Bool) : State :=
  let s := (s.p TMP_SAFE TMP_SAFE_STATE 0).updTmp (fun d => { d with mute := false })
  let s := iter 64 (fun c s =>
    let s := s.updPch c (fun h => { h with coastHold := false })
    if s.chState c = 2 then s.shedRestart c else s) s
  let s := s.ports.foldl (fun (s : State) (p : Nat) => if s.portState p = 3 && s.drf.running.isSome then s.setPort p 1 else s) s
  let s := s.unerase
  let l := s.drf.deferred
  let s := l.foldl (fun (s : State) (c : Nat) => if s.chState c = 0 && s.on (PCH_CTL c) PCH_CTL_ENABLE then s.tryStart c else s)
    { s with drf := { s.drf with deferred := [] } }
  let s := s.ev TMP_STATUS TMP_STATUS_SAFE_EXIT_EVT
  if auto then
    let n := s.g TMP_SAFE TMP_SAFE_RECOVERIES + 1
    let s := s.p TMP_SAFE TMP_SAFE_RECOVERIES n
    let s := s.updTmp (fun d => { d with exits := d.exits ++ [s.now] })
    s.boltEvent 0x05 0 0 4 [n % 256]
  else s.updTmp (fun d => { d with exits := [] })

/-- An entry joins the fault log; a full FIFO loses its oldest (chapter 20, TMP_FAULT_LOG). -/
def State.faultLog (s : State) (inj : Bool) (outcome run k u trans : Nat) : State :=
  let e : List Word := [word (2 ^ 31 + b2n inj * 2 ^ 30 + outcome * 2 ^ 27 + run * 2 ^ 24 + k * 2 ^ 16 + u % 1024),
    word trans, word s.tim.ns, word s.tim.sec]
  let full := decide (64 ≤ s.tmp.log.length)
  let s := s.updTmp (fun d => { d with log := (if full then d.log.tail else d.log) ++ [e] })
  let s := s.when full (fun s => s.ev TMP_STATUS TMP_STATUS_LOG_OVF)
  s.ev TMP_STATUS TMP_STATUS_FAULT_EVT

/-- Bits of a reaction entry (R454). -/
def reactBit (w : Word) (i : Nat) : Bool := w.getLsbD i

/-- Word 0 of the entry of a class; while a reload is pending, its default (R456). The events of a cycle use the entry from before a write
in it (R468). -/
def State.react (s : State) (k : Nat) : Word :=
  if s.on TMP_SAFE TMP_SAFE_RELOAD_PENDING then resetWord (TMP_REACT k) else (s.cyc.en.look (TMP_REACT k)).getD (s.rd (TMP_REACT k))

/-- The classes whose safe-state entry is fixed (R450, R454). -/
def fixedSafe (k : Nat) : Bool := decide (0x34 ≤ k) && decide (k ≤ 0x37)

/-- The live-condition classes (R450). -/
def liveClass (k : Nat) : Bool := decide (0x30 ≤ k) && decide (k ≤ 0x37)

/-- MUTE_NOW of an entry (R454). -/
def State.actMute (s : State) (k : Nat) : State :=
  s.when (reactBit (s.react k) 31 && reactBit (s.react k) 26 && !fixedSafe k) (fun s => s.muteNow)

/-- SAFE_NOW of an entry, or the fixed safe state of a class (R454). -/
def State.actEnter (s : State) (k : Nat) : State :=
  s.when ((reactBit (s.react k) 31 && reactBit (s.react k) 27) || fixedSafe k) (fun s => s.safeEnter k)

/-- ALERT and FREEZE of an entry (R425, R454). -/
def State.actAlert (s : State) (k : Nat) : State :=
  let e := s.react k
  let s := s.when (reactBit e 31 && reactBit e 25) (fun s => s.alertEvt)
  s.when (reactBit e 31 && reactBit e 24) (fun s => s.askFreeze 9 0 0x2F s.t64)

-- ===== units (R451, R453) =====

/-- The kind of unit `u`: 0 channel, 1 lane, 2 shuttle, 3 rank, 4 crypto engine, 5 block. -/
def unitKind (u : Nat) : Nat :=
  if u < 64 then 0 else if u < 96 then 1 else if u < 352 then 2 else if u < 416 then 3 else if u < 432 then 4 else 5

/-- The number of a unit within its kind. -/
def unitNum (u : Nat) : Nat :=
  if u < 64 then u else if u < 96 then u - 64 else if u < 352 then u - 96 else if u < 416 then u - 352
  else if u < 432 then u - 416 else u - 432

/-- TMP_UNIT of a unit. -/
def unitReg (u : Nat) : Nat := if u < 448 then TMP_UNIT_A u else TMP_UNIT_B (u - 448)

/-- A unit is marked RETIRED, with its event and its record in the Bolt (R453). -/
def State.retireMark (s : State) (u : Nat) : State :=
  (((s.p (unitReg u) TMP_UNIT_A_RETIRED 1).inc TMP_RETIREMENTS).ev TMP_STATUS TMP_STATUS_RETIRED_EVT).boltEvent 0x09 0 0 4 [unitKind u, unitNum u]

/-- A channel retires as a unit of the Temple (R453); one that is RETIRED stays so. -/
def State.chanRetire (s : State) (c : Nat) : State := if s.chState c = 4 then s else (s.retireMark c).retireChannel c

end Sys2Proof.Machine
end

