-- ==== Sys2Proof/Machine/Crypto.lean ====
section
/-! DEFINITION. Keys and physical-access security (chapter 15): key blobs, sealed mode, the entropy source, owner enrolment,
alarms and the debug lock. -/
namespace Sys2Proof.Machine

-- ===== key blobs (R355 to R357) =====

/-- Bytes of words, the first byte of each in bits [7:0]. -/
def bytesOf (l : List Word) : List Byte := l.flatMap wordBytes

/-- The staged blob of an agent. -/
def State.staged (s : State) (ag : Nat) : List Word := (List.range 32).map (fun w => s.rd (akey ag (CRY_BLOB w)))

/-- The pending blob of a submitter. -/
def State.blobOf (s : State) (who : Nat) : Option (List Word) := (s.cry.blobs.find? (fun e => decide (e.1 = who))).map (·.2)

/-- A write of CRY_BLOB_CTL: GO submits the staged blob, or is refused while the agent's previous one is pending (R356). -/
def State.blobWrite (s : State) (ag : Nat) (v : Word) : State :=
  if v.getLsbD 31 then
    if (s.blobOf ag).isSome then s.ev CRY_STATUS CRY_STATUS_BLOB_BUSY
    else
      let s := s.p (akey ag CRY_BLOB_CTL) CRY_BLOB_CTL_GO 1
      s.updCry (fun d => { d with blobs := d.blobs ++ [(ag, s.staged ag)] })
  else s

def execBlobUnwrap (ag : Agent) (v : Word) (s : State) : Out :=
  .next (s.bus ag CRY_BLOB_CTL (fun s => s.blobWrite (agCode ag) v))

/-- The ONU slots (256 × channel + slot) whose five key slots hold slot `n`; a CRY_ONU entry at its reset value names BASE 0. -/
def State.keyOnus (s : State) (n : Nat) : List Nat :=
  let l := ((s.keysIn (CRY_ONU 0) (CRY_ONU 16384)).map (fun a => (a - CRY_ONU 0) / 8)).eraseDups
  l.filter (fun i => decide (s.g (CRY_ONU i) CRY_ONU_BASE ≤ n) && decide (n < s.g (CRY_ONU i) CRY_ONU_BASE + 5))

/-- Whether a TYPE suits the roles of a key slot (R353). -/
def State.typeSuits (s : State) (n type : Nat) : Bool :=
  let roles := (s.keyOnus n).map (fun i => n - s.g (CRY_ONU i) CRY_ONU_BASE)
  let bc := ((s.keysIn (CRY_BCAST 0) (CRY_BCAST 64)).any (fun a => decide (s.g a CRY_BCAST_BASE ≤ n) && decide (n < s.g a CRY_BCAST_BASE + 2)))
  let ok := fun (r : Nat) => if type = 4 then true else if r ≤ 1 then decide (type ≤ 2) else decide (r ≤ 3) && decide (type = 3)
  if type = 4 then !roles.isEmpty
  else (roles.isEmpty && !bc) || roles.any ok || (bc && decide (type ≤ 2))

/-- Byte `i` of a blob. -/
def blobByte (b : List Byte) (i : Nat) : Nat := (b.getD i 0).toNat

/-- The form of a blob (RESULT 0x1). -/
def blobForm (b : List Byte) : Bool :=
  let t := blobByte b 5
  let w := blobByte b 6
  let n := blobByte b 7
  let big := decide (t = 2)
  decide (beNat (b.take 4) = 0x4B424C42) && decide (blobByte b 4 = 1) && decide (1 ≤ t) && decide (t ≤ 4) && decide (w ≤ 2)
    && (if w = 0 then decide (n = if big then 56 else 40) else if w = 1 then decide (n = if big then 48 else 32)
        else decide (n = 16) && !big)
    && decide (beNat ((b.drop 12).take 4) = 0) && (decide (w = 0) || decide (beNat ((b.drop 16).take 8) = 0))

/-- The RESULT of a blob whose unwrap gave `plain` (none: the integrity check failed); the checks that need no key come first
(R356). -/
def State.blobResult (s : State) (b : List Byte) (plain : Option (List Byte)) : Nat :=
  let t := blobByte b 5
  let w := blobByte b 6
  let n := beNat ((b.drop 8).take 4)
  let key := if t = 2 then 32 else 16
  if s.on CRY_STATUS CRY_STATUS_ERASED then 6
  else if s.on CRY_STATUS CRY_STATUS_DEBUG_OPEN then 7
  else if s.on CRY_STATUS CRY_STATUS_ENT_FAIL then 5
  else if !blobForm b then 1
  else if decide (w = 0) && (match s.cry.owners.getLast? with
      | none => true
      | some o => (b.drop 16).take 8 != (bytesOf o.2).take 8) then 2
  else if decide (131072 ≤ n) || !s.typeSuits n t then 4
  else if w ≠ 0 && !(match (s.keyOnus n).head? with
      | some i => s.on (CRY_SLOT (s.g (CRY_ONU i) CRY_ONU_BASE + 4)) CRY_SLOT_VALID
      | none => false) then 8
  else match plain with
    | none => 3
    | some p =>
      let head := if w = 0 then 16 else if w = 1 then 8 else 0
      let inner := if w = 0 then p.take 16 == b.take 16
        else if w = 1 then (match (s.keyOnus n).head? with
          | some i => decide (beNat (p.take 2) = s.g (RNG_ONU (i / 256) (i % 256)) RNG_ONU_ONU_ID)
              && decide (blobByte p 2 = n - s.g (CRY_ONU i) CRY_ONU_BASE + 1) && decide (beNat ((p.drop 3).take 5) = 0)
          | none => false)
        else true
      if inner && decide (p.length = head + key) then 0 else 3

/-- Load one key slot (R354, R357): the key stands XORed with the mask; readers of this cycle still see what it held. -/
def State.slotLoad (s : State) (n type wrapper : Nat) (key : BitVec 256) : State :=
  let old := s.keyAt n
  let s := s.updCyc (fun d => { d with keyOld := d.keyOld.put n (some old) })
  (s.wr (CRY_SLOT n) (word (2 ^ 31 + type * 2 ^ 28 + wrapper * 2 ^ 26))).updCry (fun d => { d with keys := d.keys.put n (key ^^^ d.mask) })

/-- Load what a blob carries: an MSK gives the derived keys of BASE + 2 to + 4, as the standards derive them (R352, R355). -/
def State.blobLoad (s : State) (b : List Byte) (p : List Byte) : State :=
  let t := blobByte b 5
  let w := blobByte b 6
  let n := beNat ((b.drop 8).take 4)
  let key := BitVec.ofNat 256 (beNat (p.drop (if w = 0 then 16 else if w = 1 then 8 else 0)))
  if t = 4 then
    match (s.keyOnus n).head? with
    | some i => iter 3 (fun j s => s.slotLoad (s.g (CRY_ONU i) CRY_ONU_BASE + 2 + j) 4 w (Config.derivedKey key i j)) s
    | none => s
  else s.slotLoad n t w key

-- ===== sealed mode (R358 to R361) =====

/-- Update a sealed-mode attempt. -/
def State.putSeal (s : State) (i : Nat) (q : Option Seal) : State := s.updCry (fun d => { d with seals := d.seals.put i q })

/-- An attempt ends; SEAL_REQ reads 0 again. -/
def State.sealEnd (s : State) (i : Nat) : State := (s.putSeal i none).p (CRY_ONU i) CRY_ONU_SEAL_REQ 0

/-- An attempt is abandoned: MODE stays, SEAL_FAIL (R361). -/
def State.sealAbandon (s : State) (i : Nat) : State := (s.sealEnd i).ev CRY_STATUS CRY_STATUS_SEAL_FAIL

/-- SEALED_SET, bytes 9 to 15 (R360). -/
def State.sealedSet (s : State) (i idx action sf : Nat) : State :=
  s.ploamSend (i / 256) (.sealedReq (s.g (RNG_ONU (i / 256) (i % 256)) RNG_ONU_ONU_ID)
    ([BitVec.ofNat 8 idx, BitVec.ofNat 8 action] ++ beBytes 4 (sf % 2 ^ 32) ++ [16]))

/-- Step 3 of R361: announce the switch 8 frames ahead of the frame that carries the message: the next to seal, until one does. -/
def State.sealAnnounce (s : State) (i : Nat) (q : Seal) : State :=
  let sf := (s.pch.look (i / 256)).openLo + 8
  (s.putSeal i (some { q with phase := 2, switchSf := sf })).sealedSet i q.idx 1 sf

/-- SEAL_REQ written (R361): for an ONU with SEALED_CAP the attempt begins on the inactive key index, with step 3 where that slot
already holds a VALID key of TYPE 2. -/
def State.sealReq (s : State) (i : Nat) : State :=
  if (s.cry.seals.look i).isSome || !s.on (RNG_ONU (i / 256) (i % 256)) RNG_ONU_SEALED_CAP then s
  else
    let idx := 2 - s.g (CRY_ONU i) CRY_ONU_TX_IDX
    let q : Seal := ⟨idx, s.rd64 (DSF_SFC (i / 256)), none, none, 0, 0⟩
    let s := s.p (CRY_ONU i) CRY_ONU_SEAL_REQ 1
    let n := CRY_SLOT (s.g (CRY_ONU i) CRY_ONU_BASE + idx - 1)
    if s.on n CRY_SLOT_VALID && decide (s.g n CRY_SLOT_TYPE = 2) then s.sealAnnounce i q
    else (s.putSeal i (some q)).sealedSet i idx 0 0

/-- A write of word 0 of CRY_ONU. -/
def State.cryOnuWrite (s : State) (i : Nat) (v : Word) : State :=
  let s := s.wrRW (CRY_ONU i) v
  if v.getLsbD 27 then s.sealReq i else s

def execSealReq (ag : Agent) (c : Fin 64) (i : Fin 256) (v : Word) (s : State) : Out :=
  .next (s.bus ag (CRY_ONU (256 * c + i)) (fun s => s.cryOnuWrite (256 * c + i) v))

/-- The blob that the two SEALED_KEY parts make (R355, R361). -/
def State.sealBlob (s : State) (i idx : Nat) (w : List Byte) : List Word :=
  let n := s.g (CRY_ONU i) CRY_ONU_BASE + idx - 1
  let b := beBytes 4 0x4B424C42 ++ [1, 2, 1, 48] ++ beBytes 4 n ++ List.replicate 12 0 ++ w
  (List.range 32).map (fun k => word (leNat ((b.drop (4 * k)).take 4)))

/-- A SEALED_KEY part of the index sought; the second part completes the blob, submitted as agent 4 (R361). -/
def execSealedKey (c : Fin 64) (slot : Fin 256) (part : Fin 2) (idx : Fin 256) (data : List Byte) (s : State) : Out :=
  let i := 256 * c.val + slot.val
  if data.length ≠ 24 then .refused (.illFormed "SEALED_KEY")
  else .next (match s.cry.seals.look i with
    | none => s
    | some q =>
      if q.phase ≠ 0 || q.idx ≠ idx.val then s
      else
        let q := if part = 0 then { q with part0 := some data } else { q with part1 := some data }
        match q.part0, q.part1 with
        | some a, some b =>
          let s := s.putSeal i (some { q with phase := 1 })
          s.updCry (fun d => { d with blobs := d.blobs ++ [(1000 + i, s.sealBlob i q.idx (a ++ b))] })
        | _, _ => s.putSeal i (some q))

/-- RESULT of a submitter's blob, which is pending no longer (R356), or the next step of the sealed-mode attempt that submitted it (R361). -/
def State.blobEnd (s : State) (who r : Nat) : State :=
  let s := s.updCry (fun d => { d with blobs := d.blobs.filter (fun e => decide (e.1 ≠ who)) })
  let s := s.when (r ≠ 0) (fun s => s.inc CRY_BLOBS_REFUSED)
  if who < 1000 then
    (s.p (akey who CRY_BLOB_CTL) CRY_BLOB_CTL_RESULT r).p (akey who CRY_BLOB_CTL) CRY_BLOB_CTL_GO 0
  else match s.cry.seals.look (who - 1000) with
    | some q => if q.phase = 1 then (if r = 0 then s.sealAnnounce (who - 1000) q else s.sealAbandon (who - 1000)) else s
    | none => s

/-- The SLOT that a staged blob names. -/
def blobSlot (ws : List Word) : Nat := beNat (((bytesOf ws).drop 8).take 4)

/-- Whether a blob submitted before another, which names the same slot, is still pending (R357). -/
def State.blobWaits (s : State) (who : Nat) (ws : List Word) : Bool :=
  (s.cry.blobs.takeWhile (fun e => decide (e.1 ≠ who))).any (fun e => decide (blobSlot e.2 = blobSlot ws))

/-- The masked unwrap unit answers (R356, R357): `plain` is what the unwrap gave, none where its integrity check failed. Blobs that name one
slot load in the order of their GO writes. -/
def execBlobResult (who : Nat) (plain : Option (List Byte)) (s : State) : Out :=
  .next (match s.blobOf who with
    | none => s
    | some ws =>
      if s.blobWaits who ws then s
      else
        let b := bytesOf ws
        let r := s.blobResult b plain
        (s.when (r = 0) (fun s => (s.blobLoad b (plain.getD [])).inc CRY_BLOBS)).blobEnd who r)

def execSlotClr (ag : Agent) (v : Word) (s : State) : Out :=
  .next (s.bus ag CRY_SLOT_CLR (fun s => s.slotClr (bget v 0 17)))

/-- SEALED_ACK (R360, R361): RESULT 0 before SWITCH_SF confirms the switch; another abandons the attempt. -/
def execSealedAck (c : Fin 64) (slot : Fin 256) (idx action result : Fin 256) (s : State) : Out :=
  let i := 256 * c.val + slot.val
  .next (match s.cry.seals.look i with
    | some q =>
      if q.idx ≠ idx.val then s
      else if q.phase = 2 && action = 1 then
        (if result ≠ 0 then s.sealAbandon i
         else s.when (decide (s.rd64 (DSF_SFC c) < q.switchSf)) (fun s => s.putSeal i (some { q with phase := 3 })))
      else if q.phase = 0 && action = 0 && result ≠ 0 then s.sealAbandon i
      else s
    | none => s)

/-- Frame SWITCH_SF (R361): MODE 2 and the new TX_IDX, or, without an acknowledgement, the attempt is abandoned. -/
def execSealSwitch (c : Fin 64) (slot : Fin 256) (s : State) : Out :=
  let i := 256 * c.val + slot.val
  .next (match s.cry.seals.look i with
    | some q =>
      if s.rd64 (DSF_SFC c) < q.switchSf then s
      else if q.phase = 3 then ((s.p (CRY_ONU i) CRY_ONU_MODE 2).p (CRY_ONU i) CRY_ONU_TX_IDX (q.idx - 1)).sealEnd i
      else if q.phase = 2 then s.sealAbandon i
      else s
    | none => s)

/-- Sixteen frames without both parts (R361). -/
def execSealTimeout (c : Fin 64) (slot : Fin 256) (s : State) : Out :=
  let i := 256 * c.val + slot.val
  .next (match s.cry.seals.look i with
    | some q => if q.phase = 0 && decide (q.start + 16 ≤ s.rd64 (DSF_SFC c)) then s.sealAbandon i else s
    | none => s)

-- ===== entropy source (R365) =====

def execEntropyFail (s : State) : Out :=
  .next (((s.inc CRY_ENT_FAILS).p CRY_STATUS CRY_STATUS_ENT_FAIL 1).p CRY_STATUS CRY_STATUS_DRBG_STALE 1)

/-- The start-up test again; ENT_FAIL clears when it passes, and the DRBG is reseeded. -/
def execEntropyRetest (pass : Bool) (s : State) : Out :=
  .next (s.when (pass && s.on CRY_STATUS CRY_STATUS_ENT_FAIL) (fun s =>
    (s.p CRY_STATUS CRY_STATUS_ENT_FAIL 0).p CRY_STATUS CRY_STATUS_DRBG_STALE 0))

-- ===== owner enrolment (R366, R367) =====

/-- A fresh enrolment nonce (R366). -/
def State.nonceDraw (s : State) : State :=
  let s := iter 8 (fun w s =>
    let d := s.draw
    d.2.wr (CRY_NONCE w) d.1) s
  s.updCry (fun d => { d with nonce := (List.range 8).map (fun w => s.rd (CRY_NONCE w)) })

/-- A read of word 0 of CRY_NONCE. -/
def execNonceRead (ag : Agent) (s : State) : Out :=
  .next (s.busRd ag (CRY_NONCE 0) (fun s =>
    let s := s.nonceDraw
    (s, s.rd (CRY_NONCE 0))))

/-- A write of CRY_ENROL_CTL: GO starts the verification, or answers 4 while one runs (R366, R367). -/
def State.enrolWrite (s : State) (v : Word) : State :=
  if v.getLsbD 31 then
    if s.cry.enrol then s.p CRY_ENROL_CTL CRY_ENROL_CTL_RESULT 4
    else (s.p CRY_ENROL_CTL CRY_ENROL_CTL_GO 1).updCry (fun d => { d with enrol := true })
  else s

def execEnrolGo (ag : Agent) (v : Word) (s : State) : Out :=
  .next (s.bus ag CRY_ENROL_CTL (fun s => s.enrolWrite v))

/-- Enrolment ends (R366, R367): `sigOk` is the outcome of the signature check, `nonce` the nonce the voucher carries, and the
digests are those of the owner's signing and wrap keys. -/
def execEnrolDone (sigOk : Bool) (nonce : List Word) (sign wrap : List Word) (s : State) : Out :=
  .next (s.when s.cry.enrol (fun s =>
    let s := (s.updCry (fun d => { d with enrol := false })).p CRY_ENROL_CTL CRY_ENROL_CTL_GO 0
    let r := if !sigOk then 1 else if nonce.isEmpty || nonce != s.cry.nonce then 2 else if 4 ≤ s.cry.owners.length then 3 else 0
    let s := s.p CRY_ENROL_CTL CRY_ENROL_CTL_RESULT r
    if r = 0 then
      let s := s.updCry (fun d => { d with owners := d.owners ++ [(sign, wrap)], kwk := true })
      s.p CRY_OWNER CRY_OWNER_BANKS s.cry.owners.length
    else s))

-- ===== alarms and erasure (R368, R369) =====

/-- Erase every slot (R368, R370). -/
def State.eraseSlots (s : State) : State :=
  let s := s.overRegs (CRY_SLOT 0) (CRY_SLOT 131072) (fun a s => s.wr a 0)
  (s.updCry (fun d => { d with keys := [] })).updCyc (fun d => { d with keyOld := [] })

/-- A security alarm of source `src` in the order of R368 (R368, R369): the mask and KWK overwritten, every slot cleared, an
unwrap or an enrolment in progress aborted, the safe state entered with keys erased. -/
def State.securityAlarm (s : State) (src : Nat) : State :=
  let s := s.eraseSlots.updCry (fun d => { d with mask := 0, maskOn := false, kwk := false })
  let s := s.wr CRY_STATUS (bset (s.rd CRY_STATUS) 16 8 (setBit (s.g CRY_STATUS CRY_STATUS_ALARM_SRC) src true))
  let s := s.p CRY_STATUS CRY_STATUS_ERASED 1
  let s := (s.updTmp (fun d => { d with eraseBlank := true })).alertEvt
  let s := (s.cry.blobs.map (·.1)).foldl (fun (s : State) who => s.blobEnd who 6) s
  let s := s.when s.cry.enrol (fun s => (s.updCry (fun d => { d with enrol := false })).p CRY_ENROL_CTL CRY_ENROL_CTL_GO 0)
  let s := s.faultLive 0x35
  s.boltEvent 0x06 0 0 11 [s.g CRY_STATUS CRY_STATUS_ALARM_SRC]

/-- Whether CRY_ERASE masks the HOST source. -/
def State.hostMasked (s : State) : Bool := s.on CRY_ERASE CRY_ERASE_HOST_MASK

/-- Whether the sources that the state shows can raise their alarm (R368): DEBUG with the third failed unlock, JTAG while DEBUG_OPEN is 0,
HOST unless it is masked. -/
def State.alarmOn (s : State) (src : Nat) : Bool :=
  if src = 5 then decide (3 ≤ s.cry.fails) else if src = 6 then !s.on CRY_STATUS CRY_STATUS_DEBUG_OPEN
  else if src = 7 then !s.hostMasked else true

def execSecurityAlarm (src : Fin 8) (s : State) : Out := .next (s.when (s.alarmOn src) (fun s => s.securityAlarm src))

/-- A write of CRY_ERASE: HOST_MASK is stored, and GO raises the HOST alarm unless it is masked. -/
def State.eraseWrite (s : State) (v : Word) : State :=
  let s := s.wrRW CRY_ERASE v
  if v.getLsbD 31 && !s.hostMasked then s.securityAlarm 7 else s

def execCryErase (ag : Agent) (v : Word) (s : State) : Out := .next (s.bus ag CRY_ERASE (fun s => s.eraseWrite v))

-- ===== the debug lock (R370) =====

/-- DBG_CHAL draws a new challenge. -/
def execDbgChal (s : State) : Out :=
  let r := iter 8 (fun _ (a : List Word × State) =>
    let d := a.2.draw
    (a.1 ++ [d.1], d.2)) (([] : List Word), s)
  .next (r.2.updCry (fun d => { d with chal := r.1 }))

/-- DBG_RESP: `sigOk` is whether the signature verifies over the challenge under the owner's key. Without an owner or a challenge
no unlock succeeds; the third failure raises the DEBUG alarm. -/
def execDbgResp (sigOk : Bool) (s : State) : Out :=
  .next (if sigOk && !s.cry.owners.isEmpty && !s.cry.chal.isEmpty then
      (s.eraseSlots.updCry (fun d => { d with chal := [] })).p CRY_STATUS CRY_STATUS_DEBUG_OPEN 1
    else
      let n := s.cry.fails + 1
      let s := s.updCry (fun d => { d with fails := n, chal := [] })
      if n = 3 then s.securityAlarm 5 else s)

-- ===== the masked fall-back (R364) =====

/-- Line rates of a channel, down and up, in 10^-7 Gb/s (R73), as it runs. -/
def State.lineRate (s : State) (c : Nat) : Nat :=
  let h := s.pch.look c
  let m := if s.chState c = 0 then s.g (PCH_CTL c) PCH_CTL_MODE else h.mode
  let u := if s.chState c = 0 then s.g (PCH_CTL c) PCH_CTL_US_RATE else h.usRate
  (if m = 1 then 497664000 else if m = 2 then 99532800 else if m = 3 then 99532800 else 0) + bitsPerFrame m u * 80

/-- The frames that CRY holds for a channel, in store-and-verify between their fragments, are lost with its engine (R362, R364). -/
def State.engineDrop (s : State) (c : Nat) : State :=
  let held := fun (f : Frag) =>
    let o := CRY_ONU (256 * c + s.g (CRY_PORT (4096 * c + f.port)) CRY_PORT_SLOT)
    !f.bad && decide (s.g o CRY_ONU_MODE = 2) && !s.on o CRY_ONU_CUT
  ((s.pch.look c).frags).foldl (fun (s : State) e => match e.2 with
    | some f => s.when (held f) (fun s => (s.inc CRY_FB_DROP).updPch c (fun h => { h with frags := h.frags.put e.1 (some { f with bad := true, bytes := [] }) }))
    | none => s) s

/-- Engine `e` is retired with masked engine `x` free: its channels move there, paced at FB_PCT. -/
def State.engineMove (s : State) (e x : Nat) : State :=
  let sum := ((List.range 4).map (fun i => s.lineRate (4 * e + i))).sum
  let s := s.wr CRY_ENGINE (word ((s.rd CRY_ENGINE).toNat ||| 2 ^ e ||| 2 ^ (16 + x)))
  let pct := if sum = 0 then 100 else min 100 (10000 * 10000000 / sum)
  let s := s.updCry (fun d => { d with moved := d.moved.put e (128 * (x + 1) + pct) })
  let s := s.p CRY_FB_PCT CRY_FB_PCT_FB_PCT pct
  let s := iter 4 (fun i s => s.engineDrop (4 * e + i)) s
  let s := s.updTmp (fun d => { d with engBlank := d.engBlank.put e true })
  s.ev CRY_STATUS CRY_STATUS_FB_ACTIVE

/-- Retirement of a main-path engine: moved to the lowest free masked engine, or its four channels retired. -/
def State.engineRetire (s : State) (e : Nat) : State :=
  match findFrom (fun x => !bit (s.rd CRY_ENGINE).toNat (16 + x)) 4 0 with
  | some x => s.engineMove e x
  | none => iter 4 (fun i s => s.chanRetire (4 * e + i)) s

end Sys2Proof.Machine
end

