-- ==== Sys2Proof/Machine/Tributary.lean ====
section
/-! DEFINITION. Fixed-rate tributaries and the time-slot interchange (chapter 14): endpoint settings, containers, alignment and
pointers, justification, defects, the interchange and circuit emulation. -/
namespace Sys2Proof.Machine

/-- Update an endpoint. -/
def State.updEp (s : State) (t : Nat) (f : Trib → Trib) : State := { s with trb := { s.trb with ep := s.trb.ep.upd t f } }

/-- An endpoint beside its registers. -/
def State.ep (s : State) (t : Nat) : Trib := s.trb.ep.look t

/-- A setting in force of an endpoint (R332). -/
def State.tcfg (s : State) (t : Nat) (f : Fld) : Nat := s.g (fkey (TRB_TRIB t)) f

/-- Whether an endpoint is in force. -/
def State.tOn (s : State) (t : Nat) : Bool := decide (s.tcfg t TRB_TRIB_EN = 1)

/-- Payload bytes per 125 µs, and TSI slots used (R330). -/
def tribPay (type n : Nat) : Nat := if type = 2 then n else 32
def tribSlots (type n : Nat) : Nat := if type = 0 then 0 else if type = 1 then 32 else n

def State.tPay (s : State) (t : Nat) : Nat := tribPay (s.tcfg t TRB_TRIB_TYPE) (s.tcfg t TRB_TRIB_N)
def State.tSlots (s : State) (t : Nat) : Nat := tribSlots (s.tcfg t TRB_TRIB_TYPE) (s.tcfg t TRB_TRIB_N)

/-- The endpoints in force, in rising order. -/
def State.tribs (s : State) : List Nat :=
  ((s.keysIn (fkey (TRB_TRIB 0)) (fkey (TRB_TRIB 4096))).filter (fun a => decide (a % 32 = 0))).filterMap (fun a =>
    let t := (a - fkey (TRB_TRIB 0)) / 32
    if s.tOn t then some t else none)

/-- Depth of a jitter buffer in frames, and frames per packet. -/
def State.tJb (s : State) (t : Nat) : Nat := clampN 2 64 (s.tcfg t TRB_TRIB_JB_FRAMES)
def State.tFpp (s : State) (t : Nat) : Nat := clampN 1 64 (s.tcfg t TRB_TRIB_FRAMES_PER_PKT)

/-- The code with which a write of word 0 with EN = 1 is refused; 0 accepts it (R332). -/
def State.tribCode (s : State) (t : Nat) : Nat :=
  let a := TRB_TRIB t
  let k := s.g a TRB_TRIB_KIND
  let ty := s.g a TRB_TRIB_TYPE
  let n := s.g a TRB_TRIB_N
  let b := s.g a TRB_TRIB_TS_BASE
  let u := tribSlots ty n
  let q := s.g a TRB_TRIB_DS_QUEUE
  let same := [TRB_TRIB_KIND, TRB_TRIB_TYPE, TRB_TRIB_N, TRB_TRIB_CHANNEL, TRB_TRIB_TS_BASE].all (fun f => decide (s.g a f = s.tcfg t f))
  if 2 < ty || (ty = 2 && n = 0) then 1
  else if 65536 < b + u || s.tribs.any (fun x => decide (x ≠ t) && decide (0 < s.tSlots x) && decide (0 < u)
      && decide (b < s.tcfg x TRB_TRIB_TS_BASE + s.tSlots x) && decide (s.tcfg x TRB_TRIB_TS_BASE < b + u)) then 2
  else if (if k = 0 then decide (upBase ≤ q) || decide (q / 2048 ≠ s.g a TRB_TRIB_CHANNEL) else decide (q < upBase) || decide (163840 ≤ q)) then 3
  else if s.tOn t && !same then 4
  else 0

-- ===== defects (R341 to R343) =====

/-- LOC, LOM, AIS or LOP is raised on an endpoint (R342). -/
def State.tBad (s : State) (t : Nat) : Bool := decide (s.g (TRB_DEF t) ⟨0, 16, 4⟩ ≠ 0)

/-- A second's classes take note of the defects that are raised (R351). -/
def State.tSecond (s : State) (t : Nat) : State :=
  let d := fun (f : Fld) => s.on (TRB_DEF t) f
  s.updEp t (fun e => { e with
    locSec := e.locSec || d TRB_DEF_LOC_LIVE
    aisSec := e.aisSec || d TRB_DEF_AIS_LIVE
    defSec := e.defSec || s.tBad t || d TRB_DEF_PJE_LIVE
    sevSec := e.sevSec || d TRB_DEF_LOC_LIVE || d TRB_DEF_LOM_LIVE || d TRB_DEF_LOP_LIVE })

/-- Whether an endpoint's written EN is 1 and in force: one written 0 still builds until the next interchange frame, but takes nothing
(R350). -/
def State.tRuns (s : State) (t : Nat) : Bool := s.tOn t && !s.trb.stop.contains t

/-- Raise a defect, unless it is raised already. LOM, LOP and PJE of a blanked channel's containers count in TRB_BLANKED (R343). -/
def State.tRaise (s : State) (t : Nat) (live evt : Fld) : State :=
  if !s.tRuns t || s.on (TRB_DEF t) live then s
  else if (s.pch.look (s.tcfg t TRB_TRIB_CHANNEL)).tribBlank && decide (s.tcfg t TRB_TRIB_KIND = 0)
      && (evt.lo = 1 || evt.lo = 3 || evt.lo = 4) then s.inc TRB_BLANKED
  else (((s.p (TRB_DEF t) live 1).ev (TRB_DEF t) evt).boltEvent 0x01 4 t 12 [evt.lo]).tSecond t

/-- Clear a defect that is raised. -/
def State.tClear (s : State) (t : Nat) (live evt : Fld) : State :=
  if s.on (TRB_DEF t) live then ((s.p (TRB_DEF t) live 0).ev (TRB_DEF t) evt).boltEvent 0x02 4 t 12 [evt.lo] else s

/-- Clear every defect of an endpoint (R350). -/
def State.tClearAll (s : State) (t : Nat) : State :=
  let s := s.tClear t TRB_DEF_LOC_LIVE TRB_DEF_LOC
  let s := s.tClear t TRB_DEF_LOM_LIVE TRB_DEF_LOM
  let s := s.tClear t TRB_DEF_AIS_LIVE TRB_DEF_AIS
  let s := s.tClear t TRB_DEF_LOP_LIVE TRB_DEF_LOP
  let s := s.tClear t TRB_DEF_PJE_LIVE TRB_DEF_PJE
  s.p (TRB_DEF t) TRB_DEF_RDI_LIVE 0

/-- The counters a second looks at: RX_UNITS, MISSING, HDR_BAD, PW_LOST, JUST_POS, JUST_NEG, SLIPS (R351). -/
def tribReads (t : Nat) : List Nat :=
  [TRB_STAT_RX_UNITS t, TRB_STAT_MISSING t, TRB_STAT_HDR_BAD t, TRB_STAT_PW_LOST t, TRB_STAT_JUST_POS t, TRB_STAT_JUST_NEG t, TRB_STAT_SLIPS t]

/-- The counters of an endpoint as they stand: the start of its second. -/
def State.tribOld (s : State) (t : Nat) : Tab Nat :=
  (List.range 7).foldl (fun (o : Tab Nat) i => o.put i (s.rd64 ((tribReads t).getD i 0))) []

/-- An endpoint with nothing received, sent or counted. -/
def State.epFresh (s : State) (t : Nat) : State := s.updEp t (fun _ => { (default : Trib) with old := s.tribOld t })

/-- An endpoint stops (R350): nothing more is built, the partial packet and the buffers are discarded, its defects clear. -/
def State.tribStop (s : State) (t : Nat) : State :=
  let s := { s with trb := { s.trb with stop := s.trb.stop.filter (fun x => decide (x ≠ t)) } }
  ((s.tClearAll t).applyWords (TRB_TRIB t) 8).epFresh t

/-- A write to TRB_TRIB (R332, R350): word 0 with EN = 1 applies words 1–7 or is refused; with EN = 0 the endpoint stops at the next
interchange frame, at once while no interchange runs. An endpoint enabled again before that stops first. -/
def State.tribWrite (s : State) (t w : Nat) (v : Word) : State :=
  let a := TRB_TRIB t
  let old := s.rd a
  let stops := s.trb.stop.contains t && decide (w = 0) && v.getLsbD 31
  let s := s.when stops (fun s => s.tribStop t)
  let s := s.wrRW (a + 4 * w) v
  if w ≠ 0 then s
  else if s.on a TRB_TRIB_EN then
    let code := s.tribCode t
    if code ≠ 0 then ((s.wr a old).p TRB_STATUS TRB_STATUS_CFG_CODE code).ev TRB_STATUS TRB_STATUS_CFG_REFUSED
    else
      let fresh := !s.tOn t
      let s := s.applyWords a 8
      s.when fresh (fun s => s.epFresh t)
  else if s.tOn t then
    if s.on TRB_CTL TRB_CTL_EN && s.trb.frame.isSome then
      s.when (!s.trb.stop.contains t) (fun s => { s with trb := { s.trb with stop := s.trb.stop ++ [t] } })
    else s.tribStop t
  else s.applyWords a 8

def execTribConfigWrite (ag : Agent) (t : Fin 4096) (w : Fin 8) (v : Word) (s : State) : Out :=
  .next (s.bus ag (TRB_TRIB t + 4 * w) (fun s => s.tribWrite t w v))

-- ===== buffers =====

/-- Bytes in a pseudowire's receive jitter buffer. -/
def Trib.jbFill (e : Trib) : Nat := e.cur.length + (e.jb.map (fun p => p.2.length)).sum

/-- Play `n` bytes out of a receive jitter buffer (R349): packets in SEQ order, a missing packet as `len` all-ones bytes; the answer also
says how many were missing and whether the buffer ran empty. -/
def Trib.playOut (len : Nat) : Nat → Nat → Trib → List Byte → Nat → Trib × List Byte × Nat × Bool
  | 0, n, e, out, lost => (e, out ++ List.replicate n 0xFF, lost, false)
  | fuel + 1, n, e, out, lost =>
    if n = 0 then (e, out, lost, false)
    else if !e.play then (e, out ++ List.replicate n 0xFF, lost, false)
    else if !e.cur.isEmpty then
      let k := min n e.cur.length
      Trib.playOut len fuel (n - k) { e with cur := e.cur.drop k } (out ++ e.cur.take k) lost
    else
      let q := e.next.getD 0
      if !(e.jb.look q).isEmpty then
        Trib.playOut len fuel n { e with cur := e.jb.look q, jb := e.jb.put q [], next := some ((q + 1) % 65536) } out lost
      else if e.jb.isEmpty then ({ e with play := false, next := none }, out ++ List.replicate n 0xFF, lost, true)
      else Trib.playOut len fuel n { e with cur := List.replicate len 0xFF, next := some ((q + 1) % 65536) } out (lost + 1)

/-- Play `n` bytes out of pseudowire `t`. -/
def State.pwPlay (s : State) (t n : Nat) : State × List Byte :=
  let r := Trib.playOut (s.tFpp t * s.tPay t) (2 * n + 200) n (s.ep t) [] 0
  let s := (s.updEp t (fun _ => r.1)).add (TRB_STAT_PW_LOST t) r.2.2.1
  (s.when r.2.2.2 (fun s => s.inc (TRB_STAT_JB_UNDER t)), r.2.1)

/-- The pair of a TYPE 0 endpoint, when both name each other and are in force (R331). -/
def State.tPair (s : State) (t : Nat) : Option Nat :=
  let x := s.tcfg t TRB_TRIB_PAIR
  if decide (x ≠ t) && s.tOn t && s.tOn x && decide (s.tcfg t TRB_TRIB_TYPE = 0) && decide (s.tcfg x TRB_TRIB_TYPE = 0)
      && decide (s.tcfg x TRB_TRIB_PAIR = t) then some x else none

/-- Fill of the transmit jitter buffer of a TYPE 0 container: its pair's receive buffer where that is a pseudowire. -/
def State.tFill (s : State) (t : Nat) : Nat :=
  match s.tPair t with
  | some x => if s.tcfg x TRB_TRIB_KIND = 1 then (s.ep x).jbFill else (s.ep t).txB.length
  | none => 0

/-- Take `n` bytes for a TYPE 0 container; all-ones where there are none. -/
def State.tPull (s : State) (t n : Nat) : State × List Byte :=
  match s.tPair t with
  | none => (s, List.replicate n 0xFF)
  | some x =>
    if s.tcfg x TRB_TRIB_KIND = 1 then s.pwPlay x n
    else
      let e := s.ep t
      if !e.primed && decide (e.txB.length < 16 * s.tJb t) then (s, List.replicate n 0xFF)
      else if e.txB.length < n then
        ((s.updEp t (fun e => { e with txB := [], primed := false })).inc (TRB_STAT_JB_UNDER t),
          e.txB ++ List.replicate (n - e.txB.length) 0xFF)
      else (s.updEp t (fun e => { e with txB := e.txB.drop n, primed := true }), e.txB.take n)

-- ===== circuit emulation, transmit (R348) =====

/-- Byte `i` of a template (bits [7:0] of a word first). -/
def State.tmplByte (s : State) (t i : Nat) : Byte := BitVec.ofNat 8 (bget (s.rd (TRB_TMPL t (i / 4))) (8 * (i % 4)) 8)

/-- The ones' complement sum of a list of bytes as 16-bit words. -/
def sum16 : List Byte → Nat
  | a :: b :: t => let x := a.toNat * 256 + b.toNat + sum16 t; if 0xFFFF < x then x - 0xFFFF else x
  | [a] => a.toNat * 256
  | [] => 0

/-- The UDP checksum at byte `o` of a packet: over the pseudo-header of the IPv4 (no options) or IPv6 header before it. -/
def udpCsum (b : List Byte) (o : Nat) : List Byte :=
  let u := o - 6
  let v4 := decide (((b.drop (u - 20)).head?.getD 0).toNat / 16 = 4)
  let adr := if v4 then (b.drop (u - 8)).take 8 else (b.drop (u - 32)).take 32
  let z := b.take o ++ [0, 0] ++ b.drop (o + 2)
  let x := sum16 (adr ++ [0, 17] ++ beBytes 2 (b.length - u) ++ z.drop u)
  let c := 0xFFFF - x
  b.take o ++ beBytes 2 (if c = 0 then 0xFFFF else c) ++ b.drop (o + 2)

/-- Build a packet of pseudowire `t` over a payload and enqueue it (R342, R348). -/
def State.pwSend (s : State) (t : Nat) (pay : List Byte) : State :=
  let e := s.ep t
  let l := match s.tPair t with
    | some x => s.tBad x
    | none => false
  let cw := beBytes 4 (b2n l * 2 ^ 27 + b2n (s.tBad t) * 2 ^ 26 + e.seqTx)
  let rtp := if s.tcfg t TRB_TRIB_RTP = 1 then beBytes 1 0x80 ++ beBytes 1 (s.tcfg t TRB_TRIB_RTP_PT) ++ beBytes 2 e.seqTx
      ++ beBytes 4 (s.trb.frame.getD 0) ++ (List.range 4).map (fun i => s.tmplByte t (60 + i)) else []
  let b := (List.range (clampN 14 60 (s.tcfg t TRB_TRIB_TMPL_LEN))).map (s.tmplByte t) ++ cw ++ rtp ++ pay
  let b := if s.tcfg t TRB_TRIB_UDP_CSUM = 1 then udpCsum b (s.tcfg t TRB_TRIB_UDP_OFS) else b
  let s := s.updEp t (fun e => { e with seqTx := (e.seqTx + 1) % 65536 })
  (s.admitCopy b 0 (s.tcfg t TRB_TRIB_DS_QUEUE, none) false none s.now).1

/-- Bytes for a TYPE 0 pseudowire: a packet each time FRAMES_PER_PKT × 32 bytes have accumulated (R348). -/
def State.pwFeed (s : State) (t : Nat) (b : List Byte) : State :=
  let n := s.tFpp t * 32
  iter (((s.ep t).part.length + b.length) / n) (fun _ s =>
    let p := (s.ep t).part
    (s.updEp t (fun e => { e with part := p.drop n })).pwSend t (p.take n)) (s.updEp t (fun e => { e with part := e.part ++ b }))

/-- Bytes received by a TYPE 0 endpoint go to its pair (R331, R342); a container's buffer that overflows falls back to its centre. -/
def State.toPair (s : State) (t : Nat) (b : List Byte) : State :=
  match s.tPair t with
  | none => s
  | some x =>
    let b := if s.tBad t then List.replicate b.length 0xFF else b
    if s.tcfg x TRB_TRIB_KIND = 1 then s.pwFeed x b
    else
      let q := (s.ep x).txB ++ b
      if 32 * s.tJb x < q.length then
        (s.updEp x (fun e => { e with txB := q.drop (q.length - 16 * s.tJb x) })).inc (TRB_STAT_JB_OVER x)
      else s.updEp x (fun e => { e with txB := q })

-- ===== containers (R333 to R340) =====

/-- CRC-8 of R333 over bytes. -/
def crc8 (l : List Byte) : Nat :=
  l.foldl (fun c b => (List.range 8).foldl (fun x _ => if 128 ≤ x then (2 * x) % 256 ^^^ 7 else 2 * x) (c ^^^ b.toNat)) 0

/-- A container's bytes from its header fields and data (R333): JC 0b10 fills NJO, 0b01 leaves PJO empty. -/
def containerBytes (mfi ptr jc rdi type : Nat) (d : List Byte) : List Byte :=
  let h := beBytes 3 (mfi * 2 ^ 20 + ptr * 2 ^ 10 + jc * 2 ^ 8 + rdi * 2 ^ 7 + type * 2 ^ 4)
  let data := if jc = 2 then d else 0x00 :: d
  h ++ beBytes 1 (crc8 h) ++ data ++ (if jc = 1 then [0x00] else [])

/-- CONTAINER_ENQUEUE (R334, R340, R342): the container of endpoint `t` for frame `n`. -/
def State.containerSend (s : State) (t n : Nat) : State :=
  let ty := s.tcfg t TRB_TRIB_TYPE
  let pay := s.tPay t
  let rdi := b2n (s.tBad t)
  let mfi := n % 16
  let r : State × List Byte :=
    if ty = 0 then
      let dec := (s.ep t).jc
      let s := s.when dec.isNone (fun s => (s.inc TRB_JC_LATE).ev TRB_STATUS TRB_STATUS_JC_LATE)
      let jc := dec.getD 0
      let ais := match s.tPair t with
        | some x => s.tBad x
        | none => false
      let s := s.updEp t (fun e => { e with jc := none })
      if ais then ((s.tPull t pay).1, containerBytes mfi 0x3FF 3 rdi 0 (List.replicate pay 0xFF))
      else
        let s := s.when (jc ≠ 0) (fun s => s.updEp t (fun e => { e with sent := some n }))
        let d := s.tPull t (if jc = 2 then pay + 1 else if jc = 1 then pay - 1 else pay)
        (d.1, containerBytes mfi 0x3FF jc rdi 0 d.2)
    else
      match (s.ep t).txF with
      | (f, b) :: rest =>
        let ptr := if ty = 1 then 32 * ((mfi + 16 - f % 16) % 16) else 0
        (s.updEp t (fun e => { e with txF := rest, primed := true }), containerBytes mfi ptr 0 rdi ty b)
      | [] => (s.when (s.ep t).primed (fun s => s.inc (TRB_STAT_SLIPS t)), containerBytes mfi 0 0 rdi ty (List.replicate pay 0xFF))
  (r.1.admitCopy r.2 0 (r.1.tcfg t TRB_TRIB_DS_QUEUE, some (r.1.tcfg t TRB_TRIB_PORT_ID)) false none r.1.now).1

/-- The containers of a channel at the PSync of frame `n` (R334). -/
def State.containerEnqueue (s : State) (c n : Nat) : State :=
  if !s.on TRB_CTL TRB_CTL_EN || s.chState c ≠ 2 then s
  else (s.tribs.filter (fun t => decide (s.tcfg t TRB_TRIB_KIND = 0) && decide (s.tcfg t TRB_TRIB_CHANNEL = c))).foldl
    (fun s t => s.containerSend t n) s

/-- JC_DECISION (R340): from the fill, not within three frames of the previous justification. -/
def execJcDecision (t : Fin 4096) (s : State) : Out :=
  let n := s.rd64 (DSF_SFC (s.tcfg t TRB_TRIB_CHANNEL)) + 1
  let c := 16 * s.tJb t
  let f := s.tFill t
  let near := match (s.ep t).sent with
    | some k => decide (n ≤ k + 3)
    | none => false
  let jc := if near then 0 else if c + 32 < f then 2 else if f + 32 < c then 1 else 0
  .next (s.when (s.tOn t && decide (s.tcfg t TRB_TRIB_KIND = 0) && decide (s.tcfg t TRB_TRIB_TYPE = 0))
    (fun s => s.updEp t (fun e => { e with jc := some jc })))

/-- The pointer of a valid header of a TYPE 1 endpoint (R338): accepted after three equal values in a row; a new one applies from the
next multiframe; eight headers with another value than the accepted one bring LOP back. -/
def State.ptrSeen (s : State) (t ptr mfi frame : Nat) : State :=
  let e := s.ep t
  let run := if e.ptrCand = ptr && e.ptrRun ≠ 0 then e.ptrRun + 1 else 1
  let ptrNow := match e.ptrNext with
    | some (p, k) => if k ≤ frame then some p else e.ptr
    | none => e.ptr
  let pend := e.ptrNext.filter (fun x => decide (frame < x.2))
  let held := match pend with
    | some x => some x.1
    | none => ptrNow
  let acc := decide (3 ≤ run) && decide (ptr < 512)
  let nxt := if acc && held ≠ some ptr then some (ptr, frame + 16 - mfi) else pend
  let s := s.updEp t (fun e => { e with ptrCand := ptr, ptrRun := run, ptr := ptrNow, ptrNext := nxt
                                        ptrOff := if held = some ptr || acc then 0 else e.ptrOff + 1 })
  s.when acc (fun s => s.tClear t TRB_DEF_LOP_LIVE TRB_DEF_LOP)

/-- The data of a used container (R333, R338, R339): bytes toward the interchange or the pair. -/
def State.containerData (s : State) (t frame : Nat) (b : List Byte) : State :=
  let ty := s.tcfg t TRB_TRIB_TYPE
  let pay := s.tPay t
  let h := beNat (b.take 3)
  let raw := h / 2 ^ 8 % 4
  let badJc := decide (ty ≠ 0) && (raw = 1 || raw = 2)
  let s := s.when badJc (fun s => s.inc (TRB_STAT_JC_BAD t))
  let jc := if badJc then 3 else raw
  let s := s.p (TRB_DEF t) TRB_DEF_RDI_LIVE (h / 2 ^ 7 % 2)
  let s := s.updEp t (fun e => { e with aisRun := if jc = 3 then e.aisRun + 1 else 0, clearRun := if jc = 3 then 0 else e.clearRun + 1 })
  let s := s.when (jc = 1 || jc = 2) (fun s =>
    let viol := match (s.ep t).just with
      | some k => decide (frame < k + 4)
      | none => false
    let s := s.inc (if jc = 1 then TRB_STAT_JUST_POS t else TRB_STAT_JUST_NEG t)
    let s := s.when viol (fun s => s.inc (TRB_STAT_JUST_VIOL t))
    s.updEp t (fun e => { e with just := some frame, net := e.net + (if jc = 1 then 1 else -1) }))
  let d := if jc = 3 then List.replicate pay 0xFF
    else ((b.drop (if jc = 2 then 4 else 5)).take (if jc = 2 then pay + 1 else if jc = 1 then pay - 1 else pay))
  if ty = 0 then s.toPair t d
  else
    let d := if ty = 1 then
        (match (s.ep t).ptr with
         | some p => (List.range 32).map (fun i => d.getD ((i + p) % 32) 0xFF)
         | none => List.replicate 32 0xFF)
      else d
    let q := (s.ep t).rxF ++ [(frame, d)]
    if s.tJb t < q.length then (s.updEp t (fun e => { e with rxF := q.drop 1 })).inc (TRB_STAT_SLIPS t)
    else s.updEp t (fun e => { e with rxF := q })

/-- All-ones in place of a frame's payload (R337). -/
def State.substitute (s : State) (t frame : Nat) : State :=
  let b := List.replicate (s.tPay t) (0xFF : Byte)
  if s.tcfg t TRB_TRIB_TYPE = 0 then s.toPair t b
  else s.updEp t (fun e => { e with rxF := (e.rxF ++ [(frame, b)]).drop ((e.rxF.length + 1) - s.tJb t) })

/-- A header of a container in SEARCH (R336). -/
def State.searchHdr (s : State) (t frame mfi : Nat) (ok : Bool) : State :=
  let e := s.ep t
  let cont := decide (e.run ≠ 0) && decide (e.frame = some (frame - 1)) && decide (mfi = (e.mfi + 1) % 16) && decide (0 < frame)
  let run := if !ok then 0 else if cont then e.run + 1 else 1
  if 3 ≤ run then s.updEp t (fun e => { e with aligned := true, run := 0, bad := 0, mfi := mfi, ofs := (mfi + 16 - frame % 16) % 16 })
  else s.updEp t (fun e => { e with run := run, mfi := mfi })

/-- A container of endpoint `t` (R335 to R337). -/
def State.container (s : State) (t : Nat) (f : PFrame) : State :=
  let e := s.ep t
  if !s.tRuns t || !s.on TRB_CTL TRB_CTL_EN then s.inc (TRB_STAT_DISABLED_RX t)
  else if s.tcfg t TRB_TRIB_KIND ≠ 0 || f.src ≠ 32 + s.tcfg t TRB_TRIB_CHANNEL || f.port ≠ s.tcfg t TRB_TRIB_PORT_ID then
    s.inc (TRB_STAT_KIND_MISMATCH t)
  else if e.frame = some f.frame then s.inc (TRB_STAT_DUP t)
  else
    let h := beNat (f.bytes.take 3)
    let mfi := h / 2 ^ 20
    let ok := decide (crc8 (f.bytes.take 3) = ((f.bytes.drop 3).head?.getD 0).toNat) && decide (5 + s.tPay t ≤ f.bytes.length)
    let s := s.when (ok && decide (s.tcfg t TRB_TRIB_TYPE = 1)) (fun s => s.ptrSeen t (h / 2 ^ 10 % 1024) mfi f.frame)
    let s := if !e.aligned then (s.searchHdr t f.frame mfi ok).substitute t f.frame
      else if ok && decide (mfi = (f.frame + e.ofs) % 16) then
        ((s.updEp t (fun e => { e with bad := 0 })).inc (TRB_STAT_RX_UNITS t)).containerData t f.frame f.bytes
      else
        let s := (s.inc (TRB_STAT_HDR_BAD t)).substitute t f.frame
        s.updEp t (fun e => if 4 ≤ e.bad + 1 then { e with aligned := false, bad := 0, run := 0 } else { e with bad := e.bad + 1 })
    s.updEp t (fun e => { e with frame := some f.frame, got := true, missRun := 0, gotRun := e.gotRun + 1 })

/-- Take the oldest received frame that satisfies `p`. -/
def State.takeRx (s : State) (p : Nat × PFrame → Bool) : Option ((Nat × PFrame) × State) :=
  match s.trb.rx.find? p with
  | none => none
  | some x => some (x, { s with trb := { s.trb with rx := s.trb.rx.erase x } })

/-- CONTAINER_RECEIVE (R335 to R338): the oldest frame from a PON channel. -/
def execContainerReceive (s : State) : Out :=
  match s.takeRx (fun x => decide (32 ≤ x.2.src)) with
  | none => .next s
  | some (x, s) => .next (s.container x.1 x.2)

-- ===== circuit emulation, receive (R349) =====

/-- A packet for pseudowire `t` (R342, R349). -/
def State.pwPacket (s : State) (t : Nat) (f : PFrame) : State :=
  if !s.tRuns t || !s.on TRB_CTL TRB_CTL_EN then s.inc (TRB_STAT_DISABLED_RX t)
  else if s.tcfg t TRB_TRIB_KIND ≠ 1 then s.inc (TRB_STAT_KIND_MISMATCH t)
  else
    let o := s.tcfg t TRB_TRIB_RX_CW_OFS
    let cw := beNat ((f.bytes.drop o).take 4)
    let h := o + 4 + 12 * s.tcfg t TRB_TRIB_RTP
    let len := s.tFpp t * s.tPay t
    if f.bytes.length ≠ h + len then s.inc (TRB_STAT_PW_MALFORMED t)
    else
      let seq := cw % 65536
      let l := bit cw 27
      let s := s.p (TRB_DEF t) TRB_DEF_RDI_LIVE (cw / 2 ^ 26 % 2)
      let s := s.updEp t (fun e => { e with got := true, missRun := 0, gotRun := e.gotRun + 1,
                                             aisRun := if l then e.aisRun + 1 else 0, clearRun := if l then 0 else e.clearRun + 1 })
      let e := s.ep t
      let nxt := e.next.getD seq
      let d := (seq + 65536 - nxt) % 65536
      let pkts := cdiv (s.tJb t) (s.tFpp t)
      let pay := if l then List.replicate len (0xFF : Byte) else f.bytes.drop h
      if 32768 ≤ d || !(e.jb.look seq).isEmpty then s.inc (TRB_STAT_PW_LATE t)
      else
        let s := s.inc (TRB_STAT_RX_UNITS t)
        let s := if d ≤ pkts then s.updEp t (fun e => { e with jb := e.jb.put seq pay, next := some nxt })
          else
            let n' := (seq + 65536 - pkts / 2) % 65536
            let s := (s.updEp t (fun e => { e with
              jb := Tab.put (Tab.drop e.jb (fun k => decide (32768 ≤ (k + 65536 - n') % 65536))) seq pay
              next := some n', cur := [] })).inc (TRB_STAT_JB_OVER t)
            s.when (decide (s.tcfg t TRB_TRIB_TYPE ≠ 0)) (fun s => s.inc (TRB_STAT_SLIPS t))
        s.updEp t (fun e => { e with play := e.play || decide (s.tJb t * s.tPay t ≤ 2 * e.jbFill) })

/-- PW_PACKET_RECEIVE (R349): the oldest frame from an uplink lane. -/
def execPwPacketReceive (s : State) : Out :=
  match s.takeRx (fun x => decide (x.2.src < 32)) with
  | none => .next s
  | some (x, s) => .next (s.pwPacket x.1 x.2)

-- ===== defect rows (R341) =====

/-- LOC: frames, or packet intervals of a pseudowire. -/
def State.locSet (s : State) (t : Nat) : Nat :=
  let n := atLeast1 (s.g TRB_DEF_CTL TRB_DEF_CTL_LOC_SET)
  if s.tcfg t TRB_TRIB_KIND = 1 then max n (2 * s.tFpp t) else n

def execTribLocRaise (t : Fin 4096) (s : State) : Out :=
  .next (s.when (decide (s.locSet t ≤ (s.ep t).missRun)) (fun s => s.tRaise t TRB_DEF_LOC_LIVE TRB_DEF_LOC))

def execTribLocClear (t : Fin 4096) (s : State) : Out :=
  .next (s.when (decide (atLeast1 (s.g TRB_DEF_CTL TRB_DEF_CTL_LOC_CLR) ≤ (s.ep t).gotRun)) (fun s => s.tClear t TRB_DEF_LOC_LIVE TRB_DEF_LOC))

def execTribLomRaise (t : Fin 4096) (s : State) : Out :=
  .next (s.when (decide (16 ≤ (s.ep t).searchRun) && decide (s.tcfg t TRB_TRIB_KIND = 0)) (fun s => s.tRaise t TRB_DEF_LOM_LIVE TRB_DEF_LOM))

def execTribLomClear (t : Fin 4096) (s : State) : Out :=
  .next (s.when (decide (16 ≤ (s.ep t).alignRun)) (fun s => s.tClear t TRB_DEF_LOM_LIVE TRB_DEF_LOM))

def execTribAisRaise (t : Fin 4096) (s : State) : Out :=
  .next (s.when (decide (3 ≤ (s.ep t).aisRun)) (fun s => s.tRaise t TRB_DEF_AIS_LIVE TRB_DEF_AIS))

def execTribAisClear (t : Fin 4096) (s : State) : Out :=
  .next (s.when (decide (3 ≤ (s.ep t).clearRun)) (fun s => s.tClear t TRB_DEF_AIS_LIVE TRB_DEF_AIS))

/-- LOP holds: no pointer accepted yet, or eight headers with another value (R338). -/
def State.lopHolds (s : State) (t : Nat) : Bool :=
  decide (s.tcfg t TRB_TRIB_KIND = 0) && decide (s.tcfg t TRB_TRIB_TYPE = 1) && 
    (((s.ep t).ptr.isNone && (s.ep t).ptrNext.isNone) || decide (8 ≤ (s.ep t).ptrOff))

def execTribLopRaise (t : Fin 4096) (s : State) : Out :=
  .next (s.when (s.lopHolds t) (fun s => s.tRaise t TRB_DEF_LOP_LIVE TRB_DEF_LOP))

/-- Net justifications of the window exceed the limit: PJE_PPM × 0.256 (R341). -/
def State.pjeOver (s : State) (t : Nat) : Bool :=
  decide (atLeast1 (s.g TRB_DEF_CTL TRB_DEF_CTL_PJE_PPM) * 256 < (s.ep t).net.natAbs * 1000)

def execTribPjeWindow (t : Fin 4096) (s : State) : Out :=
  .next (s.when (s.tOn t && decide (s.tcfg t TRB_TRIB_KIND = 0) && decide (s.tcfg t TRB_TRIB_TYPE = 0)) (fun s =>
    let isOver := s.pjeOver t
    let s := s.updEp t (fun e => { e with net := 0, pjeGood := if isOver then 0 else e.pjeGood + 1 })
    if isOver then s.tRaise t TRB_DEF_PJE_LIVE TRB_DEF_PJE
    else s.when (decide (3 ≤ (s.ep t).pjeGood)) (fun s => s.tClear t TRB_DEF_PJE_LIVE TRB_DEF_PJE)))

-- ===== the interchange (R344 to R347) =====

/-- An input byte of the interchange: 0xFF where no endpoint writes (R347). -/
def State.tsiIn (s : State) (k : Nat) : Byte := match s.trb.inp.find? (fun e => decide (e.1 = k)) with
  | some e => e.2
  | none => 0xFF

/-- The output of a slot (R345). -/
def State.tsiOut (s : State) (k : Nat) : Byte :=
  if s.on (TRB_CM_ACT k) TRB_CM_ACT_VALID then s.tsiIn (s.g (TRB_CM_ACT k) TRB_CM_ACT_SRC)
  else BitVec.ofNat 8 (s.g (TRB_CM_ACT k) TRB_CM_ACT_IDLE)

/-- The words of a page of the connection memory: its window's stored registers as (slot, word). -/
def State.cmPage (s : State) (base : Nat) : List (Nat × Word) := (s.keysIn base (base + 262144)).map (fun a => ((a - base) / 4, s.rd a))

/-- Replace a page. -/
def State.cmLoad (s : State) (base : Nat) (l : List (Nat × Word)) : State :=
  let s := s.overRegs base (base + 262144) (fun a s => s.wr a (resetWord a))
  l.foldl (fun s e => s.wr (base + 4 * e.1) e.2) s

/-- The standby page becomes active; the old active page becomes standby unchanged (R346). -/
def State.cmSwap (s : State) : State :=
  let a := s.cmPage (TRB_CM_ACT 0)
  let b := s.cmPage (TRB_CM_STBY 0)
  let s := (s.cmLoad (TRB_CM_ACT 0) b).cmLoad (TRB_CM_STBY 0) a
  let s := s.p TRB_CM_CTL TRB_CM_CTL_ACTIVE (1 - s.g TRB_CM_CTL TRB_CM_CTL_ACTIVE)
  ((s.p TRB_CM_CTL TRB_CM_CTL_SWITCH 0).ev TRB_STATUS TRB_STATUS_SWITCHED).updCyc (fun d => { d with swapped := true })

/-- Output bytes to an endpoint at interchange frame `f` (R345, R348). -/
def State.tsiTake (s : State) (t f : Nat) (b : List Byte) : State :=
  if s.tcfg t TRB_TRIB_KIND = 0 then
    let q := (s.ep t).txF ++ [(f, b)]
    if s.tJb t < q.length then (s.updEp t (fun e => { e with txF := q.drop 1 })).inc (TRB_STAT_SLIPS t)
    else s.updEp t (fun e => { e with txF := q })
  else
    let p := (s.ep t).part ++ b
    let n := (s.ep t).partN + 1
    if n < s.tFpp t then s.updEp t (fun e => { e with part := p, partN := n })
    else (s.updEp t (fun e => { e with part := [], partN := 0 })).pwSend t p

/-- Input bytes of an endpoint for an interchange frame (R342, R345, R349). -/
def State.tsiGive (s : State) (t : Nat) : State × List Byte :=
  let pay := s.tPay t
  let r : State × List Byte :=
    if s.tcfg t TRB_TRIB_KIND = 1 then
      let k := s.rd64 (TRB_STAT_JB_UNDER t)
      let r := s.pwPlay t pay
      (r.1.when (r.1.rd64 (TRB_STAT_JB_UNDER t) ≠ k) (fun s => s.inc (TRB_STAT_SLIPS t)), r.2)
    else match (s.ep t).rxF with
      | (_, b) :: rest => (s.updEp t (fun e => { e with rxF := rest }), b)
      | [] => (s.when (s.ep t).aligned (fun s => s.inc (TRB_STAT_SLIPS t)), List.replicate pay 0xFF)
  (r.1, if r.1.tBad t then List.replicate pay 0xFF else r.2)

/-- What an unstructured pseudowire takes at an interchange frame: 32 bytes of its pair where that is a pseudowire too, all-ones where it
has none (R331); a container's bytes come with the container. -/
def State.pwPipe (s : State) (t : Nat) : State := match s.tPair t with
  | none => s.pwFeed t (List.replicate 32 0xFF)
  | some x =>
    if s.tcfg x TRB_TRIB_KIND = 0 then s
    else
      let r := s.pwPlay x 32
      r.1.pwFeed t (if r.1.tBad x then List.replicate 32 0xFF else r.2)

/-- CONTAINER_MISSING and the run counts of one endpoint at an interchange frame (R337, R341). -/
def State.tribFrame (s : State) (t f : Nat) : State :=
  let e := s.ep t
  let cont := decide (s.tcfg t TRB_TRIB_KIND = 0)
  let s := s.when (cont && !e.got) (fun s =>
    let s := s.when e.aligned (fun s => s.inc (TRB_STAT_MISSING t))
    s.substitute t f)
  let s := s.when (!cont && decide (s.tcfg t TRB_TRIB_TYPE = 0)) (fun s => s.pwPipe t)
  let miss := if e.got then 0 else e.missRun + 1
  s.updEp t (fun e => { e with
    got := false
    missRun := miss
    gotRun := if (cont && miss ≠ 0) || decide (2 * s.tFpp t < miss) then 0 else e.gotRun
    searchRun := if e.aligned then 0 else e.searchRun + 1
    alignRun := if e.aligned then e.alignRun + 1 else 0 })

/-- The interchange's own alignment (R344): a step of more than 100 ns sets TSI_SLIP once and leaves the cadence. -/
def State.tsiAlign (s : State) (f : Nat) : State :=
  let err : Int := (s.devNs : Int) - (s.g TRB_CTL TRB_CTL_TSI_OFFSET_NS % 125000 : Nat) - (f * 125000 : Nat)
  let off := decide (100 < err.natAbs)
  let s := s.when (off && !s.trb.slipped) (fun s => s.ev TRB_STATUS TRB_STATUS_TSI_SLIP)
  { s with trb := { s.trb with slipped := off } }

/-- TSI_FRAME (R344 to R346): page switch at a multiframe, outputs from the inputs of the frame before, then the inputs of this one. The
first frame begins at an instant that device time and TSI_OFFSET_NS give; later frames follow their own cadence. -/
def execTsiFrame (s : State) : Out :=
  let ofs := s.g TRB_CTL TRB_CTL_TSI_OFFSET_NS % 125000
  let first := decide (ofs ≤ s.devNs) && decide ((s.devNs - ofs) % 125000 = 0)
  if !s.on TRB_CTL TRB_CTL_EN || !(s.trb.frame.isSome || first) then .next s
  else
    let f := match s.trb.frame with
      | some k => k + 1
      | none => (s.devNs - ofs) / 125000
    let s := (s.tsiAlign f).when (f % 16 = 0 && s.on TRB_CM_CTL TRB_CM_CTL_SWITCH && !s.cyc.switching) (fun s => s.cmSwap)
    let s := s.trb.stop.foldl (fun (s : State) (t : Nat) => s.tribStop t) s
    let l : List Nat := s.tribs
    let outs := (l.filter (fun (t : Nat) => decide (s.tSlots t ≠ 0))).map (fun (t : Nat) =>
      (t, (List.range (s.tSlots t)).map (fun i => s.tsiOut (s.tcfg t TRB_TRIB_TS_BASE + i))))
    let s := l.foldl (fun (s : State) (t : Nat) => s.tribFrame t f) { s with trb := { s.trb with frame := some f, inp := [] } }
    let s := (l.filter (fun (t : Nat) => decide (s.tSlots t ≠ 0))).foldl (fun (s : State) (t : Nat) =>
      let r := s.tsiGive t
      { r.1 with trb := { r.1.trb with inp := r.1.trb.inp ++ (List.range (s.tSlots t)).map (fun i =>
        (s.tcfg t TRB_TRIB_TS_BASE + i, r.2.getD i 0xFF)) } }) s
    .next (outs.foldl (fun (s : State) o => s.tsiTake o.1 f o.2) s)

/-- A write of TRB_CM_CTL (R346, R347): SWITCH and COPY, refused while either reads 1. -/
def State.cmCtlWrite (s : State) (v : Word) : State :=
  let busy := s.on TRB_CM_CTL TRB_CM_CTL_SWITCH || s.on TRB_CM_CTL TRB_CM_CTL_COPY
  if bget v 30 2 = 0 then s
  else if busy then s.ev TRB_STATUS TRB_STATUS_CM_BUSY
  else if bget v 31 1 = 1 then
    ((s.p TRB_CM_CTL TRB_CM_CTL_SWITCH 1).updCyc (fun d => { d with switching := true })).when (bget v 30 1 = 1)
      (fun s => s.ev TRB_STATUS TRB_STATUS_CM_BUSY)
  else { s.p TRB_CM_CTL TRB_CM_CTL_COPY 1 with trb := { s.trb with copyAt := s.now, kept := [] } }

/-- Whether a running COPY has passed entry `k`: one entry a core cycle, in rising order (R346). -/
def State.cmPassed (s : State) (k : Nat) : Bool :=
  s.on TRB_CM_CTL TRB_CM_CTL_COPY && decide (k < (s.now - s.trb.copyAt) * 8 / 5)

/-- A write of the standby view (R346, R347): in the cycle of a switch it still reaches the page that has become active; behind a running
COPY it stays. -/
def State.cmWrite (s : State) (k : Nat) (v : Word) : State :=
  let t := s.wrRW (TRB_CM_STBY k) v
  if s.cyc.swapped then s.wr (TRB_CM_ACT k) (t.rd (TRB_CM_STBY k))
  else t.when (s.cmPassed k) (fun s => { s with trb := { s.trb with kept := k :: s.trb.kept } })

/-- A read of the standby view: entries that a running COPY has passed hold the copy. -/
def State.cmRead (s : State) (k : Nat) (w : Word) : Word :=
  if s.cmPassed k && !s.trb.kept.contains k then s.rd (TRB_CM_ACT k) else w

/-- A write of TRB_CTL (R344): with EN = 0 the interchange stops. -/
def State.trbCtlWrite (s : State) (v : Word) : State :=
  let s := s.wrRW TRB_CTL v
  if s.on TRB_CTL TRB_CTL_EN then s else { s with trb := { s.trb with frame := none, inp := [], slipped := false } }

def execCmSwitch (ag : Agent) (v : Word) (s : State) : Out := .next (s.bus ag TRB_CM_CTL (fun s => s.cmCtlWrite v))
def execCmCopy (ag : Agent) (v : Word) (s : State) : Out := .next (s.bus ag TRB_CM_CTL (fun s => s.cmCtlWrite v))

/-- CM_COPY_DONE (R346, R347): the active page stands in the standby page, but for the entries written behind the copy. -/
def execCmCopyDone (s : State) : Out :=
  if s.on TRB_CM_CTL TRB_CM_CTL_COPY then
    let mine := (s.trb.kept.eraseDups).map (fun k => (k, s.rd (TRB_CM_STBY k)))
    let s := s.cmLoad (TRB_CM_STBY 0) (s.cmPage (TRB_CM_ACT 0))
    let s := mine.foldl (fun (s : State) e => s.wr (TRB_CM_STBY e.1) e.2) s
    .next (s.p TRB_CM_CTL TRB_CM_CTL_COPY 0)
  else .next s

-- ===== performance (R351) =====

/-- TRIB_PM_SECOND (R351): the endpoint's second is classified ES, SES or UAS and added to its bins; ten SES in a row make the endpoint
unavailable from the first of them, ten others make it available again from the first of those. -/
def execTribPmSecond (t : Fin 4096) (s : State) : Out :=
  if !s.tOn t then .next s
  else
    let e := s.ep t
    let d := fun (i : Nat) => s.rd64 ((tribReads t).getD i 0) - e.old.look i
    let bad := d 1 + d 2 + d 3
    let es := decide (0 < bad) || e.defSec
    let ses := e.sevSec || (decide (0 < d 0 + bad) && decide (3 * (d 0 + bad) ≤ 10 * bad))
    let sesRun := if ses then e.sesRun + 1 else 0
    let okRun := if ses then 0 else e.okRun + 1
    let uas := if e.unavail then (if ses then 1 + e.okRun else 0) else if sesRun = 10 then 10 else 0
    let un := if e.unavail then decide (okRun < 10) else decide (10 ≤ sesRun)
    let l := [(0, b2n es), (1, b2n ses), (2, uas), (3, d 1 + d 3), (4, d 2), (5, d 6), (6, d 4), (7, d 5), (8, b2n e.locSec), (9, b2n e.aisSec)]
    let old := s.tribOld t
    let s := s.updEp t (fun e => { e with old := old, locSec := false, aisSec := false, defSec := false, sevSec := false,
                                           sesRun := sesRun, okRun := if un then okRun else 0, unavail := un })
    let s := s.tSecond t
    .next (s.pmSecond (pmTrib t) (s.tim.sec - 1) false l)

end Sys2Proof.Machine
end

