-- ==== Sys2Proof/Machine/SvLine.lean ====
section
/-! DEFINITION. The bits of the selvedge lanes (R404 to R408): 66-bit blocks, the self-synchronous scrambler, striping over the four
lanes, alignment markers, control blocks, the messages that blocks carry, and the word on the heartbeat pins. -/
namespace Sys2Proof.Machine

-- ===== the scrambler x^58 + x^39 + 1 (R404) =====

/-- What the line bits before add to a bit: those 39 and 58 bits ago; bit i of `st` is the line bit i + 1 bits ago. -/
def scrTap (st : BitVec 58) : Bool := st.getLsbD 38 != st.getLsbD 57

/-- One more line bit. -/
def scrPush (st : BitVec 58) (y : Bool) : BitVec 58 := (st <<< 1) ||| BitVec.ofNat 58 (b2n y)

/-- Payload bits to line bits, first bit first. -/
def scrambleBits : BitVec 58 → List Bool → List Bool
  | _, [] => []
  | st, x :: xs => (x != scrTap st) :: scrambleBits (scrPush st (x != scrTap st)) xs

/-- Line bits to payload bits. -/
def unscrambleBits : BitVec 58 → List Bool → List Bool
  | _, [] => []
  | st, y :: ys => (y != scrTap st) :: unscrambleBits (scrPush st y) ys

/-- The bits of a payload, bit 0 first. -/
def payBits (p : BitVec 64) : List Bool := (List.range 64).map (fun i => p.getLsbD i)

/-- A payload from its bits. -/
def bitsPay (l : List Bool) : BitVec 64 := BitVec.ofNat 64 (l.foldr (fun b n => 2 * n + b2n b) 0)

def scramble (st : BitVec 58) (p : BitVec 64) : BitVec 64 := bitsPay (scrambleBits st (payBits p))
def unscramble (st : BitVec 58) (p : BitVec 64) : BitVec 64 := bitsPay (unscrambleBits st (payBits p))

/-- The line bits that the next block of a lane sees before it: the last 58 of a scrambled payload. -/
def scrLast (p : BitVec 64) : BitVec 58 := (payBits p).foldl scrPush 0

-- ===== striping (R404) =====

/-- Blocks onto the lanes from lane `lane` on, block by block in rotation, each scrambled behind the line bits of its lane. -/
def stripe : Nat → List (BitVec 58) → List SvBlock → List (Nat × SvBlock)
  | _, _, [] => []
  | lane, prev, b :: bs =>
    let y := scramble (prev.getD lane 0) b.pay
    (lane, ⟨b.sync, y⟩) :: stripe ((lane + 1) % 4) (prev.set lane (scrLast y)) bs

/-- The blocks that the lanes carry from lane `lane` on, unscrambled. -/
def unstripe : Nat → List (BitVec 58) → List SvBlock → List SvBlock
  | _, _, [] => []
  | lane, prev, b :: bs =>
    ⟨b.sync, unscramble (prev.getD lane 0) b.pay⟩ :: unstripe ((lane + 1) % 4) (prev.set lane (scrLast b.pay)) bs

-- ===== blocks (R405, R406) =====

/-- The bytes of a payload. -/
def payBytes (p : BitVec 64) : List Byte := (List.range 8).map (fun k => p.extractLsb' (8 * k) 8)

/-- A payload from its bytes. -/
def bytesPay (l : List Byte) : BitVec 64 := BitVec.ofNat 64 (leNat (padTo 8 l))

/-- A control block (R406): its type, bytes 1 to 6, the CRC-8. -/
def ctlBlock (type : Nat) (l : List Byte) : SvBlock :=
  let b := BitVec.ofNat 8 type :: padTo 6 l
  ⟨0b10, bytesPay (b ++ [BitVec.ofNat 8 (crc8 b)])⟩

/-- Bytes as data blocks, the last filled with zeros. -/
def dataBlocks : Nat → List Byte → List SvBlock
  | 0, _ => []
  | n + 1, l => ⟨0b01, bytesPay l⟩ :: dataBlocks n (l.drop 8)

/-- A message (R406): START with MTYPE, block count and MSG_SEQ, the data blocks, END with the CRC-32. -/
def msgBlocks (mt seq : Nat) (d : List Byte) : List SvBlock :=
  let n := cdiv d.length 8
  [ctlBlock 0x78 (BitVec.ofNat 8 mt :: beBytes 2 n ++ beBytes 2 seq)] ++ dataBlocks n d
    ++ [ctlBlock 0x87 (beBytes 4 (crc32 (padTo (8 * n) d)).toNat)]

/-- A HEARTBEAT block (R406). -/
def hbBlock (role : Nat) (claim : Bool) (seq : Nat) : SvBlock :=
  ctlBlock 0x33 ([BitVec.ofNat 8 role, BitVec.ofNat 8 (b2n claim)] ++ beBytes 2 seq)

/-- Whether eight bytes are an alignment marker of lane `i` (R405). -/
def markerOk (i : Nat) (b : List Byte) : Bool :=
  let u := fun (k : Nat) => (b.getD k 0).toNat
  decide (b.length = 8) && decide (u 0 = 0x5C) && decide (u 1 = i) && decide (u 2 = 255 - i) && decide (u 3 = 0xC5)
    && decide (u 6 = crc8 (b.take 6)) && decide (u 7 = 0)

/-- The count of a marker. -/
def markerCount (b : List Byte) : Nat := beNat ((b.drop 4).take 2)

-- ===== the heartbeat pins (R408) =====

/-- Whether an odd number of the low `n` bits is 1. -/
def oddOnes (v n : Nat) : Bool := decide (((List.range n).filter (fun i => bit v i)).length % 2 = 1)

/-- The word on HB_OUT (R408): start, active, CLAIM, three bits of HB_SEQ, odd parity, stop. -/
def hbWord (role : Nat) (claim : Bool) (seq : Nat) : BitVec 8 :=
  let v := 1 + 2 * b2n (decide (role = 2)) + 4 * b2n claim + 8 * (seq % 8)
  BitVec.ofNat 8 (v + 64 * b2n (!oddOnes v 6))

end Sys2Proof.Machine
end

