-- ==== Sys2Proof/Machine/Time.lean ====
section
/-! DEFINITION. Time, timestamps and triggers (chapter 16). -/
namespace Sys2Proof.Machine

/-- A signed word. -/
def sword (v : Word) : Int := v.toInt

/-- FREQ_LIM in 2^-32 ns per ns. -/
def State.freqLim (s : State) : Int := ((atLeast1 (s.g TIM_CTL TIM_CTL_FREQ_LIM) * 2 ^ 32 / 1000000000 : Nat) : Int)

/-- JUMP_NS. -/
def State.jumpNs (s : State) : Nat := atLeast1 (s.g TIM_CTL TIM_CTL_JUMP_NS)

/-- The frequency part of an accepted sample (R377). A sample without an interval has no fractional frequency: a free value. -/
def State.servoFreq (s : State) (e : Int) (ts : Nat) : State :=
  match s.tim.tsPrev with
  | none => s.updTim (fun d => { d with tsPrev := some ts })
  | some p =>
    let dt : Int := (ts : Int) - (p : Int)
    let q : Int × State := if dt = 0 then
        let w := s.draw
        (sword w.1, w.2)
      else ((e * 2 ^ 32) / (16 * dt), s)
    let s := q.2
    let lim := s.freqLim
    let i := clampI lim (s.tim.integ + q.1 / 2 ^ (s.g TIM_SERVO TIM_SERVO_KI))
    let adj := clampI lim (i + q.1 / 2 ^ (s.g TIM_SERVO TIM_SERVO_KP))
    (s.wr TIM_FREQ (word (toBits 32 adj))).updTim (fun d => { d with integ := i, tsPrev := some ts })

/-- A phase sample of `e` sixteenths of a nanosecond taken at `ts` (R377); `before` is before_step. -/
def State.sample (s : State) (e : Int) (ts : Nat) (before : Bool) : State :=
  if s.coasting || before then s.inc TIM_DISCARDED
  else if 16 * s.jumpNs < e.natAbs then
    let n := s.tim.refused + 1
    let s := ((s.inc TIM_JUMP_REFUSED).ev TIM_STATUS TIM_STATUS_JUMP_REFUSED).updTim (fun d => { d with refused := n })
    if n = 16 then s.ev TIM_STATUS TIM_STATUS_SERVO_STUCK else s
  else
    let s := (s.inc TIM_SAMPLES).updTim (fun d => { d with refused := 0, lastSample := s.now })
    let s := s.servoFreq e ts
    let good := if e.natAbs ≤ 16 * s.g TIM_SERVO TIM_SERVO_LOCK_NS then s.tim.good + 1 else 0
    (s.updTim (fun d => { d with good := good })).servoState (if 16 ≤ good then 2 else 1)

/-- Device time as an edge of this TIM cycle sees it: the time before a step of the same cycle (R392). -/
def State.stampNs (s : State) : Nat := match s.tim.lastStep with
  | some l => if l.1 = s.now then l.2.1 else s.devNs
  | none => s.devNs

/-- A time in sixteenths of a nanosecond as (seconds, nanoseconds, 16-bit fraction). -/
def split16 (t : Nat) : Nat × Nat × Nat := (t / 16000000000, t % 16000000000 / 16, t % 16 * 4096)

/-- An edge of PPS_IN (R376, R388): `sub` sixteenths of a nanosecond after the TIM cycle began. Its sample goes to the servo at the end of
the cycle. -/
def execPpsInEdge (i : Fin 2) (rising : Bool) (sub : Fin 16) (s : State) : Out :=
  let a := TIM_PPSIN i
  .next (s.when (s.on a TIM_PPSIN_EN && (rising != s.on a TIM_PPSIN_POL)) (fun s =>
    let soon := match s.tim.ppsPrev.look i with
      | some t => decide (s.now < t + 900000000)
      | none => false
    if soon then (s.inc TIM_PPS_REJECT).ev TIM_STATUS TIM_STATUS_PPS_REJECT
    else
      let t := s.stampNs * 16 + sub.val
      let x := split16 t
      let s := ((s.wr (a + 4) (word x.2.1)).wr (a + 8) (word x.1)).wr (a + 12) (word x.2.2)
      let s := s.updTim (fun d => { d with ppsPrev := d.ppsPrev.put i (some s.now) })
      if s.g TIM_SERVO TIM_SERVO_SRC = i.val + 1 then
        let c : Int := (t : Int) - (s.g a TIM_PPSIN_IN_DLY : Nat)
        let near := (c + 8000000000) / 16000000000 * 16000000000
        s.updCyc (fun d => { d with pps := d.pps ++ [(near - c, s.stampNs)] })
      else s))

/-- At the end of a TIM cycle the servo takes the samples of its PPS edges; with an accepted step in that cycle they are discarded (R377,
R392). -/
def State.ppsTick (s : State) : State :=
  s.cyc.pps.foldl (fun (s : State) e => s.sample e.1 e.2 (match s.tim.lastStep with
    | some l => decide (s.now ≤ l.1 + 1)
    | none => false)) s

/-- A write of TIM_PTP_OFS (R376, R377): a sample of the PTP source when a host port writes it. -/
def State.ptpOfs (s : State) (ag : Agent) (v : Word) : State :=
  if s.g TIM_SERVO TIM_SERVO_SRC = 3 && agCode ag ≤ 1 then
    let ts := s.rd64 TIM_PTP_TS
    let before := match s.tim.lastStep with
      | some l => decide (ts ≤ max l.2.1 l.2.2)
      | none => false
    s.sample (sword v) ts before
  else s

def execPtpOfsWrite (ag : Agent) (v : Word) (s : State) : Out := .next (s.bus ag TIM_PTP_OFS (fun s => s.ptpOfs ag v))

/-- HOLD_S seconds without an accepted sample (R377). -/
def execServoHoldover (s : State) : Out :=
  .next (s.when (s.on TIM_SERVO TIM_SERVO_SRC && decide (s.g TIM_STATUS TIM_STATUS_STATE ≠ 3)
      && decide (atLeast1 (s.g TIM_SERVO TIM_SERVO_HOLD_S) * 1000000000 ≤ s.now - s.tim.lastSample)) (fun s => s.servoHold))

/-- A write of TIM_SERVO (R377, R392): a change of SRC restarts the servo's counts; SRC 0 is FREE. -/
def State.servoWrite (s : State) (v : Word) : State :=
  let o := s.g TIM_SERVO TIM_SERVO_SRC
  let s := s.wrRW TIM_SERVO v
  let n := s.g TIM_SERVO TIM_SERVO_SRC
  if o = n then s
  else
    let s := s.updTim (fun d => { d with good := 0, refused := 0, tsPrev := none, lastSample := s.now })
    if n = 0 then s.servoState 0 else s

-- ===== steps (R379, R380, R392) =====

/-- Seconds wrap modulo 2^48 (R372). -/
def timeMod : Nat := 2 ^ 48 * 1000000000

/-- Apply a step to `t` nanoseconds. -/
def State.stepTo (s : State) (t : Nat) (abs : Bool) : State :=
  let old := s.devNs
  let s := s.updTim (fun d =>
    { d with
      sec := t / 1000000000 % 2 ^ 48, ns := t % 1000000000, frac := if abs then 0 else d.frac,
      stepBusy := true, absSet := d.absSet || abs, lastStep := some (s.now, old, t) })
  let s := ((s.inc TIM_STEPS).ev TIM_STATUS TIM_STATUS_STEPPED).p TIM_STEP_CTL TIM_STEP_CTL_GO 1
  let s := s.updBlt (fun d => { d with stepped := t / 1000000000 + 1 })
  s.updPmc (fun d => { d with bwStep := iter 64 (fun c x => x.put c true) d.bwStep })

/-- A write of TIM_STEP_CTL: GO steps, is refused beyond JUMP_NS without FORCE, or finds a step pending. -/
def State.stepWrite (s : State) (v : Word) : State :=
  let s := s.wrRW TIM_STEP_CTL v
  if !v.getLsbD 31 then s
  else if s.tim.stepBusy then s.ev TIM_STATUS TIM_STATUS_STEP_BUSY
  else
    let w := s.rd64 TIM_STEP
    let abs := s.on TIM_STEP_CTL TIM_STEP_CTL_ABS
    let old : Int := s.devNs
    let new : Int := if abs then (w : Int) else (old + sext 64 w) % (timeMod : Int)
    let d : Int := if abs then (w : Int) - old else sext 64 w
    if (s.jumpNs < d.natAbs) && !s.on TIM_STEP_CTL TIM_STEP_CTL_FORCE then
      (s.inc TIM_JUMP_REFUSED).ev TIM_STATUS TIM_STATUS_JUMP_REFUSED
    else s.stepTo new.toNat abs

def execTimeStep (ag : Agent) (v : Word) (s : State) : Out :=
  .next (s.bus ag TIM_STEP_CTL (fun s => s.stepWrite v))

/-- A read of TIM_NOW_NS (R374): the rest of the time goes to the agent's holding registers. -/
def State.nowRead (s : State) (ag : Agent) : State × Word :=
  let k := akey (agCode ag)
  let s := s.wr (k TIM_NOW_SEC) (word s.tim.sec)
  let s := s.wr (k TIM_NOW_X) (word (s.tim.sec / 2 ^ 32 % 65536 * 65536 + s.tim.frac / 65536))
  (s, word s.tim.ns)

def execTimeNowRead (ag : Agent) (s : State) : Out := .next (s.busRd ag TIM_NOW_NS (fun s => s.nowRead ag))

/-- A read of word 1 of TIM_PPSIN (R388): words 2 and 3 go to the agent's holding registers. -/
def State.ppsRead (s : State) (ag : Agent) (i : Nat) : State × Word :=
  let k := akey (agCode ag)
  let s := (s.wr (k (TIM_PPSIN i + 8)) (s.rd (TIM_PPSIN i + 8))).wr (k (TIM_PPSIN i + 12)) (s.rd (TIM_PPSIN i + 12))
  (s, s.rd (TIM_PPSIN i + 4))

def execPpsInRead (ag : Agent) (i : Fin 2) (s : State) : Out := .next (s.busRd ag (TIM_PPSIN i + 4) (fun s => s.ppsRead ag i))

-- ===== timestamps (R381 to R384) =====

/-- Where the PTP message of an event frame begins (R381): Ethertype 0x88F7, or UDP over IPv4 to port 319, with at most one VLAN
tag. -/
def ptpAt (b : List Byte) : Option Nat :=
  let u16 := fun (i : Nat) => beNat ((b.drop i).take 2)
  let o := if u16 12 = 0x8100 || u16 12 = 0x88A8 then 16 else 12
  let at_ : Option Nat :=
    if u16 o = 0x88F7 then some (o + 2)
    else if u16 o = 0x0800 then
      let ip := o + 2
      let l := 4 * ((b.getD ip 0).toNat % 16)
      if (b.getD (ip + 9) 0).toNat = 17 && u16 (ip + l + 2) = 319 then some (ip + l + 8) else none
    else none
  match at_ with
  | some i => if i < b.length && (b.getD i 0).toNat % 16 ≤ 3 then some i else none
  | none => none

/-- Whether a frame carries UDP over IPv4 or IPv6. -/
def isUdp (b : List Byte) : Bool :=
  let u16 := fun (i : Nat) => beNat ((b.drop i).take 2)
  let o := if u16 12 = 0x8100 || u16 12 = 0x88A8 then 16 else 12
  (decide (u16 o = 0x0800) && decide ((b.getD (o + 11) 0).toNat = 17)) || (decide (u16 o = 0x86DD) && decide ((b.getD (o + 8) 0).toNat = 17))

/-- A timestamp entry (R383). -/
def tsEntry (lane : Nat) (tx : Bool) (b : List Byte) (i t : Nat) : Word × Word × Word × Word :=
  let x := split16 t
  let by_ := fun (k : Nat) => (b.getD (i + k) 0).toNat
  (word (2 ^ 31 + lane * 2 ^ 26 + b2n tx * 2 ^ 25 + by_ 0 % 16 * 2 ^ 21 + by_ 4 * 2 ^ 13),
   word ((by_ 30 * 256 + by_ 31) * 65536 + x.2.2), word x.2.1, word x.1)

/-- Write a timestamp entry, or drop it where its FIFO is full (R383). -/
def State.tsPut (s : State) (tx : Bool) (e : Word × Word × Word × Word) : State :=
  if tx then (if s.tim.tx.length < 256 then s.updTim (fun d => { d with tx := d.tx ++ [e] })
    else (s.inc TIM_TS_OVF).ev TIM_STATUS TIM_STATUS_TS_OVF)
  else (if s.tim.rx.length < 1024 then s.updTim (fun d => { d with rx := d.rx ++ [e] })
    else (s.inc TIM_TS_OVF).ev TIM_STATUS TIM_STATUS_TS_OVF)

/-- A received event message is stamped (R382, R383). -/
def State.tsReceive (s : State) (lane : Nat) (b : List Byte) (sub : Nat) : State :=
  match ptpAt b with
  | none => s
  | some i =>
    let t : Int := (s.devNs * 16 + sub : Nat) + sext 16 (s.g (TIM_LANE lane) TIM_LANE_RX_CORR)
    s.tsPut false (tsEntry lane false b i t.toNat)

/-- Word `w` of the head of a timestamp FIFO; zeros where it is empty. -/
def State.tsHead (s : State) (tx : Bool) (w : Nat) : Word :=
  match (if tx then s.tim.tx else s.tim.rx) with
  | [] => 0
  | e :: _ => if w = 0 then e.1 else if w = 1 then e.2.1 else if w = 2 then e.2.2.1 else e.2.2.2

def execTsFifoPop (ag : Agent) (tx : Bool) (s : State) : Out :=
  .next (s.busRd ag ((if tx then TIM_TS_TX else TIM_TS_RX) + 12) (fun s =>
    let w := s.tsHead tx 3
    (s.updTim (fun d => if tx then { d with tx := d.tx.tail } else { d with rx := d.rx.tail }), w)))

/-- A write of TIM_PTP_TX_CTL (R384): GO queues the agent's frame, or is refused. -/
def State.ptpTxWrite (s : State) (ag : Agent) (v : Word) : State :=
  let k := akey (agCode ag) TIM_PTP_TX_CTL
  let s := s.wrMask k (rwBits TIM_PTP_TX_CTL) v
  if !v.getLsbD 31 then s
  else if (s.tim.mail.look (agCode ag)).isSome then s.p k TIM_PTP_TX_CTL_RESULT 2
  else
    let lane := s.g k TIM_PTP_TX_CTL_LANE
    let n := min (2 * s.g k TIM_PTP_TX_CTL_LEN2) 256
    let b := ((List.range 64).flatMap (fun w => wordBytes (s.rd (akey (agCode ag) (TIM_PTP_TX w))))).take n
    if s.portState (s.portOfLane lane) = 3 then s.p k TIM_PTP_TX_CTL_RESULT 1
    else if s.on k TIM_PTP_TX_CTL_ONE_STEP && isUdp b then s.p k TIM_PTP_TX_CTL_RESULT 3
    else ((s.lpiTxEnd (s.portOfLane lane)).p k TIM_PTP_TX_CTL_GO 1).updTim
      (fun d => { d with mail := d.mail.put (agCode ag) (some ⟨b, s.rd k⟩) })

def execPtpTxGo (ag : Agent) (v : Word) (s : State) : Out :=
  .next (s.bus ag TIM_PTP_TX_CTL (fun s => s.ptpTxWrite ag v))

/-- The port sends an agent's mailbox frame at its next frame boundary (R384): the departure time goes into a one-step frame, and an
event message leaves a transmit timestamp. -/
def execPtpTxSend (ag : Agent) (sub : Fin 16) (s : State) : Out :=
  .next (match s.tim.mail.look (agCode ag) with
    | none => s
    | some m =>
      let lane := bget m.ctl 25 5
      let p := s.portOfLane lane
      if s.portState p ≠ 2 then s
      else
        let t : Int := (s.devNs * 16 + sub.val : Nat) + sext 16 (s.g (TIM_LANE p) TIM_LANE_TX_CORR)
        let x := split16 t.toNat
        let o := bget m.ctl 16 9
        let b := if m.ctl.getLsbD 30 then m.bytes.take o ++ (beBytes 6 x.1 ++ beBytes 4 x.2.1 ++ m.bytes.drop (o + 10)).take (m.bytes.length - o)
          else m.bytes
        let s := (s.inc (HSL_TX_FRAMES p)).add (HSL_TX_BYTES p) b.length
        let s := match ptpAt b with
          | some i => s.tsPut true (tsEntry p true b i t.toNat)
          | none => s
        let k := akey (agCode ag) TIM_PTP_TX_CTL
        ((s.p k TIM_PTP_TX_CTL_RESULT 0).p k TIM_PTP_TX_CTL_GO 0).updTim (fun d => { d with mail := d.mail.put (agCode ag) none }))

-- ===== ToD (R386) =====

/-- The update of a channel at the whole second `sec` (R386). -/
def State.todUpdate (s : State) (c : Nat) : State :=
  if s.on (DSF_STATUS c) DSF_STATUS_ALIGNED then
    let o := (s.pch.look c).offset
    let t := (s.tim.sec + 1) * 1000000000
    let n := if t ≤ o then 0 else cdiv (t - o) 125000
    let x := split16 ((n * 125000 + o) * 16 + s.g (TIM_TOD c) TIM_TOD_TX_DLY)
    let a := TIM_TOD c
    let s := (s.wr (a + 8) (word n)).wr (a + 12) (word x.1)
    let s := (s.wr (a + 16) (word x.2.1)).wr (a + 20) (word (x.1 / 2 ^ 32 % 65536 * 65536 + x.2.2))
    s.p a TIM_TOD_VALID (b2n (s.tim.lockedOnce && !s.coasting))
  else s

/-- TOD_UPDATE (R386), once at each whole second, in the first TIM cycle of it: with ADJ above 0 that may be the one in which nanosecond 1
shows. -/
def execTodUpdate (s : State) : Out :=
  .next (s.when (decide (s.tim.ns ≤ 1) && decide (s.tim.todSec ≠ s.tim.sec + 1)) (fun s =>
    (iter 64 (fun c s => s.todUpdate c) s).updTim (fun d => { d with todSec := d.sec + 1 })))

-- ===== comparators (R389 to R391) =====

/-- target − now as a signed 64-bit value; a step applies from the next TIM cycle (R389, R392). -/
def State.trigDiff (s : State) (j : Nat) : Int := sext 64 ((s.rd64 (TIM_TRIG j + 4) + 2 ^ 64 - s.stampNs % 2 ^ 64) % 2 ^ 64)

/-- Arm a comparator with the target and period its pairs hold (R389). -/
def State.trigArm (s : State) (j : Nat) : State :=
  let d := s.trigDiff j
  let f := s.g (TIM_TRIG j) TIM_TRIG_FUNC
  if decide ((2 : Int) ^ 62 ≤ d) || decide (d < -(2 : Int) ^ 62) || decide (7 ≤ f)
      || (decide (f = 3) && decide (1 < s.g (TIM_TRIG j) TIM_TRIG_PIN)) then
    (s.updTim (fun d => { d with armed := d.armed.put j false })).ev (TIM_TRIG j) TIM_TRIG_TARGET_BAD
  else (s.updTim (fun t => { t with armed := t.armed.put j true, firing := t.firing.put j (decide (d ≤ 0)) })).updCyc
    (fun t => { t with armed := t.armed.put j true })

/-- An action on an output pin (R391) by a comparator that fires at `at_`: a lower-numbered comparator wins within a cycle, and an action
inside another's pulse replaces the rest of it. The edge is placed OUT_DLY after the target. -/
def State.pinAct (s : State) (j pin act at_ : Nat) : State :=
  let last := s.tim.acts.look pin
  let lose := match last with
    | some l => decide (l.1 = s.now) && decide (l.2.1 < j)
    | none => false
  if lose then s
  else
    let base := match last with
      | some l => if l.1 = s.now then l.2.2 else s.tim.pins.look pin
      | none => s.tim.pins.look pin
    let level := if act = 0 then true else if act = 1 then false else if act = 2 then !base else true
    s.updTim (fun d =>
      { d with
        pins := d.pins.put pin level, acts := d.acts.put pin (some (s.now, j, base)),
        edges := d.edges.put pin (16 * (at_ : Int) + sext 16 (s.g (TIM_OUT_DLY pin) TIM_OUT_DLY_OUT_DLY))
        pulses := d.pulses.put pin (if act = 3 then some ⟨j, false, (s.rd (TIM_TRIG j + 20)).toNat, s.now + (s.rd (TIM_TRIG j + 20)).toNat⟩ else none) })

/-- A comparator fires (R390). -/
def State.trigFire (s : State) (j : Nat) : State :=
  let a := TIM_TRIG j
  let d := (-(s.trigDiff j)).toNat
  let target := s.rd64 (a + 4)
  let period := s.rd64 (a + 12)
  let k := if period = 0 then 0 else d / period + 1
  let late := s.tim.firing.look j || decide (1 < k)
  let at_ := if late then s.stampNs else target
  let s := s.updTim (fun t => { t with firing := t.firing.put j false, armed := t.armed.put j (decide (period ≠ 0)) })
  let s := s.when (decide (period ≠ 0)) (fun s => s.wr64 (a + 4) (target + k * period))
  let s := s.when (decide (1 < k)) (fun s => s.wr (a + 28) (s.rd (a + 28) + word (k - 1)))
  let f := s.g a TIM_TRIG_FUNC
  let pin := s.g a TIM_TRIG_PIN
  let act := s.g a TIM_TRIG_ACTION
  let s := if f = 2 then s.pinAct j pin act at_
    else if f = 3 then s.pinAct j (32 + pin) act at_
    else if f = 4 || f = 5 then s.pmRoll (f - 4) (target / 1000000000) late
    else if f = 6 then s.dumpReq (s.g (PMC_DUMP_TSCOPE j) PMC_DUMP_TSCOPE_SCOPE)
    else s
  (s.event (a + 24) (1 + 2 * b2n late)).bindEvent 8 j

/-- Whether a comparator fires in this TIM cycle (R389): diff is 0 or below, and it was not armed in this very cycle. -/
def State.trigDue (s : State) (j : Nat) : Bool := s.tim.armed.look j && decide (s.trigDiff j ≤ 0) && !s.cyc.armed.look j

/-- A write of a word of TIM_TRIG (R389, R392): EN 0 disarms; the _LO write of the target arms while EN is 1, after the old target has fired
where its cycle has come. -/
def State.trigWrite (s : State) (ag : Agent) (j w : Nat) (v : Word) : State :=
  let a := TIM_TRIG j + 4 * w
  if w = 0 then
    let s := s.wrRW a v
    if s.on (TIM_TRIG j) TIM_TRIG_EN then s else s.updTim (fun d => { d with armed := d.armed.put j false })
  else if w = 1 then
    let s := s.when (s.trigDue j) (fun s => s.trigFire j)
    let s := s.pairLo ag a v
    if s.on (TIM_TRIG j) TIM_TRIG_EN then s.trigArm j else s
  else if w = 2 || w = 4 then s.pairHi ag a v
  else if w = 3 then s.pairLo ag a v
  else if w = 5 then s.wrRW a v
  else if w = 6 then s.wrSqc a 0 (sqcBits a) v
  else s

def execTriggerArm (ag : Agent) (j : Fin 32) (v : Word) (s : State) : Out :=
  .next (s.bus ag (TIM_TRIG j + 4) (fun s => s.trigWrite ag j 1 v))

def execTriggerFire (j : Fin 32) (s : State) : Out :=
  .next (s.when (s.trigDue j) (fun s => s.trigFire j))

/-- A pulse ends after WIDTH nanoseconds (R391), with an edge that OUT_DLY delays as the one it began with. -/
def execPulseEnd (pin : Fin 34) (s : State) : Out :=
  .next (match s.tim.pulses.look pin with
    | some p => s.when (decide (p.until_ ≤ s.now)) (fun s => s.updTim (fun d =>
        { d with pins := d.pins.put pin p.level, pulses := d.pulses.put pin none,
                 edges := d.edges.upd pin (· + 16 * (p.width : Int)) }))
    | none => s)

end Sys2Proof.Machine
end

