-- ==== Sys2Proof/Machine/Uplink.lean ====
section
/-! DEFINITION. Uplink lanes and ports (chapter 17): port control, lane defects, received frames, low-power idle, reduced width. -/
namespace Sys2Proof.Machine

/-- Lanes that HSL_CTL asks for (R393). -/
def State.ctlWidth (s : State) (l : Nat) : Nat := 2 ^ s.g (HSL_CTL l) HSL_CTL_WIDTH

/-- The first check of a port start that fails; 0 when the port starts (R395). -/
def State.portCheck (s : State) (l : Nat) : Nat :=
  let r := s.g (HSL_CTL l) HSL_CTL_RATE
  let w := s.ctlWidth l
  let rest := (List.range w).filter (fun i => decide (i ≠ 0))
  if r = 3 || (1 < w && r ≠ 0) then 1
  else if l % w ≠ 0 then 2
  else if rest.any (fun i => decide (s.g (HSL_CTL (l + i)) HSL_CTL_RATE ≠ r) || decide (s.ctlWidth (l + i) ≠ w)
      || (decide (s.portState (l + i) ≠ 0) && decide (s.portState (l + i) ≠ 4))) then 3
  else if (List.range w).any (fun i => decide (s.portState (l + i) = 4)) then 4
  else if (s.drf.lanePipe.look l).1 = 0 then 5
  else 0

/-- Whether ports stay in FAULT (R396): no full draft RUNNING, or the safe state. -/
def State.portFault (s : State) : Bool := s.safe || s.drf.running.isNone

/-- Start the port of lane `l` over `w` lanes with the settings `ctl`, which it keeps (R395): TRAINING, or FAULT while its cause holds. -/
def State.portStart (s : State) (l w : Nat) (ctl : Word) : State :=
  let s := iter w (fun i s => (s.p (HSL_STATUS (l + i)) HSL_STATUS_WIDTH_NOW (Nat.log2 w + 1)).updHsl (l + i) (fun h => { h with ctl := ctl })) s
  (s.setPort l (if s.portFault then 3 else 1)).blankPort l

/-- EN written 1 on a port's lowest lane (R395). -/
def State.portEnable (s : State) (l : Nat) : State :=
  if (s.portState l ≠ 0 && s.portState l ≠ 4) || s.portOfLane l ≠ l then s
  else
    let e := s.portCheck l
    let s := s.p (HSL_STATUS l) HSL_STATUS_CFG_ERR e
    if e = 0 then s.portStart l (s.ctlWidth l) (s.rd (HSL_CTL l)) else s.ev (HSL_STATUS l) HSL_STATUS_CFG_ERR_EVT

/-- A lane leaves its port. -/
def State.laneDown (s : State) (l : Nat) : State :=
  let s := s.p (HSL_STATUS l) HSL_STATUS_WIDTH_NOW 0
  let s := if s.portState l = 4 then s else s.p (HSL_STATUS l) HSL_STATUS_STATE 0
  let s := (((s.p (HSL_STATUS l) HSL_STATUS_LOS_LIVE 0).p (HSL_STATUS l) HSL_STATUS_LOL_LIVE 0).p (HSL_STATUS l) HSL_STATUS_LOAM_LIVE 0)
  s.updHsl l (fun h => { h with lpiRx := none, blank := false, holds := 0 })

/-- EN written 0 takes a port to DOWN (R396). -/
def State.portDisable (s : State) (l : Nat) : State :=
  if s.portOfLane l ≠ l || s.portState l = 0 || s.portState l = 4 then s
  else
    let n := s.portWidth l
    let s := (s.lpiTxEnd l).lpiRxEnd l
    (iter n (fun i s => s.laneDown (l + i)) s).recCheck

/-- A write of HSL_CTL. -/
def State.hslCtlWrite (s : State) (l : Nat) (v : Word) : State :=
  let s := s.wrRW (HSL_CTL l) v
  if v.getLsbD 31 then s.portEnable l else s.portDisable l

def execPortEnable (ag : Agent) (l : Fin 32) (v : Word) (s : State) : Out :=
  .next (s.bus ag (HSL_CTL l) (fun s => s.hslCtlWrite l v))

def execPortDisable (ag : Agent) (l : Fin 32) (v : Word) (s : State) : Out :=
  .next (s.bus ag (HSL_CTL l) (fun s => s.hslCtlWrite l v))

/-- A lane has a raised defect. -/
def State.laneBad (s : State) (l : Nat) : Bool :=
  s.on (HSL_STATUS l) HSL_STATUS_LOS_LIVE || s.on (HSL_STATUS l) HSL_STATUS_LOL_LIVE || s.on (HSL_STATUS l) HSL_STATUS_LOAM_LIVE

/-- Every PCS lane of a TRAINING port is locked and deskewed (R398). -/
def execPortUp (p : Fin 32) (s : State) : Out :=
  .next (s.when (decide (s.portState p = 1) && decide (s.portOfLane p = p.val)
      && !(List.range (s.portWidth p)).any (fun i => s.laneBad (p + i))) (fun s => s.setPort p 2))

-- ===== lane defects (R399, R400) =====

/-- A raise on a lane, or its count while a window blanks it; on a lane of an UP port it takes the port back to TRAINING. -/
def State.laneRaise (s : State) (l i : Nat) (live evt : Fld) : State :=
  if s.on (HSL_STATUS l) live then s
  else if (s.hsl.look l).blank then
    let s := if bit (s.hsl.look l).holds i then s else s.inc (HSL_BLANKED (s.portOfLane l))
    s.updHsl l (fun h => { h with holds := setBit h.holds i true })
  else
    let s := ((s.p (HSL_STATUS l) live 1).ev (HSL_STATUS l) evt).boltEvent 0x01 3 l (160 + l) [evt.lo]
    let p := s.portOfLane l
    if s.portState p = 2 then s.setPort p 1 else s

/-- A clear on a lane. -/
def State.laneClear (s : State) (l i : Nat) (live evt : Fld) : State :=
  let s := s.updHsl l (fun h => { h with holds := setBit h.holds i false })
  if s.on (HSL_STATUS l) live then
    ((s.p (HSL_STATUS l) live 0).ev (HSL_STATUS l) evt).boltEvent 0x02 3 l (160 + l) [evt.lo]
  else s

/-- Whether a lane's receiver runs: its port is TRAINING, UP or FAULT. -/
def State.laneRuns (s : State) (l : Nat) : Bool :=
  decide (s.portState l = 1) || decide (s.portState l = 2) || decide (s.portState l = 3)

/-- A raise after the defect held for its set integration, LOS_SET_US µs. -/
def execHslLosRaise (l : Fin 32) (us : Nat) (s : State) : Out :=
  .next (s.when (s.laneRuns l && decide (atLeast1 (s.g (HSL_DEF_CTL l) HSL_DEF_CTL_LOS_SET_US) ≤ us))
    (fun s => s.laneRaise l 2 HSL_STATUS_LOS_LIVE HSL_STATUS_LOS))

/-- A clear after LOS_CLR_MS ms of energy. -/
def execHslLosClear (l : Fin 32) (ms : Nat) (s : State) : Out :=
  .next (s.when (decide (atLeast1 (s.g (HSL_DEF_CTL l) HSL_DEF_CTL_LOS_CLR_MS) ≤ ms))
    (fun s => s.laneClear l 2 HSL_STATUS_LOS_LIVE HSL_STATUS_LOS))

def execHslLolRaise (l : Fin 32) (s : State) : Out :=
  .next (s.when (s.laneRuns l) (fun s => s.laneRaise l 1 HSL_STATUS_LOL_LIVE HSL_STATUS_LOL))

def execHslLolClear (l : Fin 32) (s : State) : Out := .next (s.laneClear l 1 HSL_STATUS_LOL_LIVE HSL_STATUS_LOL)

def execLoamRaise (l : Fin 32) (s : State) : Out :=
  .next (s.when (s.laneRuns l) (fun s => s.laneRaise l 0 HSL_STATUS_LOAM_LIVE HSL_STATUS_LOAM))

def execLoamClear (l : Fin 32) (s : State) : Out := .next (s.laneClear l 0 HSL_STATUS_LOAM_LIVE HSL_STATUS_LOAM)

/-- The window of R400 ends on the lanes of a port: what still holds is raised now. -/
def State.portBlankEnd (s : State) (l : Nat) : State :=
  let h := (s.hsl.look l).holds
  let s := s.updHsl l (fun x => { x with blank := false, holds := 0 })
  let s := s.when (bit h 0) (fun s => s.laneRaise l 0 HSL_STATUS_LOAM_LIVE HSL_STATUS_LOAM)
  let s := s.when (bit h 1) (fun s => s.laneRaise l 1 HSL_STATUS_LOL_LIVE HSL_STATUS_LOL)
  s.when (bit h 2) (fun s => s.laneRaise l 2 HSL_STATUS_LOS_LIVE HSL_STATUS_LOS)

-- ===== frames (R397) =====

/-- Whether the port of lane `p` runs an FEC (R393): always at rate 0, by FEC_EN at rate 1, as read at its start. -/
def State.portFec (s : State) (p : Nat) : Bool :=
  let v := (s.hsl.look p).ctl
  let r := bget v HSL_CTL_RATE.lo HSL_CTL_RATE.w
  decide (r = 0) || (decide (r = 1) && bget v HSL_CTL_FEC_EN.lo HSL_CTL_FEC_EN.w != 0)

/-- A frame received on a port: `corr` and `uncorr` count its FEC codewords, where the port has FEC; a codeword that is not corrected marks
the frame bad, as a bad FCS does; `sub` is its timestamp point in sixteenths of a nanosecond past device time. -/
def execUplinkFrameReceive (p : Fin 32) (bytes : List Byte) (fcsOk : Bool) (corr uncorr : Nat) (sub : Fin 16) (s : State) : Out :=
  .next (if s.portOfLane p ≠ p.val then s
    else if s.portState p = 3 then s.inc (HSL_RX_LF_DROP p)
    else if s.portState p ≠ 2 then s
    else
      let uncorr := if s.portFec p then uncorr else 0
      let s := s.when (s.portFec p) (fun s => (s.add (HSL_FEC_CORR p) corr).add (HSL_FEC_UNCORR p) uncorr)
      if 10240 < bytes.length then s.inc (HSL_OVERSIZE p)
      else if !fcsOk || 0 < uncorr then s.inc (HSL_FCS_ERR p)
      else
        let s := (s.inc (HSL_RX_FRAMES p)).add (HSL_RX_BYTES p) bytes.length
        let s := s.tsReceive p bytes sub
        s.pipeIn ((s.drf.lanePipe.look p).1 - 1) ⟨p, 0, 0, 0, bytes, s.t64, none⟩)

-- ===== low-power idle (R401) =====

/-- Whether a port's queues hold something eligible. -/
def State.portEligible (s : State) (p : Nat) : Bool :=
  (s.tmg.queues.any (fun e => decide (upBase ≤ e.1) && s.inPort p e.1 && s.queueReady e.1))
    || s.tim.mail.any (fun m => match m.2 with
      | some m => decide (s.portOfLane (bget m.ctl 25 5) = p)
      | none => false)

/-- IDLE_US with nothing eligible: transmit LPI; a frame eligible in the same cycle wins. -/
def execTxLpiEnter (p : Fin 32) (us : Nat) (s : State) : Out :=
  .next (s.when (decide (s.portState p = 2) && decide (s.portOfLane p = p.val) && s.on (HSL_LPI p) HSL_LPI_TX_LPI_EN
      && decide (atLeast1 (s.g (HSL_LPI_TIME p) HSL_LPI_TIME_IDLE_US) ≤ us) && !s.portEligible p && (s.hsl.look p).lpiTx.isNone)
    (fun s => s.updHsl p (fun h => { h with lpiTx := some s.now })))

/-- The far end's LPI signalling, honoured while RX_LPI_EN is 1. -/
def execRxLpiSignal (p : Fin 32) (enter : Bool) (s : State) : Out :=
  .next (s.when (decide (s.portState p = 2) && decide (s.portOfLane p = p.val)) (fun s =>
    match (s.hsl.look p).lpiRx with
    | some _ => if enter then s else s.lpiRxEnd p
    | none => if enter && s.on (HSL_LPI p) HSL_LPI_RX_LPI_EN then s.updHsl p (fun h => { h with lpiRx := some s.now }) else s))

-- ===== reduced width (R402, R403) =====

/-- The widest aligned part of the lanes of port `p` (of `n` lanes), at most half of it, without a RETIRED lane; of equal ones the one with
the lowest lanes, which holds the lowest lane where it can. -/
def State.survivor (s : State) (p n : Nat) : Option (Nat × Nat) :=
  let sizes := [4, 2, 1].filter (fun m => decide (2 * m ≤ n))
  let parts := sizes.flatMap (fun m => (List.range (n / m)).map (fun i => (p + i * m, m)))
  parts.find? (fun q => (List.range q.2).all (fun i => decide (s.portState (q.1 + i) ≠ 4)))

/-- The port's TMG_UPORT block moves to its new number (R403), and its MAC's buffers are those of the new port's. -/
def State.uportMove (s : State) (p q : Nat) : State :=
  let s := s.updTmg (fun d => { d with bufs := d.bufs.map (fun e => (e.1, { e.2 with owner := if e.2.owner = some (64 + p) then some (64 + q) else e.2.owner })) })
  iter 2 (fun w s =>
    let v := s.rd (TMG_UPORT p + 4 * w)
    let f := s.rd (fkey (TMG_UPORT p + 4 * w))
    (((s.wr (TMG_UPORT q + 4 * w) v).wr (fkey (TMG_UPORT q + 4 * w)) f).wr (TMG_UPORT p + 4 * w) 0).wr (fkey (TMG_UPORT p + 4 * w)) 0) s

/-- Retirement of a lane (R402, R403). -/
def State.laneRetire (s : State) (l : Nat) : State :=
  let p := s.portOfLane l
  let n := if s.on (HSL_STATUS l) HSL_STATUS_WIDTH_NOW then s.portWidth l else 0
  let s := (s.lpiTxEnd p).lpiRxEnd p
  let s := s.p (HSL_STATUS l) HSL_STATUS_STATE 4
  let s := (iter n (fun i s => s.laneDown (p + i)) s).recCheck
  match s.survivor p n with
  | none => s
  | some q =>
    let s := if q.1 ≠ p then s.uportMove p q.1 else s
    (s.portStart q.1 q.2 (s.hsl.look p).ctl).ev (HSL_STATUS q.1) HSL_STATUS_WIDTH_CHG

end Sys2Proof.Machine
end

