-- ==== Sys2Proof/Machine/Selvedge.lean ====
section
/-! DEFINITION. The selvedge link and protection pairs (chapters 17 and 23): markers, heartbeats, messages, roles, takeover. -/
namespace Sys2Proof.Machine

-- ===== the lanes (R405) =====

/-- Whether lane `i` is LOCKED. -/
def State.svLocked (s : State) (i : Nat) : Bool := bit (s.g SLV_STATUS SLV_STATUS_LANE_LOCK) i

/-- Set LANE_LOCK of a lane. -/
def State.svLock (s : State) (i : Nat) (b : Bool) : State :=
  s.p SLV_STATUS SLV_STATUS_LANE_LOCK (setBit (s.g SLV_STATUS SLV_STATUS_LANE_LOCK) i b)

/-- The message being received is discarded (R406, R410). -/
def State.svDiscard (s : State) : State :=
  if s.slv.rxMsg.isSome then ((s.updSlv (fun d => { d with rxMsg := none })).inc SLV_MSG_BAD).ev SLV_STATUS SLV_STATUS_MSG_BAD else s

/-- How far the marker count of a lane is ahead of another's, modulo 2^16. -/
def State.svAhead (s : State) (i j : Nat) : Nat := (s.slv.count.look i + 65536 - s.slv.count.look j) % 65536

/-- LINK_UP follows the lanes (R405): up once all four are LOCKED with equal marker counts, down once one is not LOCKED or two counts
differ by more than the marker that one of them may have before the other. -/
def State.svLink (s : State) : State :=
  let all := decide (s.g SLV_STATUS SLV_STATUS_LANE_LOCK = 15)
  let pairs := (List.range 4).flatMap (fun i => (List.range 4).map (fun j => s.svAhead i j))
  let up := s.on SLV_STATUS SLV_STATUS_LINK_UP
  if !up && all && pairs.all (fun n => decide (n = 0)) then (s.p SLV_STATUS SLV_STATUS_LINK_UP 1).ev SLV_STATUS SLV_STATUS_LINK_CHG
  else if up && !(all && pairs.all (fun n => decide (n ≤ 1) || decide (n = 65535))) then
    ((s.p SLV_STATUS SLV_STATUS_LINK_UP 0).svDiscard).ev SLV_STATUS SLV_STATUS_LINK_CHG
  else s

/-- A lane returns to SEARCH. -/
def State.svSearch (s : State) (i : Nat) : State :=
  (((s.svLock i false).inc SLV_AM_LOSS).updSlv (fun d => { d with run := d.run.put i 0, miss := d.miss.put i 0 })).svLink

/-- A marker in a marker slot of a lane; `onTime`: 16,384 blocks after the last. Three valid ones in a row lock the lane (R405); a LOCKED
lane looks at its marker slots alone, and leaves at the fourth in a row without a valid marker. -/
def execSvAlignmentMarker (i : Fin 4) (b : List Byte) (onTime : Bool) (s : State) : Out :=
  .next (s.when (s.on SLV_CTL SLV_CTL_EN) (fun s =>
    let ok := markerOk i b
    if s.svLocked i then
      (if !onTime then s
      else if ok then (s.updSlv (fun d => { d with miss := d.miss.put i 0, count := d.count.put i (markerCount b) })).svLink
      else
        let s := s.updSlv (fun d => { d with miss := d.miss.upd i (· + 1) })
        s.when (decide (4 ≤ s.slv.miss.look i)) (fun s => s.svSearch i))
    else
      let n := if ok then (if onTime then s.slv.run.look i + 1 else 1) else 0
      let s := s.updSlv (fun d =>
        { d with run := d.run.put i n, miss := d.miss.put i 0, count := if ok then d.count.put i (markerCount b) else d.count })
      s.when (decide (3 ≤ n)) (fun s => (s.svLock i true).svLink)))

/-- Four marker slots in a row without a valid marker: the lane returns to SEARCH. -/
def execSvMarkerLoss (i : Fin 4) (s : State) : Out := .next (s.when (s.svLocked i) (fun s => s.svSearch i))

/-- A write of SLV_CTL: with EN = 0 no lane is LOCKED and the link is down; PIN_EN = 0 holds HB_OUT low. -/
def State.slvCtlWrite (s : State) (v : Word) : State :=
  let s := s.wrRW SLV_CTL v
  let s := s.when (!s.on SLV_CTL SLV_CTL_PIN_EN) (fun s => s.updSlv (fun d => { d with pinOut := 0 }))
  if s.on SLV_CTL SLV_CTL_EN then s
  else ((s.p SLV_STATUS SLV_STATUS_LANE_LOCK 0).updSlv (fun d => { d with run := [], miss := [] })).svLink

-- ===== what the lanes send (R404, R406) =====

/-- Blocks go out on the lanes. Where in the stream they stand, and the line bits before them, is a free value. -/
def State.svSend (s : State) (bs : List SvBlock) : State :=
  if s.on SLV_CTL SLV_CTL_EN then
    let k := s.drawNat
    let r := iter 4 (fun _ (a : List (BitVec 58) × State) =>
      let d := a.2.draw
      let e := d.2.draw
      (a.1 ++ [BitVec.ofNat 58 (d.1.toNat * 2 ^ 32 + e.1.toNat)], e.2)) ([], k.2)
    r.2.updSlv (fun d => { d with line := stripe (k.1 % 4) r.1 bs })
  else s

/-- A message goes out (R406); the mate hears it while the link is UP. -/
def State.svSendMsg (s : State) (mt : Nat) (d : List Byte) : State :=
  (s.svSend (msgBlocks mt s.slv.msgSeq d)).updSlv (fun x => { x with msgSeq := (x.msgSeq + 1) % 65536 })

-- ===== roles (R500 to R507) =====

/-- A held channel is lit (R504 step 2, R172, R198): TXDIS released and ACTIVE, with each slot's EqD less `delta`, every equaliser entry
STALE, every slot at profile 1 and re-ranged on LOB; a channel whose
framer is not yet aligned goes on through STARTING unmuted. -/
def State.light (s : State) (c : Nat) (delta : Int) : State :=
  let h := s.pch.look c
  if !h.protHeld then s
  else
    let s := s.updPch c (fun h => { h with protHeld := false, protMute := false })
    let s := s.overRegs (RNG_ONU c 0) (RNG_ONU c 256) (fun a s =>
      if a % 16 = 0 then (s.p a RNG_ONU_EQD (toBits 24 ((s.g a RNG_ONU_EQD : Int) - delta))).p a RNG_ONU_PROF 1 else s)
    let s := iter 261 (fun i s => (s.p (PCH_EQ c i) PCH_EQ_STALE 1).eqTouch c i) s
    let s := iter 256 (fun i s => if s.slotState c i = 0 then s else s.updSlot c i (fun x => { x with takenOver := true, clean := 0 })) s
    if s.chState c = 1 && h.running && h.txLocked then s.enterActive c else s

/-- One heartbeat on both paths (R408, R409): ROLE, CLAIM and the next sequence number. -/
def State.heartbeat (s : State) : State :=
  if s.on SLV_CTL SLV_CTL_EN || s.on SLV_CTL SLV_CTL_PIN_EN then
    let n := (s.slv.hbSeq + 1) % 65536
    let role := s.g SLV_CTL SLV_CTL_ROLE
    let claim := s.on SLV_CTL SLV_CTL_CLAIM
    let s := s.updSlv (fun d => { d with hbSeq := n, pinOut := if s.on SLV_CTL SLV_CTL_PIN_EN then hbWord role claim n else d.pinOut })
    (s.svSend [hbBlock role claim n]).inc SLV_HB_TX
  else s

/-- The claim ends. -/
def State.claimClear (s : State) : State := s.p SLV_CTL SLV_CTL_CLAIM 0

/-- The tree is taken (R504): CLAIM and a heartbeat at once, the held channels lit, TOOK_OVER. -/
def State.takeOver (s : State) : State :=
  let s := (s.protEnter 3).p SLV_CTL SLV_CTL_CLAIM 1
  let s := s.updSlv (fun d => { d with claimEnd := s.now + atLeast1 (s.g SLV_PROT_CTL SLV_PROT_CTL_CLAIM_MS) * 1000000 })
  let s := s.heartbeat
  let s := iter 64 (fun c s => if s.protected_ c then s.light c (sext 24 (s.g (SLV_PATH_DELTA c) SLV_PATH_DELTA_DELTA)) else s) s
  (s.inc SLV_TAKEOVERS).ev SLV_PROT_STATUS SLV_PROT_STATUS_TOOK_OVER

/-- A HANDOVER record (R509). -/
def handBytes (f act : Nat) : List Byte := beBytes 8 (f % 2 ^ 51) ++ padTo 8 [BitVec.ofNat 8 act]

/-- A HANDOVER record goes to the mate, while the link is UP. -/
def State.handSend (s : State) (f act : Nat) : State :=
  if s.on SLV_STATUS SLV_STATUS_LINK_UP then (s.svSendMsg 0x3F (handBytes f act)).inc SLV_RECORDS_TX else s

/-- A handover is cancelled (R513, R514): the device that requested it sends ACTION 2. -/
def State.handCancel (s : State) : State :=
  let s := match s.slv.hand with
    | some (f, true, _) => s.handSend f 2
    | _ => s
  ((s.updSlv (fun d => { d with hand := none })).p SLV_PROT_CTL SLV_PROT_CTL_SWITCH 0).ev SLV_PROT_STATUS SLV_PROT_STATUS_HANDOVER_FAIL

/-- A claim accepted in ACTIVE (R505): the device yields, or, claiming itself, the one with PRIMARY = 0 does. -/
def State.claimHeard (s : State) : State :=
  let s := s.when s.slv.hand.isSome (fun s => s.handCancel)
  if s.protState ≠ 3 then s
  else if s.on SLV_CTL SLV_CTL_CLAIM then
    let s := s.ev SLV_PROT_STATUS SLV_PROT_STATUS_CLAIM_CONFLICT
    if s.slv.primary then s
    else (s.relinquish.inc SLV_YIELDS).ev SLV_PROT_STATUS SLV_PROT_STATUS_YIELDED
  else (s.relinquish.inc SLV_YIELDS).ev SLV_PROT_STATUS SLV_PROT_STATUS_YIELDED

/-- An accepted heartbeat on either path (R409, R501, R504, R505, R514). -/
def State.hbAccept (s : State) (pin : Bool) (role : Nat) (claim : Bool) : State :=
  let listens := decide (s.protState = 1)
  let live := if pin then SLV_STATUS_HB_PIN_ALIVE else SLV_STATUS_HB_LINK_ALIVE
  let chg := if pin then SLV_STATUS_PIN_CHG else SLV_STATUS_LINK_CHG
  let s := s.inc (if pin then SLV_HB_RX_PIN else SLV_HB_RX_LINK)
  let s := s.updSlv (fun d => if pin then { d with lastPin := some s.now } else { d with lastLink := some s.now })
  let s := if s.on SLV_STATUS live then s else (s.p SLV_STATUS live 1).ev SLV_STATUS chg
  let s := (s.p SLV_STATUS SLV_STATUS_MATE_ROLE role).p SLV_STATUS SLV_STATUS_MATE_CLAIM (b2n claim)
  let s := s.when claim (fun s => s.ev SLV_STATUS SLV_STATUS_CLAIM_RX)
  let s := s.when (decide (role = 2)) (fun s => s.updSlv (fun d => { d with lastActive := some s.now }))
  let s := s.when (claim && !listens) (fun s => s.claimHeard)
  let s := s.when (decide (role = 1)) (fun s => s.claimClear)
  if listens then
    (if role = 2 then s.protEnter 2 else if s.slv.primary then s.takeOver else s)
  else s

/-- A word on HB_IN (R408): start, odd parity, stop and sequence are checked; after silence any sequence is accepted. A word that is not
active carries ROLE 1. -/
def execHbPinWord (w : BitVec 8) (s : State) : Out :=
  let v := w.toNat
  let seq := v / 8 % 8
  let form := bit v 0 && !bit v 7 && oddOnes v 7
  let ok := match s.slv.pinSeq with
    | none => true
    | some q => decide (seq = (q + 1) % 8) || !s.on SLV_STATUS SLV_STATUS_HB_PIN_ALIVE
  .next (if form && ok then
      (s.updSlv (fun d => { d with pinSeq := some seq })).hbAccept true (if bit v 1 then 2 else 1) (bit v 2)
    else s.inc SLV_PIN_WORD_BAD)

/-- Every 62.5 µs. -/
def execHeartbeatTx (s : State) : Out := .next s.heartbeat

/-- 125 µs without an accepted heartbeat on a path (R409). -/
def execHbAliveTimeout (pin : Bool) (s : State) : Out :=
  let live := if pin then SLV_STATUS_HB_PIN_ALIVE else SLV_STATUS_HB_LINK_ALIVE
  let last := if pin then s.slv.lastPin else s.slv.lastLink
  let old := match last with
    | some t => decide (125000 ≤ s.now - t)
    | none => true
  .next (s.when (s.on SLV_STATUS live && old) (fun s =>
    (s.p SLV_STATUS live 0).ev SLV_STATUS (if pin then SLV_STATUS_PIN_CHG else SLV_STATUS_LINK_CHG)))

/-- The later of a time and the entry to the present state. -/
def State.sinceEntry (s : State) (t : Option Nat) : Nat := s.now - max s.slv.since (t.getD 0)

/-- More than 750 µs without an accepted heartbeat on either path (R502); one in the very cycle wins (R514). -/
def execSelfMute (s : State) : Out :=
  .next (s.when (decide (s.protState = 3) && decide (750000 < s.sinceEntry s.slv.lastLink)
      && decide (750000 < s.sinceEntry s.slv.lastPin))
    (fun s => (s.relinquish.inc SLV_SELF_MUTES).ev SLV_PROT_STATUS SLV_PROT_STATUS_SELF_MUTED))

/-- More than 1 ms without an accepted ROLE 2 heartbeat (R503); one in the very cycle wins (R514). -/
def execTakeover (s : State) : Out :=
  .next (s.when (decide (s.protState = 2) && decide (1000000 < s.sinceEntry s.slv.lastActive) && !s.safe && !s.coasting) (fun s => s.takeOver))

def execClaimEnd (s : State) : Out :=
  .next (s.when (s.on SLV_CTL SLV_CTL_CLAIM && decide (s.slv.claimEnd ≤ s.now)) (fun s => s.claimClear))

/-- EN written 1 (R500, R501, R507): LISTEN with the mask of SLV_PROT_CH and PRIMARY as they read now; the protected channels go to
their hold. -/
def State.protEnable (s : State) : State :=
  let s := s.updSlv (fun d => { d with protMask := s.rd64 SLV_PROT_CH, primary := s.on SLV_PROT_CTL SLV_PROT_CTL_PRIMARY })
  let s := s.protEnter 1
  iter 64 (fun c s =>
    if s.protected_ c then
      (if s.chState c = 1 then s.holdEnter c
       else if s.chState c = 2 then s.giveUp c else s)
    else s) s

/-- A channel leaves protection (R501): it closes and starts again as an ordinary one. -/
def State.unprotect (s : State) (c : Nat) : State :=
  let s := s.updPch c (fun h => { h with protHeld := false, protMute := false })
  let s := s.actDisable c
  if s.on (PCH_CTL c) PCH_CTL_ENABLE then
    (if s.chState c = 3 then s.updPch c (fun h => { h with enPending := true })
     else if s.chState c = 0 && !s.inReweave c then s.tryStart c else s)
  else s

/-- EN written 0 (R501): UNPAIRED; the protected channels close and start again as ordinary ones. -/
def State.protDisable (s : State) : State :=
  let m := s.slv.protMask
  let s := (s.protEnter 0).claimClear
  let s := s.updSlv (fun d => { d with protMask := 0, frameOk := 0, mateCh := [] })
  iter 64 (fun c s => if bit m c then s.unprotect c else s) s

/-- SWITCH on the ACTIVE device (R513): it asks the mate for a handover at the current frame + 4. -/
def State.protSwitch (s : State) : State :=
  if s.protState = 3 && s.slv.hand.isNone then
    let f := s.devNs / 125000 + 4
    ((s.updSlv (fun d => { d with hand := some (f, true, false) })).p SLV_PROT_CTL SLV_PROT_CTL_SWITCH 1).handSend f 0
  else s

/-- TAKE (R513). -/
def State.protTake (s : State) : State :=
  if s.protState = 1 || s.protState = 2 then
    let heard := match s.slv.lastActive with
      | some t => decide (s.now - t < 1000000)
      | none => false
    if heard && !s.on SLV_PROT_CTL SLV_PROT_CTL_FORCE then s.ev SLV_PROT_STATUS SLV_PROT_STATUS_TAKE_REFUSED
    else s.takeOver
  else s

/-- A write of SLV_PROT_CTL: EN, then SWITCH and TAKE. -/
def State.protCtlWrite (s : State) (v : Word) : State :=
  let was := s.on SLV_PROT_CTL SLV_PROT_CTL_EN
  let s := s.wrRW SLV_PROT_CTL v
  let now_ := s.on SLV_PROT_CTL SLV_PROT_CTL_EN
  let s := if !was && now_ then s.protEnable else if was && !now_ then s.protDisable else s
  let s := s.when (v.getLsbD 29) (fun s => s.protSwitch)
  s.when (v.getLsbD 28) (fun s => s.protTake)

def execProtEnable (ag : Agent) (v : Word) (s : State) : Out :=
  .next (s.bus ag SLV_PROT_CTL (fun s => s.protCtlWrite v))
def execProtDisable (ag : Agent) (v : Word) (s : State) : Out :=
  .next (s.bus ag SLV_PROT_CTL (fun s => s.protCtlWrite v))
def execProtSwitch (ag : Agent) (v : Word) (s : State) : Out :=
  .next (s.bus ag SLV_PROT_CTL (fun s => s.protCtlWrite v))
def execProtTake (ag : Agent) (v : Word) (s : State) : Out :=
  .next (s.bus ag SLV_PROT_CTL (fun s => s.protCtlWrite v))

/-- PSync(F) of an accepted handover (R513): the active gives up the trees, the standby lights them, without a claim. -/
def execHandoverExecute (s : State) : Out :=
  .next (match s.slv.hand with
    | some (f, mine, true) =>
      if s.devNs < f * 125000 then s
      else
        let s := if mine then s.relinquish
          else
            let s := s.protEnter 3
            iter 64 (fun c s => if s.protected_ c then s.light c (sext 24 (s.g (SLV_PATH_DELTA c) SLV_PATH_DELTA_DELTA)) else s) s
        (s.inc SLV_HANDOVERS).ev SLV_PROT_STATUS SLV_PROT_STATUS_HANDED_OVER
    | _ => s)

/-- No accept by PSync(F − 2) (R513). -/
def execHandoverTimeout (s : State) : Out :=
  .next (match s.slv.hand with
    | some (f, true, false) => if s.devNs < (f - 2) * 125000 then s else s.handCancel
    | _ => s)

-- ===== the carried state (R508, R509) =====

/-- Cut a list of bytes into records of `n` bytes; what does not fill one is padding. -/
def chunks (n : Nat) : Nat → List Byte → List (List Byte)
  | 0, _ => []
  | k + 1, l => if n = 0 || l.length < n then [] else l.take n :: chunks n k (l.drop n)

/-- GUAR_SUM from the VALID entries of a channel (R180). -/
def State.guarSum (s : State) (c : Nat) : State :=
  let es := ((s.keysIn (SHD_ALLOC c 0) (SHD_ALLOC c 512)).map (fun k => (k - SHD_ALLOC c 0) / 16)).eraseDups
  s.p (SHD_GUAR_SUM c) SHD_GUAR_SUM_GUAR_SUM (((es.filter (fun a => s.on (SHD_ALLOC c a) SHD_ALLOC_VALID)).map (fun a => s.guarOf c a)).sum)

/-- A big-endian word of a record. -/
def recW (r : List Byte) (i : Nat) : Nat := beNat ((r.drop i).take 4)

/-- The mate's CONFIG against this device's own (R500, R509): the same mask and BUILD_ID, and exactly one PRIMARY. -/
def State.cfgRecord (s : State) (r : List Byte) : State :=
  let ok := decide (beNat (r.take 8) = s.slv.protMask) && decide (beNat ((r.drop 8).take 8) = s.rd64 DRF_BUILD)
    && ((r.getD 16 0 != 0) != s.slv.primary)
  if ok || s.protState = 0 then s else s.ev SLV_PROT_STATUS SLV_PROT_STATUS_CFG_MISMATCH

/-- What a record did: it was applied, it names an unprotected channel, or its channel is protected and not held. -/
inductive RecRes where
  | applied
  | unprotected
  | notHeld
  deriving DecidableEq, Repr

/-- Apply one record (R508, R509): those of a channel go to a held one. -/
def State.protRecord (s : State) (mt : Nat) (r : List Byte) : State × RecRes :=
  let u := fun (i : Nat) => (r.getD i 0).toNat
  let c := u 0
  if mt = 1 then (s.cfgRecord r, .applied)
  else if mt = 5 then
    let n := min (u 4 * 256 + u 5) 256
    (s.updSlv (fun d => { d with keymeta := iter n (fun i t => t.put (recW r 0 + i) ((r.getD (8 + i) 0).toNat + 1)) d.keymeta }), .applied)
  else if 64 ≤ c || !s.protected_ c then (s, .unprotected)
  else if !(s.pch.look c).protHeld then (s, .notHeld)
  else if mt = 2 then
    let f := beNat ((r.drop 8).take 8)
    let own := s.rd64 (DSF_SFC c)
    (s.updSlv (fun d => { d with mateCh := d.mateCh.put c r, frameOk := setBit d.frameOk c (decide (f ≤ own) && decide (own ≤ f + 8)) }), .applied)
  else if mt = 3 then
    let a := RNG_ONU c (u 1)
    let s := ((s.p a RNG_ONU_STATE (u 2)).p a RNG_ONU_VIDAN_CAP (u 3)).p a RNG_ONU_SEALED_CAP (u 3 / 2)
    let s := (s.p a RNG_ONU_PROF (u 3 / 4)).p a RNG_ONU_EQD (recW r 4)
    ((s.wr (a + 8) (word (recW r 8))).wr (a + 12) (word (recW r 12)), .applied)
  else
    let a := (u 1 * 256 + u 2) % 512
    let s := iter 4 (fun i s => s.wr (SHD_ALLOC c a + 4 * i) (word (recW r (4 + 4 * i)))) s
    ((s.wr (SHD_ALLOC_POL c a) (word (recW r 20))).guarSum c, .applied)

/-- Bytes of a record with its padding. -/
def recLen (mt : Nat) (d : List Byte) : Nat :=
  if mt = 3 then 16 else if mt = 5 then 8 + (min (beNat ((d.drop 4).take 2)) 256 + 7) / 8 * 8 else 24

/-- A message of protection records: applied by a standby or a listening device, CONFIG by both (R509). -/
def State.protMsg (s : State) (mt : Nat) (d : List Byte) : State :=
  if mt ≠ 1 && s.protState ≠ 1 && s.protState ≠ 2 then s
  else (chunks (recLen mt d) 512 d).foldl (fun s r =>
    let q := s.protRecord mt r
    match q.2 with
    | .applied => q.1.inc SLV_RECORDS_RX
    | .unprotected => (s.inc SLV_MSG_BAD).ev SLV_STATUS SLV_STATUS_MSG_BAD
    | .notHeld => s) s

/-- A held channel. -/
def State.held (s : State) (c : Nat) : Bool := (s.pch.look c).protHeld

/-- READY (R512), as it stands now. An ACTIVE device is not READY. -/
def State.ready (s : State) : Bool :=
  let cs := (List.range 64).filter s.held
  decide (s.protState ≠ 3) && !s.safe && !s.coasting && decide (s.g TIM_STATUS TIM_STATUS_STATE = 2)
    && !s.on SLV_PROT_STATUS SLV_PROT_STATUS_CFG_MISMATCH
    && cs.all (fun c => bit s.slv.loopOk c && bit s.slv.keysOk c && bit s.slv.frameOk c
      && (decide (s.drf.chThread.look c = 0) || bit s.slv.bistOk (s.drf.chThread.look c - 1)))

/-- A HANDOVER record (R509, R513): a READY standby accepts a request and answers. -/
def State.handMsg (s : State) (d : List Byte) : State :=
  let f := beNat (d.take 8)
  let act := (d.getD 8 0).toNat
  if act = 0 then
    if s.protState = 2 && s.ready then (s.updSlv (fun x => { x with hand := some (f, false, true) })).handSend f 1 else s
  else if act = 1 then
    match s.slv.hand with
    | some (g, true, false) => if g = f then s.updSlv (fun x => { x with hand := some (g, true, true) }) else s
    | _ => s
  else if act = 2 then
    match s.slv.hand with
    | some (_, false, _) => s.updSlv (fun x => { x with hand := none })
    | _ => s
  else s

/-- The mate's health report (R511). -/
def State.healthMsg (s : State) (d : List Byte) : State :=
  let s := iter 12 (fun w s => s.wr (SLV_HEALTH_MATE w) (word (leNat ((d.drop (4 * w)).take 4)))) s
  s.p SLV_PROT_STATUS SLV_PROT_STATUS_MATE_READY (d.getD 4 0).toNat

/-- A mailbox message from the mate (R411). -/
def State.mbxMsg (s : State) (d : List Byte) : State :=
  if s.slv.mbx.length < 16 then (s.updSlv (fun x => { x with mbx := x.mbx ++ [d.take 256] })).ev SLV_STATUS SLV_STATUS_MBX_RX
  else s.inc SLV_MBX_DROP

/-- A message whose block count and CRC-32 check (R406, R407). -/
def State.svMsg (s : State) (mt : Nat) (d : List Byte) : State :=
  if mt = 0x3F then ((s.inc SLV_MSG_RX).handMsg d).inc SLV_RECORDS_RX
  else if 1 ≤ mt && mt ≤ 5 then (s.inc SLV_MSG_RX).protMsg mt d
  else if mt = 0x40 then (s.inc SLV_MSG_RX).healthMsg d
  else if mt = 0x41 then (s.inc SLV_MSG_RX).mbxMsg d
  else (s.inc SLV_MSG_BAD).ev SLV_STATUS SLV_STATUS_MSG_BAD

/-- One block of the stream, unscrambled (R406, R410): a data block joins the message being received; a control block with a bad CRC or an
unknown type counts in BAD_BLOCK; a START while a message is open discards that message; an END closes it. -/
def State.svBlock (s : State) (b : SvBlock) : State :=
  let u := payBytes b.pay
  let v := fun (k : Nat) => (u.getD k 0).toNat
  if b.sync = 0b01 then s.updSlv (fun d => { d with rxMsg := d.rxMsg.map (fun m => { m with bytes := m.bytes ++ u }) })
  else if b.sync ≠ 0b10 then s
  else if v 7 ≠ crc8 (u.take 7) then s.inc SLV_BAD_BLOCK
  else if v 0 = 0x1E then s
  else if v 0 = 0x33 then s.hbAccept false (v 1 % 4) (bit (v 2) 0)
  else if v 0 = 0x78 then s.svDiscard.updSlv (fun d => { d with rxMsg := some ⟨v 1, beNat ((u.drop 2).take 2), []⟩ })
  else if v 0 = 0x87 then
    match s.slv.rxMsg with
    | none => s
    | some m =>
      if 1 ≤ m.count && m.count ≤ 1024 && decide (m.bytes.length = 8 * m.count) && decide ((crc32 m.bytes).toNat = beNat ((u.drop 1).take 4))
      then (s.updSlv (fun d => { d with rxMsg := none })).svMsg m.mt m.bytes
      else s.svDiscard
  else s.inc SLV_BAD_BLOCK

/-- Blocks received from lane `first` on, each lane behind the line bits `prev`, while the link is UP (R404). -/
def State.svRead (s : State) (first : Nat) (prev : List (BitVec 58)) (bs : List SvBlock) : State :=
  s.when (s.on SLV_STATUS SLV_STATUS_LINK_UP) (fun s => (unstripe first prev bs).foldl (fun s b => s.svBlock b) s)

/-- A HEARTBEAT block on a lane (R406, R409), behind the line bits `prev` of that lane. -/
def execHeartbeatRx (lane : Fin 4) (prev : BitVec 58) (block : SvBlock) (s : State) : Out :=
  .next (s.svRead lane (List.replicate 4 prev) [block])

/-- The blocks of a message (R406), or of a part of it, from lane `first` on; heartbeats may stand among them. -/
def execSvMessage (first : Fin 4) (prev : List (BitVec 58)) (blocks : List SvBlock) (s : State) : Out :=
  .next (s.svRead first prev blocks)

-- ===== what the active sends (R509) =====

/-- The records of one key, of MTYPEs 1 to 5: none for CONFIG, the channel, 256 × channel + slot, 512 × channel + entry, 512 × first key
slot + number of slots. A record of an unprotected channel is not sent. -/
def State.recordOf (s : State) (mt k : Nat) : List (List Byte) :=
  let own := fun (c : Nat) (r : List Byte) => if c < 64 && s.protected_ c then [r] else []
  if mt = 1 then [beBytes 8 s.slv.protMask ++ beBytes 8 (s.rd64 DRF_BUILD) ++ padTo 8 [BitVec.ofNat 8 (b2n s.slv.primary)]]
  else if mt = 2 then
    let h := s.pch.look k
    own k ([BitVec.ofNat 8 k, BitVec.ofNat 8 h.mode, BitVec.ofNat 8 (s.chState k), 0] ++ beBytes 4 h.teqd ++ beBytes 8 (s.rd64 (DSF_SFC k) % 2 ^ 51)
      ++ beBytes 4 h.offset ++ beBytes 4 0)
  else if mt = 3 then
    let c := k / 256
    let a := RNG_ONU c (k % 256)
    let f := s.g a RNG_ONU_VIDAN_CAP + 2 * s.g a RNG_ONU_SEALED_CAP + 4 * s.g a RNG_ONU_PROF
    own c ([BitVec.ofNat 8 c, BitVec.ofNat 8 k, BitVec.ofNat 8 (s.g a RNG_ONU_STATE), BitVec.ofNat 8 f] ++ beBytes 4 (s.g a RNG_ONU_EQD)
      ++ beBytes 8 (s.slotSn c (k % 256)).toNat)
  else if mt = 4 then
    let c := k / 512
    let a := k % 512
    own c ([BitVec.ofNat 8 c] ++ beBytes 2 a ++ [0] ++ (List.range 4).flatMap (fun i => beBytes 4 (s.rd (SHD_ALLOC c a + 4 * i)).toNat)
      ++ beBytes 4 (s.rd (SHD_ALLOC_POL c a)).toNat)
  else if mt = 5 then
    let n := min (max (k % 512) 1) 256
    let b := (List.range n).map (fun i =>
      let w := s.rd (CRY_SLOT (k / 512 + i))
      BitVec.ofNat 8 (bget w 31 1 * 128 + bget w 28 3 * 16 + bget w 26 2 * 4))
    [padTo (8 * cdiv (8 + n) 8) (beBytes 4 (k / 512) ++ beBytes 2 n ++ [0, 0] ++ b)]
  else []

/-- The active sends one message with the records of an MTYPE that `keys` name; both devices send CONFIG; they wait until the link is UP
(R509, R514). -/
def execProtRecordSend (mt : Fin 64) (keys : List Nat) (s : State) : Out :=
  let rs := if mt.val = 1 then s.recordOf 1 0 else keys.flatMap (fun k => s.recordOf mt k)
  .next (s.when (s.on SLV_STATUS SLV_STATUS_LINK_UP && decide (s.protState ≠ 0) && (decide (s.protState = 3) || decide (mt.val = 1)) && !rs.isEmpty)
    (fun s => (s.svSendMsg mt rs.flatten).add SLV_RECORDS_TX rs.length))

-- ===== self-test and health (R510 to R512) =====

/-- The key slots of a channel's ONUs match the latest KEYMETA (R510). -/
def State.keysMatch (s : State) (c : Nat) : Bool :=
  let is := ((s.keysIn (CRY_ONU (256 * c)) (CRY_ONU (256 * c + 256))).map (fun a => (a - CRY_ONU 0) / 8)).eraseDups
  is.all (fun i => (List.range 5).all (fun r =>
    let n := s.g (CRY_ONU i) CRY_ONU_BASE + r
    let w := s.rd (CRY_SLOT n)
    let own := bget w 31 1 * 128 + bget w 28 3 * 16 + bget w 26 2 * 4
    let m := s.slv.keymeta.look n
    decide (m = 0) || decide ((m - 1) / 4 * 4 % 256 = own)))

/-- The bytes of the device's own report (R511). -/
def State.healthBytes (s : State) : List Byte :=
  let lit := (List.range 64).foldl (fun m c => setBit m c (s.pch.look c).litSecond) 0
  let f := b2n s.ready + 2 * b2n s.safe + 4 * b2n s.coasting + 8 * b2n (decide (s.g TIM_STATUS TIM_STATUS_STATE = 2))
    + 16 * b2n (s.on SLV_PROT_STATUS SLV_PROT_STATUS_CFG_MISMATCH)
  beBytes 4 ((s.tim.sec - 1) % 2 ^ 32) ++ [BitVec.ofNat 8 f, 0, 0, 0] ++ beBytes 8 s.slv.loopOk ++ beBytes 8 s.slv.keysOk ++ beBytes 8 lit
    ++ beBytes 8 s.slv.frameOk ++ beBytes 2 s.slv.bistOk ++ List.replicate 6 0

/-- The report of the second just ended (R511). -/
def execHealthReport (s : State) : Out :=
  .next (s.when (decide (s.protState ≠ 0)) (fun s =>
    let b := s.healthBytes
    let s := iter 12 (fun w s => s.wr (SLV_HEALTH_OWN w) (word (leNat ((b.drop (4 * w)).take 4)))) s
    let s := s.when (s.on SLV_STATUS SLV_STATUS_LINK_UP) (fun s => s.svSendMsg 0x40 b)
    iter 64 (fun c s => s.updPch c (fun h => { h with litSecond := false })) s))

-- ===== the host mailbox (R411) =====

/-- The message that an agent wrote (R411), its last block filled with zeros. -/
def State.mbxBytes (s : State) (ag n : Nat) : List Byte :=
  ((List.range 64).flatMap (fun w => wordBytes (s.rd (akey ag (SLV_MBX_TX w))))).take n

/-- A write of SLV_MBX_TX_CTL: GO takes the agent's message, or is refused; a message goes out in the next cycle. -/
def State.mbxWrite (s : State) (ag : Nat) (v : Word) : State :=
  let k := akey ag SLV_MBX_TX_CTL
  let s := s.wrMask k (rwBits SLV_MBX_TX_CTL) v
  if !v.getLsbD 31 then s
  else
    let n := s.g k SLV_MBX_TX_CTL_LEN
    if !s.on SLV_STATUS SLV_STATUS_LINK_UP || s.slv.mbxBusy.any (fun e => decide (e.1 = ag)) || n = 0 || 256 < n then s.p k SLV_MBX_TX_CTL_RESULT 1
    else ((s.p k SLV_MBX_TX_CTL_RESULT 0).p k SLV_MBX_TX_CTL_GO 1).updSlv (fun d => { d with mbxBusy := d.mbxBusy ++ [(ag, s.mbxBytes ag n)] })

/-- The messages that wait go out in order of GO arrival, while the link is UP. -/
def State.mbxTick (s : State) : State :=
  s.when (s.on SLV_STATUS SLV_STATUS_LINK_UP) (fun s =>
    (s.slv.mbxBusy.foldl (fun (s : State) e => (s.p (akey e.1 SLV_MBX_TX_CTL) SLV_MBX_TX_CTL_GO 0).svSendMsg 0x41 e.2) s).updSlv
      (fun d => { d with mbxBusy := [] }))

def execSlvMbxSend (ag : Agent) (v : Word) (s : State) : Out :=
  .next (s.bus ag SLV_MBX_TX_CTL (fun s => s.mbxWrite (agCode ag) v))

/-- A write of SLV_MBX_RX_CTL: POP removes the head message. -/
def State.mbxPop (s : State) (v : Word) : State :=
  if v.getLsbD 30 then s.updSlv (fun d => { d with mbx := d.mbx.tail }) else s

def execSlvMbxPop (ag : Agent) (v : Word) (s : State) : Out :=
  .next (s.bus ag SLV_MBX_RX_CTL (fun s => s.mbxPop v))

-- ===== pairs within one device (R515) =====

/-- Copy the registers within [lo, hi) to the same places from `dst`. -/
def State.copyRegs (s : State) (lo hi dst : Nat) : State :=
  let src := (s.keysIn lo hi).map (fun a => (a, s.rd a))
  let s := s.overRegs dst (dst + (hi - lo)) (fun a s => s.wr a (resetWord a))
  src.foldl (fun s e => s.wr (dst + (e.1 - lo)) e.2) s

/-- PROT takes WORK's slot and allocation tables (R515 step 3). -/
def State.copyTables (s : State) (c d : Nat) : State :=
  let s := s.copyRegs (RNG_ONU c 0) (RNG_ONU c 256) (RNG_ONU d 0)
  let s := s.copyRegs (SHD_ALLOC c 0) (SHD_ALLOC c 512) (SHD_ALLOC d 0)
  let s := s.copyRegs (SHD_ALLOC_POL c 0) (SHD_ALLOC_POL c 512) (SHD_ALLOC_POL d 0)
  s.guarSum d

/-- Switch a pair from the side that serves to the other (R515). -/
def State.iprotSwitch (s : State) (j : Nat) : State :=
  let a := SLV_IPROT j
  let on := s.on a SLV_IPROT_ON_PROT
  let from_ := s.g a (if on then SLV_IPROT_PROT else SLV_IPROT_WORK)
  let dst := s.g a (if on then SLV_IPROT_WORK else SLV_IPROT_PROT)
  let s := s.copyTables from_ dst
  let s := s.p a SLV_IPROT_ON_PROT (b2n (!on))
  let s := s.giveUp from_
  (s.light dst 0).inc SLV_IPROT_SWITCHES

/-- Whether a pair is accepted (R515). -/
def State.iprotOk (s : State) (j : Nat) : Bool :=
  let a := SLV_IPROT j
  let w := s.g a SLV_IPROT_WORK
  let p := s.g a SLV_IPROT_PROT
  let free := fun (c : Nat) => !s.on (PCH_CTL c) PCH_CTL_PAIR && !s.protected_ c
    && (List.range 16).all (fun i => decide (i = j) || !s.on (SLV_IPROT i) SLV_IPROT_EN
      || (decide (s.g (SLV_IPROT i) SLV_IPROT_WORK ≠ c) && decide (s.g (SLV_IPROT i) SLV_IPROT_PROT ≠ c)))
  decide (w ≠ p) && decide (s.g (PCH_CTL w) PCH_CTL_MODE = s.g (PCH_CTL p) PCH_CTL_MODE) && free w && free p

/-- A pair that is not accepted reads EN 0 (R515). -/
def State.iprotRefuse (s : State) (j : Nat) : State :=
  (s.p (SLV_IPROT j) SLV_IPROT_EN 0).ev SLV_PROT_STATUS SLV_PROT_STATUS_CFG_MISMATCH

/-- A write of SLV_IPROT (R515): a pair is checked when EN or one of its channels changes; the muted side of an old pair leaves the hold
as an ordinary channel, that of a new one enters it. -/
def State.iprotWrite (s : State) (j : Nat) (v : Word) : State :=
  let a := SLV_IPROT j
  let side := fun (s : State) => s.g a (if s.on a SLV_IPROT_ON_PROT then SLV_IPROT_WORK else SLV_IPROT_PROT)
  let was := s.on a SLV_IPROT_EN
  let old := side s
  let t := s.wrRW a v
  let same := was && t.on a SLV_IPROT_EN && decide (t.g a SLV_IPROT_PROT = s.g a SLV_IPROT_PROT)
    && decide (t.g a SLV_IPROT_WORK = s.g a SLV_IPROT_WORK)
  let s := if same then t
    else
      let s := t.p a SLV_IPROT_ON_PROT 0
      let s := if s.on a SLV_IPROT_EN && !s.iprotOk j then s.iprotRefuse j else s
      let s := s.when was (fun s => s.unprotect old)
      let p := s.g a SLV_IPROT_PROT
      if s.on a SLV_IPROT_EN then
        (if s.chState p = 1 then s.holdEnter p else if s.chState p = 2 then s.giveUp p else s)
      else s
  if v.getLsbD 29 && s.on a SLV_IPROT_EN then s.iprotSwitch j else s

/-- A switch of pair `j`: by a write of SLV_IPROT, or by itself with AUTO when WORK raises LOS, TXF or LOL or is retired. -/
def execIprotSwitch (j : Fin 16) (w : Option (Agent × Word)) (s : State) : Out :=
  .next (match w with
    | some (ag, v) => s.bus ag (SLV_IPROT j) (fun s => s.iprotWrite j v)
    | none =>
      let a := SLV_IPROT j
      let c := s.g a SLV_IPROT_WORK
      let d := PCH_DEFECT c
      let bad := s.on d PCH_DEFECT_LOS_LIVE || s.on d PCH_DEFECT_LOL_LIVE || s.on d PCH_DEFECT_TXF_LIVE || decide (s.chState c = 4)
      s.when (s.on a SLV_IPROT_EN && s.on a SLV_IPROT_AUTO && !s.on a SLV_IPROT_ON_PROT && bad) (fun s => s.iprotSwitch j))

end Sys2Proof.Machine
end

