-- ==== Sys2Proof/Machine/ShuOps.lean ====
section
/-! DEFINITION. What the shuttles share (chapter 9): threads, held items, thread faults, image loads and swaps. -/
namespace Sys2Proof.Machine

/-- Update the shuttles. -/
def State.updShu (s : State) (f : Shu → Shu) : State := { s with shu := f s.shu }

/-- Thread `t` of physical shuttle `p`. -/
def State.thread (s : State) (p t : Nat) : Thread := s.shu.threads.look (8 * p + t)

/-- Update a thread. -/
def State.updThread (s : State) (p t : Nat) (f : Thread → Thread) : State :=
  s.updShu (fun d => { d with threads := d.threads.upd (8 * p + t) f })

/-- The role that physical shuttle `p` holds in its cluster (R221). -/
def State.roleOf (s : State) (p : Nat) : Option Nat :=
  (List.range 16).find? (fun r => decide (s.g (SHU_MAP (p / 16) r) SHU_MAP_PHYS = p % 16))

/-- The role of kind SPARE of a cluster (R222). -/
def State.spareRole (s : State) (k : Nat) : Option Nat :=
  (List.range 16).find? (fun r => s.on (SHU_MAP k r) SHU_MAP_VALID && decide (s.g (SHU_MAP k r) SHU_MAP_KIND = 6))

/-- Whether a cluster is gated (R492). -/
def State.gatedK (s : State) (k : Nat) : Bool := s.on (PWR_SHU k) PWR_SHU_GATED

/-- Whether a cluster is being rewoven (R266). -/
def State.reweaving (s : State) (k : Nat) : Bool := decide (s.drf.reweave = some k)

-- ===== held items (R238) =====

/-- The queue behind a role's port: 64 × BIND + INDEX, or the port's own queue. -/
def portQueue (r : PortRec) (port : Nat) : Nat := if r.bind = 0 then 4096 + port else 64 * r.bind + r.index

/-- Put an item back at the head of its queue. -/
def State.queueFront (s : State) (q : Nat) (w : List Word) (up : Option (Nat × Bool × UpPloam)) : State :=
  let i := q % 64
  if q / 64 = 1 then
    (s.updShd i (fun h => { h with inq := ⟨w.getD 0 0, w.getD 1 0, w.getD 2 0, w.getD 3 0⟩ :: h.inq })).inqSync i
  else if q / 64 = 3 then s.updPch i (fun h => { h with bkq := w :: h.bkq })
  else if q / 64 = 5 then (match up with
    | some m => s.updShu (fun d => { d with upPloam := d.upPloam.upd i (fun l => m :: l) })
    | none => s)
  else if q / 64 = 6 then s.updShu (fun d => { d with work := d.work.upd i (fun l => w :: l) })
  else if 4096 ≤ q then s.updShu (fun d => { d with ports := d.ports.upd (q - 4096) (fun l => w :: l) })
  else s

/-- The held item of a thread leaves it uncompleted: requeued at the head of its queue, or, when a fault ends a requeued item a
second time, discarded (R238, R239). -/
def State.requeue (s : State) (p t : Nat) (fault : Bool) : State :=
  let h := s.thread p t
  match h.held with
  | none => s
  | some (q, w) =>
    let k := p / 16
    let s := s.updThread p t (fun x => { x with held := none, heldUp := none, heldAgain := false })
    if fault && h.heldAgain then s.inc (SHU_ITEMS_DISCARDED k)
    else
      let s := (s.queueFront q w h.heldUp).inc (SHU_ITEMS_REQUEUED k)
      if fault || h.heldAgain then s.updShu (fun d => { d with again := d.again.upd q (fun l => w :: l) }) else s

/-- A thread starts at the entry address of its context, with every register, flag and counter at zero (R226). -/
def State.threadStart (s : State) (p t : Nat) : State :=
  let e := match s.shu.held.look p with
    | some i => i.entries.getD t 0
    | none => 0
  s.updThread p t (fun _ => { (default : Thread) with pc := e % 16384 })

/-- Every thread of a shuttle starts. -/
def State.shuttleStart (s : State) (p : Nat) : State :=
  iter 8 (fun t s => s.threadStart p t) (s.updShu (fun d => { d with stopped := d.stopped.put p false }))

/-- Record a thread fault (R239). -/
def State.faultRecord (s : State) (p t code pc : Nat) : State :=
  let k := p / 16
  let r := (s.roleOf p).getD 0
  let s := s.wr (SHU_FAULT k) (word (code * 2 ^ 28 + r * 2 ^ 24 + t * 2 ^ 21 + pc % 16384))
  (s.inc (SHU_THREAD_FAULTS k)).ev (SHU_STATUS k) SHU_STATUS_THREAD_FAULT

/-- The tag in flight of a thread that faults or is aborted is marked faulted (R446, R448). -/
def State.tagFault (s : State) (p t : Nat) : State :=
  let k := p / 16
  let r := (s.roleOf p).getD 0
  { s with pmc := { s.pmc with tag := s.pmc.tag.upd k (fun x => x.map (fun g =>
      if bget g.w0 24 4 = r && bget g.w0 21 3 = t then { g with flags := setBit g.flags 1 true } else g)) } }

/-- A thread fault (R239): recorded, its held item requeued, the thread restarted. -/
def State.threadFault (s : State) (p t code pc : Nat) : State :=
  (((s.faultRecord p t code pc).tagFault p t).requeue p t true).threadStart p t

/-- Threads of a shuttle are aborted: their items requeued (R238, R244). -/
def State.threadAbort (s : State) (p t : Nat) : State :=
  ((s.tagFault p t).requeue p t false).updThread p t (fun x => { x with aborted := true, pend := [] })

-- ===== images (R240 to R242) =====

/-- Write an image into a shuttle's microword store; the rest of the store is zero (R261). -/
def State.imageInto (s : State) (p : Nat) (i : Image) : State :=
  let lo := 16384 * p
  s.updShu (fun d => { d with
    held := d.held.put p (some i), stopped := d.stopped.put p false,
    ustore := (i.words.zipIdx.foldl (fun (m : Tab Word) (e : Word × Nat) => m.put (lo + e.2) e.1)
      (Tab.drop d.ustore (fun a => decide (lo ≤ a) && decide (a < lo + 16384)))) })

/-- Clear a shuttle: its store, its threads and its local memory. -/
def State.shuttleClear (s : State) (p : Nat) : State :=
  s.updShu (fun d => { d with
    held := d.held.put p none,
    ustore := Tab.drop d.ustore (fun a => decide (16384 * p ≤ a) && decide (a < 16384 * (p + 1))),
    threads := Tab.drop d.threads (fun a => decide (8 * p ≤ a) && decide (a < 8 * (p + 1))),
    loc := Tab.drop d.loc (fun a => decide (65536 * p ≤ a) && decide (a < 65536 * (p + 1))) })

/-- The version words of an image (R242). -/
def State.verWrite (s : State) (a : Nat) (i : Image) : State :=
  (((s.wr a (word (i.id * 65536 + i.version.toNat % 65536))).wr (a + 4) (word (i.patch * 2 ^ 24 + b2n i.signer * 2 ^ 23))).wr (a + 8)
    i.digest.1).wr (a + 12) i.digest.2

/-- The image a role runs, from the draft in force with its patches (R240). -/
def State.roleImage (s : State) (k r : Nat) : Option Image :=
  match (s.drf.running.map (·.threading)).getD [] |>.find? (fun x => decide (x.code = 0x10) && decide (x.w0 / 4096 = k)
      && decide (x.w0 / 256 % 16 = r)) with
  | none => none
  | some x => (s.drf.regionImgs.look k ++ s.drf.cache).find? (fun i => decide (i.id = (x.rest.getD 0 0).toNat % 65536))

-- ===== swaps (R244 to R247) =====

/-- Set SWAP_RESULT; a result other than 0 is a failed swap. -/
def State.swapResult (s : State) (k r : Nat) : State :=
  let s := s.p (SHU_STATUS k) SHU_STATUS_SWAP_RESULT r
  s.ev (SHU_STATUS k) (if r = 0 then SHU_STATUS_SWAP_DONE else SHU_STATUS_SWAP_FAIL)

/-- A swap leaves its cluster. -/
def State.swapClear (s : State) (k : Nat) : State :=
  ((s.updShu (fun d => { d with swaps := d.swaps.put k none })).p (SHU_STATUS k) SHU_STATUS_SWAP_BUSY 0).p (SHU_SWAP k) SHU_SWAP_GO 0

/-- The physical shuttle of a role of a cluster, and the spare. -/
def State.sparePhys (s : State) (k : Nat) : Nat := match s.spareRole k with
  | some r => s.holder k r
  | none => 16 * k + 15

/-- Start a swap (R244): the spare may hold the role's image already. -/
def State.swapStart (s : State) (k : Nat) (w : Swap) : State :=
  let have_ := match s.roleImage k w.role with
    | some i => decide (s.shu.held.look (s.sparePhys k) = some i)
    | none => false
  let s := (s.p (SHU_STATUS k) SHU_STATUS_SWAP_BUSY 1).p (SHU_SWAP k) SHU_SWAP_GO 1
  s.updShu (fun d => { d with swaps := d.swaps.put k (some { w with phase := b2n have_ }) })

/-- A swap asked for (R244, R246): refused while one runs, without a spare, or for a role that no draft defines. -/
def State.swapAsk (s : State) (k role : Nat) (retire refresh : Bool) : State :=
  if (s.shu.swaps.look k).isSome then s.swapResult k 5
  else if !s.on (SHU_STATUS k) SHU_STATUS_SPARE_VALID then s.swapResult k 1
  else if !s.on (SHU_MAP k role) SHU_MAP_VALID || decide (s.g (SHU_MAP k role) SHU_MAP_KIND = 6) then s.swapResult k 2
  else s.swapStart k ⟨role, retire, refresh, 0⟩

/-- A shuttle stays without an operable role: its threads stop, its items go back (R453). -/
def State.shuttleStop (s : State) (p : Nat) : State :=
  iter 8 (fun t s => s.threadAbort p t) (s.updShu (fun d => { d with stopped := d.stopped.put p true }))

/-- A role whose shuttle retires while its cluster has no spare left: it stops, and the channel it serves retires (R20, R453). -/
def State.roleRetire (s : State) (k r : Nat) : State :=
  (s.shuttleStop (s.holder k r)).when (decide (s.g (SHU_MAP k r) SHU_MAP_KIND ≤ 2)) (fun s =>
    s.chanRetire (s.g (SHU_MAP k r) SHU_MAP_CHANNEL))

/-- The swaps that wait for the end of another one: the first starts, and a retirement that finds no spare left stops its role (R246,
R453). -/
def State.swapWaiting : Nat → State → Nat → State
  | 0, s, _ => s
  | n + 1, s, k =>
    match s.shu.waitingSwaps.look k with
    | [] => s
    | w :: rest =>
      let s := s.updShu (fun d => { d with waitingSwaps := d.waitingSwaps.put k rest })
      if s.on (SHU_STATUS k) SHU_STATUS_SPARE_VALID then s.swapAsk k w.role w.retire w.refresh
      else
        let s := if w.retire then s.roleRetire k w.role else if w.refresh then s.inc (SHU_REFRESH_SKIPPED k) else s
        State.swapWaiting n s k

def State.swapNext (s : State) (k : Nat) : State := State.swapWaiting 17 s k

/-- A write of SHU[k]_SWAP. -/
def State.swapWrite (s : State) (k : Nat) (v : Word) : State :=
  let s := s.wrRW (SHU_SWAP k) v
  if v.getLsbD 31 then s.swapAsk k (s.g (SHU_SWAP k) SHU_SWAP_ROLE) (s.on (SHU_SWAP k) SHU_SWAP_RETIRE) false else s

/-- Retirement of a shuttle (R246, R453); during a reweave of its region it stops, and takes the spare role as the draft applies (R269). -/
def State.shuttleRetire (s : State) (p : Nat) : State :=
  let k := p / 16
  match s.roleOf p with
  | none => s
  | some r =>
    let kind := s.g (SHU_MAP k r) SHU_MAP_KIND
    if s.reweaving k then s.shuttleStop p
    else if kind = 6 then (s.p (SHU_MAP k r) SHU_MAP_RETIRED 1).p (SHU_STATUS k) SHU_STATUS_SPARE_VALID 0
    else match s.shu.swaps.look k with
      | some w =>
        if w.role = r then s.updShu (fun d => { d with swaps := d.swaps.put k (some { w with retire := true }) })
        else s.updShu (fun d => { d with waitingSwaps := d.waitingSwaps.upd k (· ++ [⟨r, true, false, 0⟩]) })
      | none =>
        if s.on (SHU_STATUS k) SHU_STATUS_SPARE_VALID then s.swapAsk k r true false
        else s.roleRetire k r

/-- A reweave of the region abandons the swap (R246): the draft's role map is restored. -/
def State.swapAbandon (s : State) (k : Nat) : State :=
  let s := if (s.shu.swaps.look k).isSome then (s.swapClear k).swapResult k 4 else s
  s.updShu (fun d => { d with waitingSwaps := d.waitingSwaps.put k [] })

/-- Clear one event latch of a thread. -/
def State.unlatch (s : State) (p t e : Nat) : State := s.updThread p t (fun x => { x with latch := setBit x.latch e false })

end Sys2Proof.Machine
end

