-- ==== Sys2Proof/Machine/Resets.lean ====
section
/-! DEFINITION. Block resets: what each block keeps and loses (R307, R326, R350, R484, R537, R539). -/
namespace Sys2Proof.Machine

/-- Registers and the values in force within [lo, hi) return to their reset values. -/
def State.regsReset (s : State) (lo hi : Nat) : State :=
  { s with regs := Tab.drop s.regs (fun a => (decide (lo ≤ a) && decide (a < hi)) || (decide (fkey lo ≤ a) && decide (a < fkey hi))) }

/-- The loader drops the load in progress. -/
def State.drfReset (s : State) : State :=
  if s.drf.busy then
    let s := { s with drf := { s.drf with busy := false, fetched := none, stream := [], reweave := none } }
    (s.p DRF_CTL DRF_CTL_GO 0).p DRF_STATUS DRF_STATUS_STATE (if s.drf.running.isSome then 5 else 0)
  else s

/-- CLS: the frames inside its pipelines are dropped, counted, and its buckets fill. -/
def State.clsReset (s : State) : State :=
  let s := iter 8 (fun p s => s.add (CLS_PIPE_DROPS p) ((s.cls.fifo.look p).length + (s.cls.second.look p).length)) s
  let s := s.cls.commits.foldl (fun s x => s.p (akey x.agent CLS_COMMIT) CLS_COMMIT_GO 0) s
  s.updCls (fun d => { d with fifo := [], second := [], tok := [], commits := [] })

/-- Every entry of the forwarding tables is cleared, in both banks (R307). -/
def State.fwdClear (s : State) : State :=
  let s := (s.regsReset (FWD_MAC0 0) 0xF000000).wr64 FWD_ENTRIES 0
  s.updFwd (fun d => { d with routes := [] })

/-- FWD: its tables cleared, its queues dropped and counted in LEARN_DROP (R307); a flush and the commands that wait for it end. -/
def State.fwdReset (s : State) : State :=
  let s := s.fwdClear.add FWD_LEARN_DROP (s.fwd.learnQ.length + s.fwd.moveQ.length)
  let l := s.fwd.waiting.map (·.1) ++ (match s.fwd.flush with | some f => [f.1] | none => [])
  let s := (l.foldl (fun (s : State) g => s.p (akey g FWD_MAC_CMD) FWD_MAC_CMD_GO 0) s).p FWD_STATUS FWD_STATUS_FLUSHING 0
  s.updFwd (fun d => { d with learnQ := [], moveQ := [], flush := none, waiting := [] })

/-- TMG and BPM: every queue flushed as dropped, every buffer free, every bucket at its burst (R326). -/
def State.tmgReset (s : State) : State :=
  let s := (s.updCyc (fun d => { d with enq := [] })).flushRange 0 163840
  let s := (s.tmg.bufs.map (·.1)).foldl (fun s k => s.freeBack k) s
  s.updTmg (fun d => { d with deficits := [], cur := [], credit := [], pol := [], spill := (0, 0), turn := 0, served := (0, 0) })

/-- CRY: attempts and unwraps in progress end; keys stay. -/
def State.cryReset (s : State) : State :=
  let s := s.cry.seals.foldl (fun s e => s.sealAbandon e.1) s
  let s := s.cry.blobs.foldl (fun (s : State) e => if e.1 < 1000 then s.p (akey e.1 CRY_BLOB_CTL) CRY_BLOB_CTL_GO 0 else s) s
  let s := s.when s.cry.enrol (fun s => s.p CRY_ENROL_CTL CRY_ENROL_CTL_GO 0)
  s.updCry (fun d => { d with blobs := [], enrol := false })

/-- TRB: queued work, jitter buffers and alignment lost, defects cleared; settings and pages kept (R350). A switch that waits is dropped,
a running copy of pages goes on (assumption 94). -/
def State.trbReset (s : State) : State :=
  let s := s.trb.stop.foldl (fun (s : State) (t : Nat) => s.tribStop t) s
  let s := s.tribs.foldl (fun s t => s.tClearAll t) s
  let s := s.updShu (fun d => { d with work := d.work.put 1 [] })
  let l := s.tribs
  (l.foldl (fun (s : State) t => s.epFresh t) { s with trb := { (default : Trb) with copyAt := s.trb.copyAt, kept := s.trb.kept } }).p
    TRB_CM_CTL TRB_CM_CTL_SWITCH 0

/-- SLV: the lanes return to SEARCH, the mailboxes empty. -/
def State.slvReset (s : State) : State :=
  let s := (s.p SLV_STATUS SLV_STATUS_LANE_LOCK 0).svLink
  let s := s.slv.mbxBusy.foldl (fun s e => s.p (akey e.1 SLV_MBX_TX_CTL) SLV_MBX_TX_CTL_GO 0) s
  s.updSlv (fun d => { d with run := [], miss := [], count := [], mbx := [], mbxBusy := [] })

/-- BLT: the records in its write queue are LOST (R34). -/
def State.bltReset (s : State) : State :=
  let q := s.blt.queue
  q.foldl (fun s e => s.boltLoseRec e.1) (s.updBlt (fun d => { d with queue := [] }))

/-- PMC: images not yet written are skipped, tags dropped. -/
def State.pmcReset (s : State) : State :=
  let s := iter s.pmc.images.length (fun _ s => s.dumpSkip) s
  s.updPmc (fun d => { d with images := [], tagFifo := [], tag := [] })

/-- SHU: every thread of the cluster restarts, its items requeued. -/
def State.shuReset (s : State) (k : Nat) : State :=
  iter 128 (fun j s =>
    let p := 16 * k + j / 8
    let t := j % 8
    if s.shu.stopped.look p || (s.shu.held.look p).isNone then s
    else ((s.tagFault p t).requeue p t false).threadStart p t) s

/-- PCH (R537): its maps, queues and counts are lost, open grants close DISCARDED, defects clear; a channel that was STARTING or
ACTIVE starts again without the checks of R79. -/
def State.pchReset (s : State) (c : Nat) : State :=
  let st := s.chState c
  let s := (((s.discardWins c).dropMaps c (SHD_ABANDONED c)).inqFlush c).clearHints c
  let s := s.chClear c PCH_DEFECT_LOS_LIVE PCH_DEFECT_LOS
  let s := s.chClear c PCH_DEFECT_LOL_LIVE PCH_DEFECT_LOL
  let s := s.chClear c PCH_DEFECT_TXF_LIVE PCH_DEFECT_TXF
  let s := iter 256 (fun i s => s.onuClearAll c i) s
  let s := s.updPch c (fun h => { h with ploamQ := [], ploamTx := [], bkq := [], sealed := [], frags := [], carry := none, dark := 0, lit := 0, verdicts := [],
                                         pinSince := s.now, txfLast := none, txfDue := false, blank := true, running := false })
  let s := s.sleepReset c
  if st = 1 || st = 2 then s.startChannel c
  else if st = 3 then
    let s := s.p (PCH_STATUS c) PCH_STATUS_STATE 0
    if (s.pch.look c).enPending then (s.updPch c (fun h => { h with enPending := false })).tryStart c else s
  else s

/-- Refusals in flight on the response ports of the shed role of channel c (R232, R539). -/
def State.refusalsDrop (s : State) (c : Nat) : State :=
  (s.drf.ports.filter (fun e => e.2.push && decide (e.2.bind = 2) && decide (e.2.index = c))).foldl (fun (s : State) e =>
    match e.2.resp with
    | some y => s.updShu (fun d => { d with ports := d.ports.put (e.1 / 32 * 32 + y) [] })
    | none => s) s

/-- SHD (R196, R539): open maps ABANDONED and their buffers closed until the seals that follow, hints cleared, the input queue flushed,
refusals in flight discarded, GUAR_SUM recomputed; settings kept. -/
def State.shdReset (s : State) (c : Nat) : State :=
  let s := (((s.dropMaps c (SHD_ABANDONED c)).clearHints c).inqFlush c).refusalsDrop c
  (s.updPch c (fun h => { h with shutTo := h.openLo + 2 })).guarSum c

/-- HSL: the port of the lane retrains under the blanking of R400. -/
def State.hslReset (s : State) (l : Nat) : State :=
  let p := s.portOfLane l
  let s := if s.portState p = 2 then s.setPort p 1 else s
  s.blankPort p

/-- What a reset does inside block `n` (R484); the blocks without an entry here lose nothing the spec names. -/
def State.blockLose (s : State) (n : Nat) : State :=
  if n = 6 then s.drfReset else if n = 7 then s.clsReset else if n = 8 then s.fwdReset
  else if n = 9 || n = 10 then s.tmgReset else if n = 11 then s.cryReset else if n = 12 then s.trbReset
  else if n = 13 then s.slvReset else if n = 14 then s.bltReset else if n = 15 then s.pmcReset
  else if 16 ≤ n && n < 32 then s.shuReset (n - 16)
  else if 32 ≤ n && n < 96 then s.pchReset (n - 32)
  else if 96 ≤ n && n < 160 then s.shdReset (n - 96)
  else if 160 ≤ n && n < 192 then s.hslReset (n - 160)
  else s

/-- Update what the bridge and CLK know of a block. -/
def State.updBlk (s : State) (n : Nat) (f : Blk → Blk) : State := { s with blks := s.blks.upd n f }

/-- A block in reset returns its credits, in both directions (R32, R484). -/
def State.creditsBack (s : State) (n : Nat) : State :=
  (s.drf.tieup.filter (fun r => decide (r.code = 0x23) && (decide (bget (r.rest.getD 0 0) 24 8 = n) || decide (bget (r.rest.getD 0 0) 16 8 = n)))).foldl
    (fun (s : State) r => { s with pmc := { s.pmc with credits := s.pmc.credits.put (r.w0 % 1024) (0, 0) } }) s

/-- A block is reset (R484): it returns its credits, is no longer hung, its blanking window opens (R464), a gate requested
applies again (R485), and its limit no longer holds the safe state (R459). -/
def State.blockReset (s : State) (n : Nat) : State :=
  let s := ((s.blockLose n).creditsBack n).updTmp (fun d => { d with limits := d.limits.filter (fun e => decide (e.2 ≠ n)) })
  (s.updBlk n (fun b => { b with hung := false, gateWait := false, gated := b.gateReq || b.gatePwr, blanked := true })).inc CLK_BLK_RESETS

/-- Whether CLK refuses a gate or a reset of source `n` (R482, R484): GLB, HPI, CLK, PWR, TMP, TIM, or no block at all. -/
def noReset (n : Nat) : Bool := decide (n ≤ 5) || decide (200 ≤ n)

end Sys2Proof.Machine
end

