-- ==== Sys2Proof/Machine/Clocks.lean ====
section
/-! DEFINITION. Clocks, domains and reset (chapter 21): reference qualification, PLLs and coasting, clock gating, block and full-device
resets. -/
namespace Sys2Proof.Machine

-- ===== reference qualification (R471 to R474) =====

/-- Nominal edges of source `x` in a 10 ms gate, by its frequency code. -/
def State.refE (s : State) (x : Nat) : Nat :=
  let f := if x = 0 then s.refCfg CLK_REF_CFG_REFA_FREQ else if x = 1 then s.refCfg CLK_REF_CFG_REFB_FREQ else 2
  if f = 0 then 250000 else if f = 1 then 1555200 else 1562500

/-- What identifies the setting under which a source qualifies: its frequency code, or the lane of the recovered clock. -/
def State.refSet (s : State) (x : Nat) : Nat :=
  if x = 0 then s.refCfg CLK_REF_CFG_REFA_FREQ else if x = 1 then s.refCfg CLK_REF_CFG_REFB_FREQ else s.clkCtl CLK_CTL_REC_LANE

/-- Edges of `x` counted in the gate of `y`; a pair without an observation counted none. -/
def edges (l : List (Fin 3 × Fin 3 × Nat)) (x y : Nat) : Nat :=
  match l.find? (fun e => decide (e.1.val = x) && decide (e.2.1.val = y)) with
  | some e => e.2.2
  | none => 0

/-- X agrees with Y: within 20 ppm of the nominal count, rounded up. -/
def State.refAgree (s : State) (l : List (Fin 3 × Fin 3 × Nat)) (x y : Nat) : Bool :=
  let e := s.refE x
  decide (((edges l x y : Int) - e).natAbs ≤ cdiv (e * 20) 1000000)

/-- The other sources present beside `x`. -/
def State.refOthers (s : State) (x : Nat) : List Nat := [0, 1, 2].filter (fun y => decide (y ≠ x) && s.refHere y)

/-- CLK_PPM of a source: its mean offset against the others, in 0.01 ppm, rounded toward zero (assumption 94). -/
def State.refPpm (s : State) (l : List (Fin 3 × Fin 3 × Nat)) (x : Nat) : Word :=
  let ys := s.refOthers x
  if !s.refHere x || ys.isEmpty then 0x80000000
  else
    let e : Int := (s.refE x : Nat)
    let d : Int := (ys.map (fun y => (edges l x y : Int) - e)).sum
    word (toBits 32 ((d * 100000000).tdiv (e * (ys.length : Int))))

/-- One source at the end of a gate: a failed gate disqualifies it; QUAL_GATES passed gates in a row qualify it. -/
def State.refGate (s : State) (l : List (Fin 3 × Fin 3 × Nat)) (x : Nat) : State :=
  if !s.refHere x then s
  else
    let pass := (s.refOthers x).any (fun y => s.refAgree l x y)
    let n := if pass then min (s.tmp.qual.look x + 1) 15 else 0
    let good := decide (atLeast1 (s.clkCtl CLK_CTL_QUAL_GATES) ≤ n)
    let was := s.refGood x
    let s := s.updTmp (fun d => { d with qual := (d.qual.put x n).put (20 + x) (if good && !was then s.now else d.qual.look (20 + x)) })
    let keep := good || (pass && was)
    let s := s.p CLK_STATUS CLK_STATUS_QUALIFIED (setBit (s.g CLK_STATUS CLK_STATUS_QUALIFIED) x keep)
    let s := s.when (keep != was) (fun s => s.ev CLK_STATUS CLK_STATUS_QUAL_CHG)
    s.wr (CLK_PPM x) (s.refPpm l x)

/-- Whether source `x` can be present: its input is used, or the recovered clock is enabled and its lane's port UP (R472). -/
def State.refCan (s : State) (x : Nat) : Bool := if x = 2 then s.recUp else decide (s.refSet x ≠ 3)

/-- What was written to CLK_CTL and CLK_REF_CFG applies from here on (R485): a source whose frequency or lane changes is disqualified, one
that the settings no longer use is not present (R472). -/
def State.clkApply (s : State) : State :=
  let t := (s.applyWords CLK_CTL 1).applyWords CLK_REF_CFG 1
  [0, 1, 2].foldl (fun (t : State) x =>
    if t.refHere x && !t.refCan x then t.refGone x
    else if t.refSet x = s.refSet x then t
    else
      let q := t.refGood x
      let t := t.p CLK_STATUS CLK_STATUS_QUALIFIED (setBit (t.g CLK_STATUS CLK_STATUS_QUALIFIED) x false)
      (t.updTmp (fun d => { d with qual := d.qual.put x 0 })).when q (fun t => t.ev CLK_STATUS CLK_STATUS_QUAL_CHG)) t

/-- The end of a 10 ms gate (R471): `counts` are the edges of X counted in Y's gate. The gate is judged under the settings it began
with; what was written since applies from the next (R485). -/
def execRefGateEnd (counts : List (Fin 3 × Fin 3 × Nat)) (s : State) : Out :=
  let here := [0, 1, 2].filter (fun x => s.refHere x)
  let apart := decide (here.length = 2) && !here.any (fun x => (s.refOthers x).any (fun y => s.refAgree counts x y))
  let s := [0, 1, 2].foldl (fun s x => s.refGate counts x) s
  let s := (s.when apart (fun s => s.ev CLK_STATUS CLK_STATUS_DISAGREE)).clkApply
  .next (if here.isEmpty && decide (s.g CLK_STATUS CLK_STATUS_SELECTED = 3) then s else s.refSelect)

/-- A source's edges fall below half for 1 µs (R472): LOST, and disqualified at once. -/
def execRefLost (x : Fin 3) (s : State) : Out :=
  .next (s.when (s.refHere x) (fun s => (((s.refGone x).inc CLK_REF_LOST).ev CLK_STATUS CLK_STATUS_LOST).refSelect))

/-- Edges at half or more for 1 ms (R472): present, unless the input is unused, the recovered clock cannot be, or CLK is held in reset
(R483). With no source present no gate runs, so the settings apply with the first one that returns (assumption 94). -/
def execRefPresent (x : Fin 3) (s : State) : Out :=
  let s := s.when (decide (s.g CLK_STATUS CLK_STATUS_PRESENT = 0)) (fun s => s.clkApply)
  .next (s.when (!s.refHere x && s.refCan x && !s.tmp.held) (fun s =>
    (s.p CLK_STATUS CLK_STATUS_PRESENT (setBit (s.g CLK_STATUS CLK_STATUS_PRESENT) x true)).refSelect))

/-- REVERT (R474): the highest-priority source above the selected one that has been qualified for WTR_S seconds is taken back. -/
def execRefRevert (s : State) : Out :=
  let cur := s.g CLK_STATUS CLK_STATUS_SELECTED
  let above := s.refPrio.takeWhile (fun x => decide (x ≠ cur))
  let due := fun x => decide (x < 3) && s.refGood x && decide (s.clkCtl CLK_CTL_WTR_S * 1000000000 ≤ s.now - s.tmp.qual.look (20 + x))
  .next (match above.find? due with
    | some x => s.when (decide (s.clkCtl CLK_CTL_REVERT = 1)) (fun s => s.refTake x)
    | none => s)

-- ===== PLLs (R475 to R480) =====

/-- The output frequency of a locked PLL in whole MHz (R475): 156.25 MHz reads 156 (assumption 94). -/
def State.pllMhz (s : State) (p : Nat) : Nat :=
  if p = 0 then 100 else if p = 1 then 156 else if p = 2 || p = 3 then 1600
  else if p ≤ 6 then 1000
  else
    let m := s.g (SHU_CLK (p - 7)) SHU_CLK_MHZ
    if m = 0 then s.g (PWR_SHU (p - 7)) PWR_SHU_FLOOR_MHZ else m

/-- Whether the input of a PLL runs: the references for the system PLL, the system PLL for those that take its output. -/
def State.pllFed (s : State) (p : Nat) : Bool :=
  if p = 0 then !s.tmp.porst && !s.tmp.srst
  else if p = 1 then decide (s.g CLK_STATUS CLK_STATUS_SELECTED < 3)
  else if p = 5 || p = 6 then true
  else s.on (CLK_PLL 1) CLK_PLL_LOCKED

/-- A PLL locks; its domain leaves the bypass input (R477). -/
def execPllLock (p : Fin 23) (s : State) : Out :=
  .next (s.when (s.pllFed p) (fun s => s.wr (CLK_PLL p) (word (2 ^ 31 + s.pllMhz p))))

/-- A locked PLL loses lock with its input present (R478): VOID, and its domain on the bypass input. The frequency it reports then
is free. -/
def execPllLossOfLock (p : Fin 23) (s : State) : Out :=
  .next (s.when (s.on (CLK_PLL p) CLK_PLL_LOCKED && s.pllFed p) (fun s =>
    let d := s.drawNat
    (d.2.ev PMC_AUDIT_STATUS PMC_AUDIT_STATUS_VOID).wr (CLK_PLL p) (word (2 ^ 29 + d.1 % 65536))))

/-- Every PLL that runs from the system PLL, and that PLL, has relocked (R477, R538): COAST clears, STARTING and ACTIVE channels keep their mute as the coast hold,
DDR-5 leaves self-refresh unless it was requested. -/
def execCoastClear (s : State) : Out :=
  .next (s.when (s.coasting && sysPlls.all (fun p => s.on (CLK_PLL p) CLK_PLL_LOCKED)) (fun s =>
    let s := (s.p CLK_STATUS CLK_STATUS_COAST 0).ev CLK_STATUS CLK_STATUS_COAST_CHG
    let s := iter 64 (fun c s =>
      if s.chState c = 1 || s.chState c = 2 then s.updPch c (fun h => { h with coastHold := true }) else s) s
    if s.on PWR_MEM PWR_MEM_SR_REQ then s
    else if s.tmp.srEntering then s.updTmp (fun d => { d with srExit := true })
    else s.srLeave))

/-- The blocks that a PLL's domain clocks (chapter 1); DRF and TRB, which its table does not name, are taken in CORE (assumption 94). -/
def domainBlocks (p : Nat) : List Nat :=
  if p = 0 then [4] else if p = 1 then []
  else if p = 2 then [6, 7, 8, 9, 10, 11, 12, 14, 15] ++ (List.range 64).map (· + 96)
  else if p = 3 then (List.range 8).map (· + 192)
  else if p = 4 then [5] else if p ≤ 6 then [1] else [16 + (p - 7)]

/-- A switch of the domain of PLL `p` not complete after 2 µs is forced (R480): counted, and the blanking of a block reset opens on
every block of the domain. -/
def execMuxHang (p : Fin 23) (s : State) : Out :=
  let s := (s.inc CLK_MUX_HANGS).ev CLK_STATUS CLK_STATUS_MUX_HANG
  .next ((domainBlocks p).foldl (fun s n => s.updBlk n (fun b => { b with blanked := true })) s)

-- ===== clock gating (R482) =====

/-- Keep GATED of a source. -/
def State.gateShow (s : State) (n : Nat) : State := s.p (CLK_GATE n) CLK_GATE_GATED (b2n (s.blks.look n).gated)

/-- A write of CLK_GATE[n]: GATE written 1 is refused for the blocks that are never gated, waits while the bus interface is not idle,
and else gates at once; written 0 it ungates a block that the power controller does not hold gated. -/
def State.gateWrite (s : State) (n : Nat) (v : Word) : State :=
  if v.getLsbD 31 then
    if noReset n then s.ev CLK_STATUS CLK_STATUS_GATE_REFUSED
    else
      let s := s.wrRW (CLK_GATE n) v
      (s.updBlk n (fun b => if b.hung then { b with gateReq := true, gateWait := true } else { b with gateReq := true, gated := true })).gateShow n
  else
    let s := s.wrRW (CLK_GATE n) v
    (s.updBlk n (fun b => { b with gateReq := false, gateWait := b.gateWait && b.gatePwr, gated := b.gatePwr && b.gated })).gateShow n

def execClockGate (ag : Agent) (n : Fin 200) (v : Word) (s : State) : Out :=
  .next (s.bus ag (CLK_GATE n) (fun s => s.gateWrite n v))

def execClockUngate (ag : Agent) (n : Fin 200) (v : Word) (s : State) : Out :=
  .next (s.bus ag (CLK_GATE n) (fun s => s.gateWrite n v))

/-- A gate request whose block is not idle after 2 µs applies anyway. -/
def execGateForceTimeout (n : Fin 200) (s : State) : Out :=
  .next (s.when (s.blks.look n).gateWait (fun s =>
    ((s.updBlk n (fun b => { b with gateWait := false, gated := true })).gateShow n).ev CLK_STATUS CLK_STATUS_GATE_FORCED))

/-- A block's bus interface is idle (R50): no longer hung, and a gate that waited applies. -/
def execBusInterfaceIdle (n : Fin 200) (s : State) : Out :=
  .next ((s.updBlk n (fun b => { b with hung := false, gateWait := false, gated := b.gated || b.gateWait })).gateShow n)

-- ===== resets (R483, R484) =====

/-- A write of CLK_BLK_RST (R484, R485). The reset acts at once; GO reads 1 until the next nanosecond. -/
def State.blkRstWrite (s : State) (v : Word) : State :=
  let busy := s.on CLK_BLK_RST CLK_BLK_RST_GO
  let s := s.p CLK_BLK_RST CLK_BLK_RST_SOURCE (bget v 0 8)
  if v.getLsbD 31 then
    let n := bget v 0 8
    if busy || noReset n then s.ev CLK_STATUS CLK_STATUS_RST_REFUSED
    else ((s.p CLK_BLK_RST CLK_BLK_RST_GO 1).blockReset n).updBlk n (fun b => { b with resetting := true }) |>.gateShow n
  else s

def execBlockReset (ag : Agent) (v : Word) (s : State) : Out :=
  .next (s.bus ag CLK_BLK_RST (fun s => s.blkRstWrite v))

/-- PORST_N asserted (R483): everything but the fuses; DDR-5 is not preserved. The level of SAFE_N stands outside the device. -/
def State.powerOn (s : State) : State :=
  let z := { State.reset with
    pending := s.pending, now := s.now, fresh := s.fresh, cry := { (default : Cry) with owners := s.cry.owners },
    tmp := { State.reset.tmp with safePin := s.tmp.safePin, pinAt := s.tmp.pinAt } }
  (z.wr DRF_SVN_FLOOR (s.rd DRF_SVN_FLOOR)).wr CRY_OWNER (s.rd CRY_OWNER)

def execPorst (s : State) : Out := .next s.powerOn

/-- VDD_TMP below 0.68 V (R525): as PORST_N. -/
def execVddTmpLoss (s : State) : Out := .next s.powerOn

/-- Whether a register keeps its value across SRST_N (R25, R354, R370, R428, R461, R483). -/
def srstKeeps (a : Nat) : Bool :=
  decide (a = DRF_SVN_FLOOR) || decide (a = CRY_OWNER) || decide (a = TMP_LEDGER_EPOCH)
    || (decide (BLT_SEG 0 ≤ a) && decide (a < BLT_SEG 65536))
    || (decide (BLT_RING 0 ≤ a) && decide (a < BLT_RING 6)) || (decide (BLT_CUT 0 ≤ a) && decide (a < BLT_CUT 8))
    || (decide (TMP_UNIT_A 0 ≤ a) && decide (a < TMP_UNIT_A 448) && decide (a % 8 = 4))
    || (decide (TMP_UNIT_B 0 ≤ a) && decide (a < TMP_UNIT_B 184) && decide (a % 8 = 4))

/-- SRST_N asserted (R483): DDR-5 enters self-refresh, then every block resets but for what R483 keeps; the epoch counts (R25). -/
def execSrst (s : State) : Out :=
  .next (s.when (!s.tmp.porst) (fun s =>
    let s := s.srEnter
    let cs := s.rd CRY_STATUS
    let z := { State.reset with
      pending := s.pending, now := s.now, fresh := s.fresh, ddr := s.ddr, regs := Tab.drop s.regs (fun a => !srstKeeps a),
      host := { (default : HostSt) with upA := s.host.upA, upB := s.host.upB },
      tmp := { (default : Tmp) with srst := true, held := true, exits := s.tmp.exits, safePin := s.tmp.safePin, pinAt := s.tmp.pinAt },
      cry := { (default : Cry) with mask := s.cry.mask, maskOn := s.cry.maskOn, kwk := s.cry.kwk, owners := s.cry.owners, fails := s.cry.fails },
      blt := { (default : Blt) with sram := s.blt.sram, segFill := s.blt.segFill, segSeq := s.blt.segSeq, segLast := s.blt.segLast,
                                    segCut := s.blt.segCut, cutEnd := s.blt.cutEnd, cutT := s.blt.cutT } }
    let z := z.p TMP_LEDGER_EPOCH TMP_LEDGER_EPOCH_EPOCH (s.g TMP_LEDGER_EPOCH TMP_LEDGER_EPOCH_EPOCH + 1)
    let z := (z.p TMP_SAFE TMP_SAFE_RECOVERIES (s.g TMP_SAFE TMP_SAFE_RECOVERIES)).p CLK_RST_CAUSE CLK_RST_CAUSE_CAUSE 1
    let z := (z.p CRY_STATUS CRY_STATUS_ALARM_SRC (bget cs 16 8)).p CRY_STATUS CRY_STATUS_ERASED (bget cs 8 1)
    z.p CRY_STATUS CRY_STATUS_DEBUG_OPEN (bget cs 9 1)))

/-- PORST_N or SRST_N is released (R354, R483): after PORST_N CRY draws the mask of this boot. -/
def execResetRelease (s : State) : Out :=
  .next (if s.tmp.porst then
      let m := s.draw256
      (m.2.updTmp (fun d => { d with porst := false, srst := false })).updCry (fun d =>
        { d with mask := m.1, maskOn := true, kwk := !d.owners.isEmpty })
    else s.updTmp (fun d => { d with srst := false }))

/-- The boot fetch of a slot begins (R253). -/
def State.bootFetch (s : State) (slot : Nat) : State :=
  let s := { s with drf := { s.drf with busy := true, boot := true, src := slot, stream := [], fetched := none } }
  (s.p DRF_CTL DRF_CTL_GO 1).p DRF_STATUS DRF_STATUS_STATE 1

/-- The Temple releases the blocks once its PLL is locked and no rail is out of its limits (R375, R483, R525): TIM counts, the loader fetches slot A. -/
def execBlocksRelease (s : State) : Out :=
  let rails := (List.range 10).all (fun r => !s.on (TMP_WATCH r) TMP_WATCH_TRIPPED)
  .next (s.when (s.tmp.held && !s.tmp.porst && !s.tmp.srst && s.on (CLK_PLL 0) CLK_PLL_LOCKED && rails) (fun s =>
    let s := iter 200 (fun n s => s.updBlk n (fun b => { b with released := true })) s
    let s := (s.updTmp (fun d => { d with held := false })).updTim (fun d => { d with runs := true })
    s.bootFetch 0))

end Sys2Proof.Machine
end

