-- ==== Sys2Proof/Machine/Channel.lean ====
section
/-! DEFINITION. PON channels and the optical module interface (chapter 3): channel control, defects, sleep, the module
management buses. -/
namespace Sys2Proof.Machine

/-- ENABLE written 1 (R79, R81, R269, R538): an OFF channel runs the start checks, a STARTING or ACTIVE one at most ends its
coast hold, a CLOSING one starts when OFF is reached, a RETIRED one reports CFG_ERR 0x7. A channel of a region being
rewoven stores the write. -/
def State.enableOne (s : State) (c : Nat) : State :=
  let st := s.chState c
  if st = 4 then ((s.p (PCH_STATUS c) PCH_STATUS_CFG_ERR 7).ev (PCH_DEFECT c) PCH_DEFECT_CFG_ERR_EVT)
  else if st = 0 then (if s.inReweave c then s else s.tryStart c)
  else if st = 3 then s.updPch c (fun h => { h with enPending := true })
  else s.updPch c (fun h => { h with coastHold := false })

/-- ENABLE written 0 (R81). -/
def State.enableZero (s : State) (c : Nat) : State :=
  let s := s.updPch c (fun h => { h with enPending := false })
  s.actDisable c

/-- A write of PCH[c]_CTL: stored at once, then ENABLE acts. -/
def State.chCtlWrite (s : State) (c : Nat) (v : Word) : State :=
  let s := s.wrRW (PCH_CTL c) v
  if v.getLsbD 31 then s.enableOne c else s.enableZero c

def execChannelEnable (ag : Agent) (c : Fin 64) (v : Word) (s : State) : Out :=
  .next (s.bus ag (PCH_CTL c) (fun s => s.chCtlWrite c v))

def execChannelDisable (ag : Agent) (c : Fin 64) (v : Word) (s : State) : Out :=
  .next (s.bus ag (PCH_CTL c) (fun s => s.chCtlWrite c v))

/-- The transmit PLL is acquiring: in STARTING, or on the way out of transmit sleep (R78, R95). -/
def State.txAcquiring (s : State) (c : Nat) : Bool :=
  !(s.pch.look c).txLocked && (decide (s.chState c = 1) || (s.pch.look c).waking)

/-- The transmit PLL locks (R78, R94): TX_DISABLE is released unless another cause holds it, and LOL is no longer blanked
for the want of a first lock. -/
def execTxPllLock (c : Fin 64) (s : State) : Out :=
  .next (s.when (s.txAcquiring c) (fun s => s.updPch c (fun h => { h with txLocked := true, lolBlank := false, pendingLol := false })))

/-- The receiver powers up and grants are sealed again (R95). -/
def State.rxWake (s : State) (c : Nat) : State :=
  (s.p (PCH_STATUS c) PCH_STATUS_RX_ASLEEP 0).updPch c (fun h => { h with rxStop := false })

/-- A half-mask write of PCH[c]_SLEEP (R95): outside ACTIVE it is stored, and applied on entry to ACTIVE. A transmit wake
restarts the PLL, and TX_ASLEEP falls at the first PSync after its lock. -/
def State.sleepWrite (s : State) (c : Nat) (v : Word) : State :=
  let s := s.wrHalf (PCH_SLEEP c) 7 v
  if s.chState c = 2 then
    let s := s.when (bit v.toNat 16 && bit v.toNat 0 && (!s.on (PCH_STATUS c) PCH_STATUS_TX_ASLEEP || (s.pch.look c).waking))
      (fun s => s.txSleep c)
    let s := s.when (bit v.toNat 16 && !bit v.toNat 0 && s.on (PCH_STATUS c) PCH_STATUS_TX_ASLEEP && !(s.pch.look c).waking)
      (fun s => s.updPch c (fun h => { h with waking := true }))
    let s := s.when (bit v.toNat 17 && bit v.toNat 1 && !(s.pch.look c).rxStop) (fun s => s.rxSleep c)
    s.when (bit v.toNat 17 && !bit v.toNat 1 && (s.pch.look c).rxStop) (fun s => s.rxWake c)
  else s

def execTxSleepRequest (ag : Agent) (c : Fin 64) (v : Word) (s : State) : Out :=
  .next (s.bus ag (PCH_SLEEP c) (fun s => s.sleepWrite c v))

def execTxWakeRequest (ag : Agent) (c : Fin 64) (v : Word) (s : State) : Out :=
  .next (s.bus ag (PCH_SLEEP c) (fun s => s.sleepWrite c v))

def execRxSleepRequest (ag : Agent) (c : Fin 64) (v : Word) (s : State) : Out :=
  .next (s.bus ag (PCH_SLEEP c) (fun s => s.sleepWrite c v))

def execRxWakeRequest (ag : Agent) (c : Fin 64) (v : Word) (s : State) : Out :=
  .next (s.bus ag (PCH_SLEEP c) (fun s => s.sleepWrite c v))

/-- The receiver powers down after the last sealed window (R95). -/
def execRxPowerdown (c : Fin 64) (s : State) : Out :=
  .next (s.when ((s.pch.look c).rxStop && (s.pch.look c).wins.isEmpty) (fun s => s.p (PCH_STATUS c) PCH_STATUS_RX_ASLEEP 1))

/-- STARTING ends (R78, R198, R507): TX_ON_FRAMES frames have left with the PLL locked, and no protection hold. -/
def execStartingComplete (c : Fin 64) (s : State) : Out :=
  let h := s.pch.look c
  .next (s.when (decide (s.chState c = 1) && h.running && h.txLocked && !h.protHeld
      && decide (atLeast1 (s.g (PCH_CTL c) PCH_CTL_TX_ON_FRAMES) ≤ h.framesSent)) (fun s =>
    s.enterActive c))

/-- DRAIN_MS after entry to CLOSING what is left of the queues is flushed (R81, R323). -/
def execDrainTimeout (c : Fin 64) (s : State) : Out :=
  .next (s.when (decide (s.chState c = 3)) (fun s => s.flushChannel c))

/-- CLOSING ends (R81, R110, R196): nothing sealed is left to send or to receive and the queues are empty. Grants that the open buffers
still hold are ABANDONED. The channel goes to OFF; an ENABLE = 1 written meanwhile takes effect now, and a protected channel whose ENABLE is 1 starts into its hold. -/
def execClosingDone (c : Fin 64) (s : State) : Out :=
  let h := s.pch.look c
  .next (s.when (decide (s.chState c = 3) && h.wins.isEmpty && decide (h.closeWait = 0) && h.carry.isNone && s.chanEmpty c) (fun s =>
    let s := s.p (PCH_STATUS c) PCH_STATUS_STATE 0
    let s := ((s.dropMaps c (SHD_ABANDONED c)).inqFlush c).sleepReset c
    let s := s.updPch c (fun h => { h with running := false, txLocked := false, enPending := false, sealed := [], carry := none })
    s.when ((h.enPending || (s.protHolds c && s.on (PCH_CTL c) PCH_CTL_ENABLE)) && !s.inReweave c) (fun s => s.tryStart c)))

-- ===== channel defects (R92 to R94) =====

/-- CHn_LOS shows a loss (R90, PIN_POL). -/
def State.pinLost (s : State) (c : Nat) : Bool := (s.pch.look c).losPin != s.on (PCH_LOS_CTL c) PCH_LOS_CTL_PIN_POL

/-- Whether CHn_LOS has stood for n frames of 125 µs (R92). -/
def State.pinHeld (s : State) (c n : Nat) : Bool := decide (n * 125000 ≤ s.now - (s.pch.look c).pinSince)

/-- The LOS criterion (R92, R93). -/
def State.losSet (s : State) (c : Nat) : Bool :=
  let h := s.pch.look c
  let n := atLeast1 (s.g (PCH_LOS_CTL c) PCH_LOS_CTL_SET_FRAMES)
  (s.on (PCH_LOS_CTL c) PCH_LOS_CTL_PIN_EN && s.pinLost c && s.pinHeld c n)
    || (s.on (PCH_LOS_CTL c) PCH_LOS_CTL_ENERGY_EN && decide (n ≤ h.dark))

/-- Every enabled source is clear (R92). -/
def State.losClear (s : State) (c : Nat) : Bool :=
  let h := s.pch.look c
  let n := atLeast1 (s.g (PCH_LOS_CTL c) PCH_LOS_CTL_CLR_FRAMES)
  (!s.on (PCH_LOS_CTL c) PCH_LOS_CTL_PIN_EN || (!s.pinLost c && s.pinHeld c n))
    && (!s.on (PCH_LOS_CTL c) PCH_LOS_CTL_ENERGY_EN || decide (n ≤ h.lit))

/-- Raise a channel defect, or count it as blanked (R92, R94, R465). -/
def State.chRaise (s : State) (c : Nat) (blanked : Bool) (live evt : Fld) : State :=
  if s.on (PCH_DEFECT c) live then s
  else if blanked then s.inc (PCH_BLANKED c)
  else ((s.p (PCH_DEFECT c) live 1).ev (PCH_DEFECT c) evt).boltEvent 0x01 1 c (32 + c) [evt.lo]

def execChLosRaise (c : Fin 64) (s : State) : Out :=
  let h := s.pch.look c
  .next (s.when (s.losSet c) (fun s =>
    (s.chRaise c (h.blankDef || h.blankMute) PCH_DEFECT_LOS_LIVE PCH_DEFECT_LOS).updPch c
      (fun h => { h with pendingLos := h.blankDef || h.blankMute })))

def execChLosClear (c : Fin 64) (s : State) : Out :=
  .next (s.when (s.losClear c) (fun s =>
    (s.chClear c PCH_DEFECT_LOS_LIVE PCH_DEFECT_LOS).updPch c (fun h => { h with pendingLos := false })))

def execChLolClear (c : Fin 64) (lockUs : Nat) (s : State) : Out :=
  .next (s.when (decide (1000 ≤ lockUs)) (fun s =>
    (s.chClear c PCH_DEFECT_LOL_LIVE PCH_DEFECT_LOL).updPch c (fun h => { h with pendingLol := false })))

/-- TXF clears 10 ms after the last TXF error (R92). -/
def execChTxfClear (c : Fin 64) (s : State) : Out :=
  let quiet := match (s.pch.look c).txfLast with
    | some t => decide (10000000 ≤ s.now - t)
    | none => true
  .next (s.when quiet (fun s => (s.updPch c (fun h => { h with txfDue := false })).chClear c PCH_DEFECT_TXF_LIVE PCH_DEFECT_TXF))

/-- A read-back mismatch counts one TXF error once it lasts more than 200 ns, and one more for each further 200 ns (R91). -/
def execTxdisReadbackMismatch (c : Fin 64) (ns : Nat) (s : State) : Out :=
  .next (iter (if 200 < ns then ns / 200 else 0) (fun _ s => s.txfError c) s)

/-- A write of PCH[c]_LOS_CTL: the pin shows another thing from here on where PIN_POL changes (R92). -/
def State.losCtlWrite (s : State) (c : Nat) (v : Word) : State :=
  let l := s.pinLost c
  let s := s.wrRW (PCH_LOS_CTL c) v
  if s.pinLost c = l then s else s.updPch c (fun h => { h with pinSince := s.now })

/-- A level of CHn_LOS that stays stable for LOS_FILTER (both in units of 0.8 ns) passes the glitch filter (R90). -/
def execLosPinChange (c : Fin 64) (level : Bool) (stable : Nat) (s : State) : Out :=
  .next (s.when (decide (s.g (PCH_PIN_CTL2 c) PCH_PIN_CTL2_LOS_FILTER ≤ stable) && (s.pch.look c).losPin != level) (fun s =>
    s.updPch c (fun h => { h with losPin := level, pinSince := s.now })))

-- ===== module management buses (R96, R97) =====

/-- A write of PCH[c]_MOD_MUX: SPEED 11 is taken as 01 (R97). -/
def State.modMuxWrite (s : State) (c : Nat) (v : Word) : State :=
  let s := s.wrRW (PCH_MOD_MUX c) v
  if s.g (PCH_MOD_MUX c) PCH_MOD_MUX_SPEED = 3 then s.p (PCH_MOD_MUX c) PCH_MOD_MUX_SPEED 1 else s

/-- A write of MOD_CMD: dropped while GO reads 1; with GO, LEN is checked and the mailbox joins its bus. -/
def State.modCmdWrite (s : State) (c : Nat) (v : Word) : State :=
  if s.on (PCH_MOD_CMD c) PCH_MOD_CMD_GO then s
  else
    let s := s.wrRW (PCH_MOD_CMD c) v
    if v.getLsbD 31 then
      let n := s.g (PCH_MOD_CMD c) PCH_MOD_CMD_LEN
      if n = 0 || decide (4 < n) then s.p (PCH_MOD_CMD c) PCH_MOD_CMD_RESULT 1
      else
        let s := s.p (PCH_MOD_CMD c) PCH_MOD_CMD_GO 1
        { s with host := { s.host with modBus := s.host.modBus.upd (c / 8) (· ++ [c]) } }
    else s

def execModCmdGo (ag : Agent) (c : Fin 64) (v : Word) (s : State) : Out :=
  .next (s.bus ag (PCH_MOD_CMD c) (fun s => s.modCmdWrite c v))

/-- The mailbox at the head of its bus finishes with a result. -/
def State.modFinish (s : State) (c res : Nat) : State :=
  let s := (s.p (PCH_MOD_CMD c) PCH_MOD_CMD_RESULT res).p (PCH_MOD_CMD c) PCH_MOD_CMD_GO 0
  { s with host := { s.host with modBus := s.host.modBus.upd (c / 8) (·.tail) } }

/-- Whether a channel's transaction is the one running on its bus. -/
def State.modRunning (s : State) (c : Nat) : Bool := decide ((s.host.modBus.look (c / 8)).head? = some c)

def execModTransactionDone (c : Fin 64) (res : ModRes) (s : State) : Out :=
  .next (s.when (s.modRunning c) (fun s => match res with
    | .done d =>       -- bytes of MOD_DATA above LEN keep what they held (assumption 72)
      let n := s.g (PCH_MOD_CMD c) PCH_MOD_CMD_LEN
      let s := s.when (s.on (PCH_MOD_CMD c) PCH_MOD_CMD_RD) (fun s => s.wr (PCH_MOD_DATA c) (bset (s.rd (PCH_MOD_DATA c)) 0 (8 * n) (bget d 0 (8 * n))))
      s.modFinish c 0
    | .nack => s.modFinish c 1
    | .stuckBus => s.modFinish c 2
    | .muxFailed => s.modFinish c 3))

def execModStretchTimeout (c : Fin 64) (s : State) : Out :=
  .next (s.when (s.modRunning c) (fun s => s.modFinish c 2))

end Sys2Proof.Machine
end

