-- ==== Sys2Proof/Machine/Power.lean ====
section
/-! DEFINITION. Power management (chapter 22): adaptive rails, PMBus, cluster clocks and gating, self-refresh, temperature, the watch
table. -/
namespace Sys2Proof.Machine

-- ===== rails (R486 to R489) =====

/-- The rail that serves cluster `k`. -/
def railOf (k : Nat) : Nat := 2 + k / 4

/-- The voltage last commanded; the boot value before the first command (R521). -/
def State.railMv (s : State) (r : Nat) : Nat :=
  let v := s.g (PWR_RAIL r) PWR_RAIL_CMD_MV
  if v = 0 then 800 else v

/-- Command a voltage; the window of the rail's SUPPLY entry moves with it (R489, R522). -/
def State.railSet (s : State) (r v : Nat) : State :=
  let s := s.p (PWR_RAIL r) PWR_RAIL_CMD_MV v
  (s.wr (TMP_WATCH r + 4) (word (cdiv (v * 95) 100))).wr (TMP_WATCH r + 8) (word (v * 105 / 100))

/-- Whether adaptive control acts on a rail. -/
def State.railLive (s : State) (r : Nat) : Bool := s.on PWR_CTL PWR_CTL_AVS_EN && !s.on (PWR_RAIL r) PWR_RAIL_FROZEN

/-- Within the bounds of a rail; the lower bound acts where they cross. -/
def State.railClamp (s : State) (r v : Nat) : Nat :=
  max (s.g (PWR_RAIL r) PWR_RAIL_MIN_MV) (min v (s.g (PWR_RAIL r) PWR_RAIL_MAX_MV))

/-- One period of R487: `need` is the lowest voltage of a rail, in mV, that keeps every margin sensor of its domain above its margin. The
rail is set to it in steps of 5 mV, within its bounds; the moves of at most 10 mV that lead there, each with its slew, end within the
period (assumption 95). -/
def State.avsStep (s : State) (r need : Nat) : State :=
  if !s.railLive r then s
  else
    let v := s.railClamp r (cdiv need 5 * 5)
    if v = s.g (PWR_RAIL r) PWR_RAIL_CMD_MV then s else s.railSet r v

def execAvsPeriod (need : List Nat) (s : State) : Out :=
  .next (iter 5 (fun i s => match need[i]? with
    | some v => s.avsStep (i + 1) v
    | none => s) s)

/-- A sensor below its alarm threshold raises rail `r` + 1 by 10 mV at once. -/
def execAvsMarginAlarm (r : Fin 5) (s : State) : Out :=
  .next (s.when (s.railLive (r + 1)) (fun s => s.railSet (r + 1) (s.railClamp (r + 1) (s.railMv (r + 1) + 10))))

/-- The caps of a cluster: TARGET_MHZ in AUTO mode, the thermal cap, the cap of a frozen rail (R490). -/
def State.shuCap (s : State) (k : Nat) : Nat :=
  let a := if s.on (PWR_SHU k) PWR_SHU_MODE then s.g (PWR_SHU k) PWR_SHU_TARGET_MHZ / 100 * 100 else 1200
  let b := if s.tmp.thermCap.look k = 0 then 1200 else s.tmp.thermCap.look k
  let c := if s.tmp.thermCap.look (16 + k) = 0 then 1200 else s.tmp.thermCap.look (16 + k)
  min (min a b) (min c 1200)

/-- The floor of a cluster: the larger of 400 MHz and the draft's lowest clock (R490). -/
def State.shuFloor (s : State) (k : Nat) : Nat := max 400 (s.drf.clusters.look k).2

/-- Keep CAP_MHZ of a cluster. -/
def State.capShow (s : State) (k : Nat) : State := s.p (PWR_SHU k) PWR_SHU_CAP_MHZ (s.shuCap k)

/-- A target within the floor and the caps, the floor before the caps (assumption 95); a change toward it begins unless one is on its way,
after which it applies (R491). -/
def State.shuAim (s : State) (k m : Nat) : State :=
  let t := max (s.shuFloor k) (min (m / 100 * 100) (s.shuCap k))
  let run := if s.tmp.freqTarget.look (16 + k) = 0 && decide (t ≠ s.g (SHU_CLK k) SHU_CLK_MHZ) then t else s.tmp.freqTarget.look (16 + k)
  (s.updTmp (fun d => { d with freqTarget := (d.freqTarget.put k t).put (16 + k) run })).capShow k

/-- The target a cluster has now, brought within its floor and caps: TARGET_MHZ in FIXED mode. -/
def State.shuRetarget (s : State) (k : Nat) : State :=
  let cur := if s.tmp.freqTarget.look k = 0 then s.g (SHU_CLK k) SHU_CLK_MHZ else s.tmp.freqTarget.look k
  s.shuAim k (if s.on (PWR_SHU k) PWR_SHU_MODE then cur else s.g (PWR_SHU k) PWR_SHU_TARGET_MHZ)

/-- Rail `r` is frozen (R488): the clusters of an SHU rail are capped at what its voltage supports, which no rule states. -/
def State.railFreeze (s : State) (r : Nat) : State :=
  let s := ((s.p (PWR_RAIL r) PWR_RAIL_FROZEN 1).ev PWR_STATUS PWR_STATUS_PMBUS_FAIL).updTmp (fun d => { d with pmbTries := d.pmbTries.put (16 + r) 0 })
  iter 16 (fun k s =>
    if decide (2 ≤ r) && decide (railOf k = r) then
      let d := s.drawNat
      let s := d.2.updTmp (fun t => { t with thermCap := t.thermCap.put (16 + k) (400 + 100 * (d.1 % 9)) })
      s.shuRetarget k
    else s) s

/-- A PMBus transaction on rail `r` ends: `ok`, with the current that a READ_IOUT read; the third failure in a row freezes the
rail. -/
def execPmbusTransaction (r : Fin 10) (ok : Bool) (iout : Option Word) (s : State) : Out :=
  .next (if ok then
      let s := s.updTmp (fun d => { d with pmbTries := d.pmbTries.put r.val 0 })
      match iout with
      | some v => s.wr (PWR_RAIL r + 12) v
      | none => s
    else
      let n := s.tmp.pmbTries.look r + 1
      let s := s.updTmp (fun d => { d with pmbTries := d.pmbTries.put r.val (if n < 3 then n else 0) })
      if n < 3 then s else s.railFreeze r)

/-- A write of PWR_CTL: AVS_EN written 0 and then 1 ends the freezes from before the 0 (R488). -/
def State.pwrCtlWrite (s : State) (v : Word) : State :=
  let s := s.wrRW PWR_CTL v
  if s.on PWR_CTL PWR_CTL_AVS_EN then
    iter 10 (fun r s =>
      if s.tmp.pmbTries.look (16 + r) = 0 then s
      else
        let s := (s.p (PWR_RAIL r) PWR_RAIL_FROZEN 0).updTmp (fun d => { d with pmbTries := d.pmbTries.put (16 + r) 0 })
        iter 16 (fun k s =>
          if decide (2 ≤ r) && decide (railOf k = r) then
            (s.updTmp (fun t => { t with thermCap := t.thermCap.put (16 + k) 0 })).shuRetarget k
          else s) s) s
  else iter 10 (fun r s => s.when (s.on (PWR_RAIL r) PWR_RAIL_FROZEN) (fun s => s.updTmp (fun d => { d with pmbTries := d.pmbTries.put (16 + r) 1 }))) s

-- ===== cluster clocks (R490, R491) =====

/-- One period of R490: per cluster, the busy slots and the cycles of the millisecond. -/
def execClusterFreqPeriod (busy : List (Nat × Nat)) (s : State) : Out :=
  .next (iter 16 (fun k s => match busy[k]? with
    | none => s
    | some b =>
      if !s.on (PWR_SHU k) PWR_SHU_MODE || s.gatedK k then s
      else
        let cur := if s.tmp.freqTarget.look k = 0 then s.g (SHU_CLK k) SHU_CLK_MHZ else s.tmp.freqTarget.look k
        if s.g (PWR_SHU k) PWR_SHU_HI_PCT * b.2 < 100 * b.1 then s.shuAim k (cur + 100)
        else if 100 * b.1 < s.g (PWR_SHU k) PWR_SHU_LO_PCT * b.2 then s.shuAim k (cur - 100)
        else s.shuAim k cur) s)

/-- A cluster's change of frequency completes: its clock takes the target the change began with; a target that came meanwhile starts the
next change (R491). -/
def execClusterFreqChange (k : Fin 16) (s : State) : Out :=
  let t := s.tmp.freqTarget.look (16 + k)
  .next (s.when (decide (t ≠ 0) && !s.gatedK k) (fun s =>
    let s := s.p (SHU_CLK k) SHU_CLK_MHZ t
    let aim := s.tmp.freqTarget.look k
    let s := s.updTmp (fun d => { d with freqTarget := d.freqTarget.put (16 + k) (if aim = t then 0 else aim) })
    if s.on (CLK_PLL (7 + k)) CLK_PLL_LOCKED then s.p (CLK_PLL (7 + k)) CLK_PLL_MHZ t else s))

-- ===== cluster gating (R492, R493) =====

/-- The kinds of pool role (R17, R18). -/
def poolKinds : List Nat := [3, 4, 5]

/-- Whether an ungated cluster other than `k` holds a role of a kind. -/
def State.poolElsewhere (s : State) (k kind : Nat) : Bool :=
  (List.range 16).any (fun j => decide (j ≠ k) && !s.gatedK j && (List.range 16).any (fun r =>
    s.on (SHU_MAP j r) SHU_MAP_VALID && decide (s.g (SHU_MAP j r) SHU_MAP_KIND = kind) && !s.shu.stopped.look (s.holder j r)))

/-- Whether cluster `k` holds a role of a kind. -/
def State.poolHere (s : State) (k kind : Nat) : Bool :=
  (List.range 16).any (fun r => s.on (SHU_MAP k r) SHU_MAP_VALID && decide (s.g (SHU_MAP k r) SHU_MAP_KIND = kind))

/-- Whether gating cluster `k` is refused. -/
def State.gateBad (s : State) (k : Nat) : Bool :=
  (List.range 64).any (fun c => decide (s.drf.chThread.look c = k + 1) && decide (s.chState c ≠ 0) && decide (s.chState c ≠ 4))
    || poolKinds.any (fun x => s.poolHere k x && !s.poolElsewhere k x)

/-- Gate a cluster: threads, registers and local memory are lost, held items go back to their queues, a tag in flight is marked. -/
def State.clusterGate (s : State) (k : Nat) : State :=
  let s := iter 128 (fun j s => (s.tagFault (16 * k + j / 8) (j % 8)).requeue (16 * k + j / 8) (j % 8) false) s
  let s := s.updTmp (fun d => { d with freqTarget := d.freqTarget.put (16 + k) 0 })
  let s := s.updShu (fun d => { d with
    threads := Tab.drop d.threads (fun a => decide (128 * k ≤ a) && decide (a < 128 * (k + 1))),
    loc := Tab.drop d.loc (fun a => decide (2 ^ 20 * k ≤ a) && decide (a < 2 ^ 20 * (k + 1))) })
  let s := (s.p (PWR_SHU k) PWR_SHU_GATED 1).p (SHU_CLK k) SHU_CLK_MHZ 0
  (s.updBlk (16 + k) (fun b => { b with gatePwr := true, gated := true })).gateShow (16 + k)

/-- The roles of a cluster start: from the draft's role map, or from the present map once a retire swap has changed it. -/
def State.clusterStart (s : State) (k : Nat) : State :=
  let s := if s.on (SHU_STATUS k) SHU_STATUS_SPARE_VALID then
      iter 16 (fun r s =>
        let s := s.p (SHU_MAP k r) SHU_MAP_PHYS r
        match s.roleImage k r with
        | some i => s.imageInto (16 * k + r) i
        | none => s) s
    else s
  iter 16 (fun r s =>
    if s.on (SHU_MAP k r) SHU_MAP_VALID && decide (s.g (SHU_MAP k r) SHU_MAP_KIND ≠ 6) && !s.shu.stopped.look (s.holder k r)
    then s.shuttleStart (s.holder k r) else s) s

/-- Ungate a cluster. -/
def State.clusterUngate (s : State) (k : Nat) : State :=
  let s := s.p (PWR_SHU k) PWR_SHU_GATED 0
  let s := (s.updBlk (16 + k) (fun b => { b with gatePwr := false, gated := b.gateReq })).gateShow (16 + k)
  let s := s.shuRetarget k
  let s := s.updTmp (fun d => { d with freqTarget := d.freqTarget.put (16 + k) 0 })
  (s.p (SHU_CLK k) SHU_CLK_MHZ (s.tmp.freqTarget.look k)).clusterStart k

/-- A write of word 0 of PWR_SHU[k]. -/
def State.pwrShuWrite (s : State) (k : Nat) (v : Word) : State :=
  let was := s.gatedK k
  let s := (s.wrRW (PWR_SHU k) v).shuRetarget k
  if v.getLsbD 31 && !was then
    if s.gateBad k then (s.p (PWR_SHU k) PWR_SHU_GATE 0).ev PWR_STATUS PWR_STATUS_GATE_REFUSED else s.clusterGate k
  else if !v.getLsbD 31 && was then s.clusterUngate k
  else s

def execClusterGate (ag : Agent) (k : Fin 16) (v : Word) (s : State) : Out :=
  .next (s.bus ag (PWR_SHU k) (fun s => s.pwrShuWrite k v))

def execClusterUngate (ag : Agent) (k : Fin 16) (v : Word) (s : State) : Out :=
  .next (s.bus ag (PWR_SHU k) (fun s => s.pwrShuWrite k v))

-- ===== self-refresh (R492, R494) =====

/-- A write of PWR_MEM. -/
def State.pwrMemWrite (s : State) (v : Word) : State :=
  let s := s.wrRW PWR_MEM v
  if v.getLsbD 31 then (if s.srActive then s else s.updTmp (fun d => { d with srEntering := true, srExit := false }))
  else if s.tmp.srEntering then s.updTmp (fun d => { d with srExit := true })
  else if s.coasting then s
  else s.srLeave

def execSelfRefreshRequest (ag : Agent) (v : Word) (s : State) : Out :=
  .next (s.bus ag PWR_MEM (fun s => s.pwrMemWrite v))

def execSelfRefreshExit (ag : Agent) (v : Word) (s : State) : Out :=
  .next (s.bus ag PWR_MEM (fun s => s.pwrMemWrite v))

/-- The controllers have entered; a draft load or reweave in APPLYING holds the entry off. -/
def execSelfRefreshEntered (s : State) : Out :=
  .next (s.when (s.tmp.srEntering && decide (s.g DRF_STATUS DRF_STATUS_STATE ≠ 4)) (fun s =>
    let out := s.tmp.srExit
    let s := (s.updTmp (fun d => { d with srEntering := false, srExit := false })).srEnter
    if out && !s.coasting then s.srLeave else s))

-- ===== temperature (R496) =====

/-- The median of at most three samples. -/
def median (l : List Int) : Int := match l with
  | [a, b, c] => max (min a b) (min (max a b) c)
  | a :: _ => a
  | [] => 0

/-- A sample of the junction sensors, in 0.1 °C: filtered readings and Tj; 105 °C is reported as it is reached. -/
def execThermalSample (t : List Int) (s : State) : Out :=
  let was := sext 16 (s.g PWR_THERM PWR_THERM_TJ)
  let s := iter 24 (fun i s => match t[i]? with
    | none => s
    | some v =>
      let l := (v :: s.tmp.temps.look i).take 3
      (s.updTmp (fun d => { d with temps := d.temps.put i l })).wr (PWR_TEMP i) (word (toBits 16 (median l)))) s
  let all := (List.range 24).filter (fun i => !(s.tmp.temps.look i).isEmpty)
  let tj := match all.map (fun i => median (s.tmp.temps.look i)) with
    | [] => was
    | a :: l => l.foldl max a
  let s := s.p PWR_THERM PWR_THERM_TJ (toBits 16 tj)
  .next (if tj ≥ 1050 && was < 1050 then (s.ev PWR_STATUS PWR_STATUS_TJ_LIMIT).alertEvt else s)

/-- One step of throttling every 10 ms: the thermal cap of every cluster falls or rises by 100 MHz; THROTTLE while one is left. -/
def execThrottleStep (s : State) : Out :=
  let tj := sext 16 (s.g PWR_THERM PWR_THERM_TJ)
  let lim : Int := (min (s.g PWR_THERM PWR_THERM_T_THROTTLE) 1050 : Nat)
  let step := fun (k : Nat) (s : State) =>
    let c := s.tmp.thermCap.look k
    let n := if lim ≤ tj then max (s.shuFloor k) ((if c = 0 then 1200 else c) - 100)
      else if tj < lim - 50 then (if c = 0 || 1200 ≤ c + 100 then 0 else c + 100)
      else c
    (s.updTmp (fun d => { d with thermCap := d.thermCap.put k n })).shuRetarget k
  let s := iter 16 step s
  let on := (List.range 16).any (fun k => decide (s.tmp.thermCap.look k ≠ 0))
  .next (if on = s.on PWR_STATUS PWR_STATUS_THROTTLE then s
    else (s.p PWR_STATUS PWR_STATUS_THROTTLE (b2n on)).ev PWR_STATUS PWR_STATUS_THROTTLE_CHG)

-- ===== the watch table (R498) =====

/-- The live class that a watch quantity raises: SUPPLY for a voltage or a current, THERMAL for a temperature. -/
def watchClass (q : Nat) : Nat := if q < 16 || (48 ≤ q && q < 58) then 0x30 else 0x31

/-- A supply leaves its limits (R26, R525): the ledgers are void, the mute starts. -/
def State.supplyBad (s : State) : State := (s.ev PMC_AUDIT_STATUS PMC_AUDIT_STATUS_VOID).muteNow

/-- The sample period of a watch quantity, ns (R498); the other codes have none. -/
def watchPeriod (q : Nat) : Option Nat :=
  if q < 10 then some 1000 else if 16 ≤ q && q < 40 then some 1000000
  else if 48 ≤ q && q < 58 then some 10000000 else if q = 63 then some 1000000 else none

/-- A write of a watch entry restarts its count (R498). -/
def State.watchWrite (s : State) (e a : Nat) (v : Word) : State :=
  (s.wrRW a v).updTmp (fun d => { d with watchAt := d.watchAt.put e s.now })

/-- Whether COUNT samples of entry `e` fit since it was last written. -/
def State.watchDue (s : State) (e : Nat) : Bool := match watchPeriod (s.g (TMP_WATCH e) TMP_WATCH_QTY) with
  | none => false
  | some t => decide ((atLeast1 (s.g (TMP_WATCH e) TMP_WATCH_COUNT) - 1) * t ≤ s.now - s.tmp.watchAt.look e)

/-- Watch entry `e` has seen `n` consecutive samples outside (`out`) or inside its window. ACT 3, which has no meaning, acts as 2
(assumption 95). -/
def execWatchTrip (e : Fin 64) (out : Bool) (n : Nat) (s : State) : Out :=
  let a := TMP_WATCH e
  let trips := s.on a TMP_WATCH_VALID && decide (s.on a TMP_WATCH_TRIPPED ≠ out) && decide (atLeast1 (s.g a TMP_WATCH_COUNT) ≤ n) && s.watchDue e
  .next (s.when trips (fun s =>
    let s := (s.p a TMP_WATCH_TRIPPED (b2n out)).ev a TMP_WATCH_EVT
    let act := s.g a TMP_WATCH_ACT
    let s := s.when (out && decide (1 ≤ act)) (fun s => s.alertEvt)
    let k := watchClass (s.g a TMP_WATCH_QTY)
    if act < 2 then s
    else if out then
      let s := s.when (decide (e.val < 10)) (fun s => s.supplyBad)
      if s.causeLive k || s.faultWaits k then s else s.faultLive k
    else s.when (decide (k = 0x30)) (fun s => s.updTmp (fun d => { d with watchAt := d.watchAt.put 64 s.now }))))

/-- A watch entry holds class `k` live (R457, R498). -/
def State.watchHolds (s : State) (k : Nat) : Bool := (List.range 64).any (fun e =>
  s.on (TMP_WATCH e) TMP_WATCH_TRIPPED && decide (2 ≤ s.g (TMP_WATCH e) TMP_WATCH_ACT) && decide (watchClass (s.g (TMP_WATCH e) TMP_WATCH_QTY) = k))

end Sys2Proof.Machine
end

