-- ==== Sys2Proof/Machine/Faults.lean ====
section
/-! DEFINITION. Fault detection, reaction and recovery (chapter 20): classification, retries, retirement, the safe state, blanking and
fault injection. -/
namespace Sys2Proof.Machine

-- ===== units (R450, R451) =====

/-- The kind of unit that a class counts against; none for a class without units. -/
def classUnit (k : Nat) : Option Nat :=
  if k = 0x01 || k = 0x02 then some 0 else if k = 0x08 then some 1
  else if k = 0x10 || k = 0x11 || k = 0x12 then some 2
  else if k = 0x18 || k = 0x19 then some 3 else if k = 0x20 then some 4
  else if k = 0x28 || k = 0x29 then some 5 else none

/-- A retired unit: its own mark, or the RETIRED state of a channel. -/
def State.unitRetired (s : State) (u : Nat) : Bool :=
  s.on (unitReg u) TMP_UNIT_A_RETIRED || (decide (u < 64) && decide (s.chState u = 4))

/-- Transients of a unit within the last 60 s. -/
def State.unitHist (s : State) (u : Nat) : List Nat := (s.tmp.hist.look u).filter (fun t => decide (s.now - t < 60000000000))

/-- Whether a blanking window open on a unit covers a class (R464). -/
def State.unitBlanked (s : State) (k u : Nat) : Bool :=
  let n := unitNum u
  if k = 0x02 then (s.pch.look n).blankDef || (s.pch.look n).lolBlank
  else if k = 0x01 then (s.pch.look n).permBlank
  else if k = 0x18 || k = 0x19 then s.tmp.rankBlank.look n
  else if k = 0x20 then s.tmp.engBlank.look n
  else if k = 0x28 || k = 0x29 then (s.blks.look n).blanked
  else false

-- ===== ranks (R69) =====

/-- The copies of a lost buffer leave their queues as dropped, and it is in use no longer. -/
def State.bufDrop (s : State) (b : Nat) : State :=
  s.tmg.queues.foldl (fun (s : State) (e : Nat × List QFrame) =>
    let n := (e.2.filter (fun f => decide (f.buf = b))).length
    if n = 0 then s
    else
      let s := s.updTmg (fun d => { d with queues := d.queues.upd e.1 (·.filter (fun f => decide (f.buf ≠ b))) })
      let s := (s.add (lkey (TMG_AUD_DROPPED e.1)) n).wr64 (lkey (TMG_AUD_RESIDENT e.1)) (s.rd64 (lkey (TMG_AUD_RESIDENT e.1)) - n)
      iter n (fun _ s => s.copyDropped b e.1) s) s |>.updTmg (fun d => { d with bufs := d.bufs.put b default })

/-- A spill pool after ranks have gone, `old` being the state before: of its buffers those newly in holes are lost. -/
def State.poolShrink (s old : State) (p : Nat) : State :=
  let lost := (List.range (s.poolRecord p)).filter (fun i => s.bufLost p i && !old.bufLost p i)
  let lent := lost.filter (fun i => decide (old.tmg.bufs.look (p * 2 ^ 32 + i) ≠ default))
  let s := s.p (BPM_POOL p) BPM_POOL_COUNT (s.g (BPM_POOL p) BPM_POOL_COUNT - lost.length)
  let s := s.setFree p (s.g (BPM_POOL p) BPM_POOL_FREE - (lost.length - lent.length))
  lent.foldl (fun s i => s.bufDrop (p * 2 ^ 32 + i)) s

/-- The class of a record by its ring; ring 2 holds ALARM and EVENT records, told apart by their code. -/
def State.recClass (s : State) (ring off : Nat) : Nat :=
  if ring = 2 then (if (s.ddrRd (off + 3)).toNat < 0x80 then 0 else 1)
  else if ring = 3 then 2 else if ring = 0 then 3 else if ring = 1 then 4 else ring

/-- The bins of the PM store (ring 4, R430) in memory that has become a hole are LOST: those that have been written. -/
def State.binLose (s old : State) : State :=
  let base := s.rd64 (BLT_RING 4)
  let at_ := ((s.ddr.map (·.1)).filter (fun a => decide (base ≤ a) && decide (a < base + 2157120 * 128))).map (fun a => (a - base) / 128)
  let gone := at_.eraseDups.filter (fun j => s.isHole (base + j * 128) && !old.isHole (base + j * 128))
  gone.foldl (fun (s : State) _ => s.boltLoseRec 6) s

/-- The Bolt's records of a ring in memory that has become a hole are LOST. -/
def State.ringLose (s old : State) (ring : Nat) : State :=
  let base := s.rd64 (BLT_RING ring)
  let n := recBytes (if ring = 2 then 0 else if ring = 3 then 2 else if ring = 0 then 3 else if ring = 1 then 4 else 5)
  (s.usedSegs ring).foldl (fun (s : State) (i : Nat) =>
    let fill := if i = s.g (BLT_RING ring) BLT_RING_FILLING then s.blt.segFill.look ring else 67108864
    let at_ := base + i * 67108864
    let gone := (List.range (fill / n)).filter (fun j => s.isHole (at_ + j * n) && !old.isHole (at_ + j * n))
    gone.foldl (fun (s : State) (j : Nat) => s.boltLoseRec (s.recClass ring (at_ + j * n))) s) s

/-- Ranks `bits` of channel `m` are mapped out (R69, R464): spill buffers, Bolt records, blanking. -/
def State.ranksOut (s : State) (m bits : Nat) : State :=
  let old := s
  let now := s.g (MEM_STATUS m) MEM_STATUS_RANKS_MAPPED_OUT
  let s := s.p (MEM_STATUS m) MEM_STATUS_RANKS_MAPPED_OUT (now ||| bits)
  let s := iter 8 (fun r s => if bit bits r && !bit now r then s.updTmp (fun d => { d with rankBlank := d.rankBlank.put (8 * m + r) true }) else s) s
  let s := [4, 5, 6, 7].foldl (fun s p => s.poolShrink old p) s
  ([0, 1, 2, 3, 5].foldl (fun s r => s.ringLose old r) s).when (decide (s.g (BLT_RING 4) BLT_RING_SIZE ≠ 0)) (fun s => s.binLose old)

-- ===== retries, retirement and limits (R450, R452, R453) =====

/-- A transmit restart (R450): the PLL is reset and CHn_TXDIS asserted until it relocks, under its blanking. -/
def State.txRestartBegin (s : State) (k c : Nat) : State :=
  let st := s.chState c
  if st = 1 || st = 2 || st = 3 then
    (s.updPch c (fun h => { h with txRestart := true, blankTx := true, txLocked := false })).updTmp
      (fun d => { d with restart := d.restart.put c k })
  else s

/-- The retry action of a class. A thread restart has been done by the shuttle itself (R239); a block that CLK never resets keeps its
state. -/
def State.retry (s : State) (k u : Nat) : State :=
  let n := unitNum u
  if k = 0x01 || k = 0x02 then s.txRestartBegin k n
  else if k = 0x08 then
    let p := s.portOfLane n
    if s.portState p = 1 || s.portState p = 2 then (s.setPort p 1).blankPort p else s
  else if k = 0x18 || k = 0x19 then s.updTmp (fun d => { d with rankBlank := d.rankBlank.put n true })
  else if k = 0x20 then s.updTmp (fun d => { d with engBlank := d.engBlank.put n true })
  else if k = 0x28 || k = 0x29 then (if noReset n then s else s.blockReset n)
  else s

/-- A retry that cannot start because its block is hung (R468): PCH of a channel, HSL of a lane, MEM of a rank, CRY. -/
def State.retryHung (s : State) (k u : Nat) : Bool :=
  let n := unitNum u
  if k = 0x01 || k = 0x02 then (s.blks.look (32 + n)).hung
  else if k = 0x08 then (s.blks.look (160 + n)).hung
  else if k = 0x18 || k = 0x19 then (s.blks.look (192 + n / 8)).hung
  else if k = 0x20 then (s.blks.look 11).hung
  else false

/-- Retirement (R453): the unit stays retired; its RETIRED record names kind and number. -/
def State.retire (s : State) (u : Nat) : State :=
  let n := unitNum u
  if u < 64 then s.chanRetire n
  else
    let s := s.retireMark u
    if u < 96 then s.laneRetire n
    else if u < 352 then s.shuttleRetire n
    else if u < 416 then s.ranksOut (n / 8) (2 ^ (n % 8))
    else s.engineRetire n

/-- What is decided for a fault event (R452): a retry, the retirement of the unit, the safe state at the limit, a log entry alone; an event
of a retired unit is ignored, one in a blanking window leaves nothing; and a live condition that enters the safe state. -/
inductive Verdict where
  | retry
  | retire
  | safe
  | logged
  | ignored
  | blanked
  | live
  deriving DecidableEq, Repr

/-- OUTCOME of the fault log. -/
def Verdict.outcome : Verdict → Nat
  | .retry => 0
  | .retire => 1
  | .safe => 2
  | .logged => 3
  | .ignored => 4
  | .blanked => 3
  | .live => 2

/-- The limit of a unit (R452). -/
def State.limit (s : State) (k u : Nat) : State × Verdict :=
  let e := s.react k
  let s := s.p (unitReg u) TMP_UNIT_A_PERMANENT 1
  let blk := decide (432 ≤ u)
  if reactBit e 29 && !blk then (s, .retire)
  else if reactBit e 28 || blk then (s, .safe)
  else (s, .logged)

/-- A retry of the unit still runs (R452): of the retries, a transmit restart is the one in which its class may rise. -/
def State.retryRuns (s : State) (u : Nat) : Bool := decide (u < 64) && (s.pch.look u).txRestart

/-- A transient of a unit (R452): the run and the 60 s count decide between a retry and the limit. A retry that cannot start counts as
one more, at most as often as a run has retries. -/
def State.transient : Nat → State → Nat → Nat → State × Verdict
  | 0, s, _, _ => (s, .retry)
  | f + 1, s, k, u =>
    let r := unitReg u
    let s := s.inc TMP_TRANSIENTS
    let s := s.wr (r + 4) (s.rd (r + 4) + 1)
    let s := s.updTmp (fun d => { d with hist := d.hist.put u (s.unitHist u ++ [s.now]) })
    let new := match s.tmp.runStart.look u with
      | none => true
      | some t => decide (1000000000 < s.now - t) && !s.retryRuns u
    let s := s.when new (fun s => (s.updTmp (fun d => { d with runStart := d.runStart.put u (some s.now) })).p r TMP_UNIT_A_RUN 0)
    let n := s.g r TMP_UNIT_A_RUN
    if n = 3 || 5 ≤ (s.unitHist u).length then s.limit k u
    else
      let s := s.p r TMP_UNIT_A_RUN (n + 1)
      if s.retryHung k u then State.transient f s k u else (s, .retry)

/-- The classification of an event (R452), `gone` being the units that an event before it in the cycle retires (R468). -/
def State.classify (s : State) (gone : List Nat) (e : Fev) : State × Verdict :=
  let x := s.react e.cls
  if e.quiet then (s, .logged)
  else if liveClass e.cls then (s, if (reactBit x 31 && reactBit x 27) || fixedSafe e.cls then .live else .logged)
  else if s.unitRetired e.unit || gone.contains e.unit then (s.inc TMP_IGNORED, .ignored)
  else if s.unitBlanked e.cls e.unit then (s.inc TMP_BLANKED, .blanked)
  else if !reactBit x 31 then (s, .logged)
  else if reactBit x 30 || e.cls = 0x11 || e.cls = 0x12 then s.limit e.cls e.unit
  else State.transient 4 s e.cls e.unit

/-- The actions of a verdict. -/
def State.actSafe (s : State) (k u : Nat) (v : Verdict) : State :=
  s.when (decide (v = .safe)) (fun s =>
    (s.updTmp (fun d => { d with limits := if 432 ≤ u then (k, unitNum u) :: d.limits else d.limits })).safeEnter k)
def State.actRetire (s : State) (u : Nat) (v : Verdict) : State := s.when (decide (v = .retire)) (fun s => s.retire u)
def State.actRetry (s : State) (k u : Nat) (v : Verdict) : State := s.when (decide (v = .retry)) (fun s => s.retry k u)

/-- The log entry of a fault of a unit. -/
def State.unitLog (s : State) (inj : Bool) (outcome k u : Nat) : State :=
  s.faultLog inj outcome (s.g (unitReg u) TMP_UNIT_A_RUN) k u (s.unitHist u).length

/-- The log entry of an event; of a live condition the spec names no unit number: it is free. An event whose class enters the safe state at
once has OUTCOME 2 beside its retry. -/
def State.eventLog (s : State) (e : Fev) (v : Verdict) : State :=
  if v = .blanked then s
  else if liveClass e.cls then
    let d := s.drawNat
    d.2.faultLog e.inj v.outcome 0 e.cls d.1 0
  else s.unitLog e.inj (if v = .retry && reactBit (s.react e.cls) 27 then 2 else v.outcome) e.cls e.unit

/-- An event has immediate actions: it is not of a unit retired or blanked, and not only logged (R452, R467). -/
def State.faultActs (s : State) (e : Fev) : Bool :=
  !e.quiet && (liveClass e.cls || (!s.unitRetired e.unit && !s.unitBlanked e.cls e.unit))

/-- Put an event at its place by class code, behind those of its class (R457). -/
def fevIns (e : Fev) : List Fev → List Fev
  | [] => [e]
  | x :: l => if e.cls < x.cls then e :: x :: l else x :: fevIns e l

/-- The classification of the events of a cycle, in turn. -/
def State.classifyAll : List Fev → State → List (Fev × Verdict) → State × List (Fev × Verdict)
  | [], s, vs => (s, vs)
  | e :: l, s, vs =>
    let gone := (vs.filter (fun x => decide (x.2 = .retire))).map (fun x => x.1.unit)
    let r := s.classify gone e
    State.classifyAll l r.1 (vs ++ [(e, r.2)])

/-- The events of a cycle together (R452, R457): self-timed mutes, safe-state entries, ALERT and FREEZE; then by class code retirement,
retries, and the log. -/
def State.faultTick (s : State) (l : List Fev) : State :=
  let l := l.foldl (fun a e => fevIns e a) []
  let s := l.foldl (fun (s : State) _ => s.inc TMP_FAULTS) s
  let acts := l.filter (fun e => s.faultActs e)
  let s := acts.foldl (fun (s : State) e => s.actMute e.cls) s
  let s := acts.foldl (fun (s : State) e => s.actEnter e.cls) s
  let s := acts.foldl (fun (s : State) e => s.actAlert e.cls) s
  let r := State.classifyAll l s []
  let s := r.2.foldl (fun (s : State) x => s.actSafe x.1.cls x.1.unit x.2) r.1
  let s := r.2.foldl (fun (s : State) x => s.actRetire x.1.unit x.2) s
  let s := r.2.foldl (fun (s : State) x => s.actRetry x.1.cls x.1.unit x.2) s
  r.2.foldl (fun (s : State) x => s.eventLog x.1 x.2) s

/-- A block reports a fault of class `k` against unit `u`, which no injection caused (R449, R450). -/
def State.report (s : State) (k u : Nat) : State := s.fault ⟨k, u, false, false⟩

/-- An uncorrectable read of rank `n` (8 × channel + rank) sets the UE of its channel (R69, R449). -/
def State.memUe (s : State) (n : Nat) : State := s.ev (MEM_STATUS (n / 8)) MEM_STATUS_UE

/-- A thread fault (R239), reported to the Temple (R450). -/
def State.threadFails (s : State) (p t code pc : Nat) : State := (s.threadFault p t code pc).report 0x10 (96 + p)

/-- A digest mismatch on a load of shuttle `p` (R241), reported to the Temple (R450): the shuttle is stopped and holds no image, and
SWAP_RESULT is 3. -/
def State.loadMismatch (s : State) (p : Nat) : State :=
  (((s.updShu (fun d => { d with stopped := d.stopped.put p true, held := d.held.put p none })).p (SHU_STATUS (p / 16)) SHU_STATUS_SWAP_RESULT 3).inc
    (SHU_LOAD_FAIL (p / 16))).report 0x11 (96 + p)

/-- A second of the standby's tests (R510): `loop` the channels whose loopback passed, `bist` whether the spare of the next cluster
passed; a failure is SHU_TEST against that shuttle (R450). -/
def execStandbySelftest (loop : BitVec 64) (bist : Bool) (s : State) : Out :=
  .next (s.when (decide (s.protState = 2)) (fun s =>
    let keys := (List.range 64).foldl (fun m c => setBit m c (s.held c && s.keysMatch c)) 0
    let k := s.slv.bistNext % 16
    let busy := (s.shu.swaps.look k).isSome
    let ok := (List.range 64).foldl (fun m c => setBit m c (s.held c && bit loop.toNat c)) 0
    let s := s.updSlv (fun d =>
      { d with
        loopOk := ok, keysOk := keys, bistOk := if busy then d.bistOk else setBit d.bistOk k bist, bistNext := (k + 1) % 16 })
    s.when (!busy && !bist) (fun s => s.report 0x12 (96 + s.sparePhys k))))

/-- Raise a channel's LOL or TXF, with its fault of class `k` (R92, R450). -/
def State.chRaiseFault (s : State) (c : Nat) (blanked : Bool) (live evt : Fld) (k : Nat) : State :=
  let rise := !s.on (PCH_DEFECT c) live && !blanked
  (s.chRaise c blanked live evt).when rise (fun s => s.report k c)

/-- LOL after 100 ns out of lock (R92): CHn_TXDIS is asserted and no map is sealed while it is raised. -/
def execChLolRaise (c : Fin 64) (outNs : Nat) (s : State) : Out :=
  let h := s.pch.look c
  let b := h.blankDef || h.lolBlank
  .next (s.when (decide (100 ≤ outNs)) (fun s =>
    (s.updPch c (fun h => { h with pendingLol := b })).chRaiseFault c b PCH_DEFECT_LOL_LIVE PCH_DEFECT_LOL 0x02))

/-- TXF (R92): two TXF errors within 1 ms; a serializer FIFO error is one more of them. -/
def execChTxfRaise (x : TxfCause) (s : State) : Out :=
  let s := s.when x.fifoErr (fun s => s.txfError x.c)
  .next (s.when (s.pch.look x.c).txfDue (fun s =>
    (s.updPch x.c (fun h => { h with txfDue := false })).chRaiseFault x.c (s.pch.look x.c).permBlank PCH_DEFECT_TXF_LIVE PCH_DEFECT_TXF 0x01))

/-- The bits of an armed injection that reports (R467). -/
def State.injReport (s : State) : State :=
  let s := (s.inc TMP_INJECTED).ev TMP_STATUS TMP_STATUS_INJ_DONE
  (s.updTmp (fun d => { d with inj := false })).p TMP_INJ_CTL TMP_INJ_CTL_GO 0

/-- Whether the indication of class `k` can rise against unit `u` (R450): a lane is in TRAINING or UP, a self-tested shuttle is a spare. -/
def State.mayRise (s : State) (k u : Nat) : Bool :=
  if k = 0x08 then decide (s.portState (unitNum u) = 1) || decide (s.portState (unitNum u) = 2)
  else if k = 0x12 then decide (s.sparePhys (unitNum u / 16) = unitNum u)
  else true

/-- FAULT_EVENT (R449 to R457, R466, R467): a rising indication of class `k` against unit `u`; `inj` when an armed checker reports it. The
conditions of classes 0x33, 0x34, 0x35 and 0x37 are the device's own and bring their events with them. -/
def execFaultEvent (k : Fin 64) (u : Fin 632) (inj : Bool) (s : State) : Out :=
  let inj := inj && s.tmp.inj
  let quiet := inj && s.on TMP_INJ_CTL TMP_INJ_CTL_NOCOUNT
  let s0 := s
  let s := s.when inj (fun s => s.injReport)
  .next (match classUnit k with
    | some kind =>
      if kind ≠ unitKind u || !s0.mayRise k u then s0
      else (s.when (decide (k.val = 0x18)) (fun s => s.memUe (unitNum u))).fault ⟨k, u, inj, quiet⟩
    | none =>
      if !(k.val = 0x30 || k.val = 0x31 || k.val = 0x32 || k.val = 0x36) || s.causeLive k || s.faultWaits k then s0
      else
        let s := s.when (!quiet && decide (k.val = 0x30)) (fun s => s.supplyBad)
        let s := s.when (!quiet && decide (k.val = 0x36)) (fun s => s.p TMP_SAFE TMP_SAFE_RELOAD_PENDING 1)
        s.fault ⟨k, 0, inj, quiet⟩)

/-- A transmit restart ends (R450): with the PLL relocked, or as a further transient of the same run. -/
def execTxRestartDone (c : Fin 64) (locked : Bool) (s : State) : Out :=
  .next (s.when (s.pch.look c).txRestart (fun s =>
    if locked then s.updPch c (fun h => { h with txRestart := false, txLocked := true, lolBlank := false })
    else
      let k := s.tmp.restart.look c
      let r := State.transient 4 s k c
      (((r.1.actSafe k c r.2).actRetire c r.2).actRetry k c r.2).unitLog false r.2.outcome k c))

/-- The CORE heartbeat has been absent for 10 µs (R450). -/
def execCoreHeartbeatTimeout (s : State) : Out := .next (if s.causeLive 0x32 || s.faultWaits 0x32 then s else s.faultLive 0x32)

-- ===== spilled frames (R318) =====

/-- SPILL_HEAD_FETCH (R316, R318, R319): a spilled head frame comes on chip, or is dropped on an uncorrectable read, a fault of its rank (R449); while the meter
is in deficit the read waits. -/
def State.spillFetch (s : State) (q : Nat) (ue : Bool) : State :=
  match s.queue q with
  | [] => s
  | f :: t =>
    if f.onChip || s.spillDebt ≠ 0 then s
    else
      let s := s.spillCharge f.len
      if ue then
        let p := f.buf / 2 ^ 32
        let r := s.rankOf (s.spillAt p + f.buf % 2 ^ 32 * s.g (BPM_POOL p) BPM_POOL_SIZE)
        let s := (s.memUe (8 * r.1 + r.2)).report 0x18 (352 + (8 * r.1 + r.2))
        ((s.dropHead q).inc BPM_SPILL_UE).ev BPM_STATUS BPM_STATUS_SPILL_UE
      else s.updTmg (fun d => { d with queues := d.queues.put q ({ f with onChip := true } :: t) })

def execSpillHeadFetch (q : Fin 163840) (ue : Bool) (s : State) : Out := .next (s.spillFetch q ue)

-- ===== the safe state (R458 to R463) =====

/-- Whether the condition of a live cause has ended, as far as the state shows it (R459). -/
def State.causeOver (s : State) (k : Nat) : Bool :=
  if k = 0x30 then !s.watchHolds 0x30 && decide (s.tmp.watchAt.look 64 = 0 || 1000000 ≤ s.now - s.tmp.watchAt.look 64)
  else if k = 0x31 then decide (sext 16 (s.g PWR_THERM PWR_THERM_TJ) < 1050) && !s.watchHolds 0x31
  else if k = 0x33 then !s.coasting
  else if k = 0x34 then !s.tmp.safePin && decide (1000000 ≤ s.now - s.tmp.pinAt)
  else if k = 0x36 then !s.on TMP_SAFE TMP_SAFE_RELOAD_PENDING
  else if k = 0x37 then false
  else s.tmp.limits.all (fun e => decide (e.1 ≠ k))

/-- A live cause clears: its condition has been absent as long as R459 asks. -/
def execSafeCauseClear (k : Fin 64) (s : State) : Out :=
  .next (s.when (s.causeLive k && s.causeOver k) (fun s => s.setCause k false))

/-- Nothing holds the safe state (R459). -/
def State.safeFree (s : State) : Bool := s.noCause && !s.on TMP_SAFE TMP_SAFE_RELOAD_PENDING

/-- The quiet period, in ns (R460). -/
def State.quietNs (s : State) : Nat := clampN 1 3600 (s.g TMP_SAFE_CTL TMP_SAFE_CTL_QUIET_S) * 1000000000

/-- The quiet period ends (R460), QUIET_S after the last cause cleared: a latched safe state makes no automatic exit. A new cause in the
cycle wins (R468), so the exit is made at its end. -/
def execSafeQuietExpiry (s : State) : Out :=
  .next (s.when (decide (s.g TMP_SAFE TMP_SAFE_STATE = 1) && s.safeFree && decide (s.tmp.clearAt + s.quietNs ≤ s.now))
    (fun s => s.updCyc (fun d => { d with quiet_ := true })))

/-- The end of a cycle in the safe state, after its faults (R460, R461, R468): an EXIT exits or is refused, the end of the quiet period
exits. -/
def State.exitTick (s : State) (exit quiet : Bool) : State :=
  if !s.safe then s
  else if exit then (if s.safeFree then s.safeExit false else s.ev TMP_STATUS TMP_STATUS_EXIT_REFUSED)
  else if quiet && decide (s.g TMP_SAFE TMP_SAFE_STATE = 1) && s.safeFree then s.safeExit true
  else s

/-- EXIT written by a host port (R461): HOST_ENTER clears; the exit is made, or refused, at the end of the cycle (R468). -/
def State.exitWrite (s : State) : State := s.when s.safe (fun s => (s.setCause 0x37 false).updCyc (fun d => { d with exit_ := true }))

/-- A write of TMP_SAFE: EXIT, then ENTER, which raises HOST_ENTER (R461). -/
def State.safeWrite (s : State) (ag : Agent) (v : Word) : State :=
  let s := s.when (v.getLsbD 30 && decide (agCode ag ≤ 1)) (fun s => s.exitWrite)
  s.when (v.getLsbD 31 && !s.causeLive 0x37 && !s.faultWaits 0x37) (fun s => s.faultLive 0x37)

def execSafeEnter (ag : Agent) (v : Word) (s : State) : Out :=
  .next (s.bus ag TMP_SAFE (fun s => s.safeWrite ag v))

def execSafeExit (ag : Agent) (v : Word) (s : State) : Out :=
  .next (s.bus ag TMP_SAFE (fun s => s.safeWrite ag v))

/-- SAFE_N (R450, R462): low, it mutes and raises SAFE_PIN. -/
def execSafePin (low : Bool) (s : State) : Out :=
  let s := s.updTmp (fun d => { d with safePin := low, pinAt := if d.safePin = low then d.pinAt else s.now })
  .next (if low && !s.causeLive 0x34 && !s.faultWaits 0x34 then s.faultLive 0x34 else s)

-- ===== the reaction table (R454 to R456) =====

/-- PAR of an entry: even parity over word 0 and word 1. -/
def reactPar (w : Word) : Bool := (List.range 32).foldl (fun b i => b != w.getLsbD i) false

/-- Apply a whole entry. -/
def State.reactSet (s : State) (k : Nat) (w : Word) : State :=
  let w := word (bget w 24 8 * 2 ^ 24)
  (s.wr (TMP_REACT k) w).wr (TMP_REACT k + 4) (word (b2n (reactPar w) * 2 ^ 31))

/-- A host port's write of an entry (R455, R468): an event of the cycle still uses the old one. -/
def State.reactWrite (s : State) (ag : Agent) (k : Nat) (v : Word) : State :=
  if agCode ag ≤ 1 then
    let old := s.rd (TMP_REACT k)
    (s.when (s.cyc.en.look (TMP_REACT k)).isNone (fun s => s.updCyc (fun d => { d with en := d.en.put (TMP_REACT k) (some old) }))).reactSet k v
  else s

def execReactWrite (ag : Agent) (k : Fin 64) (v : Word) (s : State) : Out :=
  .next (s.bus ag (TMP_REACT k) (fun s => s.reactWrite ag k v))

/-- The table takes the draft's REACTION records over the defaults of its ROM (R455). -/
def State.reactLoad (s : State) (l : List Rec) : State :=
  let s := iter 64 (fun k s => s.reactSet k (resetWord (TMP_REACT k))) s
  (l.filter (fun r => decide (r.code = 0x43))).foldl (fun s r => s.reactSet (r.w0 % 64) (r.rest.getD 0 0)) s

/-- The reload of R456 completes: from the draft, or from the ROM when the source is unreadable. -/
def execReactReloadDone (fromRom : Bool) (s : State) : Out :=
  .next (s.when (s.on TMP_SAFE TMP_SAFE_RELOAD_PENDING) (fun s =>
    let l := if fromRom then [] else (s.drf.running.map (·.treadling)).getD []
    let s := (s.reactLoad l).p TMP_SAFE TMP_SAFE_ROM_USED (b2n (fromRom || s.drf.running.isNone))
    ((s.p TMP_SAFE TMP_SAFE_RELOAD_PENDING 0).setCause 0x36 false).ev TMP_STATUS TMP_STATUS_RELOADED))

-- ===== injection and the log (R452, R466) =====

/-- Whether the checker that TMP_INJ_CTL names exists. -/
def State.chkHere (s : State) : Bool :=
  let n := s.g TMP_INJ_CTL TMP_INJ_CTL_SOURCE
  let j := s.g TMP_INJ_CTL TMP_INJ_CTL_CHECKER
  decide (n < 200) && ((decide (n = 4) && decide (j = 0)) || s.on (TMP_CHK_MAP (64 * n + j)) TMP_CHK_MAP_PRESENT)

/-- A write of TMP_INJ_CTL (R466). -/
def State.injWrite (s : State) (v : Word) : State :=
  let s := s.wrRW TMP_INJ_CTL v
  if v.getLsbD 31 then
    if s.tmp.inj || !s.chkHere then s.ev TMP_STATUS TMP_STATUS_INJ_REFUSED
    else (s.updTmp (fun d => { d with inj := true })).p TMP_INJ_CTL TMP_INJ_CTL_GO 1
  else s

def execInjectArm (ag : Agent) (v : Word) (s : State) : Out :=
  .next (s.bus ag TMP_INJ_CTL (fun s => s.injWrite v))

/-- A read of word 3 of TMP_FAULT_LOG consumes the head entry. -/
def State.faultPop (s : State) : State × Word := match s.tmp.log with
  | [] => (s, 0)
  | e :: r => (s.updTmp (fun d => { d with log := r }), e.getD 3 0)

def execFaultLogPop (ag : Agent) (s : State) : Out := .next (s.busRd ag (TMP_FAULT_LOG + 12) (fun s => s.faultPop))

-- ===== blanking windows end (R94, R343, R400, R464, R465) =====

/-- A window over a channel's LOS and LOL has ended: what still holds and no window covers is raised. -/
def State.chUnblank (s : State) (c : Nat) : State :=
  let h := s.pch.look c
  let s := if h.pendingLos && !h.blankDef && !h.blankMute then
      (s.when (s.losSet c) (fun s => s.chRaise c false PCH_DEFECT_LOS_LIVE PCH_DEFECT_LOS)).updPch c (fun h => { h with pendingLos := false })
    else s
  if h.pendingLol && !h.blankDef && !h.lolBlank then
    (s.updPch c (fun h => { h with pendingLol := false })).chRaiseFault c false PCH_DEFECT_LOL_LIVE PCH_DEFECT_LOL 0x02
  else s

/-- A DG that still holds is raised (R465); LOB and LODS wait for the ONU's next grant (R144). -/
def State.dgUnblank (s : State) (c : Nat) : State :=
  iter 256 (fun i s =>
    if bit (s.slot c i).pendRaise PCH_ONU_DEF_DG.lo then (s.onuRaise c i false PCH_ONU_DEF_DG_LIVE PCH_ONU_DEF_DG).1 else s) s

/-- The end of a blanking window. Those that last as long as something else holds end only after it. -/
def execBlankingWindowEnd (w : BlankWin) (s : State) : Out :=
  .next (match w with
    | .channel c => (s.updPch c (fun h => { h with blank := false })).chUnblank c
    | .txRestart c => if (s.pch.look c).txRestart then s else (s.updPch c (fun h => { h with blankTx := false })).chUnblank c
    | .mute c =>
      if s.tmp.mute || s.safe || s.tmp.safePin then s
      else ((s.updPch c (fun h => { h with blankMute := false })).chUnblank c).dgUnblank c
    | .tributary c => s.updPch c (fun h => { h with tribBlank := false })
    | .port l => iter (s.portWidth (s.portOfLane l)) (fun i s => s.portBlankEnd (s.portOfLane l + i)) s
    | .rank m r => s.updTmp (fun d => { d with rankBlank := d.rankBlank.put (8 * m.val + r.val) false })
    | .engine e => s.updTmp (fun d => { d with engBlank := d.engBlank.put e.val false })
    | .block n => s.updBlk n (fun b => if b.resetting then b else { b with blanked := false })
    | .erasure => if s.on CRY_STATUS CRY_STATUS_ERASED then s else s.updTmp (fun d => { d with eraseBlank := false }))

end Sys2Proof.Machine
end

