-- ==== Sys2Proof/Machine/Clock.lean ====
section
/-! DEFINITION. The passing of time: what one nanosecond does on its own, on an empty queue (assumption 2). -/
namespace Sys2Proof.Machine

/-- Device time advances by 1 ns and the frequency adjustment, in units of 2^-32 ns (R372). -/
def State.timeTick (s : State) : State :=
  if !s.tim.runs then s
  else
    let f : Int := (s.tim.frac : Int) + 2 ^ 32 + sword (s.rd TIM_FREQ)
    let n := s.tim.ns + (f / 2 ^ 32).toNat
    s.updTim (fun d => { d with
      frac := (f % 2 ^ 32).toNat, ns := n % 1000000000, sec := (s.tim.sec + n / 1000000000) % 2 ^ 48 })

/-- Commands of registers that were pending are over: a time step (R379), commits (R287), mailbox messages (R411), block resets
(R484). -/
def State.goTick (s : State) : State :=
  let s := s.when s.tim.stepBusy (fun s => (s.p TIM_STEP_CTL TIM_STEP_CTL_GO 0).updTim (fun d => { d with stepBusy := false }))
  let s := s.commitTick
  let s := s.mbxTick
  if s.on CLK_BLK_RST CLK_BLK_RST_GO then
    (s.blks.map (·.1)).foldl (fun (s : State) n => s.updBlk n (fun b => { b with resetting := false })) (s.p CLK_BLK_RST CLK_BLK_RST_GO 0)
  else s

/-- The next cycle (R53, R55, R61, R392, R434, R457): the servo takes the cycle's PPS samples, the Temple its fault events, and an exit from
the safe state is made; written enables apply, a source that they assert is an assertion event; the Bolt serves the freezes. -/
def State.cycTick (s : State) (w : Was) : State :=
  let s := s.ppsTick
  let old := s.cyc
  let l := ((old.en.map (fun e => blockOf e.1)).eraseDups).filter (fun n => !s.asserted n)
  let s := s.updCyc (fun _ => { (default : Cyc) with was := w, en := old.en.filter (fun e => decide (TMP_REACT 0 ≤ e.1) && decide (e.1 < TMP_REACT 64)) })
  let s := (s.faultTick old.faults).exitTick old.exit_ old.quiet_
  let s := s.updCyc (fun d => { d with en := [] })
  (l.foldl (fun (s : State) n => s.when (s.asserted n) (fun s => s.irqEvent n)) s).freezeTick old.freezes

/-- One nanosecond; the counters as they stand now are those before the new cycle (R35). -/
def State.tick (s : State) : State :=
  let w : Was := ⟨s.regs, s.ledger, s.tmg.bufs⟩
  (({ s with now := s.now + 1 }).cycTick w).timeTick.goTick

end Sys2Proof.Machine
end

