-- ==== Sys2Proof/Machine/Bolt.lean ====
section
/-! DEFINITION. The Bolt's commands (chapter 18). -/
namespace Sys2Proof.Machine

/-- A record of a class in its words (R412, R420 to R424, R431): what it lacks is zero. -/
def fitRec (cls : Nat) (r : List Word) : List Word := r.take (recBytes cls / 4) ++ List.replicate (recBytes cls / 4 - r.length) 0

/-- A record produced by a block or role (R412, R414 to R417). The command does not say which bin of the PM store (R430) a record of the
PM class is: a free value. -/
def execBoltRecord (cls : Fin 7) (r : List Word) (s : State) : Out :=
  if cls.val = 6 then
    let d := s.drawNat
    .next (d.2.produceAt 6 (some (d.1 % 2157120 * 128)) (fitRec 6 r))
  else .next (s.boltProduce cls (fitRec cls r))

/-- Put COALESCED, COUNT, LAST_NS and FIRST_NS into a count record (R416, R422). -/
def Coal.record (e : Coal) : List Word :=
  let w0 := (e.rec_.head?.getD 0) ||| 0x800000
  ((((((e.rec_.set 0 w0).set 1 (word e.last)).set 2 (word (e.last / 2 ^ 32))).set 3 (word (sat32 e.count))).set 4
    (word e.first)).set 5 (word (e.first / 2 ^ 32)))

/-- A coalescing entry leaves as one count record COAL_MS after its first alarm, past the bucket; it waits while neither the queue nor the
alarm SRAM has room (R416, R417). The alarms of this very cycle open a new entry (R434). -/
def execCoalFlush (k : Fin 256) (s : State) : Out :=
  .next (match s.blt.coal.look k with
    | none => s
    | some e =>
      let room := if s.ddrUp then decide (s.boltFill < rankLimit 0) else decide (s.blt.sram.length < 1024)
      if room && decide (e.at_ + atLeast1 (s.g BLT_CTL BLT_CTL_COAL_MS) * 1000000 ≤ s.now) then
        let split := decide (e.cyc = s.now)
        let out := if split then { e with count := e.count0, last := e.last0 } else e
        let q := s.stampSeq 0 out.record
        let t := q.1.updBlt (fun d => { d with coal := d.coal.put k (if split then some { s.coalNew e.rec1 with count := e.count - e.count0 } else none) })
        let t := if s.ddrUp then t.enqueueRec 0 none q.2 else (t.toSram q.2).1
        t.matchTrigs (bget (e.rec_.head?.getD 0) 24 8)
      else s)

/-- The alarm SRAM goes to ring 2 in arrival order, before newer alarms (R417). -/
def State.sramCopy (s : State) : State :=
  (s.updBlt (fun d => { d with queue := d.sram.map (fun r => (0, none, r)) ++ d.queue, sram := [] })).boltWater

def execAlarmSramCopy (s : State) : Out := .next (s.when s.ddrUp (fun s => s.sramCopy))

/-- The first byte of a segment from `off` that is not in a hole (R418). -/
def State.skipHoles (s : State) (base : Nat) : Nat → Nat → Nat
  | 0, off => off
  | n + 1, off => if s.isHole (base + off) then State.skipHoles s base n ((off / 4096 + 1) * 4096) else off

/-- A record reaches DDR-5 (R418, R419), while the Bolt writes (BLT_CTL.EN): RECORDS advances after its last byte, and a full segment
closes. Alarms of the alarm SRAM go first (R417). A record whose ring the draft does not place never reaches DDR-5. -/
def execBoltRecordWritten (s : State) : Out :=
  let s := s.when (s.ddrUp && !s.blt.sram.isEmpty) (fun s => s.sramCopy)
  .next (match s.blt.queue with
    | [] => s
    | (cls, pm, r) :: rest =>
      if !s.ddrUp || !s.on BLT_CTL BLT_CTL_EN then s
      else
        let ring := ringOf cls
        let t := s.updBlt (fun d => { d with queue := rest })
        let base := s.rd64 (BLT_RING ring)
        let t64 := s.t64
        if s.g (BLT_RING ring) BLT_RING_SIZE = 0 then t.boltLoseRec cls
        else match pm with
          | some a =>
            if s.isHole (base + a) then t.boltLoseRec cls
            else (t.ddrWrs (base + a) (r.flatMap wordBytes)).wr64 (BLT_RING ring + 12) (t.rd64 (BLT_RING ring + 12) + 1)
          | none =>
            let i := s.g (BLT_RING ring) BLT_RING_FILLING
            let segBase := base + i * 67108864
            let off := s.skipHoles segBase 16384 (s.blt.segFill.look ring)
            if 67108864 ≤ off then (s.closeSeg ring).openSeg ring
            else
              let a := s.segAt ring i
              let n := s.g a BLT_SEG_RECORDS
              let t := t.ddrWrs (segBase + off) (r.flatMap wordBytes)
              let t := if n = 0 then t.wr64 (a + 8) t64 else t
              let t := t.p a BLT_SEG_RECORDS (n + 1)
              let t := t.wr64 (BLT_RING ring + 12) (t.rd64 (BLT_RING ring + 12) + 1)
              let t := if cls = 0 && bget (r.head?.getD 0) 23 1 = 1 then t.inc BLT_COUNT_RECORDS else t
              let fin := off + recBytes cls
              let t := t.updBlt (fun d => { d with segFill := d.segFill.put ring fin, segLast := d.segLast.put (s.g (BLT_RING ring) BLT_RING_SEG0 + i) t64 })
              if 67108864 ≤ fin then (t.closeSeg ring).openSeg ring else t)

/-- Release a cut (R428): its segments go back to EMPTY. -/
def State.releaseCut (s : State) (j : Nat) : State :=
  if s.g (BLT_CUT j) BLT_CUT_STATE = 0 then s
  else
    let s := s.overRegs (BLT_SEG 0) (BLT_SEG 65536) (fun a s =>
      if a % 16 = 0 && decide (s.g a BLT_SEG_STATE = 3) && decide (s.g a BLT_SEG_CUT = j) then
        let r := s.g a BLT_SEG_RING
        let s := (s.p a BLT_SEG_STATE 0).p (BLT_RING r) BLT_RING_FROZEN (s.g (BLT_RING r) BLT_RING_FROZEN - 1)
        { s with cyc := { s.cyc with freed := (a - BLT_SEG 0) / 16 :: s.cyc.freed } }
      else s)
    let held := s.blt.segCut.filter (fun e => decide (e.2 = j + 1))
    let s := held.foldl (fun s e =>
      let r := s.g (BLT_SEG e.1) BLT_SEG_RING
      (s.p (BLT_RING r) BLT_RING_FROZEN (s.g (BLT_RING r) BLT_RING_FROZEN - 1)).updBlt (fun d => { d with segCut := d.segCut.put e.1 0 })) s
    (s.p (BLT_CUT j) BLT_CUT_STATE 0).boltEvent 0x83 0 0 14 [j]

/-- A write of BLT_CUT_CMD (R425, R428): GO executes OP 1 (freeze now, pending until the end of the cycle) or OP 2 (release). -/
def State.cutCmdWrite (s : State) (v : Word) : State :=
  let s := s.wrRW BLT_CUT_CMD v
  if v.getLsbD 31 then
    let op := s.g BLT_CUT_CMD BLT_CUT_CMD_OP
    if op = 1 then (s.askFreeze 8 0 (s.g BLT_CUT_CMD BLT_CUT_CMD_RINGS) s.t64).p BLT_CUT_CMD BLT_CUT_CMD_GO 1
    else if op = 2 then s.releaseCut (s.g BLT_CUT_CMD BLT_CUT_CMD_CUT)
    else s
  else s

def execCutFreeze (ag : Agent) (v : Word) (s : State) : Out := .next (s.bus ag BLT_CUT_CMD (fun s => s.cutCmdWrite v))

def execCutRelease (ag : Agent) (v : Word) (s : State) : Out := .next (s.bus ag BLT_CUT_CMD (fun s => s.cutCmdWrite v))

/-- At T + POST_S the filling segments of the cut's rings close and freeze, and the cut is FROZEN (R425). -/
def execCutPostEnd (j : Fin 8) (s : State) : Out :=
  .next (s.when (decide (s.g (BLT_CUT j) BLT_CUT_STATE = 1) && decide (s.blt.cutEnd.look j ≤ s.t64)) (fun s =>
    let rings := s.g (BLT_CUT j) BLT_CUT_RINGS
    let s := iter 6 (fun r s =>
      if bit rings r && decide (s.g (BLT_RING r) BLT_RING_SIZE ≠ 0) then
        ((s.markSeg r (s.g (BLT_RING r) BLT_RING_FILLING) j).closeSeg r) else s) s
    let s := (s.p (BLT_CUT j) BLT_CUT_STATE 2).ev BLT_STATUS BLT_STATUS_CUT_FROZEN
    let s := iter 6 (fun r s =>
      if bit rings r && decide (s.g (BLT_RING r) BLT_RING_SIZE ≠ 0) then s.openSeg r else s) s
    s.boltEvent 0x82 0 0 14 [j.val, s.g (BLT_CUT j) BLT_CUT_SEGMENTS, s.g (BLT_CUT j) BLT_CUT_PARTIAL]))

/-- At a second boundary one condensing item per threaded channel joins the Bolt-condensing work queue (R18, R424). -/
def execSummarySecond (s : State) : Out :=
  let cs := (List.range 64).filter (fun c => decide (s.drf.chThread.look c ≠ 0))
  .next { s with shu := { s.shu with work := s.shu.work.upd 2 (· ++ cs.map (fun c => [word c, word (s.tim.sec - 1)])) } }

/-- A condensing shuttle turns the item at the head of the queue into its records (R424). -/
def execSummaryCondense (s : State) : Out :=
  .next (match s.shu.work.look 2 with
    | [] => s
    | w :: rest =>
      let s := { s with shu := { s.shu with work := s.shu.work.put 2 rest } }
      s.condense (w.getD 0 0).toNat (w.getD 1 0).toNat)

/-- Summaries of a second not all written within 50 ms (R424). -/
def execSummaryLate (s : State) : Out :=
  .next (s.when (!(s.shu.work.look 2).isEmpty) (fun s => s.ev BLT_STATUS BLT_STATUS_SUMMARY_LATE))

end Sys2Proof.Machine
end

