-- ==== Sys2Proof/Machine/Downstream.lean ====
section
/-! DEFINITION. Downstream framing and late-bound grant maps (chapter 4): the seal, and what is written before it. -/
namespace Sys2Proof.Machine

/-- Whether the seal of the next frame has come (R106, R107): within 3 ns of LEAD_NS before its PSync, as latched at the PSync before. -/
def State.sealTime (s : State) (c : Nat) : Bool :=
  let h := s.pch.look c
  decide (h.due8 ≤ 8 * (s.now + h.leadNext + 3))

/-- Whether the map of channel c seals now (R106): its next frame is due and has not been sealed. -/
def State.sealDue (s : State) (c : Nat) : Bool :=
  let h := s.pch.look c
  h.running && decide (h.openLo % 2 ^ 51 = (s.rd64 (DSF_SFC c) + 1) % 2 ^ 51) && s.sealTime c

/-- The seal of the first open frame of a channel, before its PSync (R106, R107, R109, R110, R112, R214). A map that seals while the
channel is not ACTIVE or in receive sleep is ABANDONED; else one that seals muted, EMPTY_MUTED. -/
def State.sealFrame (s : State) (c : Nat) : State :=
  let h := s.pch.look c
  let n := h.openLo
  let handed := match s.slv.hand with
    | some (f, true, true) => decide (f ≤ n) && bit s.slv.protMask c
    | _ => false
  let out := decide (s.chState c ≠ 2) || h.rxStop || handed
  let mute := s.txdis c
  let s := if out then s.add (SHD_ABANDONED c) h.buf0.length
    else if mute then s.add (SHD_EMPTY_MUTED c) h.buf0.length
    else s.sealMap c n h.buf0
  let s := s.when (out || mute) (fun s => s.updPch c (fun h => { h with sealed := [] }))
  let s := s.when (!mute) (fun s => (s.ploamBind c n).ploamAgain c)
  let s := s.inc (SHD_MAPS_SEALED c)
  let s := s.updPch c (fun h => { h with buf0 := h.buf1, buf1 := [], openLo := h.openLo + 1 })
  ((s.hintDeliver c).bookRetry c).qwCheck c

/-- MAP_SEAL: the map of channel c seals, and with it those of the other channels whose seal has come, which the ledger serves in ascending
order from a rotating channel (R193). -/
def execMapSeal (c : Fin 64) (s : State) : Out :=
  .next (s.when (s.sealDue c) (fun s =>
    let l := ((List.range 64).map (fun i => (s.sealRot + i) % 64)).filter (fun d => s.sealDue d)
    let s := l.foldl (fun s d => s.sealFrame d) s
    if 2 ≤ l.length then { s with sealRot := (s.sealRot + 1) % 64 } else s))

/-- A LEAD_NS write (R107): a value outside 1,200 to 62,500 acts as the nearer limit and sets LEAD_CLAMPED. -/
def State.sealCtlWrite (s : State) (c : Nat) (v : Word) : State :=
  let s := s.wrRW (SHD_SEAL_CTL c) v
  let n := s.g (SHD_SEAL_CTL c) SHD_SEAL_CTL_LEAD_NS
  if n < 1200 || decide (62500 < n) then s.ev (DSF_STATUS c) DSF_STATUS_LEAD_CLAMPED else s

def execSealLeadWrite (ag : Agent) (c : Fin 64) (v : Word) (s : State) : Out :=
  .next (s.bus ag (SHD_SEAL_CTL c) (fun s => s.sealCtlWrite c v))

/-- GRANT_WRITE (R108, R186, R187): a refusal returns on the port of the shed role. -/
def execGrantWrite (c : Fin 64) (w0 w1 w2 : Word) (s : State) : Out :=
  let r := s.grantWrite c ⟨w0, w1, w2⟩
  .next (if r.2 then r.1 else r.1.refuseTo 2 c)

def execPloamWrite (c : Fin 64) (m : Ploam) (s : State) : Out :=
  .next (s.ploamSend c m)

end Sys2Proof.Machine
end

