-- ==== Sys2Proof/Machine/DraftOps.lean ====
section
/-! DEFINITION. The draft as words (chapter 10): header, section table, records, images, and every check of the loader. -/
namespace Sys2Proof.Machine

/-- Word `i` of a draft. -/
def dw (l : List Word) (i : Nat) : Word := l.getD i 0

/-- `n` words from `i`. -/
def dws (l : List Word) (i n : Nat) : List Word := (l.drop i).take n

/-- The code of the first failing check; 0 for none (R264). -/
def firstErr : List (Bool × Nat) → Nat
  | [] => 0
  | (b, e) :: r => if b then e else firstErr r

/-- Two elements of a list are equal. -/
def hasDup : List Nat → Bool
  | [] => false
  | a :: l => l.contains a || hasDup l

-- ===== header and section table (R254, R255) =====

/-- A section: TYPE, FLAGS, REGION, first word, length. -/
structure Sect where
  type : Nat
  opt : Bool
  region : Nat
  off : Nat
  len : Nat
  deriving DecidableEq, Repr

/-- LENGTH, and the entries of the section table. -/
def draftLen (l : List Word) : Nat := (dw l 6).toNat
def draftN (l : List Word) : Nat := bget (dw l 7) 0 16

/-- Entry `i` of the section table. -/
def sectAt (l : List Word) (i : Nat) : Sect :=
  let b := 64 + 16 * i
  ⟨bget (dw l b) 24 8, decide (bget (dw l b) 16 1 = 1), bget (dw l b) 0 16, (dw l (b + 1)).toNat, (dw l (b + 2)).toNat⟩

def sects (l : List Word) : List Sect := (List.range (draftN l)).map (sectAt l)

/-- Where the signature block begins. -/
def sigAt (l : List Word) : Nat := draftLen l - 40

/-- The KIND of a draft. -/
def draftKind (l : List Word) : Nat := bget (dw l 4) 28 4

/-- A reserved field of the header, the section table or the signature block is not 0 (R250). -/
def hdrRsvd (l : List Word) : Bool :=
  decide (bget (dw l 2) 0 8 ≠ 0) || decide (bget (dw l 4) 16 11 ≠ 0) || decide (bget (dw l 7) 16 16 ≠ 0)
    || (dws l 12 4).any (fun w => decide (w ≠ 0)) || (dws l 28 36).any (fun w => decide (w ≠ 0))
    || (decide (draftKind l = 0) && ((dws l 16 12).any (fun w => decide (w ≠ 0)) || decide (bget (dw l 4) 0 16 ≠ 0)))
    || (List.range (draftN l)).any (fun i => decide (bget (dw l (64 + 16 * i)) 17 7 ≠ 0) || decide (dw l (67 + 16 * i) ≠ 0))
    || decide (bget (dw l (sigAt l)) 0 8 ≠ 0) || (dws l (sigAt l + 1) 3).any (fun w => decide (w ≠ 0))

/-- The first word of a section follows the table and the section before, and the last ends before the signature block. -/
def sectPlace : List Sect → Nat → Nat → Bool
  | [], lo, hi => decide (lo ≤ hi)
  | x :: r, lo, hi => decide (lo ≤ x.off) && sectPlace r (x.off + x.len) hi

/-- The family check (R270). -/
def State.familyBad (s : State) (l : List Word) : Bool :=
  let dims : List (Nat × Nat) := [(bget (dw l 3) 24 8, s.g GLB_PARAM0 GLB_PARAM0_CHANNELS), (bget (dw l 3) 16 8, s.g GLB_PARAM0 GLB_PARAM0_CLUSTERS),
    (bget (dw l 3) 8 8, s.g GLB_PARAM0 GLB_PARAM0_UPLINK_LANES), (bget (dw l 3) 4 4, s.g GLB_PARAM1 GLB_PARAM1_PIPELINES),
    (bget (dw l 3) 0 4, s.g GLB_PARAM1 GLB_PARAM1_DDR_CHANNELS)]
  let part := bget (dw l 2) 16 16
  if part = 0 then dims.any (fun d => decide (d.2 < d.1))
  else decide (part ≠ s.g GLB_ID GLB_ID_PART) || dims.any (fun d => decide (d.1 ≠ d.2))

/-- Sections of a type. -/
def ofType (l : List Word) (t : Nat) : List Sect := (sects l).filter (fun x => decide (x.type = t))

/-- The cluster of a region draft. -/
def draftRegion (l : List Word) : Nat := match (List.range 16).find? (fun k => bit (dw l 4).toNat k) with
  | some k => k
  | none => 0

/-- A type of section that the kind of draft does not carry, or lacks, or carries for another cluster (R255). -/
def sectKindBad (l : List Word) : Bool :=
  let n := fun (t : Nat) => (ofType l t).length
  let k := draftKind l
  if k = 0 then decide (n 1 ≠ 1) || decide (n 2 ≠ 1) || decide (n 3 ≠ 1) || decide (n 4 = 0) || decide (n 5 = 0) || decide (n 7 ≠ 1) || decide (n 6 ≠ 0)
  else if k = 1 then
    decide (n 1 ≠ 1) || decide (n 2 ≠ 0) || decide (1 < n 3) || decide (n 4 = 0) || decide (n 5 ≠ 1) || decide (n 6 ≠ 0) || decide (n 7 ≠ 0)
      || (ofType l 1 ++ ofType l 3 ++ ofType l 5).any (fun x => decide (x.region ≠ 0xFFFF) && decide (x.region ≠ draftRegion l))
  else decide (n 6 = 0) || decide (n 1 + n 2 + n 3 + n 4 + n 5 + n 7 ≠ 0)

/-- The checks at the end of the fetch (R250 to R255, R264, R270): `read` when the source could not be read, `dig` when a section digest
does not match. The order of the checks, and 0x14 for what R264 gives no code (KIND, REGION_MASK, the place of a section), are those of
assumption 89. -/
def State.fetchErr (s : State) (l : List Word) (read dig : Bool) : Nat :=
  let n := draftLen l
  firstErr [(read, 0x15),
    (decide (dw l 0 ≠ 0x54445246) || decide (8388608 < n) || decide (l.length < n) || decide (n < 104), 0x01),
    (decide (bget (dw l 1) 16 16 ≠ 1), 0x02),
    (s.familyBad l, 0x03),
    (decide (s.g GLB_ID GLB_ID_STEP < bget (dw l 2) 8 8), 0x04),
    (decide (draftN l = 0) || decide (1024 < draftN l) || decide (3 ≤ draftKind l)
      || (decide (draftKind l = 1) && decide (((List.range 16).filter (fun k => bit (dw l 4).toNat k)).length ≠ 1))
      || (sects l).any (fun x => decide (16 ≤ x.region) && decide (x.region ≠ 0xFFFF)) || !sectPlace (sects l) (64 + 16 * draftN l) (sigAt l), 0x14),
    (hdrRsvd l, 0x01),
    (dig, 0x08),
    ((sects l).any (fun x => (decide (x.type = 0) || decide (7 < x.type)) && !x.opt), 0x09),
    (sectKindBad l, 0x0E)]

-- ===== records (R257, R259, R260, R455) =====

/-- Length of a record, the bits of its first word and of the further words that are not reserved; none for an unknown code. The
layout of CREDIT_LOOP is in no rule: its words are not checked. -/
def recForm (c : Nat) : Option (Nat × Nat × List Nat) :=
  let f := 0xFFFFFFFF
  if c = 0x10 then some (2, 0xFFE0, [0xFC00FFFF]) else if c = 0x11 then some (2, 0xFFFE, [0xFC00FFFF])
  else if c = 0x12 then some (2, 0xFFFC, [0xFFFF]) else if c = 0x13 then some (1, 0xFFF0, [])
  else if c = 0x14 then some (1, 0xFFE0, []) else if c = 0x15 then some (2, 0xF000, [0xFFFF07FF])
  else if c = 0x20 then some (8, 0xFF0F, [f, 0xFF80FFFF, 0xFFFFFF80, 0xFFFFFF80, 0xFFFFFF80, 0xFFFFFF80, 0xFF0007])
  else if c = 0x21 then some (6, 0xF003, [f, f, f, f, f]) else if c = 0x22 then some (5, 0x1F0F, [f, f, 0xFFFFFF00, 0xFFF0FFFF])
  else if c = 0x23 then some (2, 0xFFFF, [f]) else if c = 0x30 then some (2, 0x7, [f]) else if c = 0x31 then some (2, 0x3, [0xFF])
  else if c = 0x32 then some (4, 0xF, [f, f, 0xFF]) else if c = 0x40 then some (3, 0x3F, [f, 0x03FF003F])
  else if c = 0x41 then some (6, 0x1F, [0x1F030F, f, f, f, f]) else if c = 0x42 then some (3, 0x7, [f, f])
  else if c = 0x43 then some (2, 0x3F, [0xFF000000]) else none

/-- The codes of a section type. -/
def recSect (t c : Nat) : Bool :=
  if t = 1 then decide (0x10 ≤ c) && decide (c ≤ 0x15)
  else if t = 2 then decide (0x20 ≤ c) && decide (c ≤ 0x23)
  else if t = 3 then decide (0x40 ≤ c) && decide (c ≤ 0x43)
  else decide (0x30 ≤ c) && decide (c ≤ 0x32)

/-- The records of a section, or nothing when a length does not fit. -/
def recsOf : Nat → List Word → Option (List Rec)
  | _, [] => some []
  | 0, _ => none
  | f + 1, w :: r =>
    let n := bget w 16 8
    if n = 0 || r.length + 1 < n then none
    else match recsOf f (r.drop (n - 1)) with
      | some l => some (⟨bget w 24 8, bget w 0 16, r.take (n - 1)⟩ :: l)
      | none => none

/-- The words of the first section of a type. -/
def sectWords (l : List Word) (t : Nat) : List Word := match ofType l t with
  | x :: _ => dws l x.off x.len
  | [] => []

/-- The records of the section of a type. -/
def sectRecs (l : List Word) (t : Nat) : Option (List Rec) := recsOf (sectWords l t).length (sectWords l t)

/-- A record of a code that its section does not hold, or of another length (R257, R259). -/
def recBad (t : Nat) (r : Rec) : Bool := match recForm r.code with
  | some f => !recSect t r.code || decide (r.rest.length + 1 ≠ f.1)
  | none => true

/-- A reserved bit of a record is not 0, or the IMAGE_ID of the spare (R250, R257). -/
def recRsvd (r : Rec) : Bool := match recForm r.code with
  | some f => (decide (r.code = 0x10) && decide (r.w0 / 32 % 8 = 6) && decide (bget (r.rest.headD 0) 0 16 ≠ 0)) || decide (r.w0 &&& f.2.1 ≠ r.w0) || (r.rest.zip f.2.2).any (fun e => decide (e.1.toNat &&& e.2 ≠ e.1.toNat))
  | none => false

/-- Further word `i` of a record. -/
def rw_ (r : Rec) (i : Nat) : Word := r.rest.getD (i - 1) 0

/-- Records of a code. -/
def recs (l : List Rec) (c : Nat) : List Rec := l.filter (fun r => decide (r.code = c))

-- ===== images (R261) =====

/-- A microword image section; `signer` is whether the owner signed it. The digest is that of the whole store as written (R241). -/
def imageOf (w : List Word) (signer : Bool) : Image :=
  let n := bget (dw w 1) 0 15
  let ws := dws w 8 n
  let store := ws ++ List.replicate (16384 - n) 0
  let d := sha384 (store.flatMap wordBytes)
  { id := bget (dw w 0) 16 16, version := word (bget (dw w 0) 0 16), patch := bget (dw w 1) 24 8, signer := signer,
    entries := (List.range 8).map (fun i => bget (dw w (2 + i / 2)) (16 * (i % 2)) 14),
    words := ws, digest := ((d.headD 0).extractLsb' 32 32, (d.headD 0).extractLsb' 0 32) }

/-- A microword image section breaks its layout. -/
def imageBad (w : List Word) : Bool :=
  let n := bget (dw w 1) 0 15
  decide (n = 0) || decide (16384 < n) || decide (w.length ≠ 8 + n)

/-- Its reserved bits. -/
def imageRsvd (w : List Word) : Bool :=
  decide (bget (dw w 1) 15 9 ≠ 0) || (dws w 2 4).any (fun x => decide (x.toNat &&& 0xC000C000 ≠ 0)) || (dws w 6 2).any (fun x => decide (x ≠ 0))

/-- A nanoword of six words, the lowest first. -/
def nanoOf (w : List Word) : BitVec 192 := BitVec.ofNat 192 (w.foldr (fun x a => a * 2 ^ 32 + x.toNat) 0)

/-- A nanoword image section: identity, version, patch level, nanowords. -/
def nanoImage (w : List Word) : Nat × Word × Nat × List (BitVec 192) :=
  (bget (dw w 0) 16 16, word (bget (dw w 0) 0 16), bget (dw w 1) 24 8,
   (List.range (bget (dw w 1) 0 13)).map (fun i => nanoOf (dws w (2 + 6 * i) 6)))

def nanoBad (w : List Word) : Bool :=
  let n := bget (dw w 1) 0 13
  decide (n = 0) || decide (4096 < n) || decide (w.length ≠ 2 + 6 * n)

def nanoRsvd (w : List Word) : Bool := decide (bget (dw w 1) 13 11 ≠ 0)

/-- The entries of a patch section as (nanoword, index, value words); nothing when one does not fit (R261). -/
def patchOf : Nat → List Word → Option (List (Bool × Nat × List Word))
  | _, [] => some []
  | 0, _ => none
  | f + 1, w :: r =>
    let nano := w.getLsbD 31
    let n := if nano then 6 else 1
    let i := bget w 0 14
    if r.length < n || (nano && decide (4096 ≤ i)) then none
    else match patchOf f (r.drop n) with
      | some l => some ((nano, i, r.take n) :: l)
      | none => none

def patchRsvd : Nat → List Word → Bool
  | 0, _ => false
  | _, [] => false
  | f + 1, w :: r => decide (bget w 14 17 ≠ 0) || patchRsvd f (r.drop (if w.getLsbD 31 then 6 else 1))

/-- The words of every section of a type. -/
def allSects (l : List Word) (t : Nat) : List (List Word) := (ofType l t).map (fun x => dws l x.off x.len)

/-- A draft after parsing. -/
def draftOf (l : List Word) : Draft :=
  let sig := sigAt l
  let tie := match (List.range (draftN l)).find? (fun i => decide ((sectAt l i).type = 2)) with
    | some i => dws l (68 + 16 * i) 12
    | none => []
  let own := decide (bget (dw l sig) 8 8 = 1)
  { kind := draftKind l, raiseFloor := (dw l 4).getLsbD 27, region := draftRegion l,
    dims := (bget (dw l 3) 24 8, bget (dw l 3) 16 8, bget (dw l 3) 8 8), svn := (dw l 5).toNat, build := (dw l 8, dw l 9),
    fmt := (bget (dw l 1) 16 16, bget (dw l 1) 0 16), part := bget (dw l 2) 16 16, base := dws l 16 12, tieupDigest := tie,
    threading := (sectRecs l 1).getD [], tieup := (sectRecs l 2).getD [], treadling := (sectRecs l 3).getD [], plan := (sectRecs l 7).getD [],
    images := (allSects l 4).map (fun w => imageOf w own), nano := (allSects l 5).map nanoImage, patches := allSects l 6,
    signer := bget (dw l sig) 8 8, keyId := dws l (sig + 4) 12 }

-- ===== checks of the contents (R257 to R262, R413) =====

/-- A record section or an image breaks its layout: the fault shows as 0x14, and a reserved bit as 0x01. -/
def formBad (l : List Word) : Bool :=
  [1, 2, 3, 7].any (fun t => match sectRecs l t with
    | some r => r.any (recBad t)
    | none => true)
  || (allSects l 4).any imageBad || (allSects l 5).any nanoBad
  || (allSects l 6).any (fun w => decide (w.length < 2) || (patchOf w.length (w.drop 2)).isNone)

def formRsvd (l : List Word) : Bool :=
  [1, 2, 3, 7].any (fun t => ((sectRecs l t).getD []).any recRsvd)
  || (allSects l 4).any imageRsvd || (allSects l 5).any nanoRsvd
  || (allSects l 6).any (fun w => decide (bget (dw w 0) 0 16 ≠ 0) || decide (bget (dw w 1) 0 24 ≠ 0) || patchRsvd w.length (w.drop 2))

/-- A role as (cluster, role, KIND, channel, IMAGE_ID). -/
def roleOfRec (r : Rec) : Nat × Nat × Nat × Nat × Nat :=
  (r.w0 / 4096, r.w0 / 256 % 16, r.w0 / 32 % 8, bget (rw_ r 1) 26 6, bget (rw_ r 1) 0 16)

def rolesOf (l : List Rec) : List (Nat × Nat × Nat × Nat × Nat) := (recs l 0x10).map roleOfRec

/-- The cluster of a threading record that has one. -/
def recCluster (r : Rec) : Option Nat :=
  if r.code = 0x10 || r.code = 0x11 || r.code = 0x12 || r.code = 0x15 then some (r.w0 / 4096) else none

/-- The clusters of the per-channel roles of channel `c`. -/
def chClusters (l : List Rec) (c : Nat) : List Nat :=
  ((rolesOf l).filter (fun x => decide (x.2.2.1 ≤ 2) && decide (x.2.2.2.1 = c))).map (·.1)

/-- 0x0A: a channel with roles whose shed, ranging/PLOAM and book-keeping roles do not all lie in one cluster. -/
def chSplit (l : List Rec) : Bool :=
  (List.range 64).any (fun c => match chClusters l c with
    | [] => false
    | k :: r => r.any (fun x => decide (x ≠ k))
        || [0, 1, 2].any (fun n => !(rolesOf l).any (fun x => decide (x.2.2.1 = n) && decide (x.2.2.2.1 = c))))

/-- 0x0B: the two channels of a coexistence pair lie in different regions. -/
def pairSplit (l : List Rec) : Bool :=
  (List.range 32).any (fun i => match (chClusters l (2 * i)).head?, (chClusters l (2 * i + 1)).head? with
    | some a, some b => decide (a ≠ b)
    | _, _ => false)

/-- 0x0C: a cluster with roles, or one of the first `n`, without exactly one spare, or a role defined twice. -/
def roleBad (l : List Rec) (n : Nat) : Bool :=
  let rs := rolesOf l
  hasDup (rs.map (fun x => 16 * x.1 + x.2.1))
    || (rs.map (·.1) ++ List.range n).eraseDups.any (fun k => decide ((rs.filter (fun x => decide (x.1 = k) && decide (x.2.2.1 = 6))).length ≠ 1))

/-- 0x0D: a channel with roles, one of the first `nc` channels or one of the first `nl` lanes without a CHANNEL or LANE record, or one with
two (R15). -/
def pipeBad (l : List Rec) (nc nl : Nat) : Bool :=
  let cs := (recs l 0x13).map (fun r => r.w0 / 1024)
  let ls := (recs l 0x14).map (fun r => r.w0 / 2048)
  hasDup cs || hasDup ls || (List.range 64).any (fun c => (decide (c < nc) || !(chClusters l c).isEmpty) && !cs.contains c)
    || (List.range nl).any (fun i => !ls.contains i)

/-- 0x14 of the threading: numbers beyond the die, a BIND that is not listed, an image that is not carried. -/
def State.threadRange (s : State) (l : List Rec) (imgs nanos : List Nat) : Bool :=
  let nc := s.g GLB_PARAM0 GLB_PARAM0_CHANNELS
  let nk := s.g GLB_PARAM0 GLB_PARAM0_CLUSTERS
  let np := s.g GLB_PARAM1 GLB_PARAM1_PIPELINES
  l.any (fun r => match recCluster r with
      | some k => decide (nk ≤ k)
      | none => false)
    || (rolesOf l).any (fun x => (decide (x.2.2.1 ≤ 2) && decide (nc ≤ x.2.2.2.1)) || (decide (x.2.2.1 ≠ 6) && !imgs.contains x.2.2.2.2))
    || (recs l 0x11).any (fun r =>
      let b := bget (rw_ r 1) 12 4
      let i := bget (rw_ r 1) 0 12
      decide (b = 0) || decide (7 < b) || (decide (b ≤ 5) && decide (nc ≤ i)) || (decide (b = 6) && decide (4 ≤ i)) || (decide (b = 7) && decide (8 ≤ i)))
    || (recs l 0x12).any (fun r =>
      let b := bget (rw_ r 1) 12 4
      let i := bget (rw_ r 1) 0 12
      decide (r.w0 / 4 % 64 < 4) || decide (b = 0) || decide (9 < b) || (decide (b = 8) && decide (32 ≤ i)) || (decide (b = 9) && decide (200 ≤ i)))
    || (recs l 0x13).any (fun r => decide (nc ≤ r.w0 / 1024) || decide (np ≤ r.w0 / 128 % 8) || decide (np ≤ r.w0 / 16 % 8))
    || (recs l 0x14).any (fun r => decide (s.g GLB_PARAM0 GLB_PARAM0_UPLINK_LANES ≤ r.w0 / 2048) || decide (np ≤ r.w0 / 256 % 8) || decide (np ≤ r.w0 / 32 % 8))
    || (recs l 0x15).any (fun r => !nanos.contains (bget (rw_ r 1) 16 16))

/-- The first `n` tables of a PIPE_WIRE record. -/
def wireTables (r : Rec) : List Nat :=
  (List.range (r.w0 / 256 % 32)).map (fun i => if i < 8 then bget (rw_ r 1) (4 * i) 4 else bget (rw_ r 2) (4 * (i - 8)) 4)

/-- 0x14 of the tie-up (R42, R259, R273, R277, R286). -/
def State.tieBad (s : State) (l : List Rec) : Bool :=
  let lay := (recs l 0x21).map (fun r => (r.w0 / 4096, bget (rw_ r 1) 16 16, bget (rw_ r 1) 0 16))
  (recs l 0x20).any (fun r => decide (3 ≤ bget (rw_ r 7) 0 3) || decide (13 < r.w0 % 16))
    || (recs l 0x21).any (fun r =>
      let kw := r.w0 % 4
      let bytes := ((List.range 8).map (fun i => bget (rw_ r (2 + i / 2)) (16 * (i % 2)) 5)).sum
      decide (kw = 3) || decide (10 * 2 ^ kw < bytes) || decide (bget (rw_ r 1) 0 16 % 64 ≠ 0)
        || decide (49152 < bget (rw_ r 1) 16 16 + bget (rw_ r 1) 0 16))
    || hasDup (lay.map (·.1))
    || lay.any (fun a => lay.any (fun b => decide (a.1 ≠ b.1) && decide (a.2.1 < b.2.1 + b.2.2) && decide (b.2.1 < a.2.1 + a.2.2)))
    || decide (49152 < (lay.map (·.2.2)).sum)
    || (recs l 0x22).any (fun r =>
      let n := r.w0 / 256 % 32
      decide (s.g GLB_PARAM1 GLB_PARAM1_PIPELINES ≤ r.w0 % 8) || decide (n = 0) || decide (16 < n) || hasDup (wireTables r) || (wireTables r).any (fun t => !(lay.map (·.1)).contains t)
        || decide (800 < bget (rw_ r 4) 20 12) || decide (bget (rw_ r 4) 0 16 = 0) || decide (1024 < bget (rw_ r 4) 0 16))
    || (recs l 0x23).any (fun r => decide (1024 ≤ r.w0))

/-- A REGION record as (kind, index, DPA, bytes). -/
def regionOf (r : Rec) : Nat × Nat × Nat × Nat := (r.w0 % 16, bget (rw_ r 3) 0 8, (rw_ r 1).toNat * 4096, (rw_ r 2).toNat * 4096)

/-- Bytes of a buffer of pool `p`. -/
def poolSize (p : Nat) : Nat := if p % 4 = 0 then 256 else if p % 4 = 1 then 1024 else if p % 4 = 2 then 2560 else 10240

/-- 0x14 of the memory plan (R260, R314, R413). -/
def planBad (l : List Rec) : Bool :=
  let rg := (recs l 0x32).map regionOf
  let pools := (recs l 0x30).map (fun r => (r.w0 % 8, (rw_ r 1).toNat))
  let rings := rg.filter (fun x => decide (x.1 = 1))
  rg.any (fun x => decide (4 < x.1)) || (recs l 0x31).any (fun r => decide (r.w0 % 4 = 3))
    || hasDup (rg.map (fun x => 256 * x.1 + x.2.1)) || hasDup (pools.map (·.1))
    || rg.any (fun a => rg.any (fun b => decide ((a.1, a.2.1) ≠ (b.1, b.2.1)) && decide (a.2.2.1 < b.2.2.1 + b.2.2.2) && decide (b.2.2.1 < a.2.2.1 + a.2.2.2)))
    || decide (167772160 < ((pools.filter (fun p => decide (p.1 < 4))).map (fun p => p.2 * poolSize p.1)).sum)
    || pools.any (fun p => decide (4 ≤ p.1) && decide (p.2 ≠ 0) &&
      !rg.any (fun x => decide (x.1 = 0) && decide (x.2.1 = p.1) && decide (p.2 * poolSize p.1 ≤ x.2.2.2)))
    || rings.any (fun x => decide (5 < x.2.1) || decide (x.2.2.2 % 67108864 ≠ 0) || (decide (x.2.1 = 4) && decide (x.2.2.2 < 276824064)))
    || decide (4398046511104 < (rings.map (·.2.2.2)).sum)

/-- The signer and key of a draft (R262): before enrolment the fused key of Svaora, afterwards the newest enrolled owner's. -/
def State.signerBad (s : State) (l : List Word) : Bool :=
  let own := bget (dw l (sigAt l)) 8 8
  let key := dws l (sigAt l + 4) 12
  match s.cry.owners.getLast? with
  | some o => decide (own ≠ 1) || decide (key ≠ o.1)
  | none => decide (own ≠ 0) || decide (key ≠ (List.range 12).map Config.svaoraKey)

/-- A retired physical shuttle. -/
def State.physRetired (s : State) (p : Nat) : Bool := s.on (unitReg (96 + p)) TMP_UNIT_A_RETIRED

/-- 0x0E of a region draft: a record for another cluster or channel, a CHANNEL record that changes pipelines, a record that a region
draft does not carry (R258, R260, R455). -/
def State.regionBad (s : State) (d : Draft) : Bool :=
  let mine := fun (c : Nat) => (chClusters d.threading c).contains d.region || decide (s.drf.chThread.look c = d.region + 1)
  d.threading.any (fun r => match recCluster r with
      | some k => decide (k ≠ d.region)
      | none => decide (r.code = 0x14) || !mine (r.w0 / 1024) || decide ((r.w0 / 128 % 8, r.w0 / 16 % 8) ≠ s.drf.chPipe.look (r.w0 / 1024)))
    || d.treadling.any (fun r => decide (r.code ≠ 0x40) || !mine (r.w0 % 64))

/-- The threading that a draft leaves: a region draft replaces the records of its cluster, and CHANNEL records stay. -/
def State.threadAfter (s : State) (d : Draft) : List Rec :=
  if d.kind = 1 then
    ((s.drf.running.map (·.threading)).getD []).filter (fun r => decide (recCluster r ≠ some d.region)) ++ d.threading.filter (fun r => (recCluster r).isSome)
  else d.threading

/-- The checks after the signature has been judged (R256 to R263, R265, R269). -/
def State.verifyErr (s : State) (l : List Word) (sigOk : Bool) : Nat :=
  let d := draftOf l
  let th := s.threadAfter d
  let run := s.drf.running
  let imgs := d.images.map (·.id)
  let dims := if d.kind = 1 then (run.map (·.dims)).getD d.dims else d.dims
  firstErr [(s.signerBad l, 0x06), (!sigOk || decide (bget (dw l (sigAt l)) 16 16 ≠ 1), 0x05),
    (decide (d.svn < (s.rd DRF_SVN_FLOOR).toNat), 0x07),
    (formBad l, 0x14), (formRsvd l, 0x01),
    (chSplit th, 0x0A), (pairSplit th, 0x0B), (decide (d.kind ≤ 1) && roleBad th dims.2.1, 0x0C),
    (decide (d.kind ≤ 1) && (pipeBad th dims.1 dims.2.2 || hasDup ((recs d.threading 0x13).map (fun r => r.w0 / 1024))), 0x0D),
    (decide (d.kind = 1) && s.regionBad d, 0x0E),
    (decide (d.kind ≠ 0) && (match run with
      | some r => decide (d.base ≠ r.tieupDigest)
      | none => true), 0x0F),
    (decide (d.kind = 0) && run.isSome && (List.range 64).any (fun c => decide (s.chState c ≠ 0)), 0x10),
    (decide (d.kind = 1) && (List.range 16).any (fun i =>
      s.physRetired (16 * d.region + i) && decide (s.sparePhys d.region ≠ 16 * d.region + i)), 0x12),
    (decide (d.kind ≤ 1) && s.threadRange d.threading imgs (d.nano.map (·.1)), 0x14),
    ((recs d.treadling 0x40).any (fun r => decide (s.g GLB_PARAM0 GLB_PARAM0_CHANNELS ≤ r.w0 % 64)), 0x14),
    (decide (d.kind = 0) && (s.tieBad d.tieup || planBad d.plan), 0x14)]

end Sys2Proof.Machine
end

