-- ==== Sys2Proof/Machine/Audit.lean ====
section
/-! DEFINITION. The ledger audit (R22 to R42): one snapshot of every ledger quantity, and the checks over it. -/
namespace Sys2Proof.Machine

/-- Ledger 1 at the snapshot: a pool's size, its free buffers and those lent (R27). -/
def State.poolSnap (s : State) (p : Nat) : State :=
  let o : State := { s with regs := s.cyc.was.regs }
  let n := (s.cyc.was.bufs.filter (fun e => decide (e.1 / 2 ^ 32 = p))).length
  ((s.p (BPM_AUD p) BPM_AUD_SIZE (o.g (BPM_POOL p) BPM_POOL_COUNT)).p (BPM_AUD p) BPM_AUD_FREE (o.g (BPM_POOL p) BPM_POOL_FREE)).p
    (BPM_AUD p) BPM_AUD_INUSE n

/-- The age in ns of the oldest open entry of a channel. -/
def State.oldestAge (s : State) (c : Nat) : Nat :=
  ((s.ledger.filter (fun e => decide (e.2.channel = c) && decide (e.2.state ≠ 0))).map (fun e => s.now - e.2.sealAt)).foldl max 0

/-- Ledger 2 at the snapshot: entries open, the age of the oldest, and whether it exceeds the bound of R28: two frames and the maximum
round-trip time in force (R150). -/
def State.ledgerSnap (s : State) (c : Nat) : State :=
  let o : State := { s with ledger := s.cyc.was.ledger }
  let a := o.oldestAge c
  let late := decide (250000 + (s.pch.look c).teqd < a)
  ((s.p (SHD_LEDGER_STATE c) SHD_LEDGER_STATE_OPEN (o.used c)).p (SHD_LEDGER_STATE c) SHD_LEDGER_STATE_LATE (b2n late)).wr
    (SHD_LEDGER_OLDEST_AGE c) (word a)

/-- Whether a block can hold or have sent credits: it is out of reset, and not in one (R32, R484). -/
def State.credited (s : State) (n : Nat) : Bool := (s.blks.look n).released && !(s.blks.look n).resetting

/-- The credits of a loop have moved since the last look: which item of work takes how many is not stated, so those in transit and those
held are free, within the loop's size (assumption 9); a loop of a block that is in reset has all of its credits with the sender. -/
def State.creditMove (s : State) (i size : Nat) (both : Bool) : State :=
  let a := s.drawNat
  let b := a.2.drawNat
  let m := a.1 % (size + 1)
  { b.2 with pmc := { b.2.pmc with credits := b.2.pmc.credits.put i (if both then (m, b.1 % (size - m + 1)) else (0, 0)) } }

/-- Ledger 3 at the snapshot (R32, R42): the terms of each loop that the draft defines. -/
def State.loopSnap (s : State) : State :=
  let s := iter 1024 (fun i s => iter 4 (fun w s => s.wr (PMC_AUD_LOOP i + 4 * w) 0) s) s
  (recs s.drf.tieup 0x23).foldl (fun (s : State) r =>
    let i := r.w0 % 1024
    let w := r.rest.getD 0 0
    let size := bget w 0 16
    let s := s.creditMove i size (s.credited (bget w 24 8) && s.credited (bget w 16 8))
    let k := s.pmc.credits.look i
    let a := PMC_AUD_LOOP i
    (((s.wr a w).wr (a + 4) (word (size - k.1 - k.2))).wr (a + 8) (word k.1)).wr (a + 12) (word k.2)) s

/-- A write of SNAP latches every quantity of the ledgers at once, as they stood before the cycle (R35), and starts the checks again (R36,
R38). -/
def State.auditSnap (s : State) : State :=
  let live := (s.cyc.was.regs.filter (fun e => decide (lkey 0 ≤ e.1) && decide (e.1 < lkey 0x10000000) && audited (e.1 - lkey 0))).map
    (fun e => (e.1 - lkey 0, e.2))
  let s := { s with regs := Tab.drop s.regs audited }
  let s := live.foldl (fun (s : State) e => s.wr e.1 e.2) s
  let s := iter 64 (fun c s => s.ledgerSnap c) (iter 8 (fun p s => s.poolSnap p) s)
  let s := s.loopSnap
  let s := s.p PMC_AUDIT_STATUS PMC_AUDIT_STATUS_SNAP_SEQ (s.g PMC_AUDIT_STATUS PMC_AUDIT_STATUS_SNAP_SEQ + 1)
  s.p PMC_AUDIT_STATUS PMC_AUDIT_STATUS_BUSY 1

/-- A write of PMC_AUDIT_CTL. -/
def State.auditWrite (s : State) (v : Word) : State :=
  let s := s.wrRW PMC_AUDIT_CTL v
  if v.getLsbD 0 then s.auditSnap else s

def execAuditSnap (ag : Agent) (v : Word) (s : State) : Out := .next (s.bus ag PMC_AUDIT_CTL (fun s => s.auditWrite v))

/-- The failing instances of ledger j + 1 over the latched values (R27, R32 to R34, R41). -/
def State.auditFails (s : State) (j : Nat) : List Nat :=
  if j = 0 then (List.range 8).filter (fun p =>
    decide (s.g (BPM_AUD p) BPM_AUD_SIZE ≠ s.g (BPM_AUD p) BPM_AUD_FREE + s.g (BPM_AUD p) BPM_AUD_INUSE))
  else if j = 1 then (List.range 64).filter (fun c =>
    decide (s.rd64 (SHD_LEDGER_ISSUED c) ≠ (s.rd64 (SHD_LEDGER_RECEIVED c) + s.rd64 (SHD_LEDGER_ABSENT c) + s.rd64 (SHD_LEDGER_ERRORED c)
      + s.rd64 (SHD_LEDGER_DISCARDED c) + s.g (SHD_LEDGER_STATE c) SHD_LEDGER_STATE_OPEN) % 2 ^ 64)
      || s.on (SHD_LEDGER_STATE c) SHD_LEDGER_STATE_LATE)
  else if j = 2 then (List.range 1024).filter (fun i =>
    let a := PMC_AUD_LOOP i
    decide (s.g a PMC_AUD_LOOP_SIZE ≠ s.g a PMC_AUD_LOOP_AVAIL + s.g a PMC_AUD_LOOP_TRANSIT + s.g a PMC_AUD_LOOP_HELD))
  else if j = 3 then (List.range 163840).filter (fun q =>
    decide (s.rd64 (TMG_AUD_ENQUEUED q) ≠ (s.rd64 (TMG_AUD_DEQUEUED q) + s.rd64 (TMG_AUD_DROPPED q) + s.rd64 (TMG_AUD_RESIDENT q)) % 2 ^ 64))
  else (List.range 8).filter (fun k =>
    decide (s.rd64 (BLT_AUD_PRODUCED k) ≠ (s.rd64 (BLT_AUD_STORED k) + s.rd64 (BLT_AUD_DROPPED k)) % 2 ^ 64))

/-- Report the failing instances of one ledger. -/
def State.auditReport (s : State) (j : Nat) (l : List Nat) : State :=
  let a := PMC_AUDIT_RESULT j
  (s.p a PMC_AUDIT_RESULT_MISMATCHES (min l.length 0xFFF)).p a PMC_AUDIT_RESULT_FIRST (l.headD 0xFFFFF)

/-- The checks end (R36, R39). -/
def State.auditDone (s : State) : State :=
  let fails := (List.range 5).map (fun j => s.auditFails j)
  let s := iter 5 (fun j s => s.auditReport j (fails.getD j [])) s
  let bits := ((List.range 5).map (fun j => if (fails.getD j []).isEmpty then 0 else 2 ^ j)).sum
  let s := if bits = 0 then s else s.event PMC_AUDIT_STATUS bits
  s.p PMC_AUDIT_STATUS PMC_AUDIT_STATUS_BUSY 0

def execAuditChecksDone (s : State) : Out := .next (s.when (s.on PMC_AUDIT_STATUS PMC_AUDIT_STATUS_BUSY) (fun s => s.auditDone))

end Sys2Proof.Machine
end

