-- ==== Sys2Proof/Machine/Burst.lean ====
section
/-! DEFINITION. Upstream burst reception, per-burst measurement, the equaliser memory and the per-ONU defects (chapters 3
and 5). A window is named by the ledger entry of its burst's first grant. -/
namespace Sys2Proof.Machine

/-- The window whose first grant holds ledger entry `g`. -/
def State.win (s : State) (c g : Nat) : Option Win :=
  (s.pch.look c).wins.find? (fun w => decide (w.grants.head?.map (·.1) = some g))

/-- Change a window. -/
def State.setWin (s : State) (c g : Nat) (w : Win) : State :=
  s.updPch c (fun h => { h with wins := h.wins.map (fun x => if x.grants.head?.map (·.1) = some g then w else x) })

/-- The planned end of a window (R90): E + 127, or 64 bits after the granted burst. -/
def Win.planned (w : Win) : Nat := w.e + max 127 (w.len + 64)

/-- The BRST pulse before a window (R90): BRST_WIDTH long, BRST_LEAD before the expected first preamble bit, shortened to start at the
previous window's planned end; none where less than 1.6 ns is left. Times are in bits × 1,250,000, of which 0.8 ns is 8 × the bits per
frame. -/
def State.brstPulse (s : State) (c : Nat) (w : Win) : Option (Int × Int) :=
  let k := s.bpf c
  let p : Int := ((w.e : Int) - w.pre) * 1250000
  let lead := s.g (PCH_PIN_CTL c) PCH_PIN_CTL_BRST_LEAD
  let width := max 2 (s.g (PCH_PIN_CTL c) PCH_PIN_CTL_BRST_WIDTH)
  let start := p - (lead * 8 * k : Nat)
  let stop := start + (width * 8 * k : Nat)
  let prev : Int := (s.pch.look c).lastEnd * 1250000
  if start < prev then (if stop - prev < (16 * k : Nat) then none else some (prev, stop)) else some (start, stop)

/-- Whether a burst has an RSSI pulse (R90): by RSSI_SEL never, always, in ranging and discovery windows, or one burst in 2^RSSI_K, the
first of each such run (assumption 75). -/
def State.rssiWanted (s : State) (c : Nat) (w : Win) : Bool :=
  let m := s.g (PCH_PIN_CTL c) PCH_PIN_CTL_RSSI_SEL
  if m = 0 then false else if m = 1 then true else if m = 2 then w.rng
  else decide ((s.pch.look c).rssiRun % 2 ^ s.g (PCH_PIN_CTL c) PCH_PIN_CTL_RSSI_K = 0)

/-- The RSSI pulse of a burst (R90): from RSSI_DELAY after its expected first preamble bit, RSSI_WIDTH long. -/
def State.rssiPulse (s : State) (c : Nat) (w : Win) : Int × Int :=
  let a := ((w.e : Int) - w.pre) * 1250000 + (s.g (PCH_PIN_CTL c) PCH_PIN_CTL_RSSI_DELAY * 8 * s.bpf c : Nat)
  (a, a + (s.g (PCH_PIN_CTL2 c) PCH_PIN_CTL2_RSSI_WIDTH * 8 * s.bpf c : Nat))

/-- At E − 64 − P the entry is preloaded, as stored now, the pins pulse, and the window opens with the search settings of now (R84, R86,
R90, R122, R146). -/
def execWindowOpen (c : Fin 64) (g : Fin 4096) (s : State) : Out :=
  .next (match s.win c g with
    | none => s
    | some w =>
      if w.opened then s
      else
        let a := PCH_EQ c w.entry
        let w' := { w with opened := true, openIn := s.rd64 (DSF_SFC c), stale := s.on a PCH_EQ_STALE || decide (w.entry = 260), validPre := s.on a PCH_EQ_VALID,
                           stored := (List.range 8).map (fun i => s.rd (a + 4 * i)), maxErr := s.g (PCH_BRX_SEARCH c) PCH_BRX_SEARCH_DELIM_MAX_ERR }
        let b := s.brstPulse c w
        let r := if s.rssiWanted c w then some (s.rssiPulse c w) else none
        let s := s.when b.isNone (fun s => s.inc (BRX_BRST_SKIP c))
        let s := s.when (decide (w.slot < 256)) (fun s => s.updSlot c w.slot (fun h =>
          { h with tail := atLeast1 (s.g (PCH_BRX_SEARCH c) PCH_BRX_SEARCH_ROGUE_TAIL), lastRecv := false }))
        (s.setWin c g w').updPch c (fun h => { h with
          sawWindow := true, lastEnd := w.planned, brst := if b.isNone then h.brst else b, rssi := if r.isNone then h.rssi else r,
          rssiRun := h.rssiRun + 1 }))

/-- A match qualifies: in the search range, near enough, and after preamble lock (R123). -/
def Win.qualifies (w : Win) (m : MatchObs) : Bool :=
  decide (w.lo ≤ m.pos) && decide (m.pos ≤ w.hi) && decide (m.dist ≤ w.maxErr) && (match m.lockAt with
    | some l => decide (l < m.pos)
    | none => false)

/-- A later match makes a burst of the window ambiguous: anywhere in the range, in a discovery window within 128 bits of the winner
(R124). -/
def Win.ambigWith (w : Win) (a b : MatchObs) : Bool := !w.disc || decide ((b.pos - a.pos).natAbs ≤ 128)

/-- Count an ambiguous delimiter once per burst (R124). -/
def State.ambigEvent (s : State) (c : Nat) (was : Bool) : State :=
  if was then s else (s.inc (BRX_AMBIG c)).ev (PCH_BRX_STATUS c) PCH_BRX_STATUS_AMBIG

/-- A match near a further answer of a quiet window: the earlier match is the answer's, and it is ambiguous. -/
def Ans.again (a : Ans) (m : MatchObs) : Ans := { a with hit := if m.pos < a.hit.pos then m else a.hit, ambig := true }

/-- A match at a place of its own in a quiet window: an answer where it starts at least 128 bits after the end of the previous one, up to
four of them (R155). -/
def State.furtherAnswer (s : State) (c g : Nat) (w : Win) (x m : MatchObs) : State :=
  let last := ((w.extra.getLast?.map (·.hit)).getD x).pos
  if last + w.len + 128 ≤ m.pos && decide (w.extra.length < 3) then
    (s.setWin c g { w with extra := w.extra ++ [{ (default : Ans) with hit := m }] }).inc (BRX_BURSTS c)
  else s

/-- A delimiter match at the ADC (R111, R123, R124, R155): the earliest qualified match wins, a second sets AMBIG; in a quiet window
a match at least 128 bits after the end of the previous answer is an answer of its own, up to four. -/
def execDelimiterQualified (c : Fin 64) (g : Fin 4096) (m : MatchObs) (s : State) : Out :=
  .next (match s.win c g with
    | none => s
    | some w =>
      if !w.opened || w.lost || !w.qualifies m then s
      else match w.hit with
        | none => (s.setWin c g { w with hit := some m }).inc (BRX_BURSTS c)
        | some x =>
          if w.ambigWith x m then
            (s.setWin c g { w with hit := some (if m.pos < x.pos then m else x), ambig := true }).ambigEvent c w.ambig
          else match w.extra.find? (fun a => w.ambigWith a.hit m) with
            | some a => (s.setWin c g { w with extra := w.extra.map (fun b => if b = a then a.again m else b) }).ambigEvent c a.ambig
            | none => s.furtherAnswer c g w x m)

/-- The burst releases data: its first codeword, header and ONU-ID all check (R128, R129). -/
def Win.released (w : Win) : Bool := w.firstSeen && w.firstOk && !w.hdrFail && !w.foreign

/-- The Alloc-ID of a grant of a window. -/
def Win.allocOf (w : Win) (i : Nat) : Nat := match w.grants.find? (fun x => decide (x.1 = i)) with
  | some x => x.2.allocId
  | none => 0

/-- The allocation entry of a grant of a window. -/
def Win.allocEntry (w : Win) (i : Nat) : Nat := match w.grants.find? (fun x => decide (x.1 = i)) with
  | some x => x.2.entry
  | none => 0

/-- One event of rogue evidence against a slot; those of the last second are kept (R142, R143). -/
def State.rogueEvidence (s : State) (c i : Nat) : State :=
  s.updSlot c i (fun h => { h with rogueAt := h.rogueAt.filter (fun t => decide (s.now - t < 1000000000)) ++ [s.now] })

/-- A shed input entry of the receiver (R183). -/
def inEntry (type : Nat) (g : Grant) (frame data : Nat) : InEntry :=
  ⟨word (type * 2 ^ 29 + (if g.bcast then 2 ^ 16 else g.entry * 2 ^ 17) + g.allocId), word frame, word data, 0⟩

/-- The four bytes of an inverted FCS (R362): a frame that ends in them fails its check everywhere. -/
def poison (b : List Byte) : List Byte := b ++ (wordBytes (crc32 b)).map (fun x => x ^^^ 0xFF)

/-- A whole upstream Ethernet frame leaves CRY for the channel's pipeline (R135, R271): one of more than 10,240 bytes is refused at
delineation. -/
def State.upFrame (s : State) (c : Nat) (w : Win) (i port : Nat) (b : List Byte) : State :=
  if 10240 < b.length then s
  else s.pipeIn (s.drf.chPipe.look c).1 ⟨32 + c, port, w.allocEntry i, w.frame, b, s.t64, none⟩

/-- Keep the first fragments of a frame (R136). -/
def State.fragKeep (s : State) (c a : Nat) (f : Option Frag) : State := s.updPch c (fun h => { h with frags := h.frags.put a f })

/-- How many XGEM frames the ONU of a window has sent in its upstream frame before the next (R358). -/
def State.upOrdinal (s : State) (c : Nat) (w : Win) : Nat :=
  let o := (s.slot c w.slot).upOrd
  if o.1 = w.frame then o.2 else 0

/-- An item of a burst is past: the bytes it took, and of an XGEM frame its place among those of its ONU (R352, R358). -/
def State.itemPast (s : State) (c g : Nat) (it : CwItem) : State := match s.win c g with
  | none => s
  | some w => match it with
    | .xgem _ _ _ _ _ b =>
      (s.setWin c g { w with xpos := w.xpos + 8 + b.length }).updSlot c w.slot (fun h => { h with upOrd := (w.frame, s.upOrdinal c w + 1) })
    | .idle _ n => s.setWin c g { w with xpos := w.xpos + n }
    | .dbru .. => s.setWin c g { w with xpos := w.xpos + 4 }
    | .ploam => s.setWin c g { w with xpos := w.xpos + 48 }

/-- An XGEM frame or fragment delivered to CRY (R135, R136, R362): appended to what the frame's earlier fragments brought; a whole frame
goes on. In store-and-verify one failing tag drops the frame with every further fragment; in cut-through the frame ends with the failed
fragment and a poisoned FCS, and what follows of it is dropped. -/
def State.upFragment (s : State) (c : Nat) (w : Win) (i port idx : Nat) (last : Bool) (b : List Byte) : State :=
  let a := w.allocOf i
  let old := ((s.pch.look c).frags.look a).getD ⟨port, [], false⟩
  let x : UpX := ⟨port, idx, xgemHeader b.length idx port last, w.frame, w.e, w.xpos, s.upOrdinal c w, b⟩
  let s := s.fragKeep c a none
  if old.bad then s.when (!last) (fun s => s.fragKeep c a (some old))
  else
    let r := s.cryUp c w.slot x
    let all := old.bytes ++ r.2.2
    let s := if r.2.1 = 0 then (if last then r.1.upFrame c w i port all else r.1)
      else if r.2.1 = 2 then r.1.upFrame c w i port (poison all) else r.1
    s.when (!last) (fun s => s.fragKeep c a (some ⟨port, all, decide (r.2.1 ≠ 0)⟩))

/-- The first XGEM frame of a grant in this burst (R136): a fragment that waits is discarded unless `port` continues it. -/
def State.fragFirst (s : State) (c g : Nat) (w : Win) (i : Nat) (port : Option Nat) : State :=
  if w.gFirst.look i then s
  else
    let a := w.allocOf i
    let s := s.setWin c g { w with gFirst := w.gFirst.put i true }
    match (s.pch.look c).frags.look a with
    | some f => if port = some f.port then s else s.fragDrop c a
    | none => s

/-- A DBRu of a grant that asked for one (R131). -/
def State.upDbru (s : State) (c g : Nat) (w : Win) (x : Nat × Grant) (good : Bool) (occ : BitVec 24) : State :=
  if !x.2.dbru then s
  else if good then
    (s.setWin c g { w with dbruRes := w.dbruRes.put x.1 1 }).inqObs c (inEntry 0 x.2 w.frame occ.toNat) (SHD_REPORTS c)
  else (s.setWin c g { w with dbruRes := w.dbruRes.put x.1 2, dbruBad := w.dbruBad + 1 }).inc (BRX_DBRU_BAD c)

/-- An XGEM frame of the port-ID `port` with a good header (R134, R140). -/
def State.upXgem (s : State) (c g : Nat) (w : Win) (i port idx : Nat) (last : Bool) (b : List Byte) : State :=
  let p := CRY_PORT (4096 * c + port)
  if !s.on (TMG_PID (4096 * c + port)) TMG_PID_VALID then s.inc (BRX_PORT_UNKNOWN c)
  else if s.on p CRY_PORT_MCAST || decide (s.g p CRY_PORT_SLOT ≠ w.slot) then s.inc (BRX_PORT_FOREIGN c)
  else
    let n := b.length
    let s := s.setWin c g { w with gBytes := w.gBytes.upd i (· + n), bytes := w.bytes + n }
    ((s.bwAdd c (PMC_BW_US_BYTES c) n).chBytes c 106 n).upFragment c w i port idx last b

/-- Mark that the allocation of a grant carried something else than idle XGEM frames. -/
def State.upData (s : State) (c g : Nat) (i : Nat) (ended : Bool) : State := match s.win c g with
  | some w => s.setWin c g { w with gData := w.gData.put i true, gEnded := w.gEnded.put i (ended || w.gEnded.look i),
                                    hecFail := w.hecFail + b2n ended }
  | none => s

/-- Release one item of a codeword of a RECEIVED burst (R131 to R136); `ok` says whether the codeword was correctable. -/
def State.release (s : State) (c g : Nat) (ok : Bool) (it : CwItem) : State :=
  match s.win c g with
  | none => s
  | some w =>
    match it with
    | .dbru i crcOk occ => (match w.grants.find? (fun x => decide (x.1 = i)) with
      | some x => s.upDbru c g w x (ok && crcOk) occ
      | none => s)
    | .xgem i port hecOk idx last b =>
      if w.gEnded.look i then s
      else if !ok then (s.fragFirst c g w i none).upData c g i false
      else if !hecOk then ((s.fragFirst c g w i none).upData c g i true).inc (BRX_XGEM_HEC_FAIL c)
      else
        let s := (s.fragFirst c g w i (some port)).upData c g i false
        (match s.win c g with
        | some w => s.upXgem c g w i port idx last b
        | none => s)
    | .idle i n =>
      if !ok || w.gEnded.look i then s
      else
        let s := s.fragFirst c g w i none
        (match s.win c g with
        | some w => s.setWin c g { w with gIdle := w.gIdle.upd i (· + n) }
        | none => s)
    | .ploam => if ok then s else s.inc (BRX_PLOAM_LOST c)

/-- An item of a codeword of a burst that releases nothing (R129, R133): a PLOAM in an uncorrectable codeword is counted. -/
def State.releaseNot (s : State) (c : Nat) (ok : Bool) (it : CwItem) : State := match it with
  | .ploam => if ok then s else s.inc (BRX_PLOAM_LOST c)
  | _ => s

/-- The burst header in the first codeword (R128, R143): a foreign header is rogue evidence against the ONU it names. -/
def State.burstHeader (s : State) (c g : Nat) (w : Win) (h : Bool × Nat × Bool) : State :=
  let frn := h.1 && !w.disc && decide (h.2.1 ≠ w.slot)
  let s := s.setWin c g { w with hdrFail := !h.1, foreign := frn, dg := h.1 && h.2.2 }
  let s := s.when (!h.1) (fun s => s.inc (BRX_HDR_FAIL c))
  s.when frn (fun s =>
    let s := (s.inc (BRX_FOREIGN_HDR c)).ev (PCH_BRX_STATUS c) PCH_BRX_STATUS_FOREIGN_HDR
    let st := s.slotState c h.2.1
    s.when (decide (h.2.1 < 256) && decide (st ≠ 0) && decide (st ≠ 5)) (fun s => s.rogueEvidence c h.2.1))

/-- A codeword of the window's burst (R127 to R136): the first one decides whether the burst releases anything. -/
def State.burstCodeword (s : State) (c g : Nat) (w : Win) (cw : CwObs) : State :=
  let ok := cw.correctable || !w.fec
  let w' := { w with cwTotal := w.cwTotal + 1, cwFail := w.cwFail + b2n (!ok), corr := w.corr + (if ok then cw.corrected else 0),
                     firstSeen := true, firstOk := if w.firstSeen then w.firstOk else ok }
  let s := s.setWin c g w'
  let s := match w.firstSeen, cw.hdr with
    | false, some h => if ok then s.burstHeader c g w' h else s
    | _, _ => s
  match s.win c g with
  | some w2 => cw.items.foldl (fun s it => (if w2.released then s.release c g ok it else s.releaseNot c ok it).itemPast c g it) s
  | none => s

/-- A codeword of a further answer of a quiet window (R155): a burst of its own; the broadcast grant carries no XGEM frame. -/
def State.answerCodeword (s : State) (c g : Nat) (w : Win) (cw : CwObs) : State := match w.extra[cw.answer - 1]? with
  | none => s
  | some a =>
    let ok := cw.correctable || !w.fec
    let hdr := if a.firstSeen || !ok then none else cw.hdr
    let bad := match hdr with
      | some h => !h.1
      | none => false
    let a' := { a with cwTotal := a.cwTotal + 1, cwFail := a.cwFail + b2n (!ok), corr := a.corr + (if ok then cw.corrected else 0),
                       firstSeen := true, firstOk := if a.firstSeen then a.firstOk else ok, hdrFail := a.hdrFail || bad,
                       dg := a.dg || (match hdr with
                         | some h => h.1 && h.2.2
                         | none => false) }
    let s := s.setWin c g { w with extra := w.extra.set (cw.answer - 1) a' }
    let s := s.when bad (fun s => s.inc (BRX_HDR_FAIL c))
    cw.items.foldl (fun s it => s.releaseNot c ok it) s

/-- A codeword is decoded (R127, R155). -/
def execBurstCodewordDecoded (c : Fin 64) (g : Fin 4096) (cw : CwObs) (s : State) : Out :=
  .next (match s.win c g with
    | none => s
    | some w =>
      if w.hit.isNone || decide (w.extra.length < cw.answer) then s
      else
        let s := s.inc (BRX_CW_TOTAL c)
        let s := s.when (!(cw.correctable || !w.fec)) (fun s => s.inc (BRX_CW_FAIL c))
        if cw.answer = 0 then s.burstCodeword c g w cw else s.answerCodeword c g w cw)

-- ===== the window's end =====

/-- The outcome of a window (R128): 0 RECEIVED, 1 ABSENT, 2 ERRORED. -/
def Win.outcome (w : Win) : Nat := if w.hit.isNone then 1 else if w.released then 0 else 2

/-- ARRIVAL of a burst in 1/64 bit (R139). -/
def Win.arrival (w : Win) (m : BurstMeas) : Int := match w.hit with
  | some h => h.pos * 64 + m.phase64
  | none => 0

/-- FFE tap `i` of the preloaded entry, as a 10-bit field. -/
def Win.tap (w : Win) (i : Nat) : Nat := bget (w.stored.getD (i / 3 + 1) 0) (20 - 10 * (i % 3)) 10

/-- FFE tap `i` after a burst (R83): with a limiting module output the FFE is bypassed but for its centre tap, so the others keep their
values. -/
def Win.tapAfter (w : Win) (m : BurstMeas) (linear : Bool) (i : Nat) : Nat := if linear || i = 7 then (m.taps.getD i 0).toNat else w.tap i

/-- The adapted entry words of a burst (R83, R85): VALID, phase, DFE, gain and the 15 taps. -/
def adaptedWords (w : Win) (m : BurstMeas) (linear : Bool) : List Word :=
  let t := w.tapAfter m linear
  [word (2 ^ 31 + m.phase.toNat * 2 ^ 24 + m.dfe.toNat * 2 ^ 16 + m.gain.toNat * 2 ^ 11)]
    ++ (List.range 5).map (fun w => word (t (3 * w) * 2 ^ 20 + t (3 * w + 1) * 2 ^ 10 + t (3 * w + 2)))

/-- Adapted minus stored phase, in 1/64 bit. -/
def Win.phaseDelta (w : Win) (m : BurstMeas) : Int := (m.phase.toNat : Int) - bget (w.stored.getD 0 0) 24 6

/-- The sum of the magnitudes of the tap changes (R139). -/
def Win.tapDelta (w : Win) (m : BurstMeas) (linear : Bool) : Nat :=
  min 2047 (((List.range 15).map (fun i => (sext 10 (w.tapAfter m linear i) - sext 10 (w.tap i)).natAbs)).sum
    + (sext 8 m.dfe.toNat - sext 8 (bget (w.stored.getD 0 0) 16 8)).natAbs)

/-- Energy after a burst's end (R143): above the threshold for more than ROGUE_TAIL bits past the window's end. -/
def State.tailSeen (s : State) (c : Nat) (m : BurstMeas) : Bool :=
  decide (s.energyThresh c < m.tail.2) && decide (atLeast1 (s.g (PCH_BRX_SEARCH c) PCH_BRX_SEARCH_ROGUE_TAIL) < m.tail.1)

/-- The measurement descriptor of a burst (R139). -/
def State.descriptor (s : State) (c : Nat) (w : Win) (m : BurstMeas) (o : Nat) : List Word :=
  let g := w.grants.head?.getD (0, ⟨0, 0, 0⟩)
  let pw := sext 16 (m.power.toNat % 65536) + sext 16 (s.g (PCH_BRX_PWR_CAL c) PCH_BRX_PWR_CAL_PWR_CAL)
  let lin := s.on (PCH_BRX_CTL c) PCH_BRX_CTL_LINEAR
  [word (g.1 * 2 ^ 20 + o * 2 ^ 18 + w.entry * 2 ^ 9 + b2n w.ambig * 256 + b2n w.clipped * 128 + b2n w.stale * 64 + b2n w.foreign * 32
      + b2n w.dg * 16 + b2n (s.tailSeen c m) * 8 + b2n (!w.fec) * 4 + b2n w.hdrFail * 2),
   word (g.2.allocId * 2 ^ 18 + w.frame % 2 ^ 18),
   word (toBits 14 (w.arrival m) * 2 ^ 18 + min m.lock 0x3FF * 2 ^ 8 + toBits 8 (clampI 127 (w.phaseDelta m))),
   word (toBits 16 pw * 2 ^ 16 + m.gain.toNat * 2 ^ 11 + w.tapDelta m lin),
   word (min w.corr 0xFFFFF * 2 ^ 12 + w.cwTotal % 4096),
   word (w.cwFail % 4096 * 2 ^ 20 + min w.bytes 0xFFFFF), m.delimNs,
   word (min w.grants.length 255 * 2 ^ 24 + min w.dbruBad 255 * 2 ^ 16 + min w.hecFail 255 * 2 ^ 8)]

/-- A further answer of a quiet window as a burst of its own (R155): the window with the answer's match and decode, and no data. -/
def Win.answer (w : Win) (a : Ans) : Win :=
  { w with hit := some a.hit, ambig := a.ambig, hdrFail := a.hdrFail, foreign := false, dg := a.dg, firstSeen := a.firstSeen,
           firstOk := a.firstOk, cwTotal := a.cwTotal, cwFail := a.cwFail, corr := a.corr, hecFail := 0, dbruBad := 0, bytes := 0 }

/-- The descriptor of a further answer (R139, R155), with its measurement; without one it has no measurement fields. -/
def State.extraAnswer (s : State) (c : Nat) (w : Win) (a : Ans × Option BurstMeas) : State :=
  let x := w.answer a.1
  s.postMeas c (match a.2 with
    | some m => s.descriptor c x m x.outcome
    | none => x.bare (x.grants.head?.getD (0, ⟨0, 0, 0⟩)) x.outcome)

/-- Set STALE in an entry, and move the ONU to profile 1 (R87, R171, R172). -/
def State.markStale (s : State) (c i : Nat) : State :=
  let s := s.p (PCH_EQ c i) PCH_EQ_STALE 1
  if i < 256 then (s.p (RNG_ONU c i) RNG_ONU_PROF 1).updSlot c i (fun h => { h with clean := 0 }) else s

/-- A shuttle sets STALE in an entry (R85, R87). -/
def State.shuttleStale (s : State) (c i : Nat) : State := (s.markStale c i).eqTouch c i

/-- STALE of a burst's entry by its lock time and phase (R87); LOCK is in 0.25 ns, so 20 ns is 80. A jump of the phase sets it although the
burst locked within 20 ns, where another sentence clears it (assumption 76). -/
def State.eqStale (s : State) (c : Nat) (w : Win) (m : BurstMeas) : State :=
  let jump := w.validPre && decide (16 < (w.phaseDelta m).natAbs)
  if decide (80 < m.lock) || jump then s.markStale c w.entry else s.p (PCH_EQ c w.entry) PCH_EQ_STALE 0

/-- The equaliser memory at the end of a burst that is not ABSENT (R83, R85, R87): a RECEIVED burst's adapted values are written back,
unless the entry was written meanwhile; then STALE follows. Entry 260 and a memory that is off stay as they are. -/
def State.eqBack (s : State) (c : Nat) (w : Win) (m : BurstMeas) (received : Bool) : State :=
  if w.entry = 260 || !s.on (PCH_BRX_CTL c) PCH_BRX_CTL_EQ_MEM_EN then s
  else
    let l := if received && !w.noWriteBack then adaptedWords w m (s.on (PCH_BRX_CTL c) PCH_BRX_CTL_LINEAR) else []
    (l.zipIdx.foldl (fun s e => s.wr (PCH_EQ c w.entry + 4 * e.2) e.1) s).eqStale c w m

/-- The shuttle copies an undertone entry 256 + j to a slot's entry and frees it (R163): the slot's next bursts preload its own. -/
def State.adoptEntry (s : State) (c w i : Nat) : State :=
  let s := iter 8 (fun k s => s.wr (PCH_EQ c i + 4 * k) (s.rd (PCH_EQ c w + 4 * k))) s
  (((s.p (PCH_EQ c w) PCH_EQ_VALID 0).eqTouch c i).eqTouch c w).updSlot c i (fun h => { h with vEntry := i })

/-- Raise DG at once (R142): one burst, or a dying-gasp PLOAM. -/
def State.dgRaise (s : State) (c i : Nat) : State :=
  (s.onuRaise c i ((s.pch.look c).permBlank || (s.pch.look c).blankMute) PCH_ONU_DEF_DG_LIVE PCH_ONU_DEF_DG).1.updSlot c i (fun h => { h with dgRun := 0 })

/-- Clear LOB and LODS on a RECEIVED grant (R142, R173): LODS gives the slot back to OPERATION, also one that it took from RERANGE
(assumption 77); no CAP_QUERY is sent again (assumption 78). -/
def State.lobClear (s : State) (c i : Nat) : State :=
  let back := s.on (PCH_ONU_DEF c i) PCH_ONU_DEF_LODS_LIVE && decide (s.slotState c i = 4) && (s.slot c i).byLods
  let lob := s.on (PCH_ONU_DEF c i) PCH_ONU_DEF_LOB_LIVE
  let s := s.onuClear c i PCH_ONU_DEF_LODS_LIVE PCH_ONU_DEF_LODS
  let s := s.onuClear c i PCH_ONU_DEF_LOB_LIVE PCH_ONU_DEF_LOB
  let s := s.when back (fun s => s.p (RNG_ONU c i) RNG_ONU_STATE 2)
  s.updSlot c i (fun h => { h with absRun := 0, byLods := h.byLods && !back, pendRaise := 0, takenOver := false,
                                   lobEnd := if lob then some s.now else h.lobEnd })

/-- The thresholds of an ONU's defects (R146): those of its latest grant closure; before its first, those of the register. -/
def State.defCtl (s : State) (c i : Nat) : Word := ((s.slot c i).defCtl).getD (s.rd (PCH_BRX_DEF_CTL c))

/-- A field of the thresholds, of which 0 acts as 1. -/
def State.defLim (s : State) (c i : Nat) (f : Fld) : Nat := atLeast1 (bget (s.defCtl c i) f.lo f.w)

/-- A blanking window of R94 or R464 holds off LOB and LODS of a channel. -/
def Pch.blankOnu (h : Pch) : Bool := h.blankDef || h.blankMute

/-- Integrate one grant's outcome for its ONU (R142, R144, R146): the thresholds as now written apply from here on, and a raise that a
blanking window held off may be made. -/
def State.onuGrant (s : State) (c i o : Nat) : State :=
  if 256 ≤ i then s
  else
    let s := s.updSlot c i (fun h => { h with defCtl := some (s.rd (PCH_BRX_DEF_CTL c)),
                                              pendRaise := if (s.pch.look c).blankOnu then h.pendRaise else 0 })
    if o = 0 then s.lobClear c i
    else if o = 1 then s.updSlot c i (fun h => { h with absRun := h.absRun + 1 })
    else if o = 2 then s.updSlot c i (fun h => { h with absRun := 0 })
    else s

/-- The drift limit in whole bits (R142). -/
def State.driftLim (s : State) (c i : Nat) : Nat := min 63 (s.defLim c i PCH_BRX_DEF_CTL_DRIFT_LIM)

/-- Integrate a RECEIVED burst for its ONU (R142, R172): of the bursts with STALE clear, one that itself clears it is not yet one (assumption
79). -/
def State.onuBurst (s : State) (c i : Nat) (w : Win) (m : BurstMeas) : State :=
  if 256 ≤ i then s
  else
    let arr := (w.arrival m).natAbs
    let lim := s.driftLim c i * 64
    let s := if w.dg then s.dgRaise c i else s.updSlot c i (fun h => { h with dgRun := h.dgRun + 1 })
    let fit := decide (m.lock ≤ 80) && !s.on (PCH_EQ c w.entry) PCH_EQ_STALE
    s.updSlot c i (fun h => { h with
      driftHi := if lim < arr then h.driftHi + 1 else 0, driftLo := if 2 * arr ≤ lim then h.driftLo + 1 else 0,
      lastArr := w.arrival m, lastRecv := true, clean := if fit then h.clean + 1 else 0 })

/-- Close one grant of an ending window (R128, R132, R137, R140, R191). -/
def State.endGrant (s : State) (c : Nat) (w : Win) (o : Nat) (x : Nat × Grant) : State :=
  let i := x.1
  let bytes := if o = 0 then w.gBytes.look i else 0
  let idle := decide (o = 0) && !w.gData.look i && decide (w.gIdle.look i ≠ 0)
  let dbru := if o = 0 && x.2.dbru && w.dbruRes.look i = 1 then 1 else x.2.dbruLost
  let s := s.fixEntry i o (dbru * 2 + b2n idle, word bytes)
  let s := s.postClose c (word (i * 2 ^ 20 + o * 2 ^ 18 + dbru * 2 ^ 16 + b2n idle * 2 ^ 15 + x.2.allocId)) (word bytes)
  let s := s.when (decide (o = 1)) (fun s => (s.postMeas c (w.bare x 1)).inqObs c (inEntry 2 x.2 w.frame 0) (SHD_ABSENT_OBS c))
  let s := s.when idle (fun s => s.inqObs c (inEntry 1 x.2 w.frame (w.gIdle.look i)) (SHD_IDLE_OBS c))
  let s := s.when (decide (o = 0) && !idle && !x.2.bcast && decide (s.al c x.2.entry SHD_ALLOC_DBRU = 0)) (fun s =>
    s.monitor c x.2.entry w.frame (x.2.size * (unitBits (s.pch.look c).mode / 8)) (w.gIdle.look i))
  let s := s.when (decide (o ≠ 0) || !w.gFirst.look i) (fun s => s.fragDrop c x.2.allocId)
  s.onuGrant c w.slot o

/-- A channel without the window whose first grant holds ledger entry `g`. -/
def Pch.dropWin (h : Pch) (g : Nat) : Pch := { h with wins := h.wins.filter (fun x => !decide (x.grants.head?.map (·.1) = some g)) }

/-- A window ends (R93, R125, R128, R155): never before the first codeword of a matched burst, and of each further answer, is decoded. -/
def execWindowEnd (c : Fin 64) (g : Fin 4096) (m : WindowMeas) (s : State) : Out :=
  .next (match s.win c g with
    | none => s
    | some w =>
      if !w.opened || (w.hit.isSome && !w.firstSeen) || w.extra.any (fun a => !a.firstSeen) then s
      else
        let o := w.outcome
        let lit := decide (s.energyThresh c < m.burst.energy)
        let n := s.rd64 (DSF_SFC c)
        let s := s.updPch c (fun h => (h.dropWin g).windowOver n w.openIn lit)
        let s := w.grants.foldl (fun s x => s.endGrant c w o x) s
        let s := s.when (decide (o = 0)) (fun s => s.onuBurst c w.slot w m.burst)
        let s := s.when (decide (o ≠ 1)) (fun s => s.postMeas c (s.descriptor c w m.burst o))
        let s := w.extra.zipIdx.foldl (fun s x => s.extraAnswer c w (x.1, m.more[x.2]?)) s
        let s := s.when (decide (o = 0) || decide (o = 2)) (fun s => s.eqBack c w m.burst (decide (o = 0)))
        let s := s.when w.disc (fun s => (s.p (RNG_STATUS c) RNG_STATUS_QW_ACTIVE 0).updRng c (fun r => { r with qwBooked := false }))
        s.when (decide (o = 0) && decide (256 ≤ w.entry) && decide (w.entry < 260)) (fun s => s.adoptEntry c w.entry w.slot))

/-- A write to a word of the equaliser memory (R85, R87): it stands, and a burst of the entry in progress is not written
back; a written STALE moves the ONU to profile 1. An entry of a held channel stays not VALID (R508). -/
def State.eqWrite (s : State) (c i w : Nat) (v : Word) : State :=
  let s := (s.wrRW (PCH_EQ c i + 4 * w) v).eqTouch c i
  let s := s.when ((s.pch.look c).protHeld && decide (w = 0)) (fun s => s.p (PCH_EQ c i) PCH_EQ_VALID 0)
  if w = 0 && v.getLsbD 30 then s.markStale c i else s

def execEqEntryWrite (ag : Agent) (c : Fin 64) (i : Fin 261) (w : Fin 8) (v : Word) (s : State) : Out :=
  .next (s.bus ag (PCH_EQ c i + 4 * w.val) (fun s => s.eqWrite c i w v))

/-- Energy past the window end of a RECEIVED burst, without a break (R143, R162): evidence against the ONU of `slot`, whose latest window
closed RECEIVED, where it lasts more than ROGUE_TAIL bits, by the setting with which the window opened (R146). -/
def execTailEnergy (c : Fin 64) (slot : Fin 256) (m : TailMeas) (s : State) : Out :=
  let h := s.slot c slot
  .next (s.when (h.lastRecv && decide (h.tail < m.bits) && decide (s.energyThresh c < m.rms)) (fun s =>
    (s.updSlot c slot (fun h => { h with lastRecv := false })).rogueEvidence c slot))

/-- Energy that meets no window (R143, R162); in listen mode it makes the frame lit (R507). -/
def execOowEnergy (m : OowMeas) (s : State) : Out :=
  .next (s.when (decide (s.energyThresh m.c < m.rms)) (fun s =>
    if (s.pch.look m.c).protHeld then s.updPch m.c (fun h => { h with litSecond := true, sawWindow := true, sawEnergy := true })
    else ((s.inc (BRX_OOW_ENERGY m.c)).ev (PCH_BRX_STATUS m.c) PCH_BRX_STATUS_OOW_ENERGY).updRng m.c
    (fun r => { r with oowAt := r.oowAt.filter (fun t => decide (s.now - t < 1000000000)) ++ [s.now], probeEnergy := true })))

-- ===== per-ONU defects (R142, R173 to R175) =====

/-- Whether LOB has held for LODS_MS (R142). -/
def State.lodsDue (s : State) (c i : Nat) : Bool :=
  decide ((s.slot c i).lobAt + s.defLim c i PCH_BRX_DEF_CTL_LODS_MS * 1000000 ≤ s.now)

/-- LODS once LOB has held for LODS_MS without a break; the slot goes to LOST (R142, R173). Where a RECEIVED outcome of the same cycle has
just cleared LOB, the clear wins, and the event bit is set once (R145). -/
def execOnuLodsRaise (c : Fin 64) (slot : Fin 256) (s : State) : Out :=
  .next (s.when (s.lodsDue c slot) (fun s =>
    if s.on (PCH_ONU_DEF c slot) PCH_ONU_DEF_LOB_LIVE then
      let r := s.onuRaise c slot (s.pch.look c).blankOnu PCH_ONU_DEF_LODS_LIVE PCH_ONU_DEF_LODS
      let st := s.slotState c slot
      r.1.when (r.2 && (decide (st = 2) || decide (st = 3))) (fun s =>
        ((s.p (RNG_ONU c slot) RNG_ONU_STATE 4).p (RNG_ONU c slot) RNG_ONU_PENDING 0).updSlot c slot
          (fun h => { h with byLods := true, step := false }))
    else s.when (decide ((s.slot c slot).lobEnd = some s.now)) (fun s =>
      (s.ev (PCH_ONU_DEF c slot) PCH_ONU_DEF_LODS).updSlot c slot (fun h => { h with lobEnd := none }))))

def execOnuDgClear (c : Fin 64) (slot : Fin 256) (s : State) : Out :=
  .next (s.when (decide (s.defLim c slot PCH_BRX_DEF_CTL_DG_CLR ≤ (s.slot c slot).dgRun)) (fun s =>
    s.onuClear c slot PCH_ONU_DEF_DG_LIVE PCH_ONU_DEF_DG))

/-- Nearest whole bits of a number of 1/64 bits, halves away from zero (R152). -/
def bitsOf (a : Int) : Int := if 0 ≤ a then (a + 32) / 64 else - ((-a + 32) / 64)

/-- The EqD that an ONU used for its latest burst (R152): while a correction awaits it, the one before. -/
def State.eqdUsed (s : State) (c i : Nat) : Nat :=
  if s.on (RNG_ONU c i) RNG_ONU_PENDING then (s.slot c i).eqdOld else s.g (RNG_ONU c i) RNG_ONU_EQD

/-- Correct a slot's EqD by a number of bits from the one in use and send Ranging_Time (R152, R169). A correction that would make it
negative leaves 0 (assumption 80). -/
def State.correct (s : State) (c i : Nat) (d : Int) : State :=
  let u := s.eqdUsed c i
  let q := ((u : Int) - d).toNat
  let s := (s.p (RNG_ONU c i) RNG_ONU_EQD q).p (RNG_ONU c i) RNG_ONU_PENDING 1
  let s := (s.ploamSend c (.rangingTime i q)).inc (RNG_CORRECTIONS c)
  let s := s.sumUpd c i (fun x => { x with corrections := x.corrections + 1 })
  s.updSlot c i (fun h => { h with corr := d, eqdOld := u, sent := s.rd64 (DSF_SFC c), resend := 0 })

/-- DRIFT after 4 bursts beyond the limit, with an immediate correction from the latest ARRIVAL (R142, R173). -/
def execOnuDriftRaise (c : Fin 64) (slot : Fin 256) (s : State) : Out :=
  .next (s.when (decide (4 ≤ (s.slot c slot).driftHi)) (fun s =>
    let r := s.onuRaise c slot (s.pch.look c).permBlank PCH_ONU_DEF_DRIFT_LIVE PCH_ONU_DEF_DRIFT
    r.1.when (r.2 && decide (s.slotState c slot = 2)) (fun s =>
      (s.correct c slot (bitsOf (s.slot c slot).lastArr)).updSlot c slot (fun h => { h with avg := h.lastArr }))))

def execOnuDriftClear (c : Fin 64) (slot : Fin 256) (s : State) : Out :=
  .next (s.when (decide (16 ≤ (s.slot c slot).driftLo)) (fun s => s.onuClear c slot PCH_ONU_DEF_DRIFT_LIVE PCH_ONU_DEF_DRIFT))

/-- ROGUE_ISOLATE (R175): Disable_Serial_Number in three frames, the slot ISOLATED, a record in the Bolt. -/
def State.isolate (s : State) (c i : Nat) : State :=
  let m : Ploam := .disableSn (s.slotSn c i)
  let s := (s.ploamSend c m).updRng c (fun r => { r with again := r.again ++ [(2, m)] })
  let s := s.p (RNG_ONU c i) RNG_ONU_STATE 5
  ((s.inc (RNG_ROGUE_ISOLATED c)).ev (RNG_STATUS c) RNG_STATUS_ROGUE_ISOLATED).boltEvent 0x03 2 (c * 256 + i) (32 + c) [i]

/-- ROGUE on ROGUE_SET events of evidence within a second; isolation when ROGUE_AUTO is 1 (R142, R175). -/
def execOnuRogueRaise (c : Fin 64) (slot : Fin 256) (s : State) : Out :=
  let n := ((s.slot c slot).rogueAt.filter (fun t => decide (s.now - t < 1000000000))).length
  .next (s.when (decide (s.defLim c slot PCH_BRX_DEF_CTL_ROGUE_SET ≤ n)) (fun s =>
    let r := s.onuRaise c slot (s.pch.look c).permBlank PCH_ONU_DEF_ROGUE_LIVE PCH_ONU_DEF_ROGUE
    r.1.when (r.2 && s.on (RNG_CTL c) RNG_CTL_ROGUE_AUTO) (fun s => s.isolate c slot)))

/-- ROGUE clears after 10 s without evidence; the slot stays ISOLATED (R142, R175). -/
def execOnuRogueClear (c : Fin 64) (slot : Fin 256) (s : State) : Out :=
  .next (s.when ((s.slot c slot).rogueAt.all (fun t => decide (10000000000 ≤ s.now - t))) (fun s =>
    (s.onuClear c slot PCH_ONU_DEF_ROGUE_LIVE PCH_ONU_DEF_ROGUE).updSlot c slot (fun h => { h with rogueAt := [] })))

end Sys2Proof.Machine
end

