-- ==== Sys2Proof/Machine/Draft.lean ====
section
/-! DEFINITION. The draft loader (chapter 10): fetch, verification, full load, reweave, patches. -/
namespace Sys2Proof.Machine

/-- Update the loader. -/
def State.updDrf (s : State) (f : Drf → Drf) : State := { s with drf := f s.drf }

/-- Set STATE. -/
def State.drfState (s : State) (n : Nat) : State := s.p DRF_STATUS DRF_STATUS_STATE n

/-- A load is refused or fails with an error. -/
def State.drfErr (s : State) (e : Nat) : State := (s.p DRF_STATUS DRF_STATUS_ERR e).ev DRF_STATUS DRF_STATUS_LOAD_FAIL

/-- The loader is idle again. -/
def State.drfIdle (s : State) : State :=
  (s.updDrf (fun d => { d with busy := false, fetched := none, taken := [], reweave := none })).p DRF_CTL DRF_CTL_GO 0

/-- A load is over: at boot, slot A's failure turns to slot B, and slot B's to FAILED (R253); else STATE is what it was (R264). -/
def State.drfRefuse (s : State) (e : Nat) : State :=
  let boot := s.drf.boot
  let src := s.drf.src
  let back := s.drf.before
  let s := (s.drfErr e).drfIdle
  if boot && src = 0 then (s.ev DRF_STATUS DRF_STATUS_BOOT_FALLBACK).bootFetch 1
  else if boot then s.drfState 6
  else s.drfState back

-- ===== GO and the stream (R251, R252) =====

/-- A write of DRF_CTL. -/
def State.drfCtlWrite (s : State) (v : Word) : State :=
  let go := s.drf.busy
  let s := s.wrRW DRF_CTL v
  let s := s.p DRF_CTL DRF_CTL_GO (b2n go)
  if !v.getLsbD 31 then s
  else if go then s.drfErr 0x11
  else if 6 ≤ bget v 28 3 then s.drfErr 0x01
  else
    let src := bget v 28 3
    let st := s.g DRF_STATUS DRF_STATUS_STATE
    let s := s.updDrf (fun d => { d with busy := true, boot := false, src := src, before := st,
                                         taken := if src = 3 || src = 4 then d.stream else [], stream := if src = 3 || src = 4 then [] else d.stream })
    (s.p DRF_CTL DRF_CTL_GO 1).drfState 1

def execDraftLoadGo (ag : Agent) (v : Word) (s : State) : Out :=
  .next (s.bus ag DRF_CTL (fun s => s.drfCtlWrite v))

/-- A dword written to the stream window, by the port that SRC names. -/
def State.streamWrite (s : State) (ag : Agent) (off : Nat) (v : Word) : State :=
  if s.g DRF_CTL DRF_CTL_SRC = 3 + agCode ag && agCode ag ≤ 1 then
    let s := s.updDrf (fun d => { d with stream := d.stream ++ [v] })
    s.wr DRF_STREAM_LEN (word s.drf.stream.length)
  else s.hpiErr HPI_ERR_UNMAPPED (agCode ag) 0 off

def execDraftStreamWrite (ag : Agent) (w : Fin 16384) (v : Word) (s : State) : Out :=
  .next (s.bus ag (DRF_STREAM w) (fun s => s.streamWrite ag (DRF_STREAM w) v))

-- ===== the fetch (R253, R264) =====

/-- `n` words of DDR-5. -/
def State.ddrWords (s : State) (a n : Nat) : List Word :=
  (List.range n).map (fun i => word (leNat (s.ddrRds (a + 4 * i) 4)))

/-- The words that the source gave: `flash` for the flash, the stream, or DDR-5; and whether DDR-5 could not be read. -/
def State.drfSource (s : State) (flash : List Word) : List Word × Bool :=
  if s.drf.src ≤ 2 then (flash, false)
  else if s.drf.src ≤ 4 then (s.drf.taken, false)
  else
    let a := s.rd64 DRF_SRC
    let n := min (word (leNat (s.ddrRds (a + 24) 4))).toNat 8388608
    (s.ddrWords a n, !s.ddrUp || (List.range (4 * n / 4096 + 1)).any (fun i => s.isHole (a + 4096 * i)))

/-- The fetch ends: `flash` are the words of a flash source, `bad` a read error, `dig` a section digest that does not match. -/
def execDraftFetched (flash : List Word) (bad dig : Bool) (s : State) : Out :=
  .next (s.when (s.drf.busy && decide (s.g DRF_STATUS DRF_STATUS_STATE = 1)) (fun s =>
    let w := s.drfSource flash
    let e := s.fetchErr w.1 (bad || w.2) dig
    if e ≠ 0 then s.drfRefuse e
    else (s.updDrf (fun d => { d with taken := w.1 })).drfState 2))

-- ===== writing what a draft holds (R257 to R261, R265) =====

/-- SHU[k]_MAP of the roles of cluster `k`: role r on shuttle r; a retired shuttle takes the spare role (R221, R222, R269). -/
def State.mapWrite (s : State) (k : Nat) (l : List Rec) : State :=
  let rs := (rolesOf l).filter (fun x => decide (x.1 = k))
  let spare := (rs.find? (fun x => decide (x.2.2.1 = 6))).map (·.2.1)
  let gone := (List.range 16).find? (fun i => s.physRetired (16 * k + i))
  let s := iter 16 (fun r s => s.wr (SHU_MAP k r) (word r)) s
  let s := rs.foldl (fun (s : State) x =>
    let phys := match spare, gone with
      | some sp, some g => if x.2.1 = sp then g else if x.2.1 = g then sp else x.2.1
      | _, _ => x.2.1
    s.wr (SHU_MAP k x.2.1) (word (2 ^ 31 + b2n (gone.isSome && decide (x.2.2.1 = 6)) * 2 ^ 30 + x.2.2.1 * 2 ^ 27
      + (if x.2.2.1 ≤ 2 then x.2.2.2.1 else 0) * 2 ^ 21 + phys))) s
  s.p (SHU_STATUS k) SHU_STATUS_SPARE_VALID (b2n gone.isNone)

/-- The threading in force (R257). -/
def State.threadWrite (s : State) (l : List Rec) : State :=
  let th := (List.range 64).foldl (fun (t : Tab Nat) c => match chClusters l c with
    | k :: _ => t.put c (k + 1)
    | [] => t) []
  let ports := (recs l 0x11).foldl (fun (t : Tab PortRec) r =>
    t.put (512 * (r.w0 / 4096) + 32 * (r.w0 / 256 % 16) + r.w0 / 8 % 32)
      ⟨if (rw_ r 1).getLsbD 26 then some (bget (rw_ r 1) 27 5) else none, bget (rw_ r 1) 12 4, bget (rw_ r 1) 0 12, bit r.w0 2, bit r.w0 1⟩) []
  s.updDrf (fun d => { d with
    chThread := th, ports := ports,
    events := (recs l 0x12).map (fun r => (r.w0 / 4096, r.w0 / 256 % 16, r.w0 / 4 % 64, bget (rw_ r 1) 12 4, bget (rw_ r 1) 0 12)),
    chPipe := (recs l 0x13).foldl (fun (t : Tab (Nat × Nat)) r => t.put (r.w0 / 1024) (r.w0 / 128 % 8, r.w0 / 16 % 8)) [],
    lanePipe := (recs l 0x14).foldl (fun (t : Tab (Nat × Nat)) r => t.put (r.w0 / 2048) (r.w0 / 256 % 8 + 1, r.w0 / 32 % 8 + 1)) [],
    clusters := (recs l 0x15).foldl (fun (t : Tab (Nat × Nat)) r => t.put (r.w0 / 4096) (bget (rw_ r 1) 16 16, bget (rw_ r 1) 0 11)) [] })

/-- A SLICE_PLAN record, as register writes (R260). -/
def State.sliceWrite (s : State) (r : Rec) : State :=
  let c := r.w0 % 64
  let s := s.sealCtlWrite c (bset (s.rd (SHD_SEAL_CTL c)) 0 16 (bget (rw_ r 1) 0 16))
  let s := s.p (SHD_TIMING c) SHD_TIMING_CUTOFF_NS (bget (rw_ r 1) 16 16)
  let s := (s.p (SHD_POLICY c) SHD_POLICY_HOLD (bget (rw_ r 2) 0 4)).p (SHD_POLICY c) SHD_POLICY_LATE_RESV (bget (rw_ r 2) 4 2)
  s.p (SHD_POLICY c) SHD_POLICY_MAX_GRANTS (bget (rw_ r 2) 16 10)

/-- A TIME_PLAN record arms its comparator (R260, R389). -/
def State.timePlan (s : State) (r : Rec) : State :=
  let j := r.w0 % 32
  let w := rw_ r 1
  let a := TIM_TRIG j
  let s := (((s.p a TIM_TRIG_FUNC (bget w 0 4)).p a TIM_TRIG_ACTION (bget w 8 2)).p a TIM_TRIG_PIN (bget w 16 5)).p a TIM_TRIG_EN 1
  let s := (((s.wr (a + 4) (rw_ r 2)).wr (a + 8) (rw_ r 3)).wr (a + 12) (rw_ r 4)).wr (a + 16) (rw_ r 5)
  s.trigArm j

/-- A BOLT_BUDGET record (R414): the bucket starts full. -/
def State.budgetWrite (s : State) (r : Rec) : State :=
  let a := BLT_CLASS (r.w0 % 8)
  let s := (s.p a BLT_CLASS_RATE (rw_ r 1).toNat).p a BLT_CLASS_BURST (rw_ r 2).toNat
  (s.p a BLT_CLASS_TOKENS (rw_ r 2).toNat).updBlt (fun d => { d with tok := d.tok.put (r.w0 % 8) (s.now, 0) })

/-- The memory plan (R260, R314, R413): pools, without the buffers in ranks already mapped out (R69), device-owned regions, rings with their segments in ring order. -/
def State.planWrite (s : State) (l : List Rec) : State :=
  let rg := (recs l 0x32).map regionOf
  let s := iter 8 (fun p s =>
    let n := match (recs l 0x30).find? (fun r => decide (r.w0 % 8 = p)) with
      | some r => (rw_ r 1).toNat
      | none => 0
    let n := n - ((List.range n).filter (fun i => s.bufLost p i)).length
    ((s.p (BPM_POOL p) BPM_POOL_COUNT n).p (BPM_POOL p) BPM_POOL_FREE n).p (BPM_POOL p) BPM_POOL_LOW_WATER n)
    (s.updDrf (fun d => { d with owned := rg.filter (fun x => decide (x.1 ≤ 3)) }))
  let r := [0, 1, 2, 3, 4, 5].foldl (fun (a : State × Nat) i =>
    let s := a.1
    let g := rg.find? (fun x => decide (x.1 = 1) && decide (x.2.1 = i))
    let base := match g with
      | some x => x.2.2.1
      | none => 0
    let n := match g with
      | some x => x.2.2.2 / 67108864
      | none => 0
    let b := BLT_RING i
    let s := (s.wr64 b base).wr (b + 8) (word ((if i = 4 then 0 else a.2) * 65536 + n))
    let s := (((s.wr64 (b + 12) 0).p b BLT_RING_FILLING (n - 1)).p b BLT_RING_FROZEN 0)
    (if i = 4 || n = 0 then s.p b BLT_RING_FILLING 0 else s.openSeg i, if i = 4 then a.2 else a.2 + n)) (s, 0)
  r.1

/-- The tie-up (R42, R259, R286). -/
def State.tieWrite (s : State) (l : List Rec) : State :=
  let s := s.updDrf (fun d => { d with tieup := l })
  let s := (recs l 0x22).foldl (fun (s : State) r =>
    (s.p (CLS_PIPE_SP (r.w0 % 8)) CLS_PIPE_SP_SP_MPPS (bget (rw_ r 4) 20 12)).p (CLS_PIPE_SP (r.w0 % 8)) CLS_PIPE_SP_SP_BURST (bget (rw_ r 4) 0 16)) s
  s.p PMC_AUD_CREDIT PMC_AUD_CREDIT_LOOPS (recs l 0x23).length

/-- The nanoword store of a cluster, and SHU[k]_NVER (R242). -/
def State.nanoWrite (s : State) (k : Nat) (n : Nat × Word × Nat × List (BitVec 192)) (signer : Bool) : State :=
  let st := n.2.2.2.zipIdx.foldl (fun (t : Tab (BitVec 192)) (e : BitVec 192 × Nat) => t.put (4096 * k + e.2) e.1)
    (Tab.drop s.shu.nstore (fun a => decide (a / 4096 = k)))
  let s := s.updShu (fun d => { d with nstore := st })
  let bytes := (List.range 4096).flatMap (fun i => (beBytes 24 (st.look (4096 * k + i)).toNat).reverse)
  let d := (sha384 bytes).headD 0
  ((((s.wr (SHU_VER k 16) (word (n.1 * 65536 + n.2.1.toNat))).wr (SHU_VER k 16 + 4) (word (n.2.2.1 * 2 ^ 24 + b2n signer * 2 ^ 23))).wr
    (SHU_VER k 16 + 8) (d.extractLsb' 32 32)).wr (SHU_VER k 16 + 12) (d.extractLsb' 0 32))

/-- Load the roles of a cluster; a shuttle in `bad` does not match its digest and stays stopped (R241). The answer says whether all
loaded. -/
def State.rolesLoad (s : State) (k : Nat) (bad : List (Fin 256)) : State × Bool :=
  (List.range 16).foldl (fun (a : State × Bool) r =>
    let s := a.1
    let p := s.holder k r
    if !s.on (SHU_MAP k r) SHU_MAP_VALID then a
    else if s.g (SHU_MAP k r) SHU_MAP_KIND = 6 then (s.shuttleClear p, a.2)
    else match s.roleImage k r with
      | none => a
      | some i =>
        let s := (s.shuttleClear p).imageInto p i
        if bad.any (fun b => decide (b.val = p)) then
          (s.loadMismatch p, false)
        else (s.verWrite (SHU_VER k r) i, a.2)) (s, true)

/-- Start the roles of a cluster. -/
def State.rolesStart (s : State) (k : Nat) : State :=
  iter 16 (fun r s =>
    if s.on (SHU_MAP k r) SHU_MAP_VALID && decide (s.g (SHU_MAP k r) SHU_MAP_KIND ≠ 6) && !s.physRetired (s.holder k r)
        && (s.shu.held.look (s.holder k r)).isSome
    then s.shuttleStart (s.holder k r) else s) s

/-- A cluster takes its nanoword image, clock floor and roles. -/
def State.clusterLoad (s : State) (k : Nat) (d : Draft) (bad : List (Fin 256)) : State × Bool :=
  let n := d.nano.find? (fun n => decide (n.1 = (s.drf.clusters.look k).1))
  let s := match n with
    | some n => s.nanoWrite k n (decide (d.signer = 1))
    | none => s
  let s := s.mapWrite k (s.threadAfter d)
  s.rolesLoad k bad

/-- The clusters of a threading. -/
def threadClusters (l : List Rec) : List Nat := ((rolesOf l).map (·.1)).eraseDups

/-- DDR-5 training starts (R68): no channel is trained until it ends. -/
def State.trainStart (s : State) : State :=
  let s := s.when s.ddrUp (fun s => s.boltDown)
  let s := iter 8 (fun m s => s.p (MEM_STATUS m) MEM_STATUS_TRAINED 0) s
  { s with host := { s.host with training := true } }

/-- Settings that a full load returns to their reset values (R260, R289, R307, R326, R350). -/
def State.loadClear (s : State) : State :=
  let s := ((s.regsReset (CLS_TABLE_MISS 0) (CLS_TABLE_MISS 16)).regsReset (CLS_RULE 0 0) (CLS_RULE 49152 0)).regsReset (CLS_HIT 0) (CLS_HIT 49152)
  let s := s.fwdClear
  let s := ((s.regsReset TMG_SPILL TMG_FLUSH).regsReset (TMG_TRAP_BASE) (TMG_TRAP_RD + 4)).regsReset (TMG_UPORT 0) TMG_POLICED
  let s := ((s.regsReset (TMG_SHP 0) (TMG_ACCT 256)).regsReset (TMG_Q 0) (TMG_POL 0)).regsReset (TMG_GRP 0) 0x10000000
  let pol := fun (a : Nat) => decide (TMG_POL 0 ≤ a) && decide (a < TMG_GRP 0) && decide (a % 32 < 24)
  let s := { s with regs := Tab.drop s.regs (fun a => pol a || (decide (fkey 0 ≤ a) && pol (a - fkey 0))) }
  let s := ((s.regsReset TRB_CTL TRB_BLANKED).regsReset (TRB_CM_STBY 0) (TRB_STAT_RX_UNITS 0)).regsReset (TRB_DEF 0) 0x99A0000
  let s := iter 64 (fun c s => (s.p (SHD_TIMING c) SHD_TIMING_ANCHOR_NS (bget (resetWord (SHD_TIMING c)) 16 16)).p (SHD_POLICY c) SHD_POLICY_GUARD_BITS
    (bget (resetWord (SHD_POLICY c)) 0 11)) s
  let s := iter 8 (fun j s => s.releaseCut j) s
  s.p PMC_DUMP_INFO PMC_DUMP_INFO_NEXT 0

/-- The draft that runs (chapter 10, registers; R263). -/
def State.drfRuns (s : State) (d : Draft) (src : Nat) : State :=
  let s := (s.wr DRF_BUILD d.build.1).wr (DRF_BUILD + 4) d.build.2
  let s := s.wr DRF_INFO (word (d.fmt.1 * 65536 + d.fmt.2 % 256 * 256 + b2n (decide (d.signer = 1)) * 128 + src))
  s.wr DRF_SVN (word d.svn)

/-- The event record of an applied draft (R423). -/
def State.draftEvent (s : State) (d : Draft) : State := s.boltEvent 0x84 0 0 6 [d.build.1.toNat, d.build.2.toNat, d.kind]

/-- RAISE_FLOOR, once the draft has reached RUNNING. -/
def State.floorRaise (s : State) (d : Draft) : State :=
  if d.raiseFloor && (s.rd DRF_SVN_FLOOR).toNat < d.svn then s.wr DRF_SVN_FLOOR (word d.svn) else s

/-- Every block resets, whose registers the draft sets (R265). -/
def State.loadReset (s : State) : State :=
  iter 200 (fun n s => if n ≤ 6 then s else s.blockReset n) s

/-- The full load (R265) as far as the shuttles: resets, the memory plan, the tie-up, the threading, the treadling. -/
def State.fullPrepare (s : State) (d : Draft) : State :=
  let s := s.loadReset.loadClear
  let s := (s.planWrite d.plan).trainStart
  let s := s.updDrf (fun x => { x with running := some d, cache := d.images, regionImgs := [], cached := false, boot := false })
  let s := (s.tieWrite d.tieup).threadWrite d.threading
  let s := (recs d.treadling 0x40).foldl (fun s r => s.sliceWrite r) s
  let s := (recs d.treadling 0x42).foldl (fun s r => s.budgetWrite r) s
  let s := s.reactLoad d.treadling
  (s.p TMP_SAFE TMP_SAFE_ROM_USED 0).updShu (fun x => { x with ports := [], again := [], swaps := [], waitingSwaps := [], refreshNext := [], loc := [] })

/-- The stores of every cluster load; whether each loaded (R265). -/
def State.clusterLoads (s : State) (d : Draft) (bad : List (Fin 256)) : State × Bool :=
  (List.range 16).foldl (fun (a : State × Bool) k =>
    let x := a.1.clusterLoad k d bad
    (x.1, a.2 && x.2)) (s, true)

/-- A full load whose stores do not match: FAILED, and the ports of the draft that ran go down (R265). -/
def State.fullFailed (s : State) : State :=
  let s := (s.drfErr 0x13).drfIdle
  let s := s.updDrf (fun x => { x with running := none, chThread := [], lanePipe := [] })
  let s := s.ports.foldl (fun (s : State) p => if s.portState p = 1 || s.portState p = 2 then s.setPort p 3 else s) s
  s.drfState 6

/-- The roles of a cluster start at its lowest clock (R265). -/
def State.rolesUp (s : State) (k : Nat) : State :=
  let s := s.p (PWR_SHU k) PWR_SHU_FLOOR_MHZ (s.shuFloor k)
  let s := s.shuRetarget k
  let s := if s.gatedK k then s else s.p (SHU_CLK k) SHU_CLK_MHZ (s.shuFloor k)
  s.rolesStart k

/-- The end of a full load: the roles start and the draft is RUNNING (R265). -/
def State.loadDone (s : State) (d : Draft) (src : Nat) : State :=
  let s := (threadClusters d.threading).foldl (fun (s : State) k => s.rolesUp k) s
  let s := (recs d.treadling 0x41).foldl (fun s r => s.timePlan r) s
  let s := iter 16 (fun k s => s.wr (DRF_REGION k) 0) s
  let s := ((s.drfRuns d src).floorRaise d).drfIdle
  let s := s.ports.foldl (fun (s : State) p => if s.portState p = 3 && !s.safe then s.setPort p 1 else s) s
  ((s.drfState 5).ev DRF_STATUS DRF_STATUS_LOAD_DONE).draftEvent d

/-- The stores of a full load, and its end. -/
def State.fullFinish (s : State) (d : Draft) (bad : List (Fin 256)) (src : Nat) : State :=
  let r := s.clusterLoads d bad
  if r.2 then r.1.loadDone d src else r.1.fullFailed

/-- The full load (R265). `bad` are the shuttles whose store does not match its digest. -/
def State.fullApply (s : State) (d : Draft) (bad : List (Fin 256)) : State := (s.fullPrepare d).fullFinish d bad s.drf.src

-- ===== reweave (R266 to R269) =====

/-- QUIESCING of region `k` (R266); the shed input queues of its channels are flushed as it begins (R196). An ACTIVE device whose region
holds a protected channel gives up the tree (R514). -/
def State.quiesce (s : State) (k : Nat) (d : Draft) : State :=
  let s := s.when (decide (s.protState = 3) && (List.range 64).any (fun c => decide (s.drf.chThread.look c = k + 1) && s.protected_ c))
    (fun s => s.relinquish)
  let s := (s.updDrf (fun x => { x with fetched := some d, reweave := some k })).drfState 3
  let s := iter 64 (fun c s => if s.drf.chThread.look c = k + 1 then (s.actDisable c).inqFlush c else s) s
  let s := iter 128 (fun j s =>
    let p := 16 * k + j / 8
    match s.roleOf p with
    | some r =>
      let kind := s.g (SHU_MAP k r) SHU_MAP_KIND
      if 3 ≤ kind && kind ≤ 5 then s.requeue p (j % 8) false else s
    | none => s) s
  s.swapAbandon k

/-- The channels of a region: those threaded to cluster `k`, before or by the new draft. -/
def State.regionChans (s : State) (k : Nat) (d : Draft) : List Nat :=
  (List.range 64).filter (fun c => decide (s.drf.chThread.look c = k + 1) || (chClusters d.threading c).contains k)

/-- The region restarts: its roles, and each of its channels whose ENABLE is 1, after the safe state if it holds (R266, R269). -/
def State.regionStart (s : State) (k : Nat) (cs : List Nat) : State :=
  let s := s.rolesStart k
  let s := s.drfIdle.drfState 5
  cs.foldl (fun (s : State) c =>
    if s.chState c ≠ 0 || !s.on (PCH_CTL c) PCH_CTL_ENABLE then s
    else if s.safe then s.updDrf (fun x => { x with deferred := x.deferred ++ [c] })
    else s.tryStart c) s

/-- The treadling in force: that of the full draft, with the records of the region drafts since (R266). -/
def State.regionPlans (s : State) : List Rec := (s.drf.running.map (·.treadling)).getD []

/-- The threading and the images of region `k` with its draft, and whether each store matches its digest; `bad` are the shuttles whose store
does not. -/
def State.regionLoad (s : State) (k : Nat) (d : Draft) (bad : List (Fin 256)) : State × Bool :=
  let th := s.threadAfter d
  let s := (s.threadWrite th).updDrf (fun x => { x with regionImgs := x.regionImgs.put k d.images })
  let s := s.updDrf (fun x => { x with running := x.running.map (fun r => { r with threading := th }) })
  let s := s.updShu (fun x => { x with loc := Tab.drop x.loc (fun a => decide (2 ^ 20 * k ≤ a) && decide (a < 2 ^ 20 * (k + 1))) })
  s.clusterLoad k { d with kind := 0, threading := th } bad

/-- APPLYING of region `k`: `bad` are the shuttles that fail their digest with the new images, `lost` whether the previous images cannot
be restored either. -/
def State.regionApply (s : State) (k : Nat) (d : Draft) (bad : List (Fin 256)) (lost : Bool) : State :=
  let cs := s.regionChans k d
  let old := s
  let r := s.regionLoad k d bad
  if r.2 then
    let tr := (recs s.regionPlans 0x40 |>.filter (fun x => cs.contains (x.w0 % 64) && !(recs d.treadling 0x40).any (fun y => decide (y.w0 = x.w0))))
      ++ recs d.treadling 0x40
    let s := tr.foldl (fun s r => s.sliceWrite r) r.1
    let s := s.updDrf (fun x => { x with running := x.running.map (fun r =>
      { r with treadling := r.treadling.filter (fun y => !tr.any (fun z => decide (z.code = y.code) && decide (z.w0 = y.w0))) ++ tr }) })
    let s := (s.wr (DRF_REGION k) d.build.1).floorRaise d
    let s := s.p (PWR_SHU k) PWR_SHU_FLOOR_MHZ (s.shuFloor k)
    (((s.shuRetarget k).regionStart k cs).ev DRF_STATUS DRF_STATUS_LOAD_DONE).draftEvent d
  else
    let s := iter 16 (fun i s => if bad.any (fun b => decide (b.val = 16 * k + i)) then s.loadMismatch (16 * k + i) else s) old
    if lost then
      let s := s.threadWrite (((s.drf.running.map (·.threading)).getD []).filter (fun x => decide (recCluster x ≠ some k)))
      let s := iter 16 (fun i s => s.shuttleStop (16 * k + i)) s
      ((s.drfErr 0x13).drfIdle).drfState 6
    else
      let s := (s.mapWrite k ((s.drf.running.map (·.threading)).getD [])).rolesLoad k []
      ((s.1.regionStart k cs).ev DRF_STATUS DRF_STATUS_ROLLED_BACK).drfErr 0x13

-- ===== patches (R243) =====

/-- An image with a patch's microwords. -/
def Image.patched (i : Image) (w : List Word) (signer : Bool) : Image :=
  let es := (patchOf w.length (w.drop 2)).getD []
  let ws := es.foldl (fun (l : List Word) e => if e.1 then l else l.set e.2.1 (e.2.2.headD 0))
    (i.words ++ List.replicate (if es.any (fun e => !e.1) then 16384 - i.words.length else 0) 0)
  let d := (sha384 ((ws ++ List.replicate (16384 - ws.length) 0).flatMap wordBytes)).headD 0
  { i with words := ws, patch := bget (dw w 1) 24 8, signer := signer, digest := (d.extractLsb' 32 32, d.extractLsb' 0 32) }

/-- One patch section: nanowords in place, then the roles of the image move by planned swaps. -/
def State.patchApply (s : State) (w : List Word) (signer : Bool) : State :=
  let id := bget (dw w 0) 16 16
  let es := (patchOf w.length (w.drop 2)).getD []
  let nano := es.filter (·.1)
  let s := iter 16 (fun k s =>
    if (s.drf.clusters.look k).1 = id && !nano.isEmpty then
      let st := nano.foldl (fun (t : Tab (BitVec 192)) e => t.put (4096 * k + e.2.1) (nanoOf e.2.2)) s.shu.nstore
      s.nanoWrite k (id, word ((s.rd (SHU_VER k 16)).toNat % 65536), bget (dw w 1) 24 8,
        (List.range 4096).map (fun i => st.look (4096 * k + i))) signer
    else s) s
  if es.all (·.1) then s
  else
    let up := fun (l : List Image) => l.map (fun i => if i.id = id then i.patched w signer else i)
    let s := s.updDrf (fun d => { d with cache := up d.cache, regionImgs := d.regionImgs.map (fun e => (e.1, up e.2)) })
    (List.range 256).foldl (fun (s : State) j =>
      let k := j / 16
      match s.roleImage k (j % 16) with
      | some i =>
        if i.id ≠ id then s
        else if (s.shu.swaps.look k).isSome then
          s.updShu (fun d => { d with waitingSwaps := d.waitingSwaps.upd k (· ++ [⟨j % 16, false, false, 0⟩]) })
        else s.swapAsk k (j % 16) false false
      | none => s) s

/-- Signature verification ends (R262, R264): `sigOk` is whether the signature verifies, `bad` the shuttles whose store then does not
match its digest in a full load. -/
def execDraftVerified (sigOk : Bool) (bad : List (Fin 256)) (s : State) : Out :=
  .next (s.when (s.drf.busy && decide (s.g DRF_STATUS DRF_STATUS_STATE = 2)) (fun s =>
    let l := s.drf.taken
    let e := s.verifyErr l sigOk
    if e ≠ 0 then s.drfRefuse e
    else
      let d := draftOf l
      if d.kind = 0 then (s.drfState 4).fullApply d bad
      else if d.kind = 1 then s.quiesce d.region d
      else
        let s := d.patches.foldl (fun s w => s.patchApply w (decide (d.signer = 1))) s
        (((s.floorRaise d).drfIdle.drfState 5).ev DRF_STATUS DRF_STATUS_LOAD_DONE).draftEvent d))

/-- Once DDR-5 is trained the images are in the image cache (R265 step 6). -/
def execImageCacheCopy (s : State) : Out :=
  .next (s.when (s.ddrTrained && s.drf.running.isSome) (fun s => s.updDrf (fun d => { d with cached := true })))

/-- Every channel of the region is OFF: the loader applies the region draft. -/
def execReweaveApply (bad : List (Fin 256)) (lost : Bool) (s : State) : Out :=
  .next (match s.drf.reweave, s.drf.fetched with
    | some k, some d =>
      if s.g DRF_STATUS DRF_STATUS_STATE = 3 && (s.regionChans k d).all (fun c => s.chState c = 0 || s.chState c = 4)
      then (s.drfState 4).regionApply k d bad lost else s
    | _, _ => s)

end Sys2Proof.Machine
end

