-- ==== Sys2Proof/Machine/Ranging.lean ====
section
/-! DEFINITION. Ranging, discovery and drift tracking (chapter 6): what the ranging/PLOAM shuttle of a channel does. -/
namespace Sys2Proof.Machine

/-- A ranging grant for slot i, three frames ahead: long preamble, ±2 µs kept free (R155, R168). -/
def State.bookRanging (s : State) (c i : Nat) : State :=
  let n := (s.pch.look c).openLo + 2
  (s.updSlot c i (fun h => { h with rangeFrame := some n })).book c false i n 20 20

/-- The lowest EMPTY slot (R148). -/
def State.emptySlot (s : State) (c : Nat) : Option Nat := findFrom (fun i => decide (s.slotState c i = 0)) 256 0

/-- Copy equaliser entry 260 to entry i, with VALID and STALE as given (R149, R163). -/
def State.eqFromDefault (s : State) (c i : Nat) (stale : Bool) : State :=
  let s := iter 8 (fun k s => s.wr (PCH_EQ c i + 4 * k) (s.rd (PCH_EQ c 260 + 4 * k))) s
  ((s.p (PCH_EQ c i) PCH_EQ_VALID 0).p (PCH_EQ c i) PCH_EQ_STALE (b2n stale)).eqTouch c i

/-- SLOT_ASSIGN (R147 to R149, R178, R180): the slot enters ASSIGNED with a serial number. -/
def State.slotAssign (s : State) (c i : Nat) (sn : BitVec 64) : State :=
  let s := { s with slots := s.slots.put (256 * c + i) default }
  let s := s.sumUpd c i (fun x => { x with partial_ := true })
  let s := (s.p (RNG_ONU c i) RNG_ONU_STATE 1).p (RNG_ONU c i) RNG_ONU_PROF 1
  let s := ((s.p (RNG_ONU c i) RNG_ONU_PENDING 0).p (RNG_ONU c i) RNG_ONU_VIDAN_CAP 0).p (RNG_ONU c i) RNG_ONU_SEALED_CAP 0
  let s := s.p (RNG_ONU c i) RNG_ONU_EQD 0
  let s := (s.p (RNG_ONU c i) RNG_ONU_SN_HI (sn.toNat / 2 ^ 32)).p (RNG_ONU c i) RNG_ONU_SN_LO (sn.toNat % 2 ^ 32)
  (s.eqFromDefault c i true).slotValidSet c i

/-- A serial number already stands in a slot of the channel (R148). -/
def State.snKnown (s : State) (c : Nat) (sn : BitVec 64) (but : Nat) : Bool :=
  (List.range 256).any (fun i => decide (i ≠ but) && decide (s.slotState c i ≠ 0) && decide (s.slotSn c i = sn))

/-- Teqd of a running channel in upstream bits × 125,000. -/
def State.teqdBits (s : State) (c : Nat) : Nat := (s.pch.look c).teqd * s.bpf c

/-- Deactivate an ONU and empty its slot (R165, R173, R249). -/
def State.deactivate (s : State) (c i : Nat) : State := (s.ploamSend3 c (.deactivate i)).slotEmpty c i

/-- An ONU whose D exceeds Teqd (R151). -/
def State.farOnu (s : State) (c i : Nat) : State := ((s.inc (RNG_FAR c)).ploamSend c (.deactivate i)).slotEmpty c i

/-- The slot enters OPERATION with an equalisation delay: Ranging_Time, and CAP_QUERY (R155, R164, R167). -/
def State.intoOperation (s : State) (c i eqd : Nat) : State :=
  let s := (s.p (RNG_ONU c i) RNG_ONU_EQD eqd).p (RNG_ONU c i) RNG_ONU_STATE 2
  let s := (s.ploamSend c (.rangingTime i eqd)).ploamSend c (.capQuery i)
  s.updSlot c i (fun h => { h with capPending := true, avg := 0, step := false, vidan := false })

/-- A quiet window may open: none is open or booked, and neither an undertone window nor a locate runs (R156). -/
def State.qwFree (s : State) (c : Nat) : Bool :=
  !s.on (RNG_STATUS c) RNG_STATUS_LOCATING && !(s.rng.look c).utOpen && !(s.rng.look c).qwBooked

/-- SPAN_CLAMPED where DMAX_US exceeds Teqd (R153). -/
def State.spanCheck (s : State) (c : Nat) : State :=
  s.when (decide ((s.pch.look c).teqd < s.g (RNG_SPAN c) RNG_SPAN_DMAX_US * 1000)) (fun s => s.ev (RNG_STATUS c) RNG_STATUS_SPAN_CLAMPED)

/-- Book the serial-number grant of a quiet window (R154): answers come with EqD 0, from Teqd − DMIN_US
before the granted position to DMAX_US − Teqd after it and the random delay and one burst, some 90 µs. Its frame is at least 3 ahead, and
as much later as the span reaches back, so that no frame of the span holds a grant yet. -/
def State.quietWindow (s : State) (c : Nat) : State :=
  let t := (s.pch.look c).teqd
  let hi := min t (s.g (RNG_SPAN c) RNG_SPAN_DMAX_US * 1000) + 90000
  let s := s.spanCheck c
  let back := t - s.g (RNG_SPAN c) RNG_SPAN_DMIN_US * 1000
  let n := (s.pch.look c).openLo + 2 + cdiv back 125000
  let s := s.book c true 0 n (cdiv back 100) (cdiv (hi - t) 100)
  let s := (s.inc (RNG_QW_WINDOWS c)).p (RNG_STATUS c) RNG_STATUS_QW_ACTIVE 1
  s.updRng c (fun r => { r with qwBooked := true, qwFrame := n, qwDue := false })

/-- A quiet window falls due: opened, or made to wait (R154, R156). -/
def State.quietDue (s : State) (c : Nat) : State :=
  if s.qwFree c then s.quietWindow c else s.updRng c (fun r => { r with qwDue := true })

def execQuietWindowOpen (c : Fin 64) (s : State) : Out :=
  .next (s.when (decide (s.chState c = 2) && (s.on (RNG_CTL c) RNG_CTL_QW_EN || (s.rng.look c).qwDue)) (fun s => s.quietDue c))

/-- A decoded Serial_Number_ONU (R148, R149, R155). -/
def execSerialNumberOnu (c : Fin 64) (sn : BitVec 64) (s : State) : Out :=
  .next (s.when (decide (s.chState c = 2)) (fun s =>
    if s.snKnown c sn 256 then s.inc (RNG_DUP_SN c)
    else match s.emptySlot c with
      | none => s.ev (RNG_STATUS c) RNG_STATUS_SLOTS_FULL
      | some i =>
        let s := (s.slotAssign c i sn).ploamSend c (.assignOnuId i sn)
        s.bookRanging c i))

/-- A ranging burst of an ONU in ASSIGNED measures its D, in 1/64 upstream bit (R151, R155). -/
def execRangingBurst (c : Fin 64) (slot : Fin 256) (d : Nat) (s : State) : Out :=
  .next (s.when (decide (s.slotState c slot = 1) && !(s.slot c slot).vidan) (fun s =>
    let num := 64 * s.teqdBits c
    if num < d * 125000 then s.farOnu c slot
    else
      let s := s.intoOperation c slot ((num - d * 125000 + 4000000) / 8000000)
      (s.inc (RNG_DISC_QW c)).ev (RNG_STATUS c) RNG_STATUS_DISC))

/-- A CAP_REPORT of an ONU that was asked (R166, R167): the FLAGS are recorded in the slot, with the smallest LEVEL it supports. -/
def State.capReport (s : State) (c i : Nat) (flags level : BitVec 8) : State :=
  s.when (s.slot c i).capPending (fun s =>
    let s := s.p (RNG_ONU c i) RNG_ONU_VIDAN_CAP (b2n (flags.getLsbD 0 || flags.getLsbD 2))
    let s := s.p (RNG_ONU c i) RNG_ONU_SEALED_CAP (b2n (flags.getLsbD 1))
    s.updSlot c i (fun h => { h with capPending := false, rerangeCap := flags.getLsbD 2, muteCap := flags.getLsbD 3, minLevel := level.toNat }))

/-- An upstream PLOAM reaches the shuttle with its MIC result (R133); a dying gasp raises DG (R142), and a vendor-specific message is read
by the layout of R166. -/
def execUpstreamPloam (c : Fin 64) (slot : Fin 256) (micOk : Bool) (m : UpPloam) (s : State) : Out :=
  let s := { s with shu := { s.shu with upPloam := s.shu.upPloam.upd c (· ++ [(slot.val, micOk, m)]) } }
  .next (if !micOk then s else match m with
    | .dyingGasp => if s.slotState c slot ≠ 0 then s.dgRaise c slot else s
    | .capReport _ flags level => s.capReport c slot flags level
    | .other b => (match capOf (s.g (RNG_CTL c) RNG_CTL_VS_TYPE) b with
      | some r => s.capReport c slot r.2.1 r.2.2
      | none => s)
    | _ => s)

-- ===== Vidan undertone discovery =====

/-- H of R158: the hash of a serial number and a nonce. -/
def vidanHash (sn : BitVec 64) (nonce : Word) : Word := crc32 (beBytes 8 sn.toNat ++ beBytes 4 nonce.toNat)

/-- Whether an invitation may go (R157, R168): VIDAN_EN on an ACTIVE 50G-PON channel with no quiet window, locate or undertone window, and
no re-ranging window, for an undertone window may need all four peak slots; the entropy source must work (R365). -/
def State.inviteOk (s : State) (c : Nat) : Bool :=
  let r := s.rng.look c
  s.on (RNG_CTL c) RNG_CTL_VIDAN_EN && decide ((s.pch.look c).mode = 1) && decide (s.chState c = 2)
    && !s.on (RNG_STATUS c) RNG_STATUS_QW_ACTIVE && !s.on (RNG_STATUS c) RNG_STATUS_LOCATING && !r.utOpen && decide (r.reranging = 0)
    && !s.on CRY_STATUS CRY_STATUS_ENT_FAIL

/-- An invitation is queued (R157): the frame that carries it fixes the undertone window. On a full queue none is sent (R112). -/
def execVidanInvite (c : Fin 64) (s : State) : Out :=
  .next (s.when (s.inviteOk c) (fun s =>
    if 64 ≤ (s.pch.look c).ploamQ.length then s.ev (DSF_STATUS c) DSF_STATUS_PLOAM_FULL
    else
      let d := s.draw
      let p := (s.rng.look c).pResp.getD (s.g (RNG_UT c) RNG_UT_P_RESP)
      (d.2.ploamSend c (.vidanInvite d.1 0 p)).updRng c (fun r => { r with utNonce := d.1, utStart := none, utOpen := true, pResp := some p })))

/-- The answer threshold of the next invitation (R160). -/
def nextResp (written p n : Nat) : Nat :=
  if 4 < n then max (p / 2) 0x0F else if n = 0 then min (2 * p + 1) written else p

/-- Send a Vidan assignment (R163): the frame that carries it fixes GRANT_SF, and its follow-up grant is booked then. -/
def State.vidanAssign (s : State) (c i : Nat) : State :=
  let h := s.slot c i
  s.ploamSend c (.vidanAssign h.vNonce h.vIdx i (s.g (RNG_ONU c i) RNG_ONU_EQD) 1 0)

/-- One peak of a window (R163, R151). -/
def State.vidanPeak (s : State) (c j : Nat) (all : List UtPeak) (p : UtPeak) : State :=
  if 1 < (all.filter (fun q => decide (q.seqIdx = p.seqIdx))).length then
    (s.inc (RNG_UT_COLLIDE c)).ev (RNG_STATUS c) RNG_STATUS_UT_COLLIDE
  else
    let d := p.delay * (s.bpf c / 194400) * 125000
    if s.teqdBits c < d then s.inc (RNG_FAR c)
    else match s.emptySlot c with
      | none => s.ev (RNG_STATUS c) RNG_STATUS_SLOTS_FULL
      | some i =>
        let s := s.slotAssign c i 0
        let s := s.p (RNG_ONU c i) RNG_ONU_EQD ((s.teqdBits c - d + 62500) / 125000)
        let s := s.eqFromDefault c (256 + j) false
        let s := s.updSlot c i (fun h => { h with vidan := true, vNonce := (s.rng.look c).utNonce, vIdx := p.seqIdx.val, vEntry := 256 + j })
        s.vidanAssign c i

-- ===== re-ranging (R168) =====

/-- Whether an ONU is re-ranged by the correlator (R168). -/
def State.rerangeVidan (s : State) (c i : Nat) : Bool :=
  s.on (RNG_ONU c i) RNG_ONU_VIDAN_CAP && (s.slot c i).rerangeCap && s.on (RNG_CTL c) RNG_CTL_RERANGE_UT

/-- Measure D afresh: by the correlator where the ONU and the enable allow it, once an undertone window, which may need all four peak slots,
is over and a slot is free; else by a directed ranging grant. -/
def State.rerangeTry (s : State) (c i : Nat) : State :=
  let r := s.rng.look c
  if !s.rerangeVidan c i then (s.updSlot c i (fun h => { h with rerangeUt := false, rerangeWait := false })).bookRanging c i
  else if r.utOpen || decide (4 ≤ r.reranging) then s.updSlot c i (fun h => { h with rerangeUt := false, rerangeWait := true })
  else
    let s := s.ploamSend c (.vidanRerange i 0 (i % 32))
    let s := (s.p (RNG_STATUS c) RNG_STATUS_UT_ACTIVE 1).updRng c (fun r => { r with reranging := r.reranging + 1 })
    s.updSlot c i (fun h => { h with rerangeUt := true, rerangeWait := false })

/-- The ONUs that wait for a peak slot are tried again, by slot number (R168). -/
def State.rerangeNext (s : State) (c : Nat) : State :=
  ((List.range 256).filter (fun i => (s.slot c i).rerangeWait && decide (s.slotState c i = 3))).foldl (fun s i => s.rerangeTry c i) s

/-- RERANGE_START (R168): an ONU in OPERATION moves to RERANGE. -/
def State.rerangeStart (s : State) (c i : Nat) : State :=
  if s.slotState c i = 2 then
    let s := (s.p (RNG_ONU c i) RNG_ONU_STATE 3).p (RNG_ONU c i) RNG_ONU_PENDING 0
    let s := s.inc (RNG_RERANGES c)
    (s.updSlot c i (fun h => { h with rerangeTries := 0, step := false })).rerangeTry c i
  else s

/-- LOB after LOB_SET consecutive ABSENT grants; its entry is STALE and the ONU takes profile 1 (R142, R173); one that a takeover has left
to drift tracking is re-ranged (R172). -/
def execOnuLobRaise (c : Fin 64) (slot : Fin 256) (s : State) : Out :=
  .next (s.when (decide (s.defLim c slot PCH_BRX_DEF_CTL_LOB_SET ≤ (s.slot c slot).absRun)) (fun s =>
    let r := s.onuRaise c slot (s.pch.look c).blankOnu PCH_ONU_DEF_LOB_LIVE PCH_ONU_DEF_LOB
    r.1.when r.2 (fun s =>
      let s := (s.shuttleStale c slot).updSlot c slot (fun h => { h with lobAt := s.now, lobEnd := none })
      s.when (s.slot c slot).takenOver (fun s => (s.updSlot c slot (fun h => { h with takenOver := false })).rerangeStart c slot))))

/-- Peaks by their margin, the strongest first; equal ones keep their order (R159). -/
def peakInsert (p : UtPeak) : List UtPeak → List UtPeak
  | [] => [p]
  | q :: t => if q.margin < p.margin then p :: q :: t else q :: peakInsert p t

def peakSort (l : List UtPeak) : List UtPeak := l.foldl (fun acc p => peakInsert p acc) []

/-- The delays that the correlator searches (R153, R159, R161), in chips of 1.5552 per ns: DMIN_US to DMAX_US, at most Teqd, at most 400 µs
wide. -/
def State.searched (s : State) (c : Nat) (p : UtPeak) : Bool :=
  let lo := s.g (RNG_SPAN c) RNG_SPAN_DMIN_US * 1000
  let hi := min (min (s.g (RNG_SPAN c) RNG_SPAN_DMAX_US * 1000) (s.pch.look c).teqd) (lo + 400000)
  decide (lo * 15552 ≤ p.delay * 10000) && decide (p.delay * 10000 ≤ hi * 15552)

/-- The undertone window has run to the end of its 64 frames (R159). -/
def State.utOver (s : State) (c : Nat) : Bool := match (s.rng.look c).utStart with
  | some f => (s.rng.look c).utOpen && decide (f + 64 < (s.pch.look c).openLo)
  | none => false

/-- The correlator's results (R159, R160, R163): of the peaks at the delays searched, the four strongest. -/
def execUtPeaksReported (c : Fin 64) (peaks : List UtPeak) (s : State) : Out :=
  .next (s.when (s.utOver c) (fun s =>
    let all := peakSort (peaks.filter (fun p => s.searched c p))
    let best := all.take 4
    let s := iter 4 (fun j s => match best[j]? with
      | some p => s.wr (RNG_UT_PEAK c j) (word (2 ^ 31 + p.seqIdx.val * 2 ^ 26 + min p.margin 63 * 2 ^ 20 + p.delay % 2 ^ 20))
      | none => s.p (RNG_UT_PEAK c j) RNG_UT_PEAK_VALID 0) s
    let s := s.ev (RNG_STATUS c) RNG_STATUS_UT_DONE
    let s := s.when (decide (4 < all.length)) (fun s =>
      (s.add (RNG_UT_EXCESS c) (all.length - 4)).ev (RNG_STATUS c) RNG_STATUS_UT_EXCESS)
    let s := s.spanCheck c
    let w := s.g (RNG_UT c) RNG_UT_P_RESP
    let s := s.updRng c (fun r => { r with utOpen := false, utStart := none, pResp := some (nextResp w (r.pResp.getD w) all.length) })
    let s := s.p (RNG_STATUS c) RNG_STATUS_UT_ACTIVE (b2n (decide ((s.rng.look c).reranging ≠ 0)))
    let s := best.zipIdx.foldl (fun s e => s.vidanPeak c e.2 all e.1) s
    (s.rerangeNext c).when (s.rng.look c).qwDue (fun s => s.quietDue c)))

/-- The follow-up shows two ONUs behind one peak (R165). -/
def State.vidanCollide (s : State) (c i : Nat) : State :=
  let s := (s.p (PCH_EQ c (s.slot c i).vEntry) PCH_EQ_VALID 0).deactivate c i
  (s.inc (RNG_UT_COLLIDE c)).ev (RNG_STATUS c) RNG_STATUS_UT_COLLIDE

/-- The follow-up grant and the next two bursts (R148, R164, R165). One of those two that is not clean, or not RECEIVED at all, ends the
discovery as a collision does (assumption 81). -/
def execVidanFollowupResult (c : Fin 64) (slot : Fin 256) (res : FollowUp) (s : State) : Out :=
  let h := s.slot c slot
  .next (s.when (decide (s.slotState c slot = 1) && h.vidan) (fun s => match res with
    | .received sn arrival ambig =>
      if h.vSnOk then s
      else if ambig || decide ((vidanHash sn h.vNonce).toNat % 32 ≠ h.vIdx) then s.vidanCollide c slot
      else if s.snKnown c sn slot then (s.inc (RNG_DUP_SN c)).deactivate c slot
      else
        let s := (s.p (RNG_ONU c slot) RNG_ONU_SN_HI (sn.toNat / 2 ^ 32)).p (RNG_ONU c slot) RNG_ONU_SN_LO (sn.toNat % 2 ^ 32)
        let s := s.updSlot c slot (fun h => { h with vSnOk := true, vArrival := arrival, vClean := 0 })
        let n := (s.pch.look c).openLo
        (s.book c false slot (n + 2) 0 0).book c false slot (n + 3) 0 0
    | .errored => if h.vSnOk then s else s.vidanCollide c slot
    | .absent =>
      if h.vSnOk then s
      else if h.vTries < 2 then (s.updSlot c slot (fun h => { h with vTries := h.vTries + 1 })).vidanAssign c slot
      else (s.p (PCH_EQ c h.vEntry) PCH_EQ_VALID 0).slotEmpty c slot
    | .next clean =>
      if !h.vSnOk then s
      else if !clean then s.vidanCollide c slot
      else if h.vClean = 0 then s.updSlot c slot (fun h => { h with vClean := 1 })
      else
        let q := (s.g (RNG_ONU c slot) RNG_ONU_EQD : Int) - bitsOf h.vArrival
        if q < 0 then s.farOnu c slot
        else
          let s := s.intoOperation c slot q.toNat
          (s.inc (RNG_DISC_UT c)).ev (RNG_STATUS c) RNG_STATUS_DISC))

/-- CAP_REPORT (R166, R167). -/
def execCapReport (c : Fin 64) (slot : Fin 256) (info : CapInfo) (s : State) : Out :=
  .next (s.capReport c slot info.flags info.level)

/-- No answer within 16 frames: no capability (R167). -/
def execCapQueryTimeout (c : Fin 64) (slot : Fin 256) (s : State) : Out :=
  .next (s.when (s.slot c slot).capPending (fun s =>
    let s := (s.p (RNG_ONU c slot) RNG_ONU_VIDAN_CAP 0).p (RNG_ONU c slot) RNG_ONU_SEALED_CAP 0
    s.updSlot c slot (fun h => { h with capPending := false, rerangeCap := false, muteCap := false })))

/-- A re-ranging measurement: the arrival in 1/64 bit against the current EqD, or a failed attempt (R152, R168). No CAP_QUERY is sent again
(assumption 78). -/
def execRerangeResult (c : Fin 64) (slot : Fin 256) (arrival : Option Int) (s : State) : Out :=
  .next ((s.rerangeFree c slot).when (decide (s.slotState c slot = 3)) (fun s =>
    match arrival with
    | some a =>
      let q := (s.g (RNG_ONU c slot) RNG_ONU_EQD : Int) - bitsOf a
      if q < 0 then s.farOnu c slot
      else
        let s := s.boltEvent 0x85 2 (c * 256 + slot) (32 + c) [slot, s.g (RNG_ONU c slot) RNG_ONU_EQD, q.toNat]
        let s := (s.p (RNG_ONU c slot) RNG_ONU_EQD q.toNat).p (RNG_ONU c slot) RNG_ONU_STATE 2
        ((s.ploamSend c (.rangingTime slot q.toNat)).updSlot c slot (fun h => { h with avg := 0, rerangeTries := 0 })).rerangeNext c
    | none =>
      let n := (s.slot c slot).rerangeTries + 1
      let s := s.updSlot c slot (fun h => { h with rerangeTries := n, byLods := false })
      (if 3 ≤ n then s.p (RNG_ONU c slot) RNG_ONU_STATE 4 else s.rerangeTry c slot).rerangeNext c))

-- ===== drift tracking (R169, R170) =====

/-- Ranging_Time again, or re-ranging after three resends (R169). -/
def State.pendTimeout (s : State) (c i : Nat) : State :=
  let n := (s.slot c i).resend + 1
  let s := s.updSlot c i (fun h => { h with resend := n })
  if 3 < n then s.rerangeStart c i
  else (s.ploamSend c (.rangingTime i (s.g (RNG_ONU c i) RNG_ONU_EQD))).updSlot c i (fun h => { h with sent := s.rd64 (DSF_SFC c) })

/-- Frames since the latest correction exceed PEND_FRAMES. -/
def State.pendLate (s : State) (c i : Nat) : Bool :=
  decide (atLeast1 (s.g (RNG_TRACK c) RNG_TRACK_PEND_FRAMES) < s.rd64 (DSF_SFC c) - (s.slot c i).sent)

/-- The shuttle's filter over one burst (R169): a jump, a pending correction, or the filter; `avg` in 1/64 bit, rounded down.
THRESH above 32 acts as 32 (assumption 82). -/
def State.trackBurst (s : State) (c i : Nat) (a : Int) : State :=
  let h := s.slot c i
  let pend := s.on (RNG_ONU c i) RNG_ONU_PENDING
  if !pend && decide (1024 < a.natAbs) then
    let s := (s.correct c i (clampI 32 (bitsOf a))).updSlot c i (fun h => { h with avg := a, step := true })
    s.shuttleStale c i
  else if pend then
    if (a - (h.avg - 64 * h.corr)).natAbs ≤ 64 then
      let s := (s.p (RNG_ONU c i) RNG_ONU_PENDING 0).updSlot c i (fun h => { h with avg := h.avg - 64 * h.corr, step := false })
      s.when (h.step && decide (1024 < (a - 64 * h.corr).natAbs)) (fun s => s.rerangeStart c i)
    else if s.pendLate c i then s.pendTimeout c i
    else s
  else
    let sh := min (s.g (RNG_TRACK c) RNG_TRACK_SHIFT) 8
    let th := clampN 1 32 (s.g (RNG_TRACK c) RNG_TRACK_THRESH)
    let avg := h.avg + (a - h.avg) / (2 ^ sh : Nat)
    let s := s.updSlot c i (fun h => { h with avg := avg })
    if 3072 < avg.natAbs then s.rerangeStart c i
    else if 64 * th ≤ avg.natAbs then (s.correct c i (clampI 32 (bitsOf avg))).updSlot c i (fun h => { h with step := false })
    else s

/-- A RECEIVED burst of an ONU in OPERATION with LOCK ≤ 20 ns (80 × 0.25 ns), with TRACK_EN = 1 (R169). -/
def execDriftTrackBurst (c : Fin 64) (slot : Fin 256) (arrival : Int) (lock : Nat) (s : State) : Out :=
  .next (s.when (s.on (RNG_CTL c) RNG_CTL_TRACK_EN && decide (s.slotState c slot = 2) && decide (lock ≤ 80)) (fun s =>
    s.trackBurst c slot arrival))

def execDriftPendTimeout (c : Fin 64) (slot : Fin 256) (s : State) : Out :=
  .next (s.when (s.on (RNG_ONU c slot) RNG_ONU_PENDING && decide (s.slotState c slot = 2) && s.pendLate c slot) (fun s => s.pendTimeout c slot))

/-- Two consecutive RECEIVED bursts with LOCK ≤ 20 ns and STALE clear, with the equaliser memory on (R172). -/
def execProfileRestore (c : Fin 64) (slot : Fin 256) (s : State) : Out :=
  .next (s.when (decide (s.slotState c slot = 2) && decide (2 ≤ (s.slot c slot).clean) && !s.on (PCH_EQ c slot) PCH_EQ_STALE
      && s.on (PCH_BRX_CTL c) PCH_BRX_CTL_EQ_MEM_EN) (fun s =>
    s.p (RNG_ONU c slot) RNG_ONU_PROF 0))

/-- LOST_HOLD_S seconds in LOST without a RECEIVED burst (R173). -/
def execLostHoldExpiry (c : Fin 64) (slot : Fin 256) (s : State) : Out :=
  .next (s.when (decide (s.slotState c slot = 4)) (fun s => s.deactivate c slot))

/-- DRIFT still raised 10 ms after the immediate correction (R174). -/
def execDriftPersistTimeout (c : Fin 64) (slot : Fin 256) (s : State) : Out :=
  .next (s.when (s.on (PCH_ONU_DEF c slot) PCH_ONU_DEF_DRIFT_LIVE) (fun s => s.rerangeStart c slot))

-- ===== rogue locate (R176) =====

/-- Silence a set of slots for one probe: by MUTE_PROBE where the ONU has it, else by Disable_Serial_Number. -/
def State.silence (s : State) (c : Nat) (l : List Nat) : State :=
  let k := atLeast1 (s.g (RNG_ROGUE c) RNG_ROGUE_PROBE_FRAMES)
  let s := l.foldl (fun s i =>
    if (s.slot c i).muteCap then s.ploamSend c (.muteProbe i 0 k)
    else s.ploamSend c (.disableSn ((s.rng.look c).suspectSn.look i))) s
  s.updRng c (fun r => { r with probing := l, probeEnergy := false })

/-- The next probe: the lower half of the suspects by slot number, or the last suspect to confirm. -/
def State.nextProbe (s : State) (c : Nat) : State :=
  let l := (s.rng.look c).suspects
  if 1 < l.length then (s.updRng c (fun r => { r with confirming := false })).silence c (l.take (l.length / 2))
  else (s.updRng c (fun r => { r with confirming := true })).silence c l

/-- Re-enable the legacy ONUs of a probe, but for one isolated meanwhile (R175): they lose their slots and are found again at a quiet window. -/
def State.probeRestore (s : State) (c : Nat) (l : List Nat) : State :=
  l.foldl (fun s i =>
    if (s.slot c i).muteCap || decide (s.slotState c i = 5) then s
    else
      let s := (s.ploamSend c (.enableSn ((s.rng.look c).suspectSn.look i))).updRng c (fun r => { r with qwDue := true })
      if s.slotState c i = 0 then s else s.slotEmpty c i) s

/-- The locate ends; a quiet window that waits opens. -/
def State.locateEnd (s : State) (c : Nat) : State :=
  let s := s.p (RNG_STATUS c) RNG_STATUS_LOCATING 0
  let s := s.updRng c (fun r => { r with suspects := [], probing := [], confirming := false, suspectSn := [], oowAt := [] })
  s.when (s.rng.look c).qwDue (fun s => s.quietDue c)

/-- OOW_ENERGY events reach ROGUE_SET within 1 s (R156, R176). The locate waits for the end of a booked or open quiet window. Without a slot
in OPERATION it ends at once with ROGUE_UNLOCATED (assumption 83). -/
def execRogueLocateStart (c : Fin 64) (s : State) : Out :=
  let n := ((s.rng.look c).oowAt.filter (fun t => decide (s.now - t < 1000000000))).length
  .next (s.when (s.on (RNG_CTL c) RNG_CTL_ROGUE_AUTO && !s.on (RNG_STATUS c) RNG_STATUS_LOCATING && !(s.rng.look c).qwBooked
      && decide (atLeast1 (s.g (PCH_BRX_DEF_CTL c) PCH_BRX_DEF_CTL_ROGUE_SET) ≤ n)) (fun s =>
    let l := (List.range 256).filter (fun i => decide (s.slotState c i = 2))
    let s := (s.p (RNG_STATUS c) RNG_STATUS_LOCATING 1).updRng c (fun r =>
      { r with suspects := l, suspectSn := l.foldl (fun t i => t.put i (s.slotSn c i)) [] })
    if l.isEmpty then (s.ev (RNG_STATUS c) RNG_STATUS_ROGUE_UNLOCATED).locateEnd c else s.nextProbe c))

/-- The end of a probe (R176). -/
def execRogueProbeEnd (c : Fin 64) (s : State) : Out :=
  let r := s.rng.look c
  .next (s.when (s.on (RNG_STATUS c) RNG_STATUS_LOCATING) (fun s =>
    if r.confirming then
      match r.suspects with
      | i :: _ =>
        if r.probeEnergy then ((s.probeRestore c [i]).ev (RNG_STATUS c) RNG_STATUS_ROGUE_UNLOCATED).locateEnd c
        else
          let sn := r.suspectSn.look i
          let s := (s.p (RNG_ONU c i) RNG_ONU_SN_HI (sn.toNat / 2 ^ 32)).p (RNG_ONU c i) RNG_ONU_SN_LO (sn.toNat % 2 ^ 32)
          (s.isolate c i).locateEnd c
      | [] => s.locateEnd c
    else
      let s := s.updRng c (fun r => { r with suspects := if r.probeEnergy then r.suspects.filter (fun i => !r.probing.contains i) else r.probing })
      (s.probeRestore c r.probing).nextProbe c))

end Sys2Proof.Machine
end

