-- ==== Sys2Proof/Machine/Shuttle.lean ====
section
/-! DEFINITION. Swaps, the rolling refresh and the service interface of the shuttles (R244 to R249, R433). -/
namespace Sys2Proof.Machine

-- ===== swaps =====

def execSwapGo (ag : Agent) (k : Fin 16) (v : Word) (s : State) : Out :=
  .next (s.bus ag (SHU_SWAP k) (fun s => s.swapWrite k v))

/-- A swap whose load of the spare fails (R241). -/
def State.loadFailed (s : State) (k p : Nat) : State := (s.swapResult k 3).loadMismatch p

/-- The load of the spare ends: `ok` is whether the digest of the store matches (R241). -/
def execSpareLoaded (k : Fin 16) (ok : Bool) (s : State) : Out :=
  .next (match s.shu.swaps.look k, s.roleImage k (((s.shu.swaps.look k).map (·.role)).getD 0) with
    | some w, some i =>
      if w.phase ≠ 0 then s
      else
        let p := s.sparePhys k
        let s := s.imageInto p i
        if ok then s.updShu (fun d => { d with swaps := d.swaps.put k (some { w with phase := 1 }) })
        else ((s.swapClear k).loadFailed k p).swapNext k
    | _, _ => s)

/-- The frame boundary of the swap (R244 step 2). -/
def execSwapFrameBoundary (k : Fin 16) (s : State) : Out :=
  .next (match s.shu.swaps.look k with
    | some w => if w.phase = 1 then s.updShu (fun d => { d with swaps := d.swaps.put k (some { w with phase := 2 }) }) else s
    | none => s)

/-- A thread has reached WAIT or DONE with no held item, or is stopped (R244 step 3). -/
def State.quiet (s : State) (p t : Nat) : Bool :=
  let h := s.thread p t
  h.aborted || (h.waiting && h.held.isNone)

/-- 8 µs after the boundary: threads still running are aborted (R238, R244). -/
def execSwapQuiesceTimeout (k : Fin 16) (s : State) : Out :=
  .next (match s.shu.swaps.look k with
    | some w =>
      if w.phase ≠ 2 then s
      else iter 8 (fun t s => if s.quiet (s.holder k w.role) t then s else s.threadAbort (s.holder k w.role) t) s
    | none => s)

/-- The role after `r` that a refresh takes: defined and not the spare (R247). -/
def State.roleFrom (s : State) (k r : Nat) : Option Nat :=
  ((List.range 16).map (fun i => (r + i) % 16)).find? (fun x => s.on (SHU_MAP k x) SHU_MAP_VALID && decide (s.g (SHU_MAP k x) SHU_MAP_KIND ≠ 6))

/-- The local memory of a physical shuttle after a swap: the copy of the old holder's, or zero (R226, R244). -/
def State.locMove (s : State) (src dst : Nat) (copy : Bool) : State :=
  let old := (s.shu.loc.filter (fun e => decide (e.1 / 65536 = src))).map (fun e => (e.1 % 65536, e.2))
  let t := Tab.drop s.shu.loc (fun a => decide (a / 65536 = src) || decide (a / 65536 = dst))
  s.updShu (fun d => { d with
    loc := if copy then old.foldl (fun (t : Tab Byte) e => t.put (65536 * dst + e.1) e.2) t else t })

/-- Steps 4 and 5 of a swap (R244): the role moves from shuttle `p` to the spare `q`. -/
def State.swapMove (s : State) (k : Nat) (w : Swap) (p q : Nat) : State :=
  let sp := (s.spareRole k).getD 15
  let s := s.locMove p q (!w.retire)
  let s := (s.p (SHU_MAP k w.role) SHU_MAP_PHYS (q % 16)).p (SHU_MAP k sp) SHU_MAP_PHYS (p % 16)
  let s := s.updShu (fun d => { d with
    threads := Tab.drop d.threads (fun a => decide (a / 8 = p) || decide (a / 8 = q)), stopped := d.stopped.put p false })
  let s := s.when w.retire (fun s => (s.p (SHU_MAP k sp) SHU_MAP_RETIRED 1).p (SHU_STATUS k) SHU_STATUS_SPARE_VALID 0)
  let s := s.shuttleStart q
  match s.shu.held.look q with
  | some i => s.verWrite (SHU_VER k w.role) i
  | none => s

/-- Event 3 for a role with a service request pending, such as one submitted during its swap (R234, R246). -/
def State.svcLatch (s : State) (k r : Nat) : State :=
  s.when ((List.range 3).any (fun a => match s.shu.svc.look (4 * k + a) with
    | some q => decide (bget (q.words.headD 0) 20 4 = r)
    | none => false)) (fun s => s.latchRole k r 3)

/-- The end of a refresh step (R247): the digest of the vacated store, and the load of the next role's image. -/
def State.refreshEnd (s : State) (k r p : Nat) (digestOk loadOk : Bool) : State :=
  let s := if digestOk then s
    else ((s.inc (SHU_UPSETS_FOUND k)).ev (SHU_STATUS k) SHU_STATUS_UPSET_FOUND).boltEvent 0x81 5 k (16 + k) [r]
  let s := s.shuttleClear p
  let s := match (s.roleFrom k (r + 1)).bind (s.roleImage k) with
    | some i => if loadOk then s.imageInto p i else (s.imageInto p i).loadMismatch p
    | none => s
  s.inc (SHU_REFRESH_STEPS k)

/-- The swap completes (R244, R247): `digestOk` is whether the vacated store of a refresh step still matches its digest, `loadOk` whether
the image loaded after it does. -/
def execSwapComplete (k : Fin 16) (digestOk loadOk : Bool) (s : State) : Out :=
  .next (match s.shu.swaps.look k with
    | some w =>
      let p := s.holder k w.role
      let q := s.sparePhys k
      if w.phase = 2 && (List.range 8).all (fun t => s.quiet p t) then
        let s := (((s.swapMove k w p q).swapClear k).inc (SHU_SWAPS k)).svcLatch k w.role
        let s := s.swapResult k 0
        let s := s.when (w.refresh && !w.retire) (fun s => s.refreshEnd k w.role p digestOk loadOk)
        s.swapNext k
      else s
    | none => s)

/-- A step of the rolling refresh falls due INTERVAL_S after the one before; below 10 acts as 10 (R247). -/
def State.refreshDue (s : State) (k : Nat) : Bool :=
  s.on (SHU_REFRESH k) SHU_REFRESH_EN && decide (s.shu.refreshAt.look k + max 10 (s.g (SHU_REFRESH k) SHU_REFRESH_INTERVAL_S) * 1000000000 ≤ s.now)

/-- One step of the rolling refresh (R246, R247). The nanowords are written again as they are. -/
def execRefreshStep (k : Fin 16) (s : State) : Out :=
  .next (s.when (s.refreshDue k) (fun s =>
    let s := s.updShu (fun d => { d with refreshAt := d.refreshAt.put k s.now })
    if !s.on (SHU_STATUS k) SHU_STATUS_SPARE_VALID || s.gatedK k || s.reweaving k || !s.ddrTrained then s.inc (SHU_REFRESH_SKIPPED k)
    else match s.roleFrom k (s.shu.refreshNext.look k) with
      | none => s.inc (SHU_REFRESH_SKIPPED k)
      | some r =>
        let s := s.updShu (fun d => { d with refreshNext := d.refreshNext.put k ((r + 1) % 16) })
        if (s.shu.swaps.look k).isSome then s.updShu (fun d => { d with waitingSwaps := d.waitingSwaps.upd k (· ++ [⟨r, false, true, 0⟩]) })
        else s.swapAsk k r false true))

-- ===== service interface (R248) =====

/-- The pending request of agent `a` in cluster `k`. -/
def State.svcOf (s : State) (k a : Nat) : Option SvcReq := s.shu.svc.look (4 * k + a)

/-- Word `i` of a request. -/
def SvcReq.w (r : SvcReq) (i : Nat) : Word := r.words.getD i 0

/-- The role and the code that a request names. -/
def SvcReq.role (r : SvcReq) : Nat := bget (r.w 0) 20 4
def SvcReq.code (r : SvcReq) : Nat := bget (r.w 0) 0 16

/-- The answer in the agent's response registers, and SVC_DONE. -/
def State.svcAnswer (s : State) (k a : Nat) (w0 : Word) (status : Nat) (res : List Word) : State :=
  let b := akey a (SHU_SVC_RSP k)
  let s := s.wr b (word (bget w0 24 8 * 2 ^ 24 + status))
  let s := iter 7 (fun i s => s.wr (b + 4 + 4 * i) (res.getD i 0)) s
  (s.updShu (fun d => { d with svc := d.svc.put (4 * k + a) none })).ev (SHU_STATUS k) SHU_STATUS_SVC_DONE

/-- The role that a request names cannot run it (R248). -/
def State.svcDown (s : State) (k r : Nat) : Bool :=
  !s.on (SHU_MAP k r) SHU_MAP_VALID || decide (s.g (SHU_MAP k r) SHU_MAP_KIND = 6) || s.gatedK k || s.reweaving k

/-- The write of word 7 (R248). A shuttle has no mailbox. -/
def State.svcSubmit (s : State) (ag : Agent) (k : Nat) (v : Word) : State :=
  let a := agCode ag
  if 3 ≤ a then s
  else
    let s := s.wr (akey a (SHU_SVC_REQ k + 28)) v
    if (s.svcOf k a).isSome then s.ev (SHU_STATUS k) SHU_STATUS_SVC_BUSY
    else
      let ws := (List.range 8).map (fun i => s.rd (akey a (SHU_SVC_REQ k + 4 * i)))
      let r := bget (ws.headD 0) 20 4
      let s := s.inc (SHU_SVC_REQS k)
      if s.svcDown k r then s.svcAnswer k a (ws.headD 0) 4 []
      else (s.updShu (fun d => { d with svc := d.svc.put (4 * k + a) (some ⟨ws, s.now⟩) })).latchRole k r 3

def execSvcRequestSubmit (ag : Agent) (k : Fin 16) (v : Word) (s : State) : Out :=
  .next (s.bus ag (SHU_SVC_REQ k + 28) (fun s => s.svcSubmit ag k v))

/-- Run `f` on the pending request of an agent; none: a late answer is discarded. -/
def State.svcWith (s : State) (k a : Nat) (f : State → SvcReq → State) : State := match s.svcOf k a with
  | some r => if s.svcDown k r.role then s else f s r
  | none => s

/-- The kind of role that answers a code of R249 and R433; none for a code that the shipped images do not know. 8: every kind. -/
def svcKind (code : Nat) : Option Nat :=
  if code ≤ 1 then some 8 else if 0x101 ≤ code && code ≤ 0x104 then some 1 else if code = 0x201 then some 0
  else if code = 0x401 || code = 0x402 then some 3 else if code = 0x501 || code = 0x502 then some 5 else none

/-- A role answers a code of its kind; with another it answers unknown code (R249). -/
def State.svcRun (s : State) (k a code : Nat) (f : State → SvcReq → State × Nat × List Word) : State :=
  s.svcWith k a (fun s r =>
    if r.code ≠ code then s
    else
      let kind := svcKind code
      if kind = some 8 || kind = some (s.g (SHU_MAP k r.role) SHU_MAP_KIND) then
        let x := f s r
        x.1.svcAnswer k a (r.w 0) x.2.1 x.2.2
      else s.svcAnswer k a (r.w 0) 1 [])

/-- An answer of microcode: to a code of R249 and R433 sent to a role of another kind it is unknown code. -/
def execSvcAnswer (k : Fin 16) (a : Fin 3) (status : BitVec 16) (res : List Word) (s : State) : Out :=
  .next (s.svcWith k a (fun s r => match svcKind r.code with
    | some n =>
      if n = 8 || n = s.g (SHU_MAP k r.role) SHU_MAP_KIND then s.svcAnswer k a (r.w 0) status.toNat res
      else s.svcAnswer k a (r.w 0) 1 []
    | none => s.svcAnswer k a (r.w 0) status.toNat res))

/-- No answer within SVC_TIMEOUT_MS. -/
def execSvcTimeout (k : Fin 16) (a : Fin 3) (s : State) : Out :=
  .next (match s.svcOf k a with
    | some r =>
      if r.at_ + atLeast1 (s.g (SHU_CTL k) SHU_CTL_SVC_TIMEOUT_MS) * 1000000 ≤ s.now then
        ((s.svcAnswer k a (r.w 0) 0xFFFF []).inc (SHU_SVC_TIMEOUTS k)).ev (SHU_STATUS k) SHU_STATUS_SVC_TIMEOUT
      else s
    | none => s)

def execEcho (k : Fin 16) (a : Fin 3) (s : State) : Out :=
  .next (s.svcRun k a 0 (fun s r => (s, 0, r.words.drop 1)))

def execVersion (k : Fin 16) (a : Fin 3) (s : State) : Out :=
  .next (s.svcRun k a 1 (fun s r => (s, 0, (List.range 4).map (fun i => s.rd (SHU_VER k r.role + 4 * i)))))

/-- The channel of the role of a request. -/
def State.svcChan (s : State) (k : Nat) (r : SvcReq) : Nat := s.g (SHU_MAP k r.role) SHU_MAP_CHANNEL

def execOnuEnable (k : Fin 16) (a : Fin 3) (s : State) : Out :=
  .next (s.svcRun k a 0x101 (fun s r =>
    let c := s.svcChan k r
    let i := bget (r.w 1) 0 8
    if s.slotState c i = 5 then ((s.ploamSend c (.enableSn (s.slotSn c i))).slotEmpty c i, 0, []) else (s, 3, [])))

def execOnuDeactivate (k : Fin 16) (a : Fin 3) (s : State) : Out :=
  .next (s.svcRun k a 0x102 (fun s r =>
    let c := s.svcChan k r
    let i := bget (r.w 1) 0 8
    if s.slotState c i = 0 then (s, 3, []) else (s.deactivate c i, 0, [])))

def execOnuRerange (k : Fin 16) (a : Fin 3) (s : State) : Out :=
  .next (s.svcRun k a 0x103 (fun s r =>
    let c := s.svcChan k r
    let i := bget (r.w 1) 0 8
    if s.slotState c i = 2 then (s.rerangeStart c i, 0, []) else (s, 3, [])))

def execQwNow (k : Fin 16) (a : Fin 3) (s : State) : Out :=
  .next (s.svcRun k a 0x104 (fun s r =>
    let c := s.svcChan k r
    (if s.chState c = 2 then s.quietDue c else s.updRng c (fun h => { h with qwDue := true }), 0, [])))

def execShedState (k : Fin 16) (a : Fin 3) (s : State) : Out :=
  .next (s.svcRun k a 0x201 (fun s r =>
    let c := s.svcChan k r
    let i := bget (r.w 1) 0 9
    let x := s.alst c i
    let l := (s.pch.look c).openLo
    (s, 0, [word x.occ, word x.outOf, word (x.gotIn l), word (x.gotIn (l + 1)), word (s.demand c i)])))

/-- The message at the DPA goes out on the OMCC of the ONU (R249); `sf` is bits [31:0] of the superframe counter of the frame that carries
its first byte. -/
def execOmciTx (k : Fin 16) (a : Fin 3) (sf : Word) (s : State) : Out :=
  .next (s.svcRun k a 0x401 (fun s r =>
    let n := (r.w 4).toNat
    if 48 ≤ n && n ≤ 1980 then
      let m := s.ddrRds ((r.w 2).toNat + 2 ^ 32 * (r.w 3).toNat) n
      (s.updShu (fun d => { d with omcc := d.omcc.put (bget (r.w 1) 0 6) (some (bget (r.w 1) 16 10, m)) }), 0, [sf])
    else (s, 2, [])))

/-- A ring cannot be placed while DDR-5 is not trained (chapter 25). -/
def execOmciRing (k : Fin 16) (a : Fin 3) (s : State) : Out :=
  .next (s.svcRun k a 0x402 (fun s r =>
    let base := (r.w 1).toNat + 2 ^ 32 * (r.w 2).toNat
    let n := (r.w 3).toNat
    if base % 4096 ≠ 0 || n < 16 || 65536 < n || 2 ^ Nat.log2 n ≠ n then (s, 2, [])
    else if !s.ddrTrained then (s, 3, [])
    else (s.updShu (fun d => { d with ring := d.ring.put k (base, n, 0, 0) }), 0, [])))

/-- A message received on the OMCC of an ONU; `full` is whether the host has not yet read the entry that it would take (the spec
names no read pointer). An entry in a hole of DDR-5 takes no message (R69). -/
def execOmciRx (k : Fin 16) (c : Fin 64) (onu : Fin 1024) (msg : List Byte) (full : Bool) (s : State) : Out :=
  if 2032 < msg.length then .refused (.illFormed "OMCI_RX") else
  let g := s.shu.ring.look k
  let n := g.2.1
  let b := g.1 + 2048 * g.2.2.1
  .next (if n = 0 || full || !s.ddrUp || s.isHole b then s.inc (SHU_OMCI_RX_DROP k)
    else
      let h := word (c.val * 2 ^ 26 + onu.val * 2 ^ 16 + msg.length)
      let s := s.ddrWrs b (wordBytes h ++ wordBytes (word s.tim.ns) ++ wordBytes (word g.2.2.2) ++ [0, 0, 0, 0] ++ msg)
      s.updShu (fun d => { d with ring := d.ring.put k (g.1, n, (g.2.2.1 + 1) % n, (g.2.2.2 + 1) % 2 ^ 32) }))

def execPmClear (k : Fin 16) (a : Fin 3) (s : State) : Out :=
  .next (s.svcRun k a 0x501 (fun s r =>
    let o := bget (r.w 1) 0 16
    if 20544 ≤ o then (s, 2, []) else (s.pmClear o, 0, [])))

/-- The start of the running bin of length `w` (R431). -/
def execPmRoll (k : Fin 16) (a : Fin 3) (s : State) : Out :=
  .next (s.svcRun k a 0x502 (fun s r =>
    let w := (r.w 1).toNat
    if 1 < w then (s, 2, []) else (s.pmRoll w s.tim.sec true, 0, [])))

end Sys2Proof.Machine
end

