-- ==== Sys2Proof/Machine/HostWrite.lean ====
section
/-! DEFINITION. What a write and a read of each register does in its block (R7 to R10, R48, R52 to R54): the rule of the
register where it has one, else what its fields' access codes say. -/
namespace Sys2Proof.Machine

/-- A register access: who makes it, where, the indices of the array element, and the written word. -/
structure Acc where
  ag : Agent
  off : Nat
  i : Nat
  j : Nat
  v : Word
  deriving DecidableEq, Repr

-- ===== writes =====

/-- A write by the access codes alone: an agent's own copy, a sequence-checked clear, a half-mask write, a pair, or a plain
replacement of the writable fields. A read-only register keeps its value (R52). -/
def State.plainWrite (s : State) (f : RegFam) (x : Acc) : State :=
  if f.agent then s.wrMask (akey (agCode x.ag) x.off) f.rw x.v
  else if f.hmw then s.wrHalf x.off 0xFFFF x.v
  else if f.sqc ≠ 0 then s.wrSqc x.off f.rw f.sqc x.v
  else if f.pair = 1 && f.rw ≠ 0 then s.pairLo x.ag x.off x.v
  else if f.pair = 2 && f.rw ≠ 0 then s.pairHi x.ag x.off x.v
  else s.wrRW x.off x.v

/-- The code of a semaphore's owner (R63): 1 HPA, 2 HPB, 3 Temple, 4 shuttle microcode. -/
def semCode (ag : Agent) : Nat := min (agCode ag) 3 + 1

/-- A write of a semaphore (R63): of 0, the whole word (assumption 84), releases it. -/
def State.semWrite (s : State) (x : Acc) : State :=
  if x.v ≠ 0 then s
  else if s.g (HPI_SEM x.i) HPI_SEM_OWNER = semCode x.ag then s.p (HPI_SEM x.i) HPI_SEM_OWNER 0
  else s.hpiErr HPI_ERR_SEM_FOREIGN (agCode x.ag) 0 x.off

/-- A write of a port's MSI-X table (R58, R60): unmasking a vector that pends sends it. -/
def State.msixWrite (s : State) (x : Acc) : State :=
  let n := agCode x.ag
  let s := s.wr (akey n x.off) x.v
  let a := akey n (HPI_PBA (x.i / 32))
  if x.off % 16 = 12 && !x.v.getLsbD 0 && decide (n ≤ 1) && bit (s.rd a).toNat (x.i % 32) then
    let s := s.wr a (word (setBit (s.rd a).toNat (x.i % 32) false))
    { s with msi := s.msi.upd (2048 * n + x.i) (· + 1) }
  else s

/-- Whether an offset lies in the interrupt enable page of its block instance (R61). -/
def isIntEn (off : Nat) : Bool :=
  let n := blockOf off
  decide (0 < n) && decide (n < 200) && decide (intEn n 0 ≤ off) && decide (off < intEn n 16)

/-- A write of an enable register (R61): the old enables apply until the next cycle. -/
def State.intEnWrite (s : State) (off : Nat) (v : Word) : State :=
  let s := s.when (s.cyc.en.look off).isNone (fun s => s.updCyc (fun d => { d with en := d.en.put off (some (s.rd off)) }))
  s.wr off v

/-- A write of MEM[m]_RANK_MAP (R69): ranks newly mapped out leave service; clearing a bit changes only the register. -/
def State.rankMapWrite (s : State) (m : Nat) (v : Word) : State :=
  let mask := bget v 16 8
  let old := s.g (MEM_RANK_MAP m) MEM_RANK_MAP_MAP_OUT
  let new := (old &&& (255 - mask)) ||| (bget v 0 8 &&& mask)
  let s := s.wr (MEM_RANK_MAP m) (word new)
  let bits := new &&& (255 - s.g (MEM_STATUS m) MEM_STATUS_RANKS_MAPPED_OUT) &&& mask
  if bits = 0 then s else s.ranksOut m bits

/-- A write of a bucket setting of the Bolt (R414): the tokens so far accrue at the old rate, and the new BURST caps them. -/
def State.bltClassWrite (s : State) (x : Acc) : State :=
  let s := (s.fillTokens x.i).wrRW x.off x.v
  let a := BLT_CLASS x.i
  s.p a BLT_CLASS_TOKENS (min (s.g a BLT_CLASS_TOKENS) (s.g a BLT_CLASS_BURST))

/-- A write of CLS_PIPE_SP (R285): the bucket keeps its tokens. -/
def State.pipeSpWrite (s : State) (x : Acc) : State :=
  let n := s.spTokens x.i
  (s.updCls (fun d => { d with tok := d.tok.put x.i (some (n, s.now)) })).wrRW x.off x.v

/-- A write of TMG_PID (R308): SPREAD with QOFS above 2,040 is refused. -/
def State.pidWrite (s : State) (x : Acc) : State :=
  if x.v.getLsbD 30 && decide (2040 < bget x.v 0 11) then s.ev TMG_STATUS TMG_STATUS_NO_QUEUE else s.wrRW x.off x.v

/-- A write of TMG_SPILL (R316): what the meter worked off so far counts at the old rate. -/
def State.spillWrite (s : State) (v : Word) : State :=
  let n := s.spillDebt
  (s.updTmg (fun d => { d with spill := (n, s.now) })).wrRW TMG_SPILL v

/-- A write of the word of an entry whose words apply together (R289, R305, R328). -/
def State.applyWrite (s : State) (base n : Nat) (x : Acc) : State := (s.wrRW x.off x.v).applyWords base n

/-- The registers whose writes have a rule of their own: the offset of the first element's word, and the rule. -/
def writeRoutes : List (Nat × (State → Acc → State)) :=
  [(HPI_SEM 0, fun s x => s.semWrite x),
   (HPI_MSIX 0, fun s x => s.msixWrite x), (HPI_MSIX 0 + 4, fun s x => s.msixWrite x),
   (HPI_MSIX 0 + 8, fun s x => s.msixWrite x), (HPI_MSIX 0 + 12, fun s x => s.msixWrite x),
   (CLK_GATE 0, fun s x => s.gateWrite x.i x.v), (CLK_BLK_RST, fun s x => s.blkRstWrite x.v),
   (PWR_CTL, fun s x => s.pwrCtlWrite x.v), (PWR_SHU 0, fun s x => s.pwrShuWrite x.i x.v), (PWR_MEM, fun s x => s.pwrMemWrite x.v),
   (TMP_SAFE, fun s x => s.safeWrite x.ag x.v),
   (TMP_REACT 0, fun s x => s.reactWrite x.ag x.i x.v),
   (TMP_INJ_CTL, fun s x => s.injWrite x.v),
   (TIM_SERVO, fun s x => s.servoWrite x.v), (TIM_STEP_CTL, fun s x => s.stepWrite x.v), (TIM_PTP_OFS, fun s x => s.ptpOfs x.ag x.v),
   (TIM_PTP_TX_CTL, fun s x => s.ptpTxWrite x.ag x.v),
   (DRF_CTL, fun s x => s.drfCtlWrite x.v), (DRF_STREAM 0, fun s x => s.streamWrite x.ag x.off x.v),
   (SHU_SWAP 0, fun s x => s.swapWrite x.i x.v), (SHU_SVC_REQ 0 + 28, fun s x => s.svcSubmit x.ag x.i x.v),
   (PCH_CTL 0, fun s x => s.chCtlWrite x.i x.v), (PCH_SLEEP 0, fun s x => s.sleepWrite x.i x.v),
   (RNG_UT 0, fun s x => (s.wrRW x.off x.v).updRng x.i (fun r => { r with pResp := none })),
   (PCH_LOS_CTL 0, fun s x => s.losCtlWrite x.i x.v), (PCH_MOD_CMD 0, fun s x => s.modCmdWrite x.i x.v),
   (PCH_MOD_MUX 0, fun s x => s.modMuxWrite x.i x.v), (PCH_BRX_CTL 0, fun s x => s.brxCtlWrite x.i x.v),
   (PCH_MOD_DATA 0, fun s x => if s.on (PCH_MOD_CMD x.i) PCH_MOD_CMD_GO then s else s.wrRW x.off x.v),
   (SHD_SEAL_CTL 0, fun s x => s.sealCtlWrite x.i x.v),
   (SHD_LEDGER_CTL 0, fun s x => s.heldDrop x.ag x.i (fun s => s.ledgerCtlWrite x.i x.v)),
   (SHD_ALLOC_POL 0 0, fun s x => s.heldDrop x.ag x.i (fun s => s.wrRW x.off x.v)),
   (SHD_HINT_CTL 0, fun s x =>
     let s := s.wrRW x.off x.v
     if s.on x.off SHD_HINT_CTL_HINT_EN then s else s.clearHints x.i),
   (SHD_INQ_STATUS 0, fun s x =>
     let s := s.wrRW x.off x.v
     if x.v.getLsbD 31 then s.p x.off SHD_INQ_STATUS_HIGH_WATER (s.g x.off SHD_INQ_STATUS_DEPTH) else s),
   (SHD_HINT_IN 0 0, fun s x => s.hintInWrite x.ag x.i x.j x.v),
   (CLS_COMMIT, fun s x => s.commitWrite x.ag x.v),
   (CLS_TABLE_MISS 0, fun s x => s.applyWrite (CLS_TABLE_MISS x.i) 4 x),
   (CLS_RANGE 0 + 4, fun s x => s.applyWrite (CLS_RANGE x.i) 2 x),
   (CLS_PIPE_SP 0, fun s x => s.pipeSpWrite x),
   (FWD_NH0 0, fun s x => s.applyWrite (FWD_NH0 x.i) 4 x), (FWD_NH1 0, fun s x => s.applyWrite (FWD_NH1 x.i) 4 x),
   (FWD_BD 0, fun s x => s.applyWrite (FWD_BD x.i) 2 x),
   (TMG_FLUSH, fun s x => s.flushWrite x.v), (TMG_Q 0, fun s x => s.kidWrite x.i 4 x.off x.v), (TMG_PID 0, fun s x => s.pidWrite x),
   (TMG_GRP 0, fun s x => s.kidWrite (163840 + x.i) 2 x.off x.v), (TMG_MEMBER 0, fun s x => s.applyWrite (TMG_MEMBER x.i) 2 x),
   (TMG_SPILL, fun s x => s.spillWrite x.v),
   (BPM_POOL 0 + 12, fun s x => if x.v.getLsbD 31 then s.p (BPM_POOL x.i) BPM_POOL_LOW_WATER (s.g (BPM_POOL x.i) BPM_POOL_FREE) else s),
   (TRB_CM_CTL, fun s x => s.cmCtlWrite x.v), (TRB_CM_STBY 0, fun s x => s.cmWrite x.i x.v), (TRB_CTL, fun s x => s.trbCtlWrite x.v), (TRB_CM_ACT 0, fun s x => s.hpiErr HPI_ERR_UNMAPPED (agCode x.ag) 0 x.off),
   (CRY_BLOB_CTL, fun s x => s.blobWrite (agCode x.ag) x.v), (CRY_ERASE, fun s x => s.eraseWrite x.v),
   (CRY_SLOT_CLR, fun s x => s.slotClr (bget x.v 0 17)), (CRY_ENROL_CTL, fun s x => s.enrolWrite x.v),
   (CRY_ONU 0, fun s x => s.cryOnuWrite x.i x.v),
   (HSL_CTL 0, fun s x => s.hslCtlWrite x.i x.v), (HSL_LPI 0, fun s x => s.wrHalf x.off 3 x.v),
   (SLV_CTL, fun s x => s.slvCtlWrite x.v), (SLV_PROT_CTL, fun s x => s.protCtlWrite x.v), (SLV_MBX_TX_CTL, fun s x => s.mbxWrite (agCode x.ag) x.v),
   (SLV_MBX_RX_CTL, fun s x => (s.wrRW x.off x.v).mbxPop x.v), (SLV_IPROT 0, fun s x => s.iprotWrite x.i x.v),
   (TMP_WATCH 16, fun s x => s.watchWrite (16 + x.i) x.off x.v), (TMP_WATCH 16 + 4, fun s x => s.watchWrite (16 + x.i) x.off x.v),
   (TMP_WATCH 16 + 8, fun s x => s.watchWrite (16 + x.i) x.off x.v),
   (MEM_RANK_MAP 0, fun s x => s.rankMapWrite x.i x.v),
   (BLT_CUT_CMD, fun s x => s.cutCmdWrite x.v),
   (BLT_QUEUE_CLR, fun s x =>
     let s := s.wrRW x.off x.v
     if x.v.getLsbD 31 then s.p BLT_QUEUE BLT_QUEUE_HIGH_WATER (s.boltFill / 1024) else s),
   (BLT_CLASS 0, fun s x => s.bltClassWrite x), (BLT_CLASS 0 + 4, fun s x => s.bltClassWrite x),
   (PMC_BW_CTL 0, fun s x => s.bwCtlWrite x.i x.v), (PMC_AUDIT_CTL, fun s x => s.auditWrite x.v), (PMC_DUMP_CTL, fun s x => s.dumpCtlWrite x.v)]
  ++ (List.range 7).map (fun w => (TIM_TRIG 0 + 4 * w, fun s x => s.trigWrite x.ag x.i w x.v))
  ++ (List.range 7).map (fun w => (SHU_SVC_REQ 0 + 4 * w, fun s x =>
      if agCode x.ag ≤ 2 then s.wr (akey (agCode x.ag) x.off) x.v else s))
  ++ (List.range 8).map (fun w => (PCH_EQ 0 0 + 4 * w, fun s x => s.eqWrite x.i x.j w x.v))
  ++ (List.range 4).map (fun w => (SHD_ALLOC 0 0 + 4 * w, fun s x => s.heldDrop x.ag x.i (fun s => s.allocWrite x.i x.j w x.v)))
  ++ [(SHD_ALLOC 0 256, fun s x => s.heldDrop x.ag x.i (fun s => s.allocWrite x.i (x.j + 256) 0 x.v))]
  ++ (List.range 4).map (fun w => (FWD_MAC_CMD + 4 * w, fun s x => s.macCmdWrite x.ag w x.v))
  ++ (List.range 6).map (fun w => (FWD_RT_CMD + 4 * w, fun s x => s.rtCmdWrite x.ag w x.v))
  ++ (List.range 2).map (fun w => (TMG_UPORT 0 + 4 * w, fun s x => s.uportWrite x.i w x.v))
  ++ (List.range 4).map (fun w => (TMG_SHP 0 + 4 * w, fun s x => s.shpWrite x.i w x.v))
  ++ (List.range 5).map (fun w => (TMG_POL 0 + 4 * w, fun s x => s.polWrite x.i w x.v))
  ++ (List.range 8).map (fun w => (TRB_TRIB 0 + 4 * w, fun s x => s.tribWrite x.i w x.v))

/-- A write that its block takes. -/
def State.regWrite (s : State) (ag : Agent) (off : Nat) (v : Word) : State :=
  match famOf off with
  | none => s
  | some f =>
    let is := (f.idxOf off).getD []
    let x : Acc := ⟨ag, off, is.getD 0 0, is.getD 1 0, v⟩
    if isIntEn off then s.intEnWrite off v
    else match writeRoutes.find? (fun r => decide (r.1 = f.base)) with
      | some r => r.2 s x
      | none => s.plainWrite f x

/-- A write of any register by an agent, with its byte enables. -/
def State.write (s : State) (ag : Agent) (off be : Nat) (v : Word) : State := s.bridge ag off be (fun s => s.regWrite ag off v)

-- ===== reads =====

/-- Whether a pair is read as it stood before the cycle (R35): a counter is, a read-only pair or a performance counter. -/
def RegFam.counts (f : RegFam) (off : Nat) : Bool := decide (f.pair = 1) && !f.agent && (decide (f.rw = 0) || perfReg off)

/-- A read of a _LO word snapshots its _HI for the agent, in place of any earlier snapshot (R8, R10). -/
def State.snapHi (s : State) (ag : Agent) (off : Nat) (hi : Word) : State :=
  { s with agents := s.agents.upd (agCode ag) (fun a => { a with snap := [(off + 4, hi)] }) }

/-- A word as the agent's snapshot holds it, else as it stands. -/
def State.snapped (s : State) (ag : Agent) (off : Nat) : Word :=
  ((s.agents.look (agCode ag)).snap.find? (fun e => decide (e.1 = off))).elim (s.rd off) (·.2)

/-- A read of word 0 of a MAC entry snapshots words 1 to 3 for the agent (chapter 12, table windows). -/
def State.macSnap (s : State) (ag : Agent) (off : Nat) : State × Word :=
  ({ s with agents := s.agents.upd (agCode ag) (fun a =>
    { a with snap := [(off + 4, s.rd (off + 4)), (off + 8, s.rd (off + 8)), (off + 12, s.rd (off + 12))] }) }, s.rd off)

/-- A read by the access codes alone: WO bits read 0; a _HI word of the pair that the agent's latest _LO read snapshotted returns that
snapshot, and of another pair what the pair holds. A counter reads as it was before the cycle (R35). -/
def State.plainRead (s : State) (f : RegFam) (x : Acc) : State × Word :=
  let n := agCode x.ag
  if f.counts x.off then (s.snapHi x.ag x.off (word (s.was64 x.off / 2 ^ 32)), word (s.was64 x.off)) else
  let w := s.rd (if f.agent then akey n x.off else x.off)
  let w := word (w.toNat &&& (0xFFFFFFFF - f.wo))
  if f.pair = 1 then (s.snapHi x.ag x.off (s.rd (x.off + 4)), w)
  else if f.pair = 2 then
    match (s.agents.look n).snap.find? (fun e => decide (e.1 = x.off)) with
    | some e => (s, e.2)
    | none => (s, w)
  else (s, w)

/-- A read of a semaphore (R63). -/
def State.semRead (s : State) (ag : Agent) (i : Nat) : State × Word :=
  let o := s.g (HPI_SEM i) HPI_SEM_OWNER
  if o = 0 then (s.p (HPI_SEM i) HPI_SEM_OWNER (semCode ag), word (256 + semCode ag)) else (s, word o)

/-- The sum of 2^i over i < 32 with `p i`. -/
def bits32 (p : Nat → Bool) : Word := word (((List.range 32).map (fun i => if p i then 2 ^ i else 0)).sum)

/-- GLB_BOOT (R530). -/
def State.bootWord (s : State) : Word :=
  let b := [s.on (CLK_PLL 0) CLK_PLL_LOCKED, !s.tmp.held, decide (s.g CLK_STATUS CLK_STATUS_PRESENT ≠ 0),
    decide (s.g CLK_STATUS CLK_STATUS_QUALIFIED ≠ 0), decide (s.g DRF_STATUS DRF_STATUS_STATE = 5), s.ddrTrained, s.drf.cached,
    decide (s.rd CRY_OWNER ≠ 0), s.tim.absSet, s.tim.lockedOnce]
  bits32 (fun i => b.getD i false)

/-- Whether a blanking window covers a channel's defects. -/
def Pch.blanking (h : Pch) : Bool := h.blankDef || h.lolBlank || h.blankMute

/-- A word of the ledger window (R195). -/
def LEntry.word (e : LEntry) (w : Nat) : Word :=
  if w = 0 then Machine.word (e.state * 2 ^ 30 + e.outcome * 2 ^ 28 + e.channel * 2 ^ 22 + e.allocId)
  else if w = 1 then Machine.word e.frame else Machine.word e.sealNs

/-- An entry of the dump map (R440). -/
def dumpMapAt (i : Nat) : Word :=
  let r := (List.range 6).foldl (fun (acc : Nat × Option Nat) g =>
    match acc.2 with
    | some _ => acc
    | none => if acc.1 < dumpCount g then (acc.1, some ((dumpOffs g).getD acc.1 0)) else (acc.1 - dumpCount g, none)) (i, none)
  match r.2 with
  | some off => word (dumpClass off * 2 ^ 28 + off)
  | none => 0

/-- A word of the alarm SRAM window (R499). -/
def State.sramWord (s : State) (i : Nat) : Word := ((s.blt.sram.getD (i / 16) [])).getD (i % 16) 0

/-- A word of the head message of the receive mailbox (R411). -/
def State.mbxWord (s : State) (i : Nat) : Word := word (leNat (((s.slv.mbx.headD []).drop (4 * i)).take 4))

/-- A word with a live field in it. -/
def liveIn (w : Word) (f : Fld) (v : Nat) : Word := bset w f.lo f.w v

/-- The registers whose reads have a rule of their own: live values, heads of FIFOs, holding registers, reads with an effect. The last
argument is the stored word. SENSE_MV, a reading of the outside world that no command brings, is a free value (assumption 95). -/
def readRoutes : List (Nat × (State → Acc → Word → State × Word)) :=
  [(GLB_BOOT, fun s _ _ => (s, s.bootWord)),
   (HPI_IRQ_SUMMARY 0, fun s x _ => (s, bits32 (fun i => decide (32 * x.i + i < 200) && s.asserted (32 * x.i + i)))),
   (HPI_SEM 0, fun s x _ => s.semRead x.ag x.i),
   (PCH_STATUS 0, fun s x w => (s, liveIn w PCH_STATUS_TX_MUTED (b2n (s.txdis x.i)))),
   (PCH_DEFECT 0, fun s x w => (s, liveIn w PCH_DEFECT_BLANKING (b2n (s.pch.look x.i).blanking))),
   (PCH_ONU_DEF_SUM 0 0, fun s x _ => (s, bits32 (fun i => decide ((s.rd (PCH_ONU_DEF x.i (32 * x.j + i))).toNat % 32 ≠ 0)))),
   (TIM_TRIG_SUM, fun s _ _ => (s, bits32 (fun j => decide ((s.rd (TIM_TRIG j + 24)).toNat % 8 ≠ 0)))),
   (TIM_NOW_NS, fun s x _ => s.nowRead x.ag),
   (TIM_NOW_SEC, fun s x _ => (s, s.rd (akey (agCode x.ag) x.off))), (TIM_NOW_X, fun s x _ => (s, s.rd (akey (agCode x.ag) x.off))),
   (TIM_NOW64, fun s x _ => (s.snapHi x.ag x.off (word (s.t64 / 2 ^ 32)), word s.t64)),
   (TIM_NOW64 + 4, fun s x _ =>
     match (s.agents.look (agCode x.ag)).snap.find? (fun e => decide (e.1 = x.off)) with
     | some e => (s, e.2)
     | none => (s, word (s.t64 / 2 ^ 32))),
   (TIM_PPSIN 0 + 4, fun s x _ => s.ppsRead x.ag x.i),
   (TIM_PPSIN 0 + 8, fun s x _ => (s, s.rd (akey (agCode x.ag) x.off))), (TIM_PPSIN 0 + 12, fun s x _ => (s, s.rd (akey (agCode x.ag) x.off))),
   (TIM_TOD 0 + 8, fun s x w => (iter 3 (fun k s => s.wr (akey (agCode x.ag) (x.off + 4 * (k + 1))) (s.rd (x.off + 4 * (k + 1)))) s, w)),
   (TIM_TOD 0 + 12, fun s x _ => (s, s.rd (akey (agCode x.ag) x.off))), (TIM_TOD 0 + 16, fun s x _ => (s, s.rd (akey (agCode x.ag) x.off))),
   (TIM_TOD 0 + 20, fun s x _ => (s, s.rd (akey (agCode x.ag) x.off))),
   (FWD_MAC0 0, fun s x _ => s.macSnap x.ag x.off), (FWD_MAC1 0, fun s x _ => s.macSnap x.ag x.off),
   (TMP_FAULT_LOG + 12, fun s _ _ => s.faultPop),
   (TIM_TS_RX + 12, fun s _ _ => (s.updTim (fun d => { d with rx := d.rx.tail }), s.tsHead false 3)),
   (TIM_TS_TX + 12, fun s _ _ => (s.updTim (fun d => { d with tx := d.tx.tail }), s.tsHead true 3)),
   (PMC_TAG_FIFO 0 + 12, fun s x _ => (s.updPmc (fun d => { d with tagFifo := d.tagFifo.upd x.i (·.tail) }), (s.tagHead x.i).getD 3 0)),
   (CRY_NONCE 0, fun s x w => if x.i = 0 then (s.nonceDraw, s.nonceDraw.rd (CRY_NONCE 0)) else (s, w)),
   (SHD_LEDGER_LIVE 0, fun s x w => (s, liveIn (liveIn w SHD_LEDGER_LIVE_SHARED_FREE s.sharedFree.toNat) SHD_LEDGER_LIVE_OPEN (s.used x.i))),
   (BLT_STATUS, fun s _ w => (s, liveIn w BLT_STATUS_DDR_DOWN (b2n (!s.ddrUp)))),
   (BLT_CLASS 0 + 8, fun s x _ => (s.fillTokens x.i, (s.fillTokens x.i).rd x.off)),
   (BLT_QUEUE, fun s _ w => (s, liveIn w BLT_QUEUE_FILL (s.boltFill / 1024))),
   (TMG_Q 0 + 16, fun s x _ => (s, word (s.queue x.i).length)), (TMG_Q 0 + 20, fun s x _ => (s, word (cdiv (s.queueBytes x.i) 1024))),
   (TMG_Q 0 + 24, fun s x _ => (s, word (toBits 32 (s.tmg.deficits.look x.i)))),
   (TMG_ACCT 0 + 4, fun s x _ => (s, word (cdiv (s.acctBytes x.i) 1024))),
   (TRB_CM_STBY 0, fun s x w => (s, s.cmRead x.i w)),
   (PWR_RAIL 0 + 8, fun s _ w => (s.drawNat.2, liveIn w PWR_RAIL_SENSE_MV s.drawNat.1)),
   (TMP_ALERT, fun s _ w => (s, liveIn w TMP_ALERT_ALERT_LIVE (b2n s.alertLow))),
   (TMP_SAFE, fun s _ w => (s, liveIn w TMP_SAFE_RECENT (min 3 s.recentExits.length))),
   (TMP_UNIT_A 0, fun s x w => (s, liveIn w TMP_UNIT_A_TRANS_60S (min 255 (s.unitHist x.i).length))),
   (TMP_UNIT_B 0, fun s x w => (s, liveIn w TMP_UNIT_A_TRANS_60S (min 255 (s.unitHist (448 + x.i)).length))),
   (TMP_ASRAM, fun s _ w => (s, liveIn w TMP_ASRAM_FILL s.blt.sram.length)), (TMP_ASRAM_WIN 0, fun s x _ => (s, s.sramWord x.i)),
   (SLV_PROT_STATUS, fun s _ w => (s, liveIn w SLV_PROT_STATUS_READY (b2n s.ready))),
   (SLV_MBX_RX 0, fun s x _ => (s, s.mbxWord x.i)),
   (SLV_MBX_RX_CTL, fun s _ w =>
     (s, liveIn (liveIn w SLV_MBX_RX_CTL_VALID (b2n (!s.slv.mbx.isEmpty))) SLV_MBX_RX_CTL_LEN (s.slv.mbx.headD []).length)),
   (PMC_DUMP_COUNT 0, fun s x _ => (s, word (dumpCount x.i))), (PMC_DUMP_MAP 0, fun s x _ => (s, dumpMapAt x.i))]
  ++ (List.range 3).map (fun w => (FWD_MAC0 0 + 4 * (w + 1), fun s x _ => (s, s.snapped x.ag x.off)))
  ++ (List.range 3).map (fun w => (FWD_MAC1 0 + 4 * (w + 1), fun s x _ => (s, s.snapped x.ag x.off)))
  ++ (List.range 3).map (fun w => (SHD_LEDGER_WIN 0 + 4 * w, fun s x _ => (s, (s.ledger.look x.i).word w)))
  ++ (List.range 3).map (fun w => (TMP_FAULT_LOG + 4 * w, fun s _ _ => (s, (s.tmp.log.headD []).getD w 0)))
  ++ (List.range 3).map (fun w => (TIM_TS_RX + 4 * w, fun s _ _ => (s, s.tsHead false w)))
  ++ (List.range 3).map (fun w => (TIM_TS_TX + 4 * w, fun s _ _ => (s, s.tsHead true w)))
  ++ (List.range 3).map (fun w => (PMC_TAG_FIFO 0 + 4 * w, fun s x _ => (s, (s.tagHead x.i).getD w 0)))

/-- A read that its block answers. -/
def State.regRead (s : State) (ag : Agent) (off : Nat) : State × Word :=
  match famOf off with
  | none => (s, 0)
  | some f =>
    let is := (f.idxOf off).getD []
    let x : Acc := ⟨ag, off, is.getD 0 0, is.getD 1 0, 0⟩
    match readRoutes.find? (fun r => decide (r.1 = f.base)) with
    | some r => r.2 s x (s.rd off)
    | none => s.plainRead f x

/-- A read of any register by an agent. -/
def State.read (s : State) (ag : Agent) (off : Nat) : State := s.busRd ag off (fun s => s.regRead ag off)

end Sys2Proof.Machine
end

