-- ==== Sys2Proof/Machine/Engine.lean ====
section
/-! DEFINITION. The microthreads of the shuttles: microwords, nanowords and their five slots, thread faults and tags (R224 to R239,
R443 to R445). -/
namespace Sys2Proof.Machine

/-- Bits [lo+w-1:lo] of a number. -/
def fld (x lo w : Nat) : Nat := x / 2 ^ lo % 2 ^ w

/-- A general register: G0 reads as zero (R224). -/
def Thread.r (h : Thread) (i : Nat) : Nat := if i % 32 = 0 then 0 else h.regs.look (i % 32)

/-- Write a general register: writes to G0 are discarded. -/
def Thread.put (h : Thread) (i v : Nat) : Thread := if i % 32 = 0 then h else { h with regs := h.regs.put (i % 32) (v % 2 ^ 64) }

/-- The microword at a thread's program counter (R227) with its nanoword (R229); index 0 is all NOP. -/
structure Uop where
  pc : Nat
  nano : Nat
  seq : Nat
  imm : Nat
  nw : Nat
  deriving DecidableEq, Repr

def State.uop (s : State) (p t : Nat) : Uop :=
  let pc := (s.thread p t).pc
  let w := s.shu.ustore.look (16384 * p + pc)
  let n := bget w 20 12
  ⟨pc, n, bget w 16 4, bget w 0 16, if n = 0 then 0 else (s.shu.nstore.look (4096 * (p / 16) + n)).toNat⟩

/-- The slots of a nanoword. -/
def Uop.a (u : Uop) : Nat := fld u.nw 160 32
def Uop.b (u : Uop) : Nat := fld u.nw 128 32
def Uop.m (u : Uop) : Nat := fld u.nw 96 32
def Uop.q (u : Uop) : Nat := fld u.nw 80 16
def Uop.c (u : Uop) : Nat := fld u.nw 64 16
def Uop.const (u : Uop) : Nat := fld u.nw 0 64

/-- What one slot does to its thread: register writes, flags Z, C, N, V, single flags, a result that comes later, the own timer, and a
fault code (0: none). -/
structure SlotOut where
  regs : List (Nat × Nat) := []
  flags : Option (Bool × Bool × Bool × Bool) := none
  z : Option Bool := none
  c : Option Bool := none
  pend : Option PendOp := none
  timer : Option Nat := none
  fault : Nat := 0
  deriving DecidableEq, Repr

def SlotOut.none_ : SlotOut := {}

/-- A slot that raises a thread fault does nothing else. -/
def SlotOut.bad (code : Nat) : SlotOut := { fault := code }

-- ===== ALU slots (R230) =====

/-- Operand B. -/
def aluB (h : Thread) (u : Uop) (x : Nat) : Nat :=
  if fld x 10 2 = 0 then h.r (fld x 12 5) else if fld x 10 2 = 1 then toBits 64 (sext 16 u.imm)
  else if fld x 10 2 = 2 then u.const else fld x 12 5

/-- Leading zeros of a number of `w` bits. -/
def clz (w x : Nat) : Nat := if x = 0 then w else w - 1 - Nat.log2 x

/-- Set bits of a number of `w` bits. -/
def popCount (w x : Nat) : Nat := ((List.range w).filter (fun i => bit x i)).length

/-- The result of an operation on operands of `w` bits, before it is cut to `w` bits; `old` is the destination, `z` the Z flag. -/
def aluVal (op w a b old len : Nat) (z : Bool) (const : Nat) : Nat :=
  let sh := b % 64
  if op = 1 then a + b else if op = 2 || op = 20 then a + 2 ^ w - b
  else if op = 3 then a &&& b else if op = 4 then a ||| b else if op = 5 then a ^^^ b
  else if op = 6 then a * 2 ^ sh else if op = 7 then a / 2 ^ sh
  else if op = 8 then toBits w (sext w a / (2 ^ sh : Nat))
  else if op = 9 then b
  else if op = 10 then min a b else if op = 11 then max a b
  else if op = 12 then (if sext w a ≤ sext w b then a else b) else if op = 13 then (if sext w a ≤ sext w b then b else a)
  else if op = 14 then (if 64 ≤ b then 0 else a / 2 ^ b % 2 ^ len)
  else if op = 15 then (if 64 ≤ b then old else old % 2 ^ b + a % 2 ^ len * 2 ^ b + old / 2 ^ (b + len) * 2 ^ (b + len))
  else if op = 16 then clz w a else if op = 17 then popCount w a
  else if op = 18 then a * b else if op = 19 then a * b / 2 ^ 64
  else if op = 21 then (if z then a else b)
  else if op = 22 then (crcByte (word const) (word a) (BitVec.ofNat 8 b)).toNat
  else 0

/-- The flags of a result (R230): Z and N always; C and V of ADD, V of SUB and CMP; the spec states no other C or V: free values. -/
def State.aluFlags (s : State) (op w a b v : Nat) : State × (Bool × Bool × Bool × Bool) :=
  let d := s.draw
  let sg := fun x => bit x (w - 1)
  let c := if op = 1 then decide (2 ^ w ≤ a + b) else d.1.getLsbD 0
  let o := if op = 1 then sg a == sg b && sg v != sg a else if op = 2 || op = 20 then sg a != sg b && sg v != sg a else d.1.getLsbD 1
  (d.2, decide (v = 0), c, sg v, o)

/-- A random number for a thread: 0 while the entropy source fails, which also counts a fault of code 10 (R230). -/
def State.rnd (s : State) (p t pc : Nat) : State × Nat × Bool :=
  if s.on CRY_STATUS CRY_STATUS_ENT_FAIL then (s.faultRecord p t 10 pc, 0, true)
  else
    let a := s.draw
    let b := a.2.draw
    (b.2, a.1.toNat + 2 ^ 32 * b.1.toNat, false)

/-- An ALU slot. -/
def State.aluSlot (s : State) (p t : Nat) (h : Thread) (u : Uop) (x : Nat) : State × SlotOut :=
  let op := fld x 27 5
  let dst := fld x 22 5
  if op = 0 then (s, .none_)
  else if 25 ≤ op then (s, .bad 1)
  else
    let w := 8 * 2 ^ fld x 8 2
    let m := 2 ^ w
    let a := h.r (fld x 17 5) % m
    let b := aluB h u x % m
    let len := if fld x 1 6 = 0 then 64 else fld x 1 6
    let r := if op = 23 then s.rnd p t u.pc else (s, if op = 24 then s.t64 else aluVal op w a b (h.r dst % m) len h.z u.const, false)
    let v := r.2.1 % m
    let f := r.1.aluFlags op w a b v
    let setf := fld x 7 1 = 1 || op = 20
    let fl := if setf then some f.2 else none
    let s := if setf then f.1 else r.1
    let cf := if r.2.2 then some true else none
    if op = 23 then (s, { flags := fl, c := cf, pend := some ⟨dst, v, none, false, u.pc, false, 3⟩ })
    else (s, { regs := if op = 20 then [] else [(dst, v)], flags := fl })

-- ===== memory slot (R231, R237) =====

/-- Bytes of local memory (space 0) or of the cluster's shared memory (space 1), least significant first (assumption 60). -/
def State.memRd (s : State) (p space a n : Nat) : Nat :=
  leNat ((List.range n).map (fun i => if space = 0 then s.shu.loc.look (65536 * p + a + i) else s.shu.shared.look (2097152 * (p / 16) + a + i)))

def State.memWr (s : State) (p space a n v : Nat) : State :=
  iter n (fun i s => s.updShu (fun d =>
    if space = 0 then { d with loc := d.loc.put (65536 * p + a + i) (BitVec.ofNat 8 (fld v (8 * i) 8)) }
    else { d with shared := d.shared.put (2097152 * (p / 16) + a + i) (BitVec.ofNat 8 (fld v (8 * i) 8)) })) s

/-- The shuttle as an agent of the register bridge (R10, R231). -/
def shuAgent (p : Nat) : Agent := .shuttle (Fin.ofNat 256 p)

/-- The timer register of a thread in its cluster's aperture (R234; assumption 61). -/
def timerOff (p t : Nat) : Nat := SHU_CTL (p / 16) + Config.timerReg (8 * (p % 16) + t)

/-- RRD and RWR: an access through the bridge. -/
def State.memReg (s : State) (p t : Nat) (h : Thread) (u : Uop) (rd : Bool) (d a : Nat) : State × SlotOut :=
  if a % 4 ≠ 0 then (s, .bad 3)
  else if rd then
    let s := s.read (shuAgent p) a
    (s, { pend := some ⟨d, (s.agents.look (agCode (shuAgent p))).last.toNat, none, false, u.pc, true, 2⟩ })
  else if a = timerOff p t then (s, { timer := some (h.r d % 2 ^ 32) })
  else (s.write (shuAgent p) a 15 (word (h.r d)), .none_)

/-- An access of local or shared memory: LD, ST, CAS, FADD. -/
def State.memWord (s : State) (p : Nat) (h : Thread) (u : Uop) (op space d a n : Nat) : State × SlotOut :=
  if a % n ≠ 0 then (s, .bad 3)
  else if (if space = 0 then 65536 else 2097152) < a + n then (s, .bad 4)
  else
    let m := 2 ^ (8 * n)
    let old := s.memRd p space a n
    let back := fun z => ({ pend := some ⟨d, old, z, true, u.pc, true, space⟩ } : SlotOut)
    if op = 1 then (s, back none)
    else if op = 2 then (s.memWr p space a n (h.r d % m), .none_)
    else if op = 3 then
      let eq := decide (old = h.r d % m)
      (s.when eq (fun s => s.memWr p space a n (h.r (d + 1) % m)), back (some eq))
    else (s.memWr p space a n ((old + h.r d) % m), back none)

def State.memSlot (s : State) (p t : Nat) (h : Thread) (u : Uop) : State × SlotOut :=
  let x := u.m
  let op := fld x 28 4
  let space := fld x 26 2
  let a := (h.r (fld x 16 5) + fld x 0 14) % 2 ^ 64
  if op = 0 then (s, .none_)
  else if 8 ≤ op || space = 3 || ((op = 3 || op = 4) && space ≠ 1) || (op ≤ 2 && space = 2) then (s, .bad 1)
  else if op = 7 then (s, .none_)
  else if 5 ≤ op then s.memReg p t h u (op = 5) (fld x 21 5) a
  else s.memWord p h u op space (fld x 21 5) a (2 ^ fld x 14 2)

-- ===== queue slot (R232, R238, R257) =====

/-- The entries that wait on a port; an upstream PLOAM has no words of its own. -/
def State.portItems (s : State) (k r port : Nat) : List (List Word) :=
  let b := s.drf.ports.look (portKey k r port)
  if b.push then []
  else if b.work && s.leaving k r then []
  else if b.bind = 0 then s.shu.ports.look (portKey k r port)
  else if b.bind = 1 then ((s.shd.look b.index).inq).map (fun e => [e.w0, e.w1, e.w2, e.w3])
  else if b.bind = 3 then (s.pch.look b.index).bkq
  else if b.bind = 5 then (s.shu.upPloam.look b.index).map (fun _ => [])
  else if b.bind = 6 then s.shu.work.look b.index
  else []

/-- The fill of a port, and whether it is full (R112, R138, R183, R415); the response and work queues have no stated size. -/
def State.portFill (s : State) (k r port : Nat) : Nat :=
  let b := s.drf.ports.look (portKey k r port)
  if !b.push then (s.portItems k r port).length
  else if b.bind = 1 then (s.shd.look b.index).inq.length
  else if b.bind = 4 then (s.pch.look b.index).ploamQ.length
  else if b.bind = 6 then (s.shu.work.look b.index).length
  else if b.bind = 7 then (s.blt.queue.filter (fun e => decide (e.1 = b.index))).length
  else 0

def State.portFull (s : State) (k r port : Nat) : Bool :=
  let b := s.drf.ports.look (portKey k r port)
  if b.bind = 1 then decide (2048 ≤ (s.shd.look b.index).inq.length)
  else if b.bind = 3 && !b.push then decide (1024 ≤ (s.pch.look b.index).bkq.length)
  else if !b.push then false
  else if b.bind = 4 then decide (64 ≤ (s.pch.look b.index).ploamQ.length)
  else if b.bind = 7 then decide (rankLimit b.index ≤ s.boltFill)
  else !(b.bind = 2 || b.bind = 6)

/-- Take the head entry away. -/
def State.portTake (s : State) (k r port : Nat) : State :=
  let b := s.drf.ports.look (portKey k r port)
  if b.bind = 0 then s.updShu (fun d => { d with ports := d.ports.upd (portKey k r port) (·.tail) })
  else if b.bind = 1 then (s.updShd b.index (fun h => { h with inq := h.inq.tail })).inqSync b.index
  else if b.bind = 3 then s.updPch b.index (fun h => { h with bkq := h.bkq.tail })
  else if b.bind = 5 then s.updShu (fun d => { d with upPloam := d.upPloam.upd b.index (·.tail) })
  else s.updShu (fun d => { d with work := d.work.upd b.index (·.tail) })

/-- `n` words of an entry; what an entry does not hold is a free value. -/
def State.entryWords (s : State) (l : List Word) : Nat → State × List Word
  | 0 => (s, [])
  | n + 1 =>
    let r := s.entryWords l n
    match l.drop n |>.head? with
    | some w => (r.1, r.2 ++ [w])
    | none =>
      let d := r.1.draw
      (d.2, r.2 ++ [d.1])

/-- The registers that the words of an entry go to, two words each. -/
def packRegs (reg : Nat) (l : List Word) : List (Nat × Nat) :=
  (List.range ((l.length + 1) / 2)).map (fun j => (reg + j, (l.getD (2 * j) 0).toNat + 2 ^ 32 * (l.getD (2 * j + 1) 0).toNat))

/-- The held item of a thread is complete: its queue drops the copy. -/
def State.complete (s : State) (p t : Nat) : State := s.updThread p t (fun x => { x with held := none, heldUp := none, heldAgain := false })

/-- POP of a port that is not empty: from a work port, the entry becomes the held item, known if it was requeued before (R238, R239). -/
def State.popItem (s : State) (p t k r port : Nat) (e : List Word) : State :=
  let b := s.drf.ports.look (portKey k r port)
  let up := if b.bind = 5 then (s.shu.upPloam.look b.index).head? else none
  let s := s.portTake k r port
  if !b.work then s
  else
    let q := portQueue b (portKey k r port)
    let l := s.shu.again.look q
    let s := s.updShu (fun d => { d with again := d.again.put q (l.erase e) })
    s.updThread p t (fun x => { x with held := some (q, e), heldUp := up, heldAgain := l.contains e })

/-- The records of a class are this many words (R412). -/
def recWords (cls : Nat) : Nat := if cls = 2 || cls = 6 then 32 else if cls = 3 then 8 else if cls = 4 then 4 else 16

/-- A PUSH that finds room: the block behind the port takes the words. -/
def State.pushItem (s : State) (k r port : Nat) (l : List Word) : State :=
  let b := s.drf.ports.look (portKey k r port)
  let w := fun i => l.getD i 0
  if b.bind = 1 then (s.inqPush b.index ⟨w 0, w 1, w 2, w 3⟩).1
  else if b.bind = 2 then
    let g := s.grantWrite b.index ⟨w 0, w 1, w 2⟩
    if g.2 then g.1 else g.1.respond k r port
  else if b.bind = 4 then s.ploamSend b.index (.raw (l.flatMap wordBytes))
  else if b.bind = 6 then s.updShu (fun d => { d with work := d.work.upd b.index (· ++ [l]) })
  else
    let e := s.entryWords l (recWords b.index)
    e.1.boltProduce b.index e.2

/-- The words that a PUSH moves. -/
def pushWords (h : Thread) (reg n : Nat) : List Word :=
  (List.range n).map (fun i => word (h.r (reg + i / 2) / 2 ^ (32 * (i % 2))))

/-- A refused PLOAM sets PLOAM_FULL (R112). -/
def State.pushRefused (s : State) (k r port : Nat) : State :=
  let b := s.drf.ports.look (portKey k r port)
  if b.push && b.bind = 4 then s.ev (DSF_STATUS b.index) DSF_STATUS_PLOAM_FULL
  else if b.push && b.bind = 1 then s.respond k r port else s

def State.queueSlot (s : State) (p t k r : Nat) (h : Thread) (u : Uop) : State × SlotOut :=
  let x := u.q
  let op := fld x 13 3
  let port := fld x 8 5
  let reg := fld x 3 5
  let n := if fld x 0 3 = 0 then 8 else fld x 0 3
  if op = 0 then (s, .none_)
  else if 4 ≤ op then (s, .bad 1)
  else if op = 1 then
    let b := s.drf.ports.look (portKey k r port)
    let l := s.portItems k r port
    let s := s.when b.work (fun s => s.complete p t)
    match l with
    | [] => (s, { z := some true })
    | e :: _ =>
      let s := s.popItem p t k r port e
      let w := s.entryWords e n
      let w := if n % 2 = 1 then w.1.entryWords w.2 (n + 1) else w
      (w.1, { regs := packRegs reg w.2, z := some false })
  else if op = 2 then
    if !(s.drf.ports.look (portKey k r port)).push || s.portFull k r port then (s.pushRefused k r port, { c := some true })
    else (s.pushItem k r port (pushWords h reg n), { c := some false })
  else (s, { regs := [(reg, s.portFill k r port)] })

-- ===== condition and sequencing (R228, R233) =====

/-- COND. -/
def State.condOf (s : State) (k r : Nat) (h : Thread) (u : Uop) : Bool :=
  let x := u.c
  let g := fld x 7 5
  let i := fld x 1 6
  match fld x 12 4 with
  | 0 => true
  | 1 => h.z
  | 2 => !h.z
  | 3 => h.c
  | 4 => !h.c
  | 5 => h.n
  | 6 => !h.n
  | 7 => h.v
  | 8 => decide (s.portFill k r g = 0)
  | 9 => decide (s.portFill k r g ≠ 0)
  | 10 => s.portFull k r g
  | 11 => bit h.latch i
  | 12 => bit (h.r g) i
  | 13 => !bit (h.r g) i
  | _ => false

/-- What SEQ makes of a thread: the next program counter, loop counter and call stack, whether a branch is taken, and a fault code. -/
structure SeqOut where
  pc : Nat
  loop : Nat
  stack : List Nat
  taken : Bool
  fault : Nat
  deriving DecidableEq, Repr

/-- A branch to a target, which must fit 14 bits (R227). -/
def branchTo (h : Thread) (stack : List Nat) (loop x : Nat) : SeqOut :=
  if 16384 ≤ x then ⟨h.pc, loop, stack, true, 2⟩ else ⟨x, loop, stack, true, 0⟩

def seqOf (h : Thread) (u : Uop) (cond : Bool) : SeqOut :=
  let nxt := (u.pc + 1) % 16384
  let on_ := fun (l : Nat) => (⟨nxt, l, h.stack, false, 0⟩ : SeqOut)
  let creg := h.r (fld u.c 7 5)
  match u.seq with
  | 1 => if cond then branchTo h h.stack h.loop u.imm else on_ h.loop
  | 2 =>
    if !cond then on_ h.loop
    else if 8 ≤ h.stack.length then ⟨u.pc, h.loop, h.stack, true, 5⟩
    else branchTo h (nxt :: h.stack) h.loop u.imm
  | 3 =>
    if !cond then on_ h.loop
    else match h.stack with
      | [] => ⟨u.pc, h.loop, [], true, 5⟩
      | a :: l => ⟨a, h.loop, l, true, 0⟩
  | 4 =>
    let l := (h.loop + 65535) % 65536
    if l ≠ 0 then branchTo h h.stack l u.imm else on_ l
  | 5 => on_ u.imm
  | 8 => branchTo h h.stack h.loop (u.imm + fld creg (fld u.c 1 6) 4)
  | 9 => branchTo h h.stack h.loop u.imm
  | 10 => ⟨u.pc, h.loop, h.stack, false, 7⟩
  | 11 => if cond then branchTo h h.stack h.loop (creg % 16384) else on_ h.loop
  | 12 | 13 | 14 | 15 => ⟨u.pc, h.loop, h.stack, false, 1⟩
  | _ => on_ h.loop

-- ===== readiness (R225, R235) =====

/-- The registers an ALU slot reads. -/
def aluReads (x : Nat) : List Nat :=
  let op := fld x 27 5
  if op = 0 || op = 23 || op = 24 || 25 ≤ op then []
  else (if op = 9 then [] else [fld x 17 5]) ++ (if fld x 10 2 = 0 && op ≠ 16 && op ≠ 17 then [fld x 12 5] else [])
    ++ (if op = 15 then [fld x 22 5] else [])

/-- The registers a microword reads. -/
def Uop.reads (u : Uop) : List Nat :=
  let m := fld u.m 28 4
  let n := if fld u.q 0 3 = 0 then 8 else fld u.q 0 3
  aluReads u.a ++ aluReads u.b
    ++ (if m = 0 || m = 7 || 8 ≤ m then [] else [fld u.m 16 5] ++ (if m = 1 || m = 5 then [] else [fld u.m 21 5])
      ++ (if m = 3 then [fld u.m 21 5 + 1] else []))
    ++ (if fld u.q 13 3 = 2 then (List.range ((n + 1) / 2)).map (fun j => fld u.q 3 5 + j) else [])
    ++ (if fld u.c 12 4 = 12 || fld u.c 12 4 = 13 || u.seq = 8 || u.seq = 11 then [fld u.c 7 5] else [])

/-- Whether a microword reads the Z flag. -/
def Uop.readsZ (u : Uop) : Bool := fld u.a 27 5 = 21 || fld u.b 27 5 = 21 || fld u.c 12 4 = 1 || fld u.c 12 4 = 2

/-- A thread whose microword reads a result not yet available, or holds at FENCE, is stalled (R231, R235). -/
def State.stalled (s : State) (p t : Nat) : Bool :=
  let u := s.uop p t
  (s.thread p t).pend.any (fun e => u.reads.any (fun i => decide (i % 32 = e.reg)) || (u.readsZ && e.z.isSome) || (fld u.m 28 4 = 7 && e.mem))

/-- Whether the condition of a thread's WAIT holds. A thread of a role on its way to the spare stays where it waits without an item
(R244). -/
def State.waitOver (s : State) (p t : Nat) : Bool :=
  let k := p / 16
  let r := (s.roleOf p).getD 0
  s.condOf k r (s.thread p t) (s.uop p t) && !(s.leaving k r && (s.thread p t).held.isNone)

/-- A ready thread (R225): not stopped, not stalled, and not at a WAIT whose condition does not hold. -/
def State.threadReady (s : State) (p t : Nat) : Bool :=
  !(s.thread p t).aborted && !s.stalled p t && (decide ((s.uop p t).seq ≠ 6) || s.waitOver p t)

/-- Whether physical shuttle `p` runs threads of a role other than SPARE; the pool roles of a cluster that is rewoven have stopped (R266). -/
def State.running_ (s : State) (p : Nat) : Bool :=
  let k := p / 16
  let b := s.blks.look (16 + k)
  !s.shu.stopped.look p && !s.gatedK k && b.released && !b.gated && !b.resetting
    && (match s.roleOf p with
      | some r =>
        let kind := s.g (SHU_MAP k r) SHU_MAP_KIND
        s.on (SHU_MAP k r) SHU_MAP_VALID && decide (kind ≠ 6) && !(s.reweaving k && decide (3 ≤ kind) && decide (kind ≤ 5))
      | none => false)

/-- A ready thread that may be picked: after YIELD, only once every other ready thread has issued (R228). -/
def State.pickable (s : State) (p t : Nat) : Bool :=
  s.threadReady p t && (List.range 8).all (fun i => !(bit (s.thread p t).aside i && decide (i ≠ t) && s.threadReady p i))

/-- The thread that a shuttle picks (R225): round robin, starting after the thread that issued last. -/
def State.pick (s : State) (p : Nat) : Option Nat :=
  ((List.range 8).map (fun i => (s.shu.turn.look p + i) % 8)).find? (fun i => s.pickable p i)

/-- Whether a thread issues now. -/
def State.mayIssue (s : State) (p t : Nat) : Bool := s.running_ p && decide (s.pick p = some t)

-- ===== issue =====

/-- A slot's results reach its thread. -/
def Thread.take (h : Thread) (o : SlotOut) : Thread :=
  let h := o.regs.foldl (fun h e => h.put e.1 e.2) h
  let h := match o.flags with
    | some f => { h with z := f.1, c := f.2.1, n := f.2.2.1, v := f.2.2.2 }
    | none => h
  { h with z := o.z.getD h.z, c := o.c.getD h.c, pend := h.pend ++ o.pend.toList, timer := o.timer <|> h.timer }

/-- The lowest fault code of the slots and SEQ; 0 where there is none. -/
def faultCode (l : List Nat) : Nat := (l.filter (fun x => decide (x ≠ 0))).foldl min 16 % 16

/-- An issue passes the turn to the next thread (R225), ends the aside of the threads that waited for it, and YIELD begins one. -/
def State.asides (s : State) (p t : Nat) (yield : Bool) : State :=
  let m := ((List.range 8).map (fun i => if i ≠ t && s.threadReady p i then 2 ^ i else 0)).sum
  let s := s.updShu (fun d => { d with turn := d.turn.put p ((t + 1) % 8) })
  let s := iter 8 (fun i s => s.updThread p i (fun x => { x with aside := setBit x.aside t false })) s
  s.updThread p t (fun x => { x with aside := if yield then m else 0 })

/-- The slot of a cycle is RETIRED or WASTED (R443, R444). -/
def State.slotCount (s : State) (k r : Nat) (wasted : Bool) : State :=
  s.perf (if wasted then PMC_SLOT_WASTED (16 * k + r) else PMC_SLOT_RETIRED (16 * k + r)) 1 (16 * k + r)

/-- The draw of a tag (R445). When the microword was issued and whether it stalled before are left free. -/
def State.tagDraw (s : State) (k r t : Nat) (u : Uop) (taken : Bool) : State :=
  if !s.on (PMC_TAG_CTL k) PMC_TAG_CTL_EN || !bit (s.g (PMC_TAG_CTL k) PMC_TAG_CTL_ROLES) r then s
  else
    let d := s.draw
    let s := d.2
    if d.1.toNat % 2 ^ clampN 4 20 (s.g (PMC_TAG_CTL k) PMC_TAG_CTL_K) ≠ 0 then s
    else
      let c := s.draw
      let e := c.2.draw
      let fl := b2n (fld u.a 27 5 ≠ 0 || fld u.b 27 5 ≠ 0) * 128 + b2n (fld u.m 28 4 ≠ 0) * 64 + b2n (fld u.q 13 3 ≠ 0) * 32
        + fld u.m 26 2 * 8 + b2n taken * 4 + e.1.toNat % 2
      let g : Tag := ⟨word (2 ^ 31 + r * 2 ^ 24 + t * 2 ^ 21 + u.pc), c.1, fl⟩
      if (s.pmc.tag.look k).isSome then (e.2.perf (PMC_TAG_SKIPPED k) 1 (320 + k)).updCyc (fun x => { x with tags := x.tags.put k (some g) })
      else e.2.updPmc (fun x => { x with tag := x.tag.put k (some g) })

/-- Each RND that the failing entropy source refuses counts one transient of the shuttle, and the thread goes on (R230, R239). -/
def State.rndReport (s : State) (p : Nat) (u : Uop) : State :=
  if s.on CRY_STATUS CRY_STATUS_ENT_FAIL then
    iter (b2n (fld u.a 27 5 = 23) + b2n (fld u.b 27 5 = 23)) (fun _ s => s.report 0x10 (96 + p)) s
  else s

/-- One microword issues (R225 to R239): every slot reads as things stood before, then writes; `parity` is whether a register it read
failed its parity check. -/
def State.issue (s : State) (p t : Nat) (parity : Bool) : State :=
  let k := p / 16
  let r := (s.roleOf p).getD 0
  let u := s.uop p t
  let h := s.thread p t
  if parity then (((s.tagDraw k r t u false).slotCount k r true).asides p t false).threadFails p t 9 u.pc
  else
    let cond := s.condOf k r h u
    let empty := fld u.q 13 3 = 1 && (s.drf.ports.look (portKey k r (fld u.q 8 5))).work && decide (s.portItems k r (fld u.q 8 5) = [])
    let sq := seqOf h u cond
    let a := s.aluSlot p t h u u.a
    let b := a.1.aluSlot p t h u u.b
    let q := b.1.queueSlot p t k r h u
    let m := q.1.memSlot p t h u
    let code := faultCode [a.2.fault, b.2.fault, q.2.fault, m.2.fault, sq.fault]
    let s := m.1.updThread p t (fun x => (((x.take a.2).take b.2).take q.2).take m.2)
    let s := s.tagDraw k r t u sq.taken
    let s := s.slotCount k r (code ≠ 0 || (u.nano = 0 && u.seq = 0) || empty)
    let s := s.asides p t (u.seq = 7)
    if code ≠ 0 then (s.when (code = 7) (fun s => s.p (SHU_FAULT_IMM k) SHU_FAULT_IMM_IMM u.imm)).threadFails p t code u.pc |>.rndReport p u
    else
      let s := s.when (u.seq = 9) (fun s => s.complete p t)
      let clr := u.seq = 6 && fld u.c 12 4 = 11
      let s := s.updThread p t (fun x => { x with
        pc := sq.pc, loop := sq.loop, stack := sq.stack, waiting := false,
        latch := if clr then setBit x.latch (fld u.c 1 6) false else x.latch,
        issued := if u.seq = 6 || u.seq = 7 || u.seq = 9 then 0 else x.issued + 1,
        aborted := x.aborted || (u.seq = 9 && s.leaving k r) })
      s.rndReport p u

/-- A thread issues its microword, where its SEQ is of the row. -/
def State.seqRow (s : State) (sh : Fin 256) (t : Fin 8) (parity : Bool) (ok : Nat → Bool) : Out :=
  .next (s.when (s.mayIssue sh t && !(s.thread sh t).waiting && ok (s.uop sh t).seq) (fun s => s.issue sh t parity))

def execSeqNext (sh : Fin 256) (t : Fin 8) (parity : Bool) (s : State) : Out := s.seqRow sh t parity (· == 0)
def execSeqJmp (sh : Fin 256) (t : Fin 8) (parity : Bool) (s : State) : Out := s.seqRow sh t parity (· == 1)
def execSeqCall (sh : Fin 256) (t : Fin 8) (parity : Bool) (s : State) : Out := s.seqRow sh t parity (· == 2)
def execSeqRet (sh : Fin 256) (t : Fin 8) (parity : Bool) (s : State) : Out := s.seqRow sh t parity (· == 3)
def execSeqLoop (sh : Fin 256) (t : Fin 8) (parity : Bool) (s : State) : Out := s.seqRow sh t parity (· == 4)
def execSeqLdloop (sh : Fin 256) (t : Fin 8) (parity : Bool) (s : State) : Out := s.seqRow sh t parity (· == 5)
def execSeqYield (sh : Fin 256) (t : Fin 8) (parity : Bool) (s : State) : Out := s.seqRow sh t parity (· == 7)
def execSeqDisp (sh : Fin 256) (t : Fin 8) (parity : Bool) (s : State) : Out := s.seqRow sh t parity (· == 8)
def execSeqDone (sh : Fin 256) (t : Fin 8) (parity : Bool) (s : State) : Out := s.seqRow sh t parity (· == 9)
/-- FAULT, and the reserved codes 12 to 15, which raise a thread fault too. -/
def execSeqFault (sh : Fin 256) (t : Fin 8) (parity : Bool) (s : State) : Out :=
  s.seqRow sh t parity (fun x => x == 10 || decide (12 ≤ x))
def execSeqJmpr (sh : Fin 256) (t : Fin 8) (parity : Bool) (s : State) : Out := s.seqRow sh t parity (· == 11)

/-- A thread meets WAIT (R228): it goes on where the condition holds already, else it waits, which takes no issue. -/
def execSeqWait (sh : Fin 256) (t : Fin 8) (parity : Bool) (s : State) : Out :=
  let h := s.thread sh t
  .next (if h.waiting || decide ((s.uop sh t).seq ≠ 6) then s
    else if s.mayIssue sh t then s.issue sh t parity
    else s.when (s.running_ sh && !h.aborted && !s.stalled sh t && !s.waitOver sh t) (fun s =>
      s.updThread sh t (fun x => { x with waiting := true, issued := 0 })))

def execWaitSatisfied (sh : Fin 256) (t : Fin 8) (parity : Bool) (s : State) : Out :=
  .next (s.when ((s.thread sh t).waiting && s.mayIssue sh t) (fun s => s.issue sh t parity))

/-- A result from `src` reaches its thread, the oldest of those on their way from there (R235, R236, R237): of a memory word, corrected
(`res` 1) or beyond correction (2). -/
def State.memComplete (s : State) (p t src res : Nat) : State :=
  match (s.thread p t).pend.find? (fun e => decide (e.src = src)) with
  | none => s
  | some e =>
    if e.word && res = 2 then s.threadFails p t 8 e.pc
    else
      (s.when (e.word && res = 1) (fun s => s.inc (SHU_CORRECTED (p / 16)))).updThread p t (fun x =>
        let x := { x with pend := x.pend.erase e, z := e.z.getD x.z }
        x.put e.reg e.val)

/-- MEM_OP_COMPLETE (R235): the oldest result of one source of a thread arrives. -/
def execMemOpComplete (sh : Fin 256) (t : Fin 8) (m : MemDone) (s : State) : Out := .next (s.memComplete sh t m.src m.res)

/-- The watchdog (R239): WATCHDOG × 1,024 microwords without WAIT, YIELD or DONE; 0 acts as 1. -/
def execThreadWatchdog (sh : Fin 256) (t : Fin 8) (s : State) : Out :=
  .next (s.when (s.running_ sh && decide (atLeast1 (s.g (SHU_CTL (sh / 16)) SHU_CTL_WATCHDOG) * 1024 ≤ (s.thread sh t).issued)) (fun s =>
    s.threadFails sh t 6 (s.thread sh t).pc))

/-- The own timer of a thread runs out (R234). -/
def execThreadTimerExpiry (sh : Fin 256) (t : Fin 8) (s : State) : Out :=
  .next (s.when (s.thread sh t).timer.isSome (fun s =>
    s.updThread sh t (fun x => { x with timer := none, latch := setBit x.latch 2 true })))

end Sys2Proof.Machine
end

