-- ==== Sys2Proof/Machine/Frame.lean ====
section
/-! DEFINITION. The frames on the wire (chapter 4): the first PSync, every PSync, and the draw of XGEM frames. -/
namespace Sys2Proof.Machine

/-- Latch device time at a PSync and compute the next seal time and cutoff (R105, R107, R219). -/
def State.psyncLatch (s : State) (c n : Nat) : State :=
  let s := (s.wr64 (DSF_SFC c) (n % 2 ^ 51)).wr64 (DSF_PSYNC_SEC c) s.tim.sec
  let s := s.wr (DSF_PSYNC_NS c) (word s.tim.ns)
  s.updPch c (fun h => { h with leadNext := clampN 1200 62500 (s.g (SHD_SEAL_CTL c) SHD_SEAL_CTL_LEAD_NS),
                                cutNext := clampN 200 7000 (s.g (SHD_TIMING c) SHD_TIMING_CUTOFF_NS) })

/-- The counter value that the first PSync carries if it leaves now (R76, R77, R102, R103): on a free start SFC_INIT; beside a running
mate of a pair, within 8 ns of its PSync, the mate's; else at an aligned instant the one that device time gives. -/
def State.firstCounter (s : State) (c : Nat) : Option Nat :=
  let h := s.pch.look c
  let m := s.pch.look (mate c)
  if h.pair && m.running && m.pair && decide (s.chState (mate c) ≠ 0) && decide (s.chState (mate c) ≠ 4) then
    let d : Int := (s.devNs : Int) - s.psyncNs (mate c)
    if d.natAbs ≤ 8 then some (s.rd64 (DSF_SFC (mate c)))
    else if (d - 125000).natAbs ≤ 8 then some (s.rd64 (DSF_SFC (mate c)) + 1)
    else none
  else if h.freeAlign then some (s.rd64 (DSF_SFC_INIT c) % 2 ^ 51)
  else
    let t : Int := (s.devNs : Int) - h.offset
    if t % 125000 = 0 then some ((t / 125000) % 2 ^ 51).toNat else none

/-- Whether the channel is aligned to device time at its first PSync (R103): not on a free start, nor beside a mate that is not. -/
def State.firstAligned (s : State) (c : Nat) : Bool :=
  let h := s.pch.look c
  let m := s.pch.look (mate c)
  if h.pair && m.running && m.pair then s.on (DSF_STATUS (mate c)) DSF_STATUS_ALIGNED else !h.freeAlign

def execFirstPsync (c : Fin 64) (s : State) : Out :=
  let h := s.pch.look c
  .next (s.when (decide (s.chState c = 1) && h.txLocked && !h.running) (fun s =>
    match s.firstCounter c with
    | none => s
    | some f =>
      let f := f % 2 ^ 51
      let al := s.firstAligned c
      let s := ((s.p (DSF_STATUS c) DSF_STATUS_ALIGNED (b2n al)).wr (DSF_ALIGN_ERR c) 0).when (!al) (fun s => s.todDrop c)
      let s := s.psyncLatch c f
      let s := s.updPch c (fun h => { h with running := true, openLo := f + 1, buf0 := [], buf1 := [], framesSent := 1, sawWindow := false, sawEnergy := false,
                                             due8 := 8 * s.now + 1000000, cur := { (default : DsFrame) with n := f } })
      (s.nonceGuard c f).boundary c 0))

/-- Alignment error of a PSync of frame n now: actual minus aligned, in ns; frame numbers go round at 2^51 (R104). -/
def State.alignErr (s : State) (c n : Nat) : Int :=
  let m : Int := 125000 * 2 ^ 51
  let e := ((s.devNs : Int) - (s.pch.look c).offset - 125000 * n) % m
  if 2 * e < m then e else e - m

/-- How the transmit synthesiser is steered over the next frame, in 1/8 ns (R104, R105): at most 1 ppm against the error, and not at all
without alignment. -/
def State.steer (s : State) (c : Nat) (e : Int) : Int :=
  if s.on (DSF_STATUS c) DSF_STATUS_ALIGNED then clampI 1 (-e) else 0

/-- Bytes that an XGEM frame takes beside its payload: the header, and the tag where it is sealed (R358). -/
def Carry.over (q : Carry) : Nat := 8 + (if q.mode = 2 then 16 else 0)

/-- An XGEM frame or fragment as sent in frame `f` (R115, R352, R358): header, payload under its protection, tag. -/
def State.xgemSent (s : State) (f : DsFrame) (q : Carry) (b : List Byte) (last : Bool) : XItem :=
  let key := q.key ^^^ s.cry.mask
  let pos := f.headLen + f.used
  let h := xgemHeader (b.length + q.over - 8) q.idx q.port last
  let nonce := sealNonce q.slot 0 q.idx f.n (f.items.filter (fun x => decide (x.slot = q.slot))).length
  let body := if q.mode = 0 then b
    else if q.mode = 1 then b.zipIdx.map (fun e => e.1 ^^^ Config.ctrStream key f.n pos e.2)
    else
      let x := gcmText key nonce b
      x ++ gcmTag16 key nonce h x
  ⟨q.port, q.slot, q.mode, h ++ body⟩

/-- Information bytes of the frame on the wire that XGEM frames may still take (R99, R364): what is left of it, within FB_PCT. -/
def State.dsRoom (s : State) (c : Nat) : Nat :=
  let h := s.pch.look c
  let n := dsInfo h.mode
  min (n - h.cur.headLen - h.cur.used) (n * s.fbPct c / 100 - h.cur.drawn)

/-- Place an XGEM frame in the frame on the wire (R114): whole, or the fragment that fits, the rest waiting for the next frame; nothing
where not even a fragment of 8 bytes fits (assumption 70). -/
def State.placeX (s : State) (c : Nat) (q : Carry) : State :=
  let f := (s.pch.look c).cur
  let r := s.dsRoom c
  let k := if q.over + q.bytes.length ≤ r then q.bytes.length else if q.over + 8 ≤ r then r - q.over else 0
  if k < q.bytes.length && k = 0 then s.updPch c (fun h => { h with carry := some q })
  else
    let rest := q.bytes.drop k
    let x := s.xgemSent f q (q.bytes.take k) rest.isEmpty
    let s := s.when (decide (q.mode = 2)) (fun s => s.sealUse c q.slot f.n)
    let s := s.bwAdd c (PMC_BW_DS_BYTES c) x.bytes.length
    s.updPch c (fun h => { h with
      cur := { h.cur with items := h.cur.items ++ [x], used := h.cur.used + x.bytes.length, drawn := h.cur.drawn + x.bytes.length },
      carry := if rest.isEmpty then none else some { q with bytes := rest }, closeWait := max h.closeWait 1 })

/-- The frame that a PSync starts (R98, R111, R113): the sealed grants, none of them where the map fails its parity check, and the PLOAMs
of the seal with their MICs. -/
def State.newFrame (s : State) (c n : Nat) (parityFail : Bool) : DsFrame :=
  let h := s.pch.look c
  { (default : DsFrame) with n := n, grants := if parityFail then [] else h.sealed, ploams := h.ploamTx.map (s.ploamBytes c) }

/-- The windows of a frame whose BWmap was lost see no burst (R111). -/
def Pch.mapLost (h : Pch) (n : Nat) : Pch := { h with wins := h.wins.map (fun w => if w.frame = n then { w with lost := true } else w) }

/-- The undertone window opens with its first frame (R157). -/
def State.utOpens (s : State) (c n : Nat) : State :=
  s.when (decide ((s.rng.look c).utStart = some n)) (fun s => (s.inc (RNG_UT_WINDOWS c)).p (RNG_STATUS c) RNG_STATUS_UT_ACTIVE 1)

/-- A PSync of a running channel, after the seal of its frame and not before it is due (R98, R101, R104, R105, R107, R111, R334); a
transmit direction that is waking is awake with it (R95): `parityFail` is whether the sealed map fails its parity check. One that the
command brings late is the PSync of its due instant for those that follow (assumption 74). -/
def execPsync (c : Fin 64) (parityFail : Bool) (s : State) : Out :=
  let h := s.pch.look c
  .next (s.when (h.running && decide (h.openLo % 2 ^ 51 = (s.rd64 (DSF_SFC c) + 2) % 2 ^ 51) && decide (h.due8 ≤ 8 * s.now + 8)) (fun s =>
    let n := h.openLo - 1
    let old := s.rd64 (DSF_SFC c)
    let s := s.psyncLatch c n
    let e := s.alignErr c n
    let s := s.updPch c (fun h => { h with due8 := ((h.due8 : Int) + 1000000 + s.steer c e).toNat })
    let s := if h.freeAlign then s
      else
        let s := s.wr (DSF_ALIGN_ERR c) (word (toBits 32 e))
        s.when (s.on (DSF_STATUS c) DSF_STATUS_ALIGNED && decide (100 < e.natAbs)) (fun s =>
          ((s.p (DSF_STATUS c) DSF_STATUS_ALIGNED 0).ev (DSF_STATUS c) DSF_STATUS_TOD_SLIP).todDrop c)
    let s := s.when parityFail (fun s => ((s.ev (DSF_STATUS c) DSF_STATUS_MAP_PARITY).txfError c).updPch c (fun h => h.mapLost n))
    let f := s.newFrame c n parityFail
    let s := s.updPch c (fun h => { h.frameEnd old with framesSent := h.framesSent + 1, ploamTx := [], cur := f, closeWait := h.closeWait - 1 })
    let s := match h.carry with
      | some q => s.placeX c q
      | none => s
    let s := s.when (h.waking && h.txLocked) (fun s =>
      (s.p (PCH_STATUS c) PCH_STATUS_TX_ASLEEP 0).updPch c (fun h => { h with waking := false }))
    let s := (s.utOpens c n).boundary c 0
    s.containerEnqueue c n))

/-- Whether the framer draws (R81, R114, R116): ACTIVE and not muted, or draining in CLOSING. -/
def State.draws (s : State) (c : Nat) : Bool :=
  (s.pch.look c).running && ((decide (s.chState c = 2) && !s.txdis c) || decide (s.chState c = 3))

/-- Nanoseconds since the PSync of the frame on the wire. -/
def State.sincePsync (s : State) (c : Nat) : Nat := (8 * s.now + 1000000 - (s.pch.look c).due8) / 8

/-- Whether the frame on the wire takes another XGEM frame now (R114, R117): its payload has not ended, no fragment waits for the next
frame, the place is at most 8 µs of line time ahead of the serializer, and something fits. -/
def State.drawNow (s : State) (c : Nat) : Bool :=
  let h := s.pch.look c
  !h.cur.ended && h.carry.isNone && decide (h.cur.headLen + h.cur.used ≤ infoAt h.mode (s.sincePsync c + 8000)) && decide (32 ≤ s.dsRoom c)

/-- Idle XGEM frames have filled the frame as far as the serializer has come (R114). -/
def State.idleUp (s : State) (c : Nat) : State :=
  s.updPch c (fun h => { h with cur := { h.cur with used := max h.cur.used (infoAt h.mode (s.sincePsync c) - h.cur.headLen) } })

/-- One XGEM frame leaves its queue (R114, R115, R117, R319 to R322, R447): `checkOk` is whether its data passes the internal check. A frame
without a port-ID goes out under one that the spec does not name: a free value. -/
def execXgemDraw (c : Fin 64) (checkOk : Bool) (s : State) : Out :=
  .next (s.when (s.draws c && (s.idleUp c).drawNow c) (fun s =>
    let s := s.idleUp c
    let r := s.pickChannel c
    match r.2 with
    | none => s
    | some (g, q) =>
      let d := r.1.departQueue q (some g)
      match d.2 with
      | none => s
      | some f =>
        let p := match f.port with
          | some p => (p, d.1)
          | none => d.1.drawNat
        let s := p.2
        let k := s.cryPick c p.1
        let x : Carry := ⟨p.1, k.1, k.2.1, k.2.2.1, k.2.2.2, padTo f.len (r.1.tmg.bufs.look f.buf).bytes⟩
        if checkOk then s.placeX c x
        else
          let s := s.bwAdd c (PMC_BW_DS_BYTES c) (x.over + f.len)
          let s := s.updPch c (fun h => { h with cur := { h.cur with ended := true } })
          ((s.inc (DSF_TX_CORRUPT c)).ev (DSF_STATUS c) DSF_STATUS_DATA_CHECK).txfError c))

end Sys2Proof.Machine
end

