-- ==== Sys2Proof/WellFormed.lean ====
section
/-! DEFINITION. Well-formed commands: the checks on operands that their types do not make. -/
namespace Sys2Proof

/-- A BAR0 offset of an aligned 32-bit access (R46, R65). -/
def offOk (off : Nat) : Bool := decide (off % 4 = 0) && decide (off < 0x10000000)

/-- The data word of a PCH[c]_CTL write with ENABLE = 1. -/
def enableBit (v : Word) : Bool := v.getLsbD 31

/-- The data word of a PCH[c]_CTL write with ENABLE = 0. -/
def disableBit (v : Word) : Bool := !v.getLsbD 31

/-- One observation per DDR-5 channel (R66). -/
def dimmsOk (obs : List DimmObs) : Bool := decide (obs.length = 8)

/-- A record has the length of its class (R412). -/
def recOk (cls : Fin 7) (r : List Word) : Bool :=
  decide (r.length = if cls.val = 2 || cls.val = 6 then 32 else if cls.val = 3 then 8 else if cls.val = 4 then 4 else 16)

/-- The data word of a write that sets GO. -/
def goBit (v : Word) : Bool := v.getLsbD 31

/-- The data word of a write that sets GO with the given OP (R301, R304). -/
def goOp (v : Word) (op : Nat) : Bool := v.getLsbD 31 && decide (v.toNat / 2 ^ 28 % 8 = op)

/-- The data word of a write with bit 31 set (GATE, SR_REQ, ENTER), and with it clear. -/
def topSet (v : Word) : Bool := v.getLsbD 31
def topClear (v : Word) : Bool := !v.getLsbD 31

/-- The data word of a TMP_SAFE write that sets EXIT and not ENTER (R461). -/
def exitBit (v : Word) : Bool := v.getLsbD 30 && !v.getLsbD 31

/-- An OMCI message fits a ring entry (R249). -/
def msgOk (m : List Byte) : Bool := decide (m.length ≤ 2032)

/-- Well-formedness of every command, constructor by constructor. -/
def Instr.wellFormed : Instr → Bool
  | .registerWrite _ off _ _ => offOk off
  | .readLoSnapshot _ off => offOk off
  | .writeHiHold _ off _ _ => offOk off
  | .writeLoPair _ off _ _ => offOk off
  | .sqcWriteClear _ off _ _ => offOk off
  | .hmwWrite _ off _ _ => offOk off
  | .intEnWrite _ off _ _ => offOk off
  | .irqHoldoffExpiry _ _ => true
  | .semRead _ _ => true
  | .semRelease _ _ _ => true
  | .hostPortReset _ => true
  | .accessTimeout _ off _ => offOk off
  | .bar2Access _ _ _ => true
  | .hpiWinWrite _ _ _ => true
  | .rankMapOut _ _ _ => true
  | .ddrTrainingDone obs => dimmsOk obs
  | .ddrPeriodicCal => true
  | .patrolScrub _ _ => true
  | .auditSnap _ _ => true
  | .auditChecksDone => true
  | .channelEnable _ _ v => enableBit v
  | .channelDisable _ _ v => disableBit v
  | .txPllLock _ => true
  | .firstPsync _ => true
  | .startingComplete _ => true
  | .drainTimeout _ => true
  | .closingDone _ => true
  | .txSleepRequest _ _ _ => true
  | .txWakeRequest _ _ _ => true
  | .rxSleepRequest _ _ _ => true
  | .rxPowerdown _ => true
  | .rxWakeRequest _ _ _ => true
  | .chLosRaise _ => true
  | .chLosClear _ => true
  | .chLolRaise _ _ => true
  | .chLolClear _ _ => true
  | .chTxfRaise _ => true
  | .chTxfClear _ => true
  | .txdisReadbackMismatch _ _ => true
  | .losPinChange _ _ _ => true
  | .blankingWindowEnd _ => true
  | .modCmdGo _ _ _ => true
  | .modTransactionDone _ _ => true
  | .modStretchTimeout _ => true
  | .psync _ _ => true
  | .mapSeal _ => true
  | .sealLeadWrite _ _ _ => true
  | .grantWrite _ _ _ _ => true
  | .ploamWrite _ _ => true
  | .xgemDraw _ _ => true
  | .windowOpen _ _ => true
  | .delimiterQualified _ _ _ => true
  | .burstCodewordDecoded _ _ _ => true
  | .windowEnd _ _ _ => true
  | .eqEntryWrite _ _ _ _ _ => true
  | .tailEnergy _ _ _ => true
  | .oowEnergy _ => true
  | .onuLobRaise _ _ => true
  | .onuLodsRaise _ _ => true
  | .onuDgClear _ _ => true
  | .onuDriftRaise _ _ => true
  | .onuDriftClear _ _ => true
  | .onuRogueRaise _ _ => true
  | .onuRogueClear _ _ => true
  | .quietWindowOpen _ => true
  | .serialNumberOnu _ _ => true
  | .rangingBurst _ _ _ => true
  | .upstreamPloam _ _ _ _ => true
  | .vidanInvite _ => true
  | .utPeaksReported _ _ => true
  | .vidanFollowupResult _ _ _ => true
  | .capReport _ _ _ => true
  | .capQueryTimeout _ _ => true
  | .rerangeResult _ _ _ => true
  | .driftTrackBurst _ _ _ _ => true
  | .driftPendTimeout _ _ => true
  | .profileRestore _ _ => true
  | .lostHoldExpiry _ _ => true
  | .driftPersistTimeout _ _ => true
  | .rogueLocateStart _ => true
  | .rogueProbeEnd _ => true
  | .svcRequestSubmit _ _ _ => true
  | .svcAnswer _ _ _ _ => true
  | .svcTimeout _ _ => true
  | .echo _ _ => true
  | .version _ _ => true
  | .onuEnable _ _ => true
  | .onuDeactivate _ _ => true
  | .onuRerange _ _ => true
  | .qwNow _ _ => true
  | .shedState _ _ => true
  | .omciTx _ _ _ => true
  | .omciRing _ _ => true
  | .omciRx _ _ _ msg _ => msgOk msg
  | .pmClear _ _ => true
  | .pmRoll _ _ => true
  | .allocWrite _ _ _ _ _ => true
  | .shedInputEntry _ => true
  | .ledgerClose _ _ _ => true
  | .ledgerForcedClose _ => true
  | .ledgerCtlWrite _ _ _ => true
  | .sliceSweep _ _ => true
  | .sweepOverrun _ => true
  | .hintPdu _ _ _ => true
  | .hintRecordSubmit _ _ _ => true
  | .seqNext _ _ _ => true
  | .seqJmp _ _ _ => true
  | .seqCall _ _ _ => true
  | .seqRet _ _ _ => true
  | .seqLoop _ _ _ => true
  | .seqLdloop _ _ _ => true
  | .seqWait _ _ _ => true
  | .waitSatisfied _ _ _ => true
  | .seqYield _ _ _ => true
  | .seqDisp _ _ _ => true
  | .seqDone _ _ _ => true
  | .seqFault _ _ _ => true
  | .seqJmpr _ _ _ => true
  | .memOpComplete _ _ _ => true
  | .threadWatchdog _ _ => true
  | .swapGo _ _ v => goBit v
  | .spareLoaded _ _ => true
  | .swapFrameBoundary _ => true
  | .swapQuiesceTimeout _ => true
  | .swapComplete _ _ _ => true
  | .refreshStep _ => true
  | .draftLoadGo _ v => goBit v
  | .draftStreamWrite _ _ _ => true
  | .draftFetched _ _ _ => true
  | .draftVerified _ _ => true
  | .imageCacheCopy => true
  | .reweaveApply _ _ => true
  | .pipelineFrame _ => true
  | .secondPassReentry _ => true
  | .ruleCommit _ v => goBit v
  | .macLearn => true
  | .macMove => true
  | .macAgeVisit _ => true
  | .macInsert _ v => goOp v 1
  | .macDelete _ v => goOp v 2
  | .macLookup _ v => goOp v 3
  | .macFlush _ v => goOp v 4
  | .macFlushDone => true
  | .routeAdd _ v => goOp v 1
  | .routeDel _ v => goOp v 2
  | .routeLookup _ v => goOp v 3
  | .frameAdmit => true
  | .uplinkDeparture _ => true
  | .bufferFree _ _ _ => true
  | .spillHeadFetch _ _ => true
  | .uportWrite _ _ _ _ => true
  | .tmgFlush _ _ => true
  | .tmgFlushDone => true
  | .tribConfigWrite _ _ _ _ => true
  | .containerReceive => true
  | .jcDecision _ => true
  | .tribLocRaise _ => true
  | .tribLocClear _ => true
  | .tribLomRaise _ => true
  | .tribLomClear _ => true
  | .tribAisRaise _ => true
  | .tribAisClear _ => true
  | .tribLopRaise _ => true
  | .tribPjeWindow _ => true
  | .tsiFrame => true
  | .cmSwitch _ _ => true
  | .cmCopy _ _ => true
  | .cmCopyDone => true
  | .pwPacketReceive => true
  | .tribPmSecond _ => true
  | .blobUnwrap _ _ => true
  | .blobResult _ _ => true
  | .slotClr _ _ => true
  | .sealReq _ _ _ v => v.getLsbD 27
  | .sealedKey _ _ _ _ data => decide (data.length = 24)
  | .sealedAck _ _ _ _ _ => true
  | .sealSwitch _ _ => true
  | .sealTimeout _ _ => true
  | .entropyFail => true
  | .entropyRetest _ => true
  | .nonceRead _ => true
  | .enrolGo _ v => goBit v
  | .enrolDone _ _ _ _ => true
  | .securityAlarm _ => true
  | .cryErase _ _ => true
  | .dbgChal => true
  | .dbgResp _ => true
  | .ppsInEdge _ _ _ => true
  | .ptpOfsWrite _ _ => true
  | .servoHoldover => true
  | .timeStep _ v => goBit v
  | .timeNowRead _ => true
  | .tsFifoPop _ _ => true
  | .ptpTxGo _ v => goBit v
  | .ptpTxSend _ _ => true
  | .todUpdate => true
  | .triggerArm _ _ _ => true
  | .triggerFire _ => true
  | .pulseEnd _ => true
  | .portEnable _ _ v => v.getLsbD 31
  | .portDisable _ _ v => !v.getLsbD 31
  | .portUp _ => true
  | .hslLosRaise _ _ => true
  | .hslLosClear _ _ => true
  | .hslLolRaise _ => true
  | .hslLolClear _ => true
  | .loamRaise _ => true
  | .loamClear _ => true
  | .uplinkFrameReceive _ _ _ _ _ _ => true
  | .txLpiEnter _ _ => true
  | .rxLpiSignal _ _ => true
  | .svAlignmentMarker _ _ _ => true
  | .svMarkerLoss _ => true
  | .heartbeatRx _ _ _ => true
  | .hbPinWord _ => true
  | .heartbeatTx => true
  | .hbAliveTimeout _ => true
  | .svMessage _ _ _ => true
  | .slvMbxSend _ v => goBit v
  | .slvMbxPop _ v => v.getLsbD 30
  | .boltRecord cls r => recOk cls r
  | .coalFlush _ => true
  | .boltRecordWritten => true
  | .alarmSramCopy => true
  | .cutFreeze _ _ => true
  | .cutRelease _ _ => true
  | .cutPostEnd _ => true
  | .summarySecond => true
  | .summaryCondense => true
  | .summaryLate => true
  | .counterDump _ v => goBit v
  | .dumpImageWritten => true
  | .tagComplete _ _ _ => true
  | .tagFifoPop _ _ => true
  | .bwWindowEnd _ => true
  | .faultEvent _ _ _ => true
  | .txRestartDone _ _ => true
  | .coreHeartbeatTimeout => true
  | .safeCauseClear _ => true
  | .safeQuietExpiry => true
  | .safeEnter _ v => topSet v
  | .safeExit _ v => exitBit v
  | .safePin _ => true
  | .reactWrite _ _ _ => true
  | .reactReloadDone _ => true
  | .injectArm _ v => goBit v
  | .refGateEnd _ => true
  | .refLost _ => true
  | .refPresent _ => true
  | .refRevert => true
  | .coastClear => true
  | .pllLock _ => true
  | .pllLossOfLock _ => true
  | .muxHang _ => true
  | .clockGate _ _ v => topSet v
  | .gateForceTimeout _ => true
  | .clockUngate _ _ v => topClear v
  | .blockReset _ v => goBit v
  | .porst => true
  | .srst => true
  | .blocksRelease => true
  | .vddTmpLoss => true
  | .avsPeriod _ => true
  | .avsMarginAlarm _ => true
  | .pmbusTransaction _ _ _ => true
  | .clusterFreqPeriod _ => true
  | .clusterFreqChange _ => true
  | .clusterGate _ _ v => topSet v
  | .clusterUngate _ _ v => topClear v
  | .selfRefreshRequest _ v => topSet v
  | .selfRefreshExit _ v => topClear v
  | .thermalSample _ => true
  | .throttleStep => true
  | .watchTrip _ _ _ => true
  | .protEnable _ v => v.getLsbD 31
  | .protDisable _ v => !v.getLsbD 31
  | .selfMute => true
  | .takeover => true
  | .claimEnd => true
  | .protRecordSend _ ks => decide (ks.length ≤ 31)
  | .standbySelftest _ _ => true
  | .healthReport => true
  | .protSwitch _ v => v.getLsbD 29
  | .handoverExecute => true
  | .handoverTimeout => true
  | .protTake _ v => v.getLsbD 28
  | .iprotSwitch _ _ => true
  | .hostLinkUp _ => true
  | .threadTimerExpiry _ _ => true
  | .busInterfaceIdle _ => true
  | .selfRefreshEntered => true
  | .resetRelease => true
  | .faultLogPop _ => true
  | .ppsInRead _ _ => true

end Sys2Proof
end

