-- ==== Sys2Proof/Machine/Host.lean ====
section
/-! DEFINITION. The host ports, the register bridge, interrupts, semaphores and external memory (chapter 2). -/
namespace Sys2Proof.Machine

-- ===== register accesses (R8, R9, R48, R52, R54, R61) =====

/-- A write of an aligned dword; no other access exists (R46). What it does is the register's affair, whichever of the six rows names
it. -/
def State.hostWrite (s : State) (ag : Agent) (off be : Nat) (v : Word) (row : String) : Out :=
  if offOk off then .next (s.write ag off be v) else .refused (.illFormed row)

def execRegisterWrite (ag : Agent) (off : Nat) (be : Fin 16) (v : Word) (s : State) : Out := s.hostWrite ag off be v "REGISTER_WRITE"
def execWriteHiHold (ag : Agent) (off : Nat) (be : Fin 16) (v : Word) (s : State) : Out := s.hostWrite ag off be v "WRITE_HI_HOLD"
def execWriteLoPair (ag : Agent) (off : Nat) (be : Fin 16) (v : Word) (s : State) : Out := s.hostWrite ag off be v "WRITE_LO_PAIR"
def execSqcWriteClear (ag : Agent) (off : Nat) (be : Fin 16) (v : Word) (s : State) : Out := s.hostWrite ag off be v "SQC_WRITE_CLEAR"
def execHmwWrite (ag : Agent) (off : Nat) (be : Fin 16) (v : Word) (s : State) : Out := s.hostWrite ag off be v "HMW_WRITE"
def execIntEnWrite (ag : Agent) (off : Nat) (be : Fin 16) (v : Word) (s : State) : Out := s.hostWrite ag off be v "INT_EN_WRITE"

def execReadLoSnapshot (ag : Agent) (off : Nat) (s : State) : Out :=
  if offOk off then .next (s.read ag off) else .refused (.illFormed "READ_LO_SNAPSHOT")

def execSemRead (ag : Agent) (i : Fin 256) (s : State) : Out := .next (s.busRd ag (HPI_SEM i) (fun s => s.semRead ag i))

def execSemRelease (ag : Agent) (i : Fin 256) (v : Word) (s : State) : Out :=
  .next (s.bus ag (HPI_SEM i) (fun s => s.semWrite ⟨ag, HPI_SEM i, i, 0, v⟩))

def execHpiWinWrite (ag : Agent) (p : Port) (v : Word) (s : State) : Out :=
  .next (s.bus ag (HPI_WIN (portCode p)) (fun s => s.wrRW (HPI_WIN (portCode p)) v))

def execRankMapOut (ag : Agent) (m : Fin 8) (v : Word) (s : State) : Out :=
  .next (s.bus ag (MEM_RANK_MAP m) (fun s => s.rankMapWrite m v))

-- ===== interrupts (R58) =====

/-- The holdoff of a source at a port is over. -/
def State.holdoffEnd (s : State) (n p : Nat) : State :=
  let q := s.irq.look (2 * n + p)
  let off := { s with irq := s.irq.put (2 * n + p) default }
  if !q.active then s
  else if !s.routed n p then off
  else if q.again then s.irqMsg n p true
  else if q.byEvent && s.asserted n then s.irqMsg n p false
  else off

def execIrqHoldoffExpiry (n : Fin 200) (p : Port) (s : State) : Out := .next (s.holdoffEnd n (portCode p))

-- ===== the ports and the bridge (R44, R45, R50) =====

/-- A port's link is up, or down. -/
def State.setLink (s : State) (p : Port) (up : Bool) : State := match p with
  | .hpa => { s with host := { s.host with upA := up } }
  | .hpb => { s with host := { s.host with upB := up } }

/-- PERST_N of a port, or the loss of its link: its semaphores are released, its snapshot and held value discarded. -/
def State.portReset (s : State) (p : Port) : State :=
  let s := iter 256 (fun i s =>
    if s.g (HPI_SEM i) HPI_SEM_OWNER = portCode p + 1 then s.p (HPI_SEM i) HPI_SEM_OWNER 0 else s) (s.setLink p false)
  { s with agents := s.agents.put (portCode p) default }

def execHostPortReset (p : Port) (s : State) : Out := .next (s.portReset p)

def execHostLinkUp (p : Port) (s : State) : Out := .next (s.setLink p true)

/-- An access has waited 64 µs for its block (R50): the bridge completes it, marks the block hung, and BLK_HUNG counts against its unit. -/
def State.accessTimeout (s : State) (ag : Agent) (off : Nat) (isRead : Bool) : State :=
  let n := blockOf off
  if !s.linkUp ag || decide (200 ≤ n) || !s.avail n then s
  else
    let s := s.hpiErr HPI_ERR_TIMEOUT (agCode ag) 0 off
    let s := s.when isRead (fun s => s.answer ag 0xFFFFFFFF)
    let s := s.updBlk n (fun b => { b with hung := true })
    s.report 0x29 (432 + n)

def execAccessTimeout (ag : Agent) (off : Nat) (isRead : Bool) (s : State) : Out :=
  if offOk off then .next (s.accessTimeout ag off isRead) else .refused (.illFormed "ACCESS_TIMEOUT")

-- ===== the DDR-5 window (R70 to R72) =====

/-- The device physical address behind an offset of a port's BAR2. -/
def State.bar2Dpa (s : State) (p : Port) (off : Nat) : Nat := s.g (HPI_WIN (portCode p)) HPI_WIN_GRANULE * 2 ^ 30 + off

/-- Whether a DPA lies in a region that the draft marks device-owned. -/
def State.deviceOwned (s : State) (a : Nat) : Bool := s.drf.owned.any (fun r => decide (r.2.2.1 ≤ a) && decide (a < r.2.2.1 + r.2.2.2))

/-- The byte that a port's latest BAR2 read returned. -/
def State.bar2Answer (s : State) (p : Port) (v : Byte) : State := match p with
  | .hpa => { s with host := { s.host with bar2A := v } }
  | .hpb => { s with host := { s.host with bar2B := v } }

/-- One byte of a BAR2 request: a read, or a write of the byte. -/
def State.bar2 (s : State) (p : Port) (off : Nat) (wr : Option Byte) : State :=
  if !s.linkUp (portAgent p) then s
  else
    let a := s.bar2Dpa p off
    if decide (2 ^ 42 ≤ a) || s.isHole a || !s.ddrUp then
      let s := s.hpiErr HPI_ERR_WIN_RANGE (portCode p) 1 off
      if wr.isNone then s.bar2Answer p 0xFF else s
    else match wr with
      | none => s.bar2Answer p (s.ddrRd a)
      | some v => if s.deviceOwned a then s.hpiErr HPI_ERR_WIN_PROT (portCode p) 1 off else s.ddrWr a v

def execBar2Access (p : Port) (off : Fin 68719476736) (wr : Option Byte) (s : State) : Out := .next (s.bar2 p off wr)

-- ===== external memory (R66 to R68) =====

/-- Training ends: populated channels of one capacity without a failing DIMM are trained, else it fails on every channel. -/
def State.trainDone (s : State) (obs : List DimmObs) : State :=
  let pop := obs.filter (fun o => decide (o.ranks ≠ 0))
  let caps := pop.map (·.gib)
  let bad := pop.any (·.fail) || decide (1 < caps.eraseDups.length)
  let s := obs.zipIdx.foldl (fun (s : State) (e : DimmObs × Nat) =>
    let a := MEM_STATUS e.2
    let s := s.p a MEM_STATUS_RANKS_PRESENT e.1.ranks.toNat
    if bad then s.ev a MEM_STATUS_TRAIN_FAIL else s.p a MEM_STATUS_TRAINED (b2n (decide (e.1.ranks ≠ 0)))) s
  { s with host := { s.host with training := false, gib := if bad then 0 else caps.sum } }

def execDdrTrainingDone (obs : List DimmObs) (s : State) : Out :=
  if dimmsOk obs then .next (s.when (s.host.training && !s.coasting) (fun s => s.trainDone obs)) else .refused (.illFormed "DDR_TRAINING_DONE")

/-- A periodic calibration (R68): a pause of each channel, which only time shows. -/
def execDdrPeriodicCal (s : State) : Out :=
  .next (s.when s.ddrTrained (fun s => { s with host := { s.host with cals := s.host.cals + 1 } }))

/-- The patrol scrub period of the memory plan, in hours; 0 means 24 (R260). -/
def State.scrubHours (s : State) : Nat := match ((s.drf.running.map (·.plan)).getD []).find? (fun r => decide (r.code = 0x31)) with
  | some r => if bget (r.rest.headD 0) 0 8 = 0 then 24 else bget (r.rest.headD 0) 0 8
  | none => 24

/-- The patrol scrub covers a channel, once in each period (R66, R260): data it cannot correct sets UE (R69). -/
def execPatrolScrub (m : Fin 8) (ue : Bool) (s : State) : Out :=
  .next (s.when (s.ddrTrained && decide (s.host.scrubAt.look m + s.scrubHours * 3600000000000 ≤ s.now)) (fun s =>
    ({ s with host := { s.host with scrubAt := s.host.scrubAt.put m s.now } }).when ue (fun s => s.ev (MEM_STATUS m) MEM_STATUS_UE)))

end Sys2Proof.Machine
end

