-- ==== Sys2Proof/Machine/Dispatch.lean ====
section
/-! DEFINITION. Which meaning runs for which command: one arm per constructor of Instr. -/
namespace Sys2Proof.Machine

/-- The effect of a command on everything but the queue of commands. -/
def exec (i : Instr) (s : State) : Host.Outcome State Fault Refusal :=
  match i with
  | .registerWrite ag off be v => Sys2Proof.Machine.execRegisterWrite ag off be v s
  | .readLoSnapshot ag off => Sys2Proof.Machine.execReadLoSnapshot ag off s
  | .writeHiHold ag off be v => Sys2Proof.Machine.execWriteHiHold ag off be v s
  | .writeLoPair ag off be v => Sys2Proof.Machine.execWriteLoPair ag off be v s
  | .sqcWriteClear ag off be v => Sys2Proof.Machine.execSqcWriteClear ag off be v s
  | .hmwWrite ag off be v => Sys2Proof.Machine.execHmwWrite ag off be v s
  | .intEnWrite ag off be v => Sys2Proof.Machine.execIntEnWrite ag off be v s
  | .irqHoldoffExpiry n p => Sys2Proof.Machine.execIrqHoldoffExpiry n p s
  | .semRead ag ix => Sys2Proof.Machine.execSemRead ag ix s
  | .semRelease ag ix v => Sys2Proof.Machine.execSemRelease ag ix v s
  | .hostPortReset p => Sys2Proof.Machine.execHostPortReset p s
  | .accessTimeout ag off isRead => Sys2Proof.Machine.execAccessTimeout ag off isRead s
  | .bar2Access p off wr => Sys2Proof.Machine.execBar2Access p off wr s
  | .hpiWinWrite ag p v => Sys2Proof.Machine.execHpiWinWrite ag p v s
  | .rankMapOut ag m v => Sys2Proof.Machine.execRankMapOut ag m v s
  | .ddrTrainingDone obs => Sys2Proof.Machine.execDdrTrainingDone obs s
  | .ddrPeriodicCal => Sys2Proof.Machine.execDdrPeriodicCal s
  | .patrolScrub m ue => Sys2Proof.Machine.execPatrolScrub m ue s
  | .auditSnap ag v => Sys2Proof.Machine.execAuditSnap ag v s
  | .auditChecksDone => Sys2Proof.Machine.execAuditChecksDone s
  | .channelEnable ag c v => Sys2Proof.Machine.execChannelEnable ag c v s
  | .channelDisable ag c v => Sys2Proof.Machine.execChannelDisable ag c v s
  | .txPllLock c => Sys2Proof.Machine.execTxPllLock c s
  | .firstPsync c => Sys2Proof.Machine.execFirstPsync c s
  | .startingComplete c => Sys2Proof.Machine.execStartingComplete c s
  | .drainTimeout c => Sys2Proof.Machine.execDrainTimeout c s
  | .closingDone c => Sys2Proof.Machine.execClosingDone c s
  | .txSleepRequest ag c v => Sys2Proof.Machine.execTxSleepRequest ag c v s
  | .txWakeRequest ag c v => Sys2Proof.Machine.execTxWakeRequest ag c v s
  | .rxSleepRequest ag c v => Sys2Proof.Machine.execRxSleepRequest ag c v s
  | .rxPowerdown c => Sys2Proof.Machine.execRxPowerdown c s
  | .rxWakeRequest ag c v => Sys2Proof.Machine.execRxWakeRequest ag c v s
  | .chLosRaise c => Sys2Proof.Machine.execChLosRaise c s
  | .chLosClear c => Sys2Proof.Machine.execChLosClear c s
  | .chLolRaise c outNs => Sys2Proof.Machine.execChLolRaise c outNs s
  | .chLolClear c lockUs => Sys2Proof.Machine.execChLolClear c lockUs s
  | .chTxfRaise x => Sys2Proof.Machine.execChTxfRaise x s
  | .chTxfClear c => Sys2Proof.Machine.execChTxfClear c s
  | .txdisReadbackMismatch c ns => Sys2Proof.Machine.execTxdisReadbackMismatch c ns s
  | .losPinChange c level stable => Sys2Proof.Machine.execLosPinChange c level stable s
  | .blankingWindowEnd w => Sys2Proof.Machine.execBlankingWindowEnd w s
  | .modCmdGo ag c v => Sys2Proof.Machine.execModCmdGo ag c v s
  | .modTransactionDone c res => Sys2Proof.Machine.execModTransactionDone c res s
  | .modStretchTimeout c => Sys2Proof.Machine.execModStretchTimeout c s
  | .psync c parityFail => Sys2Proof.Machine.execPsync c parityFail s
  | .mapSeal c => Sys2Proof.Machine.execMapSeal c s
  | .sealLeadWrite ag c v => Sys2Proof.Machine.execSealLeadWrite ag c v s
  | .grantWrite c w0 w1 w2 => Sys2Proof.Machine.execGrantWrite c w0 w1 w2 s
  | .ploamWrite c m => Sys2Proof.Machine.execPloamWrite c m s
  | .xgemDraw c checkOk => Sys2Proof.Machine.execXgemDraw c checkOk s
  | .windowOpen c g => Sys2Proof.Machine.execWindowOpen c g s
  | .delimiterQualified c g m => Sys2Proof.Machine.execDelimiterQualified c g m s
  | .burstCodewordDecoded c g cw => Sys2Proof.Machine.execBurstCodewordDecoded c g cw s
  | .windowEnd c g m => Sys2Proof.Machine.execWindowEnd c g m s
  | .eqEntryWrite ag c ix w v => Sys2Proof.Machine.execEqEntryWrite ag c ix w v s
  | .tailEnergy c slot m => Sys2Proof.Machine.execTailEnergy c slot m s
  | .oowEnergy m => Sys2Proof.Machine.execOowEnergy m s
  | .onuLobRaise c slot => Sys2Proof.Machine.execOnuLobRaise c slot s
  | .onuLodsRaise c slot => Sys2Proof.Machine.execOnuLodsRaise c slot s
  | .onuDgClear c slot => Sys2Proof.Machine.execOnuDgClear c slot s
  | .onuDriftRaise c slot => Sys2Proof.Machine.execOnuDriftRaise c slot s
  | .onuDriftClear c slot => Sys2Proof.Machine.execOnuDriftClear c slot s
  | .onuRogueRaise c slot => Sys2Proof.Machine.execOnuRogueRaise c slot s
  | .onuRogueClear c slot => Sys2Proof.Machine.execOnuRogueClear c slot s
  | .quietWindowOpen c => Sys2Proof.Machine.execQuietWindowOpen c s
  | .serialNumberOnu c sn => Sys2Proof.Machine.execSerialNumberOnu c sn s
  | .rangingBurst c slot d => Sys2Proof.Machine.execRangingBurst c slot d s
  | .upstreamPloam c slot micOk m => Sys2Proof.Machine.execUpstreamPloam c slot micOk m s
  | .vidanInvite c => Sys2Proof.Machine.execVidanInvite c s
  | .utPeaksReported c peaks => Sys2Proof.Machine.execUtPeaksReported c peaks s
  | .vidanFollowupResult c slot res => Sys2Proof.Machine.execVidanFollowupResult c slot res s
  | .capReport c slot info => Sys2Proof.Machine.execCapReport c slot info s
  | .capQueryTimeout c slot => Sys2Proof.Machine.execCapQueryTimeout c slot s
  | .rerangeResult c slot arrival => Sys2Proof.Machine.execRerangeResult c slot arrival s
  | .driftTrackBurst c slot arrival lock => Sys2Proof.Machine.execDriftTrackBurst c slot arrival lock s
  | .driftPendTimeout c slot => Sys2Proof.Machine.execDriftPendTimeout c slot s
  | .profileRestore c slot => Sys2Proof.Machine.execProfileRestore c slot s
  | .lostHoldExpiry c slot => Sys2Proof.Machine.execLostHoldExpiry c slot s
  | .driftPersistTimeout c slot => Sys2Proof.Machine.execDriftPersistTimeout c slot s
  | .rogueLocateStart c => Sys2Proof.Machine.execRogueLocateStart c s
  | .rogueProbeEnd c => Sys2Proof.Machine.execRogueProbeEnd c s
  | .svcRequestSubmit ag k v => Sys2Proof.Machine.execSvcRequestSubmit ag k v s
  | .svcAnswer k a status res => Sys2Proof.Machine.execSvcAnswer k a status res s
  | .svcTimeout k a => Sys2Proof.Machine.execSvcTimeout k a s
  | .echo k a => Sys2Proof.Machine.execEcho k a s
  | .version k a => Sys2Proof.Machine.execVersion k a s
  | .onuEnable k a => Sys2Proof.Machine.execOnuEnable k a s
  | .onuDeactivate k a => Sys2Proof.Machine.execOnuDeactivate k a s
  | .onuRerange k a => Sys2Proof.Machine.execOnuRerange k a s
  | .qwNow k a => Sys2Proof.Machine.execQwNow k a s
  | .shedState k a => Sys2Proof.Machine.execShedState k a s
  | .omciTx k a sf => Sys2Proof.Machine.execOmciTx k a sf s
  | .omciRing k a => Sys2Proof.Machine.execOmciRing k a s
  | .omciRx k c onu msg full => Sys2Proof.Machine.execOmciRx k c onu msg full s
  | .pmClear k a => Sys2Proof.Machine.execPmClear k a s
  | .pmRoll k a => Sys2Proof.Machine.execPmRoll k a s
  | .allocWrite ag c a ix v => Sys2Proof.Machine.execAllocWrite ag c a ix v s
  | .shedInputEntry c => Sys2Proof.Machine.execShedInputEntry c s
  | .ledgerClose c ix frameBits => Sys2Proof.Machine.execLedgerClose c ix frameBits s
  | .ledgerForcedClose ix => Sys2Proof.Machine.execLedgerForcedClose ix s
  | .ledgerCtlWrite ag c v => Sys2Proof.Machine.execLedgerCtlWrite ag c v s
  | .sliceSweep c slice => Sys2Proof.Machine.execSliceSweep c slice s
  | .sweepOverrun c => Sys2Proof.Machine.execSweepOverrun c s
  | .hintPdu l etype pdu => Sys2Proof.Machine.execHintPdu l etype pdu s
  | .hintRecordSubmit ag c v => Sys2Proof.Machine.execHintRecordSubmit ag c v s
  | .seqNext sh t parity => Sys2Proof.Machine.execSeqNext sh t parity s
  | .seqJmp sh t parity => Sys2Proof.Machine.execSeqJmp sh t parity s
  | .seqCall sh t parity => Sys2Proof.Machine.execSeqCall sh t parity s
  | .seqRet sh t parity => Sys2Proof.Machine.execSeqRet sh t parity s
  | .seqLoop sh t parity => Sys2Proof.Machine.execSeqLoop sh t parity s
  | .seqLdloop sh t parity => Sys2Proof.Machine.execSeqLdloop sh t parity s
  | .seqWait sh t parity => Sys2Proof.Machine.execSeqWait sh t parity s
  | .waitSatisfied sh t parity => Sys2Proof.Machine.execWaitSatisfied sh t parity s
  | .seqYield sh t parity => Sys2Proof.Machine.execSeqYield sh t parity s
  | .seqDisp sh t parity => Sys2Proof.Machine.execSeqDisp sh t parity s
  | .seqDone sh t parity => Sys2Proof.Machine.execSeqDone sh t parity s
  | .seqFault sh t parity => Sys2Proof.Machine.execSeqFault sh t parity s
  | .seqJmpr sh t parity => Sys2Proof.Machine.execSeqJmpr sh t parity s
  | .memOpComplete sh t m => Sys2Proof.Machine.execMemOpComplete sh t m s
  | .threadWatchdog sh t => Sys2Proof.Machine.execThreadWatchdog sh t s
  | .swapGo ag k v => Sys2Proof.Machine.execSwapGo ag k v s
  | .spareLoaded k ok => Sys2Proof.Machine.execSpareLoaded k ok s
  | .swapFrameBoundary k => Sys2Proof.Machine.execSwapFrameBoundary k s
  | .swapQuiesceTimeout k => Sys2Proof.Machine.execSwapQuiesceTimeout k s
  | .swapComplete k digestOk loadOk => Sys2Proof.Machine.execSwapComplete k digestOk loadOk s
  | .refreshStep k => Sys2Proof.Machine.execRefreshStep k s
  | .draftLoadGo ag v => Sys2Proof.Machine.execDraftLoadGo ag v s
  | .draftStreamWrite ag w v => Sys2Proof.Machine.execDraftStreamWrite ag w v s
  | .draftFetched flash bad dig => Sys2Proof.Machine.execDraftFetched flash bad dig s
  | .draftVerified sigOk bad => Sys2Proof.Machine.execDraftVerified sigOk bad s
  | .imageCacheCopy => Sys2Proof.Machine.execImageCacheCopy s
  | .reweaveApply bad lost => Sys2Proof.Machine.execReweaveApply bad lost s
  | .pipelineFrame p => Sys2Proof.Machine.execPipelineFrame p s
  | .secondPassReentry p => Sys2Proof.Machine.execSecondPassReentry p s
  | .ruleCommit ag v => Sys2Proof.Machine.execRuleCommit ag v s
  | .macLearn => Sys2Proof.Machine.execMacLearn s
  | .macMove => Sys2Proof.Machine.execMacMove s
  | .macAgeVisit ix => Sys2Proof.Machine.execMacAgeVisit ix s
  | .macInsert ag v => Sys2Proof.Machine.execMacInsert ag v s
  | .macDelete ag v => Sys2Proof.Machine.execMacDelete ag v s
  | .macLookup ag v => Sys2Proof.Machine.execMacLookup ag v s
  | .macFlush ag v => Sys2Proof.Machine.execMacFlush ag v s
  | .macFlushDone => Sys2Proof.Machine.execMacFlushDone s
  | .routeAdd ag v => Sys2Proof.Machine.execRouteAdd ag v s
  | .routeDel ag v => Sys2Proof.Machine.execRouteDel ag v s
  | .routeLookup ag v => Sys2Proof.Machine.execRouteLookup ag v s
  | .frameAdmit => Sys2Proof.Machine.execFrameAdmit s
  | .uplinkDeparture p => Sys2Proof.Machine.execUplinkDeparture p s
  | .bufferFree pool ix who => Sys2Proof.Machine.execBufferFree pool ix who s
  | .spillHeadFetch q ue => Sys2Proof.Machine.execSpillHeadFetch q ue s
  | .uportWrite ag p w v => Sys2Proof.Machine.execUportWrite ag p w v s
  | .tmgFlush ag v => Sys2Proof.Machine.execTmgFlush ag v s
  | .tmgFlushDone => Sys2Proof.Machine.execTmgFlushDone s
  | .tribConfigWrite ag t w v => Sys2Proof.Machine.execTribConfigWrite ag t w v s
  | .containerReceive => Sys2Proof.Machine.execContainerReceive s
  | .jcDecision t => Sys2Proof.Machine.execJcDecision t s
  | .tribLocRaise t => Sys2Proof.Machine.execTribLocRaise t s
  | .tribLocClear t => Sys2Proof.Machine.execTribLocClear t s
  | .tribLomRaise t => Sys2Proof.Machine.execTribLomRaise t s
  | .tribLomClear t => Sys2Proof.Machine.execTribLomClear t s
  | .tribAisRaise t => Sys2Proof.Machine.execTribAisRaise t s
  | .tribAisClear t => Sys2Proof.Machine.execTribAisClear t s
  | .tribLopRaise t => Sys2Proof.Machine.execTribLopRaise t s
  | .tribPjeWindow t => Sys2Proof.Machine.execTribPjeWindow t s
  | .tsiFrame => Sys2Proof.Machine.execTsiFrame s
  | .cmSwitch ag v => Sys2Proof.Machine.execCmSwitch ag v s
  | .cmCopy ag v => Sys2Proof.Machine.execCmCopy ag v s
  | .cmCopyDone => Sys2Proof.Machine.execCmCopyDone s
  | .pwPacketReceive => Sys2Proof.Machine.execPwPacketReceive s
  | .tribPmSecond t => Sys2Proof.Machine.execTribPmSecond t s
  | .blobUnwrap ag v => Sys2Proof.Machine.execBlobUnwrap ag v s
  | .blobResult who plain => Sys2Proof.Machine.execBlobResult who plain s
  | .slotClr ag v => Sys2Proof.Machine.execSlotClr ag v s
  | .sealReq ag c ix v => Sys2Proof.Machine.execSealReq ag c ix v s
  | .sealedKey c slot part idx data => Sys2Proof.Machine.execSealedKey c slot part idx data s
  | .sealedAck c slot idx action result => Sys2Proof.Machine.execSealedAck c slot idx action result s
  | .sealSwitch c slot => Sys2Proof.Machine.execSealSwitch c slot s
  | .sealTimeout c slot => Sys2Proof.Machine.execSealTimeout c slot s
  | .entropyFail => Sys2Proof.Machine.execEntropyFail s
  | .entropyRetest pass => Sys2Proof.Machine.execEntropyRetest pass s
  | .nonceRead ag => Sys2Proof.Machine.execNonceRead ag s
  | .enrolGo ag v => Sys2Proof.Machine.execEnrolGo ag v s
  | .enrolDone sigOk nonce sign wrap => Sys2Proof.Machine.execEnrolDone sigOk nonce sign wrap s
  | .securityAlarm src => Sys2Proof.Machine.execSecurityAlarm src s
  | .cryErase ag v => Sys2Proof.Machine.execCryErase ag v s
  | .dbgChal => Sys2Proof.Machine.execDbgChal s
  | .dbgResp sigOk => Sys2Proof.Machine.execDbgResp sigOk s
  | .ppsInEdge ix rising sub => Sys2Proof.Machine.execPpsInEdge ix rising sub s
  | .ptpOfsWrite ag v => Sys2Proof.Machine.execPtpOfsWrite ag v s
  | .servoHoldover => Sys2Proof.Machine.execServoHoldover s
  | .timeStep ag v => Sys2Proof.Machine.execTimeStep ag v s
  | .timeNowRead ag => Sys2Proof.Machine.execTimeNowRead ag s
  | .tsFifoPop ag tx => Sys2Proof.Machine.execTsFifoPop ag tx s
  | .ptpTxGo ag v => Sys2Proof.Machine.execPtpTxGo ag v s
  | .ptpTxSend ag sub => Sys2Proof.Machine.execPtpTxSend ag sub s
  | .todUpdate => Sys2Proof.Machine.execTodUpdate s
  | .triggerArm ag j v => Sys2Proof.Machine.execTriggerArm ag j v s
  | .triggerFire j => Sys2Proof.Machine.execTriggerFire j s
  | .pulseEnd pin => Sys2Proof.Machine.execPulseEnd pin s
  | .portEnable ag l v => Sys2Proof.Machine.execPortEnable ag l v s
  | .portDisable ag l v => Sys2Proof.Machine.execPortDisable ag l v s
  | .portUp p => Sys2Proof.Machine.execPortUp p s
  | .hslLosRaise l us => Sys2Proof.Machine.execHslLosRaise l us s
  | .hslLosClear l ms => Sys2Proof.Machine.execHslLosClear l ms s
  | .hslLolRaise l => Sys2Proof.Machine.execHslLolRaise l s
  | .hslLolClear l => Sys2Proof.Machine.execHslLolClear l s
  | .loamRaise l => Sys2Proof.Machine.execLoamRaise l s
  | .loamClear l => Sys2Proof.Machine.execLoamClear l s
  | .uplinkFrameReceive p bytes fcsOk corr uncorr sub => Sys2Proof.Machine.execUplinkFrameReceive p bytes fcsOk corr uncorr sub s
  | .txLpiEnter p us => Sys2Proof.Machine.execTxLpiEnter p us s
  | .rxLpiSignal p enter => Sys2Proof.Machine.execRxLpiSignal p enter s
  | .svAlignmentMarker ix b onTime => Sys2Proof.Machine.execSvAlignmentMarker ix b onTime s
  | .svMarkerLoss ix => Sys2Proof.Machine.execSvMarkerLoss ix s
  | .heartbeatRx lane prev block => Sys2Proof.Machine.execHeartbeatRx lane prev block s
  | .hbPinWord w => Sys2Proof.Machine.execHbPinWord w s
  | .heartbeatTx => Sys2Proof.Machine.execHeartbeatTx s
  | .hbAliveTimeout pin => Sys2Proof.Machine.execHbAliveTimeout pin s
  | .svMessage first prev blocks => Sys2Proof.Machine.execSvMessage first prev blocks s
  | .slvMbxSend ag v => Sys2Proof.Machine.execSlvMbxSend ag v s
  | .slvMbxPop ag v => Sys2Proof.Machine.execSlvMbxPop ag v s
  | .boltRecord cls r => Sys2Proof.Machine.execBoltRecord cls r s
  | .coalFlush k => Sys2Proof.Machine.execCoalFlush k s
  | .boltRecordWritten => Sys2Proof.Machine.execBoltRecordWritten s
  | .alarmSramCopy => Sys2Proof.Machine.execAlarmSramCopy s
  | .cutFreeze ag v => Sys2Proof.Machine.execCutFreeze ag v s
  | .cutRelease ag v => Sys2Proof.Machine.execCutRelease ag v s
  | .cutPostEnd j => Sys2Proof.Machine.execCutPostEnd j s
  | .summarySecond => Sys2Proof.Machine.execSummarySecond s
  | .summaryCondense => Sys2Proof.Machine.execSummaryCondense s
  | .summaryLate => Sys2Proof.Machine.execSummaryLate s
  | .counterDump ag v => Sys2Proof.Machine.execCounterDump ag v s
  | .dumpImageWritten => Sys2Proof.Machine.execDumpImageWritten s
  | .tagComplete k ready latency => Sys2Proof.Machine.execTagComplete k ready latency s
  | .tagFifoPop ag k => Sys2Proof.Machine.execTagFifoPop ag k s
  | .bwWindowEnd c => Sys2Proof.Machine.execBwWindowEnd c s
  | .faultEvent k u inj => Sys2Proof.Machine.execFaultEvent k u inj s
  | .txRestartDone c locked => Sys2Proof.Machine.execTxRestartDone c locked s
  | .coreHeartbeatTimeout => Sys2Proof.Machine.execCoreHeartbeatTimeout s
  | .safeCauseClear k => Sys2Proof.Machine.execSafeCauseClear k s
  | .safeQuietExpiry => Sys2Proof.Machine.execSafeQuietExpiry s
  | .safeEnter ag v => Sys2Proof.Machine.execSafeEnter ag v s
  | .safeExit ag v => Sys2Proof.Machine.execSafeExit ag v s
  | .safePin low => Sys2Proof.Machine.execSafePin low s
  | .reactWrite ag k v => Sys2Proof.Machine.execReactWrite ag k v s
  | .reactReloadDone fromRom => Sys2Proof.Machine.execReactReloadDone fromRom s
  | .injectArm ag v => Sys2Proof.Machine.execInjectArm ag v s
  | .refGateEnd counts => Sys2Proof.Machine.execRefGateEnd counts s
  | .refLost x => Sys2Proof.Machine.execRefLost x s
  | .refPresent x => Sys2Proof.Machine.execRefPresent x s
  | .refRevert => Sys2Proof.Machine.execRefRevert s
  | .coastClear => Sys2Proof.Machine.execCoastClear s
  | .pllLock p => Sys2Proof.Machine.execPllLock p s
  | .pllLossOfLock p => Sys2Proof.Machine.execPllLossOfLock p s
  | .muxHang p => Sys2Proof.Machine.execMuxHang p s
  | .clockGate ag n v => Sys2Proof.Machine.execClockGate ag n v s
  | .gateForceTimeout n => Sys2Proof.Machine.execGateForceTimeout n s
  | .clockUngate ag n v => Sys2Proof.Machine.execClockUngate ag n v s
  | .blockReset ag v => Sys2Proof.Machine.execBlockReset ag v s
  | .porst => Sys2Proof.Machine.execPorst s
  | .srst => Sys2Proof.Machine.execSrst s
  | .blocksRelease => Sys2Proof.Machine.execBlocksRelease s
  | .vddTmpLoss => Sys2Proof.Machine.execVddTmpLoss s
  | .avsPeriod need => Sys2Proof.Machine.execAvsPeriod need s
  | .avsMarginAlarm r => Sys2Proof.Machine.execAvsMarginAlarm r s
  | .pmbusTransaction r ok iout => Sys2Proof.Machine.execPmbusTransaction r ok iout s
  | .clusterFreqPeriod busy => Sys2Proof.Machine.execClusterFreqPeriod busy s
  | .clusterFreqChange k => Sys2Proof.Machine.execClusterFreqChange k s
  | .clusterGate ag k v => Sys2Proof.Machine.execClusterGate ag k v s
  | .clusterUngate ag k v => Sys2Proof.Machine.execClusterUngate ag k v s
  | .selfRefreshRequest ag v => Sys2Proof.Machine.execSelfRefreshRequest ag v s
  | .selfRefreshExit ag v => Sys2Proof.Machine.execSelfRefreshExit ag v s
  | .thermalSample t => Sys2Proof.Machine.execThermalSample t s
  | .throttleStep => Sys2Proof.Machine.execThrottleStep s
  | .watchTrip e out n => Sys2Proof.Machine.execWatchTrip e out n s
  | .protEnable ag v => Sys2Proof.Machine.execProtEnable ag v s
  | .protDisable ag v => Sys2Proof.Machine.execProtDisable ag v s
  | .selfMute => Sys2Proof.Machine.execSelfMute s
  | .takeover => Sys2Proof.Machine.execTakeover s
  | .claimEnd => Sys2Proof.Machine.execClaimEnd s
  | .protRecordSend mt keys => Sys2Proof.Machine.execProtRecordSend mt keys s
  | .standbySelftest loop bist => Sys2Proof.Machine.execStandbySelftest loop bist s
  | .healthReport => Sys2Proof.Machine.execHealthReport s
  | .protSwitch ag v => Sys2Proof.Machine.execProtSwitch ag v s
  | .handoverExecute => Sys2Proof.Machine.execHandoverExecute s
  | .handoverTimeout => Sys2Proof.Machine.execHandoverTimeout s
  | .protTake ag v => Sys2Proof.Machine.execProtTake ag v s
  | .iprotSwitch j w => Sys2Proof.Machine.execIprotSwitch j w s
  | .hostLinkUp p => Sys2Proof.Machine.execHostLinkUp p s
  | .threadTimerExpiry sh t => Sys2Proof.Machine.execThreadTimerExpiry sh t s
  | .busInterfaceIdle n => Sys2Proof.Machine.execBusInterfaceIdle n s
  | .selfRefreshEntered => Sys2Proof.Machine.execSelfRefreshEntered s
  | .resetRelease => Sys2Proof.Machine.execResetRelease s
  | .faultLogPop ag => Sys2Proof.Machine.execFaultLogPop ag s
  | .ppsInRead ag ix => Sys2Proof.Machine.execPpsInRead ag ix s

end Sys2Proof.Machine
end

