-- ==== Sys2Proof/Safety.lean ====
section
/-! DEFINITION. What the claims call a sound state: the canonical forms of DDR-5 and of the register file, and the range
of device time. -/
namespace Sys2Proof.Machine

/-- DDR-5 is in its canonical form: addresses strictly rising, and no byte listed that equals what an unwritten byte reads as. -/
def Memory.wf (m : List Host.Cell) : Bool := twf (fun _ => ddrInit) m

/-- The register file is in its canonical form: offsets strictly rising, and no word listed that equals its reset value. -/
def Regs.wf (r : Tab Word) : Bool := twf resetWord r

/-- Device time is a count of whole seconds below 2^48, of nanoseconds below 10^9 and of 2^-32 ns below 2^32 (R372). -/
def Time.wf (t : Tim) : Bool := decide (t.ns < 1000000000) && decide (t.sec < 2 ^ 48) && decide (t.frac < 2 ^ 32)

/-- A sound state. -/
structure Sound (s : State) : Prop where
  ddr : Memory.wf s.ddr = true
  regs : Regs.wf s.regs = true
  time : Time.wf s.tim = true

-- ===== the words of the frames =====

/-- The parts of a state beside its register file, its queue of commands and its clock. -/
inductive Part where
  | fresh
  | ddr
  | agents
  | irq
  | cyc
  | msi
  | blks
  | host
  | pch
  | slots
  | rng
  | shd
  | ledger
  | sealRot
  | tmp
  | drf
  | tim
  | shu
  | blt
  | cry
  | slv
  | cls
  | tmg
  | hsl
  | fwd
  | trb
  | pmc
  deriving DecidableEq, Repr

/-- A part is the same in two states. -/
def Part.same (s t : State) : Part → Prop
  | .fresh => t.fresh = s.fresh
  | .ddr => t.ddr = s.ddr
  | .agents => t.agents = s.agents
  | .irq => t.irq = s.irq
  | .cyc => t.cyc = s.cyc
  | .msi => t.msi = s.msi
  | .blks => t.blks = s.blks
  | .host => t.host = s.host
  | .pch => t.pch = s.pch
  | .slots => t.slots = s.slots
  | .rng => t.rng = s.rng
  | .shd => t.shd = s.shd
  | .ledger => t.ledger = s.ledger
  | .sealRot => t.sealRot = s.sealRot
  | .tmp => t.tmp = s.tmp
  | .drf => t.drf = s.drf
  | .tim => t.tim = s.tim
  | .shu => t.shu = s.shu
  | .blt => t.blt = s.blt
  | .cry => t.cry = s.cry
  | .slv => t.slv = s.slv
  | .cls => t.cls = s.cls
  | .tmg => t.tmg = s.tmg
  | .hsl => t.hsl = s.hsl
  | .fwd => t.fwd = s.fwd
  | .trb => t.trb = s.trb
  | .pmc => t.pmc = s.pmc

/-- The queue, the clock and every part that `l` does not name are the same in `t` as in `s`. -/
def SameParts (l : List Part) (s t : State) : Prop := t.pending = s.pending ∧ t.now = s.now ∧ ∀ p, p ∉ l → p.same s t

/-- Every register that neither `l` names nor `other` takes in reads in `t` as in `s`. -/
def SameRegs (other : Nat → Bool) (l : List Nat) (s t : State) : Prop := ∀ a, a ∉ l → other a = false → t.rd a = s.rd a

/-- No register. -/
def noReg (_ : Nat) : Bool := false

/-- The registers from offset `lo` up to, not with, `hi`. -/
def regsIn (lo hi a : Nat) : Bool := decide (lo ≤ a) && decide (a < hi)

/-- The registers that reporting an event may write beside the event's own (R58, R60, R464): the pending bits of both ports, and the
count of blanked events. -/
def irqReg (a : Nat) : Bool :=
  decide (a = TMP_BLANKED) || decide (a = TMP_BLANKED + 4)
    || (decide (akey 0 (HPI_PBA 0) ≤ a) && decide (a < akey 0 (HPI_PBA 64)))
    || (decide (akey 1 (HPI_PBA 0) ≤ a) && decide (a < akey 1 (HPI_PBA 64)))

/-- The registers that producing a record may write: those of the Bolt (its block, the segment table, the live ledger counts), and what its
events may write. -/
def boltReg (a : Nat) : Bool :=
  irqReg a || (decide (0x7800000 ≤ a) && decide (a < 0x8000000)) || (decide (0xA100000 ≤ a) && decide (a < 0xA300000))
    || (decide (lkey 0x7802000 ≤ a) && decide (a < lkey 0x7802200))

/-- An access of an agent to an offset reaches its block (R45, R50, R51): the port's link is up, the offset is mapped, and the block
answers. -/
def State.reaches (s : State) (ag : Agent) (off : Nat) : Bool :=
  s.linkUp ag && decide (blockOf off < 200) && s.avail (blockOf off) && (famOf off).isSome

/-- The event bit of a field is set, unless its block is in a blanking window (R464). -/
abbrev Noted (s t : State) (a : Nat) (f : Fld) : Prop := (s.blks.look (blockOf (a + 4 * f.word))).blanked = false → t.on a f = true

/-- The state in which the words of an agent's MAC command stand, as it starts (R301). -/
def State.macCmd (s : State) (ag : Agent) (v : Word) : State :=
  (s.wr (akey (agCode ag) FWD_MAC_CMD) (word (v.toNat &&& rwBits FWD_MAC_CMD))).p (akey (agCode ag) FWD_MAC_CMD) FWD_MAC_CMD_GO 1

/-- The OP, BD, MAC and DEST of the MAC command that stands in a state. -/
def State.macOp (s : State) (ag : Agent) : Nat := bget (s.rd (akey (agCode ag) FWD_MAC_CMD)) 28 3
def State.macCmdBd (s : State) (ag : Agent) : Nat := bget (s.rd (akey (agCode ag) FWD_MAC_CMD)) 0 14
def State.macCmdMac (s : State) (ag : Agent) : Nat :=
  (s.rd (akey (agCode ag) FWD_MAC_CMD + 4)).toNat * 2 ^ 16 + bget (s.rd (akey (agCode ag) FWD_MAC_CMD + 8)) 16 16
def State.macCmdDest (s : State) (ag : Agent) : Nat := bget (s.rd (akey (agCode ag) FWD_MAC_CMD + 12)) 0 24

/-- The state in which the words of an agent's route command stand (R304). -/
def State.rtCmd (s : State) (ag : Agent) (v : Word) : State :=
  s.wr (akey (agCode ag) FWD_RT_CMD) (word (v.toNat &&& rwBits FWD_RT_CMD))

/-- The address of the route command that stands in a state. -/
def State.rtAddr (s : State) (ag : Agent) : Nat :=
  let a := akey (agCode ag) FWD_RT_CMD
  if s.on a FWD_RT_CMD_V6 then (s.rd (a + 4)).toNat * 2 ^ 96 + (s.rd (a + 8)).toNat * 2 ^ 64 + (s.rd (a + 12)).toNat * 2 ^ 32 + (s.rd (a + 16)).toNat
  else (s.rd (a + 4)).toNat

/-- The prefix that the route command names. -/
def State.rtPrefix (s : State) (ag : Agent) : Route :=
  let a := akey (agCode ag) FWD_RT_CMD
  ⟨s.g a FWD_RT_CMD_VRF, s.on a FWD_RT_CMD_V6, s.g a FWD_RT_CMD_LEN,
    s.rtAddr ag / 2 ^ (addrBits (s.on a FWD_RT_CMD_V6) - s.g a FWD_RT_CMD_LEN), s.g a FWD_RT_CMD_NH⟩

/-- What an agent's read returned. -/
def State.lastRead (s : State) (ag : Agent) : Word := (s.agents.look (agCode ag)).last

end Sys2Proof.Machine
end

