-- ==== Sys2Proof/Certificates/Slice0/Obligations.lean ====
section
/-! DEFINITION. The statements for the provers. -/
open Sys2Proof Sys2Proof.Machine

/-- For every command c, every rest of the queue and every state, a step with c in front is exec of c with the rest of the queue. -/
def Obligations.StepRunsTheFrontCommand : Prop :=
  ∀ (c : Instr) (rest : List Instr) (s : State), step { s with pending := c :: rest } = exec c { s with pending := rest }

/-- On an empty queue a step answers a next state whose clock is one nanosecond later and whose queue is still empty; while TIM has
not been released device time stands still. That an idle step is a nanosecond is the model's choice (log entry 2); the spec lists
no command for a tick. -/
def Obligations.AnIdleStepIsOneNanosecond : Prop :=
  ∀ s : State, s.pending = [] →
    ∃ t, step s = .next t ∧ t.now = s.now + 1 ∧ t.pending = [] ∧ t.ddr = s.ddr ∧
      (s.tim.runs = false → t.devNs = s.devNs)

/-- At reset DDR-5 and the register file are in their canonical forms and device time is within its range. -/
def Obligations.ResetIsSound : Prop :=
  Sound State.reset ∧ State.reset.pending = []

/-- From every sound state, whatever command is in front or with none, a step that answers a next state answers a sound one: DDR-5 and
the register file stay strictly rising with no entry equal to what an unlisted one reads as, and device time keeps ns below 10^9,
sec below 2^48 and the fraction below 2^32 (the ranges of R372; the canonical forms are the model's own). -/
def Obligations.EveryStepKeepsSound : Prop :=
  ∀ s t : State, Sound s → step s = .next t → Sound t

/-- Whatever command runs, where it answers a next state the commands that wait and the clock of nanoseconds since power-on are as
before: commands take no time of their own and only a step removes one from the queue (log entries 1 and 2). -/
def Obligations.ACommandKeepsTheQueueAndTheClock : Prop :=
  ∀ (c : Instr) (s t : State), exec c s = .next t → t.pending = s.pending ∧ t.now = s.now

/-- Every command of the table, on every state, either answers a next state or is refused because its operands are not those of a
command of the device: no access of the model faults and no meaning is missing. -/
def Obligations.NoCommandFaults : Prop :=
  ∀ (c : Instr) (s : State), (∃ t, exec c s = .next t) ∨ (c.wellFormed = false ∧ ∃ r, exec c s = .refused r)

/-- REGISTER_WRITE of an aligned register word without a rule of its own (no pair, no SQC, HMW or per-agent field, no enable page):
each bit that the register's access codes make writable takes the written bit, every other bit of it keeps its value, and no other
register and no other part of the state changes. A write whose byte enables are partial changes no register but the error
registers of the host port and sets HPI_ERR.PARTIAL. A link that comes up lets its port reach the bridge. -/
def Obligations.APlainWriteReplacesTheWritableBits : Prop :=
  (∀ (ag : Agent) (off : Nat) (v : Word) (f : RegFam) (s : State),
      offOk off = true →
      s.reaches ag off = true →
      famOf off = some f →
      f.agent = false →
      f.hmw = false →
      f.sqc = 0 →
      (f.pair = 0 ∨ f.rw = 0) →
      isIntEn off = false →
      (writeRoutes.map (·.1)).contains f.base = false →
      ∃ t, exec (.registerWrite ag off 15 v) s = .next t ∧
        (∀ i : Fin 32, (t.rd off).getLsbD i = if (rwBits off).testBit i then v.getLsbD i else (s.rd off).getLsbD i) ∧
        SameParts [] s t ∧
        SameRegs noReg [off] s t) ∧
  (∀ (ag : Agent) (off : Nat) (be : Fin 16) (v : Word) (s : State),
      offOk off = true →
      s.linkUp ag = true →
      be.val ≠ 15 →
      ∃ t, exec (.registerWrite ag off be v) s = .next t ∧
        Noted s t HPI_ERR HPI_ERR_PARTIAL ∧
        SameParts [.irq, .cyc, .msi, .shu] s t ∧
        SameRegs irqReg [HPI_ERR, HPI_ERR_ADDR, HPI_ERR_ADDR + 4] s t) ∧
  (∀ (p : Port) (s : State),
      ∃ t, exec (.hostLinkUp p) s = .next t ∧
        t.linkUp (portAgent p) = true ∧
        SameParts [.host] s t ∧
        SameRegs noReg [] s t)

/-- For an agent that reaches the bridge and an aligned BAR0 offset that lies in no block, or in an unused part of a block that
answers: a read returns 0, a write changes no register beside the error registers, and each sets HPI_ERR.UNMAPPED (unless HPI's
own events are blanked). -/
def Obligations.UnmappedOffsetsReadZeroAndDropWrites : Prop :=
  (∀ (ag : Agent) (off : Nat) (s : State),
      offOk off = true →
      s.linkUp ag = true →
      (200 ≤ blockOf off ∨ (s.avail (blockOf off) = true ∧ famOf off = none)) →
      ∃ t, exec (.readLoSnapshot ag off) s = .next t ∧
        t.lastRead ag = 0 ∧
        Noted s t HPI_ERR HPI_ERR_UNMAPPED ∧
        SameParts [.irq, .cyc, .msi, .shu, .agents] s t ∧
        SameRegs irqReg [HPI_ERR, HPI_ERR_ADDR, HPI_ERR_ADDR + 4] s t) ∧
  (∀ (ag : Agent) (off : Nat) (v : Word) (s : State),
      offOk off = true →
      s.linkUp ag = true →
      (200 ≤ blockOf off ∨ (s.avail (blockOf off) = true ∧ famOf off = none)) →
      ∃ t, exec (.registerWrite ag off 15 v) s = .next t ∧
        Noted s t HPI_ERR HPI_ERR_UNMAPPED ∧
        SameParts [.irq, .cyc, .msi, .shu] s t ∧
        SameRegs irqReg [HPI_ERR, HPI_ERR_ADDR, HPI_ERR_ADDR + 4] s t)

/-- For a writable 64-bit pair without a rule of its own, at lo and lo + 4, and an agent that reaches it. A write of the high word
changes no register and leaves in the agent's holding register the value with its pair, in place of what it held. A write of the
low word replaces the low word's writable bits; where the held value belongs to this pair it replaces the high word's writable
bits and leaves the holding register empty, and where nothing or another pair's value is held, the high word and the holding
register stay. Nothing else changes. -/
def Obligations.APairIsWrittenByItsLowWord : Prop :=
  (∀ (ag : Agent) (off : Nat) (v : Word) (f : RegFam) (s : State),
      offOk (off) = true →
      s.reaches ag (off) = true →
      famOf (off) = some f →
      f.agent = false →
      f.hmw = false →
      f.sqc = 0 →
      f.pair = 2 →
      f.rw ≠ 0 →
      isIntEn (off) = false →
      (writeRoutes.map (·.1)).contains f.base = false →
      ∃ t, exec (.writeHiHold ag off 15 v) s = .next t ∧
        (t.agents.look (agCode ag)).hold = some (off, v) ∧
        SameParts [.agents] s t ∧
        SameRegs noReg [] s t) ∧
  (∀ (ag : Agent) (off : Nat) (v h : Word) (f : RegFam) (s : State),
      offOk (off) = true →
      s.reaches ag (off) = true →
      famOf (off) = some f →
      f.agent = false →
      f.hmw = false →
      f.sqc = 0 →
      f.pair = 1 →
      f.rw ≠ 0 →
      isIntEn (off) = false →
      (writeRoutes.map (·.1)).contains f.base = false →
      (s.agents.look (agCode ag)).hold = some (off + 4, h) →
      ∃ t, exec (.writeLoPair ag off 15 v) s = .next t ∧
        (t.agents.look (agCode ag)).hold = none ∧
        (∀ b : Fin 32, (t.rd off).getLsbD b = if (rwBits off).testBit b then (v).getLsbD b else (s.rd off).getLsbD b) ∧
        (∀ b : Fin 32, (t.rd (off + 4)).getLsbD b = if (rwBits (off + 4)).testBit b then (h).getLsbD b else (s.rd (off + 4)).getLsbD b) ∧
        SameParts [.agents] s t ∧
        SameRegs noReg [off, off + 4] s t) ∧
  (∀ (ag : Agent) (off : Nat) (v : Word) (f : RegFam) (s : State),
      offOk (off) = true →
      s.reaches ag (off) = true →
      famOf (off) = some f →
      f.agent = false →
      f.hmw = false →
      f.sqc = 0 →
      f.pair = 1 →
      f.rw ≠ 0 →
      isIntEn (off) = false →
      (writeRoutes.map (·.1)).contains f.base = false →
      ((s.agents.look (agCode ag)).hold.map (·.1)) ≠ some (off + 4) →
      ∃ t, exec (.writeLoPair ag off 15 v) s = .next t ∧
        (∀ b : Fin 32, (t.rd off).getLsbD b = if (rwBits off).testBit b then (v).getLsbD b else (s.rd off).getLsbD b) ∧
        SameParts [] s t ∧
        SameRegs noReg [off] s t)

/-- For a 64-bit pair without a rule of its own for reads, and an agent that reaches it: a read of the low word returns its readable
bits and leaves the high word of the same instant, and only that, in the agent's snapshot register; no register changes. The
instant is the present one; of a counter, the pair before the increments of the present cycle (R35). A read of the high word that
the agent's snapshot register holds returns the snapshot, whatever the pair holds by then, and changes nothing but what the agent
read. -/
def Obligations.ALowWordReadSnapshotsTheHighWord : Prop :=
  (∀ (ag : Agent) (off : Nat) (f : RegFam) (s : State),
      offOk (off) = true →
      s.reaches ag (off) = true →
      famOf (off) = some f →
      f.agent = false →
      f.pair = 1 →
      (readRoutes.map (·.1)).contains f.base = false →
      f.counts off = false →
      ∃ t, exec (.readLoSnapshot ag off) s = .next t ∧
        t.lastRead ag = word ((s.rd off).toNat &&& (0xFFFFFFFF - f.wo)) ∧
        (t.agents.look (agCode ag)).snap = [(off + 4, s.rd (off + 4))] ∧
        SameParts [.agents] s t ∧
        SameRegs noReg [] s t) ∧
  (∀ (ag : Agent) (off : Nat) (f : RegFam) (s : State),
      offOk (off) = true →
      s.reaches ag (off) = true →
      famOf (off) = some f →
      f.agent = false →
      f.pair = 1 →
      (readRoutes.map (·.1)).contains f.base = false →
      f.counts off = true →
      ∃ t, exec (.readLoSnapshot ag off) s = .next t ∧
        t.lastRead ag = word (s.was64 off) ∧
        (t.agents.look (agCode ag)).snap = [(off + 4, word (s.was64 off / 2 ^ 32))] ∧
        SameParts [.agents] s t ∧
        SameRegs noReg [] s t) ∧
  (∀ (ag : Agent) (off : Nat) (h : Word) (f : RegFam) (s : State),
      offOk (off) = true →
      s.reaches ag (off) = true →
      famOf (off) = some f →
      f.agent = false →
      f.pair = 2 →
      (readRoutes.map (·.1)).contains f.base = false →
      (s.agents.look (agCode ag)).snap = [(off, h)] →
      ∃ t, exec (.readLoSnapshot ag off) s = .next t ∧
        t.lastRead ag = h ∧
        SameParts [.agents] s t ∧
        SameRegs noReg [] s t)

/-- For an event register without a rule of its own and an agent that reaches it, in a cycle in which no event of the register has
come: a write whose bits 31:24 are the present sequence number clears each event bit written as 1, keeps those written as 0 and
the sequence number, and replaces the other writable bits; no other register and no other part of the state changes but the note
of the clear that R55 needs for the rest of the cycle. A write with any other number there, or in the cycle of an event of the
register (R55), changes no bit of the register and nothing else at all. -/
def Obligations.ASequenceCheckedClearSeesTheNumber : Prop :=
  (∀ (ag : Agent) (off : Nat) (v : Word) (f : RegFam) (s : State),
      offOk off = true →
      s.reaches ag off = true →
      famOf off = some f →
      f.agent = false →
      f.hmw = false →
      f.sqc ≠ 0 →
      isIntEn off = false →
      (writeRoutes.map (·.1)).contains f.base = false →
      bget v 24 8 = bget (s.rd off) 24 8 →
      s.cyc.ev.look off = false →
      ∃ t, exec (.sqcWriteClear ag off 15 v) s = .next t ∧
        (∀ i : Fin 32, (t.rd off).getLsbD i = if f.rw.testBit i then v.getLsbD i else (s.rd off).getLsbD i && !(f.sqc.testBit i && v.getLsbD i)) ∧
        SameParts [.cyc] s t ∧
        SameRegs noReg [off] s t) ∧
  (∀ (ag : Agent) (off : Nat) (v : Word) (f : RegFam) (s : State),
      offOk off = true →
      s.reaches ag off = true →
      famOf off = some f →
      f.agent = false →
      f.hmw = false →
      f.sqc ≠ 0 →
      isIntEn off = false →
      (writeRoutes.map (·.1)).contains f.base = false →
      (bget v 24 8 ≠ bget (s.rd off) 24 8 ∨ s.cyc.ev.look off = true) →
      ∃ t, exec (.sqcWriteClear ag off 15 v) s = .next t ∧
        t.rd off = s.rd off ∧
        SameParts [] s t ∧
        SameRegs noReg [] s t)

/-- For an agent that reaches the register: a half-mask write (of a port's low-power idle enables) gives an enable the written value
where the mask bit 16 above it is 1, and keeps the rest of the register. A write of a register of an interrupt enable page
replaces it and changes no other register; the enables that stood before it still decide for the events of the present cycle, the
new ones from the next (R61). -/
def Obligations.HalfMaskAndEnableWrites : Prop :=
  (∀ (ag : Agent) (l : Fin 32) (v : Word) (s : State),
      s.reaches ag (HSL_LPI l) = true →
      ∃ t, exec (.hmwWrite ag (HSL_LPI l) 15 v) s = .next t ∧
        (∀ i : Fin 32, (t.rd (HSL_LPI l)).getLsbD i = if decide (i.val < 2) && v.getLsbD (16 + i.val) then v.getLsbD i else (s.rd (HSL_LPI l)).getLsbD i) ∧
        SameParts [] s t ∧
        SameRegs noReg [HSL_LPI l] s t) ∧
  (∀ (ag : Agent) (off : Nat) (v : Word) (s : State),
      offOk off = true →
      s.reaches ag off = true →
      isIntEn off = true →
      ∃ t, exec (.intEnWrite ag off 15 v) s = .next t ∧
        t.rd off = v ∧
        (∀ j : Fin 16, t.enabled (blockOf off) j = s.enabled (blockOf off) j) ∧
        ({ t with cyc := (default : Cyc) }).rd off = v ∧
        SameParts [.cyc] s t ∧
        SameRegs noReg [off] s t)

/-- For an agent that reaches semaphore i. A read of a free one makes the reader the owner and returns its code (1 HPA, 2 HPB, 3
Temple, 4 shuttle microcode) with ACQUIRED; a read of an owned one returns the owner's code and changes nothing. A write of 0 by
the owner releases it; a write of 0 by any other agent, to a free one too, changes nothing but sets HPI_ERR.SEM_FOREIGN; a write
whose OWNER field is not 0 changes nothing (of a word that is not 0 but has OWNER 0 nothing is said here; log entry 84). Commands
run one after another, so two reads of one cycle are two commands in the order of R47. -/
def Obligations.SemaphoresBelongToTheirReader : Prop :=
  (∀ (ag : Agent) (i : Fin 256) (s : State),
      s.reaches ag (HPI_SEM i) = true →
      s.g (HPI_SEM i) HPI_SEM_OWNER = 0 →
      ∃ t, exec (.semRead ag i) s = .next t ∧
        t.g (HPI_SEM i) HPI_SEM_OWNER = semCode ag ∧
        t.lastRead ag = word (256 + semCode ag) ∧
        SameParts [.agents] s t ∧
        SameRegs noReg [HPI_SEM i] s t) ∧
  (∀ (ag : Agent) (i : Fin 256) (s : State),
      s.reaches ag (HPI_SEM i) = true →
      s.g (HPI_SEM i) HPI_SEM_OWNER ≠ 0 →
      ∃ t, exec (.semRead ag i) s = .next t ∧
        t.lastRead ag = word (s.g (HPI_SEM i) HPI_SEM_OWNER) ∧
        SameParts [.agents] s t ∧
        SameRegs noReg [] s t) ∧
  (∀ (ag : Agent) (i : Fin 256) (v : Word) (s : State),
      s.reaches ag (HPI_SEM i) = true →
      v = 0 →
      s.g (HPI_SEM i) HPI_SEM_OWNER = semCode ag →
      ∃ t, exec (.semRelease ag i v) s = .next t ∧
        t.g (HPI_SEM i) HPI_SEM_OWNER = 0 ∧
        SameParts [] s t ∧
        SameRegs noReg [HPI_SEM i] s t) ∧
  (∀ (ag : Agent) (i : Fin 256) (v : Word) (s : State),
      s.reaches ag (HPI_SEM i) = true →
      v = 0 →
      s.g (HPI_SEM i) HPI_SEM_OWNER ≠ semCode ag →
      ∃ t, exec (.semRelease ag i v) s = .next t ∧
        Noted s t HPI_ERR HPI_ERR_SEM_FOREIGN ∧
        SameParts [.irq, .cyc, .msi, .shu] s t ∧
        SameRegs irqReg [HPI_ERR, HPI_ERR_ADDR, HPI_ERR_ADDR + 4] s t) ∧
  (∀ (ag : Agent) (i : Fin 256) (v : Word) (s : State),
      s.reaches ag (HPI_SEM i) = true →
      bget v 0 3 ≠ 0 →
      ∃ t, exec (.semRelease ag i v) s = .next t ∧
        SameParts [] s t ∧
        SameRegs noReg [] s t)

/-- A holdoff that ends with an assertion event behind it, on a port that the source is routed to and whose vector is not masked,
sends the vector once more and starts the next holdoff. A port reset takes the link down, releases exactly the semaphores that the
port owns and empties its snapshot and holding registers. An access that its block has not completed sets HPI_ERR.TIMEOUT and
marks the block hung, a read returns all ones, and the Temple has an event of BLK_HUNG (class 0x29) against the unit of the block,
number 432 plus its source, to classify at the end of the cycle. -/
def Obligations.HoldoffsPortsAndHungBlocks : Prop :=
  (∀ (n : Fin 200) (p : Port) (s : State),
      (s.irq.look (2 * n + portCode p)).active = true →
      (s.irq.look (2 * n + portCode p)).again = true →
      s.routed n (portCode p) = true →
      bget (s.rd (akey (portCode p) (HPI_MSIX (s.g (HPI_IRQ_ROUTE n) HPI_IRQ_ROUTE_VECTOR)) + 12)) 0 1 = 0 →
      ∃ t, exec (.irqHoldoffExpiry n p) s = .next t ∧
        t.msi.look (2048 * portCode p + s.g (HPI_IRQ_ROUTE n) HPI_IRQ_ROUTE_VECTOR) = s.msi.look (2048 * portCode p + s.g (HPI_IRQ_ROUTE n) HPI_IRQ_ROUTE_VECTOR) + 1 ∧
        t.irq.look (2 * n + portCode p) = ⟨s.on (HPI_IRQ_ROUTE n) HPI_IRQ_ROUTE_HOLDOFF, false, true⟩ ∧
        SameParts [.irq, .msi] s t ∧
        SameRegs noReg [] s t) ∧
  (∀ (p : Port) (s : State),
      ∃ t, exec (.hostPortReset p) s = .next t ∧
        t.linkUp (portAgent p) = false ∧
        t.agents.look (portCode p) = default ∧
        (∀ i : Fin 256, t.g (HPI_SEM i) HPI_SEM_OWNER = if s.g (HPI_SEM i) HPI_SEM_OWNER = portCode p + 1 then 0 else s.g (HPI_SEM i) HPI_SEM_OWNER) ∧
        SameParts [.agents, .host] s t ∧
        SameRegs (fun a => decide (HPI_SEM 0 ≤ a) && decide (a < HPI_SEM 256)) [] s t) ∧
  (∀ (ag : Agent) (off : Nat) (isRead : Bool) (s : State),
      offOk off = true →
      s.linkUp ag = true →
      blockOf off < 200 →
      s.avail (blockOf off) = true →
      ∃ t, exec (.accessTimeout ag off isRead) s = .next t ∧
        (t.blks.look (blockOf off)).hung = true ∧
        (isRead = true → t.lastRead ag = 0xFFFFFFFF) ∧
        Noted s t HPI_ERR HPI_ERR_TIMEOUT ∧
        t.cyc.faults = s.cyc.faults ++ [⟨0x29, 432 + blockOf off, false, false⟩] ∧
        SameParts [.irq, .cyc, .msi, .shu, .agents, .blks] s t ∧
        SameRegs irqReg [HPI_ERR, HPI_ERR_ADDR, HPI_ERR_ADDR + 4] s t)

/-- BAR2 of port p maps offset x to the device physical address GRANULE of HPI_WIN[p] times 1 GiB plus x, and an agent that reaches
either window register may move it. While the link is up, DDR-5 takes data and the address is no hole and below 4 TiB: a read
returns that byte and changes nothing else; a write outside the device-owned regions replaces that byte and no other. -/
def Obligations.TheDdrWindowAddressesMemory : Prop :=
  (∀ (p : Port) (off : Fin 68719476736) (s : State),
      s.linkUp (portAgent p) = true →
      s.ddrUp = true →
      (s.g (HPI_WIN (portCode p)) HPI_WIN_GRANULE * 2 ^ 30 + off) < 2 ^ 42 →
      s.isHole (s.g (HPI_WIN (portCode p)) HPI_WIN_GRANULE * 2 ^ 30 + off) = false →
      ∃ t, exec (.bar2Access p off none) s = .next t ∧
        (match p with | .hpa => t.host.bar2A | .hpb => t.host.bar2B) = s.ddrRd (s.g (HPI_WIN (portCode p)) HPI_WIN_GRANULE * 2 ^ 30 + off) ∧
        SameParts [.host] s t ∧
        SameRegs noReg [] s t) ∧
  (∀ (p : Port) (off : Fin 68719476736) (v : Byte) (s : State),
      s.linkUp (portAgent p) = true →
      s.ddrUp = true →
      (s.g (HPI_WIN (portCode p)) HPI_WIN_GRANULE * 2 ^ 30 + off) < 2 ^ 42 →
      s.isHole (s.g (HPI_WIN (portCode p)) HPI_WIN_GRANULE * 2 ^ 30 + off) = false →
      s.deviceOwned (s.g (HPI_WIN (portCode p)) HPI_WIN_GRANULE * 2 ^ 30 + off) = false →
      ∃ t, exec (.bar2Access p off (some v)) s = .next t ∧
        t.ddrRd (s.g (HPI_WIN (portCode p)) HPI_WIN_GRANULE * 2 ^ 30 + off) = v ∧
        (∀ b, b ≠ (s.g (HPI_WIN (portCode p)) HPI_WIN_GRANULE * 2 ^ 30 + off) → t.ddrRd b = s.ddrRd b) ∧
        SameParts [.ddr] s t ∧
        SameRegs noReg [] s t) ∧
  (∀ (ag : Agent) (p : Port) (v : Word) (s : State),
      s.reaches ag (HPI_WIN (portCode p)) = true →
      ∃ t, exec (.hpiWinWrite ag p v) s = .next t ∧
        t.g (HPI_WIN (portCode p)) HPI_WIN_GRANULE = bget v 0 12 ∧
        SameParts [] s t ∧
        SameRegs noReg [HPI_WIN (portCode p)] s t)

/-- While the port's link is up: a BAR2 access to an address beyond 4 TiB, to a hole, or made while DDR-5 is not trained sets
HPI_ERR.WIN_RANGE; a read of it returns all ones and a write of it is dropped. A write to a region that the draft marks
device-owned is dropped and sets HPI_ERR.WIN_PROT; a read there returns the byte. -/
def Obligations.TheDdrWindowRefusesWhatIsNotThere : Prop :=
  (∀ (p : Port) (off : Fin 68719476736) (s : State),
      s.linkUp (portAgent p) = true →
      (2 ^ 42 ≤ (s.g (HPI_WIN (portCode p)) HPI_WIN_GRANULE * 2 ^ 30 + off) ∨ s.isHole (s.g (HPI_WIN (portCode p)) HPI_WIN_GRANULE * 2 ^ 30 + off) = true ∨ s.ddrTrained = false) →
      ∃ t, exec (.bar2Access p off none) s = .next t ∧
        (match p with | .hpa => t.host.bar2A | .hpb => t.host.bar2B) = 0xFF#8 ∧
        Noted s t HPI_ERR HPI_ERR_WIN_RANGE ∧
        SameParts [.irq, .cyc, .msi, .shu, .host] s t ∧
        SameRegs irqReg [HPI_ERR, HPI_ERR_ADDR, HPI_ERR_ADDR + 4] s t) ∧
  (∀ (p : Port) (off : Fin 68719476736) (v : Byte) (s : State),
      s.linkUp (portAgent p) = true →
      (2 ^ 42 ≤ (s.g (HPI_WIN (portCode p)) HPI_WIN_GRANULE * 2 ^ 30 + off) ∨ s.isHole (s.g (HPI_WIN (portCode p)) HPI_WIN_GRANULE * 2 ^ 30 + off) = true ∨ s.ddrTrained = false) →
      ∃ t, exec (.bar2Access p off (some v)) s = .next t ∧
        Noted s t HPI_ERR HPI_ERR_WIN_RANGE ∧
        SameParts [.irq, .cyc, .msi, .shu] s t ∧
        SameRegs irqReg [HPI_ERR, HPI_ERR_ADDR, HPI_ERR_ADDR + 4] s t) ∧
  (∀ (p : Port) (off : Fin 68719476736) (v : Byte) (s : State),
      s.linkUp (portAgent p) = true →
      s.ddrUp = true →
      (s.g (HPI_WIN (portCode p)) HPI_WIN_GRANULE * 2 ^ 30 + off) < 2 ^ 42 →
      s.isHole (s.g (HPI_WIN (portCode p)) HPI_WIN_GRANULE * 2 ^ 30 + off) = false →
      s.deviceOwned (s.g (HPI_WIN (portCode p)) HPI_WIN_GRANULE * 2 ^ 30 + off) = true →
      ∃ t, exec (.bar2Access p off (some v)) s = .next t ∧
        Noted s t HPI_ERR HPI_ERR_WIN_PROT ∧
        SameParts [.irq, .cyc, .msi, .shu] s t ∧
        SameRegs irqReg [HPI_ERR, HPI_ERR_ADDR, HPI_ERR_ADDR + 4] s t) ∧
  (∀ (p : Port) (off : Fin 68719476736) (s : State),
      s.linkUp (portAgent p) = true →
      s.ddrUp = true →
      (s.g (HPI_WIN (portCode p)) HPI_WIN_GRANULE * 2 ^ 30 + off) < 2 ^ 42 →
      s.isHole (s.g (HPI_WIN (portCode p)) HPI_WIN_GRANULE * 2 ^ 30 + off) = false →
      s.deviceOwned (s.g (HPI_WIN (portCode p)) HPI_WIN_GRANULE * 2 ^ 30 + off) = true →
      ∃ t, exec (.bar2Access p off none) s = .next t ∧
        (match p with | .hpa => t.host.bar2A | .hpb => t.host.bar2B) = s.ddrRd (s.g (HPI_WIN (portCode p)) HPI_WIN_GRANULE * 2 ^ 30 + off) ∧
        SameParts [.host] s t ∧
        SameRegs noReg [] s t)

/-- Training that ends, outside coasting, with every populated channel of one capacity and no failing DIMM marks exactly the populated
channels TRAINED and is over. A periodic calibration of trained DDR-5 changes no register; a patrol scrub of a channel that is
due, the period of the memory plan after the channel's last one, is noted with its time and, where it meets data that it cannot
correct, sets UE of the channel. A write of MEM_RANK_MAP sets MAP_OUT under its mask and, where that newly maps ranks out, adds
exactly those to RANKS_MAPPED_OUT of the channel. -/
def Obligations.DdrTrainingScrubAndMapOut : Prop :=
  (∀ (obs : List DimmObs) (n : Nat) (s : State),
      dimmsOk obs = true →
      s.host.training = true →
      s.coasting = false →
      (∀ o ∈ obs, o.ranks ≠ 0 → o.fail = false ∧ o.gib = n) →
      ∃ t, exec (.ddrTrainingDone obs) s = .next t ∧
        t.host.training = false ∧
        (∀ m : Fin 8, t.on (MEM_STATUS m) MEM_STATUS_TRAINED = decide ((obs.getD m ⟨0, 0, false⟩).ranks ≠ 0)) ∧
        SameParts [.host] s t ∧
        SameRegs (fun a => decide (MEM_STATUS 0 ≤ a) && decide (a < MEM_STATUS 8)) [] s t) ∧
  (∀ (s : State),
      s.ddrTrained = true →
      ∃ t, exec (.ddrPeriodicCal) s = .next t ∧
        t.host.cals = s.host.cals + 1 ∧
        SameParts [.host] s t ∧
        SameRegs noReg [] s t) ∧
  (∀ (m : Fin 8) (ue : Bool) (s : State),
      s.ddrTrained = true →
      s.host.scrubAt.look m + s.scrubHours * 3600000000000 ≤ s.now →
      ∃ t, exec (.patrolScrub m ue) s = .next t ∧
        t.host.scrubAt.look m = s.now ∧
        (ue = true → Noted s t (MEM_STATUS m) MEM_STATUS_UE) ∧
        SameParts [.irq, .cyc, .msi, .host, .shu] s t ∧
        SameRegs irqReg [MEM_STATUS m] s t) ∧
  (∀ (ag : Agent) (m : Fin 8) (v : Word) (s : State),
      s.reaches ag (MEM_RANK_MAP m) = true →
      ∃ t, exec (.rankMapOut ag m v) s = .next t ∧
        t.g (MEM_RANK_MAP m) MEM_RANK_MAP_MAP_OUT = ((s.g (MEM_RANK_MAP m) MEM_RANK_MAP_MAP_OUT &&& (255 - bget v 16 8)) ||| (bget v 0 8 &&& bget v 16 8)) ∧
        t.g (MEM_STATUS m) MEM_STATUS_RANKS_MAPPED_OUT = s.g (MEM_STATUS m) MEM_STATUS_RANKS_MAPPED_OUT ||| (((s.g (MEM_RANK_MAP m) MEM_RANK_MAP_MAP_OUT &&& (255 - bget v 16 8)) ||| (bget v 0 8 &&& bget v 16 8)) &&& bget v 16 8) ∧
        SameParts [.irq, .cyc, .msi, .tmp, .shu, .tmg] s t)

/-- In a state whose register file, and the one kept of the cycle before, are in canonical form, an agent that reaches PMC_AUDIT_CTL
and writes SNAP = 1 latches a snapshot, whether or not one is being checked: BUSY is 1, SNAP_SEQ advances by one modulo its width,
and every ledger register of the grants, of the queues and of the Bolt holds the live count that stood before the increments of
this cycle (R35), each pool of buffers its size, free and lent buffers, each channel its open entries, with LATE where the oldest
is more than two frames and the maximum round-trip time in force old. Only registers of the ledgers, the snapshot's status and the
credits' free values (log entry 9) change. When the checks end, BUSY is 0 and each ledger's result holds how many of its instances
fail the equality of its rule, at most 0xFFF; a ledger with a failure has its FAIL bit noted. -/
def Obligations.AnAuditLatchesAndChecksTheLedgers : Prop :=
  (∀ (ag : Agent) (v : Word) (s : State),
      Regs.wf s.regs = true →
      Regs.wf s.cyc.was.regs = true →
      s.reaches ag PMC_AUDIT_CTL = true →
      v.getLsbD 0 = true →
      ∃ t, exec (.auditSnap ag v) s = .next t ∧
        t.on PMC_AUDIT_STATUS PMC_AUDIT_STATUS_BUSY = true ∧
        t.g PMC_AUDIT_STATUS PMC_AUDIT_STATUS_SNAP_SEQ = (s.g PMC_AUDIT_STATUS PMC_AUDIT_STATUS_SNAP_SEQ + 1) % 2 ^ PMC_AUDIT_STATUS_SNAP_SEQ.w ∧
        (∀ k : Fin 8, t.rd64 (BLT_AUD_PRODUCED k) = ({ s with regs := s.cyc.was.regs } : State).rd64 (lkey (BLT_AUD_PRODUCED k))) ∧
        (∀ k : Fin 8, t.rd64 (BLT_AUD_STORED k) = ({ s with regs := s.cyc.was.regs } : State).rd64 (lkey (BLT_AUD_STORED k))) ∧
        (∀ k : Fin 8, t.rd64 (BLT_AUD_DROPPED k) = ({ s with regs := s.cyc.was.regs } : State).rd64 (lkey (BLT_AUD_DROPPED k))) ∧
        (∀ k : Fin 8, t.rd64 (BLT_AUD_COALESCED k) = ({ s with regs := s.cyc.was.regs } : State).rd64 (lkey (BLT_AUD_COALESCED k))) ∧
        (∀ k : Fin 8, t.rd64 (BLT_AUD_LOST k) = ({ s with regs := s.cyc.was.regs } : State).rd64 (lkey (BLT_AUD_LOST k))) ∧
        (∀ c : Fin 64, t.rd64 (SHD_LEDGER_ISSUED c) = ({ s with regs := s.cyc.was.regs } : State).rd64 (lkey (SHD_LEDGER_ISSUED c))) ∧
        (∀ c : Fin 64, t.rd64 (SHD_LEDGER_RECEIVED c) = ({ s with regs := s.cyc.was.regs } : State).rd64 (lkey (SHD_LEDGER_RECEIVED c))) ∧
        (∀ c : Fin 64, t.rd64 (SHD_LEDGER_ABSENT c) = ({ s with regs := s.cyc.was.regs } : State).rd64 (lkey (SHD_LEDGER_ABSENT c))) ∧
        (∀ c : Fin 64, t.rd64 (SHD_LEDGER_ERRORED c) = ({ s with regs := s.cyc.was.regs } : State).rd64 (lkey (SHD_LEDGER_ERRORED c))) ∧
        (∀ c : Fin 64, t.rd64 (SHD_LEDGER_DISCARDED c) = ({ s with regs := s.cyc.was.regs } : State).rd64 (lkey (SHD_LEDGER_DISCARDED c))) ∧
        (∀ q, q < 163840 → t.rd64 (TMG_AUD_ENQUEUED q) = ({ s with regs := s.cyc.was.regs } : State).rd64 (lkey (TMG_AUD_ENQUEUED q))) ∧
        (∀ q, q < 163840 → t.rd64 (TMG_AUD_DEQUEUED q) = ({ s with regs := s.cyc.was.regs } : State).rd64 (lkey (TMG_AUD_DEQUEUED q))) ∧
        (∀ q, q < 163840 → t.rd64 (TMG_AUD_DROPPED q) = ({ s with regs := s.cyc.was.regs } : State).rd64 (lkey (TMG_AUD_DROPPED q))) ∧
        (∀ q, q < 163840 → t.rd64 (TMG_AUD_RESIDENT q) = ({ s with regs := s.cyc.was.regs } : State).rd64 (lkey (TMG_AUD_RESIDENT q))) ∧
        (∀ p : Fin 8, t.g (BPM_AUD p) BPM_AUD_SIZE = ({ s with regs := s.cyc.was.regs } : State).g (BPM_POOL p) BPM_POOL_COUNT ∧ t.g (BPM_AUD p) BPM_AUD_FREE = ({ s with regs := s.cyc.was.regs } : State).g (BPM_POOL p) BPM_POOL_FREE) ∧
        (∀ c : Fin 64, t.g (SHD_LEDGER_STATE c) SHD_LEDGER_STATE_OPEN = (s.cyc.was.ledger.filter (fun e => decide (e.2.channel = c.val) && decide (e.2.state ≠ 0))).length % 8192) ∧
        (∀ c : Fin 64, t.on (SHD_LEDGER_STATE c) SHD_LEDGER_STATE_LATE = s.cyc.was.ledger.any (fun e => decide (e.2.channel = c.val) && decide (e.2.state ≠ 0) && decide (250000 + (s.pch.look c).teqd < s.now - e.2.sealAt))) ∧
        SameParts [.fresh, .pmc] s t ∧
        SameRegs (fun a => audited a || regsIn (BPM_AUD 0) (BPM_AUD 8) a || regsIn (PMC_AUD_LOOP 0) (PMC_AUD_LOOP 1024) a || regsIn (SHD_LEDGER_STATE 0) (SHD_LEDGER_STATE 64) a) [PMC_AUDIT_STATUS] s t) ∧
  (∀ (s : State),
      s.on PMC_AUDIT_STATUS PMC_AUDIT_STATUS_BUSY = true →
      ∃ t, exec (.auditChecksDone) s = .next t ∧
        t.on PMC_AUDIT_STATUS PMC_AUDIT_STATUS_BUSY = false ∧
        t.g (PMC_AUDIT_RESULT 0) PMC_AUDIT_RESULT_MISMATCHES = min ((List.range 8).filter (fun p => decide (s.g (BPM_AUD p) BPM_AUD_SIZE ≠ s.g (BPM_AUD p) BPM_AUD_FREE + s.g (BPM_AUD p) BPM_AUD_INUSE))).length 0xFFF ∧
        t.g (PMC_AUDIT_RESULT 1) PMC_AUDIT_RESULT_MISMATCHES = min ((List.range 64).filter (fun c => decide (s.rd64 (SHD_LEDGER_ISSUED c) ≠ (s.rd64 (SHD_LEDGER_RECEIVED c) + s.rd64 (SHD_LEDGER_ABSENT c) + s.rd64 (SHD_LEDGER_ERRORED c) + s.rd64 (SHD_LEDGER_DISCARDED c) + s.g (SHD_LEDGER_STATE c) SHD_LEDGER_STATE_OPEN) % 2 ^ 64) || s.on (SHD_LEDGER_STATE c) SHD_LEDGER_STATE_LATE)).length 0xFFF ∧
        t.g (PMC_AUDIT_RESULT 2) PMC_AUDIT_RESULT_MISMATCHES = min ((List.range 1024).filter (fun i => decide (s.g (PMC_AUD_LOOP i) PMC_AUD_LOOP_SIZE ≠ s.g (PMC_AUD_LOOP i) PMC_AUD_LOOP_AVAIL + s.g (PMC_AUD_LOOP i) PMC_AUD_LOOP_TRANSIT + s.g (PMC_AUD_LOOP i) PMC_AUD_LOOP_HELD))).length 0xFFF ∧
        t.g (PMC_AUDIT_RESULT 3) PMC_AUDIT_RESULT_MISMATCHES = min ((List.range 163840).filter (fun q => decide (s.rd64 (TMG_AUD_ENQUEUED q) ≠ (s.rd64 (TMG_AUD_DEQUEUED q) + s.rd64 (TMG_AUD_DROPPED q) + s.rd64 (TMG_AUD_RESIDENT q)) % 2 ^ 64))).length 0xFFF ∧
        t.g (PMC_AUDIT_RESULT 4) PMC_AUDIT_RESULT_MISMATCHES = min ((List.range 8).filter (fun k => decide (s.rd64 (BLT_AUD_PRODUCED k) ≠ (s.rd64 (BLT_AUD_STORED k) + s.rd64 (BLT_AUD_DROPPED k)) % 2 ^ 64))).length 0xFFF ∧
        (∀ j : Fin 5, t.g (PMC_AUDIT_RESULT j) PMC_AUDIT_RESULT_MISMATCHES ≠ 0 → (s.blks.look 15).blanked = false → (t.rd PMC_AUDIT_STATUS).getLsbD j = true) ∧
        SameParts [.irq, .cyc, .msi, .shu] s t ∧
        SameRegs irqReg [PMC_AUDIT_STATUS, PMC_AUDIT_RESULT 0, PMC_AUDIT_RESULT 1, PMC_AUDIT_RESULT 2, PMC_AUDIT_RESULT 3, PMC_AUDIT_RESULT 4] s t)

/-- ENABLE written 1 by an agent that reaches the register. An OFF channel outside a reweave whose start checks pass goes to STARTING
with CFG_ERR 0 and its module held disabled: every equaliser entry has lost VALID, every slot has profile 1 and the PLOAM queue
holds the two burst profiles alone. One whose check fails stays OFF, CFG_ERR holds the first code that fails and the event is
noted; a RETIRED one stays RETIRED with code 7. A STARTING or ACTIVE channel only stores the write and ends its coast hold. The
PLL that locks while it acquires is locked; the first PSync on a free start carries SFC_INIT with ALIGN_ERR 0, and the frame after
it is the first open one. STARTING ends in ACTIVE once TX_ON_FRAMES frames have left, with no sleep asked for. The order of the
two profile messages and the profile's delimiter are the shuttle's (log entry 1). -/
def Obligations.ChannelsStart : Prop :=
  (∀ (ag : Agent) (c : Fin 64) (v : Word) (s : State),
      s.reaches ag (PCH_CTL c) = true →
      v.getLsbD 31 = true →
      s.chState c = 0 →
      s.inReweave c = false →
      (s.wrRW (PCH_CTL c) v).startCheck c = 0 →
      ∃ t, exec (.channelEnable ag c v) s = .next t ∧
        t.chState c = 1 ∧
        t.g (PCH_STATUS c) PCH_STATUS_CFG_ERR = 0 ∧
        t.txdis c = true ∧
        (t.pch.look c).ploamQ.length = 2 ∧
        (t.pch.look c).running = false ∧
        (∀ j : Fin 261, t.on (PCH_EQ c j) PCH_EQ_VALID = false) ∧
        (∀ i : Fin 256, t.g (RNG_ONU c i) RNG_ONU_PROF = 1) ∧
        SameParts [.fresh, .pch, .rng] s t ∧
        SameRegs (fun a => regsIn (PCH_EQ c 0) (PCH_EQ c 261) a || regsIn (RNG_ONU c 0) (RNG_ONU c 256) a || regsIn (PCH_BRX_PROF c 0) (PCH_BRX_PROF c 2) a) [PCH_CTL c, PCH_STATUS c, RNG_STATUS c, DSF_STATUS c, TIM_TOD c] s t) ∧
  (∀ (ag : Agent) (c : Fin 64) (v : Word) (s : State),
      s.reaches ag (PCH_CTL c) = true →
      v.getLsbD 31 = true →
      s.chState c = 0 →
      s.inReweave c = false →
      (s.wrRW (PCH_CTL c) v).startCheck c ≠ 0 →
      ∃ t, exec (.channelEnable ag c v) s = .next t ∧
        t.chState c = 0 ∧
        t.g (PCH_STATUS c) PCH_STATUS_CFG_ERR = (s.wrRW (PCH_CTL c) v).startCheck c ∧
        Noted s t (PCH_DEFECT c) PCH_DEFECT_CFG_ERR_EVT ∧
        SameParts [.irq, .cyc, .msi, .shu] s t ∧
        SameRegs irqReg [PCH_CTL c, PCH_STATUS c, PCH_DEFECT c] s t) ∧
  (∀ (ag : Agent) (c : Fin 64) (v : Word) (s : State),
      s.reaches ag (PCH_CTL c) = true →
      v.getLsbD 31 = true →
      s.chState c = 4 →
      ∃ t, exec (.channelEnable ag c v) s = .next t ∧
        t.chState c = 4 ∧
        t.g (PCH_STATUS c) PCH_STATUS_CFG_ERR = 7 ∧
        Noted s t (PCH_DEFECT c) PCH_DEFECT_CFG_ERR_EVT ∧
        SameParts [.irq, .cyc, .msi, .shu] s t ∧
        SameRegs irqReg [PCH_CTL c, PCH_STATUS c, PCH_DEFECT c] s t) ∧
  (∀ (ag : Agent) (c : Fin 64) (v : Word) (s : State),
      s.reaches ag (PCH_CTL c) = true →
      v.getLsbD 31 = true →
      (s.chState c = 1 ∨ s.chState c = 2) →
      ∃ t, exec (.channelEnable ag c v) s = .next t ∧
        t.chState c = s.chState c ∧
        t.pch.look c = { s.pch.look c with coastHold := false } ∧
        SameParts [.pch] s t ∧
        SameRegs noReg [PCH_CTL c] s t) ∧
  (∀ (c : Fin 64) (s : State),
      s.txAcquiring c = true →
      ∃ t, exec (.txPllLock c) s = .next t ∧
        t.pch.look c = { s.pch.look c with txLocked := true, lolBlank := false, pendingLol := false } ∧
        SameParts [.pch] s t ∧
        SameRegs noReg [] s t) ∧
  (∀ (c : Fin 64) (s : State),
      s.chState c = 1 →
      (s.pch.look c).txLocked = true →
      (s.pch.look c).running = false →
      (s.pch.look c).freeAlign = true →
      (s.pch.look c).pair = false →
      ∃ t, exec (.firstPsync c) s = .next t ∧
        (t.pch.look c).running = true ∧
        (t.pch.look c).framesSent = 1 ∧
        t.rd64 (DSF_SFC c) = s.rd64 (DSF_SFC_INIT c) % 2 ^ 51 ∧
        (t.pch.look c).openLo = s.rd64 (DSF_SFC_INIT c) % 2 ^ 51 + 1 ∧
        t.rd (DSF_ALIGN_ERR c) = 0 ∧
        t.on (DSF_STATUS c) DSF_STATUS_ALIGNED = false ∧
        t.rd (DSF_PSYNC_NS c) = word s.tim.ns ∧
        SameParts [.irq, .cyc, .msi, .pch, .shu, .cry] s t) ∧
  (∀ (c : Fin 64) (s : State),
      s.chState c = 1 →
      (s.pch.look c).running = true →
      (s.pch.look c).txLocked = true →
      (s.pch.look c).protHeld = false →
      max (s.g (PCH_CTL c) PCH_CTL_TX_ON_FRAMES) 1 ≤ (s.pch.look c).framesSent →
      s.on (PCH_SLEEP c) PCH_SLEEP_TX_SLEEP = false →
      s.on (PCH_SLEEP c) PCH_SLEEP_RX_SLEEP = false →
      ∃ t, exec (.startingComplete c) s = .next t ∧
        t.chState c = 2 ∧
        (t.shd.look c).allocs = [] ∧
        (t.shd.look c).starting = true ∧
        (t.shd.look c).startNext = 0 ∧
        SameParts [.shd] s t ∧
        SameRegs noReg [PCH_STATUS c] s t)

/-- ENABLE written 0 on a STARTING or ACTIVE channel takes it to CLOSING: the grants of frames not yet sealed are discarded and
counted in ABANDONED and its hint table is empty; with DISABLE_MODE 1 its downstream queues are empty too. On any other channel
the write is stored and changes no state but a waiting ENABLE. The drain limit drops every frame that waits in the queues of a
CLOSING channel but those admitted in its own cycle. Closing ends when no frame sealed before, no window and no fragment is left
to send or receive and the queues are empty: the channel is OFF, grants still in its buffers are counted in ABANDONED and what the
shed had not taken in INQ_FLUSH, and with no waiting ENABLE and no hold it stays OFF. -/
def Obligations.ChannelsClose : Prop :=
  (∀ (ag : Agent) (c : Fin 64) (v : Word) (s : State),
      s.reaches ag (PCH_CTL c) = true →
      v.getLsbD 31 = false →
      (s.chState c = 1 ∨ s.chState c = 2) →
      ∃ t, exec (.channelDisable ag c v) s = .next t ∧
        t.chState c = 3 ∧
        t.rd64 (SHD_ABANDONED c) = (s.rd64 (SHD_ABANDONED c) + ((s.pch.look c).buf0.length + (s.pch.look c).buf1.length)) % 2 ^ 64 ∧
        (t.pch.look c).buf0 = [] ∧
        (t.pch.look c).buf1 = [] ∧
        (t.pch.look c).sealed = (s.pch.look c).sealed ∧
        (t.shd.look c).hints = [] ∧
        (t.on (PCH_CTL c) PCH_CTL_DISABLE_MODE = true → ∀ q : Fin 2048, t.queue (2048 * c + q) = []) ∧
        (t.on (PCH_CTL c) PCH_CTL_DISABLE_MODE = false → s.cyc.enq = [] → t.tmg = s.tmg) ∧
        SameParts [.cyc, .pch, .shd, .tmg] s t) ∧
  (∀ (ag : Agent) (c : Fin 64) (v : Word) (s : State),
      s.reaches ag (PCH_CTL c) = true →
      v.getLsbD 31 = false →
      s.chState c ≠ 1 →
      s.chState c ≠ 2 →
      ∃ t, exec (.channelDisable ag c v) s = .next t ∧
        t.pch.look c = { s.pch.look c with enPending := false } ∧
        SameParts [.pch] s t ∧
        SameRegs noReg [PCH_CTL c] s t) ∧
  (∀ (c : Fin 64) (s : State),
      s.chState c = 3 →
      ∃ t, exec (.drainTimeout c) s = .next t ∧
        (∀ q : Fin 2048, t.queue (2048 * c + q) = (s.queue (2048 * c + q)).drop ((s.queue (2048 * c + q)).length - s.newest (2048 * c + q))) ∧
        SameParts [.cyc, .tmg] s t) ∧
  (∀ (c : Fin 64) (s : State),
      s.chState c = 3 →
      (s.pch.look c).wins = [] →
      (s.pch.look c).closeWait = 0 →
      (s.pch.look c).carry = none →
      s.chanEmpty c = true →
      (s.pch.look c).enPending = false →
      (s.protHolds c && s.on (PCH_CTL c) PCH_CTL_ENABLE) = false →
      ∃ t, exec (.closingDone c) s = .next t ∧
        t.chState c = 0 ∧
        t.rd64 (SHD_INQ_FLUSH c) = (s.rd64 (SHD_INQ_FLUSH c) + (s.shd.look c).inq.length) % 2 ^ 64 ∧
        (t.shd.look c).inq = [] ∧
        t.rd64 (SHD_ABANDONED c) = (s.rd64 (SHD_ABANDONED c) + ((s.pch.look c).buf0.length + (s.pch.look c).buf1.length)) % 2 ^ 64 ∧
        (t.pch.look c).buf0 = [] ∧
        (t.pch.look c).buf1 = [] ∧
        (t.pch.look c).running = false ∧
        t.txdis c = true ∧
        SameParts [.pch, .shd] s t ∧
        SameRegs noReg [PCH_STATUS c, SHD_INQ_STATUS c, SHD_INQ_FLUSH c, SHD_INQ_FLUSH c + 4, SHD_ABANDONED c, SHD_ABANDONED c + 4] s t)

/-- A half-mask write of PCH_SLEEP by an agent that reaches it, on an ACTIVE channel, stores the bits its mask names. TX_SLEEP set
while every slot of the register file is EMPTY or ISOLATED puts the transmit direction to sleep: TX_ASLEEP is 1, SLEEP_REFUSED 0
and the channel is muted; with a slot in another state and FORCE_TX 0 only SLEEP_REFUSED is set. TX_SLEEP cleared wakes a sleeping
transmit direction. RX_SLEEP set stops the sealing of grants and discards those of open frames into ABANDONED; the receiver powers
down once no sealed window is left; RX_SLEEP cleared wakes it. -/
def Obligations.ChannelSleep : Prop :=
  (∀ (ag : Agent) (c : Fin 64) (v : Word) (s : State),
      s.reaches ag (PCH_SLEEP c) = true →
      s.chState c = 2 →
      v.getLsbD 16 = true →
      v.getLsbD 0 = true →
      v.getLsbD 17 = false →
      s.on (PCH_STATUS c) PCH_STATUS_TX_ASLEEP = false →
      ((s.keysIn (RNG_ONU c 0) (RNG_ONU c 256)).any (fun a => decide ((a - RNG_ONU c 0) % 16 = 0) && !(decide (bget (s.rd a) 29 3 = 0) || decide (bget (s.rd a) 29 3 = 5)))) = false →
      ∃ t, exec (.txSleepRequest ag c v) s = .next t ∧
        t.on (PCH_SLEEP c) PCH_SLEEP_TX_SLEEP = true ∧
        t.on (PCH_STATUS c) PCH_STATUS_TX_ASLEEP = true ∧
        t.on (PCH_STATUS c) PCH_STATUS_SLEEP_REFUSED = false ∧
        (t.pch.look c).txLocked = false ∧
        t.txdis c = true ∧
        SameParts [.pch] s t ∧
        SameRegs noReg [PCH_SLEEP c, PCH_STATUS c] s t) ∧
  (∀ (ag : Agent) (c : Fin 64) (v : Word) (s : State),
      s.reaches ag (PCH_SLEEP c) = true →
      s.chState c = 2 →
      v.getLsbD 16 = true →
      v.getLsbD 0 = true →
      v.getLsbD 17 = false →
      s.on (PCH_STATUS c) PCH_STATUS_TX_ASLEEP = false →
      ((s.keysIn (RNG_ONU c 0) (RNG_ONU c 256)).any (fun a => decide ((a - RNG_ONU c 0) % 16 = 0) && !(decide (bget (s.rd a) 29 3 = 0) || decide (bget (s.rd a) 29 3 = 5)))) = true →
      v.getLsbD 18 = false →
      s.on (PCH_SLEEP c) PCH_SLEEP_FORCE_TX = false →
      ∃ t, exec (.txSleepRequest ag c v) s = .next t ∧
        t.on (PCH_SLEEP c) PCH_SLEEP_TX_SLEEP = true ∧
        t.on (PCH_STATUS c) PCH_STATUS_TX_ASLEEP = false ∧
        t.on (PCH_STATUS c) PCH_STATUS_SLEEP_REFUSED = true ∧
        SameParts [] s t ∧
        SameRegs noReg [PCH_SLEEP c, PCH_STATUS c] s t) ∧
  (∀ (ag : Agent) (c : Fin 64) (v : Word) (s : State),
      s.reaches ag (PCH_SLEEP c) = true →
      s.chState c = 2 →
      v.getLsbD 16 = true →
      v.getLsbD 0 = false →
      v.getLsbD 17 = false →
      s.on (PCH_STATUS c) PCH_STATUS_TX_ASLEEP = true →
      (s.pch.look c).waking = false →
      ∃ t, exec (.txWakeRequest ag c v) s = .next t ∧
        t.on (PCH_SLEEP c) PCH_SLEEP_TX_SLEEP = false ∧
        t.pch.look c = { s.pch.look c with waking := true } ∧
        SameParts [.pch] s t ∧
        SameRegs noReg [PCH_SLEEP c] s t) ∧
  (∀ (ag : Agent) (c : Fin 64) (v : Word) (s : State),
      s.reaches ag (PCH_SLEEP c) = true →
      s.chState c = 2 →
      v.getLsbD 17 = true →
      v.getLsbD 1 = true →
      v.getLsbD 16 = false →
      (s.pch.look c).rxStop = false →
      ∃ t, exec (.rxSleepRequest ag c v) s = .next t ∧
        t.on (PCH_SLEEP c) PCH_SLEEP_RX_SLEEP = true ∧
        t.rd64 (SHD_ABANDONED c) = (s.rd64 (SHD_ABANDONED c) + ((s.pch.look c).buf0.length + (s.pch.look c).buf1.length)) % 2 ^ 64 ∧
        t.pch.look c = { s.pch.look c with buf0 := [], buf1 := [], rxStop := true } ∧
        SameParts [.pch] s t ∧
        SameRegs noReg [PCH_SLEEP c, SHD_ABANDONED c, SHD_ABANDONED c + 4] s t) ∧
  (∀ (c : Fin 64) (s : State),
      (s.pch.look c).rxStop = true →
      (s.pch.look c).wins = [] →
      ∃ t, exec (.rxPowerdown c) s = .next t ∧
        t.on (PCH_STATUS c) PCH_STATUS_RX_ASLEEP = true ∧
        SameParts [] s t ∧
        SameRegs noReg [PCH_STATUS c] s t) ∧
  (∀ (ag : Agent) (c : Fin 64) (v : Word) (s : State),
      s.reaches ag (PCH_SLEEP c) = true →
      s.chState c = 2 →
      v.getLsbD 17 = true →
      v.getLsbD 1 = false →
      v.getLsbD 16 = false →
      (s.pch.look c).rxStop = true →
      ∃ t, exec (.rxWakeRequest ag c v) s = .next t ∧
        t.on (PCH_SLEEP c) PCH_SLEEP_RX_SLEEP = false ∧
        t.on (PCH_STATUS c) PCH_STATUS_RX_ASLEEP = false ∧
        t.pch.look c = { s.pch.look c with rxStop := false } ∧
        SameParts [.pch] s t ∧
        SameRegs noReg [PCH_SLEEP c, PCH_STATUS c] s t)

/-- LOS whose criterion holds, outside the blanking windows, sets its live bit and notes its event; within one it is only counted in
PCH_BLANKED and waits. LOL after 100 ns out of lock, and TXF after two errors within 1 ms, do the same, LOL muting the channel,
and each is reported to the Temple as a fault of its class against the channel, which the Temple takes at the end of the cycle
(log entry 2). A serializer FIFO error counts as a TXF error; one that makes no second within 1 ms raises nothing. Each defect
clears by its own criterion: its live bit is 0 and the event is noted again. No other register changes beside those of the Bolt
and of the interrupt. -/
def Obligations.ChannelDefectsRaiseAndClear : Prop :=
  (∀ (c : Fin 64) (s : State),
      s.losSet c = true →
      ((s.pch.look c).blankDef || (s.pch.look c).blankMute) = false →
      s.on (PCH_DEFECT c) PCH_DEFECT_LOS_LIVE = false →
      ∃ t, exec (.chLosRaise c) s = .next t ∧
        t.on (PCH_DEFECT c) PCH_DEFECT_LOS_LIVE = true ∧
        Noted s t (PCH_DEFECT c) PCH_DEFECT_LOS ∧
        t.pch.look c = { s.pch.look c with pendingLos := false } ∧
        SameParts [.irq, .cyc, .msi, .pch, .shu, .blt] s t ∧
        SameRegs boltReg [PCH_DEFECT c] s t) ∧
  (∀ (c : Fin 64) (s : State),
      s.losSet c = true →
      ((s.pch.look c).blankDef || (s.pch.look c).blankMute) = true →
      s.on (PCH_DEFECT c) PCH_DEFECT_LOS_LIVE = false →
      ∃ t, exec (.chLosRaise c) s = .next t ∧
        t.rd64 (PCH_BLANKED c) = (s.rd64 (PCH_BLANKED c) + 1) % 2 ^ 64 ∧
        t.pch.look c = { s.pch.look c with pendingLos := true } ∧
        SameParts [.pch] s t ∧
        SameRegs noReg [PCH_BLANKED c, PCH_BLANKED c + 4] s t) ∧
  (∀ (c : Fin 64) (s : State),
      s.losClear c = true →
      s.on (PCH_DEFECT c) PCH_DEFECT_LOS_LIVE = true →
      ∃ t, exec (.chLosClear c) s = .next t ∧
        t.on (PCH_DEFECT c) PCH_DEFECT_LOS_LIVE = false ∧
        Noted s t (PCH_DEFECT c) PCH_DEFECT_LOS ∧
        t.pch.look c = { s.pch.look c with pendingLos := false } ∧
        SameParts [.irq, .cyc, .msi, .pch, .shu, .blt] s t ∧
        SameRegs boltReg [PCH_DEFECT c] s t) ∧
  (∀ (c : Fin 64) (outNs : Nat) (s : State),
      100 ≤ outNs →
      ((s.pch.look c).blankDef || (s.pch.look c).lolBlank) = false →
      s.on (PCH_DEFECT c) PCH_DEFECT_LOL_LIVE = false →
      ∃ t, exec (.chLolRaise c outNs) s = .next t ∧
        t.on (PCH_DEFECT c) PCH_DEFECT_LOL_LIVE = true ∧
        Noted s t (PCH_DEFECT c) PCH_DEFECT_LOL ∧
        t.txdis c = true ∧
        t.pch.look c = { s.pch.look c with pendingLol := false } ∧
        t.cyc.faults = s.cyc.faults ++ [⟨2, c, false, false⟩] ∧
        SameParts [.irq, .cyc, .msi, .pch, .shu, .blt] s t ∧
        SameRegs boltReg [PCH_DEFECT c] s t) ∧
  (∀ (c : Fin 64) (lockUs : Nat) (s : State),
      1000 ≤ lockUs →
      s.on (PCH_DEFECT c) PCH_DEFECT_LOL_LIVE = true →
      ∃ t, exec (.chLolClear c lockUs) s = .next t ∧
        t.on (PCH_DEFECT c) PCH_DEFECT_LOL_LIVE = false ∧
        Noted s t (PCH_DEFECT c) PCH_DEFECT_LOL ∧
        SameParts [.irq, .cyc, .msi, .pch, .shu, .blt] s t ∧
        SameRegs boltReg [PCH_DEFECT c] s t) ∧
  (∀ (c : Fin 64) (err : Bool) (s : State),
      ((s.when err (fun z => z.txfError c)).pch.look c).txfDue = true →
      (s.pch.look c).permBlank = false →
      s.on (PCH_DEFECT c) PCH_DEFECT_TXF_LIVE = false →
      ∃ t, exec (.chTxfRaise ⟨c, err⟩) s = .next t ∧
        t.on (PCH_DEFECT c) PCH_DEFECT_TXF_LIVE = true ∧
        Noted s t (PCH_DEFECT c) PCH_DEFECT_TXF ∧
        (t.pch.look c).txfDue = false ∧
        t.cyc.faults = s.cyc.faults ++ [⟨1, c, false, false⟩] ∧
        SameParts [.irq, .cyc, .msi, .pch, .shu, .blt] s t ∧
        SameRegs boltReg [PCH_DEFECT c] s t) ∧
  (∀ (c : Fin 64) (err : Bool) (s : State),
      ((s.when err (fun z => z.txfError c)).pch.look c).txfDue = false →
      ∃ t, exec (.chTxfRaise ⟨c, err⟩) s = .next t ∧
        (err = true → (t.pch.look c).txfLast = some s.now) ∧
        (err = false → t = s) ∧
        SameParts [.pch] s t ∧
        SameRegs noReg [] s t) ∧
  (∀ (c : Fin 64) (s : State),
      (∀ l ∈ (s.pch.look c).txfLast, 10000000 ≤ s.now - l) →
      s.on (PCH_DEFECT c) PCH_DEFECT_TXF_LIVE = true →
      ∃ t, exec (.chTxfClear c) s = .next t ∧
        t.on (PCH_DEFECT c) PCH_DEFECT_TXF_LIVE = false ∧
        Noted s t (PCH_DEFECT c) PCH_DEFECT_TXF ∧
        (t.pch.look c).txfDue = false ∧
        SameParts [.irq, .cyc, .msi, .pch, .shu, .blt] s t ∧
        SameRegs boltReg [PCH_DEFECT c] s t)

/-- A mismatch of TXDIS counts one TXF error once it has lasted more than 200 ns and one more for each further 200 ns: two of them
make TXF due. A level of CHn_LOS that stays for LOS_FILTER replaces the filtered one. A blanking window that ends, with no defect
waiting behind it, changes only its own mark. A write of MOD_CMD while GO is 1 is dropped; one with GO and a LEN of 1 to 4 sets GO
and puts the mailbox at the end of its bus's queue; another LEN gives RESULT 1. The transaction at the head of its bus ends with
the result that the bus showed (0 done, 1 not acknowledged, 2 stuck bus or stretch timeout, 3 multiplexer), GO clears, the bus
goes to the next mailbox, and a read leaves the LEN bytes in MOD_DATA. -/
def Obligations.ModuleSignalsAndBuses : Prop :=
  (∀ (c : Fin 64) (ns : Nat) (s : State),
      400 ≤ ns →
      ∃ t, exec (.txdisReadbackMismatch c ns) s = .next t ∧
        (t.pch.look c).txfDue = true ∧
        (t.pch.look c).txfLast = some s.now ∧
        SameParts [.pch] s t ∧
        SameRegs noReg [] s t) ∧
  (∀ (c : Fin 64) (ns : Nat) (s : State),
      ns ≤ 200 →
      ∃ t, exec (.txdisReadbackMismatch c ns) s = .next t ∧
        t.pch = s.pch ∧
        SameParts [] s t ∧
        SameRegs noReg [] s t) ∧
  (∀ (c : Fin 64) (ns : Nat) (s : State),
      200 < ns →
      ns < 400 →
      ∃ t, exec (.txdisReadbackMismatch c ns) s = .next t ∧
        (t.pch.look c).txfLast = some s.now ∧
        ((s.pch.look c).txfLast = none → (t.pch.look c).txfDue = (s.pch.look c).txfDue) ∧
        SameParts [.pch] s t ∧
        SameRegs noReg [] s t) ∧
  (∀ (c : Fin 64) (level : Bool) (stable : Nat) (s : State),
      s.g (PCH_PIN_CTL2 c) PCH_PIN_CTL2_LOS_FILTER ≤ stable →
      (s.pch.look c).losPin ≠ level →
      ∃ t, exec (.losPinChange c level stable) s = .next t ∧
        t.pch.look c = { s.pch.look c with losPin := level, pinSince := s.now } ∧
        SameParts [.pch] s t ∧
        SameRegs noReg [] s t) ∧
  (∀ (c : Fin 64) (s : State),
      (s.pch.look c).pendingLos = false →
      (s.pch.look c).pendingLol = false →
      ∃ t, exec (.blankingWindowEnd (.channel c)) s = .next t ∧
        t.pch.look c = { s.pch.look c with blank := false } ∧
        SameParts [.pch] s t ∧
        SameRegs noReg [] s t) ∧
  (∀ (c : Fin 64) (s : State),
      (s.pch.look c).txRestart = false →
      (s.pch.look c).pendingLos = false →
      (s.pch.look c).pendingLol = false →
      ∃ t, exec (.blankingWindowEnd (.txRestart c)) s = .next t ∧
        t.pch.look c = { s.pch.look c with blankTx := false } ∧
        SameParts [.pch] s t ∧
        SameRegs noReg [] s t) ∧
  (∀ (c : Fin 64) (s : State),
      s.tmp.mute = false →
      s.safe = false →
      s.tmp.safePin = false →
      (s.pch.look c).pendingLos = false →
      (s.pch.look c).pendingLol = false →
      (∀ i : Fin 256, bit (s.slot c i).pendRaise PCH_ONU_DEF_DG.lo = false) →
      ∃ t, exec (.blankingWindowEnd (.mute c)) s = .next t ∧
        t.pch.look c = { s.pch.look c with blankMute := false } ∧
        SameParts [.pch] s t ∧
        SameRegs noReg [] s t) ∧
  (∀ (c : Fin 64) (s : State),
      ∃ t, exec (.blankingWindowEnd (.tributary c)) s = .next t ∧
        t.pch.look c = { s.pch.look c with tribBlank := false } ∧
        SameParts [.pch] s t ∧
        SameRegs noReg [] s t) ∧
  (∀ (m r : Fin 8) (s : State),
      ∃ t, exec (.blankingWindowEnd (.rank m r)) s = .next t ∧
        t.tmp.rankBlank.look (8 * m + r) = false ∧
        SameParts [.tmp] s t ∧
        SameRegs noReg [] s t) ∧
  (∀ (e : Fin 16) (s : State),
      ∃ t, exec (.blankingWindowEnd (.engine e)) s = .next t ∧
        t.tmp.engBlank.look e = false ∧
        SameParts [.tmp] s t ∧
        SameRegs noReg [] s t) ∧
  (∀ (n : Fin 200) (s : State),
      (s.blks.look n).resetting = false →
      ∃ t, exec (.blankingWindowEnd (.block n)) s = .next t ∧
        t.blks.look n = { s.blks.look n with blanked := false } ∧
        SameParts [.blks] s t ∧
        SameRegs noReg [] s t) ∧
  (∀ (s : State),
      s.on CRY_STATUS CRY_STATUS_ERASED = false →
      ∃ t, exec (.blankingWindowEnd .erasure) s = .next t ∧
        t.tmp.eraseBlank = false ∧
        SameParts [.tmp] s t ∧
        SameRegs noReg [] s t) ∧
  (∀ (ag : Agent) (c : Fin 64) (v : Word) (s : State),
      s.reaches ag (PCH_MOD_CMD c) = true →
      v.getLsbD 31 = true →
      s.on (PCH_MOD_CMD c) PCH_MOD_CMD_GO = false →
      1 ≤ (s.wrRW (PCH_MOD_CMD c) v).g (PCH_MOD_CMD c) PCH_MOD_CMD_LEN →
      (s.wrRW (PCH_MOD_CMD c) v).g (PCH_MOD_CMD c) PCH_MOD_CMD_LEN ≤ 4 →
      ∃ t, exec (.modCmdGo ag c v) s = .next t ∧
        t.on (PCH_MOD_CMD c) PCH_MOD_CMD_GO = true ∧
        t.host.modBus.look (c / 8) = s.host.modBus.look (c / 8) ++ [c.val] ∧
        SameParts [.host] s t ∧
        SameRegs noReg [PCH_MOD_CMD c] s t) ∧
  (∀ (ag : Agent) (c : Fin 64) (v : Word) (s : State),
      s.reaches ag (PCH_MOD_CMD c) = true →
      v.getLsbD 31 = true →
      s.on (PCH_MOD_CMD c) PCH_MOD_CMD_GO = false →
      ((s.wrRW (PCH_MOD_CMD c) v).g (PCH_MOD_CMD c) PCH_MOD_CMD_LEN = 0 ∨ 4 < (s.wrRW (PCH_MOD_CMD c) v).g (PCH_MOD_CMD c) PCH_MOD_CMD_LEN) →
      ∃ t, exec (.modCmdGo ag c v) s = .next t ∧
        t.on (PCH_MOD_CMD c) PCH_MOD_CMD_GO = false ∧
        t.g (PCH_MOD_CMD c) PCH_MOD_CMD_RESULT = 1 ∧
        SameParts [] s t ∧
        SameRegs noReg [PCH_MOD_CMD c] s t) ∧
  (∀ (ag : Agent) (c : Fin 64) (v : Word) (s : State),
      s.reaches ag (PCH_MOD_CMD c) = true →
      s.on (PCH_MOD_CMD c) PCH_MOD_CMD_GO = true →
      ∃ t, exec (.modCmdGo ag c v) s = .next t ∧
        SameParts [] s t ∧
        SameRegs noReg [] s t) ∧
  (∀ (c : Fin 64) (d : Word) (s : State),
      s.modRunning c = true →
      s.on (PCH_MOD_CMD c) PCH_MOD_CMD_RD = true →
      s.g (PCH_MOD_CMD c) PCH_MOD_CMD_LEN ≤ 4 →
      ∃ t, exec (.modTransactionDone c (.done d)) s = .next t ∧
        t.g (PCH_MOD_CMD c) PCH_MOD_CMD_RESULT = 0 ∧
        t.on (PCH_MOD_CMD c) PCH_MOD_CMD_GO = false ∧
        t.host.modBus.look (c / 8) = (s.host.modBus.look (c / 8)).tail ∧
        (∀ i : Fin 32, (t.rd (PCH_MOD_DATA c)).getLsbD i = if decide (i.val < 8 * s.g (PCH_MOD_CMD c) PCH_MOD_CMD_LEN) then d.getLsbD i else (s.rd (PCH_MOD_DATA c)).getLsbD i) ∧
        SameParts [.host] s t ∧
        SameRegs noReg [PCH_MOD_CMD c, PCH_MOD_DATA c] s t) ∧
  (∀ (c : Fin 64) (d : Word) (s : State),
      s.modRunning c = true →
      s.on (PCH_MOD_CMD c) PCH_MOD_CMD_RD = false →
      ∃ t, exec (.modTransactionDone c (.done d)) s = .next t ∧
        t.g (PCH_MOD_CMD c) PCH_MOD_CMD_RESULT = 0 ∧
        t.on (PCH_MOD_CMD c) PCH_MOD_CMD_GO = false ∧
        t.host.modBus.look (c / 8) = (s.host.modBus.look (c / 8)).tail ∧
        SameParts [.host] s t ∧
        SameRegs noReg [PCH_MOD_CMD c] s t) ∧
  (∀ (c : Fin 64) (s : State),
      s.modRunning c = true →
      ∃ t, exec (.modTransactionDone c .nack) s = .next t ∧
        t.g (PCH_MOD_CMD c) PCH_MOD_CMD_RESULT = 1 ∧
        t.on (PCH_MOD_CMD c) PCH_MOD_CMD_GO = false ∧
        t.host.modBus.look (c / 8) = (s.host.modBus.look (c / 8)).tail ∧
        SameParts [.host] s t ∧
        SameRegs noReg [PCH_MOD_CMD c] s t) ∧
  (∀ (c : Fin 64) (s : State),
      s.modRunning c = true →
      ∃ t, exec (.modTransactionDone c .stuckBus) s = .next t ∧
        t.g (PCH_MOD_CMD c) PCH_MOD_CMD_RESULT = 2 ∧
        t.on (PCH_MOD_CMD c) PCH_MOD_CMD_GO = false ∧
        t.host.modBus.look (c / 8) = (s.host.modBus.look (c / 8)).tail ∧
        SameParts [.host] s t ∧
        SameRegs noReg [PCH_MOD_CMD c] s t) ∧
  (∀ (c : Fin 64) (s : State),
      s.modRunning c = true →
      ∃ t, exec (.modTransactionDone c .muxFailed) s = .next t ∧
        t.g (PCH_MOD_CMD c) PCH_MOD_CMD_RESULT = 3 ∧
        t.on (PCH_MOD_CMD c) PCH_MOD_CMD_GO = false ∧
        t.host.modBus.look (c / 8) = (s.host.modBus.look (c / 8)).tail ∧
        SameParts [.host] s t ∧
        SameRegs noReg [PCH_MOD_CMD c] s t) ∧
  (∀ (c : Fin 64) (s : State),
      s.modRunning c = true →
      ∃ t, exec (.modStretchTimeout c) s = .next t ∧
        t.g (PCH_MOD_CMD c) PCH_MOD_CMD_RESULT = 2 ∧
        t.on (PCH_MOD_CMD c) PCH_MOD_CMD_GO = false ∧
        t.host.modBus.look (c / 8) = (s.host.modBus.look (c / 8)).tail ∧
        SameParts [.host] s t ∧
        SameRegs noReg [PCH_MOD_CMD c] s t)

/-- At the PSync of a running channel whose frame has been sealed and is due, SFC takes the frame's number modulo 2^51, PSYNC_SEC and
PSYNC_NS take device time, one more frame has left, and the frame now on the wire holds the grants of the seal and the PLOAMs
bound to it. Where the map fails its parity check the frame carries no grant, MAP_PARITY is noted and every window of the frame is
marked lost. On a free-running channel ALIGN_ERR stays; on an aligned one it takes the signed error in ns, and an error above 100
ns ends ALIGNED, notes TOD_SLIP and takes the channel's TOD word out of force. An undertone window whose first frame this is opens
and is counted. With no container to send (the tributaries off, or the channel not ACTIVE) no fragment carried over, no undertone
window starting and no wake in progress no other register changes. That a PSync comes only after its seal is the model's order
(log entry 2). -/
def Obligations.APsyncLatchesTheFrame : Prop :=
  (∀ (c : Fin 64) (s : State),
      (s.pch.look c).running = true →
      (s.pch.look c).due8 ≤ 8 * s.now + 8 →
      (s.pch.look c).openLo % 2 ^ 51 = (s.rd64 (DSF_SFC c) + 2) % 2 ^ 51 →
      (s.pch.look c).freeAlign = true →
      (s.on TRB_CTL TRB_CTL_EN = false ∨ s.chState c ≠ 2) →
      ((s.pch.look c).waking && (s.pch.look c).txLocked) = false →
      (s.pch.look c).carry = none →
      (s.rng.look c).utStart ≠ some ((s.pch.look c).openLo - 1) →
      ∃ t, exec (.psync c false) s = .next t ∧
        t.rd64 (DSF_SFC c) = ((s.pch.look c).openLo - 1) % 2 ^ 51 ∧
        t.rd64 (DSF_PSYNC_SEC c) = s.tim.sec % 2 ^ 64 ∧
        t.rd (DSF_PSYNC_NS c) = word s.tim.ns ∧
        (t.pch.look c).framesSent = (s.pch.look c).framesSent + 1 ∧
        (t.pch.look c).ploamTx = [] ∧
        (t.pch.look c).cur.n = (s.pch.look c).openLo - 1 ∧
        (t.pch.look c).cur.grants = (s.pch.look c).sealed ∧
        (t.pch.look c).cur.ploams = (s.pch.look c).ploamTx.map (s.ploamBytes c) ∧
        (t.pch.look c).cur.items = [] ∧
        SameParts [.pch, .shu] s t ∧
        SameRegs noReg [DSF_SFC c, DSF_SFC c + 4, DSF_PSYNC_SEC c, DSF_PSYNC_SEC c + 4, DSF_PSYNC_NS c] s t) ∧
  (∀ (c : Fin 64) (s : State),
      (s.pch.look c).running = true →
      (s.pch.look c).due8 ≤ 8 * s.now + 8 →
      (s.pch.look c).openLo % 2 ^ 51 = (s.rd64 (DSF_SFC c) + 2) % 2 ^ 51 →
      (s.pch.look c).freeAlign = true →
      (s.on TRB_CTL TRB_CTL_EN = false ∨ s.chState c ≠ 2) →
      ((s.pch.look c).waking && (s.pch.look c).txLocked) = false →
      (s.pch.look c).carry = none →
      (s.rng.look c).utStart = some ((s.pch.look c).openLo - 1) →
      ∃ t, exec (.psync c false) s = .next t ∧
        t.rd64 (DSF_SFC c) = ((s.pch.look c).openLo - 1) % 2 ^ 51 ∧
        t.rd64 (DSF_PSYNC_SEC c) = s.tim.sec % 2 ^ 64 ∧
        t.rd (DSF_PSYNC_NS c) = word s.tim.ns ∧
        (t.pch.look c).framesSent = (s.pch.look c).framesSent + 1 ∧
        (t.pch.look c).ploamTx = [] ∧
        (t.pch.look c).cur.n = (s.pch.look c).openLo - 1 ∧
        (t.pch.look c).cur.grants = (s.pch.look c).sealed ∧
        (t.pch.look c).cur.ploams = (s.pch.look c).ploamTx.map (s.ploamBytes c) ∧
        (t.pch.look c).cur.items = [] ∧
        t.on (RNG_STATUS c) RNG_STATUS_UT_ACTIVE = true ∧
        t.rd64 (RNG_UT_WINDOWS c) = (s.rd64 (RNG_UT_WINDOWS c) + 1) % 2 ^ 64 ∧
        SameParts [.pch, .shu] s t ∧
        SameRegs noReg [DSF_SFC c, DSF_SFC c + 4, DSF_PSYNC_SEC c, DSF_PSYNC_SEC c + 4, DSF_PSYNC_NS c, RNG_STATUS c, RNG_UT_WINDOWS c, RNG_UT_WINDOWS c + 4] s t) ∧
  (∀ (c : Fin 64) (s : State),
      (s.pch.look c).running = true →
      (s.pch.look c).due8 ≤ 8 * s.now + 8 →
      (s.pch.look c).openLo % 2 ^ 51 = (s.rd64 (DSF_SFC c) + 2) % 2 ^ 51 →
      (s.pch.look c).freeAlign = true →
      (s.on TRB_CTL TRB_CTL_EN = false ∨ s.chState c ≠ 2) →
      ((s.pch.look c).waking && (s.pch.look c).txLocked) = false →
      (s.pch.look c).carry = none →
      (s.rng.look c).utStart ≠ some ((s.pch.look c).openLo - 1) →
      ∃ t, exec (.psync c true) s = .next t ∧
        t.rd64 (DSF_SFC c) = ((s.pch.look c).openLo - 1) % 2 ^ 51 ∧
        t.rd64 (DSF_PSYNC_SEC c) = s.tim.sec % 2 ^ 64 ∧
        t.rd (DSF_PSYNC_NS c) = word s.tim.ns ∧
        (t.pch.look c).framesSent = (s.pch.look c).framesSent + 1 ∧
        (t.pch.look c).ploamTx = [] ∧
        (t.pch.look c).cur.grants = [] ∧
        Noted s t (DSF_STATUS c) DSF_STATUS_MAP_PARITY ∧
        (t.pch.look c).txfLast = some s.now ∧
        (∀ w ∈ (t.pch.look c).wins, w.frame = (s.pch.look c).openLo - 1 → w.lost = true) ∧
        SameParts [.irq, .cyc, .msi, .shu, .pch] s t ∧
        SameRegs irqReg [DSF_SFC c, DSF_SFC c + 4, DSF_PSYNC_SEC c, DSF_PSYNC_SEC c + 4, DSF_PSYNC_NS c, DSF_STATUS c] s t) ∧
  (∀ (c : Fin 64) (s : State),
      (s.pch.look c).running = true →
      (s.pch.look c).due8 ≤ 8 * s.now + 8 →
      (s.pch.look c).openLo % 2 ^ 51 = (s.rd64 (DSF_SFC c) + 2) % 2 ^ 51 →
      (s.pch.look c).freeAlign = false →
      (s.on (DSF_STATUS c) DSF_STATUS_ALIGNED = false ∨ (s.alignErr c ((s.pch.look c).openLo - 1)).natAbs ≤ 100) →
      (s.on TRB_CTL TRB_CTL_EN = false ∨ s.chState c ≠ 2) →
      ((s.pch.look c).waking && (s.pch.look c).txLocked) = false →
      (s.pch.look c).carry = none →
      (s.rng.look c).utStart ≠ some ((s.pch.look c).openLo - 1) →
      ∃ t, exec (.psync c false) s = .next t ∧
        t.rd64 (DSF_SFC c) = ((s.pch.look c).openLo - 1) % 2 ^ 51 ∧
        t.rd64 (DSF_PSYNC_SEC c) = s.tim.sec % 2 ^ 64 ∧
        t.rd (DSF_PSYNC_NS c) = word s.tim.ns ∧
        (t.pch.look c).framesSent = (s.pch.look c).framesSent + 1 ∧
        (t.pch.look c).ploamTx = [] ∧
        (t.pch.look c).cur.n = (s.pch.look c).openLo - 1 ∧
        (t.pch.look c).cur.grants = (s.pch.look c).sealed ∧
        (t.pch.look c).cur.ploams = (s.pch.look c).ploamTx.map (s.ploamBytes c) ∧
        (t.pch.look c).cur.items = [] ∧
        t.rd (DSF_ALIGN_ERR c) = BitVec.ofInt 32 (s.alignErr c ((s.pch.look c).openLo - 1)) ∧
        SameParts [.pch, .shu] s t ∧
        SameRegs noReg [DSF_SFC c, DSF_SFC c + 4, DSF_PSYNC_SEC c, DSF_PSYNC_SEC c + 4, DSF_PSYNC_NS c, DSF_ALIGN_ERR c] s t) ∧
  (∀ (c : Fin 64) (s : State),
      (s.pch.look c).running = true →
      (s.pch.look c).due8 ≤ 8 * s.now + 8 →
      (s.pch.look c).openLo % 2 ^ 51 = (s.rd64 (DSF_SFC c) + 2) % 2 ^ 51 →
      (s.pch.look c).freeAlign = false →
      s.on (DSF_STATUS c) DSF_STATUS_ALIGNED = true →
      100 < (s.alignErr c ((s.pch.look c).openLo - 1)).natAbs →
      (s.on TRB_CTL TRB_CTL_EN = false ∨ s.chState c ≠ 2) →
      ((s.pch.look c).waking && (s.pch.look c).txLocked) = false →
      (s.pch.look c).carry = none →
      (s.rng.look c).utStart ≠ some ((s.pch.look c).openLo - 1) →
      ∃ t, exec (.psync c false) s = .next t ∧
        t.rd64 (DSF_SFC c) = ((s.pch.look c).openLo - 1) % 2 ^ 51 ∧
        t.rd64 (DSF_PSYNC_SEC c) = s.tim.sec % 2 ^ 64 ∧
        t.rd (DSF_PSYNC_NS c) = word s.tim.ns ∧
        (t.pch.look c).framesSent = (s.pch.look c).framesSent + 1 ∧
        (t.pch.look c).ploamTx = [] ∧
        (t.pch.look c).cur.n = (s.pch.look c).openLo - 1 ∧
        (t.pch.look c).cur.grants = (s.pch.look c).sealed ∧
        (t.pch.look c).cur.ploams = (s.pch.look c).ploamTx.map (s.ploamBytes c) ∧
        (t.pch.look c).cur.items = [] ∧
        t.rd (DSF_ALIGN_ERR c) = BitVec.ofInt 32 (s.alignErr c ((s.pch.look c).openLo - 1)) ∧
        t.on (DSF_STATUS c) DSF_STATUS_ALIGNED = false ∧
        Noted s t (DSF_STATUS c) DSF_STATUS_TOD_SLIP ∧
        t.on (TIM_TOD c) TIM_TOD_VALID = false ∧
        SameParts [.irq, .cyc, .msi, .shu, .pch] s t ∧
        SameRegs irqReg [DSF_SFC c, DSF_SFC c + 4, DSF_PSYNC_SEC c, DSF_PSYNC_SEC c + 4, DSF_PSYNC_NS c, DSF_ALIGN_ERR c, DSF_STATUS c, TIM_TOD c] s t) ∧
  (∀ (c : Fin 64) (p : Bool) (s : State),
      (s.pch.look c).running = true →
      (s.pch.look c).due8 ≤ 8 * s.now + 8 →
      (s.pch.look c).openLo % 2 ^ 51 = (s.rd64 (DSF_SFC c) + 2) % 2 ^ 51 →
      ∃ t, exec (.psync c p) s = .next t ∧
        t.rd64 (DSF_SFC c) = ((s.pch.look c).openLo - 1) % 2 ^ 51 ∧
        t.rd64 (DSF_PSYNC_SEC c) = s.tim.sec % 2 ^ 64 ∧
        t.rd (DSF_PSYNC_NS c) = word s.tim.ns ∧
        (t.pch.look c).framesSent = (s.pch.look c).framesSent + 1 ∧
        (t.pch.look c).ploamTx = [])

/-- Where the next frame of a running channel is the first open one and its seal time has come, its seal is counted in MAPS_SEALED,
the second open frame becomes the first and a new one opens. A channel that is not ACTIVE, or in receive sleep, abandons the
grants of the frame: ABANDONED counts them; one that is muted counts them in EMPTY_MUTED; in neither case is any grant issued. An
unmuted channel takes at most PLOAM_MAX, and at most 16, messages off its PLOAM queue, each with the frame numbers that its own
frame fixes. A single grant with a StartTime of its own, where the ledger has room and no other channel seals with it, is issued
with the profile of its burst: the lowest FREE ledger entry is OPEN with it and the frame, ISSUED counts one and one more window
is planned. -/
def Obligations.ASealTakesTheOpenFrame : Prop :=
  (∀ (c : Fin 64) (s : State),
      (s.pch.look c).running = true →
      (s.pch.look c).openLo % 2 ^ 51 = (s.rd64 (DSF_SFC c) + 1) % 2 ^ 51 →
      (s.pch.look c).due8 ≤ 8 * (s.now + (s.pch.look c).leadNext + 3) →
      ∃ t, exec (.mapSeal c) s = .next t ∧
        (t.pch.look c).openLo = (s.pch.look c).openLo + 1 ∧
        (t.pch.look c).buf0 = (s.pch.look c).buf1 ∧
        (t.pch.look c).buf1 = [] ∧
        t.rd64 (SHD_MAPS_SEALED c) = (s.rd64 (SHD_MAPS_SEALED c) + 1) % 2 ^ 64 ∧
        SameParts [.fresh, .irq, .cyc, .msi, .pch, .rng, .shd, .ledger, .sealRot, .shu, .cry] s t) ∧
  (∀ (c : Fin 64) (s : State),
      (s.pch.look c).running = true →
      (s.pch.look c).openLo % 2 ^ 51 = (s.rd64 (DSF_SFC c) + 1) % 2 ^ 51 →
      (s.pch.look c).due8 ≤ 8 * (s.now + (s.pch.look c).leadNext + 3) →
      (s.chState c ≠ 2 ∨ (s.pch.look c).rxStop = true) →
      (∀ d : Fin 64, s.sealDue d = true → d = c) →
      ∃ t, exec (.mapSeal c) s = .next t ∧
        (t.pch.look c).openLo = (s.pch.look c).openLo + 1 ∧
        (t.pch.look c).buf0 = (s.pch.look c).buf1 ∧
        (t.pch.look c).buf1 = [] ∧
        t.rd64 (SHD_MAPS_SEALED c) = (s.rd64 (SHD_MAPS_SEALED c) + 1) % 2 ^ 64 ∧
        t.rd64 (SHD_ABANDONED c) = (s.rd64 (SHD_ABANDONED c) + (s.pch.look c).buf0.length) % 2 ^ 64 ∧
        t.ledger = s.ledger ∧
        (t.pch.look c).wins = (s.pch.look c).wins ∧
        (t.pch.look c).sealed = [] ∧
        SameParts [.fresh, .irq, .cyc, .msi, .pch, .rng, .shd, .ledger, .sealRot, .shu, .cry] s t) ∧
  (∀ (c : Fin 64) (s : State),
      (s.pch.look c).running = true →
      (s.pch.look c).openLo % 2 ^ 51 = (s.rd64 (DSF_SFC c) + 1) % 2 ^ 51 →
      (s.pch.look c).due8 ≤ 8 * (s.now + (s.pch.look c).leadNext + 3) →
      s.chState c = 2 →
      (s.pch.look c).rxStop = false →
      s.slv.hand = none →
      s.txdis c = true →
      (∀ d : Fin 64, s.sealDue d = true → d = c) →
      ∃ t, exec (.mapSeal c) s = .next t ∧
        (t.pch.look c).openLo = (s.pch.look c).openLo + 1 ∧
        (t.pch.look c).buf0 = (s.pch.look c).buf1 ∧
        (t.pch.look c).buf1 = [] ∧
        t.rd64 (SHD_MAPS_SEALED c) = (s.rd64 (SHD_MAPS_SEALED c) + 1) % 2 ^ 64 ∧
        t.rd64 (SHD_EMPTY_MUTED c) = (s.rd64 (SHD_EMPTY_MUTED c) + (s.pch.look c).buf0.length) % 2 ^ 64 ∧
        t.ledger = s.ledger ∧
        (t.pch.look c).wins = (s.pch.look c).wins ∧
        (t.pch.look c).sealed = [] ∧
        (t.pch.look c).ploamQ = (s.pch.look c).ploamQ ∧
        SameParts [.fresh, .irq, .cyc, .msi, .pch, .rng, .shd, .ledger, .sealRot, .shu, .cry] s t) ∧
  (∀ (c : Fin 64) (s : State),
      (s.pch.look c).running = true →
      (s.pch.look c).openLo % 2 ^ 51 = (s.rd64 (DSF_SFC c) + 1) % 2 ^ 51 →
      (s.pch.look c).due8 ≤ 8 * (s.now + (s.pch.look c).leadNext + 3) →
      s.txdis c = false →
      (s.rng.look c).again = [] →
      ∃ t, exec (.mapSeal c) s = .next t ∧
        (t.pch.look c).openLo = (s.pch.look c).openLo + 1 ∧
        (t.pch.look c).buf0 = (s.pch.look c).buf1 ∧
        (t.pch.look c).buf1 = [] ∧
        t.rd64 (SHD_MAPS_SEALED c) = (s.rd64 (SHD_MAPS_SEALED c) + 1) % 2 ^ 64 ∧
        (t.pch.look c).ploamTx = ((s.pch.look c).ploamQ.take (min (s.g (DSF_CTL c) DSF_CTL_PLOAM_MAX) 16)).map (ploamAt (s.pch.look c).openLo) ∧
        (t.pch.look c).ploamQ = (s.pch.look c).ploamQ.drop (min (s.g (DSF_CTL c) DSF_CTL_PLOAM_MAX) 16) ∧
        SameParts [.fresh, .irq, .cyc, .msi, .pch, .rng, .shd, .ledger, .sealRot, .shu, .cry] s t) ∧
  (∀ (c : Fin 64) (g : Grant) (s : State),
      (s.pch.look c).running = true →
      (s.pch.look c).openLo % 2 ^ 51 = (s.rd64 (DSF_SFC c) + 1) % 2 ^ 51 →
      (s.pch.look c).due8 ≤ 8 * (s.now + (s.pch.look c).leadNext + 3) →
      s.chState c = 2 →
      (s.pch.look c).rxStop = false →
      s.slv.hand = none →
      s.txdis c = false →
      (s.pch.look c).buf0 = [g] →
      g.start ≠ 0xFFFF →
      1 ≤ s.ledgerAvail c →
      (∀ d : Fin 64, s.sealDue d = true → d = c) →
      ∃ t, exec (.mapSeal c) s = .next t ∧
        (t.pch.look c).openLo = (s.pch.look c).openLo + 1 ∧
        (t.pch.look c).buf0 = (s.pch.look c).buf1 ∧
        (t.pch.look c).buf1 = [] ∧
        t.rd64 (SHD_MAPS_SEALED c) = (s.rd64 (SHD_MAPS_SEALED c) + 1) % 2 ^ 64 ∧
        (t.pch.look c).sealed = (s.withProf c ⟨s.grantSlot c g, [g]⟩).grants ∧
        (t.pch.look c).wins.length = (s.pch.look c).wins.length + 1 ∧
        t.rd64 (lkey (SHD_LEDGER_ISSUED c)) = (s.rd64 (lkey (SHD_LEDGER_ISSUED c)) + 1) % 2 ^ 64 ∧
        (t.ledger.look (freeFrom 4096 0 s.ledger)).state = 1 ∧
        [(t.ledger.look (freeFrom 4096 0 s.ledger)).grant] = (s.withProf c ⟨s.grantSlot c g, [g]⟩).grants ∧
        (t.ledger.look (freeFrom 4096 0 s.ledger)).frame = (s.pch.look c).openLo ∧
        (t.ledger.look (freeFrom 4096 0 s.ledger)).channel = c ∧
        SameParts [.fresh, .irq, .cyc, .msi, .pch, .rng, .shd, .ledger, .sealRot, .shu, .cry] s t)

/-- A grant for one of the two open frames of a running channel, by the low 8 bits of its number, joins that frame when it holds fewer
than 512 and the format checks pass; a full frame counts FULL_REFUSED, a bad format FORMAT_REFUSED with its event, any other frame
number, and a frame that an SHD reset has closed, LATE_WRITE; the open frames stay, and where the threading gives the shed's grant
port a response port, a refusal stands on it (its content is a free value). A PLOAM message joins a queue of fewer than 64, else
PLOAM_FULL is noted and the queue stays. LEAD_NS outside 1,200 to 62,500 is stored and notes LEAD_CLAMPED. A channel that draws
with room in its frame, whose scheduler picks queue q, sends the head of q: the queue holds the rest, and one whose data fails the
internal check is counted in TX_CORRUPT, noted as DATA_CHECK and ends the payload of its frame. -/
def Obligations.GrantsPloamsAndDraws : Prop :=
  (∀ (c : Fin 64) (w0 w1 w2 : Word) (s : State),
      (s.pch.look c).running = true →
      (s.pch.look c).shutTo ≤ (s.pch.look c).openLo + 0 →
      bget w0 24 8 = ((s.pch.look c).openLo + 0) % 256 →
      (s.pch.look c).buf0.length < 512 →
      s.grantBad c (s.pch.look c).buf0 ⟨w0, w1, w2⟩ = false →
      ∃ t, exec (.grantWrite c w0 w1 w2) s = .next t ∧
        t.pch.look c = { s.pch.look c with buf0 := (s.pch.look c).buf0 ++ [⟨w0, w1, w2⟩] } ∧
        SameParts [.pch] s t ∧
        SameRegs noReg [] s t) ∧
  (∀ (c : Fin 64) (w0 w1 w2 : Word) (s : State),
      (s.pch.look c).running = true →
      (s.pch.look c).shutTo ≤ (s.pch.look c).openLo + 1 →
      bget w0 24 8 = ((s.pch.look c).openLo + 1) % 256 →
      (s.pch.look c).buf1.length < 512 →
      s.grantBad c (s.pch.look c).buf1 ⟨w0, w1, w2⟩ = false →
      ∃ t, exec (.grantWrite c w0 w1 w2) s = .next t ∧
        t.pch.look c = { s.pch.look c with buf1 := (s.pch.look c).buf1 ++ [⟨w0, w1, w2⟩] } ∧
        SameParts [.pch] s t ∧
        SameRegs noReg [] s t) ∧
  (∀ (c : Fin 64) (w0 w1 w2 : Word) (s : State),
      (s.pch.look c).running = true →
      (s.pch.look c).shutTo ≤ (s.pch.look c).openLo →
      bget w0 24 8 = (s.pch.look c).openLo % 256 →
      512 ≤ (s.pch.look c).buf0.length →
      ∃ t, exec (.grantWrite c w0 w1 w2) s = .next t ∧
        t.rd64 (SHD_FULL_REFUSED c) = (s.rd64 (SHD_FULL_REFUSED c) + 1) % 2 ^ 64 ∧
        (∀ a, ∀ b, s.drf.ports.find? (fun e => decide (e.2.bind = 2) && decide (e.2.index = c.val)) = some a → (s.drf.ports.look (portKey (a.1 / 512) (a.1 / 32 % 16) (a.1 % 32))).resp = some b → (t.shu.ports.look (portKey (a.1 / 512) (a.1 / 32 % 16) b)).length = (s.shu.ports.look (portKey (a.1 / 512) (a.1 / 32 % 16) b)).length + 1) ∧
        SameParts [.fresh, .shu] s t ∧
        SameRegs noReg [SHD_FULL_REFUSED c, SHD_FULL_REFUSED c + 4] s t) ∧
  (∀ (c : Fin 64) (w0 w1 w2 : Word) (s : State),
      (s.pch.look c).running = true →
      (s.pch.look c).shutTo ≤ (s.pch.look c).openLo →
      bget w0 24 8 = (s.pch.look c).openLo % 256 →
      (s.pch.look c).buf0.length < 512 →
      s.grantBad c (s.pch.look c).buf0 ⟨w0, w1, w2⟩ = true →
      ∃ t, exec (.grantWrite c w0 w1 w2) s = .next t ∧
        t.rd64 (SHD_FORMAT_REFUSED c) = (s.rd64 (SHD_FORMAT_REFUSED c) + 1) % 2 ^ 64 ∧
        Noted s t (SHD_STATUS c) SHD_STATUS_FORMAT_REFUSED ∧
        (∀ a, ∀ b, s.drf.ports.find? (fun e => decide (e.2.bind = 2) && decide (e.2.index = c.val)) = some a → (s.drf.ports.look (portKey (a.1 / 512) (a.1 / 32 % 16) (a.1 % 32))).resp = some b → (t.shu.ports.look (portKey (a.1 / 512) (a.1 / 32 % 16) b)).length = (s.shu.ports.look (portKey (a.1 / 512) (a.1 / 32 % 16) b)).length + 1) ∧
        SameParts [.irq, .cyc, .msi, .shu, .fresh] s t ∧
        SameRegs irqReg [SHD_FORMAT_REFUSED c, SHD_FORMAT_REFUSED c + 4, SHD_STATUS c] s t) ∧
  (∀ (c : Fin 64) (w0 w1 w2 : Word) (s : State),
      ((s.pch.look c).running = false ∨ (bget w0 24 8 ≠ (s.pch.look c).openLo % 256 ∧ bget w0 24 8 ≠ ((s.pch.look c).openLo + 1) % 256) ∨ ((s.pch.look c).openLo < (s.pch.look c).shutTo ∧ bget w0 24 8 = (s.pch.look c).openLo % 256)) →
      ∃ t, exec (.grantWrite c w0 w1 w2) s = .next t ∧
        t.rd64 (SHD_LATE_WRITE c) = (s.rd64 (SHD_LATE_WRITE c) + 1) % 2 ^ 64 ∧
        (∀ a, ∀ b, s.drf.ports.find? (fun e => decide (e.2.bind = 2) && decide (e.2.index = c.val)) = some a → (s.drf.ports.look (portKey (a.1 / 512) (a.1 / 32 % 16) (a.1 % 32))).resp = some b → (t.shu.ports.look (portKey (a.1 / 512) (a.1 / 32 % 16) b)).length = (s.shu.ports.look (portKey (a.1 / 512) (a.1 / 32 % 16) b)).length + 1) ∧
        SameParts [.fresh, .shu] s t ∧
        SameRegs noReg [SHD_LATE_WRITE c, SHD_LATE_WRITE c + 4] s t) ∧
  (∀ (c : Fin 64) (m : Ploam) (s : State),
      (s.pch.look c).ploamQ.length < 64 →
      ∃ t, exec (.ploamWrite c m) s = .next t ∧
        t.pch.look c = { s.pch.look c with ploamQ := (s.pch.look c).ploamQ ++ [m] } ∧
        SameParts [.pch] s t ∧
        SameRegs noReg [] s t) ∧
  (∀ (c : Fin 64) (m : Ploam) (s : State),
      64 ≤ (s.pch.look c).ploamQ.length →
      ∃ t, exec (.ploamWrite c m) s = .next t ∧
        Noted s t (DSF_STATUS c) DSF_STATUS_PLOAM_FULL ∧
        SameParts [.irq, .cyc, .msi, .shu] s t ∧
        SameRegs irqReg [DSF_STATUS c] s t) ∧
  (∀ (ag : Agent) (c : Fin 64) (v : Word) (s : State),
      s.reaches ag (SHD_SEAL_CTL c) = true →
      1200 ≤ (s.wrRW (SHD_SEAL_CTL c) v).g (SHD_SEAL_CTL c) SHD_SEAL_CTL_LEAD_NS →
      (s.wrRW (SHD_SEAL_CTL c) v).g (SHD_SEAL_CTL c) SHD_SEAL_CTL_LEAD_NS ≤ 62500 →
      ∃ t, exec (.sealLeadWrite ag c v) s = .next t ∧
        t.g (SHD_SEAL_CTL c) SHD_SEAL_CTL_LEAD_NS = (s.wrRW (SHD_SEAL_CTL c) v).g (SHD_SEAL_CTL c) SHD_SEAL_CTL_LEAD_NS ∧
        SameParts [] s t ∧
        SameRegs noReg [SHD_SEAL_CTL c] s t) ∧
  (∀ (ag : Agent) (c : Fin 64) (v : Word) (s : State),
      s.reaches ag (SHD_SEAL_CTL c) = true →
      ((s.wrRW (SHD_SEAL_CTL c) v).g (SHD_SEAL_CTL c) SHD_SEAL_CTL_LEAD_NS < 1200 ∨ 62500 < (s.wrRW (SHD_SEAL_CTL c) v).g (SHD_SEAL_CTL c) SHD_SEAL_CTL_LEAD_NS) →
      ∃ t, exec (.sealLeadWrite ag c v) s = .next t ∧
        t.g (SHD_SEAL_CTL c) SHD_SEAL_CTL_LEAD_NS = (s.wrRW (SHD_SEAL_CTL c) v).g (SHD_SEAL_CTL c) SHD_SEAL_CTL_LEAD_NS ∧
        Noted s t (DSF_STATUS c) DSF_STATUS_LEAD_CLAMPED ∧
        SameParts [.irq, .cyc, .msi, .shu] s t ∧
        SameRegs irqReg [SHD_SEAL_CTL c, DSF_STATUS c] s t) ∧
  (∀ (c : Fin 64) (checkOk : Bool) (g q : Nat) (s : State),
      s.draws c = true →
      (s.idleUp c).drawNow c = true →
      ((s.idleUp c).pickChannel c).2 = some (g, q) →
      s.queue q ≠ [] →
      q < 131072 →
      ∃ t, exec (.xgemDraw c checkOk) s = .next t ∧
        t.queue q = (s.queue q).tail ∧
        (checkOk = false → t.rd64 (DSF_TX_CORRUPT c) = (s.rd64 (DSF_TX_CORRUPT c) + 1) % 2 ^ 64 ∧ Noted s t (DSF_STATUS c) DSF_STATUS_DATA_CHECK ∧ (t.pch.look c).cur.ended = true) ∧
        SameParts [.fresh, .irq, .cyc, .msi, .pch, .shu, .cry, .tmg] s t)

/-- A planned window that opens keeps the eight stored words of its equaliser entry and the search settings of that moment; a BRST
pulse cut too short is counted in BRST_SKIP and leaves the pin as it was. A match outside the search range, too far or before
preamble lock, or in a window whose map was lost, changes nothing; the first that qualifies is the window's hit and counts a
burst; in an ordinary window a second makes it ambiguous, counted once in AMBIG with its event, and the earlier of the two is the
hit; in a discovery window one 128 bits or more after the end of the previous answer is a further answer, up to four in all. A
codeword of a matched burst counts in CW_TOTAL, an uncorrectable one of a burst with FEC in CW_FAIL too; a first codeword with a
bad header check counts HDR_FAIL; a DBRu that the first codeword of a released burst brings joins the shed's queue as a REPORT and
is counted. -/
def Obligations.BurstWindowsOpenMatchAndDecode : Prop :=
  (∀ (c : Fin 64) (g : Fin 4096) (w : Win) (s : State),
      s.win c g = some w →
      w.opened = false →
      ∃ t, exec (.windowOpen c g) s = .next t ∧
        (t.win c g).map (·.opened) = some true ∧
        (t.win c g).map (·.stored) = some ((List.range 8).map (fun i => s.rd (PCH_EQ c w.entry + 4 * i))) ∧
        (t.win c g).map (·.maxErr) = some (s.g (PCH_BRX_SEARCH c) PCH_BRX_SEARCH_DELIM_MAX_ERR) ∧
        (t.pch.look c).sawWindow = true ∧
        (t.pch.look c).lastEnd = w.planned ∧
        (t.pch.look c).brst = (if (s.brstPulse c w).isNone then (s.pch.look c).brst else s.brstPulse c w) ∧
        (t.pch.look c).rssi = (if s.rssiWanted c w then some (s.rssiPulse c w) else (s.pch.look c).rssi) ∧
        t.rd64 (BRX_BRST_SKIP c) = (s.rd64 (BRX_BRST_SKIP c) + b2n (s.brstPulse c w).isNone) % 2 ^ 64 ∧
        SameParts [.pch, .slots] s t ∧
        SameRegs noReg [BRX_BRST_SKIP c, BRX_BRST_SKIP c + 4] s t) ∧
  (∀ (c : Fin 64) (g : Fin 4096) (m : MatchObs) (w : Win) (s : State),
      s.win c g = some w →
      w.opened = true →
      w.lost = false →
      w.qualifies m = true →
      w.hit = none →
      ∃ t, exec (.delimiterQualified c g m) s = .next t ∧
        (t.win c g) = some { w with hit := some m } ∧
        t.rd64 (BRX_BURSTS c) = (s.rd64 (BRX_BURSTS c) + 1) % 2 ^ 64 ∧
        SameParts [.pch] s t ∧
        SameRegs noReg [BRX_BURSTS c, BRX_BURSTS c + 4] s t) ∧
  (∀ (c : Fin 64) (g : Fin 4096) (m : MatchObs) (w : Win) (s : State),
      s.win c g = some w →
      (w.opened = false ∨ w.lost = true ∨ w.qualifies m = false) →
      ∃ t, exec (.delimiterQualified c g m) s = .next t ∧
        SameParts [] s t ∧
        SameRegs noReg [] s t) ∧
  (∀ (c : Fin 64) (g : Fin 4096) (m : MatchObs) (w : Win) (x : MatchObs) (s : State),
      s.win c g = some w →
      w.opened = true →
      w.lost = false →
      w.qualifies m = true →
      w.hit = some x →
      w.disc = true →
      w.extra = [] →
      x.pos + w.len + 128 ≤ m.pos →
      ∃ t, exec (.delimiterQualified c g m) s = .next t ∧
        (t.win c g) = some { w with extra := [{ (default : Ans) with hit := m }] } ∧
        t.rd64 (BRX_BURSTS c) = (s.rd64 (BRX_BURSTS c) + 1) % 2 ^ 64 ∧
        SameParts [.pch] s t ∧
        SameRegs noReg [BRX_BURSTS c, BRX_BURSTS c + 4] s t) ∧
  (∀ (c : Fin 64) (g : Fin 4096) (m : MatchObs) (w : Win) (x : MatchObs) (s : State),
      s.win c g = some w →
      w.opened = true →
      w.lost = false →
      w.qualifies m = true →
      w.hit = some x →
      w.disc = false →
      w.ambig = false →
      ∃ t, exec (.delimiterQualified c g m) s = .next t ∧
        (t.win c g) = some { w with hit := some (if m.pos < x.pos then m else x), ambig := true } ∧
        t.rd64 (BRX_AMBIG c) = (s.rd64 (BRX_AMBIG c) + 1) % 2 ^ 64 ∧
        Noted s t (PCH_BRX_STATUS c) PCH_BRX_STATUS_AMBIG ∧
        SameParts [.irq, .cyc, .msi, .shu, .pch] s t ∧
        SameRegs irqReg [BRX_AMBIG c, BRX_AMBIG c + 4, PCH_BRX_STATUS c] s t) ∧
  (∀ (c : Fin 64) (g : Fin 4096) (cw : CwObs) (w : Win) (s : State),
      s.win c g = some w →
      w.hit.isSome = true →
      cw.answer = 0 →
      cw.hdr = none →
      cw.items = [] →
      ∃ t, exec (.burstCodewordDecoded c g cw) s = .next t ∧
        t.rd64 (BRX_CW_TOTAL c) = (s.rd64 (BRX_CW_TOTAL c) + 1) % 2 ^ 64 ∧
        t.rd64 (BRX_CW_FAIL c) = (s.rd64 (BRX_CW_FAIL c) + b2n (!(cw.correctable || !w.fec))) % 2 ^ 64 ∧
        (t.win c g).map (·.cwTotal) = some (w.cwTotal + 1) ∧
        (t.win c g).map (·.firstOk) = some (if w.firstSeen then w.firstOk else (cw.correctable || !w.fec)) ∧
        SameParts [.pch] s t ∧
        SameRegs noReg [BRX_CW_TOTAL c, BRX_CW_TOTAL c + 4, BRX_CW_FAIL c, BRX_CW_FAIL c + 4] s t) ∧
  (∀ (c : Fin 64) (g : Fin 4096) (cw : CwObs) (w : Win) (o : Nat) (d : Bool) (s : State),
      s.win c g = some w →
      w.hit.isSome = true →
      cw.answer = 0 →
      w.firstSeen = false →
      (cw.correctable || !w.fec) = true →
      cw.hdr = some (false, o, d) →
      ∃ t, exec (.burstCodewordDecoded c g cw) s = .next t ∧
        t.rd64 (BRX_CW_TOTAL c) = (s.rd64 (BRX_CW_TOTAL c) + 1) % 2 ^ 64 ∧
        t.rd64 (BRX_HDR_FAIL c) = (s.rd64 (BRX_HDR_FAIL c) + 1) % 2 ^ 64 ∧
        (t.win c g).map (·.released) = some false ∧
        SameParts [.pch, .slots] s t ∧
        SameRegs noReg [BRX_CW_TOTAL c, BRX_CW_TOTAL c + 4, BRX_HDR_FAIL c, BRX_HDR_FAIL c + 4] s t) ∧
  (∀ (c : Fin 64) (g : Fin 4096) (cw : CwObs) (w : Win) (s : State),
      s.win c g = some w →
      (w.hit = none ∨ w.extra.length < cw.answer) →
      ∃ t, exec (.burstCodewordDecoded c g cw) s = .next t ∧
        SameParts [] s t ∧
        SameRegs noReg [] s t) ∧
  (∀ (c : Fin 64) (g : Fin 4096) (cw : CwObs) (w : Win) (d : Bool) (i : Nat) (x : Grant) (n : BitVec 24) (s : State),
      s.win c g = some w →
      w.hit.isSome = true →
      cw.answer = 0 →
      w.firstSeen = false →
      (cw.correctable || !w.fec) = true →
      cw.hdr = some (true, w.slot, d) →
      cw.items = [.dbru i true n] →
      w.grants.find? (fun y => decide (y.1 = i)) = some (i, x) →
      x.dbru = true →
      (s.shd.look c).inq.length < 2048 →
      ∃ t, exec (.burstCodewordDecoded c g cw) s = .next t ∧
        t.rd64 (BRX_CW_TOTAL c) = (s.rd64 (BRX_CW_TOTAL c) + 1) % 2 ^ 64 ∧
        t.rd64 (SHD_REPORTS c) = (s.rd64 (SHD_REPORTS c) + 1) % 2 ^ 64 ∧
        (t.shd.look c).inq = (s.shd.look c).inq ++ [inEntry 0 x w.frame n.toNat] ∧
        (t.win c g).map (·.released) = some true ∧
        SameParts [.agents, .irq, .cyc, .msi, .pch, .slots, .shd, .shu, .blt, .cry, .cls] s t)

/-- An opened window whose answers have shown their first codewords ends: it is no longer planned, and each of its grants is FIXED
with its outcome; of one that is not open, or still waits for a first codeword, nothing changes. In more detail, for an ordinary
window of one grant: without a match the grant is ABSENT: its ledger entry is FIXED with outcome 1 and a deadline 16 µs on, a
close entry and a descriptor join the book-keeping queue, the shed's queue gets an ABSENT entry, counted, and the ONU's run of
absences grows by one. With a matched burst whose first codeword, header and ONU-ID all check it is RECEIVED: outcome 0, and where
the entry is the slot's, the memory is on and nothing was written meanwhile, the six adapted words stand in it, STALE clear after
a lock within 20 ns; stated for an ONU without LOB or LODS, no dying gasp and an entry that was not VALID. With a matched burst
that does not check it is ERRORED: outcome 2, and the run of absences ends. A frame counts as lit by the energy of a window that
opened in it (log entry 73). -/
def Obligations.AWindowEndsWithItsOutcome : Prop :=
  (∀ (c : Fin 64) (g : Fin 4096) (m : BurstMeas) (l : List BurstMeas) (w : Win) (s : State),
      s.win c g = some w →
      w.opened = true →
      (w.hit.isSome && !w.firstSeen) = false →
      w.extra.any (fun a => !a.firstSeen) = false →
      ∃ t, exec (.windowEnd c g ⟨m, l⟩) s = .next t ∧
        t.win c g = none ∧
        (∀ y ∈ w.grants, (t.ledger.look y.1).outcome = w.outcome ∧ (t.ledger.look y.1).state = 2 ∧ (t.ledger.look y.1).deadline = s.now + 16000) ∧
        SameParts [.agents, .irq, .cyc, .msi, .pch, .slots, .rng, .shd, .ledger, .shu, .blt] s t) ∧
  (∀ (c : Fin 64) (g : Fin 4096) (m : BurstMeas) (l : List BurstMeas) (w : Win) (s : State),
      s.win c g = some w →
      (w.opened = false ∨ (w.hit.isSome = true ∧ w.firstSeen = false) ∨ w.extra.any (fun a => !a.firstSeen) = true) →
      ∃ t, exec (.windowEnd c g ⟨m, l⟩) s = .next t ∧
        SameParts [] s t ∧
        SameRegs noReg [] s t) ∧
  (∀ (c : Fin 64) (g : Fin 4096) (m : BurstMeas) (l : List BurstMeas) (w : Win) (x : Grant) (s : State),
      s.win c g = some w →
      w.opened = true →
      w.grants = [(g.val, x)] →
      w.disc = false →
      w.slot < 256 →
      w.extra = [] →
      (s.pch.look c).frags.look x.allocId = none →
      (s.pch.look c).bkq.length ≤ 800 →
      w.hit = none →
      (s.shd.look c).inq.length < 2048 →
      ∃ t, exec (.windowEnd c g ⟨m, l⟩) s = .next t ∧
        t.win c g = none ∧
        (t.ledger.look g).outcome = 1 ∧
        (t.ledger.look g).state = 2 ∧
        (t.ledger.look g).deadline = s.now + 16000 ∧
        (t.pch.look c).bkq.length = (s.pch.look c).bkq.length + 2 ∧
        (t.pch.look c).sawEnergy = ((s.pch.look c).sawEnergy || (decide (w.openIn = s.rd64 (DSF_SFC c)) && decide (s.energyThresh c < m.energy))) ∧
        t.rd64 (SHD_ABSENT_OBS c) = (s.rd64 (SHD_ABSENT_OBS c) + 1) % 2 ^ 64 ∧
        (t.shd.look c).inq = (s.shd.look c).inq ++ [inEntry 2 x w.frame 0] ∧
        (t.slot c w.slot).absRun = (s.slot c w.slot).absRun + 1 ∧
        SameParts [.pch, .slots, .shd, .ledger] s t ∧
        SameRegs noReg [SHD_ABSENT_OBS c, SHD_ABSENT_OBS c + 4, SHD_INQ_STATUS c] s t) ∧
  (∀ (c : Fin 64) (g : Fin 4096) (m : BurstMeas) (l : List BurstMeas) (w : Win) (x : Grant) (s : State),
      s.win c g = some w →
      w.opened = true →
      w.grants = [(g.val, x)] →
      w.disc = false →
      w.slot < 256 →
      w.extra = [] →
      (s.pch.look c).frags.look x.allocId = none →
      (s.pch.look c).bkq.length ≤ 800 →
      w.hit.isSome = true →
      w.firstSeen = true →
      w.released = false →
      (w.entry = 260 ∨ s.on (PCH_BRX_CTL c) PCH_BRX_CTL_EQ_MEM_EN = false) →
      ∃ t, exec (.windowEnd c g ⟨m, l⟩) s = .next t ∧
        t.win c g = none ∧
        (t.ledger.look g).outcome = 2 ∧
        (t.ledger.look g).state = 2 ∧
        (t.ledger.look g).deadline = s.now + 16000 ∧
        (t.pch.look c).bkq.length = (s.pch.look c).bkq.length + 2 ∧
        (t.pch.look c).sawEnergy = ((s.pch.look c).sawEnergy || (decide (w.openIn = s.rd64 (DSF_SFC c)) && decide (s.energyThresh c < m.energy))) ∧
        (t.slot c w.slot).absRun = 0 ∧
        SameParts [.pch, .slots, .ledger] s t ∧
        SameRegs noReg [] s t) ∧
  (∀ (c : Fin 64) (g : Fin 4096) (m : BurstMeas) (l : List BurstMeas) (w : Win) (x : Grant) (s : State),
      s.win c g = some w →
      w.opened = true →
      w.grants = [(g.val, x)] →
      w.disc = false →
      w.slot < 256 →
      w.extra = [] →
      (s.pch.look c).frags.look x.allocId = none →
      (s.pch.look c).bkq.length ≤ 800 →
      w.hit.isSome = true →
      w.released = true →
      w.dg = false →
      w.gIdle.look g = 0 →
      s.on (PCH_ONU_DEF c w.slot) PCH_ONU_DEF_LOB_LIVE = false →
      s.on (PCH_ONU_DEF c w.slot) PCH_ONU_DEF_LODS_LIVE = false →
      w.entry = w.slot →
      w.noWriteBack = false →
      s.on (PCH_BRX_CTL c) PCH_BRX_CTL_EQ_MEM_EN = true →
      m.lock ≤ 80 →
      w.validPre = false →
      ∃ t, exec (.windowEnd c g ⟨m, l⟩) s = .next t ∧
        t.win c g = none ∧
        (t.ledger.look g).outcome = 0 ∧
        (t.ledger.look g).state = 2 ∧
        (t.ledger.look g).deadline = s.now + 16000 ∧
        (t.pch.look c).bkq.length = (s.pch.look c).bkq.length + 2 ∧
        (t.pch.look c).sawEnergy = ((s.pch.look c).sawEnergy || (decide (w.openIn = s.rd64 (DSF_SFC c)) && decide (s.energyThresh c < m.energy))) ∧
        (∀ k : Fin 6, t.rd (PCH_EQ c w.entry + 4 * k) = (adaptedWords w m (s.on (PCH_BRX_CTL c) PCH_BRX_CTL_LINEAR)).getD k 0) ∧
        t.on (PCH_EQ c w.entry) PCH_EQ_STALE = false ∧
        (t.slot c w.slot).absRun = 0 ∧
        SameParts [.pch, .slots, .shd, .ledger] s t ∧
        SameRegs (fun a => regsIn (PCH_EQ c w.entry) (PCH_EQ c w.entry + 24) a) [] s t)

/-- A write of a word of the equaliser memory by an agent that reaches it replaces its writable bits and keeps bursts in progress on
that entry from being written back; a written STALE of a slot's entry moves the ONU to profile 1 and no other write moves it; a
write of word 0 on a channel held by protection leaves the entry not VALID. Energy above the threshold, past the tail limit with
which a burst's window opened, is evidence against its slot, once and only after a RECEIVED burst; energy that meets no window
counts in OOW_ENERGY with its event, and on a channel held by protection it only makes the frame lit; energy not above the
threshold does nothing. -/
def Obligations.EqualiserWritesAndEnergy : Prop :=
  (∀ (ag : Agent) (c : Fin 64) (i : Fin 261) (w : Fin 8) (v : Word) (s : State),
      s.reaches ag (PCH_EQ c i + 4 * w.val) = true →
      (w ≠ 0 ∨ (v.getLsbD 30 = false ∧ (s.pch.look c).protHeld = false)) →
      ∃ t, exec (.eqEntryWrite ag c i w v) s = .next t ∧
        (∀ b : Fin 32, (t.rd (PCH_EQ c i + 4 * w.val)).getLsbD b = if (rwBits (PCH_EQ c i + 4 * w.val)).testBit b then (v).getLsbD b else (s.rd (PCH_EQ c i + 4 * w.val)).getLsbD b) ∧
        (∀ x ∈ (t.pch.look c).wins, x.opened = true → x.entry = i.val → x.noWriteBack = true) ∧
        SameParts [.pch] s t ∧
        SameRegs noReg [(PCH_EQ c i + 4 * w.val)] s t) ∧
  (∀ (ag : Agent) (c : Fin 64) (i : Fin 261) (w : Fin 8) (v : Word) (s : State),
      s.reaches ag (PCH_EQ c i + 4 * w.val) = true →
      w = 0 →
      v.getLsbD 30 = true →
      i.val < 256 →
      (s.pch.look c).protHeld = false →
      ∃ t, exec (.eqEntryWrite ag c i w v) s = .next t ∧
        t.on (PCH_EQ c i) PCH_EQ_STALE = true ∧
        t.g (RNG_ONU c i) RNG_ONU_PROF = 1 ∧
        (∀ x ∈ (t.pch.look c).wins, x.opened = true → x.entry = i.val → x.noWriteBack = true) ∧
        SameParts [.pch, .slots] s t ∧
        SameRegs noReg [PCH_EQ c i, RNG_ONU c i] s t) ∧
  (∀ (ag : Agent) (c : Fin 64) (i : Fin 261) (w : Fin 8) (v : Word) (s : State),
      s.reaches ag (PCH_EQ c i + 4 * w.val) = true →
      w = 0 →
      v.getLsbD 30 = true →
      256 ≤ i.val →
      ∃ t, exec (.eqEntryWrite ag c i w v) s = .next t ∧
        t.on (PCH_EQ c i) PCH_EQ_STALE = true ∧
        (∀ x ∈ (t.pch.look c).wins, x.opened = true → x.entry = i.val → x.noWriteBack = true) ∧
        SameParts [.pch] s t ∧
        SameRegs noReg [PCH_EQ c i] s t) ∧
  (∀ (ag : Agent) (c : Fin 64) (i : Fin 261) (w : Fin 8) (v : Word) (s : State),
      s.reaches ag (PCH_EQ c i + 4 * w.val) = true →
      w = 0 →
      (s.pch.look c).protHeld = true →
      ∃ t, exec (.eqEntryWrite ag c i w v) s = .next t ∧
        t.on (PCH_EQ c i) PCH_EQ_VALID = false ∧
        (∀ x ∈ (t.pch.look c).wins, x.opened = true → x.entry = i.val → x.noWriteBack = true) ∧
        SameParts [.pch, .slots] s t ∧
        SameRegs noReg [PCH_EQ c i, RNG_ONU c i] s t) ∧
  (∀ (c : Fin 64) (i : Fin 256) (n e : Nat) (s : State),
      (s.slot c i).lastRecv = true →
      (s.slot c i).tail < n →
      s.energyThresh c < e →
      ∃ t, exec (.tailEnergy c i ⟨n, e⟩) s = .next t ∧
        t.slot c i = { s.slot c i with lastRecv := false, rogueAt := (s.slot c i).rogueAt.filter (fun x => decide (s.now - x < 1000000000)) ++ [s.now] } ∧
        SameParts [.slots] s t ∧
        SameRegs noReg [] s t) ∧
  (∀ (c : Fin 64) (i : Fin 256) (n e : Nat) (s : State),
      ((s.slot c i).lastRecv = false ∨ n ≤ (s.slot c i).tail ∨ e ≤ s.energyThresh c) →
      ∃ t, exec (.tailEnergy c i ⟨n, e⟩) s = .next t ∧
        SameParts [] s t ∧
        SameRegs noReg [] s t) ∧
  (∀ (c : Fin 64) (e : Nat) (s : State),
      s.energyThresh c < e →
      (s.pch.look c).protHeld = false →
      ∃ t, exec (.oowEnergy ⟨c, e⟩) s = .next t ∧
        t.rd64 (BRX_OOW_ENERGY c) = (s.rd64 (BRX_OOW_ENERGY c) + 1) % 2 ^ 64 ∧
        Noted s t (PCH_BRX_STATUS c) PCH_BRX_STATUS_OOW_ENERGY ∧
        (t.rng.look c).probeEnergy = true ∧
        SameParts [.irq, .cyc, .msi, .shu, .rng] s t ∧
        SameRegs irqReg [BRX_OOW_ENERGY c, BRX_OOW_ENERGY c + 4, PCH_BRX_STATUS c] s t) ∧
  (∀ (c : Fin 64) (e : Nat) (s : State),
      s.energyThresh c < e →
      (s.pch.look c).protHeld = true →
      ∃ t, exec (.oowEnergy ⟨c, e⟩) s = .next t ∧
        t.pch.look c = { s.pch.look c with litSecond := true, sawWindow := true, sawEnergy := true } ∧
        SameParts [.pch] s t ∧
        SameRegs noReg [] s t) ∧
  (∀ (c : Fin 64) (e : Nat) (s : State),
      e ≤ s.energyThresh c →
      ∃ t, exec (.oowEnergy ⟨c, e⟩) s = .next t ∧
        SameParts [] s t ∧
        SameRegs noReg [] s t)

/-- Outside a blanking window, by the thresholds of the ONU's latest grant closure. LOB after LOB_SET absences, of an ONU that no
takeover has left to be re-ranged: its live bit and event are set, the slot's equaliser entry is STALE and the ONU takes profile
1. LODS once LOB has stood for LODS_MS: a slot in OPERATION or RERANGING goes to LOST; where a RECEIVED outcome of the cycle has
just cleared LOB only the event bit is set. DRIFT after four bursts beyond the limit: a slot in OPERATION is corrected at once,
the EqD in use less the nearest bits of the latest arrival (a negative one reads 0, log entry 80), PENDING set and the correction
counted. ROGUE after ROGUE_SET events of evidence within a second, isolating only with ROGUE_AUTO. DG clears after DG_CLR bursts
without it, DRIFT after 16 within half the limit, ROGUE after 10 s without evidence: the live bit clears and the event is noted.
No other register changes beside those of the Bolt and of the interrupt. -/
def Obligations.OnuDefectsRaiseAndClear : Prop :=
  (∀ (c : Fin 64) (i : Fin 256) (s : State),
      s.defLim c i PCH_BRX_DEF_CTL_LOB_SET ≤ (s.slot c i).absRun →
      ((s.pch.look c).blankDef || (s.pch.look c).blankMute) = false →
      s.on (PCH_ONU_DEF c i) PCH_ONU_DEF_LOB_LIVE = false →
      bit (s.slot c i).pendRaise PCH_ONU_DEF_LOB.lo = false →
      (s.slot c i).takenOver = false →
      ∃ t, exec (.onuLobRaise c i) s = .next t ∧
        t.on (PCH_ONU_DEF c i) PCH_ONU_DEF_LOB_LIVE = true ∧
        Noted s t (PCH_ONU_DEF c i) PCH_ONU_DEF_LOB ∧
        t.on (PCH_EQ c i) PCH_EQ_STALE = true ∧
        t.g (RNG_ONU c i) RNG_ONU_PROF = 1 ∧
        (t.slot c i).lobAt = s.now ∧
        SameParts [.fresh, .irq, .cyc, .msi, .pch, .slots, .rng, .shd, .shu, .blt] s t ∧
        SameRegs boltReg [PCH_ONU_DEF c i, PCH_EQ c i, RNG_ONU c i] s t) ∧
  (∀ (c : Fin 64) (i : Fin 256) (s : State),
      s.lodsDue c i = true →
      s.on (PCH_ONU_DEF c i) PCH_ONU_DEF_LOB_LIVE = true →
      ((s.pch.look c).blankDef || (s.pch.look c).blankMute) = false →
      s.on (PCH_ONU_DEF c i) PCH_ONU_DEF_LODS_LIVE = false →
      bit (s.slot c i).pendRaise PCH_ONU_DEF_LODS.lo = false →
      (s.slotState c i = 2 ∨ s.slotState c i = 3) →
      ∃ t, exec (.onuLodsRaise c i) s = .next t ∧
        t.on (PCH_ONU_DEF c i) PCH_ONU_DEF_LODS_LIVE = true ∧
        Noted s t (PCH_ONU_DEF c i) PCH_ONU_DEF_LODS ∧
        t.slotState c i = 4 ∧
        t.on (RNG_ONU c i) RNG_ONU_PENDING = false ∧
        SameParts [.irq, .cyc, .msi, .slots, .shu, .blt] s t ∧
        SameRegs boltReg [PCH_ONU_DEF c i, RNG_ONU c i] s t) ∧
  (∀ (c : Fin 64) (i : Fin 256) (s : State),
      s.lodsDue c i = true →
      s.on (PCH_ONU_DEF c i) PCH_ONU_DEF_LOB_LIVE = false →
      (s.slot c i).lobEnd = some s.now →
      ∃ t, exec (.onuLodsRaise c i) s = .next t ∧
        Noted s t (PCH_ONU_DEF c i) PCH_ONU_DEF_LODS ∧
        t.on (PCH_ONU_DEF c i) PCH_ONU_DEF_LODS_LIVE = s.on (PCH_ONU_DEF c i) PCH_ONU_DEF_LODS_LIVE ∧
        t.slotState c i = s.slotState c i ∧
        (t.slot c i).lobEnd = none ∧
        SameParts [.irq, .cyc, .msi, .shu, .slots] s t ∧
        SameRegs irqReg [PCH_ONU_DEF c i] s t) ∧
  (∀ (c : Fin 64) (i : Fin 256) (s : State),
      s.defLim c i PCH_BRX_DEF_CTL_DG_CLR ≤ (s.slot c i).dgRun →
      s.on (PCH_ONU_DEF c i) PCH_ONU_DEF_DG_LIVE = true →
      ∃ t, exec (.onuDgClear c i) s = .next t ∧
        t.on (PCH_ONU_DEF c i) PCH_ONU_DEF_DG_LIVE = false ∧
        Noted s t (PCH_ONU_DEF c i) PCH_ONU_DEF_DG ∧
        SameParts [.irq, .cyc, .msi, .shu, .blt] s t ∧
        SameRegs boltReg [PCH_ONU_DEF c i] s t) ∧
  (∀ (c : Fin 64) (i : Fin 256) (s : State),
      4 ≤ (s.slot c i).driftHi →
      (s.pch.look c).permBlank = false →
      s.on (PCH_ONU_DEF c i) PCH_ONU_DEF_DRIFT_LIVE = false →
      bit (s.slot c i).pendRaise PCH_ONU_DEF_DRIFT.lo = false →
      s.slotState c i ≠ 2 →
      ∃ t, exec (.onuDriftRaise c i) s = .next t ∧
        t.on (PCH_ONU_DEF c i) PCH_ONU_DEF_DRIFT_LIVE = true ∧
        Noted s t (PCH_ONU_DEF c i) PCH_ONU_DEF_DRIFT ∧
        SameParts [.irq, .cyc, .msi, .shu, .slots, .blt] s t ∧
        SameRegs boltReg [PCH_ONU_DEF c i] s t) ∧
  (∀ (c : Fin 64) (i : Fin 256) (s : State),
      4 ≤ (s.slot c i).driftHi →
      (s.pch.look c).permBlank = false →
      s.on (PCH_ONU_DEF c i) PCH_ONU_DEF_DRIFT_LIVE = false →
      bit (s.slot c i).pendRaise PCH_ONU_DEF_DRIFT.lo = false →
      s.slotState c i = 2 →
      (s.pch.look c).ploamQ.length < 64 →
      ∃ t, exec (.onuDriftRaise c i) s = .next t ∧
        t.on (PCH_ONU_DEF c i) PCH_ONU_DEF_DRIFT_LIVE = true ∧
        t.g (RNG_ONU c i) RNG_ONU_EQD = ((s.eqdUsed c i : Int) - bitsOf (s.slot c i).lastArr).toNat % 2 ^ RNG_ONU_EQD.w ∧
        t.on (RNG_ONU c i) RNG_ONU_PENDING = true ∧
        t.rd64 (RNG_CORRECTIONS c) = (s.rd64 (RNG_CORRECTIONS c) + 1) % 2 ^ 64 ∧
        (t.pch.look c).ploamQ.length = (s.pch.look c).ploamQ.length + 1 ∧
        SameParts [.irq, .cyc, .msi, .pch, .slots, .shu, .blt] s t ∧
        SameRegs boltReg [PCH_ONU_DEF c i, RNG_ONU c i, RNG_ONU c i + 4, RNG_CORRECTIONS c, RNG_CORRECTIONS c + 4] s t) ∧
  (∀ (c : Fin 64) (i : Fin 256) (s : State),
      16 ≤ (s.slot c i).driftLo →
      s.on (PCH_ONU_DEF c i) PCH_ONU_DEF_DRIFT_LIVE = true →
      ∃ t, exec (.onuDriftClear c i) s = .next t ∧
        t.on (PCH_ONU_DEF c i) PCH_ONU_DEF_DRIFT_LIVE = false ∧
        Noted s t (PCH_ONU_DEF c i) PCH_ONU_DEF_DRIFT ∧
        SameParts [.irq, .cyc, .msi, .shu, .blt] s t ∧
        SameRegs boltReg [PCH_ONU_DEF c i] s t) ∧
  (∀ (c : Fin 64) (i : Fin 256) (s : State),
      s.defLim c i PCH_BRX_DEF_CTL_ROGUE_SET ≤ ((s.slot c i).rogueAt.filter (fun x => decide (s.now - x < 1000000000))).length →
      (s.pch.look c).permBlank = false →
      s.on (PCH_ONU_DEF c i) PCH_ONU_DEF_ROGUE_LIVE = false →
      bit (s.slot c i).pendRaise PCH_ONU_DEF_ROGUE.lo = false →
      s.on (RNG_CTL c) RNG_CTL_ROGUE_AUTO = false →
      ∃ t, exec (.onuRogueRaise c i) s = .next t ∧
        t.on (PCH_ONU_DEF c i) PCH_ONU_DEF_ROGUE_LIVE = true ∧
        Noted s t (PCH_ONU_DEF c i) PCH_ONU_DEF_ROGUE ∧
        t.slotState c i = s.slotState c i ∧
        SameParts [.irq, .cyc, .msi, .shu, .slots, .blt] s t ∧
        SameRegs boltReg [PCH_ONU_DEF c i] s t) ∧
  (∀ (c : Fin 64) (i : Fin 256) (s : State),
      s.defLim c i PCH_BRX_DEF_CTL_ROGUE_SET ≤ ((s.slot c i).rogueAt.filter (fun x => decide (s.now - x < 1000000000))).length →
      (s.pch.look c).permBlank = false →
      s.on (PCH_ONU_DEF c i) PCH_ONU_DEF_ROGUE_LIVE = false →
      bit (s.slot c i).pendRaise PCH_ONU_DEF_ROGUE.lo = false →
      s.on (RNG_CTL c) RNG_CTL_ROGUE_AUTO = true →
      ∃ t, exec (.onuRogueRaise c i) s = .next t ∧
        t.on (PCH_ONU_DEF c i) PCH_ONU_DEF_ROGUE_LIVE = true ∧
        t.slotState c i = 5 ∧
        t.rd64 (RNG_ROGUE_ISOLATED c) = (s.rd64 (RNG_ROGUE_ISOLATED c) + 1) % 2 ^ 64 ∧
        SameParts [.irq, .cyc, .msi, .pch, .slots, .rng, .shu, .blt] s t) ∧
  (∀ (c : Fin 64) (i : Fin 256) (s : State),
      (∀ x ∈ (s.slot c i).rogueAt, 10000000000 ≤ s.now - x) →
      s.on (PCH_ONU_DEF c i) PCH_ONU_DEF_ROGUE_LIVE = true →
      ∃ t, exec (.onuRogueClear c i) s = .next t ∧
        t.on (PCH_ONU_DEF c i) PCH_ONU_DEF_ROGUE_LIVE = false ∧
        Noted s t (PCH_ONU_DEF c i) PCH_ONU_DEF_ROGUE ∧
        (t.slot c i).rogueAt = [] ∧
        SameParts [.irq, .cyc, .msi, .slots, .shu, .blt] s t ∧
        SameRegs boltReg [PCH_ONU_DEF c i] s t)

/-- A quiet window that falls due on an ACTIVE channel is booked, in the third frame after the last sealed one or as much later as its
span reaches back, and counted where none is open or booked and neither an undertone window nor a locate runs, and else waits. A
Serial_Number_ONU of a new number takes the lowest EMPTY slot to ASSIGNED with that number, profile 1 and EQD 0; a number that
already has a slot counts DUP_SN alone, and with no EMPTY slot SLOTS_FULL is noted. A ranging burst of an ASSIGNED slot with a D
within Teqd takes it to OPERATION with the delay Teqd minus D, rounded to the nearest bit, counted in DISC_QW; a larger D counts
FAR and empties the slot. A capability report of an ONU that was asked, as a command or as an upstream PLOAM, sets its flags, a
timeout clears them. An upstream PLOAM with a failed MIC, or one that is no dying gasp from an ONU that was not asked, changes
nothing but the shuttle's input. Where in the frame a booked grant starts is a free value (log entry 1). -/
def Obligations.DiscoveryFillsSlots : Prop :=
  (∀ (c : Fin 64) (s : State),
      s.chState c = 2 →
      (s.on (RNG_CTL c) RNG_CTL_QW_EN || (s.rng.look c).qwDue) = true →
      s.qwFree c = true →
      ∃ t, exec (.quietWindowOpen c) s = .next t ∧
        (t.rng.look c).qwBooked = true ∧
        (t.rng.look c).qwFrame = (s.pch.look c).openLo + 2 + ((s.pch.look c).teqd - s.g (RNG_SPAN c) RNG_SPAN_DMIN_US * 1000 + 124999) / 125000 ∧
        t.on (RNG_STATUS c) RNG_STATUS_QW_ACTIVE = true ∧
        t.rd64 (RNG_QW_WINDOWS c) = (s.rd64 (RNG_QW_WINDOWS c) + 1) % 2 ^ 64 ∧
        t.fresh = s.fresh + 1 ∧
        SameParts [.irq, .cyc, .msi, .shu, .fresh, .rng, .shd] s t ∧
        SameRegs irqReg [RNG_STATUS c, RNG_QW_WINDOWS c, RNG_QW_WINDOWS c + 4, SHD_INQ_STATUS c] s t) ∧
  (∀ (c : Fin 64) (s : State),
      s.chState c = 2 →
      (s.on (RNG_CTL c) RNG_CTL_QW_EN || (s.rng.look c).qwDue) = true →
      s.qwFree c = false →
      ∃ t, exec (.quietWindowOpen c) s = .next t ∧
        t.rng.look c = { s.rng.look c with qwDue := true } ∧
        SameParts [.rng] s t ∧
        SameRegs noReg [] s t) ∧
  (∀ (c : Fin 64) (sn : BitVec 64) (i : Nat) (s : State),
      s.chState c = 2 →
      s.snKnown c sn 256 = false →
      s.emptySlot c = some i →
      i < 256 →
      ∃ t, exec (.serialNumberOnu c sn) s = .next t ∧
        t.slotState c i = 1 ∧
        t.slotSn c i = sn ∧
        t.g (RNG_ONU c i) RNG_ONU_PROF = 1 ∧
        t.g (RNG_ONU c i) RNG_ONU_EQD = 0 ∧
        t.on (SHD_ALLOC c i) SHD_ALLOC_VALID = true ∧
        SameParts [.fresh, .irq, .cyc, .msi, .pch, .slots, .rng, .shd, .shu, .blt] s t) ∧
  (∀ (c : Fin 64) (sn : BitVec 64) (s : State),
      s.chState c = 2 →
      s.snKnown c sn 256 = true →
      ∃ t, exec (.serialNumberOnu c sn) s = .next t ∧
        t.rd64 (RNG_DUP_SN c) = (s.rd64 (RNG_DUP_SN c) + 1) % 2 ^ 64 ∧
        SameParts [] s t ∧
        SameRegs noReg [RNG_DUP_SN c, RNG_DUP_SN c + 4] s t) ∧
  (∀ (c : Fin 64) (sn : BitVec 64) (s : State),
      s.chState c = 2 →
      s.snKnown c sn 256 = false →
      s.emptySlot c = none →
      ∃ t, exec (.serialNumberOnu c sn) s = .next t ∧
        Noted s t (RNG_STATUS c) RNG_STATUS_SLOTS_FULL ∧
        SameParts [.irq, .cyc, .msi, .shu] s t ∧
        SameRegs irqReg [RNG_STATUS c] s t) ∧
  (∀ (c : Fin 64) (i : Fin 256) (d : Nat) (s : State),
      s.slotState c i = 1 →
      (s.slot c i).vidan = false →
      d * 125000 ≤ 64 * s.teqdBits c →
      ∃ t, exec (.rangingBurst c i d) s = .next t ∧
        t.slotState c i = 2 ∧
        t.g (RNG_ONU c i) RNG_ONU_EQD = (64 * s.teqdBits c - d * 125000 + 4000000) / 8000000 % 2 ^ RNG_ONU_EQD.w ∧
        t.rd64 (RNG_DISC_QW c) = (s.rd64 (RNG_DISC_QW c) + 1) % 2 ^ 64 ∧
        Noted s t (RNG_STATUS c) RNG_STATUS_DISC ∧
        (t.slot c i).capPending = true ∧
        SameParts [.irq, .cyc, .msi, .shu, .pch, .slots] s t ∧
        SameRegs irqReg [RNG_ONU c i, RNG_ONU c i + 4, DSF_STATUS c, RNG_STATUS c, RNG_DISC_QW c, RNG_DISC_QW c + 4] s t) ∧
  (∀ (c : Fin 64) (i : Fin 256) (d : Nat) (s : State),
      s.slotState c i = 1 →
      (s.slot c i).vidan = false →
      64 * s.teqdBits c < d * 125000 →
      ∃ t, exec (.rangingBurst c i d) s = .next t ∧
        t.slotState c i = 0 ∧
        t.rd64 (RNG_FAR c) = (s.rd64 (RNG_FAR c) + 1) % 2 ^ 64 ∧
        t.on (PCH_EQ c i) PCH_EQ_VALID = false ∧
        SameParts [.irq, .cyc, .msi, .pch, .slots, .rng, .shu, .blt] s t) ∧
  (∀ (c : Fin 64) (i : Fin 256) (mic : Bool) (m : UpPloam) (s : State),
      (mic = false ∨ (m ≠ .dyingGasp ∧ (s.slot c i).capPending = false)) →
      ∃ t, exec (.upstreamPloam c i mic m) s = .next t ∧
        t.shu.upPloam.look c = s.shu.upPloam.look c ++ [(i.val, mic, m)] ∧
        SameParts [.shu] s t ∧
        SameRegs noReg [] s t) ∧
  (∀ (c : Fin 64) (i : Fin 256) (s : State),
      s.slotState c i ≠ 0 →
      (s.pch.look c).permBlank = false →
      (s.pch.look c).blankMute = false →
      s.on (PCH_ONU_DEF c i) PCH_ONU_DEF_DG_LIVE = false →
      ∃ t, exec (.upstreamPloam c i true .dyingGasp) s = .next t ∧
        t.on (PCH_ONU_DEF c i) PCH_ONU_DEF_DG_LIVE = true ∧
        Noted s t (PCH_ONU_DEF c i) PCH_ONU_DEF_DG ∧
        t.shu.upPloam.look c = s.shu.upPloam.look c ++ [(i.val, true, .dyingGasp)] ∧
        SameParts [.irq, .cyc, .msi, .slots, .shu, .blt] s t ∧
        SameRegs boltReg [PCH_ONU_DEF c i] s t) ∧
  (∀ (c : Fin 64) (i : Fin 256) (v f l : BitVec 8) (s : State),
      (s.slot c i).capPending = true →
      ∃ t, exec (.capReport c i ⟨v, f, l⟩) s = .next t ∧
        t.on (RNG_ONU c i) RNG_ONU_VIDAN_CAP = (f.getLsbD 0 || f.getLsbD 2) ∧
        t.on (RNG_ONU c i) RNG_ONU_SEALED_CAP = f.getLsbD 1 ∧
        t.slot c i = { s.slot c i with capPending := false, rerangeCap := f.getLsbD 2, muteCap := f.getLsbD 3, minLevel := l.toNat } ∧
        SameParts [.slots] s t ∧
        SameRegs noReg [RNG_ONU c i] s t) ∧
  (∀ (c : Fin 64) (i : Fin 256) (v f l : BitVec 8) (s : State),
      (s.slot c i).capPending = true →
      ∃ t, exec (.upstreamPloam c i true (.capReport v f l)) s = .next t ∧
        t.on (RNG_ONU c i) RNG_ONU_VIDAN_CAP = (f.getLsbD 0 || f.getLsbD 2) ∧
        t.on (RNG_ONU c i) RNG_ONU_SEALED_CAP = f.getLsbD 1 ∧
        t.slot c i = { s.slot c i with capPending := false, rerangeCap := f.getLsbD 2, muteCap := f.getLsbD 3, minLevel := l.toNat } ∧
        t.shu.upPloam.look c = s.shu.upPloam.look c ++ [(i.val, true, .capReport v f l)] ∧
        SameParts [.slots, .shu] s t ∧
        SameRegs noReg [RNG_ONU c i] s t) ∧
  (∀ (c : Fin 64) (i : Fin 256) (v f l : BitVec 8) (s : State),
      (s.slot c i).capPending = false →
      ∃ t, exec (.capReport c i ⟨v, f, l⟩) s = .next t ∧
        SameParts [] s t ∧
        SameRegs noReg [] s t) ∧
  (∀ (c : Fin 64) (i : Fin 256) (s : State),
      (s.slot c i).capPending = true →
      ∃ t, exec (.capQueryTimeout c i) s = .next t ∧
        t.on (RNG_ONU c i) RNG_ONU_VIDAN_CAP = false ∧
        t.on (RNG_ONU c i) RNG_ONU_SEALED_CAP = false ∧
        (t.slot c i).capPending = false ∧
        SameParts [.slots] s t ∧
        SameRegs noReg [RNG_ONU c i] s t)

/-- An invitation goes on an ACTIVE 50G-PON channel with VIDAN_EN where no quiet window, locate, undertone or re-ranging window is
open and the entropy source works: one nonce is drawn, the message joins the PLOAM queue and the window waits for the frame that
carries it; on a full queue only PLOAM_FULL is noted. The correlator's report, once the window has run its 64 frames, ends it,
notes UT_DONE, counts the peaks beyond four among those at the delays searched and takes the next answer threshold; without a peak
every peak register is invalid. A single peak within Teqd takes the lowest EMPTY slot to ASSIGNED for Vidan with its delay. A
follow-up burst whose serial number hashes to the peak's sequence and is new gives the slot its number, one already known counts
DUP_SN and empties the slot; an ambiguous or errored one, or a next burst that is not clean (log entry 81), counts UT_COLLIDE and
empties the slot; an absent one is assigned again, the third time the slot is emptied; the second clean burst takes the slot to
OPERATION, counted in DISC_UT. For a slot in no such exchange the result changes nothing. -/
def Obligations.VidanDiscovery : Prop :=
  (∀ (c : Fin 64) (s : State),
      s.inviteOk c = true →
      (s.pch.look c).ploamQ.length < 64 →
      ∃ t, exec (.vidanInvite c) s = .next t ∧
        (t.rng.look c).utOpen = true ∧
        (t.rng.look c).utStart = none ∧
        (t.rng.look c).utNonce = Config.freeWord s.fresh ∧
        (t.rng.look c).pResp = some ((s.rng.look c).pResp.getD (s.g (RNG_UT c) RNG_UT_P_RESP)) ∧
        (t.pch.look c).ploamQ = (s.pch.look c).ploamQ ++ [.vidanInvite (Config.freeWord s.fresh) 0 ((s.rng.look c).pResp.getD (s.g (RNG_UT c) RNG_UT_P_RESP))] ∧
        t.fresh = s.fresh + 1 ∧
        SameParts [.fresh, .pch, .rng] s t ∧
        SameRegs noReg [] s t) ∧
  (∀ (c : Fin 64) (s : State),
      s.inviteOk c = true →
      64 ≤ (s.pch.look c).ploamQ.length →
      ∃ t, exec (.vidanInvite c) s = .next t ∧
        Noted s t (DSF_STATUS c) DSF_STATUS_PLOAM_FULL ∧
        SameParts [.irq, .cyc, .msi, .shu] s t ∧
        SameRegs irqReg [DSF_STATUS c] s t) ∧
  (∀ (c : Fin 64) (s : State),
      s.inviteOk c = false →
      ∃ t, exec (.vidanInvite c) s = .next t ∧
        SameParts [] s t ∧
        SameRegs noReg [] s t) ∧
  (∀ (c : Fin 64) (l : List UtPeak) (s : State),
      s.utOver c = true →
      ∃ t, exec (.utPeaksReported c l) s = .next t ∧
        (t.rng.look c).utOpen = false ∧
        (t.rng.look c).utStart = none ∧
        Noted s t (RNG_STATUS c) RNG_STATUS_UT_DONE ∧
        (t.rng.look c).pResp = some (nextResp (s.g (RNG_UT c) RNG_UT_P_RESP) ((s.rng.look c).pResp.getD (s.g (RNG_UT c) RNG_UT_P_RESP)) (l.filter (fun p => s.searched c p)).length) ∧
        t.rd64 (RNG_UT_EXCESS c) = (s.rd64 (RNG_UT_EXCESS c) + ((l.filter (fun p => s.searched c p)).length - 4)) % 2 ^ 64 ∧
        SameParts [.fresh, .irq, .cyc, .msi, .pch, .slots, .rng, .shd, .shu, .blt] s t) ∧
  (∀ (c : Fin 64) (s : State),
      s.utOver c = true →
      (s.rng.look c).qwDue = false →
      (∀ i : Fin 256, (s.slot c i).rerangeWait = false) →
      ∃ t, exec (.utPeaksReported c []) s = .next t ∧
        (∀ j : Fin 4, t.on (RNG_UT_PEAK c j) RNG_UT_PEAK_VALID = false) ∧
        SameParts [.irq, .cyc, .msi, .shu, .rng] s t ∧
        SameRegs irqReg [RNG_STATUS c, RNG_UT_EXCESS c, RNG_UT_EXCESS c + 4, RNG_UT_PEAK c 0, RNG_UT_PEAK c 1, RNG_UT_PEAK c 2, RNG_UT_PEAK c 3] s t) ∧
  (∀ (c : Fin 64) (p : UtPeak) (i : Nat) (s : State),
      s.utOver c = true →
      s.searched c p = true →
      p.delay * (s.bpf c / 194400) * 125000 ≤ s.teqdBits c →
      s.emptySlot c = some i →
      i < 256 →
      ∃ t, exec (.utPeaksReported c [p]) s = .next t ∧
        t.slotState c i = 1 ∧
        (t.slot c i).vidan = true ∧
        (t.slot c i).vIdx = p.seqIdx ∧
        (t.slot c i).vEntry = 256 ∧
        t.g (RNG_ONU c i) RNG_ONU_EQD = (s.teqdBits c - p.delay * (s.bpf c / 194400) * 125000 + 62500) / 125000 % 2 ^ RNG_ONU_EQD.w ∧
        t.on (RNG_UT_PEAK c 0) RNG_UT_PEAK_VALID = true ∧
        SameParts [.fresh, .irq, .cyc, .msi, .pch, .slots, .rng, .shd, .shu, .blt] s t) ∧
  (∀ (c : Fin 64) (l : List UtPeak) (s : State),
      s.utOver c = false →
      ∃ t, exec (.utPeaksReported c l) s = .next t ∧
        SameParts [] s t ∧
        SameRegs noReg [] s t) ∧
  (∀ (c : Fin 64) (i : Fin 256) (sn : BitVec 64) (a : Int) (s : State),
      s.slotState c i = 1 →
      (s.slot c i).vidan = true →
      (s.slot c i).vSnOk = false →
      (vidanHash sn (s.slot c i).vNonce).toNat % 32 = (s.slot c i).vIdx →
      s.snKnown c sn i = false →
      ∃ t, exec (.vidanFollowupResult c i (.received sn a false)) s = .next t ∧
        t.slotSn c i = sn ∧
        (t.slot c i).vSnOk = true ∧
        (t.slot c i).vArrival = a ∧
        t.slotState c i = 1 ∧
        SameParts [.fresh, .irq, .cyc, .msi, .pch, .slots, .rng, .shd, .shu, .blt] s t) ∧
  (∀ (c : Fin 64) (i : Fin 256) (sn : BitVec 64) (a : Int) (m : Bool) (s : State),
      s.slotState c i = 1 →
      (s.slot c i).vidan = true →
      (s.slot c i).vSnOk = false →
      (m = true ∨ (vidanHash sn (s.slot c i).vNonce).toNat % 32 ≠ (s.slot c i).vIdx) →
      ∃ t, exec (.vidanFollowupResult c i (.received sn a m)) s = .next t ∧
        t.slotState c i = 0 ∧
        t.slot c i = default ∧
        t.rd64 (RNG_UT_COLLIDE c) = (s.rd64 (RNG_UT_COLLIDE c) + 1) % 2 ^ 64 ∧
        SameParts [.fresh, .irq, .cyc, .msi, .pch, .slots, .rng, .shd, .shu, .blt] s t) ∧
  (∀ (c : Fin 64) (i : Fin 256) (sn : BitVec 64) (a : Int) (s : State),
      s.slotState c i = 1 →
      (s.slot c i).vidan = true →
      (s.slot c i).vSnOk = false →
      (vidanHash sn (s.slot c i).vNonce).toNat % 32 = (s.slot c i).vIdx →
      s.snKnown c sn i = true →
      ∃ t, exec (.vidanFollowupResult c i (.received sn a false)) s = .next t ∧
        t.slotState c i = 0 ∧
        t.rd64 (RNG_DUP_SN c) = (s.rd64 (RNG_DUP_SN c) + 1) % 2 ^ 64 ∧
        SameParts [.fresh, .irq, .cyc, .msi, .pch, .slots, .rng, .shd, .shu, .blt] s t) ∧
  (∀ (c : Fin 64) (i : Fin 256) (s : State),
      s.slotState c i = 1 →
      (s.slot c i).vidan = true →
      (s.slot c i).vSnOk = false →
      (s.slot c i).vTries < 2 →
      (s.pch.look c).ploamQ.length < 64 →
      ∃ t, exec (.vidanFollowupResult c i .absent) s = .next t ∧
        t.slot c i = { s.slot c i with vTries := (s.slot c i).vTries + 1 } ∧
        (t.pch.look c).ploamQ.length = (s.pch.look c).ploamQ.length + 1 ∧
        SameParts [.pch, .slots] s t ∧
        SameRegs noReg [] s t) ∧
  (∀ (c : Fin 64) (i : Fin 256) (s : State),
      s.slotState c i = 1 →
      (s.slot c i).vidan = true →
      (s.slot c i).vSnOk = false →
      2 ≤ (s.slot c i).vTries →
      ∃ t, exec (.vidanFollowupResult c i .absent) s = .next t ∧
        t.slotState c i = 0 ∧
        t.slot c i = default ∧
        SameParts [.fresh, .irq, .cyc, .msi, .pch, .slots, .rng, .shd, .shu, .blt] s t) ∧
  (∀ (c : Fin 64) (i : Fin 256) (s : State),
      s.slotState c i = 1 →
      (s.slot c i).vidan = true →
      (s.slot c i).vSnOk = true →
      ∃ t, exec (.vidanFollowupResult c i (.next false)) s = .next t ∧
        t.slotState c i = 0 ∧
        t.slot c i = default ∧
        t.rd64 (RNG_UT_COLLIDE c) = (s.rd64 (RNG_UT_COLLIDE c) + 1) % 2 ^ 64 ∧
        SameParts [.fresh, .irq, .cyc, .msi, .pch, .slots, .rng, .shd, .shu, .blt] s t) ∧
  (∀ (c : Fin 64) (i : Fin 256) (f : FollowUp) (s : State),
      (s.slotState c i ≠ 1 ∨ (s.slot c i).vidan = false) →
      ∃ t, exec (.vidanFollowupResult c i f) s = .next t ∧
        SameParts [] s t ∧
        SameRegs noReg [] s t) ∧
  (∀ (c : Fin 64) (i : Fin 256) (s : State),
      s.slotState c i = 1 →
      (s.slot c i).vidan = true →
      (s.slot c i).vSnOk = false →
      ∃ t, exec (.vidanFollowupResult c i .errored) s = .next t ∧
        t.slotState c i = 0 ∧
        t.rd64 (RNG_UT_COLLIDE c) = (s.rd64 (RNG_UT_COLLIDE c) + 1) % 2 ^ 64 ∧
        SameParts [.fresh, .irq, .cyc, .msi, .pch, .slots, .rng, .shd, .shu, .blt] s t) ∧
  (∀ (c : Fin 64) (i : Fin 256) (s : State),
      s.slotState c i = 1 →
      (s.slot c i).vidan = true →
      (s.slot c i).vSnOk = true →
      (s.slot c i).vClean ≠ 0 →
      0 ≤ (s.g (RNG_ONU c i) RNG_ONU_EQD : Int) - bitsOf (s.slot c i).vArrival →
      ∃ t, exec (.vidanFollowupResult c i (.next true)) s = .next t ∧
        t.slotState c i = 2 ∧
        t.rd64 (RNG_DISC_UT c) = (s.rd64 (RNG_DISC_UT c) + 1) % 2 ^ 64 ∧
        t.g (RNG_ONU c i) RNG_ONU_EQD = ((s.g (RNG_ONU c i) RNG_ONU_EQD : Int) - bitsOf (s.slot c i).vArrival).toNat % 2 ^ RNG_ONU_EQD.w ∧
        SameParts [.irq, .cyc, .msi, .shu, .pch, .slots] s t ∧
        SameRegs irqReg [RNG_ONU c i, RNG_ONU c i + 4, DSF_STATUS c, RNG_STATUS c, RNG_DISC_UT c, RNG_DISC_UT c + 4] s t) ∧
  (∀ (c : Fin 64) (i : Fin 256) (s : State),
      s.slotState c i = 1 →
      (s.slot c i).vidan = true →
      (s.slot c i).vSnOk = true →
      (s.slot c i).vClean = 0 →
      ∃ t, exec (.vidanFollowupResult c i (.next true)) s = .next t ∧
        t.slot c i = { s.slot c i with vClean := 1 } ∧
        SameParts [.slots] s t ∧
        SameRegs noReg [] s t)

/-- A re-ranging result of a slot in RERANGE gives it OPERATION and the corrected delay; a failed attempt is made again, the third
sends it to LOST. A burst of a tracked ONU that is neither pending nor a jump filters its mean; while that stays within THRESH
bits nothing else changes, beyond it EQD is corrected by the nearest bits, at most 32, PENDING is set and the correction counted.
A burst whose arrival fits a pending correction clears PENDING. A pending correction that is late is sent again, at most three
times. Two clean bursts restore profile 0. A slot that stays LOST is deactivated and emptied. DRIFT that persists starts
re-ranging, counted in RERANGES. -/
def Obligations.ReRangingAndDrift : Prop :=
  (∀ (c : Fin 64) (i : Fin 256) (a : Int) (s : State),
      s.slotState c i = 3 →
      (s.slot c i).rerangeUt = false →
      0 ≤ ((s.g (RNG_ONU c i) RNG_ONU_EQD : Int) - bitsOf a) →
      (∀ k : Fin 256, (s.slot c k).rerangeWait = false) →
      ∃ t, exec (.rerangeResult c i (some a)) s = .next t ∧
        t.slotState c i = 2 ∧
        t.g (RNG_ONU c i) RNG_ONU_EQD = ((s.g (RNG_ONU c i) RNG_ONU_EQD : Int) - bitsOf a).toNat % 2 ^ RNG_ONU_EQD.w ∧
        (t.slot c i).rerangeTries = 0 ∧
        SameParts [.fresh, .irq, .cyc, .msi, .pch, .slots, .rng, .shd, .shu, .blt] s t ∧
        SameRegs boltReg [RNG_ONU c i, RNG_ONU c i + 4, DSF_STATUS c] s t) ∧
  (∀ (c : Fin 64) (i : Fin 256) (s : State),
      s.slotState c i = 3 →
      (s.slot c i).rerangeUt = false →
      2 ≤ (s.slot c i).rerangeTries →
      (∀ k : Fin 256, (s.slot c k).rerangeWait = false) →
      ∃ t, exec (.rerangeResult c i none) s = .next t ∧
        t.slotState c i = 4 ∧
        SameParts [.slots] s t ∧
        SameRegs noReg [RNG_ONU c i] s t) ∧
  (∀ (c : Fin 64) (i : Fin 256) (s : State),
      s.slotState c i = 3 →
      (s.slot c i).rerangeTries < 2 →
      ∃ t, exec (.rerangeResult c i none) s = .next t ∧
        t.slotState c i = 3 ∧
        (t.slot c i).rerangeTries = (s.slot c i).rerangeTries + 1 ∧
        SameParts [.fresh, .irq, .cyc, .msi, .pch, .slots, .rng, .shd, .shu, .blt] s t) ∧
  (∀ (c : Fin 64) (i : Fin 256) (a : Int) (k : Nat) (s : State),
      s.on (RNG_CTL c) RNG_CTL_TRACK_EN = true →
      s.slotState c i = 2 →
      k ≤ 80 →
      s.on (RNG_ONU c i) RNG_ONU_PENDING = false →
      a.natAbs ≤ 1024 →
      ((s.slot c i).avg + (a - (s.slot c i).avg) / ((2 : Nat) ^ (min (s.g (RNG_TRACK c) RNG_TRACK_SHIFT) 8) : Nat)).natAbs < 64 * (max 1 (min 32 (s.g (RNG_TRACK c) RNG_TRACK_THRESH))) →
      ((s.slot c i).avg + (a - (s.slot c i).avg) / ((2 : Nat) ^ (min (s.g (RNG_TRACK c) RNG_TRACK_SHIFT) 8) : Nat)).natAbs ≤ 3072 →
      ∃ t, exec (.driftTrackBurst c i a k) s = .next t ∧
        t.slot c i = { s.slot c i with avg := ((s.slot c i).avg + (a - (s.slot c i).avg) / ((2 : Nat) ^ (min (s.g (RNG_TRACK c) RNG_TRACK_SHIFT) 8) : Nat)) } ∧
        SameParts [.slots] s t ∧
        SameRegs noReg [] s t) ∧
  (∀ (c : Fin 64) (i : Fin 256) (a : Int) (k : Nat) (s : State),
      s.on (RNG_CTL c) RNG_CTL_TRACK_EN = true →
      s.slotState c i = 2 →
      k ≤ 80 →
      s.on (RNG_ONU c i) RNG_ONU_PENDING = false →
      a.natAbs ≤ 1024 →
      64 * (max 1 (min 32 (s.g (RNG_TRACK c) RNG_TRACK_THRESH))) ≤ ((s.slot c i).avg + (a - (s.slot c i).avg) / ((2 : Nat) ^ (min (s.g (RNG_TRACK c) RNG_TRACK_SHIFT) 8) : Nat)).natAbs →
      ((s.slot c i).avg + (a - (s.slot c i).avg) / ((2 : Nat) ^ (min (s.g (RNG_TRACK c) RNG_TRACK_SHIFT) 8) : Nat)).natAbs ≤ 3072 →
      ∃ t, exec (.driftTrackBurst c i a k) s = .next t ∧
        t.g (RNG_ONU c i) RNG_ONU_EQD = ((s.g (RNG_ONU c i) RNG_ONU_EQD : Int) - clampI 32 (bitsOf ((s.slot c i).avg + (a - (s.slot c i).avg) / ((2 : Nat) ^ (min (s.g (RNG_TRACK c) RNG_TRACK_SHIFT) 8) : Nat)))).toNat % 2 ^ RNG_ONU_EQD.w ∧
        t.on (RNG_ONU c i) RNG_ONU_PENDING = true ∧
        t.rd64 (RNG_CORRECTIONS c) = (s.rd64 (RNG_CORRECTIONS c) + 1) % 2 ^ 64 ∧
        SameParts [.irq, .cyc, .msi, .shu, .pch, .slots, .blt] s t ∧
        SameRegs irqReg [RNG_ONU c i, RNG_ONU c i + 4, DSF_STATUS c, RNG_CORRECTIONS c, RNG_CORRECTIONS c + 4] s t) ∧
  (∀ (c : Fin 64) (i : Fin 256) (a : Int) (k : Nat) (s : State),
      s.on (RNG_CTL c) RNG_CTL_TRACK_EN = true →
      s.slotState c i = 2 →
      k ≤ 80 →
      s.on (RNG_ONU c i) RNG_ONU_PENDING = true →
      (a - ((s.slot c i).avg - 64 * (s.slot c i).corr)).natAbs ≤ 64 →
      (s.slot c i).step = false →
      ∃ t, exec (.driftTrackBurst c i a k) s = .next t ∧
        t.on (RNG_ONU c i) RNG_ONU_PENDING = false ∧
        (t.slot c i).avg = (s.slot c i).avg - 64 * (s.slot c i).corr ∧
        SameParts [.slots] s t ∧
        SameRegs noReg [RNG_ONU c i] s t) ∧
  (∀ (c : Fin 64) (i : Fin 256) (s : State),
      s.on (RNG_ONU c i) RNG_ONU_PENDING = true →
      s.slotState c i = 2 →
      s.pendLate c i = true →
      (s.slot c i).resend < 3 →
      (s.pch.look c).ploamQ.length < 64 →
      ∃ t, exec (.driftPendTimeout c i) s = .next t ∧
        (t.slot c i).resend = (s.slot c i).resend + 1 ∧
        (t.pch.look c).ploamQ = (s.pch.look c).ploamQ ++ [.rangingTime i (s.g (RNG_ONU c i) RNG_ONU_EQD)] ∧
        SameParts [.pch, .slots] s t ∧
        SameRegs noReg [] s t) ∧
  (∀ (c : Fin 64) (i : Fin 256) (s : State),
      s.slotState c i = 2 →
      2 ≤ (s.slot c i).clean →
      s.on (PCH_EQ c i) PCH_EQ_STALE = false →
      s.on (PCH_BRX_CTL c) PCH_BRX_CTL_EQ_MEM_EN = true →
      ∃ t, exec (.profileRestore c i) s = .next t ∧
        t.g (RNG_ONU c i) RNG_ONU_PROF = 0 ∧
        SameParts [] s t ∧
        SameRegs noReg [RNG_ONU c i] s t) ∧
  (∀ (c : Fin 64) (i : Fin 256) (s : State),
      s.slotState c i = 4 →
      (s.pch.look c).ploamQ.length ≤ 61 →
      ∃ t, exec (.lostHoldExpiry c i) s = .next t ∧
        t.slotState c i = 0 ∧
        (t.pch.look c).ploamQ = (s.pch.look c).ploamQ ++ [.deactivate i, .deactivate i, .deactivate i] ∧
        t.slot c i = default ∧
        t.on (PCH_EQ c i) PCH_EQ_VALID = false ∧
        SameParts [.irq, .cyc, .msi, .pch, .slots, .rng, .shu, .blt] s t) ∧
  (∀ (c : Fin 64) (i : Fin 256) (s : State),
      s.on (PCH_ONU_DEF c i) PCH_ONU_DEF_DRIFT_LIVE = true →
      s.slotState c i = 2 →
      ∃ t, exec (.driftPersistTimeout c i) s = .next t ∧
        t.slotState c i = 3 ∧
        t.on (RNG_ONU c i) RNG_ONU_PENDING = false ∧
        t.rd64 (RNG_RERANGES c) = (s.rd64 (RNG_RERANGES c) + 1) % 2 ^ 64 ∧
        SameParts [.fresh, .pch, .rng, .shd, .slots, .irq, .cyc, .msi, .shu] s t)

/-- A locate starts on a channel with ROGUE_AUTO, none in progress and no quiet window booked or open, once ROGUE_SET events of energy
outside windows fall within a second: with slots in OPERATION it marks LOCATING and suspects exactly those; with none it notes
ROGUE_UNLOCATED and is over. A probe that still showed energy clears the probed of suspicion, one that showed none leaves them
alone suspected. A confirming probe of the last suspect without energy isolates it and ends the locate. -/
def Obligations.RogueLocate : Prop :=
  (∀ (c : Fin 64) (s : State),
      s.on (RNG_CTL c) RNG_CTL_ROGUE_AUTO = true →
      s.on (RNG_STATUS c) RNG_STATUS_LOCATING = false →
      (s.rng.look c).qwBooked = false →
      max (s.g (PCH_BRX_DEF_CTL c) PCH_BRX_DEF_CTL_ROGUE_SET) 1 ≤ ((s.rng.look c).oowAt.filter (fun x => decide (s.now - x < 1000000000))).length →
      ((List.range 256).filter (fun i => decide (s.slotState c i = 2))) = [] →
      (s.rng.look c).qwDue = false →
      ∃ t, exec (.rogueLocateStart c) s = .next t ∧
        t.on (RNG_STATUS c) RNG_STATUS_LOCATING = false ∧
        Noted s t (RNG_STATUS c) RNG_STATUS_ROGUE_UNLOCATED ∧
        SameParts [.irq, .cyc, .msi, .shu, .rng] s t ∧
        SameRegs irqReg [RNG_STATUS c] s t) ∧
  (∀ (c : Fin 64) (s : State),
      s.on (RNG_CTL c) RNG_CTL_ROGUE_AUTO = true →
      s.on (RNG_STATUS c) RNG_STATUS_LOCATING = false →
      (s.rng.look c).qwBooked = false →
      max (s.g (PCH_BRX_DEF_CTL c) PCH_BRX_DEF_CTL_ROGUE_SET) 1 ≤ ((s.rng.look c).oowAt.filter (fun x => decide (s.now - x < 1000000000))).length →
      ((List.range 256).filter (fun i => decide (s.slotState c i = 2))) ≠ [] →
      ∃ t, exec (.rogueLocateStart c) s = .next t ∧
        t.on (RNG_STATUS c) RNG_STATUS_LOCATING = true ∧
        (t.rng.look c).suspects = ((List.range 256).filter (fun i => decide (s.slotState c i = 2))) ∧
        (t.rng.look c).confirming = decide (((List.range 256).filter (fun i => decide (s.slotState c i = 2))).length = 1) ∧
        SameParts [.irq, .cyc, .msi, .shu, .pch, .rng] s t ∧
        SameRegs irqReg [RNG_STATUS c, DSF_STATUS c] s t) ∧
  (∀ (c : Fin 64) (i : Nat) (s : State),
      s.on (RNG_STATUS c) RNG_STATUS_LOCATING = true →
      (s.rng.look c).confirming = true →
      (s.rng.look c).suspects = [i] →
      i < 256 →
      (s.rng.look c).probeEnergy = false →
      (s.rng.look c).qwDue = false →
      ∃ t, exec (.rogueProbeEnd c) s = .next t ∧
        t.on (RNG_STATUS c) RNG_STATUS_LOCATING = false ∧
        t.slotState c i = 5 ∧
        t.rd64 (RNG_ROGUE_ISOLATED c) = (s.rd64 (RNG_ROGUE_ISOLATED c) + 1) % 2 ^ 64 ∧
        (t.rng.look c).suspects = [] ∧
        SameParts [.fresh, .irq, .cyc, .msi, .pch, .slots, .rng, .shd, .shu, .blt] s t) ∧
  (∀ (c : Fin 64) (s : State),
      s.on (RNG_STATUS c) RNG_STATUS_LOCATING = true →
      (s.rng.look c).confirming = false →
      ∃ t, exec (.rogueProbeEnd c) s = .next t ∧
        (t.rng.look c).suspects = (if (s.rng.look c).probeEnergy then (s.rng.look c).suspects.filter (fun i => !(s.rng.look c).probing.contains i) else (s.rng.look c).probing) ∧
        t.on (RNG_STATUS c) RNG_STATUS_LOCATING = true ∧
        SameParts [.fresh, .irq, .cyc, .msi, .pch, .slots, .rng, .shd, .shu, .blt] s t)

/-- A write of one word of an allocation entry that passes every check stands: the word takes its writable bits, GUAR_SUM loses what
the old entry guaranteed if it was VALID and gains what the new one does if it is, and no other register changes. One that fails a
check leaves the entry as it was, sets REFUSE_CODE to the first check that fails and notes ALLOC_REFUSED. On a channel that
protection holds a host's write is dropped and PROT_WR_DROP noted. A write of RESERVE and LIMIT stands while all reserves sum to
at most 4,096; else RESERVE stays, LIMIT is written and RESERVE_REFUSED is noted; a seal of the same cycle still uses the values
from before it. -/
def Obligations.AllocationAndLedgerWrites : Prop :=
  (∀ (ag : Agent) (c : Fin 64) (a : Fin 512) (i : Fin 4) (v : Word) (s : State),
      s.reaches ag (SHD_ALLOC c a + 4 * i.val) = true →
      ((s.pch.look c).protHeld && decide (agCode ag ≤ 1)) = false →
      s.allocCheck c a (fun k => (s.wrRW (SHD_ALLOC c a + 4 * i.val) v).rd (SHD_ALLOC c a + 4 * k)) = 0 →
      ∃ t, exec (.allocWrite ag c a i v) s = .next t ∧
        t.rd (SHD_ALLOC c a + 4 * i.val) = (s.wrRW (SHD_ALLOC c a + 4 * i.val) v).rd (SHD_ALLOC c a + 4 * i.val) ∧
        t.g (SHD_GUAR_SUM c) SHD_GUAR_SUM_GUAR_SUM = (s.g (SHD_GUAR_SUM c) SHD_GUAR_SUM_GUAR_SUM - (if s.on (SHD_ALLOC c a) SHD_ALLOC_VALID then s.guarOf c a else 0) + (if (s.wrRW (SHD_ALLOC c a + 4 * i.val) v).on (SHD_ALLOC c a) SHD_ALLOC_VALID then (s.wrRW (SHD_ALLOC c a + 4 * i.val) v).guarOf c a else 0)) % 2 ^ SHD_GUAR_SUM_GUAR_SUM.w ∧
        SameParts [.shd] s t ∧
        SameRegs noReg [(SHD_ALLOC c a + 4 * i.val), SHD_GUAR_SUM c + 4 * SHD_GUAR_SUM_GUAR_SUM.word] s t) ∧
  (∀ (ag : Agent) (c : Fin 64) (a : Fin 512) (i : Fin 4) (v : Word) (s : State),
      s.reaches ag (SHD_ALLOC c a + 4 * i.val) = true →
      ((s.pch.look c).protHeld && decide (agCode ag ≤ 1)) = false →
      s.allocCheck c a (fun k => (s.wrRW (SHD_ALLOC c a + 4 * i.val) v).rd (SHD_ALLOC c a + 4 * k)) ≠ 0 →
      ∃ t, exec (.allocWrite ag c a i v) s = .next t ∧
        t.g (SHD_STATUS c) SHD_STATUS_REFUSE_CODE = s.allocCheck c a (fun k => (s.wrRW (SHD_ALLOC c a + 4 * i.val) v).rd (SHD_ALLOC c a + 4 * k)) ∧
        Noted s t (SHD_STATUS c) SHD_STATUS_ALLOC_REFUSED ∧
        SameParts [.irq, .cyc, .msi, .shu] s t ∧
        SameRegs irqReg [SHD_STATUS c] s t) ∧
  (∀ (ag : Agent) (c : Fin 64) (a : Fin 512) (i : Fin 4) (v : Word) (s : State),
      s.reaches ag (SHD_ALLOC c a + 4 * i.val) = true →
      ((s.pch.look c).protHeld && decide (agCode ag ≤ 1)) = true →
      ∃ t, exec (.allocWrite ag c a i v) s = .next t ∧
        Noted s t SLV_PROT_STATUS SLV_PROT_STATUS_PROT_WR_DROP ∧
        SameParts [.irq, .cyc, .msi, .shu] s t ∧
        SameRegs irqReg [SLV_PROT_STATUS] s t) ∧
  (∀ (ag : Agent) (c : Fin 64) (v : Word) (s : State),
      s.reaches ag (SHD_LEDGER_CTL c) = true →
      ((s.pch.look c).protHeld && decide (agCode ag ≤ 1)) = false →
      ((List.range 64).map (fun k => (s.wrRW (SHD_LEDGER_CTL c) v).g (SHD_LEDGER_CTL k) SHD_LEDGER_CTL_RESERVE)).sum ≤ 4096 →
      ∃ t, exec (.ledgerCtlWrite ag c v) s = .next t ∧
        t.rd (SHD_LEDGER_CTL c) = (s.wrRW (SHD_LEDGER_CTL c) v).rd (SHD_LEDGER_CTL c) ∧
        (s.cyc.en.look (SHD_LEDGER_CTL c) = none → t.ledgerCtl c = s.rd (SHD_LEDGER_CTL c)) ∧
        SameParts [.cyc] s t ∧
        SameRegs noReg [SHD_LEDGER_CTL c] s t) ∧
  (∀ (ag : Agent) (c : Fin 64) (v : Word) (s : State),
      s.reaches ag (SHD_LEDGER_CTL c) = true →
      ((s.pch.look c).protHeld && decide (agCode ag ≤ 1)) = false →
      4096 < ((List.range 64).map (fun k => (s.wrRW (SHD_LEDGER_CTL c) v).g (SHD_LEDGER_CTL k) SHD_LEDGER_CTL_RESERVE)).sum →
      ∃ t, exec (.ledgerCtlWrite ag c v) s = .next t ∧
        t.g (SHD_LEDGER_CTL c) SHD_LEDGER_CTL_RESERVE = s.g (SHD_LEDGER_CTL c) SHD_LEDGER_CTL_RESERVE ∧
        t.g (SHD_LEDGER_CTL c) SHD_LEDGER_CTL_LIMIT = (s.wrRW (SHD_LEDGER_CTL c) v).g (SHD_LEDGER_CTL c) SHD_LEDGER_CTL_LIMIT ∧
        Noted s t (SHD_STATUS c) SHD_STATUS_RESERVE_REFUSED ∧
        (s.cyc.en.look (SHD_LEDGER_CTL c) = none → t.ledgerCtl c = s.rd (SHD_LEDGER_CTL c)) ∧
        SameParts [.irq, .cyc, .msi, .shu] s t ∧
        SameRegs irqReg [SHD_LEDGER_CTL c, SHD_STATUS c] s t)

/-- A close that names a FREE entry, another channel or another frame is refused as stale, one of an entry that is still OPEN as
early: each is counted with its event, the ledger stays as it was, and a refusal stands on the response port of the role's queue
port where the threading has one (its content is a free value). In the cycle in which the hardware has closed the entry, the close
is the one that counts and the forced close is taken back. A close of an entry whose outcome is fixed frees it and counts its
outcome, RECEIVED, ABSENT, ERRORED or DISCARDED, for its channel. An entry whose outcome was fixed 16 µs ago is closed by the
ledger hardware itself, which counts the outcome and a forced close; one whose deadline has not come is left. -/
def Obligations.LedgerEntriesClose : Prop :=
  (∀ (c : Fin 64) (i : Fin 4096) (f : Fin 262144) (s : State),
      (((s.ledger.look i).state = 0 ∧ s.cyc.forced.look i = false) ∨ (s.ledger.look i).channel ≠ c ∨ (s.ledger.look i).frame % 2 ^ 18 ≠ f) →
      ∃ t, exec (.ledgerClose c i f) s = .next t ∧
        t.rd64 (SHD_CLOSE_STALE c) = (s.rd64 (SHD_CLOSE_STALE c) + 1) % 2 ^ 64 ∧
        Noted s t (SHD_STATUS c) SHD_STATUS_CLOSE_STALE ∧
        (∀ a, ∀ b, s.drf.ports.find? (fun e => decide (e.2.bind = 3) && decide (e.2.index = c.val)) = some a → (s.drf.ports.look (portKey (a.1 / 512) (a.1 / 32 % 16) (a.1 % 32))).resp = some b → (t.shu.ports.look (portKey (a.1 / 512) (a.1 / 32 % 16) b)).length = (s.shu.ports.look (portKey (a.1 / 512) (a.1 / 32 % 16) b)).length + 1) ∧
        SameParts [.irq, .cyc, .msi, .shu, .fresh] s t ∧
        SameRegs irqReg [SHD_CLOSE_STALE c, SHD_CLOSE_STALE c + 4, SHD_STATUS c] s t) ∧
  (∀ (c : Fin 64) (i : Fin 4096) (f : Fin 262144) (s : State),
      (s.ledger.look i).state = 1 →
      (s.ledger.look i).channel = c →
      (s.ledger.look i).frame % 2 ^ 18 = f →
      ∃ t, exec (.ledgerClose c i f) s = .next t ∧
        t.rd64 (SHD_CLOSE_EARLY c) = (s.rd64 (SHD_CLOSE_EARLY c) + 1) % 2 ^ 64 ∧
        Noted s t (SHD_STATUS c) SHD_STATUS_CLOSE_EARLY ∧
        (∀ a, ∀ b, s.drf.ports.find? (fun e => decide (e.2.bind = 3) && decide (e.2.index = c.val)) = some a → (s.drf.ports.look (portKey (a.1 / 512) (a.1 / 32 % 16) (a.1 % 32))).resp = some b → (t.shu.ports.look (portKey (a.1 / 512) (a.1 / 32 % 16) b)).length = (s.shu.ports.look (portKey (a.1 / 512) (a.1 / 32 % 16) b)).length + 1) ∧
        SameParts [.irq, .cyc, .msi, .shu, .fresh] s t ∧
        SameRegs irqReg [SHD_CLOSE_EARLY c, SHD_CLOSE_EARLY c + 4, SHD_STATUS c] s t) ∧
  (∀ (c : Fin 64) (i : Fin 4096) (f : Fin 262144) (s : State),
      (s.ledger.look i).state = 2 →
      (s.ledger.look i).channel = c →
      (s.ledger.look i).frame % 2 ^ 18 = f →
      ∃ t, exec (.ledgerClose c i f) s = .next t ∧
        t.ledger.look i = { (s.ledger.look i) with state := 0 } ∧
        t.rd64 (lkey (outcomeCounter c (s.ledger.look i).outcome)) = (s.rd64 (lkey (outcomeCounter c (s.ledger.look i).outcome)) + 1) % 2 ^ 64 ∧
        SameParts [.fresh, .irq, .cyc, .msi, .pch, .ledger, .shu, .blt] s t) ∧
  (∀ (c : Fin 64) (i : Fin 4096) (f : Fin 262144) (s : State),
      (s.ledger.look i).state = 0 →
      s.cyc.forced.look i = true →
      (s.ledger.look i).channel = c →
      (s.ledger.look i).frame % 2 ^ 18 = f →
      ∃ t, exec (.ledgerClose c i f) s = .next t ∧
        t.ledger = s.ledger ∧
        t.cyc.forced.look i = false ∧
        t.rd64 (lkey (SHD_LEDGER_FORCED_CLOSE c)) = (s.rd64 (lkey (SHD_LEDGER_FORCED_CLOSE c)) - 1) % 2 ^ 64 ∧
        SameParts [.fresh, .irq, .cyc, .msi, .pch, .ledger, .shu, .blt] s t) ∧
  (∀ (i : Fin 4096) (s : State),
      (s.ledger.look i).state = 2 →
      (s.ledger.look i).channel < 64 →
      (s.ledger.look i).deadline ≤ s.now →
      ∃ t, exec (.ledgerForcedClose i) s = .next t ∧
        t.ledger.look i = { (s.ledger.look i) with state := 0 } ∧
        t.rd64 (lkey (outcomeCounter (s.ledger.look i).channel (s.ledger.look i).outcome)) = (s.rd64 (lkey (outcomeCounter (s.ledger.look i).channel (s.ledger.look i).outcome)) + 1) % 2 ^ 64 ∧
        t.rd64 (lkey (SHD_LEDGER_FORCED_CLOSE (s.ledger.look i).channel)) = (s.rd64 (lkey (SHD_LEDGER_FORCED_CLOSE (s.ledger.look i).channel)) + 1) % 2 ^ 64 ∧
        SameParts [.irq, .cyc, .msi, .ledger, .shu, .blt] s t) ∧
  (∀ (i : Fin 4096) (s : State),
      ((s.ledger.look i).state ≠ 2 ∨ s.now < (s.ledger.look i).deadline) →
      ∃ t, exec (.ledgerForcedClose i) s = .next t ∧
        SameParts [] s t ∧
        SameRegs noReg [] s t)

/-- The shed takes the entry at the head of its queue. One that names an allocation not VALID, or with another Alloc-ID, counts
STALE_INPUT and does no more; a REPORT of a valid one replaces its occupancy and report frame, and before the final sweep of the
first open frame grants nothing. Of a slice that is due, the one after which the next would come later than the cutoff and 4,200
ns before the seal makes the final sweep: it marks a set-up frame final; in the safe state the sweep writes no grant; a sweep that
is not due, or has run, changes nothing. A frame without its final sweep at its cutoff is marked as overrun and counted with its
event. -/
def Obligations.TheShedReadsAndSweeps : Prop :=
  (∀ (c : Fin 64) (e : InEntry) (rest : List InEntry) (s : State),
      s.sliceHere c = none →
      (s.shd.look c).inq = e :: rest →
      bget e.w0 16 1 = 0 →
      (s.on (SHD_ALLOC c (bget e.w0 17 9)) SHD_ALLOC_VALID = false ∨ s.g (SHD_ALLOC c (bget e.w0 17 9)) SHD_ALLOC_ALLOC_ID ≠ bget e.w0 0 14) →
      ∃ t, exec (.shedInputEntry c) s = .next t ∧
        (t.shd.look c).inq = rest ∧
        t.rd64 (SHD_STALE_INPUT c) = (s.rd64 (SHD_STALE_INPUT c) + 1) % 2 ^ 64 ∧
        (t.shd.look c).allocs = (s.shd.look c).allocs ∧
        SameParts [.shd] s t ∧
        SameRegs noReg [SHD_INQ_STATUS c, SHD_STALE_INPUT c, SHD_STALE_INPUT c + 4] s t) ∧
  (∀ (c : Fin 64) (e : InEntry) (rest : List InEntry) (s : State),
      s.sliceHere c = none →
      (s.shd.look c).inq = e :: rest →
      bget e.w0 16 1 = 0 →
      bget e.w0 29 3 = 0 →
      s.on (SHD_ALLOC c (bget e.w0 17 9)) SHD_ALLOC_VALID = true →
      s.g (SHD_ALLOC c (bget e.w0 17 9)) SHD_ALLOC_ALLOC_ID = bget e.w0 0 14 →
      (s.placing c (s.pch.look c).openLo).finalDone = false →
      ∃ t, exec (.shedInputEntry c) s = .next t ∧
        (t.shd.look c).inq = rest ∧
        (t.alst c (bget e.w0 17 9)).occ = bget e.w2 0 24 * (unitBits (s.pch.look c).mode / 8) ∧
        (t.alst c (bget e.w0 17 9)).rf = (s.fullFrame c e.w1).toNat ∧
        SameParts [.shd] s t ∧
        SameRegs noReg [SHD_INQ_STATUS c] s t) ∧
  (∀ (c : Fin 64) (s : State),
      s.sliceHere c = none →
      (s.shd.look c).inq = [] →
      ∃ t, exec (.shedInputEntry c) s = .next t ∧
        SameParts [] s t ∧
        SameRegs noReg [] s t) ∧
  (∀ (c : Fin 64) (k : Fin 16) (s : State),
      s.sliceDue c k = true →
      s.safe = false →
      (s.placing c (s.pch.look c).openLo).setUp = true →
      (s.placing c ((s.pch.look c).openLo + 1)).setUp = true →
      (s.placing c (s.pch.look c).openLo).overrun = false →
      (s.placing c (s.pch.look c).openLo).finalDone = false →
      s.sliceAt8 c k ≤ (s.seal8 c (s.pch.look c).openLo - (8 * ((s.pch.look c).cutNext + 4200) : Nat)) →
      (s.seal8 c (s.pch.look c).openLo - (8 * ((s.pch.look c).cutNext + 4200) : Nat)) < s.sliceAt8 c (k + 1) →
      ∃ t, exec (.sliceSweep c k) s = .next t ∧
        (t.placing c (s.pch.look c).openLo).finalDone = true ∧
        (t.shd.look c).sliceNext = 16 * s.rd64 (DSF_SFC c) + k + 1 ∧
        SameParts [.fresh, .irq, .cyc, .msi, .pch, .shd, .shu] s t) ∧
  (∀ (c : Fin 64) (k : Fin 16) (s : State),
      s.sliceDue c k = true →
      s.safe = true →
      ∃ t, exec (.sliceSweep c k) s = .next t ∧
        t.pch = s.pch ∧
        (t.shd.look c).sliceNext = 16 * s.rd64 (DSF_SFC c) + k + 1 ∧
        SameParts [.fresh, .irq, .cyc, .msi, .pch, .shd, .shu] s t) ∧
  (∀ (c : Fin 64) (k : Fin 16) (s : State),
      s.sliceDue c k = false →
      ∃ t, exec (.sliceSweep c k) s = .next t ∧
        SameParts [] s t ∧
        SameRegs noReg [] s t) ∧
  (∀ (c : Fin 64) (s : State),
      s.chState c = 2 →
      (s.pch.look c).running = true →
      (s.placing c (s.pch.look c).openLo).overrun = false →
      (s.placing c (s.pch.look c).openLo).finalDone = false →
      s.seal8 c (s.pch.look c).openLo ≤ ((8 * (s.now + (s.pch.look c).cutNext) + 7 : Nat) : Int) →
      ∃ t, exec (.sweepOverrun c) s = .next t ∧
        (t.placing c (s.pch.look c).openLo).overrun = true ∧
        t.rd64 (SHD_SWEEP_OVERRUN c) = (s.rd64 (SHD_SWEEP_OVERRUN c) + 1) % 2 ^ 64 ∧
        Noted s t (SHD_POL_STATUS c) SHD_POL_STATUS_SWEEP_OVERRUN ∧
        SameParts [.irq, .cyc, .msi, .shu, .shd] s t ∧
        SameRegs irqReg [SHD_SWEEP_OVERRUN c, SHD_SWEEP_OVERRUN c + 4, SHD_POL_STATUS c] s t) ∧
  (∀ (c : Fin 64) (s : State),
      ((s.placing c (s.pch.look c).openLo).finalDone = true ∨ ((8 * (s.now + (s.pch.look c).cutNext) + 7 : Nat) : Int) < s.seal8 c (s.pch.look c).openLo) →
      ∃ t, exec (.sweepOverrun c) s = .next t ∧
        SameParts [] s t ∧
        SameRegs noReg [] s t)

/-- A PDU that the hint path takes from an uplink lane counts HINT_BAD where its version, count, length or source is wrong,
HINT_REPLAY where its sequence number is not newer than its source's, and nothing else; else HINT_PDUS, and its sequence number is
the source's last. A submitted record of an allocation with hints enabled counts HINTS_REFUSED while the channel's HINT_EN is 0; a
cancelling one on an aligned channel removes exactly the hints of its Alloc-ID and tag and counts HINTS_ACCEPTED. -/
def Obligations.HintsAreChecked : Prop :=
  (∀ (l : Fin 32) (et : BitVec 16) (b : List Byte) (s : State),
      s.hintTaken l et.toNat = true →
      (beNat (b.take 1) ≠ 1 ∨ beNat ((b.drop 2).take 2) = 0 ∨ 32 < beNat ((b.drop 2).take 2) ∨ b.length < 12 + 32 * beNat ((b.drop 2).take 2) ∨ bit (s.rd (CLS_HINT_SRC (beNat ((b.drop 8).take 1) / 32))).toNat (beNat ((b.drop 8).take 1) % 32) = false) →
      ∃ t, exec (.hintPdu l et b) s = .next t ∧
        t.rd64 (CLS_HINT_BAD) = (s.rd64 (CLS_HINT_BAD) + 1) % 2 ^ 64 ∧
        SameParts [] s t ∧
        SameRegs noReg [CLS_HINT_BAD, CLS_HINT_BAD + 4] s t) ∧
  (∀ (l : Fin 32) (et : BitVec 16) (b : List Byte) (q : Word) (s : State),
      s.hintTaken l et.toNat = true →
      ¬ (beNat (b.take 1) ≠ 1 ∨ beNat ((b.drop 2).take 2) = 0 ∨ 32 < beNat ((b.drop 2).take 2) ∨ b.length < 12 + 32 * beNat ((b.drop 2).take 2) ∨ bit (s.rd (CLS_HINT_SRC (beNat ((b.drop 8).take 1) / 32))).toNat (beNat ((b.drop 8).take 1) % 32) = false) →
      s.cls.hintSeq.look (beNat ((b.drop 8).take 1)) = some q →
      (beWord b 4 = q ∨ 2 ^ 31 ≤ (beWord b 4 - q).toNat) →
      ∃ t, exec (.hintPdu l et b) s = .next t ∧
        t.rd64 (CLS_HINT_REPLAY) = (s.rd64 (CLS_HINT_REPLAY) + 1) % 2 ^ 64 ∧
        SameParts [] s t ∧
        SameRegs noReg [CLS_HINT_REPLAY, CLS_HINT_REPLAY + 4] s t) ∧
  (∀ (l : Fin 32) (et : BitVec 16) (b : List Byte) (s : State),
      s.hintTaken l et.toNat = true →
      ¬ (beNat (b.take 1) ≠ 1 ∨ beNat ((b.drop 2).take 2) = 0 ∨ 32 < beNat ((b.drop 2).take 2) ∨ b.length < 12 + 32 * beNat ((b.drop 2).take 2) ∨ bit (s.rd (CLS_HINT_SRC (beNat ((b.drop 8).take 1) / 32))).toNat (beNat ((b.drop 8).take 1) % 32) = false) →
      s.cls.hintSeq.look (beNat ((b.drop 8).take 1)) = none →
      ∃ t, exec (.hintPdu l et b) s = .next t ∧
        t.rd64 (CLS_HINT_PDUS) = (s.rd64 (CLS_HINT_PDUS) + 1) % 2 ^ 64 ∧
        t.cls.hintSeq.look (beNat ((b.drop 8).take 1)) = some (beWord b 4) ∧
        SameParts [.irq, .cyc, .msi, .shd, .shu, .cls] s t) ∧
  (∀ (ag : Agent) (c : Fin 64) (v : Word) (s : State),
      s.reaches ag (SHD_HINT_IN c 7) = true →
      (findFrom (fun a => s.on (SHD_ALLOC c a) SHD_ALLOC_VALID && decide (s.g (SHD_ALLOC c a) SHD_ALLOC_ALLOC_ID = bget ((fun k : Nat => (s.wr (akey (agCode ag) (SHD_HINT_IN c 7)) v).rd (akey (agCode ag) (SHD_HINT_IN c k))) 0) 0 14) && s.on (SHD_ALLOC_POL c a) SHD_ALLOC_POL_HINT_EN) 512 0).isSome = true →
      s.on (SHD_HINT_CTL c) SHD_HINT_CTL_HINT_EN = false →
      ∃ t, exec (.hintRecordSubmit ag c v) s = .next t ∧
        t.rd64 (SHD_HINTS_REFUSED c) = (s.rd64 (SHD_HINTS_REFUSED c) + 1) % 2 ^ 64 ∧
        SameParts [] s t ∧
        SameRegs noReg [SHD_HINTS_REFUSED c, SHD_HINTS_REFUSED c + 4, akey (agCode ag) (SHD_HINT_IN c 7)] s t) ∧
  (∀ (ag : Agent) (c : Fin 64) (v : Word) (s : State),
      s.reaches ag (SHD_HINT_IN c 7) = true →
      (findFrom (fun a => s.on (SHD_ALLOC c a) SHD_ALLOC_VALID && decide (s.g (SHD_ALLOC c a) SHD_ALLOC_ALLOC_ID = bget ((fun k : Nat => (s.wr (akey (agCode ag) (SHD_HINT_IN c 7)) v).rd (akey (agCode ag) (SHD_HINT_IN c k))) 0) 0 14) && s.on (SHD_ALLOC_POL c a) SHD_ALLOC_POL_HINT_EN) 512 0).isSome = true →
      s.on (SHD_HINT_CTL c) SHD_HINT_CTL_HINT_EN = true →
      s.on (DSF_STATUS c) DSF_STATUS_ALIGNED = true →
      bget ((fun k : Nat => (s.wr (akey (agCode ag) (SHD_HINT_IN c 7)) v).rd (akey (agCode ag) (SHD_HINT_IN c k))) 0) 16 1 = 1 →
      ∃ t, exec (.hintRecordSubmit ag c v) s = .next t ∧
        t.rd64 (SHD_HINTS_ACCEPTED c) = (s.rd64 (SHD_HINTS_ACCEPTED c) + 1) % 2 ^ 64 ∧
        (t.shd.look c).hints = (s.shd.look c).hints.filter (fun h => !(decide (h.allocId = bget ((fun k : Nat => (s.wr (akey (agCode ag) (SHD_HINT_IN c 7)) v).rd (akey (agCode ag) (SHD_HINT_IN c k))) 0) 0 14) && decide (h.tag = bget ((fun k : Nat => (s.wr (akey (agCode ag) (SHD_HINT_IN c 7)) v).rd (akey (agCode ag) (SHD_HINT_IN c k))) 6) 0 16))) ∧
        SameParts [.shd] s t ∧
        SameRegs noReg [SHD_HINTS_ACCEPTED c, SHD_HINTS_ACCEPTED c + 4, akey (agCode ag) (SHD_HINT_IN c 7)] s t)

/-- A burst, grant or summary record (classes 2 to 4) with a token of its class, DDR-5 up and room within its rank joins the write
queue in its class's length, and PRODUCED and STORED count it; so does an alarm or event record (classes 0 and 1), which takes the
next sequence number of its class. A record without a token: PRODUCED and DROPPED count it and the queue stays, stated where its
class has dropped before in that second; the first drop of a second also produces an alarm and notes DROP. An alarm without a
token is counted COALESCED and STORED. A trace record while TRACE_EN is 0 changes nothing. A coalescing entry whose COAL_MS are
over and that no alarm of this moment joined leaves, with room in the queue of DDR-5, as one record and is empty; before that time
it stays. The alarm SRAM goes in front of the queue and is empty. With the SRAM empty and the Bolt writing, a record of a ring
that the draft does not place is counted LOST as it leaves the queue (assumption 37), a PM record is written at its bin where that
is in no hole, and another one at the first byte of its segment that is in no hole, where the segment does not fill: exactly its
bytes of DDR-5 change, and the ring's count advances. With BLT_CTL.EN 0 the queue waits. -/
def Obligations.RecordsEnterTheBolt : Prop :=
  (∀ (k : Fin 7) (r : List Word) (s : State),
      (k.val = 2 ∨ k.val = 3 ∨ k.val = 4) →
      (s.fillTokens k).g (BLT_CLASS k) BLT_CLASS_TOKENS ≠ 0 →
      s.ddrUp = true →
      s.boltFill < rankLimit k →
      ∃ t, exec (.boltRecord k r) s = .next t ∧
        t.rd64 (lkey (BLT_AUD_PRODUCED k)) = (s.rd64 (lkey (BLT_AUD_PRODUCED k)) + 1) % 2 ^ 64 ∧
        t.rd64 (lkey (BLT_AUD_STORED k)) = (s.rd64 (lkey (BLT_AUD_STORED k)) + 1) % 2 ^ 64 ∧
        t.blt.queue = s.blt.queue ++ [(k.val, none, fitRec k r)] ∧
        t.g (BLT_CLASS k) BLT_CLASS_TOKENS = (s.fillTokens k).g (BLT_CLASS k) BLT_CLASS_TOKENS - 1 ∧
        SameParts [.blt] s t ∧
        SameRegs boltReg [] s t) ∧
  (∀ (k : Fin 7) (r : List Word) (s : State),
      k.val ≤ 1 →
      (s.fillTokens k).g (BLT_CLASS k) BLT_CLASS_TOKENS ≠ 0 →
      s.ddrUp = true →
      s.boltFill < rankLimit k →
      (∀ i : Fin 8, s.on (BLT_TRIG i) BLT_TRIG_EN = false) →
      ∃ t, exec (.boltRecord k r) s = .next t ∧
        t.rd64 (lkey (BLT_AUD_PRODUCED k)) = (s.rd64 (lkey (BLT_AUD_PRODUCED k)) + 1) % 2 ^ 64 ∧
        t.rd64 (lkey (BLT_AUD_STORED k)) = (s.rd64 (lkey (BLT_AUD_STORED k)) + 1) % 2 ^ 64 ∧
        t.blt.queue = s.blt.queue ++ [(k.val, none, (fitRec k r).set 6 (word (s.blt.seq.look k)))] ∧
        t.blt.seq.look k = (s.blt.seq.look k + 1) % 2 ^ 32 ∧
        SameParts [.blt] s t ∧
        SameRegs boltReg [] s t) ∧
  (∀ (k : Fin 7) (r : List Word) (s : State),
      k.val = 0 →
      (s.fillTokens k).g (BLT_CLASS k) BLT_CLASS_TOKENS = 0 →
      ∃ t, exec (.boltRecord k r) s = .next t ∧
        t.rd64 (lkey (BLT_AUD_PRODUCED k)) = (s.rd64 (lkey (BLT_AUD_PRODUCED k)) + 1) % 2 ^ 64 ∧
        t.rd64 (lkey (BLT_AUD_STORED k)) = (s.rd64 (lkey (BLT_AUD_STORED k)) + 1) % 2 ^ 64 ∧
        t.rd64 (lkey (BLT_AUD_COALESCED k)) = (s.rd64 (lkey (BLT_AUD_COALESCED k)) + 1) % 2 ^ 64 ∧
        t.blt.queue = s.blt.queue ∧
        SameParts [.irq, .cyc, .msi, .shu, .blt] s t ∧
        SameRegs boltReg [] s t) ∧
  (∀ (k : Fin 7) (r : List Word) (s : State),
      (k.val = 2 ∨ k.val = 3 ∨ k.val = 4) →
      (s.fillTokens k).g (BLT_CLASS k) BLT_CLASS_TOKENS = 0 →
      s.blt.dropSec.look k = s.tim.sec + 1 →
      ∃ t, exec (.boltRecord k r) s = .next t ∧
        t.rd64 (lkey (BLT_AUD_PRODUCED k)) = (s.rd64 (lkey (BLT_AUD_PRODUCED k)) + 1) % 2 ^ 64 ∧
        t.rd64 (lkey (BLT_AUD_DROPPED k)) = (s.rd64 (lkey (BLT_AUD_DROPPED k)) + 1) % 2 ^ 64 ∧
        t.blt.queue = s.blt.queue ∧
        SameParts [.irq, .cyc, .msi, .shu, .blt] s t ∧
        SameRegs boltReg [] s t) ∧
  (∀ (k : Fin 7) (r : List Word) (s : State),
      (k.val = 2 ∨ k.val = 3 ∨ k.val = 4) →
      (s.fillTokens k).g (BLT_CLASS k) BLT_CLASS_TOKENS = 0 →
      s.blt.dropSec.look k ≠ s.tim.sec + 1 →
      ∃ t, exec (.boltRecord k r) s = .next t ∧
        t.rd64 (lkey (BLT_AUD_PRODUCED k)) = (s.rd64 (lkey (BLT_AUD_PRODUCED k)) + 1) % 2 ^ 64 ∧
        t.rd64 (lkey (BLT_AUD_DROPPED k)) = (s.rd64 (lkey (BLT_AUD_DROPPED k)) + 1) % 2 ^ 64 ∧
        t.rd64 (lkey (BLT_AUD_PRODUCED 0)) = (s.rd64 (lkey (BLT_AUD_PRODUCED 0)) + 1) % 2 ^ 64 ∧
        t.blt.dropSec.look k = s.tim.sec + 1 ∧
        Noted s t BLT_STATUS BLT_STATUS_DROP ∧
        SameParts [.fresh, .irq, .cyc, .msi, .shu, .blt] s t ∧
        SameRegs boltReg [] s t) ∧
  (∀ (k : Fin 7) (r : List Word) (s : State),
      k.val = 5 →
      s.on BLT_CTL BLT_CTL_TRACE_EN = false →
      ∃ t, exec (.boltRecord k r) s = .next t ∧
        SameParts [] s t ∧
        SameRegs noReg [] s t) ∧
  (∀ (k : Fin 256) (e : Coal) (s : State),
      s.blt.coal.look k = some e →
      e.cyc ≠ s.now →
      e.at_ + max (s.g BLT_CTL BLT_CTL_COAL_MS) 1 * 1000000 ≤ s.now →
      s.ddrUp = true →
      s.boltFill < rankLimit 0 →
      (∀ i : Fin 8, s.on (BLT_TRIG i) BLT_TRIG_EN = false) →
      ∃ t, exec (.coalFlush k) s = .next t ∧
        t.blt.coal.look k = none ∧
        t.blt.queue = s.blt.queue ++ [(0, none, e.record.set 6 (word (s.blt.seq.look 0)))] ∧
        t.blt.seq.look 0 = (s.blt.seq.look 0 + 1) % 2 ^ 32 ∧
        SameParts [.blt] s t ∧
        SameRegs noReg [BLT_QUEUE] s t) ∧
  (∀ (k : Fin 256) (e : Coal) (s : State),
      s.blt.coal.look k = some e →
      s.now < e.at_ + max (s.g BLT_CTL BLT_CTL_COAL_MS) 1 * 1000000 →
      ∃ t, exec (.coalFlush k) s = .next t ∧
        SameParts [] s t ∧
        SameRegs noReg [] s t) ∧
  (∀ (s : State),
      s.ddrUp = true →
      ∃ t, exec (.alarmSramCopy) s = .next t ∧
        t.blt.queue = s.blt.sram.map (fun r => (0, none, r)) ++ s.blt.queue ∧
        t.blt.sram = [] ∧
        SameParts [.blt] s t ∧
        SameRegs noReg [BLT_QUEUE] s t) ∧
  (∀ (k : Nat) (pm : Option Nat) (r : List Word) (rest : List (Nat × Option Nat × List Word)) (s : State),
      s.blt.queue = (k, pm, r) :: rest →
      s.blt.sram = [] →
      s.ddrUp = true →
      s.on BLT_CTL BLT_CTL_EN = true →
      s.g (BLT_RING (ringOf k)) BLT_RING_SIZE = 0 →
      ∃ t, exec (.boltRecordWritten) s = .next t ∧
        t.blt.queue = rest ∧
        t.rd64 (lkey (BLT_AUD_LOST k)) = (s.rd64 (lkey (BLT_AUD_LOST k)) + 1) % 2 ^ 64 ∧
        SameParts [.irq, .cyc, .msi, .shu, .blt] s t ∧
        SameRegs boltReg [] s t) ∧
  (∀ (k : Nat) (a : Nat) (r : List Word) (rest : List (Nat × Option Nat × List Word)) (s : State),
      s.blt.queue = (k, some a, r) :: rest →
      s.blt.sram = [] →
      s.ddrUp = true →
      s.on BLT_CTL BLT_CTL_EN = true →
      s.isHole ((s.rd64 (BLT_RING (ringOf k))) + a) = false →
      s.g (BLT_RING (ringOf k)) BLT_RING_SIZE ≠ 0 →
      ∃ t, exec (.boltRecordWritten) s = .next t ∧
        t.blt.queue = rest ∧
        t.rd64 (BLT_RING (ringOf k) + 12) = (s.rd64 (BLT_RING (ringOf k) + 12) + 1) % 2 ^ 64 ∧
        t.ddrRds ((s.rd64 (BLT_RING (ringOf k))) + a) (r.flatMap wordBytes).length = (r.flatMap wordBytes) ∧
        (∀ b, (b < (s.rd64 (BLT_RING (ringOf k))) + a ∨ (s.rd64 (BLT_RING (ringOf k))) + a + (r.flatMap wordBytes).length ≤ b) → t.ddrRd b = s.ddrRd b) ∧
        SameParts [.ddr, .blt] s t ∧
        SameRegs noReg [BLT_RING (ringOf k) + 12, BLT_RING (ringOf k) + 16] s t) ∧
  (∀ (k : Nat) (o : Nat) (r : List Word) (rest : List (Nat × Option Nat × List Word)) (s : State),
      s.blt.queue = (k, none, r) :: rest →
      s.blt.sram = [] →
      s.ddrUp = true →
      s.on BLT_CTL BLT_CTL_EN = true →
      s.g (BLT_RING (ringOf k)) BLT_RING_SIZE ≠ 0 →
      s.skipHoles ((s.rd64 (BLT_RING (ringOf k))) + s.g (BLT_RING (ringOf k)) BLT_RING_FILLING * 67108864) 16384 (s.blt.segFill.look (ringOf k)) = o →
      o + recBytes k < 67108864 →
      ∃ t, exec (.boltRecordWritten) s = .next t ∧
        t.blt.queue = rest ∧
        t.rd64 (BLT_RING (ringOf k) + 12) = (s.rd64 (BLT_RING (ringOf k) + 12) + 1) % 2 ^ 64 ∧
        t.blt.segFill.look (ringOf k) = o + recBytes k ∧
        t.ddrRds (((s.rd64 (BLT_RING (ringOf k))) + s.g (BLT_RING (ringOf k)) BLT_RING_FILLING * 67108864) + o) (r.flatMap wordBytes).length = (r.flatMap wordBytes) ∧
        (∀ b, (b < ((s.rd64 (BLT_RING (ringOf k))) + s.g (BLT_RING (ringOf k)) BLT_RING_FILLING * 67108864) + o ∨ ((s.rd64 (BLT_RING (ringOf k))) + s.g (BLT_RING (ringOf k)) BLT_RING_FILLING * 67108864) + o + (r.flatMap wordBytes).length ≤ b) → t.ddrRd b = s.ddrRd b) ∧
        SameParts [.ddr, .blt] s t ∧
        SameRegs boltReg [] s t) ∧
  (∀ (s : State),
      s.blt.sram = [] →
      s.on BLT_CTL BLT_CTL_EN = false →
      ∃ t, exec (.boltRecordWritten) s = .next t ∧
        SameParts [] s t ∧
        SameRegs noReg [] s t)

/-- A freeze command asks for a freeze of the rings it names now, pending until the cycle ends. A freeze that is served and joins no
cut takes the lowest FREE one: it is FILLING with its cause and time and completes POST_S later; with none free CUT_REFUSED counts
and notes it, and an alarm is produced. A trigger whose own cut is still FILLING joins that, whose end moves out, to at most 600 s
after its time. A release of a cut in use frees it and its frozen segments; a release of a free one changes nothing but the
command's register. A FILLING cut whose time after the trigger is over becomes FROZEN with its event. Each second queues one
condensing item for every threaded channel; a condensing shuttle takes the item at the head of the queue, and the sums of every
slot it covers start again; items still waiting when the summary is late note SUMMARY_LATE. -/
def Obligations.CutsFreezeAndRelease : Prop :=
  (∀ (ag : Agent) (v : Word) (s : State),
      s.reaches ag BLT_CUT_CMD = true →
      v.getLsbD 31 = true →
      (s.wrRW BLT_CUT_CMD v).g BLT_CUT_CMD BLT_CUT_CMD_OP = 1 →
      ∃ t, exec (.cutFreeze ag v) s = .next t ∧
        t.cyc = { s.cyc with freezes := frzIns ⟨8, 0, (s.wrRW BLT_CUT_CMD v).g BLT_CUT_CMD BLT_CUT_CMD_RINGS, s.t64⟩ s.cyc.freezes } ∧
        t.on BLT_CUT_CMD BLT_CUT_CMD_GO = true ∧
        SameParts [.cyc] s t ∧
        SameRegs noReg [BLT_CUT_CMD] s t) ∧
  (∀ (e : Frz) (j : Nat) (s : State), s.joins e = none → findFrom (fun k => decide (s.g (BLT_CUT k) BLT_CUT_STATE = 0)) 8 0 = some j →
      e.cause < 32 → e.code < 256 → e.t < 2 ^ 64 →
      (s.serveFreeze e).g (BLT_CUT j) BLT_CUT_STATE = 1 ∧ (s.serveFreeze e).g (BLT_CUT j) BLT_CUT_CAUSE = e.cause ∧
        (s.serveFreeze e).rd64 (BLT_CUT j + 4) = e.t ∧
        (s.serveFreeze e).blt.cutEnd.look j = e.t + s.g BLT_CUT_DEF BLT_CUT_DEF_POST_S * 1000000000 ∧
        SameParts [.blt] s (s.serveFreeze e) ∧ SameRegs boltReg [] s (s.serveFreeze e)) ∧
  (∀ (e : Frz) (s : State), s.joins e = none → findFrom (fun k => decide (s.g (BLT_CUT k) BLT_CUT_STATE = 0)) 8 0 = none →
      (s.serveFreeze e).rd64 BLT_CUT_REFUSED = (s.rd64 BLT_CUT_REFUSED + 1) % 2 ^ 64 ∧
        (s.serveFreeze e).rd64 (lkey (BLT_AUD_PRODUCED 0)) = (s.rd64 (lkey (BLT_AUD_PRODUCED 0)) + 1) % 2 ^ 64 ∧
        Noted s (s.serveFreeze e) BLT_STATUS BLT_STATUS_CUT_REFUSED ∧
        (∀ k : Fin 8, (s.serveFreeze e).rd (BLT_CUT k) = s.rd (BLT_CUT k)) ∧ SameRegs boltReg [] s (s.serveFreeze e)) ∧
  (∀ (e : Frz) (j : Nat) (s : State), s.joins e = some j →
      (s.serveFreeze e).rd64 BLT_CUT_JOINED = (s.rd64 BLT_CUT_JOINED + 1) % 2 ^ 64 ∧
        (s.serveFreeze e).blt.cutEnd.look j =
          min (e.t + s.g BLT_CUT_DEF BLT_CUT_DEF_POST_S * 1000000000) (s.blt.cutT.look j + 600000000000) ∧
        SameParts [.blt] s (s.serveFreeze e) ∧ SameRegs noReg [BLT_CUT_JOINED, BLT_CUT_JOINED + 4] s (s.serveFreeze e)) ∧
  (∀ (ag : Agent) (v : Word) (j : Nat) (s : State),
      s.reaches ag BLT_CUT_CMD = true →
      v.getLsbD 31 = true →
      (s.wrRW BLT_CUT_CMD v).g BLT_CUT_CMD BLT_CUT_CMD_OP = 2 →
      (s.wrRW BLT_CUT_CMD v).g BLT_CUT_CMD BLT_CUT_CMD_CUT = j →
      j < 8 →
      s.g (BLT_CUT j) BLT_CUT_STATE ≠ 0 →
      ∃ t, exec (.cutRelease ag v) s = .next t ∧
        t.g (BLT_CUT j) BLT_CUT_STATE = 0 ∧
        (∀ q : Fin 65536, s.g (BLT_SEG q) BLT_SEG_STATE = 3 → s.g (BLT_SEG q) BLT_SEG_CUT = j → t.g (BLT_SEG q) BLT_SEG_STATE = 0) ∧
        SameParts [.irq, .cyc, .msi, .shu, .blt] s t ∧
        SameRegs boltReg [] s t) ∧
  (∀ (ag : Agent) (v : Word) (j : Nat) (s : State),
      s.reaches ag BLT_CUT_CMD = true →
      v.getLsbD 31 = true →
      (s.wrRW BLT_CUT_CMD v).g BLT_CUT_CMD BLT_CUT_CMD_OP = 2 →
      (s.wrRW BLT_CUT_CMD v).g BLT_CUT_CMD BLT_CUT_CMD_CUT = j →
      s.g (BLT_CUT j) BLT_CUT_STATE = 0 →
      ∃ t, exec (.cutRelease ag v) s = .next t ∧
        SameParts [] s t ∧
        SameRegs noReg [BLT_CUT_CMD] s t) ∧
  (∀ (j : Fin 8) (s : State),
      s.g (BLT_CUT j) BLT_CUT_STATE = 1 →
      s.blt.cutEnd.look j ≤ s.t64 →
      ∃ t, exec (.cutPostEnd j) s = .next t ∧
        t.g (BLT_CUT j) BLT_CUT_STATE = 2 ∧
        Noted s t BLT_STATUS BLT_STATUS_CUT_FROZEN ∧
        SameParts [.irq, .cyc, .msi, .shu, .blt] s t ∧
        SameRegs boltReg [] s t) ∧
  (∀ (s : State),
      ∃ t, exec (.summarySecond) s = .next t ∧
        t.shu.work.look 2 = s.shu.work.look 2 ++ ((List.range 64).filter (fun c => decide (s.drf.chThread.look c ≠ 0))).map (fun c => [word c, word (s.tim.sec - 1)]) ∧
        SameParts [.shu] s t ∧
        SameRegs noReg [] s t) ∧
  (∀ (i : List Word) (rest : List (List Word)) (s : State),
      s.shu.work.look 2 = i :: rest →
      ∃ t, exec (.summaryCondense) s = .next t ∧
        t.shu.work.look 2 = rest ∧
        (∀ k : Fin 256, (s.blt.sums.look (sumKey (i.getD 1 0).toNat (i.getD 0 0).toNat k)).live = true → t.blt.sums.look (sumKey (i.getD 1 0).toNat (i.getD 0 0).toNat k) = default) ∧
        SameParts [.irq, .cyc, .msi, .shu, .blt] s t ∧
        SameRegs boltReg [] s t) ∧
  (∀ (s : State),
      s.shu.work.look 2 ≠ [] →
      ∃ t, exec (.summaryLate) s = .next t ∧
        Noted s t BLT_STATUS BLT_STATUS_SUMMARY_LATE ∧
        SameParts [.irq, .cyc, .msi, .shu] s t ∧
        SameRegs irqReg [BLT_STATUS] s t)

/-- A dump request of an agent that reaches PMC_DUMP_CTL latches the counters as they stood before this cycle as an image while fewer
than two wait and none was latched in this cycle; one more request of the cycle adds its groups to that image; with two waiting
DUMP_SKIPPED counts it. The oldest image goes to the next slot of its region where it fits, DDR-5 is up and no byte is in a hole:
its bytes stand there, no other byte changes, DUMP_SEQ advances and DUMP_DONE is noted; without a region it is skipped. A
completed tag joins its cluster's FIFO of 16, which loses its oldest when full, and TAG_READY is noted. A read of the last word of
a FIFO by an agent that reaches it returns that word of the head and drops the head. A bandwidth window that ends, in the first
cycle at or past a multiple of its length, latches the three running counts, clears them and keeps the peaks; at other times
nothing changes. -/
def Obligations.CountersDumpsTagsAndWindows : Prop :=
  (∀ (ag : Agent) (v : Word) (s : State),
      s.reaches ag PMC_DUMP_CTL = true →
      v.getLsbD 31 = true →
      s.pmc.images.length < 2 →
      (∀ i ∈ s.pmc.images.getLast?, i.at_ ≠ s.now) →
      ∃ t, exec (.counterDump ag v) s = .next t ∧
        t.pmc.images.length = s.pmc.images.length + 1 ∧
        (∀ i ∈ t.pmc.images.getLast?, i.at_ = s.now ∧ i.t = s.t64 ∧ i.scope = (s.wrRW PMC_DUMP_CTL v).g PMC_DUMP_CTL PMC_DUMP_CTL_SCOPE ∧ i.regs = s.cyc.was.regs) ∧
        SameParts [.pmc] s t ∧
        SameRegs noReg [PMC_DUMP_CTL] s t) ∧
  (∀ (ag : Agent) (v : Word) (i : DumpImg) (s : State),
      s.reaches ag PMC_DUMP_CTL = true →
      v.getLsbD 31 = true →
      s.pmc.images.getLast? = some i →
      i.at_ = s.now →
      ∃ t, exec (.counterDump ag v) s = .next t ∧
        t.pmc.images = s.pmc.images.dropLast ++ [{ i with scope := i.scope ||| (s.wrRW PMC_DUMP_CTL v).g PMC_DUMP_CTL PMC_DUMP_CTL_SCOPE }] ∧
        SameParts [.pmc] s t ∧
        SameRegs noReg [PMC_DUMP_CTL] s t) ∧
  (∀ (ag : Agent) (v : Word) (s : State),
      s.reaches ag PMC_DUMP_CTL = true →
      v.getLsbD 31 = true →
      2 ≤ s.pmc.images.length →
      (∀ i ∈ s.pmc.images.getLast?, i.at_ ≠ s.now) →
      ∃ t, exec (.counterDump ag v) s = .next t ∧
        t.pmc.images = s.pmc.images ∧
        t.rd64 (PMC_DUMP_SKIPPED) = (s.rd64 (PMC_DUMP_SKIPPED) + 1) % 2 ^ 64 ∧
        Noted s t PMC_STATUS PMC_STATUS_DUMP_SKIPPED ∧
        SameParts [.irq, .cyc, .msi, .shu] s t ∧
        SameRegs irqReg [PMC_DUMP_CTL, PMC_DUMP_SKIPPED, PMC_DUMP_SKIPPED + 4, PMC_STATUS] s t) ∧
  (∀ (i : DumpImg) (rest : List DumpImg) (b n : Nat) (s : State),
      s.pmc.images = i :: rest →
      s.drf.owned.find? (fun r => decide (r.1 = 2) && decide (r.2.1 = 0)) = some (2, 0, b, n) →
      dumpSize i.scope ≤ n / (max 1 (min 4096 (s.g PMC_DUMP_INFO PMC_DUMP_INFO_SLOTS))) →
      s.ddrUp = true →
      (∀ x, x < (dumpBytes i (((s.rd PMC_DUMP_SEQ).toNat + 1) % 2 ^ 32)).length → s.isHole (b + (s.g PMC_DUMP_INFO PMC_DUMP_INFO_NEXT % (max 1 (min 4096 (s.g PMC_DUMP_INFO PMC_DUMP_INFO_SLOTS)))) * (n / (max 1 (min 4096 (s.g PMC_DUMP_INFO PMC_DUMP_INFO_SLOTS)))) + x) = false) →
      ∃ t, exec (.dumpImageWritten) s = .next t ∧
        t.pmc.images = rest ∧
        t.rd PMC_DUMP_SEQ = word ((s.rd PMC_DUMP_SEQ).toNat + 1) ∧
        t.g PMC_DUMP_INFO PMC_DUMP_INFO_NEXT = ((s.g PMC_DUMP_INFO PMC_DUMP_INFO_NEXT % (max 1 (min 4096 (s.g PMC_DUMP_INFO PMC_DUMP_INFO_SLOTS)))) + 1) % (max 1 (min 4096 (s.g PMC_DUMP_INFO PMC_DUMP_INFO_SLOTS))) % 2 ^ PMC_DUMP_INFO_NEXT.w ∧
        Noted s t PMC_STATUS PMC_STATUS_DUMP_DONE ∧
        t.ddrRds (b + (s.g PMC_DUMP_INFO PMC_DUMP_INFO_NEXT % (max 1 (min 4096 (s.g PMC_DUMP_INFO PMC_DUMP_INFO_SLOTS)))) * (n / (max 1 (min 4096 (s.g PMC_DUMP_INFO PMC_DUMP_INFO_SLOTS))))) (dumpBytes i (((s.rd PMC_DUMP_SEQ).toNat + 1) % 2 ^ 32)).length = (dumpBytes i (((s.rd PMC_DUMP_SEQ).toNat + 1) % 2 ^ 32)) ∧
        (∀ a, (a < b + (s.g PMC_DUMP_INFO PMC_DUMP_INFO_NEXT % (max 1 (min 4096 (s.g PMC_DUMP_INFO PMC_DUMP_INFO_SLOTS)))) * (n / (max 1 (min 4096 (s.g PMC_DUMP_INFO PMC_DUMP_INFO_SLOTS)))) ∨ b + (s.g PMC_DUMP_INFO PMC_DUMP_INFO_NEXT % (max 1 (min 4096 (s.g PMC_DUMP_INFO PMC_DUMP_INFO_SLOTS)))) * (n / (max 1 (min 4096 (s.g PMC_DUMP_INFO PMC_DUMP_INFO_SLOTS)))) + (dumpBytes i (((s.rd PMC_DUMP_SEQ).toNat + 1) % 2 ^ 32)).length ≤ a) → t.ddrRd a = s.ddrRd a) ∧
        SameParts [.ddr, .irq, .cyc, .msi, .shu, .pmc] s t ∧
        SameRegs irqReg [PMC_DUMP_SEQ, PMC_DUMP_INFO, PMC_STATUS] s t) ∧
  (∀ (i : DumpImg) (rest : List DumpImg) (s : State),
      s.pmc.images = i :: rest →
      s.drf.owned.find? (fun r => decide (r.1 = 2) && decide (r.2.1 = 0)) = none →
      ∃ t, exec (.dumpImageWritten) s = .next t ∧
        t.pmc.images = rest ∧
        t.rd64 (PMC_DUMP_SKIPPED) = (s.rd64 (PMC_DUMP_SKIPPED) + 1) % 2 ^ 64 ∧
        Noted s t PMC_STATUS PMC_STATUS_DUMP_SKIPPED ∧
        SameParts [.irq, .cyc, .msi, .shu, .pmc] s t ∧
        SameRegs irqReg [PMC_DUMP_SKIPPED, PMC_DUMP_SKIPPED + 4, PMC_STATUS] s t) ∧
  (∀ (k : Fin 16) (r l : Nat) (g : Tag) (s : State),
      s.pmc.tag.look k = some g →
      s.cyc.tags.look k = none →
      s.on (PMC_TAG_CTL k) PMC_TAG_CTL_TO_BOLT = false →
      ∃ t, exec (.tagComplete k r l) s = .next t ∧
        t.pmc.tag.look k = none ∧
        t.pmc.tagFifo.look k = (if 16 ≤ (s.pmc.tagFifo.look k).length then (s.pmc.tagFifo.look k).tail else s.pmc.tagFifo.look k) ++ [[g.w0, g.w1, word (min r 65535 * 65536 + min l 65535), word g.flags]] ∧
        Noted s t PMC_STATUS PMC_STATUS_TAG_READY ∧
        SameParts [.irq, .cyc, .msi, .shu, .pmc] s t ∧
        SameRegs irqReg [PMC_TAG_TAGS k, PMC_TAG_TAGS k + 4, PMC_STATUS, PMC_OVF ((320 + k) / 16)] s t) ∧
  (∀ (ag : Agent) (k : Fin 16) (s : State),
      s.reaches ag (PMC_TAG_FIFO k + 12) = true →
      ∃ t, exec (.tagFifoPop ag k) s = .next t ∧
        t.pmc.tagFifo.look k = (s.pmc.tagFifo.look k).tail ∧
        t.lastRead ag = (((s.pmc.tagFifo.look k).head?).getD [0, 0, 0, 0]).getD 3 0 ∧
        SameParts [.agents, .pmc] s t ∧
        SameRegs noReg [] s t) ∧
  (∀ (c : Fin 64) (s : State),
      s.devNs % (s.bwWin c * 1000000) ≤ 1 →
      s.rd64 (PMC_BW_END_NS c) / (s.bwWin c * 1000000) ≠ s.devNs / (s.bwWin c * 1000000) →
      ∃ t, exec (.bwWindowEnd c) s = .next t ∧
        t.rd64 (PMC_BW_DS_BYTES c) = s.rd64 (lkey (PMC_BW_DS_BYTES c)) ∧
        t.rd64 (lkey (PMC_BW_DS_BYTES c)) = 0 ∧
        t.rd64 (PMC_BW_US_BYTES c) = s.rd64 (lkey (PMC_BW_US_BYTES c)) ∧
        t.rd64 (lkey (PMC_BW_US_BYTES c)) = 0 ∧
        t.rd64 (PMC_BW_GRANTED c) = s.rd64 (lkey (PMC_BW_GRANTED c)) ∧
        t.rd64 (lkey (PMC_BW_GRANTED c)) = 0 ∧
        t.rd64 (PMC_BW_END_NS c) = s.t64 ∧
        (s.pmc.bwStep.look c = false → t.rd64 (PMC_BW_DS_PEAK c) = max (s.rd64 (lkey (PMC_BW_DS_BYTES c))) (s.rd64 (PMC_BW_DS_PEAK c))) ∧
        SameParts [.pmc] s t ∧
        SameRegs noReg [PMC_BW_DS_BYTES c, PMC_BW_DS_BYTES c + 4, lkey (PMC_BW_DS_BYTES c), lkey (PMC_BW_DS_BYTES c) + 4, PMC_BW_US_BYTES c, PMC_BW_US_BYTES c + 4, lkey (PMC_BW_US_BYTES c), lkey (PMC_BW_US_BYTES c) + 4, PMC_BW_GRANTED c, PMC_BW_GRANTED c + 4, lkey (PMC_BW_GRANTED c), lkey (PMC_BW_GRANTED c) + 4, PMC_BW_END_NS c, PMC_BW_END_NS c + 4, PMC_BW_DS_PEAK c, PMC_BW_DS_PEAK c + 4, PMC_BW_US_PEAK c, PMC_BW_US_PEAK c + 4, PMC_BW_STATUS c] s t) ∧
  (∀ (c : Fin 64) (s : State),
      (1 < s.devNs % (s.bwWin c * 1000000) ∨ s.rd64 (PMC_BW_END_NS c) / (s.bwWin c * 1000000) = s.devNs / (s.bwWin c * 1000000)) →
      ∃ t, exec (.bwWindowEnd c) s = .next t ∧
        SameParts [] s t ∧
        SameRegs noReg [] s t)

/-- An INSERT of an agent that reaches FWD_MAC_CMD with no flush running: a key that is VALID has its entry replaced in place, a new
one takes the first free way of its buckets, or the way that the shortest chain of moves frees, and counts in ENTRIES; without
room it is answered STATUS 1 and LEARN_FAIL. The position holds the DEST in both banks and is answered with STATUS 0. A DELETE of
a VALID key clears its position, of another answers STATUS 2 and changes no entry. A LOOKUP answers the entry's words. A FLUSH
clears every dynamic entry that it selects; its end answers their count. The oldest learn request, with no move waiting and no
flush, becomes an entry with HIT set in a free way, counted; the oldest move of a dynamic entry rewrites its DEST in both banks,
counted. The ager, once per AGE_S seconds at a position, clears HIT of a dynamic entry, or removes the entry where HIT is clear,
counted; a hit of the same cycle keeps the entry as it is. -/
def Obligations.MacCommandsAndLearning : Prop :=
  (∀ (ag : Agent) (v : Word) (i : Nat) (s : State),
      s.reaches ag FWD_MAC_CMD = true →
      s.on (akey (agCode ag) FWD_MAC_CMD) FWD_MAC_CMD_GO = false →
      s.fwd.flush = none →
      v.getLsbD 31 = true →
      (s.macCmd ag v).macOp ag = 1 →
      s.macFind ((s.macCmd ag v).macCmdBd ag) ((s.macCmd ag v).macCmdMac ag) = some i →
      ∃ t, exec (.macInsert ag v) s = .next t ∧
        t.rd (FWD_MAC0 i + 12) = word ((s.macCmd ag v).macCmdDest ag) ∧
        t.rd (FWD_MAC1 i + 12) = word ((s.macCmd ag v).macCmdDest ag) ∧
        t.macVal i = true ∧
        t.rd (akey (agCode ag) FWD_MAC_RSP) = word i ∧
        t.on (akey (agCode ag) FWD_MAC_CMD) FWD_MAC_CMD_GO = false ∧
        t.g FWD_ENTRIES FWD_ENTRIES_COUNT = s.g FWD_ENTRIES FWD_ENTRIES_COUNT ∧
        SameParts [] s t ∧
        SameRegs noReg [akey (agCode ag) FWD_MAC_CMD, akey (agCode ag) FWD_MAC_RSP, akey (agCode ag) FWD_MAC_RSP + 4, akey (agCode ag) FWD_MAC_RSP + 8, akey (agCode ag) FWD_MAC_RSP + 12, FWD_MAC0 i, FWD_MAC0 i + 4, FWD_MAC0 i + 8, FWD_MAC0 i + 12, FWD_MAC1 i, FWD_MAC1 i + 4, FWD_MAC1 i + 8, FWD_MAC1 i + 12] s t) ∧
  (∀ (ag : Agent) (v : Word) (i : Nat) (s : State),
      s.reaches ag FWD_MAC_CMD = true →
      s.on (akey (agCode ag) FWD_MAC_CMD) FWD_MAC_CMD_GO = false →
      s.fwd.flush = none →
      v.getLsbD 31 = true →
      (s.macCmd ag v).macOp ag = 1 →
      s.macFind ((s.macCmd ag v).macCmdBd ag) ((s.macCmd ag v).macCmdMac ag) = none →
      (macWays ((s.macCmd ag v).macCmdBd ag) ((s.macCmd ag v).macCmdMac ag)).find? (fun i => !s.macVal i) = some i →
      ∃ t, exec (.macInsert ag v) s = .next t ∧
        t.rd (FWD_MAC0 i + 12) = word ((s.macCmd ag v).macCmdDest ag) ∧
        t.rd (FWD_MAC1 i + 12) = word ((s.macCmd ag v).macCmdDest ag) ∧
        t.macVal i = true ∧
        t.rd (akey (agCode ag) FWD_MAC_RSP) = word i ∧
        t.on (akey (agCode ag) FWD_MAC_CMD) FWD_MAC_CMD_GO = false ∧
        t.g FWD_ENTRIES FWD_ENTRIES_COUNT = (s.g FWD_ENTRIES FWD_ENTRIES_COUNT + 1) % 2 ^ FWD_ENTRIES_COUNT.w ∧
        SameParts [] s t ∧
        SameRegs noReg [akey (agCode ag) FWD_MAC_CMD, akey (agCode ag) FWD_MAC_RSP, akey (agCode ag) FWD_MAC_RSP + 4, akey (agCode ag) FWD_MAC_RSP + 8, akey (agCode ag) FWD_MAC_RSP + 12, FWD_MAC0 i, FWD_MAC0 i + 4, FWD_MAC0 i + 8, FWD_MAC0 i + 12, FWD_MAC1 i, FWD_MAC1 i + 4, FWD_MAC1 i + 8, FWD_MAC1 i + 12, FWD_ENTRIES] s t) ∧
  (∀ (ag : Agent) (v : Word) (i : Nat) (s : State),
      s.reaches ag FWD_MAC_CMD = true →
      s.on (akey (agCode ag) FWD_MAC_CMD) FWD_MAC_CMD_GO = false →
      s.fwd.flush = none →
      v.getLsbD 31 = true →
      (s.macCmd ag v).macOp ag = 1 →
      s.macFind ((s.macCmd ag v).macCmdBd ag) ((s.macCmd ag v).macCmdMac ag) = none →
      ((s.macCmd ag v).macRoom ((s.macCmd ag v).macCmdBd ag) ((s.macCmd ag v).macCmdMac ag)).2 = some i →
      ∃ t, exec (.macInsert ag v) s = .next t ∧
        t.rd (FWD_MAC0 i + 12) = word ((s.macCmd ag v).macCmdDest ag) ∧
        t.rd (FWD_MAC1 i + 12) = word ((s.macCmd ag v).macCmdDest ag) ∧
        t.macVal i = true ∧
        t.rd (akey (agCode ag) FWD_MAC_RSP) = word i ∧
        t.on (akey (agCode ag) FWD_MAC_CMD) FWD_MAC_CMD_GO = false ∧
        t.g FWD_ENTRIES FWD_ENTRIES_COUNT = (s.g FWD_ENTRIES FWD_ENTRIES_COUNT + 1) % 2 ^ FWD_ENTRIES_COUNT.w ∧
        SameParts [] s t ∧
        SameRegs (regsIn (FWD_MAC0 0) (FWD_MAC1 1048576)) [akey (agCode ag) FWD_MAC_CMD, akey (agCode ag) FWD_MAC_RSP, akey (agCode ag) FWD_MAC_RSP + 4, akey (agCode ag) FWD_MAC_RSP + 8, akey (agCode ag) FWD_MAC_RSP + 12, FWD_ENTRIES] s t) ∧
  (∀ (ag : Agent) (v : Word) (s : State),
      s.reaches ag FWD_MAC_CMD = true →
      s.on (akey (agCode ag) FWD_MAC_CMD) FWD_MAC_CMD_GO = false →
      s.fwd.flush = none →
      v.getLsbD 31 = true →
      (s.macCmd ag v).macOp ag = 1 →
      s.macFind ((s.macCmd ag v).macCmdBd ag) ((s.macCmd ag v).macCmdMac ag) = none →
      ((s.macCmd ag v).macRoom ((s.macCmd ag v).macCmdBd ag) ((s.macCmd ag v).macCmdMac ag)).2 = none →
      ∃ t, exec (.macInsert ag v) s = .next t ∧
        t.rd (akey (agCode ag) FWD_MAC_RSP) = word (1 * 2 ^ 24) ∧
        t.on (akey (agCode ag) FWD_MAC_CMD) FWD_MAC_CMD_GO = false ∧
        t.rd64 (FWD_LEARN_FAIL) = (s.rd64 (FWD_LEARN_FAIL) + 1) % 2 ^ 64 ∧
        Noted s t FWD_STATUS FWD_STATUS_LEARN_FAIL ∧
        SameParts [.irq, .cyc, .msi, .shu] s t ∧
        SameRegs irqReg [akey (agCode ag) FWD_MAC_CMD, akey (agCode ag) FWD_MAC_RSP, akey (agCode ag) FWD_MAC_RSP + 4, akey (agCode ag) FWD_MAC_RSP + 8, akey (agCode ag) FWD_MAC_RSP + 12, FWD_LEARN_FAIL, FWD_LEARN_FAIL + 4, FWD_STATUS] s t) ∧
  (∀ (ag : Agent) (v : Word) (i : Nat) (s : State),
      s.reaches ag FWD_MAC_CMD = true →
      s.on (akey (agCode ag) FWD_MAC_CMD) FWD_MAC_CMD_GO = false →
      s.fwd.flush = none →
      v.getLsbD 31 = true →
      (s.macCmd ag v).macOp ag = 2 →
      s.macFind ((s.macCmd ag v).macCmdBd ag) ((s.macCmd ag v).macCmdMac ag) = some i →
      ∃ t, exec (.macDelete ag v) s = .next t ∧
        t.macVal i = false ∧
        t.on (FWD_MAC1 i) FWD_MAC0_VALID = false ∧
        t.rd (akey (agCode ag) FWD_MAC_RSP) = word i ∧
        t.on (akey (agCode ag) FWD_MAC_CMD) FWD_MAC_CMD_GO = false ∧
        t.g FWD_ENTRIES FWD_ENTRIES_COUNT = (s.g FWD_ENTRIES FWD_ENTRIES_COUNT - 1) % 2 ^ FWD_ENTRIES_COUNT.w ∧
        SameParts [] s t ∧
        SameRegs noReg [akey (agCode ag) FWD_MAC_CMD, akey (agCode ag) FWD_MAC_RSP, akey (agCode ag) FWD_MAC_RSP + 4, akey (agCode ag) FWD_MAC_RSP + 8, akey (agCode ag) FWD_MAC_RSP + 12, FWD_MAC0 i, FWD_MAC0 i + 4, FWD_MAC0 i + 8, FWD_MAC0 i + 12, FWD_MAC1 i, FWD_MAC1 i + 4, FWD_MAC1 i + 8, FWD_MAC1 i + 12, FWD_ENTRIES] s t) ∧
  (∀ (ag : Agent) (v : Word) (s : State),
      s.reaches ag FWD_MAC_CMD = true →
      s.on (akey (agCode ag) FWD_MAC_CMD) FWD_MAC_CMD_GO = false →
      s.fwd.flush = none →
      v.getLsbD 31 = true →
      (s.macCmd ag v).macOp ag = 2 →
      s.macFind ((s.macCmd ag v).macCmdBd ag) ((s.macCmd ag v).macCmdMac ag) = none →
      ∃ t, exec (.macDelete ag v) s = .next t ∧
        t.rd (akey (agCode ag) FWD_MAC_RSP) = word (2 * 2 ^ 24) ∧
        t.on (akey (agCode ag) FWD_MAC_CMD) FWD_MAC_CMD_GO = false ∧
        SameParts [] s t ∧
        SameRegs noReg [akey (agCode ag) FWD_MAC_CMD, akey (agCode ag) FWD_MAC_RSP, akey (agCode ag) FWD_MAC_RSP + 4, akey (agCode ag) FWD_MAC_RSP + 8, akey (agCode ag) FWD_MAC_RSP + 12] s t) ∧
  (∀ (ag : Agent) (v : Word) (i : Nat) (s : State),
      s.reaches ag FWD_MAC_CMD = true →
      s.on (akey (agCode ag) FWD_MAC_CMD) FWD_MAC_CMD_GO = false →
      s.fwd.flush = none →
      v.getLsbD 31 = true →
      (s.macCmd ag v).macOp ag = 3 →
      s.macFind ((s.macCmd ag v).macCmdBd ag) ((s.macCmd ag v).macCmdMac ag) = some i →
      ∃ t, exec (.macLookup ag v) s = .next t ∧
        t.rd (akey (agCode ag) FWD_MAC_RSP) = word i ∧
        t.on (akey (agCode ag) FWD_MAC_CMD) FWD_MAC_CMD_GO = false ∧
        t.rd (akey (agCode ag) FWD_MAC_RSP + 4) = s.rd (FWD_MAC0 i + 4) ∧
        t.rd (akey (agCode ag) FWD_MAC_RSP + 8) = s.rd (FWD_MAC0 i + 8) ∧
        t.rd (akey (agCode ag) FWD_MAC_RSP + 12) = s.rd (FWD_MAC0 i + 12) ∧
        SameParts [] s t ∧
        SameRegs noReg [akey (agCode ag) FWD_MAC_CMD, akey (agCode ag) FWD_MAC_RSP, akey (agCode ag) FWD_MAC_RSP + 4, akey (agCode ag) FWD_MAC_RSP + 8, akey (agCode ag) FWD_MAC_RSP + 12] s t) ∧
  (∀ (ag : Agent) (v : Word) (s : State),
      s.reaches ag FWD_MAC_CMD = true →
      s.on (akey (agCode ag) FWD_MAC_CMD) FWD_MAC_CMD_GO = false →
      s.fwd.flush = none →
      v.getLsbD 31 = true →
      (s.macCmd ag v).macOp ag = 4 →
      ∃ t, exec (.macFlush ag v) s = .next t ∧
        (∀ i ∈ ((s.macCmd ag v).macFlushList (bget ((s.macCmd ag v).rd (akey (agCode ag) FWD_MAC_CMD)) 26 1 = 1) ((s.macCmd ag v).macCmdBd ag) (bget ((s.macCmd ag v).rd (akey (agCode ag) FWD_MAC_CMD)) 25 1 = 1) ((s.macCmd ag v).macCmdDest ag)), t.macVal i = false) ∧
        t.fwd.flush = some (agCode ag, ((s.macCmd ag v).macFlushList (bget ((s.macCmd ag v).rd (akey (agCode ag) FWD_MAC_CMD)) 26 1 = 1) ((s.macCmd ag v).macCmdBd ag) (bget ((s.macCmd ag v).rd (akey (agCode ag) FWD_MAC_CMD)) 25 1 = 1) ((s.macCmd ag v).macCmdDest ag)).length) ∧
        t.on FWD_STATUS FWD_STATUS_FLUSHING = true ∧
        SameParts [.fwd] s t ∧
        SameRegs (regsIn (FWD_MAC0 0) (FWD_MAC1 1048576)) [akey (agCode ag) FWD_MAC_CMD, FWD_STATUS, FWD_ENTRIES] s t) ∧
  (∀ (k n : Nat) (s : State),
      s.fwd.flush = some (k, n) →
      s.fwd.waiting = [] →
      ∃ t, exec (.macFlushDone) s = .next t ∧
        t.fwd.flush = none ∧
        t.on FWD_STATUS FWD_STATUS_FLUSHING = false ∧
        t.rd (akey k FWD_MAC_RSP + 4) = word n ∧
        t.on (akey k FWD_MAC_CMD) FWD_MAC_CMD_GO = false ∧
        SameParts [.fwd] s t ∧
        SameRegs noReg [FWD_STATUS, akey k FWD_MAC_CMD, akey k FWD_MAC_RSP, akey k FWD_MAC_RSP + 4, akey k FWD_MAC_RSP + 8, akey k FWD_MAC_RSP + 12] s t) ∧
  (∀ (b m d i : Nat) (rest : List (Nat × Nat × Nat)) (s : State),
      s.fwd.learnQ = (b, m, d) :: rest →
      s.fwd.moveQ = [] →
      s.fwd.flush = none →
      s.macFind b m = none →
      (macWays b m).find? (fun i => !s.macVal i) = some i →
      ∃ t, exec (.macLearn) s = .next t ∧
        t.fwd.learnQ = rest ∧
        t.macVal i = true ∧
        t.on (FWD_MAC0 i) FWD_MAC0_HIT = true ∧
        t.macStatic i = false ∧
        t.rd (FWD_MAC0 i + 12) = word d ∧
        t.rd (FWD_MAC1 i + 12) = word d ∧
        t.rd64 (FWD_LEARNS) = (s.rd64 (FWD_LEARNS) + 1) % 2 ^ 64 ∧
        t.g FWD_ENTRIES FWD_ENTRIES_COUNT = (s.g FWD_ENTRIES FWD_ENTRIES_COUNT + 1) % 2 ^ FWD_ENTRIES_COUNT.w ∧
        SameParts [.fwd] s t ∧
        SameRegs noReg [FWD_MAC0 i, FWD_MAC0 i + 4, FWD_MAC0 i + 8, FWD_MAC0 i + 12, FWD_MAC1 i, FWD_MAC1 i + 4, FWD_MAC1 i + 8, FWD_MAC1 i + 12, FWD_ENTRIES, FWD_LEARNS, FWD_LEARNS + 4] s t) ∧
  (∀ (b m d i : Nat) (rest : List (Nat × Nat × Nat)) (s : State),
      s.fwd.learnQ = (b, m, d) :: rest →
      s.fwd.moveQ = [] →
      s.fwd.flush = none →
      s.macFind b m = some i →
      ∃ t, exec (.macLearn) s = .next t ∧
        t.fwd.learnQ = rest ∧
        SameParts [.fwd] s t ∧
        SameRegs noReg [] s t) ∧
  (∀ (b m d i : Nat) (rest : List (Nat × Nat × Nat)) (s : State),
      s.fwd.moveQ = (b, m, d) :: rest →
      s.fwd.flush = none →
      s.macFind b m = some i →
      s.macStatic i = false →
      ∃ t, exec (.macMove) s = .next t ∧
        t.fwd.moveQ = rest ∧
        t.g (FWD_MAC0 i) FWD_MAC0_DEST = d % 2 ^ FWD_MAC0_DEST.w ∧
        t.g (FWD_MAC1 i) FWD_MAC0_DEST = d % 2 ^ FWD_MAC0_DEST.w ∧
        t.rd64 (FWD_MOVES) = (s.rd64 (FWD_MOVES) + 1) % 2 ^ 64 ∧
        SameParts [.fwd] s t ∧
        SameRegs noReg [FWD_MAC0 i + 12, FWD_MAC1 i + 12, FWD_MOVES, FWD_MOVES + 4] s t) ∧
  (∀ (i : Fin 1048576) (s : State),
      s.on FWD_CTL FWD_CTL_AGE_EN = true →
      s.fwd.ageAt.look i + max (s.g FWD_CTL FWD_CTL_AGE_S) 1 * 1000000000 ≤ s.now →
      s.cyc.hits.look i = false →
      s.macVal i = true →
      s.macStatic i = false →
      s.on (fkey (FWD_BD (s.macBd i))) FWD_BD_AGE_EN = true →
      s.on (FWD_MAC0 i) FWD_MAC0_HIT = true →
      ∃ t, exec (.macAgeVisit i) s = .next t ∧
        t.on (FWD_MAC0 i) FWD_MAC0_HIT = false ∧
        t.on (FWD_MAC1 i) FWD_MAC0_HIT = false ∧
        t.macVal i = true ∧
        t.fwd = { s.fwd with ageAt := s.fwd.ageAt.put i s.now } ∧
        SameParts [.fwd] s t ∧
        SameRegs noReg [FWD_MAC0 i, FWD_MAC1 i] s t) ∧
  (∀ (i : Fin 1048576) (s : State),
      s.on FWD_CTL FWD_CTL_AGE_EN = true →
      s.fwd.ageAt.look i + max (s.g FWD_CTL FWD_CTL_AGE_S) 1 * 1000000000 ≤ s.now →
      s.cyc.hits.look i = false →
      s.macVal i = true →
      s.macStatic i = false →
      s.on (fkey (FWD_BD (s.macBd i))) FWD_BD_AGE_EN = true →
      s.on (FWD_MAC0 i) FWD_MAC0_HIT = false →
      ∃ t, exec (.macAgeVisit i) s = .next t ∧
        t.macVal i = false ∧
        t.rd64 (FWD_AGED) = (s.rd64 (FWD_AGED) + 1) % 2 ^ 64 ∧
        t.g FWD_ENTRIES FWD_ENTRIES_COUNT = (s.g FWD_ENTRIES FWD_ENTRIES_COUNT - 1) % 2 ^ FWD_ENTRIES_COUNT.w ∧
        t.fwd = { s.fwd with ageAt := s.fwd.ageAt.put i s.now } ∧
        SameParts [.cyc, .fwd] s t ∧
        SameRegs noReg [FWD_MAC0 i, FWD_MAC0 i + 4, FWD_MAC0 i + 8, FWD_MAC0 i + 12, FWD_MAC1 i, FWD_MAC1 i + 4, FWD_MAC1 i + 8, FWD_MAC1 i + 12, FWD_ENTRIES, FWD_AGED, FWD_AGED + 4] s t) ∧
  (∀ (i : Fin 1048576) (s : State),
      s.on FWD_CTL FWD_CTL_AGE_EN = true →
      s.fwd.ageAt.look i + max (s.g FWD_CTL FWD_CTL_AGE_S) 1 * 1000000000 ≤ s.now →
      s.cyc.hits.look i = true →
      ∃ t, exec (.macAgeVisit i) s = .next t ∧
        t.fwd = { s.fwd with ageAt := s.fwd.ageAt.put i s.now } ∧
        SameParts [.fwd] s t ∧
        SameRegs noReg [] s t) ∧
  (∀ (i : Fin 1048576) (s : State),
      (s.on FWD_CTL FWD_CTL_AGE_EN = false ∨ s.now < s.fwd.ageAt.look i + max (s.g FWD_CTL FWD_CTL_AGE_S) 1 * 1000000000) →
      ∃ t, exec (.macAgeVisit i) s = .next t ∧
        SameParts [] s t ∧
        SameRegs noReg [] s t)

/-- A route command of an agent that reaches FWD_RT_CMD with a legal OP and length. ADD puts the prefix into each bank of BANKS, in
place of an equal one, where every bank then fits its pools, and answers STATUS 0; DEL takes it out of each bank of BANKS and
answers STATUS 0 where a named bank held it, else 2; LOOKUP answers from the lowest bank of BANKS the next hop of the longest
prefix that covers the address, and changes nothing. Another OP or length answers STATUS 3 alone. No other bank, register or part
of the state changes. -/
def Obligations.RouteCommands : Prop :=
  (∀ (ag : Agent) (v : Word) (s : State),
      s.reaches ag FWD_RT_CMD = true →
      v.getLsbD 31 = true →
      (s.rtCmd ag v).g (akey (agCode ag) FWD_RT_CMD) FWD_RT_CMD_OP = 1 →
      (s.rtCmd ag v).g (akey (agCode ag) FWD_RT_CMD) FWD_RT_CMD_LEN ≤ addrBits ((s.rtCmd ag v).on (akey (agCode ag) FWD_RT_CMD) FWD_RT_CMD_V6) →
      (∀ b : Fin 2, (bit ((s.rtCmd ag v).g (akey (agCode ag) FWD_RT_CMD) FWD_RT_CMD_BANKS) b) = true → bankFits (routeDrop (s.fwd.routes.look b) ((s.rtCmd ag v).rtPrefix ag) ++ [(s.rtCmd ag v).rtPrefix ag]) = (true, true)) →
      ∃ t, exec (.routeAdd ag v) s = .next t ∧
        (∀ b : Fin 2, t.fwd.routes.look b = if (bit ((s.rtCmd ag v).g (akey (agCode ag) FWD_RT_CMD) FWD_RT_CMD_BANKS) b) then (routeDrop (s.fwd.routes.look b) ((s.rtCmd ag v).rtPrefix ag) ++ [(s.rtCmd ag v).rtPrefix ag]) else s.fwd.routes.look b) ∧
        t.rd (akey (agCode ag) FWD_RT_RSP) = word (0) ∧
        t.on (akey (agCode ag) FWD_RT_CMD) FWD_RT_CMD_GO = false ∧
        SameParts [.fwd] s t ∧
        SameRegs noReg [akey (agCode ag) FWD_RT_CMD, akey (agCode ag) FWD_RT_RSP] s t) ∧
  (∀ (ag : Agent) (v : Word) (s : State),
      s.reaches ag FWD_RT_CMD = true →
      v.getLsbD 31 = true →
      (s.rtCmd ag v).g (akey (agCode ag) FWD_RT_CMD) FWD_RT_CMD_OP = 2 →
      (s.rtCmd ag v).g (akey (agCode ag) FWD_RT_CMD) FWD_RT_CMD_LEN ≤ addrBits ((s.rtCmd ag v).on (akey (agCode ag) FWD_RT_CMD) FWD_RT_CMD_V6) →
      ∃ t, exec (.routeDel ag v) s = .next t ∧
        (∀ b : Fin 2, t.fwd.routes.look b = if (bit ((s.rtCmd ag v).g (akey (agCode ag) FWD_RT_CMD) FWD_RT_CMD_BANKS) b) then routeDrop (s.fwd.routes.look b) ((s.rtCmd ag v).rtPrefix ag) else s.fwd.routes.look b) ∧
        t.rd (akey (agCode ag) FWD_RT_RSP) = word ((if (∃ b : Fin 2, (bit ((s.rtCmd ag v).g (akey (agCode ag) FWD_RT_CMD) FWD_RT_CMD_BANKS) b) = true ∧ (routeDrop (s.fwd.routes.look b) ((s.rtCmd ag v).rtPrefix ag)).length ≠ (s.fwd.routes.look b).length) then 0 else 2) * 2 ^ 24) ∧
        t.on (akey (agCode ag) FWD_RT_CMD) FWD_RT_CMD_GO = false ∧
        SameParts [.fwd] s t ∧
        SameRegs noReg [akey (agCode ag) FWD_RT_CMD, akey (agCode ag) FWD_RT_RSP] s t) ∧
  (∀ (ag : Agent) (v : Word) (k n : Nat) (s : State),
      s.reaches ag FWD_RT_CMD = true →
      v.getLsbD 31 = true →
      (s.rtCmd ag v).g (akey (agCode ag) FWD_RT_CMD) FWD_RT_CMD_OP = 3 →
      (s.rtCmd ag v).g (akey (agCode ag) FWD_RT_CMD) FWD_RT_CMD_LEN ≤ addrBits ((s.rtCmd ag v).on (akey (agCode ag) FWD_RT_CMD) FWD_RT_CMD_V6) →
      k < 2 →
      bit ((s.rtCmd ag v).g (akey (agCode ag) FWD_RT_CMD) FWD_RT_CMD_BANKS) k = true →
      (∀ j : Fin 2, j.val < k → bit ((s.rtCmd ag v).g (akey (agCode ag) FWD_RT_CMD) FWD_RT_CMD_BANKS) j = false) →
      s.routeFind k ((s.rtCmd ag v).g (akey (agCode ag) FWD_RT_CMD) FWD_RT_CMD_VRF) ((s.rtCmd ag v).on (akey (agCode ag) FWD_RT_CMD) FWD_RT_CMD_V6) ((s.rtCmd ag v).rtAddr ag) = some n →
      ∃ t, exec (.routeLookup ag v) s = .next t ∧
        t.rd (akey (agCode ag) FWD_RT_RSP) = word (n) ∧
        t.on (akey (agCode ag) FWD_RT_CMD) FWD_RT_CMD_GO = false ∧
        SameParts [] s t ∧
        SameRegs noReg [akey (agCode ag) FWD_RT_CMD, akey (agCode ag) FWD_RT_RSP] s t) ∧
  (∀ (ag : Agent) (v : Word) (s : State),
      s.reaches ag FWD_RT_CMD = true →
      v.getLsbD 31 = true →
      ((s.rtCmd ag v).g (akey (agCode ag) FWD_RT_CMD) FWD_RT_CMD_OP = 0 ∨ 3 < (s.rtCmd ag v).g (akey (agCode ag) FWD_RT_CMD) FWD_RT_CMD_OP ∨ addrBits ((s.rtCmd ag v).on (akey (agCode ag) FWD_RT_CMD) FWD_RT_CMD_V6) < (s.rtCmd ag v).g (akey (agCode ag) FWD_RT_CMD) FWD_RT_CMD_LEN) →
      ∃ t, exec (.routeAdd ag v) s = .next t ∧
        t.rd (akey (agCode ag) FWD_RT_RSP) = word (3 * 2 ^ 24) ∧
        t.on (akey (agCode ag) FWD_RT_CMD) FWD_RT_CMD_GO = false ∧
        SameParts [] s t ∧
        SameRegs noReg [akey (agCode ag) FWD_RT_CMD, akey (agCode ag) FWD_RT_RSP] s t)

/-- The oldest frame of a pipeline, with no second-pass frame waiting, and the oldest second-pass frame leave their FIFO; a pass is
counted in PASS1 or PASS2. An accepted rule commit takes the words of its staging slots, with GO 1; in its first core cycle each
target takes words 0 to 23 and keeps VALID, in the second a target that was not VALID, or that is deleted, takes VALID and GO
reads 0. A refused commit gives its code. Of the frame handed over, alone in its cycle, for queue DEST, not mirrored and of
policer 0: where checks 1 to 5 pass and its first pool has a buffer, it takes the lowest free one and joins the queue, counted
ENQUEUED and RESIDENT; where one refuses it, its cause is counted and nothing joins; a frame that its policer marks red is
POLICED. A trap frame goes to the ring, or is counted TRAP_DROP. The queue that the scheduler of an UP port picks loses its head,
counted at the port. The last owner's free of a departed buffer returns it; another's is refused. A spilled head comes on chip, or
is dropped where the read is uncorrectable. Word 0 of a port block waits; word 1 applies both or restores both. A flush empties
the queues it selects, but for frames enqueued in its cycle; its end clears GO. -/
def Obligations.FramesThroughPipelineAndTrafficManager : Prop :=
  (∀ (p : Fin 8) (f : PFrame) (rest : List PFrame) (w : Rec) (s : State),
      s.cls.fifo.look p = f :: rest →
      s.pipeWire p = some w →
      s.cls.second.look p = [] →
      f.pass2 = none →
      ∃ t, exec (.pipelineFrame p) s = .next t ∧
        t.cls.fifo.look p = rest ∧
        (32 ≤ f.src → t.rd64 (CLS_PIPE_PASS1 p) = (s.rd64 (CLS_PIPE_PASS1 p) + 1) % 2 ^ 64) ∧
        SameParts [.irq, .cyc, .msi, .shd, .shu, .cls, .tmg, .fwd, .trb] s t) ∧
  (∀ (p : Fin 8) (f : PFrame) (rest : List PFrame) (w : Rec) (s : State),
      s.cls.fifo.look p = f :: rest →
      s.pipeWire p = some w →
      s.cls.second.look p ≠ [] →
      ∃ t, exec (.pipelineFrame p) s = .next t ∧
        t.cls = s.cls ∧
        SameParts [] s t ∧
        SameRegs noReg [] s t) ∧
  (∀ (p : Fin 8) (f : PFrame) (rest : List PFrame) (w : Rec) (s : State),
      s.cls.second.look p = f :: rest →
      s.pipeWire p = some w →
      f.pass2.isSome = true →
      ∃ t, exec (.secondPassReentry p) s = .next t ∧
        t.cls.second.look p = rest ∧
        t.cls.fifo = s.cls.fifo ∧
        t.rd64 (CLS_PIPE_PASS2 p) = (s.rd64 (CLS_PIPE_PASS2 p) + 1) % 2 ^ 64 ∧
        SameParts [.irq, .cyc, .msi, .shu, .cls, .tmg, .fwd, .trb] s t) ∧
  (∀ (ag : Agent) (v : Word) (s : State),
      s.reaches ag CLS_COMMIT = true →
      v.getLsbD 31 = true →
      s.cls.commits.any (fun x => decide (x.agent = agCode ag)) = false →
      (s.wr (akey (agCode ag) CLS_COMMIT) (word (v.toNat &&& 0x7FFFFFFF))).commitCode (agCode ag) = 0 →
      ∃ t, exec (.ruleCommit ag v) s = .next t ∧
        t.on (akey (agCode ag) CLS_COMMIT) CLS_COMMIT_GO = true ∧
        t.cls = { s.cls with commits := s.cls.commits ++ [⟨agCode ag, ((s.wr (akey (agCode ag) CLS_COMMIT) (word (v.toNat &&& 0x7FFFFFFF))).commitSlots (agCode ag)).map (fun i => (bget (s.rd (stageAt (agCode ag) i 25)) 0 16, (List.range 25).map (fun w => s.rd (stageAt (agCode ag) i w)), decide (bget (s.rd (stageAt (agCode ag) i 25)) 30 1 = 1))), none⟩] } ∧
        SameParts [.cls] s t ∧
        SameRegs noReg [akey (agCode ag) CLS_COMMIT] s t) ∧
  (∀ (ag : Agent) (v : Word) (s : State),
      s.reaches ag CLS_COMMIT = true →
      v.getLsbD 31 = true →
      s.cls.commits.any (fun x => decide (x.agent = agCode ag)) = false →
      (s.wr (akey (agCode ag) CLS_COMMIT) (word (v.toNat &&& 0x7FFFFFFF))).commitCode (agCode ag) ≠ 0 →
      ∃ t, exec (.ruleCommit ag v) s = .next t ∧
        t.g CLS_STATUS CLS_STATUS_COMMIT_CODE = (s.wr (akey (agCode ag) CLS_COMMIT) (word (v.toNat &&& 0x7FFFFFFF))).commitCode (agCode ag) ∧
        Noted s t CLS_STATUS CLS_STATUS_COMMIT_REFUSED ∧
        SameParts [.irq, .cyc, .msi, .shu] s t ∧
        SameRegs irqReg [akey (agCode ag) CLS_COMMIT, CLS_STATUS] s t) ∧
  (∀ (x : Commit) (e : Nat × List Word × Bool) (s : State), x.wrote = none → (x.slots.map (·.1)).Nodup → (∀ y ∈ x.slots, y.1 < 49152) → e ∈ x.slots →
      (∀ w : Fin 24, (s.commitCycle x).rd (CLS_RULE e.1 w) = e.2.1.getD w 0) ∧ (s.commitCycle x).ruleValid e.1 = s.ruleValid e.1 ∧
        (e.2.2 = true → (s.commitCycle x).rd64 (CLS_HIT e.1) = 0) ∧
        (s.commitCycle x).cls.commits = s.cls.commits ++ [{ x with wrote := some ((x.slots.map (·.1)).filter s.ruleValid) }] ∧
        SameParts [.cls] s (s.commitCycle x) ∧ SameRegs (regsIn (CLS_RULE 0 0) (CLS_HIT 49152)) [] s (s.commitCycle x)) ∧
  (∀ (x : Commit) (was : List Nat) (e : Nat × List Word × Bool) (s : State), x.wrote = some was → x.agent < 20 → (x.slots.map (·.1)).Nodup →
      (∀ y ∈ x.slots, y.1 < 49152) → e ∈ x.slots →
      (s.commitCycle x).ruleValid e.1 =
          (if e.1 ∉ was ∨ bget (e.2.1.getD 24 0) 31 1 = 0 then decide (bget (e.2.1.getD 24 0) 31 1 = 1) else s.ruleValid e.1) ∧
        (∀ w : Fin 24, (s.commitCycle x).rd (CLS_RULE e.1 w) = s.rd (CLS_RULE e.1 w)) ∧
        (s.commitCycle x).on (akey x.agent CLS_COMMIT) CLS_COMMIT_GO = false ∧ SameParts [] s (s.commitCycle x) ∧
        SameRegs (regsIn (CLS_RULE 0 0) (CLS_RULE 49152 0)) [akey x.agent CLS_COMMIT] s (s.commitCycle x)) ∧
  (∀ (h : Hand) (rest : List Hand) (i : Nat) (s : State),
      s.tmg.handoff = h :: rest →
      (∀ x ∈ rest, x.cyc ≠ h.cyc) →
      h.mirror = false →
      h.mark = none →
      h.kind = 1 →
      h.arg < 163840 →
      h.policer = 0 →
      s.admitCheck h.arg 0 h.bytes.length false = none →
      s.freeBuf (poolFor h.bytes.length) = some i →
      ∃ t, exec (.frameAdmit) s = .next t ∧
        t.tmg.handoff = rest ∧
        t.queue h.arg = s.queue h.arg ++ [⟨(poolFor h.bytes.length * 2 ^ 32 + i), h.bytes.length, s.g (TMG_Q h.arg) TMG_Q_ACCOUNT, none, true, false⟩] ∧
        t.tmg.bufs.look (poolFor h.bytes.length * 2 ^ 32 + i) = ⟨h.bytes, 1, some (s.queueOwner h.arg), false⟩ ∧
        t.rd64 (lkey (TMG_AUD_ENQUEUED h.arg)) = (s.rd64 (lkey (TMG_AUD_ENQUEUED h.arg)) + 1) % 2 ^ 64 ∧
        t.rd64 (lkey (TMG_AUD_RESIDENT h.arg)) = (s.rd64 (lkey (TMG_AUD_RESIDENT h.arg)) + 1) % 2 ^ 64 ∧
        t.g (BPM_POOL (poolFor h.bytes.length)) BPM_POOL_FREE = s.g (BPM_POOL (poolFor h.bytes.length)) BPM_POOL_FREE - 1 ∧
        SameParts [.tmg, .hsl, .cyc] s t ∧
        SameRegs noReg [lkey (TMG_AUD_ENQUEUED h.arg), lkey (TMG_AUD_ENQUEUED h.arg) + 4, lkey (TMG_AUD_RESIDENT h.arg), lkey (TMG_AUD_RESIDENT h.arg) + 4, (BPM_POOL (poolFor h.bytes.length)) + 8, (BPM_POOL (poolFor h.bytes.length)) + 12, HSL_LPI_TX_US (s.queueOwner h.arg - 64), HSL_LPI_TX_US (s.queueOwner h.arg - 64) + 4] s t) ∧
  (∀ (h : Hand) (rest : List Hand) (cause : Nat) (s : State),
      s.tmg.handoff = h :: rest →
      (∀ x ∈ rest, x.cyc ≠ h.cyc) →
      h.mirror = false →
      h.mark = none →
      h.kind = 1 →
      h.arg < 163840 →
      h.policer = 0 →
      s.admitCheck h.arg 0 h.bytes.length false = some cause →
      ∃ t, exec (.frameAdmit) s = .next t ∧
        t.tmg = { s.tmg with handoff := rest } ∧
        t.rd64 (cause) = (s.rd64 (cause) + 1) % 2 ^ 64 ∧
        t.rd64 (lkey (TMG_AUD_REF h.arg)) = (s.rd64 (lkey (TMG_AUD_REF h.arg)) + 1) % 2 ^ 64 ∧
        SameParts [.tmg] s t ∧
        SameRegs noReg [cause, cause + 4, lkey (TMG_AUD_REF h.arg), lkey (TMG_AUD_REF h.arg) + 4] s t) ∧
  (∀ (h : Hand) (rest : List Hand) (s : State),
      s.tmg.handoff = h :: rest →
      (∀ x ∈ rest, x.cyc ≠ h.cyc) →
      h.mirror = false →
      h.mark = none →
      h.kind = 1 →
      h.arg < 163840 →
      (s.police h.policer h.bytes.length).2 = 2 →
      ∃ t, exec (.frameAdmit) s = .next t ∧
        t.tmg.handoff = rest ∧
        t.tmg.queues = s.tmg.queues ∧
        t.rd64 (TMG_POLICED) = (s.rd64 (TMG_POLICED) + 1) % 2 ^ 64 ∧
        t.rd64 (lkey (TMG_AUD_REF h.arg)) = (s.rd64 (lkey (TMG_AUD_REF h.arg)) + 1) % 2 ^ 64 ∧
        SameParts [.tmg] s t ∧
        SameRegs noReg [TMG_POLICED, TMG_POLICED + 4, lkey (TMG_AUD_REF h.arg), lkey (TMG_AUD_REF h.arg) + 4, TMG_POL_RED h.policer, TMG_POL_RED h.policer + 4] s t) ∧
  (∀ (h : Hand) (rest : List Hand) (s : State),
      s.tmg.handoff = h :: rest →
      (∀ x ∈ rest, x.cyc ≠ h.cyc) →
      h.mirror = false →
      h.mark = none →
      h.kind = 2 →
      (if s.tmg.trap.1 = s.now / 1000000000 + 1 then s.tmg.trap.2 else 0) < s.g TMG_TRAP_CTL TMG_TRAP_CTL_TRAP_KPPS * 1000 →
      (s.rd TMG_TRAP_WR - s.rd TMG_TRAP_RD).toNat < (2 ^ max 4 (min 16 (s.g TMG_TRAP_CTL TMG_TRAP_CTL_LOG2))) →
      s.ddrUp = true →
      s.isHole (s.rd64 TMG_TRAP_BASE / 4096 * 4096 + (s.rd TMG_TRAP_WR).toNat % (2 ^ max 4 (min 16 (s.g TMG_TRAP_CTL TMG_TRAP_CTL_LOG2))) * 12288) = false →
      s.isHole ((s.rd64 TMG_TRAP_BASE / 4096 * 4096 + (s.rd TMG_TRAP_WR).toNat % (2 ^ max 4 (min 16 (s.g TMG_TRAP_CTL TMG_TRAP_CTL_LOG2))) * 12288) + 12287) = false →
      ∃ t, exec (.frameAdmit) s = .next t ∧
        t.tmg.handoff = rest ∧
        t.rd TMG_TRAP_WR = s.rd TMG_TRAP_WR + 1 ∧
        t.ddrRds (s.rd64 TMG_TRAP_BASE / 4096 * 4096 + (s.rd TMG_TRAP_WR).toNat % (2 ^ max 4 (min 16 (s.g TMG_TRAP_CTL TMG_TRAP_CTL_LOG2))) * 12288) (([word (h.src % 128 * 2 ^ 24 + h.arg * 2 ^ 16 + h.bytes.length % 2 ^ 14), word h.at_, s.rd TMG_TRAP_WR, 0].flatMap wordBytes) ++ h.bytes).length = (([word (h.src % 128 * 2 ^ 24 + h.arg * 2 ^ 16 + h.bytes.length % 2 ^ 14), word h.at_, s.rd TMG_TRAP_WR, 0].flatMap wordBytes) ++ h.bytes) ∧
        (∀ a, (a < (s.rd64 TMG_TRAP_BASE / 4096 * 4096 + (s.rd TMG_TRAP_WR).toNat % (2 ^ max 4 (min 16 (s.g TMG_TRAP_CTL TMG_TRAP_CTL_LOG2))) * 12288) ∨ (s.rd64 TMG_TRAP_BASE / 4096 * 4096 + (s.rd TMG_TRAP_WR).toNat % (2 ^ max 4 (min 16 (s.g TMG_TRAP_CTL TMG_TRAP_CTL_LOG2))) * 12288) + (([word (h.src % 128 * 2 ^ 24 + h.arg * 2 ^ 16 + h.bytes.length % 2 ^ 14), word h.at_, s.rd TMG_TRAP_WR, 0].flatMap wordBytes) ++ h.bytes).length ≤ a) → t.ddrRd a = s.ddrRd a) ∧
        SameParts [.ddr, .tmg] s t ∧
        SameRegs noReg [TMG_TRAP_WR] s t) ∧
  (∀ (h : Hand) (rest : List Hand) (s : State),
      s.tmg.handoff = h :: rest →
      (∀ x ∈ rest, x.cyc ≠ h.cyc) →
      h.mirror = false →
      h.mark = none →
      h.kind = 2 →
      (s.g TMG_TRAP_CTL TMG_TRAP_CTL_TRAP_KPPS * 1000 ≤ (if s.tmg.trap.1 = s.now / 1000000000 + 1 then s.tmg.trap.2 else 0) ∨ (2 ^ max 4 (min 16 (s.g TMG_TRAP_CTL TMG_TRAP_CTL_LOG2))) ≤ (s.rd TMG_TRAP_WR - s.rd TMG_TRAP_RD).toNat ∨ s.ddrUp = false) →
      ∃ t, exec (.frameAdmit) s = .next t ∧
        t.tmg = { s.tmg with handoff := rest } ∧
        t.rd64 (TMG_TRAP_DROP) = (s.rd64 (TMG_TRAP_DROP) + 1) % 2 ^ 64 ∧
        Noted s t TMG_STATUS TMG_STATUS_TRAP_DROP ∧
        SameParts [.irq, .cyc, .msi, .shu, .tmg] s t ∧
        SameRegs irqReg [TMG_TRAP_DROP, TMG_TRAP_DROP + 4, TMG_STATUS] s t) ∧
  (∀ (p : Fin 32) (q : Nat) (f : QFrame) (rest : List QFrame) (s : State),
      s.g (HSL_STATUS p) HSL_STATUS_STATE = 2 →
      s.portOfLane p = p →
      (s.pickQueue (16448 + p) ((List.range (s.g (fkey (TMG_UPORT p)) TMG_UPORT_USIZE)).map (fun k => upBase + s.g (fkey (TMG_UPORT p)) TMG_UPORT_UBASE + k))).2 = some q →
      s.queue q = f :: rest →
      ∃ t, exec (.uplinkDeparture p) s = .next t ∧
        t.queue q = rest ∧
        t.rd64 (HSL_TX_FRAMES p) = (s.rd64 (HSL_TX_FRAMES p) + 1) % 2 ^ 64 ∧
        t.rd64 (HSL_TX_BYTES p) = (s.rd64 (HSL_TX_BYTES p) + f.len) % 2 ^ 64 ∧
        t.rd64 (lkey (TMG_AUD_DEQUEUED q)) = (s.rd64 (lkey (TMG_AUD_DEQUEUED q)) + 1) % 2 ^ 64 ∧
        SameParts [.cyc, .tmg, .hsl] s t) ∧
  (∀ (pool : Fin 8) (i who : Nat) (s : State),
      (s.tmg.bufs.look (pool * 2 ^ 32 + i)).copies = 1 →
      (s.tmg.bufs.look (pool * 2 ^ 32 + i)).owner = some who →
      (s.tmg.bufs.look (pool * 2 ^ 32 + i)).departed = true →
      s.bufLost ((pool * 2 ^ 32 + i) / 2 ^ 32) ((pool * 2 ^ 32 + i) % 2 ^ 32) = false →
      i < 2 ^ 32 →
      s.g (BPM_POOL pool) BPM_POOL_FREE < 2 ^ 32 - 1 →
      ∃ t, exec (.bufferFree pool i who) s = .next t ∧
        t.tmg.bufs.look (pool * 2 ^ 32 + i) = default ∧
        t.g (BPM_POOL pool) BPM_POOL_FREE = s.g (BPM_POOL pool) BPM_POOL_FREE + 1 ∧
        SameParts [.tmg] s t ∧
        SameRegs noReg [BPM_POOL pool + 8, BPM_POOL pool + 12] s t) ∧
  (∀ (pool : Fin 8) (i who : Nat) (s : State),
      ((s.tmg.bufs.look (pool * 2 ^ 32 + i)).copies ≠ 1 ∨ (s.tmg.bufs.look (pool * 2 ^ 32 + i)).owner ≠ some who) →
      ∃ t, exec (.bufferFree pool i who) s = .next t ∧
        t.rd64 (BPM_FREE_REFUSED) = (s.rd64 (BPM_FREE_REFUSED) + 1) % 2 ^ 64 ∧
        Noted s t BPM_STATUS BPM_STATUS_FREE_REFUSED ∧
        SameParts [.irq, .cyc, .msi, .shu] s t ∧
        SameRegs irqReg [BPM_FREE_REFUSED, BPM_FREE_REFUSED + 4, BPM_STATUS] s t) ∧
  (∀ (pool : Fin 8) (i who : Nat) (s : State),
      (s.tmg.bufs.look (pool * 2 ^ 32 + i)).copies = 1 →
      (s.tmg.bufs.look (pool * 2 ^ 32 + i)).owner = some who →
      (s.tmg.bufs.look (pool * 2 ^ 32 + i)).departed = false →
      ∃ t, exec (.bufferFree pool i who) s = .next t ∧
        SameParts [] s t ∧
        SameRegs noReg [] s t) ∧
  (∀ (q : Fin 163840) (f : QFrame) (rest : List QFrame) (s : State),
      s.queue q = f :: rest →
      f.onChip = false →
      s.spillDebt = 0 →
      ∃ t, exec (.spillHeadFetch q false) s = .next t ∧
        t.queue q = { f with onChip := true } :: rest ∧
        t.rd64 (TMG_SPILL_BYTES) = (s.rd64 (TMG_SPILL_BYTES) + f.len) % 2 ^ 64 ∧
        SameParts [.tmg] s t ∧
        SameRegs noReg [TMG_SPILL_BYTES, TMG_SPILL_BYTES + 4] s t) ∧
  (∀ (q : Fin 163840) (f : QFrame) (rest : List QFrame) (s : State),
      s.queue q = f :: rest →
      f.onChip = false →
      s.spillDebt = 0 →
      ∃ t, exec (.spillHeadFetch q true) s = .next t ∧
        t.queue q = rest ∧
        t.rd64 (TMG_SPILL_BYTES) = (s.rd64 (TMG_SPILL_BYTES) + f.len) % 2 ^ 64 ∧
        t.rd64 (BPM_SPILL_UE) = (s.rd64 (BPM_SPILL_UE) + 1) % 2 ^ 64 ∧
        Noted s t BPM_STATUS BPM_STATUS_SPILL_UE ∧
        SameParts [.irq, .cyc, .msi, .shu, .tmg] s t) ∧
  (∀ (ag : Agent) (p : Fin 32) (v : Word) (s : State),
      s.reaches ag (TMG_UPORT p) = true →
      ∃ t, exec (.uportWrite ag p 0 v) s = .next t ∧
        (∀ b : Fin 32, (t.rd (TMG_UPORT p)).getLsbD b = if (rwBits (TMG_UPORT p)).testBit b then (v).getLsbD b else (s.rd (TMG_UPORT p)).getLsbD b) ∧
        SameParts [] s t ∧
        SameRegs noReg [TMG_UPORT p] s t) ∧
  (∀ (ag : Agent) (p : Fin 32) (v : Word) (s : State),
      s.reaches ag (TMG_UPORT p + 4) = true →
      ((s.wrRW (TMG_UPORT p + 4) v).g (TMG_UPORT p) TMG_UPORT_UBASE) + ((s.wrRW (TMG_UPORT p + 4) v).g (TMG_UPORT p) TMG_UPORT_USIZE) ≤ 32768 →
      (∀ k : Fin 32, ¬ (k ≠ p ∧ ((s.wrRW (TMG_UPORT p + 4) v).g (TMG_UPORT p) TMG_UPORT_USIZE) ≠ 0 ∧ s.g (fkey (TMG_UPORT k)) TMG_UPORT_USIZE ≠ 0 ∧ ((s.wrRW (TMG_UPORT p + 4) v).g (TMG_UPORT p) TMG_UPORT_UBASE) < s.g (fkey (TMG_UPORT k)) TMG_UPORT_UBASE + s.g (fkey (TMG_UPORT k)) TMG_UPORT_USIZE ∧ s.g (fkey (TMG_UPORT k)) TMG_UPORT_UBASE < ((s.wrRW (TMG_UPORT p + 4) v).g (TMG_UPORT p) TMG_UPORT_UBASE) + ((s.wrRW (TMG_UPORT p + 4) v).g (TMG_UPORT p) TMG_UPORT_USIZE))) →
      ∃ t, exec (.uportWrite ag p 1 v) s = .next t ∧
        t.rd (fkey (TMG_UPORT p)) = s.rd (TMG_UPORT p) ∧
        (∀ b : Fin 32, (t.rd (fkey (TMG_UPORT p) + 4)).getLsbD b = if (rwBits (TMG_UPORT p + 4)).testBit b then (v).getLsbD b else (s.rd (TMG_UPORT p + 4)).getLsbD b) ∧
        t.rd (TMG_UPORT p + 4) = t.rd (fkey (TMG_UPORT p) + 4) ∧
        SameParts [] s t ∧
        SameRegs noReg [TMG_UPORT p + 4, fkey (TMG_UPORT p), fkey (TMG_UPORT p) + 4] s t) ∧
  (∀ (ag : Agent) (p : Fin 32) (v : Word) (s : State),
      s.reaches ag (TMG_UPORT p + 4) = true →
      (32768 < ((s.wrRW (TMG_UPORT p + 4) v).g (TMG_UPORT p) TMG_UPORT_UBASE) + ((s.wrRW (TMG_UPORT p + 4) v).g (TMG_UPORT p) TMG_UPORT_USIZE) ∨ (∃ k : Fin 32, (k ≠ p ∧ ((s.wrRW (TMG_UPORT p + 4) v).g (TMG_UPORT p) TMG_UPORT_USIZE) ≠ 0 ∧ s.g (fkey (TMG_UPORT k)) TMG_UPORT_USIZE ≠ 0 ∧ ((s.wrRW (TMG_UPORT p + 4) v).g (TMG_UPORT p) TMG_UPORT_UBASE) < s.g (fkey (TMG_UPORT k)) TMG_UPORT_UBASE + s.g (fkey (TMG_UPORT k)) TMG_UPORT_USIZE ∧ s.g (fkey (TMG_UPORT k)) TMG_UPORT_UBASE < ((s.wrRW (TMG_UPORT p + 4) v).g (TMG_UPORT p) TMG_UPORT_UBASE) + ((s.wrRW (TMG_UPORT p + 4) v).g (TMG_UPORT p) TMG_UPORT_USIZE)))) →
      ∃ t, exec (.uportWrite ag p 1 v) s = .next t ∧
        t.rd (TMG_UPORT p) = s.rd (fkey (TMG_UPORT p)) ∧
        t.rd (TMG_UPORT p + 4) = s.rd (fkey (TMG_UPORT p) + 4) ∧
        Noted s t TMG_STATUS TMG_STATUS_UPORT_REFUSED ∧
        SameParts [.irq, .cyc, .msi, .shu] s t ∧
        SameRegs irqReg [TMG_UPORT p, TMG_UPORT p + 4, TMG_STATUS] s t) ∧
  (∀ (ag : Agent) (v : Word) (s : State),
      s.reaches ag TMG_FLUSH = true →
      v.getLsbD 31 = true →
      ((s.wrRW TMG_FLUSH v).g TMG_FLUSH TMG_FLUSH_SCOPE = 0 ∨ (s.wrRW TMG_FLUSH v).g TMG_FLUSH TMG_FLUSH_SCOPE = 3) →
      ((s.wrRW TMG_FLUSH v).g TMG_FLUSH TMG_FLUSH_INDEX) < 163840 →
      ∃ t, exec (.tmgFlush ag v) s = .next t ∧
        t.queue ((s.wrRW TMG_FLUSH v).g TMG_FLUSH TMG_FLUSH_INDEX) = (s.queue ((s.wrRW TMG_FLUSH v).g TMG_FLUSH TMG_FLUSH_INDEX)).drop ((s.queue ((s.wrRW TMG_FLUSH v).g TMG_FLUSH TMG_FLUSH_INDEX)).length - s.newest ((s.wrRW TMG_FLUSH v).g TMG_FLUSH TMG_FLUSH_INDEX)) ∧
        t.rd64 (lkey (TMG_AUD_DROPPED ((s.wrRW TMG_FLUSH v).g TMG_FLUSH TMG_FLUSH_INDEX))) = (s.rd64 (lkey (TMG_AUD_DROPPED ((s.wrRW TMG_FLUSH v).g TMG_FLUSH TMG_FLUSH_INDEX))) + ((s.queue ((s.wrRW TMG_FLUSH v).g TMG_FLUSH TMG_FLUSH_INDEX)).length - s.newest ((s.wrRW TMG_FLUSH v).g TMG_FLUSH TMG_FLUSH_INDEX))) % 2 ^ 64 ∧
        t.on TMG_FLUSH TMG_FLUSH_GO = true ∧
        SameParts [.tmg, .cyc] s t) ∧
  (∀ (ag : Agent) (v : Word) (s : State),
      s.reaches ag TMG_FLUSH = true →
      v.getLsbD 31 = true →
      (s.wrRW TMG_FLUSH v).g TMG_FLUSH TMG_FLUSH_SCOPE = 1 →
      ((s.wrRW TMG_FLUSH v).g TMG_FLUSH TMG_FLUSH_INDEX) < 64 →
      ∃ t, exec (.tmgFlush ag v) s = .next t ∧
        (∀ q : Fin 2048, t.queue (2048 * ((s.wrRW TMG_FLUSH v).g TMG_FLUSH TMG_FLUSH_INDEX) + q) = (s.queue (2048 * ((s.wrRW TMG_FLUSH v).g TMG_FLUSH TMG_FLUSH_INDEX) + q)).drop ((s.queue (2048 * ((s.wrRW TMG_FLUSH v).g TMG_FLUSH TMG_FLUSH_INDEX) + q)).length - s.newest (2048 * ((s.wrRW TMG_FLUSH v).g TMG_FLUSH TMG_FLUSH_INDEX) + q))) ∧
        t.on TMG_FLUSH TMG_FLUSH_GO = true ∧
        SameParts [.tmg, .cyc] s t) ∧
  (∀ (ag : Agent) (v : Word) (s : State),
      s.reaches ag TMG_FLUSH = true →
      v.getLsbD 31 = true →
      (s.wrRW TMG_FLUSH v).g TMG_FLUSH TMG_FLUSH_SCOPE = 2 →
      ((s.wrRW TMG_FLUSH v).g TMG_FLUSH TMG_FLUSH_INDEX) < 32 →
      ∃ t, exec (.tmgFlush ag v) s = .next t ∧
        (∀ k : Fin 32768, k.val < (s.g (fkey (TMG_UPORT ((s.wrRW TMG_FLUSH v).g TMG_FLUSH TMG_FLUSH_INDEX))) TMG_UPORT_USIZE) → t.queue (upBase + (s.g (fkey (TMG_UPORT ((s.wrRW TMG_FLUSH v).g TMG_FLUSH TMG_FLUSH_INDEX))) TMG_UPORT_UBASE) + k) = (s.queue (upBase + (s.g (fkey (TMG_UPORT ((s.wrRW TMG_FLUSH v).g TMG_FLUSH TMG_FLUSH_INDEX))) TMG_UPORT_UBASE) + k)).drop ((s.queue (upBase + (s.g (fkey (TMG_UPORT ((s.wrRW TMG_FLUSH v).g TMG_FLUSH TMG_FLUSH_INDEX))) TMG_UPORT_UBASE) + k)).length - s.newest (upBase + (s.g (fkey (TMG_UPORT ((s.wrRW TMG_FLUSH v).g TMG_FLUSH TMG_FLUSH_INDEX))) TMG_UPORT_UBASE) + k))) ∧
        t.on TMG_FLUSH TMG_FLUSH_GO = true ∧
        SameParts [.tmg, .cyc] s t) ∧
  (∀ (ag : Agent) (v : Word) (s : State),
      s.reaches ag TMG_FLUSH = true →
      v.getLsbD 31 = false →
      ∃ t, exec (.tmgFlush ag v) s = .next t ∧
        t.tmg = s.tmg ∧
        SameParts [] s t ∧
        SameRegs noReg [TMG_FLUSH] s t) ∧
  (∀ (s : State),
      s.on TMG_FLUSH TMG_FLUSH_GO = true →
      ∃ t, exec (.tmgFlushDone) s = .next t ∧
        t.on TMG_FLUSH TMG_FLUSH_GO = false ∧
        Noted s t TMG_STATUS TMG_STATUS_FLUSH_DONE ∧
        SameParts [.irq, .cyc, .msi, .shu] s t ∧
        SameRegs irqReg [TMG_FLUSH, TMG_STATUS] s t) ∧
  (∀ (s : State),
      s.on TMG_FLUSH TMG_FLUSH_GO = false →
      ∃ t, exec (.tmgFlushDone) s = .next t ∧
        SameParts [] s t ∧
        SameRegs noReg [] s t)

/-- A write to words 1 to 7 of an endpoint is stored. Word 0 with EN = 1 that no rule refuses puts all eight words in force, and a
fresh endpoint starts empty; a refused one restores word 0 and leaves its code in CFG_CODE. Word 0 with EN = 0 takes the endpoint
out of force and clears its defects, at once where no interchange frame has begun; else it stops at the next one, and written EN =
1 before that it stops and starts empty. LOC, LOM and AIS of an endpoint that runs are raised after their counts of frames and
cleared after theirs, LOP where its pointer is not held, PJE where the net justifications of a window exceed the limit; PJE clears
after three good windows. A raised or cleared defect changes its LIVE bit and is noted; one of a blanked channel counts in
TRB_BLANKED only. A second leaves the marks of the defects that still stand and goes into the bin of each length. -/
def Obligations.TributaryDefectsSettingsAndSeconds : Prop :=
  (∀ (ag : Agent) (k : Fin 4096) (w : Fin 8) (v : Word) (s : State),
      s.reaches ag (TRB_TRIB k + 4 * w) = true →
      w ≠ 0 →
      ∃ t, exec (.tribConfigWrite ag k w v) s = .next t ∧
        (∀ b : Fin 32, (t.rd (TRB_TRIB k + 4 * w)).getLsbD b = if (rwBits (TRB_TRIB k + 4 * w)).testBit b then (v).getLsbD b else (s.rd (TRB_TRIB k + 4 * w)).getLsbD b) ∧
        SameParts [] s t ∧
        SameRegs noReg [TRB_TRIB k + 4 * w] s t) ∧
  (∀ (ag : Agent) (k : Fin 4096) (v : Word) (s : State),
      s.reaches ag (TRB_TRIB k) = true →
      s.trb.stop.contains k = false →
      (s.wrRW (TRB_TRIB k) v).on (TRB_TRIB k) TRB_TRIB_EN = true →
      (s.wrRW (TRB_TRIB k) v).tribCode k = 0 →
      ∃ t, exec (.tribConfigWrite ag k 0 v) s = .next t ∧
        (∀ j : Fin 8, t.rd (fkey (TRB_TRIB k) + 4 * j) = (s.wrRW (TRB_TRIB k) v).rd (TRB_TRIB k + 4 * j)) ∧
        t.tOn k = true ∧
        (s.tOn k = false → t.ep k = { (default : Trib) with old := s.tribOld k }) ∧
        (s.tOn k = true → t.trb = s.trb) ∧
        SameParts [.trb] s t ∧
        SameRegs noReg [TRB_TRIB k, fkey (TRB_TRIB k), fkey (TRB_TRIB k) + 4, fkey (TRB_TRIB k) + 8, fkey (TRB_TRIB k) + 12, fkey (TRB_TRIB k) + 16, fkey (TRB_TRIB k) + 20, fkey (TRB_TRIB k) + 24, fkey (TRB_TRIB k) + 28] s t) ∧
  (∀ (ag : Agent) (k : Fin 4096) (v : Word) (s : State),
      s.reaches ag (TRB_TRIB k) = true →
      s.trb.stop.contains k = false →
      (s.wrRW (TRB_TRIB k) v).on (TRB_TRIB k) TRB_TRIB_EN = true →
      (s.wrRW (TRB_TRIB k) v).tribCode k ≠ 0 →
      ∃ t, exec (.tribConfigWrite ag k 0 v) s = .next t ∧
        t.rd (TRB_TRIB k) = s.rd (TRB_TRIB k) ∧
        t.g TRB_STATUS TRB_STATUS_CFG_CODE = (s.wrRW (TRB_TRIB k) v).tribCode k ∧
        Noted s t TRB_STATUS TRB_STATUS_CFG_REFUSED ∧
        SameParts [.irq, .cyc, .msi, .shu] s t ∧
        SameRegs irqReg [TRB_STATUS] s t) ∧
  (∀ (ag : Agent) (k : Fin 4096) (v : Word) (s : State),
      s.reaches ag (TRB_TRIB k) = true →
      s.trb.stop.contains k = true →
      v.getLsbD 31 = true →
      ((s.tribStop k).wrRW (TRB_TRIB k) v).tribCode k = 0 →
      ∃ t, exec (.tribConfigWrite ag k 0 v) s = .next t ∧
        t.tOn k = true ∧
        t.ep k = { (default : Trib) with old := s.tribOld k } ∧
        t.trb.stop = s.trb.stop.filter (fun x => decide (x ≠ k.val)) ∧
        SameParts [.irq, .cyc, .msi, .shu, .blt, .trb] s t ∧
        SameRegs boltReg [TRB_TRIB k, TRB_DEF k, fkey (TRB_TRIB k), fkey (TRB_TRIB k) + 4, fkey (TRB_TRIB k) + 8, fkey (TRB_TRIB k) + 12, fkey (TRB_TRIB k) + 16, fkey (TRB_TRIB k) + 20, fkey (TRB_TRIB k) + 24, fkey (TRB_TRIB k) + 28] s t) ∧
  (∀ (ag : Agent) (k : Fin 4096) (v : Word) (s : State),
      s.reaches ag (TRB_TRIB k) = true →
      (s.wrRW (TRB_TRIB k) v).on (TRB_TRIB k) TRB_TRIB_EN = false →
      s.tOn k = true →
      s.on TRB_CTL TRB_CTL_EN = true →
      s.trb.frame.isSome = true →
      ∃ t, exec (.tribConfigWrite ag k 0 v) s = .next t ∧
        t.trb = { s.trb with stop := if s.trb.stop.contains k then s.trb.stop else s.trb.stop ++ [k.val] } ∧
        SameParts [.trb] s t ∧
        SameRegs noReg [TRB_TRIB k] s t) ∧
  (∀ (ag : Agent) (k : Fin 4096) (v : Word) (s : State),
      s.reaches ag (TRB_TRIB k) = true →
      (s.wrRW (TRB_TRIB k) v).on (TRB_TRIB k) TRB_TRIB_EN = false →
      (s.tOn k = false ∨ s.on TRB_CTL TRB_CTL_EN = false ∨ s.trb.frame = none) →
      ∃ t, exec (.tribConfigWrite ag k 0 v) s = .next t ∧
        t.tOn k = false ∧
        t.rd (TRB_TRIB k) = (s.wrRW (TRB_TRIB k) v).rd (TRB_TRIB k) ∧
        (s.tOn k = true → t.tBad k = false) ∧
        SameParts [.irq, .cyc, .msi, .shu, .blt, .trb] s t ∧
        SameRegs boltReg [TRB_TRIB k, TRB_DEF k, fkey (TRB_TRIB k), fkey (TRB_TRIB k) + 4, fkey (TRB_TRIB k) + 8, fkey (TRB_TRIB k) + 12, fkey (TRB_TRIB k) + 16, fkey (TRB_TRIB k) + 20, fkey (TRB_TRIB k) + 24, fkey (TRB_TRIB k) + 28] s t) ∧
  (∀ (k : Fin 4096) (s : State),
      s.tRuns k = true →
      s.on (TRB_DEF k) TRB_DEF_LOC_LIVE = false →
      s.locSet k ≤ (s.ep k).missRun →
      ∃ t, exec (.tribLocRaise k) s = .next t ∧
        t.on (TRB_DEF k) TRB_DEF_LOC_LIVE = true ∧
        Noted s t (TRB_DEF k) TRB_DEF_LOC ∧
        (t.ep k).defSec = true ∧
        (∀ q, q ≠ k.val → t.ep q = s.ep q) ∧
        SameParts [.irq, .cyc, .msi, .shu, .blt, .trb] s t ∧
        SameRegs boltReg [TRB_DEF k] s t) ∧
  (∀ (k : Fin 4096) (s : State),
      (s.tRuns k = false ∨ s.on (TRB_DEF k) TRB_DEF_LOC_LIVE = true) →
      ∃ t, exec (.tribLocRaise k) s = .next t ∧
        SameParts [] s t ∧
        SameRegs noReg [] s t) ∧
  (∀ (k : Fin 4096) (s : State),
      s.on (TRB_DEF k) TRB_DEF_LOC_LIVE = false →
      ∃ t, exec (.tribLocClear k) s = .next t ∧
        SameParts [] s t ∧
        SameRegs noReg [] s t) ∧
  (∀ (k : Fin 4096) (s : State),
      s.on (TRB_DEF k) TRB_DEF_LOC_LIVE = true →
      atLeast1 (s.g TRB_DEF_CTL TRB_DEF_CTL_LOC_CLR) ≤ (s.ep k).gotRun →
      ∃ t, exec (.tribLocClear k) s = .next t ∧
        t.on (TRB_DEF k) TRB_DEF_LOC_LIVE = false ∧
        Noted s t (TRB_DEF k) TRB_DEF_LOC ∧
        SameParts [.irq, .cyc, .msi, .shu, .blt] s t ∧
        SameRegs boltReg [TRB_DEF k] s t) ∧
  (∀ (k : Fin 4096) (s : State),
      s.tRuns k = true →
      s.on (TRB_DEF k) TRB_DEF_LOM_LIVE = false →
      s.tcfg k TRB_TRIB_KIND = 0 →
      16 ≤ (s.ep k).searchRun →
      (s.pch.look (s.tcfg k TRB_TRIB_CHANNEL)).tribBlank = false →
      ∃ t, exec (.tribLomRaise k) s = .next t ∧
        t.on (TRB_DEF k) TRB_DEF_LOM_LIVE = true ∧
        Noted s t (TRB_DEF k) TRB_DEF_LOM ∧
        (t.ep k).defSec = true ∧
        (∀ q, q ≠ k.val → t.ep q = s.ep q) ∧
        SameParts [.irq, .cyc, .msi, .shu, .blt, .trb] s t ∧
        SameRegs boltReg [TRB_DEF k] s t) ∧
  (∀ (k : Fin 4096) (s : State),
      (s.tRuns k = false ∨ s.on (TRB_DEF k) TRB_DEF_LOM_LIVE = true) →
      ∃ t, exec (.tribLomRaise k) s = .next t ∧
        SameParts [] s t ∧
        SameRegs noReg [] s t) ∧
  (∀ (k : Fin 4096) (s : State),
      s.tRuns k = true →
      s.on (TRB_DEF k) TRB_DEF_LOM_LIVE = false →
      s.tcfg k TRB_TRIB_KIND = 0 →
      16 ≤ (s.ep k).searchRun →
      (s.pch.look (s.tcfg k TRB_TRIB_CHANNEL)).tribBlank = true →
      ∃ t, exec (.tribLomRaise k) s = .next t ∧
        t.rd64 (TRB_BLANKED) = (s.rd64 (TRB_BLANKED) + 1) % 2 ^ 64 ∧
        SameParts [] s t ∧
        SameRegs noReg [TRB_BLANKED, TRB_BLANKED + 4] s t) ∧
  (∀ (k : Fin 4096) (s : State),
      s.on (TRB_DEF k) TRB_DEF_LOM_LIVE = false →
      ∃ t, exec (.tribLomClear k) s = .next t ∧
        SameParts [] s t ∧
        SameRegs noReg [] s t) ∧
  (∀ (k : Fin 4096) (s : State),
      s.on (TRB_DEF k) TRB_DEF_LOM_LIVE = true →
      16 ≤ (s.ep k).alignRun →
      ∃ t, exec (.tribLomClear k) s = .next t ∧
        t.on (TRB_DEF k) TRB_DEF_LOM_LIVE = false ∧
        Noted s t (TRB_DEF k) TRB_DEF_LOM ∧
        SameParts [.irq, .cyc, .msi, .shu, .blt] s t ∧
        SameRegs boltReg [TRB_DEF k] s t) ∧
  (∀ (k : Fin 4096) (s : State),
      s.tRuns k = true →
      s.on (TRB_DEF k) TRB_DEF_AIS_LIVE = false →
      3 ≤ (s.ep k).aisRun →
      ∃ t, exec (.tribAisRaise k) s = .next t ∧
        t.on (TRB_DEF k) TRB_DEF_AIS_LIVE = true ∧
        Noted s t (TRB_DEF k) TRB_DEF_AIS ∧
        (t.ep k).defSec = true ∧
        (∀ q, q ≠ k.val → t.ep q = s.ep q) ∧
        SameParts [.irq, .cyc, .msi, .shu, .blt, .trb] s t ∧
        SameRegs boltReg [TRB_DEF k] s t) ∧
  (∀ (k : Fin 4096) (s : State),
      (s.tRuns k = false ∨ s.on (TRB_DEF k) TRB_DEF_AIS_LIVE = true) →
      ∃ t, exec (.tribAisRaise k) s = .next t ∧
        SameParts [] s t ∧
        SameRegs noReg [] s t) ∧
  (∀ (k : Fin 4096) (s : State),
      s.on (TRB_DEF k) TRB_DEF_AIS_LIVE = false →
      ∃ t, exec (.tribAisClear k) s = .next t ∧
        SameParts [] s t ∧
        SameRegs noReg [] s t) ∧
  (∀ (k : Fin 4096) (s : State),
      s.on (TRB_DEF k) TRB_DEF_AIS_LIVE = true →
      3 ≤ (s.ep k).clearRun →
      ∃ t, exec (.tribAisClear k) s = .next t ∧
        t.on (TRB_DEF k) TRB_DEF_AIS_LIVE = false ∧
        Noted s t (TRB_DEF k) TRB_DEF_AIS ∧
        SameParts [.irq, .cyc, .msi, .shu, .blt] s t ∧
        SameRegs boltReg [TRB_DEF k] s t) ∧
  (∀ (k : Fin 4096) (s : State),
      s.tRuns k = true →
      s.on (TRB_DEF k) TRB_DEF_LOP_LIVE = false →
      s.lopHolds k = true →
      (s.pch.look (s.tcfg k TRB_TRIB_CHANNEL)).tribBlank = false →
      ∃ t, exec (.tribLopRaise k) s = .next t ∧
        t.on (TRB_DEF k) TRB_DEF_LOP_LIVE = true ∧
        Noted s t (TRB_DEF k) TRB_DEF_LOP ∧
        (t.ep k).defSec = true ∧
        (∀ q, q ≠ k.val → t.ep q = s.ep q) ∧
        SameParts [.irq, .cyc, .msi, .shu, .blt, .trb] s t ∧
        SameRegs boltReg [TRB_DEF k] s t) ∧
  (∀ (k : Fin 4096) (s : State),
      (s.tRuns k = false ∨ s.on (TRB_DEF k) TRB_DEF_LOP_LIVE = true) →
      ∃ t, exec (.tribLopRaise k) s = .next t ∧
        SameParts [] s t ∧
        SameRegs noReg [] s t) ∧
  (∀ (k : Fin 4096) (s : State),
      s.tRuns k = true →
      s.tcfg k TRB_TRIB_KIND = 0 →
      s.tcfg k TRB_TRIB_TYPE = 0 →
      s.pjeOver k = true →
      s.on (TRB_DEF k) TRB_DEF_PJE_LIVE = false →
      (s.pch.look (s.tcfg k TRB_TRIB_CHANNEL)).tribBlank = false →
      ∃ t, exec (.tribPjeWindow k) s = .next t ∧
        t.on (TRB_DEF k) TRB_DEF_PJE_LIVE = true ∧
        Noted s t (TRB_DEF k) TRB_DEF_PJE ∧
        (t.ep k).net = 0 ∧
        (t.ep k).pjeGood = 0 ∧
        (t.ep k).defSec = true ∧
        SameParts [.irq, .cyc, .msi, .shu, .blt, .trb] s t ∧
        SameRegs boltReg [TRB_DEF k] s t) ∧
  (∀ (k : Fin 4096) (s : State),
      s.tRuns k = true →
      s.tcfg k TRB_TRIB_KIND = 0 →
      s.tcfg k TRB_TRIB_TYPE = 0 →
      s.pjeOver k = false →
      2 ≤ (s.ep k).pjeGood →
      s.on (TRB_DEF k) TRB_DEF_PJE_LIVE = true →
      ∃ t, exec (.tribPjeWindow k) s = .next t ∧
        t.on (TRB_DEF k) TRB_DEF_PJE_LIVE = false ∧
        Noted s t (TRB_DEF k) TRB_DEF_PJE ∧
        t.ep k = { s.ep k with net := 0, pjeGood := (s.ep k).pjeGood + 1 } ∧
        SameParts [.irq, .cyc, .msi, .shu, .blt, .trb] s t ∧
        SameRegs boltReg [TRB_DEF k] s t) ∧
  (∀ (k : Fin 4096) (s : State),
      s.tRuns k = true →
      s.tcfg k TRB_TRIB_KIND = 0 →
      s.tcfg k TRB_TRIB_TYPE = 0 →
      s.pjeOver k = false →
      (s.ep k).pjeGood < 2 →
      ∃ t, exec (.tribPjeWindow k) s = .next t ∧
        t.ep k = { s.ep k with net := 0, pjeGood := (s.ep k).pjeGood + 1 } ∧
        SameParts [.trb] s t ∧
        SameRegs noReg [] s t) ∧
  (∀ (k : Fin 4096) (s : State),
      s.tOn k = true →
      (s.blt.bins.look (4 * pmTrib k + 2 * 0)).start ≤ s.tim.sec - 1 →
      (s.blt.bins.look (4 * pmTrib k + 2 * 1)).start ≤ s.tim.sec - 1 →
      ∃ t, exec (.tribPmSecond k) s = .next t ∧
        (t.ep k).old = s.tribOld k ∧
        (t.ep k).locSec = s.on (TRB_DEF k) TRB_DEF_LOC_LIVE ∧
        (t.ep k).aisSec = s.on (TRB_DEF k) TRB_DEF_AIS_LIVE ∧
        (t.ep k).defSec = (s.tBad k || s.on (TRB_DEF k) TRB_DEF_PJE_LIVE) ∧
        (t.ep k).sevSec = (s.on (TRB_DEF k) TRB_DEF_LOC_LIVE || s.on (TRB_DEF k) TRB_DEF_LOM_LIVE || s.on (TRB_DEF k) TRB_DEF_LOP_LIVE) ∧
        ((s.ep k).sevSec = true → (t.ep k).sesRun = (s.ep k).sesRun + 1) ∧
        (t.blt.bins.look (4 * pmTrib k + 2 * 0)).elapsed = (s.blt.bins.look (4 * pmTrib k + 2 * 0)).elapsed + 1 ∧
        (t.blt.bins.look (4 * pmTrib k + 2 * 1)).elapsed = (s.blt.bins.look (4 * pmTrib k + 2 * 1)).elapsed + 1 ∧
        SameParts [.irq, .cyc, .msi, .shu, .blt, .trb] s t ∧
        SameRegs boltReg [] s t) ∧
  (∀ (k : Fin 4096) (s : State),
      s.tOn k = false →
      ∃ t, exec (.tribPmSecond k) s = .next t ∧
        SameParts [] s t ∧
        SameRegs noReg [] s t)

/-- The oldest received frame from a PON channel leaves the queue: for an endpoint not in force it counts DISABLED_RX, of another
kind, channel or port-ID KIND_MISMATCH, of a frame already seen DUP; on an aligned endpoint a container with a good header in
sequence counts RX_UNITS and another HDR_BAD, and in search the third good header in sequence aligns. The oldest frame from an
uplink lane likewise: of a wrong length it counts PW_MALFORMED, a late or repeated one PW_LATE, and one within the jitter buffer
counts RX_UNITS and stands in it under its sequence number. A JC decision is none within three frames of the last justification,
else by the fill against the centre. An interchange frame advances by one, gives each structured container endpoint with room the
connected bytes of the frame before, stops the endpoints that are to stop, and at a multiframe with SWITCH set before this cycle
first swaps the pages. SWITCH and COPY are set where neither is, COPY beside SWITCH being refused; a copy's end makes the standby
page the active one, but for the entries written behind the copy. -/
def Obligations.ContainersPacketsAndInterchange : Prop :=
  (∀ (n : Nat) (f : PFrame) (s : State),
      s.trb.rx.find? (fun e => decide (32 ≤ e.2.src)) = some (n, f) →
      (s.tRuns n = false ∨ s.on TRB_CTL TRB_CTL_EN = false) →
      ∃ t, exec (.containerReceive) s = .next t ∧
        t.trb.rx = s.trb.rx.erase (n, f) ∧
        t.rd64 (TRB_STAT_DISABLED_RX n) = (s.rd64 (TRB_STAT_DISABLED_RX n) + 1) % 2 ^ 64 ∧
        SameParts [.trb] s t ∧
        SameRegs noReg [TRB_STAT_DISABLED_RX n, TRB_STAT_DISABLED_RX n + 4] s t) ∧
  (∀ (n : Nat) (f : PFrame) (s : State),
      s.trb.rx.find? (fun e => decide (32 ≤ e.2.src)) = some (n, f) →
      s.tRuns n = true →
      s.on TRB_CTL TRB_CTL_EN = true →
      (s.tcfg n TRB_TRIB_KIND ≠ 0 ∨ f.src ≠ 32 + s.tcfg n TRB_TRIB_CHANNEL ∨ f.port ≠ s.tcfg n TRB_TRIB_PORT_ID) →
      ∃ t, exec (.containerReceive) s = .next t ∧
        t.trb.rx = s.trb.rx.erase (n, f) ∧
        t.rd64 (TRB_STAT_KIND_MISMATCH n) = (s.rd64 (TRB_STAT_KIND_MISMATCH n) + 1) % 2 ^ 64 ∧
        SameParts [.trb] s t ∧
        SameRegs noReg [TRB_STAT_KIND_MISMATCH n, TRB_STAT_KIND_MISMATCH n + 4] s t) ∧
  (∀ (n : Nat) (f : PFrame) (s : State),
      s.trb.rx.find? (fun e => decide (32 ≤ e.2.src)) = some (n, f) →
      s.tRuns n = true →
      s.on TRB_CTL TRB_CTL_EN = true →
      s.tcfg n TRB_TRIB_KIND = 0 →
      f.src = 32 + s.tcfg n TRB_TRIB_CHANNEL →
      f.port = s.tcfg n TRB_TRIB_PORT_ID →
      (s.ep n).frame = some f.frame →
      ∃ t, exec (.containerReceive) s = .next t ∧
        t.trb.rx = s.trb.rx.erase (n, f) ∧
        t.rd64 (TRB_STAT_DUP n) = (s.rd64 (TRB_STAT_DUP n) + 1) % 2 ^ 64 ∧
        SameParts [.trb] s t ∧
        SameRegs noReg [TRB_STAT_DUP n, TRB_STAT_DUP n + 4] s t) ∧
  (∀ (n : Nat) (f : PFrame) (s : State),
      s.trb.rx.find? (fun e => decide (32 ≤ e.2.src)) = some (n, f) →
      s.tRuns n = true →
      s.on TRB_CTL TRB_CTL_EN = true →
      s.tcfg n TRB_TRIB_KIND = 0 →
      f.src = 32 + s.tcfg n TRB_TRIB_CHANNEL →
      f.port = s.tcfg n TRB_TRIB_PORT_ID →
      (s.ep n).frame ≠ some f.frame →
      (s.ep n).aligned = true →
      crc8 (f.bytes.take 3) = ((f.bytes.drop 3).head?.getD 0).toNat →
      5 + s.tPay n ≤ f.bytes.length →
      beNat (f.bytes.take 3) / 2 ^ 20 = (f.frame + (s.ep n).ofs) % 16 →
      ∃ t, exec (.containerReceive) s = .next t ∧
        t.trb.rx = s.trb.rx.erase (n, f) ∧
        t.rd64 (TRB_STAT_RX_UNITS n) = (s.rd64 (TRB_STAT_RX_UNITS n) + 1) % 2 ^ 64 ∧
        (t.ep n).bad = 0 ∧
        (t.ep n).frame = some f.frame ∧
        (t.ep n).got = true ∧
        (t.ep n).missRun = 0 ∧
        (t.ep n).gotRun = (s.ep n).gotRun + 1 ∧
        SameParts [.irq, .cyc, .msi, .shu, .blt, .tmg, .hsl, .trb] s t) ∧
  (∀ (n : Nat) (f : PFrame) (s : State),
      s.trb.rx.find? (fun e => decide (32 ≤ e.2.src)) = some (n, f) →
      s.tRuns n = true →
      s.on TRB_CTL TRB_CTL_EN = true →
      s.tcfg n TRB_TRIB_KIND = 0 →
      f.src = 32 + s.tcfg n TRB_TRIB_CHANNEL →
      f.port = s.tcfg n TRB_TRIB_PORT_ID →
      (s.ep n).frame ≠ some f.frame →
      (s.ep n).aligned = true →
      ¬ (crc8 (f.bytes.take 3) = ((f.bytes.drop 3).head?.getD 0).toNat ∧ 5 + s.tPay n ≤ f.bytes.length ∧ beNat (f.bytes.take 3) / 2 ^ 20 = (f.frame + (s.ep n).ofs) % 16) →
      ∃ t, exec (.containerReceive) s = .next t ∧
        t.trb.rx = s.trb.rx.erase (n, f) ∧
        t.rd64 (TRB_STAT_HDR_BAD n) = (s.rd64 (TRB_STAT_HDR_BAD n) + 1) % 2 ^ 64 ∧
        (t.ep n).aligned = decide ((s.ep n).bad < 3) ∧
        (t.ep n).frame = some f.frame ∧
        (t.ep n).got = true ∧
        (t.ep n).missRun = 0 ∧
        (t.ep n).gotRun = (s.ep n).gotRun + 1 ∧
        SameParts [.irq, .cyc, .msi, .shu, .blt, .tmg, .hsl, .trb] s t) ∧
  (∀ (n : Nat) (f : PFrame) (s : State),
      s.trb.rx.find? (fun e => decide (32 ≤ e.2.src)) = some (n, f) →
      s.tRuns n = true →
      s.on TRB_CTL TRB_CTL_EN = true →
      s.tcfg n TRB_TRIB_KIND = 0 →
      f.src = 32 + s.tcfg n TRB_TRIB_CHANNEL →
      f.port = s.tcfg n TRB_TRIB_PORT_ID →
      (s.ep n).frame ≠ some f.frame →
      (s.ep n).aligned = false →
      crc8 (f.bytes.take 3) = ((f.bytes.drop 3).head?.getD 0).toNat →
      5 + s.tPay n ≤ f.bytes.length →
      2 ≤ (s.ep n).run →
      (s.ep n).frame = some (f.frame - 1) →
      0 < f.frame →
      beNat (f.bytes.take 3) / 2 ^ 20 = ((s.ep n).mfi + 1) % 16 →
      ∃ t, exec (.containerReceive) s = .next t ∧
        t.trb.rx = s.trb.rx.erase (n, f) ∧
        (t.ep n).aligned = true ∧
        (t.ep n).ofs = (beNat (f.bytes.take 3) / 2 ^ 20 + 16 - f.frame % 16) % 16 ∧
        (t.ep n).frame = some f.frame ∧
        (t.ep n).got = true ∧
        (t.ep n).missRun = 0 ∧
        (t.ep n).gotRun = (s.ep n).gotRun + 1 ∧
        SameParts [.irq, .cyc, .msi, .shu, .blt, .tmg, .hsl, .trb] s t) ∧
  (∀ (n : Nat) (f : PFrame) (s : State),
      s.trb.rx.find? (fun e => decide (32 ≤ e.2.src)) = some (n, f) →
      s.tRuns n = true →
      s.on TRB_CTL TRB_CTL_EN = true →
      s.tcfg n TRB_TRIB_KIND = 0 →
      f.src = 32 + s.tcfg n TRB_TRIB_CHANNEL →
      f.port = s.tcfg n TRB_TRIB_PORT_ID →
      (s.ep n).frame ≠ some f.frame →
      (s.ep n).aligned = false →
      ¬ (crc8 (f.bytes.take 3) = ((f.bytes.drop 3).head?.getD 0).toNat ∧ 5 + s.tPay n ≤ f.bytes.length) →
      ∃ t, exec (.containerReceive) s = .next t ∧
        t.trb.rx = s.trb.rx.erase (n, f) ∧
        (t.ep n).aligned = false ∧
        (t.ep n).run = 0 ∧
        (t.ep n).frame = some f.frame ∧
        (t.ep n).got = true ∧
        (t.ep n).missRun = 0 ∧
        (t.ep n).gotRun = (s.ep n).gotRun + 1 ∧
        SameParts [.irq, .cyc, .msi, .shu, .blt, .tmg, .hsl, .trb] s t) ∧
  (∀ (n : Nat) (f : PFrame) (s : State),
      s.trb.rx.find? (fun e => decide (e.2.src < 32)) = some (n, f) →
      (s.tRuns n = false ∨ s.on TRB_CTL TRB_CTL_EN = false) →
      ∃ t, exec (.pwPacketReceive) s = .next t ∧
        t.trb.rx = s.trb.rx.erase (n, f) ∧
        t.rd64 (TRB_STAT_DISABLED_RX n) = (s.rd64 (TRB_STAT_DISABLED_RX n) + 1) % 2 ^ 64 ∧
        SameParts [.trb] s t ∧
        SameRegs noReg [TRB_STAT_DISABLED_RX n, TRB_STAT_DISABLED_RX n + 4] s t) ∧
  (∀ (n : Nat) (f : PFrame) (s : State),
      s.trb.rx.find? (fun e => decide (e.2.src < 32)) = some (n, f) →
      s.tRuns n = true →
      s.on TRB_CTL TRB_CTL_EN = true →
      s.tcfg n TRB_TRIB_KIND ≠ 1 →
      ∃ t, exec (.pwPacketReceive) s = .next t ∧
        t.trb.rx = s.trb.rx.erase (n, f) ∧
        t.rd64 (TRB_STAT_KIND_MISMATCH n) = (s.rd64 (TRB_STAT_KIND_MISMATCH n) + 1) % 2 ^ 64 ∧
        SameParts [.trb] s t ∧
        SameRegs noReg [TRB_STAT_KIND_MISMATCH n, TRB_STAT_KIND_MISMATCH n + 4] s t) ∧
  (∀ (n : Nat) (f : PFrame) (s : State),
      s.trb.rx.find? (fun e => decide (e.2.src < 32)) = some (n, f) →
      s.tRuns n = true →
      s.on TRB_CTL TRB_CTL_EN = true →
      s.tcfg n TRB_TRIB_KIND = 1 →
      f.bytes.length ≠ (s.tcfg n TRB_TRIB_RX_CW_OFS + 4 + 12 * s.tcfg n TRB_TRIB_RTP) + (s.tFpp n * s.tPay n) →
      ∃ t, exec (.pwPacketReceive) s = .next t ∧
        t.trb.rx = s.trb.rx.erase (n, f) ∧
        t.rd64 (TRB_STAT_PW_MALFORMED n) = (s.rd64 (TRB_STAT_PW_MALFORMED n) + 1) % 2 ^ 64 ∧
        SameParts [.trb] s t ∧
        SameRegs noReg [TRB_STAT_PW_MALFORMED n, TRB_STAT_PW_MALFORMED n + 4] s t) ∧
  (∀ (n : Nat) (f : PFrame) (s : State),
      s.trb.rx.find? (fun e => decide (e.2.src < 32)) = some (n, f) →
      s.tRuns n = true →
      s.on TRB_CTL TRB_CTL_EN = true →
      s.tcfg n TRB_TRIB_KIND = 1 →
      f.bytes.length = (s.tcfg n TRB_TRIB_RX_CW_OFS + 4 + 12 * s.tcfg n TRB_TRIB_RTP) + (s.tFpp n * s.tPay n) →
      ((((beNat ((f.bytes.drop (s.tcfg n TRB_TRIB_RX_CW_OFS)).take 4)) % 65536) + 65536 - (s.ep n).next.getD ((beNat ((f.bytes.drop (s.tcfg n TRB_TRIB_RX_CW_OFS)).take 4)) % 65536)) % 65536) ≤ cdiv (s.tJb n) (s.tFpp n) →
      (s.ep n).jb.look ((beNat ((f.bytes.drop (s.tcfg n TRB_TRIB_RX_CW_OFS)).take 4)) % 65536) = [] →
      ∃ t, exec (.pwPacketReceive) s = .next t ∧
        t.trb.rx = s.trb.rx.erase (n, f) ∧
        t.rd64 (TRB_STAT_RX_UNITS n) = (s.rd64 (TRB_STAT_RX_UNITS n) + 1) % 2 ^ 64 ∧
        (t.ep n).jb.look ((beNat ((f.bytes.drop (s.tcfg n TRB_TRIB_RX_CW_OFS)).take 4)) % 65536) = (if bit (beNat ((f.bytes.drop (s.tcfg n TRB_TRIB_RX_CW_OFS)).take 4)) 27 then List.replicate (s.tFpp n * s.tPay n) 0xFF else f.bytes.drop (s.tcfg n TRB_TRIB_RX_CW_OFS + 4 + 12 * s.tcfg n TRB_TRIB_RTP)) ∧
        (t.ep n).got = true ∧
        (t.ep n).missRun = 0 ∧
        t.g (TRB_DEF n) TRB_DEF_RDI_LIVE = (beNat ((f.bytes.drop (s.tcfg n TRB_TRIB_RX_CW_OFS)).take 4)) / 2 ^ 26 % 2 ∧
        SameParts [.trb] s t ∧
        SameRegs noReg [TRB_DEF n, TRB_STAT_RX_UNITS n, TRB_STAT_RX_UNITS n + 4] s t) ∧
  (∀ (n : Nat) (f : PFrame) (s : State),
      s.trb.rx.find? (fun e => decide (e.2.src < 32)) = some (n, f) →
      s.tRuns n = true →
      s.on TRB_CTL TRB_CTL_EN = true →
      s.tcfg n TRB_TRIB_KIND = 1 →
      f.bytes.length = (s.tcfg n TRB_TRIB_RX_CW_OFS + 4 + 12 * s.tcfg n TRB_TRIB_RTP) + (s.tFpp n * s.tPay n) →
      (32768 ≤ ((((beNat ((f.bytes.drop (s.tcfg n TRB_TRIB_RX_CW_OFS)).take 4)) % 65536) + 65536 - (s.ep n).next.getD ((beNat ((f.bytes.drop (s.tcfg n TRB_TRIB_RX_CW_OFS)).take 4)) % 65536)) % 65536) ∨ (s.ep n).jb.look ((beNat ((f.bytes.drop (s.tcfg n TRB_TRIB_RX_CW_OFS)).take 4)) % 65536) ≠ []) →
      ∃ t, exec (.pwPacketReceive) s = .next t ∧
        t.trb.rx = s.trb.rx.erase (n, f) ∧
        t.rd64 (TRB_STAT_PW_LATE n) = (s.rd64 (TRB_STAT_PW_LATE n) + 1) % 2 ^ 64 ∧
        (t.ep n).jb = (s.ep n).jb ∧
        (t.ep n).got = true ∧
        (t.ep n).missRun = 0 ∧
        t.g (TRB_DEF n) TRB_DEF_RDI_LIVE = (beNat ((f.bytes.drop (s.tcfg n TRB_TRIB_RX_CW_OFS)).take 4)) / 2 ^ 26 % 2 ∧
        SameParts [.trb] s t ∧
        SameRegs noReg [TRB_DEF n, TRB_STAT_PW_LATE n, TRB_STAT_PW_LATE n + 4] s t) ∧
  (∀ (n : Nat) (f : PFrame) (s : State),
      s.trb.rx.find? (fun e => decide (e.2.src < 32)) = some (n, f) →
      s.tRuns n = true →
      s.on TRB_CTL TRB_CTL_EN = true →
      s.tcfg n TRB_TRIB_KIND = 1 →
      f.bytes.length = (s.tcfg n TRB_TRIB_RX_CW_OFS + 4 + 12 * s.tcfg n TRB_TRIB_RTP) + (s.tFpp n * s.tPay n) →
      cdiv (s.tJb n) (s.tFpp n) < ((((beNat ((f.bytes.drop (s.tcfg n TRB_TRIB_RX_CW_OFS)).take 4)) % 65536) + 65536 - (s.ep n).next.getD ((beNat ((f.bytes.drop (s.tcfg n TRB_TRIB_RX_CW_OFS)).take 4)) % 65536)) % 65536) →
      ((((beNat ((f.bytes.drop (s.tcfg n TRB_TRIB_RX_CW_OFS)).take 4)) % 65536) + 65536 - (s.ep n).next.getD ((beNat ((f.bytes.drop (s.tcfg n TRB_TRIB_RX_CW_OFS)).take 4)) % 65536)) % 65536) < 32768 →
      (s.ep n).jb.look ((beNat ((f.bytes.drop (s.tcfg n TRB_TRIB_RX_CW_OFS)).take 4)) % 65536) = [] →
      ∃ t, exec (.pwPacketReceive) s = .next t ∧
        t.trb.rx = s.trb.rx.erase (n, f) ∧
        t.rd64 (TRB_STAT_RX_UNITS n) = (s.rd64 (TRB_STAT_RX_UNITS n) + 1) % 2 ^ 64 ∧
        t.rd64 (TRB_STAT_JB_OVER n) = (s.rd64 (TRB_STAT_JB_OVER n) + 1) % 2 ^ 64 ∧
        (s.tcfg n TRB_TRIB_TYPE ≠ 0 → t.rd64 (TRB_STAT_SLIPS n) = (s.rd64 (TRB_STAT_SLIPS n) + 1) % 2 ^ 64) ∧
        (t.ep n).next = some ((((beNat ((f.bytes.drop (s.tcfg n TRB_TRIB_RX_CW_OFS)).take 4)) % 65536) + 65536 - cdiv (s.tJb n) (s.tFpp n) / 2) % 65536) ∧
        (t.ep n).jb.look ((beNat ((f.bytes.drop (s.tcfg n TRB_TRIB_RX_CW_OFS)).take 4)) % 65536) = (if bit (beNat ((f.bytes.drop (s.tcfg n TRB_TRIB_RX_CW_OFS)).take 4)) 27 then List.replicate (s.tFpp n * s.tPay n) 0xFF else f.bytes.drop (s.tcfg n TRB_TRIB_RX_CW_OFS + 4 + 12 * s.tcfg n TRB_TRIB_RTP)) ∧
        (t.ep n).got = true ∧
        (t.ep n).missRun = 0 ∧
        t.g (TRB_DEF n) TRB_DEF_RDI_LIVE = (beNat ((f.bytes.drop (s.tcfg n TRB_TRIB_RX_CW_OFS)).take 4)) / 2 ^ 26 % 2 ∧
        SameParts [.trb] s t ∧
        SameRegs noReg [TRB_DEF n, TRB_STAT_RX_UNITS n, TRB_STAT_RX_UNITS n + 4, TRB_STAT_JB_OVER n, TRB_STAT_JB_OVER n + 4, TRB_STAT_SLIPS n, TRB_STAT_SLIPS n + 4] s t) ∧
  (∀ (k : Fin 4096) (s : State),
      s.tOn k = true →
      s.tcfg k TRB_TRIB_KIND = 0 →
      s.tcfg k TRB_TRIB_TYPE = 0 →
      (s.ep k).sent = none →
      ∃ t, exec (.jcDecision k) s = .next t ∧
        t.ep k = { s.ep k with jc := some (if 16 * s.tJb k + 32 < s.tFill k then 2 else if s.tFill k + 32 < 16 * s.tJb k then 1 else 0) } ∧
        SameParts [.trb] s t ∧
        SameRegs noReg [] s t) ∧
  (∀ (k : Fin 4096) (j : Nat) (s : State),
      s.tOn k = true →
      s.tcfg k TRB_TRIB_KIND = 0 →
      s.tcfg k TRB_TRIB_TYPE = 0 →
      (s.ep k).sent = some j →
      ∃ t, exec (.jcDecision k) s = .next t ∧
        t.ep k = { s.ep k with jc := some (if (s.rd64 (DSF_SFC (s.tcfg k TRB_TRIB_CHANNEL)) + 1) ≤ j + 3 then 0 else if 16 * s.tJb k + 32 < s.tFill k then 2 else if s.tFill k + 32 < 16 * s.tJb k then 1 else 0) } ∧
        SameParts [.trb] s t ∧
        SameRegs noReg [] s t) ∧
  (∀ (n : Nat) (s : State),
      s.on TRB_CTL TRB_CTL_EN = true →
      s.trb.frame = some n →
      ((n + 1) % 16 ≠ 0 ∨ s.on TRB_CM_CTL TRB_CM_CTL_SWITCH = false) →
      s.trb.stop = [] →
      Regs.wf s.regs = true →
      ∃ t, exec (.tsiFrame) s = .next t ∧
        t.trb.frame = some (n + 1) ∧
        (∀ k : Fin 4096, s.tOn k = true → s.tcfg k TRB_TRIB_KIND = 0 → s.tSlots k ≠ 0 → (s.ep k).txF.length < s.tJb k → (t.ep k).txF = (s.ep k).txF ++ [(n + 1, (List.range (s.tSlots k)).map (fun i => s.tsiOut (s.tcfg k TRB_TRIB_TS_BASE + i)))]) ∧
        t.g TRB_CM_CTL TRB_CM_CTL_ACTIVE = s.g TRB_CM_CTL TRB_CM_CTL_ACTIVE ∧
        SameParts [.irq, .cyc, .msi, .shu, .blt, .tmg, .hsl, .trb] s t) ∧
  (∀ (n : Nat) (s : State),
      s.on TRB_CTL TRB_CTL_EN = true →
      s.trb.frame = some n →
      (n + 1) % 16 = 0 →
      s.on TRB_CM_CTL TRB_CM_CTL_SWITCH = true →
      s.cyc.switching = false →
      ∃ t, exec (.tsiFrame) s = .next t ∧
        t.trb.frame = some (n + 1) ∧
        (∀ i : Fin 65536, t.rd (TRB_CM_ACT i) = s.rd (TRB_CM_STBY i)) ∧
        (∀ i : Fin 65536, t.rd (TRB_CM_STBY i) = s.rd (TRB_CM_ACT i)) ∧
        t.g TRB_CM_CTL TRB_CM_CTL_ACTIVE = 1 - s.g TRB_CM_CTL TRB_CM_CTL_ACTIVE ∧
        t.on TRB_CM_CTL TRB_CM_CTL_SWITCH = false ∧
        SameParts [.irq, .cyc, .msi, .shu, .blt, .tmg, .hsl, .trb] s t) ∧
  (∀ (s : State),
      s.on TRB_CTL TRB_CTL_EN = true →
      s.trb.frame = none →
      s.g TRB_CTL TRB_CTL_TSI_OFFSET_NS % 125000 ≤ s.devNs →
      (s.devNs - s.g TRB_CTL TRB_CTL_TSI_OFFSET_NS % 125000) % 125000 = 0 →
      ∃ t, exec (.tsiFrame) s = .next t ∧
        t.trb.frame = some ((s.devNs - s.g TRB_CTL TRB_CTL_TSI_OFFSET_NS % 125000) / 125000) ∧
        SameParts [.irq, .cyc, .msi, .shu, .blt, .tmg, .hsl, .trb] s t) ∧
  (∀ (n : Nat) (s : State),
      s.on TRB_CTL TRB_CTL_EN = true →
      s.trb.frame = some n →
      ∃ t, exec (.tsiFrame) s = .next t ∧
        t.trb.frame = some (n + 1) ∧
        t.trb.stop = [] ∧
        (∀ k : Fin 4096, k.val ∈ s.trb.stop → s.on (TRB_TRIB k) TRB_TRIB_EN = false → t.tOn k = false) ∧
        SameParts [.irq, .cyc, .msi, .shu, .blt, .tmg, .hsl, .trb] s t) ∧
  (∀ (s : State),
      (s.on TRB_CTL TRB_CTL_EN = false ∨ (s.trb.frame = none ∧ (s.devNs < s.g TRB_CTL TRB_CTL_TSI_OFFSET_NS % 125000 ∨ (s.devNs - s.g TRB_CTL TRB_CTL_TSI_OFFSET_NS % 125000) % 125000 ≠ 0))) →
      ∃ t, exec (.tsiFrame) s = .next t ∧
        SameParts [] s t ∧
        SameRegs noReg [] s t) ∧
  (∀ (ag : Agent) (v : Word) (s : State),
      s.reaches ag TRB_CM_CTL = true →
      v.getLsbD 31 = true →
      v.getLsbD 30 = false →
      s.on TRB_CM_CTL TRB_CM_CTL_SWITCH = false →
      s.on TRB_CM_CTL TRB_CM_CTL_COPY = false →
      ∃ t, exec (.cmSwitch ag v) s = .next t ∧
        t.on TRB_CM_CTL TRB_CM_CTL_SWITCH = true ∧
        t.on TRB_CM_CTL TRB_CM_CTL_COPY = false ∧
        t.cyc = { s.cyc with switching := true } ∧
        SameParts [.cyc] s t ∧
        SameRegs noReg [TRB_CM_CTL] s t) ∧
  (∀ (ag : Agent) (v : Word) (s : State),
      s.reaches ag TRB_CM_CTL = true →
      v.getLsbD 31 = true →
      v.getLsbD 30 = true →
      s.on TRB_CM_CTL TRB_CM_CTL_SWITCH = false →
      s.on TRB_CM_CTL TRB_CM_CTL_COPY = false →
      ∃ t, exec (.cmSwitch ag v) s = .next t ∧
        t.on TRB_CM_CTL TRB_CM_CTL_SWITCH = true ∧
        t.on TRB_CM_CTL TRB_CM_CTL_COPY = false ∧
        Noted s t TRB_STATUS TRB_STATUS_CM_BUSY ∧
        SameParts [.irq, .cyc, .msi, .shu] s t ∧
        SameRegs irqReg [TRB_CM_CTL, TRB_STATUS] s t) ∧
  (∀ (ag : Agent) (v : Word) (s : State),
      s.reaches ag TRB_CM_CTL = true →
      v.getLsbD 31 = false →
      v.getLsbD 30 = true →
      s.on TRB_CM_CTL TRB_CM_CTL_SWITCH = false →
      s.on TRB_CM_CTL TRB_CM_CTL_COPY = false →
      ∃ t, exec (.cmCopy ag v) s = .next t ∧
        t.on TRB_CM_CTL TRB_CM_CTL_COPY = true ∧
        t.on TRB_CM_CTL TRB_CM_CTL_SWITCH = false ∧
        t.trb = { s.trb with copyAt := s.now, kept := [] } ∧
        SameParts [.trb] s t ∧
        SameRegs noReg [TRB_CM_CTL] s t) ∧
  (∀ (ag : Agent) (v : Word) (s : State),
      s.reaches ag TRB_CM_CTL = true →
      v.getLsbD 31 = true →
      (s.on TRB_CM_CTL TRB_CM_CTL_SWITCH = true ∨ s.on TRB_CM_CTL TRB_CM_CTL_COPY = true) →
      ∃ t, exec (.cmSwitch ag v) s = .next t ∧
        Noted s t TRB_STATUS TRB_STATUS_CM_BUSY ∧
        SameParts [.irq, .cyc, .msi, .shu] s t ∧
        SameRegs irqReg [TRB_STATUS] s t) ∧
  (∀ (ag : Agent) (v : Word) (s : State),
      s.reaches ag TRB_CM_CTL = true →
      v.getLsbD 30 = true →
      (s.on TRB_CM_CTL TRB_CM_CTL_SWITCH = true ∨ s.on TRB_CM_CTL TRB_CM_CTL_COPY = true) →
      ∃ t, exec (.cmCopy ag v) s = .next t ∧
        Noted s t TRB_STATUS TRB_STATUS_CM_BUSY ∧
        SameParts [.irq, .cyc, .msi, .shu] s t ∧
        SameRegs irqReg [TRB_STATUS] s t) ∧
  (∀ (s : State),
      s.on TRB_CM_CTL TRB_CM_CTL_COPY = false →
      ∃ t, exec (.cmCopyDone) s = .next t ∧
        SameParts [] s t ∧
        SameRegs noReg [] s t) ∧
  (∀ (s : State),
      s.on TRB_CM_CTL TRB_CM_CTL_COPY = true →
      (∀ k ∈ s.trb.kept, k < 65536) →
      ∃ t, exec (.cmCopyDone) s = .next t ∧
        (∀ i : Fin 65536, t.rd (TRB_CM_STBY i) = if s.trb.kept.contains i then s.rd (TRB_CM_STBY i) else s.rd (TRB_CM_ACT i)) ∧
        t.on TRB_CM_CTL TRB_CM_CTL_COPY = false ∧
        SameParts [] s t ∧
        SameRegs (fun a => regsIn (TRB_CM_STBY 0) (TRB_CM_STBY 65536) a) [TRB_CM_CTL] s t)

/-- GO of CRY_BLOB_CTL submits the agent's staged blob, or is BLOB_BUSY while its last one is pending. The unwrap's answer waits
behind an older blob for the same slot; else it clears a host or engine agent's GO with RESULT the first check that fails,
counted; RESULT 0 loads the slot: VALID with TYPE and WRAPPER, the key standing XORed with the mask, and an MSK loads the three
derived keys. Readers see a load one cycle later. CRY_SLOT_CLR makes a slot not VALID and its key 0 at once. SEAL_REQ for a
capable ONU without an attempt begins one on the inactive index, at step 3 where that slot holds a VALID key of TYPE 2, with
SWITCH_SF 8 frames after the next to seal. The parts of the key sought are kept; the second submits the blob, whose RESULT 0 leads
to step 3 and another RESULT abandons the attempt. An acknowledgement of the switch with RESULT 0 before SWITCH_SF confirms it,
another abandons the attempt with SEAL_FAIL. At SWITCH_SF a confirmed attempt sets MODE 2 and the index, an unconfirmed one is
abandoned; so is one without both parts after 16 frames. -/
def Obligations.KeyBlobsAndSealedMode : Prop :=
  (∀ (ag : Agent) (v : Word) (s : State),
      s.reaches ag CRY_BLOB_CTL = true →
      v.getLsbD 31 = true →
      s.blobOf (agCode ag) = none →
      ∃ t, exec (.blobUnwrap ag v) s = .next t ∧
        t.on (akey (agCode ag) CRY_BLOB_CTL) CRY_BLOB_CTL_GO = true ∧
        t.cry = { s.cry with blobs := s.cry.blobs ++ [(agCode ag, (List.range 32).map (fun w => s.rd (akey (agCode ag) (CRY_BLOB w))))] } ∧
        SameParts [.cry] s t ∧
        SameRegs noReg [(akey (agCode ag) CRY_BLOB_CTL)] s t) ∧
  (∀ (ag : Agent) (v : Word) (s : State),
      s.reaches ag CRY_BLOB_CTL = true →
      v.getLsbD 31 = true →
      s.blobOf (agCode ag) ≠ none →
      ∃ t, exec (.blobUnwrap ag v) s = .next t ∧
        Noted s t CRY_STATUS CRY_STATUS_BLOB_BUSY ∧
        SameParts [.irq, .cyc, .msi, .shu] s t ∧
        SameRegs irqReg [CRY_STATUS] s t) ∧
  (∀ (who : Nat) (plain : Option (List Byte)) (ws : List Word) (s : State),
      s.blobOf who = some ws →
      s.blobWaits who ws = true →
      ∃ t, exec (.blobResult who plain) s = .next t ∧
        SameParts [] s t ∧
        SameRegs noReg [] s t) ∧
  (∀ (who : Nat) (plain : Option (List Byte)) (ws : List Word) (s : State),
      who < 1000 →
      s.blobOf who = some ws →
      s.blobWaits who ws = false →
      (s.blobResult (bytesOf ws) plain) ≠ 0 →
      ∃ t, exec (.blobResult who plain) s = .next t ∧
        t.g (akey who CRY_BLOB_CTL) CRY_BLOB_CTL_RESULT = (s.blobResult (bytesOf ws) plain) ∧
        t.on (akey who CRY_BLOB_CTL) CRY_BLOB_CTL_GO = false ∧
        t.cry.blobs = s.cry.blobs.filter (fun e => decide (e.1 ≠ who)) ∧
        t.rd64 (CRY_BLOBS_REFUSED) = (s.rd64 (CRY_BLOBS_REFUSED) + 1) % 2 ^ 64 ∧
        SameParts [.cry] s t ∧
        SameRegs noReg [(akey who CRY_BLOB_CTL), CRY_BLOBS_REFUSED, CRY_BLOBS_REFUSED + 4] s t) ∧
  (∀ (who : Nat) (plain : Option (List Byte)) (ws : List Word) (s : State),
      who < 1000 →
      s.blobOf who = some ws →
      s.blobWaits who ws = false →
      (s.blobResult (bytesOf ws) plain) = 0 →
      blobByte (bytesOf ws) 5 ≠ 4 →
      ∃ t, exec (.blobResult who plain) s = .next t ∧
        t.g (akey who CRY_BLOB_CTL) CRY_BLOB_CTL_RESULT = 0 ∧
        t.on (akey who CRY_BLOB_CTL) CRY_BLOB_CTL_GO = false ∧
        t.cry.blobs = s.cry.blobs.filter (fun e => decide (e.1 ≠ who)) ∧
        t.rd64 (CRY_BLOBS) = (s.rd64 (CRY_BLOBS) + 1) % 2 ^ 64 ∧
        t.rd (CRY_SLOT (beNat (((bytesOf ws).drop 8).take 4))) = word (2 ^ 31 + blobByte (bytesOf ws) 5 * 2 ^ 28 + blobByte (bytesOf ws) 6 * 2 ^ 26) ∧
        t.cry.keys.look (beNat (((bytesOf ws).drop 8).take 4)) = BitVec.ofNat 256 (beNat ((plain.getD []).drop (if blobByte (bytesOf ws) 6 = 0 then 16 else if blobByte (bytesOf ws) 6 = 1 then 8 else 0))) ^^^ s.cry.mask ∧
        t.cyc = { s.cyc with keyOld := s.cyc.keyOld.put (beNat (((bytesOf ws).drop 8).take 4)) (some (s.keyAt (beNat (((bytesOf ws).drop 8).take 4)))) } ∧
        SameParts [.cry, .cyc] s t ∧
        SameRegs noReg [(akey who CRY_BLOB_CTL), CRY_BLOBS, CRY_BLOBS + 4, CRY_SLOT (beNat (((bytesOf ws).drop 8).take 4))] s t) ∧
  (∀ (who : Nat) (plain : Option (List Byte)) (ws : List Word) (i : Nat) (s : State),
      who < 1000 →
      s.blobOf who = some ws →
      s.blobWaits who ws = false →
      (s.blobResult (bytesOf ws) plain) = 0 →
      blobByte (bytesOf ws) 5 = 4 →
      (s.keyOnus (beNat (((bytesOf ws).drop 8).take 4))).head? = some i →
      s.g (CRY_ONU i) CRY_ONU_BASE ≤ 131067 →
      ∃ t, exec (.blobResult who plain) s = .next t ∧
        t.g (akey who CRY_BLOB_CTL) CRY_BLOB_CTL_RESULT = 0 ∧
        t.on (akey who CRY_BLOB_CTL) CRY_BLOB_CTL_GO = false ∧
        t.cry.blobs = s.cry.blobs.filter (fun e => decide (e.1 ≠ who)) ∧
        t.rd64 (CRY_BLOBS) = (s.rd64 (CRY_BLOBS) + 1) % 2 ^ 64 ∧
        (∀ j : Fin 3, t.rd (CRY_SLOT (s.g (CRY_ONU i) CRY_ONU_BASE + 2 + j)) = word (2 ^ 31 + 4 * 2 ^ 28 + blobByte (bytesOf ws) 6 * 2 ^ 26) ∧ t.cry.keys.look (s.g (CRY_ONU i) CRY_ONU_BASE + 2 + j) = Config.derivedKey (BitVec.ofNat 256 (beNat ((plain.getD []).drop (if blobByte (bytesOf ws) 6 = 0 then 16 else if blobByte (bytesOf ws) 6 = 1 then 8 else 0)))) i j ^^^ s.cry.mask) ∧
        SameParts [.cry, .cyc] s t ∧
        SameRegs noReg [(akey who CRY_BLOB_CTL), CRY_BLOBS, CRY_BLOBS + 4, CRY_SLOT (s.g (CRY_ONU i) CRY_ONU_BASE + 2), CRY_SLOT (s.g (CRY_ONU i) CRY_ONU_BASE + 3), CRY_SLOT (s.g (CRY_ONU i) CRY_ONU_BASE + 4)] s t) ∧
  (∀ (ag : Agent) (v : Word) (s : State),
      s.reaches ag CRY_SLOT_CLR = true →
      ∃ t, exec (.slotClr ag v) s = .next t ∧
        t.on (CRY_SLOT (bget v 0 17)) CRY_SLOT_VALID = false ∧
        t.cry = { s.cry with keys := s.cry.keys.put (bget v 0 17) 0 } ∧
        t.cyc = { s.cyc with keyOld := s.cyc.keyOld.put (bget v 0 17) none } ∧
        SameParts [.cry, .cyc] s t ∧
        SameRegs noReg [CRY_SLOT (bget v 0 17)] s t) ∧
  (∀ (ag : Agent) (c : Fin 64) (i : Fin 256) (v : Word) (s : State),
      s.reaches ag (CRY_ONU (256 * c.val + i.val)) = true →
      v.getLsbD 27 = true →
      s.cry.seals.look (256 * c.val + i.val) = none →
      s.on (RNG_ONU c i) RNG_ONU_SEALED_CAP = true →
      (s.pch.look c).ploamQ.length < 64 →
      ((s.wrRW (CRY_ONU (256 * c.val + i.val)) v).on (CRY_SLOT ((s.wrRW (CRY_ONU (256 * c.val + i.val)) v).g (CRY_ONU (256 * c.val + i.val)) CRY_ONU_BASE + (2 - (s.wrRW (CRY_ONU (256 * c.val + i.val)) v).g (CRY_ONU (256 * c.val + i.val)) CRY_ONU_TX_IDX) - 1)) CRY_SLOT_VALID = false ∨ (s.wrRW (CRY_ONU (256 * c.val + i.val)) v).g (CRY_SLOT ((s.wrRW (CRY_ONU (256 * c.val + i.val)) v).g (CRY_ONU (256 * c.val + i.val)) CRY_ONU_BASE + (2 - (s.wrRW (CRY_ONU (256 * c.val + i.val)) v).g (CRY_ONU (256 * c.val + i.val)) CRY_ONU_TX_IDX) - 1)) CRY_SLOT_TYPE ≠ 2) →
      ∃ t, exec (.sealReq ag c i v) s = .next t ∧
        t.cry.seals.look (256 * c.val + i.val) = some ⟨(2 - (s.wrRW (CRY_ONU (256 * c.val + i.val)) v).g (CRY_ONU (256 * c.val + i.val)) CRY_ONU_TX_IDX), s.rd64 (DSF_SFC c), none, none, 0, 0⟩ ∧
        (t.pch.look c).ploamQ.length = (s.pch.look c).ploamQ.length + 1 ∧
        t.on (CRY_ONU (256 * c.val + i.val)) CRY_ONU_SEAL_REQ = true ∧
        SameParts [.pch, .cry] s t ∧
        SameRegs noReg [CRY_ONU (256 * c.val + i.val)] s t) ∧
  (∀ (ag : Agent) (c : Fin 64) (i : Fin 256) (v : Word) (s : State),
      s.reaches ag (CRY_ONU (256 * c.val + i.val)) = true →
      v.getLsbD 27 = true →
      s.cry.seals.look (256 * c.val + i.val) = none →
      s.on (RNG_ONU c i) RNG_ONU_SEALED_CAP = true →
      (s.pch.look c).ploamQ.length < 64 →
      (s.wrRW (CRY_ONU (256 * c.val + i.val)) v).on (CRY_SLOT ((s.wrRW (CRY_ONU (256 * c.val + i.val)) v).g (CRY_ONU (256 * c.val + i.val)) CRY_ONU_BASE + (2 - (s.wrRW (CRY_ONU (256 * c.val + i.val)) v).g (CRY_ONU (256 * c.val + i.val)) CRY_ONU_TX_IDX) - 1)) CRY_SLOT_VALID = true →
      (s.wrRW (CRY_ONU (256 * c.val + i.val)) v).g (CRY_SLOT ((s.wrRW (CRY_ONU (256 * c.val + i.val)) v).g (CRY_ONU (256 * c.val + i.val)) CRY_ONU_BASE + (2 - (s.wrRW (CRY_ONU (256 * c.val + i.val)) v).g (CRY_ONU (256 * c.val + i.val)) CRY_ONU_TX_IDX) - 1)) CRY_SLOT_TYPE = 2 →
      ∃ t, exec (.sealReq ag c i v) s = .next t ∧
        t.cry.seals.look (256 * c.val + i.val) = some ⟨(2 - (s.wrRW (CRY_ONU (256 * c.val + i.val)) v).g (CRY_ONU (256 * c.val + i.val)) CRY_ONU_TX_IDX), s.rd64 (DSF_SFC c), none, none, 2, (s.pch.look c).openLo + 8⟩ ∧
        (t.pch.look c).ploamQ.length = (s.pch.look c).ploamQ.length + 1 ∧
        t.on (CRY_ONU (256 * c.val + i.val)) CRY_ONU_SEAL_REQ = true ∧
        SameParts [.pch, .cry] s t ∧
        SameRegs noReg [CRY_ONU (256 * c.val + i.val)] s t) ∧
  (∀ (c : Fin 64) (i : Fin 256) (part : Fin 2) (idx : Fin 256) (data : List Byte) (q : Seal) (s : State),
      data.length = 24 →
      s.cry.seals.look (256 * c.val + i.val) = some q →
      q.phase = 0 →
      q.idx = idx.val →
      (if part = 0 then q.part1 else q.part0) = none →
      ∃ t, exec (.sealedKey c i part idx data) s = .next t ∧
        t.cry.seals.look (256 * c.val + i.val) = some (if part = 0 then { q with part0 := some data } else { q with part1 := some data }) ∧
        SameParts [.cry] s t ∧
        SameRegs noReg [] s t) ∧
  (∀ (c : Fin 64) (i : Fin 256) (idx : Fin 256) (data other : List Byte) (q : Seal) (s : State),
      data.length = 24 →
      s.cry.seals.look (256 * c.val + i.val) = some q →
      q.phase = 0 →
      q.idx = idx.val →
      q.part1 = some other →
      ∃ t, exec (.sealedKey c i 0 idx data) s = .next t ∧
        t.cry.seals.look (256 * c.val + i.val) = some { q with part0 := some data, phase := 1 } ∧
        t.cry.blobs = s.cry.blobs ++ [(1000 + (256 * c.val + i.val), s.sealBlob (256 * c.val + i.val) q.idx (data ++ other))] ∧
        SameParts [.cry] s t ∧
        SameRegs noReg [] s t) ∧
  (∀ (c : Fin 64) (i : Fin 256) (idx : Fin 256) (data other : List Byte) (q : Seal) (s : State),
      data.length = 24 →
      s.cry.seals.look (256 * c.val + i.val) = some q →
      q.phase = 0 →
      q.idx = idx.val →
      q.part0 = some other →
      ∃ t, exec (.sealedKey c i 1 idx data) s = .next t ∧
        t.cry.seals.look (256 * c.val + i.val) = some { q with part1 := some data, phase := 1 } ∧
        t.cry.blobs = s.cry.blobs ++ [(1000 + (256 * c.val + i.val), s.sealBlob (256 * c.val + i.val) q.idx (other ++ data))] ∧
        SameParts [.cry] s t ∧
        SameRegs noReg [] s t) ∧
  (∀ (c : Fin 64) (i : Fin 256) (q : Seal) (plain : Option (List Byte)) (ws : List Word) (s : State),
      s.blobOf (1000 + (256 * c.val + i.val)) = some ws →
      s.blobWaits (1000 + (256 * c.val + i.val)) ws = false →
      s.cry.seals.look (256 * c.val + i.val) = some q →
      q.phase = 1 →
      (s.blobResult (bytesOf ws) plain) ≠ 0 →
      ∃ t, exec (.blobResult (1000 + (256 * c.val + i.val)) plain) s = .next t ∧
        t.cry.seals.look (256 * c.val + i.val) = none ∧
        t.on (CRY_ONU (256 * c.val + i.val)) CRY_ONU_SEAL_REQ = false ∧
        Noted s t CRY_STATUS CRY_STATUS_SEAL_FAIL ∧
        t.g (CRY_ONU (256 * c.val + i.val)) CRY_ONU_MODE = s.g (CRY_ONU (256 * c.val + i.val)) CRY_ONU_MODE ∧
        t.rd64 (CRY_BLOBS_REFUSED) = (s.rd64 (CRY_BLOBS_REFUSED) + 1) % 2 ^ 64 ∧
        SameParts [.irq, .cyc, .msi, .shu, .cry] s t ∧
        SameRegs irqReg [CRY_ONU (256 * c.val + i.val), CRY_STATUS, CRY_BLOBS_REFUSED, CRY_BLOBS_REFUSED + 4] s t) ∧
  (∀ (c : Fin 64) (i : Fin 256) (q : Seal) (plain : Option (List Byte)) (ws : List Word) (s : State),
      s.blobOf (1000 + (256 * c.val + i.val)) = some ws →
      s.blobWaits (1000 + (256 * c.val + i.val)) ws = false →
      s.cry.seals.look (256 * c.val + i.val) = some q →
      q.phase = 1 →
      (s.blobResult (bytesOf ws) plain) = 0 →
      (s.pch.look c).ploamQ.length < 64 →
      ∃ t, exec (.blobResult (1000 + (256 * c.val + i.val)) plain) s = .next t ∧
        t.cry.seals.look (256 * c.val + i.val) = some { q with phase := 2, switchSf := (s.pch.look c).openLo + 8 } ∧
        (t.pch.look c).ploamQ.length = (s.pch.look c).ploamQ.length + 1 ∧
        t.rd64 (CRY_BLOBS) = (s.rd64 (CRY_BLOBS) + 1) % 2 ^ 64 ∧
        SameParts [.pch, .cry, .cyc] s t) ∧
  (∀ (c : Fin 64) (i : Fin 256) (idx action result : Fin 256) (q : Seal) (s : State),
      s.cry.seals.look (256 * c.val + i.val) = some q →
      q.idx = idx.val →
      q.phase = 2 →
      action = 1 →
      result = 0 →
      s.rd64 (DSF_SFC c) < q.switchSf →
      ∃ t, exec (.sealedAck c i idx action result) s = .next t ∧
        t.cry.seals.look (256 * c.val + i.val) = some { q with phase := 3 } ∧
        SameParts [.cry] s t ∧
        SameRegs noReg [] s t) ∧
  (∀ (c : Fin 64) (i : Fin 256) (idx action result : Fin 256) (q : Seal) (s : State),
      s.cry.seals.look (256 * c.val + i.val) = some q →
      q.idx = idx.val →
      q.phase = 2 →
      action = 1 →
      result = 0 →
      q.switchSf ≤ s.rd64 (DSF_SFC c) →
      ∃ t, exec (.sealedAck c i idx action result) s = .next t ∧
        SameParts [] s t ∧
        SameRegs noReg [] s t) ∧
  (∀ (c : Fin 64) (i : Fin 256) (idx action result : Fin 256) (q : Seal) (s : State),
      s.cry.seals.look (256 * c.val + i.val) = some q →
      q.idx = idx.val →
      ((q.phase = 2 ∧ action = 1) ∨ (q.phase = 0 ∧ action = 0)) →
      result ≠ 0 →
      ∃ t, exec (.sealedAck c i idx action result) s = .next t ∧
        t.cry.seals.look (256 * c.val + i.val) = none ∧
        t.on (CRY_ONU (256 * c.val + i.val)) CRY_ONU_SEAL_REQ = false ∧
        Noted s t CRY_STATUS CRY_STATUS_SEAL_FAIL ∧
        t.g (CRY_ONU (256 * c.val + i.val)) CRY_ONU_MODE = s.g (CRY_ONU (256 * c.val + i.val)) CRY_ONU_MODE ∧
        SameParts [.irq, .cyc, .msi, .shu, .cry] s t ∧
        SameRegs irqReg [CRY_ONU (256 * c.val + i.val), CRY_STATUS] s t) ∧
  (∀ (c : Fin 64) (i : Fin 256) (q : Seal) (s : State),
      s.cry.seals.look (256 * c.val + i.val) = some q →
      q.switchSf ≤ s.rd64 (DSF_SFC c) →
      q.phase = 3 →
      1 ≤ q.idx →
      q.idx ≤ 2 →
      ∃ t, exec (.sealSwitch c i) s = .next t ∧
        t.cry.seals.look (256 * c.val + i.val) = none ∧
        t.g (CRY_ONU (256 * c.val + i.val)) CRY_ONU_MODE = 2 ∧
        t.g (CRY_ONU (256 * c.val + i.val)) CRY_ONU_TX_IDX = q.idx - 1 ∧
        t.on (CRY_ONU (256 * c.val + i.val)) CRY_ONU_SEAL_REQ = false ∧
        SameParts [.cry] s t ∧
        SameRegs noReg [CRY_ONU (256 * c.val + i.val)] s t) ∧
  (∀ (c : Fin 64) (i : Fin 256) (q : Seal) (s : State),
      s.cry.seals.look (256 * c.val + i.val) = some q →
      q.switchSf ≤ s.rd64 (DSF_SFC c) →
      q.phase = 2 →
      ∃ t, exec (.sealSwitch c i) s = .next t ∧
        t.cry.seals.look (256 * c.val + i.val) = none ∧
        t.on (CRY_ONU (256 * c.val + i.val)) CRY_ONU_SEAL_REQ = false ∧
        Noted s t CRY_STATUS CRY_STATUS_SEAL_FAIL ∧
        t.g (CRY_ONU (256 * c.val + i.val)) CRY_ONU_MODE = s.g (CRY_ONU (256 * c.val + i.val)) CRY_ONU_MODE ∧
        SameParts [.irq, .cyc, .msi, .shu, .cry] s t ∧
        SameRegs irqReg [CRY_ONU (256 * c.val + i.val), CRY_STATUS] s t) ∧
  (∀ (c : Fin 64) (i : Fin 256) (q : Seal) (s : State),
      s.cry.seals.look (256 * c.val + i.val) = some q →
      q.phase = 0 →
      q.start + 16 ≤ s.rd64 (DSF_SFC c) →
      ∃ t, exec (.sealTimeout c i) s = .next t ∧
        t.cry.seals.look (256 * c.val + i.val) = none ∧
        t.on (CRY_ONU (256 * c.val + i.val)) CRY_ONU_SEAL_REQ = false ∧
        Noted s t CRY_STATUS CRY_STATUS_SEAL_FAIL ∧
        t.g (CRY_ONU (256 * c.val + i.val)) CRY_ONU_MODE = s.g (CRY_ONU (256 * c.val + i.val)) CRY_ONU_MODE ∧
        SameParts [.irq, .cyc, .msi, .shu, .cry] s t ∧
        SameRegs irqReg [CRY_ONU (256 * c.val + i.val), CRY_STATUS] s t)

/-- A failed health test counts in ENT_FAILS and sets ENT_FAIL and DRBG_STALE; a passed start-up test clears both. A read of CRY_NONCE
word 0 draws a fresh nonce and returns its first word. GO of CRY_ENROL_CTL starts a verification, or answers RESULT 4 while one
runs; its end answers 1 for a bad signature, 2 for another nonce, 3 with four banks used, else 0, and then the owner takes the
next bank. A security alarm whose source is not masked overwrites the mask, drops KWK and every key, makes every slot not VALID,
ends a pending unwrap and enrolment, names its source, sets ERASED and reports fault 0x35, which enters the safe state as the
cycle ends; GO of CRY_ERASE raises source 7. A challenge is eight fresh free words. A response that verifies for an owner erases
the slots and opens the debug lock; another counts, and the third raises source 5. A source that is masked or cannot have risen
does nothing. -/
def Obligations.EntropyOwnersAlarmsAndDebug : Prop :=
  (∀ (s : State),
      ∃ t, exec (.entropyFail) s = .next t ∧
        t.rd64 (CRY_ENT_FAILS) = (s.rd64 (CRY_ENT_FAILS) + 1) % 2 ^ 64 ∧
        t.on CRY_STATUS CRY_STATUS_ENT_FAIL = true ∧
        t.on CRY_STATUS CRY_STATUS_DRBG_STALE = true ∧
        SameParts [] s t ∧
        SameRegs noReg [CRY_ENT_FAILS, CRY_ENT_FAILS + 4, CRY_STATUS] s t) ∧
  (∀ (s : State),
      s.on CRY_STATUS CRY_STATUS_ENT_FAIL = true →
      ∃ t, exec (.entropyRetest true) s = .next t ∧
        t.on CRY_STATUS CRY_STATUS_ENT_FAIL = false ∧
        t.on CRY_STATUS CRY_STATUS_DRBG_STALE = false ∧
        SameParts [] s t ∧
        SameRegs noReg [CRY_STATUS] s t) ∧
  (∀ (pass : Bool) (s : State),
      (pass = false ∨ s.on CRY_STATUS CRY_STATUS_ENT_FAIL = false) →
      ∃ t, exec (.entropyRetest pass) s = .next t ∧
        SameParts [] s t ∧
        SameRegs noReg [] s t) ∧
  (∀ (ag : Agent) (s : State),
      s.reaches ag (CRY_NONCE 0) = true →
      ∃ t, exec (.nonceRead ag) s = .next t ∧
        t.fresh = s.fresh + 8 ∧
        t.cry = { s.cry with nonce := (List.range 8).map (fun w => t.rd (CRY_NONCE w)) } ∧
        t.lastRead ag = t.rd (CRY_NONCE 0) ∧
        SameParts [.fresh, .agents, .cry] s t ∧
        SameRegs noReg [CRY_NONCE 0, CRY_NONCE 1, CRY_NONCE 2, CRY_NONCE 3, CRY_NONCE 4, CRY_NONCE 5, CRY_NONCE 6, CRY_NONCE 7] s t) ∧
  (∀ (ag : Agent) (v : Word) (s : State),
      s.reaches ag CRY_ENROL_CTL = true →
      v.getLsbD 31 = true →
      s.cry.enrol = false →
      ∃ t, exec (.enrolGo ag v) s = .next t ∧
        t.on CRY_ENROL_CTL CRY_ENROL_CTL_GO = true ∧
        t.cry = { s.cry with enrol := true } ∧
        SameParts [.cry] s t ∧
        SameRegs noReg [CRY_ENROL_CTL] s t) ∧
  (∀ (ag : Agent) (v : Word) (s : State),
      s.reaches ag CRY_ENROL_CTL = true →
      v.getLsbD 31 = true →
      s.cry.enrol = true →
      ∃ t, exec (.enrolGo ag v) s = .next t ∧
        t.g CRY_ENROL_CTL CRY_ENROL_CTL_RESULT = 4 ∧
        SameParts [] s t ∧
        SameRegs noReg [CRY_ENROL_CTL] s t) ∧
  (∀ (sigOk : Bool) (nonce sign wrap : List Word) (s : State),
      s.cry.enrol = true →
      (if sigOk = false then 1 else if nonce = [] ∨ nonce ≠ s.cry.nonce then 2 else if 4 ≤ s.cry.owners.length then 3 else 0) ≠ 0 →
      ∃ t, exec (.enrolDone sigOk nonce sign wrap) s = .next t ∧
        t.g CRY_ENROL_CTL CRY_ENROL_CTL_RESULT = (if sigOk = false then 1 else if nonce = [] ∨ nonce ≠ s.cry.nonce then 2 else if 4 ≤ s.cry.owners.length then 3 else 0) ∧
        t.on CRY_ENROL_CTL CRY_ENROL_CTL_GO = false ∧
        t.cry = { s.cry with enrol := false } ∧
        SameParts [.cry] s t ∧
        SameRegs noReg [CRY_ENROL_CTL] s t) ∧
  (∀ (sigOk : Bool) (nonce sign wrap : List Word) (s : State),
      s.cry.enrol = true →
      (if sigOk = false then 1 else if nonce = [] ∨ nonce ≠ s.cry.nonce then 2 else if 4 ≤ s.cry.owners.length then 3 else 0) = 0 →
      ∃ t, exec (.enrolDone sigOk nonce sign wrap) s = .next t ∧
        t.g CRY_ENROL_CTL CRY_ENROL_CTL_RESULT = 0 ∧
        t.on CRY_ENROL_CTL CRY_ENROL_CTL_GO = false ∧
        t.cry = { s.cry with enrol := false, owners := s.cry.owners ++ [(sign, wrap)], kwk := true } ∧
        t.g CRY_OWNER CRY_OWNER_BANKS = s.cry.owners.length + 1 ∧
        SameParts [.cry] s t ∧
        SameRegs noReg [CRY_ENROL_CTL, CRY_OWNER] s t) ∧
  (∀ (src : Fin 8) (s : State),
      s.alarmOn src = true →
      ∃ t, exec (.securityAlarm src) s = .next t ∧
        bit (t.g CRY_STATUS CRY_STATUS_ALARM_SRC) src = true ∧
        t.on CRY_STATUS CRY_STATUS_ERASED = true ∧
        t.cry.mask = 0 ∧
        t.cry.maskOn = false ∧
        t.cry.kwk = false ∧
        t.cry.keys = [] ∧
        (∀ n : Fin 131072, t.on (CRY_SLOT n) CRY_SLOT_VALID = false) ∧
        t.cry.blobs = [] ∧
        t.cry.enrol = false ∧
        t.cyc.faults = s.cyc.faults ++ [⟨0x35, 0, false, false⟩] ∧
        SameParts [.irq, .cyc, .msi, .pch, .tmp, .shu, .blt, .cry] s t) ∧
  (∀ (src : Fin 8) (s : State),
      ((src.val = 5 ∧ s.cry.fails < 3) ∨ (src.val = 6 ∧ s.on CRY_STATUS CRY_STATUS_DEBUG_OPEN = true) ∨ (src.val = 7 ∧ s.on CRY_ERASE CRY_ERASE_HOST_MASK = true)) →
      ∃ t, exec (.securityAlarm src) s = .next t ∧
        SameParts [] s t ∧
        SameRegs noReg [] s t) ∧
  (∀ (ag : Agent) (v : Word) (s : State),
      s.reaches ag CRY_ERASE = true →
      v.getLsbD 31 = true →
      (s.wrRW CRY_ERASE v).on CRY_ERASE CRY_ERASE_HOST_MASK = false →
      ∃ t, exec (.cryErase ag v) s = .next t ∧
        bit (t.g CRY_STATUS CRY_STATUS_ALARM_SRC) 7 = true ∧
        t.on CRY_STATUS CRY_STATUS_ERASED = true ∧
        t.cry.mask = 0 ∧
        t.cry.maskOn = false ∧
        t.cry.kwk = false ∧
        t.cry.keys = [] ∧
        (∀ n : Fin 131072, t.on (CRY_SLOT n) CRY_SLOT_VALID = false) ∧
        t.cry.blobs = [] ∧
        t.cry.enrol = false ∧
        t.cyc.faults = s.cyc.faults ++ [⟨0x35, 0, false, false⟩] ∧
        SameParts [.irq, .cyc, .msi, .pch, .tmp, .shu, .blt, .cry] s t) ∧
  (∀ (ag : Agent) (v : Word) (s : State),
      s.reaches ag CRY_ERASE = true →
      (v.getLsbD 31 = false ∨ (s.wrRW CRY_ERASE v).on CRY_ERASE CRY_ERASE_HOST_MASK = true) →
      ∃ t, exec (.cryErase ag v) s = .next t ∧
        (∀ b : Fin 32, (t.rd CRY_ERASE).getLsbD b = if (rwBits CRY_ERASE).testBit b then (v).getLsbD b else (s.rd CRY_ERASE).getLsbD b) ∧
        SameParts [] s t ∧
        SameRegs noReg [CRY_ERASE] s t) ∧
  (∀ (s : State),
      ∃ t, exec (.dbgChal) s = .next t ∧
        t.cry = { s.cry with chal := (List.range 8).map (fun k => Config.freeWord (s.fresh + k)) } ∧
        t.fresh = s.fresh + 8 ∧
        SameParts [.fresh, .cry] s t ∧
        SameRegs noReg [] s t) ∧
  (∀ (s : State),
      s.cry.owners ≠ [] →
      s.cry.chal ≠ [] →
      ∃ t, exec (.dbgResp true) s = .next t ∧
        t.on CRY_STATUS CRY_STATUS_DEBUG_OPEN = true ∧
        t.cry = { s.cry with keys := [], chal := [] } ∧
        (∀ n : Fin 131072, t.on (CRY_SLOT n) CRY_SLOT_VALID = false) ∧
        t.cyc = { s.cyc with keyOld := [] } ∧
        SameParts [.cry, .cyc] s t ∧
        SameRegs (fun a => regsIn (CRY_SLOT 0) (CRY_SLOT 131072) a) [CRY_STATUS] s t) ∧
  (∀ (sigOk : Bool) (s : State),
      (sigOk = false ∨ s.cry.owners = [] ∨ s.cry.chal = []) →
      s.cry.fails ≠ 2 →
      ∃ t, exec (.dbgResp sigOk) s = .next t ∧
        t.cry = { s.cry with fails := s.cry.fails + 1, chal := [] } ∧
        SameParts [.cry] s t ∧
        SameRegs noReg [] s t) ∧
  (∀ (sigOk : Bool) (s : State),
      (sigOk = false ∨ s.cry.owners = [] ∨ s.cry.chal = []) →
      s.cry.fails = 2 →
      ∃ t, exec (.dbgResp sigOk) s = .next t ∧
        t.cry.fails = 3 ∧
        bit (t.g CRY_STATUS CRY_STATUS_ALARM_SRC) 5 = true ∧
        t.on CRY_STATUS CRY_STATUS_ERASED = true ∧
        t.cry.mask = 0 ∧
        t.cry.maskOn = false ∧
        t.cry.kwk = false ∧
        t.cry.keys = [] ∧
        (∀ n : Fin 131072, t.on (CRY_SLOT n) CRY_SLOT_VALID = false) ∧
        t.cry.blobs = [] ∧
        t.cry.enrol = false ∧
        t.cyc.faults = s.cyc.faults ++ [⟨0x35, 0, false, false⟩] ∧
        SameParts [.irq, .cyc, .msi, .pch, .tmp, .shu, .blt, .cry] s t)

/-- An edge of the chosen polarity within 0.9 s of the last is rejected; another is latched, and for the servo's source is a sample
for the end of its cycle: discarded while coasting or with a step in that cycle, refused beyond JUMP_NS, else counted, with the
servo's new frequency and state. A PTP offset of a host port is a sample while SRC is 3, discarded while coasting. HOLD_S without
a sample enters HOLDOVER. A step sets device time, refused beyond JUMP_NS without FORCE, or STEP_BUSY. A read of NOW_NS or of word
1 of PPSIN answers it and holds the other words for the agent. A read of word 3 of a timestamp FIFO consumes its head. GO of the
PTP mailbox queues the frame or answers why not; the send counts it and clears GO. In the first cycle of a whole second each
aligned channel's ToD takes the coming second. A target's _LO write arms or sets TARGET_BAD. A due comparator, not one armed in
this cycle, fires, moves its target on by whole periods and counts what it missed. A pulse ends at its level. -/
def Obligations.TimeServoStepsTimestampsAndTriggers : Prop :=
  (∀ (i : Fin 2) (rising : Bool) (sub : Fin 16) (s : State),
      s.on (TIM_PPSIN i) TIM_PPSIN_EN = true →
      (rising != s.on (TIM_PPSIN i) TIM_PPSIN_POL) = true →
      ((s.tim.ppsPrev.look i).any (fun p => decide (s.now < p + 900000000))) = true →
      ∃ t, exec (.ppsInEdge i rising sub) s = .next t ∧
        t.rd64 (TIM_PPS_REJECT) = (s.rd64 (TIM_PPS_REJECT) + 1) % 2 ^ 64 ∧
        Noted s t TIM_STATUS TIM_STATUS_PPS_REJECT ∧
        SameParts [.irq, .cyc, .msi, .shu] s t ∧
        SameRegs irqReg [TIM_PPS_REJECT, TIM_PPS_REJECT + 4, TIM_STATUS] s t) ∧
  (∀ (i : Fin 2) (rising : Bool) (sub : Fin 16) (s : State),
      s.on (TIM_PPSIN i) TIM_PPSIN_EN = true →
      (rising != s.on (TIM_PPSIN i) TIM_PPSIN_POL) = true →
      ((s.tim.ppsPrev.look i).any (fun p => decide (s.now < p + 900000000))) = false →
      s.g TIM_SERVO TIM_SERVO_SRC ≠ i.val + 1 →
      ∃ t, exec (.ppsInEdge i rising sub) s = .next t ∧
        t.rd ((TIM_PPSIN i) + 4) = word (split16 (s.stampNs * 16 + sub.val)).2.1 ∧
        t.rd ((TIM_PPSIN i) + 8) = word (split16 (s.stampNs * 16 + sub.val)).1 ∧
        t.rd ((TIM_PPSIN i) + 12) = word (split16 (s.stampNs * 16 + sub.val)).2.2 ∧
        t.tim.ppsPrev.look i = some s.now ∧
        SameParts [.tim] s t ∧
        SameRegs noReg [(TIM_PPSIN i) + 4, (TIM_PPSIN i) + 8, (TIM_PPSIN i) + 12] s t) ∧
  (∀ (i : Fin 2) (rising : Bool) (sub : Fin 16) (s : State),
      s.on (TIM_PPSIN i) TIM_PPSIN_EN = true →
      (rising != s.on (TIM_PPSIN i) TIM_PPSIN_POL) = true →
      ((s.tim.ppsPrev.look i).any (fun p => decide (s.now < p + 900000000))) = false →
      s.g TIM_SERVO TIM_SERVO_SRC = i.val + 1 →
      ∃ t, exec (.ppsInEdge i rising sub) s = .next t ∧
        t.rd ((TIM_PPSIN i) + 4) = word (split16 (s.stampNs * 16 + sub.val)).2.1 ∧
        t.rd ((TIM_PPSIN i) + 8) = word (split16 (s.stampNs * 16 + sub.val)).1 ∧
        t.rd ((TIM_PPSIN i) + 12) = word (split16 (s.stampNs * 16 + sub.val)).2.2 ∧
        t.tim.ppsPrev.look i = some s.now ∧
        t.cyc = { s.cyc with pps := s.cyc.pps ++ [((((((s.stampNs * 16 + sub.val) : Nat) - (s.g (TIM_PPSIN i) TIM_PPSIN_IN_DLY : Nat) : Int) + 8000000000) / 16000000000 * 16000000000 - (((s.stampNs * 16 + sub.val) : Nat) - (s.g (TIM_PPSIN i) TIM_PPSIN_IN_DLY : Nat) : Int)), s.stampNs)] } ∧
        SameParts [.tim, .cyc] s t ∧
        SameRegs noReg [(TIM_PPSIN i) + 4, (TIM_PPSIN i) + 8, (TIM_PPSIN i) + 12] s t) ∧
  (∀ (i : Fin 2) (rising : Bool) (sub : Fin 16) (s : State),
      (s.on (TIM_PPSIN i) TIM_PPSIN_EN = false ∨ (rising != s.on (TIM_PPSIN i) TIM_PPSIN_POL) = false) →
      ∃ t, exec (.ppsInEdge i rising sub) s = .next t ∧
        SameParts [] s t ∧
        SameRegs noReg [] s t) ∧
  (∀ (e : Int) (ts : Nat) (s : State), s.cyc.pps = [(e, ts)] → (s.coasting || (s.tim.lastStep.any (fun l => decide (s.now ≤ l.1 + 1)))) = true →
      s.ppsTick.rd64 TIM_DISCARDED = (s.rd64 TIM_DISCARDED + 1) % 2 ^ 64 ∧ SameParts [] s s.ppsTick ∧
        SameRegs noReg [TIM_DISCARDED, TIM_DISCARDED + 4] s s.ppsTick) ∧
  (∀ (e : Int) (ts : Nat) (s : State), s.cyc.pps = [(e, ts)] → (s.coasting || (s.tim.lastStep.any (fun l => decide (s.now ≤ l.1 + 1)))) = false → 16 * s.jumpNs < e.natAbs →
      s.ppsTick.rd64 TIM_JUMP_REFUSED = (s.rd64 TIM_JUMP_REFUSED + 1) % 2 ^ 64 ∧
        Noted s s.ppsTick TIM_STATUS TIM_STATUS_JUMP_REFUSED ∧
        (s.tim.refused = 15 → Noted s s.ppsTick TIM_STATUS TIM_STATUS_SERVO_STUCK) ∧
        s.ppsTick.tim = { s.tim with refused := s.tim.refused + 1 } ∧ SameParts [.irq, .cyc, .msi, .shu, .tim] s s.ppsTick ∧
        SameRegs irqReg [TIM_JUMP_REFUSED, TIM_JUMP_REFUSED + 4, TIM_STATUS] s s.ppsTick) ∧
  (∀ (e : Int) (ts p : Nat) (s : State), s.cyc.pps = [(e, ts)] → (s.coasting || (s.tim.lastStep.any (fun l => decide (s.now ≤ l.1 + 1)))) = false → e.natAbs ≤ 16 * s.jumpNs →
      s.tim.tsPrev = some p → p ≠ ts →
      s.ppsTick.rd64 TIM_SAMPLES = (s.rd64 TIM_SAMPLES + 1) % 2 ^ 64 ∧ s.ppsTick.tim.refused = 0 ∧ s.ppsTick.tim.lastSample = s.now ∧
        s.ppsTick.tim.good = (if e.natAbs ≤ 16 * s.g TIM_SERVO TIM_SERVO_LOCK_NS then s.tim.good + 1 else 0) ∧ s.ppsTick.g TIM_STATUS TIM_STATUS_STATE = (if 16 ≤ (if e.natAbs ≤ 16 * s.g TIM_SERVO TIM_SERVO_LOCK_NS then s.tim.good + 1 else 0) then 2 else 1) ∧
        s.ppsTick.tim.integ = (clampI s.freqLim (s.tim.integ + (e * 2 ^ 32) / (16 * ((ts : Int) - (p : Int))) / 2 ^ s.g TIM_SERVO TIM_SERVO_KI)) ∧
        s.ppsTick.rd TIM_FREQ = word (toBits 32 (clampI s.freqLim
          ((clampI s.freqLim (s.tim.integ + (e * 2 ^ 32) / (16 * ((ts : Int) - (p : Int))) / 2 ^ s.g TIM_SERVO TIM_SERVO_KI)) + (e * 2 ^ 32) / (16 * ((ts : Int) - (p : Int))) / 2 ^ s.g TIM_SERVO TIM_SERVO_KP))) ∧
        SameParts [.irq, .cyc, .msi, .shu, .tim] s s.ppsTick ∧
        SameRegs irqReg [TIM_SAMPLES, TIM_SAMPLES + 4, TIM_FREQ, TIM_STATUS] s s.ppsTick) ∧
  (∀ (ag : Agent) (v : Word) (s : State),
      s.reaches ag TIM_PTP_OFS = true →
      s.g TIM_SERVO TIM_SERVO_SRC = 3 →
      agCode ag ≤ 1 →
      (s.coasting || ((s.tim.lastStep).any (fun l => decide (s.rd64 TIM_PTP_TS ≤ max l.2.1 l.2.2)))) = false →
      v.toInt.natAbs ≤ 16 * s.jumpNs →
      ∃ t, exec (.ptpOfsWrite ag v) s = .next t ∧
        t.rd64 (TIM_SAMPLES) = (s.rd64 (TIM_SAMPLES) + 1) % 2 ^ 64 ∧
        t.tim.refused = 0 ∧
        t.tim.lastSample = s.now ∧
        t.tim.good = (if v.toInt.natAbs ≤ 16 * s.g TIM_SERVO TIM_SERVO_LOCK_NS then s.tim.good + 1 else 0) ∧
        t.g TIM_STATUS TIM_STATUS_STATE = (if 16 ≤ (if v.toInt.natAbs ≤ 16 * s.g TIM_SERVO TIM_SERVO_LOCK_NS then s.tim.good + 1 else 0) then 2 else 1) ∧
        SameParts [.irq, .cyc, .msi, .shu, .fresh, .tim] s t ∧
        SameRegs irqReg [TIM_SAMPLES, TIM_SAMPLES + 4, TIM_FREQ, TIM_STATUS] s t) ∧
  (∀ (ag : Agent) (v : Word) (s : State),
      s.reaches ag TIM_PTP_OFS = true →
      s.g TIM_SERVO TIM_SERVO_SRC = 3 →
      agCode ag ≤ 1 →
      (s.coasting || ((s.tim.lastStep).any (fun l => decide (s.rd64 TIM_PTP_TS ≤ max l.2.1 l.2.2)))) = true →
      ∃ t, exec (.ptpOfsWrite ag v) s = .next t ∧
        t.rd64 (TIM_DISCARDED) = (s.rd64 (TIM_DISCARDED) + 1) % 2 ^ 64 ∧
        SameParts [] s t ∧
        SameRegs noReg [TIM_DISCARDED, TIM_DISCARDED + 4] s t) ∧
  (∀ (ag : Agent) (v : Word) (s : State),
      s.reaches ag TIM_PTP_OFS = true →
      s.g TIM_SERVO TIM_SERVO_SRC = 3 →
      agCode ag ≤ 1 →
      (s.coasting || ((s.tim.lastStep).any (fun l => decide (s.rd64 TIM_PTP_TS ≤ max l.2.1 l.2.2)))) = false →
      16 * s.jumpNs < v.toInt.natAbs →
      ∃ t, exec (.ptpOfsWrite ag v) s = .next t ∧
        t.rd64 (TIM_JUMP_REFUSED) = (s.rd64 (TIM_JUMP_REFUSED) + 1) % 2 ^ 64 ∧
        Noted s t TIM_STATUS TIM_STATUS_JUMP_REFUSED ∧
        t.tim = { s.tim with refused := s.tim.refused + 1 } ∧
        SameParts [.irq, .cyc, .msi, .shu, .tim] s t ∧
        SameRegs irqReg [TIM_JUMP_REFUSED, TIM_JUMP_REFUSED + 4, TIM_STATUS] s t) ∧
  (∀ (ag : Agent) (v : Word) (s : State),
      s.reaches ag TIM_PTP_OFS = true →
      (s.g TIM_SERVO TIM_SERVO_SRC ≠ 3 ∨ 1 < agCode ag) →
      ∃ t, exec (.ptpOfsWrite ag v) s = .next t ∧
        SameParts [] s t ∧
        SameRegs noReg [] s t) ∧
  (∀ (s : State),
      s.on TIM_SERVO TIM_SERVO_SRC = true →
      s.g TIM_STATUS TIM_STATUS_STATE ≠ 3 →
      atLeast1 (s.g TIM_SERVO TIM_SERVO_HOLD_S) * 1000000000 ≤ s.now - s.tim.lastSample →
      ∃ t, exec (.servoHoldover) s = .next t ∧
        t.g TIM_STATUS TIM_STATUS_STATE = 3 ∧
        t.rd TIM_FREQ = word (toBits 32 s.tim.integ) ∧
        t.tim = { s.tim with good := 0 } ∧
        SameParts [.irq, .cyc, .msi, .shu, .tim] s t ∧
        SameRegs irqReg [TIM_STATUS, TIM_FREQ] s t) ∧
  (∀ (ag : Agent) (v : Word) (s : State),
      s.reaches ag TIM_STEP_CTL = true →
      v.getLsbD 31 = true →
      s.tim.stepBusy = false →
      (((if (s.wrRW TIM_STEP_CTL v).on TIM_STEP_CTL TIM_STEP_CTL_ABS = true then (s.rd64 TIM_STEP : Int) - (s.devNs : Int) else sext 64 (s.rd64 TIM_STEP)).natAbs) ≤ s.jumpNs ∨ (s.wrRW TIM_STEP_CTL v).on TIM_STEP_CTL TIM_STEP_CTL_FORCE = true) →
      ∃ t, exec (.timeStep ag v) s = .next t ∧
        t.tim.sec = ((if (s.wrRW TIM_STEP_CTL v).on TIM_STEP_CTL TIM_STEP_CTL_ABS = true then (s.rd64 TIM_STEP : Int) else ((s.devNs : Int) + sext 64 (s.rd64 TIM_STEP)) % ((2 ^ 48 * 1000000000 : Nat) : Int)).toNat) / 1000000000 % 2 ^ 48 ∧
        t.tim.ns = ((if (s.wrRW TIM_STEP_CTL v).on TIM_STEP_CTL TIM_STEP_CTL_ABS = true then (s.rd64 TIM_STEP : Int) else ((s.devNs : Int) + sext 64 (s.rd64 TIM_STEP)) % ((2 ^ 48 * 1000000000 : Nat) : Int)).toNat) % 1000000000 ∧
        t.tim.frac = (if (s.wrRW TIM_STEP_CTL v).on TIM_STEP_CTL TIM_STEP_CTL_ABS = true then 0 else s.tim.frac) ∧
        t.tim.stepBusy = true ∧
        t.rd64 (TIM_STEPS) = (s.rd64 (TIM_STEPS) + 1) % 2 ^ 64 ∧
        Noted s t TIM_STATUS TIM_STATUS_STEPPED ∧
        t.on TIM_STEP_CTL TIM_STEP_CTL_GO = true ∧
        SameParts [.irq, .cyc, .msi, .shu, .tim, .blt, .pmc] s t ∧
        SameRegs irqReg [TIM_STEP_CTL, TIM_STEPS, TIM_STEPS + 4, TIM_STATUS] s t) ∧
  (∀ (ag : Agent) (v : Word) (s : State),
      s.reaches ag TIM_STEP_CTL = true →
      v.getLsbD 31 = true →
      s.tim.stepBusy = false →
      s.jumpNs < ((if (s.wrRW TIM_STEP_CTL v).on TIM_STEP_CTL TIM_STEP_CTL_ABS = true then (s.rd64 TIM_STEP : Int) - (s.devNs : Int) else sext 64 (s.rd64 TIM_STEP)).natAbs) →
      (s.wrRW TIM_STEP_CTL v).on TIM_STEP_CTL TIM_STEP_CTL_FORCE = false →
      ∃ t, exec (.timeStep ag v) s = .next t ∧
        t.tim = s.tim ∧
        t.rd64 (TIM_JUMP_REFUSED) = (s.rd64 (TIM_JUMP_REFUSED) + 1) % 2 ^ 64 ∧
        Noted s t TIM_STATUS TIM_STATUS_JUMP_REFUSED ∧
        SameParts [.irq, .cyc, .msi, .shu] s t ∧
        SameRegs irqReg [TIM_STEP_CTL, TIM_JUMP_REFUSED, TIM_JUMP_REFUSED + 4, TIM_STATUS] s t) ∧
  (∀ (ag : Agent) (v : Word) (s : State),
      s.reaches ag TIM_STEP_CTL = true →
      v.getLsbD 31 = true →
      s.tim.stepBusy = true →
      ∃ t, exec (.timeStep ag v) s = .next t ∧
        t.tim = s.tim ∧
        Noted s t TIM_STATUS TIM_STATUS_STEP_BUSY ∧
        SameParts [.irq, .cyc, .msi, .shu] s t ∧
        SameRegs irqReg [TIM_STEP_CTL, TIM_STATUS] s t) ∧
  (∀ (ag : Agent) (s : State),
      s.reaches ag TIM_NOW_NS = true →
      ∃ t, exec (.timeNowRead ag) s = .next t ∧
        t.lastRead ag = word s.tim.ns ∧
        t.rd (akey (agCode ag) TIM_NOW_SEC) = word s.tim.sec ∧
        t.rd (akey (agCode ag) TIM_NOW_X) = word (s.tim.sec / 2 ^ 32 % 65536 * 65536 + s.tim.frac / 65536) ∧
        SameParts [.agents] s t ∧
        SameRegs noReg [akey (agCode ag) TIM_NOW_SEC, akey (agCode ag) TIM_NOW_X] s t) ∧
  (∀ (ag : Agent) (i : Fin 2) (s : State),
      s.reaches ag (TIM_PPSIN i + 4) = true →
      ∃ t, exec (.ppsInRead ag i) s = .next t ∧
        t.lastRead ag = s.rd (TIM_PPSIN i + 4) ∧
        t.rd (akey (agCode ag) (TIM_PPSIN i + 8)) = s.rd (TIM_PPSIN i + 8) ∧
        t.rd (akey (agCode ag) (TIM_PPSIN i + 12)) = s.rd (TIM_PPSIN i + 12) ∧
        SameParts [.agents] s t ∧
        SameRegs noReg [akey (agCode ag) (TIM_PPSIN i + 8), akey (agCode ag) (TIM_PPSIN i + 12)] s t) ∧
  (∀ (ag : Agent) (s : State),
      s.reaches ag (TIM_TS_TX + 12) = true →
      ∃ t, exec (.tsFifoPop ag true) s = .next t ∧
        t.tim = { s.tim with tx := s.tim.tx.tail } ∧
        t.lastRead ag = ((s.tim.tx.head?).map (fun e => e.2.2.2)).getD 0 ∧
        SameParts [.agents, .tim] s t ∧
        SameRegs noReg [] s t) ∧
  (∀ (ag : Agent) (s : State),
      s.reaches ag (TIM_TS_RX + 12) = true →
      ∃ t, exec (.tsFifoPop ag false) s = .next t ∧
        t.tim = { s.tim with rx := s.tim.rx.tail } ∧
        t.lastRead ag = ((s.tim.rx.head?).map (fun e => e.2.2.2)).getD 0 ∧
        SameParts [.agents, .tim] s t ∧
        SameRegs noReg [] s t) ∧
  (∀ (ag : Agent) (v : Word) (s : State),
      s.reaches ag TIM_PTP_TX_CTL = true →
      v.getLsbD 31 = true →
      s.tim.mail.look (agCode ag) = none →
      s.portState (s.portOfLane ((s.wrMask (akey (agCode ag) TIM_PTP_TX_CTL) (rwBits TIM_PTP_TX_CTL) v).g (akey (agCode ag) TIM_PTP_TX_CTL) TIM_PTP_TX_CTL_LANE)) ≠ 3 →
      ((s.wrMask (akey (agCode ag) TIM_PTP_TX_CTL) (rwBits TIM_PTP_TX_CTL) v).on (akey (agCode ag) TIM_PTP_TX_CTL) TIM_PTP_TX_CTL_ONE_STEP && isUdp (((List.range 64).flatMap (fun w => wordBytes (s.rd (akey (agCode ag) (TIM_PTP_TX w))))).take (min (2 * (s.wrMask (akey (agCode ag) TIM_PTP_TX_CTL) (rwBits TIM_PTP_TX_CTL) v).g (akey (agCode ag) TIM_PTP_TX_CTL) TIM_PTP_TX_CTL_LEN2) 256))) = false →
      ∃ t, exec (.ptpTxGo ag v) s = .next t ∧
        t.tim = { s.tim with mail := s.tim.mail.put (agCode ag) (some ⟨(((List.range 64).flatMap (fun w => wordBytes (s.rd (akey (agCode ag) (TIM_PTP_TX w))))).take (min (2 * (s.wrMask (akey (agCode ag) TIM_PTP_TX_CTL) (rwBits TIM_PTP_TX_CTL) v).g (akey (agCode ag) TIM_PTP_TX_CTL) TIM_PTP_TX_CTL_LEN2) 256)), (s.wrMask (akey (agCode ag) TIM_PTP_TX_CTL) (rwBits TIM_PTP_TX_CTL) v).rd (akey (agCode ag) TIM_PTP_TX_CTL)⟩) } ∧
        t.on (akey (agCode ag) TIM_PTP_TX_CTL) TIM_PTP_TX_CTL_GO = true ∧
        SameParts [.tim, .hsl] s t ∧
        SameRegs noReg [(akey (agCode ag) TIM_PTP_TX_CTL), HSL_LPI_TX_US (s.portOfLane ((s.wrMask (akey (agCode ag) TIM_PTP_TX_CTL) (rwBits TIM_PTP_TX_CTL) v).g (akey (agCode ag) TIM_PTP_TX_CTL) TIM_PTP_TX_CTL_LANE)), HSL_LPI_TX_US (s.portOfLane ((s.wrMask (akey (agCode ag) TIM_PTP_TX_CTL) (rwBits TIM_PTP_TX_CTL) v).g (akey (agCode ag) TIM_PTP_TX_CTL) TIM_PTP_TX_CTL_LANE)) + 4] s t) ∧
  (∀ (ag : Agent) (v : Word) (s : State),
      s.reaches ag TIM_PTP_TX_CTL = true →
      v.getLsbD 31 = true →
      s.tim.mail.look (agCode ag) ≠ none →
      ∃ t, exec (.ptpTxGo ag v) s = .next t ∧
        t.g (akey (agCode ag) TIM_PTP_TX_CTL) TIM_PTP_TX_CTL_RESULT = 2 ∧
        SameParts [] s t ∧
        SameRegs noReg [(akey (agCode ag) TIM_PTP_TX_CTL)] s t) ∧
  (∀ (ag : Agent) (v : Word) (s : State),
      s.reaches ag TIM_PTP_TX_CTL = true →
      v.getLsbD 31 = true →
      s.tim.mail.look (agCode ag) = none →
      s.portState (s.portOfLane ((s.wrMask (akey (agCode ag) TIM_PTP_TX_CTL) (rwBits TIM_PTP_TX_CTL) v).g (akey (agCode ag) TIM_PTP_TX_CTL) TIM_PTP_TX_CTL_LANE)) = 3 →
      ∃ t, exec (.ptpTxGo ag v) s = .next t ∧
        t.g (akey (agCode ag) TIM_PTP_TX_CTL) TIM_PTP_TX_CTL_RESULT = 1 ∧
        SameParts [] s t ∧
        SameRegs noReg [(akey (agCode ag) TIM_PTP_TX_CTL)] s t) ∧
  (∀ (ag : Agent) (v : Word) (s : State),
      s.reaches ag TIM_PTP_TX_CTL = true →
      v.getLsbD 31 = true →
      s.tim.mail.look (agCode ag) = none →
      s.portState (s.portOfLane ((s.wrMask (akey (agCode ag) TIM_PTP_TX_CTL) (rwBits TIM_PTP_TX_CTL) v).g (akey (agCode ag) TIM_PTP_TX_CTL) TIM_PTP_TX_CTL_LANE)) ≠ 3 →
      ((s.wrMask (akey (agCode ag) TIM_PTP_TX_CTL) (rwBits TIM_PTP_TX_CTL) v).on (akey (agCode ag) TIM_PTP_TX_CTL) TIM_PTP_TX_CTL_ONE_STEP && isUdp (((List.range 64).flatMap (fun w => wordBytes (s.rd (akey (agCode ag) (TIM_PTP_TX w))))).take (min (2 * (s.wrMask (akey (agCode ag) TIM_PTP_TX_CTL) (rwBits TIM_PTP_TX_CTL) v).g (akey (agCode ag) TIM_PTP_TX_CTL) TIM_PTP_TX_CTL_LEN2) 256))) = true →
      ∃ t, exec (.ptpTxGo ag v) s = .next t ∧
        t.g (akey (agCode ag) TIM_PTP_TX_CTL) TIM_PTP_TX_CTL_RESULT = 3 ∧
        SameParts [] s t ∧
        SameRegs noReg [(akey (agCode ag) TIM_PTP_TX_CTL)] s t) ∧
  (∀ (ag : Agent) (sub : Fin 16) (m : PtpMail) (s : State),
      s.tim.mail.look (agCode ag) = some m →
      s.portState (s.portOfLane (bget m.ctl 25 5)) = 2 →
      ∃ t, exec (.ptpTxSend ag sub) s = .next t ∧
        t.rd64 (HSL_TX_FRAMES (s.portOfLane (bget m.ctl 25 5))) = (s.rd64 (HSL_TX_FRAMES (s.portOfLane (bget m.ctl 25 5))) + 1) % 2 ^ 64 ∧
        t.tim.mail.look (agCode ag) = none ∧
        t.g (akey (agCode ag) TIM_PTP_TX_CTL) TIM_PTP_TX_CTL_RESULT = 0 ∧
        t.on (akey (agCode ag) TIM_PTP_TX_CTL) TIM_PTP_TX_CTL_GO = false ∧
        (m.ctl.getLsbD 30 = false → t.rd64 (HSL_TX_BYTES (s.portOfLane (bget m.ctl 25 5))) = (s.rd64 (HSL_TX_BYTES (s.portOfLane (bget m.ctl 25 5))) + m.bytes.length) % 2 ^ 64) ∧
        (m.ctl.getLsbD 30 = false → ptpAt m.bytes ≠ none → s.tim.tx.length < 256 → t.tim.tx.length = s.tim.tx.length + 1) ∧
        SameParts [.irq, .cyc, .msi, .shu, .tim] s t ∧
        SameRegs irqReg [(akey (agCode ag) TIM_PTP_TX_CTL), HSL_TX_FRAMES (s.portOfLane (bget m.ctl 25 5)), HSL_TX_FRAMES (s.portOfLane (bget m.ctl 25 5)) + 4, HSL_TX_BYTES (s.portOfLane (bget m.ctl 25 5)), HSL_TX_BYTES (s.portOfLane (bget m.ctl 25 5)) + 4, TIM_TS_OVF, TIM_TS_OVF + 4, TIM_STATUS] s t) ∧
  (∀ (s : State),
      (1 < s.tim.ns ∨ s.tim.todSec = s.tim.sec + 1) →
      ∃ t, exec (.todUpdate) s = .next t ∧
        SameParts [] s t ∧
        SameRegs noReg [] s t) ∧
  (∀ (s : State),
      s.tim.ns ≤ 1 →
      s.tim.todSec ≠ s.tim.sec + 1 →
      ∃ t, exec (.todUpdate) s = .next t ∧
        t.tim = { s.tim with todSec := s.tim.sec + 1 } ∧
        (∀ c : Fin 64, s.on (DSF_STATUS c) DSF_STATUS_ALIGNED = true → t.rd (TIM_TOD c + 8) = word (if (s.tim.sec + 1) * 1000000000 ≤ (s.pch.look c).offset then 0 else cdiv ((s.tim.sec + 1) * 1000000000 - (s.pch.look c).offset) 125000) ∧ t.rd (TIM_TOD c + 12) = word (split16 (((if (s.tim.sec + 1) * 1000000000 ≤ (s.pch.look c).offset then 0 else cdiv ((s.tim.sec + 1) * 1000000000 - (s.pch.look c).offset) 125000) * 125000 + (s.pch.look c).offset) * 16 + s.g (TIM_TOD c) TIM_TOD_TX_DLY)).1 ∧ t.rd (TIM_TOD c + 16) = word (split16 (((if (s.tim.sec + 1) * 1000000000 ≤ (s.pch.look c).offset then 0 else cdiv ((s.tim.sec + 1) * 1000000000 - (s.pch.look c).offset) 125000) * 125000 + (s.pch.look c).offset) * 16 + s.g (TIM_TOD c) TIM_TOD_TX_DLY)).2.1 ∧ t.on (TIM_TOD c) TIM_TOD_VALID = (s.tim.lockedOnce && !s.coasting)) ∧
        (∀ c : Fin 64, s.on (DSF_STATUS c) DSF_STATUS_ALIGNED = false → ∀ w : Fin 8, t.rd (TIM_TOD c + 4 * w) = s.rd (TIM_TOD c + 4 * w)) ∧
        SameParts [.tim] s t ∧
        SameRegs (fun a => regsIn (TIM_TOD 0) (TIM_TOD 64) a) [] s t) ∧
  (∀ (ag : Agent) (j : Fin 32) (v : Word) (s : State),
      s.reaches ag ((TIM_TRIG j) + 4) = true →
      s.trigDue j = false →
      s.on (TIM_TRIG j) TIM_TRIG_EN = true →
      ¬ ((2 : Int) ^ 62 ≤ (s.pairLo ag ((TIM_TRIG j) + 4) v).trigDiff j ∨ (s.pairLo ag ((TIM_TRIG j) + 4) v).trigDiff j < -(2 : Int) ^ 62 ∨ 7 ≤ s.g (TIM_TRIG j) TIM_TRIG_FUNC ∨ (s.g (TIM_TRIG j) TIM_TRIG_FUNC = 3 ∧ 1 < s.g (TIM_TRIG j) TIM_TRIG_PIN)) →
      ∃ t, exec (.triggerArm ag j v) s = .next t ∧
        t.rd ((TIM_TRIG j) + 4) = v ∧
        t.rd ((TIM_TRIG j) + 8) = (s.takeHold ag ((TIM_TRIG j) + 4)).2 ∧
        t.tim = { s.tim with armed := s.tim.armed.put j true, firing := s.tim.firing.put j (decide ((s.pairLo ag ((TIM_TRIG j) + 4) v).trigDiff j ≤ 0)) } ∧
        t.cyc = { s.cyc with armed := s.cyc.armed.put j true } ∧
        SameParts [.agents, .tim, .cyc] s t ∧
        SameRegs noReg [(TIM_TRIG j) + 4, (TIM_TRIG j) + 8] s t) ∧
  (∀ (ag : Agent) (j : Fin 32) (v : Word) (s : State),
      s.reaches ag ((TIM_TRIG j) + 4) = true →
      s.trigDue j = false →
      s.on (TIM_TRIG j) TIM_TRIG_EN = true →
      ((2 : Int) ^ 62 ≤ (s.pairLo ag ((TIM_TRIG j) + 4) v).trigDiff j ∨ (s.pairLo ag ((TIM_TRIG j) + 4) v).trigDiff j < -(2 : Int) ^ 62 ∨ 7 ≤ s.g (TIM_TRIG j) TIM_TRIG_FUNC ∨ (s.g (TIM_TRIG j) TIM_TRIG_FUNC = 3 ∧ 1 < s.g (TIM_TRIG j) TIM_TRIG_PIN)) →
      ∃ t, exec (.triggerArm ag j v) s = .next t ∧
        t.rd ((TIM_TRIG j) + 4) = v ∧
        t.rd ((TIM_TRIG j) + 8) = (s.takeHold ag ((TIM_TRIG j) + 4)).2 ∧
        t.tim = { s.tim with armed := s.tim.armed.put j false } ∧
        Noted s t (TIM_TRIG j) TIM_TRIG_TARGET_BAD ∧
        SameParts [.irq, .cyc, .msi, .shu, .agents, .tim] s t ∧
        SameRegs irqReg [(TIM_TRIG j) + 4, (TIM_TRIG j) + 8, (TIM_TRIG j) + 24] s t) ∧
  (∀ (ag : Agent) (j : Fin 32) (v : Word) (s : State),
      s.reaches ag ((TIM_TRIG j) + 4) = true →
      s.trigDue j = false →
      s.on (TIM_TRIG j) TIM_TRIG_EN = false →
      ∃ t, exec (.triggerArm ag j v) s = .next t ∧
        t.rd ((TIM_TRIG j) + 4) = v ∧
        t.rd ((TIM_TRIG j) + 8) = (s.takeHold ag ((TIM_TRIG j) + 4)).2 ∧
        SameParts [.agents] s t ∧
        SameRegs noReg [(TIM_TRIG j) + 4, (TIM_TRIG j) + 8] s t) ∧
  (∀ (ag : Agent) (j : Fin 32) (v : Word) (s : State),
      s.reaches ag ((TIM_TRIG j) + 4) = true →
      s.trigDue j = true →
      ∃ t, exec (.triggerArm ag j v) s = .next t ∧
        t.rd ((TIM_TRIG j) + 4) = v ∧
        Noted s t (TIM_TRIG j) TIM_TRIG_FIRED ∧
        SameParts [.agents, .irq, .cyc, .msi, .tim, .shu, .blt, .pmc] s t) ∧
  (∀ (j : Fin 32) (s : State),
      s.trigDue j = true →
      ∃ t, exec (.triggerFire j) s = .next t ∧
        t.tim.armed.look j = decide (s.rd64 ((TIM_TRIG j) + 12) ≠ 0) ∧
        t.tim.firing.look j = false ∧
        t.rd64 ((TIM_TRIG j) + 4) = (s.rd64 ((TIM_TRIG j) + 4) + (if s.rd64 ((TIM_TRIG j) + 12) = 0 then 0 else (-(s.trigDiff j)).toNat / (s.rd64 ((TIM_TRIG j) + 12)) + 1) * s.rd64 ((TIM_TRIG j) + 12)) % 2 ^ 64 ∧
        t.rd ((TIM_TRIG j) + 28) = s.rd ((TIM_TRIG j) + 28) + word ((if s.rd64 ((TIM_TRIG j) + 12) = 0 then 0 else (-(s.trigDiff j)).toNat / (s.rd64 ((TIM_TRIG j) + 12)) + 1) - 1) ∧
        Noted s t (TIM_TRIG j) TIM_TRIG_FIRED ∧
        (s.g (TIM_TRIG j) TIM_TRIG_FUNC = 2 → s.tim.acts.look (s.g (TIM_TRIG j) TIM_TRIG_PIN) = none → s.g (TIM_TRIG j) TIM_TRIG_ACTION ≤ 1 → t.tim.pins.look (s.g (TIM_TRIG j) TIM_TRIG_PIN) = decide (s.g (TIM_TRIG j) TIM_TRIG_ACTION = 0)) ∧
        SameParts [.irq, .cyc, .msi, .tim, .shu, .blt, .pmc] s t) ∧
  (∀ (j : Fin 32) (s : State),
      s.trigDue j = false →
      ∃ t, exec (.triggerFire j) s = .next t ∧
        SameParts [] s t ∧
        SameRegs noReg [] s t) ∧
  (∀ (pin : Fin 34) (p : Pulse) (s : State),
      s.tim.pulses.look pin = some p →
      p.until_ ≤ s.now →
      ∃ t, exec (.pulseEnd pin) s = .next t ∧
        t.tim = { s.tim with pins := s.tim.pins.put pin p.level, pulses := s.tim.pulses.put pin none, edges := s.tim.edges.upd pin (· + 16 * (p.width : Int)) } ∧
        SameParts [.tim] s t ∧
        SameRegs noReg [] s t) ∧
  (∀ (pin : Fin 34) (p : Pulse) (s : State),
      s.tim.pulses.look pin = some p →
      s.now < p.until_ →
      ∃ t, exec (.pulseEnd pin) s = .next t ∧
        SameParts [] s t ∧
        SameRegs noReg [] s t)

/-- EN written 1 on the lowest lane of a DOWN port: with no failing check its lanes take the width and keep the settings, the port is
TRAINING (FAULT in the safe state or without a full draft), blanked; else CFG_ERR holds the first failing code. EN written 0 takes
a port that runs to DOWN. A TRAINING port without a lane defect comes UP. A defect that has held its time is raised and noted and
takes an UP port back to TRAINING; in a blanking window it is only counted and remembered; it clears with an event. On an UP port
a good frame is counted and joins its pipeline, an oversized one and one with a bad FCS or, with FEC, an uncorrected codeword are
counted and dropped; in FAULT all are. After IDLE_US without an eligible frame an enabled port enters transmit LPI; the far end's
signal enters and ends receive LPI. With only the recovered clock present a port change may also coast the device: the statements
of a port's new state leave that case out. -/
def Obligations.UplinkPortsDefectsFramesAndIdle : Prop :=
  (∀ (ag : Agent) (l : Fin 32) (v : Word) (s : State),
      s.reaches ag (HSL_CTL l) = true →
      v.getLsbD 31 = true →
      s.portOfLane l = l →
      (s.portState l = 0 ∨ s.portState l = 4) →
      (s.wrRW (HSL_CTL l) v).portCheck l = 0 →
      (s.refHere 0 = true ∨ s.refHere 1 = true ∨ s.refHere 2 = false) →
      ∃ t, exec (.portEnable ag l v) s = .next t ∧
        t.portState l = (if s.portFault = true then 3 else 1) ∧
        t.g (HSL_STATUS l) HSL_STATUS_CFG_ERR = 0 ∧
        (∀ i : Fin 8, i.val < ((s.wrRW (HSL_CTL l) v).ctlWidth l) → t.g (HSL_STATUS (l + i)) HSL_STATUS_WIDTH_NOW = Nat.log2 ((s.wrRW (HSL_CTL l) v).ctlWidth l) + 1 ∧ (t.hsl.look (l + i)).blank = true ∧ (t.hsl.look (l + i)).ctl = (s.wrRW (HSL_CTL l) v).rd (HSL_CTL l)) ∧
        SameParts [.fresh, .irq, .cyc, .msi, .tmp, .tim, .shu, .blt, .hsl] s t) ∧
  (∀ (ag : Agent) (l : Fin 32) (v : Word) (s : State),
      s.reaches ag (HSL_CTL l) = true →
      v.getLsbD 31 = true →
      s.portOfLane l = l →
      (s.portState l = 0 ∨ s.portState l = 4) →
      (s.wrRW (HSL_CTL l) v).portCheck l ≠ 0 →
      ∃ t, exec (.portEnable ag l v) s = .next t ∧
        t.portState l = s.portState l ∧
        t.g (HSL_STATUS l) HSL_STATUS_CFG_ERR = (s.wrRW (HSL_CTL l) v).portCheck l ∧
        Noted s t (HSL_STATUS l) HSL_STATUS_CFG_ERR_EVT ∧
        SameParts [.irq, .cyc, .msi, .shu] s t ∧
        SameRegs irqReg [HSL_CTL l, HSL_STATUS l] s t) ∧
  (∀ (ag : Agent) (l : Fin 32) (v : Word) (s : State),
      s.reaches ag (HSL_CTL l) = true →
      v.getLsbD 31 = true →
      (s.portOfLane l ≠ l ∨ s.portState l = 1 ∨ s.portState l = 2 ∨ s.portState l = 3) →
      ∃ t, exec (.portEnable ag l v) s = .next t ∧
        (∀ b : Fin 32, (t.rd (HSL_CTL l)).getLsbD b = if (rwBits (HSL_CTL l)).testBit b then (v).getLsbD b else (s.rd (HSL_CTL l)).getLsbD b) ∧
        SameParts [] s t ∧
        SameRegs noReg [HSL_CTL l] s t) ∧
  (∀ (ag : Agent) (l : Fin 32) (v : Word) (s : State),
      s.reaches ag (HSL_CTL l) = true →
      v.getLsbD 31 = false →
      s.portOfLane l = l →
      (s.portState l = 1 ∨ s.portState l = 2 ∨ s.portState l = 3) →
      (s.refHere 0 = true ∨ s.refHere 1 = true ∨ s.refHere 2 = false) →
      ∃ t, exec (.portDisable ag l v) s = .next t ∧
        t.portState l = 0 ∧
        t.g (HSL_STATUS l) HSL_STATUS_WIDTH_NOW = 0 ∧
        t.laneBad l = false ∧
        SameParts [.fresh, .irq, .cyc, .msi, .tmp, .tim, .shu, .blt, .hsl] s t) ∧
  (∀ (ag : Agent) (l : Fin 32) (v : Word) (s : State),
      s.reaches ag (HSL_CTL l) = true →
      v.getLsbD 31 = false →
      (s.portOfLane l ≠ l ∨ s.portState l = 0 ∨ s.portState l = 4) →
      ∃ t, exec (.portDisable ag l v) s = .next t ∧
        (∀ b : Fin 32, (t.rd (HSL_CTL l)).getLsbD b = if (rwBits (HSL_CTL l)).testBit b then (v).getLsbD b else (s.rd (HSL_CTL l)).getLsbD b) ∧
        SameParts [] s t ∧
        SameRegs noReg [HSL_CTL l] s t) ∧
  (∀ (l : Fin 32) (s : State),
      (s.portState l ≠ 1 ∨ s.portOfLane l ≠ l ∨ s.laneBad l = true) →
      ∃ t, exec (.portUp l) s = .next t ∧
        SameParts [] s t ∧
        SameRegs noReg [] s t) ∧
  (∀ (l : Fin 32) (s : State),
      s.portState l = 1 →
      s.portOfLane l = l →
      (∀ i : Fin 64, i.val < s.portWidth l → s.laneBad (l + i) = false) →
      (s.refHere 0 = true ∨ s.refHere 1 = true ∨ s.refHere 2 = false ∨ s.recUp = true) →
      ∃ t, exec (.portUp l) s = .next t ∧
        t.portState l = 2 ∧
        SameParts [.fresh, .irq, .cyc, .msi, .tmp, .tim, .shu, .blt, .hsl] s t) ∧
  (∀ (l : Fin 32) (us : Nat) (s : State),
      (s.laneRuns l = false ∨ s.on (HSL_STATUS l) HSL_STATUS_LOS_LIVE = true ∨ ¬ atLeast1 (s.g (HSL_DEF_CTL l) HSL_DEF_CTL_LOS_SET_US) ≤ us) →
      ∃ t, exec (.hslLosRaise l us) s = .next t ∧
        SameParts [] s t ∧
        SameRegs noReg [] s t) ∧
  (∀ (l : Fin 32) (us : Nat) (s : State),
      s.laneRuns l = true →
      atLeast1 (s.g (HSL_DEF_CTL l) HSL_DEF_CTL_LOS_SET_US) ≤ us →
      s.on (HSL_STATUS l) HSL_STATUS_LOS_LIVE = false →
      (s.hsl.look l).blank = false →
      ∃ t, exec (.hslLosRaise l us) s = .next t ∧
        t.on (HSL_STATUS l) HSL_STATUS_LOS_LIVE = true ∧
        Noted s t (HSL_STATUS l) HSL_STATUS_LOS ∧
        (s.portState (s.portOfLane l) = 2 → t.portState (s.portOfLane l) = 1) ∧
        SameParts [.fresh, .irq, .cyc, .msi, .tmp, .tim, .shu, .blt, .hsl] s t) ∧
  (∀ (l : Fin 32) (us : Nat) (s : State),
      s.laneRuns l = true →
      atLeast1 (s.g (HSL_DEF_CTL l) HSL_DEF_CTL_LOS_SET_US) ≤ us →
      s.on (HSL_STATUS l) HSL_STATUS_LOS_LIVE = false →
      (s.hsl.look l).blank = true →
      bit (s.hsl.look l).holds 2 = false →
      ∃ t, exec (.hslLosRaise l us) s = .next t ∧
        t.rd64 (HSL_BLANKED (s.portOfLane l)) = (s.rd64 (HSL_BLANKED (s.portOfLane l)) + 1) % 2 ^ 64 ∧
        bit (t.hsl.look l).holds 2 = true ∧
        SameParts [.hsl] s t ∧
        SameRegs noReg [HSL_BLANKED (s.portOfLane l), HSL_BLANKED (s.portOfLane l) + 4] s t) ∧
  (∀ (l : Fin 32) (ms : Nat) (s : State),
      atLeast1 (s.g (HSL_DEF_CTL l) HSL_DEF_CTL_LOS_CLR_MS) ≤ ms →
      s.on (HSL_STATUS l) HSL_STATUS_LOS_LIVE = true →
      ∃ t, exec (.hslLosClear l ms) s = .next t ∧
        t.on (HSL_STATUS l) HSL_STATUS_LOS_LIVE = false ∧
        Noted s t (HSL_STATUS l) HSL_STATUS_LOS ∧
        bit (t.hsl.look l).holds 2 = false ∧
        SameParts [.irq, .cyc, .msi, .shu, .blt, .hsl] s t ∧
        SameRegs boltReg [HSL_STATUS l] s t) ∧
  (∀ (l : Fin 32) (s : State),
      (s.laneRuns l = false ∨ s.on (HSL_STATUS l) HSL_STATUS_LOL_LIVE = true) →
      ∃ t, exec (.hslLolRaise l) s = .next t ∧
        SameParts [] s t ∧
        SameRegs noReg [] s t) ∧
  (∀ (l : Fin 32) (s : State),
      s.laneRuns l = true →
      s.on (HSL_STATUS l) HSL_STATUS_LOL_LIVE = false →
      (s.hsl.look l).blank = false →
      ∃ t, exec (.hslLolRaise l) s = .next t ∧
        t.on (HSL_STATUS l) HSL_STATUS_LOL_LIVE = true ∧
        Noted s t (HSL_STATUS l) HSL_STATUS_LOL ∧
        (s.portState (s.portOfLane l) = 2 → t.portState (s.portOfLane l) = 1) ∧
        SameParts [.fresh, .irq, .cyc, .msi, .tmp, .tim, .shu, .blt, .hsl] s t) ∧
  (∀ (l : Fin 32) (s : State),
      s.laneRuns l = true →
      s.on (HSL_STATUS l) HSL_STATUS_LOL_LIVE = false →
      (s.hsl.look l).blank = true →
      bit (s.hsl.look l).holds 1 = false →
      ∃ t, exec (.hslLolRaise l) s = .next t ∧
        t.rd64 (HSL_BLANKED (s.portOfLane l)) = (s.rd64 (HSL_BLANKED (s.portOfLane l)) + 1) % 2 ^ 64 ∧
        bit (t.hsl.look l).holds 1 = true ∧
        SameParts [.hsl] s t ∧
        SameRegs noReg [HSL_BLANKED (s.portOfLane l), HSL_BLANKED (s.portOfLane l) + 4] s t) ∧
  (∀ (l : Fin 32) (s : State),
      s.on (HSL_STATUS l) HSL_STATUS_LOL_LIVE = true →
      ∃ t, exec (.hslLolClear l) s = .next t ∧
        t.on (HSL_STATUS l) HSL_STATUS_LOL_LIVE = false ∧
        Noted s t (HSL_STATUS l) HSL_STATUS_LOL ∧
        bit (t.hsl.look l).holds 1 = false ∧
        SameParts [.irq, .cyc, .msi, .shu, .blt, .hsl] s t ∧
        SameRegs boltReg [HSL_STATUS l] s t) ∧
  (∀ (l : Fin 32) (s : State),
      (s.laneRuns l = false ∨ s.on (HSL_STATUS l) HSL_STATUS_LOAM_LIVE = true) →
      ∃ t, exec (.loamRaise l) s = .next t ∧
        SameParts [] s t ∧
        SameRegs noReg [] s t) ∧
  (∀ (l : Fin 32) (s : State),
      s.laneRuns l = true →
      s.on (HSL_STATUS l) HSL_STATUS_LOAM_LIVE = false →
      (s.hsl.look l).blank = false →
      ∃ t, exec (.loamRaise l) s = .next t ∧
        t.on (HSL_STATUS l) HSL_STATUS_LOAM_LIVE = true ∧
        Noted s t (HSL_STATUS l) HSL_STATUS_LOAM ∧
        (s.portState (s.portOfLane l) = 2 → t.portState (s.portOfLane l) = 1) ∧
        SameParts [.fresh, .irq, .cyc, .msi, .tmp, .tim, .shu, .blt, .hsl] s t) ∧
  (∀ (l : Fin 32) (s : State),
      s.laneRuns l = true →
      s.on (HSL_STATUS l) HSL_STATUS_LOAM_LIVE = false →
      (s.hsl.look l).blank = true →
      bit (s.hsl.look l).holds 0 = false →
      ∃ t, exec (.loamRaise l) s = .next t ∧
        t.rd64 (HSL_BLANKED (s.portOfLane l)) = (s.rd64 (HSL_BLANKED (s.portOfLane l)) + 1) % 2 ^ 64 ∧
        bit (t.hsl.look l).holds 0 = true ∧
        SameParts [.hsl] s t ∧
        SameRegs noReg [HSL_BLANKED (s.portOfLane l), HSL_BLANKED (s.portOfLane l) + 4] s t) ∧
  (∀ (l : Fin 32) (s : State),
      s.on (HSL_STATUS l) HSL_STATUS_LOAM_LIVE = true →
      ∃ t, exec (.loamClear l) s = .next t ∧
        t.on (HSL_STATUS l) HSL_STATUS_LOAM_LIVE = false ∧
        Noted s t (HSL_STATUS l) HSL_STATUS_LOAM ∧
        bit (t.hsl.look l).holds 0 = false ∧
        SameParts [.irq, .cyc, .msi, .shu, .blt, .hsl] s t ∧
        SameRegs boltReg [HSL_STATUS l] s t) ∧
  (∀ (l : Fin 32) (bytes : List Byte) (fcsOk : Bool) (corr uncorr : Nat) (sub : Fin 16) (s : State),
      s.portOfLane l = l →
      s.portState l = 2 →
      s.portFec l = true →
      bytes.length ≤ 10240 →
      fcsOk = true →
      uncorr = 0 →
      ∃ t, exec (.uplinkFrameReceive l bytes fcsOk corr uncorr sub) s = .next t ∧
        t.rd64 (HSL_FEC_CORR l) = (s.rd64 (HSL_FEC_CORR l) + corr) % 2 ^ 64 ∧
        t.rd64 (HSL_FEC_UNCORR l) = (s.rd64 (HSL_FEC_UNCORR l) + uncorr) % 2 ^ 64 ∧
        t.rd64 (HSL_RX_FRAMES l) = (s.rd64 (HSL_RX_FRAMES l) + 1) % 2 ^ 64 ∧
        t.rd64 (HSL_RX_BYTES l) = (s.rd64 (HSL_RX_BYTES l) + bytes.length) % 2 ^ 64 ∧
        t.cls.fifo.look ((s.drf.lanePipe.look l).1 - 1) = s.cls.fifo.look ((s.drf.lanePipe.look l).1 - 1) ++ [⟨l, 0, 0, 0, bytes, s.t64, none⟩] ∧
        SameParts [.irq, .cyc, .msi, .shu, .tim, .cls] s t ∧
        SameRegs irqReg [HSL_FEC_CORR l, HSL_FEC_CORR l + 4, HSL_FEC_UNCORR l, HSL_FEC_UNCORR l + 4, HSL_RX_FRAMES l, HSL_RX_FRAMES l + 4, HSL_RX_BYTES l, HSL_RX_BYTES l + 4, TIM_TS_OVF, TIM_TS_OVF + 4, TIM_STATUS] s t) ∧
  (∀ (l : Fin 32) (bytes : List Byte) (fcsOk : Bool) (corr uncorr : Nat) (sub : Fin 16) (s : State),
      s.portOfLane l = l →
      s.portState l = 2 →
      s.portFec l = true →
      bytes.length ≤ 10240 →
      (fcsOk = false ∨ 0 < uncorr) →
      ∃ t, exec (.uplinkFrameReceive l bytes fcsOk corr uncorr sub) s = .next t ∧
        t.rd64 (HSL_FEC_CORR l) = (s.rd64 (HSL_FEC_CORR l) + corr) % 2 ^ 64 ∧
        t.rd64 (HSL_FEC_UNCORR l) = (s.rd64 (HSL_FEC_UNCORR l) + uncorr) % 2 ^ 64 ∧
        t.rd64 (HSL_FCS_ERR l) = (s.rd64 (HSL_FCS_ERR l) + 1) % 2 ^ 64 ∧
        SameParts [] s t ∧
        SameRegs noReg [HSL_FEC_CORR l, HSL_FEC_CORR l + 4, HSL_FEC_UNCORR l, HSL_FEC_UNCORR l + 4, HSL_FCS_ERR l, HSL_FCS_ERR l + 4] s t) ∧
  (∀ (l : Fin 32) (bytes : List Byte) (fcsOk : Bool) (corr uncorr : Nat) (sub : Fin 16) (s : State),
      s.portOfLane l = l →
      s.portState l = 2 →
      s.portFec l = true →
      10240 < bytes.length →
      ∃ t, exec (.uplinkFrameReceive l bytes fcsOk corr uncorr sub) s = .next t ∧
        t.rd64 (HSL_FEC_CORR l) = (s.rd64 (HSL_FEC_CORR l) + corr) % 2 ^ 64 ∧
        t.rd64 (HSL_FEC_UNCORR l) = (s.rd64 (HSL_FEC_UNCORR l) + uncorr) % 2 ^ 64 ∧
        t.rd64 (HSL_OVERSIZE l) = (s.rd64 (HSL_OVERSIZE l) + 1) % 2 ^ 64 ∧
        SameParts [] s t ∧
        SameRegs noReg [HSL_FEC_CORR l, HSL_FEC_CORR l + 4, HSL_FEC_UNCORR l, HSL_FEC_UNCORR l + 4, HSL_OVERSIZE l, HSL_OVERSIZE l + 4] s t) ∧
  (∀ (l : Fin 32) (bytes : List Byte) (fcsOk : Bool) (corr uncorr : Nat) (sub : Fin 16) (s : State),
      s.portOfLane l = l →
      s.portState l = 3 →
      ∃ t, exec (.uplinkFrameReceive l bytes fcsOk corr uncorr sub) s = .next t ∧
        t.rd64 (HSL_RX_LF_DROP l) = (s.rd64 (HSL_RX_LF_DROP l) + 1) % 2 ^ 64 ∧
        SameParts [] s t ∧
        SameRegs noReg [HSL_RX_LF_DROP l, HSL_RX_LF_DROP l + 4] s t) ∧
  (∀ (l : Fin 32) (bytes : List Byte) (fcsOk : Bool) (corr uncorr : Nat) (sub : Fin 16) (s : State),
      s.portOfLane l = l →
      s.portState l = 2 →
      s.portFec l = false →
      bytes.length ≤ 10240 →
      fcsOk = true →
      ∃ t, exec (.uplinkFrameReceive l bytes fcsOk corr uncorr sub) s = .next t ∧
        t.rd64 (HSL_RX_FRAMES l) = (s.rd64 (HSL_RX_FRAMES l) + 1) % 2 ^ 64 ∧
        t.rd64 (HSL_RX_BYTES l) = (s.rd64 (HSL_RX_BYTES l) + bytes.length) % 2 ^ 64 ∧
        t.cls.fifo.look ((s.drf.lanePipe.look l).1 - 1) = s.cls.fifo.look ((s.drf.lanePipe.look l).1 - 1) ++ [⟨l, 0, 0, 0, bytes, s.t64, none⟩] ∧
        SameParts [.irq, .cyc, .msi, .shu, .tim, .cls] s t ∧
        SameRegs irqReg [HSL_RX_FRAMES l, HSL_RX_FRAMES l + 4, HSL_RX_BYTES l, HSL_RX_BYTES l + 4, TIM_TS_OVF, TIM_TS_OVF + 4, TIM_STATUS] s t) ∧
  (∀ (l : Fin 32) (bytes : List Byte) (fcsOk : Bool) (corr uncorr : Nat) (sub : Fin 16) (s : State),
      s.portOfLane l = l →
      s.portState l = 2 →
      s.portFec l = false →
      bytes.length ≤ 10240 →
      fcsOk = false →
      ∃ t, exec (.uplinkFrameReceive l bytes fcsOk corr uncorr sub) s = .next t ∧
        t.rd64 (HSL_FCS_ERR l) = (s.rd64 (HSL_FCS_ERR l) + 1) % 2 ^ 64 ∧
        SameParts [] s t ∧
        SameRegs noReg [HSL_FCS_ERR l, HSL_FCS_ERR l + 4] s t) ∧
  (∀ (l : Fin 32) (bytes : List Byte) (fcsOk : Bool) (corr uncorr : Nat) (sub : Fin 16) (s : State),
      (s.portOfLane l ≠ l ∨ s.portState l = 0 ∨ s.portState l = 1 ∨ s.portState l = 4) →
      ∃ t, exec (.uplinkFrameReceive l bytes fcsOk corr uncorr sub) s = .next t ∧
        SameParts [] s t ∧
        SameRegs noReg [] s t) ∧
  (∀ (l : Fin 32) (us : Nat) (s : State),
      s.portState l = 2 →
      s.portOfLane l = l →
      s.on (HSL_LPI l) HSL_LPI_TX_LPI_EN = true →
      atLeast1 (s.g (HSL_LPI_TIME l) HSL_LPI_TIME_IDLE_US) ≤ us →
      s.portEligible l = false →
      (s.hsl.look l).lpiTx = none →
      ∃ t, exec (.txLpiEnter l us) s = .next t ∧
        t.hsl.look l = { s.hsl.look l with lpiTx := some s.now } ∧
        SameParts [.hsl] s t ∧
        SameRegs noReg [] s t) ∧
  (∀ (l : Fin 32) (us : Nat) (s : State),
      (s.portEligible l = true ∨ s.on (HSL_LPI l) HSL_LPI_TX_LPI_EN = false ∨ us < atLeast1 (s.g (HSL_LPI_TIME l) HSL_LPI_TIME_IDLE_US)) →
      ∃ t, exec (.txLpiEnter l us) s = .next t ∧
        SameParts [] s t ∧
        SameRegs noReg [] s t) ∧
  (∀ (l : Fin 32) (s : State),
      s.portState l = 2 →
      s.portOfLane l = l →
      (s.hsl.look l).lpiRx = none →
      s.on (HSL_LPI l) HSL_LPI_RX_LPI_EN = true →
      ∃ t, exec (.rxLpiSignal l true) s = .next t ∧
        t.hsl.look l = { s.hsl.look l with lpiRx := some s.now } ∧
        SameParts [.hsl] s t ∧
        SameRegs noReg [] s t) ∧
  (∀ (l : Fin 32) (k : Nat) (s : State),
      s.portState l = 2 →
      s.portOfLane l = l →
      (s.hsl.look l).lpiRx = some k →
      ∃ t, exec (.rxLpiSignal l false) s = .next t ∧
        t.hsl.look l = { s.hsl.look l with lpiRx := none } ∧
        t.rd64 (HSL_LPI_RX_US l) = (s.rd64 (HSL_LPI_RX_US l) + ((s.now - k) / 1000)) % 2 ^ 64 ∧
        SameParts [.hsl] s t ∧
        SameRegs noReg [HSL_LPI_RX_US l, HSL_LPI_RX_US l + 4] s t)

/-- The third valid marker in a row on time locks a lane; all four locked with equal counts bring the link up; four marker slots in a
row without one unlock it and take the link down, and the message being received with it. While the link is up blocks are read in
rotation behind the line bits of their lanes. A good heartbeat on either path counts, makes the path alive, and leaves the mate's
role and claim: a listening device goes to STANDBY on ROLE 2 and takes over on another role where it is PRIMARY; an ACTIVE one
yields to a claim, but for a claiming one with PRIMARY; ROLE 1 ends the own claim. A block or pin word that fails its check is
only counted. A heartbeat goes out while a path is enabled, with the next number; a path silent for 125 us is no longer alive. A
message whose count and CRC check is counted: a mailbox message joins the mailbox or is dropped, a health report is stored, a
HANDOVER request is taken and answered by a READY standby, an ONU record of a held channel is stored by a standby; an unknown type
or a failed check is MSG_BAD. Records go out in one message and count. GO of the mailbox takes the message or answers 1; it goes
out at the next cycle; POP removes the head. Where in the stream the blocks sent stand is free (log entry 36). -/
def Obligations.SelvedgeLinkHeartbeatsAndMessages : Prop :=
  (∀ (i : Fin 4) (b : List Byte) (s : State),
      s.on SLV_CTL SLV_CTL_EN = true →
      s.svLocked i = false →
      markerOk i b = true →
      2 ≤ s.slv.run.look i →
      ∃ t, exec (.svAlignmentMarker i b true) s = .next t ∧
        t.svLocked i = true ∧
        t.slv.run.look i = s.slv.run.look i + 1 ∧
        t.slv.count.look i = (beNat ((b.drop 4).take 2)) ∧
        (((∀ j : Fin 4, j ≠ i → s.svLocked j = true ∧ s.slv.count.look j = (beNat ((b.drop 4).take 2))) ∧ s.on SLV_STATUS SLV_STATUS_LINK_UP = false) → t.on SLV_STATUS SLV_STATUS_LINK_UP = true ∧ Noted s t SLV_STATUS SLV_STATUS_LINK_CHG) ∧
        SameParts [.irq, .cyc, .msi, .shu, .slv] s t ∧
        SameRegs irqReg [SLV_STATUS, SLV_MSG_BAD, SLV_MSG_BAD + 4] s t) ∧
  (∀ (i : Fin 4) (b : List Byte) (onTime : Bool) (s : State),
      s.on SLV_CTL SLV_CTL_EN = true →
      s.svLocked i = false →
      (if markerOk i b = true then (if onTime = true then s.slv.run.look i + 1 else 1) else 0) < 3 →
      ∃ t, exec (.svAlignmentMarker i b onTime) s = .next t ∧
        t.svLocked i = false ∧
        t.slv.run.look i = (if markerOk i b = true then (if onTime = true then s.slv.run.look i + 1 else 1) else 0) ∧
        t.slv.miss.look i = 0 ∧
        SameParts [.slv] s t ∧
        SameRegs noReg [] s t) ∧
  (∀ (i : Fin 4) (b : List Byte) (s : State),
      s.on SLV_CTL SLV_CTL_EN = true →
      s.svLocked i = true →
      markerOk i b = true →
      ∃ t, exec (.svAlignmentMarker i b true) s = .next t ∧
        t.svLocked i = true ∧
        t.slv.miss.look i = 0 ∧
        t.slv.count.look i = (beNat ((b.drop 4).take 2)) ∧
        SameParts [.irq, .cyc, .msi, .shu, .slv] s t ∧
        SameRegs irqReg [SLV_STATUS, SLV_MSG_BAD, SLV_MSG_BAD + 4] s t) ∧
  (∀ (i : Fin 4) (b : List Byte) (s : State),
      s.on SLV_CTL SLV_CTL_EN = true →
      s.svLocked i = true →
      markerOk i b = false →
      s.slv.miss.look i < 3 →
      ∃ t, exec (.svAlignmentMarker i b true) s = .next t ∧
        t.svLocked i = true ∧
        t.slv.miss.look i = s.slv.miss.look i + 1 ∧
        SameParts [.slv] s t ∧
        SameRegs noReg [] s t) ∧
  (∀ (i : Fin 4) (b : List Byte) (s : State),
      s.on SLV_CTL SLV_CTL_EN = true →
      s.svLocked i = true →
      markerOk i b = false →
      3 ≤ s.slv.miss.look i →
      ∃ t, exec (.svAlignmentMarker i b true) s = .next t ∧
        t.svLocked i = false ∧
        t.rd64 (SLV_AM_LOSS) = (s.rd64 (SLV_AM_LOSS) + 1) % 2 ^ 64 ∧
        t.slv.run.look i = 0 ∧
        (s.on SLV_STATUS SLV_STATUS_LINK_UP = true → t.on SLV_STATUS SLV_STATUS_LINK_UP = false ∧ t.slv.rxMsg = none ∧ Noted s t SLV_STATUS SLV_STATUS_LINK_CHG) ∧
        (s.on SLV_STATUS SLV_STATUS_LINK_UP = true ∧ s.slv.rxMsg.isSome = true → t.rd64 (SLV_MSG_BAD) = (s.rd64 (SLV_MSG_BAD) + 1) % 2 ^ 64 ∧ Noted s t SLV_STATUS SLV_STATUS_MSG_BAD) ∧
        SameParts [.irq, .cyc, .msi, .shu, .slv] s t ∧
        SameRegs irqReg [SLV_STATUS, SLV_MSG_BAD, SLV_MSG_BAD + 4, SLV_AM_LOSS, SLV_AM_LOSS + 4] s t) ∧
  (∀ (i : Fin 4) (b : List Byte) (onTime : Bool) (s : State),
      (s.on SLV_CTL SLV_CTL_EN = false ∨ (s.svLocked i = true ∧ onTime = false)) →
      ∃ t, exec (.svAlignmentMarker i b onTime) s = .next t ∧
        SameParts [] s t ∧
        SameRegs noReg [] s t) ∧
  (∀ (i : Fin 4) (s : State),
      s.svLocked i = true →
      ∃ t, exec (.svMarkerLoss i) s = .next t ∧
        t.svLocked i = false ∧
        t.rd64 (SLV_AM_LOSS) = (s.rd64 (SLV_AM_LOSS) + 1) % 2 ^ 64 ∧
        t.slv.run.look i = 0 ∧
        (s.on SLV_STATUS SLV_STATUS_LINK_UP = true → t.on SLV_STATUS SLV_STATUS_LINK_UP = false ∧ t.slv.rxMsg = none ∧ Noted s t SLV_STATUS SLV_STATUS_LINK_CHG) ∧
        (s.on SLV_STATUS SLV_STATUS_LINK_UP = true ∧ s.slv.rxMsg.isSome = true → t.rd64 (SLV_MSG_BAD) = (s.rd64 (SLV_MSG_BAD) + 1) % 2 ^ 64 ∧ Noted s t SLV_STATUS SLV_STATUS_MSG_BAD) ∧
        SameParts [.irq, .cyc, .msi, .shu, .slv] s t ∧
        SameRegs irqReg [SLV_STATUS, SLV_MSG_BAD, SLV_MSG_BAD + 4, SLV_AM_LOSS, SLV_AM_LOSS + 4] s t) ∧
  (∀ (i : Fin 4) (s : State),
      s.svLocked i = false →
      ∃ t, exec (.svMarkerLoss i) s = .next t ∧
        SameParts [] s t ∧
        SameRegs noReg [] s t) ∧
  (∀ (lane : Fin 4) (prev : BitVec 58) (block : SvBlock) (role : Fin 3) (claim : Bool) (n : Nat) (s : State),
      s.on SLV_STATUS SLV_STATUS_LINK_UP = true →
      unstripe lane (List.replicate 4 prev) [block] = [hbBlock role claim n] →
      ∃ t, exec (.heartbeatRx lane prev block) s = .next t ∧
        t.rd64 (SLV_HB_RX_LINK) = (s.rd64 (SLV_HB_RX_LINK) + 1) % 2 ^ 64 ∧
        t.on SLV_STATUS SLV_STATUS_HB_LINK_ALIVE = true ∧
        t.slv.lastLink = some s.now ∧
        t.g SLV_STATUS SLV_STATUS_MATE_ROLE = role.val ∧
        t.on SLV_STATUS SLV_STATUS_MATE_CLAIM = claim ∧
        (claim = true → Noted s t SLV_STATUS SLV_STATUS_CLAIM_RX) ∧
        (t.slv.lastActive = if role.val = 2 then some s.now else s.slv.lastActive) ∧
        (s.protState = 1 ∧ role.val = 2 → t.protState = 2) ∧
        (s.protState = 1 ∧ role.val ≠ 2 ∧ s.slv.primary = true → t.protState = 3 ∧ t.rd64 (SLV_TAKEOVERS) = (s.rd64 (SLV_TAKEOVERS) + 1) % 2 ^ 64) ∧
        (s.protState = 1 ∧ role.val ≠ 2 ∧ s.slv.primary = false → t.protState = 1) ∧
        (s.protState = 3 ∧ claim = true ∧ (s.on SLV_CTL SLV_CTL_CLAIM = false ∨ s.slv.primary = false) → t.protState = 2 ∧ t.g SLV_CTL SLV_CTL_ROLE = 1 ∧ t.on SLV_CTL SLV_CTL_CLAIM = false ∧ t.rd64 (SLV_YIELDS) = (s.rd64 (SLV_YIELDS) + 1) % 2 ^ 64 ∧ Noted s t SLV_PROT_STATUS SLV_PROT_STATUS_YIELDED) ∧
        (s.protState = 3 ∧ claim = true ∧ s.on SLV_CTL SLV_CTL_CLAIM = true → Noted s t SLV_PROT_STATUS SLV_PROT_STATUS_CLAIM_CONFLICT) ∧
        (s.protState = 3 ∧ (claim = false ∨ (s.on SLV_CTL SLV_CTL_CLAIM = true ∧ s.slv.primary = true)) → t.protState = 3) ∧
        (s.protState ≠ 1 ∧ role.val = 1 → t.on SLV_CTL SLV_CTL_CLAIM = false) ∧
        (s.protState = 2 → t.protState = 2) ∧
        SameParts [.fresh, .irq, .cyc, .msi, .pch, .slots, .shd, .shu, .slv, .tmg] s t) ∧
  (∀ (lane : Fin 4) (prev : BitVec 58) (block : SvBlock) (s : State),
      s.on SLV_STATUS SLV_STATUS_LINK_UP = true →
      block.sync = 0b10 →
      ((payBytes (unscramble prev block.pay)).getD 7 0).toNat ≠ crc8 ((payBytes (unscramble prev block.pay)).take 7) →
      ∃ t, exec (.heartbeatRx lane prev block) s = .next t ∧
        t.rd64 (SLV_BAD_BLOCK) = (s.rd64 (SLV_BAD_BLOCK) + 1) % 2 ^ 64 ∧
        SameParts [] s t ∧
        SameRegs noReg [SLV_BAD_BLOCK, SLV_BAD_BLOCK + 4] s t) ∧
  (∀ (lane : Fin 4) (prev : BitVec 58) (block : SvBlock) (s : State),
      s.on SLV_STATUS SLV_STATUS_LINK_UP = false →
      ∃ t, exec (.heartbeatRx lane prev block) s = .next t ∧
        SameParts [] s t ∧
        SameRegs noReg [] s t) ∧
  (∀ (w : BitVec 8) (s : State),
      (bit w.toNat 0 && !bit w.toNat 7 && oddOnes w.toNat 7) = true →
      (s.slv.pinSeq.all (fun q => decide ((w.toNat / 8 % 8) = (q + 1) % 8)) || !s.on SLV_STATUS SLV_STATUS_HB_PIN_ALIVE) = true →
      ∃ t, exec (.hbPinWord w) s = .next t ∧
        t.rd64 (SLV_HB_RX_PIN) = (s.rd64 (SLV_HB_RX_PIN) + 1) % 2 ^ 64 ∧
        t.on SLV_STATUS SLV_STATUS_HB_PIN_ALIVE = true ∧
        t.slv.lastPin = some s.now ∧
        t.slv.pinSeq = some (w.toNat / 8 % 8) ∧
        t.g SLV_STATUS SLV_STATUS_MATE_ROLE = (if bit w.toNat 1 = true then 2 else 1) ∧
        t.on SLV_STATUS SLV_STATUS_MATE_CLAIM = bit w.toNat 2 ∧
        (bit w.toNat 2 = true → Noted s t SLV_STATUS SLV_STATUS_CLAIM_RX) ∧
        (t.slv.lastActive = if (if bit w.toNat 1 = true then 2 else 1) = 2 then some s.now else s.slv.lastActive) ∧
        (s.protState = 1 ∧ (if bit w.toNat 1 = true then 2 else 1) = 2 → t.protState = 2) ∧
        (s.protState = 1 ∧ (if bit w.toNat 1 = true then 2 else 1) ≠ 2 ∧ s.slv.primary = true → t.protState = 3 ∧ t.rd64 (SLV_TAKEOVERS) = (s.rd64 (SLV_TAKEOVERS) + 1) % 2 ^ 64) ∧
        (s.protState = 1 ∧ (if bit w.toNat 1 = true then 2 else 1) ≠ 2 ∧ s.slv.primary = false → t.protState = 1) ∧
        (s.protState = 3 ∧ bit w.toNat 2 = true ∧ (s.on SLV_CTL SLV_CTL_CLAIM = false ∨ s.slv.primary = false) → t.protState = 2 ∧ t.g SLV_CTL SLV_CTL_ROLE = 1 ∧ t.on SLV_CTL SLV_CTL_CLAIM = false ∧ t.rd64 (SLV_YIELDS) = (s.rd64 (SLV_YIELDS) + 1) % 2 ^ 64 ∧ Noted s t SLV_PROT_STATUS SLV_PROT_STATUS_YIELDED) ∧
        (s.protState = 3 ∧ bit w.toNat 2 = true ∧ s.on SLV_CTL SLV_CTL_CLAIM = true → Noted s t SLV_PROT_STATUS SLV_PROT_STATUS_CLAIM_CONFLICT) ∧
        (s.protState = 3 ∧ (bit w.toNat 2 = false ∨ (s.on SLV_CTL SLV_CTL_CLAIM = true ∧ s.slv.primary = true)) → t.protState = 3) ∧
        (s.protState ≠ 1 ∧ (if bit w.toNat 1 = true then 2 else 1) = 1 → t.on SLV_CTL SLV_CTL_CLAIM = false) ∧
        (s.protState = 2 → t.protState = 2) ∧
        SameParts [.fresh, .irq, .cyc, .msi, .pch, .slots, .shd, .shu, .slv, .tmg] s t) ∧
  (∀ (w : BitVec 8) (s : State),
      ((bit w.toNat 0 && !bit w.toNat 7 && oddOnes w.toNat 7) = false ∨ (s.slv.pinSeq.all (fun q => decide ((w.toNat / 8 % 8) = (q + 1) % 8)) || !s.on SLV_STATUS SLV_STATUS_HB_PIN_ALIVE) = false) →
      ∃ t, exec (.hbPinWord w) s = .next t ∧
        t.rd64 (SLV_PIN_WORD_BAD) = (s.rd64 (SLV_PIN_WORD_BAD) + 1) % 2 ^ 64 ∧
        SameParts [] s t ∧
        SameRegs noReg [SLV_PIN_WORD_BAD, SLV_PIN_WORD_BAD + 4] s t) ∧
  (∀ (s : State),
      (s.on SLV_CTL SLV_CTL_EN = true ∨ s.on SLV_CTL SLV_CTL_PIN_EN = true) →
      ∃ t, exec (.heartbeatTx) s = .next t ∧
        t.slv = { s.slv with hbSeq := ((s.slv.hbSeq + 1) % 65536), pinOut := (if s.on SLV_CTL SLV_CTL_PIN_EN = true then hbWord (s.g SLV_CTL SLV_CTL_ROLE) (s.on SLV_CTL SLV_CTL_CLAIM) ((s.slv.hbSeq + 1) % 65536) else s.slv.pinOut), line := t.slv.line } ∧
        t.slv.line.length = (if s.on SLV_CTL SLV_CTL_EN = true then 1 else s.slv.line.length) ∧
        t.rd64 (SLV_HB_TX) = (s.rd64 (SLV_HB_TX) + 1) % 2 ^ 64 ∧
        SameParts [.fresh, .slv] s t ∧
        SameRegs noReg [SLV_HB_TX, SLV_HB_TX + 4] s t) ∧
  (∀ (s : State),
      s.on SLV_CTL SLV_CTL_EN = false →
      s.on SLV_CTL SLV_CTL_PIN_EN = false →
      ∃ t, exec (.heartbeatTx) s = .next t ∧
        SameParts [] s t ∧
        SameRegs noReg [] s t) ∧
  (∀ (s : State) (bs : List SvBlock), s.on SLV_CTL SLV_CTL_EN = true →
      ∃ k prev, k < 4 ∧ prev.length = 4 ∧ (s.svSend bs).slv.line = stripe k prev bs) ∧
  (∀ (s : State) (bs : List SvBlock), s.on SLV_CTL SLV_CTL_EN = false → s.svSend bs = s) ∧
  (∀ (k : Fin 4) (prev : List (BitVec 58)) (bs : List SvBlock), prev.length = 4 → unstripe k prev ((stripe k prev bs).map (·.2)) = bs) ∧
  (∀ (s : State),
      s.on SLV_STATUS SLV_STATUS_HB_PIN_ALIVE = true →
      s.slv.lastPin.all (fun k => decide (125000 ≤ s.now - k)) = true →
      ∃ t, exec (.hbAliveTimeout true) s = .next t ∧
        t.on SLV_STATUS SLV_STATUS_HB_PIN_ALIVE = false ∧
        Noted s t SLV_STATUS SLV_STATUS_PIN_CHG ∧
        SameParts [.irq, .cyc, .msi, .shu] s t ∧
        SameRegs irqReg [SLV_STATUS] s t) ∧
  (∀ (s : State),
      (s.on SLV_STATUS SLV_STATUS_HB_PIN_ALIVE = false ∨ s.slv.lastPin.any (fun k => decide (s.now - k < 125000)) = true) →
      ∃ t, exec (.hbAliveTimeout true) s = .next t ∧
        SameParts [] s t ∧
        SameRegs noReg [] s t) ∧
  (∀ (s : State),
      s.on SLV_STATUS SLV_STATUS_HB_LINK_ALIVE = true →
      s.slv.lastLink.all (fun k => decide (125000 ≤ s.now - k)) = true →
      ∃ t, exec (.hbAliveTimeout false) s = .next t ∧
        t.on SLV_STATUS SLV_STATUS_HB_LINK_ALIVE = false ∧
        Noted s t SLV_STATUS SLV_STATUS_LINK_CHG ∧
        SameParts [.irq, .cyc, .msi, .shu] s t ∧
        SameRegs irqReg [SLV_STATUS] s t) ∧
  (∀ (s : State),
      (s.on SLV_STATUS SLV_STATUS_HB_LINK_ALIVE = false ∨ s.slv.lastLink.any (fun k => decide (s.now - k < 125000)) = true) →
      ∃ t, exec (.hbAliveTimeout false) s = .next t ∧
        SameParts [] s t ∧
        SameRegs noReg [] s t) ∧
  (∀ (first : Fin 4) (prev : List (BitVec 58)) (blocks : List SvBlock) (mt : Fin 256) (n : Nat) (data : List Byte) (s : State),
      s.on SLV_STATUS SLV_STATUS_LINK_UP = true →
      s.slv.rxMsg = none →
      unstripe first prev blocks = msgBlocks mt n data →
      1 ≤ data.length →
      data.length ≤ 8192 →
      data.length % 8 = 0 →
      (mt.val = 0 ∨ (5 < mt.val ∧ mt.val ≠ 0x3F ∧ mt.val ≠ 0x40 ∧ mt.val ≠ 0x41)) →
      ∃ t, exec (.svMessage first prev blocks) s = .next t ∧
        t.rd64 (SLV_MSG_BAD) = (s.rd64 (SLV_MSG_BAD) + 1) % 2 ^ 64 ∧
        Noted s t SLV_STATUS SLV_STATUS_MSG_BAD ∧
        SameParts [.irq, .cyc, .msi, .shu] s t ∧
        SameRegs irqReg [SLV_MSG_BAD, SLV_MSG_BAD + 4, SLV_STATUS] s t) ∧
  (∀ (first : Fin 4) (prev : List (BitVec 58)) (blocks : List SvBlock) (n : Nat) (data : List Byte) (s : State),
      s.on SLV_STATUS SLV_STATUS_LINK_UP = true →
      s.slv.rxMsg = none →
      unstripe first prev blocks = msgBlocks 0x41 n data →
      1 ≤ data.length →
      data.length ≤ 8192 →
      data.length % 8 = 0 →
      s.slv.mbx.length < 16 →
      ∃ t, exec (.svMessage first prev blocks) s = .next t ∧
        t.rd64 (SLV_MSG_RX) = (s.rd64 (SLV_MSG_RX) + 1) % 2 ^ 64 ∧
        t.slv = { s.slv with mbx := s.slv.mbx ++ [data.take 256] } ∧
        Noted s t SLV_STATUS SLV_STATUS_MBX_RX ∧
        SameParts [.irq, .cyc, .msi, .shu, .slv] s t ∧
        SameRegs irqReg [SLV_MSG_RX, SLV_MSG_RX + 4, SLV_STATUS] s t) ∧
  (∀ (first : Fin 4) (prev : List (BitVec 58)) (blocks : List SvBlock) (n : Nat) (data : List Byte) (s : State),
      s.on SLV_STATUS SLV_STATUS_LINK_UP = true →
      s.slv.rxMsg = none →
      unstripe first prev blocks = msgBlocks 0x41 n data →
      1 ≤ data.length →
      data.length ≤ 8192 →
      data.length % 8 = 0 →
      16 ≤ s.slv.mbx.length →
      ∃ t, exec (.svMessage first prev blocks) s = .next t ∧
        t.rd64 (SLV_MSG_RX) = (s.rd64 (SLV_MSG_RX) + 1) % 2 ^ 64 ∧
        t.rd64 (SLV_MBX_DROP) = (s.rd64 (SLV_MBX_DROP) + 1) % 2 ^ 64 ∧
        SameParts [] s t ∧
        SameRegs noReg [SLV_MSG_RX, SLV_MSG_RX + 4, SLV_MBX_DROP, SLV_MBX_DROP + 4] s t) ∧
  (∀ (first : Fin 4) (prev : List (BitVec 58)) (blocks : List SvBlock) (n : Nat) (data : List Byte) (s : State),
      s.on SLV_STATUS SLV_STATUS_LINK_UP = true →
      s.slv.rxMsg = none →
      unstripe first prev blocks = msgBlocks 0x40 n data →
      1 ≤ data.length →
      data.length ≤ 8192 →
      data.length % 8 = 0 →
      ∃ t, exec (.svMessage first prev blocks) s = .next t ∧
        t.rd64 (SLV_MSG_RX) = (s.rd64 (SLV_MSG_RX) + 1) % 2 ^ 64 ∧
        (∀ w : Fin 12, t.rd (SLV_HEALTH_MATE w) = word (leNat ((data.drop (4 * w)).take 4))) ∧
        t.g SLV_PROT_STATUS SLV_PROT_STATUS_MATE_READY = (data.getD 4 0).toNat % 2 ∧
        SameParts [] s t ∧
        SameRegs noReg [SLV_MSG_RX, SLV_MSG_RX + 4, SLV_PROT_STATUS, SLV_HEALTH_MATE 0, SLV_HEALTH_MATE 1, SLV_HEALTH_MATE 2, SLV_HEALTH_MATE 3, SLV_HEALTH_MATE 4, SLV_HEALTH_MATE 5, SLV_HEALTH_MATE 6, SLV_HEALTH_MATE 7, SLV_HEALTH_MATE 8, SLV_HEALTH_MATE 9, SLV_HEALTH_MATE 10, SLV_HEALTH_MATE 11] s t) ∧
  (∀ (first : Fin 4) (prev : List (BitVec 58)) (blocks : List SvBlock) (n : Nat) (data : List Byte) (s : State),
      s.on SLV_STATUS SLV_STATUS_LINK_UP = true →
      s.slv.rxMsg = none →
      unstripe first prev blocks = msgBlocks 0x3F n data →
      1 ≤ data.length →
      data.length ≤ 8192 →
      data.length % 8 = 0 →
      s.protState = 2 →
      s.ready = true →
      data.getD 8 0 = 0 →
      ∃ t, exec (.svMessage first prev blocks) s = .next t ∧
        t.rd64 (SLV_MSG_RX) = (s.rd64 (SLV_MSG_RX) + 1) % 2 ^ 64 ∧
        t.rd64 (SLV_RECORDS_RX) = (s.rd64 (SLV_RECORDS_RX) + 1) % 2 ^ 64 ∧
        t.rd64 (SLV_RECORDS_TX) = (s.rd64 (SLV_RECORDS_TX) + 1) % 2 ^ 64 ∧
        t.slv = { s.slv with hand := some (beNat (data.take 8), false, true), msgSeq := (s.slv.msgSeq + 1) % 65536, line := t.slv.line } ∧
        SameParts [.fresh, .slv] s t ∧
        SameRegs noReg [SLV_MSG_RX, SLV_MSG_RX + 4, SLV_RECORDS_RX, SLV_RECORDS_RX + 4, SLV_RECORDS_TX, SLV_RECORDS_TX + 4] s t) ∧
  (∀ (first : Fin 4) (prev : List (BitVec 58)) (blocks : List SvBlock) (n : Nat) (data : List Byte) (s : State),
      s.on SLV_STATUS SLV_STATUS_LINK_UP = true →
      s.slv.rxMsg = none →
      unstripe first prev blocks = msgBlocks 0x3F n data →
      1 ≤ data.length →
      data.length ≤ 8192 →
      data.length % 8 = 0 →
      (s.protState ≠ 2 ∨ s.ready = false) →
      data.getD 8 0 = 0 →
      ∃ t, exec (.svMessage first prev blocks) s = .next t ∧
        t.rd64 (SLV_MSG_RX) = (s.rd64 (SLV_MSG_RX) + 1) % 2 ^ 64 ∧
        t.rd64 (SLV_RECORDS_RX) = (s.rd64 (SLV_RECORDS_RX) + 1) % 2 ^ 64 ∧
        SameParts [] s t ∧
        SameRegs noReg [SLV_MSG_RX, SLV_MSG_RX + 4, SLV_RECORDS_RX, SLV_RECORDS_RX + 4] s t) ∧
  (∀ (first : Fin 4) (prev : List (BitVec 58)) (blocks : List SvBlock) (n : Nat) (data : List Byte) (f : Nat) (s : State),
      s.on SLV_STATUS SLV_STATUS_LINK_UP = true →
      s.slv.rxMsg = none →
      unstripe first prev blocks = msgBlocks 0x3F n data →
      1 ≤ data.length →
      data.length ≤ 8192 →
      data.length % 8 = 0 →
      s.slv.hand = some (f, true, false) →
      beNat (data.take 8) = f →
      data.getD 8 0 = 1 →
      ∃ t, exec (.svMessage first prev blocks) s = .next t ∧
        t.rd64 (SLV_MSG_RX) = (s.rd64 (SLV_MSG_RX) + 1) % 2 ^ 64 ∧
        t.rd64 (SLV_RECORDS_RX) = (s.rd64 (SLV_RECORDS_RX) + 1) % 2 ^ 64 ∧
        t.slv = { s.slv with hand := some (f, true, true) } ∧
        SameParts [.slv] s t ∧
        SameRegs noReg [SLV_MSG_RX, SLV_MSG_RX + 4, SLV_RECORDS_RX, SLV_RECORDS_RX + 4] s t) ∧
  (∀ (first : Fin 4) (prev : List (BitVec 58)) (blocks : List SvBlock) (n : Nat) (data : List Byte) (s : State),
      s.on SLV_STATUS SLV_STATUS_LINK_UP = true →
      s.slv.rxMsg = none →
      unstripe first prev blocks = msgBlocks 3 n data →
      1 ≤ data.length →
      data.length ≤ 8192 →
      data.length % 8 = 0 →
      (s.protState = 1 ∨ s.protState = 2) →
      data.length = 16 →
      (data.getD 0 0).toNat < 64 →
      s.protected_ (data.getD 0 0).toNat = true →
      (s.pch.look (data.getD 0 0).toNat).protHeld = true →
      ∃ t, exec (.svMessage first prev blocks) s = .next t ∧
        t.rd64 (SLV_MSG_RX) = (s.rd64 (SLV_MSG_RX) + 1) % 2 ^ 64 ∧
        t.rd64 (SLV_RECORDS_RX) = (s.rd64 (SLV_RECORDS_RX) + 1) % 2 ^ 64 ∧
        t.g (RNG_ONU (data.getD 0 0).toNat (data.getD 1 0).toNat) RNG_ONU_STATE = (data.getD 2 0).toNat % 8 ∧
        t.on (RNG_ONU (data.getD 0 0).toNat (data.getD 1 0).toNat) RNG_ONU_VIDAN_CAP = bit (data.getD 3 0).toNat 0 ∧
        t.on (RNG_ONU (data.getD 0 0).toNat (data.getD 1 0).toNat) RNG_ONU_SEALED_CAP = bit (data.getD 3 0).toNat 1 ∧
        t.g (RNG_ONU (data.getD 0 0).toNat (data.getD 1 0).toNat) RNG_ONU_EQD = recW data 4 % 2 ^ 24 ∧
        t.rd ((RNG_ONU (data.getD 0 0).toNat (data.getD 1 0).toNat) + 8) = word (recW data 8) ∧
        t.rd ((RNG_ONU (data.getD 0 0).toNat (data.getD 1 0).toNat) + 12) = word (recW data 12) ∧
        SameParts [] s t ∧
        SameRegs noReg [SLV_MSG_RX, SLV_MSG_RX + 4, SLV_RECORDS_RX, SLV_RECORDS_RX + 4, (RNG_ONU (data.getD 0 0).toNat (data.getD 1 0).toNat), (RNG_ONU (data.getD 0 0).toNat (data.getD 1 0).toNat) + 4, (RNG_ONU (data.getD 0 0).toNat (data.getD 1 0).toNat) + 8, (RNG_ONU (data.getD 0 0).toNat (data.getD 1 0).toNat) + 12] s t) ∧
  (∀ (first : Fin 4) (prev : List (BitVec 58)) (blocks : List SvBlock) (n : Nat) (data : List Byte) (s : State),
      s.on SLV_STATUS SLV_STATUS_LINK_UP = true →
      s.slv.rxMsg = none →
      unstripe first prev blocks = msgBlocks 3 n data →
      1 ≤ data.length →
      data.length ≤ 8192 →
      data.length % 8 = 0 →
      (s.protState = 1 ∨ s.protState = 2) →
      data.length = 16 →
      (64 ≤ (data.getD 0 0).toNat ∨ s.protected_ (data.getD 0 0).toNat = false) →
      ∃ t, exec (.svMessage first prev blocks) s = .next t ∧
        t.rd64 (SLV_MSG_RX) = (s.rd64 (SLV_MSG_RX) + 1) % 2 ^ 64 ∧
        t.rd64 (SLV_MSG_BAD) = (s.rd64 (SLV_MSG_BAD) + 1) % 2 ^ 64 ∧
        Noted s t SLV_STATUS SLV_STATUS_MSG_BAD ∧
        SameParts [.irq, .cyc, .msi, .shu] s t ∧
        SameRegs irqReg [SLV_MSG_RX, SLV_MSG_RX + 4, SLV_MSG_BAD, SLV_MSG_BAD + 4, SLV_STATUS] s t) ∧
  (∀ (first : Fin 4) (prev : List (BitVec 58)) (blocks : List SvBlock) (n : Nat) (data : List Byte) (s : State),
      s.on SLV_STATUS SLV_STATUS_LINK_UP = true →
      s.slv.rxMsg = none →
      unstripe first prev blocks = msgBlocks 3 n data →
      1 ≤ data.length →
      data.length ≤ 8192 →
      data.length % 8 = 0 →
      (s.protState = 0 ∨ s.protState = 3) →
      ∃ t, exec (.svMessage first prev blocks) s = .next t ∧
        t.rd64 (SLV_MSG_RX) = (s.rd64 (SLV_MSG_RX) + 1) % 2 ^ 64 ∧
        SameParts [] s t ∧
        SameRegs noReg [SLV_MSG_RX, SLV_MSG_RX + 4] s t) ∧
  (∀ (first : Fin 4) (prev : List (BitVec 58)) (blocks : List SvBlock) (m : SvRx) (e : BitVec 32) (s : State),
      s.on SLV_STATUS SLV_STATUS_LINK_UP = true →
      s.slv.rxMsg = some m →
      unstripe first prev blocks = [ctlBlock 0x87 (beBytes 4 e.toNat)] →
      (m.count = 0 ∨ 1024 < m.count ∨ m.bytes.length ≠ 8 * m.count ∨ crc32 m.bytes ≠ e) →
      ∃ t, exec (.svMessage first prev blocks) s = .next t ∧
        t.slv = { s.slv with rxMsg := none } ∧
        t.rd64 (SLV_MSG_BAD) = (s.rd64 (SLV_MSG_BAD) + 1) % 2 ^ 64 ∧
        Noted s t SLV_STATUS SLV_STATUS_MSG_BAD ∧
        SameParts [.irq, .cyc, .msi, .shu, .slv] s t ∧
        SameRegs irqReg [SLV_MSG_BAD, SLV_MSG_BAD + 4, SLV_STATUS] s t) ∧
  (∀ (first : Fin 4) (prev : List (BitVec 58)) (blocks : List SvBlock) (s : State),
      s.on SLV_STATUS SLV_STATUS_LINK_UP = false →
      ∃ t, exec (.svMessage first prev blocks) s = .next t ∧
        SameParts [] s t ∧
        SameRegs noReg [] s t) ∧
  (∀ (ag : Agent) (v : Word) (s : State),
      s.reaches ag SLV_MBX_TX_CTL = true →
      v.getLsbD 31 = true →
      ¬ (s.on SLV_STATUS SLV_STATUS_LINK_UP = false ∨ s.slv.mbxBusy.any (fun e => decide (e.1 = agCode ag)) = true ∨ ((s.wrMask (akey (agCode ag) SLV_MBX_TX_CTL) (rwBits SLV_MBX_TX_CTL) v).g (akey (agCode ag) SLV_MBX_TX_CTL) SLV_MBX_TX_CTL_LEN) = 0 ∨ 256 < ((s.wrMask (akey (agCode ag) SLV_MBX_TX_CTL) (rwBits SLV_MBX_TX_CTL) v).g (akey (agCode ag) SLV_MBX_TX_CTL) SLV_MBX_TX_CTL_LEN)) →
      ∃ t, exec (.slvMbxSend ag v) s = .next t ∧
        t.on (akey (agCode ag) SLV_MBX_TX_CTL) SLV_MBX_TX_CTL_GO = true ∧
        t.g (akey (agCode ag) SLV_MBX_TX_CTL) SLV_MBX_TX_CTL_RESULT = 0 ∧
        t.slv = { s.slv with mbxBusy := s.slv.mbxBusy ++ [(agCode ag, (s.wrMask (akey (agCode ag) SLV_MBX_TX_CTL) (rwBits SLV_MBX_TX_CTL) v).mbxBytes (agCode ag) ((s.wrMask (akey (agCode ag) SLV_MBX_TX_CTL) (rwBits SLV_MBX_TX_CTL) v).g (akey (agCode ag) SLV_MBX_TX_CTL) SLV_MBX_TX_CTL_LEN))] } ∧
        SameParts [.slv] s t ∧
        SameRegs noReg [(akey (agCode ag) SLV_MBX_TX_CTL)] s t) ∧
  (∀ (ag : Agent) (v : Word) (s : State),
      s.reaches ag SLV_MBX_TX_CTL = true →
      v.getLsbD 31 = true →
      (s.on SLV_STATUS SLV_STATUS_LINK_UP = false ∨ s.slv.mbxBusy.any (fun e => decide (e.1 = agCode ag)) = true ∨ ((s.wrMask (akey (agCode ag) SLV_MBX_TX_CTL) (rwBits SLV_MBX_TX_CTL) v).g (akey (agCode ag) SLV_MBX_TX_CTL) SLV_MBX_TX_CTL_LEN) = 0 ∨ 256 < ((s.wrMask (akey (agCode ag) SLV_MBX_TX_CTL) (rwBits SLV_MBX_TX_CTL) v).g (akey (agCode ag) SLV_MBX_TX_CTL) SLV_MBX_TX_CTL_LEN)) →
      ∃ t, exec (.slvMbxSend ag v) s = .next t ∧
        t.g (akey (agCode ag) SLV_MBX_TX_CTL) SLV_MBX_TX_CTL_RESULT = 1 ∧
        SameParts [] s t ∧
        SameRegs noReg [(akey (agCode ag) SLV_MBX_TX_CTL)] s t) ∧
  (∀ (s : State) (k : Nat) (b : List Byte), s.on SLV_STATUS SLV_STATUS_LINK_UP = true → s.slv.mbxBusy = [(k, b)] →
      s.mbxTick.on (akey k SLV_MBX_TX_CTL) SLV_MBX_TX_CTL_GO = false ∧
      s.mbxTick.slv = { s.slv with mbxBusy := [], msgSeq := (s.slv.msgSeq + 1) % 65536, line := s.mbxTick.slv.line }) ∧
  (∀ s : State, s.on SLV_STATUS SLV_STATUS_LINK_UP = false → s.mbxTick = s) ∧
  (∀ (ag : Agent) (v : Word) (s : State),
      s.reaches ag SLV_MBX_RX_CTL = true →
      v.getLsbD 30 = true →
      ∃ t, exec (.slvMbxPop ag v) s = .next t ∧
        t.slv = { s.slv with mbx := s.slv.mbx.tail } ∧
        SameParts [.slv] s t ∧
        SameRegs noReg [] s t) ∧
  (∀ (mt : Fin 64) (keys : List Nat) (s : State),
      s.on SLV_STATUS SLV_STATUS_LINK_UP = true →
      (s.protState = 3 ∨ (s.protState ≠ 0 ∧ mt.val = 1)) →
      (if mt.val = 1 then s.recordOf 1 0 else keys.flatMap (fun k => s.recordOf mt k)) ≠ [] →
      ∃ t, exec (.protRecordSend mt keys) s = .next t ∧
        t.rd64 (SLV_RECORDS_TX) = (s.rd64 (SLV_RECORDS_TX) + (if mt.val = 1 then s.recordOf 1 0 else keys.flatMap (fun k => s.recordOf mt k)).length) % 2 ^ 64 ∧
        t.slv = { s.slv with msgSeq := (s.slv.msgSeq + 1) % 65536, line := t.slv.line } ∧
        SameParts [.fresh, .slv] s t ∧
        SameRegs noReg [SLV_RECORDS_TX, SLV_RECORDS_TX + 4] s t) ∧
  (∀ (mt : Fin 64) (keys : List Nat) (s : State),
      (s.on SLV_STATUS SLV_STATUS_LINK_UP = false ∨ s.protState = 0 ∨ (s.protState ≠ 3 ∧ mt.val ≠ 1) ∨ (if mt.val = 1 then s.recordOf 1 0 else keys.flatMap (fun k => s.recordOf mt k)) = []) →
      ∃ t, exec (.protRecordSend mt keys) s = .next t ∧
        SameParts [] s t ∧
        SameRegs noReg [] s t)

/-- EN written 1 takes an UNPAIRED device to LISTEN with the mask of SLV_PROT_CH, its starting channels held; EN written 0 to UNPAIRED
with an empty mask and no claim. An ACTIVE device that hears neither path for 750 us gives up the tree and is STANDBY. A STANDBY
without a ROLE 2 heartbeat for 1 ms, neither safe nor coasting, takes the tree: ACTIVE, CLAIM for CLAIM_MS, counted. The claim
ends at its time. A standby's second of tests is stored; each second's report is stored with READY. SWITCH on an ACTIVE device
asks for a handover at frame + 4; it runs at its frame, counted, or fails two frames before without an accept. TAKE takes the tree
unless an active mate was heard within 1 ms and FORCE is 0. A pair's switch, by a write or by AUTO on a bad WORK, changes sides
with the slot tables copied, counted; a pair that is not accepted is not enabled. -/
def Obligations.ProtectionRolesTakeoverAndHandover : Prop :=
  (∀ (ag : Agent) (v : Word) (s : State),
      s.reaches ag SLV_PROT_CTL = true →
      s.on SLV_PROT_CTL SLV_PROT_CTL_EN = false →
      (s.wrRW SLV_PROT_CTL v).on SLV_PROT_CTL SLV_PROT_CTL_EN = true →
      v.getLsbD 29 = false →
      v.getLsbD 28 = false →
      ∃ t, exec (.protEnable ag v) s = .next t ∧
        t.protState = 1 ∧
        t.g SLV_CTL SLV_CTL_ROLE = 0 ∧
        t.slv.protMask = s.rd64 SLV_PROT_CH ∧
        t.slv.primary = (s.wrRW SLV_PROT_CTL v).on SLV_PROT_CTL SLV_PROT_CTL_PRIMARY ∧
        t.slv.hand = none ∧
        (∀ c : Fin 64, bit (s.rd64 SLV_PROT_CH) c = true → s.chState c = 1 → (t.pch.look c).protHeld = true) ∧
        SameParts [.fresh, .irq, .cyc, .msi, .pch, .slots, .rng, .shd, .shu, .slv, .tmg] s t) ∧
  (∀ (ag : Agent) (v : Word) (s : State),
      s.reaches ag SLV_PROT_CTL = true →
      s.on SLV_PROT_CTL SLV_PROT_CTL_EN = true →
      (s.wrRW SLV_PROT_CTL v).on SLV_PROT_CTL SLV_PROT_CTL_EN = false →
      v.getLsbD 29 = false →
      v.getLsbD 28 = false →
      ∃ t, exec (.protDisable ag v) s = .next t ∧
        t.protState = 0 ∧
        t.g SLV_CTL SLV_CTL_ROLE = 0 ∧
        t.slv.protMask = 0 ∧
        t.slv.frameOk = 0 ∧
        t.slv.mateCh = [] ∧
        t.on SLV_CTL SLV_CTL_CLAIM = false ∧
        SameParts [.fresh, .irq, .cyc, .msi, .pch, .slots, .rng, .shd, .shu, .slv, .tmg] s t) ∧
  (∀ (s : State),
      s.protState = 3 →
      750000 < s.sinceEntry s.slv.lastLink →
      750000 < s.sinceEntry s.slv.lastPin →
      ∃ t, exec (.selfMute) s = .next t ∧
        t.protState = 2 ∧
        t.g SLV_CTL SLV_CTL_ROLE = 1 ∧
        t.on SLV_CTL SLV_CTL_CLAIM = false ∧
        t.rd64 (SLV_SELF_MUTES) = (s.rd64 (SLV_SELF_MUTES) + 1) % 2 ^ 64 ∧
        Noted s t SLV_PROT_STATUS SLV_PROT_STATUS_SELF_MUTED ∧
        SameParts [.irq, .cyc, .msi, .pch, .shd, .shu, .slv, .tmg] s t) ∧
  (∀ (s : State),
      (s.protState ≠ 3 ∨ s.sinceEntry s.slv.lastLink ≤ 750000 ∨ s.sinceEntry s.slv.lastPin ≤ 750000) →
      ∃ t, exec (.selfMute) s = .next t ∧
        SameParts [] s t ∧
        SameRegs noReg [] s t) ∧
  (∀ (s : State),
      s.protState = 2 →
      1000000 < s.sinceEntry s.slv.lastActive →
      s.safe = false →
      s.coasting = false →
      ∃ t, exec (.takeover) s = .next t ∧
        t.protState = 3 ∧
        t.g SLV_CTL SLV_CTL_ROLE = 2 ∧
        t.on SLV_CTL SLV_CTL_CLAIM = true ∧
        t.slv.claimEnd = s.now + atLeast1 (s.g SLV_PROT_CTL SLV_PROT_CTL_CLAIM_MS) * 1000000 ∧
        t.rd64 (SLV_TAKEOVERS) = (s.rd64 (SLV_TAKEOVERS) + 1) % 2 ^ 64 ∧
        Noted s t SLV_PROT_STATUS SLV_PROT_STATUS_TOOK_OVER ∧
        ((s.on SLV_CTL SLV_CTL_EN = true ∨ s.on SLV_CTL SLV_CTL_PIN_EN = true) → t.slv.hbSeq = (s.slv.hbSeq + 1) % 65536 ∧ t.rd64 (SLV_HB_TX) = (s.rd64 (SLV_HB_TX) + 1) % 2 ^ 64) ∧
        SameParts [.fresh, .irq, .cyc, .msi, .pch, .slots, .shd, .shu, .slv] s t) ∧
  (∀ (s : State),
      (s.protState ≠ 2 ∨ s.sinceEntry s.slv.lastActive ≤ 1000000 ∨ s.safe = true ∨ s.coasting = true) →
      ∃ t, exec (.takeover) s = .next t ∧
        SameParts [] s t ∧
        SameRegs noReg [] s t) ∧
  (∀ (s : State),
      s.on SLV_CTL SLV_CTL_CLAIM = true →
      s.slv.claimEnd ≤ s.now →
      ∃ t, exec (.claimEnd) s = .next t ∧
        t.on SLV_CTL SLV_CTL_CLAIM = false ∧
        SameParts [] s t ∧
        SameRegs noReg [SLV_CTL] s t) ∧
  (∀ (s : State),
      (s.on SLV_CTL SLV_CTL_CLAIM = false ∨ s.now < s.slv.claimEnd) →
      ∃ t, exec (.claimEnd) s = .next t ∧
        SameParts [] s t ∧
        SameRegs noReg [] s t) ∧
  (∀ (loop : BitVec 64) (bist : Bool) (s : State),
      s.protState = 2 →
      ∃ t, exec (.standbySelftest loop bist) s = .next t ∧
        (∀ c : Fin 64, bit t.slv.loopOk c = (s.held c && bit loop.toNat c)) ∧
        t.cyc = { s.cyc with faults := s.cyc.faults ++ (if (s.shu.swaps.look (s.slv.bistNext % 16)).isSome ∨ bist = true then [] else [⟨0x12, 96 + s.sparePhys (s.slv.bistNext % 16), false, false⟩]) } ∧
        t.slv.bistOk = (if (s.shu.swaps.look (s.slv.bistNext % 16)).isSome then s.slv.bistOk else setBit s.slv.bistOk (s.slv.bistNext % 16) bist) ∧
        t.slv.bistNext = ((s.slv.bistNext % 16) + 1) % 16 ∧
        (∀ c : Fin 64, bit t.slv.keysOk c = (s.held c && s.keysMatch c)) ∧
        SameParts [.slv, .cyc] s t ∧
        SameRegs noReg [] s t) ∧
  (∀ (loop : BitVec 64) (bist : Bool) (s : State),
      s.protState ≠ 2 →
      ∃ t, exec (.standbySelftest loop bist) s = .next t ∧
        SameParts [] s t ∧
        SameRegs noReg [] s t) ∧
  (∀ (s : State),
      s.protState ≠ 0 →
      ∃ t, exec (.healthReport) s = .next t ∧
        t.slv = { s.slv with msgSeq := (if s.on SLV_STATUS SLV_STATUS_LINK_UP = true then (s.slv.msgSeq + 1) % 65536 else s.slv.msgSeq), line := t.slv.line } ∧
        (∀ w : Fin 12, t.rd (SLV_HEALTH_OWN w) = word (leNat ((s.healthBytes.drop (4 * w)).take 4))) ∧
        (∀ c : Fin 64, t.pch.look c = { s.pch.look c with litSecond := false }) ∧
        SameParts [.fresh, .slv, .pch] s t ∧
        SameRegs noReg [SLV_HEALTH_OWN 0, SLV_HEALTH_OWN 1, SLV_HEALTH_OWN 2, SLV_HEALTH_OWN 3, SLV_HEALTH_OWN 4, SLV_HEALTH_OWN 5, SLV_HEALTH_OWN 6, SLV_HEALTH_OWN 7, SLV_HEALTH_OWN 8, SLV_HEALTH_OWN 9, SLV_HEALTH_OWN 10, SLV_HEALTH_OWN 11] s t) ∧
  (∀ (s : State),
      s.protState = 0 →
      ∃ t, exec (.healthReport) s = .next t ∧
        SameParts [] s t ∧
        SameRegs noReg [] s t) ∧
  (∀ (ag : Agent) (v : Word) (s : State),
      s.reaches ag SLV_PROT_CTL = true →
      s.on SLV_PROT_CTL SLV_PROT_CTL_EN = true →
      (s.wrRW SLV_PROT_CTL v).on SLV_PROT_CTL SLV_PROT_CTL_EN = true →
      v.getLsbD 29 = true →
      v.getLsbD 28 = false →
      s.protState = 3 →
      s.slv.hand = none →
      ∃ t, exec (.protSwitch ag v) s = .next t ∧
        t.slv.hand = some (s.devNs / 125000 + 4, true, false) ∧
        t.on SLV_PROT_CTL SLV_PROT_CTL_SWITCH = true ∧
        t.protState = 3 ∧
        (s.on SLV_STATUS SLV_STATUS_LINK_UP = true → t.rd64 (SLV_RECORDS_TX) = (s.rd64 (SLV_RECORDS_TX) + 1) % 2 ^ 64 ∧ t.slv.msgSeq = (s.slv.msgSeq + 1) % 65536) ∧
        SameParts [.fresh, .slv] s t ∧
        SameRegs noReg [SLV_PROT_CTL, SLV_RECORDS_TX, SLV_RECORDS_TX + 4] s t) ∧
  (∀ (ag : Agent) (v : Word) (s : State),
      s.reaches ag SLV_PROT_CTL = true →
      s.on SLV_PROT_CTL SLV_PROT_CTL_EN = true →
      (s.wrRW SLV_PROT_CTL v).on SLV_PROT_CTL SLV_PROT_CTL_EN = true →
      v.getLsbD 29 = false →
      v.getLsbD 28 = true →
      (s.protState = 1 ∨ s.protState = 2) →
      ((s.slv.lastActive.any (fun k => decide (s.now - k < 1000000))) = false ∨ (s.wrRW SLV_PROT_CTL v).on SLV_PROT_CTL SLV_PROT_CTL_FORCE = true) →
      ∃ t, exec (.protTake ag v) s = .next t ∧
        t.protState = 3 ∧
        t.g SLV_CTL SLV_CTL_ROLE = 2 ∧
        t.on SLV_CTL SLV_CTL_CLAIM = true ∧
        t.slv.claimEnd = s.now + atLeast1 ((s.wrRW SLV_PROT_CTL v).g SLV_PROT_CTL SLV_PROT_CTL_CLAIM_MS) * 1000000 ∧
        t.rd64 (SLV_TAKEOVERS) = (s.rd64 (SLV_TAKEOVERS) + 1) % 2 ^ 64 ∧
        Noted s t SLV_PROT_STATUS SLV_PROT_STATUS_TOOK_OVER ∧
        ((s.on SLV_CTL SLV_CTL_EN = true ∨ s.on SLV_CTL SLV_CTL_PIN_EN = true) → t.slv.hbSeq = (s.slv.hbSeq + 1) % 65536 ∧ t.rd64 (SLV_HB_TX) = (s.rd64 (SLV_HB_TX) + 1) % 2 ^ 64) ∧
        SameParts [.fresh, .irq, .cyc, .msi, .pch, .slots, .rng, .shd, .shu, .slv, .tmg] s t) ∧
  (∀ (ag : Agent) (v : Word) (s : State),
      s.reaches ag SLV_PROT_CTL = true →
      s.on SLV_PROT_CTL SLV_PROT_CTL_EN = true →
      (s.wrRW SLV_PROT_CTL v).on SLV_PROT_CTL SLV_PROT_CTL_EN = true →
      v.getLsbD 29 = false →
      v.getLsbD 28 = true →
      (s.protState = 1 ∨ s.protState = 2) →
      (s.slv.lastActive.any (fun k => decide (s.now - k < 1000000))) = true →
      (s.wrRW SLV_PROT_CTL v).on SLV_PROT_CTL SLV_PROT_CTL_FORCE = false →
      ∃ t, exec (.protTake ag v) s = .next t ∧
        t.protState = s.protState ∧
        Noted s t SLV_PROT_STATUS SLV_PROT_STATUS_TAKE_REFUSED ∧
        SameParts [.irq, .cyc, .msi, .shu] s t ∧
        SameRegs irqReg [SLV_PROT_CTL, SLV_PROT_STATUS] s t) ∧
  (∀ (f : Nat) (s : State),
      s.slv.hand = some (f, true, true) →
      f * 125000 ≤ s.devNs →
      ∃ t, exec (.handoverExecute) s = .next t ∧
        t.protState = 2 ∧
        t.g SLV_CTL SLV_CTL_ROLE = 1 ∧
        t.slv.hand = none ∧
        t.rd64 (SLV_HANDOVERS) = (s.rd64 (SLV_HANDOVERS) + 1) % 2 ^ 64 ∧
        Noted s t SLV_PROT_STATUS SLV_PROT_STATUS_HANDED_OVER ∧
        SameParts [.irq, .cyc, .msi, .pch, .slots, .shd, .shu, .slv, .tmg] s t) ∧
  (∀ (f : Nat) (s : State),
      s.slv.hand = some (f, false, true) →
      f * 125000 ≤ s.devNs →
      ∃ t, exec (.handoverExecute) s = .next t ∧
        t.protState = 3 ∧
        t.g SLV_CTL SLV_CTL_ROLE = 2 ∧
        t.slv.hand = none ∧
        t.rd64 (SLV_HANDOVERS) = (s.rd64 (SLV_HANDOVERS) + 1) % 2 ^ 64 ∧
        Noted s t SLV_PROT_STATUS SLV_PROT_STATUS_HANDED_OVER ∧
        SameParts [.irq, .cyc, .msi, .pch, .slots, .shd, .shu, .slv, .tmg] s t) ∧
  (∀ (f : Nat) (s : State),
      s.slv.hand = some (f, true, false) →
      (f - 2) * 125000 ≤ s.devNs →
      ∃ t, exec (.handoverTimeout) s = .next t ∧
        t.slv.hand = none ∧
        t.on SLV_PROT_CTL SLV_PROT_CTL_SWITCH = false ∧
        Noted s t SLV_PROT_STATUS SLV_PROT_STATUS_HANDOVER_FAIL ∧
        (s.on SLV_STATUS SLV_STATUS_LINK_UP = true → t.rd64 (SLV_RECORDS_TX) = (s.rd64 (SLV_RECORDS_TX) + 1) % 2 ^ 64) ∧
        SameParts [.irq, .cyc, .msi, .shu, .slv, .fresh] s t ∧
        SameRegs irqReg [SLV_PROT_CTL, SLV_PROT_STATUS, SLV_RECORDS_TX, SLV_RECORDS_TX + 4] s t) ∧
  (∀ (f : Nat) (s : State),
      s.slv.hand = some (f, true, false) →
      s.devNs < (f - 2) * 125000 →
      ∃ t, exec (.handoverTimeout) s = .next t ∧
        SameParts [] s t ∧
        SameRegs noReg [] s t) ∧
  (∀ (s : State),
      s.slv.hand.any (fun h => h.2.2 && decide (h.1 * 125000 ≤ s.devNs)) = false →
      ∃ t, exec (.handoverExecute) s = .next t ∧
        SameParts [] s t ∧
        SameRegs noReg [] s t) ∧
  (∀ (j : Fin 16) (s : State),
      s.on (SLV_IPROT j) SLV_IPROT_EN = true →
      s.on (SLV_IPROT j) SLV_IPROT_AUTO = true →
      s.on (SLV_IPROT j) SLV_IPROT_ON_PROT = false →
      (s.on (PCH_DEFECT (s.g (SLV_IPROT j) SLV_IPROT_WORK)) PCH_DEFECT_LOS_LIVE = true ∨ s.on (PCH_DEFECT (s.g (SLV_IPROT j) SLV_IPROT_WORK)) PCH_DEFECT_LOL_LIVE = true ∨ s.on (PCH_DEFECT (s.g (SLV_IPROT j) SLV_IPROT_WORK)) PCH_DEFECT_TXF_LIVE = true ∨ s.chState (s.g (SLV_IPROT j) SLV_IPROT_WORK) = 4) →
      ∃ t, exec (.iprotSwitch j none) s = .next t ∧
        t.on (SLV_IPROT j) SLV_IPROT_ON_PROT = !s.on (SLV_IPROT j) SLV_IPROT_ON_PROT ∧
        t.rd64 (SLV_IPROT_SWITCHES) = (s.rd64 (SLV_IPROT_SWITCHES) + 1) % 2 ^ 64 ∧
        (∀ a : Fin 512, ∀ i : Fin 4, t.rd (SHD_ALLOC (s.g (SLV_IPROT j) (if s.on (SLV_IPROT j) SLV_IPROT_ON_PROT = true then SLV_IPROT_WORK else SLV_IPROT_PROT)) a + 4 * i) = s.rd (SHD_ALLOC (s.g (SLV_IPROT j) (if s.on (SLV_IPROT j) SLV_IPROT_ON_PROT = true then SLV_IPROT_PROT else SLV_IPROT_WORK)) a + 4 * i)) ∧
        (t.pch.look (s.g (SLV_IPROT j) (if s.on (SLV_IPROT j) SLV_IPROT_ON_PROT = true then SLV_IPROT_WORK else SLV_IPROT_PROT))).protHeld = false ∧
        SameParts [.fresh, .irq, .cyc, .msi, .pch, .slots, .rng, .shd, .shu, .tmg] s t) ∧
  (∀ (j : Fin 16) (ag : Agent) (v : Word) (s : State),
      s.reaches ag (SLV_IPROT j) = true →
      s.on (SLV_IPROT j) SLV_IPROT_EN = true →
      (s.wrRW (SLV_IPROT j) v).on (SLV_IPROT j) SLV_IPROT_EN = true →
      (s.wrRW (SLV_IPROT j) v).g (SLV_IPROT j) SLV_IPROT_WORK = s.g (SLV_IPROT j) SLV_IPROT_WORK →
      (s.wrRW (SLV_IPROT j) v).g (SLV_IPROT j) SLV_IPROT_PROT = s.g (SLV_IPROT j) SLV_IPROT_PROT →
      v.getLsbD 29 = true →
      ∃ t, exec (.iprotSwitch j (some (ag, v))) s = .next t ∧
        t.on (SLV_IPROT j) SLV_IPROT_ON_PROT = !(s.wrRW (SLV_IPROT j) v).on (SLV_IPROT j) SLV_IPROT_ON_PROT ∧
        t.rd64 (SLV_IPROT_SWITCHES) = (s.rd64 (SLV_IPROT_SWITCHES) + 1) % 2 ^ 64 ∧
        (∀ a : Fin 512, ∀ i : Fin 4, t.rd (SHD_ALLOC ((s.wrRW (SLV_IPROT j) v).g (SLV_IPROT j) (if (s.wrRW (SLV_IPROT j) v).on (SLV_IPROT j) SLV_IPROT_ON_PROT = true then SLV_IPROT_WORK else SLV_IPROT_PROT)) a + 4 * i) = s.rd (SHD_ALLOC ((s.wrRW (SLV_IPROT j) v).g (SLV_IPROT j) (if (s.wrRW (SLV_IPROT j) v).on (SLV_IPROT j) SLV_IPROT_ON_PROT = true then SLV_IPROT_PROT else SLV_IPROT_WORK)) a + 4 * i)) ∧
        (t.pch.look ((s.wrRW (SLV_IPROT j) v).g (SLV_IPROT j) (if (s.wrRW (SLV_IPROT j) v).on (SLV_IPROT j) SLV_IPROT_ON_PROT = true then SLV_IPROT_WORK else SLV_IPROT_PROT))).protHeld = false ∧
        SameParts [.fresh, .irq, .cyc, .msi, .pch, .slots, .rng, .shd, .shu, .tmg] s t) ∧
  (∀ (j : Fin 16) (ag : Agent) (v : Word) (s : State),
      s.reaches ag (SLV_IPROT j) = true →
      s.on (SLV_IPROT j) SLV_IPROT_EN = false →
      (s.wrRW (SLV_IPROT j) v).on (SLV_IPROT j) SLV_IPROT_EN = true →
      (s.wrRW (SLV_IPROT j) v).iprotOk j = false →
      ∃ t, exec (.iprotSwitch j (some (ag, v))) s = .next t ∧
        t.on (SLV_IPROT j) SLV_IPROT_EN = false ∧
        Noted s t SLV_PROT_STATUS SLV_PROT_STATUS_CFG_MISMATCH ∧
        SameParts [.irq, .cyc, .msi, .shu] s t ∧
        SameRegs irqReg [(SLV_IPROT j), SLV_PROT_STATUS] s t) ∧
  (∀ (j : Fin 16) (ag : Agent) (v : Word) (s : State),
      s.reaches ag (SLV_IPROT j) = true →
      s.on (SLV_IPROT j) SLV_IPROT_EN = false →
      (s.wrRW (SLV_IPROT j) v).on (SLV_IPROT j) SLV_IPROT_EN = true →
      (s.wrRW (SLV_IPROT j) v).iprotOk j = true →
      v.getLsbD 29 = false →
      s.chState ((s.wrRW (SLV_IPROT j) v).g (SLV_IPROT j) SLV_IPROT_PROT) = 1 →
      ∃ t, exec (.iprotSwitch j (some (ag, v))) s = .next t ∧
        t.on (SLV_IPROT j) SLV_IPROT_EN = true ∧
        t.on (SLV_IPROT j) SLV_IPROT_ON_PROT = false ∧
        (t.pch.look ((s.wrRW (SLV_IPROT j) v).g (SLV_IPROT j) SLV_IPROT_PROT)).protHeld = true ∧
        (t.pch.look ((s.wrRW (SLV_IPROT j) v).g (SLV_IPROT j) SLV_IPROT_PROT)).protMute = true ∧
        SameParts [.pch] s t ∧
        SameRegs (regsIn (PCH_EQ ((s.wrRW (SLV_IPROT j) v).g (SLV_IPROT j) SLV_IPROT_PROT) 0) (PCH_EQ ((s.wrRW (SLV_IPROT j) v).g (SLV_IPROT j) SLV_IPROT_PROT) 261)) [(SLV_IPROT j)] s t) ∧
  (∀ (j : Fin 16) (s : State),
      (s.on (SLV_IPROT j) SLV_IPROT_EN = false ∨ s.on (SLV_IPROT j) SLV_IPROT_AUTO = false ∨ s.on (SLV_IPROT j) SLV_IPROT_ON_PROT = true ∨ ¬ (s.on (PCH_DEFECT (s.g (SLV_IPROT j) SLV_IPROT_WORK)) PCH_DEFECT_LOS_LIVE = true ∨ s.on (PCH_DEFECT (s.g (SLV_IPROT j) SLV_IPROT_WORK)) PCH_DEFECT_LOL_LIVE = true ∨ s.on (PCH_DEFECT (s.g (SLV_IPROT j) SLV_IPROT_WORK)) PCH_DEFECT_TXF_LIVE = true ∨ s.chState (s.g (SLV_IPROT j) SLV_IPROT_WORK) = 4)) →
      ∃ t, exec (.iprotSwitch j none) s = .next t ∧
        SameParts [] s t ∧
        SameRegs noReg [] s t)

/-- Word 7 of a request by an agent with a mailbox submits its eight words: with one pending it is SVC_BUSY, of a role that cannot run
it the answer is status 4 at once, else it is pending and the role is woken. An answer puts code and status into response word 0
and the results into words 1 to 7, ends the request, and SVC_DONE is noted; one from a role of the wrong kind is status 1; none
within SVC_TIMEOUT_MS is 0xFFFF, counted. ECHO answers its words, VERSION the role's version words, SHED_STATE the five values of
the allocation. ONU_ENABLE empties an ISOLATED slot, ONU_DEACTIVATE one that is not EMPTY, ONU_RERANGE takes an operating ONU to
RERANGE, QW_NOW opens a quiet window or marks it due. OMCI_TX answers the frame, OMCI_RING places the ring; a received message
goes to its next entry or is dropped. PM_CLEAR zeroes an object's bins, PM_ROLL closes all of a length. Another argument answers
status 2 or 3 and changes nothing else. -/
def Obligations.ServiceRequestsAreAnsweredOnce : Prop :=
  (∀ (ag : Agent) (k : Fin 16) (v : Word) (s : State),
      s.reaches ag (SHU_SVC_REQ k + 28) = true →
      agCode ag < 3 →
      s.svcOf k (agCode ag) = none →
      s.svcDown k (bget (((List.range 8).map (fun i => (s.wr (akey (agCode ag) (SHU_SVC_REQ k + 28)) v).rd (akey (agCode ag) (SHU_SVC_REQ k + 4 * i)))).headD 0) 20 4) = false →
      ∃ t, exec (.svcRequestSubmit ag k v) s = .next t ∧
        t.svcOf k (agCode ag) = some ⟨((List.range 8).map (fun i => (s.wr (akey (agCode ag) (SHU_SVC_REQ k + 28)) v).rd (akey (agCode ag) (SHU_SVC_REQ k + 4 * i)))), s.now⟩ ∧
        t.rd64 (SHU_SVC_REQS k) = (s.rd64 (SHU_SVC_REQS k) + 1) % 2 ^ 64 ∧
        (s.leaving k (bget (((List.range 8).map (fun i => (s.wr (akey (agCode ag) (SHU_SVC_REQ k + 28)) v).rd (akey (agCode ag) (SHU_SVC_REQ k + 4 * i)))).headD 0) 20 4) = false → ∀ i : Fin 8, bit (t.thread (s.holder k (bget (((List.range 8).map (fun i => (s.wr (akey (agCode ag) (SHU_SVC_REQ k + 28)) v).rd (akey (agCode ag) (SHU_SVC_REQ k + 4 * i)))).headD 0) 20 4)) i).latch 3 = true) ∧
        SameParts [.shu] s t ∧
        SameRegs noReg [(akey (agCode ag) (SHU_SVC_REQ k + 28)), SHU_SVC_REQS k, SHU_SVC_REQS k + 4] s t) ∧
  (∀ (ag : Agent) (k : Fin 16) (v : Word) (s : State),
      s.reaches ag (SHU_SVC_REQ k + 28) = true →
      agCode ag < 3 →
      s.svcOf k (agCode ag) ≠ none →
      ∃ t, exec (.svcRequestSubmit ag k v) s = .next t ∧
        t.shu.svc = s.shu.svc ∧
        Noted s t (SHU_STATUS k) SHU_STATUS_SVC_BUSY ∧
        SameParts [.irq, .cyc, .msi, .shu] s t ∧
        SameRegs irqReg [(akey (agCode ag) (SHU_SVC_REQ k + 28)), SHU_STATUS k] s t) ∧
  (∀ (ag : Agent) (k : Fin 16) (v : Word) (s : State),
      s.reaches ag (SHU_SVC_REQ k + 28) = true →
      agCode ag < 3 →
      s.svcOf k (agCode ag) = none →
      s.svcDown k (bget (((List.range 8).map (fun i => (s.wr (akey (agCode ag) (SHU_SVC_REQ k + 28)) v).rd (akey (agCode ag) (SHU_SVC_REQ k + 4 * i)))).headD 0) 20 4) = true →
      ∃ t, exec (.svcRequestSubmit ag k v) s = .next t ∧
        t.rd (akey (agCode ag) (SHU_SVC_RSP k)) = word (bget (((List.range 8).map (fun i => (s.wr (akey (agCode ag) (SHU_SVC_REQ k + 28)) v).rd (akey (agCode ag) (SHU_SVC_REQ k + 4 * i)))).headD 0) 24 8 * 2 ^ 24 + 4) ∧
        t.rd64 (SHU_SVC_REQS k) = (s.rd64 (SHU_SVC_REQS k) + 1) % 2 ^ 64 ∧
        Noted s t (SHU_STATUS k) SHU_STATUS_SVC_DONE ∧
        SameParts [.irq, .cyc, .msi, .shu] s t) ∧
  (∀ (k : Fin 16) (a : Fin 3) (status : BitVec 16) (res : List Word) (r : SvcReq) (s : State),
      s.svcOf k a = some r →
      s.svcDown k r.role = false →
      (svcKind r.code = none ∨ svcKind r.code = some 8 ∨ svcKind r.code = some (s.g (SHU_MAP k r.role) SHU_MAP_KIND)) →
      ∃ t, exec (.svcAnswer k a status res) s = .next t ∧
        t.rd (akey a (SHU_SVC_RSP k)) = word (bget (r.w 0) 24 8 * 2 ^ 24 + status.toNat) ∧
        (∀ i : Fin 7, t.rd (akey a (SHU_SVC_RSP k) + 4 + 4 * i) = res.getD i 0) ∧
        t.svcOf k a = none ∧
        Noted s t (SHU_STATUS k) SHU_STATUS_SVC_DONE ∧
        SameParts [.irq, .cyc, .msi, .shu] s t ∧
        SameRegs irqReg [akey a (SHU_SVC_RSP k), akey a (SHU_SVC_RSP k) + 4, akey a (SHU_SVC_RSP k) + 8, akey a (SHU_SVC_RSP k) + 12, akey a (SHU_SVC_RSP k) + 16, akey a (SHU_SVC_RSP k) + 20, akey a (SHU_SVC_RSP k) + 24, akey a (SHU_SVC_RSP k) + 28, SHU_STATUS k] s t) ∧
  (∀ (k : Fin 16) (a : Fin 3) (status : BitVec 16) (res : List Word) (r : SvcReq) (s : State),
      s.svcOf k a = some r →
      s.svcDown k r.role = false →
      ¬ (svcKind r.code = none ∨ svcKind r.code = some 8 ∨ svcKind r.code = some (s.g (SHU_MAP k r.role) SHU_MAP_KIND)) →
      ∃ t, exec (.svcAnswer k a status res) s = .next t ∧
        t.rd (akey a (SHU_SVC_RSP k)) = word (bget (r.w 0) 24 8 * 2 ^ 24 + 1) ∧
        (∀ i : Fin 7, t.rd (akey a (SHU_SVC_RSP k) + 4 + 4 * i) = ([] : List Word).getD i 0) ∧
        t.svcOf k a = none ∧
        Noted s t (SHU_STATUS k) SHU_STATUS_SVC_DONE ∧
        SameParts [.irq, .cyc, .msi, .shu] s t ∧
        SameRegs irqReg [akey a (SHU_SVC_RSP k), akey a (SHU_SVC_RSP k) + 4, akey a (SHU_SVC_RSP k) + 8, akey a (SHU_SVC_RSP k) + 12, akey a (SHU_SVC_RSP k) + 16, akey a (SHU_SVC_RSP k) + 20, akey a (SHU_SVC_RSP k) + 24, akey a (SHU_SVC_RSP k) + 28, SHU_STATUS k] s t) ∧
  (∀ (k : Fin 16) (a : Fin 3) (r : SvcReq) (s : State),
      s.svcOf k a = some r →
      r.at_ + atLeast1 (s.g (SHU_CTL k) SHU_CTL_SVC_TIMEOUT_MS) * 1000000 ≤ s.now →
      ∃ t, exec (.svcTimeout k a) s = .next t ∧
        t.rd (akey a (SHU_SVC_RSP k)) = word (bget (r.w 0) 24 8 * 2 ^ 24 + 0xFFFF) ∧
        (∀ i : Fin 7, t.rd (akey a (SHU_SVC_RSP k) + 4 + 4 * i) = ([] : List Word).getD i 0) ∧
        t.svcOf k a = none ∧
        Noted s t (SHU_STATUS k) SHU_STATUS_SVC_DONE ∧
        t.rd64 (SHU_SVC_TIMEOUTS k) = (s.rd64 (SHU_SVC_TIMEOUTS k) + 1) % 2 ^ 64 ∧
        Noted s t (SHU_STATUS k) SHU_STATUS_SVC_TIMEOUT ∧
        SameParts [.irq, .cyc, .msi, .shu] s t ∧
        SameRegs irqReg [akey a (SHU_SVC_RSP k), akey a (SHU_SVC_RSP k) + 4, akey a (SHU_SVC_RSP k) + 8, akey a (SHU_SVC_RSP k) + 12, akey a (SHU_SVC_RSP k) + 16, akey a (SHU_SVC_RSP k) + 20, akey a (SHU_SVC_RSP k) + 24, akey a (SHU_SVC_RSP k) + 28, SHU_STATUS k, SHU_SVC_TIMEOUTS k, SHU_SVC_TIMEOUTS k + 4] s t) ∧
  (∀ (k : Fin 16) (a : Fin 3) (r : SvcReq) (s : State),
      s.svcOf k a = some r →
      s.svcDown k r.role = false →
      r.code = 0 →
      ∃ t, exec (.echo k a) s = .next t ∧
        t.rd (akey a (SHU_SVC_RSP k)) = word (bget (r.w 0) 24 8 * 2 ^ 24 + 0) ∧
        (∀ i : Fin 7, t.rd (akey a (SHU_SVC_RSP k) + 4 + 4 * i) = (r.words.drop 1).getD i 0) ∧
        t.svcOf k a = none ∧
        Noted s t (SHU_STATUS k) SHU_STATUS_SVC_DONE ∧
        SameParts [.irq, .cyc, .msi, .shu] s t ∧
        SameRegs irqReg [akey a (SHU_SVC_RSP k), akey a (SHU_SVC_RSP k) + 4, akey a (SHU_SVC_RSP k) + 8, akey a (SHU_SVC_RSP k) + 12, akey a (SHU_SVC_RSP k) + 16, akey a (SHU_SVC_RSP k) + 20, akey a (SHU_SVC_RSP k) + 24, akey a (SHU_SVC_RSP k) + 28, SHU_STATUS k] s t) ∧
  (∀ (k : Fin 16) (a : Fin 3) (r : SvcReq) (s : State),
      s.svcOf k a = some r →
      s.svcDown k r.role = false →
      r.code = 1 →
      ∃ t, exec (.version k a) s = .next t ∧
        t.rd (akey a (SHU_SVC_RSP k)) = word (bget (r.w 0) 24 8 * 2 ^ 24 + 0) ∧
        (∀ i : Fin 7, t.rd (akey a (SHU_SVC_RSP k) + 4 + 4 * i) = ((List.range 4).map (fun i => s.rd (SHU_VER k r.role + 4 * i))).getD i 0) ∧
        t.svcOf k a = none ∧
        Noted s t (SHU_STATUS k) SHU_STATUS_SVC_DONE ∧
        SameParts [.irq, .cyc, .msi, .shu] s t ∧
        SameRegs irqReg [akey a (SHU_SVC_RSP k), akey a (SHU_SVC_RSP k) + 4, akey a (SHU_SVC_RSP k) + 8, akey a (SHU_SVC_RSP k) + 12, akey a (SHU_SVC_RSP k) + 16, akey a (SHU_SVC_RSP k) + 20, akey a (SHU_SVC_RSP k) + 24, akey a (SHU_SVC_RSP k) + 28, SHU_STATUS k] s t) ∧
  (∀ (k : Fin 16) (a : Fin 3) (r : SvcReq) (s : State),
      s.svcOf k a = some r →
      s.svcDown k r.role = false →
      r.code = 0x101 →
      s.g (SHU_MAP k r.role) SHU_MAP_KIND = 1 →
      s.slotState (s.svcChan k r) (bget (r.w 1) 0 8) = 5 →
      ∃ t, exec (.onuEnable k a) s = .next t ∧
        t.rd (akey a (SHU_SVC_RSP k)) = word (bget (r.w 0) 24 8 * 2 ^ 24 + 0) ∧
        (∀ i : Fin 7, t.rd (akey a (SHU_SVC_RSP k) + 4 + 4 * i) = ([] : List Word).getD i 0) ∧
        t.svcOf k a = none ∧
        Noted s t (SHU_STATUS k) SHU_STATUS_SVC_DONE ∧
        t.slotState (s.svcChan k r) (bget (r.w 1) 0 8) = 0 ∧
        SameParts [.irq, .cyc, .msi, .pch, .slots, .rng, .shu, .blt] s t) ∧
  (∀ (k : Fin 16) (a : Fin 3) (r : SvcReq) (s : State),
      s.svcOf k a = some r →
      s.svcDown k r.role = false →
      r.code = 0x101 →
      s.g (SHU_MAP k r.role) SHU_MAP_KIND = 1 →
      s.slotState (s.svcChan k r) (bget (r.w 1) 0 8) ≠ 5 →
      ∃ t, exec (.onuEnable k a) s = .next t ∧
        t.rd (akey a (SHU_SVC_RSP k)) = word (bget (r.w 0) 24 8 * 2 ^ 24 + 3) ∧
        (∀ i : Fin 7, t.rd (akey a (SHU_SVC_RSP k) + 4 + 4 * i) = ([] : List Word).getD i 0) ∧
        t.svcOf k a = none ∧
        Noted s t (SHU_STATUS k) SHU_STATUS_SVC_DONE ∧
        SameParts [.irq, .cyc, .msi, .shu] s t ∧
        SameRegs irqReg [akey a (SHU_SVC_RSP k), akey a (SHU_SVC_RSP k) + 4, akey a (SHU_SVC_RSP k) + 8, akey a (SHU_SVC_RSP k) + 12, akey a (SHU_SVC_RSP k) + 16, akey a (SHU_SVC_RSP k) + 20, akey a (SHU_SVC_RSP k) + 24, akey a (SHU_SVC_RSP k) + 28, SHU_STATUS k] s t) ∧
  (∀ (k : Fin 16) (a : Fin 3) (r : SvcReq) (s : State),
      s.svcOf k a = some r →
      s.svcDown k r.role = false →
      r.code = 0x102 →
      s.g (SHU_MAP k r.role) SHU_MAP_KIND = 1 →
      s.slotState (s.svcChan k r) (bget (r.w 1) 0 8) ≠ 0 →
      ∃ t, exec (.onuDeactivate k a) s = .next t ∧
        t.rd (akey a (SHU_SVC_RSP k)) = word (bget (r.w 0) 24 8 * 2 ^ 24 + 0) ∧
        (∀ i : Fin 7, t.rd (akey a (SHU_SVC_RSP k) + 4 + 4 * i) = ([] : List Word).getD i 0) ∧
        t.svcOf k a = none ∧
        Noted s t (SHU_STATUS k) SHU_STATUS_SVC_DONE ∧
        t.slotState (s.svcChan k r) (bget (r.w 1) 0 8) = 0 ∧
        SameParts [.irq, .cyc, .msi, .pch, .slots, .rng, .shu, .blt] s t) ∧
  (∀ (k : Fin 16) (a : Fin 3) (r : SvcReq) (s : State),
      s.svcOf k a = some r →
      s.svcDown k r.role = false →
      r.code = 0x102 →
      s.g (SHU_MAP k r.role) SHU_MAP_KIND = 1 →
      s.slotState (s.svcChan k r) (bget (r.w 1) 0 8) = 0 →
      ∃ t, exec (.onuDeactivate k a) s = .next t ∧
        t.rd (akey a (SHU_SVC_RSP k)) = word (bget (r.w 0) 24 8 * 2 ^ 24 + 3) ∧
        (∀ i : Fin 7, t.rd (akey a (SHU_SVC_RSP k) + 4 + 4 * i) = ([] : List Word).getD i 0) ∧
        t.svcOf k a = none ∧
        Noted s t (SHU_STATUS k) SHU_STATUS_SVC_DONE ∧
        SameParts [.irq, .cyc, .msi, .shu] s t ∧
        SameRegs irqReg [akey a (SHU_SVC_RSP k), akey a (SHU_SVC_RSP k) + 4, akey a (SHU_SVC_RSP k) + 8, akey a (SHU_SVC_RSP k) + 12, akey a (SHU_SVC_RSP k) + 16, akey a (SHU_SVC_RSP k) + 20, akey a (SHU_SVC_RSP k) + 24, akey a (SHU_SVC_RSP k) + 28, SHU_STATUS k] s t) ∧
  (∀ (k : Fin 16) (a : Fin 3) (r : SvcReq) (s : State),
      s.svcOf k a = some r →
      s.svcDown k r.role = false →
      r.code = 0x103 →
      s.g (SHU_MAP k r.role) SHU_MAP_KIND = 1 →
      s.slotState (s.svcChan k r) (bget (r.w 1) 0 8) = 2 →
      ∃ t, exec (.onuRerange k a) s = .next t ∧
        t.rd (akey a (SHU_SVC_RSP k)) = word (bget (r.w 0) 24 8 * 2 ^ 24 + 0) ∧
        (∀ i : Fin 7, t.rd (akey a (SHU_SVC_RSP k) + 4 + 4 * i) = ([] : List Word).getD i 0) ∧
        t.svcOf k a = none ∧
        Noted s t (SHU_STATUS k) SHU_STATUS_SVC_DONE ∧
        t.slotState (s.svcChan k r) (bget (r.w 1) 0 8) = 3 ∧
        t.rd64 (RNG_RERANGES (s.svcChan k r)) = (s.rd64 (RNG_RERANGES (s.svcChan k r)) + 1) % 2 ^ 64 ∧
        SameParts [.fresh, .irq, .cyc, .msi, .pch, .slots, .rng, .shd, .shu] s t) ∧
  (∀ (k : Fin 16) (a : Fin 3) (r : SvcReq) (s : State),
      s.svcOf k a = some r →
      s.svcDown k r.role = false →
      r.code = 0x103 →
      s.g (SHU_MAP k r.role) SHU_MAP_KIND = 1 →
      s.slotState (s.svcChan k r) (bget (r.w 1) 0 8) ≠ 2 →
      ∃ t, exec (.onuRerange k a) s = .next t ∧
        t.rd (akey a (SHU_SVC_RSP k)) = word (bget (r.w 0) 24 8 * 2 ^ 24 + 3) ∧
        (∀ i : Fin 7, t.rd (akey a (SHU_SVC_RSP k) + 4 + 4 * i) = ([] : List Word).getD i 0) ∧
        t.svcOf k a = none ∧
        Noted s t (SHU_STATUS k) SHU_STATUS_SVC_DONE ∧
        SameParts [.irq, .cyc, .msi, .shu] s t ∧
        SameRegs irqReg [akey a (SHU_SVC_RSP k), akey a (SHU_SVC_RSP k) + 4, akey a (SHU_SVC_RSP k) + 8, akey a (SHU_SVC_RSP k) + 12, akey a (SHU_SVC_RSP k) + 16, akey a (SHU_SVC_RSP k) + 20, akey a (SHU_SVC_RSP k) + 24, akey a (SHU_SVC_RSP k) + 28, SHU_STATUS k] s t) ∧
  (∀ (k : Fin 16) (a : Fin 3) (r : SvcReq) (s : State),
      s.svcOf k a = some r →
      s.svcDown k r.role = false →
      r.code = 0x104 →
      s.g (SHU_MAP k r.role) SHU_MAP_KIND = 1 →
      s.chState (s.svcChan k r) = 2 →
      s.qwFree (s.svcChan k r) = true →
      ∃ t, exec (.qwNow k a) s = .next t ∧
        t.rd (akey a (SHU_SVC_RSP k)) = word (bget (r.w 0) 24 8 * 2 ^ 24 + 0) ∧
        (∀ i : Fin 7, t.rd (akey a (SHU_SVC_RSP k) + 4 + 4 * i) = ([] : List Word).getD i 0) ∧
        t.svcOf k a = none ∧
        Noted s t (SHU_STATUS k) SHU_STATUS_SVC_DONE ∧
        (t.rng.look (s.svcChan k r)).qwBooked = true ∧
        t.rd64 (RNG_QW_WINDOWS (s.svcChan k r)) = (s.rd64 (RNG_QW_WINDOWS (s.svcChan k r)) + 1) % 2 ^ 64 ∧
        SameParts [.fresh, .irq, .cyc, .msi, .rng, .shd, .shu] s t) ∧
  (∀ (k : Fin 16) (a : Fin 3) (r : SvcReq) (s : State),
      s.svcOf k a = some r →
      s.svcDown k r.role = false →
      r.code = 0x104 →
      s.g (SHU_MAP k r.role) SHU_MAP_KIND = 1 →
      (s.chState (s.svcChan k r) ≠ 2 ∨ s.qwFree (s.svcChan k r) = false) →
      ∃ t, exec (.qwNow k a) s = .next t ∧
        t.rd (akey a (SHU_SVC_RSP k)) = word (bget (r.w 0) 24 8 * 2 ^ 24 + 0) ∧
        (∀ i : Fin 7, t.rd (akey a (SHU_SVC_RSP k) + 4 + 4 * i) = ([] : List Word).getD i 0) ∧
        t.svcOf k a = none ∧
        Noted s t (SHU_STATUS k) SHU_STATUS_SVC_DONE ∧
        t.rng.look (s.svcChan k r) = { s.rng.look (s.svcChan k r) with qwDue := true } ∧
        SameParts [.irq, .cyc, .msi, .shu, .rng] s t ∧
        SameRegs irqReg [akey a (SHU_SVC_RSP k), akey a (SHU_SVC_RSP k) + 4, akey a (SHU_SVC_RSP k) + 8, akey a (SHU_SVC_RSP k) + 12, akey a (SHU_SVC_RSP k) + 16, akey a (SHU_SVC_RSP k) + 20, akey a (SHU_SVC_RSP k) + 24, akey a (SHU_SVC_RSP k) + 28, SHU_STATUS k] s t) ∧
  (∀ (k : Fin 16) (a : Fin 3) (r : SvcReq) (s : State),
      s.svcOf k a = some r →
      s.svcDown k r.role = false →
      r.code = 0x201 →
      s.g (SHU_MAP k r.role) SHU_MAP_KIND = 0 →
      ∃ t, exec (.shedState k a) s = .next t ∧
        t.rd (akey a (SHU_SVC_RSP k)) = word (bget (r.w 0) 24 8 * 2 ^ 24 + 0) ∧
        (∀ i : Fin 7, t.rd (akey a (SHU_SVC_RSP k) + 4 + 4 * i) = [word (s.alst (s.svcChan k r) (bget (r.w 1) 0 9)).occ, word (s.alst (s.svcChan k r) (bget (r.w 1) 0 9)).outOf, word ((s.alst (s.svcChan k r) (bget (r.w 1) 0 9)).gotIn ((s.pch.look (s.svcChan k r)).openLo)), word ((s.alst (s.svcChan k r) (bget (r.w 1) 0 9)).gotIn ((s.pch.look (s.svcChan k r)).openLo + 1)), word (s.demand (s.svcChan k r) (bget (r.w 1) 0 9))].getD i 0) ∧
        t.svcOf k a = none ∧
        Noted s t (SHU_STATUS k) SHU_STATUS_SVC_DONE ∧
        SameParts [.irq, .cyc, .msi, .shu] s t ∧
        SameRegs irqReg [akey a (SHU_SVC_RSP k), akey a (SHU_SVC_RSP k) + 4, akey a (SHU_SVC_RSP k) + 8, akey a (SHU_SVC_RSP k) + 12, akey a (SHU_SVC_RSP k) + 16, akey a (SHU_SVC_RSP k) + 20, akey a (SHU_SVC_RSP k) + 24, akey a (SHU_SVC_RSP k) + 28, SHU_STATUS k] s t) ∧
  (∀ (k : Fin 16) (a : Fin 3) (sf : Word) (r : SvcReq) (s : State),
      s.svcOf k a = some r →
      s.svcDown k r.role = false →
      r.code = 0x401 →
      s.g (SHU_MAP k r.role) SHU_MAP_KIND = 3 →
      48 ≤ (r.w 4).toNat →
      (r.w 4).toNat ≤ 1980 →
      ∃ t, exec (.omciTx k a sf) s = .next t ∧
        t.rd (akey a (SHU_SVC_RSP k)) = word (bget (r.w 0) 24 8 * 2 ^ 24 + 0) ∧
        (∀ i : Fin 7, t.rd (akey a (SHU_SVC_RSP k) + 4 + 4 * i) = [sf].getD i 0) ∧
        t.svcOf k a = none ∧
        Noted s t (SHU_STATUS k) SHU_STATUS_SVC_DONE ∧
        t.shu.omcc.look (bget (r.w 1) 0 6) = some (bget (r.w 1) 16 10, s.ddrRds ((r.w 2).toNat + 2 ^ 32 * (r.w 3).toNat) (r.w 4).toNat) ∧
        SameParts [.irq, .cyc, .msi, .shu] s t ∧
        SameRegs irqReg [akey a (SHU_SVC_RSP k), akey a (SHU_SVC_RSP k) + 4, akey a (SHU_SVC_RSP k) + 8, akey a (SHU_SVC_RSP k) + 12, akey a (SHU_SVC_RSP k) + 16, akey a (SHU_SVC_RSP k) + 20, akey a (SHU_SVC_RSP k) + 24, akey a (SHU_SVC_RSP k) + 28, SHU_STATUS k] s t) ∧
  (∀ (k : Fin 16) (a : Fin 3) (sf : Word) (r : SvcReq) (s : State),
      s.svcOf k a = some r →
      s.svcDown k r.role = false →
      r.code = 0x401 →
      s.g (SHU_MAP k r.role) SHU_MAP_KIND = 3 →
      ((r.w 4).toNat < 48 ∨ 1980 < (r.w 4).toNat) →
      ∃ t, exec (.omciTx k a sf) s = .next t ∧
        t.rd (akey a (SHU_SVC_RSP k)) = word (bget (r.w 0) 24 8 * 2 ^ 24 + 2) ∧
        (∀ i : Fin 7, t.rd (akey a (SHU_SVC_RSP k) + 4 + 4 * i) = ([] : List Word).getD i 0) ∧
        t.svcOf k a = none ∧
        Noted s t (SHU_STATUS k) SHU_STATUS_SVC_DONE ∧
        SameParts [.irq, .cyc, .msi, .shu] s t ∧
        SameRegs irqReg [akey a (SHU_SVC_RSP k), akey a (SHU_SVC_RSP k) + 4, akey a (SHU_SVC_RSP k) + 8, akey a (SHU_SVC_RSP k) + 12, akey a (SHU_SVC_RSP k) + 16, akey a (SHU_SVC_RSP k) + 20, akey a (SHU_SVC_RSP k) + 24, akey a (SHU_SVC_RSP k) + 28, SHU_STATUS k] s t) ∧
  (∀ (k : Fin 16) (a : Fin 3) (r : SvcReq) (s : State),
      s.svcOf k a = some r →
      s.svcDown k r.role = false →
      r.code = 0x402 →
      s.g (SHU_MAP k r.role) SHU_MAP_KIND = 3 →
      ¬ (((r.w 1).toNat + 2 ^ 32 * (r.w 2).toNat) % 4096 ≠ 0 ∨ (r.w 3).toNat < 16 ∨ 65536 < (r.w 3).toNat ∨ 2 ^ Nat.log2 (r.w 3).toNat ≠ (r.w 3).toNat) →
      s.ddrTrained = true →
      ∃ t, exec (.omciRing k a) s = .next t ∧
        t.rd (akey a (SHU_SVC_RSP k)) = word (bget (r.w 0) 24 8 * 2 ^ 24 + 0) ∧
        (∀ i : Fin 7, t.rd (akey a (SHU_SVC_RSP k) + 4 + 4 * i) = ([] : List Word).getD i 0) ∧
        t.svcOf k a = none ∧
        Noted s t (SHU_STATUS k) SHU_STATUS_SVC_DONE ∧
        t.shu.ring.look k = (((r.w 1).toNat + 2 ^ 32 * (r.w 2).toNat), (r.w 3).toNat, 0, 0) ∧
        SameParts [.irq, .cyc, .msi, .shu] s t ∧
        SameRegs irqReg [akey a (SHU_SVC_RSP k), akey a (SHU_SVC_RSP k) + 4, akey a (SHU_SVC_RSP k) + 8, akey a (SHU_SVC_RSP k) + 12, akey a (SHU_SVC_RSP k) + 16, akey a (SHU_SVC_RSP k) + 20, akey a (SHU_SVC_RSP k) + 24, akey a (SHU_SVC_RSP k) + 28, SHU_STATUS k] s t) ∧
  (∀ (k : Fin 16) (a : Fin 3) (r : SvcReq) (s : State),
      s.svcOf k a = some r →
      s.svcDown k r.role = false →
      r.code = 0x402 →
      s.g (SHU_MAP k r.role) SHU_MAP_KIND = 3 →
      (((r.w 1).toNat + 2 ^ 32 * (r.w 2).toNat) % 4096 ≠ 0 ∨ (r.w 3).toNat < 16 ∨ 65536 < (r.w 3).toNat ∨ 2 ^ Nat.log2 (r.w 3).toNat ≠ (r.w 3).toNat) →
      ∃ t, exec (.omciRing k a) s = .next t ∧
        t.rd (akey a (SHU_SVC_RSP k)) = word (bget (r.w 0) 24 8 * 2 ^ 24 + 2) ∧
        (∀ i : Fin 7, t.rd (akey a (SHU_SVC_RSP k) + 4 + 4 * i) = ([] : List Word).getD i 0) ∧
        t.svcOf k a = none ∧
        Noted s t (SHU_STATUS k) SHU_STATUS_SVC_DONE ∧
        t.shu.ring = s.shu.ring ∧
        SameParts [.irq, .cyc, .msi, .shu] s t ∧
        SameRegs irqReg [akey a (SHU_SVC_RSP k), akey a (SHU_SVC_RSP k) + 4, akey a (SHU_SVC_RSP k) + 8, akey a (SHU_SVC_RSP k) + 12, akey a (SHU_SVC_RSP k) + 16, akey a (SHU_SVC_RSP k) + 20, akey a (SHU_SVC_RSP k) + 24, akey a (SHU_SVC_RSP k) + 28, SHU_STATUS k] s t) ∧
  (∀ (k : Fin 16) (a : Fin 3) (r : SvcReq) (s : State),
      s.svcOf k a = some r →
      s.svcDown k r.role = false →
      r.code = 0x402 →
      s.g (SHU_MAP k r.role) SHU_MAP_KIND = 3 →
      ¬ (((r.w 1).toNat + 2 ^ 32 * (r.w 2).toNat) % 4096 ≠ 0 ∨ (r.w 3).toNat < 16 ∨ 65536 < (r.w 3).toNat ∨ 2 ^ Nat.log2 (r.w 3).toNat ≠ (r.w 3).toNat) →
      s.ddrTrained = false →
      ∃ t, exec (.omciRing k a) s = .next t ∧
        t.rd (akey a (SHU_SVC_RSP k)) = word (bget (r.w 0) 24 8 * 2 ^ 24 + 3) ∧
        (∀ i : Fin 7, t.rd (akey a (SHU_SVC_RSP k) + 4 + 4 * i) = ([] : List Word).getD i 0) ∧
        t.svcOf k a = none ∧
        Noted s t (SHU_STATUS k) SHU_STATUS_SVC_DONE ∧
        t.shu.ring = s.shu.ring ∧
        SameParts [.irq, .cyc, .msi, .shu] s t ∧
        SameRegs irqReg [akey a (SHU_SVC_RSP k), akey a (SHU_SVC_RSP k) + 4, akey a (SHU_SVC_RSP k) + 8, akey a (SHU_SVC_RSP k) + 12, akey a (SHU_SVC_RSP k) + 16, akey a (SHU_SVC_RSP k) + 20, akey a (SHU_SVC_RSP k) + 24, akey a (SHU_SVC_RSP k) + 28, SHU_STATUS k] s t) ∧
  (∀ (k : Fin 16) (c : Fin 64) (onu : Fin 1024) (msg : List Byte) (full : Bool) (s : State),
      msg.length ≤ 2032 →
      (s.shu.ring.look k).2.1 ≠ 0 →
      full = false →
      s.ddrUp = true →
      s.isHole ((s.shu.ring.look k).1 + 2048 * (s.shu.ring.look k).2.2.1) = false →
      ∃ t, exec (.omciRx k c onu msg full) s = .next t ∧
        t.ddrRds ((s.shu.ring.look k).1 + 2048 * (s.shu.ring.look k).2.2.1) ((wordBytes (word (c.val * 2 ^ 26 + onu.val * 2 ^ 16 + msg.length)) ++ wordBytes (word s.tim.ns) ++ wordBytes (word (s.shu.ring.look k).2.2.2) ++ [0, 0, 0, 0] ++ msg)).length = (wordBytes (word (c.val * 2 ^ 26 + onu.val * 2 ^ 16 + msg.length)) ++ wordBytes (word s.tim.ns) ++ wordBytes (word (s.shu.ring.look k).2.2.2) ++ [0, 0, 0, 0] ++ msg) ∧
        (∀ b, (b < ((s.shu.ring.look k).1 + 2048 * (s.shu.ring.look k).2.2.1) ∨ ((s.shu.ring.look k).1 + 2048 * (s.shu.ring.look k).2.2.1) + ((wordBytes (word (c.val * 2 ^ 26 + onu.val * 2 ^ 16 + msg.length)) ++ wordBytes (word s.tim.ns) ++ wordBytes (word (s.shu.ring.look k).2.2.2) ++ [0, 0, 0, 0] ++ msg)).length ≤ b) → t.ddrRd b = s.ddrRd b) ∧
        t.shu.ring.look k = ((s.shu.ring.look k).1, (s.shu.ring.look k).2.1, ((s.shu.ring.look k).2.2.1 + 1) % (s.shu.ring.look k).2.1, ((s.shu.ring.look k).2.2.2 + 1) % 2 ^ 32) ∧
        t.shu = { s.shu with ring := t.shu.ring } ∧
        SameParts [.ddr, .shu] s t ∧
        SameRegs noReg [] s t) ∧
  (∀ (k : Fin 16) (c : Fin 64) (onu : Fin 1024) (msg : List Byte) (full : Bool) (s : State),
      msg.length ≤ 2032 →
      ((s.shu.ring.look k).2.1 = 0 ∨ full = true ∨ s.ddrUp = false ∨ s.isHole ((s.shu.ring.look k).1 + 2048 * (s.shu.ring.look k).2.2.1) = true) →
      ∃ t, exec (.omciRx k c onu msg full) s = .next t ∧
        t.rd64 (SHU_OMCI_RX_DROP k) = (s.rd64 (SHU_OMCI_RX_DROP k) + 1) % 2 ^ 64 ∧
        SameParts [] s t ∧
        SameRegs noReg [SHU_OMCI_RX_DROP k, SHU_OMCI_RX_DROP k + 4] s t) ∧
  (∀ (k : Fin 16) (a : Fin 3) (r : SvcReq) (s : State),
      s.svcOf k a = some r →
      s.svcDown k r.role = false →
      r.code = 0x501 →
      s.g (SHU_MAP k r.role) SHU_MAP_KIND = 5 →
      (bget (r.w 1) 0 16) < 20544 →
      ∃ t, exec (.pmClear k a) s = .next t ∧
        t.rd (akey a (SHU_SVC_RSP k)) = word (bget (r.w 0) 24 8 * 2 ^ 24 + 0) ∧
        (∀ i : Fin 7, t.rd (akey a (SHU_SVC_RSP k) + 4 + 4 * i) = ([] : List Word).getD i 0) ∧
        t.svcOf k a = none ∧
        Noted s t (SHU_STATUS k) SHU_STATUS_SVC_DONE ∧
        t.blt.bins.look (4 * (bget (r.w 1) 0 16) + 2 * 0) = { (default : PmBin) with start := (s.blt.bins.look (4 * (bget (r.w 1) 0 16) + 2 * 0)).start, suspect := true } ∧
        t.blt.bins.look (4 * (bget (r.w 1) 0 16) + 2 * 1) = { (default : PmBin) with start := (s.blt.bins.look (4 * (bget (r.w 1) 0 16) + 2 * 1)).start, suspect := true } ∧
        SameParts [.irq, .cyc, .msi, .shu, .blt] s t ∧
        SameRegs boltReg [akey a (SHU_SVC_RSP k), akey a (SHU_SVC_RSP k) + 4, akey a (SHU_SVC_RSP k) + 8, akey a (SHU_SVC_RSP k) + 12, akey a (SHU_SVC_RSP k) + 16, akey a (SHU_SVC_RSP k) + 20, akey a (SHU_SVC_RSP k) + 24, akey a (SHU_SVC_RSP k) + 28, SHU_STATUS k] s t) ∧
  (∀ (k : Fin 16) (a : Fin 3) (r : SvcReq) (s : State),
      s.svcOf k a = some r →
      s.svcDown k r.role = false →
      r.code = 0x501 →
      s.g (SHU_MAP k r.role) SHU_MAP_KIND = 5 →
      20544 ≤ (bget (r.w 1) 0 16) →
      ∃ t, exec (.pmClear k a) s = .next t ∧
        t.rd (akey a (SHU_SVC_RSP k)) = word (bget (r.w 0) 24 8 * 2 ^ 24 + 2) ∧
        (∀ i : Fin 7, t.rd (akey a (SHU_SVC_RSP k) + 4 + 4 * i) = ([] : List Word).getD i 0) ∧
        t.svcOf k a = none ∧
        Noted s t (SHU_STATUS k) SHU_STATUS_SVC_DONE ∧
        SameParts [.irq, .cyc, .msi, .shu] s t ∧
        SameRegs irqReg [akey a (SHU_SVC_RSP k), akey a (SHU_SVC_RSP k) + 4, akey a (SHU_SVC_RSP k) + 8, akey a (SHU_SVC_RSP k) + 12, akey a (SHU_SVC_RSP k) + 16, akey a (SHU_SVC_RSP k) + 20, akey a (SHU_SVC_RSP k) + 24, akey a (SHU_SVC_RSP k) + 28, SHU_STATUS k] s t) ∧
  (∀ (k : Fin 16) (a : Fin 3) (r : SvcReq) (s : State),
      s.svcOf k a = some r →
      s.svcDown k r.role = false →
      r.code = 0x502 →
      s.g (SHU_MAP k r.role) SHU_MAP_KIND = 5 →
      (r.w 1).toNat ≤ 1 →
      ∃ t, exec (.pmRoll k a) s = .next t ∧
        t.rd (akey a (SHU_SVC_RSP k)) = word (bget (r.w 0) 24 8 * 2 ^ 24 + 0) ∧
        (∀ i : Fin 7, t.rd (akey a (SHU_SVC_RSP k) + 4 + 4 * i) = ([] : List Word).getD i 0) ∧
        t.svcOf k a = none ∧
        Noted s t (SHU_STATUS k) SHU_STATUS_SVC_DONE ∧
        (∀ o : Fin 20544, t.blt.bins.look (4 * o + 2 * (r.w 1).toNat) = { (default : PmBin) with start := s.tim.sec } ∧ t.blt.bins.look (4 * o + 2 * (r.w 1).toNat + 1) = { s.blt.bins.look (4 * o + 2 * (r.w 1).toNat) with suspect := true }) ∧
        SameParts [.irq, .cyc, .msi, .shu, .blt] s t ∧
        SameRegs boltReg [akey a (SHU_SVC_RSP k), akey a (SHU_SVC_RSP k) + 4, akey a (SHU_SVC_RSP k) + 8, akey a (SHU_SVC_RSP k) + 12, akey a (SHU_SVC_RSP k) + 16, akey a (SHU_SVC_RSP k) + 20, akey a (SHU_SVC_RSP k) + 24, akey a (SHU_SVC_RSP k) + 28, SHU_STATUS k] s t) ∧
  (∀ (k : Fin 16) (a : Fin 3) (r : SvcReq) (s : State),
      s.svcOf k a = some r →
      s.svcDown k r.role = false →
      r.code = 0x502 →
      s.g (SHU_MAP k r.role) SHU_MAP_KIND = 5 →
      1 < (r.w 1).toNat →
      ∃ t, exec (.pmRoll k a) s = .next t ∧
        t.rd (akey a (SHU_SVC_RSP k)) = word (bget (r.w 0) 24 8 * 2 ^ 24 + 2) ∧
        (∀ i : Fin 7, t.rd (akey a (SHU_SVC_RSP k) + 4 + 4 * i) = ([] : List Word).getD i 0) ∧
        t.svcOf k a = none ∧
        Noted s t (SHU_STATUS k) SHU_STATUS_SVC_DONE ∧
        SameParts [.irq, .cyc, .msi, .shu] s t ∧
        SameRegs irqReg [akey a (SHU_SVC_RSP k), akey a (SHU_SVC_RSP k) + 4, akey a (SHU_SVC_RSP k) + 8, akey a (SHU_SVC_RSP k) + 12, akey a (SHU_SVC_RSP k) + 16, akey a (SHU_SVC_RSP k) + 20, akey a (SHU_SVC_RSP k) + 24, akey a (SHU_SVC_RSP k) + 28, SHU_STATUS k] s t) ∧
  (∀ (k : Fin 16) (a : Fin 3) (r : SvcReq) (s : State),
      s.svcOf k a = some r →
      s.svcDown k r.role = false →
      r.code = 0x101 →
      s.g (SHU_MAP k r.role) SHU_MAP_KIND ≠ 1 →
      ∃ t, exec (.onuEnable k a) s = .next t ∧
        t.rd (akey a (SHU_SVC_RSP k)) = word (bget (r.w 0) 24 8 * 2 ^ 24 + 1) ∧
        (∀ i : Fin 7, t.rd (akey a (SHU_SVC_RSP k) + 4 + 4 * i) = ([] : List Word).getD i 0) ∧
        t.svcOf k a = none ∧
        Noted s t (SHU_STATUS k) SHU_STATUS_SVC_DONE ∧
        SameParts [.irq, .cyc, .msi, .shu] s t ∧
        SameRegs irqReg [akey a (SHU_SVC_RSP k), akey a (SHU_SVC_RSP k) + 4, akey a (SHU_SVC_RSP k) + 8, akey a (SHU_SVC_RSP k) + 12, akey a (SHU_SVC_RSP k) + 16, akey a (SHU_SVC_RSP k) + 20, akey a (SHU_SVC_RSP k) + 24, akey a (SHU_SVC_RSP k) + 28, SHU_STATUS k] s t) ∧
  (∀ (k : Fin 16) (a : Fin 3) (r : SvcReq) (s : State),
      s.svcOf k a = some r →
      s.svcDown k r.role = false →
      r.code = 0x102 →
      s.g (SHU_MAP k r.role) SHU_MAP_KIND ≠ 1 →
      ∃ t, exec (.onuDeactivate k a) s = .next t ∧
        t.rd (akey a (SHU_SVC_RSP k)) = word (bget (r.w 0) 24 8 * 2 ^ 24 + 1) ∧
        (∀ i : Fin 7, t.rd (akey a (SHU_SVC_RSP k) + 4 + 4 * i) = ([] : List Word).getD i 0) ∧
        t.svcOf k a = none ∧
        Noted s t (SHU_STATUS k) SHU_STATUS_SVC_DONE ∧
        SameParts [.irq, .cyc, .msi, .shu] s t ∧
        SameRegs irqReg [akey a (SHU_SVC_RSP k), akey a (SHU_SVC_RSP k) + 4, akey a (SHU_SVC_RSP k) + 8, akey a (SHU_SVC_RSP k) + 12, akey a (SHU_SVC_RSP k) + 16, akey a (SHU_SVC_RSP k) + 20, akey a (SHU_SVC_RSP k) + 24, akey a (SHU_SVC_RSP k) + 28, SHU_STATUS k] s t) ∧
  (∀ (k : Fin 16) (a : Fin 3) (r : SvcReq) (s : State),
      s.svcOf k a = some r →
      s.svcDown k r.role = false →
      r.code = 0x103 →
      s.g (SHU_MAP k r.role) SHU_MAP_KIND ≠ 1 →
      ∃ t, exec (.onuRerange k a) s = .next t ∧
        t.rd (akey a (SHU_SVC_RSP k)) = word (bget (r.w 0) 24 8 * 2 ^ 24 + 1) ∧
        (∀ i : Fin 7, t.rd (akey a (SHU_SVC_RSP k) + 4 + 4 * i) = ([] : List Word).getD i 0) ∧
        t.svcOf k a = none ∧
        Noted s t (SHU_STATUS k) SHU_STATUS_SVC_DONE ∧
        SameParts [.irq, .cyc, .msi, .shu] s t ∧
        SameRegs irqReg [akey a (SHU_SVC_RSP k), akey a (SHU_SVC_RSP k) + 4, akey a (SHU_SVC_RSP k) + 8, akey a (SHU_SVC_RSP k) + 12, akey a (SHU_SVC_RSP k) + 16, akey a (SHU_SVC_RSP k) + 20, akey a (SHU_SVC_RSP k) + 24, akey a (SHU_SVC_RSP k) + 28, SHU_STATUS k] s t) ∧
  (∀ (k : Fin 16) (a : Fin 3) (r : SvcReq) (s : State),
      s.svcOf k a = some r →
      s.svcDown k r.role = false →
      r.code = 0x104 →
      s.g (SHU_MAP k r.role) SHU_MAP_KIND ≠ 1 →
      ∃ t, exec (.qwNow k a) s = .next t ∧
        t.rd (akey a (SHU_SVC_RSP k)) = word (bget (r.w 0) 24 8 * 2 ^ 24 + 1) ∧
        (∀ i : Fin 7, t.rd (akey a (SHU_SVC_RSP k) + 4 + 4 * i) = ([] : List Word).getD i 0) ∧
        t.svcOf k a = none ∧
        Noted s t (SHU_STATUS k) SHU_STATUS_SVC_DONE ∧
        SameParts [.irq, .cyc, .msi, .shu] s t ∧
        SameRegs irqReg [akey a (SHU_SVC_RSP k), akey a (SHU_SVC_RSP k) + 4, akey a (SHU_SVC_RSP k) + 8, akey a (SHU_SVC_RSP k) + 12, akey a (SHU_SVC_RSP k) + 16, akey a (SHU_SVC_RSP k) + 20, akey a (SHU_SVC_RSP k) + 24, akey a (SHU_SVC_RSP k) + 28, SHU_STATUS k] s t) ∧
  (∀ (k : Fin 16) (a : Fin 3) (r : SvcReq) (s : State),
      s.svcOf k a = some r →
      s.svcDown k r.role = false →
      r.code = 0x201 →
      s.g (SHU_MAP k r.role) SHU_MAP_KIND ≠ 0 →
      ∃ t, exec (.shedState k a) s = .next t ∧
        t.rd (akey a (SHU_SVC_RSP k)) = word (bget (r.w 0) 24 8 * 2 ^ 24 + 1) ∧
        (∀ i : Fin 7, t.rd (akey a (SHU_SVC_RSP k) + 4 + 4 * i) = ([] : List Word).getD i 0) ∧
        t.svcOf k a = none ∧
        Noted s t (SHU_STATUS k) SHU_STATUS_SVC_DONE ∧
        SameParts [.irq, .cyc, .msi, .shu] s t ∧
        SameRegs irqReg [akey a (SHU_SVC_RSP k), akey a (SHU_SVC_RSP k) + 4, akey a (SHU_SVC_RSP k) + 8, akey a (SHU_SVC_RSP k) + 12, akey a (SHU_SVC_RSP k) + 16, akey a (SHU_SVC_RSP k) + 20, akey a (SHU_SVC_RSP k) + 24, akey a (SHU_SVC_RSP k) + 28, SHU_STATUS k] s t) ∧
  (∀ (k : Fin 16) (a : Fin 3) (r : SvcReq) (sf : Word) (s : State),
      s.svcOf k a = some r →
      s.svcDown k r.role = false →
      r.code = 0x401 →
      s.g (SHU_MAP k r.role) SHU_MAP_KIND ≠ 3 →
      ∃ t, exec (.omciTx k a sf) s = .next t ∧
        t.rd (akey a (SHU_SVC_RSP k)) = word (bget (r.w 0) 24 8 * 2 ^ 24 + 1) ∧
        (∀ i : Fin 7, t.rd (akey a (SHU_SVC_RSP k) + 4 + 4 * i) = ([] : List Word).getD i 0) ∧
        t.svcOf k a = none ∧
        Noted s t (SHU_STATUS k) SHU_STATUS_SVC_DONE ∧
        SameParts [.irq, .cyc, .msi, .shu] s t ∧
        SameRegs irqReg [akey a (SHU_SVC_RSP k), akey a (SHU_SVC_RSP k) + 4, akey a (SHU_SVC_RSP k) + 8, akey a (SHU_SVC_RSP k) + 12, akey a (SHU_SVC_RSP k) + 16, akey a (SHU_SVC_RSP k) + 20, akey a (SHU_SVC_RSP k) + 24, akey a (SHU_SVC_RSP k) + 28, SHU_STATUS k] s t) ∧
  (∀ (k : Fin 16) (a : Fin 3) (r : SvcReq) (s : State),
      s.svcOf k a = some r →
      s.svcDown k r.role = false →
      r.code = 0x402 →
      s.g (SHU_MAP k r.role) SHU_MAP_KIND ≠ 3 →
      ∃ t, exec (.omciRing k a) s = .next t ∧
        t.rd (akey a (SHU_SVC_RSP k)) = word (bget (r.w 0) 24 8 * 2 ^ 24 + 1) ∧
        (∀ i : Fin 7, t.rd (akey a (SHU_SVC_RSP k) + 4 + 4 * i) = ([] : List Word).getD i 0) ∧
        t.svcOf k a = none ∧
        Noted s t (SHU_STATUS k) SHU_STATUS_SVC_DONE ∧
        SameParts [.irq, .cyc, .msi, .shu] s t ∧
        SameRegs irqReg [akey a (SHU_SVC_RSP k), akey a (SHU_SVC_RSP k) + 4, akey a (SHU_SVC_RSP k) + 8, akey a (SHU_SVC_RSP k) + 12, akey a (SHU_SVC_RSP k) + 16, akey a (SHU_SVC_RSP k) + 20, akey a (SHU_SVC_RSP k) + 24, akey a (SHU_SVC_RSP k) + 28, SHU_STATUS k] s t) ∧
  (∀ (k : Fin 16) (a : Fin 3) (r : SvcReq) (s : State),
      s.svcOf k a = some r →
      s.svcDown k r.role = false →
      r.code = 0x501 →
      s.g (SHU_MAP k r.role) SHU_MAP_KIND ≠ 5 →
      ∃ t, exec (.pmClear k a) s = .next t ∧
        t.rd (akey a (SHU_SVC_RSP k)) = word (bget (r.w 0) 24 8 * 2 ^ 24 + 1) ∧
        (∀ i : Fin 7, t.rd (akey a (SHU_SVC_RSP k) + 4 + 4 * i) = ([] : List Word).getD i 0) ∧
        t.svcOf k a = none ∧
        Noted s t (SHU_STATUS k) SHU_STATUS_SVC_DONE ∧
        SameParts [.irq, .cyc, .msi, .shu] s t ∧
        SameRegs irqReg [akey a (SHU_SVC_RSP k), akey a (SHU_SVC_RSP k) + 4, akey a (SHU_SVC_RSP k) + 8, akey a (SHU_SVC_RSP k) + 12, akey a (SHU_SVC_RSP k) + 16, akey a (SHU_SVC_RSP k) + 20, akey a (SHU_SVC_RSP k) + 24, akey a (SHU_SVC_RSP k) + 28, SHU_STATUS k] s t) ∧
  (∀ (k : Fin 16) (a : Fin 3) (r : SvcReq) (s : State),
      s.svcOf k a = some r →
      s.svcDown k r.role = false →
      r.code = 0x502 →
      s.g (SHU_MAP k r.role) SHU_MAP_KIND ≠ 5 →
      ∃ t, exec (.pmRoll k a) s = .next t ∧
        t.rd (akey a (SHU_SVC_RSP k)) = word (bget (r.w 0) 24 8 * 2 ^ 24 + 1) ∧
        (∀ i : Fin 7, t.rd (akey a (SHU_SVC_RSP k) + 4 + 4 * i) = ([] : List Word).getD i 0) ∧
        t.svcOf k a = none ∧
        Noted s t (SHU_STATUS k) SHU_STATUS_SVC_DONE ∧
        SameParts [.irq, .cyc, .msi, .shu] s t ∧
        SameRegs irqReg [akey a (SHU_SVC_RSP k), akey a (SHU_SVC_RSP k) + 4, akey a (SHU_SVC_RSP k) + 8, akey a (SHU_SVC_RSP k) + 12, akey a (SHU_SVC_RSP k) + 16, akey a (SHU_SVC_RSP k) + 20, akey a (SHU_SVC_RSP k) + 24, akey a (SHU_SVC_RSP k) + 28, SHU_STATUS k] s t) ∧
  (∀ (k : Fin 16) (a : Fin 3) (status : BitVec 16) (res : List Word) (s : State),
      s.svcOf k a = none →
      ∃ t, exec (.svcAnswer k a status res) s = .next t ∧
        SameParts [] s t ∧
        SameRegs noReg [] s t) ∧
  (∀ (k : Fin 16) (a : Fin 3) (s : State),
      (s.svcOf k a).all (fun r => decide (s.now < r.at_ + atLeast1 (s.g (SHU_CTL k) SHU_CTL_SVC_TIMEOUT_MS) * 1000000)) = true →
      ∃ t, exec (.svcTimeout k a) s = .next t ∧
        SameParts [] s t ∧
        SameRegs noReg [] s t)

/-- For a thread that is picked, of shuttle sh and role r, with no tag sampling in its cluster. With idle slots the row of its SEQ
moves only that thread: NEXT to pc + 1; JMP, CALL and JMPR to their target and RET to the top of the call stack while COND holds,
else to pc + 1; LOOP counts down and branches while the counter is not 0; LDLOOP loads it; DISP goes to IMM plus the four bits of
its register; DONE completes the held item; YIELD goes behind every other ready thread; WAIT goes on where COND holds, clearing
the latch it tested, else the thread waits until it does. The turn passes on, and the slot of the cycle counts as RETIRED, or as
WASTED where the microword is idle with NEXT; a counter that wraps sets its bit of PMC_OVF. FAULT, a reserved SEQ, a branch beyond
16,383, a full or empty call stack, a parity error, a load beyond correction and a watchdog that runs out record the fault with
its code, report it (class 0x10) and restart the thread at its entry; an item it holds goes back to the head of its queue. An ADD
sets Z, C, N and V of its sum. A store to local memory replaces its bytes. A load stays pending until a result of its memory
arrives, the oldest first (log entry 29); one corrected is counted. An own timer that runs out sets latch 2. -/
def Obligations.AMicrowordIssues : Prop :=
  (∀ (sh : Fin 256) (i : Fin 8) (r : Nat) (s : State),
      s.mayIssue sh i = true →
      (s.thread sh i).waiting = false →
      s.roleOf sh = some r →
      s.on (PMC_TAG_CTL (sh.val / 16)) PMC_TAG_CTL_EN = false →
      fld (s.uop sh i).a 27 5 = 0 →
      fld (s.uop sh i).b 27 5 = 0 →
      fld (s.uop sh i).m 28 4 = 0 →
      fld (s.uop sh i).q 13 3 = 0 →
      (s.uop sh i).seq = 0 →
      s.rd64 (PMC_SLOT_RETIRED (16 * (sh.val / 16) + r)) + 1 < 2 ^ 48 →
      (s.uop sh i).nano ≠ 0 →
      ∃ t, exec (.seqNext sh i false) s = .next t ∧
        t.thread sh i = { (s.thread sh i) with pc := (((s.thread sh i).pc + 1) % 16384), waiting := false, aside := 0, issued := ((s.thread sh i).issued + 1) } ∧
        (∀ j : Fin 8, j ≠ i → t.thread sh j = { s.thread sh j with aside := setBit (s.thread sh j).aside i false }) ∧
        (∀ (p : Fin 256) (j : Fin 8), p ≠ sh → t.thread p j = s.thread p j) ∧
        t.shu = { s.shu with threads := t.shu.threads, turn := s.shu.turn.put sh ((i + 1) % 8) } ∧
        t.rd64 (PMC_SLOT_RETIRED (16 * (sh.val / 16) + r)) = s.rd64 (PMC_SLOT_RETIRED (16 * (sh.val / 16) + r)) + 1 ∧
        SameParts [.shu] s t ∧
        SameRegs noReg [PMC_SLOT_RETIRED (16 * (sh.val / 16) + r), PMC_SLOT_RETIRED (16 * (sh.val / 16) + r) + 4] s t) ∧
  (∀ (sh : Fin 256) (i : Fin 8) (r : Nat) (s : State),
      s.mayIssue sh i = true →
      (s.thread sh i).waiting = false →
      s.roleOf sh = some r →
      s.on (PMC_TAG_CTL (sh.val / 16)) PMC_TAG_CTL_EN = false →
      fld (s.uop sh i).a 27 5 = 0 →
      fld (s.uop sh i).b 27 5 = 0 →
      fld (s.uop sh i).m 28 4 = 0 →
      fld (s.uop sh i).q 13 3 = 0 →
      (s.uop sh i).seq = 0 →
      s.rd64 (PMC_SLOT_WASTED (16 * (sh.val / 16) + r)) + 1 < 2 ^ 48 →
      (s.uop sh i).nano = 0 →
      ∃ t, exec (.seqNext sh i false) s = .next t ∧
        t.thread sh i = { (s.thread sh i) with pc := (((s.thread sh i).pc + 1) % 16384), waiting := false, aside := 0, issued := ((s.thread sh i).issued + 1) } ∧
        (∀ j : Fin 8, j ≠ i → t.thread sh j = { s.thread sh j with aside := setBit (s.thread sh j).aside i false }) ∧
        (∀ (p : Fin 256) (j : Fin 8), p ≠ sh → t.thread p j = s.thread p j) ∧
        t.shu = { s.shu with threads := t.shu.threads, turn := s.shu.turn.put sh ((i + 1) % 8) } ∧
        t.rd64 (PMC_SLOT_WASTED (16 * (sh.val / 16) + r)) = s.rd64 (PMC_SLOT_WASTED (16 * (sh.val / 16) + r)) + 1 ∧
        SameParts [.shu] s t ∧
        SameRegs noReg [PMC_SLOT_WASTED (16 * (sh.val / 16) + r), PMC_SLOT_WASTED (16 * (sh.val / 16) + r) + 4] s t) ∧
  (∀ (sh : Fin 256) (i : Fin 8) (r : Nat) (s : State),
      s.mayIssue sh i = true →
      (s.thread sh i).waiting = false →
      s.roleOf sh = some r →
      s.on (PMC_TAG_CTL (sh.val / 16)) PMC_TAG_CTL_EN = false →
      fld (s.uop sh i).a 27 5 = 0 →
      fld (s.uop sh i).b 27 5 = 0 →
      fld (s.uop sh i).m 28 4 = 0 →
      fld (s.uop sh i).q 13 3 = 0 →
      (s.uop sh i).seq = 1 →
      s.rd64 (PMC_SLOT_RETIRED (16 * (sh.val / 16) + r)) + 1 < 2 ^ 48 →
      s.condOf (sh.val / 16) r (s.thread sh i) (s.uop sh i) = true →
      (s.uop sh i).imm < 16384 →
      ∃ t, exec (.seqJmp sh i false) s = .next t ∧
        t.thread sh i = { (s.thread sh i) with pc := (s.uop sh i).imm, waiting := false, aside := 0, issued := ((s.thread sh i).issued + 1) } ∧
        (∀ j : Fin 8, j ≠ i → t.thread sh j = { s.thread sh j with aside := setBit (s.thread sh j).aside i false }) ∧
        (∀ (p : Fin 256) (j : Fin 8), p ≠ sh → t.thread p j = s.thread p j) ∧
        t.shu = { s.shu with threads := t.shu.threads, turn := s.shu.turn.put sh ((i + 1) % 8) } ∧
        t.rd64 (PMC_SLOT_RETIRED (16 * (sh.val / 16) + r)) = s.rd64 (PMC_SLOT_RETIRED (16 * (sh.val / 16) + r)) + 1 ∧
        SameParts [.shu] s t ∧
        SameRegs noReg [PMC_SLOT_RETIRED (16 * (sh.val / 16) + r), PMC_SLOT_RETIRED (16 * (sh.val / 16) + r) + 4] s t) ∧
  (∀ (sh : Fin 256) (i : Fin 8) (r : Nat) (s : State),
      s.mayIssue sh i = true →
      (s.thread sh i).waiting = false →
      s.roleOf sh = some r →
      s.on (PMC_TAG_CTL (sh.val / 16)) PMC_TAG_CTL_EN = false →
      fld (s.uop sh i).a 27 5 = 0 →
      fld (s.uop sh i).b 27 5 = 0 →
      fld (s.uop sh i).m 28 4 = 0 →
      fld (s.uop sh i).q 13 3 = 0 →
      (s.uop sh i).seq = 1 →
      s.rd64 (PMC_SLOT_RETIRED (16 * (sh.val / 16) + r)) + 1 < 2 ^ 48 →
      s.condOf (sh.val / 16) r (s.thread sh i) (s.uop sh i) = false →
      ∃ t, exec (.seqJmp sh i false) s = .next t ∧
        t.thread sh i = { (s.thread sh i) with pc := (((s.thread sh i).pc + 1) % 16384), waiting := false, aside := 0, issued := ((s.thread sh i).issued + 1) } ∧
        (∀ j : Fin 8, j ≠ i → t.thread sh j = { s.thread sh j with aside := setBit (s.thread sh j).aside i false }) ∧
        (∀ (p : Fin 256) (j : Fin 8), p ≠ sh → t.thread p j = s.thread p j) ∧
        t.shu = { s.shu with threads := t.shu.threads, turn := s.shu.turn.put sh ((i + 1) % 8) } ∧
        t.rd64 (PMC_SLOT_RETIRED (16 * (sh.val / 16) + r)) = s.rd64 (PMC_SLOT_RETIRED (16 * (sh.val / 16) + r)) + 1 ∧
        SameParts [.shu] s t ∧
        SameRegs noReg [PMC_SLOT_RETIRED (16 * (sh.val / 16) + r), PMC_SLOT_RETIRED (16 * (sh.val / 16) + r) + 4] s t) ∧
  (∀ (sh : Fin 256) (i : Fin 8) (r : Nat) (s : State),
      s.mayIssue sh i = true →
      (s.thread sh i).waiting = false →
      s.roleOf sh = some r →
      s.on (PMC_TAG_CTL (sh.val / 16)) PMC_TAG_CTL_EN = false →
      fld (s.uop sh i).a 27 5 = 0 →
      fld (s.uop sh i).b 27 5 = 0 →
      fld (s.uop sh i).m 28 4 = 0 →
      fld (s.uop sh i).q 13 3 = 0 →
      (s.uop sh i).seq = 2 →
      s.rd64 (PMC_SLOT_RETIRED (16 * (sh.val / 16) + r)) + 1 < 2 ^ 48 →
      s.condOf (sh.val / 16) r (s.thread sh i) (s.uop sh i) = true →
      (s.uop sh i).imm < 16384 →
      (s.thread sh i).stack.length < 8 →
      ∃ t, exec (.seqCall sh i false) s = .next t ∧
        t.thread sh i = { (s.thread sh i) with pc := (s.uop sh i).imm, waiting := false, aside := 0, issued := ((s.thread sh i).issued + 1), stack := (((s.thread sh i).pc + 1) % 16384) :: (s.thread sh i).stack } ∧
        (∀ j : Fin 8, j ≠ i → t.thread sh j = { s.thread sh j with aside := setBit (s.thread sh j).aside i false }) ∧
        (∀ (p : Fin 256) (j : Fin 8), p ≠ sh → t.thread p j = s.thread p j) ∧
        t.shu = { s.shu with threads := t.shu.threads, turn := s.shu.turn.put sh ((i + 1) % 8) } ∧
        t.rd64 (PMC_SLOT_RETIRED (16 * (sh.val / 16) + r)) = s.rd64 (PMC_SLOT_RETIRED (16 * (sh.val / 16) + r)) + 1 ∧
        SameParts [.shu] s t ∧
        SameRegs noReg [PMC_SLOT_RETIRED (16 * (sh.val / 16) + r), PMC_SLOT_RETIRED (16 * (sh.val / 16) + r) + 4] s t) ∧
  (∀ (sh : Fin 256) (i : Fin 8) (r : Nat) (s : State),
      s.mayIssue sh i = true →
      (s.thread sh i).waiting = false →
      s.roleOf sh = some r →
      s.on (PMC_TAG_CTL (sh.val / 16)) PMC_TAG_CTL_EN = false →
      fld (s.uop sh i).a 27 5 = 0 →
      fld (s.uop sh i).b 27 5 = 0 →
      fld (s.uop sh i).m 28 4 = 0 →
      fld (s.uop sh i).q 13 3 = 0 →
      (s.uop sh i).seq = 2 →
      s.rd64 (PMC_SLOT_RETIRED (16 * (sh.val / 16) + r)) + 1 < 2 ^ 48 →
      s.condOf (sh.val / 16) r (s.thread sh i) (s.uop sh i) = false →
      ∃ t, exec (.seqCall sh i false) s = .next t ∧
        t.thread sh i = { (s.thread sh i) with pc := (((s.thread sh i).pc + 1) % 16384), waiting := false, aside := 0, issued := ((s.thread sh i).issued + 1) } ∧
        (∀ j : Fin 8, j ≠ i → t.thread sh j = { s.thread sh j with aside := setBit (s.thread sh j).aside i false }) ∧
        (∀ (p : Fin 256) (j : Fin 8), p ≠ sh → t.thread p j = s.thread p j) ∧
        t.shu = { s.shu with threads := t.shu.threads, turn := s.shu.turn.put sh ((i + 1) % 8) } ∧
        t.rd64 (PMC_SLOT_RETIRED (16 * (sh.val / 16) + r)) = s.rd64 (PMC_SLOT_RETIRED (16 * (sh.val / 16) + r)) + 1 ∧
        SameParts [.shu] s t ∧
        SameRegs noReg [PMC_SLOT_RETIRED (16 * (sh.val / 16) + r), PMC_SLOT_RETIRED (16 * (sh.val / 16) + r) + 4] s t) ∧
  (∀ (a : Nat) (l : List Nat) (sh : Fin 256) (i : Fin 8) (r : Nat) (s : State),
      s.mayIssue sh i = true →
      (s.thread sh i).waiting = false →
      s.roleOf sh = some r →
      s.on (PMC_TAG_CTL (sh.val / 16)) PMC_TAG_CTL_EN = false →
      fld (s.uop sh i).a 27 5 = 0 →
      fld (s.uop sh i).b 27 5 = 0 →
      fld (s.uop sh i).m 28 4 = 0 →
      fld (s.uop sh i).q 13 3 = 0 →
      (s.uop sh i).seq = 3 →
      s.rd64 (PMC_SLOT_RETIRED (16 * (sh.val / 16) + r)) + 1 < 2 ^ 48 →
      s.condOf (sh.val / 16) r (s.thread sh i) (s.uop sh i) = true →
      (s.thread sh i).stack = a :: l →
      ∃ t, exec (.seqRet sh i false) s = .next t ∧
        t.thread sh i = { (s.thread sh i) with pc := a, waiting := false, aside := 0, issued := ((s.thread sh i).issued + 1), stack := l } ∧
        (∀ j : Fin 8, j ≠ i → t.thread sh j = { s.thread sh j with aside := setBit (s.thread sh j).aside i false }) ∧
        (∀ (p : Fin 256) (j : Fin 8), p ≠ sh → t.thread p j = s.thread p j) ∧
        t.shu = { s.shu with threads := t.shu.threads, turn := s.shu.turn.put sh ((i + 1) % 8) } ∧
        t.rd64 (PMC_SLOT_RETIRED (16 * (sh.val / 16) + r)) = s.rd64 (PMC_SLOT_RETIRED (16 * (sh.val / 16) + r)) + 1 ∧
        SameParts [.shu] s t ∧
        SameRegs noReg [PMC_SLOT_RETIRED (16 * (sh.val / 16) + r), PMC_SLOT_RETIRED (16 * (sh.val / 16) + r) + 4] s t) ∧
  (∀ (sh : Fin 256) (i : Fin 8) (r : Nat) (s : State),
      s.mayIssue sh i = true →
      (s.thread sh i).waiting = false →
      s.roleOf sh = some r →
      s.on (PMC_TAG_CTL (sh.val / 16)) PMC_TAG_CTL_EN = false →
      fld (s.uop sh i).a 27 5 = 0 →
      fld (s.uop sh i).b 27 5 = 0 →
      fld (s.uop sh i).m 28 4 = 0 →
      fld (s.uop sh i).q 13 3 = 0 →
      (s.uop sh i).seq = 3 →
      s.rd64 (PMC_SLOT_RETIRED (16 * (sh.val / 16) + r)) + 1 < 2 ^ 48 →
      s.condOf (sh.val / 16) r (s.thread sh i) (s.uop sh i) = false →
      ∃ t, exec (.seqRet sh i false) s = .next t ∧
        t.thread sh i = { (s.thread sh i) with pc := (((s.thread sh i).pc + 1) % 16384), waiting := false, aside := 0, issued := ((s.thread sh i).issued + 1) } ∧
        (∀ j : Fin 8, j ≠ i → t.thread sh j = { s.thread sh j with aside := setBit (s.thread sh j).aside i false }) ∧
        (∀ (p : Fin 256) (j : Fin 8), p ≠ sh → t.thread p j = s.thread p j) ∧
        t.shu = { s.shu with threads := t.shu.threads, turn := s.shu.turn.put sh ((i + 1) % 8) } ∧
        t.rd64 (PMC_SLOT_RETIRED (16 * (sh.val / 16) + r)) = s.rd64 (PMC_SLOT_RETIRED (16 * (sh.val / 16) + r)) + 1 ∧
        SameParts [.shu] s t ∧
        SameRegs noReg [PMC_SLOT_RETIRED (16 * (sh.val / 16) + r), PMC_SLOT_RETIRED (16 * (sh.val / 16) + r) + 4] s t) ∧
  (∀ (sh : Fin 256) (i : Fin 8) (r : Nat) (s : State),
      s.mayIssue sh i = true →
      (s.thread sh i).waiting = false →
      s.roleOf sh = some r →
      s.on (PMC_TAG_CTL (sh.val / 16)) PMC_TAG_CTL_EN = false →
      fld (s.uop sh i).a 27 5 = 0 →
      fld (s.uop sh i).b 27 5 = 0 →
      fld (s.uop sh i).m 28 4 = 0 →
      fld (s.uop sh i).q 13 3 = 0 →
      (s.uop sh i).seq = 4 →
      s.rd64 (PMC_SLOT_RETIRED (16 * (sh.val / 16) + r)) + 1 < 2 ^ 48 →
      (((s.thread sh i).loop + 65535) % 65536) ≠ 0 →
      (s.uop sh i).imm < 16384 →
      ∃ t, exec (.seqLoop sh i false) s = .next t ∧
        t.thread sh i = { (s.thread sh i) with pc := (s.uop sh i).imm, waiting := false, aside := 0, issued := ((s.thread sh i).issued + 1), loop := (((s.thread sh i).loop + 65535) % 65536) } ∧
        (∀ j : Fin 8, j ≠ i → t.thread sh j = { s.thread sh j with aside := setBit (s.thread sh j).aside i false }) ∧
        (∀ (p : Fin 256) (j : Fin 8), p ≠ sh → t.thread p j = s.thread p j) ∧
        t.shu = { s.shu with threads := t.shu.threads, turn := s.shu.turn.put sh ((i + 1) % 8) } ∧
        t.rd64 (PMC_SLOT_RETIRED (16 * (sh.val / 16) + r)) = s.rd64 (PMC_SLOT_RETIRED (16 * (sh.val / 16) + r)) + 1 ∧
        SameParts [.shu] s t ∧
        SameRegs noReg [PMC_SLOT_RETIRED (16 * (sh.val / 16) + r), PMC_SLOT_RETIRED (16 * (sh.val / 16) + r) + 4] s t) ∧
  (∀ (sh : Fin 256) (i : Fin 8) (r : Nat) (s : State),
      s.mayIssue sh i = true →
      (s.thread sh i).waiting = false →
      s.roleOf sh = some r →
      s.on (PMC_TAG_CTL (sh.val / 16)) PMC_TAG_CTL_EN = false →
      fld (s.uop sh i).a 27 5 = 0 →
      fld (s.uop sh i).b 27 5 = 0 →
      fld (s.uop sh i).m 28 4 = 0 →
      fld (s.uop sh i).q 13 3 = 0 →
      (s.uop sh i).seq = 4 →
      s.rd64 (PMC_SLOT_RETIRED (16 * (sh.val / 16) + r)) + 1 < 2 ^ 48 →
      (((s.thread sh i).loop + 65535) % 65536) = 0 →
      ∃ t, exec (.seqLoop sh i false) s = .next t ∧
        t.thread sh i = { (s.thread sh i) with pc := (((s.thread sh i).pc + 1) % 16384), waiting := false, aside := 0, issued := ((s.thread sh i).issued + 1), loop := 0 } ∧
        (∀ j : Fin 8, j ≠ i → t.thread sh j = { s.thread sh j with aside := setBit (s.thread sh j).aside i false }) ∧
        (∀ (p : Fin 256) (j : Fin 8), p ≠ sh → t.thread p j = s.thread p j) ∧
        t.shu = { s.shu with threads := t.shu.threads, turn := s.shu.turn.put sh ((i + 1) % 8) } ∧
        t.rd64 (PMC_SLOT_RETIRED (16 * (sh.val / 16) + r)) = s.rd64 (PMC_SLOT_RETIRED (16 * (sh.val / 16) + r)) + 1 ∧
        SameParts [.shu] s t ∧
        SameRegs noReg [PMC_SLOT_RETIRED (16 * (sh.val / 16) + r), PMC_SLOT_RETIRED (16 * (sh.val / 16) + r) + 4] s t) ∧
  (∀ (sh : Fin 256) (i : Fin 8) (r : Nat) (s : State),
      s.mayIssue sh i = true →
      (s.thread sh i).waiting = false →
      s.roleOf sh = some r →
      s.on (PMC_TAG_CTL (sh.val / 16)) PMC_TAG_CTL_EN = false →
      fld (s.uop sh i).a 27 5 = 0 →
      fld (s.uop sh i).b 27 5 = 0 →
      fld (s.uop sh i).m 28 4 = 0 →
      fld (s.uop sh i).q 13 3 = 0 →
      (s.uop sh i).seq = 5 →
      s.rd64 (PMC_SLOT_RETIRED (16 * (sh.val / 16) + r)) + 1 < 2 ^ 48 →
      ∃ t, exec (.seqLdloop sh i false) s = .next t ∧
        t.thread sh i = { (s.thread sh i) with pc := (((s.thread sh i).pc + 1) % 16384), waiting := false, aside := 0, issued := ((s.thread sh i).issued + 1), loop := (s.uop sh i).imm } ∧
        (∀ j : Fin 8, j ≠ i → t.thread sh j = { s.thread sh j with aside := setBit (s.thread sh j).aside i false }) ∧
        (∀ (p : Fin 256) (j : Fin 8), p ≠ sh → t.thread p j = s.thread p j) ∧
        t.shu = { s.shu with threads := t.shu.threads, turn := s.shu.turn.put sh ((i + 1) % 8) } ∧
        t.rd64 (PMC_SLOT_RETIRED (16 * (sh.val / 16) + r)) = s.rd64 (PMC_SLOT_RETIRED (16 * (sh.val / 16) + r)) + 1 ∧
        SameParts [.shu] s t ∧
        SameRegs noReg [PMC_SLOT_RETIRED (16 * (sh.val / 16) + r), PMC_SLOT_RETIRED (16 * (sh.val / 16) + r) + 4] s t) ∧
  (∀ (sh : Fin 256) (i : Fin 8) (r : Nat) (s : State),
      s.mayIssue sh i = true →
      (s.thread sh i).waiting = false →
      s.roleOf sh = some r →
      s.on (PMC_TAG_CTL (sh.val / 16)) PMC_TAG_CTL_EN = false →
      fld (s.uop sh i).a 27 5 = 0 →
      fld (s.uop sh i).b 27 5 = 0 →
      fld (s.uop sh i).m 28 4 = 0 →
      fld (s.uop sh i).q 13 3 = 0 →
      (s.uop sh i).seq = 6 →
      s.rd64 (PMC_SLOT_RETIRED (16 * (sh.val / 16) + r)) + 1 < 2 ^ 48 →
      s.waitOver sh i = true →
      ∃ t, exec (.seqWait sh i false) s = .next t ∧
        t.thread sh i = { (s.thread sh i) with pc := (((s.thread sh i).pc + 1) % 16384), waiting := false, aside := 0, issued := 0, latch := (if fld (s.uop sh i).c 12 4 = 11 then setBit (s.thread sh i).latch (fld (s.uop sh i).c 1 6) false else (s.thread sh i).latch) } ∧
        (∀ j : Fin 8, j ≠ i → t.thread sh j = { s.thread sh j with aside := setBit (s.thread sh j).aside i false }) ∧
        (∀ (p : Fin 256) (j : Fin 8), p ≠ sh → t.thread p j = s.thread p j) ∧
        t.shu = { s.shu with threads := t.shu.threads, turn := s.shu.turn.put sh ((i + 1) % 8) } ∧
        t.rd64 (PMC_SLOT_RETIRED (16 * (sh.val / 16) + r)) = s.rd64 (PMC_SLOT_RETIRED (16 * (sh.val / 16) + r)) + 1 ∧
        SameParts [.shu] s t ∧
        SameRegs noReg [PMC_SLOT_RETIRED (16 * (sh.val / 16) + r), PMC_SLOT_RETIRED (16 * (sh.val / 16) + r) + 4] s t) ∧
  (∀ (parity : Bool) (sh : Fin 256) (i : Fin 8) (s : State),
      s.running_ sh = true →
      (s.thread sh i).waiting = false →
      (s.thread sh i).aborted = false →
      s.stalled sh i = false →
      (s.uop sh i).seq = 6 →
      s.waitOver sh i = false →
      ∃ t, exec (.seqWait sh i parity) s = .next t ∧
        t.thread sh i = { (s.thread sh i) with waiting := true, issued := 0 } ∧
        (∀ (p : Fin 256) (j : Fin 8), (p ≠ sh ∨ j ≠ i) → t.thread p j = s.thread p j) ∧
        t.shu = { s.shu with threads := t.shu.threads } ∧
        SameParts [.shu] s t ∧
        SameRegs noReg [] s t) ∧
  (∀ (sh : Fin 256) (i : Fin 8) (r : Nat) (s : State),
      s.mayIssue sh i = true →
      (s.thread sh i).waiting = true →
      s.roleOf sh = some r →
      s.on (PMC_TAG_CTL (sh.val / 16)) PMC_TAG_CTL_EN = false →
      fld (s.uop sh i).a 27 5 = 0 →
      fld (s.uop sh i).b 27 5 = 0 →
      fld (s.uop sh i).m 28 4 = 0 →
      fld (s.uop sh i).q 13 3 = 0 →
      (s.uop sh i).seq = 6 →
      s.rd64 (PMC_SLOT_RETIRED (16 * (sh.val / 16) + r)) + 1 < 2 ^ 48 →
      s.waitOver sh i = true →
      ∃ t, exec (.waitSatisfied sh i false) s = .next t ∧
        t.thread sh i = { (s.thread sh i) with pc := (((s.thread sh i).pc + 1) % 16384), waiting := false, aside := 0, issued := 0, latch := (if fld (s.uop sh i).c 12 4 = 11 then setBit (s.thread sh i).latch (fld (s.uop sh i).c 1 6) false else (s.thread sh i).latch) } ∧
        (∀ j : Fin 8, j ≠ i → t.thread sh j = { s.thread sh j with aside := setBit (s.thread sh j).aside i false }) ∧
        (∀ (p : Fin 256) (j : Fin 8), p ≠ sh → t.thread p j = s.thread p j) ∧
        t.shu = { s.shu with threads := t.shu.threads, turn := s.shu.turn.put sh ((i + 1) % 8) } ∧
        t.rd64 (PMC_SLOT_RETIRED (16 * (sh.val / 16) + r)) = s.rd64 (PMC_SLOT_RETIRED (16 * (sh.val / 16) + r)) + 1 ∧
        SameParts [.shu] s t ∧
        SameRegs noReg [PMC_SLOT_RETIRED (16 * (sh.val / 16) + r), PMC_SLOT_RETIRED (16 * (sh.val / 16) + r) + 4] s t) ∧
  (∀ (sh : Fin 256) (i : Fin 8) (r : Nat) (s : State),
      s.mayIssue sh i = true →
      (s.thread sh i).waiting = false →
      s.roleOf sh = some r →
      s.on (PMC_TAG_CTL (sh.val / 16)) PMC_TAG_CTL_EN = false →
      fld (s.uop sh i).a 27 5 = 0 →
      fld (s.uop sh i).b 27 5 = 0 →
      fld (s.uop sh i).m 28 4 = 0 →
      fld (s.uop sh i).q 13 3 = 0 →
      (s.uop sh i).seq = 7 →
      s.rd64 (PMC_SLOT_RETIRED (16 * (sh.val / 16) + r)) + 1 < 2 ^ 48 →
      ∃ t, exec (.seqYield sh i false) s = .next t ∧
        t.thread sh i = { (s.thread sh i) with pc := (((s.thread sh i).pc + 1) % 16384), waiting := false, aside := ((List.range 8).map (fun j => if j ≠ i.val && s.threadReady sh j then 2 ^ j else 0)).sum, issued := 0 } ∧
        (∀ j : Fin 8, j ≠ i → t.thread sh j = { s.thread sh j with aside := setBit (s.thread sh j).aside i false }) ∧
        (∀ (p : Fin 256) (j : Fin 8), p ≠ sh → t.thread p j = s.thread p j) ∧
        t.shu = { s.shu with threads := t.shu.threads, turn := s.shu.turn.put sh ((i + 1) % 8) } ∧
        t.rd64 (PMC_SLOT_RETIRED (16 * (sh.val / 16) + r)) = s.rd64 (PMC_SLOT_RETIRED (16 * (sh.val / 16) + r)) + 1 ∧
        SameParts [.shu] s t ∧
        SameRegs noReg [PMC_SLOT_RETIRED (16 * (sh.val / 16) + r), PMC_SLOT_RETIRED (16 * (sh.val / 16) + r) + 4] s t) ∧
  (∀ (sh : Fin 256) (i : Fin 8) (r : Nat) (s : State),
      s.mayIssue sh i = true →
      (s.thread sh i).waiting = false →
      s.roleOf sh = some r →
      s.on (PMC_TAG_CTL (sh.val / 16)) PMC_TAG_CTL_EN = false →
      fld (s.uop sh i).a 27 5 = 0 →
      fld (s.uop sh i).b 27 5 = 0 →
      fld (s.uop sh i).m 28 4 = 0 →
      fld (s.uop sh i).q 13 3 = 0 →
      (s.uop sh i).seq = 8 →
      s.rd64 (PMC_SLOT_RETIRED (16 * (sh.val / 16) + r)) + 1 < 2 ^ 48 →
      ((s.uop sh i).imm + fld ((s.thread sh i).r (fld (s.uop sh i).c 7 5)) (fld (s.uop sh i).c 1 6) 4) < 16384 →
      ∃ t, exec (.seqDisp sh i false) s = .next t ∧
        t.thread sh i = { (s.thread sh i) with pc := ((s.uop sh i).imm + fld ((s.thread sh i).r (fld (s.uop sh i).c 7 5)) (fld (s.uop sh i).c 1 6) 4), waiting := false, aside := 0, issued := ((s.thread sh i).issued + 1) } ∧
        (∀ j : Fin 8, j ≠ i → t.thread sh j = { s.thread sh j with aside := setBit (s.thread sh j).aside i false }) ∧
        (∀ (p : Fin 256) (j : Fin 8), p ≠ sh → t.thread p j = s.thread p j) ∧
        t.shu = { s.shu with threads := t.shu.threads, turn := s.shu.turn.put sh ((i + 1) % 8) } ∧
        t.rd64 (PMC_SLOT_RETIRED (16 * (sh.val / 16) + r)) = s.rd64 (PMC_SLOT_RETIRED (16 * (sh.val / 16) + r)) + 1 ∧
        SameParts [.shu] s t ∧
        SameRegs noReg [PMC_SLOT_RETIRED (16 * (sh.val / 16) + r), PMC_SLOT_RETIRED (16 * (sh.val / 16) + r) + 4] s t) ∧
  (∀ (sh : Fin 256) (i : Fin 8) (r : Nat) (s : State),
      s.mayIssue sh i = true →
      (s.thread sh i).waiting = false →
      s.roleOf sh = some r →
      s.on (PMC_TAG_CTL (sh.val / 16)) PMC_TAG_CTL_EN = false →
      fld (s.uop sh i).a 27 5 = 0 →
      fld (s.uop sh i).b 27 5 = 0 →
      fld (s.uop sh i).m 28 4 = 0 →
      fld (s.uop sh i).q 13 3 = 0 →
      (s.uop sh i).seq = 9 →
      s.rd64 (PMC_SLOT_RETIRED (16 * (sh.val / 16) + r)) + 1 < 2 ^ 48 →
      (s.uop sh i).imm < 16384 →
      s.leaving (sh.val / 16) r = false →
      ∃ t, exec (.seqDone sh i false) s = .next t ∧
        t.thread sh i = { (s.thread sh i) with pc := (s.uop sh i).imm, waiting := false, aside := 0, issued := 0, held := none, heldUp := none, heldAgain := false } ∧
        (∀ j : Fin 8, j ≠ i → t.thread sh j = { s.thread sh j with aside := setBit (s.thread sh j).aside i false }) ∧
        (∀ (p : Fin 256) (j : Fin 8), p ≠ sh → t.thread p j = s.thread p j) ∧
        t.shu = { s.shu with threads := t.shu.threads, turn := s.shu.turn.put sh ((i + 1) % 8) } ∧
        t.rd64 (PMC_SLOT_RETIRED (16 * (sh.val / 16) + r)) = s.rd64 (PMC_SLOT_RETIRED (16 * (sh.val / 16) + r)) + 1 ∧
        SameParts [.shu] s t ∧
        SameRegs noReg [PMC_SLOT_RETIRED (16 * (sh.val / 16) + r), PMC_SLOT_RETIRED (16 * (sh.val / 16) + r) + 4] s t) ∧
  (∀ (sh : Fin 256) (i : Fin 8) (r : Nat) (s : State),
      s.mayIssue sh i = true →
      (s.thread sh i).waiting = false →
      s.roleOf sh = some r →
      s.on (PMC_TAG_CTL (sh.val / 16)) PMC_TAG_CTL_EN = false →
      fld (s.uop sh i).a 27 5 = 0 →
      fld (s.uop sh i).b 27 5 = 0 →
      fld (s.uop sh i).m 28 4 = 0 →
      fld (s.uop sh i).q 13 3 = 0 →
      (s.uop sh i).seq = 11 →
      s.rd64 (PMC_SLOT_RETIRED (16 * (sh.val / 16) + r)) + 1 < 2 ^ 48 →
      s.condOf (sh.val / 16) r (s.thread sh i) (s.uop sh i) = true →
      ∃ t, exec (.seqJmpr sh i false) s = .next t ∧
        t.thread sh i = { (s.thread sh i) with pc := ((s.thread sh i).r (fld (s.uop sh i).c 7 5) % 16384), waiting := false, aside := 0, issued := ((s.thread sh i).issued + 1) } ∧
        (∀ j : Fin 8, j ≠ i → t.thread sh j = { s.thread sh j with aside := setBit (s.thread sh j).aside i false }) ∧
        (∀ (p : Fin 256) (j : Fin 8), p ≠ sh → t.thread p j = s.thread p j) ∧
        t.shu = { s.shu with threads := t.shu.threads, turn := s.shu.turn.put sh ((i + 1) % 8) } ∧
        t.rd64 (PMC_SLOT_RETIRED (16 * (sh.val / 16) + r)) = s.rd64 (PMC_SLOT_RETIRED (16 * (sh.val / 16) + r)) + 1 ∧
        SameParts [.shu] s t ∧
        SameRegs noReg [PMC_SLOT_RETIRED (16 * (sh.val / 16) + r), PMC_SLOT_RETIRED (16 * (sh.val / 16) + r) + 4] s t) ∧
  (∀ (sh : Fin 256) (i : Fin 8) (r : Nat) (s : State),
      s.mayIssue sh i = true →
      (s.thread sh i).waiting = false →
      s.roleOf sh = some r →
      s.on (PMC_TAG_CTL (sh.val / 16)) PMC_TAG_CTL_EN = false →
      fld (s.uop sh i).a 27 5 = 0 →
      fld (s.uop sh i).b 27 5 = 0 →
      fld (s.uop sh i).m 28 4 = 0 →
      fld (s.uop sh i).q 13 3 = 0 →
      (s.uop sh i).seq = 11 →
      s.rd64 (PMC_SLOT_RETIRED (16 * (sh.val / 16) + r)) + 1 < 2 ^ 48 →
      s.condOf (sh.val / 16) r (s.thread sh i) (s.uop sh i) = false →
      ∃ t, exec (.seqJmpr sh i false) s = .next t ∧
        t.thread sh i = { (s.thread sh i) with pc := (((s.thread sh i).pc + 1) % 16384), waiting := false, aside := 0, issued := ((s.thread sh i).issued + 1) } ∧
        (∀ j : Fin 8, j ≠ i → t.thread sh j = { s.thread sh j with aside := setBit (s.thread sh j).aside i false }) ∧
        (∀ (p : Fin 256) (j : Fin 8), p ≠ sh → t.thread p j = s.thread p j) ∧
        t.shu = { s.shu with threads := t.shu.threads, turn := s.shu.turn.put sh ((i + 1) % 8) } ∧
        t.rd64 (PMC_SLOT_RETIRED (16 * (sh.val / 16) + r)) = s.rd64 (PMC_SLOT_RETIRED (16 * (sh.val / 16) + r)) + 1 ∧
        SameParts [.shu] s t ∧
        SameRegs noReg [PMC_SLOT_RETIRED (16 * (sh.val / 16) + r), PMC_SLOT_RETIRED (16 * (sh.val / 16) + r) + 4] s t) ∧
  (∀ (sh : Fin 256) (i : Fin 8) (r : Nat) (s : State),
      s.mayIssue sh i = true →
      (s.thread sh i).waiting = false →
      s.roleOf sh = some r →
      s.on (PMC_TAG_CTL (sh.val / 16)) PMC_TAG_CTL_EN = false →
      fld (s.uop sh i).a 27 5 = 0 →
      fld (s.uop sh i).b 27 5 = 0 →
      fld (s.uop sh i).m 28 4 = 0 →
      fld (s.uop sh i).q 13 3 = 0 →
      (s.uop sh i).seq = 10 →
      (s.thread sh i).held = none →
      ∃ t, exec (.seqFault sh i false) s = .next t ∧
        t.g (SHU_FAULT_IMM (sh.val / 16)) SHU_FAULT_IMM_IMM = (s.uop sh i).imm ∧
        t.rd (SHU_FAULT (sh.val / 16)) = word (7 * 2 ^ 28 + r * 2 ^ 24 + i * 2 ^ 21 + (s.thread sh i).pc % 16384) ∧
        t.rd64 (SHU_THREAD_FAULTS (sh.val / 16)) = (s.rd64 (SHU_THREAD_FAULTS (sh.val / 16)) + 1) % 2 ^ 64 ∧
        Noted s t (SHU_STATUS (sh.val / 16)) SHU_STATUS_THREAD_FAULT ∧
        t.thread sh i = { (default : Thread) with pc := (((s.shu.held.look sh).map (fun x => x.entries.getD i 0)).getD 0 % 16384) } ∧
        t.cyc.faults = s.cyc.faults ++ [⟨0x10, 96 + sh, false, false⟩] ∧
        t.shu = { s.shu with threads := t.shu.threads, turn := s.shu.turn.put sh ((i + 1) % 8) } ∧
        t.rd64 (PMC_SLOT_WASTED (16 * (sh.val / 16) + r)) = (s.rd64 (PMC_SLOT_WASTED (16 * (sh.val / 16) + r)) + 1) % 2 ^ 48 ∧
        SameParts [.irq, .cyc, .msi, .shu, .pmc] s t ∧
        SameRegs irqReg [SHU_FAULT (sh.val / 16), SHU_THREAD_FAULTS (sh.val / 16), SHU_THREAD_FAULTS (sh.val / 16) + 4, SHU_STATUS (sh.val / 16), SHU_FAULT_IMM (sh.val / 16), PMC_SLOT_WASTED (16 * (sh.val / 16) + r), PMC_SLOT_WASTED (16 * (sh.val / 16) + r) + 4, PMC_OVF (sh.val / 16), PMC_STATUS] s t) ∧
  (∀ (sh : Fin 256) (i : Fin 8) (r : Nat) (s : State),
      s.mayIssue sh i = true →
      (s.thread sh i).waiting = false →
      s.roleOf sh = some r →
      s.on (PMC_TAG_CTL (sh.val / 16)) PMC_TAG_CTL_EN = false →
      fld (s.uop sh i).a 27 5 = 0 →
      fld (s.uop sh i).b 27 5 = 0 →
      fld (s.uop sh i).m 28 4 = 0 →
      fld (s.uop sh i).q 13 3 = 0 →
      12 ≤ (s.uop sh i).seq →
      (s.thread sh i).held = none →
      ∃ t, exec (.seqFault sh i false) s = .next t ∧
        t.rd (SHU_FAULT (sh.val / 16)) = word (1 * 2 ^ 28 + r * 2 ^ 24 + i * 2 ^ 21 + (s.thread sh i).pc % 16384) ∧
        t.rd64 (SHU_THREAD_FAULTS (sh.val / 16)) = (s.rd64 (SHU_THREAD_FAULTS (sh.val / 16)) + 1) % 2 ^ 64 ∧
        Noted s t (SHU_STATUS (sh.val / 16)) SHU_STATUS_THREAD_FAULT ∧
        t.thread sh i = { (default : Thread) with pc := (((s.shu.held.look sh).map (fun x => x.entries.getD i 0)).getD 0 % 16384) } ∧
        t.cyc.faults = s.cyc.faults ++ [⟨0x10, 96 + sh, false, false⟩] ∧
        t.shu = { s.shu with threads := t.shu.threads, turn := s.shu.turn.put sh ((i + 1) % 8) } ∧
        t.rd64 (PMC_SLOT_WASTED (16 * (sh.val / 16) + r)) = (s.rd64 (PMC_SLOT_WASTED (16 * (sh.val / 16) + r)) + 1) % 2 ^ 48 ∧
        SameParts [.irq, .cyc, .msi, .shu, .pmc] s t ∧
        SameRegs irqReg [SHU_FAULT (sh.val / 16), SHU_THREAD_FAULTS (sh.val / 16), SHU_THREAD_FAULTS (sh.val / 16) + 4, SHU_STATUS (sh.val / 16), PMC_SLOT_WASTED (16 * (sh.val / 16) + r), PMC_SLOT_WASTED (16 * (sh.val / 16) + r) + 4, PMC_OVF (sh.val / 16), PMC_STATUS] s t) ∧
  (∀ (sh : Fin 256) (i : Fin 8) (r : Nat) (s : State),
      s.mayIssue sh i = true →
      (s.thread sh i).waiting = false →
      s.roleOf sh = some r →
      s.on (PMC_TAG_CTL (sh.val / 16)) PMC_TAG_CTL_EN = false →
      fld (s.uop sh i).a 27 5 = 0 →
      fld (s.uop sh i).b 27 5 = 0 →
      fld (s.uop sh i).m 28 4 = 0 →
      fld (s.uop sh i).q 13 3 = 0 →
      (s.uop sh i).seq = 1 →
      s.condOf (sh.val / 16) r (s.thread sh i) (s.uop sh i) = true →
      16384 ≤ (s.uop sh i).imm →
      (s.thread sh i).held = none →
      ∃ t, exec (.seqJmp sh i false) s = .next t ∧
        t.rd (SHU_FAULT (sh.val / 16)) = word (2 * 2 ^ 28 + r * 2 ^ 24 + i * 2 ^ 21 + (s.thread sh i).pc % 16384) ∧
        t.rd64 (SHU_THREAD_FAULTS (sh.val / 16)) = (s.rd64 (SHU_THREAD_FAULTS (sh.val / 16)) + 1) % 2 ^ 64 ∧
        Noted s t (SHU_STATUS (sh.val / 16)) SHU_STATUS_THREAD_FAULT ∧
        t.thread sh i = { (default : Thread) with pc := (((s.shu.held.look sh).map (fun x => x.entries.getD i 0)).getD 0 % 16384) } ∧
        t.cyc.faults = s.cyc.faults ++ [⟨0x10, 96 + sh, false, false⟩] ∧
        t.shu = { s.shu with threads := t.shu.threads, turn := s.shu.turn.put sh ((i + 1) % 8) } ∧
        t.rd64 (PMC_SLOT_WASTED (16 * (sh.val / 16) + r)) = (s.rd64 (PMC_SLOT_WASTED (16 * (sh.val / 16) + r)) + 1) % 2 ^ 48 ∧
        SameParts [.irq, .cyc, .msi, .shu, .pmc] s t ∧
        SameRegs irqReg [SHU_FAULT (sh.val / 16), SHU_THREAD_FAULTS (sh.val / 16), SHU_THREAD_FAULTS (sh.val / 16) + 4, SHU_STATUS (sh.val / 16), PMC_SLOT_WASTED (16 * (sh.val / 16) + r), PMC_SLOT_WASTED (16 * (sh.val / 16) + r) + 4, PMC_OVF (sh.val / 16), PMC_STATUS] s t) ∧
  (∀ (sh : Fin 256) (i : Fin 8) (r : Nat) (s : State),
      s.mayIssue sh i = true →
      (s.thread sh i).waiting = false →
      s.roleOf sh = some r →
      s.on (PMC_TAG_CTL (sh.val / 16)) PMC_TAG_CTL_EN = false →
      fld (s.uop sh i).a 27 5 = 0 →
      fld (s.uop sh i).b 27 5 = 0 →
      fld (s.uop sh i).m 28 4 = 0 →
      fld (s.uop sh i).q 13 3 = 0 →
      (s.uop sh i).seq = 2 →
      s.condOf (sh.val / 16) r (s.thread sh i) (s.uop sh i) = true →
      8 ≤ (s.thread sh i).stack.length →
      (s.thread sh i).held = none →
      ∃ t, exec (.seqCall sh i false) s = .next t ∧
        t.rd (SHU_FAULT (sh.val / 16)) = word (5 * 2 ^ 28 + r * 2 ^ 24 + i * 2 ^ 21 + (s.thread sh i).pc % 16384) ∧
        t.rd64 (SHU_THREAD_FAULTS (sh.val / 16)) = (s.rd64 (SHU_THREAD_FAULTS (sh.val / 16)) + 1) % 2 ^ 64 ∧
        Noted s t (SHU_STATUS (sh.val / 16)) SHU_STATUS_THREAD_FAULT ∧
        t.thread sh i = { (default : Thread) with pc := (((s.shu.held.look sh).map (fun x => x.entries.getD i 0)).getD 0 % 16384) } ∧
        t.cyc.faults = s.cyc.faults ++ [⟨0x10, 96 + sh, false, false⟩] ∧
        t.shu = { s.shu with threads := t.shu.threads, turn := s.shu.turn.put sh ((i + 1) % 8) } ∧
        t.rd64 (PMC_SLOT_WASTED (16 * (sh.val / 16) + r)) = (s.rd64 (PMC_SLOT_WASTED (16 * (sh.val / 16) + r)) + 1) % 2 ^ 48 ∧
        SameParts [.irq, .cyc, .msi, .shu, .pmc] s t ∧
        SameRegs irqReg [SHU_FAULT (sh.val / 16), SHU_THREAD_FAULTS (sh.val / 16), SHU_THREAD_FAULTS (sh.val / 16) + 4, SHU_STATUS (sh.val / 16), PMC_SLOT_WASTED (16 * (sh.val / 16) + r), PMC_SLOT_WASTED (16 * (sh.val / 16) + r) + 4, PMC_OVF (sh.val / 16), PMC_STATUS] s t) ∧
  (∀ (sh : Fin 256) (i : Fin 8) (r : Nat) (s : State),
      s.mayIssue sh i = true →
      (s.thread sh i).waiting = false →
      s.roleOf sh = some r →
      s.on (PMC_TAG_CTL (sh.val / 16)) PMC_TAG_CTL_EN = false →
      fld (s.uop sh i).a 27 5 = 0 →
      fld (s.uop sh i).b 27 5 = 0 →
      fld (s.uop sh i).m 28 4 = 0 →
      fld (s.uop sh i).q 13 3 = 0 →
      (s.uop sh i).seq = 3 →
      s.condOf (sh.val / 16) r (s.thread sh i) (s.uop sh i) = true →
      (s.thread sh i).stack = [] →
      (s.thread sh i).held = none →
      ∃ t, exec (.seqRet sh i false) s = .next t ∧
        t.rd (SHU_FAULT (sh.val / 16)) = word (5 * 2 ^ 28 + r * 2 ^ 24 + i * 2 ^ 21 + (s.thread sh i).pc % 16384) ∧
        t.rd64 (SHU_THREAD_FAULTS (sh.val / 16)) = (s.rd64 (SHU_THREAD_FAULTS (sh.val / 16)) + 1) % 2 ^ 64 ∧
        Noted s t (SHU_STATUS (sh.val / 16)) SHU_STATUS_THREAD_FAULT ∧
        t.thread sh i = { (default : Thread) with pc := (((s.shu.held.look sh).map (fun x => x.entries.getD i 0)).getD 0 % 16384) } ∧
        t.cyc.faults = s.cyc.faults ++ [⟨0x10, 96 + sh, false, false⟩] ∧
        t.shu = { s.shu with threads := t.shu.threads, turn := s.shu.turn.put sh ((i + 1) % 8) } ∧
        t.rd64 (PMC_SLOT_WASTED (16 * (sh.val / 16) + r)) = (s.rd64 (PMC_SLOT_WASTED (16 * (sh.val / 16) + r)) + 1) % 2 ^ 48 ∧
        SameParts [.irq, .cyc, .msi, .shu, .pmc] s t ∧
        SameRegs irqReg [SHU_FAULT (sh.val / 16), SHU_THREAD_FAULTS (sh.val / 16), SHU_THREAD_FAULTS (sh.val / 16) + 4, SHU_STATUS (sh.val / 16), PMC_SLOT_WASTED (16 * (sh.val / 16) + r), PMC_SLOT_WASTED (16 * (sh.val / 16) + r) + 4, PMC_OVF (sh.val / 16), PMC_STATUS] s t) ∧
  (∀ (sh : Fin 256) (i : Fin 8) (r : Nat) (s : State),
      s.mayIssue sh i = true →
      (s.thread sh i).waiting = false →
      s.roleOf sh = some r →
      s.on (PMC_TAG_CTL (sh.val / 16)) PMC_TAG_CTL_EN = false →
      (s.uop sh i).seq = 0 →
      (s.thread sh i).held = none →
      ∃ t, exec (.seqNext sh i true) s = .next t ∧
        t.rd (SHU_FAULT (sh.val / 16)) = word (9 * 2 ^ 28 + r * 2 ^ 24 + i * 2 ^ 21 + (s.thread sh i).pc % 16384) ∧
        t.rd64 (SHU_THREAD_FAULTS (sh.val / 16)) = (s.rd64 (SHU_THREAD_FAULTS (sh.val / 16)) + 1) % 2 ^ 64 ∧
        Noted s t (SHU_STATUS (sh.val / 16)) SHU_STATUS_THREAD_FAULT ∧
        t.thread sh i = { (default : Thread) with pc := (((s.shu.held.look sh).map (fun x => x.entries.getD i 0)).getD 0 % 16384) } ∧
        t.cyc.faults = s.cyc.faults ++ [⟨0x10, 96 + sh, false, false⟩] ∧
        t.shu = { s.shu with threads := t.shu.threads, turn := s.shu.turn.put sh ((i + 1) % 8) } ∧
        t.rd64 (PMC_SLOT_WASTED (16 * (sh.val / 16) + r)) = (s.rd64 (PMC_SLOT_WASTED (16 * (sh.val / 16) + r)) + 1) % 2 ^ 48 ∧
        SameParts [.irq, .cyc, .msi, .shu, .pmc] s t ∧
        SameRegs irqReg [SHU_FAULT (sh.val / 16), SHU_THREAD_FAULTS (sh.val / 16), SHU_THREAD_FAULTS (sh.val / 16) + 4, SHU_STATUS (sh.val / 16), PMC_SLOT_WASTED (16 * (sh.val / 16) + r), PMC_SLOT_WASTED (16 * (sh.val / 16) + r) + 4, PMC_OVF (sh.val / 16), PMC_STATUS] s t) ∧
  (∀ (sh : Fin 256) (i : Fin 8) (parity : Bool) (s : State),
      (s.mayIssue sh i = false ∨ (s.thread sh i).waiting = true ∨ (s.uop sh i).seq ≠ 0) →
      ∃ t, exec (.seqNext sh i parity) s = .next t ∧
        SameParts [] s t ∧
        SameRegs noReg [] s t) ∧
  (∀ (sh : Fin 256) (i : Fin 8) (r : Nat) (s : State),
      s.mayIssue sh i = true →
      (s.thread sh i).waiting = false →
      s.roleOf sh = some r →
      s.on (PMC_TAG_CTL (sh.val / 16)) PMC_TAG_CTL_EN = false →
      fld (s.uop sh i).a 27 5 = 0 →
      fld (s.uop sh i).b 27 5 = 0 →
      fld (s.uop sh i).m 28 4 = 0 →
      fld (s.uop sh i).q 13 3 = 0 →
      (s.uop sh i).seq = 0 →
      (s.uop sh i).nano ≠ 0 →
      s.rd64 (PMC_SLOT_RETIRED (16 * (sh.val / 16) + r)) = 2 ^ 48 - 1 →
      ∃ t, exec (.seqNext sh i false) s = .next t ∧
        (t.thread sh i).pc = (((s.thread sh i).pc + 1) % 16384) ∧
        t.rd64 (PMC_SLOT_RETIRED (16 * (sh.val / 16) + r)) = 0 ∧
        ((s.blks.look (blockOf (PMC_OVF (sh.val / 16)))).blanked = false → bit (t.rd (PMC_OVF (sh.val / 16))).toNat r = true) ∧
        SameParts [.irq, .cyc, .msi, .shu] s t ∧
        SameRegs irqReg [PMC_SLOT_RETIRED (16 * (sh.val / 16) + r), PMC_SLOT_RETIRED (16 * (sh.val / 16) + r) + 4, PMC_OVF (sh.val / 16), PMC_STATUS] s t) ∧
  (∀ (sh : Fin 256) (i : Fin 8) (r : Nat) (s : State),
      s.running_ sh = true →
      s.roleOf sh = some r →
      atLeast1 (s.g (SHU_CTL (sh.val / 16)) SHU_CTL_WATCHDOG) * 1024 ≤ (s.thread sh i).issued →
      (s.thread sh i).held = none →
      ∃ t, exec (.threadWatchdog sh i) s = .next t ∧
        t.rd (SHU_FAULT (sh.val / 16)) = word (6 * 2 ^ 28 + r * 2 ^ 24 + i * 2 ^ 21 + (s.thread sh i).pc % 16384) ∧
        t.rd64 (SHU_THREAD_FAULTS (sh.val / 16)) = (s.rd64 (SHU_THREAD_FAULTS (sh.val / 16)) + 1) % 2 ^ 64 ∧
        Noted s t (SHU_STATUS (sh.val / 16)) SHU_STATUS_THREAD_FAULT ∧
        t.thread sh i = { (default : Thread) with pc := (((s.shu.held.look sh).map (fun x => x.entries.getD i 0)).getD 0 % 16384) } ∧
        t.cyc.faults = s.cyc.faults ++ [⟨0x10, 96 + sh, false, false⟩] ∧
        t.shu = { s.shu with threads := t.shu.threads } ∧
        SameParts [.irq, .cyc, .msi, .shu, .pmc] s t ∧
        SameRegs irqReg [SHU_FAULT (sh.val / 16), SHU_THREAD_FAULTS (sh.val / 16), SHU_THREAD_FAULTS (sh.val / 16) + 4, SHU_STATUS (sh.val / 16)] s t) ∧
  (∀ (sh : Fin 256) (i : Fin 8) (s : State),
      (s.running_ sh = false ∨ (s.thread sh i).issued < atLeast1 (s.g (SHU_CTL (sh.val / 16)) SHU_CTL_WATCHDOG) * 1024) →
      ∃ t, exec (.threadWatchdog sh i) s = .next t ∧
        SameParts [] s t ∧
        SameRegs noReg [] s t) ∧
  (∀ (sh : Fin 256) (i : Fin 8) (r : Nat) (w : List Word) (c : Nat) (s : State),
      s.running_ sh = true →
      s.roleOf sh = some r →
      atLeast1 (s.g (SHU_CTL (sh.val / 16)) SHU_CTL_WATCHDOG) * 1024 ≤ (s.thread sh i).issued →
      (s.thread sh i).held = some (64 * 6 + c, w) →
      c < 64 →
      (s.thread sh i).heldAgain = false →
      ∃ t, exec (.threadWatchdog sh i) s = .next t ∧
        t.rd (SHU_FAULT (sh.val / 16)) = word (6 * 2 ^ 28 + r * 2 ^ 24 + i * 2 ^ 21 + (s.thread sh i).pc % 16384) ∧
        t.rd64 (SHU_THREAD_FAULTS (sh.val / 16)) = (s.rd64 (SHU_THREAD_FAULTS (sh.val / 16)) + 1) % 2 ^ 64 ∧
        Noted s t (SHU_STATUS (sh.val / 16)) SHU_STATUS_THREAD_FAULT ∧
        t.thread sh i = { (default : Thread) with pc := (((s.shu.held.look sh).map (fun x => x.entries.getD i 0)).getD 0 % 16384) } ∧
        t.cyc.faults = s.cyc.faults ++ [⟨0x10, 96 + sh, false, false⟩] ∧
        t.shu.work.look c = w :: s.shu.work.look c ∧
        t.shu.again.look (64 * 6 + c) = w :: s.shu.again.look (64 * 6 + c) ∧
        t.rd64 (SHU_ITEMS_REQUEUED (sh.val / 16)) = (s.rd64 (SHU_ITEMS_REQUEUED (sh.val / 16)) + 1) % 2 ^ 64 ∧
        SameParts [.irq, .cyc, .msi, .shu, .pmc] s t ∧
        SameRegs irqReg [SHU_FAULT (sh.val / 16), SHU_THREAD_FAULTS (sh.val / 16), SHU_THREAD_FAULTS (sh.val / 16) + 4, SHU_STATUS (sh.val / 16), SHU_ITEMS_REQUEUED (sh.val / 16), SHU_ITEMS_REQUEUED (sh.val / 16) + 4] s t) ∧
  (∀ (sh : Fin 256) (i : Fin 8) (s : State),
      (s.thread sh i).timer ≠ none →
      ∃ t, exec (.threadTimerExpiry sh i) s = .next t ∧
        t.thread sh i = { (s.thread sh i) with timer := none, latch := setBit (s.thread sh i).latch 2 true } ∧
        (∀ (p : Fin 256) (j : Fin 8), (p ≠ sh ∨ j ≠ i) → t.thread p j = s.thread p j) ∧
        t.shu = { s.shu with threads := t.shu.threads } ∧
        SameParts [.shu] s t ∧
        SameRegs noReg [] s t) ∧
  (∀ (sh : Fin 256) (i : Fin 8) (src : Fin 4) (res : Fin 3) (e : PendOp) (s : State),
      (s.thread sh i).pend.find? (fun x => decide (x.src = src.val)) = some e →
      (e.word = false ∨ res ≠ 2) →
      ∃ t, exec (.memOpComplete sh i ⟨src, res⟩) s = .next t ∧
        t.thread sh i = { (s.thread sh i) with pend := (s.thread sh i).pend.erase e, z := e.z.getD (s.thread sh i).z, regs := if e.reg % 32 = 0 then (s.thread sh i).regs else (s.thread sh i).regs.put (e.reg % 32) (e.val % 2 ^ 64) } ∧
        (∀ (p : Fin 256) (j : Fin 8), (p ≠ sh ∨ j ≠ i) → t.thread p j = s.thread p j) ∧
        t.rd64 (SHU_CORRECTED (sh.val / 16)) = (s.rd64 (SHU_CORRECTED (sh.val / 16)) + (if e.word = true ∧ res = 1 then 1 else 0)) % 2 ^ 64 ∧
        t.shu = { s.shu with threads := t.shu.threads } ∧
        SameParts [.shu] s t ∧
        SameRegs noReg [SHU_CORRECTED (sh.val / 16), SHU_CORRECTED (sh.val / 16) + 4] s t) ∧
  (∀ (sh : Fin 256) (i : Fin 8) (r : Nat) (src : Fin 4) (e : PendOp) (s : State),
      (s.thread sh i).pend.find? (fun x => decide (x.src = src.val)) = some e →
      e.word = true →
      s.roleOf sh = some r →
      (s.thread sh i).held = none →
      ∃ t, exec (.memOpComplete sh i ⟨src, 2⟩) s = .next t ∧
        t.rd (SHU_FAULT (sh.val / 16)) = word (8 * 2 ^ 28 + r * 2 ^ 24 + i * 2 ^ 21 + e.pc % 16384) ∧
        t.rd64 (SHU_THREAD_FAULTS (sh.val / 16)) = (s.rd64 (SHU_THREAD_FAULTS (sh.val / 16)) + 1) % 2 ^ 64 ∧
        Noted s t (SHU_STATUS (sh.val / 16)) SHU_STATUS_THREAD_FAULT ∧
        t.thread sh i = { (default : Thread) with pc := (((s.shu.held.look sh).map (fun x => x.entries.getD i 0)).getD 0 % 16384) } ∧
        t.cyc.faults = s.cyc.faults ++ [⟨0x10, 96 + sh, false, false⟩] ∧
        t.shu = { s.shu with threads := t.shu.threads } ∧
        SameParts [.irq, .cyc, .msi, .shu, .pmc] s t ∧
        SameRegs irqReg [SHU_FAULT (sh.val / 16), SHU_THREAD_FAULTS (sh.val / 16), SHU_THREAD_FAULTS (sh.val / 16) + 4, SHU_STATUS (sh.val / 16)] s t) ∧
  (∀ (sh : Fin 256) (i : Fin 8) (src : Fin 4) (res : Fin 3) (s : State),
      (s.thread sh i).pend.find? (fun x => decide (x.src = src.val)) = none →
      ∃ t, exec (.memOpComplete sh i ⟨src, res⟩) s = .next t ∧
        SameParts [] s t ∧
        SameRegs noReg [] s t) ∧
  (∀ (sh : Fin 256) (i : Fin 8) (r : Nat) (s : State),
      s.mayIssue sh i = true →
      (s.thread sh i).waiting = false →
      s.roleOf sh = some r →
      s.on (PMC_TAG_CTL (sh.val / 16)) PMC_TAG_CTL_EN = false →
      fld (s.uop sh i).a 27 5 = 1 →
      fld (s.uop sh i).a 8 2 = 3 →
      fld (s.uop sh i).a 10 2 = 0 →
      fld (s.uop sh i).a 7 1 = 1 →
      fld (s.uop sh i).a 22 5 ≠ 0 →
      fld (s.uop sh i).b 27 5 = 0 →
      fld (s.uop sh i).m 28 4 = 0 →
      fld (s.uop sh i).q 13 3 = 0 →
      (s.uop sh i).seq = 0 →
      (s.uop sh i).nano ≠ 0 →
      s.rd64 (PMC_SLOT_RETIRED (16 * (sh.val / 16) + r)) + 1 < 2 ^ 48 →
      ∃ t, exec (.seqNext sh i false) s = .next t ∧
        t.thread sh i = { (s.thread sh i) with pc := (((s.thread sh i).pc + 1) % 16384), waiting := false, aside := 0, issued := ((s.thread sh i).issued + 1), regs := (s.thread sh i).regs.put (fld (s.uop sh i).a 22 5) ((((s.thread sh i).r (fld (s.uop sh i).a 17 5) % 2 ^ 64) + ((s.thread sh i).r (fld (s.uop sh i).a 12 5) % 2 ^ 64)) % 2 ^ 64), z := decide (((((s.thread sh i).r (fld (s.uop sh i).a 17 5) % 2 ^ 64) + ((s.thread sh i).r (fld (s.uop sh i).a 12 5) % 2 ^ 64)) % 2 ^ 64) = 0), c := decide (2 ^ 64 ≤ ((s.thread sh i).r (fld (s.uop sh i).a 17 5) % 2 ^ 64) + ((s.thread sh i).r (fld (s.uop sh i).a 12 5) % 2 ^ 64)), n := bit ((((s.thread sh i).r (fld (s.uop sh i).a 17 5) % 2 ^ 64) + ((s.thread sh i).r (fld (s.uop sh i).a 12 5) % 2 ^ 64)) % 2 ^ 64) 63, v := (bit ((s.thread sh i).r (fld (s.uop sh i).a 17 5) % 2 ^ 64) 63 == bit ((s.thread sh i).r (fld (s.uop sh i).a 12 5) % 2 ^ 64) 63 && bit ((((s.thread sh i).r (fld (s.uop sh i).a 17 5) % 2 ^ 64) + ((s.thread sh i).r (fld (s.uop sh i).a 12 5) % 2 ^ 64)) % 2 ^ 64) 63 != bit ((s.thread sh i).r (fld (s.uop sh i).a 17 5) % 2 ^ 64) 63) } ∧
        (∀ j : Fin 8, j ≠ i → t.thread sh j = { s.thread sh j with aside := setBit (s.thread sh j).aside i false }) ∧
        (∀ (p : Fin 256) (j : Fin 8), p ≠ sh → t.thread p j = s.thread p j) ∧
        t.shu = { s.shu with threads := t.shu.threads, turn := s.shu.turn.put sh ((i + 1) % 8) } ∧
        t.rd64 (PMC_SLOT_RETIRED (16 * (sh.val / 16) + r)) = s.rd64 (PMC_SLOT_RETIRED (16 * (sh.val / 16) + r)) + 1 ∧
        SameParts [.shu, .fresh] s t ∧
        SameRegs noReg [PMC_SLOT_RETIRED (16 * (sh.val / 16) + r), PMC_SLOT_RETIRED (16 * (sh.val / 16) + r) + 4] s t) ∧
  (∀ (sh : Fin 256) (i : Fin 8) (r : Nat) (s : State),
      s.mayIssue sh i = true →
      (s.thread sh i).waiting = false →
      s.roleOf sh = some r →
      s.on (PMC_TAG_CTL (sh.val / 16)) PMC_TAG_CTL_EN = false →
      fld (s.uop sh i).m 28 4 = 2 →
      fld (s.uop sh i).m 26 2 = 0 →
      fld (s.uop sh i).a 27 5 = 0 →
      fld (s.uop sh i).b 27 5 = 0 →
      fld (s.uop sh i).q 13 3 = 0 →
      (s.uop sh i).seq = 0 →
      (s.uop sh i).nano ≠ 0 →
      s.rd64 (PMC_SLOT_RETIRED (16 * (sh.val / 16) + r)) + 1 < 2 ^ 48 →
      (((s.thread sh i).r (fld (s.uop sh i).m 16 5) + fld (s.uop sh i).m 0 14) % 2 ^ 64) % (2 ^ fld (s.uop sh i).m 14 2) = 0 →
      (((s.thread sh i).r (fld (s.uop sh i).m 16 5) + fld (s.uop sh i).m 0 14) % 2 ^ 64) + (2 ^ fld (s.uop sh i).m 14 2) ≤ 65536 →
      ∃ t, exec (.seqNext sh i false) s = .next t ∧
        t.thread sh i = { (s.thread sh i) with pc := (((s.thread sh i).pc + 1) % 16384), waiting := false, aside := 0, issued := ((s.thread sh i).issued + 1) } ∧
        (∀ j : Fin 8, j ≠ i → t.thread sh j = { s.thread sh j with aside := setBit (s.thread sh j).aside i false }) ∧
        (∀ (p : Fin 256) (j : Fin 8), p ≠ sh → t.thread p j = s.thread p j) ∧
        t.shu = { s.shu with threads := t.shu.threads, loc := t.shu.loc, turn := s.shu.turn.put sh ((i + 1) % 8) } ∧
        (∀ j : Fin 8, j.val < (2 ^ fld (s.uop sh i).m 14 2) → t.shu.loc.look (65536 * sh + (((s.thread sh i).r (fld (s.uop sh i).m 16 5) + fld (s.uop sh i).m 0 14) % 2 ^ 64) + j) = BitVec.ofNat 8 (fld ((s.thread sh i).r (fld (s.uop sh i).m 21 5)) (8 * j) 8)) ∧
        (∀ a : Nat, (a < 65536 * sh + (((s.thread sh i).r (fld (s.uop sh i).m 16 5) + fld (s.uop sh i).m 0 14) % 2 ^ 64) ∨ 65536 * sh + (((s.thread sh i).r (fld (s.uop sh i).m 16 5) + fld (s.uop sh i).m 0 14) % 2 ^ 64) + (2 ^ fld (s.uop sh i).m 14 2) ≤ a) → t.shu.loc.look a = s.shu.loc.look a) ∧
        t.rd64 (PMC_SLOT_RETIRED (16 * (sh.val / 16) + r)) = s.rd64 (PMC_SLOT_RETIRED (16 * (sh.val / 16) + r)) + 1 ∧
        SameParts [.shu] s t ∧
        SameRegs noReg [PMC_SLOT_RETIRED (16 * (sh.val / 16) + r), PMC_SLOT_RETIRED (16 * (sh.val / 16) + r) + 4] s t) ∧
  (∀ (sh : Fin 256) (i : Fin 8) (r : Nat) (s : State),
      s.mayIssue sh i = true →
      (s.thread sh i).waiting = false →
      s.roleOf sh = some r →
      s.on (PMC_TAG_CTL (sh.val / 16)) PMC_TAG_CTL_EN = false →
      fld (s.uop sh i).m 28 4 = 1 →
      fld (s.uop sh i).m 26 2 = 0 →
      fld (s.uop sh i).a 27 5 = 0 →
      fld (s.uop sh i).b 27 5 = 0 →
      fld (s.uop sh i).q 13 3 = 0 →
      (s.uop sh i).seq = 0 →
      (s.uop sh i).nano ≠ 0 →
      s.rd64 (PMC_SLOT_RETIRED (16 * (sh.val / 16) + r)) + 1 < 2 ^ 48 →
      (((s.thread sh i).r (fld (s.uop sh i).m 16 5) + fld (s.uop sh i).m 0 14) % 2 ^ 64) % (2 ^ fld (s.uop sh i).m 14 2) = 0 →
      (((s.thread sh i).r (fld (s.uop sh i).m 16 5) + fld (s.uop sh i).m 0 14) % 2 ^ 64) + (2 ^ fld (s.uop sh i).m 14 2) ≤ 65536 →
      ∃ t, exec (.seqNext sh i false) s = .next t ∧
        t.thread sh i = { (s.thread sh i) with pc := (((s.thread sh i).pc + 1) % 16384), waiting := false, aside := 0, issued := ((s.thread sh i).issued + 1), pend := (s.thread sh i).pend ++ [⟨fld (s.uop sh i).m 21 5, s.memRd sh 0 (((s.thread sh i).r (fld (s.uop sh i).m 16 5) + fld (s.uop sh i).m 0 14) % 2 ^ 64) (2 ^ fld (s.uop sh i).m 14 2), none, true, (s.thread sh i).pc, true, 0⟩] } ∧
        (∀ j : Fin 8, j ≠ i → t.thread sh j = { s.thread sh j with aside := setBit (s.thread sh j).aside i false }) ∧
        (∀ (p : Fin 256) (j : Fin 8), p ≠ sh → t.thread p j = s.thread p j) ∧
        t.shu = { s.shu with threads := t.shu.threads, turn := s.shu.turn.put sh ((i + 1) % 8) } ∧
        t.rd64 (PMC_SLOT_RETIRED (16 * (sh.val / 16) + r)) = s.rd64 (PMC_SLOT_RETIRED (16 * (sh.val / 16) + r)) + 1 ∧
        SameParts [.shu] s t ∧
        SameRegs noReg [PMC_SLOT_RETIRED (16 * (sh.val / 16) + r), PMC_SLOT_RETIRED (16 * (sh.val / 16) + r) + 4] s t)

/-- A write of SHU_SWAP with GO, while no swap runs, a spare is there and the role is defined, starts a swap of that role; else the
result is 5, 1 or 2 with SWAP_FAIL and nothing starts. A load that matches puts the role's image, zero beyond its end, into the
spare's store; one that does not counts in SHU_LOAD_FAIL with result 3, ends the swap and is reported (class 0x11); stated where
no swap waits. At the frame boundary the old holder takes no more work; 8 us later its threads that do not rest under WAIT or DONE
are aborted, their items given back. Once all are at rest the role and the spare change shuttles, local memory moves along unless
the old holder retires, every thread starts at its entry address, SHU_SWAPS counts and the result is 0; a retired holder leaves
the cluster without a spare. The end of a refresh step also counts in SHU_REFRESH_STEPS, and in SHU_UPSETS_FOUND where the vacated
store no longer matches. A refresh step that falls due starts a swap of the next defined role, or waits for the one that runs, or
is counted as skipped. A role with a request pending finds event 3. -/
def Obligations.SwapsMoveARoleToTheSpare : Prop :=
  (∀ (ag : Agent) (k : Fin 16) (v : Word) (s : State),
      s.reaches ag (SHU_SWAP k) = true →
      v.getLsbD 31 = true →
      (s.shu.swaps.look k) = none →
      s.on (SHU_STATUS k) SHU_STATUS_SPARE_VALID = true →
      (s.on (SHU_MAP k (bget v SHU_SWAP_ROLE.lo SHU_SWAP_ROLE.w)) SHU_MAP_VALID = true ∧ s.g (SHU_MAP k (bget v SHU_SWAP_ROLE.lo SHU_SWAP_ROLE.w)) SHU_MAP_KIND ≠ 6) →
      ∃ t, exec (.swapGo ag k v) s = .next t ∧
        t.on (SHU_STATUS k) SHU_STATUS_SWAP_BUSY = true ∧
        t.on (SHU_SWAP k) SHU_SWAP_GO = true ∧
        t.shu = { s.shu with swaps := s.shu.swaps.put k (some ⟨(bget v SHU_SWAP_ROLE.lo SHU_SWAP_ROLE.w), (decide (bget v SHU_SWAP_RETIRE.lo SHU_SWAP_RETIRE.w ≠ 0)), false, b2n (match s.roleImage k (bget v SHU_SWAP_ROLE.lo SHU_SWAP_ROLE.w) with | some img => decide (s.shu.held.look (s.sparePhys k) = some img) | none => false)⟩) } ∧
        SameParts [.shu] s t ∧
        SameRegs noReg [SHU_SWAP k, SHU_STATUS k] s t) ∧
  (∀ (ag : Agent) (k : Fin 16) (v : Word) (s : State),
      s.reaches ag (SHU_SWAP k) = true →
      v.getLsbD 31 = true →
      (s.shu.swaps.look k) ≠ none →
      ∃ t, exec (.swapGo ag k v) s = .next t ∧
        t.g (SHU_STATUS k) SHU_STATUS_SWAP_RESULT = 5 ∧
        Noted s t (SHU_STATUS k) SHU_STATUS_SWAP_FAIL ∧
        t.shu.swaps = s.shu.swaps ∧
        SameParts [.irq, .cyc, .msi, .shu] s t ∧
        SameRegs irqReg [SHU_SWAP k, SHU_STATUS k] s t) ∧
  (∀ (ag : Agent) (k : Fin 16) (v : Word) (s : State),
      s.reaches ag (SHU_SWAP k) = true →
      v.getLsbD 31 = true →
      (s.shu.swaps.look k) = none →
      s.on (SHU_STATUS k) SHU_STATUS_SPARE_VALID = false →
      ∃ t, exec (.swapGo ag k v) s = .next t ∧
        t.g (SHU_STATUS k) SHU_STATUS_SWAP_RESULT = 1 ∧
        Noted s t (SHU_STATUS k) SHU_STATUS_SWAP_FAIL ∧
        t.shu.swaps = s.shu.swaps ∧
        SameParts [.irq, .cyc, .msi, .shu] s t ∧
        SameRegs irqReg [SHU_SWAP k, SHU_STATUS k] s t) ∧
  (∀ (ag : Agent) (k : Fin 16) (v : Word) (s : State),
      s.reaches ag (SHU_SWAP k) = true →
      v.getLsbD 31 = true →
      (s.shu.swaps.look k) = none →
      s.on (SHU_STATUS k) SHU_STATUS_SPARE_VALID = true →
      ¬ (s.on (SHU_MAP k (bget v SHU_SWAP_ROLE.lo SHU_SWAP_ROLE.w)) SHU_MAP_VALID = true ∧ s.g (SHU_MAP k (bget v SHU_SWAP_ROLE.lo SHU_SWAP_ROLE.w)) SHU_MAP_KIND ≠ 6) →
      ∃ t, exec (.swapGo ag k v) s = .next t ∧
        t.g (SHU_STATUS k) SHU_STATUS_SWAP_RESULT = 2 ∧
        Noted s t (SHU_STATUS k) SHU_STATUS_SWAP_FAIL ∧
        t.shu.swaps = s.shu.swaps ∧
        SameParts [.irq, .cyc, .msi, .shu] s t ∧
        SameRegs irqReg [SHU_SWAP k, SHU_STATUS k] s t) ∧
  (∀ (k : Fin 16) (w : Swap) (img : Image) (s : State),
      (s.shu.swaps.look k) = some w →
      w.phase = 0 →
      s.roleImage k w.role = some img →
      img.words.length ≤ 16384 →
      ∃ t, exec (.spareLoaded k true) s = .next t ∧
        t.shu.swaps.look k = some { w with phase := 1 } ∧
        (∀ j : Fin 16, j ≠ k → t.shu.swaps.look j = s.shu.swaps.look j) ∧
        t.shu.held.look (s.sparePhys k) = some img ∧
        (∀ j : Fin 16384, t.shu.ustore.look (16384 * (s.sparePhys k) + j) = img.words.getD j 0) ∧
        t.shu = { s.shu with swaps := t.shu.swaps, held := t.shu.held, stopped := t.shu.stopped, ustore := t.shu.ustore } ∧
        SameParts [.irq, .cyc, .msi, .pch, .shd, .ledger, .shu, .blt, .tmg, .pmc] s t ∧
        SameRegs noReg [] s t) ∧
  (∀ (k : Fin 16) (w : Swap) (img : Image) (s : State),
      (s.shu.swaps.look k) = some w →
      w.phase = 0 →
      s.roleImage k w.role = some img →
      (s.shu.waitingSwaps.look k) = [] →
      ∃ t, exec (.spareLoaded k false) s = .next t ∧
        t.shu.swaps.look k = none ∧
        (∀ j : Fin 16, j ≠ k → t.shu.swaps.look j = s.shu.swaps.look j) ∧
        t.g (SHU_STATUS k) SHU_STATUS_SWAP_RESULT = 3 ∧
        t.on (SHU_STATUS k) SHU_STATUS_SWAP_BUSY = false ∧
        Noted s t (SHU_STATUS k) SHU_STATUS_SWAP_FAIL ∧
        t.shu.stopped.look (s.sparePhys k) = true ∧
        t.rd64 (SHU_LOAD_FAIL ((s.sparePhys k) / 16)) = (s.rd64 (SHU_LOAD_FAIL ((s.sparePhys k) / 16)) + 1) % 2 ^ 64 ∧
        t.shu.held.look (s.sparePhys k) = none ∧
        t.cyc.faults = s.cyc.faults ++ [⟨0x11, 96 + (s.sparePhys k), false, false⟩] ∧
        SameParts [.irq, .cyc, .msi, .shu] s t ∧
        SameRegs irqReg [SHU_SWAP k, SHU_STATUS k, SHU_LOAD_FAIL ((s.sparePhys k) / 16), SHU_LOAD_FAIL ((s.sparePhys k) / 16) + 4] s t) ∧
  (∀ (k : Fin 16) (ok : Bool) (s : State),
      (s.shu.swaps.look k).all (fun w => decide (w.phase ≠ 0)) = true →
      ∃ t, exec (.spareLoaded k ok) s = .next t ∧
        SameParts [] s t ∧
        SameRegs noReg [] s t) ∧
  (∀ (k : Fin 16) (s : State),
      (s.shu.swaps.look k).all (fun w => decide (w.phase ≠ 1)) = true →
      ∃ t, exec (.swapFrameBoundary k) s = .next t ∧
        SameParts [] s t ∧
        SameRegs noReg [] s t) ∧
  (∀ (k : Fin 16) (w : Swap) (s : State),
      (s.shu.swaps.look k) = some w →
      w.phase = 1 →
      ∃ t, exec (.swapFrameBoundary k) s = .next t ∧
        t.shu = { s.shu with swaps := s.shu.swaps.put k (some { w with phase := 2 }) } ∧
        SameParts [.shu] s t ∧
        SameRegs noReg [] s t) ∧
  (∀ (k : Fin 16) (w : Swap) (s : State),
      (s.shu.swaps.look k) = some w →
      w.phase = 2 →
      ∃ t, exec (.swapQuiesceTimeout k) s = .next t ∧
        (∀ i : Fin 8, (s.quiet (s.holder k w.role) i = true → t.thread (s.holder k w.role) i = s.thread (s.holder k w.role) i) ∧ (s.quiet (s.holder k w.role) i = false → t.thread (s.holder k w.role) i = { s.thread (s.holder k w.role) i with aborted := true, pend := [], held := none, heldUp := if (s.thread (s.holder k w.role) i).held = none then (s.thread (s.holder k w.role) i).heldUp else none, heldAgain := if (s.thread (s.holder k w.role) i).held = none then (s.thread (s.holder k w.role) i).heldAgain else false })) ∧
        t.shu.swaps = s.shu.swaps ∧
        SameParts [.pch, .shd, .shu, .pmc] s t) ∧
  (∀ (k : Fin 16) (s : State),
      (s.shu.swaps.look k).all (fun w => decide (w.phase ≠ 2)) = true →
      ∃ t, exec (.swapQuiesceTimeout k) s = .next t ∧
        SameParts [] s t ∧
        SameRegs noReg [] s t) ∧
  (∀ (a : Bool) (b : Bool) (k : Fin 16) (w : Swap) (s : State),
      ((s.shu.swaps.look k) = none ∨ ((s.shu.swaps.look k) = some w ∧ (w.phase ≠ 2 ∨ ¬ (∀ i : Fin 8, s.quiet (s.holder k w.role) i = true)))) →
      ∃ t, exec (.swapComplete k a b) s = .next t ∧
        SameParts [] s t ∧
        SameRegs noReg [] s t) ∧
  (∀ (a : Bool) (b : Bool) (k : Fin 16) (w : Swap) (sp : Nat) (s : State),
      (s.shu.swaps.look k) = some w →
      w.phase = 2 →
      (∀ i : Fin 8, s.quiet (s.holder k w.role) i = true) →
      s.spareRole k = some sp →
      w.role < 16 →
      w.role ≠ sp →
      (s.shu.waitingSwaps.look k) = [] →
      w.refresh = false →
      ∃ t, exec (.swapComplete k a b) s = .next t ∧
        t.shu.swaps.look k = none ∧
        (∀ j : Fin 16, j ≠ k → t.shu.swaps.look j = s.shu.swaps.look j) ∧
        t.g (SHU_MAP k w.role) SHU_MAP_PHYS = s.g (SHU_MAP k sp) SHU_MAP_PHYS ∧
        t.g (SHU_MAP k sp) SHU_MAP_PHYS = s.g (SHU_MAP k w.role) SHU_MAP_PHYS ∧
        t.g (SHU_STATUS k) SHU_STATUS_SWAP_RESULT = 0 ∧
        t.on (SHU_STATUS k) SHU_STATUS_SWAP_BUSY = false ∧
        Noted s t (SHU_STATUS k) SHU_STATUS_SWAP_DONE ∧
        t.rd64 (SHU_SWAPS k) = (s.rd64 (SHU_SWAPS k) + 1) % 2 ^ 64 ∧
        (∀ i : Fin 8, t.thread (s.sparePhys k) i = { (default : Thread) with pc := ((s.shu.held.look (s.sparePhys k)).map (fun x => x.entries.getD i 0)).getD 0 % 16384, latch := (t.thread (s.sparePhys k) i).latch }) ∧
        ((List.range 3).any (fun y => (s.svcOf k y).any (fun q => decide (q.role = w.role))) = true → ∀ i : Fin 8, bit (t.thread (s.sparePhys k) i).latch 3 = true) ∧
        (∀ x : Fin 65536, t.shu.loc.look (65536 * (s.sparePhys k) + x) = (if w.retire then 0 else s.shu.loc.look (65536 * (s.holder k w.role) + x))) ∧
        (w.retire = true → t.on (SHU_MAP k sp) SHU_MAP_RETIRED = true ∧ t.on (SHU_STATUS k) SHU_STATUS_SPARE_VALID = false) ∧
        SameParts [.irq, .cyc, .msi, .pch, .shd, .ledger, .shu, .blt, .tmg, .pmc] s t) ∧
  (∀ (a : Bool) (b : Bool) (k : Fin 16) (w : Swap) (sp : Nat) (s : State),
      (s.shu.swaps.look k) = some w →
      w.phase = 2 →
      (∀ i : Fin 8, s.quiet (s.holder k w.role) i = true) →
      s.spareRole k = some sp →
      w.role < 16 →
      w.role ≠ sp →
      (s.shu.waitingSwaps.look k) = [] →
      w.refresh = true →
      w.retire = false →
      b = true →
      ∃ t, exec (.swapComplete k a b) s = .next t ∧
        t.shu.swaps.look k = none ∧
        (∀ j : Fin 16, j ≠ k → t.shu.swaps.look j = s.shu.swaps.look j) ∧
        t.g (SHU_MAP k w.role) SHU_MAP_PHYS = s.g (SHU_MAP k sp) SHU_MAP_PHYS ∧
        t.g (SHU_MAP k sp) SHU_MAP_PHYS = s.g (SHU_MAP k w.role) SHU_MAP_PHYS ∧
        t.g (SHU_STATUS k) SHU_STATUS_SWAP_RESULT = 0 ∧
        t.on (SHU_STATUS k) SHU_STATUS_SWAP_BUSY = false ∧
        Noted s t (SHU_STATUS k) SHU_STATUS_SWAP_DONE ∧
        t.rd64 (SHU_SWAPS k) = (s.rd64 (SHU_SWAPS k) + 1) % 2 ^ 64 ∧
        t.rd64 (SHU_REFRESH_STEPS k) = (s.rd64 (SHU_REFRESH_STEPS k) + 1) % 2 ^ 64 ∧
        t.rd64 (SHU_UPSETS_FOUND k) = (s.rd64 (SHU_UPSETS_FOUND k) + (if a then 0 else 1)) % 2 ^ 64 ∧
        (a = false → Noted s t (SHU_STATUS k) SHU_STATUS_UPSET_FOUND) ∧
        SameParts [.irq, .cyc, .msi, .pch, .shd, .ledger, .shu, .blt, .tmg, .pmc] s t) ∧
  (∀ (k : Fin 16) (r : Nat) (s : State),
      s.refreshDue k = true →
      ¬ (s.on (SHU_STATUS k) SHU_STATUS_SPARE_VALID = false ∨ s.gatedK k = true ∨ s.reweaving k = true ∨ s.ddrTrained = false) →
      s.roleFrom k (s.shu.refreshNext.look k) = some r →
      (s.shu.swaps.look k) = none →
      ∃ t, exec (.refreshStep k) s = .next t ∧
        t.shu.refreshNext.look k = (r + 1) % 16 ∧
        t.shu.refreshAt.look k = s.now ∧
        (∃ ph : Fin 2, t.shu.swaps.look k = some ⟨r, false, true, ph⟩) ∧
        (∀ j : Fin 16, j ≠ k → t.shu.swaps.look j = s.shu.swaps.look j) ∧
        t.on (SHU_STATUS k) SHU_STATUS_SWAP_BUSY = true ∧
        SameParts [.shu] s t ∧
        SameRegs noReg [SHU_SWAP k, SHU_STATUS k] s t) ∧
  (∀ (k : Fin 16) (r : Nat) (s : State),
      s.refreshDue k = true →
      ¬ (s.on (SHU_STATUS k) SHU_STATUS_SPARE_VALID = false ∨ s.gatedK k = true ∨ s.reweaving k = true ∨ s.ddrTrained = false) →
      s.roleFrom k (s.shu.refreshNext.look k) = some r →
      (s.shu.swaps.look k) ≠ none →
      ∃ t, exec (.refreshStep k) s = .next t ∧
        t.shu = { s.shu with refreshNext := t.shu.refreshNext, refreshAt := t.shu.refreshAt, waitingSwaps := t.shu.waitingSwaps } ∧
        t.shu.refreshNext.look k = (r + 1) % 16 ∧
        t.shu.refreshAt.look k = s.now ∧
        t.shu.waitingSwaps.look k = (s.shu.waitingSwaps.look k) ++ [⟨r, false, true, 0⟩] ∧
        SameParts [.shu] s t ∧
        SameRegs noReg [] s t) ∧
  (∀ (k : Fin 16) (s : State),
      s.refreshDue k = true →
      ((s.on (SHU_STATUS k) SHU_STATUS_SPARE_VALID = false ∨ s.gatedK k = true ∨ s.reweaving k = true ∨ s.ddrTrained = false) ∨ s.roleFrom k (s.shu.refreshNext.look k) = none) →
      ∃ t, exec (.refreshStep k) s = .next t ∧
        t.rd64 (SHU_REFRESH_SKIPPED k) = (s.rd64 (SHU_REFRESH_SKIPPED k) + 1) % 2 ^ 64 ∧
        t.shu = { s.shu with refreshAt := t.shu.refreshAt } ∧
        t.shu.refreshAt.look k = s.now ∧
        SameParts [.shu] s t ∧
        SameRegs noReg [SHU_REFRESH_SKIPPED k, SHU_REFRESH_SKIPPED k + 4] s t) ∧
  (∀ (k : Fin 16) (s : State),
      s.refreshDue k = false →
      ∃ t, exec (.refreshStep k) s = .next t ∧
        SameParts [] s t ∧
        SameRegs noReg [] s t)

/-- A write of DRF_CTL with GO and a SRC the spec lists starts a load: FETCHING; while one runs it is refused with 0x11, with a
reserved SRC with 0x01, and starts nothing. A dword written to the stream by the port that SRC names is appended and counted. A
fetch whose checks pass goes to VERIFYING; else the load ends with the code of the first failing check, LOAD_FAIL noted, and what
ran runs on; at boot slot A turns to slot B with BOOT_FALLBACK. Verification that fails ends the same way. A full draft whose
stores all match becomes the draft in force: RUNNING, its build, SVN and section table identity readable, every region register 0.
A region draft starts quiescing its cluster: no channel of it keeps a queued indication where no thread holds one, and no swap of
it goes on. A patch, checked, is applied and noted. Once every channel of a quiesced region is OFF or RETIRED the region draft is
applied: its images are those of the cluster, its build stands in DRF_REGION, and the loader is idle; where a store does not
match, what ran is restored with ROLLED_BACK, or the loader is FAILED, both with code 0x13; a full draft then leaves no draft in
force. Once DDR-5 is trained the images are in the image cache. -/
def Obligations.DraftsAreFetchedVerifiedAndApplied : Prop :=
  (∀ (ag : Agent) (v : Word) (s : State),
      s.reaches ag DRF_CTL = true →
      v.getLsbD 31 = true →
      s.drf.busy = false →
      (bget v 28 3) < 6 →
      ∃ t, exec (.draftLoadGo ag v) s = .next t ∧
        t.g DRF_STATUS DRF_STATUS_STATE = 1 ∧
        t.on DRF_CTL DRF_CTL_GO = true ∧
        t.g DRF_CTL DRF_CTL_SRC = (bget v 28 3) ∧
        t.drf.busy = true ∧
        t.drf.boot = false ∧
        t.drf.src = (bget v 28 3) ∧
        t.drf.before = s.g DRF_STATUS DRF_STATUS_STATE ∧
        t.drf.running = s.drf.running ∧
        SameParts [.drf] s t ∧
        SameRegs noReg [DRF_CTL, DRF_STATUS] s t) ∧
  (∀ (ag : Agent) (v : Word) (s : State),
      s.reaches ag DRF_CTL = true →
      v.getLsbD 31 = true →
      s.drf.busy = true →
      ∃ t, exec (.draftLoadGo ag v) s = .next t ∧
        t.g DRF_STATUS DRF_STATUS_ERR = 0x11 ∧
        Noted s t DRF_STATUS DRF_STATUS_LOAD_FAIL ∧
        SameParts [.irq, .cyc, .msi, .shu] s t ∧
        SameRegs irqReg [DRF_CTL, DRF_STATUS] s t) ∧
  (∀ (ag : Agent) (v : Word) (s : State),
      s.reaches ag DRF_CTL = true →
      v.getLsbD 31 = true →
      s.drf.busy = false →
      6 ≤ (bget v 28 3) →
      ∃ t, exec (.draftLoadGo ag v) s = .next t ∧
        t.g DRF_STATUS DRF_STATUS_ERR = 0x01 ∧
        Noted s t DRF_STATUS DRF_STATUS_LOAD_FAIL ∧
        SameParts [.irq, .cyc, .msi, .shu] s t ∧
        SameRegs irqReg [DRF_CTL, DRF_STATUS] s t) ∧
  (∀ (ag : Agent) (w : Fin 16384) (v : Word) (s : State),
      s.reaches ag (DRF_STREAM w) = true →
      agCode ag ≤ 1 →
      s.g DRF_CTL DRF_CTL_SRC = 3 + agCode ag →
      ∃ t, exec (.draftStreamWrite ag w v) s = .next t ∧
        t.drf = { s.drf with stream := s.drf.stream ++ [v] } ∧
        t.rd DRF_STREAM_LEN = word (s.drf.stream.length + 1) ∧
        SameParts [.drf] s t ∧
        SameRegs noReg [DRF_STREAM_LEN] s t) ∧
  (∀ (ag : Agent) (w : Fin 16384) (v : Word) (s : State),
      s.reaches ag (DRF_STREAM w) = true →
      ¬ (agCode ag ≤ 1 ∧ s.g DRF_CTL DRF_CTL_SRC = 3 + agCode ag) →
      ∃ t, exec (.draftStreamWrite ag w v) s = .next t ∧
        Noted s t HPI_ERR HPI_ERR_UNMAPPED ∧
        SameParts [.irq, .cyc, .msi, .shu] s t ∧
        SameRegs irqReg [HPI_ERR, HPI_ERR_ADDR, HPI_ERR_ADDR + 4] s t) ∧
  (∀ (flash : List Word) (bad dig : Bool) (s : State),
      s.drf.busy = true →
      s.g DRF_STATUS DRF_STATUS_STATE = 1 →
      (s.fetchErr (s.drfSource flash).1 (bad || (s.drfSource flash).2) dig) = 0 →
      ∃ t, exec (.draftFetched flash bad dig) s = .next t ∧
        t.g DRF_STATUS DRF_STATUS_STATE = 2 ∧
        t.drf = { s.drf with taken := (s.drfSource flash).1 } ∧
        SameParts [.drf] s t ∧
        SameRegs noReg [DRF_STATUS] s t) ∧
  (∀ (flash : List Word) (bad dig : Bool) (s : State),
      s.drf.busy = true →
      s.g DRF_STATUS DRF_STATUS_STATE = 1 →
      (s.fetchErr (s.drfSource flash).1 (bad || (s.drfSource flash).2) dig) ≠ 0 →
      s.drf.boot = false →
      ∃ t, exec (.draftFetched flash bad dig) s = .next t ∧
        t.g DRF_STATUS DRF_STATUS_STATE = s.drf.before ∧
        t.g DRF_STATUS DRF_STATUS_ERR = (s.fetchErr (s.drfSource flash).1 (bad || (s.drfSource flash).2) dig) ∧
        Noted s t DRF_STATUS DRF_STATUS_LOAD_FAIL ∧
        t.drf.busy = false ∧
        t.on DRF_CTL DRF_CTL_GO = false ∧
        t.drf.running = s.drf.running ∧
        SameParts [.irq, .cyc, .msi, .shu, .drf] s t ∧
        SameRegs irqReg [DRF_CTL, DRF_STATUS] s t) ∧
  (∀ (flash : List Word) (bad dig : Bool) (s : State),
      s.drf.busy = true →
      s.g DRF_STATUS DRF_STATUS_STATE = 1 →
      (s.fetchErr (s.drfSource flash).1 (bad || (s.drfSource flash).2) dig) ≠ 0 →
      s.drf.boot = true →
      s.drf.src = 0 →
      ∃ t, exec (.draftFetched flash bad dig) s = .next t ∧
        t.g DRF_STATUS DRF_STATUS_STATE = 1 ∧
        t.g DRF_STATUS DRF_STATUS_ERR = (s.fetchErr (s.drfSource flash).1 (bad || (s.drfSource flash).2) dig) ∧
        Noted s t DRF_STATUS DRF_STATUS_LOAD_FAIL ∧
        Noted s t DRF_STATUS DRF_STATUS_BOOT_FALLBACK ∧
        t.drf.busy = true ∧
        t.drf.boot = true ∧
        t.drf.src = 1 ∧
        SameParts [.irq, .cyc, .msi, .shu, .drf] s t ∧
        SameRegs irqReg [DRF_CTL, DRF_STATUS] s t) ∧
  (∀ (flash : List Word) (bad dig : Bool) (s : State),
      s.drf.busy = true →
      s.g DRF_STATUS DRF_STATUS_STATE = 1 →
      (s.fetchErr (s.drfSource flash).1 (bad || (s.drfSource flash).2) dig) ≠ 0 →
      s.drf.boot = true →
      s.drf.src ≠ 0 →
      ∃ t, exec (.draftFetched flash bad dig) s = .next t ∧
        t.g DRF_STATUS DRF_STATUS_STATE = 6 ∧
        t.g DRF_STATUS DRF_STATUS_ERR = (s.fetchErr (s.drfSource flash).1 (bad || (s.drfSource flash).2) dig) ∧
        Noted s t DRF_STATUS DRF_STATUS_LOAD_FAIL ∧
        t.drf.busy = false ∧
        t.on DRF_CTL DRF_CTL_GO = false ∧
        t.drf.running = s.drf.running ∧
        SameParts [.irq, .cyc, .msi, .shu, .drf] s t ∧
        SameRegs irqReg [DRF_CTL, DRF_STATUS] s t) ∧
  (∀ (flash : List Word) (bad dig : Bool) (s : State),
      (s.drf.busy = false ∨ s.g DRF_STATUS DRF_STATUS_STATE ≠ 1) →
      ∃ t, exec (.draftFetched flash bad dig) s = .next t ∧
        SameParts [] s t ∧
        SameRegs noReg [] s t) ∧
  (∀ (sigOk : Bool) (bad : List (Fin 256)) (s : State),
      s.drf.busy = true →
      s.g DRF_STATUS DRF_STATUS_STATE = 2 →
      (s.verifyErr s.drf.taken sigOk) ≠ 0 →
      s.drf.boot = false →
      ∃ t, exec (.draftVerified sigOk bad) s = .next t ∧
        t.g DRF_STATUS DRF_STATUS_STATE = s.drf.before ∧
        t.g DRF_STATUS DRF_STATUS_ERR = (s.verifyErr s.drf.taken sigOk) ∧
        Noted s t DRF_STATUS DRF_STATUS_LOAD_FAIL ∧
        t.drf.busy = false ∧
        t.on DRF_CTL DRF_CTL_GO = false ∧
        t.drf.running = s.drf.running ∧
        SameParts [.irq, .cyc, .msi, .shu, .drf] s t ∧
        SameRegs irqReg [DRF_CTL, DRF_STATUS] s t) ∧
  (∀ (sigOk : Bool) (bad : List (Fin 256)) (s : State),
      (s.drf.busy = false ∨ s.g DRF_STATUS DRF_STATUS_STATE ≠ 2) →
      ∃ t, exec (.draftVerified sigOk bad) s = .next t ∧
        SameParts [] s t ∧
        SameRegs noReg [] s t) ∧
  (∀ (sigOk : Bool) (bad : List (Fin 256)) (s : State),
      s.drf.busy = true →
      s.g DRF_STATUS DRF_STATUS_STATE = 2 →
      (s.verifyErr s.drf.taken sigOk) = 0 →
      (draftOf s.drf.taken).kind = 0 →
      bad = [] →
      ∃ t, exec (.draftVerified sigOk bad) s = .next t ∧
        t.g DRF_STATUS DRF_STATUS_STATE = 5 ∧
        t.drf.running = some (draftOf s.drf.taken) ∧
        t.drf.busy = false ∧
        t.on DRF_CTL DRF_CTL_GO = false ∧
        t.rd DRF_BUILD = (draftOf s.drf.taken).build.1 ∧
        t.rd (DRF_BUILD + 4) = (draftOf s.drf.taken).build.2 ∧
        t.rd DRF_SVN = word (draftOf s.drf.taken).svn ∧
        (∀ k : Fin 16, t.rd (DRF_REGION k) = 0) ∧
        Noted s t DRF_STATUS DRF_STATUS_LOAD_DONE) ∧
  (∀ (sigOk : Bool) (bad : List (Fin 256)) (s : State),
      s.drf.busy = true →
      s.g DRF_STATUS DRF_STATUS_STATE = 2 →
      (s.verifyErr s.drf.taken sigOk) = 0 →
      (draftOf s.drf.taken).kind = 1 →
      s.drf.running ≠ none →
      ∃ t, exec (.draftVerified sigOk bad) s = .next t ∧
        t.g DRF_STATUS DRF_STATUS_STATE = 3 ∧
        t.drf.fetched = some (draftOf s.drf.taken) ∧
        t.drf.reweave = some (draftOf s.drf.taken).region ∧
        t.drf.busy = true ∧
        t.drf.running = s.drf.running ∧
        ((∀ (p : Fin 256) (j : Fin 8), (s.thread p j).held = none) → ∀ c : Fin 64, s.drf.chThread.look c = (draftOf s.drf.taken).region + 1 → (t.shd.look c).inq = []) ∧
        t.shu.swaps.look (draftOf s.drf.taken).region = none ∧
        t.shu.waitingSwaps.look (draftOf s.drf.taken).region = []) ∧
  (∀ (sigOk : Bool) (bad : List (Fin 256)) (s : State),
      s.drf.busy = true →
      s.g DRF_STATUS DRF_STATUS_STATE = 2 →
      (s.verifyErr s.drf.taken sigOk) = 0 →
      2 ≤ (draftOf s.drf.taken).kind →
      s.drf.running ≠ none →
      ∃ t, exec (.draftVerified sigOk bad) s = .next t ∧
        t.g DRF_STATUS DRF_STATUS_STATE = 5 ∧
        t.drf.busy = false ∧
        t.on DRF_CTL DRF_CTL_GO = false ∧
        Noted s t DRF_STATUS DRF_STATUS_LOAD_DONE ∧
        t.drf.running = s.drf.running) ∧
  (∀ (s : State),
      (s.ddrTrained = false ∨ s.drf.running = none) →
      ∃ t, exec (.imageCacheCopy) s = .next t ∧
        SameParts [] s t ∧
        SameRegs noReg [] s t) ∧
  (∀ (s : State),
      s.ddrTrained = true →
      s.drf.running ≠ none →
      ∃ t, exec (.imageCacheCopy) s = .next t ∧
        t.drf = { s.drf with cached := true } ∧
        SameParts [.drf] s t ∧
        SameRegs noReg [] s t) ∧
  (∀ (bad : List (Fin 256)) (lost : Bool) (k : Fin 16) (d : Draft) (s : State),
      s.drf.reweave = some k.val →
      s.drf.fetched = some d →
      s.g DRF_STATUS DRF_STATUS_STATE = 3 →
      (∀ c : Fin 64, c.val ∈ s.regionChans k d → s.chState c = 0 ∨ s.chState c = 4) →
      ((s.drfState 4).regionLoad k d bad).2 = true →
      ∃ t, exec (.reweaveApply bad lost) s = .next t ∧
        t.g DRF_STATUS DRF_STATUS_STATE = 5 ∧
        t.drf.reweave = none ∧
        t.drf.busy = false ∧
        t.rd (DRF_REGION k) = d.build.1 ∧
        Noted s t DRF_STATUS DRF_STATUS_LOAD_DONE ∧
        t.drf.regionImgs.look k = d.images ∧
        (∀ c : Fin 64, t.drf.chThread.look c = match chClusters (s.threadAfter d) c with | j :: _ => j + 1 | [] => 0) ∧
        SameParts [.fresh, .irq, .cyc, .msi, .pch, .rng, .shd, .tmp, .drf, .shu, .blt, .pmc] s t) ∧
  (∀ (bad : List (Fin 256)) (lost : Bool) (k : Fin 16) (d : Draft) (s : State),
      s.drf.reweave = some k.val →
      s.drf.fetched = some d →
      s.g DRF_STATUS DRF_STATUS_STATE = 3 →
      (∀ c : Fin 64, c.val ∈ s.regionChans k d → s.chState c = 0 ∨ s.chState c = 4) →
      ((s.drfState 4).regionLoad k d bad).2 = false →
      ∃ t, exec (.reweaveApply bad lost) s = .next t ∧
        t.g DRF_STATUS DRF_STATUS_STATE = (if lost = true then 6 else 5) ∧
        t.g DRF_STATUS DRF_STATUS_ERR = 0x13 ∧
        Noted s t DRF_STATUS DRF_STATUS_LOAD_FAIL ∧
        t.drf.reweave = none ∧
        t.drf.busy = false ∧
        t.drf.regionImgs.look k = s.drf.regionImgs.look k ∧
        (lost = false → Noted s t DRF_STATUS DRF_STATUS_ROLLED_BACK) ∧
        t.rd (DRF_REGION k) = s.rd (DRF_REGION k) ∧
        SameParts [.fresh, .irq, .cyc, .msi, .pch, .rng, .shd, .tmp, .drf, .shu, .blt, .pmc] s t) ∧
  (∀ (bad : List (Fin 256)) (lost : Bool) (k : Fin 16) (d : Draft) (s : State),
      (s.drf.reweave = none ∨ s.g DRF_STATUS DRF_STATUS_STATE ≠ 3 ∨ (s.drf.reweave = some k.val ∧ s.drf.fetched = some d ∧ ∃ c : Fin 64, c.val ∈ s.regionChans k d ∧ s.chState c ≠ 0 ∧ s.chState c ≠ 4)) →
      ∃ t, exec (.reweaveApply bad lost) s = .next t ∧
        SameParts [] s t ∧
        SameRegs noReg [] s t) ∧
  (∀ (s : State) (d : Draft) (bad : List (Fin 256)) (src : Nat), (s.clusterLoads d bad).2 = false →
      (s.fullFinish d bad src).g DRF_STATUS DRF_STATUS_STATE = 6 ∧ (s.fullFinish d bad src).g DRF_STATUS DRF_STATUS_ERR = 0x13 ∧
      (s.fullFinish d bad src).drf.running = none ∧ (s.fullFinish d bad src).drf.busy = false ∧
      (∀ c : Fin 64, (s.fullFinish d bad src).drf.chThread.look c = 0)) ∧
    (∀ (s : State) (d : Draft) (bad : List (Fin 256)), s.fullApply d bad = (s.fullPrepare d).fullFinish d bad s.drf.src)

/-- An indication that rises joins the fault events of its cycle, with the unit that its class counts against; one that injection
armed is marked, and disarms it. At the end of the cycle each event counts in TMP_FAULTS and is logged, but for one blanked. One
against a retired unit is IGNORED; a transient of a rank or a crypto engine counts for it, lengthens its run and opens the
blanking of the retry; the fourth of a run, or the fifth in 60 s, makes the unit PERMANENT; with RETIRE in its entry an engine at
its limit retires. These hold where the entry has no further action. A live condition whose entry, or class, names the safe state
enters it: STATE, CAUSE and SAFE_ENTRIES say so, every PON transmitter is muted. ENTER of an agent, SAFE_N low and the CORE
heartbeat absent raise such events. A cause whose condition is over clears. The quiet period, or EXIT of a host port, ends the
safe state at the end of the cycle where no cause and no reload is left, counted in RECOVERIES or clearing the exits; else EXIT is
refused; stated where no channel start waits. A write of a reaction entry by a host port sets its eight action bits with even
parity, for the next cycle; its reload restores the table from the draft or the ROM; GO of an injection arms an existing checker
or is refused; a read of word 3 of the fault log takes its head entry away; a transmit restart ends with lock, or as one more
transient. That events wait for the end of a cycle of 1 ns is the model's reading (log entry 39). -/
def Obligations.FaultsAreCountedAndTheSafeStateHolds : Prop :=
  (∀ (k : Fin 64) (u : Fin 632) (inj : Bool) (s : State),
      (inj && s.tmp.inj) = false →
      classUnit k = some (unitKind u) →
      s.mayRise k u = true →
      k.val ≠ 0x18 →
      ∃ t, exec (.faultEvent k u inj) s = .next t ∧
        t.cyc = { s.cyc with faults := s.cyc.faults ++ [⟨k, u, false, false⟩] } ∧
        SameParts [.cyc] s t ∧
        SameRegs noReg [] s t) ∧
  (∀ (k : Fin 64) (u : Fin 632) (inj : Bool) (s : State),
      (inj && s.tmp.inj) = false →
      k.val = 0x18 →
      unitKind u = 3 →
      ∃ t, exec (.faultEvent k u inj) s = .next t ∧
        t.cyc.faults = s.cyc.faults ++ [⟨k, u, false, false⟩] ∧
        Noted s t (MEM_STATUS (unitNum u / 8)) MEM_STATUS_UE ∧
        SameParts [.irq, .cyc, .msi, .shu] s t ∧
        SameRegs irqReg [MEM_STATUS (unitNum u / 8)] s t) ∧
  (∀ (k : Fin 64) (u : Fin 632) (inj : Bool) (s : State),
      (inj && s.tmp.inj) = false →
      (k.val = 0x31 ∨ k.val = 0x32) →
      s.causeLive k = false →
      s.faultWaits k = false →
      ∃ t, exec (.faultEvent k u inj) s = .next t ∧
        t.cyc = { s.cyc with faults := s.cyc.faults ++ [⟨k, 0, false, false⟩] } ∧
        SameParts [.cyc] s t ∧
        SameRegs noReg [] s t) ∧
  (∀ (k : Fin 64) (u : Fin 632) (inj : Bool) (s : State),
      (inj && s.tmp.inj) = false →
      k.val = 0x36 →
      s.causeLive k = false →
      s.faultWaits k = false →
      ∃ t, exec (.faultEvent k u inj) s = .next t ∧
        t.cyc = { s.cyc with faults := s.cyc.faults ++ [⟨k, 0, false, false⟩] } ∧
        t.on TMP_SAFE TMP_SAFE_RELOAD_PENDING = true ∧
        SameParts [.cyc] s t ∧
        SameRegs noReg [TMP_SAFE] s t) ∧
  (∀ (k : Fin 64) (u : Fin 632) (inj : Bool) (s : State),
      (inj && s.tmp.inj) = false →
      k.val = 0x30 →
      s.causeLive k = false →
      s.faultWaits k = false →
      ∃ t, exec (.faultEvent k u inj) s = .next t ∧
        t.cyc.faults = s.cyc.faults ++ [⟨k, 0, false, false⟩] ∧
        Noted s t PMC_AUDIT_STATUS PMC_AUDIT_STATUS_VOID ∧
        t.tmp.mute = true ∧
        (∀ c : Fin 64, t.txdis c = true) ∧
        SameParts [.irq, .cyc, .msi, .shu, .tmp, .pch] s t ∧
        SameRegs irqReg [PMC_AUDIT_STATUS] s t) ∧
  (∀ (k : Fin 64) (u : Fin 632) (inj : Bool) (s : State),
      ((∃ kind, classUnit k = some kind ∧ (kind ≠ unitKind u ∨ s.mayRise k u = false)) ∨ (classUnit k = none ∧ (¬ (k.val = 0x30 ∨ k.val = 0x31 ∨ k.val = 0x32 ∨ k.val = 0x36) ∨ s.causeLive k = true ∨ s.faultWaits k = true))) →
      ∃ t, exec (.faultEvent k u inj) s = .next t ∧
        SameParts [] s t ∧
        SameRegs noReg [] s t) ∧
  (∀ (k : Fin 64) (u : Fin 632) (s : State),
      s.tmp.inj = true →
      classUnit k = some (unitKind u) →
      s.mayRise k u = true →
      ∃ t, exec (.faultEvent k u true) s = .next t ∧
        t.cyc.faults = s.cyc.faults ++ [⟨k, u, true, s.on TMP_INJ_CTL TMP_INJ_CTL_NOCOUNT⟩] ∧
        t.rd64 (TMP_INJECTED) = (s.rd64 (TMP_INJECTED) + 1) % 2 ^ 64 ∧
        Noted s t TMP_STATUS TMP_STATUS_INJ_DONE ∧
        t.tmp = { s.tmp with inj := false } ∧
        t.on TMP_INJ_CTL TMP_INJ_CTL_GO = false ∧
        SameParts [.irq, .cyc, .msi, .shu, .tmp] s t ∧
        SameRegs irqReg [TMP_INJECTED, TMP_INJECTED + 4, TMP_STATUS, TMP_INJ_CTL, MEM_STATUS (unitNum u / 8)] s t) ∧
  (∀ (k : Fin 64) (u : Fin 632) (inj : Bool) (s : State),
      classUnit k = some (unitKind u) →
      s.unitRetired u = true →
      (s.faultTick [⟨k, u, inj, false⟩]).rd64 TMP_FAULTS = (s.rd64 TMP_FAULTS + 1) % 2 ^ 64 ∧
        (s.faultTick [⟨k, u, inj, false⟩]).rd64 (TMP_IGNORED) = (s.rd64 (TMP_IGNORED) + 1) % 2 ^ 64 ∧
        (∃ e, (s.faultTick [⟨k, u, inj, false⟩]).tmp.log.getLast? = some e) ∧
        SameParts [.irq, .cyc, .msi, .shu, .tmp] s (s.faultTick [⟨k, u, inj, false⟩]) ∧
        SameRegs irqReg [TMP_FAULTS, TMP_FAULTS + 4, TMP_STATUS, TMP_IGNORED, TMP_IGNORED + 4] s (s.faultTick [⟨k, u, inj, false⟩])) ∧
  (∀ (k : Fin 64) (u : Fin 632) (inj : Bool) (s : State),
      classUnit k = some (unitKind u) →
      s.unitRetired u = false →
      s.unitBlanked k u = true →
      (s.faultTick [⟨k, u, inj, false⟩]).rd64 TMP_FAULTS = (s.rd64 TMP_FAULTS + 1) % 2 ^ 64 ∧
        (s.faultTick [⟨k, u, inj, false⟩]).rd64 (TMP_BLANKED) = (s.rd64 (TMP_BLANKED) + 1) % 2 ^ 64 ∧
        SameParts [] s (s.faultTick [⟨k, u, inj, false⟩]) ∧
        SameRegs noReg [TMP_FAULTS, TMP_FAULTS + 4, TMP_BLANKED, TMP_BLANKED + 4] s (s.faultTick [⟨k, u, inj, false⟩])) ∧
  (∀ (k : Fin 64) (u : Fin 632) (inj : Bool) (s : State),
      (k.val = 0x18 ∨ k.val = 0x19 ∨ k.val = 0x20) →
      classUnit k = some (unitKind u) →
      s.unitRetired u = false →
      s.unitBlanked k u = false →
      s.react k = 0x80000000 →
      (if (match s.tmp.runStart.look u with | none => true | some x => decide (1000000000 < s.now - x) && !s.retryRuns u) = true then 0 else s.g (unitReg u.val) TMP_UNIT_A_RUN) < 3 →
      (s.unitHist u).length < 4 →
      s.retryHung k u = false →
      (s.faultTick [⟨k, u, inj, false⟩]).rd64 TMP_FAULTS = (s.rd64 TMP_FAULTS + 1) % 2 ^ 64 ∧
        (s.faultTick [⟨k, u, inj, false⟩]).rd64 (TMP_TRANSIENTS) = (s.rd64 (TMP_TRANSIENTS) + 1) % 2 ^ 64 ∧
        (s.faultTick [⟨k, u, inj, false⟩]).rd ((unitReg u.val) + 4) = s.rd ((unitReg u.val) + 4) + 1 ∧
        (s.faultTick [⟨k, u, inj, false⟩]).g (unitReg u.val) TMP_UNIT_A_RUN = (if (match s.tmp.runStart.look u with | none => true | some x => decide (1000000000 < s.now - x) && !s.retryRuns u) = true then 0 else s.g (unitReg u.val) TMP_UNIT_A_RUN) + 1 ∧
        (∃ e, (s.faultTick [⟨k, u, inj, false⟩]).tmp.log.getLast? = some e) ∧
        (k.val = 0x20 → (s.faultTick [⟨k, u, inj, false⟩]).tmp.engBlank.look (unitNum u) = true) ∧
        (k.val ≠ 0x20 → (s.faultTick [⟨k, u, inj, false⟩]).tmp.rankBlank.look (unitNum u) = true) ∧
        SameParts [.irq, .cyc, .msi, .shu, .tmp] s (s.faultTick [⟨k, u, inj, false⟩]) ∧
        SameRegs irqReg [TMP_FAULTS, TMP_FAULTS + 4, TMP_STATUS, TMP_TRANSIENTS, TMP_TRANSIENTS + 4, (unitReg u.val), (unitReg u.val) + 4] s (s.faultTick [⟨k, u, inj, false⟩])) ∧
  (∀ (k : Fin 64) (u : Fin 632) (inj : Bool) (s : State),
      (k.val = 0x18 ∨ k.val = 0x19 ∨ k.val = 0x20) →
      classUnit k = some (unitKind u) →
      s.unitRetired u = false →
      s.unitBlanked k u = false →
      s.react k = 0x80000000 →
      ((if (match s.tmp.runStart.look u with | none => true | some x => decide (1000000000 < s.now - x) && !s.retryRuns u) = true then 0 else s.g (unitReg u.val) TMP_UNIT_A_RUN) = 3 ∨ 4 ≤ (s.unitHist u).length) →
      (s.faultTick [⟨k, u, inj, false⟩]).rd64 TMP_FAULTS = (s.rd64 TMP_FAULTS + 1) % 2 ^ 64 ∧
        (s.faultTick [⟨k, u, inj, false⟩]).rd64 (TMP_TRANSIENTS) = (s.rd64 (TMP_TRANSIENTS) + 1) % 2 ^ 64 ∧
        (s.faultTick [⟨k, u, inj, false⟩]).on (unitReg u.val) TMP_UNIT_A_PERMANENT = true ∧
        (∃ e, (s.faultTick [⟨k, u, inj, false⟩]).tmp.log.getLast? = some e) ∧
        SameParts [.irq, .cyc, .msi, .shu, .tmp] s (s.faultTick [⟨k, u, inj, false⟩]) ∧
        SameRegs irqReg [TMP_FAULTS, TMP_FAULTS + 4, TMP_STATUS, TMP_TRANSIENTS, TMP_TRANSIENTS + 4, (unitReg u.val), (unitReg u.val) + 4] s (s.faultTick [⟨k, u, inj, false⟩])) ∧
  (∀ (k : Fin 64) (u : Fin 632) (inj : Bool) (s : State),
      k.val = 0x20 →
      classUnit k = some (unitKind u) →
      s.unitRetired u = false →
      s.unitBlanked k u = false →
      s.react k = 0xE0000000 →
      (s.faultTick [⟨k, u, inj, false⟩]).rd64 TMP_FAULTS = (s.rd64 TMP_FAULTS + 1) % 2 ^ 64 ∧
        (s.faultTick [⟨k, u, inj, false⟩]).on (unitReg u.val) TMP_UNIT_A_PERMANENT = true ∧
        (s.faultTick [⟨k, u, inj, false⟩]).unitRetired u = true ∧
        (s.faultTick [⟨k, u, inj, false⟩]).rd64 (TMP_RETIREMENTS) = (s.rd64 (TMP_RETIREMENTS) + 1) % 2 ^ 64 ∧
        (∃ e, (s.faultTick [⟨k, u, inj, false⟩]).tmp.log.getLast? = some e)) ∧
  (∀ (k : Fin 64) (u : Fin 632) (inj : Bool) (s : State),
      liveClass k = true →
      (fixedSafe k = true ∨ (reactBit (s.react k) 31 = true ∧ reactBit (s.react k) 27 = true)) →
      s.safe = false →
      (s.faultTick [⟨k, u, inj, false⟩]).g TMP_SAFE TMP_SAFE_STATE = (if 3 ≤ s.recentExits.length then 2 else 1) ∧
        (s.faultTick [⟨k, u, inj, false⟩]).g TMP_SAFE TMP_SAFE_CAUSE = k ∧
        (s.faultTick [⟨k, u, inj, false⟩]).on TMP_SAFE TMP_SAFE_KEYS_KEPT = decide (k.val ≠ 0x35) ∧
        (s.faultTick [⟨k, u, inj, false⟩]).causeLive k = true ∧
        (s.faultTick [⟨k, u, inj, false⟩]).tmp.mute = true ∧
        (∀ c : Fin 64, (s.faultTick [⟨k, u, inj, false⟩]).txdis c = true) ∧
        (s.faultTick [⟨k, u, inj, false⟩]).rd64 (TMP_SAFE_ENTRIES) = (s.rd64 (TMP_SAFE_ENTRIES) + 1) % 2 ^ 64 ∧
        Noted s (s.faultTick [⟨k, u, inj, false⟩]) TMP_STATUS TMP_STATUS_SAFE_ENTER_EVT ∧
        (s.faultTick [⟨k, u, inj, false⟩]).rd64 TMP_FAULTS = (s.rd64 TMP_FAULTS + 1) % 2 ^ 64 ∧
        (∃ e, (s.faultTick [⟨k, u, inj, false⟩]).tmp.log.getLast? = some e)) ∧
  (∀ (k : Fin 64) (u : Fin 632) (inj : Bool) (s : State),
      liveClass k = true →
      fixedSafe k = false →
      reactBit (s.react k) 31 = false →
      (s.faultTick [⟨k, u, inj, false⟩]).rd64 TMP_FAULTS = (s.rd64 TMP_FAULTS + 1) % 2 ^ 64 ∧
        (∃ e, (s.faultTick [⟨k, u, inj, false⟩]).tmp.log.getLast? = some e) ∧
        SameParts [.irq, .cyc, .msi, .shu, .tmp, .fresh] s (s.faultTick [⟨k, u, inj, false⟩]) ∧
        SameRegs irqReg [TMP_FAULTS, TMP_FAULTS + 4, TMP_STATUS] s (s.faultTick [⟨k, u, inj, false⟩])) ∧
  (∀ (c : Fin 64) (s : State),
      (s.pch.look c).txRestart = true →
      ∃ t, exec (.txRestartDone c true) s = .next t ∧
        t.pch.look c = { s.pch.look c with txRestart := false, txLocked := true, lolBlank := false } ∧
        SameParts [.pch] s t ∧
        SameRegs noReg [] s t) ∧
  (∀ (c : Fin 64) (s : State),
      (s.pch.look c).txRestart = true →
      ((s.tmp.restart.look c) = 1 ∨ (s.tmp.restart.look c) = 2) →
      (s.chState c = 1 ∨ s.chState c = 2 ∨ s.chState c = 3) →
      s.tmp.runStart.look c ≠ none →
      s.g (unitReg c.val) TMP_UNIT_A_RUN < 3 →
      (s.unitHist c).length < 4 →
      s.retryHung (s.tmp.restart.look c) c = false →
      ∃ t, exec (.txRestartDone c false) s = .next t ∧
        (t.pch.look c).txRestart = true ∧
        (t.pch.look c).txLocked = false ∧
        t.rd64 (TMP_TRANSIENTS) = (s.rd64 (TMP_TRANSIENTS) + 1) % 2 ^ 64 ∧
        t.rd ((unitReg c.val) + 4) = s.rd ((unitReg c.val) + 4) + 1 ∧
        t.g (unitReg c.val) TMP_UNIT_A_RUN = s.g (unitReg c.val) TMP_UNIT_A_RUN + 1 ∧
        SameParts [.irq, .cyc, .msi, .shu, .tmp, .pch] s t ∧
        SameRegs irqReg [TMP_TRANSIENTS, TMP_TRANSIENTS + 4, TMP_STATUS, (unitReg c.val), (unitReg c.val) + 4] s t) ∧
  (∀ (c : Fin 64) (locked : Bool) (s : State),
      (s.pch.look c).txRestart = false →
      ∃ t, exec (.txRestartDone c locked) s = .next t ∧
        SameParts [] s t ∧
        SameRegs noReg [] s t) ∧
  (∀ (ag : Agent) (v : Word) (s : State),
      s.reaches ag TMP_SAFE = true →
      v.getLsbD 31 = true →
      (v.getLsbD 30 = false ∨ 1 < agCode ag ∨ s.safe = false) →
      s.causeLive 0x37 = false →
      s.faultWaits 0x37 = false →
      ∃ t, exec (.safeEnter ag v) s = .next t ∧
        t.cyc = { s.cyc with faults := s.cyc.faults ++ [⟨0x37, 0, false, false⟩] } ∧
        SameParts [.cyc] s t ∧
        SameRegs noReg [] s t) ∧
  (∀ (ag : Agent) (v : Word) (s : State),
      s.reaches ag TMP_SAFE = true →
      v.getLsbD 31 = true →
      (v.getLsbD 30 = false ∨ 1 < agCode ag ∨ s.safe = false) →
      (s.causeLive 0x37 = true ∨ s.faultWaits 0x37 = true) →
      ∃ t, exec (.safeEnter ag v) s = .next t ∧
        SameParts [] s t ∧
        SameRegs noReg [] s t) ∧
  (∀ (s : State),
      s.causeLive 0x34 = false →
      s.faultWaits 0x34 = false →
      ∃ t, exec (.safePin true) s = .next t ∧
        t.cyc = { s.cyc with faults := s.cyc.faults ++ [⟨0x34, 0, false, false⟩] } ∧
        t.tmp = { s.tmp with safePin := true, pinAt := if s.tmp.safePin = true then s.tmp.pinAt else s.now } ∧
        SameParts [.tmp, .cyc] s t ∧
        SameRegs noReg [] s t) ∧
  (∀ (low : Bool) (s : State),
      (low = false ∨ s.causeLive 0x34 = true ∨ s.faultWaits 0x34 = true) →
      ∃ t, exec (.safePin low) s = .next t ∧
        t.tmp = { s.tmp with safePin := low, pinAt := if s.tmp.safePin = low then s.tmp.pinAt else s.now } ∧
        SameParts [.tmp] s t ∧
        SameRegs noReg [] s t) ∧
  (∀ (s : State),
      s.causeLive 0x32 = false →
      s.faultWaits 0x32 = false →
      ∃ t, exec (.coreHeartbeatTimeout) s = .next t ∧
        t.cyc = { s.cyc with faults := s.cyc.faults ++ [⟨0x32, 0, false, false⟩] } ∧
        SameParts [.cyc] s t ∧
        SameRegs noReg [] s t) ∧
  (∀ (s : State),
      (s.causeLive 0x32 = true ∨ s.faultWaits 0x32 = true) →
      ∃ t, exec (.coreHeartbeatTimeout) s = .next t ∧
        SameParts [] s t ∧
        SameRegs noReg [] s t) ∧
  (∀ (k : Fin 64) (s : State),
      s.causeLive k = true →
      s.causeOver k = true →
      ∃ t, exec (.safeCauseClear k) s = .next t ∧
        t.rd (TMP_CAUSE (k / 32)) = word (setBit (s.rd (TMP_CAUSE (k / 32))).toNat (k % 32) false) ∧
        t.tmp = { s.tmp with clearAt := s.now } ∧
        SameParts [.tmp] s t ∧
        SameRegs noReg [TMP_CAUSE (k / 32)] s t) ∧
  (∀ (k : Fin 64) (s : State),
      (s.causeLive k = false ∨ s.causeOver k = false) →
      ∃ t, exec (.safeCauseClear k) s = .next t ∧
        SameParts [] s t ∧
        SameRegs noReg [] s t) ∧
  (∀ (s : State),
      s.g TMP_SAFE TMP_SAFE_STATE = 1 →
      s.safeFree = true →
      s.tmp.clearAt + s.quietNs ≤ s.now →
      ∃ t, exec (.safeQuietExpiry) s = .next t ∧
        t.cyc = { s.cyc with quiet_ := true } ∧
        SameParts [.cyc] s t ∧
        SameRegs noReg [] s t) ∧
  (∀ (s : State),
      (s.g TMP_SAFE TMP_SAFE_STATE ≠ 1 ∨ s.safeFree = false ∨ s.now < s.tmp.clearAt + s.quietNs) →
      ∃ t, exec (.safeQuietExpiry) s = .next t ∧
        SameParts [] s t ∧
        SameRegs noReg [] s t) ∧
  (∀ (ag : Agent) (v : Word) (s : State),
      s.reaches ag TMP_SAFE = true →
      agCode ag ≤ 1 →
      v.getLsbD 31 = false →
      v.getLsbD 30 = true →
      s.safe = true →
      ∃ t, exec (.safeExit ag v) s = .next t ∧
        t.causeLive 0x37 = false ∧
        t.cyc = { s.cyc with exit_ := true } ∧
        t.tmp = { s.tmp with clearAt := s.now } ∧
        SameParts [.cyc, .tmp] s t ∧
        SameRegs noReg [TMP_CAUSE 1] s t) ∧
  (∀ (ag : Agent) (v : Word) (s : State),
      s.reaches ag TMP_SAFE = true →
      agCode ag ≤ 1 →
      v.getLsbD 31 = false →
      v.getLsbD 30 = true →
      s.safe = false →
      ∃ t, exec (.safeExit ag v) s = .next t ∧
        SameParts [] s t ∧
        SameRegs noReg [] s t) ∧
  (∀ (s : State) (quiet : Bool), s.safe = true → s.safeFree = true → s.drf.deferred = [] →
      (s.exitTick true quiet).g TMP_SAFE TMP_SAFE_STATE = 0 ∧
        (s.exitTick true quiet).tmp.mute = false ∧
        Noted s (s.exitTick true quiet) TMP_STATUS TMP_STATUS_SAFE_EXIT_EVT ∧
        (s.exitTick true quiet).tmp.exits = []) ∧
  (∀ (s : State) (quiet : Bool), s.safe = true → s.safeFree = false →
      Noted s (s.exitTick true quiet) TMP_STATUS TMP_STATUS_EXIT_REFUSED ∧
        SameParts [.irq, .cyc, .msi, .shu] s (s.exitTick true quiet) ∧
        SameRegs irqReg [TMP_STATUS] s (s.exitTick true quiet)) ∧
  (∀ (s : State), s.g TMP_SAFE TMP_SAFE_STATE = 1 → s.safeFree = true → s.drf.deferred = [] →
      (s.exitTick false true).g TMP_SAFE TMP_SAFE_STATE = 0 ∧
        (s.exitTick false true).tmp.mute = false ∧
        Noted s (s.exitTick false true) TMP_STATUS TMP_STATUS_SAFE_EXIT_EVT ∧
        (s.exitTick false true).g TMP_SAFE TMP_SAFE_RECOVERIES = (s.g TMP_SAFE TMP_SAFE_RECOVERIES + 1) % 2 ^ TMP_SAFE_RECOVERIES.w ∧
        (s.exitTick false true).tmp.exits = s.tmp.exits ++ [s.now]) ∧
  (∀ (s : State), (s.safe = false ∨ s.safeFree = false ∨ s.g TMP_SAFE TMP_SAFE_STATE ≠ 1) →
      s.exitTick false true = s) ∧
  (∀ (ag : Agent) (k : Fin 64) (v : Word) (s : State),
      s.reaches ag (TMP_REACT k) = true →
      agCode ag ≤ 1 →
      ∃ t, exec (.reactWrite ag k v) s = .next t ∧
        t.rd (TMP_REACT k) = v &&& 0xFF000000 ∧
        t.cyc = { s.cyc with en := if (s.cyc.en.look (TMP_REACT k)).isNone then s.cyc.en.put (TMP_REACT k) (some (s.rd (TMP_REACT k))) else s.cyc.en } ∧
        (t.rd (TMP_REACT k + 4)).getLsbD 31 = decide (((List.range 8).filter (fun i => v.getLsbD (24 + i))).length % 2 = 1) ∧
        SameParts [.cyc] s t ∧
        SameRegs noReg [TMP_REACT k, TMP_REACT k + 4] s t) ∧
  (∀ (rom : Bool) (s : State),
      s.on TMP_SAFE TMP_SAFE_RELOAD_PENDING = true →
      ∃ t, exec (.reactReloadDone rom) s = .next t ∧
        t.on TMP_SAFE TMP_SAFE_RELOAD_PENDING = false ∧
        t.g TMP_SAFE TMP_SAFE_ROM_USED = (if rom = true ∨ s.drf.running = none then 1 else 0) ∧
        t.causeLive 0x36 = false ∧
        t.tmp = { s.tmp with clearAt := s.now } ∧
        Noted s t TMP_STATUS TMP_STATUS_RELOADED ∧
        (∀ k : Fin 64, (∀ r ∈ ((if rom = true then none else s.drf.running).elim [] (fun d => d.treadling)), r.code = 0x43 → r.w0 % 64 ≠ k) → t.rd (TMP_REACT k) = resetWord (TMP_REACT k)) ∧
        (∀ k : Fin 64, (((if rom = true then none else s.drf.running).elim [] (fun d => d.treadling)).filter (fun r => decide (r.code = 0x43) && decide (r.w0 % 64 = k.val))).getLast?.all (fun r => decide (t.rd (TMP_REACT k) = r.rest.getD 0 0 &&& 0xFF000000)) = true) ∧
        SameParts [.irq, .cyc, .msi, .shu, .tmp] s t ∧
        SameRegs (fun a => irqReg a || regsIn (TMP_REACT 0) (TMP_REACT 64) a) [TMP_SAFE, TMP_CAUSE 1, TMP_STATUS] s t) ∧
  (∀ (rom : Bool) (s : State),
      s.on TMP_SAFE TMP_SAFE_RELOAD_PENDING = false →
      ∃ t, exec (.reactReloadDone rom) s = .next t ∧
        SameParts [] s t ∧
        SameRegs noReg [] s t) ∧
  (∀ (ag : Agent) (v : Word) (s : State),
      s.reaches ag TMP_INJ_CTL = true →
      v.getLsbD 31 = true →
      (s.tmp.inj = false ∧ (s.wrRW TMP_INJ_CTL v).chkHere = true) →
      ∃ t, exec (.injectArm ag v) s = .next t ∧
        t.tmp = { s.tmp with inj := true } ∧
        t.on TMP_INJ_CTL TMP_INJ_CTL_GO = true ∧
        SameParts [.tmp] s t ∧
        SameRegs noReg [TMP_INJ_CTL] s t) ∧
  (∀ (ag : Agent) (v : Word) (s : State),
      s.reaches ag TMP_INJ_CTL = true →
      v.getLsbD 31 = true →
      ¬ (s.tmp.inj = false ∧ (s.wrRW TMP_INJ_CTL v).chkHere = true) →
      ∃ t, exec (.injectArm ag v) s = .next t ∧
        Noted s t TMP_STATUS TMP_STATUS_INJ_REFUSED ∧
        SameParts [.irq, .cyc, .msi, .shu] s t ∧
        SameRegs irqReg [TMP_INJ_CTL, TMP_STATUS] s t) ∧
  (∀ (ag : Agent) (e : List Word) (r : List (List Word)) (s : State),
      s.reaches ag (TMP_FAULT_LOG + 12) = true →
      s.tmp.log = e :: r →
      ∃ t, exec (.faultLogPop ag) s = .next t ∧
        t.lastRead ag = e.getD 3 0 ∧
        t.tmp = { s.tmp with log := r } ∧
        SameParts [.agents, .tmp] s t ∧
        SameRegs noReg [] s t) ∧
  (∀ (ag : Agent) (s : State),
      s.reaches ag (TMP_FAULT_LOG + 12) = true →
      s.tmp.log = [] →
      ∃ t, exec (.faultLogPop ag) s = .next t ∧
        t.lastRead ag = 0 ∧
        SameParts [.agents] s t ∧
        SameRegs noReg [] s t)

/-- A 10 ms gate, with REFA or REFB present and every source present still in use, disqualifies each source that no other present
source confirms within 20 ppm, qualifies it after QUAL_GATES gates, and writes CLK_PPM; settings written since act from its end
on, and a source whose setting changed is disqualified. The system PLL stays on a qualified source, else takes the first qualified
one by priority. A lost source is disqualified and counted; one that comes is present; REVERT takes back a better one after WTR_S.
With none left COAST is entered. Once every system PLL has relocked COAST clears, running channels stay muted, and DDR-5 leaves
self-refresh unless asked for. A lock writes LOCKED and the frequency; its loss makes the audits VOID. A hung multiplexer is
counted and blanks its domain. A gate of a block from CLS on (source 6 up) acts at once, or waits while it is hung until it is
idle or forced; GLB, HPI, CLK, PWR, TMP, TIM are never gated or reset. A block reset counts, ends a hang and opens the block's
blanking. PORST_N, or VDD_TMP lost, returns everything but the SVN floor and the owners to reset. SRST_N keeps what the spec
lists, DDR-5 among it, and counts the epoch. The Temple then releases every block, TIM runs, and slot A is fetched. Values at a
register without a stated reset are the model's (log entries 11 and 12). -/
def Obligations.ClocksGatesAndResets : Prop :=
  (∀ (counts : List (Fin 3 × Fin 3 × Nat)) (s : State),
      (s.refHere 0 = true ∨ s.refHere 1 = true) →
      (s.rd (fkey CLK_CTL) = s.rd CLK_CTL ∧ s.rd (fkey CLK_REF_CFG) = s.rd CLK_REF_CFG) →
      (∀ x : Fin 3, s.refHere x = true → s.refCan x = true) →
      ∃ t, exec (.refGateEnd counts) s = .next t ∧
        (∀ x : Fin 3, s.refHere x = true → t.tmp.qual.look x = (if ((s.refOthers x).any (fun y => s.refAgree counts x y) = true) then min (s.tmp.qual.look x + 1) 15 else 0) ∧ t.refGood x = (decide (atLeast1 (s.clkCtl CLK_CTL_QUAL_GATES) ≤ (if ((s.refOthers x).any (fun y => s.refAgree counts x y) = true) then min (s.tmp.qual.look x + 1) 15 else 0)) || (decide ((s.refOthers x).any (fun y => s.refAgree counts x y) = true) && s.refGood x)) ∧ t.rd (CLK_PPM x) = s.refPpm counts x) ∧
        (s.g CLK_STATUS CLK_STATUS_SELECTED < 3 ∧ t.refGood (s.g CLK_STATUS CLK_STATUS_SELECTED) = true → t.g CLK_STATUS CLK_STATUS_SELECTED = s.g CLK_STATUS CLK_STATUS_SELECTED) ∧
        (¬ (s.g CLK_STATUS CLK_STATUS_SELECTED < 3 ∧ t.refGood (s.g CLK_STATUS CLK_STATUS_SELECTED) = true) → (∀ q : Fin 3, s.refPrio.find? (fun y => decide (y < 3) && t.refGood y) = some q.val → t.g CLK_STATUS CLK_STATUS_SELECTED = q)) ∧
        SameParts [.irq, .cyc, .msi, .shu, .tmp] s t ∧
        SameRegs irqReg [CLK_STATUS, CLK_SWITCHES, CLK_SWITCHES + 4, CLK_PPM 0, CLK_PPM 1, CLK_PPM 2] s t) ∧
  (∀ (counts : List (Fin 3 × Fin 3 × Nat)) (x : Fin 3) (s : State),
      s.clkApply.refSet x ≠ s.refSet x →
      ∃ t, exec (.refGateEnd counts) s = .next t ∧
        t.refGood x = false ∧
        t.tmp.qual.look x = 0 ∧
        t.refSet x = s.clkApply.refSet x ∧
        SameParts [.fresh, .irq, .cyc, .msi, .tmp, .tim, .shu, .blt, .hsl] s t) ∧
  (∀ (x : Fin 3) (s : State),
      s.refHere x = true →
      ((s.refHere 0 = true ∧ x ≠ 0) ∨ (s.refHere 1 = true ∧ x ≠ 1)) →
      ∃ t, exec (.refLost x) s = .next t ∧
        t.refHere x = false ∧
        t.refGood x = false ∧
        (∀ y : Fin 3, y ≠ x → t.refHere y = s.refHere y ∧ t.refGood y = s.refGood y) ∧
        t.rd (CLK_PPM x) = 0x80000000 ∧
        t.rd64 (CLK_REF_LOST) = (s.rd64 (CLK_REF_LOST) + 1) % 2 ^ 64 ∧
        Noted s t CLK_STATUS CLK_STATUS_LOST ∧
        (s.g CLK_STATUS CLK_STATUS_SELECTED < 3 ∧ t.refGood (s.g CLK_STATUS CLK_STATUS_SELECTED) = true → t.g CLK_STATUS CLK_STATUS_SELECTED = s.g CLK_STATUS CLK_STATUS_SELECTED) ∧
        (¬ (s.g CLK_STATUS CLK_STATUS_SELECTED < 3 ∧ t.refGood (s.g CLK_STATUS CLK_STATUS_SELECTED) = true) → (∀ q : Fin 3, s.refPrio.find? (fun y => decide (y < 3) && t.refGood y) = some q.val → t.g CLK_STATUS CLK_STATUS_SELECTED = q)) ∧
        SameParts [.irq, .cyc, .msi, .shu, .tmp] s t ∧
        SameRegs irqReg [CLK_STATUS, CLK_SWITCHES, CLK_SWITCHES + 4, CLK_PPM x, CLK_REF_LOST, CLK_REF_LOST + 4] s t) ∧
  (∀ (x : Fin 3) (s : State),
      s.refHere x = true →
      (∀ y : Fin 3, y ≠ x → s.refHere y = false ∧ s.refGood y = false) →
      s.coasting = false →
      ∃ t, exec (.refLost x) s = .next t ∧
        t.coasting = true ∧
        t.rd64 (CLK_COAST_ENTRIES) = (s.rd64 (CLK_COAST_ENTRIES) + 1) % 2 ^ 64 ∧
        t.g CLK_STATUS CLK_STATUS_SELECTED = 3 ∧
        (s.g DRF_STATUS DRF_STATUS_STATE ≠ 4 → t.srActive = true) ∧
        t.cyc.faults = s.cyc.faults ++ [⟨0x33, 0, false, false⟩] ∧
        (∀ c : Fin 64, t.txdis c = true) ∧
        (∀ c : Fin 64, t.on (TIM_TOD c) TIM_TOD_VALID = false) ∧
        SameParts [.fresh, .irq, .cyc, .msi, .tmp, .tim, .shu, .blt, .hsl] s t) ∧
  (∀ (x : Fin 3) (s : State),
      s.refHere x = false →
      ∃ t, exec (.refLost x) s = .next t ∧
        SameParts [] s t ∧
        SameRegs noReg [] s t) ∧
  (∀ (x : Fin 3) (s : State),
      s.g CLK_STATUS CLK_STATUS_PRESENT = 0 →
      s.clkApply.refCan x = true →
      s.tmp.held = false →
      ∃ t, exec (.refPresent x) s = .next t ∧
        t.refHere x = true ∧
        t.rd (fkey CLK_CTL) = s.clkApply.rd (fkey CLK_CTL) ∧
        t.rd (fkey CLK_REF_CFG) = s.clkApply.rd (fkey CLK_REF_CFG) ∧
        SameParts [.fresh, .irq, .cyc, .msi, .tmp, .tim, .shu, .blt, .hsl] s t) ∧
  (∀ (x : Fin 3) (s : State),
      s.g CLK_STATUS CLK_STATUS_PRESENT ≠ 0 →
      (s.refHere x = true ∨ s.refCan x = false ∨ s.tmp.held = true) →
      ∃ t, exec (.refPresent x) s = .next t ∧
        SameParts [] s t ∧
        SameRegs noReg [] s t) ∧
  (∀ (x : Fin 3) (s : State),
      s.g CLK_STATUS CLK_STATUS_PRESENT ≠ 0 →
      s.tmp.held = false →
      s.refHere x = false →
      s.refCan x = true →
      (x ≠ 2 ∨ s.refHere 0 = true ∨ s.refHere 1 = true) →
      ∃ t, exec (.refPresent x) s = .next t ∧
        t.refHere x = true ∧
        (∀ y : Fin 3, y ≠ x → t.refHere y = s.refHere y) ∧
        t.g CLK_STATUS CLK_STATUS_QUALIFIED = s.g CLK_STATUS CLK_STATUS_QUALIFIED ∧
        (s.g CLK_STATUS CLK_STATUS_SELECTED < 3 ∧ t.refGood (s.g CLK_STATUS CLK_STATUS_SELECTED) = true → t.g CLK_STATUS CLK_STATUS_SELECTED = s.g CLK_STATUS CLK_STATUS_SELECTED) ∧
        (¬ (s.g CLK_STATUS CLK_STATUS_SELECTED < 3 ∧ t.refGood (s.g CLK_STATUS CLK_STATUS_SELECTED) = true) → (∀ q : Fin 3, s.refPrio.find? (fun y => decide (y < 3) && t.refGood y) = some q.val → t.g CLK_STATUS CLK_STATUS_SELECTED = q)) ∧
        SameParts [.irq, .cyc, .msi, .shu] s t ∧
        SameRegs irqReg [CLK_STATUS, CLK_SWITCHES, CLK_SWITCHES + 4] s t) ∧
  (∀ (x : Nat) (s : State),
      (s.refPrio.takeWhile (fun y => decide (y ≠ s.g CLK_STATUS CLK_STATUS_SELECTED))).find? (fun y => decide (y < 3) && s.refGood y && decide (s.clkCtl CLK_CTL_WTR_S * 1000000000 ≤ s.now - s.tmp.qual.look (20 + y))) = some x →
      s.clkCtl CLK_CTL_REVERT = 1 →
      ∃ t, exec (.refRevert) s = .next t ∧
        t.g CLK_STATUS CLK_STATUS_SELECTED = x ∧
        t.on CLK_STATUS CLK_STATUS_REF_UNVERIFIED = false ∧
        SameParts [.irq, .cyc, .msi, .shu] s t ∧
        SameRegs irqReg [CLK_STATUS, CLK_SWITCHES, CLK_SWITCHES + 4] s t) ∧
  (∀ (s : State),
      ((s.refPrio.takeWhile (fun y => decide (y ≠ s.g CLK_STATUS CLK_STATUS_SELECTED))).find? (fun y => decide (y < 3) && s.refGood y && decide (s.clkCtl CLK_CTL_WTR_S * 1000000000 ≤ s.now - s.tmp.qual.look (20 + y))) = none ∨ s.clkCtl CLK_CTL_REVERT ≠ 1) →
      ∃ t, exec (.refRevert) s = .next t ∧
        SameParts [] s t ∧
        SameRegs noReg [] s t) ∧
  (∀ (s : State),
      s.coasting = true →
      (∀ p : Fin 23, p.val ∈ sysPlls → s.on (CLK_PLL p) CLK_PLL_LOCKED = true) →
      ∃ t, exec (.coastClear) s = .next t ∧
        t.coasting = false ∧
        Noted s t CLK_STATUS CLK_STATUS_COAST_CHG ∧
        (∀ c : Fin 64, (s.chState c = 1 ∨ s.chState c = 2) → (t.pch.look c).coastHold = true) ∧
        (s.on PWR_MEM PWR_MEM_SR_REQ = false ∧ s.tmp.srEntering = false → t.srActive = false) ∧
        (s.on PWR_MEM PWR_MEM_SR_REQ = false ∧ s.tmp.srEntering = true → t.tmp.srExit = true) ∧
        (s.on PWR_MEM PWR_MEM_SR_REQ = true → t.tmp = s.tmp ∧ t.srActive = s.srActive) ∧
        SameParts [.irq, .cyc, .msi, .shu, .pch, .tmp] s t) ∧
  (∀ (p : Fin 23) (s : State),
      s.pllFed p = true →
      ∃ t, exec (.pllLock p) s = .next t ∧
        t.rd (CLK_PLL p) = word (2 ^ 31 + s.pllMhz p) ∧
        SameParts [] s t ∧
        SameRegs noReg [CLK_PLL p] s t) ∧
  (∀ (p : Fin 23) (s : State),
      s.pllFed p = true →
      s.on (CLK_PLL p) CLK_PLL_LOCKED = true →
      ∃ t, exec (.pllLossOfLock p) s = .next t ∧
        t.on (CLK_PLL p) CLK_PLL_LOCKED = false ∧
        (t.rd (CLK_PLL p)).getLsbD 29 = true ∧
        Noted s t PMC_AUDIT_STATUS PMC_AUDIT_STATUS_VOID ∧
        SameParts [.irq, .cyc, .msi, .shu, .fresh] s t ∧
        SameRegs irqReg [CLK_PLL p, PMC_AUDIT_STATUS] s t) ∧
  (∀ (p : Fin 23) (s : State),
      (s.pllFed p = false ∨ s.on (CLK_PLL p) CLK_PLL_LOCKED = false) →
      ∃ t, exec (.pllLossOfLock p) s = .next t ∧
        SameParts [] s t ∧
        SameRegs noReg [] s t) ∧
  (∀ (p : Fin 23) (s : State),
      s.pllFed p = false →
      ∃ t, exec (.pllLock p) s = .next t ∧
        SameParts [] s t ∧
        SameRegs noReg [] s t) ∧
  (∀ (s : State),
      (s.coasting = false ∨ ¬ (∀ p : Fin 23, p.val ∈ sysPlls → s.on (CLK_PLL p) CLK_PLL_LOCKED = true)) →
      ∃ t, exec (.coastClear) s = .next t ∧
        SameParts [] s t ∧
        SameRegs noReg [] s t) ∧
  (∀ (p : Fin 23) (s : State),
      ∃ t, exec (.muxHang p) s = .next t ∧
        t.rd64 (CLK_MUX_HANGS) = (s.rd64 (CLK_MUX_HANGS) + 1) % 2 ^ 64 ∧
        Noted s t CLK_STATUS CLK_STATUS_MUX_HANG ∧
        (∀ n : Fin 200, t.blks.look n = if n.val ∈ domainBlocks p then { s.blks.look n with blanked := true } else s.blks.look n) ∧
        SameParts [.irq, .cyc, .msi, .shu, .blks] s t ∧
        SameRegs irqReg [CLK_STATUS, CLK_MUX_HANGS, CLK_MUX_HANGS + 4] s t) ∧
  (∀ (ag : Agent) (n : Fin 200) (v : Word) (s : State),
      s.reaches ag (CLK_GATE n) = true →
      v.getLsbD 31 = true →
      6 ≤ n.val →
      ∃ t, exec (.clockGate ag n v) s = .next t ∧
        t.blks.look n = (if (s.blks.look n).hung = true then { s.blks.look n with gateReq := true, gateWait := true } else { s.blks.look n with gateReq := true, gated := true }) ∧
        (∀ j : Fin 200, j ≠ n → t.blks.look j = s.blks.look j) ∧
        t.on (CLK_GATE n) CLK_GATE_GATED = (t.blks.look n).gated ∧
        SameParts [.blks] s t ∧
        SameRegs noReg [CLK_GATE n] s t) ∧
  (∀ (ag : Agent) (n : Fin 200) (v : Word) (s : State),
      s.reaches ag (CLK_GATE n) = true →
      v.getLsbD 31 = true →
      n.val < 6 →
      ∃ t, exec (.clockGate ag n v) s = .next t ∧
        Noted s t CLK_STATUS CLK_STATUS_GATE_REFUSED ∧
        SameParts [.irq, .cyc, .msi, .shu] s t ∧
        SameRegs irqReg [CLK_STATUS] s t) ∧
  (∀ (ag : Agent) (n : Fin 200) (v : Word) (s : State),
      s.reaches ag (CLK_GATE n) = true →
      v.getLsbD 31 = false →
      ∃ t, exec (.clockUngate ag n v) s = .next t ∧
        t.blks.look n = { s.blks.look n with gateReq := false, gateWait := (s.blks.look n).gateWait && (s.blks.look n).gatePwr, gated := (s.blks.look n).gatePwr && (s.blks.look n).gated } ∧
        (∀ j : Fin 200, j ≠ n → t.blks.look j = s.blks.look j) ∧
        t.on (CLK_GATE n) CLK_GATE_GATED = (t.blks.look n).gated ∧
        SameParts [.blks] s t ∧
        SameRegs noReg [CLK_GATE n] s t) ∧
  (∀ (n : Fin 200) (s : State),
      (s.blks.look n).gateWait = true →
      ∃ t, exec (.gateForceTimeout n) s = .next t ∧
        t.blks.look n = { s.blks.look n with gateWait := false, gated := true } ∧
        (∀ j : Fin 200, j ≠ n → t.blks.look j = s.blks.look j) ∧
        t.on (CLK_GATE n) CLK_GATE_GATED = (t.blks.look n).gated ∧
        Noted s t CLK_STATUS CLK_STATUS_GATE_FORCED ∧
        SameParts [.irq, .cyc, .msi, .shu, .blks] s t ∧
        SameRegs irqReg [CLK_GATE n, CLK_STATUS] s t) ∧
  (∀ (n : Fin 200) (s : State),
      ∃ t, exec (.busInterfaceIdle n) s = .next t ∧
        t.blks.look n = { s.blks.look n with hung := false, gateWait := false, gated := (s.blks.look n).gated || (s.blks.look n).gateWait } ∧
        (∀ j : Fin 200, j ≠ n → t.blks.look j = s.blks.look j) ∧
        t.on (CLK_GATE n) CLK_GATE_GATED = (t.blks.look n).gated ∧
        SameParts [.blks] s t ∧
        SameRegs noReg [CLK_GATE n] s t) ∧
  (∀ (ag : Agent) (v : Word) (s : State),
      s.reaches ag CLK_BLK_RST = true →
      v.getLsbD 31 = true →
      (s.on CLK_BLK_RST CLK_BLK_RST_GO = false ∧ 6 ≤ (bget v 0 8) ∧ (bget v 0 8) < 200) →
      ∃ t, exec (.blockReset ag v) s = .next t ∧
        t.on CLK_BLK_RST CLK_BLK_RST_GO = true ∧
        t.g CLK_BLK_RST CLK_BLK_RST_SOURCE = (bget v 0 8) ∧
        t.rd64 (CLK_BLK_RESETS) = (s.rd64 (CLK_BLK_RESETS) + 1) % 2 ^ 64 ∧
        (∀ n : Fin 200, n.val = (bget v 0 8) → t.blks.look n = { s.blks.look n with hung := false, gateWait := false, gated := (s.blks.look n).gateReq || (s.blks.look n).gatePwr, blanked := true, resetting := true }) ∧
        ((bget v 0 8) = 14 → t.blt.queue = []) ∧
        ((bget v 0 8) = 11 → t.cry.blobs = []) ∧
        ((bget v 0 8) = 8 → t.fwd.routes = []) ∧
        ((bget v 0 8) = 7 → t.cls.fifo = [])) ∧
  (∀ (ag : Agent) (v : Word) (s : State),
      s.reaches ag CLK_BLK_RST = true →
      v.getLsbD 31 = true →
      ¬ (s.on CLK_BLK_RST CLK_BLK_RST_GO = false ∧ 6 ≤ (bget v 0 8) ∧ (bget v 0 8) < 200) →
      ∃ t, exec (.blockReset ag v) s = .next t ∧
        Noted s t CLK_STATUS CLK_STATUS_RST_REFUSED ∧
        SameParts [.irq, .cyc, .msi, .shu] s t ∧
        SameRegs irqReg [CLK_BLK_RST, CLK_STATUS] s t) ∧
  (∀ (s : State),
      ∃ t, exec (.porst) s = .next t ∧
        t.rd DRF_SVN_FLOOR = s.rd DRF_SVN_FLOOR ∧
        t.rd CRY_OWNER = s.rd CRY_OWNER ∧
        (∀ a : Nat, a ≠ DRF_SVN_FLOOR → a ≠ CRY_OWNER → t.rd a = resetWord a) ∧
        t.cry = { State.reset.cry with owners := s.cry.owners } ∧
        t.ddr = State.reset.ddr ∧
        t.agents = State.reset.agents ∧
        t.irq = State.reset.irq ∧
        t.msi = State.reset.msi ∧
        t.blks = State.reset.blks ∧
        t.host = State.reset.host ∧
        t.pch = State.reset.pch ∧
        t.slots = State.reset.slots ∧
        t.rng = State.reset.rng ∧
        t.shd = State.reset.shd ∧
        t.ledger = State.reset.ledger ∧
        t.sealRot = State.reset.sealRot ∧
        t.cyc = State.reset.cyc ∧
        t.drf = State.reset.drf ∧
        t.tim = State.reset.tim ∧
        t.shu = State.reset.shu ∧
        t.blt = State.reset.blt ∧
        t.slv = State.reset.slv ∧
        t.cls = State.reset.cls ∧
        t.tmg = State.reset.tmg ∧
        t.hsl = State.reset.hsl ∧
        t.fwd = State.reset.fwd ∧
        t.trb = State.reset.trb ∧
        t.pmc = State.reset.pmc ∧
        t.tmp = { State.reset.tmp with safePin := s.tmp.safePin, pinAt := s.tmp.pinAt }) ∧
  (∀ (s : State),
      ∃ t, exec (.vddTmpLoss) s = .next t ∧
        t.rd DRF_SVN_FLOOR = s.rd DRF_SVN_FLOOR ∧
        t.rd CRY_OWNER = s.rd CRY_OWNER ∧
        (∀ a : Nat, a ≠ DRF_SVN_FLOOR → a ≠ CRY_OWNER → t.rd a = resetWord a) ∧
        t.cry = { State.reset.cry with owners := s.cry.owners } ∧
        t.ddr = State.reset.ddr ∧
        t.agents = State.reset.agents ∧
        t.irq = State.reset.irq ∧
        t.msi = State.reset.msi ∧
        t.blks = State.reset.blks ∧
        t.host = State.reset.host ∧
        t.pch = State.reset.pch ∧
        t.slots = State.reset.slots ∧
        t.rng = State.reset.rng ∧
        t.shd = State.reset.shd ∧
        t.ledger = State.reset.ledger ∧
        t.sealRot = State.reset.sealRot ∧
        t.cyc = State.reset.cyc ∧
        t.drf = State.reset.drf ∧
        t.tim = State.reset.tim ∧
        t.shu = State.reset.shu ∧
        t.blt = State.reset.blt ∧
        t.slv = State.reset.slv ∧
        t.cls = State.reset.cls ∧
        t.tmg = State.reset.tmg ∧
        t.hsl = State.reset.hsl ∧
        t.fwd = State.reset.fwd ∧
        t.trb = State.reset.trb ∧
        t.pmc = State.reset.pmc ∧
        t.tmp = { State.reset.tmp with safePin := s.tmp.safePin, pinAt := s.tmp.pinAt }) ∧
  (∀ (s : State),
      s.tmp.porst = false →
      ∃ t, exec (.srst) s = .next t ∧
        t.g TMP_LEDGER_EPOCH TMP_LEDGER_EPOCH_EPOCH = (s.g TMP_LEDGER_EPOCH TMP_LEDGER_EPOCH_EPOCH + 1) % 2 ^ TMP_LEDGER_EPOCH_EPOCH.w ∧
        t.g CLK_RST_CAUSE CLK_RST_CAUSE_CAUSE = 1 ∧
        t.tmp.srst = true ∧
        t.tmp.held = true ∧
        t.tmp.exits = s.tmp.exits ∧
        t.ddr = s.ddr ∧
        t.cry.owners = s.cry.owners ∧
        t.cry.mask = s.cry.mask ∧
        t.g TMP_SAFE TMP_SAFE_RECOVERIES = s.g TMP_SAFE TMP_SAFE_RECOVERIES ∧
        t.g CRY_STATUS CRY_STATUS_ALARM_SRC = s.g CRY_STATUS CRY_STATUS_ALARM_SRC ∧
        (∀ a : Nat, srstKeeps a = false → a ≠ CLK_RST_CAUSE → a ≠ TMP_SAFE → a ≠ CRY_STATUS → a ≠ TMP_LEDGER_EPOCH → t.rd a = resetWord a) ∧
        (∀ a : Nat, srstKeeps a = true → a ≠ TMP_LEDGER_EPOCH → s.srActive = true → t.rd a = s.rd a) ∧
        t.agents = State.reset.agents ∧
        t.irq = State.reset.irq ∧
        t.cyc = State.reset.cyc ∧
        t.msi = State.reset.msi ∧
        t.blks = State.reset.blks ∧
        t.pch = State.reset.pch ∧
        t.slots = State.reset.slots ∧
        t.rng = State.reset.rng ∧
        t.shd = State.reset.shd ∧
        t.ledger = State.reset.ledger ∧
        t.sealRot = State.reset.sealRot ∧
        t.drf = State.reset.drf ∧
        t.tim = State.reset.tim ∧
        t.shu = State.reset.shu ∧
        t.slv = State.reset.slv ∧
        t.cls = State.reset.cls ∧
        t.tmg = State.reset.tmg ∧
        t.hsl = State.reset.hsl ∧
        t.fwd = State.reset.fwd ∧
        t.trb = State.reset.trb ∧
        t.pmc = State.reset.pmc) ∧
  (∀ (s : State),
      ∃ t, exec (.resetRelease) s = .next t ∧
        t.tmp.porst = false ∧
        t.tmp.srst = false ∧
        (s.tmp.porst = true → t.cry.maskOn = true ∧ t.cry.kwk = !s.cry.owners.isEmpty) ∧
        (s.tmp.porst = false → t.cry = s.cry) ∧
        SameParts [.fresh, .tmp, .cry] s t ∧
        SameRegs noReg [] s t) ∧
  (∀ (s : State),
      s.tmp.held = true →
      s.tmp.porst = false →
      s.tmp.srst = false →
      s.on (CLK_PLL 0) CLK_PLL_LOCKED = true →
      (∀ r : Fin 10, s.on (TMP_WATCH r) TMP_WATCH_TRIPPED = false) →
      ∃ t, exec (.blocksRelease) s = .next t ∧
        (∀ n : Fin 200, t.blks.look n = { s.blks.look n with released := true }) ∧
        t.tmp = { s.tmp with held := false } ∧
        t.tim = { s.tim with runs := true } ∧
        t.drf.busy = true ∧
        t.drf.boot = true ∧
        t.drf.src = 0 ∧
        t.g DRF_STATUS DRF_STATUS_STATE = 1 ∧
        SameParts [.blks, .tmp, .drf, .tim] s t ∧
        SameRegs noReg [DRF_CTL, DRF_STATUS] s t) ∧
  (∀ (s : State),
      (s.tmp.held = false ∨ s.tmp.porst = true ∨ s.tmp.srst = true ∨ s.on (CLK_PLL 0) CLK_PLL_LOCKED = false ∨ ∃ r : Fin 10, s.on (TMP_WATCH r) TMP_WATCH_TRIPPED = true) →
      ∃ t, exec (.blocksRelease) s = .next t ∧
        SameParts [] s t ∧
        SameRegs noReg [] s t) ∧
  (∀ (s : State),
      s.tmp.porst = true →
      ∃ t, exec (.srst) s = .next t ∧
        SameParts [] s t ∧
        SameRegs noReg [] s t) ∧
  (∀ (n : Fin 200) (s : State),
      (s.blks.look n).gateWait = false →
      ∃ t, exec (.gateForceTimeout n) s = .next t ∧
        SameParts [] s t ∧
        SameRegs noReg [] s t)

/-- While adaptive control acts on a rail, a period brings its voltage to the lowest step of 5 mV that is enough, within its bounds,
in moves that end within the period (log entry 95), and its watch window to 5 percent around it; an alarm raises it by 10 mV. The
third failed PMBus transaction in a row freezes its rail; a good one starts over. A period moves the target of each AUTO cluster
by 100 MHz within floor and cap, up beyond HI_PCT busy, down below LO_PCT; a change that completes gives the clock the target it
began with, and a target that came meanwhile starts the next. Gating a cluster that no channel or pool role needs loses its
threads and local memory and stops its clock, else it is refused; ungating starts it at its target. A self-refresh request enters
once no load applies and leaves when no longer asked for, unless the PLLs coast. A sample replaces the median of its sensor's last
three, and Tj is the highest; 105 C is noted as it is reached. A throttle step lowers every cap by 100 MHz at the limit and raises
it 5 C below. A watch entry that COUNT samples find outside its window trips and, by its ACT, alerts and adds its class to the
fault events of its cycle, a supply with the audits VOID and the transmitters muted; where nothing of this holds, nothing changes. -/
def Obligations.PowerRailsClocksAndTemperature : Prop :=
  (∀ (need : List Nat) (i : Fin 5) (v : Nat) (s : State),
      need[i.val]? = some v →
      s.railLive (i + 1) = true →
      ((s.railClamp (i + 1) (cdiv (v) 5 * 5))) < 2 ^ PWR_RAIL_CMD_MV.w →
      ((s.railClamp (i + 1) (cdiv (v) 5 * 5))) ≠ s.g (PWR_RAIL (i + 1)) PWR_RAIL_CMD_MV →
      ∃ t, exec (.avsPeriod need) s = .next t ∧
        t.g (PWR_RAIL (i + 1)) PWR_RAIL_CMD_MV = ((s.railClamp (i + 1) (cdiv (v) 5 * 5))) ∧
        t.rd (TMP_WATCH (i + 1) + 4) = word (cdiv (((s.railClamp (i + 1) (cdiv (v) 5 * 5))) * 95) 100) ∧
        t.rd (TMP_WATCH (i + 1) + 8) = word (((s.railClamp (i + 1) (cdiv (v) 5 * 5))) * 105 / 100) ∧
        SameParts [] s t ∧
        SameRegs (fun a => regsIn (PWR_RAIL 1) (PWR_RAIL 6) a || regsIn (TMP_WATCH 1) (TMP_WATCH 6) a) [] s t) ∧
  (∀ (need : List Nat) (s : State),
      (∀ i : Fin 5, s.railLive (i + 1) = false ∨ ∀ v, need[i.val]? = some v → s.railClamp (i + 1) (cdiv v 5 * 5) = s.g (PWR_RAIL (i + 1)) PWR_RAIL_CMD_MV) →
      ∃ t, exec (.avsPeriod need) s = .next t ∧
        SameParts [] s t ∧
        SameRegs noReg [] s t) ∧
  (∀ (r : Fin 5) (s : State),
      s.railLive (r + 1) = true →
      (s.railClamp (r + 1) (s.railMv (r + 1) + 10)) < 2 ^ PWR_RAIL_CMD_MV.w →
      ∃ t, exec (.avsMarginAlarm r) s = .next t ∧
        t.g (PWR_RAIL (r + 1)) PWR_RAIL_CMD_MV = (s.railClamp (r + 1) (s.railMv (r + 1) + 10)) ∧
        t.rd (TMP_WATCH (r + 1) + 4) = word (cdiv ((s.railClamp (r + 1) (s.railMv (r + 1) + 10)) * 95) 100) ∧
        t.rd (TMP_WATCH (r + 1) + 8) = word ((s.railClamp (r + 1) (s.railMv (r + 1) + 10)) * 105 / 100) ∧
        SameParts [] s t ∧
        SameRegs noReg [PWR_RAIL (r + 1) + 8, TMP_WATCH (r + 1) + 4, TMP_WATCH (r + 1) + 8] s t) ∧
  (∀ (r : Fin 5) (s : State),
      s.railLive (r + 1) = false →
      ∃ t, exec (.avsMarginAlarm r) s = .next t ∧
        SameParts [] s t ∧
        SameRegs noReg [] s t) ∧
  (∀ (r : Fin 10) (iout : Option Word) (s : State),
      ∃ t, exec (.pmbusTransaction r true iout) s = .next t ∧
        t.tmp.pmbTries.look r = 0 ∧
        t.rd (PWR_RAIL r + 12) = iout.getD (s.rd (PWR_RAIL r + 12)) ∧
        SameParts [.tmp] s t ∧
        SameRegs noReg [PWR_RAIL r + 12] s t) ∧
  (∀ (r : Fin 10) (iout : Option Word) (s : State),
      s.tmp.pmbTries.look r < 2 →
      ∃ t, exec (.pmbusTransaction r false iout) s = .next t ∧
        t.tmp = { s.tmp with pmbTries := s.tmp.pmbTries.put r (s.tmp.pmbTries.look r + 1) } ∧
        SameParts [.tmp] s t ∧
        SameRegs noReg [] s t) ∧
  (∀ (r : Fin 10) (iout : Option Word) (s : State),
      2 ≤ s.tmp.pmbTries.look r →
      ∃ t, exec (.pmbusTransaction r false iout) s = .next t ∧
        t.tmp.pmbTries.look r = 0 ∧
        t.tmp.pmbTries.look (16 + r.val) = 0 ∧
        t.on (PWR_RAIL r) PWR_RAIL_FROZEN = true ∧
        Noted s t PWR_STATUS PWR_STATUS_PMBUS_FAIL ∧
        (r.val < 2 → t.fresh = s.fresh) ∧
        SameParts [.fresh, .irq, .cyc, .msi, .tmp, .shu] s t) ∧
  (∀ (busy : List (Nat × Nat)) (k : Fin 16) (b : Nat × Nat) (s : State),
      busy[k.val]? = some b →
      s.on (PWR_SHU k) PWR_SHU_MODE = true →
      s.gatedK k = false →
      ∃ t, exec (.clusterFreqPeriod busy) s = .next t ∧
        t.tmp.freqTarget.look k = max (s.shuFloor k) (min ((if s.g (PWR_SHU k) PWR_SHU_HI_PCT * b.2 < 100 * b.1 then (if s.tmp.freqTarget.look k = 0 then s.g (SHU_CLK k) SHU_CLK_MHZ else s.tmp.freqTarget.look k) + 100 else if 100 * b.1 < s.g (PWR_SHU k) PWR_SHU_LO_PCT * b.2 then (if s.tmp.freqTarget.look k = 0 then s.g (SHU_CLK k) SHU_CLK_MHZ else s.tmp.freqTarget.look k) - 100 else (if s.tmp.freqTarget.look k = 0 then s.g (SHU_CLK k) SHU_CLK_MHZ else s.tmp.freqTarget.look k)) / 100 * 100) (s.shuCap k)) ∧
        SameParts [.tmp] s t ∧
        SameRegs (fun a => (List.range 16).any (fun j => decide (a = PWR_SHU j + 4))) [] s t) ∧
  (∀ (busy : List (Nat × Nat)) (k : Fin 16) (s : State),
      (busy[k.val]? = none ∨ s.on (PWR_SHU k) PWR_SHU_MODE = false ∨ s.gatedK k = true) →
      ∃ t, exec (.clusterFreqPeriod busy) s = .next t ∧
        t.tmp.freqTarget.look k = s.tmp.freqTarget.look k ∧
        t.tmp.freqTarget.look (16 + k.val) = s.tmp.freqTarget.look (16 + k.val) ∧
        t.rd (PWR_SHU k + 4) = s.rd (PWR_SHU k + 4) ∧
        SameParts [.tmp] s t ∧
        SameRegs (fun a => (List.range 16).any (fun j => decide (a = PWR_SHU j + 4))) [] s t) ∧
  (∀ (k : Fin 16) (s : State),
      s.tmp.freqTarget.look (16 + k.val) ≠ 0 →
      s.tmp.freqTarget.look (16 + k.val) < 2 ^ SHU_CLK_MHZ.w →
      s.gatedK k = false →
      ∃ t, exec (.clusterFreqChange k) s = .next t ∧
        t.g (SHU_CLK k) SHU_CLK_MHZ = s.tmp.freqTarget.look (16 + k.val) ∧
        t.tmp.freqTarget.look (16 + k.val) = (if s.tmp.freqTarget.look k = s.tmp.freqTarget.look (16 + k.val) then 0 else s.tmp.freqTarget.look k) ∧
        t.tmp.freqTarget.look k = s.tmp.freqTarget.look k ∧
        (s.on (CLK_PLL (7 + k)) CLK_PLL_LOCKED = true → t.g (CLK_PLL (7 + k)) CLK_PLL_MHZ = s.tmp.freqTarget.look (16 + k.val)) ∧
        SameParts [.tmp] s t ∧
        SameRegs noReg [SHU_CLK k, CLK_PLL (7 + k)] s t) ∧
  (∀ (k : Fin 16) (s : State),
      (s.tmp.freqTarget.look (16 + k.val) = 0 ∨ s.gatedK k = true) →
      ∃ t, exec (.clusterFreqChange k) s = .next t ∧
        SameParts [] s t ∧
        SameRegs noReg [] s t) ∧
  (∀ (ag : Agent) (k : Fin 16) (v : Word) (s : State),
      s.reaches ag (PWR_SHU k) = true →
      v.getLsbD 31 = true →
      s.gatedK k = false →
      ((s.wrRW (PWR_SHU k) v).shuRetarget k).gateBad k = false →
      ∃ t, exec (.clusterGate ag k v) s = .next t ∧
        t.gatedK k = true ∧
        t.g (SHU_CLK k) SHU_CLK_MHZ = 0 ∧
        (t.blks.look (16 + k)).gated = true ∧
        t.on (CLK_GATE (16 + k)) CLK_GATE_GATED = true ∧
        (∀ (p : Fin 256) (j : Fin 8), p.val / 16 = k.val → t.thread p j = default) ∧
        (∀ a : Nat, 2 ^ 20 * k.val ≤ a → a < 2 ^ 20 * (k.val + 1) → t.shu.loc.look a = 0) ∧
        t.tmp.freqTarget.look (16 + k.val) = 0 ∧
        t.shu.shared = s.shu.shared ∧
        SameParts [.irq, .cyc, .msi, .blks, .pch, .shd, .tmp, .shu, .pmc] s t) ∧
  (∀ (ag : Agent) (k : Fin 16) (v : Word) (s : State),
      s.reaches ag (PWR_SHU k) = true →
      v.getLsbD 31 = true →
      s.gatedK k = false →
      ((s.wrRW (PWR_SHU k) v).shuRetarget k).gateBad k = true →
      ∃ t, exec (.clusterGate ag k v) s = .next t ∧
        Noted s t PWR_STATUS PWR_STATUS_GATE_REFUSED ∧
        t.gatedK k = false ∧
        t.on (PWR_SHU k) PWR_SHU_GATE = false ∧
        t.shu.threads = s.shu.threads ∧
        SameParts [.irq, .cyc, .msi, .blks, .pch, .shd, .tmp, .shu, .pmc] s t) ∧
  (∀ (ag : Agent) (k : Fin 16) (v : Word) (s : State),
      s.reaches ag (PWR_SHU k) = true →
      v.getLsbD 31 = s.gatedK k →
      ∃ t, exec (.clusterGate ag k v) s = .next t ∧
        t.gatedK k = s.gatedK k ∧
        SameParts [.tmp] s t ∧
        SameRegs noReg [PWR_SHU k, PWR_SHU k + 4] s t) ∧
  (∀ (ag : Agent) (k : Fin 16) (v : Word) (s : State),
      s.reaches ag (PWR_SHU k) = true →
      v.getLsbD 31 = false →
      s.gatedK k = true →
      ∃ t, exec (.clusterUngate ag k v) s = .next t ∧
        t.gatedK k = false ∧
        t.blks.look (16 + k) = { s.blks.look (16 + k) with gatePwr := false, gated := (s.blks.look (16 + k)).gateReq } ∧
        t.tmp.freqTarget.look (16 + k.val) = 0 ∧
        (t.tmp.freqTarget.look k < 2 ^ SHU_CLK_MHZ.w → t.g (SHU_CLK k) SHU_CLK_MHZ = t.tmp.freqTarget.look k) ∧
        SameParts [.irq, .cyc, .msi, .blks, .pch, .shd, .tmp, .shu, .pmc] s t) ∧
  (∀ (ag : Agent) (v : Word) (s : State),
      s.reaches ag PWR_MEM = true →
      v.getLsbD 31 = true →
      s.srActive = false →
      ∃ t, exec (.selfRefreshRequest ag v) s = .next t ∧
        t.tmp = { s.tmp with srEntering := true, srExit := false } ∧
        t.on PWR_MEM PWR_MEM_SR_REQ = true ∧
        SameParts [.tmp] s t ∧
        SameRegs noReg [PWR_MEM] s t) ∧
  (∀ (ag : Agent) (v : Word) (s : State),
      s.reaches ag PWR_MEM = true →
      v.getLsbD 31 = true →
      s.srActive = true →
      ∃ t, exec (.selfRefreshRequest ag v) s = .next t ∧
        t.srActive = true ∧
        SameParts [] s t ∧
        SameRegs noReg [PWR_MEM] s t) ∧
  (∀ (ag : Agent) (v : Word) (s : State),
      s.reaches ag PWR_MEM = true →
      v.getLsbD 31 = false →
      s.tmp.srEntering = false →
      s.coasting = true →
      ∃ t, exec (.selfRefreshExit ag v) s = .next t ∧
        t.srActive = s.srActive ∧
        SameParts [] s t ∧
        SameRegs noReg [PWR_MEM] s t) ∧
  (∀ (ag : Agent) (v : Word) (s : State),
      s.reaches ag PWR_MEM = true →
      v.getLsbD 31 = false →
      s.tmp.srEntering = false →
      s.coasting = false →
      ∃ t, exec (.selfRefreshExit ag v) s = .next t ∧
        t.srActive = false ∧
        t.on PWR_MEM PWR_MEM_SR_REQ = false ∧
        (s.srActive = true → Noted s t PWR_STATUS PWR_STATUS_SR_CHG ∧ ∀ m : Fin 8, s.on (MEM_STATUS m) MEM_STATUS_RANKS_PRESENT = true → t.on (MEM_STATUS m) MEM_STATUS_SELF_REFRESH = false) ∧
        SameParts [.irq, .cyc, .msi, .shu] s t ∧
        SameRegs (fun a => irqReg a || regsIn (MEM_STATUS 0) (MEM_STATUS 8) a) [PWR_MEM, PWR_STATUS] s t) ∧
  (∀ (ag : Agent) (v : Word) (s : State),
      s.reaches ag PWR_MEM = true →
      v.getLsbD 31 = false →
      s.tmp.srEntering = true →
      ∃ t, exec (.selfRefreshExit ag v) s = .next t ∧
        t.tmp = { s.tmp with srExit := true } ∧
        t.srActive = s.srActive ∧
        SameParts [.tmp] s t ∧
        SameRegs noReg [PWR_MEM] s t) ∧
  (∀ (s : State),
      s.tmp.srEntering = true →
      s.g DRF_STATUS DRF_STATUS_STATE ≠ 4 →
      (s.tmp.srExit = false ∨ s.coasting = true) →
      ∃ t, exec (.selfRefreshEntered) s = .next t ∧
        t.srActive = true ∧
        t.tmp.srEntering = false ∧
        t.tmp.srExit = false ∧
        (s.srActive = false → ∀ m : Fin 8, s.on (MEM_STATUS m) MEM_STATUS_RANKS_PRESENT = true → t.on (MEM_STATUS m) MEM_STATUS_SELF_REFRESH = true) ∧
        SameParts [.irq, .cyc, .msi, .tmp, .shu, .blt] s t) ∧
  (∀ (s : State),
      s.tmp.srEntering = true →
      s.g DRF_STATUS DRF_STATUS_STATE ≠ 4 →
      s.tmp.srExit = true →
      s.coasting = false →
      ∃ t, exec (.selfRefreshEntered) s = .next t ∧
        t.srActive = false ∧
        t.tmp.srEntering = false ∧
        t.tmp.srExit = false ∧
        SameParts [.irq, .cyc, .msi, .tmp, .shu, .blt] s t) ∧
  (∀ (s : State),
      (s.tmp.srEntering = false ∨ s.g DRF_STATUS DRF_STATUS_STATE = 4) →
      ∃ t, exec (.selfRefreshEntered) s = .next t ∧
        SameParts [] s t ∧
        SameRegs noReg [] s t) ∧
  (∀ (l : List Int) (i : Fin 24) (x : Int) (s : State),
      l[i.val]? = some x →
      -32768 ≤ median ((x :: s.tmp.temps.look i).take 3) →
      median ((x :: s.tmp.temps.look i).take 3) < 32768 →
      ∃ t, exec (.thermalSample l) s = .next t ∧
        t.tmp.temps.look i = ((x :: s.tmp.temps.look i).take 3) ∧
        t.rd (PWR_TEMP i) = word (toBits 16 (median ((x :: s.tmp.temps.look i).take 3))) ∧
        (∀ j : Fin 24, t.tmp.temps.look j ≠ [] → (-32768 : Int) ≤ median (t.tmp.temps.look j) → median (t.tmp.temps.look j) < 32768 → (∀ m : Fin 24, median (t.tmp.temps.look m) ≤ median (t.tmp.temps.look j) ∨ t.tmp.temps.look m = []) → sext 16 (t.g PWR_THERM PWR_THERM_TJ) = median (t.tmp.temps.look j) ∧ (median (t.tmp.temps.look j) ≥ 1050 → sext 16 (s.g PWR_THERM PWR_THERM_TJ) < 1050 → Noted s t PWR_STATUS PWR_STATUS_TJ_LIMIT)) ∧
        SameParts [.irq, .cyc, .msi, .shu, .tmp] s t ∧
        SameRegs (fun a => irqReg a || regsIn (PWR_TEMP 0) (PWR_TEMP 24) a) [PWR_THERM, PWR_STATUS, TMP_ALERT] s t) ∧
  (∀ (s : State),
      ∃ t, exec (.throttleStep) s = .next t ∧
        (∀ k : Fin 16, t.tmp.thermCap.look k = (if ((min (s.g PWR_THERM PWR_THERM_T_THROTTLE) 1050 : Nat) : Int) ≤ (sext 16 (s.g PWR_THERM PWR_THERM_TJ)) then max (s.shuFloor k) ((if (s.tmp.thermCap.look k) = 0 then 1200 else (s.tmp.thermCap.look k)) - 100) else if (sext 16 (s.g PWR_THERM PWR_THERM_TJ)) < ((min (s.g PWR_THERM PWR_THERM_T_THROTTLE) 1050 : Nat) : Int) - 50 then (if (s.tmp.thermCap.look k) = 0 ∨ 1200 ≤ (s.tmp.thermCap.look k) + 100 then 0 else (s.tmp.thermCap.look k) + 100) else (s.tmp.thermCap.look k))) ∧
        t.on PWR_STATUS PWR_STATUS_THROTTLE = decide (∃ k : Fin 16, t.tmp.thermCap.look k ≠ 0) ∧
        (t.on PWR_STATUS PWR_STATUS_THROTTLE ≠ s.on PWR_STATUS PWR_STATUS_THROTTLE → Noted s t PWR_STATUS PWR_STATUS_THROTTLE_CHG) ∧
        SameParts [.irq, .cyc, .msi, .shu, .tmp] s t ∧
        SameRegs (fun a => irqReg a || (List.range 16).any (fun j => decide (a = PWR_SHU j + 4))) [PWR_STATUS] s t) ∧
  (∀ (e : Fin 64) (out : Bool) (n : Nat) (s : State),
      s.on (TMP_WATCH e) TMP_WATCH_VALID = true →
      s.on (TMP_WATCH e) TMP_WATCH_TRIPPED ≠ out →
      atLeast1 (s.g (TMP_WATCH e) TMP_WATCH_COUNT) ≤ n →
      s.watchDue e = true →
      s.g (TMP_WATCH e) TMP_WATCH_ACT ≤ 1 →
      ∃ t, exec (.watchTrip e out n) s = .next t ∧
        t.on (TMP_WATCH e) TMP_WATCH_TRIPPED = out ∧
        Noted s t (TMP_WATCH e) TMP_WATCH_EVT ∧
        (out = true → s.g (TMP_WATCH e) TMP_WATCH_ACT = 1 → Noted s t TMP_ALERT TMP_ALERT_ALERT_EVT) ∧
        SameParts [.irq, .cyc, .msi, .shu] s t ∧
        SameRegs irqReg [TMP_WATCH e + 12, TMP_ALERT] s t) ∧
  (∀ (e : Fin 64) (out : Bool) (n : Nat) (s : State),
      s.on (TMP_WATCH e) TMP_WATCH_VALID = true →
      s.on (TMP_WATCH e) TMP_WATCH_TRIPPED ≠ out →
      atLeast1 (s.g (TMP_WATCH e) TMP_WATCH_COUNT) ≤ n →
      s.watchDue e = true →
      out = false →
      2 ≤ s.g (TMP_WATCH e) TMP_WATCH_ACT →
      ∃ t, exec (.watchTrip e out n) s = .next t ∧
        t.on (TMP_WATCH e) TMP_WATCH_TRIPPED = false ∧
        Noted s t (TMP_WATCH e) TMP_WATCH_EVT ∧
        t.tmp = (if (watchClass (s.g (TMP_WATCH e) TMP_WATCH_QTY)) = 0x30 then { s.tmp with watchAt := s.tmp.watchAt.put 64 s.now } else s.tmp) ∧
        SameParts [.irq, .cyc, .msi, .shu, .tmp] s t ∧
        SameRegs irqReg [TMP_WATCH e + 12, TMP_ALERT] s t) ∧
  (∀ (e : Fin 64) (out : Bool) (n : Nat) (s : State),
      s.on (TMP_WATCH e) TMP_WATCH_VALID = true →
      s.on (TMP_WATCH e) TMP_WATCH_TRIPPED ≠ out →
      atLeast1 (s.g (TMP_WATCH e) TMP_WATCH_COUNT) ≤ n →
      s.watchDue e = true →
      out = true →
      2 ≤ s.g (TMP_WATCH e) TMP_WATCH_ACT →
      s.causeLive (watchClass (s.g (TMP_WATCH e) TMP_WATCH_QTY)) = false →
      s.faultWaits (watchClass (s.g (TMP_WATCH e) TMP_WATCH_QTY)) = false →
      ∃ t, exec (.watchTrip e out n) s = .next t ∧
        t.on (TMP_WATCH e) TMP_WATCH_TRIPPED = true ∧
        Noted s t (TMP_WATCH e) TMP_WATCH_EVT ∧
        Noted s t TMP_ALERT TMP_ALERT_ALERT_EVT ∧
        (e.val < 10 → Noted s t PMC_AUDIT_STATUS PMC_AUDIT_STATUS_VOID ∧ t.tmp.mute = true ∧ ∀ c : Fin 64, t.txdis c = true) ∧
        t.cyc.faults = s.cyc.faults ++ [⟨(watchClass (s.g (TMP_WATCH e) TMP_WATCH_QTY)), 0, false, false⟩] ∧
        SameParts [.irq, .cyc, .msi, .shu, .cyc, .tmp, .pch] s t ∧
        SameRegs irqReg [TMP_WATCH e + 12, TMP_ALERT, PMC_AUDIT_STATUS] s t) ∧
  (∀ (e : Fin 64) (out : Bool) (n : Nat) (s : State),
      s.on (TMP_WATCH e) TMP_WATCH_VALID = true →
      s.on (TMP_WATCH e) TMP_WATCH_TRIPPED ≠ out →
      atLeast1 (s.g (TMP_WATCH e) TMP_WATCH_COUNT) ≤ n →
      s.watchDue e = true →
      out = true →
      2 ≤ s.g (TMP_WATCH e) TMP_WATCH_ACT →
      (s.causeLive (watchClass (s.g (TMP_WATCH e) TMP_WATCH_QTY)) = true ∨ s.faultWaits (watchClass (s.g (TMP_WATCH e) TMP_WATCH_QTY)) = true) →
      ∃ t, exec (.watchTrip e out n) s = .next t ∧
        t.on (TMP_WATCH e) TMP_WATCH_TRIPPED = true ∧
        Noted s t (TMP_WATCH e) TMP_WATCH_EVT ∧
        Noted s t TMP_ALERT TMP_ALERT_ALERT_EVT ∧
        (e.val < 10 → Noted s t PMC_AUDIT_STATUS PMC_AUDIT_STATUS_VOID ∧ t.tmp.mute = true ∧ ∀ c : Fin 64, t.txdis c = true) ∧
        t.cyc.faults = s.cyc.faults ∧
        SameParts [.irq, .cyc, .msi, .shu, .cyc, .tmp, .pch] s t ∧
        SameRegs irqReg [TMP_WATCH e + 12, TMP_ALERT, PMC_AUDIT_STATUS] s t) ∧
  (∀ (e : Fin 64) (out : Bool) (n : Nat) (s : State),
      (s.on (TMP_WATCH e) TMP_WATCH_VALID = false ∨ s.on (TMP_WATCH e) TMP_WATCH_TRIPPED = out ∨ n < atLeast1 (s.g (TMP_WATCH e) TMP_WATCH_COUNT) ∨ s.watchDue e = false) →
      ∃ t, exec (.watchTrip e out n) s = .next t ∧
        SameParts [] s t ∧
        SameRegs noReg [] s t)

/-- Only aligned 32-bit accesses within BAR0 exist: a register access with another offset is refused by the name of its row. So are a
SEALED_KEY part that is not 24 bytes, an OMCI message longer than 2,032 bytes, which no ring entry holds, and an observation of
DDR-5 training without one entry per channel. That such a term answers a refusal, and no next state, is the model's form of what
cannot be sent (log entry 53). -/
def Obligations.IllFormedOperandsAreRefused : Prop :=
  (∀ (ag : Agent) (off : Nat) (be : Fin 16) (v : Word) (r : Bool) (s : State), offOk off = false →
      exec (.registerWrite ag off be v) s = .refused (.illFormed "REGISTER_WRITE") ∧
      exec (.writeHiHold ag off be v) s = .refused (.illFormed "WRITE_HI_HOLD") ∧
      exec (.writeLoPair ag off be v) s = .refused (.illFormed "WRITE_LO_PAIR") ∧
      exec (.sqcWriteClear ag off be v) s = .refused (.illFormed "SQC_WRITE_CLEAR") ∧
      exec (.hmwWrite ag off be v) s = .refused (.illFormed "HMW_WRITE") ∧
      exec (.intEnWrite ag off be v) s = .refused (.illFormed "INT_EN_WRITE") ∧
      exec (.readLoSnapshot ag off) s = .refused (.illFormed "READ_LO_SNAPSHOT") ∧
      exec (.accessTimeout ag off r) s = .refused (.illFormed "ACCESS_TIMEOUT")) ∧
  (∀ (c : Fin 64) (slot : Fin 256) (part : Fin 2) (idx : Fin 256) (data : List Byte) (s : State), data.length ≠ 24 →
      exec (.sealedKey c slot part idx data) s = .refused (.illFormed "SEALED_KEY")) ∧
  (∀ (k : Fin 16) (c : Fin 64) (onu : Fin 1024) (msg : List Byte) (full : Bool) (s : State), 2032 < msg.length →
      exec (.omciRx k c onu msg full) s = .refused (.illFormed "OMCI_RX")) ∧
  ∀ (obs : List DimmObs) (s : State), dimmsOk obs = false →
    exec (.ddrTrainingDone obs) s = .refused (.illFormed "DDR_TRAINING_DONE")
end

