-- ==== Sys2Proof/Laws/Tab.lean ====
section
/-! SUPPORT. What reading and writing a sparse table do, and that every operation keeps the canonical form. -/
namespace Sys2Proof.Machine

variable {α : Type}

theorem tget_tins_same (d v : α) (t : Tab α) (k : Nat) : tget d (tins t k v) k = v := by
  induction t with
  | nil => simp [tins, tget]
  | cons e t ih =>
    obtain ⟨k', v'⟩ := e
    simp only [tins]
    split
    · simp [tget]
    · split
      · simp [tget]
      · rename_i h; simp [tget, h, ih]

theorem tget_tins_ne (d v : α) (t : Tab α) {k j : Nat} (h : j ≠ k) : tget d (tins t k v) j = tget d t j := by
  induction t with
  | nil => simp [tins, tget, Ne.symm h]
  | cons e t ih =>
    obtain ⟨k', v'⟩ := e
    simp only [tins]
    split
    · simp [tget, Ne.symm h]
    · split
      · rename_i h2; subst h2; simp [tget, Ne.symm h]
      · simp [tget, ih]

theorem tget_tdel_same (d : α) (t : Tab α) (k : Nat) : tget d (tdel t k) k = d := by
  induction t with
  | nil => rfl
  | cons e t ih =>
    obtain ⟨k', v'⟩ := e
    simp only [tdel]
    split
    · exact ih
    · rename_i h; simp [tget, h, ih]

theorem tget_tdel_ne (d : α) (t : Tab α) {k j : Nat} (h : j ≠ k) : tget d (tdel t k) j = tget d t j := by
  induction t with
  | nil => rfl
  | cons e t ih =>
    obtain ⟨k', v'⟩ := e
    simp only [tdel]
    split
    · rename_i h2; subst h2; simp [tget, Ne.symm h, ih]
    · simp [tget, ih]

/-- A written key reads as what was written. -/
@[simp] theorem tget_tset_same [DecidableEq α] (d v : α) (t : Tab α) (k : Nat) : tget d (tset d t k v) k = v := by
  unfold tset; split
  · rename_i h; rw [tget_tdel_same, h]
  · exact tget_tins_same d v t k

/-- A write leaves every other key as it was. -/
theorem tget_tset_ne [DecidableEq α] (d d' v : α) (t : Tab α) {k j : Nat} (h : j ≠ k) :
    tget d' (tset d t k v) j = tget d' t j := by
  unfold tset; split
  · exact tget_tdel_ne d' t h
  · exact tget_tins_ne d' v t h

/-- Reading after a write, in one equation. -/
theorem tget_tset [DecidableEq α] (d v : α) (t : Tab α) (k j : Nat) :
    tget d (tset d t k v) j = if j = k then v else tget d t j := by
  split
  · rename_i h; subst h; simp
  · rename_i h; exact tget_tset_ne d d v t h

theorem risingFrom_mono (t : Tab α) {a b : Nat} (h : a ≤ b) (ht : risingFrom b t = true) : risingFrom a t = true := by
  cases t with
  | nil => rfl
  | cons e t =>
    obtain ⟨k, v⟩ := e
    simp only [risingFrom, Bool.and_eq_true, decide_eq_true_eq] at *
    exact ⟨by omega, ht.2⟩

theorem risingFrom_tins (t : Tab α) (lo k : Nat) (v : α) (hk : lo ≤ k) (ht : risingFrom lo t = true) :
    risingFrom lo (tins t k v) = true := by
  induction t generalizing lo with
  | nil => simp [tins, risingFrom, hk]
  | cons e t ih =>
    obtain ⟨k', v'⟩ := e
    simp only [risingFrom, Bool.and_eq_true, decide_eq_true_eq] at ht
    simp only [tins]
    split
    · rename_i h
      simp only [risingFrom, Bool.and_eq_true, decide_eq_true_eq]
      exact ⟨hk, by omega, ht.2⟩
    · split
      · rename_i h2; subst h2; simp only [risingFrom, Bool.and_eq_true, decide_eq_true_eq]; exact ht
      · simp only [risingFrom, Bool.and_eq_true, decide_eq_true_eq]
        exact ⟨ht.1, ih (k' + 1) (by omega) ht.2⟩

theorem risingFrom_tdel (t : Tab α) (lo k : Nat) (ht : risingFrom lo t = true) : risingFrom lo (tdel t k) = true := by
  induction t generalizing lo with
  | nil => rfl
  | cons e t ih =>
    obtain ⟨k', v'⟩ := e
    simp only [risingFrom, Bool.and_eq_true, decide_eq_true_eq] at ht
    simp only [tdel]
    split
    · exact risingFrom_mono _ (by omega) (ih (k' + 1) ht.2)
    · simp only [risingFrom, Bool.and_eq_true, decide_eq_true_eq]
      exact ⟨ht.1, ih (k' + 1) ht.2⟩

theorem risingFrom_filter (t : Tab α) (lo : Nat) (p : Nat × α → Bool) (ht : risingFrom lo t = true) :
    risingFrom lo (t.filter p) = true := by
  induction t generalizing lo with
  | nil => rfl
  | cons e t ih =>
    obtain ⟨k', v'⟩ := e
    simp only [risingFrom, Bool.and_eq_true, decide_eq_true_eq] at ht
    rw [List.filter_cons]
    split
    · simp only [risingFrom, Bool.and_eq_true, decide_eq_true_eq]
      exact ⟨ht.1, ih (k' + 1) ht.2⟩
    · exact risingFrom_mono _ (by omega) (ih (k' + 1) ht.2)

theorem mem_tins {t : Tab α} {k : Nat} {v : α} {e : Nat × α} (h : e ∈ tins t k v) : e = (k, v) ∨ e ∈ t := by
  induction t with
  | nil => simp [tins] at h; exact .inl h
  | cons e' t ih =>
    obtain ⟨k', v'⟩ := e'
    simp only [tins] at h
    split at h
    · simpa using h
    · split at h
      · rcases List.mem_cons.mp h with h | h
        · exact .inl h
        · exact .inr (List.mem_cons_of_mem _ h)
      · rcases List.mem_cons.mp h with h | h
        · exact .inr (h ▸ List.mem_cons_self)
        · exact (ih h).imp id (List.mem_cons_of_mem _)

theorem mem_tdel {t : Tab α} {k : Nat} {e : Nat × α} (h : e ∈ tdel t k) : e ∈ t := by
  induction t with
  | nil => simp [tdel] at h
  | cons e' t ih =>
    obtain ⟨k', v'⟩ := e'
    simp only [tdel] at h
    split at h
    · exact List.mem_cons_of_mem _ (ih h)
    · simp only [List.mem_cons] at h ⊢
      rcases h with h | h
      · exact .inl h
      · exact .inr (ih h)

/-- A write keeps the canonical form. -/
theorem twf_tset [DecidableEq α] (d : Nat → α) (t : Tab α) (k : Nat) (v : α) (ht : twf d t = true) :
    twf d (tset (d k) t k v) = true := by
  unfold twf at *
  simp only [Bool.and_eq_true, List.all_eq_true, decide_eq_true_eq] at *
  unfold tset; split
  · exact ⟨risingFrom_tdel _ _ _ ht.1, fun e he => ht.2 e (mem_tdel he)⟩
  · rename_i h
    refine ⟨risingFrom_tins _ _ _ _ (Nat.zero_le _) ht.1, fun e he => ?_⟩
    rcases mem_tins he with rfl | he
    · exact h
    · exact ht.2 e he

/-- Dropping keys keeps the canonical form. -/
theorem twf_drop [DecidableEq α] (d : Nat → α) (t : Tab α) (p : Nat → Bool) (ht : twf d t = true) :
    twf d (Tab.drop t p) = true := by
  unfold twf Tab.drop at *
  simp only [Bool.and_eq_true, List.all_eq_true, decide_eq_true_eq] at *
  exact ⟨risingFrom_filter _ _ _ ht.1, fun e he => ht.2 e ((List.mem_filter.mp he).1)⟩

@[simp] theorem twf_nil [DecidableEq α] (d : Nat → α) : twf d ([] : Tab α) = true := rfl

/-- Dropping keys leaves every other key as it was. -/
theorem tget_drop_ne (t : Tab α) (p : Nat → Bool) (d : α) (k : Nat) (h : p k = false) :
    tget d (Tab.drop t p) k = tget d t k := by
  unfold Tab.drop
  induction t with
  | nil => rfl
  | cons e t ih =>
    obtain ⟨k', v'⟩ := e
    rw [List.filter_cons]
    by_cases hk : k' = k
    · subst hk; simp [h, tget]
    · split <;> simp [tget, hk, ih]

/-- A dropped key reads as an unlisted one. -/
theorem tget_drop_of (t : Tab α) (p : Nat → Bool) (d : α) (k : Nat) (h : p k = true) : tget d (Tab.drop t p) k = d := by
  unfold Tab.drop
  induction t with
  | nil => rfl
  | cons e t ih =>
    obtain ⟨k', v'⟩ := e
    rw [List.filter_cons]
    by_cases hk : k' = k
    · subst hk; simp [h, ih]
    · split <;> simp [tget, hk, ih]

@[simp] theorem Tab.look_put_same [DecidableEq α] [Inhabited α] (t : Tab α) (k : Nat) (v : α) : (t.put k v).look k = v :=
  tget_tset_same _ _ _ _

theorem Tab.look_put_ne [DecidableEq α] [Inhabited α] (t : Tab α) {k j : Nat} (v : α) (h : j ≠ k) :
    (t.put k v).look j = t.look j := tget_tset_ne _ _ _ _ h

@[simp] theorem Tab.look_upd_same [DecidableEq α] [Inhabited α] (t : Tab α) (k : Nat) (f : α → α) :
    (t.upd k f).look k = f (t.look k) := Tab.look_put_same _ _ _

theorem Tab.look_upd_ne [DecidableEq α] [Inhabited α] (t : Tab α) {k j : Nat} (f : α → α) (h : j ≠ k) :
    (t.upd k f).look j = t.look j := Tab.look_put_ne _ _ h

end Sys2Proof.Machine
end

