-- ==== Sys2Proof/Laws/Kept/Base.lean ====
section
/-! SUPPORT. What the operations of the machine keep, in one predicate: the queue of commands, the clock, the canonical
forms of DDR-5 and of the register file, the range of device time, and every component that a `Keep` names. Each operation has
one lemma (its name and `_kept`), whose hypotheses name the components it may write. -/
namespace Sys2Proof.Machine

set_option linter.all false

/-- The components of the state that must stay as they were. -/
structure Keep where
  fresh : Bool := false
  ddr : Bool := false
  agents : Bool := false
  irq : Bool := false
  cyc : Bool := false
  msi : Bool := false
  blks : Bool := false
  host : Bool := false
  pch : Bool := false
  slots : Bool := false
  rng : Bool := false
  shd : Bool := false
  ledger : Bool := false
  sealRot : Bool := false
  tmp : Bool := false
  drf : Bool := false
  tim : Bool := false
  shu : Bool := false
  blt : Bool := false
  cry : Bool := false
  slv : Bool := false
  cls : Bool := false
  tmg : Bool := false
  hsl : Bool := false
  fwd : Bool := false
  trb : Bool := false
  pmc : Bool := false

/-- What a run from `s0` to `s` has kept. -/
structure Kept (K : Keep) (s0 s : State) : Prop where
  pending : s.pending = s0.pending
  now : s.now = s0.now
  sound : Sound s0 → Sound s
  fresh : K.fresh = true → s.fresh = s0.fresh
  ddr : K.ddr = true → s.ddr = s0.ddr
  agents : K.agents = true → s.agents = s0.agents
  irq : K.irq = true → s.irq = s0.irq
  cyc : K.cyc = true → s.cyc = s0.cyc
  msi : K.msi = true → s.msi = s0.msi
  blks : K.blks = true → s.blks = s0.blks
  host : K.host = true → s.host = s0.host
  pch : K.pch = true → s.pch = s0.pch
  slots : K.slots = true → s.slots = s0.slots
  rng : K.rng = true → s.rng = s0.rng
  shd : K.shd = true → s.shd = s0.shd
  ledger : K.ledger = true → s.ledger = s0.ledger
  sealRot : K.sealRot = true → s.sealRot = s0.sealRot
  tmp : K.tmp = true → s.tmp = s0.tmp
  drf : K.drf = true → s.drf = s0.drf
  tim : K.tim = true → s.tim = s0.tim
  shu : K.shu = true → s.shu = s0.shu
  blt : K.blt = true → s.blt = s0.blt
  cry : K.cry = true → s.cry = s0.cry
  slv : K.slv = true → s.slv = s0.slv
  cls : K.cls = true → s.cls = s0.cls
  tmg : K.tmg = true → s.tmg = s0.tmg
  hsl : K.hsl = true → s.hsl = s0.hsl
  fwd : K.fwd = true → s.fwd = s0.fwd
  trb : K.trb = true → s.trb = s0.trb
  pmc : K.pmc = true → s.pmc = s0.pmc

/-- What a meaning has kept, where it answers a next state. -/
structure KeptO (K : Keep) (s0 : State) (o : Out) : Prop where
  of : ∀ t, o = .next t → Kept K s0 t

/-- What an operation that may not apply has kept, where it does. -/
structure KeptT (K : Keep) (s0 : State) (o : Option State) : Prop where
  of : ∀ t, o = some t → Kept K s0 t

variable {K : Keep} {s0 : State}

theorem Kept.refl (K : Keep) (s : State) : Kept K s s :=
  ⟨rfl, rfl, id, fun _ => rfl, fun _ => rfl, fun _ => rfl, fun _ => rfl, fun _ => rfl, fun _ => rfl, fun _ => rfl, fun _ => rfl, fun _ => rfl, fun _ => rfl, fun _ => rfl, fun _ => rfl, fun _ => rfl, fun _ => rfl, fun _ => rfl, fun _ => rfl, fun _ => rfl, fun _ => rfl, fun _ => rfl, fun _ => rfl, fun _ => rfl, fun _ => rfl, fun _ => rfl, fun _ => rfl, fun _ => rfl, fun _ => rfl, fun _ => rfl⟩

theorem next_kept {s : State} (h : Kept K s0 s) : KeptO K s0 (.next s) := ⟨fun _ e => by injection e with e; exact e ▸ h⟩
theorem refused_kept (K : Keep) (s0 : State) (r : Refusal) : KeptO K s0 (.refused r) := ⟨fun _ e => nomatch e⟩
theorem none_kept : KeptT K s0 none := ⟨fun _ h => nomatch h⟩
theorem some_kept {s : State} (h : Kept K s0 s) : KeptT K s0 (some s) := ⟨fun _ e => by injection e with e; exact e ▸ h⟩
theorem getD_kept {o : Option State} {s : State} (ho : KeptT K s0 o) (h : Kept K s0 s) : Kept K s0 (o.getD s) := by
  cases o with
  | none => exact h
  | some t => exact ho.of t rfl
theorem ite_kept {c : Prop} [Decidable c] {a b : State} (ha : Kept K s0 a) (hb : Kept K s0 b) : Kept K s0 (if c then a else b) := by
  split <;> assumption
theorem ite_opt_kept {c : Prop} [Decidable c] {a b : Option State} (ha : KeptT K s0 a) (hb : KeptT K s0 b) : KeptT K s0 (if c then a else b) := by
  split <;> assumption
theorem ite_fst_kept {γ : Type} {c : Prop} [Decidable c] {a b : State × γ} (ha : Kept K s0 a.1) (hb : Kept K s0 b.1) :
    Kept K s0 (if c then a else b).1 := by
  split <;> assumption
theorem foldl_kept {β : Type} {f : State → β → State} {l : List β} {s : State} (hf : ∀ s x, Kept K s0 s → Kept K s0 (f s x))
    (h : Kept K s0 s) : Kept K s0 (l.foldl f s) := by
  induction l generalizing s with
  | nil => exact h
  | cons x l ih => exact ih (hf s x h)
theorem foldl_fst_kept {β γ : Type} {f : State × γ → β → State × γ} {l : List β} {s : State × γ}
    (hf : ∀ s x, Kept K s0 s.1 → Kept K s0 (f s x).1) (h : Kept K s0 s.1) : Kept K s0 (l.foldl f s).1 := by
  induction l generalizing s with
  | nil => exact h
  | cons x l ih => exact ih (hf s x h)
theorem foldl_snd_kept {β γ : Type} {f : γ × State → β → γ × State} {l : List β} {s : γ × State}
    (hf : ∀ s x, Kept K s0 s.2 → Kept K s0 (f s x).2) (h : Kept K s0 s.2) : Kept K s0 (l.foldl f s).2 := by
  induction l generalizing s with
  | nil => exact h
  | cons x l ih => exact ih (hf s x h)
theorem iter_kept {n : Nat} {f : Nat → State → State} {s : State} (hf : ∀ i s, Kept K s0 s → Kept K s0 (f i s)) (h : Kept K s0 s) :
    Kept K s0 (iter n f s) := by
  induction n with
  | zero => exact h
  | succ n ih => exact hf _ _ ih
theorem iter_snd_kept {γ : Type} {n : Nat} {f : Nat → γ × State → γ × State} {a : γ × State}
    (hf : ∀ i a, Kept K s0 a.2 → Kept K s0 (f i a).2) (h : Kept K s0 a.2) : Kept K s0 (iter n f a).2 := by
  induction n with
  | zero => exact h
  | succ n ih => exact hf _ _ ih
theorem State.when_kept {s : State} {b : Bool} {f : State → State} (h : Kept K s0 s) (hf : ∀ s, Kept K s0 s → Kept K s0 (f s)) :
    Kept K s0 (s.when b f) := by
  unfold State.when; split
  · exact hf s h
  · exact h
theorem State.wr_kept {s : State} {a : Nat} {v : Word} (h : Kept K s0 s) : Kept K s0 (s.wr a v) :=
  { h with sound := fun e => ⟨(h.sound e).ddr, twf_tset resetWord s.regs a v (h.sound e).regs, (h.sound e).time⟩ }
theorem Kept.upd_regs {s : State} {p : Nat → Bool} (h : Kept K s0 s) : Kept K s0 { s with regs := Tab.drop s.regs p } :=
  { h with sound := fun e => ⟨(h.sound e).ddr, twf_drop resetWord s.regs p (h.sound e).regs, (h.sound e).time⟩ }
theorem State.ddrWr_kept {s : State} {a : Nat} {v : Byte} (h : Kept K s0 s) (kddr : K.ddr = false := by assumption) :
    Kept K s0 (s.ddrWr a v) :=
  { h with
    ddr := fun e => absurd (kddr.symm.trans e) (by decide)
    sound := fun e => ⟨twf_tset (fun _ => ddrInit) s.ddr a v (h.sound e).ddr, (h.sound e).regs, (h.sound e).time⟩ }
theorem State.ddrWrs_kept {s : State} {a : Nat} {v : List Byte} (h : Kept K s0 s) (kddr : K.ddr = false := by assumption) :
    Kept K s0 (s.ddrWrs a v) := by
  induction v generalizing s a with
  | nil => exact h
  | cons b v ih => exact ih (State.ddrWr_kept h)
theorem Kept.upd_host {s : State} {x : HostSt} (h : Kept K s0 s) (khost : K.host = false := by assumption) : Kept K s0 { s with host := x } :=
  { h with host := fun e => absurd (khost.symm.trans e) (by decide), sound := fun e => ⟨(h.sound e).ddr, (h.sound e).regs, (h.sound e).time⟩ }
theorem Kept.upd_shu {s : State} {x : Shu} (h : Kept K s0 s) (kshu : K.shu = false := by assumption) : Kept K s0 { s with shu := x } :=
  { h with shu := fun e => absurd (kshu.symm.trans e) (by decide), sound := fun e => ⟨(h.sound e).ddr, (h.sound e).regs, (h.sound e).time⟩ }
theorem Kept.upd_cls {s : State} {x : Cls} (h : Kept K s0 s) (kcls : K.cls = false := by assumption) : Kept K s0 { s with cls := x } :=
  { h with cls := fun e => absurd (kcls.symm.trans e) (by decide), sound := fun e => ⟨(h.sound e).ddr, (h.sound e).regs, (h.sound e).time⟩ }
theorem Kept.upd_trb {s : State} {x : Trb} (h : Kept K s0 s) (ktrb : K.trb = false := by assumption) : Kept K s0 { s with trb := x } :=
  { h with trb := fun e => absurd (ktrb.symm.trans e) (by decide), sound := fun e => ⟨(h.sound e).ddr, (h.sound e).regs, (h.sound e).time⟩ }
theorem Kept.upd_drf {s : State} {x : Drf} (h : Kept K s0 s) (kdrf : K.drf = false := by assumption) : Kept K s0 { s with drf := x } :=
  { h with drf := fun e => absurd (kdrf.symm.trans e) (by decide), sound := fun e => ⟨(h.sound e).ddr, (h.sound e).regs, (h.sound e).time⟩ }
theorem Kept.upd_msi {s : State} {x : Tab Nat} (h : Kept K s0 s) (kmsi : K.msi = false := by assumption) : Kept K s0 { s with msi := x } :=
  { h with msi := fun e => absurd (kmsi.symm.trans e) (by decide), sound := fun e => ⟨(h.sound e).ddr, (h.sound e).regs, (h.sound e).time⟩ }
theorem Kept.upd_irq {s : State} {x : Tab IrqSt} (h : Kept K s0 s) (kirq : K.irq = false := by assumption) : Kept K s0 { s with irq := x } :=
  { h with irq := fun e => absurd (kirq.symm.trans e) (by decide), sound := fun e => ⟨(h.sound e).ddr, (h.sound e).regs, (h.sound e).time⟩ }
theorem Kept.upd_cyc {s : State} {x : Cyc} (h : Kept K s0 s) (kcyc : K.cyc = false := by assumption) : Kept K s0 { s with cyc := x } :=
  { h with cyc := fun e => absurd (kcyc.symm.trans e) (by decide), sound := fun e => ⟨(h.sound e).ddr, (h.sound e).regs, (h.sound e).time⟩ }
theorem Kept.upd_agents {s : State} {x : Tab AgentSt} (h : Kept K s0 s) (kagents : K.agents = false := by assumption) : Kept K s0 { s with agents := x } :=
  { h with agents := fun e => absurd (kagents.symm.trans e) (by decide), sound := fun e => ⟨(h.sound e).ddr, (h.sound e).regs, (h.sound e).time⟩ }
theorem Kept.upd_ledger {s : State} {x : Tab LEntry} (h : Kept K s0 s) (kledger : K.ledger = false := by assumption) : Kept K s0 { s with ledger := x } :=
  { h with ledger := fun e => absurd (kledger.symm.trans e) (by decide), sound := fun e => ⟨(h.sound e).ddr, (h.sound e).regs, (h.sound e).time⟩ }
theorem Kept.upd_sealRot {s : State} {x : Nat} (h : Kept K s0 s) (ksealRot : K.sealRot = false := by assumption) : Kept K s0 { s with sealRot := x } :=
  { h with sealRot := fun e => absurd (ksealRot.symm.trans e) (by decide), sound := fun e => ⟨(h.sound e).ddr, (h.sound e).regs, (h.sound e).time⟩ }
theorem Kept.upd_slots {s : State} {x : Tab Slot} (h : Kept K s0 s) (kslots : K.slots = false := by assumption) : Kept K s0 { s with slots := x } :=
  { h with slots := fun e => absurd (kslots.symm.trans e) (by decide), sound := fun e => ⟨(h.sound e).ddr, (h.sound e).regs, (h.sound e).time⟩ }
theorem Kept.upd_pmc {s : State} {x : Pmc} (h : Kept K s0 s) (kpmc : K.pmc = false := by assumption) : Kept K s0 { s with pmc := x } :=
  { h with pmc := fun e => absurd (kpmc.symm.trans e) (by decide), sound := fun e => ⟨(h.sound e).ddr, (h.sound e).regs, (h.sound e).time⟩ }
theorem Kept.upd_hsl {s : State} {x : Tab Hsl} (h : Kept K s0 s) (khsl : K.hsl = false := by assumption) : Kept K s0 { s with hsl := x } :=
  { h with hsl := fun e => absurd (khsl.symm.trans e) (by decide), sound := fun e => ⟨(h.sound e).ddr, (h.sound e).regs, (h.sound e).time⟩ }
theorem Kept.upd_blt {s : State} {x : Blt} (h : Kept K s0 s) (kblt : K.blt = false := by assumption) : Kept K s0 { s with blt := x } :=
  { h with blt := fun e => absurd (kblt.symm.trans e) (by decide), sound := fun e => ⟨(h.sound e).ddr, (h.sound e).regs, (h.sound e).time⟩ }
theorem Kept.upd_fresh {s : State} {x : Nat} (h : Kept K s0 s) (kfresh : K.fresh = false := by assumption) : Kept K s0 { s with fresh := x } :=
  { h with fresh := fun e => absurd (kfresh.symm.trans e) (by decide), sound := fun e => ⟨(h.sound e).ddr, (h.sound e).regs, (h.sound e).time⟩ }
theorem Kept.upd_blks {s : State} {x : Tab Blk} (h : Kept K s0 s) (kblks : K.blks = false := by assumption) : Kept K s0 { s with blks := x } :=
  { h with blks := fun e => absurd (kblks.symm.trans e) (by decide), sound := fun e => ⟨(h.sound e).ddr, (h.sound e).regs, (h.sound e).time⟩ }
theorem Kept.upd_pch {s : State} {x : Tab Pch} (h : Kept K s0 s) (kpch : K.pch = false := by assumption) : Kept K s0 { s with pch := x } :=
  { h with pch := fun e => absurd (kpch.symm.trans e) (by decide), sound := fun e => ⟨(h.sound e).ddr, (h.sound e).regs, (h.sound e).time⟩ }
theorem Kept.upd_rng {s : State} {x : Tab Rng} (h : Kept K s0 s) (krng : K.rng = false := by assumption) : Kept K s0 { s with rng := x } :=
  { h with rng := fun e => absurd (krng.symm.trans e) (by decide), sound := fun e => ⟨(h.sound e).ddr, (h.sound e).regs, (h.sound e).time⟩ }
theorem Kept.upd_shd {s : State} {x : Tab Shd} (h : Kept K s0 s) (kshd : K.shd = false := by assumption) : Kept K s0 { s with shd := x } :=
  { h with shd := fun e => absurd (kshd.symm.trans e) (by decide), sound := fun e => ⟨(h.sound e).ddr, (h.sound e).regs, (h.sound e).time⟩ }
theorem Kept.upd_tmp {s : State} {x : Tmp} (h : Kept K s0 s) (ktmp : K.tmp = false := by assumption) : Kept K s0 { s with tmp := x } :=
  { h with tmp := fun e => absurd (ktmp.symm.trans e) (by decide), sound := fun e => ⟨(h.sound e).ddr, (h.sound e).regs, (h.sound e).time⟩ }
theorem Kept.upd_cry {s : State} {x : Cry} (h : Kept K s0 s) (kcry : K.cry = false := by assumption) : Kept K s0 { s with cry := x } :=
  { h with cry := fun e => absurd (kcry.symm.trans e) (by decide), sound := fun e => ⟨(h.sound e).ddr, (h.sound e).regs, (h.sound e).time⟩ }
theorem Kept.upd_slv {s : State} {x : Slv} (h : Kept K s0 s) (kslv : K.slv = false := by assumption) : Kept K s0 { s with slv := x } :=
  { h with slv := fun e => absurd (kslv.symm.trans e) (by decide), sound := fun e => ⟨(h.sound e).ddr, (h.sound e).regs, (h.sound e).time⟩ }
theorem Kept.upd_tmg {s : State} {x : Tmg} (h : Kept K s0 s) (ktmg : K.tmg = false := by assumption) : Kept K s0 { s with tmg := x } :=
  { h with tmg := fun e => absurd (ktmg.symm.trans e) (by decide), sound := fun e => ⟨(h.sound e).ddr, (h.sound e).regs, (h.sound e).time⟩ }
theorem Kept.upd_fwd {s : State} {x : Fwd} (h : Kept K s0 s) (kfwd : K.fwd = false := by assumption) : Kept K s0 { s with fwd := x } :=
  { h with fwd := fun e => absurd (kfwd.symm.trans e) (by decide), sound := fun e => ⟨(h.sound e).ddr, (h.sound e).regs, (h.sound e).time⟩ }
theorem State.draw_kept {s : State} (h : Kept K s0 s) (kfresh : K.fresh = false := by assumption) : Kept K s0 s.draw.2 := Kept.upd_fresh h
theorem State.drawNat_kept {s : State} (h : Kept K s0 s) (kfresh : K.fresh = false := by assumption) : Kept K s0 s.drawNat.2 := Kept.upd_fresh h

/-- A restart of the whole block: only the queue, the clock and the free values go on. -/
theorem Kept.restart {s t : State} (hp : t.pending = s.pending) (hn : t.now = s.now) (hf : t.fresh = s.fresh) (hs : Sound s0 → Sound t)
    (h : Kept K s0 s)
    (kddr : K.ddr = false := by assumption)
    (kagents : K.agents = false := by assumption)
    (kirq : K.irq = false := by assumption)
    (kcyc : K.cyc = false := by assumption)
    (kmsi : K.msi = false := by assumption)
    (kblks : K.blks = false := by assumption)
    (khost : K.host = false := by assumption)
    (kpch : K.pch = false := by assumption)
    (kslots : K.slots = false := by assumption)
    (krng : K.rng = false := by assumption)
    (kshd : K.shd = false := by assumption)
    (kledger : K.ledger = false := by assumption)
    (ksealRot : K.sealRot = false := by assumption)
    (ktmp : K.tmp = false := by assumption)
    (kdrf : K.drf = false := by assumption)
    (ktim : K.tim = false := by assumption)
    (kshu : K.shu = false := by assumption)
    (kblt : K.blt = false := by assumption)
    (kcry : K.cry = false := by assumption)
    (kslv : K.slv = false := by assumption)
    (kcls : K.cls = false := by assumption)
    (ktmg : K.tmg = false := by assumption)
    (khsl : K.hsl = false := by assumption)
    (kfwd : K.fwd = false := by assumption)
    (ktrb : K.trb = false := by assumption)
    (kpmc : K.pmc = false := by assumption) : Kept K s0 t :=
  ⟨hp.trans h.pending, hn.trans h.now, hs, fun e => hf.trans (h.fresh e),
    fun e => absurd (kddr.symm.trans e) (by decide),
    fun e => absurd (kagents.symm.trans e) (by decide),
    fun e => absurd (kirq.symm.trans e) (by decide),
    fun e => absurd (kcyc.symm.trans e) (by decide),
    fun e => absurd (kmsi.symm.trans e) (by decide),
    fun e => absurd (kblks.symm.trans e) (by decide),
    fun e => absurd (khost.symm.trans e) (by decide),
    fun e => absurd (kpch.symm.trans e) (by decide),
    fun e => absurd (kslots.symm.trans e) (by decide),
    fun e => absurd (krng.symm.trans e) (by decide),
    fun e => absurd (kshd.symm.trans e) (by decide),
    fun e => absurd (kledger.symm.trans e) (by decide),
    fun e => absurd (ksealRot.symm.trans e) (by decide),
    fun e => absurd (ktmp.symm.trans e) (by decide),
    fun e => absurd (kdrf.symm.trans e) (by decide),
    fun e => absurd (ktim.symm.trans e) (by decide),
    fun e => absurd (kshu.symm.trans e) (by decide),
    fun e => absurd (kblt.symm.trans e) (by decide),
    fun e => absurd (kcry.symm.trans e) (by decide),
    fun e => absurd (kslv.symm.trans e) (by decide),
    fun e => absurd (kcls.symm.trans e) (by decide),
    fun e => absurd (ktmg.symm.trans e) (by decide),
    fun e => absurd (khsl.symm.trans e) (by decide),
    fun e => absurd (kfwd.symm.trans e) (by decide),
    fun e => absurd (ktrb.symm.trans e) (by decide),
    fun e => absurd (kpmc.symm.trans e) (by decide)⟩

/-- The component of a part. -/
def Keep.keeps (K : Keep) : Part → Bool
  | .fresh => K.fresh
  | .ddr => K.ddr
  | .agents => K.agents
  | .irq => K.irq
  | .cyc => K.cyc
  | .msi => K.msi
  | .blks => K.blks
  | .host => K.host
  | .pch => K.pch
  | .slots => K.slots
  | .rng => K.rng
  | .shd => K.shd
  | .ledger => K.ledger
  | .sealRot => K.sealRot
  | .tmp => K.tmp
  | .drf => K.drf
  | .tim => K.tim
  | .shu => K.shu
  | .blt => K.blt
  | .cry => K.cry
  | .slv => K.slv
  | .cls => K.cls
  | .tmg => K.tmg
  | .hsl => K.hsl
  | .fwd => K.fwd
  | .trb => K.trb
  | .pmc => K.pmc

/-- Everything must stay but the parts of a list. -/
def Keep.but (l : List Part) : Keep :=
  { fresh := !l.contains .fresh,
    ddr := !l.contains .ddr,
    agents := !l.contains .agents,
    irq := !l.contains .irq,
    cyc := !l.contains .cyc,
    msi := !l.contains .msi,
    blks := !l.contains .blks,
    host := !l.contains .host,
    pch := !l.contains .pch,
    slots := !l.contains .slots,
    rng := !l.contains .rng,
    shd := !l.contains .shd,
    ledger := !l.contains .ledger,
    sealRot := !l.contains .sealRot,
    tmp := !l.contains .tmp,
    drf := !l.contains .drf,
    tim := !l.contains .tim,
    shu := !l.contains .shu,
    blt := !l.contains .blt,
    cry := !l.contains .cry,
    slv := !l.contains .slv,
    cls := !l.contains .cls,
    tmg := !l.contains .tmg,
    hsl := !l.contains .hsl,
    fwd := !l.contains .fwd,
    trb := !l.contains .trb,
    pmc := !l.contains .pmc }

theorem Keep.but_keeps (l : List Part) (p : Part) (h : p ∉ l) : (Keep.but l).keeps p = true := by
  cases p <;> simp [Keep.keeps, Keep.but, h]

/-- What has been kept, in the words of the frames. -/
theorem Kept.sameParts {l : List Part} {s t : State} (h : Kept (Keep.but l) s t) : SameParts l s t :=
  ⟨h.pending, h.now, fun p hp => by
    have e := Keep.but_keeps l p hp
    cases p with
    | fresh => exact h.fresh e
    | ddr => exact h.ddr e
    | agents => exact h.agents e
    | irq => exact h.irq e
    | cyc => exact h.cyc e
    | msi => exact h.msi e
    | blks => exact h.blks e
    | host => exact h.host e
    | pch => exact h.pch e
    | slots => exact h.slots e
    | rng => exact h.rng e
    | shd => exact h.shd e
    | ledger => exact h.ledger e
    | sealRot => exact h.sealRot e
    | tmp => exact h.tmp e
    | drf => exact h.drf e
    | tim => exact h.tim e
    | shu => exact h.shu e
    | blt => exact h.blt e
    | cry => exact h.cry e
    | slv => exact h.slv e
    | cls => exact h.cls e
    | tmg => exact h.tmg e
    | hsl => exact h.hsl e
    | fwd => exact h.fwd e
    | trb => exact h.trb e
    | pmc => exact h.pmc e⟩

end Sys2Proof.Machine
end

