-- ==== Sys2Proof/Laws/Kept/Ops.lean ====
section
/-! SUPPORT. What the operations and meanings of Machine/Ops.lean keep: the queue, the clock, the canonical forms, and every
component of the state that they have no business with. -/
namespace Sys2Proof.Machine

set_option linter.all false

theorem State.wrMask_kept {K : Keep} {s0 : State} (s : State) (a : Nat) (mask : Nat) (v : Word) (hs : Kept K s0 s) : Kept K s0 (State.wrMask s a mask v) := by
  unfold State.wrMask
  repeat' (first
    | with_reducible assumption | with_reducible apply State.wr_kept)

theorem State.p_kept {K : Keep} {s0 : State} (s : State) (a : Nat) (f : Fld) (v : Nat) (hs : Kept K s0 s) : Kept K s0 (State.p s a f v) := by
  unfold State.p
  repeat' (first
    | with_reducible assumption | with_reducible apply State.wr_kept)

theorem State.wr64_kept {K : Keep} {s0 : State} (s : State) (a : Nat) (v : Nat) (hs : Kept K s0 s) : Kept K s0 (State.wr64 s a v) := by
  unfold State.wr64
  repeat' (first
    | with_reducible assumption | with_reducible apply State.wr_kept)

theorem State.add_kept {K : Keep} {s0 : State} (s : State) (a : Nat) (n : Nat) (hs : Kept K s0 s) : Kept K s0 (State.add s a n) := by
  unfold State.add
  repeat' (first
    | with_reducible assumption | with_reducible apply State.wr64_kept)

theorem State.inc_kept {K : Keep} {s0 : State} (s : State) (a : Nat) (hs : Kept K s0 s) : Kept K s0 (State.inc s a) := by
  unfold State.inc
  repeat' (first
    | with_reducible assumption | with_reducible apply State.add_kept)

theorem State.updCyc_kept {K : Keep} {s0 : State} (s : State) (f : Cyc → Cyc) (hs : Kept K s0 s) (kcyc : K.cyc = false := by assumption) : Kept K s0 (State.updCyc s f) := by
  unfold State.updCyc
  repeat' (first
    | with_reducible assumption | with_reducible apply Kept.upd_cyc)

theorem State.sendMsi_kept {K : Keep} {s0 : State} (s : State) (n : Nat) (p : Nat) (hs : Kept K s0 s) (kmsi : K.msi = false := by assumption) : Kept K s0 (State.sendMsi s n p) := by
  unfold State.sendMsi
  repeat' (first
    | with_reducible assumption | with_reducible apply ite_kept | with_reducible apply ite_fst_kept | with_reducible apply State.wr_kept | extract_lets
    | dsimp only | split | with_reducible apply Kept.upd_msi)

theorem State.irqMsg_kept {K : Keep} {s0 : State} (s : State) (n : Nat) (p : Nat) (byEvent : Bool) (hs : Kept K s0 s) (kirq : K.irq = false := by assumption) (kmsi : K.msi = false := by assumption) : Kept K s0 (State.irqMsg s n p byEvent) := by
  unfold State.irqMsg
  repeat' (first
    | with_reducible assumption | with_reducible apply State.sendMsi_kept | extract_lets | dsimp only | with_reducible apply Kept.upd_irq)

theorem State.irqPort_kept {K : Keep} {s0 : State} (s : State) (n : Nat) (p : Nat) (hs : Kept K s0 s) (kirq : K.irq = false := by assumption) (kmsi : K.msi = false := by assumption) : Kept K s0 (State.irqPort s n p) := by
  unfold State.irqPort
  repeat' (first
    | with_reducible assumption | with_reducible apply ite_kept | with_reducible apply ite_fst_kept | with_reducible apply State.irqMsg_kept
    | extract_lets | dsimp only | split | with_reducible apply Kept.upd_irq)

theorem State.latchRole_kept {K : Keep} {s0 : State} (s : State) (k : Nat) (r : Nat) (e : Nat) (hs : Kept K s0 s) (kshu : K.shu = false := by assumption) : Kept K s0 (State.latchRole s k r e) := by
  unfold State.latchRole
  repeat' (first
    | with_reducible assumption | intro _ | with_reducible apply iter_kept | with_reducible apply ite_kept | with_reducible apply ite_fst_kept
    | extract_lets | dsimp only | split | with_reducible apply Kept.upd_shu)

theorem State.bindEvent_kept {K : Keep} {s0 : State} (s : State) (bind : Nat) (index : Nat) (hs : Kept K s0 s) (kshu : K.shu = false := by assumption) : Kept K s0 (State.bindEvent s bind index) := by
  unfold State.bindEvent
  repeat' (first
    | with_reducible assumption | intro _ | with_reducible apply ite_kept | with_reducible apply ite_fst_kept | with_reducible apply foldl_kept
    | with_reducible apply foldl_fst_kept | with_reducible apply foldl_snd_kept | with_reducible apply State.latchRole_kept | dsimp only | split)

theorem State.boundary_kept {K : Keep} {s0 : State} (s : State) (c : Nat) (e : Nat) (hs : Kept K s0 s) (kshu : K.shu = false := by assumption) : Kept K s0 (State.boundary s c e) := by
  unfold State.boundary
  repeat' (first
    | with_reducible assumption | intro _ | with_reducible apply iter_kept | with_reducible apply ite_kept | with_reducible apply ite_fst_kept
    | with_reducible apply State.latchRole_kept | with_reducible apply State.when_kept | extract_lets | dsimp only | split)

theorem State.irqEvent_kept {K : Keep} {s0 : State} (s : State) (n : Nat) (hs : Kept K s0 s) (kirq : K.irq = false := by assumption) (kmsi : K.msi = false := by assumption) (kshu : K.shu = false := by assumption) : Kept K s0 (State.irqEvent s n) := by
  unfold State.irqEvent
  repeat' (first
    | with_reducible assumption | with_reducible apply State.irqPort_kept | with_reducible apply State.bindEvent_kept)

theorem State.unclear_kept {K : Keep} {s0 : State} (s : State) (a : Nat) (hs : Kept K s0 s) (kcyc : K.cyc = false := by assumption) : Kept K s0 (State.unclear s a) := by
  unfold State.unclear
  repeat' (first
    | with_reducible assumption | intro _ | with_reducible apply State.wrMask_kept | with_reducible apply State.updCyc_kept | dsimp only | split
    | dsimp +zetaDelta only)

theorem State.event_kept {K : Keep} {s0 : State} (s : State) (a : Nat) (bits : Nat) (hs : Kept K s0 s) (kirq : K.irq = false := by assumption) (kcyc : K.cyc = false := by assumption) (kmsi : K.msi = false := by assumption) (kshu : K.shu = false := by assumption) : Kept K s0 (State.event s a bits) := by
  unfold State.event
  repeat' (first
    | with_reducible assumption | intro _ | with_reducible apply ite_kept | with_reducible apply ite_fst_kept | with_reducible apply State.inc_kept
    | with_reducible apply State.unclear_kept | with_reducible apply State.wr_kept | with_reducible apply State.updCyc_kept
    | with_reducible apply State.irqEvent_kept | extract_lets | dsimp only | split | dsimp +zetaDelta only)

theorem State.ev_kept {K : Keep} {s0 : State} (s : State) (a : Nat) (f : Fld) (hs : Kept K s0 s) (kirq : K.irq = false := by assumption) (kcyc : K.cyc = false := by assumption) (kmsi : K.msi = false := by assumption) (kshu : K.shu = false := by assumption) : Kept K s0 (State.ev s a f) := by
  unfold State.ev
  repeat' (first
    | with_reducible assumption | with_reducible apply State.event_kept)

theorem State.perf_kept {K : Keep} {s0 : State} (s : State) (a : Nat) (n : Nat) (src : Nat) (hs : Kept K s0 s) (kirq : K.irq = false := by assumption) (kcyc : K.cyc = false := by assumption) (kmsi : K.msi = false := by assumption) (kshu : K.shu = false := by assumption) : Kept K s0 (State.perf s a n src) := by
  unfold State.perf
  repeat' (first
    | with_reducible assumption | with_reducible apply ite_kept | with_reducible apply ite_fst_kept | with_reducible apply State.wr64_kept
    | with_reducible apply State.event_kept | with_reducible apply State.ev_kept | extract_lets | dsimp only | split)

theorem State.bwAdd_kept {K : Keep} {s0 : State} (s : State) (c : Nat) (a : Nat) (n : Nat) (hs : Kept K s0 s) (kirq : K.irq = false := by assumption) (kcyc : K.cyc = false := by assumption) (kmsi : K.msi = false := by assumption) (kshu : K.shu = false := by assumption) : Kept K s0 (State.bwAdd s c a n) := by
  unfold State.bwAdd
  repeat' (first
    | with_reducible assumption | with_reducible apply ite_kept | with_reducible apply ite_fst_kept | with_reducible apply State.perf_kept | split)

theorem State.hpiErr_kept {K : Keep} {s0 : State} (s : State) (f : Fld) (ag : Nat) (bar : Nat) (off : Nat) (hs : Kept K s0 s) (kirq : K.irq = false := by assumption) (kcyc : K.cyc = false := by assumption) (kmsi : K.msi = false := by assumption) (kshu : K.shu = false := by assumption) : Kept K s0 (State.hpiErr s f ag bar off) := by
  unfold State.hpiErr
  repeat' (first
    | with_reducible assumption | with_reducible apply ite_kept | with_reducible apply ite_fst_kept | with_reducible apply State.ev_kept
    | with_reducible apply State.wr64_kept | extract_lets | dsimp only | split)

theorem State.bridge_kept {K : Keep} {s0 : State} (s : State) (ag : Agent) (off : Nat) (be : Nat) (k : State → State) (hs : Kept K s0 s) (hk : ∀ s, Kept K s0 s → Kept K s0 (k s)) (kirq : K.irq = false := by assumption) (kcyc : K.cyc = false := by assumption) (kmsi : K.msi = false := by assumption) (kshu : K.shu = false := by assumption) : Kept K s0 (State.bridge s ag off be k) := by
  unfold State.bridge
  repeat' (first
    | with_reducible assumption | intro _ | apply hk | with_reducible apply ite_kept | with_reducible apply ite_fst_kept
    | with_reducible apply State.hpiErr_kept | split)

theorem State.bus_kept {K : Keep} {s0 : State} (s : State) (ag : Agent) (off : Nat) (k : State → State) (hs : Kept K s0 s) (hk : ∀ s, Kept K s0 s → Kept K s0 (k s)) (kirq : K.irq = false := by assumption) (kcyc : K.cyc = false := by assumption) (kmsi : K.msi = false := by assumption) (kshu : K.shu = false := by assumption) : Kept K s0 (State.bus s ag off k) := by
  unfold State.bus
  repeat' (first
    | with_reducible assumption | intro _ | apply hk | with_reducible apply State.bridge_kept)

theorem State.answer_kept {K : Keep} {s0 : State} (s : State) (ag : Agent) (v : Word) (hs : Kept K s0 s) (kagents : K.agents = false := by assumption) : Kept K s0 (State.answer s ag v) := by
  unfold State.answer
  repeat' (first
    | with_reducible assumption | intro _ | dsimp only | with_reducible apply Kept.upd_agents)

theorem State.busRd_kept {K : Keep} {s0 : State} (s : State) (ag : Agent) (off : Nat) (k : State → State × Word) (hs : Kept K s0 s) (hk : ∀ s, Kept K s0 s → Kept K s0 (k s).1) (kagents : K.agents = false := by assumption) (kirq : K.irq = false := by assumption) (kcyc : K.cyc = false := by assumption) (kmsi : K.msi = false := by assumption) (kshu : K.shu = false := by assumption) : Kept K s0 (State.busRd s ag off k) := by
  unfold State.busRd
  repeat' (first
    | with_reducible assumption | intro _ | apply hk | with_reducible apply ite_kept | with_reducible apply ite_fst_kept
    | with_reducible apply State.hpiErr_kept | with_reducible apply State.answer_kept | extract_lets | dsimp only | split)

theorem State.takeHold_kept {K : Keep} {s0 : State} (s : State) (ag : Agent) (off : Nat) (hs : Kept K s0 s) (kagents : K.agents = false := by assumption) : Kept K s0 (State.takeHold s ag off).1 := by
  unfold State.takeHold
  repeat' (first
    | with_reducible assumption | intro _ | with_reducible apply ite_kept | with_reducible apply ite_fst_kept | dsimp only | split
    | with_reducible apply Kept.upd_agents | dsimp +zetaDelta only)

theorem State.pairHi_kept {K : Keep} {s0 : State} (s : State) (ag : Agent) (off : Nat) (v : Word) (hs : Kept K s0 s) (kagents : K.agents = false := by assumption) : Kept K s0 (State.pairHi s ag off v) := by
  unfold State.pairHi
  repeat' (first
    | with_reducible assumption | intro _ | dsimp only | with_reducible apply Kept.upd_agents)

theorem State.wrRW_kept {K : Keep} {s0 : State} (s : State) (a : Nat) (v : Word) (hs : Kept K s0 s) : Kept K s0 (State.wrRW s a v) := by
  unfold State.wrRW
  repeat' (first
    | with_reducible assumption | with_reducible apply State.wrMask_kept)

theorem State.pairLo_kept {K : Keep} {s0 : State} (s : State) (ag : Agent) (off : Nat) (v : Word) (hs : Kept K s0 s) (kagents : K.agents = false := by assumption) (kcyc : K.cyc = false := by assumption) : Kept K s0 (State.pairLo s ag off v) := by
  unfold State.pairLo
  repeat' (first
    | with_reducible assumption | intro _ | with_reducible apply ite_kept | with_reducible apply ite_fst_kept | with_reducible apply State.takeHold_kept
    | with_reducible apply State.wrRW_kept | with_reducible apply State.wr64_kept | with_reducible apply State.updCyc_kept | extract_lets | dsimp only
    | split | with_reducible apply Kept.upd_regs)

theorem State.wrHalf_kept {K : Keep} {s0 : State} (s : State) (a : Nat) (valid : Nat) (v : Word) (hs : Kept K s0 s) : Kept K s0 (State.wrHalf s a valid v) := by
  unfold State.wrHalf
  repeat' (first
    | with_reducible assumption | with_reducible apply State.wrMask_kept | extract_lets | dsimp only)

theorem State.noteClear_kept {K : Keep} {s0 : State} (s : State) (a : Nat) (m : Nat) (hs : Kept K s0 s) (kcyc : K.cyc = false := by assumption) : Kept K s0 (State.noteClear s a m) := by
  unfold State.noteClear
  repeat' (first
    | with_reducible assumption | intro _ | with_reducible apply State.updCyc_kept | dsimp only | split | dsimp +zetaDelta only)

theorem State.wrSqc_kept {K : Keep} {s0 : State} (s : State) (a : Nat) (rw : Nat) (sqc : Nat) (v : Word) (hs : Kept K s0 s) (kirq : K.irq = false := by assumption) (kcyc : K.cyc = false := by assumption) (kmsi : K.msi = false := by assumption) (kshu : K.shu = false := by assumption) : Kept K s0 (State.wrSqc s a rw sqc v) := by
  unfold State.wrSqc
  repeat' (first
    | with_reducible assumption | with_reducible apply ite_kept | with_reducible apply ite_fst_kept | with_reducible apply State.ev_kept
    | with_reducible apply State.noteClear_kept | with_reducible apply State.wr_kept | with_reducible apply State.wrMask_kept | extract_lets | dsimp only
    | split)

theorem State.ddrWrsLive_kept {K : Keep} {s0 : State} (s : State) (a : Nat) (l : List Byte) (h : Kept K s0 s) (kddr : K.ddr = false := by assumption) : Kept K s0 (State.ddrWrsLive s a l) := by
  induction l generalizing s a with
  | nil => exact h
  | cons b l ih =>
    unfold State.ddrWrsLive
    exact ih _ _ (ite_kept h (State.ddrWr_kept h (by assumption)))

theorem State.overRegs_kept {K : Keep} {s0 : State} (s : State) (lo : Nat) (hi : Nat) (f : Nat → State → State) (hs : Kept K s0 s) (hf : ∀ i s, Kept K s0 s → Kept K s0 (f i s)) : Kept K s0 (State.overRegs s lo hi f) := by
  unfold State.overRegs
  repeat' (first
    | with_reducible assumption | intro _ | apply hf | with_reducible apply foldl_kept | with_reducible apply foldl_fst_kept
    | with_reducible apply foldl_snd_kept | dsimp only)

theorem State.updPch_kept {K : Keep} {s0 : State} (s : State) (c : Nat) (f : Pch → Pch) (hs : Kept K s0 s) (kpch : K.pch = false := by assumption) : Kept K s0 (State.updPch s c f) := by
  unfold State.updPch
  repeat' (first
    | with_reducible assumption | with_reducible apply Kept.upd_pch)

theorem State.updSlot_kept {K : Keep} {s0 : State} (s : State) (c : Nat) (i : Nat) (f : Slot → Slot) (hs : Kept K s0 s) (kslots : K.slots = false := by assumption) : Kept K s0 (State.updSlot s c i f) := by
  unfold State.updSlot
  repeat' (first
    | with_reducible assumption | with_reducible apply Kept.upd_slots)

theorem State.updRng_kept {K : Keep} {s0 : State} (s : State) (c : Nat) (f : Rng → Rng) (hs : Kept K s0 s) (krng : K.rng = false := by assumption) : Kept K s0 (State.updRng s c f) := by
  unfold State.updRng
  repeat' (first
    | with_reducible assumption | with_reducible apply Kept.upd_rng)

theorem State.pipeIn_kept {K : Keep} {s0 : State} (s : State) (p : Nat) (f : PFrame) (hs : Kept K s0 s) (kcls : K.cls = false := by assumption) : Kept K s0 (State.pipeIn s p f) := by
  unfold State.pipeIn
  repeat' (first
    | with_reducible assumption | with_reducible apply Kept.upd_cls)

theorem State.updShd_kept {K : Keep} {s0 : State} (s : State) (c : Nat) (f : Shd → Shd) (hs : Kept K s0 s) (kshd : K.shd = false := by assumption) : Kept K s0 (State.updShd s c f) := by
  unfold State.updShd
  repeat' (first
    | with_reducible assumption | with_reducible apply Kept.upd_shd)

end Sys2Proof.Machine
end

