-- ==== Sys2Proof/Laws/Kept/BoltOps.lean ====
section
/-! SUPPORT. What the operations and meanings of Machine/BoltOps.lean keep: the queue, the clock, the canonical forms, and every
component of the state that they have no business with. -/
namespace Sys2Proof.Machine

set_option linter.all false

theorem State.updBlt_kept {K : Keep} {s0 : State} (s : State) (f : Blt → Blt) (hs : Kept K s0 s) (kblt : K.blt = false := by assumption) : Kept K s0 (State.updBlt s f) := by
  unfold State.updBlt
  repeat' (first
    | with_reducible assumption | with_reducible apply Kept.upd_blt)

theorem State.fillTokens_kept {K : Keep} {s0 : State} (s : State) (cls : Nat) (hs : Kept K s0 s) (kblt : K.blt = false := by assumption) : Kept K s0 (State.fillTokens s cls) := by
  unfold State.fillTokens
  repeat' (first
    | with_reducible assumption | intro _ | with_reducible apply ite_kept | with_reducible apply ite_fst_kept | with_reducible apply State.p_kept
    | with_reducible apply State.updBlt_kept | extract_lets | dsimp only | split)

theorem State.takeToken_kept {K : Keep} {s0 : State} (s : State) (cls : Nat) (hs : Kept K s0 s) (kblt : K.blt = false := by assumption) : Kept K s0 (State.takeToken s cls).1 := by
  unfold State.takeToken
  repeat' (first
    | with_reducible assumption | with_reducible apply ite_kept | with_reducible apply ite_fst_kept | with_reducible apply State.fillTokens_kept
    | with_reducible apply State.p_kept | extract_lets | dsimp only | split)

theorem State.boltWater_kept {K : Keep} {s0 : State} (s : State) (hs : Kept K s0 s) : Kept K s0 (State.boltWater s) := by
  unfold State.boltWater
  repeat' (first
    | with_reducible assumption | with_reducible apply ite_kept | with_reducible apply ite_fst_kept | with_reducible apply State.p_kept | extract_lets
    | dsimp only | split)

theorem State.stampSeq_kept {K : Keep} {s0 : State} (s : State) (cls : Nat) (r : List Word) (hs : Kept K s0 s) (kblt : K.blt = false := by assumption) : Kept K s0 (State.stampSeq s cls r).1 := by
  unfold State.stampSeq
  repeat' (first
    | with_reducible assumption | intro _ | with_reducible apply ite_kept | with_reducible apply ite_fst_kept | with_reducible apply State.updBlt_kept
    | dsimp only | split)

theorem State.enqueueRec_kept {K : Keep} {s0 : State} (s : State) (cls : Nat) (pm : Option Nat) (r : List Word) (hs : Kept K s0 s) (kblt : K.blt = false := by assumption) : Kept K s0 (State.enqueueRec s cls pm r) := by
  unfold State.enqueueRec
  repeat' (first
    | with_reducible assumption | intro _ | with_reducible apply State.updBlt_kept | with_reducible apply State.boltWater_kept | dsimp only)

theorem State.coalesceIn_kept {K : Keep} {s0 : State} (s : State) (r : List Word) (hs : Kept K s0 s) (kirq : K.irq = false := by assumption) (kcyc : K.cyc = false := by assumption) (kmsi : K.msi = false := by assumption) (kshu : K.shu = false := by assumption) (kblt : K.blt = false := by assumption) : Kept K s0 (State.coalesceIn s r) := by
  unfold State.coalesceIn
  repeat' (first
    | with_reducible assumption | intro _ | with_reducible apply State.inc_kept | with_reducible apply State.updBlt_kept
    | with_reducible apply State.ev_kept | extract_lets | dsimp only | split | dsimp +zetaDelta only)

theorem State.toSram_kept {K : Keep} {s0 : State} (s : State) (r : List Word) (hs : Kept K s0 s) (kirq : K.irq = false := by assumption) (kcyc : K.cyc = false := by assumption) (kmsi : K.msi = false := by assumption) (kshu : K.shu = false := by assumption) (kblt : K.blt = false := by assumption) : Kept K s0 (State.toSram s r).1 := by
  unfold State.toSram
  repeat' (first
    | with_reducible assumption | intro _ | with_reducible apply ite_kept | with_reducible apply ite_fst_kept | with_reducible apply State.updBlt_kept
    | with_reducible apply State.inc_kept | with_reducible apply State.ev_kept | dsimp only | split)

theorem State.coalesce_kept {K : Keep} {s0 : State} (s : State) (r : List Word) (hs : Kept K s0 s) (kirq : K.irq = false := by assumption) (kcyc : K.cyc = false := by assumption) (kmsi : K.msi = false := by assumption) (kshu : K.shu = false := by assumption) (kblt : K.blt = false := by assumption) : Kept K s0 (State.coalesce s r) := by
  unfold State.coalesce
  repeat' (first
    | with_reducible assumption | with_reducible apply State.inc_kept | with_reducible apply State.coalesceIn_kept)

theorem State.markSeg_kept {K : Keep} {s0 : State} (s : State) (r : Nat) (i : Nat) (j : Nat) (hs : Kept K s0 s) (kblt : K.blt = false := by assumption) : Kept K s0 (State.markSeg s r i j) := by
  unfold State.markSeg
  repeat' (first
    | with_reducible assumption | intro _ | with_reducible apply ite_kept | with_reducible apply ite_fst_kept | with_reducible apply State.p_kept
    | with_reducible apply State.updBlt_kept | extract_lets | dsimp only | split)

theorem State.closeSeg_kept {K : Keep} {s0 : State} (s : State) (r : Nat) (hs : Kept K s0 s) (kblt : K.blt = false := by assumption) : Kept K s0 (State.closeSeg s r) := by
  unfold State.closeSeg
  repeat' (first
    | with_reducible assumption | intro _ | with_reducible apply ite_kept | with_reducible apply ite_fst_kept | with_reducible apply State.inc_kept
    | with_reducible apply State.p_kept | with_reducible apply State.updBlt_kept | extract_lets | dsimp only | split)

theorem State.openSeg_kept {K : Keep} {s0 : State} (s : State) (r : Nat) (hs : Kept K s0 s) (kblt : K.blt = false := by assumption) : Kept K s0 (State.openSeg s r) := by
  unfold State.openSeg
  repeat' (first
    | with_reducible assumption | intro _ | with_reducible apply ite_kept | with_reducible apply ite_fst_kept | with_reducible apply State.wr_kept
    | with_reducible apply State.updBlt_kept | with_reducible apply State.p_kept | with_reducible apply State.markSeg_kept | extract_lets | dsimp only
    | split | dsimp +zetaDelta only)

theorem State.freezeRing_kept {K : Keep} {s0 : State} (s : State) (r : Nat) (j : Nat) (t : Nat) (pre : Nat) (hs : Kept K s0 s) (kblt : K.blt = false := by assumption) : Kept K s0 (State.freezeRing s r j t pre) := by
  unfold State.freezeRing
  repeat' (first
    | with_reducible assumption | intro _ | with_reducible apply ite_kept | with_reducible apply ite_fst_kept | with_reducible apply foldl_kept
    | with_reducible apply foldl_fst_kept | with_reducible apply foldl_snd_kept | with_reducible apply State.markSeg_kept
    | with_reducible apply State.p_kept | extract_lets | dsimp only | split | dsimp +zetaDelta only)

theorem State.freeze_kept {K : Keep} {s0 : State} (s : State) (cause : Nat) (code : Nat) (rings : Nat) (t : Nat) (hs : Kept K s0 s) (kirq : K.irq = false := by assumption) (kcyc : K.cyc = false := by assumption) (kmsi : K.msi = false := by assumption) (kshu : K.shu = false := by assumption) (kblt : K.blt = false := by assumption) : Kept K s0 (State.freeze s cause code rings t).1 := by
  unfold State.freeze
  repeat' (first
    | with_reducible assumption | intro _ | with_reducible apply iter_kept | with_reducible apply ite_kept | with_reducible apply ite_fst_kept
    | with_reducible apply State.inc_kept | with_reducible apply State.ev_kept | with_reducible apply State.wr_kept
    | with_reducible apply State.wr64_kept | with_reducible apply State.updBlt_kept | with_reducible apply State.freezeRing_kept | extract_lets
    | dsimp only | split | dsimp +zetaDelta only)

theorem State.askFreeze_kept {K : Keep} {s0 : State} (s : State) (cause : Nat) (code : Nat) (rings : Nat) (t : Nat) (hs : Kept K s0 s) (kcyc : K.cyc = false := by assumption) : Kept K s0 (State.askFreeze s cause code rings t) := by
  unfold State.askFreeze
  repeat' (first
    | with_reducible assumption | with_reducible apply Kept.upd_cyc)

theorem State.matchTrigs_kept {K : Keep} {s0 : State} (s : State) (code : Nat) (hs : Kept K s0 s) (kcyc : K.cyc = false := by assumption) : Kept K s0 (State.matchTrigs s code) := by
  unfold State.matchTrigs
  repeat' (first
    | with_reducible assumption | intro _ | with_reducible apply ite_kept | with_reducible apply ite_fst_kept | with_reducible apply foldl_kept
    | with_reducible apply foldl_fst_kept | with_reducible apply foldl_snd_kept | with_reducible apply State.askFreeze_kept | dsimp only | split)

theorem State.alarmPut_kept {K : Keep} {s0 : State} (s : State) (r : List Word) (hs : Kept K s0 s) (kirq : K.irq = false := by assumption) (kcyc : K.cyc = false := by assumption) (kmsi : K.msi = false := by assumption) (kshu : K.shu = false := by assumption) (kblt : K.blt = false := by assumption) : KeptT K s0 (State.alarmPut s r) := by
  unfold State.alarmPut
  repeat' (first
    | with_reducible assumption | with_reducible apply ite_kept | with_reducible apply ite_fst_kept | with_reducible apply State.stampSeq_kept
    | with_reducible apply State.enqueueRec_kept | with_reducible apply State.toSram_kept | with_reducible apply ite_opt_kept
    | with_reducible apply none_kept | with_reducible apply some_kept | with_reducible apply getD_kept | refine KeptT.of ?_ _ (by assumption)
    | extract_lets | dsimp only | split)

theorem State.alarm_kept {K : Keep} {s0 : State} (s : State) (r : List Word) (hs : Kept K s0 s) (kirq : K.irq = false := by assumption) (kcyc : K.cyc = false := by assumption) (kmsi : K.msi = false := by assumption) (kshu : K.shu = false := by assumption) (kblt : K.blt = false := by assumption) : Kept K s0 (State.alarm s r) := by
  unfold State.alarm
  repeat' (first
    | with_reducible assumption | with_reducible apply ite_kept | with_reducible apply ite_fst_kept | with_reducible apply State.inc_kept
    | with_reducible apply State.takeToken_kept | with_reducible apply State.coalesce_kept | with_reducible apply State.alarmPut_kept
    | with_reducible apply State.matchTrigs_kept | with_reducible apply ite_opt_kept | with_reducible apply none_kept | with_reducible apply some_kept
    | with_reducible apply getD_kept | refine KeptT.of ?_ _ (by assumption) | extract_lets | dsimp only | split | dsimp +zetaDelta only)

theorem State.alarmEv_kept {K : Keep} {s0 : State} (s : State) (code : Nat) (scope : Nat) (index : Nat) (src : Nat) (data : List Nat) (hs : Kept K s0 s) (kirq : K.irq = false := by assumption) (kcyc : K.cyc = false := by assumption) (kmsi : K.msi = false := by assumption) (kshu : K.shu = false := by assumption) (kblt : K.blt = false := by assumption) : Kept K s0 (State.alarmEv s code scope index src data) := by
  unfold State.alarmEv
  repeat' (first
    | with_reducible assumption | with_reducible apply State.alarm_kept)

theorem State.boltDropRec_kept {K : Keep} {s0 : State} (s : State) (cls : Nat) (hs : Kept K s0 s) (kirq : K.irq = false := by assumption) (kcyc : K.cyc = false := by assumption) (kmsi : K.msi = false := by assumption) (kshu : K.shu = false := by assumption) (kblt : K.blt = false := by assumption) : Kept K s0 (State.boltDropRec s cls) := by
  unfold State.boltDropRec
  repeat' (first
    | with_reducible assumption | intro _ | with_reducible apply ite_kept | with_reducible apply ite_fst_kept | with_reducible apply State.inc_kept
    | with_reducible apply State.ev_kept | with_reducible apply State.updBlt_kept | with_reducible apply State.alarmEv_kept | extract_lets | dsimp only
    | split)

theorem State.boltLoseRec_kept {K : Keep} {s0 : State} (s : State) (cls : Nat) (hs : Kept K s0 s) (kirq : K.irq = false := by assumption) (kcyc : K.cyc = false := by assumption) (kmsi : K.msi = false := by assumption) (kshu : K.shu = false := by assumption) : Kept K s0 (State.boltLoseRec s cls) := by
  unfold State.boltLoseRec
  repeat' (first
    | with_reducible assumption | with_reducible apply State.inc_kept | with_reducible apply State.ev_kept)

theorem State.produceAt_kept {K : Keep} {s0 : State} (s : State) (cls : Nat) (pm : Option Nat) (r : List Word) (hs : Kept K s0 s) (kirq : K.irq = false := by assumption) (kcyc : K.cyc = false := by assumption) (kmsi : K.msi = false := by assumption) (kshu : K.shu = false := by assumption) (kblt : K.blt = false := by assumption) : Kept K s0 (State.produceAt s cls pm r) := by
  unfold State.produceAt
  repeat' (first
    | with_reducible assumption | with_reducible apply ite_kept | with_reducible apply ite_fst_kept | with_reducible apply State.alarm_kept
    | with_reducible apply State.inc_kept | with_reducible apply State.takeToken_kept | with_reducible apply State.boltDropRec_kept
    | with_reducible apply State.boltLoseRec_kept | with_reducible apply State.stampSeq_kept | with_reducible apply State.enqueueRec_kept
    | with_reducible apply State.matchTrigs_kept | extract_lets | dsimp only | split | dsimp +zetaDelta only)

theorem State.boltProduce_kept {K : Keep} {s0 : State} (s : State) (cls : Nat) (r : List Word) (hs : Kept K s0 s) (kirq : K.irq = false := by assumption) (kcyc : K.cyc = false := by assumption) (kmsi : K.msi = false := by assumption) (kshu : K.shu = false := by assumption) (kblt : K.blt = false := by assumption) : Kept K s0 (State.boltProduce s cls r) := by
  unfold State.boltProduce
  repeat' (first
    | with_reducible assumption | with_reducible apply State.produceAt_kept)

theorem State.boltLost_kept {K : Keep} {s0 : State} (s : State) (cls : Nat) (hs : Kept K s0 s) (kirq : K.irq = false := by assumption) (kcyc : K.cyc = false := by assumption) (kmsi : K.msi = false := by assumption) (kshu : K.shu = false := by assumption) (kblt : K.blt = false := by assumption) : Kept K s0 (State.boltLost s cls) := by
  unfold State.boltLost
  repeat' (first
    | with_reducible assumption | with_reducible apply State.inc_kept | with_reducible apply State.boltDropRec_kept)

theorem State.boltEvent_kept {K : Keep} {s0 : State} (s : State) (code : Nat) (scope : Nat) (index : Nat) (src : Nat) (data : List Nat) (hs : Kept K s0 s) (kirq : K.irq = false := by assumption) (kcyc : K.cyc = false := by assumption) (kmsi : K.msi = false := by assumption) (kshu : K.shu = false := by assumption) (kblt : K.blt = false := by assumption) : Kept K s0 (State.boltEvent s code scope index src data) := by
  unfold State.boltEvent
  repeat' (first
    | with_reducible assumption | with_reducible apply ite_kept | with_reducible apply ite_fst_kept | with_reducible apply State.boltProduce_kept | split)

theorem State.boltDown_kept {K : Keep} {s0 : State} (s : State) (hs : Kept K s0 s) (kirq : K.irq = false := by assumption) (kcyc : K.cyc = false := by assumption) (kmsi : K.msi = false := by assumption) (kshu : K.shu = false := by assumption) (kblt : K.blt = false := by assumption) : Kept K s0 (State.boltDown s) := by
  unfold State.boltDown
  repeat' (first
    | with_reducible assumption | intro _ | with_reducible apply ite_kept | with_reducible apply ite_fst_kept | with_reducible apply foldl_kept
    | with_reducible apply foldl_fst_kept | with_reducible apply foldl_snd_kept | with_reducible apply State.updBlt_kept
    | with_reducible apply State.toSram_kept | with_reducible apply State.coalesceIn_kept | with_reducible apply State.boltLoseRec_kept
    | with_reducible apply State.alarmEv_kept | extract_lets | dsimp only | split)

theorem State.serveFreeze_kept {K : Keep} {s0 : State} (s : State) (e : Frz) (hs : Kept K s0 s) (kirq : K.irq = false := by assumption) (kcyc : K.cyc = false := by assumption) (kmsi : K.msi = false := by assumption) (kshu : K.shu = false := by assumption) (kblt : K.blt = false := by assumption) : Kept K s0 (State.serveFreeze s e) := by
  unfold State.serveFreeze
  repeat' (first
    | with_reducible assumption | intro _ | with_reducible apply ite_kept | with_reducible apply ite_fst_kept | with_reducible apply State.updBlt_kept
    | with_reducible apply State.inc_kept | with_reducible apply State.freeze_kept | with_reducible apply State.alarmEv_kept | extract_lets | dsimp only
    | split | dsimp +zetaDelta only)

theorem State.freezeTick_kept {K : Keep} {s0 : State} (s : State) (l : List Frz) (hs : Kept K s0 s) (kirq : K.irq = false := by assumption) (kcyc : K.cyc = false := by assumption) (kmsi : K.msi = false := by assumption) (kshu : K.shu = false := by assumption) (kblt : K.blt = false := by assumption) : Kept K s0 (State.freezeTick s l) := by
  unfold State.freezeTick
  repeat' (first
    | with_reducible assumption | intro _ | with_reducible apply foldl_kept | with_reducible apply foldl_fst_kept | with_reducible apply foldl_snd_kept
    | with_reducible apply State.serveFreeze_kept | with_reducible apply State.when_kept | with_reducible apply State.p_kept | dsimp only)

end Sys2Proof.Machine
end

