-- ==== Sys2Proof/Laws/Kept/PmOps.lean ====
section
/-! SUPPORT. What the operations and meanings of Machine/PmOps.lean keep: the queue, the clock, the canonical forms, and every
component of the state that they have no business with. -/
namespace Sys2Proof.Machine

set_option linter.all false

theorem State.sumUpd_kept {K : Keep} {s0 : State} (s : State) (c : Nat) (i : Nat) (f : SlotSum → SlotSum) (hs : Kept K s0 s) (kblt : K.blt = false := by assumption) : Kept K s0 (State.sumUpd s c i f) := by
  unfold State.sumUpd
  repeat' (first
    | with_reducible assumption | intro _ | with_reducible apply State.updBlt_kept | dsimp only)

theorem State.pmWrite_kept {K : Keep} {s0 : State} (s : State) (o : Nat) (b : Nat) (r : List Word) (hs : Kept K s0 s) (kirq : K.irq = false := by assumption) (kcyc : K.cyc = false := by assumption) (kmsi : K.msi = false := by assumption) (kshu : K.shu = false := by assumption) (kblt : K.blt = false := by assumption) : Kept K s0 (State.pmWrite s o b r) := by
  unfold State.pmWrite
  repeat' (first
    | with_reducible assumption | with_reducible apply State.produceAt_kept)

theorem State.pmSecond_kept {K : Keep} {s0 : State} (s : State) (o : Nat) (sec : Nat) (partial_ : Bool) (l : List (Nat × Nat)) (hs : Kept K s0 s) (kirq : K.irq = false := by assumption) (kcyc : K.cyc = false := by assumption) (kmsi : K.msi = false := by assumption) (kshu : K.shu = false := by assumption) (kblt : K.blt = false := by assumption) : Kept K s0 (State.pmSecond s o sec partial_ l) := by
  unfold State.pmSecond
  repeat' (first
    | with_reducible assumption | intro _ | with_reducible apply ite_kept | with_reducible apply ite_fst_kept | with_reducible apply foldl_kept
    | with_reducible apply foldl_fst_kept | with_reducible apply foldl_snd_kept | with_reducible apply State.updBlt_kept
    | with_reducible apply State.pmWrite_kept | extract_lets | dsimp only | split)

theorem State.pmClose_kept {K : Keep} {s0 : State} (s : State) (o : Nat) (w : Nat) (start : Nat) (susp : Bool) (hs : Kept K s0 s) (kirq : K.irq = false := by assumption) (kcyc : K.cyc = false := by assumption) (kmsi : K.msi = false := by assumption) (kshu : K.shu = false := by assumption) (kblt : K.blt = false := by assumption) : Kept K s0 (State.pmClose s o w start susp) := by
  unfold State.pmClose
  repeat' (first
    | with_reducible assumption | intro _ | with_reducible apply State.updBlt_kept | with_reducible apply State.pmWrite_kept | extract_lets | dsimp only)

theorem State.pmRoll_kept {K : Keep} {s0 : State} (s : State) (w : Nat) (start : Nat) (susp : Bool) (hs : Kept K s0 s) (kirq : K.irq = false := by assumption) (kcyc : K.cyc = false := by assumption) (kmsi : K.msi = false := by assumption) (kshu : K.shu = false := by assumption) (kblt : K.blt = false := by assumption) : Kept K s0 (State.pmRoll s w start susp) := by
  unfold State.pmRoll
  repeat' (first
    | with_reducible assumption | intro _ | with_reducible apply iter_kept | with_reducible apply State.pmClose_kept | dsimp only)

theorem State.pmClear_kept {K : Keep} {s0 : State} (s : State) (o : Nat) (hs : Kept K s0 s) (kirq : K.irq = false := by assumption) (kcyc : K.cyc = false := by assumption) (kmsi : K.msi = false := by assumption) (kshu : K.shu = false := by assumption) (kblt : K.blt = false := by assumption) : Kept K s0 (State.pmClear s o) := by
  unfold State.pmClear
  repeat' (first
    | with_reducible assumption | intro _ | with_reducible apply foldl_kept | with_reducible apply foldl_fst_kept | with_reducible apply foldl_snd_kept
    | with_reducible apply State.updBlt_kept | with_reducible apply State.pmWrite_kept | extract_lets | dsimp only)

theorem State.chBytes_kept {K : Keep} {s0 : State} (s : State) (c : Nat) (k : Nat) (n : Nat) (hs : Kept K s0 s) (kblt : K.blt = false := by assumption) : Kept K s0 (State.chBytes s c k n) := by
  unfold State.chBytes
  repeat' (first
    | with_reducible assumption | intro _ | with_reducible apply State.updBlt_kept | dsimp only)

theorem State.chanSecond_kept {K : Keep} {s0 : State} (s : State) (c : Nat) (sec : Nat) (hs : Kept K s0 s) (kirq : K.irq = false := by assumption) (kcyc : K.cyc = false := by assumption) (kmsi : K.msi = false := by assumption) (kshu : K.shu = false := by assumption) (kblt : K.blt = false := by assumption) : Kept K s0 (State.chanSecond s c sec) := by
  unfold State.chanSecond
  repeat' (first
    | with_reducible assumption | intro _ | with_reducible apply foldl_kept | with_reducible apply foldl_fst_kept | with_reducible apply foldl_snd_kept
    | with_reducible apply State.updBlt_kept | with_reducible apply State.pmSecond_kept | extract_lets | dsimp only)

theorem State.condense_kept {K : Keep} {s0 : State} (s : State) (c : Nat) (sec : Nat) (hs : Kept K s0 s) (kirq : K.irq = false := by assumption) (kcyc : K.cyc = false := by assumption) (kmsi : K.msi = false := by assumption) (kshu : K.shu = false := by assumption) (kblt : K.blt = false := by assumption) : Kept K s0 (State.condense s c sec) := by
  unfold State.condense
  repeat' (first
    | with_reducible assumption | intro _ | with_reducible apply iter_kept | with_reducible apply ite_kept | with_reducible apply ite_fst_kept
    | with_reducible apply State.boltProduce_kept | with_reducible apply State.pmSecond_kept | with_reducible apply State.updBlt_kept
    | with_reducible apply State.chanSecond_kept | extract_lets | dsimp only | split)

end Sys2Proof.Machine
end

