-- ==== Sys2Proof/Laws/Kept/Bolt.lean ====
section
/-! SUPPORT. What the operations and meanings of Machine/Bolt.lean keep: the queue, the clock, the canonical forms, and every
component of the state that they have no business with. -/
namespace Sys2Proof.Machine

set_option linter.all false

theorem execBoltRecord_kept {K : Keep} {s0 : State} (cls : Fin 7) (r : List Word) (s : State) (hs : Kept K s0 s) (kfresh : K.fresh = false := by assumption) (kirq : K.irq = false := by assumption) (kcyc : K.cyc = false := by assumption) (kmsi : K.msi = false := by assumption) (kshu : K.shu = false := by assumption) (kblt : K.blt = false := by assumption) : KeptO K s0 (execBoltRecord cls r s) := by
  unfold execBoltRecord
  repeat' (first
    | with_reducible assumption | with_reducible apply next_kept | with_reducible apply ite_kept | with_reducible apply ite_fst_kept
    | with_reducible apply State.drawNat_kept | with_reducible apply State.produceAt_kept | with_reducible apply State.boltProduce_kept | extract_lets
    | dsimp only | split)

theorem execCoalFlush_kept {K : Keep} {s0 : State} (k : Fin 256) (s : State) (hs : Kept K s0 s) (kirq : K.irq = false := by assumption) (kcyc : K.cyc = false := by assumption) (kmsi : K.msi = false := by assumption) (kshu : K.shu = false := by assumption) (kblt : K.blt = false := by assumption) : KeptO K s0 (execCoalFlush k s) := by
  unfold execCoalFlush
  repeat' (first
    | with_reducible assumption | intro _ | with_reducible apply next_kept | with_reducible apply ite_kept | with_reducible apply ite_fst_kept
    | with_reducible apply State.stampSeq_kept | with_reducible apply State.updBlt_kept | with_reducible apply State.enqueueRec_kept
    | with_reducible apply State.toSram_kept | with_reducible apply State.matchTrigs_kept | extract_lets | dsimp only | split | dsimp +zetaDelta only)

theorem State.sramCopy_kept {K : Keep} {s0 : State} (s : State) (hs : Kept K s0 s) (kblt : K.blt = false := by assumption) : Kept K s0 (State.sramCopy s) := by
  unfold State.sramCopy
  repeat' (first
    | with_reducible assumption | intro _ | with_reducible apply State.updBlt_kept | with_reducible apply State.boltWater_kept | dsimp only)

theorem execAlarmSramCopy_kept {K : Keep} {s0 : State} (s : State) (hs : Kept K s0 s) (kblt : K.blt = false := by assumption) : KeptO K s0 (execAlarmSramCopy s) := by
  unfold execAlarmSramCopy
  repeat' (first
    | with_reducible assumption | intro _ | with_reducible apply next_kept | with_reducible apply State.when_kept
    | with_reducible apply State.sramCopy_kept | dsimp only)

theorem execBoltRecordWritten_kept {K : Keep} {s0 : State} (s : State) (hs : Kept K s0 s) (kddr : K.ddr = false := by assumption) (kirq : K.irq = false := by assumption) (kcyc : K.cyc = false := by assumption) (kmsi : K.msi = false := by assumption) (kshu : K.shu = false := by assumption) (kblt : K.blt = false := by assumption) : KeptO K s0 (execBoltRecordWritten s) := by
  unfold execBoltRecordWritten
  repeat' (first
    | with_reducible assumption | intro _ | with_reducible apply next_kept | with_reducible apply ite_kept | with_reducible apply ite_fst_kept
    | with_reducible apply State.when_kept | with_reducible apply State.sramCopy_kept | with_reducible apply State.updBlt_kept
    | with_reducible apply State.boltLoseRec_kept | with_reducible apply State.ddrWrs_kept | with_reducible apply State.wr64_kept
    | with_reducible apply State.closeSeg_kept | with_reducible apply State.openSeg_kept | with_reducible apply State.p_kept
    | with_reducible apply State.inc_kept | extract_lets | dsimp only | split | dsimp +zetaDelta only)

theorem State.releaseCut_kept {K : Keep} {s0 : State} (s : State) (j : Nat) (hs : Kept K s0 s) (kirq : K.irq = false := by assumption) (kcyc : K.cyc = false := by assumption) (kmsi : K.msi = false := by assumption) (kshu : K.shu = false := by assumption) (kblt : K.blt = false := by assumption) : Kept K s0 (State.releaseCut s j) := by
  unfold State.releaseCut
  repeat' (first
    | with_reducible assumption | intro _ | with_reducible apply ite_kept | with_reducible apply ite_fst_kept | with_reducible apply foldl_kept
    | with_reducible apply foldl_fst_kept | with_reducible apply foldl_snd_kept | with_reducible apply State.overRegs_kept
    | with_reducible apply State.p_kept | with_reducible apply State.updBlt_kept | with_reducible apply State.boltEvent_kept | extract_lets | dsimp only
    | split | with_reducible apply Kept.upd_cyc)

theorem State.cutCmdWrite_kept {K : Keep} {s0 : State} (s : State) (v : Word) (hs : Kept K s0 s) (kirq : K.irq = false := by assumption) (kcyc : K.cyc = false := by assumption) (kmsi : K.msi = false := by assumption) (kshu : K.shu = false := by assumption) (kblt : K.blt = false := by assumption) : Kept K s0 (State.cutCmdWrite s v) := by
  unfold State.cutCmdWrite
  repeat' (first
    | with_reducible assumption | with_reducible apply ite_kept | with_reducible apply ite_fst_kept | with_reducible apply State.wrRW_kept
    | with_reducible apply State.askFreeze_kept | with_reducible apply State.p_kept | with_reducible apply State.releaseCut_kept | extract_lets
    | dsimp only | split)

theorem execCutFreeze_kept {K : Keep} {s0 : State} (ag : Agent) (v : Word) (s : State) (hs : Kept K s0 s) (kirq : K.irq = false := by assumption) (kcyc : K.cyc = false := by assumption) (kmsi : K.msi = false := by assumption) (kshu : K.shu = false := by assumption) (kblt : K.blt = false := by assumption) : KeptO K s0 (execCutFreeze ag v s) := by
  unfold execCutFreeze
  repeat' (first
    | with_reducible assumption | intro _ | with_reducible apply next_kept | with_reducible apply State.bus_kept
    | with_reducible apply State.cutCmdWrite_kept | dsimp only)

theorem execCutRelease_kept {K : Keep} {s0 : State} (ag : Agent) (v : Word) (s : State) (hs : Kept K s0 s) (kirq : K.irq = false := by assumption) (kcyc : K.cyc = false := by assumption) (kmsi : K.msi = false := by assumption) (kshu : K.shu = false := by assumption) (kblt : K.blt = false := by assumption) : KeptO K s0 (execCutRelease ag v s) := by
  unfold execCutRelease
  repeat' (first
    | with_reducible assumption | intro _ | with_reducible apply next_kept | with_reducible apply State.bus_kept
    | with_reducible apply State.cutCmdWrite_kept | dsimp only)

theorem execCutPostEnd_kept {K : Keep} {s0 : State} (j : Fin 8) (s : State) (hs : Kept K s0 s) (kirq : K.irq = false := by assumption) (kcyc : K.cyc = false := by assumption) (kmsi : K.msi = false := by assumption) (kshu : K.shu = false := by assumption) (kblt : K.blt = false := by assumption) : KeptO K s0 (execCutPostEnd j s) := by
  unfold execCutPostEnd
  repeat' (first
    | with_reducible assumption | intro _ | with_reducible apply next_kept | with_reducible apply iter_kept | with_reducible apply ite_kept
    | with_reducible apply ite_fst_kept | with_reducible apply State.when_kept | with_reducible apply State.markSeg_kept
    | with_reducible apply State.closeSeg_kept | with_reducible apply State.p_kept | with_reducible apply State.ev_kept
    | with_reducible apply State.openSeg_kept | with_reducible apply State.boltEvent_kept | extract_lets | dsimp only | split)

theorem execSummarySecond_kept {K : Keep} {s0 : State} (s : State) (hs : Kept K s0 s) (kshu : K.shu = false := by assumption) : KeptO K s0 (execSummarySecond s) := by
  unfold execSummarySecond
  repeat' (first
    | with_reducible assumption | intro _ | with_reducible apply next_kept | extract_lets | dsimp only | with_reducible apply Kept.upd_shu)

theorem execSummaryCondense_kept {K : Keep} {s0 : State} (s : State) (hs : Kept K s0 s) (kirq : K.irq = false := by assumption) (kcyc : K.cyc = false := by assumption) (kmsi : K.msi = false := by assumption) (kshu : K.shu = false := by assumption) (kblt : K.blt = false := by assumption) : KeptO K s0 (execSummaryCondense s) := by
  unfold execSummaryCondense
  repeat' (first
    | with_reducible assumption | with_reducible apply next_kept | with_reducible apply State.condense_kept | extract_lets | dsimp only | split
    | with_reducible apply Kept.upd_shu | dsimp +zetaDelta only)

theorem execSummaryLate_kept {K : Keep} {s0 : State} (s : State) (hs : Kept K s0 s) (kirq : K.irq = false := by assumption) (kcyc : K.cyc = false := by assumption) (kmsi : K.msi = false := by assumption) (kshu : K.shu = false := by assumption) : KeptO K s0 (execSummaryLate s) := by
  unfold execSummaryLate
  repeat' (first
    | with_reducible assumption | intro _ | with_reducible apply next_kept | with_reducible apply State.when_kept | with_reducible apply State.ev_kept
    | dsimp only)

end Sys2Proof.Machine
end

