-- ==== Sys2Proof/Laws/Kept/CryOps.lean ====
section
/-! SUPPORT. What the operations and meanings of Machine/CryOps.lean keep: the queue, the clock, the canonical forms, and every
component of the state that they have no business with. -/
namespace Sys2Proof.Machine

set_option linter.all false

theorem State.updCry_kept {K : Keep} {s0 : State} (s : State) (f : Cry → Cry) (hs : Kept K s0 s) (kcry : K.cry = false := by assumption) : Kept K s0 (State.updCry s f) := by
  unfold State.updCry
  repeat' (first
    | with_reducible assumption | with_reducible apply Kept.upd_cry)

theorem State.slotClr_kept {K : Keep} {s0 : State} (s : State) (n : Nat) (hs : Kept K s0 s) (kcyc : K.cyc = false := by assumption) (kcry : K.cry = false := by assumption) : Kept K s0 (State.slotClr s n) := by
  unfold State.slotClr
  repeat' (first
    | with_reducible assumption | intro _ | with_reducible apply State.updCyc_kept | with_reducible apply State.p_kept
    | with_reducible apply State.updCry_kept | extract_lets | dsimp only)

theorem State.nonceGuard_kept {K : Keep} {s0 : State} (s : State) (c : Nat) (f : Nat) (hs : Kept K s0 s) (kirq : K.irq = false := by assumption) (kcyc : K.cyc = false := by assumption) (kmsi : K.msi = false := by assumption) (kshu : K.shu = false := by assumption) (kcry : K.cry = false := by assumption) : Kept K s0 (State.nonceGuard s c f) := by
  unfold State.nonceGuard
  repeat' (first
    | with_reducible assumption | intro _ | with_reducible apply ite_kept | with_reducible apply ite_fst_kept | with_reducible apply foldl_kept
    | with_reducible apply foldl_fst_kept | with_reducible apply foldl_snd_kept | with_reducible apply State.overRegs_kept
    | with_reducible apply State.slotClr_kept | with_reducible apply State.inc_kept | with_reducible apply State.ev_kept | extract_lets | dsimp only
    | split)

theorem State.sealUse_kept {K : Keep} {s0 : State} (s : State) (c : Nat) (i : Nat) (f : Nat) (hs : Kept K s0 s) (kcry : K.cry = false := by assumption) : Kept K s0 (State.sealUse s c i f) := by
  unfold State.sealUse
  repeat' (first
    | with_reducible assumption | intro _ | with_reducible apply State.updCry_kept | with_reducible apply State.wr_kept | extract_lets | dsimp only)

theorem State.cryUp_kept {K : Keep} {s0 : State} (s : State) (c : Nat) (i : Nat) (x : UpX) (hs : Kept K s0 s) (kirq : K.irq = false := by assumption) (kcyc : K.cyc = false := by assumption) (kmsi : K.msi = false := by assumption) (kshu : K.shu = false := by assumption) (kcry : K.cry = false := by assumption) : Kept K s0 (State.cryUp s c i x).1 := by
  unfold State.cryUp
  repeat' (first
    | with_reducible assumption | intro _ | with_reducible apply ite_kept | with_reducible apply ite_fst_kept | with_reducible apply State.inc_kept
    | with_reducible apply State.when_kept | with_reducible apply State.sealUse_kept | with_reducible apply State.ev_kept | extract_lets | dsimp only
    | split)

end Sys2Proof.Machine
end

