-- ==== Sys2Proof/Laws/Kept/TrafficOps.lean ====
section
/-! SUPPORT. What the operations and meanings of Machine/TrafficOps.lean keep: the queue, the clock, the canonical forms, and every
component of the state that they have no business with. -/
namespace Sys2Proof.Machine

set_option linter.all false

theorem State.updTmg_kept {K : Keep} {s0 : State} (s : State) (f : Tmg → Tmg) (hs : Kept K s0 s) (ktmg : K.tmg = false := by assumption) : Kept K s0 (State.updTmg s f) := by
  unfold State.updTmg
  repeat' (first
    | with_reducible assumption | with_reducible apply Kept.upd_tmg)

theorem State.applyWords_kept {K : Keep} {s0 : State} (s : State) (a : Nat) (n : Nat) (hs : Kept K s0 s) : Kept K s0 (State.applyWords s a n) := by
  unfold State.applyWords
  repeat' (first
    | with_reducible assumption | intro _ | with_reducible apply foldl_kept | with_reducible apply foldl_fst_kept | with_reducible apply foldl_snd_kept
    | with_reducible apply State.wr_kept | dsimp only)

theorem State.charge_kept {K : Keep} {s0 : State} (s : State) (x : Nat) (l : Nat) (hs : Kept K s0 s) (ktmg : K.tmg = false := by assumption) : Kept K s0 (State.charge s x l) := by
  unfold State.charge
  repeat' (first
    | with_reducible assumption | intro _ | with_reducible apply ite_kept | with_reducible apply ite_fst_kept | with_reducible apply State.updTmg_kept
    | extract_lets | dsimp only | split)

theorem State.shpWrite_kept {K : Keep} {s0 : State} (s : State) (j : Nat) (w : Nat) (v : Word) (hs : Kept K s0 s) (ktmg : K.tmg = false := by assumption) : Kept K s0 (State.shpWrite s j w v) := by
  unfold State.shpWrite
  repeat' (first
    | with_reducible assumption | intro _ | with_reducible apply ite_kept | with_reducible apply ite_fst_kept | with_reducible apply foldl_kept
    | with_reducible apply foldl_fst_kept | with_reducible apply foldl_snd_kept | with_reducible apply State.updTmg_kept
    | with_reducible apply State.wrRW_kept | extract_lets | dsimp only | split)

theorem State.police_kept {K : Keep} {s0 : State} (s : State) (n : Nat) (l : Nat) (hs : Kept K s0 s) (ktmg : K.tmg = false := by assumption) : Kept K s0 (State.police s n l).1 := by
  unfold State.police
  repeat' (first
    | with_reducible assumption | intro _ | with_reducible apply ite_kept | with_reducible apply ite_fst_kept | with_reducible apply State.updTmg_kept
    | with_reducible apply State.when_kept | with_reducible apply State.inc_kept | extract_lets | dsimp only | split)

theorem State.polWrite_kept {K : Keep} {s0 : State} (s : State) (n : Nat) (w : Nat) (v : Word) (hs : Kept K s0 s) (ktmg : K.tmg = false := by assumption) : Kept K s0 (State.polWrite s n w v) := by
  unfold State.polWrite
  repeat' (first
    | with_reducible assumption | intro _ | with_reducible apply ite_kept | with_reducible apply ite_fst_kept | with_reducible apply State.wrRW_kept
    | with_reducible apply State.applyWords_kept | with_reducible apply State.updTmg_kept | extract_lets | dsimp only | split)

theorem State.spillCharge_kept {K : Keep} {s0 : State} (s : State) (n : Nat) (hs : Kept K s0 s) (ktmg : K.tmg = false := by assumption) : Kept K s0 (State.spillCharge s n) := by
  unfold State.spillCharge
  repeat' (first
    | with_reducible assumption | intro _ | with_reducible apply State.updTmg_kept | with_reducible apply State.add_kept | dsimp only)

theorem State.setFree_kept {K : Keep} {s0 : State} (s : State) (p : Nat) (n : Nat) (hs : Kept K s0 s) : Kept K s0 (State.setFree s p n) := by
  unfold State.setFree
  repeat' (first
    | with_reducible assumption | with_reducible apply ite_kept | with_reducible apply ite_fst_kept | with_reducible apply State.p_kept | extract_lets
    | dsimp only | split)

theorem State.lend_kept {K : Keep} {s0 : State} (s : State) (p : Nat) (b : List Byte) (hs : Kept K s0 s) (kirq : K.irq = false := by assumption) (kcyc : K.cyc = false := by assumption) (kmsi : K.msi = false := by assumption) (kshu : K.shu = false := by assumption) (ktmg : K.tmg = false := by assumption) : Kept K s0 (State.lend s p b).1 := by
  unfold State.lend
  repeat' (first
    | with_reducible assumption | intro _ | with_reducible apply State.event_kept | with_reducible apply State.updTmg_kept
    | with_reducible apply State.setFree_kept | extract_lets | dsimp only | split | dsimp +zetaDelta only)

theorem State.takeBuf_kept {K : Keep} {s0 : State} (s : State) (b : List Byte) (spillEn : Bool) (hs : Kept K s0 s) (kirq : K.irq = false := by assumption) (kcyc : K.cyc = false := by assumption) (kmsi : K.msi = false := by assumption) (kshu : K.shu = false := by assumption) (ktmg : K.tmg = false := by assumption) : Kept K s0 (State.takeBuf s b spillEn).1 := by
  unfold State.takeBuf
  repeat' (first
    | with_reducible assumption | with_reducible apply ite_kept | with_reducible apply ite_fst_kept | with_reducible apply State.lend_kept
    | with_reducible apply State.spillCharge_kept | extract_lets | dsimp only | split | dsimp +zetaDelta only)

theorem State.freeBack_kept {K : Keep} {s0 : State} (s : State) (k : Nat) (hs : Kept K s0 s) (ktmg : K.tmg = false := by assumption) : Kept K s0 (State.freeBack s k) := by
  unfold State.freeBack
  repeat' (first
    | with_reducible assumption | intro _ | with_reducible apply ite_kept | with_reducible apply ite_fst_kept | with_reducible apply State.updTmg_kept
    | with_reducible apply State.setFree_kept | extract_lets | dsimp only | split)

theorem State.copyLeft_kept {K : Keep} {s0 : State} (s : State) (k : Nat) (q : Nat) (hs : Kept K s0 s) (kcyc : K.cyc = false := by assumption) (ktmg : K.tmg = false := by assumption) : Kept K s0 (State.copyLeft s k q) := by
  unfold State.copyLeft
  repeat' (first
    | with_reducible assumption | intro _ | with_reducible apply ite_kept | with_reducible apply ite_fst_kept | with_reducible apply State.updTmg_kept
    | with_reducible apply State.updCyc_kept | extract_lets | dsimp only | split)

theorem State.copyGone_kept {K : Keep} {s0 : State} (s : State) (k : Nat) (q : Nat) (hs : Kept K s0 s) (kcyc : K.cyc = false := by assumption) (ktmg : K.tmg = false := by assumption) : Kept K s0 (State.copyGone s k q) := by
  unfold State.copyGone
  repeat' (first
    | with_reducible assumption | intro _ | with_reducible apply ite_kept | with_reducible apply ite_fst_kept | with_reducible apply State.copyLeft_kept
    | with_reducible apply State.updTmg_kept | extract_lets | dsimp only | split)

theorem State.copyDropped_kept {K : Keep} {s0 : State} (s : State) (k : Nat) (q : Nat) (hs : Kept K s0 s) (kcyc : K.cyc = false := by assumption) (ktmg : K.tmg = false := by assumption) : Kept K s0 (State.copyDropped s k q) := by
  unfold State.copyDropped
  repeat' (first
    | with_reducible assumption | with_reducible apply ite_kept | with_reducible apply ite_fst_kept | with_reducible apply State.copyLeft_kept
    | with_reducible apply State.freeBack_kept | split)

theorem State.unqueue_kept {K : Keep} {s0 : State} (s : State) (q : Nat) (pair : Nat) (hs : Kept K s0 s) (ktmg : K.tmg = false := by assumption) : Kept K s0 (State.unqueue s q pair) := by
  unfold State.unqueue
  repeat' (first
    | with_reducible assumption | intro _ | with_reducible apply State.updTmg_kept | with_reducible apply State.inc_kept
    | with_reducible apply State.wr64_kept | extract_lets | dsimp only)

theorem State.dropHead_kept {K : Keep} {s0 : State} (s : State) (q : Nat) (hs : Kept K s0 s) (kcyc : K.cyc = false := by assumption) (ktmg : K.tmg = false := by assumption) : Kept K s0 (State.dropHead s q) := by
  unfold State.dropHead
  repeat' (first
    | with_reducible assumption | with_reducible apply State.unqueue_kept | with_reducible apply State.copyDropped_kept | split | dsimp +zetaDelta only)

theorem State.flushQueue_kept {K : Keep} {s0 : State} (s : State) (q : Nat) (hs : Kept K s0 s) (kcyc : K.cyc = false := by assumption) (ktmg : K.tmg = false := by assumption) : Kept K s0 (State.flushQueue s q) := by
  unfold State.flushQueue
  repeat' (first
    | with_reducible assumption | intro _ | with_reducible apply iter_kept | with_reducible apply State.dropHead_kept
    | with_reducible apply State.updTmg_kept | extract_lets | dsimp only)

theorem State.flushRange_kept {K : Keep} {s0 : State} (s : State) (lo : Nat) (hi : Nat) (hs : Kept K s0 s) (kcyc : K.cyc = false := by assumption) (ktmg : K.tmg = false := by assumption) : Kept K s0 (State.flushRange s lo hi) := by
  unfold State.flushRange
  repeat' (first
    | with_reducible assumption | intro _ | with_reducible apply foldl_kept | with_reducible apply foldl_fst_kept | with_reducible apply foldl_snd_kept
    | with_reducible apply State.flushQueue_kept | dsimp only)

theorem State.flushChannel_kept {K : Keep} {s0 : State} (s : State) (c : Nat) (hs : Kept K s0 s) (kcyc : K.cyc = false := by assumption) (ktmg : K.tmg = false := by assumption) : Kept K s0 (State.flushChannel s c) := by
  unfold State.flushChannel
  repeat' (first
    | with_reducible assumption | intro _ | with_reducible apply State.flushRange_kept | with_reducible apply State.updTmg_kept | extract_lets
    | dsimp only)

theorem State.kidWrite_kept {K : Keep} {s0 : State} (s : State) (x : Nat) (n : Nat) (a : Nat) (v : Word) (hs : Kept K s0 s) (ktmg : K.tmg = false := by assumption) : Kept K s0 (State.kidWrite s x n a v) := by
  unfold State.kidWrite
  repeat' (first
    | with_reducible assumption | intro _ | with_reducible apply ite_kept | with_reducible apply ite_fst_kept | with_reducible apply State.wrRW_kept
    | with_reducible apply State.applyWords_kept | with_reducible apply State.updTmg_kept | extract_lets | dsimp only | split)

theorem drrLoop_kept {K : Keep} {s0 : State} (kids : List Nat) (elig : Nat → Bool) (hl : State → Nat → State × Nat) (quantum : Nat → Nat) (slot n : Nat) (s : State)
    (hhl : ∀ s x, Kept K s0 s → Kept K s0 (hl s x).1) (h : Kept K s0 s) (ktmg : K.tmg = false := by assumption) : Kept K s0 (drrLoop kids elig hl quantum slot n s).1 := by
  induction n generalizing s with
  | zero => simp only [drrLoop]; exact h
  | succ n ih =>
    unfold drrLoop
    repeat' (first
      | with_reducible assumption
      | with_reducible apply ih
      | apply hhl
      | with_reducible apply ite_fst_kept
      | with_reducible apply State.updTmg_kept
      | extract_lets
      | split)

theorem pickNode_kept {K : Keep} {s0 : State} (kids : List Nat) (pri : Nat → Nat) (elig : Nat → Bool) (hl : State → Nat → State × Nat) (quantum : Nat → Nat) (node : Nat) (s : State) (hhl : ∀ s x, Kept K s0 s → Kept K s0 (hl s x).1) (hs : Kept K s0 s) (ktmg : K.tmg = false := by assumption) : Kept K s0 (pickNode kids pri elig hl quantum node s).1 := by
  unfold pickNode
  repeat' (first
    | with_reducible assumption | intro _ | apply hhl | with_reducible apply drrLoop_kept | extract_lets | dsimp only | split | dsimp +zetaDelta only)

theorem State.pickQueue_kept {K : Keep} {s0 : State} (s : State) (node : Nat) (l : List Nat) (hs : Kept K s0 s) (ktmg : K.tmg = false := by assumption) : Kept K s0 (State.pickQueue s node l).1 := by
  unfold State.pickQueue
  repeat' (first
    | with_reducible assumption | intro _ | with_reducible apply pickNode_kept | dsimp only)

theorem State.pickChannel_kept {K : Keep} {s0 : State} (s : State) (c : Nat) (hs : Kept K s0 s) (ktmg : K.tmg = false := by assumption) : Kept K s0 (State.pickChannel s c).1 := by
  unfold State.pickChannel
  repeat' (first
    | with_reducible assumption | intro _ | with_reducible apply State.pickQueue_kept | with_reducible apply pickNode_kept | extract_lets | dsimp only
    | split | dsimp +zetaDelta only)

theorem State.kidLeft_kept {K : Keep} {s0 : State} (s : State) (x : Nat) (l : Nat) (empty : Bool) (hs : Kept K s0 s) (ktmg : K.tmg = false := by assumption) : Kept K s0 (State.kidLeft s x l empty) := by
  unfold State.kidLeft
  repeat' (first
    | with_reducible assumption | intro _ | with_reducible apply ite_kept | with_reducible apply ite_fst_kept | with_reducible apply State.updTmg_kept
    | with_reducible apply State.charge_kept | dsimp only | split)

theorem State.departQueue_kept {K : Keep} {s0 : State} (s : State) (q : Nat) (grp : Option Nat) (hs : Kept K s0 s) (kcyc : K.cyc = false := by assumption) (ktmg : K.tmg = false := by assumption) : Kept K s0 (State.departQueue s q grp).1 := by
  unfold State.departQueue
  repeat' (first
    | with_reducible assumption | intro _ | with_reducible apply State.unqueue_kept | with_reducible apply State.copyGone_kept
    | with_reducible apply State.kidLeft_kept | extract_lets | dsimp only | split | dsimp +zetaDelta only)

end Sys2Proof.Machine
end

