-- ==== Sys2Proof/Laws/Kept/PonOps.lean ====
section
/-! SUPPORT. What the operations and meanings of Machine/PonOps.lean keep: the queue, the clock, the canonical forms, and every
component of the state that they have no business with. -/
namespace Sys2Proof.Machine

set_option linter.all false

theorem State.txfError_kept {K : Keep} {s0 : State} (s : State) (c : Nat) (hs : Kept K s0 s) (kpch : K.pch = false := by assumption) : Kept K s0 (State.txfError s c) := by
  unfold State.txfError
  repeat' (first
    | with_reducible assumption | intro _ | with_reducible apply State.updPch_kept | dsimp only | split | dsimp +zetaDelta only)

theorem State.ploamSend_kept {K : Keep} {s0 : State} (s : State) (c : Nat) (m : Ploam) (hs : Kept K s0 s) (kirq : K.irq = false := by assumption) (kcyc : K.cyc = false := by assumption) (kmsi : K.msi = false := by assumption) (kpch : K.pch = false := by assumption) (kshu : K.shu = false := by assumption) : Kept K s0 (State.ploamSend s c m) := by
  unfold State.ploamSend
  repeat' (first
    | with_reducible assumption | intro _ | with_reducible apply ite_kept | with_reducible apply ite_fst_kept | with_reducible apply State.updPch_kept
    | with_reducible apply State.ev_kept | dsimp only | split)

theorem State.ploamSend3_kept {K : Keep} {s0 : State} (s : State) (c : Nat) (m : Ploam) (hs : Kept K s0 s) (kirq : K.irq = false := by assumption) (kcyc : K.cyc = false := by assumption) (kmsi : K.msi = false := by assumption) (kpch : K.pch = false := by assumption) (kshu : K.shu = false := by assumption) : Kept K s0 (State.ploamSend3 s c m) := by
  unfold State.ploamSend3
  repeat' (first
    | with_reducible assumption | with_reducible apply State.ploamSend_kept)

theorem State.closeEntry_kept {K : Keep} {s0 : State} (s : State) (i : Nat) (hs : Kept K s0 s) (kirq : K.irq = false := by assumption) (kcyc : K.cyc = false := by assumption) (kmsi : K.msi = false := by assumption) (kledger : K.ledger = false := by assumption) (kshu : K.shu = false := by assumption) (kblt : K.blt = false := by assumption) : Kept K s0 (State.closeEntry s i) := by
  unfold State.closeEntry
  repeat' (first
    | with_reducible assumption | with_reducible apply State.inc_kept | with_reducible apply State.boltProduce_kept | extract_lets | dsimp only
    | with_reducible apply Kept.upd_ledger)

theorem State.fixEntry_kept {K : Keep} {s0 : State} (s : State) (i : Nat) (o : Nat) (cw : Nat × Word) (hs : Kept K s0 s) (kledger : K.ledger = false := by assumption) : Kept K s0 (State.fixEntry s i o cw) := by
  unfold State.fixEntry
  repeat' (first
    | with_reducible assumption | intro _ | dsimp only | with_reducible apply Kept.upd_ledger)

theorem State.postClose_kept {K : Keep} {s0 : State} (s : State) (c : Nat) (w0 : Word) (w1 : Word) (hs : Kept K s0 s) (kirq : K.irq = false := by assumption) (kcyc : K.cyc = false := by assumption) (kmsi : K.msi = false := by assumption) (kpch : K.pch = false := by assumption) (kshu : K.shu = false := by assumption) : Kept K s0 (State.postClose s c w0 w1) := by
  unfold State.postClose
  repeat' (first
    | with_reducible assumption | intro _ | with_reducible apply ite_kept | with_reducible apply ite_fst_kept | with_reducible apply State.updPch_kept
    | with_reducible apply State.inc_kept | with_reducible apply State.ev_kept | dsimp only | split)

theorem State.postMeas_kept {K : Keep} {s0 : State} (s : State) (c : Nat) (d : List Word) (hs : Kept K s0 s) (kirq : K.irq = false := by assumption) (kcyc : K.cyc = false := by assumption) (kmsi : K.msi = false := by assumption) (kpch : K.pch = false := by assumption) (kshu : K.shu = false := by assumption) (kblt : K.blt = false := by assumption) : Kept K s0 (State.postMeas s c d) := by
  unfold State.postMeas
  repeat' (first
    | with_reducible assumption | intro _ | with_reducible apply ite_kept | with_reducible apply ite_fst_kept | with_reducible apply State.updPch_kept
    | with_reducible apply State.inc_kept | with_reducible apply State.ev_kept | with_reducible apply State.boltLost_kept | dsimp only | split)

theorem State.inqSync_kept {K : Keep} {s0 : State} (s : State) (c : Nat) (hs : Kept K s0 s) : Kept K s0 (State.inqSync s c) := by
  unfold State.inqSync
  repeat' (first
    | with_reducible assumption | with_reducible apply ite_kept | with_reducible apply ite_fst_kept | with_reducible apply State.p_kept | extract_lets
    | dsimp only | split)

theorem State.inqPush_kept {K : Keep} {s0 : State} (s : State) (c : Nat) (e : InEntry) (hs : Kept K s0 s) (kshd : K.shd = false := by assumption) : Kept K s0 (State.inqPush s c e).1 := by
  unfold State.inqPush
  repeat' (first
    | with_reducible assumption | intro _ | with_reducible apply ite_kept | with_reducible apply ite_fst_kept | with_reducible apply State.updShd_kept
    | with_reducible apply State.inqSync_kept | dsimp only | split)

theorem State.inqObs_kept {K : Keep} {s0 : State} (s : State) (c : Nat) (e : InEntry) (stat : Nat) (hs : Kept K s0 s) (kirq : K.irq = false := by assumption) (kcyc : K.cyc = false := by assumption) (kmsi : K.msi = false := by assumption) (kshd : K.shd = false := by assumption) (kshu : K.shu = false := by assumption) : Kept K s0 (State.inqObs s c e stat) := by
  unfold State.inqObs
  repeat' (first
    | with_reducible assumption | with_reducible apply ite_kept | with_reducible apply ite_fst_kept | with_reducible apply State.inqPush_kept
    | with_reducible apply State.inc_kept | with_reducible apply State.ev_kept | extract_lets | dsimp only | split)

theorem State.inqFlush_kept {K : Keep} {s0 : State} (s : State) (c : Nat) (hs : Kept K s0 s) (kshd : K.shd = false := by assumption) : Kept K s0 (State.inqFlush s c) := by
  unfold State.inqFlush
  repeat' (first
    | with_reducible assumption | intro _ | with_reducible apply State.updShd_kept | with_reducible apply State.inqSync_kept
    | with_reducible apply State.add_kept | extract_lets | dsimp only)

theorem State.dropMaps_kept {K : Keep} {s0 : State} (s : State) (c : Nat) (stat : Nat) (hs : Kept K s0 s) (kpch : K.pch = false := by assumption) : Kept K s0 (State.dropMaps s c stat) := by
  unfold State.dropMaps
  repeat' (first
    | with_reducible assumption | intro _ | with_reducible apply State.updPch_kept | with_reducible apply State.add_kept | extract_lets | dsimp only)

theorem State.fragDrop_kept {K : Keep} {s0 : State} (s : State) (c : Nat) (a : Nat) (hs : Kept K s0 s) (kpch : K.pch = false := by assumption) : Kept K s0 (State.fragDrop s c a) := by
  unfold State.fragDrop
  repeat' (first
    | with_reducible assumption | intro _ | with_reducible apply State.when_kept | with_reducible apply State.updPch_kept
    | with_reducible apply State.inc_kept | dsimp only)

theorem State.discardWins_kept {K : Keep} {s0 : State} (s : State) (c : Nat) (hs : Kept K s0 s) (kirq : K.irq = false := by assumption) (kcyc : K.cyc = false := by assumption) (kmsi : K.msi = false := by assumption) (kpch : K.pch = false := by assumption) (kledger : K.ledger = false := by assumption) (kshu : K.shu = false := by assumption) (kblt : K.blt = false := by assumption) : Kept K s0 (State.discardWins s c) := by
  unfold State.discardWins
  repeat' (first
    | with_reducible assumption | intro _ | with_reducible apply foldl_kept | with_reducible apply foldl_fst_kept | with_reducible apply foldl_snd_kept
    | with_reducible apply State.fixEntry_kept | with_reducible apply State.fragDrop_kept | with_reducible apply State.postClose_kept
    | with_reducible apply State.postMeas_kept | with_reducible apply State.updPch_kept | extract_lets | dsimp only)

theorem State.onuClear_kept {K : Keep} {s0 : State} (s : State) (c : Nat) (i : Nat) (live : Fld) (evt : Fld) (hs : Kept K s0 s) (kirq : K.irq = false := by assumption) (kcyc : K.cyc = false := by assumption) (kmsi : K.msi = false := by assumption) (kshu : K.shu = false := by assumption) (kblt : K.blt = false := by assumption) : Kept K s0 (State.onuClear s c i live evt) := by
  unfold State.onuClear
  repeat' (first
    | with_reducible assumption | intro _ | with_reducible apply ite_kept | with_reducible apply ite_fst_kept | with_reducible apply State.p_kept
    | with_reducible apply State.ev_kept | with_reducible apply State.boltEvent_kept | with_reducible apply State.sumUpd_kept | extract_lets | dsimp only
    | split)

theorem State.onuClearAll_kept {K : Keep} {s0 : State} (s : State) (c : Nat) (i : Nat) (hs : Kept K s0 s) (kirq : K.irq = false := by assumption) (kcyc : K.cyc = false := by assumption) (kmsi : K.msi = false := by assumption) (kslots : K.slots = false := by assumption) (kshu : K.shu = false := by assumption) (kblt : K.blt = false := by assumption) : Kept K s0 (State.onuClearAll s c i) := by
  unfold State.onuClearAll
  repeat' (first
    | with_reducible assumption | intro _ | with_reducible apply State.onuClear_kept | with_reducible apply State.updSlot_kept | extract_lets
    | dsimp only)

theorem State.allocOff_kept {K : Keep} {s0 : State} (s : State) (c : Nat) (a : Nat) (hs : Kept K s0 s) : Kept K s0 (State.allocOff s c a) := by
  unfold State.allocOff
  repeat' (first
    | with_reducible assumption | with_reducible apply ite_kept | with_reducible apply ite_fst_kept | with_reducible apply State.p_kept | extract_lets
    | dsimp only | split)

theorem State.slotValidSet_kept {K : Keep} {s0 : State} (s : State) (c : Nat) (a : Nat) (hs : Kept K s0 s) (kirq : K.irq = false := by assumption) (kcyc : K.cyc = false := by assumption) (kmsi : K.msi = false := by assumption) (kshd : K.shd = false := by assumption) (kshu : K.shu = false := by assumption) : Kept K s0 (State.slotValidSet s c a) := by
  unfold State.slotValidSet
  repeat' (first
    | with_reducible assumption | intro _ | with_reducible apply ite_kept | with_reducible apply ite_fst_kept | with_reducible apply State.updShd_kept
    | with_reducible apply State.p_kept | with_reducible apply State.ev_kept | extract_lets | dsimp only | split)

theorem State.rerangeFree_kept {K : Keep} {s0 : State} (s : State) (c : Nat) (i : Nat) (hs : Kept K s0 s) (kslots : K.slots = false := by assumption) (krng : K.rng = false := by assumption) : Kept K s0 (State.rerangeFree s c i) := by
  unfold State.rerangeFree
  repeat' (first
    | with_reducible assumption | intro _ | with_reducible apply ite_kept | with_reducible apply ite_fst_kept | with_reducible apply State.updRng_kept
    | with_reducible apply State.updSlot_kept | with_reducible apply State.p_kept | extract_lets | dsimp only | split)

theorem State.rngRestart_kept {K : Keep} {s0 : State} (s : State) (c : Nat) (hs : Kept K s0 s) (krng : K.rng = false := by assumption) : Kept K s0 (State.rngRestart s c) := by
  unfold State.rngRestart
  repeat' (first
    | with_reducible assumption | intro _ | with_reducible apply State.p_kept | with_reducible apply State.updRng_kept | extract_lets | dsimp only)

theorem State.qwCheck_kept {K : Keep} {s0 : State} (s : State) (c : Nat) (hs : Kept K s0 s) (krng : K.rng = false := by assumption) : Kept K s0 (State.qwCheck s c) := by
  unfold State.qwCheck
  repeat' (first
    | with_reducible assumption | intro _ | with_reducible apply State.when_kept | with_reducible apply State.p_kept
    | with_reducible apply State.updRng_kept | extract_lets | dsimp only)

theorem State.ploamAgain_kept {K : Keep} {s0 : State} (s : State) (c : Nat) (hs : Kept K s0 s) (kirq : K.irq = false := by assumption) (kcyc : K.cyc = false := by assumption) (kmsi : K.msi = false := by assumption) (kpch : K.pch = false := by assumption) (krng : K.rng = false := by assumption) (kshu : K.shu = false := by assumption) : Kept K s0 (State.ploamAgain s c) := by
  unfold State.ploamAgain
  repeat' (first
    | with_reducible assumption | intro _ | with_reducible apply foldl_kept | with_reducible apply foldl_fst_kept | with_reducible apply foldl_snd_kept
    | with_reducible apply State.updRng_kept | with_reducible apply State.ploamSend_kept | extract_lets | dsimp only)

theorem State.eqTouch_kept {K : Keep} {s0 : State} (s : State) (c : Nat) (i : Nat) (hs : Kept K s0 s) (kpch : K.pch = false := by assumption) : Kept K s0 (State.eqTouch s c i) := by
  unfold State.eqTouch
  repeat' (first
    | with_reducible assumption | intro _ | with_reducible apply ite_kept | with_reducible apply ite_fst_kept | with_reducible apply State.updPch_kept
    | dsimp only | split)

theorem State.slotEmpty_kept {K : Keep} {s0 : State} (s : State) (c : Nat) (i : Nat) (hs : Kept K s0 s) (kirq : K.irq = false := by assumption) (kcyc : K.cyc = false := by assumption) (kmsi : K.msi = false := by assumption) (kpch : K.pch = false := by assumption) (kslots : K.slots = false := by assumption) (krng : K.rng = false := by assumption) (kshu : K.shu = false := by assumption) (kblt : K.blt = false := by assumption) : Kept K s0 (State.slotEmpty s c i) := by
  unfold State.slotEmpty
  repeat' (first
    | with_reducible assumption | intro _ | with_reducible apply foldl_kept | with_reducible apply foldl_fst_kept | with_reducible apply foldl_snd_kept
    | with_reducible apply State.p_kept | with_reducible apply State.rerangeFree_kept | with_reducible apply State.allocOff_kept
    | with_reducible apply State.when_kept | with_reducible apply State.ev_kept | with_reducible apply State.onuClearAll_kept
    | with_reducible apply State.eqTouch_kept | with_reducible apply State.wr_kept | with_reducible apply State.sumUpd_kept | extract_lets | dsimp only
    | with_reducible apply Kept.upd_slots)

theorem State.heldDrop_kept {K : Keep} {s0 : State} (s : State) (ag : Agent) (c : Nat) (k : State → State) (hs : Kept K s0 s) (hk : ∀ s, Kept K s0 s → Kept K s0 (k s)) (kirq : K.irq = false := by assumption) (kcyc : K.cyc = false := by assumption) (kmsi : K.msi = false := by assumption) (kshu : K.shu = false := by assumption) : Kept K s0 (State.heldDrop s ag c k) := by
  unfold State.heldDrop
  repeat' (first
    | with_reducible assumption | intro _ | apply hk | with_reducible apply ite_kept | with_reducible apply ite_fst_kept
    | with_reducible apply State.ev_kept | split)

theorem State.writeProf_kept {K : Keep} {s0 : State} (s : State) (c : Nat) (p : Nat) (pre : Nat) (hs : Kept K s0 s) (kfresh : K.fresh = false := by assumption) (kirq : K.irq = false := by assumption) (kcyc : K.cyc = false := by assumption) (kmsi : K.msi = false := by assumption) (kpch : K.pch = false := by assumption) (kshu : K.shu = false := by assumption) : Kept K s0 (State.writeProf s c p pre) := by
  unfold State.writeProf
  repeat' (first
    | with_reducible assumption | with_reducible apply State.draw_kept | with_reducible apply State.wr_kept | with_reducible apply State.ploamSend_kept
    | extract_lets | dsimp only)

theorem State.readSettings_kept {K : Keep} {s0 : State} (s : State) (c : Nat) (hs : Kept K s0 s) (kpch : K.pch = false := by assumption) : Kept K s0 (State.readSettings s c) := by
  unfold State.readSettings
  repeat' (first
    | with_reducible assumption | intro _ | with_reducible apply ite_kept | with_reducible apply ite_fst_kept | with_reducible apply State.updPch_kept
    | extract_lets | dsimp only | split)

theorem State.todDrop_kept {K : Keep} {s0 : State} (s : State) (c : Nat) (hs : Kept K s0 s) : Kept K s0 (State.todDrop s c) := by
  unfold State.todDrop
  repeat' (first
    | with_reducible assumption | with_reducible apply State.p_kept)

theorem State.startChannel_kept {K : Keep} {s0 : State} (s : State) (c : Nat) (hs : Kept K s0 s) (kfresh : K.fresh = false := by assumption) (kirq : K.irq = false := by assumption) (kcyc : K.cyc = false := by assumption) (kmsi : K.msi = false := by assumption) (kpch : K.pch = false := by assumption) (krng : K.rng = false := by assumption) (kshu : K.shu = false := by assumption) : Kept K s0 (State.startChannel s c) := by
  unfold State.startChannel
  repeat' (first
    | with_reducible assumption | intro _ | with_reducible apply ite_kept | with_reducible apply ite_fst_kept | with_reducible apply State.updPch_kept
    | with_reducible apply State.p_kept | with_reducible apply State.todDrop_kept | with_reducible apply State.rngRestart_kept
    | with_reducible apply State.overRegs_kept | with_reducible apply State.wr_kept | with_reducible apply State.writeProf_kept | extract_lets
    | dsimp only | split)

theorem State.sleepReset_kept {K : Keep} {s0 : State} (s : State) (c : Nat) (hs : Kept K s0 s) (kpch : K.pch = false := by assumption) : Kept K s0 (State.sleepReset s c) := by
  unfold State.sleepReset
  repeat' (first
    | with_reducible assumption | intro _ | with_reducible apply State.p_kept | with_reducible apply State.updPch_kept | dsimp only)

theorem State.tryStart_kept {K : Keep} {s0 : State} (s : State) (c : Nat) (hs : Kept K s0 s) (kfresh : K.fresh = false := by assumption) (kirq : K.irq = false := by assumption) (kcyc : K.cyc = false := by assumption) (kmsi : K.msi = false := by assumption) (kpch : K.pch = false := by assumption) (krng : K.rng = false := by assumption) (kshu : K.shu = false := by assumption) : Kept K s0 (State.tryStart s c) := by
  unfold State.tryStart
  repeat' (first
    | with_reducible assumption | with_reducible apply ite_kept | with_reducible apply ite_fst_kept | with_reducible apply State.p_kept
    | with_reducible apply State.readSettings_kept | with_reducible apply State.startChannel_kept | with_reducible apply State.ev_kept | extract_lets
    | dsimp only | split)

theorem State.chClear_kept {K : Keep} {s0 : State} (s : State) (c : Nat) (live : Fld) (evt : Fld) (hs : Kept K s0 s) (kirq : K.irq = false := by assumption) (kcyc : K.cyc = false := by assumption) (kmsi : K.msi = false := by assumption) (kshu : K.shu = false := by assumption) (kblt : K.blt = false := by assumption) : Kept K s0 (State.chClear s c live evt) := by
  unfold State.chClear
  repeat' (first
    | with_reducible assumption | with_reducible apply ite_kept | with_reducible apply ite_fst_kept | with_reducible apply State.p_kept
    | with_reducible apply State.ev_kept | with_reducible apply State.boltEvent_kept | with_reducible apply State.chBytes_kept | split)

theorem State.onuRaise_kept {K : Keep} {s0 : State} (s : State) (c : Nat) (i : Nat) (blanked : Bool) (live : Fld) (evt : Fld) (hs : Kept K s0 s) (kirq : K.irq = false := by assumption) (kcyc : K.cyc = false := by assumption) (kmsi : K.msi = false := by assumption) (kslots : K.slots = false := by assumption) (kshu : K.shu = false := by assumption) (kblt : K.blt = false := by assumption) : Kept K s0 (State.onuRaise s c i blanked live evt).1 := by
  unfold State.onuRaise
  repeat' (first
    | with_reducible assumption | intro _ | with_reducible apply ite_kept | with_reducible apply ite_fst_kept | with_reducible apply State.inc_kept
    | with_reducible apply State.updSlot_kept | with_reducible apply State.p_kept | with_reducible apply State.ev_kept
    | with_reducible apply State.boltEvent_kept | with_reducible apply State.sumUpd_kept | extract_lets | dsimp only | split)

theorem State.clearHints_kept {K : Keep} {s0 : State} (s : State) (c : Nat) (hs : Kept K s0 s) (kshd : K.shd = false := by assumption) : Kept K s0 (State.clearHints s c) := by
  unfold State.clearHints
  repeat' (first
    | with_reducible assumption | intro _ | with_reducible apply State.updShd_kept | dsimp only)

theorem State.unadmit_kept {K : Keep} {s0 : State} (s : State) (q : Nat) (hs : Kept K s0 s) (kcyc : K.cyc = false := by assumption) (ktmg : K.tmg = false := by assumption) : Kept K s0 (State.unadmit s q) := by
  unfold State.unadmit
  repeat' (first
    | with_reducible assumption | intro _ | with_reducible apply State.updTmg_kept | with_reducible apply State.copyDropped_kept
    | with_reducible apply State.wr64_kept | with_reducible apply State.inc_kept | extract_lets | dsimp only | split | dsimp +zetaDelta only)

theorem State.unadmitAll_kept {K : Keep} {s0 : State} (s : State) (c : Nat) (hs : Kept K s0 s) (kcyc : K.cyc = false := by assumption) (ktmg : K.tmg = false := by assumption) : Kept K s0 (State.unadmitAll s c) := by
  unfold State.unadmitAll
  repeat' (first
    | with_reducible assumption | intro _ | with_reducible apply foldl_kept | with_reducible apply foldl_fst_kept | with_reducible apply foldl_snd_kept
    | with_reducible apply State.unadmit_kept | with_reducible apply State.updCyc_kept | extract_lets | dsimp only)

theorem State.closeChannel_kept {K : Keep} {s0 : State} (s : State) (c : Nat) (hs : Kept K s0 s) (kcyc : K.cyc = false := by assumption) (kpch : K.pch = false := by assumption) (kshd : K.shd = false := by assumption) (ktmg : K.tmg = false := by assumption) : Kept K s0 (State.closeChannel s c) := by
  unfold State.closeChannel
  repeat' (first
    | with_reducible assumption | intro _ | with_reducible apply ite_kept | with_reducible apply ite_fst_kept
    | with_reducible apply State.unadmitAll_kept | with_reducible apply State.p_kept | with_reducible apply State.updPch_kept
    | with_reducible apply State.dropMaps_kept | with_reducible apply State.clearHints_kept | with_reducible apply State.flushChannel_kept | extract_lets
    | dsimp only | split)

theorem State.actDisable_kept {K : Keep} {s0 : State} (s : State) (c : Nat) (hs : Kept K s0 s) (kcyc : K.cyc = false := by assumption) (kpch : K.pch = false := by assumption) (kshd : K.shd = false := by assumption) (ktmg : K.tmg = false := by assumption) : Kept K s0 (State.actDisable s c) := by
  unfold State.actDisable
  repeat' (first
    | with_reducible assumption | with_reducible apply ite_kept | with_reducible apply ite_fst_kept | with_reducible apply State.closeChannel_kept
    | split)

theorem State.retireChannel_kept {K : Keep} {s0 : State} (s : State) (c : Nat) (hs : Kept K s0 s) (kirq : K.irq = false := by assumption) (kcyc : K.cyc = false := by assumption) (kmsi : K.msi = false := by assumption) (kpch : K.pch = false := by assumption) (kshd : K.shd = false := by assumption) (kledger : K.ledger = false := by assumption) (kshu : K.shu = false := by assumption) (kblt : K.blt = false := by assumption) (ktmg : K.tmg = false := by assumption) : Kept K s0 (State.retireChannel s c) := by
  unfold State.retireChannel
  repeat' (first
    | with_reducible assumption | intro _ | with_reducible apply State.unadmitAll_kept | with_reducible apply State.p_kept
    | with_reducible apply State.discardWins_kept | with_reducible apply State.dropMaps_kept | with_reducible apply State.inqFlush_kept
    | with_reducible apply State.flushChannel_kept | with_reducible apply State.clearHints_kept | with_reducible apply State.sleepReset_kept
    | with_reducible apply State.updPch_kept | extract_lets | dsimp only)

theorem State.shedRestart_kept {K : Keep} {s0 : State} (s : State) (c : Nat) (hs : Kept K s0 s) (kshd : K.shd = false := by assumption) : Kept K s0 (State.shedRestart s c) := by
  unfold State.shedRestart
  repeat' (first
    | with_reducible assumption | intro _ | with_reducible apply State.updShd_kept | dsimp only)

theorem State.txSleep_kept {K : Keep} {s0 : State} (s : State) (c : Nat) (hs : Kept K s0 s) (kpch : K.pch = false := by assumption) : Kept K s0 (State.txSleep s c) := by
  unfold State.txSleep
  repeat' (first
    | with_reducible assumption | intro _ | with_reducible apply ite_kept | with_reducible apply ite_fst_kept | with_reducible apply State.p_kept
    | with_reducible apply State.updPch_kept | extract_lets | dsimp only | split)

theorem State.rxSleep_kept {K : Keep} {s0 : State} (s : State) (c : Nat) (hs : Kept K s0 s) (kpch : K.pch = false := by assumption) : Kept K s0 (State.rxSleep s c) := by
  unfold State.rxSleep
  repeat' (first
    | with_reducible assumption | intro _ | with_reducible apply State.dropMaps_kept | with_reducible apply State.updPch_kept | dsimp only)

theorem State.enterActive_kept {K : Keep} {s0 : State} (s : State) (c : Nat) (hs : Kept K s0 s) (kpch : K.pch = false := by assumption) (kshd : K.shd = false := by assumption) : Kept K s0 (State.enterActive s c) := by
  unfold State.enterActive
  repeat' (first
    | with_reducible assumption | intro _ | with_reducible apply State.p_kept | with_reducible apply State.shedRestart_kept
    | with_reducible apply State.when_kept | with_reducible apply State.txSleep_kept | with_reducible apply State.rxSleep_kept | extract_lets
    | dsimp only)

theorem State.book_kept {K : Keep} {s0 : State} (s : State) (c : Nat) (bcast : Bool) (i : Nat) (frame : Nat) (before : Nat) (after : Nat) (hs : Kept K s0 s) (kfresh : K.fresh = false := by assumption) (krng : K.rng = false := by assumption) (kshd : K.shd = false := by assumption) : Kept K s0 (State.book s c bcast i frame before after) := by
  unfold State.book
  repeat' (first
    | with_reducible assumption | intro _ | with_reducible apply ite_kept | with_reducible apply ite_fst_kept | with_reducible apply State.drawNat_kept
    | with_reducible apply State.inqPush_kept | with_reducible apply State.updRng_kept | extract_lets | dsimp only | split)

theorem State.shedLatch_kept {K : Keep} {s0 : State} (s : State) (c : Nat) (hs : Kept K s0 s) : Kept K s0 (State.shedLatch s c) := by
  unfold State.shedLatch
  repeat' (first
    | with_reducible assumption | intro _ | with_reducible apply foldl_kept | with_reducible apply foldl_fst_kept | with_reducible apply foldl_snd_kept
    | with_reducible apply State.wr_kept | extract_lets | dsimp only | with_reducible apply Kept.upd_regs)

theorem State.updAl_kept {K : Keep} {s0 : State} (s : State) (c : Nat) (a : Nat) (f : AllocSt → AllocSt) (hs : Kept K s0 s) (kshd : K.shd = false := by assumption) : Kept K s0 (State.updAl s c a f) := by
  unfold State.updAl
  repeat' (first
    | with_reducible assumption | intro _ | with_reducible apply State.updShd_kept | dsimp only)

theorem State.monitor_kept {K : Keep} {s0 : State} (s : State) (c : Nat) (a : Nat) (f : Nat) (g : Nat) (i : Nat) (hs : Kept K s0 s) (kshd : K.shd = false := by assumption) : Kept K s0 (State.monitor s c a f g i) := by
  unfold State.monitor
  repeat' (first
    | with_reducible assumption | intro _ | with_reducible apply ite_kept | with_reducible apply ite_fst_kept | with_reducible apply State.updAl_kept
    | dsimp only | split)

end Sys2Proof.Machine
end

