-- ==== Sys2Proof/Laws/Kept/MapOps.lean ====
section
/-! SUPPORT. What the operations and meanings of Machine/MapOps.lean keep: the queue, the clock, the canonical forms, and every
component of the state that they have no business with. -/
namespace Sys2Proof.Machine

set_option linter.all false

theorem State.grantInto_kept {K : Keep} {s0 : State} (s : State) (c : Nat) (b : List Grant) (g : Grant) (put : List Grant → Pch → Pch) (hs : Kept K s0 s) (kirq : K.irq = false := by assumption) (kcyc : K.cyc = false := by assumption) (kmsi : K.msi = false := by assumption) (kpch : K.pch = false := by assumption) (kshu : K.shu = false := by assumption) : Kept K s0 (State.grantInto s c b g put).1 := by
  unfold State.grantInto
  repeat' (first
    | with_reducible assumption | with_reducible apply ite_kept | with_reducible apply ite_fst_kept | with_reducible apply State.inc_kept
    | with_reducible apply State.ev_kept | with_reducible apply State.updPch_kept | split)

theorem State.grantWrite_kept {K : Keep} {s0 : State} (s : State) (c : Nat) (g : Grant) (hs : Kept K s0 s) (kirq : K.irq = false := by assumption) (kcyc : K.cyc = false := by assumption) (kmsi : K.msi = false := by assumption) (kpch : K.pch = false := by assumption) (kshu : K.shu = false := by assumption) : Kept K s0 (State.grantWrite s c g).1 := by
  unfold State.grantWrite
  repeat' (first
    | with_reducible assumption | intro _ | with_reducible apply ite_kept | with_reducible apply ite_fst_kept | with_reducible apply State.grantInto_kept
    | with_reducible apply State.inc_kept | extract_lets | dsimp only | split)

theorem State.respond_kept {K : Keep} {s0 : State} (s : State) (k : Nat) (r : Nat) (port : Nat) (hs : Kept K s0 s) (kfresh : K.fresh = false := by assumption) (kshu : K.shu = false := by assumption) : Kept K s0 (State.respond s k r port) := by
  unfold State.respond
  repeat' (first
    | with_reducible assumption | with_reducible apply State.draw_kept | extract_lets | dsimp only | split | with_reducible apply Kept.upd_shu
    | dsimp +zetaDelta only)

theorem State.refuseTo_kept {K : Keep} {s0 : State} (s : State) (bind : Nat) (c : Nat) (hs : Kept K s0 s) (kfresh : K.fresh = false := by assumption) (kshu : K.shu = false := by assumption) : Kept K s0 (State.refuseTo s bind c) := by
  unfold State.refuseTo
  repeat' (first
    | with_reducible assumption | intro _ | with_reducible apply State.respond_kept | dsimp only | split | dsimp +zetaDelta only)

theorem State.hintLate_kept {K : Keep} {s0 : State} (s : State) (c : Nat) (hs : Kept K s0 s) (kirq : K.irq = false := by assumption) (kcyc : K.cyc = false := by assumption) (kmsi : K.msi = false := by assumption) (kshu : K.shu = false := by assumption) : Kept K s0 (State.hintLate s c) := by
  unfold State.hintLate
  repeat' (first
    | with_reducible assumption | with_reducible apply State.inc_kept | with_reducible apply State.ev_kept)

theorem State.hintRun_kept {K : Keep} {s0 : State} (n : Nat) (s : State) (c : Nat) (x : Hint) (h : Kept K s0 s) (kirq : K.irq = false := by assumption) (kcyc : K.cyc = false := by assumption) (kmsi : K.msi = false := by assumption) (kshd : K.shd = false := by assumption) (kshu : K.shu = false := by assumption) : Kept K s0 (State.hintRun n s c x).1 := by
  induction n generalizing s x with
  | zero => simp only [State.hintRun]; exact h
  | succ n ih =>
    unfold State.hintRun
    dsimp only
    repeat' (first
      | with_reducible assumption
      | with_reducible apply ih
      | with_reducible apply State.hintLate_kept
      | with_reducible apply State.inqPush_kept
      | extract_lets
      | split)

theorem State.hintDeliver_kept {K : Keep} {s0 : State} (s : State) (c : Nat) (hs : Kept K s0 s) (kirq : K.irq = false := by assumption) (kcyc : K.cyc = false := by assumption) (kmsi : K.msi = false := by assumption) (kshd : K.shd = false := by assumption) (kshu : K.shu = false := by assumption) : Kept K s0 (State.hintDeliver s c) := by
  unfold State.hintDeliver
  repeat' (first
    | with_reducible assumption | intro _ | with_reducible apply foldl_kept | with_reducible apply foldl_fst_kept | with_reducible apply foldl_snd_kept
    | with_reducible apply State.hintRun_kept | with_reducible apply State.updShd_kept | extract_lets | dsimp only)

theorem State.bookRetry_kept {K : Keep} {s0 : State} (s : State) (c : Nat) (hs : Kept K s0 s) (krng : K.rng = false := by assumption) (kshd : K.shd = false := by assumption) : Kept K s0 (State.bookRetry s c) := by
  unfold State.bookRetry
  repeat' (first
    | with_reducible assumption | intro _ | with_reducible apply ite_kept | with_reducible apply ite_fst_kept | with_reducible apply foldl_kept
    | with_reducible apply foldl_fst_kept | with_reducible apply foldl_snd_kept | with_reducible apply State.inqPush_kept
    | with_reducible apply State.updRng_kept | extract_lets | dsimp only | split)

theorem State.reserveBurst_kept {K : Keep} {s0 : State} (s : State) (c : Nat) (n : Nat) (b : Burst) (hs : Kept K s0 s) (kledger : K.ledger = false := by assumption) : Kept K s0 (State.reserveBurst s c n b).1 := by
  unfold State.reserveBurst
  repeat' (first
    | with_reducible assumption | intro _ | with_reducible apply foldl_kept | with_reducible apply foldl_fst_kept | with_reducible apply foldl_snd_kept
    | with_reducible apply State.inc_kept | extract_lets | dsimp only | with_reducible apply Kept.upd_ledger)

theorem State.issueBurst_kept {K : Keep} {s0 : State} (s : State) (c : Nat) (n : Nat) (b : Burst) (hs : Kept K s0 s) (kirq : K.irq = false := by assumption) (kcyc : K.cyc = false := by assumption) (kmsi : K.msi = false := by assumption) (kpch : K.pch = false := by assumption) (kledger : K.ledger = false := by assumption) (kshu : K.shu = false := by assumption) : Kept K s0 (State.issueBurst s c n b) := by
  unfold State.issueBurst
  repeat' (first
    | with_reducible assumption | intro _ | with_reducible apply State.when_kept | with_reducible apply State.ev_kept
    | with_reducible apply State.reserveBurst_kept | with_reducible apply State.add_kept | with_reducible apply State.updPch_kept
    | with_reducible apply State.bwAdd_kept | extract_lets | dsimp only)

theorem State.sealMap_kept {K : Keep} {s0 : State} (s : State) (c : Nat) (n : Nat) (buf : List Grant) (hs : Kept K s0 s) (kirq : K.irq = false := by assumption) (kcyc : K.cyc = false := by assumption) (kmsi : K.msi = false := by assumption) (kpch : K.pch = false := by assumption) (krng : K.rng = false := by assumption) (kledger : K.ledger = false := by assumption) (kshu : K.shu = false := by assumption) : Kept K s0 (State.sealMap s c n buf) := by
  unfold State.sealMap
  repeat' (first
    | with_reducible assumption | intro _ | with_reducible apply foldl_kept | with_reducible apply foldl_fst_kept | with_reducible apply foldl_snd_kept
    | with_reducible apply State.add_kept | with_reducible apply State.when_kept | with_reducible apply State.ev_kept | with_reducible apply State.p_kept
    | with_reducible apply State.updRng_kept | with_reducible apply State.issueBurst_kept | with_reducible apply State.updPch_kept | extract_lets
    | dsimp only)

theorem State.ploamCarried_kept {K : Keep} {s0 : State} (s : State) (c : Nat) (n : Nat) (m : Ploam) (hs : Kept K s0 s) (kfresh : K.fresh = false := by assumption) (krng : K.rng = false := by assumption) (kshd : K.shd = false := by assumption) (kcry : K.cry = false := by assumption) : Kept K s0 (State.ploamCarried s c n m) := by
  unfold State.ploamCarried
  repeat' (first
    | with_reducible assumption | intro _ | with_reducible apply ite_kept | with_reducible apply ite_fst_kept | with_reducible apply State.updRng_kept
    | with_reducible apply State.updCry_kept | with_reducible apply State.when_kept | with_reducible apply State.book_kept | dsimp only | split
    | dsimp +zetaDelta only)

theorem State.ploamBind_kept {K : Keep} {s0 : State} (s : State) (c : Nat) (n : Nat) (hs : Kept K s0 s) (kfresh : K.fresh = false := by assumption) (kpch : K.pch = false := by assumption) (krng : K.rng = false := by assumption) (kshd : K.shd = false := by assumption) (kcry : K.cry = false := by assumption) : Kept K s0 (State.ploamBind s c n) := by
  unfold State.ploamBind
  repeat' (first
    | with_reducible assumption | intro _ | with_reducible apply foldl_kept | with_reducible apply foldl_fst_kept | with_reducible apply foldl_snd_kept
    | with_reducible apply State.updPch_kept | with_reducible apply State.ploamCarried_kept | extract_lets | dsimp only)

theorem State.brxCtlWrite_kept {K : Keep} {s0 : State} (s : State) (c : Nat) (v : Word) (hs : Kept K s0 s) : Kept K s0 (State.brxCtlWrite s c v) := by
  unfold State.brxCtlWrite
  repeat' (first
    | with_reducible assumption | intro _ | with_reducible apply ite_kept | with_reducible apply ite_fst_kept | with_reducible apply State.wrRW_kept
    | with_reducible apply State.when_kept | with_reducible apply State.overRegs_kept | with_reducible apply State.wr_kept | extract_lets | dsimp only
    | split)

end Sys2Proof.Machine
end

