-- ==== Sys2Proof/Laws/Kept/Downstream.lean ====
section
/-! SUPPORT. What the operations and meanings of Machine/Downstream.lean keep: the queue, the clock, the canonical forms, and every
component of the state that they have no business with. -/
namespace Sys2Proof.Machine

set_option linter.all false

theorem State.sealFrame_kept {K : Keep} {s0 : State} (s : State) (c : Nat) (hs : Kept K s0 s) (kfresh : K.fresh = false := by assumption) (kirq : K.irq = false := by assumption) (kcyc : K.cyc = false := by assumption) (kmsi : K.msi = false := by assumption) (kpch : K.pch = false := by assumption) (krng : K.rng = false := by assumption) (kshd : K.shd = false := by assumption) (kledger : K.ledger = false := by assumption) (kshu : K.shu = false := by assumption) (kcry : K.cry = false := by assumption) : Kept K s0 (State.sealFrame s c) := by
  unfold State.sealFrame
  repeat' (first
    | with_reducible assumption | intro _ | with_reducible apply ite_kept | with_reducible apply ite_fst_kept | with_reducible apply State.add_kept
    | with_reducible apply State.sealMap_kept | with_reducible apply State.when_kept | with_reducible apply State.updPch_kept
    | with_reducible apply State.ploamBind_kept | with_reducible apply State.ploamAgain_kept | with_reducible apply State.inc_kept
    | with_reducible apply State.hintDeliver_kept | with_reducible apply State.bookRetry_kept | with_reducible apply State.qwCheck_kept | extract_lets
    | dsimp only | split | dsimp +zetaDelta only)

theorem execMapSeal_kept {K : Keep} {s0 : State} (c : Fin 64) (s : State) (hs : Kept K s0 s) (kfresh : K.fresh = false := by assumption) (kirq : K.irq = false := by assumption) (kcyc : K.cyc = false := by assumption) (kmsi : K.msi = false := by assumption) (kpch : K.pch = false := by assumption) (krng : K.rng = false := by assumption) (kshd : K.shd = false := by assumption) (kledger : K.ledger = false := by assumption) (ksealRot : K.sealRot = false := by assumption) (kshu : K.shu = false := by assumption) (kcry : K.cry = false := by assumption) : KeptO K s0 (execMapSeal c s) := by
  unfold execMapSeal
  repeat' (first
    | with_reducible assumption | intro _ | with_reducible apply next_kept | with_reducible apply ite_kept | with_reducible apply ite_fst_kept
    | with_reducible apply foldl_kept | with_reducible apply foldl_fst_kept | with_reducible apply foldl_snd_kept | with_reducible apply State.when_kept
    | with_reducible apply State.sealFrame_kept | extract_lets | dsimp only | split | with_reducible apply Kept.upd_sealRot)

theorem State.sealCtlWrite_kept {K : Keep} {s0 : State} (s : State) (c : Nat) (v : Word) (hs : Kept K s0 s) (kirq : K.irq = false := by assumption) (kcyc : K.cyc = false := by assumption) (kmsi : K.msi = false := by assumption) (kshu : K.shu = false := by assumption) : Kept K s0 (State.sealCtlWrite s c v) := by
  unfold State.sealCtlWrite
  repeat' (first
    | with_reducible assumption | with_reducible apply ite_kept | with_reducible apply ite_fst_kept | with_reducible apply State.wrRW_kept
    | with_reducible apply State.ev_kept | extract_lets | dsimp only | split)

theorem execSealLeadWrite_kept {K : Keep} {s0 : State} (ag : Agent) (c : Fin 64) (v : Word) (s : State) (hs : Kept K s0 s) (kirq : K.irq = false := by assumption) (kcyc : K.cyc = false := by assumption) (kmsi : K.msi = false := by assumption) (kshu : K.shu = false := by assumption) : KeptO K s0 (execSealLeadWrite ag c v s) := by
  unfold execSealLeadWrite
  repeat' (first
    | with_reducible assumption | intro _ | with_reducible apply next_kept | with_reducible apply State.bus_kept
    | with_reducible apply State.sealCtlWrite_kept | dsimp only)

theorem execGrantWrite_kept {K : Keep} {s0 : State} (c : Fin 64) (w0 : Word) (w1 : Word) (w2 : Word) (s : State) (hs : Kept K s0 s) (kfresh : K.fresh = false := by assumption) (kirq : K.irq = false := by assumption) (kcyc : K.cyc = false := by assumption) (kmsi : K.msi = false := by assumption) (kpch : K.pch = false := by assumption) (kshu : K.shu = false := by assumption) : KeptO K s0 (execGrantWrite c w0 w1 w2 s) := by
  unfold execGrantWrite
  repeat' (first
    | with_reducible assumption | with_reducible apply next_kept | with_reducible apply ite_kept | with_reducible apply ite_fst_kept
    | with_reducible apply State.grantWrite_kept | with_reducible apply State.refuseTo_kept | extract_lets | dsimp only | split)

theorem execPloamWrite_kept {K : Keep} {s0 : State} (c : Fin 64) (m : Ploam) (s : State) (hs : Kept K s0 s) (kirq : K.irq = false := by assumption) (kcyc : K.cyc = false := by assumption) (kmsi : K.msi = false := by assumption) (kpch : K.pch = false := by assumption) (kshu : K.shu = false := by assumption) : KeptO K s0 (execPloamWrite c m s) := by
  unfold execPloamWrite
  repeat' (first
    | with_reducible assumption | with_reducible apply next_kept | with_reducible apply State.ploamSend_kept)

end Sys2Proof.Machine
end

