-- ==== Sys2Proof/Laws/Kept/Channel.lean ====
section
/-! SUPPORT. What the operations and meanings of Machine/Channel.lean keep: the queue, the clock, the canonical forms, and every
component of the state that they have no business with. -/
namespace Sys2Proof.Machine

set_option linter.all false

theorem State.enableOne_kept {K : Keep} {s0 : State} (s : State) (c : Nat) (hs : Kept K s0 s) (kfresh : K.fresh = false := by assumption) (kirq : K.irq = false := by assumption) (kcyc : K.cyc = false := by assumption) (kmsi : K.msi = false := by assumption) (kpch : K.pch = false := by assumption) (krng : K.rng = false := by assumption) (kshu : K.shu = false := by assumption) : Kept K s0 (State.enableOne s c) := by
  unfold State.enableOne
  repeat' (first
    | with_reducible assumption | intro _ | with_reducible apply ite_kept | with_reducible apply ite_fst_kept | with_reducible apply State.p_kept
    | with_reducible apply State.ev_kept | with_reducible apply State.tryStart_kept | with_reducible apply State.updPch_kept | extract_lets | dsimp only
    | split)

theorem State.enableZero_kept {K : Keep} {s0 : State} (s : State) (c : Nat) (hs : Kept K s0 s) (kcyc : K.cyc = false := by assumption) (kpch : K.pch = false := by assumption) (kshd : K.shd = false := by assumption) (ktmg : K.tmg = false := by assumption) : Kept K s0 (State.enableZero s c) := by
  unfold State.enableZero
  repeat' (first
    | with_reducible assumption | intro _ | with_reducible apply State.updPch_kept | with_reducible apply State.actDisable_kept | extract_lets
    | dsimp only)

theorem State.chCtlWrite_kept {K : Keep} {s0 : State} (s : State) (c : Nat) (v : Word) (hs : Kept K s0 s) (kfresh : K.fresh = false := by assumption) (kirq : K.irq = false := by assumption) (kcyc : K.cyc = false := by assumption) (kmsi : K.msi = false := by assumption) (kpch : K.pch = false := by assumption) (krng : K.rng = false := by assumption) (kshd : K.shd = false := by assumption) (kshu : K.shu = false := by assumption) (ktmg : K.tmg = false := by assumption) : Kept K s0 (State.chCtlWrite s c v) := by
  unfold State.chCtlWrite
  repeat' (first
    | with_reducible assumption | with_reducible apply ite_kept | with_reducible apply ite_fst_kept | with_reducible apply State.wrRW_kept
    | with_reducible apply State.enableOne_kept | with_reducible apply State.enableZero_kept | extract_lets | dsimp only | split)

theorem execChannelEnable_kept {K : Keep} {s0 : State} (ag : Agent) (c : Fin 64) (v : Word) (s : State) (hs : Kept K s0 s) (kfresh : K.fresh = false := by assumption) (kirq : K.irq = false := by assumption) (kcyc : K.cyc = false := by assumption) (kmsi : K.msi = false := by assumption) (kpch : K.pch = false := by assumption) (krng : K.rng = false := by assumption) (kshd : K.shd = false := by assumption) (kshu : K.shu = false := by assumption) (ktmg : K.tmg = false := by assumption) : KeptO K s0 (execChannelEnable ag c v s) := by
  unfold execChannelEnable
  repeat' (first
    | with_reducible assumption | intro _ | with_reducible apply next_kept | with_reducible apply State.bus_kept
    | with_reducible apply State.chCtlWrite_kept | dsimp only)

theorem execChannelDisable_kept {K : Keep} {s0 : State} (ag : Agent) (c : Fin 64) (v : Word) (s : State) (hs : Kept K s0 s) (kfresh : K.fresh = false := by assumption) (kirq : K.irq = false := by assumption) (kcyc : K.cyc = false := by assumption) (kmsi : K.msi = false := by assumption) (kpch : K.pch = false := by assumption) (krng : K.rng = false := by assumption) (kshd : K.shd = false := by assumption) (kshu : K.shu = false := by assumption) (ktmg : K.tmg = false := by assumption) : KeptO K s0 (execChannelDisable ag c v s) := by
  unfold execChannelDisable
  repeat' (first
    | with_reducible assumption | intro _ | with_reducible apply next_kept | with_reducible apply State.bus_kept
    | with_reducible apply State.chCtlWrite_kept | dsimp only)

theorem execTxPllLock_kept {K : Keep} {s0 : State} (c : Fin 64) (s : State) (hs : Kept K s0 s) (kpch : K.pch = false := by assumption) : KeptO K s0 (execTxPllLock c s) := by
  unfold execTxPllLock
  repeat' (first
    | with_reducible assumption | intro _ | with_reducible apply next_kept | with_reducible apply State.when_kept
    | with_reducible apply State.updPch_kept | dsimp only)

theorem State.rxWake_kept {K : Keep} {s0 : State} (s : State) (c : Nat) (hs : Kept K s0 s) (kpch : K.pch = false := by assumption) : Kept K s0 (State.rxWake s c) := by
  unfold State.rxWake
  repeat' (first
    | with_reducible assumption | intro _ | with_reducible apply State.p_kept | with_reducible apply State.updPch_kept | dsimp only)

theorem State.sleepWrite_kept {K : Keep} {s0 : State} (s : State) (c : Nat) (v : Word) (hs : Kept K s0 s) (kpch : K.pch = false := by assumption) : Kept K s0 (State.sleepWrite s c v) := by
  unfold State.sleepWrite
  repeat' (first
    | with_reducible assumption | intro _ | with_reducible apply ite_kept | with_reducible apply ite_fst_kept | with_reducible apply State.wrHalf_kept
    | with_reducible apply State.when_kept | with_reducible apply State.txSleep_kept | with_reducible apply State.updPch_kept
    | with_reducible apply State.rxSleep_kept | with_reducible apply State.rxWake_kept | extract_lets | dsimp only | split)

theorem execTxSleepRequest_kept {K : Keep} {s0 : State} (ag : Agent) (c : Fin 64) (v : Word) (s : State) (hs : Kept K s0 s) (kirq : K.irq = false := by assumption) (kcyc : K.cyc = false := by assumption) (kmsi : K.msi = false := by assumption) (kpch : K.pch = false := by assumption) (kshu : K.shu = false := by assumption) : KeptO K s0 (execTxSleepRequest ag c v s) := by
  unfold execTxSleepRequest
  repeat' (first
    | with_reducible assumption | intro _ | with_reducible apply next_kept | with_reducible apply State.bus_kept
    | with_reducible apply State.sleepWrite_kept | dsimp only)

theorem execTxWakeRequest_kept {K : Keep} {s0 : State} (ag : Agent) (c : Fin 64) (v : Word) (s : State) (hs : Kept K s0 s) (kirq : K.irq = false := by assumption) (kcyc : K.cyc = false := by assumption) (kmsi : K.msi = false := by assumption) (kpch : K.pch = false := by assumption) (kshu : K.shu = false := by assumption) : KeptO K s0 (execTxWakeRequest ag c v s) := by
  unfold execTxWakeRequest
  repeat' (first
    | with_reducible assumption | intro _ | with_reducible apply next_kept | with_reducible apply State.bus_kept
    | with_reducible apply State.sleepWrite_kept | dsimp only)

theorem execRxSleepRequest_kept {K : Keep} {s0 : State} (ag : Agent) (c : Fin 64) (v : Word) (s : State) (hs : Kept K s0 s) (kirq : K.irq = false := by assumption) (kcyc : K.cyc = false := by assumption) (kmsi : K.msi = false := by assumption) (kpch : K.pch = false := by assumption) (kshu : K.shu = false := by assumption) : KeptO K s0 (execRxSleepRequest ag c v s) := by
  unfold execRxSleepRequest
  repeat' (first
    | with_reducible assumption | intro _ | with_reducible apply next_kept | with_reducible apply State.bus_kept
    | with_reducible apply State.sleepWrite_kept | dsimp only)

theorem execRxWakeRequest_kept {K : Keep} {s0 : State} (ag : Agent) (c : Fin 64) (v : Word) (s : State) (hs : Kept K s0 s) (kirq : K.irq = false := by assumption) (kcyc : K.cyc = false := by assumption) (kmsi : K.msi = false := by assumption) (kpch : K.pch = false := by assumption) (kshu : K.shu = false := by assumption) : KeptO K s0 (execRxWakeRequest ag c v s) := by
  unfold execRxWakeRequest
  repeat' (first
    | with_reducible assumption | intro _ | with_reducible apply next_kept | with_reducible apply State.bus_kept
    | with_reducible apply State.sleepWrite_kept | dsimp only)

theorem execRxPowerdown_kept {K : Keep} {s0 : State} (c : Fin 64) (s : State) (hs : Kept K s0 s) : KeptO K s0 (execRxPowerdown c s) := by
  unfold execRxPowerdown
  repeat' (first
    | with_reducible assumption | intro _ | with_reducible apply next_kept | with_reducible apply State.when_kept | with_reducible apply State.p_kept
    | dsimp only)

theorem execStartingComplete_kept {K : Keep} {s0 : State} (c : Fin 64) (s : State) (hs : Kept K s0 s) (kpch : K.pch = false := by assumption) (kshd : K.shd = false := by assumption) : KeptO K s0 (execStartingComplete c s) := by
  unfold execStartingComplete
  repeat' (first
    | with_reducible assumption | intro _ | with_reducible apply next_kept | with_reducible apply State.when_kept
    | with_reducible apply State.enterActive_kept | extract_lets | dsimp only)

theorem execDrainTimeout_kept {K : Keep} {s0 : State} (c : Fin 64) (s : State) (hs : Kept K s0 s) (kcyc : K.cyc = false := by assumption) (ktmg : K.tmg = false := by assumption) : KeptO K s0 (execDrainTimeout c s) := by
  unfold execDrainTimeout
  repeat' (first
    | with_reducible assumption | intro _ | with_reducible apply next_kept | with_reducible apply State.when_kept
    | with_reducible apply State.flushChannel_kept | dsimp only)

theorem execClosingDone_kept {K : Keep} {s0 : State} (c : Fin 64) (s : State) (hs : Kept K s0 s) (kfresh : K.fresh = false := by assumption) (kirq : K.irq = false := by assumption) (kcyc : K.cyc = false := by assumption) (kmsi : K.msi = false := by assumption) (kpch : K.pch = false := by assumption) (krng : K.rng = false := by assumption) (kshd : K.shd = false := by assumption) (kshu : K.shu = false := by assumption) : KeptO K s0 (execClosingDone c s) := by
  unfold execClosingDone
  repeat' (first
    | with_reducible assumption | intro _ | with_reducible apply next_kept | with_reducible apply State.when_kept | with_reducible apply State.p_kept
    | with_reducible apply State.dropMaps_kept | with_reducible apply State.inqFlush_kept | with_reducible apply State.sleepReset_kept
    | with_reducible apply State.updPch_kept | with_reducible apply State.tryStart_kept | extract_lets | dsimp only)

theorem State.chRaise_kept {K : Keep} {s0 : State} (s : State) (c : Nat) (blanked : Bool) (live : Fld) (evt : Fld) (hs : Kept K s0 s) (kirq : K.irq = false := by assumption) (kcyc : K.cyc = false := by assumption) (kmsi : K.msi = false := by assumption) (kshu : K.shu = false := by assumption) (kblt : K.blt = false := by assumption) : Kept K s0 (State.chRaise s c blanked live evt) := by
  unfold State.chRaise
  repeat' (first
    | with_reducible assumption | with_reducible apply ite_kept | with_reducible apply ite_fst_kept | with_reducible apply State.inc_kept
    | with_reducible apply State.p_kept | with_reducible apply State.ev_kept | with_reducible apply State.boltEvent_kept | split)

theorem execChLosRaise_kept {K : Keep} {s0 : State} (c : Fin 64) (s : State) (hs : Kept K s0 s) (kirq : K.irq = false := by assumption) (kcyc : K.cyc = false := by assumption) (kmsi : K.msi = false := by assumption) (kpch : K.pch = false := by assumption) (kshu : K.shu = false := by assumption) (kblt : K.blt = false := by assumption) : KeptO K s0 (execChLosRaise c s) := by
  unfold execChLosRaise
  repeat' (first
    | with_reducible assumption | intro _ | with_reducible apply next_kept | with_reducible apply State.when_kept
    | with_reducible apply State.chRaise_kept | with_reducible apply State.updPch_kept | extract_lets | dsimp only)

theorem execChLosClear_kept {K : Keep} {s0 : State} (c : Fin 64) (s : State) (hs : Kept K s0 s) (kirq : K.irq = false := by assumption) (kcyc : K.cyc = false := by assumption) (kmsi : K.msi = false := by assumption) (kpch : K.pch = false := by assumption) (kshu : K.shu = false := by assumption) (kblt : K.blt = false := by assumption) : KeptO K s0 (execChLosClear c s) := by
  unfold execChLosClear
  repeat' (first
    | with_reducible assumption | intro _ | with_reducible apply next_kept | with_reducible apply State.when_kept
    | with_reducible apply State.chClear_kept | with_reducible apply State.updPch_kept | dsimp only)

theorem execChLolClear_kept {K : Keep} {s0 : State} (c : Fin 64) (lockUs : Nat) (s : State) (hs : Kept K s0 s) (kirq : K.irq = false := by assumption) (kcyc : K.cyc = false := by assumption) (kmsi : K.msi = false := by assumption) (kpch : K.pch = false := by assumption) (kshu : K.shu = false := by assumption) (kblt : K.blt = false := by assumption) : KeptO K s0 (execChLolClear c lockUs s) := by
  unfold execChLolClear
  repeat' (first
    | with_reducible assumption | intro _ | with_reducible apply next_kept | with_reducible apply State.when_kept
    | with_reducible apply State.chClear_kept | with_reducible apply State.updPch_kept | dsimp only)

theorem execChTxfClear_kept {K : Keep} {s0 : State} (c : Fin 64) (s : State) (hs : Kept K s0 s) (kirq : K.irq = false := by assumption) (kcyc : K.cyc = false := by assumption) (kmsi : K.msi = false := by assumption) (kpch : K.pch = false := by assumption) (kshu : K.shu = false := by assumption) (kblt : K.blt = false := by assumption) : KeptO K s0 (execChTxfClear c s) := by
  unfold execChTxfClear
  repeat' (first
    | with_reducible assumption | intro _ | with_reducible apply next_kept | with_reducible apply State.when_kept
    | with_reducible apply State.updPch_kept | with_reducible apply State.chClear_kept | extract_lets | dsimp only | split | dsimp +zetaDelta only)

theorem execTxdisReadbackMismatch_kept {K : Keep} {s0 : State} (c : Fin 64) (ns : Nat) (s : State) (hs : Kept K s0 s) (kpch : K.pch = false := by assumption) : KeptO K s0 (execTxdisReadbackMismatch c ns s) := by
  unfold execTxdisReadbackMismatch
  repeat' (first
    | with_reducible assumption | intro _ | with_reducible apply next_kept | with_reducible apply iter_kept | with_reducible apply ite_kept
    | with_reducible apply ite_fst_kept | with_reducible apply State.txfError_kept | dsimp only | split)

theorem State.losCtlWrite_kept {K : Keep} {s0 : State} (s : State) (c : Nat) (v : Word) (hs : Kept K s0 s) (kpch : K.pch = false := by assumption) : Kept K s0 (State.losCtlWrite s c v) := by
  unfold State.losCtlWrite
  repeat' (first
    | with_reducible assumption | intro _ | with_reducible apply ite_kept | with_reducible apply ite_fst_kept | with_reducible apply State.wrRW_kept
    | with_reducible apply State.updPch_kept | extract_lets | dsimp only | split)

theorem execLosPinChange_kept {K : Keep} {s0 : State} (c : Fin 64) (level : Bool) (stable : Nat) (s : State) (hs : Kept K s0 s) (kpch : K.pch = false := by assumption) : KeptO K s0 (execLosPinChange c level stable s) := by
  unfold execLosPinChange
  repeat' (first
    | with_reducible assumption | intro _ | with_reducible apply next_kept | with_reducible apply State.when_kept
    | with_reducible apply State.updPch_kept | dsimp only)

theorem State.modMuxWrite_kept {K : Keep} {s0 : State} (s : State) (c : Nat) (v : Word) (hs : Kept K s0 s) : Kept K s0 (State.modMuxWrite s c v) := by
  unfold State.modMuxWrite
  repeat' (first
    | with_reducible assumption | with_reducible apply ite_kept | with_reducible apply ite_fst_kept | with_reducible apply State.wrRW_kept
    | with_reducible apply State.p_kept | extract_lets | dsimp only | split)

theorem State.modCmdWrite_kept {K : Keep} {s0 : State} (s : State) (c : Nat) (v : Word) (hs : Kept K s0 s) (khost : K.host = false := by assumption) : Kept K s0 (State.modCmdWrite s c v) := by
  unfold State.modCmdWrite
  repeat' (first
    | with_reducible assumption | with_reducible apply ite_kept | with_reducible apply ite_fst_kept | with_reducible apply State.wrRW_kept
    | with_reducible apply State.p_kept | extract_lets | dsimp only | split | with_reducible apply Kept.upd_host)

theorem execModCmdGo_kept {K : Keep} {s0 : State} (ag : Agent) (c : Fin 64) (v : Word) (s : State) (hs : Kept K s0 s) (kirq : K.irq = false := by assumption) (kcyc : K.cyc = false := by assumption) (kmsi : K.msi = false := by assumption) (khost : K.host = false := by assumption) (kshu : K.shu = false := by assumption) : KeptO K s0 (execModCmdGo ag c v s) := by
  unfold execModCmdGo
  repeat' (first
    | with_reducible assumption | intro _ | with_reducible apply next_kept | with_reducible apply State.bus_kept
    | with_reducible apply State.modCmdWrite_kept | dsimp only)

theorem State.modFinish_kept {K : Keep} {s0 : State} (s : State) (c : Nat) (res : Nat) (hs : Kept K s0 s) (khost : K.host = false := by assumption) : Kept K s0 (State.modFinish s c res) := by
  unfold State.modFinish
  repeat' (first
    | with_reducible assumption | with_reducible apply State.p_kept | extract_lets | dsimp only | with_reducible apply Kept.upd_host)

theorem execModTransactionDone_kept {K : Keep} {s0 : State} (c : Fin 64) (res : ModRes) (s : State) (hs : Kept K s0 s) (khost : K.host = false := by assumption) : KeptO K s0 (execModTransactionDone c res s) := by
  unfold execModTransactionDone
  repeat' (first
    | with_reducible assumption | intro _ | with_reducible apply next_kept | with_reducible apply State.when_kept | with_reducible apply State.wr_kept
    | with_reducible apply State.modFinish_kept | extract_lets | dsimp only | split | dsimp +zetaDelta only)

theorem execModStretchTimeout_kept {K : Keep} {s0 : State} (c : Fin 64) (s : State) (hs : Kept K s0 s) (khost : K.host = false := by assumption) : KeptO K s0 (execModStretchTimeout c s) := by
  unfold execModStretchTimeout
  repeat' (first
    | with_reducible assumption | intro _ | with_reducible apply next_kept | with_reducible apply State.when_kept
    | with_reducible apply State.modFinish_kept | dsimp only)

end Sys2Proof.Machine
end

