-- ==== Sys2Proof/Laws/Kept/Traffic.lean ====
section
/-! SUPPORT. What the operations and meanings of Machine/Traffic.lean keep: the queue, the clock, the canonical forms, and every
component of the state that they have no business with. -/
namespace Sys2Proof.Machine

set_option linter.all false

theorem State.trapWrite_kept {K : Keep} {s0 : State} (s : State) (h : Hand) (reason : Nat) (hs : Kept K s0 s) (kddr : K.ddr = false := by assumption) (kirq : K.irq = false := by assumption) (kcyc : K.cyc = false := by assumption) (kmsi : K.msi = false := by assumption) (kshu : K.shu = false := by assumption) (ktmg : K.tmg = false := by assumption) : Kept K s0 (State.trapWrite s h reason) := by
  unfold State.trapWrite
  repeat' (first
    | with_reducible assumption | intro _ | with_reducible apply ite_kept | with_reducible apply ite_fst_kept | with_reducible apply State.inc_kept
    | with_reducible apply State.ev_kept | with_reducible apply State.updTmg_kept | with_reducible apply State.ddrWrs_kept
    | with_reducible apply State.wr_kept | extract_lets | dsimp only | split)

theorem State.noQueue_kept {K : Keep} {s0 : State} (s : State) (hs : Kept K s0 s) (kirq : K.irq = false := by assumption) (kcyc : K.cyc = false := by assumption) (kmsi : K.msi = false := by assumption) (kshu : K.shu = false := by assumption) : Kept K s0 (State.noQueue s) := by
  unfold State.noQueue
  repeat' (first
    | with_reducible assumption | with_reducible apply State.inc_kept | with_reducible apply State.ev_kept)

theorem State.refuseCopy_kept {K : Keep} {s0 : State} (s : State) (q : Nat) (cause : Nat) (hs : Kept K s0 s) : Kept K s0 (State.refuseCopy s q cause) := by
  unfold State.refuseCopy
  repeat' (first
    | with_reducible assumption | with_reducible apply State.inc_kept)

theorem State.enqueueCopy_kept {K : Keep} {s0 : State} (s : State) (q : Nat) (k : Nat) (l : Nat) (port : Option Nat) (copy : Bool) (hs : Kept K s0 s) (kcyc : K.cyc = false := by assumption) (ktmg : K.tmg = false := by assumption) : Kept K s0 (State.enqueueCopy s q k l port copy) := by
  unfold State.enqueueCopy
  repeat' (first
    | with_reducible assumption | intro _ | with_reducible apply ite_kept | with_reducible apply ite_fst_kept | with_reducible apply State.updTmg_kept
    | with_reducible apply State.inc_kept | with_reducible apply State.updCyc_kept | extract_lets | dsimp only | split)

theorem State.lpiTxEnd_kept {K : Keep} {s0 : State} (s : State) (p : Nat) (hs : Kept K s0 s) (khsl : K.hsl = false := by assumption) : Kept K s0 (State.lpiTxEnd s p) := by
  unfold State.lpiTxEnd
  repeat' (first
    | with_reducible assumption | intro _ | with_reducible apply State.add_kept | dsimp only | split | with_reducible apply Kept.upd_hsl
    | dsimp +zetaDelta only)

theorem State.bpmServe_kept {K : Keep} {s0 : State} (s : State) (c : Nat) (hs : Kept K s0 s) (ktmg : K.tmg = false := by assumption) : Kept K s0 (State.bpmServe s c) := by
  unfold State.bpmServe
  repeat' (first
    | with_reducible assumption | intro _ | with_reducible apply ite_kept | with_reducible apply ite_fst_kept | with_reducible apply State.updTmg_kept
    | dsimp only | split)

theorem State.admitCopy_kept {K : Keep} {s0 : State} (s : State) (b : List Byte) (col : Nat) (e : Nat × Option Nat) (copy : Bool) (buf : Option Nat) (cy : Nat) (hs : Kept K s0 s) (kirq : K.irq = false := by assumption) (kcyc : K.cyc = false := by assumption) (kmsi : K.msi = false := by assumption) (kshu : K.shu = false := by assumption) (ktmg : K.tmg = false := by assumption) (khsl : K.hsl = false := by assumption) : Kept K s0 (State.admitCopy s b col e copy buf cy).1 := by
  unfold State.admitCopy
  repeat' (first
    | with_reducible assumption | intro _ | with_reducible apply ite_kept | with_reducible apply ite_fst_kept
    | with_reducible apply State.refuseCopy_kept | with_reducible apply State.when_kept | with_reducible apply State.ev_kept
    | with_reducible apply State.bpmServe_kept | with_reducible apply State.takeBuf_kept | with_reducible apply State.enqueueCopy_kept
    | with_reducible apply State.lpiTxEnd_kept | extract_lets | dsimp only | split | dsimp +zetaDelta only)

theorem State.admitDest_kept {K : Keep} {s0 : State} (s : State) (h : Hand) (tc : Nat) (col : Nat) (d : Nat) (copy : Bool) (buf : Option Nat) (hs : Kept K s0 s) (kddr : K.ddr = false := by assumption) (kirq : K.irq = false := by assumption) (kcyc : K.cyc = false := by assumption) (kmsi : K.msi = false := by assumption) (kshu : K.shu = false := by assumption) (ktmg : K.tmg = false := by assumption) (khsl : K.hsl = false := by assumption) : Kept K s0 (State.admitDest s h tc col d copy buf).1 := by
  unfold State.admitDest
  repeat' (first
    | with_reducible assumption | intro _ | with_reducible apply ite_kept | with_reducible apply ite_fst_kept | with_reducible apply State.when_kept
    | with_reducible apply State.trapWrite_kept | with_reducible apply State.noQueue_kept | with_reducible apply State.admitCopy_kept | dsimp only
    | split | dsimp +zetaDelta only)

theorem State.admitGroup_kept {K : Keep} {s0 : State} (s : State) (h : Hand) (tc : Nat) (col : Nat) (g : Nat) (buf : Option Nat) (hs : Kept K s0 s) (kddr : K.ddr = false := by assumption) (kirq : K.irq = false := by assumption) (kcyc : K.cyc = false := by assumption) (kmsi : K.msi = false := by assumption) (kshu : K.shu = false := by assumption) (ktmg : K.tmg = false := by assumption) (khsl : K.hsl = false := by assumption) : Kept K s0 (State.admitGroup s h tc col g buf).1 := by
  unfold State.admitGroup
  repeat' (first
    | with_reducible assumption | intro _ | with_reducible apply ite_kept | with_reducible apply ite_fst_kept | with_reducible apply foldl_kept
    | with_reducible apply foldl_fst_kept | with_reducible apply foldl_snd_kept | with_reducible apply State.noQueue_kept
    | with_reducible apply State.inc_kept | with_reducible apply State.admitDest_kept | dsimp only | split)

theorem State.markHand_kept {K : Keep} {s0 : State} (s : State) (h : Hand) (hs : Kept K s0 s) (ktmg : K.tmg = false := by assumption) : Kept K s0 (State.markHand s h).1 := by
  unfold State.markHand
  repeat' (first
    | with_reducible assumption | with_reducible apply ite_kept | with_reducible apply ite_fst_kept | with_reducible apply State.police_kept
    | extract_lets | dsimp only | split)

theorem State.markCycle_kept {K : Keep} {s0 : State} (s : State) (c : Nat) (hs : Kept K s0 s) (ktmg : K.tmg = false := by assumption) : Kept K s0 (State.markCycle s c) := by
  unfold State.markCycle
  repeat' (first
    | with_reducible assumption | intro _ | with_reducible apply foldl_kept | with_reducible apply foldl_fst_kept | with_reducible apply foldl_snd_kept
    | with_reducible apply State.markHand_kept | with_reducible apply State.updTmg_kept | extract_lets | dsimp only)

theorem State.admitFrame_kept {K : Keep} {s0 : State} (s : State) (h : Hand) (hs : Kept K s0 s) (kddr : K.ddr = false := by assumption) (kirq : K.irq = false := by assumption) (kcyc : K.cyc = false := by assumption) (kmsi : K.msi = false := by assumption) (kshu : K.shu = false := by assumption) (ktmg : K.tmg = false := by assumption) (khsl : K.hsl = false := by assumption) : Kept K s0 (State.admitFrame s h) := by
  unfold State.admitFrame
  repeat' (first
    | with_reducible assumption | with_reducible apply ite_kept | with_reducible apply ite_fst_kept | with_reducible apply State.trapWrite_kept
    | with_reducible apply State.noQueue_kept | with_reducible apply State.admitCopy_kept | with_reducible apply State.admitGroup_kept
    | with_reducible apply State.admitDest_kept | extract_lets | dsimp only | split)

theorem execFrameAdmit_kept {K : Keep} {s0 : State} (s : State) (hs : Kept K s0 s) (kddr : K.ddr = false := by assumption) (kirq : K.irq = false := by assumption) (kcyc : K.cyc = false := by assumption) (kmsi : K.msi = false := by assumption) (kshu : K.shu = false := by assumption) (ktmg : K.tmg = false := by assumption) (khsl : K.hsl = false := by assumption) : KeptO K s0 (execFrameAdmit s) := by
  unfold execFrameAdmit
  repeat' (first
    | with_reducible assumption | intro _ | with_reducible apply next_kept | with_reducible apply State.markCycle_kept
    | with_reducible apply State.updTmg_kept | with_reducible apply State.admitFrame_kept | extract_lets | dsimp only | split | dsimp +zetaDelta only)

theorem State.uplinkDepart_kept {K : Keep} {s0 : State} (s : State) (p : Nat) (hs : Kept K s0 s) (kcyc : K.cyc = false := by assumption) (ktmg : K.tmg = false := by assumption) (khsl : K.hsl = false := by assumption) : Kept K s0 (State.uplinkDepart s p) := by
  unfold State.uplinkDepart
  repeat' (first
    | with_reducible assumption | with_reducible apply ite_kept | with_reducible apply ite_fst_kept | with_reducible apply State.pickQueue_kept
    | with_reducible apply State.lpiTxEnd_kept | with_reducible apply State.departQueue_kept | with_reducible apply State.inc_kept
    | with_reducible apply State.add_kept | extract_lets | dsimp only | split | dsimp +zetaDelta only)

theorem execUplinkDeparture_kept {K : Keep} {s0 : State} (p : Fin 32) (s : State) (hs : Kept K s0 s) (kcyc : K.cyc = false := by assumption) (ktmg : K.tmg = false := by assumption) (khsl : K.hsl = false := by assumption) : KeptO K s0 (execUplinkDeparture p s) := by
  unfold execUplinkDeparture
  repeat' (first
    | with_reducible assumption | with_reducible apply next_kept | with_reducible apply State.uplinkDepart_kept)

theorem State.bufferFree_kept {K : Keep} {s0 : State} (s : State) (k : Nat) (who : Nat) (hs : Kept K s0 s) (kirq : K.irq = false := by assumption) (kcyc : K.cyc = false := by assumption) (kmsi : K.msi = false := by assumption) (kshu : K.shu = false := by assumption) (ktmg : K.tmg = false := by assumption) : Kept K s0 (State.bufferFree s k who) := by
  unfold State.bufferFree
  repeat' (first
    | with_reducible assumption | with_reducible apply ite_kept | with_reducible apply ite_fst_kept | with_reducible apply State.inc_kept
    | with_reducible apply State.ev_kept | with_reducible apply State.freeBack_kept | extract_lets | dsimp only | split)

theorem execBufferFree_kept {K : Keep} {s0 : State} (pool : Fin 8) (i : Nat) (who : Nat) (s : State) (hs : Kept K s0 s) (kirq : K.irq = false := by assumption) (kcyc : K.cyc = false := by assumption) (kmsi : K.msi = false := by assumption) (kshu : K.shu = false := by assumption) (ktmg : K.tmg = false := by assumption) : KeptO K s0 (execBufferFree pool i who s) := by
  unfold execBufferFree
  repeat' (first
    | with_reducible assumption | with_reducible apply next_kept | with_reducible apply State.bufferFree_kept)

theorem State.uportWrite_kept {K : Keep} {s0 : State} (s : State) (p : Nat) (w : Nat) (v : Word) (hs : Kept K s0 s) (kirq : K.irq = false := by assumption) (kcyc : K.cyc = false := by assumption) (kmsi : K.msi = false := by assumption) (kshu : K.shu = false := by assumption) : Kept K s0 (State.uportWrite s p w v) := by
  unfold State.uportWrite
  repeat' (first
    | with_reducible assumption | intro _ | with_reducible apply ite_kept | with_reducible apply ite_fst_kept | with_reducible apply State.wrRW_kept
    | with_reducible apply State.wr_kept | with_reducible apply State.ev_kept | with_reducible apply State.applyWords_kept | extract_lets | dsimp only
    | split)

theorem execUportWrite_kept {K : Keep} {s0 : State} (ag : Agent) (p : Fin 32) (w : Fin 2) (v : Word) (s : State) (hs : Kept K s0 s) (kirq : K.irq = false := by assumption) (kcyc : K.cyc = false := by assumption) (kmsi : K.msi = false := by assumption) (kshu : K.shu = false := by assumption) : KeptO K s0 (execUportWrite ag p w v s) := by
  unfold execUportWrite
  repeat' (first
    | with_reducible assumption | intro _ | with_reducible apply next_kept | with_reducible apply State.bus_kept
    | with_reducible apply State.uportWrite_kept | dsimp only)

theorem State.flushWrite_kept {K : Keep} {s0 : State} (s : State) (v : Word) (hs : Kept K s0 s) (kcyc : K.cyc = false := by assumption) (ktmg : K.tmg = false := by assumption) : Kept K s0 (State.flushWrite s v) := by
  unfold State.flushWrite
  repeat' (first
    | with_reducible assumption | with_reducible apply ite_kept | with_reducible apply ite_fst_kept | with_reducible apply State.wrRW_kept
    | with_reducible apply State.p_kept | with_reducible apply State.flushChannel_kept | with_reducible apply State.flushRange_kept
    | with_reducible apply State.flushQueue_kept | extract_lets | dsimp only | split)

theorem execTmgFlush_kept {K : Keep} {s0 : State} (ag : Agent) (v : Word) (s : State) (hs : Kept K s0 s) (kirq : K.irq = false := by assumption) (kcyc : K.cyc = false := by assumption) (kmsi : K.msi = false := by assumption) (kshu : K.shu = false := by assumption) (ktmg : K.tmg = false := by assumption) : KeptO K s0 (execTmgFlush ag v s) := by
  unfold execTmgFlush
  repeat' (first
    | with_reducible assumption | intro _ | with_reducible apply next_kept | with_reducible apply State.bus_kept
    | with_reducible apply State.flushWrite_kept | dsimp only)

theorem execTmgFlushDone_kept {K : Keep} {s0 : State} (s : State) (hs : Kept K s0 s) (kirq : K.irq = false := by assumption) (kcyc : K.cyc = false := by assumption) (kmsi : K.msi = false := by assumption) (kshu : K.shu = false := by assumption) : KeptO K s0 (execTmgFlushDone s) := by
  unfold execTmgFlushDone
  repeat' (first
    | with_reducible assumption | with_reducible apply next_kept | with_reducible apply ite_kept | with_reducible apply ite_fst_kept
    | with_reducible apply State.p_kept | with_reducible apply State.ev_kept | split)

end Sys2Proof.Machine
end

