-- ==== Sys2Proof/Laws/Kept/Forward.lean ====
section
/-! SUPPORT. What the operations and meanings of Machine/Forward.lean keep: the queue, the clock, the canonical forms, and every
component of the state that they have no business with. -/
namespace Sys2Proof.Machine

set_option linter.all false

theorem State.updFwd_kept {K : Keep} {s0 : State} (s : State) (f : Fwd → Fwd) (hs : Kept K s0 s) (kfwd : K.fwd = false := by assumption) : Kept K s0 (State.updFwd s f) := by
  unfold State.updFwd
  repeat' (first
    | with_reducible assumption | with_reducible apply Kept.upd_fwd)

theorem State.macPut_kept {K : Keep} {s0 : State} (s : State) (i : Nat) (w0 : Word) (w1 : Word) (w2 : Word) (w3 : Word) (hs : Kept K s0 s) : Kept K s0 (State.macPut s i w0 w1 w2 w3) := by
  unfold State.macPut
  repeat' (first
    | with_reducible assumption | intro _ | with_reducible apply foldl_kept | with_reducible apply foldl_fst_kept | with_reducible apply foldl_snd_kept
    | with_reducible apply State.wr_kept | dsimp only)

theorem State.macHitIs_kept {K : Keep} {s0 : State} (s : State) (i : Nat) (v : Nat) (hs : Kept K s0 s) : Kept K s0 (State.macHitIs s i v) := by
  unfold State.macHitIs
  repeat' (first
    | with_reducible assumption | with_reducible apply State.p_kept)

theorem State.macHit_kept {K : Keep} {s0 : State} (s : State) (i : Nat) (hs : Kept K s0 s) (kcyc : K.cyc = false := by assumption) : Kept K s0 (State.macHit s i) := by
  unfold State.macHit
  repeat' (first
    | with_reducible assumption | intro _ | with_reducible apply State.macHitIs_kept | with_reducible apply State.updCyc_kept | dsimp only)

theorem State.macDrop_kept {K : Keep} {s0 : State} (s : State) (i : Nat) (hs : Kept K s0 s) : Kept K s0 (State.macDrop s i) := by
  unfold State.macDrop
  repeat' (first
    | with_reducible assumption | with_reducible apply State.macPut_kept | with_reducible apply State.p_kept)

theorem State.macShift_kept {K : Keep} {s0 : State} (s : State) (l : List Nat) (hs : Kept K s0 s) : Kept K s0 (State.macShift s l) := by
  unfold State.macShift
  repeat' (first
    | with_reducible assumption | intro _ | with_reducible apply foldl_kept | with_reducible apply foldl_fst_kept | with_reducible apply foldl_snd_kept
    | with_reducible apply State.macPut_kept | extract_lets | dsimp only)

theorem State.macRoom_kept {K : Keep} {s0 : State} (s : State) (bd : Nat) (mac : Nat) (hs : Kept K s0 s) : Kept K s0 (State.macRoom s bd mac).1 := by
  unfold State.macRoom
  repeat' (first
    | with_reducible assumption | intro _ | with_reducible apply State.macShift_kept | dsimp only | split | dsimp +zetaDelta only)

theorem State.macInsert_kept {K : Keep} {s0 : State} (s : State) (bd : Nat) (mac : Nat) (dest : Nat) (static : Bool) (hit : Bool) (hs : Kept K s0 s) (kirq : K.irq = false := by assumption) (kcyc : K.cyc = false := by assumption) (kmsi : K.msi = false := by assumption) (kshu : K.shu = false := by assumption) : Kept K s0 (State.macInsert s bd mac dest static hit).1 := by
  unfold State.macInsert
  repeat' (first
    | with_reducible assumption | with_reducible apply State.macPut_kept | with_reducible apply State.macRoom_kept | with_reducible apply State.inc_kept
    | with_reducible apply State.ev_kept | with_reducible apply State.p_kept | extract_lets | dsimp only | split | dsimp +zetaDelta only)

theorem execMacLearn_kept {K : Keep} {s0 : State} (s : State) (hs : Kept K s0 s) (kirq : K.irq = false := by assumption) (kcyc : K.cyc = false := by assumption) (kmsi : K.msi = false := by assumption) (kshu : K.shu = false := by assumption) (kfwd : K.fwd = false := by assumption) : KeptO K s0 (execMacLearn s) := by
  unfold execMacLearn
  repeat' (first
    | with_reducible assumption | intro _ | with_reducible apply next_kept | with_reducible apply ite_kept | with_reducible apply ite_fst_kept
    | with_reducible apply State.updFwd_kept | with_reducible apply State.macInsert_kept | with_reducible apply State.when_kept
    | with_reducible apply State.inc_kept | extract_lets | dsimp only | split | dsimp +zetaDelta only)

theorem execMacMove_kept {K : Keep} {s0 : State} (s : State) (hs : Kept K s0 s) (kfwd : K.fwd = false := by assumption) : KeptO K s0 (execMacMove s) := by
  unfold execMacMove
  repeat' (first
    | with_reducible assumption | intro _ | with_reducible apply next_kept | with_reducible apply ite_kept | with_reducible apply ite_fst_kept
    | with_reducible apply State.updFwd_kept | with_reducible apply State.p_kept | with_reducible apply State.inc_kept | extract_lets | dsimp only
    | split | dsimp +zetaDelta only)

theorem State.ageVisit_kept {K : Keep} {s0 : State} (s : State) (i : Nat) (hs : Kept K s0 s) (kcyc : K.cyc = false := by assumption) : Kept K s0 (State.ageVisit s i) := by
  unfold State.ageVisit
  repeat' (first
    | with_reducible assumption | intro _ | with_reducible apply ite_kept | with_reducible apply ite_fst_kept | with_reducible apply State.macHitIs_kept
    | with_reducible apply State.macDrop_kept | with_reducible apply State.inc_kept | with_reducible apply State.updCyc_kept | extract_lets | dsimp only
    | split)

theorem execMacAgeVisit_kept {K : Keep} {s0 : State} (i : Fin 1048576) (s : State) (hs : Kept K s0 s) (kcyc : K.cyc = false := by assumption) (kfwd : K.fwd = false := by assumption) : KeptO K s0 (execMacAgeVisit i s) := by
  unfold execMacAgeVisit
  repeat' (first
    | with_reducible assumption | intro _ | with_reducible apply next_kept | with_reducible apply State.when_kept
    | with_reducible apply State.ageVisit_kept | with_reducible apply State.updFwd_kept | dsimp only)

theorem State.unage_kept {K : Keep} {s0 : State} (s : State) (bd : Nat) (mac : Nat) (hs : Kept K s0 s) (kcyc : K.cyc = false := by assumption) : Kept K s0 (State.unage s bd mac) := by
  unfold State.unage
  repeat' (first
    | with_reducible assumption | intro _ | with_reducible apply State.macPut_kept | with_reducible apply State.p_kept
    | with_reducible apply State.wr64_kept | with_reducible apply State.updCyc_kept | extract_lets | dsimp only | split | dsimp +zetaDelta only)

theorem State.macRsp_kept {K : Keep} {s0 : State} (s : State) (ag : Nat) (st : Nat) (pos : Nat) (w : List Word) (hs : Kept K s0 s) : Kept K s0 (State.macRsp s ag st pos w) := by
  unfold State.macRsp
  repeat' (first
    | with_reducible assumption | intro _ | with_reducible apply foldl_kept | with_reducible apply foldl_fst_kept | with_reducible apply foldl_snd_kept
    | with_reducible apply State.wr_kept | with_reducible apply State.p_kept | extract_lets | dsimp only)

theorem State.macRun_kept {K : Keep} {s0 : State} (s : State) (ag : Nat) (w : List Word) (hs : Kept K s0 s) (kirq : K.irq = false := by assumption) (kcyc : K.cyc = false := by assumption) (kmsi : K.msi = false := by assumption) (kshu : K.shu = false := by assumption) (kfwd : K.fwd = false := by assumption) : Kept K s0 (State.macRun s ag w) := by
  unfold State.macRun
  repeat' (first
    | with_reducible assumption | intro _ | with_reducible apply ite_kept | with_reducible apply ite_fst_kept | with_reducible apply foldl_kept
    | with_reducible apply foldl_fst_kept | with_reducible apply foldl_snd_kept | with_reducible apply State.macInsert_kept
    | with_reducible apply State.macRsp_kept | with_reducible apply State.macDrop_kept | with_reducible apply State.p_kept
    | with_reducible apply State.updFwd_kept | extract_lets | dsimp only | split | dsimp +zetaDelta only)

theorem State.macCmdWrite_kept {K : Keep} {s0 : State} (s : State) (ag : Agent) (w : Nat) (v : Word) (hs : Kept K s0 s) (kirq : K.irq = false := by assumption) (kcyc : K.cyc = false := by assumption) (kmsi : K.msi = false := by assumption) (kshu : K.shu = false := by assumption) (kfwd : K.fwd = false := by assumption) : Kept K s0 (State.macCmdWrite s ag w v) := by
  unfold State.macCmdWrite
  repeat' (first
    | with_reducible assumption | intro _ | with_reducible apply ite_kept | with_reducible apply ite_fst_kept | with_reducible apply State.wr_kept
    | with_reducible apply State.p_kept | with_reducible apply State.updFwd_kept | with_reducible apply State.macRun_kept | extract_lets | dsimp only
    | split)

theorem execMacInsert_kept {K : Keep} {s0 : State} (ag : Agent) (v : Word) (s : State) (hs : Kept K s0 s) (kirq : K.irq = false := by assumption) (kcyc : K.cyc = false := by assumption) (kmsi : K.msi = false := by assumption) (kshu : K.shu = false := by assumption) (kfwd : K.fwd = false := by assumption) : KeptO K s0 (execMacInsert ag v s) := by
  unfold execMacInsert
  repeat' (first
    | with_reducible assumption | intro _ | with_reducible apply next_kept | with_reducible apply State.bus_kept
    | with_reducible apply State.macCmdWrite_kept | dsimp only)

theorem execMacDelete_kept {K : Keep} {s0 : State} (ag : Agent) (v : Word) (s : State) (hs : Kept K s0 s) (kirq : K.irq = false := by assumption) (kcyc : K.cyc = false := by assumption) (kmsi : K.msi = false := by assumption) (kshu : K.shu = false := by assumption) (kfwd : K.fwd = false := by assumption) : KeptO K s0 (execMacDelete ag v s) := by
  unfold execMacDelete
  repeat' (first
    | with_reducible assumption | intro _ | with_reducible apply next_kept | with_reducible apply State.bus_kept
    | with_reducible apply State.macCmdWrite_kept | dsimp only)

theorem execMacLookup_kept {K : Keep} {s0 : State} (ag : Agent) (v : Word) (s : State) (hs : Kept K s0 s) (kirq : K.irq = false := by assumption) (kcyc : K.cyc = false := by assumption) (kmsi : K.msi = false := by assumption) (kshu : K.shu = false := by assumption) (kfwd : K.fwd = false := by assumption) : KeptO K s0 (execMacLookup ag v s) := by
  unfold execMacLookup
  repeat' (first
    | with_reducible assumption | intro _ | with_reducible apply next_kept | with_reducible apply State.bus_kept
    | with_reducible apply State.macCmdWrite_kept | dsimp only)

theorem execMacFlush_kept {K : Keep} {s0 : State} (ag : Agent) (v : Word) (s : State) (hs : Kept K s0 s) (kirq : K.irq = false := by assumption) (kcyc : K.cyc = false := by assumption) (kmsi : K.msi = false := by assumption) (kshu : K.shu = false := by assumption) (kfwd : K.fwd = false := by assumption) : KeptO K s0 (execMacFlush ag v s) := by
  unfold execMacFlush
  repeat' (first
    | with_reducible assumption | intro _ | with_reducible apply next_kept | with_reducible apply State.bus_kept
    | with_reducible apply State.macCmdWrite_kept | dsimp only)

theorem State.macResume_kept {K : Keep} {s0 : State} (n : Nat) (s : State) (h : Kept K s0 s) (kirq : K.irq = false := by assumption) (kcyc : K.cyc = false := by assumption) (kmsi : K.msi = false := by assumption) (kshu : K.shu = false := by assumption) (kfwd : K.fwd = false := by assumption) : Kept K s0 (State.macResume n s) := by
  induction n generalizing s with
  | zero => simp only [State.macResume]; exact h
  | succ n ih =>
    unfold State.macResume
    repeat' (first
      | with_reducible assumption
      | with_reducible apply ih
      | with_reducible apply State.macRun_kept
      | with_reducible apply State.updFwd_kept
      | extract_lets
      | split)

theorem execMacFlushDone_kept {K : Keep} {s0 : State} (s : State) (hs : Kept K s0 s) (kirq : K.irq = false := by assumption) (kcyc : K.cyc = false := by assumption) (kmsi : K.msi = false := by assumption) (kshu : K.shu = false := by assumption) (kfwd : K.fwd = false := by assumption) : KeptO K s0 (execMacFlushDone s) := by
  unfold execMacFlushDone
  repeat' (first
    | with_reducible assumption | intro _ | with_reducible apply next_kept | with_reducible apply State.updFwd_kept | with_reducible apply State.p_kept
    | with_reducible apply State.macRsp_kept | with_reducible apply State.macResume_kept | extract_lets | dsimp only | split | dsimp +zetaDelta only)

theorem State.rtRsp_kept {K : Keep} {s0 : State} (s : State) (ag : Nat) (st : Nat) (nh : Nat) (hs : Kept K s0 s) : Kept K s0 (State.rtRsp s ag st nh) := by
  unfold State.rtRsp
  repeat' (first
    | with_reducible assumption | with_reducible apply State.wr_kept | with_reducible apply State.p_kept)

theorem State.rtRun_kept {K : Keep} {s0 : State} (s : State) (ag : Nat) (hs : Kept K s0 s) (kirq : K.irq = false := by assumption) (kcyc : K.cyc = false := by assumption) (kmsi : K.msi = false := by assumption) (kshu : K.shu = false := by assumption) (kfwd : K.fwd = false := by assumption) : Kept K s0 (State.rtRun s ag) := by
  unfold State.rtRun
  repeat' (first
    | with_reducible assumption | intro _ | with_reducible apply ite_kept | with_reducible apply ite_fst_kept | with_reducible apply foldl_kept
    | with_reducible apply foldl_fst_kept | with_reducible apply foldl_snd_kept | with_reducible apply State.rtRsp_kept
    | with_reducible apply State.updFwd_kept | with_reducible apply State.when_kept | with_reducible apply State.ev_kept | extract_lets | dsimp only
    | split | dsimp +zetaDelta only)

theorem State.rtCmdWrite_kept {K : Keep} {s0 : State} (s : State) (ag : Agent) (w : Nat) (v : Word) (hs : Kept K s0 s) (kirq : K.irq = false := by assumption) (kcyc : K.cyc = false := by assumption) (kmsi : K.msi = false := by assumption) (kshu : K.shu = false := by assumption) (kfwd : K.fwd = false := by assumption) : Kept K s0 (State.rtCmdWrite s ag w v) := by
  unfold State.rtCmdWrite
  repeat' (first
    | with_reducible assumption | with_reducible apply ite_kept | with_reducible apply ite_fst_kept | with_reducible apply State.wr_kept
    | with_reducible apply State.rtRun_kept | extract_lets | dsimp only | split)

theorem execRouteAdd_kept {K : Keep} {s0 : State} (ag : Agent) (v : Word) (s : State) (hs : Kept K s0 s) (kirq : K.irq = false := by assumption) (kcyc : K.cyc = false := by assumption) (kmsi : K.msi = false := by assumption) (kshu : K.shu = false := by assumption) (kfwd : K.fwd = false := by assumption) : KeptO K s0 (execRouteAdd ag v s) := by
  unfold execRouteAdd
  repeat' (first
    | with_reducible assumption | intro _ | with_reducible apply next_kept | with_reducible apply State.bus_kept
    | with_reducible apply State.rtCmdWrite_kept | dsimp only)

theorem execRouteDel_kept {K : Keep} {s0 : State} (ag : Agent) (v : Word) (s : State) (hs : Kept K s0 s) (kirq : K.irq = false := by assumption) (kcyc : K.cyc = false := by assumption) (kmsi : K.msi = false := by assumption) (kshu : K.shu = false := by assumption) (kfwd : K.fwd = false := by assumption) : KeptO K s0 (execRouteDel ag v s) := by
  unfold execRouteDel
  repeat' (first
    | with_reducible assumption | intro _ | with_reducible apply next_kept | with_reducible apply State.bus_kept
    | with_reducible apply State.rtCmdWrite_kept | dsimp only)

theorem execRouteLookup_kept {K : Keep} {s0 : State} (ag : Agent) (v : Word) (s : State) (hs : Kept K s0 s) (kirq : K.irq = false := by assumption) (kcyc : K.cyc = false := by assumption) (kmsi : K.msi = false := by assumption) (kshu : K.shu = false := by assumption) (kfwd : K.fwd = false := by assumption) : KeptO K s0 (execRouteLookup ag v s) := by
  unfold execRouteLookup
  repeat' (first
    | with_reducible assumption | intro _ | with_reducible apply next_kept | with_reducible apply State.bus_kept
    | with_reducible apply State.rtCmdWrite_kept | dsimp only)

theorem State.learnFrom_kept {K : Keep} {s0 : State} (s : State) (bd : Nat) (mac : Nat) (dest : Nat) (hs : Kept K s0 s) (kirq : K.irq = false := by assumption) (kcyc : K.cyc = false := by assumption) (kmsi : K.msi = false := by assumption) (kshu : K.shu = false := by assumption) (kfwd : K.fwd = false := by assumption) : Kept K s0 (State.learnFrom s bd mac dest) := by
  unfold State.learnFrom
  repeat' (first
    | with_reducible assumption | intro _ | with_reducible apply ite_kept | with_reducible apply ite_fst_kept | with_reducible apply State.unage_kept
    | with_reducible apply State.macHit_kept | with_reducible apply State.updFwd_kept | with_reducible apply State.inc_kept
    | with_reducible apply State.ev_kept | extract_lets | dsimp only | split | dsimp +zetaDelta only)

theorem State.handDest_kept {K : Keep} {s0 : State} (s : State) (h : Hand) (d : Nat) (hs : Kept K s0 s) (ktmg : K.tmg = false := by assumption) : Kept K s0 (State.handDest s h d) := by
  unfold State.handDest
  repeat' (first
    | with_reducible assumption | intro _ | with_reducible apply ite_kept | with_reducible apply ite_fst_kept | with_reducible apply State.inc_kept
    | with_reducible apply State.updTmg_kept | extract_lets | dsimp only | split)

theorem State.routeFrame_kept {K : Keep} {s0 : State} (s : State) (bank : Nat) (bd : Nat) (h : Hand) (hs : Kept K s0 s) (ktmg : K.tmg = false := by assumption) : Kept K s0 (State.routeFrame s bank bd h) := by
  unfold State.routeFrame
  repeat' (first
    | with_reducible assumption | intro _ | with_reducible apply ite_kept | with_reducible apply ite_fst_kept | with_reducible apply State.inc_kept
    | with_reducible apply State.updTmg_kept | with_reducible apply State.handDest_kept | extract_lets | dsimp only | split | dsimp +zetaDelta only)

theorem State.forward_kept {K : Keep} {s0 : State} (s : State) (p : Nat) (h : Hand) (hs : Kept K s0 s) (kirq : K.irq = false := by assumption) (kcyc : K.cyc = false := by assumption) (kmsi : K.msi = false := by assumption) (kshu : K.shu = false := by assumption) (ktmg : K.tmg = false := by assumption) (kfwd : K.fwd = false := by assumption) : Kept K s0 (State.forward s p h) := by
  unfold State.forward
  repeat' (first
    | with_reducible assumption | intro _ | with_reducible apply ite_kept | with_reducible apply ite_fst_kept | with_reducible apply State.inc_kept
    | with_reducible apply State.when_kept | with_reducible apply State.learnFrom_kept | with_reducible apply State.routeFrame_kept
    | with_reducible apply State.unage_kept | with_reducible apply State.macHit_kept | with_reducible apply State.handDest_kept | extract_lets
    | dsimp only | split | dsimp +zetaDelta only)

end Sys2Proof.Machine
end

