-- ==== Sys2Proof/Laws/Kept/Shed.lean ====
section
/-! SUPPORT. What the operations and meanings of Machine/Shed.lean keep: the queue, the clock, the canonical forms, and every
component of the state that they have no business with. -/
namespace Sys2Proof.Machine

set_option linter.all false

theorem State.allocWrite_kept {K : Keep} {s0 : State} (s : State) (c : Nat) (a : Nat) (i : Nat) (v : Word) (hs : Kept K s0 s) (kirq : K.irq = false := by assumption) (kcyc : K.cyc = false := by assumption) (kmsi : K.msi = false := by assumption) (kshd : K.shd = false := by assumption) (kshu : K.shu = false := by assumption) : Kept K s0 (State.allocWrite s c a i v) := by
  unfold State.allocWrite
  repeat' (first
    | with_reducible assumption | intro _ | with_reducible apply ite_kept | with_reducible apply ite_fst_kept | with_reducible apply State.wrRW_kept
    | with_reducible apply State.p_kept | with_reducible apply State.ev_kept | with_reducible apply State.when_kept
    | with_reducible apply State.updShd_kept | extract_lets | dsimp only | split)

theorem execAllocWrite_kept {K : Keep} {s0 : State} (ag : Agent) (c : Fin 64) (a : Fin 512) (i : Fin 4) (v : Word) (s : State) (hs : Kept K s0 s) (kirq : K.irq = false := by assumption) (kcyc : K.cyc = false := by assumption) (kmsi : K.msi = false := by assumption) (kshd : K.shd = false := by assumption) (kshu : K.shu = false := by assumption) : KeptO K s0 (execAllocWrite ag c a i v s) := by
  unfold execAllocWrite
  repeat' (first
    | with_reducible assumption | intro _ | with_reducible apply next_kept | with_reducible apply State.bus_kept
    | with_reducible apply State.heldDrop_kept | with_reducible apply State.allocWrite_kept | dsimp only)

theorem State.ledgerCtlWrite_kept {K : Keep} {s0 : State} (s : State) (c : Nat) (v : Word) (hs : Kept K s0 s) (kirq : K.irq = false := by assumption) (kcyc : K.cyc = false := by assumption) (kmsi : K.msi = false := by assumption) (kshu : K.shu = false := by assumption) : Kept K s0 (State.ledgerCtlWrite s c v) := by
  unfold State.ledgerCtlWrite
  repeat' (first
    | with_reducible assumption | intro _ | with_reducible apply ite_kept | with_reducible apply ite_fst_kept | with_reducible apply State.wrRW_kept
    | with_reducible apply State.when_kept | with_reducible apply State.updCyc_kept | with_reducible apply State.p_kept
    | with_reducible apply State.ev_kept | extract_lets | dsimp only | split)

theorem execLedgerCtlWrite_kept {K : Keep} {s0 : State} (ag : Agent) (c : Fin 64) (v : Word) (s : State) (hs : Kept K s0 s) (kirq : K.irq = false := by assumption) (kcyc : K.cyc = false := by assumption) (kmsi : K.msi = false := by assumption) (kshu : K.shu = false := by assumption) : KeptO K s0 (execLedgerCtlWrite ag c v s) := by
  unfold execLedgerCtlWrite
  repeat' (first
    | with_reducible assumption | intro _ | with_reducible apply next_kept | with_reducible apply State.bus_kept
    | with_reducible apply State.heldDrop_kept | with_reducible apply State.ledgerCtlWrite_kept | dsimp only)

theorem State.sumClose_kept {K : Keep} {s0 : State} (s : State) (c : Nat) (e : LEntry) (hs : Kept K s0 s) (kblt : K.blt = false := by assumption) : Kept K s0 (State.sumClose s c e) := by
  unfold State.sumClose
  repeat' (first
    | with_reducible assumption | intro _ | with_reducible apply ite_kept | with_reducible apply ite_fst_kept | with_reducible apply State.sumUpd_kept
    | extract_lets | dsimp only | split)

theorem State.takeBk_kept {K : Keep} {s0 : State} (s : State) (c : Nat) (i : Nat) (e : LEntry) (hs : Kept K s0 s) (kirq : K.irq = false := by assumption) (kcyc : K.cyc = false := by assumption) (kmsi : K.msi = false := by assumption) (kpch : K.pch = false := by assumption) (kshu : K.shu = false := by assumption) (kblt : K.blt = false := by assumption) : Kept K s0 (State.takeBk s c i e) := by
  unfold State.takeBk
  repeat' (first
    | with_reducible assumption | intro _ | with_reducible apply ite_kept | with_reducible apply ite_fst_kept | with_reducible apply State.updPch_kept
    | with_reducible apply State.boltProduce_kept | with_reducible apply State.when_kept | with_reducible apply State.sumUpd_kept
    | with_reducible apply State.boltEvent_kept | extract_lets | dsimp only | split | dsimp +zetaDelta only)

theorem execLedgerClose_kept {K : Keep} {s0 : State} (c : Fin 64) (i : Fin 4096) (frameBits : Fin 262144) (s : State) (hs : Kept K s0 s) (kfresh : K.fresh = false := by assumption) (kirq : K.irq = false := by assumption) (kcyc : K.cyc = false := by assumption) (kmsi : K.msi = false := by assumption) (kpch : K.pch = false := by assumption) (kledger : K.ledger = false := by assumption) (kshu : K.shu = false := by assumption) (kblt : K.blt = false := by assumption) : KeptO K s0 (execLedgerClose c i frameBits s) := by
  unfold execLedgerClose
  repeat' (first
    | with_reducible assumption | intro _ | with_reducible apply next_kept | with_reducible apply ite_kept | with_reducible apply ite_fst_kept
    | with_reducible apply State.wr64_kept | with_reducible apply State.updCyc_kept | with_reducible apply State.takeBk_kept
    | with_reducible apply State.inc_kept | with_reducible apply State.ev_kept | with_reducible apply State.refuseTo_kept
    | with_reducible apply State.closeEntry_kept | with_reducible apply State.sumClose_kept | extract_lets | dsimp only | split)

theorem execLedgerForcedClose_kept {K : Keep} {s0 : State} (i : Fin 4096) (s : State) (hs : Kept K s0 s) (kirq : K.irq = false := by assumption) (kcyc : K.cyc = false := by assumption) (kmsi : K.msi = false := by assumption) (kledger : K.ledger = false := by assumption) (kshu : K.shu = false := by assumption) (kblt : K.blt = false := by assumption) : KeptO K s0 (execLedgerForcedClose i s) := by
  unfold execLedgerForcedClose
  repeat' (first
    | with_reducible assumption | intro _ | with_reducible apply next_kept | with_reducible apply State.when_kept
    | with_reducible apply State.closeEntry_kept | with_reducible apply State.inc_kept | with_reducible apply State.sumClose_kept
    | with_reducible apply State.updCyc_kept | extract_lets | dsimp only)

theorem State.setPlacing_kept {K : Keep} {s0 : State} (s : State) (c : Nat) (p : Placing) (hs : Kept K s0 s) (kshd : K.shd = false := by assumption) : Kept K s0 (State.setPlacing s c p) := by
  unfold State.setPlacing
  repeat' (first
    | with_reducible assumption | intro _ | with_reducible apply State.updShd_kept | dsimp only)

theorem State.countGrant_kept {K : Keep} {s0 : State} (s : State) (c : Nat) (a : Nat) (p : Placing) (hs : Kept K s0 s) (kirq : K.irq = false := by assumption) (kcyc : K.cyc = false := by assumption) (kmsi : K.msi = false := by assumption) (kshd : K.shd = false := by assumption) (kshu : K.shu = false := by assumption) : Kept K s0 (State.countGrant s c a p) := by
  unfold State.countGrant
  repeat' (first
    | with_reducible assumption | intro _ | with_reducible apply State.setPlacing_kept | with_reducible apply State.when_kept
    | with_reducible apply State.inc_kept | with_reducible apply State.ev_kept | extract_lets | dsimp only)

theorem State.noteBytes_kept {K : Keep} {s0 : State} (s : State) (c : Nat) (a : Nat) (f : Nat) (n : Nat) (hs : Kept K s0 s) (kshd : K.shd = false := by assumption) : Kept K s0 (State.noteBytes s c a f n) := by
  unfold State.noteBytes
  repeat' (first
    | with_reducible assumption | intro _ | with_reducible apply State.updAl_kept | dsimp only)

theorem State.chainPut_kept {K : Keep} {s0 : State} (s : State) (c : Nat) (f : Nat) (a : Nat) (n : Nat) (limit : Nat) (k : Ask) (hs : Kept K s0 s) (kfresh : K.fresh = false := by assumption) (kirq : K.irq = false := by assumption) (kcyc : K.cyc = false := by assumption) (kmsi : K.msi = false := by assumption) (kpch : K.pch = false := by assumption) (kshd : K.shd = false := by assumption) (kshu : K.shu = false := by assumption) : KeptT K s0 (State.chainPut s c f a n limit k) := by
  unfold State.chainPut
  repeat' (first
    | with_reducible assumption | intro _ | with_reducible apply ite_kept | with_reducible apply ite_fst_kept
    | with_reducible apply State.grantWrite_kept | with_reducible apply State.countGrant_kept | with_reducible apply State.noteBytes_kept
    | with_reducible apply State.refuseTo_kept | with_reducible apply ite_opt_kept | with_reducible apply none_kept | with_reducible apply some_kept
    | with_reducible apply getD_kept | refine KeptT.of ?_ _ (by assumption) | extract_lets | dsimp only | split | dsimp +zetaDelta only)

theorem State.putAt_kept {K : Keep} {s0 : State} (s : State) (c : Nat) (f : Nat) (a : Nat) (n : Nat) (pos : Nat) (k : Ask) (hs : Kept K s0 s) (kfresh : K.fresh = false := by assumption) (kirq : K.irq = false := by assumption) (kcyc : K.cyc = false := by assumption) (kmsi : K.msi = false := by assumption) (kpch : K.pch = false := by assumption) (kshd : K.shd = false := by assumption) (kshu : K.shu = false := by assumption) : Kept K s0 (State.putAt s c f a n pos k) := by
  unfold State.putAt
  repeat' (first
    | with_reducible assumption | with_reducible apply ite_kept | with_reducible apply ite_fst_kept | with_reducible apply State.grantWrite_kept
    | with_reducible apply State.countGrant_kept | with_reducible apply State.noteBytes_kept | with_reducible apply State.refuseTo_kept | extract_lets
    | dsimp only | split)

theorem State.put_kept {K : Keep} {s0 : State} (s : State) (c : Nat) (f : Nat) (a : Nat) (n : Nat) (j : Nat) (limit : Nat) (k : Ask) (hs : Kept K s0 s) (kfresh : K.fresh = false := by assumption) (kirq : K.irq = false := by assumption) (kcyc : K.cyc = false := by assumption) (kmsi : K.msi = false := by assumption) (kpch : K.pch = false := by assumption) (kshd : K.shd = false := by assumption) (kshu : K.shu = false := by assumption) : Kept K s0 (State.put s c f a n j limit k) := by
  unfold State.put
  repeat' (first
    | with_reducible assumption | with_reducible apply ite_kept | with_reducible apply ite_fst_kept | with_reducible apply State.chainPut_kept
    | with_reducible apply State.putAt_kept | with_reducible apply ite_opt_kept | with_reducible apply none_kept | with_reducible apply some_kept
    | with_reducible apply getD_kept | refine KeptT.of ?_ _ (by assumption) | extract_lets | dsimp only | split | dsimp +zetaDelta only)

theorem State.putSpread_kept {K : Keep} {s0 : State} (s : State) (c : Nat) (f : Nat) (a : Nat) (n : Nat) (trim : Nat) (hs : Kept K s0 s) (kfresh : K.fresh = false := by assumption) (kirq : K.irq = false := by assumption) (kcyc : K.cyc = false := by assumption) (kmsi : K.msi = false := by assumption) (kpch : K.pch = false := by assumption) (kshd : K.shd = false := by assumption) (kshu : K.shu = false := by assumption) : Kept K s0 (State.putSpread s c f a n trim) := by
  unfold State.putSpread
  repeat' (first
    | with_reducible assumption | intro _ | with_reducible apply ite_kept | with_reducible apply ite_fst_kept | with_reducible apply foldl_kept
    | with_reducible apply foldl_fst_kept | with_reducible apply foldl_snd_kept | with_reducible apply State.put_kept | extract_lets | dsimp only | split)

theorem State.placeBook_kept {K : Keep} {s0 : State} (s : State) (c : Nat) (f : Nat) (e : InEntry) (hs : Kept K s0 s) (kfresh : K.fresh = false := by assumption) (kirq : K.irq = false := by assumption) (kcyc : K.cyc = false := by assumption) (kmsi : K.msi = false := by assumption) (kpch : K.pch = false := by assumption) (kshd : K.shd = false := by assumption) (kshu : K.shu = false := by assumption) : Kept K s0 (State.placeBook s c f e) := by
  unfold State.placeBook
  repeat' (first
    | with_reducible assumption | intro _ | with_reducible apply ite_kept | with_reducible apply ite_fst_kept
    | with_reducible apply State.grantWrite_kept | with_reducible apply State.countGrant_kept | with_reducible apply State.when_kept
    | with_reducible apply State.noteBytes_kept | with_reducible apply State.refuseTo_kept | extract_lets | dsimp only | split)

theorem State.fixedGrants_kept {K : Keep} {s0 : State} (s : State) (c : Nat) (f : Nat) (hs : Kept K s0 s) (kfresh : K.fresh = false := by assumption) (kirq : K.irq = false := by assumption) (kcyc : K.cyc = false := by assumption) (kmsi : K.msi = false := by assumption) (kpch : K.pch = false := by assumption) (kshd : K.shd = false := by assumption) (kshu : K.shu = false := by assumption) : Kept K s0 (State.fixedGrants s c f) := by
  unfold State.fixedGrants
  repeat' (first
    | with_reducible assumption | intro _ | with_reducible apply ite_kept | with_reducible apply ite_fst_kept | with_reducible apply foldl_kept
    | with_reducible apply foldl_fst_kept | with_reducible apply foldl_snd_kept | with_reducible apply State.putSpread_kept
    | with_reducible apply State.updAl_kept | extract_lets | dsimp only | split)

theorem State.keepAlives_kept {K : Keep} {s0 : State} (s : State) (c : Nat) (f : Nat) (hs : Kept K s0 s) (kfresh : K.fresh = false := by assumption) (kirq : K.irq = false := by assumption) (kcyc : K.cyc = false := by assumption) (kmsi : K.msi = false := by assumption) (kpch : K.pch = false := by assumption) (kshd : K.shd = false := by assumption) (kshu : K.shu = false := by assumption) : Kept K s0 (State.keepAlives s c f) := by
  unfold State.keepAlives
  repeat' (first
    | with_reducible assumption | intro _ | with_reducible apply ite_kept | with_reducible apply ite_fst_kept | with_reducible apply foldl_kept
    | with_reducible apply foldl_fst_kept | with_reducible apply foldl_snd_kept | with_reducible apply State.put_kept | extract_lets | dsimp only | split)

theorem State.anchorGrants_kept {K : Keep} {s0 : State} (s : State) (c : Nat) (f : Nat) (hs : Kept K s0 s) (kfresh : K.fresh = false := by assumption) (kirq : K.irq = false := by assumption) (kcyc : K.cyc = false := by assumption) (kmsi : K.msi = false := by assumption) (kpch : K.pch = false := by assumption) (kshd : K.shd = false := by assumption) (kshu : K.shu = false := by assumption) : Kept K s0 (State.anchorGrants s c f) := by
  unfold State.anchorGrants
  repeat' (first
    | with_reducible assumption | intro _ | with_reducible apply ite_kept | with_reducible apply ite_fst_kept | with_reducible apply foldl_kept
    | with_reducible apply foldl_fst_kept | with_reducible apply foldl_snd_kept | with_reducible apply State.putAt_kept
    | with_reducible apply State.updShd_kept | extract_lets | dsimp only | split)

theorem State.startGrants_kept {K : Keep} {s0 : State} (s : State) (c : Nat) (f : Nat) (hs : Kept K s0 s) (kfresh : K.fresh = false := by assumption) (kirq : K.irq = false := by assumption) (kcyc : K.cyc = false := by assumption) (kmsi : K.msi = false := by assumption) (kpch : K.pch = false := by assumption) (kshd : K.shd = false := by assumption) (kshu : K.shu = false := by assumption) : Kept K s0 (State.startGrants s c f) := by
  unfold State.startGrants
  repeat' (first
    | with_reducible assumption | intro _ | with_reducible apply ite_kept | with_reducible apply ite_fst_kept | with_reducible apply foldl_kept
    | with_reducible apply foldl_fst_kept | with_reducible apply foldl_snd_kept | with_reducible apply State.put_kept
    | with_reducible apply State.updShd_kept | extract_lets | dsimp only | split | dsimp +zetaDelta only)

theorem State.hintTry_kept {K : Keep} {s0 : State} (s : State) (c : Nat) (e : InEntry) (x : Nat) (hs : Kept K s0 s) (kfresh : K.fresh = false := by assumption) (kirq : K.irq = false := by assumption) (kcyc : K.cyc = false := by assumption) (kmsi : K.msi = false := by assumption) (kpch : K.pch = false := by assumption) (kshd : K.shd = false := by assumption) (kshu : K.shu = false := by assumption) : KeptT K s0 (State.hintTry s c e x) := by
  unfold State.hintTry
  repeat' (first
    | with_reducible assumption | with_reducible apply ite_kept | with_reducible apply ite_fst_kept | with_reducible apply State.putAt_kept
    | with_reducible apply State.chainPut_kept | with_reducible apply State.setPlacing_kept | with_reducible apply ite_opt_kept
    | with_reducible apply none_kept | with_reducible apply some_kept | with_reducible apply getD_kept | refine KeptT.of ?_ _ (by assumption)
    | extract_lets | dsimp only | split | dsimp +zetaDelta only)

theorem State.placeHint_kept {K : Keep} {s0 : State} (s : State) (c : Nat) (e : InEntry) (hs : Kept K s0 s) (kfresh : K.fresh = false := by assumption) (kirq : K.irq = false := by assumption) (kcyc : K.cyc = false := by assumption) (kmsi : K.msi = false := by assumption) (kpch : K.pch = false := by assumption) (kshd : K.shd = false := by assumption) (kshu : K.shu = false := by assumption) : Kept K s0 (State.placeHint s c e) := by
  unfold State.placeHint
  repeat' (first
    | with_reducible assumption | with_reducible apply State.hintTry_kept | with_reducible apply State.inc_kept | with_reducible apply State.ev_kept
    | with_reducible apply ite_opt_kept | with_reducible apply none_kept | with_reducible apply some_kept | with_reducible apply getD_kept
    | refine KeptT.of ?_ _ (by assumption) | extract_lets | dsimp only | split | dsimp +zetaDelta only)

theorem State.setUpFrame_kept {K : Keep} {s0 : State} (s : State) (c : Nat) (f : Nat) (hs : Kept K s0 s) (kfresh : K.fresh = false := by assumption) (kirq : K.irq = false := by assumption) (kcyc : K.cyc = false := by assumption) (kmsi : K.msi = false := by assumption) (kpch : K.pch = false := by assumption) (kshd : K.shd = false := by assumption) (kshu : K.shu = false := by assumption) : Kept K s0 (State.setUpFrame s c f) := by
  unfold State.setUpFrame
  repeat' (first
    | with_reducible assumption | intro _ | with_reducible apply ite_kept | with_reducible apply ite_fst_kept | with_reducible apply foldl_kept
    | with_reducible apply foldl_fst_kept | with_reducible apply foldl_snd_kept | with_reducible apply State.setPlacing_kept
    | with_reducible apply State.placeBook_kept | with_reducible apply State.updShd_kept | with_reducible apply State.fixedGrants_kept
    | with_reducible apply State.keepAlives_kept | with_reducible apply State.anchorGrants_kept | with_reducible apply State.startGrants_kept
    | with_reducible apply State.placeHint_kept | extract_lets | dsimp only | split)

theorem State.lay_kept {K : Keep} {s0 : State} (s : State) (c : Nat) (f : Nat) (p : Plan) (hs : Kept K s0 s) (kfresh : K.fresh = false := by assumption) (kirq : K.irq = false := by assumption) (kcyc : K.cyc = false := by assumption) (kmsi : K.msi = false := by assumption) (kpch : K.pch = false := by assumption) (kshd : K.shd = false := by assumption) (kshu : K.shu = false := by assumption) : Kept K s0 (State.lay s c f p) := by
  unfold State.lay
  repeat' (first
    | with_reducible assumption | intro _ | with_reducible apply foldl_kept | with_reducible apply foldl_fst_kept | with_reducible apply foldl_snd_kept
    | with_reducible apply State.putSpread_kept | dsimp only)

theorem State.sweepClass_kept {K : Keep} {s0 : State} (s t : State) (c f limit cls : Nat) (order : List Nat) (plan : Plan) (hs : Kept K s0 s) (ht : Kept K s0 t) (kfresh : K.fresh = false := by assumption) (kirq : K.irq = false := by assumption) (kcyc : K.cyc = false := by assumption) (kmsi : K.msi = false := by assumption) (kpch : K.pch = false := by assumption) (kshd : K.shd = false := by assumption) (kshu : K.shu = false := by assumption) :
    Kept K s0 (State.sweepClass s t c f limit cls order plan).2.1 := by
  unfold State.sweepClass
  extract_lets set x r
  refine foldl_snd_kept (fun a e ha => ?_) ht
  dsimp only
  split
  · exact State.lay_kept _ _ _ _ hs
  · exact ha

theorem State.overgrant_kept {K : Keep} {s0 : State} (s t : State) (c f limit : Nat) (order : List Nat) (plan : Plan) (hs : Kept K s0 s) (ht : Kept K s0 t) (kfresh : K.fresh = false := by assumption) (kirq : K.irq = false := by assumption) (kcyc : K.cyc = false := by assumption) (kmsi : K.msi = false := by assumption) (kpch : K.pch = false := by assumption) (kshd : K.shd = false := by assumption) (kshu : K.shu = false := by assumption) :
    Kept K s0 (State.overgrant s t c f limit order plan).1 := by
  unfold State.overgrant
  extract_lets m r
  suffices h : ∀ (l : List Nat) (acc : Plan × State × List (Nat × Nat)), Kept K s0 acc.2.1 → Kept K s0 (l.foldl (fun (acc : Plan × State × List (Nat × Nat)) a =>
    let t := acc.2.1
    let q := t.placing c f
    let own := q.own.look a
    if s.alPol c a SHD_ALLOC_POL_OVG_EN = 0 || own = 0 then acc
    else
      let n := min (m * own - q.ovg.look a) (s.rmOf c a - (t.alst c a).gotIn f)
      let try_ := fun y => s.lay c f (acc.1.add a y 3)
      let y := levelBits (fun y => decide (y ≤ n) && placesMore t (try_ y) c f a limit acc.1) 21 0
      if y = 0 then acc else (acc.1.add a y 3, try_ y, acc.2.2 ++ [(a, y)])) acc).2.1 from h _ _ ht
  intro l
  induction l with
  | nil => exact fun _ h => h
  | cons a l ih =>
    intro acc h
    refine ih _ ?_
    dsimp -zeta only
    extract_lets t q own
    split
    · exact h
    · split
      · exact h
      · exact State.lay_kept _ _ _ _ hs

theorem State.noteOvergrant_kept {K : Keep} {s0 : State} (s : State) (c : Nat) (f : Nat) (e : Nat × Nat) (hs : Kept K s0 s) (kshd : K.shd = false := by assumption) : Kept K s0 (State.noteOvergrant s c f e) := by
  unfold State.noteOvergrant
  repeat' (first
    | with_reducible assumption | with_reducible apply State.setPlacing_kept | with_reducible apply State.add_kept | extract_lets | dsimp only)

theorem State.shareInto_kept {K : Keep} {s0 : State} (s : State) (c f limit : Nat) (final : Bool) (hs : Kept K s0 s) (kfresh : K.fresh = false := by assumption) (kirq : K.irq = false := by assumption) (kcyc : K.cyc = false := by assumption) (kmsi : K.msi = false := by assumption) (kpch : K.pch = false := by assumption) (kshd : K.shd = false := by assumption) (kshu : K.shu = false := by assumption) :
    Kept K s0 (State.shareInto s c f limit final) := by
  have pick : ∀ (b : Bool) (x y : Plan × State × Nat × Bool), Kept K s0 x.2.1 → Kept K s0 y.2.1 → Kept K s0 (if b then x else y).2.1 := by
    intro b x y hx hy
    cases b <;> assumption
  unfold State.shareInto
  extract_lets order c1 c2 c3 o t
  have h1 : Kept K s0 c1.2.1 := State.sweepClass_kept _ _ _ _ _ _ _ _ hs hs
  clear_value c1
  have h2 : Kept K s0 c2.2.1 := by
    refine pick c1.2.2.2 _ _ ?_ h1
    exact State.sweepClass_kept _ _ _ _ _ _ _ _ hs h1
  clear_value c2
  have h3 : Kept K s0 c3.2.1 := by
    refine pick c2.2.2.2 _ _ ?_ h2
    exact State.sweepClass_kept _ _ _ _ _ _ _ _ hs h2
  clear_value c3
  have ho : Kept K s0 o.1 := by
    refine ite_fst_kept ?_ h3
    exact State.overgrant_kept _ _ _ _ _ _ _ hs h3
  clear_value o
  have ht : Kept K s0 t := foldl_kept (fun s e h => State.noteOvergrant_kept _ _ _ _ h) ho
  clear_value t
  split
  · exact State.setPlacing_kept _ _ _ ht
  · exact ht

theorem State.ageAllocs_kept {K : Keep} {s0 : State} (s : State) (c : Nat) (hs : Kept K s0 s) (kshd : K.shd = false := by assumption) : Kept K s0 (State.ageAllocs s c) := by
  unfold State.ageAllocs
  repeat' (first
    | with_reducible assumption | intro _ | with_reducible apply State.updShd_kept | extract_lets | dsimp only)

theorem State.sweepAt_kept {K : Keep} {s0 : State} (s : State) (c : Nat) (n : Nat) (hs : Kept K s0 s) (kfresh : K.fresh = false := by assumption) (kirq : K.irq = false := by assumption) (kcyc : K.cyc = false := by assumption) (kmsi : K.msi = false := by assumption) (kpch : K.pch = false := by assumption) (kshd : K.shd = false := by assumption) (kshu : K.shu = false := by assumption) : Kept K s0 (State.sweepAt s c n) := by
  unfold State.sweepAt
  repeat' (first
    | with_reducible assumption | intro _ | with_reducible apply ite_kept | with_reducible apply ite_fst_kept | with_reducible apply State.boundary_kept
    | with_reducible apply State.shedLatch_kept | with_reducible apply State.updShd_kept | with_reducible apply State.ageAllocs_kept
    | with_reducible apply State.setUpFrame_kept | with_reducible apply State.shareInto_kept | extract_lets | dsimp only | split)

theorem execSliceSweep_kept {K : Keep} {s0 : State} (c : Fin 64) (slice : Fin 16) (s : State) (hs : Kept K s0 s) (kfresh : K.fresh = false := by assumption) (kirq : K.irq = false := by assumption) (kcyc : K.cyc = false := by assumption) (kmsi : K.msi = false := by assumption) (kpch : K.pch = false := by assumption) (kshd : K.shd = false := by assumption) (kshu : K.shu = false := by assumption) : KeptO K s0 (execSliceSweep c slice s) := by
  unfold execSliceSweep
  repeat' (first
    | with_reducible assumption | intro _ | with_reducible apply next_kept | with_reducible apply State.when_kept
    | with_reducible apply State.sweepAt_kept | dsimp only)

theorem execSweepOverrun_kept {K : Keep} {s0 : State} (c : Fin 64) (s : State) (hs : Kept K s0 s) (kirq : K.irq = false := by assumption) (kcyc : K.cyc = false := by assumption) (kmsi : K.msi = false := by assumption) (kshd : K.shd = false := by assumption) (kshu : K.shu = false := by assumption) : KeptO K s0 (execSweepOverrun c s) := by
  unfold execSweepOverrun
  repeat' (first
    | with_reducible assumption | intro _ | with_reducible apply next_kept | with_reducible apply State.when_kept
    | with_reducible apply State.setPlacing_kept | with_reducible apply State.inc_kept | with_reducible apply State.ev_kept | extract_lets | dsimp only)

theorem State.lateService_kept {K : Keep} {s0 : State} (s : State) (c : Nat) (a : Nat) (hs : Kept K s0 s) (kfresh : K.fresh = false := by assumption) (kirq : K.irq = false := by assumption) (kcyc : K.cyc = false := by assumption) (kmsi : K.msi = false := by assumption) (kpch : K.pch = false := by assumption) (kshd : K.shd = false := by assumption) (kshu : K.shu = false := by assumption) : Kept K s0 (State.lateService s c a) := by
  unfold State.lateService
  repeat' (first
    | with_reducible assumption | with_reducible apply ite_kept | with_reducible apply ite_fst_kept | with_reducible apply State.put_kept
    | with_reducible apply State.inc_kept | extract_lets | dsimp only | split)

theorem State.bookEntry_kept {K : Keep} {s0 : State} (s : State) (c : Nat) (e : InEntry) (hs : Kept K s0 s) (kfresh : K.fresh = false := by assumption) (kirq : K.irq = false := by assumption) (kcyc : K.cyc = false := by assumption) (kmsi : K.msi = false := by assumption) (kpch : K.pch = false := by assumption) (kshd : K.shd = false := by assumption) (kshu : K.shu = false := by assumption) : Kept K s0 (State.bookEntry s c e) := by
  unfold State.bookEntry
  repeat' (first
    | with_reducible assumption | intro _ | with_reducible apply ite_kept | with_reducible apply ite_fst_kept | with_reducible apply State.updShd_kept
    | with_reducible apply State.placeBook_kept | with_reducible apply State.when_kept | extract_lets | dsimp only | split)

theorem State.shedEntry_kept {K : Keep} {s0 : State} (s : State) (c : Nat) (e : InEntry) (hs : Kept K s0 s) (kfresh : K.fresh = false := by assumption) (kirq : K.irq = false := by assumption) (kcyc : K.cyc = false := by assumption) (kmsi : K.msi = false := by assumption) (kpch : K.pch = false := by assumption) (kshd : K.shd = false := by assumption) (kshu : K.shu = false := by assumption) : Kept K s0 (State.shedEntry s c e) := by
  unfold State.shedEntry
  repeat' (first
    | with_reducible assumption | intro _ | with_reducible apply ite_kept | with_reducible apply ite_fst_kept | with_reducible apply State.inc_kept
    | with_reducible apply State.bookEntry_kept | with_reducible apply State.updAl_kept | with_reducible apply State.lateService_kept
    | with_reducible apply State.monitor_kept | with_reducible apply State.placeHint_kept | with_reducible apply State.updShd_kept | extract_lets
    | dsimp only | split | dsimp +zetaDelta only)

theorem execShedInputEntry_kept {K : Keep} {s0 : State} (c : Fin 64) (s : State) (hs : Kept K s0 s) (kfresh : K.fresh = false := by assumption) (kirq : K.irq = false := by assumption) (kcyc : K.cyc = false := by assumption) (kmsi : K.msi = false := by assumption) (kpch : K.pch = false := by assumption) (kshd : K.shd = false := by assumption) (kshu : K.shu = false := by assumption) : KeptO K s0 (execShedInputEntry c s) := by
  unfold execShedInputEntry
  repeat' (first
    | with_reducible assumption | intro _ | with_reducible apply next_kept | with_reducible apply State.sweepAt_kept
    | with_reducible apply State.updShd_kept | with_reducible apply State.inqSync_kept | with_reducible apply State.shedEntry_kept | extract_lets
    | dsimp only | split | dsimp +zetaDelta only)

theorem State.hintRecord_kept {K : Keep} {s0 : State} (s : State) (c : Nat) (w : Nat → Word) (hs : Kept K s0 s) (kirq : K.irq = false := by assumption) (kcyc : K.cyc = false := by assumption) (kmsi : K.msi = false := by assumption) (kshd : K.shd = false := by assumption) (kshu : K.shu = false := by assumption) : Kept K s0 (State.hintRecord s c w) := by
  unfold State.hintRecord
  repeat' (first
    | with_reducible assumption | intro _ | with_reducible apply ite_kept | with_reducible apply ite_fst_kept | with_reducible apply State.inc_kept
    | with_reducible apply State.ev_kept | with_reducible apply State.updShd_kept | with_reducible apply State.hintDeliver_kept | extract_lets
    | dsimp only | split | dsimp +zetaDelta only)

theorem State.hintPdu_kept {K : Keep} {s0 : State} (s : State) (pdu : List Byte) (hs : Kept K s0 s) (kirq : K.irq = false := by assumption) (kcyc : K.cyc = false := by assumption) (kmsi : K.msi = false := by assumption) (kshd : K.shd = false := by assumption) (kshu : K.shu = false := by assumption) (kcls : K.cls = false := by assumption) : Kept K s0 (State.hintPdu s pdu) := by
  unfold State.hintPdu
  repeat' (first
    | with_reducible assumption | intro _ | with_reducible apply ite_kept | with_reducible apply ite_fst_kept | with_reducible apply foldl_kept
    | with_reducible apply foldl_fst_kept | with_reducible apply foldl_snd_kept | with_reducible apply State.inc_kept
    | with_reducible apply State.hintRecord_kept | extract_lets | dsimp only | split | with_reducible apply Kept.upd_cls | dsimp +zetaDelta only)

theorem execHintPdu_kept {K : Keep} {s0 : State} (l : Fin 32) (etype : BitVec 16) (pdu : List Byte) (s : State) (hs : Kept K s0 s) (kirq : K.irq = false := by assumption) (kcyc : K.cyc = false := by assumption) (kmsi : K.msi = false := by assumption) (kshd : K.shd = false := by assumption) (kshu : K.shu = false := by assumption) (kcls : K.cls = false := by assumption) : KeptO K s0 (execHintPdu l etype pdu s) := by
  unfold execHintPdu
  repeat' (first
    | with_reducible assumption | intro _ | with_reducible apply next_kept | with_reducible apply State.when_kept
    | with_reducible apply State.hintPdu_kept | dsimp only)

theorem State.hintInWrite_kept {K : Keep} {s0 : State} (s : State) (ag : Agent) (c : Nat) (i : Nat) (v : Word) (hs : Kept K s0 s) (kirq : K.irq = false := by assumption) (kcyc : K.cyc = false := by assumption) (kmsi : K.msi = false := by assumption) (kshd : K.shd = false := by assumption) (kshu : K.shu = false := by assumption) : Kept K s0 (State.hintInWrite s ag c i v) := by
  unfold State.hintInWrite
  repeat' (first
    | with_reducible assumption | intro _ | with_reducible apply ite_kept | with_reducible apply ite_fst_kept | with_reducible apply State.wr_kept
    | with_reducible apply State.hintRecord_kept | extract_lets | dsimp only | split)

theorem execHintRecordSubmit_kept {K : Keep} {s0 : State} (ag : Agent) (c : Fin 64) (v : Word) (s : State) (hs : Kept K s0 s) (kirq : K.irq = false := by assumption) (kcyc : K.cyc = false := by assumption) (kmsi : K.msi = false := by assumption) (kshd : K.shd = false := by assumption) (kshu : K.shu = false := by assumption) : KeptO K s0 (execHintRecordSubmit ag c v s) := by
  unfold execHintRecordSubmit
  repeat' (first
    | with_reducible assumption | intro _ | with_reducible apply next_kept | with_reducible apply State.bus_kept
    | with_reducible apply State.hintInWrite_kept | dsimp only)

end Sys2Proof.Machine
end

