-- ==== Sys2Proof/Laws/Kept/Classify.lean ====
section
/-! SUPPORT. What the operations and meanings of Machine/Classify.lean keep: the queue, the clock, the canonical forms, and every
component of the state that they have no business with. -/
namespace Sys2Proof.Machine

set_option linter.all false

theorem State.updCls_kept {K : Keep} {s0 : State} (s : State) (f : Cls → Cls) (hs : Kept K s0 s) (kcls : K.cls = false := by assumption) : Kept K s0 (State.updCls s f) := by
  unfold State.updCls
  repeat' (first
    | with_reducible assumption | with_reducible apply Kept.upd_cls)

theorem State.lookups_kept {K : Keep} {s0 : State} (s : State) (wire : Rec) (f : PFrame) (p : Parsed) (hs : Kept K s0 s) : Kept K s0 (State.lookups s wire f p).1 := by
  unfold State.lookups
  repeat' (first
    | with_reducible assumption | intro _ | with_reducible apply foldl_kept | with_reducible apply foldl_fst_kept | with_reducible apply foldl_snd_kept
    | with_reducible apply State.inc_kept | with_reducible apply State.add_kept | extract_lets | dsimp only | split | dsimp +zetaDelta only)

theorem State.pipeDrop_kept {K : Keep} {s0 : State} (s : State) (p : Nat) (hs : Kept K s0 s) : Kept K s0 (State.pipeDrop s p) := by
  unfold State.pipeDrop
  repeat' (first
    | with_reducible assumption | with_reducible apply State.inc_kept)

theorem State.handOff_kept {K : Keep} {s0 : State} (s : State) (h : Hand) (hs : Kept K s0 s) (ktmg : K.tmg = false := by assumption) : Kept K s0 (State.handOff s h) := by
  unfold State.handOff
  repeat' (first
    | with_reducible assumption | intro _ | with_reducible apply State.updTmg_kept | dsimp only)

theorem State.verdict_kept {K : Keep} {s0 : State} (s : State) (p : Nat) (f : PFrame) (m : Merged) (hs : Kept K s0 s) (kirq : K.irq = false := by assumption) (kcyc : K.cyc = false := by assumption) (kmsi : K.msi = false := by assumption) (kshu : K.shu = false := by assumption) (kcls : K.cls = false := by assumption) (ktmg : K.tmg = false := by assumption) (kfwd : K.fwd = false := by assumption) (ktrb : K.trb = false := by assumption) : Kept K s0 (State.verdict s p f m) := by
  unfold State.verdict
  repeat' (first
    | with_reducible assumption | intro _ | with_reducible apply ite_kept | with_reducible apply ite_fst_kept | with_reducible apply State.when_kept
    | with_reducible apply State.ev_kept | with_reducible apply State.pipeDrop_kept | with_reducible apply State.forward_kept
    | with_reducible apply State.handOff_kept | with_reducible apply State.inc_kept | with_reducible apply State.updCls_kept | extract_lets | dsimp only
    | split | with_reducible apply Kept.upd_trb)

theorem State.pass_kept {K : Keep} {s0 : State} (s : State) (p : Nat) (wire : Rec) (start : Nat) (f : PFrame) (hs : Kept K s0 s) (kirq : K.irq = false := by assumption) (kcyc : K.cyc = false := by assumption) (kmsi : K.msi = false := by assumption) (kshu : K.shu = false := by assumption) (kcls : K.cls = false := by assumption) (ktmg : K.tmg = false := by assumption) (kfwd : K.fwd = false := by assumption) (ktrb : K.trb = false := by assumption) : Kept K s0 (State.pass s p wire start f) := by
  unfold State.pass
  repeat' (first
    | with_reducible assumption | intro _ | with_reducible apply ite_kept | with_reducible apply ite_fst_kept | with_reducible apply State.inc_kept
    | with_reducible apply State.when_kept | with_reducible apply State.ev_kept | with_reducible apply State.lookups_kept
    | with_reducible apply State.verdict_kept | extract_lets | dsimp only | split)

theorem execPipelineFrame_kept {K : Keep} {s0 : State} (p : Fin 8) (s : State) (hs : Kept K s0 s) (kirq : K.irq = false := by assumption) (kcyc : K.cyc = false := by assumption) (kmsi : K.msi = false := by assumption) (kshd : K.shd = false := by assumption) (kshu : K.shu = false := by assumption) (kcls : K.cls = false := by assumption) (ktmg : K.tmg = false := by assumption) (kfwd : K.fwd = false := by assumption) (ktrb : K.trb = false := by assumption) : KeptO K s0 (execPipelineFrame p s) := by
  unfold execPipelineFrame
  repeat' (first
    | with_reducible assumption | intro _ | with_reducible apply next_kept | with_reducible apply ite_kept | with_reducible apply ite_fst_kept
    | with_reducible apply State.updCls_kept | with_reducible apply State.hintPdu_kept | with_reducible apply State.pass_kept | extract_lets | dsimp only
    | split | dsimp +zetaDelta only)

theorem execSecondPassReentry_kept {K : Keep} {s0 : State} (p : Fin 8) (s : State) (hs : Kept K s0 s) (kirq : K.irq = false := by assumption) (kcyc : K.cyc = false := by assumption) (kmsi : K.msi = false := by assumption) (kshu : K.shu = false := by assumption) (kcls : K.cls = false := by assumption) (ktmg : K.tmg = false := by assumption) (kfwd : K.fwd = false := by assumption) (ktrb : K.trb = false := by assumption) : KeptO K s0 (execSecondPassReentry p s) := by
  unfold execSecondPassReentry
  repeat' (first
    | with_reducible assumption | intro _ | with_reducible apply next_kept | with_reducible apply State.updCls_kept
    | with_reducible apply State.pass_kept | dsimp only | split | dsimp +zetaDelta only)

theorem State.commitWrite_kept {K : Keep} {s0 : State} (s : State) (ag : Agent) (v : Word) (hs : Kept K s0 s) (kirq : K.irq = false := by assumption) (kcyc : K.cyc = false := by assumption) (kmsi : K.msi = false := by assumption) (kshu : K.shu = false := by assumption) (kcls : K.cls = false := by assumption) : Kept K s0 (State.commitWrite s ag v) := by
  unfold State.commitWrite
  repeat' (first
    | with_reducible assumption | intro _ | with_reducible apply ite_kept | with_reducible apply ite_fst_kept | with_reducible apply State.wr_kept
    | with_reducible apply State.when_kept | with_reducible apply State.ev_kept | with_reducible apply State.p_kept
    | with_reducible apply State.updCls_kept | extract_lets | dsimp only | split)

theorem State.commitBody_kept {K : Keep} {s0 : State} (s : State) (e : Nat × List Word × Bool) (hs : Kept K s0 s) : Kept K s0 (State.commitBody s e) := by
  unfold State.commitBody
  repeat' (first
    | with_reducible assumption | intro _ | with_reducible apply foldl_kept | with_reducible apply foldl_fst_kept | with_reducible apply foldl_snd_kept
    | with_reducible apply State.wr_kept | with_reducible apply State.when_kept | with_reducible apply State.wr64_kept | extract_lets | dsimp only)

theorem State.commitCycle_kept {K : Keep} {s0 : State} (s : State) (x : Commit) (hs : Kept K s0 s) (kcls : K.cls = false := by assumption) : Kept K s0 (State.commitCycle s x) := by
  unfold State.commitCycle
  repeat' (first
    | with_reducible assumption | intro _ | with_reducible apply foldl_kept | with_reducible apply foldl_fst_kept | with_reducible apply foldl_snd_kept
    | with_reducible apply State.commitBody_kept | with_reducible apply State.updCls_kept | with_reducible apply State.when_kept
    | with_reducible apply State.wr_kept | with_reducible apply State.p_kept | extract_lets | dsimp only | split | dsimp +zetaDelta only)

theorem State.commitTick_kept {K : Keep} {s0 : State} (s : State) (hs : Kept K s0 s) (kcls : K.cls = false := by assumption) : Kept K s0 (State.commitTick s) := by
  unfold State.commitTick
  repeat' (first
    | with_reducible assumption | intro _ | with_reducible apply foldl_kept | with_reducible apply foldl_fst_kept | with_reducible apply foldl_snd_kept
    | with_reducible apply State.commitCycle_kept | with_reducible apply State.updCls_kept | dsimp only)

theorem execRuleCommit_kept {K : Keep} {s0 : State} (ag : Agent) (v : Word) (s : State) (hs : Kept K s0 s) (kirq : K.irq = false := by assumption) (kcyc : K.cyc = false := by assumption) (kmsi : K.msi = false := by assumption) (kshu : K.shu = false := by assumption) (kcls : K.cls = false := by assumption) : KeptO K s0 (execRuleCommit ag v s) := by
  unfold execRuleCommit
  repeat' (first
    | with_reducible assumption | intro _ | with_reducible apply next_kept | with_reducible apply State.bus_kept
    | with_reducible apply State.commitWrite_kept | dsimp only)

end Sys2Proof.Machine
end

