-- ==== Sys2Proof/Laws/Kept/Counters.lean ====
section
/-! SUPPORT. What the operations and meanings of Machine/Counters.lean keep: the queue, the clock, the canonical forms, and every
component of the state that they have no business with. -/
namespace Sys2Proof.Machine

set_option linter.all false

theorem State.updPmc_kept {K : Keep} {s0 : State} (s : State) (f : Pmc → Pmc) (hs : Kept K s0 s) (kpmc : K.pmc = false := by assumption) : Kept K s0 (State.updPmc s f) := by
  unfold State.updPmc
  repeat' (first
    | with_reducible assumption | with_reducible apply Kept.upd_pmc)

theorem State.dumpSkip_kept {K : Keep} {s0 : State} (s : State) (hs : Kept K s0 s) (kirq : K.irq = false := by assumption) (kcyc : K.cyc = false := by assumption) (kmsi : K.msi = false := by assumption) (kshu : K.shu = false := by assumption) : Kept K s0 (State.dumpSkip s) := by
  unfold State.dumpSkip
  repeat' (first
    | with_reducible assumption | with_reducible apply State.inc_kept | with_reducible apply State.ev_kept)

theorem State.dumpReq_kept {K : Keep} {s0 : State} (s : State) (scope : Nat) (hs : Kept K s0 s) (kirq : K.irq = false := by assumption) (kcyc : K.cyc = false := by assumption) (kmsi : K.msi = false := by assumption) (kshu : K.shu = false := by assumption) (kpmc : K.pmc = false := by assumption) : Kept K s0 (State.dumpReq s scope) := by
  unfold State.dumpReq
  repeat' (first
    | with_reducible assumption | intro _ | with_reducible apply ite_kept | with_reducible apply ite_fst_kept | with_reducible apply State.updPmc_kept
    | with_reducible apply State.dumpSkip_kept | dsimp only | split | dsimp +zetaDelta only)

theorem State.dumpCtlWrite_kept {K : Keep} {s0 : State} (s : State) (v : Word) (hs : Kept K s0 s) (kirq : K.irq = false := by assumption) (kcyc : K.cyc = false := by assumption) (kmsi : K.msi = false := by assumption) (kshu : K.shu = false := by assumption) (kpmc : K.pmc = false := by assumption) : Kept K s0 (State.dumpCtlWrite s v) := by
  unfold State.dumpCtlWrite
  repeat' (first
    | with_reducible assumption | with_reducible apply ite_kept | with_reducible apply ite_fst_kept | with_reducible apply State.wrRW_kept
    | with_reducible apply State.dumpReq_kept | extract_lets | dsimp only | split)

theorem execCounterDump_kept {K : Keep} {s0 : State} (ag : Agent) (v : Word) (s : State) (hs : Kept K s0 s) (kirq : K.irq = false := by assumption) (kcyc : K.cyc = false := by assumption) (kmsi : K.msi = false := by assumption) (kshu : K.shu = false := by assumption) (kpmc : K.pmc = false := by assumption) : KeptO K s0 (execCounterDump ag v s) := by
  unfold execCounterDump
  repeat' (first
    | with_reducible assumption | intro _ | with_reducible apply next_kept | with_reducible apply State.bus_kept
    | with_reducible apply State.dumpCtlWrite_kept | dsimp only)

theorem execDumpImageWritten_kept {K : Keep} {s0 : State} (s : State) (hs : Kept K s0 s) (kddr : K.ddr = false := by assumption) (kirq : K.irq = false := by assumption) (kcyc : K.cyc = false := by assumption) (kmsi : K.msi = false := by assumption) (kshu : K.shu = false := by assumption) (kpmc : K.pmc = false := by assumption) : KeptO K s0 (execDumpImageWritten s) := by
  unfold execDumpImageWritten
  repeat' (first
    | with_reducible assumption | intro _ | with_reducible apply next_kept | with_reducible apply ite_kept | with_reducible apply ite_fst_kept
    | with_reducible apply State.updPmc_kept | with_reducible apply State.dumpSkip_kept | with_reducible apply State.ddrWrsLive_kept
    | with_reducible apply State.wr_kept | with_reducible apply State.p_kept | with_reducible apply State.ev_kept | extract_lets | dsimp only | split
    | dsimp +zetaDelta only)

theorem State.tagRecord_kept {K : Keep} {s0 : State} (s : State) (k : Nat) (r : List Word) (hs : Kept K s0 s) (kirq : K.irq = false := by assumption) (kcyc : K.cyc = false := by assumption) (kmsi : K.msi = false := by assumption) (kshu : K.shu = false := by assumption) (kblt : K.blt = false := by assumption) (kpmc : K.pmc = false := by assumption) : Kept K s0 (State.tagRecord s k r) := by
  unfold State.tagRecord
  repeat' (first
    | with_reducible assumption | intro _ | with_reducible apply ite_kept | with_reducible apply ite_fst_kept | with_reducible apply State.updPmc_kept
    | with_reducible apply State.perf_kept | with_reducible apply State.ev_kept | with_reducible apply State.boltEvent_kept | extract_lets | dsimp only
    | split)

theorem State.tagLate_kept {K : Keep} {s0 : State} (s : State) (k : Nat) (hs : Kept K s0 s) (kcyc : K.cyc = false := by assumption) (kpmc : K.pmc = false := by assumption) : Kept K s0 (State.tagLate s k) := by
  unfold State.tagLate
  repeat' (first
    | with_reducible assumption | intro _ | with_reducible apply State.updPmc_kept | with_reducible apply State.updCyc_kept
    | with_reducible apply State.wr64_kept | extract_lets | dsimp only | split | dsimp +zetaDelta only)

theorem execTagComplete_kept {K : Keep} {s0 : State} (k : Fin 16) (ready : Nat) (latency : Nat) (s : State) (hs : Kept K s0 s) (kirq : K.irq = false := by assumption) (kcyc : K.cyc = false := by assumption) (kmsi : K.msi = false := by assumption) (kshu : K.shu = false := by assumption) (kblt : K.blt = false := by assumption) (kpmc : K.pmc = false := by assumption) : KeptO K s0 (execTagComplete k ready latency s) := by
  unfold execTagComplete
  repeat' (first
    | with_reducible assumption | with_reducible apply next_kept | with_reducible apply State.tagRecord_kept | with_reducible apply State.tagLate_kept
    | split | dsimp +zetaDelta only)

theorem execTagFifoPop_kept {K : Keep} {s0 : State} (ag : Agent) (k : Fin 16) (s : State) (hs : Kept K s0 s) (kagents : K.agents = false := by assumption) (kirq : K.irq = false := by assumption) (kcyc : K.cyc = false := by assumption) (kmsi : K.msi = false := by assumption) (kshu : K.shu = false := by assumption) (kpmc : K.pmc = false := by assumption) : KeptO K s0 (execTagFifoPop ag k s) := by
  unfold execTagFifoPop
  repeat' (first
    | with_reducible assumption | intro _ | with_reducible apply next_kept | with_reducible apply State.busRd_kept
    | with_reducible apply State.updPmc_kept | dsimp only)

theorem State.bwEnd_kept {K : Keep} {s0 : State} (s : State) (c : Nat) (hs : Kept K s0 s) (kpmc : K.pmc = false := by assumption) : Kept K s0 (State.bwEnd s c) := by
  unfold State.bwEnd
  repeat' (first
    | with_reducible assumption | intro _ | with_reducible apply State.wr64_kept | with_reducible apply State.when_kept
    | with_reducible apply State.p_kept | with_reducible apply State.updPmc_kept | extract_lets | dsimp only)

theorem execBwWindowEnd_kept {K : Keep} {s0 : State} (c : Fin 64) (s : State) (hs : Kept K s0 s) (kpmc : K.pmc = false := by assumption) : KeptO K s0 (execBwWindowEnd c s) := by
  unfold execBwWindowEnd
  repeat' (first
    | with_reducible assumption | intro _ | with_reducible apply next_kept | with_reducible apply State.when_kept | with_reducible apply State.bwEnd_kept
    | extract_lets | dsimp only)

theorem State.bwCtlWrite_kept {K : Keep} {s0 : State} (s : State) (c : Nat) (v : Word) (hs : Kept K s0 s) (kpmc : K.pmc = false := by assumption) : Kept K s0 (State.bwCtlWrite s c v) := by
  unfold State.bwCtlWrite
  repeat' (first
    | with_reducible assumption | intro _ | with_reducible apply ite_kept | with_reducible apply ite_fst_kept | with_reducible apply State.wrRW_kept
    | with_reducible apply State.updPmc_kept | extract_lets | dsimp only | split)

end Sys2Proof.Machine
end

