-- ==== Sys2Proof/Laws/Kept/ClockOps.lean ====
section
/-! SUPPORT. What the operations and meanings of Machine/ClockOps.lean keep: the queue, the clock, the canonical forms, and every
component of the state that they have no business with. -/
namespace Sys2Proof.Machine

set_option linter.all false

theorem State.updTim_kept {K : Keep} {s0 : State} (s : State) (f : Tim → Tim) (hf : ∀ d, Time.wf d = true → Time.wf (f d) = true) (h : Kept K s0 s) (ktim : K.tim = false := by assumption) :
    Kept K s0 (State.updTim s f) :=
  { h with
    tim := fun e => absurd (ktim.symm.trans e) (by decide)
    sound := fun e => ⟨(h.sound e).ddr, (h.sound e).regs, hf _ (h.sound e).time⟩ }

theorem State.servoState_kept {K : Keep} {s0 : State} (s : State) (n : Nat) (hs : Kept K s0 s) (kirq : K.irq = false := by assumption) (kcyc : K.cyc = false := by assumption) (kmsi : K.msi = false := by assumption) (ktim : K.tim = false := by assumption) (kshu : K.shu = false := by assumption) : Kept K s0 (State.servoState s n) := by
  unfold State.servoState
  repeat' (first
    | with_reducible assumption | intro _ | with_reducible apply ite_kept | with_reducible apply ite_fst_kept | with_reducible apply State.p_kept
    | with_reducible apply State.when_kept | with_reducible apply State.updTim_kept | with_reducible apply State.ev_kept | extract_lets | dsimp only
    | split | (show Time.wf _ = true; assumption))

theorem State.servoHold_kept {K : Keep} {s0 : State} (s : State) (hs : Kept K s0 s) (kirq : K.irq = false := by assumption) (kcyc : K.cyc = false := by assumption) (kmsi : K.msi = false := by assumption) (ktim : K.tim = false := by assumption) (kshu : K.shu = false := by assumption) : Kept K s0 (State.servoHold s) := by
  unfold State.servoHold
  repeat' (first
    | with_reducible assumption | intro _ | with_reducible apply State.wr_kept | with_reducible apply State.updTim_kept
    | with_reducible apply State.servoState_kept | extract_lets | dsimp only | (show Time.wf _ = true; assumption))

theorem State.updTmp_kept {K : Keep} {s0 : State} (s : State) (f : Tmp → Tmp) (hs : Kept K s0 s) (ktmp : K.tmp = false := by assumption) : Kept K s0 (State.updTmp s f) := by
  unfold State.updTmp
  repeat' (first
    | with_reducible assumption | with_reducible apply Kept.upd_tmp)

theorem State.updHsl_kept {K : Keep} {s0 : State} (s : State) (l : Nat) (f : Hsl → Hsl) (hs : Kept K s0 s) (khsl : K.hsl = false := by assumption) : Kept K s0 (State.updHsl s l f) := by
  unfold State.updHsl
  repeat' (first
    | with_reducible assumption | with_reducible apply Kept.upd_hsl)

theorem State.lpiRxEnd_kept {K : Keep} {s0 : State} (s : State) (p : Nat) (hs : Kept K s0 s) (khsl : K.hsl = false := by assumption) : Kept K s0 (State.lpiRxEnd s p) := by
  unfold State.lpiRxEnd
  repeat' (first
    | with_reducible assumption | intro _ | with_reducible apply State.add_kept | with_reducible apply State.updHsl_kept | dsimp only | split
    | dsimp +zetaDelta only)

theorem State.setLanes_kept {K : Keep} {s0 : State} (s : State) (p : Nat) (st : Nat) (hs : Kept K s0 s) : Kept K s0 (State.setLanes s p st) := by
  unfold State.setLanes
  repeat' (first
    | with_reducible assumption | intro _ | with_reducible apply iter_kept | with_reducible apply ite_kept | with_reducible apply ite_fst_kept
    | with_reducible apply State.p_kept | dsimp only | split)

theorem State.srEnter_kept {K : Keep} {s0 : State} (s : State) (hs : Kept K s0 s) (kirq : K.irq = false := by assumption) (kcyc : K.cyc = false := by assumption) (kmsi : K.msi = false := by assumption) (kshu : K.shu = false := by assumption) (kblt : K.blt = false := by assumption) : Kept K s0 (State.srEnter s) := by
  unfold State.srEnter
  repeat' (first
    | with_reducible assumption | intro _ | with_reducible apply ite_kept | with_reducible apply ite_fst_kept | with_reducible apply foldl_kept
    | with_reducible apply foldl_fst_kept | with_reducible apply foldl_snd_kept | with_reducible apply State.p_kept | with_reducible apply State.ev_kept
    | with_reducible apply State.boltDown_kept | extract_lets | dsimp only | split)

theorem State.srCoast_kept {K : Keep} {s0 : State} (s : State) (hs : Kept K s0 s) (kirq : K.irq = false := by assumption) (kcyc : K.cyc = false := by assumption) (kmsi : K.msi = false := by assumption) (ktmp : K.tmp = false := by assumption) (kshu : K.shu = false := by assumption) (kblt : K.blt = false := by assumption) : Kept K s0 (State.srCoast s) := by
  unfold State.srCoast
  repeat' (first
    | with_reducible assumption | with_reducible apply ite_kept | with_reducible apply ite_fst_kept | with_reducible apply State.srEnter_kept | split
    | with_reducible apply Kept.upd_tmp)

theorem State.srLeave_kept {K : Keep} {s0 : State} (s : State) (hs : Kept K s0 s) (kirq : K.irq = false := by assumption) (kcyc : K.cyc = false := by assumption) (kmsi : K.msi = false := by assumption) (kshu : K.shu = false := by assumption) : Kept K s0 (State.srLeave s) := by
  unfold State.srLeave
  repeat' (first
    | with_reducible assumption | intro _ | with_reducible apply ite_kept | with_reducible apply ite_fst_kept | with_reducible apply foldl_kept
    | with_reducible apply foldl_fst_kept | with_reducible apply foldl_snd_kept | with_reducible apply State.p_kept | with_reducible apply State.ev_kept
    | extract_lets | dsimp only | split)

theorem State.refTake_kept {K : Keep} {s0 : State} (s : State) (x : Nat) (hs : Kept K s0 s) (kirq : K.irq = false := by assumption) (kcyc : K.cyc = false := by assumption) (kmsi : K.msi = false := by assumption) (kshu : K.shu = false := by assumption) : Kept K s0 (State.refTake s x) := by
  unfold State.refTake
  repeat' (first
    | with_reducible assumption | intro _ | with_reducible apply State.p_kept | with_reducible apply State.when_kept
    | with_reducible apply State.inc_kept | with_reducible apply State.ev_kept | extract_lets | dsimp only)

theorem State.pllCoast_kept {K : Keep} {s0 : State} (s : State) (p : Nat) (hs : Kept K s0 s) (kfresh : K.fresh = false := by assumption) : Kept K s0 (State.pllCoast s p) := by
  unfold State.pllCoast
  repeat' (first
    | with_reducible assumption | with_reducible apply State.drawNat_kept | with_reducible apply State.wr_kept | extract_lets | dsimp only)

theorem State.fault_kept {K : Keep} {s0 : State} (s : State) (e : Fev) (hs : Kept K s0 s) (kcyc : K.cyc = false := by assumption) : Kept K s0 (State.fault s e) := by
  unfold State.fault
  repeat' (first
    | with_reducible assumption | intro _ | with_reducible apply State.updCyc_kept | dsimp only)

theorem State.faultLive_kept {K : Keep} {s0 : State} (s : State) (k : Nat) (hs : Kept K s0 s) (kcyc : K.cyc = false := by assumption) : Kept K s0 (State.faultLive s k) := by
  unfold State.faultLive
  repeat' (first
    | with_reducible assumption | with_reducible apply State.fault_kept)

theorem State.coastEnter_kept {K : Keep} {s0 : State} (s : State) (hs : Kept K s0 s) (kfresh : K.fresh = false := by assumption) (kirq : K.irq = false := by assumption) (kcyc : K.cyc = false := by assumption) (kmsi : K.msi = false := by assumption) (ktmp : K.tmp = false := by assumption) (ktim : K.tim = false := by assumption) (kshu : K.shu = false := by assumption) (kblt : K.blt = false := by assumption) (khsl : K.hsl = false := by assumption) : Kept K s0 (State.coastEnter s) := by
  unfold State.coastEnter
  repeat' (first
    | with_reducible assumption | intro _ | with_reducible apply iter_kept | with_reducible apply ite_kept | with_reducible apply ite_fst_kept
    | with_reducible apply foldl_kept | with_reducible apply foldl_fst_kept | with_reducible apply foldl_snd_kept
    | with_reducible apply State.pllCoast_kept | with_reducible apply State.p_kept | with_reducible apply State.ev_kept
    | with_reducible apply State.inc_kept | with_reducible apply State.faultLive_kept | with_reducible apply State.todDrop_kept
    | with_reducible apply State.when_kept | with_reducible apply State.servoHold_kept | with_reducible apply State.lpiTxEnd_kept
    | with_reducible apply State.lpiRxEnd_kept | with_reducible apply State.setLanes_kept | with_reducible apply State.srCoast_kept | extract_lets
    | dsimp only | split)

theorem State.refSelect_kept {K : Keep} {s0 : State} (s : State) (hs : Kept K s0 s) (kfresh : K.fresh = false := by assumption) (kirq : K.irq = false := by assumption) (kcyc : K.cyc = false := by assumption) (kmsi : K.msi = false := by assumption) (ktmp : K.tmp = false := by assumption) (ktim : K.tim = false := by assumption) (kshu : K.shu = false := by assumption) (kblt : K.blt = false := by assumption) (khsl : K.hsl = false := by assumption) : Kept K s0 (State.refSelect s) := by
  unfold State.refSelect
  repeat' (first
    | with_reducible assumption | intro _ | with_reducible apply ite_kept | with_reducible apply ite_fst_kept | with_reducible apply State.refTake_kept
    | with_reducible apply State.when_kept | with_reducible apply State.pllCoast_kept | with_reducible apply State.coastEnter_kept | extract_lets
    | dsimp only | split)

theorem State.refGone_kept {K : Keep} {s0 : State} (s : State) (x : Nat) (hs : Kept K s0 s) (kirq : K.irq = false := by assumption) (kcyc : K.cyc = false := by assumption) (kmsi : K.msi = false := by assumption) (ktmp : K.tmp = false := by assumption) (kshu : K.shu = false := by assumption) : Kept K s0 (State.refGone s x) := by
  unfold State.refGone
  repeat' (first
    | with_reducible assumption | intro _ | with_reducible apply State.p_kept | with_reducible apply State.updTmp_kept
    | with_reducible apply State.wr_kept | with_reducible apply State.when_kept | with_reducible apply State.ev_kept | extract_lets | dsimp only)

theorem State.recCheck_kept {K : Keep} {s0 : State} (s : State) (hs : Kept K s0 s) (kfresh : K.fresh = false := by assumption) (kirq : K.irq = false := by assumption) (kcyc : K.cyc = false := by assumption) (kmsi : K.msi = false := by assumption) (ktmp : K.tmp = false := by assumption) (ktim : K.tim = false := by assumption) (kshu : K.shu = false := by assumption) (kblt : K.blt = false := by assumption) (khsl : K.hsl = false := by assumption) : Kept K s0 (State.recCheck s) := by
  unfold State.recCheck
  repeat' (first
    | with_reducible assumption | with_reducible apply ite_kept | with_reducible apply ite_fst_kept | with_reducible apply State.refGone_kept
    | with_reducible apply State.refSelect_kept | split)

theorem State.setPort_kept {K : Keep} {s0 : State} (s : State) (p : Nat) (st : Nat) (hs : Kept K s0 s) (kfresh : K.fresh = false := by assumption) (kirq : K.irq = false := by assumption) (kcyc : K.cyc = false := by assumption) (kmsi : K.msi = false := by assumption) (ktmp : K.tmp = false := by assumption) (ktim : K.tim = false := by assumption) (kshu : K.shu = false := by assumption) (kblt : K.blt = false := by assumption) (khsl : K.hsl = false := by assumption) : Kept K s0 (State.setPort s p st) := by
  unfold State.setPort
  repeat' (first
    | with_reducible assumption | with_reducible apply State.lpiTxEnd_kept | with_reducible apply State.lpiRxEnd_kept
    | with_reducible apply State.setLanes_kept | with_reducible apply State.recCheck_kept)

end Sys2Proof.Machine
end

