-- ==== Sys2Proof/Laws/Kept/SafeOps.lean ====
section
/-! SUPPORT. What the operations and meanings of Machine/SafeOps.lean keep: the queue, the clock, the canonical forms, and every
component of the state that they have no business with. -/
namespace Sys2Proof.Machine

set_option linter.all false

theorem State.blankPort_kept {K : Keep} {s0 : State} (s : State) (p : Nat) (hs : Kept K s0 s) (khsl : K.hsl = false := by assumption) : Kept K s0 (State.blankPort s p) := by
  unfold State.blankPort
  repeat' (first
    | with_reducible assumption | intro _ | with_reducible apply iter_kept | with_reducible apply State.updHsl_kept | dsimp only)

theorem State.alertEvt_kept {K : Keep} {s0 : State} (s : State) (hs : Kept K s0 s) (kirq : K.irq = false := by assumption) (kcyc : K.cyc = false := by assumption) (kmsi : K.msi = false := by assumption) (kshu : K.shu = false := by assumption) : Kept K s0 (State.alertEvt s) := by
  unfold State.alertEvt
  repeat' (first
    | with_reducible assumption | with_reducible apply State.ev_kept)

theorem State.muteNow_kept {K : Keep} {s0 : State} (s : State) (hs : Kept K s0 s) (kpch : K.pch = false := by assumption) (ktmp : K.tmp = false := by assumption) : Kept K s0 (State.muteNow s) := by
  unfold State.muteNow
  repeat' (first
    | with_reducible assumption | intro _ | with_reducible apply iter_kept | with_reducible apply State.updPch_kept
    | with_reducible apply State.updTmp_kept | dsimp only)

theorem State.setCause_kept {K : Keep} {s0 : State} (s : State) (k : Nat) (b : Bool) (hs : Kept K s0 s) (ktmp : K.tmp = false := by assumption) : Kept K s0 (State.setCause s k b) := by
  unfold State.setCause
  repeat' (first
    | with_reducible assumption | intro _ | with_reducible apply State.wr_kept | with_reducible apply State.when_kept
    | with_reducible apply State.updTmp_kept | dsimp only)

theorem State.updSlv_kept {K : Keep} {s0 : State} (s : State) (f : Slv → Slv) (hs : Kept K s0 s) (kslv : K.slv = false := by assumption) : Kept K s0 (State.updSlv s f) := by
  unfold State.updSlv
  repeat' (first
    | with_reducible assumption | with_reducible apply Kept.upd_slv)

theorem State.protEnter_kept {K : Keep} {s0 : State} (s : State) (st : Nat) (hs : Kept K s0 s) (kslv : K.slv = false := by assumption) : Kept K s0 (State.protEnter s st) := by
  unfold State.protEnter
  repeat' (first
    | with_reducible assumption | intro _ | with_reducible apply ite_kept | with_reducible apply ite_fst_kept | with_reducible apply State.p_kept
    | with_reducible apply State.updSlv_kept | extract_lets | dsimp only | split)

theorem State.holdEnter_kept {K : Keep} {s0 : State} (s : State) (c : Nat) (hs : Kept K s0 s) (kpch : K.pch = false := by assumption) : Kept K s0 (State.holdEnter s c) := by
  unfold State.holdEnter
  repeat' (first
    | with_reducible assumption | intro _ | with_reducible apply ite_kept | with_reducible apply ite_fst_kept | with_reducible apply State.updPch_kept
    | with_reducible apply State.overRegs_kept | with_reducible apply State.wr_kept | extract_lets | dsimp only | split)

theorem State.giveUp_kept {K : Keep} {s0 : State} (s : State) (c : Nat) (hs : Kept K s0 s) (kcyc : K.cyc = false := by assumption) (kpch : K.pch = false := by assumption) (kshd : K.shd = false := by assumption) (ktmg : K.tmg = false := by assumption) : Kept K s0 (State.giveUp s c) := by
  unfold State.giveUp
  repeat' (first
    | with_reducible assumption | intro _ | with_reducible apply State.updPch_kept | with_reducible apply State.actDisable_kept | dsimp only)

theorem State.relinquish_kept {K : Keep} {s0 : State} (s : State) (hs : Kept K s0 s) (kcyc : K.cyc = false := by assumption) (kpch : K.pch = false := by assumption) (kshd : K.shd = false := by assumption) (kslv : K.slv = false := by assumption) (ktmg : K.tmg = false := by assumption) : Kept K s0 (State.relinquish s) := by
  unfold State.relinquish
  repeat' (first
    | with_reducible assumption | intro _ | with_reducible apply iter_kept | with_reducible apply ite_kept | with_reducible apply ite_fst_kept
    | with_reducible apply State.protEnter_kept | with_reducible apply State.p_kept | with_reducible apply State.giveUp_kept | extract_lets | dsimp only
    | split)

theorem State.safeEnter_kept {K : Keep} {s0 : State} (s : State) (k : Nat) (hs : Kept K s0 s) (kfresh : K.fresh = false := by assumption) (kirq : K.irq = false := by assumption) (kcyc : K.cyc = false := by assumption) (kmsi : K.msi = false := by assumption) (kpch : K.pch = false := by assumption) (kshd : K.shd = false := by assumption) (ktmp : K.tmp = false := by assumption) (ktim : K.tim = false := by assumption) (kshu : K.shu = false := by assumption) (kblt : K.blt = false := by assumption) (kslv : K.slv = false := by assumption) (ktmg : K.tmg = false := by assumption) (khsl : K.hsl = false := by assumption) : Kept K s0 (State.safeEnter s k) := by
  unfold State.safeEnter
  repeat' (first
    | with_reducible assumption | intro _ | with_reducible apply iter_kept | with_reducible apply ite_kept | with_reducible apply ite_fst_kept
    | with_reducible apply foldl_kept | with_reducible apply foldl_fst_kept | with_reducible apply foldl_snd_kept
    | with_reducible apply State.setCause_kept | with_reducible apply State.when_kept | with_reducible apply State.p_kept
    | with_reducible apply State.inc_kept | with_reducible apply State.ev_kept | with_reducible apply State.clearHints_kept
    | with_reducible apply State.muteNow_kept | with_reducible apply State.alertEvt_kept | with_reducible apply State.setPort_kept
    | with_reducible apply State.boltEvent_kept | with_reducible apply State.relinquish_kept | extract_lets | dsimp only | split)

theorem State.draw256_kept {K : Keep} {s0 : State} (s : State) (h : Kept K s0 s) (kfresh : K.fresh = false := by assumption) : Kept K s0 (State.draw256 s).2 := by
  unfold State.draw256
  simp only [iter]
  repeat' (first
    | with_reducible assumption
    | with_reducible apply State.draw_kept)

theorem State.unerase_kept {K : Keep} {s0 : State} (s : State) (hs : Kept K s0 s) (kfresh : K.fresh = false := by assumption) (kcry : K.cry = false := by assumption) : Kept K s0 (State.unerase s) := by
  unfold State.unerase
  repeat' (first
    | with_reducible assumption | intro _ | with_reducible apply ite_kept | with_reducible apply ite_fst_kept | with_reducible apply State.draw256_kept
    | with_reducible apply State.updCry_kept | with_reducible apply State.p_kept | extract_lets | dsimp only | split)

theorem State.safeExit_kept {K : Keep} {s0 : State} (s : State) (auto : Bool) (hs : Kept K s0 s) (kfresh : K.fresh = false := by assumption) (kirq : K.irq = false := by assumption) (kcyc : K.cyc = false := by assumption) (kmsi : K.msi = false := by assumption) (kpch : K.pch = false := by assumption) (krng : K.rng = false := by assumption) (kshd : K.shd = false := by assumption) (ktmp : K.tmp = false := by assumption) (kdrf : K.drf = false := by assumption) (ktim : K.tim = false := by assumption) (kshu : K.shu = false := by assumption) (kblt : K.blt = false := by assumption) (kcry : K.cry = false := by assumption) (khsl : K.hsl = false := by assumption) : Kept K s0 (State.safeExit s auto) := by
  unfold State.safeExit
  repeat' (first
    | with_reducible assumption | intro _ | with_reducible apply iter_kept | with_reducible apply ite_kept | with_reducible apply ite_fst_kept
    | with_reducible apply foldl_kept | with_reducible apply foldl_fst_kept | with_reducible apply foldl_snd_kept | with_reducible apply State.p_kept
    | with_reducible apply State.updTmp_kept | with_reducible apply State.updPch_kept | with_reducible apply State.shedRestart_kept
    | with_reducible apply State.setPort_kept | with_reducible apply State.unerase_kept | with_reducible apply State.tryStart_kept
    | with_reducible apply State.ev_kept | with_reducible apply State.boltEvent_kept | extract_lets | dsimp only | split
    | with_reducible apply Kept.upd_drf)

theorem State.faultLog_kept {K : Keep} {s0 : State} (s : State) (inj : Bool) (outcome : Nat) (run : Nat) (k : Nat) (u : Nat) (trans : Nat) (hs : Kept K s0 s) (kirq : K.irq = false := by assumption) (kcyc : K.cyc = false := by assumption) (kmsi : K.msi = false := by assumption) (ktmp : K.tmp = false := by assumption) (kshu : K.shu = false := by assumption) : Kept K s0 (State.faultLog s inj outcome run k u trans) := by
  unfold State.faultLog
  repeat' (first
    | with_reducible assumption | intro _ | with_reducible apply ite_kept | with_reducible apply ite_fst_kept | with_reducible apply State.updTmp_kept
    | with_reducible apply State.when_kept | with_reducible apply State.ev_kept | extract_lets | dsimp only | split)

theorem State.actMute_kept {K : Keep} {s0 : State} (s : State) (k : Nat) (hs : Kept K s0 s) (kpch : K.pch = false := by assumption) (ktmp : K.tmp = false := by assumption) : Kept K s0 (State.actMute s k) := by
  unfold State.actMute
  repeat' (first
    | with_reducible assumption | intro _ | with_reducible apply State.when_kept | with_reducible apply State.muteNow_kept | dsimp only)

theorem State.actEnter_kept {K : Keep} {s0 : State} (s : State) (k : Nat) (hs : Kept K s0 s) (kfresh : K.fresh = false := by assumption) (kirq : K.irq = false := by assumption) (kcyc : K.cyc = false := by assumption) (kmsi : K.msi = false := by assumption) (kpch : K.pch = false := by assumption) (kshd : K.shd = false := by assumption) (ktmp : K.tmp = false := by assumption) (ktim : K.tim = false := by assumption) (kshu : K.shu = false := by assumption) (kblt : K.blt = false := by assumption) (kslv : K.slv = false := by assumption) (ktmg : K.tmg = false := by assumption) (khsl : K.hsl = false := by assumption) : Kept K s0 (State.actEnter s k) := by
  unfold State.actEnter
  repeat' (first
    | with_reducible assumption | intro _ | with_reducible apply State.when_kept | with_reducible apply State.safeEnter_kept | dsimp only)

theorem State.actAlert_kept {K : Keep} {s0 : State} (s : State) (k : Nat) (hs : Kept K s0 s) (kirq : K.irq = false := by assumption) (kcyc : K.cyc = false := by assumption) (kmsi : K.msi = false := by assumption) (kshu : K.shu = false := by assumption) : Kept K s0 (State.actAlert s k) := by
  unfold State.actAlert
  repeat' (first
    | with_reducible assumption | intro _ | with_reducible apply State.when_kept | with_reducible apply State.alertEvt_kept
    | with_reducible apply State.askFreeze_kept | extract_lets | dsimp only)

theorem State.retireMark_kept {K : Keep} {s0 : State} (s : State) (u : Nat) (hs : Kept K s0 s) (kirq : K.irq = false := by assumption) (kcyc : K.cyc = false := by assumption) (kmsi : K.msi = false := by assumption) (kshu : K.shu = false := by assumption) (kblt : K.blt = false := by assumption) : Kept K s0 (State.retireMark s u) := by
  unfold State.retireMark
  repeat' (first
    | with_reducible assumption | with_reducible apply State.p_kept | with_reducible apply State.inc_kept | with_reducible apply State.ev_kept
    | with_reducible apply State.boltEvent_kept)

theorem State.chanRetire_kept {K : Keep} {s0 : State} (s : State) (c : Nat) (hs : Kept K s0 s) (kirq : K.irq = false := by assumption) (kcyc : K.cyc = false := by assumption) (kmsi : K.msi = false := by assumption) (kpch : K.pch = false := by assumption) (kshd : K.shd = false := by assumption) (kledger : K.ledger = false := by assumption) (kshu : K.shu = false := by assumption) (kblt : K.blt = false := by assumption) (ktmg : K.tmg = false := by assumption) : Kept K s0 (State.chanRetire s c) := by
  unfold State.chanRetire
  repeat' (first
    | with_reducible assumption | with_reducible apply ite_kept | with_reducible apply ite_fst_kept | with_reducible apply State.retireMark_kept
    | with_reducible apply State.retireChannel_kept | split)

end Sys2Proof.Machine
end

