-- ==== Sys2Proof/Laws/Kept/Crypto.lean ====
section
/-! SUPPORT. What the operations and meanings of Machine/Crypto.lean keep: the queue, the clock, the canonical forms, and every
component of the state that they have no business with. -/
namespace Sys2Proof.Machine

set_option linter.all false

theorem State.blobWrite_kept {K : Keep} {s0 : State} (s : State) (ag : Nat) (v : Word) (hs : Kept K s0 s) (kirq : K.irq = false := by assumption) (kcyc : K.cyc = false := by assumption) (kmsi : K.msi = false := by assumption) (kshu : K.shu = false := by assumption) (kcry : K.cry = false := by assumption) : Kept K s0 (State.blobWrite s ag v) := by
  unfold State.blobWrite
  repeat' (first
    | with_reducible assumption | intro _ | with_reducible apply ite_kept | with_reducible apply ite_fst_kept | with_reducible apply State.ev_kept
    | with_reducible apply State.p_kept | with_reducible apply State.updCry_kept | extract_lets | dsimp only | split)

theorem execBlobUnwrap_kept {K : Keep} {s0 : State} (ag : Agent) (v : Word) (s : State) (hs : Kept K s0 s) (kirq : K.irq = false := by assumption) (kcyc : K.cyc = false := by assumption) (kmsi : K.msi = false := by assumption) (kshu : K.shu = false := by assumption) (kcry : K.cry = false := by assumption) : KeptO K s0 (execBlobUnwrap ag v s) := by
  unfold execBlobUnwrap
  repeat' (first
    | with_reducible assumption | intro _ | with_reducible apply next_kept | with_reducible apply State.bus_kept
    | with_reducible apply State.blobWrite_kept | dsimp only)

theorem State.slotLoad_kept {K : Keep} {s0 : State} (s : State) (n : Nat) (type : Nat) (wrapper : Nat) (key : BitVec 256) (hs : Kept K s0 s) (kcyc : K.cyc = false := by assumption) (kcry : K.cry = false := by assumption) : Kept K s0 (State.slotLoad s n type wrapper key) := by
  unfold State.slotLoad
  repeat' (first
    | with_reducible assumption | intro _ | with_reducible apply State.updCyc_kept | with_reducible apply State.wr_kept
    | with_reducible apply State.updCry_kept | extract_lets | dsimp only)

theorem State.blobLoad_kept {K : Keep} {s0 : State} (s : State) (b : List Byte) (p : List Byte) (hs : Kept K s0 s) (kcyc : K.cyc = false := by assumption) (kcry : K.cry = false := by assumption) : Kept K s0 (State.blobLoad s b p) := by
  unfold State.blobLoad
  repeat' (first
    | with_reducible assumption | intro _ | with_reducible apply iter_kept | with_reducible apply ite_kept | with_reducible apply ite_fst_kept
    | with_reducible apply State.slotLoad_kept | extract_lets | dsimp only | split | dsimp +zetaDelta only)

theorem State.putSeal_kept {K : Keep} {s0 : State} (s : State) (i : Nat) (q : Option Seal) (hs : Kept K s0 s) (kcry : K.cry = false := by assumption) : Kept K s0 (State.putSeal s i q) := by
  unfold State.putSeal
  repeat' (first
    | with_reducible assumption | intro _ | with_reducible apply State.updCry_kept | dsimp only)

theorem State.sealEnd_kept {K : Keep} {s0 : State} (s : State) (i : Nat) (hs : Kept K s0 s) (kcry : K.cry = false := by assumption) : Kept K s0 (State.sealEnd s i) := by
  unfold State.sealEnd
  repeat' (first
    | with_reducible assumption | with_reducible apply State.putSeal_kept | with_reducible apply State.p_kept)

theorem State.sealAbandon_kept {K : Keep} {s0 : State} (s : State) (i : Nat) (hs : Kept K s0 s) (kirq : K.irq = false := by assumption) (kcyc : K.cyc = false := by assumption) (kmsi : K.msi = false := by assumption) (kshu : K.shu = false := by assumption) (kcry : K.cry = false := by assumption) : Kept K s0 (State.sealAbandon s i) := by
  unfold State.sealAbandon
  repeat' (first
    | with_reducible assumption | with_reducible apply State.sealEnd_kept | with_reducible apply State.ev_kept)

theorem State.sealedSet_kept {K : Keep} {s0 : State} (s : State) (i : Nat) (idx : Nat) (action : Nat) (sf : Nat) (hs : Kept K s0 s) (kirq : K.irq = false := by assumption) (kcyc : K.cyc = false := by assumption) (kmsi : K.msi = false := by assumption) (kpch : K.pch = false := by assumption) (kshu : K.shu = false := by assumption) : Kept K s0 (State.sealedSet s i idx action sf) := by
  unfold State.sealedSet
  repeat' (first
    | with_reducible assumption | with_reducible apply State.ploamSend_kept)

theorem State.sealAnnounce_kept {K : Keep} {s0 : State} (s : State) (i : Nat) (q : Seal) (hs : Kept K s0 s) (kirq : K.irq = false := by assumption) (kcyc : K.cyc = false := by assumption) (kmsi : K.msi = false := by assumption) (kpch : K.pch = false := by assumption) (kshu : K.shu = false := by assumption) (kcry : K.cry = false := by assumption) : Kept K s0 (State.sealAnnounce s i q) := by
  unfold State.sealAnnounce
  repeat' (first
    | with_reducible assumption | with_reducible apply State.putSeal_kept | with_reducible apply State.sealedSet_kept | extract_lets | dsimp only)

theorem State.sealReq_kept {K : Keep} {s0 : State} (s : State) (i : Nat) (hs : Kept K s0 s) (kirq : K.irq = false := by assumption) (kcyc : K.cyc = false := by assumption) (kmsi : K.msi = false := by assumption) (kpch : K.pch = false := by assumption) (kshu : K.shu = false := by assumption) (kcry : K.cry = false := by assumption) : Kept K s0 (State.sealReq s i) := by
  unfold State.sealReq
  repeat' (first
    | with_reducible assumption | with_reducible apply ite_kept | with_reducible apply ite_fst_kept | with_reducible apply State.p_kept
    | with_reducible apply State.sealAnnounce_kept | with_reducible apply State.putSeal_kept | with_reducible apply State.sealedSet_kept | extract_lets
    | dsimp only | split)

theorem State.cryOnuWrite_kept {K : Keep} {s0 : State} (s : State) (i : Nat) (v : Word) (hs : Kept K s0 s) (kirq : K.irq = false := by assumption) (kcyc : K.cyc = false := by assumption) (kmsi : K.msi = false := by assumption) (kpch : K.pch = false := by assumption) (kshu : K.shu = false := by assumption) (kcry : K.cry = false := by assumption) : Kept K s0 (State.cryOnuWrite s i v) := by
  unfold State.cryOnuWrite
  repeat' (first
    | with_reducible assumption | with_reducible apply ite_kept | with_reducible apply ite_fst_kept | with_reducible apply State.wrRW_kept
    | with_reducible apply State.sealReq_kept | extract_lets | dsimp only | split)

theorem execSealReq_kept {K : Keep} {s0 : State} (ag : Agent) (c : Fin 64) (i : Fin 256) (v : Word) (s : State) (hs : Kept K s0 s) (kirq : K.irq = false := by assumption) (kcyc : K.cyc = false := by assumption) (kmsi : K.msi = false := by assumption) (kpch : K.pch = false := by assumption) (kshu : K.shu = false := by assumption) (kcry : K.cry = false := by assumption) : KeptO K s0 (execSealReq ag c i v s) := by
  unfold execSealReq
  repeat' (first
    | with_reducible assumption | intro _ | with_reducible apply next_kept | with_reducible apply State.bus_kept
    | with_reducible apply State.cryOnuWrite_kept | dsimp only)

theorem execSealedKey_kept {K : Keep} {s0 : State} (c : Fin 64) (slot : Fin 256) (part : Fin 2) (idx : Fin 256) (data : List Byte) (s : State) (hs : Kept K s0 s) (kcry : K.cry = false := by assumption) : KeptO K s0 (execSealedKey c slot part idx data s) := by
  unfold execSealedKey
  repeat' (first
    | with_reducible assumption | intro _ | with_reducible apply next_kept | with_reducible apply ite_kept | with_reducible apply ite_fst_kept
    | with_reducible apply State.putSeal_kept | with_reducible apply State.updCry_kept | extract_lets | dsimp only | split | exact refused_kept _ _ _
    | dsimp +zetaDelta only)

theorem State.blobEnd_kept {K : Keep} {s0 : State} (s : State) (who : Nat) (r : Nat) (hs : Kept K s0 s) (kirq : K.irq = false := by assumption) (kcyc : K.cyc = false := by assumption) (kmsi : K.msi = false := by assumption) (kpch : K.pch = false := by assumption) (kshu : K.shu = false := by assumption) (kcry : K.cry = false := by assumption) : Kept K s0 (State.blobEnd s who r) := by
  unfold State.blobEnd
  repeat' (first
    | with_reducible assumption | intro _ | with_reducible apply ite_kept | with_reducible apply ite_fst_kept | with_reducible apply State.updCry_kept
    | with_reducible apply State.when_kept | with_reducible apply State.inc_kept | with_reducible apply State.p_kept
    | with_reducible apply State.sealAnnounce_kept | with_reducible apply State.sealAbandon_kept | extract_lets | dsimp only | split
    | dsimp +zetaDelta only)

theorem execBlobResult_kept {K : Keep} {s0 : State} (who : Nat) (plain : Option (List Byte)) (s : State) (hs : Kept K s0 s) (kirq : K.irq = false := by assumption) (kcyc : K.cyc = false := by assumption) (kmsi : K.msi = false := by assumption) (kpch : K.pch = false := by assumption) (kshu : K.shu = false := by assumption) (kcry : K.cry = false := by assumption) : KeptO K s0 (execBlobResult who plain s) := by
  unfold execBlobResult
  repeat' (first
    | with_reducible assumption | intro _ | with_reducible apply next_kept | with_reducible apply ite_kept | with_reducible apply ite_fst_kept
    | with_reducible apply State.when_kept | with_reducible apply State.blobLoad_kept | with_reducible apply State.inc_kept
    | with_reducible apply State.blobEnd_kept | extract_lets | dsimp only | split | dsimp +zetaDelta only)

theorem execSlotClr_kept {K : Keep} {s0 : State} (ag : Agent) (v : Word) (s : State) (hs : Kept K s0 s) (kirq : K.irq = false := by assumption) (kcyc : K.cyc = false := by assumption) (kmsi : K.msi = false := by assumption) (kshu : K.shu = false := by assumption) (kcry : K.cry = false := by assumption) : KeptO K s0 (execSlotClr ag v s) := by
  unfold execSlotClr
  repeat' (first
    | with_reducible assumption | intro _ | with_reducible apply next_kept | with_reducible apply State.bus_kept
    | with_reducible apply State.slotClr_kept | dsimp only)

theorem execSealedAck_kept {K : Keep} {s0 : State} (c : Fin 64) (slot : Fin 256) (idx : Fin 256) (action : Fin 256) (result : Fin 256) (s : State) (hs : Kept K s0 s) (kirq : K.irq = false := by assumption) (kcyc : K.cyc = false := by assumption) (kmsi : K.msi = false := by assumption) (kshu : K.shu = false := by assumption) (kcry : K.cry = false := by assumption) : KeptO K s0 (execSealedAck c slot idx action result s) := by
  unfold execSealedAck
  repeat' (first
    | with_reducible assumption | intro _ | with_reducible apply next_kept | with_reducible apply ite_kept | with_reducible apply ite_fst_kept
    | with_reducible apply State.sealAbandon_kept | with_reducible apply State.when_kept | with_reducible apply State.putSeal_kept | extract_lets
    | dsimp only | split | dsimp +zetaDelta only)

theorem execSealSwitch_kept {K : Keep} {s0 : State} (c : Fin 64) (slot : Fin 256) (s : State) (hs : Kept K s0 s) (kirq : K.irq = false := by assumption) (kcyc : K.cyc = false := by assumption) (kmsi : K.msi = false := by assumption) (kshu : K.shu = false := by assumption) (kcry : K.cry = false := by assumption) : KeptO K s0 (execSealSwitch c slot s) := by
  unfold execSealSwitch
  repeat' (first
    | with_reducible assumption | with_reducible apply next_kept | with_reducible apply ite_kept | with_reducible apply ite_fst_kept
    | with_reducible apply State.p_kept | with_reducible apply State.sealEnd_kept | with_reducible apply State.sealAbandon_kept | extract_lets
    | dsimp only | split | dsimp +zetaDelta only)

theorem execSealTimeout_kept {K : Keep} {s0 : State} (c : Fin 64) (slot : Fin 256) (s : State) (hs : Kept K s0 s) (kirq : K.irq = false := by assumption) (kcyc : K.cyc = false := by assumption) (kmsi : K.msi = false := by assumption) (kshu : K.shu = false := by assumption) (kcry : K.cry = false := by assumption) : KeptO K s0 (execSealTimeout c slot s) := by
  unfold execSealTimeout
  repeat' (first
    | with_reducible assumption | with_reducible apply next_kept | with_reducible apply ite_kept | with_reducible apply ite_fst_kept
    | with_reducible apply State.sealAbandon_kept | extract_lets | dsimp only | split | dsimp +zetaDelta only)

theorem execEntropyFail_kept {K : Keep} {s0 : State} (s : State) (hs : Kept K s0 s) : KeptO K s0 (execEntropyFail s) := by
  unfold execEntropyFail
  repeat' (first
    | with_reducible assumption | with_reducible apply next_kept | with_reducible apply State.inc_kept | with_reducible apply State.p_kept)

theorem execEntropyRetest_kept {K : Keep} {s0 : State} (pass : Bool) (s : State) (hs : Kept K s0 s) : KeptO K s0 (execEntropyRetest pass s) := by
  unfold execEntropyRetest
  repeat' (first
    | with_reducible assumption | intro _ | with_reducible apply next_kept | with_reducible apply State.when_kept | with_reducible apply State.p_kept
    | dsimp only)

theorem State.nonceDraw_kept {K : Keep} {s0 : State} (s : State) (hs : Kept K s0 s) (kfresh : K.fresh = false := by assumption) (kcry : K.cry = false := by assumption) : Kept K s0 (State.nonceDraw s) := by
  unfold State.nonceDraw
  repeat' (first
    | with_reducible assumption | intro _ | with_reducible apply iter_kept | with_reducible apply State.draw_kept | with_reducible apply State.wr_kept
    | with_reducible apply State.updCry_kept | extract_lets | dsimp only)

theorem execNonceRead_kept {K : Keep} {s0 : State} (ag : Agent) (s : State) (hs : Kept K s0 s) (kfresh : K.fresh = false := by assumption) (kagents : K.agents = false := by assumption) (kirq : K.irq = false := by assumption) (kcyc : K.cyc = false := by assumption) (kmsi : K.msi = false := by assumption) (kshu : K.shu = false := by assumption) (kcry : K.cry = false := by assumption) : KeptO K s0 (execNonceRead ag s) := by
  unfold execNonceRead
  repeat' (first
    | with_reducible assumption | intro _ | with_reducible apply next_kept | with_reducible apply State.busRd_kept
    | with_reducible apply State.nonceDraw_kept | extract_lets | dsimp only)

theorem State.enrolWrite_kept {K : Keep} {s0 : State} (s : State) (v : Word) (hs : Kept K s0 s) (kcry : K.cry = false := by assumption) : Kept K s0 (State.enrolWrite s v) := by
  unfold State.enrolWrite
  repeat' (first
    | with_reducible assumption | intro _ | with_reducible apply ite_kept | with_reducible apply ite_fst_kept | with_reducible apply State.p_kept
    | with_reducible apply State.updCry_kept | dsimp only | split)

theorem execEnrolGo_kept {K : Keep} {s0 : State} (ag : Agent) (v : Word) (s : State) (hs : Kept K s0 s) (kirq : K.irq = false := by assumption) (kcyc : K.cyc = false := by assumption) (kmsi : K.msi = false := by assumption) (kshu : K.shu = false := by assumption) (kcry : K.cry = false := by assumption) : KeptO K s0 (execEnrolGo ag v s) := by
  unfold execEnrolGo
  repeat' (first
    | with_reducible assumption | intro _ | with_reducible apply next_kept | with_reducible apply State.bus_kept
    | with_reducible apply State.enrolWrite_kept | dsimp only)

theorem execEnrolDone_kept {K : Keep} {s0 : State} (sigOk : Bool) (nonce : List Word) (sign : List Word) (wrap : List Word) (s : State) (hs : Kept K s0 s) (kcry : K.cry = false := by assumption) : KeptO K s0 (execEnrolDone sigOk nonce sign wrap s) := by
  unfold execEnrolDone
  repeat' (first
    | with_reducible assumption | intro _ | with_reducible apply next_kept | with_reducible apply ite_kept | with_reducible apply ite_fst_kept
    | with_reducible apply State.when_kept | with_reducible apply State.updCry_kept | with_reducible apply State.p_kept | extract_lets | dsimp only
    | split)

theorem State.eraseSlots_kept {K : Keep} {s0 : State} (s : State) (hs : Kept K s0 s) (kcyc : K.cyc = false := by assumption) (kcry : K.cry = false := by assumption) : Kept K s0 (State.eraseSlots s) := by
  unfold State.eraseSlots
  repeat' (first
    | with_reducible assumption | intro _ | with_reducible apply State.overRegs_kept | with_reducible apply State.wr_kept
    | with_reducible apply State.updCry_kept | with_reducible apply State.updCyc_kept | extract_lets | dsimp only)

theorem State.securityAlarm_kept {K : Keep} {s0 : State} (s : State) (src : Nat) (hs : Kept K s0 s) (kirq : K.irq = false := by assumption) (kcyc : K.cyc = false := by assumption) (kmsi : K.msi = false := by assumption) (kpch : K.pch = false := by assumption) (ktmp : K.tmp = false := by assumption) (kshu : K.shu = false := by assumption) (kblt : K.blt = false := by assumption) (kcry : K.cry = false := by assumption) : Kept K s0 (State.securityAlarm s src) := by
  unfold State.securityAlarm
  repeat' (first
    | with_reducible assumption | intro _ | with_reducible apply foldl_kept | with_reducible apply foldl_fst_kept | with_reducible apply foldl_snd_kept
    | with_reducible apply State.eraseSlots_kept | with_reducible apply State.updCry_kept | with_reducible apply State.wr_kept
    | with_reducible apply State.p_kept | with_reducible apply State.updTmp_kept | with_reducible apply State.alertEvt_kept
    | with_reducible apply State.blobEnd_kept | with_reducible apply State.when_kept | with_reducible apply State.faultLive_kept
    | with_reducible apply State.boltEvent_kept | extract_lets | dsimp only)

theorem execSecurityAlarm_kept {K : Keep} {s0 : State} (src : Fin 8) (s : State) (hs : Kept K s0 s) (kirq : K.irq = false := by assumption) (kcyc : K.cyc = false := by assumption) (kmsi : K.msi = false := by assumption) (kpch : K.pch = false := by assumption) (ktmp : K.tmp = false := by assumption) (kshu : K.shu = false := by assumption) (kblt : K.blt = false := by assumption) (kcry : K.cry = false := by assumption) : KeptO K s0 (execSecurityAlarm src s) := by
  unfold execSecurityAlarm
  repeat' (first
    | with_reducible assumption | intro _ | with_reducible apply next_kept | with_reducible apply State.when_kept
    | with_reducible apply State.securityAlarm_kept | dsimp only)

theorem State.eraseWrite_kept {K : Keep} {s0 : State} (s : State) (v : Word) (hs : Kept K s0 s) (kirq : K.irq = false := by assumption) (kcyc : K.cyc = false := by assumption) (kmsi : K.msi = false := by assumption) (kpch : K.pch = false := by assumption) (ktmp : K.tmp = false := by assumption) (kshu : K.shu = false := by assumption) (kblt : K.blt = false := by assumption) (kcry : K.cry = false := by assumption) : Kept K s0 (State.eraseWrite s v) := by
  unfold State.eraseWrite
  repeat' (first
    | with_reducible assumption | with_reducible apply ite_kept | with_reducible apply ite_fst_kept | with_reducible apply State.wrRW_kept
    | with_reducible apply State.securityAlarm_kept | extract_lets | dsimp only | split)

theorem execCryErase_kept {K : Keep} {s0 : State} (ag : Agent) (v : Word) (s : State) (hs : Kept K s0 s) (kirq : K.irq = false := by assumption) (kcyc : K.cyc = false := by assumption) (kmsi : K.msi = false := by assumption) (kpch : K.pch = false := by assumption) (ktmp : K.tmp = false := by assumption) (kshu : K.shu = false := by assumption) (kblt : K.blt = false := by assumption) (kcry : K.cry = false := by assumption) : KeptO K s0 (execCryErase ag v s) := by
  unfold execCryErase
  repeat' (first
    | with_reducible assumption | intro _ | with_reducible apply next_kept | with_reducible apply State.bus_kept
    | with_reducible apply State.eraseWrite_kept | dsimp only)

theorem execDbgChal_kept {K : Keep} {s0 : State} (s : State) (hs : Kept K s0 s) (kfresh : K.fresh = false := by assumption) (kcry : K.cry = false := by assumption) : KeptO K s0 (execDbgChal s) := by
  unfold execDbgChal
  repeat' (first
    | with_reducible assumption | intro _ | with_reducible apply next_kept | with_reducible apply iter_kept | with_reducible apply iter_snd_kept
    | with_reducible apply State.draw_kept | with_reducible apply State.updCry_kept | extract_lets | dsimp only)

theorem execDbgResp_kept {K : Keep} {s0 : State} (sigOk : Bool) (s : State) (hs : Kept K s0 s) (kirq : K.irq = false := by assumption) (kcyc : K.cyc = false := by assumption) (kmsi : K.msi = false := by assumption) (kpch : K.pch = false := by assumption) (ktmp : K.tmp = false := by assumption) (kshu : K.shu = false := by assumption) (kblt : K.blt = false := by assumption) (kcry : K.cry = false := by assumption) : KeptO K s0 (execDbgResp sigOk s) := by
  unfold execDbgResp
  repeat' (first
    | with_reducible assumption | intro _ | with_reducible apply next_kept | with_reducible apply ite_kept | with_reducible apply ite_fst_kept
    | with_reducible apply State.eraseSlots_kept | with_reducible apply State.updCry_kept | with_reducible apply State.p_kept
    | with_reducible apply State.securityAlarm_kept | extract_lets | dsimp only | split)

theorem State.engineDrop_kept {K : Keep} {s0 : State} (s : State) (c : Nat) (hs : Kept K s0 s) (kpch : K.pch = false := by assumption) : Kept K s0 (State.engineDrop s c) := by
  unfold State.engineDrop
  repeat' (first
    | with_reducible assumption | intro _ | with_reducible apply foldl_kept | with_reducible apply foldl_fst_kept | with_reducible apply foldl_snd_kept
    | with_reducible apply State.when_kept | with_reducible apply State.inc_kept | with_reducible apply State.updPch_kept | extract_lets | dsimp only
    | split | dsimp +zetaDelta only)

theorem State.engineMove_kept {K : Keep} {s0 : State} (s : State) (e : Nat) (x : Nat) (hs : Kept K s0 s) (kirq : K.irq = false := by assumption) (kcyc : K.cyc = false := by assumption) (kmsi : K.msi = false := by assumption) (kpch : K.pch = false := by assumption) (ktmp : K.tmp = false := by assumption) (kshu : K.shu = false := by assumption) (kcry : K.cry = false := by assumption) : Kept K s0 (State.engineMove s e x) := by
  unfold State.engineMove
  repeat' (first
    | with_reducible assumption | intro _ | with_reducible apply iter_kept | with_reducible apply ite_kept | with_reducible apply ite_fst_kept
    | with_reducible apply State.wr_kept | with_reducible apply State.updCry_kept | with_reducible apply State.p_kept
    | with_reducible apply State.engineDrop_kept | with_reducible apply State.updTmp_kept | with_reducible apply State.ev_kept | extract_lets
    | dsimp only | split)

theorem State.engineRetire_kept {K : Keep} {s0 : State} (s : State) (e : Nat) (hs : Kept K s0 s) (kirq : K.irq = false := by assumption) (kcyc : K.cyc = false := by assumption) (kmsi : K.msi = false := by assumption) (kpch : K.pch = false := by assumption) (kshd : K.shd = false := by assumption) (kledger : K.ledger = false := by assumption) (ktmp : K.tmp = false := by assumption) (kshu : K.shu = false := by assumption) (kblt : K.blt = false := by assumption) (kcry : K.cry = false := by assumption) (ktmg : K.tmg = false := by assumption) : Kept K s0 (State.engineRetire s e) := by
  unfold State.engineRetire
  repeat' (first
    | with_reducible assumption | intro _ | with_reducible apply iter_kept | with_reducible apply State.engineMove_kept
    | with_reducible apply State.chanRetire_kept | dsimp only | split | dsimp +zetaDelta only)

end Sys2Proof.Machine
end

