-- ==== Sys2Proof/Laws/Kept/Tributary.lean ====
section
/-! SUPPORT. What the operations and meanings of Machine/Tributary.lean keep: the queue, the clock, the canonical forms, and every
component of the state that they have no business with. -/
namespace Sys2Proof.Machine

set_option linter.all false

theorem State.updEp_kept {K : Keep} {s0 : State} (s : State) (t : Nat) (f : Trib → Trib) (hs : Kept K s0 s) (ktrb : K.trb = false := by assumption) : Kept K s0 (State.updEp s t f) := by
  unfold State.updEp
  repeat' (first
    | with_reducible assumption | with_reducible apply Kept.upd_trb)

theorem State.tSecond_kept {K : Keep} {s0 : State} (s : State) (t : Nat) (hs : Kept K s0 s) (ktrb : K.trb = false := by assumption) : Kept K s0 (State.tSecond s t) := by
  unfold State.tSecond
  repeat' (first
    | with_reducible assumption | intro _ | with_reducible apply State.updEp_kept | extract_lets | dsimp only)

theorem State.tRaise_kept {K : Keep} {s0 : State} (s : State) (t : Nat) (live : Fld) (evt : Fld) (hs : Kept K s0 s) (kirq : K.irq = false := by assumption) (kcyc : K.cyc = false := by assumption) (kmsi : K.msi = false := by assumption) (kshu : K.shu = false := by assumption) (kblt : K.blt = false := by assumption) (ktrb : K.trb = false := by assumption) : Kept K s0 (State.tRaise s t live evt) := by
  unfold State.tRaise
  repeat' (first
    | with_reducible assumption | with_reducible apply ite_kept | with_reducible apply ite_fst_kept | with_reducible apply State.inc_kept
    | with_reducible apply State.p_kept | with_reducible apply State.ev_kept | with_reducible apply State.boltEvent_kept
    | with_reducible apply State.tSecond_kept | split)

theorem State.tClear_kept {K : Keep} {s0 : State} (s : State) (t : Nat) (live : Fld) (evt : Fld) (hs : Kept K s0 s) (kirq : K.irq = false := by assumption) (kcyc : K.cyc = false := by assumption) (kmsi : K.msi = false := by assumption) (kshu : K.shu = false := by assumption) (kblt : K.blt = false := by assumption) : Kept K s0 (State.tClear s t live evt) := by
  unfold State.tClear
  repeat' (first
    | with_reducible assumption | with_reducible apply ite_kept | with_reducible apply ite_fst_kept | with_reducible apply State.p_kept
    | with_reducible apply State.ev_kept | with_reducible apply State.boltEvent_kept | split)

theorem State.tClearAll_kept {K : Keep} {s0 : State} (s : State) (t : Nat) (hs : Kept K s0 s) (kirq : K.irq = false := by assumption) (kcyc : K.cyc = false := by assumption) (kmsi : K.msi = false := by assumption) (kshu : K.shu = false := by assumption) (kblt : K.blt = false := by assumption) : Kept K s0 (State.tClearAll s t) := by
  unfold State.tClearAll
  repeat' (first
    | with_reducible assumption | with_reducible apply State.tClear_kept | with_reducible apply State.p_kept | extract_lets | dsimp only)

theorem State.epFresh_kept {K : Keep} {s0 : State} (s : State) (t : Nat) (hs : Kept K s0 s) (ktrb : K.trb = false := by assumption) : Kept K s0 (State.epFresh s t) := by
  unfold State.epFresh
  repeat' (first
    | with_reducible assumption | intro _ | with_reducible apply State.updEp_kept | dsimp only)

theorem State.tribStop_kept {K : Keep} {s0 : State} (s : State) (t : Nat) (hs : Kept K s0 s) (kirq : K.irq = false := by assumption) (kcyc : K.cyc = false := by assumption) (kmsi : K.msi = false := by assumption) (kshu : K.shu = false := by assumption) (kblt : K.blt = false := by assumption) (ktrb : K.trb = false := by assumption) : Kept K s0 (State.tribStop s t) := by
  unfold State.tribStop
  repeat' (first
    | with_reducible assumption | intro _ | with_reducible apply State.tClearAll_kept | with_reducible apply State.applyWords_kept
    | with_reducible apply State.epFresh_kept | extract_lets | dsimp only | with_reducible apply Kept.upd_trb)

theorem State.tribWrite_kept {K : Keep} {s0 : State} (s : State) (t : Nat) (w : Nat) (v : Word) (hs : Kept K s0 s) (kirq : K.irq = false := by assumption) (kcyc : K.cyc = false := by assumption) (kmsi : K.msi = false := by assumption) (kshu : K.shu = false := by assumption) (kblt : K.blt = false := by assumption) (ktrb : K.trb = false := by assumption) : Kept K s0 (State.tribWrite s t w v) := by
  unfold State.tribWrite
  repeat' (first
    | with_reducible assumption | intro _ | with_reducible apply ite_kept | with_reducible apply ite_fst_kept | with_reducible apply State.when_kept
    | with_reducible apply State.tribStop_kept | with_reducible apply State.wrRW_kept | with_reducible apply State.wr_kept
    | with_reducible apply State.p_kept | with_reducible apply State.ev_kept | with_reducible apply State.applyWords_kept
    | with_reducible apply State.epFresh_kept | extract_lets | dsimp only | split | with_reducible apply Kept.upd_trb)

theorem execTribConfigWrite_kept {K : Keep} {s0 : State} (ag : Agent) (t : Fin 4096) (w : Fin 8) (v : Word) (s : State) (hs : Kept K s0 s) (kirq : K.irq = false := by assumption) (kcyc : K.cyc = false := by assumption) (kmsi : K.msi = false := by assumption) (kshu : K.shu = false := by assumption) (kblt : K.blt = false := by assumption) (ktrb : K.trb = false := by assumption) : KeptO K s0 (execTribConfigWrite ag t w v s) := by
  unfold execTribConfigWrite
  repeat' (first
    | with_reducible assumption | intro _ | with_reducible apply next_kept | with_reducible apply State.bus_kept
    | with_reducible apply State.tribWrite_kept | dsimp only)

theorem State.pwPlay_kept {K : Keep} {s0 : State} (s : State) (t : Nat) (n : Nat) (hs : Kept K s0 s) (ktrb : K.trb = false := by assumption) : Kept K s0 (State.pwPlay s t n).1 := by
  unfold State.pwPlay
  repeat' (first
    | with_reducible assumption | intro _ | with_reducible apply State.updEp_kept | with_reducible apply State.add_kept
    | with_reducible apply State.when_kept | with_reducible apply State.inc_kept | extract_lets | dsimp only)

theorem State.tPull_kept {K : Keep} {s0 : State} (s : State) (t : Nat) (n : Nat) (hs : Kept K s0 s) (ktrb : K.trb = false := by assumption) : Kept K s0 (State.tPull s t n).1 := by
  unfold State.tPull
  repeat' (first
    | with_reducible assumption | intro _ | with_reducible apply ite_kept | with_reducible apply ite_fst_kept | with_reducible apply State.pwPlay_kept
    | with_reducible apply State.updEp_kept | with_reducible apply State.inc_kept | extract_lets | dsimp only | split | dsimp +zetaDelta only)

theorem State.pwSend_kept {K : Keep} {s0 : State} (s : State) (t : Nat) (pay : List Byte) (hs : Kept K s0 s) (kirq : K.irq = false := by assumption) (kcyc : K.cyc = false := by assumption) (kmsi : K.msi = false := by assumption) (kshu : K.shu = false := by assumption) (ktmg : K.tmg = false := by assumption) (khsl : K.hsl = false := by assumption) (ktrb : K.trb = false := by assumption) : Kept K s0 (State.pwSend s t pay) := by
  unfold State.pwSend
  repeat' (first
    | with_reducible assumption | intro _ | with_reducible apply ite_kept | with_reducible apply ite_fst_kept | with_reducible apply State.updEp_kept
    | with_reducible apply State.admitCopy_kept | extract_lets | dsimp only | split | dsimp +zetaDelta only)

theorem State.pwFeed_kept {K : Keep} {s0 : State} (s : State) (t : Nat) (b : List Byte) (hs : Kept K s0 s) (kirq : K.irq = false := by assumption) (kcyc : K.cyc = false := by assumption) (kmsi : K.msi = false := by assumption) (kshu : K.shu = false := by assumption) (ktmg : K.tmg = false := by assumption) (khsl : K.hsl = false := by assumption) (ktrb : K.trb = false := by assumption) : Kept K s0 (State.pwFeed s t b) := by
  unfold State.pwFeed
  repeat' (first
    | with_reducible assumption | intro _ | with_reducible apply iter_kept | with_reducible apply State.updEp_kept
    | with_reducible apply State.pwSend_kept | extract_lets | dsimp only)

theorem State.toPair_kept {K : Keep} {s0 : State} (s : State) (t : Nat) (b : List Byte) (hs : Kept K s0 s) (kirq : K.irq = false := by assumption) (kcyc : K.cyc = false := by assumption) (kmsi : K.msi = false := by assumption) (kshu : K.shu = false := by assumption) (ktmg : K.tmg = false := by assumption) (khsl : K.hsl = false := by assumption) (ktrb : K.trb = false := by assumption) : Kept K s0 (State.toPair s t b) := by
  unfold State.toPair
  repeat' (first
    | with_reducible assumption | intro _ | with_reducible apply ite_kept | with_reducible apply ite_fst_kept | with_reducible apply State.pwFeed_kept
    | with_reducible apply State.updEp_kept | with_reducible apply State.inc_kept | extract_lets | dsimp only | split | dsimp +zetaDelta only)

theorem State.containerSend_kept {K : Keep} {s0 : State} (s : State) (t : Nat) (n : Nat) (hs : Kept K s0 s) (kirq : K.irq = false := by assumption) (kcyc : K.cyc = false := by assumption) (kmsi : K.msi = false := by assumption) (kshu : K.shu = false := by assumption) (ktmg : K.tmg = false := by assumption) (khsl : K.hsl = false := by assumption) (ktrb : K.trb = false := by assumption) : Kept K s0 (State.containerSend s t n) := by
  unfold State.containerSend
  repeat' (first
    | with_reducible assumption | intro _ | with_reducible apply ite_kept | with_reducible apply ite_fst_kept | with_reducible apply State.when_kept
    | with_reducible apply State.inc_kept | with_reducible apply State.ev_kept | with_reducible apply State.updEp_kept
    | with_reducible apply State.tPull_kept | with_reducible apply State.admitCopy_kept | extract_lets | dsimp only | split | dsimp +zetaDelta only)

theorem State.containerEnqueue_kept {K : Keep} {s0 : State} (s : State) (c : Nat) (n : Nat) (hs : Kept K s0 s) (kirq : K.irq = false := by assumption) (kcyc : K.cyc = false := by assumption) (kmsi : K.msi = false := by assumption) (kshu : K.shu = false := by assumption) (ktmg : K.tmg = false := by assumption) (khsl : K.hsl = false := by assumption) (ktrb : K.trb = false := by assumption) : Kept K s0 (State.containerEnqueue s c n) := by
  unfold State.containerEnqueue
  repeat' (first
    | with_reducible assumption | intro _ | with_reducible apply ite_kept | with_reducible apply ite_fst_kept | with_reducible apply foldl_kept
    | with_reducible apply foldl_fst_kept | with_reducible apply foldl_snd_kept | with_reducible apply State.containerSend_kept | dsimp only | split)

theorem execJcDecision_kept {K : Keep} {s0 : State} (t : Fin 4096) (s : State) (hs : Kept K s0 s) (ktrb : K.trb = false := by assumption) : KeptO K s0 (execJcDecision t s) := by
  unfold execJcDecision
  repeat' (first
    | with_reducible assumption | intro _ | with_reducible apply next_kept | with_reducible apply ite_kept | with_reducible apply ite_fst_kept
    | with_reducible apply State.when_kept | with_reducible apply State.updEp_kept | extract_lets | dsimp only | split | dsimp +zetaDelta only)

theorem State.ptrSeen_kept {K : Keep} {s0 : State} (s : State) (t : Nat) (ptr : Nat) (mfi : Nat) (frame : Nat) (hs : Kept K s0 s) (kirq : K.irq = false := by assumption) (kcyc : K.cyc = false := by assumption) (kmsi : K.msi = false := by assumption) (kshu : K.shu = false := by assumption) (kblt : K.blt = false := by assumption) (ktrb : K.trb = false := by assumption) : Kept K s0 (State.ptrSeen s t ptr mfi frame) := by
  unfold State.ptrSeen
  repeat' (first
    | with_reducible assumption | intro _ | with_reducible apply ite_kept | with_reducible apply ite_fst_kept | with_reducible apply State.updEp_kept
    | with_reducible apply State.when_kept | with_reducible apply State.tClear_kept | extract_lets | dsimp only | split | dsimp +zetaDelta only)

theorem State.containerData_kept {K : Keep} {s0 : State} (s : State) (t : Nat) (frame : Nat) (b : List Byte) (hs : Kept K s0 s) (kirq : K.irq = false := by assumption) (kcyc : K.cyc = false := by assumption) (kmsi : K.msi = false := by assumption) (kshu : K.shu = false := by assumption) (ktmg : K.tmg = false := by assumption) (khsl : K.hsl = false := by assumption) (ktrb : K.trb = false := by assumption) : Kept K s0 (State.containerData s t frame b) := by
  unfold State.containerData
  repeat' (first
    | with_reducible assumption | intro _ | with_reducible apply ite_kept | with_reducible apply ite_fst_kept | with_reducible apply State.when_kept
    | with_reducible apply State.inc_kept | with_reducible apply State.p_kept | with_reducible apply State.updEp_kept
    | with_reducible apply State.toPair_kept | extract_lets | dsimp only | split | dsimp +zetaDelta only)

theorem State.substitute_kept {K : Keep} {s0 : State} (s : State) (t : Nat) (frame : Nat) (hs : Kept K s0 s) (kirq : K.irq = false := by assumption) (kcyc : K.cyc = false := by assumption) (kmsi : K.msi = false := by assumption) (kshu : K.shu = false := by assumption) (ktmg : K.tmg = false := by assumption) (khsl : K.hsl = false := by assumption) (ktrb : K.trb = false := by assumption) : Kept K s0 (State.substitute s t frame) := by
  unfold State.substitute
  repeat' (first
    | with_reducible assumption | intro _ | with_reducible apply ite_kept | with_reducible apply ite_fst_kept | with_reducible apply State.toPair_kept
    | with_reducible apply State.updEp_kept | extract_lets | dsimp only | split)

theorem State.searchHdr_kept {K : Keep} {s0 : State} (s : State) (t : Nat) (frame : Nat) (mfi : Nat) (ok : Bool) (hs : Kept K s0 s) (ktrb : K.trb = false := by assumption) : Kept K s0 (State.searchHdr s t frame mfi ok) := by
  unfold State.searchHdr
  repeat' (first
    | with_reducible assumption | intro _ | with_reducible apply ite_kept | with_reducible apply ite_fst_kept | with_reducible apply State.updEp_kept
    | extract_lets | dsimp only | split)

theorem State.container_kept {K : Keep} {s0 : State} (s : State) (t : Nat) (f : PFrame) (hs : Kept K s0 s) (kirq : K.irq = false := by assumption) (kcyc : K.cyc = false := by assumption) (kmsi : K.msi = false := by assumption) (kshu : K.shu = false := by assumption) (kblt : K.blt = false := by assumption) (ktmg : K.tmg = false := by assumption) (khsl : K.hsl = false := by assumption) (ktrb : K.trb = false := by assumption) : Kept K s0 (State.container s t f) := by
  unfold State.container
  repeat' (first
    | with_reducible assumption | intro _ | with_reducible apply ite_kept | with_reducible apply ite_fst_kept | with_reducible apply State.inc_kept
    | with_reducible apply State.when_kept | with_reducible apply State.ptrSeen_kept | with_reducible apply State.searchHdr_kept
    | with_reducible apply State.substitute_kept | with_reducible apply State.updEp_kept | with_reducible apply State.containerData_kept | extract_lets
    | dsimp only | split)

theorem State.takeRx_kept {K : Keep} {s0 : State} (s : State) (p : Nat × PFrame → Bool) (h : Kept K s0 s) (ktrb : K.trb = false := by assumption) : ∀ x t, State.takeRx s p = some (x, t) → Kept K s0 t := by
  unfold State.takeRx
  intro x t
  split
  · intro h; contradiction
  · intro ht
    simp only [Option.some.injEq, Prod.mk.injEq] at ht
    obtain ⟨-, rfl⟩ := ht
    exact Kept.upd_trb h

theorem execContainerReceive_kept {K : Keep} {s0 : State} (s : State) (h : Kept K s0 s) (kirq : K.irq = false := by assumption) (kcyc : K.cyc = false := by assumption) (kmsi : K.msi = false := by assumption) (kshu : K.shu = false := by assumption) (kblt : K.blt = false := by assumption) (ktmg : K.tmg = false := by assumption) (khsl : K.hsl = false := by assumption) (ktrb : K.trb = false := by assumption) : KeptO K s0 (execContainerReceive s) := by
  unfold execContainerReceive
  split
  · exact next_kept h
  · rename_i x t ht
    exact next_kept <| State.container_kept _ _ _ (State.takeRx_kept _ _ h (by assumption) _ _ ht)

theorem State.pwPacket_kept {K : Keep} {s0 : State} (s : State) (t : Nat) (f : PFrame) (hs : Kept K s0 s) (ktrb : K.trb = false := by assumption) : Kept K s0 (State.pwPacket s t f) := by
  unfold State.pwPacket
  repeat' (first
    | with_reducible assumption | intro _ | with_reducible apply ite_kept | with_reducible apply ite_fst_kept | with_reducible apply State.inc_kept
    | with_reducible apply State.p_kept | with_reducible apply State.updEp_kept | with_reducible apply State.when_kept | extract_lets | dsimp only
    | split)

theorem execPwPacketReceive_kept {K : Keep} {s0 : State} (s : State) (h : Kept K s0 s) (ktrb : K.trb = false := by assumption) : KeptO K s0 (execPwPacketReceive s) := by
  unfold execPwPacketReceive
  split
  · exact next_kept h
  · rename_i x t ht
    exact next_kept <| State.pwPacket_kept _ _ _ (State.takeRx_kept _ _ h (by assumption) _ _ ht)

theorem execTribLocRaise_kept {K : Keep} {s0 : State} (t : Fin 4096) (s : State) (hs : Kept K s0 s) (kirq : K.irq = false := by assumption) (kcyc : K.cyc = false := by assumption) (kmsi : K.msi = false := by assumption) (kshu : K.shu = false := by assumption) (kblt : K.blt = false := by assumption) (ktrb : K.trb = false := by assumption) : KeptO K s0 (execTribLocRaise t s) := by
  unfold execTribLocRaise
  repeat' (first
    | with_reducible assumption | intro _ | with_reducible apply next_kept | with_reducible apply State.when_kept
    | with_reducible apply State.tRaise_kept | dsimp only)

theorem execTribLocClear_kept {K : Keep} {s0 : State} (t : Fin 4096) (s : State) (hs : Kept K s0 s) (kirq : K.irq = false := by assumption) (kcyc : K.cyc = false := by assumption) (kmsi : K.msi = false := by assumption) (kshu : K.shu = false := by assumption) (kblt : K.blt = false := by assumption) : KeptO K s0 (execTribLocClear t s) := by
  unfold execTribLocClear
  repeat' (first
    | with_reducible assumption | intro _ | with_reducible apply next_kept | with_reducible apply State.when_kept
    | with_reducible apply State.tClear_kept | dsimp only)

theorem execTribLomRaise_kept {K : Keep} {s0 : State} (t : Fin 4096) (s : State) (hs : Kept K s0 s) (kirq : K.irq = false := by assumption) (kcyc : K.cyc = false := by assumption) (kmsi : K.msi = false := by assumption) (kshu : K.shu = false := by assumption) (kblt : K.blt = false := by assumption) (ktrb : K.trb = false := by assumption) : KeptO K s0 (execTribLomRaise t s) := by
  unfold execTribLomRaise
  repeat' (first
    | with_reducible assumption | intro _ | with_reducible apply next_kept | with_reducible apply State.when_kept
    | with_reducible apply State.tRaise_kept | dsimp only)

theorem execTribLomClear_kept {K : Keep} {s0 : State} (t : Fin 4096) (s : State) (hs : Kept K s0 s) (kirq : K.irq = false := by assumption) (kcyc : K.cyc = false := by assumption) (kmsi : K.msi = false := by assumption) (kshu : K.shu = false := by assumption) (kblt : K.blt = false := by assumption) : KeptO K s0 (execTribLomClear t s) := by
  unfold execTribLomClear
  repeat' (first
    | with_reducible assumption | intro _ | with_reducible apply next_kept | with_reducible apply State.when_kept
    | with_reducible apply State.tClear_kept | dsimp only)

theorem execTribAisRaise_kept {K : Keep} {s0 : State} (t : Fin 4096) (s : State) (hs : Kept K s0 s) (kirq : K.irq = false := by assumption) (kcyc : K.cyc = false := by assumption) (kmsi : K.msi = false := by assumption) (kshu : K.shu = false := by assumption) (kblt : K.blt = false := by assumption) (ktrb : K.trb = false := by assumption) : KeptO K s0 (execTribAisRaise t s) := by
  unfold execTribAisRaise
  repeat' (first
    | with_reducible assumption | intro _ | with_reducible apply next_kept | with_reducible apply State.when_kept
    | with_reducible apply State.tRaise_kept | dsimp only)

theorem execTribAisClear_kept {K : Keep} {s0 : State} (t : Fin 4096) (s : State) (hs : Kept K s0 s) (kirq : K.irq = false := by assumption) (kcyc : K.cyc = false := by assumption) (kmsi : K.msi = false := by assumption) (kshu : K.shu = false := by assumption) (kblt : K.blt = false := by assumption) : KeptO K s0 (execTribAisClear t s) := by
  unfold execTribAisClear
  repeat' (first
    | with_reducible assumption | intro _ | with_reducible apply next_kept | with_reducible apply State.when_kept
    | with_reducible apply State.tClear_kept | dsimp only)

theorem execTribLopRaise_kept {K : Keep} {s0 : State} (t : Fin 4096) (s : State) (hs : Kept K s0 s) (kirq : K.irq = false := by assumption) (kcyc : K.cyc = false := by assumption) (kmsi : K.msi = false := by assumption) (kshu : K.shu = false := by assumption) (kblt : K.blt = false := by assumption) (ktrb : K.trb = false := by assumption) : KeptO K s0 (execTribLopRaise t s) := by
  unfold execTribLopRaise
  repeat' (first
    | with_reducible assumption | intro _ | with_reducible apply next_kept | with_reducible apply State.when_kept
    | with_reducible apply State.tRaise_kept | dsimp only)

theorem execTribPjeWindow_kept {K : Keep} {s0 : State} (t : Fin 4096) (s : State) (hs : Kept K s0 s) (kirq : K.irq = false := by assumption) (kcyc : K.cyc = false := by assumption) (kmsi : K.msi = false := by assumption) (kshu : K.shu = false := by assumption) (kblt : K.blt = false := by assumption) (ktrb : K.trb = false := by assumption) : KeptO K s0 (execTribPjeWindow t s) := by
  unfold execTribPjeWindow
  repeat' (first
    | with_reducible assumption | intro _ | with_reducible apply next_kept | with_reducible apply ite_kept | with_reducible apply ite_fst_kept
    | with_reducible apply State.when_kept | with_reducible apply State.updEp_kept | with_reducible apply State.tRaise_kept
    | with_reducible apply State.tClear_kept | extract_lets | dsimp only | split)

theorem State.cmLoad_kept {K : Keep} {s0 : State} (s : State) (base : Nat) (l : List (Nat × Word)) (hs : Kept K s0 s) : Kept K s0 (State.cmLoad s base l) := by
  unfold State.cmLoad
  repeat' (first
    | with_reducible assumption | intro _ | with_reducible apply foldl_kept | with_reducible apply foldl_fst_kept | with_reducible apply foldl_snd_kept
    | with_reducible apply State.overRegs_kept | with_reducible apply State.wr_kept | extract_lets | dsimp only)

theorem State.cmSwap_kept {K : Keep} {s0 : State} (s : State) (hs : Kept K s0 s) (kirq : K.irq = false := by assumption) (kcyc : K.cyc = false := by assumption) (kmsi : K.msi = false := by assumption) (kshu : K.shu = false := by assumption) : Kept K s0 (State.cmSwap s) := by
  unfold State.cmSwap
  repeat' (first
    | with_reducible assumption | intro _ | with_reducible apply State.cmLoad_kept | with_reducible apply State.p_kept
    | with_reducible apply State.ev_kept | with_reducible apply State.updCyc_kept | extract_lets | dsimp only)

theorem State.tsiTake_kept {K : Keep} {s0 : State} (s : State) (t : Nat) (f : Nat) (b : List Byte) (hs : Kept K s0 s) (kirq : K.irq = false := by assumption) (kcyc : K.cyc = false := by assumption) (kmsi : K.msi = false := by assumption) (kshu : K.shu = false := by assumption) (ktmg : K.tmg = false := by assumption) (khsl : K.hsl = false := by assumption) (ktrb : K.trb = false := by assumption) : Kept K s0 (State.tsiTake s t f b) := by
  unfold State.tsiTake
  repeat' (first
    | with_reducible assumption | intro _ | with_reducible apply ite_kept | with_reducible apply ite_fst_kept | with_reducible apply State.updEp_kept
    | with_reducible apply State.inc_kept | with_reducible apply State.pwSend_kept | extract_lets | dsimp only | split)

theorem State.tsiGive_kept {K : Keep} {s0 : State} (s : State) (t : Nat) (hs : Kept K s0 s) (ktrb : K.trb = false := by assumption) : Kept K s0 (State.tsiGive s t).1 := by
  unfold State.tsiGive
  repeat' (first
    | with_reducible assumption | intro _ | with_reducible apply ite_kept | with_reducible apply ite_fst_kept | with_reducible apply State.pwPlay_kept
    | with_reducible apply State.when_kept | with_reducible apply State.inc_kept | with_reducible apply State.updEp_kept | extract_lets | dsimp only
    | split | dsimp +zetaDelta only)

theorem State.pwPipe_kept {K : Keep} {s0 : State} (s : State) (t : Nat) (hs : Kept K s0 s) (kirq : K.irq = false := by assumption) (kcyc : K.cyc = false := by assumption) (kmsi : K.msi = false := by assumption) (kshu : K.shu = false := by assumption) (ktmg : K.tmg = false := by assumption) (khsl : K.hsl = false := by assumption) (ktrb : K.trb = false := by assumption) : Kept K s0 (State.pwPipe s t) := by
  unfold State.pwPipe
  repeat' (first
    | with_reducible assumption | with_reducible apply ite_kept | with_reducible apply ite_fst_kept | with_reducible apply State.pwFeed_kept
    | with_reducible apply State.pwPlay_kept | extract_lets | dsimp only | split | dsimp +zetaDelta only)

theorem State.tribFrame_kept {K : Keep} {s0 : State} (s : State) (t : Nat) (f : Nat) (hs : Kept K s0 s) (kirq : K.irq = false := by assumption) (kcyc : K.cyc = false := by assumption) (kmsi : K.msi = false := by assumption) (kshu : K.shu = false := by assumption) (ktmg : K.tmg = false := by assumption) (khsl : K.hsl = false := by assumption) (ktrb : K.trb = false := by assumption) : Kept K s0 (State.tribFrame s t f) := by
  unfold State.tribFrame
  repeat' (first
    | with_reducible assumption | intro _ | with_reducible apply ite_kept | with_reducible apply ite_fst_kept | with_reducible apply State.when_kept
    | with_reducible apply State.inc_kept | with_reducible apply State.substitute_kept | with_reducible apply State.pwPipe_kept
    | with_reducible apply State.updEp_kept | extract_lets | dsimp only | split)

theorem State.tsiAlign_kept {K : Keep} {s0 : State} (s : State) (f : Nat) (hs : Kept K s0 s) (kirq : K.irq = false := by assumption) (kcyc : K.cyc = false := by assumption) (kmsi : K.msi = false := by assumption) (kshu : K.shu = false := by assumption) (ktrb : K.trb = false := by assumption) : Kept K s0 (State.tsiAlign s f) := by
  unfold State.tsiAlign
  repeat' (first
    | with_reducible assumption | intro _ | with_reducible apply State.when_kept | with_reducible apply State.ev_kept | extract_lets | dsimp only
    | with_reducible apply Kept.upd_trb)

theorem execTsiFrame_kept {K : Keep} {s0 : State} (s : State) (hs : Kept K s0 s) (kirq : K.irq = false := by assumption) (kcyc : K.cyc = false := by assumption) (kmsi : K.msi = false := by assumption) (kshu : K.shu = false := by assumption) (kblt : K.blt = false := by assumption) (ktmg : K.tmg = false := by assumption) (khsl : K.hsl = false := by assumption) (ktrb : K.trb = false := by assumption) : KeptO K s0 (execTsiFrame s) := by
  unfold execTsiFrame
  repeat' (first
    | with_reducible assumption | intro _ | with_reducible apply next_kept | with_reducible apply ite_kept | with_reducible apply ite_fst_kept
    | with_reducible apply foldl_kept | with_reducible apply foldl_fst_kept | with_reducible apply foldl_snd_kept
    | with_reducible apply State.tsiAlign_kept | with_reducible apply State.when_kept | with_reducible apply State.cmSwap_kept
    | with_reducible apply State.tribStop_kept | with_reducible apply State.tribFrame_kept | with_reducible apply State.tsiGive_kept
    | with_reducible apply State.tsiTake_kept | extract_lets | dsimp only | split | with_reducible apply Kept.upd_trb | dsimp +zetaDelta only)

theorem State.cmCtlWrite_kept {K : Keep} {s0 : State} (s : State) (v : Word) (hs : Kept K s0 s) (kirq : K.irq = false := by assumption) (kcyc : K.cyc = false := by assumption) (kmsi : K.msi = false := by assumption) (kshu : K.shu = false := by assumption) (ktrb : K.trb = false := by assumption) : Kept K s0 (State.cmCtlWrite s v) := by
  unfold State.cmCtlWrite
  repeat' (first
    | with_reducible assumption | intro _ | with_reducible apply ite_kept | with_reducible apply ite_fst_kept | with_reducible apply State.ev_kept
    | with_reducible apply State.p_kept | with_reducible apply State.updCyc_kept | with_reducible apply State.when_kept | extract_lets | dsimp only
    | split | with_reducible apply Kept.upd_trb)

theorem State.cmWrite_kept {K : Keep} {s0 : State} (s : State) (k : Nat) (v : Word) (hs : Kept K s0 s) (ktrb : K.trb = false := by assumption) : Kept K s0 (State.cmWrite s k v) := by
  unfold State.cmWrite
  repeat' (first
    | with_reducible assumption | intro _ | with_reducible apply ite_kept | with_reducible apply ite_fst_kept | with_reducible apply State.wrRW_kept
    | with_reducible apply State.wr_kept | with_reducible apply State.when_kept | extract_lets | dsimp only | split | with_reducible apply Kept.upd_trb)

theorem State.trbCtlWrite_kept {K : Keep} {s0 : State} (s : State) (v : Word) (hs : Kept K s0 s) (ktrb : K.trb = false := by assumption) : Kept K s0 (State.trbCtlWrite s v) := by
  unfold State.trbCtlWrite
  repeat' (first
    | with_reducible assumption | with_reducible apply ite_kept | with_reducible apply ite_fst_kept | with_reducible apply State.wrRW_kept | extract_lets
    | dsimp only | split | with_reducible apply Kept.upd_trb)

theorem execCmSwitch_kept {K : Keep} {s0 : State} (ag : Agent) (v : Word) (s : State) (hs : Kept K s0 s) (kirq : K.irq = false := by assumption) (kcyc : K.cyc = false := by assumption) (kmsi : K.msi = false := by assumption) (kshu : K.shu = false := by assumption) (ktrb : K.trb = false := by assumption) : KeptO K s0 (execCmSwitch ag v s) := by
  unfold execCmSwitch
  repeat' (first
    | with_reducible assumption | intro _ | with_reducible apply next_kept | with_reducible apply State.bus_kept
    | with_reducible apply State.cmCtlWrite_kept | dsimp only)

theorem execCmCopy_kept {K : Keep} {s0 : State} (ag : Agent) (v : Word) (s : State) (hs : Kept K s0 s) (kirq : K.irq = false := by assumption) (kcyc : K.cyc = false := by assumption) (kmsi : K.msi = false := by assumption) (kshu : K.shu = false := by assumption) (ktrb : K.trb = false := by assumption) : KeptO K s0 (execCmCopy ag v s) := by
  unfold execCmCopy
  repeat' (first
    | with_reducible assumption | intro _ | with_reducible apply next_kept | with_reducible apply State.bus_kept
    | with_reducible apply State.cmCtlWrite_kept | dsimp only)

theorem execCmCopyDone_kept {K : Keep} {s0 : State} (s : State) (hs : Kept K s0 s) : KeptO K s0 (execCmCopyDone s) := by
  unfold execCmCopyDone
  repeat' (first
    | with_reducible assumption | intro _ | with_reducible apply next_kept | with_reducible apply ite_kept | with_reducible apply ite_fst_kept
    | with_reducible apply foldl_kept | with_reducible apply foldl_fst_kept | with_reducible apply foldl_snd_kept
    | with_reducible apply State.cmLoad_kept | with_reducible apply State.wr_kept | with_reducible apply State.p_kept | extract_lets | dsimp only | split)

theorem execTribPmSecond_kept {K : Keep} {s0 : State} (t : Fin 4096) (s : State) (hs : Kept K s0 s) (kirq : K.irq = false := by assumption) (kcyc : K.cyc = false := by assumption) (kmsi : K.msi = false := by assumption) (kshu : K.shu = false := by assumption) (kblt : K.blt = false := by assumption) (ktrb : K.trb = false := by assumption) : KeptO K s0 (execTribPmSecond t s) := by
  unfold execTribPmSecond
  repeat' (first
    | with_reducible assumption | intro _ | with_reducible apply next_kept | with_reducible apply ite_kept | with_reducible apply ite_fst_kept
    | with_reducible apply State.updEp_kept | with_reducible apply State.tSecond_kept | with_reducible apply State.pmSecond_kept | extract_lets
    | dsimp only | split)

end Sys2Proof.Machine
end

