-- ==== Sys2Proof/Laws/Kept/Time.lean ====
section
/-! SUPPORT. What the operations and meanings of Machine/Time.lean keep: the queue, the clock, the canonical forms, and every
component of the state that they have no business with. -/
namespace Sys2Proof.Machine

set_option linter.all false

theorem State.servoFreq_kept {K : Keep} {s0 : State} (s : State) (e : Int) (ts : Nat) (hs : Kept K s0 s) (kfresh : K.fresh = false := by assumption) (ktim : K.tim = false := by assumption) : Kept K s0 (State.servoFreq s e ts) := by
  unfold State.servoFreq
  repeat' (first
    | with_reducible assumption | intro _ | with_reducible apply ite_kept | with_reducible apply ite_fst_kept | with_reducible apply State.updTim_kept
    | with_reducible apply State.draw_kept | with_reducible apply State.wr_kept | extract_lets | dsimp only | split | (show Time.wf _ = true; assumption)
    | dsimp +zetaDelta only)

theorem State.sample_kept {K : Keep} {s0 : State} (s : State) (e : Int) (ts : Nat) (before : Bool) (hs : Kept K s0 s) (kfresh : K.fresh = false := by assumption) (kirq : K.irq = false := by assumption) (kcyc : K.cyc = false := by assumption) (kmsi : K.msi = false := by assumption) (ktim : K.tim = false := by assumption) (kshu : K.shu = false := by assumption) : Kept K s0 (State.sample s e ts before) := by
  unfold State.sample
  repeat' (first
    | with_reducible assumption | intro _ | with_reducible apply ite_kept | with_reducible apply ite_fst_kept | with_reducible apply State.inc_kept
    | with_reducible apply State.ev_kept | with_reducible apply State.updTim_kept | with_reducible apply State.servoFreq_kept
    | with_reducible apply State.servoState_kept | extract_lets | dsimp only | split | (show Time.wf _ = true; assumption))

theorem execPpsInEdge_kept {K : Keep} {s0 : State} (i : Fin 2) (rising : Bool) (sub : Fin 16) (s : State) (hs : Kept K s0 s) (kirq : K.irq = false := by assumption) (kcyc : K.cyc = false := by assumption) (kmsi : K.msi = false := by assumption) (ktim : K.tim = false := by assumption) (kshu : K.shu = false := by assumption) : KeptO K s0 (execPpsInEdge i rising sub s) := by
  unfold execPpsInEdge
  repeat' (first
    | with_reducible assumption | intro _ | with_reducible apply next_kept | with_reducible apply ite_kept | with_reducible apply ite_fst_kept
    | with_reducible apply State.when_kept | with_reducible apply State.inc_kept | with_reducible apply State.ev_kept
    | with_reducible apply State.wr_kept | with_reducible apply State.updTim_kept | with_reducible apply State.updCyc_kept | extract_lets | dsimp only
    | split | (show Time.wf _ = true; assumption) | dsimp +zetaDelta only)

theorem State.ppsTick_kept {K : Keep} {s0 : State} (s : State) (hs : Kept K s0 s) (kfresh : K.fresh = false := by assumption) (kirq : K.irq = false := by assumption) (kcyc : K.cyc = false := by assumption) (kmsi : K.msi = false := by assumption) (ktim : K.tim = false := by assumption) (kshu : K.shu = false := by assumption) : Kept K s0 (State.ppsTick s) := by
  unfold State.ppsTick
  repeat' (first
    | with_reducible assumption | intro _ | with_reducible apply foldl_kept | with_reducible apply foldl_fst_kept | with_reducible apply foldl_snd_kept
    | with_reducible apply State.sample_kept | dsimp only | split | dsimp +zetaDelta only)

theorem State.ptpOfs_kept {K : Keep} {s0 : State} (s : State) (ag : Agent) (v : Word) (hs : Kept K s0 s) (kfresh : K.fresh = false := by assumption) (kirq : K.irq = false := by assumption) (kcyc : K.cyc = false := by assumption) (kmsi : K.msi = false := by assumption) (ktim : K.tim = false := by assumption) (kshu : K.shu = false := by assumption) : Kept K s0 (State.ptpOfs s ag v) := by
  unfold State.ptpOfs
  repeat' (first
    | with_reducible assumption | with_reducible apply ite_kept | with_reducible apply ite_fst_kept | with_reducible apply State.sample_kept
    | extract_lets | dsimp only | split | dsimp +zetaDelta only)

theorem execPtpOfsWrite_kept {K : Keep} {s0 : State} (ag : Agent) (v : Word) (s : State) (hs : Kept K s0 s) (kfresh : K.fresh = false := by assumption) (kirq : K.irq = false := by assumption) (kcyc : K.cyc = false := by assumption) (kmsi : K.msi = false := by assumption) (ktim : K.tim = false := by assumption) (kshu : K.shu = false := by assumption) : KeptO K s0 (execPtpOfsWrite ag v s) := by
  unfold execPtpOfsWrite
  repeat' (first
    | with_reducible assumption | intro _ | with_reducible apply next_kept | with_reducible apply State.bus_kept | with_reducible apply State.ptpOfs_kept
    | dsimp only)

theorem execServoHoldover_kept {K : Keep} {s0 : State} (s : State) (hs : Kept K s0 s) (kirq : K.irq = false := by assumption) (kcyc : K.cyc = false := by assumption) (kmsi : K.msi = false := by assumption) (ktim : K.tim = false := by assumption) (kshu : K.shu = false := by assumption) : KeptO K s0 (execServoHoldover s) := by
  unfold execServoHoldover
  repeat' (first
    | with_reducible assumption | intro _ | with_reducible apply next_kept | with_reducible apply State.when_kept
    | with_reducible apply State.servoHold_kept | dsimp only)

theorem State.servoWrite_kept {K : Keep} {s0 : State} (s : State) (v : Word) (hs : Kept K s0 s) (kirq : K.irq = false := by assumption) (kcyc : K.cyc = false := by assumption) (kmsi : K.msi = false := by assumption) (ktim : K.tim = false := by assumption) (kshu : K.shu = false := by assumption) : Kept K s0 (State.servoWrite s v) := by
  unfold State.servoWrite
  repeat' (first
    | with_reducible assumption | intro _ | with_reducible apply ite_kept | with_reducible apply ite_fst_kept | with_reducible apply State.wrRW_kept
    | with_reducible apply State.updTim_kept | with_reducible apply State.servoState_kept | extract_lets | dsimp only | split
    | (show Time.wf _ = true; assumption))

theorem State.stepTo_kept {K : Keep} {s0 : State} (s : State) (t : Nat) (abs : Bool) (h : Kept K s0 s) (kirq : K.irq = false := by assumption) (kcyc : K.cyc = false := by assumption) (kmsi : K.msi = false := by assumption) (ktim : K.tim = false := by assumption) (kshu : K.shu = false := by assumption) (kblt : K.blt = false := by assumption) (kpmc : K.pmc = false := by assumption) : Kept K s0 (State.stepTo s t abs) := by
  unfold State.stepTo
  repeat' (first
    | with_reducible assumption
    | with_reducible apply State.updPmc_kept
    | with_reducible apply State.updBlt_kept
    | with_reducible apply State.p_kept
    | with_reducible apply State.ev_kept
    | with_reducible apply State.inc_kept
    | with_reducible apply State.updTim_kept
    | extract_lets)
  intro d hd
  simp only [Time.wf, Bool.and_eq_true, decide_eq_true_eq] at *
  refine ⟨⟨Nat.mod_lt _ (by decide), Nat.mod_lt _ (by decide)⟩, ?_⟩
  split
  · decide
  · exact hd.2

theorem State.stepWrite_kept {K : Keep} {s0 : State} (s : State) (v : Word) (hs : Kept K s0 s) (kirq : K.irq = false := by assumption) (kcyc : K.cyc = false := by assumption) (kmsi : K.msi = false := by assumption) (ktim : K.tim = false := by assumption) (kshu : K.shu = false := by assumption) (kblt : K.blt = false := by assumption) (kpmc : K.pmc = false := by assumption) : Kept K s0 (State.stepWrite s v) := by
  unfold State.stepWrite
  repeat' (first
    | with_reducible assumption | with_reducible apply ite_kept | with_reducible apply ite_fst_kept | with_reducible apply State.wrRW_kept
    | with_reducible apply State.ev_kept | with_reducible apply State.inc_kept | with_reducible apply State.stepTo_kept | extract_lets | dsimp only
    | split)

theorem execTimeStep_kept {K : Keep} {s0 : State} (ag : Agent) (v : Word) (s : State) (hs : Kept K s0 s) (kirq : K.irq = false := by assumption) (kcyc : K.cyc = false := by assumption) (kmsi : K.msi = false := by assumption) (ktim : K.tim = false := by assumption) (kshu : K.shu = false := by assumption) (kblt : K.blt = false := by assumption) (kpmc : K.pmc = false := by assumption) : KeptO K s0 (execTimeStep ag v s) := by
  unfold execTimeStep
  repeat' (first
    | with_reducible assumption | intro _ | with_reducible apply next_kept | with_reducible apply State.bus_kept
    | with_reducible apply State.stepWrite_kept | dsimp only)

theorem State.nowRead_kept {K : Keep} {s0 : State} (s : State) (ag : Agent) (hs : Kept K s0 s) : Kept K s0 (State.nowRead s ag).1 := by
  unfold State.nowRead
  repeat' (first
    | with_reducible assumption | with_reducible apply State.wr_kept | extract_lets | dsimp only)

theorem execTimeNowRead_kept {K : Keep} {s0 : State} (ag : Agent) (s : State) (hs : Kept K s0 s) (kagents : K.agents = false := by assumption) (kirq : K.irq = false := by assumption) (kcyc : K.cyc = false := by assumption) (kmsi : K.msi = false := by assumption) (kshu : K.shu = false := by assumption) : KeptO K s0 (execTimeNowRead ag s) := by
  unfold execTimeNowRead
  repeat' (first
    | with_reducible assumption | intro _ | with_reducible apply next_kept | with_reducible apply State.busRd_kept
    | with_reducible apply State.nowRead_kept | dsimp only)

theorem State.ppsRead_kept {K : Keep} {s0 : State} (s : State) (ag : Agent) (i : Nat) (hs : Kept K s0 s) : Kept K s0 (State.ppsRead s ag i).1 := by
  unfold State.ppsRead
  repeat' (first
    | with_reducible assumption | with_reducible apply State.wr_kept | extract_lets | dsimp only)

theorem execPpsInRead_kept {K : Keep} {s0 : State} (ag : Agent) (i : Fin 2) (s : State) (hs : Kept K s0 s) (kagents : K.agents = false := by assumption) (kirq : K.irq = false := by assumption) (kcyc : K.cyc = false := by assumption) (kmsi : K.msi = false := by assumption) (kshu : K.shu = false := by assumption) : KeptO K s0 (execPpsInRead ag i s) := by
  unfold execPpsInRead
  repeat' (first
    | with_reducible assumption | intro _ | with_reducible apply next_kept | with_reducible apply State.busRd_kept
    | with_reducible apply State.ppsRead_kept | dsimp only)

theorem State.tsPut_kept {K : Keep} {s0 : State} (s : State) (tx : Bool) (e : Word × Word × Word × Word) (hs : Kept K s0 s) (kirq : K.irq = false := by assumption) (kcyc : K.cyc = false := by assumption) (kmsi : K.msi = false := by assumption) (ktim : K.tim = false := by assumption) (kshu : K.shu = false := by assumption) : Kept K s0 (State.tsPut s tx e) := by
  unfold State.tsPut
  repeat' (first
    | with_reducible assumption | intro _ | with_reducible apply ite_kept | with_reducible apply ite_fst_kept | with_reducible apply State.updTim_kept
    | with_reducible apply State.inc_kept | with_reducible apply State.ev_kept | dsimp only | split | (show Time.wf _ = true; assumption))

theorem State.tsReceive_kept {K : Keep} {s0 : State} (s : State) (lane : Nat) (b : List Byte) (sub : Nat) (hs : Kept K s0 s) (kirq : K.irq = false := by assumption) (kcyc : K.cyc = false := by assumption) (kmsi : K.msi = false := by assumption) (ktim : K.tim = false := by assumption) (kshu : K.shu = false := by assumption) : Kept K s0 (State.tsReceive s lane b sub) := by
  unfold State.tsReceive
  repeat' (first
    | with_reducible assumption | with_reducible apply State.tsPut_kept | extract_lets | dsimp only | split | dsimp +zetaDelta only)

theorem execTsFifoPop_kept {K : Keep} {s0 : State} (ag : Agent) (tx : Bool) (s : State) (hs : Kept K s0 s) (kagents : K.agents = false := by assumption) (kirq : K.irq = false := by assumption) (kcyc : K.cyc = false := by assumption) (kmsi : K.msi = false := by assumption) (ktim : K.tim = false := by assumption) (kshu : K.shu = false := by assumption) : KeptO K s0 (execTsFifoPop ag tx s) := by
  unfold execTsFifoPop
  repeat' (first
    | with_reducible assumption | intro _ | with_reducible apply next_kept | with_reducible apply ite_kept | with_reducible apply ite_fst_kept
    | with_reducible apply State.busRd_kept | with_reducible apply State.updTim_kept | extract_lets | dsimp only | split
    | (show Time.wf _ = true; assumption))

theorem State.ptpTxWrite_kept {K : Keep} {s0 : State} (s : State) (ag : Agent) (v : Word) (hs : Kept K s0 s) (ktim : K.tim = false := by assumption) (khsl : K.hsl = false := by assumption) : Kept K s0 (State.ptpTxWrite s ag v) := by
  unfold State.ptpTxWrite
  repeat' (first
    | with_reducible assumption | intro _ | with_reducible apply ite_kept | with_reducible apply ite_fst_kept | with_reducible apply State.wrMask_kept
    | with_reducible apply State.p_kept | with_reducible apply State.lpiTxEnd_kept | with_reducible apply State.updTim_kept | extract_lets | dsimp only
    | split | (show Time.wf _ = true; assumption))

theorem execPtpTxGo_kept {K : Keep} {s0 : State} (ag : Agent) (v : Word) (s : State) (hs : Kept K s0 s) (kirq : K.irq = false := by assumption) (kcyc : K.cyc = false := by assumption) (kmsi : K.msi = false := by assumption) (ktim : K.tim = false := by assumption) (kshu : K.shu = false := by assumption) (khsl : K.hsl = false := by assumption) : KeptO K s0 (execPtpTxGo ag v s) := by
  unfold execPtpTxGo
  repeat' (first
    | with_reducible assumption | intro _ | with_reducible apply next_kept | with_reducible apply State.bus_kept
    | with_reducible apply State.ptpTxWrite_kept | dsimp only)

theorem execPtpTxSend_kept {K : Keep} {s0 : State} (ag : Agent) (sub : Fin 16) (s : State) (hs : Kept K s0 s) (kirq : K.irq = false := by assumption) (kcyc : K.cyc = false := by assumption) (kmsi : K.msi = false := by assumption) (ktim : K.tim = false := by assumption) (kshu : K.shu = false := by assumption) : KeptO K s0 (execPtpTxSend ag sub s) := by
  unfold execPtpTxSend
  repeat' (first
    | with_reducible assumption | intro _ | with_reducible apply next_kept | with_reducible apply ite_kept | with_reducible apply ite_fst_kept
    | with_reducible apply State.inc_kept | with_reducible apply State.add_kept | with_reducible apply State.tsPut_kept
    | with_reducible apply State.p_kept | with_reducible apply State.updTim_kept | extract_lets | dsimp only | split
    | (show Time.wf _ = true; assumption) | dsimp +zetaDelta only)

theorem State.todUpdate_kept {K : Keep} {s0 : State} (s : State) (c : Nat) (hs : Kept K s0 s) : Kept K s0 (State.todUpdate s c) := by
  unfold State.todUpdate
  repeat' (first
    | with_reducible assumption | with_reducible apply ite_kept | with_reducible apply ite_fst_kept | with_reducible apply State.wr_kept
    | with_reducible apply State.p_kept | extract_lets | dsimp only | split)

theorem execTodUpdate_kept {K : Keep} {s0 : State} (s : State) (hs : Kept K s0 s) (ktim : K.tim = false := by assumption) : KeptO K s0 (execTodUpdate s) := by
  unfold execTodUpdate
  repeat' (first
    | with_reducible assumption | intro _ | with_reducible apply next_kept | with_reducible apply iter_kept | with_reducible apply State.when_kept
    | with_reducible apply State.todUpdate_kept | with_reducible apply State.updTim_kept | dsimp only | (show Time.wf _ = true; assumption))

theorem State.trigArm_kept {K : Keep} {s0 : State} (s : State) (j : Nat) (hs : Kept K s0 s) (kirq : K.irq = false := by assumption) (kcyc : K.cyc = false := by assumption) (kmsi : K.msi = false := by assumption) (ktim : K.tim = false := by assumption) (kshu : K.shu = false := by assumption) : Kept K s0 (State.trigArm s j) := by
  unfold State.trigArm
  repeat' (first
    | with_reducible assumption | intro _ | with_reducible apply ite_kept | with_reducible apply ite_fst_kept | with_reducible apply State.updTim_kept
    | with_reducible apply State.ev_kept | with_reducible apply State.updCyc_kept | extract_lets | dsimp only | split
    | (show Time.wf _ = true; assumption))

theorem State.pinAct_kept {K : Keep} {s0 : State} (s : State) (j : Nat) (pin : Nat) (act : Nat) (at_ : Nat) (hs : Kept K s0 s) (ktim : K.tim = false := by assumption) : Kept K s0 (State.pinAct s j pin act at_) := by
  unfold State.pinAct
  repeat' (first
    | with_reducible assumption | intro _ | with_reducible apply ite_kept | with_reducible apply ite_fst_kept | with_reducible apply State.updTim_kept
    | extract_lets | dsimp only | split | (show Time.wf _ = true; assumption) | dsimp +zetaDelta only)

theorem State.trigFire_kept {K : Keep} {s0 : State} (s : State) (j : Nat) (hs : Kept K s0 s) (kirq : K.irq = false := by assumption) (kcyc : K.cyc = false := by assumption) (kmsi : K.msi = false := by assumption) (ktim : K.tim = false := by assumption) (kshu : K.shu = false := by assumption) (kblt : K.blt = false := by assumption) (kpmc : K.pmc = false := by assumption) : Kept K s0 (State.trigFire s j) := by
  unfold State.trigFire
  repeat' (first
    | with_reducible assumption | intro _ | with_reducible apply ite_kept | with_reducible apply ite_fst_kept | with_reducible apply State.updTim_kept
    | with_reducible apply State.when_kept | with_reducible apply State.wr64_kept | with_reducible apply State.wr_kept
    | with_reducible apply State.pinAct_kept | with_reducible apply State.pmRoll_kept | with_reducible apply State.dumpReq_kept
    | with_reducible apply State.event_kept | with_reducible apply State.bindEvent_kept | extract_lets | dsimp only | split
    | (show Time.wf _ = true; assumption))

theorem State.trigWrite_kept {K : Keep} {s0 : State} (s : State) (ag : Agent) (j : Nat) (w : Nat) (v : Word) (hs : Kept K s0 s) (kagents : K.agents = false := by assumption) (kirq : K.irq = false := by assumption) (kcyc : K.cyc = false := by assumption) (kmsi : K.msi = false := by assumption) (ktim : K.tim = false := by assumption) (kshu : K.shu = false := by assumption) (kblt : K.blt = false := by assumption) (kpmc : K.pmc = false := by assumption) : Kept K s0 (State.trigWrite s ag j w v) := by
  unfold State.trigWrite
  repeat' (first
    | with_reducible assumption | intro _ | with_reducible apply ite_kept | with_reducible apply ite_fst_kept | with_reducible apply State.wrRW_kept
    | with_reducible apply State.updTim_kept | with_reducible apply State.when_kept | with_reducible apply State.trigFire_kept
    | with_reducible apply State.pairLo_kept | with_reducible apply State.trigArm_kept | with_reducible apply State.pairHi_kept
    | with_reducible apply State.wrSqc_kept | extract_lets | dsimp only | split | (show Time.wf _ = true; assumption))

theorem execTriggerArm_kept {K : Keep} {s0 : State} (ag : Agent) (j : Fin 32) (v : Word) (s : State) (hs : Kept K s0 s) (kagents : K.agents = false := by assumption) (kirq : K.irq = false := by assumption) (kcyc : K.cyc = false := by assumption) (kmsi : K.msi = false := by assumption) (ktim : K.tim = false := by assumption) (kshu : K.shu = false := by assumption) (kblt : K.blt = false := by assumption) (kpmc : K.pmc = false := by assumption) : KeptO K s0 (execTriggerArm ag j v s) := by
  unfold execTriggerArm
  repeat' (first
    | with_reducible assumption | intro _ | with_reducible apply next_kept | with_reducible apply State.bus_kept
    | with_reducible apply State.trigWrite_kept | dsimp only)

theorem execTriggerFire_kept {K : Keep} {s0 : State} (j : Fin 32) (s : State) (hs : Kept K s0 s) (kirq : K.irq = false := by assumption) (kcyc : K.cyc = false := by assumption) (kmsi : K.msi = false := by assumption) (ktim : K.tim = false := by assumption) (kshu : K.shu = false := by assumption) (kblt : K.blt = false := by assumption) (kpmc : K.pmc = false := by assumption) : KeptO K s0 (execTriggerFire j s) := by
  unfold execTriggerFire
  repeat' (first
    | with_reducible assumption | intro _ | with_reducible apply next_kept | with_reducible apply State.when_kept
    | with_reducible apply State.trigFire_kept | dsimp only)

theorem execPulseEnd_kept {K : Keep} {s0 : State} (pin : Fin 34) (s : State) (hs : Kept K s0 s) (ktim : K.tim = false := by assumption) : KeptO K s0 (execPulseEnd pin s) := by
  unfold execPulseEnd
  repeat' (first
    | with_reducible assumption | intro _ | with_reducible apply next_kept | with_reducible apply State.when_kept
    | with_reducible apply State.updTim_kept | dsimp only | split | (show Time.wf _ = true; assumption) | dsimp +zetaDelta only)

end Sys2Proof.Machine
end

