-- ==== Sys2Proof/Laws/Kept/Uplink.lean ====
section
/-! SUPPORT. What the operations and meanings of Machine/Uplink.lean keep: the queue, the clock, the canonical forms, and every
component of the state that they have no business with. -/
namespace Sys2Proof.Machine

set_option linter.all false

theorem State.portStart_kept {K : Keep} {s0 : State} (s : State) (l : Nat) (w : Nat) (ctl : Word) (hs : Kept K s0 s) (kfresh : K.fresh = false := by assumption) (kirq : K.irq = false := by assumption) (kcyc : K.cyc = false := by assumption) (kmsi : K.msi = false := by assumption) (ktmp : K.tmp = false := by assumption) (ktim : K.tim = false := by assumption) (kshu : K.shu = false := by assumption) (kblt : K.blt = false := by assumption) (khsl : K.hsl = false := by assumption) : Kept K s0 (State.portStart s l w ctl) := by
  unfold State.portStart
  repeat' (first
    | with_reducible assumption | intro _ | with_reducible apply iter_kept | with_reducible apply ite_kept | with_reducible apply ite_fst_kept
    | with_reducible apply State.p_kept | with_reducible apply State.updHsl_kept | with_reducible apply State.setPort_kept
    | with_reducible apply State.blankPort_kept | extract_lets | dsimp only | split)

theorem State.portEnable_kept {K : Keep} {s0 : State} (s : State) (l : Nat) (hs : Kept K s0 s) (kfresh : K.fresh = false := by assumption) (kirq : K.irq = false := by assumption) (kcyc : K.cyc = false := by assumption) (kmsi : K.msi = false := by assumption) (ktmp : K.tmp = false := by assumption) (ktim : K.tim = false := by assumption) (kshu : K.shu = false := by assumption) (kblt : K.blt = false := by assumption) (khsl : K.hsl = false := by assumption) : Kept K s0 (State.portEnable s l) := by
  unfold State.portEnable
  repeat' (first
    | with_reducible assumption | with_reducible apply ite_kept | with_reducible apply ite_fst_kept | with_reducible apply State.p_kept
    | with_reducible apply State.portStart_kept | with_reducible apply State.ev_kept | extract_lets | dsimp only | split)

theorem State.laneDown_kept {K : Keep} {s0 : State} (s : State) (l : Nat) (hs : Kept K s0 s) (khsl : K.hsl = false := by assumption) : Kept K s0 (State.laneDown s l) := by
  unfold State.laneDown
  repeat' (first
    | with_reducible assumption | intro _ | with_reducible apply ite_kept | with_reducible apply ite_fst_kept | with_reducible apply State.p_kept
    | with_reducible apply State.updHsl_kept | extract_lets | dsimp only | split)

theorem State.portDisable_kept {K : Keep} {s0 : State} (s : State) (l : Nat) (hs : Kept K s0 s) (kfresh : K.fresh = false := by assumption) (kirq : K.irq = false := by assumption) (kcyc : K.cyc = false := by assumption) (kmsi : K.msi = false := by assumption) (ktmp : K.tmp = false := by assumption) (ktim : K.tim = false := by assumption) (kshu : K.shu = false := by assumption) (kblt : K.blt = false := by assumption) (khsl : K.hsl = false := by assumption) : Kept K s0 (State.portDisable s l) := by
  unfold State.portDisable
  repeat' (first
    | with_reducible assumption | intro _ | with_reducible apply iter_kept | with_reducible apply ite_kept | with_reducible apply ite_fst_kept
    | with_reducible apply State.lpiTxEnd_kept | with_reducible apply State.lpiRxEnd_kept | with_reducible apply State.laneDown_kept
    | with_reducible apply State.recCheck_kept | extract_lets | dsimp only | split)

theorem State.hslCtlWrite_kept {K : Keep} {s0 : State} (s : State) (l : Nat) (v : Word) (hs : Kept K s0 s) (kfresh : K.fresh = false := by assumption) (kirq : K.irq = false := by assumption) (kcyc : K.cyc = false := by assumption) (kmsi : K.msi = false := by assumption) (ktmp : K.tmp = false := by assumption) (ktim : K.tim = false := by assumption) (kshu : K.shu = false := by assumption) (kblt : K.blt = false := by assumption) (khsl : K.hsl = false := by assumption) : Kept K s0 (State.hslCtlWrite s l v) := by
  unfold State.hslCtlWrite
  repeat' (first
    | with_reducible assumption | with_reducible apply ite_kept | with_reducible apply ite_fst_kept | with_reducible apply State.wrRW_kept
    | with_reducible apply State.portEnable_kept | with_reducible apply State.portDisable_kept | extract_lets | dsimp only | split)

theorem execPortEnable_kept {K : Keep} {s0 : State} (ag : Agent) (l : Fin 32) (v : Word) (s : State) (hs : Kept K s0 s) (kfresh : K.fresh = false := by assumption) (kirq : K.irq = false := by assumption) (kcyc : K.cyc = false := by assumption) (kmsi : K.msi = false := by assumption) (ktmp : K.tmp = false := by assumption) (ktim : K.tim = false := by assumption) (kshu : K.shu = false := by assumption) (kblt : K.blt = false := by assumption) (khsl : K.hsl = false := by assumption) : KeptO K s0 (execPortEnable ag l v s) := by
  unfold execPortEnable
  repeat' (first
    | with_reducible assumption | intro _ | with_reducible apply next_kept | with_reducible apply State.bus_kept
    | with_reducible apply State.hslCtlWrite_kept | dsimp only)

theorem execPortDisable_kept {K : Keep} {s0 : State} (ag : Agent) (l : Fin 32) (v : Word) (s : State) (hs : Kept K s0 s) (kfresh : K.fresh = false := by assumption) (kirq : K.irq = false := by assumption) (kcyc : K.cyc = false := by assumption) (kmsi : K.msi = false := by assumption) (ktmp : K.tmp = false := by assumption) (ktim : K.tim = false := by assumption) (kshu : K.shu = false := by assumption) (kblt : K.blt = false := by assumption) (khsl : K.hsl = false := by assumption) : KeptO K s0 (execPortDisable ag l v s) := by
  unfold execPortDisable
  repeat' (first
    | with_reducible assumption | intro _ | with_reducible apply next_kept | with_reducible apply State.bus_kept
    | with_reducible apply State.hslCtlWrite_kept | dsimp only)

theorem execPortUp_kept {K : Keep} {s0 : State} (p : Fin 32) (s : State) (hs : Kept K s0 s) (kfresh : K.fresh = false := by assumption) (kirq : K.irq = false := by assumption) (kcyc : K.cyc = false := by assumption) (kmsi : K.msi = false := by assumption) (ktmp : K.tmp = false := by assumption) (ktim : K.tim = false := by assumption) (kshu : K.shu = false := by assumption) (kblt : K.blt = false := by assumption) (khsl : K.hsl = false := by assumption) : KeptO K s0 (execPortUp p s) := by
  unfold execPortUp
  repeat' (first
    | with_reducible assumption | intro _ | with_reducible apply next_kept | with_reducible apply State.when_kept
    | with_reducible apply State.setPort_kept | dsimp only)

theorem State.laneRaise_kept {K : Keep} {s0 : State} (s : State) (l : Nat) (i : Nat) (live : Fld) (evt : Fld) (hs : Kept K s0 s) (kfresh : K.fresh = false := by assumption) (kirq : K.irq = false := by assumption) (kcyc : K.cyc = false := by assumption) (kmsi : K.msi = false := by assumption) (ktmp : K.tmp = false := by assumption) (ktim : K.tim = false := by assumption) (kshu : K.shu = false := by assumption) (kblt : K.blt = false := by assumption) (khsl : K.hsl = false := by assumption) : Kept K s0 (State.laneRaise s l i live evt) := by
  unfold State.laneRaise
  repeat' (first
    | with_reducible assumption | intro _ | with_reducible apply ite_kept | with_reducible apply ite_fst_kept | with_reducible apply State.inc_kept
    | with_reducible apply State.updHsl_kept | with_reducible apply State.p_kept | with_reducible apply State.ev_kept
    | with_reducible apply State.boltEvent_kept | with_reducible apply State.setPort_kept | extract_lets | dsimp only | split)

theorem State.laneClear_kept {K : Keep} {s0 : State} (s : State) (l : Nat) (i : Nat) (live : Fld) (evt : Fld) (hs : Kept K s0 s) (kirq : K.irq = false := by assumption) (kcyc : K.cyc = false := by assumption) (kmsi : K.msi = false := by assumption) (kshu : K.shu = false := by assumption) (kblt : K.blt = false := by assumption) (khsl : K.hsl = false := by assumption) : Kept K s0 (State.laneClear s l i live evt) := by
  unfold State.laneClear
  repeat' (first
    | with_reducible assumption | intro _ | with_reducible apply ite_kept | with_reducible apply ite_fst_kept | with_reducible apply State.updHsl_kept
    | with_reducible apply State.p_kept | with_reducible apply State.ev_kept | with_reducible apply State.boltEvent_kept | extract_lets | dsimp only
    | split)

theorem execHslLosRaise_kept {K : Keep} {s0 : State} (l : Fin 32) (us : Nat) (s : State) (hs : Kept K s0 s) (kfresh : K.fresh = false := by assumption) (kirq : K.irq = false := by assumption) (kcyc : K.cyc = false := by assumption) (kmsi : K.msi = false := by assumption) (ktmp : K.tmp = false := by assumption) (ktim : K.tim = false := by assumption) (kshu : K.shu = false := by assumption) (kblt : K.blt = false := by assumption) (khsl : K.hsl = false := by assumption) : KeptO K s0 (execHslLosRaise l us s) := by
  unfold execHslLosRaise
  repeat' (first
    | with_reducible assumption | intro _ | with_reducible apply next_kept | with_reducible apply State.when_kept
    | with_reducible apply State.laneRaise_kept | dsimp only)

theorem execHslLosClear_kept {K : Keep} {s0 : State} (l : Fin 32) (ms : Nat) (s : State) (hs : Kept K s0 s) (kirq : K.irq = false := by assumption) (kcyc : K.cyc = false := by assumption) (kmsi : K.msi = false := by assumption) (kshu : K.shu = false := by assumption) (kblt : K.blt = false := by assumption) (khsl : K.hsl = false := by assumption) : KeptO K s0 (execHslLosClear l ms s) := by
  unfold execHslLosClear
  repeat' (first
    | with_reducible assumption | intro _ | with_reducible apply next_kept | with_reducible apply State.when_kept
    | with_reducible apply State.laneClear_kept | dsimp only)

theorem execHslLolRaise_kept {K : Keep} {s0 : State} (l : Fin 32) (s : State) (hs : Kept K s0 s) (kfresh : K.fresh = false := by assumption) (kirq : K.irq = false := by assumption) (kcyc : K.cyc = false := by assumption) (kmsi : K.msi = false := by assumption) (ktmp : K.tmp = false := by assumption) (ktim : K.tim = false := by assumption) (kshu : K.shu = false := by assumption) (kblt : K.blt = false := by assumption) (khsl : K.hsl = false := by assumption) : KeptO K s0 (execHslLolRaise l s) := by
  unfold execHslLolRaise
  repeat' (first
    | with_reducible assumption | intro _ | with_reducible apply next_kept | with_reducible apply State.when_kept
    | with_reducible apply State.laneRaise_kept | dsimp only)

theorem execHslLolClear_kept {K : Keep} {s0 : State} (l : Fin 32) (s : State) (hs : Kept K s0 s) (kirq : K.irq = false := by assumption) (kcyc : K.cyc = false := by assumption) (kmsi : K.msi = false := by assumption) (kshu : K.shu = false := by assumption) (kblt : K.blt = false := by assumption) (khsl : K.hsl = false := by assumption) : KeptO K s0 (execHslLolClear l s) := by
  unfold execHslLolClear
  repeat' (first
    | with_reducible assumption | with_reducible apply next_kept | with_reducible apply State.laneClear_kept)

theorem execLoamRaise_kept {K : Keep} {s0 : State} (l : Fin 32) (s : State) (hs : Kept K s0 s) (kfresh : K.fresh = false := by assumption) (kirq : K.irq = false := by assumption) (kcyc : K.cyc = false := by assumption) (kmsi : K.msi = false := by assumption) (ktmp : K.tmp = false := by assumption) (ktim : K.tim = false := by assumption) (kshu : K.shu = false := by assumption) (kblt : K.blt = false := by assumption) (khsl : K.hsl = false := by assumption) : KeptO K s0 (execLoamRaise l s) := by
  unfold execLoamRaise
  repeat' (first
    | with_reducible assumption | intro _ | with_reducible apply next_kept | with_reducible apply State.when_kept
    | with_reducible apply State.laneRaise_kept | dsimp only)

theorem execLoamClear_kept {K : Keep} {s0 : State} (l : Fin 32) (s : State) (hs : Kept K s0 s) (kirq : K.irq = false := by assumption) (kcyc : K.cyc = false := by assumption) (kmsi : K.msi = false := by assumption) (kshu : K.shu = false := by assumption) (kblt : K.blt = false := by assumption) (khsl : K.hsl = false := by assumption) : KeptO K s0 (execLoamClear l s) := by
  unfold execLoamClear
  repeat' (first
    | with_reducible assumption | with_reducible apply next_kept | with_reducible apply State.laneClear_kept)

theorem State.portBlankEnd_kept {K : Keep} {s0 : State} (s : State) (l : Nat) (hs : Kept K s0 s) (kfresh : K.fresh = false := by assumption) (kirq : K.irq = false := by assumption) (kcyc : K.cyc = false := by assumption) (kmsi : K.msi = false := by assumption) (ktmp : K.tmp = false := by assumption) (ktim : K.tim = false := by assumption) (kshu : K.shu = false := by assumption) (kblt : K.blt = false := by assumption) (khsl : K.hsl = false := by assumption) : Kept K s0 (State.portBlankEnd s l) := by
  unfold State.portBlankEnd
  repeat' (first
    | with_reducible assumption | intro _ | with_reducible apply State.updHsl_kept | with_reducible apply State.when_kept
    | with_reducible apply State.laneRaise_kept | extract_lets | dsimp only)

theorem execUplinkFrameReceive_kept {K : Keep} {s0 : State} (p : Fin 32) (bytes : List Byte) (fcsOk : Bool) (corr : Nat) (uncorr : Nat) (sub : Fin 16) (s : State) (hs : Kept K s0 s) (kirq : K.irq = false := by assumption) (kcyc : K.cyc = false := by assumption) (kmsi : K.msi = false := by assumption) (ktim : K.tim = false := by assumption) (kshu : K.shu = false := by assumption) (kcls : K.cls = false := by assumption) : KeptO K s0 (execUplinkFrameReceive p bytes fcsOk corr uncorr sub s) := by
  unfold execUplinkFrameReceive
  repeat' (first
    | with_reducible assumption | intro _ | with_reducible apply next_kept | with_reducible apply ite_kept | with_reducible apply ite_fst_kept
    | with_reducible apply State.inc_kept | with_reducible apply State.when_kept | with_reducible apply State.add_kept
    | with_reducible apply State.tsReceive_kept | with_reducible apply State.pipeIn_kept | extract_lets | dsimp only | split)

theorem execTxLpiEnter_kept {K : Keep} {s0 : State} (p : Fin 32) (us : Nat) (s : State) (hs : Kept K s0 s) (khsl : K.hsl = false := by assumption) : KeptO K s0 (execTxLpiEnter p us s) := by
  unfold execTxLpiEnter
  repeat' (first
    | with_reducible assumption | intro _ | with_reducible apply next_kept | with_reducible apply State.when_kept
    | with_reducible apply State.updHsl_kept | dsimp only)

theorem execRxLpiSignal_kept {K : Keep} {s0 : State} (p : Fin 32) (enter : Bool) (s : State) (hs : Kept K s0 s) (khsl : K.hsl = false := by assumption) : KeptO K s0 (execRxLpiSignal p enter s) := by
  unfold execRxLpiSignal
  repeat' (first
    | with_reducible assumption | intro _ | with_reducible apply next_kept | with_reducible apply ite_kept | with_reducible apply ite_fst_kept
    | with_reducible apply State.when_kept | with_reducible apply State.lpiRxEnd_kept | with_reducible apply State.updHsl_kept | dsimp only | split
    | dsimp +zetaDelta only)

theorem State.uportMove_kept {K : Keep} {s0 : State} (s : State) (p : Nat) (q : Nat) (hs : Kept K s0 s) (ktmg : K.tmg = false := by assumption) : Kept K s0 (State.uportMove s p q) := by
  unfold State.uportMove
  repeat' (first
    | with_reducible assumption | intro _ | with_reducible apply iter_kept | with_reducible apply ite_kept | with_reducible apply ite_fst_kept
    | with_reducible apply State.updTmg_kept | with_reducible apply State.wr_kept | extract_lets | dsimp only | split)

theorem State.laneRetire_kept {K : Keep} {s0 : State} (s : State) (l : Nat) (hs : Kept K s0 s) (kfresh : K.fresh = false := by assumption) (kirq : K.irq = false := by assumption) (kcyc : K.cyc = false := by assumption) (kmsi : K.msi = false := by assumption) (ktmp : K.tmp = false := by assumption) (ktim : K.tim = false := by assumption) (kshu : K.shu = false := by assumption) (kblt : K.blt = false := by assumption) (ktmg : K.tmg = false := by assumption) (khsl : K.hsl = false := by assumption) : Kept K s0 (State.laneRetire s l) := by
  unfold State.laneRetire
  repeat' (first
    | with_reducible assumption | intro _ | with_reducible apply iter_kept | with_reducible apply ite_kept | with_reducible apply ite_fst_kept
    | with_reducible apply State.lpiTxEnd_kept | with_reducible apply State.lpiRxEnd_kept | with_reducible apply State.p_kept
    | with_reducible apply State.laneDown_kept | with_reducible apply State.recCheck_kept | with_reducible apply State.uportMove_kept
    | with_reducible apply State.portStart_kept | with_reducible apply State.ev_kept | extract_lets | dsimp only | split | dsimp +zetaDelta only)

end Sys2Proof.Machine
end

