-- ==== Sys2Proof/Laws/Kept/Selvedge.lean ====
section
/-! SUPPORT. What the operations and meanings of Machine/Selvedge.lean keep: the queue, the clock, the canonical forms, and every
component of the state that they have no business with. -/
namespace Sys2Proof.Machine

set_option linter.all false

theorem State.svLock_kept {K : Keep} {s0 : State} (s : State) (i : Nat) (b : Bool) (hs : Kept K s0 s) : Kept K s0 (State.svLock s i b) := by
  unfold State.svLock
  repeat' (first
    | with_reducible assumption | with_reducible apply State.p_kept)

theorem State.svDiscard_kept {K : Keep} {s0 : State} (s : State) (hs : Kept K s0 s) (kirq : K.irq = false := by assumption) (kcyc : K.cyc = false := by assumption) (kmsi : K.msi = false := by assumption) (kshu : K.shu = false := by assumption) (kslv : K.slv = false := by assumption) : Kept K s0 (State.svDiscard s) := by
  unfold State.svDiscard
  repeat' (first
    | with_reducible assumption | intro _ | with_reducible apply ite_kept | with_reducible apply ite_fst_kept | with_reducible apply State.updSlv_kept
    | with_reducible apply State.inc_kept | with_reducible apply State.ev_kept | dsimp only | split)

theorem State.svLink_kept {K : Keep} {s0 : State} (s : State) (hs : Kept K s0 s) (kirq : K.irq = false := by assumption) (kcyc : K.cyc = false := by assumption) (kmsi : K.msi = false := by assumption) (kshu : K.shu = false := by assumption) (kslv : K.slv = false := by assumption) : Kept K s0 (State.svLink s) := by
  unfold State.svLink
  repeat' (first
    | with_reducible assumption | intro _ | with_reducible apply ite_kept | with_reducible apply ite_fst_kept | with_reducible apply State.p_kept
    | with_reducible apply State.ev_kept | with_reducible apply State.svDiscard_kept | extract_lets | dsimp only | split)

theorem State.svSearch_kept {K : Keep} {s0 : State} (s : State) (i : Nat) (hs : Kept K s0 s) (kirq : K.irq = false := by assumption) (kcyc : K.cyc = false := by assumption) (kmsi : K.msi = false := by assumption) (kshu : K.shu = false := by assumption) (kslv : K.slv = false := by assumption) : Kept K s0 (State.svSearch s i) := by
  unfold State.svSearch
  repeat' (first
    | with_reducible assumption | intro _ | with_reducible apply State.svLock_kept | with_reducible apply State.inc_kept
    | with_reducible apply State.updSlv_kept | with_reducible apply State.svLink_kept | dsimp only)

theorem execSvAlignmentMarker_kept {K : Keep} {s0 : State} (i : Fin 4) (b : List Byte) (onTime : Bool) (s : State) (hs : Kept K s0 s) (kirq : K.irq = false := by assumption) (kcyc : K.cyc = false := by assumption) (kmsi : K.msi = false := by assumption) (kshu : K.shu = false := by assumption) (kslv : K.slv = false := by assumption) : KeptO K s0 (execSvAlignmentMarker i b onTime s) := by
  unfold execSvAlignmentMarker
  repeat' (first
    | with_reducible assumption | intro _ | with_reducible apply next_kept | with_reducible apply ite_kept | with_reducible apply ite_fst_kept
    | with_reducible apply State.when_kept | with_reducible apply State.updSlv_kept | with_reducible apply State.svLink_kept
    | with_reducible apply State.svSearch_kept | with_reducible apply State.svLock_kept | extract_lets | dsimp only | split)

theorem execSvMarkerLoss_kept {K : Keep} {s0 : State} (i : Fin 4) (s : State) (hs : Kept K s0 s) (kirq : K.irq = false := by assumption) (kcyc : K.cyc = false := by assumption) (kmsi : K.msi = false := by assumption) (kshu : K.shu = false := by assumption) (kslv : K.slv = false := by assumption) : KeptO K s0 (execSvMarkerLoss i s) := by
  unfold execSvMarkerLoss
  repeat' (first
    | with_reducible assumption | intro _ | with_reducible apply next_kept | with_reducible apply State.when_kept
    | with_reducible apply State.svSearch_kept | dsimp only)

theorem State.slvCtlWrite_kept {K : Keep} {s0 : State} (s : State) (v : Word) (hs : Kept K s0 s) (kirq : K.irq = false := by assumption) (kcyc : K.cyc = false := by assumption) (kmsi : K.msi = false := by assumption) (kshu : K.shu = false := by assumption) (kslv : K.slv = false := by assumption) : Kept K s0 (State.slvCtlWrite s v) := by
  unfold State.slvCtlWrite
  repeat' (first
    | with_reducible assumption | intro _ | with_reducible apply ite_kept | with_reducible apply ite_fst_kept | with_reducible apply State.wrRW_kept
    | with_reducible apply State.when_kept | with_reducible apply State.updSlv_kept | with_reducible apply State.p_kept
    | with_reducible apply State.svLink_kept | extract_lets | dsimp only | split)

theorem State.svSend_kept {K : Keep} {s0 : State} (s : State) (bs : List SvBlock) (hs : Kept K s0 s) (kfresh : K.fresh = false := by assumption) (kslv : K.slv = false := by assumption) : Kept K s0 (State.svSend s bs) := by
  unfold State.svSend
  repeat' (first
    | with_reducible assumption | intro _ | with_reducible apply iter_kept | with_reducible apply iter_snd_kept | with_reducible apply ite_kept
    | with_reducible apply ite_fst_kept | with_reducible apply State.drawNat_kept | with_reducible apply State.draw_kept
    | with_reducible apply State.updSlv_kept | extract_lets | dsimp only | split)

theorem State.svSendMsg_kept {K : Keep} {s0 : State} (s : State) (mt : Nat) (d : List Byte) (hs : Kept K s0 s) (kfresh : K.fresh = false := by assumption) (kslv : K.slv = false := by assumption) : Kept K s0 (State.svSendMsg s mt d) := by
  unfold State.svSendMsg
  repeat' (first
    | with_reducible assumption | intro _ | with_reducible apply State.svSend_kept | with_reducible apply State.updSlv_kept | dsimp only)

theorem State.light_kept {K : Keep} {s0 : State} (s : State) (c : Nat) (delta : Int) (hs : Kept K s0 s) (kpch : K.pch = false := by assumption) (kslots : K.slots = false := by assumption) (kshd : K.shd = false := by assumption) : Kept K s0 (State.light s c delta) := by
  unfold State.light
  repeat' (first
    | with_reducible assumption | intro _ | with_reducible apply iter_kept | with_reducible apply ite_kept | with_reducible apply ite_fst_kept
    | with_reducible apply State.updPch_kept | with_reducible apply State.overRegs_kept | with_reducible apply State.p_kept
    | with_reducible apply State.eqTouch_kept | with_reducible apply State.updSlot_kept | with_reducible apply State.enterActive_kept | extract_lets
    | dsimp only | split)

theorem State.heartbeat_kept {K : Keep} {s0 : State} (s : State) (hs : Kept K s0 s) (kfresh : K.fresh = false := by assumption) (kslv : K.slv = false := by assumption) : Kept K s0 (State.heartbeat s) := by
  unfold State.heartbeat
  repeat' (first
    | with_reducible assumption | intro _ | with_reducible apply ite_kept | with_reducible apply ite_fst_kept | with_reducible apply State.updSlv_kept
    | with_reducible apply State.svSend_kept | with_reducible apply State.inc_kept | extract_lets | dsimp only | split)

theorem State.claimClear_kept {K : Keep} {s0 : State} (s : State) (hs : Kept K s0 s) : Kept K s0 (State.claimClear s) := by
  unfold State.claimClear
  repeat' (first
    | with_reducible assumption | with_reducible apply State.p_kept)

theorem State.takeOver_kept {K : Keep} {s0 : State} (s : State) (hs : Kept K s0 s) (kfresh : K.fresh = false := by assumption) (kirq : K.irq = false := by assumption) (kcyc : K.cyc = false := by assumption) (kmsi : K.msi = false := by assumption) (kpch : K.pch = false := by assumption) (kslots : K.slots = false := by assumption) (kshd : K.shd = false := by assumption) (kshu : K.shu = false := by assumption) (kslv : K.slv = false := by assumption) : Kept K s0 (State.takeOver s) := by
  unfold State.takeOver
  repeat' (first
    | with_reducible assumption | intro _ | with_reducible apply iter_kept | with_reducible apply ite_kept | with_reducible apply ite_fst_kept
    | with_reducible apply State.protEnter_kept | with_reducible apply State.p_kept | with_reducible apply State.updSlv_kept
    | with_reducible apply State.heartbeat_kept | with_reducible apply State.light_kept | with_reducible apply State.inc_kept
    | with_reducible apply State.ev_kept | extract_lets | dsimp only | split)

theorem State.handSend_kept {K : Keep} {s0 : State} (s : State) (f : Nat) (act : Nat) (hs : Kept K s0 s) (kfresh : K.fresh = false := by assumption) (kslv : K.slv = false := by assumption) : Kept K s0 (State.handSend s f act) := by
  unfold State.handSend
  repeat' (first
    | with_reducible assumption | with_reducible apply ite_kept | with_reducible apply ite_fst_kept | with_reducible apply State.svSendMsg_kept
    | with_reducible apply State.inc_kept | split)

theorem State.handCancel_kept {K : Keep} {s0 : State} (s : State) (hs : Kept K s0 s) (kfresh : K.fresh = false := by assumption) (kirq : K.irq = false := by assumption) (kcyc : K.cyc = false := by assumption) (kmsi : K.msi = false := by assumption) (kshu : K.shu = false := by assumption) (kslv : K.slv = false := by assumption) : Kept K s0 (State.handCancel s) := by
  unfold State.handCancel
  repeat' (first
    | with_reducible assumption | intro _ | with_reducible apply State.handSend_kept | with_reducible apply State.updSlv_kept
    | with_reducible apply State.p_kept | with_reducible apply State.ev_kept | extract_lets | dsimp only | split | dsimp +zetaDelta only)

theorem State.claimHeard_kept {K : Keep} {s0 : State} (s : State) (hs : Kept K s0 s) (kfresh : K.fresh = false := by assumption) (kirq : K.irq = false := by assumption) (kcyc : K.cyc = false := by assumption) (kmsi : K.msi = false := by assumption) (kpch : K.pch = false := by assumption) (kshd : K.shd = false := by assumption) (kshu : K.shu = false := by assumption) (kslv : K.slv = false := by assumption) (ktmg : K.tmg = false := by assumption) : Kept K s0 (State.claimHeard s) := by
  unfold State.claimHeard
  repeat' (first
    | with_reducible assumption | intro _ | with_reducible apply ite_kept | with_reducible apply ite_fst_kept | with_reducible apply State.when_kept
    | with_reducible apply State.handCancel_kept | with_reducible apply State.ev_kept | with_reducible apply State.relinquish_kept
    | with_reducible apply State.inc_kept | extract_lets | dsimp only | split)

theorem State.hbAccept_kept {K : Keep} {s0 : State} (s : State) (pin : Bool) (role : Nat) (claim : Bool) (hs : Kept K s0 s) (kfresh : K.fresh = false := by assumption) (kirq : K.irq = false := by assumption) (kcyc : K.cyc = false := by assumption) (kmsi : K.msi = false := by assumption) (kpch : K.pch = false := by assumption) (kslots : K.slots = false := by assumption) (kshd : K.shd = false := by assumption) (kshu : K.shu = false := by assumption) (kslv : K.slv = false := by assumption) (ktmg : K.tmg = false := by assumption) : Kept K s0 (State.hbAccept s pin role claim) := by
  unfold State.hbAccept
  repeat' (first
    | with_reducible assumption | intro _ | with_reducible apply ite_kept | with_reducible apply ite_fst_kept | with_reducible apply State.inc_kept
    | with_reducible apply State.updSlv_kept | with_reducible apply State.p_kept | with_reducible apply State.ev_kept
    | with_reducible apply State.when_kept | with_reducible apply State.claimHeard_kept | with_reducible apply State.claimClear_kept
    | with_reducible apply State.protEnter_kept | with_reducible apply State.takeOver_kept | extract_lets | dsimp only | split)

theorem execHbPinWord_kept {K : Keep} {s0 : State} (w : BitVec 8) (s : State) (hs : Kept K s0 s) (kfresh : K.fresh = false := by assumption) (kirq : K.irq = false := by assumption) (kcyc : K.cyc = false := by assumption) (kmsi : K.msi = false := by assumption) (kpch : K.pch = false := by assumption) (kslots : K.slots = false := by assumption) (kshd : K.shd = false := by assumption) (kshu : K.shu = false := by assumption) (kslv : K.slv = false := by assumption) (ktmg : K.tmg = false := by assumption) : KeptO K s0 (execHbPinWord w s) := by
  unfold execHbPinWord
  repeat' (first
    | with_reducible assumption | intro _ | with_reducible apply next_kept | with_reducible apply ite_kept | with_reducible apply ite_fst_kept
    | with_reducible apply State.updSlv_kept | with_reducible apply State.hbAccept_kept | with_reducible apply State.inc_kept | extract_lets | dsimp only
    | split | dsimp +zetaDelta only)

theorem execHeartbeatTx_kept {K : Keep} {s0 : State} (s : State) (hs : Kept K s0 s) (kfresh : K.fresh = false := by assumption) (kslv : K.slv = false := by assumption) : KeptO K s0 (execHeartbeatTx s) := by
  unfold execHeartbeatTx
  repeat' (first
    | with_reducible assumption | with_reducible apply next_kept | with_reducible apply State.heartbeat_kept)

theorem execHbAliveTimeout_kept {K : Keep} {s0 : State} (pin : Bool) (s : State) (hs : Kept K s0 s) (kirq : K.irq = false := by assumption) (kcyc : K.cyc = false := by assumption) (kmsi : K.msi = false := by assumption) (kshu : K.shu = false := by assumption) : KeptO K s0 (execHbAliveTimeout pin s) := by
  unfold execHbAliveTimeout
  repeat' (first
    | with_reducible assumption | intro _ | with_reducible apply next_kept | with_reducible apply ite_kept | with_reducible apply ite_fst_kept
    | with_reducible apply State.when_kept | with_reducible apply State.p_kept | with_reducible apply State.ev_kept | extract_lets | dsimp only | split
    | dsimp +zetaDelta only)

theorem execSelfMute_kept {K : Keep} {s0 : State} (s : State) (hs : Kept K s0 s) (kirq : K.irq = false := by assumption) (kcyc : K.cyc = false := by assumption) (kmsi : K.msi = false := by assumption) (kpch : K.pch = false := by assumption) (kshd : K.shd = false := by assumption) (kshu : K.shu = false := by assumption) (kslv : K.slv = false := by assumption) (ktmg : K.tmg = false := by assumption) : KeptO K s0 (execSelfMute s) := by
  unfold execSelfMute
  repeat' (first
    | with_reducible assumption | intro _ | with_reducible apply next_kept | with_reducible apply State.when_kept
    | with_reducible apply State.relinquish_kept | with_reducible apply State.inc_kept | with_reducible apply State.ev_kept | dsimp only)

theorem execTakeover_kept {K : Keep} {s0 : State} (s : State) (hs : Kept K s0 s) (kfresh : K.fresh = false := by assumption) (kirq : K.irq = false := by assumption) (kcyc : K.cyc = false := by assumption) (kmsi : K.msi = false := by assumption) (kpch : K.pch = false := by assumption) (kslots : K.slots = false := by assumption) (kshd : K.shd = false := by assumption) (kshu : K.shu = false := by assumption) (kslv : K.slv = false := by assumption) : KeptO K s0 (execTakeover s) := by
  unfold execTakeover
  repeat' (first
    | with_reducible assumption | intro _ | with_reducible apply next_kept | with_reducible apply State.when_kept
    | with_reducible apply State.takeOver_kept | dsimp only)

theorem execClaimEnd_kept {K : Keep} {s0 : State} (s : State) (hs : Kept K s0 s) : KeptO K s0 (execClaimEnd s) := by
  unfold execClaimEnd
  repeat' (first
    | with_reducible assumption | intro _ | with_reducible apply next_kept | with_reducible apply State.when_kept
    | with_reducible apply State.claimClear_kept | dsimp only)

theorem State.protEnable_kept {K : Keep} {s0 : State} (s : State) (hs : Kept K s0 s) (kcyc : K.cyc = false := by assumption) (kpch : K.pch = false := by assumption) (kshd : K.shd = false := by assumption) (kslv : K.slv = false := by assumption) (ktmg : K.tmg = false := by assumption) : Kept K s0 (State.protEnable s) := by
  unfold State.protEnable
  repeat' (first
    | with_reducible assumption | intro _ | with_reducible apply iter_kept | with_reducible apply ite_kept | with_reducible apply ite_fst_kept
    | with_reducible apply State.updSlv_kept | with_reducible apply State.protEnter_kept | with_reducible apply State.holdEnter_kept
    | with_reducible apply State.giveUp_kept | extract_lets | dsimp only | split)

theorem State.unprotect_kept {K : Keep} {s0 : State} (s : State) (c : Nat) (hs : Kept K s0 s) (kfresh : K.fresh = false := by assumption) (kirq : K.irq = false := by assumption) (kcyc : K.cyc = false := by assumption) (kmsi : K.msi = false := by assumption) (kpch : K.pch = false := by assumption) (krng : K.rng = false := by assumption) (kshd : K.shd = false := by assumption) (kshu : K.shu = false := by assumption) (ktmg : K.tmg = false := by assumption) : Kept K s0 (State.unprotect s c) := by
  unfold State.unprotect
  repeat' (first
    | with_reducible assumption | intro _ | with_reducible apply ite_kept | with_reducible apply ite_fst_kept | with_reducible apply State.updPch_kept
    | with_reducible apply State.actDisable_kept | with_reducible apply State.tryStart_kept | extract_lets | dsimp only | split)

theorem State.protDisable_kept {K : Keep} {s0 : State} (s : State) (hs : Kept K s0 s) (kfresh : K.fresh = false := by assumption) (kirq : K.irq = false := by assumption) (kcyc : K.cyc = false := by assumption) (kmsi : K.msi = false := by assumption) (kpch : K.pch = false := by assumption) (krng : K.rng = false := by assumption) (kshd : K.shd = false := by assumption) (kshu : K.shu = false := by assumption) (kslv : K.slv = false := by assumption) (ktmg : K.tmg = false := by assumption) : Kept K s0 (State.protDisable s) := by
  unfold State.protDisable
  repeat' (first
    | with_reducible assumption | intro _ | with_reducible apply iter_kept | with_reducible apply ite_kept | with_reducible apply ite_fst_kept
    | with_reducible apply State.protEnter_kept | with_reducible apply State.claimClear_kept | with_reducible apply State.updSlv_kept
    | with_reducible apply State.unprotect_kept | extract_lets | dsimp only | split)

theorem State.protSwitch_kept {K : Keep} {s0 : State} (s : State) (hs : Kept K s0 s) (kfresh : K.fresh = false := by assumption) (kslv : K.slv = false := by assumption) : Kept K s0 (State.protSwitch s) := by
  unfold State.protSwitch
  repeat' (first
    | with_reducible assumption | intro _ | with_reducible apply ite_kept | with_reducible apply ite_fst_kept | with_reducible apply State.updSlv_kept
    | with_reducible apply State.p_kept | with_reducible apply State.handSend_kept | extract_lets | dsimp only | split)

theorem State.protTake_kept {K : Keep} {s0 : State} (s : State) (hs : Kept K s0 s) (kfresh : K.fresh = false := by assumption) (kirq : K.irq = false := by assumption) (kcyc : K.cyc = false := by assumption) (kmsi : K.msi = false := by assumption) (kpch : K.pch = false := by assumption) (kslots : K.slots = false := by assumption) (kshd : K.shd = false := by assumption) (kshu : K.shu = false := by assumption) (kslv : K.slv = false := by assumption) : Kept K s0 (State.protTake s) := by
  unfold State.protTake
  repeat' (first
    | with_reducible assumption | with_reducible apply ite_kept | with_reducible apply ite_fst_kept | with_reducible apply State.ev_kept
    | with_reducible apply State.takeOver_kept | extract_lets | dsimp only | split | dsimp +zetaDelta only)

theorem State.protCtlWrite_kept {K : Keep} {s0 : State} (s : State) (v : Word) (hs : Kept K s0 s) (kfresh : K.fresh = false := by assumption) (kirq : K.irq = false := by assumption) (kcyc : K.cyc = false := by assumption) (kmsi : K.msi = false := by assumption) (kpch : K.pch = false := by assumption) (kslots : K.slots = false := by assumption) (krng : K.rng = false := by assumption) (kshd : K.shd = false := by assumption) (kshu : K.shu = false := by assumption) (kslv : K.slv = false := by assumption) (ktmg : K.tmg = false := by assumption) : Kept K s0 (State.protCtlWrite s v) := by
  unfold State.protCtlWrite
  repeat' (first
    | with_reducible assumption | intro _ | with_reducible apply ite_kept | with_reducible apply ite_fst_kept | with_reducible apply State.wrRW_kept
    | with_reducible apply State.protEnable_kept | with_reducible apply State.protDisable_kept | with_reducible apply State.when_kept
    | with_reducible apply State.protSwitch_kept | with_reducible apply State.protTake_kept | extract_lets | dsimp only | split)

theorem execProtEnable_kept {K : Keep} {s0 : State} (ag : Agent) (v : Word) (s : State) (hs : Kept K s0 s) (kfresh : K.fresh = false := by assumption) (kirq : K.irq = false := by assumption) (kcyc : K.cyc = false := by assumption) (kmsi : K.msi = false := by assumption) (kpch : K.pch = false := by assumption) (kslots : K.slots = false := by assumption) (krng : K.rng = false := by assumption) (kshd : K.shd = false := by assumption) (kshu : K.shu = false := by assumption) (kslv : K.slv = false := by assumption) (ktmg : K.tmg = false := by assumption) : KeptO K s0 (execProtEnable ag v s) := by
  unfold execProtEnable
  repeat' (first
    | with_reducible assumption | intro _ | with_reducible apply next_kept | with_reducible apply State.bus_kept
    | with_reducible apply State.protCtlWrite_kept | dsimp only)

theorem execProtDisable_kept {K : Keep} {s0 : State} (ag : Agent) (v : Word) (s : State) (hs : Kept K s0 s) (kfresh : K.fresh = false := by assumption) (kirq : K.irq = false := by assumption) (kcyc : K.cyc = false := by assumption) (kmsi : K.msi = false := by assumption) (kpch : K.pch = false := by assumption) (kslots : K.slots = false := by assumption) (krng : K.rng = false := by assumption) (kshd : K.shd = false := by assumption) (kshu : K.shu = false := by assumption) (kslv : K.slv = false := by assumption) (ktmg : K.tmg = false := by assumption) : KeptO K s0 (execProtDisable ag v s) := by
  unfold execProtDisable
  repeat' (first
    | with_reducible assumption | intro _ | with_reducible apply next_kept | with_reducible apply State.bus_kept
    | with_reducible apply State.protCtlWrite_kept | dsimp only)

theorem execProtSwitch_kept {K : Keep} {s0 : State} (ag : Agent) (v : Word) (s : State) (hs : Kept K s0 s) (kfresh : K.fresh = false := by assumption) (kirq : K.irq = false := by assumption) (kcyc : K.cyc = false := by assumption) (kmsi : K.msi = false := by assumption) (kpch : K.pch = false := by assumption) (kslots : K.slots = false := by assumption) (krng : K.rng = false := by assumption) (kshd : K.shd = false := by assumption) (kshu : K.shu = false := by assumption) (kslv : K.slv = false := by assumption) (ktmg : K.tmg = false := by assumption) : KeptO K s0 (execProtSwitch ag v s) := by
  unfold execProtSwitch
  repeat' (first
    | with_reducible assumption | intro _ | with_reducible apply next_kept | with_reducible apply State.bus_kept
    | with_reducible apply State.protCtlWrite_kept | dsimp only)

theorem execProtTake_kept {K : Keep} {s0 : State} (ag : Agent) (v : Word) (s : State) (hs : Kept K s0 s) (kfresh : K.fresh = false := by assumption) (kirq : K.irq = false := by assumption) (kcyc : K.cyc = false := by assumption) (kmsi : K.msi = false := by assumption) (kpch : K.pch = false := by assumption) (kslots : K.slots = false := by assumption) (krng : K.rng = false := by assumption) (kshd : K.shd = false := by assumption) (kshu : K.shu = false := by assumption) (kslv : K.slv = false := by assumption) (ktmg : K.tmg = false := by assumption) : KeptO K s0 (execProtTake ag v s) := by
  unfold execProtTake
  repeat' (first
    | with_reducible assumption | intro _ | with_reducible apply next_kept | with_reducible apply State.bus_kept
    | with_reducible apply State.protCtlWrite_kept | dsimp only)

theorem execHandoverExecute_kept {K : Keep} {s0 : State} (s : State) (hs : Kept K s0 s) (kirq : K.irq = false := by assumption) (kcyc : K.cyc = false := by assumption) (kmsi : K.msi = false := by assumption) (kpch : K.pch = false := by assumption) (kslots : K.slots = false := by assumption) (kshd : K.shd = false := by assumption) (kshu : K.shu = false := by assumption) (kslv : K.slv = false := by assumption) (ktmg : K.tmg = false := by assumption) : KeptO K s0 (execHandoverExecute s) := by
  unfold execHandoverExecute
  repeat' (first
    | with_reducible assumption | intro _ | with_reducible apply next_kept | with_reducible apply iter_kept | with_reducible apply ite_kept
    | with_reducible apply ite_fst_kept | with_reducible apply State.relinquish_kept | with_reducible apply State.protEnter_kept
    | with_reducible apply State.light_kept | with_reducible apply State.inc_kept | with_reducible apply State.ev_kept | extract_lets | dsimp only
    | split | dsimp +zetaDelta only)

theorem execHandoverTimeout_kept {K : Keep} {s0 : State} (s : State) (hs : Kept K s0 s) (kfresh : K.fresh = false := by assumption) (kirq : K.irq = false := by assumption) (kcyc : K.cyc = false := by assumption) (kmsi : K.msi = false := by assumption) (kshu : K.shu = false := by assumption) (kslv : K.slv = false := by assumption) : KeptO K s0 (execHandoverTimeout s) := by
  unfold execHandoverTimeout
  repeat' (first
    | with_reducible assumption | with_reducible apply next_kept | with_reducible apply ite_kept | with_reducible apply ite_fst_kept
    | with_reducible apply State.handCancel_kept | split | dsimp +zetaDelta only)

theorem State.guarSum_kept {K : Keep} {s0 : State} (s : State) (c : Nat) (hs : Kept K s0 s) : Kept K s0 (State.guarSum s c) := by
  unfold State.guarSum
  repeat' (first
    | with_reducible assumption | intro _ | with_reducible apply State.p_kept | extract_lets | dsimp only)

theorem State.cfgRecord_kept {K : Keep} {s0 : State} (s : State) (r : List Byte) (hs : Kept K s0 s) (kirq : K.irq = false := by assumption) (kcyc : K.cyc = false := by assumption) (kmsi : K.msi = false := by assumption) (kshu : K.shu = false := by assumption) : Kept K s0 (State.cfgRecord s r) := by
  unfold State.cfgRecord
  repeat' (first
    | with_reducible assumption | with_reducible apply ite_kept | with_reducible apply ite_fst_kept | with_reducible apply State.ev_kept | extract_lets
    | dsimp only | split)

theorem State.protRecord_kept {K : Keep} {s0 : State} (s : State) (mt : Nat) (r : List Byte) (hs : Kept K s0 s) (kirq : K.irq = false := by assumption) (kcyc : K.cyc = false := by assumption) (kmsi : K.msi = false := by assumption) (kshu : K.shu = false := by assumption) (kslv : K.slv = false := by assumption) : Kept K s0 (State.protRecord s mt r).1 := by
  unfold State.protRecord
  repeat' (first
    | with_reducible assumption | intro _ | with_reducible apply iter_kept | with_reducible apply ite_kept | with_reducible apply ite_fst_kept
    | with_reducible apply State.cfgRecord_kept | with_reducible apply State.updSlv_kept | with_reducible apply State.p_kept
    | with_reducible apply State.wr_kept | with_reducible apply State.guarSum_kept | extract_lets | dsimp only | split)

theorem State.protMsg_kept {K : Keep} {s0 : State} (s : State) (mt : Nat) (d : List Byte) (hs : Kept K s0 s) (kirq : K.irq = false := by assumption) (kcyc : K.cyc = false := by assumption) (kmsi : K.msi = false := by assumption) (kshu : K.shu = false := by assumption) (kslv : K.slv = false := by assumption) : Kept K s0 (State.protMsg s mt d) := by
  unfold State.protMsg
  repeat' (first
    | with_reducible assumption | intro _ | with_reducible apply ite_kept | with_reducible apply ite_fst_kept | with_reducible apply foldl_kept
    | with_reducible apply foldl_fst_kept | with_reducible apply foldl_snd_kept | with_reducible apply State.protRecord_kept
    | with_reducible apply State.inc_kept | with_reducible apply State.ev_kept | extract_lets | dsimp only | split | dsimp +zetaDelta only)

theorem State.handMsg_kept {K : Keep} {s0 : State} (s : State) (d : List Byte) (hs : Kept K s0 s) (kfresh : K.fresh = false := by assumption) (kslv : K.slv = false := by assumption) : Kept K s0 (State.handMsg s d) := by
  unfold State.handMsg
  repeat' (first
    | with_reducible assumption | intro _ | with_reducible apply ite_kept | with_reducible apply ite_fst_kept | with_reducible apply State.updSlv_kept
    | with_reducible apply State.handSend_kept | extract_lets | dsimp only | split | dsimp +zetaDelta only)

theorem State.healthMsg_kept {K : Keep} {s0 : State} (s : State) (d : List Byte) (hs : Kept K s0 s) : Kept K s0 (State.healthMsg s d) := by
  unfold State.healthMsg
  repeat' (first
    | with_reducible assumption | intro _ | with_reducible apply iter_kept | with_reducible apply State.wr_kept | with_reducible apply State.p_kept
    | extract_lets | dsimp only)

theorem State.mbxMsg_kept {K : Keep} {s0 : State} (s : State) (d : List Byte) (hs : Kept K s0 s) (kirq : K.irq = false := by assumption) (kcyc : K.cyc = false := by assumption) (kmsi : K.msi = false := by assumption) (kshu : K.shu = false := by assumption) (kslv : K.slv = false := by assumption) : Kept K s0 (State.mbxMsg s d) := by
  unfold State.mbxMsg
  repeat' (first
    | with_reducible assumption | intro _ | with_reducible apply ite_kept | with_reducible apply ite_fst_kept | with_reducible apply State.updSlv_kept
    | with_reducible apply State.ev_kept | with_reducible apply State.inc_kept | dsimp only | split)

theorem State.svMsg_kept {K : Keep} {s0 : State} (s : State) (mt : Nat) (d : List Byte) (hs : Kept K s0 s) (kfresh : K.fresh = false := by assumption) (kirq : K.irq = false := by assumption) (kcyc : K.cyc = false := by assumption) (kmsi : K.msi = false := by assumption) (kshu : K.shu = false := by assumption) (kslv : K.slv = false := by assumption) : Kept K s0 (State.svMsg s mt d) := by
  unfold State.svMsg
  repeat' (first
    | with_reducible assumption | with_reducible apply ite_kept | with_reducible apply ite_fst_kept | with_reducible apply State.inc_kept
    | with_reducible apply State.handMsg_kept | with_reducible apply State.protMsg_kept | with_reducible apply State.healthMsg_kept
    | with_reducible apply State.mbxMsg_kept | with_reducible apply State.ev_kept | split)

theorem State.svBlock_kept {K : Keep} {s0 : State} (s : State) (b : SvBlock) (hs : Kept K s0 s) (kfresh : K.fresh = false := by assumption) (kirq : K.irq = false := by assumption) (kcyc : K.cyc = false := by assumption) (kmsi : K.msi = false := by assumption) (kpch : K.pch = false := by assumption) (kslots : K.slots = false := by assumption) (kshd : K.shd = false := by assumption) (kshu : K.shu = false := by assumption) (kslv : K.slv = false := by assumption) (ktmg : K.tmg = false := by assumption) : Kept K s0 (State.svBlock s b) := by
  unfold State.svBlock
  repeat' (first
    | with_reducible assumption | intro _ | with_reducible apply ite_kept | with_reducible apply ite_fst_kept | with_reducible apply State.updSlv_kept
    | with_reducible apply State.inc_kept | with_reducible apply State.hbAccept_kept | with_reducible apply State.svDiscard_kept
    | with_reducible apply State.svMsg_kept | extract_lets | dsimp only | split | dsimp +zetaDelta only)

theorem State.svRead_kept {K : Keep} {s0 : State} (s : State) (first : Nat) (prev : List (BitVec 58)) (bs : List SvBlock) (hs : Kept K s0 s) (kfresh : K.fresh = false := by assumption) (kirq : K.irq = false := by assumption) (kcyc : K.cyc = false := by assumption) (kmsi : K.msi = false := by assumption) (kpch : K.pch = false := by assumption) (kslots : K.slots = false := by assumption) (kshd : K.shd = false := by assumption) (kshu : K.shu = false := by assumption) (kslv : K.slv = false := by assumption) (ktmg : K.tmg = false := by assumption) : Kept K s0 (State.svRead s first prev bs) := by
  unfold State.svRead
  repeat' (first
    | with_reducible assumption | intro _ | with_reducible apply foldl_kept | with_reducible apply foldl_fst_kept | with_reducible apply foldl_snd_kept
    | with_reducible apply State.when_kept | with_reducible apply State.svBlock_kept | dsimp only)

theorem execHeartbeatRx_kept {K : Keep} {s0 : State} (lane : Fin 4) (prev : BitVec 58) (block : SvBlock) (s : State) (hs : Kept K s0 s) (kfresh : K.fresh = false := by assumption) (kirq : K.irq = false := by assumption) (kcyc : K.cyc = false := by assumption) (kmsi : K.msi = false := by assumption) (kpch : K.pch = false := by assumption) (kslots : K.slots = false := by assumption) (kshd : K.shd = false := by assumption) (kshu : K.shu = false := by assumption) (kslv : K.slv = false := by assumption) (ktmg : K.tmg = false := by assumption) : KeptO K s0 (execHeartbeatRx lane prev block s) := by
  unfold execHeartbeatRx
  repeat' (first
    | with_reducible assumption | with_reducible apply next_kept | with_reducible apply State.svRead_kept)

theorem execSvMessage_kept {K : Keep} {s0 : State} (first : Fin 4) (prev : List (BitVec 58)) (blocks : List SvBlock) (s : State) (hs : Kept K s0 s) (kfresh : K.fresh = false := by assumption) (kirq : K.irq = false := by assumption) (kcyc : K.cyc = false := by assumption) (kmsi : K.msi = false := by assumption) (kpch : K.pch = false := by assumption) (kslots : K.slots = false := by assumption) (kshd : K.shd = false := by assumption) (kshu : K.shu = false := by assumption) (kslv : K.slv = false := by assumption) (ktmg : K.tmg = false := by assumption) : KeptO K s0 (execSvMessage first prev blocks s) := by
  unfold execSvMessage
  repeat' (first
    | with_reducible assumption | with_reducible apply next_kept | with_reducible apply State.svRead_kept)

theorem execProtRecordSend_kept {K : Keep} {s0 : State} (mt : Fin 64) (keys : List Nat) (s : State) (hs : Kept K s0 s) (kfresh : K.fresh = false := by assumption) (kslv : K.slv = false := by assumption) : KeptO K s0 (execProtRecordSend mt keys s) := by
  unfold execProtRecordSend
  repeat' (first
    | with_reducible assumption | intro _ | with_reducible apply next_kept | with_reducible apply ite_kept | with_reducible apply ite_fst_kept
    | with_reducible apply State.when_kept | with_reducible apply State.svSendMsg_kept | with_reducible apply State.add_kept | extract_lets | dsimp only
    | split)

theorem execHealthReport_kept {K : Keep} {s0 : State} (s : State) (hs : Kept K s0 s) (kfresh : K.fresh = false := by assumption) (kpch : K.pch = false := by assumption) (kslv : K.slv = false := by assumption) : KeptO K s0 (execHealthReport s) := by
  unfold execHealthReport
  repeat' (first
    | with_reducible assumption | intro _ | with_reducible apply next_kept | with_reducible apply iter_kept | with_reducible apply State.when_kept
    | with_reducible apply State.wr_kept | with_reducible apply State.svSendMsg_kept | with_reducible apply State.updPch_kept | extract_lets | dsimp only)

theorem State.mbxWrite_kept {K : Keep} {s0 : State} (s : State) (ag : Nat) (v : Word) (hs : Kept K s0 s) (kslv : K.slv = false := by assumption) : Kept K s0 (State.mbxWrite s ag v) := by
  unfold State.mbxWrite
  repeat' (first
    | with_reducible assumption | intro _ | with_reducible apply ite_kept | with_reducible apply ite_fst_kept | with_reducible apply State.wrMask_kept
    | with_reducible apply State.p_kept | with_reducible apply State.updSlv_kept | extract_lets | dsimp only | split)

theorem State.mbxTick_kept {K : Keep} {s0 : State} (s : State) (hs : Kept K s0 s) (kfresh : K.fresh = false := by assumption) (kslv : K.slv = false := by assumption) : Kept K s0 (State.mbxTick s) := by
  unfold State.mbxTick
  repeat' (first
    | with_reducible assumption | intro _ | with_reducible apply foldl_kept | with_reducible apply foldl_fst_kept | with_reducible apply foldl_snd_kept
    | with_reducible apply State.when_kept | with_reducible apply State.p_kept | with_reducible apply State.svSendMsg_kept
    | with_reducible apply State.updSlv_kept | dsimp only)

theorem execSlvMbxSend_kept {K : Keep} {s0 : State} (ag : Agent) (v : Word) (s : State) (hs : Kept K s0 s) (kirq : K.irq = false := by assumption) (kcyc : K.cyc = false := by assumption) (kmsi : K.msi = false := by assumption) (kshu : K.shu = false := by assumption) (kslv : K.slv = false := by assumption) : KeptO K s0 (execSlvMbxSend ag v s) := by
  unfold execSlvMbxSend
  repeat' (first
    | with_reducible assumption | intro _ | with_reducible apply next_kept | with_reducible apply State.bus_kept
    | with_reducible apply State.mbxWrite_kept | dsimp only)

theorem State.mbxPop_kept {K : Keep} {s0 : State} (s : State) (v : Word) (hs : Kept K s0 s) (kslv : K.slv = false := by assumption) : Kept K s0 (State.mbxPop s v) := by
  unfold State.mbxPop
  repeat' (first
    | with_reducible assumption | intro _ | with_reducible apply ite_kept | with_reducible apply ite_fst_kept | with_reducible apply State.updSlv_kept
    | dsimp only | split)

theorem execSlvMbxPop_kept {K : Keep} {s0 : State} (ag : Agent) (v : Word) (s : State) (hs : Kept K s0 s) (kirq : K.irq = false := by assumption) (kcyc : K.cyc = false := by assumption) (kmsi : K.msi = false := by assumption) (kshu : K.shu = false := by assumption) (kslv : K.slv = false := by assumption) : KeptO K s0 (execSlvMbxPop ag v s) := by
  unfold execSlvMbxPop
  repeat' (first
    | with_reducible assumption | intro _ | with_reducible apply next_kept | with_reducible apply State.bus_kept | with_reducible apply State.mbxPop_kept
    | dsimp only)

theorem State.copyRegs_kept {K : Keep} {s0 : State} (s : State) (lo : Nat) (hi : Nat) (dst : Nat) (hs : Kept K s0 s) : Kept K s0 (State.copyRegs s lo hi dst) := by
  unfold State.copyRegs
  repeat' (first
    | with_reducible assumption | intro _ | with_reducible apply foldl_kept | with_reducible apply foldl_fst_kept | with_reducible apply foldl_snd_kept
    | with_reducible apply State.overRegs_kept | with_reducible apply State.wr_kept | extract_lets | dsimp only)

theorem State.copyTables_kept {K : Keep} {s0 : State} (s : State) (c : Nat) (d : Nat) (hs : Kept K s0 s) : Kept K s0 (State.copyTables s c d) := by
  unfold State.copyTables
  repeat' (first
    | with_reducible assumption | with_reducible apply State.copyRegs_kept | with_reducible apply State.guarSum_kept | extract_lets | dsimp only)

theorem State.iprotSwitch_kept {K : Keep} {s0 : State} (s : State) (j : Nat) (hs : Kept K s0 s) (kcyc : K.cyc = false := by assumption) (kpch : K.pch = false := by assumption) (kslots : K.slots = false := by assumption) (kshd : K.shd = false := by assumption) (ktmg : K.tmg = false := by assumption) : Kept K s0 (State.iprotSwitch s j) := by
  unfold State.iprotSwitch
  repeat' (first
    | with_reducible assumption | with_reducible apply ite_kept | with_reducible apply ite_fst_kept | with_reducible apply State.copyTables_kept
    | with_reducible apply State.p_kept | with_reducible apply State.giveUp_kept | with_reducible apply State.light_kept
    | with_reducible apply State.inc_kept | extract_lets | dsimp only | split)

theorem State.iprotRefuse_kept {K : Keep} {s0 : State} (s : State) (j : Nat) (hs : Kept K s0 s) (kirq : K.irq = false := by assumption) (kcyc : K.cyc = false := by assumption) (kmsi : K.msi = false := by assumption) (kshu : K.shu = false := by assumption) : Kept K s0 (State.iprotRefuse s j) := by
  unfold State.iprotRefuse
  repeat' (first
    | with_reducible assumption | with_reducible apply State.p_kept | with_reducible apply State.ev_kept)

theorem State.iprotWrite_kept {K : Keep} {s0 : State} (s : State) (j : Nat) (v : Word) (hs : Kept K s0 s) (kfresh : K.fresh = false := by assumption) (kirq : K.irq = false := by assumption) (kcyc : K.cyc = false := by assumption) (kmsi : K.msi = false := by assumption) (kpch : K.pch = false := by assumption) (kslots : K.slots = false := by assumption) (krng : K.rng = false := by assumption) (kshd : K.shd = false := by assumption) (kshu : K.shu = false := by assumption) (ktmg : K.tmg = false := by assumption) : Kept K s0 (State.iprotWrite s j v) := by
  unfold State.iprotWrite
  repeat' (first
    | with_reducible assumption | intro _ | with_reducible apply ite_kept | with_reducible apply ite_fst_kept | with_reducible apply State.wrRW_kept
    | with_reducible apply State.p_kept | with_reducible apply State.iprotRefuse_kept | with_reducible apply State.when_kept
    | with_reducible apply State.unprotect_kept | with_reducible apply State.holdEnter_kept | with_reducible apply State.giveUp_kept
    | with_reducible apply State.iprotSwitch_kept | extract_lets | dsimp only | split)

theorem execIprotSwitch_kept {K : Keep} {s0 : State} (j : Fin 16) (w : Option (Agent × Word)) (s : State) (hs : Kept K s0 s) (kfresh : K.fresh = false := by assumption) (kirq : K.irq = false := by assumption) (kcyc : K.cyc = false := by assumption) (kmsi : K.msi = false := by assumption) (kpch : K.pch = false := by assumption) (kslots : K.slots = false := by assumption) (krng : K.rng = false := by assumption) (kshd : K.shd = false := by assumption) (kshu : K.shu = false := by assumption) (ktmg : K.tmg = false := by assumption) : KeptO K s0 (execIprotSwitch j w s) := by
  unfold execIprotSwitch
  repeat' (first
    | with_reducible assumption | intro _ | with_reducible apply next_kept | with_reducible apply State.bus_kept
    | with_reducible apply State.iprotWrite_kept | with_reducible apply State.when_kept | with_reducible apply State.iprotSwitch_kept | extract_lets
    | dsimp only | split | dsimp +zetaDelta only)

end Sys2Proof.Machine
end

