-- ==== Sys2Proof/Laws/Kept/ShuOps.lean ====
section
/-! SUPPORT. What the operations and meanings of Machine/ShuOps.lean keep: the queue, the clock, the canonical forms, and every
component of the state that they have no business with. -/
namespace Sys2Proof.Machine

set_option linter.all false

theorem State.updShu_kept {K : Keep} {s0 : State} (s : State) (f : Shu → Shu) (hs : Kept K s0 s) (kshu : K.shu = false := by assumption) : Kept K s0 (State.updShu s f) := by
  unfold State.updShu
  repeat' (first
    | with_reducible assumption | with_reducible apply Kept.upd_shu)

theorem State.updThread_kept {K : Keep} {s0 : State} (s : State) (p : Nat) (t : Nat) (f : Thread → Thread) (hs : Kept K s0 s) (kshu : K.shu = false := by assumption) : Kept K s0 (State.updThread s p t f) := by
  unfold State.updThread
  repeat' (first
    | with_reducible assumption | intro _ | with_reducible apply State.updShu_kept | dsimp only)

theorem State.queueFront_kept {K : Keep} {s0 : State} (s : State) (q : Nat) (w : List Word) (up : Option (Nat × Bool × UpPloam)) (hs : Kept K s0 s) (kpch : K.pch = false := by assumption) (kshd : K.shd = false := by assumption) (kshu : K.shu = false := by assumption) : Kept K s0 (State.queueFront s q w up) := by
  unfold State.queueFront
  repeat' (first
    | with_reducible assumption | intro _ | with_reducible apply ite_kept | with_reducible apply ite_fst_kept | with_reducible apply State.updShd_kept
    | with_reducible apply State.inqSync_kept | with_reducible apply State.updPch_kept | with_reducible apply State.updShu_kept | extract_lets
    | dsimp only | split | dsimp +zetaDelta only)

theorem State.requeue_kept {K : Keep} {s0 : State} (s : State) (p : Nat) (t : Nat) (fault : Bool) (hs : Kept K s0 s) (kpch : K.pch = false := by assumption) (kshd : K.shd = false := by assumption) (kshu : K.shu = false := by assumption) : Kept K s0 (State.requeue s p t fault) := by
  unfold State.requeue
  repeat' (first
    | with_reducible assumption | intro _ | with_reducible apply ite_kept | with_reducible apply ite_fst_kept | with_reducible apply State.updThread_kept
    | with_reducible apply State.inc_kept | with_reducible apply State.queueFront_kept | with_reducible apply State.updShu_kept | extract_lets
    | dsimp only | split | dsimp +zetaDelta only)

theorem State.threadStart_kept {K : Keep} {s0 : State} (s : State) (p : Nat) (t : Nat) (hs : Kept K s0 s) (kshu : K.shu = false := by assumption) : Kept K s0 (State.threadStart s p t) := by
  unfold State.threadStart
  repeat' (first
    | with_reducible assumption | intro _ | with_reducible apply State.updThread_kept | extract_lets | dsimp only | split | dsimp +zetaDelta only)

theorem State.shuttleStart_kept {K : Keep} {s0 : State} (s : State) (p : Nat) (hs : Kept K s0 s) (kshu : K.shu = false := by assumption) : Kept K s0 (State.shuttleStart s p) := by
  unfold State.shuttleStart
  repeat' (first
    | with_reducible assumption | intro _ | with_reducible apply iter_kept | with_reducible apply State.threadStart_kept
    | with_reducible apply State.updShu_kept | dsimp only)

theorem State.faultRecord_kept {K : Keep} {s0 : State} (s : State) (p : Nat) (t : Nat) (code : Nat) (pc : Nat) (hs : Kept K s0 s) (kirq : K.irq = false := by assumption) (kcyc : K.cyc = false := by assumption) (kmsi : K.msi = false := by assumption) (kshu : K.shu = false := by assumption) : Kept K s0 (State.faultRecord s p t code pc) := by
  unfold State.faultRecord
  repeat' (first
    | with_reducible assumption | with_reducible apply State.wr_kept | with_reducible apply State.inc_kept | with_reducible apply State.ev_kept
    | extract_lets | dsimp only)

theorem State.tagFault_kept {K : Keep} {s0 : State} (s : State) (p : Nat) (t : Nat) (hs : Kept K s0 s) (kpmc : K.pmc = false := by assumption) : Kept K s0 (State.tagFault s p t) := by
  unfold State.tagFault
  repeat' (first
    | with_reducible assumption | intro _ | with_reducible apply ite_kept | with_reducible apply ite_fst_kept | extract_lets | dsimp only | split
    | with_reducible apply Kept.upd_pmc)

theorem State.threadFault_kept {K : Keep} {s0 : State} (s : State) (p : Nat) (t : Nat) (code : Nat) (pc : Nat) (hs : Kept K s0 s) (kirq : K.irq = false := by assumption) (kcyc : K.cyc = false := by assumption) (kmsi : K.msi = false := by assumption) (kpch : K.pch = false := by assumption) (kshd : K.shd = false := by assumption) (kshu : K.shu = false := by assumption) (kpmc : K.pmc = false := by assumption) : Kept K s0 (State.threadFault s p t code pc) := by
  unfold State.threadFault
  repeat' (first
    | with_reducible assumption | with_reducible apply State.faultRecord_kept | with_reducible apply State.tagFault_kept
    | with_reducible apply State.requeue_kept | with_reducible apply State.threadStart_kept)

theorem State.threadAbort_kept {K : Keep} {s0 : State} (s : State) (p : Nat) (t : Nat) (hs : Kept K s0 s) (kpch : K.pch = false := by assumption) (kshd : K.shd = false := by assumption) (kshu : K.shu = false := by assumption) (kpmc : K.pmc = false := by assumption) : Kept K s0 (State.threadAbort s p t) := by
  unfold State.threadAbort
  repeat' (first
    | with_reducible assumption | intro _ | with_reducible apply State.tagFault_kept | with_reducible apply State.requeue_kept
    | with_reducible apply State.updThread_kept | dsimp only)

theorem State.imageInto_kept {K : Keep} {s0 : State} (s : State) (p : Nat) (i : Image) (hs : Kept K s0 s) (kshu : K.shu = false := by assumption) : Kept K s0 (State.imageInto s p i) := by
  unfold State.imageInto
  repeat' (first
    | with_reducible assumption | intro _ | with_reducible apply foldl_kept | with_reducible apply foldl_fst_kept | with_reducible apply foldl_snd_kept
    | with_reducible apply State.updShu_kept | extract_lets | dsimp only)

theorem State.shuttleClear_kept {K : Keep} {s0 : State} (s : State) (p : Nat) (hs : Kept K s0 s) (kshu : K.shu = false := by assumption) : Kept K s0 (State.shuttleClear s p) := by
  unfold State.shuttleClear
  repeat' (first
    | with_reducible assumption | intro _ | with_reducible apply State.updShu_kept | dsimp only)

theorem State.verWrite_kept {K : Keep} {s0 : State} (s : State) (a : Nat) (i : Image) (hs : Kept K s0 s) : Kept K s0 (State.verWrite s a i) := by
  unfold State.verWrite
  repeat' (first
    | with_reducible assumption | with_reducible apply State.wr_kept | dsimp only)

theorem State.swapResult_kept {K : Keep} {s0 : State} (s : State) (k : Nat) (r : Nat) (hs : Kept K s0 s) (kirq : K.irq = false := by assumption) (kcyc : K.cyc = false := by assumption) (kmsi : K.msi = false := by assumption) (kshu : K.shu = false := by assumption) : Kept K s0 (State.swapResult s k r) := by
  unfold State.swapResult
  repeat' (first
    | with_reducible assumption | with_reducible apply ite_kept | with_reducible apply ite_fst_kept | with_reducible apply State.p_kept
    | with_reducible apply State.ev_kept | extract_lets | dsimp only | split)

theorem State.swapClear_kept {K : Keep} {s0 : State} (s : State) (k : Nat) (hs : Kept K s0 s) (kshu : K.shu = false := by assumption) : Kept K s0 (State.swapClear s k) := by
  unfold State.swapClear
  repeat' (first
    | with_reducible assumption | intro _ | with_reducible apply State.updShu_kept | with_reducible apply State.p_kept | dsimp only)

theorem State.swapStart_kept {K : Keep} {s0 : State} (s : State) (k : Nat) (w : Swap) (hs : Kept K s0 s) (kshu : K.shu = false := by assumption) : Kept K s0 (State.swapStart s k w) := by
  unfold State.swapStart
  repeat' (first
    | with_reducible assumption | intro _ | with_reducible apply State.p_kept | with_reducible apply State.updShu_kept | extract_lets | dsimp only
    | split | dsimp +zetaDelta only)

theorem State.swapAsk_kept {K : Keep} {s0 : State} (s : State) (k : Nat) (role : Nat) (retire : Bool) (refresh : Bool) (hs : Kept K s0 s) (kirq : K.irq = false := by assumption) (kcyc : K.cyc = false := by assumption) (kmsi : K.msi = false := by assumption) (kshu : K.shu = false := by assumption) : Kept K s0 (State.swapAsk s k role retire refresh) := by
  unfold State.swapAsk
  repeat' (first
    | with_reducible assumption | with_reducible apply ite_kept | with_reducible apply ite_fst_kept | with_reducible apply State.swapResult_kept
    | with_reducible apply State.swapStart_kept | split)

theorem State.shuttleStop_kept {K : Keep} {s0 : State} (s : State) (p : Nat) (hs : Kept K s0 s) (kpch : K.pch = false := by assumption) (kshd : K.shd = false := by assumption) (kshu : K.shu = false := by assumption) (kpmc : K.pmc = false := by assumption) : Kept K s0 (State.shuttleStop s p) := by
  unfold State.shuttleStop
  repeat' (first
    | with_reducible assumption | intro _ | with_reducible apply iter_kept | with_reducible apply State.threadAbort_kept
    | with_reducible apply State.updShu_kept | dsimp only)

theorem State.roleRetire_kept {K : Keep} {s0 : State} (s : State) (k : Nat) (r : Nat) (hs : Kept K s0 s) (kirq : K.irq = false := by assumption) (kcyc : K.cyc = false := by assumption) (kmsi : K.msi = false := by assumption) (kpch : K.pch = false := by assumption) (kshd : K.shd = false := by assumption) (kledger : K.ledger = false := by assumption) (kshu : K.shu = false := by assumption) (kblt : K.blt = false := by assumption) (ktmg : K.tmg = false := by assumption) (kpmc : K.pmc = false := by assumption) : Kept K s0 (State.roleRetire s k r) := by
  unfold State.roleRetire
  repeat' (first
    | with_reducible assumption | intro _ | with_reducible apply State.shuttleStop_kept | with_reducible apply State.when_kept
    | with_reducible apply State.chanRetire_kept | dsimp only)

theorem State.swapWaiting_kept {K : Keep} {s0 : State} (n : Nat) (s : State) (k : Nat) (h : Kept K s0 s) (kirq : K.irq = false := by assumption) (kcyc : K.cyc = false := by assumption) (kmsi : K.msi = false := by assumption) (kpch : K.pch = false := by assumption) (kshd : K.shd = false := by assumption) (kledger : K.ledger = false := by assumption) (kshu : K.shu = false := by assumption) (kblt : K.blt = false := by assumption) (ktmg : K.tmg = false := by assumption) (kpmc : K.pmc = false := by assumption) : Kept K s0 (State.swapWaiting n s k) := by
  induction n generalizing s with
  | zero => simp only [State.swapWaiting]; exact h
  | succ n ih =>
    unfold State.swapWaiting
    repeat' (first
      | with_reducible assumption
      | with_reducible apply ih
      | with_reducible apply ite_kept
      | with_reducible apply State.updShu_kept
      | with_reducible apply State.swapAsk_kept
      | with_reducible apply State.roleRetire_kept
      | with_reducible apply State.inc_kept
      | extract_lets
      | split)

theorem State.swapNext_kept {K : Keep} {s0 : State} (s : State) (k : Nat) (hs : Kept K s0 s) (kirq : K.irq = false := by assumption) (kcyc : K.cyc = false := by assumption) (kmsi : K.msi = false := by assumption) (kpch : K.pch = false := by assumption) (kshd : K.shd = false := by assumption) (kledger : K.ledger = false := by assumption) (kshu : K.shu = false := by assumption) (kblt : K.blt = false := by assumption) (ktmg : K.tmg = false := by assumption) (kpmc : K.pmc = false := by assumption) : Kept K s0 (State.swapNext s k) := by
  unfold State.swapNext
  repeat' (first
    | with_reducible assumption | with_reducible apply State.swapWaiting_kept)

theorem State.swapWrite_kept {K : Keep} {s0 : State} (s : State) (k : Nat) (v : Word) (hs : Kept K s0 s) (kirq : K.irq = false := by assumption) (kcyc : K.cyc = false := by assumption) (kmsi : K.msi = false := by assumption) (kshu : K.shu = false := by assumption) : Kept K s0 (State.swapWrite s k v) := by
  unfold State.swapWrite
  repeat' (first
    | with_reducible assumption | with_reducible apply ite_kept | with_reducible apply ite_fst_kept | with_reducible apply State.wrRW_kept
    | with_reducible apply State.swapAsk_kept | extract_lets | dsimp only | split)

theorem State.shuttleRetire_kept {K : Keep} {s0 : State} (s : State) (p : Nat) (hs : Kept K s0 s) (kirq : K.irq = false := by assumption) (kcyc : K.cyc = false := by assumption) (kmsi : K.msi = false := by assumption) (kpch : K.pch = false := by assumption) (kshd : K.shd = false := by assumption) (kledger : K.ledger = false := by assumption) (kshu : K.shu = false := by assumption) (kblt : K.blt = false := by assumption) (ktmg : K.tmg = false := by assumption) (kpmc : K.pmc = false := by assumption) : Kept K s0 (State.shuttleRetire s p) := by
  unfold State.shuttleRetire
  repeat' (first
    | with_reducible assumption | intro _ | with_reducible apply ite_kept | with_reducible apply ite_fst_kept
    | with_reducible apply State.shuttleStop_kept | with_reducible apply State.p_kept | with_reducible apply State.updShu_kept
    | with_reducible apply State.swapAsk_kept | with_reducible apply State.roleRetire_kept | extract_lets | dsimp only | split | dsimp +zetaDelta only)

theorem State.swapAbandon_kept {K : Keep} {s0 : State} (s : State) (k : Nat) (hs : Kept K s0 s) (kirq : K.irq = false := by assumption) (kcyc : K.cyc = false := by assumption) (kmsi : K.msi = false := by assumption) (kshu : K.shu = false := by assumption) : Kept K s0 (State.swapAbandon s k) := by
  unfold State.swapAbandon
  repeat' (first
    | with_reducible assumption | intro _ | with_reducible apply ite_kept | with_reducible apply ite_fst_kept | with_reducible apply State.swapClear_kept
    | with_reducible apply State.swapResult_kept | with_reducible apply State.updShu_kept | extract_lets | dsimp only | split)

theorem State.unlatch_kept {K : Keep} {s0 : State} (s : State) (p : Nat) (t : Nat) (e : Nat) (hs : Kept K s0 s) (kshu : K.shu = false := by assumption) : Kept K s0 (State.unlatch s p t e) := by
  unfold State.unlatch
  repeat' (first
    | with_reducible assumption | intro _ | with_reducible apply State.updThread_kept | dsimp only)

end Sys2Proof.Machine
end

