-- ==== Sys2Proof/Laws/Kept/Resets.lean ====
section
/-! SUPPORT. What the operations and meanings of Machine/Resets.lean keep: the queue, the clock, the canonical forms, and every
component of the state that they have no business with. -/
namespace Sys2Proof.Machine

set_option linter.all false

theorem State.regsReset_kept {K : Keep} {s0 : State} (s : State) (lo : Nat) (hi : Nat) (hs : Kept K s0 s) : Kept K s0 (State.regsReset s lo hi) := by
  unfold State.regsReset
  repeat' (first
    | with_reducible assumption | intro _ | dsimp only | with_reducible apply Kept.upd_regs)

theorem State.drfReset_kept {K : Keep} {s0 : State} (s : State) (hs : Kept K s0 s) (kdrf : K.drf = false := by assumption) : Kept K s0 (State.drfReset s) := by
  unfold State.drfReset
  repeat' (first
    | with_reducible assumption | with_reducible apply ite_kept | with_reducible apply ite_fst_kept | with_reducible apply State.p_kept | extract_lets
    | dsimp only | split | with_reducible apply Kept.upd_drf)

theorem State.clsReset_kept {K : Keep} {s0 : State} (s : State) (hs : Kept K s0 s) (kcls : K.cls = false := by assumption) : Kept K s0 (State.clsReset s) := by
  unfold State.clsReset
  repeat' (first
    | with_reducible assumption | intro _ | with_reducible apply iter_kept | with_reducible apply foldl_kept | with_reducible apply foldl_fst_kept
    | with_reducible apply foldl_snd_kept | with_reducible apply State.add_kept | with_reducible apply State.p_kept
    | with_reducible apply State.updCls_kept | extract_lets | dsimp only)

theorem State.fwdClear_kept {K : Keep} {s0 : State} (s : State) (hs : Kept K s0 s) (kfwd : K.fwd = false := by assumption) : Kept K s0 (State.fwdClear s) := by
  unfold State.fwdClear
  repeat' (first
    | with_reducible assumption | intro _ | with_reducible apply State.regsReset_kept | with_reducible apply State.wr64_kept
    | with_reducible apply State.updFwd_kept | extract_lets | dsimp only)

theorem State.fwdReset_kept {K : Keep} {s0 : State} (s : State) (hs : Kept K s0 s) (kfwd : K.fwd = false := by assumption) : Kept K s0 (State.fwdReset s) := by
  unfold State.fwdReset
  repeat' (first
    | with_reducible assumption | intro _ | with_reducible apply foldl_kept | with_reducible apply foldl_fst_kept | with_reducible apply foldl_snd_kept
    | with_reducible apply State.fwdClear_kept | with_reducible apply State.add_kept | with_reducible apply State.p_kept
    | with_reducible apply State.updFwd_kept | extract_lets | dsimp only | split | dsimp +zetaDelta only)

theorem State.tmgReset_kept {K : Keep} {s0 : State} (s : State) (hs : Kept K s0 s) (kcyc : K.cyc = false := by assumption) (ktmg : K.tmg = false := by assumption) : Kept K s0 (State.tmgReset s) := by
  unfold State.tmgReset
  repeat' (first
    | with_reducible assumption | intro _ | with_reducible apply foldl_kept | with_reducible apply foldl_fst_kept | with_reducible apply foldl_snd_kept
    | with_reducible apply State.updCyc_kept | with_reducible apply State.flushRange_kept | with_reducible apply State.freeBack_kept
    | with_reducible apply State.updTmg_kept | extract_lets | dsimp only)

theorem State.cryReset_kept {K : Keep} {s0 : State} (s : State) (hs : Kept K s0 s) (kirq : K.irq = false := by assumption) (kcyc : K.cyc = false := by assumption) (kmsi : K.msi = false := by assumption) (kshu : K.shu = false := by assumption) (kcry : K.cry = false := by assumption) : Kept K s0 (State.cryReset s) := by
  unfold State.cryReset
  repeat' (first
    | with_reducible assumption | intro _ | with_reducible apply ite_kept | with_reducible apply ite_fst_kept | with_reducible apply foldl_kept
    | with_reducible apply foldl_fst_kept | with_reducible apply foldl_snd_kept | with_reducible apply State.sealAbandon_kept
    | with_reducible apply State.p_kept | with_reducible apply State.when_kept | with_reducible apply State.updCry_kept | extract_lets | dsimp only
    | split)

theorem State.trbReset_kept {K : Keep} {s0 : State} (s : State) (hs : Kept K s0 s) (kirq : K.irq = false := by assumption) (kcyc : K.cyc = false := by assumption) (kmsi : K.msi = false := by assumption) (kshu : K.shu = false := by assumption) (kblt : K.blt = false := by assumption) (ktrb : K.trb = false := by assumption) : Kept K s0 (State.trbReset s) := by
  unfold State.trbReset
  repeat' (first
    | with_reducible assumption | intro _ | with_reducible apply foldl_kept | with_reducible apply foldl_fst_kept | with_reducible apply foldl_snd_kept
    | with_reducible apply State.tribStop_kept | with_reducible apply State.tClearAll_kept | with_reducible apply State.updShu_kept
    | with_reducible apply State.epFresh_kept | with_reducible apply State.p_kept | extract_lets | dsimp only | with_reducible apply Kept.upd_trb)

theorem State.slvReset_kept {K : Keep} {s0 : State} (s : State) (hs : Kept K s0 s) (kirq : K.irq = false := by assumption) (kcyc : K.cyc = false := by assumption) (kmsi : K.msi = false := by assumption) (kshu : K.shu = false := by assumption) (kslv : K.slv = false := by assumption) : Kept K s0 (State.slvReset s) := by
  unfold State.slvReset
  repeat' (first
    | with_reducible assumption | intro _ | with_reducible apply foldl_kept | with_reducible apply foldl_fst_kept | with_reducible apply foldl_snd_kept
    | with_reducible apply State.p_kept | with_reducible apply State.svLink_kept | with_reducible apply State.updSlv_kept | extract_lets | dsimp only)

theorem State.bltReset_kept {K : Keep} {s0 : State} (s : State) (hs : Kept K s0 s) (kirq : K.irq = false := by assumption) (kcyc : K.cyc = false := by assumption) (kmsi : K.msi = false := by assumption) (kshu : K.shu = false := by assumption) (kblt : K.blt = false := by assumption) : Kept K s0 (State.bltReset s) := by
  unfold State.bltReset
  repeat' (first
    | with_reducible assumption | intro _ | with_reducible apply foldl_kept | with_reducible apply foldl_fst_kept | with_reducible apply foldl_snd_kept
    | with_reducible apply State.boltLoseRec_kept | with_reducible apply State.updBlt_kept | extract_lets | dsimp only)

theorem State.pmcReset_kept {K : Keep} {s0 : State} (s : State) (hs : Kept K s0 s) (kirq : K.irq = false := by assumption) (kcyc : K.cyc = false := by assumption) (kmsi : K.msi = false := by assumption) (kshu : K.shu = false := by assumption) (kpmc : K.pmc = false := by assumption) : Kept K s0 (State.pmcReset s) := by
  unfold State.pmcReset
  repeat' (first
    | with_reducible assumption | intro _ | with_reducible apply iter_kept | with_reducible apply State.dumpSkip_kept
    | with_reducible apply State.updPmc_kept | extract_lets | dsimp only)

theorem State.shuReset_kept {K : Keep} {s0 : State} (s : State) (k : Nat) (hs : Kept K s0 s) (kpch : K.pch = false := by assumption) (kshd : K.shd = false := by assumption) (kshu : K.shu = false := by assumption) (kpmc : K.pmc = false := by assumption) : Kept K s0 (State.shuReset s k) := by
  unfold State.shuReset
  repeat' (first
    | with_reducible assumption | intro _ | with_reducible apply iter_kept | with_reducible apply ite_kept | with_reducible apply ite_fst_kept
    | with_reducible apply State.tagFault_kept | with_reducible apply State.requeue_kept | with_reducible apply State.threadStart_kept | extract_lets
    | dsimp only | split)

theorem State.pchReset_kept {K : Keep} {s0 : State} (s : State) (c : Nat) (hs : Kept K s0 s) (kfresh : K.fresh = false := by assumption) (kirq : K.irq = false := by assumption) (kcyc : K.cyc = false := by assumption) (kmsi : K.msi = false := by assumption) (kpch : K.pch = false := by assumption) (kslots : K.slots = false := by assumption) (krng : K.rng = false := by assumption) (kshd : K.shd = false := by assumption) (kledger : K.ledger = false := by assumption) (kshu : K.shu = false := by assumption) (kblt : K.blt = false := by assumption) : Kept K s0 (State.pchReset s c) := by
  unfold State.pchReset
  repeat' (first
    | with_reducible assumption | intro _ | with_reducible apply iter_kept | with_reducible apply ite_kept | with_reducible apply ite_fst_kept
    | with_reducible apply State.discardWins_kept | with_reducible apply State.dropMaps_kept | with_reducible apply State.inqFlush_kept
    | with_reducible apply State.clearHints_kept | with_reducible apply State.chClear_kept | with_reducible apply State.onuClearAll_kept
    | with_reducible apply State.updPch_kept | with_reducible apply State.sleepReset_kept | with_reducible apply State.startChannel_kept
    | with_reducible apply State.p_kept | with_reducible apply State.tryStart_kept | extract_lets | dsimp only | split)

theorem State.refusalsDrop_kept {K : Keep} {s0 : State} (s : State) (c : Nat) (hs : Kept K s0 s) (kshu : K.shu = false := by assumption) : Kept K s0 (State.refusalsDrop s c) := by
  unfold State.refusalsDrop
  repeat' (first
    | with_reducible assumption | intro _ | with_reducible apply foldl_kept | with_reducible apply foldl_fst_kept | with_reducible apply foldl_snd_kept
    | with_reducible apply State.updShu_kept | dsimp only | split | dsimp +zetaDelta only)

theorem State.shdReset_kept {K : Keep} {s0 : State} (s : State) (c : Nat) (hs : Kept K s0 s) (kpch : K.pch = false := by assumption) (kshd : K.shd = false := by assumption) (kshu : K.shu = false := by assumption) : Kept K s0 (State.shdReset s c) := by
  unfold State.shdReset
  repeat' (first
    | with_reducible assumption | intro _ | with_reducible apply State.dropMaps_kept | with_reducible apply State.clearHints_kept
    | with_reducible apply State.inqFlush_kept | with_reducible apply State.refusalsDrop_kept | with_reducible apply State.updPch_kept
    | with_reducible apply State.guarSum_kept | extract_lets | dsimp only)

theorem State.hslReset_kept {K : Keep} {s0 : State} (s : State) (l : Nat) (hs : Kept K s0 s) (kfresh : K.fresh = false := by assumption) (kirq : K.irq = false := by assumption) (kcyc : K.cyc = false := by assumption) (kmsi : K.msi = false := by assumption) (ktmp : K.tmp = false := by assumption) (ktim : K.tim = false := by assumption) (kshu : K.shu = false := by assumption) (kblt : K.blt = false := by assumption) (khsl : K.hsl = false := by assumption) : Kept K s0 (State.hslReset s l) := by
  unfold State.hslReset
  repeat' (first
    | with_reducible assumption | with_reducible apply ite_kept | with_reducible apply ite_fst_kept | with_reducible apply State.setPort_kept
    | with_reducible apply State.blankPort_kept | extract_lets | dsimp only | split)

theorem State.blockLose_kept {K : Keep} {s0 : State} (s : State) (n : Nat) (hs : Kept K s0 s) (kfresh : K.fresh = false := by assumption) (kirq : K.irq = false := by assumption) (kcyc : K.cyc = false := by assumption) (kmsi : K.msi = false := by assumption) (kpch : K.pch = false := by assumption) (kslots : K.slots = false := by assumption) (krng : K.rng = false := by assumption) (kshd : K.shd = false := by assumption) (kledger : K.ledger = false := by assumption) (ktmp : K.tmp = false := by assumption) (kdrf : K.drf = false := by assumption) (ktim : K.tim = false := by assumption) (kshu : K.shu = false := by assumption) (kblt : K.blt = false := by assumption) (kcry : K.cry = false := by assumption) (kslv : K.slv = false := by assumption) (kcls : K.cls = false := by assumption) (ktmg : K.tmg = false := by assumption) (khsl : K.hsl = false := by assumption) (kfwd : K.fwd = false := by assumption) (ktrb : K.trb = false := by assumption) (kpmc : K.pmc = false := by assumption) : Kept K s0 (State.blockLose s n) := by
  unfold State.blockLose
  repeat' (first
    | with_reducible assumption | with_reducible apply ite_kept | with_reducible apply ite_fst_kept | with_reducible apply State.drfReset_kept
    | with_reducible apply State.clsReset_kept | with_reducible apply State.fwdReset_kept | with_reducible apply State.tmgReset_kept
    | with_reducible apply State.cryReset_kept | with_reducible apply State.trbReset_kept | with_reducible apply State.slvReset_kept
    | with_reducible apply State.bltReset_kept | with_reducible apply State.pmcReset_kept | with_reducible apply State.shuReset_kept
    | with_reducible apply State.pchReset_kept | with_reducible apply State.shdReset_kept | with_reducible apply State.hslReset_kept | split)

theorem State.updBlk_kept {K : Keep} {s0 : State} (s : State) (n : Nat) (f : Blk → Blk) (hs : Kept K s0 s) (kblks : K.blks = false := by assumption) : Kept K s0 (State.updBlk s n f) := by
  unfold State.updBlk
  repeat' (first
    | with_reducible assumption | with_reducible apply Kept.upd_blks)

theorem State.creditsBack_kept {K : Keep} {s0 : State} (s : State) (n : Nat) (hs : Kept K s0 s) (kpmc : K.pmc = false := by assumption) : Kept K s0 (State.creditsBack s n) := by
  unfold State.creditsBack
  repeat' (first
    | with_reducible assumption | intro _ | with_reducible apply foldl_kept | with_reducible apply foldl_fst_kept | with_reducible apply foldl_snd_kept
    | dsimp only | with_reducible apply Kept.upd_pmc)

theorem State.blockReset_kept {K : Keep} {s0 : State} (s : State) (n : Nat) (hs : Kept K s0 s) (kfresh : K.fresh = false := by assumption) (kirq : K.irq = false := by assumption) (kcyc : K.cyc = false := by assumption) (kmsi : K.msi = false := by assumption) (kblks : K.blks = false := by assumption) (kpch : K.pch = false := by assumption) (kslots : K.slots = false := by assumption) (krng : K.rng = false := by assumption) (kshd : K.shd = false := by assumption) (kledger : K.ledger = false := by assumption) (ktmp : K.tmp = false := by assumption) (kdrf : K.drf = false := by assumption) (ktim : K.tim = false := by assumption) (kshu : K.shu = false := by assumption) (kblt : K.blt = false := by assumption) (kcry : K.cry = false := by assumption) (kslv : K.slv = false := by assumption) (kcls : K.cls = false := by assumption) (ktmg : K.tmg = false := by assumption) (khsl : K.hsl = false := by assumption) (kfwd : K.fwd = false := by assumption) (ktrb : K.trb = false := by assumption) (kpmc : K.pmc = false := by assumption) : Kept K s0 (State.blockReset s n) := by
  unfold State.blockReset
  repeat' (first
    | with_reducible assumption | intro _ | with_reducible apply State.blockLose_kept | with_reducible apply State.creditsBack_kept
    | with_reducible apply State.updTmp_kept | with_reducible apply State.updBlk_kept | with_reducible apply State.inc_kept | extract_lets | dsimp only)

end Sys2Proof.Machine
end

