-- ==== Sys2Proof/Laws/Kept/Clocks.lean ====
section
/-! SUPPORT. What the operations and meanings of Machine/Clocks.lean keep: the queue, the clock, the canonical forms, and every
component of the state that they have no business with. -/
namespace Sys2Proof.Machine

set_option linter.all false

theorem State.refGate_kept {K : Keep} {s0 : State} (s : State) (l : List (Fin 3 × Fin 3 × Nat)) (x : Nat) (hs : Kept K s0 s) (kirq : K.irq = false := by assumption) (kcyc : K.cyc = false := by assumption) (kmsi : K.msi = false := by assumption) (ktmp : K.tmp = false := by assumption) (kshu : K.shu = false := by assumption) : Kept K s0 (State.refGate s l x) := by
  unfold State.refGate
  repeat' (first
    | with_reducible assumption | intro _ | with_reducible apply ite_kept | with_reducible apply ite_fst_kept | with_reducible apply State.updTmp_kept
    | with_reducible apply State.p_kept | with_reducible apply State.when_kept | with_reducible apply State.ev_kept | with_reducible apply State.wr_kept
    | extract_lets | dsimp only | split)

theorem State.clkApply_kept {K : Keep} {s0 : State} (s : State) (hs : Kept K s0 s) (kirq : K.irq = false := by assumption) (kcyc : K.cyc = false := by assumption) (kmsi : K.msi = false := by assumption) (ktmp : K.tmp = false := by assumption) (kshu : K.shu = false := by assumption) : Kept K s0 (State.clkApply s) := by
  unfold State.clkApply
  repeat' (first
    | with_reducible assumption | intro _ | with_reducible apply ite_kept | with_reducible apply ite_fst_kept | with_reducible apply foldl_kept
    | with_reducible apply foldl_fst_kept | with_reducible apply foldl_snd_kept | with_reducible apply State.applyWords_kept
    | with_reducible apply State.refGone_kept | with_reducible apply State.p_kept | with_reducible apply State.updTmp_kept
    | with_reducible apply State.when_kept | with_reducible apply State.ev_kept | extract_lets | dsimp only | split)

theorem execRefGateEnd_kept {K : Keep} {s0 : State} (counts : List (Fin 3 × Fin 3 × Nat)) (s : State) (hs : Kept K s0 s) (kfresh : K.fresh = false := by assumption) (kirq : K.irq = false := by assumption) (kcyc : K.cyc = false := by assumption) (kmsi : K.msi = false := by assumption) (ktmp : K.tmp = false := by assumption) (ktim : K.tim = false := by assumption) (kshu : K.shu = false := by assumption) (kblt : K.blt = false := by assumption) (khsl : K.hsl = false := by assumption) : KeptO K s0 (execRefGateEnd counts s) := by
  unfold execRefGateEnd
  repeat' (first
    | with_reducible assumption | intro _ | with_reducible apply next_kept | with_reducible apply ite_kept | with_reducible apply ite_fst_kept
    | with_reducible apply foldl_kept | with_reducible apply foldl_fst_kept | with_reducible apply foldl_snd_kept
    | with_reducible apply State.refGate_kept | with_reducible apply State.when_kept | with_reducible apply State.ev_kept
    | with_reducible apply State.clkApply_kept | with_reducible apply State.refSelect_kept | extract_lets | dsimp only | split)

theorem execRefLost_kept {K : Keep} {s0 : State} (x : Fin 3) (s : State) (hs : Kept K s0 s) (kfresh : K.fresh = false := by assumption) (kirq : K.irq = false := by assumption) (kcyc : K.cyc = false := by assumption) (kmsi : K.msi = false := by assumption) (ktmp : K.tmp = false := by assumption) (ktim : K.tim = false := by assumption) (kshu : K.shu = false := by assumption) (kblt : K.blt = false := by assumption) (khsl : K.hsl = false := by assumption) : KeptO K s0 (execRefLost x s) := by
  unfold execRefLost
  repeat' (first
    | with_reducible assumption | intro _ | with_reducible apply next_kept | with_reducible apply State.when_kept
    | with_reducible apply State.refGone_kept | with_reducible apply State.inc_kept | with_reducible apply State.ev_kept
    | with_reducible apply State.refSelect_kept | dsimp only)

theorem execRefPresent_kept {K : Keep} {s0 : State} (x : Fin 3) (s : State) (hs : Kept K s0 s) (kfresh : K.fresh = false := by assumption) (kirq : K.irq = false := by assumption) (kcyc : K.cyc = false := by assumption) (kmsi : K.msi = false := by assumption) (ktmp : K.tmp = false := by assumption) (ktim : K.tim = false := by assumption) (kshu : K.shu = false := by assumption) (kblt : K.blt = false := by assumption) (khsl : K.hsl = false := by assumption) : KeptO K s0 (execRefPresent x s) := by
  unfold execRefPresent
  repeat' (first
    | with_reducible assumption | intro _ | with_reducible apply next_kept | with_reducible apply State.when_kept
    | with_reducible apply State.clkApply_kept | with_reducible apply State.p_kept | with_reducible apply State.refSelect_kept | extract_lets
    | dsimp only)

theorem execRefRevert_kept {K : Keep} {s0 : State} (s : State) (hs : Kept K s0 s) (kirq : K.irq = false := by assumption) (kcyc : K.cyc = false := by assumption) (kmsi : K.msi = false := by assumption) (kshu : K.shu = false := by assumption) : KeptO K s0 (execRefRevert s) := by
  unfold execRefRevert
  repeat' (first
    | with_reducible assumption | intro _ | with_reducible apply next_kept | with_reducible apply State.when_kept
    | with_reducible apply State.refTake_kept | extract_lets | dsimp only | split | dsimp +zetaDelta only)

theorem execPllLock_kept {K : Keep} {s0 : State} (p : Fin 23) (s : State) (hs : Kept K s0 s) : KeptO K s0 (execPllLock p s) := by
  unfold execPllLock
  repeat' (first
    | with_reducible assumption | intro _ | with_reducible apply next_kept | with_reducible apply State.when_kept | with_reducible apply State.wr_kept
    | dsimp only)

theorem execPllLossOfLock_kept {K : Keep} {s0 : State} (p : Fin 23) (s : State) (hs : Kept K s0 s) (kfresh : K.fresh = false := by assumption) (kirq : K.irq = false := by assumption) (kcyc : K.cyc = false := by assumption) (kmsi : K.msi = false := by assumption) (kshu : K.shu = false := by assumption) : KeptO K s0 (execPllLossOfLock p s) := by
  unfold execPllLossOfLock
  repeat' (first
    | with_reducible assumption | intro _ | with_reducible apply next_kept | with_reducible apply State.when_kept
    | with_reducible apply State.drawNat_kept | with_reducible apply State.ev_kept | with_reducible apply State.wr_kept | extract_lets | dsimp only)

theorem execCoastClear_kept {K : Keep} {s0 : State} (s : State) (hs : Kept K s0 s) (kirq : K.irq = false := by assumption) (kcyc : K.cyc = false := by assumption) (kmsi : K.msi = false := by assumption) (kpch : K.pch = false := by assumption) (ktmp : K.tmp = false := by assumption) (kshu : K.shu = false := by assumption) : KeptO K s0 (execCoastClear s) := by
  unfold execCoastClear
  repeat' (first
    | with_reducible assumption | intro _ | with_reducible apply next_kept | with_reducible apply iter_kept | with_reducible apply ite_kept
    | with_reducible apply ite_fst_kept | with_reducible apply State.when_kept | with_reducible apply State.p_kept | with_reducible apply State.ev_kept
    | with_reducible apply State.updPch_kept | with_reducible apply State.updTmp_kept | with_reducible apply State.srLeave_kept | extract_lets
    | dsimp only | split)

theorem execMuxHang_kept {K : Keep} {s0 : State} (p : Fin 23) (s : State) (hs : Kept K s0 s) (kirq : K.irq = false := by assumption) (kcyc : K.cyc = false := by assumption) (kmsi : K.msi = false := by assumption) (kblks : K.blks = false := by assumption) (kshu : K.shu = false := by assumption) : KeptO K s0 (execMuxHang p s) := by
  unfold execMuxHang
  repeat' (first
    | with_reducible assumption | intro _ | with_reducible apply next_kept | with_reducible apply foldl_kept | with_reducible apply foldl_fst_kept
    | with_reducible apply foldl_snd_kept | with_reducible apply State.inc_kept | with_reducible apply State.ev_kept
    | with_reducible apply State.updBlk_kept | extract_lets | dsimp only)

theorem State.gateShow_kept {K : Keep} {s0 : State} (s : State) (n : Nat) (hs : Kept K s0 s) : Kept K s0 (State.gateShow s n) := by
  unfold State.gateShow
  repeat' (first
    | with_reducible assumption | with_reducible apply State.p_kept)

theorem State.gateWrite_kept {K : Keep} {s0 : State} (s : State) (n : Nat) (v : Word) (hs : Kept K s0 s) (kirq : K.irq = false := by assumption) (kcyc : K.cyc = false := by assumption) (kmsi : K.msi = false := by assumption) (kblks : K.blks = false := by assumption) (kshu : K.shu = false := by assumption) : Kept K s0 (State.gateWrite s n v) := by
  unfold State.gateWrite
  repeat' (first
    | with_reducible assumption | intro _ | with_reducible apply ite_kept | with_reducible apply ite_fst_kept | with_reducible apply State.ev_kept
    | with_reducible apply State.wrRW_kept | with_reducible apply State.updBlk_kept | with_reducible apply State.gateShow_kept | extract_lets
    | dsimp only | split)

theorem execClockGate_kept {K : Keep} {s0 : State} (ag : Agent) (n : Fin 200) (v : Word) (s : State) (hs : Kept K s0 s) (kirq : K.irq = false := by assumption) (kcyc : K.cyc = false := by assumption) (kmsi : K.msi = false := by assumption) (kblks : K.blks = false := by assumption) (kshu : K.shu = false := by assumption) : KeptO K s0 (execClockGate ag n v s) := by
  unfold execClockGate
  repeat' (first
    | with_reducible assumption | intro _ | with_reducible apply next_kept | with_reducible apply State.bus_kept
    | with_reducible apply State.gateWrite_kept | dsimp only)

theorem execClockUngate_kept {K : Keep} {s0 : State} (ag : Agent) (n : Fin 200) (v : Word) (s : State) (hs : Kept K s0 s) (kirq : K.irq = false := by assumption) (kcyc : K.cyc = false := by assumption) (kmsi : K.msi = false := by assumption) (kblks : K.blks = false := by assumption) (kshu : K.shu = false := by assumption) : KeptO K s0 (execClockUngate ag n v s) := by
  unfold execClockUngate
  repeat' (first
    | with_reducible assumption | intro _ | with_reducible apply next_kept | with_reducible apply State.bus_kept
    | with_reducible apply State.gateWrite_kept | dsimp only)

theorem execGateForceTimeout_kept {K : Keep} {s0 : State} (n : Fin 200) (s : State) (hs : Kept K s0 s) (kirq : K.irq = false := by assumption) (kcyc : K.cyc = false := by assumption) (kmsi : K.msi = false := by assumption) (kblks : K.blks = false := by assumption) (kshu : K.shu = false := by assumption) : KeptO K s0 (execGateForceTimeout n s) := by
  unfold execGateForceTimeout
  repeat' (first
    | with_reducible assumption | intro _ | with_reducible apply next_kept | with_reducible apply State.when_kept
    | with_reducible apply State.updBlk_kept | with_reducible apply State.gateShow_kept | with_reducible apply State.ev_kept | dsimp only)

theorem execBusInterfaceIdle_kept {K : Keep} {s0 : State} (n : Fin 200) (s : State) (hs : Kept K s0 s) (kblks : K.blks = false := by assumption) : KeptO K s0 (execBusInterfaceIdle n s) := by
  unfold execBusInterfaceIdle
  repeat' (first
    | with_reducible assumption | intro _ | with_reducible apply next_kept | with_reducible apply State.updBlk_kept
    | with_reducible apply State.gateShow_kept | dsimp only)

theorem State.blkRstWrite_kept {K : Keep} {s0 : State} (s : State) (v : Word) (hs : Kept K s0 s) (kfresh : K.fresh = false := by assumption) (kirq : K.irq = false := by assumption) (kcyc : K.cyc = false := by assumption) (kmsi : K.msi = false := by assumption) (kblks : K.blks = false := by assumption) (kpch : K.pch = false := by assumption) (kslots : K.slots = false := by assumption) (krng : K.rng = false := by assumption) (kshd : K.shd = false := by assumption) (kledger : K.ledger = false := by assumption) (ktmp : K.tmp = false := by assumption) (kdrf : K.drf = false := by assumption) (ktim : K.tim = false := by assumption) (kshu : K.shu = false := by assumption) (kblt : K.blt = false := by assumption) (kcry : K.cry = false := by assumption) (kslv : K.slv = false := by assumption) (kcls : K.cls = false := by assumption) (ktmg : K.tmg = false := by assumption) (khsl : K.hsl = false := by assumption) (kfwd : K.fwd = false := by assumption) (ktrb : K.trb = false := by assumption) (kpmc : K.pmc = false := by assumption) : Kept K s0 (State.blkRstWrite s v) := by
  unfold State.blkRstWrite
  repeat' (first
    | with_reducible assumption | intro _ | with_reducible apply ite_kept | with_reducible apply ite_fst_kept | with_reducible apply State.p_kept
    | with_reducible apply State.ev_kept | with_reducible apply State.blockReset_kept | with_reducible apply State.updBlk_kept
    | with_reducible apply State.gateShow_kept | extract_lets | dsimp only | split)

theorem execBlockReset_kept {K : Keep} {s0 : State} (ag : Agent) (v : Word) (s : State) (hs : Kept K s0 s) (kfresh : K.fresh = false := by assumption) (kirq : K.irq = false := by assumption) (kcyc : K.cyc = false := by assumption) (kmsi : K.msi = false := by assumption) (kblks : K.blks = false := by assumption) (kpch : K.pch = false := by assumption) (kslots : K.slots = false := by assumption) (krng : K.rng = false := by assumption) (kshd : K.shd = false := by assumption) (kledger : K.ledger = false := by assumption) (ktmp : K.tmp = false := by assumption) (kdrf : K.drf = false := by assumption) (ktim : K.tim = false := by assumption) (kshu : K.shu = false := by assumption) (kblt : K.blt = false := by assumption) (kcry : K.cry = false := by assumption) (kslv : K.slv = false := by assumption) (kcls : K.cls = false := by assumption) (ktmg : K.tmg = false := by assumption) (khsl : K.hsl = false := by assumption) (kfwd : K.fwd = false := by assumption) (ktrb : K.trb = false := by assumption) (kpmc : K.pmc = false := by assumption) : KeptO K s0 (execBlockReset ag v s) := by
  unfold execBlockReset
  repeat' (first
    | with_reducible assumption | intro _ | with_reducible apply next_kept | with_reducible apply State.bus_kept
    | with_reducible apply State.blkRstWrite_kept | dsimp only)

theorem State.powerOn_kept {K : Keep} {s0 : State} (s : State) (h : Kept K s0 s) (kddr : K.ddr = false := by assumption) (kagents : K.agents = false := by assumption) (kirq : K.irq = false := by assumption) (kcyc : K.cyc = false := by assumption) (kmsi : K.msi = false := by assumption) (kblks : K.blks = false := by assumption) (khost : K.host = false := by assumption) (kpch : K.pch = false := by assumption) (kslots : K.slots = false := by assumption) (krng : K.rng = false := by assumption) (kshd : K.shd = false := by assumption) (kledger : K.ledger = false := by assumption) (ksealRot : K.sealRot = false := by assumption) (ktmp : K.tmp = false := by assumption) (kdrf : K.drf = false := by assumption) (ktim : K.tim = false := by assumption) (kshu : K.shu = false := by assumption) (kblt : K.blt = false := by assumption) (kcry : K.cry = false := by assumption) (kslv : K.slv = false := by assumption) (kcls : K.cls = false := by assumption) (ktmg : K.tmg = false := by assumption) (khsl : K.hsl = false := by assumption) (kfwd : K.fwd = false := by assumption) (ktrb : K.trb = false := by assumption) (kpmc : K.pmc = false := by assumption) : Kept K s0 (State.powerOn s) := by
  unfold State.powerOn
  exact State.wr_kept (State.wr_kept (Kept.restart (s := s) rfl rfl rfl (fun _ => ⟨rfl, rfl, rfl⟩) h))

theorem execPorst_kept {K : Keep} {s0 : State} (s : State) (hs : Kept K s0 s) (kddr : K.ddr = false := by assumption) (kagents : K.agents = false := by assumption) (kirq : K.irq = false := by assumption) (kcyc : K.cyc = false := by assumption) (kmsi : K.msi = false := by assumption) (kblks : K.blks = false := by assumption) (khost : K.host = false := by assumption) (kpch : K.pch = false := by assumption) (kslots : K.slots = false := by assumption) (krng : K.rng = false := by assumption) (kshd : K.shd = false := by assumption) (kledger : K.ledger = false := by assumption) (ksealRot : K.sealRot = false := by assumption) (ktmp : K.tmp = false := by assumption) (kdrf : K.drf = false := by assumption) (ktim : K.tim = false := by assumption) (kshu : K.shu = false := by assumption) (kblt : K.blt = false := by assumption) (kcry : K.cry = false := by assumption) (kslv : K.slv = false := by assumption) (kcls : K.cls = false := by assumption) (ktmg : K.tmg = false := by assumption) (khsl : K.hsl = false := by assumption) (kfwd : K.fwd = false := by assumption) (ktrb : K.trb = false := by assumption) (kpmc : K.pmc = false := by assumption) : KeptO K s0 (execPorst s) := by
  unfold execPorst
  repeat' (first
    | with_reducible assumption | with_reducible apply next_kept | with_reducible apply State.powerOn_kept)

theorem execVddTmpLoss_kept {K : Keep} {s0 : State} (s : State) (hs : Kept K s0 s) (kddr : K.ddr = false := by assumption) (kagents : K.agents = false := by assumption) (kirq : K.irq = false := by assumption) (kcyc : K.cyc = false := by assumption) (kmsi : K.msi = false := by assumption) (kblks : K.blks = false := by assumption) (khost : K.host = false := by assumption) (kpch : K.pch = false := by assumption) (kslots : K.slots = false := by assumption) (krng : K.rng = false := by assumption) (kshd : K.shd = false := by assumption) (kledger : K.ledger = false := by assumption) (ksealRot : K.sealRot = false := by assumption) (ktmp : K.tmp = false := by assumption) (kdrf : K.drf = false := by assumption) (ktim : K.tim = false := by assumption) (kshu : K.shu = false := by assumption) (kblt : K.blt = false := by assumption) (kcry : K.cry = false := by assumption) (kslv : K.slv = false := by assumption) (kcls : K.cls = false := by assumption) (ktmg : K.tmg = false := by assumption) (khsl : K.hsl = false := by assumption) (kfwd : K.fwd = false := by assumption) (ktrb : K.trb = false := by assumption) (kpmc : K.pmc = false := by assumption) : KeptO K s0 (execVddTmpLoss s) := by
  unfold execVddTmpLoss
  repeat' (first
    | with_reducible assumption | with_reducible apply next_kept | with_reducible apply State.powerOn_kept)

theorem execSrst_kept {K : Keep} {s0 : State} (s : State) (h : Kept K s0 s) (kddr : K.ddr = false := by assumption) (kagents : K.agents = false := by assumption) (kirq : K.irq = false := by assumption) (kcyc : K.cyc = false := by assumption) (kmsi : K.msi = false := by assumption) (kblks : K.blks = false := by assumption) (khost : K.host = false := by assumption) (kpch : K.pch = false := by assumption) (kslots : K.slots = false := by assumption) (krng : K.rng = false := by assumption) (kshd : K.shd = false := by assumption) (kledger : K.ledger = false := by assumption) (ksealRot : K.sealRot = false := by assumption) (ktmp : K.tmp = false := by assumption) (kdrf : K.drf = false := by assumption) (ktim : K.tim = false := by assumption) (kshu : K.shu = false := by assumption) (kblt : K.blt = false := by assumption) (kcry : K.cry = false := by assumption) (kslv : K.slv = false := by assumption) (kcls : K.cls = false := by assumption) (ktmg : K.tmg = false := by assumption) (khsl : K.hsl = false := by assumption) (kfwd : K.fwd = false := by assumption) (ktrb : K.trb = false := by assumption) (kpmc : K.pmc = false := by assumption) : KeptO K s0 (execSrst s) := by
  unfold execSrst
  refine next_kept (State.when_kept h ?_)
  intro x0 h0
  have h' : Kept K s0 x0.srEnter := State.srEnter_kept _ h0
  generalize x0.srEnter = s1 at h' ⊢
  repeat' (first
    | with_reducible apply State.p_kept
    | extract_lets)
  exact Kept.restart (s := s1) rfl rfl rfl (fun e => ⟨(h'.sound e).ddr, twf_drop resetWord s1.regs (fun a => !srstKeeps a) (h'.sound e).regs, rfl⟩) h'

theorem execResetRelease_kept {K : Keep} {s0 : State} (s : State) (hs : Kept K s0 s) (kfresh : K.fresh = false := by assumption) (ktmp : K.tmp = false := by assumption) (kcry : K.cry = false := by assumption) : KeptO K s0 (execResetRelease s) := by
  unfold execResetRelease
  repeat' (first
    | with_reducible assumption | intro _ | with_reducible apply next_kept | with_reducible apply ite_kept | with_reducible apply ite_fst_kept
    | with_reducible apply State.draw256_kept | with_reducible apply State.updTmp_kept | with_reducible apply State.updCry_kept | extract_lets
    | dsimp only | split)

theorem State.bootFetch_kept {K : Keep} {s0 : State} (s : State) (slot : Nat) (hs : Kept K s0 s) (kdrf : K.drf = false := by assumption) : Kept K s0 (State.bootFetch s slot) := by
  unfold State.bootFetch
  repeat' (first
    | with_reducible assumption | with_reducible apply State.p_kept | extract_lets | dsimp only | with_reducible apply Kept.upd_drf)

theorem execBlocksRelease_kept {K : Keep} {s0 : State} (s : State) (hs : Kept K s0 s) (kblks : K.blks = false := by assumption) (ktmp : K.tmp = false := by assumption) (kdrf : K.drf = false := by assumption) (ktim : K.tim = false := by assumption) : KeptO K s0 (execBlocksRelease s) := by
  unfold execBlocksRelease
  repeat' (first
    | with_reducible assumption | intro _ | with_reducible apply next_kept | with_reducible apply iter_kept | with_reducible apply State.when_kept
    | with_reducible apply State.updBlk_kept | with_reducible apply State.updTmp_kept | with_reducible apply State.updTim_kept
    | with_reducible apply State.bootFetch_kept | extract_lets | dsimp only | (show Time.wf _ = true; assumption))

end Sys2Proof.Machine
end

