-- ==== Sys2Proof/Laws/Kept/Power.lean ====
section
/-! SUPPORT. What the operations and meanings of Machine/Power.lean keep: the queue, the clock, the canonical forms, and every
component of the state that they have no business with. -/
namespace Sys2Proof.Machine

set_option linter.all false

theorem State.railSet_kept {K : Keep} {s0 : State} (s : State) (r : Nat) (v : Nat) (hs : Kept K s0 s) : Kept K s0 (State.railSet s r v) := by
  unfold State.railSet
  repeat' (first
    | with_reducible assumption | with_reducible apply State.p_kept | with_reducible apply State.wr_kept | extract_lets | dsimp only)

theorem State.avsStep_kept {K : Keep} {s0 : State} (s : State) (r : Nat) (need : Nat) (hs : Kept K s0 s) : Kept K s0 (State.avsStep s r need) := by
  unfold State.avsStep
  repeat' (first
    | with_reducible assumption | with_reducible apply ite_kept | with_reducible apply ite_fst_kept | with_reducible apply State.railSet_kept
    | extract_lets | dsimp only | split)

theorem execAvsPeriod_kept {K : Keep} {s0 : State} (need : List Nat) (s : State) (hs : Kept K s0 s) : KeptO K s0 (execAvsPeriod need s) := by
  unfold execAvsPeriod
  repeat' (first
    | with_reducible assumption | intro _ | with_reducible apply next_kept | with_reducible apply iter_kept | with_reducible apply State.avsStep_kept
    | dsimp only | split | dsimp +zetaDelta only)

theorem execAvsMarginAlarm_kept {K : Keep} {s0 : State} (r : Fin 5) (s : State) (hs : Kept K s0 s) : KeptO K s0 (execAvsMarginAlarm r s) := by
  unfold execAvsMarginAlarm
  repeat' (first
    | with_reducible assumption | intro _ | with_reducible apply next_kept | with_reducible apply State.when_kept
    | with_reducible apply State.railSet_kept | dsimp only)

theorem State.capShow_kept {K : Keep} {s0 : State} (s : State) (k : Nat) (hs : Kept K s0 s) : Kept K s0 (State.capShow s k) := by
  unfold State.capShow
  repeat' (first
    | with_reducible assumption | with_reducible apply State.p_kept)

theorem State.shuAim_kept {K : Keep} {s0 : State} (s : State) (k : Nat) (m : Nat) (hs : Kept K s0 s) (ktmp : K.tmp = false := by assumption) : Kept K s0 (State.shuAim s k m) := by
  unfold State.shuAim
  repeat' (first
    | with_reducible assumption | intro _ | with_reducible apply ite_kept | with_reducible apply ite_fst_kept | with_reducible apply State.updTmp_kept
    | with_reducible apply State.capShow_kept | extract_lets | dsimp only | split)

theorem State.shuRetarget_kept {K : Keep} {s0 : State} (s : State) (k : Nat) (hs : Kept K s0 s) (ktmp : K.tmp = false := by assumption) : Kept K s0 (State.shuRetarget s k) := by
  unfold State.shuRetarget
  repeat' (first
    | with_reducible assumption | with_reducible apply ite_kept | with_reducible apply ite_fst_kept | with_reducible apply State.shuAim_kept
    | extract_lets | dsimp only | split)

theorem State.railFreeze_kept {K : Keep} {s0 : State} (s : State) (r : Nat) (hs : Kept K s0 s) (kfresh : K.fresh = false := by assumption) (kirq : K.irq = false := by assumption) (kcyc : K.cyc = false := by assumption) (kmsi : K.msi = false := by assumption) (ktmp : K.tmp = false := by assumption) (kshu : K.shu = false := by assumption) : Kept K s0 (State.railFreeze s r) := by
  unfold State.railFreeze
  repeat' (first
    | with_reducible assumption | intro _ | with_reducible apply iter_kept | with_reducible apply ite_kept | with_reducible apply ite_fst_kept
    | with_reducible apply State.p_kept | with_reducible apply State.ev_kept | with_reducible apply State.updTmp_kept
    | with_reducible apply State.drawNat_kept | with_reducible apply State.shuRetarget_kept | extract_lets | dsimp only | split)

theorem execPmbusTransaction_kept {K : Keep} {s0 : State} (r : Fin 10) (ok : Bool) (iout : Option Word) (s : State) (hs : Kept K s0 s) (kfresh : K.fresh = false := by assumption) (kirq : K.irq = false := by assumption) (kcyc : K.cyc = false := by assumption) (kmsi : K.msi = false := by assumption) (ktmp : K.tmp = false := by assumption) (kshu : K.shu = false := by assumption) : KeptO K s0 (execPmbusTransaction r ok iout s) := by
  unfold execPmbusTransaction
  repeat' (first
    | with_reducible assumption | intro _ | with_reducible apply next_kept | with_reducible apply ite_kept | with_reducible apply ite_fst_kept
    | with_reducible apply State.updTmp_kept | with_reducible apply State.wr_kept | with_reducible apply State.railFreeze_kept | extract_lets
    | dsimp only | split | dsimp +zetaDelta only)

theorem State.pwrCtlWrite_kept {K : Keep} {s0 : State} (s : State) (v : Word) (hs : Kept K s0 s) (ktmp : K.tmp = false := by assumption) : Kept K s0 (State.pwrCtlWrite s v) := by
  unfold State.pwrCtlWrite
  repeat' (first
    | with_reducible assumption | intro _ | with_reducible apply iter_kept | with_reducible apply ite_kept | with_reducible apply ite_fst_kept
    | with_reducible apply State.wrRW_kept | with_reducible apply State.p_kept | with_reducible apply State.updTmp_kept
    | with_reducible apply State.shuRetarget_kept | with_reducible apply State.when_kept | extract_lets | dsimp only | split)

theorem execClusterFreqPeriod_kept {K : Keep} {s0 : State} (busy : List (Nat × Nat)) (s : State) (hs : Kept K s0 s) (ktmp : K.tmp = false := by assumption) : KeptO K s0 (execClusterFreqPeriod busy s) := by
  unfold execClusterFreqPeriod
  repeat' (first
    | with_reducible assumption | intro _ | with_reducible apply next_kept | with_reducible apply iter_kept | with_reducible apply ite_kept
    | with_reducible apply ite_fst_kept | with_reducible apply State.shuAim_kept | extract_lets | dsimp only | split | dsimp +zetaDelta only)

theorem execClusterFreqChange_kept {K : Keep} {s0 : State} (k : Fin 16) (s : State) (hs : Kept K s0 s) (ktmp : K.tmp = false := by assumption) : KeptO K s0 (execClusterFreqChange k s) := by
  unfold execClusterFreqChange
  repeat' (first
    | with_reducible assumption | intro _ | with_reducible apply next_kept | with_reducible apply ite_kept | with_reducible apply ite_fst_kept
    | with_reducible apply State.when_kept | with_reducible apply State.p_kept | with_reducible apply State.updTmp_kept | extract_lets | dsimp only
    | split)

theorem State.clusterGate_kept {K : Keep} {s0 : State} (s : State) (k : Nat) (hs : Kept K s0 s) (kblks : K.blks = false := by assumption) (kpch : K.pch = false := by assumption) (kshd : K.shd = false := by assumption) (ktmp : K.tmp = false := by assumption) (kshu : K.shu = false := by assumption) (kpmc : K.pmc = false := by assumption) : Kept K s0 (State.clusterGate s k) := by
  unfold State.clusterGate
  repeat' (first
    | with_reducible assumption | intro _ | with_reducible apply iter_kept | with_reducible apply State.tagFault_kept
    | with_reducible apply State.requeue_kept | with_reducible apply State.updTmp_kept | with_reducible apply State.updShu_kept
    | with_reducible apply State.p_kept | with_reducible apply State.updBlk_kept | with_reducible apply State.gateShow_kept | extract_lets | dsimp only)

theorem State.clusterStart_kept {K : Keep} {s0 : State} (s : State) (k : Nat) (hs : Kept K s0 s) (kshu : K.shu = false := by assumption) : Kept K s0 (State.clusterStart s k) := by
  unfold State.clusterStart
  repeat' (first
    | with_reducible assumption | intro _ | with_reducible apply iter_kept | with_reducible apply ite_kept | with_reducible apply ite_fst_kept
    | with_reducible apply State.p_kept | with_reducible apply State.imageInto_kept | with_reducible apply State.shuttleStart_kept | extract_lets
    | dsimp only | split | dsimp +zetaDelta only)

theorem State.clusterUngate_kept {K : Keep} {s0 : State} (s : State) (k : Nat) (hs : Kept K s0 s) (kblks : K.blks = false := by assumption) (ktmp : K.tmp = false := by assumption) (kshu : K.shu = false := by assumption) : Kept K s0 (State.clusterUngate s k) := by
  unfold State.clusterUngate
  repeat' (first
    | with_reducible assumption | intro _ | with_reducible apply State.p_kept | with_reducible apply State.updBlk_kept
    | with_reducible apply State.gateShow_kept | with_reducible apply State.shuRetarget_kept | with_reducible apply State.updTmp_kept
    | with_reducible apply State.clusterStart_kept | extract_lets | dsimp only)

theorem State.pwrShuWrite_kept {K : Keep} {s0 : State} (s : State) (k : Nat) (v : Word) (hs : Kept K s0 s) (kirq : K.irq = false := by assumption) (kcyc : K.cyc = false := by assumption) (kmsi : K.msi = false := by assumption) (kblks : K.blks = false := by assumption) (kpch : K.pch = false := by assumption) (kshd : K.shd = false := by assumption) (ktmp : K.tmp = false := by assumption) (kshu : K.shu = false := by assumption) (kpmc : K.pmc = false := by assumption) : Kept K s0 (State.pwrShuWrite s k v) := by
  unfold State.pwrShuWrite
  repeat' (first
    | with_reducible assumption | with_reducible apply ite_kept | with_reducible apply ite_fst_kept | with_reducible apply State.wrRW_kept
    | with_reducible apply State.shuRetarget_kept | with_reducible apply State.p_kept | with_reducible apply State.ev_kept
    | with_reducible apply State.clusterGate_kept | with_reducible apply State.clusterUngate_kept | extract_lets | dsimp only | split)

theorem execClusterGate_kept {K : Keep} {s0 : State} (ag : Agent) (k : Fin 16) (v : Word) (s : State) (hs : Kept K s0 s) (kirq : K.irq = false := by assumption) (kcyc : K.cyc = false := by assumption) (kmsi : K.msi = false := by assumption) (kblks : K.blks = false := by assumption) (kpch : K.pch = false := by assumption) (kshd : K.shd = false := by assumption) (ktmp : K.tmp = false := by assumption) (kshu : K.shu = false := by assumption) (kpmc : K.pmc = false := by assumption) : KeptO K s0 (execClusterGate ag k v s) := by
  unfold execClusterGate
  repeat' (first
    | with_reducible assumption | intro _ | with_reducible apply next_kept | with_reducible apply State.bus_kept
    | with_reducible apply State.pwrShuWrite_kept | dsimp only)

theorem execClusterUngate_kept {K : Keep} {s0 : State} (ag : Agent) (k : Fin 16) (v : Word) (s : State) (hs : Kept K s0 s) (kirq : K.irq = false := by assumption) (kcyc : K.cyc = false := by assumption) (kmsi : K.msi = false := by assumption) (kblks : K.blks = false := by assumption) (kpch : K.pch = false := by assumption) (kshd : K.shd = false := by assumption) (ktmp : K.tmp = false := by assumption) (kshu : K.shu = false := by assumption) (kpmc : K.pmc = false := by assumption) : KeptO K s0 (execClusterUngate ag k v s) := by
  unfold execClusterUngate
  repeat' (first
    | with_reducible assumption | intro _ | with_reducible apply next_kept | with_reducible apply State.bus_kept
    | with_reducible apply State.pwrShuWrite_kept | dsimp only)

theorem State.pwrMemWrite_kept {K : Keep} {s0 : State} (s : State) (v : Word) (hs : Kept K s0 s) (kirq : K.irq = false := by assumption) (kcyc : K.cyc = false := by assumption) (kmsi : K.msi = false := by assumption) (ktmp : K.tmp = false := by assumption) (kshu : K.shu = false := by assumption) : Kept K s0 (State.pwrMemWrite s v) := by
  unfold State.pwrMemWrite
  repeat' (first
    | with_reducible assumption | intro _ | with_reducible apply ite_kept | with_reducible apply ite_fst_kept | with_reducible apply State.wrRW_kept
    | with_reducible apply State.updTmp_kept | with_reducible apply State.srLeave_kept | extract_lets | dsimp only | split)

theorem execSelfRefreshRequest_kept {K : Keep} {s0 : State} (ag : Agent) (v : Word) (s : State) (hs : Kept K s0 s) (kirq : K.irq = false := by assumption) (kcyc : K.cyc = false := by assumption) (kmsi : K.msi = false := by assumption) (ktmp : K.tmp = false := by assumption) (kshu : K.shu = false := by assumption) : KeptO K s0 (execSelfRefreshRequest ag v s) := by
  unfold execSelfRefreshRequest
  repeat' (first
    | with_reducible assumption | intro _ | with_reducible apply next_kept | with_reducible apply State.bus_kept
    | with_reducible apply State.pwrMemWrite_kept | dsimp only)

theorem execSelfRefreshExit_kept {K : Keep} {s0 : State} (ag : Agent) (v : Word) (s : State) (hs : Kept K s0 s) (kirq : K.irq = false := by assumption) (kcyc : K.cyc = false := by assumption) (kmsi : K.msi = false := by assumption) (ktmp : K.tmp = false := by assumption) (kshu : K.shu = false := by assumption) : KeptO K s0 (execSelfRefreshExit ag v s) := by
  unfold execSelfRefreshExit
  repeat' (first
    | with_reducible assumption | intro _ | with_reducible apply next_kept | with_reducible apply State.bus_kept
    | with_reducible apply State.pwrMemWrite_kept | dsimp only)

theorem execSelfRefreshEntered_kept {K : Keep} {s0 : State} (s : State) (hs : Kept K s0 s) (kirq : K.irq = false := by assumption) (kcyc : K.cyc = false := by assumption) (kmsi : K.msi = false := by assumption) (ktmp : K.tmp = false := by assumption) (kshu : K.shu = false := by assumption) (kblt : K.blt = false := by assumption) : KeptO K s0 (execSelfRefreshEntered s) := by
  unfold execSelfRefreshEntered
  repeat' (first
    | with_reducible assumption | intro _ | with_reducible apply next_kept | with_reducible apply ite_kept | with_reducible apply ite_fst_kept
    | with_reducible apply State.when_kept | with_reducible apply State.updTmp_kept | with_reducible apply State.srEnter_kept
    | with_reducible apply State.srLeave_kept | extract_lets | dsimp only | split)

theorem execThermalSample_kept {K : Keep} {s0 : State} (t : List Int) (s : State) (hs : Kept K s0 s) (kirq : K.irq = false := by assumption) (kcyc : K.cyc = false := by assumption) (kmsi : K.msi = false := by assumption) (ktmp : K.tmp = false := by assumption) (kshu : K.shu = false := by assumption) : KeptO K s0 (execThermalSample t s) := by
  unfold execThermalSample
  repeat' (first
    | with_reducible assumption | intro _ | with_reducible apply next_kept | with_reducible apply iter_kept | with_reducible apply ite_kept
    | with_reducible apply ite_fst_kept | with_reducible apply foldl_kept | with_reducible apply foldl_fst_kept | with_reducible apply foldl_snd_kept
    | with_reducible apply State.updTmp_kept | with_reducible apply State.wr_kept | with_reducible apply State.p_kept
    | with_reducible apply State.ev_kept | with_reducible apply State.alertEvt_kept | extract_lets | dsimp only | split | dsimp +zetaDelta only)

theorem execThrottleStep_kept {K : Keep} {s0 : State} (s : State) (hs : Kept K s0 s) (kirq : K.irq = false := by assumption) (kcyc : K.cyc = false := by assumption) (kmsi : K.msi = false := by assumption) (ktmp : K.tmp = false := by assumption) (kshu : K.shu = false := by assumption) : KeptO K s0 (execThrottleStep s) := by
  unfold execThrottleStep
  repeat' (first
    | with_reducible assumption | intro _ | with_reducible apply next_kept | with_reducible apply iter_kept | with_reducible apply ite_kept
    | with_reducible apply ite_fst_kept | with_reducible apply State.updTmp_kept | with_reducible apply State.shuRetarget_kept
    | with_reducible apply State.p_kept | with_reducible apply State.ev_kept | extract_lets | dsimp only | split)

theorem State.supplyBad_kept {K : Keep} {s0 : State} (s : State) (hs : Kept K s0 s) (kirq : K.irq = false := by assumption) (kcyc : K.cyc = false := by assumption) (kmsi : K.msi = false := by assumption) (kpch : K.pch = false := by assumption) (ktmp : K.tmp = false := by assumption) (kshu : K.shu = false := by assumption) : Kept K s0 (State.supplyBad s) := by
  unfold State.supplyBad
  repeat' (first
    | with_reducible assumption | with_reducible apply State.ev_kept | with_reducible apply State.muteNow_kept)

theorem State.watchWrite_kept {K : Keep} {s0 : State} (s : State) (e : Nat) (a : Nat) (v : Word) (hs : Kept K s0 s) (ktmp : K.tmp = false := by assumption) : Kept K s0 (State.watchWrite s e a v) := by
  unfold State.watchWrite
  repeat' (first
    | with_reducible assumption | intro _ | with_reducible apply State.wrRW_kept | with_reducible apply State.updTmp_kept | dsimp only)

theorem execWatchTrip_kept {K : Keep} {s0 : State} (e : Fin 64) (out : Bool) (n : Nat) (s : State) (hs : Kept K s0 s) (kirq : K.irq = false := by assumption) (kcyc : K.cyc = false := by assumption) (kmsi : K.msi = false := by assumption) (kpch : K.pch = false := by assumption) (ktmp : K.tmp = false := by assumption) (kshu : K.shu = false := by assumption) : KeptO K s0 (execWatchTrip e out n s) := by
  unfold execWatchTrip
  repeat' (first
    | with_reducible assumption | intro _ | with_reducible apply next_kept | with_reducible apply ite_kept | with_reducible apply ite_fst_kept
    | with_reducible apply State.when_kept | with_reducible apply State.p_kept | with_reducible apply State.ev_kept
    | with_reducible apply State.alertEvt_kept | with_reducible apply State.supplyBad_kept | with_reducible apply State.faultLive_kept
    | with_reducible apply State.updTmp_kept | extract_lets | dsimp only | split)

end Sys2Proof.Machine
end

