-- ==== Sys2Proof/Laws/Kept/Faults.lean ====
section
/-! SUPPORT. What the operations and meanings of Machine/Faults.lean keep: the queue, the clock, the canonical forms, and every
component of the state that they have no business with. -/
namespace Sys2Proof.Machine

set_option linter.all false

theorem State.bufDrop_kept {K : Keep} {s0 : State} (s : State) (b : Nat) (hs : Kept K s0 s) (kcyc : K.cyc = false := by assumption) (ktmg : K.tmg = false := by assumption) : Kept K s0 (State.bufDrop s b) := by
  unfold State.bufDrop
  repeat' (first
    | with_reducible assumption | intro _ | with_reducible apply iter_kept | with_reducible apply ite_kept | with_reducible apply ite_fst_kept
    | with_reducible apply foldl_kept | with_reducible apply foldl_fst_kept | with_reducible apply foldl_snd_kept
    | with_reducible apply State.updTmg_kept | with_reducible apply State.add_kept | with_reducible apply State.wr64_kept
    | with_reducible apply State.copyDropped_kept | extract_lets | dsimp only | split)

theorem State.poolShrink_kept {K : Keep} {s0 : State} (s : State) (old : State) (p : Nat) (hs : Kept K s0 s) (kcyc : K.cyc = false := by assumption) (ktmg : K.tmg = false := by assumption) : Kept K s0 (State.poolShrink s old p) := by
  unfold State.poolShrink
  repeat' (first
    | with_reducible assumption | intro _ | with_reducible apply foldl_kept | with_reducible apply foldl_fst_kept | with_reducible apply foldl_snd_kept
    | with_reducible apply State.p_kept | with_reducible apply State.setFree_kept | with_reducible apply State.bufDrop_kept | extract_lets | dsimp only)

theorem State.binLose_kept {K : Keep} {s0 : State} (s : State) (old : State) (hs : Kept K s0 s) (kirq : K.irq = false := by assumption) (kcyc : K.cyc = false := by assumption) (kmsi : K.msi = false := by assumption) (kshu : K.shu = false := by assumption) : Kept K s0 (State.binLose s old) := by
  unfold State.binLose
  repeat' (first
    | with_reducible assumption | intro _ | with_reducible apply foldl_kept | with_reducible apply foldl_fst_kept | with_reducible apply foldl_snd_kept
    | with_reducible apply State.boltLoseRec_kept | extract_lets | dsimp only)

theorem State.ringLose_kept {K : Keep} {s0 : State} (s : State) (old : State) (ring : Nat) (hs : Kept K s0 s) (kirq : K.irq = false := by assumption) (kcyc : K.cyc = false := by assumption) (kmsi : K.msi = false := by assumption) (kshu : K.shu = false := by assumption) : Kept K s0 (State.ringLose s old ring) := by
  unfold State.ringLose
  repeat' (first
    | with_reducible assumption | intro _ | with_reducible apply ite_kept | with_reducible apply ite_fst_kept | with_reducible apply foldl_kept
    | with_reducible apply foldl_fst_kept | with_reducible apply foldl_snd_kept | with_reducible apply State.boltLoseRec_kept | extract_lets | dsimp only
    | split)

theorem State.ranksOut_kept {K : Keep} {s0 : State} (s : State) (m : Nat) (bits : Nat) (hs : Kept K s0 s) (kirq : K.irq = false := by assumption) (kcyc : K.cyc = false := by assumption) (kmsi : K.msi = false := by assumption) (ktmp : K.tmp = false := by assumption) (kshu : K.shu = false := by assumption) (ktmg : K.tmg = false := by assumption) : Kept K s0 (State.ranksOut s m bits) := by
  unfold State.ranksOut
  repeat' (first
    | with_reducible assumption | intro _ | with_reducible apply iter_kept | with_reducible apply ite_kept | with_reducible apply ite_fst_kept
    | with_reducible apply foldl_kept | with_reducible apply foldl_fst_kept | with_reducible apply foldl_snd_kept | with_reducible apply State.p_kept
    | with_reducible apply State.updTmp_kept | with_reducible apply State.poolShrink_kept | with_reducible apply State.ringLose_kept
    | with_reducible apply State.when_kept | with_reducible apply State.binLose_kept | extract_lets | dsimp only | split)

theorem State.txRestartBegin_kept {K : Keep} {s0 : State} (s : State) (k : Nat) (c : Nat) (hs : Kept K s0 s) (kpch : K.pch = false := by assumption) (ktmp : K.tmp = false := by assumption) : Kept K s0 (State.txRestartBegin s k c) := by
  unfold State.txRestartBegin
  repeat' (first
    | with_reducible assumption | intro _ | with_reducible apply ite_kept | with_reducible apply ite_fst_kept | with_reducible apply State.updPch_kept
    | with_reducible apply State.updTmp_kept | extract_lets | dsimp only | split)

theorem State.retry_kept {K : Keep} {s0 : State} (s : State) (k : Nat) (u : Nat) (hs : Kept K s0 s) (kfresh : K.fresh = false := by assumption) (kirq : K.irq = false := by assumption) (kcyc : K.cyc = false := by assumption) (kmsi : K.msi = false := by assumption) (kblks : K.blks = false := by assumption) (kpch : K.pch = false := by assumption) (kslots : K.slots = false := by assumption) (krng : K.rng = false := by assumption) (kshd : K.shd = false := by assumption) (kledger : K.ledger = false := by assumption) (ktmp : K.tmp = false := by assumption) (kdrf : K.drf = false := by assumption) (ktim : K.tim = false := by assumption) (kshu : K.shu = false := by assumption) (kblt : K.blt = false := by assumption) (kcry : K.cry = false := by assumption) (kslv : K.slv = false := by assumption) (kcls : K.cls = false := by assumption) (ktmg : K.tmg = false := by assumption) (khsl : K.hsl = false := by assumption) (kfwd : K.fwd = false := by assumption) (ktrb : K.trb = false := by assumption) (kpmc : K.pmc = false := by assumption) : Kept K s0 (State.retry s k u) := by
  unfold State.retry
  repeat' (first
    | with_reducible assumption | intro _ | with_reducible apply ite_kept | with_reducible apply ite_fst_kept
    | with_reducible apply State.txRestartBegin_kept | with_reducible apply State.setPort_kept | with_reducible apply State.blankPort_kept
    | with_reducible apply State.updTmp_kept | with_reducible apply State.blockReset_kept | extract_lets | dsimp only | split)

theorem State.retire_kept {K : Keep} {s0 : State} (s : State) (u : Nat) (hs : Kept K s0 s) (kfresh : K.fresh = false := by assumption) (kirq : K.irq = false := by assumption) (kcyc : K.cyc = false := by assumption) (kmsi : K.msi = false := by assumption) (kpch : K.pch = false := by assumption) (kshd : K.shd = false := by assumption) (kledger : K.ledger = false := by assumption) (ktmp : K.tmp = false := by assumption) (ktim : K.tim = false := by assumption) (kshu : K.shu = false := by assumption) (kblt : K.blt = false := by assumption) (kcry : K.cry = false := by assumption) (ktmg : K.tmg = false := by assumption) (khsl : K.hsl = false := by assumption) (kpmc : K.pmc = false := by assumption) : Kept K s0 (State.retire s u) := by
  unfold State.retire
  repeat' (first
    | with_reducible assumption | with_reducible apply ite_kept | with_reducible apply ite_fst_kept | with_reducible apply State.chanRetire_kept
    | with_reducible apply State.retireMark_kept | with_reducible apply State.laneRetire_kept | with_reducible apply State.shuttleRetire_kept
    | with_reducible apply State.ranksOut_kept | with_reducible apply State.engineRetire_kept | extract_lets | dsimp only | split)

theorem State.limit_kept {K : Keep} {s0 : State} (s : State) (k : Nat) (u : Nat) (hs : Kept K s0 s) : Kept K s0 (State.limit s k u).1 := by
  unfold State.limit
  repeat' (first
    | with_reducible assumption | with_reducible apply ite_kept | with_reducible apply ite_fst_kept | with_reducible apply State.p_kept | extract_lets
    | dsimp only | split)

theorem State.transient_kept {K : Keep} {s0 : State} (n : Nat) (s : State) (k u : Nat) (h : Kept K s0 s) (kfresh : K.fresh = false := by assumption) (kirq : K.irq = false := by assumption) (kcyc : K.cyc = false := by assumption) (kmsi : K.msi = false := by assumption) (kblks : K.blks = false := by assumption) (kpch : K.pch = false := by assumption) (kslots : K.slots = false := by assumption) (krng : K.rng = false := by assumption) (kshd : K.shd = false := by assumption) (kledger : K.ledger = false := by assumption) (ktmp : K.tmp = false := by assumption) (kdrf : K.drf = false := by assumption) (ktim : K.tim = false := by assumption) (kshu : K.shu = false := by assumption) (kblt : K.blt = false := by assumption) (kcry : K.cry = false := by assumption) (kslv : K.slv = false := by assumption) (kcls : K.cls = false := by assumption) (ktmg : K.tmg = false := by assumption) (khsl : K.hsl = false := by assumption) (kfwd : K.fwd = false := by assumption) (ktrb : K.trb = false := by assumption) (kpmc : K.pmc = false := by assumption) : Kept K s0 (State.transient n s k u).1 := by
  induction n generalizing s with
  | zero => simp only [State.transient]; exact h
  | succ n ih =>
    unfold State.transient
    repeat' (first
      | with_reducible assumption
      | intro _
      | with_reducible apply ih
      | with_reducible apply State.limit_kept
      | with_reducible apply State.retry_kept
      | with_reducible apply State.when_kept
      | with_reducible apply State.p_kept
      | with_reducible apply State.updTmp_kept
      | with_reducible apply State.wr_kept
      | with_reducible apply State.inc_kept
      | extract_lets
      | split)

theorem State.classify_kept {K : Keep} {s0 : State} (s : State) (gone : List Nat) (e : Fev) (hs : Kept K s0 s) (kfresh : K.fresh = false := by assumption) (kirq : K.irq = false := by assumption) (kcyc : K.cyc = false := by assumption) (kmsi : K.msi = false := by assumption) (kblks : K.blks = false := by assumption) (kpch : K.pch = false := by assumption) (kslots : K.slots = false := by assumption) (krng : K.rng = false := by assumption) (kshd : K.shd = false := by assumption) (kledger : K.ledger = false := by assumption) (ktmp : K.tmp = false := by assumption) (kdrf : K.drf = false := by assumption) (ktim : K.tim = false := by assumption) (kshu : K.shu = false := by assumption) (kblt : K.blt = false := by assumption) (kcry : K.cry = false := by assumption) (kslv : K.slv = false := by assumption) (kcls : K.cls = false := by assumption) (ktmg : K.tmg = false := by assumption) (khsl : K.hsl = false := by assumption) (kfwd : K.fwd = false := by assumption) (ktrb : K.trb = false := by assumption) (kpmc : K.pmc = false := by assumption) : Kept K s0 (State.classify s gone e).1 := by
  unfold State.classify
  repeat' (first
    | with_reducible assumption | with_reducible apply ite_kept | with_reducible apply ite_fst_kept | with_reducible apply State.inc_kept
    | with_reducible apply State.limit_kept | with_reducible apply State.transient_kept | extract_lets | dsimp only | split)

theorem State.actSafe_kept {K : Keep} {s0 : State} (s : State) (k : Nat) (u : Nat) (v : Verdict) (hs : Kept K s0 s) (kfresh : K.fresh = false := by assumption) (kirq : K.irq = false := by assumption) (kcyc : K.cyc = false := by assumption) (kmsi : K.msi = false := by assumption) (kpch : K.pch = false := by assumption) (kshd : K.shd = false := by assumption) (ktmp : K.tmp = false := by assumption) (ktim : K.tim = false := by assumption) (kshu : K.shu = false := by assumption) (kblt : K.blt = false := by assumption) (kslv : K.slv = false := by assumption) (ktmg : K.tmg = false := by assumption) (khsl : K.hsl = false := by assumption) : Kept K s0 (State.actSafe s k u v) := by
  unfold State.actSafe
  repeat' (first
    | with_reducible assumption | intro _ | with_reducible apply ite_kept | with_reducible apply ite_fst_kept | with_reducible apply State.when_kept
    | with_reducible apply State.updTmp_kept | with_reducible apply State.safeEnter_kept | dsimp only | split)

theorem State.actRetire_kept {K : Keep} {s0 : State} (s : State) (u : Nat) (v : Verdict) (hs : Kept K s0 s) (kfresh : K.fresh = false := by assumption) (kirq : K.irq = false := by assumption) (kcyc : K.cyc = false := by assumption) (kmsi : K.msi = false := by assumption) (kpch : K.pch = false := by assumption) (kshd : K.shd = false := by assumption) (kledger : K.ledger = false := by assumption) (ktmp : K.tmp = false := by assumption) (ktim : K.tim = false := by assumption) (kshu : K.shu = false := by assumption) (kblt : K.blt = false := by assumption) (kcry : K.cry = false := by assumption) (ktmg : K.tmg = false := by assumption) (khsl : K.hsl = false := by assumption) (kpmc : K.pmc = false := by assumption) : Kept K s0 (State.actRetire s u v) := by
  unfold State.actRetire
  repeat' (first
    | with_reducible assumption | intro _ | with_reducible apply State.when_kept | with_reducible apply State.retire_kept | dsimp only)

theorem State.actRetry_kept {K : Keep} {s0 : State} (s : State) (k : Nat) (u : Nat) (v : Verdict) (hs : Kept K s0 s) (kfresh : K.fresh = false := by assumption) (kirq : K.irq = false := by assumption) (kcyc : K.cyc = false := by assumption) (kmsi : K.msi = false := by assumption) (kblks : K.blks = false := by assumption) (kpch : K.pch = false := by assumption) (kslots : K.slots = false := by assumption) (krng : K.rng = false := by assumption) (kshd : K.shd = false := by assumption) (kledger : K.ledger = false := by assumption) (ktmp : K.tmp = false := by assumption) (kdrf : K.drf = false := by assumption) (ktim : K.tim = false := by assumption) (kshu : K.shu = false := by assumption) (kblt : K.blt = false := by assumption) (kcry : K.cry = false := by assumption) (kslv : K.slv = false := by assumption) (kcls : K.cls = false := by assumption) (ktmg : K.tmg = false := by assumption) (khsl : K.hsl = false := by assumption) (kfwd : K.fwd = false := by assumption) (ktrb : K.trb = false := by assumption) (kpmc : K.pmc = false := by assumption) : Kept K s0 (State.actRetry s k u v) := by
  unfold State.actRetry
  repeat' (first
    | with_reducible assumption | intro _ | with_reducible apply State.when_kept | with_reducible apply State.retry_kept | dsimp only)

theorem State.unitLog_kept {K : Keep} {s0 : State} (s : State) (inj : Bool) (outcome : Nat) (k : Nat) (u : Nat) (hs : Kept K s0 s) (kirq : K.irq = false := by assumption) (kcyc : K.cyc = false := by assumption) (kmsi : K.msi = false := by assumption) (ktmp : K.tmp = false := by assumption) (kshu : K.shu = false := by assumption) : Kept K s0 (State.unitLog s inj outcome k u) := by
  unfold State.unitLog
  repeat' (first
    | with_reducible assumption | with_reducible apply State.faultLog_kept)

theorem State.eventLog_kept {K : Keep} {s0 : State} (s : State) (e : Fev) (v : Verdict) (hs : Kept K s0 s) (kfresh : K.fresh = false := by assumption) (kirq : K.irq = false := by assumption) (kcyc : K.cyc = false := by assumption) (kmsi : K.msi = false := by assumption) (kblks : K.blks = false := by assumption) (kpch : K.pch = false := by assumption) (kslots : K.slots = false := by assumption) (krng : K.rng = false := by assumption) (kshd : K.shd = false := by assumption) (kledger : K.ledger = false := by assumption) (ktmp : K.tmp = false := by assumption) (kdrf : K.drf = false := by assumption) (ktim : K.tim = false := by assumption) (kshu : K.shu = false := by assumption) (kblt : K.blt = false := by assumption) (kcry : K.cry = false := by assumption) (kslv : K.slv = false := by assumption) (kcls : K.cls = false := by assumption) (ktmg : K.tmg = false := by assumption) (khsl : K.hsl = false := by assumption) (kfwd : K.fwd = false := by assumption) (ktrb : K.trb = false := by assumption) (kpmc : K.pmc = false := by assumption) : Kept K s0 (State.eventLog s e v) := by
  unfold State.eventLog
  repeat' (first
    | with_reducible assumption | with_reducible apply ite_kept | with_reducible apply ite_fst_kept | with_reducible apply State.drawNat_kept
    | with_reducible apply State.faultLog_kept | with_reducible apply State.unitLog_kept | with_reducible apply State.retry_kept | extract_lets
    | dsimp only | split)

theorem State.classifyAll_kept {K : Keep} {s0 : State} (l : List Fev) (s : State) (vs : List (Fev × Verdict)) (h : Kept K s0 s) (kfresh : K.fresh = false := by assumption) (kirq : K.irq = false := by assumption) (kcyc : K.cyc = false := by assumption) (kmsi : K.msi = false := by assumption) (kblks : K.blks = false := by assumption) (kpch : K.pch = false := by assumption) (kslots : K.slots = false := by assumption) (krng : K.rng = false := by assumption) (kshd : K.shd = false := by assumption) (kledger : K.ledger = false := by assumption) (ktmp : K.tmp = false := by assumption) (kdrf : K.drf = false := by assumption) (ktim : K.tim = false := by assumption) (kshu : K.shu = false := by assumption) (kblt : K.blt = false := by assumption) (kcry : K.cry = false := by assumption) (kslv : K.slv = false := by assumption) (kcls : K.cls = false := by assumption) (ktmg : K.tmg = false := by assumption) (khsl : K.hsl = false := by assumption) (kfwd : K.fwd = false := by assumption) (ktrb : K.trb = false := by assumption) (kpmc : K.pmc = false := by assumption) :
    Kept K s0 (State.classifyAll l s vs).1 := by
  induction l generalizing s vs with
  | nil => exact h
  | cons e l ih => exact ih _ _ (State.classify_kept _ _ _ h)

theorem State.faultTick_kept {K : Keep} {s0 : State} (s : State) (l : List Fev) (hs : Kept K s0 s) (kfresh : K.fresh = false := by assumption) (kirq : K.irq = false := by assumption) (kcyc : K.cyc = false := by assumption) (kmsi : K.msi = false := by assumption) (kblks : K.blks = false := by assumption) (kpch : K.pch = false := by assumption) (kslots : K.slots = false := by assumption) (krng : K.rng = false := by assumption) (kshd : K.shd = false := by assumption) (kledger : K.ledger = false := by assumption) (ktmp : K.tmp = false := by assumption) (kdrf : K.drf = false := by assumption) (ktim : K.tim = false := by assumption) (kshu : K.shu = false := by assumption) (kblt : K.blt = false := by assumption) (kcry : K.cry = false := by assumption) (kslv : K.slv = false := by assumption) (kcls : K.cls = false := by assumption) (ktmg : K.tmg = false := by assumption) (khsl : K.hsl = false := by assumption) (kfwd : K.fwd = false := by assumption) (ktrb : K.trb = false := by assumption) (kpmc : K.pmc = false := by assumption) : Kept K s0 (State.faultTick s l) := by
  unfold State.faultTick
  repeat' (first
    | with_reducible assumption | intro _ | with_reducible apply foldl_kept | with_reducible apply foldl_fst_kept | with_reducible apply foldl_snd_kept
    | with_reducible apply State.inc_kept | with_reducible apply State.actMute_kept | with_reducible apply State.actEnter_kept
    | with_reducible apply State.actAlert_kept | with_reducible apply State.classifyAll_kept | with_reducible apply State.actSafe_kept
    | with_reducible apply State.actRetire_kept | with_reducible apply State.actRetry_kept | with_reducible apply State.eventLog_kept | extract_lets
    | dsimp only)

theorem State.report_kept {K : Keep} {s0 : State} (s : State) (k : Nat) (u : Nat) (hs : Kept K s0 s) (kcyc : K.cyc = false := by assumption) : Kept K s0 (State.report s k u) := by
  unfold State.report
  repeat' (first
    | with_reducible assumption | with_reducible apply State.fault_kept)

theorem State.memUe_kept {K : Keep} {s0 : State} (s : State) (n : Nat) (hs : Kept K s0 s) (kirq : K.irq = false := by assumption) (kcyc : K.cyc = false := by assumption) (kmsi : K.msi = false := by assumption) (kshu : K.shu = false := by assumption) : Kept K s0 (State.memUe s n) := by
  unfold State.memUe
  repeat' (first
    | with_reducible assumption | with_reducible apply State.ev_kept)

theorem State.threadFails_kept {K : Keep} {s0 : State} (s : State) (p : Nat) (t : Nat) (code : Nat) (pc : Nat) (hs : Kept K s0 s) (kirq : K.irq = false := by assumption) (kcyc : K.cyc = false := by assumption) (kmsi : K.msi = false := by assumption) (kpch : K.pch = false := by assumption) (kshd : K.shd = false := by assumption) (kshu : K.shu = false := by assumption) (kpmc : K.pmc = false := by assumption) : Kept K s0 (State.threadFails s p t code pc) := by
  unfold State.threadFails
  repeat' (first
    | with_reducible assumption | with_reducible apply State.threadFault_kept | with_reducible apply State.report_kept)

theorem State.loadMismatch_kept {K : Keep} {s0 : State} (s : State) (p : Nat) (hs : Kept K s0 s) (kcyc : K.cyc = false := by assumption) (kshu : K.shu = false := by assumption) : Kept K s0 (State.loadMismatch s p) := by
  unfold State.loadMismatch
  repeat' (first
    | with_reducible assumption | intro _ | with_reducible apply State.updShu_kept | with_reducible apply State.p_kept
    | with_reducible apply State.inc_kept | with_reducible apply State.report_kept | dsimp only)

theorem execStandbySelftest_kept {K : Keep} {s0 : State} (loop : BitVec 64) (bist : Bool) (s : State) (hs : Kept K s0 s) (kcyc : K.cyc = false := by assumption) (kslv : K.slv = false := by assumption) : KeptO K s0 (execStandbySelftest loop bist s) := by
  unfold execStandbySelftest
  repeat' (first
    | with_reducible assumption | intro _ | with_reducible apply next_kept | with_reducible apply ite_kept | with_reducible apply ite_fst_kept
    | with_reducible apply foldl_kept | with_reducible apply foldl_fst_kept | with_reducible apply foldl_snd_kept | with_reducible apply State.when_kept
    | with_reducible apply State.updSlv_kept | with_reducible apply State.report_kept | extract_lets | dsimp only | split)

theorem State.chRaiseFault_kept {K : Keep} {s0 : State} (s : State) (c : Nat) (blanked : Bool) (live : Fld) (evt : Fld) (k : Nat) (hs : Kept K s0 s) (kirq : K.irq = false := by assumption) (kcyc : K.cyc = false := by assumption) (kmsi : K.msi = false := by assumption) (kshu : K.shu = false := by assumption) (kblt : K.blt = false := by assumption) : Kept K s0 (State.chRaiseFault s c blanked live evt k) := by
  unfold State.chRaiseFault
  repeat' (first
    | with_reducible assumption | intro _ | with_reducible apply State.chRaise_kept | with_reducible apply State.when_kept
    | with_reducible apply State.report_kept | extract_lets | dsimp only)

theorem execChLolRaise_kept {K : Keep} {s0 : State} (c : Fin 64) (outNs : Nat) (s : State) (hs : Kept K s0 s) (kirq : K.irq = false := by assumption) (kcyc : K.cyc = false := by assumption) (kmsi : K.msi = false := by assumption) (kpch : K.pch = false := by assumption) (kshu : K.shu = false := by assumption) (kblt : K.blt = false := by assumption) : KeptO K s0 (execChLolRaise c outNs s) := by
  unfold execChLolRaise
  repeat' (first
    | with_reducible assumption | intro _ | with_reducible apply next_kept | with_reducible apply State.when_kept
    | with_reducible apply State.updPch_kept | with_reducible apply State.chRaiseFault_kept | extract_lets | dsimp only)

theorem execChTxfRaise_kept {K : Keep} {s0 : State} (x : TxfCause) (s : State) (hs : Kept K s0 s) (kirq : K.irq = false := by assumption) (kcyc : K.cyc = false := by assumption) (kmsi : K.msi = false := by assumption) (kpch : K.pch = false := by assumption) (kshu : K.shu = false := by assumption) (kblt : K.blt = false := by assumption) : KeptO K s0 (execChTxfRaise x s) := by
  unfold execChTxfRaise
  repeat' (first
    | with_reducible assumption | intro _ | with_reducible apply next_kept | with_reducible apply State.when_kept
    | with_reducible apply State.txfError_kept | with_reducible apply State.updPch_kept | with_reducible apply State.chRaiseFault_kept | extract_lets
    | dsimp only)

theorem State.injReport_kept {K : Keep} {s0 : State} (s : State) (hs : Kept K s0 s) (kirq : K.irq = false := by assumption) (kcyc : K.cyc = false := by assumption) (kmsi : K.msi = false := by assumption) (ktmp : K.tmp = false := by assumption) (kshu : K.shu = false := by assumption) : Kept K s0 (State.injReport s) := by
  unfold State.injReport
  repeat' (first
    | with_reducible assumption | intro _ | with_reducible apply State.inc_kept | with_reducible apply State.ev_kept
    | with_reducible apply State.updTmp_kept | with_reducible apply State.p_kept | extract_lets | dsimp only)

theorem execFaultEvent_kept {K : Keep} {s0 : State} (k : Fin 64) (u : Fin 632) (inj : Bool) (s : State) (hs : Kept K s0 s) (kirq : K.irq = false := by assumption) (kcyc : K.cyc = false := by assumption) (kmsi : K.msi = false := by assumption) (kpch : K.pch = false := by assumption) (ktmp : K.tmp = false := by assumption) (kshu : K.shu = false := by assumption) : KeptO K s0 (execFaultEvent k u inj s) := by
  unfold execFaultEvent
  repeat' (first
    | with_reducible assumption | intro _ | with_reducible apply next_kept | with_reducible apply ite_kept | with_reducible apply ite_fst_kept
    | with_reducible apply State.when_kept | with_reducible apply State.injReport_kept | with_reducible apply State.memUe_kept
    | with_reducible apply State.fault_kept | with_reducible apply State.supplyBad_kept | with_reducible apply State.p_kept | extract_lets | dsimp only
    | split | dsimp +zetaDelta only)

theorem execTxRestartDone_kept {K : Keep} {s0 : State} (c : Fin 64) (locked : Bool) (s : State) (hs : Kept K s0 s) (kfresh : K.fresh = false := by assumption) (kirq : K.irq = false := by assumption) (kcyc : K.cyc = false := by assumption) (kmsi : K.msi = false := by assumption) (kblks : K.blks = false := by assumption) (kpch : K.pch = false := by assumption) (kslots : K.slots = false := by assumption) (krng : K.rng = false := by assumption) (kshd : K.shd = false := by assumption) (kledger : K.ledger = false := by assumption) (ktmp : K.tmp = false := by assumption) (kdrf : K.drf = false := by assumption) (ktim : K.tim = false := by assumption) (kshu : K.shu = false := by assumption) (kblt : K.blt = false := by assumption) (kcry : K.cry = false := by assumption) (kslv : K.slv = false := by assumption) (kcls : K.cls = false := by assumption) (ktmg : K.tmg = false := by assumption) (khsl : K.hsl = false := by assumption) (kfwd : K.fwd = false := by assumption) (ktrb : K.trb = false := by assumption) (kpmc : K.pmc = false := by assumption) : KeptO K s0 (execTxRestartDone c locked s) := by
  unfold execTxRestartDone
  repeat' (first
    | with_reducible assumption | intro _ | with_reducible apply next_kept | with_reducible apply ite_kept | with_reducible apply ite_fst_kept
    | with_reducible apply State.when_kept | with_reducible apply State.updPch_kept | with_reducible apply State.transient_kept
    | with_reducible apply State.actSafe_kept | with_reducible apply State.actRetire_kept | with_reducible apply State.actRetry_kept
    | with_reducible apply State.unitLog_kept | extract_lets | dsimp only | split)

theorem execCoreHeartbeatTimeout_kept {K : Keep} {s0 : State} (s : State) (hs : Kept K s0 s) (kcyc : K.cyc = false := by assumption) : KeptO K s0 (execCoreHeartbeatTimeout s) := by
  unfold execCoreHeartbeatTimeout
  repeat' (first
    | with_reducible assumption | with_reducible apply next_kept | with_reducible apply ite_kept | with_reducible apply ite_fst_kept
    | with_reducible apply State.faultLive_kept | split)

theorem State.spillFetch_kept {K : Keep} {s0 : State} (s : State) (q : Nat) (ue : Bool) (hs : Kept K s0 s) (kirq : K.irq = false := by assumption) (kcyc : K.cyc = false := by assumption) (kmsi : K.msi = false := by assumption) (kshu : K.shu = false := by assumption) (ktmg : K.tmg = false := by assumption) : Kept K s0 (State.spillFetch s q ue) := by
  unfold State.spillFetch
  repeat' (first
    | with_reducible assumption | intro _ | with_reducible apply ite_kept | with_reducible apply ite_fst_kept
    | with_reducible apply State.spillCharge_kept | with_reducible apply State.memUe_kept | with_reducible apply State.report_kept
    | with_reducible apply State.dropHead_kept | with_reducible apply State.inc_kept | with_reducible apply State.ev_kept
    | with_reducible apply State.updTmg_kept | extract_lets | dsimp only | split | dsimp +zetaDelta only)

theorem execSpillHeadFetch_kept {K : Keep} {s0 : State} (q : Fin 163840) (ue : Bool) (s : State) (hs : Kept K s0 s) (kirq : K.irq = false := by assumption) (kcyc : K.cyc = false := by assumption) (kmsi : K.msi = false := by assumption) (kshu : K.shu = false := by assumption) (ktmg : K.tmg = false := by assumption) : KeptO K s0 (execSpillHeadFetch q ue s) := by
  unfold execSpillHeadFetch
  repeat' (first
    | with_reducible assumption | with_reducible apply next_kept | with_reducible apply State.spillFetch_kept)

theorem execSafeCauseClear_kept {K : Keep} {s0 : State} (k : Fin 64) (s : State) (hs : Kept K s0 s) (ktmp : K.tmp = false := by assumption) : KeptO K s0 (execSafeCauseClear k s) := by
  unfold execSafeCauseClear
  repeat' (first
    | with_reducible assumption | intro _ | with_reducible apply next_kept | with_reducible apply State.when_kept
    | with_reducible apply State.setCause_kept | dsimp only)

theorem execSafeQuietExpiry_kept {K : Keep} {s0 : State} (s : State) (hs : Kept K s0 s) (kcyc : K.cyc = false := by assumption) : KeptO K s0 (execSafeQuietExpiry s) := by
  unfold execSafeQuietExpiry
  repeat' (first
    | with_reducible assumption | intro _ | with_reducible apply next_kept | with_reducible apply State.when_kept
    | with_reducible apply State.updCyc_kept | dsimp only)

theorem State.exitTick_kept {K : Keep} {s0 : State} (s : State) (exit : Bool) (quiet : Bool) (hs : Kept K s0 s) (kfresh : K.fresh = false := by assumption) (kirq : K.irq = false := by assumption) (kcyc : K.cyc = false := by assumption) (kmsi : K.msi = false := by assumption) (kpch : K.pch = false := by assumption) (krng : K.rng = false := by assumption) (kshd : K.shd = false := by assumption) (ktmp : K.tmp = false := by assumption) (kdrf : K.drf = false := by assumption) (ktim : K.tim = false := by assumption) (kshu : K.shu = false := by assumption) (kblt : K.blt = false := by assumption) (kcry : K.cry = false := by assumption) (khsl : K.hsl = false := by assumption) : Kept K s0 (State.exitTick s exit quiet) := by
  unfold State.exitTick
  repeat' (first
    | with_reducible assumption | with_reducible apply ite_kept | with_reducible apply ite_fst_kept | with_reducible apply State.safeExit_kept
    | with_reducible apply State.ev_kept | split)

theorem State.exitWrite_kept {K : Keep} {s0 : State} (s : State) (hs : Kept K s0 s) (kcyc : K.cyc = false := by assumption) (ktmp : K.tmp = false := by assumption) : Kept K s0 (State.exitWrite s) := by
  unfold State.exitWrite
  repeat' (first
    | with_reducible assumption | intro _ | with_reducible apply State.when_kept | with_reducible apply State.setCause_kept
    | with_reducible apply State.updCyc_kept | dsimp only)

theorem State.safeWrite_kept {K : Keep} {s0 : State} (s : State) (ag : Agent) (v : Word) (hs : Kept K s0 s) (kcyc : K.cyc = false := by assumption) (ktmp : K.tmp = false := by assumption) : Kept K s0 (State.safeWrite s ag v) := by
  unfold State.safeWrite
  repeat' (first
    | with_reducible assumption | intro _ | with_reducible apply State.when_kept | with_reducible apply State.exitWrite_kept
    | with_reducible apply State.faultLive_kept | extract_lets | dsimp only)

theorem execSafeEnter_kept {K : Keep} {s0 : State} (ag : Agent) (v : Word) (s : State) (hs : Kept K s0 s) (kirq : K.irq = false := by assumption) (kcyc : K.cyc = false := by assumption) (kmsi : K.msi = false := by assumption) (ktmp : K.tmp = false := by assumption) (kshu : K.shu = false := by assumption) : KeptO K s0 (execSafeEnter ag v s) := by
  unfold execSafeEnter
  repeat' (first
    | with_reducible assumption | intro _ | with_reducible apply next_kept | with_reducible apply State.bus_kept
    | with_reducible apply State.safeWrite_kept | dsimp only)

theorem execSafeExit_kept {K : Keep} {s0 : State} (ag : Agent) (v : Word) (s : State) (hs : Kept K s0 s) (kirq : K.irq = false := by assumption) (kcyc : K.cyc = false := by assumption) (kmsi : K.msi = false := by assumption) (ktmp : K.tmp = false := by assumption) (kshu : K.shu = false := by assumption) : KeptO K s0 (execSafeExit ag v s) := by
  unfold execSafeExit
  repeat' (first
    | with_reducible assumption | intro _ | with_reducible apply next_kept | with_reducible apply State.bus_kept
    | with_reducible apply State.safeWrite_kept | dsimp only)

theorem execSafePin_kept {K : Keep} {s0 : State} (low : Bool) (s : State) (hs : Kept K s0 s) (kcyc : K.cyc = false := by assumption) (ktmp : K.tmp = false := by assumption) : KeptO K s0 (execSafePin low s) := by
  unfold execSafePin
  repeat' (first
    | with_reducible assumption | intro _ | with_reducible apply next_kept | with_reducible apply ite_kept | with_reducible apply ite_fst_kept
    | with_reducible apply State.updTmp_kept | with_reducible apply State.faultLive_kept | extract_lets | dsimp only | split)

theorem State.reactSet_kept {K : Keep} {s0 : State} (s : State) (k : Nat) (w : Word) (hs : Kept K s0 s) : Kept K s0 (State.reactSet s k w) := by
  unfold State.reactSet
  repeat' (first
    | with_reducible assumption | with_reducible apply State.wr_kept | extract_lets | dsimp only)

theorem State.reactWrite_kept {K : Keep} {s0 : State} (s : State) (ag : Agent) (k : Nat) (v : Word) (hs : Kept K s0 s) (kcyc : K.cyc = false := by assumption) : Kept K s0 (State.reactWrite s ag k v) := by
  unfold State.reactWrite
  repeat' (first
    | with_reducible assumption | intro _ | with_reducible apply ite_kept | with_reducible apply ite_fst_kept | with_reducible apply State.when_kept
    | with_reducible apply State.updCyc_kept | with_reducible apply State.reactSet_kept | extract_lets | dsimp only | split)

theorem execReactWrite_kept {K : Keep} {s0 : State} (ag : Agent) (k : Fin 64) (v : Word) (s : State) (hs : Kept K s0 s) (kirq : K.irq = false := by assumption) (kcyc : K.cyc = false := by assumption) (kmsi : K.msi = false := by assumption) (kshu : K.shu = false := by assumption) : KeptO K s0 (execReactWrite ag k v s) := by
  unfold execReactWrite
  repeat' (first
    | with_reducible assumption | intro _ | with_reducible apply next_kept | with_reducible apply State.bus_kept
    | with_reducible apply State.reactWrite_kept | dsimp only)

theorem State.reactLoad_kept {K : Keep} {s0 : State} (s : State) (l : List Rec) (hs : Kept K s0 s) : Kept K s0 (State.reactLoad s l) := by
  unfold State.reactLoad
  repeat' (first
    | with_reducible assumption | intro _ | with_reducible apply iter_kept | with_reducible apply foldl_kept | with_reducible apply foldl_fst_kept
    | with_reducible apply foldl_snd_kept | with_reducible apply State.reactSet_kept | extract_lets | dsimp only)

theorem execReactReloadDone_kept {K : Keep} {s0 : State} (fromRom : Bool) (s : State) (hs : Kept K s0 s) (kirq : K.irq = false := by assumption) (kcyc : K.cyc = false := by assumption) (kmsi : K.msi = false := by assumption) (ktmp : K.tmp = false := by assumption) (kshu : K.shu = false := by assumption) : KeptO K s0 (execReactReloadDone fromRom s) := by
  unfold execReactReloadDone
  repeat' (first
    | with_reducible assumption | intro _ | with_reducible apply next_kept | with_reducible apply ite_kept | with_reducible apply ite_fst_kept
    | with_reducible apply State.when_kept | with_reducible apply State.reactLoad_kept | with_reducible apply State.p_kept
    | with_reducible apply State.setCause_kept | with_reducible apply State.ev_kept | extract_lets | dsimp only | split)

theorem State.injWrite_kept {K : Keep} {s0 : State} (s : State) (v : Word) (hs : Kept K s0 s) (kirq : K.irq = false := by assumption) (kcyc : K.cyc = false := by assumption) (kmsi : K.msi = false := by assumption) (ktmp : K.tmp = false := by assumption) (kshu : K.shu = false := by assumption) : Kept K s0 (State.injWrite s v) := by
  unfold State.injWrite
  repeat' (first
    | with_reducible assumption | intro _ | with_reducible apply ite_kept | with_reducible apply ite_fst_kept | with_reducible apply State.wrRW_kept
    | with_reducible apply State.ev_kept | with_reducible apply State.updTmp_kept | with_reducible apply State.p_kept | extract_lets | dsimp only | split)

theorem execInjectArm_kept {K : Keep} {s0 : State} (ag : Agent) (v : Word) (s : State) (hs : Kept K s0 s) (kirq : K.irq = false := by assumption) (kcyc : K.cyc = false := by assumption) (kmsi : K.msi = false := by assumption) (ktmp : K.tmp = false := by assumption) (kshu : K.shu = false := by assumption) : KeptO K s0 (execInjectArm ag v s) := by
  unfold execInjectArm
  repeat' (first
    | with_reducible assumption | intro _ | with_reducible apply next_kept | with_reducible apply State.bus_kept
    | with_reducible apply State.injWrite_kept | dsimp only)

theorem State.faultPop_kept {K : Keep} {s0 : State} (s : State) (hs : Kept K s0 s) (ktmp : K.tmp = false := by assumption) : Kept K s0 (State.faultPop s).1 := by
  unfold State.faultPop
  repeat' (first
    | with_reducible assumption | intro _ | with_reducible apply State.updTmp_kept | dsimp only | split | dsimp +zetaDelta only)

theorem execFaultLogPop_kept {K : Keep} {s0 : State} (ag : Agent) (s : State) (hs : Kept K s0 s) (kagents : K.agents = false := by assumption) (kirq : K.irq = false := by assumption) (kcyc : K.cyc = false := by assumption) (kmsi : K.msi = false := by assumption) (ktmp : K.tmp = false := by assumption) (kshu : K.shu = false := by assumption) : KeptO K s0 (execFaultLogPop ag s) := by
  unfold execFaultLogPop
  repeat' (first
    | with_reducible assumption | intro _ | with_reducible apply next_kept | with_reducible apply State.busRd_kept
    | with_reducible apply State.faultPop_kept | dsimp only)

theorem State.chUnblank_kept {K : Keep} {s0 : State} (s : State) (c : Nat) (hs : Kept K s0 s) (kirq : K.irq = false := by assumption) (kcyc : K.cyc = false := by assumption) (kmsi : K.msi = false := by assumption) (kpch : K.pch = false := by assumption) (kshu : K.shu = false := by assumption) (kblt : K.blt = false := by assumption) : Kept K s0 (State.chUnblank s c) := by
  unfold State.chUnblank
  repeat' (first
    | with_reducible assumption | intro _ | with_reducible apply ite_kept | with_reducible apply ite_fst_kept | with_reducible apply State.when_kept
    | with_reducible apply State.chRaise_kept | with_reducible apply State.updPch_kept | with_reducible apply State.chRaiseFault_kept | extract_lets
    | dsimp only | split)

theorem State.dgUnblank_kept {K : Keep} {s0 : State} (s : State) (c : Nat) (hs : Kept K s0 s) (kirq : K.irq = false := by assumption) (kcyc : K.cyc = false := by assumption) (kmsi : K.msi = false := by assumption) (kslots : K.slots = false := by assumption) (kshu : K.shu = false := by assumption) (kblt : K.blt = false := by assumption) : Kept K s0 (State.dgUnblank s c) := by
  unfold State.dgUnblank
  repeat' (first
    | with_reducible assumption | intro _ | with_reducible apply iter_kept | with_reducible apply ite_kept | with_reducible apply ite_fst_kept
    | with_reducible apply State.onuRaise_kept | dsimp only | split)

theorem execBlankingWindowEnd_kept {K : Keep} {s0 : State} (w : BlankWin) (s : State) (hs : Kept K s0 s) (kfresh : K.fresh = false := by assumption) (kirq : K.irq = false := by assumption) (kcyc : K.cyc = false := by assumption) (kmsi : K.msi = false := by assumption) (kblks : K.blks = false := by assumption) (kpch : K.pch = false := by assumption) (kslots : K.slots = false := by assumption) (ktmp : K.tmp = false := by assumption) (ktim : K.tim = false := by assumption) (kshu : K.shu = false := by assumption) (kblt : K.blt = false := by assumption) (khsl : K.hsl = false := by assumption) : KeptO K s0 (execBlankingWindowEnd w s) := by
  unfold execBlankingWindowEnd
  repeat' (first
    | with_reducible assumption | intro _ | with_reducible apply next_kept | with_reducible apply iter_kept | with_reducible apply ite_kept
    | with_reducible apply ite_fst_kept | with_reducible apply State.updPch_kept | with_reducible apply State.chUnblank_kept
    | with_reducible apply State.dgUnblank_kept | with_reducible apply State.portBlankEnd_kept | with_reducible apply State.updTmp_kept
    | with_reducible apply State.updBlk_kept | dsimp only | split | dsimp +zetaDelta only)

end Sys2Proof.Machine
end

