-- ==== Sys2Proof/Laws/Kept/Audit.lean ====
section
/-! SUPPORT. What the operations and meanings of Machine/Audit.lean keep: the queue, the clock, the canonical forms, and every
component of the state that they have no business with. -/
namespace Sys2Proof.Machine

set_option linter.all false

theorem State.poolSnap_kept {K : Keep} {s0 : State} (s : State) (p : Nat) (hs : Kept K s0 s) : Kept K s0 (State.poolSnap s p) := by
  unfold State.poolSnap
  repeat' (first
    | with_reducible assumption | intro _ | with_reducible apply State.p_kept | extract_lets | dsimp only | with_reducible apply Kept.upd_regs)

theorem State.ledgerSnap_kept {K : Keep} {s0 : State} (s : State) (c : Nat) (hs : Kept K s0 s) (kledger : K.ledger = false := by assumption) : Kept K s0 (State.ledgerSnap s c) := by
  unfold State.ledgerSnap
  repeat' (first
    | with_reducible assumption | with_reducible apply State.p_kept | with_reducible apply State.wr_kept | extract_lets | dsimp only
    | with_reducible apply Kept.upd_ledger)

theorem State.creditMove_kept {K : Keep} {s0 : State} (s : State) (i : Nat) (size : Nat) (both : Bool) (hs : Kept K s0 s) (kfresh : K.fresh = false := by assumption) (kpmc : K.pmc = false := by assumption) : Kept K s0 (State.creditMove s i size both) := by
  unfold State.creditMove
  repeat' (first
    | with_reducible assumption | with_reducible apply ite_kept | with_reducible apply ite_fst_kept | with_reducible apply State.drawNat_kept
    | extract_lets | dsimp only | split | with_reducible apply Kept.upd_pmc)

theorem State.loopSnap_kept {K : Keep} {s0 : State} (s : State) (hs : Kept K s0 s) (kfresh : K.fresh = false := by assumption) (kpmc : K.pmc = false := by assumption) : Kept K s0 (State.loopSnap s) := by
  unfold State.loopSnap
  repeat' (first
    | with_reducible assumption | intro _ | with_reducible apply iter_kept | with_reducible apply foldl_kept | with_reducible apply foldl_fst_kept
    | with_reducible apply foldl_snd_kept | with_reducible apply State.wr_kept | with_reducible apply State.creditMove_kept | extract_lets | dsimp only)

theorem State.auditSnap_kept {K : Keep} {s0 : State} (s : State) (hs : Kept K s0 s) (kfresh : K.fresh = false := by assumption) (kledger : K.ledger = false := by assumption) (kpmc : K.pmc = false := by assumption) : Kept K s0 (State.auditSnap s) := by
  unfold State.auditSnap
  repeat' (first
    | with_reducible assumption | intro _ | with_reducible apply iter_kept | with_reducible apply foldl_kept | with_reducible apply foldl_fst_kept
    | with_reducible apply foldl_snd_kept | with_reducible apply State.wr_kept | with_reducible apply State.ledgerSnap_kept
    | with_reducible apply State.poolSnap_kept | with_reducible apply State.loopSnap_kept | with_reducible apply State.p_kept | extract_lets | dsimp only
    | with_reducible apply Kept.upd_regs)

theorem State.auditWrite_kept {K : Keep} {s0 : State} (s : State) (v : Word) (hs : Kept K s0 s) (kfresh : K.fresh = false := by assumption) (kledger : K.ledger = false := by assumption) (kpmc : K.pmc = false := by assumption) : Kept K s0 (State.auditWrite s v) := by
  unfold State.auditWrite
  repeat' (first
    | with_reducible assumption | with_reducible apply ite_kept | with_reducible apply ite_fst_kept | with_reducible apply State.wrRW_kept
    | with_reducible apply State.auditSnap_kept | extract_lets | dsimp only | split)

theorem execAuditSnap_kept {K : Keep} {s0 : State} (ag : Agent) (v : Word) (s : State) (hs : Kept K s0 s) (kfresh : K.fresh = false := by assumption) (kirq : K.irq = false := by assumption) (kcyc : K.cyc = false := by assumption) (kmsi : K.msi = false := by assumption) (kledger : K.ledger = false := by assumption) (kshu : K.shu = false := by assumption) (kpmc : K.pmc = false := by assumption) : KeptO K s0 (execAuditSnap ag v s) := by
  unfold execAuditSnap
  repeat' (first
    | with_reducible assumption | intro _ | with_reducible apply next_kept | with_reducible apply State.bus_kept
    | with_reducible apply State.auditWrite_kept | dsimp only)

theorem State.auditReport_kept {K : Keep} {s0 : State} (s : State) (j : Nat) (l : List Nat) (hs : Kept K s0 s) : Kept K s0 (State.auditReport s j l) := by
  unfold State.auditReport
  repeat' (first
    | with_reducible assumption | with_reducible apply State.p_kept | extract_lets | dsimp only)

theorem State.auditDone_kept {K : Keep} {s0 : State} (s : State) (hs : Kept K s0 s) (kirq : K.irq = false := by assumption) (kcyc : K.cyc = false := by assumption) (kmsi : K.msi = false := by assumption) (kshu : K.shu = false := by assumption) : Kept K s0 (State.auditDone s) := by
  unfold State.auditDone
  repeat' (first
    | with_reducible assumption | intro _ | with_reducible apply iter_kept | with_reducible apply ite_kept | with_reducible apply ite_fst_kept
    | with_reducible apply State.auditReport_kept | with_reducible apply State.event_kept | with_reducible apply State.p_kept | extract_lets | dsimp only
    | split)

theorem execAuditChecksDone_kept {K : Keep} {s0 : State} (s : State) (hs : Kept K s0 s) (kirq : K.irq = false := by assumption) (kcyc : K.cyc = false := by assumption) (kmsi : K.msi = false := by assumption) (kshu : K.shu = false := by assumption) : KeptO K s0 (execAuditChecksDone s) := by
  unfold execAuditChecksDone
  repeat' (first
    | with_reducible assumption | intro _ | with_reducible apply next_kept | with_reducible apply State.when_kept
    | with_reducible apply State.auditDone_kept | dsimp only)

end Sys2Proof.Machine
end

