-- ==== Sys2Proof/Laws/Kept/Burst.lean ====
section
/-! SUPPORT. What the operations and meanings of Machine/Burst.lean keep: the queue, the clock, the canonical forms, and every
component of the state that they have no business with. -/
namespace Sys2Proof.Machine

set_option linter.all false

theorem State.setWin_kept {K : Keep} {s0 : State} (s : State) (c : Nat) (g : Nat) (w : Win) (hs : Kept K s0 s) (kpch : K.pch = false := by assumption) : Kept K s0 (State.setWin s c g w) := by
  unfold State.setWin
  repeat' (first
    | with_reducible assumption | intro _ | with_reducible apply ite_kept | with_reducible apply ite_fst_kept | with_reducible apply State.updPch_kept
    | dsimp only | split)

theorem execWindowOpen_kept {K : Keep} {s0 : State} (c : Fin 64) (g : Fin 4096) (s : State) (hs : Kept K s0 s) (kpch : K.pch = false := by assumption) (kslots : K.slots = false := by assumption) : KeptO K s0 (execWindowOpen c g s) := by
  unfold execWindowOpen
  repeat' (first
    | with_reducible assumption | intro _ | with_reducible apply next_kept | with_reducible apply ite_kept | with_reducible apply ite_fst_kept
    | with_reducible apply State.when_kept | with_reducible apply State.inc_kept | with_reducible apply State.updSlot_kept
    | with_reducible apply State.setWin_kept | with_reducible apply State.updPch_kept | extract_lets | dsimp only | split | dsimp +zetaDelta only)

theorem State.ambigEvent_kept {K : Keep} {s0 : State} (s : State) (c : Nat) (was : Bool) (hs : Kept K s0 s) (kirq : K.irq = false := by assumption) (kcyc : K.cyc = false := by assumption) (kmsi : K.msi = false := by assumption) (kshu : K.shu = false := by assumption) : Kept K s0 (State.ambigEvent s c was) := by
  unfold State.ambigEvent
  repeat' (first
    | with_reducible assumption | with_reducible apply ite_kept | with_reducible apply ite_fst_kept | with_reducible apply State.inc_kept
    | with_reducible apply State.ev_kept | split)

theorem State.furtherAnswer_kept {K : Keep} {s0 : State} (s : State) (c : Nat) (g : Nat) (w : Win) (x : MatchObs) (m : MatchObs) (hs : Kept K s0 s) (kpch : K.pch = false := by assumption) : Kept K s0 (State.furtherAnswer s c g w x m) := by
  unfold State.furtherAnswer
  repeat' (first
    | with_reducible assumption | with_reducible apply ite_kept | with_reducible apply ite_fst_kept | with_reducible apply State.setWin_kept
    | with_reducible apply State.inc_kept | extract_lets | dsimp only | split)

theorem execDelimiterQualified_kept {K : Keep} {s0 : State} (c : Fin 64) (g : Fin 4096) (m : MatchObs) (s : State) (hs : Kept K s0 s) (kirq : K.irq = false := by assumption) (kcyc : K.cyc = false := by assumption) (kmsi : K.msi = false := by assumption) (kpch : K.pch = false := by assumption) (kshu : K.shu = false := by assumption) : KeptO K s0 (execDelimiterQualified c g m s) := by
  unfold execDelimiterQualified
  repeat' (first
    | with_reducible assumption | intro _ | with_reducible apply next_kept | with_reducible apply ite_kept | with_reducible apply ite_fst_kept
    | with_reducible apply State.setWin_kept | with_reducible apply State.inc_kept | with_reducible apply State.ambigEvent_kept
    | with_reducible apply State.furtherAnswer_kept | dsimp only | split | dsimp +zetaDelta only)

theorem State.rogueEvidence_kept {K : Keep} {s0 : State} (s : State) (c : Nat) (i : Nat) (hs : Kept K s0 s) (kslots : K.slots = false := by assumption) : Kept K s0 (State.rogueEvidence s c i) := by
  unfold State.rogueEvidence
  repeat' (first
    | with_reducible assumption | intro _ | with_reducible apply State.updSlot_kept | dsimp only)

theorem State.upFrame_kept {K : Keep} {s0 : State} (s : State) (c : Nat) (w : Win) (i : Nat) (port : Nat) (b : List Byte) (hs : Kept K s0 s) (kcls : K.cls = false := by assumption) : Kept K s0 (State.upFrame s c w i port b) := by
  unfold State.upFrame
  repeat' (first
    | with_reducible assumption | with_reducible apply ite_kept | with_reducible apply ite_fst_kept | with_reducible apply State.pipeIn_kept | dsimp only
    | split)

theorem State.fragKeep_kept {K : Keep} {s0 : State} (s : State) (c : Nat) (a : Nat) (f : Option Frag) (hs : Kept K s0 s) (kpch : K.pch = false := by assumption) : Kept K s0 (State.fragKeep s c a f) := by
  unfold State.fragKeep
  repeat' (first
    | with_reducible assumption | intro _ | with_reducible apply State.updPch_kept | dsimp only)

theorem State.itemPast_kept {K : Keep} {s0 : State} (s : State) (c : Nat) (g : Nat) (it : CwItem) (hs : Kept K s0 s) (kpch : K.pch = false := by assumption) (kslots : K.slots = false := by assumption) : Kept K s0 (State.itemPast s c g it) := by
  unfold State.itemPast
  repeat' (first
    | with_reducible assumption | intro _ | with_reducible apply State.setWin_kept | with_reducible apply State.updSlot_kept | dsimp only | split
    | dsimp +zetaDelta only)

theorem State.upFragment_kept {K : Keep} {s0 : State} (s : State) (c : Nat) (w : Win) (i : Nat) (port : Nat) (idx : Nat) (last : Bool) (b : List Byte) (hs : Kept K s0 s) (kirq : K.irq = false := by assumption) (kcyc : K.cyc = false := by assumption) (kmsi : K.msi = false := by assumption) (kpch : K.pch = false := by assumption) (kshu : K.shu = false := by assumption) (kcry : K.cry = false := by assumption) (kcls : K.cls = false := by assumption) : Kept K s0 (State.upFragment s c w i port idx last b) := by
  unfold State.upFragment
  repeat' (first
    | with_reducible assumption | intro _ | with_reducible apply ite_kept | with_reducible apply ite_fst_kept | with_reducible apply State.fragKeep_kept
    | with_reducible apply State.when_kept | with_reducible apply State.cryUp_kept | with_reducible apply State.upFrame_kept | extract_lets | dsimp only
    | split)

theorem State.fragFirst_kept {K : Keep} {s0 : State} (s : State) (c : Nat) (g : Nat) (w : Win) (i : Nat) (port : Option Nat) (hs : Kept K s0 s) (kpch : K.pch = false := by assumption) : Kept K s0 (State.fragFirst s c g w i port) := by
  unfold State.fragFirst
  repeat' (first
    | with_reducible assumption | with_reducible apply ite_kept | with_reducible apply ite_fst_kept | with_reducible apply State.setWin_kept
    | with_reducible apply State.fragDrop_kept | extract_lets | dsimp only | split | dsimp +zetaDelta only)

theorem State.upDbru_kept {K : Keep} {s0 : State} (s : State) (c : Nat) (g : Nat) (w : Win) (x : Nat × Grant) (good : Bool) (occ : BitVec 24) (hs : Kept K s0 s) (kirq : K.irq = false := by assumption) (kcyc : K.cyc = false := by assumption) (kmsi : K.msi = false := by assumption) (kpch : K.pch = false := by assumption) (kshd : K.shd = false := by assumption) (kshu : K.shu = false := by assumption) : Kept K s0 (State.upDbru s c g w x good occ) := by
  unfold State.upDbru
  repeat' (first
    | with_reducible assumption | with_reducible apply ite_kept | with_reducible apply ite_fst_kept | with_reducible apply State.setWin_kept
    | with_reducible apply State.inqObs_kept | with_reducible apply State.inc_kept | dsimp only | split)

theorem State.upXgem_kept {K : Keep} {s0 : State} (s : State) (c : Nat) (g : Nat) (w : Win) (i : Nat) (port : Nat) (idx : Nat) (last : Bool) (b : List Byte) (hs : Kept K s0 s) (kirq : K.irq = false := by assumption) (kcyc : K.cyc = false := by assumption) (kmsi : K.msi = false := by assumption) (kpch : K.pch = false := by assumption) (kshu : K.shu = false := by assumption) (kblt : K.blt = false := by assumption) (kcry : K.cry = false := by assumption) (kcls : K.cls = false := by assumption) : Kept K s0 (State.upXgem s c g w i port idx last b) := by
  unfold State.upXgem
  repeat' (first
    | with_reducible assumption | with_reducible apply ite_kept | with_reducible apply ite_fst_kept | with_reducible apply State.inc_kept
    | with_reducible apply State.setWin_kept | with_reducible apply State.bwAdd_kept | with_reducible apply State.chBytes_kept
    | with_reducible apply State.upFragment_kept | extract_lets | dsimp only | split)

theorem State.upData_kept {K : Keep} {s0 : State} (s : State) (c : Nat) (g : Nat) (i : Nat) (ended : Bool) (hs : Kept K s0 s) (kpch : K.pch = false := by assumption) : Kept K s0 (State.upData s c g i ended) := by
  unfold State.upData
  repeat' (first
    | with_reducible assumption | with_reducible apply State.setWin_kept | split | dsimp +zetaDelta only)

theorem State.release_kept {K : Keep} {s0 : State} (s : State) (c : Nat) (g : Nat) (ok : Bool) (it : CwItem) (hs : Kept K s0 s) (kirq : K.irq = false := by assumption) (kcyc : K.cyc = false := by assumption) (kmsi : K.msi = false := by assumption) (kpch : K.pch = false := by assumption) (kshd : K.shd = false := by assumption) (kshu : K.shu = false := by assumption) (kblt : K.blt = false := by assumption) (kcry : K.cry = false := by assumption) (kcls : K.cls = false := by assumption) : Kept K s0 (State.release s c g ok it) := by
  unfold State.release
  repeat' (first
    | with_reducible assumption | intro _ | with_reducible apply ite_kept | with_reducible apply ite_fst_kept | with_reducible apply State.upDbru_kept
    | with_reducible apply State.fragFirst_kept | with_reducible apply State.upData_kept | with_reducible apply State.inc_kept
    | with_reducible apply State.upXgem_kept | with_reducible apply State.setWin_kept | extract_lets | dsimp only | split | dsimp +zetaDelta only)

theorem State.releaseNot_kept {K : Keep} {s0 : State} (s : State) (c : Nat) (ok : Bool) (it : CwItem) (hs : Kept K s0 s) : Kept K s0 (State.releaseNot s c ok it) := by
  unfold State.releaseNot
  repeat' (first
    | with_reducible assumption | with_reducible apply ite_kept | with_reducible apply ite_fst_kept | with_reducible apply State.inc_kept | split
    | dsimp +zetaDelta only)

theorem State.burstHeader_kept {K : Keep} {s0 : State} (s : State) (c : Nat) (g : Nat) (w : Win) (h : Bool × Nat × Bool) (hs : Kept K s0 s) (kirq : K.irq = false := by assumption) (kcyc : K.cyc = false := by assumption) (kmsi : K.msi = false := by assumption) (kpch : K.pch = false := by assumption) (kslots : K.slots = false := by assumption) (kshu : K.shu = false := by assumption) : Kept K s0 (State.burstHeader s c g w h) := by
  unfold State.burstHeader
  repeat' (first
    | with_reducible assumption | intro _ | with_reducible apply State.setWin_kept | with_reducible apply State.when_kept
    | with_reducible apply State.inc_kept | with_reducible apply State.ev_kept | with_reducible apply State.rogueEvidence_kept | extract_lets
    | dsimp only)

theorem State.burstCodeword_kept {K : Keep} {s0 : State} (s : State) (c : Nat) (g : Nat) (w : Win) (cw : CwObs) (hs : Kept K s0 s) (kirq : K.irq = false := by assumption) (kcyc : K.cyc = false := by assumption) (kmsi : K.msi = false := by assumption) (kpch : K.pch = false := by assumption) (kslots : K.slots = false := by assumption) (kshd : K.shd = false := by assumption) (kshu : K.shu = false := by assumption) (kblt : K.blt = false := by assumption) (kcry : K.cry = false := by assumption) (kcls : K.cls = false := by assumption) : Kept K s0 (State.burstCodeword s c g w cw) := by
  unfold State.burstCodeword
  repeat' (first
    | with_reducible assumption | intro _ | with_reducible apply ite_kept | with_reducible apply ite_fst_kept | with_reducible apply foldl_kept
    | with_reducible apply foldl_fst_kept | with_reducible apply foldl_snd_kept | with_reducible apply State.setWin_kept
    | with_reducible apply State.burstHeader_kept | with_reducible apply State.release_kept | with_reducible apply State.releaseNot_kept
    | with_reducible apply State.itemPast_kept | extract_lets | dsimp only | split | dsimp +zetaDelta only)

theorem State.answerCodeword_kept {K : Keep} {s0 : State} (s : State) (c : Nat) (g : Nat) (w : Win) (cw : CwObs) (hs : Kept K s0 s) (kagents : K.agents = false := by assumption) (kpch : K.pch = false := by assumption) : Kept K s0 (State.answerCodeword s c g w cw) := by
  unfold State.answerCodeword
  repeat' (first
    | with_reducible assumption | intro _ | with_reducible apply ite_kept | with_reducible apply ite_fst_kept | with_reducible apply foldl_kept
    | with_reducible apply foldl_fst_kept | with_reducible apply foldl_snd_kept | with_reducible apply State.answer_kept
    | with_reducible apply State.setWin_kept | with_reducible apply State.when_kept | with_reducible apply State.inc_kept
    | with_reducible apply State.releaseNot_kept | extract_lets | dsimp only | split | dsimp +zetaDelta only)

theorem execBurstCodewordDecoded_kept {K : Keep} {s0 : State} (c : Fin 64) (g : Fin 4096) (cw : CwObs) (s : State) (hs : Kept K s0 s) (kagents : K.agents = false := by assumption) (kirq : K.irq = false := by assumption) (kcyc : K.cyc = false := by assumption) (kmsi : K.msi = false := by assumption) (kpch : K.pch = false := by assumption) (kslots : K.slots = false := by assumption) (kshd : K.shd = false := by assumption) (kshu : K.shu = false := by assumption) (kblt : K.blt = false := by assumption) (kcry : K.cry = false := by assumption) (kcls : K.cls = false := by assumption) : KeptO K s0 (execBurstCodewordDecoded c g cw s) := by
  unfold execBurstCodewordDecoded
  repeat' (first
    | with_reducible assumption | intro _ | with_reducible apply next_kept | with_reducible apply ite_kept | with_reducible apply ite_fst_kept
    | with_reducible apply State.answer_kept | with_reducible apply State.inc_kept | with_reducible apply State.when_kept
    | with_reducible apply State.burstCodeword_kept | with_reducible apply State.answerCodeword_kept | extract_lets | dsimp only | split
    | dsimp +zetaDelta only)

theorem State.extraAnswer_kept {K : Keep} {s0 : State} (s : State) (c : Nat) (w : Win) (a : Ans × Option BurstMeas) (hs : Kept K s0 s) (kagents : K.agents = false := by assumption) (kirq : K.irq = false := by assumption) (kcyc : K.cyc = false := by assumption) (kmsi : K.msi = false := by assumption) (kpch : K.pch = false := by assumption) (kshu : K.shu = false := by assumption) (kblt : K.blt = false := by assumption) : Kept K s0 (State.extraAnswer s c w a) := by
  unfold State.extraAnswer
  repeat' (first
    | with_reducible assumption | with_reducible apply State.answer_kept | with_reducible apply State.postMeas_kept | extract_lets | dsimp only | split
    | dsimp +zetaDelta only)

theorem State.markStale_kept {K : Keep} {s0 : State} (s : State) (c : Nat) (i : Nat) (hs : Kept K s0 s) (kslots : K.slots = false := by assumption) : Kept K s0 (State.markStale s c i) := by
  unfold State.markStale
  repeat' (first
    | with_reducible assumption | intro _ | with_reducible apply ite_kept | with_reducible apply ite_fst_kept | with_reducible apply State.p_kept
    | with_reducible apply State.updSlot_kept | extract_lets | dsimp only | split)

theorem State.shuttleStale_kept {K : Keep} {s0 : State} (s : State) (c : Nat) (i : Nat) (hs : Kept K s0 s) (kpch : K.pch = false := by assumption) (kslots : K.slots = false := by assumption) : Kept K s0 (State.shuttleStale s c i) := by
  unfold State.shuttleStale
  repeat' (first
    | with_reducible assumption | with_reducible apply State.markStale_kept | with_reducible apply State.eqTouch_kept)

theorem State.eqStale_kept {K : Keep} {s0 : State} (s : State) (c : Nat) (w : Win) (m : BurstMeas) (hs : Kept K s0 s) (kslots : K.slots = false := by assumption) : Kept K s0 (State.eqStale s c w m) := by
  unfold State.eqStale
  repeat' (first
    | with_reducible assumption | with_reducible apply ite_kept | with_reducible apply ite_fst_kept | with_reducible apply State.markStale_kept
    | with_reducible apply State.p_kept | extract_lets | dsimp only | split)

theorem State.eqBack_kept {K : Keep} {s0 : State} (s : State) (c : Nat) (w : Win) (m : BurstMeas) (received : Bool) (hs : Kept K s0 s) (kslots : K.slots = false := by assumption) : Kept K s0 (State.eqBack s c w m received) := by
  unfold State.eqBack
  repeat' (first
    | with_reducible assumption | intro _ | with_reducible apply ite_kept | with_reducible apply ite_fst_kept | with_reducible apply foldl_kept
    | with_reducible apply foldl_fst_kept | with_reducible apply foldl_snd_kept | with_reducible apply State.wr_kept
    | with_reducible apply State.eqStale_kept | extract_lets | dsimp only | split)

theorem State.adoptEntry_kept {K : Keep} {s0 : State} (s : State) (c : Nat) (w : Nat) (i : Nat) (hs : Kept K s0 s) (kpch : K.pch = false := by assumption) (kslots : K.slots = false := by assumption) : Kept K s0 (State.adoptEntry s c w i) := by
  unfold State.adoptEntry
  repeat' (first
    | with_reducible assumption | intro _ | with_reducible apply iter_kept | with_reducible apply State.wr_kept | with_reducible apply State.p_kept
    | with_reducible apply State.eqTouch_kept | with_reducible apply State.updSlot_kept | extract_lets | dsimp only)

theorem State.dgRaise_kept {K : Keep} {s0 : State} (s : State) (c : Nat) (i : Nat) (hs : Kept K s0 s) (kirq : K.irq = false := by assumption) (kcyc : K.cyc = false := by assumption) (kmsi : K.msi = false := by assumption) (kslots : K.slots = false := by assumption) (kshu : K.shu = false := by assumption) (kblt : K.blt = false := by assumption) : Kept K s0 (State.dgRaise s c i) := by
  unfold State.dgRaise
  repeat' (first
    | with_reducible assumption | intro _ | with_reducible apply State.onuRaise_kept | with_reducible apply State.updSlot_kept | dsimp only)

theorem State.lobClear_kept {K : Keep} {s0 : State} (s : State) (c : Nat) (i : Nat) (hs : Kept K s0 s) (kirq : K.irq = false := by assumption) (kcyc : K.cyc = false := by assumption) (kmsi : K.msi = false := by assumption) (kslots : K.slots = false := by assumption) (kshu : K.shu = false := by assumption) (kblt : K.blt = false := by assumption) : Kept K s0 (State.lobClear s c i) := by
  unfold State.lobClear
  repeat' (first
    | with_reducible assumption | intro _ | with_reducible apply ite_kept | with_reducible apply ite_fst_kept | with_reducible apply State.onuClear_kept
    | with_reducible apply State.when_kept | with_reducible apply State.p_kept | with_reducible apply State.updSlot_kept | extract_lets | dsimp only
    | split)

theorem State.onuGrant_kept {K : Keep} {s0 : State} (s : State) (c : Nat) (i : Nat) (o : Nat) (hs : Kept K s0 s) (kirq : K.irq = false := by assumption) (kcyc : K.cyc = false := by assumption) (kmsi : K.msi = false := by assumption) (kslots : K.slots = false := by assumption) (kshu : K.shu = false := by assumption) (kblt : K.blt = false := by assumption) : Kept K s0 (State.onuGrant s c i o) := by
  unfold State.onuGrant
  repeat' (first
    | with_reducible assumption | intro _ | with_reducible apply ite_kept | with_reducible apply ite_fst_kept | with_reducible apply State.updSlot_kept
    | with_reducible apply State.lobClear_kept | extract_lets | dsimp only | split)

theorem State.onuBurst_kept {K : Keep} {s0 : State} (s : State) (c : Nat) (i : Nat) (w : Win) (m : BurstMeas) (hs : Kept K s0 s) (kirq : K.irq = false := by assumption) (kcyc : K.cyc = false := by assumption) (kmsi : K.msi = false := by assumption) (kslots : K.slots = false := by assumption) (kshu : K.shu = false := by assumption) (kblt : K.blt = false := by assumption) : Kept K s0 (State.onuBurst s c i w m) := by
  unfold State.onuBurst
  repeat' (first
    | with_reducible assumption | intro _ | with_reducible apply ite_kept | with_reducible apply ite_fst_kept | with_reducible apply State.dgRaise_kept
    | with_reducible apply State.updSlot_kept | extract_lets | dsimp only | split)

theorem State.endGrant_kept {K : Keep} {s0 : State} (s : State) (c : Nat) (w : Win) (o : Nat) (x : Nat × Grant) (hs : Kept K s0 s) (kirq : K.irq = false := by assumption) (kcyc : K.cyc = false := by assumption) (kmsi : K.msi = false := by assumption) (kpch : K.pch = false := by assumption) (kslots : K.slots = false := by assumption) (kshd : K.shd = false := by assumption) (kledger : K.ledger = false := by assumption) (kshu : K.shu = false := by assumption) (kblt : K.blt = false := by assumption) : Kept K s0 (State.endGrant s c w o x) := by
  unfold State.endGrant
  repeat' (first
    | with_reducible assumption | intro _ | with_reducible apply ite_kept | with_reducible apply ite_fst_kept | with_reducible apply State.fixEntry_kept
    | with_reducible apply State.postClose_kept | with_reducible apply State.when_kept | with_reducible apply State.postMeas_kept
    | with_reducible apply State.inqObs_kept | with_reducible apply State.monitor_kept | with_reducible apply State.fragDrop_kept
    | with_reducible apply State.onuGrant_kept | extract_lets | dsimp only | split)

theorem execWindowEnd_kept {K : Keep} {s0 : State} (c : Fin 64) (g : Fin 4096) (m : WindowMeas) (s : State) (hs : Kept K s0 s) (kagents : K.agents = false := by assumption) (kirq : K.irq = false := by assumption) (kcyc : K.cyc = false := by assumption) (kmsi : K.msi = false := by assumption) (kpch : K.pch = false := by assumption) (kslots : K.slots = false := by assumption) (krng : K.rng = false := by assumption) (kshd : K.shd = false := by assumption) (kledger : K.ledger = false := by assumption) (kshu : K.shu = false := by assumption) (kblt : K.blt = false := by assumption) : KeptO K s0 (execWindowEnd c g m s) := by
  unfold execWindowEnd
  repeat' (first
    | with_reducible assumption | intro _ | with_reducible apply next_kept | with_reducible apply ite_kept | with_reducible apply ite_fst_kept
    | with_reducible apply foldl_kept | with_reducible apply foldl_fst_kept | with_reducible apply foldl_snd_kept
    | with_reducible apply State.updPch_kept | with_reducible apply State.endGrant_kept | with_reducible apply State.when_kept
    | with_reducible apply State.onuBurst_kept | with_reducible apply State.postMeas_kept | with_reducible apply State.extraAnswer_kept
    | with_reducible apply State.eqBack_kept | with_reducible apply State.p_kept | with_reducible apply State.updRng_kept
    | with_reducible apply State.adoptEntry_kept | extract_lets | dsimp only | split | dsimp +zetaDelta only)

theorem State.eqWrite_kept {K : Keep} {s0 : State} (s : State) (c : Nat) (i : Nat) (w : Nat) (v : Word) (hs : Kept K s0 s) (kpch : K.pch = false := by assumption) (kslots : K.slots = false := by assumption) : Kept K s0 (State.eqWrite s c i w v) := by
  unfold State.eqWrite
  repeat' (first
    | with_reducible assumption | intro _ | with_reducible apply ite_kept | with_reducible apply ite_fst_kept | with_reducible apply State.wrRW_kept
    | with_reducible apply State.eqTouch_kept | with_reducible apply State.when_kept | with_reducible apply State.p_kept
    | with_reducible apply State.markStale_kept | extract_lets | dsimp only | split)

theorem execEqEntryWrite_kept {K : Keep} {s0 : State} (ag : Agent) (c : Fin 64) (i : Fin 261) (w : Fin 8) (v : Word) (s : State) (hs : Kept K s0 s) (kirq : K.irq = false := by assumption) (kcyc : K.cyc = false := by assumption) (kmsi : K.msi = false := by assumption) (kpch : K.pch = false := by assumption) (kslots : K.slots = false := by assumption) (kshu : K.shu = false := by assumption) : KeptO K s0 (execEqEntryWrite ag c i w v s) := by
  unfold execEqEntryWrite
  repeat' (first
    | with_reducible assumption | intro _ | with_reducible apply next_kept | with_reducible apply State.bus_kept
    | with_reducible apply State.eqWrite_kept | dsimp only)

theorem execTailEnergy_kept {K : Keep} {s0 : State} (c : Fin 64) (slot : Fin 256) (m : TailMeas) (s : State) (hs : Kept K s0 s) (kslots : K.slots = false := by assumption) : KeptO K s0 (execTailEnergy c slot m s) := by
  unfold execTailEnergy
  repeat' (first
    | with_reducible assumption | intro _ | with_reducible apply next_kept | with_reducible apply State.when_kept
    | with_reducible apply State.updSlot_kept | with_reducible apply State.rogueEvidence_kept | extract_lets | dsimp only)

theorem execOowEnergy_kept {K : Keep} {s0 : State} (m : OowMeas) (s : State) (hs : Kept K s0 s) (kirq : K.irq = false := by assumption) (kcyc : K.cyc = false := by assumption) (kmsi : K.msi = false := by assumption) (kpch : K.pch = false := by assumption) (krng : K.rng = false := by assumption) (kshu : K.shu = false := by assumption) : KeptO K s0 (execOowEnergy m s) := by
  unfold execOowEnergy
  repeat' (first
    | with_reducible assumption | intro _ | with_reducible apply next_kept | with_reducible apply ite_kept | with_reducible apply ite_fst_kept
    | with_reducible apply State.when_kept | with_reducible apply State.updPch_kept | with_reducible apply State.inc_kept
    | with_reducible apply State.ev_kept | with_reducible apply State.updRng_kept | dsimp only | split)

theorem execOnuLodsRaise_kept {K : Keep} {s0 : State} (c : Fin 64) (slot : Fin 256) (s : State) (hs : Kept K s0 s) (kirq : K.irq = false := by assumption) (kcyc : K.cyc = false := by assumption) (kmsi : K.msi = false := by assumption) (kslots : K.slots = false := by assumption) (kshu : K.shu = false := by assumption) (kblt : K.blt = false := by assumption) : KeptO K s0 (execOnuLodsRaise c slot s) := by
  unfold execOnuLodsRaise
  repeat' (first
    | with_reducible assumption | intro _ | with_reducible apply next_kept | with_reducible apply ite_kept | with_reducible apply ite_fst_kept
    | with_reducible apply State.when_kept | with_reducible apply State.onuRaise_kept | with_reducible apply State.p_kept
    | with_reducible apply State.updSlot_kept | with_reducible apply State.ev_kept | extract_lets | dsimp only | split)

theorem execOnuDgClear_kept {K : Keep} {s0 : State} (c : Fin 64) (slot : Fin 256) (s : State) (hs : Kept K s0 s) (kirq : K.irq = false := by assumption) (kcyc : K.cyc = false := by assumption) (kmsi : K.msi = false := by assumption) (kshu : K.shu = false := by assumption) (kblt : K.blt = false := by assumption) : KeptO K s0 (execOnuDgClear c slot s) := by
  unfold execOnuDgClear
  repeat' (first
    | with_reducible assumption | intro _ | with_reducible apply next_kept | with_reducible apply State.when_kept
    | with_reducible apply State.onuClear_kept | dsimp only)

theorem State.correct_kept {K : Keep} {s0 : State} (s : State) (c : Nat) (i : Nat) (d : Int) (hs : Kept K s0 s) (kirq : K.irq = false := by assumption) (kcyc : K.cyc = false := by assumption) (kmsi : K.msi = false := by assumption) (kpch : K.pch = false := by assumption) (kslots : K.slots = false := by assumption) (kshu : K.shu = false := by assumption) (kblt : K.blt = false := by assumption) : Kept K s0 (State.correct s c i d) := by
  unfold State.correct
  repeat' (first
    | with_reducible assumption | intro _ | with_reducible apply State.p_kept | with_reducible apply State.ploamSend_kept
    | with_reducible apply State.inc_kept | with_reducible apply State.sumUpd_kept | with_reducible apply State.updSlot_kept | extract_lets | dsimp only)

theorem execOnuDriftRaise_kept {K : Keep} {s0 : State} (c : Fin 64) (slot : Fin 256) (s : State) (hs : Kept K s0 s) (kirq : K.irq = false := by assumption) (kcyc : K.cyc = false := by assumption) (kmsi : K.msi = false := by assumption) (kpch : K.pch = false := by assumption) (kslots : K.slots = false := by assumption) (kshu : K.shu = false := by assumption) (kblt : K.blt = false := by assumption) : KeptO K s0 (execOnuDriftRaise c slot s) := by
  unfold execOnuDriftRaise
  repeat' (first
    | with_reducible assumption | intro _ | with_reducible apply next_kept | with_reducible apply State.when_kept
    | with_reducible apply State.onuRaise_kept | with_reducible apply State.correct_kept | with_reducible apply State.updSlot_kept | extract_lets
    | dsimp only)

theorem execOnuDriftClear_kept {K : Keep} {s0 : State} (c : Fin 64) (slot : Fin 256) (s : State) (hs : Kept K s0 s) (kirq : K.irq = false := by assumption) (kcyc : K.cyc = false := by assumption) (kmsi : K.msi = false := by assumption) (kshu : K.shu = false := by assumption) (kblt : K.blt = false := by assumption) : KeptO K s0 (execOnuDriftClear c slot s) := by
  unfold execOnuDriftClear
  repeat' (first
    | with_reducible assumption | intro _ | with_reducible apply next_kept | with_reducible apply State.when_kept
    | with_reducible apply State.onuClear_kept | dsimp only)

theorem State.isolate_kept {K : Keep} {s0 : State} (s : State) (c : Nat) (i : Nat) (hs : Kept K s0 s) (kirq : K.irq = false := by assumption) (kcyc : K.cyc = false := by assumption) (kmsi : K.msi = false := by assumption) (kpch : K.pch = false := by assumption) (krng : K.rng = false := by assumption) (kshu : K.shu = false := by assumption) (kblt : K.blt = false := by assumption) : Kept K s0 (State.isolate s c i) := by
  unfold State.isolate
  repeat' (first
    | with_reducible assumption | intro _ | with_reducible apply State.ploamSend_kept | with_reducible apply State.updRng_kept
    | with_reducible apply State.p_kept | with_reducible apply State.inc_kept | with_reducible apply State.ev_kept
    | with_reducible apply State.boltEvent_kept | extract_lets | dsimp only)

theorem execOnuRogueRaise_kept {K : Keep} {s0 : State} (c : Fin 64) (slot : Fin 256) (s : State) (hs : Kept K s0 s) (kirq : K.irq = false := by assumption) (kcyc : K.cyc = false := by assumption) (kmsi : K.msi = false := by assumption) (kpch : K.pch = false := by assumption) (kslots : K.slots = false := by assumption) (krng : K.rng = false := by assumption) (kshu : K.shu = false := by assumption) (kblt : K.blt = false := by assumption) : KeptO K s0 (execOnuRogueRaise c slot s) := by
  unfold execOnuRogueRaise
  repeat' (first
    | with_reducible assumption | intro _ | with_reducible apply next_kept | with_reducible apply State.when_kept
    | with_reducible apply State.onuRaise_kept | with_reducible apply State.isolate_kept | extract_lets | dsimp only)

theorem execOnuRogueClear_kept {K : Keep} {s0 : State} (c : Fin 64) (slot : Fin 256) (s : State) (hs : Kept K s0 s) (kirq : K.irq = false := by assumption) (kcyc : K.cyc = false := by assumption) (kmsi : K.msi = false := by assumption) (kslots : K.slots = false := by assumption) (kshu : K.shu = false := by assumption) (kblt : K.blt = false := by assumption) : KeptO K s0 (execOnuRogueClear c slot s) := by
  unfold execOnuRogueClear
  repeat' (first
    | with_reducible assumption | intro _ | with_reducible apply next_kept | with_reducible apply State.when_kept
    | with_reducible apply State.onuClear_kept | with_reducible apply State.updSlot_kept | dsimp only)

end Sys2Proof.Machine
end

