-- ==== Sys2Proof/Laws/Kept/Clock.lean ====
section
/-! SUPPORT. What the operations and meanings of Machine/Clock.lean keep: the queue, the clock, the canonical forms, and every
component of the state that they have no business with. -/
namespace Sys2Proof.Machine

set_option linter.all false

theorem State.timeTick_kept {K : Keep} {s0 : State} (s : State) (h : Kept K s0 s) (ktim : K.tim = false := by assumption) : Kept K s0 (State.timeTick s) := by
  unfold State.timeTick
  split
  · exact h
  · refine State.updTim_kept _ _ ?_ h
    intro d hd
    simp only [Time.wf, Bool.and_eq_true, decide_eq_true_eq] at *
    exact ⟨⟨Nat.mod_lt _ (by decide), Nat.mod_lt _ (by decide)⟩, by omega⟩

theorem State.goTick_kept {K : Keep} {s0 : State} (s : State) (hs : Kept K s0 s) (kfresh : K.fresh = false := by assumption) (kblks : K.blks = false := by assumption) (ktim : K.tim = false := by assumption) (kslv : K.slv = false := by assumption) (kcls : K.cls = false := by assumption) : Kept K s0 (State.goTick s) := by
  unfold State.goTick
  repeat' (first
    | with_reducible assumption | intro _ | with_reducible apply ite_kept | with_reducible apply ite_fst_kept | with_reducible apply foldl_kept
    | with_reducible apply foldl_fst_kept | with_reducible apply foldl_snd_kept | with_reducible apply State.when_kept
    | with_reducible apply State.p_kept | with_reducible apply State.updTim_kept | with_reducible apply State.commitTick_kept
    | with_reducible apply State.mbxTick_kept | with_reducible apply State.updBlk_kept | extract_lets | dsimp only | split
    | (show Time.wf _ = true; assumption))

theorem State.cycTick_kept {K : Keep} {s0 : State} (s : State) (w : Was) (hs : Kept K s0 s) (kfresh : K.fresh = false := by assumption) (kirq : K.irq = false := by assumption) (kcyc : K.cyc = false := by assumption) (kmsi : K.msi = false := by assumption) (kblks : K.blks = false := by assumption) (kpch : K.pch = false := by assumption) (kslots : K.slots = false := by assumption) (krng : K.rng = false := by assumption) (kshd : K.shd = false := by assumption) (kledger : K.ledger = false := by assumption) (ktmp : K.tmp = false := by assumption) (kdrf : K.drf = false := by assumption) (ktim : K.tim = false := by assumption) (kshu : K.shu = false := by assumption) (kblt : K.blt = false := by assumption) (kcry : K.cry = false := by assumption) (kslv : K.slv = false := by assumption) (kcls : K.cls = false := by assumption) (ktmg : K.tmg = false := by assumption) (khsl : K.hsl = false := by assumption) (kfwd : K.fwd = false := by assumption) (ktrb : K.trb = false := by assumption) (kpmc : K.pmc = false := by assumption) : Kept K s0 (State.cycTick s w) := by
  unfold State.cycTick
  repeat' (first
    | with_reducible assumption | intro _ | with_reducible apply foldl_kept | with_reducible apply foldl_fst_kept | with_reducible apply foldl_snd_kept
    | with_reducible apply State.ppsTick_kept | with_reducible apply State.updCyc_kept | with_reducible apply State.faultTick_kept
    | with_reducible apply State.exitTick_kept | with_reducible apply State.when_kept | with_reducible apply State.irqEvent_kept
    | with_reducible apply State.freezeTick_kept | extract_lets | dsimp only)

end Sys2Proof.Machine
end

