-- ==== Sys2Proof/Laws/Kept/Draft.lean ====
section
/-! SUPPORT. What the operations and meanings of Machine/Draft.lean keep: the queue, the clock, the canonical forms, and every
component of the state that they have no business with. -/
namespace Sys2Proof.Machine

set_option linter.all false

theorem State.updDrf_kept {K : Keep} {s0 : State} (s : State) (f : Drf → Drf) (hs : Kept K s0 s) (kdrf : K.drf = false := by assumption) : Kept K s0 (State.updDrf s f) := by
  unfold State.updDrf
  repeat' (first
    | with_reducible assumption | with_reducible apply Kept.upd_drf)

theorem State.drfState_kept {K : Keep} {s0 : State} (s : State) (n : Nat) (hs : Kept K s0 s) : Kept K s0 (State.drfState s n) := by
  unfold State.drfState
  repeat' (first
    | with_reducible assumption | with_reducible apply State.p_kept)

theorem State.drfErr_kept {K : Keep} {s0 : State} (s : State) (e : Nat) (hs : Kept K s0 s) (kirq : K.irq = false := by assumption) (kcyc : K.cyc = false := by assumption) (kmsi : K.msi = false := by assumption) (kshu : K.shu = false := by assumption) : Kept K s0 (State.drfErr s e) := by
  unfold State.drfErr
  repeat' (first
    | with_reducible assumption | with_reducible apply State.p_kept | with_reducible apply State.ev_kept)

theorem State.drfIdle_kept {K : Keep} {s0 : State} (s : State) (hs : Kept K s0 s) (kdrf : K.drf = false := by assumption) : Kept K s0 (State.drfIdle s) := by
  unfold State.drfIdle
  repeat' (first
    | with_reducible assumption | intro _ | with_reducible apply State.updDrf_kept | with_reducible apply State.p_kept | dsimp only)

theorem State.drfRefuse_kept {K : Keep} {s0 : State} (s : State) (e : Nat) (hs : Kept K s0 s) (kirq : K.irq = false := by assumption) (kcyc : K.cyc = false := by assumption) (kmsi : K.msi = false := by assumption) (kdrf : K.drf = false := by assumption) (kshu : K.shu = false := by assumption) : Kept K s0 (State.drfRefuse s e) := by
  unfold State.drfRefuse
  repeat' (first
    | with_reducible assumption | with_reducible apply ite_kept | with_reducible apply ite_fst_kept | with_reducible apply State.drfErr_kept
    | with_reducible apply State.drfIdle_kept | with_reducible apply State.ev_kept | with_reducible apply State.bootFetch_kept
    | with_reducible apply State.drfState_kept | extract_lets | dsimp only | split)

theorem State.drfCtlWrite_kept {K : Keep} {s0 : State} (s : State) (v : Word) (hs : Kept K s0 s) (kirq : K.irq = false := by assumption) (kcyc : K.cyc = false := by assumption) (kmsi : K.msi = false := by assumption) (kdrf : K.drf = false := by assumption) (kshu : K.shu = false := by assumption) : Kept K s0 (State.drfCtlWrite s v) := by
  unfold State.drfCtlWrite
  repeat' (first
    | with_reducible assumption | intro _ | with_reducible apply ite_kept | with_reducible apply ite_fst_kept | with_reducible apply State.wrRW_kept
    | with_reducible apply State.p_kept | with_reducible apply State.drfErr_kept | with_reducible apply State.updDrf_kept
    | with_reducible apply State.drfState_kept | extract_lets | dsimp only | split)

theorem execDraftLoadGo_kept {K : Keep} {s0 : State} (ag : Agent) (v : Word) (s : State) (hs : Kept K s0 s) (kirq : K.irq = false := by assumption) (kcyc : K.cyc = false := by assumption) (kmsi : K.msi = false := by assumption) (kdrf : K.drf = false := by assumption) (kshu : K.shu = false := by assumption) : KeptO K s0 (execDraftLoadGo ag v s) := by
  unfold execDraftLoadGo
  repeat' (first
    | with_reducible assumption | intro _ | with_reducible apply next_kept | with_reducible apply State.bus_kept
    | with_reducible apply State.drfCtlWrite_kept | dsimp only)

theorem State.streamWrite_kept {K : Keep} {s0 : State} (s : State) (ag : Agent) (off : Nat) (v : Word) (hs : Kept K s0 s) (kirq : K.irq = false := by assumption) (kcyc : K.cyc = false := by assumption) (kmsi : K.msi = false := by assumption) (kdrf : K.drf = false := by assumption) (kshu : K.shu = false := by assumption) : Kept K s0 (State.streamWrite s ag off v) := by
  unfold State.streamWrite
  repeat' (first
    | with_reducible assumption | intro _ | with_reducible apply ite_kept | with_reducible apply ite_fst_kept | with_reducible apply State.updDrf_kept
    | with_reducible apply State.wr_kept | with_reducible apply State.hpiErr_kept | extract_lets | dsimp only | split)

theorem execDraftStreamWrite_kept {K : Keep} {s0 : State} (ag : Agent) (w : Fin 16384) (v : Word) (s : State) (hs : Kept K s0 s) (kirq : K.irq = false := by assumption) (kcyc : K.cyc = false := by assumption) (kmsi : K.msi = false := by assumption) (kdrf : K.drf = false := by assumption) (kshu : K.shu = false := by assumption) : KeptO K s0 (execDraftStreamWrite ag w v s) := by
  unfold execDraftStreamWrite
  repeat' (first
    | with_reducible assumption | intro _ | with_reducible apply next_kept | with_reducible apply State.bus_kept
    | with_reducible apply State.streamWrite_kept | dsimp only)

theorem execDraftFetched_kept {K : Keep} {s0 : State} (flash : List Word) (bad : Bool) (dig : Bool) (s : State) (hs : Kept K s0 s) (kirq : K.irq = false := by assumption) (kcyc : K.cyc = false := by assumption) (kmsi : K.msi = false := by assumption) (kdrf : K.drf = false := by assumption) (kshu : K.shu = false := by assumption) : KeptO K s0 (execDraftFetched flash bad dig s) := by
  unfold execDraftFetched
  repeat' (first
    | with_reducible assumption | intro _ | with_reducible apply next_kept | with_reducible apply ite_kept | with_reducible apply ite_fst_kept
    | with_reducible apply State.when_kept | with_reducible apply State.drfRefuse_kept | with_reducible apply State.updDrf_kept
    | with_reducible apply State.drfState_kept | extract_lets | dsimp only | split)

theorem State.mapWrite_kept {K : Keep} {s0 : State} (s : State) (k : Nat) (l : List Rec) (hs : Kept K s0 s) : Kept K s0 (State.mapWrite s k l) := by
  unfold State.mapWrite
  repeat' (first
    | with_reducible assumption | intro _ | with_reducible apply iter_kept | with_reducible apply ite_kept | with_reducible apply ite_fst_kept
    | with_reducible apply foldl_kept | with_reducible apply foldl_fst_kept | with_reducible apply foldl_snd_kept | with_reducible apply State.wr_kept
    | with_reducible apply State.p_kept | extract_lets | dsimp only | split | dsimp +zetaDelta only)

theorem State.threadWrite_kept {K : Keep} {s0 : State} (s : State) (l : List Rec) (hs : Kept K s0 s) (kdrf : K.drf = false := by assumption) : Kept K s0 (State.threadWrite s l) := by
  unfold State.threadWrite
  repeat' (first
    | with_reducible assumption | intro _ | with_reducible apply ite_kept | with_reducible apply ite_fst_kept | with_reducible apply foldl_kept
    | with_reducible apply foldl_fst_kept | with_reducible apply foldl_snd_kept | with_reducible apply State.updDrf_kept | extract_lets | dsimp only
    | split | dsimp +zetaDelta only)

theorem State.sliceWrite_kept {K : Keep} {s0 : State} (s : State) (r : Rec) (hs : Kept K s0 s) (kirq : K.irq = false := by assumption) (kcyc : K.cyc = false := by assumption) (kmsi : K.msi = false := by assumption) (kshu : K.shu = false := by assumption) : Kept K s0 (State.sliceWrite s r) := by
  unfold State.sliceWrite
  repeat' (first
    | with_reducible assumption | with_reducible apply State.sealCtlWrite_kept | with_reducible apply State.p_kept | extract_lets | dsimp only)

theorem State.timePlan_kept {K : Keep} {s0 : State} (s : State) (r : Rec) (hs : Kept K s0 s) (kirq : K.irq = false := by assumption) (kcyc : K.cyc = false := by assumption) (kmsi : K.msi = false := by assumption) (ktim : K.tim = false := by assumption) (kshu : K.shu = false := by assumption) : Kept K s0 (State.timePlan s r) := by
  unfold State.timePlan
  repeat' (first
    | with_reducible assumption | with_reducible apply State.p_kept | with_reducible apply State.wr_kept | with_reducible apply State.trigArm_kept
    | extract_lets | dsimp only)

theorem State.budgetWrite_kept {K : Keep} {s0 : State} (s : State) (r : Rec) (hs : Kept K s0 s) (kblt : K.blt = false := by assumption) : Kept K s0 (State.budgetWrite s r) := by
  unfold State.budgetWrite
  repeat' (first
    | with_reducible assumption | intro _ | with_reducible apply State.p_kept | with_reducible apply State.updBlt_kept | extract_lets | dsimp only)

theorem State.planWrite_kept {K : Keep} {s0 : State} (s : State) (l : List Rec) (hs : Kept K s0 s) (kdrf : K.drf = false := by assumption) (kblt : K.blt = false := by assumption) : Kept K s0 (State.planWrite s l) := by
  unfold State.planWrite
  repeat' (first
    | with_reducible assumption | intro _ | with_reducible apply iter_kept | with_reducible apply ite_kept | with_reducible apply ite_fst_kept
    | with_reducible apply foldl_kept | with_reducible apply foldl_fst_kept | with_reducible apply foldl_snd_kept | with_reducible apply State.p_kept
    | with_reducible apply State.updDrf_kept | with_reducible apply State.wr64_kept | with_reducible apply State.wr_kept
    | with_reducible apply State.openSeg_kept | extract_lets | dsimp only | split | dsimp +zetaDelta only)

theorem State.tieWrite_kept {K : Keep} {s0 : State} (s : State) (l : List Rec) (hs : Kept K s0 s) (kdrf : K.drf = false := by assumption) : Kept K s0 (State.tieWrite s l) := by
  unfold State.tieWrite
  repeat' (first
    | with_reducible assumption | intro _ | with_reducible apply foldl_kept | with_reducible apply foldl_fst_kept | with_reducible apply foldl_snd_kept
    | with_reducible apply State.updDrf_kept | with_reducible apply State.p_kept | extract_lets | dsimp only)

theorem State.nanoWrite_kept {K : Keep} {s0 : State} (s : State) (k : Nat) (n : Nat × Word × Nat × List (BitVec 192)) (signer : Bool) (hs : Kept K s0 s) (kshu : K.shu = false := by assumption) : Kept K s0 (State.nanoWrite s k n signer) := by
  unfold State.nanoWrite
  repeat' (first
    | with_reducible assumption | intro _ | with_reducible apply foldl_kept | with_reducible apply foldl_fst_kept | with_reducible apply foldl_snd_kept
    | with_reducible apply State.updShu_kept | with_reducible apply State.wr_kept | extract_lets | dsimp only)

theorem State.rolesLoad_kept {K : Keep} {s0 : State} (s : State) (k : Nat) (bad : List (Fin 256)) (hs : Kept K s0 s) (kcyc : K.cyc = false := by assumption) (kshu : K.shu = false := by assumption) : Kept K s0 (State.rolesLoad s k bad).1 := by
  unfold State.rolesLoad
  repeat' (first
    | with_reducible assumption | intro _ | with_reducible apply ite_kept | with_reducible apply ite_fst_kept | with_reducible apply foldl_kept
    | with_reducible apply foldl_fst_kept | with_reducible apply foldl_snd_kept | with_reducible apply State.shuttleClear_kept
    | with_reducible apply State.imageInto_kept | with_reducible apply State.loadMismatch_kept | with_reducible apply State.verWrite_kept | extract_lets
    | dsimp only | split | dsimp +zetaDelta only)

theorem State.rolesStart_kept {K : Keep} {s0 : State} (s : State) (k : Nat) (hs : Kept K s0 s) (kshu : K.shu = false := by assumption) : Kept K s0 (State.rolesStart s k) := by
  unfold State.rolesStart
  repeat' (first
    | with_reducible assumption | intro _ | with_reducible apply iter_kept | with_reducible apply ite_kept | with_reducible apply ite_fst_kept
    | with_reducible apply State.shuttleStart_kept | dsimp only | split)

theorem State.clusterLoad_kept {K : Keep} {s0 : State} (s : State) (k : Nat) (d : Draft) (bad : List (Fin 256)) (hs : Kept K s0 s) (kcyc : K.cyc = false := by assumption) (kshu : K.shu = false := by assumption) : Kept K s0 (State.clusterLoad s k d bad).1 := by
  unfold State.clusterLoad
  repeat' (first
    | with_reducible assumption | intro _ | with_reducible apply State.nanoWrite_kept | with_reducible apply State.mapWrite_kept
    | with_reducible apply State.rolesLoad_kept | extract_lets | dsimp only | split | dsimp +zetaDelta only)

theorem State.trainStart_kept {K : Keep} {s0 : State} (s : State) (hs : Kept K s0 s) (kirq : K.irq = false := by assumption) (kcyc : K.cyc = false := by assumption) (kmsi : K.msi = false := by assumption) (khost : K.host = false := by assumption) (kshu : K.shu = false := by assumption) (kblt : K.blt = false := by assumption) : Kept K s0 (State.trainStart s) := by
  unfold State.trainStart
  repeat' (first
    | with_reducible assumption | intro _ | with_reducible apply iter_kept | with_reducible apply State.when_kept
    | with_reducible apply State.boltDown_kept | with_reducible apply State.p_kept | extract_lets | dsimp only | with_reducible apply Kept.upd_host)

theorem State.loadClear_kept {K : Keep} {s0 : State} (s : State) (hs : Kept K s0 s) (kirq : K.irq = false := by assumption) (kcyc : K.cyc = false := by assumption) (kmsi : K.msi = false := by assumption) (kshu : K.shu = false := by assumption) (kblt : K.blt = false := by assumption) (kfwd : K.fwd = false := by assumption) : Kept K s0 (State.loadClear s) := by
  unfold State.loadClear
  repeat' (first
    | with_reducible assumption | intro _ | with_reducible apply iter_kept | with_reducible apply State.regsReset_kept
    | with_reducible apply State.fwdClear_kept | with_reducible apply State.p_kept | with_reducible apply State.releaseCut_kept | extract_lets
    | dsimp only | with_reducible apply Kept.upd_regs)

theorem State.drfRuns_kept {K : Keep} {s0 : State} (s : State) (d : Draft) (src : Nat) (hs : Kept K s0 s) : Kept K s0 (State.drfRuns s d src) := by
  unfold State.drfRuns
  repeat' (first
    | with_reducible assumption | with_reducible apply State.wr_kept | extract_lets | dsimp only)

theorem State.draftEvent_kept {K : Keep} {s0 : State} (s : State) (d : Draft) (hs : Kept K s0 s) (kirq : K.irq = false := by assumption) (kcyc : K.cyc = false := by assumption) (kmsi : K.msi = false := by assumption) (kshu : K.shu = false := by assumption) (kblt : K.blt = false := by assumption) : Kept K s0 (State.draftEvent s d) := by
  unfold State.draftEvent
  repeat' (first
    | with_reducible assumption | with_reducible apply State.boltEvent_kept | dsimp only)

theorem State.floorRaise_kept {K : Keep} {s0 : State} (s : State) (d : Draft) (hs : Kept K s0 s) : Kept K s0 (State.floorRaise s d) := by
  unfold State.floorRaise
  repeat' (first
    | with_reducible assumption | with_reducible apply ite_kept | with_reducible apply ite_fst_kept | with_reducible apply State.wr_kept | split)

theorem State.loadReset_kept {K : Keep} {s0 : State} (s : State) (hs : Kept K s0 s) (kfresh : K.fresh = false := by assumption) (kirq : K.irq = false := by assumption) (kcyc : K.cyc = false := by assumption) (kmsi : K.msi = false := by assumption) (kblks : K.blks = false := by assumption) (kpch : K.pch = false := by assumption) (kslots : K.slots = false := by assumption) (krng : K.rng = false := by assumption) (kshd : K.shd = false := by assumption) (kledger : K.ledger = false := by assumption) (ktmp : K.tmp = false := by assumption) (kdrf : K.drf = false := by assumption) (ktim : K.tim = false := by assumption) (kshu : K.shu = false := by assumption) (kblt : K.blt = false := by assumption) (kcry : K.cry = false := by assumption) (kslv : K.slv = false := by assumption) (kcls : K.cls = false := by assumption) (ktmg : K.tmg = false := by assumption) (khsl : K.hsl = false := by assumption) (kfwd : K.fwd = false := by assumption) (ktrb : K.trb = false := by assumption) (kpmc : K.pmc = false := by assumption) : Kept K s0 (State.loadReset s) := by
  unfold State.loadReset
  repeat' (first
    | with_reducible assumption | intro _ | with_reducible apply iter_kept | with_reducible apply ite_kept | with_reducible apply ite_fst_kept
    | with_reducible apply State.blockReset_kept | dsimp only | split)

theorem State.fullPrepare_kept {K : Keep} {s0 : State} (s : State) (d : Draft) (hs : Kept K s0 s) (kfresh : K.fresh = false := by assumption) (kirq : K.irq = false := by assumption) (kcyc : K.cyc = false := by assumption) (kmsi : K.msi = false := by assumption) (kblks : K.blks = false := by assumption) (khost : K.host = false := by assumption) (kpch : K.pch = false := by assumption) (kslots : K.slots = false := by assumption) (krng : K.rng = false := by assumption) (kshd : K.shd = false := by assumption) (kledger : K.ledger = false := by assumption) (ktmp : K.tmp = false := by assumption) (kdrf : K.drf = false := by assumption) (ktim : K.tim = false := by assumption) (kshu : K.shu = false := by assumption) (kblt : K.blt = false := by assumption) (kcry : K.cry = false := by assumption) (kslv : K.slv = false := by assumption) (kcls : K.cls = false := by assumption) (ktmg : K.tmg = false := by assumption) (khsl : K.hsl = false := by assumption) (kfwd : K.fwd = false := by assumption) (ktrb : K.trb = false := by assumption) (kpmc : K.pmc = false := by assumption) : Kept K s0 (State.fullPrepare s d) := by
  unfold State.fullPrepare
  repeat' (first
    | with_reducible assumption | intro _ | with_reducible apply foldl_kept | with_reducible apply foldl_fst_kept | with_reducible apply foldl_snd_kept
    | with_reducible apply State.loadReset_kept | with_reducible apply State.loadClear_kept | with_reducible apply State.planWrite_kept
    | with_reducible apply State.trainStart_kept | with_reducible apply State.updDrf_kept | with_reducible apply State.tieWrite_kept
    | with_reducible apply State.threadWrite_kept | with_reducible apply State.sliceWrite_kept | with_reducible apply State.budgetWrite_kept
    | with_reducible apply State.reactLoad_kept | with_reducible apply State.p_kept | with_reducible apply State.updShu_kept | extract_lets | dsimp only)

theorem State.clusterLoads_kept {K : Keep} {s0 : State} (s : State) (d : Draft) (bad : List (Fin 256)) (h : Kept K s0 s) (kcyc : K.cyc = false := by assumption) (kshu : K.shu = false := by assumption) : Kept K s0 (State.clusterLoads s d bad).1 := by
  unfold State.clusterLoads
  refine foldl_fst_kept (fun a k ha => ?_) h
  have key : ∀ x : State × Bool, Kept K s0 x.1 → Kept K s0 (let y := x; (y.1, a.2 && y.2)).1 := fun x hx => hx
  exact key _ (State.clusterLoad_kept a.1 k d bad ha)

theorem State.fullFailed_kept {K : Keep} {s0 : State} (s : State) (hs : Kept K s0 s) (kfresh : K.fresh = false := by assumption) (kirq : K.irq = false := by assumption) (kcyc : K.cyc = false := by assumption) (kmsi : K.msi = false := by assumption) (ktmp : K.tmp = false := by assumption) (kdrf : K.drf = false := by assumption) (ktim : K.tim = false := by assumption) (kshu : K.shu = false := by assumption) (kblt : K.blt = false := by assumption) (khsl : K.hsl = false := by assumption) : Kept K s0 (State.fullFailed s) := by
  unfold State.fullFailed
  repeat' (first
    | with_reducible assumption | intro _ | with_reducible apply ite_kept | with_reducible apply ite_fst_kept | with_reducible apply foldl_kept
    | with_reducible apply foldl_fst_kept | with_reducible apply foldl_snd_kept | with_reducible apply State.drfErr_kept
    | with_reducible apply State.drfIdle_kept | with_reducible apply State.updDrf_kept | with_reducible apply State.setPort_kept
    | with_reducible apply State.drfState_kept | extract_lets | dsimp only | split)

theorem State.rolesUp_kept {K : Keep} {s0 : State} (s : State) (k : Nat) (hs : Kept K s0 s) (ktmp : K.tmp = false := by assumption) (kshu : K.shu = false := by assumption) : Kept K s0 (State.rolesUp s k) := by
  unfold State.rolesUp
  repeat' (first
    | with_reducible assumption | with_reducible apply ite_kept | with_reducible apply ite_fst_kept | with_reducible apply State.p_kept
    | with_reducible apply State.shuRetarget_kept | with_reducible apply State.rolesStart_kept | extract_lets | dsimp only | split)

theorem State.loadDone_kept {K : Keep} {s0 : State} (s : State) (d : Draft) (src : Nat) (hs : Kept K s0 s) (kfresh : K.fresh = false := by assumption) (kirq : K.irq = false := by assumption) (kcyc : K.cyc = false := by assumption) (kmsi : K.msi = false := by assumption) (ktmp : K.tmp = false := by assumption) (kdrf : K.drf = false := by assumption) (ktim : K.tim = false := by assumption) (kshu : K.shu = false := by assumption) (kblt : K.blt = false := by assumption) (khsl : K.hsl = false := by assumption) : Kept K s0 (State.loadDone s d src) := by
  unfold State.loadDone
  repeat' (first
    | with_reducible assumption | intro _ | with_reducible apply iter_kept | with_reducible apply ite_kept | with_reducible apply ite_fst_kept
    | with_reducible apply foldl_kept | with_reducible apply foldl_fst_kept | with_reducible apply foldl_snd_kept
    | with_reducible apply State.rolesUp_kept | with_reducible apply State.timePlan_kept | with_reducible apply State.wr_kept
    | with_reducible apply State.drfRuns_kept | with_reducible apply State.floorRaise_kept | with_reducible apply State.drfIdle_kept
    | with_reducible apply State.setPort_kept | with_reducible apply State.drfState_kept | with_reducible apply State.ev_kept
    | with_reducible apply State.draftEvent_kept | extract_lets | dsimp only | split)

theorem State.fullFinish_kept {K : Keep} {s0 : State} (s : State) (d : Draft) (bad : List (Fin 256)) (src : Nat) (hs : Kept K s0 s) (kfresh : K.fresh = false := by assumption) (kirq : K.irq = false := by assumption) (kcyc : K.cyc = false := by assumption) (kmsi : K.msi = false := by assumption) (ktmp : K.tmp = false := by assumption) (kdrf : K.drf = false := by assumption) (ktim : K.tim = false := by assumption) (kshu : K.shu = false := by assumption) (kblt : K.blt = false := by assumption) (khsl : K.hsl = false := by assumption) : Kept K s0 (State.fullFinish s d bad src) := by
  unfold State.fullFinish
  repeat' (first
    | with_reducible assumption | with_reducible apply ite_kept | with_reducible apply ite_fst_kept | with_reducible apply State.clusterLoads_kept
    | with_reducible apply State.loadDone_kept | with_reducible apply State.fullFailed_kept | extract_lets | dsimp only | split)

theorem State.fullApply_kept {K : Keep} {s0 : State} (s : State) (d : Draft) (bad : List (Fin 256)) (hs : Kept K s0 s) (kfresh : K.fresh = false := by assumption) (kirq : K.irq = false := by assumption) (kcyc : K.cyc = false := by assumption) (kmsi : K.msi = false := by assumption) (kblks : K.blks = false := by assumption) (khost : K.host = false := by assumption) (kpch : K.pch = false := by assumption) (kslots : K.slots = false := by assumption) (krng : K.rng = false := by assumption) (kshd : K.shd = false := by assumption) (kledger : K.ledger = false := by assumption) (ktmp : K.tmp = false := by assumption) (kdrf : K.drf = false := by assumption) (ktim : K.tim = false := by assumption) (kshu : K.shu = false := by assumption) (kblt : K.blt = false := by assumption) (kcry : K.cry = false := by assumption) (kslv : K.slv = false := by assumption) (kcls : K.cls = false := by assumption) (ktmg : K.tmg = false := by assumption) (khsl : K.hsl = false := by assumption) (kfwd : K.fwd = false := by assumption) (ktrb : K.trb = false := by assumption) (kpmc : K.pmc = false := by assumption) : Kept K s0 (State.fullApply s d bad) := by
  unfold State.fullApply
  repeat' (first
    | with_reducible assumption | with_reducible apply State.fullPrepare_kept | with_reducible apply State.fullFinish_kept)

theorem State.quiesce_kept {K : Keep} {s0 : State} (s : State) (k : Nat) (d : Draft) (hs : Kept K s0 s) (kirq : K.irq = false := by assumption) (kcyc : K.cyc = false := by assumption) (kmsi : K.msi = false := by assumption) (kpch : K.pch = false := by assumption) (kshd : K.shd = false := by assumption) (kdrf : K.drf = false := by assumption) (kshu : K.shu = false := by assumption) (kslv : K.slv = false := by assumption) (ktmg : K.tmg = false := by assumption) : Kept K s0 (State.quiesce s k d) := by
  unfold State.quiesce
  repeat' (first
    | with_reducible assumption | intro _ | with_reducible apply iter_kept | with_reducible apply ite_kept | with_reducible apply ite_fst_kept
    | with_reducible apply State.when_kept | with_reducible apply State.relinquish_kept | with_reducible apply State.updDrf_kept
    | with_reducible apply State.drfState_kept | with_reducible apply State.actDisable_kept | with_reducible apply State.inqFlush_kept
    | with_reducible apply State.requeue_kept | with_reducible apply State.swapAbandon_kept | extract_lets | dsimp only | split | dsimp +zetaDelta only)

theorem State.regionStart_kept {K : Keep} {s0 : State} (s : State) (k : Nat) (cs : List Nat) (hs : Kept K s0 s) (kfresh : K.fresh = false := by assumption) (kirq : K.irq = false := by assumption) (kcyc : K.cyc = false := by assumption) (kmsi : K.msi = false := by assumption) (kpch : K.pch = false := by assumption) (krng : K.rng = false := by assumption) (kdrf : K.drf = false := by assumption) (kshu : K.shu = false := by assumption) : Kept K s0 (State.regionStart s k cs) := by
  unfold State.regionStart
  repeat' (first
    | with_reducible assumption | intro _ | with_reducible apply ite_kept | with_reducible apply ite_fst_kept | with_reducible apply foldl_kept
    | with_reducible apply foldl_fst_kept | with_reducible apply foldl_snd_kept | with_reducible apply State.rolesStart_kept
    | with_reducible apply State.drfIdle_kept | with_reducible apply State.drfState_kept | with_reducible apply State.updDrf_kept
    | with_reducible apply State.tryStart_kept | extract_lets | dsimp only | split)

theorem State.regionLoad_kept {K : Keep} {s0 : State} (s : State) (k : Nat) (d : Draft) (bad : List (Fin 256)) (hs : Kept K s0 s) (kcyc : K.cyc = false := by assumption) (kdrf : K.drf = false := by assumption) (kshu : K.shu = false := by assumption) : Kept K s0 (State.regionLoad s k d bad).1 := by
  unfold State.regionLoad
  repeat' (first
    | with_reducible assumption | intro _ | with_reducible apply State.threadWrite_kept | with_reducible apply State.updDrf_kept
    | with_reducible apply State.updShu_kept | with_reducible apply State.clusterLoad_kept | extract_lets | dsimp only)

theorem State.regionApply_kept {K : Keep} {s0 : State} (s : State) (k : Nat) (d : Draft) (bad : List (Fin 256)) (lost : Bool) (hs : Kept K s0 s) (kfresh : K.fresh = false := by assumption) (kirq : K.irq = false := by assumption) (kcyc : K.cyc = false := by assumption) (kmsi : K.msi = false := by assumption) (kpch : K.pch = false := by assumption) (krng : K.rng = false := by assumption) (kshd : K.shd = false := by assumption) (ktmp : K.tmp = false := by assumption) (kdrf : K.drf = false := by assumption) (kshu : K.shu = false := by assumption) (kblt : K.blt = false := by assumption) (kpmc : K.pmc = false := by assumption) : Kept K s0 (State.regionApply s k d bad lost) := by
  unfold State.regionApply
  repeat' (first
    | with_reducible assumption | intro _ | with_reducible apply iter_kept | with_reducible apply ite_kept | with_reducible apply ite_fst_kept
    | with_reducible apply foldl_kept | with_reducible apply foldl_fst_kept | with_reducible apply foldl_snd_kept
    | with_reducible apply State.regionLoad_kept | with_reducible apply State.sliceWrite_kept | with_reducible apply State.updDrf_kept
    | with_reducible apply State.wr_kept | with_reducible apply State.floorRaise_kept | with_reducible apply State.p_kept
    | with_reducible apply State.shuRetarget_kept | with_reducible apply State.regionStart_kept | with_reducible apply State.ev_kept
    | with_reducible apply State.draftEvent_kept | with_reducible apply State.loadMismatch_kept | with_reducible apply State.threadWrite_kept
    | with_reducible apply State.shuttleStop_kept | with_reducible apply State.drfErr_kept | with_reducible apply State.drfIdle_kept
    | with_reducible apply State.drfState_kept | with_reducible apply State.mapWrite_kept | with_reducible apply State.rolesLoad_kept | extract_lets
    | dsimp only | split | dsimp +zetaDelta only)

theorem State.patchApply_kept {K : Keep} {s0 : State} (s : State) (w : List Word) (signer : Bool) (hs : Kept K s0 s) (kirq : K.irq = false := by assumption) (kcyc : K.cyc = false := by assumption) (kmsi : K.msi = false := by assumption) (kdrf : K.drf = false := by assumption) (kshu : K.shu = false := by assumption) : Kept K s0 (State.patchApply s w signer) := by
  unfold State.patchApply
  repeat' (first
    | with_reducible assumption | intro _ | with_reducible apply iter_kept | with_reducible apply ite_kept | with_reducible apply ite_fst_kept
    | with_reducible apply foldl_kept | with_reducible apply foldl_fst_kept | with_reducible apply foldl_snd_kept
    | with_reducible apply State.nanoWrite_kept | with_reducible apply State.updDrf_kept | with_reducible apply State.updShu_kept
    | with_reducible apply State.swapAsk_kept | extract_lets | dsimp only | split | dsimp +zetaDelta only)

theorem execDraftVerified_kept {K : Keep} {s0 : State} (sigOk : Bool) (bad : List (Fin 256)) (s : State) (hs : Kept K s0 s) (kfresh : K.fresh = false := by assumption) (kirq : K.irq = false := by assumption) (kcyc : K.cyc = false := by assumption) (kmsi : K.msi = false := by assumption) (kblks : K.blks = false := by assumption) (khost : K.host = false := by assumption) (kpch : K.pch = false := by assumption) (kslots : K.slots = false := by assumption) (krng : K.rng = false := by assumption) (kshd : K.shd = false := by assumption) (kledger : K.ledger = false := by assumption) (ktmp : K.tmp = false := by assumption) (kdrf : K.drf = false := by assumption) (ktim : K.tim = false := by assumption) (kshu : K.shu = false := by assumption) (kblt : K.blt = false := by assumption) (kcry : K.cry = false := by assumption) (kslv : K.slv = false := by assumption) (kcls : K.cls = false := by assumption) (ktmg : K.tmg = false := by assumption) (khsl : K.hsl = false := by assumption) (kfwd : K.fwd = false := by assumption) (ktrb : K.trb = false := by assumption) (kpmc : K.pmc = false := by assumption) : KeptO K s0 (execDraftVerified sigOk bad s) := by
  unfold execDraftVerified
  repeat' (first
    | with_reducible assumption | intro _ | with_reducible apply next_kept | with_reducible apply ite_kept | with_reducible apply ite_fst_kept
    | with_reducible apply foldl_kept | with_reducible apply foldl_fst_kept | with_reducible apply foldl_snd_kept | with_reducible apply State.when_kept
    | with_reducible apply State.drfRefuse_kept | with_reducible apply State.drfState_kept | with_reducible apply State.fullApply_kept
    | with_reducible apply State.quiesce_kept | with_reducible apply State.patchApply_kept | with_reducible apply State.floorRaise_kept
    | with_reducible apply State.drfIdle_kept | with_reducible apply State.ev_kept | with_reducible apply State.draftEvent_kept | extract_lets
    | dsimp only | split)

theorem execImageCacheCopy_kept {K : Keep} {s0 : State} (s : State) (hs : Kept K s0 s) (kdrf : K.drf = false := by assumption) : KeptO K s0 (execImageCacheCopy s) := by
  unfold execImageCacheCopy
  repeat' (first
    | with_reducible assumption | intro _ | with_reducible apply next_kept | with_reducible apply State.when_kept
    | with_reducible apply State.updDrf_kept | dsimp only)

theorem execReweaveApply_kept {K : Keep} {s0 : State} (bad : List (Fin 256)) (lost : Bool) (s : State) (hs : Kept K s0 s) (kfresh : K.fresh = false := by assumption) (kirq : K.irq = false := by assumption) (kcyc : K.cyc = false := by assumption) (kmsi : K.msi = false := by assumption) (kpch : K.pch = false := by assumption) (krng : K.rng = false := by assumption) (kshd : K.shd = false := by assumption) (ktmp : K.tmp = false := by assumption) (kdrf : K.drf = false := by assumption) (kshu : K.shu = false := by assumption) (kblt : K.blt = false := by assumption) (kpmc : K.pmc = false := by assumption) : KeptO K s0 (execReweaveApply bad lost s) := by
  unfold execReweaveApply
  repeat' (first
    | with_reducible assumption | intro _ | with_reducible apply next_kept | with_reducible apply ite_kept | with_reducible apply ite_fst_kept
    | with_reducible apply State.drfState_kept | with_reducible apply State.regionApply_kept | dsimp only | split | dsimp +zetaDelta only)

end Sys2Proof.Machine
end

