-- ==== Sys2Proof/Laws/Kept/Ranging.lean ====
section
/-! SUPPORT. What the operations and meanings of Machine/Ranging.lean keep: the queue, the clock, the canonical forms, and every
component of the state that they have no business with. -/
namespace Sys2Proof.Machine

set_option linter.all false

theorem State.bookRanging_kept {K : Keep} {s0 : State} (s : State) (c : Nat) (i : Nat) (hs : Kept K s0 s) (kfresh : K.fresh = false := by assumption) (kslots : K.slots = false := by assumption) (krng : K.rng = false := by assumption) (kshd : K.shd = false := by assumption) : Kept K s0 (State.bookRanging s c i) := by
  unfold State.bookRanging
  repeat' (first
    | with_reducible assumption | intro _ | with_reducible apply State.updSlot_kept | with_reducible apply State.book_kept | extract_lets | dsimp only)

theorem State.eqFromDefault_kept {K : Keep} {s0 : State} (s : State) (c : Nat) (i : Nat) (stale : Bool) (hs : Kept K s0 s) (kpch : K.pch = false := by assumption) : Kept K s0 (State.eqFromDefault s c i stale) := by
  unfold State.eqFromDefault
  repeat' (first
    | with_reducible assumption | intro _ | with_reducible apply iter_kept | with_reducible apply State.wr_kept | with_reducible apply State.p_kept
    | with_reducible apply State.eqTouch_kept | extract_lets | dsimp only)

theorem State.slotAssign_kept {K : Keep} {s0 : State} (s : State) (c : Nat) (i : Nat) (sn : BitVec 64) (hs : Kept K s0 s) (kirq : K.irq = false := by assumption) (kcyc : K.cyc = false := by assumption) (kmsi : K.msi = false := by assumption) (kpch : K.pch = false := by assumption) (kslots : K.slots = false := by assumption) (kshd : K.shd = false := by assumption) (kshu : K.shu = false := by assumption) (kblt : K.blt = false := by assumption) : Kept K s0 (State.slotAssign s c i sn) := by
  unfold State.slotAssign
  repeat' (first
    | with_reducible assumption | intro _ | with_reducible apply State.sumUpd_kept | with_reducible apply State.p_kept
    | with_reducible apply State.eqFromDefault_kept | with_reducible apply State.slotValidSet_kept | extract_lets | dsimp only
    | with_reducible apply Kept.upd_slots)

theorem State.deactivate_kept {K : Keep} {s0 : State} (s : State) (c : Nat) (i : Nat) (hs : Kept K s0 s) (kirq : K.irq = false := by assumption) (kcyc : K.cyc = false := by assumption) (kmsi : K.msi = false := by assumption) (kpch : K.pch = false := by assumption) (kslots : K.slots = false := by assumption) (krng : K.rng = false := by assumption) (kshu : K.shu = false := by assumption) (kblt : K.blt = false := by assumption) : Kept K s0 (State.deactivate s c i) := by
  unfold State.deactivate
  repeat' (first
    | with_reducible assumption | with_reducible apply State.ploamSend3_kept | with_reducible apply State.slotEmpty_kept)

theorem State.farOnu_kept {K : Keep} {s0 : State} (s : State) (c : Nat) (i : Nat) (hs : Kept K s0 s) (kirq : K.irq = false := by assumption) (kcyc : K.cyc = false := by assumption) (kmsi : K.msi = false := by assumption) (kpch : K.pch = false := by assumption) (kslots : K.slots = false := by assumption) (krng : K.rng = false := by assumption) (kshu : K.shu = false := by assumption) (kblt : K.blt = false := by assumption) : Kept K s0 (State.farOnu s c i) := by
  unfold State.farOnu
  repeat' (first
    | with_reducible assumption | with_reducible apply State.inc_kept | with_reducible apply State.ploamSend_kept
    | with_reducible apply State.deactivate_kept | with_reducible apply State.slotEmpty_kept)

theorem State.intoOperation_kept {K : Keep} {s0 : State} (s : State) (c : Nat) (i : Nat) (eqd : Nat) (hs : Kept K s0 s) (kirq : K.irq = false := by assumption) (kcyc : K.cyc = false := by assumption) (kmsi : K.msi = false := by assumption) (kpch : K.pch = false := by assumption) (kslots : K.slots = false := by assumption) (kshu : K.shu = false := by assumption) : Kept K s0 (State.intoOperation s c i eqd) := by
  unfold State.intoOperation
  repeat' (first
    | with_reducible assumption | intro _ | with_reducible apply State.p_kept | with_reducible apply State.ploamSend_kept
    | with_reducible apply State.updSlot_kept | extract_lets | dsimp only)

theorem State.spanCheck_kept {K : Keep} {s0 : State} (s : State) (c : Nat) (hs : Kept K s0 s) (kirq : K.irq = false := by assumption) (kcyc : K.cyc = false := by assumption) (kmsi : K.msi = false := by assumption) (kshu : K.shu = false := by assumption) : Kept K s0 (State.spanCheck s c) := by
  unfold State.spanCheck
  repeat' (first
    | with_reducible assumption | intro _ | with_reducible apply State.when_kept | with_reducible apply State.ev_kept | dsimp only)

theorem State.quietWindow_kept {K : Keep} {s0 : State} (s : State) (c : Nat) (hs : Kept K s0 s) (kfresh : K.fresh = false := by assumption) (kirq : K.irq = false := by assumption) (kcyc : K.cyc = false := by assumption) (kmsi : K.msi = false := by assumption) (krng : K.rng = false := by assumption) (kshd : K.shd = false := by assumption) (kshu : K.shu = false := by assumption) : Kept K s0 (State.quietWindow s c) := by
  unfold State.quietWindow
  repeat' (first
    | with_reducible assumption | intro _ | with_reducible apply State.spanCheck_kept | with_reducible apply State.book_kept
    | with_reducible apply State.inc_kept | with_reducible apply State.p_kept | with_reducible apply State.updRng_kept | extract_lets | dsimp only)

theorem State.quietDue_kept {K : Keep} {s0 : State} (s : State) (c : Nat) (hs : Kept K s0 s) (kfresh : K.fresh = false := by assumption) (kirq : K.irq = false := by assumption) (kcyc : K.cyc = false := by assumption) (kmsi : K.msi = false := by assumption) (krng : K.rng = false := by assumption) (kshd : K.shd = false := by assumption) (kshu : K.shu = false := by assumption) : Kept K s0 (State.quietDue s c) := by
  unfold State.quietDue
  repeat' (first
    | with_reducible assumption | intro _ | with_reducible apply ite_kept | with_reducible apply ite_fst_kept
    | with_reducible apply State.quietWindow_kept | with_reducible apply State.updRng_kept | dsimp only | split)

theorem execQuietWindowOpen_kept {K : Keep} {s0 : State} (c : Fin 64) (s : State) (hs : Kept K s0 s) (kfresh : K.fresh = false := by assumption) (kirq : K.irq = false := by assumption) (kcyc : K.cyc = false := by assumption) (kmsi : K.msi = false := by assumption) (krng : K.rng = false := by assumption) (kshd : K.shd = false := by assumption) (kshu : K.shu = false := by assumption) : KeptO K s0 (execQuietWindowOpen c s) := by
  unfold execQuietWindowOpen
  repeat' (first
    | with_reducible assumption | intro _ | with_reducible apply next_kept | with_reducible apply State.when_kept
    | with_reducible apply State.quietDue_kept | dsimp only)

theorem execSerialNumberOnu_kept {K : Keep} {s0 : State} (c : Fin 64) (sn : BitVec 64) (s : State) (hs : Kept K s0 s) (kfresh : K.fresh = false := by assumption) (kirq : K.irq = false := by assumption) (kcyc : K.cyc = false := by assumption) (kmsi : K.msi = false := by assumption) (kpch : K.pch = false := by assumption) (kslots : K.slots = false := by assumption) (krng : K.rng = false := by assumption) (kshd : K.shd = false := by assumption) (kshu : K.shu = false := by assumption) (kblt : K.blt = false := by assumption) : KeptO K s0 (execSerialNumberOnu c sn s) := by
  unfold execSerialNumberOnu
  repeat' (first
    | with_reducible assumption | intro _ | with_reducible apply next_kept | with_reducible apply ite_kept | with_reducible apply ite_fst_kept
    | with_reducible apply State.when_kept | with_reducible apply State.inc_kept | with_reducible apply State.ev_kept
    | with_reducible apply State.slotAssign_kept | with_reducible apply State.ploamSend_kept | with_reducible apply State.bookRanging_kept | extract_lets
    | dsimp only | split | dsimp +zetaDelta only)

theorem execRangingBurst_kept {K : Keep} {s0 : State} (c : Fin 64) (slot : Fin 256) (d : Nat) (s : State) (hs : Kept K s0 s) (kirq : K.irq = false := by assumption) (kcyc : K.cyc = false := by assumption) (kmsi : K.msi = false := by assumption) (kpch : K.pch = false := by assumption) (kslots : K.slots = false := by assumption) (krng : K.rng = false := by assumption) (kshu : K.shu = false := by assumption) (kblt : K.blt = false := by assumption) : KeptO K s0 (execRangingBurst c slot d s) := by
  unfold execRangingBurst
  repeat' (first
    | with_reducible assumption | intro _ | with_reducible apply next_kept | with_reducible apply ite_kept | with_reducible apply ite_fst_kept
    | with_reducible apply State.when_kept | with_reducible apply State.farOnu_kept | with_reducible apply State.intoOperation_kept
    | with_reducible apply State.inc_kept | with_reducible apply State.ev_kept | extract_lets | dsimp only | split)

theorem State.capReport_kept {K : Keep} {s0 : State} (s : State) (c : Nat) (i : Nat) (flags : BitVec 8) (level : BitVec 8) (hs : Kept K s0 s) (kslots : K.slots = false := by assumption) : Kept K s0 (State.capReport s c i flags level) := by
  unfold State.capReport
  repeat' (first
    | with_reducible assumption | intro _ | with_reducible apply State.when_kept | with_reducible apply State.p_kept
    | with_reducible apply State.updSlot_kept | extract_lets | dsimp only)

theorem execUpstreamPloam_kept {K : Keep} {s0 : State} (c : Fin 64) (slot : Fin 256) (micOk : Bool) (m : UpPloam) (s : State) (hs : Kept K s0 s) (kirq : K.irq = false := by assumption) (kcyc : K.cyc = false := by assumption) (kmsi : K.msi = false := by assumption) (kslots : K.slots = false := by assumption) (kshu : K.shu = false := by assumption) (kblt : K.blt = false := by assumption) : KeptO K s0 (execUpstreamPloam c slot micOk m s) := by
  unfold execUpstreamPloam
  repeat' (first
    | with_reducible assumption | with_reducible apply next_kept | with_reducible apply ite_kept | with_reducible apply ite_fst_kept
    | with_reducible apply State.dgRaise_kept | with_reducible apply State.capReport_kept | extract_lets | dsimp only | split
    | with_reducible apply Kept.upd_shu | dsimp +zetaDelta only)

theorem execVidanInvite_kept {K : Keep} {s0 : State} (c : Fin 64) (s : State) (hs : Kept K s0 s) (kfresh : K.fresh = false := by assumption) (kirq : K.irq = false := by assumption) (kcyc : K.cyc = false := by assumption) (kmsi : K.msi = false := by assumption) (kpch : K.pch = false := by assumption) (krng : K.rng = false := by assumption) (kshu : K.shu = false := by assumption) : KeptO K s0 (execVidanInvite c s) := by
  unfold execVidanInvite
  repeat' (first
    | with_reducible assumption | intro _ | with_reducible apply next_kept | with_reducible apply ite_kept | with_reducible apply ite_fst_kept
    | with_reducible apply State.when_kept | with_reducible apply State.ev_kept | with_reducible apply State.draw_kept
    | with_reducible apply State.ploamSend_kept | with_reducible apply State.updRng_kept | extract_lets | dsimp only | split)

theorem State.vidanAssign_kept {K : Keep} {s0 : State} (s : State) (c : Nat) (i : Nat) (hs : Kept K s0 s) (kirq : K.irq = false := by assumption) (kcyc : K.cyc = false := by assumption) (kmsi : K.msi = false := by assumption) (kpch : K.pch = false := by assumption) (kshu : K.shu = false := by assumption) : Kept K s0 (State.vidanAssign s c i) := by
  unfold State.vidanAssign
  repeat' (first
    | with_reducible assumption | with_reducible apply State.ploamSend_kept | extract_lets | dsimp only)

theorem State.vidanPeak_kept {K : Keep} {s0 : State} (s : State) (c : Nat) (j : Nat) (all : List UtPeak) (p : UtPeak) (hs : Kept K s0 s) (kirq : K.irq = false := by assumption) (kcyc : K.cyc = false := by assumption) (kmsi : K.msi = false := by assumption) (kpch : K.pch = false := by assumption) (kslots : K.slots = false := by assumption) (kshd : K.shd = false := by assumption) (kshu : K.shu = false := by assumption) (kblt : K.blt = false := by assumption) : Kept K s0 (State.vidanPeak s c j all p) := by
  unfold State.vidanPeak
  repeat' (first
    | with_reducible assumption | intro _ | with_reducible apply ite_kept | with_reducible apply ite_fst_kept | with_reducible apply State.inc_kept
    | with_reducible apply State.ev_kept | with_reducible apply State.slotAssign_kept | with_reducible apply State.p_kept
    | with_reducible apply State.eqFromDefault_kept | with_reducible apply State.updSlot_kept | with_reducible apply State.vidanAssign_kept
    | extract_lets | dsimp only | split | dsimp +zetaDelta only)

theorem State.rerangeTry_kept {K : Keep} {s0 : State} (s : State) (c : Nat) (i : Nat) (hs : Kept K s0 s) (kfresh : K.fresh = false := by assumption) (kirq : K.irq = false := by assumption) (kcyc : K.cyc = false := by assumption) (kmsi : K.msi = false := by assumption) (kpch : K.pch = false := by assumption) (kslots : K.slots = false := by assumption) (krng : K.rng = false := by assumption) (kshd : K.shd = false := by assumption) (kshu : K.shu = false := by assumption) : Kept K s0 (State.rerangeTry s c i) := by
  unfold State.rerangeTry
  repeat' (first
    | with_reducible assumption | intro _ | with_reducible apply ite_kept | with_reducible apply ite_fst_kept | with_reducible apply State.updSlot_kept
    | with_reducible apply State.bookRanging_kept | with_reducible apply State.ploamSend_kept | with_reducible apply State.p_kept
    | with_reducible apply State.updRng_kept | extract_lets | dsimp only | split)

theorem State.rerangeNext_kept {K : Keep} {s0 : State} (s : State) (c : Nat) (hs : Kept K s0 s) (kfresh : K.fresh = false := by assumption) (kirq : K.irq = false := by assumption) (kcyc : K.cyc = false := by assumption) (kmsi : K.msi = false := by assumption) (kpch : K.pch = false := by assumption) (kslots : K.slots = false := by assumption) (krng : K.rng = false := by assumption) (kshd : K.shd = false := by assumption) (kshu : K.shu = false := by assumption) : Kept K s0 (State.rerangeNext s c) := by
  unfold State.rerangeNext
  repeat' (first
    | with_reducible assumption | intro _ | with_reducible apply foldl_kept | with_reducible apply foldl_fst_kept | with_reducible apply foldl_snd_kept
    | with_reducible apply State.rerangeTry_kept | dsimp only)

theorem State.rerangeStart_kept {K : Keep} {s0 : State} (s : State) (c : Nat) (i : Nat) (hs : Kept K s0 s) (kfresh : K.fresh = false := by assumption) (kirq : K.irq = false := by assumption) (kcyc : K.cyc = false := by assumption) (kmsi : K.msi = false := by assumption) (kpch : K.pch = false := by assumption) (kslots : K.slots = false := by assumption) (krng : K.rng = false := by assumption) (kshd : K.shd = false := by assumption) (kshu : K.shu = false := by assumption) : Kept K s0 (State.rerangeStart s c i) := by
  unfold State.rerangeStart
  repeat' (first
    | with_reducible assumption | intro _ | with_reducible apply ite_kept | with_reducible apply ite_fst_kept | with_reducible apply State.p_kept
    | with_reducible apply State.inc_kept | with_reducible apply State.updSlot_kept | with_reducible apply State.rerangeTry_kept | extract_lets
    | dsimp only | split)

theorem execOnuLobRaise_kept {K : Keep} {s0 : State} (c : Fin 64) (slot : Fin 256) (s : State) (hs : Kept K s0 s) (kfresh : K.fresh = false := by assumption) (kirq : K.irq = false := by assumption) (kcyc : K.cyc = false := by assumption) (kmsi : K.msi = false := by assumption) (kpch : K.pch = false := by assumption) (kslots : K.slots = false := by assumption) (krng : K.rng = false := by assumption) (kshd : K.shd = false := by assumption) (kshu : K.shu = false := by assumption) (kblt : K.blt = false := by assumption) : KeptO K s0 (execOnuLobRaise c slot s) := by
  unfold execOnuLobRaise
  repeat' (first
    | with_reducible assumption | intro _ | with_reducible apply next_kept | with_reducible apply State.when_kept
    | with_reducible apply State.onuRaise_kept | with_reducible apply State.shuttleStale_kept | with_reducible apply State.updSlot_kept
    | with_reducible apply State.rerangeStart_kept | extract_lets | dsimp only)

theorem execUtPeaksReported_kept {K : Keep} {s0 : State} (c : Fin 64) (peaks : List UtPeak) (s : State) (hs : Kept K s0 s) (kfresh : K.fresh = false := by assumption) (kirq : K.irq = false := by assumption) (kcyc : K.cyc = false := by assumption) (kmsi : K.msi = false := by assumption) (kpch : K.pch = false := by assumption) (kslots : K.slots = false := by assumption) (krng : K.rng = false := by assumption) (kshd : K.shd = false := by assumption) (kshu : K.shu = false := by assumption) (kblt : K.blt = false := by assumption) : KeptO K s0 (execUtPeaksReported c peaks s) := by
  unfold execUtPeaksReported
  repeat' (first
    | with_reducible assumption | intro _ | with_reducible apply next_kept | with_reducible apply iter_kept | with_reducible apply foldl_kept
    | with_reducible apply foldl_fst_kept | with_reducible apply foldl_snd_kept | with_reducible apply State.when_kept
    | with_reducible apply State.wr_kept | with_reducible apply State.p_kept | with_reducible apply State.ev_kept | with_reducible apply State.add_kept
    | with_reducible apply State.spanCheck_kept | with_reducible apply State.updRng_kept | with_reducible apply State.vidanPeak_kept
    | with_reducible apply State.rerangeNext_kept | with_reducible apply State.quietDue_kept | extract_lets | dsimp only | split | dsimp +zetaDelta only)

theorem State.vidanCollide_kept {K : Keep} {s0 : State} (s : State) (c : Nat) (i : Nat) (hs : Kept K s0 s) (kirq : K.irq = false := by assumption) (kcyc : K.cyc = false := by assumption) (kmsi : K.msi = false := by assumption) (kpch : K.pch = false := by assumption) (kslots : K.slots = false := by assumption) (krng : K.rng = false := by assumption) (kshu : K.shu = false := by assumption) (kblt : K.blt = false := by assumption) : Kept K s0 (State.vidanCollide s c i) := by
  unfold State.vidanCollide
  repeat' (first
    | with_reducible assumption | with_reducible apply State.p_kept | with_reducible apply State.deactivate_kept | with_reducible apply State.inc_kept
    | with_reducible apply State.ev_kept | extract_lets | dsimp only)

theorem execVidanFollowupResult_kept {K : Keep} {s0 : State} (c : Fin 64) (slot : Fin 256) (res : FollowUp) (s : State) (hs : Kept K s0 s) (kfresh : K.fresh = false := by assumption) (kirq : K.irq = false := by assumption) (kcyc : K.cyc = false := by assumption) (kmsi : K.msi = false := by assumption) (kpch : K.pch = false := by assumption) (kslots : K.slots = false := by assumption) (krng : K.rng = false := by assumption) (kshd : K.shd = false := by assumption) (kshu : K.shu = false := by assumption) (kblt : K.blt = false := by assumption) : KeptO K s0 (execVidanFollowupResult c slot res s) := by
  unfold execVidanFollowupResult
  repeat' (first
    | with_reducible assumption | intro _ | with_reducible apply next_kept | with_reducible apply ite_kept | with_reducible apply ite_fst_kept
    | with_reducible apply State.when_kept | with_reducible apply State.vidanCollide_kept | with_reducible apply State.inc_kept
    | with_reducible apply State.deactivate_kept | with_reducible apply State.p_kept | with_reducible apply State.updSlot_kept
    | with_reducible apply State.book_kept | with_reducible apply State.vidanAssign_kept | with_reducible apply State.slotEmpty_kept
    | with_reducible apply State.farOnu_kept | with_reducible apply State.intoOperation_kept | with_reducible apply State.ev_kept | extract_lets
    | dsimp only | split | dsimp +zetaDelta only)

theorem execCapReport_kept {K : Keep} {s0 : State} (c : Fin 64) (slot : Fin 256) (info : CapInfo) (s : State) (hs : Kept K s0 s) (kslots : K.slots = false := by assumption) : KeptO K s0 (execCapReport c slot info s) := by
  unfold execCapReport
  repeat' (first
    | with_reducible assumption | with_reducible apply next_kept | with_reducible apply State.capReport_kept)

theorem execCapQueryTimeout_kept {K : Keep} {s0 : State} (c : Fin 64) (slot : Fin 256) (s : State) (hs : Kept K s0 s) (kslots : K.slots = false := by assumption) : KeptO K s0 (execCapQueryTimeout c slot s) := by
  unfold execCapQueryTimeout
  repeat' (first
    | with_reducible assumption | intro _ | with_reducible apply next_kept | with_reducible apply State.when_kept | with_reducible apply State.p_kept
    | with_reducible apply State.updSlot_kept | extract_lets | dsimp only)

theorem execRerangeResult_kept {K : Keep} {s0 : State} (c : Fin 64) (slot : Fin 256) (arrival : Option Int) (s : State) (hs : Kept K s0 s) (kfresh : K.fresh = false := by assumption) (kirq : K.irq = false := by assumption) (kcyc : K.cyc = false := by assumption) (kmsi : K.msi = false := by assumption) (kpch : K.pch = false := by assumption) (kslots : K.slots = false := by assumption) (krng : K.rng = false := by assumption) (kshd : K.shd = false := by assumption) (kshu : K.shu = false := by assumption) (kblt : K.blt = false := by assumption) : KeptO K s0 (execRerangeResult c slot arrival s) := by
  unfold execRerangeResult
  repeat' (first
    | with_reducible assumption | intro _ | with_reducible apply next_kept | with_reducible apply ite_kept | with_reducible apply ite_fst_kept
    | with_reducible apply State.rerangeFree_kept | with_reducible apply State.when_kept | with_reducible apply State.farOnu_kept
    | with_reducible apply State.boltEvent_kept | with_reducible apply State.p_kept | with_reducible apply State.ploamSend_kept
    | with_reducible apply State.updSlot_kept | with_reducible apply State.rerangeNext_kept | with_reducible apply State.rerangeTry_kept | extract_lets
    | dsimp only | split | dsimp +zetaDelta only)

theorem State.pendTimeout_kept {K : Keep} {s0 : State} (s : State) (c : Nat) (i : Nat) (hs : Kept K s0 s) (kfresh : K.fresh = false := by assumption) (kirq : K.irq = false := by assumption) (kcyc : K.cyc = false := by assumption) (kmsi : K.msi = false := by assumption) (kpch : K.pch = false := by assumption) (kslots : K.slots = false := by assumption) (krng : K.rng = false := by assumption) (kshd : K.shd = false := by assumption) (kshu : K.shu = false := by assumption) : Kept K s0 (State.pendTimeout s c i) := by
  unfold State.pendTimeout
  repeat' (first
    | with_reducible assumption | intro _ | with_reducible apply ite_kept | with_reducible apply ite_fst_kept | with_reducible apply State.updSlot_kept
    | with_reducible apply State.rerangeStart_kept | with_reducible apply State.ploamSend_kept | extract_lets | dsimp only | split)

theorem State.trackBurst_kept {K : Keep} {s0 : State} (s : State) (c : Nat) (i : Nat) (a : Int) (hs : Kept K s0 s) (kfresh : K.fresh = false := by assumption) (kirq : K.irq = false := by assumption) (kcyc : K.cyc = false := by assumption) (kmsi : K.msi = false := by assumption) (kpch : K.pch = false := by assumption) (kslots : K.slots = false := by assumption) (krng : K.rng = false := by assumption) (kshd : K.shd = false := by assumption) (kshu : K.shu = false := by assumption) (kblt : K.blt = false := by assumption) : Kept K s0 (State.trackBurst s c i a) := by
  unfold State.trackBurst
  repeat' (first
    | with_reducible assumption | intro _ | with_reducible apply ite_kept | with_reducible apply ite_fst_kept | with_reducible apply State.correct_kept
    | with_reducible apply State.updSlot_kept | with_reducible apply State.shuttleStale_kept | with_reducible apply State.p_kept
    | with_reducible apply State.when_kept | with_reducible apply State.rerangeStart_kept | with_reducible apply State.pendTimeout_kept | extract_lets
    | dsimp only | split)

theorem execDriftTrackBurst_kept {K : Keep} {s0 : State} (c : Fin 64) (slot : Fin 256) (arrival : Int) (lock : Nat) (s : State) (hs : Kept K s0 s) (kfresh : K.fresh = false := by assumption) (kirq : K.irq = false := by assumption) (kcyc : K.cyc = false := by assumption) (kmsi : K.msi = false := by assumption) (kpch : K.pch = false := by assumption) (kslots : K.slots = false := by assumption) (krng : K.rng = false := by assumption) (kshd : K.shd = false := by assumption) (kshu : K.shu = false := by assumption) (kblt : K.blt = false := by assumption) : KeptO K s0 (execDriftTrackBurst c slot arrival lock s) := by
  unfold execDriftTrackBurst
  repeat' (first
    | with_reducible assumption | intro _ | with_reducible apply next_kept | with_reducible apply State.when_kept
    | with_reducible apply State.trackBurst_kept | dsimp only)

theorem execDriftPendTimeout_kept {K : Keep} {s0 : State} (c : Fin 64) (slot : Fin 256) (s : State) (hs : Kept K s0 s) (kfresh : K.fresh = false := by assumption) (kirq : K.irq = false := by assumption) (kcyc : K.cyc = false := by assumption) (kmsi : K.msi = false := by assumption) (kpch : K.pch = false := by assumption) (kslots : K.slots = false := by assumption) (krng : K.rng = false := by assumption) (kshd : K.shd = false := by assumption) (kshu : K.shu = false := by assumption) : KeptO K s0 (execDriftPendTimeout c slot s) := by
  unfold execDriftPendTimeout
  repeat' (first
    | with_reducible assumption | intro _ | with_reducible apply next_kept | with_reducible apply State.when_kept
    | with_reducible apply State.pendTimeout_kept | dsimp only)

theorem execProfileRestore_kept {K : Keep} {s0 : State} (c : Fin 64) (slot : Fin 256) (s : State) (hs : Kept K s0 s) : KeptO K s0 (execProfileRestore c slot s) := by
  unfold execProfileRestore
  repeat' (first
    | with_reducible assumption | intro _ | with_reducible apply next_kept | with_reducible apply State.when_kept | with_reducible apply State.p_kept
    | dsimp only)

theorem execLostHoldExpiry_kept {K : Keep} {s0 : State} (c : Fin 64) (slot : Fin 256) (s : State) (hs : Kept K s0 s) (kirq : K.irq = false := by assumption) (kcyc : K.cyc = false := by assumption) (kmsi : K.msi = false := by assumption) (kpch : K.pch = false := by assumption) (kslots : K.slots = false := by assumption) (krng : K.rng = false := by assumption) (kshu : K.shu = false := by assumption) (kblt : K.blt = false := by assumption) : KeptO K s0 (execLostHoldExpiry c slot s) := by
  unfold execLostHoldExpiry
  repeat' (first
    | with_reducible assumption | intro _ | with_reducible apply next_kept | with_reducible apply State.when_kept
    | with_reducible apply State.deactivate_kept | dsimp only)

theorem execDriftPersistTimeout_kept {K : Keep} {s0 : State} (c : Fin 64) (slot : Fin 256) (s : State) (hs : Kept K s0 s) (kfresh : K.fresh = false := by assumption) (kirq : K.irq = false := by assumption) (kcyc : K.cyc = false := by assumption) (kmsi : K.msi = false := by assumption) (kpch : K.pch = false := by assumption) (kslots : K.slots = false := by assumption) (krng : K.rng = false := by assumption) (kshd : K.shd = false := by assumption) (kshu : K.shu = false := by assumption) : KeptO K s0 (execDriftPersistTimeout c slot s) := by
  unfold execDriftPersistTimeout
  repeat' (first
    | with_reducible assumption | intro _ | with_reducible apply next_kept | with_reducible apply State.when_kept
    | with_reducible apply State.rerangeStart_kept | dsimp only)

theorem State.silence_kept {K : Keep} {s0 : State} (s : State) (c : Nat) (l : List Nat) (hs : Kept K s0 s) (kirq : K.irq = false := by assumption) (kcyc : K.cyc = false := by assumption) (kmsi : K.msi = false := by assumption) (kpch : K.pch = false := by assumption) (krng : K.rng = false := by assumption) (kshu : K.shu = false := by assumption) : Kept K s0 (State.silence s c l) := by
  unfold State.silence
  repeat' (first
    | with_reducible assumption | intro _ | with_reducible apply ite_kept | with_reducible apply ite_fst_kept | with_reducible apply foldl_kept
    | with_reducible apply foldl_fst_kept | with_reducible apply foldl_snd_kept | with_reducible apply State.ploamSend_kept
    | with_reducible apply State.updRng_kept | extract_lets | dsimp only | split)

theorem State.nextProbe_kept {K : Keep} {s0 : State} (s : State) (c : Nat) (hs : Kept K s0 s) (kirq : K.irq = false := by assumption) (kcyc : K.cyc = false := by assumption) (kmsi : K.msi = false := by assumption) (kpch : K.pch = false := by assumption) (krng : K.rng = false := by assumption) (kshu : K.shu = false := by assumption) : Kept K s0 (State.nextProbe s c) := by
  unfold State.nextProbe
  repeat' (first
    | with_reducible assumption | intro _ | with_reducible apply ite_kept | with_reducible apply ite_fst_kept | with_reducible apply State.updRng_kept
    | with_reducible apply State.silence_kept | extract_lets | dsimp only | split)

theorem State.probeRestore_kept {K : Keep} {s0 : State} (s : State) (c : Nat) (l : List Nat) (hs : Kept K s0 s) (kirq : K.irq = false := by assumption) (kcyc : K.cyc = false := by assumption) (kmsi : K.msi = false := by assumption) (kpch : K.pch = false := by assumption) (kslots : K.slots = false := by assumption) (krng : K.rng = false := by assumption) (kshu : K.shu = false := by assumption) (kblt : K.blt = false := by assumption) : Kept K s0 (State.probeRestore s c l) := by
  unfold State.probeRestore
  repeat' (first
    | with_reducible assumption | intro _ | with_reducible apply ite_kept | with_reducible apply ite_fst_kept | with_reducible apply foldl_kept
    | with_reducible apply foldl_fst_kept | with_reducible apply foldl_snd_kept | with_reducible apply State.ploamSend_kept
    | with_reducible apply State.updRng_kept | with_reducible apply State.slotEmpty_kept | extract_lets | dsimp only | split)

theorem State.locateEnd_kept {K : Keep} {s0 : State} (s : State) (c : Nat) (hs : Kept K s0 s) (kfresh : K.fresh = false := by assumption) (kirq : K.irq = false := by assumption) (kcyc : K.cyc = false := by assumption) (kmsi : K.msi = false := by assumption) (krng : K.rng = false := by assumption) (kshd : K.shd = false := by assumption) (kshu : K.shu = false := by assumption) : Kept K s0 (State.locateEnd s c) := by
  unfold State.locateEnd
  repeat' (first
    | with_reducible assumption | intro _ | with_reducible apply State.p_kept | with_reducible apply State.updRng_kept
    | with_reducible apply State.when_kept | with_reducible apply State.quietDue_kept | extract_lets | dsimp only)

theorem execRogueLocateStart_kept {K : Keep} {s0 : State} (c : Fin 64) (s : State) (hs : Kept K s0 s) (kfresh : K.fresh = false := by assumption) (kirq : K.irq = false := by assumption) (kcyc : K.cyc = false := by assumption) (kmsi : K.msi = false := by assumption) (kpch : K.pch = false := by assumption) (krng : K.rng = false := by assumption) (kshd : K.shd = false := by assumption) (kshu : K.shu = false := by assumption) : KeptO K s0 (execRogueLocateStart c s) := by
  unfold execRogueLocateStart
  repeat' (first
    | with_reducible assumption | intro _ | with_reducible apply next_kept | with_reducible apply ite_kept | with_reducible apply ite_fst_kept
    | with_reducible apply foldl_kept | with_reducible apply foldl_fst_kept | with_reducible apply foldl_snd_kept | with_reducible apply State.when_kept
    | with_reducible apply State.p_kept | with_reducible apply State.updRng_kept | with_reducible apply State.ev_kept
    | with_reducible apply State.locateEnd_kept | with_reducible apply State.nextProbe_kept | extract_lets | dsimp only | split)

theorem execRogueProbeEnd_kept {K : Keep} {s0 : State} (c : Fin 64) (s : State) (hs : Kept K s0 s) (kfresh : K.fresh = false := by assumption) (kirq : K.irq = false := by assumption) (kcyc : K.cyc = false := by assumption) (kmsi : K.msi = false := by assumption) (kpch : K.pch = false := by assumption) (kslots : K.slots = false := by assumption) (krng : K.rng = false := by assumption) (kshd : K.shd = false := by assumption) (kshu : K.shu = false := by assumption) (kblt : K.blt = false := by assumption) : KeptO K s0 (execRogueProbeEnd c s) := by
  unfold execRogueProbeEnd
  repeat' (first
    | with_reducible assumption | intro _ | with_reducible apply next_kept | with_reducible apply ite_kept | with_reducible apply ite_fst_kept
    | with_reducible apply State.when_kept | with_reducible apply State.probeRestore_kept | with_reducible apply State.ev_kept
    | with_reducible apply State.locateEnd_kept | with_reducible apply State.p_kept | with_reducible apply State.isolate_kept
    | with_reducible apply State.updRng_kept | with_reducible apply State.nextProbe_kept | extract_lets | dsimp only | split | dsimp +zetaDelta only)

end Sys2Proof.Machine
end

