-- ==== Sys2Proof/Laws/Kept/Shuttle.lean ====
section
/-! SUPPORT. What the operations and meanings of Machine/Shuttle.lean keep: the queue, the clock, the canonical forms, and every
component of the state that they have no business with. -/
namespace Sys2Proof.Machine

set_option linter.all false

theorem execSwapGo_kept {K : Keep} {s0 : State} (ag : Agent) (k : Fin 16) (v : Word) (s : State) (hs : Kept K s0 s) (kirq : K.irq = false := by assumption) (kcyc : K.cyc = false := by assumption) (kmsi : K.msi = false := by assumption) (kshu : K.shu = false := by assumption) : KeptO K s0 (execSwapGo ag k v s) := by
  unfold execSwapGo
  repeat' (first
    | with_reducible assumption | intro _ | with_reducible apply next_kept | with_reducible apply State.bus_kept
    | with_reducible apply State.swapWrite_kept | dsimp only)

theorem State.loadFailed_kept {K : Keep} {s0 : State} (s : State) (k : Nat) (p : Nat) (hs : Kept K s0 s) (kirq : K.irq = false := by assumption) (kcyc : K.cyc = false := by assumption) (kmsi : K.msi = false := by assumption) (kshu : K.shu = false := by assumption) : Kept K s0 (State.loadFailed s k p) := by
  unfold State.loadFailed
  repeat' (first
    | with_reducible assumption | with_reducible apply State.swapResult_kept | with_reducible apply State.loadMismatch_kept | split
    | dsimp +zetaDelta only)

theorem execSpareLoaded_kept {K : Keep} {s0 : State} (k : Fin 16) (ok : Bool) (s : State) (hs : Kept K s0 s) (kirq : K.irq = false := by assumption) (kcyc : K.cyc = false := by assumption) (kmsi : K.msi = false := by assumption) (kpch : K.pch = false := by assumption) (kshd : K.shd = false := by assumption) (kledger : K.ledger = false := by assumption) (kshu : K.shu = false := by assumption) (kblt : K.blt = false := by assumption) (ktmg : K.tmg = false := by assumption) (kpmc : K.pmc = false := by assumption) : KeptO K s0 (execSpareLoaded k ok s) := by
  unfold execSpareLoaded
  repeat' (first
    | with_reducible assumption | intro _ | with_reducible apply next_kept | with_reducible apply ite_kept | with_reducible apply ite_fst_kept
    | with_reducible apply State.imageInto_kept | with_reducible apply State.updShu_kept | with_reducible apply State.swapClear_kept
    | with_reducible apply State.loadFailed_kept | with_reducible apply State.swapNext_kept | extract_lets | dsimp only | split | dsimp +zetaDelta only)

theorem execSwapFrameBoundary_kept {K : Keep} {s0 : State} (k : Fin 16) (s : State) (hs : Kept K s0 s) (kshu : K.shu = false := by assumption) : KeptO K s0 (execSwapFrameBoundary k s) := by
  unfold execSwapFrameBoundary
  repeat' (first
    | with_reducible assumption | intro _ | with_reducible apply next_kept | with_reducible apply ite_kept | with_reducible apply ite_fst_kept
    | with_reducible apply State.updShu_kept | dsimp only | split | dsimp +zetaDelta only)

theorem execSwapQuiesceTimeout_kept {K : Keep} {s0 : State} (k : Fin 16) (s : State) (hs : Kept K s0 s) (kpch : K.pch = false := by assumption) (kshd : K.shd = false := by assumption) (kshu : K.shu = false := by assumption) (kpmc : K.pmc = false := by assumption) : KeptO K s0 (execSwapQuiesceTimeout k s) := by
  unfold execSwapQuiesceTimeout
  repeat' (first
    | with_reducible assumption | intro _ | with_reducible apply next_kept | with_reducible apply iter_kept | with_reducible apply ite_kept
    | with_reducible apply ite_fst_kept | with_reducible apply State.threadAbort_kept | dsimp only | split | dsimp +zetaDelta only)

theorem State.locMove_kept {K : Keep} {s0 : State} (s : State) (src : Nat) (dst : Nat) (copy : Bool) (hs : Kept K s0 s) (kshu : K.shu = false := by assumption) : Kept K s0 (State.locMove s src dst copy) := by
  unfold State.locMove
  repeat' (first
    | with_reducible assumption | intro _ | with_reducible apply ite_kept | with_reducible apply ite_fst_kept | with_reducible apply foldl_kept
    | with_reducible apply foldl_fst_kept | with_reducible apply foldl_snd_kept | with_reducible apply State.updShu_kept | extract_lets | dsimp only
    | split)

theorem State.swapMove_kept {K : Keep} {s0 : State} (s : State) (k : Nat) (w : Swap) (p : Nat) (q : Nat) (hs : Kept K s0 s) (kshu : K.shu = false := by assumption) : Kept K s0 (State.swapMove s k w p q) := by
  unfold State.swapMove
  repeat' (first
    | with_reducible assumption | intro _ | with_reducible apply State.locMove_kept | with_reducible apply State.p_kept
    | with_reducible apply State.updShu_kept | with_reducible apply State.when_kept | with_reducible apply State.shuttleStart_kept
    | with_reducible apply State.verWrite_kept | extract_lets | dsimp only | split | dsimp +zetaDelta only)

theorem State.svcLatch_kept {K : Keep} {s0 : State} (s : State) (k : Nat) (r : Nat) (hs : Kept K s0 s) (kshu : K.shu = false := by assumption) : Kept K s0 (State.svcLatch s k r) := by
  unfold State.svcLatch
  repeat' (first
    | with_reducible assumption | intro _ | with_reducible apply State.when_kept | with_reducible apply State.latchRole_kept | dsimp only | split
    | dsimp +zetaDelta only)

theorem State.refreshEnd_kept {K : Keep} {s0 : State} (s : State) (k : Nat) (r : Nat) (p : Nat) (digestOk : Bool) (loadOk : Bool) (hs : Kept K s0 s) (kirq : K.irq = false := by assumption) (kcyc : K.cyc = false := by assumption) (kmsi : K.msi = false := by assumption) (kshu : K.shu = false := by assumption) (kblt : K.blt = false := by assumption) : Kept K s0 (State.refreshEnd s k r p digestOk loadOk) := by
  unfold State.refreshEnd
  repeat' (first
    | with_reducible assumption | with_reducible apply ite_kept | with_reducible apply ite_fst_kept | with_reducible apply State.inc_kept
    | with_reducible apply State.ev_kept | with_reducible apply State.boltEvent_kept | with_reducible apply State.shuttleClear_kept
    | with_reducible apply State.imageInto_kept | with_reducible apply State.loadMismatch_kept | extract_lets | dsimp only | split
    | dsimp +zetaDelta only)

theorem execSwapComplete_kept {K : Keep} {s0 : State} (k : Fin 16) (digestOk : Bool) (loadOk : Bool) (s : State) (hs : Kept K s0 s) (kirq : K.irq = false := by assumption) (kcyc : K.cyc = false := by assumption) (kmsi : K.msi = false := by assumption) (kpch : K.pch = false := by assumption) (kshd : K.shd = false := by assumption) (kledger : K.ledger = false := by assumption) (kshu : K.shu = false := by assumption) (kblt : K.blt = false := by assumption) (ktmg : K.tmg = false := by assumption) (kpmc : K.pmc = false := by assumption) : KeptO K s0 (execSwapComplete k digestOk loadOk s) := by
  unfold execSwapComplete
  repeat' (first
    | with_reducible assumption | intro _ | with_reducible apply next_kept | with_reducible apply ite_kept | with_reducible apply ite_fst_kept
    | with_reducible apply State.swapMove_kept | with_reducible apply State.swapClear_kept | with_reducible apply State.inc_kept
    | with_reducible apply State.svcLatch_kept | with_reducible apply State.swapResult_kept | with_reducible apply State.when_kept
    | with_reducible apply State.refreshEnd_kept | with_reducible apply State.swapNext_kept | extract_lets | dsimp only | split | dsimp +zetaDelta only)

theorem execRefreshStep_kept {K : Keep} {s0 : State} (k : Fin 16) (s : State) (hs : Kept K s0 s) (kirq : K.irq = false := by assumption) (kcyc : K.cyc = false := by assumption) (kmsi : K.msi = false := by assumption) (kshu : K.shu = false := by assumption) : KeptO K s0 (execRefreshStep k s) := by
  unfold execRefreshStep
  repeat' (first
    | with_reducible assumption | intro _ | with_reducible apply next_kept | with_reducible apply ite_kept | with_reducible apply ite_fst_kept
    | with_reducible apply State.when_kept | with_reducible apply State.updShu_kept | with_reducible apply State.inc_kept
    | with_reducible apply State.swapAsk_kept | extract_lets | dsimp only | split | dsimp +zetaDelta only)

theorem State.svcAnswer_kept {K : Keep} {s0 : State} (s : State) (k : Nat) (a : Nat) (w0 : Word) (status : Nat) (res : List Word) (hs : Kept K s0 s) (kirq : K.irq = false := by assumption) (kcyc : K.cyc = false := by assumption) (kmsi : K.msi = false := by assumption) (kshu : K.shu = false := by assumption) : Kept K s0 (State.svcAnswer s k a w0 status res) := by
  unfold State.svcAnswer
  repeat' (first
    | with_reducible assumption | intro _ | with_reducible apply iter_kept | with_reducible apply State.wr_kept | with_reducible apply State.updShu_kept
    | with_reducible apply State.ev_kept | extract_lets | dsimp only)

theorem State.svcSubmit_kept {K : Keep} {s0 : State} (s : State) (ag : Agent) (k : Nat) (v : Word) (hs : Kept K s0 s) (kirq : K.irq = false := by assumption) (kcyc : K.cyc = false := by assumption) (kmsi : K.msi = false := by assumption) (kshu : K.shu = false := by assumption) : Kept K s0 (State.svcSubmit s ag k v) := by
  unfold State.svcSubmit
  repeat' (first
    | with_reducible assumption | intro _ | with_reducible apply ite_kept | with_reducible apply ite_fst_kept | with_reducible apply State.wr_kept
    | with_reducible apply State.ev_kept | with_reducible apply State.inc_kept | with_reducible apply State.svcAnswer_kept
    | with_reducible apply State.updShu_kept | with_reducible apply State.latchRole_kept | extract_lets | dsimp only | split)

theorem execSvcRequestSubmit_kept {K : Keep} {s0 : State} (ag : Agent) (k : Fin 16) (v : Word) (s : State) (hs : Kept K s0 s) (kirq : K.irq = false := by assumption) (kcyc : K.cyc = false := by assumption) (kmsi : K.msi = false := by assumption) (kshu : K.shu = false := by assumption) : KeptO K s0 (execSvcRequestSubmit ag k v s) := by
  unfold execSvcRequestSubmit
  repeat' (first
    | with_reducible assumption | intro _ | with_reducible apply next_kept | with_reducible apply State.bus_kept
    | with_reducible apply State.svcSubmit_kept | dsimp only)

theorem State.svcWith_kept {K : Keep} {s0 : State} (s : State) (k : Nat) (a : Nat) (f : State → SvcReq → State) (hs : Kept K s0 s) (hf : ∀ s x, Kept K s0 s → Kept K s0 (f s x)) : Kept K s0 (State.svcWith s k a f) := by
  unfold State.svcWith
  repeat' (first
    | with_reducible assumption | intro _ | apply hf | with_reducible apply ite_kept | with_reducible apply ite_fst_kept | split | dsimp +zetaDelta only)

theorem State.svcRun_kept {K : Keep} {s0 : State} (s : State) (k : Nat) (a : Nat) (code : Nat) (f : State → SvcReq → State × Nat × List Word) (hs : Kept K s0 s) (hf : ∀ s x, Kept K s0 s → Kept K s0 (f s x).1) (kirq : K.irq = false := by assumption) (kcyc : K.cyc = false := by assumption) (kmsi : K.msi = false := by assumption) (kshu : K.shu = false := by assumption) : Kept K s0 (State.svcRun s k a code f) := by
  unfold State.svcRun
  repeat' (first
    | with_reducible assumption | intro _ | apply hf | with_reducible apply ite_kept | with_reducible apply ite_fst_kept
    | with_reducible apply State.svcWith_kept | with_reducible apply State.svcAnswer_kept | extract_lets | dsimp only | split)

theorem execSvcAnswer_kept {K : Keep} {s0 : State} (k : Fin 16) (a : Fin 3) (status : BitVec 16) (res : List Word) (s : State) (hs : Kept K s0 s) (kirq : K.irq = false := by assumption) (kcyc : K.cyc = false := by assumption) (kmsi : K.msi = false := by assumption) (kshu : K.shu = false := by assumption) : KeptO K s0 (execSvcAnswer k a status res s) := by
  unfold execSvcAnswer
  repeat' (first
    | with_reducible assumption | intro _ | with_reducible apply next_kept | with_reducible apply ite_kept | with_reducible apply ite_fst_kept
    | with_reducible apply State.svcWith_kept | with_reducible apply State.svcAnswer_kept | dsimp only | split | dsimp +zetaDelta only)

theorem execSvcTimeout_kept {K : Keep} {s0 : State} (k : Fin 16) (a : Fin 3) (s : State) (hs : Kept K s0 s) (kirq : K.irq = false := by assumption) (kcyc : K.cyc = false := by assumption) (kmsi : K.msi = false := by assumption) (kshu : K.shu = false := by assumption) : KeptO K s0 (execSvcTimeout k a s) := by
  unfold execSvcTimeout
  repeat' (first
    | with_reducible assumption | with_reducible apply next_kept | with_reducible apply ite_kept | with_reducible apply ite_fst_kept
    | with_reducible apply State.svcAnswer_kept | with_reducible apply State.inc_kept | with_reducible apply State.ev_kept | split
    | dsimp +zetaDelta only)

theorem execEcho_kept {K : Keep} {s0 : State} (k : Fin 16) (a : Fin 3) (s : State) (hs : Kept K s0 s) (kirq : K.irq = false := by assumption) (kcyc : K.cyc = false := by assumption) (kmsi : K.msi = false := by assumption) (kshu : K.shu = false := by assumption) : KeptO K s0 (execEcho k a s) := by
  unfold execEcho
  repeat' (first
    | with_reducible assumption | intro _ | with_reducible apply next_kept | with_reducible apply State.svcRun_kept | dsimp only)

theorem execVersion_kept {K : Keep} {s0 : State} (k : Fin 16) (a : Fin 3) (s : State) (hs : Kept K s0 s) (kirq : K.irq = false := by assumption) (kcyc : K.cyc = false := by assumption) (kmsi : K.msi = false := by assumption) (kshu : K.shu = false := by assumption) : KeptO K s0 (execVersion k a s) := by
  unfold execVersion
  repeat' (first
    | with_reducible assumption | intro _ | with_reducible apply next_kept | with_reducible apply State.svcRun_kept | dsimp only)

theorem execOnuEnable_kept {K : Keep} {s0 : State} (k : Fin 16) (a : Fin 3) (s : State) (hs : Kept K s0 s) (kirq : K.irq = false := by assumption) (kcyc : K.cyc = false := by assumption) (kmsi : K.msi = false := by assumption) (kpch : K.pch = false := by assumption) (kslots : K.slots = false := by assumption) (krng : K.rng = false := by assumption) (kshu : K.shu = false := by assumption) (kblt : K.blt = false := by assumption) : KeptO K s0 (execOnuEnable k a s) := by
  unfold execOnuEnable
  repeat' (first
    | with_reducible assumption | intro _ | with_reducible apply next_kept | with_reducible apply ite_kept | with_reducible apply ite_fst_kept
    | with_reducible apply State.svcRun_kept | with_reducible apply State.ploamSend_kept | with_reducible apply State.slotEmpty_kept | extract_lets
    | dsimp only | split)

theorem execOnuDeactivate_kept {K : Keep} {s0 : State} (k : Fin 16) (a : Fin 3) (s : State) (hs : Kept K s0 s) (kirq : K.irq = false := by assumption) (kcyc : K.cyc = false := by assumption) (kmsi : K.msi = false := by assumption) (kpch : K.pch = false := by assumption) (kslots : K.slots = false := by assumption) (krng : K.rng = false := by assumption) (kshu : K.shu = false := by assumption) (kblt : K.blt = false := by assumption) : KeptO K s0 (execOnuDeactivate k a s) := by
  unfold execOnuDeactivate
  repeat' (first
    | with_reducible assumption | intro _ | with_reducible apply next_kept | with_reducible apply ite_kept | with_reducible apply ite_fst_kept
    | with_reducible apply State.svcRun_kept | with_reducible apply State.deactivate_kept | extract_lets | dsimp only | split)

theorem execOnuRerange_kept {K : Keep} {s0 : State} (k : Fin 16) (a : Fin 3) (s : State) (hs : Kept K s0 s) (kfresh : K.fresh = false := by assumption) (kirq : K.irq = false := by assumption) (kcyc : K.cyc = false := by assumption) (kmsi : K.msi = false := by assumption) (kpch : K.pch = false := by assumption) (kslots : K.slots = false := by assumption) (krng : K.rng = false := by assumption) (kshd : K.shd = false := by assumption) (kshu : K.shu = false := by assumption) : KeptO K s0 (execOnuRerange k a s) := by
  unfold execOnuRerange
  repeat' (first
    | with_reducible assumption | intro _ | with_reducible apply next_kept | with_reducible apply ite_kept | with_reducible apply ite_fst_kept
    | with_reducible apply State.svcRun_kept | with_reducible apply State.rerangeStart_kept | extract_lets | dsimp only | split)

theorem execQwNow_kept {K : Keep} {s0 : State} (k : Fin 16) (a : Fin 3) (s : State) (hs : Kept K s0 s) (kfresh : K.fresh = false := by assumption) (kirq : K.irq = false := by assumption) (kcyc : K.cyc = false := by assumption) (kmsi : K.msi = false := by assumption) (krng : K.rng = false := by assumption) (kshd : K.shd = false := by assumption) (kshu : K.shu = false := by assumption) : KeptO K s0 (execQwNow k a s) := by
  unfold execQwNow
  repeat' (first
    | with_reducible assumption | intro _ | with_reducible apply next_kept | with_reducible apply ite_kept | with_reducible apply ite_fst_kept
    | with_reducible apply State.svcRun_kept | with_reducible apply State.quietDue_kept | with_reducible apply State.updRng_kept | extract_lets
    | dsimp only | split)

theorem execShedState_kept {K : Keep} {s0 : State} (k : Fin 16) (a : Fin 3) (s : State) (hs : Kept K s0 s) (kirq : K.irq = false := by assumption) (kcyc : K.cyc = false := by assumption) (kmsi : K.msi = false := by assumption) (kshu : K.shu = false := by assumption) : KeptO K s0 (execShedState k a s) := by
  unfold execShedState
  repeat' (first
    | with_reducible assumption | intro _ | with_reducible apply next_kept | with_reducible apply State.svcRun_kept | extract_lets | dsimp only)

theorem execOmciTx_kept {K : Keep} {s0 : State} (k : Fin 16) (a : Fin 3) (sf : Word) (s : State) (hs : Kept K s0 s) (kirq : K.irq = false := by assumption) (kcyc : K.cyc = false := by assumption) (kmsi : K.msi = false := by assumption) (kshu : K.shu = false := by assumption) : KeptO K s0 (execOmciTx k a sf s) := by
  unfold execOmciTx
  repeat' (first
    | with_reducible assumption | intro _ | with_reducible apply next_kept | with_reducible apply ite_kept | with_reducible apply ite_fst_kept
    | with_reducible apply State.svcRun_kept | with_reducible apply State.updShu_kept | extract_lets | dsimp only | split)

theorem execOmciRing_kept {K : Keep} {s0 : State} (k : Fin 16) (a : Fin 3) (s : State) (hs : Kept K s0 s) (kirq : K.irq = false := by assumption) (kcyc : K.cyc = false := by assumption) (kmsi : K.msi = false := by assumption) (kshu : K.shu = false := by assumption) : KeptO K s0 (execOmciRing k a s) := by
  unfold execOmciRing
  repeat' (first
    | with_reducible assumption | intro _ | with_reducible apply next_kept | with_reducible apply ite_kept | with_reducible apply ite_fst_kept
    | with_reducible apply State.svcRun_kept | with_reducible apply State.updShu_kept | extract_lets | dsimp only | split)

theorem execOmciRx_kept {K : Keep} {s0 : State} (k : Fin 16) (c : Fin 64) (onu : Fin 1024) (msg : List Byte) (full : Bool) (s : State) (hs : Kept K s0 s) (kddr : K.ddr = false := by assumption) (kshu : K.shu = false := by assumption) : KeptO K s0 (execOmciRx k c onu msg full s) := by
  unfold execOmciRx
  repeat' (first
    | with_reducible assumption | intro _ | with_reducible apply next_kept | with_reducible apply ite_kept | with_reducible apply ite_fst_kept
    | with_reducible apply State.inc_kept | with_reducible apply State.ddrWrs_kept | with_reducible apply State.updShu_kept | extract_lets | dsimp only
    | split | exact refused_kept _ _ _)

theorem execPmClear_kept {K : Keep} {s0 : State} (k : Fin 16) (a : Fin 3) (s : State) (hs : Kept K s0 s) (kirq : K.irq = false := by assumption) (kcyc : K.cyc = false := by assumption) (kmsi : K.msi = false := by assumption) (kshu : K.shu = false := by assumption) (kblt : K.blt = false := by assumption) : KeptO K s0 (execPmClear k a s) := by
  unfold execPmClear
  repeat' (first
    | with_reducible assumption | intro _ | with_reducible apply next_kept | with_reducible apply ite_kept | with_reducible apply ite_fst_kept
    | with_reducible apply State.svcRun_kept | with_reducible apply State.pmClear_kept | extract_lets | dsimp only | split)

theorem execPmRoll_kept {K : Keep} {s0 : State} (k : Fin 16) (a : Fin 3) (s : State) (hs : Kept K s0 s) (kirq : K.irq = false := by assumption) (kcyc : K.cyc = false := by assumption) (kmsi : K.msi = false := by assumption) (kshu : K.shu = false := by assumption) (kblt : K.blt = false := by assumption) : KeptO K s0 (execPmRoll k a s) := by
  unfold execPmRoll
  repeat' (first
    | with_reducible assumption | intro _ | with_reducible apply next_kept | with_reducible apply ite_kept | with_reducible apply ite_fst_kept
    | with_reducible apply State.svcRun_kept | with_reducible apply State.pmRoll_kept | extract_lets | dsimp only | split)

end Sys2Proof.Machine
end

