-- ==== Sys2Proof/Laws/Kept/HostWrite.lean ====
section
/-! SUPPORT. What the operations and meanings of Machine/HostWrite.lean keep: the queue, the clock, the canonical forms, and every
component of the state that they have no business with. -/
namespace Sys2Proof.Machine

set_option linter.all false

theorem State.plainWrite_kept {K : Keep} {s0 : State} (s : State) (f : RegFam) (x : Acc) (hs : Kept K s0 s) (kagents : K.agents = false := by assumption) (kirq : K.irq = false := by assumption) (kcyc : K.cyc = false := by assumption) (kmsi : K.msi = false := by assumption) (kshu : K.shu = false := by assumption) : Kept K s0 (State.plainWrite s f x) := by
  unfold State.plainWrite
  repeat' (first
    | with_reducible assumption | with_reducible apply ite_kept | with_reducible apply ite_fst_kept | with_reducible apply State.wrMask_kept
    | with_reducible apply State.wrHalf_kept | with_reducible apply State.wrSqc_kept | with_reducible apply State.pairLo_kept
    | with_reducible apply State.pairHi_kept | with_reducible apply State.wrRW_kept | split)

theorem State.semWrite_kept {K : Keep} {s0 : State} (s : State) (x : Acc) (hs : Kept K s0 s) (kirq : K.irq = false := by assumption) (kcyc : K.cyc = false := by assumption) (kmsi : K.msi = false := by assumption) (kshu : K.shu = false := by assumption) : Kept K s0 (State.semWrite s x) := by
  unfold State.semWrite
  repeat' (first
    | with_reducible assumption | with_reducible apply ite_kept | with_reducible apply ite_fst_kept | with_reducible apply State.p_kept
    | with_reducible apply State.hpiErr_kept | split)

theorem State.msixWrite_kept {K : Keep} {s0 : State} (s : State) (x : Acc) (hs : Kept K s0 s) (kmsi : K.msi = false := by assumption) : Kept K s0 (State.msixWrite s x) := by
  unfold State.msixWrite
  repeat' (first
    | with_reducible assumption | with_reducible apply ite_kept | with_reducible apply ite_fst_kept | with_reducible apply State.wr_kept | extract_lets
    | dsimp only | split | with_reducible apply Kept.upd_msi)

theorem State.intEnWrite_kept {K : Keep} {s0 : State} (s : State) (off : Nat) (v : Word) (hs : Kept K s0 s) (kcyc : K.cyc = false := by assumption) : Kept K s0 (State.intEnWrite s off v) := by
  unfold State.intEnWrite
  repeat' (first
    | with_reducible assumption | intro _ | with_reducible apply State.when_kept | with_reducible apply State.updCyc_kept
    | with_reducible apply State.wr_kept | extract_lets | dsimp only)

theorem State.rankMapWrite_kept {K : Keep} {s0 : State} (s : State) (m : Nat) (v : Word) (hs : Kept K s0 s) (kirq : K.irq = false := by assumption) (kcyc : K.cyc = false := by assumption) (kmsi : K.msi = false := by assumption) (ktmp : K.tmp = false := by assumption) (kshu : K.shu = false := by assumption) (ktmg : K.tmg = false := by assumption) : Kept K s0 (State.rankMapWrite s m v) := by
  unfold State.rankMapWrite
  repeat' (first
    | with_reducible assumption | with_reducible apply ite_kept | with_reducible apply ite_fst_kept | with_reducible apply State.wr_kept
    | with_reducible apply State.ranksOut_kept | extract_lets | dsimp only | split)

theorem State.bltClassWrite_kept {K : Keep} {s0 : State} (s : State) (x : Acc) (hs : Kept K s0 s) (kblt : K.blt = false := by assumption) : Kept K s0 (State.bltClassWrite s x) := by
  unfold State.bltClassWrite
  repeat' (first
    | with_reducible assumption | with_reducible apply State.fillTokens_kept | with_reducible apply State.wrRW_kept | with_reducible apply State.p_kept
    | extract_lets | dsimp only)

theorem State.pipeSpWrite_kept {K : Keep} {s0 : State} (s : State) (x : Acc) (hs : Kept K s0 s) (kcls : K.cls = false := by assumption) : Kept K s0 (State.pipeSpWrite s x) := by
  unfold State.pipeSpWrite
  repeat' (first
    | with_reducible assumption | intro _ | with_reducible apply State.updCls_kept | with_reducible apply State.wrRW_kept | extract_lets | dsimp only)

theorem State.pidWrite_kept {K : Keep} {s0 : State} (s : State) (x : Acc) (hs : Kept K s0 s) (kirq : K.irq = false := by assumption) (kcyc : K.cyc = false := by assumption) (kmsi : K.msi = false := by assumption) (kshu : K.shu = false := by assumption) : Kept K s0 (State.pidWrite s x) := by
  unfold State.pidWrite
  repeat' (first
    | with_reducible assumption | with_reducible apply ite_kept | with_reducible apply ite_fst_kept | with_reducible apply State.ev_kept
    | with_reducible apply State.wrRW_kept | split)

theorem State.spillWrite_kept {K : Keep} {s0 : State} (s : State) (v : Word) (hs : Kept K s0 s) (ktmg : K.tmg = false := by assumption) : Kept K s0 (State.spillWrite s v) := by
  unfold State.spillWrite
  repeat' (first
    | with_reducible assumption | intro _ | with_reducible apply State.updTmg_kept | with_reducible apply State.wrRW_kept | extract_lets | dsimp only)

theorem State.applyWrite_kept {K : Keep} {s0 : State} (s : State) (base : Nat) (n : Nat) (x : Acc) (hs : Kept K s0 s) : Kept K s0 (State.applyWrite s base n x) := by
  unfold State.applyWrite
  repeat' (first
    | with_reducible assumption | with_reducible apply State.wrRW_kept | with_reducible apply State.applyWords_kept)

theorem writeRoutes_kept {K : Keep} {s0 : State} (kfresh : K.fresh = false := by assumption) (kagents : K.agents = false := by assumption) (kirq : K.irq = false := by assumption) (kcyc : K.cyc = false := by assumption) (kmsi : K.msi = false := by assumption) (kblks : K.blks = false := by assumption) (khost : K.host = false := by assumption) (kpch : K.pch = false := by assumption) (kslots : K.slots = false := by assumption) (krng : K.rng = false := by assumption) (kshd : K.shd = false := by assumption) (kledger : K.ledger = false := by assumption) (ktmp : K.tmp = false := by assumption) (kdrf : K.drf = false := by assumption) (ktim : K.tim = false := by assumption) (kshu : K.shu = false := by assumption) (kblt : K.blt = false := by assumption) (kcry : K.cry = false := by assumption) (kslv : K.slv = false := by assumption) (kcls : K.cls = false := by assumption) (ktmg : K.tmg = false := by assumption) (khsl : K.hsl = false := by assumption) (kfwd : K.fwd = false := by assumption) (ktrb : K.trb = false := by assumption) (kpmc : K.pmc = false := by assumption) : ∀ r ∈ writeRoutes, ∀ (s : State) (x : Acc), Kept K s0 s → Kept K s0 (r.2 s x) := by
  unfold writeRoutes
  repeat' (first
    | refine List.forall_mem_append.mpr ⟨?_, ?_⟩
    | refine List.forall_mem_cons.mpr ⟨?_, ?_⟩
    | (intro r hr; exact absurd hr List.not_mem_nil)
    | (intro r hr; obtain ⟨w, _, rfl⟩ := List.mem_map.mp hr; clear hr))
  all_goals repeat' (first
    | with_reducible assumption
    | intro _
    | with_reducible apply iter_kept
    | with_reducible apply ite_kept
    | with_reducible apply State.brxCtlWrite_kept
    | with_reducible apply State.cmWrite_kept
    | with_reducible apply State.bwCtlWrite_kept
    | with_reducible apply State.kidWrite_kept
    | with_reducible apply State.modMuxWrite_kept
    | with_reducible apply State.reactWrite_kept
    | with_reducible apply State.slvCtlWrite_kept
    | with_reducible apply State.trbCtlWrite_kept
    | with_reducible apply State.watchWrite_kept
    | with_reducible apply State.semWrite_kept
    | with_reducible apply State.losCtlWrite_kept
    | with_reducible apply State.updRng_kept
    | with_reducible apply State.msixWrite_kept
    | with_reducible apply State.gateWrite_kept
    | with_reducible apply State.blkRstWrite_kept
    | with_reducible apply State.pwrCtlWrite_kept
    | with_reducible apply State.pwrShuWrite_kept
    | with_reducible apply State.pwrMemWrite_kept
    | with_reducible apply State.safeWrite_kept
    | with_reducible apply State.reactSet_kept
    | with_reducible apply State.injWrite_kept
    | with_reducible apply State.servoWrite_kept
    | with_reducible apply State.stepWrite_kept
    | with_reducible apply State.ptpOfs_kept
    | with_reducible apply State.ptpTxWrite_kept
    | with_reducible apply State.drfCtlWrite_kept
    | with_reducible apply State.streamWrite_kept
    | with_reducible apply State.swapWrite_kept
    | with_reducible apply State.svcSubmit_kept
    | with_reducible apply State.chCtlWrite_kept
    | with_reducible apply State.sleepWrite_kept
    | with_reducible apply State.modCmdWrite_kept
    | with_reducible apply State.wrRW_kept
    | with_reducible apply State.sealCtlWrite_kept
    | with_reducible apply State.heldDrop_kept
    | with_reducible apply State.ledgerCtlWrite_kept
    | with_reducible apply State.clearHints_kept
    | with_reducible apply State.p_kept
    | with_reducible apply State.hintInWrite_kept
    | with_reducible apply State.commitWrite_kept
    | with_reducible apply State.applyWrite_kept
    | with_reducible apply State.pipeSpWrite_kept
    | with_reducible apply State.flushWrite_kept
    | with_reducible apply State.pidWrite_kept
    | with_reducible apply State.spillWrite_kept
    | with_reducible apply State.cmCtlWrite_kept
    | with_reducible apply State.hpiErr_kept
    | with_reducible apply State.blobWrite_kept
    | with_reducible apply State.eraseWrite_kept
    | with_reducible apply State.slotClr_kept
    | with_reducible apply State.enrolWrite_kept
    | with_reducible apply State.cryOnuWrite_kept
    | with_reducible apply State.hslCtlWrite_kept
    | with_reducible apply State.wrHalf_kept
    | with_reducible apply State.protCtlWrite_kept
    | with_reducible apply State.mbxWrite_kept
    | with_reducible apply State.mbxPop_kept
    | with_reducible apply State.iprotWrite_kept
    | with_reducible apply State.rankMapWrite_kept
    | with_reducible apply State.cutCmdWrite_kept
    | with_reducible apply State.bltClassWrite_kept
    | with_reducible apply State.auditWrite_kept
    | with_reducible apply State.dumpCtlWrite_kept
    | with_reducible apply State.trigWrite_kept
    | with_reducible apply State.wr_kept
    | with_reducible apply State.eqWrite_kept
    | with_reducible apply State.allocWrite_kept
    | with_reducible apply State.macCmdWrite_kept
    | with_reducible apply State.rtCmdWrite_kept
    | with_reducible apply State.uportWrite_kept
    | with_reducible apply State.shpWrite_kept
    | with_reducible apply State.polWrite_kept
    | with_reducible apply State.tribWrite_kept
    | extract_lets
    | split
    | (show Time.wf _ = true; assumption)
    | dsimp only)

theorem State.regWrite_kept {K : Keep} {s0 : State} (s : State) (ag : Agent) (off : Nat) (v : Word) (h : Kept K s0 s) (kfresh : K.fresh = false := by assumption) (kagents : K.agents = false := by assumption) (kirq : K.irq = false := by assumption) (kcyc : K.cyc = false := by assumption) (kmsi : K.msi = false := by assumption) (kblks : K.blks = false := by assumption) (khost : K.host = false := by assumption) (kpch : K.pch = false := by assumption) (kslots : K.slots = false := by assumption) (krng : K.rng = false := by assumption) (kshd : K.shd = false := by assumption) (kledger : K.ledger = false := by assumption) (ktmp : K.tmp = false := by assumption) (kdrf : K.drf = false := by assumption) (ktim : K.tim = false := by assumption) (kshu : K.shu = false := by assumption) (kblt : K.blt = false := by assumption) (kcry : K.cry = false := by assumption) (kslv : K.slv = false := by assumption) (kcls : K.cls = false := by assumption) (ktmg : K.tmg = false := by assumption) (khsl : K.hsl = false := by assumption) (kfwd : K.fwd = false := by assumption) (ktrb : K.trb = false := by assumption) (kpmc : K.pmc = false := by assumption) : Kept K s0 (State.regWrite s ag off v) := by
  unfold State.regWrite
  split
  · exact h
  · extract_lets is x
    split
    · exact State.intEnWrite_kept _ _ _ h
    · split
      · rename_i r hr
        exact writeRoutes_kept (by assumption) (by assumption) (by assumption) (by assumption) (by assumption) (by assumption) (by assumption) (by assumption) (by assumption) (by assumption) (by assumption) (by assumption) (by assumption) (by assumption) (by assumption) (by assumption) (by assumption) (by assumption) (by assumption) (by assumption) (by assumption) (by assumption) (by assumption) (by assumption) (by assumption) r (List.mem_of_find?_eq_some hr) s x h
      · exact State.plainWrite_kept _ _ _ h

theorem State.write_kept {K : Keep} {s0 : State} (s : State) (ag : Agent) (off : Nat) (be : Nat) (v : Word) (hs : Kept K s0 s) (kfresh : K.fresh = false := by assumption) (kagents : K.agents = false := by assumption) (kirq : K.irq = false := by assumption) (kcyc : K.cyc = false := by assumption) (kmsi : K.msi = false := by assumption) (kblks : K.blks = false := by assumption) (khost : K.host = false := by assumption) (kpch : K.pch = false := by assumption) (kslots : K.slots = false := by assumption) (krng : K.rng = false := by assumption) (kshd : K.shd = false := by assumption) (kledger : K.ledger = false := by assumption) (ktmp : K.tmp = false := by assumption) (kdrf : K.drf = false := by assumption) (ktim : K.tim = false := by assumption) (kshu : K.shu = false := by assumption) (kblt : K.blt = false := by assumption) (kcry : K.cry = false := by assumption) (kslv : K.slv = false := by assumption) (kcls : K.cls = false := by assumption) (ktmg : K.tmg = false := by assumption) (khsl : K.hsl = false := by assumption) (kfwd : K.fwd = false := by assumption) (ktrb : K.trb = false := by assumption) (kpmc : K.pmc = false := by assumption) : Kept K s0 (State.write s ag off be v) := by
  unfold State.write
  repeat' (first
    | with_reducible assumption | intro _ | with_reducible apply State.bridge_kept | with_reducible apply State.regWrite_kept | dsimp only)

theorem State.snapHi_kept {K : Keep} {s0 : State} (s : State) (ag : Agent) (off : Nat) (hi : Word) (hs : Kept K s0 s) (kagents : K.agents = false := by assumption) : Kept K s0 (State.snapHi s ag off hi) := by
  unfold State.snapHi
  repeat' (first
    | with_reducible assumption | intro _ | dsimp only | with_reducible apply Kept.upd_agents)

theorem State.macSnap_kept {K : Keep} {s0 : State} (s : State) (ag : Agent) (off : Nat) (hs : Kept K s0 s) (kagents : K.agents = false := by assumption) : Kept K s0 (State.macSnap s ag off).1 := by
  unfold State.macSnap
  repeat' (first
    | with_reducible assumption | intro _ | dsimp only | with_reducible apply Kept.upd_agents)

theorem State.plainRead_kept {K : Keep} {s0 : State} (s : State) (f : RegFam) (x : Acc) (hs : Kept K s0 s) (kagents : K.agents = false := by assumption) : Kept K s0 (State.plainRead s f x).1 := by
  unfold State.plainRead
  repeat' (first
    | with_reducible assumption | intro _ | with_reducible apply ite_kept | with_reducible apply ite_fst_kept | with_reducible apply State.snapHi_kept
    | extract_lets | dsimp only | split | dsimp +zetaDelta only)

theorem State.semRead_kept {K : Keep} {s0 : State} (s : State) (ag : Agent) (i : Nat) (hs : Kept K s0 s) : Kept K s0 (State.semRead s ag i).1 := by
  unfold State.semRead
  repeat' (first
    | with_reducible assumption | with_reducible apply ite_kept | with_reducible apply ite_fst_kept | with_reducible apply State.p_kept | extract_lets
    | dsimp only | split)

theorem readRoutes_kept {K : Keep} {s0 : State} (kfresh : K.fresh = false := by assumption) (kagents : K.agents = false := by assumption) (ktmp : K.tmp = false := by assumption) (ktim : K.tim = false := by assumption) (kblt : K.blt = false := by assumption) (kcry : K.cry = false := by assumption) (kpmc : K.pmc = false := by assumption) : ∀ r ∈ readRoutes, ∀ (s : State) (x : Acc) (w : Word), Kept K s0 s → Kept K s0 (r.2 s x w).1 := by
  unfold readRoutes
  repeat' (first
    | refine List.forall_mem_append.mpr ⟨?_, ?_⟩
    | refine List.forall_mem_cons.mpr ⟨?_, ?_⟩
    | (intro r hr; exact absurd hr List.not_mem_nil)
    | (intro r hr; obtain ⟨w, _, rfl⟩ := List.mem_map.mp hr; clear hr))
  all_goals repeat' (first
    | with_reducible assumption
    | intro _
    | with_reducible apply State.macSnap_kept
    | with_reducible apply State.fillTokens_kept
    | with_reducible apply State.drawNat_kept
    | with_reducible apply iter_kept
    | with_reducible apply ite_kept
    | with_reducible apply State.semRead_kept
    | with_reducible apply State.nowRead_kept
    | with_reducible apply State.snapHi_kept
    | with_reducible apply State.ppsRead_kept
    | with_reducible apply State.wr_kept
    | with_reducible apply State.faultPop_kept
    | with_reducible apply State.updTim_kept
    | with_reducible apply State.updPmc_kept
    | with_reducible apply State.nonceDraw_kept
    | extract_lets
    | split
    | (show Time.wf _ = true; assumption)
    | dsimp only)

theorem State.regRead_kept {K : Keep} {s0 : State} (s : State) (ag : Agent) (off : Nat) (h : Kept K s0 s) (kfresh : K.fresh = false := by assumption) (kagents : K.agents = false := by assumption) (ktmp : K.tmp = false := by assumption) (ktim : K.tim = false := by assumption) (kblt : K.blt = false := by assumption) (kcry : K.cry = false := by assumption) (kpmc : K.pmc = false := by assumption) : Kept K s0 (State.regRead s ag off).1 := by
  unfold State.regRead
  split
  · exact h
  · extract_lets is x
    split
    · rename_i r hr
      exact readRoutes_kept (by assumption) (by assumption) (by assumption) (by assumption) (by assumption) (by assumption) (by assumption) r (List.mem_of_find?_eq_some hr) s x _ h
    · exact State.plainRead_kept _ _ _ h

theorem State.read_kept {K : Keep} {s0 : State} (s : State) (ag : Agent) (off : Nat) (hs : Kept K s0 s) (kfresh : K.fresh = false := by assumption) (kagents : K.agents = false := by assumption) (kirq : K.irq = false := by assumption) (kcyc : K.cyc = false := by assumption) (kmsi : K.msi = false := by assumption) (ktmp : K.tmp = false := by assumption) (ktim : K.tim = false := by assumption) (kshu : K.shu = false := by assumption) (kblt : K.blt = false := by assumption) (kcry : K.cry = false := by assumption) (kpmc : K.pmc = false := by assumption) : Kept K s0 (State.read s ag off) := by
  unfold State.read
  repeat' (first
    | with_reducible assumption | intro _ | with_reducible apply State.busRd_kept | with_reducible apply State.regRead_kept | dsimp only)

end Sys2Proof.Machine
end

