-- ==== Sys2Proof/Laws/Kept/Engine.lean ====
section
/-! SUPPORT. What the operations and meanings of Machine/Engine.lean keep: the queue, the clock, the canonical forms, and every
component of the state that they have no business with. -/
namespace Sys2Proof.Machine

set_option linter.all false

theorem State.aluFlags_kept {K : Keep} {s0 : State} (s : State) (op : Nat) (w : Nat) (a : Nat) (b : Nat) (v : Nat) (hs : Kept K s0 s) (kfresh : K.fresh = false := by assumption) : Kept K s0 (State.aluFlags s op w a b v).1 := by
  unfold State.aluFlags
  repeat' (first
    | with_reducible assumption | intro _ | with_reducible apply ite_kept | with_reducible apply ite_fst_kept | with_reducible apply State.draw_kept
    | extract_lets | dsimp only | split)

theorem State.rnd_kept {K : Keep} {s0 : State} (s : State) (p : Nat) (t : Nat) (pc : Nat) (hs : Kept K s0 s) (kfresh : K.fresh = false := by assumption) (kirq : K.irq = false := by assumption) (kcyc : K.cyc = false := by assumption) (kmsi : K.msi = false := by assumption) (kshu : K.shu = false := by assumption) : Kept K s0 (State.rnd s p t pc).1 := by
  unfold State.rnd
  repeat' (first
    | with_reducible assumption | with_reducible apply ite_kept | with_reducible apply ite_fst_kept | with_reducible apply State.faultRecord_kept
    | with_reducible apply State.draw_kept | extract_lets | dsimp only | split)

theorem State.aluSlot_kept {K : Keep} {s0 : State} (s : State) (p : Nat) (t : Nat) (h : Thread) (u : Uop) (x : Nat) (hs : Kept K s0 s) (kfresh : K.fresh = false := by assumption) (kirq : K.irq = false := by assumption) (kcyc : K.cyc = false := by assumption) (kmsi : K.msi = false := by assumption) (kshu : K.shu = false := by assumption) : Kept K s0 (State.aluSlot s p t h u x).1 := by
  unfold State.aluSlot
  repeat' (first
    | with_reducible assumption | with_reducible apply ite_kept | with_reducible apply ite_fst_kept | with_reducible apply State.rnd_kept
    | with_reducible apply State.aluFlags_kept | extract_lets | dsimp only | split)

theorem State.memWr_kept {K : Keep} {s0 : State} (s : State) (p : Nat) (space : Nat) (a : Nat) (n : Nat) (v : Nat) (hs : Kept K s0 s) (kshu : K.shu = false := by assumption) : Kept K s0 (State.memWr s p space a n v) := by
  unfold State.memWr
  repeat' (first
    | with_reducible assumption | intro _ | with_reducible apply iter_kept | with_reducible apply ite_kept | with_reducible apply ite_fst_kept
    | with_reducible apply State.updShu_kept | dsimp only | split)

theorem State.memReg_kept {K : Keep} {s0 : State} (s : State) (p : Nat) (t : Nat) (h : Thread) (u : Uop) (rd : Bool) (d : Nat) (a : Nat) (hs : Kept K s0 s) (kfresh : K.fresh = false := by assumption) (kagents : K.agents = false := by assumption) (kirq : K.irq = false := by assumption) (kcyc : K.cyc = false := by assumption) (kmsi : K.msi = false := by assumption) (kblks : K.blks = false := by assumption) (khost : K.host = false := by assumption) (kpch : K.pch = false := by assumption) (kslots : K.slots = false := by assumption) (krng : K.rng = false := by assumption) (kshd : K.shd = false := by assumption) (kledger : K.ledger = false := by assumption) (ktmp : K.tmp = false := by assumption) (kdrf : K.drf = false := by assumption) (ktim : K.tim = false := by assumption) (kshu : K.shu = false := by assumption) (kblt : K.blt = false := by assumption) (kcry : K.cry = false := by assumption) (kslv : K.slv = false := by assumption) (kcls : K.cls = false := by assumption) (ktmg : K.tmg = false := by assumption) (khsl : K.hsl = false := by assumption) (kfwd : K.fwd = false := by assumption) (ktrb : K.trb = false := by assumption) (kpmc : K.pmc = false := by assumption) : Kept K s0 (State.memReg s p t h u rd d a).1 := by
  unfold State.memReg
  repeat' (first
    | with_reducible assumption | with_reducible apply ite_kept | with_reducible apply ite_fst_kept | with_reducible apply State.read_kept
    | with_reducible apply State.write_kept | extract_lets | dsimp only | split)

theorem State.memWord_kept {K : Keep} {s0 : State} (s : State) (p : Nat) (h : Thread) (u : Uop) (op : Nat) (space : Nat) (d : Nat) (a : Nat) (n : Nat) (hs : Kept K s0 s) (kshu : K.shu = false := by assumption) : Kept K s0 (State.memWord s p h u op space d a n).1 := by
  unfold State.memWord
  repeat' (first
    | with_reducible assumption | intro _ | with_reducible apply ite_kept | with_reducible apply ite_fst_kept | with_reducible apply State.memWr_kept
    | with_reducible apply State.when_kept | extract_lets | dsimp only | split)

theorem State.memSlot_kept {K : Keep} {s0 : State} (s : State) (p : Nat) (t : Nat) (h : Thread) (u : Uop) (hs : Kept K s0 s) (kfresh : K.fresh = false := by assumption) (kagents : K.agents = false := by assumption) (kirq : K.irq = false := by assumption) (kcyc : K.cyc = false := by assumption) (kmsi : K.msi = false := by assumption) (kblks : K.blks = false := by assumption) (khost : K.host = false := by assumption) (kpch : K.pch = false := by assumption) (kslots : K.slots = false := by assumption) (krng : K.rng = false := by assumption) (kshd : K.shd = false := by assumption) (kledger : K.ledger = false := by assumption) (ktmp : K.tmp = false := by assumption) (kdrf : K.drf = false := by assumption) (ktim : K.tim = false := by assumption) (kshu : K.shu = false := by assumption) (kblt : K.blt = false := by assumption) (kcry : K.cry = false := by assumption) (kslv : K.slv = false := by assumption) (kcls : K.cls = false := by assumption) (ktmg : K.tmg = false := by assumption) (khsl : K.hsl = false := by assumption) (kfwd : K.fwd = false := by assumption) (ktrb : K.trb = false := by assumption) (kpmc : K.pmc = false := by assumption) : Kept K s0 (State.memSlot s p t h u).1 := by
  unfold State.memSlot
  repeat' (first
    | with_reducible assumption | with_reducible apply ite_kept | with_reducible apply ite_fst_kept | with_reducible apply State.memReg_kept
    | with_reducible apply State.memWord_kept | extract_lets | dsimp only | split)

theorem State.portTake_kept {K : Keep} {s0 : State} (s : State) (k : Nat) (r : Nat) (port : Nat) (hs : Kept K s0 s) (kpch : K.pch = false := by assumption) (kshd : K.shd = false := by assumption) (kshu : K.shu = false := by assumption) : Kept K s0 (State.portTake s k r port) := by
  unfold State.portTake
  repeat' (first
    | with_reducible assumption | intro _ | with_reducible apply ite_kept | with_reducible apply ite_fst_kept | with_reducible apply State.updShu_kept
    | with_reducible apply State.updShd_kept | with_reducible apply State.inqSync_kept | with_reducible apply State.updPch_kept | extract_lets
    | dsimp only | split)

theorem State.entryWords_kept {K : Keep} {s0 : State} (s : State) (l : List Word) (n : Nat) (h : Kept K s0 s) (kfresh : K.fresh = false := by assumption) : Kept K s0 (State.entryWords s l n).1 := by
  induction n with
  | zero => simp only [State.entryWords]; exact h
  | succ n ih =>
    unfold State.entryWords
    repeat' (first
      | with_reducible assumption
      | with_reducible apply State.draw_kept
      | extract_lets
      | split)

theorem State.complete_kept {K : Keep} {s0 : State} (s : State) (p : Nat) (t : Nat) (hs : Kept K s0 s) (kshu : K.shu = false := by assumption) : Kept K s0 (State.complete s p t) := by
  unfold State.complete
  repeat' (first
    | with_reducible assumption | intro _ | with_reducible apply State.updThread_kept | dsimp only)

theorem State.popItem_kept {K : Keep} {s0 : State} (s : State) (p : Nat) (t : Nat) (k : Nat) (r : Nat) (port : Nat) (e : List Word) (hs : Kept K s0 s) (kpch : K.pch = false := by assumption) (kshd : K.shd = false := by assumption) (kshu : K.shu = false := by assumption) : Kept K s0 (State.popItem s p t k r port e) := by
  unfold State.popItem
  repeat' (first
    | with_reducible assumption | intro _ | with_reducible apply ite_kept | with_reducible apply ite_fst_kept | with_reducible apply State.portTake_kept
    | with_reducible apply State.updShu_kept | with_reducible apply State.updThread_kept | extract_lets | dsimp only | split)

theorem State.pushItem_kept {K : Keep} {s0 : State} (s : State) (k : Nat) (r : Nat) (port : Nat) (l : List Word) (hs : Kept K s0 s) (kfresh : K.fresh = false := by assumption) (kirq : K.irq = false := by assumption) (kcyc : K.cyc = false := by assumption) (kmsi : K.msi = false := by assumption) (kpch : K.pch = false := by assumption) (kshd : K.shd = false := by assumption) (kshu : K.shu = false := by assumption) (kblt : K.blt = false := by assumption) : Kept K s0 (State.pushItem s k r port l) := by
  unfold State.pushItem
  repeat' (first
    | with_reducible assumption | intro _ | with_reducible apply ite_kept | with_reducible apply ite_fst_kept | with_reducible apply State.inqPush_kept
    | with_reducible apply State.grantWrite_kept | with_reducible apply State.respond_kept | with_reducible apply State.ploamSend_kept
    | with_reducible apply State.updShu_kept | with_reducible apply State.entryWords_kept | with_reducible apply State.boltProduce_kept | extract_lets
    | dsimp only | split)

theorem State.pushRefused_kept {K : Keep} {s0 : State} (s : State) (k : Nat) (r : Nat) (port : Nat) (hs : Kept K s0 s) (kfresh : K.fresh = false := by assumption) (kirq : K.irq = false := by assumption) (kcyc : K.cyc = false := by assumption) (kmsi : K.msi = false := by assumption) (kshu : K.shu = false := by assumption) : Kept K s0 (State.pushRefused s k r port) := by
  unfold State.pushRefused
  repeat' (first
    | with_reducible assumption | with_reducible apply ite_kept | with_reducible apply ite_fst_kept | with_reducible apply State.ev_kept
    | with_reducible apply State.respond_kept | extract_lets | dsimp only | split)

theorem State.queueSlot_kept {K : Keep} {s0 : State} (s : State) (p : Nat) (t : Nat) (k : Nat) (r : Nat) (h : Thread) (u : Uop) (hs : Kept K s0 s) (kfresh : K.fresh = false := by assumption) (kirq : K.irq = false := by assumption) (kcyc : K.cyc = false := by assumption) (kmsi : K.msi = false := by assumption) (kpch : K.pch = false := by assumption) (kshd : K.shd = false := by assumption) (kshu : K.shu = false := by assumption) (kblt : K.blt = false := by assumption) : Kept K s0 (State.queueSlot s p t k r h u).1 := by
  unfold State.queueSlot
  repeat' (first
    | with_reducible assumption | intro _ | with_reducible apply ite_kept | with_reducible apply ite_fst_kept | with_reducible apply State.when_kept
    | with_reducible apply State.complete_kept | with_reducible apply State.popItem_kept | with_reducible apply State.entryWords_kept
    | with_reducible apply State.pushRefused_kept | with_reducible apply State.pushItem_kept | extract_lets | dsimp only | split | dsimp +zetaDelta only)

theorem State.asides_kept {K : Keep} {s0 : State} (s : State) (p : Nat) (t : Nat) (yield : Bool) (hs : Kept K s0 s) (kshu : K.shu = false := by assumption) : Kept K s0 (State.asides s p t yield) := by
  unfold State.asides
  repeat' (first
    | with_reducible assumption | intro _ | with_reducible apply iter_kept | with_reducible apply ite_kept | with_reducible apply ite_fst_kept
    | with_reducible apply State.updShu_kept | with_reducible apply State.updThread_kept | extract_lets | dsimp only | split)

theorem State.slotCount_kept {K : Keep} {s0 : State} (s : State) (k : Nat) (r : Nat) (wasted : Bool) (hs : Kept K s0 s) (kirq : K.irq = false := by assumption) (kcyc : K.cyc = false := by assumption) (kmsi : K.msi = false := by assumption) (kshu : K.shu = false := by assumption) : Kept K s0 (State.slotCount s k r wasted) := by
  unfold State.slotCount
  repeat' (first
    | with_reducible assumption | with_reducible apply ite_kept | with_reducible apply ite_fst_kept | with_reducible apply State.perf_kept | split)

theorem State.tagDraw_kept {K : Keep} {s0 : State} (s : State) (k : Nat) (r : Nat) (t : Nat) (u : Uop) (taken : Bool) (hs : Kept K s0 s) (kfresh : K.fresh = false := by assumption) (kirq : K.irq = false := by assumption) (kcyc : K.cyc = false := by assumption) (kmsi : K.msi = false := by assumption) (kshu : K.shu = false := by assumption) (kpmc : K.pmc = false := by assumption) : Kept K s0 (State.tagDraw s k r t u taken) := by
  unfold State.tagDraw
  repeat' (first
    | with_reducible assumption | intro _ | with_reducible apply ite_kept | with_reducible apply ite_fst_kept | with_reducible apply State.draw_kept
    | with_reducible apply State.perf_kept | with_reducible apply State.updCyc_kept | with_reducible apply State.updPmc_kept | extract_lets | dsimp only
    | split)

theorem State.rndReport_kept {K : Keep} {s0 : State} (s : State) (p : Nat) (u : Uop) (hs : Kept K s0 s) (kcyc : K.cyc = false := by assumption) : Kept K s0 (State.rndReport s p u) := by
  unfold State.rndReport
  repeat' (first
    | with_reducible assumption | intro _ | with_reducible apply iter_kept | with_reducible apply ite_kept | with_reducible apply ite_fst_kept
    | with_reducible apply State.report_kept | dsimp only | split)

theorem State.issue_kept {K : Keep} {s0 : State} (s : State) (p : Nat) (t : Nat) (parity : Bool) (hs : Kept K s0 s) (kfresh : K.fresh = false := by assumption) (kagents : K.agents = false := by assumption) (kirq : K.irq = false := by assumption) (kcyc : K.cyc = false := by assumption) (kmsi : K.msi = false := by assumption) (kblks : K.blks = false := by assumption) (khost : K.host = false := by assumption) (kpch : K.pch = false := by assumption) (kslots : K.slots = false := by assumption) (krng : K.rng = false := by assumption) (kshd : K.shd = false := by assumption) (kledger : K.ledger = false := by assumption) (ktmp : K.tmp = false := by assumption) (kdrf : K.drf = false := by assumption) (ktim : K.tim = false := by assumption) (kshu : K.shu = false := by assumption) (kblt : K.blt = false := by assumption) (kcry : K.cry = false := by assumption) (kslv : K.slv = false := by assumption) (kcls : K.cls = false := by assumption) (ktmg : K.tmg = false := by assumption) (khsl : K.hsl = false := by assumption) (kfwd : K.fwd = false := by assumption) (ktrb : K.trb = false := by assumption) (kpmc : K.pmc = false := by assumption) : Kept K s0 (State.issue s p t parity) := by
  unfold State.issue
  repeat' (first
    | with_reducible assumption | intro _ | with_reducible apply ite_kept | with_reducible apply ite_fst_kept | with_reducible apply State.tagDraw_kept
    | with_reducible apply State.slotCount_kept | with_reducible apply State.asides_kept | with_reducible apply State.threadFails_kept
    | with_reducible apply State.aluSlot_kept | with_reducible apply State.queueSlot_kept | with_reducible apply State.memSlot_kept
    | with_reducible apply State.fault_kept | with_reducible apply State.updThread_kept | with_reducible apply State.when_kept
    | with_reducible apply State.p_kept | with_reducible apply State.rndReport_kept | with_reducible apply State.complete_kept | extract_lets
    | dsimp only | split)

theorem State.seqRow_kept {K : Keep} {s0 : State} (s : State) (sh : Fin 256) (t : Fin 8) (parity : Bool) (ok : Nat → Bool) (hs : Kept K s0 s) (kfresh : K.fresh = false := by assumption) (kagents : K.agents = false := by assumption) (kirq : K.irq = false := by assumption) (kcyc : K.cyc = false := by assumption) (kmsi : K.msi = false := by assumption) (kblks : K.blks = false := by assumption) (khost : K.host = false := by assumption) (kpch : K.pch = false := by assumption) (kslots : K.slots = false := by assumption) (krng : K.rng = false := by assumption) (kshd : K.shd = false := by assumption) (kledger : K.ledger = false := by assumption) (ktmp : K.tmp = false := by assumption) (kdrf : K.drf = false := by assumption) (ktim : K.tim = false := by assumption) (kshu : K.shu = false := by assumption) (kblt : K.blt = false := by assumption) (kcry : K.cry = false := by assumption) (kslv : K.slv = false := by assumption) (kcls : K.cls = false := by assumption) (ktmg : K.tmg = false := by assumption) (khsl : K.hsl = false := by assumption) (kfwd : K.fwd = false := by assumption) (ktrb : K.trb = false := by assumption) (kpmc : K.pmc = false := by assumption) : KeptO K s0 (State.seqRow s sh t parity ok) := by
  unfold State.seqRow
  repeat' (first
    | with_reducible assumption | intro _ | with_reducible apply next_kept | with_reducible apply State.when_kept | with_reducible apply State.issue_kept
    | dsimp only)

theorem execSeqNext_kept {K : Keep} {s0 : State} (sh : Fin 256) (t : Fin 8) (parity : Bool) (s : State) (hs : Kept K s0 s) (kfresh : K.fresh = false := by assumption) (kagents : K.agents = false := by assumption) (kirq : K.irq = false := by assumption) (kcyc : K.cyc = false := by assumption) (kmsi : K.msi = false := by assumption) (kblks : K.blks = false := by assumption) (khost : K.host = false := by assumption) (kpch : K.pch = false := by assumption) (kslots : K.slots = false := by assumption) (krng : K.rng = false := by assumption) (kshd : K.shd = false := by assumption) (kledger : K.ledger = false := by assumption) (ktmp : K.tmp = false := by assumption) (kdrf : K.drf = false := by assumption) (ktim : K.tim = false := by assumption) (kshu : K.shu = false := by assumption) (kblt : K.blt = false := by assumption) (kcry : K.cry = false := by assumption) (kslv : K.slv = false := by assumption) (kcls : K.cls = false := by assumption) (ktmg : K.tmg = false := by assumption) (khsl : K.hsl = false := by assumption) (kfwd : K.fwd = false := by assumption) (ktrb : K.trb = false := by assumption) (kpmc : K.pmc = false := by assumption) : KeptO K s0 (execSeqNext sh t parity s) := by
  unfold execSeqNext
  repeat' (first
    | with_reducible assumption | with_reducible apply next_kept | with_reducible apply State.seqRow_kept)

theorem execSeqJmp_kept {K : Keep} {s0 : State} (sh : Fin 256) (t : Fin 8) (parity : Bool) (s : State) (hs : Kept K s0 s) (kfresh : K.fresh = false := by assumption) (kagents : K.agents = false := by assumption) (kirq : K.irq = false := by assumption) (kcyc : K.cyc = false := by assumption) (kmsi : K.msi = false := by assumption) (kblks : K.blks = false := by assumption) (khost : K.host = false := by assumption) (kpch : K.pch = false := by assumption) (kslots : K.slots = false := by assumption) (krng : K.rng = false := by assumption) (kshd : K.shd = false := by assumption) (kledger : K.ledger = false := by assumption) (ktmp : K.tmp = false := by assumption) (kdrf : K.drf = false := by assumption) (ktim : K.tim = false := by assumption) (kshu : K.shu = false := by assumption) (kblt : K.blt = false := by assumption) (kcry : K.cry = false := by assumption) (kslv : K.slv = false := by assumption) (kcls : K.cls = false := by assumption) (ktmg : K.tmg = false := by assumption) (khsl : K.hsl = false := by assumption) (kfwd : K.fwd = false := by assumption) (ktrb : K.trb = false := by assumption) (kpmc : K.pmc = false := by assumption) : KeptO K s0 (execSeqJmp sh t parity s) := by
  unfold execSeqJmp
  repeat' (first
    | with_reducible assumption | with_reducible apply next_kept | with_reducible apply State.seqRow_kept)

theorem execSeqCall_kept {K : Keep} {s0 : State} (sh : Fin 256) (t : Fin 8) (parity : Bool) (s : State) (hs : Kept K s0 s) (kfresh : K.fresh = false := by assumption) (kagents : K.agents = false := by assumption) (kirq : K.irq = false := by assumption) (kcyc : K.cyc = false := by assumption) (kmsi : K.msi = false := by assumption) (kblks : K.blks = false := by assumption) (khost : K.host = false := by assumption) (kpch : K.pch = false := by assumption) (kslots : K.slots = false := by assumption) (krng : K.rng = false := by assumption) (kshd : K.shd = false := by assumption) (kledger : K.ledger = false := by assumption) (ktmp : K.tmp = false := by assumption) (kdrf : K.drf = false := by assumption) (ktim : K.tim = false := by assumption) (kshu : K.shu = false := by assumption) (kblt : K.blt = false := by assumption) (kcry : K.cry = false := by assumption) (kslv : K.slv = false := by assumption) (kcls : K.cls = false := by assumption) (ktmg : K.tmg = false := by assumption) (khsl : K.hsl = false := by assumption) (kfwd : K.fwd = false := by assumption) (ktrb : K.trb = false := by assumption) (kpmc : K.pmc = false := by assumption) : KeptO K s0 (execSeqCall sh t parity s) := by
  unfold execSeqCall
  repeat' (first
    | with_reducible assumption | with_reducible apply next_kept | with_reducible apply State.seqRow_kept)

theorem execSeqRet_kept {K : Keep} {s0 : State} (sh : Fin 256) (t : Fin 8) (parity : Bool) (s : State) (hs : Kept K s0 s) (kfresh : K.fresh = false := by assumption) (kagents : K.agents = false := by assumption) (kirq : K.irq = false := by assumption) (kcyc : K.cyc = false := by assumption) (kmsi : K.msi = false := by assumption) (kblks : K.blks = false := by assumption) (khost : K.host = false := by assumption) (kpch : K.pch = false := by assumption) (kslots : K.slots = false := by assumption) (krng : K.rng = false := by assumption) (kshd : K.shd = false := by assumption) (kledger : K.ledger = false := by assumption) (ktmp : K.tmp = false := by assumption) (kdrf : K.drf = false := by assumption) (ktim : K.tim = false := by assumption) (kshu : K.shu = false := by assumption) (kblt : K.blt = false := by assumption) (kcry : K.cry = false := by assumption) (kslv : K.slv = false := by assumption) (kcls : K.cls = false := by assumption) (ktmg : K.tmg = false := by assumption) (khsl : K.hsl = false := by assumption) (kfwd : K.fwd = false := by assumption) (ktrb : K.trb = false := by assumption) (kpmc : K.pmc = false := by assumption) : KeptO K s0 (execSeqRet sh t parity s) := by
  unfold execSeqRet
  repeat' (first
    | with_reducible assumption | with_reducible apply next_kept | with_reducible apply State.seqRow_kept)

theorem execSeqLoop_kept {K : Keep} {s0 : State} (sh : Fin 256) (t : Fin 8) (parity : Bool) (s : State) (hs : Kept K s0 s) (kfresh : K.fresh = false := by assumption) (kagents : K.agents = false := by assumption) (kirq : K.irq = false := by assumption) (kcyc : K.cyc = false := by assumption) (kmsi : K.msi = false := by assumption) (kblks : K.blks = false := by assumption) (khost : K.host = false := by assumption) (kpch : K.pch = false := by assumption) (kslots : K.slots = false := by assumption) (krng : K.rng = false := by assumption) (kshd : K.shd = false := by assumption) (kledger : K.ledger = false := by assumption) (ktmp : K.tmp = false := by assumption) (kdrf : K.drf = false := by assumption) (ktim : K.tim = false := by assumption) (kshu : K.shu = false := by assumption) (kblt : K.blt = false := by assumption) (kcry : K.cry = false := by assumption) (kslv : K.slv = false := by assumption) (kcls : K.cls = false := by assumption) (ktmg : K.tmg = false := by assumption) (khsl : K.hsl = false := by assumption) (kfwd : K.fwd = false := by assumption) (ktrb : K.trb = false := by assumption) (kpmc : K.pmc = false := by assumption) : KeptO K s0 (execSeqLoop sh t parity s) := by
  unfold execSeqLoop
  repeat' (first
    | with_reducible assumption | with_reducible apply next_kept | with_reducible apply State.seqRow_kept)

theorem execSeqLdloop_kept {K : Keep} {s0 : State} (sh : Fin 256) (t : Fin 8) (parity : Bool) (s : State) (hs : Kept K s0 s) (kfresh : K.fresh = false := by assumption) (kagents : K.agents = false := by assumption) (kirq : K.irq = false := by assumption) (kcyc : K.cyc = false := by assumption) (kmsi : K.msi = false := by assumption) (kblks : K.blks = false := by assumption) (khost : K.host = false := by assumption) (kpch : K.pch = false := by assumption) (kslots : K.slots = false := by assumption) (krng : K.rng = false := by assumption) (kshd : K.shd = false := by assumption) (kledger : K.ledger = false := by assumption) (ktmp : K.tmp = false := by assumption) (kdrf : K.drf = false := by assumption) (ktim : K.tim = false := by assumption) (kshu : K.shu = false := by assumption) (kblt : K.blt = false := by assumption) (kcry : K.cry = false := by assumption) (kslv : K.slv = false := by assumption) (kcls : K.cls = false := by assumption) (ktmg : K.tmg = false := by assumption) (khsl : K.hsl = false := by assumption) (kfwd : K.fwd = false := by assumption) (ktrb : K.trb = false := by assumption) (kpmc : K.pmc = false := by assumption) : KeptO K s0 (execSeqLdloop sh t parity s) := by
  unfold execSeqLdloop
  repeat' (first
    | with_reducible assumption | with_reducible apply next_kept | with_reducible apply State.seqRow_kept)

theorem execSeqYield_kept {K : Keep} {s0 : State} (sh : Fin 256) (t : Fin 8) (parity : Bool) (s : State) (hs : Kept K s0 s) (kfresh : K.fresh = false := by assumption) (kagents : K.agents = false := by assumption) (kirq : K.irq = false := by assumption) (kcyc : K.cyc = false := by assumption) (kmsi : K.msi = false := by assumption) (kblks : K.blks = false := by assumption) (khost : K.host = false := by assumption) (kpch : K.pch = false := by assumption) (kslots : K.slots = false := by assumption) (krng : K.rng = false := by assumption) (kshd : K.shd = false := by assumption) (kledger : K.ledger = false := by assumption) (ktmp : K.tmp = false := by assumption) (kdrf : K.drf = false := by assumption) (ktim : K.tim = false := by assumption) (kshu : K.shu = false := by assumption) (kblt : K.blt = false := by assumption) (kcry : K.cry = false := by assumption) (kslv : K.slv = false := by assumption) (kcls : K.cls = false := by assumption) (ktmg : K.tmg = false := by assumption) (khsl : K.hsl = false := by assumption) (kfwd : K.fwd = false := by assumption) (ktrb : K.trb = false := by assumption) (kpmc : K.pmc = false := by assumption) : KeptO K s0 (execSeqYield sh t parity s) := by
  unfold execSeqYield
  repeat' (first
    | with_reducible assumption | with_reducible apply next_kept | with_reducible apply State.seqRow_kept)

theorem execSeqDisp_kept {K : Keep} {s0 : State} (sh : Fin 256) (t : Fin 8) (parity : Bool) (s : State) (hs : Kept K s0 s) (kfresh : K.fresh = false := by assumption) (kagents : K.agents = false := by assumption) (kirq : K.irq = false := by assumption) (kcyc : K.cyc = false := by assumption) (kmsi : K.msi = false := by assumption) (kblks : K.blks = false := by assumption) (khost : K.host = false := by assumption) (kpch : K.pch = false := by assumption) (kslots : K.slots = false := by assumption) (krng : K.rng = false := by assumption) (kshd : K.shd = false := by assumption) (kledger : K.ledger = false := by assumption) (ktmp : K.tmp = false := by assumption) (kdrf : K.drf = false := by assumption) (ktim : K.tim = false := by assumption) (kshu : K.shu = false := by assumption) (kblt : K.blt = false := by assumption) (kcry : K.cry = false := by assumption) (kslv : K.slv = false := by assumption) (kcls : K.cls = false := by assumption) (ktmg : K.tmg = false := by assumption) (khsl : K.hsl = false := by assumption) (kfwd : K.fwd = false := by assumption) (ktrb : K.trb = false := by assumption) (kpmc : K.pmc = false := by assumption) : KeptO K s0 (execSeqDisp sh t parity s) := by
  unfold execSeqDisp
  repeat' (first
    | with_reducible assumption | with_reducible apply next_kept | with_reducible apply State.seqRow_kept)

theorem execSeqDone_kept {K : Keep} {s0 : State} (sh : Fin 256) (t : Fin 8) (parity : Bool) (s : State) (hs : Kept K s0 s) (kfresh : K.fresh = false := by assumption) (kagents : K.agents = false := by assumption) (kirq : K.irq = false := by assumption) (kcyc : K.cyc = false := by assumption) (kmsi : K.msi = false := by assumption) (kblks : K.blks = false := by assumption) (khost : K.host = false := by assumption) (kpch : K.pch = false := by assumption) (kslots : K.slots = false := by assumption) (krng : K.rng = false := by assumption) (kshd : K.shd = false := by assumption) (kledger : K.ledger = false := by assumption) (ktmp : K.tmp = false := by assumption) (kdrf : K.drf = false := by assumption) (ktim : K.tim = false := by assumption) (kshu : K.shu = false := by assumption) (kblt : K.blt = false := by assumption) (kcry : K.cry = false := by assumption) (kslv : K.slv = false := by assumption) (kcls : K.cls = false := by assumption) (ktmg : K.tmg = false := by assumption) (khsl : K.hsl = false := by assumption) (kfwd : K.fwd = false := by assumption) (ktrb : K.trb = false := by assumption) (kpmc : K.pmc = false := by assumption) : KeptO K s0 (execSeqDone sh t parity s) := by
  unfold execSeqDone
  repeat' (first
    | with_reducible assumption | with_reducible apply next_kept | with_reducible apply State.seqRow_kept)

theorem execSeqFault_kept {K : Keep} {s0 : State} (sh : Fin 256) (t : Fin 8) (parity : Bool) (s : State) (hs : Kept K s0 s) (kfresh : K.fresh = false := by assumption) (kagents : K.agents = false := by assumption) (kirq : K.irq = false := by assumption) (kcyc : K.cyc = false := by assumption) (kmsi : K.msi = false := by assumption) (kblks : K.blks = false := by assumption) (khost : K.host = false := by assumption) (kpch : K.pch = false := by assumption) (kslots : K.slots = false := by assumption) (krng : K.rng = false := by assumption) (kshd : K.shd = false := by assumption) (kledger : K.ledger = false := by assumption) (ktmp : K.tmp = false := by assumption) (kdrf : K.drf = false := by assumption) (ktim : K.tim = false := by assumption) (kshu : K.shu = false := by assumption) (kblt : K.blt = false := by assumption) (kcry : K.cry = false := by assumption) (kslv : K.slv = false := by assumption) (kcls : K.cls = false := by assumption) (ktmg : K.tmg = false := by assumption) (khsl : K.hsl = false := by assumption) (kfwd : K.fwd = false := by assumption) (ktrb : K.trb = false := by assumption) (kpmc : K.pmc = false := by assumption) : KeptO K s0 (execSeqFault sh t parity s) := by
  unfold execSeqFault
  repeat' (first
    | with_reducible assumption | intro _ | with_reducible apply next_kept | with_reducible apply State.seqRow_kept | dsimp only)

theorem execSeqJmpr_kept {K : Keep} {s0 : State} (sh : Fin 256) (t : Fin 8) (parity : Bool) (s : State) (hs : Kept K s0 s) (kfresh : K.fresh = false := by assumption) (kagents : K.agents = false := by assumption) (kirq : K.irq = false := by assumption) (kcyc : K.cyc = false := by assumption) (kmsi : K.msi = false := by assumption) (kblks : K.blks = false := by assumption) (khost : K.host = false := by assumption) (kpch : K.pch = false := by assumption) (kslots : K.slots = false := by assumption) (krng : K.rng = false := by assumption) (kshd : K.shd = false := by assumption) (kledger : K.ledger = false := by assumption) (ktmp : K.tmp = false := by assumption) (kdrf : K.drf = false := by assumption) (ktim : K.tim = false := by assumption) (kshu : K.shu = false := by assumption) (kblt : K.blt = false := by assumption) (kcry : K.cry = false := by assumption) (kslv : K.slv = false := by assumption) (kcls : K.cls = false := by assumption) (ktmg : K.tmg = false := by assumption) (khsl : K.hsl = false := by assumption) (kfwd : K.fwd = false := by assumption) (ktrb : K.trb = false := by assumption) (kpmc : K.pmc = false := by assumption) : KeptO K s0 (execSeqJmpr sh t parity s) := by
  unfold execSeqJmpr
  repeat' (first
    | with_reducible assumption | with_reducible apply next_kept | with_reducible apply State.seqRow_kept)

theorem execSeqWait_kept {K : Keep} {s0 : State} (sh : Fin 256) (t : Fin 8) (parity : Bool) (s : State) (hs : Kept K s0 s) (kfresh : K.fresh = false := by assumption) (kagents : K.agents = false := by assumption) (kirq : K.irq = false := by assumption) (kcyc : K.cyc = false := by assumption) (kmsi : K.msi = false := by assumption) (kblks : K.blks = false := by assumption) (khost : K.host = false := by assumption) (kpch : K.pch = false := by assumption) (kslots : K.slots = false := by assumption) (krng : K.rng = false := by assumption) (kshd : K.shd = false := by assumption) (kledger : K.ledger = false := by assumption) (ktmp : K.tmp = false := by assumption) (kdrf : K.drf = false := by assumption) (ktim : K.tim = false := by assumption) (kshu : K.shu = false := by assumption) (kblt : K.blt = false := by assumption) (kcry : K.cry = false := by assumption) (kslv : K.slv = false := by assumption) (kcls : K.cls = false := by assumption) (ktmg : K.tmg = false := by assumption) (khsl : K.hsl = false := by assumption) (kfwd : K.fwd = false := by assumption) (ktrb : K.trb = false := by assumption) (kpmc : K.pmc = false := by assumption) : KeptO K s0 (execSeqWait sh t parity s) := by
  unfold execSeqWait
  repeat' (first
    | with_reducible assumption | intro _ | with_reducible apply next_kept | with_reducible apply ite_kept | with_reducible apply ite_fst_kept
    | with_reducible apply State.issue_kept | with_reducible apply State.when_kept | with_reducible apply State.updThread_kept | extract_lets
    | dsimp only | split)

theorem execWaitSatisfied_kept {K : Keep} {s0 : State} (sh : Fin 256) (t : Fin 8) (parity : Bool) (s : State) (hs : Kept K s0 s) (kfresh : K.fresh = false := by assumption) (kagents : K.agents = false := by assumption) (kirq : K.irq = false := by assumption) (kcyc : K.cyc = false := by assumption) (kmsi : K.msi = false := by assumption) (kblks : K.blks = false := by assumption) (khost : K.host = false := by assumption) (kpch : K.pch = false := by assumption) (kslots : K.slots = false := by assumption) (krng : K.rng = false := by assumption) (kshd : K.shd = false := by assumption) (kledger : K.ledger = false := by assumption) (ktmp : K.tmp = false := by assumption) (kdrf : K.drf = false := by assumption) (ktim : K.tim = false := by assumption) (kshu : K.shu = false := by assumption) (kblt : K.blt = false := by assumption) (kcry : K.cry = false := by assumption) (kslv : K.slv = false := by assumption) (kcls : K.cls = false := by assumption) (ktmg : K.tmg = false := by assumption) (khsl : K.hsl = false := by assumption) (kfwd : K.fwd = false := by assumption) (ktrb : K.trb = false := by assumption) (kpmc : K.pmc = false := by assumption) : KeptO K s0 (execWaitSatisfied sh t parity s) := by
  unfold execWaitSatisfied
  repeat' (first
    | with_reducible assumption | intro _ | with_reducible apply next_kept | with_reducible apply State.when_kept | with_reducible apply State.issue_kept
    | dsimp only)

theorem State.memComplete_kept {K : Keep} {s0 : State} (s : State) (p : Nat) (t : Nat) (src : Nat) (res : Nat) (hs : Kept K s0 s) (kirq : K.irq = false := by assumption) (kcyc : K.cyc = false := by assumption) (kmsi : K.msi = false := by assumption) (kpch : K.pch = false := by assumption) (kshd : K.shd = false := by assumption) (kshu : K.shu = false := by assumption) (kpmc : K.pmc = false := by assumption) : Kept K s0 (State.memComplete s p t src res) := by
  unfold State.memComplete
  repeat' (first
    | with_reducible assumption | intro _ | with_reducible apply ite_kept | with_reducible apply ite_fst_kept
    | with_reducible apply State.threadFails_kept | with_reducible apply State.when_kept | with_reducible apply State.inc_kept
    | with_reducible apply State.updThread_kept | extract_lets | dsimp only | split | dsimp +zetaDelta only)

theorem execMemOpComplete_kept {K : Keep} {s0 : State} (sh : Fin 256) (t : Fin 8) (m : MemDone) (s : State) (hs : Kept K s0 s) (kirq : K.irq = false := by assumption) (kcyc : K.cyc = false := by assumption) (kmsi : K.msi = false := by assumption) (kpch : K.pch = false := by assumption) (kshd : K.shd = false := by assumption) (kshu : K.shu = false := by assumption) (kpmc : K.pmc = false := by assumption) : KeptO K s0 (execMemOpComplete sh t m s) := by
  unfold execMemOpComplete
  repeat' (first
    | with_reducible assumption | with_reducible apply next_kept | with_reducible apply State.memComplete_kept | dsimp only)

theorem execThreadWatchdog_kept {K : Keep} {s0 : State} (sh : Fin 256) (t : Fin 8) (s : State) (hs : Kept K s0 s) (kirq : K.irq = false := by assumption) (kcyc : K.cyc = false := by assumption) (kmsi : K.msi = false := by assumption) (kpch : K.pch = false := by assumption) (kshd : K.shd = false := by assumption) (kshu : K.shu = false := by assumption) (kpmc : K.pmc = false := by assumption) : KeptO K s0 (execThreadWatchdog sh t s) := by
  unfold execThreadWatchdog
  repeat' (first
    | with_reducible assumption | intro _ | with_reducible apply next_kept | with_reducible apply State.when_kept
    | with_reducible apply State.threadFails_kept | dsimp only)

theorem execThreadTimerExpiry_kept {K : Keep} {s0 : State} (sh : Fin 256) (t : Fin 8) (s : State) (hs : Kept K s0 s) (kshu : K.shu = false := by assumption) : KeptO K s0 (execThreadTimerExpiry sh t s) := by
  unfold execThreadTimerExpiry
  repeat' (first
    | with_reducible assumption | intro _ | with_reducible apply next_kept | with_reducible apply State.when_kept
    | with_reducible apply State.updThread_kept | dsimp only)

end Sys2Proof.Machine
end

