-- ==== Sys2Proof/Laws/Kept/Frame.lean ====
section
/-! SUPPORT. What the operations and meanings of Machine/Frame.lean keep: the queue, the clock, the canonical forms, and every
component of the state that they have no business with. -/
namespace Sys2Proof.Machine

set_option linter.all false

theorem State.psyncLatch_kept {K : Keep} {s0 : State} (s : State) (c : Nat) (n : Nat) (hs : Kept K s0 s) (kpch : K.pch = false := by assumption) : Kept K s0 (State.psyncLatch s c n) := by
  unfold State.psyncLatch
  repeat' (first
    | with_reducible assumption | intro _ | with_reducible apply State.wr64_kept | with_reducible apply State.wr_kept
    | with_reducible apply State.updPch_kept | extract_lets | dsimp only)

theorem execFirstPsync_kept {K : Keep} {s0 : State} (c : Fin 64) (s : State) (hs : Kept K s0 s) (kirq : K.irq = false := by assumption) (kcyc : K.cyc = false := by assumption) (kmsi : K.msi = false := by assumption) (kpch : K.pch = false := by assumption) (kshu : K.shu = false := by assumption) (kcry : K.cry = false := by assumption) : KeptO K s0 (execFirstPsync c s) := by
  unfold execFirstPsync
  repeat' (first
    | with_reducible assumption | intro _ | with_reducible apply next_kept | with_reducible apply State.when_kept | with_reducible apply State.p_kept
    | with_reducible apply State.wr_kept | with_reducible apply State.todDrop_kept | with_reducible apply State.psyncLatch_kept
    | with_reducible apply State.updPch_kept | with_reducible apply State.nonceGuard_kept | with_reducible apply State.boundary_kept | extract_lets
    | dsimp only | split | dsimp +zetaDelta only)

theorem State.placeX_kept {K : Keep} {s0 : State} (s : State) (c : Nat) (q : Carry) (hs : Kept K s0 s) (kirq : K.irq = false := by assumption) (kcyc : K.cyc = false := by assumption) (kmsi : K.msi = false := by assumption) (kpch : K.pch = false := by assumption) (kshu : K.shu = false := by assumption) (kcry : K.cry = false := by assumption) : Kept K s0 (State.placeX s c q) := by
  unfold State.placeX
  repeat' (first
    | with_reducible assumption | intro _ | with_reducible apply ite_kept | with_reducible apply ite_fst_kept | with_reducible apply State.updPch_kept
    | with_reducible apply State.when_kept | with_reducible apply State.sealUse_kept | with_reducible apply State.bwAdd_kept | extract_lets | dsimp only
    | split)

theorem State.utOpens_kept {K : Keep} {s0 : State} (s : State) (c : Nat) (n : Nat) (hs : Kept K s0 s) : Kept K s0 (State.utOpens s c n) := by
  unfold State.utOpens
  repeat' (first
    | with_reducible assumption | intro _ | with_reducible apply State.when_kept | with_reducible apply State.inc_kept
    | with_reducible apply State.p_kept | dsimp only)

theorem execPsync_kept {K : Keep} {s0 : State} (c : Fin 64) (parityFail : Bool) (s : State) (hs : Kept K s0 s) (kirq : K.irq = false := by assumption) (kcyc : K.cyc = false := by assumption) (kmsi : K.msi = false := by assumption) (kpch : K.pch = false := by assumption) (kshu : K.shu = false := by assumption) (kcry : K.cry = false := by assumption) (ktmg : K.tmg = false := by assumption) (khsl : K.hsl = false := by assumption) (ktrb : K.trb = false := by assumption) : KeptO K s0 (execPsync c parityFail s) := by
  unfold execPsync
  repeat' (first
    | with_reducible assumption | intro _ | with_reducible apply next_kept | with_reducible apply ite_kept | with_reducible apply ite_fst_kept
    | with_reducible apply State.when_kept | with_reducible apply State.psyncLatch_kept | with_reducible apply State.updPch_kept
    | with_reducible apply State.wr_kept | with_reducible apply State.p_kept | with_reducible apply State.ev_kept
    | with_reducible apply State.todDrop_kept | with_reducible apply State.txfError_kept | with_reducible apply State.placeX_kept
    | with_reducible apply State.utOpens_kept | with_reducible apply State.boundary_kept | with_reducible apply State.containerEnqueue_kept
    | extract_lets | dsimp only | split | dsimp +zetaDelta only)

theorem State.idleUp_kept {K : Keep} {s0 : State} (s : State) (c : Nat) (hs : Kept K s0 s) (kpch : K.pch = false := by assumption) : Kept K s0 (State.idleUp s c) := by
  unfold State.idleUp
  repeat' (first
    | with_reducible assumption | intro _ | with_reducible apply State.updPch_kept | dsimp only)

theorem execXgemDraw_kept {K : Keep} {s0 : State} (c : Fin 64) (checkOk : Bool) (s : State) (hs : Kept K s0 s) (kfresh : K.fresh = false := by assumption) (kirq : K.irq = false := by assumption) (kcyc : K.cyc = false := by assumption) (kmsi : K.msi = false := by assumption) (kpch : K.pch = false := by assumption) (kshu : K.shu = false := by assumption) (kcry : K.cry = false := by assumption) (ktmg : K.tmg = false := by assumption) : KeptO K s0 (execXgemDraw c checkOk s) := by
  unfold execXgemDraw
  repeat' (first
    | with_reducible assumption | intro _ | with_reducible apply next_kept | with_reducible apply ite_kept | with_reducible apply ite_fst_kept
    | with_reducible apply State.when_kept | with_reducible apply State.idleUp_kept | with_reducible apply State.pickChannel_kept
    | with_reducible apply State.departQueue_kept | with_reducible apply State.drawNat_kept | with_reducible apply State.placeX_kept
    | with_reducible apply State.bwAdd_kept | with_reducible apply State.updPch_kept | with_reducible apply State.inc_kept
    | with_reducible apply State.ev_kept | with_reducible apply State.txfError_kept | extract_lets | dsimp only | split | dsimp +zetaDelta only)

end Sys2Proof.Machine
end

