-- ==== Sys2Proof/Laws/Kept/Host.lean ====
section
/-! SUPPORT. What the operations and meanings of Machine/Host.lean keep: the queue, the clock, the canonical forms, and every
component of the state that they have no business with. -/
namespace Sys2Proof.Machine

set_option linter.all false

theorem State.hostWrite_kept {K : Keep} {s0 : State} (s : State) (ag : Agent) (off : Nat) (be : Nat) (v : Word) (row : String) (hs : Kept K s0 s) (kfresh : K.fresh = false := by assumption) (kagents : K.agents = false := by assumption) (kirq : K.irq = false := by assumption) (kcyc : K.cyc = false := by assumption) (kmsi : K.msi = false := by assumption) (kblks : K.blks = false := by assumption) (khost : K.host = false := by assumption) (kpch : K.pch = false := by assumption) (kslots : K.slots = false := by assumption) (krng : K.rng = false := by assumption) (kshd : K.shd = false := by assumption) (kledger : K.ledger = false := by assumption) (ktmp : K.tmp = false := by assumption) (kdrf : K.drf = false := by assumption) (ktim : K.tim = false := by assumption) (kshu : K.shu = false := by assumption) (kblt : K.blt = false := by assumption) (kcry : K.cry = false := by assumption) (kslv : K.slv = false := by assumption) (kcls : K.cls = false := by assumption) (ktmg : K.tmg = false := by assumption) (khsl : K.hsl = false := by assumption) (kfwd : K.fwd = false := by assumption) (ktrb : K.trb = false := by assumption) (kpmc : K.pmc = false := by assumption) : KeptO K s0 (State.hostWrite s ag off be v row) := by
  unfold State.hostWrite
  repeat' (first
    | with_reducible assumption | with_reducible apply next_kept | with_reducible apply ite_kept | with_reducible apply ite_fst_kept
    | with_reducible apply State.write_kept | split | exact refused_kept _ _ _)

theorem execRegisterWrite_kept {K : Keep} {s0 : State} (ag : Agent) (off : Nat) (be : Fin 16) (v : Word) (s : State) (hs : Kept K s0 s) (kfresh : K.fresh = false := by assumption) (kagents : K.agents = false := by assumption) (kirq : K.irq = false := by assumption) (kcyc : K.cyc = false := by assumption) (kmsi : K.msi = false := by assumption) (kblks : K.blks = false := by assumption) (khost : K.host = false := by assumption) (kpch : K.pch = false := by assumption) (kslots : K.slots = false := by assumption) (krng : K.rng = false := by assumption) (kshd : K.shd = false := by assumption) (kledger : K.ledger = false := by assumption) (ktmp : K.tmp = false := by assumption) (kdrf : K.drf = false := by assumption) (ktim : K.tim = false := by assumption) (kshu : K.shu = false := by assumption) (kblt : K.blt = false := by assumption) (kcry : K.cry = false := by assumption) (kslv : K.slv = false := by assumption) (kcls : K.cls = false := by assumption) (ktmg : K.tmg = false := by assumption) (khsl : K.hsl = false := by assumption) (kfwd : K.fwd = false := by assumption) (ktrb : K.trb = false := by assumption) (kpmc : K.pmc = false := by assumption) : KeptO K s0 (execRegisterWrite ag off be v s) := by
  unfold execRegisterWrite
  repeat' (first
    | with_reducible assumption | with_reducible apply next_kept | with_reducible apply State.hostWrite_kept)

theorem execWriteHiHold_kept {K : Keep} {s0 : State} (ag : Agent) (off : Nat) (be : Fin 16) (v : Word) (s : State) (hs : Kept K s0 s) (kfresh : K.fresh = false := by assumption) (kagents : K.agents = false := by assumption) (kirq : K.irq = false := by assumption) (kcyc : K.cyc = false := by assumption) (kmsi : K.msi = false := by assumption) (kblks : K.blks = false := by assumption) (khost : K.host = false := by assumption) (kpch : K.pch = false := by assumption) (kslots : K.slots = false := by assumption) (krng : K.rng = false := by assumption) (kshd : K.shd = false := by assumption) (kledger : K.ledger = false := by assumption) (ktmp : K.tmp = false := by assumption) (kdrf : K.drf = false := by assumption) (ktim : K.tim = false := by assumption) (kshu : K.shu = false := by assumption) (kblt : K.blt = false := by assumption) (kcry : K.cry = false := by assumption) (kslv : K.slv = false := by assumption) (kcls : K.cls = false := by assumption) (ktmg : K.tmg = false := by assumption) (khsl : K.hsl = false := by assumption) (kfwd : K.fwd = false := by assumption) (ktrb : K.trb = false := by assumption) (kpmc : K.pmc = false := by assumption) : KeptO K s0 (execWriteHiHold ag off be v s) := by
  unfold execWriteHiHold
  repeat' (first
    | with_reducible assumption | with_reducible apply next_kept | with_reducible apply State.hostWrite_kept)

theorem execWriteLoPair_kept {K : Keep} {s0 : State} (ag : Agent) (off : Nat) (be : Fin 16) (v : Word) (s : State) (hs : Kept K s0 s) (kfresh : K.fresh = false := by assumption) (kagents : K.agents = false := by assumption) (kirq : K.irq = false := by assumption) (kcyc : K.cyc = false := by assumption) (kmsi : K.msi = false := by assumption) (kblks : K.blks = false := by assumption) (khost : K.host = false := by assumption) (kpch : K.pch = false := by assumption) (kslots : K.slots = false := by assumption) (krng : K.rng = false := by assumption) (kshd : K.shd = false := by assumption) (kledger : K.ledger = false := by assumption) (ktmp : K.tmp = false := by assumption) (kdrf : K.drf = false := by assumption) (ktim : K.tim = false := by assumption) (kshu : K.shu = false := by assumption) (kblt : K.blt = false := by assumption) (kcry : K.cry = false := by assumption) (kslv : K.slv = false := by assumption) (kcls : K.cls = false := by assumption) (ktmg : K.tmg = false := by assumption) (khsl : K.hsl = false := by assumption) (kfwd : K.fwd = false := by assumption) (ktrb : K.trb = false := by assumption) (kpmc : K.pmc = false := by assumption) : KeptO K s0 (execWriteLoPair ag off be v s) := by
  unfold execWriteLoPair
  repeat' (first
    | with_reducible assumption | with_reducible apply next_kept | with_reducible apply State.hostWrite_kept)

theorem execSqcWriteClear_kept {K : Keep} {s0 : State} (ag : Agent) (off : Nat) (be : Fin 16) (v : Word) (s : State) (hs : Kept K s0 s) (kfresh : K.fresh = false := by assumption) (kagents : K.agents = false := by assumption) (kirq : K.irq = false := by assumption) (kcyc : K.cyc = false := by assumption) (kmsi : K.msi = false := by assumption) (kblks : K.blks = false := by assumption) (khost : K.host = false := by assumption) (kpch : K.pch = false := by assumption) (kslots : K.slots = false := by assumption) (krng : K.rng = false := by assumption) (kshd : K.shd = false := by assumption) (kledger : K.ledger = false := by assumption) (ktmp : K.tmp = false := by assumption) (kdrf : K.drf = false := by assumption) (ktim : K.tim = false := by assumption) (kshu : K.shu = false := by assumption) (kblt : K.blt = false := by assumption) (kcry : K.cry = false := by assumption) (kslv : K.slv = false := by assumption) (kcls : K.cls = false := by assumption) (ktmg : K.tmg = false := by assumption) (khsl : K.hsl = false := by assumption) (kfwd : K.fwd = false := by assumption) (ktrb : K.trb = false := by assumption) (kpmc : K.pmc = false := by assumption) : KeptO K s0 (execSqcWriteClear ag off be v s) := by
  unfold execSqcWriteClear
  repeat' (first
    | with_reducible assumption | with_reducible apply next_kept | with_reducible apply State.hostWrite_kept)

theorem execHmwWrite_kept {K : Keep} {s0 : State} (ag : Agent) (off : Nat) (be : Fin 16) (v : Word) (s : State) (hs : Kept K s0 s) (kfresh : K.fresh = false := by assumption) (kagents : K.agents = false := by assumption) (kirq : K.irq = false := by assumption) (kcyc : K.cyc = false := by assumption) (kmsi : K.msi = false := by assumption) (kblks : K.blks = false := by assumption) (khost : K.host = false := by assumption) (kpch : K.pch = false := by assumption) (kslots : K.slots = false := by assumption) (krng : K.rng = false := by assumption) (kshd : K.shd = false := by assumption) (kledger : K.ledger = false := by assumption) (ktmp : K.tmp = false := by assumption) (kdrf : K.drf = false := by assumption) (ktim : K.tim = false := by assumption) (kshu : K.shu = false := by assumption) (kblt : K.blt = false := by assumption) (kcry : K.cry = false := by assumption) (kslv : K.slv = false := by assumption) (kcls : K.cls = false := by assumption) (ktmg : K.tmg = false := by assumption) (khsl : K.hsl = false := by assumption) (kfwd : K.fwd = false := by assumption) (ktrb : K.trb = false := by assumption) (kpmc : K.pmc = false := by assumption) : KeptO K s0 (execHmwWrite ag off be v s) := by
  unfold execHmwWrite
  repeat' (first
    | with_reducible assumption | with_reducible apply next_kept | with_reducible apply State.hostWrite_kept)

theorem execIntEnWrite_kept {K : Keep} {s0 : State} (ag : Agent) (off : Nat) (be : Fin 16) (v : Word) (s : State) (hs : Kept K s0 s) (kfresh : K.fresh = false := by assumption) (kagents : K.agents = false := by assumption) (kirq : K.irq = false := by assumption) (kcyc : K.cyc = false := by assumption) (kmsi : K.msi = false := by assumption) (kblks : K.blks = false := by assumption) (khost : K.host = false := by assumption) (kpch : K.pch = false := by assumption) (kslots : K.slots = false := by assumption) (krng : K.rng = false := by assumption) (kshd : K.shd = false := by assumption) (kledger : K.ledger = false := by assumption) (ktmp : K.tmp = false := by assumption) (kdrf : K.drf = false := by assumption) (ktim : K.tim = false := by assumption) (kshu : K.shu = false := by assumption) (kblt : K.blt = false := by assumption) (kcry : K.cry = false := by assumption) (kslv : K.slv = false := by assumption) (kcls : K.cls = false := by assumption) (ktmg : K.tmg = false := by assumption) (khsl : K.hsl = false := by assumption) (kfwd : K.fwd = false := by assumption) (ktrb : K.trb = false := by assumption) (kpmc : K.pmc = false := by assumption) : KeptO K s0 (execIntEnWrite ag off be v s) := by
  unfold execIntEnWrite
  repeat' (first
    | with_reducible assumption | with_reducible apply next_kept | with_reducible apply State.hostWrite_kept)

theorem execReadLoSnapshot_kept {K : Keep} {s0 : State} (ag : Agent) (off : Nat) (s : State) (hs : Kept K s0 s) (kfresh : K.fresh = false := by assumption) (kagents : K.agents = false := by assumption) (kirq : K.irq = false := by assumption) (kcyc : K.cyc = false := by assumption) (kmsi : K.msi = false := by assumption) (ktmp : K.tmp = false := by assumption) (ktim : K.tim = false := by assumption) (kshu : K.shu = false := by assumption) (kblt : K.blt = false := by assumption) (kcry : K.cry = false := by assumption) (kpmc : K.pmc = false := by assumption) : KeptO K s0 (execReadLoSnapshot ag off s) := by
  unfold execReadLoSnapshot
  repeat' (first
    | with_reducible assumption | with_reducible apply next_kept | with_reducible apply ite_kept | with_reducible apply ite_fst_kept
    | with_reducible apply State.read_kept | split | exact refused_kept _ _ _)

theorem execSemRead_kept {K : Keep} {s0 : State} (ag : Agent) (i : Fin 256) (s : State) (hs : Kept K s0 s) (kagents : K.agents = false := by assumption) (kirq : K.irq = false := by assumption) (kcyc : K.cyc = false := by assumption) (kmsi : K.msi = false := by assumption) (kshu : K.shu = false := by assumption) : KeptO K s0 (execSemRead ag i s) := by
  unfold execSemRead
  repeat' (first
    | with_reducible assumption | intro _ | with_reducible apply next_kept | with_reducible apply State.busRd_kept
    | with_reducible apply State.semRead_kept | dsimp only)

theorem execSemRelease_kept {K : Keep} {s0 : State} (ag : Agent) (i : Fin 256) (v : Word) (s : State) (hs : Kept K s0 s) (kirq : K.irq = false := by assumption) (kcyc : K.cyc = false := by assumption) (kmsi : K.msi = false := by assumption) (kshu : K.shu = false := by assumption) : KeptO K s0 (execSemRelease ag i v s) := by
  unfold execSemRelease
  repeat' (first
    | with_reducible assumption | intro _ | with_reducible apply next_kept | with_reducible apply State.bus_kept
    | with_reducible apply State.semWrite_kept | dsimp only)

theorem execHpiWinWrite_kept {K : Keep} {s0 : State} (ag : Agent) (p : Port) (v : Word) (s : State) (hs : Kept K s0 s) (kirq : K.irq = false := by assumption) (kcyc : K.cyc = false := by assumption) (kmsi : K.msi = false := by assumption) (kshu : K.shu = false := by assumption) : KeptO K s0 (execHpiWinWrite ag p v s) := by
  unfold execHpiWinWrite
  repeat' (first
    | with_reducible assumption | intro _ | with_reducible apply next_kept | with_reducible apply State.bus_kept | with_reducible apply State.wrRW_kept
    | dsimp only)

theorem execRankMapOut_kept {K : Keep} {s0 : State} (ag : Agent) (m : Fin 8) (v : Word) (s : State) (hs : Kept K s0 s) (kirq : K.irq = false := by assumption) (kcyc : K.cyc = false := by assumption) (kmsi : K.msi = false := by assumption) (ktmp : K.tmp = false := by assumption) (kshu : K.shu = false := by assumption) (ktmg : K.tmg = false := by assumption) : KeptO K s0 (execRankMapOut ag m v s) := by
  unfold execRankMapOut
  repeat' (first
    | with_reducible assumption | intro _ | with_reducible apply next_kept | with_reducible apply State.bus_kept
    | with_reducible apply State.rankMapWrite_kept | dsimp only)

theorem State.holdoffEnd_kept {K : Keep} {s0 : State} (s : State) (n : Nat) (p : Nat) (hs : Kept K s0 s) (kirq : K.irq = false := by assumption) (kmsi : K.msi = false := by assumption) : Kept K s0 (State.holdoffEnd s n p) := by
  unfold State.holdoffEnd
  repeat' (first
    | with_reducible assumption | with_reducible apply ite_kept | with_reducible apply ite_fst_kept | with_reducible apply State.irqMsg_kept
    | extract_lets | dsimp only | split | with_reducible apply Kept.upd_irq)

theorem execIrqHoldoffExpiry_kept {K : Keep} {s0 : State} (n : Fin 200) (p : Port) (s : State) (hs : Kept K s0 s) (kirq : K.irq = false := by assumption) (kmsi : K.msi = false := by assumption) : KeptO K s0 (execIrqHoldoffExpiry n p s) := by
  unfold execIrqHoldoffExpiry
  repeat' (first
    | with_reducible assumption | with_reducible apply next_kept | with_reducible apply State.holdoffEnd_kept)

theorem State.setLink_kept {K : Keep} {s0 : State} (s : State) (p : Port) (up : Bool) (hs : Kept K s0 s) (khost : K.host = false := by assumption) : Kept K s0 (State.setLink s p up) := by
  unfold State.setLink
  repeat' (first
    | with_reducible assumption | split | with_reducible apply Kept.upd_host | dsimp +zetaDelta only)

theorem State.portReset_kept {K : Keep} {s0 : State} (s : State) (p : Port) (hs : Kept K s0 s) (kagents : K.agents = false := by assumption) (khost : K.host = false := by assumption) : Kept K s0 (State.portReset s p) := by
  unfold State.portReset
  repeat' (first
    | with_reducible assumption | intro _ | with_reducible apply iter_kept | with_reducible apply ite_kept | with_reducible apply ite_fst_kept
    | with_reducible apply State.p_kept | with_reducible apply State.setLink_kept | extract_lets | dsimp only | split
    | with_reducible apply Kept.upd_agents)

theorem execHostPortReset_kept {K : Keep} {s0 : State} (p : Port) (s : State) (hs : Kept K s0 s) (kagents : K.agents = false := by assumption) (khost : K.host = false := by assumption) : KeptO K s0 (execHostPortReset p s) := by
  unfold execHostPortReset
  repeat' (first
    | with_reducible assumption | with_reducible apply next_kept | with_reducible apply State.portReset_kept)

theorem execHostLinkUp_kept {K : Keep} {s0 : State} (p : Port) (s : State) (hs : Kept K s0 s) (khost : K.host = false := by assumption) : KeptO K s0 (execHostLinkUp p s) := by
  unfold execHostLinkUp
  repeat' (first
    | with_reducible assumption | with_reducible apply next_kept | with_reducible apply State.setLink_kept)

theorem State.accessTimeout_kept {K : Keep} {s0 : State} (s : State) (ag : Agent) (off : Nat) (isRead : Bool) (hs : Kept K s0 s) (kagents : K.agents = false := by assumption) (kirq : K.irq = false := by assumption) (kcyc : K.cyc = false := by assumption) (kmsi : K.msi = false := by assumption) (kblks : K.blks = false := by assumption) (kshu : K.shu = false := by assumption) : Kept K s0 (State.accessTimeout s ag off isRead) := by
  unfold State.accessTimeout
  repeat' (first
    | with_reducible assumption | intro _ | with_reducible apply ite_kept | with_reducible apply ite_fst_kept | with_reducible apply State.hpiErr_kept
    | with_reducible apply State.when_kept | with_reducible apply State.answer_kept | with_reducible apply State.updBlk_kept
    | with_reducible apply State.report_kept | extract_lets | dsimp only | split)

theorem execAccessTimeout_kept {K : Keep} {s0 : State} (ag : Agent) (off : Nat) (isRead : Bool) (s : State) (hs : Kept K s0 s) (kagents : K.agents = false := by assumption) (kirq : K.irq = false := by assumption) (kcyc : K.cyc = false := by assumption) (kmsi : K.msi = false := by assumption) (kblks : K.blks = false := by assumption) (kshu : K.shu = false := by assumption) : KeptO K s0 (execAccessTimeout ag off isRead s) := by
  unfold execAccessTimeout
  repeat' (first
    | with_reducible assumption | with_reducible apply next_kept | with_reducible apply ite_kept | with_reducible apply ite_fst_kept
    | with_reducible apply State.accessTimeout_kept | split | exact refused_kept _ _ _)

theorem State.bar2Answer_kept {K : Keep} {s0 : State} (s : State) (p : Port) (v : Byte) (hs : Kept K s0 s) (khost : K.host = false := by assumption) : Kept K s0 (State.bar2Answer s p v) := by
  unfold State.bar2Answer
  repeat' (first
    | with_reducible assumption | split | with_reducible apply Kept.upd_host | dsimp +zetaDelta only)

theorem State.bar2_kept {K : Keep} {s0 : State} (s : State) (p : Port) (off : Nat) (wr : Option Byte) (hs : Kept K s0 s) (kddr : K.ddr = false := by assumption) (kirq : K.irq = false := by assumption) (kcyc : K.cyc = false := by assumption) (kmsi : K.msi = false := by assumption) (khost : K.host = false := by assumption) (kshu : K.shu = false := by assumption) : Kept K s0 (State.bar2 s p off wr) := by
  unfold State.bar2
  repeat' (first
    | with_reducible assumption | with_reducible apply ite_kept | with_reducible apply ite_fst_kept | with_reducible apply State.hpiErr_kept
    | with_reducible apply State.bar2Answer_kept | with_reducible apply State.ddrWr_kept | extract_lets | dsimp only | split | dsimp +zetaDelta only)

theorem execBar2Access_kept {K : Keep} {s0 : State} (p : Port) (off : Fin 68719476736) (wr : Option Byte) (s : State) (hs : Kept K s0 s) (kddr : K.ddr = false := by assumption) (kirq : K.irq = false := by assumption) (kcyc : K.cyc = false := by assumption) (kmsi : K.msi = false := by assumption) (khost : K.host = false := by assumption) (kshu : K.shu = false := by assumption) : KeptO K s0 (execBar2Access p off wr s) := by
  unfold execBar2Access
  repeat' (first
    | with_reducible assumption | with_reducible apply next_kept | with_reducible apply State.bar2_kept)

theorem State.trainDone_kept {K : Keep} {s0 : State} (s : State) (obs : List DimmObs) (hs : Kept K s0 s) (kirq : K.irq = false := by assumption) (kcyc : K.cyc = false := by assumption) (kmsi : K.msi = false := by assumption) (khost : K.host = false := by assumption) (kshu : K.shu = false := by assumption) : Kept K s0 (State.trainDone s obs) := by
  unfold State.trainDone
  repeat' (first
    | with_reducible assumption | intro _ | with_reducible apply ite_kept | with_reducible apply ite_fst_kept | with_reducible apply foldl_kept
    | with_reducible apply foldl_fst_kept | with_reducible apply foldl_snd_kept | with_reducible apply State.p_kept | with_reducible apply State.ev_kept
    | extract_lets | dsimp only | split | with_reducible apply Kept.upd_host)

theorem execDdrTrainingDone_kept {K : Keep} {s0 : State} (obs : List DimmObs) (s : State) (hs : Kept K s0 s) (kirq : K.irq = false := by assumption) (kcyc : K.cyc = false := by assumption) (kmsi : K.msi = false := by assumption) (khost : K.host = false := by assumption) (kshu : K.shu = false := by assumption) : KeptO K s0 (execDdrTrainingDone obs s) := by
  unfold execDdrTrainingDone
  repeat' (first
    | with_reducible assumption | intro _ | with_reducible apply next_kept | with_reducible apply ite_kept | with_reducible apply ite_fst_kept
    | with_reducible apply State.when_kept | with_reducible apply State.trainDone_kept | dsimp only | split | exact refused_kept _ _ _)

theorem execDdrPeriodicCal_kept {K : Keep} {s0 : State} (s : State) (hs : Kept K s0 s) (khost : K.host = false := by assumption) : KeptO K s0 (execDdrPeriodicCal s) := by
  unfold execDdrPeriodicCal
  repeat' (first
    | with_reducible assumption | intro _ | with_reducible apply next_kept | with_reducible apply State.when_kept | dsimp only
    | with_reducible apply Kept.upd_host)

theorem execPatrolScrub_kept {K : Keep} {s0 : State} (m : Fin 8) (ue : Bool) (s : State) (hs : Kept K s0 s) (kirq : K.irq = false := by assumption) (kcyc : K.cyc = false := by assumption) (kmsi : K.msi = false := by assumption) (khost : K.host = false := by assumption) (kshu : K.shu = false := by assumption) : KeptO K s0 (execPatrolScrub m ue s) := by
  unfold execPatrolScrub
  repeat' (first
    | with_reducible assumption | intro _ | with_reducible apply next_kept | with_reducible apply State.when_kept | with_reducible apply State.ev_kept
    | dsimp only | with_reducible apply Kept.upd_host)

end Sys2Proof.Machine
end

