-- ==== Sys2Proof/Laws/State.lean ====
section
/-! SUPPORT. The field lemmas of the updates of State: what each update puts into its field, and that it leaves every other
field. -/
namespace Sys2Proof.Machine

variable (s : State)

/-! `State.wr` -/
@[simp] theorem State.wr_pending (a : Nat) (v : Word) : (s.wr a v).pending = s.pending := rfl
@[simp] theorem State.wr_now (a : Nat) (v : Word) : (s.wr a v).now = s.now := rfl
@[simp] theorem State.wr_fresh (a : Nat) (v : Word) : (s.wr a v).fresh = s.fresh := rfl
@[simp] theorem State.wr_regs (a : Nat) (v : Word) : (s.wr a v).regs = tset (resetWord a) s.regs a v := rfl
@[simp] theorem State.wr_ddr (a : Nat) (v : Word) : (s.wr a v).ddr = s.ddr := rfl
@[simp] theorem State.wr_agents (a : Nat) (v : Word) : (s.wr a v).agents = s.agents := rfl
@[simp] theorem State.wr_irq (a : Nat) (v : Word) : (s.wr a v).irq = s.irq := rfl
@[simp] theorem State.wr_cyc (a : Nat) (v : Word) : (s.wr a v).cyc = s.cyc := rfl
@[simp] theorem State.wr_msi (a : Nat) (v : Word) : (s.wr a v).msi = s.msi := rfl
@[simp] theorem State.wr_blks (a : Nat) (v : Word) : (s.wr a v).blks = s.blks := rfl
@[simp] theorem State.wr_host (a : Nat) (v : Word) : (s.wr a v).host = s.host := rfl
@[simp] theorem State.wr_pch (a : Nat) (v : Word) : (s.wr a v).pch = s.pch := rfl
@[simp] theorem State.wr_slots (a : Nat) (v : Word) : (s.wr a v).slots = s.slots := rfl
@[simp] theorem State.wr_rng (a : Nat) (v : Word) : (s.wr a v).rng = s.rng := rfl
@[simp] theorem State.wr_shd (a : Nat) (v : Word) : (s.wr a v).shd = s.shd := rfl
@[simp] theorem State.wr_ledger (a : Nat) (v : Word) : (s.wr a v).ledger = s.ledger := rfl
@[simp] theorem State.wr_sealRot (a : Nat) (v : Word) : (s.wr a v).sealRot = s.sealRot := rfl
@[simp] theorem State.wr_tmp (a : Nat) (v : Word) : (s.wr a v).tmp = s.tmp := rfl
@[simp] theorem State.wr_drf (a : Nat) (v : Word) : (s.wr a v).drf = s.drf := rfl
@[simp] theorem State.wr_tim (a : Nat) (v : Word) : (s.wr a v).tim = s.tim := rfl
@[simp] theorem State.wr_shu (a : Nat) (v : Word) : (s.wr a v).shu = s.shu := rfl
@[simp] theorem State.wr_blt (a : Nat) (v : Word) : (s.wr a v).blt = s.blt := rfl
@[simp] theorem State.wr_cry (a : Nat) (v : Word) : (s.wr a v).cry = s.cry := rfl
@[simp] theorem State.wr_slv (a : Nat) (v : Word) : (s.wr a v).slv = s.slv := rfl
@[simp] theorem State.wr_cls (a : Nat) (v : Word) : (s.wr a v).cls = s.cls := rfl
@[simp] theorem State.wr_tmg (a : Nat) (v : Word) : (s.wr a v).tmg = s.tmg := rfl
@[simp] theorem State.wr_hsl (a : Nat) (v : Word) : (s.wr a v).hsl = s.hsl := rfl
@[simp] theorem State.wr_fwd (a : Nat) (v : Word) : (s.wr a v).fwd = s.fwd := rfl
@[simp] theorem State.wr_trb (a : Nat) (v : Word) : (s.wr a v).trb = s.trb := rfl
@[simp] theorem State.wr_pmc (a : Nat) (v : Word) : (s.wr a v).pmc = s.pmc := rfl

/-! `State.ddrWr` -/
@[simp] theorem State.ddrWr_pending (a : Nat) (v : Byte) : (s.ddrWr a v).pending = s.pending := rfl
@[simp] theorem State.ddrWr_now (a : Nat) (v : Byte) : (s.ddrWr a v).now = s.now := rfl
@[simp] theorem State.ddrWr_fresh (a : Nat) (v : Byte) : (s.ddrWr a v).fresh = s.fresh := rfl
@[simp] theorem State.ddrWr_regs (a : Nat) (v : Byte) : (s.ddrWr a v).regs = s.regs := rfl
@[simp] theorem State.ddrWr_ddr (a : Nat) (v : Byte) : (s.ddrWr a v).ddr = tset ddrInit s.ddr a v := rfl
@[simp] theorem State.ddrWr_agents (a : Nat) (v : Byte) : (s.ddrWr a v).agents = s.agents := rfl
@[simp] theorem State.ddrWr_irq (a : Nat) (v : Byte) : (s.ddrWr a v).irq = s.irq := rfl
@[simp] theorem State.ddrWr_cyc (a : Nat) (v : Byte) : (s.ddrWr a v).cyc = s.cyc := rfl
@[simp] theorem State.ddrWr_msi (a : Nat) (v : Byte) : (s.ddrWr a v).msi = s.msi := rfl
@[simp] theorem State.ddrWr_blks (a : Nat) (v : Byte) : (s.ddrWr a v).blks = s.blks := rfl
@[simp] theorem State.ddrWr_host (a : Nat) (v : Byte) : (s.ddrWr a v).host = s.host := rfl
@[simp] theorem State.ddrWr_pch (a : Nat) (v : Byte) : (s.ddrWr a v).pch = s.pch := rfl
@[simp] theorem State.ddrWr_slots (a : Nat) (v : Byte) : (s.ddrWr a v).slots = s.slots := rfl
@[simp] theorem State.ddrWr_rng (a : Nat) (v : Byte) : (s.ddrWr a v).rng = s.rng := rfl
@[simp] theorem State.ddrWr_shd (a : Nat) (v : Byte) : (s.ddrWr a v).shd = s.shd := rfl
@[simp] theorem State.ddrWr_ledger (a : Nat) (v : Byte) : (s.ddrWr a v).ledger = s.ledger := rfl
@[simp] theorem State.ddrWr_sealRot (a : Nat) (v : Byte) : (s.ddrWr a v).sealRot = s.sealRot := rfl
@[simp] theorem State.ddrWr_tmp (a : Nat) (v : Byte) : (s.ddrWr a v).tmp = s.tmp := rfl
@[simp] theorem State.ddrWr_drf (a : Nat) (v : Byte) : (s.ddrWr a v).drf = s.drf := rfl
@[simp] theorem State.ddrWr_tim (a : Nat) (v : Byte) : (s.ddrWr a v).tim = s.tim := rfl
@[simp] theorem State.ddrWr_shu (a : Nat) (v : Byte) : (s.ddrWr a v).shu = s.shu := rfl
@[simp] theorem State.ddrWr_blt (a : Nat) (v : Byte) : (s.ddrWr a v).blt = s.blt := rfl
@[simp] theorem State.ddrWr_cry (a : Nat) (v : Byte) : (s.ddrWr a v).cry = s.cry := rfl
@[simp] theorem State.ddrWr_slv (a : Nat) (v : Byte) : (s.ddrWr a v).slv = s.slv := rfl
@[simp] theorem State.ddrWr_cls (a : Nat) (v : Byte) : (s.ddrWr a v).cls = s.cls := rfl
@[simp] theorem State.ddrWr_tmg (a : Nat) (v : Byte) : (s.ddrWr a v).tmg = s.tmg := rfl
@[simp] theorem State.ddrWr_hsl (a : Nat) (v : Byte) : (s.ddrWr a v).hsl = s.hsl := rfl
@[simp] theorem State.ddrWr_fwd (a : Nat) (v : Byte) : (s.ddrWr a v).fwd = s.fwd := rfl
@[simp] theorem State.ddrWr_trb (a : Nat) (v : Byte) : (s.ddrWr a v).trb = s.trb := rfl
@[simp] theorem State.ddrWr_pmc (a : Nat) (v : Byte) : (s.ddrWr a v).pmc = s.pmc := rfl

/-! `State.answer` -/
@[simp] theorem State.answer_pending (ag : Agent) (v : Word) : (s.answer ag v).pending = s.pending := rfl
@[simp] theorem State.answer_now (ag : Agent) (v : Word) : (s.answer ag v).now = s.now := rfl
@[simp] theorem State.answer_fresh (ag : Agent) (v : Word) : (s.answer ag v).fresh = s.fresh := rfl
@[simp] theorem State.answer_regs (ag : Agent) (v : Word) : (s.answer ag v).regs = s.regs := rfl
@[simp] theorem State.answer_ddr (ag : Agent) (v : Word) : (s.answer ag v).ddr = s.ddr := rfl
@[simp] theorem State.answer_agents (ag : Agent) (v : Word) : (s.answer ag v).agents = s.agents.upd (agCode ag) (fun a => { a with last := v }) := rfl
@[simp] theorem State.answer_irq (ag : Agent) (v : Word) : (s.answer ag v).irq = s.irq := rfl
@[simp] theorem State.answer_cyc (ag : Agent) (v : Word) : (s.answer ag v).cyc = s.cyc := rfl
@[simp] theorem State.answer_msi (ag : Agent) (v : Word) : (s.answer ag v).msi = s.msi := rfl
@[simp] theorem State.answer_blks (ag : Agent) (v : Word) : (s.answer ag v).blks = s.blks := rfl
@[simp] theorem State.answer_host (ag : Agent) (v : Word) : (s.answer ag v).host = s.host := rfl
@[simp] theorem State.answer_pch (ag : Agent) (v : Word) : (s.answer ag v).pch = s.pch := rfl
@[simp] theorem State.answer_slots (ag : Agent) (v : Word) : (s.answer ag v).slots = s.slots := rfl
@[simp] theorem State.answer_rng (ag : Agent) (v : Word) : (s.answer ag v).rng = s.rng := rfl
@[simp] theorem State.answer_shd (ag : Agent) (v : Word) : (s.answer ag v).shd = s.shd := rfl
@[simp] theorem State.answer_ledger (ag : Agent) (v : Word) : (s.answer ag v).ledger = s.ledger := rfl
@[simp] theorem State.answer_sealRot (ag : Agent) (v : Word) : (s.answer ag v).sealRot = s.sealRot := rfl
@[simp] theorem State.answer_tmp (ag : Agent) (v : Word) : (s.answer ag v).tmp = s.tmp := rfl
@[simp] theorem State.answer_drf (ag : Agent) (v : Word) : (s.answer ag v).drf = s.drf := rfl
@[simp] theorem State.answer_tim (ag : Agent) (v : Word) : (s.answer ag v).tim = s.tim := rfl
@[simp] theorem State.answer_shu (ag : Agent) (v : Word) : (s.answer ag v).shu = s.shu := rfl
@[simp] theorem State.answer_blt (ag : Agent) (v : Word) : (s.answer ag v).blt = s.blt := rfl
@[simp] theorem State.answer_cry (ag : Agent) (v : Word) : (s.answer ag v).cry = s.cry := rfl
@[simp] theorem State.answer_slv (ag : Agent) (v : Word) : (s.answer ag v).slv = s.slv := rfl
@[simp] theorem State.answer_cls (ag : Agent) (v : Word) : (s.answer ag v).cls = s.cls := rfl
@[simp] theorem State.answer_tmg (ag : Agent) (v : Word) : (s.answer ag v).tmg = s.tmg := rfl
@[simp] theorem State.answer_hsl (ag : Agent) (v : Word) : (s.answer ag v).hsl = s.hsl := rfl
@[simp] theorem State.answer_fwd (ag : Agent) (v : Word) : (s.answer ag v).fwd = s.fwd := rfl
@[simp] theorem State.answer_trb (ag : Agent) (v : Word) : (s.answer ag v).trb = s.trb := rfl
@[simp] theorem State.answer_pmc (ag : Agent) (v : Word) : (s.answer ag v).pmc = s.pmc := rfl

/-! `State.pairHi` -/
@[simp] theorem State.pairHi_pending (ag : Agent) (o : Nat) (v : Word) : (s.pairHi ag o v).pending = s.pending := rfl
@[simp] theorem State.pairHi_now (ag : Agent) (o : Nat) (v : Word) : (s.pairHi ag o v).now = s.now := rfl
@[simp] theorem State.pairHi_fresh (ag : Agent) (o : Nat) (v : Word) : (s.pairHi ag o v).fresh = s.fresh := rfl
@[simp] theorem State.pairHi_regs (ag : Agent) (o : Nat) (v : Word) : (s.pairHi ag o v).regs = s.regs := rfl
@[simp] theorem State.pairHi_ddr (ag : Agent) (o : Nat) (v : Word) : (s.pairHi ag o v).ddr = s.ddr := rfl
@[simp] theorem State.pairHi_agents (ag : Agent) (o : Nat) (v : Word) : (s.pairHi ag o v).agents = s.agents.upd (agCode ag) (fun a => { a with hold := some (o, v) }) := rfl
@[simp] theorem State.pairHi_irq (ag : Agent) (o : Nat) (v : Word) : (s.pairHi ag o v).irq = s.irq := rfl
@[simp] theorem State.pairHi_cyc (ag : Agent) (o : Nat) (v : Word) : (s.pairHi ag o v).cyc = s.cyc := rfl
@[simp] theorem State.pairHi_msi (ag : Agent) (o : Nat) (v : Word) : (s.pairHi ag o v).msi = s.msi := rfl
@[simp] theorem State.pairHi_blks (ag : Agent) (o : Nat) (v : Word) : (s.pairHi ag o v).blks = s.blks := rfl
@[simp] theorem State.pairHi_host (ag : Agent) (o : Nat) (v : Word) : (s.pairHi ag o v).host = s.host := rfl
@[simp] theorem State.pairHi_pch (ag : Agent) (o : Nat) (v : Word) : (s.pairHi ag o v).pch = s.pch := rfl
@[simp] theorem State.pairHi_slots (ag : Agent) (o : Nat) (v : Word) : (s.pairHi ag o v).slots = s.slots := rfl
@[simp] theorem State.pairHi_rng (ag : Agent) (o : Nat) (v : Word) : (s.pairHi ag o v).rng = s.rng := rfl
@[simp] theorem State.pairHi_shd (ag : Agent) (o : Nat) (v : Word) : (s.pairHi ag o v).shd = s.shd := rfl
@[simp] theorem State.pairHi_ledger (ag : Agent) (o : Nat) (v : Word) : (s.pairHi ag o v).ledger = s.ledger := rfl
@[simp] theorem State.pairHi_sealRot (ag : Agent) (o : Nat) (v : Word) : (s.pairHi ag o v).sealRot = s.sealRot := rfl
@[simp] theorem State.pairHi_tmp (ag : Agent) (o : Nat) (v : Word) : (s.pairHi ag o v).tmp = s.tmp := rfl
@[simp] theorem State.pairHi_drf (ag : Agent) (o : Nat) (v : Word) : (s.pairHi ag o v).drf = s.drf := rfl
@[simp] theorem State.pairHi_tim (ag : Agent) (o : Nat) (v : Word) : (s.pairHi ag o v).tim = s.tim := rfl
@[simp] theorem State.pairHi_shu (ag : Agent) (o : Nat) (v : Word) : (s.pairHi ag o v).shu = s.shu := rfl
@[simp] theorem State.pairHi_blt (ag : Agent) (o : Nat) (v : Word) : (s.pairHi ag o v).blt = s.blt := rfl
@[simp] theorem State.pairHi_cry (ag : Agent) (o : Nat) (v : Word) : (s.pairHi ag o v).cry = s.cry := rfl
@[simp] theorem State.pairHi_slv (ag : Agent) (o : Nat) (v : Word) : (s.pairHi ag o v).slv = s.slv := rfl
@[simp] theorem State.pairHi_cls (ag : Agent) (o : Nat) (v : Word) : (s.pairHi ag o v).cls = s.cls := rfl
@[simp] theorem State.pairHi_tmg (ag : Agent) (o : Nat) (v : Word) : (s.pairHi ag o v).tmg = s.tmg := rfl
@[simp] theorem State.pairHi_hsl (ag : Agent) (o : Nat) (v : Word) : (s.pairHi ag o v).hsl = s.hsl := rfl
@[simp] theorem State.pairHi_fwd (ag : Agent) (o : Nat) (v : Word) : (s.pairHi ag o v).fwd = s.fwd := rfl
@[simp] theorem State.pairHi_trb (ag : Agent) (o : Nat) (v : Word) : (s.pairHi ag o v).trb = s.trb := rfl
@[simp] theorem State.pairHi_pmc (ag : Agent) (o : Nat) (v : Word) : (s.pairHi ag o v).pmc = s.pmc := rfl

/-! `State.updBlk` -/
@[simp] theorem State.updBlk_pending (n : Nat) (f : Blk → Blk) : (s.updBlk n f).pending = s.pending := rfl
@[simp] theorem State.updBlk_now (n : Nat) (f : Blk → Blk) : (s.updBlk n f).now = s.now := rfl
@[simp] theorem State.updBlk_fresh (n : Nat) (f : Blk → Blk) : (s.updBlk n f).fresh = s.fresh := rfl
@[simp] theorem State.updBlk_regs (n : Nat) (f : Blk → Blk) : (s.updBlk n f).regs = s.regs := rfl
@[simp] theorem State.updBlk_ddr (n : Nat) (f : Blk → Blk) : (s.updBlk n f).ddr = s.ddr := rfl
@[simp] theorem State.updBlk_agents (n : Nat) (f : Blk → Blk) : (s.updBlk n f).agents = s.agents := rfl
@[simp] theorem State.updBlk_irq (n : Nat) (f : Blk → Blk) : (s.updBlk n f).irq = s.irq := rfl
@[simp] theorem State.updBlk_cyc (n : Nat) (f : Blk → Blk) : (s.updBlk n f).cyc = s.cyc := rfl
@[simp] theorem State.updBlk_msi (n : Nat) (f : Blk → Blk) : (s.updBlk n f).msi = s.msi := rfl
@[simp] theorem State.updBlk_blks (n : Nat) (f : Blk → Blk) : (s.updBlk n f).blks = s.blks.upd n f := rfl
@[simp] theorem State.updBlk_host (n : Nat) (f : Blk → Blk) : (s.updBlk n f).host = s.host := rfl
@[simp] theorem State.updBlk_pch (n : Nat) (f : Blk → Blk) : (s.updBlk n f).pch = s.pch := rfl
@[simp] theorem State.updBlk_slots (n : Nat) (f : Blk → Blk) : (s.updBlk n f).slots = s.slots := rfl
@[simp] theorem State.updBlk_rng (n : Nat) (f : Blk → Blk) : (s.updBlk n f).rng = s.rng := rfl
@[simp] theorem State.updBlk_shd (n : Nat) (f : Blk → Blk) : (s.updBlk n f).shd = s.shd := rfl
@[simp] theorem State.updBlk_ledger (n : Nat) (f : Blk → Blk) : (s.updBlk n f).ledger = s.ledger := rfl
@[simp] theorem State.updBlk_sealRot (n : Nat) (f : Blk → Blk) : (s.updBlk n f).sealRot = s.sealRot := rfl
@[simp] theorem State.updBlk_tmp (n : Nat) (f : Blk → Blk) : (s.updBlk n f).tmp = s.tmp := rfl
@[simp] theorem State.updBlk_drf (n : Nat) (f : Blk → Blk) : (s.updBlk n f).drf = s.drf := rfl
@[simp] theorem State.updBlk_tim (n : Nat) (f : Blk → Blk) : (s.updBlk n f).tim = s.tim := rfl
@[simp] theorem State.updBlk_shu (n : Nat) (f : Blk → Blk) : (s.updBlk n f).shu = s.shu := rfl
@[simp] theorem State.updBlk_blt (n : Nat) (f : Blk → Blk) : (s.updBlk n f).blt = s.blt := rfl
@[simp] theorem State.updBlk_cry (n : Nat) (f : Blk → Blk) : (s.updBlk n f).cry = s.cry := rfl
@[simp] theorem State.updBlk_slv (n : Nat) (f : Blk → Blk) : (s.updBlk n f).slv = s.slv := rfl
@[simp] theorem State.updBlk_cls (n : Nat) (f : Blk → Blk) : (s.updBlk n f).cls = s.cls := rfl
@[simp] theorem State.updBlk_tmg (n : Nat) (f : Blk → Blk) : (s.updBlk n f).tmg = s.tmg := rfl
@[simp] theorem State.updBlk_hsl (n : Nat) (f : Blk → Blk) : (s.updBlk n f).hsl = s.hsl := rfl
@[simp] theorem State.updBlk_fwd (n : Nat) (f : Blk → Blk) : (s.updBlk n f).fwd = s.fwd := rfl
@[simp] theorem State.updBlk_trb (n : Nat) (f : Blk → Blk) : (s.updBlk n f).trb = s.trb := rfl
@[simp] theorem State.updBlk_pmc (n : Nat) (f : Blk → Blk) : (s.updBlk n f).pmc = s.pmc := rfl

/-! `State.updPch` -/
@[simp] theorem State.updPch_pending (c : Nat) (f : Pch → Pch) : (s.updPch c f).pending = s.pending := rfl
@[simp] theorem State.updPch_now (c : Nat) (f : Pch → Pch) : (s.updPch c f).now = s.now := rfl
@[simp] theorem State.updPch_fresh (c : Nat) (f : Pch → Pch) : (s.updPch c f).fresh = s.fresh := rfl
@[simp] theorem State.updPch_regs (c : Nat) (f : Pch → Pch) : (s.updPch c f).regs = s.regs := rfl
@[simp] theorem State.updPch_ddr (c : Nat) (f : Pch → Pch) : (s.updPch c f).ddr = s.ddr := rfl
@[simp] theorem State.updPch_agents (c : Nat) (f : Pch → Pch) : (s.updPch c f).agents = s.agents := rfl
@[simp] theorem State.updPch_irq (c : Nat) (f : Pch → Pch) : (s.updPch c f).irq = s.irq := rfl
@[simp] theorem State.updPch_cyc (c : Nat) (f : Pch → Pch) : (s.updPch c f).cyc = s.cyc := rfl
@[simp] theorem State.updPch_msi (c : Nat) (f : Pch → Pch) : (s.updPch c f).msi = s.msi := rfl
@[simp] theorem State.updPch_blks (c : Nat) (f : Pch → Pch) : (s.updPch c f).blks = s.blks := rfl
@[simp] theorem State.updPch_host (c : Nat) (f : Pch → Pch) : (s.updPch c f).host = s.host := rfl
@[simp] theorem State.updPch_pch (c : Nat) (f : Pch → Pch) : (s.updPch c f).pch = s.pch.upd c f := rfl
@[simp] theorem State.updPch_slots (c : Nat) (f : Pch → Pch) : (s.updPch c f).slots = s.slots := rfl
@[simp] theorem State.updPch_rng (c : Nat) (f : Pch → Pch) : (s.updPch c f).rng = s.rng := rfl
@[simp] theorem State.updPch_shd (c : Nat) (f : Pch → Pch) : (s.updPch c f).shd = s.shd := rfl
@[simp] theorem State.updPch_ledger (c : Nat) (f : Pch → Pch) : (s.updPch c f).ledger = s.ledger := rfl
@[simp] theorem State.updPch_sealRot (c : Nat) (f : Pch → Pch) : (s.updPch c f).sealRot = s.sealRot := rfl
@[simp] theorem State.updPch_tmp (c : Nat) (f : Pch → Pch) : (s.updPch c f).tmp = s.tmp := rfl
@[simp] theorem State.updPch_drf (c : Nat) (f : Pch → Pch) : (s.updPch c f).drf = s.drf := rfl
@[simp] theorem State.updPch_tim (c : Nat) (f : Pch → Pch) : (s.updPch c f).tim = s.tim := rfl
@[simp] theorem State.updPch_shu (c : Nat) (f : Pch → Pch) : (s.updPch c f).shu = s.shu := rfl
@[simp] theorem State.updPch_blt (c : Nat) (f : Pch → Pch) : (s.updPch c f).blt = s.blt := rfl
@[simp] theorem State.updPch_cry (c : Nat) (f : Pch → Pch) : (s.updPch c f).cry = s.cry := rfl
@[simp] theorem State.updPch_slv (c : Nat) (f : Pch → Pch) : (s.updPch c f).slv = s.slv := rfl
@[simp] theorem State.updPch_cls (c : Nat) (f : Pch → Pch) : (s.updPch c f).cls = s.cls := rfl
@[simp] theorem State.updPch_tmg (c : Nat) (f : Pch → Pch) : (s.updPch c f).tmg = s.tmg := rfl
@[simp] theorem State.updPch_hsl (c : Nat) (f : Pch → Pch) : (s.updPch c f).hsl = s.hsl := rfl
@[simp] theorem State.updPch_fwd (c : Nat) (f : Pch → Pch) : (s.updPch c f).fwd = s.fwd := rfl
@[simp] theorem State.updPch_trb (c : Nat) (f : Pch → Pch) : (s.updPch c f).trb = s.trb := rfl
@[simp] theorem State.updPch_pmc (c : Nat) (f : Pch → Pch) : (s.updPch c f).pmc = s.pmc := rfl

/-! `State.updSlot` -/
@[simp] theorem State.updSlot_pending (c i : Nat) (f : Slot → Slot) : (s.updSlot c i f).pending = s.pending := rfl
@[simp] theorem State.updSlot_now (c i : Nat) (f : Slot → Slot) : (s.updSlot c i f).now = s.now := rfl
@[simp] theorem State.updSlot_fresh (c i : Nat) (f : Slot → Slot) : (s.updSlot c i f).fresh = s.fresh := rfl
@[simp] theorem State.updSlot_regs (c i : Nat) (f : Slot → Slot) : (s.updSlot c i f).regs = s.regs := rfl
@[simp] theorem State.updSlot_ddr (c i : Nat) (f : Slot → Slot) : (s.updSlot c i f).ddr = s.ddr := rfl
@[simp] theorem State.updSlot_agents (c i : Nat) (f : Slot → Slot) : (s.updSlot c i f).agents = s.agents := rfl
@[simp] theorem State.updSlot_irq (c i : Nat) (f : Slot → Slot) : (s.updSlot c i f).irq = s.irq := rfl
@[simp] theorem State.updSlot_cyc (c i : Nat) (f : Slot → Slot) : (s.updSlot c i f).cyc = s.cyc := rfl
@[simp] theorem State.updSlot_msi (c i : Nat) (f : Slot → Slot) : (s.updSlot c i f).msi = s.msi := rfl
@[simp] theorem State.updSlot_blks (c i : Nat) (f : Slot → Slot) : (s.updSlot c i f).blks = s.blks := rfl
@[simp] theorem State.updSlot_host (c i : Nat) (f : Slot → Slot) : (s.updSlot c i f).host = s.host := rfl
@[simp] theorem State.updSlot_pch (c i : Nat) (f : Slot → Slot) : (s.updSlot c i f).pch = s.pch := rfl
@[simp] theorem State.updSlot_slots (c i : Nat) (f : Slot → Slot) : (s.updSlot c i f).slots = s.slots.upd (256 * c + i) f := rfl
@[simp] theorem State.updSlot_rng (c i : Nat) (f : Slot → Slot) : (s.updSlot c i f).rng = s.rng := rfl
@[simp] theorem State.updSlot_shd (c i : Nat) (f : Slot → Slot) : (s.updSlot c i f).shd = s.shd := rfl
@[simp] theorem State.updSlot_ledger (c i : Nat) (f : Slot → Slot) : (s.updSlot c i f).ledger = s.ledger := rfl
@[simp] theorem State.updSlot_sealRot (c i : Nat) (f : Slot → Slot) : (s.updSlot c i f).sealRot = s.sealRot := rfl
@[simp] theorem State.updSlot_tmp (c i : Nat) (f : Slot → Slot) : (s.updSlot c i f).tmp = s.tmp := rfl
@[simp] theorem State.updSlot_drf (c i : Nat) (f : Slot → Slot) : (s.updSlot c i f).drf = s.drf := rfl
@[simp] theorem State.updSlot_tim (c i : Nat) (f : Slot → Slot) : (s.updSlot c i f).tim = s.tim := rfl
@[simp] theorem State.updSlot_shu (c i : Nat) (f : Slot → Slot) : (s.updSlot c i f).shu = s.shu := rfl
@[simp] theorem State.updSlot_blt (c i : Nat) (f : Slot → Slot) : (s.updSlot c i f).blt = s.blt := rfl
@[simp] theorem State.updSlot_cry (c i : Nat) (f : Slot → Slot) : (s.updSlot c i f).cry = s.cry := rfl
@[simp] theorem State.updSlot_slv (c i : Nat) (f : Slot → Slot) : (s.updSlot c i f).slv = s.slv := rfl
@[simp] theorem State.updSlot_cls (c i : Nat) (f : Slot → Slot) : (s.updSlot c i f).cls = s.cls := rfl
@[simp] theorem State.updSlot_tmg (c i : Nat) (f : Slot → Slot) : (s.updSlot c i f).tmg = s.tmg := rfl
@[simp] theorem State.updSlot_hsl (c i : Nat) (f : Slot → Slot) : (s.updSlot c i f).hsl = s.hsl := rfl
@[simp] theorem State.updSlot_fwd (c i : Nat) (f : Slot → Slot) : (s.updSlot c i f).fwd = s.fwd := rfl
@[simp] theorem State.updSlot_trb (c i : Nat) (f : Slot → Slot) : (s.updSlot c i f).trb = s.trb := rfl
@[simp] theorem State.updSlot_pmc (c i : Nat) (f : Slot → Slot) : (s.updSlot c i f).pmc = s.pmc := rfl

/-! `State.updRng` -/
@[simp] theorem State.updRng_pending (c : Nat) (f : Rng → Rng) : (s.updRng c f).pending = s.pending := rfl
@[simp] theorem State.updRng_now (c : Nat) (f : Rng → Rng) : (s.updRng c f).now = s.now := rfl
@[simp] theorem State.updRng_fresh (c : Nat) (f : Rng → Rng) : (s.updRng c f).fresh = s.fresh := rfl
@[simp] theorem State.updRng_regs (c : Nat) (f : Rng → Rng) : (s.updRng c f).regs = s.regs := rfl
@[simp] theorem State.updRng_ddr (c : Nat) (f : Rng → Rng) : (s.updRng c f).ddr = s.ddr := rfl
@[simp] theorem State.updRng_agents (c : Nat) (f : Rng → Rng) : (s.updRng c f).agents = s.agents := rfl
@[simp] theorem State.updRng_irq (c : Nat) (f : Rng → Rng) : (s.updRng c f).irq = s.irq := rfl
@[simp] theorem State.updRng_cyc (c : Nat) (f : Rng → Rng) : (s.updRng c f).cyc = s.cyc := rfl
@[simp] theorem State.updRng_msi (c : Nat) (f : Rng → Rng) : (s.updRng c f).msi = s.msi := rfl
@[simp] theorem State.updRng_blks (c : Nat) (f : Rng → Rng) : (s.updRng c f).blks = s.blks := rfl
@[simp] theorem State.updRng_host (c : Nat) (f : Rng → Rng) : (s.updRng c f).host = s.host := rfl
@[simp] theorem State.updRng_pch (c : Nat) (f : Rng → Rng) : (s.updRng c f).pch = s.pch := rfl
@[simp] theorem State.updRng_slots (c : Nat) (f : Rng → Rng) : (s.updRng c f).slots = s.slots := rfl
@[simp] theorem State.updRng_rng (c : Nat) (f : Rng → Rng) : (s.updRng c f).rng = s.rng.upd c f := rfl
@[simp] theorem State.updRng_shd (c : Nat) (f : Rng → Rng) : (s.updRng c f).shd = s.shd := rfl
@[simp] theorem State.updRng_ledger (c : Nat) (f : Rng → Rng) : (s.updRng c f).ledger = s.ledger := rfl
@[simp] theorem State.updRng_sealRot (c : Nat) (f : Rng → Rng) : (s.updRng c f).sealRot = s.sealRot := rfl
@[simp] theorem State.updRng_tmp (c : Nat) (f : Rng → Rng) : (s.updRng c f).tmp = s.tmp := rfl
@[simp] theorem State.updRng_drf (c : Nat) (f : Rng → Rng) : (s.updRng c f).drf = s.drf := rfl
@[simp] theorem State.updRng_tim (c : Nat) (f : Rng → Rng) : (s.updRng c f).tim = s.tim := rfl
@[simp] theorem State.updRng_shu (c : Nat) (f : Rng → Rng) : (s.updRng c f).shu = s.shu := rfl
@[simp] theorem State.updRng_blt (c : Nat) (f : Rng → Rng) : (s.updRng c f).blt = s.blt := rfl
@[simp] theorem State.updRng_cry (c : Nat) (f : Rng → Rng) : (s.updRng c f).cry = s.cry := rfl
@[simp] theorem State.updRng_slv (c : Nat) (f : Rng → Rng) : (s.updRng c f).slv = s.slv := rfl
@[simp] theorem State.updRng_cls (c : Nat) (f : Rng → Rng) : (s.updRng c f).cls = s.cls := rfl
@[simp] theorem State.updRng_tmg (c : Nat) (f : Rng → Rng) : (s.updRng c f).tmg = s.tmg := rfl
@[simp] theorem State.updRng_hsl (c : Nat) (f : Rng → Rng) : (s.updRng c f).hsl = s.hsl := rfl
@[simp] theorem State.updRng_fwd (c : Nat) (f : Rng → Rng) : (s.updRng c f).fwd = s.fwd := rfl
@[simp] theorem State.updRng_trb (c : Nat) (f : Rng → Rng) : (s.updRng c f).trb = s.trb := rfl
@[simp] theorem State.updRng_pmc (c : Nat) (f : Rng → Rng) : (s.updRng c f).pmc = s.pmc := rfl

/-! `State.updShd` -/
@[simp] theorem State.updShd_pending (c : Nat) (f : Shd → Shd) : (s.updShd c f).pending = s.pending := rfl
@[simp] theorem State.updShd_now (c : Nat) (f : Shd → Shd) : (s.updShd c f).now = s.now := rfl
@[simp] theorem State.updShd_fresh (c : Nat) (f : Shd → Shd) : (s.updShd c f).fresh = s.fresh := rfl
@[simp] theorem State.updShd_regs (c : Nat) (f : Shd → Shd) : (s.updShd c f).regs = s.regs := rfl
@[simp] theorem State.updShd_ddr (c : Nat) (f : Shd → Shd) : (s.updShd c f).ddr = s.ddr := rfl
@[simp] theorem State.updShd_agents (c : Nat) (f : Shd → Shd) : (s.updShd c f).agents = s.agents := rfl
@[simp] theorem State.updShd_irq (c : Nat) (f : Shd → Shd) : (s.updShd c f).irq = s.irq := rfl
@[simp] theorem State.updShd_cyc (c : Nat) (f : Shd → Shd) : (s.updShd c f).cyc = s.cyc := rfl
@[simp] theorem State.updShd_msi (c : Nat) (f : Shd → Shd) : (s.updShd c f).msi = s.msi := rfl
@[simp] theorem State.updShd_blks (c : Nat) (f : Shd → Shd) : (s.updShd c f).blks = s.blks := rfl
@[simp] theorem State.updShd_host (c : Nat) (f : Shd → Shd) : (s.updShd c f).host = s.host := rfl
@[simp] theorem State.updShd_pch (c : Nat) (f : Shd → Shd) : (s.updShd c f).pch = s.pch := rfl
@[simp] theorem State.updShd_slots (c : Nat) (f : Shd → Shd) : (s.updShd c f).slots = s.slots := rfl
@[simp] theorem State.updShd_rng (c : Nat) (f : Shd → Shd) : (s.updShd c f).rng = s.rng := rfl
@[simp] theorem State.updShd_shd (c : Nat) (f : Shd → Shd) : (s.updShd c f).shd = s.shd.upd c f := rfl
@[simp] theorem State.updShd_ledger (c : Nat) (f : Shd → Shd) : (s.updShd c f).ledger = s.ledger := rfl
@[simp] theorem State.updShd_sealRot (c : Nat) (f : Shd → Shd) : (s.updShd c f).sealRot = s.sealRot := rfl
@[simp] theorem State.updShd_tmp (c : Nat) (f : Shd → Shd) : (s.updShd c f).tmp = s.tmp := rfl
@[simp] theorem State.updShd_drf (c : Nat) (f : Shd → Shd) : (s.updShd c f).drf = s.drf := rfl
@[simp] theorem State.updShd_tim (c : Nat) (f : Shd → Shd) : (s.updShd c f).tim = s.tim := rfl
@[simp] theorem State.updShd_shu (c : Nat) (f : Shd → Shd) : (s.updShd c f).shu = s.shu := rfl
@[simp] theorem State.updShd_blt (c : Nat) (f : Shd → Shd) : (s.updShd c f).blt = s.blt := rfl
@[simp] theorem State.updShd_cry (c : Nat) (f : Shd → Shd) : (s.updShd c f).cry = s.cry := rfl
@[simp] theorem State.updShd_slv (c : Nat) (f : Shd → Shd) : (s.updShd c f).slv = s.slv := rfl
@[simp] theorem State.updShd_cls (c : Nat) (f : Shd → Shd) : (s.updShd c f).cls = s.cls := rfl
@[simp] theorem State.updShd_tmg (c : Nat) (f : Shd → Shd) : (s.updShd c f).tmg = s.tmg := rfl
@[simp] theorem State.updShd_hsl (c : Nat) (f : Shd → Shd) : (s.updShd c f).hsl = s.hsl := rfl
@[simp] theorem State.updShd_fwd (c : Nat) (f : Shd → Shd) : (s.updShd c f).fwd = s.fwd := rfl
@[simp] theorem State.updShd_trb (c : Nat) (f : Shd → Shd) : (s.updShd c f).trb = s.trb := rfl
@[simp] theorem State.updShd_pmc (c : Nat) (f : Shd → Shd) : (s.updShd c f).pmc = s.pmc := rfl

/-! `State.updHsl` -/
@[simp] theorem State.updHsl_pending (l : Nat) (f : Hsl → Hsl) : (s.updHsl l f).pending = s.pending := rfl
@[simp] theorem State.updHsl_now (l : Nat) (f : Hsl → Hsl) : (s.updHsl l f).now = s.now := rfl
@[simp] theorem State.updHsl_fresh (l : Nat) (f : Hsl → Hsl) : (s.updHsl l f).fresh = s.fresh := rfl
@[simp] theorem State.updHsl_regs (l : Nat) (f : Hsl → Hsl) : (s.updHsl l f).regs = s.regs := rfl
@[simp] theorem State.updHsl_ddr (l : Nat) (f : Hsl → Hsl) : (s.updHsl l f).ddr = s.ddr := rfl
@[simp] theorem State.updHsl_agents (l : Nat) (f : Hsl → Hsl) : (s.updHsl l f).agents = s.agents := rfl
@[simp] theorem State.updHsl_irq (l : Nat) (f : Hsl → Hsl) : (s.updHsl l f).irq = s.irq := rfl
@[simp] theorem State.updHsl_cyc (l : Nat) (f : Hsl → Hsl) : (s.updHsl l f).cyc = s.cyc := rfl
@[simp] theorem State.updHsl_msi (l : Nat) (f : Hsl → Hsl) : (s.updHsl l f).msi = s.msi := rfl
@[simp] theorem State.updHsl_blks (l : Nat) (f : Hsl → Hsl) : (s.updHsl l f).blks = s.blks := rfl
@[simp] theorem State.updHsl_host (l : Nat) (f : Hsl → Hsl) : (s.updHsl l f).host = s.host := rfl
@[simp] theorem State.updHsl_pch (l : Nat) (f : Hsl → Hsl) : (s.updHsl l f).pch = s.pch := rfl
@[simp] theorem State.updHsl_slots (l : Nat) (f : Hsl → Hsl) : (s.updHsl l f).slots = s.slots := rfl
@[simp] theorem State.updHsl_rng (l : Nat) (f : Hsl → Hsl) : (s.updHsl l f).rng = s.rng := rfl
@[simp] theorem State.updHsl_shd (l : Nat) (f : Hsl → Hsl) : (s.updHsl l f).shd = s.shd := rfl
@[simp] theorem State.updHsl_ledger (l : Nat) (f : Hsl → Hsl) : (s.updHsl l f).ledger = s.ledger := rfl
@[simp] theorem State.updHsl_sealRot (l : Nat) (f : Hsl → Hsl) : (s.updHsl l f).sealRot = s.sealRot := rfl
@[simp] theorem State.updHsl_tmp (l : Nat) (f : Hsl → Hsl) : (s.updHsl l f).tmp = s.tmp := rfl
@[simp] theorem State.updHsl_drf (l : Nat) (f : Hsl → Hsl) : (s.updHsl l f).drf = s.drf := rfl
@[simp] theorem State.updHsl_tim (l : Nat) (f : Hsl → Hsl) : (s.updHsl l f).tim = s.tim := rfl
@[simp] theorem State.updHsl_shu (l : Nat) (f : Hsl → Hsl) : (s.updHsl l f).shu = s.shu := rfl
@[simp] theorem State.updHsl_blt (l : Nat) (f : Hsl → Hsl) : (s.updHsl l f).blt = s.blt := rfl
@[simp] theorem State.updHsl_cry (l : Nat) (f : Hsl → Hsl) : (s.updHsl l f).cry = s.cry := rfl
@[simp] theorem State.updHsl_slv (l : Nat) (f : Hsl → Hsl) : (s.updHsl l f).slv = s.slv := rfl
@[simp] theorem State.updHsl_cls (l : Nat) (f : Hsl → Hsl) : (s.updHsl l f).cls = s.cls := rfl
@[simp] theorem State.updHsl_tmg (l : Nat) (f : Hsl → Hsl) : (s.updHsl l f).tmg = s.tmg := rfl
@[simp] theorem State.updHsl_hsl (l : Nat) (f : Hsl → Hsl) : (s.updHsl l f).hsl = s.hsl.upd l f := rfl
@[simp] theorem State.updHsl_fwd (l : Nat) (f : Hsl → Hsl) : (s.updHsl l f).fwd = s.fwd := rfl
@[simp] theorem State.updHsl_trb (l : Nat) (f : Hsl → Hsl) : (s.updHsl l f).trb = s.trb := rfl
@[simp] theorem State.updHsl_pmc (l : Nat) (f : Hsl → Hsl) : (s.updHsl l f).pmc = s.pmc := rfl

/-! `State.updBlt` -/
@[simp] theorem State.updBlt_pending (f : Blt → Blt) : (s.updBlt f).pending = s.pending := rfl
@[simp] theorem State.updBlt_now (f : Blt → Blt) : (s.updBlt f).now = s.now := rfl
@[simp] theorem State.updBlt_fresh (f : Blt → Blt) : (s.updBlt f).fresh = s.fresh := rfl
@[simp] theorem State.updBlt_regs (f : Blt → Blt) : (s.updBlt f).regs = s.regs := rfl
@[simp] theorem State.updBlt_ddr (f : Blt → Blt) : (s.updBlt f).ddr = s.ddr := rfl
@[simp] theorem State.updBlt_agents (f : Blt → Blt) : (s.updBlt f).agents = s.agents := rfl
@[simp] theorem State.updBlt_irq (f : Blt → Blt) : (s.updBlt f).irq = s.irq := rfl
@[simp] theorem State.updBlt_cyc (f : Blt → Blt) : (s.updBlt f).cyc = s.cyc := rfl
@[simp] theorem State.updBlt_msi (f : Blt → Blt) : (s.updBlt f).msi = s.msi := rfl
@[simp] theorem State.updBlt_blks (f : Blt → Blt) : (s.updBlt f).blks = s.blks := rfl
@[simp] theorem State.updBlt_host (f : Blt → Blt) : (s.updBlt f).host = s.host := rfl
@[simp] theorem State.updBlt_pch (f : Blt → Blt) : (s.updBlt f).pch = s.pch := rfl
@[simp] theorem State.updBlt_slots (f : Blt → Blt) : (s.updBlt f).slots = s.slots := rfl
@[simp] theorem State.updBlt_rng (f : Blt → Blt) : (s.updBlt f).rng = s.rng := rfl
@[simp] theorem State.updBlt_shd (f : Blt → Blt) : (s.updBlt f).shd = s.shd := rfl
@[simp] theorem State.updBlt_ledger (f : Blt → Blt) : (s.updBlt f).ledger = s.ledger := rfl
@[simp] theorem State.updBlt_sealRot (f : Blt → Blt) : (s.updBlt f).sealRot = s.sealRot := rfl
@[simp] theorem State.updBlt_tmp (f : Blt → Blt) : (s.updBlt f).tmp = s.tmp := rfl
@[simp] theorem State.updBlt_drf (f : Blt → Blt) : (s.updBlt f).drf = s.drf := rfl
@[simp] theorem State.updBlt_tim (f : Blt → Blt) : (s.updBlt f).tim = s.tim := rfl
@[simp] theorem State.updBlt_shu (f : Blt → Blt) : (s.updBlt f).shu = s.shu := rfl
@[simp] theorem State.updBlt_blt (f : Blt → Blt) : (s.updBlt f).blt = f s.blt := rfl
@[simp] theorem State.updBlt_cry (f : Blt → Blt) : (s.updBlt f).cry = s.cry := rfl
@[simp] theorem State.updBlt_slv (f : Blt → Blt) : (s.updBlt f).slv = s.slv := rfl
@[simp] theorem State.updBlt_cls (f : Blt → Blt) : (s.updBlt f).cls = s.cls := rfl
@[simp] theorem State.updBlt_tmg (f : Blt → Blt) : (s.updBlt f).tmg = s.tmg := rfl
@[simp] theorem State.updBlt_hsl (f : Blt → Blt) : (s.updBlt f).hsl = s.hsl := rfl
@[simp] theorem State.updBlt_fwd (f : Blt → Blt) : (s.updBlt f).fwd = s.fwd := rfl
@[simp] theorem State.updBlt_trb (f : Blt → Blt) : (s.updBlt f).trb = s.trb := rfl
@[simp] theorem State.updBlt_pmc (f : Blt → Blt) : (s.updBlt f).pmc = s.pmc := rfl

/-! `State.updCls` -/
@[simp] theorem State.updCls_pending (f : Cls → Cls) : (s.updCls f).pending = s.pending := rfl
@[simp] theorem State.updCls_now (f : Cls → Cls) : (s.updCls f).now = s.now := rfl
@[simp] theorem State.updCls_fresh (f : Cls → Cls) : (s.updCls f).fresh = s.fresh := rfl
@[simp] theorem State.updCls_regs (f : Cls → Cls) : (s.updCls f).regs = s.regs := rfl
@[simp] theorem State.updCls_ddr (f : Cls → Cls) : (s.updCls f).ddr = s.ddr := rfl
@[simp] theorem State.updCls_agents (f : Cls → Cls) : (s.updCls f).agents = s.agents := rfl
@[simp] theorem State.updCls_irq (f : Cls → Cls) : (s.updCls f).irq = s.irq := rfl
@[simp] theorem State.updCls_cyc (f : Cls → Cls) : (s.updCls f).cyc = s.cyc := rfl
@[simp] theorem State.updCls_msi (f : Cls → Cls) : (s.updCls f).msi = s.msi := rfl
@[simp] theorem State.updCls_blks (f : Cls → Cls) : (s.updCls f).blks = s.blks := rfl
@[simp] theorem State.updCls_host (f : Cls → Cls) : (s.updCls f).host = s.host := rfl
@[simp] theorem State.updCls_pch (f : Cls → Cls) : (s.updCls f).pch = s.pch := rfl
@[simp] theorem State.updCls_slots (f : Cls → Cls) : (s.updCls f).slots = s.slots := rfl
@[simp] theorem State.updCls_rng (f : Cls → Cls) : (s.updCls f).rng = s.rng := rfl
@[simp] theorem State.updCls_shd (f : Cls → Cls) : (s.updCls f).shd = s.shd := rfl
@[simp] theorem State.updCls_ledger (f : Cls → Cls) : (s.updCls f).ledger = s.ledger := rfl
@[simp] theorem State.updCls_sealRot (f : Cls → Cls) : (s.updCls f).sealRot = s.sealRot := rfl
@[simp] theorem State.updCls_tmp (f : Cls → Cls) : (s.updCls f).tmp = s.tmp := rfl
@[simp] theorem State.updCls_drf (f : Cls → Cls) : (s.updCls f).drf = s.drf := rfl
@[simp] theorem State.updCls_tim (f : Cls → Cls) : (s.updCls f).tim = s.tim := rfl
@[simp] theorem State.updCls_shu (f : Cls → Cls) : (s.updCls f).shu = s.shu := rfl
@[simp] theorem State.updCls_blt (f : Cls → Cls) : (s.updCls f).blt = s.blt := rfl
@[simp] theorem State.updCls_cry (f : Cls → Cls) : (s.updCls f).cry = s.cry := rfl
@[simp] theorem State.updCls_slv (f : Cls → Cls) : (s.updCls f).slv = s.slv := rfl
@[simp] theorem State.updCls_cls (f : Cls → Cls) : (s.updCls f).cls = f s.cls := rfl
@[simp] theorem State.updCls_tmg (f : Cls → Cls) : (s.updCls f).tmg = s.tmg := rfl
@[simp] theorem State.updCls_hsl (f : Cls → Cls) : (s.updCls f).hsl = s.hsl := rfl
@[simp] theorem State.updCls_fwd (f : Cls → Cls) : (s.updCls f).fwd = s.fwd := rfl
@[simp] theorem State.updCls_trb (f : Cls → Cls) : (s.updCls f).trb = s.trb := rfl
@[simp] theorem State.updCls_pmc (f : Cls → Cls) : (s.updCls f).pmc = s.pmc := rfl

/-! `State.updTim` -/
@[simp] theorem State.updTim_pending (f : Tim → Tim) : (s.updTim f).pending = s.pending := rfl
@[simp] theorem State.updTim_now (f : Tim → Tim) : (s.updTim f).now = s.now := rfl
@[simp] theorem State.updTim_fresh (f : Tim → Tim) : (s.updTim f).fresh = s.fresh := rfl
@[simp] theorem State.updTim_regs (f : Tim → Tim) : (s.updTim f).regs = s.regs := rfl
@[simp] theorem State.updTim_ddr (f : Tim → Tim) : (s.updTim f).ddr = s.ddr := rfl
@[simp] theorem State.updTim_agents (f : Tim → Tim) : (s.updTim f).agents = s.agents := rfl
@[simp] theorem State.updTim_irq (f : Tim → Tim) : (s.updTim f).irq = s.irq := rfl
@[simp] theorem State.updTim_cyc (f : Tim → Tim) : (s.updTim f).cyc = s.cyc := rfl
@[simp] theorem State.updTim_msi (f : Tim → Tim) : (s.updTim f).msi = s.msi := rfl
@[simp] theorem State.updTim_blks (f : Tim → Tim) : (s.updTim f).blks = s.blks := rfl
@[simp] theorem State.updTim_host (f : Tim → Tim) : (s.updTim f).host = s.host := rfl
@[simp] theorem State.updTim_pch (f : Tim → Tim) : (s.updTim f).pch = s.pch := rfl
@[simp] theorem State.updTim_slots (f : Tim → Tim) : (s.updTim f).slots = s.slots := rfl
@[simp] theorem State.updTim_rng (f : Tim → Tim) : (s.updTim f).rng = s.rng := rfl
@[simp] theorem State.updTim_shd (f : Tim → Tim) : (s.updTim f).shd = s.shd := rfl
@[simp] theorem State.updTim_ledger (f : Tim → Tim) : (s.updTim f).ledger = s.ledger := rfl
@[simp] theorem State.updTim_sealRot (f : Tim → Tim) : (s.updTim f).sealRot = s.sealRot := rfl
@[simp] theorem State.updTim_tmp (f : Tim → Tim) : (s.updTim f).tmp = s.tmp := rfl
@[simp] theorem State.updTim_drf (f : Tim → Tim) : (s.updTim f).drf = s.drf := rfl
@[simp] theorem State.updTim_tim (f : Tim → Tim) : (s.updTim f).tim = f s.tim := rfl
@[simp] theorem State.updTim_shu (f : Tim → Tim) : (s.updTim f).shu = s.shu := rfl
@[simp] theorem State.updTim_blt (f : Tim → Tim) : (s.updTim f).blt = s.blt := rfl
@[simp] theorem State.updTim_cry (f : Tim → Tim) : (s.updTim f).cry = s.cry := rfl
@[simp] theorem State.updTim_slv (f : Tim → Tim) : (s.updTim f).slv = s.slv := rfl
@[simp] theorem State.updTim_cls (f : Tim → Tim) : (s.updTim f).cls = s.cls := rfl
@[simp] theorem State.updTim_tmg (f : Tim → Tim) : (s.updTim f).tmg = s.tmg := rfl
@[simp] theorem State.updTim_hsl (f : Tim → Tim) : (s.updTim f).hsl = s.hsl := rfl
@[simp] theorem State.updTim_fwd (f : Tim → Tim) : (s.updTim f).fwd = s.fwd := rfl
@[simp] theorem State.updTim_trb (f : Tim → Tim) : (s.updTim f).trb = s.trb := rfl
@[simp] theorem State.updTim_pmc (f : Tim → Tim) : (s.updTim f).pmc = s.pmc := rfl

/-! `State.updTmp` -/
@[simp] theorem State.updTmp_pending (f : Tmp → Tmp) : (s.updTmp f).pending = s.pending := rfl
@[simp] theorem State.updTmp_now (f : Tmp → Tmp) : (s.updTmp f).now = s.now := rfl
@[simp] theorem State.updTmp_fresh (f : Tmp → Tmp) : (s.updTmp f).fresh = s.fresh := rfl
@[simp] theorem State.updTmp_regs (f : Tmp → Tmp) : (s.updTmp f).regs = s.regs := rfl
@[simp] theorem State.updTmp_ddr (f : Tmp → Tmp) : (s.updTmp f).ddr = s.ddr := rfl
@[simp] theorem State.updTmp_agents (f : Tmp → Tmp) : (s.updTmp f).agents = s.agents := rfl
@[simp] theorem State.updTmp_irq (f : Tmp → Tmp) : (s.updTmp f).irq = s.irq := rfl
@[simp] theorem State.updTmp_cyc (f : Tmp → Tmp) : (s.updTmp f).cyc = s.cyc := rfl
@[simp] theorem State.updTmp_msi (f : Tmp → Tmp) : (s.updTmp f).msi = s.msi := rfl
@[simp] theorem State.updTmp_blks (f : Tmp → Tmp) : (s.updTmp f).blks = s.blks := rfl
@[simp] theorem State.updTmp_host (f : Tmp → Tmp) : (s.updTmp f).host = s.host := rfl
@[simp] theorem State.updTmp_pch (f : Tmp → Tmp) : (s.updTmp f).pch = s.pch := rfl
@[simp] theorem State.updTmp_slots (f : Tmp → Tmp) : (s.updTmp f).slots = s.slots := rfl
@[simp] theorem State.updTmp_rng (f : Tmp → Tmp) : (s.updTmp f).rng = s.rng := rfl
@[simp] theorem State.updTmp_shd (f : Tmp → Tmp) : (s.updTmp f).shd = s.shd := rfl
@[simp] theorem State.updTmp_ledger (f : Tmp → Tmp) : (s.updTmp f).ledger = s.ledger := rfl
@[simp] theorem State.updTmp_sealRot (f : Tmp → Tmp) : (s.updTmp f).sealRot = s.sealRot := rfl
@[simp] theorem State.updTmp_tmp (f : Tmp → Tmp) : (s.updTmp f).tmp = f s.tmp := rfl
@[simp] theorem State.updTmp_drf (f : Tmp → Tmp) : (s.updTmp f).drf = s.drf := rfl
@[simp] theorem State.updTmp_tim (f : Tmp → Tmp) : (s.updTmp f).tim = s.tim := rfl
@[simp] theorem State.updTmp_shu (f : Tmp → Tmp) : (s.updTmp f).shu = s.shu := rfl
@[simp] theorem State.updTmp_blt (f : Tmp → Tmp) : (s.updTmp f).blt = s.blt := rfl
@[simp] theorem State.updTmp_cry (f : Tmp → Tmp) : (s.updTmp f).cry = s.cry := rfl
@[simp] theorem State.updTmp_slv (f : Tmp → Tmp) : (s.updTmp f).slv = s.slv := rfl
@[simp] theorem State.updTmp_cls (f : Tmp → Tmp) : (s.updTmp f).cls = s.cls := rfl
@[simp] theorem State.updTmp_tmg (f : Tmp → Tmp) : (s.updTmp f).tmg = s.tmg := rfl
@[simp] theorem State.updTmp_hsl (f : Tmp → Tmp) : (s.updTmp f).hsl = s.hsl := rfl
@[simp] theorem State.updTmp_fwd (f : Tmp → Tmp) : (s.updTmp f).fwd = s.fwd := rfl
@[simp] theorem State.updTmp_trb (f : Tmp → Tmp) : (s.updTmp f).trb = s.trb := rfl
@[simp] theorem State.updTmp_pmc (f : Tmp → Tmp) : (s.updTmp f).pmc = s.pmc := rfl

/-! `State.updPmc` -/
@[simp] theorem State.updPmc_pending (f : Pmc → Pmc) : (s.updPmc f).pending = s.pending := rfl
@[simp] theorem State.updPmc_now (f : Pmc → Pmc) : (s.updPmc f).now = s.now := rfl
@[simp] theorem State.updPmc_fresh (f : Pmc → Pmc) : (s.updPmc f).fresh = s.fresh := rfl
@[simp] theorem State.updPmc_regs (f : Pmc → Pmc) : (s.updPmc f).regs = s.regs := rfl
@[simp] theorem State.updPmc_ddr (f : Pmc → Pmc) : (s.updPmc f).ddr = s.ddr := rfl
@[simp] theorem State.updPmc_agents (f : Pmc → Pmc) : (s.updPmc f).agents = s.agents := rfl
@[simp] theorem State.updPmc_irq (f : Pmc → Pmc) : (s.updPmc f).irq = s.irq := rfl
@[simp] theorem State.updPmc_cyc (f : Pmc → Pmc) : (s.updPmc f).cyc = s.cyc := rfl
@[simp] theorem State.updPmc_msi (f : Pmc → Pmc) : (s.updPmc f).msi = s.msi := rfl
@[simp] theorem State.updPmc_blks (f : Pmc → Pmc) : (s.updPmc f).blks = s.blks := rfl
@[simp] theorem State.updPmc_host (f : Pmc → Pmc) : (s.updPmc f).host = s.host := rfl
@[simp] theorem State.updPmc_pch (f : Pmc → Pmc) : (s.updPmc f).pch = s.pch := rfl
@[simp] theorem State.updPmc_slots (f : Pmc → Pmc) : (s.updPmc f).slots = s.slots := rfl
@[simp] theorem State.updPmc_rng (f : Pmc → Pmc) : (s.updPmc f).rng = s.rng := rfl
@[simp] theorem State.updPmc_shd (f : Pmc → Pmc) : (s.updPmc f).shd = s.shd := rfl
@[simp] theorem State.updPmc_ledger (f : Pmc → Pmc) : (s.updPmc f).ledger = s.ledger := rfl
@[simp] theorem State.updPmc_sealRot (f : Pmc → Pmc) : (s.updPmc f).sealRot = s.sealRot := rfl
@[simp] theorem State.updPmc_tmp (f : Pmc → Pmc) : (s.updPmc f).tmp = s.tmp := rfl
@[simp] theorem State.updPmc_drf (f : Pmc → Pmc) : (s.updPmc f).drf = s.drf := rfl
@[simp] theorem State.updPmc_tim (f : Pmc → Pmc) : (s.updPmc f).tim = s.tim := rfl
@[simp] theorem State.updPmc_shu (f : Pmc → Pmc) : (s.updPmc f).shu = s.shu := rfl
@[simp] theorem State.updPmc_blt (f : Pmc → Pmc) : (s.updPmc f).blt = s.blt := rfl
@[simp] theorem State.updPmc_cry (f : Pmc → Pmc) : (s.updPmc f).cry = s.cry := rfl
@[simp] theorem State.updPmc_slv (f : Pmc → Pmc) : (s.updPmc f).slv = s.slv := rfl
@[simp] theorem State.updPmc_cls (f : Pmc → Pmc) : (s.updPmc f).cls = s.cls := rfl
@[simp] theorem State.updPmc_tmg (f : Pmc → Pmc) : (s.updPmc f).tmg = s.tmg := rfl
@[simp] theorem State.updPmc_hsl (f : Pmc → Pmc) : (s.updPmc f).hsl = s.hsl := rfl
@[simp] theorem State.updPmc_fwd (f : Pmc → Pmc) : (s.updPmc f).fwd = s.fwd := rfl
@[simp] theorem State.updPmc_trb (f : Pmc → Pmc) : (s.updPmc f).trb = s.trb := rfl
@[simp] theorem State.updPmc_pmc (f : Pmc → Pmc) : (s.updPmc f).pmc = f s.pmc := rfl

/-! `State.updCry` -/
@[simp] theorem State.updCry_pending (f : Cry → Cry) : (s.updCry f).pending = s.pending := rfl
@[simp] theorem State.updCry_now (f : Cry → Cry) : (s.updCry f).now = s.now := rfl
@[simp] theorem State.updCry_fresh (f : Cry → Cry) : (s.updCry f).fresh = s.fresh := rfl
@[simp] theorem State.updCry_regs (f : Cry → Cry) : (s.updCry f).regs = s.regs := rfl
@[simp] theorem State.updCry_ddr (f : Cry → Cry) : (s.updCry f).ddr = s.ddr := rfl
@[simp] theorem State.updCry_agents (f : Cry → Cry) : (s.updCry f).agents = s.agents := rfl
@[simp] theorem State.updCry_irq (f : Cry → Cry) : (s.updCry f).irq = s.irq := rfl
@[simp] theorem State.updCry_cyc (f : Cry → Cry) : (s.updCry f).cyc = s.cyc := rfl
@[simp] theorem State.updCry_msi (f : Cry → Cry) : (s.updCry f).msi = s.msi := rfl
@[simp] theorem State.updCry_blks (f : Cry → Cry) : (s.updCry f).blks = s.blks := rfl
@[simp] theorem State.updCry_host (f : Cry → Cry) : (s.updCry f).host = s.host := rfl
@[simp] theorem State.updCry_pch (f : Cry → Cry) : (s.updCry f).pch = s.pch := rfl
@[simp] theorem State.updCry_slots (f : Cry → Cry) : (s.updCry f).slots = s.slots := rfl
@[simp] theorem State.updCry_rng (f : Cry → Cry) : (s.updCry f).rng = s.rng := rfl
@[simp] theorem State.updCry_shd (f : Cry → Cry) : (s.updCry f).shd = s.shd := rfl
@[simp] theorem State.updCry_ledger (f : Cry → Cry) : (s.updCry f).ledger = s.ledger := rfl
@[simp] theorem State.updCry_sealRot (f : Cry → Cry) : (s.updCry f).sealRot = s.sealRot := rfl
@[simp] theorem State.updCry_tmp (f : Cry → Cry) : (s.updCry f).tmp = s.tmp := rfl
@[simp] theorem State.updCry_drf (f : Cry → Cry) : (s.updCry f).drf = s.drf := rfl
@[simp] theorem State.updCry_tim (f : Cry → Cry) : (s.updCry f).tim = s.tim := rfl
@[simp] theorem State.updCry_shu (f : Cry → Cry) : (s.updCry f).shu = s.shu := rfl
@[simp] theorem State.updCry_blt (f : Cry → Cry) : (s.updCry f).blt = s.blt := rfl
@[simp] theorem State.updCry_cry (f : Cry → Cry) : (s.updCry f).cry = f s.cry := rfl
@[simp] theorem State.updCry_slv (f : Cry → Cry) : (s.updCry f).slv = s.slv := rfl
@[simp] theorem State.updCry_cls (f : Cry → Cry) : (s.updCry f).cls = s.cls := rfl
@[simp] theorem State.updCry_tmg (f : Cry → Cry) : (s.updCry f).tmg = s.tmg := rfl
@[simp] theorem State.updCry_hsl (f : Cry → Cry) : (s.updCry f).hsl = s.hsl := rfl
@[simp] theorem State.updCry_fwd (f : Cry → Cry) : (s.updCry f).fwd = s.fwd := rfl
@[simp] theorem State.updCry_trb (f : Cry → Cry) : (s.updCry f).trb = s.trb := rfl
@[simp] theorem State.updCry_pmc (f : Cry → Cry) : (s.updCry f).pmc = s.pmc := rfl

/-! `State.updDrf` -/
@[simp] theorem State.updDrf_pending (f : Drf → Drf) : (s.updDrf f).pending = s.pending := rfl
@[simp] theorem State.updDrf_now (f : Drf → Drf) : (s.updDrf f).now = s.now := rfl
@[simp] theorem State.updDrf_fresh (f : Drf → Drf) : (s.updDrf f).fresh = s.fresh := rfl
@[simp] theorem State.updDrf_regs (f : Drf → Drf) : (s.updDrf f).regs = s.regs := rfl
@[simp] theorem State.updDrf_ddr (f : Drf → Drf) : (s.updDrf f).ddr = s.ddr := rfl
@[simp] theorem State.updDrf_agents (f : Drf → Drf) : (s.updDrf f).agents = s.agents := rfl
@[simp] theorem State.updDrf_irq (f : Drf → Drf) : (s.updDrf f).irq = s.irq := rfl
@[simp] theorem State.updDrf_cyc (f : Drf → Drf) : (s.updDrf f).cyc = s.cyc := rfl
@[simp] theorem State.updDrf_msi (f : Drf → Drf) : (s.updDrf f).msi = s.msi := rfl
@[simp] theorem State.updDrf_blks (f : Drf → Drf) : (s.updDrf f).blks = s.blks := rfl
@[simp] theorem State.updDrf_host (f : Drf → Drf) : (s.updDrf f).host = s.host := rfl
@[simp] theorem State.updDrf_pch (f : Drf → Drf) : (s.updDrf f).pch = s.pch := rfl
@[simp] theorem State.updDrf_slots (f : Drf → Drf) : (s.updDrf f).slots = s.slots := rfl
@[simp] theorem State.updDrf_rng (f : Drf → Drf) : (s.updDrf f).rng = s.rng := rfl
@[simp] theorem State.updDrf_shd (f : Drf → Drf) : (s.updDrf f).shd = s.shd := rfl
@[simp] theorem State.updDrf_ledger (f : Drf → Drf) : (s.updDrf f).ledger = s.ledger := rfl
@[simp] theorem State.updDrf_sealRot (f : Drf → Drf) : (s.updDrf f).sealRot = s.sealRot := rfl
@[simp] theorem State.updDrf_tmp (f : Drf → Drf) : (s.updDrf f).tmp = s.tmp := rfl
@[simp] theorem State.updDrf_drf (f : Drf → Drf) : (s.updDrf f).drf = f s.drf := rfl
@[simp] theorem State.updDrf_tim (f : Drf → Drf) : (s.updDrf f).tim = s.tim := rfl
@[simp] theorem State.updDrf_shu (f : Drf → Drf) : (s.updDrf f).shu = s.shu := rfl
@[simp] theorem State.updDrf_blt (f : Drf → Drf) : (s.updDrf f).blt = s.blt := rfl
@[simp] theorem State.updDrf_cry (f : Drf → Drf) : (s.updDrf f).cry = s.cry := rfl
@[simp] theorem State.updDrf_slv (f : Drf → Drf) : (s.updDrf f).slv = s.slv := rfl
@[simp] theorem State.updDrf_cls (f : Drf → Drf) : (s.updDrf f).cls = s.cls := rfl
@[simp] theorem State.updDrf_tmg (f : Drf → Drf) : (s.updDrf f).tmg = s.tmg := rfl
@[simp] theorem State.updDrf_hsl (f : Drf → Drf) : (s.updDrf f).hsl = s.hsl := rfl
@[simp] theorem State.updDrf_fwd (f : Drf → Drf) : (s.updDrf f).fwd = s.fwd := rfl
@[simp] theorem State.updDrf_trb (f : Drf → Drf) : (s.updDrf f).trb = s.trb := rfl
@[simp] theorem State.updDrf_pmc (f : Drf → Drf) : (s.updDrf f).pmc = s.pmc := rfl

/-! `State.updFwd` -/
@[simp] theorem State.updFwd_pending (f : Fwd → Fwd) : (s.updFwd f).pending = s.pending := rfl
@[simp] theorem State.updFwd_now (f : Fwd → Fwd) : (s.updFwd f).now = s.now := rfl
@[simp] theorem State.updFwd_fresh (f : Fwd → Fwd) : (s.updFwd f).fresh = s.fresh := rfl
@[simp] theorem State.updFwd_regs (f : Fwd → Fwd) : (s.updFwd f).regs = s.regs := rfl
@[simp] theorem State.updFwd_ddr (f : Fwd → Fwd) : (s.updFwd f).ddr = s.ddr := rfl
@[simp] theorem State.updFwd_agents (f : Fwd → Fwd) : (s.updFwd f).agents = s.agents := rfl
@[simp] theorem State.updFwd_irq (f : Fwd → Fwd) : (s.updFwd f).irq = s.irq := rfl
@[simp] theorem State.updFwd_cyc (f : Fwd → Fwd) : (s.updFwd f).cyc = s.cyc := rfl
@[simp] theorem State.updFwd_msi (f : Fwd → Fwd) : (s.updFwd f).msi = s.msi := rfl
@[simp] theorem State.updFwd_blks (f : Fwd → Fwd) : (s.updFwd f).blks = s.blks := rfl
@[simp] theorem State.updFwd_host (f : Fwd → Fwd) : (s.updFwd f).host = s.host := rfl
@[simp] theorem State.updFwd_pch (f : Fwd → Fwd) : (s.updFwd f).pch = s.pch := rfl
@[simp] theorem State.updFwd_slots (f : Fwd → Fwd) : (s.updFwd f).slots = s.slots := rfl
@[simp] theorem State.updFwd_rng (f : Fwd → Fwd) : (s.updFwd f).rng = s.rng := rfl
@[simp] theorem State.updFwd_shd (f : Fwd → Fwd) : (s.updFwd f).shd = s.shd := rfl
@[simp] theorem State.updFwd_ledger (f : Fwd → Fwd) : (s.updFwd f).ledger = s.ledger := rfl
@[simp] theorem State.updFwd_sealRot (f : Fwd → Fwd) : (s.updFwd f).sealRot = s.sealRot := rfl
@[simp] theorem State.updFwd_tmp (f : Fwd → Fwd) : (s.updFwd f).tmp = s.tmp := rfl
@[simp] theorem State.updFwd_drf (f : Fwd → Fwd) : (s.updFwd f).drf = s.drf := rfl
@[simp] theorem State.updFwd_tim (f : Fwd → Fwd) : (s.updFwd f).tim = s.tim := rfl
@[simp] theorem State.updFwd_shu (f : Fwd → Fwd) : (s.updFwd f).shu = s.shu := rfl
@[simp] theorem State.updFwd_blt (f : Fwd → Fwd) : (s.updFwd f).blt = s.blt := rfl
@[simp] theorem State.updFwd_cry (f : Fwd → Fwd) : (s.updFwd f).cry = s.cry := rfl
@[simp] theorem State.updFwd_slv (f : Fwd → Fwd) : (s.updFwd f).slv = s.slv := rfl
@[simp] theorem State.updFwd_cls (f : Fwd → Fwd) : (s.updFwd f).cls = s.cls := rfl
@[simp] theorem State.updFwd_tmg (f : Fwd → Fwd) : (s.updFwd f).tmg = s.tmg := rfl
@[simp] theorem State.updFwd_hsl (f : Fwd → Fwd) : (s.updFwd f).hsl = s.hsl := rfl
@[simp] theorem State.updFwd_fwd (f : Fwd → Fwd) : (s.updFwd f).fwd = f s.fwd := rfl
@[simp] theorem State.updFwd_trb (f : Fwd → Fwd) : (s.updFwd f).trb = s.trb := rfl
@[simp] theorem State.updFwd_pmc (f : Fwd → Fwd) : (s.updFwd f).pmc = s.pmc := rfl

/-! `State.updSlv` -/
@[simp] theorem State.updSlv_pending (f : Slv → Slv) : (s.updSlv f).pending = s.pending := rfl
@[simp] theorem State.updSlv_now (f : Slv → Slv) : (s.updSlv f).now = s.now := rfl
@[simp] theorem State.updSlv_fresh (f : Slv → Slv) : (s.updSlv f).fresh = s.fresh := rfl
@[simp] theorem State.updSlv_regs (f : Slv → Slv) : (s.updSlv f).regs = s.regs := rfl
@[simp] theorem State.updSlv_ddr (f : Slv → Slv) : (s.updSlv f).ddr = s.ddr := rfl
@[simp] theorem State.updSlv_agents (f : Slv → Slv) : (s.updSlv f).agents = s.agents := rfl
@[simp] theorem State.updSlv_irq (f : Slv → Slv) : (s.updSlv f).irq = s.irq := rfl
@[simp] theorem State.updSlv_cyc (f : Slv → Slv) : (s.updSlv f).cyc = s.cyc := rfl
@[simp] theorem State.updSlv_msi (f : Slv → Slv) : (s.updSlv f).msi = s.msi := rfl
@[simp] theorem State.updSlv_blks (f : Slv → Slv) : (s.updSlv f).blks = s.blks := rfl
@[simp] theorem State.updSlv_host (f : Slv → Slv) : (s.updSlv f).host = s.host := rfl
@[simp] theorem State.updSlv_pch (f : Slv → Slv) : (s.updSlv f).pch = s.pch := rfl
@[simp] theorem State.updSlv_slots (f : Slv → Slv) : (s.updSlv f).slots = s.slots := rfl
@[simp] theorem State.updSlv_rng (f : Slv → Slv) : (s.updSlv f).rng = s.rng := rfl
@[simp] theorem State.updSlv_shd (f : Slv → Slv) : (s.updSlv f).shd = s.shd := rfl
@[simp] theorem State.updSlv_ledger (f : Slv → Slv) : (s.updSlv f).ledger = s.ledger := rfl
@[simp] theorem State.updSlv_sealRot (f : Slv → Slv) : (s.updSlv f).sealRot = s.sealRot := rfl
@[simp] theorem State.updSlv_tmp (f : Slv → Slv) : (s.updSlv f).tmp = s.tmp := rfl
@[simp] theorem State.updSlv_drf (f : Slv → Slv) : (s.updSlv f).drf = s.drf := rfl
@[simp] theorem State.updSlv_tim (f : Slv → Slv) : (s.updSlv f).tim = s.tim := rfl
@[simp] theorem State.updSlv_shu (f : Slv → Slv) : (s.updSlv f).shu = s.shu := rfl
@[simp] theorem State.updSlv_blt (f : Slv → Slv) : (s.updSlv f).blt = s.blt := rfl
@[simp] theorem State.updSlv_cry (f : Slv → Slv) : (s.updSlv f).cry = s.cry := rfl
@[simp] theorem State.updSlv_slv (f : Slv → Slv) : (s.updSlv f).slv = f s.slv := rfl
@[simp] theorem State.updSlv_cls (f : Slv → Slv) : (s.updSlv f).cls = s.cls := rfl
@[simp] theorem State.updSlv_tmg (f : Slv → Slv) : (s.updSlv f).tmg = s.tmg := rfl
@[simp] theorem State.updSlv_hsl (f : Slv → Slv) : (s.updSlv f).hsl = s.hsl := rfl
@[simp] theorem State.updSlv_fwd (f : Slv → Slv) : (s.updSlv f).fwd = s.fwd := rfl
@[simp] theorem State.updSlv_trb (f : Slv → Slv) : (s.updSlv f).trb = s.trb := rfl
@[simp] theorem State.updSlv_pmc (f : Slv → Slv) : (s.updSlv f).pmc = s.pmc := rfl

/-! `State.updShu` -/
@[simp] theorem State.updShu_pending (f : Shu → Shu) : (s.updShu f).pending = s.pending := rfl
@[simp] theorem State.updShu_now (f : Shu → Shu) : (s.updShu f).now = s.now := rfl
@[simp] theorem State.updShu_fresh (f : Shu → Shu) : (s.updShu f).fresh = s.fresh := rfl
@[simp] theorem State.updShu_regs (f : Shu → Shu) : (s.updShu f).regs = s.regs := rfl
@[simp] theorem State.updShu_ddr (f : Shu → Shu) : (s.updShu f).ddr = s.ddr := rfl
@[simp] theorem State.updShu_agents (f : Shu → Shu) : (s.updShu f).agents = s.agents := rfl
@[simp] theorem State.updShu_irq (f : Shu → Shu) : (s.updShu f).irq = s.irq := rfl
@[simp] theorem State.updShu_cyc (f : Shu → Shu) : (s.updShu f).cyc = s.cyc := rfl
@[simp] theorem State.updShu_msi (f : Shu → Shu) : (s.updShu f).msi = s.msi := rfl
@[simp] theorem State.updShu_blks (f : Shu → Shu) : (s.updShu f).blks = s.blks := rfl
@[simp] theorem State.updShu_host (f : Shu → Shu) : (s.updShu f).host = s.host := rfl
@[simp] theorem State.updShu_pch (f : Shu → Shu) : (s.updShu f).pch = s.pch := rfl
@[simp] theorem State.updShu_slots (f : Shu → Shu) : (s.updShu f).slots = s.slots := rfl
@[simp] theorem State.updShu_rng (f : Shu → Shu) : (s.updShu f).rng = s.rng := rfl
@[simp] theorem State.updShu_shd (f : Shu → Shu) : (s.updShu f).shd = s.shd := rfl
@[simp] theorem State.updShu_ledger (f : Shu → Shu) : (s.updShu f).ledger = s.ledger := rfl
@[simp] theorem State.updShu_sealRot (f : Shu → Shu) : (s.updShu f).sealRot = s.sealRot := rfl
@[simp] theorem State.updShu_tmp (f : Shu → Shu) : (s.updShu f).tmp = s.tmp := rfl
@[simp] theorem State.updShu_drf (f : Shu → Shu) : (s.updShu f).drf = s.drf := rfl
@[simp] theorem State.updShu_tim (f : Shu → Shu) : (s.updShu f).tim = s.tim := rfl
@[simp] theorem State.updShu_shu (f : Shu → Shu) : (s.updShu f).shu = f s.shu := rfl
@[simp] theorem State.updShu_blt (f : Shu → Shu) : (s.updShu f).blt = s.blt := rfl
@[simp] theorem State.updShu_cry (f : Shu → Shu) : (s.updShu f).cry = s.cry := rfl
@[simp] theorem State.updShu_slv (f : Shu → Shu) : (s.updShu f).slv = s.slv := rfl
@[simp] theorem State.updShu_cls (f : Shu → Shu) : (s.updShu f).cls = s.cls := rfl
@[simp] theorem State.updShu_tmg (f : Shu → Shu) : (s.updShu f).tmg = s.tmg := rfl
@[simp] theorem State.updShu_hsl (f : Shu → Shu) : (s.updShu f).hsl = s.hsl := rfl
@[simp] theorem State.updShu_fwd (f : Shu → Shu) : (s.updShu f).fwd = s.fwd := rfl
@[simp] theorem State.updShu_trb (f : Shu → Shu) : (s.updShu f).trb = s.trb := rfl
@[simp] theorem State.updShu_pmc (f : Shu → Shu) : (s.updShu f).pmc = s.pmc := rfl

/-! `State.updTmg` -/
@[simp] theorem State.updTmg_pending (f : Tmg → Tmg) : (s.updTmg f).pending = s.pending := rfl
@[simp] theorem State.updTmg_now (f : Tmg → Tmg) : (s.updTmg f).now = s.now := rfl
@[simp] theorem State.updTmg_fresh (f : Tmg → Tmg) : (s.updTmg f).fresh = s.fresh := rfl
@[simp] theorem State.updTmg_regs (f : Tmg → Tmg) : (s.updTmg f).regs = s.regs := rfl
@[simp] theorem State.updTmg_ddr (f : Tmg → Tmg) : (s.updTmg f).ddr = s.ddr := rfl
@[simp] theorem State.updTmg_agents (f : Tmg → Tmg) : (s.updTmg f).agents = s.agents := rfl
@[simp] theorem State.updTmg_irq (f : Tmg → Tmg) : (s.updTmg f).irq = s.irq := rfl
@[simp] theorem State.updTmg_cyc (f : Tmg → Tmg) : (s.updTmg f).cyc = s.cyc := rfl
@[simp] theorem State.updTmg_msi (f : Tmg → Tmg) : (s.updTmg f).msi = s.msi := rfl
@[simp] theorem State.updTmg_blks (f : Tmg → Tmg) : (s.updTmg f).blks = s.blks := rfl
@[simp] theorem State.updTmg_host (f : Tmg → Tmg) : (s.updTmg f).host = s.host := rfl
@[simp] theorem State.updTmg_pch (f : Tmg → Tmg) : (s.updTmg f).pch = s.pch := rfl
@[simp] theorem State.updTmg_slots (f : Tmg → Tmg) : (s.updTmg f).slots = s.slots := rfl
@[simp] theorem State.updTmg_rng (f : Tmg → Tmg) : (s.updTmg f).rng = s.rng := rfl
@[simp] theorem State.updTmg_shd (f : Tmg → Tmg) : (s.updTmg f).shd = s.shd := rfl
@[simp] theorem State.updTmg_ledger (f : Tmg → Tmg) : (s.updTmg f).ledger = s.ledger := rfl
@[simp] theorem State.updTmg_sealRot (f : Tmg → Tmg) : (s.updTmg f).sealRot = s.sealRot := rfl
@[simp] theorem State.updTmg_tmp (f : Tmg → Tmg) : (s.updTmg f).tmp = s.tmp := rfl
@[simp] theorem State.updTmg_drf (f : Tmg → Tmg) : (s.updTmg f).drf = s.drf := rfl
@[simp] theorem State.updTmg_tim (f : Tmg → Tmg) : (s.updTmg f).tim = s.tim := rfl
@[simp] theorem State.updTmg_shu (f : Tmg → Tmg) : (s.updTmg f).shu = s.shu := rfl
@[simp] theorem State.updTmg_blt (f : Tmg → Tmg) : (s.updTmg f).blt = s.blt := rfl
@[simp] theorem State.updTmg_cry (f : Tmg → Tmg) : (s.updTmg f).cry = s.cry := rfl
@[simp] theorem State.updTmg_slv (f : Tmg → Tmg) : (s.updTmg f).slv = s.slv := rfl
@[simp] theorem State.updTmg_cls (f : Tmg → Tmg) : (s.updTmg f).cls = s.cls := rfl
@[simp] theorem State.updTmg_tmg (f : Tmg → Tmg) : (s.updTmg f).tmg = f s.tmg := rfl
@[simp] theorem State.updTmg_hsl (f : Tmg → Tmg) : (s.updTmg f).hsl = s.hsl := rfl
@[simp] theorem State.updTmg_fwd (f : Tmg → Tmg) : (s.updTmg f).fwd = s.fwd := rfl
@[simp] theorem State.updTmg_trb (f : Tmg → Tmg) : (s.updTmg f).trb = s.trb := rfl
@[simp] theorem State.updTmg_pmc (f : Tmg → Tmg) : (s.updTmg f).pmc = s.pmc := rfl

/-! `State.updCyc` -/
@[simp] theorem State.updCyc_pending (f : Cyc → Cyc) : (s.updCyc f).pending = s.pending := rfl
@[simp] theorem State.updCyc_now (f : Cyc → Cyc) : (s.updCyc f).now = s.now := rfl
@[simp] theorem State.updCyc_fresh (f : Cyc → Cyc) : (s.updCyc f).fresh = s.fresh := rfl
@[simp] theorem State.updCyc_regs (f : Cyc → Cyc) : (s.updCyc f).regs = s.regs := rfl
@[simp] theorem State.updCyc_ddr (f : Cyc → Cyc) : (s.updCyc f).ddr = s.ddr := rfl
@[simp] theorem State.updCyc_agents (f : Cyc → Cyc) : (s.updCyc f).agents = s.agents := rfl
@[simp] theorem State.updCyc_irq (f : Cyc → Cyc) : (s.updCyc f).irq = s.irq := rfl
@[simp] theorem State.updCyc_cyc (f : Cyc → Cyc) : (s.updCyc f).cyc = f s.cyc := rfl
@[simp] theorem State.updCyc_msi (f : Cyc → Cyc) : (s.updCyc f).msi = s.msi := rfl
@[simp] theorem State.updCyc_blks (f : Cyc → Cyc) : (s.updCyc f).blks = s.blks := rfl
@[simp] theorem State.updCyc_host (f : Cyc → Cyc) : (s.updCyc f).host = s.host := rfl
@[simp] theorem State.updCyc_pch (f : Cyc → Cyc) : (s.updCyc f).pch = s.pch := rfl
@[simp] theorem State.updCyc_slots (f : Cyc → Cyc) : (s.updCyc f).slots = s.slots := rfl
@[simp] theorem State.updCyc_rng (f : Cyc → Cyc) : (s.updCyc f).rng = s.rng := rfl
@[simp] theorem State.updCyc_shd (f : Cyc → Cyc) : (s.updCyc f).shd = s.shd := rfl
@[simp] theorem State.updCyc_ledger (f : Cyc → Cyc) : (s.updCyc f).ledger = s.ledger := rfl
@[simp] theorem State.updCyc_sealRot (f : Cyc → Cyc) : (s.updCyc f).sealRot = s.sealRot := rfl
@[simp] theorem State.updCyc_tmp (f : Cyc → Cyc) : (s.updCyc f).tmp = s.tmp := rfl
@[simp] theorem State.updCyc_drf (f : Cyc → Cyc) : (s.updCyc f).drf = s.drf := rfl
@[simp] theorem State.updCyc_tim (f : Cyc → Cyc) : (s.updCyc f).tim = s.tim := rfl
@[simp] theorem State.updCyc_shu (f : Cyc → Cyc) : (s.updCyc f).shu = s.shu := rfl
@[simp] theorem State.updCyc_blt (f : Cyc → Cyc) : (s.updCyc f).blt = s.blt := rfl
@[simp] theorem State.updCyc_cry (f : Cyc → Cyc) : (s.updCyc f).cry = s.cry := rfl
@[simp] theorem State.updCyc_slv (f : Cyc → Cyc) : (s.updCyc f).slv = s.slv := rfl
@[simp] theorem State.updCyc_cls (f : Cyc → Cyc) : (s.updCyc f).cls = s.cls := rfl
@[simp] theorem State.updCyc_tmg (f : Cyc → Cyc) : (s.updCyc f).tmg = s.tmg := rfl
@[simp] theorem State.updCyc_hsl (f : Cyc → Cyc) : (s.updCyc f).hsl = s.hsl := rfl
@[simp] theorem State.updCyc_fwd (f : Cyc → Cyc) : (s.updCyc f).fwd = s.fwd := rfl
@[simp] theorem State.updCyc_trb (f : Cyc → Cyc) : (s.updCyc f).trb = s.trb := rfl
@[simp] theorem State.updCyc_pmc (f : Cyc → Cyc) : (s.updCyc f).pmc = s.pmc := rfl

end Sys2Proof.Machine
end

