-- ==== Sys2Proof/Laws/Ops.lean ====
section
/-! SUPPORT. Reads after the shared operations: registers and their fields, counters, DDR-5, events, the bridge. -/
namespace Sys2Proof.Machine

variable (s : State)

-- ===== words and fields =====

@[simp] theorem word_toNat (w : Word) : word w.toNat = w := BitVec.ofNat_toNat _ _

theorem bget_lt (x : Word) (lo w : Nat) : bget x lo w < 2 ^ w := Nat.mod_lt _ (Nat.two_pow_pos w)

-- ===== the register file =====

/-- Reads depend on the register file alone. -/
theorem State.rd_of_regs {s t : State} (h : t.regs = s.regs) (b : Nat) : t.rd b = s.rd b := by unfold State.rd; rw [h]

@[simp] theorem State.rd_updCyc (f : Cyc → Cyc) (b : Nat) : (s.updCyc f).rd b = s.rd b := State.rd_of_regs (s := s) rfl b

@[simp] theorem State.rd_wr_same (a : Nat) (v : Word) : (s.wr a v).rd a = v := tget_tset_same _ _ _ _

theorem State.rd_wr_ne {a b : Nat} (v : Word) (h : b ≠ a) : (s.wr a v).rd b = s.rd b := by
  unfold State.rd State.wr
  exact tget_tset_ne _ _ _ _ h

theorem State.rd_wr (a b : Nat) (v : Word) : (s.wr a v).rd b = if b = a then v else s.rd b := by
  split
  · rename_i h; subst h; simp
  · rename_i h; exact s.rd_wr_ne v h

theorem State.rd_p_same (a : Nat) (f : Fld) (v : Nat) : (s.p a f v).rd (a + 4 * f.word) = bset (s.rd (a + 4 * f.word)) f.lo f.w v := by
  simp [State.p]

theorem State.rd_p_ne {a b : Nat} (f : Fld) (v : Nat) (h : b ≠ a + 4 * f.word) : (s.p a f v).rd b = s.rd b :=
  s.rd_wr_ne _ h

theorem State.rd_wr64_ne {a b : Nat} (v : Nat) (h : b ≠ a) (h4 : b ≠ a + 4) : (s.wr64 a v).rd b = s.rd b := by
  unfold State.wr64
  rw [State.rd_wr_ne _ _ h4, State.rd_wr_ne _ _ h]

theorem State.rd_add_ne {a b : Nat} (n : Nat) (h : b ≠ a) (h4 : b ≠ a + 4) : (s.add a n).rd b = s.rd b := s.rd_wr64_ne _ h h4

theorem State.rd_inc_ne {a b : Nat} (h : b ≠ a) (h4 : b ≠ a + 4) : (s.inc a).rd b = s.rd b := s.rd_add_ne _ h h4

/-- A 64-bit pair holds what was written, modulo 2^64. -/
theorem State.rd64_wr64 (a v : Nat) : (s.wr64 a v).rd64 a = v % 2 ^ 64 := by
  have e : a ≠ a + 4 := by omega
  have h1 : (s.wr64 a v).rd a = word v := by
    unfold State.wr64
    rw [State.rd_wr_ne _ _ e, State.rd_wr_same]
  have h2 : (s.wr64 a v).rd (a + 4) = word (v / 2 ^ 32) := by
    unfold State.wr64
    rw [State.rd_wr_same]
  unfold State.rd64
  rw [h1, h2]
  simp only [word, BitVec.toNat_ofNat]
  omega

/-- A counter counts modulo 2^64 (R35). -/
theorem State.rd64_add (a n : Nat) : (s.add a n).rd64 a = (s.rd64 a + n) % 2 ^ 64 := State.rd64_wr64 _ _ _

-- ===== DDR-5 =====

@[simp] theorem State.ddrRd_ddrWr_same (a : Nat) (v : Byte) : (s.ddrWr a v).ddrRd a = v := tget_tset_same _ _ _ _

theorem State.ddrRd_ddrWr_ne {a b : Nat} (v : Byte) (h : b ≠ a) : (s.ddrWr a v).ddrRd b = s.ddrRd b := by
  unfold State.ddrRd State.ddrWr
  exact tget_tset_ne _ _ _ _ h

/-- A write of consecutive bytes leaves every other byte as it was. -/
theorem State.ddrRd_ddrWrs_ne {a b : Nat} (l : List Byte) (h : b < a ∨ a + l.length ≤ b) : (s.ddrWrs a l).ddrRd b = s.ddrRd b := by
  induction l generalizing s a with
  | nil => rfl
  | cons x l ih =>
    simp only [List.length_cons] at h
    unfold State.ddrWrs
    rw [ih _ (by omega), State.ddrRd_ddrWr_ne _ _ (by omega)]

/-- Every memory operation keeps the canonical form of DDR-5. -/
theorem State.ddrWr_wf (a : Nat) (v : Byte) (h : Memory.wf s.ddr = true) : Memory.wf (s.ddrWr a v).ddr = true :=
  twf_tset (fun _ => ddrInit) s.ddr a v h

theorem State.ddrWrs_wf (a : Nat) (l : List Byte) (h : Memory.wf s.ddr = true) : Memory.wf (s.ddrWrs a l).ddr = true := by
  induction l generalizing s a with
  | nil => exact h
  | cons x l ih => exact ih _ _ (s.ddrWr_wf a x h)

-- ===== events =====

/-- Sending a vector changes no register of BAR0 but the port's own copies. -/
theorem State.rd_sendMsi (n p b : Nat) (hb : b < 0x10000000) : (s.sendMsi n p).rd b = s.rd b := by
  unfold State.sendMsi
  extract_lets v
  split
  · exact s.rd_wr_ne _ (by show b ≠ akey p _; unfold akey; omega)
  · rfl

theorem State.rd_irqPort (n p b : Nat) (hb : b < 0x10000000) : (s.irqPort n p).rd b = s.rd b := by
  unfold State.irqPort
  split
  · extract_lets q
    split
    · rfl
    · exact s.rd_sendMsi n p b hb
  · rfl

theorem State.rd_latchRole (k r e b : Nat) : (s.latchRole k r e).rd b = s.rd b := by
  unfold State.latchRole
  split
  · rfl
  · refine State.rd_of_regs (s := s) ?_ b
    rfl

theorem State.rd_foldl {β : Type} (l : List β) (f : State → β → State) (b : Nat) (h : ∀ s x, (f s x).rd b = s.rd b) :
    (l.foldl f s).rd b = s.rd b := by
  induction l generalizing s with
  | nil => rfl
  | cons x l ih => exact (ih _).trans (h s x)

theorem State.rd_bindEvent (n i b : Nat) : (s.bindEvent n i).rd b = s.rd b := by
  unfold State.bindEvent
  refine s.rd_foldl _ _ b (fun s x => ?_)
  split
  · exact s.rd_latchRole _ _ _ b
  · rfl

/-- An assertion event changes no register of BAR0. -/
theorem State.rd_irqEvent (n b : Nat) (hb : b < 0x10000000) : (s.irqEvent n).rd b = s.rd b := by
  unfold State.irqEvent
  rw [State.rd_bindEvent, State.rd_irqPort _ _ _ _ hb, State.rd_irqPort _ _ _ _ hb]

/-- A refused clear changes no other register (R55). -/
theorem State.rd_unclear_ne {a b : Nat} (h : b ≠ a) : (s.unclear a).rd b = s.rd b := by
  unfold State.unclear
  split
  · exact (State.rd_updCyc _ _ b).trans (s.rd_wr_ne _ h)
  · rfl

/-- A refused clear leaves every bit of its register that is neither an event bit nor writable (R55). -/
theorem State.getLsbD_rd_unclear {a i : Nat} (h : (sqcBits a ||| rwBits a).testBit i = false) :
    ((s.unclear a).rd a).getLsbD i = (s.rd a).getLsbD i := by
  unfold State.unclear
  split
  · rename_i old m _
    rw [State.rd_updCyc]
    unfold State.wrMask
    rw [State.rd_wr_same]
    by_cases hi : i < 32
    · have hm : m.toNat &&& (sqcBits a ||| rwBits a) < 2 ^ 32 := Nat.lt_of_le_of_lt Nat.and_le_left m.isLt
      have h2 : (m.toNat &&& (sqcBits a ||| rwBits a)).testBit i = false := by rw [Nat.testBit_and, h, Bool.and_false]
      have h3 : (0xFFFFFFFF - (m.toNat &&& (sqcBits a ||| rwBits a))).testBit i = true := by
        have h4 := Nat.testBit_two_pow_sub_succ hm i
        rw [h2] at h4
        rw [show 0xFFFFFFFF - (m.toNat &&& (sqcBits a ||| rwBits a)) = 2 ^ 32 - ((m.toNat &&& (sqcBits a ||| rwBits a)) + 1) by omega]
        rw [h4, decide_eq_true hi]
        rfl
      simp only [word, BitVec.getLsbD_ofNat, Nat.testBit_or, Nat.testBit_and, h2, h3, hi, decide_true, Bool.true_and, Bool.and_true,
        Bool.and_false, Bool.or_false, BitVec.testBit_toNat]
    · rw [BitVec.getLsbD_of_ge _ _ (by omega), BitVec.getLsbD_of_ge _ _ (by omega)]
  · rfl

/-- Without a clear in this cycle nothing is refused (R55). -/
theorem State.unclear_none {a : Nat} (h : s.cyc.clr.look a = none) : s.unclear a = s := by
  unfold State.unclear
  rw [h]

/-- What an event puts into its register outside a blanking window: its bits, and its sequence number (R53). -/
theorem State.rd_event_eq (a bits : Nat) (ha : a < 0x10000000) (hb : (s.blks.look (blockOf a)).blanked = false) :
    (s.event a bits).rd a = bset ((s.unclear a).rd a ||| word bits) 24 8 ((s.unclear a).nextSeq a) := by
  unfold State.event
  rw [if_neg (by simp [hb])]
  extract_lets w s'
  have h : s'.rd a = bset (w.rd a ||| word bits) 24 8 (w.nextSeq a) := (State.rd_updCyc _ _ a).trans (w.rd_wr_same _ _)
  split
  · split
    · rw [State.rd_irqEvent _ _ _ ha, h]
    · exact h
  · exact h

/-- An event in a cycle without a clear: the bits join, and the sequence number advances once in the cycle (R53). -/
theorem State.rd_event_same (a bits : Nat) (ha : a < 0x10000000) (hb : (s.blks.look (blockOf a)).blanked = false)
    (hc : s.cyc.clr.look a = none) : (s.event a bits).rd a = bset (s.rd a ||| word bits) 24 8 (s.nextSeq a) := by
  rw [s.rd_event_eq a bits ha hb, s.unclear_none hc]

/-- An event changes no other register of BAR0 but the count of blanked events. -/
theorem State.rd_event_ne {a b : Nat} (bits : Nat) (hb : b < 0x10000000) (h : b ≠ a) (h1 : b ≠ TMP_BLANKED) (h2 : b ≠ TMP_BLANKED + 4) :
    (s.event a bits).rd b = s.rd b := by
  unfold State.event
  split
  · exact s.rd_inc_ne h1 h2
  · extract_lets w s'
    have hs : s'.rd b = s.rd b := (State.rd_updCyc _ _ b).trans ((w.rd_wr_ne _ h).trans (s.rd_unclear_ne h))
    split
    · split
      · rw [State.rd_irqEvent _ _ _ hb, hs]
      · exact hs
    · exact hs

-- ===== the bridge =====

/-- A write through the bridge is lost with the link, dropped with an error, or taken by its block. -/
theorem State.bridge_cases (ag : Agent) (off be : Nat) (k : State → State) :
    s.bridge ag off be k = s ∨ (∃ f, s.bridge ag off be k = s.hpiErr f (agCode ag) 0 off) ∨ s.bridge ag off be k = k s := by
  unfold State.bridge
  repeat' split
  all_goals first | exact .inl rfl | exact .inr (.inl ⟨_, rfl⟩) | exact .inr (.inr rfl)

/-- A write that its block takes: the link is up, all four byte enables are set, the block answers, the offset is mapped. -/
theorem State.bridge_taken (ag : Agent) (off : Nat) (k : State → State) (hl : s.linkUp ag = true) (hb : blockOf off < 200)
    (ha : s.avail (blockOf off) = true) (hf : (famOf off).isSome = true) : s.bridge ag off 15 k = k s := by
  unfold State.bridge
  have hn : (famOf off).isNone = false := by cases h : famOf off <;> simp_all
  simp [hl, ha, hn, Nat.not_le.mpr hb]

end Sys2Proof.Machine
end

