-- ==== Sys2Proof/Laws/Regs.lean ====
section
/-! SUPPORT. Which registers an event and a record of the Bolt may write: every other register reads as before. -/
namespace Sys2Proof.Machine

set_option linter.all false

/-- From `s0` to `s` only registers that `P` takes in have changed. -/
structure Within (P : Nat → Bool) (s0 s : State) : Prop where
  of : ∀ a, P a = false → s.rd a = s0.rd a

variable {P Q : Nat → Bool} {s0 s : State}

theorem Within.refl (P : Nat → Bool) (s : State) : Within P s s := ⟨fun _ _ => rfl⟩

theorem Within.mono (h : Within P s0 s) (hpq : ∀ a, P a = true → Q a = true) : Within Q s0 s :=
  ⟨fun a ha => h.of a (by cases hp : P a with
    | false => rfl
    | true => rw [hpq a hp] at ha; cases ha)⟩

theorem Within.trans {t : State} (h : Within P s0 s) (h' : Within P s t) : Within P s0 t :=
  ⟨fun a ha => (h'.of a ha).trans (h.of a ha)⟩

theorem Within.regs {t : State} (h : Within P s0 s) (e : t.regs = s.regs) : Within P s0 t :=
  ⟨fun a ha => (State.rd_of_regs e a).trans (h.of a ha)⟩

theorem Within.wr {a : Nat} (v : Word) (hP : P a = true) (h : Within P s0 s) : Within P s0 (s.wr a v) :=
  ⟨fun b hb => (s.rd_wr_ne v (by intro e; subst e; rw [hP] at hb; cases hb)).trans (h.of b hb)⟩

theorem Within.p {a : Nat} (f : Fld) (v : Nat) (hP : P (a + 4 * f.word) = true) (h : Within P s0 s) : Within P s0 (s.p a f v) :=
  h.wr _ hP

theorem Within.wr64 {a : Nat} (v : Nat) (hP : P a = true) (hP4 : P (a + 4) = true) (h : Within P s0 s) : Within P s0 (s.wr64 a v) :=
  (h.wr _ hP).wr _ hP4

theorem Within.add {a : Nat} (n : Nat) (hP : P a = true) (hP4 : P (a + 4) = true) (h : Within P s0 s) : Within P s0 (s.add a n) :=
  h.wr64 _ hP hP4

theorem Within.inc {a : Nat} (hP : P a = true) (hP4 : P (a + 4) = true) (h : Within P s0 s) : Within P s0 (s.inc a) := h.add 1 hP hP4

theorem Within.foldl {β : Type} {f : State → β → State} {l : List β} (hf : ∀ s x, Within P s0 s → Within P s0 (f s x))
    (h : Within P s0 s) : Within P s0 (l.foldl f s) := by
  induction l generalizing s with
  | nil => exact h
  | cons x l ih => exact ih (hf s x h)

theorem Within.foldl_fst {β γ : Type} {f : State × γ → β → State × γ} {l : List β} {s : State × γ}
    (hf : ∀ s x, x ∈ l → Within P s0 s.1 → Within P s0 (f s x).1) (h : Within P s0 s.1) : Within P s0 (l.foldl f s).1 := by
  induction l generalizing s with
  | nil => exact h
  | cons x l ih => exact ih (fun s y hy => hf s y (List.mem_cons_of_mem _ hy)) (hf s x List.mem_cons_self h)

theorem Within.iter {n : Nat} {f : Nat → State → State} (hf : ∀ i s, i < n → Within P s0 s → Within P s0 (f i s)) (h : Within P s0 s) :
    Within P s0 (iter n f s) := by
  induction n with
  | zero => exact h
  | succ n ih => exact hf _ _ (Nat.lt_succ_self n) (ih (fun i s hi => hf i s (Nat.lt_succ_of_lt hi)))

-- ===== events =====

/-- The registers of an event's own cause are among those of `P`. -/
abbrev TakesIrq (P : Nat → Bool) : Prop := ∀ a, irqReg a = true → P a = true

theorem akey_le {p a b : Nat} (h : a ≤ b) : akey p a ≤ akey p b := Nat.add_le_add_right h _
theorem akey_lt {p a b : Nat} (h : a < b) : akey p a < akey p b := Nat.add_lt_add_right h _

theorem irqReg_pba {p v : Nat} (hp : p ≤ 1) (hv : v < 64) : irqReg (akey p (HPI_PBA v)) = true := by
  have h0 : HPI_PBA 0 ≤ HPI_PBA v := by unfold HPI_PBA; omega
  have h1 : HPI_PBA v < HPI_PBA 64 := by unfold HPI_PBA; omega
  have hp : p = 0 ∨ p = 1 := by omega
  unfold irqReg
  rcases hp with rfl | rfl
  · rw [Bool.or_eq_true, Bool.or_eq_true]
    exact .inl (.inr (by rw [decide_eq_true (akey_le h0), decide_eq_true (akey_lt h1)]; rfl))
  · rw [Bool.or_eq_true]
    exact .inr (by rw [decide_eq_true (akey_le h0), decide_eq_true (akey_lt h1)]; rfl)

theorem State.sendMsi_within (hP : TakesIrq P) (n p : Nat) (hp : p ≤ 1) (h : Within P s0 s) : Within P s0 (s.sendMsi n p) := by
  unfold State.sendMsi
  extract_lets v
  split
  · refine h.wr _ (hP _ (irqReg_pba hp ?_))
    have : v < 2 ^ HPI_IRQ_ROUTE_VECTOR.w := bget_lt _ _ _
    simp only [HPI_IRQ_ROUTE_VECTOR] at this
    omega
  · exact h.regs rfl

theorem State.irqPort_within (hP : TakesIrq P) (n p : Nat) (hp : p ≤ 1) (h : Within P s0 s) : Within P s0 (s.irqPort n p) := by
  unfold State.irqPort
  split
  · extract_lets q
    split
    · exact h.regs rfl
    · exact (State.sendMsi_within hP n p hp h).regs rfl
  · exact h

theorem State.latchRole_within (k r e : Nat) (h : Within P s0 s) : Within P s0 (s.latchRole k r e) :=
  ⟨fun a ha => (s.rd_latchRole k r e a).trans (h.of a ha)⟩

theorem State.bindEvent_within (n i : Nat) (h : Within P s0 s) : Within P s0 (s.bindEvent n i) :=
  ⟨fun a ha => (s.rd_bindEvent n i a).trans (h.of a ha)⟩

theorem State.irqEvent_within (hP : TakesIrq P) (n : Nat) (h : Within P s0 s) : Within P s0 (s.irqEvent n) :=
  State.bindEvent_within _ _ (State.irqPort_within hP _ _ (by decide) (State.irqPort_within hP _ _ (by decide) h))

theorem irqReg_blanked : irqReg TMP_BLANKED = true ∧ irqReg (TMP_BLANKED + 4) = true := by decide

theorem State.updCyc_within (f : Cyc → Cyc) (h : Within P s0 s) : Within P s0 (s.updCyc f) := h.regs rfl

theorem State.unclear_within (a : Nat) (ha : P a = true) (h : Within P s0 s) : Within P s0 (s.unclear a) :=
  ⟨fun b hb => (s.rd_unclear_ne (by intro e; subst e; rw [ha] at hb; cases hb)).trans (h.of b hb)⟩

/-- An event writes its own register and those of its cause. -/
theorem State.event_within (hP : TakesIrq P) (a bits : Nat) (ha : P a = true) (h : Within P s0 s) : Within P s0 (s.event a bits) := by
  unfold State.event
  split
  · exact h.inc (hP _ irqReg_blanked.1) (hP _ irqReg_blanked.2)
  · extract_lets w s'
    have h' : Within P s0 s' := State.updCyc_within _ ((State.unclear_within a ha h).wr _ ha)
    split
    · split
      · exact State.irqEvent_within hP _ h'
      · exact h'
    · exact h'

theorem State.ev_within (hP : TakesIrq P) (a : Nat) (f : Fld) (ha : P (a + 4 * f.word) = true) (h : Within P s0 s) : Within P s0 (s.ev a f) :=
  State.event_within hP _ _ ha h

/-- What has changed, in the words of the frames. -/
theorem Within.sameRegs {l : List Nat} {t : State} (h : Within (fun a => P a || decide (a ∈ l)) s t) : SameRegs P l s t :=
  fun a hl hp => h.of a (by simp [hl, hp])

-- ===== the Bolt =====

theorem boltReg_irq : TakesIrq boltReg := by
  intro a h
  simp [boltReg, h]

theorem boltReg_block {a : Nat} (lo : 0x7800000 ≤ a) (hi : a < 0x8000000) : boltReg a = true := by
  simp [boltReg, lo, hi]

theorem boltReg_seg {a : Nat} (lo : 0xA100000 ≤ a) (hi : a < 0xA300000) : boltReg a = true := by
  simp [boltReg, lo, hi]

theorem boltReg_live {a : Nat} (lo : lkey 0x7802000 ≤ a) (hi : a < lkey 0x7802200) : boltReg a = true := by
  simp [boltReg, lo, hi]

/-- Registers of a class, of a ring, of a cut, of a segment; the ledger counts of a class. -/
theorem boltReg_class {k d : Nat} (hk : k < 8) (hd : d < 16) : boltReg (BLT_CLASS k + d) = true :=
  boltReg_block (by unfold BLT_CLASS; omega) (by unfold BLT_CLASS; omega)
theorem boltReg_ring {r d : Nat} (hr : r < 8) (hd : d < 32) : boltReg (BLT_RING r + d) = true :=
  boltReg_block (by unfold BLT_RING; omega) (by unfold BLT_RING; omega)
theorem boltReg_cut {j d : Nat} (hj : j < 8) (hd : d < 16) : boltReg (BLT_CUT j + d) = true :=
  boltReg_block (by unfold BLT_CUT; omega) (by unfold BLT_CUT; omega)
theorem boltReg_segment {g d : Nat} (hg : g < 131072) (hd : d < 16) : boltReg (BLT_SEG g + d) = true :=
  boltReg_seg (by unfold BLT_SEG; omega) (by unfold BLT_SEG; omega)
theorem boltReg_ledger {a : Nat} (lo : 0x7802000 ≤ a) (hi : a < 0x7802200) : boltReg (lkey a) = true :=
  boltReg_live (Nat.add_le_add_right lo _) (Nat.add_lt_add_right hi _)

theorem lkey_four (a : Nat) : lkey a + 4 = lkey (a + 4) := by unfold lkey; omega

/-- A ledger count of a class. -/
theorem Within.ledger {a : Nat} (lo : 0x7802000 ≤ a) (hi : a + 4 < 0x7802200) (h : Within boltReg s0 s) : Within boltReg s0 (s.inc (lkey a)) :=
  h.inc (boltReg_ledger lo (by omega)) (by rw [lkey_four]; exact boltReg_ledger (by omega) hi)

theorem State.boltEv_within (a : Nat) (f : Fld) (lo : 0x7800000 ≤ a + 4 * f.word) (hi : a + 4 * f.word < 0x8000000) (h : Within boltReg s0 s) :
    Within boltReg s0 (s.ev a f) := State.ev_within boltReg_irq _ _ (boltReg_block lo hi) h

theorem State.boltInc_within (a : Nat) (lo : 0x7800000 ≤ a) (hi : a + 4 < 0x8000000) (h : Within boltReg s0 s) : Within boltReg s0 (s.inc a) :=
  h.inc (boltReg_block lo (by omega)) (boltReg_block (by omega) hi)

theorem State.updBlt_within (f : Blt → Blt) (h : Within P s0 s) : Within P s0 (s.updBlt f) := h.regs rfl

theorem State.fillTokens_within (k : Nat) (hk : k < 8) (h : Within boltReg s0 s) : Within boltReg s0 (s.fillTokens k) := by
  unfold State.fillTokens
  exact State.updBlt_within _ (h.p _ _ (boltReg_class hk (by decide)))

theorem State.takeToken_within (k : Nat) (hk : k < 8) (h : Within boltReg s0 s) : Within boltReg s0 (s.takeToken k).1 := by
  unfold State.takeToken
  extract_lets s' n
  have h' : Within boltReg s0 s' := State.fillTokens_within k hk h
  split
  · exact h'
  · exact h'.p _ _ (boltReg_class hk (by decide))

theorem State.boltWater_within (h : Within boltReg s0 s) : Within boltReg s0 s.boltWater := by
  unfold State.boltWater
  extract_lets f
  split
  · exact h.p _ _ (boltReg_block (by decide) (by decide))
  · exact h

theorem State.stampSeq_within (k : Nat) (r : List Word) (h : Within P s0 s) : Within P s0 (s.stampSeq k r).1 := by
  unfold State.stampSeq
  split
  · exact h.regs rfl
  · exact h

theorem State.enqueueRec_within (k : Nat) (pm : Option Nat) (r : List Word) (h : Within boltReg s0 s) :
    Within boltReg s0 (s.enqueueRec k pm r) := by
  unfold State.enqueueRec
  exact State.boltWater_within (State.updBlt_within _ h)

theorem State.coalesceIn_within (r : List Word) (h : Within boltReg s0 s) : Within boltReg s0 (s.coalesceIn r) := by
  unfold State.coalesceIn
  extract_lets s1 join mine s2 any_
  have h1 : Within boltReg s0 s1 := h.ledger (by decide) (by decide)
  have h2 : Within boltReg s0 s2 := State.boltEv_within _ _ (by decide) (by decide) h1
  split
  · exact State.updBlt_within _ h1
  · split
    · exact State.updBlt_within _ h1
    · split
      · exact State.updBlt_within _ h2
      · exact State.updBlt_within _ h2

theorem State.toSram_within (r : List Word) (h : Within boltReg s0 s) : Within boltReg s0 (s.toSram r).1 := by
  unfold State.toSram
  split
  · exact State.boltEv_within _ _ (by decide) (by decide) (State.boltInc_within _ (by decide) (by decide) (State.updBlt_within _ h))
  · exact h

theorem State.coalesce_within (r : List Word) (h : Within boltReg s0 s) : Within boltReg s0 (s.coalesce r) := by
  unfold State.coalesce
  exact State.coalesceIn_within r (h.ledger (by decide) (by decide))

theorem State.seg0_lt (s : State) (r : Nat) : s.g (BLT_RING r) BLT_RING_SEG0 < 65536 := bget_lt _ _ _
theorem State.size_lt (s : State) (r : Nat) : s.g (BLT_RING r) BLT_RING_SIZE < 65536 := bget_lt _ _ _

theorem State.markSeg_within (r i j : Nat) (hr : r < 8) (hi : i < 65536) (hj : j < 8) (h : Within boltReg s0 s) :
    Within boltReg s0 (s.markSeg r i j) := by
  have hs := s.seg0_lt r
  unfold State.markSeg
  extract_lets a g s1 s2 s3
  have ha : ∀ d, d < 16 → boltReg (a + d) = true := fun d hd => boltReg_segment (by omega) hd
  split
  · exact h
  · split
    · have h3 : Within boltReg s0 s3 :=
        ((h.p _ _ (boltReg_ring hr (by decide))).p _ _ (boltReg_cut hj (by decide))).p _ _ (ha _ (by decide))
      split
      · exact State.updBlt_within _ h3
      · exact h3.p _ _ (ha _ (by decide))
    · exact h.p _ _ (boltReg_cut hj (by decide))

theorem mem_keysIn {s : State} {lo hi a : Nat} (h : a ∈ s.keysIn lo hi) : lo ≤ a ∧ a < hi := by
  unfold State.keysIn at h
  rw [List.mem_map] at h
  obtain ⟨e, he, rfl⟩ := h
  rw [List.mem_filter, Bool.and_eq_true] at he
  exact ⟨of_decide_eq_true he.2.1, of_decide_eq_true he.2.2⟩

theorem usedSegs_lt {s : State} {r i : Nat} (h : i ∈ s.usedSegs r) : i < 65536 := by
  have hn := s.size_lt r
  unfold State.usedSegs at h
  extract_lets n f ks used at h
  have hk : ∀ k, k ∈ used → k < 65536 := by
    intro k hk
    have := (List.mem_filter.mp hk).1
    rw [List.mem_eraseDups, List.mem_map] at this
    obtain ⟨a, ha, rfl⟩ := this
    have := mem_keysIn ha
    simp only [State.segAt, BLT_SEG] at this ⊢
    omega
  rcases List.mem_append.mp h with h | h
  · exact hk _ (List.mem_filter.mp (List.mem_reverse.mp h)).1
  · exact hk _ (List.mem_filter.mp (List.mem_reverse.mp h)).1

theorem Within.foldl_mem {β : Type} {f : State → β → State} {l : List β} (hf : ∀ s x, x ∈ l → Within P s0 s → Within P s0 (f s x))
    (h : Within P s0 s) : Within P s0 (l.foldl f s) := by
  induction l generalizing s with
  | nil => exact h
  | cons x l ih => exact ih (fun s y hy => hf s y (List.mem_cons_of_mem _ hy)) (hf s x List.mem_cons_self h)

theorem State.freezeRing_within (r j t pre : Nat) (hr : r < 8) (hj : j < 8) (h : Within boltReg s0 s) :
    Within boltReg s0 (s.freezeRing r j t pre) := by
  unfold State.freezeRing
  extract_lets from_ l hit s1
  have h1 : Within boltReg s0 s1 :=
    Within.foldl_mem (fun s x hx hs => State.markSeg_within r x j hr (usedSegs_lt (List.mem_filter.mp hx).1) hj hs) h
  split
  · exact h1
  · split
    · exact h1.p _ _ (boltReg_cut hj (by decide))
    · exact h1

theorem findFrom_lt {p : Nat → Bool} : ∀ {n i j : Nat}, findFrom p n i = some j → j < i + n
  | 0, _, _, h => by cases h
  | n + 1, i, j, h => by
    unfold findFrom at h
    split at h
    · injection h with h; omega
    · have := findFrom_lt h; omega

theorem State.freeze_within (cause code rings t : Nat) (h : Within boltReg s0 s) : Within boltReg s0 (s.freeze cause code rings t).1 := by
  unfold State.freeze
  split
  · exact State.boltEv_within _ _ (by decide) (by decide) (State.boltInc_within _ (by decide) (by decide) h)
  · rename_i j hj
    have hj : j < 8 := by have := findFrom_lt hj; omega
    extract_lets rings pre post s1 s2 s3
    have c0 : boltReg (BLT_CUT j) = true := boltReg_block (by unfold BLT_CUT; omega) (by unfold BLT_CUT; omega)
    have c8 : boltReg (BLT_CUT j + 4 + 4) = true := boltReg_block (by unfold BLT_CUT; omega) (by unfold BLT_CUT; omega)
    have h1 : Within boltReg s0 s1 := h.wr _ c0
    have h2 : Within boltReg s0 s2 := (h1.wr64 _ (boltReg_cut hj (by decide)) c8).wr _ (boltReg_cut hj (by decide))
    have h3 : Within boltReg s0 s3 := State.updBlt_within _ h2
    refine Within.iter (fun i s hi hs => ?_) h3
    split
    · exact State.freezeRing_within _ _ _ _ (Nat.lt_trans hi (by decide)) hj hs
    · exact hs

theorem State.askFreeze_within (cause code rings t : Nat) (h : Within P s0 s) : Within P s0 (s.askFreeze cause code rings t) := h.regs rfl

theorem State.matchTrigs_within (code : Nat) (h : Within P s0 s) : Within P s0 (s.matchTrigs code) := by
  unfold State.matchTrigs
  refine Within.foldl (fun s i hs => ?_) h
  split
  · exact State.askFreeze_within _ _ _ _ hs
  · exact hs

theorem State.produced_within (k : Nat) (hk : k < 8) (h : Within boltReg s0 s) :
    Within boltReg s0 ((s.inc (lkey (BLT_AUD_PRODUCED k))).takeToken k).1 :=
  State.takeToken_within k hk (h.ledger (by unfold BLT_AUD_PRODUCED; omega) (by unfold BLT_AUD_PRODUCED; omega))

theorem State.stored_within (k : Nat) (hk : k < 8) (h : Within boltReg s0 s) : Within boltReg s0 (s.inc (lkey (BLT_AUD_STORED k))) :=
  h.ledger (by unfold BLT_AUD_STORED; omega) (by unfold BLT_AUD_STORED; omega)

theorem State.alarmPut_within {t : State} (r : List Word) (h : Within boltReg s0 s) (e : s.alarmPut r = some t) : Within boltReg s0 t := by
  unfold State.alarmPut at e
  have hq := State.stampSeq_within 0 r h
  generalize s.stampSeq 0 r = q at hq e
  dsimp only at e
  split at e
  · split at e
    · injection e with e; subst e
      exact State.enqueueRec_within 0 none _ hq
    · cases e
  · split at e
    · injection e with e; subst e
      exact State.toSram_within _ hq
    · cases e

/-- An ALARM record writes registers of the Bolt and of its events' causes alone. -/
theorem State.alarm_within (r : List Word) (h : Within boltReg s0 s) : Within boltReg s0 (s.alarm r) := by
  unfold State.alarm
  have h2 := State.produced_within 0 (by decide) h
  generalize (s.inc (lkey (BLT_AUD_PRODUCED 0))).takeToken 0 = tk at h2 ⊢
  dsimp only
  split
  · exact State.coalesce_within r h2
  · split
    · rename_i e
      exact State.matchTrigs_within _ (State.stored_within 0 (by decide) (State.alarmPut_within r h2 e))
    · exact State.coalesce_within r h2

theorem State.alarmEv_within (code scope index src : Nat) (data : List Nat) (h : Within boltReg s0 s) :
    Within boltReg s0 (s.alarmEv code scope index src data) := State.alarm_within _ h

theorem State.boltDropRec_within (k : Nat) (hk : k < 8) (h : Within boltReg s0 s) : Within boltReg s0 (s.boltDropRec k) := by
  unfold State.boltDropRec
  extract_lets s1
  have h1 : Within boltReg s0 s1 :=
    State.boltEv_within _ _ (by decide) (by decide) (h.ledger (by unfold BLT_AUD_DROPPED; omega) (by unfold BLT_AUD_DROPPED; omega))
  split
  · exact h1
  · exact State.alarmEv_within _ _ _ _ _ (State.updBlt_within _ h1)

theorem State.boltLoseRec_within (k : Nat) (hk : k < 8) (h : Within boltReg s0 s) : Within boltReg s0 (s.boltLoseRec k) := by
  unfold State.boltLoseRec
  exact State.boltEv_within _ _ (by decide) (by decide) (h.ledger (by unfold BLT_AUD_LOST; omega) (by unfold BLT_AUD_LOST; omega))

theorem State.produceAt_within (k : Nat) (pm : Option Nat) (r : List Word) (h : Within boltReg s0 s) :
    Within boltReg s0 (s.produceAt k pm r) := by
  unfold State.produceAt
  dsimp only
  split
  · exact State.alarm_within r h
  · split
    · exact h
    · rename_i hk
      have hk : k < 8 := by
        have : ¬ 7 ≤ k := fun e => hk (by simp [e])
        omega
      have h2 := State.produced_within k hk h
      generalize (s.inc (lkey (BLT_AUD_PRODUCED k))).takeToken k = tk at h2 ⊢
      obtain ⟨s2, b⟩ := tk
      dsimp only at h2 ⊢
      have hq := State.stampSeq_within k r h2
      generalize s2.stampSeq k r = q at hq ⊢
      obtain ⟨s3, r'⟩ := q
      dsimp only at hq ⊢
      have h3 := State.stored_within k hk (State.enqueueRec_within k pm r' hq)
      generalize (s3.enqueueRec k pm r').inc (lkey (BLT_AUD_STORED k)) = s4 at h3 ⊢
      split
      · exact State.boltDropRec_within k hk h2
      · split
        · exact State.boltLoseRec_within k hk (State.stored_within k hk h2)
        · split
          · split
            · exact State.matchTrigs_within _ h3
            · exact h3
          · exact State.boltDropRec_within k hk h2

theorem State.boltProduce_within (k : Nat) (r : List Word) (h : Within boltReg s0 s) : Within boltReg s0 (s.boltProduce k r) :=
  State.produceAt_within k none r h

/-- A record of an event writes only the registers of the Bolt and those of its events' causes. -/
theorem State.boltEvent_within (code scope index src : Nat) (data : List Nat) (h : Within boltReg s0 s) :
    Within boltReg s0 (s.boltEvent code scope index src data) := State.boltProduce_within _ _ h

end Sys2Proof.Machine
end

