-- ==== Sys2Proof/Tests/Slice0.lean ====
section
/-! SUPPORT. The model's own tests: ill-formed operands, and witnesses of the statements' hypotheses. -/
namespace Sys2Proof.Tests
open Sys2Proof Sys2Proof.Machine

set_option linter.all false
set_option Elab.async false

-- ===== ill-formed operands =====

theorem test_misaligned_offset_is_ill_formed : (Instr.registerWrite .hpa 0x1000002 15 0).wellFormed = false := by decide

theorem test_offset_beyond_bar0_is_ill_formed : (Instr.readLoSnapshot .hpb 0x10000000).wellFormed = false := by decide

theorem test_aligned_offset_is_well_formed : (Instr.readLoSnapshot .hpb 0xFFFFFFC).wellFormed = true := by decide

theorem test_enable_without_enable_is_ill_formed : (Instr.channelEnable .hpa 5 0x7FFFFFFF).wellFormed = false := by decide

theorem test_disable_with_enable_is_ill_formed : (Instr.channelDisable .hpa 5 0x80000000).wellFormed = false := by decide

theorem test_seven_observations_are_ill_formed : (Instr.ddrTrainingDone (List.replicate 7 ⟨0, 0, false⟩)).wellFormed = false := by decide

theorem test_long_omci_message_is_ill_formed : (Instr.omciRx 0 0 0 (List.replicate 2033 0) false).wellFormed = false := by decide +kernel

theorem test_go_without_go_is_ill_formed : (Instr.ruleCommit .hpa 0x7FFFFFFF).wellFormed = false := by decide

theorem test_insert_with_delete_is_ill_formed : (Instr.macInsert .hpa 0xA0000000).wellFormed = false := by decide

theorem test_insert_without_go_is_ill_formed : (Instr.macInsert .hpa 0x10000000).wellFormed = false := by decide

theorem test_seal_without_switch_is_ill_formed : (Instr.sealReq .hpa 5 9 0xF7FFFFFF).wellFormed = false := by decide

theorem test_short_sealed_key_is_ill_formed : (Instr.sealedKey 5 9 1 3 (List.replicate 23 0)).wellFormed = false := by decide

theorem test_port_enable_without_en_is_ill_formed : (Instr.portEnable .hpa 4 0x7FFFFFFF).wellFormed = false := by decide

theorem test_port_disable_with_en_is_ill_formed : (Instr.portDisable .hpa 4 0x80000000).wellFormed = false := by decide

theorem test_pop_without_pop_is_ill_formed : (Instr.slvMbxPop .hpa 0xBFFFFFFF).wellFormed = false := by decide

theorem test_short_record_is_ill_formed : (Instr.boltRecord 3 (List.replicate 16 0)).wellFormed = false := by decide

theorem test_enter_without_enter_is_ill_formed : (Instr.safeEnter .hpa 0x40000000).wellFormed = false := by decide

theorem test_exit_with_enter_is_ill_formed : (Instr.safeExit .hpa 0xC0000000).wellFormed = false := by decide

theorem test_ungate_with_gate_is_ill_formed : (Instr.clusterUngate .hpa 3 0x80000000).wellFormed = false := by decide

theorem test_prot_enable_without_en_is_ill_formed : (Instr.protEnable .hpa 0x7FFFFFFF).wellFormed = false := by decide

theorem test_switch_without_switch_is_ill_formed : (Instr.protSwitch .hpa 0xDFFFFFFF).wellFormed = false := by decide

theorem test_take_without_take_is_ill_formed : (Instr.protTake .hpa 0xEFFFFFFF).wellFormed = false := by decide

-- ===== witnesses =====

/-- A state after reset with both links up and the named blocks released. -/
def awake (l : List Nat) : State :=
  { State.reset with
    host := { State.reset.host with upA := true, upB := true },
    tmp := { State.reset.tmp with porst := false, held := false },
    blks := l.foldl (fun b n => b.put n { (default : Blk) with released := true }) [] }

/-- DDR-5 of one trained DIMM of 64 GiB. -/
def mem1 : State :=
  let s := ((awake [192]).p (MEM_STATUS 0) MEM_STATUS_RANKS_PRESENT 3).p (MEM_STATUS 0) MEM_STATUS_TRAINED 1
  { s with host := { s.host with gib := 64 } }

/-- The same with the window of HPB moved to 1 GiB, and the first MiB behind it device-owned. -/
def mem1w : State := let s := mem1.wr (HPI_WIN 1) 1; { s with drf := { s.drf with owned := [(0, 0, 2 ^ 30, 2 ^ 20)] } }

theorem no_hole (s : State) (g : s.host.gib = 64) (p : s.populated = [0]) (m : s.g (MEM_STATUS 0) MEM_STATUS_RANKS_MAPPED_OUT = 0)
    (a : Nat) (h : a < 2 ^ 36) : s.isHole a = false := by
  have b : ¬ 64 * 2 ^ 30 ≤ a := by omega
  have r : (s.rankOf a).1 = 0 := by simp [State.rankOf, p, Nat.mod_one]
  simp only [State.isHole, g, b, decide_false, Bool.false_or, r, m]
  simp [bit]

theorem mem1w_no_hole (a : Nat) (h : a < 2 ^ 36) : mem1w.isHole a = false :=
  no_hole mem1w (by decide +kernel) (by decide +kernel) (by decide +kernel) a h

theorem wit_TheDdrWindowAddressesMemory_bar2Access :
    mem1w.linkUp (portAgent .hpb) = true ∧ mem1w.ddrUp = true
      ∧ mem1w.g (HPI_WIN (portCode .hpb)) HPI_WIN_GRANULE * 2 ^ 30 + 1048576 < 2 ^ 42
      ∧ mem1w.isHole (mem1w.g (HPI_WIN (portCode .hpb)) HPI_WIN_GRANULE * 2 ^ 30 + 1048576) = false
      ∧ mem1w.deviceOwned (mem1w.g (HPI_WIN (portCode .hpb)) HPI_WIN_GRANULE * 2 ^ 30 + 1048576) = false := by
  have w : mem1w.g (HPI_WIN (portCode .hpb)) HPI_WIN_GRANULE = 1 := by decide
  rw [w]
  exact ⟨by decide, by decide, by decide, mem1w_no_hole _ (by decide), by decide⟩

theorem wit_TheDdrWindowRefusesWhatIsNotThere_owned :
    mem1w.linkUp (portAgent .hpb) = true ∧ mem1w.ddrUp = true
      ∧ mem1w.g (HPI_WIN (portCode .hpb)) HPI_WIN_GRANULE * 2 ^ 30 + 1048575 < 2 ^ 42
      ∧ mem1w.isHole (mem1w.g (HPI_WIN (portCode .hpb)) HPI_WIN_GRANULE * 2 ^ 30 + 1048575) = false
      ∧ mem1w.deviceOwned (mem1w.g (HPI_WIN (portCode .hpb)) HPI_WIN_GRANULE * 2 ^ 30 + 1048575) = true := by
  have w : mem1w.g (HPI_WIN (portCode .hpb)) HPI_WIN_GRANULE = 1 := by decide
  rw [w]
  exact ⟨by decide, by decide, by decide, mem1w_no_hole _ (by decide), by decide⟩

/-- Channel 5 is OFF, threaded, with a verified reference, and chanCtl starts it. -/
def chanOff : State :=
  let s := ((awake [37]).wr CLK_STATUS 0).p (PCH_BRX_CTL 5) PCH_BRX_CTL_LINEAR 1
  { s with drf := { s.drf with chThread := [(5, 2)] } }

/-- ENABLE with MODE 2 and REF_OVR. -/
def chanCtl : Word := bset (bset (bset 0 PCH_CTL_MODE.lo PCH_CTL_MODE.w 2) PCH_CTL_REF_OVR.lo 1 1) 31 1 1

/-- Channel 5 is ACTIVE with two grants in open buffers and a frame in a queue. -/
def chanOn : State :=
  let s := (awake [37]).p (PCH_STATUS 5) PCH_STATUS_STATE 2
  { s with
    pch := [(5, { (default : Pch) with buf0 := [default], buf1 := [default], running := true })]
    shd := [(5, { (default : Shd) with hints := [default] })]
    tmg := { s.tmg with queues := [(2048 * 5 + 7, [default])] } }

/-- Channel 5 with the given hidden state, its block and the Bolt released. -/
def chan (h : Pch) : State := { awake [37, 14, 4] with pch := [(5, h)] }

/-- Channel 5 runs with frame 1 the first open one and the given grants in its open frames. -/
def gchan (a b : List Grant) : State := chan { (default : Pch) with running := true, openLo := 1, mode := 2, buf0 := a, buf1 := b }

/-- Channel 0 is ACTIVE and unmuted, with a frame at the head of queue 0 that its scheduler has come to. -/
def drawing : State :=
  let s := ((awake [32, 9]).p (PCH_STATUS 0) PCH_STATUS_STATE 2).wr TMP_SAFE 0
  { s with
    pch := [(0, { (default : Pch) with running := true, mode := 2, due8 := 1000000 })]
    tmg := { s.tmg with queues := [(0, [⟨0, 100, 0, none, true, false⟩])], cur := [(65536, 163840)], deficits := [(0, 100), (163840, 100)] } }

/-- The loop ends at once at a child that can be served. -/
theorem drr_hit (kids : List Nat) (elig : Nat → Bool) (hl : State → Nat → State × Nat) (quantum : Nat → Nat) (slot n : Nat)
    (s : State) (h : (kids.contains (s.tmg.cur.look slot) && elig (s.tmg.cur.look slot)) = true)
    (d : ((hl s (s.tmg.cur.look slot)).2 : Int) ≤ (hl s (s.tmg.cur.look slot)).1.tmg.deficits.look (s.tmg.cur.look slot)) :
    drrLoop kids elig hl quantum slot (n + 1) s = ((hl s (s.tmg.cur.look slot)).1, some (s.tmg.cur.look slot)) := by
  rw [drrLoop.eq_2]
  simp only [h, if_true, Bool.true_and, decide_eq_true d]

theorem pick_hit (kids : List Nat) (pri : Nat → Nat) (elig : Nat → Bool) (hl : State → Nat → State × Nat) (quantum : Nat → Nat) (node : Nat)
    (s : State) (x : Nat) (hx : s.tmg.cur.look (4 * node) = x) (m : x ∈ kids) (e : elig x = true) (p : pri x = 0)
    (d : ((hl s x).2 : Int) ≤ (hl s x).1.tmg.deficits.look x) :
    pickNode kids pri elig hl quantum node s = ((hl s x).1, some x) := by
  have f : findFrom (fun p => kids.any (fun k => decide (pri k = p) && elig k)) 4 0 = some 0 := by
    have : kids.any (fun k => decide (pri k = 0) && elig k) = true := List.any_eq_true.mpr ⟨x, m, by simp [p, e]⟩
    rw [findFrom.eq_2, if_pos this]
  have c : (kids.filter (fun k => decide (pri k = 0))).contains x = true := by
    simp [m, p]
  unfold pickNode
  rw [f]
  subst hx
  have := drr_hit (kids.filter (fun k => decide (pri k = 0))) elig hl quantum (4 * node + 0) ((kids.filter (fun k => decide (pri k = 0))).length * 10242) s
    (by simp only [Nat.add_zero]; rw [c, e]; rfl) (by simpa using d)
  simpa using this

theorem drawing_queue : drawing.pickQueue 0 (drawing.groupQueues 0 0) = (drawing, some 0) := by
  unfold State.pickQueue
  refine pick_hit _ _ _ _ _ 0 drawing 0 (by decide +kernel) ?_ (by decide +kernel) (by decide +kernel) (by decide +kernel)
  unfold State.groupQueues
  refine List.mem_filterMap.mpr ⟨0, by simp, ?_⟩
  rw [if_pos (by decide +kernel)]

theorem grp_zero : (163840 - grpKid 0 0 : Nat) = 0 := by unfold grpKid; simp
theorem drawing_elig : drawing.groupElig 0 0 = true := by decide +kernel
/-- What `pickChannel` asks of a group. -/
def drInner (t : State) (x : Nat) : State × Nat :=
  let q := t.pickQueue (x - 163840) (drawing.groupQueues 0 (x - grpKid 0 0)); (q.1, (q.2.map t.headLen).getD 0)
theorem drInner_at : drInner drawing 163840 = (drawing, 100) := by
  unfold drInner
  rw [grp_zero, Nat.sub_self, drawing_queue]
  have : drawing.headLen 0 = 100 := by decide +kernel
  simp [this]
theorem drawing_node : pickNode ((List.range 256).map (grpKid 0)) (fun x => drawing.g (TMG_GRP (x - 163840)) TMG_GRP_PRI) (fun x => drawing.groupElig 0 (x - grpKid 0 0))
    drInner (fun x => drawing.g (fkey (TMG_GRP (x - 163840))) TMG_GRP_QUANTUM) 16384 drawing = (drawing, some 163840) := by
  have m : (163840 : Nat) ∈ (List.range 256).map (grpKid 0) := List.mem_map.mpr ⟨0, List.mem_range.mpr (by decide), by unfold grpKid; simp⟩
  have c : drawing.tmg.cur.look (4 * 16384) = 163840 := by decide +kernel
  have e : (fun x => drawing.groupElig 0 (x - grpKid 0 0)) 163840 = true := by
    show drawing.groupElig 0 (163840 - grpKid 0 0) = true
    rw [grp_zero]; exact drawing_elig
  have p : (fun x => drawing.g (TMG_GRP (x - 163840)) TMG_GRP_PRI) 163840 = 0 := by decide +kernel
  have h := pick_hit ((List.range 256).map (grpKid 0)) (fun x => drawing.g (TMG_GRP (x - 163840)) TMG_GRP_PRI) (fun x => drawing.groupElig 0 (x - grpKid 0 0))
    drInner (fun x => drawing.g (fkey (TMG_GRP (x - 163840))) TMG_GRP_QUANTUM) 16384 drawing 163840 c m e p
    (by rw [drInner_at]; decide +kernel)
  rw [h, drInner_at]

theorem pick_channel_of (s : State) (c x q n : Nat) (s1 s2 : State) (hn : n = 16384 + c)
    (h1 : pickNode ((List.range 256).map (grpKid c)) (fun x => s.g (TMG_GRP (x - 163840)) TMG_GRP_PRI) (fun x => s.groupElig c (x - grpKid c 0))
      (fun t x => let q := t.pickQueue (x - 163840) (s.groupQueues c (x - grpKid c 0)); (q.1, (q.2.map t.headLen).getD 0))
      (fun x => s.g (fkey (TMG_GRP (x - 163840))) TMG_GRP_QUANTUM) n s = (s1, some x))
    (h2 : s1.pickQueue (x - 163840) (s.groupQueues c (x - grpKid c 0)) = (s2, some q)) : (s.pickChannel c).2 = some (x, q) := by
  subst hn
  unfold State.pickChannel
  simp only [h1, h2]
  rfl

theorem drawing_pick : (drawing.pickChannel 0).2 = some (163840, 0) := by
  refine pick_channel_of drawing 0 163840 0 16384 drawing drawing rfl drawing_node ?_
  rw [grp_zero, Nat.sub_self]
  exact drawing_queue

theorem drawing_idle : drawing.idleUp (0 : Fin 64) = drawing := by decide +kernel

theorem wit_GrantsPloamsAndDraws_xgemDraw : drawing.draws (0 : Fin 64) = true ∧ (drawing.idleUp (0 : Fin 64)).drawNow (0 : Fin 64) = true
    ∧ ((drawing.idleUp (0 : Fin 64)).pickChannel (0 : Fin 64)).2 = some (163840, 0)
    ∧ drawing.queue 0 ≠ [] ∧ 0 < 131072 := by
  rw [drawing_idle]
  exact ⟨by decide +kernel, by decide +kernel, drawing_pick, by decide +kernel, by decide⟩

/-- A window of the grant of ledger entry 7 to slot 3. -/
def bw0 : Win := { (default : Win) with grants := [(7, ⟨0x00000003, 0x00010004, 3⟩)], frame := 9, slot := 3, e := 100000, lo := -64, hi := 64, len := 2000, entry := 3, opened := true, maxErr := 4 }

/-- Channel 5 is ACTIVE with the given hidden state. -/
def rchan (h : Pch) : State :=
  let s := ((awake [37, 14, 101]).p (PCH_STATUS 5) PCH_STATUS_STATE 2).wr TMP_SAFE 0
  { s with pch := [(5, h)] }

/-- The words STATE, SN_HI and SN_LO of n occupied slots from offset b. -/
def fullSlots : Nat → Nat → Tab Word
  | _, 0 => []
  | b, n + 1 => (b, 0xA0000000) :: (b + 8, 0) :: (b + 12, 0) :: fullSlots (b + 16) n

theorem fullSlots_get (d : Word) (r : Tab Word) : ∀ n b i, i < n →
    tget d (fullSlots b n ++ r) (b + 16 * i) = 0xA0000000 ∧ tget d (fullSlots b n ++ r) (b + 16 * i + 8) = 0 ∧
      tget d (fullSlots b n ++ r) (b + 16 * i + 12) = 0 := by
  intro n
  induction n with
  | zero => intro b i h; omega
  | succ n ih =>
    intro b i h
    cases i with
    | zero => simp [fullSlots, tget]
    | succ i =>
      have e : b + 16 * (i + 1) = b + 16 + 16 * i := by omega
      obtain ⟨h1, h2, h3⟩ := ih (b + 16) i (by omega)
      rw [e]
      refine ⟨?_, ?_, ?_⟩ <;> simp only [fullSlots, List.cons_append, tget]
      · rw [if_neg (by omega), if_neg (by omega), if_neg (by omega)]; exact h1
      · rw [if_neg (by omega), if_neg (by omega), if_neg (by omega)]; exact h2
      · rw [if_neg (by omega), if_neg (by omega), if_neg (by omega)]; exact h3

theorem findFrom_none (p : Nat → Bool) : ∀ n k, (∀ i, k ≤ i → i < k + n → p i = false) → findFrom p n k = none := by
  intro n
  induction n with
  | zero => intros; rfl
  | succ n ih =>
    intro k h
    simp only [findFrom, h k (Nat.le_refl _) (by omega), Bool.false_eq_true, if_false]
    exact ih (k + 1) (fun i a b => h i (by omega) (by omega))

/-- Channel 5 runs, and its 256 slots are occupied. -/
def fullChan : State := { (rchan default) with regs := fullSlots 0x1161000 256 ++ (rchan default).regs }

theorem fullChan_slot (i : Nat) (h : i < 256) : fullChan.slotState 5 i = 5 ∧ fullChan.slotSn 5 i = 0 := by
  obtain ⟨h1, h2, h3⟩ := fullSlots_get (resetWord (RNG_ONU 5 i)) (rchan default).regs 256 0x1161000 i h
  obtain ⟨_, h2, _⟩ := fullSlots_get (resetWord (RNG_ONU 5 i + 8)) (rchan default).regs 256 0x1161000 i h
  obtain ⟨_, _, h3⟩ := fullSlots_get (resetWord (RNG_ONU 5 i + 12)) (rchan default).regs 256 0x1161000 i h
  have a : RNG_ONU 5 i = 0x1161000 + 16 * i := by simp only [RNG_ONU]; omega
  rw [← a] at h1 h2 h3
  have g1 : fullChan.rd (RNG_ONU 5 i + 4 * 0) = 0xA0000000 := h1
  have g2 : fullChan.rd (RNG_ONU 5 i + 4 * 2) = 0 := h2
  have g3 : fullChan.rd (RNG_ONU 5 i + 4 * 3) = 0 := h3
  constructor
  · simp only [State.slotState, State.g, RNG_ONU_STATE, g1]; decide
  · simp only [State.slotSn, State.g, RNG_ONU_SN_HI, RNG_ONU_SN_LO, g2, g3]; decide

/-- Channel 5 is ACTIVE, frame 1 the first open one, both open frames set up. -/
def sweeping (d : Nat) : State :=
  let s := ((awake [37, 101]).p (PCH_STATUS 5) PCH_STATUS_STATE 2).wr TMP_SAFE 0
  { s with
    pch := [(5, { (default : Pch) with mode := 2, running := true, openLo := 1, leadNext := 1200, cutNext := 200, due8 := d })]
    shd := [(5, { (default : Shd) with placings := [{ (default : Placing) with frame := 1, setUp := true }, { (default : Placing) with frame := 2, setUp := true }] })] }

/-- The hint path takes PDUs of lane 31 from source 3. -/
def hinting (q : Option Word) : State :=
  let s := (((awake [7]).p CLS_HINT CLS_HINT_EN 1).p CLS_HINT CLS_HINT_ETYPE 0).wr CLS_HINT_LANES 0x80000000
  let s := s.wr (CLS_HINT_SRC 0) 8
  { s with cls := { s.cls with hintSeq := [(3, q)] } }

/-- Allocation 0 of channel 5 takes hints, HPB has staged a cancelling record, one hint is held. -/
def hinted : State :=
  let s := ((awake [101, 37]).p (SHD_ALLOC 5 0) SHD_ALLOC_VALID 1).p (SHD_ALLOC_POL 5 0) SHD_ALLOC_POL_HINT_EN 1
  let s := ((s.p (SHD_HINT_CTL 5) SHD_HINT_CTL_HINT_EN 1).p (DSF_STATUS 5) DSF_STATUS_ALIGNED 1).wr (akey 1 (SHD_HINT_IN 5 0)) 0x10000
  { s with shd := [(5, { (default : Shd) with hints := [default] })] }

/-- The Bolt writes, DDR-5 of 64 GiB is trained. -/
def boltUp : State :=
  let s := (((awake [14, 192]).p (MEM_STATUS 0) MEM_STATUS_RANKS_PRESENT 3).p (MEM_STATUS 0) MEM_STATUS_TRAINED 1).p BLT_CTL BLT_CTL_EN 1
  let s := (s.p (BLT_CLASS 4) BLT_CLASS_BURST 9).p (BLT_CLASS 4) BLT_CLASS_TOKENS 5
  { s with host := { s.host with gib := 64 } }

/-- A record of class `k` is the one in the queue, and its ring has two segments at 1 GiB. -/
def boltRing (k : Nat) (pm : Option Nat) : State :=
  let s := (boltUp.p (BLT_RING (ringOf k)) BLT_RING_SIZE 2).wr64 (BLT_RING (ringOf k)) 0x40000000
  { s with blt := { s.blt with queue := [(k, pm, [0x01020304])] } }

theorem wit_RecordsEnterTheBolt_bin : (boltRing 6 (some 128)).blt.queue = [(6, some 128, [0x01020304])] ∧ (boltRing 6 (some 128)).blt.sram = []
    ∧ (boltRing 6 (some 128)).ddrUp = true ∧ (boltRing 6 (some 128)).on BLT_CTL BLT_CTL_EN = true
    ∧ (boltRing 6 (some 128)).isHole ((boltRing 6 (some 128)).rd64 (BLT_RING (ringOf 6)) + 128) = false
    ∧ (boltRing 6 (some 128)).g (BLT_RING (ringOf 6)) BLT_RING_SIZE ≠ 0 :=
  ⟨by decide +kernel, by decide +kernel, by decide +kernel, by decide +kernel,
    no_hole _ (by decide +kernel) (by decide +kernel) (by decide +kernel) _ (by decide +kernel), by decide +kernel⟩

theorem wit_RecordsEnterTheBolt_segment : (boltRing 3 none).blt.queue = [(3, none, [0x01020304])] ∧ (boltRing 3 none).blt.sram = []
    ∧ (boltRing 3 none).ddrUp = true ∧ (boltRing 3 none).on BLT_CTL BLT_CTL_EN = true
    ∧ (boltRing 3 none).g (BLT_RING (ringOf 3)) BLT_RING_SIZE ≠ 0
    ∧ (boltRing 3 none).skipHoles ((boltRing 3 none).rd64 (BLT_RING (ringOf 3)) + (boltRing 3 none).g (BLT_RING (ringOf 3)) BLT_RING_FILLING * 67108864)
        16384 ((boltRing 3 none).blt.segFill.look (ringOf 3)) = 0 ∧ 0 + recBytes 3 < 67108864 := by
  refine ⟨by decide +kernel, by decide +kernel, by decide +kernel, by decide +kernel, by decide +kernel, ?_, by decide +kernel⟩
  have f : (boltRing 3 none).blt.segFill.look (ringOf 3) = 0 := by decide +kernel
  have b : (boltRing 3 none).rd64 (BLT_RING (ringOf 3)) + (boltRing 3 none).g (BLT_RING (ringOf 3)) BLT_RING_FILLING * 67108864 = 0x40000000 := by decide +kernel
  rw [f, b, State.skipHoles.eq_2, no_hole _ (by decide +kernel) (by decide +kernel) (by decide +kernel) _ (by decide)]
  rfl

/-- An image of no group waits for its place in DDR-5. -/
def dumpReady : State :=
  { boltUp with
    drf := { boltUp.drf with owned := [(2, 0, 0x1000, 0x100000)] }, pmc := { boltUp.pmc with images := [⟨0, 5, 7, []⟩] },
    blks := (awake [15, 192]).blks }

theorem wit_CountersDumpsTagsAndWindows_image : dumpReady.pmc.images = [⟨0, 5, 7, []⟩]
    ∧ dumpReady.drf.owned.find? (fun r => decide (r.1 = 2) && decide (r.2.1 = 0)) = some (2, 0, 0x1000, 0x100000)
    ∧ dumpSize 0 ≤ 0x100000 / max 1 (min 4096 (dumpReady.g PMC_DUMP_INFO PMC_DUMP_INFO_SLOTS)) ∧ dumpReady.ddrUp = true
    ∧ ∀ x, x < 72 → dumpReady.isHole (0x1000 + x) = false :=
  ⟨by decide +kernel, by decide +kernel, by decide +kernel, by decide +kernel, fun x h =>
    no_hole _ (by decide +kernel) (by decide +kernel) (by decide +kernel) _ (by omega)⟩

theorem wit_CutsFreezeAndRelease_served : ((awake [14]).p (BLT_CUT 0) BLT_CUT_STATE 1).joins ⟨8, 0, 33, 5⟩ = none
    ∧ findFrom (fun k => decide (((awake [14]).p (BLT_CUT 0) BLT_CUT_STATE 1).g (BLT_CUT k) BLT_CUT_STATE = 0)) 8 0 = some 1 := by decide +kernel

theorem wit_CutsFreezeAndRelease_refused : ((List.range 8).foldl (fun s k => s.p (BLT_CUT k) BLT_CUT_STATE 2) (awake [14])).joins ⟨3, 0x80, 33, 5⟩ = none
    ∧ findFrom (fun k => decide (((List.range 8).foldl (fun s k => s.p (BLT_CUT k) BLT_CUT_STATE 2) (awake [14])).g (BLT_CUT k) BLT_CUT_STATE = 0)) 8 0 = none := by
  decide +kernel

theorem wit_CutsFreezeAndRelease_joined : (((awake [14]).p (BLT_CUT 7) BLT_CUT_STATE 1).p (BLT_CUT 7) BLT_CUT_CAUSE 3).joins ⟨3, 0x80, 33, 5⟩ = some 7 := by
  decide +kernel

/-- The position of bridge domain 5, address 9: the first way of its first bucket. -/
def macPos : Nat := 4 * (macBuckets 5 9).1

/-- Other keys fill the ways of that key's buckets, and no chain of moves is allowed. -/
def macFull : State :=
  let s := ((awake [8]).wr (akey 1 FWD_MAC_CMD + 8) 0x90000).wr (akey 1 FWD_MAC_CMD + 12) 3
  ((macWays 5 9).foldl (fun (s : State) i => s.macPut i 0x80000006 0 0x90000 2) s).p FWD_CTL FWD_CTL_MOVES_MAX 0

/-- The MAC table holds that key or nothing, HPB's command words name it, and a learn request for it waits. -/
def macTab (held q : Bool) : State :=
  let s := ((awake [8]).wr (akey 1 FWD_MAC_CMD + 8) 0x90000).wr (akey 1 FWD_MAC_CMD + 12) 3
  let s := if held then s.macPut macPos 0x80000005 0 0x90000 2 else s
  let s := s.p FWD_ENTRIES FWD_ENTRIES_COUNT 1
  { s with fwd := { s.fwd with learnQ := if q then [(5, 9, 3)] else [] } }

/-- The command word of a route command for IPv4 in both banks. -/
def rtWord (op len : Nat) : Word := bset (bset (bset 0x80000000 FWD_RT_CMD_OP.lo FWD_RT_CMD_OP.w op) FWD_RT_CMD_LEN.lo FWD_RT_CMD_LEN.w len) FWD_RT_CMD_BANKS.lo FWD_RT_CMD_BANKS.w 3

/-- HPA's command names 10.0.0.0, and bank 0 holds 10.0.0.0/8 by next hop 77 under 0.0.0.0/0. -/
def rtTab : State :=
  let s := (awake [8]).wr (akey 0 FWD_RT_CMD + 4) 0x0A000000
  { s with fwd := { s.fwd with routes := [(0, [⟨0, false, 0, 0, 5⟩, ⟨0, false, 8, 10, 77⟩])] } }

/-- Pipeline 3 is wired to no table, with those frames in its two queues. -/
def piping (a b : List PFrame) : State :=
  let s := awake [7, 8, 9]
  { s with
    drf := { s.drf with tieup := [⟨0x22, 3, [0, 0, 0]⟩] }
    cls := { s.cls with fifo := [(3, a)], second := [(3, b)] } }

/-- HPB's staging slot 2 holds a rule for entry `i`; table 0 has the entries 0 to 99. -/
def committing (i : Nat) : State :=
  let s := (awake [7]).wr (stageAt 1 2 25) (word (2 ^ 31 + i))
  let s := (List.range 25).foldl (fun s w => s.wr (stageAt 1 2 w) (word (1000 + w))) s
  { s with drf := { s.drf with tieup := [⟨0x21, 0, [100]⟩] } }

/-- A frame of 64 bytes for queue `q`. -/
def handed (q : Nat) : Hand := ⟨3, 0, 0, List.replicate 64 9, 0, 1, q, 0, 0, false, 0, q % 8, none⟩

/-- Policer 9, VALID with a CBS and PBS of `n` bytes, sees a frame for queue 131080. -/
def policing (n : Nat) : State :=
  let s := (((awake [9, 10]).p (fkey (TMG_POL 9)) TMG_POL_VALID 1).p (fkey (TMG_POL 9)) TMG_POL_CBS n).p (fkey (TMG_POL 9)) TMG_POL_PBS n
  { s with tmg := { s.tmg with handoff := [{ handed 131080 with policer := 9 }, handed 7] } }

/-- A frame of 64 bytes for the trap ring, reason 1. -/
def trapped : Hand := { handed 8 with kind := 2, arg := 1 }

/-- The ring of 16 entries at 1 GiB is empty; the one frame of this cycle is for it. -/
def trapping : State :=
  let s := ((boltUp.p TMG_TRAP_CTL TMG_TRAP_CTL_TRAP_KPPS 9).p TMG_TRAP_CTL TMG_TRAP_CTL_LOG2 4).wr64 TMG_TRAP_BASE 0x40000000
  let s := (s.wr TMG_TRAP_WR 17).wr TMG_TRAP_RD 9
  { s with tmg := { s.tmg with handoff := [trapped, handed 7] } }

theorem wit_FramesThroughPipelineAndTrafficManager_trap : trapping.tmg.handoff = [trapped, handed 7] ∧ (∀ x ∈ [handed 7], x.cyc ≠ trapped.cyc)
    ∧ trapped.kind = 2 ∧ 0 < trapping.g TMG_TRAP_CTL TMG_TRAP_CTL_TRAP_KPPS * 1000 ∧ trapping.tmg.trap = (0, 0) ∧ trapping.ddrUp = true
    ∧ (trapping.rd TMG_TRAP_WR - trapping.rd TMG_TRAP_RD).toNat < 2 ^ max 4 (min 16 (trapping.g TMG_TRAP_CTL TMG_TRAP_CTL_LOG2))
    ∧ trapping.isHole 0x40003000 = false ∧ trapping.isHole (0x40003000 + 12287) = false :=
  ⟨by decide +kernel, by decide +kernel, by decide +kernel, by decide +kernel, by decide +kernel, by decide +kernel, by decide +kernel,
    no_hole _ (by decide +kernel) (by decide +kernel) (by decide +kernel) _ (by decide +kernel),
    no_hole _ (by decide +kernel) (by decide +kernel) (by decide +kernel) _ (by decide +kernel)⟩

/-- A frame for queue 131080 is handed over, the queue may hold `n` KiB, and port 5 owns it. -/
def handing (n : Nat) : State :=
  let s := (((awake [9, 10]).wr (fkey (TMG_Q 131080) + 8) (word n)).wr (TMG_ACCT 0) 100).wr (BPM_POOL 0 + 8) 4
  let s := (s.wr (fkey (TMG_UPORT 5)) 8).wr (fkey (TMG_UPORT 5) + 4) 2
  { s with tmg := { s.tmg with handoff := [handed 131080, handed 7] } }

/-- Port 5 is UP on one lane with the queues 131080 and 131081, the first of which holds two frames. -/
def leavingPort : State :=
  let s := (((awake [9, 165]).p (HSL_STATUS 5) HSL_STATUS_STATE 2).wr (fkey (TMG_UPORT 5)) 8).wr (fkey (TMG_UPORT 5) + 4) 2
  { s with tmg := { s.tmg with
      queues := [(131080, [⟨7, 100, 0, none, true, false⟩, ⟨8, 50, 0, none, true, false⟩])]
      bufs := [(7, ⟨[1], 1, some 69, false⟩), (8, ⟨[1], 1, some 69, false⟩)]
      cur := [(65812, 131080)], deficits := [(131080, 100)] } }

theorem leavingPort_kids : (List.range (leavingPort.g (fkey (TMG_UPORT 5)) TMG_UPORT_USIZE)).map (fun k => upBase + leavingPort.g (fkey (TMG_UPORT 5)) TMG_UPORT_UBASE + k)
    = [131080, 131081] := by decide +kernel

theorem leavingPort_pick : leavingPort.pickQueue 16453 [131080, 131081] = (leavingPort, some 131080) := by
  unfold State.pickQueue
  exact pick_hit _ _ _ _ _ 16453 leavingPort 131080 (by decide +kernel) (by simp) (by decide +kernel) (by decide +kernel) (by decide +kernel)

theorem wit_FramesThroughPipelineAndTrafficManager_uplinkDeparture : leavingPort.g (HSL_STATUS (5 : Fin 32)) HSL_STATUS_STATE = 2
    ∧ leavingPort.portOfLane (5 : Fin 32) = (5 : Fin 32)
    ∧ (leavingPort.pickQueue (16448 + (5 : Fin 32)) ((List.range (leavingPort.g (fkey (TMG_UPORT (5 : Fin 32))) TMG_UPORT_USIZE)).map
      (fun k => upBase + leavingPort.g (fkey (TMG_UPORT (5 : Fin 32))) TMG_UPORT_UBASE + k))).2 = some 131080
    ∧ leavingPort.queue 131080 = [⟨7, 100, 0, none, true, false⟩, ⟨8, 50, 0, none, true, false⟩] :=
  ⟨by decide +kernel, by decide +kernel, by
    have h : ((5 : Fin 32) : Nat) = 5 := rfl
    rw [h, leavingPort_kids, leavingPort_pick], by decide +kernel⟩

/-- Endpoint 7 is in force on channel 5 with port-ID 40, of that KIND and TYPE (one slot where structured), at timeslot 64. -/
def trib (kind type : Nat) (e : Trib) : State :=
  let s := ((awake [12, 14, 9]).p TRB_CTL TRB_CTL_EN 1).p (fkey (TRB_TRIB 7)) TRB_TRIB_EN 1
  let s := ((s.p (fkey (TRB_TRIB 7)) TRB_TRIB_KIND kind).p (fkey (TRB_TRIB 7)) TRB_TRIB_TYPE type).p (fkey (TRB_TRIB 7)) TRB_TRIB_N (if type = 2 then 1 else 0)
  let s := s.wr (fkey (TRB_TRIB 7) + 16) 0x102
  let s := ((s.p (fkey (TRB_TRIB 7)) TRB_TRIB_CHANNEL 5).p (fkey (TRB_TRIB 7)) TRB_TRIB_PORT_ID 40).p (fkey (TRB_TRIB 7)) TRB_TRIB_TS_BASE 64
  { s with trb := { s.trb with ep := [(7, e)] } }

/-- Endpoint 7 is written EN = 0 and stops at the next interchange frame. -/
def stopping : State :=
  let s := trib 0 0 { (default : Trib) with missRun := 3 }
  let s := s.wr (TRB_TRIB 7 + 12) 10241
  { s with trb := { s.trb with frame := some 6, stop := [7] } }

/-- A container of one byte with that MFI, no justification and a good CRC. -/
def ctn (mfi : Nat) : List Byte := containerBytes mfi 0 0 0 2 [0x5A]

/-- Endpoint 7 as `trib` has it, and that frame received. -/
def receiving (kind type : Nat) (e : Trib) (x : Nat × PFrame) : State :=
  let s := trib kind type e
  { s with trb := { s.trb with rx := [x, (9, default)] } }

/-- Endpoint 7 switches its slot 64 to itself in the active page and to slot 65 in the standby page, at interchange frame 6. -/
def switching (sw : Nat) : State :=
  let s := trib 0 2 { (default : Trib) with aligned := true, rxF := [(5, [3])] }
  let s := ((s.wr (TRB_CM_ACT 64) 0x80000040).wr (TRB_CM_STBY 64) 0x80000041).p TRB_CM_CTL TRB_CM_CTL_SWITCH sw
  { s with trb := { s.trb with frame := some 6, inp := [(64, 0x77)] } }

/-- ONU 255 of channel 5 has the key slots 100 to 104, of which 104 holds a data encryption key, and HPB's blob `ublob` is pending. -/
def ublob : List Word := [0x424C424B, 0x10020101, 0x64000000, 0, 0, 0] ++ List.replicate 26 0x5A5A5A5A
def unwrapping : State :=
  let s := ((awake [11, 37, 14]).wr (CRY_ONU 1535) 100).wr (CRY_SLOT 104) 0xB0000000
  { s with cry := { s.cry with blobs := [(1, ublob)], mask := 0x1234 } }

/-- A blob of WRAPPER 2 with an MSK for that ONU's slots. -/
def mblob : List Word := [0x424C424B, 0x10020401, 0x64000000, 0, 0, 0] ++ List.replicate 26 0x5A5A5A5A

/-- A sealed-mode attempt of that ONU. -/
def sealing (q : Seal) : State :=
  let s := unwrapping.p (CRY_ONU 1535) CRY_ONU_SEAL_REQ 1
  { s with cry := { s.cry with seals := [(1535, some q)] } }

theorem wit_TimeServoStepsTimestampsAndTriggers_sample : ({ (awake [5]).wr CLK_STATUS 0 with
      cyc := { (default : Cyc) with pps := [(-3, 9)] }, tim := { (awake []).tim with tsPrev := some 8 } } : State).coasting = false
    ∧ (-3 : Int).natAbs ≤ 16 * (awake [5]).jumpNs := by decide +kernel

theorem wit_TimeServoStepsTimestampsAndTriggers_jump : 16 * (awake [5]).jumpNs < (-(10 : Int) ^ 12).natAbs := by decide +kernel

theorem wit_TimeServoStepsTimestampsAndTriggers_coast : ((awake [5]).p CLK_STATUS CLK_STATUS_COAST 1).coasting = true := by decide +kernel

/-- Port 5 is UP on one lane. -/
def upPort : State := (awake [165]).p (HSL_STATUS 5) HSL_STATUS_STATE 2 |>.p (HSL_STATUS 5) HSL_STATUS_WIDTH_NOW 1

theorem wit_UplinkPortsDefectsFramesAndIdle_oversize :
    upPort.portOfLane (5 : Fin 32) = (5 : Fin 32) ∧ upPort.portState (5 : Fin 32) = 2 ∧ upPort.portFec 5 = true ∧ 10240 < (List.replicate 10241 (7 : Byte)).length :=
  ⟨by decide +kernel, by decide +kernel, by decide +kernel, by rw [List.length_replicate]; decide⟩

/-- A valid alignment marker of lane `i` with count `k`. -/
def mark (i k : Nat) : List Byte :=
  let b : List Byte := [0x5C, BitVec.ofNat 8 i, BitVec.ofNat 8 (255 - i), 0xC5] ++ beBytes 2 k
  b ++ beBytes 1 (crc8 b) ++ [0]

/-- The selvedge block is enabled on both paths. -/
def selv : State := (awake [13, 14]).p SLV_CTL SLV_CTL_EN 1 |>.p SLV_CTL SLV_CTL_PIN_EN 1 |>.wr TMP_SAFE 0 |>.wr CLK_STATUS 0

/-- Cluster 2 has an OMCI ring of 16 entries at 0x3000 of a DIMM of 64 GiB. -/
def omciPlace : State :=
  let s := (awake [18, 192]).p (MEM_STATUS 0) MEM_STATUS_RANKS_PRESENT 1 |>.p (MEM_STATUS 0) MEM_STATUS_TRAINED 1
  { s with host := { s.host with gib := 64 }, shu := { s.shu with ring := [(2, (0x3000, 16, 15, 7))] } }

/-- A request of that code to role 3, with those argument words. -/
def svcR (code : Nat) (l : List Word) : SvcReq := ⟨word (0x55300000 + code) :: l, 5⟩

/-- Cluster 2's role 3 has that kind and serves channel 5; HPB's request to it is pending. -/
def svcWait (code kind : Nat) (l : List Word) : State :=
  let s := (awake [18, 14, 37, 101]).p (SHU_MAP 2 3) SHU_MAP_VALID 1 |>.p (SHU_MAP 2 3) SHU_MAP_KIND kind |>.p (SHU_MAP 2 3) SHU_MAP_CHANNEL 5
  { s with shu := { s.shu with svc := [(9, some (svcR code l))] } }

theorem wit_ServiceRequestsAreAnsweredOnce_pmRoll_1 : (svcWait 0x502 5 [1]).svcOf (2 : Fin 16) (1 : Fin 3) = some (svcR 0x502 [1])
    ∧ (svcWait 0x502 5 [1]).svcDown (2 : Fin 16) (svcR 0x502 [1]).role = false ∧ (svcR 0x502 [1]).code = 0x502
    ∧ (svcWait 0x502 5 [1]).g (SHU_MAP (2 : Fin 16) (svcR 0x502 [1]).role) SHU_MAP_KIND = 5 ∧ ((svcR 0x502 [1]).w 1).toNat ≤ 1 := by decide +kernel


theorem wit_ServiceRequestsAreAnsweredOnce_omciRx_0 : (List.replicate 40 (3 : Byte)).length ≤ 2032 ∧ (omciPlace.shu.ring.look (2 : Fin 16)).2.1 ≠ 0
    ∧ omciPlace.ddrUp = true ∧ omciPlace.isHole ((omciPlace.shu.ring.look (2 : Fin 16)).1 + 2048 * (omciPlace.shu.ring.look (2 : Fin 16)).2.2.1) = false :=
  ⟨by decide +kernel, by decide +kernel, by decide +kernel,
    no_hole _ (by decide +kernel) (by decide +kernel) (by decide +kernel) _ (by decide +kernel)⟩

/-- Role 3 of cluster 2 runs on its shuttle 5; thread 6 is at that microword, with its nanoword. -/
def seqAt (mw nano : Nat) (h : Thread) : State :=
  let s := (svcWait 0 0 []).p (SHU_MAP 2 3) SHU_MAP_PHYS 5
  { s with shu := { s.shu with svc := [], ustore := [(16384 * 37 + 100, word mw)], nstore := [(4096 * 2 + 7, BitVec.ofNat 192 nano)],
                               threads := [(8 * 37 + 6, h)], turn := [(37, 6)] } }

/-- An image of three microwords. -/
def imgA : Image := { (default : Image) with id := 77, entries := [5, 6, 7], words := [1, 2, 3] }

/-- Cluster 2 with role 3 on shuttle 5 and the spare role 9 on shuttle 9, and those swaps. -/
def swapAt (l : List (Nat × Option Swap)) : State :=
  let s := (awake [18, 14]).p (SHU_MAP 2 3) SHU_MAP_VALID 1 |>.p (SHU_MAP 2 3) SHU_MAP_PHYS 5 |>.p (SHU_MAP 2 9) SHU_MAP_VALID 1
    |>.p (SHU_MAP 2 9) SHU_MAP_KIND 6 |>.p (SHU_MAP 2 9) SHU_MAP_PHYS 9 |>.p (SHU_STATUS 2) SHU_STATUS_SPARE_VALID 1
  { s with drf := { s.drf with running := some { (default : Draft) with threading := [⟨0x10, 2 * 4096 + 3 * 256, [77]⟩] }, cache := [imgA] },
           shu := { s.shu with swaps := l, held := [(37, some imgA)], loc := [(65536 * 37 + 3, 9)],
                               threads := [(8 * 37 + 6, { (default : Thread) with waiting := true, pc := 9 }), (8 * 37 + 7, { (default : Thread) with held := some (5, [1]) })] } }

/-- The same with the old holder at rest. -/
def swapRest (l : List (Nat × Option Swap)) : State :=
  let s := swapAt l
  { s with shu := { s.shu with threads := (List.range 8).map (fun i => (8 * 37 + i, { (default : Thread) with waiting := true })) } }

/-- A draft of that kind for cluster 2, of an owner: its header, one empty patch section and its signature block. -/
def fullDraft (kind : Nat) : List Word :=
  [0x54445246, 0x10000, 0, 0, word (kind * 2 ^ 28 + (if kind = 1 then 4 else 0)), 7, 200, 1, 11, 12] ++ List.replicate 54 0
    ++ [0x06000000, 80, 2, 0] ++ List.replicate 12 0 ++ List.replicate 80 0 ++ [0x10100] ++ List.replicate 39 0

/-- A load in that state, with the words taken; an owner is enrolled, and a draft runs. -/
def loading (boot : Bool) (src st : Nat) (l : List Word) : State :=
  let s := (awake [6, 14]).p DRF_STATUS DRF_STATUS_STATE st
  { s with
    drf := { s.drf with busy := true, boot := boot, src := src, before := 5, taken := l,
                        running := some { (default : Draft) with tieupDigest := List.replicate 12 0 }, chThread := [(5, 3)] },
    cry := { s.cry with owners := [(List.replicate 12 0, default)] } }

/-- A region draft that moves channel 5 to cluster 2. -/
def regDraft : Draft := { (default : Draft) with kind := 1, region := 2, build := (11, 12), images := [imgA],
                                                 threading := [⟨0x10, 2 * 4096 + 3 * 256, [word (5 * 2 ^ 26 + 77)]⟩] }

/-- The loader with that draft, its region at rest. -/
def quiesced : State :=
  let s := loading false 1 3 []
  { s with drf := { s.drf with fetched := some regDraft, reweave := some 2, chThread := [] } }

/-- A full draft with one role and its image. -/
def roleDraft : Draft := { (default : Draft) with images := [imgA], threading := [⟨0x10, 2 * 4096 + 3 * 256, [word (5 * 2 ^ 26 + 77)]⟩] }

/-- A state whose running draft is that one. -/
def roleState : State := { awake [6] with drf := { (awake []).drf with running := some roleDraft, cache := [imgA] } }

theorem wit_DraftsAreFetchedVerifiedAndApplied_failed : (roleState.clusterLoads roleDraft [35]).2 = false := by
  decide +kernel

/-- The parts of a fault test: the Temple and the crypto block run. -/
def temple : State := awake [4, 11]

theorem wit_FaultsAreCountedAndTheSafeStateHolds_retired : classUnit 0x20 = some (unitKind (430 : Fin 632))
    ∧ (temple.p (unitReg 430) TMP_UNIT_A_RETIRED 1).unitRetired (430 : Fin 632) = true := by decide +kernel

theorem wit_FaultsAreCountedAndTheSafeStateHolds_blanked : classUnit 0x20 = some (unitKind (430 : Fin 632))
    ∧ temple.unitRetired (430 : Fin 632) = false
    ∧ ({ temple with tmp := { temple.tmp with engBlank := [(14, true)] } } : State).unitBlanked 0x20 (430 : Fin 632) = true := by decide +kernel

theorem wit_FaultsAreCountedAndTheSafeStateHolds_transient : (temple.wr (TMP_REACT 0x20) 0x80000000).react 0x20 = 0x80000000
    ∧ temple.unitRetired (416 : Fin 632) = false ∧ temple.unitBlanked 0x20 (416 : Fin 632) = false
    ∧ (temple.unitHist (416 : Fin 632)).length < 4 ∧ temple.retryHung 0x20 (416 : Fin 632) = false
    ∧ temple.tmp.runStart.look (416 : Fin 632) = none := by decide +kernel

theorem wit_FaultsAreCountedAndTheSafeStateHolds_limit :
    ({ (temple.wr (TMP_REACT 0x18) 0x80000000).p (unitReg 415) TMP_UNIT_A_RUN 3 with
        now := 1000, tmp := { temple.tmp with runStart := [(415, some 5)] } } : State).g (unitReg 415) TMP_UNIT_A_RUN = 3
    ∧ classUnit 0x18 = some (unitKind (415 : Fin 632)) := by decide +kernel

theorem wit_FaultsAreCountedAndTheSafeStateHolds_engineRetires :
    (temple.wr (TMP_REACT 0x20) 0xE0000000).react 0x20 = 0xE0000000 ∧ classUnit 0x20 = some (unitKind (416 : Fin 632))
    ∧ temple.unitRetired (416 : Fin 632) = false ∧ temple.unitBlanked 0x20 (416 : Fin 632) = false := by decide +kernel

theorem wit_FaultsAreCountedAndTheSafeStateHolds_enters : liveClass 0x32 = true ∧ liveClass 0x37 = true ∧ fixedSafe 0x37 = true
    ∧ reactBit ((temple.wr (TMP_REACT 0x32) 0x88000000).react 0x32) 31 = true
    ∧ reactBit ((temple.wr (TMP_REACT 0x32) 0x88000000).react 0x32) 27 = true ∧ temple.safe = false := by decide +kernel

theorem wit_FaultsAreCountedAndTheSafeStateHolds_onlyLogged : liveClass 0x32 = true ∧ fixedSafe 0x32 = false
    ∧ reactBit ((temple.wr (TMP_REACT 0x32) 0).react 0x32) 31 = false := by decide +kernel

theorem wit_FaultsAreCountedAndTheSafeStateHolds_mismatch : classUnit 0x20 = some 4 ∧ 4 ≠ unitKind (5 : Fin 632) := by decide

theorem wit_FaultsAreCountedAndTheSafeStateHolds_exits : (temple.p TMP_SAFE TMP_SAFE_STATE 1).safe = true
    ∧ (temple.p TMP_SAFE TMP_SAFE_STATE 1).safeFree = true ∧ temple.drf.deferred = []
    ∧ ((temple.p TMP_SAFE TMP_SAFE_STATE 1).setCause 0x34 true).safeFree = false
    ∧ (temple.p TMP_SAFE TMP_SAFE_STATE 1).g TMP_SAFE TMP_SAFE_STATE = 1 ∧ temple.safe = false := by decide +kernel

/-- REFA and REFB present at 25 MHz, the first gates behind them, no reset. -/
def refs : State :=
  let s := (awake [2, 8, 14]).p CLK_STATUS CLK_STATUS_PRESENT 3 |>.p CLK_REF_CFG CLK_REF_CFG_REFA_FREQ 0 |>.p CLK_REF_CFG CLK_REF_CFG_REFB_FREQ 0
    |>.p (fkey CLK_REF_CFG) CLK_REF_CFG_REFA_FREQ 0 |>.p (fkey CLK_REF_CFG) CLK_REF_CFG_REFB_FREQ 0
  { s with tmp := { s.tmp with porst := false, srst := false, held := false } }

/-- Adaptive control off: no rail moves. -/
theorem wit_avsPeriod_idle : ∀ i : Fin 5, ((awake [3]).p PWR_CTL PWR_CTL_AVS_EN 0).railLive (i + 1) = false ∨ ∀ v, ([700] : List Nat)[i.val]? = some v →
    ((awake [3]).p PWR_CTL PWR_CTL_AVS_EN 0).railClamp (i + 1) (cdiv v 5 * 5) = ((awake [3]).p PWR_CTL PWR_CTL_AVS_EN 0).g (PWR_RAIL (i + 1)) PWR_RAIL_CMD_MV := fun i => .inl (by revert i; decide +kernel)

theorem wit_IllFormedOperandsAreRefused : offOk 0x10000000 = false ∧ offOk 6 = false ∧ (List.replicate 23 (0 : Byte)).length ≠ 24
    ∧ 2032 < (List.replicate 2033 (0 : Byte)).length ∧ dimmsOk [] = false := by decide +kernel

theorem wit_APlainWriteReplacesTheWritableBits_registerWrite_c0 : (offOk (CLK_REF_CFG) = true) ∧ (((awake [2]) : State).reaches ((Agent.hpa)) (CLK_REF_CFG) = true) ∧ (famOf (CLK_REF_CFG) = some (((famOf CLK_REF_CFG).getD ⟨0, [], 0, 0, 0, 0, false, 0, false, []⟩))) ∧ ((((famOf CLK_REF_CFG).getD ⟨0, [], 0, 0, 0, 0, false, 0, false, []⟩)).agent = false) ∧ ((((famOf CLK_REF_CFG).getD ⟨0, [], 0, 0, 0, 0, false, 0, false, []⟩)).hmw = false) ∧ ((((famOf CLK_REF_CFG).getD ⟨0, [], 0, 0, 0, 0, false, 0, false, []⟩)).sqc = 0) ∧ (((((famOf CLK_REF_CFG).getD ⟨0, [], 0, 0, 0, 0, false, 0, false, []⟩)).pair = 0 ∨ (((famOf CLK_REF_CFG).getD ⟨0, [], 0, 0, 0, 0, false, 0, false, []⟩)).rw = 0)) ∧ (isIntEn (CLK_REF_CFG) = false) ∧ ((writeRoutes.map (·.1)).contains (((famOf CLK_REF_CFG).getD ⟨0, [], 0, 0, 0, 0, false, 0, false, []⟩)).base = false) := by decide +kernel
theorem wit_APlainWriteReplacesTheWritableBits_registerWrite_c1 : (offOk (CLK_REF_CFG) = true) ∧ (((awake [2]) : State).linkUp ((Agent.hpb)) = true) ∧ (((7 : Fin 16)).val ≠ 15) := by decide +kernel
theorem wit_UnmappedOffsetsReadZeroAndDropWrites_readLoSnapshot : (offOk (0xD00000) = true) ∧ (((awake [2]) : State).linkUp ((Agent.hpb)) = true) ∧ ((200 ≤ blockOf (0xD00000) ∨ (((awake [2]) : State).avail (blockOf (0xD00000)) = true ∧ famOf (0xD00000) = none))) := by decide +kernel
theorem wit_UnmappedOffsetsReadZeroAndDropWrites_readLoSnapshot_w1 : (offOk (0x10000) = true) ∧ (((awake [2]) : State).linkUp ((Agent.hpa)) = true) ∧ ((200 ≤ blockOf (0x10000) ∨ (((awake [2]) : State).avail (blockOf (0x10000)) = true ∧ famOf (0x10000) = none))) := by decide +kernel
theorem wit_UnmappedOffsetsReadZeroAndDropWrites_registerWrite : (offOk (0xD00000) = true) ∧ (((awake [2]) : State).linkUp ((Agent.hpb)) = true) ∧ ((200 ≤ blockOf (0xD00000) ∨ (((awake [2]) : State).avail (blockOf (0xD00000)) = true ∧ famOf (0xD00000) = none))) := by decide +kernel
theorem wit_UnmappedOffsetsReadZeroAndDropWrites_registerWrite_w1 : (offOk (0x10000) = true) ∧ (((awake [2]) : State).linkUp ((Agent.hpa)) = true) ∧ ((200 ≤ blockOf (0x10000) ∨ (((awake [2]) : State).avail (blockOf (0x10000)) = true ∧ famOf (0x10000) = none))) := by decide +kernel
theorem wit_APairIsWrittenByItsLowWord_writeHiHold : (offOk (((TIM_STEP + 4))) = true) ∧ (((awake [5]) : State).reaches (Agent.hpa) (((TIM_STEP + 4))) = true) ∧ (famOf (((TIM_STEP + 4))) = some (((famOf (TIM_STEP + 4)).getD ⟨0, [], 0, 0, 0, 0, false, 0, false, []⟩))) ∧ ((((famOf (TIM_STEP + 4)).getD ⟨0, [], 0, 0, 0, 0, false, 0, false, []⟩)).agent = false) ∧ ((((famOf (TIM_STEP + 4)).getD ⟨0, [], 0, 0, 0, 0, false, 0, false, []⟩)).hmw = false) ∧ ((((famOf (TIM_STEP + 4)).getD ⟨0, [], 0, 0, 0, 0, false, 0, false, []⟩)).sqc = 0) ∧ ((((famOf (TIM_STEP + 4)).getD ⟨0, [], 0, 0, 0, 0, false, 0, false, []⟩)).pair = 2) ∧ ((((famOf (TIM_STEP + 4)).getD ⟨0, [], 0, 0, 0, 0, false, 0, false, []⟩)).rw ≠ 0) ∧ (isIntEn (((TIM_STEP + 4))) = false) ∧ ((writeRoutes.map (·.1)).contains (((famOf (TIM_STEP + 4)).getD ⟨0, [], 0, 0, 0, 0, false, 0, false, []⟩)).base = false) := by decide +kernel
theorem wit_APairIsWrittenByItsLowWord_writeLoPair_c1 : (offOk ((TIM_STEP)) = true) ∧ (({ awake [5] with agents := [(0, { (default : AgentSt) with hold := some (TIM_STEP + 4, 9#32) })] } : State).reaches (Agent.hpa) ((TIM_STEP)) = true) ∧ (famOf ((TIM_STEP)) = some (((famOf TIM_STEP).getD ⟨0, [], 0, 0, 0, 0, false, 0, false, []⟩))) ∧ ((((famOf TIM_STEP).getD ⟨0, [], 0, 0, 0, 0, false, 0, false, []⟩)).agent = false) ∧ ((((famOf TIM_STEP).getD ⟨0, [], 0, 0, 0, 0, false, 0, false, []⟩)).hmw = false) ∧ ((((famOf TIM_STEP).getD ⟨0, [], 0, 0, 0, 0, false, 0, false, []⟩)).sqc = 0) ∧ ((((famOf TIM_STEP).getD ⟨0, [], 0, 0, 0, 0, false, 0, false, []⟩)).pair = 1) ∧ ((((famOf TIM_STEP).getD ⟨0, [], 0, 0, 0, 0, false, 0, false, []⟩)).rw ≠ 0) ∧ (isIntEn ((TIM_STEP)) = false) ∧ ((writeRoutes.map (·.1)).contains (((famOf TIM_STEP).getD ⟨0, [], 0, 0, 0, 0, false, 0, false, []⟩)).base = false) ∧ ((({ awake [5] with agents := [(0, { (default : AgentSt) with hold := some (TIM_STEP + 4, 9#32) })] } : State).agents.look (agCode (Agent.hpa))).hold = some ((TIM_STEP) + 4, (9#32))) := by decide +kernel
theorem wit_APairIsWrittenByItsLowWord_writeLoPair_c2 : (offOk ((TIM_STEP)) = true) ∧ (({ awake [5] with agents := [(0, { (default : AgentSt) with hold := some (TIM_PTP_TS + 4, 9#32) })] } : State).reaches (Agent.hpa) ((TIM_STEP)) = true) ∧ (famOf ((TIM_STEP)) = some (((famOf TIM_STEP).getD ⟨0, [], 0, 0, 0, 0, false, 0, false, []⟩))) ∧ ((((famOf TIM_STEP).getD ⟨0, [], 0, 0, 0, 0, false, 0, false, []⟩)).agent = false) ∧ ((((famOf TIM_STEP).getD ⟨0, [], 0, 0, 0, 0, false, 0, false, []⟩)).hmw = false) ∧ ((((famOf TIM_STEP).getD ⟨0, [], 0, 0, 0, 0, false, 0, false, []⟩)).sqc = 0) ∧ ((((famOf TIM_STEP).getD ⟨0, [], 0, 0, 0, 0, false, 0, false, []⟩)).pair = 1) ∧ ((((famOf TIM_STEP).getD ⟨0, [], 0, 0, 0, 0, false, 0, false, []⟩)).rw ≠ 0) ∧ (isIntEn ((TIM_STEP)) = false) ∧ ((writeRoutes.map (·.1)).contains (((famOf TIM_STEP).getD ⟨0, [], 0, 0, 0, 0, false, 0, false, []⟩)).base = false) ∧ (((({ awake [5] with agents := [(0, { (default : AgentSt) with hold := some (TIM_PTP_TS + 4, 9#32) })] } : State).agents.look (agCode (Agent.hpa))).hold.map (·.1)) ≠ some ((TIM_STEP) + 4)) := by decide +kernel
theorem wit_ALowWordReadSnapshotsTheHighWord_readLoSnapshot_c0 : (offOk ((TIM_STEP)) = true) ∧ ((((awake [5]).wr64 TIM_STEP 0x500000001) : State).reaches (Agent.hpb) ((TIM_STEP)) = true) ∧ (famOf ((TIM_STEP)) = some (((famOf TIM_STEP).getD ⟨0, [], 0, 0, 0, 0, false, 0, false, []⟩))) ∧ ((((famOf TIM_STEP).getD ⟨0, [], 0, 0, 0, 0, false, 0, false, []⟩)).agent = false) ∧ ((((famOf TIM_STEP).getD ⟨0, [], 0, 0, 0, 0, false, 0, false, []⟩)).pair = 1) ∧ ((readRoutes.map (·.1)).contains (((famOf TIM_STEP).getD ⟨0, [], 0, 0, 0, 0, false, 0, false, []⟩)).base = false) ∧ ((((famOf TIM_STEP).getD ⟨0, [], 0, 0, 0, 0, false, 0, false, []⟩)).counts (TIM_STEP) = false) := by decide +kernel
theorem wit_ALowWordReadSnapshotsTheHighWord_readLoSnapshot_c1 : (offOk ((PMC_DUMP_SKIPPED)) = true) ∧ (((let s := (awake [15]).wr64 PMC_DUMP_SKIPPED 0x500000002; { s with cyc := { s.cyc with was := { s.cyc.was with regs := [(PMC_DUMP_SKIPPED, 1#32), (PMC_DUMP_SKIPPED + 4, 5#32)] } } }) : State).reaches (Agent.hpb) ((PMC_DUMP_SKIPPED)) = true) ∧ (famOf ((PMC_DUMP_SKIPPED)) = some (((famOf PMC_DUMP_SKIPPED).getD ⟨0, [], 0, 0, 0, 0, false, 0, false, []⟩))) ∧ ((((famOf PMC_DUMP_SKIPPED).getD ⟨0, [], 0, 0, 0, 0, false, 0, false, []⟩)).agent = false) ∧ ((((famOf PMC_DUMP_SKIPPED).getD ⟨0, [], 0, 0, 0, 0, false, 0, false, []⟩)).pair = 1) ∧ ((readRoutes.map (·.1)).contains (((famOf PMC_DUMP_SKIPPED).getD ⟨0, [], 0, 0, 0, 0, false, 0, false, []⟩)).base = false) ∧ ((((famOf PMC_DUMP_SKIPPED).getD ⟨0, [], 0, 0, 0, 0, false, 0, false, []⟩)).counts (PMC_DUMP_SKIPPED) = true) := by decide +kernel
theorem wit_ALowWordReadSnapshotsTheHighWord_readLoSnapshot_c2 : (offOk (((PMC_DUMP_SKIPPED + 4))) = true) ∧ (({ awake [15] with agents := [(0, { (default : AgentSt) with snap := [(PMC_DUMP_SKIPPED + 4, 9#32)] })] } : State).reaches (Agent.hpa) (((PMC_DUMP_SKIPPED + 4))) = true) ∧ (famOf (((PMC_DUMP_SKIPPED + 4))) = some (((famOf (PMC_DUMP_SKIPPED + 4)).getD ⟨0, [], 0, 0, 0, 0, false, 0, false, []⟩))) ∧ ((((famOf (PMC_DUMP_SKIPPED + 4)).getD ⟨0, [], 0, 0, 0, 0, false, 0, false, []⟩)).agent = false) ∧ ((((famOf (PMC_DUMP_SKIPPED + 4)).getD ⟨0, [], 0, 0, 0, 0, false, 0, false, []⟩)).pair = 2) ∧ ((readRoutes.map (·.1)).contains (((famOf (PMC_DUMP_SKIPPED + 4)).getD ⟨0, [], 0, 0, 0, 0, false, 0, false, []⟩)).base = false) ∧ ((({ awake [15] with agents := [(0, { (default : AgentSt) with snap := [(PMC_DUMP_SKIPPED + 4, 9#32)] })] } : State).agents.look (agCode (Agent.hpa))).snap = [(((PMC_DUMP_SKIPPED + 4)), (9#32))]) := by decide +kernel
theorem wit_ASequenceCheckedClearSeesTheNumber_sqcWriteClear_c0 : (offOk (CLK_STATUS) = true) ∧ ((((awake [2]).wr CLK_STATUS 0x05000003) : State).reaches (Agent.hpa) (CLK_STATUS) = true) ∧ (famOf (CLK_STATUS) = some (((famOf CLK_STATUS).getD ⟨0, [], 0, 0, 0, 0, false, 0, false, []⟩))) ∧ ((((famOf CLK_STATUS).getD ⟨0, [], 0, 0, 0, 0, false, 0, false, []⟩)).agent = false) ∧ ((((famOf CLK_STATUS).getD ⟨0, [], 0, 0, 0, 0, false, 0, false, []⟩)).hmw = false) ∧ ((((famOf CLK_STATUS).getD ⟨0, [], 0, 0, 0, 0, false, 0, false, []⟩)).sqc ≠ 0) ∧ (isIntEn (CLK_STATUS) = false) ∧ ((writeRoutes.map (·.1)).contains (((famOf CLK_STATUS).getD ⟨0, [], 0, 0, 0, 0, false, 0, false, []⟩)).base = false) ∧ (bget (0x05000001#32) 24 8 = bget ((((awake [2]).wr CLK_STATUS 0x05000003) : State).rd (CLK_STATUS)) 24 8) ∧ ((((awake [2]).wr CLK_STATUS 0x05000003) : State).cyc.ev.look (CLK_STATUS) = false) := by decide +kernel
theorem wit_ASequenceCheckedClearSeesTheNumber_sqcWriteClear_c1 : (offOk (CLK_STATUS) = true) ∧ ((((awake [2]).wr CLK_STATUS 0x05000003) : State).reaches (Agent.hpa) (CLK_STATUS) = true) ∧ (famOf (CLK_STATUS) = some (((famOf CLK_STATUS).getD ⟨0, [], 0, 0, 0, 0, false, 0, false, []⟩))) ∧ ((((famOf CLK_STATUS).getD ⟨0, [], 0, 0, 0, 0, false, 0, false, []⟩)).agent = false) ∧ ((((famOf CLK_STATUS).getD ⟨0, [], 0, 0, 0, 0, false, 0, false, []⟩)).hmw = false) ∧ ((((famOf CLK_STATUS).getD ⟨0, [], 0, 0, 0, 0, false, 0, false, []⟩)).sqc ≠ 0) ∧ (isIntEn (CLK_STATUS) = false) ∧ ((writeRoutes.map (·.1)).contains (((famOf CLK_STATUS).getD ⟨0, [], 0, 0, 0, 0, false, 0, false, []⟩)).base = false) ∧ ((bget (0x04000001#32) 24 8 ≠ bget ((((awake [2]).wr CLK_STATUS 0x05000003) : State).rd (CLK_STATUS)) 24 8 ∨ (((awake [2]).wr CLK_STATUS 0x05000003) : State).cyc.ev.look (CLK_STATUS) = true)) := by decide +kernel
theorem wit_ASequenceCheckedClearSeesTheNumber_sqcWriteClear_c1_w1 : (offOk (CLK_STATUS) = true) ∧ (((let s := (awake [2]).wr CLK_STATUS 0x05000003; { s with cyc := { s.cyc with ev := [(CLK_STATUS, true)] } }) : State).reaches (Agent.hpa) (CLK_STATUS) = true) ∧ (famOf (CLK_STATUS) = some (((famOf CLK_STATUS).getD ⟨0, [], 0, 0, 0, 0, false, 0, false, []⟩))) ∧ ((((famOf CLK_STATUS).getD ⟨0, [], 0, 0, 0, 0, false, 0, false, []⟩)).agent = false) ∧ ((((famOf CLK_STATUS).getD ⟨0, [], 0, 0, 0, 0, false, 0, false, []⟩)).hmw = false) ∧ ((((famOf CLK_STATUS).getD ⟨0, [], 0, 0, 0, 0, false, 0, false, []⟩)).sqc ≠ 0) ∧ (isIntEn (CLK_STATUS) = false) ∧ ((writeRoutes.map (·.1)).contains (((famOf CLK_STATUS).getD ⟨0, [], 0, 0, 0, 0, false, 0, false, []⟩)).base = false) ∧ ((bget (0x05000001#32) 24 8 ≠ bget (((let s := (awake [2]).wr CLK_STATUS 0x05000003; { s with cyc := { s.cyc with ev := [(CLK_STATUS, true)] } }) : State).rd (CLK_STATUS)) 24 8 ∨ ((let s := (awake [2]).wr CLK_STATUS 0x05000003; { s with cyc := { s.cyc with ev := [(CLK_STATUS, true)] } }) : State).cyc.ev.look (CLK_STATUS) = true)) := by decide +kernel
theorem wit_HalfMaskAndEnableWrites_hmwWrite : (((awake [165]) : State).reaches (Agent.hpa) (HSL_LPI ((5 : Fin 32))) = true) := by decide +kernel
theorem wit_HalfMaskAndEnableWrites_intEnWrite : (offOk ((intEn 32 0)) = true) ∧ (((awake [32]) : State).reaches (Agent.hpa) ((intEn 32 0)) = true) ∧ (isIntEn ((intEn 32 0)) = true) := by decide +kernel
theorem wit_SemaphoresBelongToTheirReader_semRead_c0 : ((awake [] : State).reaches ((Agent.shuttle 3)) (HPI_SEM ((255 : Fin 256))) = true) ∧ ((awake [] : State).g (HPI_SEM ((255 : Fin 256))) HPI_SEM_OWNER = 0) := by decide +kernel
theorem wit_SemaphoresBelongToTheirReader_semRead_c1 : (((awake []).wr (HPI_SEM 0) 2 : State).reaches (Agent.hpa) (HPI_SEM ((0 : Fin 256))) = true) ∧ (((awake []).wr (HPI_SEM 0) 2 : State).g (HPI_SEM ((0 : Fin 256))) HPI_SEM_OWNER ≠ 0) := by decide +kernel
theorem wit_SemaphoresBelongToTheirReader_semRelease_c2 : (((awake []).wr (HPI_SEM 255) 1 : State).reaches (Agent.hpa) (HPI_SEM ((255 : Fin 256))) = true) ∧ ((0#32) = 0) ∧ (((awake []).wr (HPI_SEM 255) 1 : State).g (HPI_SEM ((255 : Fin 256))) HPI_SEM_OWNER = semCode (Agent.hpa)) := by decide +kernel
theorem wit_SemaphoresBelongToTheirReader_semRelease_c3 : (((awake []).wr (HPI_SEM 255) 1 : State).reaches (Agent.temple) (HPI_SEM ((255 : Fin 256))) = true) ∧ ((0#32) = 0) ∧ (((awake []).wr (HPI_SEM 255) 1 : State).g (HPI_SEM ((255 : Fin 256))) HPI_SEM_OWNER ≠ semCode (Agent.temple)) := by decide +kernel
theorem wit_SemaphoresBelongToTheirReader_semRelease_c4 : (((awake []).wr (HPI_SEM 255) 1 : State).reaches (Agent.temple) (HPI_SEM ((255 : Fin 256))) = true) ∧ (bget (7#32) 0 3 ≠ 0) := by decide +kernel
theorem wit_HoldoffsPortsAndHungBlocks_irqHoldoffExpiry : ((({ ((awake []).p (HPI_IRQ_ROUTE 5) HPI_IRQ_ROUTE_HPB_EN 1).wr (akey 1 (HPI_MSIX 5) + 12) 0 with irq := [(11, ⟨true, true, true⟩)] } : State).irq.look (2 * ((5 : Fin 200)) + portCode (Port.hpb))).active = true) ∧ ((({ ((awake []).p (HPI_IRQ_ROUTE 5) HPI_IRQ_ROUTE_HPB_EN 1).wr (akey 1 (HPI_MSIX 5) + 12) 0 with irq := [(11, ⟨true, true, true⟩)] } : State).irq.look (2 * ((5 : Fin 200)) + portCode (Port.hpb))).again = true) ∧ (({ ((awake []).p (HPI_IRQ_ROUTE 5) HPI_IRQ_ROUTE_HPB_EN 1).wr (akey 1 (HPI_MSIX 5) + 12) 0 with irq := [(11, ⟨true, true, true⟩)] } : State).routed ((5 : Fin 200)) (portCode (Port.hpb)) = true) ∧ (bget (({ ((awake []).p (HPI_IRQ_ROUTE 5) HPI_IRQ_ROUTE_HPB_EN 1).wr (akey 1 (HPI_MSIX 5) + 12) 0 with irq := [(11, ⟨true, true, true⟩)] } : State).rd (akey (portCode (Port.hpb)) (HPI_MSIX (({ ((awake []).p (HPI_IRQ_ROUTE 5) HPI_IRQ_ROUTE_HPB_EN 1).wr (akey 1 (HPI_MSIX 5) + 12) 0 with irq := [(11, ⟨true, true, true⟩)] } : State).g (HPI_IRQ_ROUTE ((5 : Fin 200))) HPI_IRQ_ROUTE_VECTOR)) + 12)) 0 1 = 0) := by decide +kernel
theorem wit_HoldoffsPortsAndHungBlocks_accessTimeout : (offOk (0x1080000) = true) ∧ ((awake [34] : State).linkUp (Agent.hpa) = true) ∧ (blockOf (0x1080000) < 200) ∧ ((awake [34] : State).avail (blockOf (0x1080000)) = true) := by decide +kernel
theorem wit_TheDdrWindowAddressesMemory_hpiWinWrite : ((awake [] : State).reaches (Agent.hpb) (HPI_WIN (portCode (Port.hpa))) = true) := by decide +kernel
theorem wit_TheDdrWindowRefusesWhatIsNotThere_bar2Access_c0 : ((awake [] : State).linkUp (portAgent (Port.hpb)) = true) ∧ ((2 ^ 42 ≤ ((awake [] : State).g (HPI_WIN (portCode (Port.hpb))) HPI_WIN_GRANULE * 2 ^ 30 + ((5 : Fin 68719476736))) ∨ (awake [] : State).isHole ((awake [] : State).g (HPI_WIN (portCode (Port.hpb))) HPI_WIN_GRANULE * 2 ^ 30 + ((5 : Fin 68719476736))) = true ∨ (awake [] : State).ddrTrained = false)) := by decide +kernel
theorem wit_TheDdrWindowRefusesWhatIsNotThere_bar2Access_c1 : ((awake [] : State).linkUp (portAgent (Port.hpb)) = true) ∧ ((2 ^ 42 ≤ ((awake [] : State).g (HPI_WIN (portCode (Port.hpb))) HPI_WIN_GRANULE * 2 ^ 30 + ((5 : Fin 68719476736))) ∨ (awake [] : State).isHole ((awake [] : State).g (HPI_WIN (portCode (Port.hpb))) HPI_WIN_GRANULE * 2 ^ 30 + ((5 : Fin 68719476736))) = true ∨ (awake [] : State).ddrTrained = false)) := by decide +kernel
theorem wit_DdrTrainingScrubAndMapOut_ddrTrainingDone : (dimmsOk (((⟨3#8, 512, false⟩ :: List.replicate 7 ⟨0#8, 0, true⟩) : List DimmObs)) = true) ∧ (({ awake [192] with host := { (awake []).host with training := true } } : State).host.training = true) ∧ (({ awake [192] with host := { (awake []).host with training := true } } : State).coasting = false) ∧ ((∀ o ∈ (((⟨3#8, 512, false⟩ :: List.replicate 7 ⟨0#8, 0, true⟩) : List DimmObs)), o.ranks ≠ 0 → o.fail = false ∧ o.gib = (512))) := by decide +kernel
theorem wit_DdrTrainingScrubAndMapOut_ddrPeriodicCal : ((mem1 : State).ddrTrained = true) := by decide +kernel
theorem wit_DdrTrainingScrubAndMapOut_patrolScrub : (({ mem1 with now := 86400000000000 } : State).ddrTrained = true) ∧ (({ mem1 with now := 86400000000000 } : State).host.scrubAt.look ((7 : Fin 8)) + ({ mem1 with now := 86400000000000 } : State).scrubHours * 3600000000000 ≤ ({ mem1 with now := 86400000000000 } : State).now) := by decide +kernel
theorem wit_DdrTrainingScrubAndMapOut_rankMapOut : ((mem1 : State).reaches (Agent.hpa) (MEM_RANK_MAP ((0 : Fin 8))) = true) := by decide +kernel
theorem wit_AnAuditLatchesAndChecksTheLedgers_auditSnap : (Regs.wf ((let s := { (awake [15]).wr64 (lkey (BLT_AUD_STORED 7)) 0x500000003 with now := 900000, ledger := [(5, { (default : LEntry) with state := 1, channel := 63 })] }; { s with cyc := { s.cyc with was := ⟨s.regs, s.ledger, []⟩ } }) : State).regs = true) ∧ (Regs.wf ((let s := { (awake [15]).wr64 (lkey (BLT_AUD_STORED 7)) 0x500000003 with now := 900000, ledger := [(5, { (default : LEntry) with state := 1, channel := 63 })] }; { s with cyc := { s.cyc with was := ⟨s.regs, s.ledger, []⟩ } }) : State).cyc.was.regs = true) ∧ (((let s := { (awake [15]).wr64 (lkey (BLT_AUD_STORED 7)) 0x500000003 with now := 900000, ledger := [(5, { (default : LEntry) with state := 1, channel := 63 })] }; { s with cyc := { s.cyc with was := ⟨s.regs, s.ledger, []⟩ } }) : State).reaches (Agent.hpb) PMC_AUDIT_CTL = true) ∧ ((1#32).getLsbD 0 = true) := by decide +kernel
theorem wit_AnAuditLatchesAndChecksTheLedgers_auditChecksDone : ((((awake [15]).p PMC_AUDIT_STATUS PMC_AUDIT_STATUS_BUSY 1).wr64 (BLT_AUD_PRODUCED 7) 1 : State).on PMC_AUDIT_STATUS PMC_AUDIT_STATUS_BUSY = true) := by decide +kernel
theorem wit_ChannelsStart_channelEnable_c0 : ((chanOff : State).reaches (Agent.hpa) (PCH_CTL ((5 : Fin 64))) = true) ∧ ((chanCtl).getLsbD 31 = true) ∧ ((chanOff : State).chState ((5 : Fin 64)) = 0) ∧ ((chanOff : State).inReweave ((5 : Fin 64)) = false) ∧ (((chanOff : State).wrRW (PCH_CTL ((5 : Fin 64))) (chanCtl)).startCheck ((5 : Fin 64)) = 0) := by decide +kernel
theorem wit_ChannelsStart_channelEnable_c1 : ((awake [37] : State).reaches (Agent.hpa) (PCH_CTL ((5 : Fin 64))) = true) ∧ ((chanCtl).getLsbD 31 = true) ∧ ((awake [37] : State).chState ((5 : Fin 64)) = 0) ∧ ((awake [37] : State).inReweave ((5 : Fin 64)) = false) ∧ (((awake [37] : State).wrRW (PCH_CTL ((5 : Fin 64))) (chanCtl)).startCheck ((5 : Fin 64)) ≠ 0) := by decide +kernel
theorem wit_ChannelsStart_channelEnable_c2 : (((awake [37]).p (PCH_STATUS 5) PCH_STATUS_STATE 4 : State).reaches (Agent.hpa) (PCH_CTL ((5 : Fin 64))) = true) ∧ ((chanCtl).getLsbD 31 = true) ∧ (((awake [37]).p (PCH_STATUS 5) PCH_STATUS_STATE 4 : State).chState ((5 : Fin 64)) = 4) := by decide +kernel
theorem wit_ChannelsStart_channelEnable_c3 : (({ (awake [37]).p (PCH_STATUS 5) PCH_STATUS_STATE 2 with pch := [(5, { (default : Pch) with coastHold := true })] } : State).reaches (Agent.hpa) (PCH_CTL ((5 : Fin 64))) = true) ∧ ((chanCtl).getLsbD 31 = true) ∧ ((({ (awake [37]).p (PCH_STATUS 5) PCH_STATUS_STATE 2 with pch := [(5, { (default : Pch) with coastHold := true })] } : State).chState ((5 : Fin 64)) = 1 ∨ ({ (awake [37]).p (PCH_STATUS 5) PCH_STATUS_STATE 2 with pch := [(5, { (default : Pch) with coastHold := true })] } : State).chState ((5 : Fin 64)) = 2)) := by decide +kernel
theorem wit_ChannelsStart_txPllLock : (((awake [37]).p (PCH_STATUS 5) PCH_STATUS_STATE 1 : State).txAcquiring ((5 : Fin 64)) = true) := by decide +kernel
theorem wit_ChannelsStart_firstPsync : (({ (awake [37]).p (PCH_STATUS 5) PCH_STATUS_STATE 1 with pch := [(5, { (default : Pch) with txLocked := true, freeAlign := true })] } : State).chState ((5 : Fin 64)) = 1) ∧ ((({ (awake [37]).p (PCH_STATUS 5) PCH_STATUS_STATE 1 with pch := [(5, { (default : Pch) with txLocked := true, freeAlign := true })] } : State).pch.look ((5 : Fin 64))).txLocked = true) ∧ ((({ (awake [37]).p (PCH_STATUS 5) PCH_STATUS_STATE 1 with pch := [(5, { (default : Pch) with txLocked := true, freeAlign := true })] } : State).pch.look ((5 : Fin 64))).running = false) ∧ ((({ (awake [37]).p (PCH_STATUS 5) PCH_STATUS_STATE 1 with pch := [(5, { (default : Pch) with txLocked := true, freeAlign := true })] } : State).pch.look ((5 : Fin 64))).freeAlign = true) ∧ ((({ (awake [37]).p (PCH_STATUS 5) PCH_STATUS_STATE 1 with pch := [(5, { (default : Pch) with txLocked := true, freeAlign := true })] } : State).pch.look ((5 : Fin 64))).pair = false) := by decide +kernel
theorem wit_ChannelsStart_startingComplete : (({ ((awake [37]).p (PCH_STATUS 5) PCH_STATUS_STATE 1).p (PCH_CTL 5) PCH_CTL_TX_ON_FRAMES 0 with pch := [(5, { (default : Pch) with txLocked := true, running := true, framesSent := 1 })] } : State).chState ((5 : Fin 64)) = 1) ∧ ((({ ((awake [37]).p (PCH_STATUS 5) PCH_STATUS_STATE 1).p (PCH_CTL 5) PCH_CTL_TX_ON_FRAMES 0 with pch := [(5, { (default : Pch) with txLocked := true, running := true, framesSent := 1 })] } : State).pch.look ((5 : Fin 64))).running = true) ∧ ((({ ((awake [37]).p (PCH_STATUS 5) PCH_STATUS_STATE 1).p (PCH_CTL 5) PCH_CTL_TX_ON_FRAMES 0 with pch := [(5, { (default : Pch) with txLocked := true, running := true, framesSent := 1 })] } : State).pch.look ((5 : Fin 64))).txLocked = true) ∧ ((({ ((awake [37]).p (PCH_STATUS 5) PCH_STATUS_STATE 1).p (PCH_CTL 5) PCH_CTL_TX_ON_FRAMES 0 with pch := [(5, { (default : Pch) with txLocked := true, running := true, framesSent := 1 })] } : State).pch.look ((5 : Fin 64))).protHeld = false) ∧ (max (({ ((awake [37]).p (PCH_STATUS 5) PCH_STATUS_STATE 1).p (PCH_CTL 5) PCH_CTL_TX_ON_FRAMES 0 with pch := [(5, { (default : Pch) with txLocked := true, running := true, framesSent := 1 })] } : State).g (PCH_CTL ((5 : Fin 64))) PCH_CTL_TX_ON_FRAMES) 1 ≤ (({ ((awake [37]).p (PCH_STATUS 5) PCH_STATUS_STATE 1).p (PCH_CTL 5) PCH_CTL_TX_ON_FRAMES 0 with pch := [(5, { (default : Pch) with txLocked := true, running := true, framesSent := 1 })] } : State).pch.look ((5 : Fin 64))).framesSent) ∧ (({ ((awake [37]).p (PCH_STATUS 5) PCH_STATUS_STATE 1).p (PCH_CTL 5) PCH_CTL_TX_ON_FRAMES 0 with pch := [(5, { (default : Pch) with txLocked := true, running := true, framesSent := 1 })] } : State).on (PCH_SLEEP ((5 : Fin 64))) PCH_SLEEP_TX_SLEEP = false) ∧ (({ ((awake [37]).p (PCH_STATUS 5) PCH_STATUS_STATE 1).p (PCH_CTL 5) PCH_CTL_TX_ON_FRAMES 0 with pch := [(5, { (default : Pch) with txLocked := true, running := true, framesSent := 1 })] } : State).on (PCH_SLEEP ((5 : Fin 64))) PCH_SLEEP_RX_SLEEP = false) := by decide +kernel
theorem wit_ChannelsClose_channelDisable_c0 : ((chanOn : State).reaches (Agent.temple) (PCH_CTL ((5 : Fin 64))) = true) ∧ ((0#32).getLsbD 31 = false) ∧ (((chanOn : State).chState ((5 : Fin 64)) = 1 ∨ (chanOn : State).chState ((5 : Fin 64)) = 2)) := by decide +kernel
theorem wit_ChannelsClose_channelDisable_c0_w1 : ((chanOn : State).reaches (Agent.temple) (PCH_CTL ((5 : Fin 64))) = true) ∧ ((0xFFFFFFF#32).getLsbD 31 = false) ∧ (((chanOn : State).chState ((5 : Fin 64)) = 1 ∨ (chanOn : State).chState ((5 : Fin 64)) = 2)) := by decide +kernel
theorem wit_ChannelsClose_channelDisable_c1 : ((awake [37] : State).reaches (Agent.hpa) (PCH_CTL ((5 : Fin 64))) = true) ∧ ((0#32).getLsbD 31 = false) ∧ ((awake [37] : State).chState ((5 : Fin 64)) ≠ 1) ∧ ((awake [37] : State).chState ((5 : Fin 64)) ≠ 2) := by decide +kernel
theorem wit_ChannelsClose_drainTimeout : ((chanOn.p (PCH_STATUS 5) PCH_STATUS_STATE 3 : State).chState ((5 : Fin 64)) = 3) := by decide +kernel
theorem wit_ChannelsClose_closingDone : (({ (awake [37]).p (PCH_STATUS 5) PCH_STATUS_STATE 3 with shd := [(5, { (default : Shd) with inq := [default, default] })] } : State).chState ((5 : Fin 64)) = 3) ∧ ((({ (awake [37]).p (PCH_STATUS 5) PCH_STATUS_STATE 3 with shd := [(5, { (default : Shd) with inq := [default, default] })] } : State).pch.look ((5 : Fin 64))).wins = []) ∧ ((({ (awake [37]).p (PCH_STATUS 5) PCH_STATUS_STATE 3 with shd := [(5, { (default : Shd) with inq := [default, default] })] } : State).pch.look ((5 : Fin 64))).closeWait = 0) ∧ ((({ (awake [37]).p (PCH_STATUS 5) PCH_STATUS_STATE 3 with shd := [(5, { (default : Shd) with inq := [default, default] })] } : State).pch.look ((5 : Fin 64))).carry = none) ∧ (({ (awake [37]).p (PCH_STATUS 5) PCH_STATUS_STATE 3 with shd := [(5, { (default : Shd) with inq := [default, default] })] } : State).chanEmpty ((5 : Fin 64)) = true) ∧ ((({ (awake [37]).p (PCH_STATUS 5) PCH_STATUS_STATE 3 with shd := [(5, { (default : Shd) with inq := [default, default] })] } : State).pch.look ((5 : Fin 64))).enPending = false) ∧ ((({ (awake [37]).p (PCH_STATUS 5) PCH_STATUS_STATE 3 with shd := [(5, { (default : Shd) with inq := [default, default] })] } : State).protHolds ((5 : Fin 64)) && ({ (awake [37]).p (PCH_STATUS 5) PCH_STATUS_STATE 3 with shd := [(5, { (default : Shd) with inq := [default, default] })] } : State).on (PCH_CTL ((5 : Fin 64))) PCH_CTL_ENABLE) = false) := by decide +kernel
theorem wit_ChannelSleep_txSleepRequest_c0 : ((((awake [37]).p (PCH_STATUS 5) PCH_STATUS_STATE 2) : State).reaches (Agent.hpa) (PCH_SLEEP ((5 : Fin 64))) = true) ∧ ((((awake [37]).p (PCH_STATUS 5) PCH_STATUS_STATE 2) : State).chState ((5 : Fin 64)) = 2) ∧ ((0x00010001#32).getLsbD 16 = true) ∧ ((0x00010001#32).getLsbD 0 = true) ∧ ((0x00010001#32).getLsbD 17 = false) ∧ ((((awake [37]).p (PCH_STATUS 5) PCH_STATUS_STATE 2) : State).on (PCH_STATUS ((5 : Fin 64))) PCH_STATUS_TX_ASLEEP = false) ∧ ((((((awake [37]).p (PCH_STATUS 5) PCH_STATUS_STATE 2) : State).keysIn (RNG_ONU ((5 : Fin 64)) 0) (RNG_ONU ((5 : Fin 64)) 256)).any (fun a => decide ((a - RNG_ONU ((5 : Fin 64)) 0) % 16 = 0) && !(decide (bget ((((awake [37]).p (PCH_STATUS 5) PCH_STATUS_STATE 2) : State).rd a) 29 3 = 0) || decide (bget ((((awake [37]).p (PCH_STATUS 5) PCH_STATUS_STATE 2) : State).rd a) 29 3 = 5)))) = false) := by decide +kernel
theorem wit_ChannelSleep_txSleepRequest_c1 : ((((awake [37]).p (PCH_STATUS 5) PCH_STATUS_STATE 2).p (RNG_ONU 5 255) RNG_ONU_STATE 4 : State).reaches (Agent.hpa) (PCH_SLEEP ((5 : Fin 64))) = true) ∧ ((((awake [37]).p (PCH_STATUS 5) PCH_STATUS_STATE 2).p (RNG_ONU 5 255) RNG_ONU_STATE 4 : State).chState ((5 : Fin 64)) = 2) ∧ ((0x00010001#32).getLsbD 16 = true) ∧ ((0x00010001#32).getLsbD 0 = true) ∧ ((0x00010001#32).getLsbD 17 = false) ∧ ((((awake [37]).p (PCH_STATUS 5) PCH_STATUS_STATE 2).p (RNG_ONU 5 255) RNG_ONU_STATE 4 : State).on (PCH_STATUS ((5 : Fin 64))) PCH_STATUS_TX_ASLEEP = false) ∧ ((((((awake [37]).p (PCH_STATUS 5) PCH_STATUS_STATE 2).p (RNG_ONU 5 255) RNG_ONU_STATE 4 : State).keysIn (RNG_ONU ((5 : Fin 64)) 0) (RNG_ONU ((5 : Fin 64)) 256)).any (fun a => decide ((a - RNG_ONU ((5 : Fin 64)) 0) % 16 = 0) && !(decide (bget ((((awake [37]).p (PCH_STATUS 5) PCH_STATUS_STATE 2).p (RNG_ONU 5 255) RNG_ONU_STATE 4 : State).rd a) 29 3 = 0) || decide (bget ((((awake [37]).p (PCH_STATUS 5) PCH_STATUS_STATE 2).p (RNG_ONU 5 255) RNG_ONU_STATE 4 : State).rd a) 29 3 = 5)))) = true) ∧ ((0x00010001#32).getLsbD 18 = false) ∧ ((((awake [37]).p (PCH_STATUS 5) PCH_STATUS_STATE 2).p (RNG_ONU 5 255) RNG_ONU_STATE 4 : State).on (PCH_SLEEP ((5 : Fin 64))) PCH_SLEEP_FORCE_TX = false) := by decide +kernel
theorem wit_ChannelSleep_txWakeRequest : ((((awake [37]).p (PCH_STATUS 5) PCH_STATUS_STATE 2).p (PCH_STATUS 5) PCH_STATUS_TX_ASLEEP 1 : State).reaches (Agent.hpa) (PCH_SLEEP ((5 : Fin 64))) = true) ∧ ((((awake [37]).p (PCH_STATUS 5) PCH_STATUS_STATE 2).p (PCH_STATUS 5) PCH_STATUS_TX_ASLEEP 1 : State).chState ((5 : Fin 64)) = 2) ∧ ((0x00010000#32).getLsbD 16 = true) ∧ ((0x00010000#32).getLsbD 0 = false) ∧ ((0x00010000#32).getLsbD 17 = false) ∧ ((((awake [37]).p (PCH_STATUS 5) PCH_STATUS_STATE 2).p (PCH_STATUS 5) PCH_STATUS_TX_ASLEEP 1 : State).on (PCH_STATUS ((5 : Fin 64))) PCH_STATUS_TX_ASLEEP = true) ∧ (((((awake [37]).p (PCH_STATUS 5) PCH_STATUS_STATE 2).p (PCH_STATUS 5) PCH_STATUS_TX_ASLEEP 1 : State).pch.look ((5 : Fin 64))).waking = false) := by decide +kernel
theorem wit_ChannelSleep_rxSleepRequest : ((chanOn : State).reaches (Agent.hpa) (PCH_SLEEP ((5 : Fin 64))) = true) ∧ ((chanOn : State).chState ((5 : Fin 64)) = 2) ∧ ((0x00020002#32).getLsbD 17 = true) ∧ ((0x00020002#32).getLsbD 1 = true) ∧ ((0x00020002#32).getLsbD 16 = false) ∧ (((chanOn : State).pch.look ((5 : Fin 64))).rxStop = false) := by decide +kernel
theorem wit_ChannelSleep_rxPowerdown : ((({ awake [37] with pch := [(5, { (default : Pch) with rxStop := true })] } : State).pch.look ((5 : Fin 64))).rxStop = true) ∧ ((({ awake [37] with pch := [(5, { (default : Pch) with rxStop := true })] } : State).pch.look ((5 : Fin 64))).wins = []) := by decide +kernel
theorem wit_ChannelSleep_rxWakeRequest : (({ (awake [37]).p (PCH_STATUS 5) PCH_STATUS_STATE 2 with pch := [(5, { (default : Pch) with rxStop := true })] } : State).reaches (Agent.hpa) (PCH_SLEEP ((5 : Fin 64))) = true) ∧ (({ (awake [37]).p (PCH_STATUS 5) PCH_STATUS_STATE 2 with pch := [(5, { (default : Pch) with rxStop := true })] } : State).chState ((5 : Fin 64)) = 2) ∧ ((0x00020000#32).getLsbD 17 = true) ∧ ((0x00020000#32).getLsbD 1 = false) ∧ ((0x00020000#32).getLsbD 16 = false) ∧ ((({ (awake [37]).p (PCH_STATUS 5) PCH_STATUS_STATE 2 with pch := [(5, { (default : Pch) with rxStop := true })] } : State).pch.look ((5 : Fin 64))).rxStop = true) := by decide +kernel
theorem wit_ChannelDefectsRaiseAndClear_chLosRaise_c0 : ((((chan { (default : Pch) with dark := 1 }).wr (PCH_LOS_CTL 5) 0).p (PCH_LOS_CTL 5) PCH_LOS_CTL_ENERGY_EN 1 : State).losSet ((5 : Fin 64)) = true) ∧ ((((((chan { (default : Pch) with dark := 1 }).wr (PCH_LOS_CTL 5) 0).p (PCH_LOS_CTL 5) PCH_LOS_CTL_ENERGY_EN 1 : State).pch.look ((5 : Fin 64))).blankDef || ((((chan { (default : Pch) with dark := 1 }).wr (PCH_LOS_CTL 5) 0).p (PCH_LOS_CTL 5) PCH_LOS_CTL_ENERGY_EN 1 : State).pch.look ((5 : Fin 64))).blankMute) = false) ∧ ((((chan { (default : Pch) with dark := 1 }).wr (PCH_LOS_CTL 5) 0).p (PCH_LOS_CTL 5) PCH_LOS_CTL_ENERGY_EN 1 : State).on (PCH_DEFECT ((5 : Fin 64))) PCH_DEFECT_LOS_LIVE = false) := by decide +kernel
theorem wit_ChannelDefectsRaiseAndClear_chLosRaise_c1 : ((((chan { (default : Pch) with dark := 1, blank := true }).wr (PCH_LOS_CTL 5) 0).p (PCH_LOS_CTL 5) PCH_LOS_CTL_ENERGY_EN 1 : State).losSet ((5 : Fin 64)) = true) ∧ ((((((chan { (default : Pch) with dark := 1, blank := true }).wr (PCH_LOS_CTL 5) 0).p (PCH_LOS_CTL 5) PCH_LOS_CTL_ENERGY_EN 1 : State).pch.look ((5 : Fin 64))).blankDef || ((((chan { (default : Pch) with dark := 1, blank := true }).wr (PCH_LOS_CTL 5) 0).p (PCH_LOS_CTL 5) PCH_LOS_CTL_ENERGY_EN 1 : State).pch.look ((5 : Fin 64))).blankMute) = true) ∧ ((((chan { (default : Pch) with dark := 1, blank := true }).wr (PCH_LOS_CTL 5) 0).p (PCH_LOS_CTL 5) PCH_LOS_CTL_ENERGY_EN 1 : State).on (PCH_DEFECT ((5 : Fin 64))) PCH_DEFECT_LOS_LIVE = false) := by decide +kernel
theorem wit_ChannelDefectsRaiseAndClear_chLosClear : (((((chan { (default : Pch) with lit := 1 }).wr (PCH_LOS_CTL 5) 0).p (PCH_LOS_CTL 5) PCH_LOS_CTL_ENERGY_EN 1).p (PCH_DEFECT 5) PCH_DEFECT_LOS_LIVE 1 : State).losClear ((5 : Fin 64)) = true) ∧ (((((chan { (default : Pch) with lit := 1 }).wr (PCH_LOS_CTL 5) 0).p (PCH_LOS_CTL 5) PCH_LOS_CTL_ENERGY_EN 1).p (PCH_DEFECT 5) PCH_DEFECT_LOS_LIVE 1 : State).on (PCH_DEFECT ((5 : Fin 64))) PCH_DEFECT_LOS_LIVE = true) := by decide +kernel
theorem wit_ChannelDefectsRaiseAndClear_chLolRaise : (100 ≤ ((100 : Nat))) ∧ (((((chan { (default : Pch) with dark := 1 }) : State).pch.look ((5 : Fin 64))).blankDef || (((chan { (default : Pch) with dark := 1 }) : State).pch.look ((5 : Fin 64))).lolBlank) = false) ∧ (((chan { (default : Pch) with dark := 1 }) : State).on (PCH_DEFECT ((5 : Fin 64))) PCH_DEFECT_LOL_LIVE = false) := by decide +kernel
theorem wit_ChannelDefectsRaiseAndClear_chLolClear : (1000 ≤ ((1000 : Nat))) ∧ (((chan { (default : Pch) with dark := 1 }).p (PCH_DEFECT 5) PCH_DEFECT_LOL_LIVE 1 : State).on (PCH_DEFECT ((5 : Fin 64))) PCH_DEFECT_LOL_LIVE = true) := by decide +kernel
theorem wit_ChannelDefectsRaiseAndClear_chTxfRaise_c5 : (((((chan { (default : Pch) with txfDue := true }) : State).when (false) (fun z => z.txfError ((5 : Fin 64)))).pch.look ((5 : Fin 64))).txfDue = true) ∧ ((((chan { (default : Pch) with txfDue := true }) : State).pch.look ((5 : Fin 64))).permBlank = false) ∧ (((chan { (default : Pch) with txfDue := true }) : State).on (PCH_DEFECT ((5 : Fin 64))) PCH_DEFECT_TXF_LIVE = false) := by decide +kernel
theorem wit_ChannelDefectsRaiseAndClear_chTxfRaise_c5_w1 : (((({ (chan { (default : Pch) with txfLast := some 5 }) with now := 1000005 } : State).when (true) (fun z => z.txfError ((5 : Fin 64)))).pch.look ((5 : Fin 64))).txfDue = true) ∧ ((({ (chan { (default : Pch) with txfLast := some 5 }) with now := 1000005 } : State).pch.look ((5 : Fin 64))).permBlank = false) ∧ (({ (chan { (default : Pch) with txfLast := some 5 }) with now := 1000005 } : State).on (PCH_DEFECT ((5 : Fin 64))) PCH_DEFECT_TXF_LIVE = false) := by decide +kernel
theorem wit_ChannelDefectsRaiseAndClear_chTxfRaise_c6 : (((((chan { (default : Pch) with dark := 1 }) : State).when (false) (fun z => z.txfError ((5 : Fin 64)))).pch.look ((5 : Fin 64))).txfDue = false) := by decide +kernel
theorem wit_ChannelDefectsRaiseAndClear_chTxfRaise_c6_w1 : (((({ (chan { (default : Pch) with txfLast := some 5 }) with now := 1000006 } : State).when (true) (fun z => z.txfError ((5 : Fin 64)))).pch.look ((5 : Fin 64))).txfDue = false) := by decide +kernel
theorem wit_ChannelDefectsRaiseAndClear_chTxfClear : ((∀ l ∈ (({ (chan { (default : Pch) with txfDue := true, txfLast := some 5 }).p (PCH_DEFECT 5) PCH_DEFECT_TXF_LIVE 1 with now := 10000005 } : State).pch.look ((5 : Fin 64))).txfLast, 10000000 ≤ ({ (chan { (default : Pch) with txfDue := true, txfLast := some 5 }).p (PCH_DEFECT 5) PCH_DEFECT_TXF_LIVE 1 with now := 10000005 } : State).now - l)) ∧ (({ (chan { (default : Pch) with txfDue := true, txfLast := some 5 }).p (PCH_DEFECT 5) PCH_DEFECT_TXF_LIVE 1 with now := 10000005 } : State).on (PCH_DEFECT ((5 : Fin 64))) PCH_DEFECT_TXF_LIVE = true) := by decide +kernel
theorem wit_ModuleSignalsAndBuses_txdisReadbackMismatch_c0 : (400 ≤ ((400 : Nat))) := by decide +kernel
theorem wit_ModuleSignalsAndBuses_txdisReadbackMismatch_c1 : (((200 : Nat)) ≤ 200) := by decide +kernel
theorem wit_ModuleSignalsAndBuses_txdisReadbackMismatch_c2 : (200 < ((201 : Nat))) ∧ (((201 : Nat)) < 400) := by decide +kernel
theorem wit_ModuleSignalsAndBuses_losPinChange : (((awake []).wr (PCH_PIN_CTL2 5) 0 : State).g (PCH_PIN_CTL2 ((5 : Fin 64))) PCH_PIN_CTL2_LOS_FILTER ≤ ((0 : Nat))) ∧ ((((awake []).wr (PCH_PIN_CTL2 5) 0 : State).pch.look ((5 : Fin 64))).losPin ≠ (true)) := by decide +kernel
theorem wit_ModuleSignalsAndBuses_blankingWindowEnd_c4 : ((((chan { (default : Pch) with blank := true }) : State).pch.look ((5 : Fin 64))).pendingLos = false) ∧ ((((chan { (default : Pch) with blank := true }) : State).pch.look ((5 : Fin 64))).pendingLol = false) := by decide +kernel
theorem wit_ModuleSignalsAndBuses_blankingWindowEnd_c5 : ((((chan { (default : Pch) with blankTx := true }) : State).pch.look ((5 : Fin 64))).txRestart = false) ∧ ((((chan { (default : Pch) with blankTx := true }) : State).pch.look ((5 : Fin 64))).pendingLos = false) ∧ ((((chan { (default : Pch) with blankTx := true }) : State).pch.look ((5 : Fin 64))).pendingLol = false) := by decide +kernel
theorem wit_ModuleSignalsAndBuses_blankingWindowEnd_c6 : (((chan { (default : Pch) with blankMute := true }) : State).tmp.mute = false) ∧ (((chan { (default : Pch) with blankMute := true }) : State).safe = false) ∧ (((chan { (default : Pch) with blankMute := true }) : State).tmp.safePin = false) ∧ ((((chan { (default : Pch) with blankMute := true }) : State).pch.look ((5 : Fin 64))).pendingLos = false) ∧ ((((chan { (default : Pch) with blankMute := true }) : State).pch.look ((5 : Fin 64))).pendingLol = false) ∧ ((∀ i : Fin 256, bit (((chan { (default : Pch) with blankMute := true }) : State).slot ((5 : Fin 64)) i).pendRaise PCH_ONU_DEF_DG.lo = false)) := by decide +kernel
theorem wit_ModuleSignalsAndBuses_blankingWindowEnd_c10 : (((awake [] : State).blks.look ((199 : Fin 200))).resetting = false) := by decide +kernel
theorem wit_ModuleSignalsAndBuses_blankingWindowEnd_c11 : ((awake [] : State).on CRY_STATUS CRY_STATUS_ERASED = false) := by decide +kernel
theorem wit_ModuleSignalsAndBuses_modCmdGo_c12 : ((awake [37] : State).reaches (Agent.hpa) (PCH_MOD_CMD ((5 : Fin 64))) = true) ∧ ((bset (2 ^ 31) PCH_MOD_CMD_LEN.lo PCH_MOD_CMD_LEN.w 1).getLsbD 31 = true) ∧ ((awake [37] : State).on (PCH_MOD_CMD ((5 : Fin 64))) PCH_MOD_CMD_GO = false) ∧ (1 ≤ ((awake [37] : State).wrRW (PCH_MOD_CMD ((5 : Fin 64))) (bset (2 ^ 31) PCH_MOD_CMD_LEN.lo PCH_MOD_CMD_LEN.w 1)).g (PCH_MOD_CMD ((5 : Fin 64))) PCH_MOD_CMD_LEN) ∧ (((awake [37] : State).wrRW (PCH_MOD_CMD ((5 : Fin 64))) (bset (2 ^ 31) PCH_MOD_CMD_LEN.lo PCH_MOD_CMD_LEN.w 1)).g (PCH_MOD_CMD ((5 : Fin 64))) PCH_MOD_CMD_LEN ≤ 4) := by decide +kernel
theorem wit_ModuleSignalsAndBuses_modCmdGo_c12_w1 : ((awake [37] : State).reaches (Agent.hpa) (PCH_MOD_CMD ((5 : Fin 64))) = true) ∧ ((bset (2 ^ 31) PCH_MOD_CMD_LEN.lo PCH_MOD_CMD_LEN.w 4).getLsbD 31 = true) ∧ ((awake [37] : State).on (PCH_MOD_CMD ((5 : Fin 64))) PCH_MOD_CMD_GO = false) ∧ (1 ≤ ((awake [37] : State).wrRW (PCH_MOD_CMD ((5 : Fin 64))) (bset (2 ^ 31) PCH_MOD_CMD_LEN.lo PCH_MOD_CMD_LEN.w 4)).g (PCH_MOD_CMD ((5 : Fin 64))) PCH_MOD_CMD_LEN) ∧ (((awake [37] : State).wrRW (PCH_MOD_CMD ((5 : Fin 64))) (bset (2 ^ 31) PCH_MOD_CMD_LEN.lo PCH_MOD_CMD_LEN.w 4)).g (PCH_MOD_CMD ((5 : Fin 64))) PCH_MOD_CMD_LEN ≤ 4) := by decide +kernel
theorem wit_ModuleSignalsAndBuses_modCmdGo_c13 : ((awake [37] : State).reaches (Agent.hpa) (PCH_MOD_CMD ((5 : Fin 64))) = true) ∧ ((0x80000000#32).getLsbD 31 = true) ∧ ((awake [37] : State).on (PCH_MOD_CMD ((5 : Fin 64))) PCH_MOD_CMD_GO = false) ∧ ((((awake [37] : State).wrRW (PCH_MOD_CMD ((5 : Fin 64))) (0x80000000#32)).g (PCH_MOD_CMD ((5 : Fin 64))) PCH_MOD_CMD_LEN = 0 ∨ 4 < ((awake [37] : State).wrRW (PCH_MOD_CMD ((5 : Fin 64))) (0x80000000#32)).g (PCH_MOD_CMD ((5 : Fin 64))) PCH_MOD_CMD_LEN)) := by decide +kernel
theorem wit_ModuleSignalsAndBuses_modCmdGo_c13_w1 : ((awake [37] : State).reaches (Agent.hpa) (PCH_MOD_CMD ((5 : Fin 64))) = true) ∧ ((bset (2 ^ 31) PCH_MOD_CMD_LEN.lo PCH_MOD_CMD_LEN.w 5).getLsbD 31 = true) ∧ ((awake [37] : State).on (PCH_MOD_CMD ((5 : Fin 64))) PCH_MOD_CMD_GO = false) ∧ ((((awake [37] : State).wrRW (PCH_MOD_CMD ((5 : Fin 64))) (bset (2 ^ 31) PCH_MOD_CMD_LEN.lo PCH_MOD_CMD_LEN.w 5)).g (PCH_MOD_CMD ((5 : Fin 64))) PCH_MOD_CMD_LEN = 0 ∨ 4 < ((awake [37] : State).wrRW (PCH_MOD_CMD ((5 : Fin 64))) (bset (2 ^ 31) PCH_MOD_CMD_LEN.lo PCH_MOD_CMD_LEN.w 5)).g (PCH_MOD_CMD ((5 : Fin 64))) PCH_MOD_CMD_LEN)) := by decide +kernel
theorem wit_ModuleSignalsAndBuses_modCmdGo_c14 : (((awake [37]).p (PCH_MOD_CMD 5) PCH_MOD_CMD_GO 1 : State).reaches (Agent.hpa) (PCH_MOD_CMD ((5 : Fin 64))) = true) ∧ (((awake [37]).p (PCH_MOD_CMD 5) PCH_MOD_CMD_GO 1 : State).on (PCH_MOD_CMD ((5 : Fin 64))) PCH_MOD_CMD_GO = true) := by decide +kernel
theorem wit_ModuleSignalsAndBuses_modTransactionDone_c15 : (({ awake [37] with regs := ((awake [37]).wr (PCH_MOD_CMD 5) (bset (2 ^ 31 + 2 ^ PCH_MOD_CMD_RD.lo) PCH_MOD_CMD_LEN.lo PCH_MOD_CMD_LEN.w 2)).regs, host := { (awake [37]).host with modBus := [(0, [5, 7])] } }.wr (PCH_MOD_DATA 5) 0xFFFFFFFF : State).modRunning ((5 : Fin 64)) = true) ∧ (({ awake [37] with regs := ((awake [37]).wr (PCH_MOD_CMD 5) (bset (2 ^ 31 + 2 ^ PCH_MOD_CMD_RD.lo) PCH_MOD_CMD_LEN.lo PCH_MOD_CMD_LEN.w 2)).regs, host := { (awake [37]).host with modBus := [(0, [5, 7])] } }.wr (PCH_MOD_DATA 5) 0xFFFFFFFF : State).on (PCH_MOD_CMD ((5 : Fin 64))) PCH_MOD_CMD_RD = true) ∧ (({ awake [37] with regs := ((awake [37]).wr (PCH_MOD_CMD 5) (bset (2 ^ 31 + 2 ^ PCH_MOD_CMD_RD.lo) PCH_MOD_CMD_LEN.lo PCH_MOD_CMD_LEN.w 2)).regs, host := { (awake [37]).host with modBus := [(0, [5, 7])] } }.wr (PCH_MOD_DATA 5) 0xFFFFFFFF : State).g (PCH_MOD_CMD ((5 : Fin 64))) PCH_MOD_CMD_LEN ≤ 4) := by decide +kernel
theorem wit_ModuleSignalsAndBuses_modTransactionDone_c16 : (({ awake [37] with regs := ((awake [37]).wr (PCH_MOD_CMD 5) (bset (2 ^ 31 + 2 ^ PCH_MOD_CMD_RD.lo) PCH_MOD_CMD_LEN.lo PCH_MOD_CMD_LEN.w 2)).regs, host := { (awake [37]).host with modBus := [(0, [5, 7])] } }.p (PCH_MOD_CMD 5) PCH_MOD_CMD_RD 0 : State).modRunning ((5 : Fin 64)) = true) ∧ (({ awake [37] with regs := ((awake [37]).wr (PCH_MOD_CMD 5) (bset (2 ^ 31 + 2 ^ PCH_MOD_CMD_RD.lo) PCH_MOD_CMD_LEN.lo PCH_MOD_CMD_LEN.w 2)).regs, host := { (awake [37]).host with modBus := [(0, [5, 7])] } }.p (PCH_MOD_CMD 5) PCH_MOD_CMD_RD 0 : State).on (PCH_MOD_CMD ((5 : Fin 64))) PCH_MOD_CMD_RD = false) := by decide +kernel
theorem wit_ModuleSignalsAndBuses_modTransactionDone_c17 : (({ awake [37] with regs := ((awake [37]).wr (PCH_MOD_CMD 5) (bset (2 ^ 31 + 2 ^ PCH_MOD_CMD_RD.lo) PCH_MOD_CMD_LEN.lo PCH_MOD_CMD_LEN.w 2)).regs, host := { (awake [37]).host with modBus := [(0, [5, 7])] } } : State).modRunning ((5 : Fin 64)) = true) := by decide +kernel
theorem wit_ModuleSignalsAndBuses_modTransactionDone_c18 : (({ awake [37] with regs := ((awake [37]).wr (PCH_MOD_CMD 5) (bset (2 ^ 31 + 2 ^ PCH_MOD_CMD_RD.lo) PCH_MOD_CMD_LEN.lo PCH_MOD_CMD_LEN.w 2)).regs, host := { (awake [37]).host with modBus := [(0, [5, 7])] } } : State).modRunning ((5 : Fin 64)) = true) := by decide +kernel
theorem wit_ModuleSignalsAndBuses_modTransactionDone_c19 : (({ awake [37] with regs := ((awake [37]).wr (PCH_MOD_CMD 5) (bset (2 ^ 31 + 2 ^ PCH_MOD_CMD_RD.lo) PCH_MOD_CMD_LEN.lo PCH_MOD_CMD_LEN.w 2)).regs, host := { (awake [37]).host with modBus := [(0, [5, 7])] } } : State).modRunning ((5 : Fin 64)) = true) := by decide +kernel
theorem wit_ModuleSignalsAndBuses_modStretchTimeout : (({ awake [37] with regs := ((awake [37]).wr (PCH_MOD_CMD 5) (bset (2 ^ 31 + 2 ^ PCH_MOD_CMD_RD.lo) PCH_MOD_CMD_LEN.lo PCH_MOD_CMD_LEN.w 2)).regs, host := { (awake [37]).host with modBus := [(0, [5, 7])] } } : State).modRunning ((5 : Fin 64)) = true) := by decide +kernel
theorem wit_APsyncLatchesTheFrame_psync_c0 : ((((chan { (default : Pch) with running := true, openLo := 2, freeAlign := true, framesSent := 1 }) : State).pch.look ((5 : Fin 64))).running = true) ∧ ((((chan { (default : Pch) with running := true, openLo := 2, freeAlign := true, framesSent := 1 }) : State).pch.look ((5 : Fin 64))).due8 ≤ 8 * ((chan { (default : Pch) with running := true, openLo := 2, freeAlign := true, framesSent := 1 }) : State).now + 8) ∧ ((((chan { (default : Pch) with running := true, openLo := 2, freeAlign := true, framesSent := 1 }) : State).pch.look ((5 : Fin 64))).openLo % 2 ^ 51 = (((chan { (default : Pch) with running := true, openLo := 2, freeAlign := true, framesSent := 1 }) : State).rd64 (DSF_SFC ((5 : Fin 64))) + 2) % 2 ^ 51) ∧ ((((chan { (default : Pch) with running := true, openLo := 2, freeAlign := true, framesSent := 1 }) : State).pch.look ((5 : Fin 64))).freeAlign = true) ∧ ((((chan { (default : Pch) with running := true, openLo := 2, freeAlign := true, framesSent := 1 }) : State).on TRB_CTL TRB_CTL_EN = false ∨ ((chan { (default : Pch) with running := true, openLo := 2, freeAlign := true, framesSent := 1 }) : State).chState ((5 : Fin 64)) ≠ 2)) ∧ (((((chan { (default : Pch) with running := true, openLo := 2, freeAlign := true, framesSent := 1 }) : State).pch.look ((5 : Fin 64))).waking && (((chan { (default : Pch) with running := true, openLo := 2, freeAlign := true, framesSent := 1 }) : State).pch.look ((5 : Fin 64))).txLocked) = false) ∧ ((((chan { (default : Pch) with running := true, openLo := 2, freeAlign := true, framesSent := 1 }) : State).pch.look ((5 : Fin 64))).carry = none) ∧ ((((chan { (default : Pch) with running := true, openLo := 2, freeAlign := true, framesSent := 1 }) : State).rng.look ((5 : Fin 64))).utStart ≠ some ((((chan { (default : Pch) with running := true, openLo := 2, freeAlign := true, framesSent := 1 }) : State).pch.look ((5 : Fin 64))).openLo - 1)) := by decide +kernel
theorem wit_APsyncLatchesTheFrame_psync_c1 : ((({ (chan { (default : Pch) with running := true, openLo := 2, freeAlign := true, framesSent := 1 }) with rng := [(5, { (default : Rng) with utStart := some 1, utOpen := true })] } : State).pch.look ((5 : Fin 64))).running = true) ∧ ((({ (chan { (default : Pch) with running := true, openLo := 2, freeAlign := true, framesSent := 1 }) with rng := [(5, { (default : Rng) with utStart := some 1, utOpen := true })] } : State).pch.look ((5 : Fin 64))).due8 ≤ 8 * ({ (chan { (default : Pch) with running := true, openLo := 2, freeAlign := true, framesSent := 1 }) with rng := [(5, { (default : Rng) with utStart := some 1, utOpen := true })] } : State).now + 8) ∧ ((({ (chan { (default : Pch) with running := true, openLo := 2, freeAlign := true, framesSent := 1 }) with rng := [(5, { (default : Rng) with utStart := some 1, utOpen := true })] } : State).pch.look ((5 : Fin 64))).openLo % 2 ^ 51 = (({ (chan { (default : Pch) with running := true, openLo := 2, freeAlign := true, framesSent := 1 }) with rng := [(5, { (default : Rng) with utStart := some 1, utOpen := true })] } : State).rd64 (DSF_SFC ((5 : Fin 64))) + 2) % 2 ^ 51) ∧ ((({ (chan { (default : Pch) with running := true, openLo := 2, freeAlign := true, framesSent := 1 }) with rng := [(5, { (default : Rng) with utStart := some 1, utOpen := true })] } : State).pch.look ((5 : Fin 64))).freeAlign = true) ∧ ((({ (chan { (default : Pch) with running := true, openLo := 2, freeAlign := true, framesSent := 1 }) with rng := [(5, { (default : Rng) with utStart := some 1, utOpen := true })] } : State).on TRB_CTL TRB_CTL_EN = false ∨ ({ (chan { (default : Pch) with running := true, openLo := 2, freeAlign := true, framesSent := 1 }) with rng := [(5, { (default : Rng) with utStart := some 1, utOpen := true })] } : State).chState ((5 : Fin 64)) ≠ 2)) ∧ (((({ (chan { (default : Pch) with running := true, openLo := 2, freeAlign := true, framesSent := 1 }) with rng := [(5, { (default : Rng) with utStart := some 1, utOpen := true })] } : State).pch.look ((5 : Fin 64))).waking && (({ (chan { (default : Pch) with running := true, openLo := 2, freeAlign := true, framesSent := 1 }) with rng := [(5, { (default : Rng) with utStart := some 1, utOpen := true })] } : State).pch.look ((5 : Fin 64))).txLocked) = false) ∧ ((({ (chan { (default : Pch) with running := true, openLo := 2, freeAlign := true, framesSent := 1 }) with rng := [(5, { (default : Rng) with utStart := some 1, utOpen := true })] } : State).pch.look ((5 : Fin 64))).carry = none) ∧ ((({ (chan { (default : Pch) with running := true, openLo := 2, freeAlign := true, framesSent := 1 }) with rng := [(5, { (default : Rng) with utStart := some 1, utOpen := true })] } : State).rng.look ((5 : Fin 64))).utStart = some ((({ (chan { (default : Pch) with running := true, openLo := 2, freeAlign := true, framesSent := 1 }) with rng := [(5, { (default : Rng) with utStart := some 1, utOpen := true })] } : State).pch.look ((5 : Fin 64))).openLo - 1)) := by decide +kernel
theorem wit_APsyncLatchesTheFrame_psync_c2 : ((((chan { (default : Pch) with running := true, openLo := 2, freeAlign := true, framesSent := 1, sealed := [default], wins := [{ (default : Win) with frame := 1 }] }) : State).pch.look ((5 : Fin 64))).running = true) ∧ ((((chan { (default : Pch) with running := true, openLo := 2, freeAlign := true, framesSent := 1, sealed := [default], wins := [{ (default : Win) with frame := 1 }] }) : State).pch.look ((5 : Fin 64))).due8 ≤ 8 * ((chan { (default : Pch) with running := true, openLo := 2, freeAlign := true, framesSent := 1, sealed := [default], wins := [{ (default : Win) with frame := 1 }] }) : State).now + 8) ∧ ((((chan { (default : Pch) with running := true, openLo := 2, freeAlign := true, framesSent := 1, sealed := [default], wins := [{ (default : Win) with frame := 1 }] }) : State).pch.look ((5 : Fin 64))).openLo % 2 ^ 51 = (((chan { (default : Pch) with running := true, openLo := 2, freeAlign := true, framesSent := 1, sealed := [default], wins := [{ (default : Win) with frame := 1 }] }) : State).rd64 (DSF_SFC ((5 : Fin 64))) + 2) % 2 ^ 51) ∧ ((((chan { (default : Pch) with running := true, openLo := 2, freeAlign := true, framesSent := 1, sealed := [default], wins := [{ (default : Win) with frame := 1 }] }) : State).pch.look ((5 : Fin 64))).freeAlign = true) ∧ ((((chan { (default : Pch) with running := true, openLo := 2, freeAlign := true, framesSent := 1, sealed := [default], wins := [{ (default : Win) with frame := 1 }] }) : State).on TRB_CTL TRB_CTL_EN = false ∨ ((chan { (default : Pch) with running := true, openLo := 2, freeAlign := true, framesSent := 1, sealed := [default], wins := [{ (default : Win) with frame := 1 }] }) : State).chState ((5 : Fin 64)) ≠ 2)) ∧ (((((chan { (default : Pch) with running := true, openLo := 2, freeAlign := true, framesSent := 1, sealed := [default], wins := [{ (default : Win) with frame := 1 }] }) : State).pch.look ((5 : Fin 64))).waking && (((chan { (default : Pch) with running := true, openLo := 2, freeAlign := true, framesSent := 1, sealed := [default], wins := [{ (default : Win) with frame := 1 }] }) : State).pch.look ((5 : Fin 64))).txLocked) = false) ∧ ((((chan { (default : Pch) with running := true, openLo := 2, freeAlign := true, framesSent := 1, sealed := [default], wins := [{ (default : Win) with frame := 1 }] }) : State).pch.look ((5 : Fin 64))).carry = none) ∧ ((((chan { (default : Pch) with running := true, openLo := 2, freeAlign := true, framesSent := 1, sealed := [default], wins := [{ (default : Win) with frame := 1 }] }) : State).rng.look ((5 : Fin 64))).utStart ≠ some ((((chan { (default : Pch) with running := true, openLo := 2, freeAlign := true, framesSent := 1, sealed := [default], wins := [{ (default : Win) with frame := 1 }] }) : State).pch.look ((5 : Fin 64))).openLo - 1)) := by decide +kernel
theorem wit_APsyncLatchesTheFrame_psync_c3 : ((((chan { (default : Pch) with running := true, openLo := 2, freeAlign := false, framesSent := 1 }) : State).pch.look ((5 : Fin 64))).running = true) ∧ ((((chan { (default : Pch) with running := true, openLo := 2, freeAlign := false, framesSent := 1 }) : State).pch.look ((5 : Fin 64))).due8 ≤ 8 * ((chan { (default : Pch) with running := true, openLo := 2, freeAlign := false, framesSent := 1 }) : State).now + 8) ∧ ((((chan { (default : Pch) with running := true, openLo := 2, freeAlign := false, framesSent := 1 }) : State).pch.look ((5 : Fin 64))).openLo % 2 ^ 51 = (((chan { (default : Pch) with running := true, openLo := 2, freeAlign := false, framesSent := 1 }) : State).rd64 (DSF_SFC ((5 : Fin 64))) + 2) % 2 ^ 51) ∧ ((((chan { (default : Pch) with running := true, openLo := 2, freeAlign := false, framesSent := 1 }) : State).pch.look ((5 : Fin 64))).freeAlign = false) ∧ ((((chan { (default : Pch) with running := true, openLo := 2, freeAlign := false, framesSent := 1 }) : State).on (DSF_STATUS ((5 : Fin 64))) DSF_STATUS_ALIGNED = false ∨ (((chan { (default : Pch) with running := true, openLo := 2, freeAlign := false, framesSent := 1 }) : State).alignErr ((5 : Fin 64)) ((((chan { (default : Pch) with running := true, openLo := 2, freeAlign := false, framesSent := 1 }) : State).pch.look ((5 : Fin 64))).openLo - 1)).natAbs ≤ 100)) ∧ ((((chan { (default : Pch) with running := true, openLo := 2, freeAlign := false, framesSent := 1 }) : State).on TRB_CTL TRB_CTL_EN = false ∨ ((chan { (default : Pch) with running := true, openLo := 2, freeAlign := false, framesSent := 1 }) : State).chState ((5 : Fin 64)) ≠ 2)) ∧ (((((chan { (default : Pch) with running := true, openLo := 2, freeAlign := false, framesSent := 1 }) : State).pch.look ((5 : Fin 64))).waking && (((chan { (default : Pch) with running := true, openLo := 2, freeAlign := false, framesSent := 1 }) : State).pch.look ((5 : Fin 64))).txLocked) = false) ∧ ((((chan { (default : Pch) with running := true, openLo := 2, freeAlign := false, framesSent := 1 }) : State).pch.look ((5 : Fin 64))).carry = none) ∧ ((((chan { (default : Pch) with running := true, openLo := 2, freeAlign := false, framesSent := 1 }) : State).rng.look ((5 : Fin 64))).utStart ≠ some ((((chan { (default : Pch) with running := true, openLo := 2, freeAlign := false, framesSent := 1 }) : State).pch.look ((5 : Fin 64))).openLo - 1)) := by decide +kernel
theorem wit_APsyncLatchesTheFrame_psync_c3_w1 : ((({ (chan { (default : Pch) with running := true, openLo := 2, freeAlign := false, framesSent := 1 }) with regs := ((chan { (default : Pch) with running := true, openLo := 2, freeAlign := false, framesSent := 1 }).p (DSF_STATUS 5) DSF_STATUS_ALIGNED 1).regs, tim := { (chan { (default : Pch) with running := true, openLo := 2, freeAlign := false, framesSent := 1 }).tim with ns := 124900 } } : State).pch.look ((5 : Fin 64))).running = true) ∧ ((({ (chan { (default : Pch) with running := true, openLo := 2, freeAlign := false, framesSent := 1 }) with regs := ((chan { (default : Pch) with running := true, openLo := 2, freeAlign := false, framesSent := 1 }).p (DSF_STATUS 5) DSF_STATUS_ALIGNED 1).regs, tim := { (chan { (default : Pch) with running := true, openLo := 2, freeAlign := false, framesSent := 1 }).tim with ns := 124900 } } : State).pch.look ((5 : Fin 64))).due8 ≤ 8 * ({ (chan { (default : Pch) with running := true, openLo := 2, freeAlign := false, framesSent := 1 }) with regs := ((chan { (default : Pch) with running := true, openLo := 2, freeAlign := false, framesSent := 1 }).p (DSF_STATUS 5) DSF_STATUS_ALIGNED 1).regs, tim := { (chan { (default : Pch) with running := true, openLo := 2, freeAlign := false, framesSent := 1 }).tim with ns := 124900 } } : State).now + 8) ∧ ((({ (chan { (default : Pch) with running := true, openLo := 2, freeAlign := false, framesSent := 1 }) with regs := ((chan { (default : Pch) with running := true, openLo := 2, freeAlign := false, framesSent := 1 }).p (DSF_STATUS 5) DSF_STATUS_ALIGNED 1).regs, tim := { (chan { (default : Pch) with running := true, openLo := 2, freeAlign := false, framesSent := 1 }).tim with ns := 124900 } } : State).pch.look ((5 : Fin 64))).openLo % 2 ^ 51 = (({ (chan { (default : Pch) with running := true, openLo := 2, freeAlign := false, framesSent := 1 }) with regs := ((chan { (default : Pch) with running := true, openLo := 2, freeAlign := false, framesSent := 1 }).p (DSF_STATUS 5) DSF_STATUS_ALIGNED 1).regs, tim := { (chan { (default : Pch) with running := true, openLo := 2, freeAlign := false, framesSent := 1 }).tim with ns := 124900 } } : State).rd64 (DSF_SFC ((5 : Fin 64))) + 2) % 2 ^ 51) ∧ ((({ (chan { (default : Pch) with running := true, openLo := 2, freeAlign := false, framesSent := 1 }) with regs := ((chan { (default : Pch) with running := true, openLo := 2, freeAlign := false, framesSent := 1 }).p (DSF_STATUS 5) DSF_STATUS_ALIGNED 1).regs, tim := { (chan { (default : Pch) with running := true, openLo := 2, freeAlign := false, framesSent := 1 }).tim with ns := 124900 } } : State).pch.look ((5 : Fin 64))).freeAlign = false) ∧ ((({ (chan { (default : Pch) with running := true, openLo := 2, freeAlign := false, framesSent := 1 }) with regs := ((chan { (default : Pch) with running := true, openLo := 2, freeAlign := false, framesSent := 1 }).p (DSF_STATUS 5) DSF_STATUS_ALIGNED 1).regs, tim := { (chan { (default : Pch) with running := true, openLo := 2, freeAlign := false, framesSent := 1 }).tim with ns := 124900 } } : State).on (DSF_STATUS ((5 : Fin 64))) DSF_STATUS_ALIGNED = false ∨ (({ (chan { (default : Pch) with running := true, openLo := 2, freeAlign := false, framesSent := 1 }) with regs := ((chan { (default : Pch) with running := true, openLo := 2, freeAlign := false, framesSent := 1 }).p (DSF_STATUS 5) DSF_STATUS_ALIGNED 1).regs, tim := { (chan { (default : Pch) with running := true, openLo := 2, freeAlign := false, framesSent := 1 }).tim with ns := 124900 } } : State).alignErr ((5 : Fin 64)) ((({ (chan { (default : Pch) with running := true, openLo := 2, freeAlign := false, framesSent := 1 }) with regs := ((chan { (default : Pch) with running := true, openLo := 2, freeAlign := false, framesSent := 1 }).p (DSF_STATUS 5) DSF_STATUS_ALIGNED 1).regs, tim := { (chan { (default : Pch) with running := true, openLo := 2, freeAlign := false, framesSent := 1 }).tim with ns := 124900 } } : State).pch.look ((5 : Fin 64))).openLo - 1)).natAbs ≤ 100)) ∧ ((({ (chan { (default : Pch) with running := true, openLo := 2, freeAlign := false, framesSent := 1 }) with regs := ((chan { (default : Pch) with running := true, openLo := 2, freeAlign := false, framesSent := 1 }).p (DSF_STATUS 5) DSF_STATUS_ALIGNED 1).regs, tim := { (chan { (default : Pch) with running := true, openLo := 2, freeAlign := false, framesSent := 1 }).tim with ns := 124900 } } : State).on TRB_CTL TRB_CTL_EN = false ∨ ({ (chan { (default : Pch) with running := true, openLo := 2, freeAlign := false, framesSent := 1 }) with regs := ((chan { (default : Pch) with running := true, openLo := 2, freeAlign := false, framesSent := 1 }).p (DSF_STATUS 5) DSF_STATUS_ALIGNED 1).regs, tim := { (chan { (default : Pch) with running := true, openLo := 2, freeAlign := false, framesSent := 1 }).tim with ns := 124900 } } : State).chState ((5 : Fin 64)) ≠ 2)) ∧ (((({ (chan { (default : Pch) with running := true, openLo := 2, freeAlign := false, framesSent := 1 }) with regs := ((chan { (default : Pch) with running := true, openLo := 2, freeAlign := false, framesSent := 1 }).p (DSF_STATUS 5) DSF_STATUS_ALIGNED 1).regs, tim := { (chan { (default : Pch) with running := true, openLo := 2, freeAlign := false, framesSent := 1 }).tim with ns := 124900 } } : State).pch.look ((5 : Fin 64))).waking && (({ (chan { (default : Pch) with running := true, openLo := 2, freeAlign := false, framesSent := 1 }) with regs := ((chan { (default : Pch) with running := true, openLo := 2, freeAlign := false, framesSent := 1 }).p (DSF_STATUS 5) DSF_STATUS_ALIGNED 1).regs, tim := { (chan { (default : Pch) with running := true, openLo := 2, freeAlign := false, framesSent := 1 }).tim with ns := 124900 } } : State).pch.look ((5 : Fin 64))).txLocked) = false) ∧ ((({ (chan { (default : Pch) with running := true, openLo := 2, freeAlign := false, framesSent := 1 }) with regs := ((chan { (default : Pch) with running := true, openLo := 2, freeAlign := false, framesSent := 1 }).p (DSF_STATUS 5) DSF_STATUS_ALIGNED 1).regs, tim := { (chan { (default : Pch) with running := true, openLo := 2, freeAlign := false, framesSent := 1 }).tim with ns := 124900 } } : State).pch.look ((5 : Fin 64))).carry = none) ∧ ((({ (chan { (default : Pch) with running := true, openLo := 2, freeAlign := false, framesSent := 1 }) with regs := ((chan { (default : Pch) with running := true, openLo := 2, freeAlign := false, framesSent := 1 }).p (DSF_STATUS 5) DSF_STATUS_ALIGNED 1).regs, tim := { (chan { (default : Pch) with running := true, openLo := 2, freeAlign := false, framesSent := 1 }).tim with ns := 124900 } } : State).rng.look ((5 : Fin 64))).utStart ≠ some ((({ (chan { (default : Pch) with running := true, openLo := 2, freeAlign := false, framesSent := 1 }) with regs := ((chan { (default : Pch) with running := true, openLo := 2, freeAlign := false, framesSent := 1 }).p (DSF_STATUS 5) DSF_STATUS_ALIGNED 1).regs, tim := { (chan { (default : Pch) with running := true, openLo := 2, freeAlign := false, framesSent := 1 }).tim with ns := 124900 } } : State).pch.look ((5 : Fin 64))).openLo - 1)) := by decide +kernel
theorem wit_APsyncLatchesTheFrame_psync_c4 : ((({ (chan { (default : Pch) with running := true, openLo := 2, freeAlign := false, framesSent := 1 }) with regs := ((chan { (default : Pch) with running := true, openLo := 2, freeAlign := false, framesSent := 1 }).p (DSF_STATUS 5) DSF_STATUS_ALIGNED 1).regs, tim := { (chan { (default : Pch) with running := true, openLo := 2, freeAlign := false, framesSent := 1 }).tim with ns := 124899 } } : State).pch.look ((5 : Fin 64))).running = true) ∧ ((({ (chan { (default : Pch) with running := true, openLo := 2, freeAlign := false, framesSent := 1 }) with regs := ((chan { (default : Pch) with running := true, openLo := 2, freeAlign := false, framesSent := 1 }).p (DSF_STATUS 5) DSF_STATUS_ALIGNED 1).regs, tim := { (chan { (default : Pch) with running := true, openLo := 2, freeAlign := false, framesSent := 1 }).tim with ns := 124899 } } : State).pch.look ((5 : Fin 64))).due8 ≤ 8 * ({ (chan { (default : Pch) with running := true, openLo := 2, freeAlign := false, framesSent := 1 }) with regs := ((chan { (default : Pch) with running := true, openLo := 2, freeAlign := false, framesSent := 1 }).p (DSF_STATUS 5) DSF_STATUS_ALIGNED 1).regs, tim := { (chan { (default : Pch) with running := true, openLo := 2, freeAlign := false, framesSent := 1 }).tim with ns := 124899 } } : State).now + 8) ∧ ((({ (chan { (default : Pch) with running := true, openLo := 2, freeAlign := false, framesSent := 1 }) with regs := ((chan { (default : Pch) with running := true, openLo := 2, freeAlign := false, framesSent := 1 }).p (DSF_STATUS 5) DSF_STATUS_ALIGNED 1).regs, tim := { (chan { (default : Pch) with running := true, openLo := 2, freeAlign := false, framesSent := 1 }).tim with ns := 124899 } } : State).pch.look ((5 : Fin 64))).openLo % 2 ^ 51 = (({ (chan { (default : Pch) with running := true, openLo := 2, freeAlign := false, framesSent := 1 }) with regs := ((chan { (default : Pch) with running := true, openLo := 2, freeAlign := false, framesSent := 1 }).p (DSF_STATUS 5) DSF_STATUS_ALIGNED 1).regs, tim := { (chan { (default : Pch) with running := true, openLo := 2, freeAlign := false, framesSent := 1 }).tim with ns := 124899 } } : State).rd64 (DSF_SFC ((5 : Fin 64))) + 2) % 2 ^ 51) ∧ ((({ (chan { (default : Pch) with running := true, openLo := 2, freeAlign := false, framesSent := 1 }) with regs := ((chan { (default : Pch) with running := true, openLo := 2, freeAlign := false, framesSent := 1 }).p (DSF_STATUS 5) DSF_STATUS_ALIGNED 1).regs, tim := { (chan { (default : Pch) with running := true, openLo := 2, freeAlign := false, framesSent := 1 }).tim with ns := 124899 } } : State).pch.look ((5 : Fin 64))).freeAlign = false) ∧ (({ (chan { (default : Pch) with running := true, openLo := 2, freeAlign := false, framesSent := 1 }) with regs := ((chan { (default : Pch) with running := true, openLo := 2, freeAlign := false, framesSent := 1 }).p (DSF_STATUS 5) DSF_STATUS_ALIGNED 1).regs, tim := { (chan { (default : Pch) with running := true, openLo := 2, freeAlign := false, framesSent := 1 }).tim with ns := 124899 } } : State).on (DSF_STATUS ((5 : Fin 64))) DSF_STATUS_ALIGNED = true) ∧ (100 < (({ (chan { (default : Pch) with running := true, openLo := 2, freeAlign := false, framesSent := 1 }) with regs := ((chan { (default : Pch) with running := true, openLo := 2, freeAlign := false, framesSent := 1 }).p (DSF_STATUS 5) DSF_STATUS_ALIGNED 1).regs, tim := { (chan { (default : Pch) with running := true, openLo := 2, freeAlign := false, framesSent := 1 }).tim with ns := 124899 } } : State).alignErr ((5 : Fin 64)) ((({ (chan { (default : Pch) with running := true, openLo := 2, freeAlign := false, framesSent := 1 }) with regs := ((chan { (default : Pch) with running := true, openLo := 2, freeAlign := false, framesSent := 1 }).p (DSF_STATUS 5) DSF_STATUS_ALIGNED 1).regs, tim := { (chan { (default : Pch) with running := true, openLo := 2, freeAlign := false, framesSent := 1 }).tim with ns := 124899 } } : State).pch.look ((5 : Fin 64))).openLo - 1)).natAbs) ∧ ((({ (chan { (default : Pch) with running := true, openLo := 2, freeAlign := false, framesSent := 1 }) with regs := ((chan { (default : Pch) with running := true, openLo := 2, freeAlign := false, framesSent := 1 }).p (DSF_STATUS 5) DSF_STATUS_ALIGNED 1).regs, tim := { (chan { (default : Pch) with running := true, openLo := 2, freeAlign := false, framesSent := 1 }).tim with ns := 124899 } } : State).on TRB_CTL TRB_CTL_EN = false ∨ ({ (chan { (default : Pch) with running := true, openLo := 2, freeAlign := false, framesSent := 1 }) with regs := ((chan { (default : Pch) with running := true, openLo := 2, freeAlign := false, framesSent := 1 }).p (DSF_STATUS 5) DSF_STATUS_ALIGNED 1).regs, tim := { (chan { (default : Pch) with running := true, openLo := 2, freeAlign := false, framesSent := 1 }).tim with ns := 124899 } } : State).chState ((5 : Fin 64)) ≠ 2)) ∧ (((({ (chan { (default : Pch) with running := true, openLo := 2, freeAlign := false, framesSent := 1 }) with regs := ((chan { (default : Pch) with running := true, openLo := 2, freeAlign := false, framesSent := 1 }).p (DSF_STATUS 5) DSF_STATUS_ALIGNED 1).regs, tim := { (chan { (default : Pch) with running := true, openLo := 2, freeAlign := false, framesSent := 1 }).tim with ns := 124899 } } : State).pch.look ((5 : Fin 64))).waking && (({ (chan { (default : Pch) with running := true, openLo := 2, freeAlign := false, framesSent := 1 }) with regs := ((chan { (default : Pch) with running := true, openLo := 2, freeAlign := false, framesSent := 1 }).p (DSF_STATUS 5) DSF_STATUS_ALIGNED 1).regs, tim := { (chan { (default : Pch) with running := true, openLo := 2, freeAlign := false, framesSent := 1 }).tim with ns := 124899 } } : State).pch.look ((5 : Fin 64))).txLocked) = false) ∧ ((({ (chan { (default : Pch) with running := true, openLo := 2, freeAlign := false, framesSent := 1 }) with regs := ((chan { (default : Pch) with running := true, openLo := 2, freeAlign := false, framesSent := 1 }).p (DSF_STATUS 5) DSF_STATUS_ALIGNED 1).regs, tim := { (chan { (default : Pch) with running := true, openLo := 2, freeAlign := false, framesSent := 1 }).tim with ns := 124899 } } : State).pch.look ((5 : Fin 64))).carry = none) ∧ ((({ (chan { (default : Pch) with running := true, openLo := 2, freeAlign := false, framesSent := 1 }) with regs := ((chan { (default : Pch) with running := true, openLo := 2, freeAlign := false, framesSent := 1 }).p (DSF_STATUS 5) DSF_STATUS_ALIGNED 1).regs, tim := { (chan { (default : Pch) with running := true, openLo := 2, freeAlign := false, framesSent := 1 }).tim with ns := 124899 } } : State).rng.look ((5 : Fin 64))).utStart ≠ some ((({ (chan { (default : Pch) with running := true, openLo := 2, freeAlign := false, framesSent := 1 }) with regs := ((chan { (default : Pch) with running := true, openLo := 2, freeAlign := false, framesSent := 1 }).p (DSF_STATUS 5) DSF_STATUS_ALIGNED 1).regs, tim := { (chan { (default : Pch) with running := true, openLo := 2, freeAlign := false, framesSent := 1 }).tim with ns := 124899 } } : State).pch.look ((5 : Fin 64))).openLo - 1)) := by decide +kernel
theorem wit_APsyncLatchesTheFrame_psync_c5 : ((((chan { (default : Pch) with running := true, openLo := 2, freeAlign := false, framesSent := 1 }) : State).pch.look ((5 : Fin 64))).running = true) ∧ ((((chan { (default : Pch) with running := true, openLo := 2, freeAlign := false, framesSent := 1 }) : State).pch.look ((5 : Fin 64))).due8 ≤ 8 * ((chan { (default : Pch) with running := true, openLo := 2, freeAlign := false, framesSent := 1 }) : State).now + 8) ∧ ((((chan { (default : Pch) with running := true, openLo := 2, freeAlign := false, framesSent := 1 }) : State).pch.look ((5 : Fin 64))).openLo % 2 ^ 51 = (((chan { (default : Pch) with running := true, openLo := 2, freeAlign := false, framesSent := 1 }) : State).rd64 (DSF_SFC ((5 : Fin 64))) + 2) % 2 ^ 51) := by decide +kernel
theorem wit_ASealTakesTheOpenFrame_mapSeal_c0 : (((((chan { (default : Pch) with running := true, openLo := 1, buf0 := [⟨0, 0x000A0010, 0⟩], mode := 2 }).wr TMP_SAFE 0) : State).pch.look ((5 : Fin 64))).running = true) ∧ (((((chan { (default : Pch) with running := true, openLo := 1, buf0 := [⟨0, 0x000A0010, 0⟩], mode := 2 }).wr TMP_SAFE 0) : State).pch.look ((5 : Fin 64))).openLo % 2 ^ 51 = ((((chan { (default : Pch) with running := true, openLo := 1, buf0 := [⟨0, 0x000A0010, 0⟩], mode := 2 }).wr TMP_SAFE 0) : State).rd64 (DSF_SFC ((5 : Fin 64))) + 1) % 2 ^ 51) ∧ (((((chan { (default : Pch) with running := true, openLo := 1, buf0 := [⟨0, 0x000A0010, 0⟩], mode := 2 }).wr TMP_SAFE 0) : State).pch.look ((5 : Fin 64))).due8 ≤ 8 * ((((chan { (default : Pch) with running := true, openLo := 1, buf0 := [⟨0, 0x000A0010, 0⟩], mode := 2 }).wr TMP_SAFE 0) : State).now + ((((chan { (default : Pch) with running := true, openLo := 1, buf0 := [⟨0, 0x000A0010, 0⟩], mode := 2 }).wr TMP_SAFE 0) : State).pch.look ((5 : Fin 64))).leadNext + 3)) := by decide +kernel
theorem wit_ASealTakesTheOpenFrame_mapSeal_c1 : (((((chan { (default : Pch) with running := true, openLo := 1, buf0 := [⟨0, 0x000A0010, 0⟩], mode := 2 }).wr TMP_SAFE 0) : State).pch.look ((5 : Fin 64))).running = true) ∧ (((((chan { (default : Pch) with running := true, openLo := 1, buf0 := [⟨0, 0x000A0010, 0⟩], mode := 2 }).wr TMP_SAFE 0) : State).pch.look ((5 : Fin 64))).openLo % 2 ^ 51 = ((((chan { (default : Pch) with running := true, openLo := 1, buf0 := [⟨0, 0x000A0010, 0⟩], mode := 2 }).wr TMP_SAFE 0) : State).rd64 (DSF_SFC ((5 : Fin 64))) + 1) % 2 ^ 51) ∧ (((((chan { (default : Pch) with running := true, openLo := 1, buf0 := [⟨0, 0x000A0010, 0⟩], mode := 2 }).wr TMP_SAFE 0) : State).pch.look ((5 : Fin 64))).due8 ≤ 8 * ((((chan { (default : Pch) with running := true, openLo := 1, buf0 := [⟨0, 0x000A0010, 0⟩], mode := 2 }).wr TMP_SAFE 0) : State).now + ((((chan { (default : Pch) with running := true, openLo := 1, buf0 := [⟨0, 0x000A0010, 0⟩], mode := 2 }).wr TMP_SAFE 0) : State).pch.look ((5 : Fin 64))).leadNext + 3)) ∧ (((((chan { (default : Pch) with running := true, openLo := 1, buf0 := [⟨0, 0x000A0010, 0⟩], mode := 2 }).wr TMP_SAFE 0) : State).chState ((5 : Fin 64)) ≠ 2 ∨ ((((chan { (default : Pch) with running := true, openLo := 1, buf0 := [⟨0, 0x000A0010, 0⟩], mode := 2 }).wr TMP_SAFE 0) : State).pch.look ((5 : Fin 64))).rxStop = true)) ∧ ((∀ d : Fin 64, (((chan { (default : Pch) with running := true, openLo := 1, buf0 := [⟨0, 0x000A0010, 0⟩], mode := 2 }).wr TMP_SAFE 0) : State).sealDue d = true → d = ((5 : Fin 64)))) := by decide +kernel
theorem wit_ASealTakesTheOpenFrame_mapSeal_c2 : (((((chan { (default : Pch) with running := true, openLo := 1, buf0 := [⟨0, 0x000A0010, 0⟩], mode := 2 }).wr TMP_SAFE 0).p (PCH_STATUS 5) PCH_STATUS_STATE 2 |>.p (PCH_STATUS 5) PCH_STATUS_TX_ASLEEP 1 : State).pch.look ((5 : Fin 64))).running = true) ∧ (((((chan { (default : Pch) with running := true, openLo := 1, buf0 := [⟨0, 0x000A0010, 0⟩], mode := 2 }).wr TMP_SAFE 0).p (PCH_STATUS 5) PCH_STATUS_STATE 2 |>.p (PCH_STATUS 5) PCH_STATUS_TX_ASLEEP 1 : State).pch.look ((5 : Fin 64))).openLo % 2 ^ 51 = ((((chan { (default : Pch) with running := true, openLo := 1, buf0 := [⟨0, 0x000A0010, 0⟩], mode := 2 }).wr TMP_SAFE 0).p (PCH_STATUS 5) PCH_STATUS_STATE 2 |>.p (PCH_STATUS 5) PCH_STATUS_TX_ASLEEP 1 : State).rd64 (DSF_SFC ((5 : Fin 64))) + 1) % 2 ^ 51) ∧ (((((chan { (default : Pch) with running := true, openLo := 1, buf0 := [⟨0, 0x000A0010, 0⟩], mode := 2 }).wr TMP_SAFE 0).p (PCH_STATUS 5) PCH_STATUS_STATE 2 |>.p (PCH_STATUS 5) PCH_STATUS_TX_ASLEEP 1 : State).pch.look ((5 : Fin 64))).due8 ≤ 8 * ((((chan { (default : Pch) with running := true, openLo := 1, buf0 := [⟨0, 0x000A0010, 0⟩], mode := 2 }).wr TMP_SAFE 0).p (PCH_STATUS 5) PCH_STATUS_STATE 2 |>.p (PCH_STATUS 5) PCH_STATUS_TX_ASLEEP 1 : State).now + ((((chan { (default : Pch) with running := true, openLo := 1, buf0 := [⟨0, 0x000A0010, 0⟩], mode := 2 }).wr TMP_SAFE 0).p (PCH_STATUS 5) PCH_STATUS_STATE 2 |>.p (PCH_STATUS 5) PCH_STATUS_TX_ASLEEP 1 : State).pch.look ((5 : Fin 64))).leadNext + 3)) ∧ ((((chan { (default : Pch) with running := true, openLo := 1, buf0 := [⟨0, 0x000A0010, 0⟩], mode := 2 }).wr TMP_SAFE 0).p (PCH_STATUS 5) PCH_STATUS_STATE 2 |>.p (PCH_STATUS 5) PCH_STATUS_TX_ASLEEP 1 : State).chState ((5 : Fin 64)) = 2) ∧ (((((chan { (default : Pch) with running := true, openLo := 1, buf0 := [⟨0, 0x000A0010, 0⟩], mode := 2 }).wr TMP_SAFE 0).p (PCH_STATUS 5) PCH_STATUS_STATE 2 |>.p (PCH_STATUS 5) PCH_STATUS_TX_ASLEEP 1 : State).pch.look ((5 : Fin 64))).rxStop = false) ∧ ((((chan { (default : Pch) with running := true, openLo := 1, buf0 := [⟨0, 0x000A0010, 0⟩], mode := 2 }).wr TMP_SAFE 0).p (PCH_STATUS 5) PCH_STATUS_STATE 2 |>.p (PCH_STATUS 5) PCH_STATUS_TX_ASLEEP 1 : State).slv.hand = none) ∧ ((((chan { (default : Pch) with running := true, openLo := 1, buf0 := [⟨0, 0x000A0010, 0⟩], mode := 2 }).wr TMP_SAFE 0).p (PCH_STATUS 5) PCH_STATUS_STATE 2 |>.p (PCH_STATUS 5) PCH_STATUS_TX_ASLEEP 1 : State).txdis ((5 : Fin 64)) = true) ∧ ((∀ d : Fin 64, (((chan { (default : Pch) with running := true, openLo := 1, buf0 := [⟨0, 0x000A0010, 0⟩], mode := 2 }).wr TMP_SAFE 0).p (PCH_STATUS 5) PCH_STATUS_STATE 2 |>.p (PCH_STATUS 5) PCH_STATUS_TX_ASLEEP 1 : State).sealDue d = true → d = ((5 : Fin 64)))) := by decide +kernel
theorem wit_ASealTakesTheOpenFrame_mapSeal_c3 : (((((chan { (default : Pch) with running := true, openLo := 1, buf0 := [⟨0, 0x000A0010, 0⟩], mode := 2 }).wr TMP_SAFE 0).p (PCH_STATUS 5) PCH_STATUS_STATE 2 : State).pch.look ((5 : Fin 64))).running = true) ∧ (((((chan { (default : Pch) with running := true, openLo := 1, buf0 := [⟨0, 0x000A0010, 0⟩], mode := 2 }).wr TMP_SAFE 0).p (PCH_STATUS 5) PCH_STATUS_STATE 2 : State).pch.look ((5 : Fin 64))).openLo % 2 ^ 51 = ((((chan { (default : Pch) with running := true, openLo := 1, buf0 := [⟨0, 0x000A0010, 0⟩], mode := 2 }).wr TMP_SAFE 0).p (PCH_STATUS 5) PCH_STATUS_STATE 2 : State).rd64 (DSF_SFC ((5 : Fin 64))) + 1) % 2 ^ 51) ∧ (((((chan { (default : Pch) with running := true, openLo := 1, buf0 := [⟨0, 0x000A0010, 0⟩], mode := 2 }).wr TMP_SAFE 0).p (PCH_STATUS 5) PCH_STATUS_STATE 2 : State).pch.look ((5 : Fin 64))).due8 ≤ 8 * ((((chan { (default : Pch) with running := true, openLo := 1, buf0 := [⟨0, 0x000A0010, 0⟩], mode := 2 }).wr TMP_SAFE 0).p (PCH_STATUS 5) PCH_STATUS_STATE 2 : State).now + ((((chan { (default : Pch) with running := true, openLo := 1, buf0 := [⟨0, 0x000A0010, 0⟩], mode := 2 }).wr TMP_SAFE 0).p (PCH_STATUS 5) PCH_STATUS_STATE 2 : State).pch.look ((5 : Fin 64))).leadNext + 3)) ∧ ((((chan { (default : Pch) with running := true, openLo := 1, buf0 := [⟨0, 0x000A0010, 0⟩], mode := 2 }).wr TMP_SAFE 0).p (PCH_STATUS 5) PCH_STATUS_STATE 2 : State).txdis ((5 : Fin 64)) = false) ∧ (((((chan { (default : Pch) with running := true, openLo := 1, buf0 := [⟨0, 0x000A0010, 0⟩], mode := 2 }).wr TMP_SAFE 0).p (PCH_STATUS 5) PCH_STATUS_STATE 2 : State).rng.look ((5 : Fin 64))).again = []) := by decide +kernel
theorem wit_ASealTakesTheOpenFrame_mapSeal_c4 : (((((chan { (default : Pch) with running := true, openLo := 1, buf0 := [⟨0, 0x000A0010, 0⟩], mode := 2 }).wr TMP_SAFE 0).p (PCH_STATUS 5) PCH_STATUS_STATE 2 |>.p (SHD_LEDGER_CTL 5) SHD_LEDGER_CTL_LIMIT 9 : State).pch.look ((5 : Fin 64))).running = true) ∧ (((((chan { (default : Pch) with running := true, openLo := 1, buf0 := [⟨0, 0x000A0010, 0⟩], mode := 2 }).wr TMP_SAFE 0).p (PCH_STATUS 5) PCH_STATUS_STATE 2 |>.p (SHD_LEDGER_CTL 5) SHD_LEDGER_CTL_LIMIT 9 : State).pch.look ((5 : Fin 64))).openLo % 2 ^ 51 = ((((chan { (default : Pch) with running := true, openLo := 1, buf0 := [⟨0, 0x000A0010, 0⟩], mode := 2 }).wr TMP_SAFE 0).p (PCH_STATUS 5) PCH_STATUS_STATE 2 |>.p (SHD_LEDGER_CTL 5) SHD_LEDGER_CTL_LIMIT 9 : State).rd64 (DSF_SFC ((5 : Fin 64))) + 1) % 2 ^ 51) ∧ (((((chan { (default : Pch) with running := true, openLo := 1, buf0 := [⟨0, 0x000A0010, 0⟩], mode := 2 }).wr TMP_SAFE 0).p (PCH_STATUS 5) PCH_STATUS_STATE 2 |>.p (SHD_LEDGER_CTL 5) SHD_LEDGER_CTL_LIMIT 9 : State).pch.look ((5 : Fin 64))).due8 ≤ 8 * ((((chan { (default : Pch) with running := true, openLo := 1, buf0 := [⟨0, 0x000A0010, 0⟩], mode := 2 }).wr TMP_SAFE 0).p (PCH_STATUS 5) PCH_STATUS_STATE 2 |>.p (SHD_LEDGER_CTL 5) SHD_LEDGER_CTL_LIMIT 9 : State).now + ((((chan { (default : Pch) with running := true, openLo := 1, buf0 := [⟨0, 0x000A0010, 0⟩], mode := 2 }).wr TMP_SAFE 0).p (PCH_STATUS 5) PCH_STATUS_STATE 2 |>.p (SHD_LEDGER_CTL 5) SHD_LEDGER_CTL_LIMIT 9 : State).pch.look ((5 : Fin 64))).leadNext + 3)) ∧ ((((chan { (default : Pch) with running := true, openLo := 1, buf0 := [⟨0, 0x000A0010, 0⟩], mode := 2 }).wr TMP_SAFE 0).p (PCH_STATUS 5) PCH_STATUS_STATE 2 |>.p (SHD_LEDGER_CTL 5) SHD_LEDGER_CTL_LIMIT 9 : State).chState ((5 : Fin 64)) = 2) ∧ (((((chan { (default : Pch) with running := true, openLo := 1, buf0 := [⟨0, 0x000A0010, 0⟩], mode := 2 }).wr TMP_SAFE 0).p (PCH_STATUS 5) PCH_STATUS_STATE 2 |>.p (SHD_LEDGER_CTL 5) SHD_LEDGER_CTL_LIMIT 9 : State).pch.look ((5 : Fin 64))).rxStop = false) ∧ ((((chan { (default : Pch) with running := true, openLo := 1, buf0 := [⟨0, 0x000A0010, 0⟩], mode := 2 }).wr TMP_SAFE 0).p (PCH_STATUS 5) PCH_STATUS_STATE 2 |>.p (SHD_LEDGER_CTL 5) SHD_LEDGER_CTL_LIMIT 9 : State).slv.hand = none) ∧ ((((chan { (default : Pch) with running := true, openLo := 1, buf0 := [⟨0, 0x000A0010, 0⟩], mode := 2 }).wr TMP_SAFE 0).p (PCH_STATUS 5) PCH_STATUS_STATE 2 |>.p (SHD_LEDGER_CTL 5) SHD_LEDGER_CTL_LIMIT 9 : State).txdis ((5 : Fin 64)) = false) ∧ (((((chan { (default : Pch) with running := true, openLo := 1, buf0 := [⟨0, 0x000A0010, 0⟩], mode := 2 }).wr TMP_SAFE 0).p (PCH_STATUS 5) PCH_STATUS_STATE 2 |>.p (SHD_LEDGER_CTL 5) SHD_LEDGER_CTL_LIMIT 9 : State).pch.look ((5 : Fin 64))).buf0 = [((⟨0, 0x000A0010, 0⟩ : Grant))]) ∧ (((⟨0, 0x000A0010, 0⟩ : Grant)).start ≠ 0xFFFF) ∧ (1 ≤ (((chan { (default : Pch) with running := true, openLo := 1, buf0 := [⟨0, 0x000A0010, 0⟩], mode := 2 }).wr TMP_SAFE 0).p (PCH_STATUS 5) PCH_STATUS_STATE 2 |>.p (SHD_LEDGER_CTL 5) SHD_LEDGER_CTL_LIMIT 9 : State).ledgerAvail ((5 : Fin 64))) ∧ ((∀ d : Fin 64, (((chan { (default : Pch) with running := true, openLo := 1, buf0 := [⟨0, 0x000A0010, 0⟩], mode := 2 }).wr TMP_SAFE 0).p (PCH_STATUS 5) PCH_STATUS_STATE 2 |>.p (SHD_LEDGER_CTL 5) SHD_LEDGER_CTL_LIMIT 9 : State).sealDue d = true → d = ((5 : Fin 64)))) := by decide +kernel
theorem wit_GrantsPloamsAndDraws_grantWrite_c0 : ((((gchan [] []) : State).pch.look ((5 : Fin 64))).running = true) ∧ ((((gchan [] []) : State).pch.look ((5 : Fin 64))).shutTo ≤ (((gchan [] []) : State).pch.look ((5 : Fin 64))).openLo + 0) ∧ (bget (0x010003FF#32) 24 8 = ((((gchan [] []) : State).pch.look ((5 : Fin 64))).openLo + 0) % 256) ∧ ((((gchan [] []) : State).pch.look ((5 : Fin 64))).buf0.length < 512) ∧ (((gchan [] []) : State).grantBad ((5 : Fin 64)) (((gchan [] []) : State).pch.look ((5 : Fin 64))).buf0 ⟨(0x010003FF#32), (0x00000001#32), (0x00000200#32)⟩ = false) := by decide +kernel
theorem wit_GrantsPloamsAndDraws_grantWrite_c1 : ((((gchan [] []) : State).pch.look ((5 : Fin 64))).running = true) ∧ ((((gchan [] []) : State).pch.look ((5 : Fin 64))).shutTo ≤ (((gchan [] []) : State).pch.look ((5 : Fin 64))).openLo + 1) ∧ (bget (0x020003FF#32) 24 8 = ((((gchan [] []) : State).pch.look ((5 : Fin 64))).openLo + 1) % 256) ∧ ((((gchan [] []) : State).pch.look ((5 : Fin 64))).buf1.length < 512) ∧ (((gchan [] []) : State).grantBad ((5 : Fin 64)) (((gchan [] []) : State).pch.look ((5 : Fin 64))).buf1 ⟨(0x020003FF#32), (0x00000001#32), (0x00000200#32)⟩ = false) := by decide +kernel
theorem wit_GrantsPloamsAndDraws_grantWrite_c2 : ((((gchan (List.replicate 512 default) []) : State).pch.look ((5 : Fin 64))).running = true) ∧ ((((gchan (List.replicate 512 default) []) : State).pch.look ((5 : Fin 64))).shutTo ≤ (((gchan (List.replicate 512 default) []) : State).pch.look ((5 : Fin 64))).openLo) ∧ (bget (0x010003FF#32) 24 8 = (((gchan (List.replicate 512 default) []) : State).pch.look ((5 : Fin 64))).openLo % 256) ∧ (512 ≤ (((gchan (List.replicate 512 default) []) : State).pch.look ((5 : Fin 64))).buf0.length) := by decide +kernel
theorem wit_GrantsPloamsAndDraws_grantWrite_c3 : ((((gchan [] []) : State).pch.look ((5 : Fin 64))).running = true) ∧ ((((gchan [] []) : State).pch.look ((5 : Fin 64))).shutTo ≤ (((gchan [] []) : State).pch.look ((5 : Fin 64))).openLo) ∧ (bget (0x010003FE#32) 24 8 = (((gchan [] []) : State).pch.look ((5 : Fin 64))).openLo % 256) ∧ ((((gchan [] []) : State).pch.look ((5 : Fin 64))).buf0.length < 512) ∧ (((gchan [] []) : State).grantBad ((5 : Fin 64)) (((gchan [] []) : State).pch.look ((5 : Fin 64))).buf0 ⟨(0x010003FE#32), (0x00000001#32), (0x00000200#32)⟩ = true) := by decide +kernel
theorem wit_GrantsPloamsAndDraws_grantWrite_c4 : (((((gchan [] []) : State).pch.look ((5 : Fin 64))).running = false ∨ (bget (0x030003FE#32) 24 8 ≠ (((gchan [] []) : State).pch.look ((5 : Fin 64))).openLo % 256 ∧ bget (0x030003FE#32) 24 8 ≠ ((((gchan [] []) : State).pch.look ((5 : Fin 64))).openLo + 1) % 256) ∨ ((((gchan [] []) : State).pch.look ((5 : Fin 64))).openLo < (((gchan [] []) : State).pch.look ((5 : Fin 64))).shutTo ∧ bget (0x030003FE#32) 24 8 = (((gchan [] []) : State).pch.look ((5 : Fin 64))).openLo % 256))) := by decide +kernel
theorem wit_GrantsPloamsAndDraws_ploamWrite_c5 : (((chan { (default : Pch) with ploamQ := List.replicate 63 (.burstProfile 0 0 0) } : State).pch.look ((5 : Fin 64))).ploamQ.length < 64) := by decide +kernel
theorem wit_GrantsPloamsAndDraws_ploamWrite_c6 : (64 ≤ ((chan { (default : Pch) with ploamQ := List.replicate 64 (.burstProfile 0 0 0) } : State).pch.look ((5 : Fin 64))).ploamQ.length) := by decide +kernel
theorem wit_GrantsPloamsAndDraws_sealLeadWrite_c7 : ((awake [101] : State).reaches (Agent.hpa) (SHD_SEAL_CTL ((5 : Fin 64))) = true) ∧ (1200 ≤ ((awake [101] : State).wrRW (SHD_SEAL_CTL ((5 : Fin 64))) (word (1200 * 2 ^ SHD_SEAL_CTL_LEAD_NS.lo))).g (SHD_SEAL_CTL ((5 : Fin 64))) SHD_SEAL_CTL_LEAD_NS) ∧ (((awake [101] : State).wrRW (SHD_SEAL_CTL ((5 : Fin 64))) (word (1200 * 2 ^ SHD_SEAL_CTL_LEAD_NS.lo))).g (SHD_SEAL_CTL ((5 : Fin 64))) SHD_SEAL_CTL_LEAD_NS ≤ 62500) := by decide +kernel
theorem wit_GrantsPloamsAndDraws_sealLeadWrite_c7_w1 : ((awake [101] : State).reaches (Agent.hpa) (SHD_SEAL_CTL ((5 : Fin 64))) = true) ∧ (1200 ≤ ((awake [101] : State).wrRW (SHD_SEAL_CTL ((5 : Fin 64))) (word (62500 * 2 ^ SHD_SEAL_CTL_LEAD_NS.lo))).g (SHD_SEAL_CTL ((5 : Fin 64))) SHD_SEAL_CTL_LEAD_NS) ∧ (((awake [101] : State).wrRW (SHD_SEAL_CTL ((5 : Fin 64))) (word (62500 * 2 ^ SHD_SEAL_CTL_LEAD_NS.lo))).g (SHD_SEAL_CTL ((5 : Fin 64))) SHD_SEAL_CTL_LEAD_NS ≤ 62500) := by decide +kernel
theorem wit_GrantsPloamsAndDraws_sealLeadWrite_c8 : ((awake [101] : State).reaches (Agent.hpa) (SHD_SEAL_CTL ((5 : Fin 64))) = true) ∧ ((((awake [101] : State).wrRW (SHD_SEAL_CTL ((5 : Fin 64))) (word (1199 * 2 ^ SHD_SEAL_CTL_LEAD_NS.lo))).g (SHD_SEAL_CTL ((5 : Fin 64))) SHD_SEAL_CTL_LEAD_NS < 1200 ∨ 62500 < ((awake [101] : State).wrRW (SHD_SEAL_CTL ((5 : Fin 64))) (word (1199 * 2 ^ SHD_SEAL_CTL_LEAD_NS.lo))).g (SHD_SEAL_CTL ((5 : Fin 64))) SHD_SEAL_CTL_LEAD_NS)) := by decide +kernel
theorem wit_GrantsPloamsAndDraws_sealLeadWrite_c8_w1 : ((awake [101] : State).reaches (Agent.hpa) (SHD_SEAL_CTL ((5 : Fin 64))) = true) ∧ ((((awake [101] : State).wrRW (SHD_SEAL_CTL ((5 : Fin 64))) (word (62501 * 2 ^ SHD_SEAL_CTL_LEAD_NS.lo))).g (SHD_SEAL_CTL ((5 : Fin 64))) SHD_SEAL_CTL_LEAD_NS < 1200 ∨ 62500 < ((awake [101] : State).wrRW (SHD_SEAL_CTL ((5 : Fin 64))) (word (62501 * 2 ^ SHD_SEAL_CTL_LEAD_NS.lo))).g (SHD_SEAL_CTL ((5 : Fin 64))) SHD_SEAL_CTL_LEAD_NS)) := by decide +kernel
theorem wit_BurstWindowsOpenMatchAndDecode_windowOpen : ((((chan { (default : Pch) with mode := 2, wins := [{ bw0 with opened := false }] })) : State).win ((5 : Fin 64)) ((7 : Fin 4096)) = some ({ bw0 with opened := false })) ∧ (({ bw0 with opened := false }).opened = false) := by decide +kernel
theorem wit_BurstWindowsOpenMatchAndDecode_windowOpen_w1 : ((((chan { (default : Pch) with mode := 2, wins := [{ bw0 with opened := false }], lastEnd := 99998 })) : State).win ((5 : Fin 64)) ((7 : Fin 4096)) = some ({ bw0 with opened := false })) ∧ (({ bw0 with opened := false }).opened = false) := by decide +kernel
theorem wit_BurstWindowsOpenMatchAndDecode_delimiterQualified_c1 : ((((chan { (default : Pch) with mode := 2, wins := [{ bw0 with opened := true }] })) : State).win ((5 : Fin 64)) ((7 : Fin 4096)) = some ({ bw0 with opened := true })) ∧ (({ bw0 with opened := true }).opened = true) ∧ (({ bw0 with opened := true }).lost = false) ∧ (({ bw0 with opened := true }).qualifies ((⟨-64, 2, some (-100)⟩ : MatchObs)) = true) ∧ (({ bw0 with opened := true }).hit = none) := by decide +kernel
theorem wit_BurstWindowsOpenMatchAndDecode_delimiterQualified_c2 : ((((chan { (default : Pch) with mode := 2, wins := [{ bw0 with opened := true }] })) : State).win ((5 : Fin 64)) ((7 : Fin 4096)) = some ({ bw0 with opened := true })) ∧ ((({ bw0 with opened := true }).opened = false ∨ ({ bw0 with opened := true }).lost = true ∨ ({ bw0 with opened := true }).qualifies ((⟨65, 2, some (-100)⟩ : MatchObs)) = false)) := by decide +kernel
theorem wit_BurstWindowsOpenMatchAndDecode_delimiterQualified_c2_w1 : ((((chan { (default : Pch) with mode := 2, wins := [{ bw0 with lost := true }] })) : State).win ((5 : Fin 64)) ((7 : Fin 4096)) = some ({ bw0 with lost := true })) ∧ ((({ bw0 with lost := true }).opened = false ∨ ({ bw0 with lost := true }).lost = true ∨ ({ bw0 with lost := true }).qualifies ((⟨64, 2, some (-100)⟩ : MatchObs)) = false)) := by decide +kernel
theorem wit_BurstWindowsOpenMatchAndDecode_delimiterQualified_c3 : ((((chan { (default : Pch) with mode := 2, wins := [{ bw0 with disc := true, hi := 9000, hit := some ⟨5, 2, some (-9)⟩ }] })) : State).win ((5 : Fin 64)) ((7 : Fin 4096)) = some ({ bw0 with disc := true, hi := 9000, hit := some ⟨5, 2, some (-9)⟩ })) ∧ (({ bw0 with disc := true, hi := 9000, hit := some ⟨5, 2, some (-9)⟩ }).opened = true) ∧ (({ bw0 with disc := true, hi := 9000, hit := some ⟨5, 2, some (-9)⟩ }).lost = false) ∧ (({ bw0 with disc := true, hi := 9000, hit := some ⟨5, 2, some (-9)⟩ }).qualifies ((⟨2133, 2, some (-100)⟩ : MatchObs)) = true) ∧ (({ bw0 with disc := true, hi := 9000, hit := some ⟨5, 2, some (-9)⟩ }).hit = some ((⟨5, 2, some (-9)⟩ : MatchObs))) ∧ (({ bw0 with disc := true, hi := 9000, hit := some ⟨5, 2, some (-9)⟩ }).disc = true) ∧ (({ bw0 with disc := true, hi := 9000, hit := some ⟨5, 2, some (-9)⟩ }).extra = []) ∧ (((⟨5, 2, some (-9)⟩ : MatchObs)).pos + ({ bw0 with disc := true, hi := 9000, hit := some ⟨5, 2, some (-9)⟩ }).len + 128 ≤ ((⟨2133, 2, some (-100)⟩ : MatchObs)).pos) := by decide +kernel
theorem wit_BurstWindowsOpenMatchAndDecode_delimiterQualified_c4 : ((((chan { (default : Pch) with mode := 2, wins := [{ bw0 with hit := some ⟨5, 2, some (-9)⟩ }] })) : State).win ((5 : Fin 64)) ((7 : Fin 4096)) = some ({ bw0 with hit := some ⟨5, 2, some (-9)⟩ })) ∧ (({ bw0 with hit := some ⟨5, 2, some (-9)⟩ }).opened = true) ∧ (({ bw0 with hit := some ⟨5, 2, some (-9)⟩ }).lost = false) ∧ (({ bw0 with hit := some ⟨5, 2, some (-9)⟩ }).qualifies ((⟨4, 2, some (-100)⟩ : MatchObs)) = true) ∧ (({ bw0 with hit := some ⟨5, 2, some (-9)⟩ }).hit = some ((⟨5, 2, some (-9)⟩ : MatchObs))) ∧ (({ bw0 with hit := some ⟨5, 2, some (-9)⟩ }).disc = false) ∧ (({ bw0 with hit := some ⟨5, 2, some (-9)⟩ }).ambig = false) := by decide +kernel
theorem wit_BurstWindowsOpenMatchAndDecode_burstCodewordDecoded_c5 : ((((chan { (default : Pch) with mode := 2, wins := [{ bw0 with hit := some ⟨0, 0, some (-9)⟩, fec := true }] })) : State).win ((5 : Fin 64)) ((7 : Fin 4096)) = some ({ bw0 with hit := some ⟨0, 0, some (-9)⟩, fec := true })) ∧ (({ bw0 with hit := some ⟨0, 0, some (-9)⟩, fec := true }).hit.isSome = true) ∧ (((⟨0, false, 0, none, []⟩ : CwObs)).answer = 0) ∧ (((⟨0, false, 0, none, []⟩ : CwObs)).hdr = none) ∧ (((⟨0, false, 0, none, []⟩ : CwObs)).items = []) := by decide +kernel
theorem wit_BurstWindowsOpenMatchAndDecode_burstCodewordDecoded_c5_w1 : ((((chan { (default : Pch) with mode := 2, wins := [{ bw0 with hit := some ⟨0, 0, some (-9)⟩, fec := false }] })) : State).win ((5 : Fin 64)) ((7 : Fin 4096)) = some ({ bw0 with hit := some ⟨0, 0, some (-9)⟩, fec := false })) ∧ (({ bw0 with hit := some ⟨0, 0, some (-9)⟩, fec := false }).hit.isSome = true) ∧ (((⟨0, false, 0, none, []⟩ : CwObs)).answer = 0) ∧ (((⟨0, false, 0, none, []⟩ : CwObs)).hdr = none) ∧ (((⟨0, false, 0, none, []⟩ : CwObs)).items = []) := by decide +kernel
theorem wit_BurstWindowsOpenMatchAndDecode_burstCodewordDecoded_c6 : ((((chan { (default : Pch) with mode := 2, wins := [{ bw0 with hit := some ⟨0, 0, some (-9)⟩ }] })) : State).win ((5 : Fin 64)) ((7 : Fin 4096)) = some ({ bw0 with hit := some ⟨0, 0, some (-9)⟩ })) ∧ (({ bw0 with hit := some ⟨0, 0, some (-9)⟩ }).hit.isSome = true) ∧ (((⟨0, true, 0, some (false, 3, true), [.ploam]⟩ : CwObs)).answer = 0) ∧ (({ bw0 with hit := some ⟨0, 0, some (-9)⟩ }).firstSeen = false) ∧ ((((⟨0, true, 0, some (false, 3, true), [.ploam]⟩ : CwObs)).correctable || !({ bw0 with hit := some ⟨0, 0, some (-9)⟩ }).fec) = true) ∧ (((⟨0, true, 0, some (false, 3, true), [.ploam]⟩ : CwObs)).hdr = some (false, (3), (true))) := by decide +kernel
theorem wit_BurstWindowsOpenMatchAndDecode_burstCodewordDecoded_c7 : ((((chan { (default : Pch) with mode := 2, wins := [{ bw0 with opened := true }] })) : State).win ((5 : Fin 64)) ((7 : Fin 4096)) = some ({ bw0 with opened := true })) ∧ ((({ bw0 with opened := true }).hit = none ∨ ({ bw0 with opened := true }).extra.length < ((⟨0, true, 0, none, [.ploam]⟩ : CwObs)).answer)) := by decide +kernel
theorem wit_BurstWindowsOpenMatchAndDecode_burstCodewordDecoded_c8 : ((((chan { (default : Pch) with mode := 2, wins := [{ bw0 with hit := some ⟨0, 0, some (-9)⟩, grants := [(7, ⟨0x00100003, 0x00010004, 3⟩)] }] })) : State).win ((5 : Fin 64)) ((7 : Fin 4096)) = some ({ bw0 with hit := some ⟨0, 0, some (-9)⟩, grants := [(7, ⟨0x00100003, 0x00010004, 3⟩)] })) ∧ (({ bw0 with hit := some ⟨0, 0, some (-9)⟩, grants := [(7, ⟨0x00100003, 0x00010004, 3⟩)] }).hit.isSome = true) ∧ (((⟨0, true, 0, some (true, 3, true), [.dbru 7 true 100]⟩ : CwObs)).answer = 0) ∧ (({ bw0 with hit := some ⟨0, 0, some (-9)⟩, grants := [(7, ⟨0x00100003, 0x00010004, 3⟩)] }).firstSeen = false) ∧ ((((⟨0, true, 0, some (true, 3, true), [.dbru 7 true 100]⟩ : CwObs)).correctable || !({ bw0 with hit := some ⟨0, 0, some (-9)⟩, grants := [(7, ⟨0x00100003, 0x00010004, 3⟩)] }).fec) = true) ∧ (((⟨0, true, 0, some (true, 3, true), [.dbru 7 true 100]⟩ : CwObs)).hdr = some (true, ({ bw0 with hit := some ⟨0, 0, some (-9)⟩, grants := [(7, ⟨0x00100003, 0x00010004, 3⟩)] }).slot, (true))) ∧ (((⟨0, true, 0, some (true, 3, true), [.dbru 7 true 100]⟩ : CwObs)).items = [.dbru (7) true ((100 : BitVec 24))]) ∧ (({ bw0 with hit := some ⟨0, 0, some (-9)⟩, grants := [(7, ⟨0x00100003, 0x00010004, 3⟩)] }).grants.find? (fun y => decide (y.1 = (7))) = some ((7), ((⟨0x00100003, 0x00010004, 3⟩ : Grant)))) ∧ (((⟨0x00100003, 0x00010004, 3⟩ : Grant)).dbru = true) ∧ (((((chan { (default : Pch) with mode := 2, wins := [{ bw0 with hit := some ⟨0, 0, some (-9)⟩, grants := [(7, ⟨0x00100003, 0x00010004, 3⟩)] }] })) : State).shd.look ((5 : Fin 64))).inq.length < 2048) := by decide +kernel
theorem wit_AWindowEndsWithItsOutcome_windowEnd_c0 : ((((chan { (default : Pch) with mode := 2, wins := [{ bw0 with opened := true }] })) : State).win ((5 : Fin 64)) ((7 : Fin 4096)) = some ({ bw0 with opened := true })) ∧ (({ bw0 with opened := true }).opened = true) ∧ ((({ bw0 with opened := true }).hit.isSome && !({ bw0 with opened := true }).firstSeen) = false) ∧ (({ bw0 with opened := true }).extra.any (fun a => !a.firstSeen) = false) := by decide +kernel
theorem wit_AWindowEndsWithItsOutcome_windowEnd_c0_w1 : ((((chan { (default : Pch) with mode := 2, wins := [{ bw0 with disc := true, slot := 256, entry := 260, hit := some ⟨0, 0, some (-9)⟩, firstSeen := true, extra := [{ (default : Ans) with firstSeen := true }] }] })) : State).win ((5 : Fin 64)) ((7 : Fin 4096)) = some ({ bw0 with disc := true, slot := 256, entry := 260, hit := some ⟨0, 0, some (-9)⟩, firstSeen := true, extra := [{ (default : Ans) with firstSeen := true }] })) ∧ (({ bw0 with disc := true, slot := 256, entry := 260, hit := some ⟨0, 0, some (-9)⟩, firstSeen := true, extra := [{ (default : Ans) with firstSeen := true }] }).opened = true) ∧ ((({ bw0 with disc := true, slot := 256, entry := 260, hit := some ⟨0, 0, some (-9)⟩, firstSeen := true, extra := [{ (default : Ans) with firstSeen := true }] }).hit.isSome && !({ bw0 with disc := true, slot := 256, entry := 260, hit := some ⟨0, 0, some (-9)⟩, firstSeen := true, extra := [{ (default : Ans) with firstSeen := true }] }).firstSeen) = false) ∧ (({ bw0 with disc := true, slot := 256, entry := 260, hit := some ⟨0, 0, some (-9)⟩, firstSeen := true, extra := [{ (default : Ans) with firstSeen := true }] }).extra.any (fun a => !a.firstSeen) = false) := by decide +kernel
theorem wit_AWindowEndsWithItsOutcome_windowEnd_c1 : ((((chan { (default : Pch) with mode := 2, wins := [{ bw0 with hit := some ⟨0, 0, some (-9)⟩ }] })) : State).win ((5 : Fin 64)) ((7 : Fin 4096)) = some ({ bw0 with hit := some ⟨0, 0, some (-9)⟩ })) ∧ ((({ bw0 with hit := some ⟨0, 0, some (-9)⟩ }).opened = false ∨ (({ bw0 with hit := some ⟨0, 0, some (-9)⟩ }).hit.isSome = true ∧ ({ bw0 with hit := some ⟨0, 0, some (-9)⟩ }).firstSeen = false) ∨ ({ bw0 with hit := some ⟨0, 0, some (-9)⟩ }).extra.any (fun a => !a.firstSeen) = true)) := by decide +kernel
theorem wit_AWindowEndsWithItsOutcome_windowEnd_c2 : ((((chan { (default : Pch) with mode := 2, wins := [{ bw0 with opened := true }] })) : State).win ((5 : Fin 64)) ((7 : Fin 4096)) = some ({ bw0 with opened := true })) ∧ (({ bw0 with opened := true }).opened = true) ∧ (({ bw0 with opened := true }).grants = [(((7 : Fin 4096)).val, ((⟨0x00000003, 0x00010004, 3⟩ : Grant)))]) ∧ (({ bw0 with opened := true }).disc = false) ∧ (({ bw0 with opened := true }).slot < 256) ∧ (({ bw0 with opened := true }).extra = []) ∧ (((((chan { (default : Pch) with mode := 2, wins := [{ bw0 with opened := true }] })) : State).pch.look ((5 : Fin 64))).frags.look ((⟨0x00000003, 0x00010004, 3⟩ : Grant)).allocId = none) ∧ (((((chan { (default : Pch) with mode := 2, wins := [{ bw0 with opened := true }] })) : State).pch.look ((5 : Fin 64))).bkq.length ≤ 800) ∧ (({ bw0 with opened := true }).hit = none) ∧ (((((chan { (default : Pch) with mode := 2, wins := [{ bw0 with opened := true }] })) : State).shd.look ((5 : Fin 64))).inq.length < 2048) := by decide +kernel
theorem wit_AWindowEndsWithItsOutcome_windowEnd_c3 : ((((chan { (default : Pch) with mode := 2, wins := [{ bw0 with hit := some ⟨0, 0, some (-9)⟩, firstSeen := true }] }).p (PCH_BRX_CTL 5) PCH_BRX_CTL_EQ_MEM_EN 0) : State).win ((5 : Fin 64)) ((7 : Fin 4096)) = some ({ bw0 with hit := some ⟨0, 0, some (-9)⟩, firstSeen := true })) ∧ (({ bw0 with hit := some ⟨0, 0, some (-9)⟩, firstSeen := true }).opened = true) ∧ (({ bw0 with hit := some ⟨0, 0, some (-9)⟩, firstSeen := true }).grants = [(((7 : Fin 4096)).val, ((⟨0x00000003, 0x00010004, 3⟩ : Grant)))]) ∧ (({ bw0 with hit := some ⟨0, 0, some (-9)⟩, firstSeen := true }).disc = false) ∧ (({ bw0 with hit := some ⟨0, 0, some (-9)⟩, firstSeen := true }).slot < 256) ∧ (({ bw0 with hit := some ⟨0, 0, some (-9)⟩, firstSeen := true }).extra = []) ∧ (((((chan { (default : Pch) with mode := 2, wins := [{ bw0 with hit := some ⟨0, 0, some (-9)⟩, firstSeen := true }] }).p (PCH_BRX_CTL 5) PCH_BRX_CTL_EQ_MEM_EN 0) : State).pch.look ((5 : Fin 64))).frags.look ((⟨0x00000003, 0x00010004, 3⟩ : Grant)).allocId = none) ∧ (((((chan { (default : Pch) with mode := 2, wins := [{ bw0 with hit := some ⟨0, 0, some (-9)⟩, firstSeen := true }] }).p (PCH_BRX_CTL 5) PCH_BRX_CTL_EQ_MEM_EN 0) : State).pch.look ((5 : Fin 64))).bkq.length ≤ 800) ∧ (({ bw0 with hit := some ⟨0, 0, some (-9)⟩, firstSeen := true }).hit.isSome = true) ∧ (({ bw0 with hit := some ⟨0, 0, some (-9)⟩, firstSeen := true }).firstSeen = true) ∧ (({ bw0 with hit := some ⟨0, 0, some (-9)⟩, firstSeen := true }).released = false) ∧ ((({ bw0 with hit := some ⟨0, 0, some (-9)⟩, firstSeen := true }).entry = 260 ∨ (((chan { (default : Pch) with mode := 2, wins := [{ bw0 with hit := some ⟨0, 0, some (-9)⟩, firstSeen := true }] }).p (PCH_BRX_CTL 5) PCH_BRX_CTL_EQ_MEM_EN 0) : State).on (PCH_BRX_CTL ((5 : Fin 64))) PCH_BRX_CTL_EQ_MEM_EN = false)) := by decide +kernel
theorem wit_AWindowEndsWithItsOutcome_windowEnd_c4 : ((((chan { (default : Pch) with mode := 2, wins := [{ bw0 with hit := some ⟨0, 0, some (-9)⟩, firstSeen := true, firstOk := true }] }).p (PCH_BRX_CTL 5) PCH_BRX_CTL_EQ_MEM_EN 1) : State).win ((5 : Fin 64)) ((7 : Fin 4096)) = some ({ bw0 with hit := some ⟨0, 0, some (-9)⟩, firstSeen := true, firstOk := true })) ∧ (({ bw0 with hit := some ⟨0, 0, some (-9)⟩, firstSeen := true, firstOk := true }).opened = true) ∧ (({ bw0 with hit := some ⟨0, 0, some (-9)⟩, firstSeen := true, firstOk := true }).grants = [(((7 : Fin 4096)).val, ((⟨0x00000003, 0x00010004, 3⟩ : Grant)))]) ∧ (({ bw0 with hit := some ⟨0, 0, some (-9)⟩, firstSeen := true, firstOk := true }).disc = false) ∧ (({ bw0 with hit := some ⟨0, 0, some (-9)⟩, firstSeen := true, firstOk := true }).slot < 256) ∧ (({ bw0 with hit := some ⟨0, 0, some (-9)⟩, firstSeen := true, firstOk := true }).extra = []) ∧ (((((chan { (default : Pch) with mode := 2, wins := [{ bw0 with hit := some ⟨0, 0, some (-9)⟩, firstSeen := true, firstOk := true }] }).p (PCH_BRX_CTL 5) PCH_BRX_CTL_EQ_MEM_EN 1) : State).pch.look ((5 : Fin 64))).frags.look ((⟨0x00000003, 0x00010004, 3⟩ : Grant)).allocId = none) ∧ (((((chan { (default : Pch) with mode := 2, wins := [{ bw0 with hit := some ⟨0, 0, some (-9)⟩, firstSeen := true, firstOk := true }] }).p (PCH_BRX_CTL 5) PCH_BRX_CTL_EQ_MEM_EN 1) : State).pch.look ((5 : Fin 64))).bkq.length ≤ 800) ∧ (({ bw0 with hit := some ⟨0, 0, some (-9)⟩, firstSeen := true, firstOk := true }).hit.isSome = true) ∧ (({ bw0 with hit := some ⟨0, 0, some (-9)⟩, firstSeen := true, firstOk := true }).released = true) ∧ (({ bw0 with hit := some ⟨0, 0, some (-9)⟩, firstSeen := true, firstOk := true }).dg = false) ∧ (({ bw0 with hit := some ⟨0, 0, some (-9)⟩, firstSeen := true, firstOk := true }).gIdle.look ((7 : Fin 4096)) = 0) ∧ ((((chan { (default : Pch) with mode := 2, wins := [{ bw0 with hit := some ⟨0, 0, some (-9)⟩, firstSeen := true, firstOk := true }] }).p (PCH_BRX_CTL 5) PCH_BRX_CTL_EQ_MEM_EN 1) : State).on (PCH_ONU_DEF ((5 : Fin 64)) ({ bw0 with hit := some ⟨0, 0, some (-9)⟩, firstSeen := true, firstOk := true }).slot) PCH_ONU_DEF_LOB_LIVE = false) ∧ ((((chan { (default : Pch) with mode := 2, wins := [{ bw0 with hit := some ⟨0, 0, some (-9)⟩, firstSeen := true, firstOk := true }] }).p (PCH_BRX_CTL 5) PCH_BRX_CTL_EQ_MEM_EN 1) : State).on (PCH_ONU_DEF ((5 : Fin 64)) ({ bw0 with hit := some ⟨0, 0, some (-9)⟩, firstSeen := true, firstOk := true }).slot) PCH_ONU_DEF_LODS_LIVE = false) ∧ (({ bw0 with hit := some ⟨0, 0, some (-9)⟩, firstSeen := true, firstOk := true }).entry = ({ bw0 with hit := some ⟨0, 0, some (-9)⟩, firstSeen := true, firstOk := true }).slot) ∧ (({ bw0 with hit := some ⟨0, 0, some (-9)⟩, firstSeen := true, firstOk := true }).noWriteBack = false) ∧ ((((chan { (default : Pch) with mode := 2, wins := [{ bw0 with hit := some ⟨0, 0, some (-9)⟩, firstSeen := true, firstOk := true }] }).p (PCH_BRX_CTL 5) PCH_BRX_CTL_EQ_MEM_EN 1) : State).on (PCH_BRX_CTL ((5 : Fin 64))) PCH_BRX_CTL_EQ_MEM_EN = true) ∧ ((({ energy := 99, lock := 80, phase64 := 3, phase := 5, dfe := 2, gain := 1, taps := List.replicate 15 1, power := 0, delimNs := 0, tail := (0, 0) } : BurstMeas)).lock ≤ 80) ∧ (({ bw0 with hit := some ⟨0, 0, some (-9)⟩, firstSeen := true, firstOk := true }).validPre = false) := by decide +kernel
theorem wit_EqualiserWritesAndEnergy_eqEntryWrite_c0 : ((((chan { (default : Pch) with mode := 2, wins := [{ bw0 with opened := true }] })) : State).reaches (Agent.hpa) (PCH_EQ ((5 : Fin 64)) ((3 : Fin 261)) + 4 * ((7 : Fin 8)).val) = true) ∧ ((((7 : Fin 8)) ≠ 0 ∨ ((0xFFFFFFFF#32).getLsbD 30 = false ∧ ((((chan { (default : Pch) with mode := 2, wins := [{ bw0 with opened := true }] })) : State).pch.look ((5 : Fin 64))).protHeld = false))) := by decide +kernel
theorem wit_EqualiserWritesAndEnergy_eqEntryWrite_c0_w1 : ((((chan { (default : Pch) with mode := 2, wins := [{ bw0 with opened := true }] })) : State).reaches (Agent.hpa) (PCH_EQ ((5 : Fin 64)) ((260 : Fin 261)) + 4 * ((0 : Fin 8)).val) = true) ∧ ((((0 : Fin 8)) ≠ 0 ∨ ((0xBFFFFFFF#32).getLsbD 30 = false ∧ ((((chan { (default : Pch) with mode := 2, wins := [{ bw0 with opened := true }] })) : State).pch.look ((5 : Fin 64))).protHeld = false))) := by decide +kernel
theorem wit_EqualiserWritesAndEnergy_eqEntryWrite_c1 : ((((chan { (default : Pch) with mode := 2, wins := [{ bw0 with opened := true }] })) : State).reaches (Agent.hpa) (PCH_EQ ((5 : Fin 64)) ((3 : Fin 261)) + 4 * ((0 : Fin 8)).val) = true) ∧ (((0 : Fin 8)) = 0) ∧ ((0xFFFFFFFF#32).getLsbD 30 = true) ∧ (((3 : Fin 261)).val < 256) ∧ (((((chan { (default : Pch) with mode := 2, wins := [{ bw0 with opened := true }] })) : State).pch.look ((5 : Fin 64))).protHeld = false) := by decide +kernel
theorem wit_EqualiserWritesAndEnergy_eqEntryWrite_c2 : ((((chan { (default : Pch) with mode := 2, wins := [{ bw0 with opened := true }] })) : State).reaches (Agent.hpa) (PCH_EQ ((5 : Fin 64)) ((256 : Fin 261)) + 4 * ((0 : Fin 8)).val) = true) ∧ (((0 : Fin 8)) = 0) ∧ ((0xFFFFFFFF#32).getLsbD 30 = true) ∧ (256 ≤ ((256 : Fin 261)).val) := by decide +kernel
theorem wit_EqualiserWritesAndEnergy_eqEntryWrite_c3 : ((chan { (default : Pch) with protHeld := true } : State).reaches (Agent.hpa) (PCH_EQ ((5 : Fin 64)) ((3 : Fin 261)) + 4 * ((0 : Fin 8)).val) = true) ∧ (((0 : Fin 8)) = 0) ∧ (((chan { (default : Pch) with protHeld := true } : State).pch.look ((5 : Fin 64))).protHeld = true) := by decide +kernel
theorem wit_EqualiserWritesAndEnergy_tailEnergy_c4 : ((({ (awake []).wr (PCH_LOS_CTL 5) 0 with slots := [(5 * 256 + 255, { (default : Slot) with lastRecv := true, tail := 1 })] } : State).slot ((5 : Fin 64)) ((255 : Fin 256))).lastRecv = true) ∧ ((({ (awake []).wr (PCH_LOS_CTL 5) 0 with slots := [(5 * 256 + 255, { (default : Slot) with lastRecv := true, tail := 1 })] } : State).slot ((5 : Fin 64)) ((255 : Fin 256))).tail < (2)) ∧ (({ (awake []).wr (PCH_LOS_CTL 5) 0 with slots := [(5 * 256 + 255, { (default : Slot) with lastRecv := true, tail := 1 })] } : State).energyThresh ((5 : Fin 64)) < (1)) := by decide +kernel
theorem wit_EqualiserWritesAndEnergy_tailEnergy_c5 : (((({ (awake []).wr (PCH_LOS_CTL 5) 0 with slots := [(5 * 256 + 255, { (default : Slot) with lastRecv := true, tail := 1 })] } : State).slot ((5 : Fin 64)) ((255 : Fin 256))).lastRecv = false ∨ (1) ≤ (({ (awake []).wr (PCH_LOS_CTL 5) 0 with slots := [(5 * 256 + 255, { (default : Slot) with lastRecv := true, tail := 1 })] } : State).slot ((5 : Fin 64)) ((255 : Fin 256))).tail ∨ (1) ≤ ({ (awake []).wr (PCH_LOS_CTL 5) 0 with slots := [(5 * 256 + 255, { (default : Slot) with lastRecv := true, tail := 1 })] } : State).energyThresh ((5 : Fin 64)))) := by decide +kernel
theorem wit_EqualiserWritesAndEnergy_oowEnergy_c6 : (((awake [37]).wr (PCH_LOS_CTL 5) 0 : State).energyThresh ((5 : Fin 64)) < (1)) ∧ ((((awake [37]).wr (PCH_LOS_CTL 5) 0 : State).pch.look ((5 : Fin 64))).protHeld = false) := by decide +kernel
theorem wit_EqualiserWritesAndEnergy_oowEnergy_c7 : (((chan { (default : Pch) with protHeld := true }).wr (PCH_LOS_CTL 5) 0 : State).energyThresh ((5 : Fin 64)) < (1)) ∧ ((((chan { (default : Pch) with protHeld := true }).wr (PCH_LOS_CTL 5) 0 : State).pch.look ((5 : Fin 64))).protHeld = true) := by decide +kernel
theorem wit_EqualiserWritesAndEnergy_oowEnergy_c8 : ((0) ≤ ((awake [37]).wr (PCH_LOS_CTL 5) 0 : State).energyThresh ((5 : Fin 64))) := by decide +kernel
theorem wit_OnuDefectsRaiseAndClear_onuLobRaise : (({ (awake [37, 14]) with regs := ((awake [37, 14]).wr (PCH_BRX_DEF_CTL 5) 0).regs, slots := [(5 * 256 + 255, { (default : Slot) with absRun := 1 })] } : State).defLim ((5 : Fin 64)) ((255 : Fin 256)) PCH_BRX_DEF_CTL_LOB_SET ≤ (({ (awake [37, 14]) with regs := ((awake [37, 14]).wr (PCH_BRX_DEF_CTL 5) 0).regs, slots := [(5 * 256 + 255, { (default : Slot) with absRun := 1 })] } : State).slot ((5 : Fin 64)) ((255 : Fin 256))).absRun) ∧ (((({ (awake [37, 14]) with regs := ((awake [37, 14]).wr (PCH_BRX_DEF_CTL 5) 0).regs, slots := [(5 * 256 + 255, { (default : Slot) with absRun := 1 })] } : State).pch.look ((5 : Fin 64))).blankDef || (({ (awake [37, 14]) with regs := ((awake [37, 14]).wr (PCH_BRX_DEF_CTL 5) 0).regs, slots := [(5 * 256 + 255, { (default : Slot) with absRun := 1 })] } : State).pch.look ((5 : Fin 64))).blankMute) = false) ∧ (({ (awake [37, 14]) with regs := ((awake [37, 14]).wr (PCH_BRX_DEF_CTL 5) 0).regs, slots := [(5 * 256 + 255, { (default : Slot) with absRun := 1 })] } : State).on (PCH_ONU_DEF ((5 : Fin 64)) ((255 : Fin 256))) PCH_ONU_DEF_LOB_LIVE = false) ∧ (bit (({ (awake [37, 14]) with regs := ((awake [37, 14]).wr (PCH_BRX_DEF_CTL 5) 0).regs, slots := [(5 * 256 + 255, { (default : Slot) with absRun := 1 })] } : State).slot ((5 : Fin 64)) ((255 : Fin 256))).pendRaise PCH_ONU_DEF_LOB.lo = false) ∧ ((({ (awake [37, 14]) with regs := ((awake [37, 14]).wr (PCH_BRX_DEF_CTL 5) 0).regs, slots := [(5 * 256 + 255, { (default : Slot) with absRun := 1 })] } : State).slot ((5 : Fin 64)) ((255 : Fin 256))).takenOver = false) := by decide +kernel
theorem wit_OnuDefectsRaiseAndClear_onuLodsRaise_c1 : (({ (awake [37, 14]) with now := 1000000, regs := (((awake [37, 14]).wr (PCH_BRX_DEF_CTL 5) 0).p (PCH_ONU_DEF 5 255) PCH_ONU_DEF_LOB_LIVE 1 |>.p (RNG_ONU 5 255) RNG_ONU_STATE 3).regs, slots := [(5 * 256 + 255, { (default : Slot) with absRun := 1 })] } : State).lodsDue ((5 : Fin 64)) ((255 : Fin 256)) = true) ∧ (({ (awake [37, 14]) with now := 1000000, regs := (((awake [37, 14]).wr (PCH_BRX_DEF_CTL 5) 0).p (PCH_ONU_DEF 5 255) PCH_ONU_DEF_LOB_LIVE 1 |>.p (RNG_ONU 5 255) RNG_ONU_STATE 3).regs, slots := [(5 * 256 + 255, { (default : Slot) with absRun := 1 })] } : State).on (PCH_ONU_DEF ((5 : Fin 64)) ((255 : Fin 256))) PCH_ONU_DEF_LOB_LIVE = true) ∧ (((({ (awake [37, 14]) with now := 1000000, regs := (((awake [37, 14]).wr (PCH_BRX_DEF_CTL 5) 0).p (PCH_ONU_DEF 5 255) PCH_ONU_DEF_LOB_LIVE 1 |>.p (RNG_ONU 5 255) RNG_ONU_STATE 3).regs, slots := [(5 * 256 + 255, { (default : Slot) with absRun := 1 })] } : State).pch.look ((5 : Fin 64))).blankDef || (({ (awake [37, 14]) with now := 1000000, regs := (((awake [37, 14]).wr (PCH_BRX_DEF_CTL 5) 0).p (PCH_ONU_DEF 5 255) PCH_ONU_DEF_LOB_LIVE 1 |>.p (RNG_ONU 5 255) RNG_ONU_STATE 3).regs, slots := [(5 * 256 + 255, { (default : Slot) with absRun := 1 })] } : State).pch.look ((5 : Fin 64))).blankMute) = false) ∧ (({ (awake [37, 14]) with now := 1000000, regs := (((awake [37, 14]).wr (PCH_BRX_DEF_CTL 5) 0).p (PCH_ONU_DEF 5 255) PCH_ONU_DEF_LOB_LIVE 1 |>.p (RNG_ONU 5 255) RNG_ONU_STATE 3).regs, slots := [(5 * 256 + 255, { (default : Slot) with absRun := 1 })] } : State).on (PCH_ONU_DEF ((5 : Fin 64)) ((255 : Fin 256))) PCH_ONU_DEF_LODS_LIVE = false) ∧ (bit (({ (awake [37, 14]) with now := 1000000, regs := (((awake [37, 14]).wr (PCH_BRX_DEF_CTL 5) 0).p (PCH_ONU_DEF 5 255) PCH_ONU_DEF_LOB_LIVE 1 |>.p (RNG_ONU 5 255) RNG_ONU_STATE 3).regs, slots := [(5 * 256 + 255, { (default : Slot) with absRun := 1 })] } : State).slot ((5 : Fin 64)) ((255 : Fin 256))).pendRaise PCH_ONU_DEF_LODS.lo = false) ∧ ((({ (awake [37, 14]) with now := 1000000, regs := (((awake [37, 14]).wr (PCH_BRX_DEF_CTL 5) 0).p (PCH_ONU_DEF 5 255) PCH_ONU_DEF_LOB_LIVE 1 |>.p (RNG_ONU 5 255) RNG_ONU_STATE 3).regs, slots := [(5 * 256 + 255, { (default : Slot) with absRun := 1 })] } : State).slotState ((5 : Fin 64)) ((255 : Fin 256)) = 2 ∨ ({ (awake [37, 14]) with now := 1000000, regs := (((awake [37, 14]).wr (PCH_BRX_DEF_CTL 5) 0).p (PCH_ONU_DEF 5 255) PCH_ONU_DEF_LOB_LIVE 1 |>.p (RNG_ONU 5 255) RNG_ONU_STATE 3).regs, slots := [(5 * 256 + 255, { (default : Slot) with absRun := 1 })] } : State).slotState ((5 : Fin 64)) ((255 : Fin 256)) = 3)) := by decide +kernel
theorem wit_OnuDefectsRaiseAndClear_onuLodsRaise_c2 : (({ (awake [37, 14]) with now := 1000000, regs := ((awake [37, 14]).wr (PCH_BRX_DEF_CTL 5) 0).regs, slots := [(5 * 256 + 255, { (default : Slot) with lobEnd := some 1000000 })] } : State).lodsDue ((5 : Fin 64)) ((255 : Fin 256)) = true) ∧ (({ (awake [37, 14]) with now := 1000000, regs := ((awake [37, 14]).wr (PCH_BRX_DEF_CTL 5) 0).regs, slots := [(5 * 256 + 255, { (default : Slot) with lobEnd := some 1000000 })] } : State).on (PCH_ONU_DEF ((5 : Fin 64)) ((255 : Fin 256))) PCH_ONU_DEF_LOB_LIVE = false) ∧ ((({ (awake [37, 14]) with now := 1000000, regs := ((awake [37, 14]).wr (PCH_BRX_DEF_CTL 5) 0).regs, slots := [(5 * 256 + 255, { (default : Slot) with lobEnd := some 1000000 })] } : State).slot ((5 : Fin 64)) ((255 : Fin 256))).lobEnd = some ({ (awake [37, 14]) with now := 1000000, regs := ((awake [37, 14]).wr (PCH_BRX_DEF_CTL 5) 0).regs, slots := [(5 * 256 + 255, { (default : Slot) with lobEnd := some 1000000 })] } : State).now) := by decide +kernel
theorem wit_OnuDefectsRaiseAndClear_onuDgClear : (({ (awake [37, 14]) with regs := (((awake [37, 14]).wr (PCH_BRX_DEF_CTL 5) 0).p (PCH_ONU_DEF 5 255) PCH_ONU_DEF_DG_LIVE 1).regs, slots := [(5 * 256 + 255, { (default : Slot) with dgRun := 1 })] } : State).defLim ((5 : Fin 64)) ((255 : Fin 256)) PCH_BRX_DEF_CTL_DG_CLR ≤ (({ (awake [37, 14]) with regs := (((awake [37, 14]).wr (PCH_BRX_DEF_CTL 5) 0).p (PCH_ONU_DEF 5 255) PCH_ONU_DEF_DG_LIVE 1).regs, slots := [(5 * 256 + 255, { (default : Slot) with dgRun := 1 })] } : State).slot ((5 : Fin 64)) ((255 : Fin 256))).dgRun) ∧ (({ (awake [37, 14]) with regs := (((awake [37, 14]).wr (PCH_BRX_DEF_CTL 5) 0).p (PCH_ONU_DEF 5 255) PCH_ONU_DEF_DG_LIVE 1).regs, slots := [(5 * 256 + 255, { (default : Slot) with dgRun := 1 })] } : State).on (PCH_ONU_DEF ((5 : Fin 64)) ((255 : Fin 256))) PCH_ONU_DEF_DG_LIVE = true) := by decide +kernel
theorem wit_OnuDefectsRaiseAndClear_onuDriftRaise_c4 : (4 ≤ (({ (awake [37, 14]) with regs := ((awake [37, 14]).wr (PCH_BRX_DEF_CTL 5) 0).regs, slots := [(5 * 256 + 255, { (default : Slot) with driftHi := 4 })] } : State).slot ((5 : Fin 64)) ((255 : Fin 256))).driftHi) ∧ ((({ (awake [37, 14]) with regs := ((awake [37, 14]).wr (PCH_BRX_DEF_CTL 5) 0).regs, slots := [(5 * 256 + 255, { (default : Slot) with driftHi := 4 })] } : State).pch.look ((5 : Fin 64))).permBlank = false) ∧ (({ (awake [37, 14]) with regs := ((awake [37, 14]).wr (PCH_BRX_DEF_CTL 5) 0).regs, slots := [(5 * 256 + 255, { (default : Slot) with driftHi := 4 })] } : State).on (PCH_ONU_DEF ((5 : Fin 64)) ((255 : Fin 256))) PCH_ONU_DEF_DRIFT_LIVE = false) ∧ (bit (({ (awake [37, 14]) with regs := ((awake [37, 14]).wr (PCH_BRX_DEF_CTL 5) 0).regs, slots := [(5 * 256 + 255, { (default : Slot) with driftHi := 4 })] } : State).slot ((5 : Fin 64)) ((255 : Fin 256))).pendRaise PCH_ONU_DEF_DRIFT.lo = false) ∧ (({ (awake [37, 14]) with regs := ((awake [37, 14]).wr (PCH_BRX_DEF_CTL 5) 0).regs, slots := [(5 * 256 + 255, { (default : Slot) with driftHi := 4 })] } : State).slotState ((5 : Fin 64)) ((255 : Fin 256)) ≠ 2) := by decide +kernel
theorem wit_OnuDefectsRaiseAndClear_onuDriftRaise_c5 : (4 ≤ (({ (awake [37, 14]) with regs := (((awake [37, 14]).wr (PCH_BRX_DEF_CTL 5) 0).p (RNG_ONU 5 255) RNG_ONU_STATE 2).regs, slots := [(5 * 256 + 255, { (default : Slot) with driftHi := 4, lastArr := -160 })] } : State).slot ((5 : Fin 64)) ((255 : Fin 256))).driftHi) ∧ ((({ (awake [37, 14]) with regs := (((awake [37, 14]).wr (PCH_BRX_DEF_CTL 5) 0).p (RNG_ONU 5 255) RNG_ONU_STATE 2).regs, slots := [(5 * 256 + 255, { (default : Slot) with driftHi := 4, lastArr := -160 })] } : State).pch.look ((5 : Fin 64))).permBlank = false) ∧ (({ (awake [37, 14]) with regs := (((awake [37, 14]).wr (PCH_BRX_DEF_CTL 5) 0).p (RNG_ONU 5 255) RNG_ONU_STATE 2).regs, slots := [(5 * 256 + 255, { (default : Slot) with driftHi := 4, lastArr := -160 })] } : State).on (PCH_ONU_DEF ((5 : Fin 64)) ((255 : Fin 256))) PCH_ONU_DEF_DRIFT_LIVE = false) ∧ (bit (({ (awake [37, 14]) with regs := (((awake [37, 14]).wr (PCH_BRX_DEF_CTL 5) 0).p (RNG_ONU 5 255) RNG_ONU_STATE 2).regs, slots := [(5 * 256 + 255, { (default : Slot) with driftHi := 4, lastArr := -160 })] } : State).slot ((5 : Fin 64)) ((255 : Fin 256))).pendRaise PCH_ONU_DEF_DRIFT.lo = false) ∧ (({ (awake [37, 14]) with regs := (((awake [37, 14]).wr (PCH_BRX_DEF_CTL 5) 0).p (RNG_ONU 5 255) RNG_ONU_STATE 2).regs, slots := [(5 * 256 + 255, { (default : Slot) with driftHi := 4, lastArr := -160 })] } : State).slotState ((5 : Fin 64)) ((255 : Fin 256)) = 2) ∧ ((({ (awake [37, 14]) with regs := (((awake [37, 14]).wr (PCH_BRX_DEF_CTL 5) 0).p (RNG_ONU 5 255) RNG_ONU_STATE 2).regs, slots := [(5 * 256 + 255, { (default : Slot) with driftHi := 4, lastArr := -160 })] } : State).pch.look ((5 : Fin 64))).ploamQ.length < 64) := by decide +kernel
theorem wit_OnuDefectsRaiseAndClear_onuDriftClear : (16 ≤ (({ (awake [37, 14]) with regs := (((awake [37, 14]).wr (PCH_BRX_DEF_CTL 5) 0).p (PCH_ONU_DEF 5 255) PCH_ONU_DEF_DRIFT_LIVE 1).regs, slots := [(5 * 256 + 255, { (default : Slot) with driftLo := 16 })] } : State).slot ((5 : Fin 64)) ((255 : Fin 256))).driftLo) ∧ (({ (awake [37, 14]) with regs := (((awake [37, 14]).wr (PCH_BRX_DEF_CTL 5) 0).p (PCH_ONU_DEF 5 255) PCH_ONU_DEF_DRIFT_LIVE 1).regs, slots := [(5 * 256 + 255, { (default : Slot) with driftLo := 16 })] } : State).on (PCH_ONU_DEF ((5 : Fin 64)) ((255 : Fin 256))) PCH_ONU_DEF_DRIFT_LIVE = true) := by decide +kernel
theorem wit_OnuDefectsRaiseAndClear_onuRogueRaise_c7 : (({ (awake [37, 14]) with regs := (((awake [37, 14]).wr (PCH_BRX_DEF_CTL 5) 0).p (RNG_CTL 5) RNG_CTL_ROGUE_AUTO 0).regs, slots := [(5 * 256 + 255, { (default : Slot) with rogueAt := [0] })] } : State).defLim ((5 : Fin 64)) ((255 : Fin 256)) PCH_BRX_DEF_CTL_ROGUE_SET ≤ ((({ (awake [37, 14]) with regs := (((awake [37, 14]).wr (PCH_BRX_DEF_CTL 5) 0).p (RNG_CTL 5) RNG_CTL_ROGUE_AUTO 0).regs, slots := [(5 * 256 + 255, { (default : Slot) with rogueAt := [0] })] } : State).slot ((5 : Fin 64)) ((255 : Fin 256))).rogueAt.filter (fun x => decide (({ (awake [37, 14]) with regs := (((awake [37, 14]).wr (PCH_BRX_DEF_CTL 5) 0).p (RNG_CTL 5) RNG_CTL_ROGUE_AUTO 0).regs, slots := [(5 * 256 + 255, { (default : Slot) with rogueAt := [0] })] } : State).now - x < 1000000000))).length) ∧ ((({ (awake [37, 14]) with regs := (((awake [37, 14]).wr (PCH_BRX_DEF_CTL 5) 0).p (RNG_CTL 5) RNG_CTL_ROGUE_AUTO 0).regs, slots := [(5 * 256 + 255, { (default : Slot) with rogueAt := [0] })] } : State).pch.look ((5 : Fin 64))).permBlank = false) ∧ (({ (awake [37, 14]) with regs := (((awake [37, 14]).wr (PCH_BRX_DEF_CTL 5) 0).p (RNG_CTL 5) RNG_CTL_ROGUE_AUTO 0).regs, slots := [(5 * 256 + 255, { (default : Slot) with rogueAt := [0] })] } : State).on (PCH_ONU_DEF ((5 : Fin 64)) ((255 : Fin 256))) PCH_ONU_DEF_ROGUE_LIVE = false) ∧ (bit (({ (awake [37, 14]) with regs := (((awake [37, 14]).wr (PCH_BRX_DEF_CTL 5) 0).p (RNG_CTL 5) RNG_CTL_ROGUE_AUTO 0).regs, slots := [(5 * 256 + 255, { (default : Slot) with rogueAt := [0] })] } : State).slot ((5 : Fin 64)) ((255 : Fin 256))).pendRaise PCH_ONU_DEF_ROGUE.lo = false) ∧ (({ (awake [37, 14]) with regs := (((awake [37, 14]).wr (PCH_BRX_DEF_CTL 5) 0).p (RNG_CTL 5) RNG_CTL_ROGUE_AUTO 0).regs, slots := [(5 * 256 + 255, { (default : Slot) with rogueAt := [0] })] } : State).on (RNG_CTL ((5 : Fin 64))) RNG_CTL_ROGUE_AUTO = false) := by decide +kernel
theorem wit_OnuDefectsRaiseAndClear_onuRogueRaise_c8 : (({ (awake [37, 14]) with regs := (((awake [37, 14]).wr (PCH_BRX_DEF_CTL 5) 0).p (RNG_CTL 5) RNG_CTL_ROGUE_AUTO 1).regs, slots := [(5 * 256 + 255, { (default : Slot) with rogueAt := [0] })] } : State).defLim ((5 : Fin 64)) ((255 : Fin 256)) PCH_BRX_DEF_CTL_ROGUE_SET ≤ ((({ (awake [37, 14]) with regs := (((awake [37, 14]).wr (PCH_BRX_DEF_CTL 5) 0).p (RNG_CTL 5) RNG_CTL_ROGUE_AUTO 1).regs, slots := [(5 * 256 + 255, { (default : Slot) with rogueAt := [0] })] } : State).slot ((5 : Fin 64)) ((255 : Fin 256))).rogueAt.filter (fun x => decide (({ (awake [37, 14]) with regs := (((awake [37, 14]).wr (PCH_BRX_DEF_CTL 5) 0).p (RNG_CTL 5) RNG_CTL_ROGUE_AUTO 1).regs, slots := [(5 * 256 + 255, { (default : Slot) with rogueAt := [0] })] } : State).now - x < 1000000000))).length) ∧ ((({ (awake [37, 14]) with regs := (((awake [37, 14]).wr (PCH_BRX_DEF_CTL 5) 0).p (RNG_CTL 5) RNG_CTL_ROGUE_AUTO 1).regs, slots := [(5 * 256 + 255, { (default : Slot) with rogueAt := [0] })] } : State).pch.look ((5 : Fin 64))).permBlank = false) ∧ (({ (awake [37, 14]) with regs := (((awake [37, 14]).wr (PCH_BRX_DEF_CTL 5) 0).p (RNG_CTL 5) RNG_CTL_ROGUE_AUTO 1).regs, slots := [(5 * 256 + 255, { (default : Slot) with rogueAt := [0] })] } : State).on (PCH_ONU_DEF ((5 : Fin 64)) ((255 : Fin 256))) PCH_ONU_DEF_ROGUE_LIVE = false) ∧ (bit (({ (awake [37, 14]) with regs := (((awake [37, 14]).wr (PCH_BRX_DEF_CTL 5) 0).p (RNG_CTL 5) RNG_CTL_ROGUE_AUTO 1).regs, slots := [(5 * 256 + 255, { (default : Slot) with rogueAt := [0] })] } : State).slot ((5 : Fin 64)) ((255 : Fin 256))).pendRaise PCH_ONU_DEF_ROGUE.lo = false) ∧ (({ (awake [37, 14]) with regs := (((awake [37, 14]).wr (PCH_BRX_DEF_CTL 5) 0).p (RNG_CTL 5) RNG_CTL_ROGUE_AUTO 1).regs, slots := [(5 * 256 + 255, { (default : Slot) with rogueAt := [0] })] } : State).on (RNG_CTL ((5 : Fin 64))) RNG_CTL_ROGUE_AUTO = true) := by decide +kernel
theorem wit_OnuDefectsRaiseAndClear_onuRogueClear : ((∀ x ∈ (({ (awake [37, 14]) with regs := (((awake [37, 14]).wr (PCH_BRX_DEF_CTL 5) 0).p (PCH_ONU_DEF 5 255) PCH_ONU_DEF_ROGUE_LIVE 1).regs, slots := [(5 * 256 + 255, { (default : Slot) with rogueAt := [] })] } : State).slot ((5 : Fin 64)) ((255 : Fin 256))).rogueAt, 10000000000 ≤ ({ (awake [37, 14]) with regs := (((awake [37, 14]).wr (PCH_BRX_DEF_CTL 5) 0).p (PCH_ONU_DEF 5 255) PCH_ONU_DEF_ROGUE_LIVE 1).regs, slots := [(5 * 256 + 255, { (default : Slot) with rogueAt := [] })] } : State).now - x)) ∧ (({ (awake [37, 14]) with regs := (((awake [37, 14]).wr (PCH_BRX_DEF_CTL 5) 0).p (PCH_ONU_DEF 5 255) PCH_ONU_DEF_ROGUE_LIVE 1).regs, slots := [(5 * 256 + 255, { (default : Slot) with rogueAt := [] })] } : State).on (PCH_ONU_DEF ((5 : Fin 64)) ((255 : Fin 256))) PCH_ONU_DEF_ROGUE_LIVE = true) := by decide +kernel
theorem wit_DiscoveryFillsSlots_quietWindowOpen_c0 : (((let s0 := (rchan { (default : Pch) with mode := 2, running := true, teqd := 200000 }).p (RNG_CTL 5) RNG_CTL_QW_EN 1; { s0 with now := 0 }) : State).chState ((5 : Fin 64)) = 2) ∧ ((((let s0 := (rchan { (default : Pch) with mode := 2, running := true, teqd := 200000 }).p (RNG_CTL 5) RNG_CTL_QW_EN 1; { s0 with now := 0 }) : State).on (RNG_CTL ((5 : Fin 64))) RNG_CTL_QW_EN || (((let s0 := (rchan { (default : Pch) with mode := 2, running := true, teqd := 200000 }).p (RNG_CTL 5) RNG_CTL_QW_EN 1; { s0 with now := 0 }) : State).rng.look ((5 : Fin 64))).qwDue) = true) ∧ (((let s0 := (rchan { (default : Pch) with mode := 2, running := true, teqd := 200000 }).p (RNG_CTL 5) RNG_CTL_QW_EN 1; { s0 with now := 0 }) : State).qwFree ((5 : Fin 64)) = true) := by decide +kernel
theorem wit_DiscoveryFillsSlots_quietWindowOpen_c1 : (((let s0 := (rchan { (default : Pch) with mode := 2, running := true, teqd := 200000 }).p (RNG_CTL 5) RNG_CTL_QW_EN 1; { s0 with rng := [(5, { (default : Rng) with qwBooked := true })] }) : State).chState ((5 : Fin 64)) = 2) ∧ ((((let s0 := (rchan { (default : Pch) with mode := 2, running := true, teqd := 200000 }).p (RNG_CTL 5) RNG_CTL_QW_EN 1; { s0 with rng := [(5, { (default : Rng) with qwBooked := true })] }) : State).on (RNG_CTL ((5 : Fin 64))) RNG_CTL_QW_EN || (((let s0 := (rchan { (default : Pch) with mode := 2, running := true, teqd := 200000 }).p (RNG_CTL 5) RNG_CTL_QW_EN 1; { s0 with rng := [(5, { (default : Rng) with qwBooked := true })] }) : State).rng.look ((5 : Fin 64))).qwDue) = true) ∧ (((let s0 := (rchan { (default : Pch) with mode := 2, running := true, teqd := 200000 }).p (RNG_CTL 5) RNG_CTL_QW_EN 1; { s0 with rng := [(5, { (default : Rng) with qwBooked := true })] }) : State).qwFree ((5 : Fin 64)) = false) := by decide +kernel
theorem wit_DiscoveryFillsSlots_serialNumberOnu_c2 : (((let s0 := (rchan { (default : Pch) with mode := 2, running := true, teqd := 200000 }).p (RNG_ONU 5 0) RNG_ONU_STATE 4; { s0 with now := 0 }) : State).chState ((5 : Fin 64)) = 2) ∧ (((let s0 := (rchan { (default : Pch) with mode := 2, running := true, teqd := 200000 }).p (RNG_ONU 5 0) RNG_ONU_STATE 4; { s0 with now := 0 }) : State).snKnown ((5 : Fin 64)) ((0x4142434400000001 : BitVec 64)) 256 = false) ∧ (((let s0 := (rchan { (default : Pch) with mode := 2, running := true, teqd := 200000 }).p (RNG_ONU 5 0) RNG_ONU_STATE 4; { s0 with now := 0 }) : State).emptySlot ((5 : Fin 64)) = some (1)) ∧ ((1) < 256) := by decide +kernel
theorem wit_DiscoveryFillsSlots_serialNumberOnu_c3 : (((let s0 := (rchan { (default : Pch) with mode := 2, running := true, teqd := 200000 }).p (RNG_ONU 5 0) RNG_ONU_STATE 5 |>.p (RNG_ONU 5 0) RNG_ONU_SN_LO 9; { s0 with now := 0 }) : State).chState ((5 : Fin 64)) = 2) ∧ (((let s0 := (rchan { (default : Pch) with mode := 2, running := true, teqd := 200000 }).p (RNG_ONU 5 0) RNG_ONU_STATE 5 |>.p (RNG_ONU 5 0) RNG_ONU_SN_LO 9; { s0 with now := 0 }) : State).snKnown ((5 : Fin 64)) ((9 : BitVec 64)) 256 = true) := by decide +kernel
theorem wit_DiscoveryFillsSlots_serialNumberOnu_c4 : ((fullChan : State).chState ((5 : Fin 64)) = 2) ∧ ((fullChan : State).snKnown ((5 : Fin 64)) ((9 : BitVec 64)) 256 = false) ∧ ((fullChan : State).emptySlot ((5 : Fin 64)) = none) := by
  refine ⟨by decide +kernel, ?_, ?_⟩
  · refine List.any_eq_false.mpr fun i h => Bool.eq_false_iff.mp ?_
    have h : fullChan.slotSn ((5 : Fin 64)) i = 0 := (fullChan_slot i (List.mem_range.mp h)).2
    rw [h]
    exact Bool.and_false _
  · refine findFrom_none _ _ _ fun i _ h => decide_eq_false ?_
    have h : fullChan.slotState ((5 : Fin 64)) i = 5 := (fullChan_slot i (by omega)).1
    rw [h]
    decide
theorem wit_DiscoveryFillsSlots_rangingBurst_c5 : (((let s0 := (rchan { (default : Pch) with mode := 2, running := true, teqd := 200000 }).p (RNG_ONU 5 255) RNG_ONU_STATE 1; { s0 with now := 0 }) : State).slotState ((5 : Fin 64)) ((255 : Fin 256)) = 1) ∧ ((((let s0 := (rchan { (default : Pch) with mode := 2, running := true, teqd := 200000 }).p (RNG_ONU 5 255) RNG_ONU_STATE 1; { s0 with now := 0 }) : State).slot ((5 : Fin 64)) ((255 : Fin 256))).vidan = false) ∧ (((64000 : Nat)) * 125000 ≤ 64 * ((let s0 := (rchan { (default : Pch) with mode := 2, running := true, teqd := 200000 }).p (RNG_ONU 5 255) RNG_ONU_STATE 1; { s0 with now := 0 }) : State).teqdBits ((5 : Fin 64))) := by decide +kernel
theorem wit_DiscoveryFillsSlots_rangingBurst_c6 : (((let s0 := (rchan { (default : Pch) with mode := 2, running := true, teqd := 200000 }).p (RNG_ONU 5 255) RNG_ONU_STATE 1; { s0 with now := 0 }) : State).slotState ((5 : Fin 64)) ((255 : Fin 256)) = 1) ∧ ((((let s0 := (rchan { (default : Pch) with mode := 2, running := true, teqd := 200000 }).p (RNG_ONU 5 255) RNG_ONU_STATE 1; { s0 with now := 0 }) : State).slot ((5 : Fin 64)) ((255 : Fin 256))).vidan = false) ∧ (64 * ((let s0 := (rchan { (default : Pch) with mode := 2, running := true, teqd := 200000 }).p (RNG_ONU 5 255) RNG_ONU_STATE 1; { s0 with now := 0 }) : State).teqdBits ((5 : Fin 64)) < ((999999999 : Nat)) * 125000) := by decide +kernel
theorem wit_DiscoveryFillsSlots_upstreamPloam_c7 : (((true) = false ∨ (((UpPloam.acknowledge)) ≠ .dyingGasp ∧ ((awake [] : State).slot ((5 : Fin 64)) ((255 : Fin 256))).capPending = false))) := by decide +kernel
theorem wit_DiscoveryFillsSlots_upstreamPloam_c8 : (((let s0 := (rchan { (default : Pch) with mode := 2, running := true, teqd := 200000 }).p (RNG_ONU 5 255) RNG_ONU_STATE 1; { s0 with now := 0 }) : State).slotState ((5 : Fin 64)) ((255 : Fin 256)) ≠ 0) ∧ ((((let s0 := (rchan { (default : Pch) with mode := 2, running := true, teqd := 200000 }).p (RNG_ONU 5 255) RNG_ONU_STATE 1; { s0 with now := 0 }) : State).pch.look ((5 : Fin 64))).permBlank = false) ∧ ((((let s0 := (rchan { (default : Pch) with mode := 2, running := true, teqd := 200000 }).p (RNG_ONU 5 255) RNG_ONU_STATE 1; { s0 with now := 0 }) : State).pch.look ((5 : Fin 64))).blankMute = false) ∧ (((let s0 := (rchan { (default : Pch) with mode := 2, running := true, teqd := 200000 }).p (RNG_ONU 5 255) RNG_ONU_STATE 1; { s0 with now := 0 }) : State).on (PCH_ONU_DEF ((5 : Fin 64)) ((255 : Fin 256))) PCH_ONU_DEF_DG_LIVE = false) := by decide +kernel
theorem wit_DiscoveryFillsSlots_capReport_c9 : ((((let s0 := (rchan { (default : Pch) with mode := 2, running := true, teqd := 200000 }); { s0 with slots := [(5 * 256 + 255, { (default : Slot) with capPending := true })] }) : State).slot ((5 : Fin 64)) ((255 : Fin 256))).capPending = true) := by decide +kernel
theorem wit_DiscoveryFillsSlots_upstreamPloam_c10 : ((((let s0 := (rchan { (default : Pch) with mode := 2, running := true, teqd := 200000 }); { s0 with slots := [(5 * 256 + 255, { (default : Slot) with capPending := true })] }) : State).slot ((5 : Fin 64)) ((255 : Fin 256))).capPending = true) := by decide +kernel
theorem wit_DiscoveryFillsSlots_capReport_c11 : ((((let s0 := (rchan { (default : Pch) with mode := 2, running := true, teqd := 200000 }); { s0 with now := 0 }) : State).slot ((5 : Fin 64)) ((255 : Fin 256))).capPending = false) := by decide +kernel
theorem wit_DiscoveryFillsSlots_capQueryTimeout : ((((let s0 := (rchan { (default : Pch) with mode := 2, running := true, teqd := 200000 }).p (RNG_ONU 5 255) RNG_ONU_SEALED_CAP 1; { s0 with slots := [(5 * 256 + 255, { (default : Slot) with capPending := true })] }) : State).slot ((5 : Fin 64)) ((255 : Fin 256))).capPending = true) := by decide +kernel
theorem wit_VidanDiscovery_vidanInvite_c0 : (((let s0 := (rchan { (default : Pch) with mode := 1, running := true, teqd := 200000 }).p (RNG_CTL 5) RNG_CTL_VIDAN_EN 1; { s0 with now := 0 }) : State).inviteOk ((5 : Fin 64)) = true) ∧ ((((let s0 := (rchan { (default : Pch) with mode := 1, running := true, teqd := 200000 }).p (RNG_CTL 5) RNG_CTL_VIDAN_EN 1; { s0 with now := 0 }) : State).pch.look ((5 : Fin 64))).ploamQ.length < 64) := by decide +kernel
theorem wit_VidanDiscovery_vidanInvite_c1 : (((let s0 := (rchan { (default : Pch) with mode := 1, running := true, teqd := 200000, ploamQ := List.replicate 64 (.deactivate 0) }).p (RNG_CTL 5) RNG_CTL_VIDAN_EN 1; { s0 with now := 0 }) : State).inviteOk ((5 : Fin 64)) = true) ∧ (64 ≤ (((let s0 := (rchan { (default : Pch) with mode := 1, running := true, teqd := 200000, ploamQ := List.replicate 64 (.deactivate 0) }).p (RNG_CTL 5) RNG_CTL_VIDAN_EN 1; { s0 with now := 0 }) : State).pch.look ((5 : Fin 64))).ploamQ.length) := by decide +kernel
theorem wit_VidanDiscovery_vidanInvite_c2 : (((let s0 := (rchan { (default : Pch) with mode := 1, running := true, teqd := 200000 }).p (RNG_CTL 5) RNG_CTL_VIDAN_EN 0; { s0 with now := 0 }) : State).inviteOk ((5 : Fin 64)) = false) := by decide +kernel
theorem wit_VidanDiscovery_utPeaksReported_c3 : (((let s0 := (rchan { (default : Pch) with mode := 1, running := true, teqd := 200000, openLo := 69 }); { s0 with rng := [(5, { (default : Rng) with utOpen := true, utStart := some 4, pResp := some 7 })] }) : State).utOver ((5 : Fin 64)) = true) := by decide +kernel
theorem wit_VidanDiscovery_utPeaksReported_c3_w1 : (((let s0 := (rchan { (default : Pch) with mode := 1, running := true, teqd := 200000, openLo := 69 }).p (RNG_SPAN 5) RNG_SPAN_DMIN_US 0 |>.p (RNG_SPAN 5) RNG_SPAN_DMAX_US 100; { s0 with rng := [(5, { (default : Rng) with utOpen := true, utStart := some 4, pResp := some 7 })] }) : State).utOver ((5 : Fin 64)) = true) := by decide +kernel
theorem wit_VidanDiscovery_utPeaksReported_c4 : (((let s0 := (rchan { (default : Pch) with mode := 1, running := true, teqd := 200000, openLo := 69 }).p (RNG_UT_PEAK 5 3) RNG_UT_PEAK_VALID 1; { s0 with rng := [(5, { (default : Rng) with utOpen := true, utStart := some 4, pResp := some 7 })] }) : State).utOver ((5 : Fin 64)) = true) ∧ ((((let s0 := (rchan { (default : Pch) with mode := 1, running := true, teqd := 200000, openLo := 69 }).p (RNG_UT_PEAK 5 3) RNG_UT_PEAK_VALID 1; { s0 with rng := [(5, { (default : Rng) with utOpen := true, utStart := some 4, pResp := some 7 })] }) : State).rng.look ((5 : Fin 64))).qwDue = false) ∧ ((∀ i : Fin 256, (((let s0 := (rchan { (default : Pch) with mode := 1, running := true, teqd := 200000, openLo := 69 }).p (RNG_UT_PEAK 5 3) RNG_UT_PEAK_VALID 1; { s0 with rng := [(5, { (default : Rng) with utOpen := true, utStart := some 4, pResp := some 7 })] }) : State).slot ((5 : Fin 64)) i).rerangeWait = false)) := by decide +kernel
theorem wit_VidanDiscovery_utPeaksReported_c5 : (((let s0 := (rchan { (default : Pch) with mode := 1, running := true, teqd := 200000, openLo := 69 }).p (RNG_SPAN 5) RNG_SPAN_DMIN_US 0 |>.p (RNG_SPAN 5) RNG_SPAN_DMAX_US 100; { s0 with rng := [(5, { (default : Rng) with utOpen := true, utStart := some 4, pResp := some 7 })] }) : State).utOver ((5 : Fin 64)) = true) ∧ (((let s0 := (rchan { (default : Pch) with mode := 1, running := true, teqd := 200000, openLo := 69 }).p (RNG_SPAN 5) RNG_SPAN_DMIN_US 0 |>.p (RNG_SPAN 5) RNG_SPAN_DMAX_US 100; { s0 with rng := [(5, { (default : Rng) with utOpen := true, utStart := some 4, pResp := some 7 })] }) : State).searched ((5 : Fin 64)) ((⟨31, 5, 100⟩ : UtPeak)) = true) ∧ (((⟨31, 5, 100⟩ : UtPeak)).delay * (((let s0 := (rchan { (default : Pch) with mode := 1, running := true, teqd := 200000, openLo := 69 }).p (RNG_SPAN 5) RNG_SPAN_DMIN_US 0 |>.p (RNG_SPAN 5) RNG_SPAN_DMAX_US 100; { s0 with rng := [(5, { (default : Rng) with utOpen := true, utStart := some 4, pResp := some 7 })] }) : State).bpf ((5 : Fin 64)) / 194400) * 125000 ≤ ((let s0 := (rchan { (default : Pch) with mode := 1, running := true, teqd := 200000, openLo := 69 }).p (RNG_SPAN 5) RNG_SPAN_DMIN_US 0 |>.p (RNG_SPAN 5) RNG_SPAN_DMAX_US 100; { s0 with rng := [(5, { (default : Rng) with utOpen := true, utStart := some 4, pResp := some 7 })] }) : State).teqdBits ((5 : Fin 64))) ∧ (((let s0 := (rchan { (default : Pch) with mode := 1, running := true, teqd := 200000, openLo := 69 }).p (RNG_SPAN 5) RNG_SPAN_DMIN_US 0 |>.p (RNG_SPAN 5) RNG_SPAN_DMAX_US 100; { s0 with rng := [(5, { (default : Rng) with utOpen := true, utStart := some 4, pResp := some 7 })] }) : State).emptySlot ((5 : Fin 64)) = some (0)) ∧ ((0) < 256) := by decide +kernel
theorem wit_VidanDiscovery_utPeaksReported_c6 : (((let s0 := (rchan { (default : Pch) with mode := 1, running := true, teqd := 200000, openLo := 68 }); { s0 with rng := [(5, { (default : Rng) with utOpen := true, utStart := some 4, pResp := some 7 })] }) : State).utOver ((5 : Fin 64)) = false) := by decide +kernel
theorem wit_VidanDiscovery_vidanFollowupResult_c7 : (((let s0 := (rchan { (default : Pch) with mode := 1, running := true, teqd := 200000 }).p (RNG_ONU 5 255) RNG_ONU_STATE 1; { s0 with slots := [(5 * 256 + 255, { (default : Slot) with vidan := true, vEntry := 256, vIdx := (vidanHash 9 0).toNat % 32 })] }) : State).slotState ((5 : Fin 64)) ((255 : Fin 256)) = 1) ∧ ((((let s0 := (rchan { (default : Pch) with mode := 1, running := true, teqd := 200000 }).p (RNG_ONU 5 255) RNG_ONU_STATE 1; { s0 with slots := [(5 * 256 + 255, { (default : Slot) with vidan := true, vEntry := 256, vIdx := (vidanHash 9 0).toNat % 32 })] }) : State).slot ((5 : Fin 64)) ((255 : Fin 256))).vidan = true) ∧ ((((let s0 := (rchan { (default : Pch) with mode := 1, running := true, teqd := 200000 }).p (RNG_ONU 5 255) RNG_ONU_STATE 1; { s0 with slots := [(5 * 256 + 255, { (default : Slot) with vidan := true, vEntry := 256, vIdx := (vidanHash 9 0).toNat % 32 })] }) : State).slot ((5 : Fin 64)) ((255 : Fin 256))).vSnOk = false) ∧ ((vidanHash ((9 : BitVec 64)) (((let s0 := (rchan { (default : Pch) with mode := 1, running := true, teqd := 200000 }).p (RNG_ONU 5 255) RNG_ONU_STATE 1; { s0 with slots := [(5 * 256 + 255, { (default : Slot) with vidan := true, vEntry := 256, vIdx := (vidanHash 9 0).toNat % 32 })] }) : State).slot ((5 : Fin 64)) ((255 : Fin 256))).vNonce).toNat % 32 = (((let s0 := (rchan { (default : Pch) with mode := 1, running := true, teqd := 200000 }).p (RNG_ONU 5 255) RNG_ONU_STATE 1; { s0 with slots := [(5 * 256 + 255, { (default : Slot) with vidan := true, vEntry := 256, vIdx := (vidanHash 9 0).toNat % 32 })] }) : State).slot ((5 : Fin 64)) ((255 : Fin 256))).vIdx) ∧ (((let s0 := (rchan { (default : Pch) with mode := 1, running := true, teqd := 200000 }).p (RNG_ONU 5 255) RNG_ONU_STATE 1; { s0 with slots := [(5 * 256 + 255, { (default : Slot) with vidan := true, vEntry := 256, vIdx := (vidanHash 9 0).toNat % 32 })] }) : State).snKnown ((5 : Fin 64)) ((9 : BitVec 64)) ((255 : Fin 256)) = false) := by decide +kernel
theorem wit_VidanDiscovery_vidanFollowupResult_c8 : (((let s0 := (rchan { (default : Pch) with mode := 1, running := true, teqd := 200000 }).p (RNG_ONU 5 255) RNG_ONU_STATE 1; { s0 with slots := [(5 * 256 + 255, { (default : Slot) with vidan := true, vEntry := 256, vIdx := 99 })] }) : State).slotState ((5 : Fin 64)) ((255 : Fin 256)) = 1) ∧ ((((let s0 := (rchan { (default : Pch) with mode := 1, running := true, teqd := 200000 }).p (RNG_ONU 5 255) RNG_ONU_STATE 1; { s0 with slots := [(5 * 256 + 255, { (default : Slot) with vidan := true, vEntry := 256, vIdx := 99 })] }) : State).slot ((5 : Fin 64)) ((255 : Fin 256))).vidan = true) ∧ ((((let s0 := (rchan { (default : Pch) with mode := 1, running := true, teqd := 200000 }).p (RNG_ONU 5 255) RNG_ONU_STATE 1; { s0 with slots := [(5 * 256 + 255, { (default : Slot) with vidan := true, vEntry := 256, vIdx := 99 })] }) : State).slot ((5 : Fin 64)) ((255 : Fin 256))).vSnOk = false) ∧ (((false) = true ∨ (vidanHash ((9 : BitVec 64)) (((let s0 := (rchan { (default : Pch) with mode := 1, running := true, teqd := 200000 }).p (RNG_ONU 5 255) RNG_ONU_STATE 1; { s0 with slots := [(5 * 256 + 255, { (default : Slot) with vidan := true, vEntry := 256, vIdx := 99 })] }) : State).slot ((5 : Fin 64)) ((255 : Fin 256))).vNonce).toNat % 32 ≠ (((let s0 := (rchan { (default : Pch) with mode := 1, running := true, teqd := 200000 }).p (RNG_ONU 5 255) RNG_ONU_STATE 1; { s0 with slots := [(5 * 256 + 255, { (default : Slot) with vidan := true, vEntry := 256, vIdx := 99 })] }) : State).slot ((5 : Fin 64)) ((255 : Fin 256))).vIdx)) := by decide +kernel
theorem wit_VidanDiscovery_vidanFollowupResult_c9 : (((let s0 := (rchan { (default : Pch) with mode := 1, running := true, teqd := 200000 }).p (RNG_ONU 5 255) RNG_ONU_STATE 1 |>.p (RNG_ONU 5 0) RNG_ONU_STATE 2 |>.p (RNG_ONU 5 0) RNG_ONU_SN_LO 9; { s0 with slots := [(5 * 256 + 255, { (default : Slot) with vidan := true, vEntry := 256, vIdx := (vidanHash 9 0).toNat % 32 })] }) : State).slotState ((5 : Fin 64)) ((255 : Fin 256)) = 1) ∧ ((((let s0 := (rchan { (default : Pch) with mode := 1, running := true, teqd := 200000 }).p (RNG_ONU 5 255) RNG_ONU_STATE 1 |>.p (RNG_ONU 5 0) RNG_ONU_STATE 2 |>.p (RNG_ONU 5 0) RNG_ONU_SN_LO 9; { s0 with slots := [(5 * 256 + 255, { (default : Slot) with vidan := true, vEntry := 256, vIdx := (vidanHash 9 0).toNat % 32 })] }) : State).slot ((5 : Fin 64)) ((255 : Fin 256))).vidan = true) ∧ ((((let s0 := (rchan { (default : Pch) with mode := 1, running := true, teqd := 200000 }).p (RNG_ONU 5 255) RNG_ONU_STATE 1 |>.p (RNG_ONU 5 0) RNG_ONU_STATE 2 |>.p (RNG_ONU 5 0) RNG_ONU_SN_LO 9; { s0 with slots := [(5 * 256 + 255, { (default : Slot) with vidan := true, vEntry := 256, vIdx := (vidanHash 9 0).toNat % 32 })] }) : State).slot ((5 : Fin 64)) ((255 : Fin 256))).vSnOk = false) ∧ ((vidanHash ((9 : BitVec 64)) (((let s0 := (rchan { (default : Pch) with mode := 1, running := true, teqd := 200000 }).p (RNG_ONU 5 255) RNG_ONU_STATE 1 |>.p (RNG_ONU 5 0) RNG_ONU_STATE 2 |>.p (RNG_ONU 5 0) RNG_ONU_SN_LO 9; { s0 with slots := [(5 * 256 + 255, { (default : Slot) with vidan := true, vEntry := 256, vIdx := (vidanHash 9 0).toNat % 32 })] }) : State).slot ((5 : Fin 64)) ((255 : Fin 256))).vNonce).toNat % 32 = (((let s0 := (rchan { (default : Pch) with mode := 1, running := true, teqd := 200000 }).p (RNG_ONU 5 255) RNG_ONU_STATE 1 |>.p (RNG_ONU 5 0) RNG_ONU_STATE 2 |>.p (RNG_ONU 5 0) RNG_ONU_SN_LO 9; { s0 with slots := [(5 * 256 + 255, { (default : Slot) with vidan := true, vEntry := 256, vIdx := (vidanHash 9 0).toNat % 32 })] }) : State).slot ((5 : Fin 64)) ((255 : Fin 256))).vIdx) ∧ (((let s0 := (rchan { (default : Pch) with mode := 1, running := true, teqd := 200000 }).p (RNG_ONU 5 255) RNG_ONU_STATE 1 |>.p (RNG_ONU 5 0) RNG_ONU_STATE 2 |>.p (RNG_ONU 5 0) RNG_ONU_SN_LO 9; { s0 with slots := [(5 * 256 + 255, { (default : Slot) with vidan := true, vEntry := 256, vIdx := (vidanHash 9 0).toNat % 32 })] }) : State).snKnown ((5 : Fin 64)) ((9 : BitVec 64)) ((255 : Fin 256)) = true) := by decide +kernel
theorem wit_VidanDiscovery_vidanFollowupResult_c10 : (((let s0 := (rchan { (default : Pch) with mode := 1, running := true, teqd := 200000 }).p (RNG_ONU 5 255) RNG_ONU_STATE 1; { s0 with slots := [(5 * 256 + 255, { (default : Slot) with vidan := true, vEntry := 256, vTries := 1 })] }) : State).slotState ((5 : Fin 64)) ((255 : Fin 256)) = 1) ∧ ((((let s0 := (rchan { (default : Pch) with mode := 1, running := true, teqd := 200000 }).p (RNG_ONU 5 255) RNG_ONU_STATE 1; { s0 with slots := [(5 * 256 + 255, { (default : Slot) with vidan := true, vEntry := 256, vTries := 1 })] }) : State).slot ((5 : Fin 64)) ((255 : Fin 256))).vidan = true) ∧ ((((let s0 := (rchan { (default : Pch) with mode := 1, running := true, teqd := 200000 }).p (RNG_ONU 5 255) RNG_ONU_STATE 1; { s0 with slots := [(5 * 256 + 255, { (default : Slot) with vidan := true, vEntry := 256, vTries := 1 })] }) : State).slot ((5 : Fin 64)) ((255 : Fin 256))).vSnOk = false) ∧ ((((let s0 := (rchan { (default : Pch) with mode := 1, running := true, teqd := 200000 }).p (RNG_ONU 5 255) RNG_ONU_STATE 1; { s0 with slots := [(5 * 256 + 255, { (default : Slot) with vidan := true, vEntry := 256, vTries := 1 })] }) : State).slot ((5 : Fin 64)) ((255 : Fin 256))).vTries < 2) ∧ ((((let s0 := (rchan { (default : Pch) with mode := 1, running := true, teqd := 200000 }).p (RNG_ONU 5 255) RNG_ONU_STATE 1; { s0 with slots := [(5 * 256 + 255, { (default : Slot) with vidan := true, vEntry := 256, vTries := 1 })] }) : State).pch.look ((5 : Fin 64))).ploamQ.length < 64) := by decide +kernel
theorem wit_VidanDiscovery_vidanFollowupResult_c11 : (((let s0 := (rchan { (default : Pch) with mode := 1, running := true, teqd := 200000 }).p (RNG_ONU 5 255) RNG_ONU_STATE 1; { s0 with slots := [(5 * 256 + 255, { (default : Slot) with vidan := true, vEntry := 256, vTries := 2 })] }) : State).slotState ((5 : Fin 64)) ((255 : Fin 256)) = 1) ∧ ((((let s0 := (rchan { (default : Pch) with mode := 1, running := true, teqd := 200000 }).p (RNG_ONU 5 255) RNG_ONU_STATE 1; { s0 with slots := [(5 * 256 + 255, { (default : Slot) with vidan := true, vEntry := 256, vTries := 2 })] }) : State).slot ((5 : Fin 64)) ((255 : Fin 256))).vidan = true) ∧ ((((let s0 := (rchan { (default : Pch) with mode := 1, running := true, teqd := 200000 }).p (RNG_ONU 5 255) RNG_ONU_STATE 1; { s0 with slots := [(5 * 256 + 255, { (default : Slot) with vidan := true, vEntry := 256, vTries := 2 })] }) : State).slot ((5 : Fin 64)) ((255 : Fin 256))).vSnOk = false) ∧ (2 ≤ (((let s0 := (rchan { (default : Pch) with mode := 1, running := true, teqd := 200000 }).p (RNG_ONU 5 255) RNG_ONU_STATE 1; { s0 with slots := [(5 * 256 + 255, { (default : Slot) with vidan := true, vEntry := 256, vTries := 2 })] }) : State).slot ((5 : Fin 64)) ((255 : Fin 256))).vTries) := by decide +kernel
theorem wit_VidanDiscovery_vidanFollowupResult_c12 : (((let s0 := (rchan { (default : Pch) with mode := 1, running := true, teqd := 200000 }).p (RNG_ONU 5 255) RNG_ONU_STATE 1; { s0 with slots := [(5 * 256 + 255, { (default : Slot) with vidan := true, vEntry := 256, vSnOk := true, vClean := 1 })] }) : State).slotState ((5 : Fin 64)) ((255 : Fin 256)) = 1) ∧ ((((let s0 := (rchan { (default : Pch) with mode := 1, running := true, teqd := 200000 }).p (RNG_ONU 5 255) RNG_ONU_STATE 1; { s0 with slots := [(5 * 256 + 255, { (default : Slot) with vidan := true, vEntry := 256, vSnOk := true, vClean := 1 })] }) : State).slot ((5 : Fin 64)) ((255 : Fin 256))).vidan = true) ∧ ((((let s0 := (rchan { (default : Pch) with mode := 1, running := true, teqd := 200000 }).p (RNG_ONU 5 255) RNG_ONU_STATE 1; { s0 with slots := [(5 * 256 + 255, { (default : Slot) with vidan := true, vEntry := 256, vSnOk := true, vClean := 1 })] }) : State).slot ((5 : Fin 64)) ((255 : Fin 256))).vSnOk = true) := by decide +kernel
theorem wit_VidanDiscovery_vidanFollowupResult_c13 : ((((let s0 := (rchan { (default : Pch) with mode := 2, running := true, teqd := 200000 }).p (RNG_ONU 5 255) RNG_ONU_STATE 1; { s0 with now := 0 }) : State).slotState ((5 : Fin 64)) ((255 : Fin 256)) ≠ 1 ∨ (((let s0 := (rchan { (default : Pch) with mode := 2, running := true, teqd := 200000 }).p (RNG_ONU 5 255) RNG_ONU_STATE 1; { s0 with now := 0 }) : State).slot ((5 : Fin 64)) ((255 : Fin 256))).vidan = false)) := by decide +kernel
theorem wit_VidanDiscovery_vidanFollowupResult_c14 : (((let s0 := (rchan { (default : Pch) with mode := 1, running := true, teqd := 200000 }).p (RNG_ONU 5 255) RNG_ONU_STATE 1; { s0 with slots := [(5 * 256 + 255, { (default : Slot) with vidan := true, vEntry := 256 })] }) : State).slotState ((5 : Fin 64)) ((255 : Fin 256)) = 1) ∧ ((((let s0 := (rchan { (default : Pch) with mode := 1, running := true, teqd := 200000 }).p (RNG_ONU 5 255) RNG_ONU_STATE 1; { s0 with slots := [(5 * 256 + 255, { (default : Slot) with vidan := true, vEntry := 256 })] }) : State).slot ((5 : Fin 64)) ((255 : Fin 256))).vidan = true) ∧ ((((let s0 := (rchan { (default : Pch) with mode := 1, running := true, teqd := 200000 }).p (RNG_ONU 5 255) RNG_ONU_STATE 1; { s0 with slots := [(5 * 256 + 255, { (default : Slot) with vidan := true, vEntry := 256 })] }) : State).slot ((5 : Fin 64)) ((255 : Fin 256))).vSnOk = false) := by decide +kernel
theorem wit_VidanDiscovery_vidanFollowupResult_c15 : (((let s0 := (rchan { (default : Pch) with mode := 1, running := true, teqd := 200000 }).p (RNG_ONU 5 255) RNG_ONU_STATE 1; { s0 with slots := [(5 * 256 + 255, { (default : Slot) with vidan := true, vEntry := 256, vSnOk := true, vClean := 1, vArrival := -64 })] }) : State).slotState ((5 : Fin 64)) ((255 : Fin 256)) = 1) ∧ ((((let s0 := (rchan { (default : Pch) with mode := 1, running := true, teqd := 200000 }).p (RNG_ONU 5 255) RNG_ONU_STATE 1; { s0 with slots := [(5 * 256 + 255, { (default : Slot) with vidan := true, vEntry := 256, vSnOk := true, vClean := 1, vArrival := -64 })] }) : State).slot ((5 : Fin 64)) ((255 : Fin 256))).vidan = true) ∧ ((((let s0 := (rchan { (default : Pch) with mode := 1, running := true, teqd := 200000 }).p (RNG_ONU 5 255) RNG_ONU_STATE 1; { s0 with slots := [(5 * 256 + 255, { (default : Slot) with vidan := true, vEntry := 256, vSnOk := true, vClean := 1, vArrival := -64 })] }) : State).slot ((5 : Fin 64)) ((255 : Fin 256))).vSnOk = true) ∧ ((((let s0 := (rchan { (default : Pch) with mode := 1, running := true, teqd := 200000 }).p (RNG_ONU 5 255) RNG_ONU_STATE 1; { s0 with slots := [(5 * 256 + 255, { (default : Slot) with vidan := true, vEntry := 256, vSnOk := true, vClean := 1, vArrival := -64 })] }) : State).slot ((5 : Fin 64)) ((255 : Fin 256))).vClean ≠ 0) ∧ (0 ≤ (((let s0 := (rchan { (default : Pch) with mode := 1, running := true, teqd := 200000 }).p (RNG_ONU 5 255) RNG_ONU_STATE 1; { s0 with slots := [(5 * 256 + 255, { (default : Slot) with vidan := true, vEntry := 256, vSnOk := true, vClean := 1, vArrival := -64 })] }) : State).g (RNG_ONU ((5 : Fin 64)) ((255 : Fin 256))) RNG_ONU_EQD : Int) - bitsOf (((let s0 := (rchan { (default : Pch) with mode := 1, running := true, teqd := 200000 }).p (RNG_ONU 5 255) RNG_ONU_STATE 1; { s0 with slots := [(5 * 256 + 255, { (default : Slot) with vidan := true, vEntry := 256, vSnOk := true, vClean := 1, vArrival := -64 })] }) : State).slot ((5 : Fin 64)) ((255 : Fin 256))).vArrival) := by decide +kernel
theorem wit_VidanDiscovery_vidanFollowupResult_c16 : (((let s0 := (rchan { (default : Pch) with mode := 1, running := true, teqd := 200000 }).p (RNG_ONU 5 255) RNG_ONU_STATE 1; { s0 with slots := [(5 * 256 + 255, { (default : Slot) with vidan := true, vEntry := 256, vSnOk := true })] }) : State).slotState ((5 : Fin 64)) ((255 : Fin 256)) = 1) ∧ ((((let s0 := (rchan { (default : Pch) with mode := 1, running := true, teqd := 200000 }).p (RNG_ONU 5 255) RNG_ONU_STATE 1; { s0 with slots := [(5 * 256 + 255, { (default : Slot) with vidan := true, vEntry := 256, vSnOk := true })] }) : State).slot ((5 : Fin 64)) ((255 : Fin 256))).vidan = true) ∧ ((((let s0 := (rchan { (default : Pch) with mode := 1, running := true, teqd := 200000 }).p (RNG_ONU 5 255) RNG_ONU_STATE 1; { s0 with slots := [(5 * 256 + 255, { (default : Slot) with vidan := true, vEntry := 256, vSnOk := true })] }) : State).slot ((5 : Fin 64)) ((255 : Fin 256))).vSnOk = true) ∧ ((((let s0 := (rchan { (default : Pch) with mode := 1, running := true, teqd := 200000 }).p (RNG_ONU 5 255) RNG_ONU_STATE 1; { s0 with slots := [(5 * 256 + 255, { (default : Slot) with vidan := true, vEntry := 256, vSnOk := true })] }) : State).slot ((5 : Fin 64)) ((255 : Fin 256))).vClean = 0) := by decide +kernel
theorem wit_ReRangingAndDrift_rerangeResult_c0 : (((let s0 := (rchan { (default : Pch) with mode := 2, running := true, teqd := 200000 }).p (RNG_ONU 5 255) RNG_ONU_STATE 3 |>.p (RNG_ONU 5 255) RNG_ONU_EQD 100; { s0 with now := 0 }) : State).slotState ((5 : Fin 64)) ((255 : Fin 256)) = 3) ∧ ((((let s0 := (rchan { (default : Pch) with mode := 2, running := true, teqd := 200000 }).p (RNG_ONU 5 255) RNG_ONU_STATE 3 |>.p (RNG_ONU 5 255) RNG_ONU_EQD 100; { s0 with now := 0 }) : State).slot ((5 : Fin 64)) ((255 : Fin 256))).rerangeUt = false) ∧ (0 ≤ ((((let s0 := (rchan { (default : Pch) with mode := 2, running := true, teqd := 200000 }).p (RNG_ONU 5 255) RNG_ONU_STATE 3 |>.p (RNG_ONU 5 255) RNG_ONU_EQD 100; { s0 with now := 0 }) : State).g (RNG_ONU ((5 : Fin 64)) ((255 : Fin 256))) RNG_ONU_EQD : Int) - bitsOf ((6400 : Int)))) ∧ ((∀ k : Fin 256, (((let s0 := (rchan { (default : Pch) with mode := 2, running := true, teqd := 200000 }).p (RNG_ONU 5 255) RNG_ONU_STATE 3 |>.p (RNG_ONU 5 255) RNG_ONU_EQD 100; { s0 with now := 0 }) : State).slot ((5 : Fin 64)) k).rerangeWait = false)) := by decide +kernel
theorem wit_ReRangingAndDrift_rerangeResult_c1 : (((let s0 := (rchan { (default : Pch) with mode := 2, running := true, teqd := 200000 }).p (RNG_ONU 5 255) RNG_ONU_STATE 3 |>.p (RNG_ONU 5 255) RNG_ONU_EQD 100; { s0 with slots := [(5 * 256 + 255, { (default : Slot) with rerangeTries := 2 })] }) : State).slotState ((5 : Fin 64)) ((255 : Fin 256)) = 3) ∧ ((((let s0 := (rchan { (default : Pch) with mode := 2, running := true, teqd := 200000 }).p (RNG_ONU 5 255) RNG_ONU_STATE 3 |>.p (RNG_ONU 5 255) RNG_ONU_EQD 100; { s0 with slots := [(5 * 256 + 255, { (default : Slot) with rerangeTries := 2 })] }) : State).slot ((5 : Fin 64)) ((255 : Fin 256))).rerangeUt = false) ∧ (2 ≤ (((let s0 := (rchan { (default : Pch) with mode := 2, running := true, teqd := 200000 }).p (RNG_ONU 5 255) RNG_ONU_STATE 3 |>.p (RNG_ONU 5 255) RNG_ONU_EQD 100; { s0 with slots := [(5 * 256 + 255, { (default : Slot) with rerangeTries := 2 })] }) : State).slot ((5 : Fin 64)) ((255 : Fin 256))).rerangeTries) ∧ ((∀ k : Fin 256, (((let s0 := (rchan { (default : Pch) with mode := 2, running := true, teqd := 200000 }).p (RNG_ONU 5 255) RNG_ONU_STATE 3 |>.p (RNG_ONU 5 255) RNG_ONU_EQD 100; { s0 with slots := [(5 * 256 + 255, { (default : Slot) with rerangeTries := 2 })] }) : State).slot ((5 : Fin 64)) k).rerangeWait = false)) := by decide +kernel
theorem wit_ReRangingAndDrift_rerangeResult_c2 : (((let s0 := (rchan { (default : Pch) with mode := 2, running := true, teqd := 200000 }).p (RNG_ONU 5 255) RNG_ONU_STATE 3 |>.p (RNG_ONU 5 255) RNG_ONU_EQD 100; { s0 with slots := [(5 * 256 + 255, { (default : Slot) with rerangeTries := 1 })] }) : State).slotState ((5 : Fin 64)) ((255 : Fin 256)) = 3) ∧ ((((let s0 := (rchan { (default : Pch) with mode := 2, running := true, teqd := 200000 }).p (RNG_ONU 5 255) RNG_ONU_STATE 3 |>.p (RNG_ONU 5 255) RNG_ONU_EQD 100; { s0 with slots := [(5 * 256 + 255, { (default : Slot) with rerangeTries := 1 })] }) : State).slot ((5 : Fin 64)) ((255 : Fin 256))).rerangeTries < 2) := by decide +kernel
theorem wit_ReRangingAndDrift_driftTrackBurst_c3 : (((let s0 := (rchan { (default : Pch) with mode := 2, running := true, teqd := 200000 }).p (RNG_CTL 5) RNG_CTL_TRACK_EN 1 |>.p (RNG_ONU 5 255) RNG_ONU_STATE 2 |>.p (RNG_ONU 5 255) RNG_ONU_EQD 100; { s0 with now := 0 }) : State).on (RNG_CTL ((5 : Fin 64))) RNG_CTL_TRACK_EN = true) ∧ (((let s0 := (rchan { (default : Pch) with mode := 2, running := true, teqd := 200000 }).p (RNG_CTL 5) RNG_CTL_TRACK_EN 1 |>.p (RNG_ONU 5 255) RNG_ONU_STATE 2 |>.p (RNG_ONU 5 255) RNG_ONU_EQD 100; { s0 with now := 0 }) : State).slotState ((5 : Fin 64)) ((255 : Fin 256)) = 2) ∧ ((80) ≤ 80) ∧ (((let s0 := (rchan { (default : Pch) with mode := 2, running := true, teqd := 200000 }).p (RNG_CTL 5) RNG_CTL_TRACK_EN 1 |>.p (RNG_ONU 5 255) RNG_ONU_STATE 2 |>.p (RNG_ONU 5 255) RNG_ONU_EQD 100; { s0 with now := 0 }) : State).on (RNG_ONU ((5 : Fin 64)) ((255 : Fin 256))) RNG_ONU_PENDING = false) ∧ (((1 : Int)).natAbs ≤ 1024) ∧ (((((let s0 := (rchan { (default : Pch) with mode := 2, running := true, teqd := 200000 }).p (RNG_CTL 5) RNG_CTL_TRACK_EN 1 |>.p (RNG_ONU 5 255) RNG_ONU_STATE 2 |>.p (RNG_ONU 5 255) RNG_ONU_EQD 100; { s0 with now := 0 }) : State).slot ((5 : Fin 64)) ((255 : Fin 256))).avg + (((1 : Int)) - (((let s0 := (rchan { (default : Pch) with mode := 2, running := true, teqd := 200000 }).p (RNG_CTL 5) RNG_CTL_TRACK_EN 1 |>.p (RNG_ONU 5 255) RNG_ONU_STATE 2 |>.p (RNG_ONU 5 255) RNG_ONU_EQD 100; { s0 with now := 0 }) : State).slot ((5 : Fin 64)) ((255 : Fin 256))).avg) / ((2 : Nat) ^ (min (((let s0 := (rchan { (default : Pch) with mode := 2, running := true, teqd := 200000 }).p (RNG_CTL 5) RNG_CTL_TRACK_EN 1 |>.p (RNG_ONU 5 255) RNG_ONU_STATE 2 |>.p (RNG_ONU 5 255) RNG_ONU_EQD 100; { s0 with now := 0 }) : State).g (RNG_TRACK ((5 : Fin 64))) RNG_TRACK_SHIFT) 8) : Nat)).natAbs < 64 * (max 1 (min 32 (((let s0 := (rchan { (default : Pch) with mode := 2, running := true, teqd := 200000 }).p (RNG_CTL 5) RNG_CTL_TRACK_EN 1 |>.p (RNG_ONU 5 255) RNG_ONU_STATE 2 |>.p (RNG_ONU 5 255) RNG_ONU_EQD 100; { s0 with now := 0 }) : State).g (RNG_TRACK ((5 : Fin 64))) RNG_TRACK_THRESH)))) ∧ (((((let s0 := (rchan { (default : Pch) with mode := 2, running := true, teqd := 200000 }).p (RNG_CTL 5) RNG_CTL_TRACK_EN 1 |>.p (RNG_ONU 5 255) RNG_ONU_STATE 2 |>.p (RNG_ONU 5 255) RNG_ONU_EQD 100; { s0 with now := 0 }) : State).slot ((5 : Fin 64)) ((255 : Fin 256))).avg + (((1 : Int)) - (((let s0 := (rchan { (default : Pch) with mode := 2, running := true, teqd := 200000 }).p (RNG_CTL 5) RNG_CTL_TRACK_EN 1 |>.p (RNG_ONU 5 255) RNG_ONU_STATE 2 |>.p (RNG_ONU 5 255) RNG_ONU_EQD 100; { s0 with now := 0 }) : State).slot ((5 : Fin 64)) ((255 : Fin 256))).avg) / ((2 : Nat) ^ (min (((let s0 := (rchan { (default : Pch) with mode := 2, running := true, teqd := 200000 }).p (RNG_CTL 5) RNG_CTL_TRACK_EN 1 |>.p (RNG_ONU 5 255) RNG_ONU_STATE 2 |>.p (RNG_ONU 5 255) RNG_ONU_EQD 100; { s0 with now := 0 }) : State).g (RNG_TRACK ((5 : Fin 64))) RNG_TRACK_SHIFT) 8) : Nat)).natAbs ≤ 3072) := by decide +kernel
theorem wit_ReRangingAndDrift_driftTrackBurst_c4 : (((let s0 := (rchan { (default : Pch) with mode := 2, running := true, teqd := 200000 }).p (RNG_CTL 5) RNG_CTL_TRACK_EN 1 |>.p (RNG_ONU 5 255) RNG_ONU_STATE 2 |>.p (RNG_ONU 5 255) RNG_ONU_EQD 100; { s0 with slots := [(5 * 256 + 255, { (default : Slot) with avg := 3000 })] }) : State).on (RNG_CTL ((5 : Fin 64))) RNG_CTL_TRACK_EN = true) ∧ (((let s0 := (rchan { (default : Pch) with mode := 2, running := true, teqd := 200000 }).p (RNG_CTL 5) RNG_CTL_TRACK_EN 1 |>.p (RNG_ONU 5 255) RNG_ONU_STATE 2 |>.p (RNG_ONU 5 255) RNG_ONU_EQD 100; { s0 with slots := [(5 * 256 + 255, { (default : Slot) with avg := 3000 })] }) : State).slotState ((5 : Fin 64)) ((255 : Fin 256)) = 2) ∧ ((80) ≤ 80) ∧ (((let s0 := (rchan { (default : Pch) with mode := 2, running := true, teqd := 200000 }).p (RNG_CTL 5) RNG_CTL_TRACK_EN 1 |>.p (RNG_ONU 5 255) RNG_ONU_STATE 2 |>.p (RNG_ONU 5 255) RNG_ONU_EQD 100; { s0 with slots := [(5 * 256 + 255, { (default : Slot) with avg := 3000 })] }) : State).on (RNG_ONU ((5 : Fin 64)) ((255 : Fin 256))) RNG_ONU_PENDING = false) ∧ (((1024 : Int)).natAbs ≤ 1024) ∧ (64 * (max 1 (min 32 (((let s0 := (rchan { (default : Pch) with mode := 2, running := true, teqd := 200000 }).p (RNG_CTL 5) RNG_CTL_TRACK_EN 1 |>.p (RNG_ONU 5 255) RNG_ONU_STATE 2 |>.p (RNG_ONU 5 255) RNG_ONU_EQD 100; { s0 with slots := [(5 * 256 + 255, { (default : Slot) with avg := 3000 })] }) : State).g (RNG_TRACK ((5 : Fin 64))) RNG_TRACK_THRESH))) ≤ ((((let s0 := (rchan { (default : Pch) with mode := 2, running := true, teqd := 200000 }).p (RNG_CTL 5) RNG_CTL_TRACK_EN 1 |>.p (RNG_ONU 5 255) RNG_ONU_STATE 2 |>.p (RNG_ONU 5 255) RNG_ONU_EQD 100; { s0 with slots := [(5 * 256 + 255, { (default : Slot) with avg := 3000 })] }) : State).slot ((5 : Fin 64)) ((255 : Fin 256))).avg + (((1024 : Int)) - (((let s0 := (rchan { (default : Pch) with mode := 2, running := true, teqd := 200000 }).p (RNG_CTL 5) RNG_CTL_TRACK_EN 1 |>.p (RNG_ONU 5 255) RNG_ONU_STATE 2 |>.p (RNG_ONU 5 255) RNG_ONU_EQD 100; { s0 with slots := [(5 * 256 + 255, { (default : Slot) with avg := 3000 })] }) : State).slot ((5 : Fin 64)) ((255 : Fin 256))).avg) / ((2 : Nat) ^ (min (((let s0 := (rchan { (default : Pch) with mode := 2, running := true, teqd := 200000 }).p (RNG_CTL 5) RNG_CTL_TRACK_EN 1 |>.p (RNG_ONU 5 255) RNG_ONU_STATE 2 |>.p (RNG_ONU 5 255) RNG_ONU_EQD 100; { s0 with slots := [(5 * 256 + 255, { (default : Slot) with avg := 3000 })] }) : State).g (RNG_TRACK ((5 : Fin 64))) RNG_TRACK_SHIFT) 8) : Nat)).natAbs) ∧ (((((let s0 := (rchan { (default : Pch) with mode := 2, running := true, teqd := 200000 }).p (RNG_CTL 5) RNG_CTL_TRACK_EN 1 |>.p (RNG_ONU 5 255) RNG_ONU_STATE 2 |>.p (RNG_ONU 5 255) RNG_ONU_EQD 100; { s0 with slots := [(5 * 256 + 255, { (default : Slot) with avg := 3000 })] }) : State).slot ((5 : Fin 64)) ((255 : Fin 256))).avg + (((1024 : Int)) - (((let s0 := (rchan { (default : Pch) with mode := 2, running := true, teqd := 200000 }).p (RNG_CTL 5) RNG_CTL_TRACK_EN 1 |>.p (RNG_ONU 5 255) RNG_ONU_STATE 2 |>.p (RNG_ONU 5 255) RNG_ONU_EQD 100; { s0 with slots := [(5 * 256 + 255, { (default : Slot) with avg := 3000 })] }) : State).slot ((5 : Fin 64)) ((255 : Fin 256))).avg) / ((2 : Nat) ^ (min (((let s0 := (rchan { (default : Pch) with mode := 2, running := true, teqd := 200000 }).p (RNG_CTL 5) RNG_CTL_TRACK_EN 1 |>.p (RNG_ONU 5 255) RNG_ONU_STATE 2 |>.p (RNG_ONU 5 255) RNG_ONU_EQD 100; { s0 with slots := [(5 * 256 + 255, { (default : Slot) with avg := 3000 })] }) : State).g (RNG_TRACK ((5 : Fin 64))) RNG_TRACK_SHIFT) 8) : Nat)).natAbs ≤ 3072) := by decide +kernel
theorem wit_ReRangingAndDrift_driftTrackBurst_c5 : (((let s0 := (rchan { (default : Pch) with mode := 2, running := true, teqd := 200000 }).p (RNG_CTL 5) RNG_CTL_TRACK_EN 1 |>.p (RNG_ONU 5 255) RNG_ONU_STATE 2 |>.p (RNG_ONU 5 255) RNG_ONU_EQD 100 |>.p (RNG_ONU 5 255) RNG_ONU_PENDING 1; { s0 with slots := [(5 * 256 + 255, { (default : Slot) with avg := 128, corr := 1 })] }) : State).on (RNG_CTL ((5 : Fin 64))) RNG_CTL_TRACK_EN = true) ∧ (((let s0 := (rchan { (default : Pch) with mode := 2, running := true, teqd := 200000 }).p (RNG_CTL 5) RNG_CTL_TRACK_EN 1 |>.p (RNG_ONU 5 255) RNG_ONU_STATE 2 |>.p (RNG_ONU 5 255) RNG_ONU_EQD 100 |>.p (RNG_ONU 5 255) RNG_ONU_PENDING 1; { s0 with slots := [(5 * 256 + 255, { (default : Slot) with avg := 128, corr := 1 })] }) : State).slotState ((5 : Fin 64)) ((255 : Fin 256)) = 2) ∧ ((80) ≤ 80) ∧ (((let s0 := (rchan { (default : Pch) with mode := 2, running := true, teqd := 200000 }).p (RNG_CTL 5) RNG_CTL_TRACK_EN 1 |>.p (RNG_ONU 5 255) RNG_ONU_STATE 2 |>.p (RNG_ONU 5 255) RNG_ONU_EQD 100 |>.p (RNG_ONU 5 255) RNG_ONU_PENDING 1; { s0 with slots := [(5 * 256 + 255, { (default : Slot) with avg := 128, corr := 1 })] }) : State).on (RNG_ONU ((5 : Fin 64)) ((255 : Fin 256))) RNG_ONU_PENDING = true) ∧ ((((128 : Int)) - ((((let s0 := (rchan { (default : Pch) with mode := 2, running := true, teqd := 200000 }).p (RNG_CTL 5) RNG_CTL_TRACK_EN 1 |>.p (RNG_ONU 5 255) RNG_ONU_STATE 2 |>.p (RNG_ONU 5 255) RNG_ONU_EQD 100 |>.p (RNG_ONU 5 255) RNG_ONU_PENDING 1; { s0 with slots := [(5 * 256 + 255, { (default : Slot) with avg := 128, corr := 1 })] }) : State).slot ((5 : Fin 64)) ((255 : Fin 256))).avg - 64 * (((let s0 := (rchan { (default : Pch) with mode := 2, running := true, teqd := 200000 }).p (RNG_CTL 5) RNG_CTL_TRACK_EN 1 |>.p (RNG_ONU 5 255) RNG_ONU_STATE 2 |>.p (RNG_ONU 5 255) RNG_ONU_EQD 100 |>.p (RNG_ONU 5 255) RNG_ONU_PENDING 1; { s0 with slots := [(5 * 256 + 255, { (default : Slot) with avg := 128, corr := 1 })] }) : State).slot ((5 : Fin 64)) ((255 : Fin 256))).corr)).natAbs ≤ 64) ∧ ((((let s0 := (rchan { (default : Pch) with mode := 2, running := true, teqd := 200000 }).p (RNG_CTL 5) RNG_CTL_TRACK_EN 1 |>.p (RNG_ONU 5 255) RNG_ONU_STATE 2 |>.p (RNG_ONU 5 255) RNG_ONU_EQD 100 |>.p (RNG_ONU 5 255) RNG_ONU_PENDING 1; { s0 with slots := [(5 * 256 + 255, { (default : Slot) with avg := 128, corr := 1 })] }) : State).slot ((5 : Fin 64)) ((255 : Fin 256))).step = false) := by decide +kernel
theorem wit_ReRangingAndDrift_driftPendTimeout : (((let s0 := (rchan { (default : Pch) with mode := 2, running := true, teqd := 200000 }).p (RNG_CTL 5) RNG_CTL_TRACK_EN 1 |>.p (RNG_ONU 5 255) RNG_ONU_STATE 2 |>.p (RNG_ONU 5 255) RNG_ONU_EQD 100 |>.p (RNG_ONU 5 255) RNG_ONU_PENDING 1 |>.wr64 (DSF_SFC 5) 0x100000000; { s0 with slots := [(5 * 256 + 255, { (default : Slot) with resend := 2 })] }) : State).on (RNG_ONU ((5 : Fin 64)) ((255 : Fin 256))) RNG_ONU_PENDING = true) ∧ (((let s0 := (rchan { (default : Pch) with mode := 2, running := true, teqd := 200000 }).p (RNG_CTL 5) RNG_CTL_TRACK_EN 1 |>.p (RNG_ONU 5 255) RNG_ONU_STATE 2 |>.p (RNG_ONU 5 255) RNG_ONU_EQD 100 |>.p (RNG_ONU 5 255) RNG_ONU_PENDING 1 |>.wr64 (DSF_SFC 5) 0x100000000; { s0 with slots := [(5 * 256 + 255, { (default : Slot) with resend := 2 })] }) : State).slotState ((5 : Fin 64)) ((255 : Fin 256)) = 2) ∧ (((let s0 := (rchan { (default : Pch) with mode := 2, running := true, teqd := 200000 }).p (RNG_CTL 5) RNG_CTL_TRACK_EN 1 |>.p (RNG_ONU 5 255) RNG_ONU_STATE 2 |>.p (RNG_ONU 5 255) RNG_ONU_EQD 100 |>.p (RNG_ONU 5 255) RNG_ONU_PENDING 1 |>.wr64 (DSF_SFC 5) 0x100000000; { s0 with slots := [(5 * 256 + 255, { (default : Slot) with resend := 2 })] }) : State).pendLate ((5 : Fin 64)) ((255 : Fin 256)) = true) ∧ ((((let s0 := (rchan { (default : Pch) with mode := 2, running := true, teqd := 200000 }).p (RNG_CTL 5) RNG_CTL_TRACK_EN 1 |>.p (RNG_ONU 5 255) RNG_ONU_STATE 2 |>.p (RNG_ONU 5 255) RNG_ONU_EQD 100 |>.p (RNG_ONU 5 255) RNG_ONU_PENDING 1 |>.wr64 (DSF_SFC 5) 0x100000000; { s0 with slots := [(5 * 256 + 255, { (default : Slot) with resend := 2 })] }) : State).slot ((5 : Fin 64)) ((255 : Fin 256))).resend < 3) ∧ ((((let s0 := (rchan { (default : Pch) with mode := 2, running := true, teqd := 200000 }).p (RNG_CTL 5) RNG_CTL_TRACK_EN 1 |>.p (RNG_ONU 5 255) RNG_ONU_STATE 2 |>.p (RNG_ONU 5 255) RNG_ONU_EQD 100 |>.p (RNG_ONU 5 255) RNG_ONU_PENDING 1 |>.wr64 (DSF_SFC 5) 0x100000000; { s0 with slots := [(5 * 256 + 255, { (default : Slot) with resend := 2 })] }) : State).pch.look ((5 : Fin 64))).ploamQ.length < 64) := by decide +kernel
theorem wit_ReRangingAndDrift_profileRestore : (((let s0 := (rchan { (default : Pch) with mode := 2, running := true, teqd := 200000 }).p (RNG_CTL 5) RNG_CTL_TRACK_EN 1 |>.p (RNG_ONU 5 255) RNG_ONU_STATE 2 |>.p (RNG_ONU 5 255) RNG_ONU_EQD 100; { s0 with slots := [(5 * 256 + 255, { (default : Slot) with clean := 2 })] }) : State).slotState ((5 : Fin 64)) ((255 : Fin 256)) = 2) ∧ (2 ≤ (((let s0 := (rchan { (default : Pch) with mode := 2, running := true, teqd := 200000 }).p (RNG_CTL 5) RNG_CTL_TRACK_EN 1 |>.p (RNG_ONU 5 255) RNG_ONU_STATE 2 |>.p (RNG_ONU 5 255) RNG_ONU_EQD 100; { s0 with slots := [(5 * 256 + 255, { (default : Slot) with clean := 2 })] }) : State).slot ((5 : Fin 64)) ((255 : Fin 256))).clean) ∧ (((let s0 := (rchan { (default : Pch) with mode := 2, running := true, teqd := 200000 }).p (RNG_CTL 5) RNG_CTL_TRACK_EN 1 |>.p (RNG_ONU 5 255) RNG_ONU_STATE 2 |>.p (RNG_ONU 5 255) RNG_ONU_EQD 100; { s0 with slots := [(5 * 256 + 255, { (default : Slot) with clean := 2 })] }) : State).on (PCH_EQ ((5 : Fin 64)) ((255 : Fin 256))) PCH_EQ_STALE = false) ∧ (((let s0 := (rchan { (default : Pch) with mode := 2, running := true, teqd := 200000 }).p (RNG_CTL 5) RNG_CTL_TRACK_EN 1 |>.p (RNG_ONU 5 255) RNG_ONU_STATE 2 |>.p (RNG_ONU 5 255) RNG_ONU_EQD 100; { s0 with slots := [(5 * 256 + 255, { (default : Slot) with clean := 2 })] }) : State).on (PCH_BRX_CTL ((5 : Fin 64))) PCH_BRX_CTL_EQ_MEM_EN = true) := by decide +kernel
theorem wit_ReRangingAndDrift_lostHoldExpiry : (((let s0 := (rchan { (default : Pch) with mode := 2, running := true, teqd := 200000 }).p (RNG_ONU 5 255) RNG_ONU_STATE 4; { s0 with now := 0 }) : State).slotState ((5 : Fin 64)) ((255 : Fin 256)) = 4) ∧ ((((let s0 := (rchan { (default : Pch) with mode := 2, running := true, teqd := 200000 }).p (RNG_ONU 5 255) RNG_ONU_STATE 4; { s0 with now := 0 }) : State).pch.look ((5 : Fin 64))).ploamQ.length ≤ 61) := by decide +kernel
theorem wit_ReRangingAndDrift_driftPersistTimeout : (((let s0 := (rchan { (default : Pch) with mode := 2, running := true, teqd := 200000 }).p (RNG_CTL 5) RNG_CTL_TRACK_EN 1 |>.p (RNG_ONU 5 255) RNG_ONU_STATE 2 |>.p (RNG_ONU 5 255) RNG_ONU_EQD 100 |>.p (PCH_ONU_DEF 5 255) PCH_ONU_DEF_DRIFT_LIVE 1; { s0 with now := 0 }) : State).on (PCH_ONU_DEF ((5 : Fin 64)) ((255 : Fin 256))) PCH_ONU_DEF_DRIFT_LIVE = true) ∧ (((let s0 := (rchan { (default : Pch) with mode := 2, running := true, teqd := 200000 }).p (RNG_CTL 5) RNG_CTL_TRACK_EN 1 |>.p (RNG_ONU 5 255) RNG_ONU_STATE 2 |>.p (RNG_ONU 5 255) RNG_ONU_EQD 100 |>.p (PCH_ONU_DEF 5 255) PCH_ONU_DEF_DRIFT_LIVE 1; { s0 with now := 0 }) : State).slotState ((5 : Fin 64)) ((255 : Fin 256)) = 2) := by decide +kernel
theorem wit_RogueLocate_rogueLocateStart_c0 : (((let s0 := (rchan { (default : Pch) with mode := 2, running := true, teqd := 200000 }).p (RNG_CTL 5) RNG_CTL_ROGUE_AUTO 1 |>.wr (PCH_BRX_DEF_CTL 5) 0; { s0 with rng := [(5, { (default : Rng) with oowAt := [0] })] }) : State).on (RNG_CTL ((5 : Fin 64))) RNG_CTL_ROGUE_AUTO = true) ∧ (((let s0 := (rchan { (default : Pch) with mode := 2, running := true, teqd := 200000 }).p (RNG_CTL 5) RNG_CTL_ROGUE_AUTO 1 |>.wr (PCH_BRX_DEF_CTL 5) 0; { s0 with rng := [(5, { (default : Rng) with oowAt := [0] })] }) : State).on (RNG_STATUS ((5 : Fin 64))) RNG_STATUS_LOCATING = false) ∧ ((((let s0 := (rchan { (default : Pch) with mode := 2, running := true, teqd := 200000 }).p (RNG_CTL 5) RNG_CTL_ROGUE_AUTO 1 |>.wr (PCH_BRX_DEF_CTL 5) 0; { s0 with rng := [(5, { (default : Rng) with oowAt := [0] })] }) : State).rng.look ((5 : Fin 64))).qwBooked = false) ∧ (max (((let s0 := (rchan { (default : Pch) with mode := 2, running := true, teqd := 200000 }).p (RNG_CTL 5) RNG_CTL_ROGUE_AUTO 1 |>.wr (PCH_BRX_DEF_CTL 5) 0; { s0 with rng := [(5, { (default : Rng) with oowAt := [0] })] }) : State).g (PCH_BRX_DEF_CTL ((5 : Fin 64))) PCH_BRX_DEF_CTL_ROGUE_SET) 1 ≤ ((((let s0 := (rchan { (default : Pch) with mode := 2, running := true, teqd := 200000 }).p (RNG_CTL 5) RNG_CTL_ROGUE_AUTO 1 |>.wr (PCH_BRX_DEF_CTL 5) 0; { s0 with rng := [(5, { (default : Rng) with oowAt := [0] })] }) : State).rng.look ((5 : Fin 64))).oowAt.filter (fun x => decide (((let s0 := (rchan { (default : Pch) with mode := 2, running := true, teqd := 200000 }).p (RNG_CTL 5) RNG_CTL_ROGUE_AUTO 1 |>.wr (PCH_BRX_DEF_CTL 5) 0; { s0 with rng := [(5, { (default : Rng) with oowAt := [0] })] }) : State).now - x < 1000000000))).length) ∧ (((List.range 256).filter (fun i => decide (((let s0 := (rchan { (default : Pch) with mode := 2, running := true, teqd := 200000 }).p (RNG_CTL 5) RNG_CTL_ROGUE_AUTO 1 |>.wr (PCH_BRX_DEF_CTL 5) 0; { s0 with rng := [(5, { (default : Rng) with oowAt := [0] })] }) : State).slotState ((5 : Fin 64)) i = 2))) = []) ∧ ((((let s0 := (rchan { (default : Pch) with mode := 2, running := true, teqd := 200000 }).p (RNG_CTL 5) RNG_CTL_ROGUE_AUTO 1 |>.wr (PCH_BRX_DEF_CTL 5) 0; { s0 with rng := [(5, { (default : Rng) with oowAt := [0] })] }) : State).rng.look ((5 : Fin 64))).qwDue = false) := by decide +kernel
theorem wit_RogueLocate_rogueLocateStart_c1 : (((let s0 := (rchan { (default : Pch) with mode := 2, running := true, teqd := 200000 }).p (RNG_CTL 5) RNG_CTL_ROGUE_AUTO 1 |>.wr (PCH_BRX_DEF_CTL 5) 0 |>.p (RNG_ONU 5 0) RNG_ONU_STATE 2 |>.p (RNG_ONU 5 255) RNG_ONU_STATE 2; { s0 with rng := [(5, { (default : Rng) with oowAt := [0] })] }) : State).on (RNG_CTL ((5 : Fin 64))) RNG_CTL_ROGUE_AUTO = true) ∧ (((let s0 := (rchan { (default : Pch) with mode := 2, running := true, teqd := 200000 }).p (RNG_CTL 5) RNG_CTL_ROGUE_AUTO 1 |>.wr (PCH_BRX_DEF_CTL 5) 0 |>.p (RNG_ONU 5 0) RNG_ONU_STATE 2 |>.p (RNG_ONU 5 255) RNG_ONU_STATE 2; { s0 with rng := [(5, { (default : Rng) with oowAt := [0] })] }) : State).on (RNG_STATUS ((5 : Fin 64))) RNG_STATUS_LOCATING = false) ∧ ((((let s0 := (rchan { (default : Pch) with mode := 2, running := true, teqd := 200000 }).p (RNG_CTL 5) RNG_CTL_ROGUE_AUTO 1 |>.wr (PCH_BRX_DEF_CTL 5) 0 |>.p (RNG_ONU 5 0) RNG_ONU_STATE 2 |>.p (RNG_ONU 5 255) RNG_ONU_STATE 2; { s0 with rng := [(5, { (default : Rng) with oowAt := [0] })] }) : State).rng.look ((5 : Fin 64))).qwBooked = false) ∧ (max (((let s0 := (rchan { (default : Pch) with mode := 2, running := true, teqd := 200000 }).p (RNG_CTL 5) RNG_CTL_ROGUE_AUTO 1 |>.wr (PCH_BRX_DEF_CTL 5) 0 |>.p (RNG_ONU 5 0) RNG_ONU_STATE 2 |>.p (RNG_ONU 5 255) RNG_ONU_STATE 2; { s0 with rng := [(5, { (default : Rng) with oowAt := [0] })] }) : State).g (PCH_BRX_DEF_CTL ((5 : Fin 64))) PCH_BRX_DEF_CTL_ROGUE_SET) 1 ≤ ((((let s0 := (rchan { (default : Pch) with mode := 2, running := true, teqd := 200000 }).p (RNG_CTL 5) RNG_CTL_ROGUE_AUTO 1 |>.wr (PCH_BRX_DEF_CTL 5) 0 |>.p (RNG_ONU 5 0) RNG_ONU_STATE 2 |>.p (RNG_ONU 5 255) RNG_ONU_STATE 2; { s0 with rng := [(5, { (default : Rng) with oowAt := [0] })] }) : State).rng.look ((5 : Fin 64))).oowAt.filter (fun x => decide (((let s0 := (rchan { (default : Pch) with mode := 2, running := true, teqd := 200000 }).p (RNG_CTL 5) RNG_CTL_ROGUE_AUTO 1 |>.wr (PCH_BRX_DEF_CTL 5) 0 |>.p (RNG_ONU 5 0) RNG_ONU_STATE 2 |>.p (RNG_ONU 5 255) RNG_ONU_STATE 2; { s0 with rng := [(5, { (default : Rng) with oowAt := [0] })] }) : State).now - x < 1000000000))).length) ∧ (((List.range 256).filter (fun i => decide (((let s0 := (rchan { (default : Pch) with mode := 2, running := true, teqd := 200000 }).p (RNG_CTL 5) RNG_CTL_ROGUE_AUTO 1 |>.wr (PCH_BRX_DEF_CTL 5) 0 |>.p (RNG_ONU 5 0) RNG_ONU_STATE 2 |>.p (RNG_ONU 5 255) RNG_ONU_STATE 2; { s0 with rng := [(5, { (default : Rng) with oowAt := [0] })] }) : State).slotState ((5 : Fin 64)) i = 2))) ≠ []) := by decide +kernel
theorem wit_RogueLocate_rogueProbeEnd_c2 : (((let s0 := (rchan { (default : Pch) with mode := 2, running := true, teqd := 200000 }).p (RNG_STATUS 5) RNG_STATUS_LOCATING 1 |>.p (RNG_ONU 5 255) RNG_ONU_STATE 2; { s0 with rng := [(5, { (default : Rng) with suspects := [255], confirming := true })] }) : State).on (RNG_STATUS ((5 : Fin 64))) RNG_STATUS_LOCATING = true) ∧ ((((let s0 := (rchan { (default : Pch) with mode := 2, running := true, teqd := 200000 }).p (RNG_STATUS 5) RNG_STATUS_LOCATING 1 |>.p (RNG_ONU 5 255) RNG_ONU_STATE 2; { s0 with rng := [(5, { (default : Rng) with suspects := [255], confirming := true })] }) : State).rng.look ((5 : Fin 64))).confirming = true) ∧ ((((let s0 := (rchan { (default : Pch) with mode := 2, running := true, teqd := 200000 }).p (RNG_STATUS 5) RNG_STATUS_LOCATING 1 |>.p (RNG_ONU 5 255) RNG_ONU_STATE 2; { s0 with rng := [(5, { (default : Rng) with suspects := [255], confirming := true })] }) : State).rng.look ((5 : Fin 64))).suspects = [(255)]) ∧ ((255) < 256) ∧ ((((let s0 := (rchan { (default : Pch) with mode := 2, running := true, teqd := 200000 }).p (RNG_STATUS 5) RNG_STATUS_LOCATING 1 |>.p (RNG_ONU 5 255) RNG_ONU_STATE 2; { s0 with rng := [(5, { (default : Rng) with suspects := [255], confirming := true })] }) : State).rng.look ((5 : Fin 64))).probeEnergy = false) ∧ ((((let s0 := (rchan { (default : Pch) with mode := 2, running := true, teqd := 200000 }).p (RNG_STATUS 5) RNG_STATUS_LOCATING 1 |>.p (RNG_ONU 5 255) RNG_ONU_STATE 2; { s0 with rng := [(5, { (default : Rng) with suspects := [255], confirming := true })] }) : State).rng.look ((5 : Fin 64))).qwDue = false) := by decide +kernel
theorem wit_RogueLocate_rogueProbeEnd_c3 : (((let s0 := (rchan { (default : Pch) with mode := 2, running := true, teqd := 200000 }).p (RNG_STATUS 5) RNG_STATUS_LOCATING 1 |>.p (RNG_ONU 5 255) RNG_ONU_STATE 2; { s0 with rng := [(5, { (default : Rng) with suspects := [3, 255], probing := [3] })] }) : State).on (RNG_STATUS ((5 : Fin 64))) RNG_STATUS_LOCATING = true) ∧ ((((let s0 := (rchan { (default : Pch) with mode := 2, running := true, teqd := 200000 }).p (RNG_STATUS 5) RNG_STATUS_LOCATING 1 |>.p (RNG_ONU 5 255) RNG_ONU_STATE 2; { s0 with rng := [(5, { (default : Rng) with suspects := [3, 255], probing := [3] })] }) : State).rng.look ((5 : Fin 64))).confirming = false) := by decide +kernel
theorem wit_RogueLocate_rogueProbeEnd_c3_w1 : (((let s0 := (rchan { (default : Pch) with mode := 2, running := true, teqd := 200000 }).p (RNG_STATUS 5) RNG_STATUS_LOCATING 1 |>.p (RNG_ONU 5 255) RNG_ONU_STATE 2; { s0 with rng := [(5, { (default : Rng) with suspects := [3, 255], probing := [3], probeEnergy := true })] }) : State).on (RNG_STATUS ((5 : Fin 64))) RNG_STATUS_LOCATING = true) ∧ ((((let s0 := (rchan { (default : Pch) with mode := 2, running := true, teqd := 200000 }).p (RNG_STATUS 5) RNG_STATUS_LOCATING 1 |>.p (RNG_ONU 5 255) RNG_ONU_STATE 2; { s0 with rng := [(5, { (default : Rng) with suspects := [3, 255], probing := [3], probeEnergy := true })] }) : State).rng.look ((5 : Fin 64))).confirming = false) := by decide +kernel
theorem wit_AllocationAndLedgerWrites_allocWrite_c0 : ((awake [101] : State).reaches (Agent.hpa) (SHD_ALLOC ((5 : Fin 64)) ((511 : Fin 512)) + 4 * ((1 : Fin 4)).val) = true) ∧ ((((awake [101] : State).pch.look ((5 : Fin 64))).protHeld && decide (agCode (Agent.hpa) ≤ 1)) = false) ∧ ((awake [101] : State).allocCheck ((5 : Fin 64)) ((511 : Fin 512)) (fun k => ((awake [101] : State).wrRW (SHD_ALLOC ((5 : Fin 64)) ((511 : Fin 512)) + 4 * ((1 : Fin 4)).val) (0xFFFFFFFF#32)).rd (SHD_ALLOC ((5 : Fin 64)) ((511 : Fin 512)) + 4 * k)) = 0) := by decide +kernel
theorem wit_AllocationAndLedgerWrites_allocWrite_c1 : (((awake [101]).p (SHD_ALLOC 5 300) SHD_ALLOC_RF 8 : State).reaches (Agent.hpa) (SHD_ALLOC ((5 : Fin 64)) ((300 : Fin 512)) + 4 * ((0 : Fin 4)).val) = true) ∧ (((((awake [101]).p (SHD_ALLOC 5 300) SHD_ALLOC_RF 8 : State).pch.look ((5 : Fin 64))).protHeld && decide (agCode (Agent.hpa) ≤ 1)) = false) ∧ (((awake [101]).p (SHD_ALLOC 5 300) SHD_ALLOC_RF 8 : State).allocCheck ((5 : Fin 64)) ((300 : Fin 512)) (fun k => (((awake [101]).p (SHD_ALLOC 5 300) SHD_ALLOC_RF 8 : State).wrRW (SHD_ALLOC ((5 : Fin 64)) ((300 : Fin 512)) + 4 * ((0 : Fin 4)).val) (0xA0000800#32)).rd (SHD_ALLOC ((5 : Fin 64)) ((300 : Fin 512)) + 4 * k)) ≠ 0) := by decide +kernel
theorem wit_AllocationAndLedgerWrites_allocWrite_c2 : (({ awake [101, 13] with pch := [(5, { (default : Pch) with protHeld := true })] } : State).reaches (Agent.hpb) (SHD_ALLOC ((5 : Fin 64)) ((3 : Fin 512)) + 4 * ((0 : Fin 4)).val) = true) ∧ (((({ awake [101, 13] with pch := [(5, { (default : Pch) with protHeld := true })] } : State).pch.look ((5 : Fin 64))).protHeld && decide (agCode (Agent.hpb) ≤ 1)) = true) := by decide +kernel
theorem wit_AllocationAndLedgerWrites_ledgerCtlWrite_c3 : ((awake [101] : State).reaches (Agent.hpa) (SHD_LEDGER_CTL ((5 : Fin 64))) = true) ∧ ((((awake [101] : State).pch.look ((5 : Fin 64))).protHeld && decide (agCode (Agent.hpa) ≤ 1)) = false) ∧ (((List.range 64).map (fun k => ((awake [101] : State).wrRW (SHD_LEDGER_CTL ((5 : Fin 64))) (0#32)).g (SHD_LEDGER_CTL k) SHD_LEDGER_CTL_RESERVE)).sum ≤ 4096) := by decide +kernel
theorem wit_AllocationAndLedgerWrites_ledgerCtlWrite_c4 : ((awake [101] : State).reaches (Agent.hpa) (SHD_LEDGER_CTL ((5 : Fin 64))) = true) ∧ ((((awake [101] : State).pch.look ((5 : Fin 64))).protHeld && decide (agCode (Agent.hpa) ≤ 1)) = false) ∧ (4096 < ((List.range 64).map (fun k => ((awake [101] : State).wrRW (SHD_LEDGER_CTL ((5 : Fin 64))) (0xFFFFFFFF#32)).g (SHD_LEDGER_CTL k) SHD_LEDGER_CTL_RESERVE)).sum) := by decide +kernel
theorem wit_LedgerEntriesClose_ledgerClose_c0 : (((((awake [101] : State).ledger.look ((4095 : Fin 4096))).state = 0 ∧ (awake [101] : State).cyc.forced.look ((4095 : Fin 4096)) = false) ∨ ((awake [101] : State).ledger.look ((4095 : Fin 4096))).channel ≠ ((5 : Fin 64)) ∨ ((awake [101] : State).ledger.look ((4095 : Fin 4096))).frame % 2 ^ 18 ≠ ((0 : Fin 262144)))) := by decide +kernel
theorem wit_LedgerEntriesClose_ledgerClose_c1 : ((({ awake [101, 14] with ledger := [(4095, { (default : LEntry) with state := 1, outcome := 0, channel := 5, frame := 262145 })] } : State).ledger.look ((4095 : Fin 4096))).state = 1) ∧ ((({ awake [101, 14] with ledger := [(4095, { (default : LEntry) with state := 1, outcome := 0, channel := 5, frame := 262145 })] } : State).ledger.look ((4095 : Fin 4096))).channel = ((5 : Fin 64))) ∧ ((({ awake [101, 14] with ledger := [(4095, { (default : LEntry) with state := 1, outcome := 0, channel := 5, frame := 262145 })] } : State).ledger.look ((4095 : Fin 4096))).frame % 2 ^ 18 = ((1 : Fin 262144))) := by decide +kernel
theorem wit_LedgerEntriesClose_ledgerClose_c2 : ((({ awake [101, 14] with ledger := [(4095, { (default : LEntry) with state := 2, outcome := 0, channel := 5, frame := 262145 })] } : State).ledger.look ((4095 : Fin 4096))).state = 2) ∧ ((({ awake [101, 14] with ledger := [(4095, { (default : LEntry) with state := 2, outcome := 0, channel := 5, frame := 262145 })] } : State).ledger.look ((4095 : Fin 4096))).channel = ((5 : Fin 64))) ∧ ((({ awake [101, 14] with ledger := [(4095, { (default : LEntry) with state := 2, outcome := 0, channel := 5, frame := 262145 })] } : State).ledger.look ((4095 : Fin 4096))).frame % 2 ^ 18 = ((1 : Fin 262144))) := by decide +kernel
theorem wit_LedgerEntriesClose_ledgerClose_c2_w1 : ((({ awake [101, 14] with ledger := [(4095, { (default : LEntry) with state := 2, outcome := 3, channel := 5, frame := 262145 })] } : State).ledger.look ((4095 : Fin 4096))).state = 2) ∧ ((({ awake [101, 14] with ledger := [(4095, { (default : LEntry) with state := 2, outcome := 3, channel := 5, frame := 262145 })] } : State).ledger.look ((4095 : Fin 4096))).channel = ((5 : Fin 64))) ∧ ((({ awake [101, 14] with ledger := [(4095, { (default : LEntry) with state := 2, outcome := 3, channel := 5, frame := 262145 })] } : State).ledger.look ((4095 : Fin 4096))).frame % 2 ^ 18 = ((1 : Fin 262144))) := by decide +kernel
theorem wit_LedgerEntriesClose_ledgerClose_c3 : ((({ { awake [101, 14] with ledger := [(4095, { (default : LEntry) with state := 0, outcome := 0, channel := 5, frame := 262145 })] } with cyc := { ({ awake [101, 14] with ledger := [(4095, { (default : LEntry) with state := 0, outcome := 0, channel := 5, frame := 262145 })] } : State).cyc with forced := [(4095, true)] } } : State).ledger.look ((4095 : Fin 4096))).state = 0) ∧ (({ { awake [101, 14] with ledger := [(4095, { (default : LEntry) with state := 0, outcome := 0, channel := 5, frame := 262145 })] } with cyc := { ({ awake [101, 14] with ledger := [(4095, { (default : LEntry) with state := 0, outcome := 0, channel := 5, frame := 262145 })] } : State).cyc with forced := [(4095, true)] } } : State).cyc.forced.look ((4095 : Fin 4096)) = true) ∧ ((({ { awake [101, 14] with ledger := [(4095, { (default : LEntry) with state := 0, outcome := 0, channel := 5, frame := 262145 })] } with cyc := { ({ awake [101, 14] with ledger := [(4095, { (default : LEntry) with state := 0, outcome := 0, channel := 5, frame := 262145 })] } : State).cyc with forced := [(4095, true)] } } : State).ledger.look ((4095 : Fin 4096))).channel = ((5 : Fin 64))) ∧ ((({ { awake [101, 14] with ledger := [(4095, { (default : LEntry) with state := 0, outcome := 0, channel := 5, frame := 262145 })] } with cyc := { ({ awake [101, 14] with ledger := [(4095, { (default : LEntry) with state := 0, outcome := 0, channel := 5, frame := 262145 })] } : State).cyc with forced := [(4095, true)] } } : State).ledger.look ((4095 : Fin 4096))).frame % 2 ^ 18 = ((1 : Fin 262144))) := by decide +kernel
theorem wit_LedgerEntriesClose_ledgerForcedClose_c4 : ((({ awake [101, 14] with ledger := [(4095, { (default : LEntry) with state := 2, outcome := 0, channel := 5, frame := 262145 })] } : State).ledger.look ((4095 : Fin 4096))).state = 2) ∧ ((({ awake [101, 14] with ledger := [(4095, { (default : LEntry) with state := 2, outcome := 0, channel := 5, frame := 262145 })] } : State).ledger.look ((4095 : Fin 4096))).channel < 64) ∧ ((({ awake [101, 14] with ledger := [(4095, { (default : LEntry) with state := 2, outcome := 0, channel := 5, frame := 262145 })] } : State).ledger.look ((4095 : Fin 4096))).deadline ≤ ({ awake [101, 14] with ledger := [(4095, { (default : LEntry) with state := 2, outcome := 0, channel := 5, frame := 262145 })] } : State).now) := by decide +kernel
theorem wit_LedgerEntriesClose_ledgerForcedClose_c5 : (((({ awake [101, 14] with ledger := [(4095, { (default : LEntry) with state := 1, outcome := 0, channel := 5, frame := 262145 })] } : State).ledger.look ((4095 : Fin 4096))).state ≠ 2 ∨ ({ awake [101, 14] with ledger := [(4095, { (default : LEntry) with state := 1, outcome := 0, channel := 5, frame := 262145 })] } : State).now < (({ awake [101, 14] with ledger := [(4095, { (default : LEntry) with state := 1, outcome := 0, channel := 5, frame := 262145 })] } : State).ledger.look ((4095 : Fin 4096))).deadline)) := by decide +kernel
theorem wit_TheShedReadsAndSweeps_shedInputEntry_c0 : (({ awake [101] with shd := [(5, { (default : Shd) with inq := [⟨0, 0, 0, 0⟩, default] })] } : State).sliceHere ((5 : Fin 64)) = none) ∧ ((({ awake [101] with shd := [(5, { (default : Shd) with inq := [⟨0, 0, 0, 0⟩, default] })] } : State).shd.look ((5 : Fin 64))).inq = ((⟨0, 0, 0, 0⟩ : InEntry)) :: (([default] : List InEntry))) ∧ (bget ((⟨0, 0, 0, 0⟩ : InEntry)).w0 16 1 = 0) ∧ ((({ awake [101] with shd := [(5, { (default : Shd) with inq := [⟨0, 0, 0, 0⟩, default] })] } : State).on (SHD_ALLOC ((5 : Fin 64)) (bget ((⟨0, 0, 0, 0⟩ : InEntry)).w0 17 9)) SHD_ALLOC_VALID = false ∨ ({ awake [101] with shd := [(5, { (default : Shd) with inq := [⟨0, 0, 0, 0⟩, default] })] } : State).g (SHD_ALLOC ((5 : Fin 64)) (bget ((⟨0, 0, 0, 0⟩ : InEntry)).w0 17 9)) SHD_ALLOC_ALLOC_ID ≠ bget ((⟨0, 0, 0, 0⟩ : InEntry)).w0 0 14)) := by decide +kernel
theorem wit_TheShedReadsAndSweeps_shedInputEntry_c1 : (({ (awake [101]).p (SHD_ALLOC 5 3) SHD_ALLOC_VALID 1 with shd := [(5, { (default : Shd) with inq := [⟨0x00060003, 7, 100, 0⟩] })] } : State).sliceHere ((5 : Fin 64)) = none) ∧ ((({ (awake [101]).p (SHD_ALLOC 5 3) SHD_ALLOC_VALID 1 with shd := [(5, { (default : Shd) with inq := [⟨0x00060003, 7, 100, 0⟩] })] } : State).shd.look ((5 : Fin 64))).inq = ((⟨0x00060003, 7, 100, 0⟩ : InEntry)) :: (([] : List InEntry))) ∧ (bget ((⟨0x00060003, 7, 100, 0⟩ : InEntry)).w0 16 1 = 0) ∧ (bget ((⟨0x00060003, 7, 100, 0⟩ : InEntry)).w0 29 3 = 0) ∧ (({ (awake [101]).p (SHD_ALLOC 5 3) SHD_ALLOC_VALID 1 with shd := [(5, { (default : Shd) with inq := [⟨0x00060003, 7, 100, 0⟩] })] } : State).on (SHD_ALLOC ((5 : Fin 64)) (bget ((⟨0x00060003, 7, 100, 0⟩ : InEntry)).w0 17 9)) SHD_ALLOC_VALID = true) ∧ (({ (awake [101]).p (SHD_ALLOC 5 3) SHD_ALLOC_VALID 1 with shd := [(5, { (default : Shd) with inq := [⟨0x00060003, 7, 100, 0⟩] })] } : State).g (SHD_ALLOC ((5 : Fin 64)) (bget ((⟨0x00060003, 7, 100, 0⟩ : InEntry)).w0 17 9)) SHD_ALLOC_ALLOC_ID = bget ((⟨0x00060003, 7, 100, 0⟩ : InEntry)).w0 0 14) ∧ ((({ (awake [101]).p (SHD_ALLOC 5 3) SHD_ALLOC_VALID 1 with shd := [(5, { (default : Shd) with inq := [⟨0x00060003, 7, 100, 0⟩] })] } : State).placing ((5 : Fin 64)) (({ (awake [101]).p (SHD_ALLOC 5 3) SHD_ALLOC_VALID 1 with shd := [(5, { (default : Shd) with inq := [⟨0x00060003, 7, 100, 0⟩] })] } : State).pch.look ((5 : Fin 64))).openLo).finalDone = false) := by decide +kernel
theorem wit_TheShedReadsAndSweeps_shedInputEntry_c2 : ((awake [] : State).sliceHere ((5 : Fin 64)) = none) ∧ (((awake [] : State).shd.look ((5 : Fin 64))).inq = []) := by decide +kernel
theorem wit_TheShedReadsAndSweeps_sliceSweep_c3 : (((sweeping 62500) : State).sliceDue ((5 : Fin 64)) ((15 : Fin 16)) = true) ∧ (((sweeping 62500) : State).safe = false) ∧ ((((sweeping 62500) : State).placing ((5 : Fin 64)) (((sweeping 62500) : State).pch.look ((5 : Fin 64))).openLo).setUp = true) ∧ ((((sweeping 62500) : State).placing ((5 : Fin 64)) ((((sweeping 62500) : State).pch.look ((5 : Fin 64))).openLo + 1)).setUp = true) ∧ ((((sweeping 62500) : State).placing ((5 : Fin 64)) (((sweeping 62500) : State).pch.look ((5 : Fin 64))).openLo).overrun = false) ∧ ((((sweeping 62500) : State).placing ((5 : Fin 64)) (((sweeping 62500) : State).pch.look ((5 : Fin 64))).openLo).finalDone = false) ∧ (((sweeping 62500) : State).sliceAt8 ((5 : Fin 64)) ((15 : Fin 16)) ≤ (((sweeping 62500) : State).seal8 ((5 : Fin 64)) (((sweeping 62500) : State).pch.look ((5 : Fin 64))).openLo - (8 * ((((sweeping 62500) : State).pch.look ((5 : Fin 64))).cutNext + 4200) : Nat))) ∧ ((((sweeping 62500) : State).seal8 ((5 : Fin 64)) (((sweeping 62500) : State).pch.look ((5 : Fin 64))).openLo - (8 * ((((sweeping 62500) : State).pch.look ((5 : Fin 64))).cutNext + 4200) : Nat)) < ((sweeping 62500) : State).sliceAt8 ((5 : Fin 64)) (((15 : Fin 16)) + 1)) := by decide +kernel
theorem wit_TheShedReadsAndSweeps_sliceSweep_c4 : (((sweeping 62500).p TMP_SAFE TMP_SAFE_STATE 1 : State).sliceDue ((5 : Fin 64)) ((15 : Fin 16)) = true) ∧ (((sweeping 62500).p TMP_SAFE TMP_SAFE_STATE 1 : State).safe = true) := by decide +kernel
theorem wit_TheShedReadsAndSweeps_sliceSweep_c5 : ((awake [] : State).sliceDue ((5 : Fin 64)) ((15 : Fin 16)) = false) := by decide +kernel
theorem wit_TheShedReadsAndSweeps_sweepOverrun_c6 : (((sweeping 11207) : State).chState ((5 : Fin 64)) = 2) ∧ ((((sweeping 11207) : State).pch.look ((5 : Fin 64))).running = true) ∧ ((((sweeping 11207) : State).placing ((5 : Fin 64)) (((sweeping 11207) : State).pch.look ((5 : Fin 64))).openLo).overrun = false) ∧ ((((sweeping 11207) : State).placing ((5 : Fin 64)) (((sweeping 11207) : State).pch.look ((5 : Fin 64))).openLo).finalDone = false) ∧ (((sweeping 11207) : State).seal8 ((5 : Fin 64)) (((sweeping 11207) : State).pch.look ((5 : Fin 64))).openLo ≤ ((8 * (((sweeping 11207) : State).now + (((sweeping 11207) : State).pch.look ((5 : Fin 64))).cutNext) + 7 : Nat) : Int)) := by decide +kernel
theorem wit_TheShedReadsAndSweeps_sweepOverrun_c7 : (((((sweeping 11208) : State).placing ((5 : Fin 64)) (((sweeping 11208) : State).pch.look ((5 : Fin 64))).openLo).finalDone = true ∨ ((8 * (((sweeping 11208) : State).now + (((sweeping 11208) : State).pch.look ((5 : Fin 64))).cutNext) + 7 : Nat) : Int) < ((sweeping 11208) : State).seal8 ((5 : Fin 64)) (((sweeping 11208) : State).pch.look ((5 : Fin 64))).openLo)) := by decide +kernel
theorem wit_HintsAreChecked_hintPdu_c0 : (((hinting none) : State).hintTaken ((31 : Fin 32)) ((0 : BitVec 16)).toNat = true) ∧ ((beNat ((([2, 0, 0, 1, 0, 0, 0, 5, 3, 0, 0, 0] ++ List.replicate 32 0 : List Byte)).take 1) ≠ 1 ∨ beNat (((([2, 0, 0, 1, 0, 0, 0, 5, 3, 0, 0, 0] ++ List.replicate 32 0 : List Byte)).drop 2).take 2) = 0 ∨ 32 < beNat (((([2, 0, 0, 1, 0, 0, 0, 5, 3, 0, 0, 0] ++ List.replicate 32 0 : List Byte)).drop 2).take 2) ∨ (([2, 0, 0, 1, 0, 0, 0, 5, 3, 0, 0, 0] ++ List.replicate 32 0 : List Byte)).length < 12 + 32 * beNat (((([2, 0, 0, 1, 0, 0, 0, 5, 3, 0, 0, 0] ++ List.replicate 32 0 : List Byte)).drop 2).take 2) ∨ bit (((hinting none) : State).rd (CLS_HINT_SRC (beNat (((([2, 0, 0, 1, 0, 0, 0, 5, 3, 0, 0, 0] ++ List.replicate 32 0 : List Byte)).drop 8).take 1) / 32))).toNat (beNat (((([2, 0, 0, 1, 0, 0, 0, 5, 3, 0, 0, 0] ++ List.replicate 32 0 : List Byte)).drop 8).take 1) % 32) = false)) := by decide +kernel
theorem wit_HintsAreChecked_hintPdu_c0_w1 : (((hinting none) : State).hintTaken ((31 : Fin 32)) ((0 : BitVec 16)).toNat = true) ∧ ((beNat ((([1, 0, 0, 1, 0, 0, 0, 5, 3, 0, 0, 0] ++ List.replicate 31 0 : List Byte)).take 1) ≠ 1 ∨ beNat (((([1, 0, 0, 1, 0, 0, 0, 5, 3, 0, 0, 0] ++ List.replicate 31 0 : List Byte)).drop 2).take 2) = 0 ∨ 32 < beNat (((([1, 0, 0, 1, 0, 0, 0, 5, 3, 0, 0, 0] ++ List.replicate 31 0 : List Byte)).drop 2).take 2) ∨ (([1, 0, 0, 1, 0, 0, 0, 5, 3, 0, 0, 0] ++ List.replicate 31 0 : List Byte)).length < 12 + 32 * beNat (((([1, 0, 0, 1, 0, 0, 0, 5, 3, 0, 0, 0] ++ List.replicate 31 0 : List Byte)).drop 2).take 2) ∨ bit (((hinting none) : State).rd (CLS_HINT_SRC (beNat (((([1, 0, 0, 1, 0, 0, 0, 5, 3, 0, 0, 0] ++ List.replicate 31 0 : List Byte)).drop 8).take 1) / 32))).toNat (beNat (((([1, 0, 0, 1, 0, 0, 0, 5, 3, 0, 0, 0] ++ List.replicate 31 0 : List Byte)).drop 8).take 1) % 32) = false)) := by decide +kernel
theorem wit_HintsAreChecked_hintPdu_c0_w2 : (((hinting none) : State).hintTaken ((31 : Fin 32)) ((0 : BitVec 16)).toNat = true) ∧ ((beNat ((([1, 0, 0, 33, 0, 0, 0, 5, 3, 0, 0, 0] ++ List.replicate 2000 0 : List Byte)).take 1) ≠ 1 ∨ beNat (((([1, 0, 0, 33, 0, 0, 0, 5, 3, 0, 0, 0] ++ List.replicate 2000 0 : List Byte)).drop 2).take 2) = 0 ∨ 32 < beNat (((([1, 0, 0, 33, 0, 0, 0, 5, 3, 0, 0, 0] ++ List.replicate 2000 0 : List Byte)).drop 2).take 2) ∨ (([1, 0, 0, 33, 0, 0, 0, 5, 3, 0, 0, 0] ++ List.replicate 2000 0 : List Byte)).length < 12 + 32 * beNat (((([1, 0, 0, 33, 0, 0, 0, 5, 3, 0, 0, 0] ++ List.replicate 2000 0 : List Byte)).drop 2).take 2) ∨ bit (((hinting none) : State).rd (CLS_HINT_SRC (beNat (((([1, 0, 0, 33, 0, 0, 0, 5, 3, 0, 0, 0] ++ List.replicate 2000 0 : List Byte)).drop 8).take 1) / 32))).toNat (beNat (((([1, 0, 0, 33, 0, 0, 0, 5, 3, 0, 0, 0] ++ List.replicate 2000 0 : List Byte)).drop 8).take 1) % 32) = false)) := by decide +kernel
theorem wit_HintsAreChecked_hintPdu_c1 : (((hinting (some 5)) : State).hintTaken ((31 : Fin 32)) ((0 : BitVec 16)).toNat = true) ∧ (¬ (beNat ((([1, 0, 0, 1, 0, 0, 0, 5, 3, 0, 0, 0] ++ List.replicate 32 0 : List Byte)).take 1) ≠ 1 ∨ beNat (((([1, 0, 0, 1, 0, 0, 0, 5, 3, 0, 0, 0] ++ List.replicate 32 0 : List Byte)).drop 2).take 2) = 0 ∨ 32 < beNat (((([1, 0, 0, 1, 0, 0, 0, 5, 3, 0, 0, 0] ++ List.replicate 32 0 : List Byte)).drop 2).take 2) ∨ (([1, 0, 0, 1, 0, 0, 0, 5, 3, 0, 0, 0] ++ List.replicate 32 0 : List Byte)).length < 12 + 32 * beNat (((([1, 0, 0, 1, 0, 0, 0, 5, 3, 0, 0, 0] ++ List.replicate 32 0 : List Byte)).drop 2).take 2) ∨ bit (((hinting (some 5)) : State).rd (CLS_HINT_SRC (beNat (((([1, 0, 0, 1, 0, 0, 0, 5, 3, 0, 0, 0] ++ List.replicate 32 0 : List Byte)).drop 8).take 1) / 32))).toNat (beNat (((([1, 0, 0, 1, 0, 0, 0, 5, 3, 0, 0, 0] ++ List.replicate 32 0 : List Byte)).drop 8).take 1) % 32) = false)) ∧ (((hinting (some 5)) : State).cls.hintSeq.look (beNat (((([1, 0, 0, 1, 0, 0, 0, 5, 3, 0, 0, 0] ++ List.replicate 32 0 : List Byte)).drop 8).take 1)) = some ((5 : Word))) ∧ ((beWord (([1, 0, 0, 1, 0, 0, 0, 5, 3, 0, 0, 0] ++ List.replicate 32 0 : List Byte)) 4 = ((5 : Word)) ∨ 2 ^ 31 ≤ (beWord (([1, 0, 0, 1, 0, 0, 0, 5, 3, 0, 0, 0] ++ List.replicate 32 0 : List Byte)) 4 - ((5 : Word))).toNat)) := by decide +kernel
theorem wit_HintsAreChecked_hintPdu_c2 : (((hinting none) : State).hintTaken ((31 : Fin 32)) ((0 : BitVec 16)).toNat = true) ∧ (¬ (beNat ((([1, 0, 0, 1, 0, 0, 0, 5, 3, 0, 0, 0] ++ List.replicate 32 0 : List Byte)).take 1) ≠ 1 ∨ beNat (((([1, 0, 0, 1, 0, 0, 0, 5, 3, 0, 0, 0] ++ List.replicate 32 0 : List Byte)).drop 2).take 2) = 0 ∨ 32 < beNat (((([1, 0, 0, 1, 0, 0, 0, 5, 3, 0, 0, 0] ++ List.replicate 32 0 : List Byte)).drop 2).take 2) ∨ (([1, 0, 0, 1, 0, 0, 0, 5, 3, 0, 0, 0] ++ List.replicate 32 0 : List Byte)).length < 12 + 32 * beNat (((([1, 0, 0, 1, 0, 0, 0, 5, 3, 0, 0, 0] ++ List.replicate 32 0 : List Byte)).drop 2).take 2) ∨ bit (((hinting none) : State).rd (CLS_HINT_SRC (beNat (((([1, 0, 0, 1, 0, 0, 0, 5, 3, 0, 0, 0] ++ List.replicate 32 0 : List Byte)).drop 8).take 1) / 32))).toNat (beNat (((([1, 0, 0, 1, 0, 0, 0, 5, 3, 0, 0, 0] ++ List.replicate 32 0 : List Byte)).drop 8).take 1) % 32) = false)) ∧ (((hinting none) : State).cls.hintSeq.look (beNat (((([1, 0, 0, 1, 0, 0, 0, 5, 3, 0, 0, 0] ++ List.replicate 32 0 : List Byte)).drop 8).take 1)) = none) := by decide +kernel
theorem wit_HintsAreChecked_hintRecordSubmit_c3 : (((hinted.wr (SHD_HINT_CTL 5) 0) : State).reaches (Agent.hpb) (SHD_HINT_IN ((5 : Fin 64)) 7) = true) ∧ ((findFrom (fun a => ((hinted.wr (SHD_HINT_CTL 5) 0) : State).on (SHD_ALLOC ((5 : Fin 64)) a) SHD_ALLOC_VALID && decide (((hinted.wr (SHD_HINT_CTL 5) 0) : State).g (SHD_ALLOC ((5 : Fin 64)) a) SHD_ALLOC_ALLOC_ID = bget ((fun k : Nat => (((hinted.wr (SHD_HINT_CTL 5) 0) : State).wr (akey (agCode (Agent.hpb)) (SHD_HINT_IN ((5 : Fin 64)) 7)) (0#32)).rd (akey (agCode (Agent.hpb)) (SHD_HINT_IN ((5 : Fin 64)) k))) 0) 0 14) && ((hinted.wr (SHD_HINT_CTL 5) 0) : State).on (SHD_ALLOC_POL ((5 : Fin 64)) a) SHD_ALLOC_POL_HINT_EN) 512 0).isSome = true) ∧ (((hinted.wr (SHD_HINT_CTL 5) 0) : State).on (SHD_HINT_CTL ((5 : Fin 64))) SHD_HINT_CTL_HINT_EN = false) := by decide +kernel
theorem wit_HintsAreChecked_hintRecordSubmit_c4 : ((hinted : State).reaches (Agent.hpb) (SHD_HINT_IN ((5 : Fin 64)) 7) = true) ∧ ((findFrom (fun a => (hinted : State).on (SHD_ALLOC ((5 : Fin 64)) a) SHD_ALLOC_VALID && decide ((hinted : State).g (SHD_ALLOC ((5 : Fin 64)) a) SHD_ALLOC_ALLOC_ID = bget ((fun k : Nat => ((hinted : State).wr (akey (agCode (Agent.hpb)) (SHD_HINT_IN ((5 : Fin 64)) 7)) (0#32)).rd (akey (agCode (Agent.hpb)) (SHD_HINT_IN ((5 : Fin 64)) k))) 0) 0 14) && (hinted : State).on (SHD_ALLOC_POL ((5 : Fin 64)) a) SHD_ALLOC_POL_HINT_EN) 512 0).isSome = true) ∧ ((hinted : State).on (SHD_HINT_CTL ((5 : Fin 64))) SHD_HINT_CTL_HINT_EN = true) ∧ ((hinted : State).on (DSF_STATUS ((5 : Fin 64))) DSF_STATUS_ALIGNED = true) ∧ (bget ((fun k : Nat => ((hinted : State).wr (akey (agCode (Agent.hpb)) (SHD_HINT_IN ((5 : Fin 64)) 7)) (0#32)).rd (akey (agCode (Agent.hpb)) (SHD_HINT_IN ((5 : Fin 64)) k))) 0) 16 1 = 1) := by decide +kernel
theorem wit_RecordsEnterTheBolt_boltRecord_c0 : ((((4 : Fin 7)).val = 2 ∨ ((4 : Fin 7)).val = 3 ∨ ((4 : Fin 7)).val = 4)) ∧ (((boltUp : State).fillTokens ((4 : Fin 7))).g (BLT_CLASS ((4 : Fin 7))) BLT_CLASS_TOKENS ≠ 0) ∧ ((boltUp : State).ddrUp = true) ∧ ((boltUp : State).boltFill < rankLimit ((4 : Fin 7))) := by decide +kernel
theorem wit_RecordsEnterTheBolt_boltRecord_c1 : (((1 : Fin 7)).val ≤ 1) ∧ (((boltUp.p (BLT_CLASS 1) BLT_CLASS_BURST 9 |>.p (BLT_CLASS 1) BLT_CLASS_TOKENS 5 : State).fillTokens ((1 : Fin 7))).g (BLT_CLASS ((1 : Fin 7))) BLT_CLASS_TOKENS ≠ 0) ∧ ((boltUp.p (BLT_CLASS 1) BLT_CLASS_BURST 9 |>.p (BLT_CLASS 1) BLT_CLASS_TOKENS 5 : State).ddrUp = true) ∧ ((boltUp.p (BLT_CLASS 1) BLT_CLASS_BURST 9 |>.p (BLT_CLASS 1) BLT_CLASS_TOKENS 5 : State).boltFill < rankLimit ((1 : Fin 7))) ∧ ((∀ i : Fin 8, (boltUp.p (BLT_CLASS 1) BLT_CLASS_BURST 9 |>.p (BLT_CLASS 1) BLT_CLASS_TOKENS 5 : State).on (BLT_TRIG i) BLT_TRIG_EN = false)) := by decide +kernel
theorem wit_RecordsEnterTheBolt_boltRecord_c2 : (((0 : Fin 7)).val = 0) ∧ (((boltUp.p (BLT_CLASS 0) BLT_CLASS_TOKENS 0 |>.p (BLT_CLASS 0) BLT_CLASS_BURST 9 : State).fillTokens ((0 : Fin 7))).g (BLT_CLASS ((0 : Fin 7))) BLT_CLASS_TOKENS = 0) := by decide +kernel
theorem wit_RecordsEnterTheBolt_boltRecord_c3 : ((((4 : Fin 7)).val = 2 ∨ ((4 : Fin 7)).val = 3 ∨ ((4 : Fin 7)).val = 4)) ∧ ((({ boltUp with regs := (boltUp.p (BLT_CLASS 4) BLT_CLASS_TOKENS 0).regs, blt := { boltUp.blt with dropSec := [(4, 1)] } } : State).fillTokens ((4 : Fin 7))).g (BLT_CLASS ((4 : Fin 7))) BLT_CLASS_TOKENS = 0) ∧ (({ boltUp with regs := (boltUp.p (BLT_CLASS 4) BLT_CLASS_TOKENS 0).regs, blt := { boltUp.blt with dropSec := [(4, 1)] } } : State).blt.dropSec.look ((4 : Fin 7)) = ({ boltUp with regs := (boltUp.p (BLT_CLASS 4) BLT_CLASS_TOKENS 0).regs, blt := { boltUp.blt with dropSec := [(4, 1)] } } : State).tim.sec + 1) := by decide +kernel
theorem wit_RecordsEnterTheBolt_boltRecord_c4 : ((((4 : Fin 7)).val = 2 ∨ ((4 : Fin 7)).val = 3 ∨ ((4 : Fin 7)).val = 4)) ∧ (((boltUp.p (BLT_CLASS 4) BLT_CLASS_TOKENS 0 : State).fillTokens ((4 : Fin 7))).g (BLT_CLASS ((4 : Fin 7))) BLT_CLASS_TOKENS = 0) ∧ ((boltUp.p (BLT_CLASS 4) BLT_CLASS_TOKENS 0 : State).blt.dropSec.look ((4 : Fin 7)) ≠ (boltUp.p (BLT_CLASS 4) BLT_CLASS_TOKENS 0 : State).tim.sec + 1) := by decide +kernel
theorem wit_RecordsEnterTheBolt_boltRecord_c5 : (((5 : Fin 7)).val = 5) ∧ ((boltUp : State).on BLT_CTL BLT_CTL_TRACE_EN = false) := by decide +kernel
theorem wit_RecordsEnterTheBolt_coalFlush_c6 : (({ boltUp with now := 2000000000, blt := { boltUp.blt with coal := [(255, some (⟨List.replicate 16 0, 3, 5, 9, 9, 10, List.replicate 16 0, 2, 9⟩ : Coal))] } } : State).blt.coal.look ((255 : Fin 256)) = some ((⟨List.replicate 16 0, 3, 5, 9, 9, 10, List.replicate 16 0, 2, 9⟩ : Coal))) ∧ (((⟨List.replicate 16 0, 3, 5, 9, 9, 10, List.replicate 16 0, 2, 9⟩ : Coal)).cyc ≠ ({ boltUp with now := 2000000000, blt := { boltUp.blt with coal := [(255, some (⟨List.replicate 16 0, 3, 5, 9, 9, 10, List.replicate 16 0, 2, 9⟩ : Coal))] } } : State).now) ∧ (((⟨List.replicate 16 0, 3, 5, 9, 9, 10, List.replicate 16 0, 2, 9⟩ : Coal)).at_ + max (({ boltUp with now := 2000000000, blt := { boltUp.blt with coal := [(255, some (⟨List.replicate 16 0, 3, 5, 9, 9, 10, List.replicate 16 0, 2, 9⟩ : Coal))] } } : State).g BLT_CTL BLT_CTL_COAL_MS) 1 * 1000000 ≤ ({ boltUp with now := 2000000000, blt := { boltUp.blt with coal := [(255, some (⟨List.replicate 16 0, 3, 5, 9, 9, 10, List.replicate 16 0, 2, 9⟩ : Coal))] } } : State).now) ∧ (({ boltUp with now := 2000000000, blt := { boltUp.blt with coal := [(255, some (⟨List.replicate 16 0, 3, 5, 9, 9, 10, List.replicate 16 0, 2, 9⟩ : Coal))] } } : State).ddrUp = true) ∧ (({ boltUp with now := 2000000000, blt := { boltUp.blt with coal := [(255, some (⟨List.replicate 16 0, 3, 5, 9, 9, 10, List.replicate 16 0, 2, 9⟩ : Coal))] } } : State).boltFill < rankLimit 0) ∧ ((∀ i : Fin 8, ({ boltUp with now := 2000000000, blt := { boltUp.blt with coal := [(255, some (⟨List.replicate 16 0, 3, 5, 9, 9, 10, List.replicate 16 0, 2, 9⟩ : Coal))] } } : State).on (BLT_TRIG i) BLT_TRIG_EN = false)) := by decide +kernel
theorem wit_RecordsEnterTheBolt_coalFlush_c7 : (({ boltUp with now := 9, blt := { boltUp.blt with coal := [(255, some (⟨List.replicate 16 0, 3, 5, 9, 9, 10, List.replicate 16 0, 2, 9⟩ : Coal))] } } : State).blt.coal.look ((255 : Fin 256)) = some ((⟨List.replicate 16 0, 3, 5, 9, 9, 10, List.replicate 16 0, 2, 9⟩ : Coal))) ∧ (({ boltUp with now := 9, blt := { boltUp.blt with coal := [(255, some (⟨List.replicate 16 0, 3, 5, 9, 9, 10, List.replicate 16 0, 2, 9⟩ : Coal))] } } : State).now < ((⟨List.replicate 16 0, 3, 5, 9, 9, 10, List.replicate 16 0, 2, 9⟩ : Coal)).at_ + max (({ boltUp with now := 9, blt := { boltUp.blt with coal := [(255, some (⟨List.replicate 16 0, 3, 5, 9, 9, 10, List.replicate 16 0, 2, 9⟩ : Coal))] } } : State).g BLT_CTL BLT_CTL_COAL_MS) 1 * 1000000) := by decide +kernel
theorem wit_RecordsEnterTheBolt_alarmSramCopy : (({ boltUp with blt := { boltUp.blt with sram := [[1], [2]] } } : State).ddrUp = true) := by decide +kernel
theorem wit_RecordsEnterTheBolt_boltRecordWritten_c9 : (({ boltUp with blt := { boltUp.blt with queue := [(3, none, [])] } } : State).blt.queue = ((3), ((none : Option Nat)), (([] : List Word))) :: (([] : List (Nat × Option Nat × List Word)))) ∧ (({ boltUp with blt := { boltUp.blt with queue := [(3, none, [])] } } : State).blt.sram = []) ∧ (({ boltUp with blt := { boltUp.blt with queue := [(3, none, [])] } } : State).ddrUp = true) ∧ (({ boltUp with blt := { boltUp.blt with queue := [(3, none, [])] } } : State).on BLT_CTL BLT_CTL_EN = true) ∧ (({ boltUp with blt := { boltUp.blt with queue := [(3, none, [])] } } : State).g (BLT_RING (ringOf (3))) BLT_RING_SIZE = 0) := by decide +kernel
theorem wit_RecordsEnterTheBolt_boltRecordWritten_c12 : (({ boltUp with regs := (boltUp.p BLT_CTL BLT_CTL_EN 0).regs, blt := { boltUp.blt with queue := [(3, none, [])] } } : State).blt.sram = []) ∧ (({ boltUp with regs := (boltUp.p BLT_CTL BLT_CTL_EN 0).regs, blt := { boltUp.blt with queue := [(3, none, [])] } } : State).on BLT_CTL BLT_CTL_EN = false) := by decide +kernel
theorem wit_CutsFreezeAndRelease_cutFreeze : (((awake [14]).p (BLT_CUT 0) BLT_CUT_STATE 1 : State).reaches (Agent.hpa) BLT_CUT_CMD = true) ∧ ((bset (bset 0x80000000 BLT_CUT_CMD_OP.lo BLT_CUT_CMD_OP.w 1) BLT_CUT_CMD_RINGS.lo BLT_CUT_CMD_RINGS.w 33).getLsbD 31 = true) ∧ ((((awake [14]).p (BLT_CUT 0) BLT_CUT_STATE 1 : State).wrRW BLT_CUT_CMD (bset (bset 0x80000000 BLT_CUT_CMD_OP.lo BLT_CUT_CMD_OP.w 1) BLT_CUT_CMD_RINGS.lo BLT_CUT_CMD_RINGS.w 33)).g BLT_CUT_CMD BLT_CUT_CMD_OP = 1) := by decide +kernel
theorem wit_CutsFreezeAndRelease_cutRelease_c4 : (((awake [14]).p (BLT_CUT 7) BLT_CUT_STATE 2 : State).reaches (Agent.hpa) BLT_CUT_CMD = true) ∧ ((bset (bset 0x80000000 BLT_CUT_CMD_OP.lo BLT_CUT_CMD_OP.w 2) BLT_CUT_CMD_CUT.lo BLT_CUT_CMD_CUT.w 7).getLsbD 31 = true) ∧ ((((awake [14]).p (BLT_CUT 7) BLT_CUT_STATE 2 : State).wrRW BLT_CUT_CMD (bset (bset 0x80000000 BLT_CUT_CMD_OP.lo BLT_CUT_CMD_OP.w 2) BLT_CUT_CMD_CUT.lo BLT_CUT_CMD_CUT.w 7)).g BLT_CUT_CMD BLT_CUT_CMD_OP = 2) ∧ ((((awake [14]).p (BLT_CUT 7) BLT_CUT_STATE 2 : State).wrRW BLT_CUT_CMD (bset (bset 0x80000000 BLT_CUT_CMD_OP.lo BLT_CUT_CMD_OP.w 2) BLT_CUT_CMD_CUT.lo BLT_CUT_CMD_CUT.w 7)).g BLT_CUT_CMD BLT_CUT_CMD_CUT = (7)) ∧ ((7) < 8) ∧ (((awake [14]).p (BLT_CUT 7) BLT_CUT_STATE 2 : State).g (BLT_CUT (7)) BLT_CUT_STATE ≠ 0) := by decide +kernel
theorem wit_CutsFreezeAndRelease_cutRelease_c5 : ((awake [14] : State).reaches (Agent.hpa) BLT_CUT_CMD = true) ∧ ((bset (bset 0x80000000 BLT_CUT_CMD_OP.lo BLT_CUT_CMD_OP.w 2) BLT_CUT_CMD_CUT.lo BLT_CUT_CMD_CUT.w 7).getLsbD 31 = true) ∧ (((awake [14] : State).wrRW BLT_CUT_CMD (bset (bset 0x80000000 BLT_CUT_CMD_OP.lo BLT_CUT_CMD_OP.w 2) BLT_CUT_CMD_CUT.lo BLT_CUT_CMD_CUT.w 7)).g BLT_CUT_CMD BLT_CUT_CMD_OP = 2) ∧ (((awake [14] : State).wrRW BLT_CUT_CMD (bset (bset 0x80000000 BLT_CUT_CMD_OP.lo BLT_CUT_CMD_OP.w 2) BLT_CUT_CMD_CUT.lo BLT_CUT_CMD_CUT.w 7)).g BLT_CUT_CMD BLT_CUT_CMD_CUT = (7)) ∧ ((awake [14] : State).g (BLT_CUT (7)) BLT_CUT_STATE = 0) := by decide +kernel
theorem wit_CutsFreezeAndRelease_cutPostEnd : (((awake [14]).p (BLT_CUT 7) BLT_CUT_STATE 1 : State).g (BLT_CUT ((7 : Fin 8))) BLT_CUT_STATE = 1) ∧ (((awake [14]).p (BLT_CUT 7) BLT_CUT_STATE 1 : State).blt.cutEnd.look ((7 : Fin 8)) ≤ ((awake [14]).p (BLT_CUT 7) BLT_CUT_STATE 1 : State).t64) := by decide +kernel
theorem wit_CutsFreezeAndRelease_summaryCondense : (({ awake [14] with shu := { (awake [14]).shu with work := [(2, [[5, 7]])] }, blt := { (awake [14]).blt with sums := [(sumKey 7 5 3, { (default : SlotSum) with live := true })] } } : State).shu.work.look 2 = (([5, 7] : List Word)) :: (([] : List (List Word)))) := by decide +kernel
theorem wit_CutsFreezeAndRelease_summaryLate : (({ awake [14] with shu := { (awake [14]).shu with work := [(2, [[5, 7]])] } } : State).shu.work.look 2 ≠ []) := by decide +kernel
theorem wit_CountersDumpsTagsAndWindows_counterDump_c0 : ((awake [15] : State).reaches (Agent.hpa) PMC_DUMP_CTL = true) ∧ ((0x8000003F#32).getLsbD 31 = true) ∧ ((awake [15] : State).pmc.images.length < 2) ∧ ((∀ i ∈ (awake [15] : State).pmc.images.getLast?, i.at_ ≠ (awake [15] : State).now)) := by decide +kernel
theorem wit_CountersDumpsTagsAndWindows_counterDump_c1 : (({ awake [15] with now := 7, pmc := { (awake [15]).pmc with images := [(⟨0, 5, 7, []⟩ : DumpImg)] } } : State).reaches (Agent.hpa) PMC_DUMP_CTL = true) ∧ ((0x8000003F#32).getLsbD 31 = true) ∧ (({ awake [15] with now := 7, pmc := { (awake [15]).pmc with images := [(⟨0, 5, 7, []⟩ : DumpImg)] } } : State).pmc.images.getLast? = some ((⟨0, 5, 7, []⟩ : DumpImg))) ∧ (((⟨0, 5, 7, []⟩ : DumpImg)).at_ = ({ awake [15] with now := 7, pmc := { (awake [15]).pmc with images := [(⟨0, 5, 7, []⟩ : DumpImg)] } } : State).now) := by decide +kernel
theorem wit_CountersDumpsTagsAndWindows_counterDump_c2 : (({ awake [15] with pmc := { (awake [15]).pmc with images := [(⟨0, 5, 7, []⟩ : DumpImg), (⟨0, 5, 7, []⟩ : DumpImg)] } } : State).reaches (Agent.hpa) PMC_DUMP_CTL = true) ∧ ((0x8000003F#32).getLsbD 31 = true) ∧ (2 ≤ ({ awake [15] with pmc := { (awake [15]).pmc with images := [(⟨0, 5, 7, []⟩ : DumpImg), (⟨0, 5, 7, []⟩ : DumpImg)] } } : State).pmc.images.length) ∧ ((∀ i ∈ ({ awake [15] with pmc := { (awake [15]).pmc with images := [(⟨0, 5, 7, []⟩ : DumpImg), (⟨0, 5, 7, []⟩ : DumpImg)] } } : State).pmc.images.getLast?, i.at_ ≠ ({ awake [15] with pmc := { (awake [15]).pmc with images := [(⟨0, 5, 7, []⟩ : DumpImg), (⟨0, 5, 7, []⟩ : DumpImg)] } } : State).now)) := by decide +kernel
theorem wit_CountersDumpsTagsAndWindows_dumpImageWritten_c4 : (({ awake [15] with pmc := { (awake [15]).pmc with images := [(⟨0, 5, 7, []⟩ : DumpImg)] } } : State).pmc.images = ((⟨0, 5, 7, []⟩ : DumpImg)) :: (([] : List DumpImg))) ∧ (({ awake [15] with pmc := { (awake [15]).pmc with images := [(⟨0, 5, 7, []⟩ : DumpImg)] } } : State).drf.owned.find? (fun r => decide (r.1 = 2) && decide (r.2.1 = 0)) = none) := by decide +kernel
theorem wit_CountersDumpsTagsAndWindows_tagComplete : (({ awake [15] with pmc := { (awake [15]).pmc with tag := [(15, some (⟨1, 2, 3⟩ : Tag))] } } : State).pmc.tag.look ((15 : Fin 16)) = some ((⟨1, 2, 3⟩ : Tag))) ∧ (({ awake [15] with pmc := { (awake [15]).pmc with tag := [(15, some (⟨1, 2, 3⟩ : Tag))] } } : State).cyc.tags.look ((15 : Fin 16)) = none) ∧ (({ awake [15] with pmc := { (awake [15]).pmc with tag := [(15, some (⟨1, 2, 3⟩ : Tag))] } } : State).on (PMC_TAG_CTL ((15 : Fin 16))) PMC_TAG_CTL_TO_BOLT = false) := by decide +kernel
theorem wit_CountersDumpsTagsAndWindows_tagFifoPop : (({ awake [15] with pmc := { (awake [15]).pmc with tagFifo := [(15, [[1, 2, 3, 4], [5, 6, 7, 8]])] } } : State).reaches (Agent.hpa) (PMC_TAG_FIFO ((15 : Fin 16)) + 12) = true) := by decide +kernel
theorem wit_CountersDumpsTagsAndWindows_bwWindowEnd_c7 : (({ (awake [15]).wr64 (lkey (PMC_BW_DS_BYTES 5)) 0x500000001 with tim := { (awake [15]).tim with sec := 1 } } : State).devNs % (({ (awake [15]).wr64 (lkey (PMC_BW_DS_BYTES 5)) 0x500000001 with tim := { (awake [15]).tim with sec := 1 } } : State).bwWin ((5 : Fin 64)) * 1000000) ≤ 1) ∧ (({ (awake [15]).wr64 (lkey (PMC_BW_DS_BYTES 5)) 0x500000001 with tim := { (awake [15]).tim with sec := 1 } } : State).rd64 (PMC_BW_END_NS ((5 : Fin 64))) / (({ (awake [15]).wr64 (lkey (PMC_BW_DS_BYTES 5)) 0x500000001 with tim := { (awake [15]).tim with sec := 1 } } : State).bwWin ((5 : Fin 64)) * 1000000) ≠ ({ (awake [15]).wr64 (lkey (PMC_BW_DS_BYTES 5)) 0x500000001 with tim := { (awake [15]).tim with sec := 1 } } : State).devNs / (({ (awake [15]).wr64 (lkey (PMC_BW_DS_BYTES 5)) 0x500000001 with tim := { (awake [15]).tim with sec := 1 } } : State).bwWin ((5 : Fin 64)) * 1000000)) := by decide +kernel
theorem wit_CountersDumpsTagsAndWindows_bwWindowEnd_c8 : ((1 < (awake [15] : State).devNs % ((awake [15] : State).bwWin ((5 : Fin 64)) * 1000000) ∨ (awake [15] : State).rd64 (PMC_BW_END_NS ((5 : Fin 64))) / ((awake [15] : State).bwWin ((5 : Fin 64)) * 1000000) = (awake [15] : State).devNs / ((awake [15] : State).bwWin ((5 : Fin 64)) * 1000000))) := by decide +kernel
theorem wit_MacCommandsAndLearning_macInsert_c0 : (((macTab true false) : State).reaches (Agent.hpb) FWD_MAC_CMD = true) ∧ (((macTab true false) : State).on (akey (agCode (Agent.hpb)) FWD_MAC_CMD) FWD_MAC_CMD_GO = false) ∧ (((macTab true false) : State).fwd.flush = none) ∧ ((bset 0x80000005 28 3 1).getLsbD 31 = true) ∧ ((((macTab true false) : State).macCmd (Agent.hpb) (bset 0x80000005 28 3 1)).macOp (Agent.hpb) = 1) ∧ (((macTab true false) : State).macFind ((((macTab true false) : State).macCmd (Agent.hpb) (bset 0x80000005 28 3 1)).macCmdBd (Agent.hpb)) ((((macTab true false) : State).macCmd (Agent.hpb) (bset 0x80000005 28 3 1)).macCmdMac (Agent.hpb)) = some (macPos)) := by decide +kernel
theorem wit_MacCommandsAndLearning_macInsert_c1 : (((macTab false false) : State).reaches (Agent.hpb) FWD_MAC_CMD = true) ∧ (((macTab false false) : State).on (akey (agCode (Agent.hpb)) FWD_MAC_CMD) FWD_MAC_CMD_GO = false) ∧ (((macTab false false) : State).fwd.flush = none) ∧ ((bset 0x80000005 28 3 1).getLsbD 31 = true) ∧ ((((macTab false false) : State).macCmd (Agent.hpb) (bset 0x80000005 28 3 1)).macOp (Agent.hpb) = 1) ∧ (((macTab false false) : State).macFind ((((macTab false false) : State).macCmd (Agent.hpb) (bset 0x80000005 28 3 1)).macCmdBd (Agent.hpb)) ((((macTab false false) : State).macCmd (Agent.hpb) (bset 0x80000005 28 3 1)).macCmdMac (Agent.hpb)) = none) ∧ ((macWays ((((macTab false false) : State).macCmd (Agent.hpb) (bset 0x80000005 28 3 1)).macCmdBd (Agent.hpb)) ((((macTab false false) : State).macCmd (Agent.hpb) (bset 0x80000005 28 3 1)).macCmdMac (Agent.hpb))).find? (fun (macPos) => !((macTab false false) : State).macVal (macPos)) = some (macPos)) := by decide +kernel
theorem wit_MacCommandsAndLearning_macInsert_c2 : (((macTab false false) : State).reaches (Agent.hpb) FWD_MAC_CMD = true) ∧ (((macTab false false) : State).on (akey (agCode (Agent.hpb)) FWD_MAC_CMD) FWD_MAC_CMD_GO = false) ∧ (((macTab false false) : State).fwd.flush = none) ∧ ((bset 0x80000005 28 3 1).getLsbD 31 = true) ∧ ((((macTab false false) : State).macCmd (Agent.hpb) (bset 0x80000005 28 3 1)).macOp (Agent.hpb) = 1) ∧ (((macTab false false) : State).macFind ((((macTab false false) : State).macCmd (Agent.hpb) (bset 0x80000005 28 3 1)).macCmdBd (Agent.hpb)) ((((macTab false false) : State).macCmd (Agent.hpb) (bset 0x80000005 28 3 1)).macCmdMac (Agent.hpb)) = none) ∧ (((((macTab false false) : State).macCmd (Agent.hpb) (bset 0x80000005 28 3 1)).macRoom ((((macTab false false) : State).macCmd (Agent.hpb) (bset 0x80000005 28 3 1)).macCmdBd (Agent.hpb)) ((((macTab false false) : State).macCmd (Agent.hpb) (bset 0x80000005 28 3 1)).macCmdMac (Agent.hpb))).2 = some (macPos)) := by decide +kernel
theorem wit_MacCommandsAndLearning_macInsert_c3 : ((macFull : State).reaches (Agent.hpb) FWD_MAC_CMD = true) ∧ ((macFull : State).on (akey (agCode (Agent.hpb)) FWD_MAC_CMD) FWD_MAC_CMD_GO = false) ∧ ((macFull : State).fwd.flush = none) ∧ ((bset 0x80000005 28 3 1).getLsbD 31 = true) ∧ (((macFull : State).macCmd (Agent.hpb) (bset 0x80000005 28 3 1)).macOp (Agent.hpb) = 1) ∧ ((macFull : State).macFind (((macFull : State).macCmd (Agent.hpb) (bset 0x80000005 28 3 1)).macCmdBd (Agent.hpb)) (((macFull : State).macCmd (Agent.hpb) (bset 0x80000005 28 3 1)).macCmdMac (Agent.hpb)) = none) ∧ ((((macFull : State).macCmd (Agent.hpb) (bset 0x80000005 28 3 1)).macRoom (((macFull : State).macCmd (Agent.hpb) (bset 0x80000005 28 3 1)).macCmdBd (Agent.hpb)) (((macFull : State).macCmd (Agent.hpb) (bset 0x80000005 28 3 1)).macCmdMac (Agent.hpb))).2 = none) := by decide +kernel
theorem wit_MacCommandsAndLearning_macDelete_c4 : (((macTab true false) : State).reaches (Agent.hpb) FWD_MAC_CMD = true) ∧ (((macTab true false) : State).on (akey (agCode (Agent.hpb)) FWD_MAC_CMD) FWD_MAC_CMD_GO = false) ∧ (((macTab true false) : State).fwd.flush = none) ∧ ((bset 0x80000005 28 3 2).getLsbD 31 = true) ∧ ((((macTab true false) : State).macCmd (Agent.hpb) (bset 0x80000005 28 3 2)).macOp (Agent.hpb) = 2) ∧ (((macTab true false) : State).macFind ((((macTab true false) : State).macCmd (Agent.hpb) (bset 0x80000005 28 3 2)).macCmdBd (Agent.hpb)) ((((macTab true false) : State).macCmd (Agent.hpb) (bset 0x80000005 28 3 2)).macCmdMac (Agent.hpb)) = some (macPos)) := by decide +kernel
theorem wit_MacCommandsAndLearning_macDelete_c5 : (((macTab false false) : State).reaches (Agent.hpb) FWD_MAC_CMD = true) ∧ (((macTab false false) : State).on (akey (agCode (Agent.hpb)) FWD_MAC_CMD) FWD_MAC_CMD_GO = false) ∧ (((macTab false false) : State).fwd.flush = none) ∧ ((bset 0x80000005 28 3 2).getLsbD 31 = true) ∧ ((((macTab false false) : State).macCmd (Agent.hpb) (bset 0x80000005 28 3 2)).macOp (Agent.hpb) = 2) ∧ (((macTab false false) : State).macFind ((((macTab false false) : State).macCmd (Agent.hpb) (bset 0x80000005 28 3 2)).macCmdBd (Agent.hpb)) ((((macTab false false) : State).macCmd (Agent.hpb) (bset 0x80000005 28 3 2)).macCmdMac (Agent.hpb)) = none) := by decide +kernel
theorem wit_MacCommandsAndLearning_macLookup : (((macTab true false) : State).reaches (Agent.hpb) FWD_MAC_CMD = true) ∧ (((macTab true false) : State).on (akey (agCode (Agent.hpb)) FWD_MAC_CMD) FWD_MAC_CMD_GO = false) ∧ (((macTab true false) : State).fwd.flush = none) ∧ ((bset 0x80000005 28 3 3).getLsbD 31 = true) ∧ ((((macTab true false) : State).macCmd (Agent.hpb) (bset 0x80000005 28 3 3)).macOp (Agent.hpb) = 3) ∧ (((macTab true false) : State).macFind ((((macTab true false) : State).macCmd (Agent.hpb) (bset 0x80000005 28 3 3)).macCmdBd (Agent.hpb)) ((((macTab true false) : State).macCmd (Agent.hpb) (bset 0x80000005 28 3 3)).macCmdMac (Agent.hpb)) = some (macPos)) := by decide +kernel
theorem wit_MacCommandsAndLearning_macFlush : (((macTab true false) : State).reaches (Agent.hpb) FWD_MAC_CMD = true) ∧ (((macTab true false) : State).on (akey (agCode (Agent.hpb)) FWD_MAC_CMD) FWD_MAC_CMD_GO = false) ∧ (((macTab true false) : State).fwd.flush = none) ∧ ((bset 0x80000005 28 3 4).getLsbD 31 = true) ∧ ((((macTab true false) : State).macCmd (Agent.hpb) (bset 0x80000005 28 3 4)).macOp (Agent.hpb) = 4) := by decide +kernel
theorem wit_MacCommandsAndLearning_macFlushDone : (({ awake [8] with fwd := { (awake [8]).fwd with flush := some (1, 7) } } : State).fwd.flush = some ((1), (7))) ∧ (({ awake [8] with fwd := { (awake [8]).fwd with flush := some (1, 7) } } : State).fwd.waiting = []) := by decide +kernel
theorem wit_MacCommandsAndLearning_macLearn_c9 : (((macTab false true) : State).fwd.learnQ = ((5), (9), (3)) :: (([] : List (Nat × Nat × Nat)))) ∧ (((macTab false true) : State).fwd.moveQ = []) ∧ (((macTab false true) : State).fwd.flush = none) ∧ (((macTab false true) : State).macFind (5) (9) = none) ∧ ((macWays (5) (9)).find? (fun (macPos) => !((macTab false true) : State).macVal (macPos)) = some (macPos)) := by decide +kernel
theorem wit_MacCommandsAndLearning_macLearn_c10 : (((macTab true true) : State).fwd.learnQ = ((5), (9), (3)) :: (([] : List (Nat × Nat × Nat)))) ∧ (((macTab true true) : State).fwd.moveQ = []) ∧ (((macTab true true) : State).fwd.flush = none) ∧ (((macTab true true) : State).macFind (5) (9) = some (macPos)) := by decide +kernel
theorem wit_MacCommandsAndLearning_macMove : (({ macTab true false with fwd := { (macTab true false).fwd with moveQ := [(5, 9, 8)] } } : State).fwd.moveQ = ((5), (9), (8)) :: (([] : List (Nat × Nat × Nat)))) ∧ (({ macTab true false with fwd := { (macTab true false).fwd with moveQ := [(5, 9, 8)] } } : State).fwd.flush = none) ∧ (({ macTab true false with fwd := { (macTab true false).fwd with moveQ := [(5, 9, 8)] } } : State).macFind (5) (9) = some (macPos)) ∧ (({ macTab true false with fwd := { (macTab true false).fwd with moveQ := [(5, 9, 8)] } } : State).macStatic (macPos) = false) := by decide +kernel
theorem wit_MacCommandsAndLearning_macAgeVisit_c12 : ((({ macTab true false with now := 2 ^ 41 }.p FWD_CTL FWD_CTL_AGE_EN 1 |>.p (fkey (FWD_BD 5)) FWD_BD_AGE_EN 1).p (FWD_MAC0 macPos) FWD_MAC0_HIT 1 : State).on FWD_CTL FWD_CTL_AGE_EN = true) ∧ ((({ macTab true false with now := 2 ^ 41 }.p FWD_CTL FWD_CTL_AGE_EN 1 |>.p (fkey (FWD_BD 5)) FWD_BD_AGE_EN 1).p (FWD_MAC0 macPos) FWD_MAC0_HIT 1 : State).fwd.ageAt.look ((⟨macPos, by decide +kernel⟩ : Fin 1048576)) + max ((({ macTab true false with now := 2 ^ 41 }.p FWD_CTL FWD_CTL_AGE_EN 1 |>.p (fkey (FWD_BD 5)) FWD_BD_AGE_EN 1).p (FWD_MAC0 macPos) FWD_MAC0_HIT 1 : State).g FWD_CTL FWD_CTL_AGE_S) 1 * 1000000000 ≤ (({ macTab true false with now := 2 ^ 41 }.p FWD_CTL FWD_CTL_AGE_EN 1 |>.p (fkey (FWD_BD 5)) FWD_BD_AGE_EN 1).p (FWD_MAC0 macPos) FWD_MAC0_HIT 1 : State).now) ∧ ((({ macTab true false with now := 2 ^ 41 }.p FWD_CTL FWD_CTL_AGE_EN 1 |>.p (fkey (FWD_BD 5)) FWD_BD_AGE_EN 1).p (FWD_MAC0 macPos) FWD_MAC0_HIT 1 : State).cyc.hits.look ((⟨macPos, by decide +kernel⟩ : Fin 1048576)) = false) ∧ ((({ macTab true false with now := 2 ^ 41 }.p FWD_CTL FWD_CTL_AGE_EN 1 |>.p (fkey (FWD_BD 5)) FWD_BD_AGE_EN 1).p (FWD_MAC0 macPos) FWD_MAC0_HIT 1 : State).macVal ((⟨macPos, by decide +kernel⟩ : Fin 1048576)) = true) ∧ ((({ macTab true false with now := 2 ^ 41 }.p FWD_CTL FWD_CTL_AGE_EN 1 |>.p (fkey (FWD_BD 5)) FWD_BD_AGE_EN 1).p (FWD_MAC0 macPos) FWD_MAC0_HIT 1 : State).macStatic ((⟨macPos, by decide +kernel⟩ : Fin 1048576)) = false) ∧ ((({ macTab true false with now := 2 ^ 41 }.p FWD_CTL FWD_CTL_AGE_EN 1 |>.p (fkey (FWD_BD 5)) FWD_BD_AGE_EN 1).p (FWD_MAC0 macPos) FWD_MAC0_HIT 1 : State).on (fkey (FWD_BD ((({ macTab true false with now := 2 ^ 41 }.p FWD_CTL FWD_CTL_AGE_EN 1 |>.p (fkey (FWD_BD 5)) FWD_BD_AGE_EN 1).p (FWD_MAC0 macPos) FWD_MAC0_HIT 1 : State).macBd ((⟨macPos, by decide +kernel⟩ : Fin 1048576))))) FWD_BD_AGE_EN = true) ∧ ((({ macTab true false with now := 2 ^ 41 }.p FWD_CTL FWD_CTL_AGE_EN 1 |>.p (fkey (FWD_BD 5)) FWD_BD_AGE_EN 1).p (FWD_MAC0 macPos) FWD_MAC0_HIT 1 : State).on (FWD_MAC0 ((⟨macPos, by decide +kernel⟩ : Fin 1048576))) FWD_MAC0_HIT = true) := by decide +kernel
theorem wit_MacCommandsAndLearning_macAgeVisit_c13 : ((({ macTab true false with now := 2 ^ 41 }.p FWD_CTL FWD_CTL_AGE_EN 1 |>.p (fkey (FWD_BD 5)) FWD_BD_AGE_EN 1) : State).on FWD_CTL FWD_CTL_AGE_EN = true) ∧ ((({ macTab true false with now := 2 ^ 41 }.p FWD_CTL FWD_CTL_AGE_EN 1 |>.p (fkey (FWD_BD 5)) FWD_BD_AGE_EN 1) : State).fwd.ageAt.look ((⟨macPos, by decide +kernel⟩ : Fin 1048576)) + max ((({ macTab true false with now := 2 ^ 41 }.p FWD_CTL FWD_CTL_AGE_EN 1 |>.p (fkey (FWD_BD 5)) FWD_BD_AGE_EN 1) : State).g FWD_CTL FWD_CTL_AGE_S) 1 * 1000000000 ≤ (({ macTab true false with now := 2 ^ 41 }.p FWD_CTL FWD_CTL_AGE_EN 1 |>.p (fkey (FWD_BD 5)) FWD_BD_AGE_EN 1) : State).now) ∧ ((({ macTab true false with now := 2 ^ 41 }.p FWD_CTL FWD_CTL_AGE_EN 1 |>.p (fkey (FWD_BD 5)) FWD_BD_AGE_EN 1) : State).cyc.hits.look ((⟨macPos, by decide +kernel⟩ : Fin 1048576)) = false) ∧ ((({ macTab true false with now := 2 ^ 41 }.p FWD_CTL FWD_CTL_AGE_EN 1 |>.p (fkey (FWD_BD 5)) FWD_BD_AGE_EN 1) : State).macVal ((⟨macPos, by decide +kernel⟩ : Fin 1048576)) = true) ∧ ((({ macTab true false with now := 2 ^ 41 }.p FWD_CTL FWD_CTL_AGE_EN 1 |>.p (fkey (FWD_BD 5)) FWD_BD_AGE_EN 1) : State).macStatic ((⟨macPos, by decide +kernel⟩ : Fin 1048576)) = false) ∧ ((({ macTab true false with now := 2 ^ 41 }.p FWD_CTL FWD_CTL_AGE_EN 1 |>.p (fkey (FWD_BD 5)) FWD_BD_AGE_EN 1) : State).on (fkey (FWD_BD ((({ macTab true false with now := 2 ^ 41 }.p FWD_CTL FWD_CTL_AGE_EN 1 |>.p (fkey (FWD_BD 5)) FWD_BD_AGE_EN 1) : State).macBd ((⟨macPos, by decide +kernel⟩ : Fin 1048576))))) FWD_BD_AGE_EN = true) ∧ ((({ macTab true false with now := 2 ^ 41 }.p FWD_CTL FWD_CTL_AGE_EN 1 |>.p (fkey (FWD_BD 5)) FWD_BD_AGE_EN 1) : State).on (FWD_MAC0 ((⟨macPos, by decide +kernel⟩ : Fin 1048576))) FWD_MAC0_HIT = false) := by decide +kernel
theorem wit_MacCommandsAndLearning_macAgeVisit_c14 : (((({ macTab true false with now := 2 ^ 41 }.p FWD_CTL FWD_CTL_AGE_EN 1 |>.p (fkey (FWD_BD 5)) FWD_BD_AGE_EN 1).macHit macPos) : State).on FWD_CTL FWD_CTL_AGE_EN = true) ∧ (((({ macTab true false with now := 2 ^ 41 }.p FWD_CTL FWD_CTL_AGE_EN 1 |>.p (fkey (FWD_BD 5)) FWD_BD_AGE_EN 1).macHit macPos) : State).fwd.ageAt.look ((⟨macPos, by decide +kernel⟩ : Fin 1048576)) + max (((({ macTab true false with now := 2 ^ 41 }.p FWD_CTL FWD_CTL_AGE_EN 1 |>.p (fkey (FWD_BD 5)) FWD_BD_AGE_EN 1).macHit macPos) : State).g FWD_CTL FWD_CTL_AGE_S) 1 * 1000000000 ≤ ((({ macTab true false with now := 2 ^ 41 }.p FWD_CTL FWD_CTL_AGE_EN 1 |>.p (fkey (FWD_BD 5)) FWD_BD_AGE_EN 1).macHit macPos) : State).now) ∧ (((({ macTab true false with now := 2 ^ 41 }.p FWD_CTL FWD_CTL_AGE_EN 1 |>.p (fkey (FWD_BD 5)) FWD_BD_AGE_EN 1).macHit macPos) : State).cyc.hits.look ((⟨macPos, by decide +kernel⟩ : Fin 1048576)) = true) := by decide +kernel
theorem wit_MacCommandsAndLearning_macAgeVisit_c15 : ((((macTab true false) : State).on FWD_CTL FWD_CTL_AGE_EN = false ∨ ((macTab true false) : State).now < ((macTab true false) : State).fwd.ageAt.look ((⟨macPos, by decide +kernel⟩ : Fin 1048576)) + max (((macTab true false) : State).g FWD_CTL FWD_CTL_AGE_S) 1 * 1000000000)) := by decide +kernel
theorem wit_RouteCommands_routeAdd_c0 : ((rtTab : State).reaches (Agent.hpa) FWD_RT_CMD = true) ∧ ((rtWord 1 8).getLsbD 31 = true) ∧ (((rtTab : State).rtCmd (Agent.hpa) (rtWord 1 8)).g (akey (agCode (Agent.hpa)) FWD_RT_CMD) FWD_RT_CMD_OP = 1) ∧ (((rtTab : State).rtCmd (Agent.hpa) (rtWord 1 8)).g (akey (agCode (Agent.hpa)) FWD_RT_CMD) FWD_RT_CMD_LEN ≤ addrBits (((rtTab : State).rtCmd (Agent.hpa) (rtWord 1 8)).on (akey (agCode (Agent.hpa)) FWD_RT_CMD) FWD_RT_CMD_V6)) ∧ ((∀ b : Fin 2, (bit (((rtTab : State).rtCmd (Agent.hpa) (rtWord 1 8)).g (akey (agCode (Agent.hpa)) FWD_RT_CMD) FWD_RT_CMD_BANKS) b) = true → bankFits (routeDrop ((rtTab : State).fwd.routes.look b) (((rtTab : State).rtCmd (Agent.hpa) (rtWord 1 8)).rtPrefix (Agent.hpa)) ++ [((rtTab : State).rtCmd (Agent.hpa) (rtWord 1 8)).rtPrefix (Agent.hpa)]) = (true, true))) := by decide +kernel
theorem wit_RouteCommands_routeDel : ((rtTab : State).reaches (Agent.hpa) FWD_RT_CMD = true) ∧ ((rtWord 2 8).getLsbD 31 = true) ∧ (((rtTab : State).rtCmd (Agent.hpa) (rtWord 2 8)).g (akey (agCode (Agent.hpa)) FWD_RT_CMD) FWD_RT_CMD_OP = 2) ∧ (((rtTab : State).rtCmd (Agent.hpa) (rtWord 2 8)).g (akey (agCode (Agent.hpa)) FWD_RT_CMD) FWD_RT_CMD_LEN ≤ addrBits (((rtTab : State).rtCmd (Agent.hpa) (rtWord 2 8)).on (akey (agCode (Agent.hpa)) FWD_RT_CMD) FWD_RT_CMD_V6)) := by decide +kernel
theorem wit_RouteCommands_routeDel_w1 : ((rtTab : State).reaches (Agent.hpa) FWD_RT_CMD = true) ∧ ((rtWord 2 9).getLsbD 31 = true) ∧ (((rtTab : State).rtCmd (Agent.hpa) (rtWord 2 9)).g (akey (agCode (Agent.hpa)) FWD_RT_CMD) FWD_RT_CMD_OP = 2) ∧ (((rtTab : State).rtCmd (Agent.hpa) (rtWord 2 9)).g (akey (agCode (Agent.hpa)) FWD_RT_CMD) FWD_RT_CMD_LEN ≤ addrBits (((rtTab : State).rtCmd (Agent.hpa) (rtWord 2 9)).on (akey (agCode (Agent.hpa)) FWD_RT_CMD) FWD_RT_CMD_V6)) := by decide +kernel
theorem wit_RouteCommands_routeLookup : ((rtTab : State).reaches (Agent.hpa) FWD_RT_CMD = true) ∧ ((rtWord 3 8).getLsbD 31 = true) ∧ (((rtTab : State).rtCmd (Agent.hpa) (rtWord 3 8)).g (akey (agCode (Agent.hpa)) FWD_RT_CMD) FWD_RT_CMD_OP = 3) ∧ (((rtTab : State).rtCmd (Agent.hpa) (rtWord 3 8)).g (akey (agCode (Agent.hpa)) FWD_RT_CMD) FWD_RT_CMD_LEN ≤ addrBits (((rtTab : State).rtCmd (Agent.hpa) (rtWord 3 8)).on (akey (agCode (Agent.hpa)) FWD_RT_CMD) FWD_RT_CMD_V6)) ∧ ((0) < 2) ∧ (bit (((rtTab : State).rtCmd (Agent.hpa) (rtWord 3 8)).g (akey (agCode (Agent.hpa)) FWD_RT_CMD) FWD_RT_CMD_BANKS) (0) = true) ∧ ((∀ j : Fin 2, j.val < (0) → bit (((rtTab : State).rtCmd (Agent.hpa) (rtWord 3 8)).g (akey (agCode (Agent.hpa)) FWD_RT_CMD) FWD_RT_CMD_BANKS) j = false)) ∧ ((rtTab : State).routeFind (0) (((rtTab : State).rtCmd (Agent.hpa) (rtWord 3 8)).g (akey (agCode (Agent.hpa)) FWD_RT_CMD) FWD_RT_CMD_VRF) (((rtTab : State).rtCmd (Agent.hpa) (rtWord 3 8)).on (akey (agCode (Agent.hpa)) FWD_RT_CMD) FWD_RT_CMD_V6) (((rtTab : State).rtCmd (Agent.hpa) (rtWord 3 8)).rtAddr (Agent.hpa)) = some (77)) := by decide +kernel
theorem wit_RouteCommands_routeAdd_c3 : ((rtTab : State).reaches (Agent.hpa) FWD_RT_CMD = true) ∧ ((rtWord 1 33).getLsbD 31 = true) ∧ ((((rtTab : State).rtCmd (Agent.hpa) (rtWord 1 33)).g (akey (agCode (Agent.hpa)) FWD_RT_CMD) FWD_RT_CMD_OP = 0 ∨ 3 < ((rtTab : State).rtCmd (Agent.hpa) (rtWord 1 33)).g (akey (agCode (Agent.hpa)) FWD_RT_CMD) FWD_RT_CMD_OP ∨ addrBits (((rtTab : State).rtCmd (Agent.hpa) (rtWord 1 33)).on (akey (agCode (Agent.hpa)) FWD_RT_CMD) FWD_RT_CMD_V6) < ((rtTab : State).rtCmd (Agent.hpa) (rtWord 1 33)).g (akey (agCode (Agent.hpa)) FWD_RT_CMD) FWD_RT_CMD_LEN)) := by decide +kernel
theorem wit_RouteCommands_routeAdd_c3_w1 : ((rtTab : State).reaches (Agent.hpa) FWD_RT_CMD = true) ∧ ((rtWord 4 8).getLsbD 31 = true) ∧ ((((rtTab : State).rtCmd (Agent.hpa) (rtWord 4 8)).g (akey (agCode (Agent.hpa)) FWD_RT_CMD) FWD_RT_CMD_OP = 0 ∨ 3 < ((rtTab : State).rtCmd (Agent.hpa) (rtWord 4 8)).g (akey (agCode (Agent.hpa)) FWD_RT_CMD) FWD_RT_CMD_OP ∨ addrBits (((rtTab : State).rtCmd (Agent.hpa) (rtWord 4 8)).on (akey (agCode (Agent.hpa)) FWD_RT_CMD) FWD_RT_CMD_V6) < ((rtTab : State).rtCmd (Agent.hpa) (rtWord 4 8)).g (akey (agCode (Agent.hpa)) FWD_RT_CMD) FWD_RT_CMD_LEN)) := by decide +kernel
theorem wit_FramesThroughPipelineAndTrafficManager_pipelineFrame_c0 : ((piping [(⟨40, 0, 0, 0, List.replicate 64 7, 0, none⟩ : PFrame), (⟨40, 0, 0, 0, List.replicate 64 7, 0, none⟩ : PFrame)] [] : State).cls.fifo.look ((3 : Fin 8)) = ((⟨40, 0, 0, 0, List.replicate 64 7, 0, none⟩ : PFrame)) :: ([(⟨40, 0, 0, 0, List.replicate 64 7, 0, none⟩ : PFrame)])) ∧ ((piping [(⟨40, 0, 0, 0, List.replicate 64 7, 0, none⟩ : PFrame), (⟨40, 0, 0, 0, List.replicate 64 7, 0, none⟩ : PFrame)] [] : State).pipeWire ((3 : Fin 8)) = some ((⟨0x22, 3, [0, 0, 0]⟩ : Rec))) ∧ ((piping [(⟨40, 0, 0, 0, List.replicate 64 7, 0, none⟩ : PFrame), (⟨40, 0, 0, 0, List.replicate 64 7, 0, none⟩ : PFrame)] [] : State).cls.second.look ((3 : Fin 8)) = []) ∧ (((⟨40, 0, 0, 0, List.replicate 64 7, 0, none⟩ : PFrame)).pass2 = none) := by decide +kernel
theorem wit_FramesThroughPipelineAndTrafficManager_pipelineFrame_c1 : ((piping [(⟨40, 0, 0, 0, List.replicate 64 7, 0, none⟩ : PFrame), (⟨40, 0, 0, 0, List.replicate 64 7, 0, none⟩ : PFrame)] [(⟨40, 0, 0, 0, List.replicate 64 7, 0, (some 1)⟩ : PFrame)] : State).cls.fifo.look ((3 : Fin 8)) = ((⟨40, 0, 0, 0, List.replicate 64 7, 0, none⟩ : PFrame)) :: ([(⟨40, 0, 0, 0, List.replicate 64 7, 0, none⟩ : PFrame)])) ∧ ((piping [(⟨40, 0, 0, 0, List.replicate 64 7, 0, none⟩ : PFrame), (⟨40, 0, 0, 0, List.replicate 64 7, 0, none⟩ : PFrame)] [(⟨40, 0, 0, 0, List.replicate 64 7, 0, (some 1)⟩ : PFrame)] : State).pipeWire ((3 : Fin 8)) = some ((⟨0x22, 3, [0, 0, 0]⟩ : Rec))) ∧ ((piping [(⟨40, 0, 0, 0, List.replicate 64 7, 0, none⟩ : PFrame), (⟨40, 0, 0, 0, List.replicate 64 7, 0, none⟩ : PFrame)] [(⟨40, 0, 0, 0, List.replicate 64 7, 0, (some 1)⟩ : PFrame)] : State).cls.second.look ((3 : Fin 8)) ≠ []) := by decide +kernel
theorem wit_FramesThroughPipelineAndTrafficManager_secondPassReentry : ((piping [] [(⟨40, 0, 0, 0, List.replicate 64 7, 0, (some 5)⟩ : PFrame)] : State).cls.second.look ((3 : Fin 8)) = ((⟨40, 0, 0, 0, List.replicate 64 7, 0, (some 5)⟩ : PFrame)) :: (([] : List PFrame))) ∧ ((piping [] [(⟨40, 0, 0, 0, List.replicate 64 7, 0, (some 5)⟩ : PFrame)] : State).pipeWire ((3 : Fin 8)) = some ((⟨0x22, 3, [0, 0, 0]⟩ : Rec))) ∧ (((⟨40, 0, 0, 0, List.replicate 64 7, 0, (some 5)⟩ : PFrame)).pass2.isSome = true) := by decide +kernel
theorem wit_FramesThroughPipelineAndTrafficManager_ruleCommit_c3 : (((committing 9) : State).reaches (Agent.hpb) CLS_COMMIT = true) ∧ ((0x80000004#32).getLsbD 31 = true) ∧ (((committing 9) : State).cls.commits.any (fun x => decide (x.agent = agCode (Agent.hpb))) = false) ∧ ((((committing 9) : State).wr (akey (agCode (Agent.hpb)) CLS_COMMIT) (word ((0x80000004#32).toNat &&& 0x7FFFFFFF))).commitCode (agCode (Agent.hpb)) = 0) := by decide +kernel
theorem wit_FramesThroughPipelineAndTrafficManager_ruleCommit_c4 : (((committing 300) : State).reaches (Agent.hpb) CLS_COMMIT = true) ∧ ((0x80000004#32).getLsbD 31 = true) ∧ (((committing 300) : State).cls.commits.any (fun x => decide (x.agent = agCode (Agent.hpb))) = false) ∧ ((((committing 300) : State).wr (akey (agCode (Agent.hpb)) CLS_COMMIT) (word ((0x80000004#32).toNat &&& 0x7FFFFFFF))).commitCode (agCode (Agent.hpb)) ≠ 0) := by decide +kernel
theorem wit_FramesThroughPipelineAndTrafficManager_frameAdmit_c7 : ((handing 100 : State).tmg.handoff = ((handed 131080)) :: ([handed 7])) ∧ ((∀ x ∈ ([handed 7]), x.cyc ≠ ((handed 131080)).cyc)) ∧ (((handed 131080)).mirror = false) ∧ (((handed 131080)).mark = none) ∧ (((handed 131080)).kind = 1) ∧ (((handed 131080)).arg < 163840) ∧ (((handed 131080)).policer = 0) ∧ ((handing 100 : State).admitCheck ((handed 131080)).arg 0 ((handed 131080)).bytes.length false = none) ∧ ((handing 100 : State).freeBuf (poolFor ((handed 131080)).bytes.length) = some (0)) := by decide +kernel
theorem wit_FramesThroughPipelineAndTrafficManager_frameAdmit_c8 : ((handing 0 : State).tmg.handoff = ((handed 131080)) :: ([handed 7])) ∧ ((∀ x ∈ ([handed 7]), x.cyc ≠ ((handed 131080)).cyc)) ∧ (((handed 131080)).mirror = false) ∧ (((handed 131080)).mark = none) ∧ (((handed 131080)).kind = 1) ∧ (((handed 131080)).arg < 163840) ∧ (((handed 131080)).policer = 0) ∧ ((handing 0 : State).admitCheck ((handed 131080)).arg 0 ((handed 131080)).bytes.length false = some (TMG_QFULL)) := by decide +kernel
theorem wit_FramesThroughPipelineAndTrafficManager_frameAdmit_c9 : (((policing 9) : State).tmg.handoff = ({ handed 131080 with policer := 9 }) :: ([handed 7])) ∧ ((∀ x ∈ ([handed 7]), x.cyc ≠ ({ handed 131080 with policer := 9 }).cyc)) ∧ (({ handed 131080 with policer := 9 }).mirror = false) ∧ (({ handed 131080 with policer := 9 }).mark = none) ∧ (({ handed 131080 with policer := 9 }).kind = 1) ∧ (({ handed 131080 with policer := 9 }).arg < 163840) ∧ ((((policing 9) : State).police ({ handed 131080 with policer := 9 }).policer ({ handed 131080 with policer := 9 }).bytes.length).2 = 2) := by decide +kernel
theorem wit_FramesThroughPipelineAndTrafficManager_frameAdmit_c11 : (({ awake [9] with tmg := { (awake []).tmg with handoff := [trapped, handed 7] } } : State).tmg.handoff = ((trapped)) :: ([handed 7])) ∧ ((∀ x ∈ ([handed 7]), x.cyc ≠ ((trapped)).cyc)) ∧ (((trapped)).mirror = false) ∧ (((trapped)).mark = none) ∧ (((trapped)).kind = 2) ∧ ((({ awake [9] with tmg := { (awake []).tmg with handoff := [trapped, handed 7] } } : State).g TMG_TRAP_CTL TMG_TRAP_CTL_TRAP_KPPS * 1000 ≤ (if ({ awake [9] with tmg := { (awake []).tmg with handoff := [trapped, handed 7] } } : State).tmg.trap.1 = ({ awake [9] with tmg := { (awake []).tmg with handoff := [trapped, handed 7] } } : State).now / 1000000000 + 1 then ({ awake [9] with tmg := { (awake []).tmg with handoff := [trapped, handed 7] } } : State).tmg.trap.2 else 0) ∨ (2 ^ max 4 (min 16 (({ awake [9] with tmg := { (awake []).tmg with handoff := [trapped, handed 7] } } : State).g TMG_TRAP_CTL TMG_TRAP_CTL_LOG2))) ≤ (({ awake [9] with tmg := { (awake []).tmg with handoff := [trapped, handed 7] } } : State).rd TMG_TRAP_WR - ({ awake [9] with tmg := { (awake []).tmg with handoff := [trapped, handed 7] } } : State).rd TMG_TRAP_RD).toNat ∨ ({ awake [9] with tmg := { (awake []).tmg with handoff := [trapped, handed 7] } } : State).ddrUp = false)) := by decide +kernel
theorem wit_FramesThroughPipelineAndTrafficManager_frameAdmit_c11_w1 : ((trapping.wr TMG_TRAP_RD 1 : State).tmg.handoff = ((trapped)) :: ([handed 7])) ∧ ((∀ x ∈ ([handed 7]), x.cyc ≠ ((trapped)).cyc)) ∧ (((trapped)).mirror = false) ∧ (((trapped)).mark = none) ∧ (((trapped)).kind = 2) ∧ (((trapping.wr TMG_TRAP_RD 1 : State).g TMG_TRAP_CTL TMG_TRAP_CTL_TRAP_KPPS * 1000 ≤ (if (trapping.wr TMG_TRAP_RD 1 : State).tmg.trap.1 = (trapping.wr TMG_TRAP_RD 1 : State).now / 1000000000 + 1 then (trapping.wr TMG_TRAP_RD 1 : State).tmg.trap.2 else 0) ∨ (2 ^ max 4 (min 16 ((trapping.wr TMG_TRAP_RD 1 : State).g TMG_TRAP_CTL TMG_TRAP_CTL_LOG2))) ≤ ((trapping.wr TMG_TRAP_RD 1 : State).rd TMG_TRAP_WR - (trapping.wr TMG_TRAP_RD 1 : State).rd TMG_TRAP_RD).toNat ∨ (trapping.wr TMG_TRAP_RD 1 : State).ddrUp = false)) := by decide +kernel
theorem wit_FramesThroughPipelineAndTrafficManager_bufferFree_c13 : ((({ awake [9, 10] with tmg := { (awake []).tmg with bufs := [(2 ^ 32 + 5, ⟨[1], 1, some 65, true⟩)] } } : State).tmg.bufs.look (((1 : Fin 8)) * 2 ^ 32 + (5))).copies = 1) ∧ ((({ awake [9, 10] with tmg := { (awake []).tmg with bufs := [(2 ^ 32 + 5, ⟨[1], 1, some 65, true⟩)] } } : State).tmg.bufs.look (((1 : Fin 8)) * 2 ^ 32 + (5))).owner = some (65)) ∧ ((({ awake [9, 10] with tmg := { (awake []).tmg with bufs := [(2 ^ 32 + 5, ⟨[1], 1, some 65, true⟩)] } } : State).tmg.bufs.look (((1 : Fin 8)) * 2 ^ 32 + (5))).departed = true) ∧ (({ awake [9, 10] with tmg := { (awake []).tmg with bufs := [(2 ^ 32 + 5, ⟨[1], 1, some 65, true⟩)] } } : State).bufLost ((((1 : Fin 8)) * 2 ^ 32 + (5)) / 2 ^ 32) ((((1 : Fin 8)) * 2 ^ 32 + (5)) % 2 ^ 32) = false) ∧ ((5) < 2 ^ 32) ∧ (({ awake [9, 10] with tmg := { (awake []).tmg with bufs := [(2 ^ 32 + 5, ⟨[1], 1, some 65, true⟩)] } } : State).g (BPM_POOL ((1 : Fin 8))) BPM_POOL_FREE < 2 ^ 32 - 1) := by decide +kernel
theorem wit_FramesThroughPipelineAndTrafficManager_bufferFree_c14 : (((({ awake [9, 10] with tmg := { (awake []).tmg with bufs := [(2 ^ 32 + 5, ⟨[1], 1, some 65, true⟩)] } } : State).tmg.bufs.look (((1 : Fin 8)) * 2 ^ 32 + (5))).copies ≠ 1 ∨ (({ awake [9, 10] with tmg := { (awake []).tmg with bufs := [(2 ^ 32 + 5, ⟨[1], 1, some 65, true⟩)] } } : State).tmg.bufs.look (((1 : Fin 8)) * 2 ^ 32 + (5))).owner ≠ some (66))) := by decide +kernel
theorem wit_FramesThroughPipelineAndTrafficManager_bufferFree_c14_w1 : (((({ awake [9, 10] with tmg := { (awake []).tmg with bufs := [(2 ^ 32 + 5, ⟨[1], 2, none, true⟩)] } } : State).tmg.bufs.look (((1 : Fin 8)) * 2 ^ 32 + (5))).copies ≠ 1 ∨ (({ awake [9, 10] with tmg := { (awake []).tmg with bufs := [(2 ^ 32 + 5, ⟨[1], 2, none, true⟩)] } } : State).tmg.bufs.look (((1 : Fin 8)) * 2 ^ 32 + (5))).owner ≠ some (65))) := by decide +kernel
theorem wit_FramesThroughPipelineAndTrafficManager_bufferFree_c15 : ((({ awake [9, 10] with tmg := { (awake []).tmg with bufs := [(2 ^ 32 + 5, ⟨[1], 1, some 65, false⟩)] } } : State).tmg.bufs.look (((1 : Fin 8)) * 2 ^ 32 + (5))).copies = 1) ∧ ((({ awake [9, 10] with tmg := { (awake []).tmg with bufs := [(2 ^ 32 + 5, ⟨[1], 1, some 65, false⟩)] } } : State).tmg.bufs.look (((1 : Fin 8)) * 2 ^ 32 + (5))).owner = some (65)) ∧ ((({ awake [9, 10] with tmg := { (awake []).tmg with bufs := [(2 ^ 32 + 5, ⟨[1], 1, some 65, false⟩)] } } : State).tmg.bufs.look (((1 : Fin 8)) * 2 ^ 32 + (5))).departed = false) := by decide +kernel
theorem wit_FramesThroughPipelineAndTrafficManager_spillHeadFetch_c16 : (({ awake [9, 10] with tmg := { (awake []).tmg with queues := [(131079, [⟨4 * 2 ^ 32 + 1, 90, 2, none, false, false⟩])], bufs := [(4 * 2 ^ 32 + 1, ⟨[1], 1, some 65, false⟩)] } } : State).queue ((131079 : Fin 163840)) = ((⟨4 * 2 ^ 32 + 1, 90, 2, none, false, false⟩ : QFrame)) :: (([] : List QFrame))) ∧ (((⟨4 * 2 ^ 32 + 1, 90, 2, none, false, false⟩ : QFrame)).onChip = false) ∧ (({ awake [9, 10] with tmg := { (awake []).tmg with queues := [(131079, [⟨4 * 2 ^ 32 + 1, 90, 2, none, false, false⟩])], bufs := [(4 * 2 ^ 32 + 1, ⟨[1], 1, some 65, false⟩)] } } : State).spillDebt = 0) := by decide +kernel
theorem wit_FramesThroughPipelineAndTrafficManager_spillHeadFetch_c17 : (({ awake [9, 10] with tmg := { (awake []).tmg with queues := [(131079, [⟨4 * 2 ^ 32 + 1, 90, 2, none, false, false⟩])], bufs := [(4 * 2 ^ 32 + 1, ⟨[1], 1, some 65, false⟩)] } } : State).queue ((131079 : Fin 163840)) = ((⟨4 * 2 ^ 32 + 1, 90, 2, none, false, false⟩ : QFrame)) :: (([] : List QFrame))) ∧ (((⟨4 * 2 ^ 32 + 1, 90, 2, none, false, false⟩ : QFrame)).onChip = false) ∧ (({ awake [9, 10] with tmg := { (awake []).tmg with queues := [(131079, [⟨4 * 2 ^ 32 + 1, 90, 2, none, false, false⟩])], bufs := [(4 * 2 ^ 32 + 1, ⟨[1], 1, some 65, false⟩)] } } : State).spillDebt = 0) := by decide +kernel
theorem wit_FramesThroughPipelineAndTrafficManager_uportWrite_c18 : ((awake [9] : State).reaches (Agent.hpa) (TMG_UPORT ((5 : Fin 32))) = true) := by decide +kernel
theorem wit_FramesThroughPipelineAndTrafficManager_uportWrite_c19 : (((awake [9]).wr (TMG_UPORT 5) 32760 : State).reaches (Agent.hpa) (TMG_UPORT ((5 : Fin 32)) + 4) = true) ∧ (((((awake [9]).wr (TMG_UPORT 5) 32760 : State).wrRW (TMG_UPORT ((5 : Fin 32)) + 4) (0x00000008#32)).g (TMG_UPORT ((5 : Fin 32))) TMG_UPORT_UBASE) + ((((awake [9]).wr (TMG_UPORT 5) 32760 : State).wrRW (TMG_UPORT ((5 : Fin 32)) + 4) (0x00000008#32)).g (TMG_UPORT ((5 : Fin 32))) TMG_UPORT_USIZE) ≤ 32768) ∧ ((∀ k : Fin 32, ¬ (k ≠ ((5 : Fin 32)) ∧ ((((awake [9]).wr (TMG_UPORT 5) 32760 : State).wrRW (TMG_UPORT ((5 : Fin 32)) + 4) (0x00000008#32)).g (TMG_UPORT ((5 : Fin 32))) TMG_UPORT_USIZE) ≠ 0 ∧ ((awake [9]).wr (TMG_UPORT 5) 32760 : State).g (fkey (TMG_UPORT k)) TMG_UPORT_USIZE ≠ 0 ∧ ((((awake [9]).wr (TMG_UPORT 5) 32760 : State).wrRW (TMG_UPORT ((5 : Fin 32)) + 4) (0x00000008#32)).g (TMG_UPORT ((5 : Fin 32))) TMG_UPORT_UBASE) < ((awake [9]).wr (TMG_UPORT 5) 32760 : State).g (fkey (TMG_UPORT k)) TMG_UPORT_UBASE + ((awake [9]).wr (TMG_UPORT 5) 32760 : State).g (fkey (TMG_UPORT k)) TMG_UPORT_USIZE ∧ ((awake [9]).wr (TMG_UPORT 5) 32760 : State).g (fkey (TMG_UPORT k)) TMG_UPORT_UBASE < ((((awake [9]).wr (TMG_UPORT 5) 32760 : State).wrRW (TMG_UPORT ((5 : Fin 32)) + 4) (0x00000008#32)).g (TMG_UPORT ((5 : Fin 32))) TMG_UPORT_UBASE) + ((((awake [9]).wr (TMG_UPORT 5) 32760 : State).wrRW (TMG_UPORT ((5 : Fin 32)) + 4) (0x00000008#32)).g (TMG_UPORT ((5 : Fin 32))) TMG_UPORT_USIZE)))) := by decide +kernel
theorem wit_FramesThroughPipelineAndTrafficManager_uportWrite_c19_w1 : ((((awake [9]).wr (TMG_UPORT 5) 8).wr (fkey (TMG_UPORT 6) + 4) 8 : State).reaches (Agent.hpa) (TMG_UPORT ((5 : Fin 32)) + 4) = true) ∧ ((((((awake [9]).wr (TMG_UPORT 5) 8).wr (fkey (TMG_UPORT 6) + 4) 8 : State).wrRW (TMG_UPORT ((5 : Fin 32)) + 4) (0x00000008#32)).g (TMG_UPORT ((5 : Fin 32))) TMG_UPORT_UBASE) + (((((awake [9]).wr (TMG_UPORT 5) 8).wr (fkey (TMG_UPORT 6) + 4) 8 : State).wrRW (TMG_UPORT ((5 : Fin 32)) + 4) (0x00000008#32)).g (TMG_UPORT ((5 : Fin 32))) TMG_UPORT_USIZE) ≤ 32768) ∧ ((∀ k : Fin 32, ¬ (k ≠ ((5 : Fin 32)) ∧ (((((awake [9]).wr (TMG_UPORT 5) 8).wr (fkey (TMG_UPORT 6) + 4) 8 : State).wrRW (TMG_UPORT ((5 : Fin 32)) + 4) (0x00000008#32)).g (TMG_UPORT ((5 : Fin 32))) TMG_UPORT_USIZE) ≠ 0 ∧ (((awake [9]).wr (TMG_UPORT 5) 8).wr (fkey (TMG_UPORT 6) + 4) 8 : State).g (fkey (TMG_UPORT k)) TMG_UPORT_USIZE ≠ 0 ∧ (((((awake [9]).wr (TMG_UPORT 5) 8).wr (fkey (TMG_UPORT 6) + 4) 8 : State).wrRW (TMG_UPORT ((5 : Fin 32)) + 4) (0x00000008#32)).g (TMG_UPORT ((5 : Fin 32))) TMG_UPORT_UBASE) < (((awake [9]).wr (TMG_UPORT 5) 8).wr (fkey (TMG_UPORT 6) + 4) 8 : State).g (fkey (TMG_UPORT k)) TMG_UPORT_UBASE + (((awake [9]).wr (TMG_UPORT 5) 8).wr (fkey (TMG_UPORT 6) + 4) 8 : State).g (fkey (TMG_UPORT k)) TMG_UPORT_USIZE ∧ (((awake [9]).wr (TMG_UPORT 5) 8).wr (fkey (TMG_UPORT 6) + 4) 8 : State).g (fkey (TMG_UPORT k)) TMG_UPORT_UBASE < (((((awake [9]).wr (TMG_UPORT 5) 8).wr (fkey (TMG_UPORT 6) + 4) 8 : State).wrRW (TMG_UPORT ((5 : Fin 32)) + 4) (0x00000008#32)).g (TMG_UPORT ((5 : Fin 32))) TMG_UPORT_UBASE) + (((((awake [9]).wr (TMG_UPORT 5) 8).wr (fkey (TMG_UPORT 6) + 4) 8 : State).wrRW (TMG_UPORT ((5 : Fin 32)) + 4) (0x00000008#32)).g (TMG_UPORT ((5 : Fin 32))) TMG_UPORT_USIZE)))) := by decide +kernel
theorem wit_FramesThroughPipelineAndTrafficManager_uportWrite_c20 : (((awake [9]).wr (TMG_UPORT 5) 32761 : State).reaches (Agent.hpa) (TMG_UPORT ((5 : Fin 32)) + 4) = true) ∧ ((32768 < ((((awake [9]).wr (TMG_UPORT 5) 32761 : State).wrRW (TMG_UPORT ((5 : Fin 32)) + 4) (0x00000008#32)).g (TMG_UPORT ((5 : Fin 32))) TMG_UPORT_UBASE) + ((((awake [9]).wr (TMG_UPORT 5) 32761 : State).wrRW (TMG_UPORT ((5 : Fin 32)) + 4) (0x00000008#32)).g (TMG_UPORT ((5 : Fin 32))) TMG_UPORT_USIZE) ∨ (∃ k : Fin 32, (k ≠ ((5 : Fin 32)) ∧ ((((awake [9]).wr (TMG_UPORT 5) 32761 : State).wrRW (TMG_UPORT ((5 : Fin 32)) + 4) (0x00000008#32)).g (TMG_UPORT ((5 : Fin 32))) TMG_UPORT_USIZE) ≠ 0 ∧ ((awake [9]).wr (TMG_UPORT 5) 32761 : State).g (fkey (TMG_UPORT k)) TMG_UPORT_USIZE ≠ 0 ∧ ((((awake [9]).wr (TMG_UPORT 5) 32761 : State).wrRW (TMG_UPORT ((5 : Fin 32)) + 4) (0x00000008#32)).g (TMG_UPORT ((5 : Fin 32))) TMG_UPORT_UBASE) < ((awake [9]).wr (TMG_UPORT 5) 32761 : State).g (fkey (TMG_UPORT k)) TMG_UPORT_UBASE + ((awake [9]).wr (TMG_UPORT 5) 32761 : State).g (fkey (TMG_UPORT k)) TMG_UPORT_USIZE ∧ ((awake [9]).wr (TMG_UPORT 5) 32761 : State).g (fkey (TMG_UPORT k)) TMG_UPORT_UBASE < ((((awake [9]).wr (TMG_UPORT 5) 32761 : State).wrRW (TMG_UPORT ((5 : Fin 32)) + 4) (0x00000008#32)).g (TMG_UPORT ((5 : Fin 32))) TMG_UPORT_UBASE) + ((((awake [9]).wr (TMG_UPORT 5) 32761 : State).wrRW (TMG_UPORT ((5 : Fin 32)) + 4) (0x00000008#32)).g (TMG_UPORT ((5 : Fin 32))) TMG_UPORT_USIZE))))) := by decide +kernel
theorem wit_FramesThroughPipelineAndTrafficManager_uportWrite_c20_w1 : ((((awake [9]).wr (TMG_UPORT 5) 7).wr (fkey (TMG_UPORT 6) + 4) 8 : State).reaches (Agent.hpa) (TMG_UPORT ((5 : Fin 32)) + 4) = true) ∧ ((32768 < (((((awake [9]).wr (TMG_UPORT 5) 7).wr (fkey (TMG_UPORT 6) + 4) 8 : State).wrRW (TMG_UPORT ((5 : Fin 32)) + 4) (0x00000008#32)).g (TMG_UPORT ((5 : Fin 32))) TMG_UPORT_UBASE) + (((((awake [9]).wr (TMG_UPORT 5) 7).wr (fkey (TMG_UPORT 6) + 4) 8 : State).wrRW (TMG_UPORT ((5 : Fin 32)) + 4) (0x00000008#32)).g (TMG_UPORT ((5 : Fin 32))) TMG_UPORT_USIZE) ∨ (∃ k : Fin 32, (k ≠ ((5 : Fin 32)) ∧ (((((awake [9]).wr (TMG_UPORT 5) 7).wr (fkey (TMG_UPORT 6) + 4) 8 : State).wrRW (TMG_UPORT ((5 : Fin 32)) + 4) (0x00000008#32)).g (TMG_UPORT ((5 : Fin 32))) TMG_UPORT_USIZE) ≠ 0 ∧ (((awake [9]).wr (TMG_UPORT 5) 7).wr (fkey (TMG_UPORT 6) + 4) 8 : State).g (fkey (TMG_UPORT k)) TMG_UPORT_USIZE ≠ 0 ∧ (((((awake [9]).wr (TMG_UPORT 5) 7).wr (fkey (TMG_UPORT 6) + 4) 8 : State).wrRW (TMG_UPORT ((5 : Fin 32)) + 4) (0x00000008#32)).g (TMG_UPORT ((5 : Fin 32))) TMG_UPORT_UBASE) < (((awake [9]).wr (TMG_UPORT 5) 7).wr (fkey (TMG_UPORT 6) + 4) 8 : State).g (fkey (TMG_UPORT k)) TMG_UPORT_UBASE + (((awake [9]).wr (TMG_UPORT 5) 7).wr (fkey (TMG_UPORT 6) + 4) 8 : State).g (fkey (TMG_UPORT k)) TMG_UPORT_USIZE ∧ (((awake [9]).wr (TMG_UPORT 5) 7).wr (fkey (TMG_UPORT 6) + 4) 8 : State).g (fkey (TMG_UPORT k)) TMG_UPORT_UBASE < (((((awake [9]).wr (TMG_UPORT 5) 7).wr (fkey (TMG_UPORT 6) + 4) 8 : State).wrRW (TMG_UPORT ((5 : Fin 32)) + 4) (0x00000008#32)).g (TMG_UPORT ((5 : Fin 32))) TMG_UPORT_UBASE) + (((((awake [9]).wr (TMG_UPORT 5) 7).wr (fkey (TMG_UPORT 6) + 4) 8 : State).wrRW (TMG_UPORT ((5 : Fin 32)) + 4) (0x00000008#32)).g (TMG_UPORT ((5 : Fin 32))) TMG_UPORT_USIZE))))) := by decide +kernel
theorem wit_FramesThroughPipelineAndTrafficManager_tmgFlush_c21 : (({ awake [9] with tmg := { (awake []).tmg with queues := [(131080, [⟨7, 100, 0, none, true, false⟩, ⟨8, 50, 0, none, true, false⟩])] } } : State).reaches (Agent.hpa) TMG_FLUSH = true) ∧ ((word (2 ^ 31 + 131080)).getLsbD 31 = true) ∧ (((({ awake [9] with tmg := { (awake []).tmg with queues := [(131080, [⟨7, 100, 0, none, true, false⟩, ⟨8, 50, 0, none, true, false⟩])] } } : State).wrRW TMG_FLUSH (word (2 ^ 31 + 131080))).g TMG_FLUSH TMG_FLUSH_SCOPE = 0 ∨ (({ awake [9] with tmg := { (awake []).tmg with queues := [(131080, [⟨7, 100, 0, none, true, false⟩, ⟨8, 50, 0, none, true, false⟩])] } } : State).wrRW TMG_FLUSH (word (2 ^ 31 + 131080))).g TMG_FLUSH TMG_FLUSH_SCOPE = 3)) ∧ (((({ awake [9] with tmg := { (awake []).tmg with queues := [(131080, [⟨7, 100, 0, none, true, false⟩, ⟨8, 50, 0, none, true, false⟩])] } } : State).wrRW TMG_FLUSH (word (2 ^ 31 + 131080))).g TMG_FLUSH TMG_FLUSH_INDEX) < 163840) := by decide +kernel
theorem wit_FramesThroughPipelineAndTrafficManager_tmgFlush_c21_w1 : (({ awake [9] with tmg := { (awake []).tmg with queues := [(131080, [⟨7, 100, 0, none, true, false⟩, ⟨8, 50, 0, none, true, false⟩])] } } : State).reaches (Agent.hpa) TMG_FLUSH = true) ∧ ((word (2 ^ 31 + 3 * 2 ^ 28 + 131080)).getLsbD 31 = true) ∧ (((({ awake [9] with tmg := { (awake []).tmg with queues := [(131080, [⟨7, 100, 0, none, true, false⟩, ⟨8, 50, 0, none, true, false⟩])] } } : State).wrRW TMG_FLUSH (word (2 ^ 31 + 3 * 2 ^ 28 + 131080))).g TMG_FLUSH TMG_FLUSH_SCOPE = 0 ∨ (({ awake [9] with tmg := { (awake []).tmg with queues := [(131080, [⟨7, 100, 0, none, true, false⟩, ⟨8, 50, 0, none, true, false⟩])] } } : State).wrRW TMG_FLUSH (word (2 ^ 31 + 3 * 2 ^ 28 + 131080))).g TMG_FLUSH TMG_FLUSH_SCOPE = 3)) ∧ (((({ awake [9] with tmg := { (awake []).tmg with queues := [(131080, [⟨7, 100, 0, none, true, false⟩, ⟨8, 50, 0, none, true, false⟩])] } } : State).wrRW TMG_FLUSH (word (2 ^ 31 + 3 * 2 ^ 28 + 131080))).g TMG_FLUSH TMG_FLUSH_INDEX) < 163840) := by decide +kernel
theorem wit_FramesThroughPipelineAndTrafficManager_tmgFlush_c22 : (({ awake [9] with tmg := { (awake []).tmg with queues := [(131071, [⟨7, 100, 0, none, true, false⟩])] } } : State).reaches (Agent.hpa) TMG_FLUSH = true) ∧ ((word (2 ^ 31 + 2 ^ 28 + 63)).getLsbD 31 = true) ∧ ((({ awake [9] with tmg := { (awake []).tmg with queues := [(131071, [⟨7, 100, 0, none, true, false⟩])] } } : State).wrRW TMG_FLUSH (word (2 ^ 31 + 2 ^ 28 + 63))).g TMG_FLUSH TMG_FLUSH_SCOPE = 1) ∧ (((({ awake [9] with tmg := { (awake []).tmg with queues := [(131071, [⟨7, 100, 0, none, true, false⟩])] } } : State).wrRW TMG_FLUSH (word (2 ^ 31 + 2 ^ 28 + 63))).g TMG_FLUSH TMG_FLUSH_INDEX) < 64) := by decide +kernel
theorem wit_FramesThroughPipelineAndTrafficManager_tmgFlush_c23 : (((leavingPort) : State).reaches (Agent.hpa) TMG_FLUSH = true) ∧ ((word (2 ^ 31 + 2 * 2 ^ 28 + 5)).getLsbD 31 = true) ∧ ((((leavingPort) : State).wrRW TMG_FLUSH (word (2 ^ 31 + 2 * 2 ^ 28 + 5))).g TMG_FLUSH TMG_FLUSH_SCOPE = 2) ∧ (((((leavingPort) : State).wrRW TMG_FLUSH (word (2 ^ 31 + 2 * 2 ^ 28 + 5))).g TMG_FLUSH TMG_FLUSH_INDEX) < 32) := by decide +kernel
theorem wit_FramesThroughPipelineAndTrafficManager_tmgFlush_c24 : (({ awake [9] with tmg := { (awake []).tmg with queues := [(131080, [⟨7, 100, 0, none, true, false⟩, ⟨8, 50, 0, none, true, false⟩])] } } : State).reaches (Agent.hpa) TMG_FLUSH = true) ∧ ((word 131080).getLsbD 31 = false) := by decide +kernel
theorem wit_FramesThroughPipelineAndTrafficManager_tmgFlushDone_c25 : (((awake [9]).p TMG_FLUSH TMG_FLUSH_GO 1 : State).on TMG_FLUSH TMG_FLUSH_GO = true) := by decide +kernel
theorem wit_FramesThroughPipelineAndTrafficManager_tmgFlushDone_c26 : ((awake [9] : State).on TMG_FLUSH TMG_FLUSH_GO = false) := by decide +kernel
theorem wit_TributaryDefectsSettingsAndSeconds_tribConfigWrite_c0 : ((awake [12] : State).reaches (Agent.hpa) (TRB_TRIB ((7 : Fin 4096)) + 4 * ((7 : Fin 8))) = true) ∧ (((7 : Fin 8)) ≠ 0) := by decide +kernel
theorem wit_TributaryDefectsSettingsAndSeconds_tribConfigWrite_c1 : (((awake [12]).wr (TRB_TRIB 7 + 12) 10241 : State).reaches (Agent.hpa) (TRB_TRIB ((7 : Fin 4096))) = true) ∧ (((awake [12]).wr (TRB_TRIB 7 + 12) 10241 : State).trb.stop.contains ((7 : Fin 4096)) = false) ∧ ((((awake [12]).wr (TRB_TRIB 7 + 12) 10241 : State).wrRW (TRB_TRIB ((7 : Fin 4096))) (0x80050000#32)).on (TRB_TRIB ((7 : Fin 4096))) TRB_TRIB_EN = true) ∧ ((((awake [12]).wr (TRB_TRIB 7 + 12) 10241 : State).wrRW (TRB_TRIB ((7 : Fin 4096))) (0x80050000#32)).tribCode ((7 : Fin 4096)) = 0) := by decide +kernel
theorem wit_TributaryDefectsSettingsAndSeconds_tribConfigWrite_c1_w1 : ((((trib 0 0 default).wr (TRB_TRIB 7 + 12) 10241).wr (TRB_TRIB 7 + 8) (word (64 * 65536)) : State).reaches (Agent.hpa) (TRB_TRIB ((7 : Fin 4096))) = true) ∧ ((((trib 0 0 default).wr (TRB_TRIB 7 + 12) 10241).wr (TRB_TRIB 7 + 8) (word (64 * 65536)) : State).trb.stop.contains ((7 : Fin 4096)) = false) ∧ (((((trib 0 0 default).wr (TRB_TRIB 7 + 12) 10241).wr (TRB_TRIB 7 + 8) (word (64 * 65536)) : State).wrRW (TRB_TRIB ((7 : Fin 4096))) (0x80050000#32)).on (TRB_TRIB ((7 : Fin 4096))) TRB_TRIB_EN = true) ∧ (((((trib 0 0 default).wr (TRB_TRIB 7 + 12) 10241).wr (TRB_TRIB 7 + 8) (word (64 * 65536)) : State).wrRW (TRB_TRIB ((7 : Fin 4096))) (0x80050000#32)).tribCode ((7 : Fin 4096)) = 0) := by decide +kernel
theorem wit_TributaryDefectsSettingsAndSeconds_tribConfigWrite_c2 : (((awake [12]) : State).reaches (Agent.hpa) (TRB_TRIB ((7 : Fin 4096))) = true) ∧ (((awake [12]) : State).trb.stop.contains ((7 : Fin 4096)) = false) ∧ ((((awake [12]) : State).wrRW (TRB_TRIB ((7 : Fin 4096))) (0x98050000#32)).on (TRB_TRIB ((7 : Fin 4096))) TRB_TRIB_EN = true) ∧ ((((awake [12]) : State).wrRW (TRB_TRIB ((7 : Fin 4096))) (0x98050000#32)).tribCode ((7 : Fin 4096)) ≠ 0) := by decide +kernel
theorem wit_TributaryDefectsSettingsAndSeconds_tribConfigWrite_c3 : ((stopping : State).reaches (Agent.hpa) (TRB_TRIB ((7 : Fin 4096))) = true) ∧ ((stopping : State).trb.stop.contains ((7 : Fin 4096)) = true) ∧ ((0x80050000#32).getLsbD 31 = true) ∧ ((((stopping : State).tribStop ((7 : Fin 4096))).wrRW (TRB_TRIB ((7 : Fin 4096))) (0x80050000#32)).tribCode ((7 : Fin 4096)) = 0) := by decide +kernel
theorem wit_TributaryDefectsSettingsAndSeconds_tribConfigWrite_c4 : ((stopping : State).reaches (Agent.hpa) (TRB_TRIB ((7 : Fin 4096))) = true) ∧ (((stopping : State).wrRW (TRB_TRIB ((7 : Fin 4096))) (0x00050000#32)).on (TRB_TRIB ((7 : Fin 4096))) TRB_TRIB_EN = false) ∧ ((stopping : State).tOn ((7 : Fin 4096)) = true) ∧ ((stopping : State).on TRB_CTL TRB_CTL_EN = true) ∧ ((stopping : State).trb.frame.isSome = true) := by decide +kernel
theorem wit_TributaryDefectsSettingsAndSeconds_tribConfigWrite_c4_w1 : (({ trib 0 0 default with trb := { (trib 0 0 default).trb with frame := some 0 } } : State).reaches (Agent.hpa) (TRB_TRIB ((7 : Fin 4096))) = true) ∧ ((({ trib 0 0 default with trb := { (trib 0 0 default).trb with frame := some 0 } } : State).wrRW (TRB_TRIB ((7 : Fin 4096))) (0x00050000#32)).on (TRB_TRIB ((7 : Fin 4096))) TRB_TRIB_EN = false) ∧ (({ trib 0 0 default with trb := { (trib 0 0 default).trb with frame := some 0 } } : State).tOn ((7 : Fin 4096)) = true) ∧ (({ trib 0 0 default with trb := { (trib 0 0 default).trb with frame := some 0 } } : State).on TRB_CTL TRB_CTL_EN = true) ∧ (({ trib 0 0 default with trb := { (trib 0 0 default).trb with frame := some 0 } } : State).trb.frame.isSome = true) := by decide +kernel
theorem wit_TributaryDefectsSettingsAndSeconds_tribConfigWrite_c5 : (((trib 0 0 default) |>.p (TRB_DEF 7) TRB_DEF_LOC_LIVE 1 |>.p (TRB_DEF 7) TRB_DEF_AIS_LIVE 1 : State).reaches (Agent.hpa) (TRB_TRIB ((7 : Fin 4096))) = true) ∧ ((((trib 0 0 default) |>.p (TRB_DEF 7) TRB_DEF_LOC_LIVE 1 |>.p (TRB_DEF 7) TRB_DEF_AIS_LIVE 1 : State).wrRW (TRB_TRIB ((7 : Fin 4096))) (0x00050000#32)).on (TRB_TRIB ((7 : Fin 4096))) TRB_TRIB_EN = false) ∧ ((((trib 0 0 default) |>.p (TRB_DEF 7) TRB_DEF_LOC_LIVE 1 |>.p (TRB_DEF 7) TRB_DEF_AIS_LIVE 1 : State).tOn ((7 : Fin 4096)) = false ∨ ((trib 0 0 default) |>.p (TRB_DEF 7) TRB_DEF_LOC_LIVE 1 |>.p (TRB_DEF 7) TRB_DEF_AIS_LIVE 1 : State).on TRB_CTL TRB_CTL_EN = false ∨ ((trib 0 0 default) |>.p (TRB_DEF 7) TRB_DEF_LOC_LIVE 1 |>.p (TRB_DEF 7) TRB_DEF_AIS_LIVE 1 : State).trb.frame = none)) := by decide +kernel
theorem wit_TributaryDefectsSettingsAndSeconds_tribConfigWrite_c5_w1 : ((awake [12] : State).reaches (Agent.hpa) (TRB_TRIB ((7 : Fin 4096))) = true) ∧ (((awake [12] : State).wrRW (TRB_TRIB ((7 : Fin 4096))) (0x00050000#32)).on (TRB_TRIB ((7 : Fin 4096))) TRB_TRIB_EN = false) ∧ (((awake [12] : State).tOn ((7 : Fin 4096)) = false ∨ (awake [12] : State).on TRB_CTL TRB_CTL_EN = false ∨ (awake [12] : State).trb.frame = none)) := by decide +kernel
theorem wit_TributaryDefectsSettingsAndSeconds_tribLocRaise_c6 : (((trib 0 0 { (default : Trib) with missRun := 1 }).wr TRB_DEF_CTL 0 : State).tRuns ((7 : Fin 4096)) = true) ∧ (((trib 0 0 { (default : Trib) with missRun := 1 }).wr TRB_DEF_CTL 0 : State).on (TRB_DEF ((7 : Fin 4096))) TRB_DEF_LOC_LIVE = false) ∧ (((trib 0 0 { (default : Trib) with missRun := 1 }).wr TRB_DEF_CTL 0 : State).locSet ((7 : Fin 4096)) ≤ (((trib 0 0 { (default : Trib) with missRun := 1 }).wr TRB_DEF_CTL 0 : State).ep ((7 : Fin 4096))).missRun) := by decide +kernel
theorem wit_TributaryDefectsSettingsAndSeconds_tribLocRaise_c7 : (((awake [12] : State).tRuns ((7 : Fin 4096)) = false ∨ (awake [12] : State).on (TRB_DEF ((7 : Fin 4096))) TRB_DEF_LOC_LIVE = true)) := by decide +kernel
theorem wit_TributaryDefectsSettingsAndSeconds_tribLocClear_c8 : ((awake [12] : State).on (TRB_DEF ((7 : Fin 4096))) TRB_DEF_LOC_LIVE = false) := by decide +kernel
theorem wit_TributaryDefectsSettingsAndSeconds_tribLocClear_c9 : (((trib 0 0 { (default : Trib) with gotRun := 3 }).p TRB_DEF_CTL TRB_DEF_CTL_LOC_CLR 3 |>.p (TRB_DEF 7) TRB_DEF_LOC_LIVE 1 : State).on (TRB_DEF ((7 : Fin 4096))) TRB_DEF_LOC_LIVE = true) ∧ (atLeast1 (((trib 0 0 { (default : Trib) with gotRun := 3 }).p TRB_DEF_CTL TRB_DEF_CTL_LOC_CLR 3 |>.p (TRB_DEF 7) TRB_DEF_LOC_LIVE 1 : State).g TRB_DEF_CTL TRB_DEF_CTL_LOC_CLR) ≤ (((trib 0 0 { (default : Trib) with gotRun := 3 }).p TRB_DEF_CTL TRB_DEF_CTL_LOC_CLR 3 |>.p (TRB_DEF 7) TRB_DEF_LOC_LIVE 1 : State).ep ((7 : Fin 4096))).gotRun) := by decide +kernel
theorem wit_TributaryDefectsSettingsAndSeconds_tribLomRaise_c10 : (((trib 0 0 { (default : Trib) with searchRun := 16 }) : State).tRuns ((7 : Fin 4096)) = true) ∧ (((trib 0 0 { (default : Trib) with searchRun := 16 }) : State).on (TRB_DEF ((7 : Fin 4096))) TRB_DEF_LOM_LIVE = false) ∧ (((trib 0 0 { (default : Trib) with searchRun := 16 }) : State).tcfg ((7 : Fin 4096)) TRB_TRIB_KIND = 0) ∧ (16 ≤ (((trib 0 0 { (default : Trib) with searchRun := 16 }) : State).ep ((7 : Fin 4096))).searchRun) ∧ ((((trib 0 0 { (default : Trib) with searchRun := 16 }) : State).pch.look (((trib 0 0 { (default : Trib) with searchRun := 16 }) : State).tcfg ((7 : Fin 4096)) TRB_TRIB_CHANNEL)).tribBlank = false) := by decide +kernel
theorem wit_TributaryDefectsSettingsAndSeconds_tribLomRaise_c11 : (((awake [12] : State).tRuns ((7 : Fin 4096)) = false ∨ (awake [12] : State).on (TRB_DEF ((7 : Fin 4096))) TRB_DEF_LOM_LIVE = true)) := by decide +kernel
theorem wit_TributaryDefectsSettingsAndSeconds_tribLomRaise_c12 : (({ (trib 0 0 { (default : Trib) with searchRun := 16 }) with pch := [(5, { (default : Pch) with tribBlank := true })] } : State).tRuns ((7 : Fin 4096)) = true) ∧ (({ (trib 0 0 { (default : Trib) with searchRun := 16 }) with pch := [(5, { (default : Pch) with tribBlank := true })] } : State).on (TRB_DEF ((7 : Fin 4096))) TRB_DEF_LOM_LIVE = false) ∧ (({ (trib 0 0 { (default : Trib) with searchRun := 16 }) with pch := [(5, { (default : Pch) with tribBlank := true })] } : State).tcfg ((7 : Fin 4096)) TRB_TRIB_KIND = 0) ∧ (16 ≤ (({ (trib 0 0 { (default : Trib) with searchRun := 16 }) with pch := [(5, { (default : Pch) with tribBlank := true })] } : State).ep ((7 : Fin 4096))).searchRun) ∧ ((({ (trib 0 0 { (default : Trib) with searchRun := 16 }) with pch := [(5, { (default : Pch) with tribBlank := true })] } : State).pch.look (({ (trib 0 0 { (default : Trib) with searchRun := 16 }) with pch := [(5, { (default : Pch) with tribBlank := true })] } : State).tcfg ((7 : Fin 4096)) TRB_TRIB_CHANNEL)).tribBlank = true) := by decide +kernel
theorem wit_TributaryDefectsSettingsAndSeconds_tribLomClear_c13 : ((awake [12] : State).on (TRB_DEF ((7 : Fin 4096))) TRB_DEF_LOM_LIVE = false) := by decide +kernel
theorem wit_TributaryDefectsSettingsAndSeconds_tribLomClear_c14 : (((trib 0 0 { (default : Trib) with alignRun := 16 }) |>.p (TRB_DEF 7) TRB_DEF_LOM_LIVE 1 : State).on (TRB_DEF ((7 : Fin 4096))) TRB_DEF_LOM_LIVE = true) ∧ (16 ≤ (((trib 0 0 { (default : Trib) with alignRun := 16 }) |>.p (TRB_DEF 7) TRB_DEF_LOM_LIVE 1 : State).ep ((7 : Fin 4096))).alignRun) := by decide +kernel
theorem wit_TributaryDefectsSettingsAndSeconds_tribAisRaise_c15 : (((trib 0 0 { (default : Trib) with aisRun := 3 }) : State).tRuns ((7 : Fin 4096)) = true) ∧ (((trib 0 0 { (default : Trib) with aisRun := 3 }) : State).on (TRB_DEF ((7 : Fin 4096))) TRB_DEF_AIS_LIVE = false) ∧ (3 ≤ (((trib 0 0 { (default : Trib) with aisRun := 3 }) : State).ep ((7 : Fin 4096))).aisRun) := by decide +kernel
theorem wit_TributaryDefectsSettingsAndSeconds_tribAisRaise_c16 : (((awake [12] : State).tRuns ((7 : Fin 4096)) = false ∨ (awake [12] : State).on (TRB_DEF ((7 : Fin 4096))) TRB_DEF_AIS_LIVE = true)) := by decide +kernel
theorem wit_TributaryDefectsSettingsAndSeconds_tribAisClear_c17 : ((awake [12] : State).on (TRB_DEF ((7 : Fin 4096))) TRB_DEF_AIS_LIVE = false) := by decide +kernel
theorem wit_TributaryDefectsSettingsAndSeconds_tribAisClear_c18 : (((trib 0 0 { (default : Trib) with clearRun := 3 }) |>.p (TRB_DEF 7) TRB_DEF_AIS_LIVE 1 : State).on (TRB_DEF ((7 : Fin 4096))) TRB_DEF_AIS_LIVE = true) ∧ (3 ≤ (((trib 0 0 { (default : Trib) with clearRun := 3 }) |>.p (TRB_DEF 7) TRB_DEF_AIS_LIVE 1 : State).ep ((7 : Fin 4096))).clearRun) := by decide +kernel
theorem wit_TributaryDefectsSettingsAndSeconds_tribLopRaise_c19 : (((trib 0 1 { (default : Trib) with ptr := some 3, ptrOff := 8 }) : State).tRuns ((7 : Fin 4096)) = true) ∧ (((trib 0 1 { (default : Trib) with ptr := some 3, ptrOff := 8 }) : State).on (TRB_DEF ((7 : Fin 4096))) TRB_DEF_LOP_LIVE = false) ∧ (((trib 0 1 { (default : Trib) with ptr := some 3, ptrOff := 8 }) : State).lopHolds ((7 : Fin 4096)) = true) ∧ ((((trib 0 1 { (default : Trib) with ptr := some 3, ptrOff := 8 }) : State).pch.look (((trib 0 1 { (default : Trib) with ptr := some 3, ptrOff := 8 }) : State).tcfg ((7 : Fin 4096)) TRB_TRIB_CHANNEL)).tribBlank = false) := by decide +kernel
theorem wit_TributaryDefectsSettingsAndSeconds_tribLopRaise_c20 : (((awake [12] : State).tRuns ((7 : Fin 4096)) = false ∨ (awake [12] : State).on (TRB_DEF ((7 : Fin 4096))) TRB_DEF_LOP_LIVE = true)) := by decide +kernel
theorem wit_TributaryDefectsSettingsAndSeconds_tribPjeWindow_c21 : (((trib 0 0 { (default : Trib) with net := -4 }).p TRB_DEF_CTL TRB_DEF_CTL_PJE_PPM 15 : State).tRuns ((7 : Fin 4096)) = true) ∧ (((trib 0 0 { (default : Trib) with net := -4 }).p TRB_DEF_CTL TRB_DEF_CTL_PJE_PPM 15 : State).tcfg ((7 : Fin 4096)) TRB_TRIB_KIND = 0) ∧ (((trib 0 0 { (default : Trib) with net := -4 }).p TRB_DEF_CTL TRB_DEF_CTL_PJE_PPM 15 : State).tcfg ((7 : Fin 4096)) TRB_TRIB_TYPE = 0) ∧ (((trib 0 0 { (default : Trib) with net := -4 }).p TRB_DEF_CTL TRB_DEF_CTL_PJE_PPM 15 : State).pjeOver ((7 : Fin 4096)) = true) ∧ (((trib 0 0 { (default : Trib) with net := -4 }).p TRB_DEF_CTL TRB_DEF_CTL_PJE_PPM 15 : State).on (TRB_DEF ((7 : Fin 4096))) TRB_DEF_PJE_LIVE = false) ∧ ((((trib 0 0 { (default : Trib) with net := -4 }).p TRB_DEF_CTL TRB_DEF_CTL_PJE_PPM 15 : State).pch.look (((trib 0 0 { (default : Trib) with net := -4 }).p TRB_DEF_CTL TRB_DEF_CTL_PJE_PPM 15 : State).tcfg ((7 : Fin 4096)) TRB_TRIB_CHANNEL)).tribBlank = false) := by decide +kernel
theorem wit_TributaryDefectsSettingsAndSeconds_tribPjeWindow_c22 : (((trib 0 0 { (default : Trib) with net := 3, pjeGood := 2 }).p TRB_DEF_CTL TRB_DEF_CTL_PJE_PPM 15 |>.p (TRB_DEF 7) TRB_DEF_PJE_LIVE 1 : State).tRuns ((7 : Fin 4096)) = true) ∧ (((trib 0 0 { (default : Trib) with net := 3, pjeGood := 2 }).p TRB_DEF_CTL TRB_DEF_CTL_PJE_PPM 15 |>.p (TRB_DEF 7) TRB_DEF_PJE_LIVE 1 : State).tcfg ((7 : Fin 4096)) TRB_TRIB_KIND = 0) ∧ (((trib 0 0 { (default : Trib) with net := 3, pjeGood := 2 }).p TRB_DEF_CTL TRB_DEF_CTL_PJE_PPM 15 |>.p (TRB_DEF 7) TRB_DEF_PJE_LIVE 1 : State).tcfg ((7 : Fin 4096)) TRB_TRIB_TYPE = 0) ∧ (((trib 0 0 { (default : Trib) with net := 3, pjeGood := 2 }).p TRB_DEF_CTL TRB_DEF_CTL_PJE_PPM 15 |>.p (TRB_DEF 7) TRB_DEF_PJE_LIVE 1 : State).pjeOver ((7 : Fin 4096)) = false) ∧ (2 ≤ (((trib 0 0 { (default : Trib) with net := 3, pjeGood := 2 }).p TRB_DEF_CTL TRB_DEF_CTL_PJE_PPM 15 |>.p (TRB_DEF 7) TRB_DEF_PJE_LIVE 1 : State).ep ((7 : Fin 4096))).pjeGood) ∧ (((trib 0 0 { (default : Trib) with net := 3, pjeGood := 2 }).p TRB_DEF_CTL TRB_DEF_CTL_PJE_PPM 15 |>.p (TRB_DEF 7) TRB_DEF_PJE_LIVE 1 : State).on (TRB_DEF ((7 : Fin 4096))) TRB_DEF_PJE_LIVE = true) := by decide +kernel
theorem wit_TributaryDefectsSettingsAndSeconds_tribPjeWindow_c23 : (((trib 0 0 { (default : Trib) with net := 3, pjeGood := 1 }).p TRB_DEF_CTL TRB_DEF_CTL_PJE_PPM 15 |>.p (TRB_DEF 7) TRB_DEF_PJE_LIVE 1 : State).tRuns ((7 : Fin 4096)) = true) ∧ (((trib 0 0 { (default : Trib) with net := 3, pjeGood := 1 }).p TRB_DEF_CTL TRB_DEF_CTL_PJE_PPM 15 |>.p (TRB_DEF 7) TRB_DEF_PJE_LIVE 1 : State).tcfg ((7 : Fin 4096)) TRB_TRIB_KIND = 0) ∧ (((trib 0 0 { (default : Trib) with net := 3, pjeGood := 1 }).p TRB_DEF_CTL TRB_DEF_CTL_PJE_PPM 15 |>.p (TRB_DEF 7) TRB_DEF_PJE_LIVE 1 : State).tcfg ((7 : Fin 4096)) TRB_TRIB_TYPE = 0) ∧ (((trib 0 0 { (default : Trib) with net := 3, pjeGood := 1 }).p TRB_DEF_CTL TRB_DEF_CTL_PJE_PPM 15 |>.p (TRB_DEF 7) TRB_DEF_PJE_LIVE 1 : State).pjeOver ((7 : Fin 4096)) = false) ∧ ((((trib 0 0 { (default : Trib) with net := 3, pjeGood := 1 }).p TRB_DEF_CTL TRB_DEF_CTL_PJE_PPM 15 |>.p (TRB_DEF 7) TRB_DEF_PJE_LIVE 1 : State).ep ((7 : Fin 4096))).pjeGood < 2) := by decide +kernel
theorem wit_TributaryDefectsSettingsAndSeconds_tribPmSecond_c24 : (((trib 0 0 { (default : Trib) with sevSec := true }) : State).tOn ((7 : Fin 4096)) = true) ∧ ((((trib 0 0 { (default : Trib) with sevSec := true }) : State).blt.bins.look (4 * pmTrib ((7 : Fin 4096)) + 2 * 0)).start ≤ ((trib 0 0 { (default : Trib) with sevSec := true }) : State).tim.sec - 1) ∧ ((((trib 0 0 { (default : Trib) with sevSec := true }) : State).blt.bins.look (4 * pmTrib ((7 : Fin 4096)) + 2 * 1)).start ≤ ((trib 0 0 { (default : Trib) with sevSec := true }) : State).tim.sec - 1) := by decide +kernel
theorem wit_TributaryDefectsSettingsAndSeconds_tribPmSecond_c25 : ((awake [12] : State).tOn ((7 : Fin 4096)) = false) := by decide +kernel
theorem wit_ContainersPacketsAndInterchange_containerReceive_c0 : ((receiving 0 2 { (default : Trib) with run := 0 } (8, (⟨37, 40, 0, 19, ctn 3, 0, none⟩ : PFrame)) : State).trb.rx.find? (fun e => decide (32 ≤ e.2.src)) = some ((8), ((⟨37, 40, 0, 19, ctn 3, 0, none⟩ : PFrame)))) ∧ (((receiving 0 2 { (default : Trib) with run := 0 } (8, (⟨37, 40, 0, 19, ctn 3, 0, none⟩ : PFrame)) : State).tRuns (8) = false ∨ (receiving 0 2 { (default : Trib) with run := 0 } (8, (⟨37, 40, 0, 19, ctn 3, 0, none⟩ : PFrame)) : State).on TRB_CTL TRB_CTL_EN = false)) := by decide +kernel
theorem wit_ContainersPacketsAndInterchange_containerReceive_c1 : ((receiving 0 2 { (default : Trib) with run := 0 } (7, (⟨37, 41, 0, 19, ctn 3, 0, none⟩ : PFrame)) : State).trb.rx.find? (fun e => decide (32 ≤ e.2.src)) = some ((7), ((⟨37, 41, 0, 19, ctn 3, 0, none⟩ : PFrame)))) ∧ ((receiving 0 2 { (default : Trib) with run := 0 } (7, (⟨37, 41, 0, 19, ctn 3, 0, none⟩ : PFrame)) : State).tRuns (7) = true) ∧ ((receiving 0 2 { (default : Trib) with run := 0 } (7, (⟨37, 41, 0, 19, ctn 3, 0, none⟩ : PFrame)) : State).on TRB_CTL TRB_CTL_EN = true) ∧ (((receiving 0 2 { (default : Trib) with run := 0 } (7, (⟨37, 41, 0, 19, ctn 3, 0, none⟩ : PFrame)) : State).tcfg (7) TRB_TRIB_KIND ≠ 0 ∨ ((⟨37, 41, 0, 19, ctn 3, 0, none⟩ : PFrame)).src ≠ 32 + (receiving 0 2 { (default : Trib) with run := 0 } (7, (⟨37, 41, 0, 19, ctn 3, 0, none⟩ : PFrame)) : State).tcfg (7) TRB_TRIB_CHANNEL ∨ ((⟨37, 41, 0, 19, ctn 3, 0, none⟩ : PFrame)).port ≠ (receiving 0 2 { (default : Trib) with run := 0 } (7, (⟨37, 41, 0, 19, ctn 3, 0, none⟩ : PFrame)) : State).tcfg (7) TRB_TRIB_PORT_ID)) := by decide +kernel
theorem wit_ContainersPacketsAndInterchange_containerReceive_c2 : ((receiving 0 2 { (default : Trib) with frame := some 19 } (7, (⟨37, 40, 0, 19, ctn 3, 0, none⟩ : PFrame)) : State).trb.rx.find? (fun e => decide (32 ≤ e.2.src)) = some ((7), ((⟨37, 40, 0, 19, ctn 3, 0, none⟩ : PFrame)))) ∧ ((receiving 0 2 { (default : Trib) with frame := some 19 } (7, (⟨37, 40, 0, 19, ctn 3, 0, none⟩ : PFrame)) : State).tRuns (7) = true) ∧ ((receiving 0 2 { (default : Trib) with frame := some 19 } (7, (⟨37, 40, 0, 19, ctn 3, 0, none⟩ : PFrame)) : State).on TRB_CTL TRB_CTL_EN = true) ∧ ((receiving 0 2 { (default : Trib) with frame := some 19 } (7, (⟨37, 40, 0, 19, ctn 3, 0, none⟩ : PFrame)) : State).tcfg (7) TRB_TRIB_KIND = 0) ∧ (((⟨37, 40, 0, 19, ctn 3, 0, none⟩ : PFrame)).src = 32 + (receiving 0 2 { (default : Trib) with frame := some 19 } (7, (⟨37, 40, 0, 19, ctn 3, 0, none⟩ : PFrame)) : State).tcfg (7) TRB_TRIB_CHANNEL) ∧ (((⟨37, 40, 0, 19, ctn 3, 0, none⟩ : PFrame)).port = (receiving 0 2 { (default : Trib) with frame := some 19 } (7, (⟨37, 40, 0, 19, ctn 3, 0, none⟩ : PFrame)) : State).tcfg (7) TRB_TRIB_PORT_ID) ∧ (((receiving 0 2 { (default : Trib) with frame := some 19 } (7, (⟨37, 40, 0, 19, ctn 3, 0, none⟩ : PFrame)) : State).ep (7)).frame = some ((⟨37, 40, 0, 19, ctn 3, 0, none⟩ : PFrame)).frame) := by decide +kernel
theorem wit_ContainersPacketsAndInterchange_containerReceive_c3 : ((receiving 0 2 { (default : Trib) with aligned := true } (7, (⟨37, 40, 0, 19, ctn 3, 0, none⟩ : PFrame)) : State).trb.rx.find? (fun e => decide (32 ≤ e.2.src)) = some ((7), ((⟨37, 40, 0, 19, ctn 3, 0, none⟩ : PFrame)))) ∧ ((receiving 0 2 { (default : Trib) with aligned := true } (7, (⟨37, 40, 0, 19, ctn 3, 0, none⟩ : PFrame)) : State).tRuns (7) = true) ∧ ((receiving 0 2 { (default : Trib) with aligned := true } (7, (⟨37, 40, 0, 19, ctn 3, 0, none⟩ : PFrame)) : State).on TRB_CTL TRB_CTL_EN = true) ∧ ((receiving 0 2 { (default : Trib) with aligned := true } (7, (⟨37, 40, 0, 19, ctn 3, 0, none⟩ : PFrame)) : State).tcfg (7) TRB_TRIB_KIND = 0) ∧ (((⟨37, 40, 0, 19, ctn 3, 0, none⟩ : PFrame)).src = 32 + (receiving 0 2 { (default : Trib) with aligned := true } (7, (⟨37, 40, 0, 19, ctn 3, 0, none⟩ : PFrame)) : State).tcfg (7) TRB_TRIB_CHANNEL) ∧ (((⟨37, 40, 0, 19, ctn 3, 0, none⟩ : PFrame)).port = (receiving 0 2 { (default : Trib) with aligned := true } (7, (⟨37, 40, 0, 19, ctn 3, 0, none⟩ : PFrame)) : State).tcfg (7) TRB_TRIB_PORT_ID) ∧ (((receiving 0 2 { (default : Trib) with aligned := true } (7, (⟨37, 40, 0, 19, ctn 3, 0, none⟩ : PFrame)) : State).ep (7)).frame ≠ some ((⟨37, 40, 0, 19, ctn 3, 0, none⟩ : PFrame)).frame) ∧ (((receiving 0 2 { (default : Trib) with aligned := true } (7, (⟨37, 40, 0, 19, ctn 3, 0, none⟩ : PFrame)) : State).ep (7)).aligned = true) ∧ (crc8 (((⟨37, 40, 0, 19, ctn 3, 0, none⟩ : PFrame)).bytes.take 3) = ((((⟨37, 40, 0, 19, ctn 3, 0, none⟩ : PFrame)).bytes.drop 3).head?.getD 0).toNat) ∧ (5 + (receiving 0 2 { (default : Trib) with aligned := true } (7, (⟨37, 40, 0, 19, ctn 3, 0, none⟩ : PFrame)) : State).tPay (7) ≤ ((⟨37, 40, 0, 19, ctn 3, 0, none⟩ : PFrame)).bytes.length) ∧ (beNat (((⟨37, 40, 0, 19, ctn 3, 0, none⟩ : PFrame)).bytes.take 3) / 2 ^ 20 = (((⟨37, 40, 0, 19, ctn 3, 0, none⟩ : PFrame)).frame + ((receiving 0 2 { (default : Trib) with aligned := true } (7, (⟨37, 40, 0, 19, ctn 3, 0, none⟩ : PFrame)) : State).ep (7)).ofs) % 16) := by decide +kernel
theorem wit_ContainersPacketsAndInterchange_containerReceive_c4 : ((receiving 0 2 { (default : Trib) with aligned := true, bad := 3 } (7, (⟨37, 40, 0, 20, ctn 3, 0, none⟩ : PFrame)) : State).trb.rx.find? (fun e => decide (32 ≤ e.2.src)) = some ((7), ((⟨37, 40, 0, 20, ctn 3, 0, none⟩ : PFrame)))) ∧ ((receiving 0 2 { (default : Trib) with aligned := true, bad := 3 } (7, (⟨37, 40, 0, 20, ctn 3, 0, none⟩ : PFrame)) : State).tRuns (7) = true) ∧ ((receiving 0 2 { (default : Trib) with aligned := true, bad := 3 } (7, (⟨37, 40, 0, 20, ctn 3, 0, none⟩ : PFrame)) : State).on TRB_CTL TRB_CTL_EN = true) ∧ ((receiving 0 2 { (default : Trib) with aligned := true, bad := 3 } (7, (⟨37, 40, 0, 20, ctn 3, 0, none⟩ : PFrame)) : State).tcfg (7) TRB_TRIB_KIND = 0) ∧ (((⟨37, 40, 0, 20, ctn 3, 0, none⟩ : PFrame)).src = 32 + (receiving 0 2 { (default : Trib) with aligned := true, bad := 3 } (7, (⟨37, 40, 0, 20, ctn 3, 0, none⟩ : PFrame)) : State).tcfg (7) TRB_TRIB_CHANNEL) ∧ (((⟨37, 40, 0, 20, ctn 3, 0, none⟩ : PFrame)).port = (receiving 0 2 { (default : Trib) with aligned := true, bad := 3 } (7, (⟨37, 40, 0, 20, ctn 3, 0, none⟩ : PFrame)) : State).tcfg (7) TRB_TRIB_PORT_ID) ∧ (((receiving 0 2 { (default : Trib) with aligned := true, bad := 3 } (7, (⟨37, 40, 0, 20, ctn 3, 0, none⟩ : PFrame)) : State).ep (7)).frame ≠ some ((⟨37, 40, 0, 20, ctn 3, 0, none⟩ : PFrame)).frame) ∧ (((receiving 0 2 { (default : Trib) with aligned := true, bad := 3 } (7, (⟨37, 40, 0, 20, ctn 3, 0, none⟩ : PFrame)) : State).ep (7)).aligned = true) ∧ (¬ (crc8 (((⟨37, 40, 0, 20, ctn 3, 0, none⟩ : PFrame)).bytes.take 3) = ((((⟨37, 40, 0, 20, ctn 3, 0, none⟩ : PFrame)).bytes.drop 3).head?.getD 0).toNat ∧ 5 + (receiving 0 2 { (default : Trib) with aligned := true, bad := 3 } (7, (⟨37, 40, 0, 20, ctn 3, 0, none⟩ : PFrame)) : State).tPay (7) ≤ ((⟨37, 40, 0, 20, ctn 3, 0, none⟩ : PFrame)).bytes.length ∧ beNat (((⟨37, 40, 0, 20, ctn 3, 0, none⟩ : PFrame)).bytes.take 3) / 2 ^ 20 = (((⟨37, 40, 0, 20, ctn 3, 0, none⟩ : PFrame)).frame + ((receiving 0 2 { (default : Trib) with aligned := true, bad := 3 } (7, (⟨37, 40, 0, 20, ctn 3, 0, none⟩ : PFrame)) : State).ep (7)).ofs) % 16)) := by decide +kernel
theorem wit_ContainersPacketsAndInterchange_containerReceive_c5 : ((receiving 0 2 { (default : Trib) with run := 2, frame := some 18, mfi := 2 } (7, (⟨37, 40, 0, 19, ctn 3, 0, none⟩ : PFrame)) : State).trb.rx.find? (fun e => decide (32 ≤ e.2.src)) = some ((7), ((⟨37, 40, 0, 19, ctn 3, 0, none⟩ : PFrame)))) ∧ ((receiving 0 2 { (default : Trib) with run := 2, frame := some 18, mfi := 2 } (7, (⟨37, 40, 0, 19, ctn 3, 0, none⟩ : PFrame)) : State).tRuns (7) = true) ∧ ((receiving 0 2 { (default : Trib) with run := 2, frame := some 18, mfi := 2 } (7, (⟨37, 40, 0, 19, ctn 3, 0, none⟩ : PFrame)) : State).on TRB_CTL TRB_CTL_EN = true) ∧ ((receiving 0 2 { (default : Trib) with run := 2, frame := some 18, mfi := 2 } (7, (⟨37, 40, 0, 19, ctn 3, 0, none⟩ : PFrame)) : State).tcfg (7) TRB_TRIB_KIND = 0) ∧ (((⟨37, 40, 0, 19, ctn 3, 0, none⟩ : PFrame)).src = 32 + (receiving 0 2 { (default : Trib) with run := 2, frame := some 18, mfi := 2 } (7, (⟨37, 40, 0, 19, ctn 3, 0, none⟩ : PFrame)) : State).tcfg (7) TRB_TRIB_CHANNEL) ∧ (((⟨37, 40, 0, 19, ctn 3, 0, none⟩ : PFrame)).port = (receiving 0 2 { (default : Trib) with run := 2, frame := some 18, mfi := 2 } (7, (⟨37, 40, 0, 19, ctn 3, 0, none⟩ : PFrame)) : State).tcfg (7) TRB_TRIB_PORT_ID) ∧ (((receiving 0 2 { (default : Trib) with run := 2, frame := some 18, mfi := 2 } (7, (⟨37, 40, 0, 19, ctn 3, 0, none⟩ : PFrame)) : State).ep (7)).frame ≠ some ((⟨37, 40, 0, 19, ctn 3, 0, none⟩ : PFrame)).frame) ∧ (((receiving 0 2 { (default : Trib) with run := 2, frame := some 18, mfi := 2 } (7, (⟨37, 40, 0, 19, ctn 3, 0, none⟩ : PFrame)) : State).ep (7)).aligned = false) ∧ (crc8 (((⟨37, 40, 0, 19, ctn 3, 0, none⟩ : PFrame)).bytes.take 3) = ((((⟨37, 40, 0, 19, ctn 3, 0, none⟩ : PFrame)).bytes.drop 3).head?.getD 0).toNat) ∧ (5 + (receiving 0 2 { (default : Trib) with run := 2, frame := some 18, mfi := 2 } (7, (⟨37, 40, 0, 19, ctn 3, 0, none⟩ : PFrame)) : State).tPay (7) ≤ ((⟨37, 40, 0, 19, ctn 3, 0, none⟩ : PFrame)).bytes.length) ∧ (2 ≤ ((receiving 0 2 { (default : Trib) with run := 2, frame := some 18, mfi := 2 } (7, (⟨37, 40, 0, 19, ctn 3, 0, none⟩ : PFrame)) : State).ep (7)).run) ∧ (((receiving 0 2 { (default : Trib) with run := 2, frame := some 18, mfi := 2 } (7, (⟨37, 40, 0, 19, ctn 3, 0, none⟩ : PFrame)) : State).ep (7)).frame = some (((⟨37, 40, 0, 19, ctn 3, 0, none⟩ : PFrame)).frame - 1)) ∧ (0 < ((⟨37, 40, 0, 19, ctn 3, 0, none⟩ : PFrame)).frame) ∧ (beNat (((⟨37, 40, 0, 19, ctn 3, 0, none⟩ : PFrame)).bytes.take 3) / 2 ^ 20 = (((receiving 0 2 { (default : Trib) with run := 2, frame := some 18, mfi := 2 } (7, (⟨37, 40, 0, 19, ctn 3, 0, none⟩ : PFrame)) : State).ep (7)).mfi + 1) % 16) := by decide +kernel
theorem wit_ContainersPacketsAndInterchange_containerReceive_c6 : ((receiving 0 2 { (default : Trib) with run := 2 } (7, (⟨37, 40, 0, 19, [1, 2, 3], 0, none⟩ : PFrame)) : State).trb.rx.find? (fun e => decide (32 ≤ e.2.src)) = some ((7), ((⟨37, 40, 0, 19, [1, 2, 3], 0, none⟩ : PFrame)))) ∧ ((receiving 0 2 { (default : Trib) with run := 2 } (7, (⟨37, 40, 0, 19, [1, 2, 3], 0, none⟩ : PFrame)) : State).tRuns (7) = true) ∧ ((receiving 0 2 { (default : Trib) with run := 2 } (7, (⟨37, 40, 0, 19, [1, 2, 3], 0, none⟩ : PFrame)) : State).on TRB_CTL TRB_CTL_EN = true) ∧ ((receiving 0 2 { (default : Trib) with run := 2 } (7, (⟨37, 40, 0, 19, [1, 2, 3], 0, none⟩ : PFrame)) : State).tcfg (7) TRB_TRIB_KIND = 0) ∧ (((⟨37, 40, 0, 19, [1, 2, 3], 0, none⟩ : PFrame)).src = 32 + (receiving 0 2 { (default : Trib) with run := 2 } (7, (⟨37, 40, 0, 19, [1, 2, 3], 0, none⟩ : PFrame)) : State).tcfg (7) TRB_TRIB_CHANNEL) ∧ (((⟨37, 40, 0, 19, [1, 2, 3], 0, none⟩ : PFrame)).port = (receiving 0 2 { (default : Trib) with run := 2 } (7, (⟨37, 40, 0, 19, [1, 2, 3], 0, none⟩ : PFrame)) : State).tcfg (7) TRB_TRIB_PORT_ID) ∧ (((receiving 0 2 { (default : Trib) with run := 2 } (7, (⟨37, 40, 0, 19, [1, 2, 3], 0, none⟩ : PFrame)) : State).ep (7)).frame ≠ some ((⟨37, 40, 0, 19, [1, 2, 3], 0, none⟩ : PFrame)).frame) ∧ (((receiving 0 2 { (default : Trib) with run := 2 } (7, (⟨37, 40, 0, 19, [1, 2, 3], 0, none⟩ : PFrame)) : State).ep (7)).aligned = false) ∧ (¬ (crc8 (((⟨37, 40, 0, 19, [1, 2, 3], 0, none⟩ : PFrame)).bytes.take 3) = ((((⟨37, 40, 0, 19, [1, 2, 3], 0, none⟩ : PFrame)).bytes.drop 3).head?.getD 0).toNat ∧ 5 + (receiving 0 2 { (default : Trib) with run := 2 } (7, (⟨37, 40, 0, 19, [1, 2, 3], 0, none⟩ : PFrame)) : State).tPay (7) ≤ ((⟨37, 40, 0, 19, [1, 2, 3], 0, none⟩ : PFrame)).bytes.length)) := by decide +kernel
theorem wit_ContainersPacketsAndInterchange_pwPacketReceive_c7 : ((receiving 0 2 { (default : Trib) with run := 0 } (8, (⟨3, 0, 0, 0, ([0, 0, 0, 3] ++ List.replicate 1 9 : List Byte), 0, none⟩ : PFrame)) : State).trb.rx.find? (fun e => decide (e.2.src < 32)) = some ((8), ((⟨3, 0, 0, 0, ([0, 0, 0, 3] ++ List.replicate 1 9 : List Byte), 0, none⟩ : PFrame)))) ∧ (((receiving 0 2 { (default : Trib) with run := 0 } (8, (⟨3, 0, 0, 0, ([0, 0, 0, 3] ++ List.replicate 1 9 : List Byte), 0, none⟩ : PFrame)) : State).tRuns (8) = false ∨ (receiving 0 2 { (default : Trib) with run := 0 } (8, (⟨3, 0, 0, 0, ([0, 0, 0, 3] ++ List.replicate 1 9 : List Byte), 0, none⟩ : PFrame)) : State).on TRB_CTL TRB_CTL_EN = false)) := by decide +kernel
theorem wit_ContainersPacketsAndInterchange_pwPacketReceive_c8 : ((receiving 0 2 { (default : Trib) with run := 0 } (7, (⟨3, 0, 0, 0, ([0, 0, 0, 3] ++ List.replicate 1 9 : List Byte), 0, none⟩ : PFrame)) : State).trb.rx.find? (fun e => decide (e.2.src < 32)) = some ((7), ((⟨3, 0, 0, 0, ([0, 0, 0, 3] ++ List.replicate 1 9 : List Byte), 0, none⟩ : PFrame)))) ∧ ((receiving 0 2 { (default : Trib) with run := 0 } (7, (⟨3, 0, 0, 0, ([0, 0, 0, 3] ++ List.replicate 1 9 : List Byte), 0, none⟩ : PFrame)) : State).tRuns (7) = true) ∧ ((receiving 0 2 { (default : Trib) with run := 0 } (7, (⟨3, 0, 0, 0, ([0, 0, 0, 3] ++ List.replicate 1 9 : List Byte), 0, none⟩ : PFrame)) : State).on TRB_CTL TRB_CTL_EN = true) ∧ ((receiving 0 2 { (default : Trib) with run := 0 } (7, (⟨3, 0, 0, 0, ([0, 0, 0, 3] ++ List.replicate 1 9 : List Byte), 0, none⟩ : PFrame)) : State).tcfg (7) TRB_TRIB_KIND ≠ 1) := by decide +kernel
theorem wit_ContainersPacketsAndInterchange_pwPacketReceive_c9 : ((receiving 1 2 { (default : Trib) with run := 0 } (7, (⟨3, 0, 0, 0, ([0, 0, 0, 3] ++ List.replicate 2 9 : List Byte), 0, none⟩ : PFrame)) : State).trb.rx.find? (fun e => decide (e.2.src < 32)) = some ((7), ((⟨3, 0, 0, 0, ([0, 0, 0, 3] ++ List.replicate 2 9 : List Byte), 0, none⟩ : PFrame)))) ∧ ((receiving 1 2 { (default : Trib) with run := 0 } (7, (⟨3, 0, 0, 0, ([0, 0, 0, 3] ++ List.replicate 2 9 : List Byte), 0, none⟩ : PFrame)) : State).tRuns (7) = true) ∧ ((receiving 1 2 { (default : Trib) with run := 0 } (7, (⟨3, 0, 0, 0, ([0, 0, 0, 3] ++ List.replicate 2 9 : List Byte), 0, none⟩ : PFrame)) : State).on TRB_CTL TRB_CTL_EN = true) ∧ ((receiving 1 2 { (default : Trib) with run := 0 } (7, (⟨3, 0, 0, 0, ([0, 0, 0, 3] ++ List.replicate 2 9 : List Byte), 0, none⟩ : PFrame)) : State).tcfg (7) TRB_TRIB_KIND = 1) ∧ (((⟨3, 0, 0, 0, ([0, 0, 0, 3] ++ List.replicate 2 9 : List Byte), 0, none⟩ : PFrame)).bytes.length ≠ ((receiving 1 2 { (default : Trib) with run := 0 } (7, (⟨3, 0, 0, 0, ([0, 0, 0, 3] ++ List.replicate 2 9 : List Byte), 0, none⟩ : PFrame)) : State).tcfg (7) TRB_TRIB_RX_CW_OFS + 4 + 12 * (receiving 1 2 { (default : Trib) with run := 0 } (7, (⟨3, 0, 0, 0, ([0, 0, 0, 3] ++ List.replicate 2 9 : List Byte), 0, none⟩ : PFrame)) : State).tcfg (7) TRB_TRIB_RTP) + ((receiving 1 2 { (default : Trib) with run := 0 } (7, (⟨3, 0, 0, 0, ([0, 0, 0, 3] ++ List.replicate 2 9 : List Byte), 0, none⟩ : PFrame)) : State).tFpp (7) * (receiving 1 2 { (default : Trib) with run := 0 } (7, (⟨3, 0, 0, 0, ([0, 0, 0, 3] ++ List.replicate 2 9 : List Byte), 0, none⟩ : PFrame)) : State).tPay (7))) := by decide +kernel
theorem wit_ContainersPacketsAndInterchange_pwPacketReceive_c10 : ((receiving 1 2 { (default : Trib) with next := some 3 } (7, (⟨3, 0, 0, 0, ([0, 0, 0, 5] ++ List.replicate 1 9 : List Byte), 0, none⟩ : PFrame)) : State).trb.rx.find? (fun e => decide (e.2.src < 32)) = some ((7), ((⟨3, 0, 0, 0, ([0, 0, 0, 5] ++ List.replicate 1 9 : List Byte), 0, none⟩ : PFrame)))) ∧ ((receiving 1 2 { (default : Trib) with next := some 3 } (7, (⟨3, 0, 0, 0, ([0, 0, 0, 5] ++ List.replicate 1 9 : List Byte), 0, none⟩ : PFrame)) : State).tRuns (7) = true) ∧ ((receiving 1 2 { (default : Trib) with next := some 3 } (7, (⟨3, 0, 0, 0, ([0, 0, 0, 5] ++ List.replicate 1 9 : List Byte), 0, none⟩ : PFrame)) : State).on TRB_CTL TRB_CTL_EN = true) ∧ ((receiving 1 2 { (default : Trib) with next := some 3 } (7, (⟨3, 0, 0, 0, ([0, 0, 0, 5] ++ List.replicate 1 9 : List Byte), 0, none⟩ : PFrame)) : State).tcfg (7) TRB_TRIB_KIND = 1) ∧ (((⟨3, 0, 0, 0, ([0, 0, 0, 5] ++ List.replicate 1 9 : List Byte), 0, none⟩ : PFrame)).bytes.length = ((receiving 1 2 { (default : Trib) with next := some 3 } (7, (⟨3, 0, 0, 0, ([0, 0, 0, 5] ++ List.replicate 1 9 : List Byte), 0, none⟩ : PFrame)) : State).tcfg (7) TRB_TRIB_RX_CW_OFS + 4 + 12 * (receiving 1 2 { (default : Trib) with next := some 3 } (7, (⟨3, 0, 0, 0, ([0, 0, 0, 5] ++ List.replicate 1 9 : List Byte), 0, none⟩ : PFrame)) : State).tcfg (7) TRB_TRIB_RTP) + ((receiving 1 2 { (default : Trib) with next := some 3 } (7, (⟨3, 0, 0, 0, ([0, 0, 0, 5] ++ List.replicate 1 9 : List Byte), 0, none⟩ : PFrame)) : State).tFpp (7) * (receiving 1 2 { (default : Trib) with next := some 3 } (7, (⟨3, 0, 0, 0, ([0, 0, 0, 5] ++ List.replicate 1 9 : List Byte), 0, none⟩ : PFrame)) : State).tPay (7))) ∧ (((((beNat ((((⟨3, 0, 0, 0, ([0, 0, 0, 5] ++ List.replicate 1 9 : List Byte), 0, none⟩ : PFrame)).bytes.drop ((receiving 1 2 { (default : Trib) with next := some 3 } (7, (⟨3, 0, 0, 0, ([0, 0, 0, 5] ++ List.replicate 1 9 : List Byte), 0, none⟩ : PFrame)) : State).tcfg (7) TRB_TRIB_RX_CW_OFS)).take 4)) % 65536) + 65536 - ((receiving 1 2 { (default : Trib) with next := some 3 } (7, (⟨3, 0, 0, 0, ([0, 0, 0, 5] ++ List.replicate 1 9 : List Byte), 0, none⟩ : PFrame)) : State).ep (7)).next.getD ((beNat ((((⟨3, 0, 0, 0, ([0, 0, 0, 5] ++ List.replicate 1 9 : List Byte), 0, none⟩ : PFrame)).bytes.drop ((receiving 1 2 { (default : Trib) with next := some 3 } (7, (⟨3, 0, 0, 0, ([0, 0, 0, 5] ++ List.replicate 1 9 : List Byte), 0, none⟩ : PFrame)) : State).tcfg (7) TRB_TRIB_RX_CW_OFS)).take 4)) % 65536)) % 65536) ≤ cdiv ((receiving 1 2 { (default : Trib) with next := some 3 } (7, (⟨3, 0, 0, 0, ([0, 0, 0, 5] ++ List.replicate 1 9 : List Byte), 0, none⟩ : PFrame)) : State).tJb (7)) ((receiving 1 2 { (default : Trib) with next := some 3 } (7, (⟨3, 0, 0, 0, ([0, 0, 0, 5] ++ List.replicate 1 9 : List Byte), 0, none⟩ : PFrame)) : State).tFpp (7))) ∧ (((receiving 1 2 { (default : Trib) with next := some 3 } (7, (⟨3, 0, 0, 0, ([0, 0, 0, 5] ++ List.replicate 1 9 : List Byte), 0, none⟩ : PFrame)) : State).ep (7)).jb.look ((beNat ((((⟨3, 0, 0, 0, ([0, 0, 0, 5] ++ List.replicate 1 9 : List Byte), 0, none⟩ : PFrame)).bytes.drop ((receiving 1 2 { (default : Trib) with next := some 3 } (7, (⟨3, 0, 0, 0, ([0, 0, 0, 5] ++ List.replicate 1 9 : List Byte), 0, none⟩ : PFrame)) : State).tcfg (7) TRB_TRIB_RX_CW_OFS)).take 4)) % 65536) = []) := by decide +kernel
theorem wit_ContainersPacketsAndInterchange_pwPacketReceive_c11 : ((receiving 1 2 { (default : Trib) with next := some 3 } (7, (⟨3, 0, 0, 0, ([0, 0, 0, 2] ++ List.replicate 1 9 : List Byte), 0, none⟩ : PFrame)) : State).trb.rx.find? (fun e => decide (e.2.src < 32)) = some ((7), ((⟨3, 0, 0, 0, ([0, 0, 0, 2] ++ List.replicate 1 9 : List Byte), 0, none⟩ : PFrame)))) ∧ ((receiving 1 2 { (default : Trib) with next := some 3 } (7, (⟨3, 0, 0, 0, ([0, 0, 0, 2] ++ List.replicate 1 9 : List Byte), 0, none⟩ : PFrame)) : State).tRuns (7) = true) ∧ ((receiving 1 2 { (default : Trib) with next := some 3 } (7, (⟨3, 0, 0, 0, ([0, 0, 0, 2] ++ List.replicate 1 9 : List Byte), 0, none⟩ : PFrame)) : State).on TRB_CTL TRB_CTL_EN = true) ∧ ((receiving 1 2 { (default : Trib) with next := some 3 } (7, (⟨3, 0, 0, 0, ([0, 0, 0, 2] ++ List.replicate 1 9 : List Byte), 0, none⟩ : PFrame)) : State).tcfg (7) TRB_TRIB_KIND = 1) ∧ (((⟨3, 0, 0, 0, ([0, 0, 0, 2] ++ List.replicate 1 9 : List Byte), 0, none⟩ : PFrame)).bytes.length = ((receiving 1 2 { (default : Trib) with next := some 3 } (7, (⟨3, 0, 0, 0, ([0, 0, 0, 2] ++ List.replicate 1 9 : List Byte), 0, none⟩ : PFrame)) : State).tcfg (7) TRB_TRIB_RX_CW_OFS + 4 + 12 * (receiving 1 2 { (default : Trib) with next := some 3 } (7, (⟨3, 0, 0, 0, ([0, 0, 0, 2] ++ List.replicate 1 9 : List Byte), 0, none⟩ : PFrame)) : State).tcfg (7) TRB_TRIB_RTP) + ((receiving 1 2 { (default : Trib) with next := some 3 } (7, (⟨3, 0, 0, 0, ([0, 0, 0, 2] ++ List.replicate 1 9 : List Byte), 0, none⟩ : PFrame)) : State).tFpp (7) * (receiving 1 2 { (default : Trib) with next := some 3 } (7, (⟨3, 0, 0, 0, ([0, 0, 0, 2] ++ List.replicate 1 9 : List Byte), 0, none⟩ : PFrame)) : State).tPay (7))) ∧ ((32768 ≤ ((((beNat ((((⟨3, 0, 0, 0, ([0, 0, 0, 2] ++ List.replicate 1 9 : List Byte), 0, none⟩ : PFrame)).bytes.drop ((receiving 1 2 { (default : Trib) with next := some 3 } (7, (⟨3, 0, 0, 0, ([0, 0, 0, 2] ++ List.replicate 1 9 : List Byte), 0, none⟩ : PFrame)) : State).tcfg (7) TRB_TRIB_RX_CW_OFS)).take 4)) % 65536) + 65536 - ((receiving 1 2 { (default : Trib) with next := some 3 } (7, (⟨3, 0, 0, 0, ([0, 0, 0, 2] ++ List.replicate 1 9 : List Byte), 0, none⟩ : PFrame)) : State).ep (7)).next.getD ((beNat ((((⟨3, 0, 0, 0, ([0, 0, 0, 2] ++ List.replicate 1 9 : List Byte), 0, none⟩ : PFrame)).bytes.drop ((receiving 1 2 { (default : Trib) with next := some 3 } (7, (⟨3, 0, 0, 0, ([0, 0, 0, 2] ++ List.replicate 1 9 : List Byte), 0, none⟩ : PFrame)) : State).tcfg (7) TRB_TRIB_RX_CW_OFS)).take 4)) % 65536)) % 65536) ∨ ((receiving 1 2 { (default : Trib) with next := some 3 } (7, (⟨3, 0, 0, 0, ([0, 0, 0, 2] ++ List.replicate 1 9 : List Byte), 0, none⟩ : PFrame)) : State).ep (7)).jb.look ((beNat ((((⟨3, 0, 0, 0, ([0, 0, 0, 2] ++ List.replicate 1 9 : List Byte), 0, none⟩ : PFrame)).bytes.drop ((receiving 1 2 { (default : Trib) with next := some 3 } (7, (⟨3, 0, 0, 0, ([0, 0, 0, 2] ++ List.replicate 1 9 : List Byte), 0, none⟩ : PFrame)) : State).tcfg (7) TRB_TRIB_RX_CW_OFS)).take 4)) % 65536) ≠ [])) := by decide +kernel
theorem wit_ContainersPacketsAndInterchange_pwPacketReceive_c11_w1 : ((receiving 1 2 { (default : Trib) with next := some 3, jb := [(5, [1])] } (7, (⟨3, 0, 0, 0, ([0, 0, 0, 5] ++ List.replicate 1 9 : List Byte), 0, none⟩ : PFrame)) : State).trb.rx.find? (fun e => decide (e.2.src < 32)) = some ((7), ((⟨3, 0, 0, 0, ([0, 0, 0, 5] ++ List.replicate 1 9 : List Byte), 0, none⟩ : PFrame)))) ∧ ((receiving 1 2 { (default : Trib) with next := some 3, jb := [(5, [1])] } (7, (⟨3, 0, 0, 0, ([0, 0, 0, 5] ++ List.replicate 1 9 : List Byte), 0, none⟩ : PFrame)) : State).tRuns (7) = true) ∧ ((receiving 1 2 { (default : Trib) with next := some 3, jb := [(5, [1])] } (7, (⟨3, 0, 0, 0, ([0, 0, 0, 5] ++ List.replicate 1 9 : List Byte), 0, none⟩ : PFrame)) : State).on TRB_CTL TRB_CTL_EN = true) ∧ ((receiving 1 2 { (default : Trib) with next := some 3, jb := [(5, [1])] } (7, (⟨3, 0, 0, 0, ([0, 0, 0, 5] ++ List.replicate 1 9 : List Byte), 0, none⟩ : PFrame)) : State).tcfg (7) TRB_TRIB_KIND = 1) ∧ (((⟨3, 0, 0, 0, ([0, 0, 0, 5] ++ List.replicate 1 9 : List Byte), 0, none⟩ : PFrame)).bytes.length = ((receiving 1 2 { (default : Trib) with next := some 3, jb := [(5, [1])] } (7, (⟨3, 0, 0, 0, ([0, 0, 0, 5] ++ List.replicate 1 9 : List Byte), 0, none⟩ : PFrame)) : State).tcfg (7) TRB_TRIB_RX_CW_OFS + 4 + 12 * (receiving 1 2 { (default : Trib) with next := some 3, jb := [(5, [1])] } (7, (⟨3, 0, 0, 0, ([0, 0, 0, 5] ++ List.replicate 1 9 : List Byte), 0, none⟩ : PFrame)) : State).tcfg (7) TRB_TRIB_RTP) + ((receiving 1 2 { (default : Trib) with next := some 3, jb := [(5, [1])] } (7, (⟨3, 0, 0, 0, ([0, 0, 0, 5] ++ List.replicate 1 9 : List Byte), 0, none⟩ : PFrame)) : State).tFpp (7) * (receiving 1 2 { (default : Trib) with next := some 3, jb := [(5, [1])] } (7, (⟨3, 0, 0, 0, ([0, 0, 0, 5] ++ List.replicate 1 9 : List Byte), 0, none⟩ : PFrame)) : State).tPay (7))) ∧ ((32768 ≤ ((((beNat ((((⟨3, 0, 0, 0, ([0, 0, 0, 5] ++ List.replicate 1 9 : List Byte), 0, none⟩ : PFrame)).bytes.drop ((receiving 1 2 { (default : Trib) with next := some 3, jb := [(5, [1])] } (7, (⟨3, 0, 0, 0, ([0, 0, 0, 5] ++ List.replicate 1 9 : List Byte), 0, none⟩ : PFrame)) : State).tcfg (7) TRB_TRIB_RX_CW_OFS)).take 4)) % 65536) + 65536 - ((receiving 1 2 { (default : Trib) with next := some 3, jb := [(5, [1])] } (7, (⟨3, 0, 0, 0, ([0, 0, 0, 5] ++ List.replicate 1 9 : List Byte), 0, none⟩ : PFrame)) : State).ep (7)).next.getD ((beNat ((((⟨3, 0, 0, 0, ([0, 0, 0, 5] ++ List.replicate 1 9 : List Byte), 0, none⟩ : PFrame)).bytes.drop ((receiving 1 2 { (default : Trib) with next := some 3, jb := [(5, [1])] } (7, (⟨3, 0, 0, 0, ([0, 0, 0, 5] ++ List.replicate 1 9 : List Byte), 0, none⟩ : PFrame)) : State).tcfg (7) TRB_TRIB_RX_CW_OFS)).take 4)) % 65536)) % 65536) ∨ ((receiving 1 2 { (default : Trib) with next := some 3, jb := [(5, [1])] } (7, (⟨3, 0, 0, 0, ([0, 0, 0, 5] ++ List.replicate 1 9 : List Byte), 0, none⟩ : PFrame)) : State).ep (7)).jb.look ((beNat ((((⟨3, 0, 0, 0, ([0, 0, 0, 5] ++ List.replicate 1 9 : List Byte), 0, none⟩ : PFrame)).bytes.drop ((receiving 1 2 { (default : Trib) with next := some 3, jb := [(5, [1])] } (7, (⟨3, 0, 0, 0, ([0, 0, 0, 5] ++ List.replicate 1 9 : List Byte), 0, none⟩ : PFrame)) : State).tcfg (7) TRB_TRIB_RX_CW_OFS)).take 4)) % 65536) ≠ [])) := by decide +kernel
theorem wit_ContainersPacketsAndInterchange_pwPacketReceive_c12 : ((receiving 1 2 { (default : Trib) with next := some 3 } (7, (⟨3, 0, 0, 0, ([0, 0, 0, 200] ++ List.replicate 1 9 : List Byte), 0, none⟩ : PFrame)) : State).trb.rx.find? (fun e => decide (e.2.src < 32)) = some ((7), ((⟨3, 0, 0, 0, ([0, 0, 0, 200] ++ List.replicate 1 9 : List Byte), 0, none⟩ : PFrame)))) ∧ ((receiving 1 2 { (default : Trib) with next := some 3 } (7, (⟨3, 0, 0, 0, ([0, 0, 0, 200] ++ List.replicate 1 9 : List Byte), 0, none⟩ : PFrame)) : State).tRuns (7) = true) ∧ ((receiving 1 2 { (default : Trib) with next := some 3 } (7, (⟨3, 0, 0, 0, ([0, 0, 0, 200] ++ List.replicate 1 9 : List Byte), 0, none⟩ : PFrame)) : State).on TRB_CTL TRB_CTL_EN = true) ∧ ((receiving 1 2 { (default : Trib) with next := some 3 } (7, (⟨3, 0, 0, 0, ([0, 0, 0, 200] ++ List.replicate 1 9 : List Byte), 0, none⟩ : PFrame)) : State).tcfg (7) TRB_TRIB_KIND = 1) ∧ (((⟨3, 0, 0, 0, ([0, 0, 0, 200] ++ List.replicate 1 9 : List Byte), 0, none⟩ : PFrame)).bytes.length = ((receiving 1 2 { (default : Trib) with next := some 3 } (7, (⟨3, 0, 0, 0, ([0, 0, 0, 200] ++ List.replicate 1 9 : List Byte), 0, none⟩ : PFrame)) : State).tcfg (7) TRB_TRIB_RX_CW_OFS + 4 + 12 * (receiving 1 2 { (default : Trib) with next := some 3 } (7, (⟨3, 0, 0, 0, ([0, 0, 0, 200] ++ List.replicate 1 9 : List Byte), 0, none⟩ : PFrame)) : State).tcfg (7) TRB_TRIB_RTP) + ((receiving 1 2 { (default : Trib) with next := some 3 } (7, (⟨3, 0, 0, 0, ([0, 0, 0, 200] ++ List.replicate 1 9 : List Byte), 0, none⟩ : PFrame)) : State).tFpp (7) * (receiving 1 2 { (default : Trib) with next := some 3 } (7, (⟨3, 0, 0, 0, ([0, 0, 0, 200] ++ List.replicate 1 9 : List Byte), 0, none⟩ : PFrame)) : State).tPay (7))) ∧ (cdiv ((receiving 1 2 { (default : Trib) with next := some 3 } (7, (⟨3, 0, 0, 0, ([0, 0, 0, 200] ++ List.replicate 1 9 : List Byte), 0, none⟩ : PFrame)) : State).tJb (7)) ((receiving 1 2 { (default : Trib) with next := some 3 } (7, (⟨3, 0, 0, 0, ([0, 0, 0, 200] ++ List.replicate 1 9 : List Byte), 0, none⟩ : PFrame)) : State).tFpp (7)) < ((((beNat ((((⟨3, 0, 0, 0, ([0, 0, 0, 200] ++ List.replicate 1 9 : List Byte), 0, none⟩ : PFrame)).bytes.drop ((receiving 1 2 { (default : Trib) with next := some 3 } (7, (⟨3, 0, 0, 0, ([0, 0, 0, 200] ++ List.replicate 1 9 : List Byte), 0, none⟩ : PFrame)) : State).tcfg (7) TRB_TRIB_RX_CW_OFS)).take 4)) % 65536) + 65536 - ((receiving 1 2 { (default : Trib) with next := some 3 } (7, (⟨3, 0, 0, 0, ([0, 0, 0, 200] ++ List.replicate 1 9 : List Byte), 0, none⟩ : PFrame)) : State).ep (7)).next.getD ((beNat ((((⟨3, 0, 0, 0, ([0, 0, 0, 200] ++ List.replicate 1 9 : List Byte), 0, none⟩ : PFrame)).bytes.drop ((receiving 1 2 { (default : Trib) with next := some 3 } (7, (⟨3, 0, 0, 0, ([0, 0, 0, 200] ++ List.replicate 1 9 : List Byte), 0, none⟩ : PFrame)) : State).tcfg (7) TRB_TRIB_RX_CW_OFS)).take 4)) % 65536)) % 65536)) ∧ (((((beNat ((((⟨3, 0, 0, 0, ([0, 0, 0, 200] ++ List.replicate 1 9 : List Byte), 0, none⟩ : PFrame)).bytes.drop ((receiving 1 2 { (default : Trib) with next := some 3 } (7, (⟨3, 0, 0, 0, ([0, 0, 0, 200] ++ List.replicate 1 9 : List Byte), 0, none⟩ : PFrame)) : State).tcfg (7) TRB_TRIB_RX_CW_OFS)).take 4)) % 65536) + 65536 - ((receiving 1 2 { (default : Trib) with next := some 3 } (7, (⟨3, 0, 0, 0, ([0, 0, 0, 200] ++ List.replicate 1 9 : List Byte), 0, none⟩ : PFrame)) : State).ep (7)).next.getD ((beNat ((((⟨3, 0, 0, 0, ([0, 0, 0, 200] ++ List.replicate 1 9 : List Byte), 0, none⟩ : PFrame)).bytes.drop ((receiving 1 2 { (default : Trib) with next := some 3 } (7, (⟨3, 0, 0, 0, ([0, 0, 0, 200] ++ List.replicate 1 9 : List Byte), 0, none⟩ : PFrame)) : State).tcfg (7) TRB_TRIB_RX_CW_OFS)).take 4)) % 65536)) % 65536) < 32768) ∧ (((receiving 1 2 { (default : Trib) with next := some 3 } (7, (⟨3, 0, 0, 0, ([0, 0, 0, 200] ++ List.replicate 1 9 : List Byte), 0, none⟩ : PFrame)) : State).ep (7)).jb.look ((beNat ((((⟨3, 0, 0, 0, ([0, 0, 0, 200] ++ List.replicate 1 9 : List Byte), 0, none⟩ : PFrame)).bytes.drop ((receiving 1 2 { (default : Trib) with next := some 3 } (7, (⟨3, 0, 0, 0, ([0, 0, 0, 200] ++ List.replicate 1 9 : List Byte), 0, none⟩ : PFrame)) : State).tcfg (7) TRB_TRIB_RX_CW_OFS)).take 4)) % 65536) = []) := by decide +kernel
theorem wit_ContainersPacketsAndInterchange_jcDecision_c13 : (((trib 0 0 { (default : Trib) with run := 0 }) : State).tOn ((7 : Fin 4096)) = true) ∧ (((trib 0 0 { (default : Trib) with run := 0 }) : State).tcfg ((7 : Fin 4096)) TRB_TRIB_KIND = 0) ∧ (((trib 0 0 { (default : Trib) with run := 0 }) : State).tcfg ((7 : Fin 4096)) TRB_TRIB_TYPE = 0) ∧ ((((trib 0 0 { (default : Trib) with run := 0 }) : State).ep ((7 : Fin 4096))).sent = none) := by decide +kernel
theorem wit_ContainersPacketsAndInterchange_jcDecision_c14 : (((trib 0 0 { (default : Trib) with sent := some 0 }) : State).tOn ((7 : Fin 4096)) = true) ∧ (((trib 0 0 { (default : Trib) with sent := some 0 }) : State).tcfg ((7 : Fin 4096)) TRB_TRIB_KIND = 0) ∧ (((trib 0 0 { (default : Trib) with sent := some 0 }) : State).tcfg ((7 : Fin 4096)) TRB_TRIB_TYPE = 0) ∧ ((((trib 0 0 { (default : Trib) with sent := some 0 }) : State).ep ((7 : Fin 4096))).sent = some (0)) := by decide +kernel
theorem wit_ContainersPacketsAndInterchange_tsiFrame_c15 : ((switching 0 : State).on TRB_CTL TRB_CTL_EN = true) ∧ ((switching 0 : State).trb.frame = some (6)) ∧ ((((6) + 1) % 16 ≠ 0 ∨ (switching 0 : State).on TRB_CM_CTL TRB_CM_CTL_SWITCH = false)) ∧ ((switching 0 : State).trb.stop = []) ∧ (Regs.wf (switching 0 : State).regs = true) := by decide +kernel
theorem wit_ContainersPacketsAndInterchange_tsiFrame_c16 : (({ (switching 1) with trb := { (switching 1).trb with frame := some 15 } } : State).on TRB_CTL TRB_CTL_EN = true) ∧ (({ (switching 1) with trb := { (switching 1).trb with frame := some 15 } } : State).trb.frame = some (15)) ∧ (((15) + 1) % 16 = 0) ∧ (({ (switching 1) with trb := { (switching 1).trb with frame := some 15 } } : State).on TRB_CM_CTL TRB_CM_CTL_SWITCH = true) ∧ (({ (switching 1) with trb := { (switching 1).trb with frame := some 15 } } : State).cyc.switching = false) := by decide +kernel
theorem wit_ContainersPacketsAndInterchange_tsiFrame_c17 : (({ (switching 0) with trb := { (switching 0).trb with frame := none }, tim := { (switching 0).tim with ns := 250000 } } : State).on TRB_CTL TRB_CTL_EN = true) ∧ (({ (switching 0) with trb := { (switching 0).trb with frame := none }, tim := { (switching 0).tim with ns := 250000 } } : State).trb.frame = none) ∧ (({ (switching 0) with trb := { (switching 0).trb with frame := none }, tim := { (switching 0).tim with ns := 250000 } } : State).g TRB_CTL TRB_CTL_TSI_OFFSET_NS % 125000 ≤ ({ (switching 0) with trb := { (switching 0).trb with frame := none }, tim := { (switching 0).tim with ns := 250000 } } : State).devNs) ∧ ((({ (switching 0) with trb := { (switching 0).trb with frame := none }, tim := { (switching 0).tim with ns := 250000 } } : State).devNs - ({ (switching 0) with trb := { (switching 0).trb with frame := none }, tim := { (switching 0).tim with ns := 250000 } } : State).g TRB_CTL TRB_CTL_TSI_OFFSET_NS % 125000) % 125000 = 0) := by decide +kernel
theorem wit_ContainersPacketsAndInterchange_tsiFrame_c18 : ((stopping : State).on TRB_CTL TRB_CTL_EN = true) ∧ ((stopping : State).trb.frame = some (6)) := by decide +kernel
theorem wit_ContainersPacketsAndInterchange_tsiFrame_c19 : (((awake [12] : State).on TRB_CTL TRB_CTL_EN = false ∨ ((awake [12] : State).trb.frame = none ∧ ((awake [12] : State).devNs < (awake [12] : State).g TRB_CTL TRB_CTL_TSI_OFFSET_NS % 125000 ∨ ((awake [12] : State).devNs - (awake [12] : State).g TRB_CTL TRB_CTL_TSI_OFFSET_NS % 125000) % 125000 ≠ 0)))) := by decide +kernel
theorem wit_ContainersPacketsAndInterchange_cmSwitch_c20 : ((awake [12] : State).reaches (Agent.hpa) TRB_CM_CTL = true) ∧ ((0x80000000#32).getLsbD 31 = true) ∧ ((0x80000000#32).getLsbD 30 = false) ∧ ((awake [12] : State).on TRB_CM_CTL TRB_CM_CTL_SWITCH = false) ∧ ((awake [12] : State).on TRB_CM_CTL TRB_CM_CTL_COPY = false) := by decide +kernel
theorem wit_ContainersPacketsAndInterchange_cmSwitch_c21 : ((awake [12] : State).reaches (Agent.hpa) TRB_CM_CTL = true) ∧ ((0xC0000000#32).getLsbD 31 = true) ∧ ((0xC0000000#32).getLsbD 30 = true) ∧ ((awake [12] : State).on TRB_CM_CTL TRB_CM_CTL_SWITCH = false) ∧ ((awake [12] : State).on TRB_CM_CTL TRB_CM_CTL_COPY = false) := by decide +kernel
theorem wit_ContainersPacketsAndInterchange_cmCopy_c22 : ((awake [12] : State).reaches (Agent.hpa) TRB_CM_CTL = true) ∧ ((0x40000000#32).getLsbD 31 = false) ∧ ((0x40000000#32).getLsbD 30 = true) ∧ ((awake [12] : State).on TRB_CM_CTL TRB_CM_CTL_SWITCH = false) ∧ ((awake [12] : State).on TRB_CM_CTL TRB_CM_CTL_COPY = false) := by decide +kernel
theorem wit_ContainersPacketsAndInterchange_cmSwitch_c23 : (((awake [12]).p TRB_CM_CTL TRB_CM_CTL_COPY 1 : State).reaches (Agent.hpa) TRB_CM_CTL = true) ∧ ((0xC0000000#32).getLsbD 31 = true) ∧ ((((awake [12]).p TRB_CM_CTL TRB_CM_CTL_COPY 1 : State).on TRB_CM_CTL TRB_CM_CTL_SWITCH = true ∨ ((awake [12]).p TRB_CM_CTL TRB_CM_CTL_COPY 1 : State).on TRB_CM_CTL TRB_CM_CTL_COPY = true)) := by decide +kernel
theorem wit_ContainersPacketsAndInterchange_cmCopy_c24 : (((awake [12]).p TRB_CM_CTL TRB_CM_CTL_COPY 1 : State).reaches (Agent.hpa) TRB_CM_CTL = true) ∧ ((0xC0000000#32).getLsbD 30 = true) ∧ ((((awake [12]).p TRB_CM_CTL TRB_CM_CTL_COPY 1 : State).on TRB_CM_CTL TRB_CM_CTL_SWITCH = true ∨ ((awake [12]).p TRB_CM_CTL TRB_CM_CTL_COPY 1 : State).on TRB_CM_CTL TRB_CM_CTL_COPY = true)) := by decide +kernel
theorem wit_ContainersPacketsAndInterchange_cmCopyDone_c25 : ((awake [12] : State).on TRB_CM_CTL TRB_CM_CTL_COPY = false) := by decide +kernel
theorem wit_ContainersPacketsAndInterchange_cmCopyDone_c26 : (({ (switching 0).p TRB_CM_CTL TRB_CM_CTL_COPY 1 with trb := { (switching 0).trb with kept := [65] } } : State).on TRB_CM_CTL TRB_CM_CTL_COPY = true) ∧ ((∀ k ∈ ({ (switching 0).p TRB_CM_CTL TRB_CM_CTL_COPY 1 with trb := { (switching 0).trb with kept := [65] } } : State).trb.kept, k < 65536)) := by decide +kernel
theorem wit_KeyBlobsAndSealedMode_blobUnwrap_c0 : (((awake [11]).wr (akey 1 (CRY_BLOB 3)) 77 : State).reaches (Agent.hpb) CRY_BLOB_CTL = true) ∧ ((0x80000000#32).getLsbD 31 = true) ∧ (((awake [11]).wr (akey 1 (CRY_BLOB 3)) 77 : State).blobOf (agCode (Agent.hpb)) = none) := by decide +kernel
theorem wit_KeyBlobsAndSealedMode_blobUnwrap_c1 : (({ awake [11] with cry := { (awake []).cry with blobs := [(1, [])] } } : State).reaches (Agent.hpb) CRY_BLOB_CTL = true) ∧ ((0x80000000#32).getLsbD 31 = true) ∧ (({ awake [11] with cry := { (awake []).cry with blobs := [(1, [])] } } : State).blobOf (agCode (Agent.hpb)) ≠ none) := by decide +kernel
theorem wit_KeyBlobsAndSealedMode_blobResult_c2 : (({ unwrapping with cry := { unwrapping.cry with blobs := [(0, ublob), (1, ublob)] } } : State).blobOf (1) = some (ublob)) ∧ (({ unwrapping with cry := { unwrapping.cry with blobs := [(0, ublob), (1, ublob)] } } : State).blobWaits (1) (ublob) = true) := by decide +kernel
theorem wit_KeyBlobsAndSealedMode_blobResult_c3 : ((1) < 1000) ∧ ((unwrapping : State).blobOf (1) = some (ublob)) ∧ ((unwrapping : State).blobWaits (1) (ublob) = false) ∧ (((unwrapping : State).blobResult (bytesOf (ublob)) ((none : Option (List Byte)))) ≠ 0) := by decide +kernel
theorem wit_KeyBlobsAndSealedMode_blobResult_c4 : ((1) < 1000) ∧ ((unwrapping : State).blobOf (1) = some (ublob)) ∧ ((unwrapping : State).blobWaits (1) (ublob) = false) ∧ (((unwrapping : State).blobResult (bytesOf (ublob)) ((some (List.replicate 16 0x3C) : Option (List Byte)))) = 0) ∧ (blobByte (bytesOf (ublob)) 5 ≠ 4) := by decide +kernel
theorem wit_KeyBlobsAndSealedMode_blobResult_c5 : ((1) < 1000) ∧ (({ unwrapping with cry := { unwrapping.cry with blobs := [(1, mblob)] } } : State).blobOf (1) = some (mblob)) ∧ (({ unwrapping with cry := { unwrapping.cry with blobs := [(1, mblob)] } } : State).blobWaits (1) (mblob) = false) ∧ ((({ unwrapping with cry := { unwrapping.cry with blobs := [(1, mblob)] } } : State).blobResult (bytesOf (mblob)) ((some (List.replicate 16 0x3C) : Option (List Byte)))) = 0) ∧ (blobByte (bytesOf (mblob)) 5 = 4) ∧ ((({ unwrapping with cry := { unwrapping.cry with blobs := [(1, mblob)] } } : State).keyOnus (beNat (((bytesOf (mblob)).drop 8).take 4))).head? = some (1535)) ∧ (({ unwrapping with cry := { unwrapping.cry with blobs := [(1, mblob)] } } : State).g (CRY_ONU (1535)) CRY_ONU_BASE ≤ 131067) := by decide +kernel
theorem wit_KeyBlobsAndSealedMode_slotClr : ((unwrapping : State).reaches (Agent.hpa) CRY_SLOT_CLR = true) := by decide +kernel
theorem wit_KeyBlobsAndSealedMode_sealReq_c7 : (((unwrapping.p (RNG_ONU 5 255) RNG_ONU_SEALED_CAP 1) : State).reaches (Agent.hpa) (CRY_ONU (256 * ((5 : Fin 64)).val + ((255 : Fin 256)).val)) = true) ∧ ((0x08000064#32).getLsbD 27 = true) ∧ (((unwrapping.p (RNG_ONU 5 255) RNG_ONU_SEALED_CAP 1) : State).cry.seals.look (256 * ((5 : Fin 64)).val + ((255 : Fin 256)).val) = none) ∧ (((unwrapping.p (RNG_ONU 5 255) RNG_ONU_SEALED_CAP 1) : State).on (RNG_ONU ((5 : Fin 64)) ((255 : Fin 256))) RNG_ONU_SEALED_CAP = true) ∧ ((((unwrapping.p (RNG_ONU 5 255) RNG_ONU_SEALED_CAP 1) : State).pch.look ((5 : Fin 64))).ploamQ.length < 64) ∧ (((((unwrapping.p (RNG_ONU 5 255) RNG_ONU_SEALED_CAP 1) : State).wrRW (CRY_ONU (256 * ((5 : Fin 64)).val + ((255 : Fin 256)).val)) (0x08000064#32)).on (CRY_SLOT ((((unwrapping.p (RNG_ONU 5 255) RNG_ONU_SEALED_CAP 1) : State).wrRW (CRY_ONU (256 * ((5 : Fin 64)).val + ((255 : Fin 256)).val)) (0x08000064#32)).g (CRY_ONU (256 * ((5 : Fin 64)).val + ((255 : Fin 256)).val)) CRY_ONU_BASE + (2 - (((unwrapping.p (RNG_ONU 5 255) RNG_ONU_SEALED_CAP 1) : State).wrRW (CRY_ONU (256 * ((5 : Fin 64)).val + ((255 : Fin 256)).val)) (0x08000064#32)).g (CRY_ONU (256 * ((5 : Fin 64)).val + ((255 : Fin 256)).val)) CRY_ONU_TX_IDX) - 1)) CRY_SLOT_VALID = false ∨ (((unwrapping.p (RNG_ONU 5 255) RNG_ONU_SEALED_CAP 1) : State).wrRW (CRY_ONU (256 * ((5 : Fin 64)).val + ((255 : Fin 256)).val)) (0x08000064#32)).g (CRY_SLOT ((((unwrapping.p (RNG_ONU 5 255) RNG_ONU_SEALED_CAP 1) : State).wrRW (CRY_ONU (256 * ((5 : Fin 64)).val + ((255 : Fin 256)).val)) (0x08000064#32)).g (CRY_ONU (256 * ((5 : Fin 64)).val + ((255 : Fin 256)).val)) CRY_ONU_BASE + (2 - (((unwrapping.p (RNG_ONU 5 255) RNG_ONU_SEALED_CAP 1) : State).wrRW (CRY_ONU (256 * ((5 : Fin 64)).val + ((255 : Fin 256)).val)) (0x08000064#32)).g (CRY_ONU (256 * ((5 : Fin 64)).val + ((255 : Fin 256)).val)) CRY_ONU_TX_IDX) - 1)) CRY_SLOT_TYPE ≠ 2)) := by decide +kernel
theorem wit_KeyBlobsAndSealedMode_sealReq_c8 : (((unwrapping.p (RNG_ONU 5 255) RNG_ONU_SEALED_CAP 1 |>.wr (CRY_SLOT 101) 0xA0000000) : State).reaches (Agent.hpa) (CRY_ONU (256 * ((5 : Fin 64)).val + ((255 : Fin 256)).val)) = true) ∧ ((0x08000064#32).getLsbD 27 = true) ∧ (((unwrapping.p (RNG_ONU 5 255) RNG_ONU_SEALED_CAP 1 |>.wr (CRY_SLOT 101) 0xA0000000) : State).cry.seals.look (256 * ((5 : Fin 64)).val + ((255 : Fin 256)).val) = none) ∧ (((unwrapping.p (RNG_ONU 5 255) RNG_ONU_SEALED_CAP 1 |>.wr (CRY_SLOT 101) 0xA0000000) : State).on (RNG_ONU ((5 : Fin 64)) ((255 : Fin 256))) RNG_ONU_SEALED_CAP = true) ∧ ((((unwrapping.p (RNG_ONU 5 255) RNG_ONU_SEALED_CAP 1 |>.wr (CRY_SLOT 101) 0xA0000000) : State).pch.look ((5 : Fin 64))).ploamQ.length < 64) ∧ ((((unwrapping.p (RNG_ONU 5 255) RNG_ONU_SEALED_CAP 1 |>.wr (CRY_SLOT 101) 0xA0000000) : State).wrRW (CRY_ONU (256 * ((5 : Fin 64)).val + ((255 : Fin 256)).val)) (0x08000064#32)).on (CRY_SLOT ((((unwrapping.p (RNG_ONU 5 255) RNG_ONU_SEALED_CAP 1 |>.wr (CRY_SLOT 101) 0xA0000000) : State).wrRW (CRY_ONU (256 * ((5 : Fin 64)).val + ((255 : Fin 256)).val)) (0x08000064#32)).g (CRY_ONU (256 * ((5 : Fin 64)).val + ((255 : Fin 256)).val)) CRY_ONU_BASE + (2 - (((unwrapping.p (RNG_ONU 5 255) RNG_ONU_SEALED_CAP 1 |>.wr (CRY_SLOT 101) 0xA0000000) : State).wrRW (CRY_ONU (256 * ((5 : Fin 64)).val + ((255 : Fin 256)).val)) (0x08000064#32)).g (CRY_ONU (256 * ((5 : Fin 64)).val + ((255 : Fin 256)).val)) CRY_ONU_TX_IDX) - 1)) CRY_SLOT_VALID = true) ∧ ((((unwrapping.p (RNG_ONU 5 255) RNG_ONU_SEALED_CAP 1 |>.wr (CRY_SLOT 101) 0xA0000000) : State).wrRW (CRY_ONU (256 * ((5 : Fin 64)).val + ((255 : Fin 256)).val)) (0x08000064#32)).g (CRY_SLOT ((((unwrapping.p (RNG_ONU 5 255) RNG_ONU_SEALED_CAP 1 |>.wr (CRY_SLOT 101) 0xA0000000) : State).wrRW (CRY_ONU (256 * ((5 : Fin 64)).val + ((255 : Fin 256)).val)) (0x08000064#32)).g (CRY_ONU (256 * ((5 : Fin 64)).val + ((255 : Fin 256)).val)) CRY_ONU_BASE + (2 - (((unwrapping.p (RNG_ONU 5 255) RNG_ONU_SEALED_CAP 1 |>.wr (CRY_SLOT 101) 0xA0000000) : State).wrRW (CRY_ONU (256 * ((5 : Fin 64)).val + ((255 : Fin 256)).val)) (0x08000064#32)).g (CRY_ONU (256 * ((5 : Fin 64)).val + ((255 : Fin 256)).val)) CRY_ONU_TX_IDX) - 1)) CRY_SLOT_TYPE = 2) := by decide +kernel
theorem wit_KeyBlobsAndSealedMode_sealedKey_c9 : (((List.replicate 24 7 : List Byte)).length = 24) ∧ (((sealing ⟨2, 3, none, none, 0, 0⟩) : State).cry.seals.look (256 * ((5 : Fin 64)).val + ((255 : Fin 256)).val) = some ((⟨2, 3, none, none, 0, 0⟩ : Seal))) ∧ (((⟨2, 3, none, none, 0, 0⟩ : Seal)).phase = 0) ∧ (((⟨2, 3, none, none, 0, 0⟩ : Seal)).idx = ((2 : Fin 256)).val) ∧ ((if ((0 : Fin 2)) = 0 then ((⟨2, 3, none, none, 0, 0⟩ : Seal)).part1 else ((⟨2, 3, none, none, 0, 0⟩ : Seal)).part0) = none) := by decide +kernel
theorem wit_KeyBlobsAndSealedMode_sealedKey_c9_w1 : (((List.replicate 24 7 : List Byte)).length = 24) ∧ (((sealing ⟨2, 3, none, none, 0, 0⟩) : State).cry.seals.look (256 * ((5 : Fin 64)).val + ((255 : Fin 256)).val) = some ((⟨2, 3, none, none, 0, 0⟩ : Seal))) ∧ (((⟨2, 3, none, none, 0, 0⟩ : Seal)).phase = 0) ∧ (((⟨2, 3, none, none, 0, 0⟩ : Seal)).idx = ((2 : Fin 256)).val) ∧ ((if ((1 : Fin 2)) = 0 then ((⟨2, 3, none, none, 0, 0⟩ : Seal)).part1 else ((⟨2, 3, none, none, 0, 0⟩ : Seal)).part0) = none) := by decide +kernel
theorem wit_KeyBlobsAndSealedMode_sealedKey_c10 : (((List.replicate 24 7 : List Byte)).length = 24) ∧ (((sealing ⟨2, 3, none, some [9], 0, 0⟩) : State).cry.seals.look (256 * ((5 : Fin 64)).val + ((255 : Fin 256)).val) = some ((⟨2, 3, none, some [9], 0, 0⟩ : Seal))) ∧ (((⟨2, 3, none, some [9], 0, 0⟩ : Seal)).phase = 0) ∧ (((⟨2, 3, none, some [9], 0, 0⟩ : Seal)).idx = ((2 : Fin 256)).val) ∧ (((⟨2, 3, none, some [9], 0, 0⟩ : Seal)).part1 = some ([9])) := by decide +kernel
theorem wit_KeyBlobsAndSealedMode_sealedKey_c11 : (((List.replicate 24 7 : List Byte)).length = 24) ∧ (((sealing ⟨2, 3, some [9], none, 0, 0⟩) : State).cry.seals.look (256 * ((5 : Fin 64)).val + ((255 : Fin 256)).val) = some ((⟨2, 3, some [9], none, 0, 0⟩ : Seal))) ∧ (((⟨2, 3, some [9], none, 0, 0⟩ : Seal)).phase = 0) ∧ (((⟨2, 3, some [9], none, 0, 0⟩ : Seal)).idx = ((2 : Fin 256)).val) ∧ (((⟨2, 3, some [9], none, 0, 0⟩ : Seal)).part0 = some ([9])) := by decide +kernel
theorem wit_KeyBlobsAndSealedMode_blobResult_c12 : (({ sealing ⟨1, 3, none, none, 1, 0⟩ with cry := { (sealing ⟨1, 3, none, none, 1, 0⟩).cry with blobs := [(2535, ublob)] } } : State).blobOf (1000 + (256 * ((5 : Fin 64)).val + ((255 : Fin 256)).val)) = some (ublob)) ∧ (({ sealing ⟨1, 3, none, none, 1, 0⟩ with cry := { (sealing ⟨1, 3, none, none, 1, 0⟩).cry with blobs := [(2535, ublob)] } } : State).blobWaits (1000 + (256 * ((5 : Fin 64)).val + ((255 : Fin 256)).val)) (ublob) = false) ∧ (({ sealing ⟨1, 3, none, none, 1, 0⟩ with cry := { (sealing ⟨1, 3, none, none, 1, 0⟩).cry with blobs := [(2535, ublob)] } } : State).cry.seals.look (256 * ((5 : Fin 64)).val + ((255 : Fin 256)).val) = some ((⟨1, 3, none, none, 1, 0⟩ : Seal))) ∧ (((⟨1, 3, none, none, 1, 0⟩ : Seal)).phase = 1) ∧ ((({ sealing ⟨1, 3, none, none, 1, 0⟩ with cry := { (sealing ⟨1, 3, none, none, 1, 0⟩).cry with blobs := [(2535, ublob)] } } : State).blobResult (bytesOf (ublob)) ((none : Option (List Byte)))) ≠ 0) := by decide +kernel
theorem wit_KeyBlobsAndSealedMode_blobResult_c13 : (({ sealing ⟨1, 3, none, none, 1, 0⟩ with cry := { (sealing ⟨1, 3, none, none, 1, 0⟩).cry with blobs := [(2535, ublob)] } } : State).blobOf (1000 + (256 * ((5 : Fin 64)).val + ((255 : Fin 256)).val)) = some (ublob)) ∧ (({ sealing ⟨1, 3, none, none, 1, 0⟩ with cry := { (sealing ⟨1, 3, none, none, 1, 0⟩).cry with blobs := [(2535, ublob)] } } : State).blobWaits (1000 + (256 * ((5 : Fin 64)).val + ((255 : Fin 256)).val)) (ublob) = false) ∧ (({ sealing ⟨1, 3, none, none, 1, 0⟩ with cry := { (sealing ⟨1, 3, none, none, 1, 0⟩).cry with blobs := [(2535, ublob)] } } : State).cry.seals.look (256 * ((5 : Fin 64)).val + ((255 : Fin 256)).val) = some ((⟨1, 3, none, none, 1, 0⟩ : Seal))) ∧ (((⟨1, 3, none, none, 1, 0⟩ : Seal)).phase = 1) ∧ ((({ sealing ⟨1, 3, none, none, 1, 0⟩ with cry := { (sealing ⟨1, 3, none, none, 1, 0⟩).cry with blobs := [(2535, ublob)] } } : State).blobResult (bytesOf (ublob)) ((some (List.replicate 16 0x3C) : Option (List Byte)))) = 0) ∧ ((({ sealing ⟨1, 3, none, none, 1, 0⟩ with cry := { (sealing ⟨1, 3, none, none, 1, 0⟩).cry with blobs := [(2535, ublob)] } } : State).pch.look ((5 : Fin 64))).ploamQ.length < 64) := by decide +kernel
theorem wit_KeyBlobsAndSealedMode_sealedAck_c14 : (((sealing ⟨2, 3, none, none, 2, 11⟩) : State).cry.seals.look (256 * ((5 : Fin 64)).val + ((255 : Fin 256)).val) = some ((⟨2, 3, none, none, 2, 11⟩ : Seal))) ∧ (((⟨2, 3, none, none, 2, 11⟩ : Seal)).idx = ((2 : Fin 256)).val) ∧ (((⟨2, 3, none, none, 2, 11⟩ : Seal)).phase = 2) ∧ (((1 : Fin 256)) = 1) ∧ (((0 : Fin 256)) = 0) ∧ (((sealing ⟨2, 3, none, none, 2, 11⟩) : State).rd64 (DSF_SFC ((5 : Fin 64))) < ((⟨2, 3, none, none, 2, 11⟩ : Seal)).switchSf) := by decide +kernel
theorem wit_KeyBlobsAndSealedMode_sealedAck_c15 : ((((sealing ⟨2, 3, none, none, 2, 11⟩).wr (DSF_SFC 5) 11) : State).cry.seals.look (256 * ((5 : Fin 64)).val + ((255 : Fin 256)).val) = some ((⟨2, 3, none, none, 2, 11⟩ : Seal))) ∧ (((⟨2, 3, none, none, 2, 11⟩ : Seal)).idx = ((2 : Fin 256)).val) ∧ (((⟨2, 3, none, none, 2, 11⟩ : Seal)).phase = 2) ∧ (((1 : Fin 256)) = 1) ∧ (((0 : Fin 256)) = 0) ∧ (((⟨2, 3, none, none, 2, 11⟩ : Seal)).switchSf ≤ (((sealing ⟨2, 3, none, none, 2, 11⟩).wr (DSF_SFC 5) 11) : State).rd64 (DSF_SFC ((5 : Fin 64)))) := by decide +kernel
theorem wit_KeyBlobsAndSealedMode_sealedAck_c16 : (((sealing ⟨2, 3, none, none, 2, 11⟩) : State).cry.seals.look (256 * ((5 : Fin 64)).val + ((255 : Fin 256)).val) = some ((⟨2, 3, none, none, 2, 11⟩ : Seal))) ∧ (((⟨2, 3, none, none, 2, 11⟩ : Seal)).idx = ((2 : Fin 256)).val) ∧ (((((⟨2, 3, none, none, 2, 11⟩ : Seal)).phase = 2 ∧ ((1 : Fin 256)) = 1) ∨ (((⟨2, 3, none, none, 2, 11⟩ : Seal)).phase = 0 ∧ ((1 : Fin 256)) = 0))) ∧ (((1 : Fin 256)) ≠ 0) := by decide +kernel
theorem wit_KeyBlobsAndSealedMode_sealedAck_c16_w1 : (((sealing ⟨2, 3, none, none, 0, 0⟩) : State).cry.seals.look (256 * ((5 : Fin 64)).val + ((255 : Fin 256)).val) = some ((⟨2, 3, none, none, 0, 0⟩ : Seal))) ∧ (((⟨2, 3, none, none, 0, 0⟩ : Seal)).idx = ((2 : Fin 256)).val) ∧ (((((⟨2, 3, none, none, 0, 0⟩ : Seal)).phase = 2 ∧ ((0 : Fin 256)) = 1) ∨ (((⟨2, 3, none, none, 0, 0⟩ : Seal)).phase = 0 ∧ ((0 : Fin 256)) = 0))) ∧ (((255 : Fin 256)) ≠ 0) := by decide +kernel
theorem wit_KeyBlobsAndSealedMode_sealSwitch_c17 : ((((sealing ⟨2, 3, none, none, 3, 11⟩).wr (DSF_SFC 5) 11) : State).cry.seals.look (256 * ((5 : Fin 64)).val + ((255 : Fin 256)).val) = some ((⟨2, 3, none, none, 3, 11⟩ : Seal))) ∧ (((⟨2, 3, none, none, 3, 11⟩ : Seal)).switchSf ≤ (((sealing ⟨2, 3, none, none, 3, 11⟩).wr (DSF_SFC 5) 11) : State).rd64 (DSF_SFC ((5 : Fin 64)))) ∧ (((⟨2, 3, none, none, 3, 11⟩ : Seal)).phase = 3) ∧ (1 ≤ ((⟨2, 3, none, none, 3, 11⟩ : Seal)).idx) ∧ (((⟨2, 3, none, none, 3, 11⟩ : Seal)).idx ≤ 2) := by decide +kernel
theorem wit_KeyBlobsAndSealedMode_sealSwitch_c18 : ((((sealing ⟨2, 3, none, none, 2, 11⟩).wr (DSF_SFC 5) 11) : State).cry.seals.look (256 * ((5 : Fin 64)).val + ((255 : Fin 256)).val) = some ((⟨2, 3, none, none, 2, 11⟩ : Seal))) ∧ (((⟨2, 3, none, none, 2, 11⟩ : Seal)).switchSf ≤ (((sealing ⟨2, 3, none, none, 2, 11⟩).wr (DSF_SFC 5) 11) : State).rd64 (DSF_SFC ((5 : Fin 64)))) ∧ (((⟨2, 3, none, none, 2, 11⟩ : Seal)).phase = 2) := by decide +kernel
theorem wit_KeyBlobsAndSealedMode_sealTimeout : ((((sealing ⟨2, 3, none, none, 0, 0⟩).wr (DSF_SFC 5) 19) : State).cry.seals.look (256 * ((5 : Fin 64)).val + ((255 : Fin 256)).val) = some ((⟨2, 3, none, none, 0, 0⟩ : Seal))) ∧ (((⟨2, 3, none, none, 0, 0⟩ : Seal)).phase = 0) ∧ (((⟨2, 3, none, none, 0, 0⟩ : Seal)).start + 16 ≤ (((sealing ⟨2, 3, none, none, 0, 0⟩).wr (DSF_SFC 5) 19) : State).rd64 (DSF_SFC ((5 : Fin 64)))) := by decide +kernel
theorem wit_EntropyOwnersAlarmsAndDebug_entropyRetest_c1 : (((awake [11]).p CRY_STATUS CRY_STATUS_ENT_FAIL 1 : State).on CRY_STATUS CRY_STATUS_ENT_FAIL = true) := by decide +kernel
theorem wit_EntropyOwnersAlarmsAndDebug_entropyRetest_c2 : (((false) = false ∨ ((awake [11]).p CRY_STATUS CRY_STATUS_ENT_FAIL 1 : State).on CRY_STATUS CRY_STATUS_ENT_FAIL = false)) := by decide +kernel
theorem wit_EntropyOwnersAlarmsAndDebug_nonceRead : ((awake [11] : State).reaches (Agent.hpa) (CRY_NONCE 0) = true) := by decide +kernel
theorem wit_EntropyOwnersAlarmsAndDebug_enrolGo_c4 : ((awake [11] : State).reaches (Agent.hpa) CRY_ENROL_CTL = true) ∧ ((0x80000000#32).getLsbD 31 = true) ∧ ((awake [11] : State).cry.enrol = false) := by decide +kernel
theorem wit_EntropyOwnersAlarmsAndDebug_enrolGo_c5 : (({ awake [11] with cry := { (awake []).cry with enrol := true } } : State).reaches (Agent.hpa) CRY_ENROL_CTL = true) ∧ ((0x80000000#32).getLsbD 31 = true) ∧ (({ awake [11] with cry := { (awake []).cry with enrol := true } } : State).cry.enrol = true) := by decide +kernel
theorem wit_EntropyOwnersAlarmsAndDebug_enrolDone_c6 : (({ awake [11] with cry := { (awake []).cry with enrol := true, nonce := [1, 2], owners := [] } } : State).cry.enrol = true) ∧ ((if (true) = false then 1 else if ([1]) = [] ∨ ([1]) ≠ ({ awake [11] with cry := { (awake []).cry with enrol := true, nonce := [1, 2], owners := [] } } : State).cry.nonce then 2 else if 4 ≤ ({ awake [11] with cry := { (awake []).cry with enrol := true, nonce := [1, 2], owners := [] } } : State).cry.owners.length then 3 else 0) ≠ 0) := by decide +kernel
theorem wit_EntropyOwnersAlarmsAndDebug_enrolDone_c6_w1 : (({ awake [11] with cry := { (awake []).cry with enrol := true, nonce := [1, 2], owners := List.replicate 4 ([], []) } } : State).cry.enrol = true) ∧ ((if (true) = false then 1 else if ([1, 2]) = [] ∨ ([1, 2]) ≠ ({ awake [11] with cry := { (awake []).cry with enrol := true, nonce := [1, 2], owners := List.replicate 4 ([], []) } } : State).cry.nonce then 2 else if 4 ≤ ({ awake [11] with cry := { (awake []).cry with enrol := true, nonce := [1, 2], owners := List.replicate 4 ([], []) } } : State).cry.owners.length then 3 else 0) ≠ 0) := by decide +kernel
theorem wit_EntropyOwnersAlarmsAndDebug_enrolDone_c6_w2 : (({ awake [11] with cry := { (awake []).cry with enrol := true, nonce := [1, 2], owners := [] } } : State).cry.enrol = true) ∧ ((if (false) = false then 1 else if ([1, 2]) = [] ∨ ([1, 2]) ≠ ({ awake [11] with cry := { (awake []).cry with enrol := true, nonce := [1, 2], owners := [] } } : State).cry.nonce then 2 else if 4 ≤ ({ awake [11] with cry := { (awake []).cry with enrol := true, nonce := [1, 2], owners := [] } } : State).cry.owners.length then 3 else 0) ≠ 0) := by decide +kernel
theorem wit_EntropyOwnersAlarmsAndDebug_enrolDone_c7 : (({ awake [11] with cry := { (awake []).cry with enrol := true, nonce := [1, 2], owners := List.replicate 3 ([], []) } } : State).cry.enrol = true) ∧ ((if (true) = false then 1 else if ([1, 2]) = [] ∨ ([1, 2]) ≠ ({ awake [11] with cry := { (awake []).cry with enrol := true, nonce := [1, 2], owners := List.replicate 3 ([], []) } } : State).cry.nonce then 2 else if 4 ≤ ({ awake [11] with cry := { (awake []).cry with enrol := true, nonce := [1, 2], owners := List.replicate 3 ([], []) } } : State).cry.owners.length then 3 else 0) = 0) := by decide +kernel
theorem wit_EntropyOwnersAlarmsAndDebug_securityAlarm_c8 : (((unwrapping.wr TMP_SAFE 0) : State).alarmOn ((7 : Fin 8)) = true) := by decide +kernel
theorem wit_EntropyOwnersAlarmsAndDebug_securityAlarm_c9 : (((((7 : Fin 8)).val = 5 ∧ (((awake [11]).p CRY_ERASE CRY_ERASE_HOST_MASK 1) : State).cry.fails < 3) ∨ (((7 : Fin 8)).val = 6 ∧ (((awake [11]).p CRY_ERASE CRY_ERASE_HOST_MASK 1) : State).on CRY_STATUS CRY_STATUS_DEBUG_OPEN = true) ∨ (((7 : Fin 8)).val = 7 ∧ (((awake [11]).p CRY_ERASE CRY_ERASE_HOST_MASK 1) : State).on CRY_ERASE CRY_ERASE_HOST_MASK = true))) := by decide +kernel
theorem wit_EntropyOwnersAlarmsAndDebug_securityAlarm_c9_w1 : (((((5 : Fin 8)).val = 5 ∧ (awake [11] : State).cry.fails < 3) ∨ (((5 : Fin 8)).val = 6 ∧ (awake [11] : State).on CRY_STATUS CRY_STATUS_DEBUG_OPEN = true) ∨ (((5 : Fin 8)).val = 7 ∧ (awake [11] : State).on CRY_ERASE CRY_ERASE_HOST_MASK = true))) := by decide +kernel
theorem wit_EntropyOwnersAlarmsAndDebug_securityAlarm_c9_w2 : (((((6 : Fin 8)).val = 5 ∧ ((awake [11]).p CRY_STATUS CRY_STATUS_DEBUG_OPEN 1 : State).cry.fails < 3) ∨ (((6 : Fin 8)).val = 6 ∧ ((awake [11]).p CRY_STATUS CRY_STATUS_DEBUG_OPEN 1 : State).on CRY_STATUS CRY_STATUS_DEBUG_OPEN = true) ∨ (((6 : Fin 8)).val = 7 ∧ ((awake [11]).p CRY_STATUS CRY_STATUS_DEBUG_OPEN 1 : State).on CRY_ERASE CRY_ERASE_HOST_MASK = true))) := by decide +kernel
theorem wit_EntropyOwnersAlarmsAndDebug_cryErase_c10 : ((unwrapping : State).reaches (Agent.hpa) CRY_ERASE = true) ∧ ((0x80000000#32).getLsbD 31 = true) ∧ (((unwrapping : State).wrRW CRY_ERASE (0x80000000#32)).on CRY_ERASE CRY_ERASE_HOST_MASK = false) := by decide +kernel
theorem wit_EntropyOwnersAlarmsAndDebug_cryErase_c11 : ((unwrapping : State).reaches (Agent.hpa) CRY_ERASE = true) ∧ (((0x80000001#32).getLsbD 31 = false ∨ ((unwrapping : State).wrRW CRY_ERASE (0x80000001#32)).on CRY_ERASE CRY_ERASE_HOST_MASK = true)) := by decide +kernel
theorem wit_EntropyOwnersAlarmsAndDebug_cryErase_c11_w1 : ((unwrapping : State).reaches (Agent.hpa) CRY_ERASE = true) ∧ (((0#32).getLsbD 31 = false ∨ ((unwrapping : State).wrRW CRY_ERASE (0#32)).on CRY_ERASE CRY_ERASE_HOST_MASK = true)) := by decide +kernel
theorem wit_EntropyOwnersAlarmsAndDebug_dbgResp_c13 : (({ unwrapping with cry := { unwrapping.cry with owners := [([], [])], chal := [1] } } : State).cry.owners ≠ []) ∧ (({ unwrapping with cry := { unwrapping.cry with owners := [([], [])], chal := [1] } } : State).cry.chal ≠ []) := by decide +kernel
theorem wit_EntropyOwnersAlarmsAndDebug_dbgResp_c14 : (((false) = false ∨ ({ unwrapping with cry := { unwrapping.cry with owners := [([], [])], chal := [1] } } : State).cry.owners = [] ∨ ({ unwrapping with cry := { unwrapping.cry with owners := [([], [])], chal := [1] } } : State).cry.chal = [])) ∧ (({ unwrapping with cry := { unwrapping.cry with owners := [([], [])], chal := [1] } } : State).cry.fails ≠ 2) := by decide +kernel
theorem wit_EntropyOwnersAlarmsAndDebug_dbgResp_c14_w1 : (((true) = false ∨ (unwrapping : State).cry.owners = [] ∨ (unwrapping : State).cry.chal = [])) ∧ ((unwrapping : State).cry.fails ≠ 2) := by decide +kernel
theorem wit_EntropyOwnersAlarmsAndDebug_dbgResp_c15 : (((true) = false ∨ ({ unwrapping with cry := { unwrapping.cry with fails := 2 } } : State).cry.owners = [] ∨ ({ unwrapping with cry := { unwrapping.cry with fails := 2 } } : State).cry.chal = [])) ∧ (({ unwrapping with cry := { unwrapping.cry with fails := 2 } } : State).cry.fails = 2) := by decide +kernel
theorem wit_TimeServoStepsTimestampsAndTriggers_ppsInEdge_c0 : (({ ((awake [5]).p (TIM_PPSIN 1) TIM_PPSIN_EN 1) with now := 2000000000, tim := { (awake [5]).tim with sec := 3, ns := 40, ppsPrev := [(1, some 1100000001)] } } : State).on (TIM_PPSIN ((1 : Fin 2))) TIM_PPSIN_EN = true) ∧ (((true) != ({ ((awake [5]).p (TIM_PPSIN 1) TIM_PPSIN_EN 1) with now := 2000000000, tim := { (awake [5]).tim with sec := 3, ns := 40, ppsPrev := [(1, some 1100000001)] } } : State).on (TIM_PPSIN ((1 : Fin 2))) TIM_PPSIN_POL) = true) ∧ (((({ ((awake [5]).p (TIM_PPSIN 1) TIM_PPSIN_EN 1) with now := 2000000000, tim := { (awake [5]).tim with sec := 3, ns := 40, ppsPrev := [(1, some 1100000001)] } } : State).tim.ppsPrev.look ((1 : Fin 2))).any (fun p => decide (({ ((awake [5]).p (TIM_PPSIN 1) TIM_PPSIN_EN 1) with now := 2000000000, tim := { (awake [5]).tim with sec := 3, ns := 40, ppsPrev := [(1, some 1100000001)] } } : State).now < p + 900000000))) = true) := by decide +kernel
theorem wit_TimeServoStepsTimestampsAndTriggers_ppsInEdge_c1 : (({ ((awake [5]).p (TIM_PPSIN 1) TIM_PPSIN_EN 1) with now := 2000000000, tim := { (awake [5]).tim with sec := 3, ns := 40, ppsPrev := [(1, some 1100000000)] } } : State).on (TIM_PPSIN ((1 : Fin 2))) TIM_PPSIN_EN = true) ∧ (((true) != ({ ((awake [5]).p (TIM_PPSIN 1) TIM_PPSIN_EN 1) with now := 2000000000, tim := { (awake [5]).tim with sec := 3, ns := 40, ppsPrev := [(1, some 1100000000)] } } : State).on (TIM_PPSIN ((1 : Fin 2))) TIM_PPSIN_POL) = true) ∧ (((({ ((awake [5]).p (TIM_PPSIN 1) TIM_PPSIN_EN 1) with now := 2000000000, tim := { (awake [5]).tim with sec := 3, ns := 40, ppsPrev := [(1, some 1100000000)] } } : State).tim.ppsPrev.look ((1 : Fin 2))).any (fun p => decide (({ ((awake [5]).p (TIM_PPSIN 1) TIM_PPSIN_EN 1) with now := 2000000000, tim := { (awake [5]).tim with sec := 3, ns := 40, ppsPrev := [(1, some 1100000000)] } } : State).now < p + 900000000))) = false) ∧ (({ ((awake [5]).p (TIM_PPSIN 1) TIM_PPSIN_EN 1) with now := 2000000000, tim := { (awake [5]).tim with sec := 3, ns := 40, ppsPrev := [(1, some 1100000000)] } } : State).g TIM_SERVO TIM_SERVO_SRC ≠ ((1 : Fin 2)).val + 1) := by decide +kernel
theorem wit_TimeServoStepsTimestampsAndTriggers_ppsInEdge_c2 : (({ ((awake [5]).p (TIM_PPSIN 1) TIM_PPSIN_EN 1) |>.p TIM_SERVO TIM_SERVO_SRC 2 with now := 2000000000, tim := { (awake [5]).tim with sec := 3, ns := 40, ppsPrev := [(1, none)] } } : State).on (TIM_PPSIN ((1 : Fin 2))) TIM_PPSIN_EN = true) ∧ (((true) != ({ ((awake [5]).p (TIM_PPSIN 1) TIM_PPSIN_EN 1) |>.p TIM_SERVO TIM_SERVO_SRC 2 with now := 2000000000, tim := { (awake [5]).tim with sec := 3, ns := 40, ppsPrev := [(1, none)] } } : State).on (TIM_PPSIN ((1 : Fin 2))) TIM_PPSIN_POL) = true) ∧ (((({ ((awake [5]).p (TIM_PPSIN 1) TIM_PPSIN_EN 1) |>.p TIM_SERVO TIM_SERVO_SRC 2 with now := 2000000000, tim := { (awake [5]).tim with sec := 3, ns := 40, ppsPrev := [(1, none)] } } : State).tim.ppsPrev.look ((1 : Fin 2))).any (fun p => decide (({ ((awake [5]).p (TIM_PPSIN 1) TIM_PPSIN_EN 1) |>.p TIM_SERVO TIM_SERVO_SRC 2 with now := 2000000000, tim := { (awake [5]).tim with sec := 3, ns := 40, ppsPrev := [(1, none)] } } : State).now < p + 900000000))) = false) ∧ (({ ((awake [5]).p (TIM_PPSIN 1) TIM_PPSIN_EN 1) |>.p TIM_SERVO TIM_SERVO_SRC 2 with now := 2000000000, tim := { (awake [5]).tim with sec := 3, ns := 40, ppsPrev := [(1, none)] } } : State).g TIM_SERVO TIM_SERVO_SRC = ((1 : Fin 2)).val + 1) := by decide +kernel
theorem wit_TimeServoStepsTimestampsAndTriggers_ppsInEdge_c3 : (((awake [5] : State).on (TIM_PPSIN ((1 : Fin 2))) TIM_PPSIN_EN = false ∨ ((true) != (awake [5] : State).on (TIM_PPSIN ((1 : Fin 2))) TIM_PPSIN_POL) = false)) := by decide +kernel
theorem wit_TimeServoStepsTimestampsAndTriggers_ptpOfsWrite_c7 : (({ ((awake [5]).p TIM_SERVO TIM_SERVO_SRC 3 |>.p TIM_CTL TIM_CTL_JUMP_NS 10 |>.wr CLK_STATUS 0) with tim := { (awake []).tim with refused := 3 } } : State).reaches (Agent.hpb) TIM_PTP_OFS = true) ∧ (({ ((awake [5]).p TIM_SERVO TIM_SERVO_SRC 3 |>.p TIM_CTL TIM_CTL_JUMP_NS 10 |>.wr CLK_STATUS 0) with tim := { (awake []).tim with refused := 3 } } : State).g TIM_SERVO TIM_SERVO_SRC = 3) ∧ (agCode (Agent.hpb) ≤ 1) ∧ ((({ ((awake [5]).p TIM_SERVO TIM_SERVO_SRC 3 |>.p TIM_CTL TIM_CTL_JUMP_NS 10 |>.wr CLK_STATUS 0) with tim := { (awake []).tim with refused := 3 } } : State).coasting || ((({ ((awake [5]).p TIM_SERVO TIM_SERVO_SRC 3 |>.p TIM_CTL TIM_CTL_JUMP_NS 10 |>.wr CLK_STATUS 0) with tim := { (awake []).tim with refused := 3 } } : State).tim.lastStep).any (fun l => decide (({ ((awake [5]).p TIM_SERVO TIM_SERVO_SRC 3 |>.p TIM_CTL TIM_CTL_JUMP_NS 10 |>.wr CLK_STATUS 0) with tim := { (awake []).tim with refused := 3 } } : State).rd64 TIM_PTP_TS ≤ max l.2.1 l.2.2)))) = false) ∧ ((0xFFFFFF60#32).toInt.natAbs ≤ 16 * ({ ((awake [5]).p TIM_SERVO TIM_SERVO_SRC 3 |>.p TIM_CTL TIM_CTL_JUMP_NS 10 |>.wr CLK_STATUS 0) with tim := { (awake []).tim with refused := 3 } } : State).jumpNs) := by decide +kernel
theorem wit_TimeServoStepsTimestampsAndTriggers_ptpOfsWrite_c8 : (({ ((awake [5]).p TIM_SERVO TIM_SERVO_SRC 3 |>.p TIM_CTL TIM_CTL_JUMP_NS 10 |>.wr CLK_STATUS 0 |>.p CLK_STATUS CLK_STATUS_COAST 1) with tim := { (awake []).tim with refused := 3 } } : State).reaches (Agent.hpb) TIM_PTP_OFS = true) ∧ (({ ((awake [5]).p TIM_SERVO TIM_SERVO_SRC 3 |>.p TIM_CTL TIM_CTL_JUMP_NS 10 |>.wr CLK_STATUS 0 |>.p CLK_STATUS CLK_STATUS_COAST 1) with tim := { (awake []).tim with refused := 3 } } : State).g TIM_SERVO TIM_SERVO_SRC = 3) ∧ (agCode (Agent.hpb) ≤ 1) ∧ ((({ ((awake [5]).p TIM_SERVO TIM_SERVO_SRC 3 |>.p TIM_CTL TIM_CTL_JUMP_NS 10 |>.wr CLK_STATUS 0 |>.p CLK_STATUS CLK_STATUS_COAST 1) with tim := { (awake []).tim with refused := 3 } } : State).coasting || ((({ ((awake [5]).p TIM_SERVO TIM_SERVO_SRC 3 |>.p TIM_CTL TIM_CTL_JUMP_NS 10 |>.wr CLK_STATUS 0 |>.p CLK_STATUS CLK_STATUS_COAST 1) with tim := { (awake []).tim with refused := 3 } } : State).tim.lastStep).any (fun l => decide (({ ((awake [5]).p TIM_SERVO TIM_SERVO_SRC 3 |>.p TIM_CTL TIM_CTL_JUMP_NS 10 |>.wr CLK_STATUS 0 |>.p CLK_STATUS CLK_STATUS_COAST 1) with tim := { (awake []).tim with refused := 3 } } : State).rd64 TIM_PTP_TS ≤ max l.2.1 l.2.2)))) = true) := by decide +kernel
theorem wit_TimeServoStepsTimestampsAndTriggers_ptpOfsWrite_c8_w1 : (({ ((awake [5]).p TIM_SERVO TIM_SERVO_SRC 3 |>.p TIM_CTL TIM_CTL_JUMP_NS 10 |>.wr CLK_STATUS 0 |>.wr TIM_PTP_TS 7) with tim := { (awake []).tim with refused := 3, lastStep := some (1, 7, 6) } } : State).reaches (Agent.hpb) TIM_PTP_OFS = true) ∧ (({ ((awake [5]).p TIM_SERVO TIM_SERVO_SRC 3 |>.p TIM_CTL TIM_CTL_JUMP_NS 10 |>.wr CLK_STATUS 0 |>.wr TIM_PTP_TS 7) with tim := { (awake []).tim with refused := 3, lastStep := some (1, 7, 6) } } : State).g TIM_SERVO TIM_SERVO_SRC = 3) ∧ (agCode (Agent.hpb) ≤ 1) ∧ ((({ ((awake [5]).p TIM_SERVO TIM_SERVO_SRC 3 |>.p TIM_CTL TIM_CTL_JUMP_NS 10 |>.wr CLK_STATUS 0 |>.wr TIM_PTP_TS 7) with tim := { (awake []).tim with refused := 3, lastStep := some (1, 7, 6) } } : State).coasting || ((({ ((awake [5]).p TIM_SERVO TIM_SERVO_SRC 3 |>.p TIM_CTL TIM_CTL_JUMP_NS 10 |>.wr CLK_STATUS 0 |>.wr TIM_PTP_TS 7) with tim := { (awake []).tim with refused := 3, lastStep := some (1, 7, 6) } } : State).tim.lastStep).any (fun l => decide (({ ((awake [5]).p TIM_SERVO TIM_SERVO_SRC 3 |>.p TIM_CTL TIM_CTL_JUMP_NS 10 |>.wr CLK_STATUS 0 |>.wr TIM_PTP_TS 7) with tim := { (awake []).tim with refused := 3, lastStep := some (1, 7, 6) } } : State).rd64 TIM_PTP_TS ≤ max l.2.1 l.2.2)))) = true) := by decide +kernel
theorem wit_TimeServoStepsTimestampsAndTriggers_ptpOfsWrite_c9 : (({ ((awake [5]).p TIM_SERVO TIM_SERVO_SRC 3 |>.p TIM_CTL TIM_CTL_JUMP_NS 10 |>.wr CLK_STATUS 0) with tim := { (awake []).tim with refused := 3 } } : State).reaches (Agent.hpb) TIM_PTP_OFS = true) ∧ (({ ((awake [5]).p TIM_SERVO TIM_SERVO_SRC 3 |>.p TIM_CTL TIM_CTL_JUMP_NS 10 |>.wr CLK_STATUS 0) with tim := { (awake []).tim with refused := 3 } } : State).g TIM_SERVO TIM_SERVO_SRC = 3) ∧ (agCode (Agent.hpb) ≤ 1) ∧ ((({ ((awake [5]).p TIM_SERVO TIM_SERVO_SRC 3 |>.p TIM_CTL TIM_CTL_JUMP_NS 10 |>.wr CLK_STATUS 0) with tim := { (awake []).tim with refused := 3 } } : State).coasting || ((({ ((awake [5]).p TIM_SERVO TIM_SERVO_SRC 3 |>.p TIM_CTL TIM_CTL_JUMP_NS 10 |>.wr CLK_STATUS 0) with tim := { (awake []).tim with refused := 3 } } : State).tim.lastStep).any (fun l => decide (({ ((awake [5]).p TIM_SERVO TIM_SERVO_SRC 3 |>.p TIM_CTL TIM_CTL_JUMP_NS 10 |>.wr CLK_STATUS 0) with tim := { (awake []).tim with refused := 3 } } : State).rd64 TIM_PTP_TS ≤ max l.2.1 l.2.2)))) = false) ∧ (16 * ({ ((awake [5]).p TIM_SERVO TIM_SERVO_SRC 3 |>.p TIM_CTL TIM_CTL_JUMP_NS 10 |>.wr CLK_STATUS 0) with tim := { (awake []).tim with refused := 3 } } : State).jumpNs < (0xFFFFFF5F#32).toInt.natAbs) := by decide +kernel
theorem wit_TimeServoStepsTimestampsAndTriggers_ptpOfsWrite_c10 : (({ ((awake [5]).p TIM_SERVO TIM_SERVO_SRC 3 |>.p TIM_CTL TIM_CTL_JUMP_NS 10 |>.wr CLK_STATUS 0) with tim := { (awake []).tim with refused := 3 } } : State).reaches (Agent.temple) TIM_PTP_OFS = true) ∧ ((({ ((awake [5]).p TIM_SERVO TIM_SERVO_SRC 3 |>.p TIM_CTL TIM_CTL_JUMP_NS 10 |>.wr CLK_STATUS 0) with tim := { (awake []).tim with refused := 3 } } : State).g TIM_SERVO TIM_SERVO_SRC ≠ 3 ∨ 1 < agCode (Agent.temple))) := by decide +kernel
theorem wit_TimeServoStepsTimestampsAndTriggers_servoHoldover : (({ (awake [5]).p TIM_SERVO TIM_SERVO_SRC 3 |>.p TIM_SERVO TIM_SERVO_HOLD_S 2 with now := 2000000005, tim := { (awake []).tim with lastSample := 5, integ := -7 } } : State).on TIM_SERVO TIM_SERVO_SRC = true) ∧ (({ (awake [5]).p TIM_SERVO TIM_SERVO_SRC 3 |>.p TIM_SERVO TIM_SERVO_HOLD_S 2 with now := 2000000005, tim := { (awake []).tim with lastSample := 5, integ := -7 } } : State).g TIM_STATUS TIM_STATUS_STATE ≠ 3) ∧ (atLeast1 (({ (awake [5]).p TIM_SERVO TIM_SERVO_SRC 3 |>.p TIM_SERVO TIM_SERVO_HOLD_S 2 with now := 2000000005, tim := { (awake []).tim with lastSample := 5, integ := -7 } } : State).g TIM_SERVO TIM_SERVO_HOLD_S) * 1000000000 ≤ ({ (awake [5]).p TIM_SERVO TIM_SERVO_SRC 3 |>.p TIM_SERVO TIM_SERVO_HOLD_S 2 with now := 2000000005, tim := { (awake []).tim with lastSample := 5, integ := -7 } } : State).now - ({ (awake [5]).p TIM_SERVO TIM_SERVO_SRC 3 |>.p TIM_SERVO TIM_SERVO_HOLD_S 2 with now := 2000000005, tim := { (awake []).tim with lastSample := 5, integ := -7 } } : State).tim.lastSample) := by decide +kernel
theorem wit_TimeServoStepsTimestampsAndTriggers_timeStep_c12 : (({ (awake [5, 14, 15]).wr TIM_STEP 77 with tim := { (awake []).tim with sec := 3, ns := 40 } } : State).reaches (Agent.hpa) TIM_STEP_CTL = true) ∧ ((0xE0000000#32).getLsbD 31 = true) ∧ (({ (awake [5, 14, 15]).wr TIM_STEP 77 with tim := { (awake []).tim with sec := 3, ns := 40 } } : State).tim.stepBusy = false) ∧ ((((if (({ (awake [5, 14, 15]).wr TIM_STEP 77 with tim := { (awake []).tim with sec := 3, ns := 40 } } : State).wrRW TIM_STEP_CTL (0xE0000000#32)).on TIM_STEP_CTL TIM_STEP_CTL_ABS = true then (({ (awake [5, 14, 15]).wr TIM_STEP 77 with tim := { (awake []).tim with sec := 3, ns := 40 } } : State).rd64 TIM_STEP : Int) - (({ (awake [5, 14, 15]).wr TIM_STEP 77 with tim := { (awake []).tim with sec := 3, ns := 40 } } : State).devNs : Int) else sext 64 (({ (awake [5, 14, 15]).wr TIM_STEP 77 with tim := { (awake []).tim with sec := 3, ns := 40 } } : State).rd64 TIM_STEP)).natAbs) ≤ ({ (awake [5, 14, 15]).wr TIM_STEP 77 with tim := { (awake []).tim with sec := 3, ns := 40 } } : State).jumpNs ∨ (({ (awake [5, 14, 15]).wr TIM_STEP 77 with tim := { (awake []).tim with sec := 3, ns := 40 } } : State).wrRW TIM_STEP_CTL (0xE0000000#32)).on TIM_STEP_CTL TIM_STEP_CTL_FORCE = true)) := by decide +kernel
theorem wit_TimeServoStepsTimestampsAndTriggers_timeStep_c12_w1 : (({ (awake [5, 14, 15]).p TIM_CTL TIM_CTL_JUMP_NS 50 |>.wr TIM_STEP 0xFFFFFFCE |>.wr (TIM_STEP + 4) 0xFFFFFFFF with tim := { (awake []).tim with sec := 3, ns := 40 } } : State).reaches (Agent.hpa) TIM_STEP_CTL = true) ∧ ((0x80000000#32).getLsbD 31 = true) ∧ (({ (awake [5, 14, 15]).p TIM_CTL TIM_CTL_JUMP_NS 50 |>.wr TIM_STEP 0xFFFFFFCE |>.wr (TIM_STEP + 4) 0xFFFFFFFF with tim := { (awake []).tim with sec := 3, ns := 40 } } : State).tim.stepBusy = false) ∧ ((((if (({ (awake [5, 14, 15]).p TIM_CTL TIM_CTL_JUMP_NS 50 |>.wr TIM_STEP 0xFFFFFFCE |>.wr (TIM_STEP + 4) 0xFFFFFFFF with tim := { (awake []).tim with sec := 3, ns := 40 } } : State).wrRW TIM_STEP_CTL (0x80000000#32)).on TIM_STEP_CTL TIM_STEP_CTL_ABS = true then (({ (awake [5, 14, 15]).p TIM_CTL TIM_CTL_JUMP_NS 50 |>.wr TIM_STEP 0xFFFFFFCE |>.wr (TIM_STEP + 4) 0xFFFFFFFF with tim := { (awake []).tim with sec := 3, ns := 40 } } : State).rd64 TIM_STEP : Int) - (({ (awake [5, 14, 15]).p TIM_CTL TIM_CTL_JUMP_NS 50 |>.wr TIM_STEP 0xFFFFFFCE |>.wr (TIM_STEP + 4) 0xFFFFFFFF with tim := { (awake []).tim with sec := 3, ns := 40 } } : State).devNs : Int) else sext 64 (({ (awake [5, 14, 15]).p TIM_CTL TIM_CTL_JUMP_NS 50 |>.wr TIM_STEP 0xFFFFFFCE |>.wr (TIM_STEP + 4) 0xFFFFFFFF with tim := { (awake []).tim with sec := 3, ns := 40 } } : State).rd64 TIM_STEP)).natAbs) ≤ ({ (awake [5, 14, 15]).p TIM_CTL TIM_CTL_JUMP_NS 50 |>.wr TIM_STEP 0xFFFFFFCE |>.wr (TIM_STEP + 4) 0xFFFFFFFF with tim := { (awake []).tim with sec := 3, ns := 40 } } : State).jumpNs ∨ (({ (awake [5, 14, 15]).p TIM_CTL TIM_CTL_JUMP_NS 50 |>.wr TIM_STEP 0xFFFFFFCE |>.wr (TIM_STEP + 4) 0xFFFFFFFF with tim := { (awake []).tim with sec := 3, ns := 40 } } : State).wrRW TIM_STEP_CTL (0x80000000#32)).on TIM_STEP_CTL TIM_STEP_CTL_FORCE = true)) := by decide +kernel
theorem wit_TimeServoStepsTimestampsAndTriggers_timeStep_c13 : (({ (awake [5, 14, 15]).p TIM_CTL TIM_CTL_JUMP_NS 49 |>.wr TIM_STEP 0xFFFFFFCE |>.wr (TIM_STEP + 4) 0xFFFFFFFF with tim := { (awake []).tim with sec := 3, ns := 40 } } : State).reaches (Agent.hpa) TIM_STEP_CTL = true) ∧ ((0x80000000#32).getLsbD 31 = true) ∧ (({ (awake [5, 14, 15]).p TIM_CTL TIM_CTL_JUMP_NS 49 |>.wr TIM_STEP 0xFFFFFFCE |>.wr (TIM_STEP + 4) 0xFFFFFFFF with tim := { (awake []).tim with sec := 3, ns := 40 } } : State).tim.stepBusy = false) ∧ (({ (awake [5, 14, 15]).p TIM_CTL TIM_CTL_JUMP_NS 49 |>.wr TIM_STEP 0xFFFFFFCE |>.wr (TIM_STEP + 4) 0xFFFFFFFF with tim := { (awake []).tim with sec := 3, ns := 40 } } : State).jumpNs < ((if (({ (awake [5, 14, 15]).p TIM_CTL TIM_CTL_JUMP_NS 49 |>.wr TIM_STEP 0xFFFFFFCE |>.wr (TIM_STEP + 4) 0xFFFFFFFF with tim := { (awake []).tim with sec := 3, ns := 40 } } : State).wrRW TIM_STEP_CTL (0x80000000#32)).on TIM_STEP_CTL TIM_STEP_CTL_ABS = true then (({ (awake [5, 14, 15]).p TIM_CTL TIM_CTL_JUMP_NS 49 |>.wr TIM_STEP 0xFFFFFFCE |>.wr (TIM_STEP + 4) 0xFFFFFFFF with tim := { (awake []).tim with sec := 3, ns := 40 } } : State).rd64 TIM_STEP : Int) - (({ (awake [5, 14, 15]).p TIM_CTL TIM_CTL_JUMP_NS 49 |>.wr TIM_STEP 0xFFFFFFCE |>.wr (TIM_STEP + 4) 0xFFFFFFFF with tim := { (awake []).tim with sec := 3, ns := 40 } } : State).devNs : Int) else sext 64 (({ (awake [5, 14, 15]).p TIM_CTL TIM_CTL_JUMP_NS 49 |>.wr TIM_STEP 0xFFFFFFCE |>.wr (TIM_STEP + 4) 0xFFFFFFFF with tim := { (awake []).tim with sec := 3, ns := 40 } } : State).rd64 TIM_STEP)).natAbs)) ∧ ((({ (awake [5, 14, 15]).p TIM_CTL TIM_CTL_JUMP_NS 49 |>.wr TIM_STEP 0xFFFFFFCE |>.wr (TIM_STEP + 4) 0xFFFFFFFF with tim := { (awake []).tim with sec := 3, ns := 40 } } : State).wrRW TIM_STEP_CTL (0x80000000#32)).on TIM_STEP_CTL TIM_STEP_CTL_FORCE = false) := by decide +kernel
theorem wit_TimeServoStepsTimestampsAndTriggers_timeStep_c14 : (({ (awake [5, 14, 15]) with tim := { (awake []).tim with sec := 3, ns := 40, stepBusy := true } } : State).reaches (Agent.hpa) TIM_STEP_CTL = true) ∧ ((0xE0000000#32).getLsbD 31 = true) ∧ (({ (awake [5, 14, 15]) with tim := { (awake []).tim with sec := 3, ns := 40, stepBusy := true } } : State).tim.stepBusy = true) := by decide +kernel
theorem wit_TimeServoStepsTimestampsAndTriggers_timeNowRead : (({ (awake [5, 14, 15]) with tim := { (awake []).tim with sec := 3, ns := 40 } } : State).reaches (Agent.hpa) TIM_NOW_NS = true) := by decide +kernel
theorem wit_TimeServoStepsTimestampsAndTriggers_ppsInRead : (((awake [5]).wr (TIM_PPSIN 1 + 12) 9 : State).reaches (Agent.hpb) (TIM_PPSIN ((1 : Fin 2)) + 4) = true) := by decide +kernel
theorem wit_TimeServoStepsTimestampsAndTriggers_tsFifoPop_c17 : (({ awake [5] with tim := { (awake []).tim with tx := [(1, 2, 3, 4)], rx := [(1, 2, 3, 5), (0, 0, 0, 0)] } } : State).reaches (Agent.hpa) (TIM_TS_TX + 12) = true) := by decide +kernel
theorem wit_TimeServoStepsTimestampsAndTriggers_tsFifoPop_c17_w1 : ((awake [5] : State).reaches (Agent.hpa) (TIM_TS_TX + 12) = true) := by decide +kernel
theorem wit_TimeServoStepsTimestampsAndTriggers_tsFifoPop_c18 : (({ awake [5] with tim := { (awake []).tim with tx := [(1, 2, 3, 4)], rx := [(1, 2, 3, 5), (0, 0, 0, 0)] } } : State).reaches (Agent.hpa) (TIM_TS_RX + 12) = true) := by decide +kernel
theorem wit_TimeServoStepsTimestampsAndTriggers_tsFifoPop_c18_w1 : ((awake [5] : State).reaches (Agent.hpa) (TIM_TS_RX + 12) = true) := by decide +kernel
theorem wit_TimeServoStepsTimestampsAndTriggers_ptpTxGo_c19 : (({ ((awake [5]).wr (akey 0 (TIM_PTP_TX 3)) 0x0000F788) with tim := { (awake []).tim with sec := 1 } } : State).reaches (Agent.hpa) TIM_PTP_TX_CTL = true) ∧ ((0x94002000#32).getLsbD 31 = true) ∧ (({ ((awake [5]).wr (akey 0 (TIM_PTP_TX 3)) 0x0000F788) with tim := { (awake []).tim with sec := 1 } } : State).tim.mail.look (agCode (Agent.hpa)) = none) ∧ (({ ((awake [5]).wr (akey 0 (TIM_PTP_TX 3)) 0x0000F788) with tim := { (awake []).tim with sec := 1 } } : State).portState (({ ((awake [5]).wr (akey 0 (TIM_PTP_TX 3)) 0x0000F788) with tim := { (awake []).tim with sec := 1 } } : State).portOfLane ((({ ((awake [5]).wr (akey 0 (TIM_PTP_TX 3)) 0x0000F788) with tim := { (awake []).tim with sec := 1 } } : State).wrMask (akey (agCode (Agent.hpa)) TIM_PTP_TX_CTL) (rwBits TIM_PTP_TX_CTL) (0x94002000#32)).g (akey (agCode (Agent.hpa)) TIM_PTP_TX_CTL) TIM_PTP_TX_CTL_LANE)) ≠ 3) ∧ (((({ ((awake [5]).wr (akey 0 (TIM_PTP_TX 3)) 0x0000F788) with tim := { (awake []).tim with sec := 1 } } : State).wrMask (akey (agCode (Agent.hpa)) TIM_PTP_TX_CTL) (rwBits TIM_PTP_TX_CTL) (0x94002000#32)).on (akey (agCode (Agent.hpa)) TIM_PTP_TX_CTL) TIM_PTP_TX_CTL_ONE_STEP && isUdp (((List.range 64).flatMap (fun w => wordBytes (({ ((awake [5]).wr (akey 0 (TIM_PTP_TX 3)) 0x0000F788) with tim := { (awake []).tim with sec := 1 } } : State).rd (akey (agCode (Agent.hpa)) (TIM_PTP_TX w))))).take (min (2 * (({ ((awake [5]).wr (akey 0 (TIM_PTP_TX 3)) 0x0000F788) with tim := { (awake []).tim with sec := 1 } } : State).wrMask (akey (agCode (Agent.hpa)) TIM_PTP_TX_CTL) (rwBits TIM_PTP_TX_CTL) (0x94002000#32)).g (akey (agCode (Agent.hpa)) TIM_PTP_TX_CTL) TIM_PTP_TX_CTL_LEN2) 256))) = false) := by decide +kernel
theorem wit_TimeServoStepsTimestampsAndTriggers_ptpTxGo_c20 : (({ ((awake [5]).wr (akey 0 (TIM_PTP_TX 3)) 0x0000F788) with tim := { (awake []).tim with sec := 1, mail := [(0, some ⟨[], 0⟩)] } } : State).reaches (Agent.hpa) TIM_PTP_TX_CTL = true) ∧ ((0x94002000#32).getLsbD 31 = true) ∧ (({ ((awake [5]).wr (akey 0 (TIM_PTP_TX 3)) 0x0000F788) with tim := { (awake []).tim with sec := 1, mail := [(0, some ⟨[], 0⟩)] } } : State).tim.mail.look (agCode (Agent.hpa)) ≠ none) := by decide +kernel
theorem wit_TimeServoStepsTimestampsAndTriggers_ptpTxGo_c21 : (({ ((awake [5]).wr (akey 0 (TIM_PTP_TX 3)) 0x0000F788) |>.p (HSL_STATUS 10) HSL_STATUS_STATE 3 with tim := { (awake []).tim with sec := 1 } } : State).reaches (Agent.hpa) TIM_PTP_TX_CTL = true) ∧ ((0x94002000#32).getLsbD 31 = true) ∧ (({ ((awake [5]).wr (akey 0 (TIM_PTP_TX 3)) 0x0000F788) |>.p (HSL_STATUS 10) HSL_STATUS_STATE 3 with tim := { (awake []).tim with sec := 1 } } : State).tim.mail.look (agCode (Agent.hpa)) = none) ∧ (({ ((awake [5]).wr (akey 0 (TIM_PTP_TX 3)) 0x0000F788) |>.p (HSL_STATUS 10) HSL_STATUS_STATE 3 with tim := { (awake []).tim with sec := 1 } } : State).portState (({ ((awake [5]).wr (akey 0 (TIM_PTP_TX 3)) 0x0000F788) |>.p (HSL_STATUS 10) HSL_STATUS_STATE 3 with tim := { (awake []).tim with sec := 1 } } : State).portOfLane ((({ ((awake [5]).wr (akey 0 (TIM_PTP_TX 3)) 0x0000F788) |>.p (HSL_STATUS 10) HSL_STATUS_STATE 3 with tim := { (awake []).tim with sec := 1 } } : State).wrMask (akey (agCode (Agent.hpa)) TIM_PTP_TX_CTL) (rwBits TIM_PTP_TX_CTL) (0x94002000#32)).g (akey (agCode (Agent.hpa)) TIM_PTP_TX_CTL) TIM_PTP_TX_CTL_LANE)) = 3) := by decide +kernel
theorem wit_TimeServoStepsTimestampsAndTriggers_ptpTxGo_c22 : (({ ((awake [5]).wr (akey 0 (TIM_PTP_TX 3)) 0x0000F788) |>.wr (akey 0 (TIM_PTP_TX 3)) 0x00000008 |>.wr (akey 0 (TIM_PTP_TX 5)) 0x11000000 with tim := { (awake []).tim with sec := 1 } } : State).reaches (Agent.hpa) TIM_PTP_TX_CTL = true) ∧ ((0xD4002000#32).getLsbD 31 = true) ∧ (({ ((awake [5]).wr (akey 0 (TIM_PTP_TX 3)) 0x0000F788) |>.wr (akey 0 (TIM_PTP_TX 3)) 0x00000008 |>.wr (akey 0 (TIM_PTP_TX 5)) 0x11000000 with tim := { (awake []).tim with sec := 1 } } : State).tim.mail.look (agCode (Agent.hpa)) = none) ∧ (({ ((awake [5]).wr (akey 0 (TIM_PTP_TX 3)) 0x0000F788) |>.wr (akey 0 (TIM_PTP_TX 3)) 0x00000008 |>.wr (akey 0 (TIM_PTP_TX 5)) 0x11000000 with tim := { (awake []).tim with sec := 1 } } : State).portState (({ ((awake [5]).wr (akey 0 (TIM_PTP_TX 3)) 0x0000F788) |>.wr (akey 0 (TIM_PTP_TX 3)) 0x00000008 |>.wr (akey 0 (TIM_PTP_TX 5)) 0x11000000 with tim := { (awake []).tim with sec := 1 } } : State).portOfLane ((({ ((awake [5]).wr (akey 0 (TIM_PTP_TX 3)) 0x0000F788) |>.wr (akey 0 (TIM_PTP_TX 3)) 0x00000008 |>.wr (akey 0 (TIM_PTP_TX 5)) 0x11000000 with tim := { (awake []).tim with sec := 1 } } : State).wrMask (akey (agCode (Agent.hpa)) TIM_PTP_TX_CTL) (rwBits TIM_PTP_TX_CTL) (0xD4002000#32)).g (akey (agCode (Agent.hpa)) TIM_PTP_TX_CTL) TIM_PTP_TX_CTL_LANE)) ≠ 3) ∧ (((({ ((awake [5]).wr (akey 0 (TIM_PTP_TX 3)) 0x0000F788) |>.wr (akey 0 (TIM_PTP_TX 3)) 0x00000008 |>.wr (akey 0 (TIM_PTP_TX 5)) 0x11000000 with tim := { (awake []).tim with sec := 1 } } : State).wrMask (akey (agCode (Agent.hpa)) TIM_PTP_TX_CTL) (rwBits TIM_PTP_TX_CTL) (0xD4002000#32)).on (akey (agCode (Agent.hpa)) TIM_PTP_TX_CTL) TIM_PTP_TX_CTL_ONE_STEP && isUdp (((List.range 64).flatMap (fun w => wordBytes (({ ((awake [5]).wr (akey 0 (TIM_PTP_TX 3)) 0x0000F788) |>.wr (akey 0 (TIM_PTP_TX 3)) 0x00000008 |>.wr (akey 0 (TIM_PTP_TX 5)) 0x11000000 with tim := { (awake []).tim with sec := 1 } } : State).rd (akey (agCode (Agent.hpa)) (TIM_PTP_TX w))))).take (min (2 * (({ ((awake [5]).wr (akey 0 (TIM_PTP_TX 3)) 0x0000F788) |>.wr (akey 0 (TIM_PTP_TX 3)) 0x00000008 |>.wr (akey 0 (TIM_PTP_TX 5)) 0x11000000 with tim := { (awake []).tim with sec := 1 } } : State).wrMask (akey (agCode (Agent.hpa)) TIM_PTP_TX_CTL) (rwBits TIM_PTP_TX_CTL) (0xD4002000#32)).g (akey (agCode (Agent.hpa)) TIM_PTP_TX_CTL) TIM_PTP_TX_CTL_LEN2) 256))) = true) := by decide +kernel
theorem wit_TimeServoStepsTimestampsAndTriggers_ptpTxSend : (({ (awake [5, 170]).p (HSL_STATUS 10) HSL_STATUS_STATE 2 with tim := { (awake []).tim with mail := [(0, some ⟨List.replicate 12 1 ++ [0x88, 0xF7] ++ List.replicate 50 0, 0x94002000⟩)] } } : State).tim.mail.look (agCode (Agent.hpa)) = some ((⟨List.replicate 12 1 ++ [0x88, 0xF7] ++ List.replicate 50 0, 0x94002000⟩ : PtpMail))) ∧ (({ (awake [5, 170]).p (HSL_STATUS 10) HSL_STATUS_STATE 2 with tim := { (awake []).tim with mail := [(0, some ⟨List.replicate 12 1 ++ [0x88, 0xF7] ++ List.replicate 50 0, 0x94002000⟩)] } } : State).portState (({ (awake [5, 170]).p (HSL_STATUS 10) HSL_STATUS_STATE 2 with tim := { (awake []).tim with mail := [(0, some ⟨List.replicate 12 1 ++ [0x88, 0xF7] ++ List.replicate 50 0, 0x94002000⟩)] } } : State).portOfLane (bget ((⟨List.replicate 12 1 ++ [0x88, 0xF7] ++ List.replicate 50 0, 0x94002000⟩ : PtpMail)).ctl 25 5)) = 2) := by decide +kernel
theorem wit_TimeServoStepsTimestampsAndTriggers_todUpdate_c24 : ((1 < ({ awake [5] with tim := { (awake []).tim with sec := 9, todSec := 10 } } : State).tim.ns ∨ ({ awake [5] with tim := { (awake []).tim with sec := 9, todSec := 10 } } : State).tim.todSec = ({ awake [5] with tim := { (awake []).tim with sec := 9, todSec := 10 } } : State).tim.sec + 1)) := by decide +kernel
theorem wit_TimeServoStepsTimestampsAndTriggers_todUpdate_c25 : (({ (awake [5, 37]).p (DSF_STATUS 5) DSF_STATUS_ALIGNED 1 |>.wr CLK_STATUS 0 with tim := { (awake []).tim with sec := 9, lockedOnce := true }, pch := [(5, { (default : Pch) with offset := 1000 })] } : State).tim.ns ≤ 1) ∧ (({ (awake [5, 37]).p (DSF_STATUS 5) DSF_STATUS_ALIGNED 1 |>.wr CLK_STATUS 0 with tim := { (awake []).tim with sec := 9, lockedOnce := true }, pch := [(5, { (default : Pch) with offset := 1000 })] } : State).tim.todSec ≠ ({ (awake [5, 37]).p (DSF_STATUS 5) DSF_STATUS_ALIGNED 1 |>.wr CLK_STATUS 0 with tim := { (awake []).tim with sec := 9, lockedOnce := true }, pch := [(5, { (default : Pch) with offset := 1000 })] } : State).tim.sec + 1) := by decide +kernel
theorem wit_TimeServoStepsTimestampsAndTriggers_triggerArm_c26 : (({ ((awake [5]).p (TIM_TRIG 31) TIM_TRIG_EN 1) with agents := [(0, { (default : AgentSt) with hold := some (TIM_TRIG 31 + 8, 3) })], tim := { (awake []).tim with sec := 13 } } : State).reaches (Agent.hpa) ((TIM_TRIG ((31 : Fin 32))) + 4) = true) ∧ (({ ((awake [5]).p (TIM_TRIG 31) TIM_TRIG_EN 1) with agents := [(0, { (default : AgentSt) with hold := some (TIM_TRIG 31 + 8, 3) })], tim := { (awake []).tim with sec := 13 } } : State).trigDue ((31 : Fin 32)) = false) ∧ (({ ((awake [5]).p (TIM_TRIG 31) TIM_TRIG_EN 1) with agents := [(0, { (default : AgentSt) with hold := some (TIM_TRIG 31 + 8, 3) })], tim := { (awake []).tim with sec := 13 } } : State).on (TIM_TRIG ((31 : Fin 32))) TIM_TRIG_EN = true) ∧ (¬ ((2 : Int) ^ 62 ≤ (({ ((awake [5]).p (TIM_TRIG 31) TIM_TRIG_EN 1) with agents := [(0, { (default : AgentSt) with hold := some (TIM_TRIG 31 + 8, 3) })], tim := { (awake []).tim with sec := 13 } } : State).pairLo (Agent.hpa) ((TIM_TRIG ((31 : Fin 32))) + 4) (77#32)).trigDiff ((31 : Fin 32)) ∨ (({ ((awake [5]).p (TIM_TRIG 31) TIM_TRIG_EN 1) with agents := [(0, { (default : AgentSt) with hold := some (TIM_TRIG 31 + 8, 3) })], tim := { (awake []).tim with sec := 13 } } : State).pairLo (Agent.hpa) ((TIM_TRIG ((31 : Fin 32))) + 4) (77#32)).trigDiff ((31 : Fin 32)) < -(2 : Int) ^ 62 ∨ 7 ≤ ({ ((awake [5]).p (TIM_TRIG 31) TIM_TRIG_EN 1) with agents := [(0, { (default : AgentSt) with hold := some (TIM_TRIG 31 + 8, 3) })], tim := { (awake []).tim with sec := 13 } } : State).g (TIM_TRIG ((31 : Fin 32))) TIM_TRIG_FUNC ∨ (({ ((awake [5]).p (TIM_TRIG 31) TIM_TRIG_EN 1) with agents := [(0, { (default : AgentSt) with hold := some (TIM_TRIG 31 + 8, 3) })], tim := { (awake []).tim with sec := 13 } } : State).g (TIM_TRIG ((31 : Fin 32))) TIM_TRIG_FUNC = 3 ∧ 1 < ({ ((awake [5]).p (TIM_TRIG 31) TIM_TRIG_EN 1) with agents := [(0, { (default : AgentSt) with hold := some (TIM_TRIG 31 + 8, 3) })], tim := { (awake []).tim with sec := 13 } } : State).g (TIM_TRIG ((31 : Fin 32))) TIM_TRIG_PIN))) := by decide +kernel
theorem wit_TimeServoStepsTimestampsAndTriggers_triggerArm_c27 : (({ ((awake [5]).p (TIM_TRIG 31) TIM_TRIG_EN 1) |>.p (TIM_TRIG 31) TIM_TRIG_FUNC 7 with agents := [(0, { (default : AgentSt) with hold := some (TIM_TRIG 31 + 8, 3) })], tim := { (awake []).tim with sec := 13 } } : State).reaches (Agent.hpa) ((TIM_TRIG ((31 : Fin 32))) + 4) = true) ∧ (({ ((awake [5]).p (TIM_TRIG 31) TIM_TRIG_EN 1) |>.p (TIM_TRIG 31) TIM_TRIG_FUNC 7 with agents := [(0, { (default : AgentSt) with hold := some (TIM_TRIG 31 + 8, 3) })], tim := { (awake []).tim with sec := 13 } } : State).trigDue ((31 : Fin 32)) = false) ∧ (({ ((awake [5]).p (TIM_TRIG 31) TIM_TRIG_EN 1) |>.p (TIM_TRIG 31) TIM_TRIG_FUNC 7 with agents := [(0, { (default : AgentSt) with hold := some (TIM_TRIG 31 + 8, 3) })], tim := { (awake []).tim with sec := 13 } } : State).on (TIM_TRIG ((31 : Fin 32))) TIM_TRIG_EN = true) ∧ (((2 : Int) ^ 62 ≤ (({ ((awake [5]).p (TIM_TRIG 31) TIM_TRIG_EN 1) |>.p (TIM_TRIG 31) TIM_TRIG_FUNC 7 with agents := [(0, { (default : AgentSt) with hold := some (TIM_TRIG 31 + 8, 3) })], tim := { (awake []).tim with sec := 13 } } : State).pairLo (Agent.hpa) ((TIM_TRIG ((31 : Fin 32))) + 4) (77#32)).trigDiff ((31 : Fin 32)) ∨ (({ ((awake [5]).p (TIM_TRIG 31) TIM_TRIG_EN 1) |>.p (TIM_TRIG 31) TIM_TRIG_FUNC 7 with agents := [(0, { (default : AgentSt) with hold := some (TIM_TRIG 31 + 8, 3) })], tim := { (awake []).tim with sec := 13 } } : State).pairLo (Agent.hpa) ((TIM_TRIG ((31 : Fin 32))) + 4) (77#32)).trigDiff ((31 : Fin 32)) < -(2 : Int) ^ 62 ∨ 7 ≤ ({ ((awake [5]).p (TIM_TRIG 31) TIM_TRIG_EN 1) |>.p (TIM_TRIG 31) TIM_TRIG_FUNC 7 with agents := [(0, { (default : AgentSt) with hold := some (TIM_TRIG 31 + 8, 3) })], tim := { (awake []).tim with sec := 13 } } : State).g (TIM_TRIG ((31 : Fin 32))) TIM_TRIG_FUNC ∨ (({ ((awake [5]).p (TIM_TRIG 31) TIM_TRIG_EN 1) |>.p (TIM_TRIG 31) TIM_TRIG_FUNC 7 with agents := [(0, { (default : AgentSt) with hold := some (TIM_TRIG 31 + 8, 3) })], tim := { (awake []).tim with sec := 13 } } : State).g (TIM_TRIG ((31 : Fin 32))) TIM_TRIG_FUNC = 3 ∧ 1 < ({ ((awake [5]).p (TIM_TRIG 31) TIM_TRIG_EN 1) |>.p (TIM_TRIG 31) TIM_TRIG_FUNC 7 with agents := [(0, { (default : AgentSt) with hold := some (TIM_TRIG 31 + 8, 3) })], tim := { (awake []).tim with sec := 13 } } : State).g (TIM_TRIG ((31 : Fin 32))) TIM_TRIG_PIN))) := by decide +kernel
theorem wit_TimeServoStepsTimestampsAndTriggers_triggerArm_c28 : (({ ((awake [5]).p (TIM_TRIG 31) TIM_TRIG_EN 1) |>.p (TIM_TRIG 31) TIM_TRIG_EN 0 with agents := [(0, { (default : AgentSt) with hold := some (TIM_TRIG 31 + 8, 3) })], tim := { (awake []).tim with sec := 13 } } : State).reaches (Agent.hpa) ((TIM_TRIG ((31 : Fin 32))) + 4) = true) ∧ (({ ((awake [5]).p (TIM_TRIG 31) TIM_TRIG_EN 1) |>.p (TIM_TRIG 31) TIM_TRIG_EN 0 with agents := [(0, { (default : AgentSt) with hold := some (TIM_TRIG 31 + 8, 3) })], tim := { (awake []).tim with sec := 13 } } : State).trigDue ((31 : Fin 32)) = false) ∧ (({ ((awake [5]).p (TIM_TRIG 31) TIM_TRIG_EN 1) |>.p (TIM_TRIG 31) TIM_TRIG_EN 0 with agents := [(0, { (default : AgentSt) with hold := some (TIM_TRIG 31 + 8, 3) })], tim := { (awake []).tim with sec := 13 } } : State).on (TIM_TRIG ((31 : Fin 32))) TIM_TRIG_EN = false) := by decide +kernel
theorem wit_TimeServoStepsTimestampsAndTriggers_triggerArm_c29 : (({ ((awake [5]).p (TIM_TRIG 31) TIM_TRIG_EN 1) with tim := { (awake []).tim with sec := 13, armed := [(31, true)] } } : State).reaches (Agent.hpa) ((TIM_TRIG ((31 : Fin 32))) + 4) = true) ∧ (({ ((awake [5]).p (TIM_TRIG 31) TIM_TRIG_EN 1) with tim := { (awake []).tim with sec := 13, armed := [(31, true)] } } : State).trigDue ((31 : Fin 32)) = true) := by decide +kernel
theorem wit_TimeServoStepsTimestampsAndTriggers_triggerFire_c30 : (({ (awake [5]).p (TIM_TRIG 31) TIM_TRIG_FUNC 2 |>.p (TIM_TRIG 31) TIM_TRIG_PIN 7 |>.wr (TIM_TRIG 31 + 4) 100 |>.wr (TIM_TRIG 31 + 12) 30 with tim := { (awake []).tim with ns := 160, armed := [(31, true)] } } : State).trigDue ((31 : Fin 32)) = true) := by decide +kernel
theorem wit_TimeServoStepsTimestampsAndTriggers_triggerFire_c31 : ((awake [5] : State).trigDue ((31 : Fin 32)) = false) := by decide +kernel
theorem wit_TimeServoStepsTimestampsAndTriggers_pulseEnd_c32 : (({ awake [5] with now := 7, tim := { (awake []).tim with pulses := [(33, some ⟨3, true, 5, 7⟩)] } } : State).tim.pulses.look ((33 : Fin 34)) = some ((⟨3, true, 5, 7⟩ : Pulse))) ∧ (((⟨3, true, 5, 7⟩ : Pulse)).until_ ≤ ({ awake [5] with now := 7, tim := { (awake []).tim with pulses := [(33, some ⟨3, true, 5, 7⟩)] } } : State).now) := by decide +kernel
theorem wit_TimeServoStepsTimestampsAndTriggers_pulseEnd_c33 : (({ awake [5] with now := 6, tim := { (awake []).tim with pulses := [(33, some ⟨3, true, 5, 7⟩)] } } : State).tim.pulses.look ((33 : Fin 34)) = some ((⟨3, true, 5, 7⟩ : Pulse))) ∧ (({ awake [5] with now := 6, tim := { (awake []).tim with pulses := [(33, some ⟨3, true, 5, 7⟩)] } } : State).now < ((⟨3, true, 5, 7⟩ : Pulse)).until_) := by decide +kernel
theorem wit_UplinkPortsDefectsFramesAndIdle_portEnable_c0 : (({ (awake [165]).wr TMP_SAFE 0 with drf := { (awake []).drf with lanePipe := [(5, (3, 0))], running := some default } } : State).reaches (Agent.hpa) (HSL_CTL ((5 : Fin 32))) = true) ∧ ((0x80000000#32).getLsbD 31 = true) ∧ (({ (awake [165]).wr TMP_SAFE 0 with drf := { (awake []).drf with lanePipe := [(5, (3, 0))], running := some default } } : State).portOfLane ((5 : Fin 32)) = ((5 : Fin 32))) ∧ ((({ (awake [165]).wr TMP_SAFE 0 with drf := { (awake []).drf with lanePipe := [(5, (3, 0))], running := some default } } : State).portState ((5 : Fin 32)) = 0 ∨ ({ (awake [165]).wr TMP_SAFE 0 with drf := { (awake []).drf with lanePipe := [(5, (3, 0))], running := some default } } : State).portState ((5 : Fin 32)) = 4)) ∧ ((({ (awake [165]).wr TMP_SAFE 0 with drf := { (awake []).drf with lanePipe := [(5, (3, 0))], running := some default } } : State).wrRW (HSL_CTL ((5 : Fin 32))) (0x80000000#32)).portCheck ((5 : Fin 32)) = 0) ∧ ((({ (awake [165]).wr TMP_SAFE 0 with drf := { (awake []).drf with lanePipe := [(5, (3, 0))], running := some default } } : State).refHere 0 = true ∨ ({ (awake [165]).wr TMP_SAFE 0 with drf := { (awake []).drf with lanePipe := [(5, (3, 0))], running := some default } } : State).refHere 1 = true ∨ ({ (awake [165]).wr TMP_SAFE 0 with drf := { (awake []).drf with lanePipe := [(5, (3, 0))], running := some default } } : State).refHere 2 = false)) := by decide +kernel
theorem wit_UplinkPortsDefectsFramesAndIdle_portEnable_c0_w1 : (({ (awake [165]) with drf := { (awake []).drf with lanePipe := [(5, (3, 0))], running := some default } } : State).reaches (Agent.hpa) (HSL_CTL ((5 : Fin 32))) = true) ∧ ((0x80000000#32).getLsbD 31 = true) ∧ (({ (awake [165]) with drf := { (awake []).drf with lanePipe := [(5, (3, 0))], running := some default } } : State).portOfLane ((5 : Fin 32)) = ((5 : Fin 32))) ∧ ((({ (awake [165]) with drf := { (awake []).drf with lanePipe := [(5, (3, 0))], running := some default } } : State).portState ((5 : Fin 32)) = 0 ∨ ({ (awake [165]) with drf := { (awake []).drf with lanePipe := [(5, (3, 0))], running := some default } } : State).portState ((5 : Fin 32)) = 4)) ∧ ((({ (awake [165]) with drf := { (awake []).drf with lanePipe := [(5, (3, 0))], running := some default } } : State).wrRW (HSL_CTL ((5 : Fin 32))) (0x80000000#32)).portCheck ((5 : Fin 32)) = 0) ∧ ((({ (awake [165]) with drf := { (awake []).drf with lanePipe := [(5, (3, 0))], running := some default } } : State).refHere 0 = true ∨ ({ (awake [165]) with drf := { (awake []).drf with lanePipe := [(5, (3, 0))], running := some default } } : State).refHere 1 = true ∨ ({ (awake [165]) with drf := { (awake []).drf with lanePipe := [(5, (3, 0))], running := some default } } : State).refHere 2 = false)) := by decide +kernel
theorem wit_UplinkPortsDefectsFramesAndIdle_portEnable_c1 : (({ (awake [165]) with drf := { (awake []).drf with lanePipe := [(5, (3, 0))], running := some default } } : State).reaches (Agent.hpa) (HSL_CTL ((5 : Fin 32))) = true) ∧ ((0xE0000000#32).getLsbD 31 = true) ∧ (({ (awake [165]) with drf := { (awake []).drf with lanePipe := [(5, (3, 0))], running := some default } } : State).portOfLane ((5 : Fin 32)) = ((5 : Fin 32))) ∧ ((({ (awake [165]) with drf := { (awake []).drf with lanePipe := [(5, (3, 0))], running := some default } } : State).portState ((5 : Fin 32)) = 0 ∨ ({ (awake [165]) with drf := { (awake []).drf with lanePipe := [(5, (3, 0))], running := some default } } : State).portState ((5 : Fin 32)) = 4)) ∧ ((({ (awake [165]) with drf := { (awake []).drf with lanePipe := [(5, (3, 0))], running := some default } } : State).wrRW (HSL_CTL ((5 : Fin 32))) (0xE0000000#32)).portCheck ((5 : Fin 32)) ≠ 0) := by decide +kernel
theorem wit_UplinkPortsDefectsFramesAndIdle_portEnable_c1_w1 : (({ (awake [165]).p (HSL_STATUS 5) HSL_STATUS_STATE 4 with drf := { (awake []).drf with lanePipe := [(5, (3, 0))], running := some default } } : State).reaches (Agent.hpa) (HSL_CTL ((5 : Fin 32))) = true) ∧ ((0x80000000#32).getLsbD 31 = true) ∧ (({ (awake [165]).p (HSL_STATUS 5) HSL_STATUS_STATE 4 with drf := { (awake []).drf with lanePipe := [(5, (3, 0))], running := some default } } : State).portOfLane ((5 : Fin 32)) = ((5 : Fin 32))) ∧ ((({ (awake [165]).p (HSL_STATUS 5) HSL_STATUS_STATE 4 with drf := { (awake []).drf with lanePipe := [(5, (3, 0))], running := some default } } : State).portState ((5 : Fin 32)) = 0 ∨ ({ (awake [165]).p (HSL_STATUS 5) HSL_STATUS_STATE 4 with drf := { (awake []).drf with lanePipe := [(5, (3, 0))], running := some default } } : State).portState ((5 : Fin 32)) = 4)) ∧ ((({ (awake [165]).p (HSL_STATUS 5) HSL_STATUS_STATE 4 with drf := { (awake []).drf with lanePipe := [(5, (3, 0))], running := some default } } : State).wrRW (HSL_CTL ((5 : Fin 32))) (0x80000000#32)).portCheck ((5 : Fin 32)) ≠ 0) := by decide +kernel
theorem wit_UplinkPortsDefectsFramesAndIdle_portEnable_c2 : (({ (awake [165]).p (HSL_STATUS 5) HSL_STATUS_STATE 2 with drf := { (awake []).drf with lanePipe := [(5, (3, 0))], running := some default } } : State).reaches (Agent.hpa) (HSL_CTL ((5 : Fin 32))) = true) ∧ ((0x80000000#32).getLsbD 31 = true) ∧ ((({ (awake [165]).p (HSL_STATUS 5) HSL_STATUS_STATE 2 with drf := { (awake []).drf with lanePipe := [(5, (3, 0))], running := some default } } : State).portOfLane ((5 : Fin 32)) ≠ ((5 : Fin 32)) ∨ ({ (awake [165]).p (HSL_STATUS 5) HSL_STATUS_STATE 2 with drf := { (awake []).drf with lanePipe := [(5, (3, 0))], running := some default } } : State).portState ((5 : Fin 32)) = 1 ∨ ({ (awake [165]).p (HSL_STATUS 5) HSL_STATUS_STATE 2 with drf := { (awake []).drf with lanePipe := [(5, (3, 0))], running := some default } } : State).portState ((5 : Fin 32)) = 2 ∨ ({ (awake [165]).p (HSL_STATUS 5) HSL_STATUS_STATE 2 with drf := { (awake []).drf with lanePipe := [(5, (3, 0))], running := some default } } : State).portState ((5 : Fin 32)) = 3)) := by decide +kernel
theorem wit_UplinkPortsDefectsFramesAndIdle_portDisable_c3 : (({ (awake [165]).p (HSL_STATUS 5) HSL_STATUS_STATE 1 |>.p (HSL_STATUS 5) HSL_STATUS_WIDTH_NOW 1 |>.wr TMP_SAFE 0 |>.p (HSL_STATUS 5) HSL_STATUS_LOS_LIVE 1 with drf := { (awake []).drf with lanePipe := [(5, (3, 0))], running := some default } } : State).reaches (Agent.hpa) (HSL_CTL ((5 : Fin 32))) = true) ∧ ((0#32).getLsbD 31 = false) ∧ (({ (awake [165]).p (HSL_STATUS 5) HSL_STATUS_STATE 1 |>.p (HSL_STATUS 5) HSL_STATUS_WIDTH_NOW 1 |>.wr TMP_SAFE 0 |>.p (HSL_STATUS 5) HSL_STATUS_LOS_LIVE 1 with drf := { (awake []).drf with lanePipe := [(5, (3, 0))], running := some default } } : State).portOfLane ((5 : Fin 32)) = ((5 : Fin 32))) ∧ ((({ (awake [165]).p (HSL_STATUS 5) HSL_STATUS_STATE 1 |>.p (HSL_STATUS 5) HSL_STATUS_WIDTH_NOW 1 |>.wr TMP_SAFE 0 |>.p (HSL_STATUS 5) HSL_STATUS_LOS_LIVE 1 with drf := { (awake []).drf with lanePipe := [(5, (3, 0))], running := some default } } : State).portState ((5 : Fin 32)) = 1 ∨ ({ (awake [165]).p (HSL_STATUS 5) HSL_STATUS_STATE 1 |>.p (HSL_STATUS 5) HSL_STATUS_WIDTH_NOW 1 |>.wr TMP_SAFE 0 |>.p (HSL_STATUS 5) HSL_STATUS_LOS_LIVE 1 with drf := { (awake []).drf with lanePipe := [(5, (3, 0))], running := some default } } : State).portState ((5 : Fin 32)) = 2 ∨ ({ (awake [165]).p (HSL_STATUS 5) HSL_STATUS_STATE 1 |>.p (HSL_STATUS 5) HSL_STATUS_WIDTH_NOW 1 |>.wr TMP_SAFE 0 |>.p (HSL_STATUS 5) HSL_STATUS_LOS_LIVE 1 with drf := { (awake []).drf with lanePipe := [(5, (3, 0))], running := some default } } : State).portState ((5 : Fin 32)) = 3)) ∧ ((({ (awake [165]).p (HSL_STATUS 5) HSL_STATUS_STATE 1 |>.p (HSL_STATUS 5) HSL_STATUS_WIDTH_NOW 1 |>.wr TMP_SAFE 0 |>.p (HSL_STATUS 5) HSL_STATUS_LOS_LIVE 1 with drf := { (awake []).drf with lanePipe := [(5, (3, 0))], running := some default } } : State).refHere 0 = true ∨ ({ (awake [165]).p (HSL_STATUS 5) HSL_STATUS_STATE 1 |>.p (HSL_STATUS 5) HSL_STATUS_WIDTH_NOW 1 |>.wr TMP_SAFE 0 |>.p (HSL_STATUS 5) HSL_STATUS_LOS_LIVE 1 with drf := { (awake []).drf with lanePipe := [(5, (3, 0))], running := some default } } : State).refHere 1 = true ∨ ({ (awake [165]).p (HSL_STATUS 5) HSL_STATUS_STATE 1 |>.p (HSL_STATUS 5) HSL_STATUS_WIDTH_NOW 1 |>.wr TMP_SAFE 0 |>.p (HSL_STATUS 5) HSL_STATUS_LOS_LIVE 1 with drf := { (awake []).drf with lanePipe := [(5, (3, 0))], running := some default } } : State).refHere 2 = false)) := by decide +kernel
theorem wit_UplinkPortsDefectsFramesAndIdle_portDisable_c3_w1 : (({ (awake [165]).p (HSL_STATUS 5) HSL_STATUS_STATE 3 |>.p (HSL_STATUS 5) HSL_STATUS_WIDTH_NOW 1 |>.wr TMP_SAFE 0 |>.p (HSL_STATUS 5) HSL_STATUS_LOS_LIVE 1 with drf := { (awake []).drf with lanePipe := [(5, (3, 0))], running := some default } } : State).reaches (Agent.hpa) (HSL_CTL ((5 : Fin 32))) = true) ∧ ((0#32).getLsbD 31 = false) ∧ (({ (awake [165]).p (HSL_STATUS 5) HSL_STATUS_STATE 3 |>.p (HSL_STATUS 5) HSL_STATUS_WIDTH_NOW 1 |>.wr TMP_SAFE 0 |>.p (HSL_STATUS 5) HSL_STATUS_LOS_LIVE 1 with drf := { (awake []).drf with lanePipe := [(5, (3, 0))], running := some default } } : State).portOfLane ((5 : Fin 32)) = ((5 : Fin 32))) ∧ ((({ (awake [165]).p (HSL_STATUS 5) HSL_STATUS_STATE 3 |>.p (HSL_STATUS 5) HSL_STATUS_WIDTH_NOW 1 |>.wr TMP_SAFE 0 |>.p (HSL_STATUS 5) HSL_STATUS_LOS_LIVE 1 with drf := { (awake []).drf with lanePipe := [(5, (3, 0))], running := some default } } : State).portState ((5 : Fin 32)) = 1 ∨ ({ (awake [165]).p (HSL_STATUS 5) HSL_STATUS_STATE 3 |>.p (HSL_STATUS 5) HSL_STATUS_WIDTH_NOW 1 |>.wr TMP_SAFE 0 |>.p (HSL_STATUS 5) HSL_STATUS_LOS_LIVE 1 with drf := { (awake []).drf with lanePipe := [(5, (3, 0))], running := some default } } : State).portState ((5 : Fin 32)) = 2 ∨ ({ (awake [165]).p (HSL_STATUS 5) HSL_STATUS_STATE 3 |>.p (HSL_STATUS 5) HSL_STATUS_WIDTH_NOW 1 |>.wr TMP_SAFE 0 |>.p (HSL_STATUS 5) HSL_STATUS_LOS_LIVE 1 with drf := { (awake []).drf with lanePipe := [(5, (3, 0))], running := some default } } : State).portState ((5 : Fin 32)) = 3)) ∧ ((({ (awake [165]).p (HSL_STATUS 5) HSL_STATUS_STATE 3 |>.p (HSL_STATUS 5) HSL_STATUS_WIDTH_NOW 1 |>.wr TMP_SAFE 0 |>.p (HSL_STATUS 5) HSL_STATUS_LOS_LIVE 1 with drf := { (awake []).drf with lanePipe := [(5, (3, 0))], running := some default } } : State).refHere 0 = true ∨ ({ (awake [165]).p (HSL_STATUS 5) HSL_STATUS_STATE 3 |>.p (HSL_STATUS 5) HSL_STATUS_WIDTH_NOW 1 |>.wr TMP_SAFE 0 |>.p (HSL_STATUS 5) HSL_STATUS_LOS_LIVE 1 with drf := { (awake []).drf with lanePipe := [(5, (3, 0))], running := some default } } : State).refHere 1 = true ∨ ({ (awake [165]).p (HSL_STATUS 5) HSL_STATUS_STATE 3 |>.p (HSL_STATUS 5) HSL_STATUS_WIDTH_NOW 1 |>.wr TMP_SAFE 0 |>.p (HSL_STATUS 5) HSL_STATUS_LOS_LIVE 1 with drf := { (awake []).drf with lanePipe := [(5, (3, 0))], running := some default } } : State).refHere 2 = false)) := by decide +kernel
theorem wit_UplinkPortsDefectsFramesAndIdle_portDisable_c4 : (({ (awake [165]) with drf := { (awake []).drf with lanePipe := [(5, (3, 0))], running := some default } } : State).reaches (Agent.hpa) (HSL_CTL ((5 : Fin 32))) = true) ∧ ((0#32).getLsbD 31 = false) ∧ ((({ (awake [165]) with drf := { (awake []).drf with lanePipe := [(5, (3, 0))], running := some default } } : State).portOfLane ((5 : Fin 32)) ≠ ((5 : Fin 32)) ∨ ({ (awake [165]) with drf := { (awake []).drf with lanePipe := [(5, (3, 0))], running := some default } } : State).portState ((5 : Fin 32)) = 0 ∨ ({ (awake [165]) with drf := { (awake []).drf with lanePipe := [(5, (3, 0))], running := some default } } : State).portState ((5 : Fin 32)) = 4)) := by decide +kernel
theorem wit_UplinkPortsDefectsFramesAndIdle_portUp_c5 : ((({ (awake [165]) with drf := { (awake []).drf with lanePipe := [(5, (3, 0))], running := some default } } : State).portState ((5 : Fin 32)) ≠ 1 ∨ ({ (awake [165]) with drf := { (awake []).drf with lanePipe := [(5, (3, 0))], running := some default } } : State).portOfLane ((5 : Fin 32)) ≠ ((5 : Fin 32)) ∨ ({ (awake [165]) with drf := { (awake []).drf with lanePipe := [(5, (3, 0))], running := some default } } : State).laneBad ((5 : Fin 32)) = true)) := by decide +kernel
theorem wit_UplinkPortsDefectsFramesAndIdle_portUp_c6 : (({ (awake [165]).p (HSL_STATUS 5) HSL_STATUS_STATE 1 |>.p (HSL_STATUS 5) HSL_STATUS_WIDTH_NOW 1 |>.wr TMP_SAFE 0 with drf := { (awake []).drf with lanePipe := [(5, (3, 0))], running := some default } } : State).portState ((5 : Fin 32)) = 1) ∧ (({ (awake [165]).p (HSL_STATUS 5) HSL_STATUS_STATE 1 |>.p (HSL_STATUS 5) HSL_STATUS_WIDTH_NOW 1 |>.wr TMP_SAFE 0 with drf := { (awake []).drf with lanePipe := [(5, (3, 0))], running := some default } } : State).portOfLane ((5 : Fin 32)) = ((5 : Fin 32))) ∧ ((∀ i : Fin 64, i.val < ({ (awake [165]).p (HSL_STATUS 5) HSL_STATUS_STATE 1 |>.p (HSL_STATUS 5) HSL_STATUS_WIDTH_NOW 1 |>.wr TMP_SAFE 0 with drf := { (awake []).drf with lanePipe := [(5, (3, 0))], running := some default } } : State).portWidth ((5 : Fin 32)) → ({ (awake [165]).p (HSL_STATUS 5) HSL_STATUS_STATE 1 |>.p (HSL_STATUS 5) HSL_STATUS_WIDTH_NOW 1 |>.wr TMP_SAFE 0 with drf := { (awake []).drf with lanePipe := [(5, (3, 0))], running := some default } } : State).laneBad (((5 : Fin 32)) + i) = false)) ∧ ((({ (awake [165]).p (HSL_STATUS 5) HSL_STATUS_STATE 1 |>.p (HSL_STATUS 5) HSL_STATUS_WIDTH_NOW 1 |>.wr TMP_SAFE 0 with drf := { (awake []).drf with lanePipe := [(5, (3, 0))], running := some default } } : State).refHere 0 = true ∨ ({ (awake [165]).p (HSL_STATUS 5) HSL_STATUS_STATE 1 |>.p (HSL_STATUS 5) HSL_STATUS_WIDTH_NOW 1 |>.wr TMP_SAFE 0 with drf := { (awake []).drf with lanePipe := [(5, (3, 0))], running := some default } } : State).refHere 1 = true ∨ ({ (awake [165]).p (HSL_STATUS 5) HSL_STATUS_STATE 1 |>.p (HSL_STATUS 5) HSL_STATUS_WIDTH_NOW 1 |>.wr TMP_SAFE 0 with drf := { (awake []).drf with lanePipe := [(5, (3, 0))], running := some default } } : State).refHere 2 = false ∨ ({ (awake [165]).p (HSL_STATUS 5) HSL_STATUS_STATE 1 |>.p (HSL_STATUS 5) HSL_STATUS_WIDTH_NOW 1 |>.wr TMP_SAFE 0 with drf := { (awake []).drf with lanePipe := [(5, (3, 0))], running := some default } } : State).recUp = true)) := by decide +kernel
theorem wit_UplinkPortsDefectsFramesAndIdle_hslLosRaise_c7 : ((({ (awake [165]) with drf := { (awake []).drf with lanePipe := [(5, (3, 0))], running := some default } } : State).laneRuns ((5 : Fin 32)) = false ∨ ({ (awake [165]) with drf := { (awake []).drf with lanePipe := [(5, (3, 0))], running := some default } } : State).on (HSL_STATUS ((5 : Fin 32))) HSL_STATUS_LOS_LIVE = true ∨ ¬ atLeast1 (({ (awake [165]) with drf := { (awake []).drf with lanePipe := [(5, (3, 0))], running := some default } } : State).g (HSL_DEF_CTL ((5 : Fin 32))) HSL_DEF_CTL_LOS_SET_US) ≤ (1))) := by decide +kernel
theorem wit_UplinkPortsDefectsFramesAndIdle_hslLosRaise_c8 : (({ (awake [165]).p (HSL_STATUS 5) HSL_STATUS_STATE 2 |>.p (HSL_STATUS 5) HSL_STATUS_WIDTH_NOW 1 |>.wr TMP_SAFE 0 |>.wr (HSL_DEF_CTL 5) 0 with drf := { (awake []).drf with lanePipe := [(5, (3, 0))], running := some default } } : State).laneRuns ((5 : Fin 32)) = true) ∧ (atLeast1 (({ (awake [165]).p (HSL_STATUS 5) HSL_STATUS_STATE 2 |>.p (HSL_STATUS 5) HSL_STATUS_WIDTH_NOW 1 |>.wr TMP_SAFE 0 |>.wr (HSL_DEF_CTL 5) 0 with drf := { (awake []).drf with lanePipe := [(5, (3, 0))], running := some default } } : State).g (HSL_DEF_CTL ((5 : Fin 32))) HSL_DEF_CTL_LOS_SET_US) ≤ (1)) ∧ (({ (awake [165]).p (HSL_STATUS 5) HSL_STATUS_STATE 2 |>.p (HSL_STATUS 5) HSL_STATUS_WIDTH_NOW 1 |>.wr TMP_SAFE 0 |>.wr (HSL_DEF_CTL 5) 0 with drf := { (awake []).drf with lanePipe := [(5, (3, 0))], running := some default } } : State).on (HSL_STATUS ((5 : Fin 32))) HSL_STATUS_LOS_LIVE = false) ∧ ((({ (awake [165]).p (HSL_STATUS 5) HSL_STATUS_STATE 2 |>.p (HSL_STATUS 5) HSL_STATUS_WIDTH_NOW 1 |>.wr TMP_SAFE 0 |>.wr (HSL_DEF_CTL 5) 0 with drf := { (awake []).drf with lanePipe := [(5, (3, 0))], running := some default } } : State).hsl.look ((5 : Fin 32))).blank = false) := by decide +kernel
theorem wit_UplinkPortsDefectsFramesAndIdle_hslLosRaise_c9 : (({ ((awake [165]).p (HSL_STATUS 5) HSL_STATUS_STATE 2 |>.p (HSL_STATUS 5) HSL_STATUS_WIDTH_NOW 1 |>.wr TMP_SAFE 0 |>.wr (HSL_DEF_CTL 5) 0) with hsl := [(5, { (default : Hsl) with blank := true })] } : State).laneRuns ((5 : Fin 32)) = true) ∧ (atLeast1 (({ ((awake [165]).p (HSL_STATUS 5) HSL_STATUS_STATE 2 |>.p (HSL_STATUS 5) HSL_STATUS_WIDTH_NOW 1 |>.wr TMP_SAFE 0 |>.wr (HSL_DEF_CTL 5) 0) with hsl := [(5, { (default : Hsl) with blank := true })] } : State).g (HSL_DEF_CTL ((5 : Fin 32))) HSL_DEF_CTL_LOS_SET_US) ≤ (1)) ∧ (({ ((awake [165]).p (HSL_STATUS 5) HSL_STATUS_STATE 2 |>.p (HSL_STATUS 5) HSL_STATUS_WIDTH_NOW 1 |>.wr TMP_SAFE 0 |>.wr (HSL_DEF_CTL 5) 0) with hsl := [(5, { (default : Hsl) with blank := true })] } : State).on (HSL_STATUS ((5 : Fin 32))) HSL_STATUS_LOS_LIVE = false) ∧ ((({ ((awake [165]).p (HSL_STATUS 5) HSL_STATUS_STATE 2 |>.p (HSL_STATUS 5) HSL_STATUS_WIDTH_NOW 1 |>.wr TMP_SAFE 0 |>.wr (HSL_DEF_CTL 5) 0) with hsl := [(5, { (default : Hsl) with blank := true })] } : State).hsl.look ((5 : Fin 32))).blank = true) ∧ (bit (({ ((awake [165]).p (HSL_STATUS 5) HSL_STATUS_STATE 2 |>.p (HSL_STATUS 5) HSL_STATUS_WIDTH_NOW 1 |>.wr TMP_SAFE 0 |>.wr (HSL_DEF_CTL 5) 0) with hsl := [(5, { (default : Hsl) with blank := true })] } : State).hsl.look ((5 : Fin 32))).holds 2 = false) := by decide +kernel
theorem wit_UplinkPortsDefectsFramesAndIdle_hslLosClear : (atLeast1 (((awake [165]).p (HSL_STATUS 5) HSL_STATUS_STATE 2 |>.p (HSL_STATUS 5) HSL_STATUS_WIDTH_NOW 1 |>.wr TMP_SAFE 0 |>.wr (HSL_DEF_CTL 5) 0 |>.p (HSL_STATUS 5) HSL_STATUS_LOS_LIVE 1 : State).g (HSL_DEF_CTL ((5 : Fin 32))) HSL_DEF_CTL_LOS_CLR_MS) ≤ (1)) ∧ (((awake [165]).p (HSL_STATUS 5) HSL_STATUS_STATE 2 |>.p (HSL_STATUS 5) HSL_STATUS_WIDTH_NOW 1 |>.wr TMP_SAFE 0 |>.wr (HSL_DEF_CTL 5) 0 |>.p (HSL_STATUS 5) HSL_STATUS_LOS_LIVE 1 : State).on (HSL_STATUS ((5 : Fin 32))) HSL_STATUS_LOS_LIVE = true) := by decide +kernel
theorem wit_UplinkPortsDefectsFramesAndIdle_hslLolRaise_c11 : ((({ (awake [165]) with drf := { (awake []).drf with lanePipe := [(5, (3, 0))], running := some default } } : State).laneRuns ((5 : Fin 32)) = false ∨ ({ (awake [165]) with drf := { (awake []).drf with lanePipe := [(5, (3, 0))], running := some default } } : State).on (HSL_STATUS ((5 : Fin 32))) HSL_STATUS_LOL_LIVE = true)) := by decide +kernel
theorem wit_UplinkPortsDefectsFramesAndIdle_hslLolRaise_c12 : (({ (awake [165]).p (HSL_STATUS 5) HSL_STATUS_STATE 2 |>.p (HSL_STATUS 5) HSL_STATUS_WIDTH_NOW 1 |>.wr TMP_SAFE 0 |>.wr (HSL_DEF_CTL 5) 0 with drf := { (awake []).drf with lanePipe := [(5, (3, 0))], running := some default } } : State).laneRuns ((5 : Fin 32)) = true) ∧ (({ (awake [165]).p (HSL_STATUS 5) HSL_STATUS_STATE 2 |>.p (HSL_STATUS 5) HSL_STATUS_WIDTH_NOW 1 |>.wr TMP_SAFE 0 |>.wr (HSL_DEF_CTL 5) 0 with drf := { (awake []).drf with lanePipe := [(5, (3, 0))], running := some default } } : State).on (HSL_STATUS ((5 : Fin 32))) HSL_STATUS_LOL_LIVE = false) ∧ ((({ (awake [165]).p (HSL_STATUS 5) HSL_STATUS_STATE 2 |>.p (HSL_STATUS 5) HSL_STATUS_WIDTH_NOW 1 |>.wr TMP_SAFE 0 |>.wr (HSL_DEF_CTL 5) 0 with drf := { (awake []).drf with lanePipe := [(5, (3, 0))], running := some default } } : State).hsl.look ((5 : Fin 32))).blank = false) := by decide +kernel
theorem wit_UplinkPortsDefectsFramesAndIdle_hslLolRaise_c13 : (({ ((awake [165]).p (HSL_STATUS 5) HSL_STATUS_STATE 2 |>.p (HSL_STATUS 5) HSL_STATUS_WIDTH_NOW 1 |>.wr TMP_SAFE 0 |>.wr (HSL_DEF_CTL 5) 0) with hsl := [(5, { (default : Hsl) with blank := true })] } : State).laneRuns ((5 : Fin 32)) = true) ∧ (({ ((awake [165]).p (HSL_STATUS 5) HSL_STATUS_STATE 2 |>.p (HSL_STATUS 5) HSL_STATUS_WIDTH_NOW 1 |>.wr TMP_SAFE 0 |>.wr (HSL_DEF_CTL 5) 0) with hsl := [(5, { (default : Hsl) with blank := true })] } : State).on (HSL_STATUS ((5 : Fin 32))) HSL_STATUS_LOL_LIVE = false) ∧ ((({ ((awake [165]).p (HSL_STATUS 5) HSL_STATUS_STATE 2 |>.p (HSL_STATUS 5) HSL_STATUS_WIDTH_NOW 1 |>.wr TMP_SAFE 0 |>.wr (HSL_DEF_CTL 5) 0) with hsl := [(5, { (default : Hsl) with blank := true })] } : State).hsl.look ((5 : Fin 32))).blank = true) ∧ (bit (({ ((awake [165]).p (HSL_STATUS 5) HSL_STATUS_STATE 2 |>.p (HSL_STATUS 5) HSL_STATUS_WIDTH_NOW 1 |>.wr TMP_SAFE 0 |>.wr (HSL_DEF_CTL 5) 0) with hsl := [(5, { (default : Hsl) with blank := true })] } : State).hsl.look ((5 : Fin 32))).holds 1 = false) := by decide +kernel
theorem wit_UplinkPortsDefectsFramesAndIdle_hslLolClear : (((awake [165]).p (HSL_STATUS 5) HSL_STATUS_STATE 2 |>.p (HSL_STATUS 5) HSL_STATUS_WIDTH_NOW 1 |>.wr TMP_SAFE 0 |>.wr (HSL_DEF_CTL 5) 0 |>.p (HSL_STATUS 5) HSL_STATUS_LOL_LIVE 1 : State).on (HSL_STATUS ((5 : Fin 32))) HSL_STATUS_LOL_LIVE = true) := by decide +kernel
theorem wit_UplinkPortsDefectsFramesAndIdle_loamRaise_c15 : ((({ (awake [165]) with drf := { (awake []).drf with lanePipe := [(5, (3, 0))], running := some default } } : State).laneRuns ((5 : Fin 32)) = false ∨ ({ (awake [165]) with drf := { (awake []).drf with lanePipe := [(5, (3, 0))], running := some default } } : State).on (HSL_STATUS ((5 : Fin 32))) HSL_STATUS_LOAM_LIVE = true)) := by decide +kernel
theorem wit_UplinkPortsDefectsFramesAndIdle_loamRaise_c16 : (({ (awake [165]).p (HSL_STATUS 5) HSL_STATUS_STATE 2 |>.p (HSL_STATUS 5) HSL_STATUS_WIDTH_NOW 1 |>.wr TMP_SAFE 0 |>.wr (HSL_DEF_CTL 5) 0 with drf := { (awake []).drf with lanePipe := [(5, (3, 0))], running := some default } } : State).laneRuns ((5 : Fin 32)) = true) ∧ (({ (awake [165]).p (HSL_STATUS 5) HSL_STATUS_STATE 2 |>.p (HSL_STATUS 5) HSL_STATUS_WIDTH_NOW 1 |>.wr TMP_SAFE 0 |>.wr (HSL_DEF_CTL 5) 0 with drf := { (awake []).drf with lanePipe := [(5, (3, 0))], running := some default } } : State).on (HSL_STATUS ((5 : Fin 32))) HSL_STATUS_LOAM_LIVE = false) ∧ ((({ (awake [165]).p (HSL_STATUS 5) HSL_STATUS_STATE 2 |>.p (HSL_STATUS 5) HSL_STATUS_WIDTH_NOW 1 |>.wr TMP_SAFE 0 |>.wr (HSL_DEF_CTL 5) 0 with drf := { (awake []).drf with lanePipe := [(5, (3, 0))], running := some default } } : State).hsl.look ((5 : Fin 32))).blank = false) := by decide +kernel
theorem wit_UplinkPortsDefectsFramesAndIdle_loamRaise_c17 : (({ ((awake [165]).p (HSL_STATUS 5) HSL_STATUS_STATE 2 |>.p (HSL_STATUS 5) HSL_STATUS_WIDTH_NOW 1 |>.wr TMP_SAFE 0 |>.wr (HSL_DEF_CTL 5) 0) with hsl := [(5, { (default : Hsl) with blank := true })] } : State).laneRuns ((5 : Fin 32)) = true) ∧ (({ ((awake [165]).p (HSL_STATUS 5) HSL_STATUS_STATE 2 |>.p (HSL_STATUS 5) HSL_STATUS_WIDTH_NOW 1 |>.wr TMP_SAFE 0 |>.wr (HSL_DEF_CTL 5) 0) with hsl := [(5, { (default : Hsl) with blank := true })] } : State).on (HSL_STATUS ((5 : Fin 32))) HSL_STATUS_LOAM_LIVE = false) ∧ ((({ ((awake [165]).p (HSL_STATUS 5) HSL_STATUS_STATE 2 |>.p (HSL_STATUS 5) HSL_STATUS_WIDTH_NOW 1 |>.wr TMP_SAFE 0 |>.wr (HSL_DEF_CTL 5) 0) with hsl := [(5, { (default : Hsl) with blank := true })] } : State).hsl.look ((5 : Fin 32))).blank = true) ∧ (bit (({ ((awake [165]).p (HSL_STATUS 5) HSL_STATUS_STATE 2 |>.p (HSL_STATUS 5) HSL_STATUS_WIDTH_NOW 1 |>.wr TMP_SAFE 0 |>.wr (HSL_DEF_CTL 5) 0) with hsl := [(5, { (default : Hsl) with blank := true })] } : State).hsl.look ((5 : Fin 32))).holds 0 = false) := by decide +kernel
theorem wit_UplinkPortsDefectsFramesAndIdle_loamClear : (((awake [165]).p (HSL_STATUS 5) HSL_STATUS_STATE 2 |>.p (HSL_STATUS 5) HSL_STATUS_WIDTH_NOW 1 |>.wr TMP_SAFE 0 |>.wr (HSL_DEF_CTL 5) 0 |>.p (HSL_STATUS 5) HSL_STATUS_LOAM_LIVE 1 : State).on (HSL_STATUS ((5 : Fin 32))) HSL_STATUS_LOAM_LIVE = true) := by decide +kernel
theorem wit_UplinkPortsDefectsFramesAndIdle_uplinkFrameReceive_c19 : (({ (awake [165, 5]).p (HSL_STATUS 5) HSL_STATUS_STATE 2 |>.p (HSL_STATUS 5) HSL_STATUS_WIDTH_NOW 1 |>.wr TMP_SAFE 0 with drf := { (awake []).drf with lanePipe := [(5, (3, 0))] } } : State).portOfLane ((5 : Fin 32)) = ((5 : Fin 32))) ∧ (({ (awake [165, 5]).p (HSL_STATUS 5) HSL_STATUS_STATE 2 |>.p (HSL_STATUS 5) HSL_STATUS_WIDTH_NOW 1 |>.wr TMP_SAFE 0 with drf := { (awake []).drf with lanePipe := [(5, (3, 0))] } } : State).portState ((5 : Fin 32)) = 2) ∧ (({ (awake [165, 5]).p (HSL_STATUS 5) HSL_STATUS_STATE 2 |>.p (HSL_STATUS 5) HSL_STATUS_WIDTH_NOW 1 |>.wr TMP_SAFE 0 with drf := { (awake []).drf with lanePipe := [(5, (3, 0))] } } : State).portFec ((5 : Fin 32)) = true) ∧ (((List.replicate 64 7 : List Byte)).length ≤ 10240) ∧ ((true) = true) ∧ ((0) = 0) := by decide +kernel
theorem wit_UplinkPortsDefectsFramesAndIdle_uplinkFrameReceive_c20 : (({ (awake [165, 5]).p (HSL_STATUS 5) HSL_STATUS_STATE 2 |>.p (HSL_STATUS 5) HSL_STATUS_WIDTH_NOW 1 |>.wr TMP_SAFE 0 with drf := { (awake []).drf with lanePipe := [(5, (3, 0))] } } : State).portOfLane ((5 : Fin 32)) = ((5 : Fin 32))) ∧ (({ (awake [165, 5]).p (HSL_STATUS 5) HSL_STATUS_STATE 2 |>.p (HSL_STATUS 5) HSL_STATUS_WIDTH_NOW 1 |>.wr TMP_SAFE 0 with drf := { (awake []).drf with lanePipe := [(5, (3, 0))] } } : State).portState ((5 : Fin 32)) = 2) ∧ (({ (awake [165, 5]).p (HSL_STATUS 5) HSL_STATUS_STATE 2 |>.p (HSL_STATUS 5) HSL_STATUS_WIDTH_NOW 1 |>.wr TMP_SAFE 0 with drf := { (awake []).drf with lanePipe := [(5, (3, 0))] } } : State).portFec ((5 : Fin 32)) = true) ∧ (((List.replicate 64 7 : List Byte)).length ≤ 10240) ∧ (((false) = false ∨ 0 < (0))) := by decide +kernel
theorem wit_UplinkPortsDefectsFramesAndIdle_uplinkFrameReceive_c20_w1 : (({ (awake [165, 5]).p (HSL_STATUS 5) HSL_STATUS_STATE 2 |>.p (HSL_STATUS 5) HSL_STATUS_WIDTH_NOW 1 |>.wr TMP_SAFE 0 with drf := { (awake []).drf with lanePipe := [(5, (3, 0))] } } : State).portOfLane ((5 : Fin 32)) = ((5 : Fin 32))) ∧ (({ (awake [165, 5]).p (HSL_STATUS 5) HSL_STATUS_STATE 2 |>.p (HSL_STATUS 5) HSL_STATUS_WIDTH_NOW 1 |>.wr TMP_SAFE 0 with drf := { (awake []).drf with lanePipe := [(5, (3, 0))] } } : State).portState ((5 : Fin 32)) = 2) ∧ (({ (awake [165, 5]).p (HSL_STATUS 5) HSL_STATUS_STATE 2 |>.p (HSL_STATUS 5) HSL_STATUS_WIDTH_NOW 1 |>.wr TMP_SAFE 0 with drf := { (awake []).drf with lanePipe := [(5, (3, 0))] } } : State).portFec ((5 : Fin 32)) = true) ∧ (((List.replicate 64 7 : List Byte)).length ≤ 10240) ∧ (((true) = false ∨ 0 < (1))) := by decide +kernel
theorem wit_UplinkPortsDefectsFramesAndIdle_uplinkFrameReceive_c22 : (({ (awake [165, 5]).p (HSL_STATUS 5) HSL_STATUS_STATE 3 |>.p (HSL_STATUS 5) HSL_STATUS_WIDTH_NOW 1 |>.wr TMP_SAFE 0 with drf := { (awake []).drf with lanePipe := [(5, (3, 0))] } } : State).portOfLane ((5 : Fin 32)) = ((5 : Fin 32))) ∧ (({ (awake [165, 5]).p (HSL_STATUS 5) HSL_STATUS_STATE 3 |>.p (HSL_STATUS 5) HSL_STATUS_WIDTH_NOW 1 |>.wr TMP_SAFE 0 with drf := { (awake []).drf with lanePipe := [(5, (3, 0))] } } : State).portState ((5 : Fin 32)) = 3) := by decide +kernel
theorem wit_UplinkPortsDefectsFramesAndIdle_uplinkFrameReceive_c23 : (({ (awake [165, 5]).p (HSL_STATUS 5) HSL_STATUS_STATE 2 |>.p (HSL_STATUS 5) HSL_STATUS_WIDTH_NOW 1 |>.wr TMP_SAFE 0 with drf := { (awake []).drf with lanePipe := [(5, (3, 0))] }, hsl := [(5, { (default : Hsl) with ctl := bset 0 HSL_CTL_RATE.lo HSL_CTL_RATE.w 1 })] } : State).portOfLane ((5 : Fin 32)) = ((5 : Fin 32))) ∧ (({ (awake [165, 5]).p (HSL_STATUS 5) HSL_STATUS_STATE 2 |>.p (HSL_STATUS 5) HSL_STATUS_WIDTH_NOW 1 |>.wr TMP_SAFE 0 with drf := { (awake []).drf with lanePipe := [(5, (3, 0))] }, hsl := [(5, { (default : Hsl) with ctl := bset 0 HSL_CTL_RATE.lo HSL_CTL_RATE.w 1 })] } : State).portState ((5 : Fin 32)) = 2) ∧ (({ (awake [165, 5]).p (HSL_STATUS 5) HSL_STATUS_STATE 2 |>.p (HSL_STATUS 5) HSL_STATUS_WIDTH_NOW 1 |>.wr TMP_SAFE 0 with drf := { (awake []).drf with lanePipe := [(5, (3, 0))] }, hsl := [(5, { (default : Hsl) with ctl := bset 0 HSL_CTL_RATE.lo HSL_CTL_RATE.w 1 })] } : State).portFec ((5 : Fin 32)) = false) ∧ (((List.replicate 64 7 : List Byte)).length ≤ 10240) ∧ ((true) = true) := by decide +kernel
theorem wit_UplinkPortsDefectsFramesAndIdle_uplinkFrameReceive_c24 : (({ (awake [165, 5]).p (HSL_STATUS 5) HSL_STATUS_STATE 2 |>.p (HSL_STATUS 5) HSL_STATUS_WIDTH_NOW 1 |>.wr TMP_SAFE 0 with drf := { (awake []).drf with lanePipe := [(5, (3, 0))] }, hsl := [(5, { (default : Hsl) with ctl := bset 0 HSL_CTL_RATE.lo HSL_CTL_RATE.w 1 })] } : State).portOfLane ((5 : Fin 32)) = ((5 : Fin 32))) ∧ (({ (awake [165, 5]).p (HSL_STATUS 5) HSL_STATUS_STATE 2 |>.p (HSL_STATUS 5) HSL_STATUS_WIDTH_NOW 1 |>.wr TMP_SAFE 0 with drf := { (awake []).drf with lanePipe := [(5, (3, 0))] }, hsl := [(5, { (default : Hsl) with ctl := bset 0 HSL_CTL_RATE.lo HSL_CTL_RATE.w 1 })] } : State).portState ((5 : Fin 32)) = 2) ∧ (({ (awake [165, 5]).p (HSL_STATUS 5) HSL_STATUS_STATE 2 |>.p (HSL_STATUS 5) HSL_STATUS_WIDTH_NOW 1 |>.wr TMP_SAFE 0 with drf := { (awake []).drf with lanePipe := [(5, (3, 0))] }, hsl := [(5, { (default : Hsl) with ctl := bset 0 HSL_CTL_RATE.lo HSL_CTL_RATE.w 1 })] } : State).portFec ((5 : Fin 32)) = false) ∧ (((List.replicate 64 7 : List Byte)).length ≤ 10240) ∧ ((false) = false) := by decide +kernel
theorem wit_UplinkPortsDefectsFramesAndIdle_uplinkFrameReceive_c25 : ((({ (awake [165, 5]).p (HSL_STATUS 5) HSL_STATUS_STATE 1 |>.p (HSL_STATUS 5) HSL_STATUS_WIDTH_NOW 1 |>.wr TMP_SAFE 0 with drf := { (awake []).drf with lanePipe := [(5, (3, 0))] } } : State).portOfLane ((5 : Fin 32)) ≠ ((5 : Fin 32)) ∨ ({ (awake [165, 5]).p (HSL_STATUS 5) HSL_STATUS_STATE 1 |>.p (HSL_STATUS 5) HSL_STATUS_WIDTH_NOW 1 |>.wr TMP_SAFE 0 with drf := { (awake []).drf with lanePipe := [(5, (3, 0))] } } : State).portState ((5 : Fin 32)) = 0 ∨ ({ (awake [165, 5]).p (HSL_STATUS 5) HSL_STATUS_STATE 1 |>.p (HSL_STATUS 5) HSL_STATUS_WIDTH_NOW 1 |>.wr TMP_SAFE 0 with drf := { (awake []).drf with lanePipe := [(5, (3, 0))] } } : State).portState ((5 : Fin 32)) = 1 ∨ ({ (awake [165, 5]).p (HSL_STATUS 5) HSL_STATUS_STATE 1 |>.p (HSL_STATUS 5) HSL_STATUS_WIDTH_NOW 1 |>.wr TMP_SAFE 0 with drf := { (awake []).drf with lanePipe := [(5, (3, 0))] } } : State).portState ((5 : Fin 32)) = 4)) := by decide +kernel
theorem wit_UplinkPortsDefectsFramesAndIdle_txLpiEnter_c26 : (({ (awake [165]).p (HSL_STATUS 5) HSL_STATUS_STATE 2 |>.p (HSL_STATUS 5) HSL_STATUS_WIDTH_NOW 1 |>.wr TMP_SAFE 0 |>.p (HSL_LPI 5) HSL_LPI_TX_LPI_EN 1 |>.wr (HSL_LPI_TIME 5) 4 with hsl := [(5, { (default : Hsl) with holds := 3 })], now := 9000 } : State).portState ((5 : Fin 32)) = 2) ∧ (({ (awake [165]).p (HSL_STATUS 5) HSL_STATUS_STATE 2 |>.p (HSL_STATUS 5) HSL_STATUS_WIDTH_NOW 1 |>.wr TMP_SAFE 0 |>.p (HSL_LPI 5) HSL_LPI_TX_LPI_EN 1 |>.wr (HSL_LPI_TIME 5) 4 with hsl := [(5, { (default : Hsl) with holds := 3 })], now := 9000 } : State).portOfLane ((5 : Fin 32)) = ((5 : Fin 32))) ∧ (({ (awake [165]).p (HSL_STATUS 5) HSL_STATUS_STATE 2 |>.p (HSL_STATUS 5) HSL_STATUS_WIDTH_NOW 1 |>.wr TMP_SAFE 0 |>.p (HSL_LPI 5) HSL_LPI_TX_LPI_EN 1 |>.wr (HSL_LPI_TIME 5) 4 with hsl := [(5, { (default : Hsl) with holds := 3 })], now := 9000 } : State).on (HSL_LPI ((5 : Fin 32))) HSL_LPI_TX_LPI_EN = true) ∧ (atLeast1 (({ (awake [165]).p (HSL_STATUS 5) HSL_STATUS_STATE 2 |>.p (HSL_STATUS 5) HSL_STATUS_WIDTH_NOW 1 |>.wr TMP_SAFE 0 |>.p (HSL_LPI 5) HSL_LPI_TX_LPI_EN 1 |>.wr (HSL_LPI_TIME 5) 4 with hsl := [(5, { (default : Hsl) with holds := 3 })], now := 9000 } : State).g (HSL_LPI_TIME ((5 : Fin 32))) HSL_LPI_TIME_IDLE_US) ≤ (4)) ∧ (({ (awake [165]).p (HSL_STATUS 5) HSL_STATUS_STATE 2 |>.p (HSL_STATUS 5) HSL_STATUS_WIDTH_NOW 1 |>.wr TMP_SAFE 0 |>.p (HSL_LPI 5) HSL_LPI_TX_LPI_EN 1 |>.wr (HSL_LPI_TIME 5) 4 with hsl := [(5, { (default : Hsl) with holds := 3 })], now := 9000 } : State).portEligible ((5 : Fin 32)) = false) ∧ ((({ (awake [165]).p (HSL_STATUS 5) HSL_STATUS_STATE 2 |>.p (HSL_STATUS 5) HSL_STATUS_WIDTH_NOW 1 |>.wr TMP_SAFE 0 |>.p (HSL_LPI 5) HSL_LPI_TX_LPI_EN 1 |>.wr (HSL_LPI_TIME 5) 4 with hsl := [(5, { (default : Hsl) with holds := 3 })], now := 9000 } : State).hsl.look ((5 : Fin 32))).lpiTx = none) := by decide +kernel
theorem wit_UplinkPortsDefectsFramesAndIdle_txLpiEnter_c27 : ((({ (awake [165]).p (HSL_STATUS 5) HSL_STATUS_STATE 2 |>.p (HSL_STATUS 5) HSL_STATUS_WIDTH_NOW 1 |>.wr TMP_SAFE 0 with hsl := [(5, { (default : Hsl) with holds := 3 })], now := 9000 } : State).portEligible ((5 : Fin 32)) = true ∨ ({ (awake [165]).p (HSL_STATUS 5) HSL_STATUS_STATE 2 |>.p (HSL_STATUS 5) HSL_STATUS_WIDTH_NOW 1 |>.wr TMP_SAFE 0 with hsl := [(5, { (default : Hsl) with holds := 3 })], now := 9000 } : State).on (HSL_LPI ((5 : Fin 32))) HSL_LPI_TX_LPI_EN = false ∨ (4) < atLeast1 (({ (awake [165]).p (HSL_STATUS 5) HSL_STATUS_STATE 2 |>.p (HSL_STATUS 5) HSL_STATUS_WIDTH_NOW 1 |>.wr TMP_SAFE 0 with hsl := [(5, { (default : Hsl) with holds := 3 })], now := 9000 } : State).g (HSL_LPI_TIME ((5 : Fin 32))) HSL_LPI_TIME_IDLE_US))) := by decide +kernel
theorem wit_UplinkPortsDefectsFramesAndIdle_rxLpiSignal_c28 : (({ (awake [165]).p (HSL_STATUS 5) HSL_STATUS_STATE 2 |>.p (HSL_STATUS 5) HSL_STATUS_WIDTH_NOW 1 |>.wr TMP_SAFE 0 |>.p (HSL_LPI 5) HSL_LPI_RX_LPI_EN 1 with hsl := [(5, { (default : Hsl) with holds := 3 })], now := 9000 } : State).portState ((5 : Fin 32)) = 2) ∧ (({ (awake [165]).p (HSL_STATUS 5) HSL_STATUS_STATE 2 |>.p (HSL_STATUS 5) HSL_STATUS_WIDTH_NOW 1 |>.wr TMP_SAFE 0 |>.p (HSL_LPI 5) HSL_LPI_RX_LPI_EN 1 with hsl := [(5, { (default : Hsl) with holds := 3 })], now := 9000 } : State).portOfLane ((5 : Fin 32)) = ((5 : Fin 32))) ∧ ((({ (awake [165]).p (HSL_STATUS 5) HSL_STATUS_STATE 2 |>.p (HSL_STATUS 5) HSL_STATUS_WIDTH_NOW 1 |>.wr TMP_SAFE 0 |>.p (HSL_LPI 5) HSL_LPI_RX_LPI_EN 1 with hsl := [(5, { (default : Hsl) with holds := 3 })], now := 9000 } : State).hsl.look ((5 : Fin 32))).lpiRx = none) ∧ (({ (awake [165]).p (HSL_STATUS 5) HSL_STATUS_STATE 2 |>.p (HSL_STATUS 5) HSL_STATUS_WIDTH_NOW 1 |>.wr TMP_SAFE 0 |>.p (HSL_LPI 5) HSL_LPI_RX_LPI_EN 1 with hsl := [(5, { (default : Hsl) with holds := 3 })], now := 9000 } : State).on (HSL_LPI ((5 : Fin 32))) HSL_LPI_RX_LPI_EN = true) := by decide +kernel
theorem wit_UplinkPortsDefectsFramesAndIdle_rxLpiSignal_c29 : (({ (awake [165]).p (HSL_STATUS 5) HSL_STATUS_STATE 2 |>.p (HSL_STATUS 5) HSL_STATUS_WIDTH_NOW 1 |>.wr TMP_SAFE 0 with hsl := [(5, { (default : Hsl) with lpiRx := some 2000 })], now := 9000 } : State).portState ((5 : Fin 32)) = 2) ∧ (({ (awake [165]).p (HSL_STATUS 5) HSL_STATUS_STATE 2 |>.p (HSL_STATUS 5) HSL_STATUS_WIDTH_NOW 1 |>.wr TMP_SAFE 0 with hsl := [(5, { (default : Hsl) with lpiRx := some 2000 })], now := 9000 } : State).portOfLane ((5 : Fin 32)) = ((5 : Fin 32))) ∧ ((({ (awake [165]).p (HSL_STATUS 5) HSL_STATUS_STATE 2 |>.p (HSL_STATUS 5) HSL_STATUS_WIDTH_NOW 1 |>.wr TMP_SAFE 0 with hsl := [(5, { (default : Hsl) with lpiRx := some 2000 })], now := 9000 } : State).hsl.look ((5 : Fin 32))).lpiRx = some (2000)) := by decide +kernel
theorem wit_SelvedgeLinkHeartbeatsAndMessages_svAlignmentMarker_c0 : (({ (selv).p SLV_STATUS SLV_STATUS_LANE_LOCK 7 with slv := { selv.slv with run := [(3, 2)], count := [(0, 9), (1, 9), (2, 9)] } } : State).on SLV_CTL SLV_CTL_EN = true) ∧ (({ (selv).p SLV_STATUS SLV_STATUS_LANE_LOCK 7 with slv := { selv.slv with run := [(3, 2)], count := [(0, 9), (1, 9), (2, 9)] } } : State).svLocked ((3 : Fin 4)) = false) ∧ (markerOk ((3 : Fin 4)) (mark 3 9) = true) ∧ (2 ≤ ({ (selv).p SLV_STATUS SLV_STATUS_LANE_LOCK 7 with slv := { selv.slv with run := [(3, 2)], count := [(0, 9), (1, 9), (2, 9)] } } : State).slv.run.look ((3 : Fin 4))) := by decide +kernel
theorem wit_SelvedgeLinkHeartbeatsAndMessages_svAlignmentMarker_c1 : (({ (selv) with slv := { selv.slv with run := [(3, 2)] } } : State).on SLV_CTL SLV_CTL_EN = true) ∧ (({ (selv) with slv := { selv.slv with run := [(3, 2)] } } : State).svLocked ((3 : Fin 4)) = false) ∧ ((if markerOk ((3 : Fin 4)) (mark 2 9) = true then (if (true) = true then ({ (selv) with slv := { selv.slv with run := [(3, 2)] } } : State).slv.run.look ((3 : Fin 4)) + 1 else 1) else 0) < 3) := by decide +kernel
theorem wit_SelvedgeLinkHeartbeatsAndMessages_svAlignmentMarker_c1_w1 : (({ (selv) with slv := { selv.slv with run := [(3, 2)] } } : State).on SLV_CTL SLV_CTL_EN = true) ∧ (({ (selv) with slv := { selv.slv with run := [(3, 2)] } } : State).svLocked ((3 : Fin 4)) = false) ∧ ((if markerOk ((3 : Fin 4)) (mark 3 9) = true then (if (false) = true then ({ (selv) with slv := { selv.slv with run := [(3, 2)] } } : State).slv.run.look ((3 : Fin 4)) + 1 else 1) else 0) < 3) := by decide +kernel
theorem wit_SelvedgeLinkHeartbeatsAndMessages_svAlignmentMarker_c1_w2 : (({ (selv) with slv := { selv.slv with run := [(3, 1)] } } : State).on SLV_CTL SLV_CTL_EN = true) ∧ (({ (selv) with slv := { selv.slv with run := [(3, 1)] } } : State).svLocked ((3 : Fin 4)) = false) ∧ ((if markerOk ((3 : Fin 4)) (mark 3 9) = true then (if (true) = true then ({ (selv) with slv := { selv.slv with run := [(3, 1)] } } : State).slv.run.look ((3 : Fin 4)) + 1 else 1) else 0) < 3) := by decide +kernel
theorem wit_SelvedgeLinkHeartbeatsAndMessages_svAlignmentMarker_c2 : (({ (selv).p SLV_STATUS SLV_STATUS_LANE_LOCK 8 with slv := { selv.slv with miss := [(3, 2)] } } : State).on SLV_CTL SLV_CTL_EN = true) ∧ (({ (selv).p SLV_STATUS SLV_STATUS_LANE_LOCK 8 with slv := { selv.slv with miss := [(3, 2)] } } : State).svLocked ((3 : Fin 4)) = true) ∧ (markerOk ((3 : Fin 4)) (mark 3 9) = true) := by decide +kernel
theorem wit_SelvedgeLinkHeartbeatsAndMessages_svAlignmentMarker_c3 : (({ (selv).p SLV_STATUS SLV_STATUS_LANE_LOCK 8 with slv := { selv.slv with miss := [(3, 2)] } } : State).on SLV_CTL SLV_CTL_EN = true) ∧ (({ (selv).p SLV_STATUS SLV_STATUS_LANE_LOCK 8 with slv := { selv.slv with miss := [(3, 2)] } } : State).svLocked ((3 : Fin 4)) = true) ∧ (markerOk ((3 : Fin 4)) (mark 2 9) = false) ∧ (({ (selv).p SLV_STATUS SLV_STATUS_LANE_LOCK 8 with slv := { selv.slv with miss := [(3, 2)] } } : State).slv.miss.look ((3 : Fin 4)) < 3) := by decide +kernel
theorem wit_SelvedgeLinkHeartbeatsAndMessages_svAlignmentMarker_c4 : (({ (selv).p SLV_STATUS SLV_STATUS_LANE_LOCK 15 |>.p SLV_STATUS SLV_STATUS_LINK_UP 1 with slv := { selv.slv with miss := [(3, 3)] } } : State).on SLV_CTL SLV_CTL_EN = true) ∧ (({ (selv).p SLV_STATUS SLV_STATUS_LANE_LOCK 15 |>.p SLV_STATUS SLV_STATUS_LINK_UP 1 with slv := { selv.slv with miss := [(3, 3)] } } : State).svLocked ((3 : Fin 4)) = true) ∧ (markerOk ((3 : Fin 4)) (mark 2 9) = false) ∧ (3 ≤ ({ (selv).p SLV_STATUS SLV_STATUS_LANE_LOCK 15 |>.p SLV_STATUS SLV_STATUS_LINK_UP 1 with slv := { selv.slv with miss := [(3, 3)] } } : State).slv.miss.look ((3 : Fin 4))) := by decide +kernel
theorem wit_SelvedgeLinkHeartbeatsAndMessages_svAlignmentMarker_c5 : (((awake [13] : State).on SLV_CTL SLV_CTL_EN = false ∨ ((awake [13] : State).svLocked ((3 : Fin 4)) = true ∧ (true) = false))) := by decide +kernel
theorem wit_SelvedgeLinkHeartbeatsAndMessages_svAlignmentMarker_c5_w1 : ((({ (selv).p SLV_STATUS SLV_STATUS_LANE_LOCK 8 with slv := { selv.slv with hbSeq := 3 } } : State).on SLV_CTL SLV_CTL_EN = false ∨ (({ (selv).p SLV_STATUS SLV_STATUS_LANE_LOCK 8 with slv := { selv.slv with hbSeq := 3 } } : State).svLocked ((3 : Fin 4)) = true ∧ (false) = false))) := by decide +kernel
theorem wit_SelvedgeLinkHeartbeatsAndMessages_svMarkerLoss_c6 : (({ (selv).p SLV_STATUS SLV_STATUS_LANE_LOCK 15 |>.p SLV_STATUS SLV_STATUS_LINK_UP 1 with slv := { selv.slv with run := [(3, 2)], rxMsg := some ⟨3, 2, []⟩ } } : State).svLocked ((3 : Fin 4)) = true) := by decide +kernel
theorem wit_SelvedgeLinkHeartbeatsAndMessages_svMarkerLoss_c7 : (({ (selv) with slv := { selv.slv with hbSeq := 3 } } : State).svLocked ((3 : Fin 4)) = false) := by decide +kernel
theorem wit_SelvedgeLinkHeartbeatsAndMessages_heartbeatRx_c8 : (({ (selv).p SLV_STATUS SLV_STATUS_LINK_UP 1 |>.p SLV_PROT_STATUS SLV_PROT_STATUS_STATE 1 with slv := { selv.slv with primary := true } } : State).on SLV_STATUS SLV_STATUS_LINK_UP = true) ∧ (unstripe ((2 : Fin 4)) (List.replicate 4 ((0x155 : BitVec 58))) [((⟨0b10, scramble 0x155 (hbBlock 2 true 300).pay⟩ : SvBlock))] = [hbBlock ((2 : Fin 3)) (true) (300)]) := by decide +kernel
theorem wit_SelvedgeLinkHeartbeatsAndMessages_heartbeatRx_c8_w1 : (({ (selv).p SLV_STATUS SLV_STATUS_LINK_UP 1 |>.p SLV_PROT_STATUS SLV_PROT_STATUS_STATE 1 with slv := { selv.slv with primary := true } } : State).on SLV_STATUS SLV_STATUS_LINK_UP = true) ∧ (unstripe ((2 : Fin 4)) (List.replicate 4 ((0x155 : BitVec 58))) [((⟨0b10, scramble 0x155 (hbBlock 1 false 300).pay⟩ : SvBlock))] = [hbBlock ((1 : Fin 3)) (false) (300)]) := by decide +kernel
theorem wit_SelvedgeLinkHeartbeatsAndMessages_heartbeatRx_c8_w2 : (({ (selv).p SLV_STATUS SLV_STATUS_LINK_UP 1 |>.p SLV_PROT_STATUS SLV_PROT_STATUS_STATE 3 with slv := { selv.slv with primary := true } } : State).on SLV_STATUS SLV_STATUS_LINK_UP = true) ∧ (unstripe ((2 : Fin 4)) (List.replicate 4 ((0x155 : BitVec 58))) [((⟨0b10, scramble 0x155 (hbBlock 2 true 300).pay⟩ : SvBlock))] = [hbBlock ((2 : Fin 3)) (true) (300)]) := by decide +kernel
theorem wit_SelvedgeLinkHeartbeatsAndMessages_heartbeatRx_c8_w3 : (({ (selv).p SLV_STATUS SLV_STATUS_LINK_UP 1 |>.p SLV_PROT_STATUS SLV_PROT_STATUS_STATE 3 |>.p SLV_CTL SLV_CTL_CLAIM 1 with slv := { selv.slv with primary := true } } : State).on SLV_STATUS SLV_STATUS_LINK_UP = true) ∧ (unstripe ((2 : Fin 4)) (List.replicate 4 ((0x155 : BitVec 58))) [((⟨0b10, scramble 0x155 (hbBlock 1 true 300).pay⟩ : SvBlock))] = [hbBlock ((1 : Fin 3)) (true) (300)]) := by decide +kernel
theorem wit_SelvedgeLinkHeartbeatsAndMessages_heartbeatRx_c8_w4 : (({ (selv).p SLV_STATUS SLV_STATUS_LINK_UP 1 |>.p SLV_PROT_STATUS SLV_PROT_STATUS_STATE 3 |>.p SLV_CTL SLV_CTL_CLAIM 1 with slv := { selv.slv with primary := false } } : State).on SLV_STATUS SLV_STATUS_LINK_UP = true) ∧ (unstripe ((2 : Fin 4)) (List.replicate 4 ((0x155 : BitVec 58))) [((⟨0b10, scramble 0x155 (hbBlock 2 true 300).pay⟩ : SvBlock))] = [hbBlock ((2 : Fin 3)) (true) (300)]) := by decide +kernel
theorem wit_SelvedgeLinkHeartbeatsAndMessages_heartbeatRx_c9 : (({ (selv).p SLV_STATUS SLV_STATUS_LINK_UP 1 |>.p SLV_PROT_STATUS SLV_PROT_STATUS_STATE 1 with slv := { selv.slv with primary := true } } : State).on SLV_STATUS SLV_STATUS_LINK_UP = true) ∧ (((⟨0b10, scramble 0x155 (hbBlock 2 true 300).pay⟩ : SvBlock)).sync = 0b10) ∧ (((payBytes (unscramble ((0x154 : BitVec 58)) ((⟨0b10, scramble 0x155 (hbBlock 2 true 300).pay⟩ : SvBlock)).pay)).getD 7 0).toNat ≠ crc8 ((payBytes (unscramble ((0x154 : BitVec 58)) ((⟨0b10, scramble 0x155 (hbBlock 2 true 300).pay⟩ : SvBlock)).pay)).take 7)) := by decide +kernel
theorem wit_SelvedgeLinkHeartbeatsAndMessages_heartbeatRx_c10 : (({ (selv) with slv := { selv.slv with hbSeq := 3 } } : State).on SLV_STATUS SLV_STATUS_LINK_UP = false) := by decide +kernel
theorem wit_SelvedgeLinkHeartbeatsAndMessages_hbPinWord_c11 : ((bit ((0x5B#8 : BitVec 8)).toNat 0 && !bit ((0x5B#8 : BitVec 8)).toNat 7 && oddOnes ((0x5B#8 : BitVec 8)).toNat 7) = true) ∧ ((({ (selv).p SLV_STATUS SLV_STATUS_HB_PIN_ALIVE 1 |>.p SLV_PROT_STATUS SLV_PROT_STATUS_STATE 1 with slv := { selv.slv with pinSeq := some 2 } } : State).slv.pinSeq.all (fun q => decide ((((0x5B#8 : BitVec 8)).toNat / 8 % 8) = (q + 1) % 8)) || !({ (selv).p SLV_STATUS SLV_STATUS_HB_PIN_ALIVE 1 |>.p SLV_PROT_STATUS SLV_PROT_STATUS_STATE 1 with slv := { selv.slv with pinSeq := some 2 } } : State).on SLV_STATUS SLV_STATUS_HB_PIN_ALIVE) = true) := by decide +kernel
theorem wit_SelvedgeLinkHeartbeatsAndMessages_hbPinWord_c11_w1 : ((bit ((0x0B#8 : BitVec 8)).toNat 0 && !bit ((0x0B#8 : BitVec 8)).toNat 7 && oddOnes ((0x0B#8 : BitVec 8)).toNat 7) = true) ∧ ((({ (selv).p SLV_STATUS SLV_STATUS_HB_PIN_ALIVE 1 |>.p SLV_PROT_STATUS SLV_PROT_STATUS_STATE 1 with slv := { selv.slv with pinSeq := none } } : State).slv.pinSeq.all (fun q => decide ((((0x0B#8 : BitVec 8)).toNat / 8 % 8) = (q + 1) % 8)) || !({ (selv).p SLV_STATUS SLV_STATUS_HB_PIN_ALIVE 1 |>.p SLV_PROT_STATUS SLV_PROT_STATUS_STATE 1 with slv := { selv.slv with pinSeq := none } } : State).on SLV_STATUS SLV_STATUS_HB_PIN_ALIVE) = true) := by decide +kernel
theorem wit_SelvedgeLinkHeartbeatsAndMessages_hbPinWord_c12 : (((bit ((0x1B#8 : BitVec 8)).toNat 0 && !bit ((0x1B#8 : BitVec 8)).toNat 7 && oddOnes ((0x1B#8 : BitVec 8)).toNat 7) = false ∨ (({ (selv).p SLV_STATUS SLV_STATUS_HB_PIN_ALIVE 1 |>.p SLV_PROT_STATUS SLV_PROT_STATUS_STATE 1 with slv := { selv.slv with pinSeq := some 2 } } : State).slv.pinSeq.all (fun q => decide ((((0x1B#8 : BitVec 8)).toNat / 8 % 8) = (q + 1) % 8)) || !({ (selv).p SLV_STATUS SLV_STATUS_HB_PIN_ALIVE 1 |>.p SLV_PROT_STATUS SLV_PROT_STATUS_STATE 1 with slv := { selv.slv with pinSeq := some 2 } } : State).on SLV_STATUS SLV_STATUS_HB_PIN_ALIVE) = false)) := by decide +kernel
theorem wit_SelvedgeLinkHeartbeatsAndMessages_hbPinWord_c12_w1 : (((bit ((0x5B#8 : BitVec 8)).toNat 0 && !bit ((0x5B#8 : BitVec 8)).toNat 7 && oddOnes ((0x5B#8 : BitVec 8)).toNat 7) = false ∨ (({ (selv).p SLV_STATUS SLV_STATUS_HB_PIN_ALIVE 1 |>.p SLV_PROT_STATUS SLV_PROT_STATUS_STATE 1 with slv := { selv.slv with pinSeq := some 3 } } : State).slv.pinSeq.all (fun q => decide ((((0x5B#8 : BitVec 8)).toNat / 8 % 8) = (q + 1) % 8)) || !({ (selv).p SLV_STATUS SLV_STATUS_HB_PIN_ALIVE 1 |>.p SLV_PROT_STATUS SLV_PROT_STATUS_STATE 1 with slv := { selv.slv with pinSeq := some 3 } } : State).on SLV_STATUS SLV_STATUS_HB_PIN_ALIVE) = false)) := by decide +kernel
theorem wit_SelvedgeLinkHeartbeatsAndMessages_heartbeatTx_c13 : ((({ (selv) with slv := { selv.slv with hbSeq := 65535 } } : State).on SLV_CTL SLV_CTL_EN = true ∨ ({ (selv) with slv := { selv.slv with hbSeq := 65535 } } : State).on SLV_CTL SLV_CTL_PIN_EN = true)) := by decide +kernel
theorem wit_SelvedgeLinkHeartbeatsAndMessages_heartbeatTx_c13_w1 : ((({ (selv).p SLV_CTL SLV_CTL_EN 0 with slv := { selv.slv with hbSeq := 4 } } : State).on SLV_CTL SLV_CTL_EN = true ∨ ({ (selv).p SLV_CTL SLV_CTL_EN 0 with slv := { selv.slv with hbSeq := 4 } } : State).on SLV_CTL SLV_CTL_PIN_EN = true)) := by decide +kernel
theorem wit_SelvedgeLinkHeartbeatsAndMessages_heartbeatTx_c14 : ((awake [13] : State).on SLV_CTL SLV_CTL_EN = false) ∧ ((awake [13] : State).on SLV_CTL SLV_CTL_PIN_EN = false) := by decide +kernel
theorem wit_SelvedgeLinkHeartbeatsAndMessages_hbAliveTimeout_c18 : (({ (selv).p SLV_STATUS SLV_STATUS_HB_PIN_ALIVE 1 with now := 125005, slv := { selv.slv with lastPin := some 5 } } : State).on SLV_STATUS SLV_STATUS_HB_PIN_ALIVE = true) ∧ (({ (selv).p SLV_STATUS SLV_STATUS_HB_PIN_ALIVE 1 with now := 125005, slv := { selv.slv with lastPin := some 5 } } : State).slv.lastPin.all (fun k => decide (125000 ≤ ({ (selv).p SLV_STATUS SLV_STATUS_HB_PIN_ALIVE 1 with now := 125005, slv := { selv.slv with lastPin := some 5 } } : State).now - k)) = true) := by decide +kernel
theorem wit_SelvedgeLinkHeartbeatsAndMessages_hbAliveTimeout_c19 : ((({ (selv).p SLV_STATUS SLV_STATUS_HB_PIN_ALIVE 1 with now := 125004, slv := { selv.slv with lastPin := some 5 } } : State).on SLV_STATUS SLV_STATUS_HB_PIN_ALIVE = false ∨ ({ (selv).p SLV_STATUS SLV_STATUS_HB_PIN_ALIVE 1 with now := 125004, slv := { selv.slv with lastPin := some 5 } } : State).slv.lastPin.any (fun k => decide (({ (selv).p SLV_STATUS SLV_STATUS_HB_PIN_ALIVE 1 with now := 125004, slv := { selv.slv with lastPin := some 5 } } : State).now - k < 125000)) = true)) := by decide +kernel
theorem wit_SelvedgeLinkHeartbeatsAndMessages_hbAliveTimeout_c20 : (({ (selv).p SLV_STATUS SLV_STATUS_HB_LINK_ALIVE 1 with now := 125005, slv := { selv.slv with lastLink := some 5 } } : State).on SLV_STATUS SLV_STATUS_HB_LINK_ALIVE = true) ∧ (({ (selv).p SLV_STATUS SLV_STATUS_HB_LINK_ALIVE 1 with now := 125005, slv := { selv.slv with lastLink := some 5 } } : State).slv.lastLink.all (fun k => decide (125000 ≤ ({ (selv).p SLV_STATUS SLV_STATUS_HB_LINK_ALIVE 1 with now := 125005, slv := { selv.slv with lastLink := some 5 } } : State).now - k)) = true) := by decide +kernel
theorem wit_SelvedgeLinkHeartbeatsAndMessages_hbAliveTimeout_c21 : ((({ (selv).p SLV_STATUS SLV_STATUS_HB_LINK_ALIVE 1 with now := 125004, slv := { selv.slv with lastLink := some 5 } } : State).on SLV_STATUS SLV_STATUS_HB_LINK_ALIVE = false ∨ ({ (selv).p SLV_STATUS SLV_STATUS_HB_LINK_ALIVE 1 with now := 125004, slv := { selv.slv with lastLink := some 5 } } : State).slv.lastLink.any (fun k => decide (({ (selv).p SLV_STATUS SLV_STATUS_HB_LINK_ALIVE 1 with now := 125004, slv := { selv.slv with lastLink := some 5 } } : State).now - k < 125000)) = true)) := by decide +kernel
theorem wit_SelvedgeLinkHeartbeatsAndMessages_svMessage_c22 : (({ (selv).p SLV_STATUS SLV_STATUS_LINK_UP 1 with slv := { selv.slv with hbSeq := 3 } } : State).on SLV_STATUS SLV_STATUS_LINK_UP = true) ∧ (({ (selv).p SLV_STATUS SLV_STATUS_LINK_UP 1 with slv := { selv.slv with hbSeq := 3 } } : State).slv.rxMsg = none) ∧ (unstripe ((1 : Fin 4)) ((List.replicate 4 (0x2A : BitVec 58))) (((stripe 1 (List.replicate 4 (0x2A : BitVec 58)) (msgBlocks 0 9 [1, 2, 3, 4, 5, 6, 7, 8])).map (·.2))) = msgBlocks ((0 : Fin 256)) (9) (([1, 2, 3, 4, 5, 6, 7, 8] : List Byte))) ∧ (1 ≤ (([1, 2, 3, 4, 5, 6, 7, 8] : List Byte)).length) ∧ ((([1, 2, 3, 4, 5, 6, 7, 8] : List Byte)).length ≤ 8192) ∧ ((([1, 2, 3, 4, 5, 6, 7, 8] : List Byte)).length % 8 = 0) ∧ ((((0 : Fin 256)).val = 0 ∨ (5 < ((0 : Fin 256)).val ∧ ((0 : Fin 256)).val ≠ 0x3F ∧ ((0 : Fin 256)).val ≠ 0x40 ∧ ((0 : Fin 256)).val ≠ 0x41))) := by decide +kernel
theorem wit_SelvedgeLinkHeartbeatsAndMessages_svMessage_c22_w1 : (({ (selv).p SLV_STATUS SLV_STATUS_LINK_UP 1 with slv := { selv.slv with hbSeq := 3 } } : State).on SLV_STATUS SLV_STATUS_LINK_UP = true) ∧ (({ (selv).p SLV_STATUS SLV_STATUS_LINK_UP 1 with slv := { selv.slv with hbSeq := 3 } } : State).slv.rxMsg = none) ∧ (unstripe ((1 : Fin 4)) ((List.replicate 4 (0x2A : BitVec 58))) (((stripe 1 (List.replicate 4 (0x2A : BitVec 58)) (msgBlocks 6 9 [1, 2, 3, 4, 5, 6, 7, 8])).map (·.2))) = msgBlocks ((6 : Fin 256)) (9) (([1, 2, 3, 4, 5, 6, 7, 8] : List Byte))) ∧ (1 ≤ (([1, 2, 3, 4, 5, 6, 7, 8] : List Byte)).length) ∧ ((([1, 2, 3, 4, 5, 6, 7, 8] : List Byte)).length ≤ 8192) ∧ ((([1, 2, 3, 4, 5, 6, 7, 8] : List Byte)).length % 8 = 0) ∧ ((((6 : Fin 256)).val = 0 ∨ (5 < ((6 : Fin 256)).val ∧ ((6 : Fin 256)).val ≠ 0x3F ∧ ((6 : Fin 256)).val ≠ 0x40 ∧ ((6 : Fin 256)).val ≠ 0x41))) := by decide +kernel
theorem wit_SelvedgeLinkHeartbeatsAndMessages_svMessage_c22_w2 : (({ (selv).p SLV_STATUS SLV_STATUS_LINK_UP 1 with slv := { selv.slv with hbSeq := 3 } } : State).on SLV_STATUS SLV_STATUS_LINK_UP = true) ∧ (({ (selv).p SLV_STATUS SLV_STATUS_LINK_UP 1 with slv := { selv.slv with hbSeq := 3 } } : State).slv.rxMsg = none) ∧ (unstripe ((1 : Fin 4)) ((List.replicate 4 (0x2A : BitVec 58))) (((stripe 1 (List.replicate 4 (0x2A : BitVec 58)) (msgBlocks 66 9 [1, 2, 3, 4, 5, 6, 7, 8])).map (·.2))) = msgBlocks ((66 : Fin 256)) (9) (([1, 2, 3, 4, 5, 6, 7, 8] : List Byte))) ∧ (1 ≤ (([1, 2, 3, 4, 5, 6, 7, 8] : List Byte)).length) ∧ ((([1, 2, 3, 4, 5, 6, 7, 8] : List Byte)).length ≤ 8192) ∧ ((([1, 2, 3, 4, 5, 6, 7, 8] : List Byte)).length % 8 = 0) ∧ ((((66 : Fin 256)).val = 0 ∨ (5 < ((66 : Fin 256)).val ∧ ((66 : Fin 256)).val ≠ 0x3F ∧ ((66 : Fin 256)).val ≠ 0x40 ∧ ((66 : Fin 256)).val ≠ 0x41))) := by decide +kernel
theorem wit_SelvedgeLinkHeartbeatsAndMessages_svMessage_c23 : (({ (selv).p SLV_STATUS SLV_STATUS_LINK_UP 1 with slv := { selv.slv with mbx := List.replicate 15 [] } } : State).on SLV_STATUS SLV_STATUS_LINK_UP = true) ∧ (({ (selv).p SLV_STATUS SLV_STATUS_LINK_UP 1 with slv := { selv.slv with mbx := List.replicate 15 [] } } : State).slv.rxMsg = none) ∧ (unstripe ((1 : Fin 4)) ((List.replicate 4 (0x2A : BitVec 58))) (((stripe 1 (List.replicate 4 (0x2A : BitVec 58)) (msgBlocks 0x41 9 [7, 0, 0, 0, 0, 0, 0, 0])).map (·.2))) = msgBlocks 0x41 (9) (([7, 0, 0, 0, 0, 0, 0, 0] : List Byte))) ∧ (1 ≤ (([7, 0, 0, 0, 0, 0, 0, 0] : List Byte)).length) ∧ ((([7, 0, 0, 0, 0, 0, 0, 0] : List Byte)).length ≤ 8192) ∧ ((([7, 0, 0, 0, 0, 0, 0, 0] : List Byte)).length % 8 = 0) ∧ (({ (selv).p SLV_STATUS SLV_STATUS_LINK_UP 1 with slv := { selv.slv with mbx := List.replicate 15 [] } } : State).slv.mbx.length < 16) := by decide +kernel
theorem wit_SelvedgeLinkHeartbeatsAndMessages_svMessage_c24 : (({ (selv).p SLV_STATUS SLV_STATUS_LINK_UP 1 with slv := { selv.slv with mbx := List.replicate 16 [] } } : State).on SLV_STATUS SLV_STATUS_LINK_UP = true) ∧ (({ (selv).p SLV_STATUS SLV_STATUS_LINK_UP 1 with slv := { selv.slv with mbx := List.replicate 16 [] } } : State).slv.rxMsg = none) ∧ (unstripe ((1 : Fin 4)) ((List.replicate 4 (0x2A : BitVec 58))) (((stripe 1 (List.replicate 4 (0x2A : BitVec 58)) (msgBlocks 0x41 9 [7, 0, 0, 0, 0, 0, 0, 0])).map (·.2))) = msgBlocks 0x41 (9) (([7, 0, 0, 0, 0, 0, 0, 0] : List Byte))) ∧ (1 ≤ (([7, 0, 0, 0, 0, 0, 0, 0] : List Byte)).length) ∧ ((([7, 0, 0, 0, 0, 0, 0, 0] : List Byte)).length ≤ 8192) ∧ ((([7, 0, 0, 0, 0, 0, 0, 0] : List Byte)).length % 8 = 0) ∧ (16 ≤ ({ (selv).p SLV_STATUS SLV_STATUS_LINK_UP 1 with slv := { selv.slv with mbx := List.replicate 16 [] } } : State).slv.mbx.length) := by decide +kernel
theorem wit_SelvedgeLinkHeartbeatsAndMessages_svMessage_c25 : (({ (selv).p SLV_STATUS SLV_STATUS_LINK_UP 1 with slv := { selv.slv with hbSeq := 3 } } : State).on SLV_STATUS SLV_STATUS_LINK_UP = true) ∧ (({ (selv).p SLV_STATUS SLV_STATUS_LINK_UP 1 with slv := { selv.slv with hbSeq := 3 } } : State).slv.rxMsg = none) ∧ (unstripe ((1 : Fin 4)) ((List.replicate 4 (0x2A : BitVec 58))) (((stripe 1 (List.replicate 4 (0x2A : BitVec 58)) (msgBlocks 0x40 9 [1, 2, 3, 4, 9, 0, 0, 0])).map (·.2))) = msgBlocks 0x40 (9) (([1, 2, 3, 4, 9, 0, 0, 0] : List Byte))) ∧ (1 ≤ (([1, 2, 3, 4, 9, 0, 0, 0] : List Byte)).length) ∧ ((([1, 2, 3, 4, 9, 0, 0, 0] : List Byte)).length ≤ 8192) ∧ ((([1, 2, 3, 4, 9, 0, 0, 0] : List Byte)).length % 8 = 0) := by decide +kernel
theorem wit_SelvedgeLinkHeartbeatsAndMessages_svMessage_c26 : (({ (selv).p SLV_STATUS SLV_STATUS_LINK_UP 1 |>.p SLV_PROT_STATUS SLV_PROT_STATUS_STATE 2 |>.p TIM_STATUS TIM_STATUS_STATE 2 with slv := { selv.slv with hbSeq := 3 } } : State).on SLV_STATUS SLV_STATUS_LINK_UP = true) ∧ (({ (selv).p SLV_STATUS SLV_STATUS_LINK_UP 1 |>.p SLV_PROT_STATUS SLV_PROT_STATUS_STATE 2 |>.p TIM_STATUS TIM_STATUS_STATE 2 with slv := { selv.slv with hbSeq := 3 } } : State).slv.rxMsg = none) ∧ (unstripe ((1 : Fin 4)) ((List.replicate 4 (0x2A : BitVec 58))) (((stripe 1 (List.replicate 4 (0x2A : BitVec 58)) (msgBlocks 0x3F 9 [0, 0, 0, 0, 0, 0, 1, 2, 0, 0, 0, 0, 0, 0, 0, 0])).map (·.2))) = msgBlocks 0x3F (9) (([0, 0, 0, 0, 0, 0, 1, 2, 0, 0, 0, 0, 0, 0, 0, 0] : List Byte))) ∧ (1 ≤ (([0, 0, 0, 0, 0, 0, 1, 2, 0, 0, 0, 0, 0, 0, 0, 0] : List Byte)).length) ∧ ((([0, 0, 0, 0, 0, 0, 1, 2, 0, 0, 0, 0, 0, 0, 0, 0] : List Byte)).length ≤ 8192) ∧ ((([0, 0, 0, 0, 0, 0, 1, 2, 0, 0, 0, 0, 0, 0, 0, 0] : List Byte)).length % 8 = 0) ∧ (({ (selv).p SLV_STATUS SLV_STATUS_LINK_UP 1 |>.p SLV_PROT_STATUS SLV_PROT_STATUS_STATE 2 |>.p TIM_STATUS TIM_STATUS_STATE 2 with slv := { selv.slv with hbSeq := 3 } } : State).protState = 2) ∧ (({ (selv).p SLV_STATUS SLV_STATUS_LINK_UP 1 |>.p SLV_PROT_STATUS SLV_PROT_STATUS_STATE 2 |>.p TIM_STATUS TIM_STATUS_STATE 2 with slv := { selv.slv with hbSeq := 3 } } : State).ready = true) ∧ ((([0, 0, 0, 0, 0, 0, 1, 2, 0, 0, 0, 0, 0, 0, 0, 0] : List Byte)).getD 8 0 = 0) := by decide +kernel
theorem wit_SelvedgeLinkHeartbeatsAndMessages_svMessage_c27 : (({ (selv).p SLV_STATUS SLV_STATUS_LINK_UP 1 |>.p SLV_PROT_STATUS SLV_PROT_STATUS_STATE 2 |>.p TIM_STATUS TIM_STATUS_STATE 1 with slv := { selv.slv with hbSeq := 3 } } : State).on SLV_STATUS SLV_STATUS_LINK_UP = true) ∧ (({ (selv).p SLV_STATUS SLV_STATUS_LINK_UP 1 |>.p SLV_PROT_STATUS SLV_PROT_STATUS_STATE 2 |>.p TIM_STATUS TIM_STATUS_STATE 1 with slv := { selv.slv with hbSeq := 3 } } : State).slv.rxMsg = none) ∧ (unstripe ((1 : Fin 4)) ((List.replicate 4 (0x2A : BitVec 58))) (((stripe 1 (List.replicate 4 (0x2A : BitVec 58)) (msgBlocks 0x3F 9 [0, 0, 0, 0, 0, 0, 1, 2, 0, 0, 0, 0, 0, 0, 0, 0])).map (·.2))) = msgBlocks 0x3F (9) (([0, 0, 0, 0, 0, 0, 1, 2, 0, 0, 0, 0, 0, 0, 0, 0] : List Byte))) ∧ (1 ≤ (([0, 0, 0, 0, 0, 0, 1, 2, 0, 0, 0, 0, 0, 0, 0, 0] : List Byte)).length) ∧ ((([0, 0, 0, 0, 0, 0, 1, 2, 0, 0, 0, 0, 0, 0, 0, 0] : List Byte)).length ≤ 8192) ∧ ((([0, 0, 0, 0, 0, 0, 1, 2, 0, 0, 0, 0, 0, 0, 0, 0] : List Byte)).length % 8 = 0) ∧ ((({ (selv).p SLV_STATUS SLV_STATUS_LINK_UP 1 |>.p SLV_PROT_STATUS SLV_PROT_STATUS_STATE 2 |>.p TIM_STATUS TIM_STATUS_STATE 1 with slv := { selv.slv with hbSeq := 3 } } : State).protState ≠ 2 ∨ ({ (selv).p SLV_STATUS SLV_STATUS_LINK_UP 1 |>.p SLV_PROT_STATUS SLV_PROT_STATUS_STATE 2 |>.p TIM_STATUS TIM_STATUS_STATE 1 with slv := { selv.slv with hbSeq := 3 } } : State).ready = false)) ∧ ((([0, 0, 0, 0, 0, 0, 1, 2, 0, 0, 0, 0, 0, 0, 0, 0] : List Byte)).getD 8 0 = 0) := by decide +kernel
theorem wit_SelvedgeLinkHeartbeatsAndMessages_svMessage_c28 : (({ (selv).p SLV_STATUS SLV_STATUS_LINK_UP 1 with slv := { selv.slv with hand := some (258, true, false) } } : State).on SLV_STATUS SLV_STATUS_LINK_UP = true) ∧ (({ (selv).p SLV_STATUS SLV_STATUS_LINK_UP 1 with slv := { selv.slv with hand := some (258, true, false) } } : State).slv.rxMsg = none) ∧ (unstripe ((1 : Fin 4)) ((List.replicate 4 (0x2A : BitVec 58))) (((stripe 1 (List.replicate 4 (0x2A : BitVec 58)) (msgBlocks 0x3F 9 [0, 0, 0, 0, 0, 0, 1, 2, 1, 0, 0, 0, 0, 0, 0, 0])).map (·.2))) = msgBlocks 0x3F (9) (([0, 0, 0, 0, 0, 0, 1, 2, 1, 0, 0, 0, 0, 0, 0, 0] : List Byte))) ∧ (1 ≤ (([0, 0, 0, 0, 0, 0, 1, 2, 1, 0, 0, 0, 0, 0, 0, 0] : List Byte)).length) ∧ ((([0, 0, 0, 0, 0, 0, 1, 2, 1, 0, 0, 0, 0, 0, 0, 0] : List Byte)).length ≤ 8192) ∧ ((([0, 0, 0, 0, 0, 0, 1, 2, 1, 0, 0, 0, 0, 0, 0, 0] : List Byte)).length % 8 = 0) ∧ (({ (selv).p SLV_STATUS SLV_STATUS_LINK_UP 1 with slv := { selv.slv with hand := some (258, true, false) } } : State).slv.hand = some ((258), true, false)) ∧ (beNat ((([0, 0, 0, 0, 0, 0, 1, 2, 1, 0, 0, 0, 0, 0, 0, 0] : List Byte)).take 8) = (258)) ∧ ((([0, 0, 0, 0, 0, 0, 1, 2, 1, 0, 0, 0, 0, 0, 0, 0] : List Byte)).getD 8 0 = 1) := by decide +kernel
theorem wit_SelvedgeLinkHeartbeatsAndMessages_svMessage_c29 : (({ (selv).p SLV_STATUS SLV_STATUS_LINK_UP 1 |>.p SLV_PROT_STATUS SLV_PROT_STATUS_STATE 2 with slv := { selv.slv with protMask := 32 }, pch := [(5, { (default : Pch) with protHeld := true })] } : State).on SLV_STATUS SLV_STATUS_LINK_UP = true) ∧ (({ (selv).p SLV_STATUS SLV_STATUS_LINK_UP 1 |>.p SLV_PROT_STATUS SLV_PROT_STATUS_STATE 2 with slv := { selv.slv with protMask := 32 }, pch := [(5, { (default : Pch) with protHeld := true })] } : State).slv.rxMsg = none) ∧ (unstripe ((1 : Fin 4)) ((List.replicate 4 (0x2A : BitVec 58))) (((stripe 1 (List.replicate 4 (0x2A : BitVec 58)) (msgBlocks 3 9 [5, 255, 3, 7, 0, 0, 1, 2, 9, 9, 9, 9, 8, 8, 8, 8])).map (·.2))) = msgBlocks 3 (9) (([5, 255, 3, 7, 0, 0, 1, 2, 9, 9, 9, 9, 8, 8, 8, 8] : List Byte))) ∧ (1 ≤ (([5, 255, 3, 7, 0, 0, 1, 2, 9, 9, 9, 9, 8, 8, 8, 8] : List Byte)).length) ∧ ((([5, 255, 3, 7, 0, 0, 1, 2, 9, 9, 9, 9, 8, 8, 8, 8] : List Byte)).length ≤ 8192) ∧ ((([5, 255, 3, 7, 0, 0, 1, 2, 9, 9, 9, 9, 8, 8, 8, 8] : List Byte)).length % 8 = 0) ∧ ((({ (selv).p SLV_STATUS SLV_STATUS_LINK_UP 1 |>.p SLV_PROT_STATUS SLV_PROT_STATUS_STATE 2 with slv := { selv.slv with protMask := 32 }, pch := [(5, { (default : Pch) with protHeld := true })] } : State).protState = 1 ∨ ({ (selv).p SLV_STATUS SLV_STATUS_LINK_UP 1 |>.p SLV_PROT_STATUS SLV_PROT_STATUS_STATE 2 with slv := { selv.slv with protMask := 32 }, pch := [(5, { (default : Pch) with protHeld := true })] } : State).protState = 2)) ∧ ((([5, 255, 3, 7, 0, 0, 1, 2, 9, 9, 9, 9, 8, 8, 8, 8] : List Byte)).length = 16) ∧ (((([5, 255, 3, 7, 0, 0, 1, 2, 9, 9, 9, 9, 8, 8, 8, 8] : List Byte)).getD 0 0).toNat < 64) ∧ (({ (selv).p SLV_STATUS SLV_STATUS_LINK_UP 1 |>.p SLV_PROT_STATUS SLV_PROT_STATUS_STATE 2 with slv := { selv.slv with protMask := 32 }, pch := [(5, { (default : Pch) with protHeld := true })] } : State).protected_ ((([5, 255, 3, 7, 0, 0, 1, 2, 9, 9, 9, 9, 8, 8, 8, 8] : List Byte)).getD 0 0).toNat = true) ∧ ((({ (selv).p SLV_STATUS SLV_STATUS_LINK_UP 1 |>.p SLV_PROT_STATUS SLV_PROT_STATUS_STATE 2 with slv := { selv.slv with protMask := 32 }, pch := [(5, { (default : Pch) with protHeld := true })] } : State).pch.look ((([5, 255, 3, 7, 0, 0, 1, 2, 9, 9, 9, 9, 8, 8, 8, 8] : List Byte)).getD 0 0).toNat).protHeld = true) := by decide +kernel
theorem wit_SelvedgeLinkHeartbeatsAndMessages_svMessage_c30 : (({ (selv).p SLV_STATUS SLV_STATUS_LINK_UP 1 |>.p SLV_PROT_STATUS SLV_PROT_STATUS_STATE 2 with slv := { selv.slv with protMask := 16 }, pch := [(5, { (default : Pch) with protHeld := true })] } : State).on SLV_STATUS SLV_STATUS_LINK_UP = true) ∧ (({ (selv).p SLV_STATUS SLV_STATUS_LINK_UP 1 |>.p SLV_PROT_STATUS SLV_PROT_STATUS_STATE 2 with slv := { selv.slv with protMask := 16 }, pch := [(5, { (default : Pch) with protHeld := true })] } : State).slv.rxMsg = none) ∧ (unstripe ((1 : Fin 4)) ((List.replicate 4 (0x2A : BitVec 58))) (((stripe 1 (List.replicate 4 (0x2A : BitVec 58)) (msgBlocks 3 9 [5, 255, 3, 7, 0, 0, 1, 2, 9, 9, 9, 9, 8, 8, 8, 8])).map (·.2))) = msgBlocks 3 (9) (([5, 255, 3, 7, 0, 0, 1, 2, 9, 9, 9, 9, 8, 8, 8, 8] : List Byte))) ∧ (1 ≤ (([5, 255, 3, 7, 0, 0, 1, 2, 9, 9, 9, 9, 8, 8, 8, 8] : List Byte)).length) ∧ ((([5, 255, 3, 7, 0, 0, 1, 2, 9, 9, 9, 9, 8, 8, 8, 8] : List Byte)).length ≤ 8192) ∧ ((([5, 255, 3, 7, 0, 0, 1, 2, 9, 9, 9, 9, 8, 8, 8, 8] : List Byte)).length % 8 = 0) ∧ ((({ (selv).p SLV_STATUS SLV_STATUS_LINK_UP 1 |>.p SLV_PROT_STATUS SLV_PROT_STATUS_STATE 2 with slv := { selv.slv with protMask := 16 }, pch := [(5, { (default : Pch) with protHeld := true })] } : State).protState = 1 ∨ ({ (selv).p SLV_STATUS SLV_STATUS_LINK_UP 1 |>.p SLV_PROT_STATUS SLV_PROT_STATUS_STATE 2 with slv := { selv.slv with protMask := 16 }, pch := [(5, { (default : Pch) with protHeld := true })] } : State).protState = 2)) ∧ ((([5, 255, 3, 7, 0, 0, 1, 2, 9, 9, 9, 9, 8, 8, 8, 8] : List Byte)).length = 16) ∧ ((64 ≤ ((([5, 255, 3, 7, 0, 0, 1, 2, 9, 9, 9, 9, 8, 8, 8, 8] : List Byte)).getD 0 0).toNat ∨ ({ (selv).p SLV_STATUS SLV_STATUS_LINK_UP 1 |>.p SLV_PROT_STATUS SLV_PROT_STATUS_STATE 2 with slv := { selv.slv with protMask := 16 }, pch := [(5, { (default : Pch) with protHeld := true })] } : State).protected_ ((([5, 255, 3, 7, 0, 0, 1, 2, 9, 9, 9, 9, 8, 8, 8, 8] : List Byte)).getD 0 0).toNat = false)) := by decide +kernel
theorem wit_SelvedgeLinkHeartbeatsAndMessages_svMessage_c31 : (({ (selv).p SLV_STATUS SLV_STATUS_LINK_UP 1 |>.p SLV_PROT_STATUS SLV_PROT_STATUS_STATE 3 with slv := { selv.slv with protMask := 32 } } : State).on SLV_STATUS SLV_STATUS_LINK_UP = true) ∧ (({ (selv).p SLV_STATUS SLV_STATUS_LINK_UP 1 |>.p SLV_PROT_STATUS SLV_PROT_STATUS_STATE 3 with slv := { selv.slv with protMask := 32 } } : State).slv.rxMsg = none) ∧ (unstripe ((1 : Fin 4)) ((List.replicate 4 (0x2A : BitVec 58))) (((stripe 1 (List.replicate 4 (0x2A : BitVec 58)) (msgBlocks 3 9 [5, 255, 3, 7, 0, 0, 1, 2, 9, 9, 9, 9, 8, 8, 8, 8])).map (·.2))) = msgBlocks 3 (9) (([5, 255, 3, 7, 0, 0, 1, 2, 9, 9, 9, 9, 8, 8, 8, 8] : List Byte))) ∧ (1 ≤ (([5, 255, 3, 7, 0, 0, 1, 2, 9, 9, 9, 9, 8, 8, 8, 8] : List Byte)).length) ∧ ((([5, 255, 3, 7, 0, 0, 1, 2, 9, 9, 9, 9, 8, 8, 8, 8] : List Byte)).length ≤ 8192) ∧ ((([5, 255, 3, 7, 0, 0, 1, 2, 9, 9, 9, 9, 8, 8, 8, 8] : List Byte)).length % 8 = 0) ∧ ((({ (selv).p SLV_STATUS SLV_STATUS_LINK_UP 1 |>.p SLV_PROT_STATUS SLV_PROT_STATUS_STATE 3 with slv := { selv.slv with protMask := 32 } } : State).protState = 0 ∨ ({ (selv).p SLV_STATUS SLV_STATUS_LINK_UP 1 |>.p SLV_PROT_STATUS SLV_PROT_STATUS_STATE 3 with slv := { selv.slv with protMask := 32 } } : State).protState = 3)) := by decide +kernel
theorem wit_SelvedgeLinkHeartbeatsAndMessages_svMessage_c32 : (({ (selv).p SLV_STATUS SLV_STATUS_LINK_UP 1 with slv := { selv.slv with rxMsg := some ⟨3, 2, [1]⟩ } } : State).on SLV_STATUS SLV_STATUS_LINK_UP = true) ∧ (({ (selv).p SLV_STATUS SLV_STATUS_LINK_UP 1 with slv := { selv.slv with rxMsg := some ⟨3, 2, [1]⟩ } } : State).slv.rxMsg = some ((⟨3, 2, [1]⟩ : SvRx))) ∧ (unstripe ((1 : Fin 4)) ((List.replicate 4 (0x2A : BitVec 58))) (((stripe 1 (List.replicate 4 (0x2A : BitVec 58)) [ctlBlock 0x87 [0, 0, 0, 5]]).map (·.2))) = [ctlBlock 0x87 (beBytes 4 ((5 : BitVec 32)).toNat)]) ∧ ((((⟨3, 2, [1]⟩ : SvRx)).count = 0 ∨ 1024 < ((⟨3, 2, [1]⟩ : SvRx)).count ∨ ((⟨3, 2, [1]⟩ : SvRx)).bytes.length ≠ 8 * ((⟨3, 2, [1]⟩ : SvRx)).count ∨ crc32 ((⟨3, 2, [1]⟩ : SvRx)).bytes ≠ ((5 : BitVec 32)))) := by decide +kernel
theorem wit_SelvedgeLinkHeartbeatsAndMessages_svMessage_c32_w1 : (({ (selv).p SLV_STATUS SLV_STATUS_LINK_UP 1 with slv := { selv.slv with rxMsg := some ⟨0x41, 1, [1, 2, 3, 4, 5, 6, 7, 8]⟩ } } : State).on SLV_STATUS SLV_STATUS_LINK_UP = true) ∧ (({ (selv).p SLV_STATUS SLV_STATUS_LINK_UP 1 with slv := { selv.slv with rxMsg := some ⟨0x41, 1, [1, 2, 3, 4, 5, 6, 7, 8]⟩ } } : State).slv.rxMsg = some ((⟨0x41, 1, [1, 2, 3, 4, 5, 6, 7, 8]⟩ : SvRx))) ∧ (unstripe ((1 : Fin 4)) ((List.replicate 4 (0x2A : BitVec 58))) (((stripe 1 (List.replicate 4 (0x2A : BitVec 58)) [ctlBlock 0x87 [0, 0, 0, 5]]).map (·.2))) = [ctlBlock 0x87 (beBytes 4 ((5 : BitVec 32)).toNat)]) ∧ ((((⟨0x41, 1, [1, 2, 3, 4, 5, 6, 7, 8]⟩ : SvRx)).count = 0 ∨ 1024 < ((⟨0x41, 1, [1, 2, 3, 4, 5, 6, 7, 8]⟩ : SvRx)).count ∨ ((⟨0x41, 1, [1, 2, 3, 4, 5, 6, 7, 8]⟩ : SvRx)).bytes.length ≠ 8 * ((⟨0x41, 1, [1, 2, 3, 4, 5, 6, 7, 8]⟩ : SvRx)).count ∨ crc32 ((⟨0x41, 1, [1, 2, 3, 4, 5, 6, 7, 8]⟩ : SvRx)).bytes ≠ ((5 : BitVec 32)))) := by decide +kernel
theorem wit_SelvedgeLinkHeartbeatsAndMessages_svMessage_c33 : (({ (selv) with slv := { selv.slv with hbSeq := 3 } } : State).on SLV_STATUS SLV_STATUS_LINK_UP = false) := by decide +kernel
theorem wit_SelvedgeLinkHeartbeatsAndMessages_slvMbxSend_c34 : (({ (selv).p SLV_STATUS SLV_STATUS_LINK_UP 1 with slv := { selv.slv with hbSeq := 3 } } : State).reaches (Agent.hpb) SLV_MBX_TX_CTL = true) ∧ ((0x80000100#32).getLsbD 31 = true) ∧ (¬ (({ (selv).p SLV_STATUS SLV_STATUS_LINK_UP 1 with slv := { selv.slv with hbSeq := 3 } } : State).on SLV_STATUS SLV_STATUS_LINK_UP = false ∨ ({ (selv).p SLV_STATUS SLV_STATUS_LINK_UP 1 with slv := { selv.slv with hbSeq := 3 } } : State).slv.mbxBusy.any (fun e => decide (e.1 = agCode (Agent.hpb))) = true ∨ ((({ (selv).p SLV_STATUS SLV_STATUS_LINK_UP 1 with slv := { selv.slv with hbSeq := 3 } } : State).wrMask (akey (agCode (Agent.hpb)) SLV_MBX_TX_CTL) (rwBits SLV_MBX_TX_CTL) (0x80000100#32)).g (akey (agCode (Agent.hpb)) SLV_MBX_TX_CTL) SLV_MBX_TX_CTL_LEN) = 0 ∨ 256 < ((({ (selv).p SLV_STATUS SLV_STATUS_LINK_UP 1 with slv := { selv.slv with hbSeq := 3 } } : State).wrMask (akey (agCode (Agent.hpb)) SLV_MBX_TX_CTL) (rwBits SLV_MBX_TX_CTL) (0x80000100#32)).g (akey (agCode (Agent.hpb)) SLV_MBX_TX_CTL) SLV_MBX_TX_CTL_LEN))) := by decide +kernel
theorem wit_SelvedgeLinkHeartbeatsAndMessages_slvMbxSend_c35 : (({ (selv).p SLV_STATUS SLV_STATUS_LINK_UP 1 with slv := { selv.slv with hbSeq := 3 } } : State).reaches (Agent.hpb) SLV_MBX_TX_CTL = true) ∧ ((0x80000101#32).getLsbD 31 = true) ∧ ((({ (selv).p SLV_STATUS SLV_STATUS_LINK_UP 1 with slv := { selv.slv with hbSeq := 3 } } : State).on SLV_STATUS SLV_STATUS_LINK_UP = false ∨ ({ (selv).p SLV_STATUS SLV_STATUS_LINK_UP 1 with slv := { selv.slv with hbSeq := 3 } } : State).slv.mbxBusy.any (fun e => decide (e.1 = agCode (Agent.hpb))) = true ∨ ((({ (selv).p SLV_STATUS SLV_STATUS_LINK_UP 1 with slv := { selv.slv with hbSeq := 3 } } : State).wrMask (akey (agCode (Agent.hpb)) SLV_MBX_TX_CTL) (rwBits SLV_MBX_TX_CTL) (0x80000101#32)).g (akey (agCode (Agent.hpb)) SLV_MBX_TX_CTL) SLV_MBX_TX_CTL_LEN) = 0 ∨ 256 < ((({ (selv).p SLV_STATUS SLV_STATUS_LINK_UP 1 with slv := { selv.slv with hbSeq := 3 } } : State).wrMask (akey (agCode (Agent.hpb)) SLV_MBX_TX_CTL) (rwBits SLV_MBX_TX_CTL) (0x80000101#32)).g (akey (agCode (Agent.hpb)) SLV_MBX_TX_CTL) SLV_MBX_TX_CTL_LEN))) := by decide +kernel
theorem wit_SelvedgeLinkHeartbeatsAndMessages_slvMbxSend_c35_w1 : (({ (selv).p SLV_STATUS SLV_STATUS_LINK_UP 1 with slv := { selv.slv with hbSeq := 3 } } : State).reaches (Agent.hpb) SLV_MBX_TX_CTL = true) ∧ ((0x80000000#32).getLsbD 31 = true) ∧ ((({ (selv).p SLV_STATUS SLV_STATUS_LINK_UP 1 with slv := { selv.slv with hbSeq := 3 } } : State).on SLV_STATUS SLV_STATUS_LINK_UP = false ∨ ({ (selv).p SLV_STATUS SLV_STATUS_LINK_UP 1 with slv := { selv.slv with hbSeq := 3 } } : State).slv.mbxBusy.any (fun e => decide (e.1 = agCode (Agent.hpb))) = true ∨ ((({ (selv).p SLV_STATUS SLV_STATUS_LINK_UP 1 with slv := { selv.slv with hbSeq := 3 } } : State).wrMask (akey (agCode (Agent.hpb)) SLV_MBX_TX_CTL) (rwBits SLV_MBX_TX_CTL) (0x80000000#32)).g (akey (agCode (Agent.hpb)) SLV_MBX_TX_CTL) SLV_MBX_TX_CTL_LEN) = 0 ∨ 256 < ((({ (selv).p SLV_STATUS SLV_STATUS_LINK_UP 1 with slv := { selv.slv with hbSeq := 3 } } : State).wrMask (akey (agCode (Agent.hpb)) SLV_MBX_TX_CTL) (rwBits SLV_MBX_TX_CTL) (0x80000000#32)).g (akey (agCode (Agent.hpb)) SLV_MBX_TX_CTL) SLV_MBX_TX_CTL_LEN))) := by decide +kernel
theorem wit_SelvedgeLinkHeartbeatsAndMessages_slvMbxSend_c35_w2 : (({ (selv) with slv := { selv.slv with hbSeq := 3 } } : State).reaches (Agent.hpb) SLV_MBX_TX_CTL = true) ∧ ((0x80000001#32).getLsbD 31 = true) ∧ ((({ (selv) with slv := { selv.slv with hbSeq := 3 } } : State).on SLV_STATUS SLV_STATUS_LINK_UP = false ∨ ({ (selv) with slv := { selv.slv with hbSeq := 3 } } : State).slv.mbxBusy.any (fun e => decide (e.1 = agCode (Agent.hpb))) = true ∨ ((({ (selv) with slv := { selv.slv with hbSeq := 3 } } : State).wrMask (akey (agCode (Agent.hpb)) SLV_MBX_TX_CTL) (rwBits SLV_MBX_TX_CTL) (0x80000001#32)).g (akey (agCode (Agent.hpb)) SLV_MBX_TX_CTL) SLV_MBX_TX_CTL_LEN) = 0 ∨ 256 < ((({ (selv) with slv := { selv.slv with hbSeq := 3 } } : State).wrMask (akey (agCode (Agent.hpb)) SLV_MBX_TX_CTL) (rwBits SLV_MBX_TX_CTL) (0x80000001#32)).g (akey (agCode (Agent.hpb)) SLV_MBX_TX_CTL) SLV_MBX_TX_CTL_LEN))) := by decide +kernel
theorem wit_SelvedgeLinkHeartbeatsAndMessages_slvMbxSend_c35_w3 : (({ (selv).p SLV_STATUS SLV_STATUS_LINK_UP 1 with slv := { selv.slv with mbxBusy := [(1, [])] } } : State).reaches (Agent.hpb) SLV_MBX_TX_CTL = true) ∧ ((0x80000001#32).getLsbD 31 = true) ∧ ((({ (selv).p SLV_STATUS SLV_STATUS_LINK_UP 1 with slv := { selv.slv with mbxBusy := [(1, [])] } } : State).on SLV_STATUS SLV_STATUS_LINK_UP = false ∨ ({ (selv).p SLV_STATUS SLV_STATUS_LINK_UP 1 with slv := { selv.slv with mbxBusy := [(1, [])] } } : State).slv.mbxBusy.any (fun e => decide (e.1 = agCode (Agent.hpb))) = true ∨ ((({ (selv).p SLV_STATUS SLV_STATUS_LINK_UP 1 with slv := { selv.slv with mbxBusy := [(1, [])] } } : State).wrMask (akey (agCode (Agent.hpb)) SLV_MBX_TX_CTL) (rwBits SLV_MBX_TX_CTL) (0x80000001#32)).g (akey (agCode (Agent.hpb)) SLV_MBX_TX_CTL) SLV_MBX_TX_CTL_LEN) = 0 ∨ 256 < ((({ (selv).p SLV_STATUS SLV_STATUS_LINK_UP 1 with slv := { selv.slv with mbxBusy := [(1, [])] } } : State).wrMask (akey (agCode (Agent.hpb)) SLV_MBX_TX_CTL) (rwBits SLV_MBX_TX_CTL) (0x80000001#32)).g (akey (agCode (Agent.hpb)) SLV_MBX_TX_CTL) SLV_MBX_TX_CTL_LEN))) := by decide +kernel
theorem wit_SelvedgeLinkHeartbeatsAndMessages_slvMbxPop : (({ (selv).p SLV_STATUS SLV_STATUS_LINK_UP 1 with slv := { selv.slv with mbx := [[1], [2]] } } : State).reaches (Agent.hpb) SLV_MBX_RX_CTL = true) ∧ ((0x40000000#32).getLsbD 30 = true) := by decide +kernel
theorem wit_SelvedgeLinkHeartbeatsAndMessages_protRecordSend_c39 : (({ (selv).p SLV_STATUS SLV_STATUS_LINK_UP 1 |>.p SLV_PROT_STATUS SLV_PROT_STATUS_STATE 3 with slv := { selv.slv with protMask := 0x60 } } : State).on SLV_STATUS SLV_STATUS_LINK_UP = true) ∧ ((({ (selv).p SLV_STATUS SLV_STATUS_LINK_UP 1 |>.p SLV_PROT_STATUS SLV_PROT_STATUS_STATE 3 with slv := { selv.slv with protMask := 0x60 } } : State).protState = 3 ∨ (({ (selv).p SLV_STATUS SLV_STATUS_LINK_UP 1 |>.p SLV_PROT_STATUS SLV_PROT_STATUS_STATE 3 with slv := { selv.slv with protMask := 0x60 } } : State).protState ≠ 0 ∧ ((2 : Fin 64)).val = 1))) ∧ ((if ((2 : Fin 64)).val = 1 then ({ (selv).p SLV_STATUS SLV_STATUS_LINK_UP 1 |>.p SLV_PROT_STATUS SLV_PROT_STATUS_STATE 3 with slv := { selv.slv with protMask := 0x60 } } : State).recordOf 1 0 else (([5, 6] : List Nat)).flatMap (fun k => ({ (selv).p SLV_STATUS SLV_STATUS_LINK_UP 1 |>.p SLV_PROT_STATUS SLV_PROT_STATUS_STATE 3 with slv := { selv.slv with protMask := 0x60 } } : State).recordOf ((2 : Fin 64)) k)) ≠ []) := by decide +kernel
theorem wit_SelvedgeLinkHeartbeatsAndMessages_protRecordSend_c39_w1 : (({ (selv).p SLV_STATUS SLV_STATUS_LINK_UP 1 |>.p SLV_PROT_STATUS SLV_PROT_STATUS_STATE 2 with slv := { selv.slv with protMask := 0x60 } } : State).on SLV_STATUS SLV_STATUS_LINK_UP = true) ∧ ((({ (selv).p SLV_STATUS SLV_STATUS_LINK_UP 1 |>.p SLV_PROT_STATUS SLV_PROT_STATUS_STATE 2 with slv := { selv.slv with protMask := 0x60 } } : State).protState = 3 ∨ (({ (selv).p SLV_STATUS SLV_STATUS_LINK_UP 1 |>.p SLV_PROT_STATUS SLV_PROT_STATUS_STATE 2 with slv := { selv.slv with protMask := 0x60 } } : State).protState ≠ 0 ∧ ((1 : Fin 64)).val = 1))) ∧ ((if ((1 : Fin 64)).val = 1 then ({ (selv).p SLV_STATUS SLV_STATUS_LINK_UP 1 |>.p SLV_PROT_STATUS SLV_PROT_STATUS_STATE 2 with slv := { selv.slv with protMask := 0x60 } } : State).recordOf 1 0 else (([5, 6] : List Nat)).flatMap (fun k => ({ (selv).p SLV_STATUS SLV_STATUS_LINK_UP 1 |>.p SLV_PROT_STATUS SLV_PROT_STATUS_STATE 2 with slv := { selv.slv with protMask := 0x60 } } : State).recordOf ((1 : Fin 64)) k)) ≠ []) := by decide +kernel
theorem wit_SelvedgeLinkHeartbeatsAndMessages_protRecordSend_c40 : ((({ (selv).p SLV_STATUS SLV_STATUS_LINK_UP 1 |>.p SLV_PROT_STATUS SLV_PROT_STATUS_STATE 2 with slv := { selv.slv with protMask := 0x60 } } : State).on SLV_STATUS SLV_STATUS_LINK_UP = false ∨ ({ (selv).p SLV_STATUS SLV_STATUS_LINK_UP 1 |>.p SLV_PROT_STATUS SLV_PROT_STATUS_STATE 2 with slv := { selv.slv with protMask := 0x60 } } : State).protState = 0 ∨ (({ (selv).p SLV_STATUS SLV_STATUS_LINK_UP 1 |>.p SLV_PROT_STATUS SLV_PROT_STATUS_STATE 2 with slv := { selv.slv with protMask := 0x60 } } : State).protState ≠ 3 ∧ ((2 : Fin 64)).val ≠ 1) ∨ (if ((2 : Fin 64)).val = 1 then ({ (selv).p SLV_STATUS SLV_STATUS_LINK_UP 1 |>.p SLV_PROT_STATUS SLV_PROT_STATUS_STATE 2 with slv := { selv.slv with protMask := 0x60 } } : State).recordOf 1 0 else (([5, 6] : List Nat)).flatMap (fun k => ({ (selv).p SLV_STATUS SLV_STATUS_LINK_UP 1 |>.p SLV_PROT_STATUS SLV_PROT_STATUS_STATE 2 with slv := { selv.slv with protMask := 0x60 } } : State).recordOf ((2 : Fin 64)) k)) = [])) := by decide +kernel
theorem wit_SelvedgeLinkHeartbeatsAndMessages_protRecordSend_c40_w1 : ((({ (selv).p SLV_STATUS SLV_STATUS_LINK_UP 1 |>.p SLV_PROT_STATUS SLV_PROT_STATUS_STATE 0 with slv := { selv.slv with protMask := 0x60 } } : State).on SLV_STATUS SLV_STATUS_LINK_UP = false ∨ ({ (selv).p SLV_STATUS SLV_STATUS_LINK_UP 1 |>.p SLV_PROT_STATUS SLV_PROT_STATUS_STATE 0 with slv := { selv.slv with protMask := 0x60 } } : State).protState = 0 ∨ (({ (selv).p SLV_STATUS SLV_STATUS_LINK_UP 1 |>.p SLV_PROT_STATUS SLV_PROT_STATUS_STATE 0 with slv := { selv.slv with protMask := 0x60 } } : State).protState ≠ 3 ∧ ((1 : Fin 64)).val ≠ 1) ∨ (if ((1 : Fin 64)).val = 1 then ({ (selv).p SLV_STATUS SLV_STATUS_LINK_UP 1 |>.p SLV_PROT_STATUS SLV_PROT_STATUS_STATE 0 with slv := { selv.slv with protMask := 0x60 } } : State).recordOf 1 0 else (([5, 6] : List Nat)).flatMap (fun k => ({ (selv).p SLV_STATUS SLV_STATUS_LINK_UP 1 |>.p SLV_PROT_STATUS SLV_PROT_STATUS_STATE 0 with slv := { selv.slv with protMask := 0x60 } } : State).recordOf ((1 : Fin 64)) k)) = [])) := by decide +kernel
theorem wit_SelvedgeLinkHeartbeatsAndMessages_protRecordSend_c40_w2 : ((({ (selv) |>.p SLV_PROT_STATUS SLV_PROT_STATUS_STATE 3 with slv := { selv.slv with protMask := 0x60 } } : State).on SLV_STATUS SLV_STATUS_LINK_UP = false ∨ ({ (selv) |>.p SLV_PROT_STATUS SLV_PROT_STATUS_STATE 3 with slv := { selv.slv with protMask := 0x60 } } : State).protState = 0 ∨ (({ (selv) |>.p SLV_PROT_STATUS SLV_PROT_STATUS_STATE 3 with slv := { selv.slv with protMask := 0x60 } } : State).protState ≠ 3 ∧ ((2 : Fin 64)).val ≠ 1) ∨ (if ((2 : Fin 64)).val = 1 then ({ (selv) |>.p SLV_PROT_STATUS SLV_PROT_STATUS_STATE 3 with slv := { selv.slv with protMask := 0x60 } } : State).recordOf 1 0 else (([5, 6] : List Nat)).flatMap (fun k => ({ (selv) |>.p SLV_PROT_STATUS SLV_PROT_STATUS_STATE 3 with slv := { selv.slv with protMask := 0x60 } } : State).recordOf ((2 : Fin 64)) k)) = [])) := by decide +kernel
theorem wit_SelvedgeLinkHeartbeatsAndMessages_protRecordSend_c40_w3 : ((({ (selv).p SLV_STATUS SLV_STATUS_LINK_UP 1 |>.p SLV_PROT_STATUS SLV_PROT_STATUS_STATE 3 with slv := { selv.slv with protMask := 0x60 } } : State).on SLV_STATUS SLV_STATUS_LINK_UP = false ∨ ({ (selv).p SLV_STATUS SLV_STATUS_LINK_UP 1 |>.p SLV_PROT_STATUS SLV_PROT_STATUS_STATE 3 with slv := { selv.slv with protMask := 0x60 } } : State).protState = 0 ∨ (({ (selv).p SLV_STATUS SLV_STATUS_LINK_UP 1 |>.p SLV_PROT_STATUS SLV_PROT_STATUS_STATE 3 with slv := { selv.slv with protMask := 0x60 } } : State).protState ≠ 3 ∧ ((2 : Fin 64)).val ≠ 1) ∨ (if ((2 : Fin 64)).val = 1 then ({ (selv).p SLV_STATUS SLV_STATUS_LINK_UP 1 |>.p SLV_PROT_STATUS SLV_PROT_STATUS_STATE 3 with slv := { selv.slv with protMask := 0x60 } } : State).recordOf 1 0 else (([7] : List Nat)).flatMap (fun k => ({ (selv).p SLV_STATUS SLV_STATUS_LINK_UP 1 |>.p SLV_PROT_STATUS SLV_PROT_STATUS_STATE 3 with slv := { selv.slv with protMask := 0x60 } } : State).recordOf ((2 : Fin 64)) k)) = [])) := by decide +kernel
theorem wit_ProtectionRolesTakeoverAndHandover_protEnable : (({ (selv).wr SLV_PROT_CH 32 |>.p (PCH_STATUS 5) PCH_STATUS_STATE 1 with slv := { selv.slv with hbSeq := 3 } } : State).reaches (Agent.hpa) SLV_PROT_CTL = true) ∧ (({ (selv).wr SLV_PROT_CH 32 |>.p (PCH_STATUS 5) PCH_STATUS_STATE 1 with slv := { selv.slv with hbSeq := 3 } } : State).on SLV_PROT_CTL SLV_PROT_CTL_EN = false) ∧ ((({ (selv).wr SLV_PROT_CH 32 |>.p (PCH_STATUS 5) PCH_STATUS_STATE 1 with slv := { selv.slv with hbSeq := 3 } } : State).wrRW SLV_PROT_CTL (0x80000000#32)).on SLV_PROT_CTL SLV_PROT_CTL_EN = true) ∧ ((0x80000000#32).getLsbD 29 = false) ∧ ((0x80000000#32).getLsbD 28 = false) := by decide +kernel
theorem wit_ProtectionRolesTakeoverAndHandover_protDisable : (({ (selv).p SLV_PROT_CTL SLV_PROT_CTL_EN 1 |>.p SLV_CTL SLV_CTL_CLAIM 1 |>.p SLV_PROT_STATUS SLV_PROT_STATUS_STATE 3 with slv := { selv.slv with protMask := 32 } } : State).reaches (Agent.hpa) SLV_PROT_CTL = true) ∧ (({ (selv).p SLV_PROT_CTL SLV_PROT_CTL_EN 1 |>.p SLV_CTL SLV_CTL_CLAIM 1 |>.p SLV_PROT_STATUS SLV_PROT_STATUS_STATE 3 with slv := { selv.slv with protMask := 32 } } : State).on SLV_PROT_CTL SLV_PROT_CTL_EN = true) ∧ ((({ (selv).p SLV_PROT_CTL SLV_PROT_CTL_EN 1 |>.p SLV_CTL SLV_CTL_CLAIM 1 |>.p SLV_PROT_STATUS SLV_PROT_STATUS_STATE 3 with slv := { selv.slv with protMask := 32 } } : State).wrRW SLV_PROT_CTL (0#32)).on SLV_PROT_CTL SLV_PROT_CTL_EN = false) ∧ ((0#32).getLsbD 29 = false) ∧ ((0#32).getLsbD 28 = false) := by decide +kernel
theorem wit_ProtectionRolesTakeoverAndHandover_selfMute_c2 : (({ (selv).p SLV_PROT_STATUS SLV_PROT_STATUS_STATE 3 with now := 750008, slv := { selv.slv with protMask := 32, lastLink := some 7 } } : State).protState = 3) ∧ (750000 < ({ (selv).p SLV_PROT_STATUS SLV_PROT_STATUS_STATE 3 with now := 750008, slv := { selv.slv with protMask := 32, lastLink := some 7 } } : State).sinceEntry ({ (selv).p SLV_PROT_STATUS SLV_PROT_STATUS_STATE 3 with now := 750008, slv := { selv.slv with protMask := 32, lastLink := some 7 } } : State).slv.lastLink) ∧ (750000 < ({ (selv).p SLV_PROT_STATUS SLV_PROT_STATUS_STATE 3 with now := 750008, slv := { selv.slv with protMask := 32, lastLink := some 7 } } : State).sinceEntry ({ (selv).p SLV_PROT_STATUS SLV_PROT_STATUS_STATE 3 with now := 750008, slv := { selv.slv with protMask := 32, lastLink := some 7 } } : State).slv.lastPin) := by decide +kernel
theorem wit_ProtectionRolesTakeoverAndHandover_selfMute_c3 : ((({ (selv).p SLV_PROT_STATUS SLV_PROT_STATUS_STATE 3 with now := 750007, slv := { selv.slv with protMask := 32, lastLink := some 7 } } : State).protState ≠ 3 ∨ ({ (selv).p SLV_PROT_STATUS SLV_PROT_STATUS_STATE 3 with now := 750007, slv := { selv.slv with protMask := 32, lastLink := some 7 } } : State).sinceEntry ({ (selv).p SLV_PROT_STATUS SLV_PROT_STATUS_STATE 3 with now := 750007, slv := { selv.slv with protMask := 32, lastLink := some 7 } } : State).slv.lastLink ≤ 750000 ∨ ({ (selv).p SLV_PROT_STATUS SLV_PROT_STATUS_STATE 3 with now := 750007, slv := { selv.slv with protMask := 32, lastLink := some 7 } } : State).sinceEntry ({ (selv).p SLV_PROT_STATUS SLV_PROT_STATUS_STATE 3 with now := 750007, slv := { selv.slv with protMask := 32, lastLink := some 7 } } : State).slv.lastPin ≤ 750000)) := by decide +kernel
theorem wit_ProtectionRolesTakeoverAndHandover_takeover_c4 : (({ (selv).p SLV_PROT_STATUS SLV_PROT_STATUS_STATE 2 with now := 1000008, slv := { selv.slv with protMask := 32, lastActive := some 7 } } : State).protState = 2) ∧ (1000000 < ({ (selv).p SLV_PROT_STATUS SLV_PROT_STATUS_STATE 2 with now := 1000008, slv := { selv.slv with protMask := 32, lastActive := some 7 } } : State).sinceEntry ({ (selv).p SLV_PROT_STATUS SLV_PROT_STATUS_STATE 2 with now := 1000008, slv := { selv.slv with protMask := 32, lastActive := some 7 } } : State).slv.lastActive) ∧ (({ (selv).p SLV_PROT_STATUS SLV_PROT_STATUS_STATE 2 with now := 1000008, slv := { selv.slv with protMask := 32, lastActive := some 7 } } : State).safe = false) ∧ (({ (selv).p SLV_PROT_STATUS SLV_PROT_STATUS_STATE 2 with now := 1000008, slv := { selv.slv with protMask := 32, lastActive := some 7 } } : State).coasting = false) := by decide +kernel
theorem wit_ProtectionRolesTakeoverAndHandover_takeover_c5 : ((({ (selv).p SLV_PROT_STATUS SLV_PROT_STATUS_STATE 2 with now := 1000007, slv := { selv.slv with protMask := 32, lastActive := some 7 } } : State).protState ≠ 2 ∨ ({ (selv).p SLV_PROT_STATUS SLV_PROT_STATUS_STATE 2 with now := 1000007, slv := { selv.slv with protMask := 32, lastActive := some 7 } } : State).sinceEntry ({ (selv).p SLV_PROT_STATUS SLV_PROT_STATUS_STATE 2 with now := 1000007, slv := { selv.slv with protMask := 32, lastActive := some 7 } } : State).slv.lastActive ≤ 1000000 ∨ ({ (selv).p SLV_PROT_STATUS SLV_PROT_STATUS_STATE 2 with now := 1000007, slv := { selv.slv with protMask := 32, lastActive := some 7 } } : State).safe = true ∨ ({ (selv).p SLV_PROT_STATUS SLV_PROT_STATUS_STATE 2 with now := 1000007, slv := { selv.slv with protMask := 32, lastActive := some 7 } } : State).coasting = true)) := by decide +kernel
theorem wit_ProtectionRolesTakeoverAndHandover_claimEnd_c6 : (({ (selv).p SLV_CTL SLV_CTL_CLAIM 1 with slv := { selv.slv with hbSeq := 3 } } : State).on SLV_CTL SLV_CTL_CLAIM = true) ∧ (({ (selv).p SLV_CTL SLV_CTL_CLAIM 1 with slv := { selv.slv with hbSeq := 3 } } : State).slv.claimEnd ≤ ({ (selv).p SLV_CTL SLV_CTL_CLAIM 1 with slv := { selv.slv with hbSeq := 3 } } : State).now) := by decide +kernel
theorem wit_ProtectionRolesTakeoverAndHandover_claimEnd_c7 : ((({ (selv).p SLV_CTL SLV_CTL_CLAIM 1 with slv := { selv.slv with claimEnd := 5 } } : State).on SLV_CTL SLV_CTL_CLAIM = false ∨ ({ (selv).p SLV_CTL SLV_CTL_CLAIM 1 with slv := { selv.slv with claimEnd := 5 } } : State).now < ({ (selv).p SLV_CTL SLV_CTL_CLAIM 1 with slv := { selv.slv with claimEnd := 5 } } : State).slv.claimEnd)) := by decide +kernel
theorem wit_ProtectionRolesTakeoverAndHandover_standbySelftest_c8 : (({ (selv).p SLV_PROT_STATUS SLV_PROT_STATUS_STATE 2 with slv := { selv.slv with bistNext := 15 } } : State).protState = 2) := by decide +kernel
theorem wit_ProtectionRolesTakeoverAndHandover_standbySelftest_c8_w1 : (({ (selv).p SLV_PROT_STATUS SLV_PROT_STATUS_STATE 2 with slv := { selv.slv with bistNext := 15 } } : State).protState = 2) := by decide +kernel
theorem wit_ProtectionRolesTakeoverAndHandover_standbySelftest_c9 : (({ (selv).p SLV_PROT_STATUS SLV_PROT_STATUS_STATE 3 with slv := { selv.slv with bistNext := 15 } } : State).protState ≠ 2) := by decide +kernel
theorem wit_ProtectionRolesTakeoverAndHandover_healthReport_c10 : (({ (selv).p SLV_PROT_STATUS SLV_PROT_STATUS_STATE 2 with slv := { selv.slv with loopOk := 3 } } : State).protState ≠ 0) := by decide +kernel
theorem wit_ProtectionRolesTakeoverAndHandover_healthReport_c10_w1 : (({ (selv).p SLV_STATUS SLV_STATUS_LINK_UP 1 |>.p SLV_PROT_STATUS SLV_PROT_STATUS_STATE 2 with slv := { selv.slv with msgSeq := 65535 } } : State).protState ≠ 0) := by decide +kernel
theorem wit_ProtectionRolesTakeoverAndHandover_healthReport_c11 : ((awake [13] : State).protState = 0) := by decide +kernel
theorem wit_ProtectionRolesTakeoverAndHandover_protSwitch : (({ (selv).p SLV_PROT_CTL SLV_PROT_CTL_EN 1 |>.p SLV_PROT_STATUS SLV_PROT_STATUS_STATE 3 with slv := { selv.slv with hbSeq := 3 } } : State).reaches (Agent.hpa) SLV_PROT_CTL = true) ∧ (({ (selv).p SLV_PROT_CTL SLV_PROT_CTL_EN 1 |>.p SLV_PROT_STATUS SLV_PROT_STATUS_STATE 3 with slv := { selv.slv with hbSeq := 3 } } : State).on SLV_PROT_CTL SLV_PROT_CTL_EN = true) ∧ ((({ (selv).p SLV_PROT_CTL SLV_PROT_CTL_EN 1 |>.p SLV_PROT_STATUS SLV_PROT_STATUS_STATE 3 with slv := { selv.slv with hbSeq := 3 } } : State).wrRW SLV_PROT_CTL (0xA0000000#32)).on SLV_PROT_CTL SLV_PROT_CTL_EN = true) ∧ ((0xA0000000#32).getLsbD 29 = true) ∧ ((0xA0000000#32).getLsbD 28 = false) ∧ (({ (selv).p SLV_PROT_CTL SLV_PROT_CTL_EN 1 |>.p SLV_PROT_STATUS SLV_PROT_STATUS_STATE 3 with slv := { selv.slv with hbSeq := 3 } } : State).protState = 3) ∧ (({ (selv).p SLV_PROT_CTL SLV_PROT_CTL_EN 1 |>.p SLV_PROT_STATUS SLV_PROT_STATUS_STATE 3 with slv := { selv.slv with hbSeq := 3 } } : State).slv.hand = none) := by decide +kernel
theorem wit_ProtectionRolesTakeoverAndHandover_protSwitch_w1 : (({ (selv).p SLV_STATUS SLV_STATUS_LINK_UP 1 |>.p SLV_PROT_CTL SLV_PROT_CTL_EN 1 |>.p SLV_PROT_STATUS SLV_PROT_STATUS_STATE 3 with slv := { selv.slv with hbSeq := 3 } } : State).reaches (Agent.hpa) SLV_PROT_CTL = true) ∧ (({ (selv).p SLV_STATUS SLV_STATUS_LINK_UP 1 |>.p SLV_PROT_CTL SLV_PROT_CTL_EN 1 |>.p SLV_PROT_STATUS SLV_PROT_STATUS_STATE 3 with slv := { selv.slv with hbSeq := 3 } } : State).on SLV_PROT_CTL SLV_PROT_CTL_EN = true) ∧ ((({ (selv).p SLV_STATUS SLV_STATUS_LINK_UP 1 |>.p SLV_PROT_CTL SLV_PROT_CTL_EN 1 |>.p SLV_PROT_STATUS SLV_PROT_STATUS_STATE 3 with slv := { selv.slv with hbSeq := 3 } } : State).wrRW SLV_PROT_CTL (0xA0000000#32)).on SLV_PROT_CTL SLV_PROT_CTL_EN = true) ∧ ((0xA0000000#32).getLsbD 29 = true) ∧ ((0xA0000000#32).getLsbD 28 = false) ∧ (({ (selv).p SLV_STATUS SLV_STATUS_LINK_UP 1 |>.p SLV_PROT_CTL SLV_PROT_CTL_EN 1 |>.p SLV_PROT_STATUS SLV_PROT_STATUS_STATE 3 with slv := { selv.slv with hbSeq := 3 } } : State).protState = 3) ∧ (({ (selv).p SLV_STATUS SLV_STATUS_LINK_UP 1 |>.p SLV_PROT_CTL SLV_PROT_CTL_EN 1 |>.p SLV_PROT_STATUS SLV_PROT_STATUS_STATE 3 with slv := { selv.slv with hbSeq := 3 } } : State).slv.hand = none) := by decide +kernel
theorem wit_ProtectionRolesTakeoverAndHandover_protTake_c13 : (({ (selv).p SLV_PROT_CTL SLV_PROT_CTL_EN 1 |>.p SLV_PROT_STATUS SLV_PROT_STATUS_STATE 2 with now := 1000007, slv := { selv.slv with protMask := 32, lastActive := some 7 } } : State).reaches (Agent.hpa) SLV_PROT_CTL = true) ∧ (({ (selv).p SLV_PROT_CTL SLV_PROT_CTL_EN 1 |>.p SLV_PROT_STATUS SLV_PROT_STATUS_STATE 2 with now := 1000007, slv := { selv.slv with protMask := 32, lastActive := some 7 } } : State).on SLV_PROT_CTL SLV_PROT_CTL_EN = true) ∧ ((({ (selv).p SLV_PROT_CTL SLV_PROT_CTL_EN 1 |>.p SLV_PROT_STATUS SLV_PROT_STATUS_STATE 2 with now := 1000007, slv := { selv.slv with protMask := 32, lastActive := some 7 } } : State).wrRW SLV_PROT_CTL (0x90000003#32)).on SLV_PROT_CTL SLV_PROT_CTL_EN = true) ∧ ((0x90000003#32).getLsbD 29 = false) ∧ ((0x90000003#32).getLsbD 28 = true) ∧ ((({ (selv).p SLV_PROT_CTL SLV_PROT_CTL_EN 1 |>.p SLV_PROT_STATUS SLV_PROT_STATUS_STATE 2 with now := 1000007, slv := { selv.slv with protMask := 32, lastActive := some 7 } } : State).protState = 1 ∨ ({ (selv).p SLV_PROT_CTL SLV_PROT_CTL_EN 1 |>.p SLV_PROT_STATUS SLV_PROT_STATUS_STATE 2 with now := 1000007, slv := { selv.slv with protMask := 32, lastActive := some 7 } } : State).protState = 2)) ∧ (((({ (selv).p SLV_PROT_CTL SLV_PROT_CTL_EN 1 |>.p SLV_PROT_STATUS SLV_PROT_STATUS_STATE 2 with now := 1000007, slv := { selv.slv with protMask := 32, lastActive := some 7 } } : State).slv.lastActive.any (fun k => decide (({ (selv).p SLV_PROT_CTL SLV_PROT_CTL_EN 1 |>.p SLV_PROT_STATUS SLV_PROT_STATUS_STATE 2 with now := 1000007, slv := { selv.slv with protMask := 32, lastActive := some 7 } } : State).now - k < 1000000))) = false ∨ (({ (selv).p SLV_PROT_CTL SLV_PROT_CTL_EN 1 |>.p SLV_PROT_STATUS SLV_PROT_STATUS_STATE 2 with now := 1000007, slv := { selv.slv with protMask := 32, lastActive := some 7 } } : State).wrRW SLV_PROT_CTL (0x90000003#32)).on SLV_PROT_CTL SLV_PROT_CTL_FORCE = true)) := by decide +kernel
theorem wit_ProtectionRolesTakeoverAndHandover_protTake_c13_w1 : (({ (selv).p SLV_PROT_CTL SLV_PROT_CTL_EN 1 |>.p SLV_PROT_STATUS SLV_PROT_STATUS_STATE 2 with now := 1000006, slv := { selv.slv with protMask := 32, lastActive := some 7 } } : State).reaches (Agent.hpa) SLV_PROT_CTL = true) ∧ (({ (selv).p SLV_PROT_CTL SLV_PROT_CTL_EN 1 |>.p SLV_PROT_STATUS SLV_PROT_STATUS_STATE 2 with now := 1000006, slv := { selv.slv with protMask := 32, lastActive := some 7 } } : State).on SLV_PROT_CTL SLV_PROT_CTL_EN = true) ∧ ((({ (selv).p SLV_PROT_CTL SLV_PROT_CTL_EN 1 |>.p SLV_PROT_STATUS SLV_PROT_STATUS_STATE 2 with now := 1000006, slv := { selv.slv with protMask := 32, lastActive := some 7 } } : State).wrRW SLV_PROT_CTL (0x98000003#32)).on SLV_PROT_CTL SLV_PROT_CTL_EN = true) ∧ ((0x98000003#32).getLsbD 29 = false) ∧ ((0x98000003#32).getLsbD 28 = true) ∧ ((({ (selv).p SLV_PROT_CTL SLV_PROT_CTL_EN 1 |>.p SLV_PROT_STATUS SLV_PROT_STATUS_STATE 2 with now := 1000006, slv := { selv.slv with protMask := 32, lastActive := some 7 } } : State).protState = 1 ∨ ({ (selv).p SLV_PROT_CTL SLV_PROT_CTL_EN 1 |>.p SLV_PROT_STATUS SLV_PROT_STATUS_STATE 2 with now := 1000006, slv := { selv.slv with protMask := 32, lastActive := some 7 } } : State).protState = 2)) ∧ (((({ (selv).p SLV_PROT_CTL SLV_PROT_CTL_EN 1 |>.p SLV_PROT_STATUS SLV_PROT_STATUS_STATE 2 with now := 1000006, slv := { selv.slv with protMask := 32, lastActive := some 7 } } : State).slv.lastActive.any (fun k => decide (({ (selv).p SLV_PROT_CTL SLV_PROT_CTL_EN 1 |>.p SLV_PROT_STATUS SLV_PROT_STATUS_STATE 2 with now := 1000006, slv := { selv.slv with protMask := 32, lastActive := some 7 } } : State).now - k < 1000000))) = false ∨ (({ (selv).p SLV_PROT_CTL SLV_PROT_CTL_EN 1 |>.p SLV_PROT_STATUS SLV_PROT_STATUS_STATE 2 with now := 1000006, slv := { selv.slv with protMask := 32, lastActive := some 7 } } : State).wrRW SLV_PROT_CTL (0x98000003#32)).on SLV_PROT_CTL SLV_PROT_CTL_FORCE = true)) := by decide +kernel
theorem wit_ProtectionRolesTakeoverAndHandover_protTake_c14 : (({ (selv).p SLV_PROT_CTL SLV_PROT_CTL_EN 1 |>.p SLV_PROT_STATUS SLV_PROT_STATUS_STATE 2 with now := 1000006, slv := { selv.slv with protMask := 32, lastActive := some 7 } } : State).reaches (Agent.hpa) SLV_PROT_CTL = true) ∧ (({ (selv).p SLV_PROT_CTL SLV_PROT_CTL_EN 1 |>.p SLV_PROT_STATUS SLV_PROT_STATUS_STATE 2 with now := 1000006, slv := { selv.slv with protMask := 32, lastActive := some 7 } } : State).on SLV_PROT_CTL SLV_PROT_CTL_EN = true) ∧ ((({ (selv).p SLV_PROT_CTL SLV_PROT_CTL_EN 1 |>.p SLV_PROT_STATUS SLV_PROT_STATUS_STATE 2 with now := 1000006, slv := { selv.slv with protMask := 32, lastActive := some 7 } } : State).wrRW SLV_PROT_CTL (0x90000003#32)).on SLV_PROT_CTL SLV_PROT_CTL_EN = true) ∧ ((0x90000003#32).getLsbD 29 = false) ∧ ((0x90000003#32).getLsbD 28 = true) ∧ ((({ (selv).p SLV_PROT_CTL SLV_PROT_CTL_EN 1 |>.p SLV_PROT_STATUS SLV_PROT_STATUS_STATE 2 with now := 1000006, slv := { selv.slv with protMask := 32, lastActive := some 7 } } : State).protState = 1 ∨ ({ (selv).p SLV_PROT_CTL SLV_PROT_CTL_EN 1 |>.p SLV_PROT_STATUS SLV_PROT_STATUS_STATE 2 with now := 1000006, slv := { selv.slv with protMask := 32, lastActive := some 7 } } : State).protState = 2)) ∧ ((({ (selv).p SLV_PROT_CTL SLV_PROT_CTL_EN 1 |>.p SLV_PROT_STATUS SLV_PROT_STATUS_STATE 2 with now := 1000006, slv := { selv.slv with protMask := 32, lastActive := some 7 } } : State).slv.lastActive.any (fun k => decide (({ (selv).p SLV_PROT_CTL SLV_PROT_CTL_EN 1 |>.p SLV_PROT_STATUS SLV_PROT_STATUS_STATE 2 with now := 1000006, slv := { selv.slv with protMask := 32, lastActive := some 7 } } : State).now - k < 1000000))) = true) ∧ ((({ (selv).p SLV_PROT_CTL SLV_PROT_CTL_EN 1 |>.p SLV_PROT_STATUS SLV_PROT_STATUS_STATE 2 with now := 1000006, slv := { selv.slv with protMask := 32, lastActive := some 7 } } : State).wrRW SLV_PROT_CTL (0x90000003#32)).on SLV_PROT_CTL SLV_PROT_CTL_FORCE = false) := by decide +kernel
theorem wit_ProtectionRolesTakeoverAndHandover_handoverExecute_c15 : (({ (selv).p SLV_PROT_STATUS SLV_PROT_STATUS_STATE 3 with tim := { (awake []).tim with ns := 375000 }, slv := { selv.slv with protMask := 32, hand := some (3, true, true) } } : State).slv.hand = some ((3), true, true)) ∧ ((3) * 125000 ≤ ({ (selv).p SLV_PROT_STATUS SLV_PROT_STATUS_STATE 3 with tim := { (awake []).tim with ns := 375000 }, slv := { selv.slv with protMask := 32, hand := some (3, true, true) } } : State).devNs) := by decide +kernel
theorem wit_ProtectionRolesTakeoverAndHandover_handoverExecute_c16 : (({ (selv).p SLV_PROT_STATUS SLV_PROT_STATUS_STATE 2 with tim := { (awake []).tim with ns := 375000 }, slv := { selv.slv with protMask := 32, hand := some (3, false, true) } } : State).slv.hand = some ((3), false, true)) ∧ ((3) * 125000 ≤ ({ (selv).p SLV_PROT_STATUS SLV_PROT_STATUS_STATE 2 with tim := { (awake []).tim with ns := 375000 }, slv := { selv.slv with protMask := 32, hand := some (3, false, true) } } : State).devNs) := by decide +kernel
theorem wit_ProtectionRolesTakeoverAndHandover_handoverTimeout_c17 : (({ (selv).p SLV_PROT_STATUS SLV_PROT_STATUS_STATE 3 with tim := { (awake []).tim with ns := 375000 }, slv := { selv.slv with hand := some (5, true, false) } } : State).slv.hand = some ((5), true, false)) ∧ (((5) - 2) * 125000 ≤ ({ (selv).p SLV_PROT_STATUS SLV_PROT_STATUS_STATE 3 with tim := { (awake []).tim with ns := 375000 }, slv := { selv.slv with hand := some (5, true, false) } } : State).devNs) := by decide +kernel
theorem wit_ProtectionRolesTakeoverAndHandover_handoverTimeout_c18 : (({ (selv).p SLV_PROT_STATUS SLV_PROT_STATUS_STATE 3 with tim := { (awake []).tim with ns := 375000 }, slv := { selv.slv with hand := some (6, true, false) } } : State).slv.hand = some ((6), true, false)) ∧ (({ (selv).p SLV_PROT_STATUS SLV_PROT_STATUS_STATE 3 with tim := { (awake []).tim with ns := 375000 }, slv := { selv.slv with hand := some (6, true, false) } } : State).devNs < ((6) - 2) * 125000) := by decide +kernel
theorem wit_ProtectionRolesTakeoverAndHandover_handoverExecute_c19 : (({ (selv).p SLV_PROT_STATUS SLV_PROT_STATUS_STATE 3 with tim := { (awake []).tim with ns := 375000 }, slv := { selv.slv with hand := some (3, true, false) } } : State).slv.hand.any (fun h => h.2.2 && decide (h.1 * 125000 ≤ ({ (selv).p SLV_PROT_STATUS SLV_PROT_STATUS_STATE 3 with tim := { (awake []).tim with ns := 375000 }, slv := { selv.slv with hand := some (3, true, false) } } : State).devNs)) = false) := by decide +kernel
theorem wit_ProtectionRolesTakeoverAndHandover_handoverExecute_c19_w1 : (({ (selv).p SLV_PROT_STATUS SLV_PROT_STATUS_STATE 3 with tim := { (awake []).tim with ns := 375000 }, slv := { selv.slv with hand := some (4, true, true) } } : State).slv.hand.any (fun h => h.2.2 && decide (h.1 * 125000 ≤ ({ (selv).p SLV_PROT_STATUS SLV_PROT_STATUS_STATE 3 with tim := { (awake []).tim with ns := 375000 }, slv := { selv.slv with hand := some (4, true, true) } } : State).devNs)) = false) := by decide +kernel
theorem wit_ProtectionRolesTakeoverAndHandover_handoverExecute_c19_w2 : (({ (selv).p SLV_PROT_STATUS SLV_PROT_STATUS_STATE 3 with tim := { (awake []).tim with ns := 375000 }, slv := { selv.slv with hand := none } } : State).slv.hand.any (fun h => h.2.2 && decide (h.1 * 125000 ≤ ({ (selv).p SLV_PROT_STATUS SLV_PROT_STATUS_STATE 3 with tim := { (awake []).tim with ns := 375000 }, slv := { selv.slv with hand := none } } : State).devNs)) = false) := by decide +kernel
theorem wit_ProtectionRolesTakeoverAndHandover_iprotSwitch_c20 : (({ (awake [13, 14, 37, 38, 101, 102]).wr (SLV_IPROT 3) 0xC0000605 |>.p (PCH_STATUS 5) PCH_STATUS_STATE 2 |>.wr (SHD_ALLOC 5 7 + 4) 0x99 |>.p (PCH_DEFECT 5) PCH_DEFECT_LOS_LIVE 1 with pch := [(6, { (default : Pch) with protHeld := true })] } : State).on (SLV_IPROT ((3 : Fin 16))) SLV_IPROT_EN = true) ∧ (({ (awake [13, 14, 37, 38, 101, 102]).wr (SLV_IPROT 3) 0xC0000605 |>.p (PCH_STATUS 5) PCH_STATUS_STATE 2 |>.wr (SHD_ALLOC 5 7 + 4) 0x99 |>.p (PCH_DEFECT 5) PCH_DEFECT_LOS_LIVE 1 with pch := [(6, { (default : Pch) with protHeld := true })] } : State).on (SLV_IPROT ((3 : Fin 16))) SLV_IPROT_AUTO = true) ∧ (({ (awake [13, 14, 37, 38, 101, 102]).wr (SLV_IPROT 3) 0xC0000605 |>.p (PCH_STATUS 5) PCH_STATUS_STATE 2 |>.wr (SHD_ALLOC 5 7 + 4) 0x99 |>.p (PCH_DEFECT 5) PCH_DEFECT_LOS_LIVE 1 with pch := [(6, { (default : Pch) with protHeld := true })] } : State).on (SLV_IPROT ((3 : Fin 16))) SLV_IPROT_ON_PROT = false) ∧ ((({ (awake [13, 14, 37, 38, 101, 102]).wr (SLV_IPROT 3) 0xC0000605 |>.p (PCH_STATUS 5) PCH_STATUS_STATE 2 |>.wr (SHD_ALLOC 5 7 + 4) 0x99 |>.p (PCH_DEFECT 5) PCH_DEFECT_LOS_LIVE 1 with pch := [(6, { (default : Pch) with protHeld := true })] } : State).on (PCH_DEFECT (({ (awake [13, 14, 37, 38, 101, 102]).wr (SLV_IPROT 3) 0xC0000605 |>.p (PCH_STATUS 5) PCH_STATUS_STATE 2 |>.wr (SHD_ALLOC 5 7 + 4) 0x99 |>.p (PCH_DEFECT 5) PCH_DEFECT_LOS_LIVE 1 with pch := [(6, { (default : Pch) with protHeld := true })] } : State).g (SLV_IPROT ((3 : Fin 16))) SLV_IPROT_WORK)) PCH_DEFECT_LOS_LIVE = true ∨ ({ (awake [13, 14, 37, 38, 101, 102]).wr (SLV_IPROT 3) 0xC0000605 |>.p (PCH_STATUS 5) PCH_STATUS_STATE 2 |>.wr (SHD_ALLOC 5 7 + 4) 0x99 |>.p (PCH_DEFECT 5) PCH_DEFECT_LOS_LIVE 1 with pch := [(6, { (default : Pch) with protHeld := true })] } : State).on (PCH_DEFECT (({ (awake [13, 14, 37, 38, 101, 102]).wr (SLV_IPROT 3) 0xC0000605 |>.p (PCH_STATUS 5) PCH_STATUS_STATE 2 |>.wr (SHD_ALLOC 5 7 + 4) 0x99 |>.p (PCH_DEFECT 5) PCH_DEFECT_LOS_LIVE 1 with pch := [(6, { (default : Pch) with protHeld := true })] } : State).g (SLV_IPROT ((3 : Fin 16))) SLV_IPROT_WORK)) PCH_DEFECT_LOL_LIVE = true ∨ ({ (awake [13, 14, 37, 38, 101, 102]).wr (SLV_IPROT 3) 0xC0000605 |>.p (PCH_STATUS 5) PCH_STATUS_STATE 2 |>.wr (SHD_ALLOC 5 7 + 4) 0x99 |>.p (PCH_DEFECT 5) PCH_DEFECT_LOS_LIVE 1 with pch := [(6, { (default : Pch) with protHeld := true })] } : State).on (PCH_DEFECT (({ (awake [13, 14, 37, 38, 101, 102]).wr (SLV_IPROT 3) 0xC0000605 |>.p (PCH_STATUS 5) PCH_STATUS_STATE 2 |>.wr (SHD_ALLOC 5 7 + 4) 0x99 |>.p (PCH_DEFECT 5) PCH_DEFECT_LOS_LIVE 1 with pch := [(6, { (default : Pch) with protHeld := true })] } : State).g (SLV_IPROT ((3 : Fin 16))) SLV_IPROT_WORK)) PCH_DEFECT_TXF_LIVE = true ∨ ({ (awake [13, 14, 37, 38, 101, 102]).wr (SLV_IPROT 3) 0xC0000605 |>.p (PCH_STATUS 5) PCH_STATUS_STATE 2 |>.wr (SHD_ALLOC 5 7 + 4) 0x99 |>.p (PCH_DEFECT 5) PCH_DEFECT_LOS_LIVE 1 with pch := [(6, { (default : Pch) with protHeld := true })] } : State).chState (({ (awake [13, 14, 37, 38, 101, 102]).wr (SLV_IPROT 3) 0xC0000605 |>.p (PCH_STATUS 5) PCH_STATUS_STATE 2 |>.wr (SHD_ALLOC 5 7 + 4) 0x99 |>.p (PCH_DEFECT 5) PCH_DEFECT_LOS_LIVE 1 with pch := [(6, { (default : Pch) with protHeld := true })] } : State).g (SLV_IPROT ((3 : Fin 16))) SLV_IPROT_WORK) = 4)) := by decide +kernel
theorem wit_ProtectionRolesTakeoverAndHandover_iprotSwitch_c21 : (({ (awake [13, 14, 37, 38, 101, 102]).wr (SLV_IPROT 3) 0xC0000605 |>.p (PCH_STATUS 5) PCH_STATUS_STATE 2 |>.wr (SHD_ALLOC 5 7 + 4) 0x99 with pch := [(6, { (default : Pch) with protHeld := true })] } : State).reaches (Agent.hpa) (SLV_IPROT ((3 : Fin 16))) = true) ∧ (({ (awake [13, 14, 37, 38, 101, 102]).wr (SLV_IPROT 3) 0xC0000605 |>.p (PCH_STATUS 5) PCH_STATUS_STATE 2 |>.wr (SHD_ALLOC 5 7 + 4) 0x99 with pch := [(6, { (default : Pch) with protHeld := true })] } : State).on (SLV_IPROT ((3 : Fin 16))) SLV_IPROT_EN = true) ∧ ((({ (awake [13, 14, 37, 38, 101, 102]).wr (SLV_IPROT 3) 0xC0000605 |>.p (PCH_STATUS 5) PCH_STATUS_STATE 2 |>.wr (SHD_ALLOC 5 7 + 4) 0x99 with pch := [(6, { (default : Pch) with protHeld := true })] } : State).wrRW (SLV_IPROT ((3 : Fin 16))) (0xA0000605#32)).on (SLV_IPROT ((3 : Fin 16))) SLV_IPROT_EN = true) ∧ ((({ (awake [13, 14, 37, 38, 101, 102]).wr (SLV_IPROT 3) 0xC0000605 |>.p (PCH_STATUS 5) PCH_STATUS_STATE 2 |>.wr (SHD_ALLOC 5 7 + 4) 0x99 with pch := [(6, { (default : Pch) with protHeld := true })] } : State).wrRW (SLV_IPROT ((3 : Fin 16))) (0xA0000605#32)).g (SLV_IPROT ((3 : Fin 16))) SLV_IPROT_WORK = ({ (awake [13, 14, 37, 38, 101, 102]).wr (SLV_IPROT 3) 0xC0000605 |>.p (PCH_STATUS 5) PCH_STATUS_STATE 2 |>.wr (SHD_ALLOC 5 7 + 4) 0x99 with pch := [(6, { (default : Pch) with protHeld := true })] } : State).g (SLV_IPROT ((3 : Fin 16))) SLV_IPROT_WORK) ∧ ((({ (awake [13, 14, 37, 38, 101, 102]).wr (SLV_IPROT 3) 0xC0000605 |>.p (PCH_STATUS 5) PCH_STATUS_STATE 2 |>.wr (SHD_ALLOC 5 7 + 4) 0x99 with pch := [(6, { (default : Pch) with protHeld := true })] } : State).wrRW (SLV_IPROT ((3 : Fin 16))) (0xA0000605#32)).g (SLV_IPROT ((3 : Fin 16))) SLV_IPROT_PROT = ({ (awake [13, 14, 37, 38, 101, 102]).wr (SLV_IPROT 3) 0xC0000605 |>.p (PCH_STATUS 5) PCH_STATUS_STATE 2 |>.wr (SHD_ALLOC 5 7 + 4) 0x99 with pch := [(6, { (default : Pch) with protHeld := true })] } : State).g (SLV_IPROT ((3 : Fin 16))) SLV_IPROT_PROT) ∧ ((0xA0000605#32).getLsbD 29 = true) := by decide +kernel
theorem wit_ProtectionRolesTakeoverAndHandover_iprotSwitch_c22 : ((awake [13] : State).reaches (Agent.hpa) (SLV_IPROT ((3 : Fin 16))) = true) ∧ ((awake [13] : State).on (SLV_IPROT ((3 : Fin 16))) SLV_IPROT_EN = false) ∧ (((awake [13] : State).wrRW (SLV_IPROT ((3 : Fin 16))) (0xA0000505#32)).on (SLV_IPROT ((3 : Fin 16))) SLV_IPROT_EN = true) ∧ (((awake [13] : State).wrRW (SLV_IPROT ((3 : Fin 16))) (0xA0000505#32)).iprotOk ((3 : Fin 16)) = false) := by decide +kernel
theorem wit_ProtectionRolesTakeoverAndHandover_iprotSwitch_c23 : (((awake [13, 37, 38]).p (PCH_STATUS 6) PCH_STATUS_STATE 1 |>.wr (PCH_EQ 6 4) 0x80000001 : State).reaches (Agent.hpa) (SLV_IPROT ((3 : Fin 16))) = true) ∧ (((awake [13, 37, 38]).p (PCH_STATUS 6) PCH_STATUS_STATE 1 |>.wr (PCH_EQ 6 4) 0x80000001 : State).on (SLV_IPROT ((3 : Fin 16))) SLV_IPROT_EN = false) ∧ ((((awake [13, 37, 38]).p (PCH_STATUS 6) PCH_STATUS_STATE 1 |>.wr (PCH_EQ 6 4) 0x80000001 : State).wrRW (SLV_IPROT ((3 : Fin 16))) (0x80000605#32)).on (SLV_IPROT ((3 : Fin 16))) SLV_IPROT_EN = true) ∧ ((((awake [13, 37, 38]).p (PCH_STATUS 6) PCH_STATUS_STATE 1 |>.wr (PCH_EQ 6 4) 0x80000001 : State).wrRW (SLV_IPROT ((3 : Fin 16))) (0x80000605#32)).iprotOk ((3 : Fin 16)) = true) ∧ ((0x80000605#32).getLsbD 29 = false) ∧ (((awake [13, 37, 38]).p (PCH_STATUS 6) PCH_STATUS_STATE 1 |>.wr (PCH_EQ 6 4) 0x80000001 : State).chState ((((awake [13, 37, 38]).p (PCH_STATUS 6) PCH_STATUS_STATE 1 |>.wr (PCH_EQ 6 4) 0x80000001 : State).wrRW (SLV_IPROT ((3 : Fin 16))) (0x80000605#32)).g (SLV_IPROT ((3 : Fin 16))) SLV_IPROT_PROT) = 1) := by decide +kernel
theorem wit_ProtectionRolesTakeoverAndHandover_iprotSwitch_c24 : ((({ (awake [13, 14, 37, 38, 101, 102]).wr (SLV_IPROT 3) 0xC0000605 |>.p (PCH_STATUS 5) PCH_STATUS_STATE 2 |>.wr (SHD_ALLOC 5 7 + 4) 0x99 with pch := [(6, { (default : Pch) with protHeld := true })] } : State).on (SLV_IPROT ((3 : Fin 16))) SLV_IPROT_EN = false ∨ ({ (awake [13, 14, 37, 38, 101, 102]).wr (SLV_IPROT 3) 0xC0000605 |>.p (PCH_STATUS 5) PCH_STATUS_STATE 2 |>.wr (SHD_ALLOC 5 7 + 4) 0x99 with pch := [(6, { (default : Pch) with protHeld := true })] } : State).on (SLV_IPROT ((3 : Fin 16))) SLV_IPROT_AUTO = false ∨ ({ (awake [13, 14, 37, 38, 101, 102]).wr (SLV_IPROT 3) 0xC0000605 |>.p (PCH_STATUS 5) PCH_STATUS_STATE 2 |>.wr (SHD_ALLOC 5 7 + 4) 0x99 with pch := [(6, { (default : Pch) with protHeld := true })] } : State).on (SLV_IPROT ((3 : Fin 16))) SLV_IPROT_ON_PROT = true ∨ ¬ (({ (awake [13, 14, 37, 38, 101, 102]).wr (SLV_IPROT 3) 0xC0000605 |>.p (PCH_STATUS 5) PCH_STATUS_STATE 2 |>.wr (SHD_ALLOC 5 7 + 4) 0x99 with pch := [(6, { (default : Pch) with protHeld := true })] } : State).on (PCH_DEFECT (({ (awake [13, 14, 37, 38, 101, 102]).wr (SLV_IPROT 3) 0xC0000605 |>.p (PCH_STATUS 5) PCH_STATUS_STATE 2 |>.wr (SHD_ALLOC 5 7 + 4) 0x99 with pch := [(6, { (default : Pch) with protHeld := true })] } : State).g (SLV_IPROT ((3 : Fin 16))) SLV_IPROT_WORK)) PCH_DEFECT_LOS_LIVE = true ∨ ({ (awake [13, 14, 37, 38, 101, 102]).wr (SLV_IPROT 3) 0xC0000605 |>.p (PCH_STATUS 5) PCH_STATUS_STATE 2 |>.wr (SHD_ALLOC 5 7 + 4) 0x99 with pch := [(6, { (default : Pch) with protHeld := true })] } : State).on (PCH_DEFECT (({ (awake [13, 14, 37, 38, 101, 102]).wr (SLV_IPROT 3) 0xC0000605 |>.p (PCH_STATUS 5) PCH_STATUS_STATE 2 |>.wr (SHD_ALLOC 5 7 + 4) 0x99 with pch := [(6, { (default : Pch) with protHeld := true })] } : State).g (SLV_IPROT ((3 : Fin 16))) SLV_IPROT_WORK)) PCH_DEFECT_LOL_LIVE = true ∨ ({ (awake [13, 14, 37, 38, 101, 102]).wr (SLV_IPROT 3) 0xC0000605 |>.p (PCH_STATUS 5) PCH_STATUS_STATE 2 |>.wr (SHD_ALLOC 5 7 + 4) 0x99 with pch := [(6, { (default : Pch) with protHeld := true })] } : State).on (PCH_DEFECT (({ (awake [13, 14, 37, 38, 101, 102]).wr (SLV_IPROT 3) 0xC0000605 |>.p (PCH_STATUS 5) PCH_STATUS_STATE 2 |>.wr (SHD_ALLOC 5 7 + 4) 0x99 with pch := [(6, { (default : Pch) with protHeld := true })] } : State).g (SLV_IPROT ((3 : Fin 16))) SLV_IPROT_WORK)) PCH_DEFECT_TXF_LIVE = true ∨ ({ (awake [13, 14, 37, 38, 101, 102]).wr (SLV_IPROT 3) 0xC0000605 |>.p (PCH_STATUS 5) PCH_STATUS_STATE 2 |>.wr (SHD_ALLOC 5 7 + 4) 0x99 with pch := [(6, { (default : Pch) with protHeld := true })] } : State).chState (({ (awake [13, 14, 37, 38, 101, 102]).wr (SLV_IPROT 3) 0xC0000605 |>.p (PCH_STATUS 5) PCH_STATUS_STATE 2 |>.wr (SHD_ALLOC 5 7 + 4) 0x99 with pch := [(6, { (default : Pch) with protHeld := true })] } : State).g (SLV_IPROT ((3 : Fin 16))) SLV_IPROT_WORK) = 4))) := by decide +kernel
theorem wit_ServiceRequestsAreAnsweredOnce_svcRequestSubmit_c0 : (({ (svcWait 0 0 []).wr (akey 1 (SHU_SVC_REQ 2)) 0x00300101 with shu := { (svcWait 0 0 []).shu with svc := [] } } : State).reaches (Agent.hpb) (SHU_SVC_REQ ((2 : Fin 16)) + 28) = true) ∧ (agCode (Agent.hpb) < 3) ∧ (({ (svcWait 0 0 []).wr (akey 1 (SHU_SVC_REQ 2)) 0x00300101 with shu := { (svcWait 0 0 []).shu with svc := [] } } : State).svcOf ((2 : Fin 16)) (agCode (Agent.hpb)) = none) ∧ (({ (svcWait 0 0 []).wr (akey 1 (SHU_SVC_REQ 2)) 0x00300101 with shu := { (svcWait 0 0 []).shu with svc := [] } } : State).svcDown ((2 : Fin 16)) (bget (((List.range 8).map (fun i => (({ (svcWait 0 0 []).wr (akey 1 (SHU_SVC_REQ 2)) 0x00300101 with shu := { (svcWait 0 0 []).shu with svc := [] } } : State).wr (akey (agCode (Agent.hpb)) (SHU_SVC_REQ ((2 : Fin 16)) + 28)) (77#32)).rd (akey (agCode (Agent.hpb)) (SHU_SVC_REQ ((2 : Fin 16)) + 4 * i)))).headD 0) 20 4) = false) := by decide +kernel
theorem wit_ServiceRequestsAreAnsweredOnce_svcRequestSubmit_c1 : (({ (svcWait 0 0 []).wr (akey 1 (SHU_SVC_REQ 2)) 0x00300101 with shu := { (svcWait 0 0 []).shu with svc := [(9, some default)] } } : State).reaches (Agent.hpb) (SHU_SVC_REQ ((2 : Fin 16)) + 28) = true) ∧ (agCode (Agent.hpb) < 3) ∧ (({ (svcWait 0 0 []).wr (akey 1 (SHU_SVC_REQ 2)) 0x00300101 with shu := { (svcWait 0 0 []).shu with svc := [(9, some default)] } } : State).svcOf ((2 : Fin 16)) (agCode (Agent.hpb)) ≠ none) := by decide +kernel
theorem wit_ServiceRequestsAreAnsweredOnce_svcRequestSubmit_c2 : (({ (svcWait 0 0 []).wr (akey 1 (SHU_SVC_REQ 2)) 0x00400101 with shu := { (svcWait 0 0 []).shu with svc := [] } } : State).reaches (Agent.hpb) (SHU_SVC_REQ ((2 : Fin 16)) + 28) = true) ∧ (agCode (Agent.hpb) < 3) ∧ (({ (svcWait 0 0 []).wr (akey 1 (SHU_SVC_REQ 2)) 0x00400101 with shu := { (svcWait 0 0 []).shu with svc := [] } } : State).svcOf ((2 : Fin 16)) (agCode (Agent.hpb)) = none) ∧ (({ (svcWait 0 0 []).wr (akey 1 (SHU_SVC_REQ 2)) 0x00400101 with shu := { (svcWait 0 0 []).shu with svc := [] } } : State).svcDown ((2 : Fin 16)) (bget (((List.range 8).map (fun i => (({ (svcWait 0 0 []).wr (akey 1 (SHU_SVC_REQ 2)) 0x00400101 with shu := { (svcWait 0 0 []).shu with svc := [] } } : State).wr (akey (agCode (Agent.hpb)) (SHU_SVC_REQ ((2 : Fin 16)) + 28)) (77#32)).rd (akey (agCode (Agent.hpb)) (SHU_SVC_REQ ((2 : Fin 16)) + 4 * i)))).headD 0) 20 4) = true) := by decide +kernel
theorem wit_ServiceRequestsAreAnsweredOnce_svcAnswer_c3 : (((svcWait 1 0 []) : State).svcOf ((2 : Fin 16)) ((1 : Fin 3)) = some ((svcR 1 []))) ∧ (((svcWait 1 0 []) : State).svcDown ((2 : Fin 16)) ((svcR 1 [])).role = false) ∧ ((svcKind ((svcR 1 [])).code = none ∨ svcKind ((svcR 1 [])).code = some 8 ∨ svcKind ((svcR 1 [])).code = some (((svcWait 1 0 []) : State).g (SHU_MAP ((2 : Fin 16)) ((svcR 1 [])).role) SHU_MAP_KIND))) := by decide +kernel
theorem wit_ServiceRequestsAreAnsweredOnce_svcAnswer_c3_w1 : (((svcWait 0x101 1 []) : State).svcOf ((2 : Fin 16)) ((1 : Fin 3)) = some ((svcR 0x101 []))) ∧ (((svcWait 0x101 1 []) : State).svcDown ((2 : Fin 16)) ((svcR 0x101 [])).role = false) ∧ ((svcKind ((svcR 0x101 [])).code = none ∨ svcKind ((svcR 0x101 [])).code = some 8 ∨ svcKind ((svcR 0x101 [])).code = some (((svcWait 0x101 1 []) : State).g (SHU_MAP ((2 : Fin 16)) ((svcR 0x101 [])).role) SHU_MAP_KIND))) := by decide +kernel
theorem wit_ServiceRequestsAreAnsweredOnce_svcAnswer_c3_w2 : (((svcWait 0x777 4 []) : State).svcOf ((2 : Fin 16)) ((1 : Fin 3)) = some ((svcR 0x777 []))) ∧ (((svcWait 0x777 4 []) : State).svcDown ((2 : Fin 16)) ((svcR 0x777 [])).role = false) ∧ ((svcKind ((svcR 0x777 [])).code = none ∨ svcKind ((svcR 0x777 [])).code = some 8 ∨ svcKind ((svcR 0x777 [])).code = some (((svcWait 0x777 4 []) : State).g (SHU_MAP ((2 : Fin 16)) ((svcR 0x777 [])).role) SHU_MAP_KIND))) := by decide +kernel
theorem wit_ServiceRequestsAreAnsweredOnce_svcAnswer_c4 : (((svcWait 0x101 0 []) : State).svcOf ((2 : Fin 16)) ((1 : Fin 3)) = some ((svcR 0x101 []))) ∧ (((svcWait 0x101 0 []) : State).svcDown ((2 : Fin 16)) ((svcR 0x101 [])).role = false) ∧ (¬ (svcKind ((svcR 0x101 [])).code = none ∨ svcKind ((svcR 0x101 [])).code = some 8 ∨ svcKind ((svcR 0x101 [])).code = some (((svcWait 0x101 0 []) : State).g (SHU_MAP ((2 : Fin 16)) ((svcR 0x101 [])).role) SHU_MAP_KIND))) := by decide +kernel
theorem wit_ServiceRequestsAreAnsweredOnce_svcTimeout_c5 : (({ (svcWait 0 0 []).p (SHU_CTL 2) SHU_CTL_SVC_TIMEOUT_MS 3 with now := 3000007 } : State).svcOf ((2 : Fin 16)) ((1 : Fin 3)) = some ((svcR 0 []))) ∧ (((svcR 0 [])).at_ + atLeast1 (({ (svcWait 0 0 []).p (SHU_CTL 2) SHU_CTL_SVC_TIMEOUT_MS 3 with now := 3000007 } : State).g (SHU_CTL ((2 : Fin 16))) SHU_CTL_SVC_TIMEOUT_MS) * 1000000 ≤ ({ (svcWait 0 0 []).p (SHU_CTL 2) SHU_CTL_SVC_TIMEOUT_MS 3 with now := 3000007 } : State).now) := by decide +kernel
theorem wit_ServiceRequestsAreAnsweredOnce_echo : (((svcWait 0 0 [5, 6, 7]) : State).svcOf ((2 : Fin 16)) ((1 : Fin 3)) = some ((svcR 0 [5, 6, 7]))) ∧ (((svcWait 0 0 [5, 6, 7]) : State).svcDown ((2 : Fin 16)) ((svcR 0 [5, 6, 7])).role = false) ∧ (((svcR 0 [5, 6, 7])).code = 0) := by decide +kernel
theorem wit_ServiceRequestsAreAnsweredOnce_version : ((((svcWait 1 0 []).wr (SHU_VER 2 3 + 12) 99) : State).svcOf ((2 : Fin 16)) ((1 : Fin 3)) = some ((svcR 1 []))) ∧ ((((svcWait 1 0 []).wr (SHU_VER 2 3 + 12) 99) : State).svcDown ((2 : Fin 16)) ((svcR 1 [])).role = false) ∧ (((svcR 1 [])).code = 1) := by decide +kernel
theorem wit_ServiceRequestsAreAnsweredOnce_onuEnable_c8 : ((((svcWait 0x101 1 [255]).p (RNG_ONU 5 255) RNG_ONU_STATE 5) : State).svcOf ((2 : Fin 16)) ((1 : Fin 3)) = some ((svcR 0x101 [255]))) ∧ ((((svcWait 0x101 1 [255]).p (RNG_ONU 5 255) RNG_ONU_STATE 5) : State).svcDown ((2 : Fin 16)) ((svcR 0x101 [255])).role = false) ∧ (((svcR 0x101 [255])).code = 0x101) ∧ ((((svcWait 0x101 1 [255]).p (RNG_ONU 5 255) RNG_ONU_STATE 5) : State).g (SHU_MAP ((2 : Fin 16)) ((svcR 0x101 [255])).role) SHU_MAP_KIND = 1) ∧ ((((svcWait 0x101 1 [255]).p (RNG_ONU 5 255) RNG_ONU_STATE 5) : State).slotState ((((svcWait 0x101 1 [255]).p (RNG_ONU 5 255) RNG_ONU_STATE 5) : State).svcChan ((2 : Fin 16)) ((svcR 0x101 [255]))) (bget (((svcR 0x101 [255])).w 1) 0 8) = 5) := by decide +kernel
theorem wit_ServiceRequestsAreAnsweredOnce_onuEnable_c9 : ((((svcWait 0x101 1 [255]).p (RNG_ONU 5 255) RNG_ONU_STATE 2) : State).svcOf ((2 : Fin 16)) ((1 : Fin 3)) = some ((svcR 0x101 [255]))) ∧ ((((svcWait 0x101 1 [255]).p (RNG_ONU 5 255) RNG_ONU_STATE 2) : State).svcDown ((2 : Fin 16)) ((svcR 0x101 [255])).role = false) ∧ (((svcR 0x101 [255])).code = 0x101) ∧ ((((svcWait 0x101 1 [255]).p (RNG_ONU 5 255) RNG_ONU_STATE 2) : State).g (SHU_MAP ((2 : Fin 16)) ((svcR 0x101 [255])).role) SHU_MAP_KIND = 1) ∧ ((((svcWait 0x101 1 [255]).p (RNG_ONU 5 255) RNG_ONU_STATE 2) : State).slotState ((((svcWait 0x101 1 [255]).p (RNG_ONU 5 255) RNG_ONU_STATE 2) : State).svcChan ((2 : Fin 16)) ((svcR 0x101 [255]))) (bget (((svcR 0x101 [255])).w 1) 0 8) ≠ 5) := by decide +kernel
theorem wit_ServiceRequestsAreAnsweredOnce_onuDeactivate_c10 : ((((svcWait 0x102 1 [255]).p (RNG_ONU 5 255) RNG_ONU_STATE 2) : State).svcOf ((2 : Fin 16)) ((1 : Fin 3)) = some ((svcR 0x102 [255]))) ∧ ((((svcWait 0x102 1 [255]).p (RNG_ONU 5 255) RNG_ONU_STATE 2) : State).svcDown ((2 : Fin 16)) ((svcR 0x102 [255])).role = false) ∧ (((svcR 0x102 [255])).code = 0x102) ∧ ((((svcWait 0x102 1 [255]).p (RNG_ONU 5 255) RNG_ONU_STATE 2) : State).g (SHU_MAP ((2 : Fin 16)) ((svcR 0x102 [255])).role) SHU_MAP_KIND = 1) ∧ ((((svcWait 0x102 1 [255]).p (RNG_ONU 5 255) RNG_ONU_STATE 2) : State).slotState ((((svcWait 0x102 1 [255]).p (RNG_ONU 5 255) RNG_ONU_STATE 2) : State).svcChan ((2 : Fin 16)) ((svcR 0x102 [255]))) (bget (((svcR 0x102 [255])).w 1) 0 8) ≠ 0) := by decide +kernel
theorem wit_ServiceRequestsAreAnsweredOnce_onuDeactivate_c11 : ((((svcWait 0x102 1 [255]).p (RNG_ONU 5 255) RNG_ONU_STATE 0) : State).svcOf ((2 : Fin 16)) ((1 : Fin 3)) = some ((svcR 0x102 [255]))) ∧ ((((svcWait 0x102 1 [255]).p (RNG_ONU 5 255) RNG_ONU_STATE 0) : State).svcDown ((2 : Fin 16)) ((svcR 0x102 [255])).role = false) ∧ (((svcR 0x102 [255])).code = 0x102) ∧ ((((svcWait 0x102 1 [255]).p (RNG_ONU 5 255) RNG_ONU_STATE 0) : State).g (SHU_MAP ((2 : Fin 16)) ((svcR 0x102 [255])).role) SHU_MAP_KIND = 1) ∧ ((((svcWait 0x102 1 [255]).p (RNG_ONU 5 255) RNG_ONU_STATE 0) : State).slotState ((((svcWait 0x102 1 [255]).p (RNG_ONU 5 255) RNG_ONU_STATE 0) : State).svcChan ((2 : Fin 16)) ((svcR 0x102 [255]))) (bget (((svcR 0x102 [255])).w 1) 0 8) = 0) := by decide +kernel
theorem wit_ServiceRequestsAreAnsweredOnce_onuRerange_c12 : ((((svcWait 0x103 1 [255]).p (RNG_ONU 5 255) RNG_ONU_STATE 2) : State).svcOf ((2 : Fin 16)) ((1 : Fin 3)) = some ((svcR 0x103 [255]))) ∧ ((((svcWait 0x103 1 [255]).p (RNG_ONU 5 255) RNG_ONU_STATE 2) : State).svcDown ((2 : Fin 16)) ((svcR 0x103 [255])).role = false) ∧ (((svcR 0x103 [255])).code = 0x103) ∧ ((((svcWait 0x103 1 [255]).p (RNG_ONU 5 255) RNG_ONU_STATE 2) : State).g (SHU_MAP ((2 : Fin 16)) ((svcR 0x103 [255])).role) SHU_MAP_KIND = 1) ∧ ((((svcWait 0x103 1 [255]).p (RNG_ONU 5 255) RNG_ONU_STATE 2) : State).slotState ((((svcWait 0x103 1 [255]).p (RNG_ONU 5 255) RNG_ONU_STATE 2) : State).svcChan ((2 : Fin 16)) ((svcR 0x103 [255]))) (bget (((svcR 0x103 [255])).w 1) 0 8) = 2) := by decide +kernel
theorem wit_ServiceRequestsAreAnsweredOnce_onuRerange_c13 : ((((svcWait 0x103 1 [255]).p (RNG_ONU 5 255) RNG_ONU_STATE 3) : State).svcOf ((2 : Fin 16)) ((1 : Fin 3)) = some ((svcR 0x103 [255]))) ∧ ((((svcWait 0x103 1 [255]).p (RNG_ONU 5 255) RNG_ONU_STATE 3) : State).svcDown ((2 : Fin 16)) ((svcR 0x103 [255])).role = false) ∧ (((svcR 0x103 [255])).code = 0x103) ∧ ((((svcWait 0x103 1 [255]).p (RNG_ONU 5 255) RNG_ONU_STATE 3) : State).g (SHU_MAP ((2 : Fin 16)) ((svcR 0x103 [255])).role) SHU_MAP_KIND = 1) ∧ ((((svcWait 0x103 1 [255]).p (RNG_ONU 5 255) RNG_ONU_STATE 3) : State).slotState ((((svcWait 0x103 1 [255]).p (RNG_ONU 5 255) RNG_ONU_STATE 3) : State).svcChan ((2 : Fin 16)) ((svcR 0x103 [255]))) (bget (((svcR 0x103 [255])).w 1) 0 8) ≠ 2) := by decide +kernel
theorem wit_ServiceRequestsAreAnsweredOnce_qwNow_c14 : ((((svcWait 0x104 1 []).p (PCH_STATUS 5) PCH_STATUS_STATE 2) : State).svcOf ((2 : Fin 16)) ((1 : Fin 3)) = some ((svcR 0x104 []))) ∧ ((((svcWait 0x104 1 []).p (PCH_STATUS 5) PCH_STATUS_STATE 2) : State).svcDown ((2 : Fin 16)) ((svcR 0x104 [])).role = false) ∧ (((svcR 0x104 [])).code = 0x104) ∧ ((((svcWait 0x104 1 []).p (PCH_STATUS 5) PCH_STATUS_STATE 2) : State).g (SHU_MAP ((2 : Fin 16)) ((svcR 0x104 [])).role) SHU_MAP_KIND = 1) ∧ ((((svcWait 0x104 1 []).p (PCH_STATUS 5) PCH_STATUS_STATE 2) : State).chState ((((svcWait 0x104 1 []).p (PCH_STATUS 5) PCH_STATUS_STATE 2) : State).svcChan ((2 : Fin 16)) ((svcR 0x104 []))) = 2) ∧ ((((svcWait 0x104 1 []).p (PCH_STATUS 5) PCH_STATUS_STATE 2) : State).qwFree ((((svcWait 0x104 1 []).p (PCH_STATUS 5) PCH_STATUS_STATE 2) : State).svcChan ((2 : Fin 16)) ((svcR 0x104 []))) = true) := by decide +kernel
theorem wit_ServiceRequestsAreAnsweredOnce_qwNow_c15 : (((svcWait 0x104 1 []) : State).svcOf ((2 : Fin 16)) ((1 : Fin 3)) = some ((svcR 0x104 []))) ∧ (((svcWait 0x104 1 []) : State).svcDown ((2 : Fin 16)) ((svcR 0x104 [])).role = false) ∧ (((svcR 0x104 [])).code = 0x104) ∧ (((svcWait 0x104 1 []) : State).g (SHU_MAP ((2 : Fin 16)) ((svcR 0x104 [])).role) SHU_MAP_KIND = 1) ∧ ((((svcWait 0x104 1 []) : State).chState (((svcWait 0x104 1 []) : State).svcChan ((2 : Fin 16)) ((svcR 0x104 []))) ≠ 2 ∨ ((svcWait 0x104 1 []) : State).qwFree (((svcWait 0x104 1 []) : State).svcChan ((2 : Fin 16)) ((svcR 0x104 []))) = false)) := by decide +kernel
theorem wit_ServiceRequestsAreAnsweredOnce_qwNow_c15_w1 : ((((svcWait 0x104 1 []).p (PCH_STATUS 5) PCH_STATUS_STATE 2 |>.p (RNG_STATUS 5) RNG_STATUS_LOCATING 1) : State).svcOf ((2 : Fin 16)) ((1 : Fin 3)) = some ((svcR 0x104 []))) ∧ ((((svcWait 0x104 1 []).p (PCH_STATUS 5) PCH_STATUS_STATE 2 |>.p (RNG_STATUS 5) RNG_STATUS_LOCATING 1) : State).svcDown ((2 : Fin 16)) ((svcR 0x104 [])).role = false) ∧ (((svcR 0x104 [])).code = 0x104) ∧ ((((svcWait 0x104 1 []).p (PCH_STATUS 5) PCH_STATUS_STATE 2 |>.p (RNG_STATUS 5) RNG_STATUS_LOCATING 1) : State).g (SHU_MAP ((2 : Fin 16)) ((svcR 0x104 [])).role) SHU_MAP_KIND = 1) ∧ (((((svcWait 0x104 1 []).p (PCH_STATUS 5) PCH_STATUS_STATE 2 |>.p (RNG_STATUS 5) RNG_STATUS_LOCATING 1) : State).chState ((((svcWait 0x104 1 []).p (PCH_STATUS 5) PCH_STATUS_STATE 2 |>.p (RNG_STATUS 5) RNG_STATUS_LOCATING 1) : State).svcChan ((2 : Fin 16)) ((svcR 0x104 []))) ≠ 2 ∨ (((svcWait 0x104 1 []).p (PCH_STATUS 5) PCH_STATUS_STATE 2 |>.p (RNG_STATUS 5) RNG_STATUS_LOCATING 1) : State).qwFree ((((svcWait 0x104 1 []).p (PCH_STATUS 5) PCH_STATUS_STATE 2 |>.p (RNG_STATUS 5) RNG_STATUS_LOCATING 1) : State).svcChan ((2 : Fin 16)) ((svcR 0x104 []))) = false)) := by decide +kernel
theorem wit_ServiceRequestsAreAnsweredOnce_shedState_c16 : (((svcWait 0x201 0 [511]) : State).svcOf ((2 : Fin 16)) ((1 : Fin 3)) = some ((svcR 0x201 [511]))) ∧ (((svcWait 0x201 0 [511]) : State).svcDown ((2 : Fin 16)) ((svcR 0x201 [511])).role = false) ∧ (((svcR 0x201 [511])).code = 0x201) ∧ (((svcWait 0x201 0 [511]) : State).g (SHU_MAP ((2 : Fin 16)) ((svcR 0x201 [511])).role) SHU_MAP_KIND = 0) := by decide +kernel
theorem wit_ServiceRequestsAreAnsweredOnce_omciTx_c17 : (((svcWait 0x401 3 [0, 0, 0, 48]) : State).svcOf ((2 : Fin 16)) ((1 : Fin 3)) = some ((svcR 0x401 [0, 0, 0, 48]))) ∧ (((svcWait 0x401 3 [0, 0, 0, 48]) : State).svcDown ((2 : Fin 16)) ((svcR 0x401 [0, 0, 0, 48])).role = false) ∧ (((svcR 0x401 [0, 0, 0, 48])).code = 0x401) ∧ (((svcWait 0x401 3 [0, 0, 0, 48]) : State).g (SHU_MAP ((2 : Fin 16)) ((svcR 0x401 [0, 0, 0, 48])).role) SHU_MAP_KIND = 3) ∧ (48 ≤ (((svcR 0x401 [0, 0, 0, 48])).w 4).toNat) ∧ ((((svcR 0x401 [0, 0, 0, 48])).w 4).toNat ≤ 1980) := by decide +kernel
theorem wit_ServiceRequestsAreAnsweredOnce_omciTx_c17_w1 : (((svcWait 0x401 3 [0, 0, 0, 1980]) : State).svcOf ((2 : Fin 16)) ((1 : Fin 3)) = some ((svcR 0x401 [0, 0, 0, 1980]))) ∧ (((svcWait 0x401 3 [0, 0, 0, 1980]) : State).svcDown ((2 : Fin 16)) ((svcR 0x401 [0, 0, 0, 1980])).role = false) ∧ (((svcR 0x401 [0, 0, 0, 1980])).code = 0x401) ∧ (((svcWait 0x401 3 [0, 0, 0, 1980]) : State).g (SHU_MAP ((2 : Fin 16)) ((svcR 0x401 [0, 0, 0, 1980])).role) SHU_MAP_KIND = 3) ∧ (48 ≤ (((svcR 0x401 [0, 0, 0, 1980])).w 4).toNat) ∧ ((((svcR 0x401 [0, 0, 0, 1980])).w 4).toNat ≤ 1980) := by decide +kernel
theorem wit_ServiceRequestsAreAnsweredOnce_omciTx_c18 : (((svcWait 0x401 3 [0, 0, 0, 47]) : State).svcOf ((2 : Fin 16)) ((1 : Fin 3)) = some ((svcR 0x401 [0, 0, 0, 47]))) ∧ (((svcWait 0x401 3 [0, 0, 0, 47]) : State).svcDown ((2 : Fin 16)) ((svcR 0x401 [0, 0, 0, 47])).role = false) ∧ (((svcR 0x401 [0, 0, 0, 47])).code = 0x401) ∧ (((svcWait 0x401 3 [0, 0, 0, 47]) : State).g (SHU_MAP ((2 : Fin 16)) ((svcR 0x401 [0, 0, 0, 47])).role) SHU_MAP_KIND = 3) ∧ (((((svcR 0x401 [0, 0, 0, 47])).w 4).toNat < 48 ∨ 1980 < (((svcR 0x401 [0, 0, 0, 47])).w 4).toNat)) := by decide +kernel
theorem wit_ServiceRequestsAreAnsweredOnce_omciTx_c18_w1 : (((svcWait 0x401 3 [0, 0, 0, 1981]) : State).svcOf ((2 : Fin 16)) ((1 : Fin 3)) = some ((svcR 0x401 [0, 0, 0, 1981]))) ∧ (((svcWait 0x401 3 [0, 0, 0, 1981]) : State).svcDown ((2 : Fin 16)) ((svcR 0x401 [0, 0, 0, 1981])).role = false) ∧ (((svcR 0x401 [0, 0, 0, 1981])).code = 0x401) ∧ (((svcWait 0x401 3 [0, 0, 0, 1981]) : State).g (SHU_MAP ((2 : Fin 16)) ((svcR 0x401 [0, 0, 0, 1981])).role) SHU_MAP_KIND = 3) ∧ (((((svcR 0x401 [0, 0, 0, 1981])).w 4).toNat < 48 ∨ 1980 < (((svcR 0x401 [0, 0, 0, 1981])).w 4).toNat)) := by decide +kernel
theorem wit_ServiceRequestsAreAnsweredOnce_omciRing_c19 : ((((svcWait 0x402 3 [0x3000, 1, 16]).p (MEM_STATUS 0) MEM_STATUS_RANKS_PRESENT 1 |>.p (MEM_STATUS 0) MEM_STATUS_TRAINED 1 ) : State).svcOf ((2 : Fin 16)) ((1 : Fin 3)) = some ((svcR 0x402 [0x3000, 1, 16]))) ∧ ((((svcWait 0x402 3 [0x3000, 1, 16]).p (MEM_STATUS 0) MEM_STATUS_RANKS_PRESENT 1 |>.p (MEM_STATUS 0) MEM_STATUS_TRAINED 1 ) : State).svcDown ((2 : Fin 16)) ((svcR 0x402 [0x3000, 1, 16])).role = false) ∧ (((svcR 0x402 [0x3000, 1, 16])).code = 0x402) ∧ ((((svcWait 0x402 3 [0x3000, 1, 16]).p (MEM_STATUS 0) MEM_STATUS_RANKS_PRESENT 1 |>.p (MEM_STATUS 0) MEM_STATUS_TRAINED 1 ) : State).g (SHU_MAP ((2 : Fin 16)) ((svcR 0x402 [0x3000, 1, 16])).role) SHU_MAP_KIND = 3) ∧ (¬ (((((svcR 0x402 [0x3000, 1, 16])).w 1).toNat + 2 ^ 32 * (((svcR 0x402 [0x3000, 1, 16])).w 2).toNat) % 4096 ≠ 0 ∨ (((svcR 0x402 [0x3000, 1, 16])).w 3).toNat < 16 ∨ 65536 < (((svcR 0x402 [0x3000, 1, 16])).w 3).toNat ∨ 2 ^ Nat.log2 (((svcR 0x402 [0x3000, 1, 16])).w 3).toNat ≠ (((svcR 0x402 [0x3000, 1, 16])).w 3).toNat)) ∧ ((((svcWait 0x402 3 [0x3000, 1, 16]).p (MEM_STATUS 0) MEM_STATUS_RANKS_PRESENT 1 |>.p (MEM_STATUS 0) MEM_STATUS_TRAINED 1 ) : State).ddrTrained = true) := by decide +kernel
theorem wit_ServiceRequestsAreAnsweredOnce_omciRing_c19_w1 : ((((svcWait 0x402 3 [0x3000, 1, 65536]).p (MEM_STATUS 0) MEM_STATUS_RANKS_PRESENT 1 |>.p (MEM_STATUS 0) MEM_STATUS_TRAINED 1 ) : State).svcOf ((2 : Fin 16)) ((1 : Fin 3)) = some ((svcR 0x402 [0x3000, 1, 65536]))) ∧ ((((svcWait 0x402 3 [0x3000, 1, 65536]).p (MEM_STATUS 0) MEM_STATUS_RANKS_PRESENT 1 |>.p (MEM_STATUS 0) MEM_STATUS_TRAINED 1 ) : State).svcDown ((2 : Fin 16)) ((svcR 0x402 [0x3000, 1, 65536])).role = false) ∧ (((svcR 0x402 [0x3000, 1, 65536])).code = 0x402) ∧ ((((svcWait 0x402 3 [0x3000, 1, 65536]).p (MEM_STATUS 0) MEM_STATUS_RANKS_PRESENT 1 |>.p (MEM_STATUS 0) MEM_STATUS_TRAINED 1 ) : State).g (SHU_MAP ((2 : Fin 16)) ((svcR 0x402 [0x3000, 1, 65536])).role) SHU_MAP_KIND = 3) ∧ (¬ (((((svcR 0x402 [0x3000, 1, 65536])).w 1).toNat + 2 ^ 32 * (((svcR 0x402 [0x3000, 1, 65536])).w 2).toNat) % 4096 ≠ 0 ∨ (((svcR 0x402 [0x3000, 1, 65536])).w 3).toNat < 16 ∨ 65536 < (((svcR 0x402 [0x3000, 1, 65536])).w 3).toNat ∨ 2 ^ Nat.log2 (((svcR 0x402 [0x3000, 1, 65536])).w 3).toNat ≠ (((svcR 0x402 [0x3000, 1, 65536])).w 3).toNat)) ∧ ((((svcWait 0x402 3 [0x3000, 1, 65536]).p (MEM_STATUS 0) MEM_STATUS_RANKS_PRESENT 1 |>.p (MEM_STATUS 0) MEM_STATUS_TRAINED 1 ) : State).ddrTrained = true) := by decide +kernel
theorem wit_ServiceRequestsAreAnsweredOnce_omciRing_c20 : ((((svcWait 0x402 3 [0x3001, 1, 16]).p (MEM_STATUS 0) MEM_STATUS_RANKS_PRESENT 1 |>.p (MEM_STATUS 0) MEM_STATUS_TRAINED 1 ) : State).svcOf ((2 : Fin 16)) ((1 : Fin 3)) = some ((svcR 0x402 [0x3001, 1, 16]))) ∧ ((((svcWait 0x402 3 [0x3001, 1, 16]).p (MEM_STATUS 0) MEM_STATUS_RANKS_PRESENT 1 |>.p (MEM_STATUS 0) MEM_STATUS_TRAINED 1 ) : State).svcDown ((2 : Fin 16)) ((svcR 0x402 [0x3001, 1, 16])).role = false) ∧ (((svcR 0x402 [0x3001, 1, 16])).code = 0x402) ∧ ((((svcWait 0x402 3 [0x3001, 1, 16]).p (MEM_STATUS 0) MEM_STATUS_RANKS_PRESENT 1 |>.p (MEM_STATUS 0) MEM_STATUS_TRAINED 1 ) : State).g (SHU_MAP ((2 : Fin 16)) ((svcR 0x402 [0x3001, 1, 16])).role) SHU_MAP_KIND = 3) ∧ ((((((svcR 0x402 [0x3001, 1, 16])).w 1).toNat + 2 ^ 32 * (((svcR 0x402 [0x3001, 1, 16])).w 2).toNat) % 4096 ≠ 0 ∨ (((svcR 0x402 [0x3001, 1, 16])).w 3).toNat < 16 ∨ 65536 < (((svcR 0x402 [0x3001, 1, 16])).w 3).toNat ∨ 2 ^ Nat.log2 (((svcR 0x402 [0x3001, 1, 16])).w 3).toNat ≠ (((svcR 0x402 [0x3001, 1, 16])).w 3).toNat)) := by decide +kernel
theorem wit_ServiceRequestsAreAnsweredOnce_omciRing_c20_w1 : ((((svcWait 0x402 3 [0x3000, 1, 8]).p (MEM_STATUS 0) MEM_STATUS_RANKS_PRESENT 1 |>.p (MEM_STATUS 0) MEM_STATUS_TRAINED 1 ) : State).svcOf ((2 : Fin 16)) ((1 : Fin 3)) = some ((svcR 0x402 [0x3000, 1, 8]))) ∧ ((((svcWait 0x402 3 [0x3000, 1, 8]).p (MEM_STATUS 0) MEM_STATUS_RANKS_PRESENT 1 |>.p (MEM_STATUS 0) MEM_STATUS_TRAINED 1 ) : State).svcDown ((2 : Fin 16)) ((svcR 0x402 [0x3000, 1, 8])).role = false) ∧ (((svcR 0x402 [0x3000, 1, 8])).code = 0x402) ∧ ((((svcWait 0x402 3 [0x3000, 1, 8]).p (MEM_STATUS 0) MEM_STATUS_RANKS_PRESENT 1 |>.p (MEM_STATUS 0) MEM_STATUS_TRAINED 1 ) : State).g (SHU_MAP ((2 : Fin 16)) ((svcR 0x402 [0x3000, 1, 8])).role) SHU_MAP_KIND = 3) ∧ ((((((svcR 0x402 [0x3000, 1, 8])).w 1).toNat + 2 ^ 32 * (((svcR 0x402 [0x3000, 1, 8])).w 2).toNat) % 4096 ≠ 0 ∨ (((svcR 0x402 [0x3000, 1, 8])).w 3).toNat < 16 ∨ 65536 < (((svcR 0x402 [0x3000, 1, 8])).w 3).toNat ∨ 2 ^ Nat.log2 (((svcR 0x402 [0x3000, 1, 8])).w 3).toNat ≠ (((svcR 0x402 [0x3000, 1, 8])).w 3).toNat)) := by decide +kernel
theorem wit_ServiceRequestsAreAnsweredOnce_omciRing_c20_w2 : ((((svcWait 0x402 3 [0x3000, 1, 131072]).p (MEM_STATUS 0) MEM_STATUS_RANKS_PRESENT 1 |>.p (MEM_STATUS 0) MEM_STATUS_TRAINED 1 ) : State).svcOf ((2 : Fin 16)) ((1 : Fin 3)) = some ((svcR 0x402 [0x3000, 1, 131072]))) ∧ ((((svcWait 0x402 3 [0x3000, 1, 131072]).p (MEM_STATUS 0) MEM_STATUS_RANKS_PRESENT 1 |>.p (MEM_STATUS 0) MEM_STATUS_TRAINED 1 ) : State).svcDown ((2 : Fin 16)) ((svcR 0x402 [0x3000, 1, 131072])).role = false) ∧ (((svcR 0x402 [0x3000, 1, 131072])).code = 0x402) ∧ ((((svcWait 0x402 3 [0x3000, 1, 131072]).p (MEM_STATUS 0) MEM_STATUS_RANKS_PRESENT 1 |>.p (MEM_STATUS 0) MEM_STATUS_TRAINED 1 ) : State).g (SHU_MAP ((2 : Fin 16)) ((svcR 0x402 [0x3000, 1, 131072])).role) SHU_MAP_KIND = 3) ∧ ((((((svcR 0x402 [0x3000, 1, 131072])).w 1).toNat + 2 ^ 32 * (((svcR 0x402 [0x3000, 1, 131072])).w 2).toNat) % 4096 ≠ 0 ∨ (((svcR 0x402 [0x3000, 1, 131072])).w 3).toNat < 16 ∨ 65536 < (((svcR 0x402 [0x3000, 1, 131072])).w 3).toNat ∨ 2 ^ Nat.log2 (((svcR 0x402 [0x3000, 1, 131072])).w 3).toNat ≠ (((svcR 0x402 [0x3000, 1, 131072])).w 3).toNat)) := by decide +kernel
theorem wit_ServiceRequestsAreAnsweredOnce_omciRing_c20_w3 : ((((svcWait 0x402 3 [0x3000, 1, 24]).p (MEM_STATUS 0) MEM_STATUS_RANKS_PRESENT 1 |>.p (MEM_STATUS 0) MEM_STATUS_TRAINED 1 ) : State).svcOf ((2 : Fin 16)) ((1 : Fin 3)) = some ((svcR 0x402 [0x3000, 1, 24]))) ∧ ((((svcWait 0x402 3 [0x3000, 1, 24]).p (MEM_STATUS 0) MEM_STATUS_RANKS_PRESENT 1 |>.p (MEM_STATUS 0) MEM_STATUS_TRAINED 1 ) : State).svcDown ((2 : Fin 16)) ((svcR 0x402 [0x3000, 1, 24])).role = false) ∧ (((svcR 0x402 [0x3000, 1, 24])).code = 0x402) ∧ ((((svcWait 0x402 3 [0x3000, 1, 24]).p (MEM_STATUS 0) MEM_STATUS_RANKS_PRESENT 1 |>.p (MEM_STATUS 0) MEM_STATUS_TRAINED 1 ) : State).g (SHU_MAP ((2 : Fin 16)) ((svcR 0x402 [0x3000, 1, 24])).role) SHU_MAP_KIND = 3) ∧ ((((((svcR 0x402 [0x3000, 1, 24])).w 1).toNat + 2 ^ 32 * (((svcR 0x402 [0x3000, 1, 24])).w 2).toNat) % 4096 ≠ 0 ∨ (((svcR 0x402 [0x3000, 1, 24])).w 3).toNat < 16 ∨ 65536 < (((svcR 0x402 [0x3000, 1, 24])).w 3).toNat ∨ 2 ^ Nat.log2 (((svcR 0x402 [0x3000, 1, 24])).w 3).toNat ≠ (((svcR 0x402 [0x3000, 1, 24])).w 3).toNat)) := by decide +kernel
theorem wit_ServiceRequestsAreAnsweredOnce_omciRing_c21 : (((svcWait 0x402 3 [0x3000, 1, 16]) : State).svcOf ((2 : Fin 16)) ((1 : Fin 3)) = some ((svcR 0x402 [0x3000, 1, 16]))) ∧ (((svcWait 0x402 3 [0x3000, 1, 16]) : State).svcDown ((2 : Fin 16)) ((svcR 0x402 [0x3000, 1, 16])).role = false) ∧ (((svcR 0x402 [0x3000, 1, 16])).code = 0x402) ∧ (((svcWait 0x402 3 [0x3000, 1, 16]) : State).g (SHU_MAP ((2 : Fin 16)) ((svcR 0x402 [0x3000, 1, 16])).role) SHU_MAP_KIND = 3) ∧ (¬ (((((svcR 0x402 [0x3000, 1, 16])).w 1).toNat + 2 ^ 32 * (((svcR 0x402 [0x3000, 1, 16])).w 2).toNat) % 4096 ≠ 0 ∨ (((svcR 0x402 [0x3000, 1, 16])).w 3).toNat < 16 ∨ 65536 < (((svcR 0x402 [0x3000, 1, 16])).w 3).toNat ∨ 2 ^ Nat.log2 (((svcR 0x402 [0x3000, 1, 16])).w 3).toNat ≠ (((svcR 0x402 [0x3000, 1, 16])).w 3).toNat)) ∧ (((svcWait 0x402 3 [0x3000, 1, 16]) : State).ddrTrained = false) := by decide +kernel
theorem wit_ServiceRequestsAreAnsweredOnce_omciRx_c23 : (((List.replicate 40 3 : List Byte)).length ≤ 2032) ∧ ((((omciPlace : State).shu.ring.look ((2 : Fin 16))).2.1 = 0 ∨ (true) = true ∨ (omciPlace : State).ddrUp = false ∨ (omciPlace : State).isHole (((omciPlace : State).shu.ring.look ((2 : Fin 16))).1 + 2048 * ((omciPlace : State).shu.ring.look ((2 : Fin 16))).2.2.1) = true)) := by decide +kernel
theorem wit_ServiceRequestsAreAnsweredOnce_omciRx_c23_w1 : (((List.replicate 40 3 : List Byte)).length ≤ 2032) ∧ (((({ awake [18] with shu := { (awake []).shu with ring := [(2, (0x3000, 16, 15, 7))] } } : State).shu.ring.look ((2 : Fin 16))).2.1 = 0 ∨ (false) = true ∨ ({ awake [18] with shu := { (awake []).shu with ring := [(2, (0x3000, 16, 15, 7))] } } : State).ddrUp = false ∨ ({ awake [18] with shu := { (awake []).shu with ring := [(2, (0x3000, 16, 15, 7))] } } : State).isHole ((({ awake [18] with shu := { (awake []).shu with ring := [(2, (0x3000, 16, 15, 7))] } } : State).shu.ring.look ((2 : Fin 16))).1 + 2048 * (({ awake [18] with shu := { (awake []).shu with ring := [(2, (0x3000, 16, 15, 7))] } } : State).shu.ring.look ((2 : Fin 16))).2.2.1) = true)) := by decide +kernel
theorem wit_ServiceRequestsAreAnsweredOnce_pmClear_c24 : (((svcWait 0x501 5 [20543]) : State).svcOf ((2 : Fin 16)) ((1 : Fin 3)) = some ((svcR 0x501 [20543]))) ∧ (((svcWait 0x501 5 [20543]) : State).svcDown ((2 : Fin 16)) ((svcR 0x501 [20543])).role = false) ∧ (((svcR 0x501 [20543])).code = 0x501) ∧ (((svcWait 0x501 5 [20543]) : State).g (SHU_MAP ((2 : Fin 16)) ((svcR 0x501 [20543])).role) SHU_MAP_KIND = 5) ∧ ((bget (((svcR 0x501 [20543])).w 1) 0 16) < 20544) := by decide +kernel
theorem wit_ServiceRequestsAreAnsweredOnce_pmClear_c25 : (((svcWait 0x501 5 [20544]) : State).svcOf ((2 : Fin 16)) ((1 : Fin 3)) = some ((svcR 0x501 [20544]))) ∧ (((svcWait 0x501 5 [20544]) : State).svcDown ((2 : Fin 16)) ((svcR 0x501 [20544])).role = false) ∧ (((svcR 0x501 [20544])).code = 0x501) ∧ (((svcWait 0x501 5 [20544]) : State).g (SHU_MAP ((2 : Fin 16)) ((svcR 0x501 [20544])).role) SHU_MAP_KIND = 5) ∧ (20544 ≤ (bget (((svcR 0x501 [20544])).w 1) 0 16)) := by decide +kernel
theorem wit_ServiceRequestsAreAnsweredOnce_pmRoll_c27 : (((svcWait 0x502 5 [2]) : State).svcOf ((2 : Fin 16)) ((1 : Fin 3)) = some ((svcR 0x502 [2]))) ∧ (((svcWait 0x502 5 [2]) : State).svcDown ((2 : Fin 16)) ((svcR 0x502 [2])).role = false) ∧ (((svcR 0x502 [2])).code = 0x502) ∧ (((svcWait 0x502 5 [2]) : State).g (SHU_MAP ((2 : Fin 16)) ((svcR 0x502 [2])).role) SHU_MAP_KIND = 5) ∧ (1 < (((svcR 0x502 [2])).w 1).toNat) := by decide +kernel
theorem wit_ServiceRequestsAreAnsweredOnce_onuEnable_c28 : (((svcWait 0x101 4 [1]) : State).svcOf ((2 : Fin 16)) ((1 : Fin 3)) = some ((svcR 0x101 [1]))) ∧ (((svcWait 0x101 4 [1]) : State).svcDown ((2 : Fin 16)) ((svcR 0x101 [1])).role = false) ∧ (((svcR 0x101 [1])).code = 0x101) ∧ (((svcWait 0x101 4 [1]) : State).g (SHU_MAP ((2 : Fin 16)) ((svcR 0x101 [1])).role) SHU_MAP_KIND ≠ 1) := by decide +kernel
theorem wit_ServiceRequestsAreAnsweredOnce_onuDeactivate_c29 : (((svcWait 0x102 4 [1]) : State).svcOf ((2 : Fin 16)) ((1 : Fin 3)) = some ((svcR 0x102 [1]))) ∧ (((svcWait 0x102 4 [1]) : State).svcDown ((2 : Fin 16)) ((svcR 0x102 [1])).role = false) ∧ (((svcR 0x102 [1])).code = 0x102) ∧ (((svcWait 0x102 4 [1]) : State).g (SHU_MAP ((2 : Fin 16)) ((svcR 0x102 [1])).role) SHU_MAP_KIND ≠ 1) := by decide +kernel
theorem wit_ServiceRequestsAreAnsweredOnce_onuRerange_c30 : (((svcWait 0x103 4 [1]) : State).svcOf ((2 : Fin 16)) ((1 : Fin 3)) = some ((svcR 0x103 [1]))) ∧ (((svcWait 0x103 4 [1]) : State).svcDown ((2 : Fin 16)) ((svcR 0x103 [1])).role = false) ∧ (((svcR 0x103 [1])).code = 0x103) ∧ (((svcWait 0x103 4 [1]) : State).g (SHU_MAP ((2 : Fin 16)) ((svcR 0x103 [1])).role) SHU_MAP_KIND ≠ 1) := by decide +kernel
theorem wit_ServiceRequestsAreAnsweredOnce_qwNow_c31 : (((svcWait 0x104 4 [1]) : State).svcOf ((2 : Fin 16)) ((1 : Fin 3)) = some ((svcR 0x104 [1]))) ∧ (((svcWait 0x104 4 [1]) : State).svcDown ((2 : Fin 16)) ((svcR 0x104 [1])).role = false) ∧ (((svcR 0x104 [1])).code = 0x104) ∧ (((svcWait 0x104 4 [1]) : State).g (SHU_MAP ((2 : Fin 16)) ((svcR 0x104 [1])).role) SHU_MAP_KIND ≠ 1) := by decide +kernel
theorem wit_ServiceRequestsAreAnsweredOnce_shedState_c32 : (((svcWait 0x201 4 [1]) : State).svcOf ((2 : Fin 16)) ((1 : Fin 3)) = some ((svcR 0x201 [1]))) ∧ (((svcWait 0x201 4 [1]) : State).svcDown ((2 : Fin 16)) ((svcR 0x201 [1])).role = false) ∧ (((svcR 0x201 [1])).code = 0x201) ∧ (((svcWait 0x201 4 [1]) : State).g (SHU_MAP ((2 : Fin 16)) ((svcR 0x201 [1])).role) SHU_MAP_KIND ≠ 0) := by decide +kernel
theorem wit_ServiceRequestsAreAnsweredOnce_omciTx_c33 : (((svcWait 0x401 4 [1]) : State).svcOf ((2 : Fin 16)) ((1 : Fin 3)) = some ((svcR 0x401 [1]))) ∧ (((svcWait 0x401 4 [1]) : State).svcDown ((2 : Fin 16)) ((svcR 0x401 [1])).role = false) ∧ (((svcR 0x401 [1])).code = 0x401) ∧ (((svcWait 0x401 4 [1]) : State).g (SHU_MAP ((2 : Fin 16)) ((svcR 0x401 [1])).role) SHU_MAP_KIND ≠ 3) := by decide +kernel
theorem wit_ServiceRequestsAreAnsweredOnce_omciRing_c34 : (((svcWait 0x402 4 [1]) : State).svcOf ((2 : Fin 16)) ((1 : Fin 3)) = some ((svcR 0x402 [1]))) ∧ (((svcWait 0x402 4 [1]) : State).svcDown ((2 : Fin 16)) ((svcR 0x402 [1])).role = false) ∧ (((svcR 0x402 [1])).code = 0x402) ∧ (((svcWait 0x402 4 [1]) : State).g (SHU_MAP ((2 : Fin 16)) ((svcR 0x402 [1])).role) SHU_MAP_KIND ≠ 3) := by decide +kernel
theorem wit_ServiceRequestsAreAnsweredOnce_pmClear_c35 : (((svcWait 0x501 4 [1]) : State).svcOf ((2 : Fin 16)) ((1 : Fin 3)) = some ((svcR 0x501 [1]))) ∧ (((svcWait 0x501 4 [1]) : State).svcDown ((2 : Fin 16)) ((svcR 0x501 [1])).role = false) ∧ (((svcR 0x501 [1])).code = 0x501) ∧ (((svcWait 0x501 4 [1]) : State).g (SHU_MAP ((2 : Fin 16)) ((svcR 0x501 [1])).role) SHU_MAP_KIND ≠ 5) := by decide +kernel
theorem wit_ServiceRequestsAreAnsweredOnce_pmRoll_c36 : (((svcWait 0x502 4 [1]) : State).svcOf ((2 : Fin 16)) ((1 : Fin 3)) = some ((svcR 0x502 [1]))) ∧ (((svcWait 0x502 4 [1]) : State).svcDown ((2 : Fin 16)) ((svcR 0x502 [1])).role = false) ∧ (((svcR 0x502 [1])).code = 0x502) ∧ (((svcWait 0x502 4 [1]) : State).g (SHU_MAP ((2 : Fin 16)) ((svcR 0x502 [1])).role) SHU_MAP_KIND ≠ 5) := by decide +kernel
theorem wit_ServiceRequestsAreAnsweredOnce_svcAnswer_c37 : ((awake [18] : State).svcOf ((2 : Fin 16)) ((1 : Fin 3)) = none) := by decide +kernel
theorem wit_ServiceRequestsAreAnsweredOnce_svcTimeout_c38 : (((svcWait 0 0 [] : State).svcOf ((2 : Fin 16)) ((1 : Fin 3))).all (fun r => decide ((svcWait 0 0 [] : State).now < r.at_ + atLeast1 ((svcWait 0 0 [] : State).g (SHU_CTL ((2 : Fin 16))) SHU_CTL_SVC_TIMEOUT_MS) * 1000000)) = true) := by decide +kernel
theorem wit_AMicrowordIssues_seqNext_c0 : ((((seqAt 7340032 0 { (default : Thread) with pc := 100 })) : State).mayIssue ((37 : Fin 256)) ((6 : Fin 8)) = true) ∧ (((((seqAt 7340032 0 { (default : Thread) with pc := 100 })) : State).thread ((37 : Fin 256)) ((6 : Fin 8))).waiting = false) ∧ ((((seqAt 7340032 0 { (default : Thread) with pc := 100 })) : State).roleOf ((37 : Fin 256)) = some ((3 : Nat))) ∧ ((((seqAt 7340032 0 { (default : Thread) with pc := 100 })) : State).on (PMC_TAG_CTL (((37 : Fin 256)).val / 16)) PMC_TAG_CTL_EN = false) ∧ (fld ((((seqAt 7340032 0 { (default : Thread) with pc := 100 })) : State).uop ((37 : Fin 256)) ((6 : Fin 8))).a 27 5 = 0) ∧ (fld ((((seqAt 7340032 0 { (default : Thread) with pc := 100 })) : State).uop ((37 : Fin 256)) ((6 : Fin 8))).b 27 5 = 0) ∧ (fld ((((seqAt 7340032 0 { (default : Thread) with pc := 100 })) : State).uop ((37 : Fin 256)) ((6 : Fin 8))).m 28 4 = 0) ∧ (fld ((((seqAt 7340032 0 { (default : Thread) with pc := 100 })) : State).uop ((37 : Fin 256)) ((6 : Fin 8))).q 13 3 = 0) ∧ (((((seqAt 7340032 0 { (default : Thread) with pc := 100 })) : State).uop ((37 : Fin 256)) ((6 : Fin 8))).seq = 0) ∧ ((((seqAt 7340032 0 { (default : Thread) with pc := 100 })) : State).rd64 (PMC_SLOT_RETIRED (16 * (((37 : Fin 256)).val / 16) + ((3 : Nat)))) + 1 < 2 ^ 48) ∧ (((((seqAt 7340032 0 { (default : Thread) with pc := 100 })) : State).uop ((37 : Fin 256)) ((6 : Fin 8))).nano ≠ 0) := by decide +kernel
theorem wit_AMicrowordIssues_seqNext_c0_w1 : ((((seqAt 7340032 0 { (default : Thread) with pc := 100, aside := 0, pend := [] })) : State).mayIssue ((37 : Fin 256)) ((6 : Fin 8)) = true) ∧ (((((seqAt 7340032 0 { (default : Thread) with pc := 100, aside := 0, pend := [] })) : State).thread ((37 : Fin 256)) ((6 : Fin 8))).waiting = false) ∧ ((((seqAt 7340032 0 { (default : Thread) with pc := 100, aside := 0, pend := [] })) : State).roleOf ((37 : Fin 256)) = some ((3 : Nat))) ∧ ((((seqAt 7340032 0 { (default : Thread) with pc := 100, aside := 0, pend := [] })) : State).on (PMC_TAG_CTL (((37 : Fin 256)).val / 16)) PMC_TAG_CTL_EN = false) ∧ (fld ((((seqAt 7340032 0 { (default : Thread) with pc := 100, aside := 0, pend := [] })) : State).uop ((37 : Fin 256)) ((6 : Fin 8))).a 27 5 = 0) ∧ (fld ((((seqAt 7340032 0 { (default : Thread) with pc := 100, aside := 0, pend := [] })) : State).uop ((37 : Fin 256)) ((6 : Fin 8))).b 27 5 = 0) ∧ (fld ((((seqAt 7340032 0 { (default : Thread) with pc := 100, aside := 0, pend := [] })) : State).uop ((37 : Fin 256)) ((6 : Fin 8))).m 28 4 = 0) ∧ (fld ((((seqAt 7340032 0 { (default : Thread) with pc := 100, aside := 0, pend := [] })) : State).uop ((37 : Fin 256)) ((6 : Fin 8))).q 13 3 = 0) ∧ (((((seqAt 7340032 0 { (default : Thread) with pc := 100, aside := 0, pend := [] })) : State).uop ((37 : Fin 256)) ((6 : Fin 8))).seq = 0) ∧ ((((seqAt 7340032 0 { (default : Thread) with pc := 100, aside := 0, pend := [] })) : State).rd64 (PMC_SLOT_RETIRED (16 * (((37 : Fin 256)).val / 16) + ((3 : Nat)))) + 1 < 2 ^ 48) ∧ (((((seqAt 7340032 0 { (default : Thread) with pc := 100, aside := 0, pend := [] })) : State).uop ((37 : Fin 256)) ((6 : Fin 8))).nano ≠ 0) := by decide +kernel
theorem wit_AMicrowordIssues_seqNext_c1 : ((((seqAt 0 0 { (default : Thread) with pc := 100 })) : State).mayIssue ((37 : Fin 256)) ((6 : Fin 8)) = true) ∧ (((((seqAt 0 0 { (default : Thread) with pc := 100 })) : State).thread ((37 : Fin 256)) ((6 : Fin 8))).waiting = false) ∧ ((((seqAt 0 0 { (default : Thread) with pc := 100 })) : State).roleOf ((37 : Fin 256)) = some ((3 : Nat))) ∧ ((((seqAt 0 0 { (default : Thread) with pc := 100 })) : State).on (PMC_TAG_CTL (((37 : Fin 256)).val / 16)) PMC_TAG_CTL_EN = false) ∧ (fld ((((seqAt 0 0 { (default : Thread) with pc := 100 })) : State).uop ((37 : Fin 256)) ((6 : Fin 8))).a 27 5 = 0) ∧ (fld ((((seqAt 0 0 { (default : Thread) with pc := 100 })) : State).uop ((37 : Fin 256)) ((6 : Fin 8))).b 27 5 = 0) ∧ (fld ((((seqAt 0 0 { (default : Thread) with pc := 100 })) : State).uop ((37 : Fin 256)) ((6 : Fin 8))).m 28 4 = 0) ∧ (fld ((((seqAt 0 0 { (default : Thread) with pc := 100 })) : State).uop ((37 : Fin 256)) ((6 : Fin 8))).q 13 3 = 0) ∧ (((((seqAt 0 0 { (default : Thread) with pc := 100 })) : State).uop ((37 : Fin 256)) ((6 : Fin 8))).seq = 0) ∧ ((((seqAt 0 0 { (default : Thread) with pc := 100 })) : State).rd64 (PMC_SLOT_WASTED (16 * (((37 : Fin 256)).val / 16) + ((3 : Nat)))) + 1 < 2 ^ 48) ∧ (((((seqAt 0 0 { (default : Thread) with pc := 100 })) : State).uop ((37 : Fin 256)) ((6 : Fin 8))).nano = 0) := by decide +kernel
theorem wit_AMicrowordIssues_seqJmp_c2 : ((((seqAt 7421951 0 { (default : Thread) with pc := 100 })) : State).mayIssue ((37 : Fin 256)) ((6 : Fin 8)) = true) ∧ (((((seqAt 7421951 0 { (default : Thread) with pc := 100 })) : State).thread ((37 : Fin 256)) ((6 : Fin 8))).waiting = false) ∧ ((((seqAt 7421951 0 { (default : Thread) with pc := 100 })) : State).roleOf ((37 : Fin 256)) = some ((3 : Nat))) ∧ ((((seqAt 7421951 0 { (default : Thread) with pc := 100 })) : State).on (PMC_TAG_CTL (((37 : Fin 256)).val / 16)) PMC_TAG_CTL_EN = false) ∧ (fld ((((seqAt 7421951 0 { (default : Thread) with pc := 100 })) : State).uop ((37 : Fin 256)) ((6 : Fin 8))).a 27 5 = 0) ∧ (fld ((((seqAt 7421951 0 { (default : Thread) with pc := 100 })) : State).uop ((37 : Fin 256)) ((6 : Fin 8))).b 27 5 = 0) ∧ (fld ((((seqAt 7421951 0 { (default : Thread) with pc := 100 })) : State).uop ((37 : Fin 256)) ((6 : Fin 8))).m 28 4 = 0) ∧ (fld ((((seqAt 7421951 0 { (default : Thread) with pc := 100 })) : State).uop ((37 : Fin 256)) ((6 : Fin 8))).q 13 3 = 0) ∧ (((((seqAt 7421951 0 { (default : Thread) with pc := 100 })) : State).uop ((37 : Fin 256)) ((6 : Fin 8))).seq = 1) ∧ ((((seqAt 7421951 0 { (default : Thread) with pc := 100 })) : State).rd64 (PMC_SLOT_RETIRED (16 * (((37 : Fin 256)).val / 16) + ((3 : Nat)))) + 1 < 2 ^ 48) ∧ ((((seqAt 7421951 0 { (default : Thread) with pc := 100 })) : State).condOf (((37 : Fin 256)).val / 16) ((3 : Nat)) ((((seqAt 7421951 0 { (default : Thread) with pc := 100 })) : State).thread ((37 : Fin 256)) ((6 : Fin 8))) ((((seqAt 7421951 0 { (default : Thread) with pc := 100 })) : State).uop ((37 : Fin 256)) ((6 : Fin 8))) = true) ∧ (((((seqAt 7421951 0 { (default : Thread) with pc := 100 })) : State).uop ((37 : Fin 256)) ((6 : Fin 8))).imm < 16384) := by decide +kernel
theorem wit_AMicrowordIssues_seqJmp_c2_w1 : ((((seqAt 7405573 75557863725914323419136 { (default : Thread) with pc := 100, z := true })) : State).mayIssue ((37 : Fin 256)) ((6 : Fin 8)) = true) ∧ (((((seqAt 7405573 75557863725914323419136 { (default : Thread) with pc := 100, z := true })) : State).thread ((37 : Fin 256)) ((6 : Fin 8))).waiting = false) ∧ ((((seqAt 7405573 75557863725914323419136 { (default : Thread) with pc := 100, z := true })) : State).roleOf ((37 : Fin 256)) = some ((3 : Nat))) ∧ ((((seqAt 7405573 75557863725914323419136 { (default : Thread) with pc := 100, z := true })) : State).on (PMC_TAG_CTL (((37 : Fin 256)).val / 16)) PMC_TAG_CTL_EN = false) ∧ (fld ((((seqAt 7405573 75557863725914323419136 { (default : Thread) with pc := 100, z := true })) : State).uop ((37 : Fin 256)) ((6 : Fin 8))).a 27 5 = 0) ∧ (fld ((((seqAt 7405573 75557863725914323419136 { (default : Thread) with pc := 100, z := true })) : State).uop ((37 : Fin 256)) ((6 : Fin 8))).b 27 5 = 0) ∧ (fld ((((seqAt 7405573 75557863725914323419136 { (default : Thread) with pc := 100, z := true })) : State).uop ((37 : Fin 256)) ((6 : Fin 8))).m 28 4 = 0) ∧ (fld ((((seqAt 7405573 75557863725914323419136 { (default : Thread) with pc := 100, z := true })) : State).uop ((37 : Fin 256)) ((6 : Fin 8))).q 13 3 = 0) ∧ (((((seqAt 7405573 75557863725914323419136 { (default : Thread) with pc := 100, z := true })) : State).uop ((37 : Fin 256)) ((6 : Fin 8))).seq = 1) ∧ ((((seqAt 7405573 75557863725914323419136 { (default : Thread) with pc := 100, z := true })) : State).rd64 (PMC_SLOT_RETIRED (16 * (((37 : Fin 256)).val / 16) + ((3 : Nat)))) + 1 < 2 ^ 48) ∧ ((((seqAt 7405573 75557863725914323419136 { (default : Thread) with pc := 100, z := true })) : State).condOf (((37 : Fin 256)).val / 16) ((3 : Nat)) ((((seqAt 7405573 75557863725914323419136 { (default : Thread) with pc := 100, z := true })) : State).thread ((37 : Fin 256)) ((6 : Fin 8))) ((((seqAt 7405573 75557863725914323419136 { (default : Thread) with pc := 100, z := true })) : State).uop ((37 : Fin 256)) ((6 : Fin 8))) = true) ∧ (((((seqAt 7405573 75557863725914323419136 { (default : Thread) with pc := 100, z := true })) : State).uop ((37 : Fin 256)) ((6 : Fin 8))).imm < 16384) := by decide +kernel
theorem wit_AMicrowordIssues_seqJmp_c3 : ((((seqAt 7421952 75557863725914323419136 { (default : Thread) with pc := 100 })) : State).mayIssue ((37 : Fin 256)) ((6 : Fin 8)) = true) ∧ (((((seqAt 7421952 75557863725914323419136 { (default : Thread) with pc := 100 })) : State).thread ((37 : Fin 256)) ((6 : Fin 8))).waiting = false) ∧ ((((seqAt 7421952 75557863725914323419136 { (default : Thread) with pc := 100 })) : State).roleOf ((37 : Fin 256)) = some ((3 : Nat))) ∧ ((((seqAt 7421952 75557863725914323419136 { (default : Thread) with pc := 100 })) : State).on (PMC_TAG_CTL (((37 : Fin 256)).val / 16)) PMC_TAG_CTL_EN = false) ∧ (fld ((((seqAt 7421952 75557863725914323419136 { (default : Thread) with pc := 100 })) : State).uop ((37 : Fin 256)) ((6 : Fin 8))).a 27 5 = 0) ∧ (fld ((((seqAt 7421952 75557863725914323419136 { (default : Thread) with pc := 100 })) : State).uop ((37 : Fin 256)) ((6 : Fin 8))).b 27 5 = 0) ∧ (fld ((((seqAt 7421952 75557863725914323419136 { (default : Thread) with pc := 100 })) : State).uop ((37 : Fin 256)) ((6 : Fin 8))).m 28 4 = 0) ∧ (fld ((((seqAt 7421952 75557863725914323419136 { (default : Thread) with pc := 100 })) : State).uop ((37 : Fin 256)) ((6 : Fin 8))).q 13 3 = 0) ∧ (((((seqAt 7421952 75557863725914323419136 { (default : Thread) with pc := 100 })) : State).uop ((37 : Fin 256)) ((6 : Fin 8))).seq = 1) ∧ ((((seqAt 7421952 75557863725914323419136 { (default : Thread) with pc := 100 })) : State).rd64 (PMC_SLOT_RETIRED (16 * (((37 : Fin 256)).val / 16) + ((3 : Nat)))) + 1 < 2 ^ 48) ∧ ((((seqAt 7421952 75557863725914323419136 { (default : Thread) with pc := 100 })) : State).condOf (((37 : Fin 256)).val / 16) ((3 : Nat)) ((((seqAt 7421952 75557863725914323419136 { (default : Thread) with pc := 100 })) : State).thread ((37 : Fin 256)) ((6 : Fin 8))) ((((seqAt 7421952 75557863725914323419136 { (default : Thread) with pc := 100 })) : State).uop ((37 : Fin 256)) ((6 : Fin 8))) = false) := by decide +kernel
theorem wit_AMicrowordIssues_seqCall_c4 : ((((seqAt 7471113 226673591177742970257408 { (default : Thread) with pc := 100, c := true, stack := [1, 2, 3, 4, 5, 6, 7] })) : State).mayIssue ((37 : Fin 256)) ((6 : Fin 8)) = true) ∧ (((((seqAt 7471113 226673591177742970257408 { (default : Thread) with pc := 100, c := true, stack := [1, 2, 3, 4, 5, 6, 7] })) : State).thread ((37 : Fin 256)) ((6 : Fin 8))).waiting = false) ∧ ((((seqAt 7471113 226673591177742970257408 { (default : Thread) with pc := 100, c := true, stack := [1, 2, 3, 4, 5, 6, 7] })) : State).roleOf ((37 : Fin 256)) = some ((3 : Nat))) ∧ ((((seqAt 7471113 226673591177742970257408 { (default : Thread) with pc := 100, c := true, stack := [1, 2, 3, 4, 5, 6, 7] })) : State).on (PMC_TAG_CTL (((37 : Fin 256)).val / 16)) PMC_TAG_CTL_EN = false) ∧ (fld ((((seqAt 7471113 226673591177742970257408 { (default : Thread) with pc := 100, c := true, stack := [1, 2, 3, 4, 5, 6, 7] })) : State).uop ((37 : Fin 256)) ((6 : Fin 8))).a 27 5 = 0) ∧ (fld ((((seqAt 7471113 226673591177742970257408 { (default : Thread) with pc := 100, c := true, stack := [1, 2, 3, 4, 5, 6, 7] })) : State).uop ((37 : Fin 256)) ((6 : Fin 8))).b 27 5 = 0) ∧ (fld ((((seqAt 7471113 226673591177742970257408 { (default : Thread) with pc := 100, c := true, stack := [1, 2, 3, 4, 5, 6, 7] })) : State).uop ((37 : Fin 256)) ((6 : Fin 8))).m 28 4 = 0) ∧ (fld ((((seqAt 7471113 226673591177742970257408 { (default : Thread) with pc := 100, c := true, stack := [1, 2, 3, 4, 5, 6, 7] })) : State).uop ((37 : Fin 256)) ((6 : Fin 8))).q 13 3 = 0) ∧ (((((seqAt 7471113 226673591177742970257408 { (default : Thread) with pc := 100, c := true, stack := [1, 2, 3, 4, 5, 6, 7] })) : State).uop ((37 : Fin 256)) ((6 : Fin 8))).seq = 2) ∧ ((((seqAt 7471113 226673591177742970257408 { (default : Thread) with pc := 100, c := true, stack := [1, 2, 3, 4, 5, 6, 7] })) : State).rd64 (PMC_SLOT_RETIRED (16 * (((37 : Fin 256)).val / 16) + ((3 : Nat)))) + 1 < 2 ^ 48) ∧ ((((seqAt 7471113 226673591177742970257408 { (default : Thread) with pc := 100, c := true, stack := [1, 2, 3, 4, 5, 6, 7] })) : State).condOf (((37 : Fin 256)).val / 16) ((3 : Nat)) ((((seqAt 7471113 226673591177742970257408 { (default : Thread) with pc := 100, c := true, stack := [1, 2, 3, 4, 5, 6, 7] })) : State).thread ((37 : Fin 256)) ((6 : Fin 8))) ((((seqAt 7471113 226673591177742970257408 { (default : Thread) with pc := 100, c := true, stack := [1, 2, 3, 4, 5, 6, 7] })) : State).uop ((37 : Fin 256)) ((6 : Fin 8))) = true) ∧ (((((seqAt 7471113 226673591177742970257408 { (default : Thread) with pc := 100, c := true, stack := [1, 2, 3, 4, 5, 6, 7] })) : State).uop ((37 : Fin 256)) ((6 : Fin 8))).imm < 16384) ∧ (((((seqAt 7471113 226673591177742970257408 { (default : Thread) with pc := 100, c := true, stack := [1, 2, 3, 4, 5, 6, 7] })) : State).thread ((37 : Fin 256)) ((6 : Fin 8))).stack.length < 8) := by decide +kernel
theorem wit_AMicrowordIssues_seqCall_c5 : ((((seqAt 7471113 226673591177742970257408 { (default : Thread) with pc := 100 })) : State).mayIssue ((37 : Fin 256)) ((6 : Fin 8)) = true) ∧ (((((seqAt 7471113 226673591177742970257408 { (default : Thread) with pc := 100 })) : State).thread ((37 : Fin 256)) ((6 : Fin 8))).waiting = false) ∧ ((((seqAt 7471113 226673591177742970257408 { (default : Thread) with pc := 100 })) : State).roleOf ((37 : Fin 256)) = some ((3 : Nat))) ∧ ((((seqAt 7471113 226673591177742970257408 { (default : Thread) with pc := 100 })) : State).on (PMC_TAG_CTL (((37 : Fin 256)).val / 16)) PMC_TAG_CTL_EN = false) ∧ (fld ((((seqAt 7471113 226673591177742970257408 { (default : Thread) with pc := 100 })) : State).uop ((37 : Fin 256)) ((6 : Fin 8))).a 27 5 = 0) ∧ (fld ((((seqAt 7471113 226673591177742970257408 { (default : Thread) with pc := 100 })) : State).uop ((37 : Fin 256)) ((6 : Fin 8))).b 27 5 = 0) ∧ (fld ((((seqAt 7471113 226673591177742970257408 { (default : Thread) with pc := 100 })) : State).uop ((37 : Fin 256)) ((6 : Fin 8))).m 28 4 = 0) ∧ (fld ((((seqAt 7471113 226673591177742970257408 { (default : Thread) with pc := 100 })) : State).uop ((37 : Fin 256)) ((6 : Fin 8))).q 13 3 = 0) ∧ (((((seqAt 7471113 226673591177742970257408 { (default : Thread) with pc := 100 })) : State).uop ((37 : Fin 256)) ((6 : Fin 8))).seq = 2) ∧ ((((seqAt 7471113 226673591177742970257408 { (default : Thread) with pc := 100 })) : State).rd64 (PMC_SLOT_RETIRED (16 * (((37 : Fin 256)).val / 16) + ((3 : Nat)))) + 1 < 2 ^ 48) ∧ ((((seqAt 7471113 226673591177742970257408 { (default : Thread) with pc := 100 })) : State).condOf (((37 : Fin 256)).val / 16) ((3 : Nat)) ((((seqAt 7471113 226673591177742970257408 { (default : Thread) with pc := 100 })) : State).thread ((37 : Fin 256)) ((6 : Fin 8))) ((((seqAt 7471113 226673591177742970257408 { (default : Thread) with pc := 100 })) : State).uop ((37 : Fin 256)) ((6 : Fin 8))) = false) := by decide +kernel
theorem wit_AMicrowordIssues_seqRet_c6 : ((((seqAt 7536640 453347182355485940514816 { (default : Thread) with pc := 100, stack := [77, 5] })) : State).mayIssue ((37 : Fin 256)) ((6 : Fin 8)) = true) ∧ (((((seqAt 7536640 453347182355485940514816 { (default : Thread) with pc := 100, stack := [77, 5] })) : State).thread ((37 : Fin 256)) ((6 : Fin 8))).waiting = false) ∧ ((((seqAt 7536640 453347182355485940514816 { (default : Thread) with pc := 100, stack := [77, 5] })) : State).roleOf ((37 : Fin 256)) = some ((3 : Nat))) ∧ ((((seqAt 7536640 453347182355485940514816 { (default : Thread) with pc := 100, stack := [77, 5] })) : State).on (PMC_TAG_CTL (((37 : Fin 256)).val / 16)) PMC_TAG_CTL_EN = false) ∧ (fld ((((seqAt 7536640 453347182355485940514816 { (default : Thread) with pc := 100, stack := [77, 5] })) : State).uop ((37 : Fin 256)) ((6 : Fin 8))).a 27 5 = 0) ∧ (fld ((((seqAt 7536640 453347182355485940514816 { (default : Thread) with pc := 100, stack := [77, 5] })) : State).uop ((37 : Fin 256)) ((6 : Fin 8))).b 27 5 = 0) ∧ (fld ((((seqAt 7536640 453347182355485940514816 { (default : Thread) with pc := 100, stack := [77, 5] })) : State).uop ((37 : Fin 256)) ((6 : Fin 8))).m 28 4 = 0) ∧ (fld ((((seqAt 7536640 453347182355485940514816 { (default : Thread) with pc := 100, stack := [77, 5] })) : State).uop ((37 : Fin 256)) ((6 : Fin 8))).q 13 3 = 0) ∧ (((((seqAt 7536640 453347182355485940514816 { (default : Thread) with pc := 100, stack := [77, 5] })) : State).uop ((37 : Fin 256)) ((6 : Fin 8))).seq = 3) ∧ ((((seqAt 7536640 453347182355485940514816 { (default : Thread) with pc := 100, stack := [77, 5] })) : State).rd64 (PMC_SLOT_RETIRED (16 * (((37 : Fin 256)).val / 16) + ((3 : Nat)))) + 1 < 2 ^ 48) ∧ ((((seqAt 7536640 453347182355485940514816 { (default : Thread) with pc := 100, stack := [77, 5] })) : State).condOf (((37 : Fin 256)).val / 16) ((3 : Nat)) ((((seqAt 7536640 453347182355485940514816 { (default : Thread) with pc := 100, stack := [77, 5] })) : State).thread ((37 : Fin 256)) ((6 : Fin 8))) ((((seqAt 7536640 453347182355485940514816 { (default : Thread) with pc := 100, stack := [77, 5] })) : State).uop ((37 : Fin 256)) ((6 : Fin 8))) = true) ∧ (((((seqAt 7536640 453347182355485940514816 { (default : Thread) with pc := 100, stack := [77, 5] })) : State).thread ((37 : Fin 256)) ((6 : Fin 8))).stack = ((77 : Nat)) :: (([5] : List Nat))) := by decide +kernel
theorem wit_AMicrowordIssues_seqRet_c7 : ((((seqAt 7536640 377789318629571617095680 { (default : Thread) with pc := 100, stack := [77, 5] })) : State).mayIssue ((37 : Fin 256)) ((6 : Fin 8)) = true) ∧ (((((seqAt 7536640 377789318629571617095680 { (default : Thread) with pc := 100, stack := [77, 5] })) : State).thread ((37 : Fin 256)) ((6 : Fin 8))).waiting = false) ∧ ((((seqAt 7536640 377789318629571617095680 { (default : Thread) with pc := 100, stack := [77, 5] })) : State).roleOf ((37 : Fin 256)) = some ((3 : Nat))) ∧ ((((seqAt 7536640 377789318629571617095680 { (default : Thread) with pc := 100, stack := [77, 5] })) : State).on (PMC_TAG_CTL (((37 : Fin 256)).val / 16)) PMC_TAG_CTL_EN = false) ∧ (fld ((((seqAt 7536640 377789318629571617095680 { (default : Thread) with pc := 100, stack := [77, 5] })) : State).uop ((37 : Fin 256)) ((6 : Fin 8))).a 27 5 = 0) ∧ (fld ((((seqAt 7536640 377789318629571617095680 { (default : Thread) with pc := 100, stack := [77, 5] })) : State).uop ((37 : Fin 256)) ((6 : Fin 8))).b 27 5 = 0) ∧ (fld ((((seqAt 7536640 377789318629571617095680 { (default : Thread) with pc := 100, stack := [77, 5] })) : State).uop ((37 : Fin 256)) ((6 : Fin 8))).m 28 4 = 0) ∧ (fld ((((seqAt 7536640 377789318629571617095680 { (default : Thread) with pc := 100, stack := [77, 5] })) : State).uop ((37 : Fin 256)) ((6 : Fin 8))).q 13 3 = 0) ∧ (((((seqAt 7536640 377789318629571617095680 { (default : Thread) with pc := 100, stack := [77, 5] })) : State).uop ((37 : Fin 256)) ((6 : Fin 8))).seq = 3) ∧ ((((seqAt 7536640 377789318629571617095680 { (default : Thread) with pc := 100, stack := [77, 5] })) : State).rd64 (PMC_SLOT_RETIRED (16 * (((37 : Fin 256)).val / 16) + ((3 : Nat)))) + 1 < 2 ^ 48) ∧ ((((seqAt 7536640 377789318629571617095680 { (default : Thread) with pc := 100, stack := [77, 5] })) : State).condOf (((37 : Fin 256)).val / 16) ((3 : Nat)) ((((seqAt 7536640 377789318629571617095680 { (default : Thread) with pc := 100, stack := [77, 5] })) : State).thread ((37 : Fin 256)) ((6 : Fin 8))) ((((seqAt 7536640 377789318629571617095680 { (default : Thread) with pc := 100, stack := [77, 5] })) : State).uop ((37 : Fin 256)) ((6 : Fin 8))) = false) := by decide +kernel
theorem wit_AMicrowordIssues_seqLoop_c8 : ((((seqAt 7602209 0 { (default : Thread) with pc := 100, loop := 2 })) : State).mayIssue ((37 : Fin 256)) ((6 : Fin 8)) = true) ∧ (((((seqAt 7602209 0 { (default : Thread) with pc := 100, loop := 2 })) : State).thread ((37 : Fin 256)) ((6 : Fin 8))).waiting = false) ∧ ((((seqAt 7602209 0 { (default : Thread) with pc := 100, loop := 2 })) : State).roleOf ((37 : Fin 256)) = some ((3 : Nat))) ∧ ((((seqAt 7602209 0 { (default : Thread) with pc := 100, loop := 2 })) : State).on (PMC_TAG_CTL (((37 : Fin 256)).val / 16)) PMC_TAG_CTL_EN = false) ∧ (fld ((((seqAt 7602209 0 { (default : Thread) with pc := 100, loop := 2 })) : State).uop ((37 : Fin 256)) ((6 : Fin 8))).a 27 5 = 0) ∧ (fld ((((seqAt 7602209 0 { (default : Thread) with pc := 100, loop := 2 })) : State).uop ((37 : Fin 256)) ((6 : Fin 8))).b 27 5 = 0) ∧ (fld ((((seqAt 7602209 0 { (default : Thread) with pc := 100, loop := 2 })) : State).uop ((37 : Fin 256)) ((6 : Fin 8))).m 28 4 = 0) ∧ (fld ((((seqAt 7602209 0 { (default : Thread) with pc := 100, loop := 2 })) : State).uop ((37 : Fin 256)) ((6 : Fin 8))).q 13 3 = 0) ∧ (((((seqAt 7602209 0 { (default : Thread) with pc := 100, loop := 2 })) : State).uop ((37 : Fin 256)) ((6 : Fin 8))).seq = 4) ∧ ((((seqAt 7602209 0 { (default : Thread) with pc := 100, loop := 2 })) : State).rd64 (PMC_SLOT_RETIRED (16 * (((37 : Fin 256)).val / 16) + ((3 : Nat)))) + 1 < 2 ^ 48) ∧ (((((((seqAt 7602209 0 { (default : Thread) with pc := 100, loop := 2 })) : State).thread ((37 : Fin 256)) ((6 : Fin 8))).loop + 65535) % 65536) ≠ 0) ∧ (((((seqAt 7602209 0 { (default : Thread) with pc := 100, loop := 2 })) : State).uop ((37 : Fin 256)) ((6 : Fin 8))).imm < 16384) := by decide +kernel
theorem wit_AMicrowordIssues_seqLoop_c8_w1 : ((((seqAt 7602209 0 { (default : Thread) with pc := 100, loop := 0 })) : State).mayIssue ((37 : Fin 256)) ((6 : Fin 8)) = true) ∧ (((((seqAt 7602209 0 { (default : Thread) with pc := 100, loop := 0 })) : State).thread ((37 : Fin 256)) ((6 : Fin 8))).waiting = false) ∧ ((((seqAt 7602209 0 { (default : Thread) with pc := 100, loop := 0 })) : State).roleOf ((37 : Fin 256)) = some ((3 : Nat))) ∧ ((((seqAt 7602209 0 { (default : Thread) with pc := 100, loop := 0 })) : State).on (PMC_TAG_CTL (((37 : Fin 256)).val / 16)) PMC_TAG_CTL_EN = false) ∧ (fld ((((seqAt 7602209 0 { (default : Thread) with pc := 100, loop := 0 })) : State).uop ((37 : Fin 256)) ((6 : Fin 8))).a 27 5 = 0) ∧ (fld ((((seqAt 7602209 0 { (default : Thread) with pc := 100, loop := 0 })) : State).uop ((37 : Fin 256)) ((6 : Fin 8))).b 27 5 = 0) ∧ (fld ((((seqAt 7602209 0 { (default : Thread) with pc := 100, loop := 0 })) : State).uop ((37 : Fin 256)) ((6 : Fin 8))).m 28 4 = 0) ∧ (fld ((((seqAt 7602209 0 { (default : Thread) with pc := 100, loop := 0 })) : State).uop ((37 : Fin 256)) ((6 : Fin 8))).q 13 3 = 0) ∧ (((((seqAt 7602209 0 { (default : Thread) with pc := 100, loop := 0 })) : State).uop ((37 : Fin 256)) ((6 : Fin 8))).seq = 4) ∧ ((((seqAt 7602209 0 { (default : Thread) with pc := 100, loop := 0 })) : State).rd64 (PMC_SLOT_RETIRED (16 * (((37 : Fin 256)).val / 16) + ((3 : Nat)))) + 1 < 2 ^ 48) ∧ (((((((seqAt 7602209 0 { (default : Thread) with pc := 100, loop := 0 })) : State).thread ((37 : Fin 256)) ((6 : Fin 8))).loop + 65535) % 65536) ≠ 0) ∧ (((((seqAt 7602209 0 { (default : Thread) with pc := 100, loop := 0 })) : State).uop ((37 : Fin 256)) ((6 : Fin 8))).imm < 16384) := by decide +kernel
theorem wit_AMicrowordIssues_seqLoop_c9 : ((((seqAt 7602209 0 { (default : Thread) with pc := 100, loop := 1 })) : State).mayIssue ((37 : Fin 256)) ((6 : Fin 8)) = true) ∧ (((((seqAt 7602209 0 { (default : Thread) with pc := 100, loop := 1 })) : State).thread ((37 : Fin 256)) ((6 : Fin 8))).waiting = false) ∧ ((((seqAt 7602209 0 { (default : Thread) with pc := 100, loop := 1 })) : State).roleOf ((37 : Fin 256)) = some ((3 : Nat))) ∧ ((((seqAt 7602209 0 { (default : Thread) with pc := 100, loop := 1 })) : State).on (PMC_TAG_CTL (((37 : Fin 256)).val / 16)) PMC_TAG_CTL_EN = false) ∧ (fld ((((seqAt 7602209 0 { (default : Thread) with pc := 100, loop := 1 })) : State).uop ((37 : Fin 256)) ((6 : Fin 8))).a 27 5 = 0) ∧ (fld ((((seqAt 7602209 0 { (default : Thread) with pc := 100, loop := 1 })) : State).uop ((37 : Fin 256)) ((6 : Fin 8))).b 27 5 = 0) ∧ (fld ((((seqAt 7602209 0 { (default : Thread) with pc := 100, loop := 1 })) : State).uop ((37 : Fin 256)) ((6 : Fin 8))).m 28 4 = 0) ∧ (fld ((((seqAt 7602209 0 { (default : Thread) with pc := 100, loop := 1 })) : State).uop ((37 : Fin 256)) ((6 : Fin 8))).q 13 3 = 0) ∧ (((((seqAt 7602209 0 { (default : Thread) with pc := 100, loop := 1 })) : State).uop ((37 : Fin 256)) ((6 : Fin 8))).seq = 4) ∧ ((((seqAt 7602209 0 { (default : Thread) with pc := 100, loop := 1 })) : State).rd64 (PMC_SLOT_RETIRED (16 * (((37 : Fin 256)).val / 16) + ((3 : Nat)))) + 1 < 2 ^ 48) ∧ (((((((seqAt 7602209 0 { (default : Thread) with pc := 100, loop := 1 })) : State).thread ((37 : Fin 256)) ((6 : Fin 8))).loop + 65535) % 65536) = 0) := by decide +kernel
theorem wit_AMicrowordIssues_seqLdloop : ((((seqAt 7733247 0 { (default : Thread) with pc := 100 })) : State).mayIssue ((37 : Fin 256)) ((6 : Fin 8)) = true) ∧ (((((seqAt 7733247 0 { (default : Thread) with pc := 100 })) : State).thread ((37 : Fin 256)) ((6 : Fin 8))).waiting = false) ∧ ((((seqAt 7733247 0 { (default : Thread) with pc := 100 })) : State).roleOf ((37 : Fin 256)) = some ((3 : Nat))) ∧ ((((seqAt 7733247 0 { (default : Thread) with pc := 100 })) : State).on (PMC_TAG_CTL (((37 : Fin 256)).val / 16)) PMC_TAG_CTL_EN = false) ∧ (fld ((((seqAt 7733247 0 { (default : Thread) with pc := 100 })) : State).uop ((37 : Fin 256)) ((6 : Fin 8))).a 27 5 = 0) ∧ (fld ((((seqAt 7733247 0 { (default : Thread) with pc := 100 })) : State).uop ((37 : Fin 256)) ((6 : Fin 8))).b 27 5 = 0) ∧ (fld ((((seqAt 7733247 0 { (default : Thread) with pc := 100 })) : State).uop ((37 : Fin 256)) ((6 : Fin 8))).m 28 4 = 0) ∧ (fld ((((seqAt 7733247 0 { (default : Thread) with pc := 100 })) : State).uop ((37 : Fin 256)) ((6 : Fin 8))).q 13 3 = 0) ∧ (((((seqAt 7733247 0 { (default : Thread) with pc := 100 })) : State).uop ((37 : Fin 256)) ((6 : Fin 8))).seq = 5) ∧ ((((seqAt 7733247 0 { (default : Thread) with pc := 100 })) : State).rd64 (PMC_SLOT_RETIRED (16 * (((37 : Fin 256)).val / 16) + ((3 : Nat)))) + 1 < 2 ^ 48) := by decide +kernel
theorem wit_AMicrowordIssues_seqWait_c11 : ((((seqAt 7733248 832612240510954321739776 { (default : Thread) with pc := 100, latch := 2 ^ 40 + 1 })) : State).mayIssue ((37 : Fin 256)) ((6 : Fin 8)) = true) ∧ (((((seqAt 7733248 832612240510954321739776 { (default : Thread) with pc := 100, latch := 2 ^ 40 + 1 })) : State).thread ((37 : Fin 256)) ((6 : Fin 8))).waiting = false) ∧ ((((seqAt 7733248 832612240510954321739776 { (default : Thread) with pc := 100, latch := 2 ^ 40 + 1 })) : State).roleOf ((37 : Fin 256)) = some ((3 : Nat))) ∧ ((((seqAt 7733248 832612240510954321739776 { (default : Thread) with pc := 100, latch := 2 ^ 40 + 1 })) : State).on (PMC_TAG_CTL (((37 : Fin 256)).val / 16)) PMC_TAG_CTL_EN = false) ∧ (fld ((((seqAt 7733248 832612240510954321739776 { (default : Thread) with pc := 100, latch := 2 ^ 40 + 1 })) : State).uop ((37 : Fin 256)) ((6 : Fin 8))).a 27 5 = 0) ∧ (fld ((((seqAt 7733248 832612240510954321739776 { (default : Thread) with pc := 100, latch := 2 ^ 40 + 1 })) : State).uop ((37 : Fin 256)) ((6 : Fin 8))).b 27 5 = 0) ∧ (fld ((((seqAt 7733248 832612240510954321739776 { (default : Thread) with pc := 100, latch := 2 ^ 40 + 1 })) : State).uop ((37 : Fin 256)) ((6 : Fin 8))).m 28 4 = 0) ∧ (fld ((((seqAt 7733248 832612240510954321739776 { (default : Thread) with pc := 100, latch := 2 ^ 40 + 1 })) : State).uop ((37 : Fin 256)) ((6 : Fin 8))).q 13 3 = 0) ∧ (((((seqAt 7733248 832612240510954321739776 { (default : Thread) with pc := 100, latch := 2 ^ 40 + 1 })) : State).uop ((37 : Fin 256)) ((6 : Fin 8))).seq = 6) ∧ ((((seqAt 7733248 832612240510954321739776 { (default : Thread) with pc := 100, latch := 2 ^ 40 + 1 })) : State).rd64 (PMC_SLOT_RETIRED (16 * (((37 : Fin 256)).val / 16) + ((3 : Nat)))) + 1 < 2 ^ 48) ∧ ((((seqAt 7733248 832612240510954321739776 { (default : Thread) with pc := 100, latch := 2 ^ 40 + 1 })) : State).waitOver ((37 : Fin 256)) ((6 : Fin 8)) = true) := by decide +kernel
theorem wit_AMicrowordIssues_seqWait_c11_w1 : ((((seqAt 7733248 0 { (default : Thread) with pc := 100, latch := 1 })) : State).mayIssue ((37 : Fin 256)) ((6 : Fin 8)) = true) ∧ (((((seqAt 7733248 0 { (default : Thread) with pc := 100, latch := 1 })) : State).thread ((37 : Fin 256)) ((6 : Fin 8))).waiting = false) ∧ ((((seqAt 7733248 0 { (default : Thread) with pc := 100, latch := 1 })) : State).roleOf ((37 : Fin 256)) = some ((3 : Nat))) ∧ ((((seqAt 7733248 0 { (default : Thread) with pc := 100, latch := 1 })) : State).on (PMC_TAG_CTL (((37 : Fin 256)).val / 16)) PMC_TAG_CTL_EN = false) ∧ (fld ((((seqAt 7733248 0 { (default : Thread) with pc := 100, latch := 1 })) : State).uop ((37 : Fin 256)) ((6 : Fin 8))).a 27 5 = 0) ∧ (fld ((((seqAt 7733248 0 { (default : Thread) with pc := 100, latch := 1 })) : State).uop ((37 : Fin 256)) ((6 : Fin 8))).b 27 5 = 0) ∧ (fld ((((seqAt 7733248 0 { (default : Thread) with pc := 100, latch := 1 })) : State).uop ((37 : Fin 256)) ((6 : Fin 8))).m 28 4 = 0) ∧ (fld ((((seqAt 7733248 0 { (default : Thread) with pc := 100, latch := 1 })) : State).uop ((37 : Fin 256)) ((6 : Fin 8))).q 13 3 = 0) ∧ (((((seqAt 7733248 0 { (default : Thread) with pc := 100, latch := 1 })) : State).uop ((37 : Fin 256)) ((6 : Fin 8))).seq = 6) ∧ ((((seqAt 7733248 0 { (default : Thread) with pc := 100, latch := 1 })) : State).rd64 (PMC_SLOT_RETIRED (16 * (((37 : Fin 256)).val / 16) + ((3 : Nat)))) + 1 < 2 ^ 48) ∧ ((((seqAt 7733248 0 { (default : Thread) with pc := 100, latch := 1 })) : State).waitOver ((37 : Fin 256)) ((6 : Fin 8)) = true) := by decide +kernel
theorem wit_AMicrowordIssues_seqWait_c12 : ((((seqAt 7733248 832612240510954321739776 { (default : Thread) with pc := 100, latch := 1, issued := 9 })) : State).running_ ((37 : Fin 256)) = true) ∧ (((((seqAt 7733248 832612240510954321739776 { (default : Thread) with pc := 100, latch := 1, issued := 9 })) : State).thread ((37 : Fin 256)) ((6 : Fin 8))).waiting = false) ∧ (((((seqAt 7733248 832612240510954321739776 { (default : Thread) with pc := 100, latch := 1, issued := 9 })) : State).thread ((37 : Fin 256)) ((6 : Fin 8))).aborted = false) ∧ ((((seqAt 7733248 832612240510954321739776 { (default : Thread) with pc := 100, latch := 1, issued := 9 })) : State).stalled ((37 : Fin 256)) ((6 : Fin 8)) = false) ∧ (((((seqAt 7733248 832612240510954321739776 { (default : Thread) with pc := 100, latch := 1, issued := 9 })) : State).uop ((37 : Fin 256)) ((6 : Fin 8))).seq = 6) ∧ ((((seqAt 7733248 832612240510954321739776 { (default : Thread) with pc := 100, latch := 1, issued := 9 })) : State).waitOver ((37 : Fin 256)) ((6 : Fin 8)) = false) := by decide +kernel
theorem wit_AMicrowordIssues_waitSatisfied : ((((seqAt 7733248 833460790738344961114112 { (default : Thread) with pc := 100, latch := 2 ^ 63, waiting := true })) : State).mayIssue ((37 : Fin 256)) ((6 : Fin 8)) = true) ∧ (((((seqAt 7733248 833460790738344961114112 { (default : Thread) with pc := 100, latch := 2 ^ 63, waiting := true })) : State).thread ((37 : Fin 256)) ((6 : Fin 8))).waiting = true) ∧ ((((seqAt 7733248 833460790738344961114112 { (default : Thread) with pc := 100, latch := 2 ^ 63, waiting := true })) : State).roleOf ((37 : Fin 256)) = some ((3 : Nat))) ∧ ((((seqAt 7733248 833460790738344961114112 { (default : Thread) with pc := 100, latch := 2 ^ 63, waiting := true })) : State).on (PMC_TAG_CTL (((37 : Fin 256)).val / 16)) PMC_TAG_CTL_EN = false) ∧ (fld ((((seqAt 7733248 833460790738344961114112 { (default : Thread) with pc := 100, latch := 2 ^ 63, waiting := true })) : State).uop ((37 : Fin 256)) ((6 : Fin 8))).a 27 5 = 0) ∧ (fld ((((seqAt 7733248 833460790738344961114112 { (default : Thread) with pc := 100, latch := 2 ^ 63, waiting := true })) : State).uop ((37 : Fin 256)) ((6 : Fin 8))).b 27 5 = 0) ∧ (fld ((((seqAt 7733248 833460790738344961114112 { (default : Thread) with pc := 100, latch := 2 ^ 63, waiting := true })) : State).uop ((37 : Fin 256)) ((6 : Fin 8))).m 28 4 = 0) ∧ (fld ((((seqAt 7733248 833460790738344961114112 { (default : Thread) with pc := 100, latch := 2 ^ 63, waiting := true })) : State).uop ((37 : Fin 256)) ((6 : Fin 8))).q 13 3 = 0) ∧ (((((seqAt 7733248 833460790738344961114112 { (default : Thread) with pc := 100, latch := 2 ^ 63, waiting := true })) : State).uop ((37 : Fin 256)) ((6 : Fin 8))).seq = 6) ∧ ((((seqAt 7733248 833460790738344961114112 { (default : Thread) with pc := 100, latch := 2 ^ 63, waiting := true })) : State).rd64 (PMC_SLOT_RETIRED (16 * (((37 : Fin 256)).val / 16) + ((3 : Nat)))) + 1 < 2 ^ 48) ∧ ((((seqAt 7733248 833460790738344961114112 { (default : Thread) with pc := 100, latch := 2 ^ 63, waiting := true })) : State).waitOver ((37 : Fin 256)) ((6 : Fin 8)) = true) := by decide +kernel
theorem wit_AMicrowordIssues_seqYield : ((((seqAt 7798784 0 { (default : Thread) with pc := 100 })) : State).mayIssue ((37 : Fin 256)) ((6 : Fin 8)) = true) ∧ (((((seqAt 7798784 0 { (default : Thread) with pc := 100 })) : State).thread ((37 : Fin 256)) ((6 : Fin 8))).waiting = false) ∧ ((((seqAt 7798784 0 { (default : Thread) with pc := 100 })) : State).roleOf ((37 : Fin 256)) = some ((3 : Nat))) ∧ ((((seqAt 7798784 0 { (default : Thread) with pc := 100 })) : State).on (PMC_TAG_CTL (((37 : Fin 256)).val / 16)) PMC_TAG_CTL_EN = false) ∧ (fld ((((seqAt 7798784 0 { (default : Thread) with pc := 100 })) : State).uop ((37 : Fin 256)) ((6 : Fin 8))).a 27 5 = 0) ∧ (fld ((((seqAt 7798784 0 { (default : Thread) with pc := 100 })) : State).uop ((37 : Fin 256)) ((6 : Fin 8))).b 27 5 = 0) ∧ (fld ((((seqAt 7798784 0 { (default : Thread) with pc := 100 })) : State).uop ((37 : Fin 256)) ((6 : Fin 8))).m 28 4 = 0) ∧ (fld ((((seqAt 7798784 0 { (default : Thread) with pc := 100 })) : State).uop ((37 : Fin 256)) ((6 : Fin 8))).q 13 3 = 0) ∧ (((((seqAt 7798784 0 { (default : Thread) with pc := 100 })) : State).uop ((37 : Fin 256)) ((6 : Fin 8))).seq = 7) ∧ ((((seqAt 7798784 0 { (default : Thread) with pc := 100 })) : State).rd64 (PMC_SLOT_RETIRED (16 * (((37 : Fin 256)).val / 16) + ((3 : Nat)))) + 1 < 2 ^ 48) := by decide +kernel
theorem wit_AMicrowordIssues_seqDisp : ((((seqAt 7864420 23464258461758549655552 { (default : Thread) with pc := 100, regs := [(9, 0xF000000000000000)] })) : State).mayIssue ((37 : Fin 256)) ((6 : Fin 8)) = true) ∧ (((((seqAt 7864420 23464258461758549655552 { (default : Thread) with pc := 100, regs := [(9, 0xF000000000000000)] })) : State).thread ((37 : Fin 256)) ((6 : Fin 8))).waiting = false) ∧ ((((seqAt 7864420 23464258461758549655552 { (default : Thread) with pc := 100, regs := [(9, 0xF000000000000000)] })) : State).roleOf ((37 : Fin 256)) = some ((3 : Nat))) ∧ ((((seqAt 7864420 23464258461758549655552 { (default : Thread) with pc := 100, regs := [(9, 0xF000000000000000)] })) : State).on (PMC_TAG_CTL (((37 : Fin 256)).val / 16)) PMC_TAG_CTL_EN = false) ∧ (fld ((((seqAt 7864420 23464258461758549655552 { (default : Thread) with pc := 100, regs := [(9, 0xF000000000000000)] })) : State).uop ((37 : Fin 256)) ((6 : Fin 8))).a 27 5 = 0) ∧ (fld ((((seqAt 7864420 23464258461758549655552 { (default : Thread) with pc := 100, regs := [(9, 0xF000000000000000)] })) : State).uop ((37 : Fin 256)) ((6 : Fin 8))).b 27 5 = 0) ∧ (fld ((((seqAt 7864420 23464258461758549655552 { (default : Thread) with pc := 100, regs := [(9, 0xF000000000000000)] })) : State).uop ((37 : Fin 256)) ((6 : Fin 8))).m 28 4 = 0) ∧ (fld ((((seqAt 7864420 23464258461758549655552 { (default : Thread) with pc := 100, regs := [(9, 0xF000000000000000)] })) : State).uop ((37 : Fin 256)) ((6 : Fin 8))).q 13 3 = 0) ∧ (((((seqAt 7864420 23464258461758549655552 { (default : Thread) with pc := 100, regs := [(9, 0xF000000000000000)] })) : State).uop ((37 : Fin 256)) ((6 : Fin 8))).seq = 8) ∧ ((((seqAt 7864420 23464258461758549655552 { (default : Thread) with pc := 100, regs := [(9, 0xF000000000000000)] })) : State).rd64 (PMC_SLOT_RETIRED (16 * (((37 : Fin 256)).val / 16) + ((3 : Nat)))) + 1 < 2 ^ 48) ∧ ((((((seqAt 7864420 23464258461758549655552 { (default : Thread) with pc := 100, regs := [(9, 0xF000000000000000)] })) : State).uop ((37 : Fin 256)) ((6 : Fin 8))).imm + fld (((((seqAt 7864420 23464258461758549655552 { (default : Thread) with pc := 100, regs := [(9, 0xF000000000000000)] })) : State).thread ((37 : Fin 256)) ((6 : Fin 8))).r (fld ((((seqAt 7864420 23464258461758549655552 { (default : Thread) with pc := 100, regs := [(9, 0xF000000000000000)] })) : State).uop ((37 : Fin 256)) ((6 : Fin 8))).c 7 5)) (fld ((((seqAt 7864420 23464258461758549655552 { (default : Thread) with pc := 100, regs := [(9, 0xF000000000000000)] })) : State).uop ((37 : Fin 256)) ((6 : Fin 8))).c 1 6) 4) < 16384) := by decide +kernel
theorem wit_AMicrowordIssues_seqDone : ((((seqAt 7929860 0 { (default : Thread) with pc := 100, held := some (0, [1]), heldAgain := true })) : State).mayIssue ((37 : Fin 256)) ((6 : Fin 8)) = true) ∧ (((((seqAt 7929860 0 { (default : Thread) with pc := 100, held := some (0, [1]), heldAgain := true })) : State).thread ((37 : Fin 256)) ((6 : Fin 8))).waiting = false) ∧ ((((seqAt 7929860 0 { (default : Thread) with pc := 100, held := some (0, [1]), heldAgain := true })) : State).roleOf ((37 : Fin 256)) = some ((3 : Nat))) ∧ ((((seqAt 7929860 0 { (default : Thread) with pc := 100, held := some (0, [1]), heldAgain := true })) : State).on (PMC_TAG_CTL (((37 : Fin 256)).val / 16)) PMC_TAG_CTL_EN = false) ∧ (fld ((((seqAt 7929860 0 { (default : Thread) with pc := 100, held := some (0, [1]), heldAgain := true })) : State).uop ((37 : Fin 256)) ((6 : Fin 8))).a 27 5 = 0) ∧ (fld ((((seqAt 7929860 0 { (default : Thread) with pc := 100, held := some (0, [1]), heldAgain := true })) : State).uop ((37 : Fin 256)) ((6 : Fin 8))).b 27 5 = 0) ∧ (fld ((((seqAt 7929860 0 { (default : Thread) with pc := 100, held := some (0, [1]), heldAgain := true })) : State).uop ((37 : Fin 256)) ((6 : Fin 8))).m 28 4 = 0) ∧ (fld ((((seqAt 7929860 0 { (default : Thread) with pc := 100, held := some (0, [1]), heldAgain := true })) : State).uop ((37 : Fin 256)) ((6 : Fin 8))).q 13 3 = 0) ∧ (((((seqAt 7929860 0 { (default : Thread) with pc := 100, held := some (0, [1]), heldAgain := true })) : State).uop ((37 : Fin 256)) ((6 : Fin 8))).seq = 9) ∧ ((((seqAt 7929860 0 { (default : Thread) with pc := 100, held := some (0, [1]), heldAgain := true })) : State).rd64 (PMC_SLOT_RETIRED (16 * (((37 : Fin 256)).val / 16) + ((3 : Nat)))) + 1 < 2 ^ 48) ∧ (((((seqAt 7929860 0 { (default : Thread) with pc := 100, held := some (0, [1]), heldAgain := true })) : State).uop ((37 : Fin 256)) ((6 : Fin 8))).imm < 16384) ∧ ((((seqAt 7929860 0 { (default : Thread) with pc := 100, held := some (0, [1]), heldAgain := true })) : State).leaving (((37 : Fin 256)).val / 16) ((3 : Nat)) = false) := by decide +kernel
theorem wit_AMicrowordIssues_seqJmpr_c17 : ((((seqAt 8060932 1003502877609799607910400 { (default : Thread) with pc := 100, regs := [(9, 0x10002)] })) : State).mayIssue ((37 : Fin 256)) ((6 : Fin 8)) = true) ∧ (((((seqAt 8060932 1003502877609799607910400 { (default : Thread) with pc := 100, regs := [(9, 0x10002)] })) : State).thread ((37 : Fin 256)) ((6 : Fin 8))).waiting = false) ∧ ((((seqAt 8060932 1003502877609799607910400 { (default : Thread) with pc := 100, regs := [(9, 0x10002)] })) : State).roleOf ((37 : Fin 256)) = some ((3 : Nat))) ∧ ((((seqAt 8060932 1003502877609799607910400 { (default : Thread) with pc := 100, regs := [(9, 0x10002)] })) : State).on (PMC_TAG_CTL (((37 : Fin 256)).val / 16)) PMC_TAG_CTL_EN = false) ∧ (fld ((((seqAt 8060932 1003502877609799607910400 { (default : Thread) with pc := 100, regs := [(9, 0x10002)] })) : State).uop ((37 : Fin 256)) ((6 : Fin 8))).a 27 5 = 0) ∧ (fld ((((seqAt 8060932 1003502877609799607910400 { (default : Thread) with pc := 100, regs := [(9, 0x10002)] })) : State).uop ((37 : Fin 256)) ((6 : Fin 8))).b 27 5 = 0) ∧ (fld ((((seqAt 8060932 1003502877609799607910400 { (default : Thread) with pc := 100, regs := [(9, 0x10002)] })) : State).uop ((37 : Fin 256)) ((6 : Fin 8))).m 28 4 = 0) ∧ (fld ((((seqAt 8060932 1003502877609799607910400 { (default : Thread) with pc := 100, regs := [(9, 0x10002)] })) : State).uop ((37 : Fin 256)) ((6 : Fin 8))).q 13 3 = 0) ∧ (((((seqAt 8060932 1003502877609799607910400 { (default : Thread) with pc := 100, regs := [(9, 0x10002)] })) : State).uop ((37 : Fin 256)) ((6 : Fin 8))).seq = 11) ∧ ((((seqAt 8060932 1003502877609799607910400 { (default : Thread) with pc := 100, regs := [(9, 0x10002)] })) : State).rd64 (PMC_SLOT_RETIRED (16 * (((37 : Fin 256)).val / 16) + ((3 : Nat)))) + 1 < 2 ^ 48) ∧ ((((seqAt 8060932 1003502877609799607910400 { (default : Thread) with pc := 100, regs := [(9, 0x10002)] })) : State).condOf (((37 : Fin 256)).val / 16) ((3 : Nat)) ((((seqAt 8060932 1003502877609799607910400 { (default : Thread) with pc := 100, regs := [(9, 0x10002)] })) : State).thread ((37 : Fin 256)) ((6 : Fin 8))) ((((seqAt 8060932 1003502877609799607910400 { (default : Thread) with pc := 100, regs := [(9, 0x10002)] })) : State).uop ((37 : Fin 256)) ((6 : Fin 8))) = true) := by decide +kernel
theorem wit_AMicrowordIssues_seqJmpr_c18 : ((((seqAt 8060932 927945013883885284491264 { (default : Thread) with pc := 100, regs := [(9, 0x10002)] })) : State).mayIssue ((37 : Fin 256)) ((6 : Fin 8)) = true) ∧ (((((seqAt 8060932 927945013883885284491264 { (default : Thread) with pc := 100, regs := [(9, 0x10002)] })) : State).thread ((37 : Fin 256)) ((6 : Fin 8))).waiting = false) ∧ ((((seqAt 8060932 927945013883885284491264 { (default : Thread) with pc := 100, regs := [(9, 0x10002)] })) : State).roleOf ((37 : Fin 256)) = some ((3 : Nat))) ∧ ((((seqAt 8060932 927945013883885284491264 { (default : Thread) with pc := 100, regs := [(9, 0x10002)] })) : State).on (PMC_TAG_CTL (((37 : Fin 256)).val / 16)) PMC_TAG_CTL_EN = false) ∧ (fld ((((seqAt 8060932 927945013883885284491264 { (default : Thread) with pc := 100, regs := [(9, 0x10002)] })) : State).uop ((37 : Fin 256)) ((6 : Fin 8))).a 27 5 = 0) ∧ (fld ((((seqAt 8060932 927945013883885284491264 { (default : Thread) with pc := 100, regs := [(9, 0x10002)] })) : State).uop ((37 : Fin 256)) ((6 : Fin 8))).b 27 5 = 0) ∧ (fld ((((seqAt 8060932 927945013883885284491264 { (default : Thread) with pc := 100, regs := [(9, 0x10002)] })) : State).uop ((37 : Fin 256)) ((6 : Fin 8))).m 28 4 = 0) ∧ (fld ((((seqAt 8060932 927945013883885284491264 { (default : Thread) with pc := 100, regs := [(9, 0x10002)] })) : State).uop ((37 : Fin 256)) ((6 : Fin 8))).q 13 3 = 0) ∧ (((((seqAt 8060932 927945013883885284491264 { (default : Thread) with pc := 100, regs := [(9, 0x10002)] })) : State).uop ((37 : Fin 256)) ((6 : Fin 8))).seq = 11) ∧ ((((seqAt 8060932 927945013883885284491264 { (default : Thread) with pc := 100, regs := [(9, 0x10002)] })) : State).rd64 (PMC_SLOT_RETIRED (16 * (((37 : Fin 256)).val / 16) + ((3 : Nat)))) + 1 < 2 ^ 48) ∧ ((((seqAt 8060932 927945013883885284491264 { (default : Thread) with pc := 100, regs := [(9, 0x10002)] })) : State).condOf (((37 : Fin 256)).val / 16) ((3 : Nat)) ((((seqAt 8060932 927945013883885284491264 { (default : Thread) with pc := 100, regs := [(9, 0x10002)] })) : State).thread ((37 : Fin 256)) ((6 : Fin 8))) ((((seqAt 8060932 927945013883885284491264 { (default : Thread) with pc := 100, regs := [(9, 0x10002)] })) : State).uop ((37 : Fin 256)) ((6 : Fin 8))) = false) := by decide +kernel
theorem wit_AMicrowordIssues_seqFault_c19 : ((((seqAt 8039373 0 { (default : Thread) with pc := 100, z := true })) : State).mayIssue ((37 : Fin 256)) ((6 : Fin 8)) = true) ∧ (((((seqAt 8039373 0 { (default : Thread) with pc := 100, z := true })) : State).thread ((37 : Fin 256)) ((6 : Fin 8))).waiting = false) ∧ ((((seqAt 8039373 0 { (default : Thread) with pc := 100, z := true })) : State).roleOf ((37 : Fin 256)) = some ((3 : Nat))) ∧ ((((seqAt 8039373 0 { (default : Thread) with pc := 100, z := true })) : State).on (PMC_TAG_CTL (((37 : Fin 256)).val / 16)) PMC_TAG_CTL_EN = false) ∧ (fld ((((seqAt 8039373 0 { (default : Thread) with pc := 100, z := true })) : State).uop ((37 : Fin 256)) ((6 : Fin 8))).a 27 5 = 0) ∧ (fld ((((seqAt 8039373 0 { (default : Thread) with pc := 100, z := true })) : State).uop ((37 : Fin 256)) ((6 : Fin 8))).b 27 5 = 0) ∧ (fld ((((seqAt 8039373 0 { (default : Thread) with pc := 100, z := true })) : State).uop ((37 : Fin 256)) ((6 : Fin 8))).m 28 4 = 0) ∧ (fld ((((seqAt 8039373 0 { (default : Thread) with pc := 100, z := true })) : State).uop ((37 : Fin 256)) ((6 : Fin 8))).q 13 3 = 0) ∧ (((((seqAt 8039373 0 { (default : Thread) with pc := 100, z := true })) : State).uop ((37 : Fin 256)) ((6 : Fin 8))).seq = 10) ∧ (((((seqAt 8039373 0 { (default : Thread) with pc := 100, z := true })) : State).thread ((37 : Fin 256)) ((6 : Fin 8))).held = none) := by decide +kernel
theorem wit_AMicrowordIssues_seqFault_c20 : ((((seqAt 8126469 0 { (default : Thread) with pc := 100 })) : State).mayIssue ((37 : Fin 256)) ((6 : Fin 8)) = true) ∧ (((((seqAt 8126469 0 { (default : Thread) with pc := 100 })) : State).thread ((37 : Fin 256)) ((6 : Fin 8))).waiting = false) ∧ ((((seqAt 8126469 0 { (default : Thread) with pc := 100 })) : State).roleOf ((37 : Fin 256)) = some ((3 : Nat))) ∧ ((((seqAt 8126469 0 { (default : Thread) with pc := 100 })) : State).on (PMC_TAG_CTL (((37 : Fin 256)).val / 16)) PMC_TAG_CTL_EN = false) ∧ (fld ((((seqAt 8126469 0 { (default : Thread) with pc := 100 })) : State).uop ((37 : Fin 256)) ((6 : Fin 8))).a 27 5 = 0) ∧ (fld ((((seqAt 8126469 0 { (default : Thread) with pc := 100 })) : State).uop ((37 : Fin 256)) ((6 : Fin 8))).b 27 5 = 0) ∧ (fld ((((seqAt 8126469 0 { (default : Thread) with pc := 100 })) : State).uop ((37 : Fin 256)) ((6 : Fin 8))).m 28 4 = 0) ∧ (fld ((((seqAt 8126469 0 { (default : Thread) with pc := 100 })) : State).uop ((37 : Fin 256)) ((6 : Fin 8))).q 13 3 = 0) ∧ (12 ≤ ((((seqAt 8126469 0 { (default : Thread) with pc := 100 })) : State).uop ((37 : Fin 256)) ((6 : Fin 8))).seq) ∧ (((((seqAt 8126469 0 { (default : Thread) with pc := 100 })) : State).thread ((37 : Fin 256)) ((6 : Fin 8))).held = none) := by decide +kernel
theorem wit_AMicrowordIssues_seqFault_c20_w1 : ((((seqAt 8323077 0 { (default : Thread) with pc := 100 })) : State).mayIssue ((37 : Fin 256)) ((6 : Fin 8)) = true) ∧ (((((seqAt 8323077 0 { (default : Thread) with pc := 100 })) : State).thread ((37 : Fin 256)) ((6 : Fin 8))).waiting = false) ∧ ((((seqAt 8323077 0 { (default : Thread) with pc := 100 })) : State).roleOf ((37 : Fin 256)) = some ((3 : Nat))) ∧ ((((seqAt 8323077 0 { (default : Thread) with pc := 100 })) : State).on (PMC_TAG_CTL (((37 : Fin 256)).val / 16)) PMC_TAG_CTL_EN = false) ∧ (fld ((((seqAt 8323077 0 { (default : Thread) with pc := 100 })) : State).uop ((37 : Fin 256)) ((6 : Fin 8))).a 27 5 = 0) ∧ (fld ((((seqAt 8323077 0 { (default : Thread) with pc := 100 })) : State).uop ((37 : Fin 256)) ((6 : Fin 8))).b 27 5 = 0) ∧ (fld ((((seqAt 8323077 0 { (default : Thread) with pc := 100 })) : State).uop ((37 : Fin 256)) ((6 : Fin 8))).m 28 4 = 0) ∧ (fld ((((seqAt 8323077 0 { (default : Thread) with pc := 100 })) : State).uop ((37 : Fin 256)) ((6 : Fin 8))).q 13 3 = 0) ∧ (12 ≤ ((((seqAt 8323077 0 { (default : Thread) with pc := 100 })) : State).uop ((37 : Fin 256)) ((6 : Fin 8))).seq) ∧ (((((seqAt 8323077 0 { (default : Thread) with pc := 100 })) : State).thread ((37 : Fin 256)) ((6 : Fin 8))).held = none) := by decide +kernel
theorem wit_AMicrowordIssues_seqJmp_c21 : ((((seqAt 7421952 0 { (default : Thread) with pc := 100 })) : State).mayIssue ((37 : Fin 256)) ((6 : Fin 8)) = true) ∧ (((((seqAt 7421952 0 { (default : Thread) with pc := 100 })) : State).thread ((37 : Fin 256)) ((6 : Fin 8))).waiting = false) ∧ ((((seqAt 7421952 0 { (default : Thread) with pc := 100 })) : State).roleOf ((37 : Fin 256)) = some ((3 : Nat))) ∧ ((((seqAt 7421952 0 { (default : Thread) with pc := 100 })) : State).on (PMC_TAG_CTL (((37 : Fin 256)).val / 16)) PMC_TAG_CTL_EN = false) ∧ (fld ((((seqAt 7421952 0 { (default : Thread) with pc := 100 })) : State).uop ((37 : Fin 256)) ((6 : Fin 8))).a 27 5 = 0) ∧ (fld ((((seqAt 7421952 0 { (default : Thread) with pc := 100 })) : State).uop ((37 : Fin 256)) ((6 : Fin 8))).b 27 5 = 0) ∧ (fld ((((seqAt 7421952 0 { (default : Thread) with pc := 100 })) : State).uop ((37 : Fin 256)) ((6 : Fin 8))).m 28 4 = 0) ∧ (fld ((((seqAt 7421952 0 { (default : Thread) with pc := 100 })) : State).uop ((37 : Fin 256)) ((6 : Fin 8))).q 13 3 = 0) ∧ (((((seqAt 7421952 0 { (default : Thread) with pc := 100 })) : State).uop ((37 : Fin 256)) ((6 : Fin 8))).seq = 1) ∧ ((((seqAt 7421952 0 { (default : Thread) with pc := 100 })) : State).condOf (((37 : Fin 256)).val / 16) ((3 : Nat)) ((((seqAt 7421952 0 { (default : Thread) with pc := 100 })) : State).thread ((37 : Fin 256)) ((6 : Fin 8))) ((((seqAt 7421952 0 { (default : Thread) with pc := 100 })) : State).uop ((37 : Fin 256)) ((6 : Fin 8))) = true) ∧ (16384 ≤ ((((seqAt 7421952 0 { (default : Thread) with pc := 100 })) : State).uop ((37 : Fin 256)) ((6 : Fin 8))).imm) ∧ (((((seqAt 7421952 0 { (default : Thread) with pc := 100 })) : State).thread ((37 : Fin 256)) ((6 : Fin 8))).held = none) := by decide +kernel
theorem wit_AMicrowordIssues_seqCall_c22 : ((((seqAt 7471113 0 { (default : Thread) with pc := 100, stack := [1, 2, 3, 4, 5, 6, 7, 8] })) : State).mayIssue ((37 : Fin 256)) ((6 : Fin 8)) = true) ∧ (((((seqAt 7471113 0 { (default : Thread) with pc := 100, stack := [1, 2, 3, 4, 5, 6, 7, 8] })) : State).thread ((37 : Fin 256)) ((6 : Fin 8))).waiting = false) ∧ ((((seqAt 7471113 0 { (default : Thread) with pc := 100, stack := [1, 2, 3, 4, 5, 6, 7, 8] })) : State).roleOf ((37 : Fin 256)) = some ((3 : Nat))) ∧ ((((seqAt 7471113 0 { (default : Thread) with pc := 100, stack := [1, 2, 3, 4, 5, 6, 7, 8] })) : State).on (PMC_TAG_CTL (((37 : Fin 256)).val / 16)) PMC_TAG_CTL_EN = false) ∧ (fld ((((seqAt 7471113 0 { (default : Thread) with pc := 100, stack := [1, 2, 3, 4, 5, 6, 7, 8] })) : State).uop ((37 : Fin 256)) ((6 : Fin 8))).a 27 5 = 0) ∧ (fld ((((seqAt 7471113 0 { (default : Thread) with pc := 100, stack := [1, 2, 3, 4, 5, 6, 7, 8] })) : State).uop ((37 : Fin 256)) ((6 : Fin 8))).b 27 5 = 0) ∧ (fld ((((seqAt 7471113 0 { (default : Thread) with pc := 100, stack := [1, 2, 3, 4, 5, 6, 7, 8] })) : State).uop ((37 : Fin 256)) ((6 : Fin 8))).m 28 4 = 0) ∧ (fld ((((seqAt 7471113 0 { (default : Thread) with pc := 100, stack := [1, 2, 3, 4, 5, 6, 7, 8] })) : State).uop ((37 : Fin 256)) ((6 : Fin 8))).q 13 3 = 0) ∧ (((((seqAt 7471113 0 { (default : Thread) with pc := 100, stack := [1, 2, 3, 4, 5, 6, 7, 8] })) : State).uop ((37 : Fin 256)) ((6 : Fin 8))).seq = 2) ∧ ((((seqAt 7471113 0 { (default : Thread) with pc := 100, stack := [1, 2, 3, 4, 5, 6, 7, 8] })) : State).condOf (((37 : Fin 256)).val / 16) ((3 : Nat)) ((((seqAt 7471113 0 { (default : Thread) with pc := 100, stack := [1, 2, 3, 4, 5, 6, 7, 8] })) : State).thread ((37 : Fin 256)) ((6 : Fin 8))) ((((seqAt 7471113 0 { (default : Thread) with pc := 100, stack := [1, 2, 3, 4, 5, 6, 7, 8] })) : State).uop ((37 : Fin 256)) ((6 : Fin 8))) = true) ∧ (8 ≤ ((((seqAt 7471113 0 { (default : Thread) with pc := 100, stack := [1, 2, 3, 4, 5, 6, 7, 8] })) : State).thread ((37 : Fin 256)) ((6 : Fin 8))).stack.length) ∧ (((((seqAt 7471113 0 { (default : Thread) with pc := 100, stack := [1, 2, 3, 4, 5, 6, 7, 8] })) : State).thread ((37 : Fin 256)) ((6 : Fin 8))).held = none) := by decide +kernel
theorem wit_AMicrowordIssues_seqRet_c23 : ((((seqAt 7536649 0 { (default : Thread) with pc := 100 })) : State).mayIssue ((37 : Fin 256)) ((6 : Fin 8)) = true) ∧ (((((seqAt 7536649 0 { (default : Thread) with pc := 100 })) : State).thread ((37 : Fin 256)) ((6 : Fin 8))).waiting = false) ∧ ((((seqAt 7536649 0 { (default : Thread) with pc := 100 })) : State).roleOf ((37 : Fin 256)) = some ((3 : Nat))) ∧ ((((seqAt 7536649 0 { (default : Thread) with pc := 100 })) : State).on (PMC_TAG_CTL (((37 : Fin 256)).val / 16)) PMC_TAG_CTL_EN = false) ∧ (fld ((((seqAt 7536649 0 { (default : Thread) with pc := 100 })) : State).uop ((37 : Fin 256)) ((6 : Fin 8))).a 27 5 = 0) ∧ (fld ((((seqAt 7536649 0 { (default : Thread) with pc := 100 })) : State).uop ((37 : Fin 256)) ((6 : Fin 8))).b 27 5 = 0) ∧ (fld ((((seqAt 7536649 0 { (default : Thread) with pc := 100 })) : State).uop ((37 : Fin 256)) ((6 : Fin 8))).m 28 4 = 0) ∧ (fld ((((seqAt 7536649 0 { (default : Thread) with pc := 100 })) : State).uop ((37 : Fin 256)) ((6 : Fin 8))).q 13 3 = 0) ∧ (((((seqAt 7536649 0 { (default : Thread) with pc := 100 })) : State).uop ((37 : Fin 256)) ((6 : Fin 8))).seq = 3) ∧ ((((seqAt 7536649 0 { (default : Thread) with pc := 100 })) : State).condOf (((37 : Fin 256)).val / 16) ((3 : Nat)) ((((seqAt 7536649 0 { (default : Thread) with pc := 100 })) : State).thread ((37 : Fin 256)) ((6 : Fin 8))) ((((seqAt 7536649 0 { (default : Thread) with pc := 100 })) : State).uop ((37 : Fin 256)) ((6 : Fin 8))) = true) ∧ (((((seqAt 7536649 0 { (default : Thread) with pc := 100 })) : State).thread ((37 : Fin 256)) ((6 : Fin 8))).stack = []) ∧ (((((seqAt 7536649 0 { (default : Thread) with pc := 100 })) : State).thread ((37 : Fin 256)) ((6 : Fin 8))).held = none) := by decide +kernel
theorem wit_AMicrowordIssues_seqNext_c24 : ((((seqAt 7340041 0 { (default : Thread) with pc := 100 })) : State).mayIssue ((37 : Fin 256)) ((6 : Fin 8)) = true) ∧ (((((seqAt 7340041 0 { (default : Thread) with pc := 100 })) : State).thread ((37 : Fin 256)) ((6 : Fin 8))).waiting = false) ∧ ((((seqAt 7340041 0 { (default : Thread) with pc := 100 })) : State).roleOf ((37 : Fin 256)) = some ((3 : Nat))) ∧ ((((seqAt 7340041 0 { (default : Thread) with pc := 100 })) : State).on (PMC_TAG_CTL (((37 : Fin 256)).val / 16)) PMC_TAG_CTL_EN = false) ∧ (((((seqAt 7340041 0 { (default : Thread) with pc := 100 })) : State).uop ((37 : Fin 256)) ((6 : Fin 8))).seq = 0) ∧ (((((seqAt 7340041 0 { (default : Thread) with pc := 100 })) : State).thread ((37 : Fin 256)) ((6 : Fin 8))).held = none) := by decide +kernel
theorem wit_AMicrowordIssues_seqNext_c25 : (((((seqAt 7405577 0 { (default : Thread) with pc := 100 })) : State).mayIssue ((37 : Fin 256)) ((6 : Fin 8)) = false ∨ ((((seqAt 7405577 0 { (default : Thread) with pc := 100 })) : State).thread ((37 : Fin 256)) ((6 : Fin 8))).waiting = true ∨ ((((seqAt 7405577 0 { (default : Thread) with pc := 100 })) : State).uop ((37 : Fin 256)) ((6 : Fin 8))).seq ≠ 0)) := by decide +kernel
theorem wit_AMicrowordIssues_seqNext_c25_w1 : (((awake [18] : State).mayIssue ((37 : Fin 256)) ((6 : Fin 8)) = false ∨ ((awake [18] : State).thread ((37 : Fin 256)) ((6 : Fin 8))).waiting = true ∨ ((awake [18] : State).uop ((37 : Fin 256)) ((6 : Fin 8))).seq ≠ 0)) := by decide +kernel
theorem wit_AMicrowordIssues_seqNext_c26 : ((((seqAt 7340032 0 { (default : Thread) with pc := 100 }).wr64 (PMC_SLOT_RETIRED 35) (2 ^ 48 - 1)) : State).mayIssue ((37 : Fin 256)) ((6 : Fin 8)) = true) ∧ (((((seqAt 7340032 0 { (default : Thread) with pc := 100 }).wr64 (PMC_SLOT_RETIRED 35) (2 ^ 48 - 1)) : State).thread ((37 : Fin 256)) ((6 : Fin 8))).waiting = false) ∧ ((((seqAt 7340032 0 { (default : Thread) with pc := 100 }).wr64 (PMC_SLOT_RETIRED 35) (2 ^ 48 - 1)) : State).roleOf ((37 : Fin 256)) = some ((3 : Nat))) ∧ ((((seqAt 7340032 0 { (default : Thread) with pc := 100 }).wr64 (PMC_SLOT_RETIRED 35) (2 ^ 48 - 1)) : State).on (PMC_TAG_CTL (((37 : Fin 256)).val / 16)) PMC_TAG_CTL_EN = false) ∧ (fld ((((seqAt 7340032 0 { (default : Thread) with pc := 100 }).wr64 (PMC_SLOT_RETIRED 35) (2 ^ 48 - 1)) : State).uop ((37 : Fin 256)) ((6 : Fin 8))).a 27 5 = 0) ∧ (fld ((((seqAt 7340032 0 { (default : Thread) with pc := 100 }).wr64 (PMC_SLOT_RETIRED 35) (2 ^ 48 - 1)) : State).uop ((37 : Fin 256)) ((6 : Fin 8))).b 27 5 = 0) ∧ (fld ((((seqAt 7340032 0 { (default : Thread) with pc := 100 }).wr64 (PMC_SLOT_RETIRED 35) (2 ^ 48 - 1)) : State).uop ((37 : Fin 256)) ((6 : Fin 8))).m 28 4 = 0) ∧ (fld ((((seqAt 7340032 0 { (default : Thread) with pc := 100 }).wr64 (PMC_SLOT_RETIRED 35) (2 ^ 48 - 1)) : State).uop ((37 : Fin 256)) ((6 : Fin 8))).q 13 3 = 0) ∧ (((((seqAt 7340032 0 { (default : Thread) with pc := 100 }).wr64 (PMC_SLOT_RETIRED 35) (2 ^ 48 - 1)) : State).uop ((37 : Fin 256)) ((6 : Fin 8))).seq = 0) ∧ (((((seqAt 7340032 0 { (default : Thread) with pc := 100 }).wr64 (PMC_SLOT_RETIRED 35) (2 ^ 48 - 1)) : State).uop ((37 : Fin 256)) ((6 : Fin 8))).nano ≠ 0) ∧ ((((seqAt 7340032 0 { (default : Thread) with pc := 100 }).wr64 (PMC_SLOT_RETIRED 35) (2 ^ 48 - 1)) : State).rd64 (PMC_SLOT_RETIRED (16 * (((37 : Fin 256)).val / 16) + ((3 : Nat)))) = 2 ^ 48 - 1) := by decide +kernel
theorem wit_AMicrowordIssues_threadWatchdog_c27 : ((((seqAt 7405569 0 { (default : Thread) with pc := 100, issued := 2 ^ 30 })) : State).running_ ((37 : Fin 256)) = true) ∧ ((((seqAt 7405569 0 { (default : Thread) with pc := 100, issued := 2 ^ 30 })) : State).roleOf ((37 : Fin 256)) = some ((3 : Nat))) ∧ (atLeast1 ((((seqAt 7405569 0 { (default : Thread) with pc := 100, issued := 2 ^ 30 })) : State).g (SHU_CTL (((37 : Fin 256)).val / 16)) SHU_CTL_WATCHDOG) * 1024 ≤ ((((seqAt 7405569 0 { (default : Thread) with pc := 100, issued := 2 ^ 30 })) : State).thread ((37 : Fin 256)) ((6 : Fin 8))).issued) ∧ (((((seqAt 7405569 0 { (default : Thread) with pc := 100, issued := 2 ^ 30 })) : State).thread ((37 : Fin 256)) ((6 : Fin 8))).held = none) := by decide +kernel
theorem wit_AMicrowordIssues_threadWatchdog_c28 : (((((seqAt 7405569 0 { (default : Thread) with pc := 100, issued := 1023 })) : State).running_ ((37 : Fin 256)) = false ∨ ((((seqAt 7405569 0 { (default : Thread) with pc := 100, issued := 1023 })) : State).thread ((37 : Fin 256)) ((6 : Fin 8))).issued < atLeast1 ((((seqAt 7405569 0 { (default : Thread) with pc := 100, issued := 1023 })) : State).g (SHU_CTL (((37 : Fin 256)).val / 16)) SHU_CTL_WATCHDOG) * 1024)) := by decide +kernel
theorem wit_AMicrowordIssues_threadWatchdog_c29 : ((((seqAt 7405569 0 { (default : Thread) with pc := 100, issued := 2 ^ 30, held := some (389, [7]) })) : State).running_ ((37 : Fin 256)) = true) ∧ ((((seqAt 7405569 0 { (default : Thread) with pc := 100, issued := 2 ^ 30, held := some (389, [7]) })) : State).roleOf ((37 : Fin 256)) = some ((3 : Nat))) ∧ (atLeast1 ((((seqAt 7405569 0 { (default : Thread) with pc := 100, issued := 2 ^ 30, held := some (389, [7]) })) : State).g (SHU_CTL (((37 : Fin 256)).val / 16)) SHU_CTL_WATCHDOG) * 1024 ≤ ((((seqAt 7405569 0 { (default : Thread) with pc := 100, issued := 2 ^ 30, held := some (389, [7]) })) : State).thread ((37 : Fin 256)) ((6 : Fin 8))).issued) ∧ (((((seqAt 7405569 0 { (default : Thread) with pc := 100, issued := 2 ^ 30, held := some (389, [7]) })) : State).thread ((37 : Fin 256)) ((6 : Fin 8))).held = some (64 * 6 + ((5 : Nat)), (([7] : List Word)))) ∧ (((5 : Nat)) < 64) ∧ (((((seqAt 7405569 0 { (default : Thread) with pc := 100, issued := 2 ^ 30, held := some (389, [7]) })) : State).thread ((37 : Fin 256)) ((6 : Fin 8))).heldAgain = false) := by decide +kernel
theorem wit_AMicrowordIssues_threadTimerExpiry : (((((seqAt 7405569 0 { (default : Thread) with pc := 100, timer := some 5 })) : State).thread ((37 : Fin 256)) ((6 : Fin 8))).timer ≠ none) := by decide +kernel
theorem wit_AMicrowordIssues_memOpComplete_c31 : (((((seqAt 7405569 0 { (default : Thread) with pc := 100, pend := [⟨1, 2, none, true, 3, true, 0⟩, ⟨31, 8, some true, true, 4, true, 1⟩, ⟨2, 2, none, true, 3, true, 1⟩] })) : State).thread ((37 : Fin 256)) ((6 : Fin 8))).pend.find? (fun x => decide (x.src = ((1 : Fin 4)).val)) = some ((⟨31, 8, some true, true, 4, true, 1⟩ : PendOp))) ∧ ((((⟨31, 8, some true, true, 4, true, 1⟩ : PendOp)).word = false ∨ ((1 : Fin 3)) ≠ 2)) := by decide +kernel
theorem wit_AMicrowordIssues_memOpComplete_c31_w1 : (((((seqAt 7405569 0 { (default : Thread) with pc := 100, pend := [⟨1, 2, none, true, 3, true, 0⟩, ⟨32, 8, some true, true, 4, true, 1⟩, ⟨2, 2, none, true, 3, true, 1⟩] })) : State).thread ((37 : Fin 256)) ((6 : Fin 8))).pend.find? (fun x => decide (x.src = ((1 : Fin 4)).val)) = some ((⟨32, 8, some true, true, 4, true, 1⟩ : PendOp))) ∧ ((((⟨32, 8, some true, true, 4, true, 1⟩ : PendOp)).word = false ∨ ((0 : Fin 3)) ≠ 2)) := by decide +kernel
theorem wit_AMicrowordIssues_memOpComplete_c32 : (((((seqAt 7405569 0 { (default : Thread) with pc := 100, pend := [⟨1, 2, none, true, 3, true, 0⟩, ⟨31, 8, some true, true, 4, true, 1⟩, ⟨2, 2, none, true, 3, true, 1⟩] })) : State).thread ((37 : Fin 256)) ((6 : Fin 8))).pend.find? (fun x => decide (x.src = ((1 : Fin 4)).val)) = some ((⟨31, 8, some true, true, 4, true, 1⟩ : PendOp))) ∧ (((⟨31, 8, some true, true, 4, true, 1⟩ : PendOp)).word = true) ∧ ((((seqAt 7405569 0 { (default : Thread) with pc := 100, pend := [⟨1, 2, none, true, 3, true, 0⟩, ⟨31, 8, some true, true, 4, true, 1⟩, ⟨2, 2, none, true, 3, true, 1⟩] })) : State).roleOf ((37 : Fin 256)) = some ((3 : Nat))) ∧ (((((seqAt 7405569 0 { (default : Thread) with pc := 100, pend := [⟨1, 2, none, true, 3, true, 0⟩, ⟨31, 8, some true, true, 4, true, 1⟩, ⟨2, 2, none, true, 3, true, 1⟩] })) : State).thread ((37 : Fin 256)) ((6 : Fin 8))).held = none) := by decide +kernel
theorem wit_AMicrowordIssues_memOpComplete_c33 : (((((seqAt 7405569 0 { (default : Thread) with pc := 100, pend := [⟨1, 2, none, true, 3, true, 0⟩, ⟨31, 8, some true, true, 4, true, 1⟩, ⟨2, 2, none, true, 3, true, 1⟩] })) : State).thread ((37 : Fin 256)) ((6 : Fin 8))).pend.find? (fun x => decide (x.src = ((3 : Fin 4)).val)) = none) := by decide +kernel
theorem wit_AMicrowordIssues_seqNext_c34 : ((((seqAt 7340032 251534112771494072123784340918804220341508191543334273024 { (default : Thread) with pc := 100, regs := [(1, 0x7FFFFFFFFFFFFFFF), (2, 0x1)] })) : State).mayIssue ((37 : Fin 256)) ((6 : Fin 8)) = true) ∧ (((((seqAt 7340032 251534112771494072123784340918804220341508191543334273024 { (default : Thread) with pc := 100, regs := [(1, 0x7FFFFFFFFFFFFFFF), (2, 0x1)] })) : State).thread ((37 : Fin 256)) ((6 : Fin 8))).waiting = false) ∧ ((((seqAt 7340032 251534112771494072123784340918804220341508191543334273024 { (default : Thread) with pc := 100, regs := [(1, 0x7FFFFFFFFFFFFFFF), (2, 0x1)] })) : State).roleOf ((37 : Fin 256)) = some ((3 : Nat))) ∧ ((((seqAt 7340032 251534112771494072123784340918804220341508191543334273024 { (default : Thread) with pc := 100, regs := [(1, 0x7FFFFFFFFFFFFFFF), (2, 0x1)] })) : State).on (PMC_TAG_CTL (((37 : Fin 256)).val / 16)) PMC_TAG_CTL_EN = false) ∧ (fld ((((seqAt 7340032 251534112771494072123784340918804220341508191543334273024 { (default : Thread) with pc := 100, regs := [(1, 0x7FFFFFFFFFFFFFFF), (2, 0x1)] })) : State).uop ((37 : Fin 256)) ((6 : Fin 8))).a 27 5 = 1) ∧ (fld ((((seqAt 7340032 251534112771494072123784340918804220341508191543334273024 { (default : Thread) with pc := 100, regs := [(1, 0x7FFFFFFFFFFFFFFF), (2, 0x1)] })) : State).uop ((37 : Fin 256)) ((6 : Fin 8))).a 8 2 = 3) ∧ (fld ((((seqAt 7340032 251534112771494072123784340918804220341508191543334273024 { (default : Thread) with pc := 100, regs := [(1, 0x7FFFFFFFFFFFFFFF), (2, 0x1)] })) : State).uop ((37 : Fin 256)) ((6 : Fin 8))).a 10 2 = 0) ∧ (fld ((((seqAt 7340032 251534112771494072123784340918804220341508191543334273024 { (default : Thread) with pc := 100, regs := [(1, 0x7FFFFFFFFFFFFFFF), (2, 0x1)] })) : State).uop ((37 : Fin 256)) ((6 : Fin 8))).a 7 1 = 1) ∧ (fld ((((seqAt 7340032 251534112771494072123784340918804220341508191543334273024 { (default : Thread) with pc := 100, regs := [(1, 0x7FFFFFFFFFFFFFFF), (2, 0x1)] })) : State).uop ((37 : Fin 256)) ((6 : Fin 8))).a 22 5 ≠ 0) ∧ (fld ((((seqAt 7340032 251534112771494072123784340918804220341508191543334273024 { (default : Thread) with pc := 100, regs := [(1, 0x7FFFFFFFFFFFFFFF), (2, 0x1)] })) : State).uop ((37 : Fin 256)) ((6 : Fin 8))).b 27 5 = 0) ∧ (fld ((((seqAt 7340032 251534112771494072123784340918804220341508191543334273024 { (default : Thread) with pc := 100, regs := [(1, 0x7FFFFFFFFFFFFFFF), (2, 0x1)] })) : State).uop ((37 : Fin 256)) ((6 : Fin 8))).m 28 4 = 0) ∧ (fld ((((seqAt 7340032 251534112771494072123784340918804220341508191543334273024 { (default : Thread) with pc := 100, regs := [(1, 0x7FFFFFFFFFFFFFFF), (2, 0x1)] })) : State).uop ((37 : Fin 256)) ((6 : Fin 8))).q 13 3 = 0) ∧ (((((seqAt 7340032 251534112771494072123784340918804220341508191543334273024 { (default : Thread) with pc := 100, regs := [(1, 0x7FFFFFFFFFFFFFFF), (2, 0x1)] })) : State).uop ((37 : Fin 256)) ((6 : Fin 8))).seq = 0) ∧ (((((seqAt 7340032 251534112771494072123784340918804220341508191543334273024 { (default : Thread) with pc := 100, regs := [(1, 0x7FFFFFFFFFFFFFFF), (2, 0x1)] })) : State).uop ((37 : Fin 256)) ((6 : Fin 8))).nano ≠ 0) ∧ ((((seqAt 7340032 251534112771494072123784340918804220341508191543334273024 { (default : Thread) with pc := 100, regs := [(1, 0x7FFFFFFFFFFFFFFF), (2, 0x1)] })) : State).rd64 (PMC_SLOT_RETIRED (16 * (((37 : Fin 256)).val / 16) + ((3 : Nat)))) + 1 < 2 ^ 48) := by decide +kernel
theorem wit_AMicrowordIssues_seqNext_c34_w1 : ((((seqAt 7340032 251534112771494072123784340918804220341508191543334273024 { (default : Thread) with pc := 100, regs := [(1, 0xFFFFFFFFFFFFFFFF), (2, 0x1)] })) : State).mayIssue ((37 : Fin 256)) ((6 : Fin 8)) = true) ∧ (((((seqAt 7340032 251534112771494072123784340918804220341508191543334273024 { (default : Thread) with pc := 100, regs := [(1, 0xFFFFFFFFFFFFFFFF), (2, 0x1)] })) : State).thread ((37 : Fin 256)) ((6 : Fin 8))).waiting = false) ∧ ((((seqAt 7340032 251534112771494072123784340918804220341508191543334273024 { (default : Thread) with pc := 100, regs := [(1, 0xFFFFFFFFFFFFFFFF), (2, 0x1)] })) : State).roleOf ((37 : Fin 256)) = some ((3 : Nat))) ∧ ((((seqAt 7340032 251534112771494072123784340918804220341508191543334273024 { (default : Thread) with pc := 100, regs := [(1, 0xFFFFFFFFFFFFFFFF), (2, 0x1)] })) : State).on (PMC_TAG_CTL (((37 : Fin 256)).val / 16)) PMC_TAG_CTL_EN = false) ∧ (fld ((((seqAt 7340032 251534112771494072123784340918804220341508191543334273024 { (default : Thread) with pc := 100, regs := [(1, 0xFFFFFFFFFFFFFFFF), (2, 0x1)] })) : State).uop ((37 : Fin 256)) ((6 : Fin 8))).a 27 5 = 1) ∧ (fld ((((seqAt 7340032 251534112771494072123784340918804220341508191543334273024 { (default : Thread) with pc := 100, regs := [(1, 0xFFFFFFFFFFFFFFFF), (2, 0x1)] })) : State).uop ((37 : Fin 256)) ((6 : Fin 8))).a 8 2 = 3) ∧ (fld ((((seqAt 7340032 251534112771494072123784340918804220341508191543334273024 { (default : Thread) with pc := 100, regs := [(1, 0xFFFFFFFFFFFFFFFF), (2, 0x1)] })) : State).uop ((37 : Fin 256)) ((6 : Fin 8))).a 10 2 = 0) ∧ (fld ((((seqAt 7340032 251534112771494072123784340918804220341508191543334273024 { (default : Thread) with pc := 100, regs := [(1, 0xFFFFFFFFFFFFFFFF), (2, 0x1)] })) : State).uop ((37 : Fin 256)) ((6 : Fin 8))).a 7 1 = 1) ∧ (fld ((((seqAt 7340032 251534112771494072123784340918804220341508191543334273024 { (default : Thread) with pc := 100, regs := [(1, 0xFFFFFFFFFFFFFFFF), (2, 0x1)] })) : State).uop ((37 : Fin 256)) ((6 : Fin 8))).a 22 5 ≠ 0) ∧ (fld ((((seqAt 7340032 251534112771494072123784340918804220341508191543334273024 { (default : Thread) with pc := 100, regs := [(1, 0xFFFFFFFFFFFFFFFF), (2, 0x1)] })) : State).uop ((37 : Fin 256)) ((6 : Fin 8))).b 27 5 = 0) ∧ (fld ((((seqAt 7340032 251534112771494072123784340918804220341508191543334273024 { (default : Thread) with pc := 100, regs := [(1, 0xFFFFFFFFFFFFFFFF), (2, 0x1)] })) : State).uop ((37 : Fin 256)) ((6 : Fin 8))).m 28 4 = 0) ∧ (fld ((((seqAt 7340032 251534112771494072123784340918804220341508191543334273024 { (default : Thread) with pc := 100, regs := [(1, 0xFFFFFFFFFFFFFFFF), (2, 0x1)] })) : State).uop ((37 : Fin 256)) ((6 : Fin 8))).q 13 3 = 0) ∧ (((((seqAt 7340032 251534112771494072123784340918804220341508191543334273024 { (default : Thread) with pc := 100, regs := [(1, 0xFFFFFFFFFFFFFFFF), (2, 0x1)] })) : State).uop ((37 : Fin 256)) ((6 : Fin 8))).seq = 0) ∧ (((((seqAt 7340032 251534112771494072123784340918804220341508191543334273024 { (default : Thread) with pc := 100, regs := [(1, 0xFFFFFFFFFFFFFFFF), (2, 0x1)] })) : State).uop ((37 : Fin 256)) ((6 : Fin 8))).nano ≠ 0) ∧ ((((seqAt 7340032 251534112771494072123784340918804220341508191543334273024 { (default : Thread) with pc := 100, regs := [(1, 0xFFFFFFFFFFFFFFFF), (2, 0x1)] })) : State).rd64 (PMC_SLOT_RETIRED (16 * (((37 : Fin 256)).val / 16) + ((3 : Nat)))) + 1 < 2 ^ 48) := by decide +kernel
theorem wit_AMicrowordIssues_seqNext_c34_w2 : ((((seqAt 7340032 251534112771494072123784340918804220341508191543334273024 { (default : Thread) with pc := 100, regs := [(1, 0x8000000000000000), (2, 0x8000000000000000)] })) : State).mayIssue ((37 : Fin 256)) ((6 : Fin 8)) = true) ∧ (((((seqAt 7340032 251534112771494072123784340918804220341508191543334273024 { (default : Thread) with pc := 100, regs := [(1, 0x8000000000000000), (2, 0x8000000000000000)] })) : State).thread ((37 : Fin 256)) ((6 : Fin 8))).waiting = false) ∧ ((((seqAt 7340032 251534112771494072123784340918804220341508191543334273024 { (default : Thread) with pc := 100, regs := [(1, 0x8000000000000000), (2, 0x8000000000000000)] })) : State).roleOf ((37 : Fin 256)) = some ((3 : Nat))) ∧ ((((seqAt 7340032 251534112771494072123784340918804220341508191543334273024 { (default : Thread) with pc := 100, regs := [(1, 0x8000000000000000), (2, 0x8000000000000000)] })) : State).on (PMC_TAG_CTL (((37 : Fin 256)).val / 16)) PMC_TAG_CTL_EN = false) ∧ (fld ((((seqAt 7340032 251534112771494072123784340918804220341508191543334273024 { (default : Thread) with pc := 100, regs := [(1, 0x8000000000000000), (2, 0x8000000000000000)] })) : State).uop ((37 : Fin 256)) ((6 : Fin 8))).a 27 5 = 1) ∧ (fld ((((seqAt 7340032 251534112771494072123784340918804220341508191543334273024 { (default : Thread) with pc := 100, regs := [(1, 0x8000000000000000), (2, 0x8000000000000000)] })) : State).uop ((37 : Fin 256)) ((6 : Fin 8))).a 8 2 = 3) ∧ (fld ((((seqAt 7340032 251534112771494072123784340918804220341508191543334273024 { (default : Thread) with pc := 100, regs := [(1, 0x8000000000000000), (2, 0x8000000000000000)] })) : State).uop ((37 : Fin 256)) ((6 : Fin 8))).a 10 2 = 0) ∧ (fld ((((seqAt 7340032 251534112771494072123784340918804220341508191543334273024 { (default : Thread) with pc := 100, regs := [(1, 0x8000000000000000), (2, 0x8000000000000000)] })) : State).uop ((37 : Fin 256)) ((6 : Fin 8))).a 7 1 = 1) ∧ (fld ((((seqAt 7340032 251534112771494072123784340918804220341508191543334273024 { (default : Thread) with pc := 100, regs := [(1, 0x8000000000000000), (2, 0x8000000000000000)] })) : State).uop ((37 : Fin 256)) ((6 : Fin 8))).a 22 5 ≠ 0) ∧ (fld ((((seqAt 7340032 251534112771494072123784340918804220341508191543334273024 { (default : Thread) with pc := 100, regs := [(1, 0x8000000000000000), (2, 0x8000000000000000)] })) : State).uop ((37 : Fin 256)) ((6 : Fin 8))).b 27 5 = 0) ∧ (fld ((((seqAt 7340032 251534112771494072123784340918804220341508191543334273024 { (default : Thread) with pc := 100, regs := [(1, 0x8000000000000000), (2, 0x8000000000000000)] })) : State).uop ((37 : Fin 256)) ((6 : Fin 8))).m 28 4 = 0) ∧ (fld ((((seqAt 7340032 251534112771494072123784340918804220341508191543334273024 { (default : Thread) with pc := 100, regs := [(1, 0x8000000000000000), (2, 0x8000000000000000)] })) : State).uop ((37 : Fin 256)) ((6 : Fin 8))).q 13 3 = 0) ∧ (((((seqAt 7340032 251534112771494072123784340918804220341508191543334273024 { (default : Thread) with pc := 100, regs := [(1, 0x8000000000000000), (2, 0x8000000000000000)] })) : State).uop ((37 : Fin 256)) ((6 : Fin 8))).seq = 0) ∧ (((((seqAt 7340032 251534112771494072123784340918804220341508191543334273024 { (default : Thread) with pc := 100, regs := [(1, 0x8000000000000000), (2, 0x8000000000000000)] })) : State).uop ((37 : Fin 256)) ((6 : Fin 8))).nano ≠ 0) ∧ ((((seqAt 7340032 251534112771494072123784340918804220341508191543334273024 { (default : Thread) with pc := 100, regs := [(1, 0x8000000000000000), (2, 0x8000000000000000)] })) : State).rd64 (PMC_SLOT_RETIRED (16 * (((37 : Fin 256)).val / 16) + ((3 : Nat)))) + 1 < 2 ^ 48) := by decide +kernel
theorem wit_AMicrowordIssues_seqNext_c35 : ((((seqAt 7340032 44038466439488440645496105364631846912 { (default : Thread) with pc := 100, regs := [(1, 65524), (9, 0x1122334455667788)] })) : State).mayIssue ((37 : Fin 256)) ((6 : Fin 8)) = true) ∧ (((((seqAt 7340032 44038466439488440645496105364631846912 { (default : Thread) with pc := 100, regs := [(1, 65524), (9, 0x1122334455667788)] })) : State).thread ((37 : Fin 256)) ((6 : Fin 8))).waiting = false) ∧ ((((seqAt 7340032 44038466439488440645496105364631846912 { (default : Thread) with pc := 100, regs := [(1, 65524), (9, 0x1122334455667788)] })) : State).roleOf ((37 : Fin 256)) = some ((3 : Nat))) ∧ ((((seqAt 7340032 44038466439488440645496105364631846912 { (default : Thread) with pc := 100, regs := [(1, 65524), (9, 0x1122334455667788)] })) : State).on (PMC_TAG_CTL (((37 : Fin 256)).val / 16)) PMC_TAG_CTL_EN = false) ∧ (fld ((((seqAt 7340032 44038466439488440645496105364631846912 { (default : Thread) with pc := 100, regs := [(1, 65524), (9, 0x1122334455667788)] })) : State).uop ((37 : Fin 256)) ((6 : Fin 8))).m 28 4 = 2) ∧ (fld ((((seqAt 7340032 44038466439488440645496105364631846912 { (default : Thread) with pc := 100, regs := [(1, 65524), (9, 0x1122334455667788)] })) : State).uop ((37 : Fin 256)) ((6 : Fin 8))).m 26 2 = 0) ∧ (fld ((((seqAt 7340032 44038466439488440645496105364631846912 { (default : Thread) with pc := 100, regs := [(1, 65524), (9, 0x1122334455667788)] })) : State).uop ((37 : Fin 256)) ((6 : Fin 8))).a 27 5 = 0) ∧ (fld ((((seqAt 7340032 44038466439488440645496105364631846912 { (default : Thread) with pc := 100, regs := [(1, 65524), (9, 0x1122334455667788)] })) : State).uop ((37 : Fin 256)) ((6 : Fin 8))).b 27 5 = 0) ∧ (fld ((((seqAt 7340032 44038466439488440645496105364631846912 { (default : Thread) with pc := 100, regs := [(1, 65524), (9, 0x1122334455667788)] })) : State).uop ((37 : Fin 256)) ((6 : Fin 8))).q 13 3 = 0) ∧ (((((seqAt 7340032 44038466439488440645496105364631846912 { (default : Thread) with pc := 100, regs := [(1, 65524), (9, 0x1122334455667788)] })) : State).uop ((37 : Fin 256)) ((6 : Fin 8))).seq = 0) ∧ (((((seqAt 7340032 44038466439488440645496105364631846912 { (default : Thread) with pc := 100, regs := [(1, 65524), (9, 0x1122334455667788)] })) : State).uop ((37 : Fin 256)) ((6 : Fin 8))).nano ≠ 0) ∧ ((((seqAt 7340032 44038466439488440645496105364631846912 { (default : Thread) with pc := 100, regs := [(1, 65524), (9, 0x1122334455667788)] })) : State).rd64 (PMC_SLOT_RETIRED (16 * (((37 : Fin 256)).val / 16) + ((3 : Nat)))) + 1 < 2 ^ 48) ∧ (((((((seqAt 7340032 44038466439488440645496105364631846912 { (default : Thread) with pc := 100, regs := [(1, 65524), (9, 0x1122334455667788)] })) : State).thread ((37 : Fin 256)) ((6 : Fin 8))).r (fld ((((seqAt 7340032 44038466439488440645496105364631846912 { (default : Thread) with pc := 100, regs := [(1, 65524), (9, 0x1122334455667788)] })) : State).uop ((37 : Fin 256)) ((6 : Fin 8))).m 16 5) + fld ((((seqAt 7340032 44038466439488440645496105364631846912 { (default : Thread) with pc := 100, regs := [(1, 65524), (9, 0x1122334455667788)] })) : State).uop ((37 : Fin 256)) ((6 : Fin 8))).m 0 14) % 2 ^ 64) % (2 ^ fld ((((seqAt 7340032 44038466439488440645496105364631846912 { (default : Thread) with pc := 100, regs := [(1, 65524), (9, 0x1122334455667788)] })) : State).uop ((37 : Fin 256)) ((6 : Fin 8))).m 14 2) = 0) ∧ (((((((seqAt 7340032 44038466439488440645496105364631846912 { (default : Thread) with pc := 100, regs := [(1, 65524), (9, 0x1122334455667788)] })) : State).thread ((37 : Fin 256)) ((6 : Fin 8))).r (fld ((((seqAt 7340032 44038466439488440645496105364631846912 { (default : Thread) with pc := 100, regs := [(1, 65524), (9, 0x1122334455667788)] })) : State).uop ((37 : Fin 256)) ((6 : Fin 8))).m 16 5) + fld ((((seqAt 7340032 44038466439488440645496105364631846912 { (default : Thread) with pc := 100, regs := [(1, 65524), (9, 0x1122334455667788)] })) : State).uop ((37 : Fin 256)) ((6 : Fin 8))).m 0 14) % 2 ^ 64) + (2 ^ fld ((((seqAt 7340032 44038466439488440645496105364631846912 { (default : Thread) with pc := 100, regs := [(1, 65524), (9, 0x1122334455667788)] })) : State).uop ((37 : Fin 256)) ((6 : Fin 8))).m 14 2) ≤ 65536) := by decide +kernel
theorem wit_AMicrowordIssues_seqNext_c36 : ((((seqAt 7340032 22772116581144420385942325024228638720 { (default : Thread) with pc := 100, regs := [(1, 65520)] })) : State).mayIssue ((37 : Fin 256)) ((6 : Fin 8)) = true) ∧ (((((seqAt 7340032 22772116581144420385942325024228638720 { (default : Thread) with pc := 100, regs := [(1, 65520)] })) : State).thread ((37 : Fin 256)) ((6 : Fin 8))).waiting = false) ∧ ((((seqAt 7340032 22772116581144420385942325024228638720 { (default : Thread) with pc := 100, regs := [(1, 65520)] })) : State).roleOf ((37 : Fin 256)) = some ((3 : Nat))) ∧ ((((seqAt 7340032 22772116581144420385942325024228638720 { (default : Thread) with pc := 100, regs := [(1, 65520)] })) : State).on (PMC_TAG_CTL (((37 : Fin 256)).val / 16)) PMC_TAG_CTL_EN = false) ∧ (fld ((((seqAt 7340032 22772116581144420385942325024228638720 { (default : Thread) with pc := 100, regs := [(1, 65520)] })) : State).uop ((37 : Fin 256)) ((6 : Fin 8))).m 28 4 = 1) ∧ (fld ((((seqAt 7340032 22772116581144420385942325024228638720 { (default : Thread) with pc := 100, regs := [(1, 65520)] })) : State).uop ((37 : Fin 256)) ((6 : Fin 8))).m 26 2 = 0) ∧ (fld ((((seqAt 7340032 22772116581144420385942325024228638720 { (default : Thread) with pc := 100, regs := [(1, 65520)] })) : State).uop ((37 : Fin 256)) ((6 : Fin 8))).a 27 5 = 0) ∧ (fld ((((seqAt 7340032 22772116581144420385942325024228638720 { (default : Thread) with pc := 100, regs := [(1, 65520)] })) : State).uop ((37 : Fin 256)) ((6 : Fin 8))).b 27 5 = 0) ∧ (fld ((((seqAt 7340032 22772116581144420385942325024228638720 { (default : Thread) with pc := 100, regs := [(1, 65520)] })) : State).uop ((37 : Fin 256)) ((6 : Fin 8))).q 13 3 = 0) ∧ (((((seqAt 7340032 22772116581144420385942325024228638720 { (default : Thread) with pc := 100, regs := [(1, 65520)] })) : State).uop ((37 : Fin 256)) ((6 : Fin 8))).seq = 0) ∧ (((((seqAt 7340032 22772116581144420385942325024228638720 { (default : Thread) with pc := 100, regs := [(1, 65520)] })) : State).uop ((37 : Fin 256)) ((6 : Fin 8))).nano ≠ 0) ∧ ((((seqAt 7340032 22772116581144420385942325024228638720 { (default : Thread) with pc := 100, regs := [(1, 65520)] })) : State).rd64 (PMC_SLOT_RETIRED (16 * (((37 : Fin 256)).val / 16) + ((3 : Nat)))) + 1 < 2 ^ 48) ∧ (((((((seqAt 7340032 22772116581144420385942325024228638720 { (default : Thread) with pc := 100, regs := [(1, 65520)] })) : State).thread ((37 : Fin 256)) ((6 : Fin 8))).r (fld ((((seqAt 7340032 22772116581144420385942325024228638720 { (default : Thread) with pc := 100, regs := [(1, 65520)] })) : State).uop ((37 : Fin 256)) ((6 : Fin 8))).m 16 5) + fld ((((seqAt 7340032 22772116581144420385942325024228638720 { (default : Thread) with pc := 100, regs := [(1, 65520)] })) : State).uop ((37 : Fin 256)) ((6 : Fin 8))).m 0 14) % 2 ^ 64) % (2 ^ fld ((((seqAt 7340032 22772116581144420385942325024228638720 { (default : Thread) with pc := 100, regs := [(1, 65520)] })) : State).uop ((37 : Fin 256)) ((6 : Fin 8))).m 14 2) = 0) ∧ (((((((seqAt 7340032 22772116581144420385942325024228638720 { (default : Thread) with pc := 100, regs := [(1, 65520)] })) : State).thread ((37 : Fin 256)) ((6 : Fin 8))).r (fld ((((seqAt 7340032 22772116581144420385942325024228638720 { (default : Thread) with pc := 100, regs := [(1, 65520)] })) : State).uop ((37 : Fin 256)) ((6 : Fin 8))).m 16 5) + fld ((((seqAt 7340032 22772116581144420385942325024228638720 { (default : Thread) with pc := 100, regs := [(1, 65520)] })) : State).uop ((37 : Fin 256)) ((6 : Fin 8))).m 0 14) % 2 ^ 64) + (2 ^ fld ((((seqAt 7340032 22772116581144420385942325024228638720 { (default : Thread) with pc := 100, regs := [(1, 65520)] })) : State).uop ((37 : Fin 256)) ((6 : Fin 8))).m 14 2) ≤ 65536) := by decide +kernel
theorem wit_SwapsMoveARoleToTheSpare_swapGo_c0 : (((swapAt []) : State).reaches (Agent.hpb) (SHU_SWAP ((2 : Fin 16))) = true) ∧ (((bset (bset 0x80000000#32 SHU_SWAP_ROLE.lo SHU_SWAP_ROLE.w 3) SHU_SWAP_RETIRE.lo SHU_SWAP_RETIRE.w 0)).getLsbD 31 = true) ∧ ((((swapAt []) : State).shu.swaps.look ((2 : Fin 16))) = none) ∧ (((swapAt []) : State).on (SHU_STATUS ((2 : Fin 16))) SHU_STATUS_SPARE_VALID = true) ∧ ((((swapAt []) : State).on (SHU_MAP ((2 : Fin 16)) (bget ((bset (bset 0x80000000#32 SHU_SWAP_ROLE.lo SHU_SWAP_ROLE.w 3) SHU_SWAP_RETIRE.lo SHU_SWAP_RETIRE.w 0)) SHU_SWAP_ROLE.lo SHU_SWAP_ROLE.w)) SHU_MAP_VALID = true ∧ ((swapAt []) : State).g (SHU_MAP ((2 : Fin 16)) (bget ((bset (bset 0x80000000#32 SHU_SWAP_ROLE.lo SHU_SWAP_ROLE.w 3) SHU_SWAP_RETIRE.lo SHU_SWAP_RETIRE.w 0)) SHU_SWAP_ROLE.lo SHU_SWAP_ROLE.w)) SHU_MAP_KIND ≠ 6)) := by decide +kernel
theorem wit_SwapsMoveARoleToTheSpare_swapGo_c0_w1 : (((swapAt []) : State).reaches (Agent.hpb) (SHU_SWAP ((2 : Fin 16))) = true) ∧ (((bset (bset 0x80000000#32 SHU_SWAP_ROLE.lo SHU_SWAP_ROLE.w 3) SHU_SWAP_RETIRE.lo SHU_SWAP_RETIRE.w 1)).getLsbD 31 = true) ∧ ((((swapAt []) : State).shu.swaps.look ((2 : Fin 16))) = none) ∧ (((swapAt []) : State).on (SHU_STATUS ((2 : Fin 16))) SHU_STATUS_SPARE_VALID = true) ∧ ((((swapAt []) : State).on (SHU_MAP ((2 : Fin 16)) (bget ((bset (bset 0x80000000#32 SHU_SWAP_ROLE.lo SHU_SWAP_ROLE.w 3) SHU_SWAP_RETIRE.lo SHU_SWAP_RETIRE.w 1)) SHU_SWAP_ROLE.lo SHU_SWAP_ROLE.w)) SHU_MAP_VALID = true ∧ ((swapAt []) : State).g (SHU_MAP ((2 : Fin 16)) (bget ((bset (bset 0x80000000#32 SHU_SWAP_ROLE.lo SHU_SWAP_ROLE.w 3) SHU_SWAP_RETIRE.lo SHU_SWAP_RETIRE.w 1)) SHU_SWAP_ROLE.lo SHU_SWAP_ROLE.w)) SHU_MAP_KIND ≠ 6)) := by decide +kernel
theorem wit_SwapsMoveARoleToTheSpare_swapGo_c1 : (((swapAt [(2, some ⟨3, false, false, 0⟩)]) : State).reaches (Agent.hpb) (SHU_SWAP ((2 : Fin 16))) = true) ∧ (((bset (bset 0x80000000#32 SHU_SWAP_ROLE.lo SHU_SWAP_ROLE.w 3) SHU_SWAP_RETIRE.lo SHU_SWAP_RETIRE.w 0)).getLsbD 31 = true) ∧ ((((swapAt [(2, some ⟨3, false, false, 0⟩)]) : State).shu.swaps.look ((2 : Fin 16))) ≠ none) := by decide +kernel
theorem wit_SwapsMoveARoleToTheSpare_swapGo_c2 : ((((swapAt []).p (SHU_STATUS 2) SHU_STATUS_SPARE_VALID 0) : State).reaches (Agent.hpb) (SHU_SWAP ((2 : Fin 16))) = true) ∧ (((bset (bset 0x80000000#32 SHU_SWAP_ROLE.lo SHU_SWAP_ROLE.w 3) SHU_SWAP_RETIRE.lo SHU_SWAP_RETIRE.w 0)).getLsbD 31 = true) ∧ (((((swapAt []).p (SHU_STATUS 2) SHU_STATUS_SPARE_VALID 0) : State).shu.swaps.look ((2 : Fin 16))) = none) ∧ ((((swapAt []).p (SHU_STATUS 2) SHU_STATUS_SPARE_VALID 0) : State).on (SHU_STATUS ((2 : Fin 16))) SHU_STATUS_SPARE_VALID = false) := by decide +kernel
theorem wit_SwapsMoveARoleToTheSpare_swapGo_c3 : (((swapAt []) : State).reaches (Agent.hpb) (SHU_SWAP ((2 : Fin 16))) = true) ∧ (((bset (bset 0x80000000#32 SHU_SWAP_ROLE.lo SHU_SWAP_ROLE.w 4) SHU_SWAP_RETIRE.lo SHU_SWAP_RETIRE.w 0)).getLsbD 31 = true) ∧ ((((swapAt []) : State).shu.swaps.look ((2 : Fin 16))) = none) ∧ (((swapAt []) : State).on (SHU_STATUS ((2 : Fin 16))) SHU_STATUS_SPARE_VALID = true) ∧ (¬ (((swapAt []) : State).on (SHU_MAP ((2 : Fin 16)) (bget ((bset (bset 0x80000000#32 SHU_SWAP_ROLE.lo SHU_SWAP_ROLE.w 4) SHU_SWAP_RETIRE.lo SHU_SWAP_RETIRE.w 0)) SHU_SWAP_ROLE.lo SHU_SWAP_ROLE.w)) SHU_MAP_VALID = true ∧ ((swapAt []) : State).g (SHU_MAP ((2 : Fin 16)) (bget ((bset (bset 0x80000000#32 SHU_SWAP_ROLE.lo SHU_SWAP_ROLE.w 4) SHU_SWAP_RETIRE.lo SHU_SWAP_RETIRE.w 0)) SHU_SWAP_ROLE.lo SHU_SWAP_ROLE.w)) SHU_MAP_KIND ≠ 6)) := by decide +kernel
theorem wit_SwapsMoveARoleToTheSpare_swapGo_c3_w1 : (((swapAt []) : State).reaches (Agent.hpb) (SHU_SWAP ((2 : Fin 16))) = true) ∧ (((bset (bset 0x80000000#32 SHU_SWAP_ROLE.lo SHU_SWAP_ROLE.w 9) SHU_SWAP_RETIRE.lo SHU_SWAP_RETIRE.w 0)).getLsbD 31 = true) ∧ ((((swapAt []) : State).shu.swaps.look ((2 : Fin 16))) = none) ∧ (((swapAt []) : State).on (SHU_STATUS ((2 : Fin 16))) SHU_STATUS_SPARE_VALID = true) ∧ (¬ (((swapAt []) : State).on (SHU_MAP ((2 : Fin 16)) (bget ((bset (bset 0x80000000#32 SHU_SWAP_ROLE.lo SHU_SWAP_ROLE.w 9) SHU_SWAP_RETIRE.lo SHU_SWAP_RETIRE.w 0)) SHU_SWAP_ROLE.lo SHU_SWAP_ROLE.w)) SHU_MAP_VALID = true ∧ ((swapAt []) : State).g (SHU_MAP ((2 : Fin 16)) (bget ((bset (bset 0x80000000#32 SHU_SWAP_ROLE.lo SHU_SWAP_ROLE.w 9) SHU_SWAP_RETIRE.lo SHU_SWAP_RETIRE.w 0)) SHU_SWAP_ROLE.lo SHU_SWAP_ROLE.w)) SHU_MAP_KIND ≠ 6)) := by decide +kernel
theorem wit_SwapsMoveARoleToTheSpare_spareLoaded_c4 : ((((swapAt [(2, some ⟨3, false, false, 0⟩)]) : State).shu.swaps.look ((2 : Fin 16))) = some ((⟨3, false, false, 0⟩ : Swap))) ∧ (((⟨3, false, false, 0⟩ : Swap)).phase = 0) ∧ (((swapAt [(2, some ⟨3, false, false, 0⟩)]) : State).roleImage ((2 : Fin 16)) ((⟨3, false, false, 0⟩ : Swap)).role = some ((imgA))) ∧ (((imgA)).words.length ≤ 16384) := by decide +kernel
theorem wit_SwapsMoveARoleToTheSpare_spareLoaded_c5 : ((((swapAt [(2, some ⟨3, false, false, 0⟩)]) : State).shu.swaps.look ((2 : Fin 16))) = some ((⟨3, false, false, 0⟩ : Swap))) ∧ (((⟨3, false, false, 0⟩ : Swap)).phase = 0) ∧ (((swapAt [(2, some ⟨3, false, false, 0⟩)]) : State).roleImage ((2 : Fin 16)) ((⟨3, false, false, 0⟩ : Swap)).role = some ((imgA))) ∧ ((((swapAt [(2, some ⟨3, false, false, 0⟩)]) : State).shu.waitingSwaps.look ((2 : Fin 16))) = []) := by decide +kernel
theorem wit_SwapsMoveARoleToTheSpare_spareLoaded_c6 : (((swapAt [] : State).shu.swaps.look ((2 : Fin 16))).all (fun w => decide (w.phase ≠ 0)) = true) := by decide +kernel
theorem wit_SwapsMoveARoleToTheSpare_spareLoaded_c6_w1 : (((swapAt [(2, some ⟨3, false, false, 1⟩)] : State).shu.swaps.look ((2 : Fin 16))).all (fun w => decide (w.phase ≠ 0)) = true) := by decide +kernel
theorem wit_SwapsMoveARoleToTheSpare_swapFrameBoundary_c7 : (((swapAt [(2, some ⟨3, false, false, 0⟩)] : State).shu.swaps.look ((2 : Fin 16))).all (fun w => decide (w.phase ≠ 1)) = true) := by decide +kernel
theorem wit_SwapsMoveARoleToTheSpare_swapFrameBoundary_c8 : ((((swapAt [(2, some ⟨3, false, false, 1⟩)]) : State).shu.swaps.look ((2 : Fin 16))) = some ((⟨3, false, false, 1⟩ : Swap))) ∧ (((⟨3, false, false, 1⟩ : Swap)).phase = 1) := by decide +kernel
theorem wit_SwapsMoveARoleToTheSpare_swapQuiesceTimeout_c9 : ((((swapAt [(2, some ⟨3, false, false, 2⟩)]) : State).shu.swaps.look ((2 : Fin 16))) = some ((⟨3, false, false, 2⟩ : Swap))) ∧ (((⟨3, false, false, 2⟩ : Swap)).phase = 2) := by decide +kernel
theorem wit_SwapsMoveARoleToTheSpare_swapQuiesceTimeout_c10 : (((swapAt [(2, some ⟨3, false, false, 0⟩)] : State).shu.swaps.look ((2 : Fin 16))).all (fun w => decide (w.phase ≠ 2)) = true) := by decide +kernel
theorem wit_SwapsMoveARoleToTheSpare_swapComplete_c11 : (((((swapAt [(2, some ⟨3, false, false, 1⟩)]) : State).shu.swaps.look ((2 : Fin 16))) = none ∨ ((((swapAt [(2, some ⟨3, false, false, 1⟩)]) : State).shu.swaps.look ((2 : Fin 16))) = some ((⟨3, false, false, 1⟩ : Swap)) ∧ (((⟨3, false, false, 1⟩ : Swap)).phase ≠ 2 ∨ ¬ (∀ i : Fin 8, ((swapAt [(2, some ⟨3, false, false, 1⟩)]) : State).quiet (((swapAt [(2, some ⟨3, false, false, 1⟩)]) : State).holder ((2 : Fin 16)) ((⟨3, false, false, 1⟩ : Swap)).role) i = true))))) := by decide +kernel
theorem wit_SwapsMoveARoleToTheSpare_swapComplete_c11_w1 : (((((swapAt [(2, some ⟨3, false, false, 2⟩)]) : State).shu.swaps.look ((2 : Fin 16))) = none ∨ ((((swapAt [(2, some ⟨3, false, false, 2⟩)]) : State).shu.swaps.look ((2 : Fin 16))) = some ((⟨3, false, false, 2⟩ : Swap)) ∧ (((⟨3, false, false, 2⟩ : Swap)).phase ≠ 2 ∨ ¬ (∀ i : Fin 8, ((swapAt [(2, some ⟨3, false, false, 2⟩)]) : State).quiet (((swapAt [(2, some ⟨3, false, false, 2⟩)]) : State).holder ((2 : Fin 16)) ((⟨3, false, false, 2⟩ : Swap)).role) i = true))))) := by decide +kernel
theorem wit_SwapsMoveARoleToTheSpare_swapComplete_c12 : ((((swapRest [(2, some ⟨3, false, false, 2⟩)]) : State).shu.swaps.look ((2 : Fin 16))) = some ((⟨3, false, false, 2⟩ : Swap))) ∧ (((⟨3, false, false, 2⟩ : Swap)).phase = 2) ∧ ((∀ i : Fin 8, ((swapRest [(2, some ⟨3, false, false, 2⟩)]) : State).quiet (((swapRest [(2, some ⟨3, false, false, 2⟩)]) : State).holder ((2 : Fin 16)) ((⟨3, false, false, 2⟩ : Swap)).role) i = true)) ∧ (((swapRest [(2, some ⟨3, false, false, 2⟩)]) : State).spareRole ((2 : Fin 16)) = some ((9 : Nat))) ∧ (((⟨3, false, false, 2⟩ : Swap)).role < 16) ∧ (((⟨3, false, false, 2⟩ : Swap)).role ≠ ((9 : Nat))) ∧ ((((swapRest [(2, some ⟨3, false, false, 2⟩)]) : State).shu.waitingSwaps.look ((2 : Fin 16))) = []) ∧ (((⟨3, false, false, 2⟩ : Swap)).refresh = false) := by decide +kernel
theorem wit_SwapsMoveARoleToTheSpare_swapComplete_c12_w1 : ((({ (swapRest [(2, some ⟨3, false, false, 2⟩)]) with shu := { (swapRest [(2, some ⟨3, false, false, 2⟩)]).shu with svc := [(9, some (svcR 0 []))] } } : State).shu.swaps.look ((2 : Fin 16))) = some ((⟨3, false, false, 2⟩ : Swap))) ∧ (((⟨3, false, false, 2⟩ : Swap)).phase = 2) ∧ ((∀ i : Fin 8, ({ (swapRest [(2, some ⟨3, false, false, 2⟩)]) with shu := { (swapRest [(2, some ⟨3, false, false, 2⟩)]).shu with svc := [(9, some (svcR 0 []))] } } : State).quiet (({ (swapRest [(2, some ⟨3, false, false, 2⟩)]) with shu := { (swapRest [(2, some ⟨3, false, false, 2⟩)]).shu with svc := [(9, some (svcR 0 []))] } } : State).holder ((2 : Fin 16)) ((⟨3, false, false, 2⟩ : Swap)).role) i = true)) ∧ (({ (swapRest [(2, some ⟨3, false, false, 2⟩)]) with shu := { (swapRest [(2, some ⟨3, false, false, 2⟩)]).shu with svc := [(9, some (svcR 0 []))] } } : State).spareRole ((2 : Fin 16)) = some ((9 : Nat))) ∧ (((⟨3, false, false, 2⟩ : Swap)).role < 16) ∧ (((⟨3, false, false, 2⟩ : Swap)).role ≠ ((9 : Nat))) ∧ ((({ (swapRest [(2, some ⟨3, false, false, 2⟩)]) with shu := { (swapRest [(2, some ⟨3, false, false, 2⟩)]).shu with svc := [(9, some (svcR 0 []))] } } : State).shu.waitingSwaps.look ((2 : Fin 16))) = []) ∧ (((⟨3, false, false, 2⟩ : Swap)).refresh = false) := by decide +kernel
theorem wit_SwapsMoveARoleToTheSpare_swapComplete_c12_w2 : ((((swapRest [(2, some ⟨3, true, false, 2⟩)]) : State).shu.swaps.look ((2 : Fin 16))) = some ((⟨3, true, false, 2⟩ : Swap))) ∧ (((⟨3, true, false, 2⟩ : Swap)).phase = 2) ∧ ((∀ i : Fin 8, ((swapRest [(2, some ⟨3, true, false, 2⟩)]) : State).quiet (((swapRest [(2, some ⟨3, true, false, 2⟩)]) : State).holder ((2 : Fin 16)) ((⟨3, true, false, 2⟩ : Swap)).role) i = true)) ∧ (((swapRest [(2, some ⟨3, true, false, 2⟩)]) : State).spareRole ((2 : Fin 16)) = some ((9 : Nat))) ∧ (((⟨3, true, false, 2⟩ : Swap)).role < 16) ∧ (((⟨3, true, false, 2⟩ : Swap)).role ≠ ((9 : Nat))) ∧ ((((swapRest [(2, some ⟨3, true, false, 2⟩)]) : State).shu.waitingSwaps.look ((2 : Fin 16))) = []) ∧ (((⟨3, true, false, 2⟩ : Swap)).refresh = false) := by decide +kernel
theorem wit_SwapsMoveARoleToTheSpare_swapComplete_c13 : ((((swapRest [(2, some ⟨3, false, true, 2⟩)]) : State).shu.swaps.look ((2 : Fin 16))) = some ((⟨3, false, true, 2⟩ : Swap))) ∧ (((⟨3, false, true, 2⟩ : Swap)).phase = 2) ∧ ((∀ i : Fin 8, ((swapRest [(2, some ⟨3, false, true, 2⟩)]) : State).quiet (((swapRest [(2, some ⟨3, false, true, 2⟩)]) : State).holder ((2 : Fin 16)) ((⟨3, false, true, 2⟩ : Swap)).role) i = true)) ∧ (((swapRest [(2, some ⟨3, false, true, 2⟩)]) : State).spareRole ((2 : Fin 16)) = some ((9 : Nat))) ∧ (((⟨3, false, true, 2⟩ : Swap)).role < 16) ∧ (((⟨3, false, true, 2⟩ : Swap)).role ≠ ((9 : Nat))) ∧ ((((swapRest [(2, some ⟨3, false, true, 2⟩)]) : State).shu.waitingSwaps.look ((2 : Fin 16))) = []) ∧ (((⟨3, false, true, 2⟩ : Swap)).refresh = true) ∧ (((⟨3, false, true, 2⟩ : Swap)).retire = false) ∧ ((true) = true) := by decide +kernel
theorem wit_SwapsMoveARoleToTheSpare_swapComplete_c13_w1 : ((((swapRest [(2, some ⟨3, false, true, 2⟩)]) : State).shu.swaps.look ((2 : Fin 16))) = some ((⟨3, false, true, 2⟩ : Swap))) ∧ (((⟨3, false, true, 2⟩ : Swap)).phase = 2) ∧ ((∀ i : Fin 8, ((swapRest [(2, some ⟨3, false, true, 2⟩)]) : State).quiet (((swapRest [(2, some ⟨3, false, true, 2⟩)]) : State).holder ((2 : Fin 16)) ((⟨3, false, true, 2⟩ : Swap)).role) i = true)) ∧ (((swapRest [(2, some ⟨3, false, true, 2⟩)]) : State).spareRole ((2 : Fin 16)) = some ((9 : Nat))) ∧ (((⟨3, false, true, 2⟩ : Swap)).role < 16) ∧ (((⟨3, false, true, 2⟩ : Swap)).role ≠ ((9 : Nat))) ∧ ((((swapRest [(2, some ⟨3, false, true, 2⟩)]) : State).shu.waitingSwaps.look ((2 : Fin 16))) = []) ∧ (((⟨3, false, true, 2⟩ : Swap)).refresh = true) ∧ (((⟨3, false, true, 2⟩ : Swap)).retire = false) ∧ ((true) = true) := by decide +kernel
theorem wit_SwapsMoveARoleToTheSpare_refreshStep_c14 : (({ ((swapAt []).p (SHU_REFRESH 2) SHU_REFRESH_EN 1 |>.p (MEM_STATUS 0) MEM_STATUS_RANKS_PRESENT 1 |>.p (MEM_STATUS 0) MEM_STATUS_TRAINED 1) with now := 70000000000000 } : State).refreshDue ((2 : Fin 16)) = true) ∧ (¬ (({ ((swapAt []).p (SHU_REFRESH 2) SHU_REFRESH_EN 1 |>.p (MEM_STATUS 0) MEM_STATUS_RANKS_PRESENT 1 |>.p (MEM_STATUS 0) MEM_STATUS_TRAINED 1) with now := 70000000000000 } : State).on (SHU_STATUS ((2 : Fin 16))) SHU_STATUS_SPARE_VALID = false ∨ ({ ((swapAt []).p (SHU_REFRESH 2) SHU_REFRESH_EN 1 |>.p (MEM_STATUS 0) MEM_STATUS_RANKS_PRESENT 1 |>.p (MEM_STATUS 0) MEM_STATUS_TRAINED 1) with now := 70000000000000 } : State).gatedK ((2 : Fin 16)) = true ∨ ({ ((swapAt []).p (SHU_REFRESH 2) SHU_REFRESH_EN 1 |>.p (MEM_STATUS 0) MEM_STATUS_RANKS_PRESENT 1 |>.p (MEM_STATUS 0) MEM_STATUS_TRAINED 1) with now := 70000000000000 } : State).reweaving ((2 : Fin 16)) = true ∨ ({ ((swapAt []).p (SHU_REFRESH 2) SHU_REFRESH_EN 1 |>.p (MEM_STATUS 0) MEM_STATUS_RANKS_PRESENT 1 |>.p (MEM_STATUS 0) MEM_STATUS_TRAINED 1) with now := 70000000000000 } : State).ddrTrained = false)) ∧ (({ ((swapAt []).p (SHU_REFRESH 2) SHU_REFRESH_EN 1 |>.p (MEM_STATUS 0) MEM_STATUS_RANKS_PRESENT 1 |>.p (MEM_STATUS 0) MEM_STATUS_TRAINED 1) with now := 70000000000000 } : State).roleFrom ((2 : Fin 16)) (({ ((swapAt []).p (SHU_REFRESH 2) SHU_REFRESH_EN 1 |>.p (MEM_STATUS 0) MEM_STATUS_RANKS_PRESENT 1 |>.p (MEM_STATUS 0) MEM_STATUS_TRAINED 1) with now := 70000000000000 } : State).shu.refreshNext.look ((2 : Fin 16))) = some ((3 : Nat))) ∧ ((({ ((swapAt []).p (SHU_REFRESH 2) SHU_REFRESH_EN 1 |>.p (MEM_STATUS 0) MEM_STATUS_RANKS_PRESENT 1 |>.p (MEM_STATUS 0) MEM_STATUS_TRAINED 1) with now := 70000000000000 } : State).shu.swaps.look ((2 : Fin 16))) = none) := by decide +kernel
theorem wit_SwapsMoveARoleToTheSpare_refreshStep_c15 : (({ ((swapAt [(2, some ⟨5, false, false, 0⟩)]).p (SHU_REFRESH 2) SHU_REFRESH_EN 1 |>.p (MEM_STATUS 0) MEM_STATUS_RANKS_PRESENT 1 |>.p (MEM_STATUS 0) MEM_STATUS_TRAINED 1) with now := 70000000000000 } : State).refreshDue ((2 : Fin 16)) = true) ∧ (¬ (({ ((swapAt [(2, some ⟨5, false, false, 0⟩)]).p (SHU_REFRESH 2) SHU_REFRESH_EN 1 |>.p (MEM_STATUS 0) MEM_STATUS_RANKS_PRESENT 1 |>.p (MEM_STATUS 0) MEM_STATUS_TRAINED 1) with now := 70000000000000 } : State).on (SHU_STATUS ((2 : Fin 16))) SHU_STATUS_SPARE_VALID = false ∨ ({ ((swapAt [(2, some ⟨5, false, false, 0⟩)]).p (SHU_REFRESH 2) SHU_REFRESH_EN 1 |>.p (MEM_STATUS 0) MEM_STATUS_RANKS_PRESENT 1 |>.p (MEM_STATUS 0) MEM_STATUS_TRAINED 1) with now := 70000000000000 } : State).gatedK ((2 : Fin 16)) = true ∨ ({ ((swapAt [(2, some ⟨5, false, false, 0⟩)]).p (SHU_REFRESH 2) SHU_REFRESH_EN 1 |>.p (MEM_STATUS 0) MEM_STATUS_RANKS_PRESENT 1 |>.p (MEM_STATUS 0) MEM_STATUS_TRAINED 1) with now := 70000000000000 } : State).reweaving ((2 : Fin 16)) = true ∨ ({ ((swapAt [(2, some ⟨5, false, false, 0⟩)]).p (SHU_REFRESH 2) SHU_REFRESH_EN 1 |>.p (MEM_STATUS 0) MEM_STATUS_RANKS_PRESENT 1 |>.p (MEM_STATUS 0) MEM_STATUS_TRAINED 1) with now := 70000000000000 } : State).ddrTrained = false)) ∧ (({ ((swapAt [(2, some ⟨5, false, false, 0⟩)]).p (SHU_REFRESH 2) SHU_REFRESH_EN 1 |>.p (MEM_STATUS 0) MEM_STATUS_RANKS_PRESENT 1 |>.p (MEM_STATUS 0) MEM_STATUS_TRAINED 1) with now := 70000000000000 } : State).roleFrom ((2 : Fin 16)) (({ ((swapAt [(2, some ⟨5, false, false, 0⟩)]).p (SHU_REFRESH 2) SHU_REFRESH_EN 1 |>.p (MEM_STATUS 0) MEM_STATUS_RANKS_PRESENT 1 |>.p (MEM_STATUS 0) MEM_STATUS_TRAINED 1) with now := 70000000000000 } : State).shu.refreshNext.look ((2 : Fin 16))) = some ((3 : Nat))) ∧ ((({ ((swapAt [(2, some ⟨5, false, false, 0⟩)]).p (SHU_REFRESH 2) SHU_REFRESH_EN 1 |>.p (MEM_STATUS 0) MEM_STATUS_RANKS_PRESENT 1 |>.p (MEM_STATUS 0) MEM_STATUS_TRAINED 1) with now := 70000000000000 } : State).shu.swaps.look ((2 : Fin 16))) ≠ none) := by decide +kernel
theorem wit_SwapsMoveARoleToTheSpare_refreshStep_c16 : (({ ((swapAt []).p (SHU_REFRESH 2) SHU_REFRESH_EN 1) with now := 70000000000000 } : State).refreshDue ((2 : Fin 16)) = true) ∧ (((({ ((swapAt []).p (SHU_REFRESH 2) SHU_REFRESH_EN 1) with now := 70000000000000 } : State).on (SHU_STATUS ((2 : Fin 16))) SHU_STATUS_SPARE_VALID = false ∨ ({ ((swapAt []).p (SHU_REFRESH 2) SHU_REFRESH_EN 1) with now := 70000000000000 } : State).gatedK ((2 : Fin 16)) = true ∨ ({ ((swapAt []).p (SHU_REFRESH 2) SHU_REFRESH_EN 1) with now := 70000000000000 } : State).reweaving ((2 : Fin 16)) = true ∨ ({ ((swapAt []).p (SHU_REFRESH 2) SHU_REFRESH_EN 1) with now := 70000000000000 } : State).ddrTrained = false) ∨ ({ ((swapAt []).p (SHU_REFRESH 2) SHU_REFRESH_EN 1) with now := 70000000000000 } : State).roleFrom ((2 : Fin 16)) (({ ((swapAt []).p (SHU_REFRESH 2) SHU_REFRESH_EN 1) with now := 70000000000000 } : State).shu.refreshNext.look ((2 : Fin 16))) = none)) := by decide +kernel
theorem wit_SwapsMoveARoleToTheSpare_refreshStep_c17 : (({ ((swapAt []).p (SHU_REFRESH 2) SHU_REFRESH_EN 0 |>.p (MEM_STATUS 0) MEM_STATUS_RANKS_PRESENT 1 |>.p (MEM_STATUS 0) MEM_STATUS_TRAINED 1) with now := 70000000000000 } : State).refreshDue ((2 : Fin 16)) = false) := by decide +kernel
theorem wit_SwapsMoveARoleToTheSpare_refreshStep_c17_w1 : (({ ((swapAt []).p (SHU_REFRESH 2) SHU_REFRESH_EN 1 |>.p (MEM_STATUS 0) MEM_STATUS_RANKS_PRESENT 1 |>.p (MEM_STATUS 0) MEM_STATUS_TRAINED 1) with now := 9999999999 } : State).refreshDue ((2 : Fin 16)) = false) := by decide +kernel
theorem wit_DraftsAreFetchedVerifiedAndApplied_draftLoadGo_c0 : (((awake [6]) : State).reaches (Agent.hpb) DRF_CTL = true) ∧ ((0x80000000#32).getLsbD 31 = true) ∧ (((awake [6]) : State).drf.busy = false) ∧ ((bget (0x80000000#32) 28 3) < 6) := by decide +kernel
theorem wit_DraftsAreFetchedVerifiedAndApplied_draftLoadGo_c0_w1 : (((awake [6]) : State).reaches (Agent.hpb) DRF_CTL = true) ∧ ((0xD0000000#32).getLsbD 31 = true) ∧ (((awake [6]) : State).drf.busy = false) ∧ ((bget (0xD0000000#32) 28 3) < 6) := by decide +kernel
theorem wit_DraftsAreFetchedVerifiedAndApplied_draftLoadGo_c1 : ((({ awake [6] with drf := { (awake [6]).drf with busy := true } }) : State).reaches (Agent.hpb) DRF_CTL = true) ∧ ((0xB0000000#32).getLsbD 31 = true) ∧ ((({ awake [6] with drf := { (awake [6]).drf with busy := true } }) : State).drf.busy = true) := by decide +kernel
theorem wit_DraftsAreFetchedVerifiedAndApplied_draftLoadGo_c2 : (((awake [6]) : State).reaches (Agent.hpb) DRF_CTL = true) ∧ ((0xE0000000#32).getLsbD 31 = true) ∧ (((awake [6]) : State).drf.busy = false) ∧ (6 ≤ (bget (0xE0000000#32) 28 3)) := by decide +kernel
theorem wit_DraftsAreFetchedVerifiedAndApplied_draftStreamWrite_c3 : ((((awake [6]).p DRF_CTL DRF_CTL_SRC 3) : State).reaches (Agent.hpa) (DRF_STREAM ((16383 : Fin 16384))) = true) ∧ (agCode (Agent.hpa) ≤ 1) ∧ ((((awake [6]).p DRF_CTL DRF_CTL_SRC 3) : State).g DRF_CTL DRF_CTL_SRC = 3 + agCode (Agent.hpa)) := by decide +kernel
theorem wit_DraftsAreFetchedVerifiedAndApplied_draftStreamWrite_c3_w1 : ((((awake [6]).p DRF_CTL DRF_CTL_SRC 4) : State).reaches (Agent.hpb) (DRF_STREAM ((16383 : Fin 16384))) = true) ∧ (agCode (Agent.hpb) ≤ 1) ∧ ((((awake [6]).p DRF_CTL DRF_CTL_SRC 4) : State).g DRF_CTL DRF_CTL_SRC = 3 + agCode (Agent.hpb)) := by decide +kernel
theorem wit_DraftsAreFetchedVerifiedAndApplied_draftStreamWrite_c4 : ((((awake [6]).p DRF_CTL DRF_CTL_SRC 4) : State).reaches (Agent.hpa) (DRF_STREAM ((16383 : Fin 16384))) = true) ∧ (¬ (agCode (Agent.hpa) ≤ 1 ∧ (((awake [6]).p DRF_CTL DRF_CTL_SRC 4) : State).g DRF_CTL DRF_CTL_SRC = 3 + agCode (Agent.hpa))) := by decide +kernel
theorem wit_DraftsAreFetchedVerifiedAndApplied_draftFetched_c5 : (((loading false 1 1 []) : State).drf.busy = true) ∧ (((loading false 1 1 []) : State).g DRF_STATUS DRF_STATUS_STATE = 1) ∧ ((((loading false 1 1 []) : State).fetchErr (((loading false 1 1 []) : State).drfSource ((fullDraft 2))).1 ((false) || (((loading false 1 1 []) : State).drfSource ((fullDraft 2))).2) (false)) = 0) := by decide +kernel
theorem wit_DraftsAreFetchedVerifiedAndApplied_draftFetched_c6 : (((loading false 1 1 []) : State).drf.busy = true) ∧ (((loading false 1 1 []) : State).g DRF_STATUS DRF_STATUS_STATE = 1) ∧ ((((loading false 1 1 []) : State).fetchErr (((loading false 1 1 []) : State).drfSource (([] : List Word))).1 ((false) || (((loading false 1 1 []) : State).drfSource (([] : List Word))).2) (false)) ≠ 0) ∧ (((loading false 1 1 []) : State).drf.boot = false) := by decide +kernel
theorem wit_DraftsAreFetchedVerifiedAndApplied_draftFetched_c6_w1 : (((loading false 0 1 []) : State).drf.busy = true) ∧ (((loading false 0 1 []) : State).g DRF_STATUS DRF_STATUS_STATE = 1) ∧ ((((loading false 0 1 []) : State).fetchErr (((loading false 0 1 []) : State).drfSource ((fullDraft 1))).1 ((true) || (((loading false 0 1 []) : State).drfSource ((fullDraft 1))).2) (false)) ≠ 0) ∧ (((loading false 0 1 []) : State).drf.boot = false) := by decide +kernel
theorem wit_DraftsAreFetchedVerifiedAndApplied_draftFetched_c7 : (((loading true 0 1 []) : State).drf.busy = true) ∧ (((loading true 0 1 []) : State).g DRF_STATUS DRF_STATUS_STATE = 1) ∧ ((((loading true 0 1 []) : State).fetchErr (((loading true 0 1 []) : State).drfSource (([] : List Word))).1 ((false) || (((loading true 0 1 []) : State).drfSource (([] : List Word))).2) (false)) ≠ 0) ∧ (((loading true 0 1 []) : State).drf.boot = true) ∧ (((loading true 0 1 []) : State).drf.src = 0) := by decide +kernel
theorem wit_DraftsAreFetchedVerifiedAndApplied_draftFetched_c8 : (((loading true 1 1 []) : State).drf.busy = true) ∧ (((loading true 1 1 []) : State).g DRF_STATUS DRF_STATUS_STATE = 1) ∧ ((((loading true 1 1 []) : State).fetchErr (((loading true 1 1 []) : State).drfSource (([] : List Word))).1 ((false) || (((loading true 1 1 []) : State).drfSource (([] : List Word))).2) (false)) ≠ 0) ∧ (((loading true 1 1 []) : State).drf.boot = true) ∧ (((loading true 1 1 []) : State).drf.src ≠ 0) := by decide +kernel
theorem wit_DraftsAreFetchedVerifiedAndApplied_draftFetched_c9 : (((awake [6] : State).drf.busy = false ∨ (awake [6] : State).g DRF_STATUS DRF_STATUS_STATE ≠ 1)) := by decide +kernel
theorem wit_DraftsAreFetchedVerifiedAndApplied_draftVerified_c10 : (((loading false 1 2 (fullDraft 0)) : State).drf.busy = true) ∧ (((loading false 1 2 (fullDraft 0)) : State).g DRF_STATUS DRF_STATUS_STATE = 2) ∧ ((((loading false 1 2 (fullDraft 0)) : State).verifyErr ((loading false 1 2 (fullDraft 0)) : State).drf.taken (false)) ≠ 0) ∧ (((loading false 1 2 (fullDraft 0)) : State).drf.boot = false) := by decide +kernel
theorem wit_DraftsAreFetchedVerifiedAndApplied_draftVerified_c11 : (((awake [6] : State).drf.busy = false ∨ (awake [6] : State).g DRF_STATUS DRF_STATUS_STATE ≠ 2)) := by decide +kernel
theorem wit_DraftsAreFetchedVerifiedAndApplied_draftVerified_c12 : (((loading false 1 2 (fullDraft 0)) : State).drf.busy = true) ∧ (((loading false 1 2 (fullDraft 0)) : State).g DRF_STATUS DRF_STATUS_STATE = 2) ∧ ((((loading false 1 2 (fullDraft 0)) : State).verifyErr ((loading false 1 2 (fullDraft 0)) : State).drf.taken (true)) = 0) ∧ ((draftOf ((loading false 1 2 (fullDraft 0)) : State).drf.taken).kind = 0) ∧ ((([] : List (Fin 256))) = []) := by decide +kernel
theorem wit_DraftsAreFetchedVerifiedAndApplied_draftVerified_c13 : (((loading false 1 2 (fullDraft 1)) : State).drf.busy = true) ∧ (((loading false 1 2 (fullDraft 1)) : State).g DRF_STATUS DRF_STATUS_STATE = 2) ∧ ((((loading false 1 2 (fullDraft 1)) : State).verifyErr ((loading false 1 2 (fullDraft 1)) : State).drf.taken (true)) = 0) ∧ ((draftOf ((loading false 1 2 (fullDraft 1)) : State).drf.taken).kind = 1) ∧ (((loading false 1 2 (fullDraft 1)) : State).drf.running ≠ none) := by decide +kernel
theorem wit_DraftsAreFetchedVerifiedAndApplied_draftVerified_c14 : (((loading false 1 2 (fullDraft 2)) : State).drf.busy = true) ∧ (((loading false 1 2 (fullDraft 2)) : State).g DRF_STATUS DRF_STATUS_STATE = 2) ∧ ((((loading false 1 2 (fullDraft 2)) : State).verifyErr ((loading false 1 2 (fullDraft 2)) : State).drf.taken (true)) = 0) ∧ (2 ≤ (draftOf ((loading false 1 2 (fullDraft 2)) : State).drf.taken).kind) ∧ (((loading false 1 2 (fullDraft 2)) : State).drf.running ≠ none) := by decide +kernel
theorem wit_DraftsAreFetchedVerifiedAndApplied_imageCacheCopy_c15 : (((awake [6] : State).ddrTrained = false ∨ (awake [6] : State).drf.running = none)) := by decide +kernel
theorem wit_DraftsAreFetchedVerifiedAndApplied_imageCacheCopy_c16 : ((((loading false 0 1 []).p (MEM_STATUS 0) MEM_STATUS_RANKS_PRESENT 1 |>.p (MEM_STATUS 0) MEM_STATUS_TRAINED 1) : State).ddrTrained = true) ∧ ((((loading false 0 1 []).p (MEM_STATUS 0) MEM_STATUS_RANKS_PRESENT 1 |>.p (MEM_STATUS 0) MEM_STATUS_TRAINED 1) : State).drf.running ≠ none) := by decide +kernel
theorem wit_DraftsAreFetchedVerifiedAndApplied_reweaveApply_c17 : ((quiesced : State).drf.reweave = some ((2 : Fin 16)).val) ∧ ((quiesced : State).drf.fetched = some (regDraft)) ∧ ((quiesced : State).g DRF_STATUS DRF_STATUS_STATE = 3) ∧ ((∀ c : Fin 64, c.val ∈ (quiesced : State).regionChans ((2 : Fin 16)) (regDraft) → (quiesced : State).chState c = 0 ∨ (quiesced : State).chState c = 4)) ∧ ((((quiesced : State).drfState 4).regionLoad ((2 : Fin 16)) (regDraft) (([] : List (Fin 256)))).2 = true) := by decide +kernel
theorem wit_DraftsAreFetchedVerifiedAndApplied_reweaveApply_c18 : ((quiesced : State).drf.reweave = some ((2 : Fin 16)).val) ∧ ((quiesced : State).drf.fetched = some (regDraft)) ∧ ((quiesced : State).g DRF_STATUS DRF_STATUS_STATE = 3) ∧ ((∀ c : Fin 64, c.val ∈ (quiesced : State).regionChans ((2 : Fin 16)) (regDraft) → (quiesced : State).chState c = 0 ∨ (quiesced : State).chState c = 4)) ∧ ((((quiesced : State).drfState 4).regionLoad ((2 : Fin 16)) (regDraft) (([35] : List (Fin 256)))).2 = false) := by decide +kernel
theorem wit_DraftsAreFetchedVerifiedAndApplied_reweaveApply_c18_w1 : ((quiesced : State).drf.reweave = some ((2 : Fin 16)).val) ∧ ((quiesced : State).drf.fetched = some (regDraft)) ∧ ((quiesced : State).g DRF_STATUS DRF_STATUS_STATE = 3) ∧ ((∀ c : Fin 64, c.val ∈ (quiesced : State).regionChans ((2 : Fin 16)) (regDraft) → (quiesced : State).chState c = 0 ∨ (quiesced : State).chState c = 4)) ∧ ((((quiesced : State).drfState 4).regionLoad ((2 : Fin 16)) (regDraft) (([35] : List (Fin 256)))).2 = false) := by decide +kernel
theorem wit_DraftsAreFetchedVerifiedAndApplied_reweaveApply_c19 : ((((quiesced.p (PCH_STATUS 5) PCH_STATUS_STATE 3) : State).drf.reweave = none ∨ ((quiesced.p (PCH_STATUS 5) PCH_STATUS_STATE 3) : State).g DRF_STATUS DRF_STATUS_STATE ≠ 3 ∨ (((quiesced.p (PCH_STATUS 5) PCH_STATUS_STATE 3) : State).drf.reweave = some ((2 : Fin 16)).val ∧ ((quiesced.p (PCH_STATUS 5) PCH_STATUS_STATE 3) : State).drf.fetched = some (regDraft) ∧ ∃ c : Fin 64, c.val ∈ ((quiesced.p (PCH_STATUS 5) PCH_STATUS_STATE 3) : State).regionChans ((2 : Fin 16)) (regDraft) ∧ ((quiesced.p (PCH_STATUS 5) PCH_STATUS_STATE 3) : State).chState c ≠ 0 ∧ ((quiesced.p (PCH_STATUS 5) PCH_STATUS_STATE 3) : State).chState c ≠ 4))) := by decide +kernel
theorem wit_FaultsAreCountedAndTheSafeStateHolds_faultEvent_c0 : (((false) && ((awake [4, 11]) : State).tmp.inj) = false) ∧ (classUnit ((0x20 : Fin 64)) = some (unitKind ((430 : Fin 632)))) ∧ (((awake [4, 11]) : State).mayRise ((0x20 : Fin 64)) ((430 : Fin 632)) = true) ∧ (((0x20 : Fin 64)).val ≠ 0x18) := by decide +kernel
theorem wit_FaultsAreCountedAndTheSafeStateHolds_faultEvent_c0_w1 : (((true) && ((awake [4, 11]) : State).tmp.inj) = false) ∧ (classUnit ((0x29 : Fin 64)) = some (unitKind ((600 : Fin 632)))) ∧ (((awake [4, 11]) : State).mayRise ((0x29 : Fin 64)) ((600 : Fin 632)) = true) ∧ (((0x29 : Fin 64)).val ≠ 0x18) := by decide +kernel
theorem wit_FaultsAreCountedAndTheSafeStateHolds_faultEvent_c1 : (((false) && ((awake [4, 11]) : State).tmp.inj) = false) ∧ (((0x18 : Fin 64)).val = 0x18) ∧ (unitKind ((400 : Fin 632)) = 3) := by decide +kernel
theorem wit_FaultsAreCountedAndTheSafeStateHolds_faultEvent_c2 : (((false) && ((awake [4, 11]) : State).tmp.inj) = false) ∧ ((((0x31 : Fin 64)).val = 0x31 ∨ ((0x31 : Fin 64)).val = 0x32)) ∧ (((awake [4, 11]) : State).causeLive ((0x31 : Fin 64)) = false) ∧ (((awake [4, 11]) : State).faultWaits ((0x31 : Fin 64)) = false) := by decide +kernel
theorem wit_FaultsAreCountedAndTheSafeStateHolds_faultEvent_c3 : (((false) && ((awake [4, 11]) : State).tmp.inj) = false) ∧ (((0x36 : Fin 64)).val = 0x36) ∧ (((awake [4, 11]) : State).causeLive ((0x36 : Fin 64)) = false) ∧ (((awake [4, 11]) : State).faultWaits ((0x36 : Fin 64)) = false) := by decide +kernel
theorem wit_FaultsAreCountedAndTheSafeStateHolds_faultEvent_c4 : (((false) && ((awake [4, 11]) : State).tmp.inj) = false) ∧ (((0x30 : Fin 64)).val = 0x30) ∧ (((awake [4, 11]) : State).causeLive ((0x30 : Fin 64)) = false) ∧ (((awake [4, 11]) : State).faultWaits ((0x30 : Fin 64)) = false) := by decide +kernel
theorem wit_FaultsAreCountedAndTheSafeStateHolds_faultEvent_c6 : ((({ awake [4, 11] with tmp := { (awake []).tmp with inj := true } }) : State).tmp.inj = true) ∧ (classUnit ((0x20 : Fin 64)) = some (unitKind ((430 : Fin 632)))) ∧ ((({ awake [4, 11] with tmp := { (awake []).tmp with inj := true } }) : State).mayRise ((0x20 : Fin 64)) ((430 : Fin 632)) = true) := by decide +kernel
theorem wit_FaultsAreCountedAndTheSafeStateHolds_txRestartDone_c14 : ((((chan { (default : Pch) with txRestart := true }) : State).pch.look ((5 : Fin 64))).txRestart = true) := by decide +kernel
theorem wit_FaultsAreCountedAndTheSafeStateHolds_txRestartDone_c15 : ((({ ((chan { (default : Pch) with txRestart := true }).p (PCH_STATUS 5) PCH_STATUS_STATE 2) with tmp := { (awake []).tmp with restart := [(5, 2)], runStart := [(5, some 0)] }, now := 9000000000 } : State).pch.look ((5 : Fin 64))).txRestart = true) ∧ (((({ ((chan { (default : Pch) with txRestart := true }).p (PCH_STATUS 5) PCH_STATUS_STATE 2) with tmp := { (awake []).tmp with restart := [(5, 2)], runStart := [(5, some 0)] }, now := 9000000000 } : State).tmp.restart.look ((5 : Fin 64))) = 1 ∨ (({ ((chan { (default : Pch) with txRestart := true }).p (PCH_STATUS 5) PCH_STATUS_STATE 2) with tmp := { (awake []).tmp with restart := [(5, 2)], runStart := [(5, some 0)] }, now := 9000000000 } : State).tmp.restart.look ((5 : Fin 64))) = 2)) ∧ ((({ ((chan { (default : Pch) with txRestart := true }).p (PCH_STATUS 5) PCH_STATUS_STATE 2) with tmp := { (awake []).tmp with restart := [(5, 2)], runStart := [(5, some 0)] }, now := 9000000000 } : State).chState ((5 : Fin 64)) = 1 ∨ ({ ((chan { (default : Pch) with txRestart := true }).p (PCH_STATUS 5) PCH_STATUS_STATE 2) with tmp := { (awake []).tmp with restart := [(5, 2)], runStart := [(5, some 0)] }, now := 9000000000 } : State).chState ((5 : Fin 64)) = 2 ∨ ({ ((chan { (default : Pch) with txRestart := true }).p (PCH_STATUS 5) PCH_STATUS_STATE 2) with tmp := { (awake []).tmp with restart := [(5, 2)], runStart := [(5, some 0)] }, now := 9000000000 } : State).chState ((5 : Fin 64)) = 3)) ∧ (({ ((chan { (default : Pch) with txRestart := true }).p (PCH_STATUS 5) PCH_STATUS_STATE 2) with tmp := { (awake []).tmp with restart := [(5, 2)], runStart := [(5, some 0)] }, now := 9000000000 } : State).tmp.runStart.look ((5 : Fin 64)) ≠ none) ∧ (({ ((chan { (default : Pch) with txRestart := true }).p (PCH_STATUS 5) PCH_STATUS_STATE 2) with tmp := { (awake []).tmp with restart := [(5, 2)], runStart := [(5, some 0)] }, now := 9000000000 } : State).g (unitReg ((5 : Fin 64)).val) TMP_UNIT_A_RUN < 3) ∧ ((({ ((chan { (default : Pch) with txRestart := true }).p (PCH_STATUS 5) PCH_STATUS_STATE 2) with tmp := { (awake []).tmp with restart := [(5, 2)], runStart := [(5, some 0)] }, now := 9000000000 } : State).unitHist ((5 : Fin 64))).length < 4) ∧ (({ ((chan { (default : Pch) with txRestart := true }).p (PCH_STATUS 5) PCH_STATUS_STATE 2) with tmp := { (awake []).tmp with restart := [(5, 2)], runStart := [(5, some 0)] }, now := 9000000000 } : State).retryHung (({ ((chan { (default : Pch) with txRestart := true }).p (PCH_STATUS 5) PCH_STATUS_STATE 2) with tmp := { (awake []).tmp with restart := [(5, 2)], runStart := [(5, some 0)] }, now := 9000000000 } : State).tmp.restart.look ((5 : Fin 64))) ((5 : Fin 64)) = false) := by decide +kernel
theorem wit_FaultsAreCountedAndTheSafeStateHolds_txRestartDone_c16 : (((awake [] : State).pch.look ((5 : Fin 64))).txRestart = false) := by decide +kernel
theorem wit_FaultsAreCountedAndTheSafeStateHolds_safeEnter_c17 : (((awake [4]) : State).reaches (Agent.hpb) TMP_SAFE = true) ∧ ((0x80000000#32).getLsbD 31 = true) ∧ (((0x80000000#32).getLsbD 30 = false ∨ 1 < agCode (Agent.hpb) ∨ ((awake [4]) : State).safe = false)) ∧ (((awake [4]) : State).causeLive 0x37 = false) ∧ (((awake [4]) : State).faultWaits 0x37 = false) := by decide +kernel
theorem wit_FaultsAreCountedAndTheSafeStateHolds_safeEnter_c17_w1 : (((awake [4]) : State).reaches (Agent.temple) TMP_SAFE = true) ∧ ((0xC0000000#32).getLsbD 31 = true) ∧ (((0xC0000000#32).getLsbD 30 = false ∨ 1 < agCode (Agent.temple) ∨ ((awake [4]) : State).safe = false)) ∧ (((awake [4]) : State).causeLive 0x37 = false) ∧ (((awake [4]) : State).faultWaits 0x37 = false) := by decide +kernel
theorem wit_FaultsAreCountedAndTheSafeStateHolds_safeEnter_c18 : ((((awake [4]).setCause 0x37 true) : State).reaches (Agent.hpb) TMP_SAFE = true) ∧ ((0x80000000#32).getLsbD 31 = true) ∧ (((0x80000000#32).getLsbD 30 = false ∨ 1 < agCode (Agent.hpb) ∨ (((awake [4]).setCause 0x37 true) : State).safe = false)) ∧ (((((awake [4]).setCause 0x37 true) : State).causeLive 0x37 = true ∨ (((awake [4]).setCause 0x37 true) : State).faultWaits 0x37 = true)) := by decide +kernel
theorem wit_FaultsAreCountedAndTheSafeStateHolds_safePin_c19 : ((awake [] : State).causeLive 0x34 = false) ∧ ((awake [] : State).faultWaits 0x34 = false) := by decide +kernel
theorem wit_FaultsAreCountedAndTheSafeStateHolds_safePin_c20 : (((false) = false ∨ ((awake []) : State).causeLive 0x34 = true ∨ ((awake []) : State).faultWaits 0x34 = true)) := by decide +kernel
theorem wit_FaultsAreCountedAndTheSafeStateHolds_safePin_c20_w1 : (((true) = false ∨ (((awake []).setCause 0x34 true) : State).causeLive 0x34 = true ∨ (((awake []).setCause 0x34 true) : State).faultWaits 0x34 = true)) := by decide +kernel
theorem wit_FaultsAreCountedAndTheSafeStateHolds_coreHeartbeatTimeout_c21 : ((awake [] : State).causeLive 0x32 = false) ∧ ((awake [] : State).faultWaits 0x32 = false) := by decide +kernel
theorem wit_FaultsAreCountedAndTheSafeStateHolds_coreHeartbeatTimeout_c22 : ((((awake []).setCause 0x32 true : State).causeLive 0x32 = true ∨ ((awake []).setCause 0x32 true : State).faultWaits 0x32 = true)) := by decide +kernel
theorem wit_FaultsAreCountedAndTheSafeStateHolds_safeCauseClear_c23 : (({ ((awake []).setCause 0x34 true) with now := 1000000 } : State).causeLive ((0x34 : Fin 64)) = true) ∧ (({ ((awake []).setCause 0x34 true) with now := 1000000 } : State).causeOver ((0x34 : Fin 64)) = true) := by decide +kernel
theorem wit_FaultsAreCountedAndTheSafeStateHolds_safeCauseClear_c23_w1 : ((((awake []).setCause 0x12 true) : State).causeLive ((0x12 : Fin 64)) = true) ∧ ((((awake []).setCause 0x12 true) : State).causeOver ((0x12 : Fin 64)) = true) := by decide +kernel
theorem wit_FaultsAreCountedAndTheSafeStateHolds_safeCauseClear_c24 : ((({ ((awake []).setCause 0x34 true) with now := 999999 } : State).causeLive ((0x34 : Fin 64)) = false ∨ ({ ((awake []).setCause 0x34 true) with now := 999999 } : State).causeOver ((0x34 : Fin 64)) = false)) := by decide +kernel
theorem wit_FaultsAreCountedAndTheSafeStateHolds_safeQuietExpiry_c25 : (({ ((awake [4]).p TMP_SAFE TMP_SAFE_STATE 1) with now := 3600000000000 } : State).g TMP_SAFE TMP_SAFE_STATE = 1) ∧ (({ ((awake [4]).p TMP_SAFE TMP_SAFE_STATE 1) with now := 3600000000000 } : State).safeFree = true) ∧ (({ ((awake [4]).p TMP_SAFE TMP_SAFE_STATE 1) with now := 3600000000000 } : State).tmp.clearAt + ({ ((awake [4]).p TMP_SAFE TMP_SAFE_STATE 1) with now := 3600000000000 } : State).quietNs ≤ ({ ((awake [4]).p TMP_SAFE TMP_SAFE_STATE 1) with now := 3600000000000 } : State).now) := by decide +kernel
theorem wit_FaultsAreCountedAndTheSafeStateHolds_safeQuietExpiry_c26 : (((awake [4] : State).g TMP_SAFE TMP_SAFE_STATE ≠ 1 ∨ (awake [4] : State).safeFree = false ∨ (awake [4] : State).now < (awake [4] : State).tmp.clearAt + (awake [4] : State).quietNs)) := by decide +kernel
theorem wit_FaultsAreCountedAndTheSafeStateHolds_safeQuietExpiry_c26_w1 : ((({ ((awake [4]).p TMP_SAFE TMP_SAFE_STATE 1) with tmp := { (awake []).tmp with clearAt := 5 } } : State).g TMP_SAFE TMP_SAFE_STATE ≠ 1 ∨ ({ ((awake [4]).p TMP_SAFE TMP_SAFE_STATE 1) with tmp := { (awake []).tmp with clearAt := 5 } } : State).safeFree = false ∨ ({ ((awake [4]).p TMP_SAFE TMP_SAFE_STATE 1) with tmp := { (awake []).tmp with clearAt := 5 } } : State).now < ({ ((awake [4]).p TMP_SAFE TMP_SAFE_STATE 1) with tmp := { (awake []).tmp with clearAt := 5 } } : State).tmp.clearAt + ({ ((awake [4]).p TMP_SAFE TMP_SAFE_STATE 1) with tmp := { (awake []).tmp with clearAt := 5 } } : State).quietNs)) := by decide +kernel
theorem wit_FaultsAreCountedAndTheSafeStateHolds_safeExit_c27 : ((((awake [4]).p TMP_SAFE TMP_SAFE_STATE 1) : State).reaches (Agent.hpb) TMP_SAFE = true) ∧ (agCode (Agent.hpb) ≤ 1) ∧ ((0x40000000#32).getLsbD 31 = false) ∧ ((0x40000000#32).getLsbD 30 = true) ∧ ((((awake [4]).p TMP_SAFE TMP_SAFE_STATE 1) : State).safe = true) := by decide +kernel
theorem wit_FaultsAreCountedAndTheSafeStateHolds_safeExit_c27_w1 : (((((awake [4]).p TMP_SAFE TMP_SAFE_STATE 1).setCause 0x37 true) : State).reaches (Agent.hpa) TMP_SAFE = true) ∧ (agCode (Agent.hpa) ≤ 1) ∧ ((0x40000000#32).getLsbD 31 = false) ∧ ((0x40000000#32).getLsbD 30 = true) ∧ (((((awake [4]).p TMP_SAFE TMP_SAFE_STATE 1).setCause 0x37 true) : State).safe = true) := by decide +kernel
theorem wit_FaultsAreCountedAndTheSafeStateHolds_safeExit_c28 : (((awake [4]) : State).reaches (Agent.hpb) TMP_SAFE = true) ∧ (agCode (Agent.hpb) ≤ 1) ∧ ((0x40000000#32).getLsbD 31 = false) ∧ ((0x40000000#32).getLsbD 30 = true) ∧ (((awake [4]) : State).safe = false) := by decide +kernel
theorem wit_FaultsAreCountedAndTheSafeStateHolds_reactWrite : (((awake [4]) : State).reaches (Agent.hpa) (TMP_REACT ((63 : Fin 64))) = true) ∧ (agCode (Agent.hpa) ≤ 1) := by decide +kernel
theorem wit_FaultsAreCountedAndTheSafeStateHolds_reactWrite_w1 : (((awake [4]) : State).reaches (Agent.hpa) (TMP_REACT ((63 : Fin 64))) = true) ∧ (agCode (Agent.hpa) ≤ 1) := by decide +kernel
theorem wit_FaultsAreCountedAndTheSafeStateHolds_reactReloadDone_c34 : (({ ((awake []).p TMP_SAFE TMP_SAFE_RELOAD_PENDING 1 |>.wr (TMP_REACT 5) 0) with drf := { (awake []).drf with running := none } } : State).on TMP_SAFE TMP_SAFE_RELOAD_PENDING = true) := by decide +kernel
theorem wit_FaultsAreCountedAndTheSafeStateHolds_reactReloadDone_c34_w1 : (({ ((awake []).p TMP_SAFE TMP_SAFE_RELOAD_PENDING 1 |>.wr (TMP_REACT 5) 0) with drf := { (awake []).drf with running := (some { (default : Draft) with treadling := [⟨0x43, 5, [0xC0000000]⟩] }) } } : State).on TMP_SAFE TMP_SAFE_RELOAD_PENDING = true) := by decide +kernel
theorem wit_FaultsAreCountedAndTheSafeStateHolds_reactReloadDone_c34_w2 : (({ ((awake []).p TMP_SAFE TMP_SAFE_RELOAD_PENDING 1 |>.wr (TMP_REACT 5) 0) with drf := { (awake []).drf with running := (some { (default : Draft) with treadling := [⟨0x43, 5, [0xC0000000]⟩] }) } } : State).on TMP_SAFE TMP_SAFE_RELOAD_PENDING = true) := by decide +kernel
theorem wit_FaultsAreCountedAndTheSafeStateHolds_reactReloadDone_c35 : ((awake [] : State).on TMP_SAFE TMP_SAFE_RELOAD_PENDING = false) := by decide +kernel
theorem wit_FaultsAreCountedAndTheSafeStateHolds_injectArm_c36 : (((awake [4]) : State).reaches (Agent.hpa) TMP_INJ_CTL = true) ∧ (((bset 0x80000000#32 TMP_INJ_CTL_SOURCE.lo TMP_INJ_CTL_SOURCE.w 4)).getLsbD 31 = true) ∧ ((((awake [4]) : State).tmp.inj = false ∧ (((awake [4]) : State).wrRW TMP_INJ_CTL ((bset 0x80000000#32 TMP_INJ_CTL_SOURCE.lo TMP_INJ_CTL_SOURCE.w 4))).chkHere = true)) := by decide +kernel
theorem wit_FaultsAreCountedAndTheSafeStateHolds_injectArm_c37 : (((awake [4]) : State).reaches (Agent.hpa) TMP_INJ_CTL = true) ∧ (((bset 0x80000000#32 TMP_INJ_CTL_SOURCE.lo TMP_INJ_CTL_SOURCE.w 220)).getLsbD 31 = true) ∧ (¬ (((awake [4]) : State).tmp.inj = false ∧ (((awake [4]) : State).wrRW TMP_INJ_CTL ((bset 0x80000000#32 TMP_INJ_CTL_SOURCE.lo TMP_INJ_CTL_SOURCE.w 220))).chkHere = true)) := by decide +kernel
theorem wit_FaultsAreCountedAndTheSafeStateHolds_faultLogPop_c38 : (({ awake [4] with tmp := { (awake []).tmp with log := [[1, 2, 3, 4], [5]] } } : State).reaches (Agent.hpa) (TMP_FAULT_LOG + 12) = true) ∧ (({ awake [4] with tmp := { (awake []).tmp with log := [[1, 2, 3, 4], [5]] } } : State).tmp.log = (([1, 2, 3, 4] : List Word)) :: (([[5]] : List (List Word)))) := by decide +kernel
theorem wit_FaultsAreCountedAndTheSafeStateHolds_faultLogPop_c39 : ((awake [4] : State).reaches (Agent.hpa) (TMP_FAULT_LOG + 12) = true) ∧ ((awake [4] : State).tmp.log = []) := by decide +kernel
theorem wit_ClocksGatesAndResets_refGateEnd_c0 : ((((refs) : State).refHere 0 = true ∨ ((refs) : State).refHere 1 = true)) ∧ ((((refs) : State).rd (fkey CLK_CTL) = ((refs) : State).rd CLK_CTL ∧ ((refs) : State).rd (fkey CLK_REF_CFG) = ((refs) : State).rd CLK_REF_CFG)) ∧ ((∀ x : Fin 3, ((refs) : State).refHere x = true → ((refs) : State).refCan x = true)) := by decide +kernel
theorem wit_ClocksGatesAndResets_refGateEnd_c0_w1 : ((((refs.p CLK_STATUS CLK_STATUS_QUALIFIED 3) : State).refHere 0 = true ∨ ((refs.p CLK_STATUS CLK_STATUS_QUALIFIED 3) : State).refHere 1 = true)) ∧ ((((refs.p CLK_STATUS CLK_STATUS_QUALIFIED 3) : State).rd (fkey CLK_CTL) = ((refs.p CLK_STATUS CLK_STATUS_QUALIFIED 3) : State).rd CLK_CTL ∧ ((refs.p CLK_STATUS CLK_STATUS_QUALIFIED 3) : State).rd (fkey CLK_REF_CFG) = ((refs.p CLK_STATUS CLK_STATUS_QUALIFIED 3) : State).rd CLK_REF_CFG)) ∧ ((∀ x : Fin 3, ((refs.p CLK_STATUS CLK_STATUS_QUALIFIED 3) : State).refHere x = true → ((refs.p CLK_STATUS CLK_STATUS_QUALIFIED 3) : State).refCan x = true)) := by decide +kernel
theorem wit_ClocksGatesAndResets_refGateEnd_c0_w2 : (((({ (refs.p CLK_CTL CLK_CTL_QUAL_GATES 3).p (fkey CLK_CTL) CLK_CTL_QUAL_GATES 3 with tmp := { refs.tmp with qual := [(0, 2), (1, 2)] } }) : State).refHere 0 = true ∨ (({ (refs.p CLK_CTL CLK_CTL_QUAL_GATES 3).p (fkey CLK_CTL) CLK_CTL_QUAL_GATES 3 with tmp := { refs.tmp with qual := [(0, 2), (1, 2)] } }) : State).refHere 1 = true)) ∧ (((({ (refs.p CLK_CTL CLK_CTL_QUAL_GATES 3).p (fkey CLK_CTL) CLK_CTL_QUAL_GATES 3 with tmp := { refs.tmp with qual := [(0, 2), (1, 2)] } }) : State).rd (fkey CLK_CTL) = (({ (refs.p CLK_CTL CLK_CTL_QUAL_GATES 3).p (fkey CLK_CTL) CLK_CTL_QUAL_GATES 3 with tmp := { refs.tmp with qual := [(0, 2), (1, 2)] } }) : State).rd CLK_CTL ∧ (({ (refs.p CLK_CTL CLK_CTL_QUAL_GATES 3).p (fkey CLK_CTL) CLK_CTL_QUAL_GATES 3 with tmp := { refs.tmp with qual := [(0, 2), (1, 2)] } }) : State).rd (fkey CLK_REF_CFG) = (({ (refs.p CLK_CTL CLK_CTL_QUAL_GATES 3).p (fkey CLK_CTL) CLK_CTL_QUAL_GATES 3 with tmp := { refs.tmp with qual := [(0, 2), (1, 2)] } }) : State).rd CLK_REF_CFG)) ∧ ((∀ x : Fin 3, (({ (refs.p CLK_CTL CLK_CTL_QUAL_GATES 3).p (fkey CLK_CTL) CLK_CTL_QUAL_GATES 3 with tmp := { refs.tmp with qual := [(0, 2), (1, 2)] } }) : State).refHere x = true → (({ (refs.p CLK_CTL CLK_CTL_QUAL_GATES 3).p (fkey CLK_CTL) CLK_CTL_QUAL_GATES 3 with tmp := { refs.tmp with qual := [(0, 2), (1, 2)] } }) : State).refCan x = true)) := by decide +kernel
theorem wit_ClocksGatesAndResets_refGateEnd_c1 : ((((refs.p CLK_STATUS CLK_STATUS_QUALIFIED 3).p CLK_REF_CFG CLK_REF_CFG_REFA_FREQ 1) : State).clkApply.refSet ((0 : Fin 3)) ≠ (((refs.p CLK_STATUS CLK_STATUS_QUALIFIED 3).p CLK_REF_CFG CLK_REF_CFG_REFA_FREQ 1) : State).refSet ((0 : Fin 3))) := by decide +kernel
theorem wit_ClocksGatesAndResets_refLost_c2 : (((refs.p CLK_STATUS CLK_STATUS_QUALIFIED 3) : State).refHere ((0 : Fin 3)) = true) ∧ (((((refs.p CLK_STATUS CLK_STATUS_QUALIFIED 3) : State).refHere 0 = true ∧ ((0 : Fin 3)) ≠ 0) ∨ (((refs.p CLK_STATUS CLK_STATUS_QUALIFIED 3) : State).refHere 1 = true ∧ ((0 : Fin 3)) ≠ 1))) := by decide +kernel
theorem wit_ClocksGatesAndResets_refLost_c2_w1 : (((refs.p CLK_STATUS CLK_STATUS_PRESENT 6) : State).refHere ((2 : Fin 3)) = true) ∧ (((((refs.p CLK_STATUS CLK_STATUS_PRESENT 6) : State).refHere 0 = true ∧ ((2 : Fin 3)) ≠ 0) ∨ (((refs.p CLK_STATUS CLK_STATUS_PRESENT 6) : State).refHere 1 = true ∧ ((2 : Fin 3)) ≠ 1))) := by decide +kernel
theorem wit_ClocksGatesAndResets_refLost_c3 : (((refs.p CLK_STATUS CLK_STATUS_PRESENT 2) : State).refHere ((1 : Fin 3)) = true) ∧ ((∀ y : Fin 3, y ≠ ((1 : Fin 3)) → ((refs.p CLK_STATUS CLK_STATUS_PRESENT 2) : State).refHere y = false ∧ ((refs.p CLK_STATUS CLK_STATUS_PRESENT 2) : State).refGood y = false)) ∧ (((refs.p CLK_STATUS CLK_STATUS_PRESENT 2) : State).coasting = false) := by decide +kernel
theorem wit_ClocksGatesAndResets_refLost_c4 : ((refs : State).refHere ((2 : Fin 3)) = false) := by decide +kernel
theorem wit_ClocksGatesAndResets_refPresent_c5 : (((refs.p CLK_STATUS CLK_STATUS_PRESENT 0) : State).g CLK_STATUS CLK_STATUS_PRESENT = 0) ∧ (((refs.p CLK_STATUS CLK_STATUS_PRESENT 0) : State).clkApply.refCan ((1 : Fin 3)) = true) ∧ (((refs.p CLK_STATUS CLK_STATUS_PRESENT 0) : State).tmp.held = false) := by decide +kernel
theorem wit_ClocksGatesAndResets_refPresent_c6 : ((refs : State).g CLK_STATUS CLK_STATUS_PRESENT ≠ 0) ∧ (((refs : State).refHere ((2 : Fin 3)) = true ∨ (refs : State).refCan ((2 : Fin 3)) = false ∨ (refs : State).tmp.held = true)) := by decide +kernel
theorem wit_ClocksGatesAndResets_refPresent_c7 : (((refs.p CLK_STATUS CLK_STATUS_PRESENT 2) : State).g CLK_STATUS CLK_STATUS_PRESENT ≠ 0) ∧ (((refs.p CLK_STATUS CLK_STATUS_PRESENT 2) : State).tmp.held = false) ∧ (((refs.p CLK_STATUS CLK_STATUS_PRESENT 2) : State).refHere ((0 : Fin 3)) = false) ∧ (((refs.p CLK_STATUS CLK_STATUS_PRESENT 2) : State).refCan ((0 : Fin 3)) = true) ∧ ((((0 : Fin 3)) ≠ 2 ∨ ((refs.p CLK_STATUS CLK_STATUS_PRESENT 2) : State).refHere 0 = true ∨ ((refs.p CLK_STATUS CLK_STATUS_PRESENT 2) : State).refHere 1 = true)) := by decide +kernel
theorem wit_ClocksGatesAndResets_refRevert_c8 : ((({ (refs.p CLK_STATUS CLK_STATUS_QUALIFIED 3 |>.p CLK_STATUS CLK_STATUS_SELECTED 1 |>.p (fkey CLK_CTL) CLK_CTL_REVERT 1 |>.p (fkey CLK_CTL) CLK_CTL_WTR_S 1 |>.p (fkey CLK_CTL) CLK_CTL_PRIO1 0 |>.p (fkey CLK_CTL) CLK_CTL_PRIO2 1) with now := 1000000000 } : State).refPrio.takeWhile (fun y => decide (y ≠ ({ (refs.p CLK_STATUS CLK_STATUS_QUALIFIED 3 |>.p CLK_STATUS CLK_STATUS_SELECTED 1 |>.p (fkey CLK_CTL) CLK_CTL_REVERT 1 |>.p (fkey CLK_CTL) CLK_CTL_WTR_S 1 |>.p (fkey CLK_CTL) CLK_CTL_PRIO1 0 |>.p (fkey CLK_CTL) CLK_CTL_PRIO2 1) with now := 1000000000 } : State).g CLK_STATUS CLK_STATUS_SELECTED))).find? (fun y => decide (y < 3) && ({ (refs.p CLK_STATUS CLK_STATUS_QUALIFIED 3 |>.p CLK_STATUS CLK_STATUS_SELECTED 1 |>.p (fkey CLK_CTL) CLK_CTL_REVERT 1 |>.p (fkey CLK_CTL) CLK_CTL_WTR_S 1 |>.p (fkey CLK_CTL) CLK_CTL_PRIO1 0 |>.p (fkey CLK_CTL) CLK_CTL_PRIO2 1) with now := 1000000000 } : State).refGood y && decide (({ (refs.p CLK_STATUS CLK_STATUS_QUALIFIED 3 |>.p CLK_STATUS CLK_STATUS_SELECTED 1 |>.p (fkey CLK_CTL) CLK_CTL_REVERT 1 |>.p (fkey CLK_CTL) CLK_CTL_WTR_S 1 |>.p (fkey CLK_CTL) CLK_CTL_PRIO1 0 |>.p (fkey CLK_CTL) CLK_CTL_PRIO2 1) with now := 1000000000 } : State).clkCtl CLK_CTL_WTR_S * 1000000000 ≤ ({ (refs.p CLK_STATUS CLK_STATUS_QUALIFIED 3 |>.p CLK_STATUS CLK_STATUS_SELECTED 1 |>.p (fkey CLK_CTL) CLK_CTL_REVERT 1 |>.p (fkey CLK_CTL) CLK_CTL_WTR_S 1 |>.p (fkey CLK_CTL) CLK_CTL_PRIO1 0 |>.p (fkey CLK_CTL) CLK_CTL_PRIO2 1) with now := 1000000000 } : State).now - ({ (refs.p CLK_STATUS CLK_STATUS_QUALIFIED 3 |>.p CLK_STATUS CLK_STATUS_SELECTED 1 |>.p (fkey CLK_CTL) CLK_CTL_REVERT 1 |>.p (fkey CLK_CTL) CLK_CTL_WTR_S 1 |>.p (fkey CLK_CTL) CLK_CTL_PRIO1 0 |>.p (fkey CLK_CTL) CLK_CTL_PRIO2 1) with now := 1000000000 } : State).tmp.qual.look (20 + y))) = some ((0 : Nat))) ∧ (({ (refs.p CLK_STATUS CLK_STATUS_QUALIFIED 3 |>.p CLK_STATUS CLK_STATUS_SELECTED 1 |>.p (fkey CLK_CTL) CLK_CTL_REVERT 1 |>.p (fkey CLK_CTL) CLK_CTL_WTR_S 1 |>.p (fkey CLK_CTL) CLK_CTL_PRIO1 0 |>.p (fkey CLK_CTL) CLK_CTL_PRIO2 1) with now := 1000000000 } : State).clkCtl CLK_CTL_REVERT = 1) := by decide +kernel
theorem wit_ClocksGatesAndResets_refRevert_c9 : (((({ (refs.p CLK_STATUS CLK_STATUS_QUALIFIED 3 |>.p CLK_STATUS CLK_STATUS_SELECTED 1 |>.p (fkey CLK_CTL) CLK_CTL_REVERT 1 |>.p (fkey CLK_CTL) CLK_CTL_WTR_S 1 |>.p (fkey CLK_CTL) CLK_CTL_PRIO1 0 |>.p (fkey CLK_CTL) CLK_CTL_PRIO2 1) with now := 999999999 } : State).refPrio.takeWhile (fun y => decide (y ≠ ({ (refs.p CLK_STATUS CLK_STATUS_QUALIFIED 3 |>.p CLK_STATUS CLK_STATUS_SELECTED 1 |>.p (fkey CLK_CTL) CLK_CTL_REVERT 1 |>.p (fkey CLK_CTL) CLK_CTL_WTR_S 1 |>.p (fkey CLK_CTL) CLK_CTL_PRIO1 0 |>.p (fkey CLK_CTL) CLK_CTL_PRIO2 1) with now := 999999999 } : State).g CLK_STATUS CLK_STATUS_SELECTED))).find? (fun y => decide (y < 3) && ({ (refs.p CLK_STATUS CLK_STATUS_QUALIFIED 3 |>.p CLK_STATUS CLK_STATUS_SELECTED 1 |>.p (fkey CLK_CTL) CLK_CTL_REVERT 1 |>.p (fkey CLK_CTL) CLK_CTL_WTR_S 1 |>.p (fkey CLK_CTL) CLK_CTL_PRIO1 0 |>.p (fkey CLK_CTL) CLK_CTL_PRIO2 1) with now := 999999999 } : State).refGood y && decide (({ (refs.p CLK_STATUS CLK_STATUS_QUALIFIED 3 |>.p CLK_STATUS CLK_STATUS_SELECTED 1 |>.p (fkey CLK_CTL) CLK_CTL_REVERT 1 |>.p (fkey CLK_CTL) CLK_CTL_WTR_S 1 |>.p (fkey CLK_CTL) CLK_CTL_PRIO1 0 |>.p (fkey CLK_CTL) CLK_CTL_PRIO2 1) with now := 999999999 } : State).clkCtl CLK_CTL_WTR_S * 1000000000 ≤ ({ (refs.p CLK_STATUS CLK_STATUS_QUALIFIED 3 |>.p CLK_STATUS CLK_STATUS_SELECTED 1 |>.p (fkey CLK_CTL) CLK_CTL_REVERT 1 |>.p (fkey CLK_CTL) CLK_CTL_WTR_S 1 |>.p (fkey CLK_CTL) CLK_CTL_PRIO1 0 |>.p (fkey CLK_CTL) CLK_CTL_PRIO2 1) with now := 999999999 } : State).now - ({ (refs.p CLK_STATUS CLK_STATUS_QUALIFIED 3 |>.p CLK_STATUS CLK_STATUS_SELECTED 1 |>.p (fkey CLK_CTL) CLK_CTL_REVERT 1 |>.p (fkey CLK_CTL) CLK_CTL_WTR_S 1 |>.p (fkey CLK_CTL) CLK_CTL_PRIO1 0 |>.p (fkey CLK_CTL) CLK_CTL_PRIO2 1) with now := 999999999 } : State).tmp.qual.look (20 + y))) = none ∨ ({ (refs.p CLK_STATUS CLK_STATUS_QUALIFIED 3 |>.p CLK_STATUS CLK_STATUS_SELECTED 1 |>.p (fkey CLK_CTL) CLK_CTL_REVERT 1 |>.p (fkey CLK_CTL) CLK_CTL_WTR_S 1 |>.p (fkey CLK_CTL) CLK_CTL_PRIO1 0 |>.p (fkey CLK_CTL) CLK_CTL_PRIO2 1) with now := 999999999 } : State).clkCtl CLK_CTL_REVERT ≠ 1)) := by decide +kernel
theorem wit_ClocksGatesAndResets_coastClear_c10 : (((sysPlls.foldl (fun (s : State) p => s.p (CLK_PLL p) CLK_PLL_LOCKED 1) (refs.p CLK_STATUS CLK_STATUS_COAST 1 |>.p (PCH_STATUS 5) PCH_STATUS_STATE 2 |>.p PWR_MEM PWR_MEM_SR_ACTIVE 1)) : State).coasting = true) ∧ ((∀ p : Fin 23, p.val ∈ sysPlls → ((sysPlls.foldl (fun (s : State) p => s.p (CLK_PLL p) CLK_PLL_LOCKED 1) (refs.p CLK_STATUS CLK_STATUS_COAST 1 |>.p (PCH_STATUS 5) PCH_STATUS_STATE 2 |>.p PWR_MEM PWR_MEM_SR_ACTIVE 1)) : State).on (CLK_PLL p) CLK_PLL_LOCKED = true)) := by decide +kernel
theorem wit_ClocksGatesAndResets_pllLock_c11 : (((refs) : State).pllFed ((0 : Fin 23)) = true) := by decide +kernel
theorem wit_ClocksGatesAndResets_pllLock_c11_w1 : (((refs.p (CLK_PLL 1) CLK_PLL_LOCKED 1) : State).pllFed ((22 : Fin 23)) = true) := by decide +kernel
theorem wit_ClocksGatesAndResets_pllLossOfLock_c12 : (((refs.p (CLK_PLL 5) CLK_PLL_LOCKED 1) : State).pllFed ((5 : Fin 23)) = true) ∧ (((refs.p (CLK_PLL 5) CLK_PLL_LOCKED 1) : State).on (CLK_PLL ((5 : Fin 23))) CLK_PLL_LOCKED = true) := by decide +kernel
theorem wit_ClocksGatesAndResets_pllLossOfLock_c13 : (((refs : State).pllFed ((5 : Fin 23)) = false ∨ (refs : State).on (CLK_PLL ((5 : Fin 23))) CLK_PLL_LOCKED = false)) := by decide +kernel
theorem wit_ClocksGatesAndResets_pllLock_c14 : ((refs : State).pllFed ((2 : Fin 23)) = false) := by decide +kernel
theorem wit_ClocksGatesAndResets_coastClear_c15 : (((refs : State).coasting = false ∨ ¬ (∀ p : Fin 23, p.val ∈ sysPlls → (refs : State).on (CLK_PLL p) CLK_PLL_LOCKED = true))) := by decide +kernel
theorem wit_ClocksGatesAndResets_clockGate_c17 : (((refs) : State).reaches (Agent.hpa) (CLK_GATE ((8 : Fin 200))) = true) ∧ ((0x80000000#32).getLsbD 31 = true) ∧ (6 ≤ ((8 : Fin 200)).val) := by decide +kernel
theorem wit_ClocksGatesAndResets_clockGate_c17_w1 : (((refs.updBlk 8 (fun b => { b with hung := true })) : State).reaches (Agent.hpa) (CLK_GATE ((8 : Fin 200))) = true) ∧ ((0x80000000#32).getLsbD 31 = true) ∧ (6 ≤ ((8 : Fin 200)).val) := by decide +kernel
theorem wit_ClocksGatesAndResets_clockGate_c18 : (((refs) : State).reaches (Agent.hpa) (CLK_GATE ((5 : Fin 200))) = true) ∧ ((0x80000000#32).getLsbD 31 = true) ∧ (((5 : Fin 200)).val < 6) := by decide +kernel
theorem wit_ClocksGatesAndResets_clockUngate : (((refs.updBlk 8 (fun b => { b with gated := true, gateReq := true })) : State).reaches (Agent.hpa) (CLK_GATE ((8 : Fin 200))) = true) ∧ ((0#32).getLsbD 31 = false) := by decide +kernel
theorem wit_ClocksGatesAndResets_gateForceTimeout_c20 : ((((refs.updBlk 8 (fun b => { b with hung := true, gateWait := true })) : State).blks.look ((8 : Fin 200))).gateWait = true) := by decide +kernel
theorem wit_ClocksGatesAndResets_blockReset_c22 : (((refs.updBlk 8 (fun b => { b with hung := true, gateReq := true })) : State).reaches (Agent.hpa) CLK_BLK_RST = true) ∧ ((2147483656#32).getLsbD 31 = true) ∧ ((((refs.updBlk 8 (fun b => { b with hung := true, gateReq := true })) : State).on CLK_BLK_RST CLK_BLK_RST_GO = false ∧ 6 ≤ (bget (2147483656#32) 0 8) ∧ (bget (2147483656#32) 0 8) < 200)) := by decide +kernel
theorem wit_ClocksGatesAndResets_blockReset_c22_w1 : (((refs) : State).reaches (Agent.hpa) CLK_BLK_RST = true) ∧ ((2147483840#32).getLsbD 31 = true) ∧ ((((refs) : State).on CLK_BLK_RST CLK_BLK_RST_GO = false ∧ 6 ≤ (bget (2147483840#32) 0 8) ∧ (bget (2147483840#32) 0 8) < 200)) := by decide +kernel
theorem wit_ClocksGatesAndResets_blockReset_c22_w2 : (((refs) : State).reaches (Agent.hpa) CLK_BLK_RST = true) ∧ ((2147483662#32).getLsbD 31 = true) ∧ ((((refs) : State).on CLK_BLK_RST CLK_BLK_RST_GO = false ∧ 6 ≤ (bget (2147483662#32) 0 8) ∧ (bget (2147483662#32) 0 8) < 200)) := by decide +kernel
theorem wit_ClocksGatesAndResets_blockReset_c22_w3 : (((refs) : State).reaches (Agent.hpa) CLK_BLK_RST = true) ∧ ((2147483659#32).getLsbD 31 = true) ∧ ((((refs) : State).on CLK_BLK_RST CLK_BLK_RST_GO = false ∧ 6 ≤ (bget (2147483659#32) 0 8) ∧ (bget (2147483659#32) 0 8) < 200)) := by decide +kernel
theorem wit_ClocksGatesAndResets_blockReset_c22_w4 : (((refs) : State).reaches (Agent.hpa) CLK_BLK_RST = true) ∧ ((2147483655#32).getLsbD 31 = true) ∧ ((((refs) : State).on CLK_BLK_RST CLK_BLK_RST_GO = false ∧ 6 ≤ (bget (2147483655#32) 0 8) ∧ (bget (2147483655#32) 0 8) < 200)) := by decide +kernel
theorem wit_ClocksGatesAndResets_blockReset_c23 : (((refs) : State).reaches (Agent.hpa) CLK_BLK_RST = true) ∧ ((2147483653#32).getLsbD 31 = true) ∧ (¬ (((refs) : State).on CLK_BLK_RST CLK_BLK_RST_GO = false ∧ 6 ≤ (bget (2147483653#32) 0 8) ∧ (bget (2147483653#32) 0 8) < 200)) := by decide +kernel
theorem wit_ClocksGatesAndResets_blockReset_c23_w1 : (((refs) : State).reaches (Agent.hpa) CLK_BLK_RST = true) ∧ ((2147483848#32).getLsbD 31 = true) ∧ (¬ (((refs) : State).on CLK_BLK_RST CLK_BLK_RST_GO = false ∧ 6 ≤ (bget (2147483848#32) 0 8) ∧ (bget (2147483848#32) 0 8) < 200)) := by decide +kernel
theorem wit_ClocksGatesAndResets_blockReset_c23_w2 : (((refs.p CLK_BLK_RST CLK_BLK_RST_GO 1) : State).reaches (Agent.hpa) CLK_BLK_RST = true) ∧ ((2147483656#32).getLsbD 31 = true) ∧ (¬ (((refs.p CLK_BLK_RST CLK_BLK_RST_GO 1) : State).on CLK_BLK_RST CLK_BLK_RST_GO = false ∧ 6 ≤ (bget (2147483656#32) 0 8) ∧ (bget (2147483656#32) 0 8) < 200)) := by decide +kernel
theorem wit_ClocksGatesAndResets_srst_c26 : (((refs.wr DRF_SVN_FLOOR 9) : State).tmp.porst = false) := by decide +kernel
theorem wit_ClocksGatesAndResets_blocksRelease_c28 : (({ refs.p (CLK_PLL 0) CLK_PLL_LOCKED 1 with tmp := { refs.tmp with held := true } } : State).tmp.held = true) ∧ (({ refs.p (CLK_PLL 0) CLK_PLL_LOCKED 1 with tmp := { refs.tmp with held := true } } : State).tmp.porst = false) ∧ (({ refs.p (CLK_PLL 0) CLK_PLL_LOCKED 1 with tmp := { refs.tmp with held := true } } : State).tmp.srst = false) ∧ (({ refs.p (CLK_PLL 0) CLK_PLL_LOCKED 1 with tmp := { refs.tmp with held := true } } : State).on (CLK_PLL 0) CLK_PLL_LOCKED = true) ∧ ((∀ r : Fin 10, ({ refs.p (CLK_PLL 0) CLK_PLL_LOCKED 1 with tmp := { refs.tmp with held := true } } : State).on (TMP_WATCH r) TMP_WATCH_TRIPPED = false)) := by decide +kernel
theorem wit_ClocksGatesAndResets_blocksRelease_c29 : (((refs : State).tmp.held = false ∨ (refs : State).tmp.porst = true ∨ (refs : State).tmp.srst = true ∨ (refs : State).on (CLK_PLL 0) CLK_PLL_LOCKED = false ∨ ∃ r : Fin 10, (refs : State).on (TMP_WATCH r) TMP_WATCH_TRIPPED = true)) := by decide +kernel
theorem wit_ClocksGatesAndResets_srst_c30 : ((State.reset : State).tmp.porst = true) := by decide +kernel
theorem wit_ClocksGatesAndResets_gateForceTimeout_c31 : (((refs : State).blks.look ((8 : Fin 200))).gateWait = false) := by decide +kernel
theorem wit_PowerRailsClocksAndTemperature_avsPeriod_c0 : ((([0, 703] : List Nat))[((1 : Fin 5)).val]? = some ((703 : Nat))) ∧ (((((awake [3, 4]).p PWR_CTL PWR_CTL_AVS_EN 1).p (PWR_RAIL 2) PWR_RAIL_MIN_MV 600 |>.p (PWR_RAIL 2) PWR_RAIL_MAX_MV 900 |>.p (PWR_RAIL 2) PWR_RAIL_CMD_MV 700) : State).railLive (((1 : Fin 5)) + 1) = true) ∧ (((((((awake [3, 4]).p PWR_CTL PWR_CTL_AVS_EN 1).p (PWR_RAIL 2) PWR_RAIL_MIN_MV 600 |>.p (PWR_RAIL 2) PWR_RAIL_MAX_MV 900 |>.p (PWR_RAIL 2) PWR_RAIL_CMD_MV 700) : State).railClamp (((1 : Fin 5)) + 1) (cdiv (((703 : Nat))) 5 * 5))) < 2 ^ PWR_RAIL_CMD_MV.w) ∧ (((((((awake [3, 4]).p PWR_CTL PWR_CTL_AVS_EN 1).p (PWR_RAIL 2) PWR_RAIL_MIN_MV 600 |>.p (PWR_RAIL 2) PWR_RAIL_MAX_MV 900 |>.p (PWR_RAIL 2) PWR_RAIL_CMD_MV 700) : State).railClamp (((1 : Fin 5)) + 1) (cdiv (((703 : Nat))) 5 * 5))) ≠ ((((awake [3, 4]).p PWR_CTL PWR_CTL_AVS_EN 1).p (PWR_RAIL 2) PWR_RAIL_MIN_MV 600 |>.p (PWR_RAIL 2) PWR_RAIL_MAX_MV 900 |>.p (PWR_RAIL 2) PWR_RAIL_CMD_MV 700) : State).g (PWR_RAIL (((1 : Fin 5)) + 1)) PWR_RAIL_CMD_MV) := by decide +kernel
theorem wit_PowerRailsClocksAndTemperature_avsPeriod_c0_w1 : ((([0, 899] : List Nat))[((1 : Fin 5)).val]? = some ((899 : Nat))) ∧ (((((awake [3, 4]).p PWR_CTL PWR_CTL_AVS_EN 1).p (PWR_RAIL 2) PWR_RAIL_MIN_MV 600 |>.p (PWR_RAIL 2) PWR_RAIL_MAX_MV 900 |>.p (PWR_RAIL 2) PWR_RAIL_CMD_MV 700) : State).railLive (((1 : Fin 5)) + 1) = true) ∧ (((((((awake [3, 4]).p PWR_CTL PWR_CTL_AVS_EN 1).p (PWR_RAIL 2) PWR_RAIL_MIN_MV 600 |>.p (PWR_RAIL 2) PWR_RAIL_MAX_MV 900 |>.p (PWR_RAIL 2) PWR_RAIL_CMD_MV 700) : State).railClamp (((1 : Fin 5)) + 1) (cdiv (((899 : Nat))) 5 * 5))) < 2 ^ PWR_RAIL_CMD_MV.w) ∧ (((((((awake [3, 4]).p PWR_CTL PWR_CTL_AVS_EN 1).p (PWR_RAIL 2) PWR_RAIL_MIN_MV 600 |>.p (PWR_RAIL 2) PWR_RAIL_MAX_MV 900 |>.p (PWR_RAIL 2) PWR_RAIL_CMD_MV 700) : State).railClamp (((1 : Fin 5)) + 1) (cdiv (((899 : Nat))) 5 * 5))) ≠ ((((awake [3, 4]).p PWR_CTL PWR_CTL_AVS_EN 1).p (PWR_RAIL 2) PWR_RAIL_MIN_MV 600 |>.p (PWR_RAIL 2) PWR_RAIL_MAX_MV 900 |>.p (PWR_RAIL 2) PWR_RAIL_CMD_MV 700) : State).g (PWR_RAIL (((1 : Fin 5)) + 1)) PWR_RAIL_CMD_MV) := by decide +kernel
theorem wit_PowerRailsClocksAndTemperature_avsPeriod_c0_w2 : ((([0, 300] : List Nat))[((1 : Fin 5)).val]? = some ((300 : Nat))) ∧ (((((awake [3, 4]).p PWR_CTL PWR_CTL_AVS_EN 1).p (PWR_RAIL 2) PWR_RAIL_MIN_MV 600 |>.p (PWR_RAIL 2) PWR_RAIL_MAX_MV 900 |>.p (PWR_RAIL 2) PWR_RAIL_CMD_MV 700) : State).railLive (((1 : Fin 5)) + 1) = true) ∧ (((((((awake [3, 4]).p PWR_CTL PWR_CTL_AVS_EN 1).p (PWR_RAIL 2) PWR_RAIL_MIN_MV 600 |>.p (PWR_RAIL 2) PWR_RAIL_MAX_MV 900 |>.p (PWR_RAIL 2) PWR_RAIL_CMD_MV 700) : State).railClamp (((1 : Fin 5)) + 1) (cdiv (((300 : Nat))) 5 * 5))) < 2 ^ PWR_RAIL_CMD_MV.w) ∧ (((((((awake [3, 4]).p PWR_CTL PWR_CTL_AVS_EN 1).p (PWR_RAIL 2) PWR_RAIL_MIN_MV 600 |>.p (PWR_RAIL 2) PWR_RAIL_MAX_MV 900 |>.p (PWR_RAIL 2) PWR_RAIL_CMD_MV 700) : State).railClamp (((1 : Fin 5)) + 1) (cdiv (((300 : Nat))) 5 * 5))) ≠ ((((awake [3, 4]).p PWR_CTL PWR_CTL_AVS_EN 1).p (PWR_RAIL 2) PWR_RAIL_MIN_MV 600 |>.p (PWR_RAIL 2) PWR_RAIL_MAX_MV 900 |>.p (PWR_RAIL 2) PWR_RAIL_CMD_MV 700) : State).g (PWR_RAIL (((1 : Fin 5)) + 1)) PWR_RAIL_CMD_MV) := by decide +kernel
theorem wit_PowerRailsClocksAndTemperature_avsMarginAlarm_c2 : (((((awake [3, 4]).p PWR_CTL PWR_CTL_AVS_EN 1).p (PWR_RAIL 2) PWR_RAIL_MIN_MV 600 |>.p (PWR_RAIL 2) PWR_RAIL_MAX_MV 900 |>.p (PWR_RAIL 2) PWR_RAIL_CMD_MV 700) : State).railLive (((1 : Fin 5)) + 1) = true) ∧ ((((((awake [3, 4]).p PWR_CTL PWR_CTL_AVS_EN 1).p (PWR_RAIL 2) PWR_RAIL_MIN_MV 600 |>.p (PWR_RAIL 2) PWR_RAIL_MAX_MV 900 |>.p (PWR_RAIL 2) PWR_RAIL_CMD_MV 700) : State).railClamp (((1 : Fin 5)) + 1) (((((awake [3, 4]).p PWR_CTL PWR_CTL_AVS_EN 1).p (PWR_RAIL 2) PWR_RAIL_MIN_MV 600 |>.p (PWR_RAIL 2) PWR_RAIL_MAX_MV 900 |>.p (PWR_RAIL 2) PWR_RAIL_CMD_MV 700) : State).railMv (((1 : Fin 5)) + 1) + 10)) < 2 ^ PWR_RAIL_CMD_MV.w) := by decide +kernel
theorem wit_PowerRailsClocksAndTemperature_avsMarginAlarm_c3 : (((awake [3]).p PWR_CTL PWR_CTL_AVS_EN 0 : State).railLive (((1 : Fin 5)) + 1) = false) := by decide +kernel
theorem wit_PowerRailsClocksAndTemperature_pmbusTransaction_c5 : (({ (awake []) with tmp := { (awake []).tmp with pmbTries := [(9, 1)] } } : State).tmp.pmbTries.look ((9 : Fin 10)) < 2) := by decide +kernel
theorem wit_PowerRailsClocksAndTemperature_pmbusTransaction_c6 : (2 ≤ ({ (awake []) with tmp := { (awake []).tmp with pmbTries := [(9, 2), (2, 2)] } } : State).tmp.pmbTries.look ((9 : Fin 10))) := by decide +kernel
theorem wit_PowerRailsClocksAndTemperature_clusterFreqPeriod_c7 : ((([(0, 1), (0, 1), (81, 100)] : List (Nat × Nat)))[((2 : Fin 16)).val]? = some (((81, 100) : Nat × Nat))) ∧ ((((awake [3, 18]).p (PWR_SHU 2) PWR_SHU_MODE 1 |>.p (PWR_SHU 2) PWR_SHU_TARGET_MHZ 1200 |>.p (PWR_SHU 2) PWR_SHU_HI_PCT 80 |>.p (PWR_SHU 2) PWR_SHU_LO_PCT 40 |>.p (SHU_CLK 2) SHU_CLK_MHZ 800) : State).on (PWR_SHU ((2 : Fin 16))) PWR_SHU_MODE = true) ∧ ((((awake [3, 18]).p (PWR_SHU 2) PWR_SHU_MODE 1 |>.p (PWR_SHU 2) PWR_SHU_TARGET_MHZ 1200 |>.p (PWR_SHU 2) PWR_SHU_HI_PCT 80 |>.p (PWR_SHU 2) PWR_SHU_LO_PCT 40 |>.p (SHU_CLK 2) SHU_CLK_MHZ 800) : State).gatedK ((2 : Fin 16)) = false) := by decide +kernel
theorem wit_PowerRailsClocksAndTemperature_clusterFreqPeriod_c7_w1 : ((([(0, 1), (0, 1), (80, 100)] : List (Nat × Nat)))[((2 : Fin 16)).val]? = some (((80, 100) : Nat × Nat))) ∧ ((((awake [3, 18]).p (PWR_SHU 2) PWR_SHU_MODE 1 |>.p (PWR_SHU 2) PWR_SHU_TARGET_MHZ 1200 |>.p (PWR_SHU 2) PWR_SHU_HI_PCT 80 |>.p (PWR_SHU 2) PWR_SHU_LO_PCT 40 |>.p (SHU_CLK 2) SHU_CLK_MHZ 800) : State).on (PWR_SHU ((2 : Fin 16))) PWR_SHU_MODE = true) ∧ ((((awake [3, 18]).p (PWR_SHU 2) PWR_SHU_MODE 1 |>.p (PWR_SHU 2) PWR_SHU_TARGET_MHZ 1200 |>.p (PWR_SHU 2) PWR_SHU_HI_PCT 80 |>.p (PWR_SHU 2) PWR_SHU_LO_PCT 40 |>.p (SHU_CLK 2) SHU_CLK_MHZ 800) : State).gatedK ((2 : Fin 16)) = false) := by decide +kernel
theorem wit_PowerRailsClocksAndTemperature_clusterFreqPeriod_c7_w2 : ((([(0, 1), (0, 1), (39, 100)] : List (Nat × Nat)))[((2 : Fin 16)).val]? = some (((39, 100) : Nat × Nat))) ∧ ((((awake [3, 18]).p (PWR_SHU 2) PWR_SHU_MODE 1 |>.p (PWR_SHU 2) PWR_SHU_TARGET_MHZ 1200 |>.p (PWR_SHU 2) PWR_SHU_HI_PCT 80 |>.p (PWR_SHU 2) PWR_SHU_LO_PCT 40 |>.p (SHU_CLK 2) SHU_CLK_MHZ 800) : State).on (PWR_SHU ((2 : Fin 16))) PWR_SHU_MODE = true) ∧ ((((awake [3, 18]).p (PWR_SHU 2) PWR_SHU_MODE 1 |>.p (PWR_SHU 2) PWR_SHU_TARGET_MHZ 1200 |>.p (PWR_SHU 2) PWR_SHU_HI_PCT 80 |>.p (PWR_SHU 2) PWR_SHU_LO_PCT 40 |>.p (SHU_CLK 2) SHU_CLK_MHZ 800) : State).gatedK ((2 : Fin 16)) = false) := by decide +kernel
theorem wit_PowerRailsClocksAndTemperature_clusterFreqPeriod_c8 : (((([(99, 100), (99, 100), (99, 100)] : List (Nat × Nat)))[((3 : Fin 16)).val]? = none ∨ (((awake [3, 18]).p (PWR_SHU 2) PWR_SHU_MODE 1 |>.p (PWR_SHU 2) PWR_SHU_TARGET_MHZ 1200 |>.p (PWR_SHU 2) PWR_SHU_HI_PCT 80 |>.p (PWR_SHU 2) PWR_SHU_LO_PCT 40 |>.p (SHU_CLK 2) SHU_CLK_MHZ 800) : State).on (PWR_SHU ((3 : Fin 16))) PWR_SHU_MODE = false ∨ (((awake [3, 18]).p (PWR_SHU 2) PWR_SHU_MODE 1 |>.p (PWR_SHU 2) PWR_SHU_TARGET_MHZ 1200 |>.p (PWR_SHU 2) PWR_SHU_HI_PCT 80 |>.p (PWR_SHU 2) PWR_SHU_LO_PCT 40 |>.p (SHU_CLK 2) SHU_CLK_MHZ 800) : State).gatedK ((3 : Fin 16)) = true)) := by decide +kernel
theorem wit_PowerRailsClocksAndTemperature_clusterFreqChange_c9 : (({ (((awake [3, 18]).p (PWR_SHU 2) PWR_SHU_MODE 1 |>.p (PWR_SHU 2) PWR_SHU_TARGET_MHZ 1200 |>.p (PWR_SHU 2) PWR_SHU_HI_PCT 80 |>.p (PWR_SHU 2) PWR_SHU_LO_PCT 40 |>.p (SHU_CLK 2) SHU_CLK_MHZ 800).p (CLK_PLL 9) CLK_PLL_LOCKED 1) with tmp := { (awake []).tmp with freqTarget := [(2, 900), (18, 900)] } } : State).tmp.freqTarget.look (16 + ((2 : Fin 16)).val) ≠ 0) ∧ (({ (((awake [3, 18]).p (PWR_SHU 2) PWR_SHU_MODE 1 |>.p (PWR_SHU 2) PWR_SHU_TARGET_MHZ 1200 |>.p (PWR_SHU 2) PWR_SHU_HI_PCT 80 |>.p (PWR_SHU 2) PWR_SHU_LO_PCT 40 |>.p (SHU_CLK 2) SHU_CLK_MHZ 800).p (CLK_PLL 9) CLK_PLL_LOCKED 1) with tmp := { (awake []).tmp with freqTarget := [(2, 900), (18, 900)] } } : State).tmp.freqTarget.look (16 + ((2 : Fin 16)).val) < 2 ^ SHU_CLK_MHZ.w) ∧ (({ (((awake [3, 18]).p (PWR_SHU 2) PWR_SHU_MODE 1 |>.p (PWR_SHU 2) PWR_SHU_TARGET_MHZ 1200 |>.p (PWR_SHU 2) PWR_SHU_HI_PCT 80 |>.p (PWR_SHU 2) PWR_SHU_LO_PCT 40 |>.p (SHU_CLK 2) SHU_CLK_MHZ 800).p (CLK_PLL 9) CLK_PLL_LOCKED 1) with tmp := { (awake []).tmp with freqTarget := [(2, 900), (18, 900)] } } : State).gatedK ((2 : Fin 16)) = false) := by decide +kernel
theorem wit_PowerRailsClocksAndTemperature_clusterFreqChange_c9_w1 : (({ (((awake [3, 18]).p (PWR_SHU 2) PWR_SHU_MODE 1 |>.p (PWR_SHU 2) PWR_SHU_TARGET_MHZ 1200 |>.p (PWR_SHU 2) PWR_SHU_HI_PCT 80 |>.p (PWR_SHU 2) PWR_SHU_LO_PCT 40 |>.p (SHU_CLK 2) SHU_CLK_MHZ 800).p (CLK_PLL 9) CLK_PLL_LOCKED 1) with tmp := { (awake []).tmp with freqTarget := [(2, 1000), (18, 900)] } } : State).tmp.freqTarget.look (16 + ((2 : Fin 16)).val) ≠ 0) ∧ (({ (((awake [3, 18]).p (PWR_SHU 2) PWR_SHU_MODE 1 |>.p (PWR_SHU 2) PWR_SHU_TARGET_MHZ 1200 |>.p (PWR_SHU 2) PWR_SHU_HI_PCT 80 |>.p (PWR_SHU 2) PWR_SHU_LO_PCT 40 |>.p (SHU_CLK 2) SHU_CLK_MHZ 800).p (CLK_PLL 9) CLK_PLL_LOCKED 1) with tmp := { (awake []).tmp with freqTarget := [(2, 1000), (18, 900)] } } : State).tmp.freqTarget.look (16 + ((2 : Fin 16)).val) < 2 ^ SHU_CLK_MHZ.w) ∧ (({ (((awake [3, 18]).p (PWR_SHU 2) PWR_SHU_MODE 1 |>.p (PWR_SHU 2) PWR_SHU_TARGET_MHZ 1200 |>.p (PWR_SHU 2) PWR_SHU_HI_PCT 80 |>.p (PWR_SHU 2) PWR_SHU_LO_PCT 40 |>.p (SHU_CLK 2) SHU_CLK_MHZ 800).p (CLK_PLL 9) CLK_PLL_LOCKED 1) with tmp := { (awake []).tmp with freqTarget := [(2, 1000), (18, 900)] } } : State).gatedK ((2 : Fin 16)) = false) := by decide +kernel
theorem wit_PowerRailsClocksAndTemperature_clusterFreqChange_c10 : (((((awake [3, 18]).p (PWR_SHU 2) PWR_SHU_MODE 1 |>.p (PWR_SHU 2) PWR_SHU_TARGET_MHZ 1200 |>.p (PWR_SHU 2) PWR_SHU_HI_PCT 80 |>.p (PWR_SHU 2) PWR_SHU_LO_PCT 40 |>.p (SHU_CLK 2) SHU_CLK_MHZ 800) : State).tmp.freqTarget.look (16 + ((2 : Fin 16)).val) = 0 ∨ (((awake [3, 18]).p (PWR_SHU 2) PWR_SHU_MODE 1 |>.p (PWR_SHU 2) PWR_SHU_TARGET_MHZ 1200 |>.p (PWR_SHU 2) PWR_SHU_HI_PCT 80 |>.p (PWR_SHU 2) PWR_SHU_LO_PCT 40 |>.p (SHU_CLK 2) SHU_CLK_MHZ 800) : State).gatedK ((2 : Fin 16)) = true)) := by decide +kernel
theorem wit_PowerRailsClocksAndTemperature_clusterGate_c11 : (((((awake [3, 18]).p (PWR_SHU 2) PWR_SHU_MODE 1 |>.p (PWR_SHU 2) PWR_SHU_TARGET_MHZ 1200 |>.p (PWR_SHU 2) PWR_SHU_HI_PCT 80 |>.p (PWR_SHU 2) PWR_SHU_LO_PCT 40 |>.p (SHU_CLK 2) SHU_CLK_MHZ 800)) : State).reaches (Agent.hpa) (PWR_SHU ((2 : Fin 16))) = true) ∧ ((0x80000000#32).getLsbD 31 = true) ∧ (((((awake [3, 18]).p (PWR_SHU 2) PWR_SHU_MODE 1 |>.p (PWR_SHU 2) PWR_SHU_TARGET_MHZ 1200 |>.p (PWR_SHU 2) PWR_SHU_HI_PCT 80 |>.p (PWR_SHU 2) PWR_SHU_LO_PCT 40 |>.p (SHU_CLK 2) SHU_CLK_MHZ 800)) : State).gatedK ((2 : Fin 16)) = false) ∧ (((((((awake [3, 18]).p (PWR_SHU 2) PWR_SHU_MODE 1 |>.p (PWR_SHU 2) PWR_SHU_TARGET_MHZ 1200 |>.p (PWR_SHU 2) PWR_SHU_HI_PCT 80 |>.p (PWR_SHU 2) PWR_SHU_LO_PCT 40 |>.p (SHU_CLK 2) SHU_CLK_MHZ 800)) : State).wrRW (PWR_SHU ((2 : Fin 16))) (0x80000000#32)).shuRetarget ((2 : Fin 16))).gateBad ((2 : Fin 16)) = false) := by decide +kernel
theorem wit_PowerRailsClocksAndTemperature_clusterGate_c12 : (((((awake [3, 18]).p (PWR_SHU 2) PWR_SHU_MODE 1 |>.p (PWR_SHU 2) PWR_SHU_TARGET_MHZ 1200 |>.p (PWR_SHU 2) PWR_SHU_HI_PCT 80 |>.p (PWR_SHU 2) PWR_SHU_LO_PCT 40 |>.p (SHU_CLK 2) SHU_CLK_MHZ 800).p (SHU_MAP 2 3) SHU_MAP_VALID 1 |>.p (SHU_MAP 2 3) SHU_MAP_KIND 3) : State).reaches (Agent.hpa) (PWR_SHU ((2 : Fin 16))) = true) ∧ ((0x80000000#32).getLsbD 31 = true) ∧ (((((awake [3, 18]).p (PWR_SHU 2) PWR_SHU_MODE 1 |>.p (PWR_SHU 2) PWR_SHU_TARGET_MHZ 1200 |>.p (PWR_SHU 2) PWR_SHU_HI_PCT 80 |>.p (PWR_SHU 2) PWR_SHU_LO_PCT 40 |>.p (SHU_CLK 2) SHU_CLK_MHZ 800).p (SHU_MAP 2 3) SHU_MAP_VALID 1 |>.p (SHU_MAP 2 3) SHU_MAP_KIND 3) : State).gatedK ((2 : Fin 16)) = false) ∧ (((((((awake [3, 18]).p (PWR_SHU 2) PWR_SHU_MODE 1 |>.p (PWR_SHU 2) PWR_SHU_TARGET_MHZ 1200 |>.p (PWR_SHU 2) PWR_SHU_HI_PCT 80 |>.p (PWR_SHU 2) PWR_SHU_LO_PCT 40 |>.p (SHU_CLK 2) SHU_CLK_MHZ 800).p (SHU_MAP 2 3) SHU_MAP_VALID 1 |>.p (SHU_MAP 2 3) SHU_MAP_KIND 3) : State).wrRW (PWR_SHU ((2 : Fin 16))) (0x80000000#32)).shuRetarget ((2 : Fin 16))).gateBad ((2 : Fin 16)) = true) := by decide +kernel
theorem wit_PowerRailsClocksAndTemperature_clusterGate_c13 : (((((awake [3, 18]).p (PWR_SHU 2) PWR_SHU_MODE 1 |>.p (PWR_SHU 2) PWR_SHU_TARGET_MHZ 1200 |>.p (PWR_SHU 2) PWR_SHU_HI_PCT 80 |>.p (PWR_SHU 2) PWR_SHU_LO_PCT 40 |>.p (SHU_CLK 2) SHU_CLK_MHZ 800)) : State).reaches (Agent.hpa) (PWR_SHU ((2 : Fin 16))) = true) ∧ ((0#32).getLsbD 31 = ((((awake [3, 18]).p (PWR_SHU 2) PWR_SHU_MODE 1 |>.p (PWR_SHU 2) PWR_SHU_TARGET_MHZ 1200 |>.p (PWR_SHU 2) PWR_SHU_HI_PCT 80 |>.p (PWR_SHU 2) PWR_SHU_LO_PCT 40 |>.p (SHU_CLK 2) SHU_CLK_MHZ 800)) : State).gatedK ((2 : Fin 16))) := by decide +kernel
theorem wit_PowerRailsClocksAndTemperature_clusterUngate : ((((((awake [3, 18]).p (PWR_SHU 2) PWR_SHU_MODE 1 |>.p (PWR_SHU 2) PWR_SHU_TARGET_MHZ 1200 |>.p (PWR_SHU 2) PWR_SHU_HI_PCT 80 |>.p (PWR_SHU 2) PWR_SHU_LO_PCT 40 |>.p (SHU_CLK 2) SHU_CLK_MHZ 800).p (PWR_SHU 2) PWR_SHU_GATED 1)) : State).reaches (Agent.hpa) (PWR_SHU ((2 : Fin 16))) = true) ∧ ((0#32).getLsbD 31 = false) ∧ ((((((awake [3, 18]).p (PWR_SHU 2) PWR_SHU_MODE 1 |>.p (PWR_SHU 2) PWR_SHU_TARGET_MHZ 1200 |>.p (PWR_SHU 2) PWR_SHU_HI_PCT 80 |>.p (PWR_SHU 2) PWR_SHU_LO_PCT 40 |>.p (SHU_CLK 2) SHU_CLK_MHZ 800).p (PWR_SHU 2) PWR_SHU_GATED 1)) : State).gatedK ((2 : Fin 16)) = true) := by decide +kernel
theorem wit_PowerRailsClocksAndTemperature_selfRefreshRequest_c15 : (((awake [3]) : State).reaches (Agent.hpa) PWR_MEM = true) ∧ ((0x80000000#32).getLsbD 31 = true) ∧ (((awake [3]) : State).srActive = false) := by decide +kernel
theorem wit_PowerRailsClocksAndTemperature_selfRefreshRequest_c16 : ((((awake [3]).p PWR_MEM PWR_MEM_SR_ACTIVE 1) : State).reaches (Agent.hpa) PWR_MEM = true) ∧ ((0x80000000#32).getLsbD 31 = true) ∧ ((((awake [3]).p PWR_MEM PWR_MEM_SR_ACTIVE 1) : State).srActive = true) := by decide +kernel
theorem wit_PowerRailsClocksAndTemperature_selfRefreshExit_c17 : (((((awake [3]).p PWR_MEM PWR_MEM_SR_ACTIVE 1).p CLK_STATUS CLK_STATUS_COAST 1) : State).reaches (Agent.hpa) PWR_MEM = true) ∧ ((0#32).getLsbD 31 = false) ∧ (((((awake [3]).p PWR_MEM PWR_MEM_SR_ACTIVE 1).p CLK_STATUS CLK_STATUS_COAST 1) : State).tmp.srEntering = false) ∧ (((((awake [3]).p PWR_MEM PWR_MEM_SR_ACTIVE 1).p CLK_STATUS CLK_STATUS_COAST 1) : State).coasting = true) := by decide +kernel
theorem wit_PowerRailsClocksAndTemperature_selfRefreshExit_c18 : ((((awake [3]).p PWR_MEM PWR_MEM_SR_ACTIVE 1 |>.p (MEM_STATUS 3) MEM_STATUS_RANKS_PRESENT 3 |>.p (MEM_STATUS 3) MEM_STATUS_SELF_REFRESH 1) : State).reaches (Agent.hpa) PWR_MEM = true) ∧ ((0#32).getLsbD 31 = false) ∧ ((((awake [3]).p PWR_MEM PWR_MEM_SR_ACTIVE 1 |>.p (MEM_STATUS 3) MEM_STATUS_RANKS_PRESENT 3 |>.p (MEM_STATUS 3) MEM_STATUS_SELF_REFRESH 1) : State).tmp.srEntering = false) ∧ ((((awake [3]).p PWR_MEM PWR_MEM_SR_ACTIVE 1 |>.p (MEM_STATUS 3) MEM_STATUS_RANKS_PRESENT 3 |>.p (MEM_STATUS 3) MEM_STATUS_SELF_REFRESH 1) : State).coasting = false) := by decide +kernel
theorem wit_PowerRailsClocksAndTemperature_selfRefreshExit_c19 : ((({ awake [3] with tmp := { (awake []).tmp with srEntering := true } }) : State).reaches (Agent.hpa) PWR_MEM = true) ∧ ((0#32).getLsbD 31 = false) ∧ ((({ awake [3] with tmp := { (awake []).tmp with srEntering := true } }) : State).tmp.srEntering = true) := by decide +kernel
theorem wit_PowerRailsClocksAndTemperature_selfRefreshEntered_c20 : (({ (awake [3]).p (MEM_STATUS 3) MEM_STATUS_RANKS_PRESENT 3 with tmp := { (awake []).tmp with srEntering := true } } : State).tmp.srEntering = true) ∧ (({ (awake [3]).p (MEM_STATUS 3) MEM_STATUS_RANKS_PRESENT 3 with tmp := { (awake []).tmp with srEntering := true } } : State).g DRF_STATUS DRF_STATUS_STATE ≠ 4) ∧ ((({ (awake [3]).p (MEM_STATUS 3) MEM_STATUS_RANKS_PRESENT 3 with tmp := { (awake []).tmp with srEntering := true } } : State).tmp.srExit = false ∨ ({ (awake [3]).p (MEM_STATUS 3) MEM_STATUS_RANKS_PRESENT 3 with tmp := { (awake []).tmp with srEntering := true } } : State).coasting = true)) := by decide +kernel
theorem wit_PowerRailsClocksAndTemperature_selfRefreshEntered_c21 : (({ (awake [3]).p (MEM_STATUS 3) MEM_STATUS_RANKS_PRESENT 3 with tmp := { (awake []).tmp with srEntering := true, srExit := true } } : State).tmp.srEntering = true) ∧ (({ (awake [3]).p (MEM_STATUS 3) MEM_STATUS_RANKS_PRESENT 3 with tmp := { (awake []).tmp with srEntering := true, srExit := true } } : State).g DRF_STATUS DRF_STATUS_STATE ≠ 4) ∧ (({ (awake [3]).p (MEM_STATUS 3) MEM_STATUS_RANKS_PRESENT 3 with tmp := { (awake []).tmp with srEntering := true, srExit := true } } : State).tmp.srExit = true) ∧ (({ (awake [3]).p (MEM_STATUS 3) MEM_STATUS_RANKS_PRESENT 3 with tmp := { (awake []).tmp with srEntering := true, srExit := true } } : State).coasting = false) := by decide +kernel
theorem wit_PowerRailsClocksAndTemperature_selfRefreshEntered_c22 : ((({ (awake [3]).p DRF_STATUS DRF_STATUS_STATE 4 with tmp := { (awake []).tmp with srEntering := true } } : State).tmp.srEntering = false ∨ ({ (awake [3]).p DRF_STATUS DRF_STATUS_STATE 4 with tmp := { (awake []).tmp with srEntering := true } } : State).g DRF_STATUS DRF_STATUS_STATE = 4)) := by decide +kernel
theorem wit_PowerRailsClocksAndTemperature_thermalSample : ((([300, 1100] : List Int))[((1 : Fin 24)).val]? = some ((1100 : Int))) ∧ (-32768 ≤ median ((((1100 : Int)) :: ({ awake [3] with tmp := { (awake []).tmp with temps := [(1, [400, 1200, -5])] } } : State).tmp.temps.look ((1 : Fin 24))).take 3)) ∧ (median ((((1100 : Int)) :: ({ awake [3] with tmp := { (awake []).tmp with temps := [(1, [400, 1200, -5])] } } : State).tmp.temps.look ((1 : Fin 24))).take 3) < 32768) := by decide +kernel
theorem wit_PowerRailsClocksAndTemperature_thermalSample_w1 : ((([-300, -45] : List Int))[((0 : Fin 24)).val]? = some ((-300 : Int))) ∧ (-32768 ≤ median ((((-300 : Int)) :: ({ awake [3] with tmp := { (awake []).tmp with temps := [(1, [-40, -50, -5])] } } : State).tmp.temps.look ((0 : Fin 24))).take 3)) ∧ (median ((((-300 : Int)) :: ({ awake [3] with tmp := { (awake []).tmp with temps := [(1, [-40, -50, -5])] } } : State).tmp.temps.look ((0 : Fin 24))).take 3) < 32768) := by decide +kernel
theorem wit_PowerRailsClocksAndTemperature_watchTrip_c25 : (((({ awake [4] with now := 10000000 } : State) |>.p (TMP_WATCH 20) TMP_WATCH_VALID 1 |>.p (TMP_WATCH 20) TMP_WATCH_COUNT 3 |>.p (TMP_WATCH 20) TMP_WATCH_ACT 1 |>.p (TMP_WATCH 20) TMP_WATCH_TRIPPED 0) : State).on (TMP_WATCH ((20 : Fin 64))) TMP_WATCH_VALID = true) ∧ (((({ awake [4] with now := 10000000 } : State) |>.p (TMP_WATCH 20) TMP_WATCH_VALID 1 |>.p (TMP_WATCH 20) TMP_WATCH_COUNT 3 |>.p (TMP_WATCH 20) TMP_WATCH_ACT 1 |>.p (TMP_WATCH 20) TMP_WATCH_TRIPPED 0) : State).on (TMP_WATCH ((20 : Fin 64))) TMP_WATCH_TRIPPED ≠ (true)) ∧ (atLeast1 (((({ awake [4] with now := 10000000 } : State) |>.p (TMP_WATCH 20) TMP_WATCH_VALID 1 |>.p (TMP_WATCH 20) TMP_WATCH_COUNT 3 |>.p (TMP_WATCH 20) TMP_WATCH_ACT 1 |>.p (TMP_WATCH 20) TMP_WATCH_TRIPPED 0) : State).g (TMP_WATCH ((20 : Fin 64))) TMP_WATCH_COUNT) ≤ ((3 : Nat))) ∧ (((({ awake [4] with now := 10000000 } : State) |>.p (TMP_WATCH 20) TMP_WATCH_VALID 1 |>.p (TMP_WATCH 20) TMP_WATCH_COUNT 3 |>.p (TMP_WATCH 20) TMP_WATCH_ACT 1 |>.p (TMP_WATCH 20) TMP_WATCH_TRIPPED 0) : State).watchDue ((20 : Fin 64)) = true) ∧ (((({ awake [4] with now := 10000000 } : State) |>.p (TMP_WATCH 20) TMP_WATCH_VALID 1 |>.p (TMP_WATCH 20) TMP_WATCH_COUNT 3 |>.p (TMP_WATCH 20) TMP_WATCH_ACT 1 |>.p (TMP_WATCH 20) TMP_WATCH_TRIPPED 0) : State).g (TMP_WATCH ((20 : Fin 64))) TMP_WATCH_ACT ≤ 1) := by decide +kernel
theorem wit_PowerRailsClocksAndTemperature_watchTrip_c25_w1 : (((({ awake [4] with now := 10000000 } : State) |>.p (TMP_WATCH 20) TMP_WATCH_VALID 1 |>.p (TMP_WATCH 20) TMP_WATCH_COUNT 3 |>.p (TMP_WATCH 20) TMP_WATCH_ACT 0 |>.p (TMP_WATCH 20) TMP_WATCH_TRIPPED 0) : State).on (TMP_WATCH ((20 : Fin 64))) TMP_WATCH_VALID = true) ∧ (((({ awake [4] with now := 10000000 } : State) |>.p (TMP_WATCH 20) TMP_WATCH_VALID 1 |>.p (TMP_WATCH 20) TMP_WATCH_COUNT 3 |>.p (TMP_WATCH 20) TMP_WATCH_ACT 0 |>.p (TMP_WATCH 20) TMP_WATCH_TRIPPED 0) : State).on (TMP_WATCH ((20 : Fin 64))) TMP_WATCH_TRIPPED ≠ (true)) ∧ (atLeast1 (((({ awake [4] with now := 10000000 } : State) |>.p (TMP_WATCH 20) TMP_WATCH_VALID 1 |>.p (TMP_WATCH 20) TMP_WATCH_COUNT 3 |>.p (TMP_WATCH 20) TMP_WATCH_ACT 0 |>.p (TMP_WATCH 20) TMP_WATCH_TRIPPED 0) : State).g (TMP_WATCH ((20 : Fin 64))) TMP_WATCH_COUNT) ≤ ((3 : Nat))) ∧ (((({ awake [4] with now := 10000000 } : State) |>.p (TMP_WATCH 20) TMP_WATCH_VALID 1 |>.p (TMP_WATCH 20) TMP_WATCH_COUNT 3 |>.p (TMP_WATCH 20) TMP_WATCH_ACT 0 |>.p (TMP_WATCH 20) TMP_WATCH_TRIPPED 0) : State).watchDue ((20 : Fin 64)) = true) ∧ (((({ awake [4] with now := 10000000 } : State) |>.p (TMP_WATCH 20) TMP_WATCH_VALID 1 |>.p (TMP_WATCH 20) TMP_WATCH_COUNT 3 |>.p (TMP_WATCH 20) TMP_WATCH_ACT 0 |>.p (TMP_WATCH 20) TMP_WATCH_TRIPPED 0) : State).g (TMP_WATCH ((20 : Fin 64))) TMP_WATCH_ACT ≤ 1) := by decide +kernel
theorem wit_PowerRailsClocksAndTemperature_watchTrip_c25_w2 : (((({ awake [4] with now := 10000000 } : State) |>.p (TMP_WATCH 20) TMP_WATCH_VALID 1 |>.p (TMP_WATCH 20) TMP_WATCH_COUNT 3 |>.p (TMP_WATCH 20) TMP_WATCH_ACT 1 |>.p (TMP_WATCH 20) TMP_WATCH_TRIPPED 1) : State).on (TMP_WATCH ((20 : Fin 64))) TMP_WATCH_VALID = true) ∧ (((({ awake [4] with now := 10000000 } : State) |>.p (TMP_WATCH 20) TMP_WATCH_VALID 1 |>.p (TMP_WATCH 20) TMP_WATCH_COUNT 3 |>.p (TMP_WATCH 20) TMP_WATCH_ACT 1 |>.p (TMP_WATCH 20) TMP_WATCH_TRIPPED 1) : State).on (TMP_WATCH ((20 : Fin 64))) TMP_WATCH_TRIPPED ≠ (false)) ∧ (atLeast1 (((({ awake [4] with now := 10000000 } : State) |>.p (TMP_WATCH 20) TMP_WATCH_VALID 1 |>.p (TMP_WATCH 20) TMP_WATCH_COUNT 3 |>.p (TMP_WATCH 20) TMP_WATCH_ACT 1 |>.p (TMP_WATCH 20) TMP_WATCH_TRIPPED 1) : State).g (TMP_WATCH ((20 : Fin 64))) TMP_WATCH_COUNT) ≤ ((3 : Nat))) ∧ (((({ awake [4] with now := 10000000 } : State) |>.p (TMP_WATCH 20) TMP_WATCH_VALID 1 |>.p (TMP_WATCH 20) TMP_WATCH_COUNT 3 |>.p (TMP_WATCH 20) TMP_WATCH_ACT 1 |>.p (TMP_WATCH 20) TMP_WATCH_TRIPPED 1) : State).watchDue ((20 : Fin 64)) = true) ∧ (((({ awake [4] with now := 10000000 } : State) |>.p (TMP_WATCH 20) TMP_WATCH_VALID 1 |>.p (TMP_WATCH 20) TMP_WATCH_COUNT 3 |>.p (TMP_WATCH 20) TMP_WATCH_ACT 1 |>.p (TMP_WATCH 20) TMP_WATCH_TRIPPED 1) : State).g (TMP_WATCH ((20 : Fin 64))) TMP_WATCH_ACT ≤ 1) := by decide +kernel
theorem wit_PowerRailsClocksAndTemperature_watchTrip_c26 : (((({ awake [4] with now := 10000000 } : State) |>.p (TMP_WATCH 20) TMP_WATCH_VALID 1 |>.p (TMP_WATCH 20) TMP_WATCH_COUNT 3 |>.p (TMP_WATCH 20) TMP_WATCH_ACT 2 |>.p (TMP_WATCH 20) TMP_WATCH_TRIPPED 1) : State).on (TMP_WATCH ((20 : Fin 64))) TMP_WATCH_VALID = true) ∧ (((({ awake [4] with now := 10000000 } : State) |>.p (TMP_WATCH 20) TMP_WATCH_VALID 1 |>.p (TMP_WATCH 20) TMP_WATCH_COUNT 3 |>.p (TMP_WATCH 20) TMP_WATCH_ACT 2 |>.p (TMP_WATCH 20) TMP_WATCH_TRIPPED 1) : State).on (TMP_WATCH ((20 : Fin 64))) TMP_WATCH_TRIPPED ≠ (false)) ∧ (atLeast1 (((({ awake [4] with now := 10000000 } : State) |>.p (TMP_WATCH 20) TMP_WATCH_VALID 1 |>.p (TMP_WATCH 20) TMP_WATCH_COUNT 3 |>.p (TMP_WATCH 20) TMP_WATCH_ACT 2 |>.p (TMP_WATCH 20) TMP_WATCH_TRIPPED 1) : State).g (TMP_WATCH ((20 : Fin 64))) TMP_WATCH_COUNT) ≤ ((3 : Nat))) ∧ (((({ awake [4] with now := 10000000 } : State) |>.p (TMP_WATCH 20) TMP_WATCH_VALID 1 |>.p (TMP_WATCH 20) TMP_WATCH_COUNT 3 |>.p (TMP_WATCH 20) TMP_WATCH_ACT 2 |>.p (TMP_WATCH 20) TMP_WATCH_TRIPPED 1) : State).watchDue ((20 : Fin 64)) = true) ∧ ((false) = false) ∧ (2 ≤ ((({ awake [4] with now := 10000000 } : State) |>.p (TMP_WATCH 20) TMP_WATCH_VALID 1 |>.p (TMP_WATCH 20) TMP_WATCH_COUNT 3 |>.p (TMP_WATCH 20) TMP_WATCH_ACT 2 |>.p (TMP_WATCH 20) TMP_WATCH_TRIPPED 1) : State).g (TMP_WATCH ((20 : Fin 64))) TMP_WATCH_ACT) := by decide +kernel
theorem wit_PowerRailsClocksAndTemperature_watchTrip_c26_w1 : (((({ awake [4] with now := 10000000 } : State) |>.p (TMP_WATCH 20) TMP_WATCH_QTY 20 |>.p (TMP_WATCH 20) TMP_WATCH_VALID 1 |>.p (TMP_WATCH 20) TMP_WATCH_COUNT 3 |>.p (TMP_WATCH 20) TMP_WATCH_ACT 3 |>.p (TMP_WATCH 20) TMP_WATCH_TRIPPED 1) : State).on (TMP_WATCH ((20 : Fin 64))) TMP_WATCH_VALID = true) ∧ (((({ awake [4] with now := 10000000 } : State) |>.p (TMP_WATCH 20) TMP_WATCH_QTY 20 |>.p (TMP_WATCH 20) TMP_WATCH_VALID 1 |>.p (TMP_WATCH 20) TMP_WATCH_COUNT 3 |>.p (TMP_WATCH 20) TMP_WATCH_ACT 3 |>.p (TMP_WATCH 20) TMP_WATCH_TRIPPED 1) : State).on (TMP_WATCH ((20 : Fin 64))) TMP_WATCH_TRIPPED ≠ (false)) ∧ (atLeast1 (((({ awake [4] with now := 10000000 } : State) |>.p (TMP_WATCH 20) TMP_WATCH_QTY 20 |>.p (TMP_WATCH 20) TMP_WATCH_VALID 1 |>.p (TMP_WATCH 20) TMP_WATCH_COUNT 3 |>.p (TMP_WATCH 20) TMP_WATCH_ACT 3 |>.p (TMP_WATCH 20) TMP_WATCH_TRIPPED 1) : State).g (TMP_WATCH ((20 : Fin 64))) TMP_WATCH_COUNT) ≤ ((3 : Nat))) ∧ (((({ awake [4] with now := 10000000 } : State) |>.p (TMP_WATCH 20) TMP_WATCH_QTY 20 |>.p (TMP_WATCH 20) TMP_WATCH_VALID 1 |>.p (TMP_WATCH 20) TMP_WATCH_COUNT 3 |>.p (TMP_WATCH 20) TMP_WATCH_ACT 3 |>.p (TMP_WATCH 20) TMP_WATCH_TRIPPED 1) : State).watchDue ((20 : Fin 64)) = true) ∧ ((false) = false) ∧ (2 ≤ ((({ awake [4] with now := 10000000 } : State) |>.p (TMP_WATCH 20) TMP_WATCH_QTY 20 |>.p (TMP_WATCH 20) TMP_WATCH_VALID 1 |>.p (TMP_WATCH 20) TMP_WATCH_COUNT 3 |>.p (TMP_WATCH 20) TMP_WATCH_ACT 3 |>.p (TMP_WATCH 20) TMP_WATCH_TRIPPED 1) : State).g (TMP_WATCH ((20 : Fin 64))) TMP_WATCH_ACT) := by decide +kernel
theorem wit_PowerRailsClocksAndTemperature_watchTrip_c27 : (((({ awake [4] with now := 10000000 } : State) |>.p (TMP_WATCH 20) TMP_WATCH_VALID 1 |>.p (TMP_WATCH 20) TMP_WATCH_COUNT 3 |>.p (TMP_WATCH 20) TMP_WATCH_ACT 2 |>.p (TMP_WATCH 20) TMP_WATCH_TRIPPED 0) : State).on (TMP_WATCH ((20 : Fin 64))) TMP_WATCH_VALID = true) ∧ (((({ awake [4] with now := 10000000 } : State) |>.p (TMP_WATCH 20) TMP_WATCH_VALID 1 |>.p (TMP_WATCH 20) TMP_WATCH_COUNT 3 |>.p (TMP_WATCH 20) TMP_WATCH_ACT 2 |>.p (TMP_WATCH 20) TMP_WATCH_TRIPPED 0) : State).on (TMP_WATCH ((20 : Fin 64))) TMP_WATCH_TRIPPED ≠ (true)) ∧ (atLeast1 (((({ awake [4] with now := 10000000 } : State) |>.p (TMP_WATCH 20) TMP_WATCH_VALID 1 |>.p (TMP_WATCH 20) TMP_WATCH_COUNT 3 |>.p (TMP_WATCH 20) TMP_WATCH_ACT 2 |>.p (TMP_WATCH 20) TMP_WATCH_TRIPPED 0) : State).g (TMP_WATCH ((20 : Fin 64))) TMP_WATCH_COUNT) ≤ ((3 : Nat))) ∧ (((({ awake [4] with now := 10000000 } : State) |>.p (TMP_WATCH 20) TMP_WATCH_VALID 1 |>.p (TMP_WATCH 20) TMP_WATCH_COUNT 3 |>.p (TMP_WATCH 20) TMP_WATCH_ACT 2 |>.p (TMP_WATCH 20) TMP_WATCH_TRIPPED 0) : State).watchDue ((20 : Fin 64)) = true) ∧ ((true) = true) ∧ (2 ≤ ((({ awake [4] with now := 10000000 } : State) |>.p (TMP_WATCH 20) TMP_WATCH_VALID 1 |>.p (TMP_WATCH 20) TMP_WATCH_COUNT 3 |>.p (TMP_WATCH 20) TMP_WATCH_ACT 2 |>.p (TMP_WATCH 20) TMP_WATCH_TRIPPED 0) : State).g (TMP_WATCH ((20 : Fin 64))) TMP_WATCH_ACT) ∧ (((({ awake [4] with now := 10000000 } : State) |>.p (TMP_WATCH 20) TMP_WATCH_VALID 1 |>.p (TMP_WATCH 20) TMP_WATCH_COUNT 3 |>.p (TMP_WATCH 20) TMP_WATCH_ACT 2 |>.p (TMP_WATCH 20) TMP_WATCH_TRIPPED 0) : State).causeLive (watchClass (((({ awake [4] with now := 10000000 } : State) |>.p (TMP_WATCH 20) TMP_WATCH_VALID 1 |>.p (TMP_WATCH 20) TMP_WATCH_COUNT 3 |>.p (TMP_WATCH 20) TMP_WATCH_ACT 2 |>.p (TMP_WATCH 20) TMP_WATCH_TRIPPED 0) : State).g (TMP_WATCH ((20 : Fin 64))) TMP_WATCH_QTY)) = false) ∧ (((({ awake [4] with now := 10000000 } : State) |>.p (TMP_WATCH 20) TMP_WATCH_VALID 1 |>.p (TMP_WATCH 20) TMP_WATCH_COUNT 3 |>.p (TMP_WATCH 20) TMP_WATCH_ACT 2 |>.p (TMP_WATCH 20) TMP_WATCH_TRIPPED 0) : State).faultWaits (watchClass (((({ awake [4] with now := 10000000 } : State) |>.p (TMP_WATCH 20) TMP_WATCH_VALID 1 |>.p (TMP_WATCH 20) TMP_WATCH_COUNT 3 |>.p (TMP_WATCH 20) TMP_WATCH_ACT 2 |>.p (TMP_WATCH 20) TMP_WATCH_TRIPPED 0) : State).g (TMP_WATCH ((20 : Fin 64))) TMP_WATCH_QTY)) = false) := by decide +kernel
theorem wit_PowerRailsClocksAndTemperature_watchTrip_c27_w1 : (((({ awake [4] with now := 10000000 } : State) |>.p (TMP_WATCH 3) TMP_WATCH_VALID 1 |>.p (TMP_WATCH 3) TMP_WATCH_COUNT 3 |>.p (TMP_WATCH 3) TMP_WATCH_ACT 2 |>.p (TMP_WATCH 3) TMP_WATCH_TRIPPED 0) : State).on (TMP_WATCH ((3 : Fin 64))) TMP_WATCH_VALID = true) ∧ (((({ awake [4] with now := 10000000 } : State) |>.p (TMP_WATCH 3) TMP_WATCH_VALID 1 |>.p (TMP_WATCH 3) TMP_WATCH_COUNT 3 |>.p (TMP_WATCH 3) TMP_WATCH_ACT 2 |>.p (TMP_WATCH 3) TMP_WATCH_TRIPPED 0) : State).on (TMP_WATCH ((3 : Fin 64))) TMP_WATCH_TRIPPED ≠ (true)) ∧ (atLeast1 (((({ awake [4] with now := 10000000 } : State) |>.p (TMP_WATCH 3) TMP_WATCH_VALID 1 |>.p (TMP_WATCH 3) TMP_WATCH_COUNT 3 |>.p (TMP_WATCH 3) TMP_WATCH_ACT 2 |>.p (TMP_WATCH 3) TMP_WATCH_TRIPPED 0) : State).g (TMP_WATCH ((3 : Fin 64))) TMP_WATCH_COUNT) ≤ ((3 : Nat))) ∧ (((({ awake [4] with now := 10000000 } : State) |>.p (TMP_WATCH 3) TMP_WATCH_VALID 1 |>.p (TMP_WATCH 3) TMP_WATCH_COUNT 3 |>.p (TMP_WATCH 3) TMP_WATCH_ACT 2 |>.p (TMP_WATCH 3) TMP_WATCH_TRIPPED 0) : State).watchDue ((3 : Fin 64)) = true) ∧ ((true) = true) ∧ (2 ≤ ((({ awake [4] with now := 10000000 } : State) |>.p (TMP_WATCH 3) TMP_WATCH_VALID 1 |>.p (TMP_WATCH 3) TMP_WATCH_COUNT 3 |>.p (TMP_WATCH 3) TMP_WATCH_ACT 2 |>.p (TMP_WATCH 3) TMP_WATCH_TRIPPED 0) : State).g (TMP_WATCH ((3 : Fin 64))) TMP_WATCH_ACT) ∧ (((({ awake [4] with now := 10000000 } : State) |>.p (TMP_WATCH 3) TMP_WATCH_VALID 1 |>.p (TMP_WATCH 3) TMP_WATCH_COUNT 3 |>.p (TMP_WATCH 3) TMP_WATCH_ACT 2 |>.p (TMP_WATCH 3) TMP_WATCH_TRIPPED 0) : State).causeLive (watchClass (((({ awake [4] with now := 10000000 } : State) |>.p (TMP_WATCH 3) TMP_WATCH_VALID 1 |>.p (TMP_WATCH 3) TMP_WATCH_COUNT 3 |>.p (TMP_WATCH 3) TMP_WATCH_ACT 2 |>.p (TMP_WATCH 3) TMP_WATCH_TRIPPED 0) : State).g (TMP_WATCH ((3 : Fin 64))) TMP_WATCH_QTY)) = false) ∧ (((({ awake [4] with now := 10000000 } : State) |>.p (TMP_WATCH 3) TMP_WATCH_VALID 1 |>.p (TMP_WATCH 3) TMP_WATCH_COUNT 3 |>.p (TMP_WATCH 3) TMP_WATCH_ACT 2 |>.p (TMP_WATCH 3) TMP_WATCH_TRIPPED 0) : State).faultWaits (watchClass (((({ awake [4] with now := 10000000 } : State) |>.p (TMP_WATCH 3) TMP_WATCH_VALID 1 |>.p (TMP_WATCH 3) TMP_WATCH_COUNT 3 |>.p (TMP_WATCH 3) TMP_WATCH_ACT 2 |>.p (TMP_WATCH 3) TMP_WATCH_TRIPPED 0) : State).g (TMP_WATCH ((3 : Fin 64))) TMP_WATCH_QTY)) = false) := by decide +kernel
theorem wit_PowerRailsClocksAndTemperature_watchTrip_c27_w2 : (((({ awake [4] with now := 10000000 } : State) |>.p (TMP_WATCH 20) TMP_WATCH_QTY 20 |>.p (TMP_WATCH 20) TMP_WATCH_VALID 1 |>.p (TMP_WATCH 20) TMP_WATCH_COUNT 3 |>.p (TMP_WATCH 20) TMP_WATCH_ACT 3 |>.p (TMP_WATCH 20) TMP_WATCH_TRIPPED 0) : State).on (TMP_WATCH ((20 : Fin 64))) TMP_WATCH_VALID = true) ∧ (((({ awake [4] with now := 10000000 } : State) |>.p (TMP_WATCH 20) TMP_WATCH_QTY 20 |>.p (TMP_WATCH 20) TMP_WATCH_VALID 1 |>.p (TMP_WATCH 20) TMP_WATCH_COUNT 3 |>.p (TMP_WATCH 20) TMP_WATCH_ACT 3 |>.p (TMP_WATCH 20) TMP_WATCH_TRIPPED 0) : State).on (TMP_WATCH ((20 : Fin 64))) TMP_WATCH_TRIPPED ≠ (true)) ∧ (atLeast1 (((({ awake [4] with now := 10000000 } : State) |>.p (TMP_WATCH 20) TMP_WATCH_QTY 20 |>.p (TMP_WATCH 20) TMP_WATCH_VALID 1 |>.p (TMP_WATCH 20) TMP_WATCH_COUNT 3 |>.p (TMP_WATCH 20) TMP_WATCH_ACT 3 |>.p (TMP_WATCH 20) TMP_WATCH_TRIPPED 0) : State).g (TMP_WATCH ((20 : Fin 64))) TMP_WATCH_COUNT) ≤ ((3 : Nat))) ∧ (((({ awake [4] with now := 10000000 } : State) |>.p (TMP_WATCH 20) TMP_WATCH_QTY 20 |>.p (TMP_WATCH 20) TMP_WATCH_VALID 1 |>.p (TMP_WATCH 20) TMP_WATCH_COUNT 3 |>.p (TMP_WATCH 20) TMP_WATCH_ACT 3 |>.p (TMP_WATCH 20) TMP_WATCH_TRIPPED 0) : State).watchDue ((20 : Fin 64)) = true) ∧ ((true) = true) ∧ (2 ≤ ((({ awake [4] with now := 10000000 } : State) |>.p (TMP_WATCH 20) TMP_WATCH_QTY 20 |>.p (TMP_WATCH 20) TMP_WATCH_VALID 1 |>.p (TMP_WATCH 20) TMP_WATCH_COUNT 3 |>.p (TMP_WATCH 20) TMP_WATCH_ACT 3 |>.p (TMP_WATCH 20) TMP_WATCH_TRIPPED 0) : State).g (TMP_WATCH ((20 : Fin 64))) TMP_WATCH_ACT) ∧ (((({ awake [4] with now := 10000000 } : State) |>.p (TMP_WATCH 20) TMP_WATCH_QTY 20 |>.p (TMP_WATCH 20) TMP_WATCH_VALID 1 |>.p (TMP_WATCH 20) TMP_WATCH_COUNT 3 |>.p (TMP_WATCH 20) TMP_WATCH_ACT 3 |>.p (TMP_WATCH 20) TMP_WATCH_TRIPPED 0) : State).causeLive (watchClass (((({ awake [4] with now := 10000000 } : State) |>.p (TMP_WATCH 20) TMP_WATCH_QTY 20 |>.p (TMP_WATCH 20) TMP_WATCH_VALID 1 |>.p (TMP_WATCH 20) TMP_WATCH_COUNT 3 |>.p (TMP_WATCH 20) TMP_WATCH_ACT 3 |>.p (TMP_WATCH 20) TMP_WATCH_TRIPPED 0) : State).g (TMP_WATCH ((20 : Fin 64))) TMP_WATCH_QTY)) = false) ∧ (((({ awake [4] with now := 10000000 } : State) |>.p (TMP_WATCH 20) TMP_WATCH_QTY 20 |>.p (TMP_WATCH 20) TMP_WATCH_VALID 1 |>.p (TMP_WATCH 20) TMP_WATCH_COUNT 3 |>.p (TMP_WATCH 20) TMP_WATCH_ACT 3 |>.p (TMP_WATCH 20) TMP_WATCH_TRIPPED 0) : State).faultWaits (watchClass (((({ awake [4] with now := 10000000 } : State) |>.p (TMP_WATCH 20) TMP_WATCH_QTY 20 |>.p (TMP_WATCH 20) TMP_WATCH_VALID 1 |>.p (TMP_WATCH 20) TMP_WATCH_COUNT 3 |>.p (TMP_WATCH 20) TMP_WATCH_ACT 3 |>.p (TMP_WATCH 20) TMP_WATCH_TRIPPED 0) : State).g (TMP_WATCH ((20 : Fin 64))) TMP_WATCH_QTY)) = false) := by decide +kernel
theorem wit_PowerRailsClocksAndTemperature_watchTrip_c28 : (((({ awake [4] with now := 10000000 } : State) |>.setCause 0x30 true |>.p (TMP_WATCH 20) TMP_WATCH_VALID 1 |>.p (TMP_WATCH 20) TMP_WATCH_COUNT 3 |>.p (TMP_WATCH 20) TMP_WATCH_ACT 2 |>.p (TMP_WATCH 20) TMP_WATCH_TRIPPED 0) : State).on (TMP_WATCH ((20 : Fin 64))) TMP_WATCH_VALID = true) ∧ (((({ awake [4] with now := 10000000 } : State) |>.setCause 0x30 true |>.p (TMP_WATCH 20) TMP_WATCH_VALID 1 |>.p (TMP_WATCH 20) TMP_WATCH_COUNT 3 |>.p (TMP_WATCH 20) TMP_WATCH_ACT 2 |>.p (TMP_WATCH 20) TMP_WATCH_TRIPPED 0) : State).on (TMP_WATCH ((20 : Fin 64))) TMP_WATCH_TRIPPED ≠ (true)) ∧ (atLeast1 (((({ awake [4] with now := 10000000 } : State) |>.setCause 0x30 true |>.p (TMP_WATCH 20) TMP_WATCH_VALID 1 |>.p (TMP_WATCH 20) TMP_WATCH_COUNT 3 |>.p (TMP_WATCH 20) TMP_WATCH_ACT 2 |>.p (TMP_WATCH 20) TMP_WATCH_TRIPPED 0) : State).g (TMP_WATCH ((20 : Fin 64))) TMP_WATCH_COUNT) ≤ ((3 : Nat))) ∧ (((({ awake [4] with now := 10000000 } : State) |>.setCause 0x30 true |>.p (TMP_WATCH 20) TMP_WATCH_VALID 1 |>.p (TMP_WATCH 20) TMP_WATCH_COUNT 3 |>.p (TMP_WATCH 20) TMP_WATCH_ACT 2 |>.p (TMP_WATCH 20) TMP_WATCH_TRIPPED 0) : State).watchDue ((20 : Fin 64)) = true) ∧ ((true) = true) ∧ (2 ≤ ((({ awake [4] with now := 10000000 } : State) |>.setCause 0x30 true |>.p (TMP_WATCH 20) TMP_WATCH_VALID 1 |>.p (TMP_WATCH 20) TMP_WATCH_COUNT 3 |>.p (TMP_WATCH 20) TMP_WATCH_ACT 2 |>.p (TMP_WATCH 20) TMP_WATCH_TRIPPED 0) : State).g (TMP_WATCH ((20 : Fin 64))) TMP_WATCH_ACT) ∧ ((((({ awake [4] with now := 10000000 } : State) |>.setCause 0x30 true |>.p (TMP_WATCH 20) TMP_WATCH_VALID 1 |>.p (TMP_WATCH 20) TMP_WATCH_COUNT 3 |>.p (TMP_WATCH 20) TMP_WATCH_ACT 2 |>.p (TMP_WATCH 20) TMP_WATCH_TRIPPED 0) : State).causeLive (watchClass (((({ awake [4] with now := 10000000 } : State) |>.setCause 0x30 true |>.p (TMP_WATCH 20) TMP_WATCH_VALID 1 |>.p (TMP_WATCH 20) TMP_WATCH_COUNT 3 |>.p (TMP_WATCH 20) TMP_WATCH_ACT 2 |>.p (TMP_WATCH 20) TMP_WATCH_TRIPPED 0) : State).g (TMP_WATCH ((20 : Fin 64))) TMP_WATCH_QTY)) = true ∨ ((({ awake [4] with now := 10000000 } : State) |>.setCause 0x30 true |>.p (TMP_WATCH 20) TMP_WATCH_VALID 1 |>.p (TMP_WATCH 20) TMP_WATCH_COUNT 3 |>.p (TMP_WATCH 20) TMP_WATCH_ACT 2 |>.p (TMP_WATCH 20) TMP_WATCH_TRIPPED 0) : State).faultWaits (watchClass (((({ awake [4] with now := 10000000 } : State) |>.setCause 0x30 true |>.p (TMP_WATCH 20) TMP_WATCH_VALID 1 |>.p (TMP_WATCH 20) TMP_WATCH_COUNT 3 |>.p (TMP_WATCH 20) TMP_WATCH_ACT 2 |>.p (TMP_WATCH 20) TMP_WATCH_TRIPPED 0) : State).g (TMP_WATCH ((20 : Fin 64))) TMP_WATCH_QTY)) = true)) := by decide +kernel
theorem wit_PowerRailsClocksAndTemperature_watchTrip_c29 : ((((({ awake [4] with now := 10000000 } : State) |>.p (TMP_WATCH 20) TMP_WATCH_VALID 1 |>.p (TMP_WATCH 20) TMP_WATCH_COUNT 3 |>.p (TMP_WATCH 20) TMP_WATCH_ACT 2 |>.p (TMP_WATCH 20) TMP_WATCH_TRIPPED 0) : State).on (TMP_WATCH ((20 : Fin 64))) TMP_WATCH_VALID = false ∨ ((({ awake [4] with now := 10000000 } : State) |>.p (TMP_WATCH 20) TMP_WATCH_VALID 1 |>.p (TMP_WATCH 20) TMP_WATCH_COUNT 3 |>.p (TMP_WATCH 20) TMP_WATCH_ACT 2 |>.p (TMP_WATCH 20) TMP_WATCH_TRIPPED 0) : State).on (TMP_WATCH ((20 : Fin 64))) TMP_WATCH_TRIPPED = (true) ∨ ((2 : Nat)) < atLeast1 (((({ awake [4] with now := 10000000 } : State) |>.p (TMP_WATCH 20) TMP_WATCH_VALID 1 |>.p (TMP_WATCH 20) TMP_WATCH_COUNT 3 |>.p (TMP_WATCH 20) TMP_WATCH_ACT 2 |>.p (TMP_WATCH 20) TMP_WATCH_TRIPPED 0) : State).g (TMP_WATCH ((20 : Fin 64))) TMP_WATCH_COUNT) ∨ ((({ awake [4] with now := 10000000 } : State) |>.p (TMP_WATCH 20) TMP_WATCH_VALID 1 |>.p (TMP_WATCH 20) TMP_WATCH_COUNT 3 |>.p (TMP_WATCH 20) TMP_WATCH_ACT 2 |>.p (TMP_WATCH 20) TMP_WATCH_TRIPPED 0) : State).watchDue ((20 : Fin 64)) = false)) := by decide +kernel
theorem wit_PowerRailsClocksAndTemperature_watchTrip_c29_w1 : ((((({ awake [4] with now := 10000000 } : State) |>.p (TMP_WATCH 20) TMP_WATCH_QTY 12 |>.p (TMP_WATCH 20) TMP_WATCH_VALID 1 |>.p (TMP_WATCH 20) TMP_WATCH_COUNT 3 |>.p (TMP_WATCH 20) TMP_WATCH_ACT 2 |>.p (TMP_WATCH 20) TMP_WATCH_TRIPPED 0) : State).on (TMP_WATCH ((20 : Fin 64))) TMP_WATCH_VALID = false ∨ ((({ awake [4] with now := 10000000 } : State) |>.p (TMP_WATCH 20) TMP_WATCH_QTY 12 |>.p (TMP_WATCH 20) TMP_WATCH_VALID 1 |>.p (TMP_WATCH 20) TMP_WATCH_COUNT 3 |>.p (TMP_WATCH 20) TMP_WATCH_ACT 2 |>.p (TMP_WATCH 20) TMP_WATCH_TRIPPED 0) : State).on (TMP_WATCH ((20 : Fin 64))) TMP_WATCH_TRIPPED = (true) ∨ ((3 : Nat)) < atLeast1 (((({ awake [4] with now := 10000000 } : State) |>.p (TMP_WATCH 20) TMP_WATCH_QTY 12 |>.p (TMP_WATCH 20) TMP_WATCH_VALID 1 |>.p (TMP_WATCH 20) TMP_WATCH_COUNT 3 |>.p (TMP_WATCH 20) TMP_WATCH_ACT 2 |>.p (TMP_WATCH 20) TMP_WATCH_TRIPPED 0) : State).g (TMP_WATCH ((20 : Fin 64))) TMP_WATCH_COUNT) ∨ ((({ awake [4] with now := 10000000 } : State) |>.p (TMP_WATCH 20) TMP_WATCH_QTY 12 |>.p (TMP_WATCH 20) TMP_WATCH_VALID 1 |>.p (TMP_WATCH 20) TMP_WATCH_COUNT 3 |>.p (TMP_WATCH 20) TMP_WATCH_ACT 2 |>.p (TMP_WATCH 20) TMP_WATCH_TRIPPED 0) : State).watchDue ((20 : Fin 64)) = false)) := by decide +kernel

end Sys2Proof.Tests
end

section
/-! Proofs of the family "02 host interface": the words after a masked write, the bridge, the error register of the host
ports, and the obligations O7, O8, O11, O13, O15 and O16. -/
namespace Sys2Proof.Machine

-- ===== bits of words =====

/-- Bit `i` of the complement of a mask within 32 bits. -/
theorem testBit_compl32 {m i : Nat} (hm : m < 2 ^ 32) (hi : i < 32) : (0xFFFFFFFF - m).testBit i = !m.testBit i := by
  have h := Nat.testBit_two_pow_sub_succ hm i
  rw [show 0xFFFFFFFF - m = 2 ^ 32 - (m + 1) by omega, h, decide_eq_true hi, Bool.true_and]

theorem getLsbD_word {n i : Nat} (hi : i < 32) : (word n).getLsbD i = n.testBit i := by
  rw [word, BitVec.getLsbD_ofNat, decide_eq_true hi, Bool.true_and]

/-- A word that is masked out by `m` keeps the bits that `m` does not have. -/
theorem getLsbD_word_andNot (w : Word) {m : Nat} (hm : m < 2 ^ 32) (i : Nat) :
    (word (w.toNat &&& (0xFFFFFFFF - m))).getLsbD i = (w.getLsbD i && !m.testBit i) := by
  by_cases hi : i < 32
  · rw [getLsbD_word hi, Nat.testBit_and, testBit_compl32 hm hi, BitVec.testBit_toNat]
  · rw [BitVec.getLsbD_of_ge _ _ (by omega), BitVec.getLsbD_of_ge w _ (by omega), Bool.false_and]

/-- A field replaced in a word: its bits are those of the new value, the others stay. -/
theorem getLsbD_bset (x : Word) (lo w v : Nat) {i : Nat} (hi : i < 32) :
    (bset x lo w v).getLsbD i = if i < lo then x.getLsbD i else if i < lo + w then v.testBit (i - lo) else x.getLsbD i := by
  have hlow : x.toNat % 2 ^ lo < 2 ^ lo := Nat.mod_lt _ (Nat.two_pow_pos lo)
  have hmid : v % 2 ^ w < 2 ^ w := Nat.mod_lt _ (Nat.two_pow_pos w)
  have e : x.toNat % 2 ^ lo + v % 2 ^ w * 2 ^ lo + x.toNat / 2 ^ (lo + w) * 2 ^ (lo + w)
      = 2 ^ lo * (2 ^ w * (x.toNat / 2 ^ (lo + w)) + v % 2 ^ w) + x.toNat % 2 ^ lo := by
    rw [Nat.pow_add, Nat.mul_add]
    ac_rfl
  unfold bset
  rw [BitVec.getLsbD_ofNat, decide_eq_true hi, Bool.true_and, e, Nat.testBit_two_pow_mul_add _ hlow]
  split
  · next h => rw [Nat.testBit_mod_two_pow, decide_eq_true h, Bool.true_and, BitVec.testBit_toNat]
  · next h =>
    rw [Nat.testBit_two_pow_mul_add _ hmid]
    split
    · next h' => rw [Nat.testBit_mod_two_pow, decide_eq_true h', Bool.true_and, if_pos (by omega)]
    · next h' =>
      rw [if_neg (by omega), Nat.testBit_div_two_pow, BitVec.testBit_toNat]
      congr 1
      omega

/-- The bits of a field's value. -/
theorem testBit_bget (x : Word) (lo w i : Nat) : (bget x lo w).testBit i = (decide (i < w) && x.getLsbD (lo + i)) := by
  unfold bget
  rw [Nat.testBit_mod_two_pow, Nat.testBit_div_two_pow, BitVec.testBit_toNat, Nat.add_comm i lo]

/-- A field that is set reads as what was written, modulo its width. -/
theorem bget_bset (x : Word) {lo w : Nat} (v : Nat) (h : lo + w ≤ 32) : bget (bset x lo w v) lo w = v % 2 ^ w := by
  refine Nat.eq_of_testBit_eq fun i => ?_
  rw [testBit_bget, Nat.testBit_mod_two_pow]
  by_cases hi : i < w
  · rw [getLsbD_bset _ _ _ _ (by omega), if_neg (by omega), if_pos (by omega), Nat.add_sub_cancel_left]
  · rw [decide_eq_false hi, Bool.false_and, Bool.false_and]

/-- A field of one bit is not zero where the bit is set. -/
theorem bget_one_ne_zero {x : Word} {lo : Nat} (h : x.getLsbD lo = true) : bget x lo 1 ≠ 0 := by
  intro e
  have hb := testBit_bget x lo 1 0
  rw [e, Nat.zero_testBit, Nat.add_zero, h] at hb
  cases hb

-- ===== masked writes =====

/-- A masked write takes the written bits under the mask and keeps the others. -/
theorem State.getLsbD_rd_wrMask (s : State) (a : Nat) {m : Nat} (v : Word) (hm : m < 2 ^ 32) (i : Nat) :
    ((s.wrMask a m v).rd a).getLsbD i = if m.testBit i then v.getLsbD i else (s.rd a).getLsbD i := by
  unfold State.wrMask
  rw [State.rd_wr_same]
  by_cases hi : i < 32
  · rw [getLsbD_word hi, Nat.testBit_or, Nat.testBit_and, Nat.testBit_and, testBit_compl32 hm hi, BitVec.testBit_toNat,
      BitVec.testBit_toNat]
    cases m.testBit i <;> simp
  · rw [BitVec.getLsbD_of_ge _ _ (by omega), BitVec.getLsbD_of_ge v _ (by omega), BitVec.getLsbD_of_ge (s.rd a) _ (by omega), ite_self]

/-- A masked write under a full mask replaces the word. -/
theorem State.rd_wrMask_full (s : State) (a : Nat) (v : Word) : (s.wrMask a 0xFFFFFFFF v).rd a = v :=
  BitVec.eq_of_getLsbD_eq fun i hi => by
    rw [s.getLsbD_rd_wrMask a v (by decide) i, show (0xFFFFFFFF : Nat) = 2 ^ 32 - 1 from rfl, Nat.testBit_two_pow_sub_one,
      if_pos (decide_eq_true hi)]

theorem State.sameRegs_wr (s : State) (a : Nat) (v : Word) : SameRegs noReg [a] s (s.wr a v) :=
  fun _ hb _ => s.rd_wr_ne v (List.ne_of_not_mem_cons hb)

/-- Nothing is written but what `l` names where the register file is the same. -/
theorem sameRegs_of_regs {s t : State} (other : Nat → Bool) (l : List Nat) (e : t.regs = s.regs) : SameRegs other l s t :=
  fun b _ _ => State.rd_of_regs e b

theorem SameRegs.of_regs {other : Nat → Bool} {l : List Nat} {s t u : State} (h : SameRegs other l s t) (e : u.regs = t.regs) :
    SameRegs other l s u :=
  fun b hl ho => (State.rd_of_regs e b).trans (h b hl ho)

theorem SameParts.refl (l : List Part) (s : State) : SameParts l s s := (Kept.refl (Keep.but l) s).sameParts

theorem State.g_of_regs {s t : State} (e : t.regs = s.regs) (a : Nat) (f : Fld) : t.g a f = s.g a f := by
  unfold State.g
  rw [State.rd_of_regs e]

theorem State.on_of_regs {s t : State} (e : t.regs = s.regs) (a : Nat) (f : Fld) : t.on a f = s.on a f := by
  unfold State.on
  rw [State.g_of_regs e]

/-- A field that is set reads as what was written, modulo its width. -/
theorem State.g_p_same (s : State) (a : Nat) (f : Fld) (v : Nat) (h : f.lo + f.w ≤ 32) : (s.p a f v).g a f = v % 2 ^ f.w := by
  unfold State.g
  rw [State.rd_p_same, bget_bset _ _ h]

-- ===== the register map =====

theorem all_ite {α : Type} {c : Prop} [Decidable c] {p : α → Bool} {l m : List α} (hl : l.all p = true) (hm : m.all p = true) :
    (if c then l else m).all p = true := by
  split <;> assumption

/-- Every register of the map is a word of 32 bits: it has no writable bit beyond. -/
theorem famsAt_rw_lt (a : Nat) : (famsAt a).all (fun f => decide (f.rw < 2 ^ 32)) = true := by
  unfold famsAt
  repeat' with_reducible refine all_ite ?_ ?_
  all_goals decide +kernel

theorem rw_lt_of_famOf {a : Nat} {f : RegFam} (h : famOf a = some f) : f.rw < 2 ^ 32 :=
  of_decide_eq_true (List.all_eq_true.mp (famsAt_rw_lt a) f (List.mem_of_find?_eq_some h))

theorem rwBits_lt (a : Nat) : rwBits a < 2 ^ 32 := by
  unfold rwBits
  split
  · next f h => exact rw_lt_of_famOf h
  · decide

-- ===== the bridge =====

theorem State.reaches_iff (s : State) (ag : Agent) (off : Nat) :
    s.reaches ag off = true ↔
      s.linkUp ag = true ∧ blockOf off < 200 ∧ s.avail (blockOf off) = true ∧ (famOf off).isSome = true := by
  unfold State.reaches
  simp only [Bool.and_eq_true, decide_eq_true_eq, and_assoc]

/-- An offset that no register answers: in no block, or in an unused part of a block that answers (R51). -/
def State.Unmapped (s : State) (off : Nat) : Prop := 200 ≤ blockOf off ∨ (s.avail (blockOf off) = true ∧ famOf off = none)

/-- The block takes a write of an agent that reaches it. -/
theorem State.bus_of_reaches {s : State} {ag : Agent} {off : Nat} (h : s.reaches ag off = true) (k : State → State) :
    s.bus ag off k = k s := by
  obtain ⟨hl, hb, ha, hf⟩ := (s.reaches_iff ag off).mp h
  exact s.bridge_taken ag off k hl hb ha hf

/-- The block answers a read of an agent that reaches it. -/
theorem State.busRd_of_reaches {s : State} {ag : Agent} {off : Nat} (h : s.reaches ag off = true) (k : State → State × Word) :
    s.busRd ag off k = (k s).1.answer ag (k s).2 := by
  obtain ⟨hl, hb, ha, hf⟩ := (s.reaches_iff ag off).mp h
  have hn : (famOf off).isNone = false := by rw [← Option.not_isSome, hf]; rfl
  unfold State.busRd
  simp [hl, ha, hn, Nat.not_le.mpr hb]

theorem State.bridge_of_partial {s : State} {ag : Agent} {off be : Nat} (k : State → State) (hl : s.linkUp ag = true) (hbe : be ≠ 15) :
    s.bridge ag off be k = s.hpiErr HPI_ERR_PARTIAL (agCode ag) 0 off := by
  unfold State.bridge
  simp [hl, hbe]

theorem State.bus_of_unmapped {s : State} {ag : Agent} {off : Nat} (k : State → State) (hl : s.linkUp ag = true) (hu : s.Unmapped off) :
    s.bus ag off k = s.hpiErr HPI_ERR_UNMAPPED (agCode ag) 0 off := by
  unfold State.bus State.bridge
  rcases hu with hb | ⟨ha, hf⟩
  · simp [hl, hb]
  · simp [hl, ha, hf]

theorem State.busRd_of_unmapped {s : State} {ag : Agent} {off : Nat} (k : State → State × Word) (hl : s.linkUp ag = true)
    (hu : s.Unmapped off) : s.busRd ag off k = (s.hpiErr HPI_ERR_UNMAPPED (agCode ag) 0 off).answer ag 0 := by
  unfold State.busRd
  rcases hu with hb | ⟨ha, hf⟩
  · simp [hl, hb]
  · simp [hl, ha, hf]

@[simp] theorem State.lastRead_answer (s : State) (ag : Agent) (v : Word) : (s.answer ag v).lastRead ag = v := by
  unfold State.lastRead
  rw [State.answer_agents, Tab.look_upd_same]

/-- The access of an agent to a word of a family, with the indices of the word in it. -/
def RegFam.acc (f : RegFam) (ag : Agent) (off : Nat) (v : Word) : Acc :=
  ⟨ag, off, ((f.idxOf off).getD []).getD 0 0, ((f.idxOf off).getD []).getD 1 0, v⟩

/-- A register without a rule of its own is written by its access codes alone. -/
theorem State.write_of_no_route {s : State} {ag : Agent} {off : Nat} {f : RegFam} (v : Word) (hreach : s.reaches ag off = true)
    (hf : famOf off = some f) (hi : isIntEn off = false) (hr : (writeRoutes.map (·.1)).contains f.base = false) :
    s.write ag off 15 v = s.plainWrite f (f.acc ag off v) := by
  have hn : writeRoutes.find? (fun r => decide (r.1 = f.base)) = none := by
    refine List.find?_eq_none.mpr fun r hr' e => ?_
    have hc := List.contains_iff_mem.mpr (List.mem_map_of_mem (f := (·.1)) hr')
    rw [of_decide_eq_true e, hr] at hc
    cases hc
  refine (State.bus_of_reaches hreach _).trans ?_
  unfold State.regWrite
  simp only [hf, hi, hn]
  rfl

-- ===== the error register of the host ports =====

/-- An error bit of HPI_ERR: a field of one bit below the reserved byte. -/
abbrev Fld.IsHpiErrBit (f : Fld) : Prop := f.word = 0 ∧ f.w = 1 ∧ f.lo < 24

/-- An event of HPI_ERR sets its bit, outside a blanking window. -/
theorem State.getLsbD_rd_event {s : State} {a lo : Nat} (ha : a < 0x10000000) (hlo : lo < 24)
    (hb : (s.blks.look (blockOf a)).blanked = false) : ((s.event a (2 ^ lo)).rd a).getLsbD lo = true := by
  rw [s.rd_event_eq a _ ha hb, getLsbD_bset _ _ _ _ (by omega), if_pos hlo, BitVec.getLsbD_or, getLsbD_word (by omega),
    Nat.testBit_two_pow_self, Bool.or_true]

/-- Logging the address of an error leaves HPI_ERR as the event left it. -/
theorem State.rd_hpiErr (s : State) (f : Fld) (ag bar off : Nat) :
    (s.hpiErr f ag bar off).rd HPI_ERR = (s.ev HPI_ERR f).rd HPI_ERR := by
  unfold State.hpiErr
  extract_lets clear w
  split
  · exact w.rd_wr64_ne _ (by decide) (by decide)
  · rfl

/-- An error is noted in HPI_ERR, whatever beside the registers changes after it. -/
theorem State.hpiErr_noted {s t : State} {f : Fld} {ag bar off : Nat} (hf : f.IsHpiErrBit)
    (e : t.regs = (s.hpiErr f ag bar off).regs) : Noted s t HPI_ERR f := by
  obtain ⟨hword, hw, hlo⟩ := hf
  intro hb
  rw [hword] at hb
  rw [State.on_of_regs e]
  unfold State.on State.g
  rw [hword, hw, Nat.mul_zero, Nat.add_zero, s.rd_hpiErr]
  refine decide_eq_true (bget_one_ne_zero ?_)
  unfold State.ev
  rw [hword]
  exact State.getLsbD_rd_event (by decide) hlo hb

/-- The registers that an error may write (R58, R62). -/
def hpiErrReg (a : Nat) : Bool := irqReg a || decide (a ∈ [HPI_ERR, HPI_ERR_ADDR, HPI_ERR_ADDR + 4])

/-- An error writes HPI_ERR, the address of the first error, and what its interrupt may write. -/
theorem State.hpiErr_within (s : State) {f : Fld} (ag bar off : Nat) (hf : f.IsHpiErrBit) :
    Within hpiErrReg s (s.hpiErr f ag bar off) := by
  have hirq : TakesIrq hpiErrReg := fun a h => by unfold hpiErrReg; rw [h, Bool.true_or]
  have hev : Within hpiErrReg s (s.ev HPI_ERR f) :=
    State.ev_within hirq _ _ (by rw [hf.1]; decide) (Within.refl _ s)
  unfold State.hpiErr
  extract_lets clear w
  split
  · exact hev.wr64 _ (by decide) (by decide)
  · exact hev

/-- The frame of an error, whatever beside the registers changes after it. -/
theorem State.hpiErr_sameRegs {s t : State} {f : Fld} {ag bar off : Nat} (hf : f.IsHpiErrBit)
    (e : t.regs = (s.hpiErr f ag bar off).regs) : SameRegs irqReg [HPI_ERR, HPI_ERR_ADDR, HPI_ERR_ADDR + 4] s t :=
  ((s.hpiErr_within ag bar off hf).sameRegs).of_regs e

/-- An error changes no part but those of its event: interrupts, the present cycle, messages and the shuttles' latches. -/
theorem State.hpiErr_sameParts (s : State) (f : Fld) (ag bar off : Nat) :
    SameParts [.irq, .cyc, .msi, .shu] s (s.hpiErr f ag bar off) :=
  (State.hpiErr_kept s f ag bar off (Kept.refl (Keep.but [.irq, .cyc, .msi, .shu]) s) rfl rfl rfl rfl).sameParts

/-- What a refused access leaves behind: its error noted, and nothing else written. -/
theorem State.hpiErr_effect (s : State) {f : Fld} (ag bar off : Nat) (hf : f.IsHpiErrBit) :
    Noted s (s.hpiErr f ag bar off) HPI_ERR f ∧
      SameParts [.irq, .cyc, .msi, .shu] s (s.hpiErr f ag bar off) ∧
      SameRegs irqReg [HPI_ERR, HPI_ERR_ADDR, HPI_ERR_ADDR + 4] s (s.hpiErr f ag bar off) :=
  ⟨State.hpiErr_noted hf rfl, s.hpiErr_sameParts f ag bar off, State.hpiErr_sameRegs hf rfl⟩

-- ===== writes without a rule of their own (O7) =====

/-- Every row of a host write is one write of an aligned dword (R46). -/
theorem exec_registerWrite {off : Nat} (h : offOk off = true) (ag : Agent) (be : Fin 16) (v : Word) (s : State) :
    exec (.registerWrite ag off be v) s = .next (s.write ag off be v) := if_pos h

theorem exec_sqcWriteClear {off : Nat} (h : offOk off = true) (ag : Agent) (be : Fin 16) (v : Word) (s : State) :
    exec (.sqcWriteClear ag off be v) s = .next (s.write ag off be v) := if_pos h

theorem exec_readLoSnapshot {off : Nat} (h : offOk off = true) (ag : Agent) (s : State) :
    exec (.readLoSnapshot ag off) s = .next (s.read ag off) := if_pos h

/-- The access codes of a plain register replace its writable bits. -/
theorem State.plainWrite_of_plain (s : State) {f : RegFam} (x : Acc) (ha : f.agent = false) (hh : f.hmw = false) (hs : f.sqc = 0)
    (hp : f.pair = 0 ∨ f.rw = 0) : s.plainWrite f x = s.wrRW x.off x.v := by
  unfold State.plainWrite
  rcases hp with hp | hp <;> simp [ha, hh, hs, hp]

/-- Settles O7: through the bridge and past the routes a plain write is one masked write under the access codes. -/
theorem aPlainWriteReplacesTheWritableBits : Obligations.APlainWriteReplacesTheWritableBits := by
  refine ⟨?_, ?_, ?_⟩
  · intro ag off v f s hoff hreach hfam hagent hhmw hsqc hpair hen hroute
    have ht : s.write ag off 15 v = s.wrRW off v :=
      (State.write_of_no_route v hreach hfam hen hroute).trans (s.plainWrite_of_plain _ hagent hhmw hsqc hpair)
    refine ⟨s.wrRW off v, ?_, ?_, ?_, ?_⟩
    · exact (exec_registerWrite hoff ag 15 v s).trans (congrArg _ ht)
    · exact fun i => s.getLsbD_rd_wrMask off v (rwBits_lt off) i
    · exact (State.wrRW_kept s off v (Kept.refl (Keep.but []) s)).sameParts
    · exact s.sameRegs_wr off _
  · intro ag off be v s hoff hlink hbe
    refine ⟨_, (exec_registerWrite hoff ag be v s).trans (congrArg _ (State.bridge_of_partial _ hlink hbe)), ?_⟩
    exact s.hpiErr_effect (agCode ag) 0 off (by decide)
  · intro p s
    refine ⟨s.setLink p true, rfl, ?_, ?_, ?_⟩
    · cases p <;> rfl
    · exact (State.setLink_kept s p true (Kept.refl (Keep.but [.host]) s) rfl).sameParts
    · exact sameRegs_of_regs _ _ (by cases p <;> rfl)

/-- Settles O8: the bridge completes an unmapped access by itself and notes it in HPI_ERR. -/
theorem unmappedOffsetsReadZeroAndDropWrites : Obligations.UnmappedOffsetsReadZeroAndDropWrites := by
  refine ⟨?_, ?_⟩
  · intro ag off s hoff hlink hun
    refine ⟨_, (exec_readLoSnapshot hoff ag s).trans (congrArg _ (State.busRd_of_unmapped _ hlink hun)), ?_, ?_, ?_, ?_⟩
    · exact State.lastRead_answer _ ag 0
    · exact State.hpiErr_noted (by decide) rfl
    · exact (State.answer_kept _ ag 0
        (State.hpiErr_kept s _ _ _ _ (Kept.refl (Keep.but [.irq, .cyc, .msi, .shu, .agents]) s) rfl rfl rfl rfl) rfl).sameParts
    · exact State.hpiErr_sameRegs (by decide) rfl
  · intro ag off v s hoff hlink hun
    refine ⟨_, (exec_registerWrite hoff ag 15 v s).trans (congrArg _ (State.bus_of_unmapped _ hlink hun)), ?_⟩
    exact s.hpiErr_effect (agCode ag) 0 off (by decide)

-- ===== sequence-checked clears (O11) =====

theorem State.plainWrite_of_sqc (s : State) {f : RegFam} (x : Acc) (ha : f.agent = false) (hh : f.hmw = false) (hs : f.sqc ≠ 0) :
    s.plainWrite f x = s.wrSqc x.off f.rw f.sqc x.v := by
  unfold State.plainWrite
  simp [ha, hh, hs]

/-- The state after an accepted sequence-checked clear (R54). -/
def State.sqcCleared (s : State) (a rw sqc : Nat) (v : Word) : State :=
  ((s.noteClear a (v.toNat &&& sqc ||| rw)).wr a (word ((s.rd a).toNat &&& (0xFFFFFFFF - (v.toNat &&& sqc))))).wrMask a rw v

theorem State.wrSqc_of_current {s : State} {a : Nat} {v : Word} (rw sqc : Nat) (hv : bget v 24 8 = bget (s.rd a) 24 8)
    (he : s.cyc.ev.look a = false) : s.wrSqc a rw sqc v = s.sqcCleared a rw sqc v := by
  unfold State.wrSqc
  simp only [hv, he]
  rfl

/-- A clear under another number, or in the cycle of an event of the register, is refused whole (R54, R55). -/
theorem State.wrSqc_of_stale {s : State} {a : Nat} {v : Word} (rw sqc : Nat)
    (h : bget v 24 8 ≠ bget (s.rd a) 24 8 ∨ s.cyc.ev.look a = true) : s.wrSqc a rw sqc v = s := by
  unfold State.wrSqc
  rcases h with h | h <;> simp [h]

/-- An accepted clear: written bits replace, event bits written as 1 clear, the others stay. -/
theorem State.getLsbD_rd_sqcCleared (s : State) (a : Nat) {rw : Nat} (sqc : Nat) (v : Word) (hrw : rw < 2 ^ 32) (i : Nat) :
    ((s.sqcCleared a rw sqc v).rd a).getLsbD i
      = if rw.testBit i then v.getLsbD i else (s.rd a).getLsbD i && !(sqc.testBit i && v.getLsbD i) := by
  have hm : v.toNat &&& sqc < 2 ^ 32 := Nat.lt_of_le_of_lt Nat.and_le_left v.isLt
  unfold State.sqcCleared
  rw [State.getLsbD_rd_wrMask _ a v hrw i, State.rd_wr_same, getLsbD_word_andNot _ hm, Nat.testBit_and, BitVec.testBit_toNat,
    Bool.and_comm (v.getLsbD i)]

theorem State.sqcCleared_sameParts (s : State) (a rw sqc : Nat) (v : Word) : SameParts [.cyc] s (s.sqcCleared a rw sqc v) :=
  (State.wrMask_kept _ _ _ _ (State.wr_kept (State.noteClear_kept s _ _ (Kept.refl (Keep.but [.cyc]) s) rfl))).sameParts

theorem State.sqcCleared_sameRegs (s : State) (a rw sqc : Nat) (v : Word) : SameRegs noReg [a] s (s.sqcCleared a rw sqc v) := by
  intro b hb _
  have hne := List.ne_of_not_mem_cons hb
  exact (State.rd_wr_ne _ _ hne).trans ((State.rd_wr_ne _ _ hne).trans (s.rd_updCyc _ b))

/-- Settles O11: the write comes to the register's sequence check, which accepts or refuses it whole. -/
theorem aSequenceCheckedClearSeesTheNumber : Obligations.ASequenceCheckedClearSeesTheNumber := by
  refine ⟨?_, ?_⟩
  · intro ag off v f s hoff hreach hfam hagent hhmw hsqc hen hroute hnum hev
    have ht : s.write ag off 15 v = s.wrSqc off f.rw f.sqc v :=
      (State.write_of_no_route v hreach hfam hen hroute).trans (s.plainWrite_of_sqc _ hagent hhmw hsqc)
    refine ⟨s.sqcCleared off f.rw f.sqc v, ?_, ?_, ?_, ?_⟩
    · exact (exec_sqcWriteClear hoff ag 15 v s).trans (congrArg _ (ht.trans (State.wrSqc_of_current _ _ hnum hev)))
    · exact fun i => s.getLsbD_rd_sqcCleared off f.sqc v (rw_lt_of_famOf hfam) i
    · exact s.sqcCleared_sameParts off f.rw f.sqc v
    · exact s.sqcCleared_sameRegs off f.rw f.sqc v
  · intro ag off v f s hoff hreach hfam hagent hhmw hsqc hen hroute hstale
    have ht : s.write ag off 15 v = s.wrSqc off f.rw f.sqc v :=
      (State.write_of_no_route v hreach hfam hen hroute).trans (s.plainWrite_of_sqc _ hagent hhmw hsqc)
    refine ⟨s, ?_, rfl, SameParts.refl _ s, sameRegs_of_regs _ _ rfl⟩
    exact (exec_sqcWriteClear hoff ag 15 v s).trans (congrArg _ (ht.trans (State.wrSqc_of_stale _ _ hstale)))

-- ===== semaphores (O13) =====

theorem semCode_lt (ag : Agent) : semCode ag < 8 := by unfold semCode; omega

theorem State.semRead_of_free {s : State} {i : Nat} (ag : Agent) (h : s.g (HPI_SEM i) HPI_SEM_OWNER = 0) :
    s.semRead ag i = (s.p (HPI_SEM i) HPI_SEM_OWNER (semCode ag), word (256 + semCode ag)) := if_pos h

theorem State.semRead_of_owned {s : State} {i : Nat} (ag : Agent) (h : s.g (HPI_SEM i) HPI_SEM_OWNER ≠ 0) :
    s.semRead ag i = (s, word (s.g (HPI_SEM i) HPI_SEM_OWNER)) := if_neg h

theorem exec_semRead_of_reaches {s : State} {ag : Agent} {i : Fin 256} (h : s.reaches ag (HPI_SEM i) = true) :
    exec (.semRead ag i) s = .next ((s.semRead ag i).1.answer ag (s.semRead ag i).2) :=
  congrArg Host.Outcome.next (State.busRd_of_reaches h _)

theorem exec_semRelease_of_reaches {s : State} {ag : Agent} {i : Fin 256} (v : Word) (h : s.reaches ag (HPI_SEM i) = true) :
    exec (.semRelease ag i v) s = .next (s.semWrite ⟨ag, HPI_SEM i, i, 0, v⟩) :=
  congrArg Host.Outcome.next (State.bus_of_reaches h _)

theorem State.semWrite_of_nonzero (s : State) {x : Acc} (h : x.v ≠ 0) : s.semWrite x = s := if_pos h

theorem State.semWrite_of_owner {s : State} {x : Acc} (hv : x.v = 0) (h : s.g (HPI_SEM x.i) HPI_SEM_OWNER = semCode x.ag) :
    s.semWrite x = s.p (HPI_SEM x.i) HPI_SEM_OWNER 0 := (if_neg (not_not_intro hv)).trans (if_pos h)

theorem State.semWrite_of_foreign {s : State} {x : Acc} (hv : x.v = 0) (h : s.g (HPI_SEM x.i) HPI_SEM_OWNER ≠ semCode x.ag) :
    s.semWrite x = s.hpiErr HPI_ERR_SEM_FOREIGN (agCode x.ag) 0 x.off := (if_neg (not_not_intro hv)).trans (if_neg h)

/-- Settles O13: one case per branch of the semaphore's read and of its write. -/
theorem semaphoresBelongToTheirReader : Obligations.SemaphoresBelongToTheirReader := by
  refine ⟨?_, ?_, ?_, ?_, ?_⟩
  · intro ag i s hreach hfree
    have he := exec_semRead_of_reaches hreach
    rw [State.semRead_of_free ag hfree] at he
    refine ⟨_, he, ?_, State.lastRead_answer _ ag _, ?_, ?_⟩
    · rw [State.g_of_regs (State.answer_regs _ ag _), State.g_p_same _ _ _ _ (by decide)]
      exact Nat.mod_eq_of_lt (semCode_lt ag)
    · exact (State.answer_kept _ ag _ (State.p_kept s _ _ _ (Kept.refl (Keep.but [.agents]) s)) rfl).sameParts
    · exact (s.sameRegs_wr (HPI_SEM i) _).of_regs rfl
  · intro ag i s hreach howned
    have he := exec_semRead_of_reaches hreach
    rw [State.semRead_of_owned ag howned] at he
    refine ⟨_, he, State.lastRead_answer _ ag _, ?_, sameRegs_of_regs _ _ rfl⟩
    exact (State.answer_kept s ag _ (Kept.refl (Keep.but [.agents]) s) rfl).sameParts
  · intro ag i v s hreach hv howner
    refine ⟨_, (exec_semRelease_of_reaches v hreach).trans (congrArg _ (State.semWrite_of_owner hv howner)), ?_, ?_, ?_⟩
    · exact s.g_p_same _ _ 0 (by decide)
    · exact (State.p_kept s _ _ _ (Kept.refl (Keep.but []) s)).sameParts
    · exact s.sameRegs_wr (HPI_SEM i) _
  · intro ag i v s hreach hv hforeign
    refine ⟨_, (exec_semRelease_of_reaches v hreach).trans (congrArg _ (State.semWrite_of_foreign hv hforeign)), ?_⟩
    exact s.hpiErr_effect (agCode ag) 0 (HPI_SEM i) (by decide)
  · intro ag i v s hreach hv
    have hne : v ≠ 0 := by rintro rfl; exact hv (by decide)
    refine ⟨s, ?_, SameParts.refl _ s, sameRegs_of_regs _ _ rfl⟩
    exact (exec_semRelease_of_reaches v hreach).trans (congrArg _ (s.semWrite_of_nonzero hne))

-- ===== the DDR-5 window (O15, O16) =====

/-- Nothing answers at a DPA (R72): it lies beyond 4 TiB or in a hole, or DDR-5 takes no data. -/
def State.windowVoid (s : State) (a : Nat) : Bool := decide (2 ^ 42 ≤ a) || s.isHole a || !s.ddrUp

theorem State.windowVoid_of_there {s : State} {a : Nat} (hup : s.ddrUp = true) (hlt : a < 2 ^ 42) (hhole : s.isHole a = false) :
    s.windowVoid a = false := by
  unfold State.windowVoid
  rw [decide_eq_false (Nat.not_le.mpr hlt), hhole, hup]
  rfl

/-- DDR-5 that is not trained takes no data (R417). -/
theorem State.ddrUp_of_untrained {s : State} (h : s.ddrTrained = false) : s.ddrUp = false := by
  unfold State.ddrUp
  rw [h, Bool.false_and]

theorem State.windowVoid_of_not_there {s : State} {a : Nat} (h : 2 ^ 42 ≤ a ∨ s.isHole a = true ∨ s.ddrTrained = false) :
    s.windowVoid a = true := by
  unfold State.windowVoid
  rcases h with h | h | h
  · rw [decide_eq_true h, Bool.true_or, Bool.true_or]
  · rw [h, Bool.or_true, Bool.true_or]
  · rw [State.ddrUp_of_untrained h, Bool.not_false, Bool.or_true]

/-- A BAR2 access of a port whose link is up, by the cases of the window (R70, R72). -/
theorem State.bar2_of_up {s : State} {p : Port} (hl : s.linkUp (portAgent p) = true) (off : Nat) (wr : Option Byte) :
    s.bar2 p off wr =
      if s.windowVoid (s.bar2Dpa p off) then
        if wr.isNone then (s.hpiErr HPI_ERR_WIN_RANGE (portCode p) 1 off).bar2Answer p 0xFF
        else s.hpiErr HPI_ERR_WIN_RANGE (portCode p) 1 off
      else wr.elim (s.bar2Answer p (s.ddrRd (s.bar2Dpa p off))) fun v =>
        if s.deviceOwned (s.bar2Dpa p off) then s.hpiErr HPI_ERR_WIN_PROT (portCode p) 1 off else s.ddrWr (s.bar2Dpa p off) v := by
  unfold State.bar2 State.windowVoid
  simp only [hl, Bool.not_true, Bool.false_eq_true, if_false]
  cases wr <;> rfl

/-- The byte that a port's latest BAR2 read returned. -/
theorem State.bar2Answer_byte (s : State) (p : Port) (v : Byte) :
    (match p with | .hpa => (s.bar2Answer p v).host.bar2A | .hpb => (s.bar2Answer p v).host.bar2B) = v := by
  cases p <;> rfl

theorem State.bar2Answer_regs (s : State) (p : Port) (v : Byte) : (s.bar2Answer p v).regs = s.regs := by
  cases p <;> rfl

theorem State.bar2Answer_sameParts (s : State) (p : Port) (v : Byte) : SameParts [.host] s (s.bar2Answer p v) :=
  (State.bar2Answer_kept s p v (Kept.refl (Keep.but [.host]) s) rfl).sameParts

/-- A BAR2 read of a byte that is there returns it, device-owned or not. -/
theorem exec_bar2Access_read {s : State} {p : Port} {off : Fin 68719476736} (hl : s.linkUp (portAgent p) = true)
    (hv : s.windowVoid (s.bar2Dpa p off) = false) :
    exec (.bar2Access p off none) s = .next (s.bar2Answer p (s.ddrRd (s.bar2Dpa p off))) := by
  refine congrArg Host.Outcome.next ?_
  rw [State.bar2_of_up hl, hv]
  rfl

/-- A BAR2 write of a byte that is there replaces it, outside the device-owned regions. -/
theorem exec_bar2Access_write {s : State} {p : Port} {off : Fin 68719476736} (v : Byte) (hl : s.linkUp (portAgent p) = true)
    (hv : s.windowVoid (s.bar2Dpa p off) = false) (ho : s.deviceOwned (s.bar2Dpa p off) = false) :
    exec (.bar2Access p off (some v)) s = .next (s.ddrWr (s.bar2Dpa p off) v) := by
  refine congrArg Host.Outcome.next ?_
  rw [State.bar2_of_up hl, hv, Option.elim_some, ho]
  rfl

/-- A BAR2 write of a device-owned byte is dropped with its error. -/
theorem exec_bar2Access_write_owned {s : State} {p : Port} {off : Fin 68719476736} (v : Byte) (hl : s.linkUp (portAgent p) = true)
    (hv : s.windowVoid (s.bar2Dpa p off) = false) (ho : s.deviceOwned (s.bar2Dpa p off) = true) :
    exec (.bar2Access p off (some v)) s = .next (s.hpiErr HPI_ERR_WIN_PROT (portCode p) 1 off) := by
  refine congrArg Host.Outcome.next ?_
  rw [State.bar2_of_up hl, hv, Option.elim_some, ho]
  rfl

theorem exec_bar2Access_void {s : State} {p : Port} {off : Fin 68719476736} (wr : Option Byte) (hl : s.linkUp (portAgent p) = true)
    (hv : s.windowVoid (s.bar2Dpa p off) = true) :
    exec (.bar2Access p off wr) s =
      .next (if wr.isNone then (s.hpiErr HPI_ERR_WIN_RANGE (portCode p) 1 off).bar2Answer p 0xFF
        else s.hpiErr HPI_ERR_WIN_RANGE (portCode p) 1 off) := by
  refine congrArg Host.Outcome.next ?_
  rw [State.bar2_of_up hl, if_pos hv]

theorem State.ddrWr_sameParts (s : State) (a : Nat) (v : Byte) : SameParts [.ddr] s (s.ddrWr a v) :=
  (State.ddrWr_kept (Kept.refl (Keep.but [.ddr]) s) rfl).sameParts

/-- Every bit of a window register is writable. -/
theorem rwBits_hpiWin (p : Port) : rwBits (HPI_WIN (portCode p)) = 0xFFFFFFFF := by
  cases p <;> decide +kernel

theorem exec_hpiWinWrite_of_reaches {s : State} {ag : Agent} {p : Port} (v : Word) (h : s.reaches ag (HPI_WIN (portCode p)) = true) :
    exec (.hpiWinWrite ag p v) s = .next (s.wrRW (HPI_WIN (portCode p)) v) :=
  congrArg Host.Outcome.next (State.bus_of_reaches h _)

/-- Settles O15: the address is there, so the byte behind the window is read or written; the window moves by a plain write. -/
theorem theDdrWindowAddressesMemory : Obligations.TheDdrWindowAddressesMemory := by
  refine ⟨?_, ?_, ?_⟩
  · intro p off s hlink hup hlt hhole
    refine ⟨_, exec_bar2Access_read hlink (State.windowVoid_of_there hup hlt hhole), ?_, s.bar2Answer_sameParts p _, ?_⟩
    · exact s.bar2Answer_byte p _
    · exact sameRegs_of_regs _ _ (s.bar2Answer_regs p _)
  · intro p off v s hlink hup hlt hhole howned
    refine ⟨_, exec_bar2Access_write v hlink (State.windowVoid_of_there hup hlt hhole) howned, s.ddrRd_ddrWr_same _ v, ?_,
      s.ddrWr_sameParts _ v, sameRegs_of_regs _ _ rfl⟩
    exact fun b hb => s.ddrRd_ddrWr_ne v hb
  · intro ag p v s hreach
    refine ⟨_, exec_hpiWinWrite_of_reaches v hreach, ?_, ?_, s.sameRegs_wr _ _⟩
    · unfold State.wrRW State.g
      rw [rwBits_hpiWin]
      exact congrArg (bget · 0 12) (s.rd_wrMask_full _ v)
    · exact (State.wrRW_kept s _ v (Kept.refl (Keep.but []) s)).sameParts

/-- Settles O16: an access to what is not there and a write of what the device owns only note their error. -/
theorem theDdrWindowRefusesWhatIsNotThere : Obligations.TheDdrWindowRefusesWhatIsNotThere := by
  refine ⟨?_, ?_, ?_, ?_⟩
  · intro p off s hlink hnot
    refine ⟨_, exec_bar2Access_void none hlink (State.windowVoid_of_not_there hnot), ?_, ?_, ?_, ?_⟩
    · exact State.bar2Answer_byte _ p _
    · exact State.hpiErr_noted (by decide) (State.bar2Answer_regs _ p _)
    · exact (State.bar2Answer_kept _ p _
        (State.hpiErr_kept s _ _ _ _ (Kept.refl (Keep.but [.irq, .cyc, .msi, .shu, .host]) s) rfl rfl rfl rfl) rfl).sameParts
    · exact State.hpiErr_sameRegs (by decide) (State.bar2Answer_regs _ p _)
  · intro p off v s hlink hnot
    refine ⟨_, exec_bar2Access_void (some v) hlink (State.windowVoid_of_not_there hnot), ?_⟩
    exact s.hpiErr_effect (portCode p) 1 off (by decide)
  · intro p off v s hlink hup hlt hhole howned
    exact ⟨_, exec_bar2Access_write_owned v hlink (State.windowVoid_of_there hup hlt hhole) howned,
      s.hpiErr_effect (portCode p) 1 off (by decide)⟩
  · intro p off s hlink hup hlt hhole _
    refine ⟨_, exec_bar2Access_read hlink (State.windowVoid_of_there hup hlt hhole), ?_, s.bar2Answer_sameParts p _, ?_⟩
    · exact s.bar2Answer_byte p _
    · exact sameRegs_of_regs _ _ (s.bar2Answer_regs p _)

end Sys2Proof.Machine
end
